-- ==== Sys2Proof/Word.lean ====
section
/-!
DEFINITION. The words of the SV-6400: a register is 32 bits (chapter "About the SV-6400", "Registers"), memory is bytes.
-/

namespace Sys2Proof

/-- A register word. -/
abbrev Word := BitVec 32

/-- A byte of memory. -/
abbrev Byte := BitVec 8

/-- An Event Time instant or stamp: a 48-bit count of nanoseconds (R68). -/
abbrev ET := BitVec 48

end Sys2Proof
end

