-- ==== Sys2Proof/Machine/Bits.lean ====
section
/-!
DEFINITION. Bit fields, two's complement, saturation, byte order and the rational rounding the manual uses.
-/

namespace Sys2Proof

/-- Bits `lo + len - 1 : lo` of a number. -/
def bitsOf (w lo len : Nat) : Nat := w / 2 ^ lo % 2 ^ len

/-- The number `w` with bits `lo + len - 1 : lo` replaced by the low bits of `v`. -/
def putBits (w lo len v : Nat) : Nat :=
  w - bitsOf w lo len * 2 ^ lo + (v % 2 ^ len) * 2 ^ lo

/-- The mask of bits `hi : lo`. -/
def maskOf (hi lo : Nat) : Nat := (2 ^ (hi + 1 - lo) - 1) * 2 ^ lo

/-- A `len`-bit number read as two's complement. -/
def signed (len v : Nat) : Int :=
  let u := v % 2 ^ len
  if u < 2 ^ (len - 1) then (u : Int) else (u : Int) - (2 ^ len : Nat)

/-- An integer as a `len`-bit two's-complement number. -/
def unsign (len : Nat) (x : Int) : Nat := (x % ((2 ^ len : Nat) : Int)).toNat

/-- An integer clamped to `[-m, m]`. -/
def clampSym (m x : Int) : Int := max (-m) (min m x)

/-- An integer clamped to `[lo, hi]`. -/
def clampInt (lo hi x : Int) : Int := max lo (min hi x)

/-- An integer clamped to the range of a `len`-bit two's-complement number. -/
def satSigned (len : Nat) (x : Int) : Int := clampInt (-(2 ^ (len - 1) : Nat)) ((2 ^ (len - 1) : Nat) - 1) x

/-- The quotient rounded up. -/
def ceilDiv (a b : Nat) : Nat := (a + (b - 1)) / b

/-- The bytes of a number, least significant first. -/
def leBytes : Nat → Nat → List Byte
  | 0, _ => []
  | k + 1, v => BitVec.ofNat 8 v :: leBytes k (v / 256)

/-- The number whose bytes, least significant first, are given. -/
def leNat : List Byte → Nat
  | [] => 0
  | b :: bs => b.toNat + 256 * leNat bs

/-- The number whose bytes, most significant first, are given. -/
def beNat (bs : List Byte) : Nat := leNat bs.reverse

/-- The bytes of a number, most significant first. -/
def beBytes (k v : Nat) : List Byte := (leBytes k v).reverse

/-- One bit of a CRC with reflected polynomial `poly`. -/
def crcBit (poly c : Nat) : Nat := if c % 2 = 1 then (c / 2).xor poly else c / 2

/-- One byte of a reflected CRC. -/
def crcByte (poly c : Nat) (b : Byte) : Nat :=
  let c0 := c.xor b.toNat
  crcBit poly (crcBit poly (crcBit poly (crcBit poly (crcBit poly (crcBit poly (crcBit poly (crcBit poly c0)))))))

/-- CRC-32C (the Castagnoli polynomial) of a byte string, as R18 and the module records use it. -/
def crc32c (bs : List Byte) : Nat := (bs.foldl (crcByte 0x82F63B78) 0xFFFFFFFF).xor 0xFFFFFFFF

/-- The Ethernet CRC-32 of a byte string. -/
def crc32 (bs : List Byte) : Nat := (bs.foldl (crcByte 0xEDB88320) 0xFFFFFFFF).xor 0xFFFFFFFF

/-- The number of bits set in the low `len` bits. -/
def popCount : Nat → Nat → Nat
  | 0, _ => 0
  | k + 1, v => v % 2 + popCount k (v / 2)

/-- One bit of a number. -/
def bit (w n : Nat) : Bool := w / 2 ^ n % 2 == 1

/-- A truth value as a bit. -/
def b2n (b : Bool) : Nat := if b then 1 else 0

end Sys2Proof
end

