-- ==== Sys2Proof/Machine/RegNames.lean ====
section
/-!
DEFINITION. The names of the register space: the 26 register blocks of R30, every register of the register tables of
chapters 02 to 21, and the seven fault registers that R423 gives each block.  The names are the manual's own.
-/

namespace Sys2Proof

/-- The register blocks of R30, in ascending block index. -/
inductive Blk where
  | RST
  | CLK
  | PWR
  | BUS
  | CPU
  | VAULT
  | BIST
  | IDM
  | CAL
  | FWU
  | GPIO
  | TTB
  | REF
  | PTP
  | MGMT
  | LANE
  | SDI
  | MPORT
  | FLOW
  | XPT
  | CUE
  | AUD
  | WCOMP
  | WSCAN
  | HBM
  | ULINK
  deriving DecidableEq, Repr

/-- The block index of R30, which is also its interrupt source number (R348). -/
def Blk.index : Blk → Nat
  | .RST => 0x00
  | .CLK => 0x01
  | .PWR => 0x02
  | .BUS => 0x03
  | .CPU => 0x04
  | .VAULT => 0x05
  | .BIST => 0x06
  | .IDM => 0x07
  | .CAL => 0x08
  | .FWU => 0x09
  | .GPIO => 0x0A
  | .TTB => 0x0B
  | .REF => 0x0C
  | .PTP => 0x0D
  | .MGMT => 0x0E
  | .LANE => 0x10
  | .SDI => 0x11
  | .MPORT => 0x12
  | .FLOW => 0x13
  | .XPT => 0x14
  | .CUE => 0x15
  | .AUD => 0x16
  | .WCOMP => 0x17
  | .WSCAN => 0x18
  | .HBM => 0x19
  | .ULINK => 0x1A

/-- Every block, in ascending index. -/
def Blk.all : List Blk :=
  [.RST, .CLK, .PWR, .BUS, .CPU, .VAULT, .BIST, .IDM, .CAL, .FWU, .GPIO, .TTB, .REF, .PTP, .MGMT, .LANE, .SDI, .MPORT, .FLOW, .XPT, .CUE, .AUD, .WCOMP, .WSCAN, .HBM, .ULINK]

/-- Every register of the register tables, but for the fault registers of R423. -/
inductive RegName where
  -- RST (R422)
  | RST_CAUSE
  | RST_STAT
  | RST_SWRST
  | RST_WDT_CFG
  | RST_WDT_KICK
  | RST_WDT_STAT
  | RST_HEALTH
  | RST_LC_REQ
  | RST_POR_CNT
  | RST_SYS_CNT
  | RST_CORE_CNT
  | RST_CONF_CNT
  -- CLK (R401)
  | CLK_STAT
  | CLK_XTAL_PPM
  | CLK_DOM_RUN
  | CLK_SLEEP_CNT
  | CLK_PLL_START_CNT
  -- PWR (R402)
  | PWR_LEDGER
  | PWR_BIST_CAP
  | PWR_BIST_STAT
  | PWR_TJ
  | PWR_TJ_PEAK
  | PWR_THERM_CFG
  | PWR_THERM_STAT
  | PWR_CAP_HOLD_CNT
  | PWR_TEMP
  -- BUS (R360)
  | BUS_CFG
  | BUS_STAT
  | BUS_STALL_ABORT
  | BUS_FAULT_LAST
  | BUS_FAULT_ADDR_LO
  | BUS_FAULT_ADDR_HI
  | BUS_STALL_CNT
  | BUS_LOCK_TO_CNT
  | BUS_REG_ACCESS_CNT
  | BUS_DENY_CNT
  | BUS_STALL_ADDR_LO
  | BUS_STALL_ADDR_HI
  | BUS_WAIT_MAX
  | BUS_DMA_DESC_LO
  | BUS_DMA_DESC_HI
  | BUS_DMA_CTL
  | BUS_DMA_STAT
  | BUS_DMA_LEFT
  -- CPU (R361)
  | CPU_STAT
  | CPU_CORE_STAT
  | CPU_HART_BOOT_LO
  | CPU_HART_BOOT_HI
  | CPU_IRQ_EN_LO
  | CPU_IRQ_EN_HI
  | CPU_IRQ_PEND_LO
  | CPU_IRQ_PEND_HI
  | CPU_IRQ_NEXT
  | CPU_IPI
  | CPU_MTIMECMP_LO
  | CPU_MTIMECMP_HI
  | CPU_SUP_IRQ_EN_LO
  | CPU_SUP_IRQ_EN_HI
  | CPU_L2_MAINT
  | CPU_L2_ADDR_LO
  | CPU_L2_ADDR_HI
  | CPU_L2_ECC_CORR
  | CPU_SRAM_ECC_CORR
  | CPU_LOCKUP_CNT
  | CPU_HANDOVER_CNT
  -- VAULT (R460)
  | VAULT_CFG
  | VAULT_STAT
  | VAULT_CMD
  | VAULT_CMD_STAT
  | VAULT_REC
  | VAULT_HBM_ROWS
  | VAULT_ROT_CNT
  | VAULT_RETIRE_CNT
  | VAULT_ROW_CNT
  | VAULT_ROT
  | VAULT_THR_HOURS
  | VAULT_THR_ECC
  | VAULT_THR_VMIN
  | VAULT_LG_HRS
  | VAULT_LG_ECC
  | VAULT_LG_VMIN
  | VAULT_LG_BIST
  | VAULT_RETIRED
  -- BIST (R461)
  | BIST_CMD
  | BIST_CMD_STAT
  | BIST_STAT
  | BIST_LAST
  | BIST_LAST_DONE_LO
  | BIST_LAST_DONE_HI
  | BIST_LAST_EXP_LO
  | BIST_LAST_EXP_HI
  | BIST_LAST_SIG
  | BIST_LAST_SIG_EXP
  | BIST_PASS_CNT
  | BIST_FAIL_CNT
  | BIST_INC_CNT
  -- IDM (R386)
  | IDM_CFG
  | IDM_STRAP
  | IDM_NACK_CNT
  | IDM_STUCK_CNT
  | IDM_REC_FAIL_CNT
  | IDM_TILE_FAIL_CNT
  | IDM_TILE_LAST
  | IDM_CMD
  | IDM_ARG
  | IDM_STAT
  | IDM_BUF
  | IDM_SITE_CFG
  | IDM_SITE_STAT
  | IDM_TILE_FACT
  -- CAL (R387)
  | CAL_STAT
  | CAL_OSC
  | CAL_UID_LO
  | CAL_UID_HI
  | CAL_REPAIR
  | CAL_LANE_TXF
  | CAL_LANE_TXE
  | CAL_TS_F
  | CAL_TS_U
  -- FWU (R484)
  | FWU_CMD
  | FWU_CMD_STAT
  | FWU_ACT_AT_LO
  | FWU_ACT_AT_HI
  | FWU_SLOT_STAT
  | FWU_SLOT_RECV
  | FWU_SLOT_VER
  | FWU_RUN
  | FWU_PIECE_CNT
  | FWU_DUP_CNT
  | FWU_REFUSE_CNT
  | FWU_FALLBACK_CNT
  | FWU_PHDR
  | FWU_PBUF
  -- GPIO (R435)
  | GPIO_DIR
  | GPIO_OUT
  | GPIO_IN
  | GPIO_CUE
  | GPIO_ALERT_CFG
  | GPIO_ALERT_STAT
  -- TTB (R265)
  | TTB_CFG
  | TTB_STAT
  | TTB_STAGE_ARG
  | TTB_STAGE_AT_LO
  | TTB_STAGE_AT_HI
  | TTB_PEEK_ADDR
  | TTB_PEEK_DATA
  | TTB_CARD_WORD
  | TTB_TAKE_CNT
  | TTB_BUSY_CNT
  | TTB_WR_BAD_CNT
  -- REF (R58)
  | REF_SEL_STAT
  | REF_QL_MIN
  | REF_QL_FIXED
  | REF_MON_CFG
  | REF_DRIFT_CFG
  | REF_HOLD_CFG
  | REF_QUAL_TIME
  | REF_LOOP_CFG
  | REF_SRC_STAT
  | REF_SRC_OFFSET
  | REF_HOLD_FREQ
  | REF_PHASE_ERR
  | REF_DISAGREE_PAIR
  | REF_DISAGREE_OFS_X
  | REF_DISAGREE_OFS_Y
  | REF_REQUAL
  | REF_PPS_TAI_LO
  | REF_PPS_TAI_HI
  | REF_RELOCK_CNT
  | REF_HOLD_SECONDS
  | REF_OUT_CFG
  | REF_QLMAP
  | REF_TD_CFG
  | REF_TD_LINES
  | REF_TD_PHASE
  | REF_TD_STAT
  | REF_TD_FRAME
  | REF_TD_SHUTTER_LO
  | REF_TD_SHUTTER_HI
  -- PTP (R82)
  | PTP_ET_CFG
  | PTP_ET_STAT
  | PTP_ET_LO
  | PTP_ET_HI
  | PTP_TOD_SEC_LO
  | PTP_TOD_SEC_HI
  | PTP_TOD_NS
  | PTP_ET_RESID_LO
  | PTP_ET_RESID_HI
  | PTP_ET_STEP
  | PTP_DOM_CFG
  | PTP_DOM_INTV
  | PTP_SERVO_KP
  | PTP_SERVO_KI
  | PTP_SERVO_THR
  | PTP_SERVO_FMAX
  | PTP_DOM_STAT
  | PTP_DOM_OFFSET
  | PTP_DOM_MPD
  | PTP_DOM_FREQ
  | PTP_DOM_GM_LO
  | PTP_DOM_GM_HI
  | PTP_DOM_ANN
  | PTP_DOM_STEP_CNT
  | PTP_DOM_SYNC_CNT
  | PTP_DOM_LOST_CNT
  | PTP_DOM_SEC_LO
  | PTP_DOM_SEC_HI
  | PTP_DOM_NS
  | PTP_TILE_CFG
  | PTP_TILE_DREQ_DROP
  | PTP_TS_ADJ
  | PTP_TSQ_STAT
  | PTP_TSQ_TAG
  | PTP_TSQ_TS_LO
  | PTP_TSQ_TS_HI
  | PTP_TSQ_DROP
  -- MGMT (R372)
  | MGMT_CFG
  | MGMT_STAT
  | MGMT_IPV4
  | MGMT_RX_HEAD
  | MGMT_RX_TAIL
  | MGMT_TX_HEAD
  | MGMT_TX_TAIL
  | MGMT_ADDR_LO
  | MGMT_ADDR_HI
  | MGMT_RX_FCS
  | MGMT_RX_RUNT
  | MGMT_RX_OVERSIZE
  | MGMT_RX_ALIGN
  | MGMT_RX_FILTER
  | MGMT_RX_HOST_DROP
  | MGMT_RX_PAUSE
  | MGMT_TX_OVERSIZE
  | MGMT_RX_FRAMES_LO
  | MGMT_RX_FRAMES_HI
  | MGMT_TX_FRAMES_LO
  | MGMT_TX_FRAMES_HI
  -- LANE (R113)
  | LANE_CFG
  | LANE_TXEQ
  | LANE_RXEQ
  | LANE_STAT
  | LANE_EYE
  | LANE_LOS_CNT
  | LANE_QUAD_STAT
  | LANE_EYE_CFG
  | LANE_EYE_CLR
  -- SDI (R135)
  | SDI_RX_CFG
  | SDI_RX_CFG2
  | SDI_RX_AUD
  | SDI_RX_AUD2
  | SDI_RX_STAT
  | SDI_RX_PHASE
  | SDI_RX_PID
  | SDI_RX_PID2
  | SDI_RX_TRS_ERR
  | SDI_RX_LN_ERR
  | SDI_RX_CRC_ERR
  | SDI_RX_ANC_CS
  | SDI_RX_ANC_DROP
  | SDI_RX_AUD_ECC
  | SDI_RX_UNLOCK_CNT
  | SDI_RX_SKEW_CNT
  | SDI_TX_CFG
  | SDI_TX_CFG2
  | SDI_TX_AUD
  | SDI_TX_AUD2
  | SDI_TX_STAT
  | SDI_TX_PID
  | SDI_TX_ANC_DROP
  | SDI_TX_ANC_DEL
  -- MPORT (R165)
  | MPORT_CFG
  | MPORT_MAC_LO
  | MPORT_MAC_HI
  | MPORT_IPV4
  | MPORT_STAT
  | MPORT_TX_LOAD
  | MPORT_HRX_BASE_LO
  | MPORT_HRX_CFG
  | MPORT_HRX_HEAD
  | MPORT_HRX_TAIL
  | MPORT_HTX_BASE_LO
  | MPORT_HTX_CFG
  | MPORT_HTX_HEAD
  | MPORT_HTX_TAIL
  | MPORT_RX_FCS
  | MPORT_RX_RUNT
  | MPORT_RX_OVERSIZE
  | MPORT_RX_ALIGN
  | MPORT_RX_IP_ERR
  | MPORT_RX_FILTER
  | MPORT_RX_FLOW_DROP
  | MPORT_RX_HOST_DROP
  | MPORT_TX_OVERSIZE
  | MPORT_TX_PAUSE_DROP
  | MPORT_RX_FRAMES_LO
  | MPORT_RX_FRAMES_HI
  | MPORT_TX_FRAMES_LO
  | MPORT_TX_FRAMES_HI
  | MPORT_FEC_CORR
  | MPORT_FEC_UNCORR
  | MPORT_RXC_CFG
  | MPORT_RXC_DST
  | MPORT_RXC_CHK
  | MPORT_RXC_SSRC
  | MPORT_RXC_STAT
  | MPORT_RXC_PHASE
  | MPORT_RXC_LOSS
  | MPORT_RXC_LATE
  | MPORT_RXC_MALFORMED
  | MPORT_RXC_AUD
  | MPORT_RXC_UNLOCK_CNT
  | MPORT_RXC_SDI_ERR
  | MPORT_MRG_CFG
  | MPORT_MRG_DELAY
  | MPORT_MRG_BUF
  | MPORT_MRG_STAT
  | MPORT_MRG_SKEW
  | MPORT_MRG_LATE
  | MPORT_MRG_LOST
  | MPORT_MRG_LEADCHG
  | MPORT_TXC_CFG
  | MPORT_TXC_SRC
  | MPORT_TXC_DIP_A
  | MPORT_TXC_DIP_B
  | MPORT_TXC_UDP
  | MPORT_TXC_SSRC
  | MPORT_TXC_HDR
  | MPORT_TXC_PKT
  | MPORT_TXC_TRO
  | MPORT_TXC_WIRE
  | MPORT_TXC_STAT
  | MPORT_TXC_PKTS_LO
  | MPORT_TXC_PKTS_HI
  -- FLOW (R166)
  | FLOW_CFG
  | FLOW_STAT
  | FLOW_COUNT
  | FLOW_Q_DATA
  | FLOW_Q_CMD
  | FLOW_Q_STAT
  | FLOW_RES
  | FLOW_RES_DATA
  | FLOW_AGED
  | FLOW_HIT
  | FLOW_MISS
  | FLOW_INS_FULL
  | FLOW_AGED_CNT
  | FLOW_ECC_CORR
  | FLOW_ECC_UNCORR
  | FLOW_MOVES
  | FLOW_CMDQ_OVF
  -- XPT (R193)
  | XPT_CFG
  | XPT_STAT
  | XPT_CAP_A
  | XPT_CAP_B
  | XPT_LOAD_A_IN
  | XPT_LOAD_A_OUT
  | XPT_LOAD_B_IN
  | XPT_LOAD_B_OUT
  | XPT_STORE_A
  | XPT_STORE_B
  | XPT_OVL_EFF
  | XPT_HBM_LOAD
  | XPT_REFUSE_CNT
  | XPT_DEMOTE_CNT
  | XPT_REMOVE_CNT
  | XPT_MERGE_A_CNT
  | XPT_MERGE_B_CNT
  | XPT_MERGE_BOTH_CNT
  | XPT_CHECK_T_CNT
  | XPT_UNDERRUN_CNT
  | XPT_FS_REPEAT_CNT
  | XPT_FS_DROP_CNT
  | XPT_CHK_LAST
  | XPT_FS_STAT
  | XPT_FS_REGION
  | XPT_SLICE_STAT
  | XPT_SLICE_CHK
  | XPT_VIN_CFG
  | XPT_VIN_STAT
  | XPT_VIN_MMIN
  | XPT_VIN_MMAX
  | XPT_VOUT_CFG
  | XPT_ROUTE
  | XPT_ROUTE_LAT
  | XPT_VOUT_ROFF
  | XPT_VOUT_RHOLD
  | XPT_REFUSE
  | XPT_VOUT_BOTH
  -- CUE (R222)
  | CUE_CFG
  | CUE_STAT
  | CUE_PS_SWAP_LO
  | CUE_PS_SWAP_HI
  | CUE_PS_STAT
  | CUE_THR_CMD
  | CUE_TQ_W0
  | CUE_TQ_W1
  | CUE_TQ_W2
  | CUE_TQ_W3
  | CUE_TQ_STAT
  | CUE_TQ_FULL_CNT
  | CUE_TQ_NOOWNER_CNT
  | CUE_TQ_STALE_CNT
  | CUE_SUPERSEDE_CNT
  | CUE_BUDGET_OVER_CNT
  | CUE_FAULT_CNT
  | CUE_CGRP_HOLD_CNT
  | CUE_PS_REJECT_CNT
  | CUE_FAULT_LAST
  | CUE_SHARE
  | CUE_LOAD
  | CUE_LOAD_LIM
  | CUE_DOM_STAT
  | CUE_ENG_STAT
  | CUE_THR_CFG
  | CUE_THR_CFG2
  | CUE_THR_ENTRY
  | CUE_THR_NEXT
  | CUE_THR_STAT
  | CUE_THR_PC
  | CUE_THR_BOVER
  | CUE_THR_G
  -- AUD (R293)
  | AUD_CFG
  | AUD_STAT
  | AUD_PERIOD_LO
  | AUD_PERIOD_HI
  | AUD_CS_CAP_SEL
  | AUD_CS_CAP
  | AUD_SLIP_SINGLE_CNT
  | AUD_XFADE_CNT
  | AUD_RATE_MIS_CNT
  | AUD_SP_CFG
  | AUD_SP_CH
  | AUD_SP_MASK
  | AUD_SP_STAT
  | AUD_SP_PARITY
  | AUD_SP_CODE
  | AUD_SP_CRCC
  | AUD_SP_TXSLIP
  | AUD_ASRC_CFG
  | AUD_ASRC_STAT
  | AUD_ASRC_RATIO
  | AUD_ASRC_UNIT
  | AUD_CS_VAL
  | AUD_CS_MASK
  | AUD_AGRP_CFG
  | AUD_AGRP_STAT
  | AUD_AGRP_SLIP
  | AUD_AGRP_REP
  | AUD_AGRP_DROP
  | AUD_GRP_CFG
  | AUD_GRP_MASK_LO
  | AUD_GRP_MASK_HI
  | AUD_GRP_AZX
  | AUD_IN_STAT
  | AUD_OUT_STAT
  | AUD_OUT_GAIN
  | AUD_OUT_CS
  -- WCOMP (R317)
  | WCOMP_CFG
  | WCOMP_CANVAS
  | WCOMP_BAND
  | WCOMP_STAT
  | WCOMP_BG_R
  | WCOMP_BG_G
  | WCOMP_BG_B
  | WCOMP_CAP_CTL
  | WCOMP_CAP_BASE
  | WCOMP_CAP_STAT
  | WCOMP_HBM_RES
  | WCOMP_LATE_CNT
  | WCOMP_SL_ALT_CNT
  | WCOMP_PIPE_ERR_CNT
  | WCOMP_PIPE_CFG
  | WCOMP_PIPE_STAT
  | WCOMP_UNIT
  | WCOMP_PROF
  | WCOMP_PROF2
  | WCOMP_LAYER_CFG
  | WCOMP_LAYER_STAT
  | WCOMP_LAYER_POS
  | WCOMP_LAYER_SIZE
  | WCOMP_LAYER_CROP_POS
  | WCOMP_LAYER_CROP_SIZE
  | WCOMP_LAYER_SKIP
  | WCOMP_MAT
  | WCOMP_SL_PAGE
  | WCOMP_SL_PDIM
  | WCOMP_SL_LOCK
  | WCOMP_SL_STAT
  | WCOMP_SL_LUT
  | WCOMP_ENL_H
  | WCOMP_ENL_V
  | WCOMP_LUT
  -- WSCAN (R341)
  | WSCAN_CFG
  | WSCAN_STAT
  | WSCAN_SCAN_BASE
  | WSCAN_LC_BASE_A
  | WSCAN_LC_BASE_B
  | WSCAN_WM
  | WSCAN_THERM
  | WSCAN_FREEZE
  | WSCAN_CUR
  | WSCAN_OC_SEL
  | WSCAN_LOOP_CFG
  | WSCAN_HBM_RES
  | WSCAN_HOT_CNT
  | WSCAN_LC_ALT_CNT
  | WSCAN_UNMAPPED_CNT
  | WSCAN_IDREAD_FAIL_CNT
  | WSCAN_PORT_CFG
  | WSCAN_PORT_STAT
  | WSCAN_PORT_LOAD
  | WSCAN_PORT_UNDER
  | WSCAN_PORT_RXERR
  | WSCAN_REG_POS
  | WSCAN_REG_SIZE
  | WSCAN_REG_SIG
  | WSCAN_REG_STAT
  | WSCAN_LPROOF_SIG
  | WSCAN_LPROOF_STAT
  | WSCAN_TILE_CFG
  | WSCAN_TILE_DIM
  | WSCAN_TILE_ORG
  | WSCAN_TILE_LC
  | WSCAN_TILE_STAT
  | WSCAN_TILE_PTPOFS
  | WSCAN_TILE_PCC
  | WSCAN_TILE_UBLACK
  | WSCAN_TILE_HOT_CNT
  | WSCAN_TILE_SERIAL_LO
  | WSCAN_TILE_SERIAL_HI
  | WSCAN_TRIM
  | WSCAN_UTRIM
  | WSCAN_TARGET
  | WSCAN_SENSOR
  | WSCAN_OCURVE
  -- HBM (R440)
  | HBM_STAT
  | HBM_WAIT_MAX
  | HBM_ECC_LAST
  | HBM_ECC_CORR_CNT
  | HBM_ECC_UNCORR_CNT
  -- ULINK (R114)
  | ULINK_CFG
  | ULINK_STAT
  | ULINK_HOP_NS
  | ULINK_FEC_CORR
  | ULINK_FEC_UNCORR
  | ULINK_CELL_LOST
  | ULINK_LINE_CRC
  | ULINK_DOWN_CNT
  | ULINK_MARK_CNT
  | ULINK_TXA
  | ULINK_RXA
  | ULINK_MB_CTL
  | ULINK_LOAD
  | ULINK_ANC_DROP
  | ULINK_MB_TXBUF
  | ULINK_MB_RXBUF
  | ULINK_TXV
  | ULINK_RXV
  deriving DecidableEq, Repr

/-- The seven fault registers of a block, in the order of R423. -/
inductive FltReg where
  | FSTAT | FREAL | FLIVE | FEN | FFORCE | FESC_CFG | FESC_TIMER
  deriving DecidableEq, Repr

/-- A register of the register space: a register of a table, or a fault register of a block. -/
inductive Reg where
  | n (r : RegName)
  | flt (b : Blk) (k : FltReg)
  deriving DecidableEq, Repr

/-- The number of a register name, its place in the list of names. -/
def RegName.code (r : RegName) : Nat := r.ctorIdx

/-- The registers of block RST. -/
def RegName.ofRST : List RegName :=
  [.RST_CAUSE, .RST_STAT, .RST_SWRST, .RST_WDT_CFG, .RST_WDT_KICK, .RST_WDT_STAT, .RST_HEALTH, .RST_LC_REQ,
   .RST_POR_CNT, .RST_SYS_CNT, .RST_CORE_CNT, .RST_CONF_CNT]

/-- The registers of block CLK. -/
def RegName.ofCLK : List RegName :=
  [.CLK_STAT, .CLK_XTAL_PPM, .CLK_DOM_RUN, .CLK_SLEEP_CNT, .CLK_PLL_START_CNT]

/-- The registers of block PWR. -/
def RegName.ofPWR : List RegName :=
  [.PWR_LEDGER, .PWR_BIST_CAP, .PWR_BIST_STAT, .PWR_TJ, .PWR_TJ_PEAK, .PWR_THERM_CFG, .PWR_THERM_STAT, .PWR_CAP_HOLD_CNT,
   .PWR_TEMP]

/-- The registers of block BUS. -/
def RegName.ofBUS : List RegName :=
  [.BUS_CFG, .BUS_STAT, .BUS_STALL_ABORT, .BUS_FAULT_LAST, .BUS_FAULT_ADDR_LO, .BUS_FAULT_ADDR_HI, .BUS_STALL_CNT, .BUS_LOCK_TO_CNT,
   .BUS_REG_ACCESS_CNT, .BUS_DENY_CNT, .BUS_STALL_ADDR_LO, .BUS_STALL_ADDR_HI, .BUS_WAIT_MAX, .BUS_DMA_DESC_LO, .BUS_DMA_DESC_HI, .BUS_DMA_CTL,
   .BUS_DMA_STAT, .BUS_DMA_LEFT]

/-- The registers of block CPU. -/
def RegName.ofCPU : List RegName :=
  [.CPU_STAT, .CPU_CORE_STAT, .CPU_HART_BOOT_LO, .CPU_HART_BOOT_HI, .CPU_IRQ_EN_LO, .CPU_IRQ_EN_HI, .CPU_IRQ_PEND_LO, .CPU_IRQ_PEND_HI,
   .CPU_IRQ_NEXT, .CPU_IPI, .CPU_MTIMECMP_LO, .CPU_MTIMECMP_HI, .CPU_SUP_IRQ_EN_LO, .CPU_SUP_IRQ_EN_HI, .CPU_L2_MAINT, .CPU_L2_ADDR_LO,
   .CPU_L2_ADDR_HI, .CPU_L2_ECC_CORR, .CPU_SRAM_ECC_CORR, .CPU_LOCKUP_CNT, .CPU_HANDOVER_CNT]

/-- The registers of block VAULT. -/
def RegName.ofVAULT : List RegName :=
  [.VAULT_CFG, .VAULT_STAT, .VAULT_CMD, .VAULT_CMD_STAT, .VAULT_REC, .VAULT_HBM_ROWS, .VAULT_ROT_CNT, .VAULT_RETIRE_CNT,
   .VAULT_ROW_CNT, .VAULT_ROT, .VAULT_THR_HOURS, .VAULT_THR_ECC, .VAULT_THR_VMIN, .VAULT_LG_HRS, .VAULT_LG_ECC, .VAULT_LG_VMIN,
   .VAULT_LG_BIST, .VAULT_RETIRED]

/-- The registers of block BIST. -/
def RegName.ofBIST : List RegName :=
  [.BIST_CMD, .BIST_CMD_STAT, .BIST_STAT, .BIST_LAST, .BIST_LAST_DONE_LO, .BIST_LAST_DONE_HI, .BIST_LAST_EXP_LO, .BIST_LAST_EXP_HI,
   .BIST_LAST_SIG, .BIST_LAST_SIG_EXP, .BIST_PASS_CNT, .BIST_FAIL_CNT, .BIST_INC_CNT]

/-- The registers of block IDM. -/
def RegName.ofIDM : List RegName :=
  [.IDM_CFG, .IDM_STRAP, .IDM_NACK_CNT, .IDM_STUCK_CNT, .IDM_REC_FAIL_CNT, .IDM_TILE_FAIL_CNT, .IDM_TILE_LAST, .IDM_CMD,
   .IDM_ARG, .IDM_STAT, .IDM_BUF, .IDM_SITE_CFG, .IDM_SITE_STAT, .IDM_TILE_FACT]

/-- The registers of block CAL. -/
def RegName.ofCAL : List RegName :=
  [.CAL_STAT, .CAL_OSC, .CAL_UID_LO, .CAL_UID_HI, .CAL_REPAIR, .CAL_LANE_TXF, .CAL_LANE_TXE, .CAL_TS_F,
   .CAL_TS_U]

/-- The registers of block FWU. -/
def RegName.ofFWU : List RegName :=
  [.FWU_CMD, .FWU_CMD_STAT, .FWU_ACT_AT_LO, .FWU_ACT_AT_HI, .FWU_SLOT_STAT, .FWU_SLOT_RECV, .FWU_SLOT_VER, .FWU_RUN,
   .FWU_PIECE_CNT, .FWU_DUP_CNT, .FWU_REFUSE_CNT, .FWU_FALLBACK_CNT, .FWU_PHDR, .FWU_PBUF]

/-- The registers of block GPIO. -/
def RegName.ofGPIO : List RegName :=
  [.GPIO_DIR, .GPIO_OUT, .GPIO_IN, .GPIO_CUE, .GPIO_ALERT_CFG, .GPIO_ALERT_STAT]

/-- The registers of block TTB. -/
def RegName.ofTTB : List RegName :=
  [.TTB_CFG, .TTB_STAT, .TTB_STAGE_ARG, .TTB_STAGE_AT_LO, .TTB_STAGE_AT_HI, .TTB_PEEK_ADDR, .TTB_PEEK_DATA, .TTB_CARD_WORD,
   .TTB_TAKE_CNT, .TTB_BUSY_CNT, .TTB_WR_BAD_CNT]

/-- The registers of block REF. -/
def RegName.ofREF : List RegName :=
  [.REF_SEL_STAT, .REF_QL_MIN, .REF_QL_FIXED, .REF_MON_CFG, .REF_DRIFT_CFG, .REF_HOLD_CFG, .REF_QUAL_TIME, .REF_LOOP_CFG,
   .REF_SRC_STAT, .REF_SRC_OFFSET, .REF_HOLD_FREQ, .REF_PHASE_ERR, .REF_DISAGREE_PAIR, .REF_DISAGREE_OFS_X, .REF_DISAGREE_OFS_Y, .REF_REQUAL,
   .REF_PPS_TAI_LO, .REF_PPS_TAI_HI, .REF_RELOCK_CNT, .REF_HOLD_SECONDS, .REF_OUT_CFG, .REF_QLMAP, .REF_TD_CFG, .REF_TD_LINES,
   .REF_TD_PHASE, .REF_TD_STAT, .REF_TD_FRAME, .REF_TD_SHUTTER_LO, .REF_TD_SHUTTER_HI]

/-- The registers of block PTP. -/
def RegName.ofPTP : List RegName :=
  [.PTP_ET_CFG, .PTP_ET_STAT, .PTP_ET_LO, .PTP_ET_HI, .PTP_TOD_SEC_LO, .PTP_TOD_SEC_HI, .PTP_TOD_NS, .PTP_ET_RESID_LO,
   .PTP_ET_RESID_HI, .PTP_ET_STEP, .PTP_DOM_CFG, .PTP_DOM_INTV, .PTP_SERVO_KP, .PTP_SERVO_KI, .PTP_SERVO_THR, .PTP_SERVO_FMAX,
   .PTP_DOM_STAT, .PTP_DOM_OFFSET, .PTP_DOM_MPD, .PTP_DOM_FREQ, .PTP_DOM_GM_LO, .PTP_DOM_GM_HI, .PTP_DOM_ANN, .PTP_DOM_STEP_CNT,
   .PTP_DOM_SYNC_CNT, .PTP_DOM_LOST_CNT, .PTP_DOM_SEC_LO, .PTP_DOM_SEC_HI, .PTP_DOM_NS, .PTP_TILE_CFG, .PTP_TILE_DREQ_DROP, .PTP_TS_ADJ,
   .PTP_TSQ_STAT, .PTP_TSQ_TAG, .PTP_TSQ_TS_LO, .PTP_TSQ_TS_HI, .PTP_TSQ_DROP]

/-- The registers of block MGMT. -/
def RegName.ofMGMT : List RegName :=
  [.MGMT_CFG, .MGMT_STAT, .MGMT_IPV4, .MGMT_RX_HEAD, .MGMT_RX_TAIL, .MGMT_TX_HEAD, .MGMT_TX_TAIL, .MGMT_ADDR_LO,
   .MGMT_ADDR_HI, .MGMT_RX_FCS, .MGMT_RX_RUNT, .MGMT_RX_OVERSIZE, .MGMT_RX_ALIGN, .MGMT_RX_FILTER, .MGMT_RX_HOST_DROP, .MGMT_RX_PAUSE,
   .MGMT_TX_OVERSIZE, .MGMT_RX_FRAMES_LO, .MGMT_RX_FRAMES_HI, .MGMT_TX_FRAMES_LO, .MGMT_TX_FRAMES_HI]

/-- The registers of block LANE. -/
def RegName.ofLANE : List RegName :=
  [.LANE_CFG, .LANE_TXEQ, .LANE_RXEQ, .LANE_STAT, .LANE_EYE, .LANE_LOS_CNT, .LANE_QUAD_STAT, .LANE_EYE_CFG,
   .LANE_EYE_CLR]

/-- The registers of block SDI. -/
def RegName.ofSDI : List RegName :=
  [.SDI_RX_CFG, .SDI_RX_CFG2, .SDI_RX_AUD, .SDI_RX_AUD2, .SDI_RX_STAT, .SDI_RX_PHASE, .SDI_RX_PID, .SDI_RX_PID2,
   .SDI_RX_TRS_ERR, .SDI_RX_LN_ERR, .SDI_RX_CRC_ERR, .SDI_RX_ANC_CS, .SDI_RX_ANC_DROP, .SDI_RX_AUD_ECC, .SDI_RX_UNLOCK_CNT, .SDI_RX_SKEW_CNT,
   .SDI_TX_CFG, .SDI_TX_CFG2, .SDI_TX_AUD, .SDI_TX_AUD2, .SDI_TX_STAT, .SDI_TX_PID, .SDI_TX_ANC_DROP, .SDI_TX_ANC_DEL]

/-- The registers of block MPORT. -/
def RegName.ofMPORT : List RegName :=
  [.MPORT_CFG, .MPORT_MAC_LO, .MPORT_MAC_HI, .MPORT_IPV4, .MPORT_STAT, .MPORT_TX_LOAD, .MPORT_HRX_BASE_LO, .MPORT_HRX_CFG,
   .MPORT_HRX_HEAD, .MPORT_HRX_TAIL, .MPORT_HTX_BASE_LO, .MPORT_HTX_CFG, .MPORT_HTX_HEAD, .MPORT_HTX_TAIL, .MPORT_RX_FCS, .MPORT_RX_RUNT,
   .MPORT_RX_OVERSIZE, .MPORT_RX_ALIGN, .MPORT_RX_IP_ERR, .MPORT_RX_FILTER, .MPORT_RX_FLOW_DROP, .MPORT_RX_HOST_DROP, .MPORT_TX_OVERSIZE, .MPORT_TX_PAUSE_DROP,
   .MPORT_RX_FRAMES_LO, .MPORT_RX_FRAMES_HI, .MPORT_TX_FRAMES_LO, .MPORT_TX_FRAMES_HI, .MPORT_FEC_CORR, .MPORT_FEC_UNCORR, .MPORT_RXC_CFG, .MPORT_RXC_DST,
   .MPORT_RXC_CHK, .MPORT_RXC_SSRC, .MPORT_RXC_STAT, .MPORT_RXC_PHASE, .MPORT_RXC_LOSS, .MPORT_RXC_LATE, .MPORT_RXC_MALFORMED, .MPORT_RXC_AUD,
   .MPORT_RXC_UNLOCK_CNT, .MPORT_RXC_SDI_ERR, .MPORT_MRG_CFG, .MPORT_MRG_DELAY, .MPORT_MRG_BUF, .MPORT_MRG_STAT, .MPORT_MRG_SKEW, .MPORT_MRG_LATE,
   .MPORT_MRG_LOST, .MPORT_MRG_LEADCHG, .MPORT_TXC_CFG, .MPORT_TXC_SRC, .MPORT_TXC_DIP_A, .MPORT_TXC_DIP_B, .MPORT_TXC_UDP, .MPORT_TXC_SSRC,
   .MPORT_TXC_HDR, .MPORT_TXC_PKT, .MPORT_TXC_TRO, .MPORT_TXC_WIRE, .MPORT_TXC_STAT, .MPORT_TXC_PKTS_LO, .MPORT_TXC_PKTS_HI]

/-- The registers of block FLOW. -/
def RegName.ofFLOW : List RegName :=
  [.FLOW_CFG, .FLOW_STAT, .FLOW_COUNT, .FLOW_Q_DATA, .FLOW_Q_CMD, .FLOW_Q_STAT, .FLOW_RES, .FLOW_RES_DATA,
   .FLOW_AGED, .FLOW_HIT, .FLOW_MISS, .FLOW_INS_FULL, .FLOW_AGED_CNT, .FLOW_ECC_CORR, .FLOW_ECC_UNCORR, .FLOW_MOVES,
   .FLOW_CMDQ_OVF]

/-- The registers of block XPT. -/
def RegName.ofXPT : List RegName :=
  [.XPT_CFG, .XPT_STAT, .XPT_CAP_A, .XPT_CAP_B, .XPT_LOAD_A_IN, .XPT_LOAD_A_OUT, .XPT_LOAD_B_IN, .XPT_LOAD_B_OUT,
   .XPT_STORE_A, .XPT_STORE_B, .XPT_OVL_EFF, .XPT_HBM_LOAD, .XPT_REFUSE_CNT, .XPT_DEMOTE_CNT, .XPT_REMOVE_CNT, .XPT_MERGE_A_CNT,
   .XPT_MERGE_B_CNT, .XPT_MERGE_BOTH_CNT, .XPT_CHECK_T_CNT, .XPT_UNDERRUN_CNT, .XPT_FS_REPEAT_CNT, .XPT_FS_DROP_CNT, .XPT_CHK_LAST, .XPT_FS_STAT,
   .XPT_FS_REGION, .XPT_SLICE_STAT, .XPT_SLICE_CHK, .XPT_VIN_CFG, .XPT_VIN_STAT, .XPT_VIN_MMIN, .XPT_VIN_MMAX, .XPT_VOUT_CFG,
   .XPT_ROUTE, .XPT_ROUTE_LAT, .XPT_VOUT_ROFF, .XPT_VOUT_RHOLD, .XPT_REFUSE, .XPT_VOUT_BOTH]

/-- The registers of block CUE. -/
def RegName.ofCUE : List RegName :=
  [.CUE_CFG, .CUE_STAT, .CUE_PS_SWAP_LO, .CUE_PS_SWAP_HI, .CUE_PS_STAT, .CUE_THR_CMD, .CUE_TQ_W0, .CUE_TQ_W1,
   .CUE_TQ_W2, .CUE_TQ_W3, .CUE_TQ_STAT, .CUE_TQ_FULL_CNT, .CUE_TQ_NOOWNER_CNT, .CUE_TQ_STALE_CNT, .CUE_SUPERSEDE_CNT, .CUE_BUDGET_OVER_CNT,
   .CUE_FAULT_CNT, .CUE_CGRP_HOLD_CNT, .CUE_PS_REJECT_CNT, .CUE_FAULT_LAST, .CUE_SHARE, .CUE_LOAD, .CUE_LOAD_LIM, .CUE_DOM_STAT,
   .CUE_ENG_STAT, .CUE_THR_CFG, .CUE_THR_CFG2, .CUE_THR_ENTRY, .CUE_THR_NEXT, .CUE_THR_STAT, .CUE_THR_PC, .CUE_THR_BOVER,
   .CUE_THR_G]

/-- The registers of block AUD. -/
def RegName.ofAUD : List RegName :=
  [.AUD_CFG, .AUD_STAT, .AUD_PERIOD_LO, .AUD_PERIOD_HI, .AUD_CS_CAP_SEL, .AUD_CS_CAP, .AUD_SLIP_SINGLE_CNT, .AUD_XFADE_CNT,
   .AUD_RATE_MIS_CNT, .AUD_SP_CFG, .AUD_SP_CH, .AUD_SP_MASK, .AUD_SP_STAT, .AUD_SP_PARITY, .AUD_SP_CODE, .AUD_SP_CRCC,
   .AUD_SP_TXSLIP, .AUD_ASRC_CFG, .AUD_ASRC_STAT, .AUD_ASRC_RATIO, .AUD_ASRC_UNIT, .AUD_CS_VAL, .AUD_CS_MASK, .AUD_AGRP_CFG,
   .AUD_AGRP_STAT, .AUD_AGRP_SLIP, .AUD_AGRP_REP, .AUD_AGRP_DROP, .AUD_GRP_CFG, .AUD_GRP_MASK_LO, .AUD_GRP_MASK_HI, .AUD_GRP_AZX,
   .AUD_IN_STAT, .AUD_OUT_STAT, .AUD_OUT_GAIN, .AUD_OUT_CS]

/-- The registers of block WCOMP. -/
def RegName.ofWCOMP : List RegName :=
  [.WCOMP_CFG, .WCOMP_CANVAS, .WCOMP_BAND, .WCOMP_STAT, .WCOMP_BG_R, .WCOMP_BG_G, .WCOMP_BG_B, .WCOMP_CAP_CTL,
   .WCOMP_CAP_BASE, .WCOMP_CAP_STAT, .WCOMP_HBM_RES, .WCOMP_LATE_CNT, .WCOMP_SL_ALT_CNT, .WCOMP_PIPE_ERR_CNT, .WCOMP_PIPE_CFG, .WCOMP_PIPE_STAT,
   .WCOMP_UNIT, .WCOMP_PROF, .WCOMP_PROF2, .WCOMP_LAYER_CFG, .WCOMP_LAYER_STAT, .WCOMP_LAYER_POS, .WCOMP_LAYER_SIZE, .WCOMP_LAYER_CROP_POS,
   .WCOMP_LAYER_CROP_SIZE, .WCOMP_LAYER_SKIP, .WCOMP_MAT, .WCOMP_SL_PAGE, .WCOMP_SL_PDIM, .WCOMP_SL_LOCK, .WCOMP_SL_STAT, .WCOMP_SL_LUT,
   .WCOMP_ENL_H, .WCOMP_ENL_V, .WCOMP_LUT]

/-- The registers of block WSCAN. -/
def RegName.ofWSCAN : List RegName :=
  [.WSCAN_CFG, .WSCAN_STAT, .WSCAN_SCAN_BASE, .WSCAN_LC_BASE_A, .WSCAN_LC_BASE_B, .WSCAN_WM, .WSCAN_THERM, .WSCAN_FREEZE,
   .WSCAN_CUR, .WSCAN_OC_SEL, .WSCAN_LOOP_CFG, .WSCAN_HBM_RES, .WSCAN_HOT_CNT, .WSCAN_LC_ALT_CNT, .WSCAN_UNMAPPED_CNT, .WSCAN_IDREAD_FAIL_CNT,
   .WSCAN_PORT_CFG, .WSCAN_PORT_STAT, .WSCAN_PORT_LOAD, .WSCAN_PORT_UNDER, .WSCAN_PORT_RXERR, .WSCAN_REG_POS, .WSCAN_REG_SIZE, .WSCAN_REG_SIG,
   .WSCAN_REG_STAT, .WSCAN_LPROOF_SIG, .WSCAN_LPROOF_STAT, .WSCAN_TILE_CFG, .WSCAN_TILE_DIM, .WSCAN_TILE_ORG, .WSCAN_TILE_LC, .WSCAN_TILE_STAT,
   .WSCAN_TILE_PTPOFS, .WSCAN_TILE_PCC, .WSCAN_TILE_UBLACK, .WSCAN_TILE_HOT_CNT, .WSCAN_TILE_SERIAL_LO, .WSCAN_TILE_SERIAL_HI, .WSCAN_TRIM, .WSCAN_UTRIM,
   .WSCAN_TARGET, .WSCAN_SENSOR, .WSCAN_OCURVE]

/-- The registers of block HBM. -/
def RegName.ofHBM : List RegName :=
  [.HBM_STAT, .HBM_WAIT_MAX, .HBM_ECC_LAST, .HBM_ECC_CORR_CNT, .HBM_ECC_UNCORR_CNT]

/-- The registers of block ULINK. -/
def RegName.ofULINK : List RegName :=
  [.ULINK_CFG, .ULINK_STAT, .ULINK_HOP_NS, .ULINK_FEC_CORR, .ULINK_FEC_UNCORR, .ULINK_CELL_LOST, .ULINK_LINE_CRC, .ULINK_DOWN_CNT,
   .ULINK_MARK_CNT, .ULINK_TXA, .ULINK_RXA, .ULINK_MB_CTL, .ULINK_LOAD, .ULINK_ANC_DROP, .ULINK_MB_TXBUF, .ULINK_MB_RXBUF,
   .ULINK_TXV, .ULINK_RXV]

/-- The registers of a block, in ascending offset of their tables. -/
def RegName.ofBlk : Blk → List RegName
  | .RST => RegName.ofRST
  | .CLK => RegName.ofCLK
  | .PWR => RegName.ofPWR
  | .BUS => RegName.ofBUS
  | .CPU => RegName.ofCPU
  | .VAULT => RegName.ofVAULT
  | .BIST => RegName.ofBIST
  | .IDM => RegName.ofIDM
  | .CAL => RegName.ofCAL
  | .FWU => RegName.ofFWU
  | .GPIO => RegName.ofGPIO
  | .TTB => RegName.ofTTB
  | .REF => RegName.ofREF
  | .PTP => RegName.ofPTP
  | .MGMT => RegName.ofMGMT
  | .LANE => RegName.ofLANE
  | .SDI => RegName.ofSDI
  | .MPORT => RegName.ofMPORT
  | .FLOW => RegName.ofFLOW
  | .XPT => RegName.ofXPT
  | .CUE => RegName.ofCUE
  | .AUD => RegName.ofAUD
  | .WCOMP => RegName.ofWCOMP
  | .WSCAN => RegName.ofWSCAN
  | .HBM => RegName.ofHBM
  | .ULINK => RegName.ofULINK

/-- Every register name, in the order of `RegName.code`. -/
def RegName.all : List RegName :=
  RegName.ofRST ++ RegName.ofCLK ++ RegName.ofPWR ++ RegName.ofBUS ++ RegName.ofCPU ++ RegName.ofVAULT ++ RegName.ofBIST ++ RegName.ofIDM ++ RegName.ofCAL ++ RegName.ofFWU ++ RegName.ofGPIO ++ RegName.ofTTB ++ RegName.ofREF ++ RegName.ofPTP ++ RegName.ofMGMT ++ RegName.ofLANE ++ RegName.ofSDI ++ RegName.ofMPORT ++ RegName.ofFLOW ++ RegName.ofXPT ++ RegName.ofCUE ++ RegName.ofAUD ++ RegName.ofWCOMP ++ RegName.ofWSCAN ++ RegName.ofHBM ++ RegName.ofULINK

/-- The register name of a number. -/
def RegName.ofCode (c : Nat) : Option RegName := RegName.all[c]?

end Sys2Proof
end

