-- ==== Sys2Proof/Machine/RegTable.lean ====
section
/-!
DEFINITION. The register tables of chapters 02 to 21 as data: for each register its offset, its index dimensions, its
fields with type code (R2), reach (R4) and reset value.  Bits that no field lists are reserved (R3).
-/

namespace Sys2Proof

/-- The type codes of R2. -/
inductive FTy where
  | rw | ro | wo | w1c | w1s | rws
  deriving DecidableEq, Repr

/-- The reach codes of R4 and R517; `live` is the manual's dash. -/
inductive Reach where
  | p | s | c | live
  deriving DecidableEq, Repr

/-- What a write does beside the type codes: `counter` is an event counter of R6, `ctrLo` and `ctrHi` the halves of a
64-bit counter (R5, R6), `plain` any other register. -/
inductive RegKind where
  | plain | counter | ctrLo | ctrHi
  deriving DecidableEq, Repr

/-- One field of a register: bits `hi : lo`, its type code and its reach. -/
structure FieldInfo where
  hi : Nat
  lo : Nat
  ty : FTy
  reach : Reach
  deriving DecidableEq, Repr

/-- One register of a table. `off` is the offset in the block of element 0; `dims` gives for each index its number of
values and its stride in bytes; `reset` is the reset word of the fields whose Reset cell is one number for every element. -/
structure RegInfo where
  blk : Blk
  off : Nat
  dims : List (Nat × Nat)
  kind : RegKind
  reset : Nat
  fields : List FieldInfo
  deriving DecidableEq, Repr

/-- The table of block RST (R422). -/
def RegName.infoRST : RegName → Option RegInfo
  | .RST_CAUSE => some ⟨.RST, 0x0, [], .plain, 0x1, [⟨0, 0, .ro, .p⟩, ⟨1, 1, .ro, .p⟩, ⟨2, 2, .ro, .p⟩, ⟨3, 3, .ro, .p⟩, ⟨4, 4, .ro, .p⟩, ⟨5, 5, .ro, .p⟩, ⟨6, 6, .ro, .p⟩, ⟨7, 7, .ro, .p⟩, ⟨8, 8, .ro, .p⟩, ⟨9, 9, .ro, .p⟩, ⟨10, 10, .ro, .p⟩, ⟨11, 11, .ro, .p⟩, ⟨12, 12, .ro, .p⟩, ⟨13, 13, .ro, .p⟩, ⟨20, 16, .ro, .p⟩]⟩
  | .RST_STAT => some ⟨.RST, 0x4, [], .plain, 0x0, [⟨2, 0, .ro, .live⟩, ⟨3, 3, .ro, .live⟩, ⟨5, 4, .ro, .p⟩, ⟨6, 6, .ro, .live⟩, ⟨16, 8, .ro, .live⟩]⟩
  | .RST_SWRST => some ⟨.RST, 0x8, [], .plain, 0x0, [⟨1, 0, .wo, .live⟩, ⟨6, 4, .wo, .live⟩, ⟨15, 8, .wo, .live⟩]⟩
  | .RST_WDT_CFG => some ⟨.RST, 0xC, [], .plain, 0x27100001, [⟨0, 0, .rw, .c⟩, ⟨31, 16, .rw, .s⟩]⟩
  | .RST_WDT_KICK => some ⟨.RST, 0x10, [], .plain, 0x0, [⟨15, 0, .wo, .live⟩]⟩
  | .RST_WDT_STAT => some ⟨.RST, 0x14, [], .plain, 0x25800000, [⟨15, 0, .ro, .live⟩, ⟨16, 16, .ro, .live⟩, ⟨31, 20, .rw, .s⟩]⟩
  | .RST_HEALTH => some ⟨.RST, 0x18, [], .plain, 0x780000, [⟨0, 0, .w1s, .c⟩, ⟨27, 16, .rw, .s⟩]⟩
  | .RST_LC_REQ => some ⟨.RST, 0x1C, [], .plain, 0x0, [⟨2, 0, .rw, .s⟩, ⟨31, 6, .rw, .s⟩]⟩
  | .RST_POR_CNT => some ⟨.RST, 0x20, [], .plain, 0x0, [⟨31, 0, .ro, .p⟩]⟩
  | .RST_SYS_CNT => some ⟨.RST, 0x24, [], .counter, 0x0, [⟨31, 0, .rw, .p⟩]⟩
  | .RST_CORE_CNT => some ⟨.RST, 0x28, [], .counter, 0x0, [⟨31, 0, .rw, .p⟩]⟩
  | .RST_CONF_CNT => some ⟨.RST, 0x2C, [], .counter, 0x0, [⟨31, 0, .rw, .p⟩]⟩
  | _ => none

/-- The table of block CLK (R401). -/
def RegName.infoCLK : RegName → Option RegInfo
  | .CLK_STAT => some ⟨.CLK, 0x0, [], .plain, 0x0, [⟨0, 0, .ro, .live⟩, ⟨1, 1, .ro, .live⟩, ⟨2, 2, .ro, .live⟩]⟩
  | .CLK_XTAL_PPM => some ⟨.CLK, 0x4, [], .plain, 0x0, [⟨15, 0, .ro, .live⟩]⟩
  | .CLK_DOM_RUN => some ⟨.CLK, 0x10, [(6, 4)], .plain, 0x0, [⟨31, 0, .ro, .live⟩]⟩
  | .CLK_SLEEP_CNT => some ⟨.CLK, 0x30, [], .counter, 0x0, [⟨31, 0, .rw, .s⟩]⟩
  | .CLK_PLL_START_CNT => some ⟨.CLK, 0x34, [], .counter, 0x0, [⟨31, 0, .rw, .s⟩]⟩
  | _ => none

/-- The table of block PWR (R402). -/
def RegName.infoPWR : RegName → Option RegInfo
  | .PWR_LEDGER => some ⟨.PWR, 0x0, [], .plain, 0x0, [⟨11, 0, .ro, .live⟩]⟩
  | .PWR_BIST_CAP => some ⟨.PWR, 0x4, [], .plain, 0x960, [⟨11, 0, .rw, .s⟩]⟩
  | .PWR_BIST_STAT => some ⟨.PWR, 0x8, [], .plain, 0x0, [⟨7, 0, .ro, .live⟩, ⟨15, 8, .ro, .live⟩]⟩
  | .PWR_TJ => some ⟨.PWR, 0x10, [], .plain, 0x0, [⟨15, 0, .ro, .live⟩]⟩
  | .PWR_TJ_PEAK => some ⟨.PWR, 0x14, [], .plain, 0x8000, [⟨15, 0, .rw, .p⟩]⟩
  | .PWR_THERM_CFG => some ⟨.PWR, 0x18, [], .plain, 0x64, [⟨7, 0, .rw, .s⟩]⟩
  | .PWR_THERM_STAT => some ⟨.PWR, 0x1C, [], .plain, 0x0, [⟨0, 0, .ro, .live⟩, ⟨1, 1, .w1c, .p⟩, ⟨2, 2, .ro, .live⟩]⟩
  | .PWR_CAP_HOLD_CNT => some ⟨.PWR, 0x20, [], .counter, 0x0, [⟨31, 0, .rw, .s⟩]⟩
  | .PWR_TEMP => some ⟨.PWR, 0x100, [(16, 4)], .plain, 0x0, [⟨15, 0, .ro, .live⟩, ⟨16, 16, .ro, .live⟩]⟩
  | _ => none

/-- The table of block BUS (R360). -/
def RegName.infoBUS : RegName → Option RegInfo
  | .BUS_CFG => some ⟨.BUS, 0x0, [], .plain, 0x140100, [⟨11, 0, .rw, .s⟩, ⟨27, 16, .rw, .s⟩]⟩
  | .BUS_STAT => some ⟨.BUS, 0x4, [], .plain, 0x0, [⟨7, 0, .ro, .live⟩, ⟨12, 8, .ro, .live⟩]⟩
  | .BUS_STALL_ABORT => some ⟨.BUS, 0x8, [], .plain, 0x0, [⟨7, 0, .wo, .live⟩]⟩
  | .BUS_FAULT_LAST => some ⟨.BUS, 0xC, [], .plain, 0x0, [⟨2, 0, .ro, .s⟩, ⟨6, 4, .ro, .s⟩, ⟨8, 8, .ro, .s⟩]⟩
  | .BUS_FAULT_ADDR_LO => some ⟨.BUS, 0x10, [], .plain, 0x0, [⟨31, 0, .ro, .s⟩]⟩
  | .BUS_FAULT_ADDR_HI => some ⟨.BUS, 0x14, [], .plain, 0x0, [⟨7, 0, .ro, .s⟩]⟩
  | .BUS_STALL_CNT => some ⟨.BUS, 0x20, [], .counter, 0x0, [⟨31, 0, .rw, .s⟩]⟩
  | .BUS_LOCK_TO_CNT => some ⟨.BUS, 0x24, [], .counter, 0x0, [⟨31, 0, .rw, .s⟩]⟩
  | .BUS_REG_ACCESS_CNT => some ⟨.BUS, 0x28, [], .counter, 0x0, [⟨31, 0, .rw, .s⟩]⟩
  | .BUS_DENY_CNT => some ⟨.BUS, 0x2C, [], .counter, 0x0, [⟨31, 0, .rw, .s⟩]⟩
  | .BUS_STALL_ADDR_LO => some ⟨.BUS, 0x40, [(8, 8)], .plain, 0x0, [⟨31, 0, .ro, .live⟩]⟩
  | .BUS_STALL_ADDR_HI => some ⟨.BUS, 0x44, [(8, 8)], .plain, 0x0, [⟨7, 0, .ro, .live⟩]⟩
  | .BUS_WAIT_MAX => some ⟨.BUS, 0x80, [(8, 4)], .counter, 0x0, [⟨15, 0, .rw, .s⟩]⟩
  | .BUS_DMA_DESC_LO => some ⟨.BUS, 0x100, [(8, 32)], .plain, 0x0, [⟨31, 5, .rw, .c⟩]⟩
  | .BUS_DMA_DESC_HI => some ⟨.BUS, 0x104, [(8, 32)], .plain, 0x0, [⟨7, 0, .rw, .c⟩]⟩
  | .BUS_DMA_CTL => some ⟨.BUS, 0x108, [(8, 32)], .plain, 0x0, [⟨0, 0, .wo, .live⟩, ⟨1, 1, .wo, .live⟩]⟩
  | .BUS_DMA_STAT => some ⟨.BUS, 0x10C, [(8, 32)], .plain, 0x0, [⟨1, 0, .ro, .c⟩, ⟨5, 4, .ro, .c⟩]⟩
  | .BUS_DMA_LEFT => some ⟨.BUS, 0x110, [(8, 32)], .plain, 0x0, [⟨23, 0, .ro, .c⟩]⟩
  | _ => none

/-- The table of block CPU (R361). -/
def RegName.infoCPU : RegName → Option RegInfo
  | .CPU_STAT => some ⟨.CPU, 0x0, [], .plain, 0x10, [⟨3, 0, .ro, .live⟩, ⟨4, 4, .ro, .live⟩]⟩
  | .CPU_CORE_STAT => some ⟨.CPU, 0x10, [(5, 4)], .plain, 0x0, [⟨2, 0, .ro, .live⟩, ⟨5, 4, .ro, .live⟩, ⟨8, 8, .w1c, .s⟩, ⟨9, 9, .w1c, .s⟩]⟩
  | .CPU_HART_BOOT_LO => some ⟨.CPU, 0x40, [(4, 64)], .plain, 0x0, [⟨31, 2, .rw, .s⟩]⟩
  | .CPU_HART_BOOT_HI => some ⟨.CPU, 0x44, [(4, 64)], .plain, 0x0, [⟨7, 0, .rw, .s⟩]⟩
  | .CPU_IRQ_EN_LO => some ⟨.CPU, 0x48, [(4, 64)], .plain, 0x0, [⟨31, 0, .rw, .c⟩]⟩
  | .CPU_IRQ_EN_HI => some ⟨.CPU, 0x4C, [(4, 64)], .plain, 0x0, [⟨1, 0, .rw, .c⟩]⟩
  | .CPU_IRQ_PEND_LO => some ⟨.CPU, 0x50, [(4, 64)], .plain, 0x0, [⟨31, 0, .ro, .live⟩]⟩
  | .CPU_IRQ_PEND_HI => some ⟨.CPU, 0x54, [(4, 64)], .plain, 0x0, [⟨1, 0, .ro, .live⟩]⟩
  | .CPU_IRQ_NEXT => some ⟨.CPU, 0x58, [(4, 64)], .plain, 0xFF, [⟨7, 0, .ro, .live⟩]⟩
  | .CPU_IPI => some ⟨.CPU, 0x5C, [(4, 64)], .plain, 0x0, [⟨0, 0, .rw, .c⟩]⟩
  | .CPU_MTIMECMP_LO => some ⟨.CPU, 0x60, [(4, 64)], .plain, 0x0, [⟨31, 0, .rw, .c⟩]⟩
  | .CPU_MTIMECMP_HI => some ⟨.CPU, 0x64, [(4, 64)], .plain, 0x0, [⟨31, 0, .rw, .c⟩]⟩
  | .CPU_SUP_IRQ_EN_LO => some ⟨.CPU, 0x200, [], .plain, 0x0, [⟨31, 0, .rw, .p⟩]⟩
  | .CPU_SUP_IRQ_EN_HI => some ⟨.CPU, 0x204, [], .plain, 0x0, []⟩
  | .CPU_L2_MAINT => some ⟨.CPU, 0x210, [], .plain, 0x0, [⟨1, 0, .wo, .live⟩, ⟨23, 8, .wo, .live⟩, ⟨31, 31, .ro, .live⟩]⟩
  | .CPU_L2_ADDR_LO => some ⟨.CPU, 0x214, [], .plain, 0x0, [⟨31, 6, .rw, .s⟩]⟩
  | .CPU_L2_ADDR_HI => some ⟨.CPU, 0x218, [], .plain, 0x0, [⟨7, 0, .rw, .s⟩]⟩
  | .CPU_L2_ECC_CORR => some ⟨.CPU, 0x220, [], .counter, 0x0, [⟨31, 0, .rw, .s⟩]⟩
  | .CPU_SRAM_ECC_CORR => some ⟨.CPU, 0x224, [], .counter, 0x0, [⟨31, 0, .rw, .s⟩]⟩
  | .CPU_LOCKUP_CNT => some ⟨.CPU, 0x228, [], .counter, 0x0, [⟨31, 0, .rw, .s⟩]⟩
  | .CPU_HANDOVER_CNT => some ⟨.CPU, 0x22C, [], .counter, 0x0, [⟨31, 0, .rw, .s⟩]⟩
  | _ => none

/-- The table of block VAULT (R460). -/
def RegName.infoVAULT : RegName → Option RegInfo
  | .VAULT_CFG => some ⟨.VAULT, 0x0, [], .plain, 0x3C0010, [⟨15, 0, .rw, .s⟩, ⟨23, 16, .rw, .s⟩]⟩
  | .VAULT_STAT => some ⟨.VAULT, 0x4, [], .plain, 0x0, [⟨6, 0, .ro, .live⟩, ⟨8, 8, .ro, .live⟩]⟩
  | .VAULT_CMD => some ⟨.VAULT, 0x8, [], .plain, 0x0, [⟨1, 0, .wo, .live⟩, ⟨6, 4, .wo, .live⟩, ⟨7, 7, .wo, .live⟩, ⟨17, 8, .wo, .live⟩]⟩
  | .VAULT_CMD_STAT => some ⟨.VAULT, 0xC, [], .plain, 0x0, [⟨0, 0, .ro, .live⟩, ⟨3, 1, .ro, .s⟩]⟩
  | .VAULT_REC => some ⟨.VAULT, 0x10, [], .plain, 0x0, [⟨9, 0, .wo, .live⟩]⟩
  | .VAULT_HBM_ROWS => some ⟨.VAULT, 0x14, [], .plain, 0x0, [⟨15, 0, .ro, .live⟩, ⟨31, 16, .ro, .live⟩]⟩
  | .VAULT_ROT_CNT => some ⟨.VAULT, 0x18, [], .counter, 0x0, [⟨31, 0, .rw, .s⟩]⟩
  | .VAULT_RETIRE_CNT => some ⟨.VAULT, 0x1C, [], .counter, 0x0, [⟨31, 0, .rw, .s⟩]⟩
  | .VAULT_ROW_CNT => some ⟨.VAULT, 0x20, [], .counter, 0x0, [⟨31, 0, .rw, .s⟩]⟩
  | .VAULT_ROT => some ⟨.VAULT, 0x40, [(7, 4)], .plain, 0x0, [⟨15, 0, .rw, .s⟩, ⟨17, 16, .w1c, .s⟩]⟩
  | .VAULT_THR_HOURS => some ⟨.VAULT, 0x60, [(7, 16)], .plain, 0x0, [⟨19, 0, .rw, .s⟩]⟩
  | .VAULT_THR_ECC => some ⟨.VAULT, 0x64, [(7, 16)], .plain, 0x0, [⟨31, 0, .rw, .s⟩]⟩
  | .VAULT_THR_VMIN => some ⟨.VAULT, 0x68, [(7, 16)], .plain, 0xF, [⟨9, 0, .rw, .s⟩]⟩
  | .VAULT_LG_HRS => some ⟨.VAULT, 0x100, [(422, 16)], .plain, 0x0, [⟨19, 0, .ro, .p⟩, ⟨26, 24, .ro, .live⟩, ⟨31, 31, .w1c, .p⟩]⟩
  | .VAULT_LG_ECC => some ⟨.VAULT, 0x104, [(422, 16)], .plain, 0x0, [⟨31, 0, .ro, .p⟩]⟩
  | .VAULT_LG_VMIN => some ⟨.VAULT, 0x108, [(422, 16)], .plain, 0x3FF0000, [⟨9, 0, .ro, .p⟩, ⟨25, 16, .ro, .p⟩]⟩
  | .VAULT_LG_BIST => some ⟨.VAULT, 0x10C, [(422, 16)], .plain, 0x0, [⟨1, 0, .ro, .p⟩, ⟨15, 4, .ro, .p⟩, ⟨31, 16, .ro, .p⟩]⟩
  | .VAULT_RETIRED => some ⟨.VAULT, 0x2000, [(10, 4)], .plain, 0x0, [⟨31, 0, .ro, .live⟩]⟩
  | _ => none

/-- The table of block BIST (R461). -/
def RegName.infoBIST : RegName → Option RegInfo
  | .BIST_CMD => some ⟨.BIST, 0x0, [], .plain, 0x0, [⟨1, 0, .wo, .live⟩, ⟨13, 4, .wo, .live⟩]⟩
  | .BIST_CMD_STAT => some ⟨.BIST, 0x4, [], .plain, 0x0, [⟨2, 0, .ro, .s⟩]⟩
  | .BIST_STAT => some ⟨.BIST, 0x8, [], .plain, 0x0, [⟨0, 0, .ro, .s⟩, ⟨31, 14, .ro, .s⟩]⟩
  | .BIST_LAST => some ⟨.BIST, 0x10, [], .plain, 0x0, [⟨9, 0, .ro, .s⟩, ⟨13, 12, .ro, .s⟩, ⟨18, 16, .ro, .s⟩]⟩
  | .BIST_LAST_DONE_LO => some ⟨.BIST, 0x14, [], .plain, 0x0, [⟨31, 0, .ro, .s⟩]⟩
  | .BIST_LAST_DONE_HI => some ⟨.BIST, 0x18, [], .plain, 0x0, [⟨31, 0, .ro, .s⟩]⟩
  | .BIST_LAST_EXP_LO => some ⟨.BIST, 0x1C, [], .plain, 0x0, [⟨31, 0, .ro, .s⟩]⟩
  | .BIST_LAST_EXP_HI => some ⟨.BIST, 0x20, [], .plain, 0x0, [⟨31, 0, .ro, .s⟩]⟩
  | .BIST_LAST_SIG => some ⟨.BIST, 0x24, [], .plain, 0x0, [⟨31, 0, .ro, .s⟩]⟩
  | .BIST_LAST_SIG_EXP => some ⟨.BIST, 0x28, [], .plain, 0x0, [⟨31, 0, .ro, .s⟩]⟩
  | .BIST_PASS_CNT => some ⟨.BIST, 0x30, [], .counter, 0x0, [⟨31, 0, .rw, .s⟩]⟩
  | .BIST_FAIL_CNT => some ⟨.BIST, 0x34, [], .counter, 0x0, [⟨31, 0, .rw, .s⟩]⟩
  | .BIST_INC_CNT => some ⟨.BIST, 0x38, [], .counter, 0x0, [⟨31, 0, .rw, .s⟩]⟩
  | _ => none

/-- The table of block IDM (R386). -/
def RegName.infoIDM : RegName → Option RegInfo
  | .IDM_CFG => some ⟨.IDM, 0x0, [], .plain, 0x0, [⟨7, 0, .rw, .s⟩, ⟨8, 8, .rw, .s⟩]⟩
  | .IDM_STRAP => some ⟨.IDM, 0x4, [], .plain, 0x0, [⟨5, 0, .ro, .s⟩, ⟨6, 6, .ro, .s⟩, ⟨13, 8, .ro, .live⟩, ⟨14, 14, .ro, .live⟩]⟩
  | .IDM_NACK_CNT => some ⟨.IDM, 0x10, [], .counter, 0x0, [⟨31, 0, .rw, .s⟩]⟩
  | .IDM_STUCK_CNT => some ⟨.IDM, 0x14, [], .counter, 0x0, [⟨31, 0, .rw, .s⟩]⟩
  | .IDM_REC_FAIL_CNT => some ⟨.IDM, 0x18, [], .counter, 0x0, [⟨31, 0, .rw, .s⟩]⟩
  | .IDM_TILE_FAIL_CNT => some ⟨.IDM, 0x1C, [], .counter, 0x0, [⟨31, 0, .rw, .s⟩]⟩
  | .IDM_TILE_LAST => some ⟨.IDM, 0x20, [], .plain, 0x0, [⟨9, 0, .ro, .s⟩, ⟨19, 16, .ro, .s⟩]⟩
  | .IDM_CMD => some ⟨.IDM, 0x100, [(8, 256)], .plain, 0x0, [⟨6, 0, .rw, .s⟩, ⟨8, 8, .rw, .s⟩, ⟨31, 31, .wo, .live⟩]⟩
  | .IDM_ARG => some ⟨.IDM, 0x104, [(8, 256)], .plain, 0x0, [⟨7, 0, .rw, .s⟩, ⟨15, 8, .rw, .s⟩, ⟨23, 16, .rw, .s⟩, ⟨31, 24, .rw, .s⟩]⟩
  | .IDM_STAT => some ⟨.IDM, 0x108, [(8, 256)], .plain, 0x0, [⟨0, 0, .ro, .live⟩, ⟨3, 1, .ro, .s⟩]⟩
  | .IDM_BUF => some ⟨.IDM, 0x180, [(8, 256), (32, 4)], .plain, 0x0, [⟨31, 0, .ro, .live⟩]⟩
  | .IDM_SITE_CFG => some ⟨.IDM, 0x1000, [(128, 8)], .plain, 0x0, [⟨2, 0, .rw, .s⟩, ⟨6, 4, .rw, .s⟩, ⟨14, 8, .rw, .s⟩, ⟨18, 16, .rw, .s⟩, ⟨31, 31, .rw, .s⟩]⟩
  | .IDM_SITE_STAT => some ⟨.IDM, 0x1004, [(128, 8)], .plain, 0x0, [⟨0, 0, .ro, .live⟩, ⟨1, 1, .ro, .live⟩, ⟨6, 4, .ro, .live⟩, ⟨8, 8, .w1c, .s⟩]⟩
  | .IDM_TILE_FACT => some ⟨.IDM, 0x2000, [(1024, 4)], .plain, 0x0, [⟨7, 0, .ro, .s⟩, ⟨15, 8, .ro, .s⟩, ⟨23, 16, .ro, .s⟩, ⟨26, 24, .ro, .s⟩, ⟨27, 27, .ro, .live⟩]⟩
  | _ => none

/-- The table of block CAL (R387). -/
def RegName.infoCAL : RegName → Option RegInfo
  | .CAL_STAT => some ⟨.CAL, 0x0, [], .plain, 0x0, [⟨0, 0, .ro, .live⟩, ⟨1, 1, .ro, .live⟩]⟩
  | .CAL_OSC => some ⟨.CAL, 0x4, [], .plain, 0x0, [⟨7, 0, .ro, .live⟩, ⟨15, 8, .rw, .p⟩, ⟨23, 16, .ro, .live⟩, ⟨24, 24, .ro, .live⟩]⟩
  | .CAL_UID_LO => some ⟨.CAL, 0x8, [], .plain, 0x0, [⟨31, 0, .ro, .live⟩]⟩
  | .CAL_UID_HI => some ⟨.CAL, 0xC, [], .plain, 0x0, [⟨31, 0, .ro, .live⟩]⟩
  | .CAL_REPAIR => some ⟨.CAL, 0x10, [], .plain, 0x0, [⟨11, 0, .ro, .live⟩, ⟨27, 16, .ro, .live⟩]⟩
  | .CAL_LANE_TXF => some ⟨.CAL, 0x100, [(128, 8)], .plain, 0x0, [⟨4, 0, .ro, .live⟩, ⟨13, 8, .ro, .live⟩, ⟨20, 16, .ro, .live⟩]⟩
  | .CAL_LANE_TXE => some ⟨.CAL, 0x104, [(128, 8)], .plain, 0x0, [⟨4, 0, .ro, .live⟩, ⟨13, 8, .ro, .live⟩, ⟨20, 16, .ro, .live⟩, ⟨31, 31, .ro, .live⟩]⟩
  | .CAL_TS_F => some ⟨.CAL, 0x800, [(16, 8)], .plain, 0x0, [⟨11, 0, .ro, .live⟩]⟩
  | .CAL_TS_U => some ⟨.CAL, 0x804, [(16, 8)], .plain, 0x0, [⟨11, 0, .rw, .s⟩, ⟨31, 31, .ro, .live⟩]⟩
  | _ => none

/-- The table of block FWU (R483). -/
def RegName.infoFWU : RegName → Option RegInfo
  | .FWU_CMD => some ⟨.FWU, 0x0, [], .plain, 0x0, [⟨2, 0, .wo, .live⟩, ⟨25, 16, .wo, .live⟩, ⟨31, 31, .wo, .live⟩]⟩
  | .FWU_CMD_STAT => some ⟨.FWU, 0x4, [], .plain, 0x0, [⟨0, 0, .ro, .live⟩, ⟨4, 1, .ro, .s⟩, ⟨7, 5, .ro, .s⟩]⟩
  | .FWU_ACT_AT_LO => some ⟨.FWU, 0x8, [], .plain, 0x0, [⟨31, 0, .rw, .s⟩]⟩
  | .FWU_ACT_AT_HI => some ⟨.FWU, 0xC, [], .plain, 0x0, [⟨15, 0, .rw, .s⟩]⟩
  | .FWU_SLOT_STAT => some ⟨.FWU, 0x10, [(2, 16)], .plain, 0x0, [⟨3, 0, .ro, .live⟩, ⟨4, 4, .ro, .live⟩, ⟨5, 5, .ro, .live⟩, ⟨6, 6, .ro, .live⟩]⟩
  | .FWU_SLOT_RECV => some ⟨.FWU, 0x14, [(2, 16)], .plain, 0x0, [⟨13, 0, .ro, .live⟩, ⟨29, 16, .ro, .live⟩]⟩
  | .FWU_SLOT_VER => some ⟨.FWU, 0x18, [(2, 16)], .plain, 0x0, [⟨31, 0, .ro, .live⟩]⟩
  | .FWU_RUN => some ⟨.FWU, 0x30, [], .plain, 0x0, [⟨0, 0, .ro, .live⟩, ⟨1, 1, .ro, .live⟩, ⟨14, 8, .ro, .live⟩, ⟨19, 16, .ro, .live⟩]⟩
  | .FWU_PIECE_CNT => some ⟨.FWU, 0x40, [], .counter, 0x0, [⟨31, 0, .rw, .s⟩]⟩
  | .FWU_DUP_CNT => some ⟨.FWU, 0x44, [], .counter, 0x0, [⟨31, 0, .rw, .s⟩]⟩
  | .FWU_REFUSE_CNT => some ⟨.FWU, 0x48, [], .counter, 0x0, [⟨31, 0, .rw, .s⟩]⟩
  | .FWU_FALLBACK_CNT => some ⟨.FWU, 0x4C, [], .counter, 0x0, [⟨31, 0, .rw, .s⟩]⟩
  | .FWU_PHDR => some ⟨.FWU, 0x100, [(8, 4)], .plain, 0x0, [⟨31, 0, .rw, .s⟩]⟩
  | .FWU_PBUF => some ⟨.FWU, 0x1000, [(1024, 4)], .plain, 0x0, [⟨31, 0, .rw, .s⟩]⟩
  | _ => none

/-- The table of block GPIO (R435). -/
def RegName.infoGPIO : RegName → Option RegInfo
  | .GPIO_DIR => some ⟨.GPIO, 0x0, [], .plain, 0x0, [⟨31, 0, .rw, .s⟩]⟩
  | .GPIO_OUT => some ⟨.GPIO, 0x4, [], .plain, 0x0, [⟨31, 0, .rw, .s⟩]⟩
  | .GPIO_IN => some ⟨.GPIO, 0x8, [], .plain, 0x0, [⟨31, 0, .ro, .live⟩]⟩
  | .GPIO_CUE => some ⟨.GPIO, 0xC, [], .plain, 0x0, [⟨31, 0, .rw, .s⟩]⟩
  | .GPIO_ALERT_CFG => some ⟨.GPIO, 0x10, [], .plain, 0x20000000, [⟨26, 0, .rw, .s⟩, ⟨29, 29, .rw, .s⟩, ⟨30, 30, .rw, .s⟩, ⟨31, 31, .rw, .s⟩]⟩
  | .GPIO_ALERT_STAT => some ⟨.GPIO, 0x14, [], .plain, 0x0, [⟨0, 0, .ro, .live⟩, ⟨1, 1, .w1c, .s⟩]⟩
  | _ => none

/-- The table of block TTB (R265). -/
def RegName.infoTTB : RegName → Option RegInfo
  | .TTB_CFG => some ⟨.TTB, 0x0, [], .plain, 0x0, [⟨0, 0, .rw, .s⟩]⟩
  | .TTB_STAT => some ⟨.TTB, 0x4, [], .plain, 0x0, [⟨0, 0, .ro, .live⟩, ⟨1, 1, .ro, .live⟩, ⟨2, 2, .ro, .live⟩]⟩
  | .TTB_STAGE_ARG => some ⟨.TTB, 0x8, [], .plain, 0x0, [⟨31, 0, .ro, .s⟩]⟩
  | .TTB_STAGE_AT_LO => some ⟨.TTB, 0xC, [], .plain, 0x0, [⟨31, 0, .ro, .s⟩]⟩
  | .TTB_STAGE_AT_HI => some ⟨.TTB, 0x10, [], .plain, 0x0, [⟨15, 0, .ro, .s⟩]⟩
  | .TTB_PEEK_ADDR => some ⟨.TTB, 0x14, [], .plain, 0x0, [⟨15, 0, .rw, .s⟩]⟩
  | .TTB_PEEK_DATA => some ⟨.TTB, 0x18, [], .plain, 0x0, [⟨31, 0, .ro, .live⟩]⟩
  | .TTB_CARD_WORD => some ⟨.TTB, 0x20, [(4, 4)], .plain, 0x0, [⟨31, 0, .rw, .s⟩]⟩
  | .TTB_TAKE_CNT => some ⟨.TTB, 0x30, [], .counter, 0x0, [⟨31, 0, .rw, .s⟩]⟩
  | .TTB_BUSY_CNT => some ⟨.TTB, 0x34, [], .counter, 0x0, [⟨31, 0, .rw, .s⟩]⟩
  | .TTB_WR_BAD_CNT => some ⟨.TTB, 0x38, [], .counter, 0x0, [⟨31, 0, .rw, .s⟩]⟩
  | _ => none

/-- The table of block REF (R58). -/
def RegName.infoREF : RegName → Option RegInfo
  | .REF_SEL_STAT => some ⟨.REF, 0x0, [], .plain, 0x0, [⟨2, 0, .ro, .live⟩, ⟨6, 4, .ro, .live⟩, ⟨8, 8, .ro, .live⟩, ⟨9, 9, .ro, .live⟩]⟩
  | .REF_QL_MIN => some ⟨.REF, 0x4, [], .plain, 0x6, [⟨3, 0, .rw, .s⟩]⟩
  | .REF_QL_FIXED => some ⟨.REF, 0x8, [], .plain, 0x0, [⟨3, 0, .rw, .s⟩, ⟨7, 4, .rw, .s⟩, ⟨11, 8, .rw, .s⟩]⟩
  | .REF_MON_CFG => some ⟨.REF, 0xC, [], .plain, 0x32, [⟨15, 0, .rw, .s⟩]⟩
  | .REF_DRIFT_CFG => some ⟨.REF, 0x10, [], .plain, 0x64, [⟨15, 0, .rw, .s⟩]⟩
  | .REF_HOLD_CFG => some ⟨.REF, 0x14, [], .plain, 0x12C012C, [⟨9, 0, .rw, .s⟩, ⟨26, 16, .rw, .s⟩]⟩
  | .REF_QUAL_TIME => some ⟨.REF, 0x18, [], .plain, 0x2, [⟨7, 0, .rw, .s⟩]⟩
  | .REF_LOOP_CFG => some ⟨.REF, 0x1C, [], .plain, 0x13880001, [⟨0, 0, .rw, .s⟩, ⟨29, 16, .rw, .s⟩]⟩
  | .REF_SRC_STAT => some ⟨.REF, 0x20, [(8, 4)], .plain, 0xF00, [⟨0, 0, .ro, .live⟩, ⟨1, 1, .ro, .live⟩, ⟨2, 2, .ro, .live⟩, ⟨3, 3, .ro, .live⟩, ⟨7, 4, .ro, .live⟩, ⟨11, 8, .ro, .live⟩, ⟨12, 12, .ro, .live⟩]⟩
  | .REF_SRC_OFFSET => some ⟨.REF, 0x40, [(8, 4)], .plain, 0x0, [⟨31, 0, .ro, .live⟩]⟩
  | .REF_HOLD_FREQ => some ⟨.REF, 0x60, [], .plain, 0x0, [⟨31, 0, .ro, .live⟩]⟩
  | .REF_PHASE_ERR => some ⟨.REF, 0x64, [], .plain, 0x0, [⟨31, 0, .ro, .live⟩]⟩
  | .REF_DISAGREE_PAIR => some ⟨.REF, 0x68, [], .plain, 0x0, [⟨2, 0, .ro, .s⟩, ⟨6, 4, .ro, .s⟩]⟩
  | .REF_DISAGREE_OFS_X => some ⟨.REF, 0x6C, [], .plain, 0x0, [⟨31, 0, .ro, .s⟩]⟩
  | .REF_DISAGREE_OFS_Y => some ⟨.REF, 0x70, [], .plain, 0x0, [⟨31, 0, .ro, .s⟩]⟩
  | .REF_REQUAL => some ⟨.REF, 0x74, [], .plain, 0x0, [⟨7, 0, .wo, .live⟩]⟩
  | .REF_PPS_TAI_LO => some ⟨.REF, 0x78, [], .plain, 0x0, [⟨31, 0, .rw, .s⟩]⟩
  | .REF_PPS_TAI_HI => some ⟨.REF, 0x7C, [], .plain, 0x0, [⟨15, 0, .rw, .s⟩]⟩
  | .REF_RELOCK_CNT => some ⟨.REF, 0x80, [], .counter, 0x0, [⟨31, 0, .rw, .s⟩]⟩
  | .REF_HOLD_SECONDS => some ⟨.REF, 0x84, [], .plain, 0x0, [⟨31, 0, .ro, .s⟩]⟩
  | .REF_OUT_CFG => some ⟨.REF, 0x88, [], .plain, 0x640000, [⟨0, 0, .rw, .s⟩, ⟨3, 1, .rw, .s⟩, ⟨5, 4, .rw, .s⟩, ⟨6, 6, .rw, .s⟩, ⟨31, 16, .rw, .s⟩]⟩
  | .REF_QLMAP => some ⟨.REF, 0x90, [(16, 4)], .plain, 0x0, [⟨7, 0, .rw, .s⟩, ⟨15, 8, .rw, .s⟩, ⟨19, 16, .rw, .s⟩, ⟨31, 31, .rw, .s⟩]⟩
  | .REF_TD_CFG => some ⟨.REF, 0x100, [(8, 32)], .plain, 0x870, [⟨0, 0, .rw, .s⟩, ⟨1, 1, .rw, .s⟩, ⟨7, 4, .rw, .s⟩, ⟨14, 8, .rw, .s⟩]⟩
  | .REF_TD_LINES => some ⟨.REF, 0x104, [(8, 32)], .plain, 0x70465, [⟨12, 0, .rw, .s⟩, ⟨28, 16, .rw, .s⟩]⟩
  | .REF_TD_PHASE => some ⟨.REF, 0x108, [(8, 32)], .plain, 0x0, [⟨31, 0, .rw, .s⟩]⟩
  | .REF_TD_STAT => some ⟨.REF, 0x10C, [(8, 32)], .plain, 0x0, [⟨0, 0, .ro, .live⟩, ⟨1, 1, .ro, .live⟩]⟩
  | .REF_TD_FRAME => some ⟨.REF, 0x110, [(8, 32)], .plain, 0x0, [⟨31, 0, .ro, .s⟩]⟩
  | .REF_TD_SHUTTER_LO => some ⟨.REF, 0x114, [(8, 32)], .plain, 0x0, [⟨31, 0, .ro, .s⟩]⟩
  | .REF_TD_SHUTTER_HI => some ⟨.REF, 0x118, [(8, 32)], .plain, 0x0, [⟨15, 0, .ro, .s⟩]⟩
  | _ => none

/-- The table of block PTP (R82). -/
def RegName.infoPTP : RegName → Option RegInfo
  | .PTP_ET_CFG => some ⟨.PTP, 0x0, [], .plain, 0x3E80000, [⟨1, 0, .rw, .s⟩, ⟨29, 16, .rw, .s⟩]⟩
  | .PTP_ET_STAT => some ⟨.PTP, 0x4, [], .plain, 0x0, [⟨0, 0, .ro, .live⟩, ⟨1, 1, .ro, .live⟩, ⟨2, 2, .ro, .live⟩, ⟨3, 3, .ro, .live⟩]⟩
  | .PTP_ET_LO => some ⟨.PTP, 0x8, [], .plain, 0x0, [⟨31, 0, .ro, .live⟩]⟩
  | .PTP_ET_HI => some ⟨.PTP, 0xC, [], .plain, 0x0, [⟨15, 0, .ro, .live⟩]⟩
  | .PTP_TOD_SEC_LO => some ⟨.PTP, 0x10, [], .plain, 0x0, [⟨31, 0, .ro, .live⟩]⟩
  | .PTP_TOD_SEC_HI => some ⟨.PTP, 0x14, [], .plain, 0x0, [⟨15, 0, .ro, .live⟩]⟩
  | .PTP_TOD_NS => some ⟨.PTP, 0x18, [], .plain, 0x0, [⟨29, 0, .ro, .live⟩]⟩
  | .PTP_ET_RESID_LO => some ⟨.PTP, 0x1C, [], .plain, 0x0, [⟨31, 0, .ro, .live⟩]⟩
  | .PTP_ET_RESID_HI => some ⟨.PTP, 0x20, [], .plain, 0x0, [⟨31, 0, .ro, .live⟩]⟩
  | .PTP_ET_STEP => some ⟨.PTP, 0x24, [], .plain, 0x0, [⟨0, 0, .wo, .live⟩]⟩
  | .PTP_DOM_CFG => some ⟨.PTP, 0x100, [(2, 128)], .plain, 0xFFFF7F00, [⟨0, 0, .rw, .s⟩, ⟨1, 1, .rw, .s⟩, ⟨15, 8, .rw, .s⟩, ⟨23, 16, .rw, .s⟩, ⟨31, 24, .rw, .s⟩]⟩
  | .PTP_DOM_INTV => some ⟨.PTP, 0x104, [(2, 128)], .plain, 0x3FEFDFD, [⟨7, 0, .rw, .s⟩, ⟨15, 8, .rw, .s⟩, ⟨23, 16, .rw, .s⟩, ⟨27, 24, .rw, .s⟩]⟩
  | .PTP_SERVO_KP => some ⟨.PTP, 0x108, [(2, 128)], .plain, 0x4CCD, [⟨31, 0, .rw, .s⟩]⟩
  | .PTP_SERVO_KI => some ⟨.PTP, 0x10C, [(2, 128)], .plain, 0xCCD, [⟨31, 0, .rw, .s⟩]⟩
  | .PTP_SERVO_THR => some ⟨.PTP, 0x110, [(2, 128)], .plain, 0x3E80064, [⟨15, 0, .rw, .s⟩, ⟨31, 16, .rw, .s⟩]⟩
  | .PTP_SERVO_FMAX => some ⟨.PTP, 0x114, [(2, 128)], .plain, 0x186A0, [⟨19, 0, .rw, .s⟩]⟩
  | .PTP_DOM_STAT => some ⟨.PTP, 0x118, [(2, 128)], .plain, 0x0, [⟨2, 0, .ro, .live⟩, ⟨3, 3, .ro, .live⟩]⟩
  | .PTP_DOM_OFFSET => some ⟨.PTP, 0x11C, [(2, 128)], .plain, 0x0, [⟨31, 0, .ro, .live⟩]⟩
  | .PTP_DOM_MPD => some ⟨.PTP, 0x120, [(2, 128)], .plain, 0x0, [⟨31, 0, .ro, .live⟩]⟩
  | .PTP_DOM_FREQ => some ⟨.PTP, 0x124, [(2, 128)], .plain, 0x0, [⟨31, 0, .ro, .live⟩]⟩
  | .PTP_DOM_GM_LO => some ⟨.PTP, 0x128, [(2, 128)], .plain, 0x0, [⟨31, 0, .ro, .live⟩]⟩
  | .PTP_DOM_GM_HI => some ⟨.PTP, 0x12C, [(2, 128)], .plain, 0x0, [⟨31, 0, .ro, .live⟩]⟩
  | .PTP_DOM_ANN => some ⟨.PTP, 0x130, [(2, 128)], .plain, 0xFEFF, [⟨7, 0, .ro, .live⟩, ⟨15, 8, .ro, .live⟩, ⟨31, 16, .ro, .live⟩]⟩
  | .PTP_DOM_STEP_CNT => some ⟨.PTP, 0x134, [(2, 128)], .counter, 0x0, [⟨31, 0, .rw, .s⟩]⟩
  | .PTP_DOM_SYNC_CNT => some ⟨.PTP, 0x138, [(2, 128)], .counter, 0x0, [⟨31, 0, .rw, .s⟩]⟩
  | .PTP_DOM_LOST_CNT => some ⟨.PTP, 0x13C, [(2, 128)], .counter, 0x0, [⟨31, 0, .rw, .s⟩]⟩
  | .PTP_DOM_SEC_LO => some ⟨.PTP, 0x140, [(2, 128)], .plain, 0x0, [⟨31, 0, .ro, .live⟩]⟩
  | .PTP_DOM_SEC_HI => some ⟨.PTP, 0x144, [(2, 128)], .plain, 0x0, [⟨15, 0, .ro, .live⟩]⟩
  | .PTP_DOM_NS => some ⟨.PTP, 0x148, [(2, 128)], .plain, 0x0, [⟨29, 0, .ro, .live⟩]⟩
  | .PTP_TILE_CFG => some ⟨.PTP, 0x200, [], .plain, 0xFC00, [⟨0, 0, .rw, .s⟩, ⟨15, 8, .rw, .s⟩, ⟨23, 16, .rw, .s⟩, ⟨31, 24, .rw, .s⟩]⟩
  | .PTP_TILE_DREQ_DROP => some ⟨.PTP, 0x204, [], .counter, 0x0, [⟨31, 0, .rw, .s⟩]⟩
  | .PTP_TS_ADJ => some ⟨.PTP, 0x400, [(130, 4)], .plain, 0x0, [⟨15, 0, .rw, .s⟩, ⟨31, 16, .rw, .s⟩]⟩
  | .PTP_TSQ_STAT => some ⟨.PTP, 0x2000, [(130, 32)], .plain, 0x0, [⟨6, 0, .ro, .live⟩, ⟨8, 8, .w1c, .s⟩]⟩
  | .PTP_TSQ_TAG => some ⟨.PTP, 0x2004, [(130, 32)], .plain, 0x0, [⟨15, 0, .ro, .live⟩, ⟨16, 16, .ro, .live⟩]⟩
  | .PTP_TSQ_TS_LO => some ⟨.PTP, 0x2008, [(130, 32)], .plain, 0x0, [⟨31, 0, .ro, .live⟩]⟩
  | .PTP_TSQ_TS_HI => some ⟨.PTP, 0x200C, [(130, 32)], .plain, 0x0, [⟨15, 0, .ro, .live⟩]⟩
  | .PTP_TSQ_DROP => some ⟨.PTP, 0x2010, [(130, 32)], .counter, 0x0, [⟨31, 0, .rw, .s⟩]⟩
  | _ => none

/-- The table of block MGMT (R372). -/
def RegName.infoMGMT : RegName → Option RegInfo
  | .MGMT_CFG => some ⟨.MGMT, 0x0, [(2, 256)], .plain, 0x10, [⟨0, 0, .rw, .s⟩, ⟨3, 1, .rw, .s⟩, ⟨4, 4, .rw, .s⟩, ⟨5, 5, .rw, .s⟩, ⟨6, 6, .rw, .s⟩]⟩
  | .MGMT_STAT => some ⟨.MGMT, 0x4, [(2, 256)], .plain, 0x0, [⟨0, 0, .ro, .live⟩, ⟨1, 1, .ro, .live⟩, ⟨2, 2, .ro, .live⟩, ⟨8, 8, .w1c, .s⟩, ⟨31, 16, .ro, .live⟩]⟩
  | .MGMT_IPV4 => some ⟨.MGMT, 0x8, [(2, 256)], .plain, 0x0, [⟨31, 0, .rw, .s⟩]⟩
  | .MGMT_RX_HEAD => some ⟨.MGMT, 0xC, [(2, 256)], .plain, 0x0, [⟨5, 0, .ro, .s⟩]⟩
  | .MGMT_RX_TAIL => some ⟨.MGMT, 0x10, [(2, 256)], .plain, 0x0, [⟨5, 0, .rw, .s⟩]⟩
  | .MGMT_TX_HEAD => some ⟨.MGMT, 0x14, [(2, 256)], .plain, 0x0, [⟨5, 0, .ro, .s⟩]⟩
  | .MGMT_TX_TAIL => some ⟨.MGMT, 0x18, [(2, 256)], .plain, 0x0, [⟨5, 0, .rw, .s⟩]⟩
  | .MGMT_ADDR_LO => some ⟨.MGMT, 0x20, [(2, 256), (8, 8)], .plain, 0x0, [⟨31, 0, .rw, .s⟩]⟩
  | .MGMT_ADDR_HI => some ⟨.MGMT, 0x24, [(2, 256), (8, 8)], .plain, 0x0, [⟨15, 0, .rw, .s⟩, ⟨31, 31, .rw, .s⟩]⟩
  | .MGMT_RX_FCS => some ⟨.MGMT, 0x60, [(2, 256)], .counter, 0x0, [⟨31, 0, .rw, .s⟩]⟩
  | .MGMT_RX_RUNT => some ⟨.MGMT, 0x64, [(2, 256)], .counter, 0x0, [⟨31, 0, .rw, .s⟩]⟩
  | .MGMT_RX_OVERSIZE => some ⟨.MGMT, 0x68, [(2, 256)], .counter, 0x0, [⟨31, 0, .rw, .s⟩]⟩
  | .MGMT_RX_ALIGN => some ⟨.MGMT, 0x6C, [(2, 256)], .counter, 0x0, [⟨31, 0, .rw, .s⟩]⟩
  | .MGMT_RX_FILTER => some ⟨.MGMT, 0x70, [(2, 256)], .counter, 0x0, [⟨31, 0, .rw, .s⟩]⟩
  | .MGMT_RX_HOST_DROP => some ⟨.MGMT, 0x74, [(2, 256)], .counter, 0x0, [⟨31, 0, .rw, .s⟩]⟩
  | .MGMT_RX_PAUSE => some ⟨.MGMT, 0x78, [(2, 256)], .counter, 0x0, [⟨31, 0, .rw, .s⟩]⟩
  | .MGMT_TX_OVERSIZE => some ⟨.MGMT, 0x7C, [(2, 256)], .counter, 0x0, [⟨31, 0, .rw, .s⟩]⟩
  | .MGMT_RX_FRAMES_LO => some ⟨.MGMT, 0x80, [(2, 256)], .ctrLo, 0x0, [⟨31, 0, .rw, .s⟩]⟩
  | .MGMT_RX_FRAMES_HI => some ⟨.MGMT, 0x84, [(2, 256)], .ctrHi, 0x0, [⟨31, 0, .rw, .s⟩]⟩
  | .MGMT_TX_FRAMES_LO => some ⟨.MGMT, 0x88, [(2, 256)], .ctrLo, 0x0, [⟨31, 0, .rw, .s⟩]⟩
  | .MGMT_TX_FRAMES_HI => some ⟨.MGMT, 0x8C, [(2, 256)], .ctrHi, 0x0, [⟨31, 0, .rw, .s⟩]⟩
  | _ => none

/-- The table of block LANE (R113). -/
def RegName.infoLANE : RegName → Option RegInfo
  | .LANE_CFG => some ⟨.LANE, 0x0, [(128, 32)], .plain, 0x0, [⟨2, 0, .rw, .s⟩, ⟨6, 4, .rw, .s⟩, ⟨11, 8, .rw, .s⟩, ⟨15, 12, .rw, .s⟩, ⟨17, 16, .rw, .s⟩, ⟨18, 18, .rw, .s⟩, ⟨19, 19, .rw, .s⟩, ⟨21, 20, .rw, .s⟩, ⟨24, 24, .rw, .s⟩]⟩
  | .LANE_TXEQ => some ⟨.LANE, 0x4, [(128, 32)], .plain, 0x0, [⟨5, 0, .rw, .s⟩, ⟨13, 8, .rw, .s⟩, ⟨21, 16, .rw, .s⟩]⟩
  | .LANE_RXEQ => some ⟨.LANE, 0x8, [(128, 32)], .plain, 0x60, [⟨1, 0, .rw, .s⟩, ⟨7, 4, .rw, .s⟩, ⟨11, 8, .ro, .live⟩]⟩
  | .LANE_STAT => some ⟨.LANE, 0xC, [(128, 32)], .plain, 0xF31, [⟨0, 0, .ro, .live⟩, ⟨1, 1, .ro, .live⟩, ⟨2, 2, .ro, .live⟩, ⟨3, 3, .ro, .live⟩, ⟨5, 4, .ro, .live⟩, ⟨11, 8, .ro, .live⟩, ⟨16, 16, .w1c, .s⟩, ⟨17, 17, .w1c, .s⟩, ⟨18, 18, .w1c, .s⟩, ⟨19, 19, .w1c, .s⟩]⟩
  | .LANE_EYE => some ⟨.LANE, 0x10, [(128, 32)], .plain, 0xFFFF0000, [⟨7, 0, .ro, .live⟩, ⟨15, 8, .ro, .live⟩, ⟨23, 16, .ro, .s⟩, ⟨31, 24, .ro, .s⟩]⟩
  | .LANE_LOS_CNT => some ⟨.LANE, 0x14, [(128, 32)], .counter, 0x0, [⟨31, 0, .rw, .s⟩]⟩
  | .LANE_QUAD_STAT => some ⟨.LANE, 0x1000, [(32, 16)], .plain, 0x0, [⟨2, 0, .ro, .live⟩, ⟨6, 4, .ro, .live⟩, ⟨9, 8, .ro, .live⟩]⟩
  | .LANE_EYE_CFG => some ⟨.LANE, 0x1200, [], .plain, 0x620003C, [⟨15, 0, .rw, .s⟩, ⟨23, 16, .rw, .s⟩, ⟨31, 24, .rw, .s⟩]⟩
  | .LANE_EYE_CLR => some ⟨.LANE, 0x1204, [], .plain, 0x0, [⟨0, 0, .wo, .live⟩]⟩
  | _ => none

/-- The table of block SDI (R135). -/
def RegName.infoSDI : RegName → Option RegInfo
  | .SDI_RX_CFG => some ⟨.SDI, 0x0, [(128, 64)], .plain, 0x0, [⟨0, 0, .rw, .s⟩, ⟨3, 1, .rw, .s⟩, ⟨4, 4, .rw, .s⟩, ⟨7, 5, .rw, .s⟩, ⟨15, 8, .rw, .s⟩, ⟨25, 16, .rw, .s⟩]⟩
  | .SDI_RX_CFG2 => some ⟨.SDI, 0x4, [(128, 64)], .plain, 0x0, [⟨9, 0, .rw, .s⟩, ⟨23, 16, .rw, .s⟩]⟩
  | .SDI_RX_AUD => some ⟨.SDI, 0x8, [(128, 64)], .plain, 0x0, [⟨13, 0, .rw, .s⟩, ⟨21, 16, .rw, .s⟩, ⟨31, 31, .rw, .s⟩]⟩
  | .SDI_RX_AUD2 => some ⟨.SDI, 0xC, [(128, 64)], .plain, 0x0, [⟨13, 0, .rw, .s⟩, ⟨21, 16, .rw, .s⟩, ⟨31, 31, .rw, .s⟩]⟩
  | .SDI_RX_STAT => some ⟨.SDI, 0x10, [(128, 64)], .plain, 0xF00, [⟨1, 0, .ro, .live⟩, ⟨2, 2, .ro, .live⟩, ⟨3, 3, .ro, .live⟩, ⟨4, 4, .ro, .live⟩, ⟨15, 8, .ro, .live⟩, ⟨27, 16, .ro, .live⟩, ⟨28, 28, .w1c, .s⟩, ⟨29, 29, .w1c, .s⟩, ⟨30, 30, .w1c, .s⟩, ⟨31, 31, .w1c, .s⟩]⟩
  | .SDI_RX_PHASE => some ⟨.SDI, 0x14, [(128, 64)], .plain, 0x0, [⟨31, 0, .ro, .live⟩]⟩
  | .SDI_RX_PID => some ⟨.SDI, 0x18, [(128, 64)], .plain, 0x0, [⟨31, 0, .ro, .s⟩]⟩
  | .SDI_RX_PID2 => some ⟨.SDI, 0x1C, [(128, 64)], .plain, 0x0, [⟨31, 0, .ro, .s⟩]⟩
  | .SDI_RX_TRS_ERR => some ⟨.SDI, 0x20, [(128, 64)], .counter, 0x0, [⟨31, 0, .rw, .s⟩]⟩
  | .SDI_RX_LN_ERR => some ⟨.SDI, 0x24, [(128, 64)], .counter, 0x0, [⟨31, 0, .rw, .s⟩]⟩
  | .SDI_RX_CRC_ERR => some ⟨.SDI, 0x28, [(128, 64)], .counter, 0x0, [⟨31, 0, .rw, .s⟩]⟩
  | .SDI_RX_ANC_CS => some ⟨.SDI, 0x2C, [(128, 64)], .counter, 0x0, [⟨31, 0, .rw, .s⟩]⟩
  | .SDI_RX_ANC_DROP => some ⟨.SDI, 0x30, [(128, 64)], .counter, 0x0, [⟨31, 0, .rw, .s⟩]⟩
  | .SDI_RX_AUD_ECC => some ⟨.SDI, 0x34, [(128, 64)], .counter, 0x0, [⟨31, 0, .rw, .s⟩]⟩
  | .SDI_RX_UNLOCK_CNT => some ⟨.SDI, 0x38, [(128, 64)], .counter, 0x0, [⟨31, 0, .rw, .s⟩]⟩
  | .SDI_RX_SKEW_CNT => some ⟨.SDI, 0x3C, [(128, 64)], .counter, 0x0, [⟨31, 0, .rw, .s⟩]⟩
  | .SDI_TX_CFG => some ⟨.SDI, 0x2000, [(128, 64)], .plain, 0x0, [⟨0, 0, .rw, .s⟩, ⟨3, 1, .rw, .s⟩, ⟨4, 4, .rw, .s⟩, ⟨6, 5, .rw, .s⟩, ⟨15, 8, .rw, .s⟩, ⟨25, 16, .rw, .s⟩]⟩
  | .SDI_TX_CFG2 => some ⟨.SDI, 0x2004, [(128, 64)], .plain, 0x0, [⟨9, 0, .rw, .s⟩, ⟨23, 16, .rw, .s⟩]⟩
  | .SDI_TX_AUD => some ⟨.SDI, 0x2008, [(128, 64)], .plain, 0x0, [⟨13, 0, .rw, .s⟩, ⟨21, 16, .rw, .s⟩, ⟨31, 31, .rw, .s⟩]⟩
  | .SDI_TX_AUD2 => some ⟨.SDI, 0x200C, [(128, 64)], .plain, 0x0, [⟨13, 0, .rw, .s⟩, ⟨21, 16, .rw, .s⟩, ⟨31, 31, .rw, .s⟩]⟩
  | .SDI_TX_STAT => some ⟨.SDI, 0x2010, [(128, 64)], .plain, 0x0, [⟨0, 0, .ro, .live⟩, ⟨1, 1, .ro, .live⟩, ⟨2, 2, .ro, .live⟩, ⟨8, 8, .w1c, .s⟩]⟩
  | .SDI_TX_PID => some ⟨.SDI, 0x2014, [(128, 64)], .plain, 0x0, [⟨31, 0, .rw, .s⟩]⟩
  | .SDI_TX_ANC_DROP => some ⟨.SDI, 0x2018, [(128, 64)], .counter, 0x0, [⟨31, 0, .rw, .s⟩]⟩
  | .SDI_TX_ANC_DEL => some ⟨.SDI, 0x2020, [(128, 64), (8, 4)], .plain, 0x0, [⟨7, 0, .rw, .s⟩, ⟨15, 8, .rw, .s⟩, ⟨16, 16, .rw, .s⟩, ⟨31, 31, .rw, .s⟩]⟩
  | _ => none

/-- The table of block MPORT (R165). -/
def RegName.infoMPORT : RegName → Option RegInfo
  | .MPORT_CFG => some ⟨.MPORT, 0x0, [(128, 128)], .plain, 0x0, [⟨0, 0, .rw, .s⟩, ⟨7, 1, .rw, .s⟩, ⟨8, 8, .rw, .s⟩, ⟨9, 9, .rw, .s⟩, ⟨10, 10, .rw, .s⟩, ⟨11, 11, .rw, .s⟩, ⟨12, 12, .rw, .s⟩]⟩
  | .MPORT_MAC_LO => some ⟨.MPORT, 0x4, [(128, 128)], .plain, 0x0, [⟨31, 0, .rw, .s⟩]⟩
  | .MPORT_MAC_HI => some ⟨.MPORT, 0x8, [(128, 128)], .plain, 0x0, [⟨15, 0, .rw, .s⟩]⟩
  | .MPORT_IPV4 => some ⟨.MPORT, 0xC, [(128, 128)], .plain, 0x0, [⟨31, 0, .rw, .s⟩]⟩
  | .MPORT_STAT => some ⟨.MPORT, 0x10, [(128, 128)], .plain, 0x0, [⟨0, 0, .ro, .live⟩, ⟨1, 1, .ro, .live⟩, ⟨8, 8, .w1c, .s⟩]⟩
  | .MPORT_TX_LOAD => some ⟨.MPORT, 0x14, [(128, 128)], .plain, 0x0, [⟨19, 0, .ro, .live⟩]⟩
  | .MPORT_HRX_BASE_LO => some ⟨.MPORT, 0x18, [(128, 128)], .plain, 0x0, [⟨31, 6, .rw, .s⟩]⟩
  | .MPORT_HRX_CFG => some ⟨.MPORT, 0x1C, [(128, 128)], .plain, 0x400, [⟨7, 0, .rw, .s⟩, ⟨11, 8, .rw, .s⟩, ⟨12, 12, .rw, .s⟩]⟩
  | .MPORT_HRX_HEAD => some ⟨.MPORT, 0x20, [(128, 128)], .plain, 0x0, [⟨11, 0, .ro, .s⟩]⟩
  | .MPORT_HRX_TAIL => some ⟨.MPORT, 0x24, [(128, 128)], .plain, 0x0, [⟨11, 0, .rw, .s⟩]⟩
  | .MPORT_HTX_BASE_LO => some ⟨.MPORT, 0x28, [(128, 128)], .plain, 0x0, [⟨31, 6, .rw, .s⟩]⟩
  | .MPORT_HTX_CFG => some ⟨.MPORT, 0x2C, [(128, 128)], .plain, 0x400, [⟨7, 0, .rw, .s⟩, ⟨11, 8, .rw, .s⟩, ⟨12, 12, .rw, .s⟩]⟩
  | .MPORT_HTX_HEAD => some ⟨.MPORT, 0x30, [(128, 128)], .plain, 0x0, [⟨11, 0, .ro, .s⟩]⟩
  | .MPORT_HTX_TAIL => some ⟨.MPORT, 0x34, [(128, 128)], .plain, 0x0, [⟨11, 0, .rw, .s⟩]⟩
  | .MPORT_RX_FCS => some ⟨.MPORT, 0x38, [(128, 128)], .counter, 0x0, [⟨31, 0, .rw, .s⟩]⟩
  | .MPORT_RX_RUNT => some ⟨.MPORT, 0x3C, [(128, 128)], .counter, 0x0, [⟨31, 0, .rw, .s⟩]⟩
  | .MPORT_RX_OVERSIZE => some ⟨.MPORT, 0x40, [(128, 128)], .counter, 0x0, [⟨31, 0, .rw, .s⟩]⟩
  | .MPORT_RX_ALIGN => some ⟨.MPORT, 0x44, [(128, 128)], .counter, 0x0, [⟨31, 0, .rw, .s⟩]⟩
  | .MPORT_RX_IP_ERR => some ⟨.MPORT, 0x48, [(128, 128)], .counter, 0x0, [⟨31, 0, .rw, .s⟩]⟩
  | .MPORT_RX_FILTER => some ⟨.MPORT, 0x4C, [(128, 128)], .counter, 0x0, [⟨31, 0, .rw, .s⟩]⟩
  | .MPORT_RX_FLOW_DROP => some ⟨.MPORT, 0x50, [(128, 128)], .counter, 0x0, [⟨31, 0, .rw, .s⟩]⟩
  | .MPORT_RX_HOST_DROP => some ⟨.MPORT, 0x54, [(128, 128)], .counter, 0x0, [⟨31, 0, .rw, .s⟩]⟩
  | .MPORT_TX_OVERSIZE => some ⟨.MPORT, 0x58, [(128, 128)], .counter, 0x0, [⟨31, 0, .rw, .s⟩]⟩
  | .MPORT_TX_PAUSE_DROP => some ⟨.MPORT, 0x5C, [(128, 128)], .counter, 0x0, [⟨31, 0, .rw, .s⟩]⟩
  | .MPORT_RX_FRAMES_LO => some ⟨.MPORT, 0x60, [(128, 128)], .ctrLo, 0x0, [⟨31, 0, .rw, .s⟩]⟩
  | .MPORT_RX_FRAMES_HI => some ⟨.MPORT, 0x64, [(128, 128)], .ctrHi, 0x0, [⟨31, 0, .rw, .s⟩]⟩
  | .MPORT_TX_FRAMES_LO => some ⟨.MPORT, 0x68, [(128, 128)], .ctrLo, 0x0, [⟨31, 0, .rw, .s⟩]⟩
  | .MPORT_TX_FRAMES_HI => some ⟨.MPORT, 0x6C, [(128, 128)], .ctrHi, 0x0, [⟨31, 0, .rw, .s⟩]⟩
  | .MPORT_FEC_CORR => some ⟨.MPORT, 0x70, [(128, 128)], .counter, 0x0, [⟨31, 0, .rw, .s⟩]⟩
  | .MPORT_FEC_UNCORR => some ⟨.MPORT, 0x74, [(128, 128)], .counter, 0x0, [⟨31, 0, .rw, .s⟩]⟩
  | .MPORT_RXC_CFG => some ⟨.MPORT, 0x100000, [(4096, 64)], .plain, 0x0, [⟨0, 0, .rw, .s⟩, ⟨3, 1, .rw, .s⟩, ⟨10, 4, .rw, .s⟩, ⟨13, 11, .rw, .s⟩, ⟨23, 16, .rw, .s⟩]⟩
  | .MPORT_RXC_DST => some ⟨.MPORT, 0x100004, [(4096, 64)], .plain, 0x0, [⟨13, 0, .rw, .s⟩, ⟨22, 16, .rw, .s⟩, ⟨24, 24, .rw, .s⟩, ⟨25, 25, .rw, .s⟩, ⟨26, 26, .rw, .s⟩]⟩
  | .MPORT_RXC_CHK => some ⟨.MPORT, 0x100008, [(4096, 64)], .plain, 0x1900060, [⟨6, 0, .rw, .s⟩, ⟨7, 7, .rw, .s⟩, ⟨8, 8, .rw, .s⟩, ⟨31, 16, .rw, .s⟩]⟩
  | .MPORT_RXC_SSRC => some ⟨.MPORT, 0x10000C, [(4096, 64)], .plain, 0x0, [⟨31, 0, .rw, .s⟩]⟩
  | .MPORT_RXC_STAT => some ⟨.MPORT, 0x100010, [(4096, 64)], .plain, 0x0, [⟨1, 0, .ro, .live⟩, ⟨8, 8, .w1c, .s⟩, ⟨9, 9, .w1c, .s⟩, ⟨10, 10, .w1c, .s⟩]⟩
  | .MPORT_RXC_PHASE => some ⟨.MPORT, 0x100014, [(4096, 64)], .plain, 0x0, [⟨31, 0, .ro, .live⟩]⟩
  | .MPORT_RXC_LOSS => some ⟨.MPORT, 0x100018, [(4096, 64)], .counter, 0x0, [⟨31, 0, .rw, .s⟩]⟩
  | .MPORT_RXC_LATE => some ⟨.MPORT, 0x10001C, [(4096, 64)], .counter, 0x0, [⟨31, 0, .rw, .s⟩]⟩
  | .MPORT_RXC_MALFORMED => some ⟨.MPORT, 0x100020, [(4096, 64)], .counter, 0x0, [⟨31, 0, .rw, .s⟩]⟩
  | .MPORT_RXC_AUD => some ⟨.MPORT, 0x100024, [(4096, 64)], .plain, 0x0, [⟨13, 0, .rw, .s⟩, ⟨21, 16, .rw, .s⟩, ⟨31, 31, .rw, .s⟩]⟩
  | .MPORT_RXC_UNLOCK_CNT => some ⟨.MPORT, 0x100028, [(4096, 64)], .counter, 0x0, [⟨31, 0, .rw, .s⟩]⟩
  | .MPORT_RXC_SDI_ERR => some ⟨.MPORT, 0x10002C, [(4096, 64)], .counter, 0x0, [⟨31, 0, .rw, .s⟩]⟩
  | .MPORT_MRG_CFG => some ⟨.MPORT, 0x200000, [(1024, 32)], .plain, 0x0, [⟨0, 0, .rw, .s⟩, ⟨12, 1, .rw, .s⟩, ⟨24, 13, .rw, .s⟩]⟩
  | .MPORT_MRG_DELAY => some ⟨.MPORT, 0x200004, [(1024, 32)], .plain, 0x3E8, [⟨14, 0, .rw, .s⟩, ⟨31, 16, .rw, .s⟩]⟩
  | .MPORT_MRG_BUF => some ⟨.MPORT, 0x200008, [(1024, 32)], .plain, 0x0, [⟨19, 0, .rw, .s⟩, ⟨31, 20, .rw, .s⟩]⟩
  | .MPORT_MRG_STAT => some ⟨.MPORT, 0x20000C, [(1024, 32)], .plain, 0x0, [⟨0, 0, .ro, .live⟩, ⟨1, 1, .ro, .live⟩, ⟨2, 2, .ro, .live⟩]⟩
  | .MPORT_MRG_SKEW => some ⟨.MPORT, 0x200010, [(1024, 32)], .plain, 0x0, [⟨31, 0, .ro, .live⟩]⟩
  | .MPORT_MRG_LATE => some ⟨.MPORT, 0x200014, [(1024, 32)], .counter, 0x0, [⟨31, 0, .rw, .s⟩]⟩
  | .MPORT_MRG_LOST => some ⟨.MPORT, 0x200018, [(1024, 32)], .counter, 0x0, [⟨31, 0, .rw, .s⟩]⟩
  | .MPORT_MRG_LEADCHG => some ⟨.MPORT, 0x20001C, [(1024, 32)], .counter, 0x0, [⟨31, 0, .rw, .s⟩]⟩
  | .MPORT_TXC_CFG => some ⟨.MPORT, 0x300000, [(2048, 64)], .plain, 0x100000, [⟨0, 0, .rw, .s⟩, ⟨3, 1, .rw, .s⟩, ⟨10, 4, .rw, .s⟩, ⟨17, 11, .rw, .s⟩, ⟨18, 18, .rw, .s⟩, ⟨19, 19, .rw, .s⟩, ⟨20, 20, .rw, .s⟩, ⟨21, 21, .rw, .s⟩, ⟨31, 24, .rw, .s⟩]⟩
  | .MPORT_TXC_SRC => some ⟨.MPORT, 0x300004, [(2048, 64)], .plain, 0x0, [⟨13, 0, .rw, .s⟩, ⟨22, 16, .rw, .s⟩, ⟨24, 24, .rw, .s⟩, ⟨25, 25, .rw, .s⟩, ⟨26, 26, .rw, .s⟩]⟩
  | .MPORT_TXC_DIP_A => some ⟨.MPORT, 0x300008, [(2048, 64)], .plain, 0x0, [⟨31, 0, .rw, .s⟩]⟩
  | .MPORT_TXC_DIP_B => some ⟨.MPORT, 0x30000C, [(2048, 64)], .plain, 0x0, [⟨31, 0, .rw, .s⟩]⟩
  | .MPORT_TXC_UDP => some ⟨.MPORT, 0x300010, [(2048, 64)], .plain, 0x0, [⟨15, 0, .rw, .s⟩, ⟨31, 16, .rw, .s⟩]⟩
  | .MPORT_TXC_SSRC => some ⟨.MPORT, 0x300014, [(2048, 64)], .plain, 0x0, [⟨31, 0, .rw, .s⟩]⟩
  | .MPORT_TXC_HDR => some ⟨.MPORT, 0x300018, [(2048, 64)], .plain, 0x2260, [⟨6, 0, .rw, .s⟩, ⟨13, 8, .rw, .s⟩, ⟨27, 16, .rw, .s⟩]⟩
  | .MPORT_TXC_PKT => some ⟨.MPORT, 0x30001C, [(2048, 64)], .plain, 0x4004EC, [⟨13, 0, .rw, .s⟩, ⟨23, 16, .rw, .s⟩]⟩
  | .MPORT_TXC_TRO => some ⟨.MPORT, 0x300020, [(2048, 64)], .plain, 0x0, [⟨27, 0, .rw, .s⟩]⟩
  | .MPORT_TXC_WIRE => some ⟨.MPORT, 0x300024, [(2048, 64)], .plain, 0x0, [⟨19, 0, .ro, .live⟩]⟩
  | .MPORT_TXC_STAT => some ⟨.MPORT, 0x300028, [(2048, 64)], .plain, 0x0, [⟨0, 0, .ro, .live⟩, ⟨1, 1, .ro, .live⟩]⟩
  | .MPORT_TXC_PKTS_LO => some ⟨.MPORT, 0x30002C, [(2048, 64)], .ctrLo, 0x0, [⟨31, 0, .rw, .s⟩]⟩
  | .MPORT_TXC_PKTS_HI => some ⟨.MPORT, 0x300030, [(2048, 64)], .ctrHi, 0x0, [⟨31, 0, .rw, .s⟩]⟩
  | _ => none

/-- The table of block FLOW (R166). -/
def RegName.infoFLOW : RegName → Option RegInfo
  | .FLOW_CFG => some ⟨.FLOW, 0x0, [], .plain, 0x3C, [⟨15, 0, .rw, .s⟩]⟩
  | .FLOW_STAT => some ⟨.FLOW, 0x4, [], .plain, 0x0, [⟨0, 0, .ro, .live⟩]⟩
  | .FLOW_COUNT => some ⟨.FLOW, 0x8, [], .plain, 0x0, [⟨19, 0, .ro, .live⟩]⟩
  | .FLOW_Q_DATA => some ⟨.FLOW, 0x10, [(4, 4)], .plain, 0x0, [⟨31, 0, .rw, .s⟩]⟩
  | .FLOW_Q_CMD => some ⟨.FLOW, 0x20, [], .plain, 0x0, [⟨2, 0, .wo, .live⟩, ⟨22, 4, .wo, .live⟩]⟩
  | .FLOW_Q_STAT => some ⟨.FLOW, 0x24, [], .plain, 0x0, [⟨6, 0, .ro, .live⟩, ⟨14, 8, .ro, .live⟩]⟩
  | .FLOW_RES => some ⟨.FLOW, 0x28, [], .plain, 0x0, [⟨18, 0, .ro, .live⟩, ⟨22, 20, .ro, .live⟩, ⟨26, 24, .ro, .live⟩, ⟨31, 31, .ro, .live⟩]⟩
  | .FLOW_RES_DATA => some ⟨.FLOW, 0x2C, [(4, 4)], .plain, 0x0, [⟨31, 0, .ro, .live⟩]⟩
  | .FLOW_AGED => some ⟨.FLOW, 0x40, [], .plain, 0x0, [⟨18, 0, .ro, .live⟩, ⟨31, 31, .ro, .live⟩]⟩
  | .FLOW_HIT => some ⟨.FLOW, 0x50, [], .counter, 0x0, [⟨31, 0, .rw, .s⟩]⟩
  | .FLOW_MISS => some ⟨.FLOW, 0x54, [], .counter, 0x0, [⟨31, 0, .rw, .s⟩]⟩
  | .FLOW_INS_FULL => some ⟨.FLOW, 0x58, [], .counter, 0x0, [⟨31, 0, .rw, .s⟩]⟩
  | .FLOW_AGED_CNT => some ⟨.FLOW, 0x5C, [], .counter, 0x0, [⟨31, 0, .rw, .s⟩]⟩
  | .FLOW_ECC_CORR => some ⟨.FLOW, 0x60, [], .counter, 0x0, [⟨31, 0, .rw, .s⟩]⟩
  | .FLOW_ECC_UNCORR => some ⟨.FLOW, 0x64, [], .counter, 0x0, [⟨31, 0, .rw, .s⟩]⟩
  | .FLOW_MOVES => some ⟨.FLOW, 0x68, [], .counter, 0x0, [⟨31, 0, .rw, .s⟩]⟩
  | .FLOW_CMDQ_OVF => some ⟨.FLOW, 0x6C, [], .counter, 0x0, [⟨31, 0, .rw, .s⟩]⟩
  | _ => none

/-- The table of block XPT (R193). -/
def RegName.infoXPT : RegName → Option RegInfo
  | .XPT_CFG => some ⟨.XPT, 0x0, [], .plain, 0x2, [⟨4, 0, .rws, .s⟩]⟩
  | .XPT_STAT => some ⟨.XPT, 0x4, [], .plain, 0x0, [⟨3, 0, .ro, .live⟩, ⟨7, 4, .ro, .live⟩, ⟨8, 8, .ro, .live⟩, ⟨9, 9, .ro, .live⟩, ⟨10, 10, .ro, .live⟩, ⟨11, 11, .ro, .live⟩]⟩
  | .XPT_CAP_A => some ⟨.XPT, 0x8, [], .plain, 0x0, [⟨31, 0, .ro, .live⟩]⟩
  | .XPT_CAP_B => some ⟨.XPT, 0xC, [], .plain, 0x0, [⟨31, 0, .ro, .live⟩]⟩
  | .XPT_LOAD_A_IN => some ⟨.XPT, 0x10, [], .plain, 0x0, [⟨31, 0, .ro, .live⟩]⟩
  | .XPT_LOAD_A_OUT => some ⟨.XPT, 0x14, [], .plain, 0x0, [⟨31, 0, .ro, .live⟩]⟩
  | .XPT_LOAD_B_IN => some ⟨.XPT, 0x18, [], .plain, 0x0, [⟨31, 0, .ro, .live⟩]⟩
  | .XPT_LOAD_B_OUT => some ⟨.XPT, 0x1C, [], .plain, 0x0, [⟨31, 0, .ro, .live⟩]⟩
  | .XPT_STORE_A => some ⟨.XPT, 0x20, [], .plain, 0x0, [⟨23, 0, .ro, .live⟩]⟩
  | .XPT_STORE_B => some ⟨.XPT, 0x24, [], .plain, 0x0, [⟨23, 0, .ro, .live⟩]⟩
  | .XPT_OVL_EFF => some ⟨.XPT, 0x28, [], .plain, 0x202, [⟨4, 0, .ro, .live⟩, ⟨12, 8, .ro, .live⟩]⟩
  | .XPT_HBM_LOAD => some ⟨.XPT, 0x30, [(2, 4)], .plain, 0x0, [⟨19, 0, .ro, .live⟩]⟩
  | .XPT_REFUSE_CNT => some ⟨.XPT, 0x40, [], .counter, 0x0, [⟨31, 0, .rw, .s⟩]⟩
  | .XPT_DEMOTE_CNT => some ⟨.XPT, 0x44, [], .counter, 0x0, [⟨31, 0, .rw, .s⟩]⟩
  | .XPT_REMOVE_CNT => some ⟨.XPT, 0x48, [], .counter, 0x0, [⟨31, 0, .rw, .s⟩]⟩
  | .XPT_MERGE_A_CNT => some ⟨.XPT, 0x4C, [], .counter, 0x0, [⟨31, 0, .rw, .s⟩]⟩
  | .XPT_MERGE_B_CNT => some ⟨.XPT, 0x50, [], .counter, 0x0, [⟨31, 0, .rw, .s⟩]⟩
  | .XPT_MERGE_BOTH_CNT => some ⟨.XPT, 0x54, [], .counter, 0x0, [⟨31, 0, .rw, .s⟩]⟩
  | .XPT_CHECK_T_CNT => some ⟨.XPT, 0x58, [], .counter, 0x0, [⟨31, 0, .rw, .s⟩]⟩
  | .XPT_UNDERRUN_CNT => some ⟨.XPT, 0x5C, [], .counter, 0x0, [⟨31, 0, .rw, .s⟩]⟩
  | .XPT_FS_REPEAT_CNT => some ⟨.XPT, 0x60, [], .counter, 0x0, [⟨31, 0, .rw, .s⟩]⟩
  | .XPT_FS_DROP_CNT => some ⟨.XPT, 0x64, [], .counter, 0x0, [⟨31, 0, .rw, .s⟩]⟩
  | .XPT_CHK_LAST => some ⟨.XPT, 0x80, [], .plain, 0x0, [⟨4, 0, .ro, .s⟩, ⟨25, 16, .ro, .s⟩, ⟨26, 26, .ro, .s⟩]⟩
  | .XPT_FS_STAT => some ⟨.XPT, 0x84, [], .plain, 0x0, [⟨9, 0, .ro, .live⟩]⟩
  | .XPT_FS_REGION => some ⟨.XPT, 0xA0, [(2, 4)], .plain, 0x0, [⟨17, 0, .rw, .s⟩, ⟨31, 18, .rw, .s⟩]⟩
  | .XPT_SLICE_STAT => some ⟨.XPT, 0x100, [(18, 4)], .plain, 0x1, [⟨2, 0, .ro, .live⟩, ⟨6, 4, .ro, .live⟩]⟩
  | .XPT_SLICE_CHK => some ⟨.XPT, 0x180, [(18, 4)], .counter, 0x0, [⟨31, 0, .rw, .s⟩]⟩
  | .XPT_VIN_CFG => some ⟨.XPT, 0x1000, [(1024, 16)], .plain, 0x0, [⟨2, 0, .rw, .s⟩, ⟨3, 3, .rw, .s⟩]⟩
  | .XPT_VIN_STAT => some ⟨.XPT, 0x1004, [(1024, 16)], .plain, 0x0, [⟨7, 0, .ro, .live⟩, ⟨10, 8, .ro, .live⟩, ⟨11, 11, .ro, .live⟩, ⟨12, 12, .ro, .live⟩, ⟨13, 13, .ro, .live⟩]⟩
  | .XPT_VIN_MMIN => some ⟨.XPT, 0x1008, [(1024, 16)], .plain, 0x80000000, [⟨31, 0, .ro, .live⟩]⟩
  | .XPT_VIN_MMAX => some ⟨.XPT, 0x100C, [(1024, 16)], .plain, 0x80000000, [⟨31, 0, .ro, .live⟩]⟩
  | .XPT_VOUT_CFG => some ⟨.XPT, 0x10000, [(1024, 32)], .plain, 0x0, [⟨7, 0, .rw, .s⟩, ⟨11, 8, .rws, .s⟩, ⟨12, 12, .rws, .s⟩]⟩
  | .XPT_ROUTE => some ⟨.XPT, 0x10004, [(1024, 32)], .plain, 0x0, [⟨9, 0, .ro, .live⟩, ⟨10, 10, .ro, .live⟩, ⟨11, 11, .ro, .live⟩, ⟨12, 12, .ro, .live⟩, ⟨14, 13, .ro, .live⟩, ⟨15, 15, .ro, .live⟩, ⟨16, 16, .ro, .live⟩, ⟨27, 24, .ro, .live⟩, ⟨31, 31, .w1c, .s⟩]⟩
  | .XPT_ROUTE_LAT => some ⟨.XPT, 0x10008, [(1024, 32)], .plain, 0x0, [⟨31, 0, .ro, .live⟩]⟩
  | .XPT_VOUT_ROFF => some ⟨.XPT, 0x1000C, [(1024, 32)], .plain, 0x0, [⟨31, 0, .ro, .live⟩]⟩
  | .XPT_VOUT_RHOLD => some ⟨.XPT, 0x10010, [(1024, 32)], .plain, 0x0, [⟨31, 0, .ro, .live⟩]⟩
  | .XPT_REFUSE => some ⟨.XPT, 0x10014, [(1024, 32)], .plain, 0x0, [⟨3, 0, .ro, .s⟩, ⟨31, 16, .ro, .s⟩]⟩
  | .XPT_VOUT_BOTH => some ⟨.XPT, 0x10018, [(1024, 32)], .counter, 0x0, [⟨31, 0, .rw, .s⟩]⟩
  | _ => none

/-- The table of block CUE (R222). -/
def RegName.infoCUE : RegName → Option RegInfo
  | .CUE_CFG => some ⟨.CUE, 0x0, [], .plain, 0x10, [⟨7, 0, .rw, .s⟩]⟩
  | .CUE_STAT => some ⟨.CUE, 0x4, [], .plain, 0x50, [⟨4, 0, .ro, .live⟩, ⟨6, 5, .ro, .live⟩, ⟨8, 8, .ro, .live⟩, ⟨9, 9, .ro, .live⟩]⟩
  | .CUE_PS_SWAP_LO => some ⟨.CUE, 0x8, [], .plain, 0x0, [⟨31, 0, .rw, .s⟩]⟩
  | .CUE_PS_SWAP_HI => some ⟨.CUE, 0xC, [], .plain, 0x0, [⟨15, 0, .rw, .s⟩]⟩
  | .CUE_PS_STAT => some ⟨.CUE, 0x10, [], .plain, 0x200, [⟨7, 0, .ro, .live⟩, ⟨8, 8, .ro, .live⟩, ⟨9, 9, .ro, .live⟩]⟩
  | .CUE_THR_CMD => some ⟨.CUE, 0x20, [], .plain, 0x0, [⟨2, 0, .rw, .s⟩, ⟨27, 16, .rw, .s⟩, ⟨30, 28, .ro, .s⟩, ⟨31, 31, .ro, .live⟩]⟩
  | .CUE_TQ_W0 => some ⟨.CUE, 0x30, [], .plain, 0x0, [⟨31, 0, .rw, .s⟩]⟩
  | .CUE_TQ_W1 => some ⟨.CUE, 0x34, [], .plain, 0x0, [⟨31, 0, .rw, .s⟩]⟩
  | .CUE_TQ_W2 => some ⟨.CUE, 0x38, [], .plain, 0x0, [⟨31, 0, .rw, .s⟩]⟩
  | .CUE_TQ_W3 => some ⟨.CUE, 0x3C, [], .plain, 0x0, [⟨31, 0, .rw, .s⟩]⟩
  | .CUE_TQ_STAT => some ⟨.CUE, 0x40, [], .plain, 0x0, [⟨12, 0, .ro, .live⟩, ⟨16, 16, .ro, .live⟩]⟩
  | .CUE_TQ_FULL_CNT => some ⟨.CUE, 0x50, [], .counter, 0x0, [⟨31, 0, .rw, .s⟩]⟩
  | .CUE_TQ_NOOWNER_CNT => some ⟨.CUE, 0x54, [], .counter, 0x0, [⟨31, 0, .rw, .s⟩]⟩
  | .CUE_TQ_STALE_CNT => some ⟨.CUE, 0x58, [], .counter, 0x0, [⟨31, 0, .rw, .s⟩]⟩
  | .CUE_SUPERSEDE_CNT => some ⟨.CUE, 0x5C, [], .counter, 0x0, [⟨31, 0, .rw, .s⟩]⟩
  | .CUE_BUDGET_OVER_CNT => some ⟨.CUE, 0x60, [], .counter, 0x0, [⟨31, 0, .rw, .s⟩]⟩
  | .CUE_FAULT_CNT => some ⟨.CUE, 0x64, [], .counter, 0x0, [⟨31, 0, .rw, .s⟩]⟩
  | .CUE_CGRP_HOLD_CNT => some ⟨.CUE, 0x68, [], .counter, 0x0, [⟨31, 0, .rw, .s⟩]⟩
  | .CUE_PS_REJECT_CNT => some ⟨.CUE, 0x6C, [], .counter, 0x0, [⟨31, 0, .rw, .s⟩]⟩
  | .CUE_FAULT_LAST => some ⟨.CUE, 0x80, [], .plain, 0x0, [⟨11, 0, .ro, .s⟩, ⟨14, 12, .ro, .s⟩, ⟨19, 15, .ro, .s⟩]⟩
  | .CUE_SHARE => some ⟨.CUE, 0x100, [(8, 16)], .plain, 0x0, [⟨4, 0, .rw, .s⟩, ⟨12, 8, .ro, .live⟩]⟩
  | .CUE_LOAD => some ⟨.CUE, 0x104, [(8, 16)], .plain, 0x0, [⟨31, 0, .ro, .live⟩]⟩
  | .CUE_LOAD_LIM => some ⟨.CUE, 0x108, [(8, 16)], .plain, 0x0, [⟨31, 0, .ro, .live⟩]⟩
  | .CUE_DOM_STAT => some ⟨.CUE, 0x10C, [(8, 16)], .plain, 0x0, [⟨12, 0, .ro, .live⟩, ⟨31, 16, .ro, .live⟩]⟩
  | .CUE_ENG_STAT => some ⟨.CUE, 0x200, [(18, 4)], .plain, 0x0, [⟨2, 0, .ro, .live⟩, ⟨6, 4, .ro, .live⟩]⟩
  | .CUE_THR_CFG => some ⟨.CUE, 0x10000, [(4096, 32)], .plain, 0x100000, [⟨15, 0, .rw, .s⟩, ⟨18, 16, .rw, .s⟩, ⟨28, 20, .rw, .s⟩, ⟨29, 29, .rw, .s⟩, ⟨30, 30, .rw, .s⟩, ⟨31, 31, .rw, .s⟩]⟩
  | .CUE_THR_CFG2 => some ⟨.CUE, 0x10004, [(4096, 32)], .plain, 0x0, [⟨3, 0, .rw, .s⟩]⟩
  | .CUE_THR_ENTRY => some ⟨.CUE, 0x10008, [(4096, 32)], .plain, 0x0, [⟨17, 0, .rw, .s⟩]⟩
  | .CUE_THR_NEXT => some ⟨.CUE, 0x1000C, [(4096, 32)], .plain, 0x0, [⟨17, 0, .rw, .s⟩, ⟨31, 31, .rw, .s⟩]⟩
  | .CUE_THR_STAT => some ⟨.CUE, 0x10010, [(4096, 32)], .plain, 0x0, [⟨2, 0, .ro, .live⟩, ⟨6, 4, .ro, .s⟩, ⟨30, 30, .w1c, .s⟩, ⟨31, 31, .w1c, .s⟩]⟩
  | .CUE_THR_PC => some ⟨.CUE, 0x10014, [(4096, 32)], .plain, 0x0, [⟨17, 0, .ro, .live⟩, ⟨23, 20, .ro, .live⟩, ⟨27, 24, .ro, .live⟩]⟩
  | .CUE_THR_BOVER => some ⟨.CUE, 0x10018, [(4096, 32)], .counter, 0x0, [⟨31, 0, .rw, .s⟩]⟩
  | .CUE_THR_G => some ⟨.CUE, 0x40000, [(4096, 64), (16, 4)], .plain, 0x0, [⟨31, 0, .ro, .live⟩]⟩
  | _ => none

/-- The table of block AUD (R293). -/
def RegName.infoAUD : RegName → Option RegInfo
  | .AUD_CFG => some ⟨.AUD, 0x0, [], .plain, 0x18, [⟨5, 0, .rw, .s⟩, ⟨15, 8, .rw, .s⟩]⟩
  | .AUD_STAT => some ⟨.AUD, 0x4, [], .plain, 0x10, [⟨0, 0, .ro, .live⟩, ⟨4, 1, .ro, .live⟩]⟩
  | .AUD_PERIOD_LO => some ⟨.AUD, 0x8, [], .plain, 0x0, [⟨31, 0, .ro, .live⟩]⟩
  | .AUD_PERIOD_HI => some ⟨.AUD, 0xC, [], .plain, 0x0, [⟨15, 0, .ro, .live⟩]⟩
  | .AUD_CS_CAP_SEL => some ⟨.AUD, 0x10, [], .plain, 0x0, [⟨13, 0, .rw, .s⟩, ⟨30, 30, .ro, .live⟩, ⟨31, 31, .ro, .live⟩]⟩
  | .AUD_CS_CAP => some ⟨.AUD, 0x14, [(6, 4)], .plain, 0x0, [⟨31, 0, .ro, .live⟩]⟩
  | .AUD_SLIP_SINGLE_CNT => some ⟨.AUD, 0x40, [], .counter, 0x0, [⟨31, 0, .rw, .s⟩]⟩
  | .AUD_XFADE_CNT => some ⟨.AUD, 0x44, [], .counter, 0x0, [⟨31, 0, .rw, .s⟩]⟩
  | .AUD_RATE_MIS_CNT => some ⟨.AUD, 0x48, [], .counter, 0x0, [⟨31, 0, .rw, .s⟩]⟩
  | .AUD_SP_CFG => some ⟨.AUD, 0x100, [(16, 32)], .plain, 0x0, [⟨0, 0, .rw, .s⟩, ⟨2, 1, .rw, .s⟩, ⟨4, 3, .rw, .s⟩, ⟨5, 5, .rw, .s⟩, ⟨8, 6, .rw, .s⟩, ⟨15, 10, .rw, .s⟩, ⟨16, 16, .rw, .s⟩, ⟨17, 17, .rw, .s⟩]⟩
  | .AUD_SP_CH => some ⟨.AUD, 0x104, [(16, 32)], .plain, 0x0, [⟨13, 0, .rw, .s⟩, ⟨29, 16, .rw, .s⟩]⟩
  | .AUD_SP_MASK => some ⟨.AUD, 0x108, [(16, 32)], .plain, 0xF, [⟨1, 0, .rws, .s⟩, ⟨3, 2, .rws, .s⟩]⟩
  | .AUD_SP_STAT => some ⟨.AUD, 0x10C, [(16, 32)], .plain, 0x1C, [⟨0, 0, .ro, .live⟩, ⟨4, 2, .ro, .live⟩, ⟨8, 8, .w1c, .s⟩, ⟨9, 9, .w1c, .s⟩, ⟨10, 10, .w1c, .s⟩, ⟨11, 11, .w1c, .s⟩, ⟨12, 12, .w1c, .s⟩]⟩
  | .AUD_SP_PARITY => some ⟨.AUD, 0x110, [(16, 32)], .counter, 0x0, [⟨31, 0, .rw, .s⟩]⟩
  | .AUD_SP_CODE => some ⟨.AUD, 0x114, [(16, 32)], .counter, 0x0, [⟨31, 0, .rw, .s⟩]⟩
  | .AUD_SP_CRCC => some ⟨.AUD, 0x118, [(16, 32)], .counter, 0x0, [⟨31, 0, .rw, .s⟩]⟩
  | .AUD_SP_TXSLIP => some ⟨.AUD, 0x11C, [(16, 32)], .counter, 0x0, [⟨31, 0, .rw, .s⟩]⟩
  | .AUD_ASRC_CFG => some ⟨.AUD, 0x400, [(64, 16)], .plain, 0x4, [⟨0, 0, .rw, .s⟩, ⟨3, 1, .rw, .s⟩, ⟨4, 4, .rw, .s⟩, ⟨7, 5, .rw, .s⟩, ⟨25, 16, .rw, .s⟩]⟩
  | .AUD_ASRC_STAT => some ⟨.AUD, 0x404, [(64, 16)], .plain, 0x0, [⟨0, 0, .ro, .live⟩, ⟨14, 8, .ro, .live⟩, ⟨16, 16, .w1c, .s⟩]⟩
  | .AUD_ASRC_RATIO => some ⟨.AUD, 0x408, [(64, 16)], .plain, 0x0, [⟨31, 0, .ro, .live⟩]⟩
  | .AUD_ASRC_UNIT => some ⟨.AUD, 0x800, [(72, 4)], .plain, 0x0, [⟨2, 0, .ro, .live⟩, ⟨13, 8, .ro, .live⟩]⟩
  | .AUD_CS_VAL => some ⟨.AUD, 0x1000, [(256, 64), (6, 4)], .plain, 0x0, [⟨31, 0, .rw, .s⟩]⟩
  | .AUD_CS_MASK => some ⟨.AUD, 0x1020, [(256, 64), (6, 4)], .plain, 0x0, [⟨31, 0, .rw, .s⟩]⟩
  | .AUD_AGRP_CFG => some ⟨.AUD, 0x10000, [(1024, 32)], .plain, 0x30000000, [⟨13, 0, .rw, .s⟩, ⟨22, 16, .rw, .s⟩, ⟨24, 24, .rw, .s⟩, ⟨30, 25, .rw, .s⟩, ⟨31, 31, .rw, .s⟩]⟩
  | .AUD_AGRP_STAT => some ⟨.AUD, 0x10004, [(1024, 32)], .plain, 0x0, [⟨1, 0, .ro, .live⟩, ⟨14, 8, .ro, .live⟩, ⟨22, 16, .ro, .live⟩, ⟨23, 23, .ro, .live⟩]⟩
  | .AUD_AGRP_SLIP => some ⟨.AUD, 0x10008, [(1024, 32)], .counter, 0x0, [⟨31, 0, .rw, .s⟩]⟩
  | .AUD_AGRP_REP => some ⟨.AUD, 0x1000C, [(1024, 32)], .counter, 0x0, [⟨31, 0, .rw, .s⟩]⟩
  | .AUD_AGRP_DROP => some ⟨.AUD, 0x10010, [(1024, 32)], .counter, 0x0, [⟨31, 0, .rw, .s⟩]⟩
  | .AUD_GRP_CFG => some ⟨.AUD, 0x20000, [(2048, 16)], .plain, 0x0, [⟨13, 0, .rw, .s⟩, ⟨22, 16, .rw, .s⟩, ⟨24, 24, .rw, .s⟩]⟩
  | .AUD_GRP_MASK_LO => some ⟨.AUD, 0x20004, [(2048, 16)], .plain, 0x0, [⟨31, 0, .ro, .live⟩]⟩
  | .AUD_GRP_MASK_HI => some ⟨.AUD, 0x20008, [(2048, 16)], .plain, 0x0, [⟨31, 0, .ro, .live⟩]⟩
  | .AUD_GRP_AZX => some ⟨.AUD, 0x2000C, [(2048, 16)], .plain, 0x0, [⟨9, 0, .ro, .live⟩]⟩
  | .AUD_IN_STAT => some ⟨.AUD, 0x40000, [(16384, 4)], .plain, 0x0, [⟨0, 0, .ro, .live⟩, ⟨1, 1, .ro, .live⟩, ⟨4, 2, .ro, .live⟩, ⟨5, 5, .ro, .live⟩, ⟨14, 8, .ro, .live⟩, ⟨25, 16, .ro, .live⟩, ⟨26, 26, .ro, .live⟩]⟩
  | .AUD_OUT_STAT => some ⟨.AUD, 0x50000, [(16384, 16)], .plain, 0x0, [⟨13, 0, .ro, .live⟩, ⟨15, 15, .ro, .live⟩, ⟨16, 16, .ro, .live⟩, ⟨17, 17, .ro, .live⟩, ⟨18, 18, .ro, .live⟩, ⟨19, 19, .ro, .live⟩, ⟨20, 20, .ro, .live⟩, ⟨21, 21, .ro, .live⟩]⟩
  | .AUD_OUT_GAIN => some ⟨.AUD, 0x50004, [(16384, 16)], .plain, 0x0, [⟨15, 0, .ro, .live⟩, ⟨31, 16, .ro, .live⟩]⟩
  | .AUD_OUT_CS => some ⟨.AUD, 0x50008, [(16384, 16)], .plain, 0x0, [⟨1, 0, .rw, .s⟩, ⟨15, 8, .rw, .s⟩]⟩
  | _ => none

/-- The table of block WCOMP (R317). -/
def RegName.infoWCOMP : RegName → Option RegInfo
  | .WCOMP_CFG => some ⟨.WCOMP, 0x0, [], .plain, 0x0, [⟨0, 0, .rw, .s⟩, ⟨3, 1, .rw, .s⟩]⟩
  | .WCOMP_CANVAS => some ⟨.WCOMP, 0x4, [], .plain, 0x0, [⟨14, 0, .rw, .s⟩, ⟨30, 16, .rw, .s⟩]⟩
  | .WCOMP_BAND => some ⟨.WCOMP, 0x8, [], .plain, 0x0, [⟨8, 0, .rw, .s⟩]⟩
  | .WCOMP_STAT => some ⟨.WCOMP, 0xC, [], .plain, 0x0, [⟨0, 0, .ro, .live⟩, ⟨1, 1, .ro, .live⟩, ⟨2, 2, .ro, .live⟩]⟩
  | .WCOMP_BG_R => some ⟨.WCOMP, 0x10, [], .plain, 0x0, [⟨19, 0, .rws, .s⟩]⟩
  | .WCOMP_BG_G => some ⟨.WCOMP, 0x14, [], .plain, 0x0, [⟨19, 0, .rws, .s⟩]⟩
  | .WCOMP_BG_B => some ⟨.WCOMP, 0x18, [], .plain, 0x0, [⟨19, 0, .rws, .s⟩]⟩
  | .WCOMP_CAP_CTL => some ⟨.WCOMP, 0x20, [], .plain, 0x0, [⟨0, 0, .wo, .live⟩]⟩
  | .WCOMP_CAP_BASE => some ⟨.WCOMP, 0x24, [], .plain, 0x0, [⟨23, 0, .rw, .s⟩]⟩
  | .WCOMP_CAP_STAT => some ⟨.WCOMP, 0x28, [], .plain, 0x0, [⟨0, 0, .ro, .live⟩, ⟨1, 1, .w1c, .s⟩, ⟨2, 2, .w1c, .s⟩, ⟨31, 16, .ro, .s⟩]⟩
  | .WCOMP_HBM_RES => some ⟨.WCOMP, 0x2C, [], .plain, 0x0, [⟨19, 0, .ro, .live⟩]⟩
  | .WCOMP_LATE_CNT => some ⟨.WCOMP, 0x40, [], .counter, 0x0, [⟨31, 0, .rw, .s⟩]⟩
  | .WCOMP_SL_ALT_CNT => some ⟨.WCOMP, 0x44, [], .counter, 0x0, [⟨31, 0, .rw, .s⟩]⟩
  | .WCOMP_PIPE_ERR_CNT => some ⟨.WCOMP, 0x48, [], .counter, 0x0, [⟨31, 0, .rw, .s⟩]⟩
  | .WCOMP_PIPE_CFG => some ⟨.WCOMP, 0x100, [(16, 8)], .plain, 0x0, [⟨1, 0, .rw, .s⟩, ⟨13, 4, .rw, .s⟩]⟩
  | .WCOMP_PIPE_STAT => some ⟨.WCOMP, 0x104, [(16, 8)], .plain, 0x0, [⟨4, 0, .ro, .live⟩, ⟨5, 5, .ro, .live⟩, ⟨11, 8, .ro, .live⟩]⟩
  | .WCOMP_UNIT => some ⟨.WCOMP, 0x200, [(17, 4)], .plain, 0x0, [⟨2, 0, .ro, .live⟩, ⟨7, 4, .ro, .live⟩]⟩
  | .WCOMP_PROF => some ⟨.WCOMP, 0x300, [(16, 8)], .plain, 0x5000101, [⟨4, 0, .rws, .s⟩, ⟨11, 8, .rws, .s⟩, ⟨20, 16, .rws, .s⟩, ⟨27, 24, .rws, .s⟩]⟩
  | .WCOMP_PROF2 => some ⟨.WCOMP, 0x304, [(16, 8)], .plain, 0x2305, [⟨4, 0, .rws, .s⟩, ⟨8, 8, .rws, .s⟩, ⟨9, 9, .rws, .s⟩, ⟨13, 12, .rws, .s⟩]⟩
  | .WCOMP_LAYER_CFG => some ⟨.WCOMP, 0x400, [(17, 32)], .plain, 0x0, [⟨3, 0, .rws, .s⟩, ⟨4, 4, .rw, .s⟩]⟩
  | .WCOMP_LAYER_STAT => some ⟨.WCOMP, 0x404, [(17, 32)], .plain, 0xFFF00000, [⟨9, 0, .ro, .live⟩, ⟨10, 10, .ro, .live⟩, ⟨11, 11, .ro, .live⟩, ⟨12, 12, .ro, .live⟩, ⟨13, 13, .ro, .live⟩, ⟨19, 16, .ro, .live⟩, ⟨31, 20, .ro, .live⟩]⟩
  | .WCOMP_LAYER_POS => some ⟨.WCOMP, 0x408, [(17, 32)], .plain, 0x0, [⟨15, 0, .ro, .live⟩, ⟨31, 16, .ro, .live⟩]⟩
  | .WCOMP_LAYER_SIZE => some ⟨.WCOMP, 0x40C, [(17, 32)], .plain, 0x0, [⟨14, 0, .ro, .live⟩, ⟨30, 16, .ro, .live⟩]⟩
  | .WCOMP_LAYER_CROP_POS => some ⟨.WCOMP, 0x410, [(17, 32)], .plain, 0x0, [⟨12, 0, .ro, .live⟩, ⟨28, 16, .ro, .live⟩]⟩
  | .WCOMP_LAYER_CROP_SIZE => some ⟨.WCOMP, 0x414, [(17, 32)], .plain, 0x0, [⟨12, 0, .ro, .live⟩, ⟨28, 16, .ro, .live⟩]⟩
  | .WCOMP_LAYER_SKIP => some ⟨.WCOMP, 0x418, [(17, 32)], .counter, 0x0, [⟨31, 0, .rw, .s⟩]⟩
  | .WCOMP_MAT => some ⟨.WCOMP, 0x800, [(32, 64), (15, 4)], .plain, 0x0, [⟨20, 0, .rw, .s⟩]⟩
  | .WCOMP_SL_PAGE => some ⟨.WCOMP, 0x1000, [(64, 8)], .plain, 0x0, [⟨12, 0, .rw, .s⟩]⟩
  | .WCOMP_SL_PDIM => some ⟨.WCOMP, 0x1004, [(64, 8)], .plain, 0x0, [⟨14, 0, .rw, .s⟩, ⟨29, 15, .rw, .s⟩, ⟨31, 31, .rw, .s⟩]⟩
  | .WCOMP_SL_LOCK => some ⟨.WCOMP, 0x1200, [], .plain, 0x0, [⟨0, 0, .w1s, .p⟩]⟩
  | .WCOMP_SL_STAT => some ⟨.WCOMP, 0x1204, [], .plain, 0x0, [⟨5, 0, .ro, .live⟩, ⟨8, 8, .ro, .live⟩]⟩
  | .WCOMP_SL_LUT => some ⟨.WCOMP, 0x1400, [(256, 4)], .plain, 0x0, [⟨19, 0, .rw, .s⟩]⟩
  | .WCOMP_ENL_H => some ⟨.WCOMP, 0x2000, [(64, 32), (8, 4)], .plain, 0x0, [⟨11, 0, .rw, .s⟩]⟩
  | .WCOMP_ENL_V => some ⟨.WCOMP, 0x2800, [(64, 32), (6, 4)], .plain, 0x0, [⟨11, 0, .rw, .s⟩]⟩
  | .WCOMP_LUT => some ⟨.WCOMP, 0x10000, [(16, 16384), (4096, 4)], .plain, 0x0, [⟨19, 0, .rw, .s⟩]⟩
  | _ => none

/-- The table of block WSCAN (R341). -/
def RegName.infoWSCAN : RegName → Option RegInfo
  | .WSCAN_CFG => some ⟨.WSCAN, 0x0, [], .plain, 0x32014F00, [⟨0, 0, .rw, .s⟩, ⟨1, 1, .rw, .s⟩, ⟨11, 8, .rw, .s⟩, ⟨21, 12, .rw, .s⟩, ⟨31, 22, .rw, .s⟩]⟩
  | .WSCAN_STAT => some ⟨.WSCAN, 0x4, [], .plain, 0x0, [⟨0, 0, .ro, .live⟩, ⟨1, 1, .ro, .live⟩]⟩
  | .WSCAN_SCAN_BASE => some ⟨.WSCAN, 0x8, [], .plain, 0x0, [⟨23, 0, .rw, .s⟩]⟩
  | .WSCAN_LC_BASE_A => some ⟨.WSCAN, 0xC, [], .plain, 0x0, [⟨23, 0, .rw, .s⟩]⟩
  | .WSCAN_LC_BASE_B => some ⟨.WSCAN, 0x10, [], .plain, 0x0, [⟨23, 0, .rw, .s⟩]⟩
  | .WSCAN_WM => some ⟨.WSCAN, 0x14, [], .plain, 0xA19, [⟨6, 0, .rw, .s⟩, ⟨14, 8, .rw, .s⟩]⟩
  | .WSCAN_THERM => some ⟨.WSCAN, 0x18, [], .plain, 0x55, [⟨7, 0, .rw, .s⟩]⟩
  | .WSCAN_FREEZE => some ⟨.WSCAN, 0x1C, [], .plain, 0x80C, [⟨7, 0, .rw, .s⟩, ⟨12, 8, .rw, .s⟩]⟩
  | .WSCAN_CUR => some ⟨.WSCAN, 0x20, [], .plain, 0x80, [⟨7, 0, .rws, .s⟩]⟩
  | .WSCAN_OC_SEL => some ⟨.WSCAN, 0x24, [], .plain, 0x0, [⟨2, 0, .rws, .s⟩, ⟨6, 4, .rws, .s⟩, ⟨10, 8, .rws, .s⟩]⟩
  | .WSCAN_LOOP_CFG => some ⟨.WSCAN, 0x28, [], .plain, 0x10, [⟨7, 0, .rw, .s⟩]⟩
  | .WSCAN_HBM_RES => some ⟨.WSCAN, 0x30, [], .plain, 0x0, [⟨19, 0, .ro, .live⟩]⟩
  | .WSCAN_HOT_CNT => some ⟨.WSCAN, 0x40, [], .counter, 0x0, [⟨31, 0, .rw, .s⟩]⟩
  | .WSCAN_LC_ALT_CNT => some ⟨.WSCAN, 0x44, [], .counter, 0x0, [⟨31, 0, .rw, .s⟩]⟩
  | .WSCAN_UNMAPPED_CNT => some ⟨.WSCAN, 0x48, [], .counter, 0x0, [⟨31, 0, .rw, .s⟩]⟩
  | .WSCAN_IDREAD_FAIL_CNT => some ⟨.WSCAN, 0x4C, [], .counter, 0x0, [⟨31, 0, .rw, .s⟩]⟩
  | .WSCAN_PORT_CFG => some ⟨.WSCAN, 0x1000, [(128, 32)], .plain, 0x0, [⟨0, 0, .rw, .s⟩, ⟨7, 1, .rw, .s⟩, ⟨8, 8, .rw, .s⟩]⟩
  | .WSCAN_PORT_STAT => some ⟨.WSCAN, 0x1004, [(128, 32)], .plain, 0x0, [⟨0, 0, .ro, .live⟩, ⟨1, 1, .ro, .live⟩, ⟨9, 4, .ro, .live⟩, ⟨13, 12, .ro, .live⟩, ⟨22, 16, .ro, .live⟩, ⟨24, 24, .w1c, .s⟩]⟩
  | .WSCAN_PORT_LOAD => some ⟨.WSCAN, 0x1008, [(128, 32)], .plain, 0x0, [⟨23, 0, .ro, .live⟩]⟩
  | .WSCAN_PORT_UNDER => some ⟨.WSCAN, 0x100C, [(128, 32)], .counter, 0x0, [⟨31, 0, .rw, .s⟩]⟩
  | .WSCAN_PORT_RXERR => some ⟨.WSCAN, 0x1010, [(128, 32)], .counter, 0x0, [⟨31, 0, .rw, .s⟩]⟩
  | .WSCAN_REG_POS => some ⟨.WSCAN, 0x2000, [(64, 16)], .plain, 0x0, [⟨14, 0, .rw, .s⟩, ⟨30, 16, .rw, .s⟩]⟩
  | .WSCAN_REG_SIZE => some ⟨.WSCAN, 0x2004, [(64, 16)], .plain, 0x0, [⟨14, 0, .rw, .s⟩, ⟨30, 16, .rw, .s⟩, ⟨31, 31, .rw, .s⟩]⟩
  | .WSCAN_REG_SIG => some ⟨.WSCAN, 0x2008, [(64, 16)], .plain, 0x0, [⟨31, 0, .ro, .live⟩]⟩
  | .WSCAN_REG_STAT => some ⟨.WSCAN, 0x200C, [(64, 16)], .plain, 0x0, [⟨0, 0, .ro, .live⟩, ⟨15, 8, .ro, .live⟩]⟩
  | .WSCAN_LPROOF_SIG => some ⟨.WSCAN, 0x3000, [(16, 8)], .plain, 0x0, [⟨31, 0, .ro, .live⟩]⟩
  | .WSCAN_LPROOF_STAT => some ⟨.WSCAN, 0x3004, [(16, 8)], .plain, 0x0, [⟨0, 0, .ro, .live⟩, ⟨15, 8, .ro, .live⟩]⟩
  | .WSCAN_TILE_CFG => some ⟨.WSCAN, 0x10000, [(1024, 64)], .plain, 0x0, [⟨0, 0, .rw, .s⟩, ⟨7, 1, .rw, .s⟩, ⟨12, 8, .rw, .s⟩, ⟨14, 13, .rw, .s⟩, ⟨15, 15, .rw, .s⟩]⟩
  | .WSCAN_TILE_DIM => some ⟨.WSCAN, 0x10004, [(1024, 64)], .plain, 0x0, [⟨8, 0, .rw, .s⟩, ⟨24, 16, .rw, .s⟩]⟩
  | .WSCAN_TILE_ORG => some ⟨.WSCAN, 0x10008, [(1024, 64)], .plain, 0x0, [⟨14, 0, .rw, .s⟩, ⟨30, 16, .rw, .s⟩]⟩
  | .WSCAN_TILE_LC => some ⟨.WSCAN, 0x1000C, [(1024, 64)], .plain, 0x0, [⟨25, 0, .rw, .s⟩]⟩
  | .WSCAN_TILE_STAT => some ⟨.WSCAN, 0x10010, [(1024, 64)], .plain, 0x0, [⟨2, 0, .ro, .live⟩, ⟨3, 3, .ro, .live⟩, ⟨4, 4, .ro, .live⟩, ⟨5, 5, .ro, .live⟩, ⟨6, 6, .w1c, .s⟩, ⟨31, 16, .ro, .live⟩]⟩
  | .WSCAN_TILE_PTPOFS => some ⟨.WSCAN, 0x10014, [(1024, 64)], .plain, 0x0, [⟨31, 0, .ro, .live⟩]⟩
  | .WSCAN_TILE_PCC => some ⟨.WSCAN, 0x10018, [(1024, 64)], .plain, 0x0, [⟨7, 0, .rws, .s⟩, ⟨15, 8, .rws, .s⟩, ⟨23, 16, .rws, .s⟩, ⟨31, 24, .ro, .live⟩]⟩
  | .WSCAN_TILE_UBLACK => some ⟨.WSCAN, 0x1001C, [(1024, 64)], .plain, 0x0, [⟨7, 0, .rws, .s⟩, ⟨15, 8, .rws, .s⟩, ⟨23, 16, .rws, .s⟩]⟩
  | .WSCAN_TILE_HOT_CNT => some ⟨.WSCAN, 0x10020, [(1024, 64)], .counter, 0x0, [⟨31, 0, .rw, .s⟩]⟩
  | .WSCAN_TILE_SERIAL_LO => some ⟨.WSCAN, 0x10024, [(1024, 64)], .plain, 0x0, [⟨31, 0, .ro, .s⟩]⟩
  | .WSCAN_TILE_SERIAL_HI => some ⟨.WSCAN, 0x10028, [(1024, 64)], .plain, 0x0, [⟨31, 0, .ro, .s⟩]⟩
  | .WSCAN_TRIM => some ⟨.WSCAN, 0x80000, [(1024, 128), (9, 4)], .plain, 0x0, [⟨17, 0, .ro, .s⟩]⟩
  | .WSCAN_UTRIM => some ⟨.WSCAN, 0x80024, [(1024, 128), (9, 4)], .plain, 0x0, [⟨17, 0, .rws, .s⟩]⟩
  | .WSCAN_TARGET => some ⟨.WSCAN, 0x80048, [(1024, 128), (9, 4)], .plain, 0x0, [⟨15, 0, .rw, .s⟩, ⟨31, 31, .rw, .s⟩]⟩
  | .WSCAN_SENSOR => some ⟨.WSCAN, 0x8006C, [(1024, 128), (5, 4)], .plain, 0x0, [⟨15, 0, .ro, .live⟩, ⟨31, 16, .ro, .live⟩]⟩
  | .WSCAN_OCURVE => some ⟨.WSCAN, 0x100000, [(8, 16384), (4096, 4)], .plain, 0x0, [⟨15, 0, .rw, .s⟩]⟩
  | _ => none

/-- The table of block HBM (R440). -/
def RegName.infoHBM : RegName → Option RegInfo
  | .HBM_STAT => some ⟨.HBM, 0x20, [(2, 4)], .plain, 0x22000, [⟨0, 0, .ro, .live⟩, ⟨1, 1, .ro, .live⟩, ⟨13, 8, .ro, .live⟩, ⟨17, 16, .ro, .live⟩, ⟨27, 20, .ro, .live⟩]⟩
  | .HBM_WAIT_MAX => some ⟨.HBM, 0x30, [(9, 4)], .counter, 0x0, [⟨15, 0, .rw, .s⟩]⟩
  | .HBM_ECC_LAST => some ⟨.HBM, 0x0, [], .plain, 0x0, [⟨6, 0, .ro, .s⟩, ⟨31, 8, .ro, .s⟩]⟩
  | .HBM_ECC_CORR_CNT => some ⟨.HBM, 0x10, [], .counter, 0x0, [⟨31, 0, .rw, .s⟩]⟩
  | .HBM_ECC_UNCORR_CNT => some ⟨.HBM, 0x14, [], .counter, 0x0, [⟨31, 0, .rw, .s⟩]⟩
  | _ => none

/-- The table of block ULINK (R114). -/
def RegName.infoULINK : RegName → Option RegInfo
  | .ULINK_CFG => some ⟨.ULINK, 0x0, [(32, 64)], .plain, 0xE00200, [⟨0, 0, .rw, .s⟩, ⟨7, 1, .rw, .s⟩, ⟨8, 8, .rw, .s⟩, ⟨9, 9, .rw, .s⟩, ⟨12, 10, .rw, .s⟩, ⟨13, 13, .rw, .s⟩, ⟨15, 14, .rw, .s⟩, ⟨19, 16, .rw, .s⟩, ⟨23, 20, .rw, .s⟩]⟩
  | .ULINK_STAT => some ⟨.ULINK, 0x4, [(32, 64)], .plain, 0x0, [⟨2, 0, .ro, .live⟩, ⟨3, 3, .ro, .live⟩, ⟨9, 4, .ro, .live⟩, ⟨10, 10, .ro, .live⟩, ⟨15, 11, .ro, .live⟩, ⟨19, 16, .ro, .live⟩, ⟨20, 20, .ro, .live⟩]⟩
  | .ULINK_HOP_NS => some ⟨.ULINK, 0x8, [(32, 64)], .plain, 0x0, [⟨23, 0, .ro, .live⟩]⟩
  | .ULINK_FEC_CORR => some ⟨.ULINK, 0xC, [(32, 64)], .counter, 0x0, [⟨31, 0, .rw, .s⟩]⟩
  | .ULINK_FEC_UNCORR => some ⟨.ULINK, 0x10, [(32, 64)], .counter, 0x0, [⟨31, 0, .rw, .s⟩]⟩
  | .ULINK_CELL_LOST => some ⟨.ULINK, 0x14, [(32, 64)], .counter, 0x0, [⟨31, 0, .rw, .s⟩]⟩
  | .ULINK_LINE_CRC => some ⟨.ULINK, 0x18, [(32, 64)], .counter, 0x0, [⟨31, 0, .rw, .s⟩]⟩
  | .ULINK_DOWN_CNT => some ⟨.ULINK, 0x1C, [(32, 64)], .counter, 0x0, [⟨31, 0, .rw, .s⟩]⟩
  | .ULINK_MARK_CNT => some ⟨.ULINK, 0x20, [(32, 64)], .counter, 0x0, [⟨31, 0, .rw, .s⟩]⟩
  | .ULINK_TXA => some ⟨.ULINK, 0x24, [(32, 64)], .plain, 0x0, [⟨13, 0, .rw, .s⟩, ⟨26, 16, .rw, .s⟩]⟩
  | .ULINK_RXA => some ⟨.ULINK, 0x28, [(32, 64)], .plain, 0x0, [⟨13, 0, .rw, .s⟩, ⟨26, 16, .rw, .s⟩]⟩
  | .ULINK_MB_CTL => some ⟨.ULINK, 0x2C, [(32, 64)], .plain, 0x0, [⟨6, 0, .rw, .s⟩, ⟨8, 8, .wo, .live⟩, ⟨9, 9, .wo, .live⟩, ⟨12, 10, .ro, .live⟩, ⟨13, 13, .ro, .live⟩]⟩
  | .ULINK_LOAD => some ⟨.ULINK, 0x30, [(32, 64)], .plain, 0x0, [⟨19, 0, .ro, .live⟩]⟩
  | .ULINK_ANC_DROP => some ⟨.ULINK, 0x34, [(32, 64)], .counter, 0x0, [⟨31, 0, .rw, .s⟩]⟩
  | .ULINK_MB_TXBUF => some ⟨.ULINK, 0x1000, [(32, 256), (32, 4)], .plain, 0x0, [⟨31, 0, .rw, .s⟩]⟩
  | .ULINK_MB_RXBUF => some ⟨.ULINK, 0x1080, [(32, 256), (32, 4)], .plain, 0x0, [⟨31, 0, .ro, .live⟩]⟩
  | .ULINK_TXV => some ⟨.ULINK, 0x3000, [(768, 8)], .plain, 0x0, [⟨9, 0, .rw, .s⟩, ⟨21, 16, .rw, .s⟩, ⟨31, 31, .rw, .s⟩]⟩
  | .ULINK_RXV => some ⟨.ULINK, 0x3004, [(768, 8)], .plain, 0x0, [⟨9, 0, .rw, .s⟩, ⟨31, 31, .rw, .s⟩]⟩
  | _ => none

/-- The block of a register. -/
def RegName.blk : RegName → Blk
  | .RST_CAUSE => .RST
  | .RST_STAT => .RST
  | .RST_SWRST => .RST
  | .RST_WDT_CFG => .RST
  | .RST_WDT_KICK => .RST
  | .RST_WDT_STAT => .RST
  | .RST_HEALTH => .RST
  | .RST_LC_REQ => .RST
  | .RST_POR_CNT => .RST
  | .RST_SYS_CNT => .RST
  | .RST_CORE_CNT => .RST
  | .RST_CONF_CNT => .RST
  | .CLK_STAT => .CLK
  | .CLK_XTAL_PPM => .CLK
  | .CLK_DOM_RUN => .CLK
  | .CLK_SLEEP_CNT => .CLK
  | .CLK_PLL_START_CNT => .CLK
  | .PWR_LEDGER => .PWR
  | .PWR_BIST_CAP => .PWR
  | .PWR_BIST_STAT => .PWR
  | .PWR_TJ => .PWR
  | .PWR_TJ_PEAK => .PWR
  | .PWR_THERM_CFG => .PWR
  | .PWR_THERM_STAT => .PWR
  | .PWR_CAP_HOLD_CNT => .PWR
  | .PWR_TEMP => .PWR
  | .BUS_CFG => .BUS
  | .BUS_STAT => .BUS
  | .BUS_STALL_ABORT => .BUS
  | .BUS_FAULT_LAST => .BUS
  | .BUS_FAULT_ADDR_LO => .BUS
  | .BUS_FAULT_ADDR_HI => .BUS
  | .BUS_STALL_CNT => .BUS
  | .BUS_LOCK_TO_CNT => .BUS
  | .BUS_REG_ACCESS_CNT => .BUS
  | .BUS_DENY_CNT => .BUS
  | .BUS_STALL_ADDR_LO => .BUS
  | .BUS_STALL_ADDR_HI => .BUS
  | .BUS_WAIT_MAX => .BUS
  | .BUS_DMA_DESC_LO => .BUS
  | .BUS_DMA_DESC_HI => .BUS
  | .BUS_DMA_CTL => .BUS
  | .BUS_DMA_STAT => .BUS
  | .BUS_DMA_LEFT => .BUS
  | .CPU_STAT => .CPU
  | .CPU_CORE_STAT => .CPU
  | .CPU_HART_BOOT_LO => .CPU
  | .CPU_HART_BOOT_HI => .CPU
  | .CPU_IRQ_EN_LO => .CPU
  | .CPU_IRQ_EN_HI => .CPU
  | .CPU_IRQ_PEND_LO => .CPU
  | .CPU_IRQ_PEND_HI => .CPU
  | .CPU_IRQ_NEXT => .CPU
  | .CPU_IPI => .CPU
  | .CPU_MTIMECMP_LO => .CPU
  | .CPU_MTIMECMP_HI => .CPU
  | .CPU_SUP_IRQ_EN_LO => .CPU
  | .CPU_SUP_IRQ_EN_HI => .CPU
  | .CPU_L2_MAINT => .CPU
  | .CPU_L2_ADDR_LO => .CPU
  | .CPU_L2_ADDR_HI => .CPU
  | .CPU_L2_ECC_CORR => .CPU
  | .CPU_SRAM_ECC_CORR => .CPU
  | .CPU_LOCKUP_CNT => .CPU
  | .CPU_HANDOVER_CNT => .CPU
  | .VAULT_CFG => .VAULT
  | .VAULT_STAT => .VAULT
  | .VAULT_CMD => .VAULT
  | .VAULT_CMD_STAT => .VAULT
  | .VAULT_REC => .VAULT
  | .VAULT_HBM_ROWS => .VAULT
  | .VAULT_ROT_CNT => .VAULT
  | .VAULT_RETIRE_CNT => .VAULT
  | .VAULT_ROW_CNT => .VAULT
  | .VAULT_ROT => .VAULT
  | .VAULT_THR_HOURS => .VAULT
  | .VAULT_THR_ECC => .VAULT
  | .VAULT_THR_VMIN => .VAULT
  | .VAULT_LG_HRS => .VAULT
  | .VAULT_LG_ECC => .VAULT
  | .VAULT_LG_VMIN => .VAULT
  | .VAULT_LG_BIST => .VAULT
  | .VAULT_RETIRED => .VAULT
  | .BIST_CMD => .BIST
  | .BIST_CMD_STAT => .BIST
  | .BIST_STAT => .BIST
  | .BIST_LAST => .BIST
  | .BIST_LAST_DONE_LO => .BIST
  | .BIST_LAST_DONE_HI => .BIST
  | .BIST_LAST_EXP_LO => .BIST
  | .BIST_LAST_EXP_HI => .BIST
  | .BIST_LAST_SIG => .BIST
  | .BIST_LAST_SIG_EXP => .BIST
  | .BIST_PASS_CNT => .BIST
  | .BIST_FAIL_CNT => .BIST
  | .BIST_INC_CNT => .BIST
  | .IDM_CFG => .IDM
  | .IDM_STRAP => .IDM
  | .IDM_NACK_CNT => .IDM
  | .IDM_STUCK_CNT => .IDM
  | .IDM_REC_FAIL_CNT => .IDM
  | .IDM_TILE_FAIL_CNT => .IDM
  | .IDM_TILE_LAST => .IDM
  | .IDM_CMD => .IDM
  | .IDM_ARG => .IDM
  | .IDM_STAT => .IDM
  | .IDM_BUF => .IDM
  | .IDM_SITE_CFG => .IDM
  | .IDM_SITE_STAT => .IDM
  | .IDM_TILE_FACT => .IDM
  | .CAL_STAT => .CAL
  | .CAL_OSC => .CAL
  | .CAL_UID_LO => .CAL
  | .CAL_UID_HI => .CAL
  | .CAL_REPAIR => .CAL
  | .CAL_LANE_TXF => .CAL
  | .CAL_LANE_TXE => .CAL
  | .CAL_TS_F => .CAL
  | .CAL_TS_U => .CAL
  | .FWU_CMD => .FWU
  | .FWU_CMD_STAT => .FWU
  | .FWU_ACT_AT_LO => .FWU
  | .FWU_ACT_AT_HI => .FWU
  | .FWU_SLOT_STAT => .FWU
  | .FWU_SLOT_RECV => .FWU
  | .FWU_SLOT_VER => .FWU
  | .FWU_RUN => .FWU
  | .FWU_PIECE_CNT => .FWU
  | .FWU_DUP_CNT => .FWU
  | .FWU_REFUSE_CNT => .FWU
  | .FWU_FALLBACK_CNT => .FWU
  | .FWU_PHDR => .FWU
  | .FWU_PBUF => .FWU
  | .GPIO_DIR => .GPIO
  | .GPIO_OUT => .GPIO
  | .GPIO_IN => .GPIO
  | .GPIO_CUE => .GPIO
  | .GPIO_ALERT_CFG => .GPIO
  | .GPIO_ALERT_STAT => .GPIO
  | .TTB_CFG => .TTB
  | .TTB_STAT => .TTB
  | .TTB_STAGE_ARG => .TTB
  | .TTB_STAGE_AT_LO => .TTB
  | .TTB_STAGE_AT_HI => .TTB
  | .TTB_PEEK_ADDR => .TTB
  | .TTB_PEEK_DATA => .TTB
  | .TTB_CARD_WORD => .TTB
  | .TTB_TAKE_CNT => .TTB
  | .TTB_BUSY_CNT => .TTB
  | .TTB_WR_BAD_CNT => .TTB
  | .REF_SEL_STAT => .REF
  | .REF_QL_MIN => .REF
  | .REF_QL_FIXED => .REF
  | .REF_MON_CFG => .REF
  | .REF_DRIFT_CFG => .REF
  | .REF_HOLD_CFG => .REF
  | .REF_QUAL_TIME => .REF
  | .REF_LOOP_CFG => .REF
  | .REF_SRC_STAT => .REF
  | .REF_SRC_OFFSET => .REF
  | .REF_HOLD_FREQ => .REF
  | .REF_PHASE_ERR => .REF
  | .REF_DISAGREE_PAIR => .REF
  | .REF_DISAGREE_OFS_X => .REF
  | .REF_DISAGREE_OFS_Y => .REF
  | .REF_REQUAL => .REF
  | .REF_PPS_TAI_LO => .REF
  | .REF_PPS_TAI_HI => .REF
  | .REF_RELOCK_CNT => .REF
  | .REF_HOLD_SECONDS => .REF
  | .REF_OUT_CFG => .REF
  | .REF_QLMAP => .REF
  | .REF_TD_CFG => .REF
  | .REF_TD_LINES => .REF
  | .REF_TD_PHASE => .REF
  | .REF_TD_STAT => .REF
  | .REF_TD_FRAME => .REF
  | .REF_TD_SHUTTER_LO => .REF
  | .REF_TD_SHUTTER_HI => .REF
  | .PTP_ET_CFG => .PTP
  | .PTP_ET_STAT => .PTP
  | .PTP_ET_LO => .PTP
  | .PTP_ET_HI => .PTP
  | .PTP_TOD_SEC_LO => .PTP
  | .PTP_TOD_SEC_HI => .PTP
  | .PTP_TOD_NS => .PTP
  | .PTP_ET_RESID_LO => .PTP
  | .PTP_ET_RESID_HI => .PTP
  | .PTP_ET_STEP => .PTP
  | .PTP_DOM_CFG => .PTP
  | .PTP_DOM_INTV => .PTP
  | .PTP_SERVO_KP => .PTP
  | .PTP_SERVO_KI => .PTP
  | .PTP_SERVO_THR => .PTP
  | .PTP_SERVO_FMAX => .PTP
  | .PTP_DOM_STAT => .PTP
  | .PTP_DOM_OFFSET => .PTP
  | .PTP_DOM_MPD => .PTP
  | .PTP_DOM_FREQ => .PTP
  | .PTP_DOM_GM_LO => .PTP
  | .PTP_DOM_GM_HI => .PTP
  | .PTP_DOM_ANN => .PTP
  | .PTP_DOM_STEP_CNT => .PTP
  | .PTP_DOM_SYNC_CNT => .PTP
  | .PTP_DOM_LOST_CNT => .PTP
  | .PTP_DOM_SEC_LO => .PTP
  | .PTP_DOM_SEC_HI => .PTP
  | .PTP_DOM_NS => .PTP
  | .PTP_TILE_CFG => .PTP
  | .PTP_TILE_DREQ_DROP => .PTP
  | .PTP_TS_ADJ => .PTP
  | .PTP_TSQ_STAT => .PTP
  | .PTP_TSQ_TAG => .PTP
  | .PTP_TSQ_TS_LO => .PTP
  | .PTP_TSQ_TS_HI => .PTP
  | .PTP_TSQ_DROP => .PTP
  | .MGMT_CFG => .MGMT
  | .MGMT_STAT => .MGMT
  | .MGMT_IPV4 => .MGMT
  | .MGMT_RX_HEAD => .MGMT
  | .MGMT_RX_TAIL => .MGMT
  | .MGMT_TX_HEAD => .MGMT
  | .MGMT_TX_TAIL => .MGMT
  | .MGMT_ADDR_LO => .MGMT
  | .MGMT_ADDR_HI => .MGMT
  | .MGMT_RX_FCS => .MGMT
  | .MGMT_RX_RUNT => .MGMT
  | .MGMT_RX_OVERSIZE => .MGMT
  | .MGMT_RX_ALIGN => .MGMT
  | .MGMT_RX_FILTER => .MGMT
  | .MGMT_RX_HOST_DROP => .MGMT
  | .MGMT_RX_PAUSE => .MGMT
  | .MGMT_TX_OVERSIZE => .MGMT
  | .MGMT_RX_FRAMES_LO => .MGMT
  | .MGMT_RX_FRAMES_HI => .MGMT
  | .MGMT_TX_FRAMES_LO => .MGMT
  | .MGMT_TX_FRAMES_HI => .MGMT
  | .LANE_CFG => .LANE
  | .LANE_TXEQ => .LANE
  | .LANE_RXEQ => .LANE
  | .LANE_STAT => .LANE
  | .LANE_EYE => .LANE
  | .LANE_LOS_CNT => .LANE
  | .LANE_QUAD_STAT => .LANE
  | .LANE_EYE_CFG => .LANE
  | .LANE_EYE_CLR => .LANE
  | .SDI_RX_CFG => .SDI
  | .SDI_RX_CFG2 => .SDI
  | .SDI_RX_AUD => .SDI
  | .SDI_RX_AUD2 => .SDI
  | .SDI_RX_STAT => .SDI
  | .SDI_RX_PHASE => .SDI
  | .SDI_RX_PID => .SDI
  | .SDI_RX_PID2 => .SDI
  | .SDI_RX_TRS_ERR => .SDI
  | .SDI_RX_LN_ERR => .SDI
  | .SDI_RX_CRC_ERR => .SDI
  | .SDI_RX_ANC_CS => .SDI
  | .SDI_RX_ANC_DROP => .SDI
  | .SDI_RX_AUD_ECC => .SDI
  | .SDI_RX_UNLOCK_CNT => .SDI
  | .SDI_RX_SKEW_CNT => .SDI
  | .SDI_TX_CFG => .SDI
  | .SDI_TX_CFG2 => .SDI
  | .SDI_TX_AUD => .SDI
  | .SDI_TX_AUD2 => .SDI
  | .SDI_TX_STAT => .SDI
  | .SDI_TX_PID => .SDI
  | .SDI_TX_ANC_DROP => .SDI
  | .SDI_TX_ANC_DEL => .SDI
  | .MPORT_CFG => .MPORT
  | .MPORT_MAC_LO => .MPORT
  | .MPORT_MAC_HI => .MPORT
  | .MPORT_IPV4 => .MPORT
  | .MPORT_STAT => .MPORT
  | .MPORT_TX_LOAD => .MPORT
  | .MPORT_HRX_BASE_LO => .MPORT
  | .MPORT_HRX_CFG => .MPORT
  | .MPORT_HRX_HEAD => .MPORT
  | .MPORT_HRX_TAIL => .MPORT
  | .MPORT_HTX_BASE_LO => .MPORT
  | .MPORT_HTX_CFG => .MPORT
  | .MPORT_HTX_HEAD => .MPORT
  | .MPORT_HTX_TAIL => .MPORT
  | .MPORT_RX_FCS => .MPORT
  | .MPORT_RX_RUNT => .MPORT
  | .MPORT_RX_OVERSIZE => .MPORT
  | .MPORT_RX_ALIGN => .MPORT
  | .MPORT_RX_IP_ERR => .MPORT
  | .MPORT_RX_FILTER => .MPORT
  | .MPORT_RX_FLOW_DROP => .MPORT
  | .MPORT_RX_HOST_DROP => .MPORT
  | .MPORT_TX_OVERSIZE => .MPORT
  | .MPORT_TX_PAUSE_DROP => .MPORT
  | .MPORT_RX_FRAMES_LO => .MPORT
  | .MPORT_RX_FRAMES_HI => .MPORT
  | .MPORT_TX_FRAMES_LO => .MPORT
  | .MPORT_TX_FRAMES_HI => .MPORT
  | .MPORT_FEC_CORR => .MPORT
  | .MPORT_FEC_UNCORR => .MPORT
  | .MPORT_RXC_CFG => .MPORT
  | .MPORT_RXC_DST => .MPORT
  | .MPORT_RXC_CHK => .MPORT
  | .MPORT_RXC_SSRC => .MPORT
  | .MPORT_RXC_STAT => .MPORT
  | .MPORT_RXC_PHASE => .MPORT
  | .MPORT_RXC_LOSS => .MPORT
  | .MPORT_RXC_LATE => .MPORT
  | .MPORT_RXC_MALFORMED => .MPORT
  | .MPORT_RXC_AUD => .MPORT
  | .MPORT_RXC_UNLOCK_CNT => .MPORT
  | .MPORT_RXC_SDI_ERR => .MPORT
  | .MPORT_MRG_CFG => .MPORT
  | .MPORT_MRG_DELAY => .MPORT
  | .MPORT_MRG_BUF => .MPORT
  | .MPORT_MRG_STAT => .MPORT
  | .MPORT_MRG_SKEW => .MPORT
  | .MPORT_MRG_LATE => .MPORT
  | .MPORT_MRG_LOST => .MPORT
  | .MPORT_MRG_LEADCHG => .MPORT
  | .MPORT_TXC_CFG => .MPORT
  | .MPORT_TXC_SRC => .MPORT
  | .MPORT_TXC_DIP_A => .MPORT
  | .MPORT_TXC_DIP_B => .MPORT
  | .MPORT_TXC_UDP => .MPORT
  | .MPORT_TXC_SSRC => .MPORT
  | .MPORT_TXC_HDR => .MPORT
  | .MPORT_TXC_PKT => .MPORT
  | .MPORT_TXC_TRO => .MPORT
  | .MPORT_TXC_WIRE => .MPORT
  | .MPORT_TXC_STAT => .MPORT
  | .MPORT_TXC_PKTS_LO => .MPORT
  | .MPORT_TXC_PKTS_HI => .MPORT
  | .FLOW_CFG => .FLOW
  | .FLOW_STAT => .FLOW
  | .FLOW_COUNT => .FLOW
  | .FLOW_Q_DATA => .FLOW
  | .FLOW_Q_CMD => .FLOW
  | .FLOW_Q_STAT => .FLOW
  | .FLOW_RES => .FLOW
  | .FLOW_RES_DATA => .FLOW
  | .FLOW_AGED => .FLOW
  | .FLOW_HIT => .FLOW
  | .FLOW_MISS => .FLOW
  | .FLOW_INS_FULL => .FLOW
  | .FLOW_AGED_CNT => .FLOW
  | .FLOW_ECC_CORR => .FLOW
  | .FLOW_ECC_UNCORR => .FLOW
  | .FLOW_MOVES => .FLOW
  | .FLOW_CMDQ_OVF => .FLOW
  | .XPT_CFG => .XPT
  | .XPT_STAT => .XPT
  | .XPT_CAP_A => .XPT
  | .XPT_CAP_B => .XPT
  | .XPT_LOAD_A_IN => .XPT
  | .XPT_LOAD_A_OUT => .XPT
  | .XPT_LOAD_B_IN => .XPT
  | .XPT_LOAD_B_OUT => .XPT
  | .XPT_STORE_A => .XPT
  | .XPT_STORE_B => .XPT
  | .XPT_OVL_EFF => .XPT
  | .XPT_HBM_LOAD => .XPT
  | .XPT_REFUSE_CNT => .XPT
  | .XPT_DEMOTE_CNT => .XPT
  | .XPT_REMOVE_CNT => .XPT
  | .XPT_MERGE_A_CNT => .XPT
  | .XPT_MERGE_B_CNT => .XPT
  | .XPT_MERGE_BOTH_CNT => .XPT
  | .XPT_CHECK_T_CNT => .XPT
  | .XPT_UNDERRUN_CNT => .XPT
  | .XPT_FS_REPEAT_CNT => .XPT
  | .XPT_FS_DROP_CNT => .XPT
  | .XPT_CHK_LAST => .XPT
  | .XPT_FS_STAT => .XPT
  | .XPT_FS_REGION => .XPT
  | .XPT_SLICE_STAT => .XPT
  | .XPT_SLICE_CHK => .XPT
  | .XPT_VIN_CFG => .XPT
  | .XPT_VIN_STAT => .XPT
  | .XPT_VIN_MMIN => .XPT
  | .XPT_VIN_MMAX => .XPT
  | .XPT_VOUT_CFG => .XPT
  | .XPT_ROUTE => .XPT
  | .XPT_ROUTE_LAT => .XPT
  | .XPT_VOUT_ROFF => .XPT
  | .XPT_VOUT_RHOLD => .XPT
  | .XPT_REFUSE => .XPT
  | .XPT_VOUT_BOTH => .XPT
  | .CUE_CFG => .CUE
  | .CUE_STAT => .CUE
  | .CUE_PS_SWAP_LO => .CUE
  | .CUE_PS_SWAP_HI => .CUE
  | .CUE_PS_STAT => .CUE
  | .CUE_THR_CMD => .CUE
  | .CUE_TQ_W0 => .CUE
  | .CUE_TQ_W1 => .CUE
  | .CUE_TQ_W2 => .CUE
  | .CUE_TQ_W3 => .CUE
  | .CUE_TQ_STAT => .CUE
  | .CUE_TQ_FULL_CNT => .CUE
  | .CUE_TQ_NOOWNER_CNT => .CUE
  | .CUE_TQ_STALE_CNT => .CUE
  | .CUE_SUPERSEDE_CNT => .CUE
  | .CUE_BUDGET_OVER_CNT => .CUE
  | .CUE_FAULT_CNT => .CUE
  | .CUE_CGRP_HOLD_CNT => .CUE
  | .CUE_PS_REJECT_CNT => .CUE
  | .CUE_FAULT_LAST => .CUE
  | .CUE_SHARE => .CUE
  | .CUE_LOAD => .CUE
  | .CUE_LOAD_LIM => .CUE
  | .CUE_DOM_STAT => .CUE
  | .CUE_ENG_STAT => .CUE
  | .CUE_THR_CFG => .CUE
  | .CUE_THR_CFG2 => .CUE
  | .CUE_THR_ENTRY => .CUE
  | .CUE_THR_NEXT => .CUE
  | .CUE_THR_STAT => .CUE
  | .CUE_THR_PC => .CUE
  | .CUE_THR_BOVER => .CUE
  | .CUE_THR_G => .CUE
  | .AUD_CFG => .AUD
  | .AUD_STAT => .AUD
  | .AUD_PERIOD_LO => .AUD
  | .AUD_PERIOD_HI => .AUD
  | .AUD_CS_CAP_SEL => .AUD
  | .AUD_CS_CAP => .AUD
  | .AUD_SLIP_SINGLE_CNT => .AUD
  | .AUD_XFADE_CNT => .AUD
  | .AUD_RATE_MIS_CNT => .AUD
  | .AUD_SP_CFG => .AUD
  | .AUD_SP_CH => .AUD
  | .AUD_SP_MASK => .AUD
  | .AUD_SP_STAT => .AUD
  | .AUD_SP_PARITY => .AUD
  | .AUD_SP_CODE => .AUD
  | .AUD_SP_CRCC => .AUD
  | .AUD_SP_TXSLIP => .AUD
  | .AUD_ASRC_CFG => .AUD
  | .AUD_ASRC_STAT => .AUD
  | .AUD_ASRC_RATIO => .AUD
  | .AUD_ASRC_UNIT => .AUD
  | .AUD_CS_VAL => .AUD
  | .AUD_CS_MASK => .AUD
  | .AUD_AGRP_CFG => .AUD
  | .AUD_AGRP_STAT => .AUD
  | .AUD_AGRP_SLIP => .AUD
  | .AUD_AGRP_REP => .AUD
  | .AUD_AGRP_DROP => .AUD
  | .AUD_GRP_CFG => .AUD
  | .AUD_GRP_MASK_LO => .AUD
  | .AUD_GRP_MASK_HI => .AUD
  | .AUD_GRP_AZX => .AUD
  | .AUD_IN_STAT => .AUD
  | .AUD_OUT_STAT => .AUD
  | .AUD_OUT_GAIN => .AUD
  | .AUD_OUT_CS => .AUD
  | .WCOMP_CFG => .WCOMP
  | .WCOMP_CANVAS => .WCOMP
  | .WCOMP_BAND => .WCOMP
  | .WCOMP_STAT => .WCOMP
  | .WCOMP_BG_R => .WCOMP
  | .WCOMP_BG_G => .WCOMP
  | .WCOMP_BG_B => .WCOMP
  | .WCOMP_CAP_CTL => .WCOMP
  | .WCOMP_CAP_BASE => .WCOMP
  | .WCOMP_CAP_STAT => .WCOMP
  | .WCOMP_HBM_RES => .WCOMP
  | .WCOMP_LATE_CNT => .WCOMP
  | .WCOMP_SL_ALT_CNT => .WCOMP
  | .WCOMP_PIPE_ERR_CNT => .WCOMP
  | .WCOMP_PIPE_CFG => .WCOMP
  | .WCOMP_PIPE_STAT => .WCOMP
  | .WCOMP_UNIT => .WCOMP
  | .WCOMP_PROF => .WCOMP
  | .WCOMP_PROF2 => .WCOMP
  | .WCOMP_LAYER_CFG => .WCOMP
  | .WCOMP_LAYER_STAT => .WCOMP
  | .WCOMP_LAYER_POS => .WCOMP
  | .WCOMP_LAYER_SIZE => .WCOMP
  | .WCOMP_LAYER_CROP_POS => .WCOMP
  | .WCOMP_LAYER_CROP_SIZE => .WCOMP
  | .WCOMP_LAYER_SKIP => .WCOMP
  | .WCOMP_MAT => .WCOMP
  | .WCOMP_SL_PAGE => .WCOMP
  | .WCOMP_SL_PDIM => .WCOMP
  | .WCOMP_SL_LOCK => .WCOMP
  | .WCOMP_SL_STAT => .WCOMP
  | .WCOMP_SL_LUT => .WCOMP
  | .WCOMP_ENL_H => .WCOMP
  | .WCOMP_ENL_V => .WCOMP
  | .WCOMP_LUT => .WCOMP
  | .WSCAN_CFG => .WSCAN
  | .WSCAN_STAT => .WSCAN
  | .WSCAN_SCAN_BASE => .WSCAN
  | .WSCAN_LC_BASE_A => .WSCAN
  | .WSCAN_LC_BASE_B => .WSCAN
  | .WSCAN_WM => .WSCAN
  | .WSCAN_THERM => .WSCAN
  | .WSCAN_FREEZE => .WSCAN
  | .WSCAN_CUR => .WSCAN
  | .WSCAN_OC_SEL => .WSCAN
  | .WSCAN_LOOP_CFG => .WSCAN
  | .WSCAN_HBM_RES => .WSCAN
  | .WSCAN_HOT_CNT => .WSCAN
  | .WSCAN_LC_ALT_CNT => .WSCAN
  | .WSCAN_UNMAPPED_CNT => .WSCAN
  | .WSCAN_IDREAD_FAIL_CNT => .WSCAN
  | .WSCAN_PORT_CFG => .WSCAN
  | .WSCAN_PORT_STAT => .WSCAN
  | .WSCAN_PORT_LOAD => .WSCAN
  | .WSCAN_PORT_UNDER => .WSCAN
  | .WSCAN_PORT_RXERR => .WSCAN
  | .WSCAN_REG_POS => .WSCAN
  | .WSCAN_REG_SIZE => .WSCAN
  | .WSCAN_REG_SIG => .WSCAN
  | .WSCAN_REG_STAT => .WSCAN
  | .WSCAN_LPROOF_SIG => .WSCAN
  | .WSCAN_LPROOF_STAT => .WSCAN
  | .WSCAN_TILE_CFG => .WSCAN
  | .WSCAN_TILE_DIM => .WSCAN
  | .WSCAN_TILE_ORG => .WSCAN
  | .WSCAN_TILE_LC => .WSCAN
  | .WSCAN_TILE_STAT => .WSCAN
  | .WSCAN_TILE_PTPOFS => .WSCAN
  | .WSCAN_TILE_PCC => .WSCAN
  | .WSCAN_TILE_UBLACK => .WSCAN
  | .WSCAN_TILE_HOT_CNT => .WSCAN
  | .WSCAN_TILE_SERIAL_LO => .WSCAN
  | .WSCAN_TILE_SERIAL_HI => .WSCAN
  | .WSCAN_TRIM => .WSCAN
  | .WSCAN_UTRIM => .WSCAN
  | .WSCAN_TARGET => .WSCAN
  | .WSCAN_SENSOR => .WSCAN
  | .WSCAN_OCURVE => .WSCAN
  | .HBM_STAT => .HBM
  | .HBM_WAIT_MAX => .HBM
  | .HBM_ECC_LAST => .HBM
  | .HBM_ECC_CORR_CNT => .HBM
  | .HBM_ECC_UNCORR_CNT => .HBM
  | .ULINK_CFG => .ULINK
  | .ULINK_STAT => .ULINK
  | .ULINK_HOP_NS => .ULINK
  | .ULINK_FEC_CORR => .ULINK
  | .ULINK_FEC_UNCORR => .ULINK
  | .ULINK_CELL_LOST => .ULINK
  | .ULINK_LINE_CRC => .ULINK
  | .ULINK_DOWN_CNT => .ULINK
  | .ULINK_MARK_CNT => .ULINK
  | .ULINK_TXA => .ULINK
  | .ULINK_RXA => .ULINK
  | .ULINK_MB_CTL => .ULINK
  | .ULINK_LOAD => .ULINK
  | .ULINK_ANC_DROP => .ULINK
  | .ULINK_MB_TXBUF => .ULINK
  | .ULINK_MB_RXBUF => .ULINK
  | .ULINK_TXV => .ULINK
  | .ULINK_RXV => .ULINK

/-- The entry of a register in its table. -/
def RegName.info (r : RegName) : RegInfo :=
  let o := match r.blk with
    | .RST => r.infoRST
    | .CLK => r.infoCLK
    | .PWR => r.infoPWR
    | .BUS => r.infoBUS
    | .CPU => r.infoCPU
    | .VAULT => r.infoVAULT
    | .BIST => r.infoBIST
    | .IDM => r.infoIDM
    | .CAL => r.infoCAL
    | .FWU => r.infoFWU
    | .GPIO => r.infoGPIO
    | .TTB => r.infoTTB
    | .REF => r.infoREF
    | .PTP => r.infoPTP
    | .MGMT => r.infoMGMT
    | .LANE => r.infoLANE
    | .SDI => r.infoSDI
    | .MPORT => r.infoMPORT
    | .FLOW => r.infoFLOW
    | .XPT => r.infoXPT
    | .CUE => r.infoCUE
    | .AUD => r.infoAUD
    | .WCOMP => r.infoWCOMP
    | .WSCAN => r.infoWSCAN
    | .HBM => r.infoHBM
    | .ULINK => r.infoULINK
  o.getD ⟨r.blk, 0, [], .plain, 0, []⟩

/-- The offset of the seven fault registers in their block, as each chapter's offset table gives it. -/
def Blk.faultBase : Blk → Nat
  | .RST => 0xF00
  | .CLK => 0xF00
  | .PWR => 0xF00
  | .BUS => 0xF00
  | .CPU => 0xF00
  | .VAULT => 0x3F00
  | .BIST => 0xF00
  | .IDM => 0xF00
  | .CAL => 0xF00
  | .FWU => 0xF00
  | .GPIO => 0xF00
  | .TTB => 0xF00
  | .REF => 0xF00
  | .PTP => 0xF00
  | .MGMT => 0xF00
  | .LANE => 0x1F00
  | .SDI => 0x4F00
  | .MPORT => 0xFFFF00
  | .FLOW => 0xF00
  | .XPT => 0x1F000
  | .CUE => 0xFFF00
  | .AUD => 0xFFF00
  | .WCOMP => 0xFFF00
  | .WSCAN => 0x1FFF00
  | .HBM => 0xF00
  | .ULINK => 0x4F00

/-- The sources of a block that its FSTAT layout names with reach S. -/
def Blk.srcMaskS : Blk → Nat
  | .RST => 0xC
  | .CLK => 0x1C
  | .PWR => 0x3B
  | .BUS => 0x7F
  | .CPU => 0xFF
  | .VAULT => 0xFF
  | .BIST => 0x1F
  | .IDM => 0x7F
  | .CAL => 0x6
  | .FWU => 0xFF
  | .GPIO => 0x3
  | .TTB => 0xF
  | .REF => 0x7FF
  | .PTP => 0x3FFF
  | .MGMT => 0x3F
  | .LANE => 0x7F
  | .SDI => 0x3FF
  | .MPORT => 0x1FF
  | .FLOW => 0x3F
  | .XPT => 0xFFF
  | .CUE => 0x3FF
  | .AUD => 0x1FF
  | .WCOMP => 0x1FF
  | .WSCAN => 0xFF
  | .HBM => 0x7F
  | .ULINK => 0xFF

/-- The sources of a block that its FSTAT layout names with reach P. -/
def Blk.srcMaskP : Blk → Nat
  | .RST => 0x3
  | .CLK => 0x3
  | .PWR => 0x4
  | .BUS => 0x0
  | .CPU => 0x0
  | .VAULT => 0x0
  | .BIST => 0x0
  | .IDM => 0x0
  | .CAL => 0x1
  | .FWU => 0x0
  | .GPIO => 0x0
  | .TTB => 0x0
  | .REF => 0x0
  | .PTP => 0x0
  | .MGMT => 0x0
  | .LANE => 0x0
  | .SDI => 0x0
  | .MPORT => 0x0
  | .FLOW => 0x0
  | .XPT => 0x0
  | .CUE => 0x0
  | .AUD => 0x0
  | .WCOMP => 0x0
  | .WSCAN => 0x0
  | .HBM => 0x0
  | .ULINK => 0x0

/-- All the sources of a block. -/
def Blk.srcMask (b : Blk) : Nat := b.srcMaskS + b.srcMaskP

/-- The bit of CFG_REJECT in each block's FSTAT layout. -/
def Blk.cfgReject : Blk → Nat
  | .RST => 3
  | .CLK => 4
  | .PWR => 5
  | .BUS => 6
  | .CPU => 7
  | .VAULT => 7
  | .BIST => 4
  | .IDM => 6
  | .CAL => 2
  | .FWU => 7
  | .GPIO => 1
  | .TTB => 3
  | .REF => 10
  | .PTP => 13
  | .MGMT => 5
  | .LANE => 6
  | .SDI => 9
  | .MPORT => 8
  | .FLOW => 5
  | .XPT => 11
  | .CUE => 9
  | .AUD => 8
  | .WCOMP => 8
  | .WSCAN => 7
  | .HBM => 6
  | .ULINK => 7

end Sys2Proof
end

