-- ==== Sys2Proof/Machine/Fields.lean ====
section
/-!
DEFINITION. A name for every field of the register tables (`F.REF_TD_CFG_EN` is REF_TD_CFG.EN) and for every fault
source of the FSTAT layouts (`Src.REF_DRIFT` is bit DRIFT of REF_FSTAT).
-/

namespace Sys2Proof

/-- A field of a register: its lowest bit and its width. -/
structure Fld where
  reg : RegName
  lo : Nat
  len : Nat
  deriving DecidableEq, Repr

/-- A fault source: bit `bit` of the fault registers of `blk` (R423). -/
structure Src where
  blk : Blk
  bit : Nat
  deriving DecidableEq, Repr

namespace F

abbrev RST_CAUSE_POR : Fld := ⟨.RST_CAUSE, 0, 1⟩
abbrev RST_CAUSE_BROWNOUT : Fld := ⟨.RST_CAUSE, 1, 1⟩
abbrev RST_CAUSE_PIN : Fld := ⟨.RST_CAUSE, 2, 1⟩
abbrev RST_CAUSE_WDT_CORE : Fld := ⟨.RST_CAUSE, 3, 1⟩
abbrev RST_CAUSE_WDT_SYS : Fld := ⟨.RST_CAUSE, 4, 1⟩
abbrev RST_CAUSE_SW_CORE : Fld := ⟨.RST_CAUSE, 5, 1⟩
abbrev RST_CAUSE_SW_CONF : Fld := ⟨.RST_CAUSE, 6, 1⟩
abbrev RST_CAUSE_SW_SYS : Fld := ⟨.RST_CAUSE, 7, 1⟩
abbrev RST_CAUSE_DBG : Fld := ⟨.RST_CAUSE, 8, 1⟩
abbrev RST_CAUSE_CLK_FAIL : Fld := ⟨.RST_CAUSE, 9, 1⟩
abbrev RST_CAUSE_LOCKUP : Fld := ⟨.RST_CAUSE, 10, 1⟩
abbrev RST_CAUSE_STALL : Fld := ⟨.RST_CAUSE, 11, 1⟩
abbrev RST_CAUSE_ESC_SYS : Fld := ⟨.RST_CAUSE, 12, 1⟩
abbrev RST_CAUSE_DARKROOM : Fld := ⟨.RST_CAUSE, 13, 1⟩
abbrev RST_CAUSE_CORES : Fld := ⟨.RST_CAUSE, 16, 5⟩
abbrev RST_STAT_LC : Fld := ⟨.RST_STAT, 0, 3⟩
abbrev RST_STAT_DARKROOM : Fld := ⟨.RST_STAT, 3, 1⟩
abbrev RST_STAT_FAILED : Fld := ⟨.RST_STAT, 4, 2⟩
abbrev RST_STAT_IN_START : Fld := ⟨.RST_STAT, 6, 1⟩
abbrev RST_STAT_MC : Fld := ⟨.RST_STAT, 8, 9⟩
abbrev RST_SWRST_LEVEL : Fld := ⟨.RST_SWRST, 0, 2⟩
abbrev RST_SWRST_CORE : Fld := ⟨.RST_SWRST, 4, 3⟩
abbrev RST_SWRST_KEY : Fld := ⟨.RST_SWRST, 8, 8⟩
abbrev RST_WDT_CFG_EN : Fld := ⟨.RST_WDT_CFG, 0, 1⟩
abbrev RST_WDT_CFG_PERIOD : Fld := ⟨.RST_WDT_CFG, 16, 16⟩
abbrev RST_WDT_KICK_KEY : Fld := ⟨.RST_WDT_KICK, 0, 16⟩
abbrev RST_WDT_STAT_LEFT : Fld := ⟨.RST_WDT_STAT, 0, 16⟩
abbrev RST_WDT_STAT_ARMED : Fld := ⟨.RST_WDT_STAT, 16, 1⟩
abbrev RST_WDT_STAT_ESC_WINDOW : Fld := ⟨.RST_WDT_STAT, 20, 12⟩
abbrev RST_HEALTH_HEALTH_OK : Fld := ⟨.RST_HEALTH, 0, 1⟩
abbrev RST_HEALTH_START_WINDOW : Fld := ⟨.RST_HEALTH, 16, 12⟩
abbrev RST_LC_REQ_TARGET : Fld := ⟨.RST_LC_REQ, 0, 3⟩
abbrev RST_LC_REQ_TOKEN : Fld := ⟨.RST_LC_REQ, 6, 26⟩
abbrev RST_POR_CNT_COUNT : Fld := ⟨.RST_POR_CNT, 0, 32⟩
abbrev RST_SYS_CNT_COUNT : Fld := ⟨.RST_SYS_CNT, 0, 32⟩
abbrev RST_CORE_CNT_COUNT : Fld := ⟨.RST_CORE_CNT, 0, 32⟩
abbrev RST_CONF_CNT_COUNT : Fld := ⟨.RST_CONF_CNT, 0, 32⟩
abbrev CLK_STAT_AON_LOCK : Fld := ⟨.CLK_STAT, 0, 1⟩
abbrev CLK_STAT_XTAL_OK : Fld := ⟨.CLK_STAT, 1, 1⟩
abbrev CLK_STAT_SYSPLL_LOCK : Fld := ⟨.CLK_STAT, 2, 1⟩
abbrev CLK_XTAL_PPM_PPM : Fld := ⟨.CLK_XTAL_PPM, 0, 16⟩
abbrev CLK_DOM_RUN_RUN : Fld := ⟨.CLK_DOM_RUN, 0, 32⟩
abbrev CLK_SLEEP_CNT_COUNT : Fld := ⟨.CLK_SLEEP_CNT, 0, 32⟩
abbrev CLK_PLL_START_CNT_COUNT : Fld := ⟨.CLK_PLL_START_CNT, 0, 32⟩
abbrev PWR_LEDGER_P : Fld := ⟨.PWR_LEDGER, 0, 12⟩
abbrev PWR_BIST_CAP_CAP : Fld := ⟨.PWR_BIST_CAP, 0, 12⟩
abbrev PWR_BIST_STAT_WAITING : Fld := ⟨.PWR_BIST_STAT, 0, 8⟩
abbrev PWR_BIST_STAT_RUNNING : Fld := ⟨.PWR_BIST_STAT, 8, 8⟩
abbrev PWR_TJ_TJ : Fld := ⟨.PWR_TJ, 0, 16⟩
abbrev PWR_TJ_PEAK_TJ : Fld := ⟨.PWR_TJ_PEAK, 0, 16⟩
abbrev PWR_THERM_CFG_THERM_WARN : Fld := ⟨.PWR_THERM_CFG, 0, 8⟩
abbrev PWR_THERM_STAT_TRIPPED : Fld := ⟨.PWR_THERM_STAT, 0, 1⟩
abbrev PWR_THERM_STAT_TRIP_S : Fld := ⟨.PWR_THERM_STAT, 1, 1⟩
abbrev PWR_THERM_STAT_GRADE_X : Fld := ⟨.PWR_THERM_STAT, 2, 1⟩
abbrev PWR_CAP_HOLD_CNT_COUNT : Fld := ⟨.PWR_CAP_HOLD_CNT, 0, 32⟩
abbrev PWR_TEMP_TEMP : Fld := ⟨.PWR_TEMP, 0, 16⟩
abbrev PWR_TEMP_EXCLUDED : Fld := ⟨.PWR_TEMP, 16, 1⟩
abbrev BUS_CFG_LOCK_TIMEOUT : Fld := ⟨.BUS_CFG, 0, 12⟩
abbrev BUS_CFG_STALL_LIMIT : Fld := ⟨.BUS_CFG, 16, 12⟩
abbrev BUS_STAT_STALLED : Fld := ⟨.BUS_STAT, 0, 8⟩
abbrev BUS_STAT_LOCKED : Fld := ⟨.BUS_STAT, 8, 5⟩
abbrev BUS_STALL_ABORT_MASTER : Fld := ⟨.BUS_STALL_ABORT, 0, 8⟩
abbrev BUS_FAULT_LAST_MASTER : Fld := ⟨.BUS_FAULT_LAST, 0, 3⟩
abbrev BUS_FAULT_LAST_CAUSE : Fld := ⟨.BUS_FAULT_LAST, 4, 3⟩
abbrev BUS_FAULT_LAST_WRITE : Fld := ⟨.BUS_FAULT_LAST, 8, 1⟩
abbrev BUS_FAULT_ADDR_LO_ADDR : Fld := ⟨.BUS_FAULT_ADDR_LO, 0, 32⟩
abbrev BUS_FAULT_ADDR_HI_ADDR : Fld := ⟨.BUS_FAULT_ADDR_HI, 0, 8⟩
abbrev BUS_STALL_CNT_COUNT : Fld := ⟨.BUS_STALL_CNT, 0, 32⟩
abbrev BUS_LOCK_TO_CNT_COUNT : Fld := ⟨.BUS_LOCK_TO_CNT, 0, 32⟩
abbrev BUS_REG_ACCESS_CNT_COUNT : Fld := ⟨.BUS_REG_ACCESS_CNT, 0, 32⟩
abbrev BUS_DENY_CNT_COUNT : Fld := ⟨.BUS_DENY_CNT, 0, 32⟩
abbrev BUS_STALL_ADDR_LO_ADDR : Fld := ⟨.BUS_STALL_ADDR_LO, 0, 32⟩
abbrev BUS_STALL_ADDR_HI_ADDR : Fld := ⟨.BUS_STALL_ADDR_HI, 0, 8⟩
abbrev BUS_WAIT_MAX_BEATS : Fld := ⟨.BUS_WAIT_MAX, 0, 16⟩
abbrev BUS_DMA_DESC_LO_ADDR : Fld := ⟨.BUS_DMA_DESC_LO, 5, 27⟩
abbrev BUS_DMA_DESC_HI_ADDR : Fld := ⟨.BUS_DMA_DESC_HI, 0, 8⟩
abbrev BUS_DMA_CTL_GO : Fld := ⟨.BUS_DMA_CTL, 0, 1⟩
abbrev BUS_DMA_CTL_STOP : Fld := ⟨.BUS_DMA_CTL, 1, 1⟩
abbrev BUS_DMA_STAT_STATE : Fld := ⟨.BUS_DMA_STAT, 0, 2⟩
abbrev BUS_DMA_STAT_ERR : Fld := ⟨.BUS_DMA_STAT, 4, 2⟩
abbrev BUS_DMA_LEFT_BYTES : Fld := ⟨.BUS_DMA_LEFT, 0, 24⟩
abbrev CPU_STAT_HARTS_UP : Fld := ⟨.CPU_STAT, 0, 4⟩
abbrev CPU_STAT_SPARE : Fld := ⟨.CPU_STAT, 4, 1⟩
abbrev CPU_CORE_STAT_STATE : Fld := ⟨.CPU_CORE_STAT, 0, 3⟩
abbrev CPU_CORE_STAT_HART : Fld := ⟨.CPU_CORE_STAT, 4, 2⟩
abbrev CPU_CORE_STAT_LOCKUP_S : Fld := ⟨.CPU_CORE_STAT, 8, 1⟩
abbrev CPU_CORE_STAT_ERR_S : Fld := ⟨.CPU_CORE_STAT, 9, 1⟩
abbrev CPU_HART_BOOT_LO_ADDR : Fld := ⟨.CPU_HART_BOOT_LO, 2, 30⟩
abbrev CPU_HART_BOOT_HI_ADDR : Fld := ⟨.CPU_HART_BOOT_HI, 0, 8⟩
abbrev CPU_IRQ_EN_LO_EN : Fld := ⟨.CPU_IRQ_EN_LO, 0, 32⟩
abbrev CPU_IRQ_EN_HI_EN : Fld := ⟨.CPU_IRQ_EN_HI, 0, 2⟩
abbrev CPU_IRQ_PEND_LO_PEND : Fld := ⟨.CPU_IRQ_PEND_LO, 0, 32⟩
abbrev CPU_IRQ_PEND_HI_PEND : Fld := ⟨.CPU_IRQ_PEND_HI, 0, 2⟩
abbrev CPU_IRQ_NEXT_SRC : Fld := ⟨.CPU_IRQ_NEXT, 0, 8⟩
abbrev CPU_IPI_SET : Fld := ⟨.CPU_IPI, 0, 1⟩
abbrev CPU_MTIMECMP_LO_CMP : Fld := ⟨.CPU_MTIMECMP_LO, 0, 32⟩
abbrev CPU_MTIMECMP_HI_CMP : Fld := ⟨.CPU_MTIMECMP_HI, 0, 32⟩
abbrev CPU_SUP_IRQ_EN_LO_EN : Fld := ⟨.CPU_SUP_IRQ_EN_LO, 0, 32⟩
abbrev CPU_L2_MAINT_OP : Fld := ⟨.CPU_L2_MAINT, 0, 2⟩
abbrev CPU_L2_MAINT_LINES : Fld := ⟨.CPU_L2_MAINT, 8, 16⟩
abbrev CPU_L2_MAINT_BUSY : Fld := ⟨.CPU_L2_MAINT, 31, 1⟩
abbrev CPU_L2_ADDR_LO_ADDR : Fld := ⟨.CPU_L2_ADDR_LO, 6, 26⟩
abbrev CPU_L2_ADDR_HI_ADDR : Fld := ⟨.CPU_L2_ADDR_HI, 0, 8⟩
abbrev CPU_L2_ECC_CORR_COUNT : Fld := ⟨.CPU_L2_ECC_CORR, 0, 32⟩
abbrev CPU_SRAM_ECC_CORR_COUNT : Fld := ⟨.CPU_SRAM_ECC_CORR, 0, 32⟩
abbrev CPU_LOCKUP_CNT_COUNT : Fld := ⟨.CPU_LOCKUP_CNT, 0, 32⟩
abbrev CPU_HANDOVER_CNT_COUNT : Fld := ⟨.CPU_HANDOVER_CNT, 0, 32⟩
abbrev VAULT_CFG_ROW_CE_LIMIT : Fld := ⟨.VAULT_CFG, 0, 16⟩
abbrev VAULT_CFG_SAVE_MIN : Fld := ⟨.VAULT_CFG, 16, 8⟩
abbrev VAULT_STAT_MIGR : Fld := ⟨.VAULT_STAT, 0, 7⟩
abbrev VAULT_STAT_REC_PEND : Fld := ⟨.VAULT_STAT, 8, 1⟩
abbrev VAULT_CMD_OP : Fld := ⟨.VAULT_CMD, 0, 2⟩
abbrev VAULT_CMD_TYPE : Fld := ⟨.VAULT_CMD, 4, 3⟩
abbrev VAULT_CMD_PLANE : Fld := ⟨.VAULT_CMD, 7, 1⟩
abbrev VAULT_CMD_UNIT : Fld := ⟨.VAULT_CMD, 8, 10⟩
abbrev VAULT_CMD_STAT_BUSY : Fld := ⟨.VAULT_CMD_STAT, 0, 1⟩
abbrev VAULT_CMD_STAT_RESULT : Fld := ⟨.VAULT_CMD_STAT, 1, 3⟩
abbrev VAULT_REC_UNIT : Fld := ⟨.VAULT_REC, 0, 10⟩
abbrev VAULT_HBM_ROWS_ROWS_A : Fld := ⟨.VAULT_HBM_ROWS, 0, 16⟩
abbrev VAULT_HBM_ROWS_ROWS_B : Fld := ⟨.VAULT_HBM_ROWS, 16, 16⟩
abbrev VAULT_ROT_CNT_COUNT : Fld := ⟨.VAULT_ROT_CNT, 0, 32⟩
abbrev VAULT_RETIRE_CNT_COUNT : Fld := ⟨.VAULT_RETIRE_CNT, 0, 32⟩
abbrev VAULT_ROW_CNT_COUNT : Fld := ⟨.VAULT_ROW_CNT, 0, 32⟩
abbrev VAULT_ROT_PERIOD : Fld := ⟨.VAULT_ROT, 0, 16⟩
abbrev VAULT_ROT_DUE : Fld := ⟨.VAULT_ROT, 16, 2⟩
abbrev VAULT_THR_HOURS_HOURS_MAX : Fld := ⟨.VAULT_THR_HOURS, 0, 20⟩
abbrev VAULT_THR_ECC_ECC_MAX : Fld := ⟨.VAULT_THR_ECC, 0, 32⟩
abbrev VAULT_THR_VMIN_VMIN_MIN : Fld := ⟨.VAULT_THR_VMIN, 0, 10⟩
abbrev VAULT_LG_HRS_HOURS : Fld := ⟨.VAULT_LG_HRS, 0, 20⟩
abbrev VAULT_LG_HRS_STATE : Fld := ⟨.VAULT_LG_HRS, 24, 3⟩
abbrev VAULT_LG_HRS_WEAR : Fld := ⟨.VAULT_LG_HRS, 31, 1⟩
abbrev VAULT_LG_ECC_COUNT : Fld := ⟨.VAULT_LG_ECC, 0, 32⟩
abbrev VAULT_LG_VMIN_MARGIN : Fld := ⟨.VAULT_LG_VMIN, 0, 10⟩
abbrev VAULT_LG_VMIN_MIN : Fld := ⟨.VAULT_LG_VMIN, 16, 10⟩
abbrev VAULT_LG_BIST_VERDICT : Fld := ⟨.VAULT_LG_BIST, 0, 2⟩
abbrev VAULT_LG_BIST_RUNS : Fld := ⟨.VAULT_LG_BIST, 4, 12⟩
abbrev VAULT_LG_BIST_SINCE_H : Fld := ⟨.VAULT_LG_BIST, 16, 16⟩
abbrev VAULT_RETIRED_MAP : Fld := ⟨.VAULT_RETIRED, 0, 32⟩
abbrev BIST_CMD_OP : Fld := ⟨.BIST_CMD, 0, 2⟩
abbrev BIST_CMD_TARGET : Fld := ⟨.BIST_CMD, 4, 10⟩
abbrev BIST_CMD_STAT_RESULT : Fld := ⟨.BIST_CMD_STAT, 0, 3⟩
abbrev BIST_STAT_STARTUP_DONE : Fld := ⟨.BIST_STAT, 0, 1⟩
abbrev BIST_STAT_SLICE_PASS : Fld := ⟨.BIST_STAT, 14, 18⟩
abbrev BIST_LAST_TARGET : Fld := ⟨.BIST_LAST, 0, 10⟩
abbrev BIST_LAST_VERDICT : Fld := ⟨.BIST_LAST, 12, 2⟩
abbrev BIST_LAST_CAUSE : Fld := ⟨.BIST_LAST, 16, 3⟩
abbrev BIST_LAST_DONE_LO_CYCLES_DONE : Fld := ⟨.BIST_LAST_DONE_LO, 0, 32⟩
abbrev BIST_LAST_DONE_HI_CYCLES_DONE : Fld := ⟨.BIST_LAST_DONE_HI, 0, 32⟩
abbrev BIST_LAST_EXP_LO_CYCLES_EXPECTED : Fld := ⟨.BIST_LAST_EXP_LO, 0, 32⟩
abbrev BIST_LAST_EXP_HI_CYCLES_EXPECTED : Fld := ⟨.BIST_LAST_EXP_HI, 0, 32⟩
abbrev BIST_LAST_SIG_SIG : Fld := ⟨.BIST_LAST_SIG, 0, 32⟩
abbrev BIST_LAST_SIG_EXP_SIG : Fld := ⟨.BIST_LAST_SIG_EXP, 0, 32⟩
abbrev BIST_PASS_CNT_COUNT : Fld := ⟨.BIST_PASS_CNT, 0, 32⟩
abbrev BIST_FAIL_CNT_COUNT : Fld := ⟨.BIST_FAIL_CNT, 0, 32⟩
abbrev BIST_INC_CNT_COUNT : Fld := ⟨.BIST_INC_CNT, 0, 32⟩
abbrev IDM_CFG_SPEED : Fld := ⟨.IDM_CFG, 0, 8⟩
abbrev IDM_CFG_SCAN_EN : Fld := ⟨.IDM_CFG, 8, 1⟩
abbrev IDM_STRAP_SLOT_ID : Fld := ⟨.IDM_STRAP, 0, 6⟩
abbrev IDM_STRAP_CARD_SIDE : Fld := ⟨.IDM_STRAP, 6, 1⟩
abbrev IDM_STRAP_LIVE_SLOT : Fld := ⟨.IDM_STRAP, 8, 6⟩
abbrev IDM_STRAP_LIVE_SIDE : Fld := ⟨.IDM_STRAP, 14, 1⟩
abbrev IDM_NACK_CNT_COUNT : Fld := ⟨.IDM_NACK_CNT, 0, 32⟩
abbrev IDM_STUCK_CNT_COUNT : Fld := ⟨.IDM_STUCK_CNT, 0, 32⟩
abbrev IDM_REC_FAIL_CNT_COUNT : Fld := ⟨.IDM_REC_FAIL_CNT, 0, 32⟩
abbrev IDM_TILE_FAIL_CNT_COUNT : Fld := ⟨.IDM_TILE_FAIL_CNT, 0, 32⟩
abbrev IDM_TILE_LAST_TILE : Fld := ⟨.IDM_TILE_LAST, 0, 10⟩
abbrev IDM_TILE_LAST_REASON : Fld := ⟨.IDM_TILE_LAST, 16, 4⟩
abbrev IDM_CMD_SITE : Fld := ⟨.IDM_CMD, 0, 7⟩
abbrev IDM_CMD_DEV : Fld := ⟨.IDM_CMD, 8, 1⟩
abbrev IDM_CMD_GO : Fld := ⟨.IDM_CMD, 31, 1⟩
abbrev IDM_ARG_OFFSET : Fld := ⟨.IDM_ARG, 0, 8⟩
abbrev IDM_ARG_LEN : Fld := ⟨.IDM_ARG, 8, 8⟩
abbrev IDM_ARG_PAGE : Fld := ⟨.IDM_ARG, 16, 8⟩
abbrev IDM_ARG_BANK : Fld := ⟨.IDM_ARG, 24, 8⟩
abbrev IDM_STAT_BUSY : Fld := ⟨.IDM_STAT, 0, 1⟩
abbrev IDM_STAT_RESULT : Fld := ⟨.IDM_STAT, 1, 3⟩
abbrev IDM_BUF_DATA : Fld := ⟨.IDM_BUF, 0, 32⟩
abbrev IDM_SITE_CFG_TYPE : Fld := ⟨.IDM_SITE_CFG, 0, 3⟩
abbrev IDM_SITE_CFG_MASTER : Fld := ⟨.IDM_SITE_CFG, 4, 3⟩
abbrev IDM_SITE_CFG_MUX_ADDR : Fld := ⟨.IDM_SITE_CFG, 8, 7⟩
abbrev IDM_SITE_CFG_MUX_CHAN : Fld := ⟨.IDM_SITE_CFG, 16, 3⟩
abbrev IDM_SITE_CFG_EN : Fld := ⟨.IDM_SITE_CFG, 31, 1⟩
abbrev IDM_SITE_STAT_PRESENT : Fld := ⟨.IDM_SITE_STAT, 0, 1⟩
abbrev IDM_SITE_STAT_REC_OK : Fld := ⟨.IDM_SITE_STAT, 1, 1⟩
abbrev IDM_SITE_STAT_REC_ERR : Fld := ⟨.IDM_SITE_STAT, 4, 3⟩
abbrev IDM_SITE_STAT_CHANGE_S : Fld := ⟨.IDM_SITE_STAT, 8, 1⟩
abbrev IDM_TILE_FACT_FACT_R : Fld := ⟨.IDM_TILE_FACT, 0, 8⟩
abbrev IDM_TILE_FACT_FACT_G : Fld := ⟨.IDM_TILE_FACT, 8, 8⟩
abbrev IDM_TILE_FACT_FACT_B : Fld := ⟨.IDM_TILE_FACT, 16, 8⟩
abbrev IDM_TILE_FACT_CURVE : Fld := ⟨.IDM_TILE_FACT, 24, 3⟩
abbrev IDM_TILE_FACT_CURVE_MIS : Fld := ⟨.IDM_TILE_FACT, 27, 1⟩
abbrev CAL_STAT_LOADED : Fld := ⟨.CAL_STAT, 0, 1⟩
abbrev CAL_STAT_OTP_BAD : Fld := ⟨.CAL_STAT, 1, 1⟩
abbrev CAL_OSC_TRIM_F : Fld := ⟨.CAL_OSC, 0, 8⟩
abbrev CAL_OSC_TRIM_U : Fld := ⟨.CAL_OSC, 8, 8⟩
abbrev CAL_OSC_TRIM_E : Fld := ⟨.CAL_OSC, 16, 8⟩
abbrev CAL_OSC_SAT : Fld := ⟨.CAL_OSC, 24, 1⟩
abbrev CAL_UID_LO_UID : Fld := ⟨.CAL_UID_LO, 0, 32⟩
abbrev CAL_UID_HI_UID : Fld := ⟨.CAL_UID_HI, 0, 32⟩
abbrev CAL_REPAIR_SRAM_USED : Fld := ⟨.CAL_REPAIR, 0, 12⟩
abbrev CAL_REPAIR_HBM_USED : Fld := ⟨.CAL_REPAIR, 16, 12⟩
abbrev CAL_LANE_TXF_PRE_F : Fld := ⟨.CAL_LANE_TXF, 0, 5⟩
abbrev CAL_LANE_TXF_MAIN_F : Fld := ⟨.CAL_LANE_TXF, 8, 6⟩
abbrev CAL_LANE_TXF_POST_F : Fld := ⟨.CAL_LANE_TXF, 16, 5⟩
abbrev CAL_LANE_TXE_PRE_E : Fld := ⟨.CAL_LANE_TXE, 0, 5⟩
abbrev CAL_LANE_TXE_MAIN_E : Fld := ⟨.CAL_LANE_TXE, 8, 6⟩
abbrev CAL_LANE_TXE_POST_E : Fld := ⟨.CAL_LANE_TXE, 16, 5⟩
abbrev CAL_LANE_TXE_SAT : Fld := ⟨.CAL_LANE_TXE, 31, 1⟩
abbrev CAL_TS_F_OFS_F : Fld := ⟨.CAL_TS_F, 0, 12⟩
abbrev CAL_TS_U_OFS_U : Fld := ⟨.CAL_TS_U, 0, 12⟩
abbrev CAL_TS_U_SAT : Fld := ⟨.CAL_TS_U, 31, 1⟩
abbrev FWU_CMD_OP : Fld := ⟨.FWU_CMD, 0, 3⟩
abbrev FWU_CMD_SECTOR : Fld := ⟨.FWU_CMD, 16, 10⟩
abbrev FWU_CMD_NOW : Fld := ⟨.FWU_CMD, 31, 1⟩
abbrev FWU_CMD_STAT_BUSY : Fld := ⟨.FWU_CMD_STAT, 0, 1⟩
abbrev FWU_CMD_STAT_RESULT : Fld := ⟨.FWU_CMD_STAT, 1, 4⟩
abbrev FWU_CMD_STAT_OP : Fld := ⟨.FWU_CMD_STAT, 5, 3⟩
abbrev FWU_ACT_AT_LO_AT : Fld := ⟨.FWU_ACT_AT_LO, 0, 32⟩
abbrev FWU_ACT_AT_HI_AT : Fld := ⟨.FWU_ACT_AT_HI, 0, 16⟩
abbrev FWU_SLOT_STAT_STATE : Fld := ⟨.FWU_SLOT_STAT, 0, 4⟩
abbrev FWU_SLOT_STAT_ESCROW : Fld := ⟨.FWU_SLOT_STAT, 4, 1⟩
abbrev FWU_SLOT_STAT_RUNNING : Fld := ⟨.FWU_SLOT_STAT, 5, 1⟩
abbrev FWU_SLOT_STAT_PRELOADED : Fld := ⟨.FWU_SLOT_STAT, 6, 1⟩
abbrev FWU_SLOT_RECV_RECEIVED : Fld := ⟨.FWU_SLOT_RECV, 0, 14⟩
abbrev FWU_SLOT_RECV_COUNT : Fld := ⟨.FWU_SLOT_RECV, 16, 14⟩
abbrev FWU_SLOT_VER_VERSION : Fld := ⟨.FWU_SLOT_VER, 0, 32⟩
abbrev FWU_RUN_SLOT : Fld := ⟨.FWU_RUN, 0, 1⟩
abbrev FWU_RUN_TRIAL : Fld := ⟨.FWU_RUN, 1, 1⟩
abbrev FWU_RUN_SVN : Fld := ⟨.FWU_RUN, 8, 7⟩
abbrev FWU_RUN_REVOKED : Fld := ⟨.FWU_RUN, 16, 4⟩
abbrev FWU_PIECE_CNT_COUNT : Fld := ⟨.FWU_PIECE_CNT, 0, 32⟩
abbrev FWU_DUP_CNT_COUNT : Fld := ⟨.FWU_DUP_CNT, 0, 32⟩
abbrev FWU_REFUSE_CNT_COUNT : Fld := ⟨.FWU_REFUSE_CNT, 0, 32⟩
abbrev FWU_FALLBACK_CNT_COUNT : Fld := ⟨.FWU_FALLBACK_CNT, 0, 32⟩
abbrev FWU_PHDR_DATA : Fld := ⟨.FWU_PHDR, 0, 32⟩
abbrev FWU_PBUF_DATA : Fld := ⟨.FWU_PBUF, 0, 32⟩
abbrev GPIO_DIR_OUT_EN : Fld := ⟨.GPIO_DIR, 0, 32⟩
abbrev GPIO_OUT_DATA : Fld := ⟨.GPIO_OUT, 0, 32⟩
abbrev GPIO_IN_LEVEL : Fld := ⟨.GPIO_IN, 0, 32⟩
abbrev GPIO_CUE_MASK : Fld := ⟨.GPIO_CUE, 0, 32⟩
abbrev GPIO_ALERT_CFG_BLK_MASK : Fld := ⟨.GPIO_ALERT_CFG, 0, 27⟩
abbrev GPIO_ALERT_CFG_ON_ESC : Fld := ⟨.GPIO_ALERT_CFG, 29, 1⟩
abbrev GPIO_ALERT_CFG_ASSERT : Fld := ⟨.GPIO_ALERT_CFG, 30, 1⟩
abbrev GPIO_ALERT_CFG_EN : Fld := ⟨.GPIO_ALERT_CFG, 31, 1⟩
abbrev GPIO_ALERT_STAT_LOW : Fld := ⟨.GPIO_ALERT_STAT, 0, 1⟩
abbrev GPIO_ALERT_STAT_ESC_S : Fld := ⟨.GPIO_ALERT_STAT, 1, 1⟩
abbrev TTB_CFG_EN : Fld := ⟨.TTB_CFG, 0, 1⟩
abbrev TTB_STAT_ACTIVE : Fld := ⟨.TTB_STAT, 0, 1⟩
abbrev TTB_STAT_DARKROOM : Fld := ⟨.TTB_STAT, 1, 1⟩
abbrev TTB_STAT_CLK_OK : Fld := ⟨.TTB_STAT, 2, 1⟩
abbrev TTB_STAGE_ARG_ARG : Fld := ⟨.TTB_STAGE_ARG, 0, 32⟩
abbrev TTB_STAGE_AT_LO_AT : Fld := ⟨.TTB_STAGE_AT_LO, 0, 32⟩
abbrev TTB_STAGE_AT_HI_AT : Fld := ⟨.TTB_STAGE_AT_HI, 0, 16⟩
abbrev TTB_PEEK_ADDR_ADDR : Fld := ⟨.TTB_PEEK_ADDR, 0, 16⟩
abbrev TTB_PEEK_DATA_DATA : Fld := ⟨.TTB_PEEK_DATA, 0, 32⟩
abbrev TTB_CARD_WORD_DATA : Fld := ⟨.TTB_CARD_WORD, 0, 32⟩
abbrev TTB_TAKE_CNT_COUNT : Fld := ⟨.TTB_TAKE_CNT, 0, 32⟩
abbrev TTB_BUSY_CNT_COUNT : Fld := ⟨.TTB_BUSY_CNT, 0, 32⟩
abbrev TTB_WR_BAD_CNT_COUNT : Fld := ⟨.TTB_WR_BAD_CNT, 0, 32⟩
abbrev REF_SEL_STAT_PIN : Fld := ⟨.REF_SEL_STAT, 0, 3⟩
abbrev REF_SEL_STAT_LOOP : Fld := ⟨.REF_SEL_STAT, 4, 3⟩
abbrev REF_SEL_STAT_SLEWING : Fld := ⟨.REF_SEL_STAT, 8, 1⟩
abbrev REF_SEL_STAT_HOLD_SHORT : Fld := ⟨.REF_SEL_STAT, 9, 1⟩
abbrev REF_QL_MIN_QL_MIN : Fld := ⟨.REF_QL_MIN, 0, 4⟩
abbrev REF_QL_FIXED_ANA_A : Fld := ⟨.REF_QL_FIXED, 0, 4⟩
abbrev REF_QL_FIXED_ANA_B : Fld := ⟨.REF_QL_FIXED, 4, 4⟩
abbrev REF_QL_FIXED_FREQ : Fld := ⟨.REF_QL_FIXED, 8, 4⟩
abbrev REF_MON_CFG_DISAGREE_PPB : Fld := ⟨.REF_MON_CFG, 0, 16⟩
abbrev REF_DRIFT_CFG_DRIFT_LIMIT : Fld := ⟨.REF_DRIFT_CFG, 0, 16⟩
abbrev REF_HOLD_CFG_HOLD_LAG : Fld := ⟨.REF_HOLD_CFG, 0, 10⟩
abbrev REF_HOLD_CFG_HOLD_AVG : Fld := ⟨.REF_HOLD_CFG, 16, 11⟩
abbrev REF_QUAL_TIME_SECONDS : Fld := ⟨.REF_QUAL_TIME, 0, 8⟩
abbrev REF_LOOP_CFG_PHASE_BUILD : Fld := ⟨.REF_LOOP_CFG, 0, 1⟩
abbrev REF_LOOP_CFG_SLEW_PPB : Fld := ⟨.REF_LOOP_CFG, 16, 14⟩
abbrev REF_SRC_STAT_PRESENT : Fld := ⟨.REF_SRC_STAT, 0, 1⟩
abbrev REF_SRC_STAT_CLEAN : Fld := ⟨.REF_SRC_STAT, 1, 1⟩
abbrev REF_SRC_STAT_QUALIFIED : Fld := ⟨.REF_SRC_STAT, 2, 1⟩
abbrev REF_SRC_STAT_DRIFT_DQ : Fld := ⟨.REF_SRC_STAT, 3, 1⟩
abbrev REF_SRC_STAT_QL : Fld := ⟨.REF_SRC_STAT, 4, 4⟩
abbrev REF_SRC_STAT_FMT_RATE : Fld := ⟨.REF_SRC_STAT, 8, 4⟩
abbrev REF_SRC_STAT_FMT_TRI : Fld := ⟨.REF_SRC_STAT, 12, 1⟩
abbrev REF_SRC_OFFSET_OFS : Fld := ⟨.REF_SRC_OFFSET, 0, 32⟩
abbrev REF_HOLD_FREQ_FREQ : Fld := ⟨.REF_HOLD_FREQ, 0, 32⟩
abbrev REF_PHASE_ERR_ERR : Fld := ⟨.REF_PHASE_ERR, 0, 32⟩
abbrev REF_DISAGREE_PAIR_SRC_X : Fld := ⟨.REF_DISAGREE_PAIR, 0, 3⟩
abbrev REF_DISAGREE_PAIR_SRC_Y : Fld := ⟨.REF_DISAGREE_PAIR, 4, 3⟩
abbrev REF_DISAGREE_OFS_X_OFS : Fld := ⟨.REF_DISAGREE_OFS_X, 0, 32⟩
abbrev REF_DISAGREE_OFS_Y_OFS : Fld := ⟨.REF_DISAGREE_OFS_Y, 0, 32⟩
abbrev REF_REQUAL_SRC : Fld := ⟨.REF_REQUAL, 0, 8⟩
abbrev REF_PPS_TAI_LO_SEC : Fld := ⟨.REF_PPS_TAI_LO, 0, 32⟩
abbrev REF_PPS_TAI_HI_SEC : Fld := ⟨.REF_PPS_TAI_HI, 0, 16⟩
abbrev REF_RELOCK_CNT_COUNT : Fld := ⟨.REF_RELOCK_CNT, 0, 32⟩
abbrev REF_HOLD_SECONDS_COUNT : Fld := ⟨.REF_HOLD_SECONDS, 0, 32⟩
abbrev REF_OUT_CFG_EN : Fld := ⟨.REF_OUT_CFG, 0, 1⟩
abbrev REF_OUT_CFG_TD : Fld := ⟨.REF_OUT_CFG, 1, 3⟩
abbrev REF_OUT_CFG_MODE : Fld := ⟨.REF_OUT_CFG, 4, 2⟩
abbrev REF_OUT_CFG_POL : Fld := ⟨.REF_OUT_CFG, 6, 1⟩
abbrev REF_OUT_CFG_WIDTH : Fld := ⟨.REF_OUT_CFG, 16, 16⟩
abbrev REF_QLMAP_CLASS : Fld := ⟨.REF_QLMAP, 0, 8⟩
abbrev REF_QLMAP_ACC_MAX : Fld := ⟨.REF_QLMAP, 8, 8⟩
abbrev REF_QLMAP_QL : Fld := ⟨.REF_QLMAP, 16, 4⟩
abbrev REF_QLMAP_EN : Fld := ⟨.REF_QLMAP, 31, 1⟩
abbrev REF_TD_CFG_EN : Fld := ⟨.REF_TD_CFG, 0, 1⟩
abbrev REF_TD_CFG_SCAN : Fld := ⟨.REF_TD_CFG, 1, 1⟩
abbrev REF_TD_CFG_RATE : Fld := ⟨.REF_TD_CFG, 4, 4⟩
abbrev REF_TD_CFG_CUE_OPEN : Fld := ⟨.REF_TD_CFG, 8, 7⟩
abbrev REF_TD_LINES_TOTAL_LINES : Fld := ⟨.REF_TD_LINES, 0, 13⟩
abbrev REF_TD_LINES_SWITCH_LINE : Fld := ⟨.REF_TD_LINES, 16, 13⟩
abbrev REF_TD_PHASE_PHASE : Fld := ⟨.REF_TD_PHASE, 0, 32⟩
abbrev REF_TD_STAT_RUN : Fld := ⟨.REF_TD_STAT, 0, 1⟩
abbrev REF_TD_STAT_SLEWING : Fld := ⟨.REF_TD_STAT, 1, 1⟩
abbrev REF_TD_FRAME_FRAME : Fld := ⟨.REF_TD_FRAME, 0, 32⟩
abbrev REF_TD_SHUTTER_LO_ET : Fld := ⟨.REF_TD_SHUTTER_LO, 0, 32⟩
abbrev REF_TD_SHUTTER_HI_ET : Fld := ⟨.REF_TD_SHUTTER_HI, 0, 16⟩
abbrev PTP_ET_CFG_SEL : Fld := ⟨.PTP_ET_CFG, 0, 2⟩
abbrev PTP_ET_CFG_SLEW_NS : Fld := ⟨.PTP_ET_CFG, 16, 14⟩
abbrev PTP_ET_STAT_ET_VALID : Fld := ⟨.PTP_ET_STAT, 0, 1⟩
abbrev PTP_ET_STAT_CUR_DOM : Fld := ⟨.PTP_ET_STAT, 1, 1⟩
abbrev PTP_ET_STAT_PENDING : Fld := ⟨.PTP_ET_STAT, 2, 1⟩
abbrev PTP_ET_STAT_SLEWING : Fld := ⟨.PTP_ET_STAT, 3, 1⟩
abbrev PTP_ET_LO_ET : Fld := ⟨.PTP_ET_LO, 0, 32⟩
abbrev PTP_ET_HI_ET : Fld := ⟨.PTP_ET_HI, 0, 16⟩
abbrev PTP_TOD_SEC_LO_SEC : Fld := ⟨.PTP_TOD_SEC_LO, 0, 32⟩
abbrev PTP_TOD_SEC_HI_SEC : Fld := ⟨.PTP_TOD_SEC_HI, 0, 16⟩
abbrev PTP_TOD_NS_NS : Fld := ⟨.PTP_TOD_NS, 0, 30⟩
abbrev PTP_ET_RESID_LO_R : Fld := ⟨.PTP_ET_RESID_LO, 0, 32⟩
abbrev PTP_ET_RESID_HI_R : Fld := ⟨.PTP_ET_RESID_HI, 0, 32⟩
abbrev PTP_ET_STEP_GO : Fld := ⟨.PTP_ET_STEP, 0, 1⟩
abbrev PTP_DOM_CFG_EN : Fld := ⟨.PTP_DOM_CFG, 0, 1⟩
abbrev PTP_DOM_CFG_DREQ_UNICAST : Fld := ⟨.PTP_DOM_CFG, 1, 1⟩
abbrev PTP_DOM_CFG_DOMAIN_NUM : Fld := ⟨.PTP_DOM_CFG, 8, 8⟩
abbrev PTP_DOM_CFG_PORT0 : Fld := ⟨.PTP_DOM_CFG, 16, 8⟩
abbrev PTP_DOM_CFG_PORT1 : Fld := ⟨.PTP_DOM_CFG, 24, 8⟩
abbrev PTP_DOM_INTV_LOG_SYNC : Fld := ⟨.PTP_DOM_INTV, 0, 8⟩
abbrev PTP_DOM_INTV_LOG_DELAY : Fld := ⟨.PTP_DOM_INTV, 8, 8⟩
abbrev PTP_DOM_INTV_LOG_ANNOUNCE : Fld := ⟨.PTP_DOM_INTV, 16, 8⟩
abbrev PTP_DOM_INTV_ANN_TIMEOUT : Fld := ⟨.PTP_DOM_INTV, 24, 4⟩
abbrev PTP_SERVO_KP_KP : Fld := ⟨.PTP_SERVO_KP, 0, 32⟩
abbrev PTP_SERVO_KI_KI : Fld := ⟨.PTP_SERVO_KI, 0, 32⟩
abbrev PTP_SERVO_THR_LOCK_THRESH : Fld := ⟨.PTP_SERVO_THR, 0, 16⟩
abbrev PTP_SERVO_THR_STEP_THRESH : Fld := ⟨.PTP_SERVO_THR, 16, 16⟩
abbrev PTP_SERVO_FMAX_FREQ_MAX : Fld := ⟨.PTP_SERVO_FMAX, 0, 20⟩
abbrev PTP_DOM_STAT_STATE : Fld := ⟨.PTP_DOM_STAT, 0, 3⟩
abbrev PTP_DOM_STAT_ON_PORT1 : Fld := ⟨.PTP_DOM_STAT, 3, 1⟩
abbrev PTP_DOM_OFFSET_THETA : Fld := ⟨.PTP_DOM_OFFSET, 0, 32⟩
abbrev PTP_DOM_MPD_MPD : Fld := ⟨.PTP_DOM_MPD, 0, 32⟩
abbrev PTP_DOM_FREQ_Y : Fld := ⟨.PTP_DOM_FREQ, 0, 32⟩
abbrev PTP_DOM_GM_LO_GM : Fld := ⟨.PTP_DOM_GM_LO, 0, 32⟩
abbrev PTP_DOM_GM_HI_GM : Fld := ⟨.PTP_DOM_GM_HI, 0, 32⟩
abbrev PTP_DOM_ANN_CLASS : Fld := ⟨.PTP_DOM_ANN, 0, 8⟩
abbrev PTP_DOM_ANN_ACC : Fld := ⟨.PTP_DOM_ANN, 8, 8⟩
abbrev PTP_DOM_ANN_STEPS : Fld := ⟨.PTP_DOM_ANN, 16, 16⟩
abbrev PTP_DOM_STEP_CNT_COUNT : Fld := ⟨.PTP_DOM_STEP_CNT, 0, 32⟩
abbrev PTP_DOM_SYNC_CNT_COUNT : Fld := ⟨.PTP_DOM_SYNC_CNT, 0, 32⟩
abbrev PTP_DOM_LOST_CNT_COUNT : Fld := ⟨.PTP_DOM_LOST_CNT, 0, 32⟩
abbrev PTP_DOM_SEC_LO_TIME : Fld := ⟨.PTP_DOM_SEC_LO, 0, 32⟩
abbrev PTP_DOM_SEC_HI_TIME : Fld := ⟨.PTP_DOM_SEC_HI, 0, 16⟩
abbrev PTP_DOM_NS_TIME : Fld := ⟨.PTP_DOM_NS, 0, 30⟩
abbrev PTP_TILE_CFG_EN : Fld := ⟨.PTP_TILE_CFG, 0, 1⟩
abbrev PTP_TILE_CFG_LOG_SYNC : Fld := ⟨.PTP_TILE_CFG, 8, 8⟩
abbrev PTP_TILE_CFG_LOG_ANNOUNCE : Fld := ⟨.PTP_TILE_CFG, 16, 8⟩
abbrev PTP_TILE_CFG_DOMAIN_NUM : Fld := ⟨.PTP_TILE_CFG, 24, 8⟩
abbrev PTP_TILE_DREQ_DROP_COUNT : Fld := ⟨.PTP_TILE_DREQ_DROP, 0, 32⟩
abbrev PTP_TS_ADJ_RX_ADJ : Fld := ⟨.PTP_TS_ADJ, 0, 16⟩
abbrev PTP_TS_ADJ_TX_ADJ : Fld := ⟨.PTP_TS_ADJ, 16, 16⟩
abbrev PTP_TSQ_STAT_COUNT : Fld := ⟨.PTP_TSQ_STAT, 0, 7⟩
abbrev PTP_TSQ_STAT_OVF : Fld := ⟨.PTP_TSQ_STAT, 8, 1⟩
abbrev PTP_TSQ_TAG_TAG : Fld := ⟨.PTP_TSQ_TAG, 0, 16⟩
abbrev PTP_TSQ_TAG_VALID : Fld := ⟨.PTP_TSQ_TAG, 16, 1⟩
abbrev PTP_TSQ_TS_LO_TS : Fld := ⟨.PTP_TSQ_TS_LO, 0, 32⟩
abbrev PTP_TSQ_TS_HI_TS : Fld := ⟨.PTP_TSQ_TS_HI, 0, 16⟩
abbrev PTP_TSQ_DROP_COUNT : Fld := ⟨.PTP_TSQ_DROP, 0, 32⟩
abbrev MGMT_CFG_EN : Fld := ⟨.MGMT_CFG, 0, 1⟩
abbrev MGMT_CFG_MODE : Fld := ⟨.MGMT_CFG, 1, 3⟩
abbrev MGMT_CFG_AN : Fld := ⟨.MGMT_CFG, 4, 1⟩
abbrev MGMT_CFG_JUMBO : Fld := ⟨.MGMT_CFG, 5, 1⟩
abbrev MGMT_CFG_BCAST : Fld := ⟨.MGMT_CFG, 6, 1⟩
abbrev MGMT_STAT_LINK_UP : Fld := ⟨.MGMT_STAT, 0, 1⟩
abbrev MGMT_STAT_PAUSED : Fld := ⟨.MGMT_STAT, 1, 1⟩
abbrev MGMT_STAT_AN_DONE : Fld := ⟨.MGMT_STAT, 2, 1⟩
abbrev MGMT_STAT_LINK_DOWN_S : Fld := ⟨.MGMT_STAT, 8, 1⟩
abbrev MGMT_STAT_PAUSE_LEFT : Fld := ⟨.MGMT_STAT, 16, 16⟩
abbrev MGMT_IPV4_ADDR : Fld := ⟨.MGMT_IPV4, 0, 32⟩
abbrev MGMT_RX_HEAD_IDX : Fld := ⟨.MGMT_RX_HEAD, 0, 6⟩
abbrev MGMT_RX_TAIL_IDX : Fld := ⟨.MGMT_RX_TAIL, 0, 6⟩
abbrev MGMT_TX_HEAD_IDX : Fld := ⟨.MGMT_TX_HEAD, 0, 6⟩
abbrev MGMT_TX_TAIL_IDX : Fld := ⟨.MGMT_TX_TAIL, 0, 6⟩
abbrev MGMT_ADDR_LO_ADDR : Fld := ⟨.MGMT_ADDR_LO, 0, 32⟩
abbrev MGMT_ADDR_HI_ADDR : Fld := ⟨.MGMT_ADDR_HI, 0, 16⟩
abbrev MGMT_ADDR_HI_EN : Fld := ⟨.MGMT_ADDR_HI, 31, 1⟩
abbrev MGMT_RX_FCS_COUNT : Fld := ⟨.MGMT_RX_FCS, 0, 32⟩
abbrev MGMT_RX_RUNT_COUNT : Fld := ⟨.MGMT_RX_RUNT, 0, 32⟩
abbrev MGMT_RX_OVERSIZE_COUNT : Fld := ⟨.MGMT_RX_OVERSIZE, 0, 32⟩
abbrev MGMT_RX_ALIGN_COUNT : Fld := ⟨.MGMT_RX_ALIGN, 0, 32⟩
abbrev MGMT_RX_FILTER_COUNT : Fld := ⟨.MGMT_RX_FILTER, 0, 32⟩
abbrev MGMT_RX_HOST_DROP_COUNT : Fld := ⟨.MGMT_RX_HOST_DROP, 0, 32⟩
abbrev MGMT_RX_PAUSE_COUNT : Fld := ⟨.MGMT_RX_PAUSE, 0, 32⟩
abbrev MGMT_TX_OVERSIZE_COUNT : Fld := ⟨.MGMT_TX_OVERSIZE, 0, 32⟩
abbrev MGMT_RX_FRAMES_LO_COUNT : Fld := ⟨.MGMT_RX_FRAMES_LO, 0, 32⟩
abbrev MGMT_RX_FRAMES_HI_COUNT : Fld := ⟨.MGMT_RX_FRAMES_HI, 0, 32⟩
abbrev MGMT_TX_FRAMES_LO_COUNT : Fld := ⟨.MGMT_TX_FRAMES_LO, 0, 32⟩
abbrev MGMT_TX_FRAMES_HI_COUNT : Fld := ⟨.MGMT_TX_FRAMES_HI, 0, 32⟩
abbrev LANE_CFG_RX_PROTO : Fld := ⟨.LANE_CFG, 0, 3⟩
abbrev LANE_CFG_TX_PROTO : Fld := ⟨.LANE_CFG, 4, 3⟩
abbrev LANE_CFG_RX_RATE : Fld := ⟨.LANE_CFG, 8, 4⟩
abbrev LANE_CFG_TX_RATE : Fld := ⟨.LANE_CFG, 12, 4⟩
abbrev LANE_CFG_GROUP : Fld := ⟨.LANE_CFG, 16, 2⟩
abbrev LANE_CFG_RX_INV : Fld := ⟨.LANE_CFG, 18, 1⟩
abbrev LANE_CFG_TX_INV : Fld := ⟨.LANE_CFG, 19, 1⟩
abbrev LANE_CFG_LOOP : Fld := ⟨.LANE_CFG, 20, 2⟩
abbrev LANE_CFG_TX_IDLE : Fld := ⟨.LANE_CFG, 24, 1⟩
abbrev LANE_TXEQ_PRE_U : Fld := ⟨.LANE_TXEQ, 0, 6⟩
abbrev LANE_TXEQ_MAIN_U : Fld := ⟨.LANE_TXEQ, 8, 6⟩
abbrev LANE_TXEQ_POST_U : Fld := ⟨.LANE_TXEQ, 16, 6⟩
abbrev LANE_RXEQ_ADAPT : Fld := ⟨.LANE_RXEQ, 0, 2⟩
abbrev LANE_RXEQ_SQ_LEVEL : Fld := ⟨.LANE_RXEQ, 4, 4⟩
abbrev LANE_RXEQ_CTLE : Fld := ⟨.LANE_RXEQ, 8, 4⟩
abbrev LANE_STAT_LOS : Fld := ⟨.LANE_STAT, 0, 1⟩
abbrev LANE_STAT_CDR_LOCK : Fld := ⟨.LANE_STAT, 1, 1⟩
abbrev LANE_STAT_ADAPT_DONE : Fld := ⟨.LANE_STAT, 2, 1⟩
abbrev LANE_STAT_TX_ACTIVE : Fld := ⟨.LANE_STAT, 3, 1⟩
abbrev LANE_STAT_TX_PLL : Fld := ⟨.LANE_STAT, 4, 2⟩
abbrev LANE_STAT_RATE_DET : Fld := ⟨.LANE_STAT, 8, 4⟩
abbrev LANE_STAT_LOS_S : Fld := ⟨.LANE_STAT, 16, 1⟩
abbrev LANE_STAT_UNLOCK_S : Fld := ⟨.LANE_STAT, 17, 1⟩
abbrev LANE_STAT_EYE_LOW_S : Fld := ⟨.LANE_STAT, 18, 1⟩
abbrev LANE_STAT_PLL_LOST_S : Fld := ⟨.LANE_STAT, 19, 1⟩
abbrev LANE_EYE_EYE_H : Fld := ⟨.LANE_EYE, 0, 8⟩
abbrev LANE_EYE_EYE_V : Fld := ⟨.LANE_EYE, 8, 8⟩
abbrev LANE_EYE_H_MIN : Fld := ⟨.LANE_EYE, 16, 8⟩
abbrev LANE_EYE_V_MIN : Fld := ⟨.LANE_EYE, 24, 8⟩
abbrev LANE_LOS_CNT_COUNT : Fld := ⟨.LANE_LOS_CNT, 0, 32⟩
abbrev LANE_QUAD_STAT_FAM0 : Fld := ⟨.LANE_QUAD_STAT, 0, 3⟩
abbrev LANE_QUAD_STAT_FAM1 : Fld := ⟨.LANE_QUAD_STAT, 4, 3⟩
abbrev LANE_QUAD_STAT_SPARE : Fld := ⟨.LANE_QUAD_STAT, 8, 2⟩
abbrev LANE_EYE_CFG_PERIOD : Fld := ⟨.LANE_EYE_CFG, 0, 16⟩
abbrev LANE_EYE_CFG_WARN_H : Fld := ⟨.LANE_EYE_CFG, 16, 8⟩
abbrev LANE_EYE_CFG_WARN_V : Fld := ⟨.LANE_EYE_CFG, 24, 8⟩
abbrev LANE_EYE_CLR_CLR : Fld := ⟨.LANE_EYE_CLR, 0, 1⟩
abbrev SDI_RX_CFG_EN : Fld := ⟨.SDI_RX_CFG, 0, 1⟩
abbrev SDI_RX_CFG_MAP : Fld := ⟨.SDI_RX_CFG, 1, 3⟩
abbrev SDI_RX_CFG_PID_CHECK : Fld := ⟨.SDI_RX_CFG, 4, 1⟩
abbrev SDI_RX_CFG_TD : Fld := ⟨.SDI_RX_CFG, 5, 3⟩
abbrev SDI_RX_CFG_FMT : Fld := ⟨.SDI_RX_CFG, 8, 8⟩
abbrev SDI_RX_CFG_VIN : Fld := ⟨.SDI_RX_CFG, 16, 10⟩
abbrev SDI_RX_CFG2_VIN2 : Fld := ⟨.SDI_RX_CFG2, 0, 10⟩
abbrev SDI_RX_CFG2_FMT2 : Fld := ⟨.SDI_RX_CFG2, 16, 8⟩
abbrev SDI_RX_AUD_ACH_BASE : Fld := ⟨.SDI_RX_AUD, 0, 14⟩
abbrev SDI_RX_AUD_COUNT : Fld := ⟨.SDI_RX_AUD, 16, 6⟩
abbrev SDI_RX_AUD_EN : Fld := ⟨.SDI_RX_AUD, 31, 1⟩
abbrev SDI_RX_AUD2_ACH_BASE : Fld := ⟨.SDI_RX_AUD2, 0, 14⟩
abbrev SDI_RX_AUD2_COUNT : Fld := ⟨.SDI_RX_AUD2, 16, 6⟩
abbrev SDI_RX_AUD2_EN : Fld := ⟨.SDI_RX_AUD2, 31, 1⟩
abbrev SDI_RX_STAT_STATE : Fld := ⟨.SDI_RX_STAT, 0, 2⟩
abbrev SDI_RX_STAT_PID_VALID : Fld := ⟨.SDI_RX_STAT, 2, 1⟩
abbrev SDI_RX_STAT_AUD_RATE : Fld := ⟨.SDI_RX_STAT, 3, 1⟩
abbrev SDI_RX_STAT_SCAN_DET : Fld := ⟨.SDI_RX_STAT, 4, 1⟩
abbrev SDI_RX_STAT_RATE_CODE : Fld := ⟨.SDI_RX_STAT, 8, 8⟩
abbrev SDI_RX_STAT_LINES_DET : Fld := ⟨.SDI_RX_STAT, 16, 12⟩
abbrev SDI_RX_STAT_UNLOCK_S : Fld := ⟨.SDI_RX_STAT, 28, 1⟩
abbrev SDI_RX_STAT_MISMATCH_S : Fld := ⟨.SDI_RX_STAT, 29, 1⟩
abbrev SDI_RX_STAT_CRC_S : Fld := ⟨.SDI_RX_STAT, 30, 1⟩
abbrev SDI_RX_STAT_SKEW_S : Fld := ⟨.SDI_RX_STAT, 31, 1⟩
abbrev SDI_RX_PHASE_PHASE : Fld := ⟨.SDI_RX_PHASE, 0, 32⟩
abbrev SDI_RX_PID_PID : Fld := ⟨.SDI_RX_PID, 0, 32⟩
abbrev SDI_RX_PID2_PID : Fld := ⟨.SDI_RX_PID2, 0, 32⟩
abbrev SDI_RX_TRS_ERR_COUNT : Fld := ⟨.SDI_RX_TRS_ERR, 0, 32⟩
abbrev SDI_RX_LN_ERR_COUNT : Fld := ⟨.SDI_RX_LN_ERR, 0, 32⟩
abbrev SDI_RX_CRC_ERR_COUNT : Fld := ⟨.SDI_RX_CRC_ERR, 0, 32⟩
abbrev SDI_RX_ANC_CS_COUNT : Fld := ⟨.SDI_RX_ANC_CS, 0, 32⟩
abbrev SDI_RX_ANC_DROP_COUNT : Fld := ⟨.SDI_RX_ANC_DROP, 0, 32⟩
abbrev SDI_RX_AUD_ECC_COUNT : Fld := ⟨.SDI_RX_AUD_ECC, 0, 32⟩
abbrev SDI_RX_UNLOCK_CNT_COUNT : Fld := ⟨.SDI_RX_UNLOCK_CNT, 0, 32⟩
abbrev SDI_RX_SKEW_CNT_COUNT : Fld := ⟨.SDI_RX_SKEW_CNT, 0, 32⟩
abbrev SDI_TX_CFG_EN : Fld := ⟨.SDI_TX_CFG, 0, 1⟩
abbrev SDI_TX_CFG_MAP : Fld := ⟨.SDI_TX_CFG, 1, 3⟩
abbrev SDI_TX_CFG_IDLE : Fld := ⟨.SDI_TX_CFG, 4, 1⟩
abbrev SDI_TX_CFG_PID_MODE : Fld := ⟨.SDI_TX_CFG, 5, 2⟩
abbrev SDI_TX_CFG_FMT : Fld := ⟨.SDI_TX_CFG, 8, 8⟩
abbrev SDI_TX_CFG_VOUT : Fld := ⟨.SDI_TX_CFG, 16, 10⟩
abbrev SDI_TX_CFG2_VOUT2 : Fld := ⟨.SDI_TX_CFG2, 0, 10⟩
abbrev SDI_TX_CFG2_FMT2 : Fld := ⟨.SDI_TX_CFG2, 16, 8⟩
abbrev SDI_TX_AUD_ACH_BASE : Fld := ⟨.SDI_TX_AUD, 0, 14⟩
abbrev SDI_TX_AUD_COUNT : Fld := ⟨.SDI_TX_AUD, 16, 6⟩
abbrev SDI_TX_AUD_EN : Fld := ⟨.SDI_TX_AUD, 31, 1⟩
abbrev SDI_TX_AUD2_ACH_BASE : Fld := ⟨.SDI_TX_AUD2, 0, 14⟩
abbrev SDI_TX_AUD2_COUNT : Fld := ⟨.SDI_TX_AUD2, 16, 6⟩
abbrev SDI_TX_AUD2_EN : Fld := ⟨.SDI_TX_AUD2, 31, 1⟩
abbrev SDI_TX_STAT_RUNNING : Fld := ⟨.SDI_TX_STAT, 0, 1⟩
abbrev SDI_TX_STAT_SRC_PRESENT : Fld := ⟨.SDI_TX_STAT, 1, 1⟩
abbrev SDI_TX_STAT_ROUTED : Fld := ⟨.SDI_TX_STAT, 2, 1⟩
abbrev SDI_TX_STAT_ANC_DROP_S : Fld := ⟨.SDI_TX_STAT, 8, 1⟩
abbrev SDI_TX_PID_PID : Fld := ⟨.SDI_TX_PID, 0, 32⟩
abbrev SDI_TX_ANC_DROP_COUNT : Fld := ⟨.SDI_TX_ANC_DROP, 0, 32⟩
abbrev SDI_TX_ANC_DEL_DID : Fld := ⟨.SDI_TX_ANC_DEL, 0, 8⟩
abbrev SDI_TX_ANC_DEL_SDID : Fld := ⟨.SDI_TX_ANC_DEL, 8, 8⟩
abbrev SDI_TX_ANC_DEL_SDID_ANY : Fld := ⟨.SDI_TX_ANC_DEL, 16, 1⟩
abbrev SDI_TX_ANC_DEL_EN : Fld := ⟨.SDI_TX_ANC_DEL, 31, 1⟩
abbrev MPORT_CFG_EN : Fld := ⟨.MPORT_CFG, 0, 1⟩
abbrev MPORT_CFG_LANE : Fld := ⟨.MPORT_CFG, 1, 7⟩
abbrev MPORT_CFG_JUMBO : Fld := ⟨.MPORT_CFG, 8, 1⟩
abbrev MPORT_CFG_RSFEC : Fld := ⟨.MPORT_CFG, 9, 1⟩
abbrev MPORT_CFG_HOST_BCAST : Fld := ⟨.MPORT_CFG, 10, 1⟩
abbrev MPORT_CFG_HOST_UCAST : Fld := ⟨.MPORT_CFG, 11, 1⟩
abbrev MPORT_CFG_HOST_LL : Fld := ⟨.MPORT_CFG, 12, 1⟩
abbrev MPORT_MAC_LO_MAC : Fld := ⟨.MPORT_MAC_LO, 0, 32⟩
abbrev MPORT_MAC_HI_MAC : Fld := ⟨.MPORT_MAC_HI, 0, 16⟩
abbrev MPORT_IPV4_ADDR : Fld := ⟨.MPORT_IPV4, 0, 32⟩
abbrev MPORT_STAT_LINK_UP : Fld := ⟨.MPORT_STAT, 0, 1⟩
abbrev MPORT_STAT_PAUSED : Fld := ⟨.MPORT_STAT, 1, 1⟩
abbrev MPORT_STAT_LINK_DOWN_S : Fld := ⟨.MPORT_STAT, 8, 1⟩
abbrev MPORT_TX_LOAD_MBPS : Fld := ⟨.MPORT_TX_LOAD, 0, 20⟩
abbrev MPORT_HRX_BASE_LO_BASE : Fld := ⟨.MPORT_HRX_BASE_LO, 6, 26⟩
abbrev MPORT_HRX_CFG_BASE_HI : Fld := ⟨.MPORT_HRX_CFG, 0, 8⟩
abbrev MPORT_HRX_CFG_SIZE : Fld := ⟨.MPORT_HRX_CFG, 8, 4⟩
abbrev MPORT_HRX_CFG_SLOT : Fld := ⟨.MPORT_HRX_CFG, 12, 1⟩
abbrev MPORT_HRX_HEAD_IDX : Fld := ⟨.MPORT_HRX_HEAD, 0, 12⟩
abbrev MPORT_HRX_TAIL_IDX : Fld := ⟨.MPORT_HRX_TAIL, 0, 12⟩
abbrev MPORT_HTX_BASE_LO_BASE : Fld := ⟨.MPORT_HTX_BASE_LO, 6, 26⟩
abbrev MPORT_HTX_CFG_BASE_HI : Fld := ⟨.MPORT_HTX_CFG, 0, 8⟩
abbrev MPORT_HTX_CFG_SIZE : Fld := ⟨.MPORT_HTX_CFG, 8, 4⟩
abbrev MPORT_HTX_CFG_SLOT : Fld := ⟨.MPORT_HTX_CFG, 12, 1⟩
abbrev MPORT_HTX_HEAD_IDX : Fld := ⟨.MPORT_HTX_HEAD, 0, 12⟩
abbrev MPORT_HTX_TAIL_IDX : Fld := ⟨.MPORT_HTX_TAIL, 0, 12⟩
abbrev MPORT_RX_FCS_COUNT : Fld := ⟨.MPORT_RX_FCS, 0, 32⟩
abbrev MPORT_RX_RUNT_COUNT : Fld := ⟨.MPORT_RX_RUNT, 0, 32⟩
abbrev MPORT_RX_OVERSIZE_COUNT : Fld := ⟨.MPORT_RX_OVERSIZE, 0, 32⟩
abbrev MPORT_RX_ALIGN_COUNT : Fld := ⟨.MPORT_RX_ALIGN, 0, 32⟩
abbrev MPORT_RX_IP_ERR_COUNT : Fld := ⟨.MPORT_RX_IP_ERR, 0, 32⟩
abbrev MPORT_RX_FILTER_COUNT : Fld := ⟨.MPORT_RX_FILTER, 0, 32⟩
abbrev MPORT_RX_FLOW_DROP_COUNT : Fld := ⟨.MPORT_RX_FLOW_DROP, 0, 32⟩
abbrev MPORT_RX_HOST_DROP_COUNT : Fld := ⟨.MPORT_RX_HOST_DROP, 0, 32⟩
abbrev MPORT_TX_OVERSIZE_COUNT : Fld := ⟨.MPORT_TX_OVERSIZE, 0, 32⟩
abbrev MPORT_TX_PAUSE_DROP_COUNT : Fld := ⟨.MPORT_TX_PAUSE_DROP, 0, 32⟩
abbrev MPORT_RX_FRAMES_LO_COUNT : Fld := ⟨.MPORT_RX_FRAMES_LO, 0, 32⟩
abbrev MPORT_RX_FRAMES_HI_COUNT : Fld := ⟨.MPORT_RX_FRAMES_HI, 0, 32⟩
abbrev MPORT_TX_FRAMES_LO_COUNT : Fld := ⟨.MPORT_TX_FRAMES_LO, 0, 32⟩
abbrev MPORT_TX_FRAMES_HI_COUNT : Fld := ⟨.MPORT_TX_FRAMES_HI, 0, 32⟩
abbrev MPORT_FEC_CORR_COUNT : Fld := ⟨.MPORT_FEC_CORR, 0, 32⟩
abbrev MPORT_FEC_UNCORR_COUNT : Fld := ⟨.MPORT_FEC_UNCORR, 0, 32⟩
abbrev MPORT_RXC_CFG_EN : Fld := ⟨.MPORT_RXC_CFG, 0, 1⟩
abbrev MPORT_RXC_CFG_TYPE : Fld := ⟨.MPORT_RXC_CFG, 1, 3⟩
abbrev MPORT_RXC_CFG_PORT : Fld := ⟨.MPORT_RXC_CFG, 4, 7⟩
abbrev MPORT_RXC_CFG_TD : Fld := ⟨.MPORT_RXC_CFG, 11, 3⟩
abbrev MPORT_RXC_CFG_FMT : Fld := ⟨.MPORT_RXC_CFG, 16, 8⟩
abbrev MPORT_RXC_DST_DST : Fld := ⟨.MPORT_RXC_DST, 0, 14⟩
abbrev MPORT_RXC_DST_COUNT : Fld := ⟨.MPORT_RXC_DST, 16, 7⟩
abbrev MPORT_RXC_DST_L16 : Fld := ⟨.MPORT_RXC_DST, 24, 1⟩
abbrev MPORT_RXC_DST_FS96 : Fld := ⟨.MPORT_RXC_DST, 25, 1⟩
abbrev MPORT_RXC_DST_PTIME : Fld := ⟨.MPORT_RXC_DST, 26, 1⟩
abbrev MPORT_RXC_CHK_PT : Fld := ⟨.MPORT_RXC_CHK, 0, 7⟩
abbrev MPORT_RXC_CHK_PT_CHK : Fld := ⟨.MPORT_RXC_CHK, 7, 1⟩
abbrev MPORT_RXC_CHK_SSRC_CHK : Fld := ⟨.MPORT_RXC_CHK, 8, 1⟩
abbrev MPORT_RXC_CHK_TIMEOUT : Fld := ⟨.MPORT_RXC_CHK, 16, 16⟩
abbrev MPORT_RXC_SSRC_SSRC : Fld := ⟨.MPORT_RXC_SSRC, 0, 32⟩
abbrev MPORT_RXC_STAT_STATE : Fld := ⟨.MPORT_RXC_STAT, 0, 2⟩
abbrev MPORT_RXC_STAT_UNLOCK_S : Fld := ⟨.MPORT_RXC_STAT, 8, 1⟩
abbrev MPORT_RXC_STAT_MISMATCH_S : Fld := ⟨.MPORT_RXC_STAT, 9, 1⟩
abbrev MPORT_RXC_STAT_LOSS_S : Fld := ⟨.MPORT_RXC_STAT, 10, 1⟩
abbrev MPORT_RXC_PHASE_PHASE : Fld := ⟨.MPORT_RXC_PHASE, 0, 32⟩
abbrev MPORT_RXC_LOSS_COUNT : Fld := ⟨.MPORT_RXC_LOSS, 0, 32⟩
abbrev MPORT_RXC_LATE_COUNT : Fld := ⟨.MPORT_RXC_LATE, 0, 32⟩
abbrev MPORT_RXC_MALFORMED_COUNT : Fld := ⟨.MPORT_RXC_MALFORMED, 0, 32⟩
abbrev MPORT_RXC_AUD_ACH_BASE : Fld := ⟨.MPORT_RXC_AUD, 0, 14⟩
abbrev MPORT_RXC_AUD_COUNT : Fld := ⟨.MPORT_RXC_AUD, 16, 6⟩
abbrev MPORT_RXC_AUD_EN : Fld := ⟨.MPORT_RXC_AUD, 31, 1⟩
abbrev MPORT_RXC_UNLOCK_CNT_COUNT : Fld := ⟨.MPORT_RXC_UNLOCK_CNT, 0, 32⟩
abbrev MPORT_RXC_SDI_ERR_COUNT : Fld := ⟨.MPORT_RXC_SDI_ERR, 0, 32⟩
abbrev MPORT_MRG_CFG_EN : Fld := ⟨.MPORT_MRG_CFG, 0, 1⟩
abbrev MPORT_MRG_CFG_CTX_A : Fld := ⟨.MPORT_MRG_CFG, 1, 12⟩
abbrev MPORT_MRG_CFG_CTX_B : Fld := ⟨.MPORT_MRG_CFG, 13, 12⟩
abbrev MPORT_MRG_DELAY_DELAY : Fld := ⟨.MPORT_MRG_DELAY, 0, 15⟩
abbrev MPORT_MRG_DELAY_RATE : Fld := ⟨.MPORT_MRG_DELAY, 16, 16⟩
abbrev MPORT_MRG_BUF_BUF : Fld := ⟨.MPORT_MRG_BUF, 0, 20⟩
abbrev MPORT_MRG_BUF_LEN : Fld := ⟨.MPORT_MRG_BUF, 20, 12⟩
abbrev MPORT_MRG_STAT_A_OK : Fld := ⟨.MPORT_MRG_STAT, 0, 1⟩
abbrev MPORT_MRG_STAT_B_OK : Fld := ⟨.MPORT_MRG_STAT, 1, 1⟩
abbrev MPORT_MRG_STAT_LEAD : Fld := ⟨.MPORT_MRG_STAT, 2, 1⟩
abbrev MPORT_MRG_SKEW_D : Fld := ⟨.MPORT_MRG_SKEW, 0, 32⟩
abbrev MPORT_MRG_LATE_COUNT : Fld := ⟨.MPORT_MRG_LATE, 0, 32⟩
abbrev MPORT_MRG_LOST_COUNT : Fld := ⟨.MPORT_MRG_LOST, 0, 32⟩
abbrev MPORT_MRG_LEADCHG_COUNT : Fld := ⟨.MPORT_MRG_LEADCHG, 0, 32⟩
abbrev MPORT_TXC_CFG_EN : Fld := ⟨.MPORT_TXC_CFG, 0, 1⟩
abbrev MPORT_TXC_CFG_TYPE : Fld := ⟨.MPORT_TXC_CFG, 1, 3⟩
abbrev MPORT_TXC_CFG_PORT_A : Fld := ⟨.MPORT_TXC_CFG, 4, 7⟩
abbrev MPORT_TXC_CFG_PORT_B : Fld := ⟨.MPORT_TXC_CFG, 11, 7⟩
abbrev MPORT_TXC_CFG_DUAL : Fld := ⟨.MPORT_TXC_CFG, 18, 1⟩
abbrev MPORT_TXC_CFG_SENDER : Fld := ⟨.MPORT_TXC_CFG, 19, 1⟩
abbrev MPORT_TXC_CFG_PACK : Fld := ⟨.MPORT_TXC_CFG, 20, 1⟩
abbrev MPORT_TXC_CFG_VLAN_EN : Fld := ⟨.MPORT_TXC_CFG, 21, 1⟩
abbrev MPORT_TXC_CFG_FMT : Fld := ⟨.MPORT_TXC_CFG, 24, 8⟩
abbrev MPORT_TXC_SRC_SRC : Fld := ⟨.MPORT_TXC_SRC, 0, 14⟩
abbrev MPORT_TXC_SRC_COUNT : Fld := ⟨.MPORT_TXC_SRC, 16, 7⟩
abbrev MPORT_TXC_SRC_L16 : Fld := ⟨.MPORT_TXC_SRC, 24, 1⟩
abbrev MPORT_TXC_SRC_FS96 : Fld := ⟨.MPORT_TXC_SRC, 25, 1⟩
abbrev MPORT_TXC_SRC_PTIME : Fld := ⟨.MPORT_TXC_SRC, 26, 1⟩
abbrev MPORT_TXC_DIP_A_ADDR : Fld := ⟨.MPORT_TXC_DIP_A, 0, 32⟩
abbrev MPORT_TXC_DIP_B_ADDR : Fld := ⟨.MPORT_TXC_DIP_B, 0, 32⟩
abbrev MPORT_TXC_UDP_SPORT : Fld := ⟨.MPORT_TXC_UDP, 0, 16⟩
abbrev MPORT_TXC_UDP_DPORT : Fld := ⟨.MPORT_TXC_UDP, 16, 16⟩
abbrev MPORT_TXC_SSRC_SSRC : Fld := ⟨.MPORT_TXC_SSRC, 0, 32⟩
abbrev MPORT_TXC_HDR_PT : Fld := ⟨.MPORT_TXC_HDR, 0, 7⟩
abbrev MPORT_TXC_HDR_DSCP : Fld := ⟨.MPORT_TXC_HDR, 8, 6⟩
abbrev MPORT_TXC_HDR_VID : Fld := ⟨.MPORT_TXC_HDR, 16, 12⟩
abbrev MPORT_TXC_PKT_PKT_BYTES : Fld := ⟨.MPORT_TXC_PKT, 0, 14⟩
abbrev MPORT_TXC_PKT_TTL : Fld := ⟨.MPORT_TXC_PKT, 16, 8⟩
abbrev MPORT_TXC_TRO_TRO : Fld := ⟨.MPORT_TXC_TRO, 0, 28⟩
abbrev MPORT_TXC_WIRE_MBPS : Fld := ⟨.MPORT_TXC_WIRE, 0, 20⟩
abbrev MPORT_TXC_STAT_RUNNING : Fld := ⟨.MPORT_TXC_STAT, 0, 1⟩
abbrev MPORT_TXC_STAT_SRC_PRESENT : Fld := ⟨.MPORT_TXC_STAT, 1, 1⟩
abbrev MPORT_TXC_PKTS_LO_COUNT : Fld := ⟨.MPORT_TXC_PKTS_LO, 0, 32⟩
abbrev MPORT_TXC_PKTS_HI_COUNT : Fld := ⟨.MPORT_TXC_PKTS_HI, 0, 32⟩
abbrev FLOW_CFG_AGE_PERIOD : Fld := ⟨.FLOW_CFG, 0, 16⟩
abbrev FLOW_STAT_INIT_DONE : Fld := ⟨.FLOW_STAT, 0, 1⟩
abbrev FLOW_COUNT_VALID : Fld := ⟨.FLOW_COUNT, 0, 20⟩
abbrev FLOW_Q_DATA_DATA : Fld := ⟨.FLOW_Q_DATA, 0, 32⟩
abbrev FLOW_Q_CMD_OP : Fld := ⟨.FLOW_Q_CMD, 0, 3⟩
abbrev FLOW_Q_CMD_INDEX : Fld := ⟨.FLOW_Q_CMD, 4, 19⟩
abbrev FLOW_Q_STAT_WAITING : Fld := ⟨.FLOW_Q_STAT, 0, 7⟩
abbrev FLOW_Q_STAT_RESULTS : Fld := ⟨.FLOW_Q_STAT, 8, 7⟩
abbrev FLOW_RES_INDEX : Fld := ⟨.FLOW_RES, 0, 19⟩
abbrev FLOW_RES_RESULT : Fld := ⟨.FLOW_RES, 20, 3⟩
abbrev FLOW_RES_OP : Fld := ⟨.FLOW_RES, 24, 3⟩
abbrev FLOW_RES_VALID : Fld := ⟨.FLOW_RES, 31, 1⟩
abbrev FLOW_RES_DATA_DATA : Fld := ⟨.FLOW_RES_DATA, 0, 32⟩
abbrev FLOW_AGED_INDEX : Fld := ⟨.FLOW_AGED, 0, 19⟩
abbrev FLOW_AGED_VALID : Fld := ⟨.FLOW_AGED, 31, 1⟩
abbrev FLOW_HIT_COUNT : Fld := ⟨.FLOW_HIT, 0, 32⟩
abbrev FLOW_MISS_COUNT : Fld := ⟨.FLOW_MISS, 0, 32⟩
abbrev FLOW_INS_FULL_COUNT : Fld := ⟨.FLOW_INS_FULL, 0, 32⟩
abbrev FLOW_AGED_CNT_COUNT : Fld := ⟨.FLOW_AGED_CNT, 0, 32⟩
abbrev FLOW_ECC_CORR_COUNT : Fld := ⟨.FLOW_ECC_CORR, 0, 32⟩
abbrev FLOW_ECC_UNCORR_COUNT : Fld := ⟨.FLOW_ECC_UNCORR, 0, 32⟩
abbrev FLOW_MOVES_COUNT : Fld := ⟨.FLOW_MOVES, 0, 32⟩
abbrev FLOW_CMDQ_OVF_COUNT : Fld := ⟨.FLOW_CMDQ_OVF, 0, 32⟩
abbrev XPT_CFG_OVERLAP : Fld := ⟨.XPT_CFG, 0, 5⟩
abbrev XPT_STAT_UA : Fld := ⟨.XPT_STAT, 0, 4⟩
abbrev XPT_STAT_UB : Fld := ⟨.XPT_STAT, 4, 4⟩
abbrev XPT_STAT_DEGRADE : Fld := ⟨.XPT_STAT, 8, 1⟩
abbrev XPT_STAT_OVL_RED_A : Fld := ⟨.XPT_STAT, 9, 1⟩
abbrev XPT_STAT_OVL_RED_B : Fld := ⟨.XPT_STAT, 10, 1⟩
abbrev XPT_STAT_INIT_DONE : Fld := ⟨.XPT_STAT, 11, 1⟩
abbrev XPT_CAP_A_CAP : Fld := ⟨.XPT_CAP_A, 0, 32⟩
abbrev XPT_CAP_B_CAP : Fld := ⟨.XPT_CAP_B, 0, 32⟩
abbrev XPT_LOAD_A_IN_LOAD : Fld := ⟨.XPT_LOAD_A_IN, 0, 32⟩
abbrev XPT_LOAD_A_OUT_LOAD : Fld := ⟨.XPT_LOAD_A_OUT, 0, 32⟩
abbrev XPT_LOAD_B_IN_LOAD : Fld := ⟨.XPT_LOAD_B_IN, 0, 32⟩
abbrev XPT_LOAD_B_OUT_LOAD : Fld := ⟨.XPT_LOAD_B_OUT, 0, 32⟩
abbrev XPT_STORE_A_WORDS : Fld := ⟨.XPT_STORE_A, 0, 24⟩
abbrev XPT_STORE_B_WORDS : Fld := ⟨.XPT_STORE_B, 0, 24⟩
abbrev XPT_OVL_EFF_EFF_A : Fld := ⟨.XPT_OVL_EFF, 0, 5⟩
abbrev XPT_OVL_EFF_EFF_B : Fld := ⟨.XPT_OVL_EFF, 8, 5⟩
abbrev XPT_HBM_LOAD_MBPS : Fld := ⟨.XPT_HBM_LOAD, 0, 20⟩
abbrev XPT_REFUSE_CNT_COUNT : Fld := ⟨.XPT_REFUSE_CNT, 0, 32⟩
abbrev XPT_DEMOTE_CNT_COUNT : Fld := ⟨.XPT_DEMOTE_CNT, 0, 32⟩
abbrev XPT_REMOVE_CNT_COUNT : Fld := ⟨.XPT_REMOVE_CNT, 0, 32⟩
abbrev XPT_MERGE_A_CNT_COUNT : Fld := ⟨.XPT_MERGE_A_CNT, 0, 32⟩
abbrev XPT_MERGE_B_CNT_COUNT : Fld := ⟨.XPT_MERGE_B_CNT, 0, 32⟩
abbrev XPT_MERGE_BOTH_CNT_COUNT : Fld := ⟨.XPT_MERGE_BOTH_CNT, 0, 32⟩
abbrev XPT_CHECK_T_CNT_COUNT : Fld := ⟨.XPT_CHECK_T_CNT, 0, 32⟩
abbrev XPT_UNDERRUN_CNT_COUNT : Fld := ⟨.XPT_UNDERRUN_CNT, 0, 32⟩
abbrev XPT_FS_REPEAT_CNT_COUNT : Fld := ⟨.XPT_FS_REPEAT_CNT, 0, 32⟩
abbrev XPT_FS_DROP_CNT_COUNT : Fld := ⟨.XPT_FS_DROP_CNT, 0, 32⟩
abbrev XPT_CHK_LAST_SLICE : Fld := ⟨.XPT_CHK_LAST, 0, 5⟩
abbrev XPT_CHK_LAST_VOUT : Fld := ⟨.XPT_CHK_LAST, 16, 10⟩
abbrev XPT_CHK_LAST_PLANE : Fld := ⟨.XPT_CHK_LAST, 26, 1⟩
abbrev XPT_FS_STAT_USED : Fld := ⟨.XPT_FS_STAT, 0, 10⟩
abbrev XPT_FS_REGION_BASE : Fld := ⟨.XPT_FS_REGION, 0, 18⟩
abbrev XPT_FS_REGION_LEN : Fld := ⟨.XPT_FS_REGION, 18, 14⟩
abbrev XPT_SLICE_STAT_STATE : Fld := ⟨.XPT_SLICE_STAT, 0, 3⟩
abbrev XPT_SLICE_STAT_POS : Fld := ⟨.XPT_SLICE_STAT, 4, 3⟩
abbrev XPT_SLICE_CHK_COUNT : Fld := ⟨.XPT_SLICE_CHK, 0, 32⟩
abbrev XPT_VIN_CFG_TD : Fld := ⟨.XPT_VIN_CFG, 0, 3⟩
abbrev XPT_VIN_CFG_FS_ARM : Fld := ⟨.XPT_VIN_CFG, 3, 1⟩
abbrev XPT_VIN_STAT_FMT : Fld := ⟨.XPT_VIN_STAT, 0, 8⟩
abbrev XPT_VIN_STAT_FEEDER : Fld := ⟨.XPT_VIN_STAT, 8, 3⟩
abbrev XPT_VIN_STAT_PRESENT : Fld := ⟨.XPT_VIN_STAT, 11, 1⟩
abbrev XPT_VIN_STAT_NO_STORE : Fld := ⟨.XPT_VIN_STAT, 12, 1⟩
abbrev XPT_VIN_STAT_FS_READY : Fld := ⟨.XPT_VIN_STAT, 13, 1⟩
abbrev XPT_VIN_MMIN_M : Fld := ⟨.XPT_VIN_MMIN, 0, 32⟩
abbrev XPT_VIN_MMAX_M : Fld := ⟨.XPT_VIN_MMAX, 0, 32⟩
abbrev XPT_VOUT_CFG_FMT : Fld := ⟨.XPT_VOUT_CFG, 0, 8⟩
abbrev XPT_VOUT_CFG_PRIORITY : Fld := ⟨.XPT_VOUT_CFG, 8, 4⟩
abbrev XPT_VOUT_CFG_FSYNC : Fld := ⟨.XPT_VOUT_CFG, 12, 1⟩
abbrev XPT_ROUTE_VIN : Fld := ⟨.XPT_ROUTE, 0, 10⟩
abbrev XPT_ROUTE_VALID : Fld := ⟨.XPT_ROUTE, 10, 1⟩
abbrev XPT_ROUTE_CLASS : Fld := ⟨.XPT_ROUTE, 11, 1⟩
abbrev XPT_ROUTE_PLANE : Fld := ⟨.XPT_ROUTE, 12, 1⟩
abbrev XPT_ROUTE_PATH : Fld := ⟨.XPT_ROUTE, 13, 2⟩
abbrev XPT_ROUTE_PENDING : Fld := ⟨.XPT_ROUTE, 15, 1⟩
abbrev XPT_ROUTE_DEMOTED : Fld := ⟨.XPT_ROUTE, 16, 1⟩
abbrev XPT_ROUTE_PRIORITY : Fld := ⟨.XPT_ROUTE, 24, 4⟩
abbrev XPT_ROUTE_REMOVED : Fld := ⟨.XPT_ROUTE, 31, 1⟩
abbrev XPT_ROUTE_LAT_LAT : Fld := ⟨.XPT_ROUTE_LAT, 0, 32⟩
abbrev XPT_VOUT_ROFF_R : Fld := ⟨.XPT_VOUT_ROFF, 0, 32⟩
abbrev XPT_VOUT_RHOLD_R : Fld := ⟨.XPT_VOUT_RHOLD, 0, 32⟩
abbrev XPT_REFUSE_REASON : Fld := ⟨.XPT_REFUSE, 0, 4⟩
abbrev XPT_REFUSE_FRAME : Fld := ⟨.XPT_REFUSE, 16, 16⟩
abbrev XPT_VOUT_BOTH_COUNT : Fld := ⟨.XPT_VOUT_BOTH, 0, 32⟩
abbrev CUE_CFG_TQ_STALE : Fld := ⟨.CUE_CFG, 0, 8⟩
abbrev CUE_STAT_E_ACT : Fld := ⟨.CUE_STAT, 0, 5⟩
abbrev CUE_STAT_SPARES : Fld := ⟨.CUE_STAT, 5, 2⟩
abbrev CUE_STAT_OVERLOAD : Fld := ⟨.CUE_STAT, 8, 1⟩
abbrev CUE_STAT_INIT_DONE : Fld := ⟨.CUE_STAT, 9, 1⟩
abbrev CUE_PS_SWAP_LO_AT : Fld := ⟨.CUE_PS_SWAP_LO, 0, 32⟩
abbrev CUE_PS_SWAP_HI_AT : Fld := ⟨.CUE_PS_SWAP_HI, 0, 16⟩
abbrev CUE_PS_STAT_BANK : Fld := ⟨.CUE_PS_STAT, 0, 8⟩
abbrev CUE_PS_STAT_PENDING : Fld := ⟨.CUE_PS_STAT, 8, 1⟩
abbrev CUE_PS_STAT_IDLE : Fld := ⟨.CUE_PS_STAT, 9, 1⟩
abbrev CUE_THR_CMD_OP : Fld := ⟨.CUE_THR_CMD, 0, 3⟩
abbrev CUE_THR_CMD_THREAD : Fld := ⟨.CUE_THR_CMD, 16, 12⟩
abbrev CUE_THR_CMD_RESULT : Fld := ⟨.CUE_THR_CMD, 28, 3⟩
abbrev CUE_THR_CMD_BUSY : Fld := ⟨.CUE_THR_CMD, 31, 1⟩
abbrev CUE_TQ_W0_WORD : Fld := ⟨.CUE_TQ_W0, 0, 32⟩
abbrev CUE_TQ_W1_WORD : Fld := ⟨.CUE_TQ_W1, 0, 32⟩
abbrev CUE_TQ_W2_WORD : Fld := ⟨.CUE_TQ_W2, 0, 32⟩
abbrev CUE_TQ_W3_WORD : Fld := ⟨.CUE_TQ_W3, 0, 32⟩
abbrev CUE_TQ_STAT_USED : Fld := ⟨.CUE_TQ_STAT, 0, 13⟩
abbrev CUE_TQ_STAT_FULL : Fld := ⟨.CUE_TQ_STAT, 16, 1⟩
abbrev CUE_TQ_FULL_CNT_COUNT : Fld := ⟨.CUE_TQ_FULL_CNT, 0, 32⟩
abbrev CUE_TQ_NOOWNER_CNT_COUNT : Fld := ⟨.CUE_TQ_NOOWNER_CNT, 0, 32⟩
abbrev CUE_TQ_STALE_CNT_COUNT : Fld := ⟨.CUE_TQ_STALE_CNT, 0, 32⟩
abbrev CUE_SUPERSEDE_CNT_COUNT : Fld := ⟨.CUE_SUPERSEDE_CNT, 0, 32⟩
abbrev CUE_BUDGET_OVER_CNT_COUNT : Fld := ⟨.CUE_BUDGET_OVER_CNT, 0, 32⟩
abbrev CUE_FAULT_CNT_COUNT : Fld := ⟨.CUE_FAULT_CNT, 0, 32⟩
abbrev CUE_CGRP_HOLD_CNT_COUNT : Fld := ⟨.CUE_CGRP_HOLD_CNT, 0, 32⟩
abbrev CUE_PS_REJECT_CNT_COUNT : Fld := ⟨.CUE_PS_REJECT_CNT, 0, 32⟩
abbrev CUE_FAULT_LAST_THREAD : Fld := ⟨.CUE_FAULT_LAST, 0, 12⟩
abbrev CUE_FAULT_LAST_FCAUSE : Fld := ⟨.CUE_FAULT_LAST, 12, 3⟩
abbrev CUE_FAULT_LAST_ENGINE : Fld := ⟨.CUE_FAULT_LAST, 15, 5⟩
abbrev CUE_SHARE_ENGINES : Fld := ⟨.CUE_SHARE, 0, 5⟩
abbrev CUE_SHARE_EFF : Fld := ⟨.CUE_SHARE, 8, 5⟩
abbrev CUE_LOAD_CYCLES : Fld := ⟨.CUE_LOAD, 0, 32⟩
abbrev CUE_LOAD_LIM_CYCLES : Fld := ⟨.CUE_LOAD_LIM, 0, 32⟩
abbrev CUE_DOM_STAT_THREADS : Fld := ⟨.CUE_DOM_STAT, 0, 13⟩
abbrev CUE_DOM_STAT_SLACK : Fld := ⟨.CUE_DOM_STAT, 16, 16⟩
abbrev CUE_ENG_STAT_STATE : Fld := ⟨.CUE_ENG_STAT, 0, 3⟩
abbrev CUE_ENG_STAT_TD : Fld := ⟨.CUE_ENG_STAT, 4, 3⟩
abbrev CUE_THR_CFG_OUT : Fld := ⟨.CUE_THR_CFG, 0, 16⟩
abbrev CUE_THR_CFG_TD : Fld := ⟨.CUE_THR_CFG, 16, 3⟩
abbrev CUE_THR_CFG_BUDGET : Fld := ⟨.CUE_THR_CFG, 20, 9⟩
abbrev CUE_THR_CFG_BUILTIN : Fld := ⟨.CUE_THR_CFG, 29, 1⟩
abbrev CUE_THR_CFG_AUTO_RESTART : Fld := ⟨.CUE_THR_CFG, 30, 1⟩
abbrev CUE_THR_CFG_SAFE : Fld := ⟨.CUE_THR_CFG, 31, 1⟩
abbrev CUE_THR_CFG2_CGRP : Fld := ⟨.CUE_THR_CFG2, 0, 4⟩
abbrev CUE_THR_ENTRY_ENTRY : Fld := ⟨.CUE_THR_ENTRY, 0, 18⟩
abbrev CUE_THR_NEXT_ENTRY_NEXT : Fld := ⟨.CUE_THR_NEXT, 0, 18⟩
abbrev CUE_THR_NEXT_VALID : Fld := ⟨.CUE_THR_NEXT, 31, 1⟩
abbrev CUE_THR_STAT_STATE : Fld := ⟨.CUE_THR_STAT, 0, 3⟩
abbrev CUE_THR_STAT_FCAUSE : Fld := ⟨.CUE_THR_STAT, 4, 3⟩
abbrev CUE_THR_STAT_BOVER_S : Fld := ⟨.CUE_THR_STAT, 30, 1⟩
abbrev CUE_THR_STAT_FAULT_S : Fld := ⟨.CUE_THR_STAT, 31, 1⟩
abbrev CUE_THR_PC_PC : Fld := ⟨.CUE_THR_PC, 0, 18⟩
abbrev CUE_THR_PC_FLAGS : Fld := ⟨.CUE_THR_PC, 20, 4⟩
abbrev CUE_THR_PC_DEPTH : Fld := ⟨.CUE_THR_PC, 24, 4⟩
abbrev CUE_THR_BOVER_COUNT : Fld := ⟨.CUE_THR_BOVER, 0, 32⟩
abbrev CUE_THR_G_VALUE : Fld := ⟨.CUE_THR_G, 0, 32⟩
abbrev AUD_CFG_DELAY_DEF : Fld := ⟨.AUD_CFG, 0, 6⟩
abbrev AUD_CFG_CS_DEFAULT : Fld := ⟨.AUD_CFG, 8, 8⟩
abbrev AUD_STAT_INIT_DONE : Fld := ⟨.AUD_STAT, 0, 1⟩
abbrev AUD_STAT_ASRC_SPARES : Fld := ⟨.AUD_STAT, 1, 4⟩
abbrev AUD_PERIOD_LO_P : Fld := ⟨.AUD_PERIOD_LO, 0, 32⟩
abbrev AUD_PERIOD_HI_P : Fld := ⟨.AUD_PERIOD_HI, 0, 16⟩
abbrev AUD_CS_CAP_SEL_CH : Fld := ⟨.AUD_CS_CAP_SEL, 0, 14⟩
abbrev AUD_CS_CAP_SEL_CRCC_OK : Fld := ⟨.AUD_CS_CAP_SEL, 30, 1⟩
abbrev AUD_CS_CAP_SEL_VALID : Fld := ⟨.AUD_CS_CAP_SEL, 31, 1⟩
abbrev AUD_CS_CAP_DATA : Fld := ⟨.AUD_CS_CAP, 0, 32⟩
abbrev AUD_SLIP_SINGLE_CNT_COUNT : Fld := ⟨.AUD_SLIP_SINGLE_CNT, 0, 32⟩
abbrev AUD_XFADE_CNT_COUNT : Fld := ⟨.AUD_XFADE_CNT, 0, 32⟩
abbrev AUD_RATE_MIS_CNT_COUNT : Fld := ⟨.AUD_RATE_MIS_CNT, 0, 32⟩
abbrev AUD_SP_CFG_EN : Fld := ⟨.AUD_SP_CFG, 0, 1⟩
abbrev AUD_SP_CFG_MODE : Fld := ⟨.AUD_SP_CFG, 1, 2⟩
abbrev AUD_SP_CFG_CLK : Fld := ⟨.AUD_SP_CFG, 3, 2⟩
abbrev AUD_SP_CFG_FS96 : Fld := ⟨.AUD_SP_CFG, 5, 1⟩
abbrev AUD_SP_CFG_TD : Fld := ⟨.AUD_SP_CFG, 6, 3⟩
abbrev AUD_SP_CFG_ASRC : Fld := ⟨.AUD_SP_CFG, 10, 6⟩
abbrev AUD_SP_CFG_RX_EN : Fld := ⟨.AUD_SP_CFG, 16, 1⟩
abbrev AUD_SP_CFG_TX_EN : Fld := ⟨.AUD_SP_CFG, 17, 1⟩
abbrev AUD_SP_CH_IN_BASE : Fld := ⟨.AUD_SP_CH, 0, 14⟩
abbrev AUD_SP_CH_OUT_BASE : Fld := ⟨.AUD_SP_CH, 16, 14⟩
abbrev AUD_SP_MASK_RX : Fld := ⟨.AUD_SP_MASK, 0, 2⟩
abbrev AUD_SP_MASK_TX : Fld := ⟨.AUD_SP_MASK, 2, 2⟩
abbrev AUD_SP_STAT_RX_LOCK : Fld := ⟨.AUD_SP_STAT, 0, 1⟩
abbrev AUD_SP_STAT_RATE_DET : Fld := ⟨.AUD_SP_STAT, 2, 3⟩
abbrev AUD_SP_STAT_LOST_S : Fld := ⟨.AUD_SP_STAT, 8, 1⟩
abbrev AUD_SP_STAT_CODE_S : Fld := ⟨.AUD_SP_STAT, 9, 1⟩
abbrev AUD_SP_STAT_PARITY_S : Fld := ⟨.AUD_SP_STAT, 10, 1⟩
abbrev AUD_SP_STAT_CRCC_S : Fld := ⟨.AUD_SP_STAT, 11, 1⟩
abbrev AUD_SP_STAT_BAD_CLK_S : Fld := ⟨.AUD_SP_STAT, 12, 1⟩
abbrev AUD_SP_PARITY_COUNT : Fld := ⟨.AUD_SP_PARITY, 0, 32⟩
abbrev AUD_SP_CODE_COUNT : Fld := ⟨.AUD_SP_CODE, 0, 32⟩
abbrev AUD_SP_CRCC_COUNT : Fld := ⟨.AUD_SP_CRCC, 0, 32⟩
abbrev AUD_SP_TXSLIP_COUNT : Fld := ⟨.AUD_SP_TXSLIP, 0, 32⟩
abbrev AUD_ASRC_CFG_EN : Fld := ⟨.AUD_ASRC_CFG, 0, 1⟩
abbrev AUD_ASRC_CFG_IN_RATE : Fld := ⟨.AUD_ASRC_CFG, 1, 3⟩
abbrev AUD_ASRC_CFG_FS96 : Fld := ⟨.AUD_ASRC_CFG, 4, 1⟩
abbrev AUD_ASRC_CFG_TD : Fld := ⟨.AUD_ASRC_CFG, 5, 3⟩
abbrev AUD_ASRC_CFG_AGRP : Fld := ⟨.AUD_ASRC_CFG, 16, 10⟩
abbrev AUD_ASRC_STAT_LOCKED : Fld := ⟨.AUD_ASRC_STAT, 0, 1⟩
abbrev AUD_ASRC_STAT_UNIT : Fld := ⟨.AUD_ASRC_STAT, 8, 7⟩
abbrev AUD_ASRC_STAT_UNLOCK_S : Fld := ⟨.AUD_ASRC_STAT, 16, 1⟩
abbrev AUD_ASRC_RATIO_RATIO : Fld := ⟨.AUD_ASRC_RATIO, 0, 32⟩
abbrev AUD_ASRC_UNIT_STATE : Fld := ⟨.AUD_ASRC_UNIT, 0, 3⟩
abbrev AUD_ASRC_UNIT_SERVES : Fld := ⟨.AUD_ASRC_UNIT, 8, 6⟩
abbrev AUD_CS_VAL_DATA : Fld := ⟨.AUD_CS_VAL, 0, 32⟩
abbrev AUD_CS_MASK_DATA : Fld := ⟨.AUD_CS_MASK, 0, 32⟩
abbrev AUD_AGRP_CFG_BASE : Fld := ⟨.AUD_AGRP_CFG, 0, 14⟩
abbrev AUD_AGRP_CFG_COUNT : Fld := ⟨.AUD_AGRP_CFG, 16, 7⟩
abbrev AUD_AGRP_CFG_FS96 : Fld := ⟨.AUD_AGRP_CFG, 24, 1⟩
abbrev AUD_AGRP_CFG_DELAY : Fld := ⟨.AUD_AGRP_CFG, 25, 6⟩
abbrev AUD_AGRP_CFG_EN : Fld := ⟨.AUD_AGRP_CFG, 31, 1⟩
abbrev AUD_AGRP_STAT_STATE : Fld := ⟨.AUD_AGRP_STAT, 0, 2⟩
abbrev AUD_AGRP_STAT_FILL_MIN : Fld := ⟨.AUD_AGRP_STAT, 8, 7⟩
abbrev AUD_AGRP_STAT_FILL_MAX : Fld := ⟨.AUD_AGRP_STAT, 16, 7⟩
abbrev AUD_AGRP_STAT_ASRC : Fld := ⟨.AUD_AGRP_STAT, 23, 1⟩
abbrev AUD_AGRP_SLIP_COUNT : Fld := ⟨.AUD_AGRP_SLIP, 0, 32⟩
abbrev AUD_AGRP_REP_COUNT : Fld := ⟨.AUD_AGRP_REP, 0, 32⟩
abbrev AUD_AGRP_DROP_COUNT : Fld := ⟨.AUD_AGRP_DROP, 0, 32⟩
abbrev AUD_GRP_CFG_BASE : Fld := ⟨.AUD_GRP_CFG, 0, 14⟩
abbrev AUD_GRP_CFG_SIZE : Fld := ⟨.AUD_GRP_CFG, 16, 7⟩
abbrev AUD_GRP_CFG_FS96 : Fld := ⟨.AUD_GRP_CFG, 24, 1⟩
abbrev AUD_GRP_MASK_LO_MASK : Fld := ⟨.AUD_GRP_MASK_LO, 0, 32⟩
abbrev AUD_GRP_MASK_HI_MASK : Fld := ⟨.AUD_GRP_MASK_HI, 0, 32⟩
abbrev AUD_GRP_AZX_TIMEOUT : Fld := ⟨.AUD_GRP_AZX, 0, 10⟩
abbrev AUD_IN_STAT_PRESENT : Fld := ⟨.AUD_IN_STAT, 0, 1⟩
abbrev AUD_IN_STAT_V : Fld := ⟨.AUD_IN_STAT, 1, 1⟩
abbrev AUD_IN_STAT_FEEDER : Fld := ⟨.AUD_IN_STAT, 2, 3⟩
abbrev AUD_IN_STAT_FS96 : Fld := ⟨.AUD_IN_STAT, 5, 1⟩
abbrev AUD_IN_STAT_FILL : Fld := ⟨.AUD_IN_STAT, 8, 7⟩
abbrev AUD_IN_STAT_AGRP : Fld := ⟨.AUD_IN_STAT, 16, 10⟩
abbrev AUD_IN_STAT_GROUPED : Fld := ⟨.AUD_IN_STAT, 26, 1⟩
abbrev AUD_OUT_STAT_SRC : Fld := ⟨.AUD_OUT_STAT, 0, 14⟩
abbrev AUD_OUT_STAT_VALID : Fld := ⟨.AUD_OUT_STAT, 15, 1⟩
abbrev AUD_OUT_STAT_ZX_WAIT : Fld := ⟨.AUD_OUT_STAT, 16, 1⟩
abbrev AUD_OUT_STAT_XFADE : Fld := ⟨.AUD_OUT_STAT, 17, 1⟩
abbrev AUD_OUT_STAT_MUTED : Fld := ⟨.AUD_OUT_STAT, 18, 1⟩
abbrev AUD_OUT_STAT_RAMPING : Fld := ⟨.AUD_OUT_STAT, 19, 1⟩
abbrev AUD_OUT_STAT_SLOT_OFF : Fld := ⟨.AUD_OUT_STAT, 20, 1⟩
abbrev AUD_OUT_STAT_RATE_MIS : Fld := ⟨.AUD_OUT_STAT, 21, 1⟩
abbrev AUD_OUT_GAIN_GAIN : Fld := ⟨.AUD_OUT_GAIN, 0, 16⟩
abbrev AUD_OUT_GAIN_TARGET : Fld := ⟨.AUD_OUT_GAIN, 16, 16⟩
abbrev AUD_OUT_CS_MODE : Fld := ⟨.AUD_OUT_CS, 0, 2⟩
abbrev AUD_OUT_CS_TABLE : Fld := ⟨.AUD_OUT_CS, 8, 8⟩
abbrev WCOMP_CFG_EN : Fld := ⟨.WCOMP_CFG, 0, 1⟩
abbrev WCOMP_CFG_TD : Fld := ⟨.WCOMP_CFG, 1, 3⟩
abbrev WCOMP_CANVAS_W_M1 : Fld := ⟨.WCOMP_CANVAS, 0, 15⟩
abbrev WCOMP_CANVAS_H_M1 : Fld := ⟨.WCOMP_CANVAS, 16, 15⟩
abbrev WCOMP_BAND_HEIGHT_M1 : Fld := ⟨.WCOMP_BAND, 0, 9⟩
abbrev WCOMP_STAT_RUN : Fld := ⟨.WCOMP_STAT, 0, 1⟩
abbrev WCOMP_STAT_SAFE_LOCK : Fld := ⟨.WCOMP_STAT, 1, 1⟩
abbrev WCOMP_STAT_CAP_OK : Fld := ⟨.WCOMP_STAT, 2, 1⟩
abbrev WCOMP_BG_R_VALUE : Fld := ⟨.WCOMP_BG_R, 0, 20⟩
abbrev WCOMP_BG_G_VALUE : Fld := ⟨.WCOMP_BG_G, 0, 20⟩
abbrev WCOMP_BG_B_VALUE : Fld := ⟨.WCOMP_BG_B, 0, 20⟩
abbrev WCOMP_CAP_CTL_GO : Fld := ⟨.WCOMP_CAP_CTL, 0, 1⟩
abbrev WCOMP_CAP_BASE_BASE : Fld := ⟨.WCOMP_CAP_BASE, 0, 24⟩
abbrev WCOMP_CAP_STAT_BUSY : Fld := ⟨.WCOMP_CAP_STAT, 0, 1⟩
abbrev WCOMP_CAP_STAT_DONE : Fld := ⟨.WCOMP_CAP_STAT, 1, 1⟩
abbrev WCOMP_CAP_STAT_ABORTED : Fld := ⟨.WCOMP_CAP_STAT, 2, 1⟩
abbrev WCOMP_CAP_STAT_FRAME : Fld := ⟨.WCOMP_CAP_STAT, 16, 16⟩
abbrev WCOMP_HBM_RES_MBPS : Fld := ⟨.WCOMP_HBM_RES, 0, 20⟩
abbrev WCOMP_LATE_CNT_COUNT : Fld := ⟨.WCOMP_LATE_CNT, 0, 32⟩
abbrev WCOMP_SL_ALT_CNT_COUNT : Fld := ⟨.WCOMP_SL_ALT_CNT, 0, 32⟩
abbrev WCOMP_PIPE_ERR_CNT_COUNT : Fld := ⟨.WCOMP_PIPE_ERR_CNT, 0, 32⟩
abbrev WCOMP_PIPE_CFG_USER : Fld := ⟨.WCOMP_PIPE_CFG, 0, 2⟩
abbrev WCOMP_PIPE_CFG_INDEX : Fld := ⟨.WCOMP_PIPE_CFG, 4, 10⟩
abbrev WCOMP_PIPE_STAT_UNIT : Fld := ⟨.WCOMP_PIPE_STAT, 0, 5⟩
abbrev WCOMP_PIPE_STAT_NO_UNIT : Fld := ⟨.WCOMP_PIPE_STAT, 5, 1⟩
abbrev WCOMP_PIPE_STAT_PROF : Fld := ⟨.WCOMP_PIPE_STAT, 8, 4⟩
abbrev WCOMP_UNIT_STATE : Fld := ⟨.WCOMP_UNIT, 0, 3⟩
abbrev WCOMP_UNIT_SERVES : Fld := ⟨.WCOMP_UNIT, 4, 4⟩
abbrev WCOMP_PROF_M1 : Fld := ⟨.WCOMP_PROF, 0, 5⟩
abbrev WCOMP_PROF_TF_IN : Fld := ⟨.WCOMP_PROF, 8, 4⟩
abbrev WCOMP_PROF_M2 : Fld := ⟨.WCOMP_PROF, 16, 5⟩
abbrev WCOMP_PROF_TF_OUT : Fld := ⟨.WCOMP_PROF, 24, 4⟩
abbrev WCOMP_PROF2_M3 : Fld := ⟨.WCOMP_PROF2, 0, 5⟩
abbrev WCOMP_PROF2_CHROMA_IN : Fld := ⟨.WCOMP_PROF2, 8, 1⟩
abbrev WCOMP_PROF2_CHROMA_OUT : Fld := ⟨.WCOMP_PROF2, 9, 1⟩
abbrev WCOMP_PROF2_ENL : Fld := ⟨.WCOMP_PROF2, 12, 2⟩
abbrev WCOMP_LAYER_CFG_PROF : Fld := ⟨.WCOMP_LAYER_CFG, 0, 4⟩
abbrev WCOMP_LAYER_CFG_PROT : Fld := ⟨.WCOMP_LAYER_CFG, 4, 1⟩
abbrev WCOMP_LAYER_STAT_VIN : Fld := ⟨.WCOMP_LAYER_STAT, 0, 10⟩
abbrev WCOMP_LAYER_STAT_VALID : Fld := ⟨.WCOMP_LAYER_STAT, 10, 1⟩
abbrev WCOMP_LAYER_STAT_CLASS : Fld := ⟨.WCOMP_LAYER_STAT, 11, 1⟩
abbrev WCOMP_LAYER_STAT_TD_MIS : Fld := ⟨.WCOMP_LAYER_STAT, 12, 1⟩
abbrev WCOMP_LAYER_STAT_SIZE_CLAMPED : Fld := ⟨.WCOMP_LAYER_STAT, 13, 1⟩
abbrev WCOMP_LAYER_STAT_ORDER : Fld := ⟨.WCOMP_LAYER_STAT, 16, 4⟩
abbrev WCOMP_LAYER_STAT_ALPHA : Fld := ⟨.WCOMP_LAYER_STAT, 20, 12⟩
abbrev WCOMP_LAYER_POS_X : Fld := ⟨.WCOMP_LAYER_POS, 0, 16⟩
abbrev WCOMP_LAYER_POS_Y : Fld := ⟨.WCOMP_LAYER_POS, 16, 16⟩
abbrev WCOMP_LAYER_SIZE_W_M1 : Fld := ⟨.WCOMP_LAYER_SIZE, 0, 15⟩
abbrev WCOMP_LAYER_SIZE_H_M1 : Fld := ⟨.WCOMP_LAYER_SIZE, 16, 15⟩
abbrev WCOMP_LAYER_CROP_POS_X : Fld := ⟨.WCOMP_LAYER_CROP_POS, 0, 13⟩
abbrev WCOMP_LAYER_CROP_POS_Y : Fld := ⟨.WCOMP_LAYER_CROP_POS, 16, 13⟩
abbrev WCOMP_LAYER_CROP_SIZE_W : Fld := ⟨.WCOMP_LAYER_CROP_SIZE, 0, 13⟩
abbrev WCOMP_LAYER_CROP_SIZE_H : Fld := ⟨.WCOMP_LAYER_CROP_SIZE, 16, 13⟩
abbrev WCOMP_LAYER_SKIP_COUNT : Fld := ⟨.WCOMP_LAYER_SKIP, 0, 32⟩
abbrev WCOMP_MAT_VALUE : Fld := ⟨.WCOMP_MAT, 0, 21⟩
abbrev WCOMP_SL_PAGE_BASE : Fld := ⟨.WCOMP_SL_PAGE, 0, 13⟩
abbrev WCOMP_SL_PDIM_W_M1 : Fld := ⟨.WCOMP_SL_PDIM, 0, 15⟩
abbrev WCOMP_SL_PDIM_H_M1 : Fld := ⟨.WCOMP_SL_PDIM, 15, 15⟩
abbrev WCOMP_SL_PDIM_VALID : Fld := ⟨.WCOMP_SL_PDIM, 31, 1⟩
abbrev WCOMP_SL_LOCK_LOCK : Fld := ⟨.WCOMP_SL_LOCK, 0, 1⟩
abbrev WCOMP_SL_STAT_PAGE : Fld := ⟨.WCOMP_SL_STAT, 0, 6⟩
abbrev WCOMP_SL_STAT_ON : Fld := ⟨.WCOMP_SL_STAT, 8, 1⟩
abbrev WCOMP_SL_LUT_VALUE : Fld := ⟨.WCOMP_SL_LUT, 0, 20⟩
abbrev WCOMP_ENL_H_COEF : Fld := ⟨.WCOMP_ENL_H, 0, 12⟩
abbrev WCOMP_ENL_V_COEF : Fld := ⟨.WCOMP_ENL_V, 0, 12⟩
abbrev WCOMP_LUT_E : Fld := ⟨.WCOMP_LUT, 0, 20⟩
abbrev WSCAN_CFG_EN : Fld := ⟨.WSCAN_CFG, 0, 1⟩
abbrev WSCAN_CFG_LOOP_EN : Fld := ⟨.WSCAN_CFG, 1, 1⟩
abbrev WSCAN_CFG_PKT_LAMPS_D : Fld := ⟨.WSCAN_CFG, 8, 4⟩
abbrev WSCAN_CFG_SCAN_MARGIN : Fld := ⟨.WSCAN_CFG, 12, 10⟩
abbrev WSCAN_CFG_LATCH_DELAY : Fld := ⟨.WSCAN_CFG, 22, 10⟩
abbrev WSCAN_STAT_RUN : Fld := ⟨.WSCAN_STAT, 0, 1⟩
abbrev WSCAN_STAT_BANK : Fld := ⟨.WSCAN_STAT, 1, 1⟩
abbrev WSCAN_SCAN_BASE_BASE : Fld := ⟨.WSCAN_SCAN_BASE, 0, 24⟩
abbrev WSCAN_LC_BASE_A_BASE : Fld := ⟨.WSCAN_LC_BASE_A, 0, 24⟩
abbrev WSCAN_LC_BASE_B_BASE : Fld := ⟨.WSCAN_LC_BASE_B, 0, 24⟩
abbrev WSCAN_WM_WM_LOW : Fld := ⟨.WSCAN_WM, 0, 7⟩
abbrev WSCAN_WM_WM_CRIT : Fld := ⟨.WSCAN_WM, 8, 7⟩
abbrev WSCAN_THERM_TILE_TEMP_LIMIT : Fld := ⟨.WSCAN_THERM, 0, 8⟩
abbrev WSCAN_FREEZE_FREEZE_FRAMES : Fld := ⟨.WSCAN_FREEZE, 0, 8⟩
abbrev WSCAN_FREEZE_STEP : Fld := ⟨.WSCAN_FREEZE, 8, 5⟩
abbrev WSCAN_CUR_GCC : Fld := ⟨.WSCAN_CUR, 0, 8⟩
abbrev WSCAN_OC_SEL_R : Fld := ⟨.WSCAN_OC_SEL, 0, 3⟩
abbrev WSCAN_OC_SEL_G : Fld := ⟨.WSCAN_OC_SEL, 4, 3⟩
abbrev WSCAN_OC_SEL_B : Fld := ⟨.WSCAN_OC_SEL, 8, 3⟩
abbrev WSCAN_LOOP_CFG_GAIN : Fld := ⟨.WSCAN_LOOP_CFG, 0, 8⟩
abbrev WSCAN_HBM_RES_MBPS : Fld := ⟨.WSCAN_HBM_RES, 0, 20⟩
abbrev WSCAN_HOT_CNT_COUNT : Fld := ⟨.WSCAN_HOT_CNT, 0, 32⟩
abbrev WSCAN_LC_ALT_CNT_COUNT : Fld := ⟨.WSCAN_LC_ALT_CNT, 0, 32⟩
abbrev WSCAN_UNMAPPED_CNT_COUNT : Fld := ⟨.WSCAN_UNMAPPED_CNT, 0, 32⟩
abbrev WSCAN_IDREAD_FAIL_CNT_COUNT : Fld := ⟨.WSCAN_IDREAD_FAIL_CNT, 0, 32⟩
abbrev WSCAN_PORT_CFG_EN : Fld := ⟨.WSCAN_PORT_CFG, 0, 1⟩
abbrev WSCAN_PORT_CFG_LANE : Fld := ⟨.WSCAN_PORT_CFG, 1, 7⟩
abbrev WSCAN_PORT_CFG_RSFEC : Fld := ⟨.WSCAN_PORT_CFG, 8, 1⟩
abbrev WSCAN_PORT_STAT_LINK_UP : Fld := ⟨.WSCAN_PORT_STAT, 0, 1⟩
abbrev WSCAN_PORT_STAT_RUN : Fld := ⟨.WSCAN_PORT_STAT, 1, 1⟩
abbrev WSCAN_PORT_STAT_TILES : Fld := ⟨.WSCAN_PORT_STAT, 4, 6⟩
abbrev WSCAN_PORT_STAT_URGENCY : Fld := ⟨.WSCAN_PORT_STAT, 12, 2⟩
abbrev WSCAN_PORT_STAT_FILL : Fld := ⟨.WSCAN_PORT_STAT, 16, 7⟩
abbrev WSCAN_PORT_STAT_UNDER_S : Fld := ⟨.WSCAN_PORT_STAT, 24, 1⟩
abbrev WSCAN_PORT_LOAD_BYTES : Fld := ⟨.WSCAN_PORT_LOAD, 0, 24⟩
abbrev WSCAN_PORT_UNDER_COUNT : Fld := ⟨.WSCAN_PORT_UNDER, 0, 32⟩
abbrev WSCAN_PORT_RXERR_COUNT : Fld := ⟨.WSCAN_PORT_RXERR, 0, 32⟩
abbrev WSCAN_REG_POS_X : Fld := ⟨.WSCAN_REG_POS, 0, 15⟩
abbrev WSCAN_REG_POS_Y : Fld := ⟨.WSCAN_REG_POS, 16, 15⟩
abbrev WSCAN_REG_SIZE_W_M1 : Fld := ⟨.WSCAN_REG_SIZE, 0, 15⟩
abbrev WSCAN_REG_SIZE_H_M1 : Fld := ⟨.WSCAN_REG_SIZE, 16, 15⟩
abbrev WSCAN_REG_SIZE_EN : Fld := ⟨.WSCAN_REG_SIZE, 31, 1⟩
abbrev WSCAN_REG_SIG_SIG : Fld := ⟨.WSCAN_REG_SIG, 0, 32⟩
abbrev WSCAN_REG_STAT_FROZEN : Fld := ⟨.WSCAN_REG_STAT, 0, 1⟩
abbrev WSCAN_REG_STAT_COUNT : Fld := ⟨.WSCAN_REG_STAT, 8, 8⟩
abbrev WSCAN_LPROOF_SIG_SIG : Fld := ⟨.WSCAN_LPROOF_SIG, 0, 32⟩
abbrev WSCAN_LPROOF_STAT_FROZEN : Fld := ⟨.WSCAN_LPROOF_STAT, 0, 1⟩
abbrev WSCAN_LPROOF_STAT_COUNT : Fld := ⟨.WSCAN_LPROOF_STAT, 8, 8⟩
abbrev WSCAN_TILE_CFG_EN : Fld := ⟨.WSCAN_TILE_CFG, 0, 1⟩
abbrev WSCAN_TILE_CFG_PORT : Fld := ⟨.WSCAN_TILE_CFG, 1, 7⟩
abbrev WSCAN_TILE_CFG_POS : Fld := ⟨.WSCAN_TILE_CFG, 8, 5⟩
abbrev WSCAN_TILE_CFG_ORIENT : Fld := ⟨.WSCAN_TILE_CFG, 13, 2⟩
abbrev WSCAN_TILE_CFG_MIRROR : Fld := ⟨.WSCAN_TILE_CFG, 15, 1⟩
abbrev WSCAN_TILE_DIM_W_M1 : Fld := ⟨.WSCAN_TILE_DIM, 0, 9⟩
abbrev WSCAN_TILE_DIM_H_M1 : Fld := ⟨.WSCAN_TILE_DIM, 16, 9⟩
abbrev WSCAN_TILE_ORG_X0 : Fld := ⟨.WSCAN_TILE_ORG, 0, 15⟩
abbrev WSCAN_TILE_ORG_Y0 : Fld := ⟨.WSCAN_TILE_ORG, 16, 15⟩
abbrev WSCAN_TILE_LC_LCI : Fld := ⟨.WSCAN_TILE_LC, 0, 26⟩
abbrev WSCAN_TILE_STAT_STATE : Fld := ⟨.WSCAN_TILE_STAT, 0, 3⟩
abbrev WSCAN_TILE_STAT_DRIVE_ON : Fld := ⟨.WSCAN_TILE_STAT, 3, 1⟩
abbrev WSCAN_TILE_STAT_SYNC_OK : Fld := ⟨.WSCAN_TILE_STAT, 4, 1⟩
abbrev WSCAN_TILE_STAT_SENSOR_VALID : Fld := ⟨.WSCAN_TILE_STAT, 5, 1⟩
abbrev WSCAN_TILE_STAT_MISSED_S : Fld := ⟨.WSCAN_TILE_STAT, 6, 1⟩
abbrev WSCAN_TILE_STAT_TEMP : Fld := ⟨.WSCAN_TILE_STAT, 16, 16⟩
abbrev WSCAN_TILE_PTPOFS_OFS : Fld := ⟨.WSCAN_TILE_PTPOFS, 0, 32⟩
abbrev WSCAN_TILE_PCC_UPCC_R : Fld := ⟨.WSCAN_TILE_PCC, 0, 8⟩
abbrev WSCAN_TILE_PCC_UPCC_G : Fld := ⟨.WSCAN_TILE_PCC, 8, 8⟩
abbrev WSCAN_TILE_PCC_UPCC_B : Fld := ⟨.WSCAN_TILE_PCC, 16, 8⟩
abbrev WSCAN_TILE_PCC_FACT_R : Fld := ⟨.WSCAN_TILE_PCC, 24, 8⟩
abbrev WSCAN_TILE_UBLACK_UBLACK_R : Fld := ⟨.WSCAN_TILE_UBLACK, 0, 8⟩
abbrev WSCAN_TILE_UBLACK_UBLACK_G : Fld := ⟨.WSCAN_TILE_UBLACK, 8, 8⟩
abbrev WSCAN_TILE_UBLACK_UBLACK_B : Fld := ⟨.WSCAN_TILE_UBLACK, 16, 8⟩
abbrev WSCAN_TILE_HOT_CNT_COUNT : Fld := ⟨.WSCAN_TILE_HOT_CNT, 0, 32⟩
abbrev WSCAN_TILE_SERIAL_LO_SERIAL : Fld := ⟨.WSCAN_TILE_SERIAL_LO, 0, 32⟩
abbrev WSCAN_TILE_SERIAL_HI_SERIAL : Fld := ⟨.WSCAN_TILE_SERIAL_HI, 0, 32⟩
abbrev WSCAN_TRIM_T_LOOP : Fld := ⟨.WSCAN_TRIM, 0, 18⟩
abbrev WSCAN_UTRIM_T_USER : Fld := ⟨.WSCAN_UTRIM, 0, 18⟩
abbrev WSCAN_TARGET_TARGET : Fld := ⟨.WSCAN_TARGET, 0, 16⟩
abbrev WSCAN_TARGET_VALID : Fld := ⟨.WSCAN_TARGET, 31, 1⟩
abbrev WSCAN_SENSOR_S_LO : Fld := ⟨.WSCAN_SENSOR, 0, 16⟩
abbrev WSCAN_SENSOR_S_HI : Fld := ⟨.WSCAN_SENSOR, 16, 16⟩
abbrev WSCAN_OCURVE_E : Fld := ⟨.WSCAN_OCURVE, 0, 16⟩
abbrev HBM_STAT_TRAINED : Fld := ⟨.HBM_STAT, 0, 1⟩
abbrev HBM_STAT_SELF_REFRESH : Fld := ⟨.HBM_STAT, 1, 1⟩
abbrev HBM_STAT_PC_ACTIVE : Fld := ⟨.HBM_STAT, 8, 6⟩
abbrev HBM_STAT_PC_SPARE : Fld := ⟨.HBM_STAT, 16, 2⟩
abbrev HBM_STAT_USE : Fld := ⟨.HBM_STAT, 20, 8⟩
abbrev HBM_WAIT_MAX_NS : Fld := ⟨.HBM_WAIT_MAX, 0, 16⟩
abbrev HBM_ECC_LAST_PC : Fld := ⟨.HBM_ECC_LAST, 0, 7⟩
abbrev HBM_ECC_LAST_ROW : Fld := ⟨.HBM_ECC_LAST, 8, 24⟩
abbrev HBM_ECC_CORR_CNT_COUNT : Fld := ⟨.HBM_ECC_CORR_CNT, 0, 32⟩
abbrev HBM_ECC_UNCORR_CNT_COUNT : Fld := ⟨.HBM_ECC_UNCORR_CNT, 0, 32⟩
abbrev ULINK_CFG_EN : Fld := ⟨.ULINK_CFG, 0, 1⟩
abbrev ULINK_CFG_LANE : Fld := ⟨.ULINK_CFG, 1, 7⟩
abbrev ULINK_CFG_GROUP : Fld := ⟨.ULINK_CFG, 8, 1⟩
abbrev ULINK_CFG_MARK_EN : Fld := ⟨.ULINK_CFG, 9, 1⟩
abbrev ULINK_CFG_MARK_TD : Fld := ⟨.ULINK_CFG, 10, 3⟩
abbrev ULINK_CFG_AUD96 : Fld := ⟨.ULINK_CFG, 13, 1⟩
abbrev ULINK_CFG_QL_MODE : Fld := ⟨.ULINK_CFG, 14, 2⟩
abbrev ULINK_CFG_QL_TX : Fld := ⟨.ULINK_CFG, 16, 4⟩
abbrev ULINK_CFG_HOLD_QL : Fld := ⟨.ULINK_CFG, 20, 4⟩
abbrev ULINK_STAT_STATE : Fld := ⟨.ULINK_STAT, 0, 3⟩
abbrev ULINK_STAT_HOP_VALID : Fld := ⟨.ULINK_STAT, 3, 1⟩
abbrev ULINK_STAT_PEER_SLOT : Fld := ⟨.ULINK_STAT, 4, 6⟩
abbrev ULINK_STAT_PEER_SIDE : Fld := ⟨.ULINK_STAT, 10, 1⟩
abbrev ULINK_STAT_PEER_LINK : Fld := ⟨.ULINK_STAT, 11, 5⟩
abbrev ULINK_STAT_RX_QL : Fld := ⟨.ULINK_STAT, 16, 4⟩
abbrev ULINK_STAT_MARK_OK : Fld := ⟨.ULINK_STAT, 20, 1⟩
abbrev ULINK_HOP_NS_HOP : Fld := ⟨.ULINK_HOP_NS, 0, 24⟩
abbrev ULINK_FEC_CORR_COUNT : Fld := ⟨.ULINK_FEC_CORR, 0, 32⟩
abbrev ULINK_FEC_UNCORR_COUNT : Fld := ⟨.ULINK_FEC_UNCORR, 0, 32⟩
abbrev ULINK_CELL_LOST_COUNT : Fld := ⟨.ULINK_CELL_LOST, 0, 32⟩
abbrev ULINK_LINE_CRC_COUNT : Fld := ⟨.ULINK_LINE_CRC, 0, 32⟩
abbrev ULINK_DOWN_CNT_COUNT : Fld := ⟨.ULINK_DOWN_CNT, 0, 32⟩
abbrev ULINK_MARK_CNT_COUNT : Fld := ⟨.ULINK_MARK_CNT, 0, 32⟩
abbrev ULINK_TXA_ACH_BASE : Fld := ⟨.ULINK_TXA, 0, 14⟩
abbrev ULINK_TXA_COUNT : Fld := ⟨.ULINK_TXA, 16, 11⟩
abbrev ULINK_RXA_ACH_BASE : Fld := ⟨.ULINK_RXA, 0, 14⟩
abbrev ULINK_RXA_COUNT : Fld := ⟨.ULINK_RXA, 16, 11⟩
abbrev ULINK_MB_CTL_LEN : Fld := ⟨.ULINK_MB_CTL, 0, 7⟩
abbrev ULINK_MB_CTL_SEND : Fld := ⟨.ULINK_MB_CTL, 8, 1⟩
abbrev ULINK_MB_CTL_POP : Fld := ⟨.ULINK_MB_CTL, 9, 1⟩
abbrev ULINK_MB_CTL_RX_CNT : Fld := ⟨.ULINK_MB_CTL, 10, 3⟩
abbrev ULINK_MB_CTL_TX_BUSY : Fld := ⟨.ULINK_MB_CTL, 13, 1⟩
abbrev ULINK_LOAD_MBPS : Fld := ⟨.ULINK_LOAD, 0, 20⟩
abbrev ULINK_ANC_DROP_COUNT : Fld := ⟨.ULINK_ANC_DROP, 0, 32⟩
abbrev ULINK_MB_TXBUF_DATA : Fld := ⟨.ULINK_MB_TXBUF, 0, 32⟩
abbrev ULINK_MB_RXBUF_DATA : Fld := ⟨.ULINK_MB_RXBUF, 0, 32⟩
abbrev ULINK_TXV_VOUT : Fld := ⟨.ULINK_TXV, 0, 10⟩
abbrev ULINK_TXV_ANC_CELLS : Fld := ⟨.ULINK_TXV, 16, 6⟩
abbrev ULINK_TXV_EN : Fld := ⟨.ULINK_TXV, 31, 1⟩
abbrev ULINK_RXV_VIN : Fld := ⟨.ULINK_RXV, 0, 10⟩
abbrev ULINK_RXV_EN : Fld := ⟨.ULINK_RXV, 31, 1⟩

end F

/-- RST_FSTAT.WDT_EXPIRE. -/
abbrev Src.RST_WDT_EXPIRE : Src := ⟨.RST, 0⟩
/-- RST_FSTAT.FAILED_START. -/
abbrev Src.RST_FAILED_START : Src := ⟨.RST, 1⟩
/-- RST_FSTAT.LC_REJECT. -/
abbrev Src.RST_LC_REJECT : Src := ⟨.RST, 2⟩
/-- RST_FSTAT.CFG_REJECT. -/
abbrev Src.RST_CFG_REJECT : Src := ⟨.RST, 3⟩
/-- CLK_FSTAT.SYSPLL_UNLOCK. -/
abbrev Src.CLK_SYSPLL_UNLOCK : Src := ⟨.CLK, 0⟩
/-- CLK_FSTAT.XTAL_FAIL. -/
abbrev Src.CLK_XTAL_FAIL : Src := ⟨.CLK, 1⟩
/-- CLK_FSTAT.PLL_START. -/
abbrev Src.CLK_PLL_START : Src := ⟨.CLK, 2⟩
/-- CLK_FSTAT.PLL_DEAD. -/
abbrev Src.CLK_PLL_DEAD : Src := ⟨.CLK, 3⟩
/-- CLK_FSTAT.CFG_REJECT. -/
abbrev Src.CLK_CFG_REJECT : Src := ⟨.CLK, 4⟩
/-- PWR_FSTAT.TEMP_WARN. -/
abbrev Src.PWR_TEMP_WARN : Src := ⟨.PWR, 0⟩
/-- PWR_FSTAT.TEMP_LOW. -/
abbrev Src.PWR_TEMP_LOW : Src := ⟨.PWR, 1⟩
/-- PWR_FSTAT.TRIP. -/
abbrev Src.PWR_TRIP : Src := ⟨.PWR, 2⟩
/-- PWR_FSTAT.SENSOR_BAD. -/
abbrev Src.PWR_SENSOR_BAD : Src := ⟨.PWR, 3⟩
/-- PWR_FSTAT.CAP_HOLD. -/
abbrev Src.PWR_CAP_HOLD : Src := ⟨.PWR, 4⟩
/-- PWR_FSTAT.CFG_REJECT. -/
abbrev Src.PWR_CFG_REJECT : Src := ⟨.PWR, 5⟩
/-- BUS_FSTAT.DECODE_STALL. -/
abbrev Src.BUS_DECODE_STALL : Src := ⟨.BUS, 0⟩
/-- BUS_FSTAT.LOCK_TO. -/
abbrev Src.BUS_LOCK_TO : Src := ⟨.BUS, 1⟩
/-- BUS_FSTAT.REG_ACCESS. -/
abbrev Src.BUS_REG_ACCESS : Src := ⟨.BUS, 2⟩
/-- BUS_FSTAT.ACCESS_DENY. -/
abbrev Src.BUS_ACCESS_DENY : Src := ⟨.BUS, 3⟩
/-- BUS_FSTAT.DMA_ERR. -/
abbrev Src.BUS_DMA_ERR : Src := ⟨.BUS, 4⟩
/-- BUS_FSTAT.DMA_DONE. -/
abbrev Src.BUS_DMA_DONE : Src := ⟨.BUS, 5⟩
/-- BUS_FSTAT.CFG_REJECT. -/
abbrev Src.BUS_CFG_REJECT : Src := ⟨.BUS, 6⟩
/-- CPU_FSTAT.L2_ECC_CORR. -/
abbrev Src.CPU_L2_ECC_CORR : Src := ⟨.CPU, 0⟩
/-- CPU_FSTAT.L2_ECC_UNCORR. -/
abbrev Src.CPU_L2_ECC_UNCORR : Src := ⟨.CPU, 1⟩
/-- CPU_FSTAT.SRAM_ECC_CORR. -/
abbrev Src.CPU_SRAM_ECC_CORR : Src := ⟨.CPU, 2⟩
/-- CPU_FSTAT.SRAM_ECC_UNCORR. -/
abbrev Src.CPU_SRAM_ECC_UNCORR : Src := ⟨.CPU, 3⟩
/-- CPU_FSTAT.LOCKUP. -/
abbrev Src.CPU_LOCKUP : Src := ⟨.CPU, 4⟩
/-- CPU_FSTAT.CORE_ERR. -/
abbrev Src.CPU_CORE_ERR : Src := ⟨.CPU, 5⟩
/-- CPU_FSTAT.HANDOVER. -/
abbrev Src.CPU_HANDOVER : Src := ⟨.CPU, 6⟩
/-- CPU_FSTAT.CFG_REJECT. -/
abbrev Src.CPU_CFG_REJECT : Src := ⟨.CPU, 7⟩
/-- VAULT_FSTAT.MIGRATED. -/
abbrev Src.VAULT_MIGRATED : Src := ⟨.VAULT, 0⟩
/-- VAULT_FSTAT.NO_SPARE. -/
abbrev Src.VAULT_NO_SPARE : Src := ⟨.VAULT, 1⟩
/-- VAULT_FSTAT.WEAR_LIMIT. -/
abbrev Src.VAULT_WEAR_LIMIT : Src := ⟨.VAULT, 2⟩
/-- VAULT_FSTAT.RETIRED. -/
abbrev Src.VAULT_RETIRED : Src := ⟨.VAULT, 3⟩
/-- VAULT_FSTAT.UNUSABLE. -/
abbrev Src.VAULT_UNUSABLE : Src := ⟨.VAULT, 4⟩
/-- VAULT_FSTAT.ROW_EXHAUST. -/
abbrev Src.VAULT_ROW_EXHAUST : Src := ⟨.VAULT, 5⟩
/-- VAULT_FSTAT.LEDGER_SAVE. -/
abbrev Src.VAULT_LEDGER_SAVE : Src := ⟨.VAULT, 6⟩
/-- VAULT_FSTAT.CFG_REJECT. -/
abbrev Src.VAULT_CFG_REJECT : Src := ⟨.VAULT, 7⟩
/-- BIST_FSTAT.FAIL. -/
abbrev Src.BIST_FAIL : Src := ⟨.BIST, 0⟩
/-- BIST_FSTAT.INCOMPLETE. -/
abbrev Src.BIST_INCOMPLETE : Src := ⟨.BIST, 1⟩
/-- BIST_FSTAT.STARTUP_FAIL. -/
abbrev Src.BIST_STARTUP_FAIL : Src := ⟨.BIST, 2⟩
/-- BIST_FSTAT.REFUSED. -/
abbrev Src.BIST_REFUSED : Src := ⟨.BIST, 3⟩
/-- BIST_FSTAT.CFG_REJECT. -/
abbrev Src.BIST_CFG_REJECT : Src := ⟨.BIST, 4⟩
/-- IDM_FSTAT.NACK. -/
abbrev Src.IDM_NACK : Src := ⟨.IDM, 0⟩
/-- IDM_FSTAT.BUS_STUCK. -/
abbrev Src.IDM_BUS_STUCK : Src := ⟨.IDM, 1⟩
/-- IDM_FSTAT.MOD_CHANGE. -/
abbrev Src.IDM_MOD_CHANGE : Src := ⟨.IDM, 2⟩
/-- IDM_FSTAT.REC_BAD. -/
abbrev Src.IDM_REC_BAD : Src := ⟨.IDM, 3⟩
/-- IDM_FSTAT.TILE_REC_BAD. -/
abbrev Src.IDM_TILE_REC_BAD : Src := ⟨.IDM, 4⟩
/-- IDM_FSTAT.STRAP_CHG. -/
abbrev Src.IDM_STRAP_CHG : Src := ⟨.IDM, 5⟩
/-- IDM_FSTAT.CFG_REJECT. -/
abbrev Src.IDM_CFG_REJECT : Src := ⟨.IDM, 6⟩
/-- CAL_FSTAT.OTP_BAD. -/
abbrev Src.CAL_OTP_BAD : Src := ⟨.CAL, 0⟩
/-- CAL_FSTAT.SAT. -/
abbrev Src.CAL_SAT : Src := ⟨.CAL, 1⟩
/-- CAL_FSTAT.CFG_REJECT. -/
abbrev Src.CAL_CFG_REJECT : Src := ⟨.CAL, 2⟩
/-- FWU_FSTAT.REFUSED. -/
abbrev Src.FWU_REFUSED : Src := ⟨.FWU, 0⟩
/-- FWU_FSTAT.FLASH_ERR. -/
abbrev Src.FWU_FLASH_ERR : Src := ⟨.FWU, 1⟩
/-- FWU_FSTAT.VERIFY_FAIL. -/
abbrev Src.FWU_VERIFY_FAIL : Src := ⟨.FWU, 2⟩
/-- FWU_FSTAT.ACTIVATED. -/
abbrev Src.FWU_ACTIVATED : Src := ⟨.FWU, 3⟩
/-- FWU_FSTAT.ACT_MISSED. -/
abbrev Src.FWU_ACT_MISSED : Src := ⟨.FWU, 4⟩
/-- FWU_FSTAT.FALLBACK. -/
abbrev Src.FWU_FALLBACK : Src := ⟨.FWU, 5⟩
/-- FWU_FSTAT.CONFIRMED. -/
abbrev Src.FWU_CONFIRMED : Src := ⟨.FWU, 6⟩
/-- FWU_FSTAT.CFG_REJECT. -/
abbrev Src.FWU_CFG_REJECT : Src := ⟨.FWU, 7⟩
/-- GPIO_FSTAT.ALERT. -/
abbrev Src.GPIO_ALERT : Src := ⟨.GPIO, 0⟩
/-- GPIO_FSTAT.CFG_REJECT. -/
abbrev Src.GPIO_CFG_REJECT : Src := ⟨.GPIO, 1⟩
/-- TTB_FSTAT.BUSY. -/
abbrev Src.TTB_BUSY : Src := ⟨.TTB, 0⟩
/-- TTB_FSTAT.WR_BAD. -/
abbrev Src.TTB_WR_BAD : Src := ⟨.TTB, 1⟩
/-- TTB_FSTAT.CLK_LOST. -/
abbrev Src.TTB_CLK_LOST : Src := ⟨.TTB, 2⟩
/-- TTB_FSTAT.CFG_REJECT. -/
abbrev Src.TTB_CFG_REJECT : Src := ⟨.TTB, 3⟩
/-- REF_FSTAT.LOCK. -/
abbrev Src.REF_LOCK : Src := ⟨.REF, 0⟩
/-- REF_FSTAT.ACQUIRE. -/
abbrev Src.REF_ACQUIRE : Src := ⟨.REF, 1⟩
/-- REF_FSTAT.HOLDOVER. -/
abbrev Src.REF_HOLDOVER : Src := ⟨.REF, 2⟩
/-- REF_FSTAT.FREERUN. -/
abbrev Src.REF_FREERUN : Src := ⟨.REF, 3⟩
/-- REF_FSTAT.RELOCK. -/
abbrev Src.REF_RELOCK : Src := ⟨.REF, 4⟩
/-- REF_FSTAT.SRC_LOST. -/
abbrev Src.REF_SRC_LOST : Src := ⟨.REF, 5⟩
/-- REF_FSTAT.DRIFT. -/
abbrev Src.REF_DRIFT : Src := ⟨.REF, 6⟩
/-- REF_FSTAT.DISAGREE. -/
abbrev Src.REF_DISAGREE : Src := ⟨.REF, 7⟩
/-- REF_FSTAT.SEL_CHANGE. -/
abbrev Src.REF_SEL_CHANGE : Src := ⟨.REF, 8⟩
/-- REF_FSTAT.TD_STEP. -/
abbrev Src.REF_TD_STEP : Src := ⟨.REF, 9⟩
/-- REF_FSTAT.CFG_REJECT. -/
abbrev Src.REF_CFG_REJECT : Src := ⟨.REF, 10⟩
/-- PTP_FSTAT.A_LOCK. -/
abbrev Src.PTP_A_LOCK : Src := ⟨.PTP, 0⟩
/-- PTP_FSTAT.A_UNLOCK. -/
abbrev Src.PTP_A_UNLOCK : Src := ⟨.PTP, 1⟩
/-- PTP_FSTAT.A_HOLDOVER. -/
abbrev Src.PTP_A_HOLDOVER : Src := ⟨.PTP, 2⟩
/-- PTP_FSTAT.A_STEP. -/
abbrev Src.PTP_A_STEP : Src := ⟨.PTP, 3⟩
/-- PTP_FSTAT.B_LOCK. -/
abbrev Src.PTP_B_LOCK : Src := ⟨.PTP, 4⟩
/-- PTP_FSTAT.B_UNLOCK. -/
abbrev Src.PTP_B_UNLOCK : Src := ⟨.PTP, 5⟩
/-- PTP_FSTAT.B_HOLDOVER. -/
abbrev Src.PTP_B_HOLDOVER : Src := ⟨.PTP, 6⟩
/-- PTP_FSTAT.B_STEP. -/
abbrev Src.PTP_B_STEP : Src := ⟨.PTP, 7⟩
/-- PTP_FSTAT.ET_SET. -/
abbrev Src.PTP_ET_SET : Src := ⟨.PTP, 8⟩
/-- PTP_FSTAT.ET_SWITCH. -/
abbrev Src.PTP_ET_SWITCH : Src := ⟨.PTP, 9⟩
/-- PTP_FSTAT.ET_FAR. -/
abbrev Src.PTP_ET_FAR : Src := ⟨.PTP, 10⟩
/-- PTP_FSTAT.ET_STEPPED. -/
abbrev Src.PTP_ET_STEPPED : Src := ⟨.PTP, 11⟩
/-- PTP_FSTAT.TSQ_OVF. -/
abbrev Src.PTP_TSQ_OVF : Src := ⟨.PTP, 12⟩
/-- PTP_FSTAT.CFG_REJECT. -/
abbrev Src.PTP_CFG_REJECT : Src := ⟨.PTP, 13⟩
/-- MGMT_FSTAT.LINK_DOWN. -/
abbrev Src.MGMT_LINK_DOWN : Src := ⟨.MGMT, 0⟩
/-- MGMT_FSTAT.AN_FAIL. -/
abbrev Src.MGMT_AN_FAIL : Src := ⟨.MGMT, 1⟩
/-- MGMT_FSTAT.BAD_FRAME. -/
abbrev Src.MGMT_BAD_FRAME : Src := ⟨.MGMT, 2⟩
/-- MGMT_FSTAT.HOST_DROP. -/
abbrev Src.MGMT_HOST_DROP : Src := ⟨.MGMT, 3⟩
/-- MGMT_FSTAT.TX_OVERSIZE. -/
abbrev Src.MGMT_TX_OVERSIZE : Src := ⟨.MGMT, 4⟩
/-- MGMT_FSTAT.CFG_REJECT. -/
abbrev Src.MGMT_CFG_REJECT : Src := ⟨.MGMT, 5⟩
/-- LANE_FSTAT.LOS. -/
abbrev Src.LANE_LOS : Src := ⟨.LANE, 0⟩
/-- LANE_FSTAT.CDR_UNLOCK. -/
abbrev Src.LANE_CDR_UNLOCK : Src := ⟨.LANE, 1⟩
/-- LANE_FSTAT.PLL_LOST. -/
abbrev Src.LANE_PLL_LOST : Src := ⟨.LANE, 2⟩
/-- LANE_FSTAT.PLL_SWAP. -/
abbrev Src.LANE_PLL_SWAP : Src := ⟨.LANE, 3⟩
/-- LANE_FSTAT.EYE_LOW. -/
abbrev Src.LANE_EYE_LOW : Src := ⟨.LANE, 4⟩
/-- LANE_FSTAT.ADAPT_FAIL. -/
abbrev Src.LANE_ADAPT_FAIL : Src := ⟨.LANE, 5⟩
/-- LANE_FSTAT.CFG_REJECT. -/
abbrev Src.LANE_CFG_REJECT : Src := ⟨.LANE, 6⟩
/-- SDI_FSTAT.RX_UNLOCK. -/
abbrev Src.SDI_RX_UNLOCK : Src := ⟨.SDI, 0⟩
/-- SDI_FSTAT.CRC_ERR. -/
abbrev Src.SDI_CRC_ERR : Src := ⟨.SDI, 1⟩
/-- SDI_FSTAT.TRS_ERR. -/
abbrev Src.SDI_TRS_ERR : Src := ⟨.SDI, 2⟩
/-- SDI_FSTAT.LN_ERR. -/
abbrev Src.SDI_LN_ERR : Src := ⟨.SDI, 3⟩
/-- SDI_FSTAT.FMT_MISMATCH. -/
abbrev Src.SDI_FMT_MISMATCH : Src := ⟨.SDI, 4⟩
/-- SDI_FSTAT.SKEW. -/
abbrev Src.SDI_SKEW : Src := ⟨.SDI, 5⟩
/-- SDI_FSTAT.ANC_DROP. -/
abbrev Src.SDI_ANC_DROP : Src := ⟨.SDI, 6⟩
/-- SDI_FSTAT.AUD_ECC. -/
abbrev Src.SDI_AUD_ECC : Src := ⟨.SDI, 7⟩
/-- SDI_FSTAT.TX_NO_SOURCE. -/
abbrev Src.SDI_TX_NO_SOURCE : Src := ⟨.SDI, 8⟩
/-- SDI_FSTAT.CFG_REJECT. -/
abbrev Src.SDI_CFG_REJECT : Src := ⟨.SDI, 9⟩
/-- MPORT_FSTAT.LINK_DOWN. -/
abbrev Src.MPORT_LINK_DOWN : Src := ⟨.MPORT, 0⟩
/-- MPORT_FSTAT.BAD_FRAME. -/
abbrev Src.MPORT_BAD_FRAME : Src := ⟨.MPORT, 1⟩
/-- MPORT_FSTAT.HOST_DROP. -/
abbrev Src.MPORT_HOST_DROP : Src := ⟨.MPORT, 2⟩
/-- MPORT_FSTAT.CTX_UNLOCK. -/
abbrev Src.MPORT_CTX_UNLOCK : Src := ⟨.MPORT, 3⟩
/-- MPORT_FSTAT.CTX_MISMATCH. -/
abbrev Src.MPORT_CTX_MISMATCH : Src := ⟨.MPORT, 4⟩
/-- MPORT_FSTAT.PKT_LOSS. -/
abbrev Src.MPORT_PKT_LOSS : Src := ⟨.MPORT, 5⟩
/-- MPORT_FSTAT.PATH_LOST. -/
abbrev Src.MPORT_PATH_LOST : Src := ⟨.MPORT, 6⟩
/-- MPORT_FSTAT.MERGE_LOST. -/
abbrev Src.MPORT_MERGE_LOST : Src := ⟨.MPORT, 7⟩
/-- MPORT_FSTAT.CFG_REJECT. -/
abbrev Src.MPORT_CFG_REJECT : Src := ⟨.MPORT, 8⟩
/-- FLOW_FSTAT.INSERT_FULL. -/
abbrev Src.FLOW_INSERT_FULL : Src := ⟨.FLOW, 0⟩
/-- FLOW_FSTAT.ECC_CORR. -/
abbrev Src.FLOW_ECC_CORR : Src := ⟨.FLOW, 1⟩
/-- FLOW_FSTAT.ECC_UNCORR. -/
abbrev Src.FLOW_ECC_UNCORR : Src := ⟨.FLOW, 2⟩
/-- FLOW_FSTAT.CMDQ_OVF. -/
abbrev Src.FLOW_CMDQ_OVF : Src := ⟨.FLOW, 3⟩
/-- FLOW_FSTAT.AGED. -/
abbrev Src.FLOW_AGED : Src := ⟨.FLOW, 4⟩
/-- FLOW_FSTAT.CFG_REJECT. -/
abbrev Src.FLOW_CFG_REJECT : Src := ⟨.FLOW, 5⟩
/-- XPT_FSTAT.SLICE_CHECK. -/
abbrev Src.XPT_SLICE_CHECK : Src := ⟨.XPT, 0⟩
/-- XPT_FSTAT.MERGE_BOTH. -/
abbrev Src.XPT_MERGE_BOTH : Src := ⟨.XPT, 1⟩
/-- XPT_FSTAT.CHECK_T. -/
abbrev Src.XPT_CHECK_T : Src := ⟨.XPT, 2⟩
/-- XPT_FSTAT.UNDERRUN. -/
abbrev Src.XPT_UNDERRUN : Src := ⟨.XPT, 3⟩
/-- XPT_FSTAT.CAP_LOST. -/
abbrev Src.XPT_CAP_LOST : Src := ⟨.XPT, 4⟩
/-- XPT_FSTAT.DEMOTE. -/
abbrev Src.XPT_DEMOTE : Src := ⟨.XPT, 5⟩
/-- XPT_FSTAT.REMOVE. -/
abbrev Src.XPT_REMOVE : Src := ⟨.XPT, 6⟩
/-- XPT_FSTAT.REFUSE. -/
abbrev Src.XPT_REFUSE : Src := ⟨.XPT, 7⟩
/-- XPT_FSTAT.FS_SLIP. -/
abbrev Src.XPT_FS_SLIP : Src := ⟨.XPT, 8⟩
/-- XPT_FSTAT.OVL_REDUCED. -/
abbrev Src.XPT_OVL_REDUCED : Src := ⟨.XPT, 9⟩
/-- XPT_FSTAT.NO_STORE. -/
abbrev Src.XPT_NO_STORE : Src := ⟨.XPT, 10⟩
/-- XPT_FSTAT.CFG_REJECT. -/
abbrev Src.XPT_CFG_REJECT : Src := ⟨.XPT, 11⟩
/-- CUE_FSTAT.BUDGET_OVER. -/
abbrev Src.CUE_BUDGET_OVER : Src := ⟨.CUE, 0⟩
/-- CUE_FSTAT.THREAD_FAULT. -/
abbrev Src.CUE_THREAD_FAULT : Src := ⟨.CUE, 1⟩
/-- CUE_FSTAT.TQ_FULL. -/
abbrev Src.CUE_TQ_FULL : Src := ⟨.CUE, 2⟩
/-- CUE_FSTAT.TQ_STALE. -/
abbrev Src.CUE_TQ_STALE : Src := ⟨.CUE, 3⟩
/-- CUE_FSTAT.OVERLOAD. -/
abbrev Src.CUE_OVERLOAD : Src := ⟨.CUE, 4⟩
/-- CUE_FSTAT.ENGINE_ERR. -/
abbrev Src.CUE_ENGINE_ERR : Src := ⟨.CUE, 5⟩
/-- CUE_FSTAT.CGRP_HOLD. -/
abbrev Src.CUE_CGRP_HOLD : Src := ⟨.CUE, 6⟩
/-- CUE_FSTAT.PS_REJECT. -/
abbrev Src.CUE_PS_REJECT : Src := ⟨.CUE, 7⟩
/-- CUE_FSTAT.SWAP_DONE. -/
abbrev Src.CUE_SWAP_DONE : Src := ⟨.CUE, 8⟩
/-- CUE_FSTAT.CFG_REJECT. -/
abbrev Src.CUE_CFG_REJECT : Src := ⟨.CUE, 9⟩
/-- AUD_FSTAT.SLIP. -/
abbrev Src.AUD_SLIP : Src := ⟨.AUD, 0⟩
/-- AUD_FSTAT.ASRC_UNLOCK. -/
abbrev Src.AUD_ASRC_UNLOCK : Src := ⟨.AUD, 1⟩
/-- AUD_FSTAT.ASRC_ERR. -/
abbrev Src.AUD_ASRC_ERR : Src := ⟨.AUD, 2⟩
/-- AUD_FSTAT.SP_LOST. -/
abbrev Src.AUD_SP_LOST : Src := ⟨.AUD, 3⟩
/-- AUD_FSTAT.SP_ERR. -/
abbrev Src.AUD_SP_ERR : Src := ⟨.AUD, 4⟩
/-- AUD_FSTAT.XFADE. -/
abbrev Src.AUD_XFADE : Src := ⟨.AUD, 5⟩
/-- AUD_FSTAT.RATE_MIS. -/
abbrev Src.AUD_RATE_MIS : Src := ⟨.AUD, 6⟩
/-- AUD_FSTAT.TX_SLIP. -/
abbrev Src.AUD_TX_SLIP : Src := ⟨.AUD, 7⟩
/-- AUD_FSTAT.CFG_REJECT. -/
abbrev Src.AUD_CFG_REJECT : Src := ⟨.AUD, 8⟩
/-- WCOMP_FSTAT.LATE. -/
abbrev Src.WCOMP_LATE : Src := ⟨.WCOMP, 0⟩
/-- WCOMP_FSTAT.PIPE_ERR. -/
abbrev Src.WCOMP_PIPE_ERR : Src := ⟨.WCOMP, 1⟩
/-- WCOMP_FSTAT.NO_UNIT. -/
abbrev Src.WCOMP_NO_UNIT : Src := ⟨.WCOMP, 2⟩
/-- WCOMP_FSTAT.SL_MIRROR. -/
abbrev Src.WCOMP_SL_MIRROR : Src := ⟨.WCOMP, 3⟩
/-- WCOMP_FSTAT.SL_WRITE_DENY. -/
abbrev Src.WCOMP_SL_WRITE_DENY : Src := ⟨.WCOMP, 4⟩
/-- WCOMP_FSTAT.SIZE_CLAMP. -/
abbrev Src.WCOMP_SIZE_CLAMP : Src := ⟨.WCOMP, 5⟩
/-- WCOMP_FSTAT.TD_MISMATCH. -/
abbrev Src.WCOMP_TD_MISMATCH : Src := ⟨.WCOMP, 6⟩
/-- WCOMP_FSTAT.CAP_ABORT. -/
abbrev Src.WCOMP_CAP_ABORT : Src := ⟨.WCOMP, 7⟩
/-- WCOMP_FSTAT.CFG_REJECT. -/
abbrev Src.WCOMP_CFG_REJECT : Src := ⟨.WCOMP, 8⟩
/-- WSCAN_FSTAT.TILE_LOST. -/
abbrev Src.WSCAN_TILE_LOST : Src := ⟨.WSCAN, 0⟩
/-- WSCAN_FSTAT.TILE_HOT. -/
abbrev Src.WSCAN_TILE_HOT : Src := ⟨.WSCAN, 1⟩
/-- WSCAN_FSTAT.TILE_FAULT. -/
abbrev Src.WSCAN_TILE_FAULT : Src := ⟨.WSCAN, 2⟩
/-- WSCAN_FSTAT.TILE_SYNC. -/
abbrev Src.WSCAN_TILE_SYNC : Src := ⟨.WSCAN, 3⟩
/-- WSCAN_FSTAT.LC_MIRROR. -/
abbrev Src.WSCAN_LC_MIRROR : Src := ⟨.WSCAN, 4⟩
/-- WSCAN_FSTAT.UNMAPPED. -/
abbrev Src.WSCAN_UNMAPPED : Src := ⟨.WSCAN, 5⟩
/-- WSCAN_FSTAT.FROZEN. -/
abbrev Src.WSCAN_FROZEN : Src := ⟨.WSCAN, 6⟩
/-- WSCAN_FSTAT.CFG_REJECT. -/
abbrev Src.WSCAN_CFG_REJECT : Src := ⟨.WSCAN, 7⟩
/-- HBM_FSTAT.ECC_CORR. -/
abbrev Src.HBM_ECC_CORR : Src := ⟨.HBM, 0⟩
/-- HBM_FSTAT.ECC_UNCORR. -/
abbrev Src.HBM_ECC_UNCORR : Src := ⟨.HBM, 1⟩
/-- HBM_FSTAT.PC_SPARED. -/
abbrev Src.HBM_PC_SPARED : Src := ⟨.HBM, 2⟩
/-- HBM_FSTAT.ROW_REPAIR. -/
abbrev Src.HBM_ROW_REPAIR : Src := ⟨.HBM, 3⟩
/-- HBM_FSTAT.STACK_FAIL. -/
abbrev Src.HBM_STACK_FAIL : Src := ⟨.HBM, 4⟩
/-- HBM_FSTAT.TRAIN_FAIL. -/
abbrev Src.HBM_TRAIN_FAIL : Src := ⟨.HBM, 5⟩
/-- HBM_FSTAT.CFG_REJECT. -/
abbrev Src.HBM_CFG_REJECT : Src := ⟨.HBM, 6⟩
/-- ULINK_FSTAT.LINK_UP. -/
abbrev Src.ULINK_LINK_UP : Src := ⟨.ULINK, 0⟩
/-- ULINK_FSTAT.LINK_DOWN. -/
abbrev Src.ULINK_LINK_DOWN : Src := ⟨.ULINK, 1⟩
/-- ULINK_FSTAT.FEC_UNCORR. -/
abbrev Src.ULINK_FEC_UNCORR : Src := ⟨.ULINK, 2⟩
/-- ULINK_FSTAT.LINE_CRC. -/
abbrev Src.ULINK_LINE_CRC : Src := ⟨.ULINK, 3⟩
/-- ULINK_FSTAT.MARK_LOST. -/
abbrev Src.ULINK_MARK_LOST : Src := ⟨.ULINK, 4⟩
/-- ULINK_FSTAT.PEER_MISMATCH. -/
abbrev Src.ULINK_PEER_MISMATCH : Src := ⟨.ULINK, 5⟩
/-- ULINK_FSTAT.MB_RX_OVF. -/
abbrev Src.ULINK_MB_RX_OVF : Src := ⟨.ULINK, 6⟩
/-- ULINK_FSTAT.CFG_REJECT. -/
abbrev Src.ULINK_CFG_REJECT : Src := ⟨.ULINK, 7⟩

end Sys2Proof
end

