-- ==== Sys2Proof/Machine/Operands.lean ====
section
/-!
DEFINITION. The operand forms of the commands: what a command brings to the block from outside.
-/

namespace Sys2Proof

/-! ### Reference and timing domains (chapter 02) -/

/-- Which aligned frame start of R53 an event belongs to: the k-th ST 2059-1 aligned start counted from the epoch, or a
start that an analogue or Uhlat reference marks, in thirds of a nanosecond of Event Time full time. -/
inductive FrameStart where
  | epoch (k : Nat)
  | marked (thirds : Nat)
  deriving DecidableEq, Repr

/-- What an analogue monitor sees of its input: the detected frame rate as a RATE code and the sync kind. -/
structure AnaFormat where
  rate : BitVec 4
  triLevel : Bool
  deriving DecidableEq, Repr

/-! ### Network time (chapter 03) -/

/-- A Sync accepted on PORT0 or PORT1 of a domain (R61): the sender's port identity, the sequence number, whether the
master works in two steps, the origin time in ns and the correctionField in units of 2^-16 ns. -/
structure SyncMsg where
  port : Fin 2
  sender : Nat
  seq : BitVec 16
  twoStep : Bool
  t1 : Nat
  corr : Int
  deriving DecidableEq, Repr

/-- A Follow_Up: the precise origin time and correction of a two-step Sync. -/
structure FollowUpMsg where
  port : Fin 2
  sender : Nat
  seq : BitVec 16
  t1 : Nat
  corr : Int
  deriving DecidableEq, Repr

/-- A Delay_Resp to the domain's own Delay_Req: the master's receive time and correction. -/
structure DelayRespMsg where
  sender : Nat
  seq : BitVec 16
  t4 : Nat
  corr : Int
  deriving DecidableEq, Repr

/-- An Announce: the data set that the best master clock algorithm of R61 compares. -/
structure AnnounceMsg where
  port : Fin 2
  sender : Nat
  gm : BitVec 64
  priority1 : BitVec 8
  clockClass : BitVec 8
  accuracy : BitVec 8
  variance : BitVec 16
  priority2 : BitVec 8
  steps : BitVec 16
  deriving DecidableEq, Repr

/-! ### Lanes and Uhlat links (chapter 04) -/

/-- The result of decoding one Uhlat codeword (R96): its ALIGN and CW_SEQ fields, the symbols that RS(544,514) corrected,
or that it could not be corrected. -/
structure CodewordResult where
  align : BitVec 4
  seq : BitVec 8
  corrected : Nat
  uncorrectable : Bool
  deriving DecidableEq, Repr

/-- The header of a cell (R97). -/
structure CellHeader where
  type : BitVec 4
  first : Bool
  last : Bool
  stream : BitVec 6
  seq : BitVec 12
  wait : BitVec 8
  deriving DecidableEq, Repr

/-- A received cell: its header and its 124 payload bytes. -/
structure Cell where
  head : CellHeader
  payload : List Byte
  deriving DecidableEq, Repr

/-- The payload of a MARKER cell (R102). -/
structure MarkerMsg where
  ql : BitVec 8
  rate : BitVec 4
  scan : Bool
  td : BitVec 3
  txEt : ET
  fEt : ET
  frame : Word
  deriving DecidableEq, Repr

/-- The payload of a HELLO message (R105). -/
structure HelloMsg where
  version : BitVec 8
  slot : BitVec 6
  peerSeen : Bool
  side : Bool
  link : BitVec 8
  deriving DecidableEq, Repr

/-- The two writes that set a link's audio (R108): of ULINK_TXA, or of ULINK_CFG where AUD96 changes. -/
inductive TxaWrite where
  | txa (v : Word)
  | cfg (v : Word)
  deriving DecidableEq, Repr

/-- One audio sample with its V, U and C bits and the block-start marker Z (R267). -/
structure AudSample where
  val : BitVec 24
  v : Bool
  u : Bool
  c : Bool
  z : Bool
  deriving DecidableEq, Repr

/-- A zero sample with V = 1. -/
def AudSample.absent : AudSample := ⟨0, true, false, false, false⟩

/-- An ST 291-1 ANC packet of a line: its horizontal position in words from EAV, whether it lies in HANC, and its 10-bit
words from ADF to checksum. -/
structure AncPacket where
  pos : Nat
  hanc : Bool
  words : List Nat
  deriving DecidableEq, Repr

/-! ### SDI (chapter 05) -/

/-- A received SDI line (R119 to R126), or one line of a MAP 2 stream: its counted number, the instant of its EAV at the
pins, the links whose TRS, line number or CRC fails, whether the links lie more than 384 ns apart, the total lines, RATE
code, scan and mapping that it shows, its active samples in the order of R175 (none in blanking), its ST 352 payload, its
ANC packets with whether each passes its checksum, its audio samples by channel 1 to 32 with whether each passes the BCH
code, and whether an audio control packet announces another rate than 48 kHz. -/
structure SdiLine where
  second : Bool
  line : Nat
  start : Int
  trsBad : Nat
  lnBad : Nat
  crcBad : Nat
  skew : Bool
  lines : BitVec 12
  rate : BitVec 4
  scan : Bool
  map : BitVec 3
  comps : List Nat
  pid : Option Word
  anc : List (AncPacket × Bool)
  audio : List (Nat × AudSample × Bool)
  audRate : Option Bool
  deriving DecidableEq, Repr

/-! ### IP media ports and management ports (chapters 06 and 15) -/

/-- A received Ethernet frame from the first byte of its destination address to the last byte of its FCS (R138), and
whether it holds an error control character or ends in a malformed terminate block. -/
structure EthFrame where
  bytes : List Byte
  badCode : Bool
  deriving DecidableEq, Repr

/-- A frame received on a media port: the frame; the FEC symbols corrected and the uncorrectable codewords since the frame
before; the ECC errors that its Flow Table lookups meet, as (second lookup, way, uncorrectable) (R150); the lines of a
rebuilt ST 2022-6 stream that it completes (R156). -/
structure MediaFrame where
  eth : EthFrame
  fecCorr : Nat
  fecUncorr : Nat
  ecc : List (Bool × Fin 4 × Bool)
  sdi : List SdiLine
  deriving DecidableEq, Repr
/-! ### Lanes and the Line Pool (chapters 04 and 07) -/

/-- A line that a front end writes into the Line Pool (R121, R175): its number, the 16-bit frame count, source-present,
its 64-byte words, per word the margin of R176 in whole word-clock periods, its ANC packets, and the instant (Event Time
full time) at which it began to arrive. -/
structure LineIn where
  line : Nat
  frame : Nat
  present : Bool
  words : List (List Byte)
  margins : List Int
  anc : List AncPacket
  start : Int
  deriving DecidableEq, Repr

/-- A word of a plane that reads wrong: plane B or A, the word's place in the line, the data and the sideband read. -/
structure WordFault where
  planeB : Bool
  word : Nat
  data : List Byte
  side : Nat
  deriving DecidableEq, Repr

/-! ### Audio (chapter 11) -/

/-- Why a serial port loses its input (R288): no valid AES3 preamble for 1 ms, or BCLK at a wrong ratio or WS absent. -/
inductive PortLoss where
  | preamble
  | badClock
  deriving DecidableEq, Repr

/-- Why a converter loses lock (R275): member 0 silent for 10 ms, or the ratio out of range. -/
inductive AsrcLoss where
  | silent
  | range
  deriving DecidableEq, Repr

/-- A received AES3 subframe (R288): its sample, whether its parity fails, whether its biphase coding is violated. -/
structure Aes3Frame where
  sample : AudSample
  parityError : Bool
  codeError : Bool
  deriving DecidableEq, Repr

/-! ### Wall scan-out (chapter 13) -/

/-- The Proof signature that closes (R338): of a layer's source, or of an output region for the wall frame whose Shutter fell
last, or the one before it. -/
inductive ProofOf where
  | layer (l : Fin 16)
  | region (r : Fin 64) (before : Bool)
  deriving DecidableEq, Repr

/-! ### The bus (chapter 14) -/

/-- A target port of the bus matrix (R349). -/
inductive BusPort where
  | reg | sram | hbm | flash | mgb
  deriving DecidableEq, Repr

/-- A bus transaction (R350, R352): a write or a read, part of a locked sequence or not, its address, the bytes of a beat
(1, 2, 4 or 8, as a power of two), the beats less one, the bytes written. -/
structure BusOp where
  write : Bool
  lock : Bool
  addr : BitVec 40
  size : Fin 4
  more : Fin 16
  data : List Byte
  deriving DecidableEq, Repr

/-- An ECC error of a core memory (R359). -/
inductive CoreEcc where
  | l2Corrected | l2Uncorrectable | sramCorrected | sramUncorrectable
  deriving DecidableEq, Repr

/-! ### Calibration and self-test (chapters 16 to 20) -/

/-- A quantity that firmware calibrates (R384). -/
inductive CalQuantity where
  | oscillator
  | sensor (s : Fin 16)
  | lane (n : Fin 128)
  deriving DecidableEq, Repr

/-- What the boot sequence finds (R412): the OTP area's CRC passes, each slice's start-up BIST passes (bit e), each HBM stack
trains. -/
structure BootReport where
  otpOk : Bool
  slices : BitVec 18
  stackA : Bool
  stackB : Bool
  deriving DecidableEq, Repr

/-- An ECC error of a Vault unit that an HBM controller reports (R437): corrected, or not. -/
inductive HbmEcc where
  | corrected | uncorrectable
  deriving DecidableEq, Repr

end Sys2Proof
end

