-- ==== Sys2Proof/Syntax.lean ====
section
/-!
DEFINITION. The commands of the block: one constructor per row of spec/opcode_table.json, in the table's order, with the
row's operands.  A command of the kind "a write of R with EN = 1" carries the word written; the bit that names the row is
the row's, whatever the operand's bit says (notes/assumptions/1.md).
-/

namespace Sys2Proof

/-- A command of the block. -/
inductive Instr where
  -- chapters 00, 01: registers and the order of a frame
  | registerWrite (m : Fin 8) (r : Reg) (i : Nat) (v : Word)
  | counterLoRead (m : Fin 8) (r : RegName) (i : Nat)
  | cueOpen (td : Fin 8) (f : FrameStart) (slew : Nat)
  | threadDispatch (td : Fin 8)
  | threadRunStart (td : Fin 8) (e : Fin 18)
  | shutter (td : Fin 8)
  | tallyMirrorSwap (td : Fin 8)
  | overlapWindowClose (td : Fin 8)
  -- chapter 02: reference selection, genlock, timing domains
  | refselSample (pins : BitVec 3)
  | sourceQualified (n : Fin 8) (ana : AnaFormat)
  | sourceDisqualified (n : Fin 8) (monitorFailed : Bool)
  | refOffsetSample (samples : List (Fin 8 × Int))
  | disagree (lasting : List (Fin 8 × Fin 8))
  | loopStepDown (err : Int)
  | relock (err : Int)
  | phaseBuildDone (err : Int)
  | tdEnable (n : Fin 8) (v : Word)
  | tdDisable (n : Fin 8) (v : Word)
  | tdPhaseWrite (n : Fin 8) (v : Word)
  | tdPhaseSlewEnd (n : Fin 8)
  | refOutCfgWrite (v : Word)
  | refOutPulse
  | refRequal (v : Word)
  | ppsTaiArm (v : Word)
  | ppsInEdge (instant : Nat)
  -- chapter 03: network time and Event Time
  | ptpDomainEnable (d : Fin 2) (v : Word)
  | ptpDomainDisable (d : Fin 2) (v : Word)
  | sync (d : Fin 2) (m : SyncMsg)
  | followUp (d : Fin 2) (m : FollowUpMsg)
  | delayReqTx (d : Fin 2)
  | delayResp (d : Fin 2) (m : DelayRespMsg)
  | announce (d : Fin 2) (m : AnnounceMsg)
  | ptpOtherMessage (p : Fin 130) (frame : List Byte)
  | announceTimeout (d : Fin 2)
  | syncTimeout (d : Fin 2)
  | etSelWrite (v : Word)
  | etDomainSwitch
  | etSwitch
  | etStep
  | etRead (m : Fin 8)
  | tileSyncTx
  | tileAnnounceTx
  | tileDelayReq (p : Fin 128) (sender : Nat) (seq : BitVec 16)
  | tsqPop (m : Fin 8) (p : Fin 130)
  -- chapter 04: lanes and Uhlat links
  | laneAssign (n : Fin 128) (v : Word)
  | txPllLock (q : Fin 32) (k : Fin 3)
  | pllLost (q : Fin 32) (k : Fin 3)
  | pllSwap (q : Fin 32)
  | pllRelock (q : Fin 32) (k : Fin 3)
  | cdrLock (n : Fin 128) (rate : BitVec 4)
  | adaptDone (n : Fin 128)
  | adaptFail (n : Fin 128)
  | adaptRestart (n : Fin 128) (v : Word)
  | eyeMeasure (n : Fin 128) (h v : BitVec 8)
  | eyeClr
  | losAssert (n : Fin 128)
  | losClear (n : Fin 128)
  | codewordRx (l : Fin 32) (r : CodewordResult)
  | videoCell (l : Fin 32) (c : Cell)
  | ancCell (l : Fin 32) (c : Cell)
  | audioCell (l : Fin 32) (c : Cell)
  | marker (l : Fin 32) (m : MarkerMsg)
  | hello (l : Fin 32) (m : HelloMsg)
  | echoReq (l : Fin 32) (id : BitVec 16) (t1 : ET)
  | echoRsp (l : Fin 32) (id : BitVec 16) (t1 t2 t3 : ET)
  | mailbox (l : Fin 32) (msg : List Byte)
  | cellSlot (l : Fin 32)
  | echoReqTx (l : Fin 32)
  | helloTx (l : Fin 32)
  | ulinkEnable (l : Fin 32) (v : Word)
  | helloTimeout (l : Fin 32)
  | markTimeout (l : Fin 32)
  | ulinkTxvWrite (k : Fin 768) (v : Word)
  | ulinkTxaWrite (l : Fin 32) (w : TxaWrite)
  | mbSend (l : Fin 32) (v : Word)
  | mbPop (l : Fin 32) (v : Word)
  -- chapter 05: SDI
  | sdiRxEnable (n : Fin 128) (v : Word)
  | sdiRxDisable (n : Fin 128) (v : Word)
  | sdiLineRx (n : Fin 128) (l : SdiLine)
  | pidTimeout (n : Fin 128)
  | sdiTxEnable (n : Fin 128) (v : Word)
  | sdiTxDisable (n : Fin 128) (v : Word)
  | sdiTxLine (n : Fin 128) (second : Bool) (line : Nat)
  -- chapter 06: IP media ports and the Flow Table
  | mportEnable (p : Fin 128) (v : Word)
  | mportDisable (p : Fin 128) (v : Word)
  | mediaFrameRx (p : Fin 128) (f : MediaFrame)
  | pauseEnd (p : Fin 128)
  | mportLinkDown (p : Fin 128)
  | mportLinkUp (p : Fin 128)
  | hostFrameTx (p : Fin 128)
  | flowCmdQueue (v : Word)
  | flowInsert
  | flowDelete
  | flowLookup
  | flowRead
  | flowModify
  | flowBadCmd
  | flowResPop (m : Fin 8)
  | flowAgedPop (m : Fin 8)
  | flowAgePass
  | flowInitDone
  | rxcEnable (c : Fin 4096) (v : Word)
  | rxcTimeout (c : Fin 4096)
  | rxcLineClose (c : Fin 4096)
  | mergeEnable (m : Fin 1024) (v : Word)
  | mergeRelease (m : Fin 1024)
  | txcEnable (t : Fin 2048) (v : Word)
  | mediaPacketTx (t : Fin 2048) (frame k : Nat)
  -- chapter 07: the crosspoint
  | overlapWrite (v : Word)
  | fsArmWrite (n : Fin 1024) (v : Word)
  | lineWrite (n : Fin 1024) (l : LineIn)
  | lineRead (o : Fin 1024) (frame line : Nat) (offsets : List Int) (bad : List WordFault)
  -- chapter 08: the Cue Engine
  | threadCreate (m : Fin 8) (v : Word)
  | threadDelete (m : Fin 8) (v : Word)
  | threadRestart (m : Fin 8) (v : Word)
  | threadStop (m : Fin 8) (v : Word)
  | threadCmdBad (v : Word)
  | budgetChange (m : Fin 8) (t : Fin 4096) (v : Word)
  | shareWrite (n : Fin 8) (v : Word)
  | engineErr (e : Fin 18)
  | tqWrite (m : Fin 8) (v : Word)
  | psSwapArm (v : Word)
  | psSwapAt (n : Fin 8)
  | programStoreWrite (a : Nat) (data : List Byte)
  | cueInitDone
  -- chapter 09: the instructions of a cue program, completed by the thread named
  | cueAdd (t : Fin 4096)
  | cueAddi (t : Fin 4096)
  | cueSub (t : Fin 4096)
  | cueAnd (t : Fin 4096)
  | cueOr (t : Fin 4096)
  | cueXor (t : Fin 4096)
  | cueShl (t : Fin 4096)
  | cueShr (t : Fin 4096)
  | cueLdi (t : Fin 4096)
  | cueLdhi (t : Fin 4096)
  | cueCmp (t : Fin 4096)
  | cueCmpi (t : Fin 4096)
  | cueBr (t : Fin 4096)
  | cueCall (t : Fin 4096)
  | cueRet (t : Fin 4096)
  | cueYield (t : Fin 4096)
  | cueHalt (t : Fin 4096)
  | cueWaitf (t : Fin 4096)
  | cueWaitt (t : Fin 4096)
  | cueLds (t : Fin 4096)
  | cueSts (t : Fin 4096)
  | cueSense (t : Fin 4096)
  | cueLdt (t : Fin 4096)
  | cuePopt (t : Fin 4096)
  | cueEvt (t : Fin 4096)
  | cueTake (t : Fin 4096)
  | cueTakep (t : Fin 4096)
  | cueHold (t : Fin 4096)
  | cuePipe (t : Fin 4096)
  | cueAtake (t : Fin 4096)
  | cueAgain (t : Fin 4096)
  | cueAmute (t : Fin 4096)
  | cueAzx (t : Fin 4096)
  | cueAgrp (t : Fin 4096)
  | cueLsrc (t : Fin 4096)
  | cueLgeom (t : Fin 4096)
  | cueLalpha (t : Fin 4096)
  | cueLorder (t : Fin 4096)
  | cueLcommit (t : Fin 4096)
  | cueSafe (t : Fin 4096)
  | cueSignal (t : Fin 4096)
  | cueTally (t : Fin 4096)
  | cueGpo (t : Fin 4096)
  -- chapter 10: the Take and Tally Bus
  | ttbRead (a : BitVec 16)
  | ttbTake (v : Word) (late : Fin 3)
  | stageArg (v : Word)
  | stageAtLo (v : Word)
  | stageAtHi (v : Word)
  | wrBad (a : BitVec 16) (v : Word)
  | ttbEnable (v : Word)
  | ttbDisable (v : Word)
  | clkLost
  -- chapter 11: audio
  | audioPeriod
  | zxTimeout (o : Fin 16384)
  | audioSampleIn (i : Fin 16384) (x : AudSample)
  | audioGroupCfg (g : Fin 2048) (v : Word)
  | alignGroupEnable (a : Fin 1024) (v : Word)
  | asrcEnable (c : Fin 64) (v : Word)
  | asrcLock (c : Fin 64) (ratio : Word)
  | asrcUnlock (c : Fin 64) (why : AsrcLoss) (ratio : Word)
  | asrcErr (u : Fin 72)
  | csCapture (v : Word)
  | serialPortEnable (p : Fin 16) (v : Word)
  | serialPortDisable (p : Fin 16) (v : Word)
  | spPinRelease (p : Fin 16)
  | aes3Subframe (p : Fin 16) (ch : Fin 2) (f : Aes3Frame)
  | rxLock (p : Fin 16) (rate : BitVec 3)
  | spLost (p : Fin 16) (why : PortLoss)
  | audInitDone
  -- chapter 12: Picture Pipes and wall composition
  | pipeCfgWrite (q : Fin 16) (v : Word)
  | pipeErr (u : Fin 17)
  | compositorEnable (v : Word)
  | bandCompose (frame : Word) (band : Nat) (slBad lcBad : List Nat)
  | late (frame : Word) (band : Nat) (composed : Nat)
  | safelightWrite (m : Fin 8) (a : Nat) (data : List Byte)
  | safeLock (m : Fin 8) (v : Word)
  | captureGo (v : Word)
  | captureDone
  | capAbort
  -- chapter 13: scan-out and tiles
  | scanEnable (v : Word)
  | tileEnable (t : Fin 1024) (v : Word)
  | bandSlot (frame : Word) (band : Nat)
  | pixelUnder (p : Fin 128)
  | frameMarkTx
  | statusReport (p : Fin 128) (f : EthFrame)
  | tileCool (t : Fin 1024)
  | tileLost (t : Fin 1024) (linkDown : Bool)
  | ident (p : Fin 128) (f : EthFrame)
  | iddata (p : Fin 128) (f : EthFrame)
  | idreadTimeout (t : Fin 1024) (tag : BitVec 8)
  | enumTx (p : Fin 128)
  | colourLoopTick
  | proofClose (w : ProofOf)
  -- chapter 14: control processors and the bus
  | handover
  | lockup (c : Fin 5)
  | coreErr (c : Fin 5)
  | hartTimer (h : Fin 4)
  | ipiWrite (h : Fin 4) (v : Word)
  | l2Maint (v : Word)
  | l2EccUncorr (m : Fin 8) (e : CoreEcc)
  | busAccess (m : Fin 8) (x : BusOp)
  | busGrant (p : BusPort)
  | lockTo (p : BusPort)
  | decodeStall (m : Fin 8)
  | stallAbort (v : Word)
  | dmaGo (c : Fin 8) (v : Word)
  | dmaStop (c : Fin 8) (v : Word)
  | dmaDescriptorEnd (c : Fin 8)
  -- chapter 15: management ports
  | mgmtEnable (n : Fin 2) (v : Word)
  | mgmtFrameRx (n : Fin 2) (f : EthFrame)
  | mgmtPauseEnd (n : Fin 2)
  | mgmtFrameTx (n : Fin 2)
  | mgmtLinkDown (n : Fin 2)
  -- chapter 16: identity memories and calibration
  | idmRead (m : Fin 8) (v : Word)
  | idmReadDone (m : Fin 8) (nack : Bool) (data : List Byte)
  | busStuck (m : Fin 8) (stillLow : Bool)
  | presenceScan (acks : List (Fin 128 × List Byte))
  | strapChg (slot : BitVec 6) (side : Bool)
  | calUserWrite (q : CalQuantity) (v : Word)
  -- chapter 17: clocks, power and temperature
  | xtalFail
  | syspllUnlock
  | pllStart (d : Fin 181)
  | clockSleep (d : Fin 181)
  | tempRead (t : List (BitVec 16))
  | trip
  | bistStart
  -- chapter 18: reset and start-up
  | powerOn
  | brownout (aon : Bool) (ns : Nat)
  | resetNPin (ns : Nat)
  | swCoreReset (m : Fin 8) (v : Word)
  | swSystemReset (m : Fin 8) (v : Word)
  | swConfinedReset (m : Fin 8) (v : Word)
  | dbgReset
  | coreReset
  | systemReset
  | resetRelease (b : BootReport)
  | hartRelease
  | rstCauseRead (m : Fin 8)
  | healthOk (v : Word)
  | startTimeout
  | wdtExpire
  | wdtKick (v : Word)
  | lcRequest (m : Fin 8) (v : Word)
  -- chapter 19: faults and HBM
  | fstatClear (b : Blk) (v : Word)
  | faultForce (b : Blk) (v : Word)
  | escalationExpire (b : Blk)
  | hbmEccError (pc : Fin 68) (row : BitVec 24) (e : HbmEcc)
  | stackFail (h : Fin 2)
  | hbmGrant (pc : Fin 68) (waiting : List (Fin 9 × Fin 4 × Nat))
  -- chapter 20: the Vault and self-test
  | vaultRotate (m : Fin 8) (v : Word)
  | vaultRetire (m : Fin 8) (v : Word)
  | vaultBadCmd (m : Fin 8) (v : Word)
  | pcCopyDone
  | rotationDue (t : Fin 7) (planeB : Bool)
  | ledgerHour (e : Fin 422) (ecc : Nat)
  | ledgerSave (ok : Bool)
  | retireRecord (m : Fin 8) (v : Word)
  | bistRun (v : Word)
  | bistStop (v : Word)
  | bistEnd (target : Nat) (done : Nat) (sig expected : Word) (margin : BitVec 10)
  -- chapter 21: firmware update
  | fwuPiece (m : Fin 8) (v : Word)
  | eraseEscrow (m : Fin 8) (v : Word)
  | verify (m : Fin 8) (v : Word)
  | arm (m : Fin 8) (v : Word)
  | disarm (m : Fin 8) (v : Word)
  | setWrite (m : Fin 8) (v : Word)
  | ledger (m : Fin 8) (v : Word)
  | fwuBadCmd (m : Fin 8) (v : Word)
  | activation
  | loaderStatus (seq : BitVec 16)
  | loaderPiece (seq : BitVec 16) (piece : List Byte) (flashOk : Bool)
  | loaderEraseEscrow (seq : BitVec 16) (flashOk : Bool)
  | loaderVerify (seq : BitVec 16)
  | loaderStart (seq : BitVec 16) (slot : BitVec 8)
  -- rows added at the end of the table
  | mgmtLinkUp (n : Fin 2) (partnerSlow : Bool)
  | cdrUnlock (n : Fin 128)
  | xtalOk
  | fwuCommandDone (flashOk : Bool)
  | powerSwitchFault (e : Fin 294)
  deriving DecidableEq, Repr

end Sys2Proof
end

