-- ==== Sys2Proof/Decode.lean ====
section
/-!
DEFINITION. Commands from words. spec/opcode_table.json gives no row any bits: the commands of this block are bus accesses and
events, and none of them is spelled by a word (notes/assumptions/1.md).
-/

namespace Sys2Proof

/-- The command that a word spells by the table's bits: none, since the table gives no row bits. -/
def decodeTableWord (_nbits _w : Nat) : Option Instr := none

end Sys2Proof
end

