-- ==== Sys2Proof/Config.lean ====
section
/-!
DEFINITION. What the manual leaves open, as constants without a body: nothing in Lean can evaluate them, so a claim
about them holds whatever they are.  The free values are applied to the counter `State.free`, which the step advances
each time it takes one (notes/assumptions/2.md).
-/

namespace Sys2Proof

/-- The k-th free natural number. -/
opaque Config.freeNat : Nat → Nat

/-- The k-th free truth value. -/
opaque Config.freeBool : Nat → Bool

/-- SHA-384 of a byte string (R7 names the standard; the model does not restate it; notes/assumptions/3.md). -/
opaque Config.sha384 : List Byte → BitVec 384

/-- Whether an ECDSA P-384 signature verifies under a key over a digest (R7; notes/assumptions/3.md). -/
opaque Config.ecdsaVerify : BitVec 768 → BitVec 384 → BitVec 768 → Bool

/-- The maintenance key whose hash OTP holds (R420; the token does not carry the key, notes/assumptions/3.md). -/
opaque Config.maintenanceKey : BitVec 384 → BitVec 768

/-- The place of a picture word in its line, in word-clock periods from the first word of the line's EAV, for an essence
format's SDI raster (R176; the rasters are the SMPTE standards', which the manual names and does not restate;
notes/assumptions/31.md). -/
opaque Config.rasterOffset : Nat → Nat → Nat

/-- Whether an ST 352 payload agrees with a format and mapping (R119; ST 352's coding is not restated;
notes/assumptions/31.md). -/
opaque Config.pidAgrees : BitVec 32 → Nat → Nat → Bool

/-- The ST 352 payload generated from a format and mapping (R130). -/
opaque Config.pidFor : Nat → Nat → BitVec 32

/-- The line carries the ST 352 packet of a format and mapping (R125, R130). -/
opaque Config.pidLine : Nat → Nat → Nat → Bool

/-- The first word and the length of an ANC space of a format's raster: vertical (false) or horizontal (true) (R124). -/
opaque Config.ancSpace : Nat → Bool → Nat × Nat

/-- The places of the ST 352 and ST 299 packets that a framer inserts: for a format, mapping, line and count of audio
channels, the first word and length of each (R130, R131). -/
opaque Config.insertedAt : Nat → Nat → Nat → Nat → List (Nat × Nat)

/-- The raster line of an essence line of a format's active picture: its field (second or not) and its place in the field,
from 0 (R154: the row number and F bit of ST 2110-20 give the line; notes/assumptions/31.md). -/
opaque Config.activeLine : Nat → Bool → Nat → Nat

/-- The default TRO that ST 2110-21 gives for a format and RATE code, in ns (R161). -/
opaque Config.defaultTro : Nat → Nat → Nat

/-- The bytes of a serialised SDI line that ST 2022-6 carries: of a format and raster line, from its picture words, its
ST 352 payload and its ANC words (R161). -/
opaque Config.sdiBytes : Nat → Nat → List (List (BitVec 8)) → Option (BitVec 32) → List (List Nat) → List (BitVec 8)

/-- The payload header of an ST 2022-6 packet of a format, by the frame's count (R161). -/
opaque Config.hbrmtHeader : Nat → Nat → BitVec 64

/-- A word of the built-in matrix sets 1 to 6 (R299: the standards' primaries and Y'CbCr equations, rounded; the manual
names them and does not restate them). -/
opaque Config.builtinMat : Nat → Nat → Int

/-- An entry of the built-in curve tables 1 to 3 and 5 to 7 (R299). -/
opaque Config.builtinCurve : Nat → Nat → Nat

/-- An entry of the built-in output curves 1 to 3 (R324). -/
opaque Config.outputCurve : Nat → Nat → Nat

/-- A coefficient of the built-in polyphase banks: of the vertical pass or not, for an output size and a crop size, a
phase and a tap (R302). -/
opaque Config.polyphase : Bool → Nat → Nat → Nat → Nat → Int

/-- The fill in percent of a tile port's line buffer at an instant (R327). -/
opaque Config.portFill : Nat → Nat → Nat

end Sys2Proof
end

