-- ==== Sys2Proof/Machine/Maps.lean ====
section
/-!
DEFINITION. Finite maps as plain data, and byte memory in its canonical form.

`AMap` holds what the manual gives per index (registers, contexts, tiles, slots); a key that no entry names has the
default that the reader gives.  `Memory` is the byte-addressed memory of R29: strictly rising addresses, and no entry
equal to what an unlisted address reads as.
-/

namespace Sys2Proof

/-- A finite map from numbers, its entries in rising key order. -/
structure AMap (α : Type) where
  entries : List (Nat × α)
  deriving DecidableEq, Repr

/-- The map with no entry. -/
def AMap.empty {α : Type} : AMap α := ⟨[]⟩

/-- Look a key up in a list of entries. -/
def alookup {α : Type} : List (Nat × α) → Nat → Option α
  | [], _ => none
  | (k', v) :: t, k => if k = k' then some v else alookup t k

/-- Put an entry into a list of entries, before the first larger key. -/
def ainsert {α : Type} : List (Nat × α) → Nat → α → List (Nat × α)
  | [], k, v => [(k, v)]
  | (k', v') :: t, k, v =>
    if k = k' then (k, v) :: t
    else if k < k' then (k, v) :: (k', v') :: t
    else (k', v') :: ainsert t k v

/-- The value at a key, if an entry names it. -/
def AMap.find? {α : Type} (m : AMap α) (k : Nat) : Option α := alookup m.entries k

/-- The value at a key, `d` where no entry names it. -/
def AMap.get {α : Type} (m : AMap α) (d : α) (k : Nat) : α := (m.find? k).getD d

/-- The map with a key set to a value. -/
def AMap.set {α : Type} (m : AMap α) (k : Nat) (v : α) : AMap α := ⟨ainsert m.entries k v⟩

/-- The map without the entries of a key. -/
def AMap.erase {α : Type} (m : AMap α) (k : Nat) : AMap α := ⟨m.entries.filter (fun e => e.1 != k)⟩

/-- The map with only the entries that satisfy a test. -/
def AMap.filter {α : Type} (m : AMap α) (p : Nat → α → Bool) : AMap α := ⟨m.entries.filter (fun e => p e.1 e.2)⟩

/-- The map with every value rewritten. -/
def AMap.map {α : Type} (m : AMap α) (f : Nat → α → α) : AMap α := ⟨m.entries.map (fun e => (e.1, f e.1 e.2))⟩

/-- The keys that entries name. -/
def AMap.keys {α : Type} (m : AMap α) : List Nat := m.entries.map (·.1)

/-- Byte memory: (address, byte) pairs. -/
structure Memory where
  cells : List Host.Cell
  deriving DecidableEq, Repr

/-- What a byte of memory reads as where nothing has written it.  DESIGN CHOICE, unsafe: the manual gives no contents
for HBM, core SRAM and the buffers after power-on, and no contents for an erased flash sector
(notes/assumptions/4.md). -/
def Memory.blank : Byte := 0

/-- Memory that nothing has written. -/
def Memory.empty : Memory := ⟨[]⟩

/-- Read one byte from rising cells. -/
def cellRead : List Host.Cell → Nat → Byte
  | [], _ => Memory.blank
  | (a', b) :: t, a => if a < a' then Memory.blank else if a = a' then b else cellRead t a

/-- Write one byte into rising cells, keeping the canonical form. -/
def cellWrite : List Host.Cell → Nat → Byte → List Host.Cell
  | [], a, b => if b = Memory.blank then [] else [(a, b)]
  | (a', b') :: t, a, b =>
    if a < a' then (if b = Memory.blank then (a', b') :: t else (a, b) :: (a', b') :: t)
    else if a = a' then (if b = Memory.blank then t else (a, b) :: t)
    else (a', b') :: cellWrite t a b

/-- Cells strictly rise from above `lo` and none holds the blank byte. -/
def cellsWf : Nat → List Host.Cell → Bool
  | _, [] => true
  | lo, (a, b) :: t => decide (lo ≤ a) && decide (b ≠ Memory.blank) && cellsWf (a + 1) t

/-- The canonical form of memory. -/
def Memory.wf (m : Memory) : Bool := cellsWf 0 m.cells

/-- The byte at an address. -/
def Memory.read (m : Memory) (a : Nat) : Byte := cellRead m.cells a

/-- Memory with one byte written. -/
def Memory.write (m : Memory) (a : Nat) (b : Byte) : Memory := ⟨cellWrite m.cells a b⟩

/-- `n` bytes from an address up. -/
def Memory.readBytes (m : Memory) (a : Nat) : Nat → List Byte
  | 0 => []
  | n + 1 => m.read a :: Memory.readBytes m (a + 1) n

/-- Memory with a byte string written from an address up. -/
def Memory.writeBytes (m : Memory) (a : Nat) : List Byte → Memory
  | [] => m
  | b :: bs => (m.write a b).writeBytes (a + 1) bs

/-- A little-endian number of `n` bytes. -/
def Memory.readLe (m : Memory) (a n : Nat) : Nat := leNat (m.readBytes a n)

/-- Memory with a little-endian number of `n` bytes written. -/
def Memory.writeLe (m : Memory) (a n v : Nat) : Memory := m.writeBytes a (leBytes n v)

end Sys2Proof
end

