-- ==== Sys2Proof/Machine/RegReset.lean ====
section
/-!
DEFINITION. The reset word of every register: the Reset column of the register tables, and where that column depends on
the element, the rule it names.  A field whose Reset cell names pins, OTP or flash reads 0 here: the part is a blank part
whose straps are low (DESIGN CHOICE, notes/assumptions/5.md).
-/

namespace Sys2Proof

/-- The QL map defaults of R40 as register words. -/
def qlMapReset (e : Nat) : Nat :=
  let row (cls acc ql : Nat) : Nat := cls + acc * 2 ^ 8 + ql * 2 ^ 16 + 2 ^ 31
  match e with
  | 0 => row 6 0x21 1
  | 1 => row 6 0xFE 2
  | 2 => row 13 0x21 3
  | 3 => row 7 0xFE 4
  | 4 => row 13 0xFE 4
  | 5 => row 14 0xFE 5
  | 6 => row 52 0xFE 8
  | 7 => row 58 0xFE 8
  | 8 => row 187 0xFE 9
  | 9 => row 193 0xFE 9
  | 10 => row 248 0xFE 12
  | _ => 0

/-- The rotation periods of R448, in minutes. -/
def rotPeriodReset (type : Nat) : Nat :=
  match type with
  | 0 => 120
  | 1 => 60
  | 2 => 120
  | 3 => 60
  | 4 => 1440
  | 5 => 1440
  | 6 => 480
  | _ => 0

/-- The state that R458 gives a pseudo-channel or transmit PLL of the Vault's unit index, which have no block register. -/
def unitRoleReset (e : Nat) : Nat :=
  if 130 ≤ e ∧ e < 198 then (if (e - 130) % 34 < 32 then 0 else 1)
  else if 198 ≤ e ∧ e < 294 then (if (e - 198) % 3 < 2 then 0 else 1)
  else 0

/-- The reset value of a register element, as a number. -/
def RegName.resetNat (r : RegName) (i : Nat) : Nat :=
  match r with
  | .REF_QLMAP => qlMapReset i
  | .CUE_SHARE => if i = 0 then 16 + 16 * 2 ^ 8 else 0
  | .CUE_ENG_STAT => if i < 16 then 0 else 1
  | .AUD_ASRC_STAT => i * 2 ^ 8
  | .AUD_ASRC_UNIT => if i < 64 then i * 2 ^ 8 else 1
  | .WCOMP_PIPE_STAT => i
  | .WCOMP_UNIT => if i < 16 then i * 2 ^ 4 else 1
  | .WSCAN_TRIM => if i % 9 % 4 = 0 then 2 ^ 16 else 0
  | .CPU_CORE_STAT => if i < 4 then i * 2 ^ 4 else 1
  | .CPU_HART_BOOT_HI => 0x10
  | .CPU_MTIMECMP_LO => 2 ^ 32 - 1
  | .CPU_MTIMECMP_HI => 2 ^ 32 - 1
  | .CPU_IRQ_NEXT => 0xFF
  | .VAULT_ROT => rotPeriodReset i
  | .VAULT_THR_ECC => if i ≤ 5 then 100000 else 0
  | .VAULT_LG_HRS => unitRoleReset i * 2 ^ 24
  | .VAULT_LG_VMIN => 0x3FF * 2 ^ 16
  | _ => r.info.reset

/-- The reset word of a register element. -/
def RegName.resetWord (r : RegName) (i : Nat) : Word := BitVec.ofNat 32 (r.resetNat i)

/-- A source as a mask of its block's fault registers. -/
def Src.mask (x : Src) : Word := 1#32 <<< x.bit

/-- FEN after a power-on or system reset, as each block's chapter gives it (R59, R82, R112, R134, R164, R192, R221,
R264, R292, R316, R340, R359, R371, R385, R400, R421, R436, R459, R482). -/
def Blk.fenReset : Blk → Word
  | .RST => Src.RST_WDT_EXPIRE.mask ||| Src.RST_FAILED_START.mask ||| Src.RST_LC_REJECT.mask
  | .CLK => Src.CLK_SYSPLL_UNLOCK.mask ||| Src.CLK_XTAL_FAIL.mask ||| Src.CLK_PLL_DEAD.mask
  | .PWR => Src.PWR_TEMP_WARN.mask ||| Src.PWR_TRIP.mask ||| Src.PWR_SENSOR_BAD.mask
  | .BUS => Src.BUS_DECODE_STALL.mask ||| Src.BUS_LOCK_TO.mask ||| Src.BUS_DMA_ERR.mask
  | .CPU => Src.CPU_L2_ECC_UNCORR.mask ||| Src.CPU_SRAM_ECC_UNCORR.mask ||| Src.CPU_LOCKUP.mask ||| Src.CPU_CORE_ERR.mask
  | .VAULT => Src.VAULT_NO_SPARE.mask ||| Src.VAULT_WEAR_LIMIT.mask ||| Src.VAULT_UNUSABLE.mask ||| Src.VAULT_ROW_EXHAUST.mask ||| Src.VAULT_LEDGER_SAVE.mask
  | .BIST => Src.BIST_FAIL.mask ||| Src.BIST_STARTUP_FAIL.mask
  | .IDM => Src.IDM_BUS_STUCK.mask ||| Src.IDM_REC_BAD.mask ||| Src.IDM_TILE_REC_BAD.mask ||| Src.IDM_STRAP_CHG.mask
  | .CAL => Src.CAL_OTP_BAD.mask
  | .FWU => Src.FWU_FLASH_ERR.mask ||| Src.FWU_VERIFY_FAIL.mask ||| Src.FWU_ACT_MISSED.mask ||| Src.FWU_FALLBACK.mask
  | .GPIO => 0
  | .TTB => Src.TTB_BUSY.mask ||| Src.TTB_CLK_LOST.mask
  | .REF => Src.REF_HOLDOVER.mask ||| Src.REF_SRC_LOST.mask ||| Src.REF_DRIFT.mask ||| Src.REF_DISAGREE.mask
  | .PTP => Src.PTP_A_UNLOCK.mask ||| Src.PTP_A_HOLDOVER.mask ||| Src.PTP_B_UNLOCK.mask ||| Src.PTP_B_HOLDOVER.mask ||| Src.PTP_ET_FAR.mask ||| Src.PTP_TSQ_OVF.mask
  | .MGMT => Src.MGMT_LINK_DOWN.mask ||| Src.MGMT_AN_FAIL.mask
  | .LANE => Src.LANE_PLL_LOST.mask ||| Src.LANE_EYE_LOW.mask
  | .SDI => Src.SDI_RX_UNLOCK.mask ||| Src.SDI_FMT_MISMATCH.mask ||| Src.SDI_SKEW.mask
  | .MPORT => Src.MPORT_LINK_DOWN.mask ||| Src.MPORT_CTX_MISMATCH.mask ||| Src.MPORT_PATH_LOST.mask
  | .FLOW => Src.FLOW_INSERT_FULL.mask ||| Src.FLOW_ECC_UNCORR.mask ||| Src.FLOW_CMDQ_OVF.mask
  | .XPT => Src.XPT_SLICE_CHECK.mask ||| Src.XPT_MERGE_BOTH.mask ||| Src.XPT_CAP_LOST.mask ||| Src.XPT_DEMOTE.mask ||| Src.XPT_REMOVE.mask ||| Src.XPT_OVL_REDUCED.mask
  | .CUE => Src.CUE_BUDGET_OVER.mask ||| Src.CUE_THREAD_FAULT.mask ||| Src.CUE_TQ_FULL.mask ||| Src.CUE_OVERLOAD.mask ||| Src.CUE_ENGINE_ERR.mask
  | .AUD => Src.AUD_SLIP.mask ||| Src.AUD_ASRC_UNLOCK.mask ||| Src.AUD_ASRC_ERR.mask ||| Src.AUD_SP_LOST.mask
  | .WCOMP => Src.WCOMP_LATE.mask ||| Src.WCOMP_PIPE_ERR.mask ||| Src.WCOMP_NO_UNIT.mask ||| Src.WCOMP_SL_MIRROR.mask ||| Src.WCOMP_SL_WRITE_DENY.mask ||| Src.WCOMP_TD_MISMATCH.mask
  | .WSCAN => Src.WSCAN_TILE_LOST.mask ||| Src.WSCAN_TILE_HOT.mask ||| Src.WSCAN_TILE_FAULT.mask ||| Src.WSCAN_LC_MIRROR.mask
  | .HBM => Src.HBM_ECC_UNCORR.mask ||| Src.HBM_STACK_FAIL.mask ||| Src.HBM_TRAIN_FAIL.mask
  | .ULINK => Src.ULINK_LINK_DOWN.mask ||| Src.ULINK_PEER_MISMATCH.mask ||| Src.ULINK_MB_RX_OVF.mask

end Sys2Proof
end

