-- ==== Sys2Proof/Machine/State.lean ====
section
/-!
DEFINITION. The state of the SV-6400 as plain data, and the state after a power-on reset.

The register file holds every register of the register tables; the structures below hold what the manual says the part
keeps beside its registers.  A map entry that is absent stands for the reset value of what it names.
-/

namespace Sys2Proof.Machine

open Sys2Proof

/-! ### Faults (chapter 19) -/

/-- What a block holds of its seven fault registers (R423): FSTAT, FREAL, FEN and FESC_CFG as registers; ESC_LAST; the
escalation timer as the instant E at which it expires, in ns of the always-on clock; which sources have acted since
their FSTAT bit was last set from 0 (R427), and which have been forced since it was cleared (R430). -/
structure FaultSet where
  fstat : Word
  freal : Word
  fen : Word
  cfg : Word
  escLast : Word
  expiry : Option Nat
  acted : Word
  forced : Word
  deriving DecidableEq, Repr

/-- The fault registers of a block after reset: the default FEN of its chapter, PERIOD = 1,000 (R435). -/
def FaultSet.reset (b : Blk) : FaultSet := ⟨0, 0, b.fenReset, 1000, 0, none, 0, 0⟩

/-! ### Responses to the bus masters (chapter 14) -/

/-- What a master has from its last read or write: the data, and whether an error response ended it. -/
structure BusResp where
  data : Nat
  err : Bool
  deriving DecidableEq, Repr

/-- No response yet. -/
def BusResp.reset : BusResp := ⟨0, false⟩

/-! ### Reference Unit (chapter 02) -/

/-- The instants of one frame of a timing domain (R52), in ns of Event Time full time, and the exact frame start in
units of 1/(3·10⁹) ns. -/
structure FrameTimes where
  cueOpen : Int
  start : Int
  shutter : Int
  exact : Int
  deriving DecidableEq, Repr

/-- What a timing domain holds beside its registers. -/
structure TdState where
  /-- Event Time full time at which EN was last written 1 (R54). -/
  enabledAt : Int
  /-- the phase F(N) now has, in units of 1/(3·10⁹) ns; it equals REF_TD_PHASE but while a move of R55 goes on -/
  phase : Int
  /-- where a move of R55 ends, congruent to REF_TD_PHASE modulo T_f -/
  phaseGoal : Int
  /-- a crash lock of R50 waits for the next frame start -/
  crash : Bool
  /-- the frame whose Cue Window is open -/
  opened : Option FrameTimes
  /-- the last frame whose Shutter has fallen -/
  last : Option FrameTimes
  /-- the end of the Overlap Window of the last Shutter has not come yet -/
  overlapOpen : Bool
  deriving DecidableEq, Repr

/-- A timing domain after reset. -/
def TdState.reset : TdState := ⟨0, 0, 0, false, none, none, false⟩

/-- What the Reference Unit holds beside its registers. -/
structure RefState where
  /-- the REFSEL value of the last sample and how many samples in a row read it (R34) -/
  selCand : Nat
  selRun : Nat
  /-- per source, the last 10 one-second offset samples, newest first, in 1/16 ppb (R43) -/
  window : AMap (List Int)
  /-- the count of one-second samples, and the history of R45: (second, offset), newest first -/
  second : Nat
  hist : List (Nat × Int)
  /-- PPS_IN: whether REF_PPS_TAI has been written since reset, whether the value is armed for the next edge, the last
  edge's whole second and its instant (R38, R41) -/
  ppsWritten : Bool
  ppsArmed : Bool
  ppsSecond : Nat
  ppsLast : Option Nat
  deriving DecidableEq, Repr

/-- The Reference Unit after reset. -/
def RefState.reset : RefState := ⟨0, 0, .empty, 0, [], false, false, 0, none⟩

/-- The REF_OUT pin (R56): high-impedance until REF_OUT_CFG is first written after power-on; its level; the end of the
pulse in progress. -/
structure RefOutPin where
  driven : Bool
  level : Bool
  pulseEnd : Option Nat
  deriving DecidableEq, Repr

/-! ### Network time (chapter 03) -/

/-- A master heard on a port of a domain, with its last Announce and how many have come (R61). -/
structure ForeignMaster where
  msg : AnnounceMsg
  count : Nat
  deriving DecidableEq, Repr

/-- A two-step Sync that waits for its Follow_Up. -/
structure SyncWait where
  port : Fin 2
  sender : Nat
  seq : BitVec 16
  t2 : Nat
  corr : Int
  deriving DecidableEq, Repr

/-- What a PTP slave domain holds beside its registers. -/
structure PtpDom where
  /-- the domain clock in ns since the PTP epoch, and the fraction in units of 1/(16·10⁹) ns -/
  time : Nat
  frac : Nat
  /-- the servo's integral term I in units of 2^-32 ppb (R64) -/
  integ : Int
  /-- twice each of the last 16 delay samples, newest first, in 2^-16 ns; MPD is defined once one exists (R63) -/
  delays : List Int
  mpd : Int
  /-- t2 − t1 − c_s of the last Sync, in 2^-16 ns -/
  syncDiff : Option Int
  waiting : Option SyncWait
  /-- the sequence number and send stamp t3 of the Delay_Req in flight -/
  dreqSeq : BitVec 16
  dreq : Option Nat
  /-- consecutive offsets that R66 counts -/
  inLock : Nat
  outLock : Nat
  foreign : List ForeignMaster
  master : Option Nat
  /-- PORT0 has delivered a Sync of the master since the last one on PORT1 -/
  port0Sync : Bool
  deriving DecidableEq, Repr

/-- A domain after reset (R67): DISABLED, its clock at 0. -/
def PtpDom.reset : PtpDom := ⟨0, 0, 0, [], 0, none, none, 0, none, 0, 0, [], none, false⟩

/-- What the PTP block holds beside its registers. -/
structure PtpState where
  dom : AMap PtpDom
  /-- the target domain of R72 -/
  target : Nat
  /-- R of R68 in ns, and the part of a nanosecond already slewed, in units of 10⁻⁹ ns -/
  resid : Int
  rfrac : Nat
  /-- the time-stamp queues of R80: (TAG, stamp), oldest first -/
  tsq : AMap (List (BitVec 16 × Nat))
  /-- Delay_Req answered since the last tile Sync (R77) -/
  tileDreq : Nat
  /-- domains whose Delay_Req waits for the end of a port's pause, by port (R140, R367) -/
  wait : AMap (List Nat)
  deriving DecidableEq, Repr

/-- The PTP block after reset. -/
def PtpState.reset : PtpState := ⟨.empty, 0, 0, 0, .empty, 0, .empty⟩

/-! ### Lanes and Uhlat links (chapter 04) -/

/-- The state of a transmit PLL beside its Vault state: stopped, starting, locked, or having lost lock (R89, R91). -/
inductive PllPhase where
  | stopped
  | starting
  | locked
  | lost
  deriving DecidableEq, Repr

/-- What a quad holds beside LANE_QUAD_STAT: the phases of PLL0, PLL1 and the spare, and how many times a PLL that
would not lock has been restarted (R392). -/
structure QuadState where
  pll0 : PllPhase
  pll1 : PllPhase
  spare : PllPhase
  restarts : Nat
  deriving DecidableEq, Repr

/-- A quad after reset: every PLL stopped. -/
def QuadState.reset : QuadState := ⟨.stopped, .stopped, .stopped, 0⟩

/-- A Uhlat stream's line in reception: the header of R99 and the bytes that have come, and the stream's previous line. -/
structure UlStream where
  line : Nat
  frame : Nat
  fmt : Nat
  flags : Nat
  bytes : Nat
  nextSeq : Nat
  open_ : Bool
  got : List Byte
  prev : List Byte
  /-- the words of the ANC packet in reception, and complete packets that wait for their line -/
  anc : List Byte
  ancWait : List (Nat × AncPacket)
  /-- the margins of the words that have come -/
  margins : List Int
  /-- waits for its next line start after the link came UP (R110) -/
  waitStart : Bool
  deriving DecidableEq, Repr

/-- A stream with nothing received. -/
def UlStream.reset : UlStream := ⟨0, 0, 0, 0, 0, 0, false, [], [], [], [], [], true⟩

/-- A Uhlat cell that waits for a slot: its due slot, its stream, its header's TYPE, FIRST, LAST and SEQ as one number
with WAIT 0, and its payload. -/
structure CellWait where
  due : Nat
  stream : Nat
  head : Nat
  bytes : List Byte
  deriving DecidableEq, Repr

/-- What a Uhlat link holds beside its registers. -/
structure UlLink where
  /-- codewords decoded in order with ALIGN right and CW_SEQ consecutive (R109), and the last CW_SEQ -/
  good : Nat
  lastSeq : Nat
  /-- consecutive bad codewords, and the instants of the last 17 uncorrectable ones, newest first (R110) -/
  bad : Nat
  uncorr : List Nat
  /-- a peer HELLO has been received (PEER_SEEN, R109); the last one's version is not 1 -/
  peerSeen : Bool
  badVersion : Bool
  lastHello : Nat
  /-- hop-latency samples doubled, newest first (R106), and the echo in flight: ID and T1 -/
  hops : List Int
  echoId : BitVec 16
  /-- F_local of the last marker, how many have come since MARK_OK fell, its RATE (R104) -/
  fLocal : Option Int
  marks : Nat
  markRate : Nat
  /-- what waits to be sent: ECHO_RSP (ID, T1, T2), ECHO_REQ, HELLO, a mailbox message -/
  echoDue : List (BitVec 16 × Nat × Nat)
  echoReqDue : Bool
  helloDue : Bool
  mailDue : Option (List Byte)
  /-- received mailbox messages, oldest first (at most 4, R111) -/
  mail : List (List Byte)
  /-- the cell slots that have passed -/
  slot : Nat
  /-- audio cells with the instant at which they are due, oldest first, and the audio period last taken -/
  audioDue : List (Nat × List Byte)
  audioPeriod : Nat
  /-- video and ANC cells that wait, and per stream the (line, frame) of its VOUT last taken -/
  cellsDue : List CellWait
  seen : AMap (Nat × Nat)
  /-- the frame start that the last marker followed -/
  markerAt : Option Int
  deriving DecidableEq, Repr

/-- A link after reset. -/
def UlLink.reset : UlLink :=
  { good := 0, lastSeq := 0, bad := 0, uncorr := [], peerSeen := false, badVersion := false, lastHello := 0, hops := [], echoId := 0,
    fLocal := none, marks := 0, markRate := 0, echoDue := [], echoReqDue := false, helloDue := false, mailDue := none,
    mail := [], slot := 0, audioDue := [], audioPeriod := 0, cellsDue := [], seen := .empty, markerAt := none }

/-- What a lane's receiver holds beside LANE_STAT: whether the next CDR lock starts a full adaptation, whether one is going
on, and whether that one has lasted over 100 ms (R92). -/
structure LaneRx where
  fresh : Bool
  adapting : Bool
  late : Bool
  deriving DecidableEq, Repr

/-- A receiver after reset. -/
def LaneRx.reset : LaneRx := ⟨true, false, false⟩

/-! ### SDI (chapter 05) -/

/-- What a deframer (a stream of it) holds beside its registers: consecutive lines without TRS; whether the frame in
progress has been seen from its first line, and has matched so far; consecutive matching and differing whole frames; its
frame count; whether real lines have resumed (R122); the last line shows a link skew beyond 384 ns; the last sample per
audio channel. -/
structure SdiRx where
  trsRun : Nat
  whole : Bool
  matches_ : Bool
  good : Nat
  differ : Nat
  frame : Nat
  real : Bool
  skewed : Bool
  prev : AMap AudSample
  deriving DecidableEq, Repr

/-- A deframer after reset. -/
def SdiRx.reset : SdiRx := ⟨0, false, false, 0, 0, 0, false, false, .empty⟩

/-- A line that a framer sends (R130 to R132): its number, whether its source is present, its words, its ST 352 payload,
its audio samples and its ANC packets. -/
structure SdiOut where
  line : Nat
  present : Bool
  words : List (List Byte)
  pid : Option Word
  audio : List AudSample
  anc : List AncPacket
  deriving DecidableEq, Repr

/-- What the SDI block holds beside its registers: deframers by lane, second streams as 128 + lane; framers that have been
disabled and go on to the end of their frame (R132); the last line that each framer sent, second streams as 128 + lane. -/
structure SdiState where
  rx : AMap SdiRx
  stopping : List Nat
  out : AMap SdiOut
  deriving DecidableEq, Repr

/-- The SDI block after reset. -/
def SdiState.reset : SdiState := ⟨.empty, [], .empty⟩

/-! ### IP media ports and the Flow Table (chapter 06) -/

/-- A line of a type 0 context in reception (R154): its place in the picture (field and essence line), the pieces that have
come as (first byte, bytes, instant of the write), and the arrival of the first. -/
structure RxLine where
  second : Bool
  row : Nat
  pieces : List (Nat × List Byte × Int)
  start : Int
  deriving DecidableEq, Repr

/-- What a receive context holds beside its registers. Of what arrives: the instant of its last packet (always-on ns); its
last sequence number; the RTP timestamp of the frame in progress, whether that frame was seen from its start and has been
consistent; consecutive consistent and inconsistent frames; SDI lines in a row without TRS. Of what it writes: the RTP
timestamp and the count of its frame; whether real lines have begun; its open line and the place up to which the lines of
the frame are closed; the timestamp of its next sample period; the last audio samples by channel. -/
structure RxCtx where
  lastPkt : Nat
  seq : Option Nat
  ts : Option Nat
  whole : Bool
  ok : Bool
  good : Nat
  bad : Nat
  trsRun : Nat
  wts : Option Nat
  frame : Nat
  real : Bool
  line : Option RxLine
  closed : Nat
  nextTs : Option Nat
  prev : AMap AudSample
  deriving DecidableEq, Repr

/-- A context with nothing received. -/
def RxCtx.reset : RxCtx := ⟨0, none, none, false, false, 0, 0, 0, none, 0, false, none, 0, none, .empty⟩

/-- A packet in a merge group's buffer (R158): its sequence number, the path and instant of the copy written, the instant
of the other copy, and the frame. -/
structure MergePkt where
  seq : Nat
  onB : Bool
  at_ : Nat
  other : Option Nat
  frame : MediaFrame
  deriving DecidableEq, Repr

/-- A merge group: its buffer, oldest first; whether it has a lead path yet; the arrivals of B after A of the last 1,024
pairs in ns, newest first; the last sequence number released; the millisecond in progress and its bits. -/
structure MergeRun where
  buf : List MergePkt
  led : Bool
  pairs : List Int
  last : Option Nat
  ms : Nat
  bits : Nat
  deriving DecidableEq, Repr

/-- A group with nothing received. -/
def MergeRun.reset : MergeRun := ⟨[], false, [], none, 0, 0⟩

/-- What a transmit context holds beside its registers: its next sequence number; the video packet last sent as (frame,
packet); the audio samples that wait, oldest first, and the number of the first one; the ANC that waits, with its lines;
the ST 2022-6 bytes that wait. -/
structure TxRun where
  seq : Nat
  sent : Option (Nat × Nat)
  audio : List (List AudSample)
  first : Nat
  anc : List (Nat × AncPacket)
  bytes : List Byte
  deriving DecidableEq, Repr

/-- A context that has sent nothing. -/
def TxRun.reset : TxRun := ⟨0, none, [], 0, [], []⟩

/-- What the MPORT block holds beside its registers: the end of each port's pause (always-on ns), contexts and groups by
number, and ANC packets that wait for the active line of their VIN, by VIN. -/
structure MportState where
  pause : AMap Nat
  rxc : AMap RxCtx
  mrg : AMap MergeRun
  txc : AMap TxRun
  anc : AMap (List (Nat × AncPacket))
  deriving DecidableEq, Repr

/-- The MPORT block after reset. -/
def MportState.reset : MportState := ⟨.empty, .empty, .empty, .empty, .empty⟩

/-- A result of the Flow Table's command queue (R147): the word that FLOW_RES gives without VALID, and the entry. -/
structure FlowRes where
  word : Nat
  entry : Nat
  deriving DecidableEq, Repr

/-- The Flow Table: its entries by INDEX (one that no entry names is 0), the commands that wait as (FLOW_Q_CMD,
entry words), the results, and the aged queue, each oldest first. -/
structure FlowState where
  table : AMap Nat
  cmds : List (Nat × Nat)
  results : List FlowRes
  aged : List Nat
  deriving DecidableEq, Repr

/-- The Flow Table after reset. -/
def FlowState.reset : FlowState := ⟨.empty, [], [], []⟩
/-! ### Essence crosspoint (chapter 07) -/

/-- A line in the Line Pool: what was written, and the running check of R186 after each word. -/
structure PoolLine where
  line : Nat
  frame : Nat
  present : Bool
  words : List (List Byte)
  checks : List Nat
  margins : List Int
  anc : List AncPacket
  deriving DecidableEq, Repr

/-- What the crosspoint knows of a VIN: the format and kind of its feeder, whether one is enabled, the kind that
XPT_VIN_STAT.FEEDER shows (R172), signal presence, NO_STORE, the SDI mapping, the D_in term of R182 in tenths of a
nanosecond, and the least and greatest margins of the frame in progress and of the last two frames (R176). -/
structure VinRec where
  fmt : Nat
  kind : Nat
  feeder : Bool
  shown : Nat
  present : Bool
  noStore : Bool
  map : Nat
  din10 : Nat
  mcur : Option (Int × Int)
  mlast : List (Option (Int × Int))
  deriving DecidableEq, Repr

/-- A VIN without a feeder. -/
def VinRec.reset : VinRec := ⟨0, 0, false, 0, false, false, 0, 0, none, []⟩

/-- A route of a VOUT (destination 0–1,023) or a wall layer (1,024 + L): its source, class, plane (class T or demoted),
path of XPT_ROUTE.PATH, PRIORITY in effect, timing domain, whether it is demoted (R25), its synchroniser or logical pipe,
the rates of its source and of what it puts out in kbit/s, and L of R182 in ns. -/
structure Route where
  vin : Nat
  classP : Bool
  planeB : Bool
  path : Nat
  prio : Nat
  td : Nat
  demoted : Bool
  unit : Nat
  srcRate : Nat
  outRate : Nat
  lat : Nat
  deriving DecidableEq, Repr

/-- The routes of one destination: the committed one, the one committed before it (read by lines before the switching
line, R185), one that waits for its synchroniser (R180), and the run's request (R20). -/
structure RouteSet where
  committed : Option Route
  prev : Option Route
  pending : Option Route
  request : Option Route
  deriving DecidableEq, Repr

/-- A destination with no route. -/
def RouteSet.reset : RouteSet := ⟨none, none, none, none⟩

/-- A source frame in a frame store: the instant it began, its frame count, whether it is whole, its lines. -/
structure FsFrame where
  start : Int
  frame : Nat
  whole : Bool
  lines : List PoolLine
  deriving DecidableEq, Repr

/-- A frame synchroniser or pipe frame store (R180, R181): its VIN, timing domain and HBM stack, the buffer's 64 KiB
units and its HBM term in MB/s, whether FS_ARM keeps it, its frames newest first, and the frame it shows. -/
structure FsSync where
  vin : Nat
  td : Nat
  stack : Nat
  units : Nat
  mbps : Nat
  armed : Bool
  frames : List FsFrame
  shown : Option FsFrame
  deriving DecidableEq, Repr

/-- A line that a VOUT gave to its sender: in the map by VOUT the last one, by 1,024 + VOUT the one before it. -/
structure OutLine where
  line : Nat
  frame : Nat
  present : Bool
  routed : Bool
  words : List (List Byte)
  anc : List AncPacket
  deriving DecidableEq, Repr

/-- What the crosspoint holds beside its registers. Storage reservations (R170) are in line strides of 64-byte words, by
essence: VIN v, synchroniser 1,024 + j, pipe result 2,048 + q. HBM terms (R188) are pairs for stacks A and B in MB/s, by
user. -/
structure XptState where
  vin : AMap VinRec
  rt : AMap RouteSet
  sync : AMap FsSync
  pipeFs : AMap FsSync
  pool : AMap (List PoolLine)
  out : AMap OutLine
  store : AMap Nat
  dropped : AMap Nat
  /-- the OVERLAP value in force per plane and domain (R171), by 8·plane + domain -/
  ovl : AMap Nat
  hbm : AMap (Nat × Nat)
  /-- feederless VINs whose reservation goes at the close of the Overlap Window now open (R172) -/
  leaving : List Nat
  deriving DecidableEq, Repr

/-- The crosspoint after reset. -/
def XptState.reset : XptState := ⟨.empty, .empty, .empty, .empty, .empty, .empty, .empty, .empty, .empty, .empty, []⟩

/-! ### The Cue Engine (chapters 08 and 09) -/

/-- What a program works on (R195): the program counter, the flags, the call stack with the newest address first, and the
general registers; a register that no entry names is 0. -/
structure ThrCtx where
  pc : Nat
  z : Bool
  n : Bool
  c : Bool
  t : Bool
  stack : List Nat
  g : AMap Word
  deriving DecidableEq, Repr

/-- A cleared context that starts at an entry. -/
def ThrCtx.start (entry : Nat) : ThrCtx := ⟨entry, false, false, false, false, [], .empty⟩

/-- What a waiting thread waits for (R233, R234): nothing, a number of frames, a frame number, an instant. -/
inductive Wake where
  | none
  | frames (k : Nat)
  | phi (w : Word)
  | instant (x : Nat)
  deriving DecidableEq, Repr

/-- A thread that is not FREE: its state code of R216 (1 to 6); the command that waits (0 none, 2 DELETE, 3 RESTART,
4 STOP); the instant of its creation (always-on ns); its context, and the one at the end of its last run; what it waits
for; whether its previous run, and whether this frame's run, was stopped; the entry that the built-in program has popped
and not acted on; whether a HALT waits for S(N); the engine of its run, the instant its last completed instruction ended
(Event Time full time, ns), the cycles of its write-back, the instructions completed and the budget of the run; its user
tally word and the one that waits; the GPO writes that wait, in program order; the shadow fields that the run wrote;
whether the run issued LCOMMIT; the reason of the run's last
refusal, 0 for none. -/
structure Thread where
  st : Nat
  pend : Nat
  madeAt : Nat
  ctx : ThrCtx
  shown : ThrCtx
  wake : Wake
  bover : Bool
  boverNow : Bool
  held : Option Word
  halting : Bool
  eng : Option Nat
  clock : Int
  back : Nat
  used : Nat
  budget : Nat
  user : Nat
  userNext : Option Nat
  gpo : List (Word × Word)
  wrote : List Nat
  lcommit : Bool
  refused : Nat
  deriving DecidableEq, Repr

/-- A Take Queue entry (R209, R210): its four words, its take time T, and, once it is visible, how many Shutters of its
object's domain have passed since the first frame that could see it (R212). -/
structure TqEntry where
  w0 : Word
  w1 : Word
  w2 : Word
  w3 : Word
  t : Nat
  seen : Option Nat
  deriving DecidableEq, Repr

/-- What the Cue Engine holds beside its registers: the threads that are not FREE; per domain the threads due in the frame,
and those dispatched that no engine has taken yet, ascending; the domain that each engine serves; per domain the engines
lost (R207); the Take Queue, oldest first; the domains that have swapped in the swap going on, and the swap's instant X;
per engine the instant at which it is free; per domain the least slack of this frame and of the last 256 frames, newest
first; the levels that GPO has committed (R247); the domains that are OVERLOAD. -/
structure CueState where
  thr : AMap Thread
  due : AMap (List Nat)
  ready : AMap (List Nat)
  serve : AMap (Option Nat)
  lost : AMap Nat
  tq : List TqEntry
  swapped : List Nat
  swapX : Nat
  engFree : AMap Int
  slackNow : AMap Nat
  slack : AMap (List (Option Nat))
  gpo : Word
  ovl : List Nat
  deriving DecidableEq, Repr

/-- The Cue Engine after reset. -/
def CueState.reset : CueState :=
  { thr := .empty, due := .empty, ready := .empty, serve := .empty, lost := .empty, tq := [], swapped := [], swapX := 0,
    engFree := .empty, slackNow := .empty, slack := .empty, gpo := 0, ovl := [] }

/-! ### The Take and Tally Bus (chapter 10) -/

/-- What the TTB drives (R251, R252, R260): TTB_ACK_N low, TTB_BUSY_N low, the word on TTB_DQ. -/
structure TtbPins where
  ack : Bool
  busy : Bool
  dq : Option Word
  deriving DecidableEq, Repr

/-- What the TTB holds beside its registers: the front bank by read address, with the domain of each word; each domain's
back bank; the domains whose Shutter the next edge swaps (R256); the pins. -/
structure TtbState where
  front : AMap (Nat × Word)
  back : AMap (List (Nat × Word))
  due : List Nat
  pins : TtbPins
  deriving DecidableEq, Repr

/-- The TTB after reset. -/
def TtbState.reset : TtbState := ⟨.empty, .empty, [], ⟨false, false, none⟩⟩

/-! ### Vault and self-test (chapters 17 and 20) -/

/-- A BIST run that waits for power (R396): its target (unit index or block target), whether the unit is rotated out first
(R449), and whether it has been counted as held. -/
structure BistReq where
  target : Nat
  rotate : Bool
  held : Bool
  deriving DecidableEq, Repr

/-- A migration (R443, R444): the leaving unit, the spare, whether the unit is retired at its end (R450), the instant at
which the spare's clock runs, and the domains whose Shutter, and whose Overlap Window, it has passed. -/
structure Migration where
  leaving : Nat
  spare : Nat
  retire : Bool
  ready : Nat
  shut : List Nat
  closed : List Nat
  deriving DecidableEq, Repr

/-- What the Vault and BIST hold beside their registers: the queue of R396, oldest first; the runs in progress; the
migrations in progress, by type (plane B of type 0 as 7); retirements that wait for a spare or for the migration of their
type; retired units not yet in OTP; the OTP retire map; the instant of each type's last rotation. -/
structure VaultState where
  queue : List BistReq
  running : List Nat
  migr : AMap Migration
  retireWait : List Nat
  recPend : List Nat
  lastRot : AMap Nat
  /-- corrected errors per pseudo-channel row in the last 24 h (R445), by pc · 2^24 + row: (instant, errors) -/
  rowCe : AMap (List (Nat × Nat))
  deriving DecidableEq, Repr

/-- The Vault after reset. -/
def VaultState.reset : VaultState := ⟨[], [], .empty, [], [], .empty, .empty⟩

/-! ### Audio Engine (chapter 11) -/

/-- A feeder of input slots (R267): its kind (1 SDI, 2 IP, 3 Uhlat, 4 serial port), its number there, its first slot, its
slots, whether they carry 96 kHz channels, whether it carries C and Z, whether a converter may serve it (R274). -/
structure AudFeed where
  kind : Nat
  unit : Nat
  slot : Nat
  slots : Nat
  fs96 : Bool
  cs : Bool
  asrc : Bool
  deriving DecidableEq, Repr

/-- An input slot: its buffer, oldest first (R271); the sample that its last pop gave and the last one received; the
channel-status block in assembly (bits and their count) and the last complete one (R283). -/
structure InSlot where
  buf : List AudSample
  cur : AudSample
  rx : AudSample
  bits : Nat
  count : Option Nat
  block : Option Nat
  deriving DecidableEq, Repr

/-- A slot with nothing received. -/
def InSlot.reset : InSlot := ⟨[], .absent, .absent, 0, none, none⟩

/-- The state of an alignment group or of a single slot (R272, R273): RUNNING, and the periods left of a repeat. -/
structure AlignRun where
  running : Bool
  rep : Nat
  deriving DecidableEq, Repr

/-- FILLING. -/
def AlignRun.reset : AlignRun := ⟨false, 0⟩

/-- A gain num / den in steps of 0.1 dB (R280). -/
structure AudGain where
  num : Int
  den : Nat
  deriving DecidableEq, Repr

/-- A gain ramp: its first period, its length in periods, where it starts, its target. -/
structure AudRamp where
  p0 : Nat
  periods : Nat
  from_ : AudGain
  target : Int
  deriving DecidableEq, Repr

/-- A change that waits for a zero crossing (R277): the new source, gain and mute where they change, the first period of
the wait, the instant at which the wait ends. -/
structure AudChange where
  src : Option Nat
  gain : Option Int
  muted : Option Bool
  start : Nat
  deadline : Nat
  deriving DecidableEq, Repr

/-- A crossfade (R278): what the member was before it (the gain only where it changed), and the samples done. -/
structure AudFade where
  src : Option Nat
  muted : Bool
  gain : Option AudGain
  j : Nat
  deriving DecidableEq, Repr

/-- A member of an audio group: its committed source, mute and gain; those in effect; the ramp, change and crossfade in
progress; the first period after its last crossfade; its last sample; RATE_MIS; the output channel status in force. -/
structure AudMember where
  csrc : Option Nat
  cmuted : Bool
  target : Int
  src : Option Nat
  muted : Bool
  gain : AudGain
  shown : Int
  ramp : Option AudRamp
  pend : Option AudChange
  fade : Option AudFade
  fadeEnd : Nat
  prev : Int
  rateMis : Bool
  mode : Nat
  block : Nat
  pos : Nat
  deriving DecidableEq, Repr

/-- A member as a thread finds it at its creation (R269). -/
def AudMember.reset : AudMember := ⟨none, false, 0, none, false, ⟨0, 1⟩, 0, none, none, none, 0, 0, false, 0, 0, 0⟩

/-- The audio operations of a run that wait for S(N) (R243), by member; the gains with their RAMP. -/
structure AudShadow where
  src : AMap Nat
  gain : AMap (Int × Nat)
  mute : AMap Bool
  azx : Option Nat
  mask : Option Nat
  deriving DecidableEq, Repr

/-- No operation. -/
def AudShadow.reset : AudShadow := ⟨.empty, .empty, .empty, none, none⟩

/-- An audio group: its committed timeout in 0.1 ms, its committed mask, the mask in force and the period at which the
committed one latches (R282), its members, the run's operations. -/
structure AudGroup where
  azx : Nat
  cmask : Nat
  mask : Nat
  maskAt : Option Nat
  members : AMap AudMember
  shadow : AudShadow
  deriving DecidableEq, Repr

/-- A group as a thread finds it at its creation (R269). -/
def AudGroup.reset : AudGroup := ⟨50, 2 ^ 64 - 1, 2 ^ 64 - 1, none, .empty, .reset⟩

/-- A serial port: whether its disabled pins wait for their release (R289); the frames in its transmit buffer, oldest
first (R287); the frame last sent; which half of a 96 kHz period each receive channel fills next; the samples last
delivered; the period at which its mask latches. -/
structure SerialPort where
  releasing : Bool
  tx : List (AudSample × AudSample)
  sent : AudSample × AudSample
  half : AMap Bool
  prev : AMap AudSample
  maskAt : Option Nat
  deriving DecidableEq, Repr

/-- A port after reset. DESIGN CHOICE: the transmit buffer starts half full of zero samples. -/
def SerialPort.reset : SerialPort :=
  ⟨false, [(.absent, .absent), (.absent, .absent), (.absent, .absent), (.absent, .absent)], (.absent, .absent), .empty,
    .empty, none⟩

/-- What the Audio Engine holds beside its registers: the period last processed and the count of periods since reset; the
feeders; input slots; alignment groups by number and single slots by 1,024 + slot; audio groups; the last sample of each
output slot; serial ports; converters that have no unit (R276); the unit whose state error ASRC_ERR last recorded. -/
structure AudState where
  period : Nat
  count : Nat
  feeds : List AudFeed
  slot : AMap InSlot
  run : AMap AlignRun
  group : AMap AudGroup
  out : AMap AudSample
  sp : AMap SerialPort
  bare : List Nat
  errUnit : Nat
  deriving DecidableEq, Repr

/-- The Audio Engine after reset. -/
def AudState.reset : AudState := ⟨0, 0, [], .empty, .empty, .empty, .empty, .empty, [], 0⟩

/-! ### Wall composition (chapter 12) -/

/-- The settings of a wall layer (R244, R305): position, size, crop position and crop size, alpha, place; for the Safelight
layer whether it is shown and its page; the profile. -/
structure LayerSet where
  x : Int
  y : Int
  w : Nat
  h : Nat
  cx : Nat
  cy : Nat
  cw : Nat
  ch : Nat
  alpha : Nat
  order : Nat
  on : Bool
  page : Nat
  prof : Nat
  deriving DecidableEq, Repr

/-- A layer before a thread is created for it. -/
def LayerSet.reset : LayerSet := ⟨0, 0, 1, 1, 0, 0, 0, 0, 4095, 0, false, 0, 0⟩

/-- A layer: its committed settings, with SIZE_CLAMPED, and its shadow. -/
structure Layer where
  now : LayerSet
  next : LayerSet
  clamped : Bool
  deriving DecidableEq, Repr

/-- A layer after reset. -/
def Layer.reset : Layer := ⟨.reset, .reset, false⟩

/-- A layer as one wall frame composes it (R308): its settings, the format of its source, the source frame that its store
gives, whether the source is present, the pipe, and the words of its profile in effect. -/
structure WallLayer where
  idx : Nat
  set : LayerSet
  fmt : Nat
  lines : List PoolLine
  present : Bool
  pipe : Nat
  prof1 : Word
  prof2 : Word
  deriving DecidableEq, Repr

/-- The state of a wall frame fixed at S(N) (R308): REF_TD_FRAME, S(N), the background, its layers in blending order, the
Safelight layer, the bands composed, the bands that were late, and the band slots opened. -/
structure WallFrame where
  frame : Word
  shutter : Int
  bg : Nat × Nat × Nat
  layers : List WallLayer
  safe : LayerSet
  done : List Nat
  late : List Nat
  sent : List Nat
  deriving DecidableEq, Repr

/-- What the compositor holds beside its registers: the layers, 16 the Safelight layer; the profile committed for a VOUT's
pipe and the one that waits; the words of the profile in effect for each pipe user, VOUT o or 1,024 + layer (R300); logical
pipes whose unit failed during the frame of their user (R295); the wall frame whose
Shutter fell last, and the one before; the frame being captured, once it has begun; the unit that PIPE_ERR last named. -/
structure WcompState where
  layer : AMap Layer
  prof : AMap Nat
  profNext : AMap Nat
  profIn : AMap (Word × Word)
  out : List Nat
  cur : Option WallFrame
  last : Option WallFrame
  capFrame : Option Word
  errUnit : Nat
  deriving DecidableEq, Repr

/-- The compositor after reset. -/
def WcompState.reset : WcompState := ⟨.empty, .empty, .empty, .empty, [], none, none, none, 0⟩

/-! ### Wall scan-out and tiles (chapter 13) -/

/-- An IDREAD that waits for its answer (R333): its tag, offset and length, how often it was sent, and when last. -/
structure IdRead where
  tag : Nat
  offset : Nat
  len : Nat
  sends : Nat
  at_ : Nat
  deriving DecidableEq, Repr

/-- A tile's loading (R332, R381): the record's length, the reads outstanding, the next offset to read, the bytes that
have come as (offset, bytes), whether the header has passed its checks, and
the serial number that IDENT gave. -/
structure TileLoad where
  len : Nat
  reads : List IdRead
  next : Nat
  got : List (Nat × List Byte)
  headOk : Bool
  serial : Nat
  deriving DecidableEq, Repr

/-- What the scan-out block holds of a tile beside its registers: consecutive reports in lock and out of it (R332); the
instant of its last report (always-on ns); the start of the cool window of R335; whether a sensor report has come since the
last tick; the frame it last latched; the first frame sent to it since it entered RUNNING; its loading. -/
structure TileRun where
  inSync : Nat
  outSync : Nat
  lastRep : Nat
  cool : Option Nat
  sensed : Bool
  latched : Nat
  runFrom : Word
  load : Option TileLoad
  deriving DecidableEq, Repr

/-- A tile with no report. -/
def TileRun.reset : TileRun := ⟨0, 0, 0, none, false, 0, 0, none⟩

/-- A Proof signature's run (R338, R339): the frame count of the last Proof frame, and whether one has been taken. -/
structure ProofRun where
  frame : Nat
  taken : Bool
  deriving DecidableEq, Repr

/-- What the scan-out block holds beside its registers: tiles; per port the count of frames sent (SEQ), the frames that it
has put on the wire in the event in progress, newest first, and the next TAG; Proof runs by region, and by 64 + layer; the
layers whose source advanced in this wall frame and in the one before (R339); the Event Time full time of the last loop tick. -/
structure WscanState where
  tile : AMap TileRun
  seq : AMap Nat
  sent : AMap (List (List Byte))
  tag : AMap Nat
  proof : AMap ProofRun
  advanced : List Nat
  advLast : List Nat
  loopAt : Int
  deriving DecidableEq, Repr

/-- The scan-out block after reset. -/
def WscanState.reset : WscanState := ⟨.empty, .empty, .empty, .empty, .empty, [], [], 0⟩

/-! ### Control processors and the bus (chapter 14) -/

/-- A transaction that a master waits on: what it is, and the always-on instant of its issue. -/
structure BusReq where
  op : BusOp
  since : Nat
  deriving DecidableEq, Repr

/-- A locked sequence at a port (R352): its master, its transaction, and when its read was granted. -/
structure BusLock where
  master : Nat
  op : BusOp
  since : Nat
  deriving DecidableEq, Repr

/-- A DMA channel that runs: the descriptor it works on. -/
structure DmaDesc where
  src : Nat
  dst : Nat
  len : Nat
  flags : Nat
  next : Nat
  deriving DecidableEq, Repr

/-- What the bus matrix and DMA hold beside their registers: the transaction of each master; per port, 0 REG to 4 MGB, the
round-robin pointer and the locked sequence; the masters stalled (R355); the descriptors of running channels. -/
structure BusState where
  req : AMap BusReq
  turn : AMap Nat
  lock : AMap BusLock
  stalled : List Nat
  dma : AMap DmaDesc
  deriving DecidableEq, Repr

/-- The bus after reset. -/
def BusState.reset : BusState := ⟨.empty, .empty, .empty, [], .empty⟩

/-! ### Management ports (chapter 15) -/

/-- What the MGMT block holds beside its registers: the end of each port's pause (always-on ns); the ports whose
auto-negotiation is refused (R362). -/
structure MgmtState where
  pause : AMap Nat
  anBad : List Nat
  deriving DecidableEq, Repr

/-- The MGMT block after reset. -/
def MgmtState.reset : MgmtState := ⟨.empty, []⟩
/-! ### The SENSE snapshot (R203, R236) -/

/-- What SENSE reads at O(N) of a domain: the parts of the state that the sensed registers come from, Φ(N), the input
levels of the GPIO pins, CUE_LOAD of each domain, and the objects of the entries visible to the frame. -/
structure CueSnap where
  regs : AMap Word
  eff : AMap Word
  owner : AMap Nat
  ref : RefState
  ptp : PtpState
  ul : AMap UlLink
  sdi : SdiState
  mport : MportState
  xpt : XptState
  aud : AudState
  wscan : WscanState
  phi : Word
  gpi : Word
  load : List Nat
  vis : List Nat
  deriving DecidableEq, Repr

/-! ### OTP, identity, clocks, reset control, HBM and firmware (chapters 16 to 21) -/

/-- The OTP area: the life-cycle bits and MC (R418); key hashes by slot, revoke bits and the SVN count (R469, R475); the
maintenance key's hash (R420); the retire map (R450); the grade and the unique number; the factory words of CAL_OSC,
CAL_REPAIR, CAL_LANE_TXF and CAL_TS_F by register key (R383); the spare rows of each HBM stack (R445). -/
structure OtpState where
  lcProv : Bool
  lcServ : Bool
  lcDecom : Bool
  mc : Nat
  keyHash : AMap (BitVec 384)
  revoked : Nat
  svn : Nat
  maint : BitVec 384
  retired : List Nat
  gradeX : Bool
  uid : Nat
  fact : AMap Word
  rows : Nat × Nat
  deriving DecidableEq, Repr

/-- A blank OTP area (DESIGN CHOICE, notes/assumptions/5.md). -/
def OtpState.reset : OtpState := ⟨false, false, false, 0, .empty, 0, 0, 0, [], false, 0, .empty, (0, 0)⟩

/-- A read command of an identity master in progress (R376). -/
structure IdmJob where
  site : Nat
  dev : Nat
  off : Nat
  len : Nat
  deriving DecidableEq, Repr

/-- The identity masters: the command in progress on each; the bytes last written on each bus, as device address and bytes
(R374, R375). -/
structure IdmState where
  job : AMap IdmJob
  wrote : AMap (List (Nat × List Byte))
  deriving DecidableEq, Repr

/-- The identity masters after reset. -/
def IdmState.reset : IdmState := ⟨.empty, .empty⟩

/-- Clocks and temperature: restarts of each block PLL since it last locked, by clock domain (R392); PLLs left stopped; HBM
stacks placed in self-refresh (R393); readings in a row at or above the trip temperature (R399). -/
structure ClkState where
  tries : AMap Nat
  dead : List Nat
  asleep : List Nat
  hot : Nat
  deriving DecidableEq, Repr

/-- Clocks after reset. -/
def ClkState.reset : ClkState := ⟨.empty, [], [], 0⟩

/-- Reset control (R403 to R417): the level of the reset in progress (0 none, 2 core, 3 system, 4 power-on); the sources
still asserted, by bit of RST_CAUSE; the always-on instant at which the stretch ends; the confined resets in progress, by
core, with the ends of their stretches; the harts that wait for their release, and whether a start begins with it; whether a
start runs, and since when; whether the watchdog runs, its last kick, and its last expiry; the core reset is an activation's
(R471). -/
structure RstState where
  level : Nat
  held : List Nat
  relAt : Nat
  conf : AMap Nat
  harts : List Nat
  begins : Bool
  inStart : Bool
  startAt : Nat
  wdtOn : Bool
  kickAt : Nat
  expiredAt : Option Nat
  activating : Bool
  deriving DecidableEq, Repr

/-- Reset control at the release of a power-on reset: its release sequence (R412, from step 3) comes next. -/
def RstState.reset : RstState :=
  { level := 4, held := [], relAt := 0, conf := .empty, harts := [], begins := false, inStart := false, startAt := 0,
    wdtOn := false, kickAt := 0, expiredAt := none, activating := false }

/-- The HBM arbiters (R438): round-robin pointers by 4 × pseudo-channel + urgency, and the requester last granted by each
pseudo-channel; stacks that trained; stacks that do not answer. -/
structure HbmState where
  turn : AMap Nat
  granted : AMap Nat
  trained : List Nat
  failed : List Nat
  deriving DecidableEq, Repr

/-- HBM after reset. -/
def HbmState.reset : HbmState := ⟨.empty, .empty, [], []⟩

/-- A firmware command in progress (R480): its OP, SECTOR, the slot it works on, and the header and data bytes that the
command found in FWU_PHDR and FWU_PBUF. -/
structure FwuJob where
  op : Nat
  sector : Nat
  slot : Nat
  bytes : List Byte
  deriving DecidableEq, Repr

/-- Firmware update: the command in progress; the slot that runs, in TRIAL or not; slots preloaded (R469); the activation
instant X, `none` for an armed one that acts at once (R473). -/
structure FwuState where
  job : Option FwuJob
  running : Option Nat
  trial : Bool
  preloaded : List Nat
  armed : Option (Option Nat)
  deriving DecidableEq, Repr

/-- Firmware update after reset. -/
def FwuState.reset : FwuState := ⟨none, none, false, [], none⟩

/-! ### What escalation acts on (chapter 19) -/

/-- What a failed unit's block has no register for (R431): transmit PLLs that lost lock since PLL_LOST was last cleared, by
unit index, and links that went down since LINK_DOWN was. -/
structure EscRecord where
  pll : List Nat
  link : List Nat
  deriving DecidableEq, Repr

/-- Nothing failed. -/
def EscRecord.reset : EscRecord := ⟨[], []⟩

/-! ### The machine -/

/-- The state of the block. -/
structure State where
  /-- the commands that wait, first in, first out -/
  pending : List Instr
  /-- the register file: a register element that no entry names holds its reset word -/
  regs : AMap Word
  /-- the values in effect of RWS fields (R2); where no entry names an element, its reset word -/
  eff : AMap Word
  /-- the latched high halves of R5, until the next read of the high register takes them -/
  latch : AMap Word
  /-- the fault registers of each block, by block index -/
  flt : AMap FaultSet
  /-- the MODEL's own field: how many free values the step has taken (notes/assumptions/2.md) -/
  free : Nat
  /-- time of the always-on domain since power-on, in ns -/
  now : Nat
  /-- byte memory at the physical addresses of R29 -/
  mem : Memory
  /-- ALERT_N driven low (R433) -/
  alertLow : Bool
  /-- the last response each bus master has, by master number (R349) -/
  resp : AMap BusResp
  /-- Reference Unit -/
  ref : RefState
  /-- timing domains, by number -/
  td : AMap TdState
  /-- the REF_OUT pin -/
  refOut : RefOutPin
  /-- network time -/
  ptp : PtpState
  /-- the last unit each transmitter put on its lane (0–127), management port (128, 129) -/
  wire : AMap (List Byte)
  /-- quads of lanes, by number -/
  quad : AMap QuadState
  /-- Uhlat links, by number, and their streams, by 24·l + s -/
  ul : AMap UlLink
  ulRx : AMap UlStream
  /-- lane receivers, by lane -/
  laneRx : AMap LaneRx
  /-- SDI deframers and framers -/
  sdi : SdiState
  /-- IP media ports -/
  mport : MportState
  /-- the Flow Table -/
  flow : FlowState
  /-- the crosspoint and the Line Pool -/
  xpt : XptState
  /-- the thread that owns an object, by its object code (R196, R197) -/
  owner : AMap Nat
  /-- the Cue Engine -/
  cue : CueState
  /-- the Take and Tally Bus -/
  ttb : TtbState
  /-- the Vault and the BIST queue -/
  vault : VaultState
  /-- the Audio Engine -/
  aud : AudState
  /-- the compositor and the Picture Pipes -/
  wcomp : WcompState
  /-- scan-out and the Tile Link -/
  wscan : WscanState
  /-- the bus matrix and DMA -/
  bus : BusState
  /-- management ports -/
  mgmt : MgmtState
  /-- the SENSE snapshot of each domain's open frame -/
  snap : AMap CueSnap
  /-- the OTP area -/
  otp : OtpState
  /-- the identity masters -/
  idm : IdmState
  /-- clocks and temperature -/
  clk : ClkState
  /-- reset control -/
  rst : RstState
  /-- the HBM arbiters -/
  hbm : HbmState
  /-- firmware update -/
  fwu : FwuState
  /-- failed units that have no register of their own -/
  esc : EscRecord
  deriving DecidableEq, Repr

/-- The state at the release of a power-on reset: every register at the value of its Reset column (R517), nothing in
memory, no command waiting. -/
def State.reset : State :=
  { pending := [],
    regs := .empty,
    eff := .empty,
    latch := .empty,
    flt := .empty,
    free := 0,
    now := 0,
    mem := .empty,
    alertLow := false,
    resp := .empty,
    ref := .reset,
    td := .empty,
    refOut := ⟨false, false, none⟩,
    ptp := .reset,
    wire := .empty,
    quad := .empty,
    ul := .empty,
    ulRx := .empty,
    laneRx := .empty,
    sdi := .reset,
    mport := .reset,
    flow := .reset,
    xpt := .reset,
    owner := .empty,
    cue := .reset,
    ttb := .reset,
    vault := .reset,
    aud := .reset,
    wcomp := .reset,
    wscan := .reset,
    bus := .reset,
    mgmt := .reset,
    snap := .empty,
    otp := .reset,
    idm := .reset,
    clk := .reset,
    rst := .reset,
    hbm := .reset,
    fwu := .reset,
    esc := .reset }

/-- Why a command stops the machine.  No command of this block does: the manual gives every one of them an effect. -/
inductive Fault where
  /-- Raised by nothing; the type has a name because the interface asks for one. Safe. -/
  | none_
  deriving DecidableEq, Repr

/-- Why a command has no meaning in this model. -/
inductive Refusal where
  /-- The command of this mnemonic has no meaning yet; raised by its arm of `exec` alone. Safe. -/
  | notModelled (mnemonic : String)
  deriving DecidableEq, Repr

/-- The outcome of a command. -/
abbrev Out := Host.Outcome State Fault Refusal

end Sys2Proof.Machine
end

