-- ==== Sys2Proof/Machine/Ops.lean ====
section
/-!
DEFINITION. The named operations over the state: registers and their fields, counters, writes by type code (R2, R3, R6,
R516), fault sources and ALERT_N (R423 to R433), memory, free values, and the passing of time (R64, R68, R73).
-/

namespace Sys2Proof

/-- A word with one of its fields replaced. -/
def Fld.put (f : Fld) (w : Word) (v : Nat) : Word := BitVec.ofNat 32 (putBits w.toNat f.lo f.len v)

/-- The value of a field in a word. -/
def Fld.of (f : Fld) (w : Word) : Nat := bitsOf w.toNat f.lo f.len

/-- The bits of a register whose fields satisfy a test. -/
def RegName.bitsWhere (r : RegName) (p : FieldInfo → Bool) : Word :=
  BitVec.ofNat 32 (r.info.fields.foldl (fun m f => if p f then m + maskOf f.hi f.lo else m) 0)

/-- The bits of a register of one type code. -/
def RegName.typeMask (r : RegName) (t : FTy) : Word := r.bitsWhere (fun f => decide (f.ty = t))

/-- A word as R2 and R3 let a write leave it: RW and RWS bits take the written value, bits written 1 are cleared under
W1C and set under W1S, and every other bit stays. -/
def RegName.written (r : RegName) (old v : Word) : Word :=
  let rw := r.typeMask .rw ||| r.typeMask .rws
  let w := (old &&& ~~~ rw) ||| (v &&& rw)
  (w &&& ~~~ (v &&& r.typeMask .w1c)) ||| (v &&& r.typeMask .w1s)

/-- Memory with a range cleared to what an unlisted address reads as. -/
def Memory.clearRange (m : Memory) (lo hi : Nat) : Memory :=
  ⟨m.cells.filter (fun c => decide (c.1 < lo) || decide (hi ≤ c.1))⟩

/-- The byte offset of a flat index in a register's index dimensions, the last index running fastest. -/
def dimOffset : List (Nat × Nat) → Nat → Nat
  | [], _ => 0
  | [(_, stride)], i => i * stride
  | (_, stride) :: rest, i =>
    let inner := rest.foldl (fun a d => a * d.1) 1
    i / inner * stride + dimOffset rest (i % inner)

/-- The bus address of a register element (R29, R30). -/
def RegName.addr (r : RegName) (i : Nat) : Nat :=
  0x2000000000 + r.blk.index * 0x1000000 + r.info.off + dimOffset r.info.dims i

end Sys2Proof

namespace Sys2Proof.Machine

/-! ### Registers -/

/-- The key of a register element in the register file. -/
def regKey (r : RegName) (i : Nat) : Nat := i * 1024 + r.code

/-- The word a register element holds. -/
def State.reg (s : State) (r : RegName) (i : Nat) : Word := s.regs.get (r.resetWord i) (regKey r i)

/-- The state with a register element set. -/
def State.setReg (s : State) (r : RegName) (i : Nat) (v : Word) : State :=
  { s with regs := s.regs.set (regKey r i) v }

/-- The value of a field. -/
def State.fld (s : State) (f : Fld) (i : Nat) : Nat := bitsOf (s.reg f.reg i).toNat f.lo f.len

/-- A one-bit field as a truth value. -/
def State.flag (s : State) (f : Fld) (i : Nat) : Bool := s.fld f i != 0

/-- The state with a field set, the register's other bits kept. -/
def State.setFld (s : State) (f : Fld) (i : Nat) (v : Nat) : State :=
  s.setReg f.reg i (f.put (s.reg f.reg i) v)

/-- The state with a one-bit field set from a truth value. -/
def State.setFlag (s : State) (f : Fld) (i : Nat) (b : Bool) : State := s.setFld f i (b2n b)

/-- The value in effect of an RWS field (R2). -/
def State.effReg (s : State) (r : RegName) (i : Nat) : Word := s.eff.get (r.resetWord i) (regKey r i)

/-- The value in effect of one RWS field. -/
def State.effFld (s : State) (f : Fld) (i : Nat) : Nat := bitsOf (s.effReg f.reg i).toNat f.lo f.len

/-- The shadow of a register element takes effect. -/
def State.commitReg (s : State) (r : RegName) (i : Nat) : State :=
  { s with eff := s.eff.set (regKey r i) (s.reg r i) }

/-- An event counter counts `n` events, saturating at all ones (R6). -/
def State.bumpN (s : State) (r : RegName) (i n : Nat) : State :=
  s.setReg r i (BitVec.ofNat 32 (min (2 ^ 32 - 1) ((s.reg r i).toNat + n)))

/-- An event counter counts one event. -/
def State.bump (s : State) (r : RegName) (i : Nat) : State := s.bumpN r i 1

/-- A 64-bit event counter counts one event, saturating (R5, R6). -/
def State.bump64 (s : State) (lo hi : RegName) (i : Nat) : State :=
  let v := (s.reg lo i).toNat + (s.reg hi i).toNat * 2 ^ 32
  let w := min (2 ^ 64 - 1) (v + 1)
  (s.setReg lo i (BitVec.ofNat 32 w)).setReg hi i (BitVec.ofNat 32 (w / 2 ^ 32))

/-- A write that acts on the fields by their type codes alone (R2, R6). -/
def plainWrite (r : RegName) (i : Nat) (v : Word) (s : State) : State :=
  match r.info.kind with
  | .plain => s.setReg r i (r.written (s.reg r i) v)
  | .counter => s.setReg r i 0
  | .ctrLo =>
    match RegName.ofCode (r.code + 1) with
    | some hi => (s.setReg r i 0).setReg hi i 0
    | none => s.setReg r i 0
  | .ctrHi => s

/-- A write would change a field's value (R516). -/
def changes (f : Fld) (s : State) (i : Nat) (v : Word) : Bool := decide (f.of v ≠ s.fld f i)

/-! ### Fault sources (chapter 19) -/

/-- The fault registers of a block. -/
def State.faults (s : State) (b : Blk) : FaultSet := s.flt.get (FaultSet.reset b) b.index

/-- The state with a block's fault registers replaced. -/
def State.setFaults (s : State) (b : Blk) (f : FaultSet) : State := { s with flt := s.flt.set b.index f }

/-- TEST_ESC of FESC_CFG. -/
def FaultSet.testEsc (f : FaultSet) : Bool := f.cfg.getLsbD 16

/-- PERIOD of FESC_CFG, in ms. -/
def FaultSet.period (f : FaultSet) : Nat := bitsOf f.cfg.toNat 0 16

/-- UNIT of FESC_CFG. -/
def FaultSet.unit (f : FaultSet) : Nat := bitsOf f.cfg.toNat 20 7

/-- The sources that escalate (R428): really asserted, or forced while TEST_ESC = 1. -/
def FaultSet.escalating (f : FaultSet) : Word := if f.testEsc then f.fstat else f.fstat &&& f.freal

/-- The sources that are pending (R427): SERVICE, set, escalating, and not yet acted on. -/
def FaultSet.pendingSrc (f : FaultSet) : Word := f.fstat &&& f.fen &&& f.escalating &&& ~~~ f.acted

/-- The interrupt of a block (R426). -/
def State.irq (s : State) (b : Blk) : Bool := ((s.faults b).fstat &&& (s.faults b).fen) != 0

/-- E of R427: the first edge of the 32.768 kHz clock at which `ms` have passed since `start` (edges at k × 10⁹ / 32,768
ns of the always-on time). -/
def escalationEdge (start ms : Nat) : Nat := ceilDiv (ceilDiv ((start + ms * 1000000) * 64) 1953125 * 1953125) 64

/-- One assertion of a source in a block's fault registers, real or forced (R424, R427, R428). -/
def FaultSet.assert (f : FaultSet) (real : Bool) (m : Word) (now : Nat) : FaultSet :=
  let fresh := f.fstat &&& m == 0
  let g := { f with
    fstat := f.fstat ||| m
    freal := if real then f.freal ||| m else f.freal
    acted := if fresh then f.acted &&& ~~~ m else f.acted
    forced := if real then f.forced else f.forced ||| m }
  let starts := (f.pendingSrc &&& m == 0) && (g.pendingSrc &&& m != 0) && f.expiry.isNone
  { g with expiry := if starts then some (escalationEdge now f.period) else f.expiry }

/-- A block's interrupt that GPIO_ALERT_CFG.BLK_MASK names is 1. -/
def State.maskedIrq (s : State) : Bool :=
  Blk.all.any (fun b => bit (s.fld F.GPIO_ALERT_CFG_BLK_MASK 0) b.index && s.irq b)

/-- A thermal trip holds (R399) or the part is in Darkroom mode (R416). -/
def State.alertForced (s : State) : Bool := s.flag F.PWR_THERM_STAT_TRIPPED 0 || s.flag F.RST_STAT_DARKROOM 0

/-- The causes of R433 that drive ALERT_N low while EN = 1. -/
def State.alertCause (s : State) : Bool :=
  s.maskedIrq || (s.flag F.GPIO_ALERT_CFG_ON_ESC 0 && s.flag F.GPIO_ALERT_STAT_ESC_S 0)
    || s.flag F.GPIO_ALERT_CFG_ASSERT 0

/-- The level that ALERT_N takes now: low when forced; under R433 while EN = 1; otherwise the level it has. -/
def State.alertNext (s : State) : Bool :=
  if s.alertForced then true else if s.flag F.GPIO_ALERT_CFG_EN 0 then s.alertCause else s.alertLow

/-- ALERT_N follows its causes; going low asserts GPIO ALERT (R433, R435). -/
def alertUpdate (s : State) : State :=
  let n := s.alertNext
  let t := { s with alertLow := n }
  if n && !s.alertLow then t.setFaults .GPIO ((t.faults .GPIO).assert true Src.GPIO_ALERT.mask t.now) else t

/-- A source is really asserted (R424). -/
def State.raise (s : State) (x : Src) : State :=
  alertUpdate (s.setFaults x.blk ((s.faults x.blk).assert true x.mask s.now))

/-- A source is asserted when a condition holds. -/
def State.raiseIf (s : State) (c : Bool) (x : Src) : State := if c then s.raise x else s

/-- A write is ignored whole and the block's CFG_REJECT is set once (R516). -/
def State.reject (s : State) (b : Blk) : State := s.raise ⟨b, b.cfgReject⟩

/-- A write of a register that is ignored when `bad` holds and acts by its type codes otherwise (R2, R516). -/
def guardedWrite (bad : Bool) (r : RegName) (i : Nat) (v : Word) (s : State) : State :=
  if bad then s.reject r.blk else plainWrite r i v s

/-! ### Free values -/

/-- The next free natural number, and the state that has taken it. -/
def State.freeNat (s : State) : Nat × State := (Config.freeNat s.free, { s with free := s.free + 1 })

/-- The next free truth value, and the state that has taken it. -/
def State.freeBool (s : State) : Bool × State := (Config.freeBool s.free, { s with free := s.free + 1 })

/-- A quotient shown as a whole number: exact where it is whole; where the manual states no rounding, one of the two
neighbours, freely (notes/assumptions/6.md). -/
def State.divFree (s : State) (num : Int) (den : Nat) : Int × State :=
  if num % (den : Int) = 0 then (num / (den : Int), s)
  else
    let (up, t) := s.freeBool
    (num / (den : Int) + (if up then 1 else 0), t)

/-! ### Memory -/

/-- The state with bytes written from a physical address up. -/
def State.store (s : State) (a : Nat) (bs : List Byte) : State := { s with mem := s.mem.writeBytes a bs }

/-- Bytes at a physical address. -/
def State.load (s : State) (a n : Nat) : List Byte := s.mem.readBytes a n

/-- The bytes a transmitter last put on its lane or port. -/
def State.send (s : State) (p : Nat) (bs : List Byte) : State := { s with wire := s.wire.set p bs }

/-! ### Time -/

/-- A PTP domain. -/
def State.dom (s : State) (d : Nat) : PtpDom := s.ptp.dom.get .reset d

/-- The state with a PTP domain replaced. -/
def State.setDom (s : State) (d : Nat) (x : PtpDom) : State :=
  { s with ptp := { s.ptp with dom := s.ptp.dom.set d x } }

/-- The selected domain, CUR_DOM. -/
def State.curDom (s : State) : Nat := s.fld F.PTP_ET_STAT_CUR_DOM 0

/-- ET_VALID (R69). -/
def State.etValid (s : State) : Bool := s.flag F.PTP_ET_STAT_ET_VALID 0

/-- The Event Time full time T_sel − R (R68). -/
def State.etFull (s : State) : Int := ((s.dom s.curDom).time : Int) - s.ptp.resid

/-- Event Time: the full time modulo 2^48 (R68). -/
def State.et (s : State) : Nat := unsign 48 s.etFull

/-- A domain clock runs: not in DISABLED, or the selected one before ET_VALID, which counts at the nominal rate (R65, R69;
notes/assumptions/7.md). -/
def State.domRuns (s : State) (d : Nat) : Bool :=
  s.fld F.PTP_DOM_STAT_STATE d != 0 || (d == s.curDom && !s.etValid)

/-- A domain clock after `ns` of the oscillator: nominal rate × (1 − y × 10⁻⁹), y in 1/16 ppb (R64). -/
def PtpDom.run (x : PtpDom) (y16 : Int) (ns : Nat) : PtpDom :=
  let num := x.frac + (ns : Nat) * (16000000000 - y16).toNat
  { x with time := x.time + num / 16000000000, frac := num % 16000000000 }

/-- The clock of domain `d` after `ns`. -/
def State.runDom (s : State) (d ns : Nat) : State :=
  if s.domRuns d then s.setDom d ((s.dom d).run (signed 32 (s.reg .PTP_DOM_FREQ d).toNat) ns) else s

/-- R after `ns` of slewing toward 0 at SLEW_NS ns per second (R73): the residual and the fraction left over. -/
def slewResid (r : Int) (frac rate ns : Nat) : Int × Nat :=
  let num := frac + ns * rate
  let step := num / 1000000000
  if r.natAbs ≤ step then (0, 0)
  else (if r < 0 then r + step else r - step, num % 1000000000)

/-- R is slewed; reaching 0 sets ET_SWITCH (R73). -/
def slewEt (ns : Nat) (s : State) : State :=
  if s.ptp.resid = 0 then s
  else
    let (r, f) := slewResid s.ptp.resid s.ptp.rfrac (s.fld F.PTP_ET_CFG_SLEW_NS 0) ns
    let t := { s with ptp := { s.ptp with resid := r, rfrac := f } }
    if r = 0 then t.raise Src.PTP_ET_SWITCH else t

/-- `ns` pass: the always-on time, both domain clocks and the residual of Event Time move on. -/
def elapse (ns : Nat) (s : State) : State :=
  slewEt ns ((({ s with now := s.now + ns }).runDom 0 ns).runDom 1 ns)

/-- Time passes up to an instant of Event Time full time, if it lies ahead (notes/assumptions/8.md). -/
def passTo (t : Int) (s : State) : State :=
  let d := (t - s.etFull).toNat
  let y := signed 32 (s.reg .PTP_DOM_FREQ s.curDom).toNat
  elapse (ceilDiv (d * 16000000000) (16000000000 - y).toNat) s

/-- Time passes up to an instant of the always-on clock, if it lies ahead. -/
def passToNow (t : Nat) (s : State) : State := elapse (t - s.now) s

/-- The signed 48-bit difference of two Event Time values (R70). -/
def etDiff (a b : Nat) : Int := signed 48 (unsign 48 ((a : Int) - b))

/-- X is reached at `now` (R70): the difference is 0 or more, or is −2^47. -/
def etReached (now x : Nat) : Bool := decide (unsign 48 ((now : Int) - x) ≤ 2 ^ 47)

/-- X lies before the instant `e`, that is, `e` is later: not (X at or after e) (R10, R70). -/
def etBefore (x e : Nat) : Bool := etReached e x && x % 2 ^ 48 != e % 2 ^ 48

/-! ### Responses -/

/-- A master has data from a read. -/
def State.respond (s : State) (m : Nat) (v : Nat) : State := { s with resp := s.resp.set m ⟨v, false⟩ }

/-- A master has an error response. -/
def State.respondErr (s : State) (m : Nat) : State := { s with resp := s.resp.set m ⟨0, true⟩ }

/-- Set several fields in a row. -/
def State.setFlds (s : State) (i : Nat) : List (Fld × Nat) → State
  | [] => s
  | (f, v) :: t => (s.setFld f i v).setFlds i t

/-- BUS_FAULT_LAST and BUS_FAULT_ADDR of a fault: master, CAUSE, write, address (R360). -/
def noteBusFault (m cause : Nat) (write : Bool) (a : Nat) (s : State) : State :=
  s.setFlds 0 [(F.BUS_FAULT_LAST_MASTER, m), (F.BUS_FAULT_LAST_CAUSE, cause), (F.BUS_FAULT_LAST_WRITE, b2n write),
    (F.BUS_FAULT_ADDR_LO_ADDR, a), (F.BUS_FAULT_ADDR_HI_ADDR, a / 2 ^ 32)]

/-- An access that its rights forbid is discarded, recorded and counted (R353). -/
def denyAccess (m : Nat) (write : Bool) (a : Nat) (s : State) : State :=
  ((noteBusFault m 4 write a s).bump .BUS_DENY_CNT 0).raise Src.BUS_ACCESS_DENY

/-- A write by a master acts, but one by DBG that R353 denies: those in PROVISIONED, SERVICE and DECOMMISSIONED. -/
def byMaster (m : Nat) (r : RegName) (i : Nat) (f : State → State) (s : State) : State :=
  if m = 7 ∧ s.fld F.RST_STAT_LC 0 ≠ 0 ∧ s.fld F.RST_STAT_LC 0 ≠ 3 then denyAccess m true (r.addr i) s else f s

end Sys2Proof.Machine
end

