-- ==== Sys2Proof/Machine/Ptp.lean ====
section
/-!
DEFINITION. Network time and Event Time (chapter 03): the two slave domains with their servos (R60 to R67), the choice of
Event Time's domain and its slewing (R68 to R76), the master on the tile links (R77), and the time-stamp queues (R80, R81).
-/

namespace Sys2Proof.Machine

/-! ### Domain clocks and Event Time -/

/-- The state code of a domain (R65): 0 DISABLED, 1 LISTENING, 2 ACQUIRING, 3 LOCKED, 4 HOLDOVER. -/
def State.ptpState (s : State) (d : Nat) : Nat := s.fld F.PTP_DOM_STAT_STATE d

/-- A fault source of domain A, or the same source of domain B, four bits up. -/
def ptpSrc (d k : Nat) : Src := ⟨.PTP, 4 * d + k⟩

/-- R takes a value; exceeding 1 s asserts ET_FAR (R75). -/
def setResid (r : Int) (s : State) : State :=
  let t := { s with ptp := { s.ptp with resid := r, rfrac := 0 } }
  t.raiseIf (decide (1000000000 < r.natAbs) && decide (s.ptp.resid.natAbs ≤ 1000000000)) Src.PTP_ET_FAR

/-- The clock of domain `d` steps by `k` ns (R66). While ET_VALID, a step of the selected clock is added to R (R75). -/
def stepDomClock (d : Nat) (k : Int) (s : State) : State :=
  let x := s.dom d
  let t := s.setDom d { x with time := ((x.time : Int) + k).toNat }
  if d = s.curDom ∧ s.etValid then setResid (s.ptp.resid + k) t else t

/-- The frequency correction of domain `d` is `y` in units of 2^-32 ppb; PTP_DOM_FREQ shows it in 1/16 ppb (R64). -/
def setFreq (d : Nat) (y : Int) (s : State) : State :=
  let (q, t) := s.divFree y (2 ^ 28)
  t.setReg .PTP_DOM_FREQ d (BitVec.ofInt 32 q)

/-- The domain clock runs at y = I (R65). -/
def holdFreq (d : Nat) (s : State) : State := setFreq d (s.dom d).integ s

/-- A domain leaves its state for another: the counts of R66 start again; leaving LOCKED asserts x_UNLOCK (R66, R83). -/
def setPtpState (d st : Nat) (s : State) : State :=
  let t := (s.setFld F.PTP_DOM_STAT_STATE d st).setDom d { s.dom d with inLock := 0, outLock := 0 }
  t.raiseIf (s.ptpState d == 3 && st != 3) (ptpSrc d 1)

/-- LISTENING becomes ACQUIRING once a master is selected and an MPD exists (R66). -/
def tryAcquire (d : Nat) (s : State) : State :=
  if s.ptpState d = 1 ∧ (s.dom d).master.isSome ∧ (s.dom d).delays ≠ [] then setPtpState d 2 s else s

/-- ACQUIRING or LOCKED becomes HOLDOVER: x_HOLDOVER, LOST_CNT, y = I (R65, R66). -/
def enterPtpHoldover (d : Nat) (s : State) : State :=
  if s.ptpState d = 2 ∨ s.ptpState d = 3 then
    holdFreq d (((setPtpState d 4 s).raise (ptpSrc d 2)).bump .PTP_DOM_LOST_CNT d)
  else s

/-- ACQUIRING becomes LOCKED: x_LOCK; the first lock of the selected domain sets ET_VALID and ET_SET (R66, R69). -/
def enterPtpLocked (d : Nat) (s : State) : State :=
  let t := (setPtpState d 3 s).raise (ptpSrc d 0)
  if d = t.curDom ∧ !t.etValid then (t.setFlag F.PTP_ET_STAT_ET_VALID 0 true).raise Src.PTP_ET_SET else t

/-! ### The servo -/

/-- FREQ_MAX in units of 2^-32 ppb. -/
def State.freqMax (s : State) (d : Nat) : Int := (s.fld F.PTP_SERVO_FMAX_FREQ_MAX d : Int) * 2 ^ 32

/-- The PI servo takes an offset θ in 2^-16 ns (R64). -/
def servoUpdate (d : Nat) (th : Int) (s : State) : State :=
  let i := clampSym (s.freqMax d) ((s.dom d).integ + (s.reg .PTP_SERVO_KI d).toNat * th)
  let y := clampSym (s.freqMax d) ((s.reg .PTP_SERVO_KP d).toNat * th + i)
  setFreq d y (s.setDom d { s.dom d with integ := i })

/-- LOCK_THRESH in 2^-16 ns. -/
def State.lockThresh (s : State) (d : Nat) : Nat := s.fld F.PTP_SERVO_THR_LOCK_THRESH d * 2 ^ 16

/-- STEP_THRESH, in µs, in 2^-16 ns. -/
def State.stepThresh (s : State) (d : Nat) : Nat := s.fld F.PTP_SERVO_THR_STEP_THRESH d * 1000 * 2 ^ 16

/-- The lock decision of ACQUIRING: sixteen offsets in a row below LOCK_THRESH (R66). -/
def acquiringOffset (d : Nat) (th : Int) (s : State) : State :=
  let n := if th.natAbs < s.lockThresh d then (s.dom d).inLock + 1 else 0
  if 16 ≤ n then enterPtpLocked d s else s.setDom d { s.dom d with inLock := n }

/-- The unlock decision of LOCKED: eight offsets in a row above four times LOCK_THRESH (R66). -/
def lockedOffset (d : Nat) (th : Int) (s : State) : State :=
  let n := if 4 * s.lockThresh d < th.natAbs then (s.dom d).outLock + 1 else 0
  if 8 ≤ n then setPtpState d 2 s else s.setDom d { s.dom d with outLock := n }

/-- The clock steps by −θ, shown rounded in `q`; STEP_CNT, x_STEP, I kept (R66). -/
def servoStep (d : Nat) (q : Int) (s : State) : State :=
  ((stepDomClock d (-q) (s.setDom d { s.dom d with inLock := 0 })).bump .PTP_DOM_STEP_CNT d).raise (ptpSrc d 3)

/-- An offset acts on the servo and its state (R64 to R66). -/
def servoOffset (d : Nat) (th q : Int) (s : State) : State :=
  let t := if s.ptpState d = 4 then setPtpState d 2 s else s
  if t.ptpState d = 2 then
    if t.stepThresh d < th.natAbs then servoStep d q t else acquiringOffset d th (servoUpdate d th t)
  else if t.ptpState d = 3 then lockedOffset d th (servoUpdate d th t)
  else t

/-- A Sync with its origin time and correction: t2 − t1 − c_s, and with an MPD the offset θ (R63). -/
def takeOffset (d : Nat) (t1 t2 : Nat) (c : Int) (s : State) : State :=
  let diff := ((t2 : Int) - t1) * 2 ^ 16 - c
  let s1 := tryAcquire d (s.setDom d { s.dom d with syncDiff := some diff, waiting := none })
  if (s1.dom d).delays = [] then s1
  else
    let th := diff - (s1.dom d).mpd
    let (q, s2) := s1.divFree th (2 ^ 16)
    servoOffset d th q ((s2.bump .PTP_DOM_SYNC_CNT d).setReg .PTP_DOM_OFFSET d (BitVec.ofInt 32 (satSigned 32 q)))

/-! ### Messages -/

/-- The port number of a domain's PORT0 or PORT1 (R60). -/
def State.ptpPort (s : State) (d : Nat) (k : Fin 2) : Nat :=
  if k = 0 then s.fld F.PTP_DOM_CFG_PORT0 d else s.fld F.PTP_DOM_CFG_PORT1 d

/-- The receive stamp that a domain takes on a port: its clock and the port's RX_ADJ (R78). -/
def State.rxStamp (s : State) (d p : Nat) : Nat :=
  (((s.dom d).time : Int) + signed 16 (s.fld F.PTP_TS_ADJ_RX_ADJ p)).toNat

/-- The transmit stamp that a domain takes on a port. -/
def State.txStamp (s : State) (d p : Nat) : Nat :=
  (((s.dom d).time : Int) + signed 16 (s.fld F.PTP_TS_ADJ_TX_ADJ p)).toNat

/-- A domain takes Sync of its selected master, from PORT0 while PORT0 delivers it (R61). -/
def State.syncAccepted (s : State) (d : Nat) (port : Fin 2) (sender : Nat) : Bool :=
  s.ptpState d != 0 && (s.dom d).master == some sender && (port == 0 || !(s.dom d).port0Sync)

/-- Which port delivers Sync (R61): a Sync on PORT1 finds PORT0 silent when none has come on PORT0 since the one before. -/
def notePort (d : Nat) (port : Fin 2) (s : State) : State :=
  s.setDom d { s.dom d with port0Sync := port == 0 }

/-- A Sync (R61, R63). -/
def ptpSync (d : Nat) (m : SyncMsg) (s : State) : State :=
  let ok := s.syncAccepted d m.port m.sender
  let s0 := if s.ptpState d != 0 && (s.dom d).master == some m.sender then notePort d m.port s else s
  if !ok then s0
  else
    let t2 := s0.rxStamp d (s0.ptpPort d m.port)
    let s1 := s0.setFlag F.PTP_DOM_STAT_ON_PORT1 d (m.port == 1)
    if m.twoStep then s1.setDom d { s1.dom d with waiting := some ⟨m.port, m.sender, m.seq, t2, m.corr⟩ }
    else takeOffset d m.t1 t2 m.corr s1

/-- A Follow_Up completes the two-step Sync it belongs to (R63). -/
def ptpFollowUp (d : Nat) (m : FollowUpMsg) (s : State) : State :=
  match (s.dom d).waiting with
  | some w =>
    if s.ptpState d != 0 && w.port == m.port && w.sender == m.sender && w.seq == m.seq then
      takeOffset d m.t1 w.t2 (w.corr + m.corr) s
    else s
  | none => s

/-- A Delay_Resp forms one delay sample; MPD is the mean of the last 16 (R63). Samples are kept doubled. -/
def ptpDelayResp (d : Nat) (m : DelayRespMsg) (s : State) : State :=
  match (s.dom d).dreq, (s.dom d).syncDiff with
  | some t3, some sd =>
    if s.ptpState d != 0 && (s.dom d).master == some m.sender && (s.dom d).dreqSeq == m.seq then
      let sample := sd + (((m.t4 : Int) - t3) * 2 ^ 16 - m.corr)
      let ds := (sample :: (s.dom d).delays).take 16
      let (mpd, s1) := s.divFree (ds.foldl (· + ·) 0) (2 * ds.length)
      let (q, s2) := s1.divFree mpd (2 ^ 16)
      let s3 := s2.setDom d { s2.dom d with delays := ds, mpd := mpd, dreq := none }
      tryAcquire d (s3.setReg .PTP_DOM_MPD d (BitVec.ofInt 32 q))
    else s
  | _, _ => s

/-- The order of the best master clock algorithm's data set comparison: lower is better (IEEE 1588-2019, PRESUMED;
notes/assumptions/9.md). -/
def announceRank (m : AnnounceMsg) : List Nat :=
  [m.priority1.toNat, m.clockClass.toNat, m.accuracy.toNat, m.variance.toNat, m.priority2.toNat, m.gm.toNat,
   m.steps.toNat, m.sender, m.port.val]

/-- Lexicographic order. -/
def lexLt : List Nat → List Nat → Bool
  | [], [] => false
  | [], _ :: _ => true
  | _ :: _, [] => false
  | a :: as, b :: bs => decide (a < b) || (a == b && lexLt as bs)

/-- Put an Announce into the list of foreign masters. -/
def noteForeign (m : AnnounceMsg) : List ForeignMaster → List ForeignMaster
  | [] => [⟨m, 1⟩]
  | f :: t =>
    if f.msg.sender = m.sender ∧ f.msg.port = m.port then ⟨m, f.count + 1⟩ :: t else f :: noteForeign m t

/-- The best qualified foreign master: two Announces heard, fewer than 255 steps removed. -/
def bestForeign : List ForeignMaster → Option ForeignMaster
  | [] => none
  | f :: t =>
    let r := bestForeign t
    if f.count < 2 ∨ 255 ≤ f.msg.steps.toNat then r
    else match r with
      | some g => if lexLt (announceRank g.msg) (announceRank f.msg) then some g else some f
      | none => some f

/-- The algorithm's choice becomes the selected master, shown in PTP_DOM_GM and PTP_DOM_ANN (R61, R83). -/
def selectMaster (d : Nat) (s : State) : State :=
  match bestForeign (s.dom d).foreign with
  | none => s.setDom d { s.dom d with master := none }
  | some f =>
    let same := (s.dom d).master == some f.msg.sender
    let x := s.dom d
    let x' := { x with master := some f.msg.sender
                       waiting := if same then x.waiting else none
                       syncDiff := if same then x.syncDiff else none
                       dreq := if same then x.dreq else none
                       port0Sync := if same then x.port0Sync else false }
    let t := (s.setDom d x').setReg .PTP_DOM_GM_LO d (BitVec.ofNat 32 f.msg.gm.toNat)
    let t := t.setReg .PTP_DOM_GM_HI d (BitVec.ofNat 32 (f.msg.gm.toNat / 2 ^ 32))
    t.setFlds d [(F.PTP_DOM_ANN_CLASS, f.msg.clockClass.toNat), (F.PTP_DOM_ANN_ACC, f.msg.accuracy.toNat),
      (F.PTP_DOM_ANN_STEPS, f.msg.steps.toNat)]

/-- An Announce is taken into the algorithm (R61). -/
def ptpAnnounce (d : Nat) (m : AnnounceMsg) (s : State) : State :=
  if s.ptpState d = 0 then s
  else tryAcquire d (selectMaster d (s.setDom d { s.dom d with foreign := noteForeign m (s.dom d).foreign }))

/-- No Announce from the selected master for ANN_TIMEOUT intervals: its data are dropped and the domain enters HOLDOVER
(R66). -/
def ptpAnnounceTimeout (d : Nat) (s : State) : State :=
  match (s.dom d).master with
  | none => s
  | some g =>
    let x := s.dom d
    selectMaster d (enterPtpHoldover d (s.setDom d { x with foreign := x.foreign.filter (fun f => f.msg.sender != g) }))

/-- The header of a PTP message (IEEE 1588-2019, PRESUMED; notes/assumptions/9.md). -/
def ptpHeader (type len domain flags seq : Nat) (logInt : Nat) : List Byte :=
  beBytes 1 type ++ beBytes 1 2 ++ beBytes 2 len ++ beBytes 1 domain ++ beBytes 1 0 ++ beBytes 2 flags
    ++ beBytes 8 0 ++ beBytes 4 0 ++ beBytes 10 0 ++ beBytes 2 seq ++ beBytes 1 0 ++ beBytes 1 logInt

/-- A PTP time stamp: 48-bit seconds and 32-bit nanoseconds. -/
def ptpTimestamp (t : Nat) : List Byte := beBytes 6 (t / 1000000000) ++ beBytes 4 (t % 1000000000)

/-- The transmitter of a media or management port can send: enabled, its link up (R141, R362). -/
def State.macUp (s : State) (p : Nat) : Bool :=
  if p < 128 then s.flag F.MPORT_CFG_EN p && s.flag F.MPORT_STAT_LINK_UP p
  else s.flag F.MGMT_CFG_EN (p - 128) && s.flag F.MGMT_STAT_LINK_UP (p - 128)

/-- The transmitter of a port is paused (R140, R367). -/
def State.macPaused (s : State) (p : Nat) : Bool :=
  if p < 128 then s.flag F.MPORT_STAT_PAUSED p else s.flag F.MGMT_STAT_PAUSED (p - 128)

/-- A domain's Delay_Req leaves on a port, with its send stamp. -/
def sendDelayReq (d port : Nat) (s : State) : State :=
  let x := s.dom d
  let seq := x.dreqSeq + 1
  let flags := if s.flag F.PTP_DOM_CFG_DREQ_UNICAST d then 0x400 else 0
  let msg := ptpHeader 1 44 (s.fld F.PTP_DOM_CFG_DOMAIN_NUM d) flags seq.toNat 0x7F ++ ptpTimestamp x.time
  (s.setDom d { x with dreqSeq := seq, dreq := some (s.txStamp d port) }).send
    (if port < 128 then s.fld F.MPORT_CFG_LANE port else port) msg

/-- The Delay_Req that wait for a port's pause. -/
def State.ptpWaiting (s : State) (port : Nat) : List Nat := s.ptp.wait.get [] port

/-- What waits for a port's pause, replaced. -/
def State.setPtpWaiting (s : State) (port : Nat) (l : List Nat) : State :=
  { s with ptp := { s.ptp with wait := s.ptp.wait.set port l } }

/-- The Delay_Req that waited for a port's pause leave. -/
def flushDelayReq (port : Nat) (s : State) : State :=
  (s.ptpWaiting port).foldl (fun t d => sendDelayReq d port t) (if s.ptpWaiting port = [] then s else s.setPtpWaiting port [])

/-- The domain sends a Delay_Req on the port it takes Sync from (R61); a paused port holds it (R140, R367). -/
def ptpDelayReqTx (d : Nat) (s : State) : State :=
  let port := s.ptpPort d (if s.flag F.PTP_DOM_STAT_ON_PORT1 d then 1 else 0)
  if s.ptpState d = 0 ∨ (s.dom d).master.isNone ∨ 129 < port then s
  else if !s.macUp port then s
  else if s.macPaused port then s.setPtpWaiting port (s.ptpWaiting port ++ [d])
  else sendDelayReq d port s

/-! ### Domain configuration -/

/-- Two domains name the same port, other than none, with equal DOMAIN_NUM (R60). -/
def portClash (a b : Word) : Bool :=
  let clash (x y : Nat) : Bool := x != 255 && x == y
  let p0 := F.PTP_DOM_CFG_PORT0
  let p1 := F.PTP_DOM_CFG_PORT1
  F.PTP_DOM_CFG_DOMAIN_NUM.of a == F.PTP_DOM_CFG_DOMAIN_NUM.of b
    && (clash (p0.of a) (p0.of b) || clash (p0.of a) (p1.of b) || clash (p1.of a) (p0.of b) || clash (p1.of a) (p1.of b))

/-- A write of PTP_DOM_CFG that R60 ignores. -/
def domCfgBad (d : Nat) (v : Word) (s : State) : Bool :=
  (s.flag F.PTP_DOM_CFG_EN d && (changes F.PTP_DOM_CFG_DOMAIN_NUM s d v || changes F.PTP_DOM_CFG_PORT0 s d v
      || changes F.PTP_DOM_CFG_PORT1 s d v))
    || portClash v (s.reg .PTP_DOM_CFG (1 - d))

/-- EN written 1 moves DISABLED to LISTENING, at y = I; EN written 0 returns to DISABLED (R65, R66). -/
def domEnableEffect (d : Nat) (was : Bool) (s : State) : State :=
  let is := s.flag F.PTP_DOM_CFG_EN d
  if is && !was then holdFreq d (setPtpState d 1 s)
  else if was && !is then
    setPtpState d 0 (s.setDom d { s.dom d with foreign := [], master := none, waiting := none, dreq := none, syncDiff := none })
  else s

/-- A write of PTP_DOM_CFG (R60, R66). -/
def writePtpDomCfg (d : Nat) (v : Word) (s : State) : State :=
  if domCfgBad d v s then s.reject .PTP
  else domEnableEffect d (s.flag F.PTP_DOM_CFG_EN d) (plainWrite .PTP_DOM_CFG d v s)

/-! ### Choosing the domain of Event Time -/

/-- The switch to the target domain (R73, R74): R grows by T_new − T_old, or is held at 0 before ET_VALID (R69). -/
def etDoSwitch (s : State) : State :=
  let n := s.ptp.target
  let r := s.ptp.resid + ((s.dom n).time : Int) - ((s.dom s.curDom).time : Int)
  let t := (s.setFld F.PTP_ET_STAT_CUR_DOM 0 n).setFlag F.PTP_ET_STAT_PENDING 0 false
  if s.etValid then setResid r { t with ptp := { t.ptp with rfrac := s.ptp.rfrac } } else t

/-- A target is chosen (R74): a switch takes place at once, waits for LOCKED, or is not needed. -/
def etRetarget (n : Nat) (s : State) : State :=
  let t := { s with ptp := { s.ptp with target := n } }
  if n = s.curDom then t.setFlag F.PTP_ET_STAT_PENDING 0 false
  else if !s.etValid || s.ptpState n == 3 then etDoSwitch t
  else t.setFlag F.PTP_ET_STAT_PENDING 0 true

/-- The target of R72 for a SEL value and an accepted REFSEL value. -/
def etTarget (sel refsel old : Nat) : Nat :=
  match sel with
  | 1 => 0
  | 2 => 1
  | _ => if refsel = 2 then 0 else if refsel = 3 then 1 else old

/-- The target follows SEL and the accepted REFSEL (R72). -/
def etFollow (s : State) : State :=
  let n := etTarget (s.fld F.PTP_ET_CFG_SEL 0) (s.fld F.REF_SEL_STAT_PIN 0) s.ptp.target
  if n = s.ptp.target then s else etRetarget n s

/-- A write of PTP_ET_CFG (R72, R83). -/
def writeEtCfg (v : Word) (s : State) : State :=
  let rate := F.PTP_ET_CFG_SLEW_NS.of v
  if F.PTP_ET_CFG_SEL.of v = 3 ∨ rate = 0 ∨ 10000 < rate then s.reject .PTP
  else etFollow (plainWrite .PTP_ET_CFG 0 v s)

/-- A waiting switch takes place once the target is LOCKED (R74). -/
def etPendingSwitch (s : State) : State :=
  if s.flag F.PTP_ET_STAT_PENDING 0 ∧ s.ptpState s.ptp.target = 3 then etDoSwitch s else s

/-- Time passes until the slew has brought R to 0 (R73). -/
def etSlewEnd (s : State) : State :=
  let rate := s.fld F.PTP_ET_CFG_SLEW_NS 0
  if s.ptp.resid = 0 then s else elapse (ceilDiv (s.ptp.resid.natAbs * 1000000000 - s.ptp.rfrac) rate) s

/-- A write of PTP_ET_STEP (R76). -/
def writeEtStep (v : Word) (s : State) : State :=
  if F.PTP_ET_STEP_GO.of v = 1 then (setResid 0 s).raise Src.PTP_ET_STEPPED else s

/-! ### Tile master and time-stamp queues -/

/-- The lane is assigned as a tile link and its link is up (R77). -/
def State.tileLinkUp (s : State) (p : Nat) : Bool :=
  s.fld F.LANE_CFG_RX_PROTO p == 4 && s.flag F.WSCAN_PORT_STAT_LINK_UP p

/-- The frame of a PTP message on a tile link: Ethertype 0x88F7 to 01-1B-19-00-00-00 (R77). -/
def tilePtpFrame (msg : List Byte) : List Byte :=
  beBytes 6 0x011B19000000 ++ beBytes 6 0 ++ beBytes 2 0x88F7 ++ msg

/-- The time that the tile master sends: the Event Time full time (R77). -/
def State.tileTime (s : State) : Nat := s.etFull.toNat

/-- One frame on every tile link whose link is up. -/
def sendTiles (msg : List Byte) (s : State) : State :=
  ((List.range 128).filter s.tileLinkUp).foldl (fun t p => t.send p (tilePtpFrame msg)) s

/-- The transmit stamp of a tile link: the Event Time full time and the link's TX_ADJ (R77, R78). -/
def State.tileStamp (s : State) (p : Nat) : Nat := (s.etFull + signed 16 (s.fld F.PTP_TS_ADJ_TX_ADJ p)).toNat

/-- The tile master sends a one-step Sync, its origin time stamp taken at transmit, and its budget of Delay_Resp starts
again (R77). -/
def tileSync (s : State) : State :=
  if s.flag F.PTP_TILE_CFG_EN 0 then
    let head := ptpHeader 0 44 (s.fld F.PTP_TILE_CFG_DOMAIN_NUM 0) 0 0 (s.fld F.PTP_TILE_CFG_LOG_SYNC 0)
    ((List.range 128).filter s.tileLinkUp).foldl (fun t p => t.send p (tilePtpFrame (head ++ ptpTimestamp (s.tileStamp p))))
      { s with ptp := { s.ptp with tileDreq := 0 } }
  else s

/-- The tile master sends an Announce: clockClass 248, priority1 0, stepsRemoved 0 (R77). -/
def tileAnnounce (s : State) : State :=
  if s.flag F.PTP_TILE_CFG_EN 0 then
    sendTiles (ptpHeader 11 64 (s.fld F.PTP_TILE_CFG_DOMAIN_NUM 0) 0 0 (s.fld F.PTP_TILE_CFG_LOG_ANNOUNCE 0)
      ++ ptpTimestamp s.tileTime ++ beBytes 2 37 ++ beBytes 1 0 ++ beBytes 1 0 ++ beBytes 1 248 ++ beBytes 1 0xFE
      ++ beBytes 2 0xFFFF ++ beBytes 1 128 ++ beBytes 8 0 ++ beBytes 2 0 ++ beBytes 1 0xA0) s
  else s

/-- A Delay_Req of a tile is answered on the same lane, or discarded and counted beyond 64 a Sync interval (R77). -/
def tileDelay (p sender : Nat) (seq : BitVec 16) (s : State) : State :=
  if s.flag F.PTP_TILE_CFG_EN 0 && s.tileLinkUp p then
    if s.ptp.tileDreq < 64 then
      let msg := ptpHeader 9 54 (s.fld F.PTP_TILE_CFG_DOMAIN_NUM 0) 0 seq.toNat 0x7F
        ++ ptpTimestamp (((s.tileTime : Int) + signed 16 (s.fld F.PTP_TS_ADJ_RX_ADJ p)).toNat) ++ beBytes 10 sender
      { s with ptp := { s.ptp with tileDreq := s.ptp.tileDreq + 1 } }.send p (tilePtpFrame msg)
    else s.bump .PTP_TILE_DREQ_DROP 0
  else s

/-- The time-stamp queue of a port. -/
def State.tsQueue (s : State) (p : Nat) : List (BitVec 16 × Nat) := s.ptp.tsq.get [] p

/-- The queue of a port holds these entries; COUNT shows how many. -/
def State.setTsQueue (s : State) (p : Nat) (q : List (BitVec 16 × Nat)) : State :=
  { s with ptp := { s.ptp with tsq := s.ptp.tsq.set p q } }.setFld F.PTP_TSQ_STAT_COUNT p q.length

/-- A transmit stamp is due for a port's queue (R80), or finds it full (R81). -/
def tsqAppend (p : Nat) (tag : BitVec 16) (s : State) : State :=
  let stamp := unsign 48 (s.etFull + signed 16 (s.fld F.PTP_TS_ADJ_TX_ADJ p))
  if (s.tsQueue p).length < 64 then s.setTsQueue p (s.tsQueue p ++ [(tag, stamp)])
  else ((s.bump .PTP_TSQ_DROP p).setFlag F.PTP_TSQ_STAT_OVF p true).raise Src.PTP_TSQ_OVF

/-- A read of PTP_TSQ_TAG pops the head entry into the stamp registers (R83). -/
def tsqPopTo (m p : Nat) (s : State) : State :=
  match s.tsQueue p with
  | [] => ((s.setReg .PTP_TSQ_TS_LO p 0).setReg .PTP_TSQ_TS_HI p 0).respond m 0
  | (tag, t) :: q =>
    let s1 := (s.setTsQueue p q).setReg .PTP_TSQ_TS_LO p (BitVec.ofNat 32 t)
    (s1.setReg .PTP_TSQ_TS_HI p (BitVec.ofNat 32 (t / 2 ^ 32))).respond m (tag.toNat + 2 ^ 16)

/-- A read of PTP_ET_LO latches PTP_ET_HI and the time of day (R83). -/
def etReadTo (m : Nat) (s : State) : State :=
  let full := s.etFull.toNat
  let t := s.setReg .PTP_ET_HI 0 (BitVec.ofNat 32 (s.et / 2 ^ 32))
  let t := t.setReg .PTP_TOD_SEC_LO 0 (BitVec.ofNat 32 (full / 1000000000))
  let t := t.setReg .PTP_TOD_SEC_HI 0 (BitVec.ofNat 32 (full / 1000000000 / 2 ^ 32 % 2 ^ 16))
  (t.setReg .PTP_TOD_NS 0 (BitVec.ofNat 32 (full % 1000000000))).respond m (s.et % 2 ^ 32)

/-! ### Register writes of the block -/

/-- A write of a PTP register (R83). -/
def writePtp (r : RegName) (i : Nat) (v : Word) (s : State) : State :=
  match r with
  | .PTP_DOM_CFG => writePtpDomCfg i v s
  | .PTP_ET_CFG => writeEtCfg v s
  | .PTP_ET_STEP => writeEtStep v s
  | _ => plainWrite r i v s

/-! ### Meanings -/

/-- PTP_DOMAIN_ENABLE: a write of PTP_DOM_CFG with EN = 1 (R66). -/
def execPtpDomainEnable (d : Fin 2) (v : Word) (s : State) : Out := .next (writePtpDomCfg d (v ||| 1#32) s)

/-- PTP_DOMAIN_DISABLE: a write of PTP_DOM_CFG with EN = 0 (R66). -/
def execPtpDomainDisable (d : Fin 2) (v : Word) (s : State) : Out := .next (writePtpDomCfg d (v &&& ~~~ 1#32) s)

/-- SYNC (R61, R63). -/
def execSync (d : Fin 2) (m : SyncMsg) (s : State) : Out := .next (ptpSync d m s)

/-- FOLLOW_UP (R63). -/
def execFollowUp (d : Fin 2) (m : FollowUpMsg) (s : State) : Out := .next (ptpFollowUp d m s)

/-- DELAY_REQ_TX (R61). -/
def execDelayReqTx (d : Fin 2) (s : State) : Out := .next (ptpDelayReqTx d s)

/-- DELAY_RESP (R63). -/
def execDelayResp (d : Fin 2) (m : DelayRespMsg) (s : State) : Out := .next (ptpDelayResp d m s)

/-- ANNOUNCE (R61). -/
def execAnnounce (d : Fin 2) (m : AnnounceMsg) (s : State) : Out := .next (ptpAnnounce d m s)

/-- ANNOUNCE_TIMEOUT (R66). -/
def execAnnounceTimeout (d : Fin 2) (s : State) : Out := .next (ptpAnnounceTimeout d s)

/-- SYNC_TIMEOUT: no usable Sync for 8 intervals (R66). -/
def execSyncTimeout (d : Fin 2) (s : State) : Out := .next (enterPtpHoldover d s)

/-- ET_SEL_WRITE: a write of PTP_ET_CFG (R72). -/
def execEtSelWrite (v : Word) (s : State) : Out := .next (writeEtCfg v s)

/-- ET_DOMAIN_SWITCH (R73, R74). -/
def execEtDomainSwitch (s : State) : Out := .next (etPendingSwitch s)

/-- ET_SWITCH: the end of the slew (R73). -/
def execEtSwitch (s : State) : Out := .next (etSlewEnd s)

/-- ET_STEP: a write of PTP_ET_STEP.GO = 1 (R76). -/
def execEtStep (s : State) : Out := .next (writeEtStep 1#32 s)

/-- ET_READ (R83). -/
def execEtRead (m : Fin 8) (s : State) : Out := .next (etReadTo m s)

/-- TILE_SYNC_TX (R77). -/
def execTileSyncTx (s : State) : Out := .next (tileSync s)

/-- TILE_ANNOUNCE_TX (R77). -/
def execTileAnnounceTx (s : State) : Out := .next (tileAnnounce s)

/-- TILE_DELAY_REQ (R77). -/
def execTileDelayReq (p : Fin 128) (sender : Nat) (seq : BitVec 16) (s : State) : Out := .next (tileDelay p sender seq s)

/-- TSQ_POP (R83). -/
def execTsqPop (m : Fin 8) (p : Fin 130) (s : State) : Out := .next (tsqPopTo m p s)

end Sys2Proof.Machine
end

