-- ==== Sys2Proof/Machine/RefUnit.lean ====
section
/-!
DEFINITION. The Reference Unit (chapter 02): forced selection and quality levels (R33 to R43), disagreement, drift and
holdover (R44 to R46), the genlock loop (R47 to R51), the timing domains (R52 to R55) and REF_OUT (R56).
-/

namespace Sys2Proof.Machine

/-! ### Sources -/

/-- The accepted REFSEL value. -/
def State.refsel (s : State) : Nat := s.fld F.REF_SEL_STAT_PIN 0

/-- The loop state of R47: 0 FREERUN, 1 ACQUIRE, 2 LOCK_10, 3 LOCK_2, 4 TRACK, 5 HOLDOVER. -/
def State.loop (s : State) : Nat := s.fld F.REF_SEL_STAT_LOOP 0

/-- The QL of a clockClass and clockAccuracy: the first entry of REF_QLMAP from `e` that matches (R40). -/
def State.qlMap (s : State) (cls acc : Nat) : List Nat → Nat
  | [] => 0
  | e :: es =>
    if s.flag F.REF_QLMAP_EN e && s.fld F.REF_QLMAP_CLASS e == cls && decide (acc ≤ s.fld F.REF_QLMAP_ACC_MAX e) then
      s.fld F.REF_QLMAP_QL e
    else s.qlMap cls acc es

/-- The QL of a PTP domain (R39). -/
def State.ptpQl (s : State) (d : Nat) : Nat :=
  s.qlMap (s.fld F.PTP_DOM_ANN_CLASS d) (s.fld F.PTP_DOM_ANN_ACC d) (List.range 16)

/-- A link of group `g` is up and its marker is clean, with a QL that may be used (R37, R41). -/
def State.linkUsable (s : State) (g l : Nat) : Bool :=
  s.fld F.ULINK_CFG_GROUP l == g && s.fld F.ULINK_STAT_STATE l == 5 && s.flag F.ULINK_STAT_MARK_OK l

/-- The link of a group that gives its reference: best QL, then lowest index (R37). QL 0, "do not use", is the worst. -/
def State.groupLink (s : State) (g : Nat) : Option Nat :=
  let key (l : Nat) : Nat := (s.fld F.ULINK_STAT_RX_QL l + 15) % 16
  ((List.range 32).filter (s.linkUsable g)).foldl
    (fun b l => match b with
      | none => some l
      | some k => if key l < key k then some l else some k) none

/-- The QL of a source (R39). -/
def State.sourceQl (s : State) (n : Nat) : Nat :=
  match n with
  | 0 => s.fld F.REF_QL_FIXED_ANA_A 0
  | 1 => s.fld F.REF_QL_FIXED_ANA_B 0
  | 2 => s.ptpQl 0
  | 3 => s.ptpQl 1
  | 4 => match s.groupLink 0 with | some l => s.fld F.ULINK_STAT_RX_QL l | none => 0
  | 5 => match s.groupLink 1 with | some l => s.fld F.ULINK_STAT_RX_QL l | none => 0
  | 6 => s.fld F.REF_QL_FIXED_FREQ 0
  | _ => 0

/-- The monitor of a source whose conditions the part holds itself (R41): sources 2 to 5; for the others CLEAN holds
what their monitor last said. -/
def State.sourceClean (s : State) (n : Nat) : Bool :=
  match n with
  | 2 => s.ptpState 0 == 3
  | 3 => s.ptpState 1 == 3
  | 4 => (s.groupLink 0).isSome
  | 5 => (s.groupLink 1).isSome
  | _ => s.flag F.REF_SRC_STAT_CLEAN n

/-- A source is qualified now. -/
def State.qualified (s : State) (n : Nat) : Bool := s.flag F.REF_SRC_STAT_QUALIFIED n

/-! ### Loop states -/

/-- A timing domain's hidden state. -/
def State.tdOf (s : State) (n : Nat) : TdState := s.td.get .reset n

/-- A timing domain's hidden state replaced. -/
def State.setTd (s : State) (n : Nat) (x : TdState) : State := { s with td := s.td.set n x }

/-- A domain's EN. -/
def State.tdEn (s : State) (n : Nat) : Bool := s.flag F.REF_TD_CFG_EN n

/-- Every enabled domain waits for a crash lock (R50). -/
def armCrash (s : State) : State :=
  (List.range 8).foldl (fun t n => if t.tdEn n then t.setTd n { t.tdOf n with crash := true } else t) s

/-- Every enabled domain shows a move of its phase (R50, R58). -/
def showSlewing (s : State) : State :=
  (List.range 8).foldl (fun t n => if t.tdEn n then t.setFlag F.REF_TD_STAT_SLEWING n true else t) s

/-- The loop enters ACQUIRE and builds phase by slewing or by crash lock (R50). -/
def enterAcquire (s : State) : State :=
  let t := (s.setFld F.REF_SEL_STAT_LOOP 0 1).raise Src.REF_ACQUIRE
  if t.flag F.REF_LOOP_CFG_PHASE_BUILD 0 then showSlewing (t.setFlag F.REF_SEL_STAT_SLEWING 0 true) else armCrash t

/-- A domain's SLEWING follows its own move of R55 alone. -/
def ownSlewing (s : State) : State :=
  (List.range 8).foldl
    (fun t n => t.setFlag F.REF_TD_STAT_SLEWING n (t.tdEn n && decide ((t.tdOf n).phase ≠ (t.tdOf n).phaseGoal))) s

/-- The phase build ends (R50). -/
def endPhaseBuild (s : State) : State :=
  if s.flag F.REF_SEL_STAT_SLEWING 0 then ownSlewing (s.setFlag F.REF_SEL_STAT_SLEWING 0 false) else s

/-- HOLD_LAG in seconds. -/
def State.holdLag (s : State) : Nat := s.fld F.REF_HOLD_CFG_HOLD_LAG 0

/-- HOLD_AVG in seconds; a written 0 acts as 1 (R58). -/
def State.holdAvg (s : State) : Nat := max 1 (s.fld F.REF_HOLD_CFG_HOLD_AVG 0)

/-- The history samples of [t − LAG − AVG, t − LAG) at the time `now` (R46). -/
def State.holdWindow (s : State) : List Int :=
  let lag := s.holdLag * 1000000000
  let avg := s.holdAvg * 1000000000
  (s.ref.hist.filter (fun e => decide (s.now ≤ e.1 + lag + avg) && decide (e.1 + lag < s.now))).map (·.2)

/-- The sum of a list of samples. -/
def sumInt (l : List Int) : Int := l.foldl (· + ·) 0

/-- The samples that give the holdover frequency, and whether they are a short history (R46). -/
def State.holdSamples (s : State) : List Int × Bool :=
  let w := s.holdWindow
  if 60 ≤ w.length then (w, false) else ((s.ref.hist.map (·.2)).take 60, true)

/-- The loop enters HOLDOVER at the lagged estimate, or FREERUN with no history (R46). -/
def enterHoldover (s : State) : State :=
  let s0 := endPhaseBuild s
  match s0.holdSamples with
  | ([], _) => (s0.setFld F.REF_SEL_STAT_LOOP 0 0).raise Src.REF_FREERUN
  | (w, short) =>
    let (q, s1) := s0.divFree (sumInt w) w.length
    let s2 := (s1.setReg .REF_HOLD_FREQ 0 (BitVec.ofInt 32 q)).setReg .REF_HOLD_SECONDS 0 0
    (s2.setFlds 0 [(F.REF_SEL_STAT_LOOP, 5), (F.REF_SEL_STAT_HOLD_SHORT, b2n short)]).raise Src.REF_HOLDOVER

/-- The loop loses its reference: it enters HOLDOVER unless it follows none already (R47). -/
def loseReference (s : State) : State := if s.loop = 0 ∨ s.loop = 5 then s else enterHoldover s

/-- A source is disqualified; for the pinned one SRC_LOST is set and the loop loses it (R42, R46). -/
def disqualify (n : Nat) (s : State) : State :=
  if s.qualified n then
    let t := s.setFlag F.REF_SRC_STAT_QUALIFIED n false
    if n = t.refsel then loseReference (t.raise Src.REF_SRC_LOST) else t
  else s

/-- A source qualifies when its QL and monitor allow it and no drift hold stands; the pinned one starts ACQUIRE (R42,
R47). For the analogue and FREQ_IN sources the monitor's word comes with the event. -/
def qualify (n : Nat) (ana : AnaFormat) (s : State) : State :=
  let ql := s.sourceQl n
  let own := n == 0 || n == 1 || (n == 6 && s.ref.ppsWritten)
  let s0 := if own then s.setFlds n [(F.REF_SRC_STAT_PRESENT, 1), (F.REF_SRC_STAT_CLEAN, 1)] else s
  let s1 := if n = 0 ∨ n = 1 then
      s0.setFlds n [(F.REF_SRC_STAT_FMT_RATE, ana.rate.toNat), (F.REF_SRC_STAT_FMT_TRI, b2n ana.triLevel)]
    else s0
  if n ≠ 7 ∧ ql ≠ 0 ∧ ql ≤ s1.fld F.REF_QL_MIN_QL_MIN 0 ∧ s1.sourceClean n ∧ !s1.flag F.REF_SRC_STAT_DRIFT_DQ n
      ∧ !s1.qualified n then
    let t := s1.setFlag F.REF_SRC_STAT_QUALIFIED n true
    if n = t.refsel then enterAcquire t else t
  else s1

/-- A source fails a condition of R42; `monitorFailed` says that it is the monitor of an analogue or FREQ_IN source. -/
def sourceFails (n : Nat) (monitorFailed : Bool) (s : State) : State :=
  let t := if monitorFailed then s.setFlag F.REF_SRC_STAT_CLEAN n false else s
  disqualify n t

/-- A new REFSEL value is accepted (R36): its drift hold is lifted (R42), the target of Event Time follows (R72). -/
def acceptRefsel (v : Nat) (s : State) : State :=
  let t := ((s.setFld F.REF_SEL_STAT_PIN 0 v).setFlag F.REF_SRC_STAT_DRIFT_DQ v false).raise Src.REF_SEL_CHANGE
  let t := etFollow t
  if t.qualified v then enterAcquire t else loseReference t

/-- One sample of REFSEL (R34): ten in a row that read the same new value accept it. -/
def refselSampled (v : Nat) (s : State) : State :=
  let run := if s.ref.selCand = v then min 10 (s.ref.selRun + 1) else 1
  let t := { s with ref := { s.ref with selCand := v, selRun := run } }
  if run = 10 ∧ v ≠ t.refsel then acceptRefsel v t else t

/-! ### Frequency offsets -/

/-- The offset samples a source's filter holds, newest first (R43). -/
def State.ofsWindow (s : State) (n : Nat) : List Int := s.ref.window.get [] n

/-- A source gives an offset sample: the filtered offset is the mean of the last 10 (R43). -/
def takeOfsSample (n : Nat) (x : Int) (s : State) : State :=
  let w := (x :: s.ofsWindow n).take 10
  let (q, t) := s.divFree (sumInt w) w.length
  ({ t with ref := { t.ref with window := t.ref.window.set n w } }.setFlag F.REF_SRC_STAT_PRESENT n true).setReg
    .REF_SRC_OFFSET n (BitVec.ofInt 32 q)

/-- The means of two sample lists differ by more than `ppb`; samples are in 1/16 ppb. -/
def meansDiffer (a b : List Int) (ppb : Nat) : Bool :=
  decide (((ppb * 16 * a.length * b.length : Nat) : Int) < ((sumInt a * b.length - sumInt b * a.length).natAbs : Int))

/-- The lagged estimate is shown while the loop is not in HOLDOVER (R45, R58). -/
def showLagged (s : State) : State :=
  if s.loop = 5 ∨ s.holdWindow = [] then s
  else
    let (q, t) := s.divFree (sumInt s.holdWindow) s.holdWindow.length
    t.setReg .REF_HOLD_FREQ 0 (BitVec.ofInt 32 q)

/-- The pinned reference drifts (R45). -/
def State.drifts (s : State) : Bool :=
  s.loop == 4 && decide (s.holdLag + 60 ≤ s.ref.hist.length) && s.holdWindow != []
    && meansDiffer (s.ofsWindow s.refsel) s.holdWindow (s.fld F.REF_DRIFT_CFG_DRIFT_LIMIT 0)

/-- The drift comparison of R45. -/
def driftCheck (s : State) : State :=
  if s.drifts then
    disqualify s.refsel ((s.setFlag F.REF_SRC_STAT_DRIFT_DQ s.refsel true).raise Src.REF_DRIFT)
  else s

/-- The history takes the pinned reference's sample in LOCK_2 and TRACK (R45). -/
def noteHistory (samples : List (Fin 8 × Int)) (s : State) : State :=
  match samples.find? (fun e => e.1.val == s.refsel) with
  | some e =>
    if s.loop = 3 ∨ s.loop = 4 then
      { s with ref := { s.ref with hist := ((s.now, e.2) :: s.ref.hist).take 1024 } }
    else s
  | none => s

/-- The one-second samples (R43, R45). A source without a sample is not present. -/
def offsetSamples (samples : List (Fin 8 × Int)) (s : State) : State :=
  let s0 := passToNow ((s.ref.second + 1) * 1000000000) s
  let s0 := { s0 with ref := { s0.ref with second := s0.ref.second + 1 } }
  let s1 := (List.range 8).foldl (fun t n => t.setFlag F.REF_SRC_STAT_PRESENT n false) s0
  let s2 := samples.foldl (fun t e => takeOfsSample e.1.val e.2 t) s1
  let s3 := if s2.loop = 5 then s2.bump .REF_HOLD_SECONDS 0 else s2
  driftCheck (showLagged (noteHistory samples s3))

/-- A pair of sources disagrees now (R44). -/
def State.disagrees (s : State) (x y : Nat) : Bool :=
  decide (x < y) && s.qualified x && s.qualified y && s.sourceQl x == s.sourceQl y
    && meansDiffer (s.ofsWindow x) (s.ofsWindow y) (s.fld F.REF_MON_CFG_DISAGREE_PPB 0)

/-- All pairs of sources, lowest first number first, then lowest second number. -/
def sourcePairs : List (Nat × Nat) :=
  (List.range 8).flatMap (fun x => (List.range 8).map (fun y => (x, y)))

/-- Disagreements have lasted 10 s: the first pair is recorded while DISAGREE is clear (R44). -/
def noteDisagree (lasting : List (Fin 8 × Fin 8)) (s : State) : State :=
  let real := sourcePairs.filter (fun p => s.disagrees p.1 p.2 && lasting.any (fun q => q.1.val == p.1 && q.2.val == p.2))
  match real with
  | [] => s
  | (x, y) :: _ =>
    let t :=
      if (s.faults .REF).fstat &&& Src.REF_DISAGREE.mask = 0 then
        ((s.setFlds 0 [(F.REF_DISAGREE_PAIR_SRC_X, x), (F.REF_DISAGREE_PAIR_SRC_Y, y)]).setReg
          .REF_DISAGREE_OFS_X 0 (s.reg .REF_SRC_OFFSET x)).setReg .REF_DISAGREE_OFS_Y 0 (s.reg .REF_SRC_OFFSET y)
      else s
    t.raise Src.REF_DISAGREE

/-! ### Steps of the loop -/

/-- The threshold, in ps, by which the loop leaves a state for the next narrower one (R48). -/
def stepThreshold (loop : Nat) : Nat :=
  match loop with
  | 1 => 1000000
  | 2 => 100000
  | 3 => 20000
  | _ => 0

/-- The loop shows a phase error in ps. -/
def showPhaseErr (err : Int) (s : State) : State := s.setReg .REF_PHASE_ERR 0 (BitVec.ofInt 32 (satSigned 32 err))

/-- The error has stayed below the step's threshold for its dwell time (R48). -/
def loopStepDownTo (err : Int) (s : State) : State :=
  if 1 ≤ s.loop ∧ s.loop ≤ 3 ∧ err.natAbs < stepThreshold s.loop then
    let t := endPhaseBuild (showPhaseErr err s)
    let t := t.setFld F.REF_SEL_STAT_LOOP 0 (s.loop + 1)
    t.raiseIf (s.loop == 3) Src.REF_LOCK
  else s

/-- The error has exceeded four times the entry threshold for 1 s (R49). -/
def loopRelock (err : Int) (s : State) : State :=
  if 2 ≤ s.loop ∧ s.loop ≤ 4 ∧ 4 * stepThreshold (s.loop - 1) < err.natAbs then
    enterAcquire (((showPhaseErr err s).raise Src.REF_RELOCK).bump .REF_RELOCK_CNT 0)
  else s

/-- The phase error is below 1 µs (R50). -/
def phaseBuilt (err : Int) (s : State) : State :=
  if s.flag F.REF_SEL_STAT_SLEWING 0 ∧ err.natAbs < 1000000 then endPhaseBuild (showPhaseErr err s) else s

/-! ### Timing domains -/

/-- The frame period of a RATE code in thirds of a nanosecond (R58). -/
def framePeriod3 (rate : Nat) : Nat :=
  match rate with
  | 0 => 125125000
  | 1 => 125000000
  | 2 => 120000000
  | 3 => 100100000
  | 4 => 100000000
  | 5 => 62562500
  | 6 => 62500000
  | 7 => 60000000
  | 8 => 50050000
  | 9 => 50000000
  | 10 => 30000000
  | 11 => 25025000
  | 12 => 25000000
  | _ => 60000000

/-- A rate of the 1000/1001 family. -/
def rateIsM1001 (rate : Nat) : Bool := rate == 0 || rate == 3 || rate == 5 || rate == 8 || rate == 11

/-- T_f of a domain in thirds of a nanosecond. -/
def State.tf3 (s : State) (n : Nat) : Nat := framePeriod3 (s.fld F.REF_TD_CFG_RATE n)

/-- TOTAL_LINES of a domain. -/
def State.totalLines (s : State) (n : Nat) : Nat := s.fld F.REF_TD_LINES_TOTAL_LINES n

/-- The units of exact time: 1/(3·10⁹) ns. -/
def exactUnit : Nat := 3000000000

/-- The lines of an exact duration: `k` line periods of domain `n`, in exact units times TOTAL_LINES. -/
def State.lineSpan (s : State) (n k : Nat) : Nat := k * s.tf3 n * 1000000000

/-- The instants of a frame from its exact start (R52): each the exact value rounded down to whole nanoseconds. -/
def State.frameTimes (s : State) (n : Nat) (x : Int) : FrameTimes :=
  let tl := s.totalLines n
  let den := exactUnit * tl
  let sh := x * tl + s.lineSpan n (s.fld F.REF_TD_LINES_SWITCH_LINE n - 1)
  let co := sh - s.lineSpan n (s.fld F.REF_TD_CFG_CUE_OPEN n)
  ⟨co / (den : Int), x / (exactUnit : Int), sh / (den : Int), x⟩

/-- SLEW_PPB as it acts (R58). -/
def State.slewPpb (s : State) : Nat := min 10000 (s.fld F.REF_LOOP_CFG_SLEW_PPB 0)

/-- The largest move of a frame start against the frame before, in exact units (R50, R55). -/
def State.maxSlew (s : State) (n : Nat) : Nat := s.slewPpb * s.tf3 n

/-- The phase moves toward its goal by at most the operand, the limit and what is left (R55). -/
def slewPhase (x : TdState) (lim : Nat) : Int :=
  let d := x.phaseGoal - x.phase
  x.phase + clampSym lim d

/-- The exact aligned frame start that an operand names. -/
def alignedStart (f : FrameStart) (tf3 : Nat) : Int :=
  match f with
  | .epoch k => (k * tf3 : Nat) * 1000000000
  | .marked t => (t : Int) * 1000000000

/-- The rate family of the pinned analogue or Uhlat reference: its RATE code, if known. -/
def State.refRate (s : State) : Option Nat :=
  match s.refsel with
  | 0 => some (s.fld F.REF_SRC_STAT_FMT_RATE 0)
  | 1 => some (s.fld F.REF_SRC_STAT_FMT_RATE 1)
  | 4 => (s.groupLink 0).map (fun l => (s.ul.get .reset l).markRate)
  | 5 => (s.groupLink 1).map (fun l => (s.ul.get .reset l).markRate)
  | _ => none

/-- The domain's frames follow the ST 2059-1 epoch (R53): with a PTP or FREQ_IN reference, in HOLDOVER, in FREERUN, or for
the other family than an analogue or Uhlat reference. -/
def State.epochAligned (s : State) (n : Nat) : Bool :=
  if s.loop = 0 ∨ s.loop = 5 then true
  else match s.refRate with
    | some r => rateIsM1001 r != rateIsM1001 (s.fld F.REF_TD_CFG_RATE n)
    | none => true

/-- A frame start operand of the kind that R53 asks for now. While a phase build goes on the frames are on their way to
their alignment and may start anywhere R50 lets them. -/
def State.startKindOk (s : State) (n : Nat) (f : FrameStart) : Bool :=
  s.flag F.REF_SEL_STAT_SLEWING 0 || match f with
    | .epoch _ => s.epochAligned n
    | .marked _ => !s.epochAligned n || (s.loop == 0 && s.ref.hist == [])

/-- The frame may follow the one before it (R50, R52, R54, R55). -/
def State.frameFollows (s : State) (n : Nat) (t : FrameTimes) : Bool :=
  let x := s.tdOf n
  let tf := s.tf3 n
  match x.last with
  | none => decide ((tf : Int) ≤ 3 * (t.shutter - x.enabledAt)) && decide (3 * (t.shutter - x.enabledAt) ≤ 2 * tf)
  | some p =>
    if x.crash then
      decide ((tf : Int) ≤ 6 * (t.cueOpen - p.shutter)) && decide (6 * (t.cueOpen - p.shutter) ≤ 3 * tf + 6)
    else decide ((t.exact - p.exact - (tf * 1000000000 : Nat)).natAbs ≤ 2 * s.maxSlew n)

/-- The frame that a CUE_OPEN event of a domain opens, if the domain runs and R52 to R55 place a frame there. -/
def State.openFrame (s : State) (n : Nat) (f : FrameStart) (slew : Nat) : Option (Int × FrameTimes) :=
  let x := s.tdOf n
  let ph := slewPhase x (min slew (s.maxSlew n))
  let t := s.frameTimes n (alignedStart f (s.tf3 n) + ph)
  if s.tdEn n && x.opened.isNone && s.startKindOk n f && s.frameFollows n t then some (ph, t) else none

/-- O(N) of a domain falls: time has come to it and its Cue Window is open; a crash lock that it ends sets TD_STEP. -/
def tdOpen (n : Nat) (ph : Int) (t : FrameTimes) (s : State) : State :=
  let x := s.tdOf n
  let s1 := passTo t.cueOpen (s.setTd n { x with phase := ph, crash := false, opened := some t })
  s1.raiseIf (x.crash && x.last.isSome) Src.REF_TD_STEP

/-- S(N) of a domain falls: the frame count, the Shutter stamp, RUN (R52, R54, R58). -/
def tdShut (n : Nat) (t : FrameTimes) (s : State) : State :=
  let s1 := passTo t.shutter s
  let s2 := s1.setTd n { s1.tdOf n with opened := none, last := some t, overlapOpen := true }
  let e := unsign 48 t.shutter
  let s3 := (s2.setReg .REF_TD_FRAME n (s2.reg .REF_TD_FRAME n + 1)).setFlag F.REF_TD_STAT_RUN n true
  (s3.setReg .REF_TD_SHUTTER_LO n (BitVec.ofNat 32 e)).setReg .REF_TD_SHUTTER_HI n (BitVec.ofNat 32 (e / 2 ^ 32))

/-- A write of REF_TD_CFG that R54 ignores. -/
def tdCfgBad (n : Nat) (v : Word) (s : State) : Bool :=
  let rate := F.REF_TD_CFG_RATE.of v
  let scan := F.REF_TD_CFG_SCAN.of v
  let co := F.REF_TD_CFG_CUE_OPEN.of v
  let en := F.REF_TD_CFG_EN.of v
  (s.tdEn n && (changes F.REF_TD_CFG_SCAN s n v || changes F.REF_TD_CFG_RATE s n v || changes F.REF_TD_CFG_CUE_OPEN s n v))
    || (s.tdEn n && en == 0 && s.cue.thr.keys.any (fun t => s.fld F.CUE_THR_CFG_TD t == n))
    || decide (12 < rate) || (scan == 1 && decide (rate < 2 ∨ 4 < rate)) || co == 0 || decide (64 < co)
    || (en == 1 && decide (s.totalLines n < co))

/-- EN newly 1 starts the domain; EN newly 0 stops it at once (R54). -/
def tdEnableEffect (n : Nat) (was : Bool) (s : State) : State :=
  if s.tdEn n && !was then
    let p := signed 32 (s.reg .REF_TD_PHASE n).toNat * exactUnit
    s.setTd n { s.tdOf n with enabledAt := s.etFull, phase := p, phaseGoal := p, crash := false, opened := none, last := none }
  else if was && !s.tdEn n then
    (s.setTd n { s.tdOf n with opened := none, last := none, crash := false, overlapOpen := false }).setReg .REF_TD_STAT n 0
  else s

/-- A write of REF_TD_CFG (R54). -/
def writeTdCfg (n : Nat) (v : Word) (s : State) : State :=
  if tdCfgBad n v s then s.reject .REF else tdEnableEffect n (s.tdEn n) (plainWrite .REF_TD_CFG n v s)

/-- A write of REF_TD_LINES (R54). -/
def writeTdLines (n : Nat) (v : Word) (s : State) : State :=
  let tot := F.REF_TD_LINES_TOTAL_LINES.of v
  let sw := F.REF_TD_LINES_SWITCH_LINE.of v
  let locked := s.tdEn n && (changes F.REF_TD_LINES_TOTAL_LINES s n v || changes F.REF_TD_LINES_SWITCH_LINE s n v)
  guardedWrite (locked || tot == 0 || sw == 0 || decide (tot < sw)) .REF_TD_LINES n v s

/-- The shorter way from `a` to `b` modulo `m`; the later way when both are equal (R55). -/
def shorterWay (a b : Int) (m : Nat) : Int :=
  let d := (b - a) % (m : Int)
  if 2 * d ≤ (m : Int) then d else d - m

/-- A write of REF_TD_PHASE (R54, R55). -/
def writeTdPhase (n : Nat) (v : Word) (s : State) : State :=
  let p := signed 32 v.toNat
  if s.tf3 n < 3 * p.natAbs then s.reject .REF
  else
    let t := s.setReg .REF_TD_PHASE n v
    if s.tdEn n then
      let x := t.tdOf n
      let d := shorterWay x.phase (p * exactUnit) (s.tf3 n * 1000000000)
      let t1 := t.setTd n { x with phaseGoal := x.phase + d }
      if d = 0 then t1 else t1.setFlag F.REF_TD_STAT_SLEWING n true
    else t

/-- The move of R55 has reached its goal: SLEWING clears unless a phase build still goes on. -/
def tdSlewEnd (n : Nat) (s : State) : State :=
  let x := s.tdOf n
  if x.phase = x.phaseGoal then
    let p := signed 32 (s.reg .REF_TD_PHASE n).toNat * exactUnit
    (s.setTd n { x with phase := p, phaseGoal := p }).setFlag F.REF_TD_STAT_SLEWING n (s.flag F.REF_SEL_STAT_SLEWING 0 && s.tdEn n)
  else s

/-! ### REF_OUT, PPS_IN and the other registers -/

/-- A write of REF_OUT_CFG drives the pin at its idle level (R56). -/
def writeRefOut (v : Word) (s : State) : State :=
  let t := plainWrite .REF_OUT_CFG 0 v s
  { t with refOut := ⟨true, t.flag F.REF_OUT_CFG_POL 0, none⟩ }

/-- The level of REF_OUT now: the active level during a pulse (R56). -/
def State.refOutLevel (s : State) : Bool :=
  match s.refOut.pulseEnd with
  | some e => if s.now < e then !s.refOut.level else s.refOut.level
  | none => s.refOut.level

/-- Time comes to the pulse's instant: F(N) or S(N) of the domain, or a whole second of the selected PTP time. -/
def toPulse (s : State) : State :=
  let n := s.fld F.REF_OUT_CFG_TD 0
  match s.fld F.REF_OUT_CFG_MODE 0, (s.tdOf n).opened with
  | 0, some t => passTo t.start s
  | 2, _ => passTo (((s.dom s.curDom).time / 1000000000 + 1) * 1000000000 - s.ptp.resid) s
  | _, _ => s

/-- REF_OUT gives a pulse of WIDTH × 10 ns (R56). -/
def refOutPulses (s : State) : State :=
  if s.refOut.driven && s.flag F.REF_OUT_CFG_EN 0 && s.fld F.REF_OUT_CFG_MODE 0 != 3
      && (s.fld F.REF_OUT_CFG_MODE 0 == 2 || s.tdEn (s.fld F.REF_OUT_CFG_TD 0)) then
    let t := toPulse s
    { t with refOut := { t.refOut with pulseEnd := some (t.now + t.fld F.REF_OUT_CFG_WIDTH 0 * 10) } }
  else s

/-- A write of REF_REQUAL lifts drift holds (R42). -/
def writeRequal (v : Word) (s : State) : State :=
  (List.range 8).foldl (fun t n => if bit v.toNat n then t.setFlag F.REF_SRC_STAT_DRIFT_DQ n false else t) s

/-- A write of REF_PPS_TAI_HI arms the second of the next PPS_IN edge (R38). -/
def writePpsHi (v : Word) (s : State) : State :=
  let t := plainWrite .REF_PPS_TAI_HI 0 v s
  { t with ref := { t.ref with ppsWritten := true, ppsArmed := true } }

/-- The PTP second that firmware has written. -/
def State.ppsTai (s : State) : Nat :=
  (s.reg .REF_PPS_TAI_LO 0).toNat + s.fld F.REF_PPS_TAI_HI_SEC 0 * 2 ^ 32

/-- A rising PPS_IN edge at an instant of the always-on time (R41): off 1 s ± 1 µs from the last, source 6 is not clean. -/
def ppsEdge (instant : Nat) (s : State) : State :=
  let t := passToNow instant s
  let sec := if t.ref.ppsArmed then t.ppsTai else t.ref.ppsSecond + 1
  let off := match t.ref.ppsLast with
    | some p => decide (1000 < ((t.now : Int) - p - 1000000000).natAbs)
    | none => false
  let u := { t with ref := { t.ref with ppsArmed := false, ppsSecond := sec, ppsLast := some t.now } }
  if off then sourceFails 6 true u else u

/-- A write of REF_LOOP_CFG (R58). -/
def writeLoopCfg (v : Word) (s : State) : State :=
  guardedWrite (F.REF_LOOP_CFG_SLEW_PPB.of v == 0) .REF_LOOP_CFG 0 v s

/-- A write of REF_HOLD_CFG: HOLD_AVG gives way where the sum exceeds 1,024 (R46). -/
def writeHoldCfg (v : Word) (s : State) : State :=
  let t := plainWrite .REF_HOLD_CFG 0 v s
  if 1024 < t.holdLag + t.holdAvg then t.setFld F.REF_HOLD_CFG_HOLD_AVG 0 (1024 - t.holdLag) else t

/-- A write of a REF register (R58). -/
def writeRef (r : RegName) (i : Nat) (v : Word) (s : State) : State :=
  match r with
  | .REF_TD_CFG => writeTdCfg i v s
  | .REF_TD_LINES => writeTdLines i v s
  | .REF_TD_PHASE => writeTdPhase i v s
  | .REF_OUT_CFG => writeRefOut v s
  | .REF_REQUAL => writeRequal v s
  | .REF_PPS_TAI_HI => writePpsHi v s
  | .REF_LOOP_CFG => writeLoopCfg v s
  | .REF_HOLD_CFG => writeHoldCfg v s
  | _ => plainWrite r i v s

/-! ### Meanings -/

/-- REFSEL_SAMPLE (R34). -/
def execRefselSample (pins : BitVec 3) (s : State) : Out := .next (refselSampled pins.toNat s)

/-- SOURCE_QUALIFIED (R42). -/
def execSourceQualified (n : Fin 8) (ana : AnaFormat) (s : State) : Out := .next (qualify n ana s)

/-- SOURCE_DISQUALIFIED (R42). -/
def execSourceDisqualified (n : Fin 8) (monitorFailed : Bool) (s : State) : Out := .next (sourceFails n monitorFailed s)

/-- REF_OFFSET_SAMPLE (R43). -/
def execRefOffsetSample (samples : List (Fin 8 × Int)) (s : State) : Out := .next (offsetSamples samples s)

/-- DISAGREE (R44). -/
def execDisagree (lasting : List (Fin 8 × Fin 8)) (s : State) : Out := .next (noteDisagree lasting s)

/-- LOOP_STEP_DOWN (R48). -/
def execLoopStepDown (err : Int) (s : State) : Out := .next (loopStepDownTo err s)

/-- RELOCK (R49). -/
def execRelock (err : Int) (s : State) : Out := .next (loopRelock err s)

/-- PHASE_BUILD_DONE (R50). -/
def execPhaseBuildDone (err : Int) (s : State) : Out := .next (phaseBuilt err s)

/-- TD_ENABLE: a write of REF_TD_CFG with EN = 1 (R54). -/
def execTdEnable (n : Fin 8) (v : Word) (s : State) : Out := .next (writeTdCfg n (v ||| 1#32) s)

/-- TD_PHASE_WRITE (R55). -/
def execTdPhaseWrite (n : Fin 8) (v : Word) (s : State) : Out := .next (writeTdPhase n v s)

/-- TD_PHASE_SLEW_END (R55). -/
def execTdPhaseSlewEnd (n : Fin 8) (s : State) : Out := .next (tdSlewEnd n s)

/-- REF_OUT_CFG_WRITE (R56). -/
def execRefOutCfgWrite (v : Word) (s : State) : Out := .next (writeRefOut v s)

/-- REF_OUT_PULSE (R56). -/
def execRefOutPulse (s : State) : Out := .next (refOutPulses s)

/-- REF_REQUAL (R42). -/
def execRefRequal (v : Word) (s : State) : Out := .next (writeRequal v s)

/-- PPS_TAI_ARM: a write of REF_PPS_TAI_HI (R38). -/
def execPpsTaiArm (v : Word) (s : State) : Out := .next (writePpsHi v s)

/-- PPS_IN_EDGE (R41). -/
def execPpsInEdge (instant : Nat) (s : State) : Out := .next (ppsEdge instant s)

end Sys2Proof.Machine
end

