-- ==== Sys2Proof/Machine/CueLoad.lean ====
section
/-!
DEFINITION. The admitted load of the Cue Engine and its limits (R202, R204, R207).
-/

namespace Sys2Proof.Machine

/-- A thread that is not FREE. -/
def State.thread? (s : State) (t : Nat) : Option Thread := s.cue.thr.find? t

/-- The timing domain of a thread. -/
def State.thrTd (s : State) (t : Nat) : Nat := s.fld F.CUE_THR_CFG_TD t

/-- The threads of a domain that are not FREE, ascending. -/
def State.domThreads (s : State) (n : Nat) : List Nat := s.cue.thr.keys.filter (fun t => s.thrTd t == n)

/-- The budget B of a thread: 16 for the built-in program (R218). -/
def State.thrBudget (s : State) (t : Nat) : Nat :=
  if s.flag F.CUE_THR_CFG_BUILTIN t then 16 else s.fld F.CUE_THR_CFG_BUDGET t

/-- The charge of a budget (R204). -/
def budgetCharge (b : Nat) : Nat := 4 * b + 8

/-- CUE_LOAD of a domain (R204). -/
def State.cueLoad (s : State) (n : Nat) : Nat := (s.domThreads n).foldl (fun a t => a + budgetCharge (s.thrBudget t)) 0

/-- The domain that an engine serves (R202); after reset engines 0 to 15 serve domain 0. -/
def State.serves (s : State) (e : Nat) : Option Nat := s.cue.serve.get (if e < 16 then some 0 else none) e

/-- An engine is in service: active, or draining until its domain's Shutter. -/
def State.engUp (s : State) (e : Nat) : Bool := s.fld F.CUE_ENG_STAT_STATE e == 0 || s.fld F.CUE_ENG_STAT_STATE e == 2

/-- The engines of a domain, ascending. -/
def State.enginesOf (s : State) (n : Nat) : List Nat := (List.range 18).filter (fun e => s.engUp e && s.serves e == some n)

/-- CUE_SHARE.EFF (R207). -/
def State.cueEff (s : State) (n : Nat) : Nat := (s.enginesOf n).length

/-- The active engines E_act (R202). -/
def State.eAct (s : State) : Nat := ((List.range 18).filter s.engUp).length

/-- W of R204: CUE_OPEN line periods, rounded down to whole ns. -/
def State.cueWindow (s : State) (n : Nat) : Nat := s.fld F.REF_TD_CFG_CUE_OPEN n * s.tf3 n / (3 * s.totalLines n)

/-- CUE_LOAD_LIM of a domain that has `k` engines (R204); 0 while the domain does not run. -/
def State.limitWith (s : State) (n k : Nat) : Nat := if s.tdEn n then k * (s.cueWindow n - 200 - 1032) else 0

/-- CUE_LOAD_LIM of a domain. -/
def State.cueLimit (s : State) (n : Nat) : Nat := s.limitWith n (s.cueEff n)

/-- The cue budget check of R21: the admitted load stays within the limit (R205). -/
def State.cueLoadOk (s : State) (n : Nat) : Bool := decide (s.cueLoad n ≤ s.cueLimit n)

end Sys2Proof.Machine
end

