-- ==== Sys2Proof/Machine/Formats.lean ====
section
/-!
DEFINITION. Essence format codes (R173, R174), the black lines of R122, and the packing of picture samples (R175).
-/

namespace Sys2Proof.Machine

/-- RASTER of a format code. -/
def fmtRaster (f : Nat) : Nat := bitsOf f 5 3

/-- SAMPLING of a format code. -/
def fmtSampling (f : Nat) : Nat := bitsOf f 3 2

/-- RGB of a format code. -/
def fmtRgb (f : Nat) : Bool := bit f 2

/-- DIV of a format code. -/
def fmtDiv (f : Nat) : Bool := bit f 1

/-- HIGH of a format code. -/
def fmtHigh (f : Nat) : Bool := bit f 0

/-- A format code that appears in R174. -/
def fmtValid (f : Nat) : Bool :=
  decide (f < 256) && (!fmtRgb f || decide (2 ≤ fmtSampling f)) &&
  match fmtRaster f with
  | 0 => fmtSampling f == 0 && !fmtHigh f && fmtDiv f
  | 1 => fmtSampling f == 0 && !fmtHigh f && !fmtDiv f
  | 3 => !fmtHigh f
  | 4 => !fmtHigh f
  | _ => true

/-- The 4:2:2 10-bit rate of a raster in kbit/s (R174). -/
def rasterKbps (raster : Nat) (high : Bool) : Nat :=
  match raster with
  | 0 => 270000
  | 1 => 270000
  | 2 => 1485000
  | 3 => 1485000
  | 4 => 1485000
  | 5 => if high then 2970000 else 1485000
  | 6 => if high then 11880000 else 5940000
  | _ => if high then 47520000 else 23760000

/-- The essence rate of a format before the division by 1.001, in kbit/s (R174). -/
def fmtFullKbps (f : Nat) : Nat :=
  let r := fmtRaster f
  let s := fmtSampling f
  if (r = 3 ∨ r = 4 ∨ r = 5) ∧ 2 ≤ s ∧ !fmtHigh f then 2970000
  else
    let b := rasterKbps r (fmtHigh f)
    match s with
    | 0 => b
    | 1 => b * 12 / 10
    | 2 => b * 15 / 10
    | _ => b * 18 / 10

/-- The rate is divided by 1.001. -/
def fmtDivided (f : Nat) : Bool := fmtDiv f && fmtRaster f != 0

/-- The essence rate of a format in kbit/s, rounded up (R174, R188). -/
def fmtKbps (f : Nat) : Nat := if fmtDivided f then ceilDiv (fmtFullKbps f * 1000) 1001 else fmtFullKbps f

/-- Samples in a picture line. -/
def fmtWidth (f : Nat) : Nat :=
  match fmtRaster f with
  | 0 => 720
  | 1 => 720
  | 2 => 1280
  | 6 => 3840
  | 7 => 7680
  | _ => 1920

/-- Picture lines in a frame. -/
def fmtHeight (f : Nat) : Nat :=
  match fmtRaster f with
  | 0 => 486
  | 1 => 576
  | 2 => 720
  | 6 => 2160
  | 7 => 4320
  | _ => 1080

/-- Picture lines that one essence line holds (R174). -/
def fmtLinesPer (f : Nat) : Nat :=
  match fmtRaster f with
  | 6 => 2
  | 7 => 4
  | _ => 1

/-- Bits per component. -/
def fmtDepth (f : Nat) : Nat := if fmtSampling f % 2 = 0 then 10 else 12

/-- A 4:2:2 format. -/
def fmt422 (f : Nat) : Bool := decide (fmtSampling f < 2)

/-- Components per sample, over a pair of samples halved: two for 4:2:2, three for 4:4:4. -/
def fmtComps (f : Nat) : Nat := if fmt422 f then 2 else 3

/-- Components in an essence line. -/
def fmtLineComps (f : Nat) : Nat := fmtWidth f * fmtLinesPer f * fmtComps f

/-- Picture words of an essence line (R174). -/
def fmtWords (f : Nat) : Nat := ceilDiv (fmtLineComps f * fmtDepth f) 512

/-- TOTAL_LINES of a format's raster (R173). -/
def fmtTotalLines (f : Nat) : Nat :=
  match fmtRaster f with
  | 0 => 525
  | 1 => 625
  | 2 => 750
  | _ => 1125

/-- An interlaced raster. -/
def fmtInterlaced (f : Nat) : Bool := fmtRaster f == 0 || fmtRaster f == 1 || fmtRaster f == 3

/-- The RATE codes that DIV and HIGH name (R173). -/
def fmtRateOk (f rate : Nat) : Bool :=
  match fmtDiv f, fmtHigh f with
  | false, false => rate == 1 || rate == 2 || rate == 4
  | true, false => rate == 0 || rate == 3
  | false, true => rate == 6 || rate == 7 || rate == 9
  | true, true => rate == 5 || rate == 8

/-- Timing domain `n` matches a format (R173). -/
def State.tdMatches (s : State) (n f : Nat) : Bool :=
  fmtRateOk f (s.fld F.REF_TD_CFG_RATE n) && s.flag F.REF_TD_CFG_SCAN n == fmtInterlaced f
    && s.totalLines n == fmtTotalLines f

/-! ### Packing (R175) -/

/-- Components as one number, the first in the most significant place. -/
def packComps (depth : Nat) (cs : List Nat) : Nat := cs.foldl (fun a c => a * 2 ^ depth + c % 2 ^ depth) 0

/-- Components packed into 64-byte words without gaps, most significant bit first, the last word padded with 0. -/
def packWords (depth : Nat) (cs : List Nat) : List (List Byte) :=
  let bits := depth * cs.length
  let n := ceilDiv bits 512
  let v := packComps depth cs * 2 ^ (n * 512 - bits)
  (List.range n).map (fun w => beBytes 64 (v / 2 ^ ((n - 1 - w) * 512)))

/-- The component at a place of packed words. -/
def compAt (depth : Nat) (words : List (List Byte)) (k : Nat) : Nat :=
  let lo := k * depth
  let b := lo / 8
  let byteAt (j : Nat) : Nat := ((words.getD (j / 64) []).getD (j % 64) 0).toNat
  let v := byteAt b * 65536 + byteAt (b + 1) * 256 + byteAt (b + 2)
  v / 2 ^ (24 - lo % 8 - depth) % 2 ^ depth

/-- One black component of R122, by its place. -/
def blackComp (f k : Nat) : Nat :=
  let y := 0x40 * 2 ^ (fmtDepth f - 10)
  let c := 0x200 * 2 ^ (fmtDepth f - 10)
  if fmtRgb f then 0x40
  else if fmt422 f then (if k % 2 = 0 then c else y)
  else (if k % 3 = 1 then y else c)

/-- The words of a black line of a format (R122). -/
def blackWords (f : Nat) : List (List Byte) :=
  packWords (fmtDepth f) ((List.range (fmtLineComps f)).map (blackComp f))

end Sys2Proof.Machine
end

