-- ==== Sys2Proof/Machine/Pipe.lean ====
section
/-!
DEFINITION. The conversion chain of a Picture Pipe (R296 to R303): matrices, curves, chroma filters and the Enlarger, as
exact integer arithmetic over the lines of one source frame.
-/

namespace Sys2Proof.Machine

/-- The largest 20-bit value. -/
def max20 : Int := 1048575

/-- A quotient by a power of two, halves upward. -/
def roundShift (x : Int) (k : Nat) : Int := (x + (2 ^ (k - 1) : Nat)) / (2 ^ k : Nat)

/-- Three components. -/
structure Tri where
  a : Int
  b : Int
  c : Int
  deriving DecidableEq, Repr

/-! ### Matrices and curves -/

/-- Word `w` of matrix set `m` (R299): set 0 is the identity, sets 1 to 6 are built in. -/
def State.matWord (s : State) (m w : Nat) : Int :=
  if m = 0 then (if w = 0 ∨ w = 4 ∨ w = 8 then 16384 else 0)
  else if m ≤ 6 then Config.builtinMat m w
  else
    let v := (s.reg .WCOMP_MAT (15 * m + w)).toNat
    if w < 9 then signed 18 v else signed 21 v

/-- One output component of a matrix (R297). -/
def State.matRow (s : State) (m r : Nat) (v : Tri) : Int :=
  let k (c : Nat) (x : Int) : Int := s.matWord m (3 * r + c) * (x + s.matWord m (9 + c))
  clampInt 0 max20 (roundShift (k 0 v.a + k 1 v.b + k 2 v.c) 14 + s.matWord m (12 + r))

/-- A matrix set applied to three components (R297). -/
def State.matrix (s : State) (m : Nat) (v : Tri) : Tri := ⟨s.matRow m 0 v, s.matRow m 1 v, s.matRow m 2 v⟩

/-- The value at which the step of entry `i` starts, by the segments of R298. -/
def segStart (i : Nat) : Nat :=
  if i < 512 then i * 16 else 2 ^ (12 + i / 512) + i % 512 * 2 ^ (3 + i / 512)

/-- A number over a denominator, rounded to the nearest integer, halves upward, and clamped to 20 bits (R299). -/
def nearest20 (num den : Nat) : Nat := min 1048575 ((2 * num + den) / (2 * den))

/-- Entry `i` of curve table `t` (R298, R299): tables 0 and 4 are linear, 1 to 3 and 5 to 7 built in. -/
def State.curveEntry (s : State) (t i : Nat) : Int :=
  if t = 0 then nearest20 (i * 65536) 4095
  else if t = 4 then nearest20 (256 * 4095 * segStart i) 65536
  else if t ≤ 7 then Config.builtinCurve t i
  else s.fld F.WCOMP_LUT_E (4096 * t + i)

/-- The forward curve (R298). -/
def State.forwardCurve (s : State) (t : Nat) (v : Int) : Int := s.curveEntry t (min 4095 ((v + 128) / 256).toNat)

/-- The index and fraction of a value under the segmented rule of R298: the index, f, and b. -/
def segIndex (v : Nat) : Nat × Nat × Nat :=
  if v < 8192 then (v / 16, v % 16, 4)
  else
    let k := Nat.log2 v - 12
    (512 * k + (v - 2 ^ (12 + k)) / 2 ^ (3 + k), v % 2 ^ (3 + k), 3 + k)

/-- A segmented table read with interpolation (R298, R324). -/
def segRead (e : Nat → Int) (v : Int) : Int :=
  let (i, f, b) := segIndex v.toNat
  if i ≥ 4095 then e 4095 else e i + ((e (i + 1) - e i) * f + (2 ^ (b - 1) : Nat)) / (2 ^ b : Nat)

/-- The inverse curve (R298). -/
def State.inverseCurve (s : State) (t : Nat) (v : Int) : Int := segRead (s.curveEntry t) v

/-! ### The source -/

/-- A source frame with its crop, and the choices of a profile (R300). -/
structure PipeSrc where
  fmt : Nat
  lines : List PoolLine
  cx : Nat
  cy : Nat
  cw : Nat
  ch : Nat
  prof1 : Word
  prof2 : Word
  deriving DecidableEq, Repr

/-- The raster line that holds a picture row, and the row's place in it (R175; an interlaced picture is woven, R296). -/
def fmtRowLine (f row : Nat) : Nat × Nat :=
  if fmtInterlaced f then (Config.activeLine f (row % 2 == 1) (row / 2), 0)
  else (Config.activeLine f false (row / fmtLinesPer f), row % fmtLinesPer f)

/-- The words of a raster line, black where it is not held (R122). -/
def PipeSrc.lineWords (p : PipeSrc) (line : Nat) : List (List Byte) :=
  match p.lines.find? (fun l => l.line == line) with
  | some l => l.words
  | none => blackWords p.fmt

/-- Component `k` of a picture row, by its place in the row. -/
def PipeSrc.comp (p : PipeSrc) (row k : Nat) : Int :=
  let (line, sub) := fmtRowLine p.fmt row
  compAt (fmtDepth p.fmt) (p.lineWords line) (sub * fmtWidth p.fmt * fmtComps p.fmt + k)

/-- A chroma sample at an even position, the edge sample of the crop repeated (R301). -/
def PipeSrc.chroma (p : PipeSrc) (row : Nat) (red : Bool) (x : Int) : Int :=
  let lo := p.cx / 2 * 2
  let hi := (p.cx + p.cw - 1) / 2 * 2
  let e := (clampInt lo hi x).toNat
  p.comp row (2 * e + (if red then 2 else 0))

/-- The chroma at any position (R301). -/
def PipeSrc.chromaAt (p : PipeSrc) (row : Nat) (red : Bool) (x : Nat) : Int :=
  if x % 2 = 0 then p.chroma row red x
  else if F.WCOMP_PROF2_CHROMA_IN.of p.prof2 = 0 then p.chroma row red (x - 1 : Int)
  else
    let c (d : Int) : Int := p.chroma row red ((x : Int) + d)
    clampInt 0 ((2 ^ fmtDepth p.fmt : Nat) - 1) (roundShift (9 * (c (-1) + c 1) - c (-3) - c 3) 4)

/-- The three components of a source sample at 20 bits, in the order Y, Cb, Cr or R, G, B (R296 stages 1 and 2). -/
def PipeSrc.sample (p : PipeSrc) (row x : Nat) : Tri :=
  let k : Int := (2 ^ (20 - fmtDepth p.fmt) : Nat)
  if fmt422 p.fmt then ⟨k * p.comp row (2 * x + 1), k * p.chromaAt row false x, k * p.chromaAt row true x⟩
  else if fmtRgb p.fmt then ⟨k * p.comp row (3 * x), k * p.comp row (3 * x + 1), k * p.comp row (3 * x + 2)⟩
  else ⟨k * p.comp row (3 * x + 1), k * p.comp row (3 * x), k * p.comp row (3 * x + 2)⟩

/-- A working value of the source (R296 stages 3 to 5). -/
def State.working (s : State) (p : PipeSrc) (row x : Nat) : Tri :=
  let v := s.matrix (F.WCOMP_PROF_M1.of p.prof1) (p.sample row x)
  let t := F.WCOMP_PROF_TF_IN.of p.prof1
  s.matrix (F.WCOMP_PROF_M2.of p.prof1) ⟨s.forwardCurve t v.a, s.forwardCurve t v.b, s.forwardCurve t v.c⟩

/-! ### The Enlarger (R302, R303) -/

/-- Sixty-four times the source position of output sample `x`, rounded to a phase. -/
def enlargerPos (c cw sw x : Nat) : Int :=
  64 * (c : Int) + (2 * (64 * ((2 * x + 1) * cw : Nat) - 64 * (sw : Int)) + 2 * sw) / (4 * sw : Nat)

/-- The taps of a pass: (source position, coefficient), and the shift of their sum. -/
def State.taps (s : State) (vertical : Bool) (enl c cw sw x : Nat) : List (Int × Int) × Nat :=
  let t := enlargerPos c cw sw x
  let b := t / 64
  let ph := (t % 64).toNat
  match enl with
  | 0 => ([((c : Int) + ((2 * x + 1) * cw / (2 * sw) : Nat), 1)], 0)
  | 1 => ([(b, 64 - (ph : Int)), (b + 1, (ph : Int))], 6)
  | _ =>
    let n := if vertical then 6 else 8
    let coef (k : Nat) : Int :=
      if enl = 2 then Config.polyphase vertical sw cw ph k
      else if vertical then signed 12 (s.reg .WCOMP_ENL_V (6 * ph + k)).toNat
      else signed 12 (s.reg .WCOMP_ENL_H (8 * ph + k)).toNat
    ((List.range n).map (fun (k : Nat) => (b + (k : Int) - (n / 2 - 1 : Nat), coef k)), 10)

/-- The sum of taps, exact, rounded and clamped. -/
def tapSum (l : List (Int × Int)) (shift : Nat) : Int :=
  let v := l.foldl (fun a e => a + e.1 * e.2) 0
  clampInt 0 max20 (if shift = 0 then v else roundShift v shift)

/-- Taps applied to three components. -/
def tapTri (f : Int → Tri) (t : List (Int × Int) × Nat) : Tri :=
  let at_ := t.1.map (fun e => (f e.1, e.2))
  ⟨tapSum (at_.map (fun e => (e.1.a, e.2))) t.2, tapSum (at_.map (fun e => (e.1.b, e.2))) t.2,
    tapSum (at_.map (fun e => (e.1.c, e.2))) t.2⟩

/-- The Enlarger's output at (x, y) of a result of size sw × sh: the horizontal pass, then the vertical pass, samples outside
the crop taking the value of the nearest inside it. -/
def State.enlarged (s : State) (p : PipeSrc) (sw sh x y : Nat) : Tri :=
  let enl := F.WCOMP_PROF2_ENL.of p.prof2
  let col (row : Nat) : Tri :=
    tapTri (fun u => s.working p row (clampInt p.cx (p.cx + p.cw - 1 : Nat) u).toNat) (s.taps false enl p.cx p.cw sw x)
  tapTri (fun u => col (clampInt p.cy (p.cy + p.ch - 1 : Nat) u).toNat) (s.taps true enl p.cy p.ch sh y)

/-! ### The result of a VOUT's pipe (R296 stages 7 to 10) -/

/-- The code values of an output sample before the chroma filter. -/
def State.outCode (s : State) (p : PipeSrc) (g x y : Nat) : Tri :=
  let v := s.enlarged p (fmtWidth g) (fmtHeight g) x y
  let t := F.WCOMP_PROF_TF_OUT.of p.prof1
  s.matrix (F.WCOMP_PROF2_M3.of p.prof2) ⟨s.inverseCurve t v.a, s.inverseCurve t v.b, s.inverseCurve t v.c⟩

/-- A 20-bit code at the output depth (R296 stage 10). -/
def outDepth (g : Nat) (v : Int) : Nat :=
  let b := fmtDepth g
  (clampInt (if b = 10 then 0x004 else 0x010) (if b = 10 then 0x3FB else 0xFEF) (roundShift v (20 - b))).toNat

/-- The chroma of an even output sample (R301). -/
def outChroma (filter : Bool) (w x : Nat) (f : Nat → Int) : Int :=
  if filter then roundShift (f (x - 1) + 2 * f x + f (min (w - 1) (x + 1))) 2 else f x

/-- The components of one output row, in the order of R175. -/
def State.outRow (s : State) (p : PipeSrc) (g y : Nat) : List Nat :=
  let w := fmtWidth g
  let code (x : Nat) : Tri := s.outCode p g x y
  let filter := F.WCOMP_PROF2_CHROMA_OUT.of p.prof2 = 1
  if fmt422 g then
    (List.range (w / 2)).flatMap (fun k =>
      let x := 2 * k
      [outDepth g (outChroma (decide filter) w x (fun u => (code u).b)), outDepth g (code x).a,
        outDepth g (outChroma (decide filter) w x (fun u => (code u).c)), outDepth g (code (x + 1)).a])
  else
    (List.range w).flatMap (fun x =>
      let v := code x
      if fmtRgb g then [outDepth g v.a, outDepth g v.b, outDepth g v.c] else [outDepth g v.b, outDepth g v.a, outDepth g v.c])

/-- The picture rows that a raster line of a format holds. -/
def fmtLineRows (g line : Nat) : List Nat := (List.range (fmtHeight g)).filter (fun r => (fmtRowLine g r).1 == line)

/-- The words of a raster line of the converted picture: none in vertical blanking. -/
def State.outWords (s : State) (p : PipeSrc) (g line : Nat) : List (List Byte) :=
  packWords (fmtDepth g) ((fmtLineRows g line).flatMap (s.outRow p g))

/-- The whole source as a crop. -/
def wholeSrc (fmt : Nat) (lines : List PoolLine) (p1 p2 : Word) : PipeSrc :=
  ⟨fmt, lines, 0, 0, fmtWidth fmt, fmtHeight fmt, p1, p2⟩

/-- The words of profile `k`. -/
def State.profWords (s : State) (k : Nat) : Word × Word := (s.reg .WCOMP_PROF k, s.reg .WCOMP_PROF2 k)

/-- The words of the profile in effect for a pipe's user (R300). -/
def State.userProf (s : State) (user k : Nat) : Word × Word := s.wcomp.profIn.get (s.profWords k) user

/-- Logical pipe `q` has no unit, or its unit failed in this frame (R295). -/
def State.pipeDark (s : State) (q : Nat) : Bool := s.flag F.WCOMP_PIPE_STAT_NO_UNIT q || s.wcomp.out.contains q

/-- The line of a pipe's result for VOUT `o` of format `g` (R181, R295, R296): from the frame that the pipe's store shows;
black and not present while the pipe is dark. -/
def State.pipeLine (s : State) (q o g line frame : Nat) : Option PoolLine :=
  (s.xpt.pipeFs.find? q).bind (fun x => x.shown.map (fun f =>
    let (p1, p2) := s.userProf o (s.wcomp.prof.get 0 o)
    if s.pipeDark q then ⟨line, frame, false, blackWords g, [], [], []⟩
    else ⟨line, frame, f.lines.any (·.present),
      s.outWords (wholeSrc (s.xpt.vin.get .reset x.vin).fmt f.lines p1 p2) g line, [], [], []⟩))

end Sys2Proof.Machine
end

