-- ==== Sys2Proof/Machine/Xpt.lean ====
section
/-!
DEFINITION. The essence crosspoint (chapter 07) and the plane rules of chapter 01: slices and capacity (R16, R167, R191),
storage and the Overlap Window (R170 to R172), admission (R20 to R24, R178, R188, R189), synchronisers (R180), loss of
capacity (R25 to R28), the line check and the merge (R18, R19, R185 to R187).
-/

namespace Sys2Proof.Machine

/-! ### Capacity -/

/-- The state of a slice (R194): 0 active, 1 spare, 2 draining, 3 under BIST, 4 retired, 5 UNUSABLE. -/
def State.sliceState (s : State) (k : Nat) : Nat := s.fld F.XPT_SLICE_STAT_STATE k

/-- The slices of plane 0 (A) or 1 (B). -/
def planeSlices (p : Nat) : List Nat := (List.range 9).map (fun k => 9 * p + k)

/-- How many slices of a plane are in a state that satisfies a test. -/
def State.countSlices (s : State) (p : Nat) (t : Nat → Bool) : Nat :=
  ((planeSlices p).filter (fun k => t (s.sliceState k))).length

/-- A slice in the Vault that has passed its last run, with none waiting or in progress (R442). -/
def State.sliceReady (s : State) (k : Nat) : Bool :=
  s.sliceState k == 1 && s.fld F.VAULT_LG_BIST_VERDICT k == 1 && !s.vault.running.contains k
    && !s.vault.queue.any (fun q => q.target == k)

/-- U(p) of R16: slices neither retired nor UNUSABLE; one parked or under BIST counts while a replacement carries its load;
0 until the start-up BIST has striped the planes. -/
def State.usable (s : State) (p : Nat) : Nat :=
  if s.flag F.XPT_STAT_INIT_DONE 0 then
    let carrying := s.countSlices p (fun x => x == 0 || x == 2)
    let ready := ((planeSlices p).filter s.sliceReady).length
    let parked := s.countSlices p (fun x => x == 1 || x == 3) - ready
    carrying + ready + (if 8 ≤ carrying then parked else 0)
  else 0

/-- Slices in service: k of R167. -/
def State.stripes (s : State) (p : Nat) : Nat := min 8 (s.usable p)

/-- Cap(p) in kbit/s (R16). -/
def State.cap (s : State) (p : Nat) : Nat := 400000000 * s.stripes p

/-- The slice of plane `p` that holds word `w` of a line (R167). -/
def State.sliceOf (s : State) (p w : Nat) : Nat :=
  let pos := w % max 1 (s.stripes p)
  ((planeSlices p).find? (fun k => (s.sliceState k == 0 || s.sliceState k == 2)
    && s.fld F.XPT_SLICE_STAT_POS k == pos)).getD (9 * p + pos)

/-! ### Storage (R170, R171) -/

/-- OVERLAP as written. -/
def State.overlap (s : State) : Nat := s.fld F.XPT_CFG_OVERLAP 0

/-- The words reserved, in line strides times one (R170). -/
def State.storeTotal (s : State) : Nat := s.xpt.store.entries.foldl (fun a e => a + e.2) 0

/-- The budget of a plane in 64-byte words (R170). -/
def State.storeBudget (s : State) (p : Nat) : Nat := (s.stripes p - 1) * 65536

/-- Reservations of `total` line strides fit a plane at storage value `z`. -/
def State.fitsAt (s : State) (p total z : Nat) : Bool := decide (total * (2 * z + 2) ≤ s.storeBudget p)

/-- The largest value up to `z` at which the reservations fit, else 0. -/
def State.largestFit (s : State) (p total : Nat) : Nat → Nat
  | 0 => 0
  | z + 1 => if s.fitsAt p total (z + 1) then z + 1 else s.largestFit p total z

/-- OVL_EFF of a plane, the value that the domains take at their Shutters (R171). -/
def State.ovlEff (s : State) (p : Nat) : Nat := s.largestFit p s.storeTotal s.overlap

/-- The value in force for a domain in a plane (R171). -/
def State.ovlForce (s : State) (p n : Nat) : Nat := s.xpt.ovl.get 2 (8 * p + n)

/-- OVL_REDUCED of a plane. -/
def State.ovlReduced (s : State) (p : Nat) : Bool := decide (s.ovlEff p < s.overlap)

/-- The greatest value in force for a running domain. -/
def State.ovlInForce (s : State) (p : Nat) : Nat :=
  (List.range 8).foldl (fun a n => if s.tdEn n then max a (s.ovlForce p n) else a) 0

/-- Z(p) of R171. -/
def State.storeZ (s : State) (p : Nat) : Nat := if s.ovlReduced p then s.ovlEff p else max s.overlap (s.ovlInForce p)

/-- The reservations fit both planes at their storage values with a total of `total` strides. -/
def State.storeFits (s : State) (total : Nat) : Bool :=
  s.fitsAt 0 total (s.storeZ 0) && s.fitsAt 1 total (s.storeZ 1)

/-- The line stride of a format (R170). -/
def fmtStride (f : Nat) : Nat := fmtWords f + 64

/-- Storage for an essence is reserved, if it fits (R170). -/
def State.reserveStore (s : State) (e stride : Nat) : Option State :=
  if s.storeFits (s.storeTotal - s.xpt.store.get 0 e + stride) then
    some { s with xpt := { s.xpt with store := s.xpt.store.set e stride, dropped := s.xpt.dropped.erase e } }
  else none

/-- The reservation of an essence is released. -/
def State.releaseStore (s : State) (e : Nat) : State :=
  { s with xpt := { s.xpt with store := s.xpt.store.erase e, dropped := s.xpt.dropped.erase e,
                               pool := s.xpt.pool.erase e } }

/-! ### VINs -/

/-- What the crosspoint knows of a VIN. -/
def State.vinRec (s : State) (v : Nat) : VinRec := s.xpt.vin.get .reset v

/-- The VIN's record replaced. -/
def State.setVin (s : State) (v : Nat) (x : VinRec) : State := { s with xpt := { s.xpt with vin := s.xpt.vin.set v x } }

/-- The timing domain of a VIN. -/
def State.vinTd (s : State) (v : Nat) : Nat := s.fld F.XPT_VIN_CFG_TD v

/-- XPT_VIN_STAT.PRESENT (R170, R172). -/
def State.vinPresent (s : State) (v : Nat) : Bool :=
  let x := s.vinRec v
  x.feeder && x.present && !x.noStore

/-- The routes of a destination. -/
def State.routes (s : State) (d : Nat) : RouteSet := s.xpt.rt.get .reset d

/-- The routes of a destination replaced. -/
def State.setRoutes (s : State) (d : Nat) (x : RouteSet) : State := { s with xpt := { s.xpt with rt := s.xpt.rt.set d x } }

/-- The destinations that have had a route. -/
def State.dests (s : State) : List Nat := s.xpt.rt.keys

/-- Every admitted, pending or requested route of a destination. -/
def RouteSet.all (x : RouteSet) : List Route := x.committed.toList ++ x.pending.toList ++ x.request.toList

/-- An admitted or pending route reads a VIN (R172). -/
def State.vinRead (s : State) (v : Nat) : Bool := s.dests.any (fun d => (s.routes d).all.any (fun r => r.vin == v))

/-- Storage for a VIN's essence is reserved, or NO_STORE is set (R170). -/
def reserveVin (v fmt : Nat) (s : State) : State :=
  match s.reserveStore v (fmtStride fmt) with
  | some t => t
  | none => (s.setVin v { s.vinRec v with noStore := true }).raise Src.XPT_NO_STORE

/-- A feeder of a VIN may be enabled (R117, R172). -/
def State.mayAttach (s : State) (v fmt : Nat) : Bool :=
  let x := s.vinRec v
  !x.feeder && (!s.vinRead v || x.fmt == fmt)

/-- A feeder of kind 1 SDI, 2 IP or 3 Uhlat is enabled for a VIN (R170, R172). A format of 0 is not known yet. -/
def attachVin (v kind fmt map din10 : Nat) (s : State) : State :=
  let held := (s.xpt.store.find? v).isSome && s.vinRead v
  let x : VinRec := { s.vinRec v with fmt := fmt, kind := kind, feeder := true, shown := kind, present := false,
                                      noStore := false, map := map, din10 := din10 }
  let t := (if held then s else s.releaseStore v).setVin v x
  let t := { t with xpt := { t.xpt with leaving := t.xpt.leaving.filter (· != v) } }
  if held ∨ fmt = 0 then t else reserveVin v fmt t

/-- A VIN's feeder is disabled (R172). -/
def detachVin (v : Nat) (s : State) : State := s.setVin v { s.vinRec v with feeder := false, present := false }

/-- A VIN's signal presence. -/
def setVinPresent (v : Nat) (b : Bool) (s : State) : State := s.setVin v { s.vinRec v with present := b }

/-! ### Margins (R176) -/

/-- The union of two ranges. -/
def joinRange (a b : Option (Int × Int)) : Option (Int × Int) :=
  match a, b with
  | some (l, h), some (l', h') => some (min l l', max h h')
  | some x, none => some x
  | none, y => y

/-- The least and greatest margin of a list of words. -/
def marginRange (ms : List Int) : Option (Int × Int) :=
  ms.foldl (fun a m => joinRange a (some (m, m))) none

/-- The margins of a VIN over the last two frames, in word-clock periods, if it is aligned with its domain (R176). -/
def State.vinMargins (s : State) (v : Nat) : Option (Int × Int) :=
  let x := s.vinRec v
  if s.tdMatches (s.vinTd v) x.fmt then x.mlast.foldl joinRange none else none

/-- A margin in word-clock periods as XPT_VIN_MMIN shows it, in whole ns. -/
def marginNs (p : Int) : Int := p * 1000 / 297

/-- At a Shutter of its domain, a VIN's frame of margins is complete. -/
def closeMargins (n : Nat) (s : State) : State :=
  { s with xpt := { s.xpt with vin := s.xpt.vin.map (fun v x =>
    if s.vinTd v = n then { x with mcur := none, mlast := (x.mcur :: x.mlast).take 2 } else x) } }

/-! ### Loads (R22, R188) -/

/-- One charged route with its destination and its place: committed, pending or requested. -/
structure RouteItem where
  dest : Nat
  slot : Nat
  r : Route
  deriving DecidableEq, Repr

/-- The routes of a destination that count in the loads: a request replaces the committed route, whose load is already
removed (R23); beside a pending route the one that it replaces stays reserved (R180). -/
def chargedOf (d : Nat) (x : RouteSet) : List RouteItem :=
  match x.request, x.pending with
  | some q, _ => [⟨d, 2, q⟩]
  | none, some p => (x.committed.toList.map (fun c => ⟨d, 0, c⟩)) ++ [⟨d, 1, p⟩]
  | none, none => x.committed.toList.map (fun c => ⟨d, 0, c⟩)

/-- Every charged route. -/
def State.charged (s : State) : List RouteItem := s.xpt.rt.entries.flatMap (fun e => chargedOf e.1 e.2)

/-- Every charged route of another destination. -/
def State.chargedBut (s : State) (d : Nat) : List RouteItem := s.charged.filter (fun i => i.dest != d)

/-- A route reads plane `p`: class P both planes, class T and demoted routes their own (R17, R18, R25). -/
def Route.reads (r : Route) (p : Nat) : Bool :=
  if r.classP && !r.demoted then true else r.planeB == (p == 1)

/-- The essences that a route has written into its planes: the VIN, and a synchronised or pipe-result essence (R188). A
layer's pipe writes no result essence (R306). -/
def RouteItem.sources (i : RouteItem) : List (Nat × Nat) :=
  (i.r.vin, i.r.srcRate) ::
    (if i.r.path = 1 then [(1024 + i.r.unit, i.r.srcRate)]
     else if i.r.path = 2 ∧ i.dest < 1024 then [(2048 + i.r.unit, i.r.outRate)] else [])

/-- The first entry for each key. -/
def distinctKeys : List (Nat × Nat) → List (Nat × Nat)
  | [] => []
  | (k, v) :: t => (k, v) :: (distinctKeys t).filter (fun e => e.1 != k)

/-- Load(p, in) of a list of routes, in kbit/s: each distinct source once (R22). -/
def loadIn (p : Nat) (l : List RouteItem) : Nat :=
  (distinctKeys ((l.filter (fun i => i.r.reads p)).flatMap RouteItem.sources)).foldl (fun a e => a + e.2) 0

/-- Load(p, out) of a list of routes, in kbit/s. -/
def loadOut (p : Nat) (l : List RouteItem) : Nat :=
  (l.filter (fun i => i.r.reads p)).foldl (fun a i => a + i.r.outRate) 0

/-- Load(p, d) ≤ Cap(p) for a plane in both directions. -/
def State.planeFits (s : State) (p : Nat) (l : List RouteItem) : Bool :=
  decide (loadIn p l ≤ s.cap p) && decide (loadOut p l ≤ s.cap p)

/-- The excess of a plane: the greater of Load − Cap in its directions, 0 where it fits. -/
def State.excess (s : State) (p : Nat) (l : List RouteItem) : Nat := max (loadIn p l) (loadOut p l) - s.cap p

/-- The short plane that R25 acts on: the one with the greater excess, plane A on a tie. -/
def State.shortPlane (s : State) (l : List RouteItem) : Option Nat :=
  let a := s.excess 0 l
  let b := s.excess 1 l
  if a = 0 ∧ b = 0 then none else if a < b then some 1 else some 0

/-- Step 2 of R25 is in force: a route is demoted, or a plane is short. -/
def State.degraded (s : State) : Bool := s.charged.any (fun i => i.r.demoted) || (s.shortPlane s.charged).isSome

/-- Admitted HBM traffic of a stack in MB/s, all users (R188, R307). -/
def State.hbmLoad (s : State) (h : Nat) : Nat :=
  s.xpt.hbm.entries.foldl (fun a e => a + if h = 0 then e.2.1 else e.2.2) 0

/-- 92 % of 819 GB/s in MB/s (R21). -/
def hbmLimit : Nat := 753480

/-- A user's HBM terms on stacks A and B. -/
def State.setHbm (s : State) (user a b : Nat) : State :=
  { s with xpt := { s.xpt with hbm := if a = 0 ∧ b = 0 then s.xpt.hbm.erase user else s.xpt.hbm.set user (a, b) } }

/-- A user's HBM terms fit beside the others'. -/
def State.hbmFits (s : State) (user a b : Nat) : Bool :=
  let old := s.xpt.hbm.get (0, 0) user
  decide (s.hbmLoad 0 - old.1 + a ≤ hbmLimit) && decide (s.hbmLoad 1 - old.2 + b ≤ hbmLimit)

/-! ### Frame stores (R180, R181) -/

/-- The units of 64 KiB that a buffer of 3 × TOTAL_LINES line strides takes (R180). -/
def State.fsUnits (s : State) (n fmt : Nat) : Nat := ceilDiv (3 * s.totalLines n * fmtStride fmt * 64) 65536

/-- Units in use on a stack, by synchronisers and pipe stores. -/
def State.fsUsed (s : State) (h : Nat) : Nat :=
  (s.xpt.sync.entries ++ s.xpt.pipeFs.entries).foldl (fun a e => if e.2.stack = h then a + e.2.units else a) 0

/-- The stack with the lower admitted HBM load, A on a tie. -/
def State.lowerStack (s : State) : Nat := if s.hbmLoad 1 < s.hbmLoad 0 then 1 else 0

/-- The buffer fits the region of its stack (R180). -/
def State.fsRegionFits (s : State) (h units : Nat) : Bool :=
  decide (s.fsUsed h + units ≤ s.fld F.XPT_FS_REGION_LEN h * 16)

/-- The synchroniser of a VIN in a domain. -/
def State.findSync (s : State) (v n : Nat) : Option Nat :=
  (s.xpt.sync.entries.find? (fun e => e.2.vin == v && e.2.td == n)).map (·.1)

/-- The lowest free synchroniser. -/
def State.freeSync (s : State) : Option Nat :=
  (List.range 512).find? (fun j => (s.xpt.sync.find? j).isNone)

/-- HBM traffic of a frame store in MB/s, rounded up: 2 × R / 8 (R188). -/
def fsMbps (kbps : Nat) : Nat := ceilDiv kbps 4000

/-- A new synchroniser for a VIN in a domain: its number and the state that holds it, or refusal 7 FSYNC or 3 HBM. -/
def newSync (v n : Nat) (armed : Bool) (s : State) : Except Nat (Nat × State) :=
  let fmt := (s.vinRec v).fmt
  let h := s.lowerStack
  let units := s.fsUnits n fmt
  let mb := fsMbps (fmtKbps fmt)
  match s.freeSync with
  | none => .error 7
  | some j =>
    if !s.fsRegionFits h units then .error 7
    else match s.reserveStore (1024 + j) (fmtStride fmt) with
      | none => .error 7
      | some t =>
        let a := if h = 0 then mb else 0
        let b := if h = 1 then mb else 0
        if t.hbmFits j a b then
          let x : FsSync := ⟨v, n, h, units, mb, armed, [], none⟩
          .ok (j, { t with xpt := { t.xpt with sync := t.xpt.sync.set j x } }.setHbm j a b)
        else .error 3

/-- A frame store holds a whole frame. -/
def FsSync.ready (x : FsSync) : Bool := x.frames.any (·.whole)

/-- A route or FS_ARM uses synchroniser `j`. -/
def State.syncUsed (s : State) (j : Nat) : Bool :=
  (match s.xpt.sync.find? j with | some x => x.armed | none => false)
    || s.dests.any (fun d => ((s.routes d).all ++ (s.routes d).prev.toList).any (fun r => r.path == 1 && r.unit == j))

/-- Synchronisers that nothing uses are given up. -/
def dropSyncs (s : State) : State :=
  s.xpt.sync.keys.foldl (fun t j =>
    if t.syncUsed j then t
    else { t.releaseStore (1024 + j) with xpt := { (t.releaseStore (1024 + j)).xpt with sync := t.xpt.sync.erase j } }.setHbm j 0 0) s

/-- The logical pipe given to a user: 1 a VOUT, 2 a layer (R294). -/
def State.pipeOf (s : State) (user index : Nat) : Option Nat :=
  (List.range 16).find? (fun q => s.fld F.WCOMP_PIPE_CFG_USER q == user && s.fld F.WCOMP_PIPE_CFG_INDEX q == index)

/-- A pipe's frame store for a VIN in a domain: made anew unless it serves the same VIN (R181). `key` is the pipe, or
16 + pipe for the store of a request while a committed one goes on. -/
def newPipeFs (q v n mb stride : Nat) (s : State) : Except Nat State :=
  match s.xpt.pipeFs.find? q with
  | some x => if x.vin = v then .ok s else
      .ok { s with xpt := { s.xpt with pipeFs := s.xpt.pipeFs.set q { x with vin := v, td := n, frames := [], shown := none } } }
  | none =>
    let h := s.lowerStack
    let units := s.fsUnits n (s.vinRec v).fmt
    if !s.fsRegionFits h units then .error 7
    else
      let t? := if stride = 0 then some s else s.reserveStore (2048 + q) stride
      match t? with
      | none => .error 7
      | some t =>
        let a := if h = 0 then mb else 0
        let b := if h = 1 then mb else 0
        if t.hbmFits (1000 + q) a b then
          let x : FsSync := ⟨v, n, h, units, mb, false, [], none⟩
          .ok ({ t with xpt := { t.xpt with pipeFs := t.xpt.pipeFs.set q x } }.setHbm (1000 + q) a b)
        else .error 3

/-- Pipe stores that no route uses are given up. -/
def dropPipeFs (s : State) : State :=
  s.xpt.pipeFs.keys.foldl (fun t q =>
    if t.dests.any (fun d => ((t.routes d).all ++ (t.routes d).prev.toList).any (fun r => r.path == 2 && r.unit == q)) then t
    else
      let u := t.releaseStore (2048 + q)
      { u with xpt := { u.xpt with pipeFs := u.xpt.pipeFs.erase q } }.setHbm (1000 + q) 0 0) s

/-! ### Admission (R20 to R24, R178, R188, R189) -/

/-- The sender of a VOUT: 0 none, 1 SDI framer, 2 Uhlat stream, 3 IP sender. -/
def State.sender (s : State) (o : Nat) : Nat :=
  if (List.range 128).any (fun n => s.flag F.SDI_TX_CFG_EN n && (s.fld F.SDI_TX_CFG_VOUT n == o
      || (s.fld F.SDI_TX_CFG_MAP n == 2 && s.fld F.SDI_TX_CFG2_VOUT2 n == o))) then 1
  else if (List.range 768).any (fun k => s.flag F.ULINK_TXV_EN k && s.fld F.ULINK_TXV_VOUT k == o) then 2
  else if (List.range 2048).any (fun k => s.flag F.MPORT_TXC_CFG_EN k
      && (s.fld F.MPORT_TXC_CFG_TYPE k == 0 || s.fld F.MPORT_TXC_CFG_TYPE k == 4)
      && s.fld F.MPORT_TXC_SRC_SRC k % 1024 == o) then 3
  else 0

/-- An end of the route is MAP 4 (R127). -/
def State.squareEnd (s : State) (v o : Nat) : Bool :=
  (s.vinRec v).map == 4
    || (List.range 128).any (fun n => s.flag F.SDI_TX_CFG_EN n && s.fld F.SDI_TX_CFG_MAP n == 4
        && s.fld F.SDI_TX_CFG_VOUT n == o)

/-- ROFF of a VOUT, ns. -/
def State.roff (s : State) (o : Nat) : Int := signed 32 (s.reg .XPT_VOUT_ROFF o).toNat

/-- RHOLD of a VOUT, ns. -/
def State.rhold (s : State) (o : Nat) : Int := signed 32 (s.reg .XPT_VOUT_RHOLD o).toNat

/-- A margin of `m` word-clock periods with a read offset of `r` ns lies below H of R178: one word-clock period between
SDI ends, else `lines` line periods of domain `n`. -/
def State.belowH (s : State) (v o n lines : Nat) (m r : Int) : Bool :=
  let x := m * 1000 + r * 297
  if (s.vinRec v).kind = 1 ∧ s.sender o = 1 then decide (x < 1000)
  else decide (x * ((3 * s.totalLines n : Nat) : Int) < ((lines * s.tf3 n * 297 : Nat) : Int))

/-- OVL_EFF that a route's H takes: its plane's, or the smaller of both for class P (R178). -/
def State.routeOvl (s : State) (classP planeB : Bool) (n : Nat) : Nat :=
  if classP then min (s.ovlForce 0 n) (s.ovlForce 1 n) else s.ovlForce (b2n planeB) n

/-- The frame-synchronised path is asked for (R178 order 2). -/
def State.wantsSync (s : State) (v o n : Nat) : Bool :=
  s.effFld F.XPT_VOUT_CFG_FSYNC o != 0 || s.squareEnd v o || s.vinTd v != n

/-- The margins allow the cut-through path (R178 order 3). -/
def State.cutThrough (s : State) (v o n : Nat) (classP planeB : Bool) : Bool :=
  match s.vinMargins v with
  | none => false
  | some (lo, hi) =>
    decide (0 ≤ lo * 1000 + s.roff o * 297) && s.belowH v o n (s.routeOvl classP planeB n) hi (s.rhold o)

/-- The plane of a class T request: the one whose outbound load is lower after placement, A on a tie (R24). -/
def tPlane (others : List RouteItem) : Bool := decide (loadOut 1 others < loadOut 0 others)

/-- D_in of R182 in tenths of a nanosecond. -/
def State.din10 (s : State) (v : Nat) : Nat :=
  let x := s.vinRec v
  match x.kind with
  | 1 => if x.map = 3 then 5680 else 1840
  | 3 => 8192
  | _ => x.din10

/-- D_out of R182 in tenths of a nanosecond. -/
def State.dout10 (s : State) (o : Nat) : Nat :=
  match s.sender o with
  | 1 => 4160
  | 2 => 2048
  | 3 => 3560
  | _ => 0

/-- The delay Δ that a frame store gives, from the start of the frame it shows to F(N) of its domain (R180). -/
def State.fsDelta (s : State) (x : FsSync) : Int :=
  match x.shown, (s.tdOf x.td).last with
  | some f, some t => t.start - f.start
  | _, _ => (s.tf3 x.td : Int) / 3

/-- L of R182 in ns: D_in + M + r + D_out + Δ, and two lines more for a Picture Pipe route. -/
def State.routeLatency (s : State) (v o n path : Nat) (delta : Int) : Nat :=
  let m := match s.vinMargins v with | some (lo, _) => lo | none => 0
  let own := if path = 0 then marginNs m else delta
  let lines := if path = 2 then (2 * s.tf3 n / (3 * s.totalLines n) : Nat) else 0
  (((s.din10 v + s.dout10 o : Nat) : Int) / 10 + own + s.roff o + (lines : Nat)).toNat

/-- The raster of a VOUT's format lies within the pipe's ratios of the whole source (R303). -/
def pipeScales (src dst : Nat) : Bool :=
  let ok (c o : Nat) : Bool := decide (c ≤ 8 * o) && decide (o ≤ 64 * c)
  ok (fmtWidth src) (fmtWidth dst) && ok (fmtHeight src) (fmtHeight dst)

/-- The path of a request (R178): the path code and, for a pipe, the pipe; or FORMAT. -/
def State.choosePath (s : State) (v o n : Nat) (classP planeB : Bool) : Except Nat (Nat × Nat) :=
  let f := (s.vinRec v).fmt
  let g := s.fld F.XPT_VOUT_CFG_FMT o
  if f ≠ g then
    match s.pipeOf 1 o with
    | some q => if pipeScales f g then .ok (2, q) else .error 4
    | none => .error 4
  else if s.wantsSync v o n then .ok (1, 0)
  else if s.cutThrough v o n classP planeB then .ok (0, 0)
  else .ok (1, 0)

/-- The load of a plane rises in some direction. -/
def loadRises (old new : List RouteItem) : Bool :=
  [0, 1].any (fun p => decide (loadIn p old < loadIn p new) || decide (loadOut p old < loadOut p new))

/-- The part of the checks that needs no synchroniser: degradation, cue budget, planes. -/
def State.capacityChecks (s : State) (n : Nat) (new : List RouteItem) : Option Nat :=
  if s.degraded && loadRises s.charged new then some 6
  else if !s.cueLoadOk n then some 2
  else if !s.planeFits 0 new || !s.planeFits 1 new then some 1
  else none

/-- The frame store of a request on a path: the unit, whether the route must wait for it, its Δ, and the state. -/
def State.storeFor (s : State) (v o n path q : Nat) : Except Nat (Nat × Bool × Int × State) :=
  match path with
  | 1 =>
    match s.findSync v n with
    | some j =>
      let x := s.xpt.sync.get ⟨0, 0, 0, 0, 0, false, [], none⟩ j
      .ok (j, !x.ready, s.fsDelta x, s)
    | none =>
      match newSync v n false s with
      | .ok (j, t) => .ok (j, true, (s.tf3 n : Int) / 3, t)
      | .error e => .error e
  | 2 =>
    match newPipeFs q v n (fsMbps (fmtKbps (s.vinRec v).fmt)) (fmtStride (s.fld F.XPT_VOUT_CFG_FMT o)) s with
    | .ok t =>
      let x := t.xpt.pipeFs.get ⟨0, 0, 0, 0, 0, false, [], none⟩ q
      .ok (q, !x.ready, t.fsDelta x, t)
    | .error e => .error e
  | _ => .ok (0, false, 0, s)

/-- A request that routes VIN `v` to VOUT `o` for a thread of domain `n`: the route and the state that reserves it, or the
first failing check in the order of R189. The request is decided with the VOUT's own earlier request and pending route
taken away (R23, R180, R189). -/
def decideRoute (o v n : Nat) (classP : Bool) (s : State) : Except Nat (Route × State) :=
  let x := s.routes o
  let s0 := s.setRoutes o { x with request := none }
  if !(s.vinRec v).feeder then .error 5
  else
    let others := s.chargedBut o
    let planeB := !classP && tPlane others
    match s0.choosePath v o n classP planeB with
    | .error e => .error e
    | .ok (path, q) =>
      if s.roff o < 0 then .error 8
      else
        let r : Route := ⟨v, classP, planeB, path, s.effFld F.XPT_VOUT_CFG_PRIORITY o, n, false, q,
          fmtKbps (s.vinRec v).fmt, fmtKbps (s.fld F.XPT_VOUT_CFG_FMT o), 0⟩
        let waits := path == 2 || (path == 1 && match s.findSync v n with
          | some j => !(s.xpt.sync.get ⟨0, 0, 0, 0, 0, false, [], none⟩ j).ready
          | none => true)
        let unit := match s.findSync v n with | some j => j | none => 512
        let r1 := if path = 1 then { r with unit := unit } else r
        let kept := if waits then x.committed.toList.map (fun c => (⟨o, 0, c⟩ : RouteItem)) else []
        match s.capacityChecks n (others ++ kept ++ [⟨o, 2, r1⟩]) with
        | some e => .error e
        | none =>
          match s0.storeFor v o n path q with
          | .error e => .error e
          | .ok (u, _, delta, t) => .ok ({ r with unit := u, lat := t.routeLatency v o n path delta }, t)

/-- A refusal is recorded and counted (R189). -/
def refuseRoute (o n reason : Nat) (s : State) : State :=
  let f := (s.reg .REF_TD_FRAME n).toNat % 2 ^ 16
  let t := s.setFlds o [(F.XPT_REFUSE_REASON, reason), (F.XPT_REFUSE_FRAME, f)]
  (t.bump .XPT_REFUSE_CNT 0).raise Src.XPT_REFUSE

/-- A request for a VOUT is decided at issue (R20, R240): the refusal code, 0 when admitted. -/
def requestRoute (o v n : Nat) (classP : Bool) (s : State) : Nat × State :=
  match decideRoute o v n classP s with
  | .ok (r, t) => (0, dropPipeFs (dropSyncs (t.setRoutes o { t.routes o with request := some r, pending := none })))
  | .error e => (e, refuseRoute o n e s)

/-- The run's request is withdrawn and its reservation released (R241). -/
def withdrawRequest (d : Nat) (s : State) : State :=
  dropPipeFs (dropSyncs (s.setRoutes d { s.routes d with request := none }))

/-- Every route of a destination goes; its output goes idle (R28). -/
def removeRoutes (d : Nat) (s : State) : State := dropPipeFs (dropSyncs (s.setRoutes d .reset))

/-! ### Loss of capacity (R25 to R28) -/

/-- Insert by a key order. -/
def insertBy {α : Type} (lt : α → α → Bool) (x : α) : List α → List α
  | [] => [x]
  | y :: t => if lt y x then y :: insertBy lt x t else x :: y :: t

/-- Sort by a key order. -/
def sortBy {α : Type} (lt : α → α → Bool) : List α → List α
  | [] => []
  | x :: t => insertBy lt x (sortBy lt t)

/-- Lowest PRIORITY first, then the higher index (R26). -/
def lowFirst (a b : RouteItem) : Bool := decide (a.r.prio < b.r.prio) || (a.r.prio == b.r.prio && decide (b.dest < a.dest))

/-- Highest PRIORITY first, then the higher index (R26). -/
def highFirst (a b : RouteItem) : Bool := decide (b.r.prio < a.r.prio) || (a.r.prio == b.r.prio && decide (b.dest < a.dest))

/-- Highest PRIORITY first, then the lower index (R27). -/
def restoreFirst (a b : RouteItem) : Bool := decide (b.r.prio < a.r.prio) || (a.r.prio == b.r.prio && decide (a.dest < b.dest))

/-- A list of routes with one of them changed. -/
def changeItem (i : RouteItem) (f : Route → Route) (l : List RouteItem) : List RouteItem :=
  l.map (fun j => if j.dest = i.dest ∧ j.slot = i.slot then { j with r := f j.r } else j)

/-- A demoted route: class T in the other plane than `p` (R25 step 1). -/
def demote (p : Nat) (r : Route) : Route := { r with demoted := true, planeB := p == 0 }

/-- Step 1 of R25 over the class P routes in order. -/
def demoteAll (s : State) : List RouteItem → List RouteItem → List RouteItem
  | [], l => l
  | i :: t, l =>
    match s.shortPlane l with
    | none => l
    | some p => demoteAll s t (changeItem i (demote p) l)

/-- Step 3 of R25: class T routes of the short plane move where they fit; none moves while both planes are short. -/
def moveAll (s : State) (p : Nat) : List RouteItem → List RouteItem → List RouteItem
  | [], l => l
  | i :: t, l =>
    if s.excess p l = 0 ∨ s.excess (1 - p) l ≠ 0 then l
    else
      let l' := changeItem i (fun r => { r with planeB := p == 0 }) l
      moveAll s p t (if s.planeFits (1 - p) l' then l' else l)

/-- Step 4 of R25, at most `fuel` removals: the lowest PRIORITY class T route of the short plane goes. -/
def removeAll (s : State) : Nat → List RouteItem → List RouteItem
  | 0, l => l
  | k + 1, l =>
    match s.shortPlane l with
    | none => l
    | some p =>
      match sortBy lowFirst (l.filter (fun i => i.r.reads p && (!i.r.classP || i.r.demoted))) with
      | [] => l
      | i :: _ => removeAll s k (l.filter (fun j => !(j.dest == i.dest && j.slot == i.slot)))

/-- The routes as R25 would leave them, or as R27 restores them when nothing is short. -/
def State.capacityPlan (s : State) : List RouteItem :=
  let l := s.charged
  match s.shortPlane l with
  | some _ =>
    let l1 := demoteAll s (sortBy lowFirst (l.filter (fun i => i.r.classP && !i.r.demoted))) l
    match s.shortPlane l1 with
    | none => l1
    | some p =>
      let mv := (l1.filter (fun i => i.r.reads p && (!i.r.classP || i.r.demoted)))
      let l2 := moveAll s p (sortBy highFirst mv) l1
      removeAll s l2.length l2
  | none => restoreAll s (sortBy restoreFirst (l.filter (fun i => i.r.demoted))) l
where
  /-- R27: demoted routes regain their second copy in order, up to the first that does not fit. -/
  restoreAll (s : State) : List RouteItem → List RouteItem → List RouteItem
    | [], l => l
    | i :: t, l =>
      let l' := changeItem i (fun r => { r with demoted := false, planeB := false }) l
      if s.planeFits 0 l' && s.planeFits 1 l' then restoreAll s t l' else l

/-- Put a route into a place of a destination's set. -/
def RouteSet.put (x : RouteSet) (slot : Nat) (r : Option Route) : RouteSet :=
  match slot with
  | 0 => { x with committed := r }
  | 1 => { x with pending := r }
  | _ => { x with request := r }

/-- One route takes what the plan gives it (R25, R191): demotion, a move, a removal or a restoration. -/
def applyPlan (plan : List RouteItem) (i : RouteItem) (s : State) : State :=
  match plan.find? (fun j => j.dest == i.dest && j.slot == i.slot) with
  | none =>
    let t := s.setRoutes i.dest ((s.routes i.dest).put i.slot none)
    let t := if i.dest < 1024 then t.setFlag F.XPT_ROUTE_REMOVED i.dest true else t
    (t.bump .XPT_REMOVE_CNT 0).raise Src.XPT_REMOVE
  | some j =>
    if j.r = i.r then s
    else
      let t := s.setRoutes i.dest ((s.routes i.dest).put i.slot (some j.r))
      if j.r.demoted ∧ !i.r.demoted then (t.bump .XPT_DEMOTE_CNT 0).raise Src.XPT_DEMOTE else t

/-- At the Shutter of a domain its routes take what R25 and R27 give them. -/
def capacityAct (n : Nat) (s : State) : State :=
  let plan := s.capacityPlan
  (s.charged.filter (fun i => i.r.td == n)).foldl (fun t i => applyPlan plan i t) s

/-! ### Slices and storage after a change of capacity -/

/-- The reservation with the highest rank to drop: VINs in descending index first, then the others descending (R171). -/
def dropFirst (l : List (Nat × Nat)) : Option Nat :=
  let vins := (l.filter (fun e => decide (e.1 < 1024))).map (·.1)
  let rest := (l.filter (fun e => decide (1024 ≤ e.1))).map (·.1)
  match vins.getLast? with
  | some v => some v
  | none => rest.getLast?

/-- Reservations are dropped until the rest fit at OVL_EFF = 0, at most `fuel` of them (R171). -/
def dropStores : Nat → State → State
  | 0, s => s
  | k + 1, s =>
    if s.fitsAt 0 s.storeTotal 0 && s.fitsAt 1 s.storeTotal 0 then s
    else match dropFirst s.xpt.store.entries with
      | none => s
      | some e =>
        let w := s.xpt.store.get 0 e
        let t := { s with xpt := { s.xpt with store := s.xpt.store.erase e, dropped := s.xpt.dropped.set e w,
                                              pool := s.xpt.pool.erase e } }
        dropStores k (if e < 1024 then (t.setVin e { t.vinRec e with noStore := true }).raise Src.XPT_NO_STORE else t)

/-- Dropped reservations are made again as far as they fit, VINs ascending first (R171). -/
def restoreStores (s : State) : State :=
  s.xpt.dropped.entries.foldl (fun t e =>
    match t.reserveStore e.1 e.2 with
    | some u => if e.1 < 1024 then u.setVin e.1 { u.vinRec e.1 with noStore := false } else u
    | none => t) s

/-- A change of the slices' states: CAP_LOST, OVL_REDUCED and the reservations follow (R171, R191). -/
def recap (f : State → State) (s : State) : State :=
  let t := f s
  let fell := decide (t.cap 0 < s.cap 0) || decide (t.cap 1 < s.cap 1)
  let reduced := decide (t.ovlEff 0 < s.ovlEff 0) || decide (t.ovlEff 1 < s.ovlEff 1)
  let u := (t.raiseIf fell Src.XPT_CAP_LOST).raiseIf reduced Src.XPT_OVL_REDUCED
  if fell then dropStores u.xpt.store.entries.length u else restoreStores u

/-- The state of a slice changes. -/
def setSlice (k st pos : Nat) (s : State) : State :=
  recap (fun t => t.setFlds k [(F.XPT_SLICE_STAT_STATE, st), (F.XPT_SLICE_STAT_POS, pos)]) s

/-! ### Lines (R15, R167, R175, R179, R185 to R187) -/

/-- The line header of R186 as bytes. -/
def checkHeader (essence line frame : Nat) : List Byte := beBytes 4 essence ++ beBytes 2 line ++ beBytes 2 frame

/-- The running checks of a line after each word (R186), from a CRC register. -/
def runningChecks : Nat → List (List Byte) → List Nat
  | _, [] => []
  | c, w :: ws =>
    let c' := w.foldl (crcByte 0x82F63B78) c
    c'.xor 0xFFFFFFFF :: runningChecks c' ws

/-- The running checks of a line with its header. -/
def lineChecks (essence line frame : Nat) (words : List (List Byte)) : List Nat :=
  runningChecks ((checkHeader essence line frame).foldl (crcByte 0x82F63B78) 0xFFFFFFFF) words

/-- The lines of an essence that the Line Pool holds, newest first. -/
def State.poolOf (s : State) (e : Nat) : List PoolLine := s.xpt.pool.get [] e

/-- How many lines of an essence are kept: 2 × Z + 2 (R170). -/
def State.keepLines (s : State) : Nat := 2 * max (s.storeZ 0) (s.storeZ 1) + 2

/-- A line goes into the Line Pool. -/
def poolPut (e : Nat) (l : PoolLine) (s : State) : State :=
  { s with xpt := { s.xpt with pool := s.xpt.pool.set e ((l :: s.poolOf e).take s.keepLines) } }

/-- A source line enters a frame store as it arrives (R180): line 1 starts a frame and completes the one before. -/
def fsPut (fmt : Nat) (l : LineIn) (pl : PoolLine) (x : FsSync) : FsSync :=
  if pl.line = 1 then
    let old := x.frames.map (fun f => { f with whole := true })
    { x with frames := (⟨l.start, l.frame, false, [pl]⟩ :: old).take 4 }
  else match x.frames with
    | [] => x
    | f :: t => { x with frames := { f with lines := pl :: f.lines, whole := f.whole || pl.line == fmtTotalLines fmt } :: t }

/-- Every frame store of a VIN takes a line. -/
def fsPutAll (v fmt : Nat) (l : LineIn) (pl : PoolLine) (s : State) : State :=
  let put (x : FsSync) : FsSync := if x.vin = v then fsPut fmt l pl x else x
  { s with xpt := { s.xpt with sync := s.xpt.sync.map (fun _ x => put x), pipeFs := s.xpt.pipeFs.map (fun _ x => put x) } }

/-- A line is written for a VIN (R18, R121, R186), with its running check; a VIN without storage holds nothing. -/
def writeLine (v : Nat) (l : LineIn) (s : State) : State :=
  let t := passTo l.start s
  let x := t.vinRec v
  if (t.xpt.store.find? v).isNone then t
  else
    let pl : PoolLine := ⟨l.line, l.frame, l.present, l.words, lineChecks v l.line l.frame l.words, l.margins, l.anc⟩
    let t1 := t.setVin v { x with mcur := joinRange x.mcur (marginRange l.margins), present := l.present }
    fsPutAll v x.fmt l pl (poolPut v pl t1)

/-- The words that a plane gives for a line: what was written, with the faults that the plane has. -/
def planeWords (planeB : Bool) (bad : List WordFault) (words : List (List Byte)) : List (List Byte) :=
  words.zipIdx.map (fun e =>
    match bad.find? (fun f => f.planeB == planeB && f.word == e.2) with | some f => f.data | none => e.1)

/-- The sidebands that a plane gives for a line. -/
def planeSides (planeB : Bool) (bad : List WordFault) (checks : List Nat) : List Nat :=
  checks.zipIdx.map (fun e =>
    match bad.find? (fun f => f.planeB == planeB && f.word == e.2) with | some f => f.side | none => e.1)

/-- The first word at which two lists of checks disagree. -/
def firstDiff : Nat → List Nat → List Nat → Option Nat
  | k, a :: as, b :: bs => if a = b then firstDiff (k + 1) as bs else some k
  | _, _, _ => none

/-- A plane's check of a line: the word at which it fails (R186). -/
def planeFails (e : Nat) (pl : PoolLine) (planeB : Bool) (bad : List WordFault) : Option Nat :=
  firstDiff 0 (lineChecks e pl.line pl.frame (planeWords planeB bad pl.words)) (planeSides planeB bad pl.checks)

/-- A check failure is counted against its slice and recorded (R186). -/
def noteCheckFail (o p : Nat) (w : Option Nat) (s : State) : State :=
  match w with
  | none => s
  | some k =>
    let sl := s.sliceOf p k
    let t := s.bump .XPT_SLICE_CHK sl
    (t.setFlds 0 [(F.XPT_CHK_LAST_SLICE, sl), (F.XPT_CHK_LAST_VOUT, o), (F.XPT_CHK_LAST_PLANE, p)]).raise Src.XPT_SLICE_CHECK

/-- A word index lies before a failure. -/
def beforeFail (k : Nat) (f : Option Nat) : Bool := match f with | none => true | some x => decide (k < x)

/-- The merge of R18, R19 and R187: plane A's words until its check fails, then plane B's until its fails, then A's. -/
def mergeWords (fa fb : Option Nat) (a b : List (List Byte)) : List (List Byte) :=
  a.zipIdx.map (fun e => if beforeFail e.2 fa then e.1 else if beforeFail e.2 fb then b.getD e.2 e.1 else e.1)

/-- The line of class P as the merge sends it, with its counts (R187). -/
def mergeP (e o : Nat) (pl : PoolLine) (bad : List WordFault) (s : State) : List (List Byte) × State :=
  let fa := planeFails e pl false bad
  let fb := planeFails e pl true bad
  let s1 := match fa, fb with
    | some i, some j => if j < i then noteCheckFail o 0 fa (noteCheckFail o 1 fb s) else noteCheckFail o 1 fb (noteCheckFail o 0 fa s)
    | _, _ => noteCheckFail o 1 fb (noteCheckFail o 0 fa s)
  let s2 := match fa, fb with
    | some _, none => s1.bump .XPT_MERGE_A_CNT 0
    | none, some _ => s1.bump .XPT_MERGE_B_CNT 0
    | some _, some _ => ((s1.bump .XPT_MERGE_BOTH_CNT 0).bump .XPT_VOUT_BOTH o).raise Src.XPT_MERGE_BOTH
    | none, none => s1
  (mergeWords fa fb (planeWords false bad pl.words) (planeWords true bad pl.words), s2)

/-- The line of class T as read, a failure counted (R187). -/
def readT (e o : Nat) (planeB : Bool) (pl : PoolLine) (bad : List WordFault) (s : State) : List (List Byte) × State :=
  let f := planeFails e pl planeB bad
  let s1 := noteCheckFail o (b2n planeB) f s
  (planeWords planeB bad pl.words, if f.isSome then (s1.bump .XPT_CHECK_T_CNT 0).raise Src.XPT_CHECK_T else s1)

/-- The line of a VIN before a given one, in the order the Line Pool holds them. -/
def prevLine (l : List PoolLine) (line frame : Nat) : Option PoolLine :=
  match l.dropWhile (fun p => !(p.line == line && p.frame == frame)) with
  | _ :: p :: _ => some p
  | _ => l.head?

/-- The words of a cut-through line at their read instants: one that misses its window is taken from the previous line,
and counted (R179). -/
def windowWords (ok : Int → Int → Bool) (ms offs : List Int) (prev : List (List Byte)) (black : List (List Byte))
    (words : List (List Byte)) : List (List Byte) × Nat :=
  let r := words.zipIdx.map (fun e =>
    if ok (ms.getD e.2 0) (offs.getD e.2 0) then (e.1, false)
    else (prev.getD e.2 (black.getD e.2 []), true))
  (r.map (·.1), (r.filter (·.2)).length)

/-- The line that a route reads: the essence it reads, and the line held of it. -/
def State.routeLine (s : State) (o : Nat) (r : Route) (line frame : Nat) : Nat × Option PoolLine :=
  match r.path with
  | 1 =>
    let x := s.xpt.sync.get ⟨0, 0, 0, 0, 0, false, [], none⟩ r.unit
    (1024 + r.unit, x.shown.bind (fun f => f.lines.find? (fun p => p.line == line)))
  | 2 => (2048 + r.unit, s.pipeLine r.unit o (s.fld F.XPT_VOUT_CFG_FMT o) line frame)
  | _ => (r.vin, (s.poolOf r.vin).find? (fun p => p.line == line))

/-- The running check of a synchronised or pipe-result essence is its own (R186). -/
def asEssence (e : Nat) (pl : PoolLine) : PoolLine :=
  { pl with checks := lineChecks e pl.line pl.frame pl.words, margins := [] }

/-- A route that reads plane words: the class P merge, or its own plane. -/
def readRoute (e o : Nat) (r : Route) (pl : PoolLine) (bad : List WordFault) (s : State) : List (List Byte) × State :=
  if r.classP && !r.demoted then mergeP e o pl bad s else readT e o r.planeB pl bad s

/-- The words of a route's line with the window of R179 applied. -/
def readWindow (o : Nat) (r : Route) (pl : PoolLine) (offs : List Int) (words : List (List Byte)) (s : State) :
    List (List Byte) × State :=
  if r.path ≠ 0 then (words, s)
  else
    let ok (m x : Int) : Bool := decide (0 ≤ m * 1000 + x * 297)
      && s.belowH r.vin o r.td (s.routeOvl r.classP r.planeB r.td) m x
    let prev := match prevLine (s.poolOf r.vin) pl.line pl.frame with | some p => p.words | none => []
    let (ws, k) := windowWords ok pl.margins offs prev [] words
    if k = 0 then (ws, s) else (ws, (s.bumpN .XPT_UNDERRUN_CNT 0 k).raise Src.XPT_UNDERRUN)

/-- The route that line `line` of frame `frame` reads (R185): the one committed at S(frame) from the switching line on,
the one before it above. -/
def State.routeForLine (s : State) (o n frame line : Nat) : Option Route :=
  let cur := (s.reg .REF_TD_FRAME n).toNat
  let below := decide (line < s.fld F.REF_TD_LINES_SWITCH_LINE n)
  if frame = cur then (if below then (s.routes o).prev else (s.routes o).committed)
  else if frame = cur + 1 ∧ below then (s.routes o).committed
  else none

/-- The domain that governs a VOUT: the one of the thread that owns it (R14). -/
def State.ownerTd (s : State) (obj : Nat) : Option Nat := (s.owner.find? obj).map (fun t => s.fld F.CUE_THR_CFG_TD t)

/-- An output reads a line (R185 to R187): what its sender gets is in `out`. With no route, or no line, it is black and
not present; so is the line of a VIN whose source is absent (R122, R170, R172). -/
def readLine (o frame line : Nat) (offs : List Int) (bad : List WordFault) (s : State) : State :=
  let black := blackWords (s.fld F.XPT_VOUT_CFG_FMT o)
  let put (l : OutLine) (t : State) : State := { t with xpt := { t.xpt with
    out := (match t.xpt.out.find? o with | some x => t.xpt.out.set (1024 + o) x | none => t.xpt.out).set o l } }
  match s.ownerTd o with
  | none => put ⟨line, frame, false, false, black, []⟩ s
  | some n =>
    match s.routeForLine o n frame line with
    | none => put ⟨line, frame, false, false, black, []⟩ s
    | some r =>
      if !s.vinPresent r.vin then put ⟨line, frame, false, true, black, []⟩ s
      else match s.routeLine o r line frame with
      | (_, none) =>
        let t := if r.path = 0 ∧ (s.xpt.store.find? r.vin).isSome then
            (s.bumpN .XPT_UNDERRUN_CNT 0 (fmtWords (s.vinRec r.vin).fmt)).raise Src.XPT_UNDERRUN else s
        let old := match (s.poolOf r.vin).head? with | some p => p.words | none => black
        put ⟨line, frame, false, true, if r.path = 0 then old else black, []⟩ t
      | (e, some pl0) =>
        let pl := if r.path = 0 then pl0 else asEssence e pl0
        let (ws, s1) := readRoute e o r pl bad s
        let (ws, s2) := readWindow o r pl offs ws s1
        put ⟨line, frame, pl.present, true, ws, pl.anc⟩ s2

/-! ### The Shutter -/

/-- The shadow fields of VOUT registers that domain `n` governs, or that no thread's domain governs, take effect. -/
def commitVoutCfg (n : Nat) (s : State) : State :=
  (List.range 1024).foldl (fun t o =>
    match t.regs.find? (regKey .XPT_VOUT_CFG o) with
    | none => t
    | some _ => match t.ownerTd o with
      | none => t.commitReg .XPT_VOUT_CFG o
      | some d => if d = n then t.commitReg .XPT_VOUT_CFG o else t) s

/-- A destination's routes at the Shutter of its domain (R12, R180): the request commits, or waits for its frame store;
a waiting route commits once its store is ready. -/
def commitRoute (ready : Route → Bool) (n : Nat) (x : RouteSet) : RouteSet :=
  let x1 : RouteSet := match x.request with
    | none => { x with prev := x.committed }
    | some q =>
      if q.td ≠ n then x
      else if ready q then ⟨some q, x.committed, none, none⟩
      else { x with prev := x.committed, pending := some q, request := none }
  match x1.pending with
  | none => x1
  | some p => if p.td = n ∧ ready p then { x1 with committed := some p, pending := none } else x1

/-- A route's frame store holds a whole frame, or it needs none. -/
def State.routeReady (s : State) (r : Route) : Bool :=
  match r.path with
  | 1 => (s.xpt.sync.get ⟨0, 0, 0, 0, 0, false, [], none⟩ r.unit).ready
  | 2 => (s.xpt.pipeFs.get ⟨0, 0, 0, 0, 0, false, [], none⟩ r.unit).ready
  | _ => true

/-- The destination belongs to domain `n`: its routes or its owner do. -/
def State.destIn (s : State) (d n : Nat) : Bool :=
  (s.routes d).all.any (fun r => r.td == n)

/-- The routes of domain `n` commit, their PRIORITY taking effect; the request of a wall layer that does not commit at this
Shutter is carried forward (R215). -/
def commitRoutes (n : Nat) (layers : List Nat) (s : State) : State :=
  { s with xpt := { s.xpt with rt := s.xpt.rt.map (fun d x =>
    if s.destIn d n then
      let held := decide (1024 ≤ d) && !layers.contains (d - 1024)
      let y0 := commitRoute s.routeReady n (if held then { x with request := none } else x)
      let y := if held then { y0 with request := x.request } else y0
      let pr (r : Route) : Route := if d < 1024 then { r with prio := s.effFld F.XPT_VOUT_CFG_PRIORITY d } else r
      { y with committed := y.committed.map pr, pending := y.pending.map pr }
    else x) } }

/-- The frame that a store shows for F(N) at `f` (R180): the newest source frame with Δ of at least G = 4 lines. -/
def fsChoose (f : Int) (g : Int) (x : FsSync) : Option FsFrame :=
  x.frames.find? (fun fr => decide (g ≤ f - fr.start))

/-- How many places further on the next frame stands than the one shown: 1 is the normal advance, 0 a repeat, more drops. -/
def fsAdvance (x : FsSync) (next : FsFrame) : Nat :=
  match x.shown with
  | none => 1
  | some old =>
    let place (f : FsFrame) : Nat := (x.frames.findIdx? (fun g => g.start == f.start)).getD x.frames.length
    place old - place next

/-- A frame store steps at S(N) of its domain: it repeats or drops whole frames when its source slips (R180). -/
def fsStep (f g : Int) (x : FsSync) : FsSync × Nat × Nat :=
  match fsChoose f g x with
  | none => (x, if x.shown.isSome then 1 else 0, 0)
  | some fr =>
    let k := fsAdvance x fr
    ({ x with shown := some fr }, if k = 0 then 1 else 0, k - 1)

/-- The synchronisers of domain `n` step. -/
def stepSyncs (n : Nat) (s : State) : State :=
  match (s.tdOf n).last with
  | none => s
  | some t =>
    let g : Int := (4 * s.tf3 n / (3 * s.totalLines n) : Nat)
    let stepAll (m : AMap FsSync) : AMap FsSync := m.map (fun _ x => if x.td = n then (fsStep t.start g x).1 else x)
    let count (p : FsSync × Nat × Nat → Nat) : Nat :=
      (s.xpt.sync.entries ++ s.xpt.pipeFs.entries).foldl (fun a e => if e.2.td = n then a + p (fsStep t.start g e.2) else a) 0
    let rep := count (fun r => r.2.1)
    let drp := count (fun r => r.2.2)
    let s1 := { s with xpt := { s.xpt with sync := stepAll s.xpt.sync, pipeFs := stepAll s.xpt.pipeFs } }
    let s2 := (s1.bumpN .XPT_FS_REPEAT_CNT 0 rep).bumpN .XPT_FS_DROP_CNT 0 drp
    if rep = 0 ∧ drp = 0 then s1 else s2.raise Src.XPT_FS_SLIP

/-- VINs of domain `n` whose feeder has gone show none from this Shutter; those that no route reads wait for the Overlap
Window to close (R172). -/
def feedersGone (n : Nat) (s : State) : State :=
  let gone := (s.xpt.vin.entries.filter (fun e => !e.2.feeder && s.vinTd e.1 == n)).map (·.1)
  let t := { s with xpt := { s.xpt with vin := s.xpt.vin.map (fun v x =>
    if !x.feeder ∧ s.vinTd v = n then { x with shown := 0 } else x) } }
  { t with xpt := { t.xpt with leaving := t.xpt.leaving ++ gone.filter (fun v => !t.vinRead v
      && !t.xpt.leaving.contains v && (t.xpt.store.find? v).isSome) } }

/-- Domain `n` takes the OVERLAP values at its Shutter (R171). -/
def takeOverlap (n : Nat) (s : State) : State :=
  let t := s.commitReg .XPT_CFG 0
  { t with xpt := { t.xpt with ovl := (t.xpt.ovl.set n (t.ovlEff 0)).set (8 + n) (t.ovlEff 1) } }

/-- The crosspoint's part of the Shutter of domain `n` (R11, R12), at which the named wall layers commit. -/
def xptShutter (n : Nat) (layers : List Nat) (s : State) : State :=
  let s1 := commitVoutCfg n (takeOverlap n s)
  let s2 := commitRoutes n layers (stepSyncs n s1)
  dropPipeFs (dropSyncs (feedersGone n (capacityAct n (closeMargins n s2))))

/-- The Overlap Window of domain `n` closes (R15, R172): the outgoing routes are no longer read, and the reservations of
VINs that left are released. -/
def xptOverlapClose (n : Nat) (s : State) : State :=
  let gone := s.xpt.leaving.filter (fun v => s.vinTd v == n && !s.vinRead v)
  let t := gone.foldl (fun u v => (u.releaseStore v).setVin v { u.vinRec v with noStore := false }) s
  let u := { t with xpt := { t.xpt with leaving := t.xpt.leaving.filter (fun v => s.vinTd v != n) } }
  dropPipeFs (dropSyncs { u with xpt := { u.xpt with rt := u.xpt.rt.map (fun _ x =>
    if x.all.any (fun r => r.td == n) || x.prev.any (fun r => r.td == n) then { x with prev := none } else x) } })

/-! ### Register writes -/

/-- A write of XPT_CFG (R171): above 16, or not fitting at the storage value it would give, it is ignored. -/
def writeOverlap (v : Word) (s : State) : State :=
  let o := F.XPT_CFG_OVERLAP.of v
  let ok (p : Nat) : Bool := s.fitsAt p s.storeTotal (max o (s.ovlInForce p))
  if decide (16 < o) || !ok 0 || !ok 1 then s.reject .XPT else plainWrite .XPT_CFG 0 v s

/-- The synchroniser of `v` in TD(v) is armed or no longer armed. -/
def setArmed (v n : Nat) (b : Bool) (s : State) : State :=
  { s with xpt := { s.xpt with sync := s.xpt.sync.map (fun _ x =>
    if x.vin = v then { x with armed := b && x.td == n } else x) } }

/-- A write of XPT_VIN_CFG (R180): FS_ARM = 1 that cannot be served is ignored. -/
def writeVinCfg (v : Nat) (w : Word) (s : State) : State :=
  let n := F.XPT_VIN_CFG_TD.of w
  if F.XPT_VIN_CFG_FS_ARM.of w = 1 then
    match s.findSync v n with
    | some _ => dropSyncs (setArmed v n true (plainWrite .XPT_VIN_CFG v w s))
    | none =>
      if !(s.vinRec v).feeder || (s.vinRec v).fmt == 0 then s.reject .XPT
      else match newSync v n true s with
        | .ok (_, t) => dropSyncs (setArmed v n true (plainWrite .XPT_VIN_CFG v w t))
        | .error _ => s.reject .XPT
  else dropSyncs (setArmed v n false (plainWrite .XPT_VIN_CFG v w s))

/-- A write of XPT_VOUT_CFG (R173, R194). -/
def writeVoutCfg (o : Nat) (w : Word) (s : State) : State :=
  let f := F.XPT_VOUT_CFG_FMT.of w
  let bad := changes F.XPT_VOUT_CFG_FMT s o w && ((s.routes o).all != [] || !fmtValid f)
  guardedWrite bad .XPT_VOUT_CFG o w s

/-- A write of an XPT register (R194). -/
def writeXpt (r : RegName) (i : Nat) (v : Word) (s : State) : State :=
  match r with
  | .XPT_CFG => writeOverlap v s
  | .XPT_VIN_CFG => writeVinCfg i v s
  | .XPT_VOUT_CFG => writeVoutCfg i v s
  | _ => plainWrite r i v s

/-! ### Live registers -/

/-- XPT_ROUTE as a word: REMOVED is kept, the rest follows the routes. -/
def State.routeWord (s : State) (o : Nat) : Word :=
  let x := s.routes o
  let base := s.reg .XPT_ROUTE o &&& 0x80000000#32
  let w := base ||| (if x.pending.isSome then 0x8000#32 else 0)
  match x.committed with
  | none => w
  | some r =>
    w ||| BitVec.ofNat 32 (r.vin + 2 ^ 10 + b2n r.classP * 2 ^ 11 + b2n r.planeB * 2 ^ 12 + r.path * 2 ^ 13
      + b2n r.demoted * 2 ^ 16 + r.prio * 2 ^ 24)

/-- XPT_VIN_STAT as a word. -/
def State.vinWord (s : State) (v : Nat) : Word :=
  let x := s.vinRec v
  let ready := s.xpt.sync.entries.any (fun e => e.2.vin == v && e.2.armed && e.2.ready)
  BitVec.ofNat 32 ((if x.shown = 0 then 0 else x.fmt) + x.shown * 2 ^ 8 + b2n (s.vinPresent v) * 2 ^ 11
    + b2n x.noStore * 2 ^ 12 + b2n ready * 2 ^ 13)

/-- XPT_VIN_MMIN or XPT_VIN_MMAX as a word. -/
def State.marginWord (s : State) (v : Nat) (greatest : Bool) : Word :=
  match s.vinMargins v with
  | none => 0x80000000#32
  | some (lo, hi) => BitVec.ofInt 32 (marginNs (if greatest then hi else lo))

/-- A live XPT register (R194), if it is one. -/
def State.xptLive (s : State) (r : RegName) (i : Nat) : Option Word :=
  let w (n : Nat) : Option Word := some (BitVec.ofNat 32 n)
  match r with
  | .XPT_STAT => w (s.usable 0 + s.usable 1 * 2 ^ 4 + b2n s.degraded * 2 ^ 8 + b2n (s.ovlReduced 0) * 2 ^ 9
      + b2n (s.ovlReduced 1) * 2 ^ 10 + s.fld F.XPT_STAT_INIT_DONE 0 * 2 ^ 11)
  | .XPT_CAP_A => w (s.cap 0)
  | .XPT_CAP_B => w (s.cap 1)
  | .XPT_LOAD_A_IN => w (loadIn 0 s.charged)
  | .XPT_LOAD_A_OUT => w (loadOut 0 s.charged)
  | .XPT_LOAD_B_IN => w (loadIn 1 s.charged)
  | .XPT_LOAD_B_OUT => w (loadOut 1 s.charged)
  | .XPT_STORE_A => w (s.storeTotal * (2 * s.storeZ 0 + 2))
  | .XPT_STORE_B => w (s.storeTotal * (2 * s.storeZ 1 + 2))
  | .XPT_OVL_EFF => w (s.ovlEff 0 + s.ovlEff 1 * 2 ^ 8)
  | .XPT_HBM_LOAD => w (s.hbmLoad i)
  | .XPT_FS_STAT => w s.xpt.sync.entries.length
  | .XPT_VIN_STAT => some (s.vinWord i)
  | .XPT_VIN_MMIN => some (s.marginWord i false)
  | .XPT_VIN_MMAX => some (s.marginWord i true)
  | .XPT_ROUTE => some (s.routeWord i)
  | .XPT_ROUTE_LAT => w (match (s.routes i).committed with | some r => r.lat | none => 0)
  | _ => none

/-! ### Meanings -/

/-- OVERLAP_WRITE: a write of XPT_CFG (R171). -/
def execOverlapWrite (v : Word) (s : State) : Out := .next (writeOverlap v s)

/-- FS_ARM_WRITE: a write of XPT_VIN_CFG with FS_ARM = 1 (R180). -/
def execFsArmWrite (n : Fin 1024) (v : Word) (s : State) : Out := .next (writeVinCfg n (v ||| 8#32) s)

/-- LINE_WRITE (R18, R186). -/
def execLineWrite (n : Fin 1024) (l : LineIn) (s : State) : Out := .next (writeLine n l s)

end Sys2Proof.Machine
end

