-- ==== Sys2Proof/Machine/Lane.lean ====
section
/-!
DEFINITION. Serial lanes (R84 to R95): protocols, groups and rates, the transmit PLLs of the quads, equalisation, eye
margins, loss of signal.
-/

namespace Sys2Proof.Machine

/-! ### Configuration (R84 to R88) -/

/-- The PLL family of a rate code (R88): 1 INT, 2 M1001, 3 NRZE, 4 PAM4, as LANE_QUAD_STAT shows it. -/
def rateFamily (rate : Nat) : Nat :=
  match rate with
  | 2 => 2
  | 4 => 2
  | 6 => 2
  | 8 => 2
  | 9 => 3
  | 10 => 3
  | 11 => 4
  | _ => 1

/-- A rate code that a protocol allows in a direction (R84). -/
def protoRateOk (proto rate : Nat) (rx : Bool) : Bool :=
  match proto with
  | 0 => true
  | 1 => decide (rate ≤ 8) || (rx && rate == 15)
  | 2 => rate == 9 || rate == 10 || rate == 11
  | 3 => rate == 11
  | 4 => rate == 9 || rate == 10
  | _ => false

/-- The fields of LANE_CFG that a group's lowest lane carries. -/
def laneGroupMask : Word := 0x0033FF77#32

/-- The lanes of a group whose lowest lane is `n` (R86). -/
def groupLanes (n group : Nat) : List Nat :=
  match group with
  | 1 => [n, n + 1]
  | 2 => [n, n + 1, n + 2, n + 3]
  | _ => [n]

/-- The lowest lane of the group that lane `n` is in (R86). -/
def State.groupBase (s : State) (n : Nat) : Nat :=
  let q := n / 4 * 4
  let h := n / 2 * 2
  if s.fld F.LANE_CFG_GROUP q = 2 then q else if s.fld F.LANE_CFG_GROUP h = 1 then h else n

/-- A written LANE_CFG keeps R84, R85 and R86 for lane `n` as the lowest lane of its group. -/
def laneCfgOk (n : Nat) (v : Word) : Bool :=
  let rp := F.LANE_CFG_RX_PROTO.of v
  let tp := F.LANE_CFG_TX_PROTO.of v
  let rr := F.LANE_CFG_RX_RATE.of v
  let tr := F.LANE_CFG_TX_RATE.of v
  let g := F.LANE_CFG_GROUP.of v
  let gr := if g = 1 then 11 else 10
  let dirOk (p r : Nat) : Bool := p == 0 || (p == 2 && r == gr)
  protoRateOk rp rr true && protoRateOk tp tr false && (rp == 3) == (tp == 3) && (rp == 4) == (tp == 4)
    && (g == 0 || (g == 1 && n % 2 == 0 && dirOk rp rr && dirOk tp tr)
        || (g == 2 && n % 4 == 0 && dirOk rp rr && dirOk tp tr))

/-- A media port, tile port or Uhlat link that is enabled has lane `n`. -/
def State.portOn (s : State) (n : Nat) : Bool :=
  (List.range 128).any (fun p => s.flag F.MPORT_CFG_EN p && s.fld F.MPORT_CFG_LANE p == n)
    || (List.range 128).any (fun p => s.flag F.WSCAN_PORT_CFG_EN p && s.fld F.WSCAN_PORT_CFG_LANE p == n)
    || (List.range 32).any (fun l => s.flag F.ULINK_CFG_EN l && s.fld F.ULINK_CFG_LANE l == n)

/-- A quad-link deframer or framer of the quad covers lane `n`, or the lane has its own. -/
def State.sdiRxOn (s : State) (n : Nat) : Bool :=
  s.flag F.SDI_RX_CFG_EN n || (s.flag F.SDI_RX_CFG_EN (n / 4 * 4) && decide (3 ≤ s.fld F.SDI_RX_CFG_MAP (n / 4 * 4)))

/-- The framer that covers lane `n`, if one is enabled. -/
def State.sdiTxOn (s : State) (n : Nat) : Option Nat :=
  let q := n / 4 * 4
  if s.flag F.SDI_TX_CFG_EN q ∧ 3 ≤ s.fld F.SDI_TX_CFG_MAP q then some q
  else if s.flag F.SDI_TX_CFG_EN n then some n else none

/-- An admitted route ends in the VOUT of the framer on lane `n`. -/
def State.txRouted (s : State) (n : Nat) : Bool :=
  match s.sdiTxOn n with
  | some k => (s.routes (s.fld F.SDI_TX_CFG_VOUT k)).all != []
  | none => false

/-- An admitted route reads the VIN that the deframer on lane `n` feeds. -/
def State.rxRouted (s : State) (n : Nat) : Bool :=
  s.sdiRxOn n && s.vinRead (s.fld F.SDI_RX_CFG_VIN (if s.flag F.SDI_RX_CFG_EN n then n else n / 4 * 4))

/-- A direction of lane `n` is in use (R87). -/
def State.laneBusy (s : State) (n : Nat) (rx : Bool) : Bool := s.portOn n || (if rx then s.rxRouted n else s.txRouted n)

/-- A write changes the protocol or rate of a direction, or the group. -/
def laneChanges (n : Nat) (v : Word) (rx : Bool) (s : State) : Bool :=
  changes F.LANE_CFG_GROUP s n v
    || (if rx then changes F.LANE_CFG_RX_PROTO s n v || changes F.LANE_CFG_RX_RATE s n v
        else changes F.LANE_CFG_TX_PROTO s n v || changes F.LANE_CFG_TX_RATE s n v)

/-! ### Transmit PLLs (R89, R91) -/

/-- A quad's hidden state. -/
def State.quadOf (s : State) (q : Nat) : QuadState := s.quad.get .reset q

/-- A quad's hidden state replaced. -/
def State.setQuad (s : State) (q : Nat) (x : QuadState) : State := { s with quad := s.quad.set q x }

/-- The family that PLL `k` runs, 0 when stopped. -/
def State.pllFam (s : State) (q k : Nat) : Nat :=
  if k = 0 then s.fld F.LANE_QUAD_STAT_FAM0 q else s.fld F.LANE_QUAD_STAT_FAM1 q

/-- The phase of PLL0, PLL1 or the spare. -/
def QuadState.phase (x : QuadState) (k : Nat) : PllPhase := match k with | 0 => x.pll0 | 1 => x.pll1 | _ => x.spare

/-- The phase of a PLL replaced. -/
def QuadState.setPhase (x : QuadState) (k : Nat) (p : PllPhase) : QuadState :=
  match k with
  | 0 => { x with pll0 := p }
  | 1 => { x with pll1 := p }
  | _ => { x with spare := p }

/-- The place whose transmitters lane `n` belongs to: 0 or 1, seen through a spare that serves for it; none as 3. -/
def State.lanePll (s : State) (n : Nat) : Nat :=
  let p := s.fld F.LANE_STAT_TX_PLL n
  if p = 2 then s.fld F.LANE_QUAD_STAT_SPARE (n / 4) - 1 else p

/-- The PLL unit, 2 the spare, that serves place `k`. -/
def State.placeUnit (s : State) (q k : Nat) : Nat := if s.fld F.LANE_QUAD_STAT_SPARE q = k + 1 then 2 else k

/-- The unit of place `k` is in service (R442). -/
def State.placeUp (s : State) (q k : Nat) : Bool :=
  let st := s.fld F.VAULT_LG_HRS_STATE (198 + 3 * q + s.placeUnit q k)
  st == 0 || st == 2

/-- A PLL with no transmitter left stops and sleeps (R89). -/
def stopPll (q k : Nat) (s : State) : State :=
  if ((List.range 4).any (fun j => s.lanePll (4 * q + j) == k)) then s
  else
    let s1 := s.setFld (if k = 0 then F.LANE_QUAD_STAT_FAM0 else F.LANE_QUAD_STAT_FAM1) q 0
    s1.setQuad q ((s1.quadOf q).setPhase (s1.placeUnit q k) .stopped)

/-- The PLL that a transmitter of a family takes (R89): a running one of the family, else the first free one. -/
def State.pickPll (s : State) (q fam : Nat) : Option Nat :=
  [(0, fam), (1, fam), (0, 0), (1, 0)].findSome? (fun p =>
    if s.placeUp q p.1 && s.pllFam q p.1 == p.2 then some p.1 else none)

/-- Lane `n`'s transmitter leaves its PLL. -/
def detachTx (n : Nat) (s : State) : State :=
  let p := s.lanePll n
  let t := s.setFld F.LANE_STAT_TX_PLL n 3
  if p < 2 then stopPll (n / 4) p t else t

/-- Lane `n`'s transmitter takes a PLL for its rate, starting one where needed; none where no PLL can serve (R89). -/
def attachTx (n rate : Nat) (s : State) : Option State :=
  let q := n / 4
  match s.pickPll q (rateFamily rate) with
  | none => none
  | some k =>
    let s1 := if s.pllFam q k = 0 then
        (s.setFld (if k = 0 then F.LANE_QUAD_STAT_FAM0 else F.LANE_QUAD_STAT_FAM1) q (rateFamily rate)).setQuad q
          ((s.quadOf q).setPhase (s.placeUnit q k) .starting)
      else s
    some (s1.setFld F.LANE_STAT_TX_PLL n (s1.placeUnit q k))

/-- The transmitters of lanes take their PLLs in order. -/
def attachAll (rate : Nat) : List Nat → State → Option State
  | [], s => some s
  | n :: ns, s => (attachTx n rate s).bind (attachAll rate ns)

/-- The PLL of place `k` is in lock, itself or by the spare that serves for it. -/
def State.pllLocked (s : State) (q k : Nat) : Bool :=
  decide ((s.quadOf q).phase (s.placeUnit q k) = .locked)

/-- A transmitter sends (R94): it has a protocol, no TX_IDLE, a PLL in lock, its port or link is enabled, and no
thermal trip holds (R399). -/
def State.txActive (s : State) (n : Nat) : Bool :=
  let b := s.groupBase n
  let p := s.fld F.LANE_CFG_TX_PROTO n
  let k := s.lanePll n
  p != 0 && !s.flag F.LANE_CFG_TX_IDLE n && !s.flag F.PWR_THERM_STAT_TRIPPED 0 && decide (k < 2) && s.pllLocked (n / 4) k
    && (p == 1 || s.portOn b)

/-! ### Assignment (R87) -/

/-- Lane `n`'s receiver has a new assignment: its next lock starts a full adaptation (R92). -/
def reassignRx (n : Nat) (s : State) : State :=
  { s.setFlds n [(F.LANE_STAT_CDR_LOCK, 0), (F.LANE_STAT_ADAPT_DONE, 0), (F.LANE_STAT_RATE_DET, 0xF)]
    with laneRx := s.laneRx.set n .reset }

/-- Lane `n` takes the group settings of a word, its own inversions and idle kept. -/
def takeLaneCfg (v : Word) (n : Nat) (s : State) : State :=
  s.setReg .LANE_CFG n ((s.reg .LANE_CFG n &&& ~~~ laneGroupMask) ||| (v &&& laneGroupMask))

/-- A write of LANE_CFG that R85 to R87 ignore. -/
def laneCfgBad (n : Nat) (v : Word) (s : State) : Bool :=
  let lanes := groupLanes n (s.fld F.LANE_CFG_GROUP n) ++ groupLanes n (F.LANE_CFG_GROUP.of v)
  !laneCfgOk n v
    || lanes.any (fun k => (laneChanges n v true s && s.laneBusy k true) || (laneChanges n v false s && s.laneBusy k false))

/-- The write acts: the lanes of the old group that leave it go OFF, those of the new one take its settings. -/
def assignLane (n : Nat) (v : Word) (s : State) : Option State :=
  let old := groupLanes n (s.fld F.LANE_CFG_GROUP n)
  let new := groupLanes n (F.LANE_CFG_GROUP.of v)
  let rx := laneChanges n v true s
  let tx := laneChanges n v false s
  let s1 := plainWrite .LANE_CFG n v s
  let s2 := (old.filter (fun k => !new.contains k)).foldl (fun t k => takeLaneCfg 0 k t) s1
  let s3 := (new.filter (· != n)).foldl (fun t k => takeLaneCfg v k t) s2
  let s4 := if rx then (old ++ new).eraseDups.foldl (fun t k => reassignRx k t) s3 else s3
  if !tx then some s4
  else
    let s5 := (old ++ new).eraseDups.foldl (fun t k => detachTx k t) s4
    if F.LANE_CFG_TX_PROTO.of v = 0 then some s5 else attachAll (F.LANE_CFG_TX_RATE.of v) new s5

/-- A write of LANE_CFG (R84 to R89). A group's other members take only RX_INV, TX_INV and TX_IDLE (R86). -/
def writeLaneCfg (n : Nat) (v : Word) (s : State) : State :=
  if s.groupBase n ≠ n then
    if (v ^^^ s.reg .LANE_CFG n) &&& laneGroupMask = 0 then plainWrite .LANE_CFG n v s else s.reject .LANE
  else if laneCfgBad n v s then s.reject .LANE
  else match assignLane n v s with
    | some t => t
    | none => s.reject .LANE

/-! ### PLL events -/

/-- A started PLL locks (R89); its transmitters run. A spare that starts for a lost PLL takes its transmitters at PLL_SWAP. -/
def pllLocks (q k : Nat) (s : State) : State :=
  let x := s.quadOf q
  if x.phase k = .starting ∧ (k < 2 ∨ s.fld F.LANE_QUAD_STAT_SPARE q ≠ 0) then s.setQuad q { x.setPhase k .locked with restarts := 0 } else s

/-- The lanes whose transmitters PLL `k` (2 the spare) clocks. -/
def State.pllLanes (s : State) (q k : Nat) : List Nat :=
  ((List.range 4).map (fun j => 4 * q + j)).filter (fun n => s.fld F.LANE_STAT_TX_PLL n == k)

/-- The quad's spare PLL unit is in the Vault and eligible (R442). -/
def State.sparePllReady (s : State) (q : Nat) : Bool :=
  let e := 198 + 3 * q + 2
  s.fld F.LANE_QUAD_STAT_SPARE q == 0 && decide ((s.quadOf q).spare = .stopped)
    && s.fld F.VAULT_LG_HRS_STATE e == 1 && s.fld F.VAULT_LG_BIST_VERDICT e == 1

/-- An active PLL loses lock (R91): PLL_LOST, and the spare starts if the Vault holds it. -/
def pllLoses (q k : Nat) (s : State) : State :=
  let x := s.quadOf q
  if x.phase k = .locked then
    let s1 := s.setQuad q (x.setPhase k .lost)
    let s2 := (s.pllLanes q k).foldl (fun t n => t.setFlag F.LANE_STAT_PLL_LOST_S n true) s1
    let e := 198 + 3 * q + k
    let s3 : State := ({ s2 with esc := { s2.esc with pll := e :: s2.esc.pll.filter (· != e) } }).raise Src.LANE_PLL_LOST
    if k < 2 ∧ s3.sparePllReady q then
      s3.setQuad q { s3.quadOf q with spare := .starting }
    else s3
  else s

/-- Transmitters of PLL `k` move to the spare, which serves for it (R90, R91). -/
def moveToSpare (q k : Nat) (s : State) : State :=
  let s1 := (s.pllLanes q k).foldl (fun t n => t.setFld F.LANE_STAT_TX_PLL n 2) s
  let s2 := (s1.setFld F.LANE_QUAD_STAT_SPARE q (k + 1)).setQuad q { s1.quadOf q with spare := .locked }
  s2.setFld F.VAULT_LG_HRS_STATE (198 + 3 * q + 2) 0

/-- The spare locks and the lost PLL's transmitters resume on it (R91). -/
def pllSwaps (q : Nat) (s : State) : State :=
  let x := s.quadOf q
  if x.spare = .starting then
    if x.pll0 = .lost then (moveToSpare q 0 s).raise Src.LANE_PLL_SWAP
    else if x.pll1 = .lost then (moveToSpare q 1 s).raise Src.LANE_PLL_SWAP
    else s
  else s

/-- With no spare, a lost PLL relocks (R91). -/
def pllRelocks (q k : Nat) (s : State) : State :=
  let x := s.quadOf q
  let st := s.fld F.VAULT_LG_HRS_STATE (198 + 3 * q + k)
  if x.phase k = .lost ∧ x.spare ≠ .starting ∧ (st = 0 ∨ st = 2) then
    s.setQuad q (x.setPhase k .locked)
  else s

/-! ### Receivers (R92, R93, R95) -/

/-- A lane receiver's hidden state. -/
def State.rxOf (s : State) (n : Nat) : LaneRx := s.laneRx.get .reset n

/-- A lane receiver's hidden state replaced. -/
def State.setRx (s : State) (n : Nat) (x : LaneRx) : State := { s with laneRx := s.laneRx.set n x }

/-- The receiver's CDR may lock at a rate (R88). -/
def State.cdrMayLock (s : State) (n rate : Nat) : Bool :=
  match s.fld F.LANE_CFG_RX_PROTO n with
  | 0 => false
  | 1 => decide (rate ≤ 8)
  | _ => rate == s.fld F.LANE_CFG_RX_RATE n

/-- The CDR gains lock; with ADAPT = 0 the first lock starts a full adaptation (R92). -/
def cdrLocks (n rate : Nat) (s : State) : State :=
  if s.cdrMayLock n rate ∧ !s.flag F.LANE_STAT_CDR_LOCK n then
    let s1 := s.setFlds n [(F.LANE_STAT_CDR_LOCK, 1),
      (F.LANE_STAT_RATE_DET, if s.fld F.LANE_CFG_RX_PROTO n = 1 then rate else 0xF)]
    if s.fld F.LANE_RXEQ_ADAPT n = 0 ∧ (s.rxOf n).fresh then
      (s1.setFlag F.LANE_STAT_ADAPT_DONE n false).setRx n ⟨false, true, false⟩
    else s1
  else s

/-- Full adaptation finishes; the manual gives no equaliser setting for it. -/
def adaptFinishes (n : Nat) (s : State) : State :=
  if (s.rxOf n).adapting then
    let (c, t) := s.freeNat
    (t.setFlds n [(F.LANE_STAT_ADAPT_DONE, 1), (F.LANE_RXEQ_CTLE, c)]).setRx n ⟨(s.rxOf n).fresh, false, false⟩
  else s

/-- Adaptation has not finished 100 ms after CDR lock (R92). -/
def adaptFails (n : Nat) (s : State) : State :=
  if (s.rxOf n).adapting then (s.setRx n { s.rxOf n with late := true }).raise Src.LANE_ADAPT_FAIL else s

/-- A write of LANE_RXEQ: ADAPT = 2 starts a full adaptation and then reads 0 (R92). -/
def writeRxEq (n : Nat) (v : Word) (s : State) : State :=
  let t := plainWrite .LANE_RXEQ n v s
  if F.LANE_RXEQ_ADAPT.of v = 2 then
    let u := (t.setFld F.LANE_RXEQ_ADAPT n 0).setFlag F.LANE_STAT_ADAPT_DONE n false
    if u.flag F.LANE_STAT_CDR_LOCK n then u.setRx n ⟨false, true, false⟩ else u.setRx n .reset
  else t

/-- A lane's Wear Ledger entry holds the lowest EYE_H and EYE_V written (R451); below WARN_H or WARN_V the entry has WEAR
(R452). A word of 0 holds no measurement yet. -/
def noteEyeLedger (n h v : Nat) (s : State) : State :=
  let w := (s.reg .VAULT_LG_VMIN (294 + n)).toNat % 2 ^ 16
  let lo (a b : Nat) : Nat := if w = 0 then b else min a b
  let t := s.setReg .VAULT_LG_VMIN (294 + n) (BitVec.ofNat 32 (lo (w % 256) h + lo (w / 256) v * 256))
  if h < s.fld F.LANE_EYE_CFG_WARN_H 0 ∨ v < s.fld F.LANE_EYE_CFG_WARN_V 0 then
    (t.setFlag F.VAULT_LG_HRS_WEAR (294 + n) true).raise Src.VAULT_WEAR_LIMIT
  else t

/-- An eye measurement (R93): margins, minima, the lane's Wear Ledger entry, EYE_LOW. -/
def eyeMeasured (n h v : Nat) (s : State) : State :=
  if s.flag F.LANE_STAT_CDR_LOCK n then
    let lo (f : Fld) (x : Nat) : Nat := min (s.fld f n) x
    let s1 := s.setFlds n [(F.LANE_EYE_EYE_H, h), (F.LANE_EYE_EYE_V, v),
      (F.LANE_EYE_H_MIN, lo F.LANE_EYE_H_MIN h), (F.LANE_EYE_V_MIN, lo F.LANE_EYE_V_MIN v)]
    let s2 := noteEyeLedger n h v s1
    if h < s.fld F.LANE_EYE_CFG_WARN_H 0 ∨ v < s.fld F.LANE_EYE_CFG_WARN_V 0 then
      (s2.setFlag F.LANE_STAT_EYE_LOW_S n true).raise Src.LANE_EYE_LOW
    else s2
  else s

/-- A write of LANE_EYE_CLR (R93). -/
def writeEyeClr (v : Word) (s : State) : State :=
  if F.LANE_EYE_CLR_CLR.of v = 1 then
    (List.range 128).foldl (fun t n => t.setFlds n [(F.LANE_EYE_H_MIN, 0xFF), (F.LANE_EYE_V_MIN, 0xFF)]) s
  else s

/-- The receiver loses its signal (R95). -/
def losSets (n : Nat) (s : State) : State :=
  if s.flag F.LANE_STAT_LOS n then s
  else
    let s1 := s.setFlds n [(F.LANE_STAT_LOS, 1), (F.LANE_STAT_CDR_LOCK, 0), (F.LANE_STAT_RATE_DET, 0xF), (F.LANE_STAT_LOS_S, 1)]
    ((s1.setRx n .reset).bump .LANE_LOS_CNT n).raise Src.LANE_LOS

/-- The receiver has its signal back, its CDR in lock (R95). -/
def losClears (n : Nat) (s : State) : State :=
  if s.flag F.LANE_STAT_CDR_LOCK n then s.setFlag F.LANE_STAT_LOS n false else s

/-- The CDR loses lock without LOS (R113). -/
def cdrLoses (n : Nat) (s : State) : State :=
  if s.flag F.LANE_STAT_CDR_LOCK n ∧ !s.flag F.LANE_STAT_LOS n then
    (s.setFlds n [(F.LANE_STAT_CDR_LOCK, 0), (F.LANE_STAT_RATE_DET, 0xF), (F.LANE_STAT_UNLOCK_S, 1)]).raise Src.LANE_CDR_UNLOCK
  else s

/-- A write of a LANE register (R113) other than LANE_TXEQ, whose user offsets are chapter 16's. -/
def writeLane (r : RegName) (i : Nat) (v : Word) (s : State) : State :=
  match r with
  | .LANE_CFG => writeLaneCfg i v s
  | .LANE_RXEQ => writeRxEq i v s
  | .LANE_EYE_CLR => writeEyeClr v s
  | _ => plainWrite r i v s

/-! ### Meanings -/

/-- LANE_ASSIGN: a write of LANE_CFG (R87). -/
def execLaneAssign (n : Fin 128) (v : Word) (s : State) : Out := .next (writeLaneCfg n v s)

/-- TX_PLL_LOCK (R89). -/
def execTxPllLock (q : Fin 32) (k : Fin 3) (s : State) : Out := .next (pllLocks q k s)

/-- PLL_LOST (R91). -/
def execPllLost (q : Fin 32) (k : Fin 3) (s : State) : Out := .next (pllLoses q k s)

/-- PLL_RELOCK (R91). -/
def execPllRelock (q : Fin 32) (k : Fin 3) (s : State) : Out := .next (pllRelocks q k s)

/-- ADAPT_FAIL (R92). -/
def execAdaptFail (n : Fin 128) (s : State) : Out := .next (adaptFails n s)

/-- ADAPT_RESTART: a write of LANE_RXEQ with ADAPT = 2 (R92). -/
def execAdaptRestart (n : Fin 128) (v : Word) (s : State) : Out := .next (writeRxEq n ((v &&& ~~~ 3#32) ||| 2#32) s)

/-- EYE_MEASURE (R93). -/
def execEyeMeasure (n : Fin 128) (h v : BitVec 8) (s : State) : Out := .next (eyeMeasured n h.toNat v.toNat s)

/-- EYE_CLR: a write of LANE_EYE_CLR with CLR = 1 (R93). -/
def execEyeClr (s : State) : Out := .next (writeEyeClr 1#32 s)

end Sys2Proof.Machine
end

