-- ==== Sys2Proof/Machine/VaultUnits.lean ====
section
/-!
DEFINITION. The units of the Vault (R441, R442), the power ledger (R394) and the queue of BIST runs (R396).
-/

namespace Sys2Proof.Machine

/-! ### Units -/

/-- The type of a unit index (R441); 8 where there is none. -/
def unitType (e : Nat) : Nat :=
  if e < 18 then 0 else if e < 36 then 1 else if e < 53 then 2 else if e < 125 then 3 else if e < 130 then 4
  else if e < 198 then 5 else if e < 294 then 6 else if e < 422 then 7 else 8

/-- The state field of a unit: the register field that shows it and its element (R442). -/
def unitField (e : Nat) : Fld × Nat :=
  match unitType e with
  | 0 => (F.XPT_SLICE_STAT_STATE, e)
  | 1 => (F.CUE_ENG_STAT_STATE, e - 18)
  | 2 => (F.WCOMP_UNIT_STATE, e - 36)
  | 3 => (F.AUD_ASRC_UNIT_STATE, e - 53)
  | 4 => (F.CPU_CORE_STAT_STATE, e - 125)
  | _ => (F.VAULT_LG_HRS_STATE, e)

/-- The state code of a unit (R442). -/
def State.unitState (s : State) (e : Nat) : Nat := s.fld (unitField e).1 (unitField e).2

/-- The state with a unit's state code set. -/
def State.setUnit (s : State) (e st : Nat) : State := s.setFld (unitField e).1 (unitField e).2 st

/-- The unit indices that share spares with `e`: its type; its plane, stack or quad for types 0, 5 and 6. -/
def unitGroup (e : Nat) : List Nat :=
  let upto (lo n : Nat) : List Nat := (List.range n).map (lo + ·)
  match unitType e with
  | 0 => upto (e / 9 * 9) 9
  | 1 => upto 18 18
  | 2 => upto 36 17
  | 3 => upto 53 72
  | 4 => upto 125 5
  | 5 => upto (130 + (e - 130) / 34 * 34) 34
  | 6 => upto (198 + (e - 198) / 3 * 3) 3
  | _ => []

/-- A run of the unit waits or is in progress. -/
def State.underTest (s : State) (e : Nat) : Bool :=
  s.vault.running.contains e || s.vault.queue.any (fun q => q.target == e)

/-- A spare may enter service (R442): in the Vault, its last verdict PASS, its last run ended, no migration to it. -/
def State.eligible (s : State) (e : Nat) : Bool :=
  s.unitState e == 1 && s.fld F.VAULT_LG_BIST_VERDICT e == 1 && !s.underTest e
    && !s.vault.migr.entries.any (fun m => m.2.spare == e)

/-- The spare of a transmit PLL unit: the quad's third one; for the third one the PLL whose place it holds. -/
def State.pllSpare (s : State) (e : Nat) : Option Nat :=
  let q := (e - 198) / 3
  let p := s.fld F.LANE_QUAD_STAT_SPARE q
  let u := if (e - 198) % 3 = 2 then 198 + 3 * q + (p - 1) else 198 + 3 * q + 2
  if s.eligible u && ((e - 198) % 3 == 2 && (p == 1 || p == 2) || (e - 198) % 3 != 2 && p == 0) then some u else none

/-- The spare that may take a unit's place: the one that its migration has waked, or the lowest eligible one. -/
def State.spareFor (s : State) (e : Nat) : Option Nat :=
  match s.vault.migr.entries.find? (fun m => m.2.leaving == e) with
  | some m => some m.2.spare
  | none => if unitType e = 6 then s.pllSpare e else (unitGroup e).find? (fun u => u != e && s.eligible u)

/-! ### The power ledger (R394), in units of 0.05 W -/

/-- A lane direction's figure. -/
def lanePower (proto rate : Nat) : Nat :=
  if proto = 0 then 0 else if rate = 11 then 8 else if rate = 9 ∨ rate = 10 then 4 else 2

/-- A unit's figure under BIST, B(u). -/
def bistPower (e : Nat) : Nat :=
  match unitType e with
  | 0 => 180
  | 1 => 20
  | 2 => 60
  | 3 => 1
  | 4 => 70
  | 5 => 16
  | 6 => 2
  | _ => 0

/-- A unit's figure in service. -/
def servicePower (e : Nat) : Nat :=
  match unitType e with
  | 0 => 80
  | 1 => 10
  | 2 => 24
  | 4 => 40
  | _ => 0

/-- A unit does work: active or draining, or a spare that a migration has waked; a pipe unit with a user, a core with a
hart that runs. -/
def State.inService (s : State) (e : Nat) : Bool :=
  let st := s.unitState e
  let on := st == 0 || st == 2 || s.vault.migr.entries.any (fun m => m.2.spare == e)
  match unitType e with
  | 2 => on && s.fld F.WCOMP_PIPE_CFG_USER (s.fld F.WCOMP_UNIT_SERVES (e - 36)) != 0
  | 4 => on && bit (s.fld F.CPU_STAT_HARTS_UP 0) (s.fld F.CPU_CORE_STAT_HART (e - 125))
  | _ => on

/-- What one unit draws. -/
def State.unitPower (s : State) (e : Nat) : Nat :=
  if s.vault.running.contains e then bistPower e else if s.inService e then servicePower e else 0

/-- The Audio Engine has a group, alignment group or port enabled. -/
def State.audioOn (s : State) : Bool :=
  (List.range 2048).any (fun g => s.fld F.AUD_GRP_CFG_SIZE g != 0)
    || (List.range 1024).any (fun a => s.flag F.AUD_AGRP_CFG_EN a) || (List.range 16).any (fun p => s.flag F.AUD_SP_CFG_EN p)

/-- The ledger P, in units of 0.05 W. -/
def State.power (s : State) : Nat :=
  let lanes := (List.range 128).foldl (fun a n => a + lanePower (s.fld F.LANE_CFG_RX_PROTO n) (s.fld F.LANE_CFG_RX_RATE n)
    + lanePower (s.fld F.LANE_CFG_TX_PROTO n) (s.fld F.LANE_CFG_TX_RATE n)) 0
  let units := (List.range 294).foldl (fun a e => a + s.unitPower e) 0
  let wall := if s.flag F.WCOMP_CFG_EN 0 || s.flag F.WSCAN_CFG_EN 0 then 88 else 0
  let hbm := (if s.hbmLoad 0 = 0 then 0 else 100) + (if s.hbmLoad 1 = 0 then 0 else 100)
  360 + lanes + units + wall + hbm + (if s.audioOn then 40 else 0)

/-- BIST_POWER_CAP in units of 0.05 W (R396). -/
def State.powerCap (s : State) : Nat := 2 * min 2400 (s.fld F.PWR_BIST_CAP_CAP 0)

/-- The run of a target fits under the cap now. -/
def State.runFits (s : State) (e : Nat) : Bool := decide (s.power + bistPower e ≤ s.powerCap)

/-! ### The queue of runs (R396, R456) -/

/-- A run requested now would have to wait: one before it does, or the sum with those before it exceeds the cap. -/
def State.mustWait (s : State) (e : Nat) : Bool :=
  s.vault.queue.any (fun q => q.held)
    || decide (s.powerCap < s.power + bistPower e + s.vault.queue.foldl (fun a q => a + bistPower q.target) 0)

/-- A run is requested; one that has to wait is counted (R396). -/
def requestRun (e : Nat) (rotate : Bool) (s : State) : State :=
  if s.underTest e then s
  else
    let held := s.mustWait e
    let t := { s with vault := { s.vault with queue := s.vault.queue ++ [⟨e, rotate, held⟩] } }
    if held then (t.bump .PWR_CAP_HOLD_CNT 0).raise Src.PWR_CAP_HOLD else t

/-- A unit is parked in the Vault by a withdrawal on error, and its run is requested (R456). -/
def parkUnit (e : Nat) (s : State) : State := requestRun e false (s.setUnit e 1)

end Sys2Proof.Machine
end

