-- ==== Sys2Proof/Machine/Aud.lean ====
section
/-!
DEFINITION. The Audio Engine (chapter 11): feeders, input buffers and their slips, converters, audio groups with their
gain, mute and zero-crossing changes, channel status, serial ports.
-/

namespace Sys2Proof.Machine

/-! ### Periods and slots (R266, R267) -/

/-- The instant at which period `p` begins, in ns of Event Time full time. -/
def periodStart (p : Nat) : Nat := p * 62500 / 3

/-- The first period that begins at or after an instant. -/
def firstPeriod (t : Int) : Nat := (-((-3 * t) / 62500)).toNat

/-- The next period that the Audio Engine processes. -/
def State.nextPeriod (s : State) : Nat :=
  let p := firstPeriod s.etFull
  if p = s.aud.period then p + 1 else p

/-- An input slot. -/
def State.inSlot (s : State) (i : Nat) : InSlot := s.aud.slot.get .reset i

/-- An input slot replaced. -/
def State.setInSlot (s : State) (i : Nat) (x : InSlot) : State := { s with aud := { s.aud with slot := s.aud.slot.set i x } }

/-- The feeder of a slot. -/
def State.feedOf (s : State) (i : Nat) : Option AudFeed :=
  s.aud.feeds.find? (fun f => decide (f.slot ≤ i) && decide (i < f.slot + f.slots))

/-- A feeder as channels of its own rate place it (R267). -/
def mkFeed (kind unit base count : Nat) (fs96 cs asrc : Bool) : AudFeed :=
  if fs96 then ⟨kind, unit, 2 * base, 2 * count, true, cs, asrc⟩ else ⟨kind, unit, base, count, false, cs, asrc⟩

/-- Two runs of slots meet. -/
def runsMeet (a n b m : Nat) : Bool := decide (a < b + m) && decide (b < a + n)

/-- A feeder may be added beside the others, its own earlier entry apart (R267). -/
def State.mayFeed (s : State) (f : AudFeed) : Bool :=
  s.aud.feeds.all (fun g => (g.kind == f.kind && g.unit == f.unit) || !runsMeet f.slot f.slots g.slot g.slots)

/-- A feeder goes. -/
def unfeed (kind unit : Nat) (s : State) : State :=
  { s with aud := { s.aud with feeds := s.aud.feeds.filter (fun g => !(g.kind == kind && g.unit == unit)) } }

/-- A feeder takes its slots, its earlier entry replaced. -/
def feed (f : AudFeed) (s : State) : State :=
  let t := unfeed f.kind f.unit s
  { t with aud := { t.aud with feeds := f :: t.aud.feeds } }

/-- The enabled merge group of a receive context, and whether the context is its path B (R157). -/
def State.mergeOf (s : State) (c : Nat) : Option (Nat × Bool) :=
  (((List.range 1024).filter (fun m => s.flag F.MPORT_MRG_CFG_EN m)).filterMap (fun m =>
    if s.fld F.MPORT_MRG_CFG_CTX_A m = c then some (m, false)
    else if s.fld F.MPORT_MRG_CFG_CTX_B m = c then some (m, true) else none)).head?

/-- The other member of a context's merge group. -/
def State.mergePartner (s : State) (c : Nat) : Option Nat :=
  (s.mergeOf c).map (fun x => if x.2 then s.fld F.MPORT_MRG_CFG_CTX_A x.1 else s.fld F.MPORT_MRG_CFG_CTX_B x.1)

/-- A receive context, or its partner in a merge group, is LOCKED (R153, R157). -/
def State.rxcLocked (s : State) (c : Nat) : Bool :=
  s.fld F.MPORT_RXC_STAT_STATE c == 2
    || (match s.mergePartner c with | some d => s.fld F.MPORT_RXC_STAT_STATE d == 2 | none => false)

/-- A feeder's source is present (R122, R155, R288); an absent one delivers zero samples with V = 1. -/
def State.feedPresent (s : State) (f : AudFeed) : Bool :=
  match f.kind with
  | 1 => s.fld F.SDI_RX_STAT_STATE (f.unit % 128) == 2 && !s.flag F.SDI_RX_STAT_AUD_RATE (f.unit % 128)
  | 2 => s.rxcLocked f.unit
  | 3 => s.fld F.ULINK_STAT_STATE f.unit == 5
  | 4 => s.flag F.AUD_SP_STAT_RX_LOCK f.unit
  | _ => false

/-! ### Alignment groups and converters (R271 to R276) -/

/-- The slots of an alignment group. -/
def State.agrpRun (s : State) (a : Nat) : Nat × Nat :=
  let b := s.fld F.AUD_AGRP_CFG_BASE a
  let n := s.fld F.AUD_AGRP_CFG_COUNT a
  if s.flag F.AUD_AGRP_CFG_FS96 a then (2 * b, 2 * n) else (b, n)

/-- The enabled alignment groups. -/
def State.agrps (s : State) : List Nat := s.aud.run.keys.filter (fun a => decide (a < 1024) && s.flag F.AUD_AGRP_CFG_EN a)

/-- The enabled alignment group of a slot. -/
def State.agrpOf (s : State) (i : Nat) : Option Nat :=
  s.agrps.find? (fun a => decide ((s.agrpRun a).1 ≤ i) && decide (i < (s.agrpRun a).1 + (s.agrpRun a).2))

/-- The logical converter that serves a group with a unit. -/
def State.asrcOf (s : State) (a : Nat) : Option Nat :=
  (List.range 64).find? (fun c => s.flag F.AUD_ASRC_CFG_EN c && s.fld F.AUD_ASRC_CFG_AGRP c == a && !s.aud.bare.contains c)

/-- The run state of a group, or of a single slot as 1,024 + slot. -/
def State.alignRun (s : State) (k : Nat) : AlignRun := s.aud.run.get .reset k

/-- The run state replaced. -/
def State.setAlignRun (s : State) (k : Nat) (x : AlignRun) : State :=
  { s with aud := { s.aud with run := s.aud.run.set k x } }

/-- A slip of a group or a single slot is counted (R273). -/
def countSlip (k rep drop : Nat) (s : State) : State :=
  let t := if k < 1024 then
      ((s.bump .AUD_AGRP_SLIP k).bumpN .AUD_AGRP_REP k rep).bumpN .AUD_AGRP_DROP k drop
    else s.bump .AUD_SLIP_SINGLE_CNT 0
  t.raise Src.AUD_SLIP

/-- A C bit joins the block in assembly; the 192nd completes it (R283). `keep` drops a block whose CRCC fails (R288). -/
def InSlot.takeC (x : InSlot) (a : AudSample) (keep : Nat → Bool) : InSlot :=
  let (bits, n) := if a.z then (b2n a.c, some 1)
    else match x.count with
      | some n => (x.bits + b2n a.c * 2 ^ n, some (n + 1))
      | none => (0, none)
  if n = some 192 then { x with bits := 0, count := none, block := if keep bits then some bits else x.block }
  else { x with bits := bits, count := n }

/-- CRCC of AES3 over bytes 0 to 22 of a block (PRESUMED, the polynomial of AES3; notes/assumptions/30.md). -/
def crccStep (c b : Nat) : Nat := if (c + b) % 2 = 1 then (c / 2).xor 0xB8 else c / 2

/-- The CRCC of a block. -/
def crcc (block : Nat) : Nat := (List.range 184).foldl (fun c i => crccStep c (block / 2 ^ i % 2)) 0xFF

/-- A block's byte 23 matches its CRCC. -/
def crccOk (block : Nat) : Bool := crcc block == bitsOf block 184 8

/-- The slot that holds the channel status of a slot's channel: its first at 96 kHz. -/
def State.csSlot (s : State) (i : Nat) : Nat :=
  match s.feedOf i with
  | some f => if f.fs96 then i / 2 * 2 else i
  | none => i

/-- The channel-status block of a slot's channel takes a sample. -/
def takeCs (i : Nat) (a : AudSample) (keep : Nat → Bool) (s : State) : State :=
  let h := s.csSlot i
  s.setInSlot h ((s.inSlot h).takeC a keep)

/-- A sample arrives in a slot: into the buffer, or, when it is full, counted as a drop (R271, R273); a converter takes
the samples of the group that it serves (R274). -/
def pushSample (i : Nat) (a : AudSample) (s : State) : State :=
  let x := s.inSlot i
  let g := s.agrpOf i
  let s1 := s.setInSlot i { x with rx := a }
  if (match g with | some a => (s.asrcOf a).isSome | none => false) then s1
  else if 128 ≤ x.buf.length then countSlip (match g with | some a => a | none => 1024 + i) 0 1 s1
  else s1.setInSlot i { x with rx := a, buf := x.buf ++ [a] }

/-- A feeder delivers a sample (R271, R283). -/
def deliver (i : Nat) (a : AudSample) (s : State) : State :=
  match s.feedOf i with
  | none => s
  | some f => pushSample i a (if f.cs then takeCs i a (fun _ => true) s else s)

/-- A slot gives its previous sample again. -/
def repeatSlot (s : State) (_i : Nat) : State := s

/-- A slot discards its oldest `k` samples and pops one; left with none, it gives its previous sample again. -/
def popSlot (k : Nat) (s : State) (i : Nat) : State :=
  let x := s.inSlot i
  match x.buf.drop k with
  | [] => s.setInSlot i { x with buf := [] }
  | a :: t => s.setInSlot i { x with buf := t, cur := a }

/-- A slot gives a zero sample with V = 1. -/
def blankSlot (s : State) (i : Nat) : State := s.setInSlot i { s.inSlot i with cur := .absent }

/-- A slot gives a converted sample: the manual gives no filter, so its value is free. -/
def convertSlot (s : State) (i : Nat) : State :=
  let (v, t) := s.freeNat
  t.setInSlot i { t.inSlot i with cur := ⟨BitVec.ofNat 24 v, false, false, false, false⟩ }

/-- The slots of a group, or a single slot, at a period (R272, R273). -/
def alignPeriod (k : Nat) (slots : List Nat) (delay : Nat) (s : State) : State :=
  let r := s.alignRun k
  let fills := slots.map (fun i => (s.inSlot i).buf.length)
  let lo := fills.foldl min 128
  let hi := fills.foldl max 0
  if !r.running && decide (lo < delay) then slots.foldl blankSlot s
  else if r.rep ≠ 0 then (slots.foldl repeatSlot s).setAlignRun k ⟨true, r.rep - 1⟩
  else if lo == 0 then
    countSlip k delay 0 ((slots.foldl repeatSlot s).setAlignRun k ⟨true, delay - 1⟩)
  else if 2 * delay < hi then
    countSlip k 0 (hi - delay) ((slots.foldl (popSlot (hi - delay)) s).setAlignRun k ⟨true, 0⟩)
  else (slots.foldl (popSlot 0) s).setAlignRun k ⟨true, 0⟩

/-- The fills of a group's members at a period. -/
def noteFills (a : Nat) (slots : List Nat) (s : State) : State :=
  let fills := slots.map (fun i => (s.inSlot i).buf.length)
  s.setFlds a [(F.AUD_AGRP_STAT_FILL_MIN, fills.foldl min 128), (F.AUD_AGRP_STAT_FILL_MAX, fills.foldl max 0)]

/-- A group at a period: served by a converter, its slots give converted samples once it is LOCKED (R275); else its
buffers pop. -/
def agrpPeriod (s : State) (a : Nat) : State :=
  let (b, n) := s.agrpRun a
  let slots := (List.range n).map (b + ·)
  match s.asrcOf a with
  | some c =>
    let d := s.fld F.AUD_AGRP_CFG_DELAY a
    let t := (s.setAlignRun a ⟨true, 0⟩).setFlds a [(F.AUD_AGRP_STAT_FILL_MIN, d), (F.AUD_AGRP_STAT_FILL_MAX, d)]
    slots.foldl (if s.flag F.AUD_ASRC_STAT_LOCKED c then convertSlot else blankSlot) t
  | none => alignPeriod a slots (s.fld F.AUD_AGRP_CFG_DELAY a) (noteFills a slots s)

/-- Slots whose feeder is absent, or that no feeder feeds any longer, receive a zero sample with V = 1 (R272, R289). -/
def fillAbsent (s : State) : State :=
  s.aud.slot.keys.foldl (fun t i =>
    match t.feedOf i with
    | some f => if t.feedPresent f then t else pushSample i .absent t
    | none => pushSample i .absent t) s

/-- Every group's slots have an entry, so that an absent feeder fills them. -/
def touchSlots (l : List Nat) (s : State) : State :=
  l.foldl (fun t i => if (t.aud.slot.find? i).isSome then t else t.setInSlot i .reset) s

/-- The input side of a period: groups, then the slots in no group. -/
def inputPeriod (s : State) : State :=
  let s1 := s.agrps.foldl agrpPeriod s
  let singles := s1.aud.slot.keys.filter (fun i => (s1.agrpOf i).isNone)
  singles.foldl (fun t i => alignPeriod (1024 + i) [i] (t.fld F.AUD_CFG_DELAY_DEF 0) t) s1

/-! ### Gain (R280) -/

/-- `2n − 1 ≤ 2·x·10^(num/(200·den))`, compared exactly. -/
def gainReaches (x n : Int) (g : AudGain) : Bool :=
  let d := Nat.gcd g.num.natAbs (200 * g.den)
  let b := 200 * g.den / max 1 d
  let a := g.num.natAbs / max 1 d
  let up (m : Nat) : Nat := (2 * m) ^ b * (if 0 ≤ g.num then 10 ^ a else 1)
  let lhs (m : Nat) : Nat := m ^ b * (if 0 ≤ g.num then 1 else 10 ^ a)
  let c := 2 * n - 1
  if 0 ≤ x then (if c ≤ 0 then true else decide (lhs c.toNat ≤ up x.toNat))
  else (if 0 < c then false else decide (up x.natAbs ≤ lhs (-c).toNat))

/-- The greatest n in the 24-bit range that the product reaches, by steps of powers of two from the least value up. -/
def gainSearch (x : Int) (g : AudGain) : Nat → Int → Int
  | 0, n => n
  | k + 1, n =>
    let m := n + (2 ^ k : Nat)
    gainSearch x g k (if gainReaches x m g then m else n)

/-- A sample times the linear factor of a gain, rounded to the nearest with halves upward and saturated to 24 bits;
−120.0 dB gives silence. -/
def applyGain (g : AudGain) (x : Int) : Int :=
  if g.num ≤ -1200 * (g.den : Int) then 0 else if g.num = 0 then x else gainSearch x g 24 (-8388608)

/-- The gain of a ramp after `j` of `n` samples: linear in dB. -/
def AudRamp.at (r : AudRamp) (j n : Nat) : AudGain :=
  if n ≤ j then ⟨r.target, 1⟩
  else ⟨r.from_.num * (n : Int) + (r.target * (r.from_.den : Int) - r.from_.num) * (j : Int), r.from_.den * n⟩

/-! ### Audio groups (R268 to R270, R277 to R282) -/

/-- An audio group's hidden state. -/
def State.audGroup (s : State) (g : Nat) : AudGroup := s.aud.group.get .reset g

/-- The group's hidden state replaced. -/
def State.setAudGroup (s : State) (g : Nat) (x : AudGroup) : State :=
  { s with aud := { s.aud with group := s.aud.group.set g x } }

/-- A member. -/
def AudGroup.member (x : AudGroup) (m : Nat) : AudMember := x.members.get .reset m

/-- The group's rate is 96 kHz. -/
def State.grp96 (s : State) (g : Nat) : Bool := s.flag F.AUD_GRP_CFG_FS96 g

/-- The slots of a group. -/
def State.grpRun (_s : State) (v : Word) : Nat × Nat :=
  let b := F.AUD_GRP_CFG_BASE.of v
  let n := F.AUD_GRP_CFG_SIZE.of v
  if F.AUD_GRP_CFG_FS96.of v = 1 then (2 * b, 2 * n) else (b, n)

/-- The defined groups. -/
def State.grps (s : State) : List Nat :=
  (s.regs.keys.filter (fun k => k % 1024 == RegName.AUD_GRP_CFG.code)).map (· / 1024)
    |>.filter (fun g => s.fld F.AUD_GRP_CFG_SIZE g != 0)

/-- The slots of a source channel in a group's numbering are fed at the other rate (R270). -/
def State.rateMis (s : State) (fs96 : Bool) (ch : Nat) : Bool :=
  let i := if fs96 then 2 * ch else ch
  match s.feedOf i with
  | some f => f.fs96 != fs96
  | none => match s.agrpOf i with
    | some a => (s.asrcOf a).isSome && s.flag F.AUD_AGRP_CFG_FS96 a != fs96
    | none => false

/-- The sample of a source channel, half `h` of a 96 kHz period. -/
def State.sourceSample (s : State) (fs96 : Bool) (src : Option Nat) (h : Nat) : AudSample :=
  match src with
  | none => { AudSample.absent with u := false }
  | some ch => if s.rateMis fs96 ch then .absent else (s.inSlot (if fs96 then 2 * ch + h else ch)).cur

/-- What a member puts out of a source with a gain and mute: V, U and C pass; a muted one is zero (R280, R281). -/
def State.memberValue (s : State) (fs96 : Bool) (src : Option Nat) (muted : Bool) (g : AudGain) (h : Nat) : Int :=
  let a := s.sourceSample fs96 src h
  if muted then 0 else applyGain g (signed 24 a.val.toNat)

/-- A member's ramp moves its gain at a sample of period `p`. -/
def AudMember.rampTo (m : AudMember) (fs96 : Bool) (p h : Nat) : AudMember :=
  match m.ramp with
  | none => m
  | some r =>
    if p < r.p0 then m
    else
      let k := if fs96 then 2 else 1
      let j := k * (p - r.p0) + h
      let m1 := { m with gain := r.at j (k * r.periods) }
      if k * r.periods ≤ j then { m1 with ramp := none } else m1

/-- A waiting change acts. -/
def AudMember.apply (m : AudMember) (c : AudChange) : AudMember :=
  { m with
    src := match c.src with | some x => some x | none => m.src
    muted := c.muted.getD m.muted
    gain := match c.gain with | some x => ⟨x, 1⟩ | none => m.gain
    ramp := if c.gain.isSome then none else m.ramp
    pend := none }

/-- A member's crossfade begins. -/
def AudMember.beginFade (m : AudMember) (c : AudChange) : AudMember :=
  { m.apply c with fade := some ⟨m.src, m.muted, if c.gain.isSome then some m.gain else none, 0⟩ }

/-- One sample of a member: crossing, crossfade or neither (R278); whether a crossfade began, the sample and the member. -/
def State.memberSample (s : State) (fs96 : Bool) (p h : Nat) (m0 : AudMember) : Bool × Int × AudMember :=
  let m := m0.rampTo fs96 p h
  let x := s.memberValue fs96 m.src m.muted m.gain h
  let t := if fs96 then (2 * p + h) * 31250 / 3 else periodStart p
  let crosses := x == 0 || decide (x < 0) != decide (m.prev < 0)
  let (began, m1) : Bool × AudMember := match m.pend, m.fade with
    | some c, none =>
      if p < c.start then (false, m)
      else if t < c.deadline then (false, if crosses then m.apply c else m)
      else if h = 0 then (true, m.beginFade c) else (false, m)
    | _, _ => (false, m)
  let new := s.memberValue fs96 m1.src m1.muted m1.gain h
  match m1.fade with
  | none => (began, new, { m1 with prev := new })
  | some f =>
    let old := s.memberValue fs96 f.src f.muted (f.gain.getD m1.gain) h
    let y := (old * (64 - f.j : Nat) + new * (f.j : Nat) + 32) / 64
    let m2 := if f.j = 63 then { m1 with fade := none, fadeEnd := p + 1 } else { m1 with fade := some { f with j := f.j + 1 } }
    (began, y, { m2 with prev := y })

/-! ### Channel status of outputs (R284, R285) -/

/-- A channel-status table as a 192-bit number. -/
def State.csTable (s : State) (r : RegName) (t : Nat) : Nat :=
  (List.range 6).foldl (fun a w => a + (s.reg r (6 * t + w)).toNat * 2 ^ (32 * w)) 0

/-- A block with its CRCC made anew when it is professional. -/
def withCrcc (b : Nat) : Nat := if b % 2 = 1 then putBits b 184 8 (crcc b) else b

/-- The output block of a mode (R284). -/
def State.csBlock (s : State) (mode table : Nat) (src : Option Nat) : Nat :=
  let val := s.csTable .AUD_CS_VAL table
  match mode with
  | 1 => withCrcc val
  | 2 =>
    let m := s.csTable .AUD_CS_MASK table
    let b := src.getD 0
    withCrcc ((b.land (m.xor (2 ^ 192 - 1))).lor (val.land m))
  | _ => src.getD (s.csTable .AUD_CS_VAL (s.fld F.AUD_CFG_CS_DEFAULT 0))

/-- The channel-status block that the slots of a source carry. -/
def State.sourceBlock (s : State) (fs96 : Bool) (src : Option Nat) : Option Nat :=
  src.bind (fun ch => (s.inSlot (if fs96 then 2 * ch else ch)).block)

/-- The source carries Z. -/
def State.sourceHasZ (s : State) (fs96 : Bool) (src : Option Nat) : Bool :=
  match src with
  | none => false
  | some ch =>
    let i := if fs96 then 2 * ch else ch
    (match s.feedOf i with | some f => f.cs | none => false)
      && (match s.agrpOf i with | some a => (s.asrcOf a).isNone | none => true)

/-- The C and Z bits of a member's sample, and the member's block in force. `n` is the free-running count of R285. -/
def State.memberCs (s : State) (fs96 : Bool) (o n : Nat) (a : AudSample) (m : AudMember) : Bool × Bool × AudMember :=
  let hasZ := s.sourceHasZ fs96 m.src
  let mode := s.fld F.AUD_OUT_CS_MODE o
  let start := if m.mode ≠ 1 ∧ hasZ then a.z else n % 192 == 0
  let m1 := if start then
      { m with mode := mode, block := s.csBlock mode (s.fld F.AUD_OUT_CS_TABLE o) (s.sourceBlock fs96 m.src), pos := 0 }
    else { m with pos := m.pos + 1 }
  let passes := m1.mode == 0 && (s.sourceBlock fs96 m.src).isSome
  (if passes then a.c else bit m1.block (m1.pos % 192), start, m1)

/-! ### The output side of a period -/

/-- The last sample of an output slot; a slot in no group gives zero with V = 1 and the default channel status. -/
def State.outSample (s : State) (o : Nat) : AudSample :=
  match s.aud.out.find? o with
  | some a => a
  | none =>
    let n := s.aud.count % 192
    ⟨0, true, false, bit (s.csTable .AUD_CS_VAL (s.fld F.AUD_CFG_CS_DEFAULT 0)) n, n == 0⟩

/-- One sample of member `k` of group `g` goes into its output slot. -/
def putMember (g k p h : Nat) (s : State) : State :=
  let fs96 := s.grp96 g
  let x := s.audGroup g
  let m := x.member k
  let ch := s.fld F.AUD_GRP_CFG_BASE g + k
  let o := if fs96 then 2 * ch else ch
  let (began, v, m1) := s.memberSample fs96 p h m
  let a := s.sourceSample fs96 m1.src h
  let (c, z, m2) := s.memberCs fs96 o (if fs96 then 2 * s.aud.count + h else s.aud.count) a m1
  let y : AudSample := if bit x.mask k then ⟨BitVec.ofInt 24 v, a.v, a.u && m1.src.isSome, c, z⟩
    else ⟨0, true, false, false, z⟩
  let s1 := (s.setAudGroup g { x with members := x.members.set k m2 })
  let s2 := { s1 with aud := { s1.aud with out := s1.aud.out.set (o + h) y } }
  if began then (s2.bump .AUD_XFADE_CNT 0).raise Src.AUD_XFADE else s2

/-- The current gain of a ramping member as AUD_OUT_GAIN shows it, in whole 0.1 dB. -/
def noteGain (g k : Nat) (s : State) : State :=
  let x := s.audGroup g
  let m := x.member k
  let (v, t) := s.divFree m.gain.num m.gain.den
  t.setAudGroup g { x with members := x.members.set k { m with shown := v } }

/-- A group's members at period `p`: the mask that latches, then every member's samples. -/
def groupPeriod (p : Nat) (s : State) (g : Nat) : State :=
  let x := s.audGroup g
  let due := match x.maskAt with | some q => decide (q ≤ p) | none => false
  let s1 := if due then s.setAudGroup g { x with mask := x.cmask, maskAt := none } else s
  (List.range (s1.fld F.AUD_GRP_CFG_SIZE g)).foldl (fun t k =>
    let u := putMember g k p 0 t
    noteGain g k (if t.grp96 g then putMember g k p 1 u else u)) s1

/-! ### Serial ports (R286 to R289) -/

/-- A serial port's hidden state. -/
def State.port (s : State) (p : Nat) : SerialPort := s.aud.sp.get .reset p

/-- A serial port's hidden state replaced. -/
def State.setPort (s : State) (p : Nat) (x : SerialPort) : State := { s with aud := { s.aud with sp := s.aud.sp.set p x } }

/-- A port works: enabled, or disabled with its pins not yet released (R289). -/
def State.portWorks (s : State) (p : Nat) : Bool := s.flag F.AUD_SP_CFG_EN p || (s.port p).releasing

/-- The receiver of a port works. -/
def State.rxWorks (s : State) (p : Nat) : Bool := s.portWorks p && s.flag F.AUD_SP_CFG_RX_EN p

/-- The transmitter of a port works. -/
def State.txWorks (s : State) (p : Nat) : Bool := s.portWorks p && s.flag F.AUD_SP_CFG_TX_EN p

/-- A port's transmitter runs on an external clock through its buffer (R287). -/
def State.txBuffered (s : State) (p : Nat) : Bool :=
  decide (s.fld F.AUD_SP_CFG_MODE p < 2) && s.fld F.AUD_SP_CFG_CLK p != 0

/-- The frame that a port's transmit channels hold: masked channels are zero, with V = 1 in AES3 mode (R282); AES3 takes Z
for both subframes from the first channel (R285). -/
def State.portFrame (s : State) (p h : Nat) : AudSample × AudSample :=
  let fs96 := s.flag F.AUD_SP_CFG_FS96 p
  let aes := s.fld F.AUD_SP_CFG_MODE p == 2
  let at_ (j : Nat) : AudSample :=
    let ch := s.fld F.AUD_SP_CH_OUT_BASE p + j
    let a := s.outSample (if fs96 then 2 * ch + h else ch)
    if bit (s.effFld F.AUD_SP_MASK_TX p) j then a else { a with val := 0, v := aes || a.v }
  let a := at_ 0
  (a, if aes then { at_ 1 with z := a.z } else at_ 1)

/-- A slip of a port's transmit buffer. -/
def txSlip (p : Nat) (s : State) : State := (s.bump .AUD_SP_TXSLIP p).raise Src.AUD_TX_SLIP

/-- A frame enters a port's transmitter: sent at once, or into the buffer of 8, dropped when it is full. -/
def txFrame (p h : Nat) (s : State) : State :=
  let f := s.portFrame p h
  let x := s.port p
  if !s.txBuffered p then s.setPort p { x with sent := f }
  else if 8 ≤ x.tx.length then txSlip p s
  else s.setPort p { x with tx := x.tx ++ [f] }

/-- The external word clock takes a frame from the buffer; an empty one repeats the last frame. -/
def txClock (p : Nat) (s : State) : State :=
  if s.txWorks p && s.txBuffered p then
    let x := s.port p
    match x.tx with
    | [] => txSlip p s
    | f :: t => s.setPort p { x with tx := t, sent := f }
  else s

/-- A port at period `p`: its mask latches, its transmitter takes its frames. -/
def portPeriod (p : Nat) (s : State) (n : Nat) : State :=
  let x := s.port n
  let due := !s.tdEn (s.fld F.AUD_SP_CFG_TD n) || (match x.maskAt with | some q => decide (q ≤ p) | none => false)
  let s1 := if due then (s.commitReg .AUD_SP_MASK n).setPort n { x with maskAt := none } else s
  if s1.txWorks n then
    let s2 := txFrame n 0 s1
    if s1.flag F.AUD_SP_CFG_FS96 n then txFrame n 1 s2 else s2
  else s1

/-- A whole period (R266, R268, R273, R277): time passes to its start, inputs pop, members put out, ports send. -/
def audPeriod (s : State) : State :=
  let p := s.nextPeriod
  let s1 := passTo (periodStart p : Nat) s
  let s2 := (s1.setFld F.AUD_PERIOD_LO_P 0 (p % 2 ^ 32)).setFld F.AUD_PERIOD_HI_P 0 (p / 2 ^ 32 % 2 ^ 16)
  let s3 := inputPeriod (fillAbsent { s2 with aud := { s2.aud with period := p, count := s2.aud.count + 1 } })
  let s4 := s3.grps.foldl (groupPeriod p) s3
  (List.range 16).foldl (portPeriod p) s4

/-! ### The Shutter (R277 to R279, R282) -/

/-- The change of a member that a run's operations make (R277): its ramp and what waits. -/
def commitMember (sh : AudShadow) (p0 azx : Nat) (fs96 : Bool) (k : Nat) (m : AudMember) : AudMember :=
  let src := sh.src.find? k
  let mute := sh.mute.find? k
  let step := match sh.gain.find? k with | some (v, 0) => some v | _ => none
  let ramp := match sh.gain.find? k with | some (v, r + 1) => some (v, 480 * (r + 1)) | _ => none
  let m1 := { m with
    csrc := match src with | some x => some x | none => m.csrc
    cmuted := mute.getD m.cmuted
    target := match sh.gain.find? k with | some (v, _) => v | none => m.target }
  let m2 := match ramp with
    | none => m1
    | some (v, n) =>
      let from_ := (m1.rampTo fs96 p0 0).gain
      { m1 with ramp := some ⟨p0, n, from_, v⟩, pend := m1.pend.bind (fun c =>
          if c.src.isNone ∧ c.muted.isNone then none else some { c with gain := none }) }
  if src.isNone ∧ mute.isNone ∧ step.isNone then m2
  else
    let last := match m2.fade with
      | some f => p0 + (if fs96 then (64 - f.j) / 2 else 64 - f.j)
      | none => m2.fadeEnd
    let start := max p0 last
    { m2 with pend := some ⟨src, step, mute, start, periodStart start + azx * 100000⟩ }

/-- A member's new source is fed at the other rate: RATE_MIS (R270). -/
def noteRateMis (g k : Nat) (s : State) : State :=
  let x := s.audGroup g
  let m := x.member k
  match m.csrc with
  | none => s
  | some ch =>
    if s.rateMis (s.grp96 g) ch then
      ((s.setAudGroup g { x with members := x.members.set k { m with rateMis := true } }).bump .AUD_RATE_MIS_CNT 0).raise
        Src.AUD_RATE_MIS
    else s.setAudGroup g { x with members := x.members.set k { m with rateMis := false } }

/-- The operations of a group's run commit at S(N) (R12, R243, R277). -/
def commitGroup (g p0 : Nat) (s : State) : State :=
  let x := s.audGroup g
  let n := s.fld F.AUD_GRP_CFG_SIZE g
  let sh := x.shadow
  let azx := sh.azx.getD x.azx
  let ks := (List.range n).filter (fun k => (sh.src.find? k).isSome || (sh.gain.find? k).isSome || (sh.mute.find? k).isSome)
  let ms := ks.foldl (fun a k => a.set k (commitMember sh p0 azx (s.grp96 g) k (x.member k))) x.members
  let x1 : AudGroup := match sh.mask with
    | some v => { x with azx := azx, cmask := v % 2 ^ n, maskAt := some p0, members := ms, shadow := .reset }
    | none => { x with azx := azx, members := ms, shadow := .reset }
  let s1 := s.setAudGroup g x1
  let s2 := (s1.setFld F.AUD_GRP_AZX_TIMEOUT g azx).setReg .AUD_GRP_MASK_LO g (BitVec.ofNat 32 x1.cmask)
  let s3 := s2.setReg .AUD_GRP_MASK_HI g (BitVec.ofNat 32 (x1.cmask / 2 ^ 32))
  (ks.filter (fun k => (sh.src.find? k).isSome)).foldl (fun t k => noteRateMis g k t) s3

/-- The Audio Engine's part of the Shutter of domain `n`: p0 is the first period at or after S(N) (R277). -/
def audShutter (n : Nat) (s : State) : State :=
  match (s.tdOf n).last with
  | none => s
  | some t =>
    let p := firstPeriod t.shutter
    let p0 := if p ≤ s.aud.period then s.aud.period + 1 else p
    let mine := s.aud.group.keys.filter (fun g => s.ownerTd (2 ^ 13 + g) == some n)
    let s1 := mine.foldl (fun u g => commitGroup g p0 u) s
    (List.range 16).foldl (fun u q =>
      if u.fld F.AUD_SP_CFG_TD q = n then u.setPort q { u.port q with maskAt := some p0 } else u) s1

/-- A thread is created for a group (R269): every member starts anew. -/
def audGroupCreated (g : Nat) (s : State) : State :=
  let s1 := s.setAudGroup g .reset
  let s2 := (s1.setFld F.AUD_GRP_AZX_TIMEOUT g 50).setReg .AUD_GRP_MASK_LO g 0xFFFFFFFF#32
  s2.setReg .AUD_GRP_MASK_HI g 0xFFFFFFFF#32

/-- A group's thread is deleted (R200): every member is muted with the run's operations. -/
def audGroupMuted (g : Nat) (s : State) : State :=
  let x := s.audGroup g
  let m := (List.range (s.fld F.AUD_GRP_CFG_SIZE g)).foldl (fun a k => a.set k true) x.shadow.mute
  s.setAudGroup g { x with shadow := { x.shadow with mute := m } }

/-! ### Register writes -/

/-- The slots of an alignment group's written word. -/
def agrpSlots (v : Word) : Nat × Nat :=
  let b := F.AUD_AGRP_CFG_BASE.of v
  let n := F.AUD_AGRP_CFG_COUNT.of v
  if F.AUD_AGRP_CFG_FS96.of v = 1 then (2 * b, 2 * n) else (b, n)

/-- A write of AUD_AGRP_CFG (R271, R272). -/
def writeAgrp (a : Nat) (v : Word) (s : State) : State :=
  let on := F.AUD_AGRP_CFG_EN.of v = 1
  let was := s.flag F.AUD_AGRP_CFG_EN a
  let locked := was && ((v ^^^ s.reg .AUD_AGRP_CFG a) &&& 0x7FFFFFFF#32) != 0
  let n := F.AUD_AGRP_CFG_COUNT.of v
  let d := F.AUD_AGRP_CFG_DELAY.of v
  let (b, k) := agrpSlots v
  let range := decide (n < 1) || decide (64 < n) || decide (d < 2) || decide (60 < d)
  let meets := s.agrps.any (fun x => x != a && runsMeet b k (s.agrpRun x).1 (s.agrpRun x).2)
  if locked || (decide on && (range || (!was && meets))) then s.reject .AUD
  else if on then
    if was then s
    else
      let t := (plainWrite .AUD_AGRP_CFG a v s).setAlignRun a .reset
      touchSlots ((List.range k).map (b + ·)) t
  else
    let t := plainWrite .AUD_AGRP_CFG a v s
    { t with aud := { t.aud with run := t.aud.run.filter (fun x _ =>
        x != a && !(decide (1024 + b ≤ x) && decide (x < 1024 + b + k))) } }

/-- A write of AUD_GRP_CFG (R269). -/
def writeGrp (g : Nat) (v : Word) (s : State) : State :=
  let n := F.AUD_GRP_CFG_SIZE.of v
  let (b, k) := s.grpRun v
  let owned := (s.owner.find? (2 ^ 13 + g)).isSome
  let meets := n != 0 && s.grps.any (fun x => x != g
    && runsMeet b k (s.grpRun (s.reg .AUD_GRP_CFG x)).1 (s.grpRun (s.reg .AUD_GRP_CFG x)).2)
  if owned || meets || decide (64 < n) then s.reject .AUD
  else
    let (b0, k0) := s.grpRun (s.reg .AUD_GRP_CFG g)
    let t := plainWrite .AUD_GRP_CFG g v s
    { t with aud := { t.aud with out := t.aud.out.filter (fun o _ => !(decide (b0 ≤ o) && decide (o < b0 + k0))),
                                 group := t.aud.group.erase g } }

/-- The members of an alignment group are all fed by feeders that a converter may serve (R274). -/
def State.asrcMembers (s : State) (a : Nat) : Bool :=
  let (b, n) := s.agrpRun a
  (List.range n).all (fun j => match s.feedOf (b + j) with | some f => f.asrc | none => false)

/-- A write of AUD_ASRC_CFG (R274). -/
def writeAsrc (c : Nat) (v : Word) (s : State) : State :=
  let a := F.AUD_ASRC_CFG_AGRP.of v
  if F.AUD_ASRC_CFG_EN.of v = 1 then
    let served := (List.range 64).any (fun d => d != c && s.flag F.AUD_ASRC_CFG_EN d && s.fld F.AUD_ASRC_CFG_AGRP d == a)
    if !s.agrps.contains a || served || !s.asrcMembers a then s.reject .AUD
    else if s.flag F.AUD_ASRC_CFG_EN c then plainWrite .AUD_ASRC_CFG c v s
    else (plainWrite .AUD_ASRC_CFG c v s).setFlag F.AUD_ASRC_STAT_LOCKED c false
  else (plainWrite .AUD_ASRC_CFG c v s).setFlag F.AUD_ASRC_STAT_LOCKED c false

/-- A channel's last block is captured (R283). -/
def writeCsCap (v : Word) (s : State) : State :=
  let s1 := plainWrite .AUD_CS_CAP_SEL 0 v s
  match (s1.inSlot (s1.csSlot (F.AUD_CS_CAP_SEL_CH.of v))).block with
  | none => s1.setFlds 0 [(F.AUD_CS_CAP_SEL_VALID, 0), (F.AUD_CS_CAP_SEL_CRCC_OK, 0)]
  | some b =>
    let s2 := (List.range 6).foldl (fun t w => t.setReg .AUD_CS_CAP w (BitVec.ofNat 32 (b / 2 ^ (32 * w)))) s1
    s2.setFlds 0 [(F.AUD_CS_CAP_SEL_VALID, 1), (F.AUD_CS_CAP_SEL_CRCC_OK, b2n (b % 2 == 1 && crccOk b))]

/-- The feeder that a port's receiver is under a written AUD_SP_CFG and the port's AUD_SP_CH. -/
def State.portFeed (s : State) (p : Nat) (v : Word) : AudFeed :=
  mkFeed 4 p (s.fld F.AUD_SP_CH_IN_BASE p) 2 (F.AUD_SP_CFG_FS96.of v = 1) (F.AUD_SP_CFG_MODE.of v = 2)
    (F.AUD_SP_CFG_CLK.of v = 2)

/-- The pins of a disabled port are released, and it feeds nothing (R289). -/
def releasePort (p : Nat) (s : State) : State :=
  let t := unfeed 4 p (s.setPort p { SerialPort.reset with maskAt := (s.port p).maskAt })
  t.setFlds p [(F.AUD_SP_STAT_RX_LOCK, 0), (F.AUD_SP_STAT_RATE_DET, 7)]

/-- A written AUD_SP_CFG that R287 ignores. -/
def spCfgBad (v : Word) : Bool :=
  let m := F.AUD_SP_CFG_MODE.of v
  let c := F.AUD_SP_CFG_CLK.of v
  (c == 0 && m == 2) || c == 3 || m == 3

/-- A write of AUD_SP_CFG (R286 to R289). -/
def writeSpCfg (p : Nat) (v : Word) (s : State) : State :=
  let on := F.AUD_SP_CFG_EN.of v = 1
  let was := s.flag F.AUD_SP_CFG_EN p
  let locked := was && ((v ^^^ s.reg .AUD_SP_CFG p) &&& 0x0003FDFE#32) != 0
  let rx := F.AUD_SP_CFG_RX_EN.of v = 1
  let f := s.portFeed p v
  if spCfgBad v || locked || (decide on && !was && decide rx && !s.mayFeed f) then s.reject .AUD
  else
    let t := plainWrite .AUD_SP_CFG p v s
    if on then
      if was then t
      else
        let t1 := t.setPort p { t.port p with releasing := false }
        let t2 := if rx then touchSlots ((List.range f.slots).map (f.slot + ·)) (feed f t1) else unfeed 4 p t1
        if rx ∧ F.AUD_SP_CFG_CLK.of v = 0 then t2.setFlag F.AUD_SP_STAT_RX_LOCK p true else t2
    else if was then
      let t1 := t.setPort p { t.port p with releasing := true }
      if t.tdEn (t.fld F.AUD_SP_CFG_TD p) then t1 else releasePort p t1
    else t

/-- A write of an AUD register (R293). -/
def writeAud (r : RegName) (i : Nat) (v : Word) (s : State) : State :=
  match r with
  | .AUD_CFG =>
    let d := F.AUD_CFG_DELAY_DEF.of v
    guardedWrite (decide (d < 2) || decide (60 < d)) r i v s
  | .AUD_CS_CAP_SEL => writeCsCap v s
  | .AUD_SP_CFG => writeSpCfg i v s
  | .AUD_SP_CH => guardedWrite (s.flag F.AUD_SP_CFG_EN i && v != s.reg .AUD_SP_CH i) r i v s
  | .AUD_ASRC_CFG => writeAsrc i v s
  | .AUD_AGRP_CFG => writeAgrp i v s
  | .AUD_GRP_CFG => writeGrp i v s
  | _ => plainWrite r i v s

/-! ### Converter events -/

/-- The nominal ratio of a converter in Q4.28, and a millionth of it, as fractions over the output rate (R275). -/
def State.asrcNominal (s : State) (c : Nat) : Option (Nat × Nat) :=
  let out := if s.flag F.AUD_ASRC_CFG_FS96 c then 960 else 480
  match s.fld F.AUD_ASRC_CFG_IN_RATE c with
  | 0 => some (320, out)
  | 1 => some (441, out)
  | 2 => some (480, out)
  | 3 => some (882, out)
  | 4 => some (960, out)
  | _ => none

/-- A ratio lies within ±1,000 ppm of nominal; no ratio does at a reserved IN_RATE. -/
def State.asrcInRange (s : State) (c ratio : Nat) : Bool :=
  match s.asrcNominal c with
  | none => false
  | some (num, out) =>
    decide (num * 2 ^ 28 * 999 ≤ ratio * out * 1000) && decide (ratio * out * 1000 ≤ num * 2 ^ 28 * 1001)

/-- A converter locks (R275). -/
def asrcLocks (c ratio : Nat) (s : State) : State :=
  if s.flag F.AUD_ASRC_CFG_EN c ∧ !s.aud.bare.contains c ∧ s.asrcInRange c ratio then
    (s.setReg .AUD_ASRC_RATIO c (BitVec.ofNat 32 ratio)).setFlag F.AUD_ASRC_STAT_LOCKED c true
  else s

/-- A converter loses lock (R275). -/
def asrcUnlocks (c : Nat) (why : AsrcLoss) (ratio : Nat) (s : State) : State :=
  if s.flag F.AUD_ASRC_STAT_LOCKED c ∧ !(why == .range && s.asrcInRange c ratio) then
    let t := match why with | .range => s.setReg .AUD_ASRC_RATIO c (BitVec.ofNat 32 ratio) | .silent => s
    (t.setFlds c [(F.AUD_ASRC_STAT_LOCKED, 0), (F.AUD_ASRC_STAT_UNLOCK_S, 1)]).raise Src.AUD_ASRC_UNLOCK
  else s

/-- A converter gets a unit. -/
def giveAsrc (c u : Nat) (s : State) : State :=
  let t := ((s.setUnit (53 + u) 0).setFld F.AUD_ASRC_UNIT_SERVES u c).setFld F.AUD_ASRC_STAT_UNIT c u
  { t with aud := { t.aud with bare := t.aud.bare.filter (· != c) } }

/-- A unit's converter is left without it: the spare takes its place, or none is left (R276). -/
def replaceAsrc (u : Nat) (s : State) : State :=
  let c := s.fld F.AUD_ASRC_UNIT_SERVES u
  let t := s.setFlag F.AUD_ASRC_STAT_LOCKED c false
  match t.spareFor (53 + u) with
  | some e => giveAsrc c (e - 53) t
  | none => { t with aud := { t.aud with bare := c :: t.aud.bare.filter (· != c) } }

/-- A unit in service reports an uncorrectable error in its state (R276). -/
def asrcErrs (u : Nat) (s : State) : State :=
  if s.unitState (53 + u) = 0 ∨ s.unitState (53 + u) = 2 then
    let t := parkUnit (53 + u) (replaceAsrc u s)
    ({ t with aud := { t.aud with errUnit := u } }).raise Src.AUD_ASRC_ERR
  else s

/-! ### Port and group events -/

/-- The mask and the slot of a port's receive channel for its next sample. -/
def State.rxSlot (s : State) (p ch : Nat) : Nat :=
  let b := s.fld F.AUD_SP_CH_IN_BASE p + ch
  if s.flag F.AUD_SP_CFG_FS96 p then 2 * b + b2n ((s.port p).half.get false ch) else b

/-- A port's receive channel delivers a sample, zero with V = 1 where its mask bit is 0 (R282). -/
def rxDeliver (p ch : Nat) (a : AudSample) (keep : Nat → Bool) (s : State) : State :=
  let i := s.rxSlot p ch
  let on := bit (s.effFld F.AUD_SP_MASK_RX p) ch
  let x := s.port p
  let s1 := s.setPort p { x with prev := x.prev.set ch a, half := x.half.set ch (!x.half.get false ch) }
  pushSample i (if on then a else .absent) (takeCs i a keep s1)

/-- An AES3 subframe is received (R288). -/
def aes3Rx (p ch : Nat) (f : Aes3Frame) (s : State) : State :=
  if s.rxWorks p && s.fld F.AUD_SP_CFG_MODE p == 2 && s.flag F.AUD_SP_STAT_RX_LOCK p then
    let s1 := if f.codeError then
        ((s.bump .AUD_SP_CODE p).setFlag F.AUD_SP_STAT_CODE_S p true).raise Src.AUD_SP_ERR else s
    let s2 := if f.parityError then
        ((s1.bump .AUD_SP_PARITY p).setFlag F.AUD_SP_STAT_PARITY_S p true).raise Src.AUD_SP_ERR else s1
    let a := if f.parityError then (s.port p).prev.get .absent ch else f.sample
    let h := s2.csSlot (s2.rxSlot p ch)
    let done := (s2.inSlot h).takeC a (fun _ => true)
    let bad := (s2.inSlot h).count == some 191 && !a.z && (match done.block with
      | some b => b % 2 == 1 && !crccOk b
      | none => false)
    let s3 := if bad then
        ((s2.bump .AUD_SP_CRCC p).setFlag F.AUD_SP_STAT_CRCC_S p true).raise Src.AUD_SP_ERR else s2
    rxDeliver p ch a (fun b => !(b % 2 == 1) || crccOk b) s3
  else s

/-- A receiver locks, showing the rate it found (R288). -/
def rxLocks (p rate : Nat) (s : State) : State :=
  if s.rxWorks p && s.fld F.AUD_SP_CFG_CLK p != 0 then
    s.setFlds p [(F.AUD_SP_STAT_RX_LOCK, 1), (F.AUD_SP_STAT_RATE_DET, rate)]
  else s

/-- A receiver loses its input (R288). -/
def spLoses (p : Nat) (why : PortLoss) (s : State) : State :=
  let aes := s.fld F.AUD_SP_CFG_MODE p == 2
  if s.rxWorks p && s.fld F.AUD_SP_CFG_CLK p != 0 && aes == (why == .preamble) then
    (s.setFlds p [(F.AUD_SP_STAT_RX_LOCK, 0), (F.AUD_SP_STAT_RATE_DET, 7),
      (if aes then F.AUD_SP_STAT_LOST_S else F.AUD_SP_STAT_BAD_CLK_S, 1)]).raise Src.AUD_SP_LOST
  else s

/-- A feeder's sample arrives (R271). On a serial port with an external word clock, the clock that brings the first
channel also takes a frame from the transmit buffer (R287). -/
def sampleArrives (i : Nat) (a : AudSample) (s : State) : State :=
  match s.feedOf i with
  | none => s
  | some f =>
    if !s.feedPresent f then s
    else if f.kind = 4 then
      let p := f.unit
      let ch := (i - f.slot) / (if f.fs96 then 2 else 1)
      let s1 := if ch = 0 then txClock p s else s
      let on := bit (s.effFld F.AUD_SP_MASK_RX p) ch
      pushSample i (if on then a else .absent) s1
    else deliver i a s

/-- The group and member of an output slot. -/
def State.memberOf (s : State) (o : Nat) : Option (Nat × Nat) :=
  match s.grps.find? (fun g =>
      decide ((s.grpRun (s.reg .AUD_GRP_CFG g)).1 ≤ o) && decide (o < (s.grpRun (s.reg .AUD_GRP_CFG g)).1
        + (s.grpRun (s.reg .AUD_GRP_CFG g)).2)) with
  | none => none
  | some g => some (g, (if s.grp96 g then o / 2 else o) - s.fld F.AUD_GRP_CFG_BASE g)

/-- A waiting member's timeout runs out (R278): time passes to it, and the crossfade begins. -/
def zxTimesOut (o : Nat) (s : State) : State :=
  match s.memberOf o with
  | none => s
  | some (g, k) =>
    let m := (s.audGroup g).member k
    match m.pend, m.fade with
    | some c, none =>
      let t := passTo (c.deadline : Nat) s
      let x := t.audGroup g
      ((t.setAudGroup g { x with members := x.members.set k (m.beginFade c) }).bump .AUD_XFADE_CNT 0).raise Src.AUD_XFADE
    | _, _ => s

/-- The channel-status tables and captured blocks are 0. -/
def clearTables (s : State) : State :=
  let clear (r : RegName) (k : Nat) : Bool := k % 1024 == r.code
  { s with regs := s.regs.filter (fun k _ => !(clear .AUD_CS_VAL k || clear .AUD_CS_MASK k || clear .AUD_CS_CAP k)) }

/-- After a reset the tables and captured blocks are 0, and INIT_DONE is set (R291). -/
def audInit (s : State) : State :=
  if s.flag F.AUD_STAT_INIT_DONE 0 then s else (clearTables s).setFlag F.AUD_STAT_INIT_DONE 0 true

/-! ### Live registers -/

/-- AUD_IN_STAT as a word. -/
def State.inWord (s : State) (i : Nat) : Word :=
  let x := s.inSlot i
  let g := s.agrpOf i
  let conv := match g with | some a => (s.asrcOf a).isSome | none => false
  let (kind, fs96, here) : Nat × Bool × Bool := match s.feedOf i with
    | some f => (if conv then 5 else f.kind, f.fs96, s.feedPresent f)
    | none => (0, false, false)
  BitVec.ofNat 32 (b2n here + b2n x.rx.v * 2 + kind * 4 + b2n fs96 * 32 + x.buf.length % 128 * 2 ^ 8 + g.getD 0 * 2 ^ 16
    + b2n g.isSome * 2 ^ 26)

/-- AUD_OUT_STAT as a word. -/
def State.outWord (s : State) (o : Nat) : Word :=
  match s.memberOf o with
  | none => 0
  | some (g, k) =>
    let x := s.audGroup g
    let m := x.member k
    let mis := match m.csrc with | some c => s.rateMis (s.grp96 g) c | none => false
    BitVec.ofNat 32 (m.csrc.getD 0 % 2 ^ 14 + b2n m.csrc.isSome * 2 ^ 15 + b2n (m.pend.isSome && m.fade.isNone) * 2 ^ 16
      + b2n m.fade.isSome * 2 ^ 17 + b2n m.muted * 2 ^ 18 + b2n m.ramp.isSome * 2 ^ 19 + b2n (!bit x.mask k) * 2 ^ 20
      + b2n mis * 2 ^ 21)

/-- AUD_OUT_GAIN as a word. -/
def State.gainWord (s : State) (o : Nat) : Word :=
  match s.memberOf o with
  | none => 0
  | some (g, k) =>
    let m := (s.audGroup g).member k
    BitVec.ofNat 32 (unsign 16 m.shown + unsign 16 m.target * 2 ^ 16)

/-- A live AUD register (R293), if it is one. -/
def State.audLive (s : State) (r : RegName) (i : Nat) : Option Word :=
  match r with
  | .AUD_STAT => some (BitVec.ofNat 32 (s.fld F.AUD_STAT_INIT_DONE 0
      + ((List.range 72).filter (fun u => s.unitState (53 + u) == 1)).length * 2))
  | .AUD_AGRP_STAT =>
    let st := if !s.flag F.AUD_AGRP_CFG_EN i then 0 else if (s.alignRun i).running then 2 else 1
    some (F.AUD_AGRP_STAT_ASRC.put (F.AUD_AGRP_STAT_STATE.put (s.reg r i) st) (b2n (s.asrcOf i).isSome))
  | .AUD_IN_STAT => some (s.inWord i)
  | .AUD_OUT_STAT => some (s.outWord i)
  | .AUD_OUT_GAIN => some (s.gainWord i)
  | _ => none

/-! ### Meanings -/

/-- ZX_TIMEOUT (R278). -/
def execZxTimeout (o : Fin 16384) (s : State) : Out := .next (zxTimesOut o s)

/-- AUDIO_SAMPLE_IN (R271). -/
def execAudioSampleIn (i : Fin 16384) (x : AudSample) (s : State) : Out := .next (sampleArrives i x s)

/-- AUDIO_GROUP_CFG: a write of AUD_GRP_CFG (R269). -/
def execAudioGroupCfg (g : Fin 2048) (v : Word) (s : State) : Out := .next (writeGrp g v s)

/-- ALIGN_GROUP_ENABLE: a write of AUD_AGRP_CFG with EN = 1 (R271). -/
def execAlignGroupEnable (a : Fin 1024) (v : Word) (s : State) : Out := .next (writeAgrp a (v ||| 0x80000000#32) s)

/-- ASRC_ENABLE: a write of AUD_ASRC_CFG with EN = 1 (R274). -/
def execAsrcEnable (c : Fin 64) (v : Word) (s : State) : Out := .next (writeAsrc c (v ||| 1#32) s)

/-- ASRC_LOCK (R275). -/
def execAsrcLock (c : Fin 64) (ratio : Word) (s : State) : Out := .next (asrcLocks c ratio.toNat s)

/-- ASRC_UNLOCK (R275). -/
def execAsrcUnlock (c : Fin 64) (why : AsrcLoss) (ratio : Word) (s : State) : Out :=
  .next (asrcUnlocks c why ratio.toNat s)

/-- ASRC_ERR (R276). -/
def execAsrcErr (u : Fin 72) (s : State) : Out := .next (asrcErrs u s)

/-- CS_CAPTURE: a write of AUD_CS_CAP_SEL (R283). -/
def execCsCapture (v : Word) (s : State) : Out := .next (writeCsCap v s)

/-- SERIAL_PORT_ENABLE: a write of AUD_SP_CFG with EN = 1 (R289). -/
def execSerialPortEnable (p : Fin 16) (v : Word) (s : State) : Out := .next (writeSpCfg p (v ||| 1#32) s)

/-- SERIAL_PORT_DISABLE: a write of AUD_SP_CFG with EN = 0 (R289). -/
def execSerialPortDisable (p : Fin 16) (v : Word) (s : State) : Out := .next (writeSpCfg p (v &&& ~~~ 1#32) s)

/-- SP_PIN_RELEASE (R289). -/
def execSpPinRelease (p : Fin 16) (s : State) : Out := .next (if (s.port p).releasing then releasePort p s else s)

/-- AES3_SUBFRAME (R288). -/
def execAes3Subframe (p : Fin 16) (ch : Fin 2) (f : Aes3Frame) (s : State) : Out := .next (aes3Rx p ch f s)

/-- RX_LOCK (R288). -/
def execRxLock (p : Fin 16) (rate : BitVec 3) (s : State) : Out := .next (rxLocks p rate.toNat s)

/-- SP_LOST (R288). -/
def execSpLost (p : Fin 16) (why : PortLoss) (s : State) : Out := .next (spLoses p why s)

/-- AUD_INIT_DONE (R291). -/
def execAudInitDone (s : State) : Out := .next (audInit s)

end Sys2Proof.Machine
end

