-- ==== Sys2Proof/Machine/Masters.lean ====
section
/-!
DEFINITION. What chapters 14 and 18 share about the bus masters: which core serves which hart (R344), what becomes of a
master's transaction when it is reset (R356), and the DMA channels (R357).
-/

namespace Sys2Proof.Machine

/-- The life-cycle state's code (R418). -/
def State.lc (s : State) : Nat := s.fld F.RST_STAT_LC 0

/-- MANUFACTURE or MAINTENANCE. -/
def State.lcOpen (s : State) : Bool := s.lc == 0 || s.lc == 3

/-- The state of core `c` (R361). -/
def State.coreState (s : State) (c : Nat) : Nat := s.fld F.CPU_CORE_STAT_STATE c

/-- Core `c` serves a hart. -/
def State.coreServes (s : State) (c : Nat) : Bool := decide (c < 5) && (s.coreState c == 0 || s.coreState c == 2)

/-- The hart that core `c` serves. -/
def State.hartOf (s : State) (c : Nat) : Nat := s.fld F.CPU_CORE_STAT_HART c

/-- The core that serves hart `h`. -/
def State.coreOf (s : State) (h : Nat) : Option Nat := (List.range 5).find? (fun c => s.coreServes c && s.hartOf c == h)

/-- Hart `h` runs. -/
def State.hartUp (s : State) (h : Nat) : Bool := bit (s.fld F.CPU_STAT_HARTS_UP 0) h

/-- Hart `h` runs or stops. -/
def setHart (h : Nat) (up : Bool) (s : State) : State :=
  s.setFld F.CPU_STAT_HARTS_UP 0 (putBits (s.fld F.CPU_STAT_HARTS_UP 0) h 1 (b2n up))

/-- A master is reset: its transaction is withdrawn, completed toward the target without effect, or dropped, and its lock
is released (R356). -/
def masterReset (m : Nat) (s : State) : State :=
  { s with bus := { s.bus with req := s.bus.req.erase m, lock := s.bus.lock.filter (fun _ l => l.master != m),
                               stalled := s.bus.stalled.filter (· != m) } }

/-- The core of a hart stops serving: the hart stops and its port is reset. -/
def stopCore (c : Nat) (s : State) : State := masterReset c (setHart (s.hartOf c) false s)

/-- DMA restarts with every channel idle (R409). -/
def dmaReset (s : State) : State :=
  let t := masterReset 6 s
  { t with bus := { t.bus with dma := .empty } }

/-- A DMA channel stops with an error (R357) at an address: 1 an error response, 2 a bad descriptor, 3 stopped. -/
def dmaError (c code a : Nat) (s : State) : State :=
  let t := { s with bus := { s.bus with dma := s.bus.dma.erase c } }
  (noteBusFault 6 5 false a (t.setFlds c [(F.BUS_DMA_STAT_STATE, 3), (F.BUS_DMA_STAT_ERR, code)])).raise Src.BUS_DMA_ERR

/-- Every running channel stops with error 1, for the access that stalled (R355). -/
def dmaErrors (s : State) : State :=
  let a := s.fld F.BUS_STALL_ADDR_LO_ADDR 6 + s.fld F.BUS_STALL_ADDR_HI_ADDR 6 * 2 ^ 32
  s.bus.dma.keys.foldl (fun t c => dmaError c 1 a t) s

end Sys2Proof.Machine
end

