-- ==== Sys2Proof/Machine/DmaCmd.lean ====
section
/-!
DEFINITION. What a write of a BUS register does (R360): limits, the end of a stalled access (R355), the start and the stop of
a DMA channel (R357).
-/

namespace Sys2Proof.Machine

/-! ### Descriptors (R357) -/

/-- The bytes of a DMA beat; none for a reserved WIDTH. -/
def dmaBeat (flags : Nat) : Option Nat :=
  match bitsOf flags 2 2 with
  | 0 => some 8
  | 1 => some 4
  | _ => none

/-- A descriptor may lie at an address: core SRAM or HBM. -/
def descPlace (a : Nat) : Bool := Nat.blt a 0x800000000 || (Nat.ble 0x1000000000 a && Nat.ble (a + 32) 0x1000400000)

/-- The descriptor at an address; none where R357 gives error 2. -/
def State.descriptor (s : State) (a : Nat) : Option DmaDesc :=
  let b := s.load a 32
  let w (i n : Nat) : Nat := leNat ((b.drop i).take n)
  let x : DmaDesc := ⟨w 0 5, w 8 5, w 16 4, w 20 4, w 24 8⟩
  match dmaBeat x.flags with
  | none => none
  | some k =>
    if descPlace a && x.flags / 2 ^ 7 == 0 && x.src % k == 0 && x.dst % k == 0 && x.len % k == 0 && Nat.ble 1 x.len
        && Nat.blt x.len (2 ^ 24) && x.next % 32 == 0 then some x else none

/-- A channel takes the descriptor at an address, or stops with error 2. -/
def dmaLoad (c a : Nat) (s : State) : State :=
  match s.descriptor a with
  | none => dmaError c 2 a s
  | some x =>
    let t := { s with bus := { s.bus with dma := s.bus.dma.set c x } }
    t.setFlds c [(F.BUS_DMA_STAT_STATE, 1), (F.BUS_DMA_STAT_ERR, 0), (F.BUS_DMA_LEFT_BYTES, x.len)]

/-- BUS_DMA_DESC of a channel. -/
def State.dmaFirst (s : State) (c : Nat) : Nat :=
  (s.reg .BUS_DMA_DESC_LO c).toNat / 32 * 32 + s.fld F.BUS_DMA_DESC_HI_ADDR c * 2 ^ 32

/-- A write of BUS_DMA_CTL: GO on an idle channel, STOP on a running one. -/
def writeDmaCtl (c : Nat) (v : Word) (s : State) : State :=
  let go := F.BUS_DMA_CTL_GO.of v == 1
  let runs := (s.bus.dma.find? c).isSome
  if go && runs then s.reject .BUS
  else
    let t := if go then dmaLoad c (s.dmaFirst c) s else s
    if F.BUS_DMA_CTL_STOP.of v = 1 ∧ (t.bus.dma.find? c).isSome then dmaError c 3 (t.dmaFirst c) t else t

/-! ### Stalls (R355) -/

/-- The channel whose access the DMA master has outstanding: the lowest one that runs. -/
def State.dmaAccessing (s : State) : Option Nat := (List.range 8).find? (fun c => (s.bus.dma.find? c).isSome)

/-- The DMA channel that receives an error response stops with error 1. -/
def dmaFails (a : Nat) (s : State) : State :=
  match s.dmaAccessing with
  | some c => dmaError c 1 a s
  | none => s

/-- A transaction ends with an error response to its master. -/
def endWithError (m a : Nat) (s : State) : State :=
  let t := (masterReset m s).respondErr m
  if m = 6 then dmaFails a t else t

/-- A write of BUS_STALL_ABORT ends the stalled accesses of the masters it names. -/
def stallAborts (v : Word) (s : State) : State :=
  ((List.range 8).filter (fun m => v.getLsbD m && s.bus.stalled.contains m)).foldl (fun t m =>
    endWithError m (t.fld F.BUS_STALL_ADDR_LO_ADDR m + t.fld F.BUS_STALL_ADDR_HI_ADDR m * 2 ^ 32) t) s

/-! ### Registers (R360) -/

/-- A write of a BUS register. -/
def writeBus (r : RegName) (i : Nat) (v : Word) (s : State) : State :=
  match r with
  | .BUS_CFG =>
    let t := F.BUS_CFG_LOCK_TIMEOUT.of v
    guardedWrite (decide (t < 32) || F.BUS_CFG_STALL_LIMIT.of v == 0) r i v s
  | .BUS_STALL_ABORT => stallAborts v s
  | .BUS_DMA_CTL => writeDmaCtl i v s
  | .BUS_WAIT_MAX => s.setReg r i 0
  | _ => plainWrite r i v s

/-! ### The commands -/

/-- STALL_ABORT (R355). -/
def execStallAbort (v : Word) (s : State) : Out := .next (stallAborts v s)

/-- DMA_GO: a write of BUS_DMA_CTL with GO = 1 (R357). -/
def execDmaGo (c : Fin 8) (v : Word) (s : State) : Out := .next (writeDmaCtl c (v ||| 1#32) s)

/-- DMA_STOP: a write of BUS_DMA_CTL with STOP = 1 (R357). -/
def execDmaStop (c : Fin 8) (v : Word) (s : State) : Out := .next (writeDmaCtl c (v ||| 2#32) s)

end Sys2Proof.Machine
end

