-- ==== Sys2Proof/Machine/Flash.lean ====
section
/-!
DEFINITION. The boot flash (chapter 21): slots, their records, pieces, images, the checks of R469, loading (R470), the
boot choice (R472) and the ledger area (R479).  Memory holds the complement of each flash byte, so that erased flash is
memory that nothing has written (notes/assumptions/5.md).
-/

namespace Sys2Proof.Machine

/-! ### Flash bytes -/

/-- The base address of slot 0 (FLA) or 1 (FLB) (R29, R462). -/
def slotBase (k : Nat) : Nat := 0x1800000000 + k * 0x4000000

/-- Bytes of the flash. -/
def State.flash (s : State) (a n : Nat) : List Byte := (s.load a n).map (fun b => ~~~ b)

/-- Bytes are programmed: a bit goes from 1 to 0 alone. -/
def program (a : Nat) (bs : List Byte) (s : State) : State :=
  s.store a ((s.load a bs.length).zipWith (fun old new => old ||| ~~~ new) bs)

/-- A range of the flash is erased. -/
def eraseFlash (a n : Nat) (s : State) : State := { s with mem := s.mem.clearRange a (a + n) }

/-- The bytes of an ASCII tag of four characters. -/
def tag4 (a b c d : Nat) : List Byte := [BitVec.ofNat 8 a, BitVec.ofNat 8 b, BitVec.ofNat 8 c, BitVec.ofNat 8 d]

/-! ### Slot records (R463, R464) -/

/-- A slot record. -/
structure SlotRec where
  seq : Nat
  state : Nat
  id : Nat
  count : Nat
  version : Nat
  deriving DecidableEq, Repr

/-- A little-endian field of a byte string. -/
def leAt (bs : List Byte) (a n : Nat) : Nat := leNat ((bs.drop a).take n)

/-- A record's bytes: PRESUMED layout (notes/assumptions/40.md) of MAGIC, SEQ, STATE, IMAGE_ID, COUNT, VERSION and CRC. -/
def SlotRec.bytes (x : SlotRec) : List Byte :=
  let b := tag4 0x53 0x56 0x53 0x52 ++ leBytes 4 x.seq ++ leBytes 4 x.state ++ leBytes 8 x.id ++ leBytes 4 x.count
    ++ leBytes 4 x.version ++ List.replicate 32 0
  b ++ leBytes 4 (crc32c b)

/-- The record that 64 bytes hold, where MAGIC and CRC are right. -/
def parseRec (bs : List Byte) : Option SlotRec :=
  if bs.take 4 = tag4 0x53 0x56 0x53 0x52 ∧ leAt bs 60 4 = crc32c (bs.take 60) then
    some ⟨leAt bs 4 4, leAt bs 8 4, leAt bs 12 8, leAt bs 20 4, leAt bs 24 4⟩
  else none

/-- The address of record place `i` of a slot, 0 to 127 over its two sectors. -/
def recAddr (k i : Nat) : Nat := slotBase k + 0x3001000 + i * 64

/-- A slot's records with their places. -/
def State.slotRecs (s : State) (k : Nat) : List (Nat × SlotRec) :=
  (List.range 128).filterMap (fun i => (parseRec (s.flash (recAddr k i) 64)).map (fun r => (i, r)))

/-- The record with the highest SEQ. -/
def newestRec (l : List (Nat × SlotRec)) : Option (Nat × SlotRec) :=
  l.foldl (fun best x => match best with
    | none => some x
    | some b => if b.2.seq < x.2.seq then some x else some b) none

/-- The current record of a slot, with its place. -/
def State.currentRec (s : State) (k : Nat) : Option (Nat × SlotRec) := newestRec (s.slotRecs k)

/-- The current record of a slot, all fields 0 where it has none. -/
def State.slotRec (s : State) (k : Nat) : SlotRec := ((s.currentRec k).map (·.2)).getD ⟨0, 0, 0, 0, 0⟩

/-- STATE of a slot (R464). -/
def State.slotState (s : State) (k : Nat) : Nat := (s.slotRec k).state

/-! ### The ledger area (R479) -/

/-- The address of ledger record `j`, two of each slot. -/
def ledgerAddr (j : Nat) : Nat := slotBase (j / 2) + 0x3003000 + j % 2 * 0x2000

/-- The bytes of a ledger record before its CRC: MAGIC, SEQ, 422 entries of four words. -/
def ledgerLen : Nat := 8 + 422 * 16

/-- SEQ of ledger record `j`, where MAGIC and CRC are right. -/
def State.ledgerSeq (s : State) (j : Nat) : Option Nat :=
  let bs := s.flash (ledgerAddr j) (ledgerLen + 4)
  if bs.take 4 = tag4 0x53 0x56 0x4C 0x47 ∧ leAt bs ledgerLen 4 = crc32c (bs.take ledgerLen) then some (leAt bs 4 4) else none

/-- The current ledger record: the highest SEQ. -/
def State.currentLedger (s : State) : Option (Nat × Nat) :=
  (List.range 4).foldl (fun best j => match s.ledgerSeq j, best with
    | some q, none => some (j, q)
    | some q, some b => if b.2 < q then some (j, q) else some b
    | none, b => b) none

/-- The next sequence number of the counter that records share (R463, R479). -/
def State.nextSeq (s : State) : Nat :=
  let top (k : Nat) : Nat := ((s.currentRec k).map (fun x => x.2.seq)).getD 0
  1 + max (max (top 0) (top 1)) ((s.currentLedger.map (·.2)).getD 0)

/-- The bytes of the ledger as it stands (R451, R479). -/
def State.ledgerBytes (s : State) (seq : Nat) : List Byte :=
  let word (r : RegName) (e : Nat) : List Byte := leBytes 4 (s.reg r e).toNat
  let b := tag4 0x53 0x56 0x4C 0x47 ++ leBytes 4 seq ++ (List.range 422).flatMap (fun e =>
    word .VAULT_LG_HRS e ++ word .VAULT_LG_ECC e ++ word .VAULT_LG_VMIN e ++ word .VAULT_LG_BIST e)
  b ++ leBytes 4 (crc32c b)

/-- The ledger is saved to the record after the current one (R453, R479). -/
def saveLedger (s : State) : State :=
  let j := match s.currentLedger with
    | none => 0
    | some x => (x.1 + 1) % 4
  program (ledgerAddr j) (s.ledgerBytes s.nextSeq) (eraseFlash (ledgerAddr j) 0x2000 s)

/-- One entry of a saved ledger is restored; the unit's state is not part of it. -/
def restoreEntry (bs : List Byte) (s : State) (e : Nat) : State :=
  let w (k : Nat) : Word := BitVec.ofNat 32 (leAt bs (8 + 16 * e + 4 * k) 4)
  let t := s.setFlds e [(F.VAULT_LG_HRS_HOURS, F.VAULT_LG_HRS_HOURS.of (w 0)), (F.VAULT_LG_HRS_WEAR, F.VAULT_LG_HRS_WEAR.of (w 0))]
  ((t.setReg .VAULT_LG_ECC e (w 1)).setReg .VAULT_LG_VMIN e (w 2)).setReg .VAULT_LG_BIST e (w 3)

/-- The ledger is restored after a power-on reset, with every VERDICT NONE (R453). -/
def restoreLedger (s : State) : State :=
  let t := match s.currentLedger with
    | none => s
    | some x => (List.range 422).foldl (restoreEntry (s.flash (ledgerAddr x.1) ledgerLen)) s
  (List.range 422).foldl (fun (t : State) e => t.setFld F.VAULT_LG_BIST_VERDICT e 0) t

/-! ### Writing records -/

/-- Record places of a sector are erased from `i` on: the first such place. -/
def State.freeRec (s : State) (k sector : Nat) : Option Nat :=
  let used (i : Nat) : Bool := s.load (recAddr k (64 * sector + i)) 64 != List.replicate 64 0
  let n := ((List.range 64).filter used).foldl (fun a i => max a (i + 1)) 0
  if n < 64 then some (64 * sector + n) else none

/-- A record is appended to a slot (R463): in the sector of the current one; when that is full, the other sector is erased
and taken. -/
def appendRec (k st id count version : Nat) (s : State) : State :=
  let x : SlotRec := ⟨s.nextSeq, st, id, count, version⟩
  let sector := ((s.currentRec k).map (fun r => r.1 / 64)).getD 0
  match s.freeRec k sector with
  | some i => program (recAddr k i) x.bytes s
  | none => program (recAddr k (64 * (1 - sector))) x.bytes (eraseFlash (recAddr k (64 * (1 - sector))) 4096 s)

/-- A slot's state changes: a record with its other fields as they are. -/
def setSlot (k st : Nat) (s : State) : State :=
  let r := s.slotRec k
  appendRec k st r.id r.count r.version s

/-! ### Roles of the slots (R464, R472) -/

/-- The ACTIVE slot: of two, the one with the higher SEQ. -/
def State.activeSlot (s : State) : Option Nat :=
  match s.slotState 0 == 6, s.slotState 1 == 6 with
  | true, true => some (if (s.slotRec 0).seq < (s.slotRec 1).seq then 1 else 0)
  | true, false => some 0
  | false, true => some 1
  | false, false => none

/-- The Escrow slot. -/
def State.escrow (s : State) : Option Nat :=
  match s.activeSlot with
  | some a => some (1 - a)
  | none =>
    let free (k : Nat) : Bool := s.slotState k != 5 && s.slotState k != 7
    match free 0, free 1 with
    | true, true => some (if (s.slotRec 1).seq < (s.slotRec 0).seq then 1 else 0)
    | true, false => some 0
    | false, true => some 1
    | false, false => none

/-- The TRIAL slot: of two, the one with the higher SEQ. -/
def State.trialSlot (s : State) : Option Nat :=
  match s.slotState 0 == 5, s.slotState 1 == 5 with
  | true, true => some (if (s.slotRec 0).seq < (s.slotRec 1).seq then 1 else 0)
  | true, false => some 0
  | false, true => some 1
  | false, false => none

/-! ### Images (R468, R469) -/

/-- A byte range of an image in a slot. -/
def State.imageBytes (s : State) (k a n : Nat) : List Byte := s.flash (slotBase k + a) n

/-- A little-endian field of an image's header. -/
def State.imageField (s : State) (k a n : Nat) : Nat := leNat (s.imageBytes k a n)

/-- A segment: its place in the file, its length, its destination. -/
structure Segment where
  ofs : Nat
  len : Nat
  dest : Nat
  deriving DecidableEq, Repr

/-- IMAGE_LEN. -/
def State.imageLen (s : State) (k : Nat) : Nat := s.imageField k 8 4

/-- The segments of an image. -/
def State.segments (s : State) (k : Nat) : List Segment :=
  (List.range (min 16 (s.imageField k 36 4))).map (fun j =>
    ⟨s.imageField k (176 + 16 * j) 4, s.imageField k (180 + 16 * j) 4, s.imageField k (184 + 16 * j) 4⟩)

/-- DEST names the HBM region. -/
def destHbm (d : Nat) : Bool := bit d 31

/-- The offset of a DEST. -/
def destOfs (d : Nat) : Nat := if destHbm d then d % 2 ^ 26 else d % 2 ^ 22

/-- The bits of a DEST that are 0. -/
def destOk (d : Nat) : Bool := d == destOfs d + b2n (destHbm d) * 2 ^ 31

/-- No two ranges of a list meet. -/
def apart : List Segment → Bool
  | [] => true
  | x :: xs => xs.all (fun y => decide (x.ofs + x.len ≤ y.ofs) || decide (y.ofs + y.len ≤ x.ofs)) && apart xs

/-- Check 1 of R469. The LEN of the last piece is in no record: IMAGE_LEN agrees when it ends in the last of COUNT pieces. -/
def State.imageHeaderOk (s : State) (k : Nat) : Bool :=
  let r := s.slotRec k
  let n := s.imageLen k
  s.imageBytes k 0 4 == tag4 0x53 0x56 0x46 0x57 && s.imageField k 4 2 == 1 && s.imageField k 6 2 == 512
    && decide (4096 * (r.count - 1) < n) && decide (n ≤ 4096 * r.count) && s.imageField k 12 8 == r.id

/-- A segment's place in the file and in its destination (R468, R469). -/
def segOk (n : Nat) (x : Segment) : Bool :=
  destOk x.dest && Nat.ble 512 x.ofs && Nat.ble (x.ofs + x.len + 96) n
    && (!destHbm x.dest || Nat.ble (destOfs x.dest + x.len) 0x3C00000)

/-- An address lies in a segment. -/
def segHas (entry : Nat) (x : Segment) : Bool :=
  destHbm x.dest == destHbm entry && Nat.ble (destOfs x.dest) (destOfs entry)
    && Nat.blt (destOfs entry) (destOfs x.dest + x.len)

/-- Check 2 of R469. -/
def State.imageSegmentsOk (s : State) (k : Nat) : Bool :=
  let l := s.segments k
  let n := s.imageField k 36 4
  let entry := s.imageField k 32 4
  let sram := (l.filter (fun x => !destHbm x.dest)).foldl (fun a x => a + x.len) 0
  Nat.ble 1 n && Nat.ble n 16 && apart l && Nat.ble sram 0x100000 && l.all (segOk (s.imageLen k)) && destOk entry
    && l.any (segHas entry)

/-- Check 3 of R469. -/
def State.imageKeyOk (s : State) (k : Nat) : Bool :=
  let slot := s.imageField k 25 1
  match s.otp.keyHash.find? slot with
  | none => false
  | some h => !bit s.otp.revoked slot && h == Config.sha384 (s.imageBytes k 40 97)

/-- Check 5 of R469: the signature over everything before it. -/
def State.imageSigOk (s : State) (k : Nat) : Bool :=
  let n := s.imageLen k
  Config.ecdsaVerify (BitVec.ofNat 768 (beNat (s.imageBytes k 41 96))) (Config.sha384 (s.imageBytes k 0 (n - 96)))
    (BitVec.ofNat 768 (beNat (s.imageBytes k (n - 96) 96)))

/-- The checks of R469 in order, as RESULT codes: 0 OK, 4 FORMAT, 9 KEY, 10 ROLLBACK, 8 SIG. -/
def State.imageResult (s : State) (k : Nat) : Nat :=
  if !s.imageHeaderOk k || !s.imageSegmentsOk k then 4
  else if !s.imageKeyOk k then 9
  else if s.imageField k 24 1 < s.otp.svn then 10
  else if !s.imageSigOk k then 8
  else 0

/-! ### Loading (R470) -/

/-- The HBM region of a slot. -/
def regionBase (k : Nat) : Nat := 0x3D8000000 + k * 0x4000000

/-- The base of core SRAM (R29). -/
def sramBase : Nat := 0x1000000000

/-- Where a segment goes: a preload stages core-SRAM segments at the region's end. -/
def segAddr (k : Nat) (stage : Bool) (d : Nat) : Nat :=
  if destHbm d then regionBase k + destOfs d
  else if stage then regionBase k + 0x3C00000 + destOfs d
  else sramBase + destOfs d

/-- The segments of an image are copied from flash. -/
def loadImage (k : Nat) (stage : Bool) (s : State) : State :=
  (s.segments k).foldl (fun t x => t.store (segAddr k stage x.dest) (s.imageBytes k x.ofs x.len)) s

/-- The staged core-SRAM segments are copied into core SRAM (R474 step 2). -/
def unstageImage (k : Nat) (s : State) : State :=
  ((s.segments k).filter (fun x => !destHbm x.dest)).foldl (fun t x =>
    t.store (sramBase + destOfs x.dest) (s.load (regionBase k + 0x3C00000 + destOfs x.dest) x.len)) s

/-- CPU_HART_BOOT of every hart is written from ENTRY (R472). -/
def setBoot (k : Nat) (s : State) : State :=
  let a := segAddr k false (s.imageField k 32 4)
  (List.range 4).foldl (fun (t : State) h => (t.setReg .CPU_HART_BOOT_LO h (BitVec.ofNat 32 (a / 4 * 4))).setReg .CPU_HART_BOOT_HI h
    (BitVec.ofNat 32 (a / 2 ^ 32 % 256))) s

/-- An image that passed its checks is loaded to run. -/
def runImage (k : Nat) (s : State) : State :=
  let t := setBoot k (loadImage k false s)
  { t with fwu := { t.fwu with running := some k, trial := t.slotState k == 5, preloaded := t.fwu.preloaded.filter (· != k) } }

/-- The boot choice (R472), and the record that R464 asks for where both slots read ACTIVE; none where no image passes. -/
def bootImage (s : State) : Option State × State :=
  let s0 := match s.activeSlot with
    | some a => if s.slotState (1 - a) = 6 then setSlot (1 - a) 7 s else s
    | none => s
  match s0.trialSlot.or s0.activeSlot with
  | none => (none, s0)
  | some k =>
    if s0.imageResult k = 0 then (some (runImage k s0), s0)
    else
      let s1 := setSlot k 8 s0
      let o := 1 - k
      if s1.slotState o = 6 ∨ s1.slotState o = 7 then
        if s1.imageResult o = 0 then (some (runImage o s1), s1) else (none, setSlot o 8 s1)
      else (none, s1)

end Sys2Proof.Machine
end

