-- ==== Sys2Proof/Machine/Idm.lean ====
section
/-!
DEFINITION. Identity memories and calibration (chapter 16): read commands, the presence scan with its record check, straps,
and the effective values of calibrated quantities.
-/

namespace Sys2Proof.Machine

/-! ### Sites (R374, R375) -/

/-- The upper-page select of a device: bank byte and page byte where it has them (R374). -/
def pageSelect (type dev : Nat) : List Nat :=
  match type, dev with
  | 1, 1 => [127]
  | 2, 0 => [127]
  | 3, 0 => [126, 127]
  | _, _ => []

/-- The multiplexer write before an access to a site. -/
def State.muxWrite (s : State) (site : Nat) : List (Nat × List Byte) :=
  let a := s.fld F.IDM_SITE_CFG_MUX_ADDR site
  if a = 0 then [] else [(a, [BitVec.ofNat 8 (2 ^ s.fld F.IDM_SITE_CFG_MUX_CHAN site)])]

/-- The select writes of a read that includes bytes 128 to 255 of a paged device. -/
def State.pageWrites (s : State) (m : Nat) (j : IdmJob) : List (Nat × List Byte) :=
  if j.off + j.len ≤ 128 then []
  else (pageSelect (s.fld F.IDM_SITE_CFG_TYPE j.site) j.dev).map (fun b =>
    (0x50 + j.dev, [BitVec.ofNat 8 b, BitVec.ofNat 8 (if b = 126 then s.fld F.IDM_ARG_BANK m else s.fld F.IDM_ARG_PAGE m)]))

/-! ### Read commands (R376, R377) -/

/-- A GO that R376 ignores. -/
def State.badGo (s : State) (m : Nat) (v : Word) : Bool :=
  let site := F.IDM_CMD_SITE.of v
  let dev := F.IDM_CMD_DEV.of v
  let len := s.fld F.IDM_ARG_LEN m
  s.flag F.IDM_STAT_BUSY m || s.fld F.IDM_SITE_CFG_MASTER site != m || !s.flag F.IDM_SITE_CFG_EN site
    || decide (256 < s.fld F.IDM_ARG_OFFSET m + len) || (dev == 1 && s.fld F.IDM_SITE_CFG_TYPE site != 1)
    || len == 0 || decide (128 < len)

/-- A write of IDM_CMD: with GO = 1 a read starts. -/
def writeIdmCmd (m : Nat) (v : Word) (s : State) : State :=
  if !v.getLsbD 31 then plainWrite .IDM_CMD m v s
  else if s.badGo m v then s.reject .IDM
  else
    let j : IdmJob := ⟨F.IDM_CMD_SITE.of v, F.IDM_CMD_DEV.of v, s.fld F.IDM_ARG_OFFSET m, s.fld F.IDM_ARG_LEN m⟩
    let t := (plainWrite .IDM_CMD m v s).setFld F.IDM_STAT_BUSY m 1
    { t with idm := { job := t.idm.job.set m j, wrote := t.idm.wrote.set m (t.muxWrite j.site ++ t.pageWrites m j) } }

/-- A command ends with a RESULT. -/
def endIdm (m result : Nat) (s : State) : State :=
  { s with idm := { s.idm with job := s.idm.job.erase m } }.setFlds m [(F.IDM_STAT_BUSY, 0), (F.IDM_STAT_RESULT, result)]

/-- Byte `b` of a master's buffer is set (R376). -/
def setBufByte (m b : Nat) (x : Byte) (s : State) : State :=
  let i := 32 * m + b / 4
  s.setReg .IDM_BUF i (BitVec.ofNat 32 (putBits (s.reg .IDM_BUF i).toNat (8 * (b % 4)) 8 x.toNat))

/-- Bytes are put into a master's buffer from its byte `b` on. -/
def fillBuf (m : Nat) : Nat → List Byte → State → State
  | _, [], s => s
  | b, x :: xs, s => fillBuf m (b + 1) xs (setBufByte m b x s)

/-- The read completes: the bytes arrive, or a third NACK ends it. -/
def idmDone (m : Nat) (nack : Bool) (data : List Byte) (s : State) : State :=
  match s.idm.job.find? m with
  | none => s
  | some j =>
    if nack then ((endIdm m 1 s).bump .IDM_NACK_CNT 0).raise Src.IDM_NACK
    else endIdm m 0 (fillBuf m 0 (data.take j.len) s)

/-- A bus held for 25 ms is recovered, or stays stuck. -/
def busStuck (m : Nat) (low : Bool) (s : State) : State :=
  if !low then s
  else
    let t := if (s.idm.job.find? m).isSome then endIdm m 2 s else s
    (t.bump .IDM_STUCK_CNT 0).raise Src.IDM_BUS_STUCK

/-! ### The presence scan (R378, R379) -/

/-- A byte of a record; 0 past its end. -/
def recByte (d : List Byte) (i : Nat) : Nat := (d.getD i 0).toNat

/-- The first failing item of R379 in a Carrath Module Identity Record, 0 for none. -/
def moduleRecord (d : List Byte) : Nat :=
  let lanes := recByte d 21
  let len := recByte d 6 * 2 ^ 8 + recByte d 7
  if beNat (d.take 4) ≠ 0x434D4952 then 1
  else if recByte d 4 ≠ 1 then 2
  else if recByte d 5 < 1 ∨ 3 < recByte d 5 then 3
  else if lanes < 1 ∨ 16 < lanes then 4
  else if 128 < recByte d 20 + lanes then 5
  else if len ≠ 36 + 4 * lanes then 6
  else if d.length < len ∨ beNat ((d.drop (len - 4)).take 4) ≠ crc32c (d.take (len - 4)) then 7
  else 0

/-- The record of a TYPE 4 site that becomes present is checked. -/
def checkModule (k : Nat) (d : List Byte) (s : State) : State :=
  let e := moduleRecord d
  let t := s.setFlds k [(F.IDM_SITE_STAT_REC_OK, b2n (e == 0)), (F.IDM_SITE_STAT_REC_ERR, e)]
  if e = 0 then t else (t.bump .IDM_REC_FAIL_CNT 0).raise Src.IDM_REC_BAD

/-- One site is probed: `ack` is what byte 0 answers, with the record's bytes. -/
def probeSite (acks : List (Fin 128 × List Byte)) (s : State) (k : Nat) : State :=
  let was := s.flag F.IDM_SITE_STAT_PRESENT k
  match acks.find? (fun a => a.1.val == k) with
  | some (_, d) =>
    if was then s
    else
      let t := if s.fld F.IDM_SITE_CFG_TYPE k = 4 then checkModule k d s else s
      (t.setFlds k [(F.IDM_SITE_STAT_PRESENT, 1), (F.IDM_SITE_STAT_CHANGE_S, 1)]).raise Src.IDM_MOD_CHANGE
  | none =>
    if was then (s.setFlds k [(F.IDM_SITE_STAT_PRESENT, 0), (F.IDM_SITE_STAT_CHANGE_S, 1)]).raise Src.IDM_MOD_CHANGE else s

/-- The scan of one second. -/
def scanSites (acks : List (Fin 128 × List Byte)) (s : State) : State :=
  if !s.flag F.IDM_CFG_SCAN_EN 0 then s
  else ((List.range 128).filter (fun k => s.flag F.IDM_SITE_CFG_EN k && s.fld F.IDM_SITE_CFG_TYPE k != 0)).foldl (probeSite acks) s

/-! ### Straps (R382) -/

/-- The live straps differ from the latched ones. -/
def State.strapsDiffer (s : State) : Bool :=
  s.fld F.IDM_STRAP_LIVE_SLOT 0 != s.fld F.IDM_STRAP_SLOT_ID 0 || s.fld F.IDM_STRAP_LIVE_SIDE 0 != s.fld F.IDM_STRAP_CARD_SIDE 0

/-- The straps have read a value for 10 ms. -/
def strapsRead (slot : Nat) (side : Bool) (s : State) : State :=
  let t := s.setFlds 0 [(F.IDM_STRAP_LIVE_SLOT, slot), (F.IDM_STRAP_LIVE_SIDE, b2n side)]
  t.raiseIf t.strapsDiffer Src.IDM_STRAP_CHG

/-- The straps are latched at the release of a reset. -/
def latchStraps (s : State) : State :=
  s.setFlds 0 [(F.IDM_STRAP_SLOT_ID, s.fld F.IDM_STRAP_LIVE_SLOT 0), (F.IDM_STRAP_CARD_SIDE, s.fld F.IDM_STRAP_LIVE_SIDE 0)]

/-! ### Calibration (R383, R384) -/

/-- The factory word of a CAL register. With OTP_BAD every trim has its mid-range value. -/
def State.factory (s : State) (r : RegName) (i : Nat) : Word :=
  if s.flag F.CAL_STAT_OTP_BAD 0 then
    match r with
    | .CAL_OSC => 128
    | .CAL_LANE_TXF => BitVec.ofNat 32 (16 + 32 * 2 ^ 8 + 16 * 2 ^ 16)
    | _ => 0
  else s.otp.fact.get 0 (regKey r i)

/-- F + U clamped, and whether the clamp acts. -/
def clampSum (lo hi f u : Int) : Int × Bool := (clampInt lo hi (f + u), decide (f + u < lo) || decide (hi < f + u))

/-- The effective trim of the oscillator. -/
def State.oscTrim (s : State) : Int × Bool :=
  clampSum 0 255 (F.CAL_OSC_TRIM_F.of (s.factory .CAL_OSC 0) : Nat) (signed 8 (s.fld F.CAL_OSC_TRIM_U 0))

/-- The effective offset of a temperature sensor. -/
def State.sensorOffset (s : State) (k : Nat) : Int × Bool :=
  clampSum (-2048) 2047 (signed 12 (F.CAL_TS_F_OFS_F.of (s.factory .CAL_TS_F k))) (signed 12 (s.fld F.CAL_TS_U_OFS_U k))

/-- The effective taps of a lane's transmitter: pre-cursor, main, post-cursor. -/
def State.laneTaps (s : State) (n : Nat) : List (Int × Bool) :=
  let w := s.factory .CAL_LANE_TXF n
  [clampSum 0 31 (F.CAL_LANE_TXF_PRE_F.of w : Nat) (signed 6 (s.fld F.LANE_TXEQ_PRE_U n)),
   clampSum 0 63 (F.CAL_LANE_TXF_MAIN_F.of w : Nat) (signed 6 (s.fld F.LANE_TXEQ_MAIN_U n)),
   clampSum 0 31 (F.CAL_LANE_TXF_POST_F.of w : Nat) (signed 6 (s.fld F.LANE_TXEQ_POST_U n))]

/-- A lane's taps are clamped. -/
def State.laneSat (s : State) (n : Nat) : Bool := (s.laneTaps n).any (·.2)

/-- The user word of a quantity is written: a quantity that the clamp begins to act on asserts SAT. Until LOADED such writes
are ignored. -/
def writeUser (r : RegName) (i : Nat) (v : Word) (sat : State → Bool) (s : State) : State :=
  if !s.flag F.CAL_STAT_LOADED 0 then s.reject r.blk
  else
    let t := plainWrite r i v s
    t.raiseIf (sat t && !sat s) Src.CAL_SAT

/-- A write of LANE_TXEQ. -/
def writeTxeq (n : Nat) (v : Word) (s : State) : State := writeUser .LANE_TXEQ n v (fun t => t.laneSat n) s

/-- A write of a CAL register. -/
def writeCal (r : RegName) (i : Nat) (v : Word) (s : State) : State :=
  match r with
  | .CAL_OSC => writeUser r i v (fun t => t.oscTrim.2) s
  | .CAL_TS_U => writeUser r i v (fun t => (t.sensorOffset i).2) s
  | _ => plainWrite r i v s

/-- A write of an IDM register. -/
def writeIdm (r : RegName) (i : Nat) (v : Word) (s : State) : State :=
  match r with
  | .IDM_CMD => writeIdmCmd i v s
  | _ => plainWrite r i v s

/-- The OTP area is loaded (R383). -/
def otpLoad (ok : Bool) (s : State) : State :=
  let t := (s.setFld F.CAL_STAT_LOADED 0 1).setFlag F.CAL_STAT_OTP_BAD 0 (!ok)
  t.raiseIf (!ok) Src.CAL_OTP_BAD

/-! ### Live registers (R386, R387) -/

/-- The live sources of IDM_FLIVE. -/
def State.idmFlive (s : State) : Word :=
  (if (List.range 128).any (fun k => s.flag F.IDM_SITE_STAT_PRESENT k && s.fld F.IDM_SITE_CFG_TYPE k == 4
      && !s.flag F.IDM_SITE_STAT_REC_OK k) then Src.IDM_REC_BAD.mask else 0)
    ||| (if s.strapsDiffer then Src.IDM_STRAP_CHG.mask else 0)

/-- A live CAL register, if it is one. -/
def State.calLive (s : State) (r : RegName) (i : Nat) : Option Word :=
  let known := s.flag F.CAL_STAT_LOADED 0
  let gate (w : Word) : Option Word := some (if known then w else 0)
  match r with
  | .CAL_OSC =>
    let u := s.fld F.CAL_OSC_TRIM_U 0 * 2 ^ 8
    if known then
      some (BitVec.ofNat 32 (F.CAL_OSC_TRIM_F.of (s.factory r 0) + u + s.oscTrim.1.toNat * 2 ^ 16 + b2n s.oscTrim.2 * 2 ^ 24))
    else some (BitVec.ofNat 32 u)
  | .CAL_UID_LO => gate (BitVec.ofNat 32 s.otp.uid)
  | .CAL_UID_HI => gate (BitVec.ofNat 32 (s.otp.uid / 2 ^ 32))
  | .CAL_REPAIR => gate (s.otp.fact.get 0 (regKey r 0))
  | .CAL_LANE_TXF => gate (s.factory r i)
  | .CAL_LANE_TXE =>
    let taps : List Int := (s.laneTaps i).map (fun (p : Int × Bool) => p.1)
    let e (k : Nat) : Nat := (taps.getD k 0).toNat
    gate (BitVec.ofNat 32 (e 0 + e 1 * 2 ^ 8 + e 2 * 2 ^ 16 + b2n (s.laneSat i) * 2 ^ 31))
  | .CAL_TS_F => gate (s.factory r i)
  | .CAL_TS_U => some (F.CAL_TS_U_SAT.put (s.reg r i) (b2n (known && (s.sensorOffset i).2)))
  | _ => none

/-- The live sources of CAL_FLIVE. -/
def State.calFlive (s : State) : Word :=
  (if s.flag F.CAL_STAT_OTP_BAD 0 then Src.CAL_OTP_BAD.mask else 0)
    ||| (if s.flag F.CAL_STAT_LOADED 0 && (s.oscTrim.2 || (List.range 128).any s.laneSat
        || (List.range 16).any (fun k => (s.sensorOffset k).2)) then Src.CAL_SAT.mask else 0)

/-! ### The commands -/

/-- IDM_READ: a write of IDM_CMD with GO = 1 (R376). -/
def execIdmRead (m : Fin 8) (v : Word) (s : State) : Out := .next (writeIdmCmd m (v ||| 0x80000000#32) s)

/-- IDM_READ_DONE (R376, R377). -/
def execIdmReadDone (m : Fin 8) (nack : Bool) (data : List Byte) (s : State) : Out := .next (idmDone m nack data s)

/-- BUS_STUCK (R377). -/
def execBusStuck (m : Fin 8) (stillLow : Bool) (s : State) : Out := .next (busStuck m stillLow s)

/-- PRESENCE_SCAN (R378). -/
def execPresenceScan (acks : List (Fin 128 × List Byte)) (s : State) : Out := .next (scanSites acks s)

/-- STRAP_CHG (R382). -/
def execStrapChg (slot : BitVec 6) (side : Bool) (s : State) : Out := .next (strapsRead slot.toNat side s)

/-- CAL_USER_WRITE (R384). -/
def execCalUserWrite (q : CalQuantity) (v : Word) (s : State) : Out :=
  .next (match q with
    | .oscillator => writeCal .CAL_OSC 0 v s
    | .sensor k => writeCal .CAL_TS_U k v s
    | .lane n => writeTxeq n v s)

end Sys2Proof.Machine
end

