-- ==== Sys2Proof/Machine/Wcomp.lean ====
section
/-!
DEFINITION. The compositor block (chapter 12): pipes and their users, layers and their commit, the Safelight layer, capture,
and the blending of R309. The bands themselves go to scan-out, in Sys2Proof/Machine/Wscan.lean.
-/

namespace Sys2Proof.Machine

/-! ### The canvas -/

/-- The wall timing domain. -/
def State.wallTd (s : State) : Nat := s.fld F.WCOMP_CFG_TD 0

/-- The compositor runs. -/
def State.wallOn (s : State) : Bool := s.flag F.WCOMP_CFG_EN 0

/-- W and H of the canvas (R304). -/
def State.canvasW (s : State) : Nat := s.fld F.WCOMP_CANVAS_W_M1 0 + 1
def State.canvasH (s : State) : Nat := s.fld F.WCOMP_CANVAS_H_M1 0 + 1

/-- HEIGHT of a band, and the number of bands nb (R304, R325). -/
def State.bandRows (s : State) : Nat := s.fld F.WCOMP_BAND_HEIGHT_M1 0 + 1
def State.bands (s : State) : Nat := ceilDiv s.canvasH s.bandRows

/-- Lamps × bytes × the wall's frame rate in MB/s, rounded up (R188, R307). -/
def State.lampMbps (s : State) (lamps bytes : Nat) : Nat := ceilDiv (lamps * bytes * 3000) (s.tf3 s.wallTd)

/-- Capture is permitted (R314). -/
def State.capPermitted (s : State) : Bool :=
  s.fld F.RST_STAT_LC 0 == 0 || s.fld F.RST_STAT_LC 0 == 3 || !s.flag F.RST_HEALTH_HEALTH_OK 0
    || (List.range 17).any (fun u => s.fld F.WCOMP_UNIT_STATE u == 3)

/-- The stack of WCOMP_CAP_BASE. -/
def State.capStack (s : State) : Nat := s.fld F.WCOMP_CAP_BASE_BASE 0 / 2 ^ 18 % 2

/-- The reservation of R307 on stacks A and B, with capture permitted or not. -/
def State.wallTerms (s : State) (cap : Bool) : Nat × Nat :=
  let n := s.canvasW * s.canvasH
  let c := if cap then s.lampMbps n 8 else 0
  if s.capStack = 0 then (s.lampMbps n 4 + c, 0) else (s.lampMbps n 4, c)

/-- The compositor's reservation follows its settings and the permission to capture (R307). -/
def wallReserve (s : State) : State :=
  if s.wallOn then
    let (a, b) := s.wallTerms s.capPermitted
    s.setHbm 2000 a b
  else s.setHbm 2000 0 0

/-! ### Pipes (R294, R295) -/

/-- The destination that a pipe's user is: VOUT o, or 1,024 + layer. -/
def pipeUserOf (user index : Nat) : Option Nat := if user = 1 then some index else if user = 2 then some (1024 + index) else none

/-- The user of logical pipe `q`. -/
def State.pipeUser (s : State) (q : Nat) : Option Nat :=
  pipeUserOf (s.fld F.WCOMP_PIPE_CFG_USER q) (s.fld F.WCOMP_PIPE_CFG_INDEX q)

/-- The object code of a destination (R196). -/
def destObj (d : Nat) : Nat := if d < 1024 then d else 2 ^ 14 + (d - 1024)

/-- The domain that governs a pipe's user. -/
def State.userTd (s : State) (d : Nat) : Option Nat := s.ownerTd (destObj d)

/-- The pipe's present user has a committed or pending route through it (R294). -/
def State.pipeBusy (s : State) (q : Nat) : Bool :=
  match s.pipeUser q with
  | none => false
  | some d => ((s.routes d).committed.toList ++ (s.routes d).pending.toList).any (fun r => r.path == 2)

/-- A write of WCOMP_PIPE_CFG (R294, R516). -/
def writePipeCfg (q : Nat) (v : Word) (s : State) : State :=
  let u := F.WCOMP_PIPE_CFG_USER.of v
  let i := F.WCOMP_PIPE_CFG_INDEX.of v
  let same := u == s.fld F.WCOMP_PIPE_CFG_USER q && i == s.fld F.WCOMP_PIPE_CFG_INDEX q
  let taken := match pipeUserOf u i with | none => false | some d => (List.range 16).any (fun p => s.pipeUser p == some d)
  let bad := u == 3 || (u == 2 && decide (15 < i)) || (!same && (taken || s.pipeBusy q))
  guardedWrite bad .WCOMP_PIPE_CFG q v s

/-- A pipe gets a unit. -/
def givePipe (q u : Nat) (s : State) : State :=
  (((s.setUnit (36 + u) 0).setFld F.WCOMP_UNIT_SERVES u q).setFld F.WCOMP_PIPE_STAT_UNIT q u).setFlag
    F.WCOMP_PIPE_STAT_NO_UNIT q false

/-- A unit's pipe is left without it: the spare takes its place, or none is left (R295). -/
def replacePipe (u : Nat) (s : State) : State :=
  let q := s.fld F.WCOMP_UNIT_SERVES u
  match s.spareFor (36 + u) with
  | some e => givePipe q (e - 36) s
  | none => (s.setFlag F.WCOMP_PIPE_STAT_NO_UNIT q true).raise Src.WCOMP_NO_UNIT

/-- A pipe unit in service reports an uncorrectable error in its state (R295). -/
def pipeErrs (u : Nat) (s : State) : State :=
  if s.unitState (36 + u) = 0 ∨ s.unitState (36 + u) = 2 then
    let q := s.fld F.WCOMP_UNIT_SERVES u
    let t := ((parkUnit (36 + u) (replacePipe u s)).bump .WCOMP_PIPE_ERR_CNT 0).raise Src.WCOMP_PIPE_ERR
    { t with wcomp := { t.wcomp with errUnit := u, out := q :: t.wcomp.out.filter (· != q) } }
  else s

/-! ### Layers (R303, R305, R306) -/

/-- A layer. -/
def State.layer (s : State) (l : Nat) : Layer := s.wcomp.layer.get .reset l

/-- A layer replaced. -/
def State.setLayer (s : State) (l : Nat) (x : Layer) : State :=
  { s with wcomp := { s.wcomp with layer := s.wcomp.layer.set l x } }

/-- A thread is created for layer `l` (R305). -/
def layerCreated (l : Nat) (s : State) : State :=
  let d : LayerSet := { LayerSet.reset with w := s.canvasW, h := s.canvasH, prof := (s.layer l).now.prof }
  (s.setRoutes (1024 + l) .reset).setLayer l ⟨d, d, false⟩

/-- Admission of a layer's source (R306): the route and the state that reserves it, or the reason of R189. -/
def decideLayer (l v n : Nat) (classP : Bool) (s : State) : Except Nat (Route × State) :=
  let d := 1024 + l
  let x := s.routes d
  let s0 := s.setRoutes d { x with request := none }
  if !(s.vinRec v).feeder then .error 5
  else match s0.pipeOf 2 l with
    | none => .error 4
    | some q =>
      let others := s.chargedBut d
      let rate := fmtKbps (s.vinRec v).fmt
      let r : Route := ⟨v, classP, !classP && tPlane others, 2, 0, n, false, q, rate, rate, 0⟩
      let kept := x.committed.toList.map (fun c => (⟨d, 0, c⟩ : RouteItem))
      match s.capacityChecks n (others ++ kept ++ [⟨d, 2, r⟩]) with
      | some e => .error e
      | none =>
        let fw := s.tf3 s.wallTd
        match newPipeFs q v n (ceilDiv (rate * (fw + s.tf3 (s.vinTd v))) (8000 * fw)) 0 s0 with
        | .error e => .error e
        | .ok t => .ok (r, t)

/-- LSRC is decided at issue (R244): the reason of refusal, 0 when admitted. -/
def requestLayer (l v n : Nat) (s : State) : Nat × State :=
  match decideLayer l v n (s.flag F.WCOMP_LAYER_CFG_PROT l) s with
  | .ok (r, t) => (0, dropPipeFs (dropSyncs (t.setRoutes (1024 + l) { t.routes (1024 + l) with request := some r, pending := none })))
  | .error e => (e, (s.bump .XPT_REFUSE_CNT 0).raise Src.XPT_REFUSE)

/-- The format of a layer's committed source. -/
def State.layerFmt (s : State) (l : Nat) : Nat :=
  match (s.routes (1024 + l)).committed with
  | some r => (s.vinRec r.vin).fmt
  | none => 0

/-- A crop clipped to a side of `n` samples: its start and length; a length of 0 runs to the edge (R305). -/
def clipCrop (c w n : Nat) : Nat × Nat :=
  let a := min c (n - 1)
  (a, if w = 0 then n - a else min w (n - a))

/-- The size that R303 allows for a crop. -/
def clampSize (crop size : Nat) : Nat := min 32768 (max (ceilDiv crop 8) (min (crop * 64) size))

/-- The settings of a layer as they commit, its size clamped (R303), and whether the clamp acted. -/
def State.commitSet (s : State) (l : Nat) (x : LayerSet) : LayerSet × Bool :=
  let f := s.layerFmt l
  if f = 0 then (x, false)
  else
    let w := clampSize (clipCrop x.cx x.cw (fmtWidth f)).2 x.w
    let h := clampSize (clipCrop x.cy x.ch (fmtHeight f)).2 x.h
    ({ x with w := w, h := h }, w != x.w || h != x.h)

/-- A layer commits its shadow (R215), with the profile that its register names (R300). -/
def commitLayer (l : Nat) (s : State) : State :=
  let t := s.commitReg .WCOMP_LAYER_CFG l
  let x := t.layer l
  let (y, c) := if l < 16 then t.commitSet l x.next else (x.next, false)
  let y1 := { y with prof := t.fld F.WCOMP_LAYER_CFG_PROF l }
  (t.setLayer l ⟨y1, x.next, c⟩).raiseIf c Src.WCOMP_SIZE_CLAMP

/-- A layer's thread is deleted (R200): it is disabled. -/
def layerDisabled (l : Nat) (s : State) : State :=
  let x := s.layer l
  (removeRoutes (1024 + l) s).setLayer l { x with now := { x.now with on := false }, next := { x.next with on := false } }

/-- A layer's committed source is composed by the wall domain: its thread runs there (R308). -/
def State.tdMis (s : State) (l : Nat) : Bool :=
  match s.ownerTd (2 ^ 14 + l) with | some n => n != s.wallTd | none => false

/-- VALID of a layer: it has a committed source; for the Safelight layer, it is shown. -/
def State.layerValid (s : State) (l : Nat) : Bool :=
  if l < 16 then (s.routes (1024 + l)).committed.isSome else (s.layer 16).now.on

/-! ### The Shutter -/

/-- The profile of a pipe's user. -/
def State.userProfile (s : State) (d : Nat) : Nat := if d < 1024 then s.wcomp.prof.get 0 d else (s.layer (d - 1024)).now.prof

/-- At the Shutter of domain `n` the profiles selected by PIPE commit, and written profiles take effect for the pipes whose
user the domain governs (R242, R300); a failed unit's replacement takes over (R295). -/
def pipesShutter (n : Nat) (s : State) : State :=
  let mine (d : Nat) : Bool := s.userTd d == some n
  let w := s.wcomp
  let prof := (w.profNext.entries.filter (fun e => mine e.1)).foldl (fun (m : AMap Nat) e => m.set e.1 e.2) w.prof
  let t := { s with wcomp := { w with prof := prof, profNext := w.profNext.filter (fun o _ => !mine o) } }
  let users := (List.range 16).filterMap t.pipeUser
  let t1 := (users.filter mine).foldl (fun (u : State) d =>
    { u with wcomp := { u.wcomp with profIn := u.wcomp.profIn.set d (u.profWords (u.userProfile d)) } }) t
  let keep (q : Nat) : Bool := match s.pipeUser q with
    | some d => !mine d
    | none => false
  { t1 with wcomp := { t1.wcomp with out := t1.wcomp.out.filter keep } }

/-- The layer as the wall frame now beginning composes it: its pipe's frame store gives the source frame (R308). -/
def State.wallLayer (s : State) (l : Nat) : Option WallLayer :=
  match (s.routes (1024 + l)).committed with
  | none => none
  | some r =>
    let shown := (s.xpt.pipeFs.find? r.unit).bind (·.shown)
    let (p1, p2) := s.userProf (1024 + l) (s.layer l).now.prof
    some ⟨l, (s.layer l).now, (s.vinRec r.vin).fmt, (match shown with | some f => f.lines | none => []), s.vinPresent r.vin,
      r.unit, p1, p2⟩

/-- Ascending (ORDER, layer index) (R309). -/
def layerBelow (a b : WallLayer) : Bool := decide (a.set.order < b.set.order) || (a.set.order == b.set.order && decide (a.idx < b.idx))

/-- The wall frame that begins at S(N) (R308). -/
def State.newWallFrame (s : State) : WallFrame :=
  let ls := ((List.range 16).filter (fun l => !s.tdMis l)).filterMap s.wallLayer
  ⟨s.reg .REF_TD_FRAME s.wallTd, ((s.tdOf s.wallTd).last.map (·.shutter)).getD 0,
    (s.effFld F.WCOMP_BG_R_VALUE 0, s.effFld F.WCOMP_BG_G_VALUE 0, s.effFld F.WCOMP_BG_B_VALUE 0),
    sortBy layerBelow ls, if s.tdMis 16 then { (s.layer 16).now with on := false } else (s.layer 16).now, [], [], []⟩

/-- The compositor's part of the Shutter of its own domain: the background commits, a frame begins, and a capture that
waits begins with it (R308, R314). -/
def wallShutter (s : State) : State :=
  let t := ((s.commitReg .WCOMP_BG_R 0).commitReg .WCOMP_BG_G 0).commitReg .WCOMP_BG_B 0
  if !t.wallOn then t
  else
    let f := t.newWallFrame
    let cap := if t.flag F.WCOMP_CAP_STAT_BUSY 0 && t.wcomp.capFrame.isNone then some f.frame else t.wcomp.capFrame
    let t1 := { t with wcomp := { t.wcomp with cur := some f, last := t.wcomp.cur, capFrame := cap } }
    t1.raiseIf ((List.range 17).any (fun l => t1.layerValid l && t1.tdMis l)) Src.WCOMP_TD_MISMATCH

/-- The compositor's part of the Shutter of domain `n`, at which the named layers commit. -/
def wcompShutter (n : Nat) (layers : List Nat) (s : State) : State :=
  let t := pipesShutter n (layers.foldl (fun u l => commitLayer l u) s)
  if n = t.wallTd then wallShutter t else t

/-! ### Blending (R302, R309, R312) -/

/-- The rectangle of a layer covers a lamp. -/
def LayerSet.covers (x : LayerSet) (px py : Nat) : Bool :=
  decide (x.x ≤ px) && decide ((px : Int) < x.x + x.w) && decide (x.y ≤ py) && decide ((py : Int) < x.y + x.h)

/-- One primary blended (R309). -/
def blend1 (alpha : Nat) (s d : Int) : Int :=
  let a : Int := (alpha + alpha / 2048 : Nat)
  (a * s + (4096 - a) * d + 2048) / 4096

/-- A lamp blended. -/
def blend (alpha : Nat) (s d : Tri) : Tri := ⟨blend1 alpha s.a d.a, blend1 alpha s.b d.b, blend1 alpha s.c d.c⟩

/-- The source of a layer with its clipped crop; an absent source carries black lines (R310). -/
def WallLayer.src (x : WallLayer) : PipeSrc :=
  let (cx, cw) := clipCrop (if fmt422 x.fmt then x.set.cx / 2 * 2 else x.set.cx) x.set.cw (fmtWidth x.fmt)
  let (cy, ch) := clipCrop x.set.cy x.set.ch (fmtHeight x.fmt)
  ⟨x.fmt, if x.present then x.lines else [], cx, cy, cw, ch, x.prof1, x.prof2⟩

/-- The value of a layer at a canvas lamp. -/
def State.layerAt (s : State) (x : WallLayer) (px py : Nat) : Tri :=
  s.enlarged x.src x.set.w x.set.h ((px : Int) - x.set.x).toNat ((py : Int) - x.set.y).toNat

/-- A layer is applied to a lamp. -/
def State.applyLayer (s : State) (px py : Nat) (d : Tri) (x : WallLayer) : Tri :=
  if x.set.covers px py && !s.pipeDark x.pipe then blend x.set.alpha (s.layerAt x px py) d else d

/-- The Safelight region of a stack (R311). -/
def slBase (mirror : Bool) : Nat := if mirror then 0x07E0000000 else 0x03E0000000

/-- The lamp word of a Safelight page (R311, R312): BASE × 64 KiB into the region, row by row; a word of a 64-byte burst that
reads wrong comes from the mirror. -/
def State.pageWord (s : State) (bad : List Nat) (k x y : Nat) : Nat :=
  let a := slBase false + s.fld F.WCOMP_SL_PAGE_BASE k * 65536 + (y * (s.fld F.WCOMP_SL_PDIM_W_M1 k + 1) + x) * 4
  s.mem.readLe (if bad.any (fun b => b / 64 == a / 64) then a + 0x0400000000 else a) 4

/-- The replication factor of an axis (R312). -/
def slFactor (size crop : Nat) : Nat := max 1 (min 16 (size / crop))

/-- The Safelight layer is applied to a lamp (R312). -/
def State.applySafe (s : State) (bad : List Nat) (x : LayerSet) (px py : Nat) (d : Tri) : Tri :=
  let pw := s.fld F.WCOMP_SL_PDIM_W_M1 x.page + 1
  let ph := s.fld F.WCOMP_SL_PDIM_H_M1 x.page + 1
  let (cx, cw) := clipCrop x.cx x.cw pw
  let (cy, ch) := clipCrop x.cy x.ch ph
  let fx := slFactor x.w cw
  let fy := slFactor x.h ch
  let dx := (px : Int) - x.x
  let dy := (py : Int) - x.y
  if !x.on || decide (dx < 0) || decide (dy < 0) || decide (((cw * fx : Nat) : Int) ≤ dx) || decide (((ch * fy : Nat) : Int) ≤ dy) then d
  else
    let w := s.pageWord bad x.page (cx + dx.toNat / fx) (cy + dy.toNat / fy)
    let lut (i : Nat) : Int := s.fld F.WCOMP_SL_LUT_VALUE i
    blend ((bitsOf w 24 8 * x.alpha + 127) / 255) ⟨lut (bitsOf w 16 8), lut (bitsOf w 8 8), lut (bitsOf w 0 8)⟩ d

/-- The background colour of a wall frame. -/
def WallFrame.back (f : WallFrame) : Tri := ⟨f.bg.1, f.bg.2.1, f.bg.2.2⟩

/-- A lamp of a wall frame (R309); `bad` are the addresses whose Safelight burst reads wrong. -/
def State.lampAt (s : State) (bad : List Nat) (f : WallFrame) (px py : Nat) : Tri :=
  s.applySafe bad f.safe px py (f.layers.foldl (s.applyLayer px py) f.back)

/-- The canvas rows of a band. -/
def State.rowsOf (s : State) (b : Nat) : List Nat :=
  ((List.range s.bandRows).map (b * s.bandRows + ·)).filter (fun y => decide (y < s.canvasH))

/-- A layer needs no fetch in a band: opaque layers above it cover every lamp of its rectangle there (R310). -/
def State.layerSkipped (s : State) (f : WallFrame) (b : Nat) (x : WallLayer) : Bool :=
  let above := (f.layers.dropWhile (fun y => y.idx != x.idx)).tail.filter (fun y => y.set.alpha == 4095)
  let cols := (List.range s.canvasW)
  let lamps := (s.rowsOf b).flatMap (fun y => (cols.filter (fun c => x.set.covers c y)).map (fun c => (c, y)))
  lamps != [] && lamps.all (fun p => above.any (fun a => a.set.covers p.1 p.2))

/-- WCOMP_LAYER_SKIP counts the layers skipped in a band. -/
def countSkips (f : WallFrame) (b : Nat) (s : State) : State :=
  (f.layers.filter (s.layerSkipped f b)).foldl (fun t x => t.bump .WCOMP_LAYER_SKIP x.idx) s

/-! ### The Safelight buffer (R311) -/

/-- A byte address lies in a Safelight range: 0 the buffer, 1 its mirror. -/
def slRange (a : Nat) : Option Nat :=
  if slBase false ≤ a ∧ a < slBase false + 0x20000000 then some 0
  else if slBase true ≤ a ∧ a < slBase true + 0x20000000 then some 1
  else none

/-- A write of a master to the Safelight ranges: the supervisor's to stack A is mirrored, any other is discarded. -/
def writeSafelight (m a : Nat) (bs : List Byte) (s : State) : State :=
  match slRange a with
  | none => s
  | some k =>
    if m = 5 ∧ k = 0 then
      let n := slBase false + 0x20000000 - a
      (s.store a (bs.take n)).store (a + 0x0400000000) (bs.take n)
    else s.raise Src.WCOMP_SL_WRITE_DENY

/-! ### Register writes -/

/-- SAFE_LOCK (R313). -/
def State.safeLocked (s : State) : Bool := s.flag F.WCOMP_SL_LOCK_LOCK 0

/-- A register write would change a register that R313 or R304 locks. -/
def State.altered (s : State) (r : RegName) (i : Nat) (v : Word) : Bool := r.written (s.reg r i) v != s.reg r i

/-- The compositor may start (R304): lamp rate, domain, HBM. -/
def State.wallMayStart (s : State) (td : Nat) : Bool :=
  let t := s.setFld F.WCOMP_CFG_TD 0 td
  let n := t.canvasW * t.canvasH
  let (a, b) := t.wallTerms t.capPermitted
  t.tdEn td && decide (n * 3 * 1000000000 ≤ 8400000000 * t.tf3 td) && t.hbmFits 2000 a b

/-- A write of WCOMP_CFG (R304). -/
def writeWallCfg (v : Word) (s : State) : State :=
  let on := F.WCOMP_CFG_EN.of v = 1
  let locked := s.wallOn && changes F.WCOMP_CFG_TD s 0 v
  if locked || (s.safeLocked && s.altered .WCOMP_CFG 0 v) || (decide on && !s.wallOn && !s.wallMayStart (F.WCOMP_CFG_TD.of v)) then
    s.reject .WCOMP
  else
    let t := plainWrite .WCOMP_CFG 0 v s
    if on then wallReserve t
    else wallReserve { t with wcomp := { t.wcomp with cur := none, last := none, capFrame := none } }

/-- A write of WCOMP_CANVAS or WCOMP_BAND (R304). -/
def writeCanvas (r : RegName) (v : Word) (s : State) : State :=
  let w := F.WCOMP_CANVAS_W_M1.of v + 1
  let h := F.WCOMP_CANVAS_H_M1.of v + 1
  let big := r == .WCOMP_CANVAS && decide (67108864 < w * h)
  guardedWrite (big || ((s.wallOn || s.safeLocked) && s.altered r 0 v)) r 0 v s

/-- A profile that some pipe uses names something (R300). -/
def State.profUses (s : State) (p : Word → Word → Bool) : Bool :=
  ((List.range 16).filterMap s.pipeUser).any (fun d =>
    let (a, b) := s.userProf d (s.userProfile d)
    let (c, e) := s.profWords (s.userProfile d)
    p a b || p c e)

/-- A matrix set is named by a profile in use. -/
def State.matUsed (s : State) (m : Nat) : Bool :=
  s.profUses (fun a b => F.WCOMP_PROF_M1.of a == m || F.WCOMP_PROF_M2.of a == m || F.WCOMP_PROF2_M3.of b == m)

/-- A curve table is named by a profile in use. -/
def State.curveUsed (s : State) (t : Nat) : Bool :=
  s.profUses (fun a _ => F.WCOMP_PROF_TF_IN.of a == t || F.WCOMP_PROF_TF_OUT.of a == t)

/-- The user Enlarger banks are named by a profile in use. -/
def State.banksUsed (s : State) : Bool := s.profUses (fun _ b => F.WCOMP_PROF2_ENL.of b == 3)

/-- A page would extend beyond the Safelight region (R312). -/
def pageTooBig (base : Nat) (pdim : Word) : Bool :=
  F.WCOMP_SL_PDIM_VALID.of pdim == 1
    && decide (0x20000000 < base * 65536 + (F.WCOMP_SL_PDIM_W_M1.of pdim + 1) * (F.WCOMP_SL_PDIM_H_M1.of pdim + 1) * 4)

/-- A write of a WCOMP_SL register (R311 to R313). -/
def writeSl (m : Nat) (r : RegName) (i : Nat) (v : Word) (s : State) : State :=
  let big := match r with
    | .WCOMP_SL_PAGE => pageTooBig (F.WCOMP_SL_PAGE_BASE.of v) (s.reg .WCOMP_SL_PDIM i)
    | .WCOMP_SL_PDIM => pageTooBig (s.fld F.WCOMP_SL_PAGE_BASE i) v
    | _ => false
  let locked := s.safeLocked && r != .WCOMP_SL_LOCK && s.altered r i v
  guardedWrite (m != 5 || big || locked) r i v s

/-- A write of WCOMP_CAP_CTL (R314). -/
def writeCapCtl (v : Word) (s : State) : State :=
  if F.WCOMP_CAP_CTL_GO.of v = 0 then s
  else if !s.wallOn || !s.capPermitted || s.flag F.WCOMP_CAP_STAT_BUSY 0 then s.reject .WCOMP
  else s.setFlag F.WCOMP_CAP_STAT_BUSY 0 true

/-- A write of a WCOMP register by a master (R317, R318). -/
def writeWcomp (m : Nat) (r : RegName) (i : Nat) (v : Word) (s : State) : State :=
  match r with
  | .WCOMP_CFG => writeWallCfg v s
  | .WCOMP_CANVAS => writeCanvas r v s
  | .WCOMP_BAND => writeCanvas r v s
  | .WCOMP_PIPE_CFG => writePipeCfg i v s
  | .WCOMP_CAP_CTL => writeCapCtl v s
  | .WCOMP_CAP_BASE => wallReserve (plainWrite r i v s)
  | .WCOMP_MAT =>
    if i / 15 ≤ 6 then s
    else guardedWrite (s.matUsed (i / 15) && s.altered r i v) r i (if i % 15 < 9 then v &&& 0x3FFFF#32 else v) s
  | .WCOMP_LUT => if i / 4096 ≤ 7 then s else guardedWrite (s.curveUsed (i / 4096) && s.altered r i v) r i v s
  | .WCOMP_ENL_H => guardedWrite (s.banksUsed && s.altered r i v) r i v s
  | .WCOMP_ENL_V => guardedWrite (s.banksUsed && s.altered r i v) r i v s
  | .WCOMP_SL_PAGE => writeSl m r i v s
  | .WCOMP_SL_PDIM => writeSl m r i v s
  | .WCOMP_SL_LUT => writeSl m r i v s
  | .WCOMP_SL_LOCK => writeSl m r i v s
  | _ => plainWrite r i v s

/-! ### Capture (R314, R315) -/

/-- The wall frame with a given number, if it is held. -/
def State.wallFrame (s : State) (n : Word) : Option WallFrame :=
  match s.wcomp.cur, s.wcomp.last with
  | some f, l => if f.frame = n then some f else l.bind (fun g => if g.frame = n then some g else none)
  | none, _ => none

/-- Every band of a frame has been composed or was late. -/
def State.frameWhole (s : State) (f : WallFrame) : Bool := (List.range s.bands).all (fun b => f.done.contains b)

/-- A capture completes once its frame is whole (R315). -/
def captureEnds (s : State) : State :=
  match s.wcomp.capFrame.bind s.wallFrame with
  | none => s
  | some f =>
    if s.flag F.WCOMP_CAP_STAT_BUSY 0 && s.frameWhole f then
      let t := s.setFlds 0 [(F.WCOMP_CAP_STAT_BUSY, 0), (F.WCOMP_CAP_STAT_DONE, 1), (F.WCOMP_CAP_STAT_FRAME, f.frame.toNat)]
      { t with wcomp := { t.wcomp with capFrame := none } }
    else s

/-- A capture whose permission has ended stops (R314). -/
def captureAborts (s : State) : State :=
  if s.flag F.WCOMP_CAP_STAT_BUSY 0 && !s.capPermitted then
    let t := (s.setFlds 0 [(F.WCOMP_CAP_STAT_BUSY, 0), (F.WCOMP_CAP_STAT_ABORTED, 1)]).raise Src.WCOMP_CAP_ABORT
    { t with wcomp := { t.wcomp with capFrame := none } }
  else s

/-! ### Live registers -/

/-- A matrix word as a register shows it. -/
def matShown (w : Nat) (x : Int) : Word := BitVec.ofNat 32 (unsign (if w < 9 then 18 else 21) x)

/-- WCOMP_LAYER_STAT. -/
def State.layerStat (s : State) (l : Nat) : Word :=
  let x := s.layer l
  let r := (s.routes (1024 + l)).committed
  BitVec.ofNat 32 ((match r with | some q => q.vin + b2n q.classP * 2 ^ 11 | none => 0) + b2n (s.layerValid l) * 2 ^ 10
    + b2n (s.tdMis l) * 2 ^ 12 + b2n x.clamped * 2 ^ 13 + x.now.order * 2 ^ 16 + x.now.alpha * 2 ^ 20)

/-- A live WCOMP register, if it is one. -/
def State.wcompLive (s : State) (r : RegName) (i : Nat) : Option Word :=
  let x := (s.layer i).now
  let pair (a b : Nat) : Option Word := some (BitVec.ofNat 32 (a + b * 2 ^ 16))
  match r with
  | .WCOMP_STAT => some (BitVec.ofNat 32 (b2n s.wallOn + 2 * b2n s.safeLocked + 4 * b2n s.capPermitted))
  | .WCOMP_HBM_RES =>
    let (a, b) := s.xpt.hbm.get (0, 0) 2000
    some (BitVec.ofNat 32 (a + b))
  | .WCOMP_PIPE_STAT =>
    some (BitVec.ofNat 32 (putBits (s.reg r i).toNat 8 4 (match s.pipeUser i with
      | some d => if d < 1024 then s.wcomp.prof.get 0 d else 0
      | none => 0)))
  | .WCOMP_LAYER_STAT => some (s.layerStat i)
  | .WCOMP_LAYER_POS => pair (unsign 16 x.x) (unsign 16 x.y)
  | .WCOMP_LAYER_SIZE => pair (x.w - 1) (x.h - 1)
  | .WCOMP_LAYER_CROP_POS => pair x.cx x.cy
  | .WCOMP_LAYER_CROP_SIZE => pair x.cw x.ch
  | .WCOMP_MAT => if i / 15 ≤ 6 then some (matShown (i % 15) (s.matWord (i / 15) (i % 15))) else none
  | .WCOMP_LUT => if i / 4096 ≤ 7 then some (BitVec.ofInt 32 (s.curveEntry (i / 4096) (i % 4096))) else none
  | .WCOMP_SL_STAT => some (BitVec.ofNat 32 ((s.layer 16).now.page + b2n (s.layer 16).now.on * 2 ^ 8))
  | _ => none

/-- The live sources of WCOMP_FLIVE (R318). -/
def State.wcompFlive (s : State) : Word :=
  (if (List.range 16).any (fun q => s.flag F.WCOMP_PIPE_STAT_NO_UNIT q) then Src.WCOMP_NO_UNIT.mask else 0)
    ||| (if (List.range 16).any (fun l => (s.layer l).clamped) then Src.WCOMP_SIZE_CLAMP.mask else 0)
    ||| (if (List.range 17).any (fun l => s.tdMis l) then Src.WCOMP_TD_MISMATCH.mask else 0)

/-! ### The commands -/

/-- PIPE_CFG_WRITE (R294). -/
def execPipeCfgWrite (q : Fin 16) (v : Word) (s : State) : Out := .next (writePipeCfg q v s)

/-- PIPE_ERR (R295). -/
def execPipeErr (u : Fin 17) (s : State) : Out := .next (pipeErrs u s)

/-- COMPOSITOR_ENABLE: a write of WCOMP_CFG with EN = 1 (R304). -/
def execCompositorEnable (v : Word) (s : State) : Out := .next (writeWallCfg (v ||| 1#32) s)

/-- SAFELIGHT_WRITE (R311). -/
def execSafelightWrite (m : Fin 8) (a : Nat) (data : List Byte) (s : State) : Out := .next (writeSafelight m a data s)

/-- SAFE_LOCK: a write of WCOMP_SL_LOCK with LOCK = 1 (R313). -/
def execSafeLock (m : Fin 8) (v : Word) (s : State) : Out := .next (byMaster m .WCOMP_SL_LOCK 0 (writeSl m .WCOMP_SL_LOCK 0 (v ||| 1#32)) s)

/-- CAPTURE_GO: a write of WCOMP_CAP_CTL with GO = 1 (R314). -/
def execCaptureGo (v : Word) (s : State) : Out := .next (writeCapCtl (v ||| 1#32) s)

/-- CAPTURE_DONE (R315). -/
def execCaptureDone (s : State) : Out := .next (captureEnds s)

/-- CAP_ABORT (R314). -/
def execCapAbort (s : State) : Out := .next (captureAborts s)

end Sys2Proof.Machine
end

