-- ==== Sys2Proof/Machine/Cue.lean ====
section
/-!
DEFINITION. The Cue Engine (chapter 08): threads and their commands, budgets and engine shares, dispatch and runs, the Take
Queue, the program banks, and its part of the Cue Open and of the Shutter.
-/

namespace Sys2Proof.Machine

/-! ### Threads -/

/-- A thread replaced. -/
def State.setThread (s : State) (t : Nat) (x : Thread) : State := { s with cue := { s.cue with thr := s.cue.thr.set t x } }

/-- OUT of a thread (R196). -/
def State.thrOut (s : State) (t : Nat) : Nat := s.fld F.CUE_THR_CFG_OUT t

/-- KIND and INDEX of an object code (R196). -/
def objKind (o : Nat) : Nat := o / 8192
def objIndex (o : Nat) : Nat := o % 4096

/-- An object code that R196 gives. -/
def objValid (o : Nat) : Bool :=
  bitsOf o 12 1 == 0 &&
  match objKind o with
  | 0 => decide (objIndex o < 1024)
  | 1 => decide (objIndex o < 2048)
  | 2 => decide (objIndex o < 17)
  | 7 => objIndex o == 0
  | _ => false

/-- The state code that CUE_THR_STAT shows (R216): DELETING from the DELETE on, once no run goes on. -/
def State.thrState (s : State) (t : Nat) : Nat :=
  match s.thread? t with
  | none => 0
  | some x => if x.pend = 2 ∧ x.st ≠ 2 then 7 else x.st

/-- A thread set back to an entry (R200): registers, flags, call stack and BOVER state cleared. -/
def Thread.restart (x : Thread) (entry : Nat) : Thread :=
  { x with st := 1, ctx := .start entry, wake := .none, bover := false, boverNow := false, held := none, halting := false }

/-- Its instant in the instruction stream is shown (CUE_THR_PC, CUE_THR_G: at the end of the last run). -/
def Thread.show (x : Thread) : Thread := { x with shown := x.ctx }

/-! ### OVERLOAD (R207) -/

/-- OVERLOAD of each domain follows its load and limit. -/
def overloadCheck (s : State) : State :=
  (List.range 8).foldl (fun t n =>
    if t.tdEn n && !t.cueLoadOk n then
      if t.cue.ovl.contains n then t
      else ({ t with cue := { t.cue with ovl := n :: t.cue.ovl } }).raise Src.CUE_OVERLOAD
    else { t with cue := { t.cue with ovl := t.cue.ovl.filter (· != n) } }) s

/-! ### Thread commands (R198 to R200) -/

/-- A VOUT has an enabled sender: an SDI framer, a Uhlat stream or a transmit context (R199). -/
def State.voutInUse (s : State) (o : Nat) : Bool :=
  s.sender o != 0 || (List.range 2048).any (fun k => s.flag F.MPORT_TXC_CFG_EN k && s.fld F.MPORT_TXC_CFG_TYPE k == 3
    && s.fld F.MPORT_TXC_SRC_SRC k == o)

/-- CREATE's refusal conditions as (code, holds), BAD first (R199). -/
def State.createRefusal (s : State) (t : Nat) : Nat :=
  let o := s.thrOut t
  let n := s.thrTd t
  let builtin := s.flag F.CUE_THR_CFG_BUILTIN t
  let b := s.fld F.CUE_THR_CFG_BUDGET t
  if !objValid o || (builtin && objKind o != 0) || (!builtin && (b == 0 || decide (256 < b))) then 7
  else if (s.thread? t).isSome then 1
  else if (s.owner.find? o).isSome then 2
  else if !s.tdEn n || s.cueEff n == 0 then 3
  else if s.cueLimit n < s.cueLoad n + budgetCharge (s.thrBudget t) then 4
  else if o = 2 ^ 14 + 16 ∧ !s.flag F.CUE_THR_CFG_SAFE t then 5
  else 0

/-- The refusal of DELETE, RESTART (3) and STOP (4) (R198, R199). -/
def State.commandRefusal (s : State) (m op t : Nat) : Nat :=
  let o := s.thrOut t
  if (s.thread? t).isNone then 1
  else if s.flag F.CUE_THR_CFG_SAFE t ∧ m ≠ 5 then 5
  else if op = 2 ∧ objKind o = 0 ∧ s.voutInUse (objIndex o) then 6
  else 0

/-- A new thread (R195, R200). -/
def newThread (entry b now : Nat) : Thread :=
  { st := 1, pend := 0, madeAt := now, ctx := .start entry, shown := .start 0, wake := .none, bover := false, boverNow := false,
    held := none, halting := false, eng := none, clock := 0, back := 0, used := 0, budget := b, user := 0, userNext := none,
    gpo := [], wrote := [], lcommit := false, refused := 0 }

/-- The object of a new thread starts as its chapter says (R269, R305). -/
def objectCreated (o : Nat) (s : State) : State :=
  match objKind o with
  | 1 => audGroupCreated (objIndex o) s
  | 2 => layerCreated (objIndex o) s
  | _ => s

/-- Thread `t` is created (R199, R200). -/
def createThread (t : Nat) (s : State) : State :=
  let o := s.thrOut t
  let s1 := s.setThread t (newThread (s.fld F.CUE_THR_ENTRY_ENTRY t) (s.thrBudget t) s.now)
  if objKind o = 7 then s1 else objectCreated o { s1 with owner := s1.owner.set o t }

/-- DELETE, RESTART or STOP waits for its instant, in place of an earlier command (R200). -/
def pendThread (t op : Nat) (s : State) : State :=
  match s.thread? t with
  | none => s
  | some x => s.setThread t { x with pend := op }

/-- A write of CUE_THR_CMD by master `m`: the command completes with its RESULT (R199). -/
def threadCommand (m : Nat) (v : Word) (s : State) : State :=
  let op := F.CUE_THR_CMD_OP.of v
  let t := F.CUE_THR_CMD_THREAD.of v
  let r := if op = 1 then s.createRefusal t
    else if 2 ≤ op ∧ op ≤ 4 then s.commandRefusal m op t
    else 7
  let s1 := (plainWrite .CUE_THR_CMD 0 v s).setFld F.CUE_THR_CMD_RESULT 0 r
  if r ≠ 0 then s1 else if op = 1 then createThread t s1 else pendThread t op s1

/-- A word with another OP. -/
def withOp (v : Word) (op : Nat) : Word := F.CUE_THR_CMD_OP.put v op

/-! ### Thread registers (R198, R201) -/

/-- A write of CUE_THR_CFG. -/
def writeThrCfg (m t : Nat) (v : Word) (s : State) : State :=
  let live := (s.thread? t).isSome
  let b := F.CUE_THR_CFG_BUDGET.of v
  let old := s.thrBudget t
  let safe := changes F.CUE_THR_CFG_SAFE s t v && (live || m != 5)
  let locked := live && (changes F.CUE_THR_CFG_OUT s t v || changes F.CUE_THR_CFG_TD s t v || changes F.CUE_THR_CFG_BUILTIN s t v)
  let budget := live && changes F.CUE_THR_CFG_BUDGET s t v
  let n := s.thrTd t
  let tooHigh := decide (old < b) && decide (s.cueLimit n < s.cueLoad n - budgetCharge old + budgetCharge b)
  let bad := budget && (s.flag F.CUE_THR_CFG_BUILTIN t || b == 0 || decide (256 < b) || tooHigh)
  if safe || locked || bad then s.reject .CUE else overloadCheck (plainWrite .CUE_THR_CFG t v s)

/-- A write of CUE_THR_CFG2 or CUE_THR_ENTRY. -/
def writeThrLocked (r : RegName) (t : Nat) (v : Word) (s : State) : State :=
  guardedWrite ((s.thread? t).isSome && s.altered r t v) r t v s

/-! ### Engine shares (R202, R207) -/

/-- An engine serves a domain, or none. -/
def setServe (e : Nat) (n : Option Nat) (s : State) : State :=
  let t := { s with cue := { s.cue with serve := s.cue.serve.set e n } }
  match n with
  | some d => t.setFld F.CUE_ENG_STAT_TD e d
  | none => t

/-- Engines above the share leave a domain, the highest first. -/
def shareFalls (n : Nat) (s : State) : State :=
  let k := s.fld F.CUE_SHARE_ENGINES n
  ((s.enginesOf n).drop k).foldl (fun t e => setServe e none t) s

/-- Active engines that serve no domain. -/
def State.idleEngines (s : State) : List Nat :=
  (List.range 18).filter (fun e => s.fld F.CUE_ENG_STAT_STATE e == 0 && s.serves e == none)

/-- A domain below its share takes free engines, the lowest first; an engine lost is missing until one returns (R207). -/
def shareRises (n : Nat) (s : State) : State :=
  let want := s.fld F.CUE_SHARE_ENGINES n - s.cue.lost.get 0 n
  (s.idleEngines.take (want - s.cueEff n)).foldl (fun t e => setServe e (some n) t) s

/-- Domains that do not run take free engines at once. -/
def shareSettle (s : State) : State :=
  (List.range 8).foldl (fun t n => if t.tdEn n then t else shareRises n (shareFalls n t)) s

/-- A write of CUE_SHARE (R202). -/
def writeShare (n : Nat) (v : Word) (s : State) : State :=
  let k := F.CUE_SHARE_ENGINES.of v
  let sum := (List.range 8).foldl (fun a i => a + (if i = n then k else s.fld F.CUE_SHARE_ENGINES i)) 0
  let bad := decide (s.eAct < sum) || decide (s.limitWith n (k - s.cue.lost.get 0 n) < s.cueLoad n)
  if bad then s.reject .CUE else shareSettle (plainWrite .CUE_SHARE n v s)

/-! ### Runs (R203, R206) -/

/-- A run ends: its context is shown and its slack taken (R222). -/
def endRun (t : Nat) (x : Thread) (s : State) : State :=
  let n := s.thrTd t
  let fin := x.clock + (x.back : Nat)
  let shut := ((s.tdOf n).opened.map (·.shutter)).getD 0
  let slack := (shut - 100 - fin).toNat
  let s1 := s.setThread t { x.show with eng := none }
  match x.eng with
  | none => s1
  | some e => { s1 with cue := { s1.cue with engFree := s1.cue.engFree.set e fin,
                                             slackNow := s1.cue.slackNow.set n (min slack (s1.cue.slackNow.get slack n)) } }

/-- A run is stopped and counted (R206). -/
def countBover (t : Nat) (s : State) : State :=
  (((s.setFlag F.CUE_THR_STAT_BOVER_S t true).bump .CUE_THR_BOVER t).bump .CUE_BUDGET_OVER_CNT 0).raise Src.CUE_BUDGET_OVER

/-- Thread `t`'s run is stopped: it resumes in the next frame where it stood. -/
def stopRun (t : Nat) (s : State) : State :=
  match s.thread? t with
  | none => s
  | some x => countBover t (endRun t { x with st := 1, bover := true, boverNow := true } s)

/-! ### The Take Queue (R209 to R213) -/

/-- The take time of R210: AT where it is given and later than the acceptance. -/
def takeTime (w0 w2 w3 : Word) (accept : Nat) : Nat :=
  let at_ := w2.toNat + bitsOf w3.toNat 0 16 * 2 ^ 32
  if w0.getLsbD 31 && !etReached accept at_ then at_ else accept % 2 ^ 48

/-- An entry from a writer arrives (R211, R212): whether it is accepted. -/
def tqPush (w0 w1 w2 w3 : Word) (writer thread accept : Nat) (s : State) : Bool × State :=
  if 4096 ≤ s.cue.tq.length then (false, (s.bump .CUE_TQ_FULL_CNT 0).raise Src.CUE_TQ_FULL)
  else if (s.owner.find? (bitsOf w0.toNat 0 16)).isNone then (true, s.bump .CUE_TQ_NOOWNER_CNT 0)
  else
    let w3' := BitVec.ofNat 32 (bitsOf w3.toNat 0 16 + writer % 16 * 2 ^ 16 + thread % 4096 * 2 ^ 20)
    let e : TqEntry := ⟨w0, w1, w2, w3', takeTime w0 w2 w3 accept, none⟩
    (true, { s with cue := { s.cue with tq := s.cue.tq ++ [e] } })

/-- The object of an entry. -/
def TqEntry.obj (e : TqEntry) : Nat := bitsOf e.w0.toNat 0 16

/-- The oldest entry for an object that the run sees (R213). -/
def State.visibleTake (s : State) (o : Nat) : Option TqEntry := s.cue.tq.find? (fun e => e.obj == o && e.seen.isSome)

/-- The first element that satisfies a test goes. -/
def dropFirstWhere {α : Type} (p : α → Bool) : List α → List α
  | [] => []
  | x :: xs => if p x then xs else x :: dropFirstWhere p xs

/-- That entry is removed (POPT). -/
def popTake (o : Nat) (s : State) : State :=
  { s with cue := { s.cue with tq := dropFirstWhere (fun e => e.obj == o && e.seen.isSome) s.cue.tq } }

/-- A write of CUE_TQ_W3 by master `m` queues the entry (R211). The WRITER of a debug write, which R209 does not list, is a
free value. -/
def writeTqW3 (m : Nat) (v : Word) (s : State) : State :=
  let s1 := plainWrite .CUE_TQ_W3 0 v s
  let (w, s2) := if m = 7 then s1.freeNat else (m + 1, s1)
  (tqPush (s2.reg .CUE_TQ_W0 0) (s2.reg .CUE_TQ_W1 0) (s2.reg .CUE_TQ_W2 0) v w 0 s2.et s2).2

/-! ### The program banks (R219, R220) -/

/-- The base address of a program bank (R29). -/
def bankBase (b : Nat) : Nat := 0x3000000000 + b * 0x100000

/-- The base address of the Cue State RAM. -/
def stateRam : Nat := 0x3000200000

/-- The bank that a domain executes from. -/
def State.bankOf (s : State) (n : Nat) : Nat := b2n (bit (s.fld F.CUE_PS_STAT_BANK 0) n)

/-- A swap is armed and not complete. -/
def State.swapPending (s : State) : Bool := s.flag F.CUE_PS_STAT_PENDING 0

/-- A bank accepts writes (R219). -/
def State.bankIdle (s : State) (b : Nat) : Bool := !s.swapPending && (List.range 8).all (fun n => s.bankOf n != b)

/-- A bus write to the Cue Program Store or the Cue State RAM (R32, R219). -/
def cueMemWrite (a : Nat) (bs : List Byte) (s : State) : State :=
  if bankBase 0 ≤ a ∧ a < stateRam then
    if s.bankIdle ((a - bankBase 0) / 0x100000) then s.store a bs
    else (s.bump .CUE_PS_REJECT_CNT 0).raise Src.CUE_PS_REJECT
  else if stateRam ≤ a ∧ a < stateRam + 0x100000 then s.store a bs
  else s

/-- A thread restarts at a bank swap, ENTRY taking ENTRY_NEXT (R220); the built-in program is not affected (R218). -/
def swapThread (s : State) (t : Nat) : State :=
  match s.thread? t with
  | none => s
  | some x =>
    let s1 := if s.flag F.CUE_THR_NEXT_VALID t then
        (s.setFld F.CUE_THR_ENTRY_ENTRY t (s.fld F.CUE_THR_NEXT_ENTRY_NEXT t)).setFlag F.CUE_THR_NEXT_VALID t false
      else s
    if s.flag F.CUE_THR_CFG_BUILTIN t ∧ x.st ≠ 5 then s1
    else s1.setThread t (x.restart (s1.fld F.CUE_THR_ENTRY_ENTRY t))

/-- A domain swaps (R220); the last one completes the swap. -/
def domainSwap (n : Nat) (s : State) : State :=
  let old := s.bankOf n
  let s1 := s.setFld F.CUE_PS_STAT_BANK 0 ((s.fld F.CUE_PS_STAT_BANK 0).xor (2 ^ n))
  let s2 := (s1.domThreads n).foldl swapThread s1
  let s3 := { s2 with cue := { s2.cue with swapped := n :: s2.cue.swapped } }
  if (List.range 8).all (fun k => s3.cue.swapped.contains k) then
    (s3.setFlds 0 [(F.CUE_PS_STAT_PENDING, 0), (F.CUE_PS_STAT_IDLE, old)]).raise Src.CUE_SWAP_DONE
  else s3

/-- A write of CUE_PS_SWAP_HI arms a swap (R220). -/
def writeSwapHi (v : Word) (s : State) : State :=
  if s.swapPending then s.reject .CUE
  else
    let s1 := plainWrite .CUE_PS_SWAP_HI 0 v s
    let x := (s1.reg .CUE_PS_SWAP_LO 0).toNat + s1.fld F.CUE_PS_SWAP_HI_AT 0 * 2 ^ 32
    { s1 with cue := { s1.cue with swapX := x, swapped := [] } }.setFlds 0
      [(F.CUE_PS_STAT_PENDING, 1), (F.CUE_PS_STAT_IDLE, s.bankOf 0)]

/-- At X a domain that does not run swaps (R220). -/
def swapAt (n : Nat) (s : State) : State :=
  if s.swapPending && !s.tdEn n && !s.cue.swapped.contains n then
    let d := etDiff s.cue.swapX s.et
    domainSwap n (if 0 < d then passTo (s.etFull + d) s else s)
  else s

/-- The memories are cleared after reset (R219). -/
def cueInit (s : State) : State :=
  if s.flag F.CUE_STAT_INIT_DONE 0 then s
  else { s with mem := s.mem.clearRange (bankBase 0) (stateRam + 0x100000) }.setFlag F.CUE_STAT_INIT_DONE 0 true

/-! ### Engine errors (R208) -/

/-- The thread that runs on an engine. -/
def State.runningOn (s : State) (e : Nat) : Option Nat :=
  s.cue.thr.keys.find? (fun t => match s.thread? t with | some x => x.eng == some e | none => false)

/-- A spare takes an engine's place in its domain, for runs from the next Cue Open; with none the share falls (R207). -/
def replaceEngine (e : Nat) (s : State) : State :=
  match s.serves e with
  | none => s
  | some n =>
    let s1 := setServe e none s
    match s1.spareFor (18 + e) with
    | some u =>
      let s2 := setServe (u - 18) (some n) (s1.setUnit u 0)
      match (s2.tdOf n).opened with
      | some f => { s2 with cue := { s2.cue with engFree := s2.cue.engFree.set (u - 18) f.shutter } }
      | none => s2
    | none => overloadCheck { s1 with cue := { s1.cue with lost := s1.cue.lost.set n (s1.cue.lost.get 0 n + 1) } }

/-- An engine in service reports an uncorrectable error in its state (R208). -/
def engineErrs (e : Nat) (s : State) : State :=
  if !s.engUp e then s
  else
    let th := s.runningOn e
    let s1 := match th with
      | none => s
      | some t => match s.thread? t with
        | some x => endRun t { x with st := 1 } s
        | none => s
    let s2 := s1.setFlds 0 [(F.CUE_FAULT_LAST_THREAD, th.getD 0), (F.CUE_FAULT_LAST_FCAUSE, 7), (F.CUE_FAULT_LAST_ENGINE, e)]
    parkUnit (18 + e) (replaceEngine e (s2.raise Src.CUE_ENGINE_ERR))

/-! ### Cue Open (R203, R210, R216) -/

/-- Entries of a domain's objects become visible (R210). -/
def showTakes (n o : Nat) (s : State) : State :=
  { s with cue := { s.cue with tq := s.cue.tq.map (fun e =>
    if s.ownerTd e.obj = some n ∧ e.seen = none ∧ etBefore e.t o then { e with seen := some 0 } else e) } }

/-- A thread at O(N) of its domain: a RESTART or AUTO_RESTART acts; a wait counts down; its budget is set. -/
def openThread (o : Nat) (s : State) (t : Nat) : State :=
  match s.thread? t with
  | none => s
  | some x0 =>
    let x := if x0.pend = 3 ∨ (x0.st = 6 ∧ x0.pend ≠ 2 ∧ s.flag F.CUE_THR_CFG_AUTO_RESTART t) then
        { x0.restart (s.fld F.CUE_THR_ENTRY_ENTRY t) with pend := if x0.pend = 3 then 0 else x0.pend }
      else x0
    let phi := s.reg .REF_TD_FRAME (s.thrTd t) + 1
    let y := match x.st, x.wake with
      | 3, .frames k => if k ≤ 1 then { x with wake := .none } else { x with wake := .frames (k - 1) }
      | 3, .phi w => if 0 ≤ signed 32 (phi - w).toNat then { x with wake := .none } else x
      | 4, .instant i => if etBefore i o then { x with wake := .none } else x
      | _, _ => x
    s.setThread t { y with boverNow := false, used := 0, budget := s.thrBudget t, wrote := [], lcommit := false, gpo := [], refused := 0 }

/-- A thread runs in the frame that opens (R200, R216). -/
def State.dueNow (s : State) (t : Nat) : Bool :=
  match s.thread? t with
  | none => false
  | some x => x.pend != 2 && decide (x.madeAt + 1000 ≤ s.now)
      && (x.st == 1 || ((x.st == 3 || x.st == 4) && x.wake == .none))

/-- The levels of the GPIO pins (R434): a driven pin has its committed or written level, another one a free level. -/
def gpioLevels (s : State) : Word × State :=
  let (x, t) := s.freeNat
  let dir := s.reg .GPIO_DIR 0
  let cue := s.reg .GPIO_CUE 0
  let out := (s.cue.gpo &&& cue) ||| (s.reg .GPIO_OUT 0 &&& ~~~ cue)
  ((out &&& dir) ||| (BitVec.ofNat 32 x &&& ~~~ dir), t)

/-- The SENSE snapshot at O(N) (R203, R236). -/
def takeSnap (n : Nat) (s : State) : State :=
  let (g, t) := gpioLevels s
  let vis := (s.cue.tq.filter (fun e => e.seen.isSome)).map TqEntry.obj
  { t with snap := t.snap.set n ⟨s.regs, s.eff, s.owner, s.ref, s.ptp, s.ul, s.sdi, s.mport, s.xpt, s.aud, s.wscan,
    s.reg .REF_TD_FRAME n + 1, g, (List.range 8).map s.cueLoad, vis⟩ }

/-- The Cue Engine's part of the Cue Open of domain `n`. -/
def cueOpens (n : Nat) (s : State) : State :=
  match (s.tdOf n).opened with
  | none => s
  | some f =>
    let o := unsign 48 f.cueOpen
    let s1 := overloadCheck (shareRises n s)
    let s2 := (s1.domThreads n).foldl (openThread o) (showTakes n o s1)
    let due := (s2.domThreads n).filter s2.dueNow
    takeSnap n { s2 with cue := { s2.cue with due := s2.cue.due.set n due, ready := s2.cue.ready.set n [],
                                              slackNow := s2.cue.slackNow.erase n } }

/-- THREAD_DISPATCH (R203): from O(N) + 100 ns the threads due wait for engines, in ascending slot. -/
def dispatch (n : Nat) (s : State) : State :=
  match (s.tdOf n).opened with
  | none => s
  | some f =>
    let s1 := passTo (f.cueOpen + 100) s
    { s1 with cue := { s1.cue with ready := s1.cue.ready.set n (s1.cue.due.get [] n), due := s1.cue.due.set n [] } }

/-- The dispatched threads of a domain that may start: those being deleted do not run (R216). -/
def State.readyList (s : State) (n : Nat) : List Nat :=
  (s.cue.ready.get [] n).filter (fun t => match s.thread? t with | some x => x.pend != 2 | none => false)

/-! ### Admission of a VOUT's request by its thread (R213, R240) -/

/-- The run writes a shadow field: an earlier write of it in the run is superseded (R213). -/
def noteWrite (t field : Nat) (s : State) : State :=
  match s.thread? t with
  | none => s
  | some x =>
    if x.wrote.contains field then s.bump .CUE_SUPERSEDE_CNT 0
    else s.setThread t { x with wrote := field :: x.wrote }

/-- The run's request is refused for a reason. -/
def noteRefusal (t r : Nat) (s : State) : State :=
  match s.thread? t with
  | none => s
  | some x => s.setThread t { x with refused := r }

/-- TAKE or TAKEP from thread `t`'s run: the reason, 0 when admitted (R240). -/
def takeFrom (t vin : Nat) (classP : Bool) (s : State) : Nat × State :=
  let o := objIndex (s.thrOut t)
  let n := s.thrTd t
  if 1023 < vin then (5, noteRefusal t 5 (refuseRoute o n 5 s))
  else
    let (r, s1) := requestRoute o vin n classP s
    if r = 0 then (0, noteWrite t 0 s1) else (r, noteRefusal t r s1)

/-! ### The built-in program (R218) -/

/-- The pops of a run, at most `k`, from `clock`: the entry held, the pops made, the clock, and whether time ran out. -/
def builtinPops (o : Nat) (shut : Int) : Nat → Int → Option Word → Nat → State → Int × Option Word × Nat × Bool × State
  | 0, c, h, p, s => (c, h, p, false, s)
  | k + 1, c, h, p, s =>
    match s.visibleTake o with
    | none => (c, h, p, false, s)
    | some e => if c + 6 < shut then builtinPops o shut k (c + 6) (some e.w0) (p + 1) (popTake o s) else (c, h, p, true, s)

/-- The built-in program runs: it pops up to 7 entries, issues the last one's operation, and yields. -/
def runBuiltin (t : Nat) (shut : Int) (s : State) : State :=
  match s.thread? t with
  | none => s
  | some x =>
    let o := s.thrOut t
    let (c, h, p, cut, s1) := builtinPops o shut 7 x.clock x.held 0 s
    let s2 := s1.bumpN .CUE_SUPERSEDE_CNT 0 (p + (if x.held.isSome then 1 else 0) - 1)
    let c1 := if h.isSome then c + 3 else c
    if cut || !decide (c1 + 1 < shut) then
      match s2.thread? t with
      | none => s2
      | some y => stopRun t (s2.setThread t { y with held := h, clock := c, used := 2 * p })
    else
      let s3 := match h with
        | none => s2
        | some w => (takeFrom t (bitsOf w.toNat 16 10) (w.getLsbD 30) s2).2
      match s3.thread? t with
      | none => s3
      | some y => endRun t { y with st := 1, held := none, clock := c1 + 1, used := 2 * p + 2, bover := false } s3

/-- THREAD_RUN_START (R203): a free engine of the domain takes the next dispatched thread. The 8 cycles of R204 for loading
and writing back a context are split freely. -/
def runStart (n e : Nat) (s : State) : State :=
  match (s.tdOf n).opened, s.readyList n with
  | some f, t :: rest =>
    let from_ := max (f.cueOpen + 100) (s.cue.engFree.get (f.cueOpen + 100) e)
    if !s.engUp e || s.serves e != some n || (s.runningOn e).isSome || decide (f.shutter ≤ from_) then s
    else match s.thread? t with
      | none => s
      | some x =>
        let s1 := passTo from_ s
        let (k, s2) := s1.freeNat
        let load := k % 9
        let s3 := { s2 with cue := { s2.cue with ready := s2.cue.ready.set n rest } }
        let s4 := s3.setThread t { x with st := 2, wake := .none, eng := some e, clock := from_ + (load : Nat), back := 8 - load, used := 0 }
        if s.flag F.CUE_THR_CFG_BUILTIN t then runBuiltin t f.shutter s4 else s4
  | _, _ => s

/-! ### The Shutter (R206, R207, R212, R214, R215) -/

/-- Threads that have not ended by S(N), and those due that no engine started, are stopped and counted (R13, R206, R207). -/
def cueStop (n : Nat) (s : State) : State :=
  let running := (s.domThreads n).filter (fun t => s.thrState t == 2)
  let waiting := (s.cue.ready.get [] n ++ s.cue.due.get [] n).filter (fun t => s.thrState t != 7 && s.thrState t != 0)
  let s1 := running.foldl (fun u t => stopRun t u) s
  let s2 := waiting.foldl (fun u t => match u.thread? t with
    | some x => countBover t (u.setThread t { x with st := 1, wake := .none, bover := true, boverNow := true })
    | none => u) s1
  let late := running != [] || waiting != []
  { s2 with cue := { s2.cue with ready := s2.cue.ready.set n [], due := s2.cue.due.set n [],
                                 slackNow := if late then s2.cue.slackNow.set n 0 else s2.cue.slackNow } }

/-- The layer threads of a domain with their layers. -/
def State.layerThreads (s : State) (n : Nat) : List (Nat × Nat) :=
  ((s.domThreads n).filter (fun t => objKind (s.thrOut t) == 2)).map (fun t => (t, objIndex (s.thrOut t)))

/-- A thread's run issued LCOMMIT. -/
def State.didCommit (s : State) (t : Nat) : Bool := match s.thread? t with | some x => x.lcommit | none => false

/-- The commit group of a thread. -/
def State.cgrp (s : State) (t : Nat) : Nat := s.fld F.CUE_THR_CFG2_CGRP t

/-- The layers that commit at this Shutter (R215). -/
def State.layersCommitting (s : State) (n : Nat) : List Nat :=
  let ls := s.layerThreads n
  (ls.filter (fun e => s.didCommit e.1
    && (s.cgrp e.1 == 0 || ls.all (fun f => s.cgrp f.1 != s.cgrp e.1 || s.didCommit f.1)))).map (·.2)

/-- Commit groups in which some but not all threads issued LCOMMIT are held and counted (R215). -/
def countHolds (n : Nat) (s : State) : State :=
  let ls := s.layerThreads n
  let held := (List.range 15).filter (fun k =>
    let g := ls.filter (fun e => s.cgrp e.1 == k + 1)
    g.any (fun e => s.didCommit e.1) && !g.all (fun e => s.didCommit e.1))
  if held.isEmpty then s else (s.bumpN .CUE_CGRP_HOLD_CNT 0 held.length).raise Src.CUE_CGRP_HOLD

/-- The threads of a domain that a DELETE takes at this Shutter. -/
def State.deleting (s : State) (n : Nat) : List Nat :=
  (s.domThreads n).filter (fun t => match s.thread? t with | some x => x.pend == 2 | none => false)

/-- Before the commits, the audio groups of deleted threads are muted (R200). -/
def deleteMutes (n : Nat) (s : State) : State :=
  (s.deleting n).foldl (fun u t => if objKind (u.thrOut t) = 1 then audGroupMuted (objIndex (u.thrOut t)) u else u) s

/-- The routes of deleted threads' VOUTs are removed, their layers disabled (R200). -/
def deleteObjects (n : Nat) (s : State) : State :=
  (s.deleting n).foldl (fun u t =>
    let o := u.thrOut t
    match objKind o with
    | 0 => removeRoutes (objIndex o) u
    | 2 => layerDisabled (objIndex o) u
    | _ => u) s

/-- A deleted thread is FREE; its takes are discarded and counted (R200). -/
def freeThread (s : State) (t : Nat) : State :=
  let o := s.thrOut t
  let mine := objKind o != 7
  let gone := s.cue.tq.filter (fun e => mine && e.obj == o)
  let s1 := s.bumpN .CUE_TQ_NOOWNER_CNT 0 gone.length
  { s1 with owner := if mine then s1.owner.erase o else s1.owner,
            cue := { s1.cue with thr := s1.cue.thr.erase t, tq := s1.cue.tq.filter (fun e => !(mine && e.obj == o)) } }

/-- Masked writes, the last one winning. -/
def maskedWrite (w : Word) (e : Word × Word) : Word := (w &&& ~~~ e.2) ||| (e.1 &&& e.2)

/-- A thread's TALLY, GPO, HALT and STOP take effect at S(N) (R214, R232, R246, R247). -/
def shutThread (s : State) (t : Nat) : State :=
  match s.thread? t with
  | none => s
  | some x =>
    let halted := x.halting || x.pend == 4
    let y := { x with user := x.userNext.getD x.user, userNext := none, gpo := [], halting := false,
                      st := if halted then 5 else x.st, wake := if halted then .none else x.wake, pend := if x.pend = 4 then 0 else x.pend }
    let s1 := s.setThread t y
    let own := s.reg .GPIO_CUE 0
    { s1 with cue := { s1.cue with gpo := x.gpo.foldl (fun w e => maskedWrite w (e.1, e.2 &&& own)) s1.cue.gpo } }

/-- Entries age; those not popped in time are stale (R212). -/
def ageTakes (n : Nat) (s : State) : State :=
  let k := s.fld F.CUE_CFG_TQ_STALE 0
  let mine (e : TqEntry) : Bool := s.ownerTd e.obj == some n && e.seen.isSome
  let stale (e : TqEntry) : Bool := mine e && decide (k ≤ e.seen.getD 0)
  let gone := (s.cue.tq.filter stale).length
  let s1 := { s with cue := { s.cue with tq := (s.cue.tq.filter (fun e => !stale e)).map (fun e =>
    if mine e then { e with seen := some (e.seen.getD 0 + 1) } else e) } }
  if gone = 0 then s1 else (s1.bumpN .CUE_TQ_STALE_CNT 0 gone).raise Src.CUE_TQ_STALE

/-- A lost engine is made up for at the domain's Shutter once one is back in service (R207). -/
def restoreEngine (n : Nat) (s : State) : State :=
  if s.cue.lost.get 0 n = 0 then s
  else match (List.range 18).find? (fun e => s.eligible (18 + e)) with
    | none => s
    | some e =>
      let s1 := setServe e (some n) (s.setUnit (18 + e) 0)
      { s1 with cue := { s1.cue with lost := s1.cue.lost.set n (s1.cue.lost.get 0 n - 1) } }

/-- The frame's least slack joins the last 256 (R222). -/
def noteSlack (n : Nat) (s : State) : State :=
  { s with cue := { s.cue with slack := s.cue.slack.set n ((s.cue.slackNow.find? n :: s.cue.slack.get [] n).take 256) } }

/-- A domain swaps at its first Shutter at or after X (R220). -/
def shutSwap (n : Nat) (s : State) : State :=
  match (s.tdOf n).last with
  | none => s
  | some f =>
    if s.swapPending && !s.cue.swapped.contains n && etReached (unsign 48 f.shutter) s.cue.swapX then domainSwap n s else s

/-- The Cue Engine's last part of the Shutter of domain `n`. -/
def cueShuts (n : Nat) (s : State) : State :=
  let s1 := (s.domThreads n).foldl shutThread s
  let s2 := (s1.deleting n).foldl freeThread s1
  let s3 := shutSwap n (ageTakes n s2)
  overloadCheck (noteSlack n (restoreEngine n (shareSettle (shareFalls n s3))))

/-! ### Register writes and live registers (R222) -/

/-- A write of a CUE register by a master. -/
def writeCue (m : Nat) (r : RegName) (i : Nat) (v : Word) (s : State) : State :=
  match r with
  | .CUE_CFG => guardedWrite (F.CUE_CFG_TQ_STALE.of v == 0) r i v s
  | .CUE_PS_SWAP_HI => writeSwapHi v s
  | .CUE_THR_CMD => threadCommand m v s
  | .CUE_TQ_W3 => writeTqW3 m v s
  | .CUE_SHARE => writeShare i v s
  | .CUE_THR_CFG => writeThrCfg m i v s
  | .CUE_THR_CFG2 => writeThrLocked r i v s
  | .CUE_THR_ENTRY => writeThrLocked r i v s
  | _ => plainWrite r i v s

/-- The least slack of the last 256 frames; 0 while no frame has had a run. -/
def State.slackShown (s : State) (n : Nat) : Nat :=
  match (s.cue.slack.get [] n).filterMap id with
  | [] => 0
  | a :: t => min 65535 (t.foldl min a)

/-- CUE_THR_PC. -/
def ThrCtx.word (c : ThrCtx) : Word :=
  BitVec.ofNat 32 (c.pc % 2 ^ 18 + b2n c.t * 2 ^ 20 + b2n c.c * 2 ^ 21 + b2n c.n * 2 ^ 22 + b2n c.z * 2 ^ 23
    + c.stack.length * 2 ^ 24)

/-- A live CUE register, if it is one. -/
def State.cueLive (s : State) (r : RegName) (i : Nat) : Option Word :=
  let num (n : Nat) : Option Word := some (BitVec.ofNat 32 n)
  let shown (t : Nat) : ThrCtx := match s.thread? t with | some x => x.shown | none => .start 0
  match r with
  | .CUE_STAT =>
    num (s.eAct + ((List.range 18).filter (fun e => s.fld F.CUE_ENG_STAT_STATE e == 1)).length * 2 ^ 5
      + b2n (s.cue.ovl != []) * 2 ^ 8 + s.fld F.CUE_STAT_INIT_DONE 0 * 2 ^ 9)
  | .CUE_TQ_STAT => num (s.cue.tq.length + b2n (s.cue.tq.length == 4096) * 2 ^ 16)
  | .CUE_SHARE => some (F.CUE_SHARE_EFF.put (s.reg r i) (s.cueEff i))
  | .CUE_LOAD => num (s.cueLoad i)
  | .CUE_LOAD_LIM => num (s.cueLimit i)
  | .CUE_DOM_STAT => num ((s.domThreads i).length + s.slackShown i * 2 ^ 16)
  | .CUE_THR_STAT => some (F.CUE_THR_STAT_STATE.put (s.reg r i) (s.thrState i))
  | .CUE_THR_PC => some (shown i).word
  | .CUE_THR_G => some (if i % 16 = 0 then 0 else (shown (i / 16)).g.get 0 (i % 16))
  | _ => none

/-- The live sources of CUE_FLIVE (R222). -/
def State.cueFlive (s : State) : Word :=
  (if s.cue.thr.entries.any (fun e => e.2.st == 6) then Src.CUE_THREAD_FAULT.mask else 0)
    ||| (if s.cue.tq.length = 4096 then Src.CUE_TQ_FULL.mask else 0)
    ||| (if s.cue.ovl != [] then Src.CUE_OVERLOAD.mask else 0)

/-! ### The commands -/

/-- THREAD_DISPATCH (R203). -/
def execThreadDispatch (td : Fin 8) (s : State) : Out := .next (dispatch td s)

/-- THREAD_RUN_START (R203). -/
def execThreadRunStart (td : Fin 8) (e : Fin 18) (s : State) : Out := .next (runStart td e s)

/-- THREAD_CREATE: a write of CUE_THR_CMD with OP 1 (R199). -/
def execThreadCreate (m : Fin 8) (v : Word) (s : State) : Out := .next (byMaster m .CUE_THR_CMD 0 (threadCommand m (withOp v 1)) s)

/-- THREAD_DELETE: OP 2 (R200). -/
def execThreadDelete (m : Fin 8) (v : Word) (s : State) : Out := .next (byMaster m .CUE_THR_CMD 0 (threadCommand m (withOp v 2)) s)

/-- THREAD_RESTART: OP 3 (R200). -/
def execThreadRestart (m : Fin 8) (v : Word) (s : State) : Out := .next (byMaster m .CUE_THR_CMD 0 (threadCommand m (withOp v 3)) s)

/-- THREAD_STOP: OP 4 (R200). -/
def execThreadStop (m : Fin 8) (v : Word) (s : State) : Out := .next (byMaster m .CUE_THR_CMD 0 (threadCommand m (withOp v 4)) s)

/-- THREAD_CMD_BAD: a reserved OP (R199); an OP that is not reserved is taken as 0. -/
def execThreadCmdBad (v : Word) (s : State) : Out :=
  let op := F.CUE_THR_CMD_OP.of v
  .next (threadCommand 0 (if 1 ≤ op ∧ op ≤ 4 then withOp v 0 else v) s)

/-- BUDGET_CHANGE: a write of CUE_THR_CFG to a live thread (R201). -/
def execBudgetChange (m : Fin 8) (t : Fin 4096) (v : Word) (s : State) : Out := .next (byMaster m .CUE_THR_CFG t (writeThrCfg m t v) s)

/-- SHARE_WRITE (R202). -/
def execShareWrite (n : Fin 8) (v : Word) (s : State) : Out := .next (writeShare n v s)

/-- ENGINE_ERR (R208). -/
def execEngineErr (e : Fin 18) (s : State) : Out := .next (engineErrs e s)

/-- TQ_WRITE: a write of CUE_TQ_W3 (R211). -/
def execTqWrite (m : Fin 8) (v : Word) (s : State) : Out := .next (byMaster m .CUE_TQ_W3 0 (writeTqW3 m v) s)

/-- PS_SWAP_ARM: a write of CUE_PS_SWAP_HI (R220). -/
def execPsSwapArm (v : Word) (s : State) : Out := .next (writeSwapHi v s)

/-- PS_SWAP_AT (R220). -/
def execPsSwapAt (n : Fin 8) (s : State) : Out := .next (swapAt n s)

/-- PROGRAM_STORE_WRITE (R219). -/
def execProgramStoreWrite (a : Nat) (data : List Byte) (s : State) : Out := .next (cueMemWrite a data s)

/-- CUE_INIT_DONE (R219). -/
def execCueInitDone (s : State) : Out := .next (cueInit s)

end Sys2Proof.Machine
end

