-- ==== Sys2Proof/Machine/Vault.lean ====
section
/-!
DEFINITION. The Vault and BIST (chapter 20): unit states, migrations (R443 to R447), rotation and retirement (R448 to
R450), the Wear Ledger (R451, R452) and the runs (R454 to R458).
-/

namespace Sys2Proof.Machine

/-! ### Unit states -/

/-- The migration key of a unit: its type, plane B of type 0 as 7 (R446). -/
def rotKey (e : Nat) : Nat := if unitType e = 0 ∧ 9 ≤ e then 7 else unitType e

/-- The timing domains that run. -/
def State.runningTds (s : State) : List Nat := (List.range 8).filter s.tdEn

/-- The slices of a plane that carry its load. -/
def State.carriers (s : State) (p : Nat) : List Nat :=
  (planeSlices p).filter (fun k => s.sliceState k == 0 || s.sliceState k == 2)

/-- Positions 0 and up are held, one slice each. -/
def State.striped (s : State) (c : List Nat) : Bool :=
  (List.range c.length).all (fun j => c.any (fun k => s.fld F.XPT_SLICE_STAT_POS k == j))

/-- A plane that runs with fewer than 8 slices takes slices that are ready, and restripes (R167, R191, R458). -/
def settlePlane (p : Nat) (s : State) : State :=
  let ready := (planeSlices p).filter (fun k => s.sliceReady k && !s.vault.migr.entries.any (fun m => m.2.spare == k))
  let s1 := (ready.take (8 - (s.carriers p).length)).foldl (fun t k => t.setFld F.XPT_SLICE_STAT_STATE k 0) s
  let c := s1.carriers p
  if s1.striped c then s1 else c.zipIdx.foldl (fun t x => t.setFld F.XPT_SLICE_STAT_POS x.1 (min 7 x.2)) s1

/-- A unit's state code changes, with what follows from it: for a slice its plane's stripes and capacity (R16, R191), for a
pipe unit the permission to capture (R314). -/
def setUnitR (e st : Nat) (s : State) : State :=
  match unitType e with
  | 0 => recap (fun t => settlePlane (e / 9) (t.setUnit e st)) s
  | 2 => wallReserve (s.setUnit e st)
  | 6 =>
    let q := (e - 198) / 3
    let t := (s.setUnit e st).setQuad q ((s.quadOf q).setPhase ((e - 198) % 3) .stopped)
    if (e - 198) % 3 = 2 ∧ st = 5 then t.setFld F.LANE_QUAD_STAT_SPARE q 3 else t
  | _ => s.setUnit e st

/-- A unit that runs BIST: its state shows it, but for a unit retired or UNUSABLE, which keeps its state. -/
def State.bistState (s : State) (e : Nat) : Nat := if s.unitState e = 4 ∨ s.unitState e = 5 then s.unitState e else 3

/-! ### Roles -/

/-- The domain at whose Shutter a migration of the unit steps (R441). -/
def State.unitTd (s : State) (e : Nat) : Option Nat :=
  match unitType e with
  | 1 => s.serves (e - 18)
  | 2 => (s.pipeUser (s.fld F.WCOMP_UNIT_SERVES (e - 36))).bind s.userTd
  | 3 =>
    let c := s.fld F.AUD_ASRC_UNIT_SERVES (e - 53)
    if s.flag F.AUD_ASRC_CFG_EN c then some (s.fld F.AUD_ASRC_CFG_TD c) else none
  | _ => none

/-- The transmitters of a quad's PLL unit `k` move to unit `u` at one word boundary (R90). -/
def movePll (q k u : Nat) (s : State) : State :=
  let place := if k = 2 then s.fld F.LANE_QUAD_STAT_SPARE q - 1 else k
  let s1 := (s.pllLanes q k).foldl (fun t n => t.setFld F.LANE_STAT_TX_PLL n u) s
  let x := s1.quadOf q
  (s1.setQuad q ((x.setPhase u (x.phase k)).setPhase k .stopped)).setFld F.LANE_QUAD_STAT_SPARE q
    (if u = 2 then place + 1 else 0)

/-- The role of unit `e` passes to unit `u` (R443, R208, R295, R276, R344, R444, R90). -/
def passRole (e u : Nat) (s : State) : State :=
  match unitType e with
  | 0 => s.setFld F.XPT_SLICE_STAT_STATE u 0
  | 1 =>
    let t := setServe (e - 18) none (s.setUnit u 0)
    match s.serves (e - 18) with
    | some n => setServe (u - 18) (some n) t
    | none => t
  | 2 => givePipe (s.fld F.WCOMP_UNIT_SERVES (e - 36)) (u - 36) s
  | 3 => giveAsrc (s.fld F.AUD_ASRC_UNIT_SERVES (e - 53)) (u - 53) s
  | 4 =>
    let t := (s.setUnit u 0).setFld F.CPU_CORE_STAT_HART (u - 125) (s.hartOf (e - 125))
    (t.bump .CPU_HANDOVER_CNT 0).raise Src.CPU_HANDOVER
  | 6 => movePll ((e - 198) / 3) ((e - 198) % 3) ((u - 198) % 3) (s.setUnit u 0)
  | 5 => (s.setUnit u 0).raise Src.HBM_PC_SPARED
  | _ => s.setUnit u 0

/-- The run of the thread on an engine that is withdrawn ends at its last instruction (R208). -/
def dropRun (e : Nat) (s : State) : State :=
  match s.runningOn e with
  | none => s
  | some t => match s.thread? t with
    | some x => endRun t { x with st := 1 } s
    | none => s

/-- A unit is withdrawn at once with no spare: its block goes on without it (R25, R207, R276, R295, R345). -/
def withdraw (e : Nat) (s : State) : State :=
  match unitType e with
  | 1 => replaceEngine (e - 18) (dropRun (e - 18) s)
  | 2 => replacePipe (e - 36) s
  | 3 => replaceAsrc (e - 53) s
  | 4 => stopCore (e - 125) s
  | 6 =>
    let q := (e - 198) / 3
    let k := (e - 198) % 3
    let place := if k = 2 then s.fld F.LANE_QUAD_STAT_SPARE q - 1 else k
    (s.setQuad q ((s.quadOf q).setPhase k .stopped)).setFld (if place = 0 then F.LANE_QUAD_STAT_FAM0 else F.LANE_QUAD_STAT_FAM1) q 0
  | _ => s

/-! ### Retirement (R450) -/

/-- A unit is retired: state 4, counted, and to be recorded in OTP. -/
def markRetired (e : Nat) (s : State) : State :=
  let s1 := { s with vault := { s.vault with queue := s.vault.queue.filter (fun q => q.target != e),
                                             running := s.vault.running.filter (· != e),
                                             recPend := e :: s.vault.recPend.filter (· != e) } }
  ((setUnitR e 4 s1).bump .VAULT_RETIRE_CNT 0).raise Src.VAULT_RETIRED

/-- A unit waits to be retired. -/
def waitRetire (e : Nat) (s : State) : State :=
  if s.vault.retireWait.contains e then s else { s with vault := { s.vault with retireWait := s.vault.retireWait ++ [e] } }

/-- A migration of the unit's type (or plane) is in progress. -/
def State.migrating (s : State) (e : Nat) : Bool := (s.vault.migr.find? (rotKey e)).isSome

/-- A migration is given up: the spare stays in the Vault and the leaving unit in service (R408). -/
def dropMigration (key : Nat) (s : State) : State :=
  match s.vault.migr.find? key with
  | none => s
  | some m =>
    let t := { s with vault := { s.vault with migr := s.vault.migr.erase key } }
    if t.unitState m.leaving = 2 then t.setUnit m.leaving 0 else t

/-- A migration ends: the spare is active, the leaving unit under BIST or retired (R443 step 5, R447, R450). A unit that its
block has withdrawn meanwhile has given its place up already. -/
def endMigration (key : Nat) (s : State) : State :=
  match s.vault.migr.find? key with
  | none => s
  | some m =>
    let drained := s.unitState m.leaving == 2
    let s1 := { s with vault := { s.vault with migr := s.vault.migr.erase key } }
    let s2 := if drained then passRole m.leaving m.spare s1 else s1
    let s3 := if m.retire then markRetired m.leaving s2
      else if drained then
        let t := setUnitR m.leaving 3 s2
        { t with vault := { t.vault with running := m.leaving :: t.vault.running } }
      else s2
    (s3.bump .VAULT_ROT_CNT 0).raise Src.VAULT_MIGRATED

/-- A migration has passed its last step (R443 to R444): for a slice the close of every running domain's Overlap Window
after its Shutter; for an engine, a pipe unit and a converter unit the Shutter of its domain; for a transmit PLL at once.
Those of a core and of a pseudo-channel end by HANDOVER and PC_COPY_DONE. -/
def State.migrationOver (s : State) (m : Migration) : Bool :=
  match unitType m.leaving with
  | 0 => s.runningTds.all m.closed.contains
  | 6 => true
  | 4 => false
  | 5 => false
  | _ => match s.unitTd m.leaving with
    | none => true
    | some n => !s.tdEn n || m.shut.contains n

/-- The migration keys, in the order of the types. -/
def migrKeys : List Nat := [0, 7, 1, 2, 3, 4, 5, 6]

/-- Migrations that are over end. -/
def endMigrations (s : State) : State :=
  migrKeys.foldl (fun t k => match t.vault.migr.find? k with
    | some m => if t.migrationOver m then endMigration k t else t
    | none => t) s

/-- A migration starts (R443 step 1): the spare wakes, the unit drains. DESIGN CHOICE: the spare's clock runs 50 µs later. -/
def startMigration (e u : Nat) (retire : Bool) (s : State) : State :=
  let s1 := s.setUnit e 2
  let s2 := if unitType e = 0 then s1.setFld F.XPT_SLICE_STAT_POS u (s.fld F.XPT_SLICE_STAT_POS e) else s1
  endMigrations { s2 with vault := { s2.vault with
    migr := s2.vault.migr.set (rotKey e) ⟨e, u, retire, s.now + 50000, [], []⟩
    lastRot := if retire then s2.vault.lastRot else s2.vault.lastRot.set (rotKey e) s.now } }

/-- A unit is to be retired (R450): an active one is migrated to a spare, or withdrawn where there is none; a
pseudo-channel without a spare waits, and so does a unit while a migration of its type is in progress. -/
def retireUnit (e : Nat) (s : State) : State :=
  match s.unitState e with
  | 4 => s
  | 2 => { s with vault := { s.vault with migr := s.vault.migr.map (fun _ m =>
      if m.leaving = e then { m with retire := true } else m) } }
  | 0 =>
    if s.migrating e then waitRetire e s
    else match s.spareFor e with
      | some u => startMigration e u true s
      | none =>
        let t := s.raise Src.VAULT_NO_SPARE
        if unitType e = 5 then waitRetire e t else markRetired e (withdraw e t)
  | _ => if s.vault.migr.entries.any (fun m => m.2.spare == e) then waitRetire e s else markRetired e s

/-- Retirements that waited act once they can. -/
def retryRetire (s : State) : State :=
  s.vault.retireWait.foldl (fun t e =>
    if t.migrating e || (unitType e == 5 && t.unitState e == 0 && (t.spareFor e).isNone) then t
    else retireUnit e { t with vault := { t.vault with retireWait := t.vault.retireWait.filter (· != e) } }) s

/-- The Vault goes on as far as it can: migrations that are over end, and retirements that waited act. -/
def vaultSettle (s : State) : State := retryRetire (endMigrations s)

/-- The Vault's part of a Shutter (R443 step 3, R441), after the commit (R447). -/
def vaultShutter (n : Nat) (s : State) : State :=
  vaultSettle { s with vault := { s.vault with migr := s.vault.migr.map (fun _ m =>
    if m.ready ≤ s.now ∧ !m.shut.contains n then { m with shut := n :: m.shut } else m) } }

/-- The Vault's part of the close of an Overlap Window (R443 step 4). -/
def vaultOverlapClose (n : Nat) (s : State) : State :=
  vaultSettle { s with vault := { s.vault with migr := s.vault.migr.map (fun _ m =>
    if m.shut.contains n ∧ !m.closed.contains n then { m with closed := n :: m.closed } else m) } }

/-! ### VAULT_CMD (R449, R450, R460) -/

/-- The units of a type, of plane A or B for slices. -/
def unitsOf (type : Nat) (planeB : Bool) : List Nat :=
  (List.range 294).filter (fun e => unitType e == type && (type != 0 || decide (9 ≤ e) == planeB))

/-- Of two units the one with more hours since its last PASS, the lower index on a tie. -/
def State.elder (s : State) (best : Option Nat) (e : Nat) : Option Nat :=
  match best with
  | none => some e
  | some b => if s.fld F.VAULT_LG_BIST_SINCE_H b < s.fld F.VAULT_LG_BIST_SINCE_H e then some e else some b

/-- The unit that a rotation takes: the one named, or the active one with the greatest SINCE_H (R449). -/
def State.rotUnit (s : State) (type : Nat) (planeB : Bool) (unit : Nat) : Option Nat :=
  if unit = 0x3FF then ((unitsOf type planeB).filter (fun e => s.unitState e == 0)).foldl s.elder none
  else if (unitsOf type planeB).contains unit then some unit else none

/-- Slices of `e`'s plane: with U(p) = 8, rotation stops (R16, R449). -/
def State.planeBare (s : State) (e : Nat) : Bool := unitType e == 0 && decide (s.usable (e / 9) ≤ 8)

/-- RESULT of a ROTATE (R449): 1 BUSY, 2 NO_SPARE, 3 STATE. -/
def State.rotateResult (s : State) (e : Nat) : Nat :=
  if s.migrating e || s.vault.queue.any (fun q => q.rotate && rotKey q.target == rotKey e) then 1
  else if (s.spareFor e).isNone || s.planeBare e then 2
  else if s.unitState e != 0 then 3
  else 0

/-- ROTATE. -/
def rotateCmd (type : Nat) (planeB : Bool) (unit : Nat) (s : State) : State :=
  if 6 < type then s.setFld F.VAULT_CMD_STAT_RESULT 0 4
  else match s.rotUnit type planeB unit with
    | none => s.setFld F.VAULT_CMD_STAT_RESULT 0 (if unit = 0x3FF then 3 else 4)
    | some e =>
      let r := s.rotateResult e
      let t := s.setFld F.VAULT_CMD_STAT_RESULT 0 r
      if r = 0 then
        let due := s.fld F.VAULT_ROT_DUE type
        requestRun e true (t.setFld F.VAULT_ROT_DUE type (putBits due (b2n (type == 0 && planeB)) 1 0))
      else t.raiseIf (r == 2) Src.VAULT_NO_SPARE

/-- RETIRE. -/
def retireCmd (unit : Nat) (s : State) : State :=
  if 294 ≤ unit then s.setFld F.VAULT_CMD_STAT_RESULT 0 4
  else if s.unitState unit = 4 then s.setFld F.VAULT_CMD_STAT_RESULT 0 3
  else retireUnit unit (s.setFld F.VAULT_CMD_STAT_RESULT 0 0)

/-- A write of VAULT_CMD by a master (R460). -/
def vaultCmd (m : Nat) (v : Word) (s : State) : State :=
  if 5 < m then s.reject .VAULT
  else match F.VAULT_CMD_OP.of v with
    | 1 => rotateCmd (F.VAULT_CMD_TYPE.of v) (F.VAULT_CMD_PLANE.of v != 0) (F.VAULT_CMD_UNIT.of v) s
    | 2 => retireCmd (F.VAULT_CMD_UNIT.of v) s
    | _ => s.reject .VAULT

/-- A write of VAULT_REC (R450): the supervisor programs a unit's bit of the OTP retire map. -/
def writeRec (m : Nat) (v : Word) (s : State) : State :=
  let e := F.VAULT_REC_UNIT.of v
  if m ≠ 5 then s.reject .VAULT
  else if 294 ≤ e then s
  else { s with otp := { s.otp with retired := e :: s.otp.retired.filter (· != e) },
                vault := { s.vault with recPend := s.vault.recPend.filter (· != e) } }

/-- A type's rotation is due (R448): at a multiple of PERIOD minutes since its last rotation. -/
def rotationDue (type : Nat) (planeB : Bool) (s : State) : State :=
  let p := s.fld F.VAULT_ROT_PERIOD type * 60000000000
  let b := type == 0 && planeB
  if p = 0 then s
  else
    let last := s.vault.lastRot.get 0 (if b then 7 else type)
    let t := passToNow (last + ((s.now - last) / p + 1) * p) s
    t.setFld F.VAULT_ROT_DUE type (putBits (t.fld F.VAULT_ROT_DUE type) (b2n b) 1 1)

/-! ### The Wear Ledger (R451, R452) -/

/-- An entry is at or beyond a threshold of its type. A threshold of 0 is not checked; a margin of 0 runs has none. -/
def State.worn (s : State) (e : Nat) : Bool :=
  let t := unitType e
  let h := s.fld F.VAULT_THR_HOURS_HOURS_MAX t
  let c := s.fld F.VAULT_THR_ECC_ECC_MAX t
  let v := s.fld F.VAULT_THR_VMIN_VMIN_MIN t
  decide (t < 7) && ((h != 0 && decide (h ≤ s.fld F.VAULT_LG_HRS_HOURS e)) || (c != 0 && decide (c ≤ s.fld F.VAULT_LG_ECC_COUNT e))
    || (v != 0 && decide (s.fld F.VAULT_LG_VMIN_MIN e < v)))

/-- A ledger update, with the comparison that follows it (R452). -/
def ledgerUpdate (e : Nat) (f : State → State) (s : State) : State :=
  let t := f s
  if t.worn e && !s.worn e then (t.setFlag F.VAULT_LG_HRS_WEAR e true).raise Src.VAULT_WEAR_LIMIT else t

/-- Corrected errors attributed to a unit (R451); PLLs and lanes count none. -/
def addEcc (e n : Nat) (s : State) : State :=
  if unitType e < 6 then s.setFld F.VAULT_LG_ECC_COUNT e (min (2 ^ 32 - 1) (s.fld F.VAULT_LG_ECC_COUNT e + n)) else s

/-- An hour of service of a unit ends, in which the ledger was given `ecc` corrected errors (R451). -/
def ledgerHour (e ecc : Nat) (s : State) : State :=
  ledgerUpdate e (fun t =>
    if t.unitState e = 0 then
      let u := addEcc e ecc (t.setFld F.VAULT_LG_HRS_HOURS e (min (2 ^ 20 - 1) (t.fld F.VAULT_LG_HRS_HOURS e + 1)))
      u.setFld F.VAULT_LG_BIST_SINCE_H e (min 65535 (u.fld F.VAULT_LG_BIST_SINCE_H e + 1))
    else t) s

/-! ### BIST requests (R454, R455) -/

/-- A store outside the Vault that BIST tests (R455). -/
def blockTarget (t : Nat) : Bool := decide (0x200 ≤ t) && decide (t ≤ 0x204)

/-- The block of a block target has something enabled. -/
def State.blockInUse (s : State) (t : Nat) : Bool :=
  match t with
  | 0x200 => (List.range 128).any (fun p => s.flag F.MPORT_CFG_EN p)
  | 0x201 => s.cue.thr.entries != []
  | 0x202 => s.cue.thr.entries != [] || s.flag F.TTB_CFG_EN 0
  | 0x203 => s.audioOn
  | _ => s.flag F.WCOMP_CFG_EN 0 || s.flag F.WSCAN_CFG_EN 0

/-- A block's store is cleared (R455). -/
def clearBlock (t : Nat) (s : State) : State :=
  match t with
  | 0x200 => { s with flow := .reset }
  | 0x201 => { s with mem := s.mem.clearRange (bankBase 0) (stateRam + 0x100000) }
  | 0x202 => { s with cue := { s.cue with tq := [] }, ttb := { s.ttb with front := .empty, back := .empty } }
  | 0x203 => clearTables { s with aud := { s.aud with slot := .empty, run := .empty, group := .empty, out := .empty } }
  | _ => { s with wcomp := { s.wcomp with cur := none, last := none } }

/-- RESULT of a RUN request (R454 to R456): 1 STATE, 2 IN_USE, 3 BAD, 4 ALREADY. -/
def State.runResult (s : State) (t : Nat) : Nat :=
  if !(decide (t < 294) || blockTarget t) then 3
  else if s.lc = 4 then 1
  else if s.underTest t then 4
  else if 294 ≤ t then (if !s.lcOpen then 1 else if s.blockInUse t then 2 else 0)
  else match s.unitState t with
    | 1 => 0
    | 2 => 4
    | 3 => 4
    | 0 => if s.lcOpen && !s.migrating t && (s.spareFor t).isSome then 0 else 1
    | _ => if s.lcOpen then 0 else 1

/-- RUN: an active unit is first migrated to a spare. -/
def runCmd (t : Nat) (s : State) : State :=
  let r := s.runResult t
  let u := (s.setFld F.BIST_CMD_STAT_RESULT 0 r).raiseIf (r == 1 || r == 2) Src.BIST_REFUSED
  if r = 0 then requestRun t (decide (t < 294) && s.unitState t == 0) u else u

/-! ### Runs (R456, R457) -/

/-- CYCLES_EXPECTED of a target (R455, R456). -/
def cyclesExpected (t : Nat) : Nat :=
  if t < 294 then
    match unitType t with
    | 0 => 22500000
    | 1 => 10000000
    | 2 => 150000000
    | 3 => 2500000
    | 4 => 1000000000
    | 5 => 4000000000
    | _ => 25000000
  else
    match t with
    | 0x200 => 10000000
    | 0x201 => 5000000
    | 0x202 => 1000000
    | 0x203 => 2500000
    | _ => 2000000

/-- The head of the queue starts, once P + B(u) fits (R396, R449). A rotation whose unit can no longer leave is dropped. -/
def bistStarts (s : State) : State :=
  match s.vault.queue with
  | [] => s
  | q :: rest =>
    if !s.runFits q.target then
      if q.held then s
      else
        let t := { s with vault := { s.vault with queue := { q with held := true } :: rest } }
        (t.bump .PWR_CAP_HOLD_CNT 0).raise Src.PWR_CAP_HOLD
    else if s.flag F.PWR_THERM_STAT_TRIPPED 0 then s
    else
      let e := q.target
      let t := { s with vault := { s.vault with queue := rest } }
      if q.rotate then
        match t.spareFor e with
        | some u => if t.unitState e = 0 ∧ !t.migrating e then vaultSettle (startMigration e u false t) else t
        | none => t
      else if e < 294 then
        let u := setUnitR e (t.bistState e) t
        { u with vault := { u.vault with running := e :: u.vault.running } }
      else { t with vault := { t.vault with running := e :: t.vault.running } }

/-- The verdict of R457 as its code: 1 PASS, 2 FAIL, 3 INCOMPLETE. -/
def bistVerdict (t done : Nat) (ok : Bool) : Nat :=
  if done < cyclesExpected t then 3 else if done = cyclesExpected t ∧ ok then 1 else 2

/-- The BIST_LAST registers and the counters of a run that ends (R457, R461). -/
def recordRun (t verdict cause done : Nat) (sig expected : Word) (s : State) : State :=
  let x := cyclesExpected t
  let s1 := s.setFlds 0 [(F.BIST_LAST_TARGET, t), (F.BIST_LAST_VERDICT, verdict), (F.BIST_LAST_CAUSE, cause),
    (F.BIST_LAST_DONE_LO_CYCLES_DONE, done), (F.BIST_LAST_DONE_HI_CYCLES_DONE, done / 2 ^ 32),
    (F.BIST_LAST_EXP_LO_CYCLES_EXPECTED, x), (F.BIST_LAST_EXP_HI_CYCLES_EXPECTED, x / 2 ^ 32)]
  let s2 := (s1.setReg .BIST_LAST_SIG 0 sig).setReg .BIST_LAST_SIG_EXP 0 expected
  match verdict with
  | 1 => s2.bump .BIST_PASS_CNT 0
  | 2 => (s2.bump .BIST_FAIL_CNT 0).raise Src.BIST_FAIL
  | _ => (s2.bump .BIST_INC_CNT 0).raise Src.BIST_INCOMPLETE

/-- A run's entry in the ledger: the verdict, the count of runs, SINCE_H, the margin where it was measured (R451). -/
def ledgerRun (e verdict : Nat) (margin : Option Nat) (s : State) : State :=
  ledgerUpdate e (fun t =>
    let u := t.setFlds e [(F.VAULT_LG_BIST_VERDICT, verdict), (F.VAULT_LG_BIST_RUNS, min 4095 (t.fld F.VAULT_LG_BIST_RUNS e + 1))]
    let w := if verdict = 1 then u.setFld F.VAULT_LG_BIST_SINCE_H e 0 else u
    match margin with
    | some m => w.setFlds e [(F.VAULT_LG_VMIN_MARGIN, m), (F.VAULT_LG_VMIN_MIN, min m (w.fld F.VAULT_LG_VMIN_MIN e))]
    | none => w) s

/-- A unit that has passed is given out where its block runs without one (R447): pipes, converters, stopped harts, lost
PLLs; engines follow at their domain's Shutter (R207). -/
def giveOut (e : Nat) (s : State) : State :=
  if !s.eligible e then s
  else match unitType e with
    | 2 => match (List.range 16).find? (fun q => s.flag F.WCOMP_PIPE_STAT_NO_UNIT q) with
      | some q => wallReserve (givePipe q (e - 36) s)
      | none => s
    | 3 => match s.aud.bare.min? with
      | some c => giveAsrc c (e - 53) s
      | none => s
    | 4 => match (List.range 4).find? (fun h => (s.coreOf h).isNone) with
      | some h =>
        let t := (s.setUnit e 0).setFld F.CPU_CORE_STAT_HART (e - 125) h
        if s.fld F.CPU_STAT_HARTS_UP 0 = 0 then t else setHart h true t
      | none => s
    | 6 =>
      let q := (e - 198) / 3
      let x := s.quadOf q
      if (x.pll0 = .lost ∨ x.pll1 = .lost) ∧ s.sparePllReady q then s.setQuad q { x with spare := .starting } else s
    | _ => s

/-- What becomes of a unit whose run ends (R457); a retired or UNUSABLE one keeps its state (R442). -/
def unitAfter (e verdict : Nat) (s : State) : State :=
  let t := if s.unitState e = 3 then setUnitR e (if verdict = 2 then 5 else 1) s else s
  match verdict with
  | 1 => retryRetire (giveOut e t)
  | 2 => t.raise Src.VAULT_UNUSABLE
  | _ => if t.unitState e = 1 then requestRun e false t else t

/-- A run ends (R457). -/
def endRunOf (t verdict cause done : Nat) (sig expected : Word) (margin : Option Nat) (s : State) : State :=
  let s1 := { s with vault := { s.vault with running := s.vault.running.filter (· != t) } }
  let s2 := recordRun t verdict cause done sig expected s1
  if t < 294 then unitAfter t verdict (ledgerRun t verdict margin s2) else clearBlock t s2

/-- A run ends by itself. -/
def bistEnds (t done : Nat) (sig expected : Word) (margin : Nat) (s : State) : State :=
  if s.vault.running.contains t then
    let v := bistVerdict t done (sig == expected)
    endRunOf t v 0 done sig expected (if v = 3 then none else some margin) s
  else s

/-- A run is cut short (R457): CAUSE 1 STOP, 2 a trip, 3 the power switch. How far it came is free. -/
def cutRun (t cause : Nat) (s : State) : State :=
  if s.vault.running.contains t then
    let (d, s1) := s.freeNat
    let (x, s2) := s1.freeNat
    let (y, s3) := s2.freeNat
    endRunOf t 3 cause (d % cyclesExpected t) (BitVec.ofNat 32 x) (BitVec.ofNat 32 y) none s3
  else s

/-- Every run in progress is cut short. -/
def cutRuns (cause : Nat) (s : State) : State := s.vault.running.foldl (fun t e => cutRun e cause t) s

/-- A write of BIST_CMD (R461). -/
def bistCmd (v : Word) (s : State) : State :=
  let t := F.BIST_CMD_TARGET.of v
  match F.BIST_CMD_OP.of v with
  | 1 => runCmd t s
  | 2 => if decide (t < 294) || blockTarget t then cutRun t 1 (s.setFld F.BIST_CMD_STAT_RESULT 0 0)
    else s.setFld F.BIST_CMD_STAT_RESULT 0 3
  | _ => s.reject .BIST

/-! ### Register writes and live registers -/

/-- A write of a VAULT register by a master. -/
def writeVault (m : Nat) (r : RegName) (i : Nat) (v : Word) (s : State) : State :=
  match r with
  | .VAULT_CMD => vaultCmd m v s
  | .VAULT_REC => writeRec m v s
  | .VAULT_CFG => guardedWrite (F.VAULT_CFG_SAVE_MIN.of v == 0) r i v s
  | _ => plainWrite r i v s

/-- A write of a BIST register. -/
def writeBist (r : RegName) (i : Nat) (v : Word) (s : State) : State :=
  match r with
  | .BIST_CMD => bistCmd v s
  | _ => plainWrite r i v s

/-- A migration of a type is in progress (VAULT_STAT.MIGR). -/
def State.migrMask (s : State) : Nat :=
  (List.range 7).foldl (fun a t =>
    if (s.vault.migr.find? t).isSome || (t == 0 && (s.vault.migr.find? 7).isSome) then a + 2 ^ t else a) 0

/-- The state code of a unit as VAULT_LG_HRS shows it. -/
def State.lgHrs (s : State) (e : Nat) : Word :=
  if e < 294 then F.VAULT_LG_HRS_STATE.put (s.reg .VAULT_LG_HRS e) (s.unitState e) else s.reg .VAULT_LG_HRS e

/-- The live registers of VAULT. -/
def State.vaultLive (s : State) (r : RegName) (i : Nat) : Option Word :=
  match r with
  | .VAULT_STAT => some (BitVec.ofNat 32 (s.migrMask + b2n (s.vault.recPend != []) * 2 ^ 8))
  | .VAULT_HBM_ROWS => some (BitVec.ofNat 32 (s.otp.rows.1 % 2 ^ 16 + s.otp.rows.2 % 2 ^ 16 * 2 ^ 16))
  | .VAULT_LG_HRS => some (s.lgHrs i)
  | .VAULT_RETIRED => some (BitVec.ofNat 32 ((List.range 32).foldl (fun a k => if s.otp.retired.contains (32 * i + k) then a + 2 ^ k else a) 0))
  | _ => none

/-- The groups that share spares have one unit each here: both planes, types 1 to 4, both stacks, every quad. -/
def spareGroups : List Nat := [0, 9, 18, 36, 53, 125, 130, 164] ++ (List.range 32).map (fun q => 198 + 3 * q)

/-- The live sources of VAULT_FLIVE. -/
def State.vaultFlive (s : State) : Word :=
  (if s.vault.migr.entries != [] then Src.VAULT_MIGRATED.mask else 0)
    ||| (if spareGroups.any (fun g => !(unitGroup g).any s.eligible) then Src.VAULT_NO_SPARE.mask else 0)
    ||| (if (List.range 294).any (fun e => s.unitState e == 0 && s.flag F.VAULT_LG_HRS_WEAR e) then Src.VAULT_WEAR_LIMIT.mask else 0)
    ||| (if s.vault.recPend != [] then Src.VAULT_RETIRED.mask else 0)
    ||| (if s.otp.rows.1 = 0 ∨ s.otp.rows.2 = 0 then Src.VAULT_ROW_EXHAUST.mask else 0)

/-- The live sources of BIST_FLIVE. -/
def State.bistFlive (s : State) : Word :=
  (if (List.range 294).any (fun e => s.fld F.VAULT_LG_BIST_VERDICT e == 3 && s.underTest e) then Src.BIST_INCOMPLETE.mask else 0)
    ||| (if (List.range 18).any (fun e => s.unitState e == 5) then Src.BIST_STARTUP_FAIL.mask else 0)

/-! ### The commands -/

/-- PLL_SWAP (R91): the failed PLL is withdrawn from service, and parked (R456). -/
def execPllSwap (q : Fin 32) (s : State) : Out :=
  let t := pllSwaps q s
  let k := t.fld F.LANE_QUAD_STAT_SPARE q
  .next (if (s.quadOf q).spare = .starting ∧ (k = 1 ∨ k = 2) then parkUnit (198 + 3 * q + (k - 1)) t else t)

/-- VAULT_ROTATE: VAULT_CMD with OP 1 (R449). -/
def execVaultRotate (m : Fin 8) (v : Word) (s : State) : Out := .next (byMaster m .VAULT_CMD 0 (vaultCmd m (F.VAULT_CMD_OP.put v 1)) s)

/-- VAULT_RETIRE: VAULT_CMD with OP 2 (R450). -/
def execVaultRetire (m : Fin 8) (v : Word) (s : State) : Out := .next (byMaster m .VAULT_CMD 0 (vaultCmd m (F.VAULT_CMD_OP.put v 2)) s)

/-- VAULT_BAD_CMD: a reserved OP (R460); an OP that is not reserved is taken as 0. -/
def execVaultBadCmd (m : Fin 8) (v : Word) (s : State) : Out :=
  .next (byMaster m .VAULT_CMD 0 (vaultCmd m (if F.VAULT_CMD_OP.of v = 3 then v else F.VAULT_CMD_OP.put v 0)) s)

/-- PC_COPY_DONE (R444). -/
def execPcCopyDone (s : State) : Out := .next (retryRetire (endMigration 5 s))

/-- ROTATION_DUE (R448). -/
def execRotationDue (t : Fin 7) (planeB : Bool) (s : State) : Out := .next (rotationDue t planeB s)

/-- LEDGER_HOUR (R451). -/
def execLedgerHour (e : Fin 422) (ecc : Nat) (s : State) : Out := .next (ledgerHour e ecc s)

/-- RETIRE_RECORD: a write of VAULT_REC (R450). -/
def execRetireRecord (m : Fin 8) (v : Word) (s : State) : Out := .next (byMaster m .VAULT_REC 0 (writeRec m v) s)

/-- BIST_START (R396). -/
def execBistStart (s : State) : Out := .next (bistStarts s)

/-- BIST_RUN: BIST_CMD with OP 1 (R456). -/
def execBistRun (v : Word) (s : State) : Out := .next (bistCmd (F.BIST_CMD_OP.put v 1) s)

/-- BIST_STOP: BIST_CMD with OP 2 (R457). -/
def execBistStop (v : Word) (s : State) : Out := .next (bistCmd (F.BIST_CMD_OP.put v 2) s)

/-- BIST_END (R457). -/
def execBistEnd (target done : Nat) (sig expected : Word) (margin : BitVec 10) (s : State) : Out :=
  .next (bistEnds target done sig expected margin.toNat s)

/-- POWER_SWITCH_FAULT (R457). -/
def execPowerSwitchFault (e : Fin 294) (s : State) : Out := .next (cutRun e 3 s)

end Sys2Proof.Machine
end

