-- ==== Sys2Proof/Machine/Rst.lean ====
section
/-!
DEFINITION. Reset and start-up (chapter 18): the four levels and what each clears (R403, R517), sources, stretch and release
(R404 to R413), the judgement of starts and Darkroom mode (R414 to R416), the watchdog (R417), life-cycle states (R418 to
R420).
-/

namespace Sys2Proof.Machine

/-! ### Reset cause (R404, R410) -/

/-- A source is recorded in RST_CAUSE. -/
def recordCause (bit_ : Nat) (s : State) : State :=
  s.setReg .RST_CAUSE 0 (s.reg .RST_CAUSE 0 ||| 1#32 <<< bit_)

/-- A confined reset of core `c` is recorded. -/
def recordCore (c : Nat) (s : State) : State := s.setReg .RST_CAUSE 0 (s.reg .RST_CAUSE 0 ||| 1#32 <<< (16 + c))

/-! ### What a reset clears (R403, R517) -/

/-- The bits of a register that a system reset keeps: those of reach P, and those that show what it spares: the always-on
domain, the OTP state, the life-cycle state. -/
def sysKeep (r : RegName) : Word :=
  r.bitsWhere (fun f => decide (f.reach = .p)) ||| match r with
    | .CLK_STAT => 0xFFFFFFFF#32
    | .CLK_XTAL_PPM => 0xFFFFFFFF#32
    | .RST_STAT => 0xFFFFFFFF#32
    | .CAL_STAT => 0xFFFFFFFF#32
    | .PWR_TJ => 0xFFFFFFFF#32
    | .PWR_TEMP => 0xFFFFFFFF#32
    | .PWR_THERM_STAT => 0x4#32
    | .IDM_STRAP => 0x7F00#32
    | .REF_SEL_STAT => 0x7#32
    | _ => 0#32

/-- The bits that a core reset keeps: those not of reach C. -/
def coreKeep (r : RegName) : Word := ~~~ r.bitsWhere (fun f => decide (f.reach = .c))

/-- The register file with the bits outside a mask at their reset values. -/
def clearRegs (keep : RegName → Word) (m : AMap Word) : AMap Word :=
  m.map (fun k w => match RegName.ofCode (k % 1024) with
    | some r => (w &&& keep r) ||| (r.resetWord (k / 1024) &&& ~~~ keep r)
    | none => w)

/-- The FSTAT bits of reach P (R401, R402, R422, R387). -/
def pSources : Blk → Word
  | .RST => Src.RST_WDT_EXPIRE.mask ||| Src.RST_FAILED_START.mask
  | .CLK => Src.CLK_SYSPLL_UNLOCK.mask ||| Src.CLK_XTAL_FAIL.mask
  | .PWR => Src.PWR_TRIP.mask
  | .CAL => Src.CAL_OTP_BAD.mask
  | _ => 0

/-- The fault registers of a block after a system reset: bits of reach P that stay count as having acted (R432). -/
def FaultSet.sysReset (f : FaultSet) (b : Blk) : FaultSet :=
  { FaultSet.reset b with fstat := f.fstat &&& pSources b, freal := f.freal &&& pSources b, acted := f.fstat &&& pSources b }

/-- The fault registers of every block after a system reset. -/
def State.faultsCleared (s : State) : AMap FaultSet :=
  Blk.all.foldl (fun m b => m.set b.index ((s.faults b).sysReset b)) .empty

/-- A run cut short by a reset is INCOMPLETE in the ledger (R457). -/
def ledgerCut (s : State) : State :=
  (s.vault.running.filter (fun e => decide (e < 294))).foldl (fun t e => ledgerRun e 3 none t) s

/-! ### Roles (R458) -/

/-- The units of a group that may serve: neither retired nor UNUSABLE. -/
def State.usableUnits (s : State) (l : List Nat) : List Nat := l.filter (fun e => s.unitState e != 4 && s.unitState e != 5)

/-- The lowest `n` usable units of a group are active, the others spares. -/
def activate (l : List Nat) (n : Nat) (s : State) : State :=
  (s.usableUnits l).zipIdx.foldl (fun t x => t.setUnit x.1 (if x.2 < n then 0 else 1)) s

/-- Engines 0 to 15 of the roles serve domain 0 (R202); the places without an engine are lost (R207). -/
def engineRoles (s : State) : State :=
  let us := (s.usableUnits (unitGroup 18)).take 16
  let t := (List.range 18).foldl (fun (t : State) e => setServe e (if us.contains (18 + e) then some 0 else none) t) s
  { t with cue := { t.cue with lost := t.cue.lost.set 0 (16 - us.length) } }

/-- Logical pipes take their units. -/
def pipeRoles (s : State) : State :=
  let us := (s.usableUnits (unitGroup 36)).take 16
  (List.range 16).foldl (fun (t : State) q => match us[q]? with
    | some u => givePipe q (u - 36) t
    | none => t.setFlag F.WCOMP_PIPE_STAT_NO_UNIT q true) s

/-- Converters take their units. -/
def asrcRoles (s : State) : State :=
  let us := (s.usableUnits (unitGroup 53)).take 64
  (List.range 64).foldl (fun (t : State) c => match us[c]? with
    | some u => giveAsrc c (u - 53) t
    | none => { t with aud := { t.aud with bare := c :: t.aud.bare } }) s

/-- Harts take their cores. -/
def coreRoles (s : State) : State :=
  let us := (s.usableUnits (unitGroup 125)).take 4
  us.zipIdx.foldl (fun (t : State) x => t.setFld F.CPU_CORE_STAT_HART (x.1 - 125) x.2) s

/-- A quad's PLLs: where PLL0 or PLL1 cannot serve, the third one takes its place. -/
def pllRoles (s : State) (q : Nat) : State :=
  let good (k : Nat) : Bool := s.unitState (198 + 3 * q + k) == 0
  let t := activate [198 + 3 * q, 198 + 3 * q + 1, 198 + 3 * q + 2] 2 s
  let spare := t.unitState (198 + 3 * q + 2)
  t.setFld F.LANE_QUAD_STAT_SPARE q (if spare = 5 ∨ spare = 4 then 3 else if spare = 0 then (if good 0 then 2 else 1) else 0)

/-- The roles of every type but slices (R458). -/
def assignRoles (s : State) : State :=
  let s1 := [(18, 16), (36, 16), (53, 64), (125, 4), (130, 32), (164, 32)].foldl (fun t x => activate (unitGroup x.1) x.2 t) s
  (List.range 32).foldl pllRoles (coreRoles (asrcRoles (pipeRoles (engineRoles s1))))

/-- Retired and UNUSABLE units keep their states, slices wait for their start-up runs, the others take their roles. -/
def rolesAfter (before s : State) : State :=
  let kept := (List.range 294).filter (fun e => before.unitState e == 4 || before.unitState e == 5)
  assignRoles (kept.foldl (fun (t : State) e => t.setUnit e (before.unitState e)) s)

/-! ### Clearing -/

/-- An ARMED slot returns to VERIFIED (R473). -/
def disarmSlots (s : State) : State :=
  let t := [0, 1].foldl (fun (t : State) k => if t.slotState k = 4 then setSlot k 3 t else t) s
  { t with fwu := { t.fwu with armed := none } }

/-- A system reset clears every register field of reach S or C, the application cores, DMA, and every datapath block and its
state; it spares the always-on domain, the supervisor with a flash write in progress (R408), HBM contents and OTP. The
management buffers hold undefined contents (R369): what unwritten memory reads as (notes/assumptions/4.md). -/
def systemClear (s0 : State) : State :=
  let s := disarmSlots (ledgerCut s0)
  let t := { State.reset with
    pending := s.pending, regs := clearRegs sysKeep s.regs, flt := s.faultsCleared, free := s.free, now := s.now
    mem := s.mem.clearRange 0x200E800000 0x200E840000
    alertLow := s.alertLow, resp := s.resp
    ref := { RefState.reset with selCand := s.ref.selCand, selRun := s.ref.selRun }
    refOut := { s.refOut with pulseEnd := none }
    vault := { VaultState.reset with recPend := s.vault.recPend, lastRot := s.vault.lastRot }
    otp := s.otp
    rst := { s.rst with conf := .empty, harts := [], begins := false, inStart := false, wdtOn := false, activating := false }
    fwu := { s.fwu with running := none, trial := false, preloaded := [] } }
  alertUpdate (rolesAfter s t)

/-- A core reset clears C0 to C4, their master ports and DMA, and the fields of reach C; it absorbs confined resets. A
handover of a core, whose migration goes on (R446), is not abandoned. -/
def coreClear (s : State) : State :=
  let s1 := { s with regs := clearRegs coreKeep s.regs }
  let s2 := dmaReset ((List.range 5).foldl (fun t c => masterReset c t) s1)
  wallReserve { s2.setFld F.CPU_STAT_HARTS_UP 0 0 with
    rst := { s2.rst with conf := .empty, harts := [], begins := false, inStart := false, wdtOn := false } }

/-- The fields of reach C of a hart (R361). -/
def clearHart (h : Nat) (s : State) : State :=
  [RegName.CPU_IRQ_EN_LO, RegName.CPU_IRQ_EN_HI, RegName.CPU_IPI, RegName.CPU_MTIMECMP_LO, RegName.CPU_MTIMECMP_HI].foldl
    (fun t r => t.setReg r h (r.resetWord h)) s

/-! ### Starts (R414, R415, R476) -/

/-- A running trial has failed: its slot is REJECTED and the next start falls back (R476). -/
def trialFails (s : State) : State :=
  match s.fwu.running with
  | some k =>
    if s.fwu.trial then
      let t := ((setSlot k 8 s).bump .FWU_FALLBACK_CNT 0).raise Src.FWU_FALLBACK
      { t with fwu := { t.fwu with trial := false } }
    else s
  | none => s

/-- The start that runs has failed. -/
def startFails (s : State) : State :=
  let t := (s.setFld F.RST_STAT_FAILED 0 (min 3 (s.fld F.RST_STAT_FAILED 0 + 1))).raise Src.RST_FAILED_START
  trialFails { t with rst := { t.rst with inStart := false } }

/-! ### Resets begin (R406) -/

/-- The reset becomes one of level `lvl` where it was shallower: what the level clears is cleared, and it is counted. -/
def deepen (lvl : Nat) (s : State) : State :=
  if lvl ≤ s.rst.level then s
  else
    let t := if lvl = 3 then systemClear (s.bump .RST_SYS_CNT 0) else coreClear (s.bump .RST_CORE_CNT 0)
    { t with rst := { t.rst with level := lvl } }

/-- A source of core (2) or system (3) level asserts: `soft` for a request of software, whose start ends without a verdict;
`hold` for a source that lasts. A failed start that makes the count 3 leads to Darkroom mode (R414, R416). -/
def beginReset (lvl : Nat) (soft hold : Bool) (cause : Option Nat) (s : State) : State :=
  let s1 := match cause with
    | some b => recordCause b s
    | none => s
  let judged := s1.rst.inStart && !soft
  let s2 := if judged then startFails s1 else { s1 with rst := { s1.rst with inStart := false } }
  let dark := judged && s2.fld F.RST_STAT_FAILED 0 == 3
  let s3 := if dark then (recordCause 13 s2).setFlag F.RST_STAT_DARKROOM 0 true else s2
  let l := if dark then 3 else lvl
  let shallow := decide (l < s3.rst.level)
  let s4 := deepen l s3
  let held := match cause with
    | some b => if hold then b :: s4.rst.held.filter (· != b) else s4.rst.held
    | none => s4.rst.held
  alertUpdate { s4 with rst := { s4.rst with held := held, relAt := if shallow then s4.rst.relAt else s4.now + 2000000 } }

/-- Darkroom mode is entered without a failed start (R412, R416). -/
def enterDarkroom (s : State) : State :=
  let t := beginReset 3 true false (some 13) s
  alertUpdate (t.setFlag F.RST_STAT_DARKROOM 0 true)

/-- A confined reset of core `c` (R403, R406, R408): within a deeper reset it is only recorded. The watchdog stops (R417). -/
def confinedReset (cause c : Nat) (s : State) : State :=
  let s1 := recordCore c (recordCause cause s)
  if s1.rst.level ≠ 0 then s1
  else
    let s2 := match s1.vault.migr.find? 4 with
      | some m => if m.leaving = 125 + c then dropMigration 4 s1 else s1
      | none => s1
    let h := s2.hartOf c
    let s3 := (stopCore c (clearHart h s2)).bump .RST_CONF_CNT 0
    { s3 with rst := { s3.rst with conf := s3.rst.conf.set c (s3.now + 2000000), wdtOn := false } }

/-- A core locks up (R345): a confined reset; a start that runs has failed, and a core reset follows (R414). -/
def lockUp (c : Nat) (s : State) : State :=
  if s.coreServes c && s.hartUp (s.hartOf c) then
    let s1 := ((s.bump .CPU_LOCKUP_CNT 0).setFlag F.CPU_CORE_STAT_LOCKUP_S c true).raise Src.CPU_LOCKUP
    let s2 := confinedReset 10 c s1
    if s1.rst.inStart then beginReset 2 false false (some 5) s2 else s2
  else s

/-! ### Power (R404, R407, R410, R500) -/

/-- A power-on reset: everything is cleared but OTP, with its count of such resets, and flash. What HBM and core SRAM hold
afterwards is what unwritten memory reads as (notes/assumptions/4.md). -/
def powerReset (cause : Nat) (s : State) : State :=
  let n := min (2 ^ 32 - 1) ((s.reg .RST_POR_CNT 0).toNat + 1)
  let t := { State.reset with
    pending := s.pending, free := s.free, otp := s.otp
    mem := ⟨s.mem.cells.filter (fun c => decide (slotBase 0 ≤ c.1) && decide (c.1 < slotBase 0 + 0x8000000))⟩
    rst := { RstState.reset with relAt := 2000000 } }
  disarmSlots ((t.setReg .RST_CAUSE 0 (1#32 <<< cause)).setReg .RST_POR_CNT 0 (BitVec.ofNat 32 n))

/-- A supply dips for `ns` (R500): under 500 ns it is ignored, from 2 µs it is a reset, between the two it may be. -/
def brownsOut (aon : Bool) (ns : Nat) (s : State) : State :=
  let (b, t) := s.freeBool
  if ns < 500 then s
  else if 2000 ≤ ns then powerReset (if aon then 0 else 1) s
  else if b then powerReset (if aon then 0 else 1) t
  else t

/-- The PIN source asserts for `ns`; the stretch runs from its release. -/
def pinReset (ns : Nat) (s : State) : State :=
  let t := elapse ns (beginReset 3 false false (some 2) s)
  { t with rst := { t.rst with relAt := t.now + 2000000 } }

/-- RESET_N is pulled low from outside for `ns` (R407); while the SV-6400 drives the pin it is no source. -/
def pinPulse (ns : Nat) (s : State) : State :=
  let (b, t) := s.freeBool
  if 3 ≤ s.rst.level ∨ ns < 200 then s
  else if 1000 ≤ ns then pinReset ns s
  else if b then pinReset ns t
  else t

/-! ### Software requests (R405) -/

/-- A write of RST_SWRST by a master. -/
def writeSwrst (m : Nat) (v : Word) (s : State) : State :=
  let c := F.RST_SWRST_CORE.of v
  if m = 6 then s.reject .RST
  else match F.RST_SWRST_LEVEL.of v with
    | 0 => beginReset 2 true false (some 5) s
    | 1 => if F.RST_SWRST_KEY.of v = 0xA5 then beginReset 3 true false (some 7) s else s.reject .RST
    | 2 => if s.coreServes c then confinedReset 6 c s else s.reject .RST
    | _ => s.reject .RST

/-! ### Clock failure (R390) -/

/-- XTAL_IN fails its monitor; SYSPLL is held out of lock. -/
def xtalFails (s : State) : State :=
  beginReset 3 false true (some 9)
    ((s.setFlds 0 [(F.CLK_STAT_XTAL_OK, 0), (F.CLK_STAT_SYSPLL_LOCK, 0)]).raise Src.CLK_XTAL_FAIL)

/-- SYSPLL loses lock. -/
def syspllUnlocks (s : State) : State :=
  beginReset 3 false true (some 9) ((s.setFld F.CLK_STAT_SYSPLL_LOCK 0 0).raise Src.CLK_SYSPLL_UNLOCK)

/-- XTAL_IN has passed for 10 ms and SYSPLL has locked: the source releases and the stretch starts. -/
def xtalPasses (s : State) : State :=
  if s.rst.held.contains 9 then
    let t := s.setFlds 0 [(F.CLK_STAT_XTAL_OK, 1), (F.CLK_STAT_SYSPLL_LOCK, 1)]
    { t with rst := { t.rst with held := t.rst.held.filter (· != 9), relAt := t.now + 2000000 } }
  else s

/-! ### The release sequence (R409, R412, R413) -/

/-- The life-cycle code of the OTP fields (R418). -/
def OtpState.lcCode (o : OtpState) : Nat :=
  if o.lcDecom then 4 else if o.mc % 2 = 1 then 3 else if o.lcServ then 2 else if o.lcProv then 1 else 0

/-- The life-cycle state is decoded from OTP. -/
def decodeLc (s : State) : State :=
  wallReserve (s.setFlds 0 [(F.RST_STAT_LC, s.otp.lcCode), (F.RST_STAT_MC, s.otp.mc)])

/-- OTP is loaded (R383, R398, R418, R450): calibration, the life-cycle state, the grade, the retire map. -/
def loadOtp (ok : Bool) (s : State) : State :=
  let t := (decodeLc (otpLoad ok s)).setFlag F.PWR_THERM_STAT_GRADE_X 0 s.otp.gradeX
  let u := (s.otp.retired.filter (fun e => decide (e < 294))).foldl (fun (t : State) e => t.setUnit e 4) t
  assignRoles u

/-- The start-up run of one slice (R458); its margin and signatures are free. -/
def startupRun (pass : Nat → Bool) (s : State) (e : Nat) : State :=
  let (m, s1) := s.freeNat
  let (x, s2) := s1.freeNat
  let (y, s3) := s2.freeNat
  let (z, s4) := s3.freeNat
  let ok := pass e
  let sig := BitVec.ofNat 32 x
  let want := BitVec.ofNat 32 z
  let t := ledgerRun e (if ok then 1 else 2) (some (m % 1024))
    (recordRun e (if ok then 1 else 2) 0 (if ok then cyclesExpected e else cyclesExpected e + y)
      sig (if ok then sig else if y = 0 ∧ want = sig then sig ^^^ 1#32 else want) s4)
  if ok then t.setUnit e 1 else (t.setUnit e 5).raise Src.VAULT_UNUSABLE

/-- In a plane, the eight lowest slices that passed are active, in positions 0 to 7; the next one is the spare. -/
def stripePlane (pass : Nat → Bool) (s : State) (p : Nat) : State :=
  (((planeSlices p).filter (fun e => pass e && s.unitState e == 1)).take 8).zipIdx.foldl (fun (t : State) x =>
    t.setFlds x.1 [(F.XPT_SLICE_STAT_STATE, 0), (F.XPT_SLICE_STAT_POS, x.2)]) s

/-- Start-up BIST of the slices (R458); with its end XPT_STAT.INIT_DONE is set (R412 step 7). -/
def startupBist (pass : Nat → Bool) (s : State) : State :=
  let tested := s.usableUnits (List.range 18)
  let s1 := tested.foldl (startupRun pass) s
  let s2 := [0, 1].foldl (stripePlane pass) s1
  let map := tested.foldl (fun a e => if pass e then a + 2 ^ e else a) 0
  let s3 := (s2.setFlds 0 [(F.BIST_STAT_STARTUP_DONE, 1), (F.BIST_STAT_SLICE_PASS, map)]).raiseIf (!tested.all pass) Src.BIST_STARTUP_FAIL
  s3.setFlag F.XPT_STAT_INIT_DONE 0 true

/-- HBM training (R412, R437). -/
def trainHbm (a b : Bool) (s : State) : State :=
  let t := { s with hbm := { s.hbm with trained := (if a then [0] else []) ++ (if b then [1] else []), failed := [] } }
  t.raiseIf (!a || !b) Src.HBM_TRAIN_FAIL

/-- Steps 2 to 7 of R412 after a power-on reset, and their part after a system reset (R413). -/
def releaseHardware (b : BootReport) (s : State) : State :=
  let s1 := latchStraps s
  let s2 := if s.rst.level = 4 then restoreLedger (loadOtp b.otpOk s1) else s1
  let s3 := s2.setFlds 0 [(F.CLK_STAT_AON_LOCK, 1), (F.CLK_STAT_XTAL_OK, 1), (F.CLK_STAT_SYSPLL_LOCK, 1)]
  trainHbm b.stackA b.stackB (startupBist (fun e => b.slices.getLsbD e) s3)

/-- The harts that wait for their release; a start begins with it. -/
def hartsReady (s : State) : State := { s with rst := { s.rst with harts := [0, 1, 2, 3], begins := true, activating := false } }

/-- Step 8 of R412: the image is chosen, checked and loaded (R471, R472); none in Darkroom mode, and in DECOMMISSIONED the
part stays as in Darkroom mode (R419). -/
def loadStep (s : State) : State :=
  if s.flag F.RST_STAT_DARKROOM 0 then s
  else if s.lc = 4 then alertUpdate (s.setFlag F.RST_STAT_DARKROOM 0 true)
  else if !s.hbm.trained.contains 0 then enterDarkroom s
  else match bootImage s with
    | (some t, _) => hartsReady t
    | (none, t) => enterDarkroom t

/-- The stretch of the earliest confined reset ends: its hart waits for its release (R413). -/
def releaseConfined (s : State) : State :=
  match s.rst.conf.entries.foldl (fun (best : Option (Nat × Nat)) e => match best with
    | none => some e
    | some b => if e.2 < b.2 then some e else some b) none with
  | none => s
  | some (c, t) =>
    let u := passToNow t s
    { u with rst := { u.rst with conf := u.rst.conf.erase c, harts := u.rst.harts ++ [u.hartOf c] } }

/-- The stretch ends and the release sequence of the deepest level runs (R406): not while a source is asserted. -/
def releaseReset (b : BootReport) (s : State) : State :=
  if s.rst.held ≠ [] then s
  else if s.rst.level = 0 then releaseConfined s
  else
    let s1 := passToNow s.rst.relAt s
    let s2 := if 3 ≤ s.rst.level then releaseHardware b s1 else s1
    let s3 := { s2 with rst := { s2.rst with level := 0, activating := false } }
    if s.rst.activating then hartsReady s3 else loadStep s3

/-- The spares that R456 tests at step 9: units in state 1, none that a migration has waked. -/
def State.sparesToTest (s : State) : List Nat :=
  (List.range 294).filter (fun e => s.unitState e == 1 && !s.vault.migr.entries.any (fun m => m.2.spare == e))

/-- Step 9 of R412: harts are released at CPU_HART_BOOT; with a full release the start begins, with START_WINDOW and the
watchdog, and the spares' runs are requested. After the last of the confined resets the watchdog's count starts anew (R417). -/
def releaseHarts (s : State) : State :=
  if s.rst.harts = [] ∨ s.rst.level ≠ 0 then s
  else
    let t := s.rst.harts.foldl (fun u h => if (u.coreOf h).isSome then setHart h true u else u) s
    if s.rst.begins then
      let u := (t.setFlag F.RST_WDT_CFG_EN 0 true).setFlag F.RST_HEALTH_HEALTH_OK 0 false
      let w := { u with rst := { u.rst with harts := [], begins := false, inStart := true, startAt := u.now, wdtOn := true, kickAt := u.now } }
      w.sparesToTest.foldl (fun x e => requestRun e false x) (wallReserve w)
    else if t.rst.conf.entries = [] then { t with rst := { t.rst with harts := [], wdtOn := true, kickAt := t.now } }
    else { t with rst := { t.rst with harts := [] } }

/-! ### The end of a start (R414, R474, R475) -/

/-- A running trial is confirmed: ACTIVE to its slot, PREVIOUS to the other, and the image's FLAGS act on OTP. -/
def confirmTrial (s : State) : State :=
  match s.fwu.running with
  | some k =>
    if s.fwu.trial then
      let s1 := setSlot k 6 s
      let s2 := if s1.slotState (1 - k) = 6 then setSlot (1 - k) 7 s1 else s1
      let flags := s.imageField k 26 2
      let svn := s.imageField k 24 1
      let key := s.imageField k 25 1
      let o := s2.otp
      let o1 := if bit flags 0 then { o with svn := max o.svn svn } else o
      let o2 := if bit flags 1 then { o1 with revoked := (List.range key).foldl (fun r j => putBits r j 1 1) o1.revoked } else o1
      ({ s2 with otp := o2, fwu := { s2.fwu with trial := false } }).raise Src.FWU_CONFIRMED
    else s
  | none => s

/-- A write of RST_HEALTH: HEALTH_OK before release + START_WINDOW makes the start healthy (R414). -/
def writeHealth (v : Word) (s : State) : State :=
  let w := F.RST_HEALTH_START_WINDOW.of v
  let ok := F.RST_HEALTH_HEALTH_OK.of v == 1
  let inTime := s.rst.inStart && decide (s.now < s.rst.startAt + s.fld F.RST_HEALTH_START_WINDOW 0 * 1000000000)
  if w < 10 ∨ 3600 < w ∨ (ok && !inTime) = true then s.reject .RST
  else
    let t := plainWrite .RST_HEALTH 0 v s
    if ok then
      let u := t.setFld F.RST_STAT_FAILED 0 0
      wallReserve (confirmTrial { u with rst := { u.rst with inStart := false } })
    else t

/-- START_WINDOW runs out (R414); the supervisor's core reset is recorded as its software request. -/
def startTimesOut (s : State) : State :=
  if s.rst.inStart then
    beginReset 2 false false (some 5) (passToNow (s.rst.startAt + s.fld F.RST_HEALTH_START_WINDOW 0 * 1000000000) s)
  else s

/-! ### The watchdog (R417) -/

/-- An expiry occurred within WDT_ESC_WINDOW. -/
def State.wdtArmed (s : State) : Bool :=
  match s.rst.expiredAt with
  | some t => decide (s.now < t + s.fld F.RST_WDT_STAT_ESC_WINDOW 0 * 1000000000)
  | none => false

/-- The instant at which the watchdog expires. -/
def State.wdtEnd (s : State) : Nat := s.rst.kickAt + s.fld F.RST_WDT_CFG_PERIOD 0 * 1000000

/-- The watchdog runs. -/
def State.wdtRuns (s : State) : Bool := s.rst.wdtOn && s.flag F.RST_WDT_CFG_EN 0

/-- The watchdog expires: a core reset, a system reset where one has expired within the window. -/
def wdtExpires (s : State) : State :=
  if s.wdtRuns then
    let t := (passToNow s.wdtEnd s).raise Src.RST_WDT_EXPIRE
    let again := t.wdtArmed
    let u := { t with rst := { t.rst with expiredAt := some t.now } }
    if again then beginReset 3 false false (some 4) u else beginReset 2 false false (some 3) u
  else s

/-- A write of RST_WDT_KICK. -/
def writeKick (v : Word) (s : State) : State :=
  if F.RST_WDT_KICK_KEY.of v = 0x4B1C then { s with rst := { s.rst with kickAt := s.now } } else s.reject .RST

/-- A write of RST_WDT_CFG: EN = 0 only after HEALTH_OK. Writing EN from 0 to 1 starts the count anew. -/
def writeWdtCfg (v : Word) (s : State) : State :=
  let en := F.RST_WDT_CFG_EN.of v == 1
  if F.RST_WDT_CFG_PERIOD.of v < 100 ∨ (!en && s.flag F.RST_WDT_CFG_EN 0 && !s.flag F.RST_HEALTH_HEALTH_OK 0) = true then s.reject .RST
  else
    let t := plainWrite .RST_WDT_CFG 0 v s
    if en && !s.flag F.RST_WDT_CFG_EN 0 then { t with rst := { t.rst with kickAt := t.now } } else t

/-! ### Life-cycle states (R419, R420) -/

/-- A big-endian field of a token. -/
def beAt (bs : List Byte) (a n : Nat) : Nat := beNat ((bs.drop a).take n)

/-- The maintenance token at an address of core SRAM is valid. -/
def State.tokenOk (s : State) (a : Nat) : Bool :=
  let bs := s.load (sramBase + a) 128
  let sec : Int := 1000000000
  Nat.ble (a + 128) 0x400000 && beAt bs 0 4 == 0x434D544B && beAt bs 4 8 == s.otp.uid % 2 ^ 64 && s.etValid
    && decide ((beAt bs 12 6 : Int) * sec ≤ s.etFull) && decide (s.etFull < (beAt bs 18 6 : Int) * sec)
    && beAt bs 24 1 == s.otp.mc + 1
    && Config.ecdsaVerify (Config.maintenanceKey s.otp.maint) (Config.sha384 (bs.take 32)) (BitVec.ofNat 768 (beAt bs 32 96))

/-- What a request of a state programs in OTP; none where it is refused. -/
def State.lcTransition (s : State) (target token : Nat) : Option OtpState :=
  let o := s.otp
  match s.lc, target with
  | 0, 1 => some { o with lcProv := true }
  | 1, 2 => some { o with lcServ := true }
  | 2, 3 => if o.mc ≤ 254 ∧ s.tokenOk token = true then some { o with mc := o.mc + 1 } else none
  | 3, 2 => some { o with mc := o.mc + 1 }
  | 2, 4 => some { o with lcDecom := true }
  | 3, 4 => some { o with lcDecom := true }
  | _, _ => none

/-- A write of RST_LC_REQ by a master: the supervisor's acts. -/
def writeLcReq (m : Nat) (v : Word) (s : State) : State :=
  if m ≠ 5 then s.reject .RST
  else
    let t := plainWrite .RST_LC_REQ 0 v s
    match s.lcTransition (F.RST_LC_REQ_TARGET.of v) (F.RST_LC_REQ_TOKEN.of v * 64) with
    | some o => decodeLc { t with otp := o }
    | none => t.raise Src.RST_LC_REJECT

/-! ### Registers (R422) -/

/-- A write of an RST register by a master. -/
def writeRst (m : Nat) (r : RegName) (i : Nat) (v : Word) (s : State) : State :=
  match r with
  | .RST_SWRST => writeSwrst m v s
  | .RST_WDT_CFG => writeWdtCfg v s
  | .RST_WDT_KICK => writeKick v s
  | .RST_WDT_STAT => guardedWrite (F.RST_WDT_STAT_ESC_WINDOW.of v == 0) r i v s
  | .RST_HEALTH => writeHealth v s
  | .RST_LC_REQ => writeLcReq m v s
  | _ => plainWrite r i v s

/-- A read of RST_CAUSE returns the record and clears it (R410). -/
def readCause (m : Nat) (s : State) : State := (s.respond m (s.reg .RST_CAUSE 0).toNat).setReg .RST_CAUSE 0 0

/-- The live registers of RST. -/
def State.rstLive (s : State) (r : RegName) (_i : Nat) : Option Word :=
  match r with
  | .RST_STAT => some (F.RST_STAT_IN_START.put (s.reg r 0) (b2n s.rst.inStart))
  | .RST_WDT_STAT =>
    let left := if s.wdtRuns then min 65535 (ceilDiv (s.wdtEnd - s.now) 1000000) else 0
    some (F.RST_WDT_STAT_ARMED.put (F.RST_WDT_STAT_LEFT.put (s.reg r 0) left) (b2n s.wdtArmed))
  | _ => none

/-- The live sources of RST_FLIVE. -/
def State.rstFlive (s : State) : Word :=
  if s.fld F.RST_STAT_FAILED 0 != 0 then Src.RST_FAILED_START.mask else 0

/-! ### The commands -/

/-- LOCKUP (R345). -/
def execLockup (c : Fin 5) (s : State) : Out := .next (lockUp c s)

/-- XTAL_FAIL (R390). -/
def execXtalFail (s : State) : Out := .next (xtalFails s)

/-- SYSPLL_UNLOCK (R390). -/
def execSyspllUnlock (s : State) : Out := .next (syspllUnlocks s)

/-- XTAL_OK (R390). -/
def execXtalOk (s : State) : Out := .next (xtalPasses s)

/-- POWER_ON (R404). -/
def execPowerOn (s : State) : Out := .next (powerReset 0 s)

/-- BROWNOUT (R500). -/
def execBrownout (aon : Bool) (ns : Nat) (s : State) : Out := .next (brownsOut aon ns s)

/-- RESET_N_PIN (R407). -/
def execResetNPin (ns : Nat) (s : State) : Out := .next (pinPulse ns s)

/-- SW_CORE_RESET: RST_SWRST with LEVEL 0 (R405). -/
def execSwCoreReset (m : Fin 8) (v : Word) (s : State) : Out :=
  .next (byMaster m .RST_SWRST 0 (writeSwrst m (F.RST_SWRST_LEVEL.put v 0)) s)

/-- SW_SYSTEM_RESET: RST_SWRST with LEVEL 1 (R405). -/
def execSwSystemReset (m : Fin 8) (v : Word) (s : State) : Out :=
  .next (byMaster m .RST_SWRST 0 (writeSwrst m (F.RST_SWRST_LEVEL.put v 1)) s)

/-- SW_CONFINED_RESET: RST_SWRST with LEVEL 2 (R405). -/
def execSwConfinedReset (m : Fin 8) (v : Word) (s : State) : Out :=
  .next (byMaster m .RST_SWRST 0 (writeSwrst m (F.RST_SWRST_LEVEL.put v 2)) s)

/-- DBG_RESET (R404). -/
def execDbgReset (s : State) : Out := .next (beginReset 2 false false (some 8) s)

/-- CORE_RESET (R403): the reset itself, without a source. -/
def execCoreReset (s : State) : Out := .next (beginReset 2 false false none s)

/-- SYSTEM_RESET (R403): the reset itself, without a source. -/
def execSystemReset (s : State) : Out := .next (beginReset 3 false false none s)

/-- RESET_RELEASE (R406). -/
def execResetRelease (b : BootReport) (s : State) : Out := .next (releaseReset b s)

/-- HART_RELEASE (R412). -/
def execHartRelease (s : State) : Out := .next (releaseHarts s)

/-- RST_CAUSE_READ (R410). -/
def execRstCauseRead (m : Fin 8) (s : State) : Out := .next (readCause m s)

/-- HEALTH_OK: a write of RST_HEALTH with HEALTH_OK = 1 (R414). -/
def execHealthOk (v : Word) (s : State) : Out := .next (writeHealth (F.RST_HEALTH_HEALTH_OK.put v 1) s)

/-- START_TIMEOUT (R414). -/
def execStartTimeout (s : State) : Out := .next (startTimesOut s)

/-- WDT_EXPIRE (R417). -/
def execWdtExpire (s : State) : Out := .next (wdtExpires s)

/-- WDT_KICK (R417). -/
def execWdtKick (v : Word) (s : State) : Out := .next (writeKick v s)

/-- LC_REQUEST: a write of RST_LC_REQ (R419). -/
def execLcRequest (m : Fin 8) (v : Word) (s : State) : Out := .next (byMaster m .RST_LC_REQ 0 (writeLcReq m v) s)

end Sys2Proof.Machine
end

