-- ==== Sys2Proof/Machine/ClkPwr.lean ====
section
/-!
DEFINITION. Clocks, sleep, temperature and power (chapter 17): the domains that run (R388, R392), block PLLs (R392), sleep
(R393), the sensors (R397, R398) and the trip (R399).
-/

namespace Sys2Proof.Machine

/-! ### Clock domains (R388, R392, R393) -/

/-- A unit of a type is under BIST. -/
def State.testing (s : State) (type : Nat) : Bool := s.vault.running.any (fun e => unitType e == type)

/-- A domain's block or unit has something enabled (R392). -/
def State.domBusy (s : State) (d : Nat) : Bool :=
  if d < 128 then s.fld F.LANE_CFG_RX_PROTO d != 0
  else if d < 160 then
    let x := s.quadOf (d - 128)
    x.pll0 != .stopped || x.pll1 != .stopped || x.spare != .stopped
  else match d with
    | 162 => s.flag F.PTP_DOM_CFG_EN 0
    | 163 => s.flag F.PTP_DOM_CFG_EN 1
    | 164 => s.hbmLoad 0 != 0
    | 165 => s.hbmLoad 1 != 0
    | 166 => s.flag F.MGMT_CFG_EN 0
    | 167 => s.flag F.MGMT_CFG_EN 1
    | 168 => s.flag F.XPT_STAT_INIT_DONE 0
    | 169 => (List.range 128).any (fun n => s.sdiRxOn n || (s.sdiTxOn n).isSome || s.flag F.MPORT_CFG_EN n)
    | 170 => s.cue.thr.entries != [] || s.testing 1
    | 171 => s.flag F.WCOMP_CFG_EN 0 || (List.range 16).any (fun q => (s.pipeUser q).isSome) || s.testing 2
    | 172 => s.flag F.WSCAN_CFG_EN 0
    | 173 => s.audioOn || s.testing 3
    | 174 => s.fld F.CPU_STAT_HARTS_UP 0 != 0
    | 177 => s.flag F.TTB_CFG_EN 0
    | 178 => false
    | 179 => s.vault.running != []
    | 180 => (List.range 32).any (fun l => s.flag F.ULINK_CFG_EN l)
    | _ => true

/-- A domain runs: the always-on one always; another one when it has something enabled, the PLLs run and no trip holds. A
clock's last millisecond (R393) is not modelled (notes/assumptions/42.md). -/
def State.domClocked (s : State) (d : Nat) : Bool :=
  if d = 176 then true
  else s.domBusy d && s.flag F.CLK_STAT_SYSPLL_LOCK 0 && !s.flag F.PWR_THERM_STAT_TRIPPED 0 && !s.clk.dead.contains d

/-- The domains that R392 starts by a block PLL. -/
def blockPll (d : Nat) : Bool := decide (160 ≤ d) && !(decide (176 ≤ d) && decide (d ≤ 178))

/-- A block PLL has not locked 50 µs after its start: it is restarted, at most 3 times before it is left stopped. -/
def pllStarts (d : Nat) (s : State) : State :=
  let n := s.clk.tries.get 0 d
  if !blockPll d || s.clk.dead.contains d then s
  else if n < 3 then
    ({ s with clk := { s.clk with tries := s.clk.tries.set d (n + 1) } }.bump .CLK_PLL_START_CNT 0).raise Src.CLK_PLL_START
  else { s with clk := { s.clk with tries := s.clk.tries.erase d, dead := d :: s.clk.dead } }.raise Src.CLK_PLL_DEAD

/-- Domains that never stop after boot (R393). -/
def neverSleeps (d : Nat) : Bool := d == 160 || d == 161 || d == 175 || d == 176

/-- A domain idle for 1 ms stops, and is counted; an HBM stack is placed in self-refresh. -/
def clockSleeps (d : Nat) (s : State) : State :=
  if neverSleeps d || s.domBusy d then s
  else
    let t := s.bump .CLK_SLEEP_CNT 0
    if d = 164 ∨ d = 165 then { t with clk := { t.clk with asleep := (d - 164) :: t.clk.asleep.filter (· != d - 164) } } else t

/-! ### Temperature (R397 to R399) -/

/-- A sensor's reading with its effective offset, in 1/16 °C. -/
def State.corrected (s : State) (k : Nat) (raw : BitVec 16) : Int := satSigned 16 (signed 16 raw.toNat + (s.sensorOffset k).1)

/-- The sum of the two middle values of a list. -/
def middleSum (l : List Int) : Int :=
  let m := sortBy (fun a b => decide (a < b)) l
  m.getD ((m.length - 1) / 2) 0 + m.getD (m.length / 2) 0

/-- A reading is left out of TJ (R398). -/
def sensorBad (mid2 t : Int) : Bool := decide (t < -640) || decide (2400 < t) || decide (800 < (2 * t - mid2).natAbs)

/-- The highest of the readings that count; the TJ before where none does. -/
def State.newTj (s : State) (l : List Int) : Int :=
  match l with
  | [] => signed 16 (s.fld F.PWR_TJ_TJ 0)
  | x :: xs => xs.foldl max x

/-- TJ is below the grade's minimum. -/
def State.tjLow (s : State) : Bool :=
  decide (signed 16 (s.fld F.PWR_TJ_TJ 0) < (if s.flag F.PWR_THERM_STAT_GRADE_X 0 then -320 else 0))

/-- TJ is at or above THERM_WARN. -/
def State.tjWarm (s : State) : Bool := decide ((s.fld F.PWR_THERM_CFG_THERM_WARN 0 : Int) * 16 ≤ signed 16 (s.fld F.PWR_TJ_TJ 0))

/-- The sensors are read (R397, R398). -/
def readSensors (raw : List (BitVec 16)) (s : State) : State :=
  let ts := (List.range 16).map (fun k => s.corrected k (raw.getD k 0))
  let mid := middleSum ts
  let bad := ts.map (sensorBad mid)
  let s1 := (ts.zip bad).zipIdx.foldl (fun (t : State) x =>
    t.setFlds x.2 [(F.PWR_TEMP_TEMP, unsign 16 x.1.1), (F.PWR_TEMP_EXCLUDED, b2n x.1.2)]) s
  let newBad := bad.zipIdx.any (fun x => x.1 && !s.flag F.PWR_TEMP_EXCLUDED x.2)
  let tj := s.newTj ((ts.zip bad).filterMap (fun x => if x.2 then none else some x.1))
  let peak := max tj (signed 16 (s.fld F.PWR_TJ_PEAK_TJ 0))
  let s2 := s1.setFlds 0 [(F.PWR_TJ_TJ, unsign 16 tj), (F.PWR_TJ_PEAK_TJ, unsign 16 peak)]
  let s3 := ((s2.raiseIf (s2.tjWarm && !s.tjWarm) Src.PWR_TEMP_WARN).raiseIf (s2.tjLow && !s.tjLow) Src.PWR_TEMP_LOW).raiseIf
    newBad Src.PWR_SENSOR_BAD
  { s3 with clk := { s3.clk with hot := if 1920 ≤ tj then s3.clk.hot + 1 else 0 } }

/-- The part trips after 3 readings at or above 120 °C (R399): transmitters idle, every PLL but the AON PLL stops, runs are
cut short, ALERT_N goes low. -/
def trips (s : State) : State :=
  if 3 ≤ s.clk.hot ∧ !s.flag F.PWR_THERM_STAT_TRIPPED 0 then
    let s1 := (s.setFlds 0 [(F.PWR_THERM_STAT_TRIPPED, 1), (F.PWR_THERM_STAT_TRIP_S, 1)]).raise Src.PWR_TRIP
    alertUpdate (cutRuns 2 { s1 with quad := .empty })
  else s

/-! ### Registers (R401, R402) -/

/-- A write of a PWR register. -/
def writePwr (r : RegName) (i : Nat) (v : Word) (s : State) : State :=
  match r with
  | .PWR_TJ_PEAK => s.setReg r i 0x8000
  | .PWR_THERM_CFG =>
    let w := F.PWR_THERM_CFG_THERM_WARN.of v
    guardedWrite (decide (w < 60) || decide (115 < w)) r i v s
  | _ => plainWrite r i v s

/-- The live registers of CLK. -/
def State.clkLive (s : State) (r : RegName) (i : Nat) : Option Word :=
  match r with
  | .CLK_DOM_RUN => some (BitVec.ofNat 32 ((List.range 32).foldl (fun a k =>
      if 32 * i + k < 181 ∧ s.domClocked (32 * i + k) = true then a + 2 ^ k else a) 0))
  | _ => none

/-- The live registers of PWR. P is shown in whole tenths of a watt. -/
def State.pwrLive (s : State) (r : RegName) (_i : Nat) : Option Word :=
  match r with
  | .PWR_LEDGER => some (BitVec.ofNat 32 (min 4095 (s.power / 2)))
  | .PWR_BIST_STAT => some (BitVec.ofNat 32 (min 255 s.vault.queue.length + min 255 s.vault.running.length * 2 ^ 8))
  | _ => none

/-- The live sources of CLK_FLIVE. -/
def State.clkFlive (s : State) : Word :=
  (if s.flag F.CLK_STAT_SYSPLL_LOCK 0 then 0 else Src.CLK_SYSPLL_UNLOCK.mask)
    ||| (if s.flag F.CLK_STAT_XTAL_OK 0 then 0 else Src.CLK_XTAL_FAIL.mask)
    ||| (if s.clk.dead != [] then Src.CLK_PLL_DEAD.mask else 0)

/-- The live sources of PWR_FLIVE. -/
def State.pwrFlive (s : State) : Word :=
  (if s.tjWarm then Src.PWR_TEMP_WARN.mask else 0)
    ||| (if s.tjLow then Src.PWR_TEMP_LOW.mask else 0)
    ||| (if s.flag F.PWR_THERM_STAT_TRIPPED 0 then Src.PWR_TRIP.mask else 0)
    ||| (if (List.range 16).any (fun k => s.flag F.PWR_TEMP_EXCLUDED k) then Src.PWR_SENSOR_BAD.mask else 0)
    ||| (if s.vault.queue != [] then Src.PWR_CAP_HOLD.mask else 0)

/-! ### The commands -/

/-- PLL_START (R392). -/
def execPllStart (d : Fin 181) (s : State) : Out := .next (pllStarts d s)

/-- CLOCK_SLEEP (R393). -/
def execClockSleep (d : Fin 181) (s : State) : Out := .next (clockSleeps d s)

/-- TEMP_READ (R397). -/
def execTempRead (t : List (BitVec 16)) (s : State) : Out := .next (readSensors t s)

/-- TRIP (R399). -/
def execTrip (s : State) : Out := .next (trips s)

end Sys2Proof.Machine
end

