-- ==== Sys2Proof/Machine/Cpu.lean ====
section
/-!
DEFINITION. Application cores (chapter 14): the handover (R344), a core's own errors (R345), timers and software interrupts
(R346), interrupt sources (R348), cache maintenance (R343) and ECC (R359).  Core programs are no commands of the block: a
core's cached lines show on the bus alone, as transactions of its master port (notes/assumptions/41.md).
-/

namespace Sys2Proof.Machine

/-! ### Cores -/

/-- A bus transaction or a locked sequence of a master is outstanding. -/
def State.outstanding (s : State) (m : Nat) : Bool :=
  (s.bus.req.find? m).isSome || s.bus.lock.entries.any (fun e => e.2.master == m)

/-- The hart of a leaving core resumes on the spare (R344); not while the core waits on the bus. -/
def handOver (s : State) : State :=
  match s.vault.migr.find? 4 with
  | some m => if s.outstanding (m.leaving - 125) then s else retryRetire (endMigration 4 s)
  | none => s

/-- A core in service reports an uncorrectable error in its own state (R345). -/
def coreErrs (c : Nat) (s : State) : State :=
  if s.coreServes c then (s.setFlag F.CPU_CORE_STAT_ERR_S c true).raise Src.CPU_CORE_ERR else s

/-- Escalation of CORE_ERR retires the core (R345): the hart is not handed over, it restarts on the spare or stays stopped. -/
def retireCore (c : Nat) (s : State) : State :=
  if s.coreServes c then
    let h := s.hartOf c
    let up := s.hartUp h
    let s1 := match s.vault.migr.find? 4 with
      | some m => if m.leaving = 125 + c then dropMigration 4 s else s
      | none => s
    let s2 := markRetired (125 + c) (stopCore c s1)
    match s2.spareFor (125 + c) with
    | some u =>
      let t := clearHart h ((s2.setUnit u 0).setFld F.CPU_CORE_STAT_HART (u - 125) h)
      if up then setHart h true t else t
    | none => s2
  else s

/-! ### Interrupts (R346, R348) -/

/-- The time CSR: Event Time full time as 64 bits. -/
def State.timeCsr (s : State) : Nat := unsign 64 s.etFull

/-- CPU_MTIMECMP of a hart. -/
def State.timeCmp (s : State) (h : Nat) : Nat := (s.reg .CPU_MTIMECMP_LO h).toNat + (s.reg .CPU_MTIMECMP_HI h).toNat * 2 ^ 32

/-- The timer interrupt of a hart. -/
def State.timerIrq (s : State) (h : Nat) : Bool := decide (s.timeCmp h ≤ s.timeCsr)

/-- The levels of the sources 0 to 31. -/
def State.pendLo (s : State) : Word :=
  BitVec.ofNat 32 (Blk.all.foldl (fun a b => if s.irq b then a + 2 ^ b.index else a) 0)

/-- The levels of the sources 32 and up. -/
def State.pendHi (s : State) (h : Nat) : Word := BitVec.ofNat 32 (b2n (s.timerIrq h) + s.fld F.CPU_IPI_SET h * 2)

/-- The lowest bit that is set, from bit `n` on. -/
def lowestBit (w : Nat) : Nat → Nat → Option Nat
  | _, 0 => none
  | n, k + 1 => if bit w n then some n else lowestBit w (n + 1) k

/-- CPU_IRQ_NEXT. -/
def State.irqNext (s : State) (h : Nat) : Nat :=
  let lo := (s.pendLo &&& s.reg .CPU_IRQ_EN_LO h).toNat
  let hi := (s.pendHi h &&& s.reg .CPU_IRQ_EN_HI h).toNat
  (lowestBit (lo + hi * 2 ^ 32) 0 64).getD 0xFF

/-- Time reaches CPU_MTIMECMP of a hart, if it lies ahead. -/
def timerReached (h : Nat) (s : State) : State := passTo (signed 64 (s.timeCmp h)) s

/-! ### ECC (R359) -/

/-- An ECC error of the L2 or core SRAM; an uncorrectable one ends the read of master `m` with an error. -/
def coreEcc (m : Nat) (e : CoreEcc) (s : State) : State :=
  match e with
  | .l2Corrected => (s.bump .CPU_L2_ECC_CORR 0).raise Src.CPU_L2_ECC_CORR
  | .sramCorrected => (s.bump .CPU_SRAM_ECC_CORR 0).raise Src.CPU_SRAM_ECC_CORR
  | .l2Uncorrectable => (s.respondErr m).raise Src.CPU_L2_ECC_UNCORR
  | .sramUncorrectable => (s.respondErr m).raise Src.CPU_SRAM_ECC_UNCORR

/-! ### Registers (R361) -/

/-- A write of a CPU register by a master. A write of CPU_L2_MAINT is done at once. -/
def writeCpu (m : Nat) (r : RegName) (i : Nat) (v : Word) (s : State) : State :=
  match r with
  | .CPU_HART_BOOT_LO => guardedWrite (m != 5) r i v s
  | .CPU_HART_BOOT_HI => guardedWrite (m != 5) r i v s
  | _ => plainWrite r i v s

/-- The live registers of CPU. -/
def State.cpuLive (s : State) (r : RegName) (i : Nat) : Option Word :=
  match r with
  | .CPU_STAT => some (F.CPU_STAT_SPARE.put (s.reg r 0) (b2n ((List.range 5).any (fun c => s.coreState c == 1))))
  | .CPU_IRQ_PEND_LO => some s.pendLo
  | .CPU_IRQ_PEND_HI => some (s.pendHi i)
  | .CPU_IRQ_NEXT => some (BitVec.ofNat 32 (s.irqNext i))
  | _ => none

/-- The live sources of CPU_FLIVE. -/
def State.cpuFlive (s : State) : Word := if (s.vault.migr.find? 4).isSome then Src.CPU_HANDOVER.mask else 0

/-! ### The commands -/

/-- HANDOVER (R344). -/
def execHandover (s : State) : Out := .next (handOver s)

/-- CORE_ERR (R345). -/
def execCoreErr (c : Fin 5) (s : State) : Out := .next (coreErrs c s)

/-- HART_TIMER (R346). -/
def execHartTimer (h : Fin 4) (s : State) : Out := .next (timerReached h s)

/-- IPI_WRITE (R346). -/
def execIpiWrite (h : Fin 4) (v : Word) (s : State) : Out := .next (plainWrite .CPU_IPI h v s)

/-- L2_MAINT (R343). -/
def execL2Maint (v : Word) (s : State) : Out := .next (writeCpu 0 .CPU_L2_MAINT 0 v s)

/-- L2_ECC_UNCORR (R359). -/
def execL2EccUncorr (m : Fin 8) (e : CoreEcc) (s : State) : Out := .next (coreEcc m e s)

end Sys2Proof.Machine
end

