-- ==== Sys2Proof/Machine/Hbm.lean ====
section
/-!
DEFINITION. The HBM controllers and arbiters (chapter 19): ECC and row repair (R437, R445), a stack that fails, and the
arbiter (R438).
-/

namespace Sys2Proof.Machine

/-- The stack of a pseudo-channel. -/
def pcStack (pc : Nat) : Nat := pc / 34

/-- A row is repaired with a spare row, if the stack has one left (R445). -/
def repairRow (pc row : Nat) (s : State) : State :=
  let n := if pcStack pc = 0 then s.otp.rows.1 else s.otp.rows.2
  if n = 0 then s
  else
    let rows := if pcStack pc = 0 then (n - 1, s.otp.rows.2) else (s.otp.rows.1, n - 1)
    let t := { s with otp := { s.otp with rows := rows }, vault := { s.vault with rowCe := s.vault.rowCe.erase (pc * 2 ^ 24 + row) } }
    ((t.bump .VAULT_ROW_CNT 0).raise Src.HBM_ROW_REPAIR).raiseIf (n == 1) Src.VAULT_ROW_EXHAUST

/-- A row's corrected errors of the last 24 h, with one more now. -/
def State.rowErrors (s : State) (key : Nat) : List (Nat × Nat) :=
  (s.now, 1) :: (s.vault.rowCe.get [] key).filter (fun x => decide (s.now < x.1 + 86400000000000))

/-- A pseudo-channel in service reports an ECC error of a row (R437, R445). -/
def hbmEcc (pc row : Nat) (e : HbmEcc) (s : State) : State :=
  if s.unitState (130 + pc) ≠ 0 ∧ s.unitState (130 + pc) ≠ 2 then s
  else match e with
    | .corrected =>
      let key := pc * 2 ^ 24 + row
      let l := s.rowErrors key
      let s1 := ledgerUpdate (130 + pc) (addEcc (130 + pc) 1) ((s.bump .HBM_ECC_CORR_CNT 0).raise Src.HBM_ECC_CORR)
      let s2 := { s1 with vault := { s1.vault with rowCe := s1.vault.rowCe.set key l } }
      if s.fld F.VAULT_CFG_ROW_CE_LIMIT 0 < l.foldl (fun a x => a + x.2) 0 then repairRow pc row s2 else s2
    | .uncorrectable =>
      let t := s.setFlds 0 [(F.HBM_ECC_LAST_PC, pc), (F.HBM_ECC_LAST_ROW, row)]
      repairRow pc row ((t.bump .HBM_ECC_UNCORR_CNT 0).raise Src.HBM_ECC_UNCORR)

/-- A stack has answered no command for 10 µs. -/
def stackFails (h : Nat) (s : State) : State :=
  if s.hbm.failed.contains h then s
  else ({ s with hbm := { s.hbm with failed := h :: s.hbm.failed } }).raise Src.HBM_STACK_FAIL

/-- Of the requesters that wait at an urgency, the first at or after the pointer, wrapping from 8 to 0. -/
def firstFrom (p : Nat) (l : List Nat) : Option Nat := ((List.range 9).map (fun j => (p + j) % 9)).find? l.contains

/-- A pseudo-channel's arbiter grants one of the requests (requester, urgency, ns waited) (R438). -/
def grantHbm (pc : Nat) (waiting : List (Nat × Nat × Nat)) (s : State) : State :=
  let top := waiting.foldl (fun a x => max a x.2.1) 0
  let l := waiting.filter (fun x => x.2.1 == top)
  match firstFrom (s.hbm.turn.get 0 (4 * pc + top)) (l.map (·.1)) with
  | none => s
  | some r =>
    let ns := (l.filter (fun x => x.1 == r)).foldl (fun a x => max a x.2.2) 0
    let t := { s with hbm := { s.hbm with turn := s.hbm.turn.set (4 * pc + top) ((r + 1) % 9), granted := s.hbm.granted.set pc r } }
    if top = 0 then t else t.setFld F.HBM_WAIT_MAX_NS r (max (t.fld F.HBM_WAIT_MAX_NS r) (min 65535 ns))

/-- A write of an HBM register. -/
def writeHbm (r : RegName) (i : Nat) (v : Word) (s : State) : State :=
  match r with
  | .HBM_WAIT_MAX => s.setReg r i 0
  | _ => plainWrite r i v s

/-- HBM_STAT of a stack; USE, a measurement, is what `use` gives. -/
def State.hbmStat (s : State) (h use : Nat) : Word :=
  let pcs := (List.range 34).map (fun k => s.unitState (130 + 34 * h + k))
  BitVec.ofNat 32 (b2n (s.hbm.trained.contains h) + b2n (s.clk.asleep.contains h && s.hbmLoad h == 0) * 2
    + (pcs.filter (fun x => x == 0 || x == 2)).length * 2 ^ 8 + (pcs.filter (· == 1)).length * 2 ^ 16 + use % 101 * 2 ^ 20)

/-- The live sources of HBM_FLIVE. -/
def State.hbmFlive (s : State) : Word :=
  (if s.hbm.failed != [] then Src.HBM_STACK_FAIL.mask else 0)
    ||| (if s.hbm.trained.contains 0 && s.hbm.trained.contains 1 then 0 else Src.HBM_TRAIN_FAIL.mask)

/-- HBM_ECC_ERROR (R437). -/
def execHbmEccError (pc : Fin 68) (row : BitVec 24) (e : HbmEcc) (s : State) : Out := .next (hbmEcc pc row.toNat e s)

/-- STACK_FAIL (R437). -/
def execStackFail (h : Fin 2) (s : State) : Out := .next (stackFails h s)

/-- HBM_GRANT (R438). -/
def execHbmGrant (pc : Fin 68) (waiting : List (Fin 9 × Fin 4 × Nat)) (s : State) : Out :=
  .next (grantHbm pc (waiting.map (fun x => (x.1.val, x.2.1.val, x.2.2))) s)

end Sys2Proof.Machine
end

