-- ==== Sys2Proof/Machine/Ulink.lean ====
section
/-!
DEFINITION. The Uhlat link (R96 to R114): codewords and cells, video, ANC and audio streams, reference markers, the control
channel, the cell budget, bring-up and loss, the mailbox.
-/

namespace Sys2Proof.Machine

/-! ### Margins (R176) -/

/-- A duration of `num` / `den` ns in whole word-clock periods of 1000/297 ns, rounded down. -/
def wordPeriods (num : Int) (den : Nat) : Int := num * 297 / (1000 * (den : Int))

/-- The start of the frame of domain `n` that goes on, and its number: the one whose start has come last. -/
def State.frameNow (s : State) (n : Nat) : Option (Int × Nat) :=
  let x := s.tdOf n
  let k := (s.reg .REF_TD_FRAME n).toNat
  let past : Option (Int × Nat) := x.last.map (fun t => (t.start, k))
  match x.opened with
  | some t => if t.start ≤ s.etFull then some (t.start, k + 1) else past
  | none => past

/-- The margin of a word that is written at `w` ns, `off` word-clock periods after the EAV of its line in the raster:
N(w) − W(w), against the frame of the VIN's domain that lies nearest (R176). -/
def State.rasterMargin (s : State) (v line : Nat) (w : Int) (off : Nat) : Int :=
  let n := s.vinTd v
  let t3 := s.tf3 n
  match s.frameNow n with
  | none => 0
  | some (f, _) =>
    let d := 3 * (s.totalLines n : Int)
    let num := (f + 184 - w) * d + (((line - 1) * t3 : Nat) : Int)
    let per := (t3 : Int) * (s.totalLines n : Int)
    let m := num % per
    wordPeriods (if per < 2 * m then m - per else m) (3 * s.totalLines n) + (off : Int)

/-! ### Links and streams -/

/-- A link's hidden state. -/
def State.link (s : State) (l : Nat) : UlLink := s.ul.get .reset l

/-- A link's hidden state replaced. -/
def State.setLink (s : State) (l : Nat) (x : UlLink) : State := { s with ul := s.ul.set l x }

/-- A stream in reception. -/
def State.stream (s : State) (k : Nat) : UlStream := s.ulRx.get .reset k

/-- A stream replaced. -/
def State.setStream (s : State) (k : Nat) (x : UlStream) : State := { s with ulRx := s.ulRx.set k x }

/-- ULINK_STAT.STATE (R109). -/
def State.linkState (s : State) (l : Nat) : Nat := s.fld F.ULINK_STAT_STATE l

/-- The link is UP. -/
def State.linkUp (s : State) (l : Nat) : Bool := s.linkState l == 5

/-- The stream of a cell is bound to a VIN. -/
def State.rxBound (s : State) (k : Nat) : Bool := s.flag F.ULINK_RXV_EN k

/-- The VINs of a link's bound streams have no signal (R110). -/
def linkSilent (l : Nat) (s : State) : State :=
  (List.range 24).foldl (fun t j =>
    let k := 24 * l + j
    let u := if t.rxBound k then setVinPresent (t.fld F.ULINK_RXV_VIN k) false t else t
    u.setStream k .reset) s

/-- A link in TRAINING whose lane is locked and adapted enters ALIGNING (R109). -/
def linkTrains (l : Nat) (s : State) : State :=
  let n := s.fld F.ULINK_CFG_LANE l
  if s.linkState l = 1 ∧ s.flag F.LANE_STAT_CDR_LOCK n ∧ (s.flag F.LANE_STAT_ADAPT_DONE n ∨ s.fld F.LANE_RXEQ_ADAPT n = 1) then
    (s.setFld F.ULINK_STAT_STATE l 2).setLink l { s.link l with good := 0, bad := 0, uncorr := [], lastHello := s.now }
  else s

/-- A link returns to TRAINING (R110). -/
def linkFalls (l : Nat) (s : State) : State :=
  if s.linkState l < 2 then s
  else
    let s1 := s.setFlds l [(F.ULINK_STAT_STATE, 1), (F.ULINK_STAT_HOP_VALID, 0)]
    let x := s1.link l
    let s2 := s1.setLink l { UlLink.reset with fLocal := x.fLocal, marks := x.marks, markRate := x.markRate, mail := x.mail,
                                               mailDue := x.mailDue, slot := x.slot, echoId := x.echoId }
    let s3 := { s2 with esc := { s2.esc with link := l :: s2.esc.link.filter (· != l) } }
    linkTrains l (((linkSilent l s3).bump .ULINK_DOWN_CNT l).raise Src.ULINK_LINK_DOWN)

/-- The enabled link of a lane. -/
def State.laneLink (s : State) (n : Nat) : Option Nat :=
  (List.range 32).find? (fun l => s.flag F.ULINK_CFG_EN l && s.fld F.ULINK_CFG_LANE l == n)

/-! ### Codewords (R96, R98, R109, R110) -/

/-- Seventeen uncorrectable codewords lie within 1 ms. -/
def tooManyBad (l : List Nat) : Bool :=
  match l, l.getLast? with
  | a :: _, some b => decide (17 ≤ l.length) && decide (a - b ≤ 1000000)
  | _, _ => false

/-- A codeword is received on a link that is at least ALIGNING. -/
def codewordIn (l : Nat) (r : CodewordResult) (s : State) : State :=
  if s.linkState l < 2 then s
  else
    let x := s.link l
    let bad := r.uncorrectable || r.align != 0xB#4
    let next := r.seq.toNat == (x.lastSeq + 1) % 256
    let good := if bad then 0 else if x.good ≠ 0 ∧ next then x.good + 1 else 1
    let unc := if r.uncorrectable then (s.now :: x.uncorr).take 17 else x.uncorr
    let s1 := s.setLink l { x with good := good, lastSeq := r.seq.toNat, bad := if bad then x.bad + 1 else 0, uncorr := unc }
    let s2 := s1.bumpN .ULINK_FEC_CORR l (if r.uncorrectable then 0 else r.corrected)
    let s3 := if r.uncorrectable then
        ((s2.bump .ULINK_FEC_UNCORR l).bumpN .ULINK_CELL_LOST l 5).raise Src.ULINK_FEC_UNCORR else s2
    if 4 ≤ x.bad + b2n bad ∧ bad then linkFalls l s3
    else if r.uncorrectable && tooManyBad unc then linkFalls l s3
    else if s3.linkState l = 2 ∧ 3 ≤ good then
      (s3.setFld F.ULINK_STAT_STATE l 3).setLink l { s3.link l with helloDue := true, lastHello := s3.now }
    else s3

/-- A cell that the receiver discards is counted (R98, R105). -/
def cellLost (l : Nat) (s : State) : State := s.bump .ULINK_CELL_LOST l

/-- A cell of reserved TYPE, or a control cell of a reserved message type (R97, R105). -/
def reservedCell (c : Cell) : Bool :=
  decide (6 ≤ c.head.type.toNat) || (c.head.type == 5#4 && !([1, 2, 3, 16].contains (beNat (c.payload.take 1))))

/-- A reserved cell is discarded and counted (R98, R105). -/
def discardReserved (l : Nat) (s : State) : State := if s.linkState l < 2 then s else cellLost l s

/-! ### Video (R99) -/

/-- Bytes at places `from_` up to `upto` of a stream's previous line. -/
def prevBytes (x : UlStream) (from_ upto : Nat) : List Byte :=
  (List.range (upto - from_)).map (fun j => x.prev.getD (from_ + j) 0)

/-- Essence bytes as 64-byte words. -/
def toWords (n : Nat) (bs : List Byte) : List (List Byte) :=
  (List.range n).map (fun w => (List.range 64).map (fun j => bs.getD (64 * w + j) 0))

/-- The line number of a stream counts on where its header was lost. -/
def UlStream.nextLine (x : UlStream) : Nat :=
  let tot := fmtTotalLines x.fmt
  if tot ≤ x.line then 1 else x.line + 1

/-- Missing bytes are filled from the stream's previous line (R99). -/
def UlStream.fillTo (x : UlStream) (n : Nat) : UlStream :=
  if x.got.length < n then
    { x with got := x.got ++ prevBytes x x.got.length n,
             margins := x.margins ++ List.replicate (ceilDiv n 64 - x.margins.length) (x.margins.getLast?.getD 0) }
  else x

/-- A VIN whose format was not known takes it from the first line that names a valid one, and its storage is reserved
(notes/assumptions/32.md). -/
def learnFormat (v fmt : Nat) (s : State) : State :=
  let x := s.vinRec v
  if x.kind = 3 ∧ x.fmt = 0 ∧ fmtValid fmt then reserveVin v fmt (s.setVin v { x with fmt := fmt }) else s

/-- A stream's line is complete: its CRC is checked, and it is delivered with its ANC (R99, R100). -/
def closeLine (l k : Nat) (s : State) : State :=
  let x := (s.stream k).fillTo ((s.stream k).bytes + 4)
  let data := x.got.take x.bytes
  let ok := beNat ((x.got.drop x.bytes).take 4) == crc32c data
  let s1 := if ok then s else (s.bump .ULINK_LINE_CRC l).raise Src.ULINK_LINE_CRC
  let v := s1.fld F.ULINK_RXV_VIN k
  let anc := (x.ancWait.filter (fun a => a.1 == x.line)).map (·.2)
  let s2 := s1.setStream k { x with open_ := false, prev := data, got := [], margins := [],
                                    ancWait := x.ancWait.filter (fun a => a.1 != x.line) }
  if s2.rxBound k && s2.linkUp l then
    let s3 := learnFormat v x.fmt s2
    let n := fmtWords (s3.vinRec v).fmt
    let line : LineIn := ⟨x.line, x.frame, bit x.flags 1, toWords n data, x.margins.take n, anc, s3.etFull⟩
    writeLine v line s3
  else s2

/-- The margins of the words that a cell completes. -/
def cellMargins (s : State) (k : Nat) (x : UlStream) (total : Nat) : List Int :=
  let v := s.fld F.ULINK_RXV_VIN k
  let w := s.etFull + 819
  (List.range (total / 64 - x.margins.length)).map (fun j =>
    s.rasterMargin v x.line w (Config.rasterOffset x.fmt (x.margins.length + j)))

/-- A VIDEO cell joins its line. -/
def videoIn (l : Nat) (c : Cell) (s : State) : State :=
  let k := 24 * l + c.head.stream.toNat
  if !s.linkUp l then s
  else if decide (24 ≤ c.head.stream.toNat) || !s.rxBound k then cellLost l s
  else if c.head.first then
    let s1 := if (s.stream k).open_ then closeLine l k s else s
    let x := s1.stream k
    let h (a n : Nat) : Nat := beNat ((c.payload.drop a).take n)
    let y : UlStream := { x with line := h 0 2, frame := h 2 2, fmt := h 4 1, flags := h 5 1, bytes := h 6 2, nextSeq := 1,
                                 open_ := true, got := (c.payload.take 124).drop 8, margins := [], waitStart := false }
    let s2 := s1.setStream k { y with margins := cellMargins s1 k y y.got.length }
    if c.head.last then closeLine l k s2 else s2
  else
    let x := s.stream k
    if x.waitStart then s
    else
      let x1 := if x.open_ then x else
        { x with line := x.nextLine, open_ := true, got := [], margins := [], nextSeq := 0 }
      let x2 := x1.fillTo (124 * c.head.seq.toNat - 8)
      let y := { x2 with got := x2.got ++ c.payload.take 124, nextSeq := c.head.seq.toNat + 1 }
      let s2 := s.setStream k { y with margins := y.margins ++ cellMargins s k y y.got.length }
      if c.head.last then closeLine l k s2 else s2

/-! ### ANC (R100) -/

/-- The words of an ANC packet, each right-aligned in 16 bits. -/
def ancWords : Nat → List Byte → List Nat
  | 0, _ => []
  | n + 1, a :: b :: t => (a.toNat * 256 + b.toNat) % 1024 :: ancWords n t
  | n + 1, _ => List.replicate (n + 1) 0

/-- A packet lies in horizontal ancillary space when it ends before the active picture; where the raster begins its
picture is not the manual's, so the word count from EAV decides by Config.rasterOffset. -/
def ancHanc (fmt pos : Nat) : Bool := decide (pos < Config.rasterOffset fmt 0)

/-- An ANC packet is delivered: with the line when it comes, or into the line that the pool holds already. -/
def ancDeliver (k line : Nat) (a : AncPacket) (s : State) : State :=
  let v := s.fld F.ULINK_RXV_VIN k
  match s.poolOf v with
  | p :: t =>
    if p.line = line then { s with xpt := { s.xpt with pool := s.xpt.pool.set v ({ p with anc := p.anc ++ [a] } :: t) } }
    else s.setStream k { s.stream k with ancWait := ((line, a) :: (s.stream k).ancWait).take 64 }
  | [] => s.setStream k { s.stream k with ancWait := ((line, a) :: (s.stream k).ancWait).take 64 }

/-- An ANC cell joins its packet. -/
def ancIn (l : Nat) (c : Cell) (s : State) : State :=
  let k := 24 * l + c.head.stream.toNat
  if !s.linkUp l then s
  else if decide (24 ≤ c.head.stream.toNat) || !s.rxBound k then cellLost l s
  else
    let x := s.stream k
    let got := (if c.head.first then [] else x.anc) ++ (c.payload.take 124).drop 6
    let s1 := s.setStream k { x with anc := if c.head.last then [] else got }
    if c.head.last then
      let h (a : Nat) : Nat := beNat ((c.payload.drop a).take 2)
      ancDeliver k (h 0) ⟨h 4, ancHanc x.fmt (h 4), ancWords (h 2) got⟩ s1
    else s1

/-! ### Audio (R101) -/

/-- The sample in a word of an AUDIO cell. -/
def audWord (w : Nat) : AudSample := ⟨BitVec.ofNat 24 (w / 256), bit w 7, bit w 6, bit w 5, bit w 4⟩

/-- The word of a sample. -/
def wordAud (a : AudSample) : Nat := a.val.toNat * 256 + b2n a.v * 128 + b2n a.u * 64 + b2n a.c * 32 + b2n a.z * 16

/-- An AUDIO cell delivers its channels. -/
def audioIn (l : Nat) (c : Cell) (s : State) : State :=
  if !s.linkUp l then s
  else
    let p := c.payload
    let first := beNat (p.take 2)
    let cnt := min 30 (beNat ((p.drop 2).take 1))
    let odd := beNat ((p.drop 3).take 1) % 2
    let fs96 := s.flag F.ULINK_CFG_AUD96 l
    let base := s.fld F.ULINK_RXA_ACH_BASE l
    (List.range cnt).foldl (fun t j =>
      if first + j < t.fld F.ULINK_RXA_COUNT l then
        let ch := base + first + j
        deliver (if fs96 then 2 * ch + odd else ch) (audWord (beNat ((p.drop (4 + 4 * j)).take 4))) t
      else t) s

/-! ### Markers and control (R102 to R106, R109, R111) -/

/-- A MARKER arrives (R104). -/
def markerIn (l : Nat) (m : MarkerMsg) (s : State) : State :=
  if !s.linkUp l then s
  else
    let d := etDiff m.fEt.toNat m.txEt.toNat
    let f := s.etFull - (s.fld F.ULINK_HOP_NS_HOP l : Nat) + d
    let x := s.link l
    let s1 := s.setLink l { x with fLocal := some f, marks := x.marks + 1, markRate := m.rate.toNat }
    let s2 := (s1.setFld F.ULINK_STAT_RX_QL l (m.ql.toNat % 16)).bump .ULINK_MARK_CNT l
    if 2 ≤ x.marks + 1 then s2.setFlag F.ULINK_STAT_MARK_OK l true else s2

/-- MARK_OK falls (R104). -/
def markLost (l : Nat) (s : State) : State :=
  let t := s.setLink l { s.link l with marks := 0 }
  if s.flag F.ULINK_STAT_MARK_OK l then (t.setFlag F.ULINK_STAT_MARK_OK l false).raise Src.ULINK_MARK_LOST else t

/-- A HELLO arrives (R105, R109). -/
def helloIn (l : Nat) (m : HelloMsg) (s : State) : State :=
  if s.linkState l < 3 then s
  else
    let s1 := s.setFlds l [(F.ULINK_STAT_PEER_SLOT, m.slot.toNat), (F.ULINK_STAT_PEER_SIDE, b2n m.side),
      (F.ULINK_STAT_PEER_LINK, m.link.toNat)]
    let s2 := s1.setLink l { s1.link l with peerSeen := true, badVersion := m.version != 1#8, lastHello := s1.now }
    if m.version ≠ 1#8 then s2.raise Src.ULINK_PEER_MISMATCH
    else if s2.linkState l = 3 ∧ m.peerSeen then s2.setFld F.ULINK_STAT_STATE l 4
    else s2

/-- An ECHO_REQ is to be answered (R105). -/
def echoReqIn (l : Nat) (id : BitVec 16) (t1 : Nat) (s : State) : State :=
  if s.linkState l < 3 then s
  else s.setLink l { s.link l with echoDue := (s.link l).echoDue ++ [(id, t1, s.et)] }

/-- An ECHO_RSP gives a hop-latency sample; with eight, HOP_VALID and UP (R106, R109). -/
def echoRspIn (l : Nat) (id : BitVec 16) (t1 t2 t3 : Nat) (s : State) : State :=
  let x := s.link l
  if s.linkState l < 4 ∨ id ≠ x.echoId then s
  else
    let sample := etDiff s.et t1 - etDiff t3 t2
    let hops := (sample :: x.hops).take 8
    let s1 := s.setLink l { x with hops := hops }
    if hops.length < 8 then s1
    else
      let (h, s2) := s1.divFree (hops.foldl (· + ·) 0) 16
      let s3 := (s2.setFld F.ULINK_HOP_NS_HOP l (unsign 24 h)).setFlag F.ULINK_STAT_HOP_VALID l true
      if s3.linkState l = 4 then (s3.setFld F.ULINK_STAT_STATE l 5).raise Src.ULINK_LINK_UP else s3

/-- The head of the received messages is what ULINK_MB_RXBUF and RX_CNT show (R111). -/
def showMail (l : Nat) (s : State) : State :=
  let m := (s.link l).mail
  let head := m.head?.getD []
  let s1 := (List.range 32).foldl (fun t w => t.setReg .ULINK_MB_RXBUF (32 * l + w)
    (BitVec.ofNat 32 (leNat ((head.drop (4 * w)).take 4)))) s
  s1.setFld F.ULINK_MB_CTL_RX_CNT l m.length

/-- A MAILBOX message arrives (R111). -/
def mailIn (l : Nat) (msg : List Byte) (s : State) : State :=
  if !s.linkUp l then s
  else if 4 ≤ (s.link l).mail.length then s.raise Src.ULINK_MB_RX_OVF
  else showMail l (s.setLink l { s.link l with mail := (s.link l).mail ++ [msg.take 122] })

/-! ### The cell budget (R108) -/

/-- A sum of fractions. -/
def addFrac (a b : Nat × Nat) : Nat × Nat := (a.1 * b.2 + b.1 * a.2, a.2 * b.2)

/-- C(s) of a stream in bit/s, as a fraction: the VOUT's format and the domain that governs it. -/
def State.streamLoad (s : State) (vout anc : Nat) : Nat × Nat :=
  let f := s.fld F.XPT_VOUT_CFG_FMT vout
  let e : Nat × Nat := if fmtDivided f then (fmtFullKbps f * 1000000 * 128, 1001 * 124) else (fmtFullKbps f * 1000 * 128, 124)
  match s.ownerTd vout with
  | none => e
  | some n => addFrac e ((1 + anc) * 1024 * s.totalLines n * 3000000000, max 1 (s.tf3 n))

/-- C_a in bit/s. -/
def audioLoad (count : Nat) (fs96 : Bool) : Nat := ceilDiv count 30 * 1024 * (if fs96 then 96000 else 48000)

/-- The budget sum of a link with one stream's binding, the audio count or AUD96 replaced, in bit/s as a fraction. -/
def State.linkLoad (s : State) (l : Nat) (txv : Nat → Word) (count : Nat) (fs96 : Bool) : Nat × Nat :=
  (List.range 24).foldl (fun a j =>
    let v := txv (24 * l + j)
    if F.ULINK_TXV_EN.of v = 1 then addFrac a (s.streamLoad (F.ULINK_TXV_VOUT.of v) (F.ULINK_TXV_ANC_CELLS.of v)) else a)
    (audioLoad count fs96, 1)

/-- The sum stays within 49.9 Gbit/s. -/
def loadFits (x : Nat × Nat) : Bool := decide (x.1 ≤ 49900000000 * x.2)

/-- The link's present load. -/
def State.linkLoadNow (s : State) (l : Nat) : Nat × Nat :=
  s.linkLoad l (fun k => s.reg .ULINK_TXV k) (s.fld F.ULINK_TXA_COUNT l) (s.flag F.ULINK_CFG_AUD96 l)

/-! ### Register writes -/

/-- Uhlat audio may carry this many channels. -/
def audCountOk (n : Nat) (fs96 : Bool) : Bool := decide (n ≤ if fs96 then 512 else 1024)

/-- The feeder that a link's received audio is. -/
def linkFeed (l : Nat) (v : Word) (fs96 : Bool) : AudFeed :=
  mkFeed 3 l (F.ULINK_RXA_ACH_BASE.of v) (F.ULINK_RXA_COUNT.of v) fs96 true false

/-- The link's received audio takes its slots. -/
def feedLink (l : Nat) (s : State) : State :=
  let f := linkFeed l (s.reg .ULINK_RXA l) (s.flag F.ULINK_CFG_AUD96 l)
  if f.slots = 0 then unfeed 3 l s else touchSlots ((List.range f.slots).map (f.slot + ·)) (feed f s)

/-- The lane of a link carries Uhlat at rate 11 in both directions (R84, R85). -/
def State.laneUhlat (s : State) (n : Nat) : Bool :=
  s.fld F.LANE_CFG_RX_PROTO n == 3 && s.fld F.LANE_CFG_TX_PROTO n == 3 && s.fld F.LANE_CFG_RX_RATE n == 11
    && s.fld F.LANE_CFG_TX_RATE n == 11

/-- A link is switched on or off (R109). -/
def linkSwitch (l : Nat) (was : Bool) (s : State) : State :=
  let on := s.flag F.ULINK_CFG_EN l
  if on && !was then
    let t := s.setLink l { UlLink.reset with mail := (s.link l).mail, mailDue := (s.link l).mailDue }
    if t.laneUhlat (t.fld F.ULINK_CFG_LANE l) then linkTrains l (t.setFld F.ULINK_STAT_STATE l 1) else t
  else if was && !on then
    let t := linkSilent l (s.setFlds l [(F.ULINK_STAT_STATE, 0), (F.ULINK_STAT_HOP_VALID, 0)])
    t.setLink l { UlLink.reset with mail := (t.link l).mail, mailDue := (t.link l).mailDue }
  else s

/-- A write of ULINK_CFG (R108, R109, R114). -/
def writeUlinkCfg (l : Nat) (v : Word) (s : State) : State :=
  let was := s.flag F.ULINK_CFG_EN l
  let a := F.ULINK_CFG_AUD96.of v = 1
  let moves := changes F.ULINK_CFG_AUD96 s l v
  let f := linkFeed l (s.reg .ULINK_RXA l) a
  let bad := (was && changes F.ULINK_CFG_LANE s l v)
    || (moves && (!loadFits (s.linkLoad l (fun k => s.reg .ULINK_TXV k) (s.fld F.ULINK_TXA_COUNT l) a)
        || !audCountOk (s.fld F.ULINK_TXA_COUNT l) a || !audCountOk (s.fld F.ULINK_RXA_COUNT l) a || !s.mayFeed f))
  if bad then s.reject .ULINK
  else
    let t := plainWrite .ULINK_CFG l v s
    linkSwitch l was (if moves then feedLink l t else t)

/-- A VOUT is bound to a sender other than stream `k` (R108, R117). -/
def State.voutTaken (s : State) (o k : Nat) : Bool :=
  s.sender o == 1 || s.sender o == 3
    || (List.range 768).any (fun j => j != k && s.flag F.ULINK_TXV_EN j && s.fld F.ULINK_TXV_VOUT j == o)

/-- A write of ULINK_TXV (R108, R117). -/
def writeTxv (k : Nat) (v : Word) (s : State) : State :=
  let l := k / 24
  let on := F.ULINK_TXV_EN.of v = 1
  let bad := decide (32 < F.ULINK_TXV_ANC_CELLS.of v) || (decide on && (s.voutTaken (F.ULINK_TXV_VOUT.of v) k
    || !loadFits (s.linkLoad l (fun j => if j = k then v else s.reg .ULINK_TXV j) (s.fld F.ULINK_TXA_COUNT l)
        (s.flag F.ULINK_CFG_AUD96 l))))
  guardedWrite bad .ULINK_TXV k v s

/-- A write of ULINK_RXV (R99, R117, R170, R172). -/
def writeRxv (k : Nat) (v : Word) (s : State) : State :=
  let on := F.ULINK_RXV_EN.of v = 1
  let was := s.rxBound k
  let old := s.fld F.ULINK_RXV_VIN k
  let new := F.ULINK_RXV_VIN.of v
  let same := was && decide on && old == new
  if !same && decide on && (s.vinRec new).feeder && !(was && old == new) then s.reject .ULINK
  else
    let s1 := plainWrite .ULINK_RXV k v s
    if same then s1
    else
      let s2 := if was then detachVin old s1 else s1
      let s3 := s2.setStream k .reset
      if on then attachVin new 3 (if s3.vinRead new then (s3.vinRec new).fmt else 0) 0 0 s3 else s3

/-- A write of ULINK_TXA (R108). -/
def writeTxa (l : Nat) (v : Word) (s : State) : State :=
  let n := F.ULINK_TXA_COUNT.of v
  let a := s.flag F.ULINK_CFG_AUD96 l
  guardedWrite (!audCountOk n a || !loadFits (s.linkLoad l (fun k => s.reg .ULINK_TXV k) n a)) .ULINK_TXA l v s

/-- A write of ULINK_RXA (R101, R267). -/
def writeRxa (l : Nat) (v : Word) (s : State) : State :=
  let a := s.flag F.ULINK_CFG_AUD96 l
  if !audCountOk (F.ULINK_RXA_COUNT.of v) a || !s.mayFeed (linkFeed l v a) then s.reject .ULINK
  else feedLink l (plainWrite .ULINK_RXA l v s)

/-- A write of ULINK_MB_CTL (R111). -/
def writeMb (l : Nat) (v : Word) (s : State) : State :=
  let send := F.ULINK_MB_CTL_SEND.of v = 1
  let n := F.ULINK_MB_CTL_LEN.of v
  if send ∧ (s.flag F.ULINK_MB_CTL_TX_BUSY l ∨ n = 0 ∨ 122 < n) then s.reject .ULINK
  else
    let s1 := plainWrite .ULINK_MB_CTL l v s
    let s2 := if send then
        let msg := ((List.range 32).flatMap (fun w => leBytes 4 (s1.reg .ULINK_MB_TXBUF (32 * l + w)).toNat)).take n
        (s1.setLink l { s1.link l with mailDue := some msg }).setFlag F.ULINK_MB_CTL_TX_BUSY l true
      else s1
    if F.ULINK_MB_CTL_POP.of v = 1 then showMail l (s2.setLink l { s2.link l with mail := (s2.link l).mail.drop 1 }) else s2

/-- A write of a ULINK register (R114). -/
def writeUlink (r : RegName) (i : Nat) (v : Word) (s : State) : State :=
  match r with
  | .ULINK_CFG => writeUlinkCfg i v s
  | .ULINK_TXV => writeTxv i v s
  | .ULINK_RXV => writeRxv i v s
  | .ULINK_TXA => writeTxa i v s
  | .ULINK_RXA => writeRxa i v s
  | .ULINK_MB_CTL => writeMb i v s
  | _ => plainWrite r i v s

/-- ULINK_LOAD, in Mbit/s rounded up (R108). -/
def State.ulinkLive (s : State) (r : RegName) (i : Nat) : Option Word :=
  match r with
  | .ULINK_LOAD => let x := s.linkLoadNow i; some (BitVec.ofNat 32 (ceilDiv x.1 (x.2 * 1000000)))
  | _ => none

/-! ### Sending (R97, R99 to R103, R107) -/

/-- A cell as bytes: its header and its payload, unused bytes 0. -/
def cellBytes (type : Nat) (first last : Bool) (stream seq wait : Nat) (payload : List Byte) : List Byte :=
  beBytes 4 (type * 2 ^ 28 + b2n first * 2 ^ 27 + b2n last * 2 ^ 26 + stream % 64 * 2 ^ 20 + seq % 4096 * 2 ^ 8 + wait % 256)
    ++ (payload ++ List.replicate 124 0).take 124

/-- Chunks of `n` of a list, at most `fuel`. -/
def chunks {α : Type} (n : Nat) : Nat → List α → List (List α)
  | 0, _ => []
  | _ + 1, [] => []
  | k + 1, l => l.take n :: chunks n k (l.drop n)

/-- The QL that a marker carries (R103). -/
def State.markerQl (s : State) (l : Nat) : Nat :=
  if s.fld F.ULINK_CFG_QL_MODE l = 0 then
    match s.loop with
    | 2 => s.sourceQl s.refsel
    | 3 => s.sourceQl s.refsel
    | 4 => s.sourceQl s.refsel
    | 5 => s.fld F.ULINK_CFG_HOLD_QL l
    | _ => 0
  else s.fld F.ULINK_CFG_QL_TX l

/-- The marker that is due: the first slot at or after F(N − 1) (R102). -/
def State.markerDue (s : State) (l : Nat) : Option (Int × List Byte) :=
  let n := s.fld F.ULINK_CFG_MARK_TD l
  if !s.flag F.ULINK_CFG_MARK_EN l || !s.tdEn n then none
  else match s.frameNow n with
    | none => none
    | some (f, k) =>
      if (s.link l).markerAt = some f then none
      else
        let next := f + ((s.tf3 n / 3 : Nat) : Int)
        some (f, beBytes 1 (s.markerQl l) ++ beBytes 1 (s.fld F.REF_TD_CFG_RATE n + s.fld F.REF_TD_CFG_SCAN n * 16 + n * 32)
          ++ beBytes 6 s.et ++ beBytes 6 (unsign 48 next) ++ beBytes 4 (k + 1))

/-- The AUDIO cells of the period last processed, each with its due instant (R101). -/
def State.audioCells (s : State) (l : Nat) : List (Nat × List Byte) :=
  let n := s.fld F.ULINK_TXA_COUNT l
  let base := s.fld F.ULINK_TXA_ACH_BASE l
  let fs96 := s.flag F.ULINK_CFG_AUD96 l
  let p := s.aud.period
  let cells := ceilDiv n 30
  let one (h : Nat) : List (Nat × List Byte) :=
    let start := if fs96 then (2 * p + h) * 31250 / 3 else periodStart p
    let ts := if fs96 then 31250 else 62500
    let cnt := if fs96 then 2 * p + h else p
    (List.range cells).map (fun i =>
      let m := min 30 (n - 30 * i)
      (start + ceilDiv (i * ts) (3 * cells), beBytes 2 (30 * i) ++ beBytes 1 m ++ beBytes 1 (cnt % 256)
        ++ (List.range m).flatMap (fun j =>
          let ch := base + 30 * i + j
          beBytes 4 (wordAud (s.outSample (if fs96 then 2 * ch + h else ch))))))
  if fs96 then one 0 ++ one 1 else one 0

/-- The payload of a line: its header, its essence bytes and their CRC (R99). -/
def linePayload (fmt : Nat) (field2 : Bool) (x : OutLine) : List Byte :=
  let data := (x.words.flatten).take (ceilDiv (fmtLineComps fmt * fmtDepth fmt) 8)
  beBytes 2 x.line ++ beBytes 2 x.frame ++ beBytes 1 fmt ++ beBytes 1 (b2n field2 + b2n x.present * 2) ++ beBytes 2 data.length
    ++ data ++ beBytes 4 (crc32c data)

/-- The VIDEO cells of a line, each due when its bytes have left the Line Pool. -/
def videoCells (fmt slot stream : Nat) (field2 : Bool) (x : OutLine) : List CellWait :=
  let cs := chunks 124 4096 (linePayload fmt field2 x)
  let last := cs.length - 1
  cs.zipIdx.map (fun e =>
    let w := (124 * (e.2 + 1) - 8) / 64
    let due := slot + ceilDiv ((Config.rasterOffset fmt w - Config.rasterOffset fmt 0) * 100000) (297 * 2048)
    ⟨due, stream, 2 ^ 28 + b2n (e.2 == 0) * 2 ^ 27 + b2n (e.2 == last) * 2 ^ 26 + e.2 % 4096 * 2 ^ 8, e.1⟩)

/-- The ANC cells of one packet (R100). -/
def ancCells (slot stream line : Nat) (a : AncPacket) : List CellWait :=
  let cs := chunks 59 64 a.words
  let last := cs.length - 1
  cs.zipIdx.map (fun e => ⟨slot, stream, 3 * 2 ^ 28 + b2n (e.2 == 0) * 2 ^ 27 + b2n (e.2 == last) * 2 ^ 26,
    beBytes 2 line ++ beBytes 2 a.words.length ++ beBytes 2 a.pos ++ e.1.flatMap (beBytes 2)⟩)

/-- The packets of a line that its allowance lets through, in ascending position, and how many are dropped (R100). -/
def ancAllowed (room : Nat) : List AncPacket → List AncPacket × Nat
  | [] => ([], 0)
  | a :: t =>
    let n := max 1 (ceilDiv a.words.length 59)
    if n ≤ room then
      let (l, d) := ancAllowed (room - n) t
      (a :: l, d)
    else
      let (l, d) := ancAllowed room t
      (l, d + 1)

/-- A stream whose VOUT has given a new line takes its cells. -/
def takeLine (l j : Nat) (s : State) : State :=
  let k := 24 * l + j
  let o := s.fld F.ULINK_TXV_VOUT k
  match s.flag F.ULINK_TXV_EN k, s.xpt.out.find? o with
  | true, some x =>
    let y := s.link l
    if y.seen.find? j = some (x.line, x.frame) then s
    else
      let fmt := s.fld F.XPT_VOUT_CFG_FMT o
      let (anc, dropped) := ancAllowed (s.fld F.ULINK_TXV_ANC_CELLS k) (sortBy (fun a b => decide (a.pos < b.pos)) x.anc)
      let half := fmtInterlaced fmt && decide (fmtTotalLines fmt < 2 * x.line)
      let cells := anc.flatMap (ancCells y.slot j x.line) ++ videoCells fmt y.slot j half x
      (s.setLink l { y with seen := y.seen.set j (x.line, x.frame), cellsDue := y.cellsDue ++ cells }).bumpN .ULINK_ANC_DROP l dropped
  | _, _ => s

/-- What becomes due in the sender by this slot. -/
def gather (l : Nat) (s : State) : State :=
  let s1 := (List.range 24).foldl (fun t j => takeLine l j t) s
  let y := s1.link l
  if y.audioPeriod = s1.aud.period then s1
  else s1.setLink l { y with audioPeriod := s1.aud.period, audioDue := y.audioDue ++ s1.audioCells l }

/-- The oldest due video or ANC cell; in one slot the lowest stream. -/
def oldestCell (slot : Nat) (cs : List CellWait) : Option CellWait :=
  (cs.filter (fun c => decide (c.due ≤ slot))).foldl (fun a c =>
    match a with
    | none => some c
    | some b => if c.due < b.due ∨ (c.due = b.due ∧ c.stream < b.stream) then some c else a) none

/-- A list without the first element equal to `x`. -/
def dropOne {α : Type} [DecidableEq α] (x : α) : List α → List α
  | [] => []
  | y :: t => if y = x then t else y :: dropOne x t

/-- A control cell. -/
def controlCell (payload : List Byte) : List Byte := cellBytes 5 true true 0 0 0 payload

/-- The HELLO that a link sends (R105). -/
def State.helloPayload (s : State) (l : Nat) : List Byte :=
  [1#8, 1#8] ++ beBytes 1 (s.fld F.IDM_STRAP_SLOT_ID 0 % 64 + b2n (s.link l).peerSeen * 64 + s.fld F.IDM_STRAP_CARD_SIDE 0 % 2 * 128)
    ++ beBytes 1 l

/-- The lowest two classes of R107: HELLO, MAILBOX, IDLE. -/
def lowCell (l : Nat) (s : State) : List Byte × State :=
  let y := s.link l
  if y.helloDue ∧ 3 ≤ s.linkState l then (controlCell (s.helloPayload l), s.setLink l { y with helloDue := false })
  else match y.mailDue with
    | some m =>
      if s.linkUp l then
        (controlCell ([0x10#8] ++ beBytes 1 m.length ++ m),
          (s.setLink l { y with mailDue := none }).setFlag F.ULINK_MB_CTL_TX_BUSY l false)
      else (cellBytes 0 false false 0 0 0 [], s)
    | none => (cellBytes 0 false false 0 0 0 [], s)

/-- ANC and VIDEO, then the lowest classes. -/
def videoSlot (l : Nat) (s : State) : List Byte × State :=
  let y := s.link l
  match s.linkUp l, oldestCell y.slot y.cellsDue with
  | true, some c =>
    (beBytes 4 (c.head + c.stream % 64 * 2 ^ 20 + min 30 (y.slot - c.due)) ++ (c.bytes ++ List.replicate 124 0).take 124,
      s.setLink l { y with cellsDue := dropOne c y.cellsDue })
  | _, _ => lowCell l s

/-- AUDIO once due, then the classes below it. -/
def audioSlot (l : Nat) (s : State) : List Byte × State :=
  let y := s.link l
  match s.linkUp l, y.audioDue with
  | true, (t, p) :: rest =>
    if (t : Int) ≤ s.etFull then (cellBytes 2 true true 0 0 0 p, s.setLink l { y with audioDue := rest }) else videoSlot l s
  | _, _ => videoSlot l s

/-- The echoes, then the classes below them. -/
def echoSlot (l : Nat) (s : State) : List Byte × State :=
  let y := s.link l
  if y.echoReqDue ∧ 4 ≤ s.linkState l then
    (controlCell ([2#8] ++ beBytes 2 y.echoId.toNat ++ beBytes 6 s.et), s.setLink l { y with echoReqDue := false })
  else match y.echoDue with
    | (id, t1, t2) :: rest =>
      (controlCell ([3#8] ++ beBytes 2 id.toNat ++ beBytes 6 t1 ++ beBytes 6 t2 ++ beBytes 6 s.et),
        s.setLink l { y with echoDue := rest })
    | [] => audioSlot l s

/-- The cell of one slot, the first available in the order of R107. -/
def slotCell (l : Nat) (s : State) : List Byte × State :=
  match s.linkUp l, s.markerDue l with
  | true, some (f, p) => (cellBytes 4 true true 0 0 0 p, s.setLink l { s.link l with markerAt := some f })
  | _, _ => echoSlot l s

/-- One cell slot of a link that is at least ALIGNING: what it sends is on the lane's `wire`. -/
def sendCell (l : Nat) (s : State) : State :=
  if s.linkState l < 2 then s
  else
    let (c, s2) := slotCell l (gather l s)
    let y := s2.link l
    (s2.setLink l { y with slot := y.slot + 1 }).send (s2.fld F.ULINK_CFG_LANE l) c

/-! ### Meanings -/

/-- CODEWORD_RX (R98, R109, R110). -/
def execCodewordRx (l : Fin 32) (r : CodewordResult) (s : State) : Out := .next (codewordIn l r s)

/-- VIDEO_CELL (R99). -/
def execVideoCell (l : Fin 32) (c : Cell) (s : State) : Out := .next (if reservedCell c then discardReserved l s else videoIn l c s)

/-- ANC_CELL (R100). -/
def execAncCell (l : Fin 32) (c : Cell) (s : State) : Out := .next (if reservedCell c then discardReserved l s else ancIn l c s)

/-- AUDIO_CELL (R101). -/
def execAudioCell (l : Fin 32) (c : Cell) (s : State) : Out := .next (if reservedCell c then discardReserved l s else audioIn l c s)

/-- MARKER (R104). -/
def execMarker (l : Fin 32) (m : MarkerMsg) (s : State) : Out := .next (markerIn l m s)

/-- HELLO (R109). -/
def execHello (l : Fin 32) (m : HelloMsg) (s : State) : Out := .next (helloIn l m s)

/-- ECHO_REQ (R105). -/
def execEchoReq (l : Fin 32) (id : BitVec 16) (t1 : ET) (s : State) : Out := .next (echoReqIn l id t1.toNat s)

/-- ECHO_RSP (R106). -/
def execEchoRsp (l : Fin 32) (id : BitVec 16) (t1 t2 t3 : ET) (s : State) : Out :=
  .next (echoRspIn l id t1.toNat t2.toNat t3.toNat s)

/-- MAILBOX (R111). -/
def execMailbox (l : Fin 32) (msg : List Byte) (s : State) : Out := .next (mailIn l msg s)

/-- CELL_SLOT (R107). -/
def execCellSlot (l : Fin 32) (s : State) : Out := .next (sendCell l s)

/-- ECHO_REQ_TX (R106): the next ECHO_REQ is due. -/
def execEchoReqTx (l : Fin 32) (s : State) : Out :=
  .next (if 4 ≤ s.linkState l then
    s.setLink l { s.link l with echoReqDue := true, echoId := (s.link l).echoId + 1 } else s)

/-- HELLO_TX (R109): the next HELLO is due. -/
def execHelloTx (l : Fin 32) (s : State) : Out :=
  .next (if 3 ≤ s.linkState l then s.setLink l { s.link l with helloDue := true } else s)

/-- ULINK_ENABLE: a write of ULINK_CFG with EN = 1 (R109). -/
def execUlinkEnable (l : Fin 32) (v : Word) (s : State) : Out := .next (writeUlinkCfg l (v ||| 1#32) s)

/-- HELLO_TIMEOUT (R110): time passes until no HELLO has come for 50 ms. -/
def execHelloTimeout (l : Fin 32) (s : State) : Out :=
  .next (if s.linkState l < 2 then s else linkFalls l (passToNow ((s.link l).lastHello + 50000000) s))

/-- MARK_TIMEOUT (R104). -/
def execMarkTimeout (l : Fin 32) (s : State) : Out := .next (markLost l s)

/-- ULINK_TXV_WRITE: a write of ULINK_TXV (R108). -/
def execUlinkTxvWrite (k : Fin 768) (v : Word) (s : State) : Out := .next (writeTxv k v s)

/-- ULINK_TXA_WRITE: a write of ULINK_TXA, or of ULINK_CFG for AUD96 (R108). -/
def execUlinkTxaWrite (l : Fin 32) (w : TxaWrite) (s : State) : Out :=
  .next (match w with | .txa v => writeTxa l v s | .cfg v => writeUlinkCfg l v s)

/-- MB_SEND: a write of ULINK_MB_CTL with SEND = 1 (R111). -/
def execMbSend (l : Fin 32) (v : Word) (s : State) : Out := .next (writeMb l (v ||| 0x100#32) s)

/-- MB_POP: a write of ULINK_MB_CTL with POP = 1 (R111). -/
def execMbPop (l : Fin 32) (v : Word) (s : State) : Out := .next (writeMb l (v ||| 0x200#32) s)

end Sys2Proof.Machine
end

