-- ==== Sys2Proof/Machine/FaultEsc.lean ====
section
/-!
DEFINITION. Fault registers, forcing and escalation (chapter 19): what a write of FSTAT, FEN, FFORCE and FESC_CFG does
(R425, R426, R429), the escalation timer (R427, R432), and the hardware actions (R431).
-/

namespace Sys2Proof.Machine

/-! ### Sources -/

/-- The bits of a block's sources: CFG_REJECT is the last one of every layout. -/
def srcMask (b : Blk) : Word := BitVec.ofNat 32 (2 ^ (b.cfgReject + 1) - 1)

/-- The sources that carry a retirement action (R429), with the unit index of their first unit and the units that UNIT may
name. For LANE, UNIT names a quad, for its spare PLL. -/
def retireSource : Blk → Option (Nat × Nat × Nat)
  | .LANE => some (Src.LANE_PLL_LOST.bit, 198, 32)
  | .XPT => some (Src.XPT_SLICE_CHECK.bit, 0, 18)
  | .CUE => some (Src.CUE_ENGINE_ERR.bit, 18, 18)
  | .AUD => some (Src.AUD_ASRC_ERR.bit, 53, 72)
  | .WCOMP => some (Src.WCOMP_PIPE_ERR.bit, 36, 17)
  | .CPU => some (Src.CPU_CORE_ERR.bit, 125, 5)
  | .HBM => some (Src.HBM_ECC_UNCORR.bit, 130, 68)
  | _ => none

/-- The unit that FESC_CFG.UNIT names, if it is a spare in the Vault or under BIST (R429). -/
def State.forcedUnit (s : State) (b : Blk) : Option Nat :=
  match retireSource b with
  | none => none
  | some (_, base, n) =>
    let u := (s.faults b).unit
    let e := if b = .LANE then base + 3 * u + 2 else base + u
    if u < n ∧ (s.unitState e = 1 ∨ s.unitState e = 3) then some e else none

/-- The source of a block with a retirement action, as a mask. -/
def retireMask (b : Blk) : Word :=
  match retireSource b with
  | some (k, _, _) => (⟨b, k⟩ : Src).mask
  | none => 0

/-! ### Timers and writes -/

/-- The timer stops when no source of the block is pending (R427). -/
def FaultSet.settle (f : FaultSet) : FaultSet := if f.pendingSrc = 0 then { f with expiry := none } else f

/-- A write of 1 clears FSTAT bits and the same bits of FREAL, and acknowledges the sources (R425). -/
def clearFstat (b : Blk) (v : Word) (s : State) : State :=
  let f := s.faults b
  let t := s.setFaults b { f with fstat := f.fstat &&& ~~~ v, freal := f.freal &&& ~~~ v, acted := f.acted &&& ~~~ v,
                                  forced := f.forced &&& ~~~ v }.settle
  let clears (x : Src) : Bool := b == x.blk && v.getLsbD x.bit
  alertUpdate { t with esc := ⟨if clears Src.LANE_PLL_LOST then [] else t.esc.pll, if clears Src.ULINK_LINK_DOWN then [] else t.esc.link⟩ }

/-- A write of FEN acts on the interrupt alone (R426). -/
def writeFen (b : Blk) (v : Word) (s : State) : State :=
  alertUpdate (s.setFaults b { s.faults b with fen := v &&& srcMask b })

/-- The bits of an FFORCE write that are allowed (R429). -/
def State.forceAllowed (s : State) (b : Blk) : Word :=
  if s.lcOpen then srcMask b else if (s.forcedUnit b).isSome then retireMask b else 0

/-- A write of FFORCE: the allowed bits are forced, the others ignored with one CFG_REJECT (R429). -/
def writeForce (b : Blk) (v : Word) (s : State) : State :=
  let w := v &&& srcMask b
  let ok := w &&& s.forceAllowed b
  let t := (List.range 14).foldl (fun (t : State) k =>
    if ok.getLsbD k then t.setFaults b ((t.faults b).assert false (1#32 <<< k) t.now) else t) s
  let u := alertUpdate t
  if w &&& ~~~ ok = 0 then u else u.reject b

/-- A write of FESC_CFG (R435): a PERIOD of 0 is ignored; SYS_EN is HBM's alone. -/
def writeEscCfg (b : Blk) (v : Word) (s : State) : State :=
  let keep : Word := if b = .HBM then 0x07F3FFFF else 0x07F1FFFF
  if bitsOf v.toNat 0 16 = 0 then s.reject b
  else s.setFaults b { s.faults b with cfg := v &&& keep }.settle

/-- A write of one of a block's fault registers; FREAL, FLIVE and FESC_TIMER ignore it. -/
def writeFlt (b : Blk) (k : FltReg) (v : Word) (s : State) : State :=
  match k with
  | .FSTAT => clearFstat b v s
  | .FEN => writeFen b v s
  | .FFORCE => writeForce b v s
  | .FESC_CFG => writeEscCfg b v s
  | _ => s

/-- FESC_TIMER: LEFT in ms, ESC_LAST, RUNNING. -/
def State.escTimer (s : State) (b : Blk) : Word :=
  let f := s.faults b
  match f.expiry with
  | some e => BitVec.ofNat 32 (min 65535 (ceilDiv (e - s.now) 1000000) + f.escLast.toNat % 2 ^ 14 * 2 ^ 16 + 2 ^ 31)
  | none => BitVec.ofNat 32 (f.escLast.toNat % 2 ^ 14 * 2 ^ 16)

/-! ### Hardware actions (R431) -/

/-- A link's lane is isolated. -/
def isolateLink (s : State) (l : Nat) : State :=
  let n := s.fld F.ULINK_CFG_LANE l
  let was := s.flag F.ULINK_CFG_EN l
  linkSwitch l was ((s.setFlag F.ULINK_CFG_EN l false).setFlag F.LANE_CFG_TX_IDLE n true)

/-- A failed unit that its block has parked, or that still serves, is retired; not one that has left for good (R432). -/
def retireFailed (s : State) (e : Nat) : State := if s.unitState e = 5 then s else retireUnit e s

/-- A failed unit that serves until it is retired: nothing more is done once it has left service (R432). -/
def retireServing (s : State) (e : Nat) : State := if s.unitState e = 0 ∨ s.unitState e = 2 then retireUnit e s else s

/-- A stalled master is acted on (R355). -/
def actOnStall (s : State) (m : Nat) : State :=
  let t := masterReset m s
  if m < 5 then confinedReset 11 m t
  else if m = 6 then dmaErrors t
  else if m = 7 then t.respondErr 7
  else t

/-- The action of a block's really asserted sources. -/
def realAction (b : Blk) (m : Word) (s : State) : State :=
  let has (x : Src) : Bool := m.getLsbD x.bit
  match b with
  | .LANE => if has Src.LANE_PLL_LOST then s.esc.pll.foldl retireFailed s else s
  | .ULINK => if has Src.ULINK_LINK_DOWN then s.esc.link.foldl isolateLink s else s
  | .XPT => if has Src.XPT_SLICE_CHECK then retireServing s (s.fld F.XPT_CHK_LAST_SLICE 0) else s
  | .CUE => if has Src.CUE_ENGINE_ERR then retireFailed s (18 + s.fld F.CUE_FAULT_LAST_ENGINE 0) else s
  | .AUD => if has Src.AUD_ASRC_ERR then retireFailed s (53 + s.aud.errUnit) else s
  | .WCOMP => if has Src.WCOMP_PIPE_ERR then retireFailed s (36 + s.wcomp.errUnit) else s
  | .BUS => if has Src.BUS_DECODE_STALL then s.bus.stalled.foldl actOnStall s else s
  | .CPU => if has Src.CPU_CORE_ERR then
      ((List.range 5).filter (fun c => s.flag F.CPU_CORE_STAT_ERR_S c)).foldl (fun t c => retireCore c t) s else s
  | .HBM => if has Src.HBM_ECC_UNCORR then retireServing s (130 + s.fld F.HBM_ECC_LAST_PC 0) else s
  | _ => s

/-- A system reset by HBM STACK_FAIL or TRAIN_FAIL, while SYS_EN permits it. -/
def escReset (b : Blk) (m : Word) (s : State) : State :=
  if b = .HBM ∧ (m.getLsbD Src.HBM_STACK_FAIL.bit || m.getLsbD Src.HBM_TRAIN_FAIL.bit) ∧ (s.faults .HBM).cfg.getLsbD 17 then
    beginReset 3 false false (some 12) s
  else s

/-- The sources that act at expiry (R427, R429): the pending ones, but for one that escalates by force alone whose unit has
left the Vault. -/
def State.actingNow (s : State) (b : Blk) : Word :=
  let f := s.faults b
  let p := f.pendingSrc
  if (s.forcedUnit b).isSome then p else p &&& ~~~ (retireMask b &&& ~~~ f.freal)

/-- A block's escalation timer expires (R427 to R432). -/
def escalationExpires (b : Blk) (s : State) : State :=
  match (s.faults b).expiry with
  | none => s
  | some e =>
    let t := passToNow e s
    let m := t.actingNow b
    let f := t.faults b
    let real := m &&& f.freal
    let forced := m &&& retireMask b &&& f.forced
    let s1 := t.setFaults b { f with escLast := m, acted := f.acted ||| m, expiry := none }
    let s2 := if m = 0 then s1 else s1.setFlag F.GPIO_ALERT_STAT_ESC_S 0 true
    let s3 := realAction b real s2
    let s4 := match t.forcedUnit b with
      | some u => if forced ≠ 0 ∧ f.testEsc then retireFailed s3 u else s3
      | none => s3
    alertUpdate (escReset b m s4)

/-! ### GPIO (R433, R434) -/

/-- A write of a GPIO register: GPIO_OUT bits under cue control are ignored. -/
def writeGpio (r : RegName) (i : Nat) (v : Word) (s : State) : State :=
  match r with
  | .GPIO_OUT =>
    let c := s.reg .GPIO_CUE 0
    s.setReg r i ((s.reg r i &&& c) ||| (v &&& ~~~ c))
  | _ => alertUpdate (plainWrite r i v s)

/-- The live registers of GPIO, but GPIO_IN. -/
def State.gpioLive (s : State) (r : RegName) (_i : Nat) : Option Word :=
  match r with
  | .GPIO_ALERT_STAT => some (F.GPIO_ALERT_STAT_LOW.put (s.reg r 0) (b2n s.alertLow))
  | _ => none

/-! ### The commands -/

/-- FSTAT_CLEAR (R425). -/
def execFstatClear (b : Blk) (v : Word) (s : State) : Out := .next (clearFstat b v s)

/-- FAULT_FORCE (R429). -/
def execFaultForce (b : Blk) (v : Word) (s : State) : Out := .next (writeForce b v s)

/-- ESCALATION_EXPIRE (R427). -/
def execEscalationExpire (b : Blk) (s : State) : Out := .next (escalationExpires b s)

end Sys2Proof.Machine
end

