-- ==== Sys2Proof/Machine/Ttb.lean ====
section
/-!
DEFINITION. The Take and Tally Bus (chapter 10): the words of the Tally Mirror, the bank swaps at bus clock edges, reads,
takes, staged words and enabling.
-/

namespace Sys2Proof.Machine

/-! ### The words of the Tally Mirror (R258) -/

/-- The word of a VOUT owned by thread `t`. -/
def State.tallyVout (s : State) (o t : Nat) : Nat :=
  let x := s.routes o
  let refused := match s.thread? t with | some y => y.refused | none => 0
  let base := b2n x.pending.isSome * 2 ^ 17 + refused % 16 * 2 ^ 20 + s.effFld F.XPT_VOUT_CFG_PRIORITY o * 2 ^ 24
  match x.committed with
  | none => base
  | some r => base + r.vin + 2 ^ 10 + b2n r.classP * 2 ^ 11 + b2n r.planeB * 2 ^ 12 + r.path * 2 ^ 13 + b2n r.demoted * 2 ^ 15
      + b2n (s.vinPresent r.vin) * 2 ^ 16

/-- The word of a wall layer. -/
def State.tallyLayer (s : State) (l : Nat) : Nat :=
  let x := (s.layer l).now
  (match (s.routes (1024 + l)).committed with | some r => r.vin + 2 ^ 10 | none => 0)
    + s.fld F.WSCAN_LPROOF_STAT_FROZEN l * 2 ^ 11 + x.order * 2 ^ 12 + x.alpha * 2 ^ 16

/-- The Safelight word. -/
def State.tallySafe (s : State) : Nat := (s.layer 16).now.page + b2n (s.layer 16).now.on * 2 ^ 31

/-- The word of an audio group. -/
def State.tallyGroup (s : State) (g : Nat) : Nat :=
  let x := s.audGroup g
  let ms := (List.range (s.fld F.AUD_GRP_CFG_SIZE g)).map x.member
  (match ms with | m :: _ => m.csrc.getD 0 | [] => 0) + b2n (ms.any (·.cmuted)) * 2 ^ 16
    + b2n (!ms.isEmpty && ms.all (·.cmuted)) * 2 ^ 17 + b2n (ms.any (fun m => m.pend.isSome)) * 2 ^ 18

/-- The word of a thread. -/
def State.tallyThread (s : State) (t : Nat) : Nat :=
  match s.thread? t with
  | none => 0
  | some x => x.user + s.thrState t * 2 ^ 16 + b2n x.boverNow * 2 ^ 19

/-- The word of a domain. -/
def State.tallyDomain (s : State) (n : Nat) : Nat :=
  (s.reg .REF_TD_FRAME n).toNat % 2 ^ 16 + b2n (s.flag F.REF_TD_STAT_RUN n) * 2 ^ 16 + b2n (s.cue.ovl.contains n) * 2 ^ 17

/-- The address of an object's word and the word, if it has one. -/
def State.tallyObject (s : State) (o t : Nat) : List (Nat × Nat) :=
  let i := objIndex o
  match objKind o with
  | 0 => [(i, s.tallyVout i t)]
  | 1 => [(0x800 + i, s.tallyGroup i)]
  | 2 => [(0x400 + i, if i < 16 then s.tallyLayer i else s.tallySafe)]
  | _ => []

/-- The words of a domain as its Shutter leaves them. -/
def State.tallyWords (s : State) (n : Nat) : List (Nat × Word) :=
  let threads := (s.domThreads n).flatMap (fun t => (0x1000 + t, s.tallyThread t) :: s.tallyObject (s.thrOut t) t)
  (threads ++ [(0xF000 + n, s.tallyDomain n)]).map (fun e => (e.1, BitVec.ofNat 32 e.2))

/-- At S(N) the domain's back bank holds its committed state; its swap is due at the next edge (R256). -/
def ttbShutter (n : Nat) (s : State) : State :=
  { s with ttb := { s.ttb with back := s.ttb.back.set n (s.tallyWords n), due := n :: s.ttb.due.filter (· != n) } }

/-! ### Bus clock edges (R256, R263) -/

/-- The words of a domain swap banks. -/
def swapBank (s : State) (n : Nat) : State :=
  let kept := s.ttb.front.filter (fun _ e => e.1 != n)
  let front := (s.ttb.back.get [] n).foldl (fun (m : AMap (Nat × Word)) e => m.set e.1 (n, e.2)) kept
  { s with ttb := { s.ttb with front := front, due := s.ttb.due.filter (· != n) } }

/-- An edge of TTB_CLK: the swaps that are due happen. -/
def ttbEdge (s : State) : State := (s.ttb.due.foldl swapBank s).setFlag F.TTB_STAT_CLK_OK 0 true

/-! ### Reads and answers (R251, R252, R257, R262) -/

/-- In Darkroom mode (R262). -/
def State.ttbDark (s : State) : Bool := s.flag F.RST_STAT_DARKROOM 0

/-- Transactions are answered (R260, R262). -/
def State.ttbActive (s : State) : Bool := s.flag F.TTB_CFG_EN 0 || s.ttbDark

/-- What a read of an address returns. -/
def State.ttbData (s : State) (a : Nat) : Word :=
  if s.ttbDark then 0xFFFFFFFF#32
  else if a = 0xFF00 then 0x00B06400#32
  else if a = 0xFF01 then
    BitVec.ofNat 32 (s.fld F.IDM_STRAP_SLOT_ID 0 + s.fld F.IDM_STRAP_CARD_SIDE 0 * 2 ^ 6 + s.fld F.RST_HEALTH_HEALTH_OK 0 * 2 ^ 8
      + b2n s.etValid * 2 ^ 9)
  else if a = 0xFF02 then BitVec.ofNat 32 (s.cue.tq.length + b2n (s.cue.tq.length == 4096) * 2 ^ 16)
  else if 0xFF04 ≤ a ∧ a ≤ 0xFF07 then s.reg .TTB_CARD_WORD (a - 0xFF04)
  else (s.ttb.front.get (0, 0) a).2

/-- The pins take levels. -/
def setPins (ack busy : Bool) (dq : Option Word) (s : State) : State := { s with ttb := { s.ttb with pins := ⟨ack, busy, dq⟩ } }

/-- The pins at rest: released, or TTB_BUSY_N low in Darkroom mode. -/
def restPins (s : State) : State := setPins false s.ttbDark none s

/-- A read is sampled. -/
def ttbReads (a : Nat) (s : State) : State :=
  let t := ttbEdge s
  if !t.ttbActive then t else setPins (!t.ttbDark) t.ttbDark (some (t.ttbData a)) t

/-! ### Writes (R253 to R255) -/

/-- A write to TAKE, stamped `late` ns after the edge. -/
def takeWrite (v : Word) (late : Nat) (s : State) : State :=
  let w3 := BitVec.ofNat 32 (s.fld F.TTB_STAGE_AT_HI_AT 0)
  let accept := unsign 48 (s.etFull + (late : Int))
  let (ok, t) := tqPush v (s.reg .TTB_STAGE_ARG 0) (s.reg .TTB_STAGE_AT_LO 0) w3 0 0 accept s
  if ok then setPins true false none (t.bump .TTB_TAKE_CNT 0)
  else setPins false true none ((t.bump .TTB_BUSY_CNT 0).raise Src.TTB_BUSY)

/-- A write is sampled. -/
def ttbWrites (a : Nat) (v : Word) (late : Nat) (s : State) : State :=
  let t := ttbEdge s
  if t.ttbDark then restPins t
  else if !t.ttbActive then t
  else match a with
    | 0 => takeWrite v late t
    | 1 => setPins true false none (t.setReg .TTB_STAGE_ARG 0 v)
    | 2 => setPins true false none (t.setReg .TTB_STAGE_AT_LO 0 v)
    | 3 => setPins true false none (t.setFld F.TTB_STAGE_AT_HI_AT 0 v.toNat)
    | _ => setPins true false none ((t.bump .TTB_WR_BAD_CNT 0).raise Src.TTB_WR_BAD)

/-! ### Registers (R260, R263, R265) -/

/-- A write of TTB_CFG. -/
def writeTtbCfg (v : Word) (s : State) : State :=
  if s.ttbDark then s.reject .TTB
  else
    let t := plainWrite .TTB_CFG 0 v s
    if t.flag F.TTB_CFG_EN 0 then t else restPins t

/-- A write of a TTB register. -/
def writeTtb (r : RegName) (i : Nat) (v : Word) (s : State) : State :=
  match r with
  | .TTB_CFG => writeTtbCfg v s
  | _ => plainWrite r i v s

/-- A live TTB register, if it is one. -/
def State.ttbLive (s : State) (r : RegName) (i : Nat) : Option Word :=
  match r with
  | .TTB_STAT => some (BitVec.ofNat 32 (b2n s.ttbActive + b2n s.ttbDark * 2 + s.fld F.TTB_STAT_CLK_OK i * 4))
  | .TTB_PEEK_DATA => some (s.ttbData (s.fld F.TTB_PEEK_ADDR_ADDR 0))
  | _ => none

/-- The live sources of TTB_FLIVE (R265). -/
def State.ttbFlive (s : State) : Word :=
  (if s.cue.tq.length = 4096 then Src.TTB_BUSY.mask else 0)
    ||| (if s.flag F.TTB_CFG_EN 0 && !s.flag F.TTB_STAT_CLK_OK 0 then Src.TTB_CLK_LOST.mask else 0)

/-- No edge has arrived for 1 ms (R263). -/
def clockLost (s : State) : State :=
  let on := s.flag F.TTB_CFG_EN 0
  (s.setFlag F.TTB_STAT_CLK_OK 0 false).raiseIf on Src.TTB_CLK_LOST

/-! ### The commands -/

/-- TALLY_MIRROR_SWAP (R256): the first edge at or after the Shutter. -/
def execTallyMirrorSwap (td : Fin 8) (s : State) : Out :=
  .next ((if s.ttb.due.contains td then swapBank s td else s).setFlag F.TTB_STAT_CLK_OK 0 true)

/-- TTB_READ (R251). -/
def execTtbRead (a : BitVec 16) (s : State) : Out := .next (ttbReads a.toNat s)

/-- TTB_TAKE (R254, R255). -/
def execTtbTake (v : Word) (late : Fin 3) (s : State) : Out := .next (ttbWrites 0 v late s)

/-- STAGE_ARG (R253). -/
def execStageArg (v : Word) (s : State) : Out := .next (ttbWrites 1 v 0 s)

/-- STAGE_AT_LO (R253). -/
def execStageAtLo (v : Word) (s : State) : Out := .next (ttbWrites 2 v 0 s)

/-- STAGE_AT_HI (R253). -/
def execStageAtHi (v : Word) (s : State) : Out := .next (ttbWrites 3 v 0 s)

/-- WR_BAD (R253): a write to an address; one that the write map lists acts as that write. -/
def execWrBad (a : BitVec 16) (v : Word) (s : State) : Out := .next (ttbWrites a.toNat v 0 s)

/-- TTB_ENABLE: a write of TTB_CFG with EN = 1 (R260). -/
def execTtbEnable (v : Word) (s : State) : Out := .next (writeTtb .TTB_CFG 0 (v ||| 1#32) s)

/-- TTB_DISABLE: a write of TTB_CFG with EN = 0 (R260). -/
def execTtbDisable (v : Word) (s : State) : Out := .next (writeTtb .TTB_CFG 0 (v &&& ~~~ 1#32) s)

/-- CLK_LOST (R263). -/
def execClkLost (s : State) : Out := .next (clockLost s)

end Sys2Proof.Machine
end

