-- ==== Sys2Proof/Machine/Net.lean ====
section
/-!
DEFINITION. Ethernet, IPv4, UDP, RTP and PTP as the media ports and the management ports read them (chapters 03, 06, 15),
frame checks (R138), the pieces of frames that the MACs send, and the ring descriptors of R144, R145 and R364.
-/

namespace Sys2Proof

/-! ### Frames -/

/-- `n` bytes from place `a`, most significant first, as a number. -/
def fieldAt (bs : List Byte) (a n : Nat) : Nat := beNat ((bs.drop a).take n)

/-- The bytes without the last `n`. -/
def dropLast (n : Nat) (bs : List Byte) : List Byte := bs.take (bs.length - n)

/-- The cause for which a MAC drops a frame (R138): 1 alignment, 2 runt, 3 oversize, 4 FCS, 0 none. -/
def EthFrame.fault (f : EthFrame) (jumbo : Bool) : Nat :=
  if f.badCode then 1
  else if f.bytes.length < 64 then 2
  else if (if jumbo then 9022 else 1522) < f.bytes.length then 3
  else if leBytes 4 (crc32 (dropLast 4 f.bytes)) ≠ f.bytes.drop (f.bytes.length - 4) then 4
  else 0

/-- The largest frame of a port (R138). -/
def maxFrame (jumbo : Bool) : Nat := if jumbo then 9022 else 1522

/-- The destination address. -/
def EthFrame.dst (f : EthFrame) : Nat := fieldAt f.bytes 0 6

/-- The frame carries one IEEE 802.1Q tag. -/
def EthFrame.tagged (f : EthFrame) : Bool := fieldAt f.bytes 12 2 == 0x8100

/-- The VLAN ID of a tagged frame. -/
def EthFrame.vid (f : EthFrame) : Nat := if f.tagged then fieldAt f.bytes 14 2 % 4096 else 0

/-- The Ethertype, past one tag. -/
def EthFrame.type (f : EthFrame) : Nat := fieldAt f.bytes (if f.tagged then 16 else 12) 2

/-- What follows the Ethertype, without the FCS. -/
def EthFrame.payload (f : EthFrame) : List Byte := (dropLast 4 f.bytes).drop (if f.tagged then 18 else 14)

/-- A PAUSE frame (R140): Ethertype 0x8808, opcode 0x0001; its quanta. -/
def EthFrame.pause (f : EthFrame) : Option Nat :=
  if f.type = 0x8808 ∧ fieldAt f.payload 0 2 = 1 then some (fieldAt f.payload 2 2) else none

/-- An IPv4 packet in a frame: its header length, total length and whether the checksum of its header is right. -/
structure IpPacket where
  head : Nat
  total : Nat
  sumOk : Bool
  fragment : Bool
  proto : Nat
  src : Nat
  dst : Nat
  body : List Byte
  deriving DecidableEq, Repr

/-- The one's complement sum of 16-bit words. -/
def onesSum : List Byte → Nat
  | a :: b :: t => let x := a.toNat * 256 + b.toNat + onesSum t; x % 65536 + x / 65536
  | [a] => a.toNat * 256
  | [] => 0

/-- The IPv4 packet of a frame. -/
def EthFrame.ip (f : EthFrame) : Option IpPacket :=
  let p := f.payload
  let v := fieldAt p 0 1
  if f.type = 0x0800 ∧ v / 16 = 4 then
    let h := v % 16 * 4
    let total := fieldAt p 2 2
    let frag := fieldAt p 6 2
    some ⟨h, total, decide (20 ≤ h) && decide (h ≤ total) && decide (total ≤ p.length) && onesSum (p.take h) == 65535,
      frag % 2 ^ 14 != 0, fieldAt p 9 1, fieldAt p 12 4, fieldAt p 16 4, (p.take total).drop h⟩
  else none

/-- An IPv4 packet is UDP. -/
def IpPacket.udp (x : IpPacket) : Bool := x.proto == 17

/-- The UDP length agrees with the IPv4 length. -/
def IpPacket.udpLenOk (x : IpPacket) : Bool := fieldAt x.body 4 2 == x.total - x.head

/-- The UDP destination port. -/
def IpPacket.dport (x : IpPacket) : Nat := fieldAt x.body 2 2

/-- The UDP payload. -/
def IpPacket.data (x : IpPacket) : List Byte := x.body.drop 8

/-! ### PTP messages (R61; the formats are IEEE 1588-2019's, notes/assumptions/9.md) -/

/-- A PTP message that the hardware handles, or another one. -/
inductive PtpMsg where
  | sync (sender : Nat) (seq : BitVec 16) (twoStep : Bool) (t1 : Nat) (corr : Int)
  | followUp (sender : Nat) (seq : BitVec 16) (t1 : Nat) (corr : Int)
  | delayReq
  | delayResp (sender : Nat) (seq : BitVec 16) (t4 : Nat) (corr : Int)
  | announce (sender : Nat) (gm : BitVec 64) (p1 cls acc : BitVec 8) (var : BitVec 16) (p2 : BitVec 8) (steps : BitVec 16)
  | other
  deriving DecidableEq, Repr

/-- A PTP timestamp of 10 bytes in ns. -/
def ptpTime (bs : List Byte) (a : Nat) : Nat := fieldAt bs a 6 * 1000000000 + fieldAt bs (a + 6) 4

/-- The domainNumber of a PTP message. -/
def ptpDomain (bs : List Byte) : Nat := fieldAt bs 4 1

/-- A PTP message read by its messageType. -/
def ptpParse (bs : List Byte) : PtpMsg :=
  let corr := signed 64 (fieldAt bs 8 8)
  let sender := fieldAt bs 20 10
  let seq := BitVec.ofNat 16 (fieldAt bs 30 2)
  match fieldAt bs 0 1 % 16 with
  | 0 => .sync sender seq (bit (fieldAt bs 6 1) 1) (ptpTime bs 34) corr
  | 1 => .delayReq
  | 8 => .followUp sender seq (ptpTime bs 34) corr
  | 9 => .delayResp sender seq (ptpTime bs 34) corr
  | 11 => .announce sender (BitVec.ofNat 64 (fieldAt bs 53 8)) (BitVec.ofNat 8 (fieldAt bs 47 1))
      (BitVec.ofNat 8 (fieldAt bs 48 1)) (BitVec.ofNat 8 (fieldAt bs 49 1)) (BitVec.ofNat 16 (fieldAt bs 50 2))
      (BitVec.ofNat 8 (fieldAt bs 52 1)) (BitVec.ofNat 16 (fieldAt bs 61 2))
  | _ => .other

/-- A frame is a PTP message for a port whose own unicast address is `own` (R61): UDP on IPv4 to 224.0.1.129 or to the
port, port 319 for event and 320 for general messages. -/
def EthFrame.ptp (f : EthFrame) (own : Nat) : Option (List Byte) :=
  match f.ip with
  | none => none
  | some x =>
    let d := x.data
    let event := decide (fieldAt d 0 1 % 16 < 8)
    if x.udp ∧ !x.fragment ∧ (x.dst = 0xE0000181 ∨ x.dst = own) ∧ x.dport = (if event then 319 else 320) ∧ 34 ≤ d.length
    then some d else none

/-! ### RTP -/

/-- An RTP packet. -/
structure RtpPkt where
  version : Nat
  marker : Bool
  pt : Nat
  seq : Nat
  ts : Nat
  ssrc : Nat
  body : List Byte
  deriving DecidableEq, Repr

/-- The RTP packet of a UDP payload: the body lies behind the CSRC list and the header extension, before the padding. -/
def rtpParse (d : List Byte) : RtpPkt :=
  let b0 := fieldAt d 0 1
  let b1 := fieldAt d 1 1
  let h := 12 + 4 * (b0 % 16)
  let h := if bit b0 4 then h + 4 + 4 * fieldAt d (h + 2) 2 else h
  let pad := if bit b0 5 then (d.getLast?.getD 0).toNat else 0
  ⟨b0 / 64, bit b1 7, b1 % 128, fieldAt d 2 2, fieldAt d 4 4, fieldAt d 8 4, dropLast pad (d.drop h)⟩

/-- The RTP packet of a frame. -/
def MediaFrame.rtp (f : MediaFrame) : RtpPkt := rtpParse (match f.eth.ip with | some x => x.data | none => [])

/-! ### Frames that the MACs send (R139) -/

/-- A frame padded to 60 bytes, with its FCS. -/
def macFrame (bs : List Byte) : List Byte :=
  let p := bs ++ List.replicate (60 - bs.length) 0
  p ++ leBytes 4 (crc32 p)

/-- An IPv4 header without options, its checksum right. -/
def ipHeader (tos total id flags ttl proto src dst : Nat) : List Byte :=
  let h (sum : Nat) : List Byte := [0x45#8] ++ beBytes 1 tos ++ beBytes 2 total ++ beBytes 2 id ++ beBytes 2 flags
    ++ beBytes 1 ttl ++ beBytes 1 proto ++ beBytes 2 sum ++ beBytes 4 src ++ beBytes 4 dst
  h (65535 - onesSum (h 0))

/-! ### Descriptors (R144, R364) -/

/-- The 32-byte descriptor of a received frame: LEN, SRC, TAGGED and MATCH, the stamp, INDEX. -/
def rxDescriptor (len src : Nat) (tagged : Bool) (m stamp index : Nat) : List Byte :=
  leBytes 4 (len % 2 ^ 14 + src * 2 ^ 14 + b2n tagged * 2 ^ 16 + m * 2 ^ 17) ++ leBytes 4 (stamp % 1000000000)
    ++ leBytes 6 (stamp / 1000000000) ++ leBytes 2 0 ++ leBytes 4 index ++ leBytes 12 0

end Sys2Proof

namespace Sys2Proof.Machine

/-- The receive stamp of R78 on port `p`: Event Time full time and the port's RX_ADJ. -/
def State.frameStamp (s : State) (p : Nat) : Nat := (s.etFull + signed 16 (s.fld F.PTP_TS_ADJ_RX_ADJ p)).toNat

/-- The places of a port among the ports of enabled domains: (domain, PORT0 or PORT1) (R60). -/
def State.ptpPlaces (s : State) (p : Nat) : List (Fin 2 × Fin 2) :=
  ([(0, 0), (0, 1), (1, 0), (1, 1)] : List (Fin 2 × Fin 2)).filter (fun x =>
    s.flag F.PTP_DOM_CFG_EN x.1 && s.ptpPort x.1 x.2 == p)

/-- A domain takes a PTP message of its own domainNumber (R61); whether the hardware handles it. -/
def ptpTake (d k : Fin 2) (m : PtpMsg) (s : State) : Bool × State :=
  match m with
  | .sync a q two t1 c => (true, ptpSync d ⟨k, a, q, two, t1, c⟩ s)
  | .followUp a q t1 c => (true, ptpFollowUp d ⟨k, a, q, t1, c⟩ s)
  | .delayReq => (true, s)
  | .delayResp a q t4 c => (true, ptpDelayResp d ⟨a, q, t4, c⟩ s)
  | .announce a gm p1 cl ac va p2 st => (true, ptpAnnounce d ⟨k, a, gm, p1, cl, ac, va, p2, st⟩ s)
  | .other => (false, s)

/-- A PTP message on a port: each domain of its domainNumber on the port takes it; one that no domain handles goes to the
port's receive queue (R61): the truth value says so. -/
def ptpReceive (p : Nat) (bs : List Byte) (s : State) : Bool × State :=
  (s.ptpPlaces p).foldl (fun (r : Bool × State) x =>
    if r.2.fld F.PTP_DOM_CFG_DOMAIN_NUM x.1 = ptpDomain bs then
      let (h, t) := ptpTake x.1 x.2 (ptpParse bs) r.2
      (r.1 && !h, t)
    else r) (true, s)

end Sys2Proof.Machine
end

