-- ==== Sys2Proof/Machine/Wscan.lean ====
section
/-!
DEFINITION. Wall scan-out (chapter 13): tile ports, tiles and their states, per-lamp correction and the output curve, the
scan store, the Tile Link frames, the colour loop, Proof signatures; and the composition of a band (R308 to R310), whose
lamps go to the scan store.
-/

namespace Sys2Proof.Machine

/-! ### Tiles and their places (R320, R321) -/

/-- Scan-out runs. -/
def State.scanOn (s : State) : Bool := s.flag F.WSCAN_CFG_EN 0

/-- A tile is enabled. -/
def State.tileOn (s : State) (t : Nat) : Bool := s.flag F.WSCAN_TILE_CFG_EN t

/-- The enabled tiles, ascending. -/
def State.tilesOn (s : State) : List Nat := (List.range 1024).filter s.tileOn

/-- The size w × h of a tile. -/
def State.tileW (s : State) (t : Nat) : Nat := s.fld F.WSCAN_TILE_DIM_W_M1 t + 1
def State.tileH (s : State) (t : Nat) : Nat := s.fld F.WSCAN_TILE_DIM_H_M1 t + 1

/-- A tile stands on its side. -/
def State.tileTurned (s : State) (t : Nat) : Bool := s.fld F.WSCAN_TILE_CFG_ORIENT t % 2 == 1

/-- The footprint of a tile on the canvas. -/
def State.footW (s : State) (t : Nat) : Nat := if s.tileTurned t then s.tileH t else s.tileW t
def State.footH (s : State) (t : Nat) : Nat := if s.tileTurned t then s.tileW t else s.tileH t

/-- The canvas lamp of native lamp (i, j) of a tile (R320). -/
def State.tileLamp (s : State) (t i0 j : Nat) : Nat × Nat :=
  let w := s.tileW t
  let h := s.tileH t
  let x0 := s.fld F.WSCAN_TILE_ORG_X0 t
  let y0 := s.fld F.WSCAN_TILE_ORG_Y0 t
  let i := if s.flag F.WSCAN_TILE_CFG_MIRROR t then w - 1 - i0 else i0
  match s.fld F.WSCAN_TILE_CFG_ORIENT t with
  | 0 => (x0 + i, y0 + j)
  | 1 => (x0 + h - 1 - j, y0 + i)
  | 2 => (x0 + w - 1 - i, y0 + h - 1 - j)
  | _ => (x0 + j, y0 + w - 1 - i)

/-- b_last of a tile (R325): the band of the bottom row of its footprint. -/
def State.lastBand (s : State) (t : Nat) : Nat := (s.fld F.WSCAN_TILE_ORG_Y0 t + s.footH t - 1) / s.bandRows

/-- What a tile holds beside its registers. -/
def State.tileRun (s : State) (t : Nat) : TileRun := s.wscan.tile.get .reset t

/-- A tile's run replaced. -/
def State.setTile (s : State) (t : Nat) (x : TileRun) : State :=
  { s with wscan := { s.wscan with tile := s.wscan.tile.set t x } }

/-- The state code of a tile (R332). -/
def State.tileState (s : State) (t : Nat) : Nat := s.fld F.WSCAN_TILE_STAT_STATE t

/-- A tile goes to a state. -/
def State.setTileState (s : State) (t st : Nat) : State := s.setFld F.WSCAN_TILE_STAT_STATE t st

/-- A tile enters FAULT (R332). -/
def tileFaults (t : Nat) (s : State) : State :=
  ((s.setTileState t 7).setTile t { s.tileRun t with load := none }).raise Src.WSCAN_TILE_FAULT

/-! ### Ports (R319, R325) -/

/-- The lane of a tile port. -/
def State.tileLane (s : State) (p : Nat) : Nat := s.fld F.WSCAN_PORT_CFG_LANE p

/-- The port's link is up: it is enabled and its lane's receiver has locked. -/
def State.tileLink (s : State) (p : Nat) : Bool :=
  s.flag F.WSCAN_PORT_CFG_EN p && s.flag F.LANE_STAT_CDR_LOCK (s.tileLane p)

/-- R319 holds for a lane. -/
def State.tileLaneOk (s : State) (l : Nat) : Bool :=
  s.fld F.LANE_CFG_RX_PROTO l == 4 && s.fld F.LANE_CFG_TX_PROTO l == 4 && s.fld F.LANE_CFG_GROUP l == 0
    && (s.fld F.LANE_CFG_TX_RATE l == 9 || s.fld F.LANE_CFG_TX_RATE l == 10)

/-- The port rate in bit/s. -/
def State.tileRate (s : State) (p : Nat) : Nat :=
  if s.fld F.LANE_CFG_TX_RATE (s.tileLane p) = 9 then 10000000000 else 25000000000

/-- PKT_LAMPS. -/
def State.pktLamps (s : State) : Nat := min 240 (16 * (s.fld F.WSCAN_CFG_PKT_LAMPS_D 0 + 1))

/-- The lengths of a row's pixel packets, in lamps. -/
def rowPackets (n w : Nat) : List Nat := (List.range (ceilDiv w n)).map (fun k => min n (w - k * n))

/-- Wire bytes of a tile in its slot (R325): every packet padded to 64 bytes and 20 more, with one FRAME_CTL. -/
def State.tileBytes (s : State) (t : Nat) : Nat :=
  s.tileH t * (rowPackets s.pktLamps (s.tileW t)).foldl (fun a c => a + max 64 (14 + 8 + 8 + 6 * c + 4) + 20) 0 + 84

/-- B(p, b) (R325). -/
def State.bandBytes (s : State) (p b : Nat) : Nat :=
  (s.tilesOn.filter (fun t => s.fld F.WSCAN_TILE_CFG_PORT t == p && s.lastBand t == b)).foldl (fun a t => a + s.tileBytes t) 0

/-- The largest B(p, b). -/
def State.tilePortLoad (s : State) (p : Nat) : Nat := (List.range s.bands).foldl (fun a b => max a (s.bandBytes p b)) 0

/-- The port rule of R325: B(p, b) ≤ 0.97 × port rate × T_b / 8. -/
def State.portsFit (s : State) : Bool :=
  (List.range 128).all (fun p =>
    decide (s.tilePortLoad p * 2400 * s.bands * 1000000000 ≤ 97 * s.tileRate p * s.tf3 s.wallTd) || s.tilePortLoad p == 0)

/-- SCAN_OFS stays within half a frame (R325). -/
def State.scanOfsOk (s : State) : Bool :=
  let tf := s.tf3 s.wallTd
  decide (s.fld F.WSCAN_CFG_SCAN_MARGIN 0 * 6000 * s.bands + 2 * tf ≤ tf * s.bands)

/-- The reservation of R326 on stacks A and B. -/
def State.scanTerms (s : State) : Nat × Nat :=
  let l := s.tilesOn.foldl (fun a t => a + s.tileW t * s.tileH t) 0
  let lc := s.lampMbps l 16
  let sc := s.lampMbps l 12
  if s.fld F.WSCAN_SCAN_BASE_BASE 0 < 2 ^ 18 then (lc + sc, 0) else (lc, sc)

/-- The reservation of R326 fits. -/
def State.scanFits (s : State) : Bool := s.hbmFits 2001 s.scanTerms.1 s.scanTerms.2

/-- The reservation follows the settings. -/
def scanReserve (s : State) : State := if s.scanOn then s.setHbm 2001 s.scanTerms.1 s.scanTerms.2 else s.setHbm 2001 0 0

/-! ### Tile Link frames (R329 to R331) -/

/-- The header and payload of a Tile Link frame. -/
def tileFrame (dst : List Byte) (p kind frame seq : Nat) (payload : List Byte) : List Byte :=
  macFrame (dst ++ [0x02#8, 0x43#8, 0x54#8, 0x80#8, 0x00#8, BitVec.ofNat 8 p] ++ [0x88#8, 0xB5#8, 1#8, BitVec.ofNat 8 kind]
    ++ beBytes 2 frame ++ beBytes 2 seq ++ beBytes 2 payload.length ++ payload)

/-- The address of the tile at a chain position. -/
def tileMac (pos : Nat) : List Byte := [0x02#8, 0x43#8, 0x54#8, 0x00#8, 0x00#8, BitVec.ofNat 8 pos]

/-- The address of every tile. -/
def tileAll : List Byte := List.replicate 6 0xFF#8

/-- A frame goes out on a port: SEQ counts it. -/
def sendTile (p : Nat) (dst : List Byte) (kind frame : Nat) (payload : List Byte) (s : State) : State :=
  let q := s.wscan.seq.get 0 p
  let bs := tileFrame dst p kind frame q payload
  let t := { s with wscan := { s.wscan with seq := s.wscan.seq.set p ((q + 1) % 65536),
                                            sent := s.wscan.sent.set p (bs :: s.wscan.sent.get [] p) } }
  t.send (s.tileLane p) bs

/-- A new event: what the ports sent in the last one is forgotten. -/
def clearSent (s : State) : State := { s with wscan := { s.wscan with sent := .empty } }

/-- REF_TD_FRAME of the wall domain, 16 bits. -/
def State.wallFrameNo (s : State) : Nat := (s.reg .REF_TD_FRAME s.wallTd).toNat % 65536

/-- DRIVE_OFF to a tile (R331, R335). -/
def sendDriveOff (t : Nat) (s : State) : State :=
  let p := s.fld F.WSCAN_TILE_CFG_PORT t
  if s.scanOn && s.tileLink p then
    sendTile p (tileMac (s.fld F.WSCAN_TILE_CFG_POS t)) 3 s.wallFrameNo [0x02#8] s
  else s

/-- IDREAD to a tile. -/
def sendIdRead (t : Nat) (r : IdRead) (s : State) : State :=
  sendTile (s.fld F.WSCAN_TILE_CFG_PORT t) (tileMac (s.fld F.WSCAN_TILE_CFG_POS t)) 3 s.wallFrameNo
    ([0x04#8] ++ beBytes 4 r.offset ++ beBytes 2 r.len ++ beBytes 1 r.tag) s

/-- A current code of FRAME_CTL (R331). -/
def State.currentCode (s : State) (t : Nat) (fact user : Fld) : Nat :=
  (clampInt 0 255 ((s.fld fact t : Int) + signed 8 (s.effFld user t))).toNat

/-- The FRAME_CTL of a tile for a frame (R331). -/
def sendFrameCtl (t frame : Nat) (s : State) : State :=
  let on := s.tileState t == 4
  sendTile (s.fld F.WSCAN_TILE_CFG_PORT t) (tileMac (s.fld F.WSCAN_TILE_CFG_POS t)) 3 frame
    ([0x01#8, BitVec.ofNat 8 (b2n on), BitVec.ofNat 8 (s.effFld F.WSCAN_CUR_GCC 0)]
      ++ beBytes 1 (s.currentCode t F.IDM_TILE_FACT_FACT_R F.WSCAN_TILE_PCC_UPCC_R)
      ++ beBytes 1 (s.currentCode t F.IDM_TILE_FACT_FACT_G F.WSCAN_TILE_PCC_UPCC_G)
      ++ beBytes 1 (s.currentCode t F.IDM_TILE_FACT_FACT_B F.WSCAN_TILE_PCC_UPCC_B)) s

/-! ### Correction, trim and the output curve (R322 to R324) -/

/-- The address of a lamp's correction word, in the primary or the mirror copy. -/
def State.lcAddr (s : State) (mirror : Bool) (index : Nat) : Nat :=
  (if mirror then s.fld F.WSCAN_LC_BASE_B_BASE 0 else s.fld F.WSCAN_LC_BASE_A_BASE 0) * 65536 + 16 * index

/-- T_eff[r][c] of a tile (R323). -/
def State.trimEff (s : State) (t k : Nat) : Int :=
  clampInt (-131072) 131071 (signed 18 (s.reg .WSCAN_TRIM (9 * t + k)).toNat + signed 18 (s.effReg .WSCAN_UTRIM (9 * t + k)).toNat)

/-- p_r of R323 from a lamp word. -/
def lampTerm (word : Nat) (r : Nat) (v : Tri) : Int :=
  let c (k : Nat) : Int := signed 12 (bitsOf word (12 * (3 * r + k)) 12)
  clampInt 0 max20 ((c 0 * v.a + c 1 * v.b + c 2 * v.c + 512) / 1024)

/-- q_r of R323. -/
def State.trimmed (s : State) (t word r : Nat) (ub : Fld) (p : Tri) : Int :=
  let b := clampInt 0 4095 ((bitsOf word 108 12 : Nat) + signed 8 (s.effFld ub t))
  clampInt 0 max20 ((s.trimEff t (3 * r) * p.a + s.trimEff t (3 * r + 1) * p.b + s.trimEff t (3 * r + 2) * p.c + 32768) / 65536
    + 16 * b)

/-- Entry `i` of output curve `k` (R324). -/
def State.curveOut (s : State) (k i : Nat) : Int :=
  if k = 0 then min 65535 (segStart i)
  else if k ≤ 3 then Config.outputCurve k i
  else s.fld F.WSCAN_OCURVE_E (4096 * k + i)

/-- The code of one primary (R324). -/
def State.curveCode (s : State) (sel : Fld) (q : Int) : Nat := (segRead (s.curveOut (s.effFld sel 0)) q).toNat % 65536

/-- The three codes of a lamp of tile `t` with a composed value; a DEAD lamp has code 0. -/
def State.lampCodes (s : State) (t word : Nat) (v : Tri) : Nat × Nat × Nat :=
  if bitsOf word 127 1 = 1 then (0, 0, 0)
  else
    let p : Tri := ⟨lampTerm word 0 v, lampTerm word 1 v, lampTerm word 2 v⟩
    (s.curveCode F.WSCAN_OC_SEL_R (s.trimmed t word 0 F.WSCAN_TILE_UBLACK_UBLACK_R p),
      s.curveCode F.WSCAN_OC_SEL_G (s.trimmed t word 1 F.WSCAN_TILE_UBLACK_UBLACK_G p),
      s.curveCode F.WSCAN_OC_SEL_B (s.trimmed t word 2 F.WSCAN_TILE_UBLACK_UBLACK_B p))

/-- The address of a lamp in the scan store (R326). -/
def State.scanAddr (s : State) (frame index : Nat) : Nat :=
  s.fld F.WSCAN_SCAN_BASE_BASE 0 * 65536 + frame % 2 * 0x18000000 + 6 * index

/-- The bytes of a lamp's codes. -/
def codeBytes (c : Nat × Nat × Nat) : List Byte := beBytes 2 c.1 ++ beBytes 2 c.2.1 ++ beBytes 2 c.2.2

/-! ### A band is composed (R308 to R310, R315, R326) -/

/-- The composed value of a lamp of a band: past the first `k` lamps the background (R308). -/
def State.bandLamp (s : State) (bad : List Nat) (f : WallFrame) (b : Nat) (k : Option Nat) (x y : Nat) : Tri :=
  match k with
  | none => s.lampAt bad f x y
  | some n => if (y - b * s.bandRows) * s.canvasW + x < n then s.lampAt bad f x y else f.back

/-- A lamp of a tile is written to the scan store. -/
def scanLamp (s0 : State) (bad lcBad : List Nat) (f : WallFrame) (b : Nat) (k : Option Nat) (t i j : Nat) (s : State) : State :=
  let (x, y) := s0.tileLamp t i j
  if y / s0.bandRows ≠ b then s
  else
    let idx := s0.fld F.WSCAN_TILE_LC_LCI t + j * s0.tileW t + i
    let word := s0.mem.readLe (s0.lcAddr (lcBad.contains idx) idx) 16
    s.store (s0.scanAddr f.frame.toNat idx) (codeBytes (s0.lampCodes t word (s0.bandLamp bad f b k x y)))

/-- The lamps of a band of the enabled tiles are corrected and written to the scan store. -/
def scanBand (bad lcBad : List Nat) (f : WallFrame) (b : Nat) (k : Option Nat) (s : State) : State :=
  if !s.scanOn then s
  else
    let t := s.tilesOn.foldl (fun u tile =>
      (List.range (s.tileH tile)).foldl (fun u1 j =>
        (List.range (s.tileW tile)).foldl (fun u2 i => scanLamp s bad lcBad f b k tile i j u2) u1) u) s
    if lcBad.isEmpty then t else (t.bumpN .WSCAN_LC_ALT_CNT 0 lcBad.length).raise Src.WSCAN_LC_MIRROR

/-- The lamps of a band are captured (R315). -/
def captureBand (bad : List Nat) (f : WallFrame) (b : Nat) (k : Option Nat) (s : State) : State :=
  if s.wcomp.capFrame ≠ some f.frame then s
  else
    let base := s.fld F.WCOMP_CAP_BASE_BASE 0 * 65536
    (s.rowsOf b).foldl (fun u y => (List.range s.canvasW).foldl (fun u1 x =>
      let v := s.bandLamp bad f b k x y
      let n := unsign 20 v.a + unsign 20 v.b * 2 ^ 20 + unsign 20 v.c * 2 ^ 40
      u1.store (base + (y * s.canvasW + x) * 8) (leBytes 8 n)) u) s

/-- A wall frame held is replaced. -/
def putWallFrame (f : WallFrame) (s : State) : State :=
  let put (o : Option WallFrame) : Option WallFrame := o.map (fun g => if g.frame = f.frame then f else g)
  { s with wcomp := { s.wcomp with cur := put s.wcomp.cur, last := put s.wcomp.last } }

/-- A band of a wall frame is finished, whole (`k` none) or with its first `k` lamps. -/
def finishBand (frame : Word) (b : Nat) (k : Option Nat) (bad lcBad : List Nat) (s : State) : State :=
  match s.wallFrame frame with
  | none => s
  | some f =>
    if f.done.contains b || decide (s.bands ≤ b) then s
    else
      let s1 := if bad.isEmpty then s else (s.bumpN .WCOMP_SL_ALT_CNT 0 bad.length).raise Src.WCOMP_SL_MIRROR
      let s2 := countSkips f b (captureBand bad f b k (scanBand bad lcBad f b k s1))
      let s3 := putWallFrame { f with done := b :: f.done, late := if k.isSome then b :: f.late else f.late } s2
      if k.isSome then (s3.bump .WCOMP_LATE_CNT 0).raise Src.WCOMP_LATE else s3

/-! ### Band slots and Frame Marks (R325, R327, R331) -/

/-- SCAN_OFS in ns, rounded down. -/
def State.scanOfs (s : State) : Nat := s.tf3 s.wallTd / (3 * s.bands) + s.fld F.WSCAN_CFG_SCAN_MARGIN 0 * 1000

/-- The start of slot(N, b) (R325). -/
def State.slotStart (s : State) (f : WallFrame) (b : Nat) : Int := f.shutter + (s.scanOfs + b * s.tf3 s.wallTd / (3 * s.bands) : Nat)

/-- One pixel packet of a native row: `n` lamps from column `c` (R330); a HOT tile's codes are 0 (R335). -/
def sendPixels (t frame row c n : Nat) (s : State) : State :=
  let idx := s.fld F.WSCAN_TILE_LC_LCI t + row * s.tileW t + c
  let px := if s.tileState t = 5 then List.replicate (6 * n) 0#8 else s.load (s.scanAddr frame idx) (6 * n)
  sendTile (s.fld F.WSCAN_TILE_CFG_PORT t) (tileMac (s.fld F.WSCAN_TILE_CFG_POS t)) 1 (frame % 65536)
    (beBytes 2 row ++ beBytes 2 c ++ beBytes 2 n ++ [0#8, 0#8] ++ px) s

/-- A tile is sent whole: FRAME_CTL, then its rows in ascending order. -/
def sendTileFrame (t frame : Nat) (s : State) : State :=
  let n := s.pktLamps
  (List.range (s.tileH t)).foldl (fun u row =>
    (List.range (ceilDiv (s.tileW t) n)).foldl (fun u1 k =>
      sendPixels t frame row (k * n) (min n (s.tileW t - k * n)) u1) u) (sendFrameCtl t (frame % 65536) s)

/-- A tile takes part in a frame: RUNNING since before it, or HOT; its port's link is up. -/
def State.tileSent (s : State) (t : Nat) (frame : Word) : Bool :=
  s.tileLink (s.fld F.WSCAN_TILE_CFG_PORT t)
    && (s.tileState t == 5 || (s.tileState t == 4 && decide (0 ≤ signed 32 (frame - (s.tileRun t).runFrom).toNat)))

/-- A band slot opens (R325, R331). -/
def openSlot (frame : Word) (b : Nat) (s : State) : State :=
  match s.wallFrame frame with
  | none => s
  | some f =>
    if !s.scanOn || f.sent.contains b || decide (s.bands ≤ b) then s
    else
      let s1 := putWallFrame { f with sent := b :: f.sent } (passTo (s.slotStart f b) (clearSent s))
      (s1.tilesOn.filter (fun t => s1.lastBand t == b && s1.tileSent t frame)).foldl
        (fun u t => sendTileFrame t frame.toNat u) s1

/-- The packet that a port was to send last in its slot was not sent (R327). -/
def packetMissed (p : Nat) (s : State) : State :=
  if s.scanOn && s.tileLink p then
    let t := (s.bump .WSCAN_PORT_UNDER p).setFlag F.WSCAN_PORT_STAT_UNDER_S p true
    { t with wscan := { t.wscan with sent := t.wscan.sent.set p (t.wscan.sent.get [] p).tail } }
  else s

/-- The Frame Mark of the frame before the last Shutter, at S(N + 1) + SCAN_OFS, with D(N) (R325, R331). -/
def frameMark (s : State) : State :=
  match s.wcomp.cur, s.wcomp.last with
  | some c, some f =>
    if !s.scanOn then s
    else
      let at_ : Int := c.shutter + (s.scanOfs : Nat)
      let d := (at_ + (s.fld F.WSCAN_CFG_LATCH_DELAY 0 * 1000 : Nat)).toNat
      let n := f.frame.toNat % 65536
      let payload := beBytes 6 (d / 1000000000) ++ beBytes 4 (d % 1000000000) ++ beBytes 2 n
      let s1 := passTo at_ (clearSent s)
      ((List.range 128).filter s1.tileLink).foldl (fun u p => sendTile p tileAll 2 n payload u) s1
  | _, _ => s

/-! ### Reports (R332 to R335) -/

/-- A received report: the port's check of its frame. Answers the payload, or counts the frame (R319, R329). -/
def tileReceive (p : Nat) (f : EthFrame) (s : State) : Option (List Byte) × State :=
  if !s.flag F.WSCAN_PORT_CFG_EN p then (none, s)
  else if f.fault false ≠ 0 then (none, s.bump .WSCAN_PORT_RXERR p)
  else if f.tagged ∨ f.type ≠ 0x88B5 then (none, s)
  else
    let h := f.payload
    if fieldAt h 0 1 ≠ 1 ∨ fieldAt h 1 1 ≠ 4 then (none, s.bump .WSCAN_PORT_RXERR p)
    else (some ((h.drop 8).take (fieldAt h 6 2)), s)

/-- The enabled tile at a port and position. -/
def State.tileAt (s : State) (p pos : Nat) : Option Nat :=
  s.tilesOn.find? (fun t => s.fld F.WSCAN_TILE_CFG_PORT t == p && s.fld F.WSCAN_TILE_CFG_POS t == pos)

/-- A report has come from a tile now. -/
def noteReport (t : Nat) (s : State) : State := s.setTile t { s.tileRun t with lastRep := s.now }

/-- What STATUS shows of a tile (R330, R342). -/
def showStatus (t : Nat) (b : List Byte) (s : State) : State :=
  let fl := fieldAt b 2 2
  let s1 := s.setFlds t [(F.WSCAN_TILE_STAT_DRIVE_ON, b2n (bit fl 0)), (F.WSCAN_TILE_STAT_SENSOR_VALID, b2n (bit fl 2)),
    (F.WSCAN_TILE_STAT_TEMP, fieldAt b 4 2)]
  let s2 := (if bit fl 3 then s1.setFlag F.WSCAN_TILE_STAT_MISSED_S t true else s1).setReg .WSCAN_TILE_PTPOFS t
    (BitVec.ofNat 32 (fieldAt b 6 4))
  let s3 := (List.range 9).foldl (fun u k =>
    u.setFld (if k % 2 = 0 then F.WSCAN_SENSOR_S_LO else F.WSCAN_SENSOR_S_HI) (5 * t + k / 2) (fieldAt b (12 + 2 * k) 2)) s2
  s3.setTile t { s3.tileRun t with latched := fieldAt b 10 2, sensed := (s3.tileRun t).sensed || bit fl 2 }

/-- A heat shut-down (R335). -/
def tileHeats (t : Nat) (s : State) : State :=
  let s1 := ((sendDriveOff t s).setTileState t 5).setTile t { s.tileRun t with cool := none }
  ((s1.bump .WSCAN_TILE_HOT_CNT t).bump .WSCAN_HOT_CNT 0).raise Src.WSCAN_TILE_HOT

/-- A report in lock, or out of it, counts (R332): SYNCING reaches RUNNING; in RUNNING SYNC_OK follows. -/
def tileSyncs (t : Nat) (locked : Bool) (ofs : Int) (s : State) : State :=
  let x := s.tileRun t
  let near := decide (ofs.natAbs ≤ 1000)
  if s.tileState t = 3 then
    if !locked || !near then s.setTile t { x with inSync := 0, outSync := 0 }
    else if x.inSync + 1 < 3 then s.setTile t { x with inSync := x.inSync + 1, outSync := 0 }
    else
      let s1 := (s.setTileState t 4).setFlag F.WSCAN_TILE_STAT_SYNC_OK t true
      s1.setTile t { x with inSync := 3, outSync := 0, runFrom := s.reg .REF_TD_FRAME s.wallTd + 1 }
  else if s.tileState t = 4 then
    if near then
      let s1 := s.setTile t { x with inSync := x.inSync + 1, outSync := 0 }
      if 3 ≤ x.inSync + 1 then s1.setFlag F.WSCAN_TILE_STAT_SYNC_OK t true else s1
    else
      let s1 := s.setTile t { x with inSync := 0, outSync := x.outSync + 1 }
      if 3 ≤ x.outSync + 1 ∧ s.flag F.WSCAN_TILE_STAT_SYNC_OK t then
        (s1.setFlag F.WSCAN_TILE_STAT_SYNC_OK t false).raise Src.WSCAN_TILE_SYNC
      else s1
  else s

/-- A HOT tile's report and the cool window (R335). -/
def tileCooling (t : Nat) (temp : Int) (s : State) : State :=
  let x := s.tileRun t
  if temp ≤ 16 * ((s.fld F.WSCAN_THERM_TILE_TEMP_LIMIT 0 : Int) - 10) then
    s.setTile t { x with cool := some (x.cool.getD s.now) }
  else s.setTile t { x with cool := none }

/-- A STATUS report (R332, R335, R336). -/
def statusIn (p : Nat) (f : EthFrame) (s : State) : State :=
  match tileReceive p f s with
  | (none, s1) => s1
  | (some b, s1) =>
    if fieldAt b 0 1 ≠ 1 then s1
    else match s1.tileAt p (fieldAt b 1 1) with
      | none => s1
      | some t =>
        let s2 := showStatus t b (noteReport t (clearSent s1))
        let st := s2.tileState t
        let temp := signed 16 (fieldAt b 4 2)
        if st < 2 ∨ 5 < st then s2
        else if bit (fieldAt b 2 2) 8 then tileFaults t s2
        else if 16 * (s2.fld F.WSCAN_THERM_TILE_TEMP_LIMIT 0 : Int) ≤ temp then tileHeats t s2
        else if st = 5 then tileCooling t temp s2
        else tileSyncs t (bit (fieldAt b 2 2) 1) (signed 32 (fieldAt b 6 4)) s2

/-- A tile goes to SYNCING. -/
def tileToSync (t : Nat) (s : State) : State :=
  (s.setTileState t 3).setTile t { s.tileRun t with inSync := 0, outSync := 0, cool := none }

/-- A HOT tile has been cool for 30 s (R335). -/
def tileCools (t : Nat) (s : State) : State :=
  match s.tileState t, (s.tileRun t).cool with
  | 5, some c => tileToSync t (passToNow (c + 30000000000) s)
  | _, _ => s

/-- A tile is lost: no report for 500 ms, or its port's link is down (R332). -/
def tileLoses (t : Nat) (linkDown : Bool) (s : State) : State :=
  let st := s.tileState t
  if 2 ≤ st ∧ st ≤ 5 then
    let s1 := if linkDown then s else passToNow ((s.tileRun t).lastRep + 500000000) s
    ((s1.setTileState t 6).setTile t { s1.tileRun t with load := none, cool := none }).raise Src.WSCAN_TILE_LOST
  else s

/-! ### Loading (R332, R333, R381) -/

/-- The serial number held of a tile. -/
def State.tileSerial (s : State) (t : Nat) : Nat :=
  (s.reg .WSCAN_TILE_SERIAL_LO t).toNat + (s.reg .WSCAN_TILE_SERIAL_HI t).toNat * 2 ^ 32

/-- Reads outstanding on a port. -/
def State.readsOut (s : State) (p : Nat) : Nat :=
  (s.tilesOn.filter (fun t => s.fld F.WSCAN_TILE_CFG_PORT t == p)).foldl (fun a t =>
    match (s.tileRun t).load with | some l => a + l.reads.length | none => a) 0

/-- The next read of a loading tile, if the port may have one more (R333). The first read goes alone (R381). -/
def nextRead (t : Nat) (s : State) : State :=
  let p := s.fld F.WSCAN_TILE_CFG_PORT t
  match (s.tileRun t).load with
  | none => s
  | some l =>
    if l.len ≤ l.next || decide (4 ≤ s.readsOut p) || (!l.headOk && decide (0 < l.next)) || !s.tileLink p then s
    else
      let tag := s.wscan.tag.get 0 p
      let r : IdRead := ⟨tag, l.next, min 1024 (l.len - l.next), 1, s.now⟩
      let s1 := s.setTile t { s.tileRun t with load := some { l with reads := l.reads ++ [r], next := l.next + r.len } }
      sendIdRead t r { s1 with wscan := { s1.wscan with tag := s1.wscan.tag.set p ((tag + 1) % 256) } }

/-- The tiles of a port send the reads that they may. -/
def pumpReads (p : Nat) (s : State) : State :=
  let ts := s.tilesOn.filter (fun t => s.fld F.WSCAN_TILE_CFG_PORT t == p)
  (List.range 4).foldl (fun u _ => ts.foldl (fun u1 t => nextRead t u1) u) s

/-- T_loop of a tile is the identity again (R323). -/
def resetTrim (t : Nat) (s : State) : State :=
  (List.range 9).foldl (fun u k => u.setReg .WSCAN_TRIM (9 * t + k) (if k % 4 = 0 then 65536 else 0)) s

/-- IDENT of a tile (R332, R333). -/
def identTile (t p serial w h len : Nat) (s0 : State) : State :=
  let s := noteReport t s0
  let st := s.tileState t
  let loading : Bool := match (s.tileRun t).load with | some l => l.serial == serial | none => false
  if st = 7 then s
  else if w ≠ s.tileW t ∨ h ≠ s.tileH t then tileFaults t s
  else if serial ≠ s.tileSerial t then
    if st = 2 ∧ loading then s
    else
      let s1 := (resetTrim t s).setTileState t 2
      pumpReads p (s1.setTile t { s1.tileRun t with load := some ⟨len, [], 0, [], false, serial⟩ })
  else if st = 1 ∨ st = 6 ∨ st = 2 then tileToSync t (s.setTile t { s.tileRun t with load := none })
  else s

/-- An IDENT report. -/
def identIn (p : Nat) (f : EthFrame) (s : State) : State :=
  match tileReceive p f s with
  | (none, s1) => s1
  | (some b, s1) =>
    if fieldAt b 0 1 ≠ 2 then s1
    else match s1.tileAt p (fieldAt b 1 1) with
      | none => (s1.bump .WSCAN_UNMAPPED_CNT 0).raise Src.WSCAN_UNMAPPED
      | some t => identTile t p (fieldAt b 2 8) (fieldAt b 10 2) (fieldAt b 12 2) (fieldAt b 14 4) (clearSent s1)

/-- The bytes of a record that have come, in order. -/
def TileLoad.bytes (l : TileLoad) : List Byte :=
  (sortBy (fun (a b : Nat × List Byte) => decide (a.1 < b.1)) l.got).flatMap (·.2)

/-- The check of a record's header (R381): the REASON of failure, 0 when it passes. -/
def headerReason (h : List Byte) (serial w ht len : Nat) : Nat :=
  if fieldAt h 0 4 ≠ 0x43544952 ∨ fieldAt h 4 1 ≠ 1 then 1
  else if fieldAt h 60 4 ≠ crc32c (h.take 60) then 2
  else if fieldAt h 8 8 ≠ serial ∨ fieldAt h 16 2 ≠ w ∨ fieldAt h 18 2 ≠ ht then 3
  else if fieldAt h 32 4 ≠ 64 ∨ fieldAt h 36 4 ≠ 16 * w * ht ∨ len ≠ 68 + 16 * w * ht ∨ 7 < fieldAt h 23 1 then 4
  else 0

/-- A record check fails (R381). -/
def recordFails (t reason : Nat) (s : State) : State :=
  ((tileFaults t (s.setFlds 0 [(F.IDM_TILE_LAST_TILE, t), (F.IDM_TILE_LAST_REASON, reason)])).bump .IDM_TILE_FAIL_CNT 0).raise
    Src.IDM_TILE_REC_BAD

/-- CURVE differs from a primary's table in WSCAN_OC_SEL (R381). -/
def State.curveMis (s : State) (c : Nat) : Bool :=
  s.fld F.WSCAN_OC_SEL_R 0 != c || s.fld F.WSCAN_OC_SEL_G 0 != c || s.fld F.WSCAN_OC_SEL_B 0 != c

/-- A record has passed every check: the tile's loading is complete (R332, R381). -/
def recordLoaded (t : Nat) (l : TileLoad) (s : State) : State :=
  let b := l.bytes
  let c := fieldAt b 23 1
  let s1 := s.setFlds t [(F.IDM_TILE_FACT_FACT_R, fieldAt b 20 1), (F.IDM_TILE_FACT_FACT_G, fieldAt b 21 1),
    (F.IDM_TILE_FACT_FACT_B, fieldAt b 22 1), (F.IDM_TILE_FACT_CURVE, c), (F.IDM_TILE_FACT_CURVE_MIS, b2n (s.curveMis c))]
  let s2 := (s1.setReg .WSCAN_TILE_SERIAL_LO t (BitVec.ofNat 32 l.serial)).setReg .WSCAN_TILE_SERIAL_HI t
    (BitVec.ofNat 32 (l.serial / 2 ^ 32))
  let s3 := s2.setTile t { s2.tileRun t with load := none }
  if s3.tileState t = 2 then tileToSync t s3 else s3

/-- The lamp words among bytes at an offset of the record go to both correction copies (R332). -/
def copyLamps (t off lamps : Nat) (bs : List Byte) (s : State) : State :=
  let skip := 64 - off
  let part := (bs.drop skip).take (64 + lamps - (off + skip))
  let at_ := 16 * s.fld F.WSCAN_TILE_LC_LCI t + (off + skip - 64)
  (s.store (s.lcAddr false 0 + at_) part).store (s.lcAddr true 0 + at_) part

/-- Bytes of a tile's record arrive (R333, R381). -/
def recordBytes (t p : Nat) (l : TileLoad) (r : IdRead) (bs : List Byte) (s : State) : State :=
  let w := s.tileW t
  let h := s.tileH t
  let l1 := { l with reads := l.reads.filter (fun x => x.tag != r.tag), got := l.got ++ [(r.offset, bs)] }
  let reason := if l.headOk then 0 else headerReason bs l.serial w h l.len
  if reason ≠ 0 then pumpReads p (recordFails t reason s)
  else
    let l2 := { l1 with headOk := true }
    let s1 := copyLamps t r.offset (16 * w * h) bs (s.setTile t { s.tileRun t with load := some l2 })
    if l2.next < l2.len ∨ l2.reads ≠ [] then pumpReads p s1
    else
      let b := l2.bytes
      if fieldAt b (64 + 16 * w * h) 4 ≠ crc32c ((b.drop 64).take (16 * w * h)) then pumpReads p (recordFails t 5 s1)
      else pumpReads p (recordLoaded t l2 s1)

/-- An IDDATA report: from the tile that its source address names, for a read outstanding (R333). -/
def iddataIn (p : Nat) (f : EthFrame) (s : State) : State :=
  match tileReceive p f s with
  | (none, s1) => s1
  | (some b, s1) =>
    if fieldAt b 0 1 ≠ 3 then s1
    else match s1.tileAt p (fieldAt f.bytes 11 1) with
      | none => s1
      | some t =>
        let s2 := noteReport t (clearSent s1)
        match (s2.tileRun t).load with
        | none => s2
        | some l =>
          match l.reads.find? (fun r => r.tag == fieldAt b 1 1 && r.offset == fieldAt b 2 4 && r.len == fieldAt b 6 2) with
          | none => s2
          | some r => recordBytes t p l r ((b.drop 8).take r.len) s2

/-- A read has gone unanswered for 1 ms (R333). -/
def readTimesOut (t tag : Nat) (s : State) : State :=
  match (s.tileRun t).load with
  | none => s
  | some l =>
    match l.reads.find? (fun r => r.tag == tag) with
    | none => s
    | some r =>
      let s1 := clearSent (passToNow (r.at_ + 1000000) s)
      if 3 ≤ r.sends then pumpReads (s1.fld F.WSCAN_TILE_CFG_PORT t) (tileFaults t (s1.bump .WSCAN_IDREAD_FAIL_CNT 0))
      else
        let r1 := { r with sends := r.sends + 1, at_ := s1.now }
        let l1 := { l with reads := l.reads.map (fun x => if x.tag = tag then r1 else x) }
        sendIdRead t r1 (s1.setTile t { s1.tileRun t with load := some l1 })

/-- ENUM with POS 0 goes out (R333). -/
def enumSends (p : Nat) (s : State) : State :=
  if s.tileLink p then sendTile p tileAll 3 s.wallFrameNo [0x03#8, 0x00#8] (clearSent s) else s

/-! ### The colour loop (R337) -/

/-- One coefficient steps. -/
def loopStep (target sensor gain : Nat) (loop_ : Int) : Int :=
  let d := clampInt (-13) 13 ((((target : Int) - sensor) * gain + 8) / 16)
  clampInt (-131072) 131071 (loop_ + d)

/-- The last reading of a tile. -/
def State.sensor (s : State) (t k : Nat) : Nat :=
  s.fld (if k % 2 = 0 then F.WSCAN_SENSOR_S_LO else F.WSCAN_SENSOR_S_HI) (5 * t + k / 2)

/-- The loop acts on a tile. -/
def loopTile (s : State) (t : Nat) : State :=
  if s.tileState t = 4 ∧ s.flag F.WSCAN_TARGET_VALID (9 * t) ∧ (s.tileRun t).sensed then
    (List.range 9).foldl (fun u k =>
      let x := loopStep (u.fld F.WSCAN_TARGET_TARGET (9 * t + k)) (u.sensor t k) (u.fld F.WSCAN_LOOP_CFG_GAIN 0)
        (signed 18 (u.reg .WSCAN_TRIM (9 * t + k)).toNat)
      u.setFld F.WSCAN_TRIM_T_LOOP (9 * t + k) (unsign 18 x)) s
  else s

/-- A tick: the first Shutter of the wall domain at or after a multiple of 6 s. -/
def loopTick (s : State) : State :=
  match (s.tdOf s.wallTd).last with
  | none => s
  | some f =>
    if s.flag F.WSCAN_CFG_LOOP_EN 0 && decide (s.wscan.loopAt / 6000000000 < f.shutter / 6000000000) then
      let s1 := s.tilesOn.foldl loopTile s
      { s1 with wscan := { s1.wscan with loopAt := f.shutter,
                                         tile := s1.wscan.tile.map (fun _ x => { x with sensed := false }) } }
    else s

/-! ### Proof signatures (R338, R339) -/

/-- The signature of a list of values. -/
def proofSig (vs : List Nat) : Nat := crc32c (vs.flatMap (leBytes 4))

/-- The grid of samples in `n` from a start. -/
def proofGrid (start n step : Nat) : List Nat := (List.range (ceilDiv n step)).map (fun k => start + k * step)

/-- STEP. -/
def State.proofStep (s : State) : Nat := max 1 (s.fld F.WSCAN_FREEZE_STEP 0)

/-- The codes of a source sample in the order of R175; a 4:2:2 sample with the chroma of its pair. -/
def PipeSrc.codes (p : PipeSrc) (row x : Nat) : List Nat :=
  if fmt422 p.fmt then
    [(p.comp row (4 * (x / 2))).toNat, (p.comp row (2 * x + 1)).toNat, (p.comp row (4 * (x / 2) + 2)).toNat]
  else [(p.comp row (3 * x)).toNat, (p.comp row (3 * x + 1)).toNat, (p.comp row (3 * x + 2)).toNat]

/-- The signature of a layer's source frame. -/
def State.layerSig (s : State) (w : WallLayer) : Nat :=
  let p := w.src
  proofSig ((proofGrid p.cy p.ch s.proofStep).flatMap (fun y => (proofGrid p.cx p.cw s.proofStep).flatMap (fun x => p.codes y x)))

/-- The signature of an output region in a wall frame. -/
def State.regionSig (s : State) (r : Nat) (f : WallFrame) : Nat :=
  let xs := proofGrid (s.fld F.WSCAN_REG_POS_X r) (s.fld F.WSCAN_REG_SIZE_W_M1 r + 1) s.proofStep
  let ys := proofGrid (s.fld F.WSCAN_REG_POS_Y r) (s.fld F.WSCAN_REG_SIZE_H_M1 r + 1) s.proofStep
  proofSig (ys.flatMap (fun y => xs.flatMap (fun x =>
    let v := s.lampAt [] f x y
    [unsign 20 v.a, unsign 20 v.b, unsign 20 v.c])))

/-- COUNT and FROZEN after a comparison (R339): fields of FROZEN and COUNT, the element, whether this is the first
signature, the old and new signatures, whether the frame advanced. -/
def proofCompare (fz ct : Fld) (i : Nat) (fresh : Bool) (old new : Nat) (adv : Bool) (s : State) : State :=
  if fresh || old != new then s.setFlds i [(ct, 0), (fz, 0)]
  else if !adv then s
  else
    let n := min 255 (s.fld ct i + 1)
    let t := s.setFld ct i n
    if n = s.fld F.WSCAN_FREEZE_FREEZE_FRAMES 0 ∧ !s.flag fz i then (t.setFlag fz i true).raise Src.WSCAN_FROZEN else t

/-- A Proof run replaced. -/
def State.setProof (s : State) (k : Nat) (x : ProofRun) : State :=
  { s with wscan := { s.wscan with proof := s.wscan.proof.set k x } }

/-- A layer's Proof frame closes: the source frame whose successor's first line has been written. -/
def layerProof (l : Nat) (s : State) : State :=
  match (s.routes (1024 + l)).committed with
  | none => s
  | some r =>
    match ((s.xpt.pipeFs.find? r.unit).map (·.frames)).getD [] with
    | _ :: f :: _ =>
      let w : WallLayer := ⟨l, (s.layer l).now, (s.vinRec r.vin).fmt, f.lines, true, r.unit, 0, 0⟩
      let run := s.wscan.proof.get ⟨0, false⟩ (64 + l)
      let adv := !run.taken || run.frame != f.frame
      let sig := s.layerSig w
      let s1 := if f.lines.any (fun x => !x.present) then
          s.setFlds l [(F.WSCAN_LPROOF_STAT_COUNT, 0), (F.WSCAN_LPROOF_STAT_FROZEN, 0)]
        else proofCompare F.WSCAN_LPROOF_STAT_FROZEN F.WSCAN_LPROOF_STAT_COUNT l (!run.taken)
          (s.reg .WSCAN_LPROOF_SIG l).toNat sig adv s
      let s2 := (s1.setReg .WSCAN_LPROOF_SIG l (BitVec.ofNat 32 sig)).setProof (64 + l) ⟨f.frame, true⟩
      if adv then { s2 with wscan := { s2.wscan with advanced := l :: s2.wscan.advanced.filter (· != l) } } else s2
    | _ => s

/-- A layer's rectangle meets a region. -/
def State.layerMeets (s : State) (x : LayerSet) (r : Nat) : Bool :=
  let rx : Int := s.fld F.WSCAN_REG_POS_X r
  let ry : Int := s.fld F.WSCAN_REG_POS_Y r
  decide (x.x < rx + s.fld F.WSCAN_REG_SIZE_W_M1 r + 1) && decide (rx < x.x + x.w)
    && decide (x.y < ry + s.fld F.WSCAN_REG_SIZE_H_M1 r + 1) && decide (ry < x.y + x.h)

/-- A region's Proof frame closes: a wall frame, the last or the one before it. -/
def regionProof (r : Nat) (before : Bool) (s : State) : State :=
  match if before then s.wcomp.last else s.wcomp.cur with
  | none => s
  | some f =>
    if !s.flag F.WSCAN_REG_SIZE_EN r then s
    else
      let run := s.wscan.proof.get ⟨0, false⟩ r
      let moved := if before then s.wscan.advLast else s.wscan.advanced
      let adv := f.layers.any (fun x => moved.contains x.idx && s.layerMeets x.set r)
      let sig := s.regionSig r f
      let s1 := proofCompare F.WSCAN_REG_STAT_FROZEN F.WSCAN_REG_STAT_COUNT r (!run.taken)
        (s.reg .WSCAN_REG_SIG r).toNat sig adv s
      (s1.setReg .WSCAN_REG_SIG r (BitVec.ofNat 32 sig)).setProof r ⟨f.frame.toNat, true⟩

/-- At a Shutter the source of a layer changes: its COUNT and FROZEN start anew (R339). -/
def proofRestart (l : Nat) (s : State) : State := s.setFlds l [(F.WSCAN_LPROOF_STAT_COUNT, 0), (F.WSCAN_LPROOF_STAT_FROZEN, 0)]

/-! ### The Shutter of the wall domain -/

/-- The entries of a register that have been written. -/
def State.writtenIdx (s : State) (r : RegName) (n : Nat) : List Nat :=
  (s.regs.keys.filter (fun k => k % 1024 == r.code && decide (k / 1024 < n))).map (· / 1024)

/-- Every written entry of a register takes effect. -/
def commitAll (r : RegName) (n : Nat) (s : State) : State := (s.writtenIdx r n).foldl (fun u i => u.commitReg r i) s

/-- The RWS registers of scan-out commit at the wall domain's Shutter, and a wall frame's advances begin anew.
While the colour loop is off no multiple of 6 s waits for its tick (R337). -/
def wscanShutter (n : Nat) (s : State) : State :=
  if n ≠ s.wallTd then s
  else
    let s1 := (s.commitReg .WSCAN_CUR 0).commitReg .WSCAN_OC_SEL 0
    let s2 := commitAll .WSCAN_UTRIM 9216 (commitAll .WSCAN_TILE_UBLACK 1024 (commitAll .WSCAN_TILE_PCC 1024 s1))
    let off := if s.flag F.WSCAN_CFG_LOOP_EN 0 then s2.wscan.loopAt
      else match (s.tdOf n).last with | some f => f.shutter | none => s2.wscan.loopAt
    { s2 with wscan := { s2.wscan with advLast := s2.wscan.advanced, advanced := [], loopAt := off } }

/-! ### Register writes (R321, R322, R324, R325, R342) -/

/-- A footprint lies within the canvas. -/
def State.footInside (s : State) (t : Nat) : Bool :=
  decide (s.fld F.WSCAN_TILE_ORG_X0 t + s.footW t ≤ s.canvasW) && decide (s.fld F.WSCAN_TILE_ORG_Y0 t + s.footH t ≤ s.canvasH)

/-- The lamp range of a tile clashes, or passes the table's end. -/
def State.lampsClash (s : State) (t : Nat) : Bool :=
  let a := s.fld F.WSCAN_TILE_LC_LCI t
  let n := s.tileW t * s.tileH t
  decide (67108864 < a + n) || s.tilesOn.any (fun u => u != t
    && decide (a < s.fld F.WSCAN_TILE_LC_LCI u + s.tileW u * s.tileH u) && decide (s.fld F.WSCAN_TILE_LC_LCI u < a + n))

/-- Another enabled tile has the place. -/
def State.placeTaken (s : State) (t : Nat) : Bool :=
  s.tilesOn.any (fun u => u != t && s.fld F.WSCAN_TILE_CFG_PORT u == s.fld F.WSCAN_TILE_CFG_PORT t
    && s.fld F.WSCAN_TILE_CFG_POS u == s.fld F.WSCAN_TILE_CFG_POS t)

/-- A write of WSCAN_TILE_CFG (R321). -/
def writeTileCfg (t : Nat) (v : Word) (s : State) : State :=
  let on := F.WSCAN_TILE_CFG_EN.of v == 1
  let was := s.tileOn t
  let other := (v ^^^ s.reg .WSCAN_TILE_CFG t) &&& 0xFFFE#32 != 0
  let n := plainWrite .WSCAN_TILE_CFG t v s
  let bad := on && (!n.footInside t || n.lampsClash t || n.placeTaken t || (s.scanOn && (!n.portsFit || !n.scanFits)))
  if (was && other) || (!was && bad) then s.reject .WSCAN
  else if on && !was then scanReserve ((n.setReg .WSCAN_TILE_STAT t 1).setTile t .reset)
  else if was && !on then scanReserve ((n.setTileState t 0).setTile t .reset)
  else n

/-- A write of WSCAN_CFG (R325, R326). -/
def writeScanCfg (v : Word) (s : State) : State :=
  let on := F.WSCAN_CFG_EN.of v == 1
  let m := F.WSCAN_CFG_SCAN_MARGIN.of v
  let d := F.WSCAN_CFG_LATCH_DELAY.of v
  let n := plainWrite .WSCAN_CFG 0 v s
  if decide (1000 < m) || decide (d < 10) || decide (1000 < d) || (on && (!n.scanOfsOk || !n.portsFit || !n.scanFits)) then
    s.reject .WSCAN
  else scanReserve n

/-- A write of WSCAN_PORT_CFG (R319). -/
def writeTilePort (p : Nat) (v : Word) (s : State) : State :=
  let l := F.WSCAN_PORT_CFG_LANE.of v
  let used := (List.range 128).any (fun q => q != p && s.flag F.WSCAN_PORT_CFG_EN q && s.tileLane q == l)
  guardedWrite (F.WSCAN_PORT_CFG_EN.of v == 1 && (!s.tileLaneOk l || used)) .WSCAN_PORT_CFG p v s

/-- A write of a base (R322, R342). -/
def writeScanBase (r : RegName) (v : Word) (s : State) : State :=
  let b := v.toNat % 2 ^ 24
  let stackA := decide (b < 2 ^ 18)
  let stackB := decide (2 ^ 18 ≤ b) && decide (b < 2 ^ 19)
  let wrong := match r with | .WSCAN_LC_BASE_A => !stackA | .WSCAN_LC_BASE_B => !stackB | _ => !stackA && !stackB
  guardedWrite (wrong || (s.scanOn && s.altered r 0 v)) r 0 v s

/-- An output curve is selected at present. -/
def State.ocurveUsed (s : State) (k : Nat) : Bool :=
  [F.WSCAN_OC_SEL_R, F.WSCAN_OC_SEL_G, F.WSCAN_OC_SEL_B].any (fun f => s.fld f 0 == k || s.effFld f 0 == k)

/-- A write of a WSCAN register (R342). -/
def writeWscan (r : RegName) (i : Nat) (v : Word) (s : State) : State :=
  match r with
  | .WSCAN_CFG => writeScanCfg v s
  | .WSCAN_SCAN_BASE => writeScanBase r v s
  | .WSCAN_LC_BASE_A => writeScanBase r v s
  | .WSCAN_LC_BASE_B => writeScanBase r v s
  | .WSCAN_WM =>
    guardedWrite (decide (F.WSCAN_WM_WM_LOW.of v ≤ F.WSCAN_WM_WM_CRIT.of v) || decide (100 < F.WSCAN_WM_WM_LOW.of v)) r i v s
  | .WSCAN_THERM =>
    guardedWrite (decide (F.WSCAN_THERM_TILE_TEMP_LIMIT.of v < 40) || decide (120 < F.WSCAN_THERM_TILE_TEMP_LIMIT.of v)) r i v s
  | .WSCAN_FREEZE =>
    guardedWrite (F.WSCAN_FREEZE_FREEZE_FRAMES.of v == 0 || F.WSCAN_FREEZE_STEP.of v == 0
      || decide (16 < F.WSCAN_FREEZE_STEP.of v)) r i v s
  | .WSCAN_PORT_CFG => writeTilePort i v s
  | .WSCAN_TILE_CFG => writeTileCfg i v s
  | .WSCAN_TILE_DIM => guardedWrite (s.tileOn i && s.altered r i v) r i v s
  | .WSCAN_TILE_ORG => guardedWrite (s.tileOn i && s.altered r i v) r i v s
  | .WSCAN_TILE_LC => guardedWrite (s.tileOn i && s.altered r i v) r i v s
  | .WSCAN_OCURVE => if i / 4096 ≤ 3 then s else guardedWrite (s.ocurveUsed (i / 4096) && s.altered r i v) r i v s
  | _ => plainWrite r i v s

/-! ### Live registers -/

/-- WSCAN_PORT_STAT: the fill of the line buffer is a free value while scan-out runs (R327). -/
def State.tilePortStat (s : State) (p : Nat) : Word :=
  let up := s.tileLink p
  let fill := if s.scanOn && up then Config.portFill p s.now % 101 else 0
  let urgency := if !s.scanOn || !up || s.fld F.WSCAN_WM_WM_LOW 0 ≤ fill then 0
    else if s.fld F.WSCAN_WM_WM_CRIT 0 ≤ fill then 1 else 2
  let tiles := (s.tilesOn.filter (fun t => s.fld F.WSCAN_TILE_CFG_PORT t == p && decide (2 ≤ s.tileState t)
    && decide (s.tileState t ≤ 5))).length
  BitVec.ofNat 32 (b2n up + 2 * b2n (s.scanOn && up) + tiles * 2 ^ 4 + urgency * 2 ^ 12 + fill * 2 ^ 16
    + s.fld F.WSCAN_PORT_STAT_UNDER_S p * 2 ^ 24)

/-- A live WSCAN register, if it is one. -/
def State.wscanLive (s : State) (r : RegName) (i : Nat) : Option Word :=
  match r with
  | .WSCAN_STAT => some (BitVec.ofNat 32 (b2n s.scanOn + 2 * (if s.scanOn then s.wallFrameNo % 2 else 0)))
  | .WSCAN_HBM_RES =>
    let (a, b) := s.xpt.hbm.get (0, 0) 2001
    some (BitVec.ofNat 32 (a + b))
  | .WSCAN_PORT_STAT => some (s.tilePortStat i)
  | .WSCAN_PORT_LOAD => some (BitVec.ofNat 32 (s.tilePortLoad i))
  | .WSCAN_TILE_PCC => some (F.WSCAN_TILE_PCC_FACT_R.put (s.reg r i) (s.fld F.IDM_TILE_FACT_FACT_R i))
  | .WSCAN_OCURVE => if i / 4096 ≤ 3 then some (BitVec.ofInt 32 (s.curveOut (i / 4096) (i % 4096))) else none
  | _ => none

/-- The live sources of WSCAN_FLIVE (R342). -/
def State.wscanFlive (s : State) : Word :=
  let any (st : Nat) : Bool := s.tilesOn.any (fun t => s.tileState t == st)
  (if any 6 then Src.WSCAN_TILE_LOST.mask else 0) ||| (if any 5 then Src.WSCAN_TILE_HOT.mask else 0)
    ||| (if any 7 then Src.WSCAN_TILE_FAULT.mask else 0)
    ||| (if s.tilesOn.any (fun t => s.tileState t == 4 && !s.flag F.WSCAN_TILE_STAT_SYNC_OK t) then Src.WSCAN_TILE_SYNC.mask else 0)
    ||| (if (List.range 16).any (fun l => s.flag F.WSCAN_LPROOF_STAT_FROZEN l)
          || (List.range 64).any (fun r => s.flag F.WSCAN_REG_STAT_FROZEN r) then Src.WSCAN_FROZEN.mask else 0)

/-! ### The commands -/

/-- BAND_COMPOSE (R308, R309). -/
def execBandCompose (frame : Word) (band : Nat) (slBad lcBad : List Nat) (s : State) : Out :=
  .next (finishBand frame band none slBad lcBad s)

/-- LATE: the band has only its first lamps (R308). -/
def execLate (frame : Word) (band composed : Nat) (s : State) : Out := .next (finishBand frame band (some composed) [] [] s)

/-- SCAN_ENABLE: a write of WSCAN_CFG with EN = 1 (R325). -/
def execScanEnable (v : Word) (s : State) : Out := .next (writeScanCfg (v ||| 1#32) s)

/-- TILE_ENABLE: a write of WSCAN_TILE_CFG with EN = 1 (R321). -/
def execTileEnable (t : Fin 1024) (v : Word) (s : State) : Out := .next (writeTileCfg t (v ||| 1#32) s)

/-- BAND_SLOT (R325). -/
def execBandSlot (frame : Word) (band : Nat) (s : State) : Out := .next (openSlot frame band s)

/-- PIXEL_UNDER (R327). -/
def execPixelUnder (p : Fin 128) (s : State) : Out := .next (packetMissed p s)

/-- FRAME_MARK_TX (R331). -/
def execFrameMarkTx (s : State) : Out := .next (frameMark s)

/-- STATUS_REPORT (R332). -/
def execStatusReport (p : Fin 128) (f : EthFrame) (s : State) : Out := .next (statusIn p f s)

/-- TILE_COOL (R335). -/
def execTileCool (t : Fin 1024) (s : State) : Out := .next (tileCools t s)

/-- TILE_LOST (R332). -/
def execTileLost (t : Fin 1024) (linkDown : Bool) (s : State) : Out := .next (tileLoses t linkDown s)

/-- IDENT (R332). -/
def execIdent (p : Fin 128) (f : EthFrame) (s : State) : Out := .next (identIn p f s)

/-- IDDATA (R333). -/
def execIddata (p : Fin 128) (f : EthFrame) (s : State) : Out := .next (iddataIn p f s)

/-- IDREAD_TIMEOUT (R333). -/
def execIdreadTimeout (t : Fin 1024) (tag : BitVec 8) (s : State) : Out := .next (readTimesOut t tag.toNat s)

/-- ENUM_TX (R333). -/
def execEnumTx (p : Fin 128) (s : State) : Out := .next (enumSends p s)

/-- COLOUR_LOOP_TICK (R337). -/
def execColourLoopTick (s : State) : Out := .next (loopTick s)

/-- PROOF_CLOSE (R339). -/
def execProofClose (w : ProofOf) (s : State) : Out :=
  .next (match w with | .layer l => layerProof l s | .region r before => regionProof r before s)

end Sys2Proof.Machine
end

