-- ==== Sys2Proof/Machine/Frame.lean ====
section
/-!
DEFINITION. The order of a frame (R10 to R15): Cue Open, the Shutter and the close of the Overlap Window of a timing domain,
each as the steps of R11 and R12 over the blocks; and the disabling of a domain, which a migration no longer waits for.
-/

namespace Sys2Proof.Machine

/-- The source that a wall layer shows. -/
def State.layerSource (s : State) (l : Nat) : Option Nat := (s.routes (1024 + l)).committed.map (·.vin)

/-- Layers whose committed source changed start their Proofs anew (R339). -/
def proofsRestart (before s : State) : State :=
  (List.range 16).foldl (fun u l => if before.layerSource l = u.layerSource l then u else proofRestart l u) s

/-- Shadows commit (R12): routes with the wall layers that commit, then what deleted threads governed. -/
def commitShadows (n : Nat) (s : State) : State :=
  let layers := s.layersCommitting n
  let s1 := xptShutter n layers (deleteMutes n (countHolds n s))
  let s2 := proofsRestart s (deleteObjects n s1)
  wscanShutter n (wcompShutter n layers (audShutter n s2))

/-- The Shutter of domain `n`, at the times its open frame has (R11 step 3, R12, R13). -/
def shutterOf (n : Nat) (t : FrameTimes) (s : State) : State :=
  ttbShutter n (cueShuts n (vaultShutter n (commitShadows n (cueStop n (tdShut n t s)))))

/-- The instant at which the Overlap Window after the last Shutter of domain `n` closes. -/
def State.overlapEnd (s : State) (n : Nat) (t : FrameTimes) : Int :=
  let lines := max (s.ovlForce 0 n) (s.ovlForce 1 n)
  t.shutter + (ceilDiv (lines * s.tf3 n) (3 * max 1 (s.totalLines n)) : Nat)

/-- The Overlap Window of domain `n` closes (R11 step 5). -/
def overlapCloses (n : Nat) (s : State) : State :=
  match (s.tdOf n).last with
  | none => s
  | some t =>
    if (s.tdOf n).overlapOpen then
      let s1 := passTo (s.overlapEnd n t) s
      vaultOverlapClose n (xptOverlapClose n (s1.setTd n { s1.tdOf n with overlapOpen := false }))
    else s

/-- CUE_OPEN (R11 step 1): O(N) falls where R52 to R55 place it. -/
def execCueOpen (td : Fin 8) (f : FrameStart) (slew : Nat) (s : State) : Out :=
  .next (match s.openFrame td f slew with
    | some (ph, t) => cueOpens td (tdOpen td ph t s)
    | none => s)

/-- SHUTTER (R11 step 3): S(N) of the frame whose Cue Window is open. -/
def execShutter (td : Fin 8) (s : State) : Out :=
  .next (match (s.tdOf td).opened with
    | some t => shutterOf td t s
    | none => s)

/-- OVERLAP_WINDOW_CLOSE (R11 step 5). -/
def execOverlapWindowClose (td : Fin 8) (s : State) : Out := .next (overlapCloses td s)

/-- TD_DISABLE: a write of REF_TD_CFG[n] with EN = 0 (R54). -/
def execTdDisable (n : Fin 8) (v : Word) (s : State) : Out := .next (vaultSettle (writeTdCfg n (v &&& ~~~ 1#32) s))

end Sys2Proof.Machine
end

