-- ==== Sys2Proof/Machine/Fwu.lean ====
section
/-!
DEFINITION. Firmware update (chapter 21): the command mailbox (R480), pieces (R465 to R467), erasing and verifying (R469,
R478), activation (R473, R474), settings and the ledger (R477, R479), and the resident loader of Darkroom mode (R481).
-/

namespace Sys2Proof.Machine

/-! ### Results (R480) -/

/-- RESULT and OP of the command answered. -/
def fwuAnswer (op result : Nat) (s : State) : State :=
  s.setFlds 0 [(F.FWU_CMD_STAT_RESULT, result), (F.FWU_CMD_STAT_OP, op)]

/-- The results that say that a command was refused: BUSY, STATE, FORMAT, CRC, ID, NO_TIME, PRIV. -/
def refusal (result : Nat) : Bool := [2, 3, 4, 5, 6, 11, 12].contains result

/-- What a result of an OP counts and reports: refusals, duplicates, failed flash writes. FORMAT from VERIFY is a failed
check, which VERIFY_FAIL shows. -/
def noteResult (op result : Nat) (s : State) : State :=
  if refusal result && !(op == 3 && result == 4) then (s.bump .FWU_REFUSE_CNT 0).raise Src.FWU_REFUSED
  else if result = 1 then s.bump .FWU_DUP_CNT 0
  else if result = 7 then s.raise Src.FWU_FLASH_ERR
  else s

/-- A range of the flash was erased and programmed, and reads back wrong: what it holds is free. -/
def badProgram (a n : Nat) (s : State) : State :=
  let (x, t) := s.freeNat
  program a (leBytes n x) (eraseFlash a n t)

/-! ### Pieces (R465 to R467) -/

/-- The bytes of FWU_PHDR and FWU_PBUF: a piece. -/
def State.mailbox (s : State) : List Byte :=
  (List.range 8).flatMap (fun (w : Nat) => leBytes 4 (s.reg .FWU_PHDR w).toNat)
    ++ (List.range 1024).flatMap (fun (w : Nat) => leBytes 4 (s.reg .FWU_PBUF w).toNat)

/-- The address of a slot's piece bitmap (R462). -/
def bitmapBase (k : Nat) : Nat := slotBase k + 0x3000000

/-- Piece `i` of a slot is recorded: its bitmap bit is 0 (R467). -/
def State.received (s : State) (k i : Nat) : Bool :=
  !bit (((s.flash (bitmapBase k + i / 8) 1).getD 0 0#8).toNat) (i % 8)

/-- RECEIVED: the bitmap bits at 0. -/
def State.receivedCount (s : State) (k : Nat) : Nat :=
  (s.flash (bitmapBase k) 1536).foldl (fun n b => n + ((List.range 8).filter (fun j => !b.getLsbD j)).length) 0

/-- The piece's header is right (R465, R466 check 3). -/
def pieceFormat (p : List Byte) : Bool :=
  let index := leAt p 12 4
  let count := leAt p 16 4
  let len := leAt p 20 4
  p.take 4 == tag4 0x53 0x56 0x50 0x43 && Nat.ble count 12288 && Nat.blt index count && Nat.ble (32 + len) p.length
    && (if index + 1 = count then Nat.ble 1 len && Nat.ble len 4096 else len == 4096)

/-- Checks 2 to 6 of R466 as RESULT codes: 3 STATE, 4 FORMAT, 5 CRC, 6 ID, 1 DUP, 0 none fails. -/
def State.pieceResult (s : State) (p : List Byte) : Nat :=
  match s.escrow with
  | none => 3
  | some k =>
    let r := s.slotRec k
    if r.state ≠ 0 ∧ r.state ≠ 1 then 3
    else if !pieceFormat p then 4
    else if leAt p 24 4 ≠ crc32c (p.take 24 ++ (p.drop 32).take (leAt p 20 4)) then 5
    else if r.state = 1 ∧ ¬ (r.id = leAt p 4 8 ∧ r.count = leAt p 16 4) then 6
    else if s.received k (leAt p 12 4) then 1
    else 0

/-- A piece that passed is written to slot `k`: its sector, then its bitmap bit; with the last bit the slot is COMPLETE. -/
def writePiece (k : Nat) (p : List Byte) (ok : Bool) (s : State) : Nat × State :=
  let index := leAt p 12 4
  let count := leAt p 16 4
  let a := slotBase k + index * 4096
  let s1 := if s.slotState k = 0 then appendRec k 1 (leAt p 4 8) count 0 s else s
  if ok then
    let s2 := program a ((p.drop 32).take (leAt p 20 4)) (eraseFlash a 4096 s1)
    let s3 := (program (bitmapBase k + index / 8) [BitVec.ofNat 8 (255 - 2 ^ (index % 8))] s2).bump .FWU_PIECE_CNT 0
    (0, if s3.receivedCount k = count then setSlot k 2 s3 else s3)
  else (7, badProgram a 4096 s1)

/-! ### Erasing and verifying (R469, R478) -/

/-- ERASE_ESCROW is refused with STATE. -/
def State.eraseResult (s : State) : Nat :=
  match s.escrow with
  | none => 3
  | some k => if s.slotState k = 4 ∨ s.slotState k = 5 then 3 else 0

/-- The image area, the bitmap and the settings store of a slot are erased, and an EMPTY record is appended. Where the flash
fails, whether the areas were erased is free. -/
def eraseSlot (k : Nat) (ok : Bool) (s : State) : Nat × State :=
  let areas (t : State) : State := eraseFlash (slotBase k + 0x3010000) 0x400000 (eraseFlash (slotBase k) 0x3001000 t)
  if ok then
    let t := appendRec k 0 0 0 0 (areas s)
    (0, { t with fwu := { t.fwu with preloaded := t.fwu.preloaded.filter (· != k) } })
  else
    let (b, t) := s.freeBool
    (7, if b then areas t else t)

/-- VERIFY is refused with STATE. -/
def State.verifyResult (s : State) : Nat :=
  match s.escrow with
  | none => 3
  | some k => if s.slotState k = 2 then 0 else 3

/-- The checks of R469 end: the slot is VERIFIED with the image preloaded, or REJECTED. -/
def verifySlot (k : Nat) (s : State) : Nat × State :=
  let x := s.imageResult k
  let t := if s.imageHeaderOk k && s.imageSegmentsOk k then loadImage k true s else s
  if x = 0 then
    let r := t.slotRec k
    let u := appendRec k 3 r.id r.count (t.imageField k 20 4) t
    (0, { u with fwu := { u.fwu with preloaded := k :: u.fwu.preloaded.filter (· != k) } })
  else (x, (setSlot k 8 t).raise Src.FWU_VERIFY_FAIL)

/-! ### Activation (R473, R474) -/

/-- The instant that FWU_ACT_AT names. -/
def State.actAt (s : State) : Nat := s.fld F.FWU_ACT_AT_LO_AT 0 + s.fld F.FWU_ACT_AT_HI_AT 0 * 2 ^ 32

/-- What ARM answers: 3 STATE, 11 NO_TIME, 0 accepted. -/
def State.armResult (s : State) (now : Bool) : Nat :=
  match s.escrow with
  | none => 3
  | some k =>
    if s.slotState k ≠ 3 ∨ s.fwu.preloaded.contains k = false ∨ s.rst.inStart = true then 3
    else if !s.etValid && !now then 11
    else 0

/-- ARM. -/
def armSlot (now : Bool) (s : State) : Nat × State :=
  let x := s.armResult now
  if x = 0 then
    let t := setSlot (s.escrow.getD 0) 4 s
    (0, { t with fwu := { t.fwu with armed := some (if now then none else some s.actAt) } })
  else (x, s)

/-- The ARMED slot. -/
def State.armedSlot (s : State) : Option Nat := [0, 1].find? (fun (k : Nat) => s.slotState k == 4)

/-- DISARM. -/
def disarmSlot (s : State) : Nat × State := if s.armedSlot.isSome then (0, disarmSlots s) else (3, s)

/-- The image of slot `k` starts under R474, steps 1 to 3. -/
def activate_ (k : Nat) (s : State) : State :=
  let s1 := beginReset 2 true false (some 5) { s with fwu := { s.fwu with armed := none } }
  let s2 := setSlot k 5 (setBoot k (unstageImage k s1))
  let s3 := { s2 with
    rst := { s2.rst with activating := true }
    fwu := { s2.fwu with running := some k, trial := true, preloaded := s2.fwu.preloaded.filter (· != k) } }
  s3.raise Src.FWU_ACTIVATED

/-- The activation instant is reached: the activation, or its cancellation while a start runs. -/
def activationDue (s : State) : State :=
  match s.fwu.armed, s.armedSlot with
  | some x, some k =>
    let t := match x with
      | none => s
      | some at_ => if etReached s.et at_ then s else passTo (s.etFull + etDiff at_ s.et) s
    if t.rst.inStart then (disarmSlots t).raise Src.FWU_ACT_MISSED else activate_ k t
  | _, _ => s

/-! ### The mailbox (R480) -/

/-- A master may give the command (R480). -/
def fwuAllowed (m : Nat) : Bool := decide (m ≤ 5)

/-- The check of a command that works on the flash: its RESULT where it fails, and the slot it works on. -/
def State.flashCheck (s : State) (op : Nat) : Nat × Nat :=
  match op with
  | 1 => (s.pieceResult s.mailbox, s.escrow.getD 0)
  | 2 => (s.eraseResult, s.escrow.getD 0)
  | 3 => (s.verifyResult, s.escrow.getD 0)
  | 6 => (if s.fwu.running.isSome then 0 else 3, s.fwu.running.getD 0)
  | _ => (0, 0)

/-- A command answered at once. -/
def answerNow (op : Nat) (r : Nat × State) : State := noteResult op r.1 (fwuAnswer op r.1 r.2)

/-- A write of FWU_CMD by a master. -/
def fwuCommand (m : Nat) (v : Word) (s : State) : State :=
  let op := F.FWU_CMD_OP.of v
  if op = 0 ∨ (op = 7 ∧ m ≠ 5) then s.reject .FWU
  else if !fwuAllowed m then answerNow op (12, s)
  else if s.fwu.job.isSome then answerNow op (2, s)
  else match op with
    | 4 => answerNow op (armSlot (F.FWU_CMD_NOW.of v == 1) s)
    | 5 => answerNow op (disarmSlot s)
    | _ =>
      let c := s.flashCheck op
      if c.1 ≠ 0 then answerNow op (c.1, s)
      else { s with fwu := { s.fwu with job := some ⟨op, F.FWU_CMD_SECTOR.of v, c.2, s.mailbox⟩ } }

/-- The flash work of a command ends. A ledger record that cannot be written leaves the previous one current (R479). -/
def endFlashWork (j : FwuJob) (ok : Bool) (s : State) : Nat × State :=
  let a := slotBase j.slot + 0x3010000 + j.sector * 4096
  match j.op with
  | 1 => writePiece j.slot j.bytes ok s
  | 2 => eraseSlot j.slot ok s
  | 3 => if ok then verifySlot j.slot s else (7, s)
  | 6 => if ok then (0, program a (j.bytes.drop 32) (eraseFlash a 4096 s)) else (7, badProgram a 4096 s)
  | _ => if ok then (0, saveLedger s) else (7, s.raise Src.VAULT_LEDGER_SAVE)

/-- The command in progress completes. -/
def fwuDone (ok : Bool) (s : State) : State :=
  match s.fwu.job with
  | none => s
  | some j => answerNow j.op (endFlashWork j ok { s with fwu := { s.fwu with job := none } })

/-! ### The resident loader (R481) -/

/-- The loader runs: Darkroom mode, no reset in progress. -/
def State.loaderUp (s : State) : Bool := s.flag F.RST_STAT_DARKROOM 0 && s.rst.level == 0

/-- An answer of the loader leaves MG_A, to the client of the request, whose address is free here. -/
def loaderAnswer (op : Nat) (seq : BitVec 16) (payload : List Byte) (s : State) : State :=
  let (client, t) := s.freeNat
  let own := [0x02#8, 0x43#8, 0x54#8, 0xC0#8, BitVec.ofNat 8 (t.fld F.IDM_STRAP_SLOT_ID 0),
    BitVec.ofNat 8 (t.fld F.IDM_STRAP_CARD_SIDE 0)]
  t.send 128 (macFrame (beBytes 6 client ++ own ++ [0x88#8, 0xB6#8, 1#8, BitVec.ofNat 8 (op + 0x80)] ++ leBytes 2 seq.toNat
    ++ leBytes 2 payload.length ++ [0#8, 0#8] ++ payload))

/-- A request that the loader carries out and answers with its RESULT; a command in progress answers BUSY. -/
def loaderResult (op : Nat) (seq : BitVec 16) (f : State → Nat × State) (s : State) : State :=
  if s.loaderUp then
    let r : Nat × State := if s.fwu.job.isSome then (2, s) else f s
    loaderAnswer op seq [BitVec.ofNat 8 r.1] (noteResult (op - 1) r.1 r.2)
  else s

/-- STATUS: both slots' current records, RST_CAUSE, the failed-start counter, CAL_UID. -/
def State.loaderStatus (s : State) : List Byte :=
  let rec_ (k : Nat) : List Byte := match s.currentRec k with
    | some x => x.2.bytes
    | none => List.replicate 64 0
  rec_ 0 ++ rec_ 1 ++ leBytes 4 (s.reg .RST_CAUSE 0).toNat ++ leBytes 4 (s.fld F.RST_STAT_FAILED 0)
    ++ leBytes 4 (s.reg .CAL_UID_LO 0).toNat ++ leBytes 4 (s.reg .CAL_UID_HI 0).toNat

/-- A piece that a request carries. -/
def loaderWrite (p : List Byte) (ok : Bool) (s : State) : Nat × State :=
  let x := s.pieceResult p
  if x = 0 then writePiece (s.escrow.getD 0) p ok s else (x, s)

/-- The start of R416: Darkroom mode is left by a system reset, the failed-start counter as it is. -/
def leaveDarkroom (s : State) : State :=
  beginReset 3 true false (some 7) (alertUpdate (s.setFlag F.RST_STAT_DARKROOM 0 false))

/-- START: STATE for a slot that may not start. -/
def loaderStarts (seq : BitVec 16) (k : Nat) (s : State) : State :=
  if s.loaderUp then
    let st := s.slotState k
    if s.fwu.job.isSome then loaderAnswer 5 seq [2#8] (noteResult 4 2 s)
    else if 2 ≤ k ∨ (st ≠ 6 ∧ st ≠ 7 ∧ st ≠ 3) then loaderAnswer 5 seq [3#8] (noteResult 4 3 s)
    else loaderAnswer 5 seq [0#8] (leaveDarkroom (if st = 6 then s else setSlot k 5 s))
  else s

/-! ### Registers (R483) -/

/-- A write of a FWU register by a master. -/
def writeFwu (m : Nat) (r : RegName) (i : Nat) (v : Word) (s : State) : State :=
  match r with
  | .FWU_CMD => fwuCommand m v s
  | _ => plainWrite r i v s

/-- The live registers of FWU. -/
def State.fwuLive (s : State) (r : RegName) (i : Nat) : Option Word :=
  match r with
  | .FWU_CMD_STAT => some (F.FWU_CMD_STAT_BUSY.put (s.reg r 0) (b2n s.fwu.job.isSome))
  | .FWU_SLOT_STAT => some (BitVec.ofNat 32 (s.slotState i + 16 * b2n (s.escrow == some i) + 32 * b2n (s.fwu.running == some i)
      + 64 * b2n (s.fwu.preloaded.contains i)))
  | .FWU_SLOT_RECV => some (BitVec.ofNat 32 (s.receivedCount i + 65536 * (s.slotRec i).count))
  | .FWU_SLOT_VER => some (BitVec.ofNat 32 (s.slotRec i).version)
  | .FWU_RUN => some (BitVec.ofNat 32 (s.fwu.running.getD 0 + 2 * b2n s.fwu.trial + 256 * s.otp.svn + 65536 * (s.otp.revoked % 16)))
  | _ => none

/-- The live sources of FWU_FLIVE. -/
def State.fwuFlive (s : State) : Word :=
  (if s.slotState 0 = 8 ∨ s.slotState 1 = 8 then Src.FWU_VERIFY_FAIL.mask else 0)
    ||| (if s.fwu.trial then Src.FWU_ACTIVATED.mask else 0)

/-! ### The commands -/

/-- FWU_CMD written with the OP of the row. -/
def fwuRow (op : Nat) (m : Fin 8) (v : Word) (s : State) : Out :=
  .next (byMaster m .FWU_CMD 0 (fwuCommand m (F.FWU_CMD_OP.put v op)) s)

/-- FWU_PIECE (R466). -/
def execFwuPiece (m : Fin 8) (v : Word) (s : State) : Out := fwuRow 1 m v s

/-- ERASE_ESCROW (R478). -/
def execEraseEscrow (m : Fin 8) (v : Word) (s : State) : Out := fwuRow 2 m v s

/-- VERIFY (R469). -/
def execVerify (m : Fin 8) (v : Word) (s : State) : Out := fwuRow 3 m v s

/-- ARM (R473). -/
def execArm (m : Fin 8) (v : Word) (s : State) : Out := fwuRow 4 m v s

/-- DISARM (R473). -/
def execDisarm (m : Fin 8) (v : Word) (s : State) : Out := fwuRow 5 m v s

/-- SET_WRITE (R477). -/
def execSetWrite (m : Fin 8) (v : Word) (s : State) : Out := fwuRow 6 m v s

/-- LEDGER (R479). -/
def execLedger (m : Fin 8) (v : Word) (s : State) : Out := fwuRow 7 m v s

/-- FWU_BAD_CMD: FWU_CMD written with OP 0 (R483). -/
def execFwuBadCmd (m : Fin 8) (v : Word) (s : State) : Out := fwuRow 0 m v s

/-- FWU_COMMAND_DONE (R480). -/
def execFwuCommandDone (flashOk : Bool) (s : State) : Out := .next (fwuDone flashOk s)

/-- ACTIVATION (R474). -/
def execActivation (s : State) : Out := .next (activationDue s)

/-- LEDGER_SAVE (R453). -/
def execLedgerSave (ok : Bool) (s : State) : Out :=
  .next (if ok then saveLedger s else s.raise Src.VAULT_LEDGER_SAVE)

/-- LOADER_STATUS (R481). -/
def execLoaderStatus (seq : BitVec 16) (s : State) : Out :=
  .next (if s.loaderUp then loaderAnswer 1 seq s.loaderStatus s else s)

/-- LOADER_PIECE (R481). -/
def execLoaderPiece (seq : BitVec 16) (piece : List Byte) (flashOk : Bool) (s : State) : Out :=
  .next (loaderResult 2 seq (loaderWrite piece flashOk) s)

/-- LOADER_ERASE_ESCROW (R481). -/
def execLoaderEraseEscrow (seq : BitVec 16) (flashOk : Bool) (s : State) : Out :=
  .next (loaderResult 3 seq (fun t => if t.eraseResult = 0 then eraseSlot (t.escrow.getD 0) flashOk t else (t.eraseResult, t)) s)

/-- LOADER_VERIFY (R481). -/
def execLoaderVerify (seq : BitVec 16) (s : State) : Out :=
  .next (loaderResult 4 seq (fun t => if t.verifyResult = 0 then verifySlot (t.escrow.getD 0) t else (t.verifyResult, t)) s)

/-- LOADER_START (R481). -/
def execLoaderStart (seq : BitVec 16) (slot : BitVec 8) (s : State) : Out := .next (loaderStarts seq slot.toNat s)

end Sys2Proof.Machine
end

