-- ==== Sys2Proof/Machine/Flow.lean ====
section
/-!
DEFINITION. The Flow Table (chapter 06): lookup (R146), the command queue (R147), insertion (R148), aging (R149), ECC and
start-up (R150), and its registers (R166).
-/

namespace Sys2Proof.Machine

/-! ### Entries -/

/-- The key of an entry, bits 127:28. -/
def entryKey (e : Nat) : Nat := e / 2 ^ 28 % 2 ^ 100

/-- VALID of an entry. -/
def entryValid (e : Nat) : Bool := bit e 0

/-- The slot of way `w` that a key hashes to: H_w of R146. -/
def flowSlot (w key : Nat) : Nat := crc32c (BitVec.ofNat 8 w :: beBytes 13 (key * 16)) % 2 ^ 17

/-- The INDEX of a key's candidate in way `w`. -/
def flowIndex (w key : Nat) : Nat := w * 131072 + flowSlot w key

/-- The entry at an INDEX. -/
def State.flowAt (s : State) (i : Nat) : Nat := s.flow.table.get 0 i

/-- The entry at an INDEX replaced. -/
def State.setFlowAt (s : State) (i e : Nat) : State := { s with flow := { s.flow with table := s.flow.table.set i e } }

/-- An entry is invalidated. -/
def flowKill (i : Nat) (s : State) : State := s.setFlowAt i (putBits (s.flowAt i) 0 1 0)

/-- The INDEX at which a key is held: the lowest way counts (R146). -/
def State.flowFind (s : State) (key : Nat) : Option Nat :=
  ((List.range 4).map (fun w => flowIndex w key)).find? (fun i => entryValid (s.flowAt i) && entryKey (s.flowAt i) == key)

/-! ### Lookup (R146, R149, R150) -/

/-- An index goes into the aged queue, unless it is full. -/
def agedPut (i : Nat) (s : State) : State :=
  if s.flow.aged.length < 64 then { s with flow := { s.flow with aged := s.flow.aged ++ [i] } } else s

/-- The ECC errors that one lookup meets: corrected ones are counted; an uncorrectable one invalidates its candidate slot,
which goes into the aged queue (R150). -/
def flowEcc (key : Nat) (bad : List (Fin 4 × Bool)) (s : State) : State :=
  bad.foldl (fun t x =>
    if x.2 then
      let i := flowIndex x.1 key
      (agedPut i ((flowKill i t).bump .FLOW_ECC_UNCORR 0)).raise Src.FLOW_ECC_UNCORR
    else (t.bump .FLOW_ECC_CORR 0).raise Src.FLOW_ECC_CORR) s

/-- The key of a frame (R146): addresses, UDP destination port, media port, tag. -/
def flowKey (dst src dport port : Nat) (tagged : Bool) (vid : Nat) : Nat :=
  ((((dst * 2 ^ 32 + src) * 2 ^ 16 + dport) * 2 ^ 7 + port) * 2 + b2n tagged) * 2 ^ 12 + vid

/-- A lookup of a frame: its key, then the key with SRC_IP = 0. A hit sets AGE to 3. Before INIT_DONE every lookup misses
(R150). -/
def flowLookup (dst src dport port : Nat) (tagged : Bool) (vid : Nat) (ecc : List (Bool × Fin 4 × Bool)) (s : State) :
    Option Nat × State :=
  if !s.flag F.FLOW_STAT_INIT_DONE 0 then (none, s.bump .FLOW_MISS 0)
  else
    let k1 := flowKey dst src dport port tagged vid
    let k2 := flowKey dst 0 dport port tagged vid
    let s1 := flowEcc k1 ((ecc.filter (fun x => !x.1)).map (·.2)) s
    let hit (i : Nat) (t : State) : Option Nat × State :=
      (some i, (t.setFlowAt i (putBits (t.flowAt i) 10 2 3)).bump .FLOW_HIT 0)
    match s1.flowFind k1 with
    | some i => hit i s1
    | none =>
      let s2 := flowEcc k2 ((ecc.filter (·.1)).map (·.2)) s1
      match s2.flowFind k2 with
      | some i => hit i s2
      | none => (none, s2.bump .FLOW_MISS 0)

/-! ### Commands (R147, R148) -/

/-- A write of FLOW_Q_CMD queues a command with the entry words, or is ignored with 64 waiting. -/
def flowQueue (v : Word) (s : State) : State :=
  if s.flow.cmds.length < 64 then
    let d := (List.range 4).foldl (fun a k => a + (s.reg .FLOW_Q_DATA k).toNat * 2 ^ (32 * k)) 0
    { s with flow := { s.flow with cmds := s.flow.cmds ++ [(v.toNat, d)] } }
  else (s.bump .FLOW_CMDQ_OVF 0).raise Src.FLOW_CMDQ_OVF

/-- OP of a queued command. -/
def cmdOp (c : Nat × Nat) : Nat := F.FLOW_Q_CMD_OP.of (BitVec.ofNat 32 c.1)

/-- The command at the head of the queue whose OP satisfies a test acts, unless the result queue is full: its code, its
INDEX and its entry, each a free value where R147 gives none (notes/assumptions/36.md). -/
def flowRun (p : Nat → Bool) (act : Nat → Nat → State → Nat × Option Nat × Option Nat × State) (s : State) : State :=
  match s.flow.cmds with
  | [] => s
  | c :: t =>
    if !p (cmdOp c) ∨ 64 ≤ s.flow.results.length then s
    else
      let s1 := { s with flow := { s.flow with cmds := t } }
      let (code, idx, ent, s2) := act (F.FLOW_Q_CMD_INDEX.of (BitVec.ofNat 32 c.1)) c.2 s1
      let (i, s3) := match idx with
        | some i => (i, s2)
        | none => let (n, u) := s2.freeNat; (n % 2 ^ 19, u)
      let (e, s4) := match ent with
        | some e => (e, s3)
        | none => let (n, u) := s3.freeNat; (n % 2 ^ 128, u)
      { s4 with flow := { s4.flow with results := s4.flow.results ++ [⟨i + code * 2 ^ 20 + cmdOp c * 2 ^ 24, e⟩] } }

/-- A written entry as INSERT places it: bits 9:1 read 0 and VALID 1; AGE is not stated before the first hit, so it is
free. -/
def flowNew (d age : Nat) : Nat := putBits (putBits (putBits d 1 9 0) 10 2 age) 0 1 1

/-- The first occupant, in way order, of a key's candidates that has a free candidate in another way: the way, and where
its copy goes (R148). -/
def State.flowMovable (s : State) (key : Nat) : Option (Nat × Nat) :=
  ((List.range 4).filterMap (fun w =>
    let e := s.flowAt (flowIndex w key)
    (((List.range 4).filter (· != w)).map (fun x => flowIndex x (entryKey e))).find?
      (fun i => !entryValid (s.flowAt i)) |>.map (fun i => (w, i)))).head?

/-- INSERT (R148). -/
def flowInsert (_i d : Nat) (s : State) : Nat × Option Nat × Option Nat × State :=
  let key := entryKey d
  match s.flowFind key with
  | some i => (1, some i, none, s)
  | none =>
    let (n, s0) := s.freeNat
    let e := flowNew d (n % 4)
    match ((List.range 4).map (fun w => flowIndex w key)).find? (fun i => !entryValid (s0.flowAt i)) with
    | some i => (0, some i, none, s0.setFlowAt i e)
    | none => match s0.flowMovable key with
      | some (w, j) =>
        let i := flowIndex w key
        let moved := s0.setFlowAt j (s0.flowAt i)
        (0, some i, none, (moved.setFlowAt i e).bump .FLOW_MOVES 0)
      | none => (2, none, none, (s0.bump .FLOW_INS_FULL 0).raise Src.FLOW_INSERT_FULL)

/-- DELETE. -/
def flowDelete (_i d : Nat) (s : State) : Nat × Option Nat × Option Nat × State :=
  match s.flowFind (entryKey d) with
  | some i => (0, some i, none, flowKill i s)
  | none => (3, none, none, s)

/-- LOOKUP. -/
def flowGet (_i d : Nat) (s : State) : Nat × Option Nat × Option Nat × State :=
  match s.flowFind (entryKey d) with
  | some i => (0, some i, some (s.flowAt i), s)
  | none => (3, none, none, s)

/-- READ. -/
def flowRead (i _d : Nat) (s : State) : Nat × Option Nat × Option Nat × State := (0, some i, some (s.flowAt i), s)

/-- MODIFY: CTX, ACTION and AGE_EN, bits 27:12, in one write. -/
def flowModify (_i d : Nat) (s : State) : Nat × Option Nat × Option Nat × State :=
  match s.flowFind (entryKey d) with
  | some i => (0, none, none, s.setFlowAt i (putBits (s.flowAt i) 12 16 (bitsOf d 12 16)))
  | none => (3, none, none, s)

/-- A reserved OP. -/
def flowBad (_i _d : Nat) (s : State) : Nat × Option Nat × Option Nat × State := (4, none, none, s)

/-- A read of FLOW_RES pops the head result and latches its entry (R166). -/
def flowResTo (m : Nat) (s : State) : State :=
  match s.flow.results with
  | [] => s.respond m 0
  | r :: t =>
    let s1 := { s with flow := { s.flow with results := t } }
    ((List.range 4).foldl (fun u k => u.setReg .FLOW_RES_DATA k (BitVec.ofNat 32 (r.entry / 2 ^ (32 * k)))) s1).respond m
      (r.word + 2 ^ 31)

/-- A read of FLOW_AGED pops one aged index. -/
def flowAgedTo (m : Nat) (s : State) : State :=
  match s.flow.aged with
  | [] => s.respond m 0
  | i :: t => { s with flow := { s.flow with aged := t } }.respond m (i + 2 ^ 31)

/-! ### The ager and start-up (R149, R150) -/

/-- The ager visits one entry. -/
def ageEntry (s : State) (i : Nat) : State :=
  let e := s.flowAt i
  if !entryValid e ∨ !bit e 12 then s
  else if bitsOf e 10 2 = 0 then (agedPut i ((flowKill i s).bump .FLOW_AGED_CNT 0)).raise Src.FLOW_AGED
  else s.setFlowAt i (putBits e 10 2 (bitsOf e 10 2 - 1))

/-- The ager passes over the table; AGE_PERIOD = 0 stops it. -/
def agePass (s : State) : State :=
  if s.fld F.FLOW_CFG_AGE_PERIOD 0 = 0 then s else s.flow.table.keys.foldl ageEntry s

/-- Every entry is invalid, and INIT_DONE is set. -/
def flowInit (s : State) : State :=
  { s with flow := { s.flow with table := s.flow.table.map (fun _ e => putBits e 0 1 0) } }.setFlag F.FLOW_STAT_INIT_DONE 0 true

/-! ### Registers -/

/-- A write of a FLOW register. -/
def writeFlow (r : RegName) (i : Nat) (v : Word) (s : State) : State :=
  match r with
  | .FLOW_Q_CMD => flowQueue v s
  | _ => plainWrite r i v s

/-- The FLOW registers that show live values (R166). -/
def State.flowLive (s : State) (r : RegName) : Option Word :=
  match r with
  | .FLOW_COUNT => some (BitVec.ofNat 32 (s.flow.table.entries.filter (fun e => entryValid e.2)).length)
  | .FLOW_Q_STAT => some (BitVec.ofNat 32 (s.flow.cmds.length + s.flow.results.length * 256))
  | _ => none

/-- The live sources of FLOW: CMDQ_OVF while the queue is full. -/
def State.flowFlive (s : State) : Word := if 64 ≤ s.flow.cmds.length then 8 else 0

/-! ### Meanings -/

/-- FLOW_CMD_QUEUE (R147). -/
def execFlowCmdQueue (v : Word) (s : State) : Out := .next (flowQueue v s)

/-- FLOW_INSERT (R148). -/
def execFlowInsert (s : State) : Out := .next (flowRun (· == 1) flowInsert s)

/-- FLOW_DELETE (R147). -/
def execFlowDelete (s : State) : Out := .next (flowRun (· == 2) flowDelete s)

/-- FLOW_LOOKUP (R147). -/
def execFlowLookup (s : State) : Out := .next (flowRun (· == 3) flowGet s)

/-- FLOW_READ (R147). -/
def execFlowRead (s : State) : Out := .next (flowRun (· == 4) flowRead s)

/-- FLOW_MODIFY (R147). -/
def execFlowModify (s : State) : Out := .next (flowRun (· == 5) flowModify s)

/-- FLOW_BAD_CMD (R147): OP 0, 6 or 7. -/
def execFlowBadCmd (s : State) : Out := .next (flowRun (fun o => o == 0 || decide (5 < o)) flowBad s)

/-- FLOW_RES_POP (R166). -/
def execFlowResPop (m : Fin 8) (s : State) : Out := .next (flowResTo m s)

/-- FLOW_AGED_POP (R166). -/
def execFlowAgedPop (m : Fin 8) (s : State) : Out := .next (flowAgedTo m s)

/-- FLOW_AGE_PASS (R149). -/
def execFlowAgePass (s : State) : Out := .next (agePass s)

/-- FLOW_INIT_DONE (R150). -/
def execFlowInitDone (s : State) : Out := .next (flowInit s)

end Sys2Proof.Machine
end

