-- ==== Sys2Proof/Machine/Sdi.lean ====
section
/-!
DEFINITION. SDI ingest and egress (R115 to R135), and the lane events that deframers and Uhlat links follow.
-/

namespace Sys2Proof.Machine

/-! ### Formats and mappings (R115, R116) -/

/-- A lane rate code fits a format's division by 1.001: the even codes from 2 up. -/
def rateDivOk (rate f : Nat) : Bool := rate == 0 || (rate % 2 == 0) == fmtDiv f

/-- An ST 292-1 format: 1.485 Gbit/s, 4:2:2 10-bit. -/
def fmtIs292 (f : Nat) : Bool :=
  fmtSampling f == 0 && (fmtRaster f == 2 || ((fmtRaster f == 3 || fmtRaster f == 4 || fmtRaster f == 5) && !fmtHigh f))

/-- A 3G format: 1080p50–60 4:2:2, or 4:4:4 at up to 30 frames. -/
def fmtIs3g (f : Nat) : Bool :=
  (fmtRaster f == 5 && fmtHigh f && fmtSampling f == 0)
    || ((fmtRaster f == 3 || fmtRaster f == 4 || fmtRaster f == 5) && !fmtHigh f && decide (2 ≤ fmtSampling f))

/-- FMT, FMT2, MAP and a lane rate code form a row of R115. -/
def sdiRow (map f f2 rate : Nat) : Bool :=
  let quad := fmtRaster f == 6 && fmtHigh f && fmtSampling f == 0 && (rate == 3 || rate == 4) && rateDivOk rate f
  fmtValid f && match map with
  | 0 =>
    match rate with
    | 0 => fmtRaster f == 0 || fmtRaster f == 1
    | 1 => fmtIs292 f && rateDivOk 1 f
    | 2 => fmtIs292 f && rateDivOk 2 f
    | 3 => fmtIs3g f && rateDivOk 3 f
    | 4 => fmtIs3g f && rateDivOk 4 f
    | 5 => fmtRaster f == 6 && !fmtHigh f && fmtSampling f == 0 && rateDivOk 5 f
    | 6 => fmtRaster f == 6 && !fmtHigh f && fmtSampling f == 0 && rateDivOk 6 f
    | 7 => fmtRaster f == 6 && fmtHigh f && fmtSampling f == 0 && rateDivOk 7 f
    | 8 => fmtRaster f == 6 && fmtHigh f && fmtSampling f == 0 && rateDivOk 8 f
    | _ => false
  | 1 => (rate == 3 || rate == 4) && fmtIs3g f && rateDivOk rate f
  | 2 => (rate == 3 || rate == 4) && fmtIs292 f && fmtValid f2 && fmtIs292 f2 && rateDivOk rate f && rateDivOk rate f2
  | 3 => quad
  | 4 => quad
  | _ => false

/-- A receiver's rate code fits; 15 matches every code of a row. -/
def sdiRowRx (map f f2 rate : Nat) : Bool :=
  if rate = 15 then (List.range 9).any (sdiRow map f f2) else sdiRow map f f2 rate

/-- The member lanes of a deframer or framer (R116). -/
def sdiLanes (n map : Nat) : List Nat := if 3 ≤ map then [n, n + 1, n + 2, n + 3] else [n]

/-- A MAP 3 or 4 enable at lane `n` breaks R116. -/
def quadBad (n map : Nat) (on : Nat → Bool) (rate : Nat → Nat) : Bool :=
  decide (3 ≤ map) && (decide (n % 4 ≠ 0) || on (n + 1) || on (n + 2) || on (n + 3)
    || rate (n + 1) != rate n || rate (n + 2) != rate n || rate (n + 3) != rate n)

/-- Lane `n`'s registers are taken over by a quad-link deframer at the quad's first lane (R116). -/
def State.quadRx (s : State) (n : Nat) : Bool :=
  let b := n / 4 * 4
  decide (n ≠ b) && s.flag F.SDI_RX_CFG_EN b && decide (3 ≤ s.fld F.SDI_RX_CFG_MAP b)

/-- Lane `n`'s registers are taken over by a quad-link framer. -/
def State.quadTx (s : State) (n : Nat) : Bool :=
  let b := n / 4 * 4
  decide (n ≠ b) && s.flag F.SDI_TX_CFG_EN b && decide (3 ≤ s.fld F.SDI_TX_CFG_MAP b)

/-! ### Reception (R119 to R127) -/

/-- A deframer's hidden state, stream 2 as 128 + lane. -/
def State.rxState (s : State) (k : Nat) : SdiRx := s.sdi.rx.get .reset k

/-- A deframer's hidden state replaced. -/
def State.setRxState (s : State) (k : Nat) (x : SdiRx) : State := { s with sdi := { s.sdi with rx := s.sdi.rx.set k x } }

/-- The state of deframer `n` (R119). -/
def State.sdiRxState (s : State) (n : Nat) : Nat := s.fld F.SDI_RX_STAT_STATE n

/-- The VINs that a deframer feeds. -/
def State.sdiVins (s : State) (n : Nat) : List Nat :=
  s.fld F.SDI_RX_CFG_VIN n :: (if s.fld F.SDI_RX_CFG_MAP n = 2 then [s.fld F.SDI_RX_CFG2_VIN2 n] else [])

/-- A deframer enters a state: leaving LOCKED is counted, MISMATCH is flagged, and presence follows (R119). -/
def rxEnter (n st : Nat) (s : State) : State :=
  let old := s.sdiRxState n
  if old = st then s
  else
    let s1 := s.setFld F.SDI_RX_STAT_STATE n st
    let s2 := if old = 2 then
        ((s1.bump .SDI_RX_UNLOCK_CNT n).setFlag F.SDI_RX_STAT_UNLOCK_S n true).raise Src.SDI_RX_UNLOCK else s1
    let s3 := if st = 3 then (s2.setFlag F.SDI_RX_STAT_MISMATCH_S n true).raise Src.SDI_FMT_MISMATCH else s2
    let s4 := (s3.sdiVins n).foldl (fun t v => if st = 2 then t else setVinPresent v false t) s3
    [n, 128 + n].foldl (fun t k => t.setRxState k { t.rxState k with real := false, trsRun := 0, good := 0, differ := 0 }) s4

/-- Every member lane of a deframer has a signal and CDR lock. -/
def State.sdiSignal (s : State) (n : Nat) : Bool :=
  (sdiLanes n (s.fld F.SDI_RX_CFG_MAP n)).all (fun k => !s.flag F.LANE_STAT_LOS k && s.flag F.LANE_STAT_CDR_LOCK k)

/-- Deframer `n` follows its lanes: NO_SIGNAL with LOS on any, SEARCH once all have lock (R119). -/
def sdiFollow (n : Nat) (s : State) : State :=
  if !s.flag F.SDI_RX_CFG_EN n then s
  else if (sdiLanes n (s.fld F.SDI_RX_CFG_MAP n)).any (fun k => s.flag F.LANE_STAT_LOS k) then rxEnter n 0 s
  else if s.sdiRxState n = 0 ∧ s.sdiSignal n then rxEnter n 1 s
  else s

/-- The format of a stream. -/
def State.rxFmt (s : State) (n : Nat) (second : Bool) : Nat :=
  if second then s.fld F.SDI_RX_CFG2_FMT2 n else s.fld F.SDI_RX_CFG_FMT n

/-- The VIN of a stream. -/
def State.rxVin (s : State) (n : Nat) (second : Bool) : Nat :=
  if second then s.fld F.SDI_RX_CFG2_VIN2 n else s.fld F.SDI_RX_CFG_VIN n

/-- What arrives matches FMT, MAP and RX_RATE, and the ST 352 payload where it is checked (R119). -/
def State.rxMatches (s : State) (n : Nat) (l : SdiLine) : Bool :=
  let f := s.rxFmt n l.second
  let r := s.fld F.LANE_CFG_RX_RATE n
  l.lines.toNat == fmtTotalLines f && fmtRateOk f l.rate.toNat && l.scan == fmtInterlaced f
    && l.map.toNat == s.fld F.SDI_RX_CFG_MAP n && (r == 15 || s.fld F.LANE_STAT_RATE_DET n == r)
    && (!s.flag F.SDI_RX_CFG_PID_CHECK n || (match l.pid with
        | some p => Config.pidAgrees p f (s.fld F.SDI_RX_CFG_MAP n)
        | none => true))

/-- The checks of a line that fail are counted (R123). -/
def rxChecks (n : Nat) (l : SdiLine) (s : State) : State :=
  let s1 := if l.trsBad = 0 then s else (s.bumpN .SDI_RX_TRS_ERR n l.trsBad).raise Src.SDI_TRS_ERR
  let sd := decide (fmtRaster (s.rxFmt n l.second) < 2)
  let s2 := if l.lnBad = 0 ∨ sd then s1 else (s1.bumpN .SDI_RX_LN_ERR n l.lnBad).raise Src.SDI_LN_ERR
  if l.crcBad = 0 ∨ sd then s2
  else ((s2.bumpN .SDI_RX_CRC_ERR n l.crcBad).setFlag F.SDI_RX_STAT_CRC_S n true).raise Src.SDI_CRC_ERR

/-- The whole frame that ends with this line is judged (R119). -/
def judgeFrame (n k : Nat) (s : State) : State :=
  let x := s.rxState k
  if !x.whole then s
  else if x.matches_ then
    let s1 := s.setRxState k { x with good := x.good + 1, differ := 0 }
    if 2 ≤ x.good + 1 ∧ (s1.sdiRxState n = 1 ∨ s1.sdiRxState n = 3) then
      let s2 := rxEnter n 2 s1
      s2.setRxState k { s2.rxState k with whole := false }
    else s1
  else
    let s1 := s.setRxState k { x with good := 0, differ := x.differ + 1 }
    if 2 ≤ x.differ + 1 then rxEnter n 3 s1 else s1

/-- The line's part in the state machine: TRS runs, whole frames, ST 352 disagreement, skew, which is counted once while it
persists in a search (R119, R123). -/
def rxTrack (n k : Nat) (l : SdiLine) (s : State) : State :=
  let x := s.rxState k
  let run := if l.trsBad = 0 then 0 else x.trsRun + 1
  let ok := l.trsBad == 0
  let m := s.rxMatches n l
  let whole := ok && (l.line == 1 || x.whole)
  let frame := if l.line = 1 then (x.frame + 1) % 2 ^ 16 else x.frame
  let real := x.real || (l.line == 1 && s.sdiRxState n == 2)
  let s1 := s.setRxState k { x with trsRun := run, whole := whole, matches_ := m && (l.line == 1 || x.matches_),
                                    frame := frame, real := real,
                                    skewed := l.skew && decide (3 ≤ s.fld F.SDI_RX_CFG_MAP n) }
  let s2 := s1.setFlds n [(F.SDI_RX_STAT_SCAN_DET, b2n l.scan), (F.SDI_RX_STAT_RATE_CODE, l.rate.toNat),
    (F.SDI_RX_STAT_LINES_DET, l.lines.toNat)]
  if l.skew ∧ 3 ≤ s2.fld F.SDI_RX_CFG_MAP n then
    if x.skewed ∧ s2.sdiRxState n ≠ 2 then s2
    else rxEnter n 1 (((s2.bump .SDI_RX_SKEW_CNT n).setFlag F.SDI_RX_STAT_SKEW_S n true).raise Src.SDI_SKEW)
  else if 8 ≤ run ∧ (s2.sdiRxState n = 2 ∨ s2.sdiRxState n = 3) then rxEnter n 1 s2
  else if s2.flag F.SDI_RX_CFG_PID_CHECK n && (match l.pid with
      | some p => !Config.pidAgrees p (s2.rxFmt n l.second) (s2.fld F.SDI_RX_CFG_MAP n)
      | none => false) && s2.sdiRxState n == 2 then rxEnter n 3 s2
  else if l.line = l.lines.toNat then judgeFrame n k s2
  else s2

/-- The ST 352 payload (R125). -/
def rxPid (n : Nat) (l : SdiLine) (s : State) : State :=
  match l.pid with
  | none => s
  | some p => (s.setReg (if l.second then .SDI_RX_PID2 else .SDI_RX_PID) n p).setFlag F.SDI_RX_STAT_PID_VALID n true

/-- The packets that fit 2,048 words, and whether one is left out (R124). -/
def ancFit (room : Nat) : List AncPacket → List AncPacket × Bool
  | [] => ([], false)
  | a :: t =>
    if a.words.length ≤ room then
      let (l, d) := ancFit (room - a.words.length) t
      (a :: l, d)
    else
      let (l, _) := ancFit room t
      (l, true)

/-- The ANC that the deframer keeps of a line (R123, R124). -/
def rxAnc (n : Nat) (l : SdiLine) (s : State) : List AncPacket × State :=
  let s1 := if l.anc.all (·.2) then s else s.bump .SDI_RX_ANC_CS n
  let (kept, dropped) := ancFit 2048 ((l.anc.filter (·.2)).map (·.1))
  (kept, if dropped then (s1.bump .SDI_RX_ANC_DROP n).raise Src.SDI_ANC_DROP else s1)

/-- The de-embedding register of a stream. -/
def State.rxAudReg (s : State) (n : Nat) (second : Bool) : Word := s.reg (if second then .SDI_RX_AUD2 else .SDI_RX_AUD) n

/-- The channels that a format may carry (R126, R131). -/
def sdiAudLimit (map f : Nat) : Nat :=
  if fmtRaster f < 2 then 0 else if map = 2 ∨ fmtIs292 f then 16 else 32

/-- The channels of a stream's audio register that act. -/
def sdiAudCount (map f : Nat) (v : Word) : Nat :=
  if F.SDI_RX_AUD_EN.of v = 1 then min (F.SDI_RX_AUD_COUNT.of v) (sdiAudLimit map f) else 0

/-- The feeder that a stream's audio is. -/
def State.sdiFeed (s : State) (n : Nat) (second : Bool) (map f : Nat) : AudFeed :=
  let v := s.rxAudReg n second
  mkFeed 1 (n + if second then 128 else 0) (F.SDI_RX_AUD_ACH_BASE.of v) (sdiAudCount map f v) false true false

/-- Embedded audio is delivered; a set that fails its BCH code repeats the previous samples (R123, R126). -/
def rxAudio (n k : Nat) (l : SdiLine) (s : State) : State :=
  let s1 := match l.audRate with | some b => s.setFlag F.SDI_RX_STAT_AUD_RATE n b | none => s
  let v := s1.rxAudReg n l.second
  let cnt := sdiAudCount (s1.fld F.SDI_RX_CFG_MAP n) (s1.rxFmt n l.second) v
  let used := l.audio.filter (fun a => decide (1 ≤ a.1) && decide (a.1 ≤ cnt))
  let s2 := if used.all (·.2.2) then s1 else (s1.bump .SDI_RX_AUD_ECC n).raise Src.SDI_AUD_ECC
  if s2.flag F.SDI_RX_STAT_AUD_RATE n then s2
  else used.foldl (fun t a =>
    let x := t.rxState k
    let y := if a.2.2 then a.2.1 else x.prev.get .absent a.1
    deliver (F.SDI_RX_AUD_ACH_BASE.of v + a.1 - 1) y (t.setRxState k { x with prev := x.prev.set a.1 y })) s2

/-- The stage time from pins to Line Pool, with the deskew of MAP 3 (R127, R133). -/
def rxStage (map : Nat) : Nat := if map = 3 then 568 else 184

/-- The picture of a line goes into the Line Pool: real lines only in LOCKED from the first line of a whole frame, black
lines otherwise (R121, R122). Blanking lines carry their ANC alone. -/
def rxPicture (n k : Nat) (l : SdiLine) (anc : List AncPacket) (s : State) : State :=
  let f := s.rxFmt n l.second
  let v := s.rxVin n l.second
  let x := s.rxState k
  let here := s.sdiRxState n == 2 && x.real
  let words := if l.comps = [] then [] else if here then packWords (fmtDepth f) l.comps else blackWords f
  let m := s.rasterMargin v l.line (l.start + rxStage (s.fld F.SDI_RX_CFG_MAP n)) 0
  let ln : LineIn := ⟨l.line, x.frame, here, words, List.replicate words.length m, if here then anc else [], l.start⟩
  writeLine v ln s

/-- The phase of the input against its domain, at line 1 in LOCKED (R135). -/
def rxPhase (n : Nat) (l : SdiLine) (s : State) : State :=
  let d := s.fld F.SDI_RX_CFG_TD n
  if l.line = 1 ∧ s.sdiRxState n = 2 ∧ !l.second then
    match s.frameNow d with
    | none => s
    | some (f, _) =>
      let t : Int := (s.tf3 d : Int) / 3
      let p := (l.start - f) % (max 1 t)
      s.setReg .SDI_RX_PHASE n (BitVec.ofInt 32 (if t < 2 * p then p - t else p))
  else s

/-- An SDI line arrives (R119 to R127). -/
def sdiLineIn (n : Nat) (l : SdiLine) (s : State) : State :=
  if !s.flag F.SDI_RX_CFG_EN n || s.sdiRxState n == 0 || (l.second && s.fld F.SDI_RX_CFG_MAP n != 2) then s
  else
    let k := if l.second then 128 + n else n
    let s1 := rxPid n l (rxTrack n k l (rxChecks n l (passTo l.start s)))
    let (anc, s2) := rxAnc n l (rxPhase n l s1)
    let s3 := if s2.sdiRxState n = 2 then rxAudio n k l s2 else s2
    rxPicture n k l anc s3

/-- No valid ST 352 packet for 2 frames (R125). -/
def pidLost (n : Nat) (s : State) : State := s.setFlag F.SDI_RX_STAT_PID_VALID n false

/-! ### Receive configuration -/

/-- A written SDI_RX_CFG may enable its deframer (R116, R117, R172, R267). -/
def State.rxMayEnable (s : State) (n : Nat) (v : Word) : Bool :=
  let map := F.SDI_RX_CFG_MAP.of v
  let f := F.SDI_RX_CFG_FMT.of v
  let f2 := s.fld F.SDI_RX_CFG2_FMT2 n
  let vin := F.SDI_RX_CFG_VIN.of v
  let vin2 := s.fld F.SDI_RX_CFG2_VIN2 n
  !quadBad n map (fun k => s.flag F.SDI_RX_CFG_EN k) (fun k => s.fld F.LANE_CFG_RX_RATE k)
    && sdiRowRx map f f2 (s.fld F.LANE_CFG_RX_RATE n) && s.mayAttach vin f
    && (map != 2 || (s.mayAttach vin2 f2 && vin != vin2))
    && s.mayFeed (s.sdiFeed n false map f) && (map != 2 || s.mayFeed (s.sdiFeed n true map f2))
    && !(map == 2 && runsMeet (s.sdiFeed n false map f).slot (s.sdiFeed n false map f).slots
          (s.sdiFeed n true map f2).slot (s.sdiFeed n true map f2).slots)

/-- A feeder with channels takes its slots. -/
def feedSlots (f : AudFeed) (s : State) : State :=
  if f.slots = 0 then s else touchSlots ((List.range f.slots).map (f.slot + ·)) (feed f s)

/-- A deframer is enabled: its VINs have a feeder, its audio its slots, its state follows its lanes (R116, R119, R170). -/
def rxEnable (n : Nat) (s : State) : State :=
  let map := s.fld F.SDI_RX_CFG_MAP n
  let f := s.fld F.SDI_RX_CFG_FMT n
  let s1 := attachVin (s.fld F.SDI_RX_CFG_VIN n) 1 f map 1840 s
  let s2 := if map = 2 then attachVin (s.fld F.SDI_RX_CFG2_VIN2 n) 1 (s.fld F.SDI_RX_CFG2_FMT2 n) map 1840 s1 else s1
  let s3 := feedSlots (s2.sdiFeed n false map f) s2
  let s4 := if map = 2 then feedSlots (s3.sdiFeed n true map (s3.fld F.SDI_RX_CFG2_FMT2 n)) s3 else s3
  let s5 := (s4.setRxState n .reset).setRxState (128 + n) .reset
  sdiFollow n (s5.setFld F.SDI_RX_STAT_STATE n 0)

/-- A deframer is disabled (R172). -/
def rxDisable (n : Nat) (s : State) : State :=
  let s1 := (s.sdiVins n).foldl (fun t v => detachVin v t) s
  unfeed 1 (128 + n) (unfeed 1 n (s1.setFld F.SDI_RX_STAT_STATE n 0))

/-- A write of SDI_RX_CFG (R116 to R118). -/
def writeRxCfg (n : Nat) (v : Word) (s : State) : State :=
  if s.quadRx n then s
  else
    let was := s.flag F.SDI_RX_CFG_EN n
    let on := F.SDI_RX_CFG_EN.of v = 1
    let locked := was && ((v ^^^ s.reg .SDI_RX_CFG n) &&& 0x03FFFFFE#32) != 0
    if locked || (decide on && !was && !s.rxMayEnable n v) then s.reject .SDI
    else
      let t := plainWrite .SDI_RX_CFG n v s
      if on ∧ !was then rxEnable n t else if was ∧ !on then rxDisable n t else t

/-! ### Transmission (R128 to R132) -/

/-- The VOUT of a framer's stream. -/
def State.txVout (s : State) (n : Nat) (second : Bool) : Nat :=
  if second then s.fld F.SDI_TX_CFG2_VOUT2 n else s.fld F.SDI_TX_CFG_VOUT n

/-- The format of a framer's stream. -/
def State.txFmt (s : State) (n : Nat) (second : Bool) : Nat :=
  if second then s.fld F.SDI_TX_CFG2_FMT2 n else s.fld F.SDI_TX_CFG_FMT n

/-- A VOUT is owned in a domain that matches a format (R128). -/
def State.txDomain (s : State) (o f : Nat) : Option Nat :=
  (s.ownerTd o).bind (fun n => if s.tdMatches n f then some n else none)

/-- A written SDI_TX_CFG may enable its framer (R116, R117, R128). -/
def State.txMayEnable (s : State) (n : Nat) (v : Word) : Bool :=
  let map := F.SDI_TX_CFG_MAP.of v
  let f := F.SDI_TX_CFG_FMT.of v
  let f2 := s.fld F.SDI_TX_CFG2_FMT2 n
  let o := F.SDI_TX_CFG_VOUT.of v
  let o2 := s.fld F.SDI_TX_CFG2_VOUT2 n
  !quadBad n map (fun k => s.flag F.SDI_TX_CFG_EN k) (fun k => s.fld F.LANE_CFG_TX_RATE k)
    && sdiRow map f f2 (s.fld F.LANE_CFG_TX_RATE n) && s.sender o == 0 && (s.txDomain o f).isSome
    && (map != 2 || (s.sender o2 == 0 && o != o2 && (s.txDomain o2 f2).isSome && s.txDomain o f == s.txDomain o2 f2))

/-- A write of SDI_TX_CFG (R116 to R118, R128, R132). -/
def writeTxCfg (n : Nat) (v : Word) (s : State) : State :=
  if s.quadTx n then s
  else
    let was := s.flag F.SDI_TX_CFG_EN n
    let on := F.SDI_TX_CFG_EN.of v = 1
    let locked := was && ((v ^^^ s.reg .SDI_TX_CFG n) &&& 0x03FFFF7E#32) != 0
    let pid := F.SDI_TX_CFG_PID_MODE.of v == 3
    if locked || pid || (decide on && !was && !s.txMayEnable n v) then s.reject .SDI
    else
      let t := plainWrite .SDI_TX_CFG n v s
      let stop := t.sdi.stopping.filter (· != n)
      { t with sdi := { t.sdi with stopping := if was ∧ !on ∧ t.flag F.SDI_TX_STAT_RUNNING n then n :: stop else stop } }

/-- A source packet's data ID and secondary ID, eight bits each. -/
def ancIds (a : AncPacket) : Nat × Nat := (a.words.getD 3 0 % 256, a.words.getD 4 0 % 256)

/-- A packet is an ST 352 packet. -/
def ancIsPid (a : AncPacket) : Bool := ancIds a == (0x41, 0x01)

/-- A packet matches an enabled entry of SDI_TX_ANC_DEL in force (R130). -/
def State.ancDeleted (s : State) (n : Nat) (a : AncPacket) : Bool :=
  (List.range 8).any (fun k =>
    let i := 8 * n + k
    s.effFld F.SDI_TX_ANC_DEL_EN i == 1 && s.effFld F.SDI_TX_ANC_DEL_DID i == (ancIds a).1
      && (s.effFld F.SDI_TX_ANC_DEL_SDID_ANY i == 1 || s.effFld F.SDI_TX_ANC_DEL_SDID i == (ancIds a).2))

/-- The first place at or after `pos` where `len` words are free in a space, within `fuel` steps. -/
def freePlace (used : List (Nat × Nat)) (limit len : Nat) : Nat → Nat → Option Nat
  | 0, _ => none
  | k + 1, pos =>
    if limit < pos + len then none
    else if used.any (fun u => runsMeet pos len u.1 u.2) then freePlace used limit len k (pos + 1)
    else some pos

/-- The source's packets take their places beside those inserted; one that finds none is dropped (R130). -/
def placeAnc (f : Nat) : List (Nat × Nat) → List AncPacket → List AncPacket × Nat
  | _, [] => ([], 0)
  | used, a :: t =>
    let sp := Config.ancSpace f a.hanc
    match freePlace used (sp.1 + sp.2) a.words.length (sp.2 + 1) a.pos with
    | none => let (l, d) := placeAnc f used t; (l, d + 1)
    | some p => let (l, d) := placeAnc f ((p, a.words.length) :: used) t; ({ a with pos := p } :: l, d)

/-- The ST 352 payload of the source of a VOUT: among its ANC packets, or its deframer's (R130). -/
def State.sourcePid (s : State) (o : Nat) (anc : List AncPacket) : Option Word :=
  match anc.find? ancIsPid with
  | some a => some (BitVec.ofNat 32 (beNat ((a.words.drop 6).take 4 |>.map (fun w => BitVec.ofNat 8 w))))
  | none =>
    match (s.routes o).committed with
    | none => none
    | some r =>
      (List.range 128).findSome? (fun n =>
        if s.flag F.SDI_RX_CFG_EN n && s.flag F.SDI_RX_STAT_PID_VALID n then
          if s.fld F.SDI_RX_CFG_VIN n = r.vin then some (s.reg .SDI_RX_PID n)
          else if s.fld F.SDI_RX_CFG_MAP n = 2 ∧ s.fld F.SDI_RX_CFG2_VIN2 n = r.vin then some (s.reg .SDI_RX_PID2 n)
          else none
        else none)

/-- The ST 352 payload that a framer inserts (R130). -/
def State.txPid (s : State) (n o f : Nat) (anc : List AncPacket) : Word :=
  let made := Config.pidFor f (s.fld F.SDI_TX_CFG_MAP n)
  match s.fld F.SDI_TX_CFG_PID_MODE n with
  | 1 => s.effReg .SDI_TX_PID n
  | 2 => (s.sourcePid o anc).getD made
  | _ => made

/-- The audio channels that a framer embeds in a line (R131). -/
def State.txAudio (s : State) (n : Nat) (second : Bool) : List AudSample :=
  let v := s.reg (if second then .SDI_TX_AUD2 else .SDI_TX_AUD) n
  let cnt := sdiAudCount (s.fld F.SDI_TX_CFG_MAP n) (s.txFmt n second) v
  (List.range cnt).map (fun c => s.outSample (F.SDI_TX_AUD_ACH_BASE.of v + c))

/-- Line 1 of a framer: a running frame begins, what takes effect with a frame does, and with IDLE = 1 and no route the
transmitter goes idle (R118, R132). -/
def txFrameStart (n o : Nat) (s : State) : State :=
  let s1 := (List.range 8).foldl (fun t k => t.commitReg .SDI_TX_ANC_DEL (8 * n + k)) (s.commitReg .SDI_TX_PID n)
  let idle := s1.flag F.SDI_TX_CFG_IDLE n && (s1.routes o).committed.isNone
  s1.setFlag F.SDI_TX_STAT_RUNNING n (!idle)

/-- The line that a framer builds (R130 to R132). -/
def txBuild (n : Nat) (second : Bool) (line : Nat) (s : State) : State :=
  let o := s.txVout n second
  let f := s.txFmt n second
  let routed := (s.routes o).committed.isSome
  let x : OutLine := match s.xpt.out.find? o with
    | some x => if x.line = line then x else ⟨line, 0, false, routed, blackWords f, []⟩
    | none => ⟨line, 0, false, routed, blackWords f, []⟩
  let here := routed && x.present
  let audio := if routed then s.txAudio n second else []
  let kept := x.anc.filter (fun a => !ancIsPid a && !s.ancDeleted n a)
  let (anc, dropped) := placeAnc f (Config.insertedAt f (s.fld F.SDI_TX_CFG_MAP n) line audio.length) (if routed then kept else [])
  let pid := if Config.pidLine f (s.fld F.SDI_TX_CFG_MAP n) line then some (s.txPid n o f x.anc) else none
  let words := if here then x.words else if x.words = [] then [] else blackWords f
  let out : SdiOut := ⟨line, here, words, pid, audio, anc⟩
  let s1 := s.setFlds n [(F.SDI_TX_STAT_SRC_PRESENT, b2n here), (F.SDI_TX_STAT_ROUTED, b2n routed)]
  let s2 := { s1 with sdi := { s1.sdi with out := s1.sdi.out.set (if second then 128 + n else n) out } }
  let s3 := if dropped = 0 then s2
    else ((s2.bumpN .SDI_TX_ANC_DROP n dropped).setFlag F.SDI_TX_STAT_ANC_DROP_S n true).raise Src.SDI_ANC_DROP
  s3.raiseIf (routed && !here) Src.SDI_TX_NO_SOURCE

/-- A framer sends a line (R128 to R132). -/
def sdiLineOut (n : Nat) (second : Bool) (line : Nat) (s : State) : State :=
  let stopping := s.sdi.stopping.contains n
  let on := s.flag F.SDI_TX_CFG_EN n
  if !on && !stopping then s
  else if second && s.fld F.SDI_TX_CFG_MAP n != 2 then s
  else
    let s1 := if line = 1 ∧ !second ∧ on then txFrameStart n (s.txVout n false) s else s
    if !s1.flag F.SDI_TX_STAT_RUNNING n then s1
    else
      let s2 := txBuild n second line s1
      if stopping ∧ line = fmtTotalLines (s2.txFmt n false) then
        { s2.setFlag F.SDI_TX_STAT_RUNNING n false with sdi := { s2.sdi with stopping := s2.sdi.stopping.filter (· != n) } }
      else s2

/-! ### Register writes -/

/-- A write of an SDI register (R118, R135). -/
def writeSdi (r : RegName) (i : Nat) (v : Word) (s : State) : State :=
  match r with
  | .SDI_RX_CFG => writeRxCfg i v s
  | .SDI_TX_CFG => writeTxCfg i v s
  | .SDI_RX_CFG2 => guardedWrite (s.flag F.SDI_RX_CFG_EN i && v != s.reg r i) r i v s
  | .SDI_RX_AUD => guardedWrite (s.flag F.SDI_RX_CFG_EN i && v != s.reg r i) r i v s
  | .SDI_RX_AUD2 => guardedWrite (s.flag F.SDI_RX_CFG_EN i && v != s.reg r i) r i v s
  | .SDI_TX_CFG2 => guardedWrite (s.flag F.SDI_TX_CFG_EN i && v != s.reg r i) r i v s
  | .SDI_TX_AUD => guardedWrite (s.flag F.SDI_TX_CFG_EN i && v != s.reg r i) r i v s
  | .SDI_TX_AUD2 => guardedWrite (s.flag F.SDI_TX_CFG_EN i && v != s.reg r i) r i v s
  | _ => plainWrite r i v s

/-- SDI_RX_CFG and SDI_TX_CFG of lanes that a quad-link unit takes over read as 0 (R116). -/
def State.sdiLive (s : State) (r : RegName) (i : Nat) : Option Word :=
  match r with
  | .SDI_RX_CFG => if s.quadRx i then some 0 else none
  | .SDI_TX_CFG => if s.quadTx i then some 0 else none
  | _ => none

/-! ### Lane events -/

/-- What the front ends of lane `n` do when its signal or lock changes: a deframer's state (R119), a Uhlat link's training
(R109). -/
def laneFollow (n : Nat) (s : State) : State :=
  let s1 := sdiFollow n s
  let b := n / 4 * 4
  let s2 := if b ≠ n ∧ s1.quadRx n then sdiFollow b s1 else s1
  match s2.laneLink n with
  | none => s2
  | some l => if s2.flag F.LANE_STAT_LOS n then linkFalls l s2 else linkTrains l s2

/-! ### Meanings -/

/-- CDR_LOCK (R92): the deframer or Uhlat link of the lane follows. -/
def execCdrLock (n : Fin 128) (rate : BitVec 4) (s : State) : Out := .next (laneFollow n (cdrLocks n rate.toNat s))

/-- ADAPT_DONE (R92, R109). -/
def execAdaptDone (n : Fin 128) (s : State) : Out := .next (laneFollow n (adaptFinishes n s))

/-- LOS_ASSERT (R95): the front ends lose their signal (R110, R119). -/
def execLosAssert (n : Fin 128) (s : State) : Out := .next (laneFollow n (losSets n s))

/-- LOS_CLEAR (R95). -/
def execLosClear (n : Fin 128) (s : State) : Out := .next (laneFollow n (losClears n s))

/-- CDR_UNLOCK (R113). -/
def execCdrUnlock (n : Fin 128) (s : State) : Out := .next (cdrLoses n s)

/-- SDI_RX_ENABLE: a write of SDI_RX_CFG with EN = 1 (R116). -/
def execSdiRxEnable (n : Fin 128) (v : Word) (s : State) : Out := .next (writeRxCfg n (v ||| 1#32) s)

/-- SDI_RX_DISABLE: a write of SDI_RX_CFG with EN = 0 (R172). -/
def execSdiRxDisable (n : Fin 128) (v : Word) (s : State) : Out := .next (writeRxCfg n (v &&& ~~~ 1#32) s)

/-- SDI_LINE_RX (R123). -/
def execSdiLineRx (n : Fin 128) (l : SdiLine) (s : State) : Out := .next (sdiLineIn n l s)

/-- PID_TIMEOUT (R125). -/
def execPidTimeout (n : Fin 128) (s : State) : Out := .next (pidLost n s)

/-- SDI_TX_ENABLE: a write of SDI_TX_CFG with EN = 1 (R128). -/
def execSdiTxEnable (n : Fin 128) (v : Word) (s : State) : Out := .next (writeTxCfg n (v ||| 1#32) s)

/-- SDI_TX_DISABLE: a write of SDI_TX_CFG with EN = 0 (R132). -/
def execSdiTxDisable (n : Fin 128) (v : Word) (s : State) : Out := .next (writeTxCfg n (v &&& ~~~ 1#32) s)

/-- SDI_TX_LINE (R130). -/
def execSdiTxLine (n : Fin 128) (second : Bool) (line : Nat) (s : State) : Out := .next (sdiLineOut n second line s)

end Sys2Proof.Machine
end

