-- ==== Sys2Proof/Machine/MportRx.lean ====
section
/-!
DEFINITION. Media reception (chapter 06): ports (R136, R141), the host receive ring (R143, R144), receive contexts (R151 to
R156), the ST 2022-7 merge (R157 to R159), and MEDIA_FRAME_RX over them (R138 to R146).
-/

namespace Sys2Proof.Machine

/-! ### Ports -/

/-- The lane of a port. -/
def State.portLane (s : State) (p : Nat) : Nat := s.fld F.MPORT_CFG_LANE p

/-- The port rate in Gbit/s (R136). -/
def State.portGbps (s : State) (p : Nat) : Nat :=
  let n := s.portLane p
  match s.fld F.LANE_CFG_GROUP n with
  | 0 => match s.fld F.LANE_CFG_RX_RATE n with | 9 => 10 | 10 => 25 | _ => 50
  | _ => 100

/-- A port is enabled and its link is up (R141). -/
def State.portUp (s : State) (p : Nat) : Bool := s.macUp p

/-- The receiver and PCS term of R163 in ns. -/
def State.pcsNs (s : State) (p : Nat) : Nat :=
  if s.fld F.LANE_CFG_RX_RATE (s.portLane p) = 11 then 160 else if s.flag F.MPORT_CFG_RSFEC p then 120 else 48

/-- What R163 puts between the first bit of a frame and the write of its samples, in tenths of a nanosecond. -/
def State.rxPath10 (s : State) (p len : Nat) : Nat := 10 * s.pcsNs p + (len + 20) * 80 / max 1 (s.portGbps p) + 1760

/-! ### The host receive ring (R143, R144) -/

/-- A frame for the host ring: SRC 0 host filter, 1 Flow Table, 2 PTP. -/
def hostRx (p src index : Nat) (f : EthFrame) (s : State) : State :=
  let size := 2 ^ s.fld F.MPORT_HRX_CFG_SIZE p
  let head := s.fld F.MPORT_HRX_HEAD_IDX p
  if (head + 1) % size = s.fld F.MPORT_HRX_TAIL_IDX p then (s.bump .MPORT_RX_HOST_DROP p).raise Src.MPORT_HOST_DROP
  else
    let slot := if s.flag F.MPORT_HRX_CFG_SLOT p then 10240 else 2048
    let base := s.fld F.MPORT_HRX_CFG_BASE_HI p * 2 ^ 32 + s.fld F.MPORT_HRX_BASE_LO_BASE p * 64
    let d := rxDescriptor f.bytes.length src f.tagged 0 (s.frameStamp p) index
    (s.store (base + head * slot) (d ++ f.bytes)).setFld F.MPORT_HRX_HEAD_IDX p ((head + 1) % size)

/-- The host filter (R143). -/
def hostFilter (p : Nat) (f : EthFrame) (s : State) : State :=
  let own := (s.reg .MPORT_MAC_LO p).toNat + s.fld F.MPORT_MAC_HI_MAC p * 2 ^ 32
  if (f.dst == 0xFFFFFFFFFFFF && s.flag F.MPORT_CFG_HOST_BCAST p) || (f.dst == own && s.flag F.MPORT_CFG_HOST_UCAST p)
      || (f.dst / 256 == 0x01005E0000 && s.flag F.MPORT_CFG_HOST_LL p) then hostRx p 0 0 f s
  else s.bump .MPORT_RX_FILTER p

/-! ### Receive contexts (R151 to R153) -/

/-- A context's hidden state. -/
def State.rxc (s : State) (c : Nat) : RxCtx := s.mport.rxc.get .reset c

/-- A context's hidden state replaced. -/
def State.setRxc (s : State) (c : Nat) (x : RxCtx) : State :=
  { s with mport := { s.mport with rxc := s.mport.rxc.set c x } }

/-- The state of a context. -/
def State.rxcState (s : State) (c : Nat) : Nat := s.fld F.MPORT_RXC_STAT_STATE c

/-- The VIN that a context names. -/
def State.rxcVin (s : State) (c : Nat) : Nat := s.fld F.MPORT_RXC_DST_DST c % 1024

/-- A context feeds its VIN. -/
def rxcVideo (type : Nat) : Bool := type == 0 || type == 4

/-- A path of an enabled merge group is present or not (R159). -/
def pathShow (c : Nat) (here : Bool) (s : State) : State :=
  match s.mergeOf c with
  | none => s
  | some (m, onB) =>
    let f := if onB then F.MPORT_MRG_STAT_B_OK else F.MPORT_MRG_STAT_A_OK
    (s.setFlag f m here).raiseIf (s.flag f m && !here) Src.MPORT_PATH_LOST

/-- A context enters a state (R153): leaving LOCKED is counted, MISMATCH is flagged, presence and the merge path follow. -/
def rxcEnter (c st : Nat) (s : State) : State :=
  let old := s.rxcState c
  if old = st then s
  else
    let s1 := s.setFld F.MPORT_RXC_STAT_STATE c st
    let s2 := if old = 2 then ((s1.bump .MPORT_RXC_UNLOCK_CNT c).setFlag F.MPORT_RXC_STAT_UNLOCK_S c true).raise
        Src.MPORT_CTX_UNLOCK else s1
    let s3 := if st = 3 then (s2.setFlag F.MPORT_RXC_STAT_MISMATCH_S c true).raise Src.MPORT_CTX_MISMATCH else s2
    let s4 := if rxcVideo (s3.fld F.MPORT_RXC_CFG_TYPE c) && !s3.rxcLocked c then setVinPresent (s3.rxcVin c) false s3 else s3
    let s5 := if st = 2 then s4 else s4.setRxc c { s4.rxc c with good := 0, bad := 0, trsRun := 0, real := false }
    if old = 0 then pathShow c true s5 else if st = 0 then pathShow c false s5 else s5

/-- The width of a type's sequence numbers (R152). -/
def seqBits (type : Nat) : Nat := if type = 0 then 32 else 16

/-- The sequence number of a packet. -/
def rtpSeq (type : Nat) (r : RtpPkt) : Nat := if type = 0 then fieldAt r.body 0 2 * 65536 + r.seq else r.seq

/-- How far `b` lies after `a` among `n`-bit sequence numbers. -/
def seqDiff (n a b : Nat) : Int := signed n (unsign n ((b : Int) - a))

/-- A packet's sequence number: a gap is counted (R152). -/
def noteSeq (c q : Nat) (s : State) : State :=
  let x := s.rxc c
  let n := seqBits (s.fld F.MPORT_RXC_CFG_TYPE c)
  let s1 := s.setRxc c { x with lastPkt := s.now, seq := match x.seq with
    | some a => if 0 < seqDiff n a q then some q else some a
    | none => some q }
  match x.seq with
  | none => s1
  | some a =>
    if 1 < seqDiff n a q then
      ((s1.bumpN .MPORT_RXC_LOSS c ((seqDiff n a q).toNat - 1)).setFlag F.MPORT_RXC_STAT_LOSS_S c true).raise Src.MPORT_PKT_LOSS
    else s1

/-! ### ST 2110-20 (R154) -/

/-- A Sample Row Data header with its samples. -/
structure RowPiece where
  second : Bool
  row : Nat
  offset : Nat
  data : List Byte

/-- The headers of a packet: (length, field and row, offset), while the C bits continue. -/
def rowHeads : Nat → List Byte → List (Nat × Nat × Nat)
  | 0, _ => []
  | k + 1, bs =>
    let x := (fieldAt bs 0 2, fieldAt bs 2 2, fieldAt bs 4 2)
    if bit x.2.2 15 then x :: rowHeads k (bs.drop 6) else [x]

/-- The pieces that headers and data give. -/
def rowPieces : List (Nat × Nat × Nat) → List Byte → List RowPiece
  | [], _ => []
  | (n, r, o) :: t, bs => ⟨bit r 15, r % 32768, o % 32768, bs.take n⟩ :: rowPieces t (bs.drop n)

/-- The payload of an ST 2110-20 packet, if its headers can be read. -/
def videoPieces (body : List Byte) : Option (List RowPiece) :=
  let h := rowHeads 256 (body.drop 2)
  let d := body.drop (2 + 6 * h.length)
  let n := h.foldl (fun a x => a + x.1) 0
  if body.length < 2 + 6 * h.length ∨ d.length < n then none else some (rowPieces h d)

/-- The pgroup of a format: its bytes and its samples. -/
def fmtPgroup (f : Nat) : Nat × Nat :=
  if fmt422 f then (if fmtDepth f = 10 then (5, 2) else (6, 2)) else if fmtDepth f = 10 then (15, 4) else (9, 2)

/-- Picture lines in a field, or in a progressive frame. -/
def fmtRows (f : Nat) : Nat := if fmtInterlaced f then fmtHeight f / 2 else fmtHeight f

/-- A piece lies in the raster of a format and its F bit agrees with the scan. -/
def RowPiece.fits (x : RowPiece) (f : Nat) : Bool :=
  let g := fmtPgroup f
  (!x.second || fmtInterlaced f) && decide (x.row < fmtRows f) && decide (x.data.length % g.1 = 0)
    && decide (x.offset % g.2 = 0) && decide (x.offset + x.data.length / g.1 * g.2 ≤ fmtWidth f)

/-- The place of a piece's essence line among those of a frame. -/
def RowPiece.place (x : RowPiece) (f : Nat) : Nat :=
  (if x.second then fmtRows f else 0) / fmtLinesPer f + x.row / fmtLinesPer f

/-- The first byte of a piece in its essence line. -/
def RowPiece.at_ (x : RowPiece) (f : Nat) : Nat :=
  let g := fmtPgroup f
  x.row % fmtLinesPer f * (fmtWidth f / g.2 * g.1) + x.offset / g.2 * g.1

/-- A byte string with a part replaced. -/
def overlay (a : Nat) (new bs : List Byte) : List Byte := bs.take a ++ new ++ bs.drop (a + new.length)

/-- A byte string as 64-byte words, the last padded with 0. -/
def cutWords (n : Nat) (bs : List Byte) : List (List Byte) :=
  (List.range n).map (fun k => let w := (bs.drop (64 * k)).take 64; w ++ List.replicate (64 - w.length) 0)

/-- The instant at which word `w` of a line was complete. -/
def RxLine.wordAt (x : RxLine) (now : Int) (w : Nat) : Int :=
  let l := x.pieces.filter (fun p => decide (p.1 < 64 * w + 64) && decide (64 * w < p.1 + p.2.1.length))
  match l with
  | [] => now
  | p :: t => t.foldl (fun a q => max a q.2.2) p.2.2

/-- The ANC packets that wait for a line of a VIN, and the state without them. -/
def takeAnc (v line : Nat) (s : State) : List AncPacket × State :=
  let l := s.mport.anc.get [] v
  ((l.filter (fun a => a.1 == line)).map (·.2),
    if l = [] then s else { s with mport := { s.mport with anc := s.mport.anc.set v (l.filter (fun a => a.1 != line)) } })

/-- The open line of a context closes: samples that have not come are those of the VIN's line before (R154). -/
def rxcClose (c : Nat) (s : State) : State :=
  let x := s.rxc c
  match x.line with
  | none => s
  | some l =>
    let f := s.fld F.MPORT_RXC_CFG_FMT c
    let v := s.rxcVin c
    let line := Config.activeLine f l.second l.row
    let before := match (s.poolOf v).find? (fun p => p.words != []) with
      | some p => p.words.flatten
      | none => (blackWords f).flatten
    let bytes := l.pieces.foldr (fun p b => overlay p.1 p.2.1 b) before
    let here := s.rxcLocked c && x.real
    let words := if here then cutWords (fmtWords f) bytes else blackWords f
    let (anc, s1) := takeAnc v line s
    let margins := (List.range words.length).map (fun w =>
      s.rasterMargin v line (l.wordAt s.etFull w) (Config.rasterOffset f w))
    let s2 := s1.setRxc c { x with line := none, closed := (if l.second then fmtRows f else 0) / fmtLinesPer f + l.row + 1 }
    writeLine v ⟨line, x.frame, here, words, margins, anc, l.start⟩ s2

/-- A piece goes into its line. -/
def putPiece (c : Nat) (t : Int) (s : State) (p : RowPiece) : State :=
  let f := s.fld F.MPORT_RXC_CFG_FMT c
  let k := p.place f
  let s1 := match (s.rxc c).line with
    | some l => if l.second == p.second && l.row == p.row / fmtLinesPer f then s else rxcClose c s
    | none => s
  let x := s1.rxc c
  let piece := (p.at_ f, p.data, t)
  match x.line with
  | some l => s1.setRxc c { x with line := some { l with pieces := piece :: l.pieces } }
  | none => s1.setRxc c { x with line := some ⟨p.second, p.row / fmtLinesPer f, [piece], s1.etFull⟩, closed := k }

/-- A context's own frame count takes the RTP timestamp of a packet; real lines begin with a frame in LOCKED (R122, R154).
The packet belongs to an earlier frame: false. -/
def newFrame (c ts : Nat) (s : State) : Bool × State :=
  let x := s.rxc c
  match x.wts with
  | none => (true, s.setRxc c { x with wts := some ts })
  | some a =>
    if seqDiff 32 a ts < 0 then (false, s)
    else if a = ts then (true, s)
    else
      let s1 := rxcClose c s
      let y := s1.rxc c
      (true, s1.setRxc c { y with wts := some ts, frame := (y.frame + 1) % 2 ^ 16, closed := 0,
                                  real := y.real || s1.rxcLocked c })

/-- The samples of a type 0 packet are written; those of a closed line are late. -/
def videoWrite (c : Nat) (r : RtpPkt) (t : Int) (s : State) : State :=
  let f := s.fld F.MPORT_RXC_CFG_FMT c
  let late (u : State) : State := (u.bump .MPORT_RXC_LATE c).raise Src.MPORT_PKT_LOSS
  match videoPieces r.body with
  | none => s
  | some ps =>
    let (inFrame, s1) := newFrame c r.ts s
    if !inFrame then late s1
    else if ps.any (fun p => !p.fits f) then s1
    else if ps.any (fun p => decide (p.place f < (s1.rxc c).closed)) then late s1
    else ps.foldl (putPiece c t) s1

/-- The phase of a frame's first packet against F(N) (R154). -/
def rxcPhase (c : Nat) (s : State) : State :=
  let d := s.fld F.MPORT_RXC_CFG_TD c
  match s.frameNow d with
  | none => s
  | some (f, _) =>
    let t : Int := (s.tf3 d : Int) / 3
    let p := (s.etFull - f) % (max 1 t)
    s.setReg .MPORT_RXC_PHASE c (BitVec.ofInt 32 (if t < 2 * p then p - t else p))

/-- A frame that has ended is judged (R153): two consistent ones lock, two inconsistent ones are a mismatch. -/
def rxcJudge (c : Nat) (s : State) : State :=
  let x := s.rxc c
  if !x.whole then s
  else if x.ok then
    let s1 := s.setRxc c { x with good := x.good + 1, bad := 0 }
    if 2 ≤ x.good + 1 ∧ (s1.rxcState c = 1 ∨ s1.rxcState c = 3) then rxcEnter c 2 s1 else s1
  else
    let s1 := s.setRxc c { x with good := 0, bad := x.bad + 1 }
    if 2 ≤ x.bad + 1 then rxcEnter c 3 s1 else s1

/-- What a type 0 packet says of the flow (R153). -/
def videoTrack (c : Nat) (r : RtpPkt) (s : State) : State :=
  let f := s.fld F.MPORT_RXC_CFG_FMT c
  let fits := match videoPieces r.body with | some ps => ps.all (fun p => p.fits f) | none => false
  let x := s.rxc c
  match x.ts with
  | none => s.setRxc c { x with ts := some r.ts, whole := false, ok := fits }
  | some a =>
    if a = r.ts then s.setRxc c { x with ok := x.ok && fits }
    else if seqDiff 32 a r.ts < 0 then s
    else
      let s1 := rxcPhase c (rxcJudge c s)
      s1.setRxc c { s1.rxc c with ts := some r.ts, whole := true, ok := fits }

/-! ### Audio (R155) -/

/-- The sample rate of a context in kHz. -/
def State.rxcKhz (s : State) (c : Nat) : Nat := if s.flag F.MPORT_RXC_DST_FS96 c then 96 else 48

/-- Samples per packet. -/
def State.rxcPktSamples (s : State) (c : Nat) : Nat := if s.flag F.MPORT_RXC_DST_PTIME c then s.rxcKhz c / 8 else s.rxcKhz c

/-- Bytes per sample of a type. -/
def audBytes (type : Nat) (l16 : Bool) : Nat := if type = 2 then 4 else if l16 then 2 else 3

/-- The payload is a whole number of sample sets of one packet time. -/
def State.audioFits (s : State) (c : Nat) (r : RtpPkt) : Bool :=
  r.body.length == audBytes (s.fld F.MPORT_RXC_CFG_TYPE c) (s.flag F.MPORT_RXC_DST_L16 c) * s.fld F.MPORT_RXC_DST_COUNT c
    * s.rxcPktSamples c

/-- One sample of a payload: L24, L16, or an AM824 subframe with its V, U, C and B bits (notes/assumptions/9.md). -/
def audioAt (type : Nat) (l16 : Bool) (body : List Byte) (k : Nat) : AudSample :=
  let n := audBytes type l16
  let w := fieldAt body (n * k) n
  if type = 2 then ⟨BitVec.ofNat 24 w, bit w 24, bit w 25, bit w 26, bit w 29⟩
  else ⟨BitVec.ofNat 24 (if l16 then w * 256 else w), false, false, false, false⟩

/-- One sample period of a context's channels. -/
def audioSet (c ts : Nat) (x : Nat → AudSample) (s : State) : State :=
  let base := s.fld F.MPORT_RXC_DST_DST c
  (List.range (s.fld F.MPORT_RXC_DST_COUNT c)).foldl (fun t i =>
    deliver (if t.flag F.MPORT_RXC_DST_FS96 c then 2 * (base + i) + ts % 2 else base + i) (x i) t) s

/-- The samples of an audio packet are delivered, after a zero sample with V = 1 for each missing period (R155). -/
def audioWrite (c : Nat) (r : RtpPkt) (s : State) : State :=
  if !s.audioFits c r then s
  else
    let type := s.fld F.MPORT_RXC_CFG_TYPE c
    let n := s.rxcPktSamples c
    let cnt := s.fld F.MPORT_RXC_DST_COUNT c
    let gap := match (s.rxc c).nextTs with | some e => seqDiff 32 e r.ts | none => 0
    if gap < 0 then s
    else
      let s1 := (List.range gap.toNat).foldl (fun t j => audioSet c (r.ts + 2 ^ 32 - gap.toNat + j) (fun _ => .absent) t) s
      let s2 := (List.range n).foldl (fun t j => audioSet c (r.ts + j)
        (fun i => audioAt type (t.flag F.MPORT_RXC_DST_L16 c) r.body (j * cnt + i)) t) s1
      s2.setRxc c { s2.rxc c with nextTs := some ((r.ts + n) % 2 ^ 32) }

/-! ### ANC (R156) -/

/-- The 10-bit word `k` of a bit string that begins at byte `a`. -/
def word10 (bs : List Byte) (a k : Nat) : Nat :=
  let b := a + 10 * k / 8
  fieldAt bs b 2 / 2 ^ (6 - 10 * k % 8) % 1024

/-- The checksum word of ANC words. -/
def ancSum (ws : List Nat) : Nat :=
  let x := ws.foldl (fun a w => (a + w % 512) % 512) 0
  x + (if bit x 8 then 0 else 512)

/-- An ANC packet of an RFC 8331 payload: its Line_Number, its Horizontal_Offset, its words, whether its checksum is right
(notes/assumptions/9.md). -/
structure Anc8331 where
  line : Nat
  offset : Nat
  words : List Nat
  sumOk : Bool

/-- The `k` ANC packets from byte `a`; none if they do not fit. -/
def ancParse (bs : List Byte) : Nat → Nat → Option (List Anc8331)
  | 0, _ => some []
  | k + 1, a =>
    let h := fieldAt bs a 4
    let n := word10 bs (a + 4) 2 % 256
    let len := ceilDiv (10 * (n + 4)) 32 * 4
    if bs.length < a + 4 + len then none
    else
      let ws := (List.range (n + 4)).map (word10 bs (a + 4))
      (ancParse bs k (a + 4 + len)).map (fun t =>
        ⟨h / 2 ^ 20 % 2048, h / 2 ^ 8 % 4096, [0, 0x3FF, 0x3FF] ++ ws, ancSum (ws.take (n + 3)) == ws.getD (n + 3) 0⟩ :: t)

/-- The ANC packets of a payload. -/
def ancPackets (body : List Byte) : Option (List Anc8331) := if body.length < 8 then none else ancParse body (fieldAt body 4 1) 8

/-- A raster line is an active line of a format. -/
def activeLine (f line : Nat) : Bool :=
  (List.range (fmtRows f / fmtLinesPer f)).any (fun r =>
    Config.activeLine f false r == line || (fmtInterlaced f && Config.activeLine f true r == line))

/-- An ANC packet joins a line of a VIN: the line if the Line Pool has it, an active line when it closes, or a blanking
line of its own. -/
def ancJoin (v line : Nat) (a : AncPacket) (s : State) : State :=
  let frame := match (s.poolOf v).head? with | some p => p.frame | none => 0
  if (s.poolOf v).any (fun p => p.line == line && p.frame == frame) then
    { s with xpt := { s.xpt with pool := s.xpt.pool.set v ((s.poolOf v).map (fun p =>
        if p.line = line ∧ p.frame = frame then { p with anc := p.anc ++ [a] } else p)) } }
  else if activeLine (s.vinRec v).fmt line then
    { s with mport := { s.mport with anc := s.mport.anc.set v (s.mport.anc.get [] v ++ [(line, a)]) } }
  else writeLine v ⟨line, frame, s.vinPresent v, [], [], [a], s.etFull⟩ s

/-- The packets of a type 3 payload take their places; one whose checksum fails is dropped and counted. -/
def ancWrite (c : Nat) (r : RtpPkt) (s : State) : State :=
  let v := s.rxcVin c
  match ancPackets r.body with
  | none => s
  | some l => l.foldl (fun t a =>
      if !a.sumOk then t.bump .MPORT_RXC_MALFORMED c
      else
        let line := if 0x7FD ≤ a.line then t.fld F.REF_TD_LINES_SWITCH_LINE (t.fld F.MPORT_RXC_CFG_TD c) + 2 else a.line
        let hanc := a.offset == 0xFFE
        let pos := if a.offset < 0xFFC then a.offset else
          let sp := Config.ancSpace (t.vinRec v).fmt hanc
          let used := ((t.mport.anc.get [] v).filter (fun x => x.1 == line)).map (·.2)
            ++ ((t.poolOf v).filter (fun p => p.line == line)).flatMap (·.anc)
          (freePlace (used.map (fun x => (x.pos, x.words.length))) (sp.1 + sp.2) a.words.length (sp.2 + 1) sp.1).getD sp.1
        ancJoin v line ⟨pos, hanc, a.words⟩ t) s

/-! ### ST 2022-6 (R156) -/

/-- The de-embedding feeder of a type 4 context. -/
def State.rxcFeed4 (s : State) (c unit : Nat) : AudFeed :=
  mkFeed 2 unit (s.fld F.MPORT_RXC_AUD_ACH_BASE c) (sdiAudCount 0 (s.fld F.MPORT_RXC_CFG_FMT c) (s.reg .MPORT_RXC_AUD c))
    false true false

/-- A rebuilt line matches the context's format. -/
def State.sdi4Matches (s : State) (c : Nat) (l : SdiLine) : Bool :=
  let f := s.fld F.MPORT_RXC_CFG_FMT c
  l.lines.toNat == fmtTotalLines f && fmtRateOk f l.rate.toNat && l.scan == fmtInterlaced f && l.map.toNat == 0

/-- What a rebuilt line says of the flow (R119, R153); its TRS, line-number and CRC failures are summed. -/
def sdi4Track (c : Nat) (l : SdiLine) (s : State) : State :=
  let bad := l.trsBad + l.lnBad + l.crcBad
  let s0 := if bad = 0 then s else s.bumpN .MPORT_RXC_SDI_ERR c bad
  let x := s0.rxc c
  let run := if l.trsBad = 0 then 0 else x.trsRun + 1
  let s1 := s0.setRxc c { x with trsRun := run, whole := l.trsBad == 0 && (l.line == 1 || x.whole),
                                 ok := s0.sdi4Matches c l && (l.line == 1 || x.ok) }
  let s2 := if l.line = 1 then rxcPhase c s1 else s1
  if 8 ≤ run ∧ 2 ≤ s2.rxcState c then rxcEnter c 1 s2
  else if l.line = l.lines.toNat then rxcJudge c s2
  else s2

/-- A rebuilt line is written: picture and ANC into the Line Pool, audio to its channels (R121 to R126). -/
def sdi4Write (c : Nat) (t : Int) (l : SdiLine) (s : State) : State :=
  let f := s.fld F.MPORT_RXC_CFG_FMT c
  let v := s.rxcVin c
  let x := s.rxc c
  let s1 := if l.line = 1 then s.setRxc c { x with frame := (x.frame + 1) % 2 ^ 16, real := x.real || s.rxcLocked c } else s
  let here := s1.rxcLocked c && (s1.rxc c).real
  let words := if l.comps = [] then [] else if here then packWords (fmtDepth f) l.comps else blackWords f
  let m := s1.rasterMargin v l.line (t : Int) 0
  let (anc, _) := ancFit 2048 ((l.anc.filter (·.2)).map (·.1))
  let cnt := sdiAudCount 0 f (s1.reg .MPORT_RXC_AUD c)
  let used := if s1.rxcLocked c then l.audio.filter (fun a => decide (1 ≤ a.1) && decide (a.1 ≤ cnt)) else []
  let s2 := used.foldl (fun u a =>
    let z := u.rxc c
    let y := if a.2.2 then a.2.1 else z.prev.get .absent a.1
    deliver (u.fld F.MPORT_RXC_AUD_ACH_BASE c + a.1 - 1) y (u.setRxc c { z with prev := z.prev.set a.1 y })) s1
  writeLine v ⟨l.line, (s2.rxc c).frame, here, words, List.replicate words.length m, if here then anc else [], s2.etFull⟩ s2

/-! ### A packet of a context -/

/-- The payload of a packet can be read (R152). -/
def bodyOk (type : Nat) (r : RtpPkt) : Bool :=
  match type with
  | 0 => (videoPieces r.body).isSome
  | 3 => (ancPackets r.body).isSome
  | 4 => decide (1384 ≤ r.body.length)
  | _ => true

/-- A packet fails the checks of R151 and R152. -/
def State.rxcBad (s : State) (c p : Nat) (r : RtpPkt) : Bool :=
  s.fld F.MPORT_RXC_CFG_PORT c != p || r.version != 2
    || (s.flag F.MPORT_RXC_CHK_PT_CHK c && s.fld F.MPORT_RXC_CHK_PT c != r.pt)
    || (s.flag F.MPORT_RXC_CHK_SSRC_CHK c && (s.reg .MPORT_RXC_SSRC c).toNat != r.ssrc)
    || !bodyOk (s.fld F.MPORT_RXC_CFG_TYPE c) r

/-- What a packet says of its flow: the state machine of R153. -/
def rxcTrack (c : Nat) (f : MediaFrame) (r : RtpPkt) (s : State) : State :=
  let type := s.fld F.MPORT_RXC_CFG_TYPE c
  let s1 := if rxcVideo type ∧ s.rxcState c = 0 then rxcEnter c 1 s else s
  match type with
  | 0 => videoTrack c r s1
  | 4 => f.sdi.foldl (fun t l => sdi4Track c l t) s1
  | 3 => rxcEnter c 2 s1
  | _ => rxcEnter c (if s1.audioFits c r then 2 else 3) s1

/-- The essence of a packet is written for context `c`, `t` being the instant of the write. -/
def rxcWrite (c : Nat) (f : MediaFrame) (r : RtpPkt) (t : Int) (s : State) : State :=
  match s.fld F.MPORT_RXC_CFG_TYPE c with
  | 0 => videoWrite c r t s
  | 3 => ancWrite c r s
  | 4 => f.sdi.foldl (fun u l => sdi4Write c t l u) s
  | _ => audioWrite c r s

/-- The D_in term of a context's VIN, of its last packet (R182). -/
def noteDin (c p len extra : Nat) (s : State) : State :=
  if rxcVideo (s.fld F.MPORT_RXC_CFG_TYPE c) then
    s.setVin (s.rxcVin c) { s.vinRec (s.rxcVin c) with din10 := s.rxPath10 p len + extra }
  else s

/-! ### ST 2022-7 merge (R158) -/

/-- A group's hidden state. -/
def State.mrg (s : State) (m : Nat) : MergeRun := s.mport.mrg.get .reset m

/-- A group's hidden state replaced. -/
def State.setMrg (s : State) (m : Nat) (x : MergeRun) : State :=
  { s with mport := { s.mport with mrg := s.mport.mrg.set m x } }

/-- The lead path is B. -/
def State.leadB (s : State) (m : Nat) : Bool := s.flag F.MPORT_MRG_STAT_LEAD m

/-- The width of a group's sequence numbers. -/
def State.mrgBits (s : State) (m : Nat) : Nat := seqBits (s.fld F.MPORT_RXC_CFG_TYPE (s.fld F.MPORT_MRG_CFG_CTX_A m))

/-- D from the last pairs, unless a path has timed out (R158). -/
def mergeSkew (m : Nat) (s : State) : State :=
  let x := s.mrg m
  if x.pairs = [] ∨ !s.flag F.MPORT_MRG_STAT_A_OK m ∨ !s.flag F.MPORT_MRG_STAT_B_OK m then s
  else
    let sum := x.pairs.foldl (· + ·) 0
    let (d, t) := s.divFree (if s.leadB m then -sum else sum) x.pairs.length
    t.setReg .MPORT_MRG_SKEW m (BitVec.ofInt 32 d)

/-- The group changes lead when the other path leads by more than 1 µs on average over 1,024 pairs. -/
def mergeLead (m : Nat) (s : State) : State :=
  let x := s.mrg m
  let sum := x.pairs.foldl (· + ·) 0
  let ahead := if s.leadB m then sum else -sum
  if x.pairs.length = 1024 ∧ 1024 * 1000 < ahead then
    (s.setFlag F.MPORT_MRG_STAT_LEAD m (!s.leadB m)).bump .MPORT_MRG_LEADCHG m
  else s

/-- The second copy of a sequence number has come: a pair. -/
def mergePair (m : Nat) (onB : Bool) (k : MergePkt) (s : State) : State :=
  let x := s.mrg m
  let d : Int := if onB then (s.now : Int) - k.at_ else (k.at_ : Int) - s.now
  let y := { x with buf := x.buf.map (fun e => if e.seq = k.seq then { e with other := some s.now } else e),
                    pairs := (d :: x.pairs).take 1024 }
  mergeSkew m (mergeLead m (s.setMrg m y))

/-- A packet beyond RATE in its millisecond is discarded and counted. -/
def mergeRate (m len : Nat) (s : State) : Bool × State :=
  let x := s.mrg m
  let ms := s.now / 1000000
  let used := if x.ms = ms then x.bits else 0
  if s.fld F.MPORT_MRG_DELAY_RATE m * 256000 < used + 8 * len then
    (false, (s.bump .MPORT_MRG_LOST m).raise Src.MPORT_MERGE_LOST)
  else (true, s.setMrg m { x with ms := ms, bits := used + 8 * len })

/-- A packet of a merge group's path arrives (R158). -/
def mergePacket (m : Nat) (onB : Bool) (q : Nat) (f : MediaFrame) (s : State) : State :=
  let x0 := s.mrg m
  let s0 := if x0.led then s else (s.setFlag F.MPORT_MRG_STAT_LEAD m onB).setMrg m { x0 with led := true }
  let x := s0.mrg m
  let past := match x.last with | some a => decide (seqDiff (s0.mrgBits m) a q ≤ 0) | none => false
  if past then s0.bump .MPORT_MRG_LATE m
  else match x.buf.find? (fun k => k.seq == q) with
    | some k => if k.onB = onB ∨ k.other.isSome then s0 else mergePair m onB k s0
    | none =>
      let (ok, s1) := mergeRate m f.eth.bytes.length s0
      if ok then
        let y := s1.mrg m
        s1.setMrg m { y with buf := y.buf ++ [⟨q, onB, s1.now, none, f⟩] }
      else s1

/-- T_rel of a packet in always-on ns (R158). -/
def State.releaseAt (s : State) (m : Nat) (k : MergePkt) : Int :=
  let delay : Int := (s.fld F.MPORT_MRG_DELAY_DELAY m * 1000 : Nat)
  if k.onB = s.leadB m then (k.at_ : Int) + delay
  else match k.other with
    | some t => (t : Int) + delay
    | none => (k.at_ : Int) - signed 32 (s.reg .MPORT_MRG_SKEW m).toNat + delay

/-- The packet of a group that is released first. -/
def State.nextRelease (s : State) (m : Nat) : Option MergePkt :=
  (s.mrg m).buf.foldl (fun b k => match b with
    | none => some k
    | some x => if s.releaseAt m k < s.releaseAt m x then some k else some x) none

/-- The group releases its next packet to depacketising, counting those that never came (R158). -/
def mergeRelease (m : Nat) (s : State) : State :=
  if !s.flag F.MPORT_MRG_CFG_EN m then s
  else match s.nextRelease m with
    | none => s
    | some k =>
      let s1 := passToNow (s.releaseAt m k).toNat s
      let x := s1.mrg m
      let gap := match x.last with | some a => (seqDiff (s1.mrgBits m) a k.seq).toNat - 1 | none => 0
      let s2 := s1.setMrg m { x with buf := x.buf.filter (fun e => e.seq != k.seq), last := some k.seq }
      let s3 := if gap = 0 then s2 else (s2.bumpN .MPORT_MRG_LOST m gap).raise Src.MPORT_MERGE_LOST
      let c := s3.fld F.MPORT_MRG_CFG_CTX_A m
      rxcWrite c k.frame k.frame.rtp (s3.etFull + 176) s3

/-- A receive context takes a frame (R151, R152). -/
def rxcPacket (c p : Nat) (f : MediaFrame) (s : State) : State :=
  if !s.flag F.MPORT_RXC_CFG_EN c then s
  else
    let r := f.rtp
    if s.rxcBad c p r then s.bump .MPORT_RXC_MALFORMED c
    else
      let q := rtpSeq (s.fld F.MPORT_RXC_CFG_TYPE c) r
      let s1 := rxcTrack c f r (noteSeq c q s)
      let len := f.eth.bytes.length
      match s1.mergeOf c with
      | none => rxcWrite c f r (s1.etFull + (s1.rxPath10 p len / 10 : Nat)) (noteDin c p len 0 s1)
      | some (m, onB) => mergePacket m onB q f (noteDin c p len (s1.fld F.MPORT_MRG_DELAY_DELAY m * 10000) s1)

/-- No packet for TIMEOUT × 100 µs: NO_FLOW (R153, R159). -/
def rxcTimeout (c : Nat) (s : State) : State :=
  if !s.flag F.MPORT_RXC_CFG_EN c ∨ s.rxcState c = 0 then s
  else rxcEnter c 0 (passToNow ((s.rxc c).lastPkt + s.fld F.MPORT_RXC_CHK_TIMEOUT c * 100000) s)

/-! ### A frame arrives (R138 to R146) -/

/-- The counter of a cause of R138. -/
def frameCounter (k : Nat) : RegName :=
  match k with | 1 => .MPORT_RX_ALIGN | 2 => .MPORT_RX_RUNT | 3 => .MPORT_RX_OVERSIZE | _ => .MPORT_RX_FCS

/-- A pause of `q` quanta (R140). -/
def portPause (p q : Nat) (s : State) : State :=
  let s1 := s.bump .MPORT_RX_FILTER p
  if q = 0 then flushDelayReq p (s1.setFlag F.MPORT_STAT_PAUSED p false)
  else { s1 with mport := { s1.mport with pause := s1.mport.pause.set p (s1.now + ceilDiv (q * 512) (max 1 (s1.portGbps p))) } }
    |>.setFlag F.MPORT_STAT_PAUSED p true

/-- The quanta run out and the transmitter resumes (R140). -/
def pauseOver (p : Nat) (s : State) : State :=
  if s.flag F.MPORT_STAT_PAUSED p then
    flushDelayReq p ((passToNow (s.mport.pause.get 0 p) s).setFlag F.MPORT_STAT_PAUSED p false)
  else s

/-- The action of a Flow Table hit (R146). -/
def flowAct (p i : Nat) (f : MediaFrame) (s : State) : State :=
  let e := s.flowAt i
  match bitsOf e 13 3 with
  | 1 => rxcPacket (bitsOf e 16 12) p f s
  | 2 => hostRx p 1 i f.eth s
  | 3 => hostRx p 1 i f.eth (rxcPacket (bitsOf e 16 12) p f s)
  | _ => s.bump .MPORT_RX_FLOW_DROP p

/-- An accepted frame is classified (R142). -/
def classify (p : Nat) (f : MediaFrame) (s : State) : State :=
  let own := (s.reg .MPORT_IPV4 p).toNat
  let ptp := if (s.ptpPlaces p).isEmpty then none else f.eth.ptp own
  match ptp with
  | some bs =>
    let (host, t) := ptpReceive p bs s
    if host then hostRx p 2 0 f.eth t else t
  | none =>
    match f.eth.ip with
    | none => hostFilter p f.eth s
    | some x =>
      if !x.sumOk || (x.udp && !x.fragment && !x.udpLenOk) then s.bump .MPORT_RX_IP_ERR p
      else if x.udp && !x.fragment then
        let (hit, t) := flowLookup x.dst x.src x.dport p f.eth.tagged f.eth.vid f.ecc s
        match hit with
        | some i => flowAct p i f t
        | none => hostFilter p f.eth t
      else hostFilter p f.eth s

/-- MEDIA_FRAME_RX (R138 to R146). -/
def mediaFrameIn (p : Nat) (f : MediaFrame) (s : State) : State :=
  if !s.portUp p then s
  else
    let s0 := (s.bumpN .MPORT_FEC_CORR p f.fecCorr).bumpN .MPORT_FEC_UNCORR p f.fecUncorr
    let k := f.eth.fault (s0.flag F.MPORT_CFG_JUMBO p)
    if k ≠ 0 then (s0.bump (frameCounter k) p).raise Src.MPORT_BAD_FRAME
    else
      let s1 := s0.bump64 .MPORT_RX_FRAMES_LO .MPORT_RX_FRAMES_HI p
      match f.eth.pause with
      | some q => portPause p q s1
      | none => classify p f s1

/-- The link of a port falls (R141). -/
def portDown (p : Nat) (s : State) : State :=
  if s.flag F.MPORT_STAT_LINK_UP p then
    ((s.setFlag F.MPORT_STAT_LINK_UP p false).setFlag F.MPORT_STAT_LINK_DOWN_S p true).raise Src.MPORT_LINK_DOWN
  else s

/-- The link of an enabled port comes up (R141). -/
def portComesUp (p : Nat) (s : State) : State := if s.flag F.MPORT_CFG_EN p then s.setFlag F.MPORT_STAT_LINK_UP p true else s

/-! ### Configuration (R137, R151, R157) -/

/-- The lanes of a port's group carry MEDIA both ways and its lane is their lowest (R137). -/
def State.portLaneOk (s : State) (n : Nat) : Bool :=
  s.groupBase n == n && (groupLanes n (s.fld F.LANE_CFG_GROUP n)).all (fun k =>
    s.fld F.LANE_CFG_RX_PROTO k == 2 && s.fld F.LANE_CFG_TX_PROTO k == 2)

/-- An enabled context names a port. -/
def State.portNamed (s : State) (p : Nat) : Bool :=
  (List.range 4096).any (fun c => s.flag F.MPORT_RXC_CFG_EN c && s.fld F.MPORT_RXC_CFG_PORT c == p)
    || (List.range 2048).any (fun t => s.flag F.MPORT_TXC_CFG_EN t && (s.fld F.MPORT_TXC_CFG_PORT_A t == p
        || (s.flag F.MPORT_TXC_CFG_DUAL t && s.fld F.MPORT_TXC_CFG_PORT_B t == p)))

/-- A write of MPORT_CFG (R137). -/
def writePortCfg (p : Nat) (v : Word) (s : State) : State :=
  let was := s.flag F.MPORT_CFG_EN p
  let on := F.MPORT_CFG_EN.of v == 1
  let lane := F.MPORT_CFG_LANE.of v
  let locked := was && (changes F.MPORT_CFG_LANE s p v || changes F.MPORT_CFG_RSFEC s p v || changes F.MPORT_CFG_JUMBO s p v)
  let badOn := on && !was && (!s.portLaneOk lane
    || (List.range 128).any (fun q => q != p && s.flag F.MPORT_CFG_EN q && s.portLane q == lane)
    || (F.MPORT_CFG_JUMBO.of v == 1 && (!s.flag F.MPORT_HRX_CFG_SLOT p || !s.flag F.MPORT_HTX_CFG_SLOT p)))
  let badOff := was && !on && s.portNamed p
  if locked || badOn || badOff then s.reject .MPORT
  else
    let t := plainWrite .MPORT_CFG p v s
    if was && !on then portDown p t else t

/-- The unit under which a context's channels are fed: its group's path A. -/
def State.feedUnit (s : State) (c : Nat) : Nat :=
  match s.mergeOf c with | some (m, _) => s.fld F.MPORT_MRG_CFG_CTX_A m | none => c

/-- The channels that a context of types 1, 2 or 4 feeds. -/
def State.rxcFeed (s : State) (c type : Nat) : AudFeed :=
  if type = 4 then s.rxcFeed4 c (s.feedUnit c)
  else if type = 1 ∨ type = 2 then
    mkFeed 2 (s.feedUnit c) (s.fld F.MPORT_RXC_DST_DST c) (s.fld F.MPORT_RXC_DST_COUNT c) (s.flag F.MPORT_RXC_DST_FS96 c)
      (type == 2) true
  else mkFeed 2 (s.feedUnit c) 0 0 false false false

/-- The partner of a context in its merge group is enabled. -/
def State.partnerOn (s : State) (c : Nat) : Bool :=
  match s.mergePartner c with | some d => s.flag F.MPORT_RXC_CFG_EN d | none => false

/-- A written MPORT_RXC_CFG may enable its context (R117, R151, R156). -/
def State.rxcMayEnable (s : State) (c : Nat) (v : Word) : Bool :=
  let type := F.MPORT_RXC_CFG_TYPE.of v
  let f := F.MPORT_RXC_CFG_FMT.of v
  let cnt := s.fld F.MPORT_RXC_DST_COUNT c
  let u := plainWrite .MPORT_RXC_CFG c v s
  decide (type ≤ 4)
    && (!rxcVideo type || (fmtValid f && (s.partnerOn c || s.mayAttach (s.rxcVin c) f)))
    && (type != 4 || fmtIs292 f || fmtIs3g f)
    && (!(type == 1 || type == 2) || (decide (1 ≤ cnt) && decide (cnt ≤ 64)))
    && (u.mayFeed (u.rxcFeed c type))

/-- A context is enabled, in NO_FLOW (R151, R153, R170). -/
def rxcOn (c : Nat) (s : State) : State :=
  let type := s.fld F.MPORT_RXC_CFG_TYPE c
  let s1 := if rxcVideo type && !s.partnerOn c then
      attachVin (s.rxcVin c) 2 (s.fld F.MPORT_RXC_CFG_FMT c) 0 (s.rxPath10 (s.fld F.MPORT_RXC_CFG_PORT c) 64) s else s
  feedSlots (s1.rxcFeed c type) ((s1.setFld F.MPORT_RXC_STAT_STATE c 0).setRxc c .reset)

/-- A context is disabled. -/
def rxcOff (c : Nat) (s : State) : State :=
  let s1 := pathShow c false ((s.setFld F.MPORT_RXC_STAT_STATE c 0).setRxc c .reset)
  if s1.partnerOn c then s1
  else
    let s2 := if rxcVideo (s1.fld F.MPORT_RXC_CFG_TYPE c) then detachVin (s1.rxcVin c) s1 else s1
    unfeed 2 (s2.feedUnit c) s2

/-- A write of MPORT_RXC_CFG (R151). -/
def writeRxcCfg (c : Nat) (v : Word) (s : State) : State :=
  let was := s.flag F.MPORT_RXC_CFG_EN c
  let on := F.MPORT_RXC_CFG_EN.of v == 1
  let locked := was && ((v ^^^ s.reg .MPORT_RXC_CFG c) &&& 0x00FF3FFE#32) != 0
  if locked || (on && !was && !s.rxcMayEnable c v) then s.reject .MPORT
  else
    let t := plainWrite .MPORT_RXC_CFG c v s
    if on && !was then rxcOn c t else if was && !on then rxcOff c t else t

/-- A written MPORT_MRG_CFG may enable its group (R157). -/
def State.mrgMayEnable (s : State) (m : Nat) (v : Word) : Bool :=
  let a := F.MPORT_MRG_CFG_CTX_A.of v
  let b := F.MPORT_MRG_CFG_CTX_B.of v
  let rate := s.fld F.MPORT_MRG_DELAY_RATE m * 256
  let same (f : Fld) : Bool := s.fld f a == s.fld f b
  let mb := rate / 4
  let onB := decide (2 ^ 18 ≤ s.fld F.MPORT_MRG_BUF_BUF m)
  a != b && !s.flag F.MPORT_RXC_CFG_EN a && !s.flag F.MPORT_RXC_CFG_EN b
    && same F.MPORT_RXC_CFG_TYPE && same F.MPORT_RXC_CFG_FMT && same F.MPORT_RXC_DST_DST && same F.MPORT_RXC_DST_COUNT
    && decide (rate * (s.fld F.MPORT_MRG_DELAY_DELAY m + 1000) ≤ 8 * (s.fld F.MPORT_MRG_BUF_LEN m * 2 ^ 20))
    && s.hbmFits (3000 + m) (if onB then 0 else mb) (if onB then mb else 0)

/-- A write of MPORT_MRG_CFG (R157). -/
def writeMrgCfg (m : Nat) (v : Word) (s : State) : State :=
  let was := s.flag F.MPORT_MRG_CFG_EN m
  let on := F.MPORT_MRG_CFG_EN.of v == 1
  if on && !was && !s.mrgMayEnable m v then s.reject .MPORT
  else
    let t := plainWrite .MPORT_MRG_CFG m v s
    if on && !was then
      let mb := t.fld F.MPORT_MRG_DELAY_RATE m * 64
      let onB := decide (2 ^ 18 ≤ t.fld F.MPORT_MRG_BUF_BUF m)
      ((t.setHbm (3000 + m) (if onB then 0 else mb) (if onB then mb else 0)).setMrg m .reset).setReg .MPORT_MRG_STAT m 0
    else if was && !on then ((t.setHbm (3000 + m) 0 0).setMrg m .reset).setReg .MPORT_MRG_STAT m 0
    else t

/-! ### Meanings -/

/-- MPORT_ENABLE (R137). -/
def execMportEnable (p : Fin 128) (v : Word) (s : State) : Out := .next (writePortCfg p (v ||| 1#32) s)

/-- MPORT_DISABLE (R137). -/
def execMportDisable (p : Fin 128) (v : Word) (s : State) : Out := .next (writePortCfg p (v &&& ~~~ 1#32) s)

/-- MEDIA_FRAME_RX (R142). -/
def execMediaFrameRx (p : Fin 128) (f : MediaFrame) (s : State) : Out := .next (mediaFrameIn p f s)

/-- PAUSE_END (R140). -/
def execPauseEnd (p : Fin 128) (s : State) : Out := .next (pauseOver p s)

/-- MPORT_LINK_DOWN (R141). -/
def execMportLinkDown (p : Fin 128) (s : State) : Out := .next (portDown p s)

/-- MPORT_LINK_UP (R141). -/
def execMportLinkUp (p : Fin 128) (s : State) : Out := .next (portComesUp p s)

/-- RXC_ENABLE (R151). -/
def execRxcEnable (c : Fin 4096) (v : Word) (s : State) : Out := .next (writeRxcCfg c (v ||| 1#32) s)

/-- RXC_TIMEOUT (R153). -/
def execRxcTimeout (c : Fin 4096) (s : State) : Out := .next (rxcTimeout c s)

/-- RXC_LINE_CLOSE (R154). -/
def execRxcLineClose (c : Fin 4096) (s : State) : Out := .next (rxcClose c s)

/-- MERGE_ENABLE (R157). -/
def execMergeEnable (m : Fin 1024) (v : Word) (s : State) : Out := .next (writeMrgCfg m (v ||| 1#32) s)

/-- MERGE_RELEASE (R158). -/
def execMergeRelease (m : Fin 1024) (s : State) : Out := .next (mergeRelease m s)

end Sys2Proof.Machine
end

