-- ==== Sys2Proof/Machine/MportTx.lean ====
section
/-!
DEFINITION. Media transmission (chapter 06): wire rates and port load (R162), transmit contexts (R160), the packets of each
type at their instants (R161), host frames (R139, R145), and the MPORT registers (R165).
-/

namespace Sys2Proof.Machine

/-! ### Formats on the wire -/

/-- Bytes of a picture line (R161). -/
def fmtRowBytes (f : Nat) : Nat := fmtWidth f * fmtComps f * fmtDepth f / 8

/-- Fields of a frame. -/
def fmtFields (f : Nat) : Nat := if fmtInterlaced f then 2 else 1

/-- Packets that carry `rows` picture lines. -/
def packetsFor (f rows bytes : Nat) (block : Bool) : Nat :=
  if block then ceilDiv (rows * fmtRowBytes f) (max 1 bytes) else rows * ceilDiv (fmtRowBytes f) (max 1 bytes)

/-- T_f of a VOUT's owner in thirds of a nanosecond. -/
def State.voutTf3 (s : State) (o : Nat) : Nat := match s.ownerTd o with | some n => max 1 (s.tf3 n) | none => 1

/-- Samples per packet of an audio context. -/
def State.txcSamples (s : State) (t : Nat) : Nat :=
  let khz := if s.flag F.MPORT_TXC_SRC_FS96 t then 96 else 48
  if s.flag F.MPORT_TXC_SRC_PTIME t then khz / 8 else khz

/-- Audio payload bytes of a packet. -/
def State.txcAudioBytes (s : State) (t type : Nat) : Nat :=
  audBytes type (s.flag F.MPORT_TXC_SRC_L16 t) * s.fld F.MPORT_TXC_SRC_COUNT t * s.txcSamples t

/-- Packets a second of an ST 2022-6 flow: ⌈SDI rate / 11,008⌉. -/
def sdiPackets (f : Nat) : Nat :=
  let full := if fmtIs3g f then 2970000000 else 1485000000
  if fmtDivided f then ceilDiv (full * 1000) (1001 * 11008) else ceilDiv full 11008

/-- The wire rate W of a context with the given configuration word, in Mbit/s, rounded up (R162). -/
def State.wireRate (s : State) (t : Nat) (v : Word) : Nat :=
  let type := F.MPORT_TXC_CFG_TYPE.of v
  let f := F.MPORT_TXC_CFG_FMT.of v
  let tag := 4 * F.MPORT_TXC_CFG_VLAN_EN.of v
  let o := s.fld F.MPORT_TXC_SRC_SRC t % 1024
  let bytes := s.fld F.MPORT_TXC_PKT_PKT_BYTES t
  match type with
  | 0 => ceilDiv (packetsFor f (fmtHeight f) bytes (F.MPORT_TXC_CFG_PACK.of v == 1) * (bytes + 92 + tag) * 8 * 3000) (s.voutTf3 o)
  | 3 => ceilDiv (4 * (1542 + tag) * 8 * 3000) (s.voutTf3 o)
  | 4 => ceilDiv (sdiPackets f * (1462 + tag) * 8) 1000000
  | _ => ceilDiv ((s.txcAudioBytes t type + 78 + tag) * 8 * (if s.flag F.MPORT_TXC_SRC_PTIME t then 8000 else 1000)) 1000000

/-- A context sends on a port. -/
def State.txcOn (s : State) (t p : Nat) : Bool :=
  s.flag F.MPORT_TXC_CFG_EN t && (s.fld F.MPORT_TXC_CFG_PORT_A t == p
    || (s.flag F.MPORT_TXC_CFG_DUAL t && s.fld F.MPORT_TXC_CFG_PORT_B t == p))

/-- The sum of WIRE over the enabled contexts of a port, one left out. -/
def State.portLoad (s : State) (p : Nat) (but : Option Nat) : Nat :=
  ((List.range 2048).filter (fun t => but != some t && s.txcOn t p)).foldl (fun a t => a + s.fld F.MPORT_TXC_WIRE_MBPS t) 0

/-! ### Enabling (R160) -/

/-- The ports of a written configuration. -/
def txcPorts (v : Word) : List Nat :=
  F.MPORT_TXC_CFG_PORT_A.of v :: (if F.MPORT_TXC_CFG_DUAL.of v = 1 then [F.MPORT_TXC_CFG_PORT_B.of v] else [])

/-- The length of a context's packets with headers (R160, R162). -/
def State.txcLength (s : State) (t : Nat) (v : Word) : Nat :=
  let tag := 4 * F.MPORT_TXC_CFG_VLAN_EN.of v
  match F.MPORT_TXC_CFG_TYPE.of v with
  | 0 => s.fld F.MPORT_TXC_PKT_PKT_BYTES t + 72 + tag
  | 3 => 1522
  | 4 => 1376 + 66 + tag
  | k => s.txcAudioBytes t k + 58 + tag

/-- Whether another sender than context `t` has a VOUT (R117). -/
def State.txcVoutTaken (s : State) (t o : Nat) : Bool :=
  s.sender o == 1 || s.sender o == 2
    || (List.range 2048).any (fun k => k != t && s.flag F.MPORT_TXC_CFG_EN k && rxcVideo (s.fld F.MPORT_TXC_CFG_TYPE k)
        && s.fld F.MPORT_TXC_SRC_SRC k % 1024 == o)

/-- A written MPORT_TXC_CFG may enable its context (R160, R162). -/
def State.txcMayEnable (s : State) (t : Nat) (v : Word) : Bool :=
  let type := F.MPORT_TXC_CFG_TYPE.of v
  let f := F.MPORT_TXC_CFG_FMT.of v
  let o := s.fld F.MPORT_TXC_SRC_SRC t % 1024
  let cnt := s.fld F.MPORT_TXC_SRC_COUNT t
  let bytes := s.fld F.MPORT_TXC_PKT_PKT_BYTES t
  let unit := if F.MPORT_TXC_CFG_PACK.of v = 1 then 180 else (fmtPgroup f).1
  decide (type ≤ 4)
    && (type == 1 || type == 2 || (fmtValid f && (s.txDomain o f).isSome))
    && (!rxcVideo type || !s.txcVoutTaken t o)
    && (type != 0 || (decide (0 < bytes) && bytes % unit == 0))
    && (type != 4 || fmtIs292 f || fmtIs3g f)
    && (!(type == 1 || type == 2) || (decide (1 ≤ cnt) && decide (cnt ≤ 64)))
    && (txcPorts v).all (fun p => decide (s.txcLength t v ≤ maxFrame (s.flag F.MPORT_CFG_JUMBO p))
        && decide (s.portLoad p (some t) + s.wireRate t v ≤ 970 * s.portGbps p))

/-- A context's hidden state. -/
def State.txc (s : State) (t : Nat) : TxRun := s.mport.txc.get .reset t

/-- A context's hidden state replaced. -/
def State.setTxc (s : State) (t : Nat) (x : TxRun) : State :=
  { s with mport := { s.mport with txc := s.mport.txc.set t x } }

/-- The pieces of packet `j` of a field: (row, first byte, bytes) (R161). -/
def packetRows (f bytes : Nat) (block : Bool) (j : Nat) : List (Nat × Nat × Nat) :=
  let rb := max 1 (fmtRowBytes f)
  if block then
    let lo := j * bytes
    let hi := min (lo + bytes) (fmtRows f * rb)
    (List.range (ceilDiv hi rb - lo / rb)).map (fun i =>
      let r := lo / rb + i
      let a := max lo (r * rb)
      (r, a - r * rb, min hi ((r + 1) * rb) - a))
  else
    let per := ceilDiv rb (max 1 bytes)
    let a := j % per * bytes
    [(j / per, a, min bytes (rb - a))]

/-- Packets of one field of a context. -/
def State.fieldPackets (s : State) (t f : Nat) : Nat :=
  packetsFor f (fmtRows f) (s.fld F.MPORT_TXC_PKT_PKT_BYTES t) (s.flag F.MPORT_TXC_CFG_PACK t)

/-- t_k − F(N) of packet `j` of a frame of a type 0 context in domain `n`, in thirds of a nanosecond (R161). -/
def State.packetOffset3 (s : State) (t n j : Nat) : Nat :=
  let f := s.fld F.MPORT_TXC_CFG_FMT t
  let per := max 1 (s.fieldPackets t f)
  let field3 := s.tf3 n / fmtFields f
  let tro := if s.fld F.MPORT_TXC_TRO_TRO t = 0 then Config.defaultTro f (s.fld F.REF_TD_CFG_RATE n)
    else s.fld F.MPORT_TXC_TRO_TRO t
  let span := if s.flag F.MPORT_TXC_CFG_SENDER t then field3 * (j % per) / per
    else field3 * (j % per) * (fmtHeight f / fmtLinesPer f) / (fmtTotalLines f * per)
  j / per * field3 + span + 3 * tro

/-- r of byte `a` of a picture row that a packet at `off3` thirds of a nanosecond after F(N) holds: t_k − 356 ns − N(w), in
units of 1 / (891 × TOTAL_LINES) ns (R176, R177). -/
def State.readSkew (s : State) (n f off3 : Nat) (second : Bool) (row a : Nat) : Int :=
  let tl : Int := (s.totalLines n : Nat)
  let line : Int := (Config.activeLine f second (row / fmtLinesPer f) : Nat)
  let w := (row % fmtLinesPer f * fmtRowBytes f + a) / 64
  297 * tl * ((off3 : Int) - 1620) - (line - 1) * (s.tf3 n : Nat) * 297 - (Config.rasterOffset f w : Nat) * 3000 * tl

/-- For each packet of a frame, r of its first word and r of its last word. -/
def State.packetSkews (s : State) (t n : Nat) : List (Int × Int) :=
  let f := s.fld F.MPORT_TXC_CFG_FMT t
  let per := max 1 (s.fieldPackets t f)
  (List.range (fmtFields f * per)).filterMap (fun j =>
    let second := decide (per ≤ j)
    let off3 := s.packetOffset3 t n j
    match packetRows f (s.fld F.MPORT_TXC_PKT_PKT_BYTES t) (s.flag F.MPORT_TXC_CFG_PACK t) (j % per) with
    | [] => none
    | p :: ps =>
      let l := (p :: ps).getLast?.getD p
      some (s.readSkew n f off3 second p.1 p.2.1, s.readSkew n f off3 second l.1 (l.2.1 + l.2.2 - 1)))

/-- The read offsets of a VOUT are shown: ROFF the least over the last words of packets, RHOLD the greatest over their first
words, in ns (R177). -/
def showOffsets (t o n : Nat) (s : State) : State :=
  match s.packetSkews t n with
  | [] => (s.setReg .XPT_VOUT_ROFF o 0).setReg .XPT_VOUT_RHOLD o 0
  | x :: xs =>
    let den := 891 * max 1 (s.totalLines n)
    let (lo, s1) := s.divFree (xs.foldl (fun a e => min a e.2) x.2) den
    let (hi, s2) := s1.divFree (xs.foldl (fun a e => max a e.1) x.1) den
    (s2.setReg .XPT_VOUT_ROFF o (BitVec.ofInt 32 lo)).setReg .XPT_VOUT_RHOLD o (BitVec.ofInt 32 hi)

/-- ROFF and RHOLD follow a context that has been enabled or disabled: they are a type 0 sender's, and 0 otherwise (R177). -/
def txcOffsets (t : Nat) (s : State) : State :=
  let o := s.fld F.MPORT_TXC_SRC_SRC t % 1024
  if s.fld F.MPORT_TXC_CFG_TYPE t ≠ 0 then s
  else match s.flag F.MPORT_TXC_CFG_EN t, s.ownerTd o with
    | true, some n => showOffsets t o n s
    | _, _ => (s.setReg .XPT_VOUT_ROFF o 0).setReg .XPT_VOUT_RHOLD o 0

/-- A write of MPORT_TXC_CFG (R160, R177). The first sequence number is not stated, so it is free. -/
def writeTxcCfg (t : Nat) (v : Word) (s : State) : State :=
  let was := s.flag F.MPORT_TXC_CFG_EN t
  let s0 := if was then txcOffsets t (s.setFlag F.MPORT_TXC_CFG_EN t false) else s
  if F.MPORT_TXC_CFG_EN.of v ≠ 1 then plainWrite .MPORT_TXC_CFG t v s0
  else if !s.txcMayEnable t v then s.reject .MPORT
  else
    let u := txcOffsets t ((plainWrite .MPORT_TXC_CFG t v s0).setFld F.MPORT_TXC_WIRE_MBPS t (s.wireRate t v))
    if was then u
    else
      let (n, w) := u.freeNat
      w.setTxc t { TxRun.reset with seq := n % 2 ^ 32 }

/-! ### Building packets (R160, R161) -/

/-- F(N) of frame `k` of domain `n` in thirds of a nanosecond of Event Time full time. -/
def State.frameStart3 (s : State) (n k : Nat) : Option Int :=
  (s.frameNow n).map (fun x => 3 * x.1 + ((k : Int) - (x.2 : Int)) * (s.tf3 n : Int))

/-- An RTP header. -/
def rtpHeader (marker : Bool) (pt seq ts ssrc : Nat) : List Byte :=
  beBytes 1 0x80 ++ beBytes 1 (b2n marker * 128 + pt) ++ beBytes 2 seq ++ beBytes 4 ts ++ beBytes 4 ssrc

/-- A media packet as a frame of port `p` to `dip`. The identification and flags of its IPv4 header and its UDP checksum are
not stated: they are free. -/
def mediaFrameTo (t p dip : Nat) (rtp : List Byte) (s : State) : List Byte × State :=
  let (id, s1) := s.freeNat
  let (fl, s2) := s1.freeNat
  let (ck, s3) := s2.freeNat
  let udp := beBytes 2 (s.fld F.MPORT_TXC_UDP_SPORT t) ++ beBytes 2 (s.fld F.MPORT_TXC_UDP_DPORT t)
    ++ beBytes 2 (rtp.length + 8) ++ beBytes 2 (ck % 65536) ++ rtp
  let ip := ipHeader (s.fld F.MPORT_TXC_HDR_DSCP t * 4) (udp.length + 20) (id % 65536) (fl % 2 * 0x4000)
    (s.fld F.MPORT_TXC_PKT_TTL t) 17 (s.reg .MPORT_IPV4 p).toNat dip ++ udp
  let tag := if s.flag F.MPORT_TXC_CFG_VLAN_EN t then beBytes 2 0x8100 ++ beBytes 2 (s.fld F.MPORT_TXC_HDR_VID t) else []
  let mac := (s.reg .MPORT_MAC_LO p).toNat + s.fld F.MPORT_MAC_HI_MAC p * 2 ^ 32
  (macFrame (beBytes 6 (0x01005E000000 + dip % 2 ^ 23) ++ beBytes 6 mac ++ tag ++ beBytes 2 0x0800 ++ ip), s3)

/-- The port is paused now (R140). -/
def State.portPaused (s : State) (p : Nat) : Bool := s.flag F.MPORT_STAT_PAUSED p && decide (s.now < s.mport.pause.get 0 p)

/-- A paced packet leaves on a port, is discarded in a pause, or is discarded with the link down (R140, R141). -/
def sendPaced (t p dip : Nat) (first : Bool) (rtp : List Byte) (s : State) : State :=
  if !s.portUp p then s
  else if s.portPaused p then s.bump .MPORT_TX_PAUSE_DROP p
  else
    let (bs, s1) := mediaFrameTo t p dip rtp s
    let s2 := (s1.send (s1.portLane p) bs).bump64 .MPORT_TX_FRAMES_LO .MPORT_TX_FRAMES_HI p
    if first then s2.bump64 .MPORT_TXC_PKTS_LO .MPORT_TXC_PKTS_HI t else s2

/-- A packet goes out on PORT_A, and with DUAL = 1 on PORT_B (R161). -/
def sendMedia (t : Nat) (marker : Bool) (ts : Nat) (body : List Byte) (s : State) : State :=
  let x := s.txc t
  let rtp := rtpHeader marker (s.fld F.MPORT_TXC_HDR_PT t) (x.seq % 65536) ts (s.reg .MPORT_TXC_SSRC t).toNat ++ body
  let s1 := sendPaced t (s.fld F.MPORT_TXC_CFG_PORT_A t) (s.reg .MPORT_TXC_DIP_A t).toNat true rtp s
  let s2 := if s1.flag F.MPORT_TXC_CFG_DUAL t
    then sendPaced t (s1.fld F.MPORT_TXC_CFG_PORT_B t) (s1.reg .MPORT_TXC_DIP_B t).toNat false rtp s1 else s1
  s2.setTxc t { s2.txc t with seq := (x.seq + 1) % 2 ^ 32 }

/-- The RTP timestamp of frame `k` (R160). -/
def frameTs (f3 : Int) : Nat := unsign 32 (f3 * 90000 / 3000000000)

/-- A picture line of frame `k` as its VOUT read it; black where it was not read. -/
def State.rowBytes (s : State) (o f k : Nat) (second : Bool) (row : Nat) : List Byte :=
  let line := Config.activeLine f second (row / fmtLinesPer f)
  let held := ([s.xpt.out.find? o, s.xpt.out.find? (1024 + o)].filterMap id).find? (fun l => l.line == line && l.frame == k)
  let words := match held with | some l => l.words | none => blackWords f
  (words.flatten.drop (row % fmtLinesPer f * fmtRowBytes f)).take (fmtRowBytes f)

/-- The Sample Row Data headers of pieces. -/
def rowHeaders (f : Nat) (second : Bool) : List (Nat × Nat × Nat) → List Byte
  | [] => []
  | (r, a, n) :: t => beBytes 2 n ++ beBytes 2 (r + b2n second * 32768)
      ++ beBytes 2 (a / (fmtPgroup f).1 * (fmtPgroup f).2 + b2n (t != []) * 32768) ++ rowHeaders f second t

/-- The payload of packet `j` of a field. -/
def State.videoBody (s : State) (t o f k j : Nat) (second : Bool) : List Byte :=
  let ps := packetRows f (s.fld F.MPORT_TXC_PKT_PKT_BYTES t) (s.flag F.MPORT_TXC_CFG_PACK t) j
  beBytes 2 ((s.txc t).seq / 65536) ++ rowHeaders f second ps
    ++ ps.flatMap (fun p => ((s.rowBytes o f k second p.1).drop p.2.1).take p.2.2)

/-- t_k of packet `j` of frame `k` of a type 0 context, in ns (R161). -/
def State.packetInstant (s : State) (t k j : Nat) : Option Int :=
  (s.ownerTd (s.fld F.MPORT_TXC_SRC_SRC t % 1024)).bind (fun n => (s.frameStart3 n k).map (fun f3 =>
    (f3 + (s.packetOffset3 t n j : Nat)) / 3))

/-- A video packet (type 0). -/
def videoSend (t k j : Nat) (s : State) : State :=
  let f := s.fld F.MPORT_TXC_CFG_FMT t
  let o := s.fld F.MPORT_TXC_SRC_SRC t % 1024
  let per := max 1 (s.fieldPackets t f)
  match s.packetInstant t k j, (s.ownerTd o).bind (fun n => s.frameStart3 n k) with
  | some tk, some f3 =>
    if fmtFields f * per ≤ j then s
    else
      let s1 := passTo tk s
      let s2 := sendMedia t (j % per + 1 == per) (frameTs f3) (s1.videoBody t o f k (j % per) (decide (per ≤ j))) s1
      s2.setTxc t { s2.txc t with sent := some (k, j) }
  | _, _ => s

/-- One audio sample of a payload. -/
def audioBytesOf (type : Nat) (l16 : Bool) (a : AudSample) : List Byte :=
  if type = 2 then beBytes 4 (a.val.toNat + b2n a.v * 2 ^ 24 + b2n a.u * 2 ^ 25 + b2n a.c * 2 ^ 26 + b2n a.z * 2 ^ 29)
  else if l16 then beBytes 2 (a.val.toNat / 256) else beBytes 3 a.val.toNat

/-- An audio packet (types 1 and 2), when its samples have come. -/
def audioSend (t : Nat) (s : State) : State :=
  let x := s.txc t
  let n := s.txcSamples t
  let type := s.fld F.MPORT_TXC_CFG_TYPE t
  if x.audio.length < n then s
  else
    let body := (x.audio.take n).flatMap (fun l => l.flatMap (audioBytesOf type (s.flag F.MPORT_TXC_SRC_L16 t)))
    sendMedia t false (x.first % 2 ^ 32) body (s.setTxc t { x with audio := x.audio.drop n, first := x.first + n })

/-- 10-bit words packed, padded to 32 bits. -/
def packTens (ws : List Nat) : List Byte :=
  let n := ceilDiv (10 * ws.length) 32
  beBytes (4 * n) (ws.foldl (fun a w => a * 1024 + w % 1024) 0 * 2 ^ (32 * n - 10 * ws.length))

/-- An ANC packet of an RFC 8331 payload. -/
def ancBytes (x : Nat × AncPacket) : List Byte := beBytes 4 (x.1 % 2048 * 2 ^ 20 + x.2.pos % 4096 * 2 ^ 8) ++ packTens (x.2.words.drop 3)

/-- The ANC packets that fit, at most 255, and the rest. -/
def ancTake : Nat → Nat → List (Nat × AncPacket) → List (Nat × AncPacket) × List (Nat × AncPacket)
  | _, _, [] => ([], [])
  | n, room, x :: t =>
    if n = 0 ∨ room < (ancBytes x).length then ([], x :: t)
    else let (a, b) := ancTake (n - 1) (room - (ancBytes x).length) t; (x :: a, b)

/-- An ANC packet (type 3), from S(N) + 2 lines. -/
def ancSend (t k j : Nat) (s : State) : State :=
  let f := s.fld F.MPORT_TXC_CFG_FMT t
  match s.ownerTd (s.fld F.MPORT_TXC_SRC_SRC t % 1024) with
  | none => s
  | some n =>
    match s.frameStart3 n k with
    | none => s
    | some f3 =>
      let s1 := match (s.tdOf n).last with
        | some x => if (s.reg .REF_TD_FRAME n).toNat = k then passTo (x.shutter + (2 * s.tf3 n / (3 * max 1 (s.totalLines n)) : Nat)) s
            else s
        | none => s
      let x := s1.txc t
      let (now, rest) := ancTake 255 1400 x.anc
      let data := now.flatMap ancBytes
      let body := beBytes 2 (x.seq / 65536) ++ beBytes 2 data.length ++ beBytes 1 now.length
        ++ beBytes 3 ((if fmtInterlaced f then 2 + j % 2 else 0) * 2 ^ 22) ++ data
      sendMedia t (rest == []) (frameTs f3) body (s1.setTxc t { x with anc := rest })

/-- An ST 2022-6 packet (type 4), when its 1,376 bytes have come. -/
def sdi6Send (t k : Nat) (s : State) : State :=
  let f := s.fld F.MPORT_TXC_CFG_FMT t
  let x := s.txc t
  match (s.ownerTd (s.fld F.MPORT_TXC_SRC_SRC t % 1024)).bind (fun n => s.frameStart3 n k) with
  | none => s
  | some f3 =>
    if x.bytes.length < 1376 then s
    else sendMedia t false (frameTs f3) (beBytes 8 (Config.hbrmtHeader f k).toNat ++ x.bytes.take 1376)
      (s.setTxc t { x with bytes := x.bytes.drop 1376 })

/-- MEDIA_PACKET_TX (R161): packet `j` of frame `k` of a context. -/
def mediaSend (t k j : Nat) (s : State) : State :=
  if !s.flag F.MPORT_TXC_CFG_EN t then s
  else match s.fld F.MPORT_TXC_CFG_TYPE t with
    | 0 => videoSend t k j s
    | 3 => ancSend t k j s
    | 4 => sdi6Send t k s
    | _ => audioSend t s

/-! ### What the senders take from the outputs -/

/-- The enabled contexts of some types. -/
def State.txcs (s : State) (p : Nat → Bool) : List Nat :=
  (List.range 2048).filter (fun t => s.flag F.MPORT_TXC_CFG_EN t && p (s.fld F.MPORT_TXC_CFG_TYPE t))

/-- The line that a VOUT has read goes to its ANC and ST 2022-6 senders. -/
def txcLine (o : Nat) (s : State) : State :=
  match s.xpt.out.find? o with
  | none => s
  | some l => ((s.txcs (fun k => k == 3 || k == 4)).filter (fun t => s.fld F.MPORT_TXC_SRC_SRC t % 1024 == o)).foldl (fun u t =>
      let x := u.txc t
      let f := u.fld F.MPORT_TXC_CFG_FMT t
      if u.fld F.MPORT_TXC_CFG_TYPE t = 3 then u.setTxc t { x with anc := x.anc ++ l.anc.map (fun a => (l.line, a)) }
      else
        let pid := if Config.pidLine f 0 l.line then some (Config.pidFor f 0) else none
        u.setTxc t { x with bytes := x.bytes ++ Config.sdiBytes f l.line l.words pid (l.anc.map (·.words)) }) s

/-- The samples of a period go to the audio senders. -/
def txcAudio (s : State) : State :=
  (s.txcs (fun k => k == 1 || k == 2)).foldl (fun u t =>
    let x := u.txc t
    let base := u.fld F.MPORT_TXC_SRC_SRC t
    let fs96 := u.flag F.MPORT_TXC_SRC_FS96 t
    let half (h : Nat) : List AudSample := (List.range (u.fld F.MPORT_TXC_SRC_COUNT t)).map (fun i =>
      u.outSample (if fs96 then 2 * (base + i) + h else base + i))
    let new := if fs96 then [half 0, half 1] else [half 0]
    let first := if x.audio = [] then (if fs96 then 2 * u.aud.period else u.aud.period) else x.first
    u.setTxc t { x with audio := x.audio ++ new, first := first }) s

/-! ### Host frames (R139, R145) -/

/-- The next scheduled instant of a context's packets. -/
def State.nextPaced (s : State) (t : Nat) : Option Int :=
  match s.fld F.MPORT_TXC_CFG_TYPE t with
  | 0 =>
    let f := s.fld F.MPORT_TXC_CFG_FMT t
    let n := fmtFields f * s.fieldPackets t f
    match (s.txc t).sent with
    | some (k, j) => if j + 1 < n then s.packetInstant t k (j + 1) else s.packetInstant t (k + 1) 0
    | none => (s.ownerTd (s.fld F.MPORT_TXC_SRC_SRC t % 1024)).bind (fun d => (s.frameNow d).bind (fun x => s.packetInstant t x.2 0))
  | 1 => some ((periodStart (((s.txc t).first + s.txcSamples t) / (if s.flag F.MPORT_TXC_SRC_FS96 t then 2 else 1)) : Nat) : Int)
  | 2 => some ((periodStart (((s.txc t).first + s.txcSamples t) / (if s.flag F.MPORT_TXC_SRC_FS96 t then 2 else 1)) : Nat) : Int)
  | 4 => if 1376 ≤ (s.txc t).bytes.length then some s.etFull else none
  | _ => none

/-- A host frame of `len` bytes on the wire can end before the port's next paced packet. -/
def State.hostFits (s : State) (p len : Nat) : Bool :=
  let end_ := s.etFull + (ceilDiv ((len + 20) * 8) (max 1 (s.portGbps p)) : Nat)
  ((List.range 2048).filter (fun t => s.txcOn t p)).all (fun t =>
    match s.nextPaced t with | some x => decide (end_ ≤ x) || decide (x < s.etFull) | none => true)

/-- The frame at the head of a port's transmit ring is sent, or discarded as oversize (R139, R145). -/
def hostSend (p : Nat) (s : State) : State :=
  let head := s.fld F.MPORT_HTX_HEAD_IDX p
  if !s.portUp p ∨ s.portPaused p ∨ head = s.fld F.MPORT_HTX_TAIL_IDX p then s
  else
    let slot := if s.flag F.MPORT_HTX_CFG_SLOT p then 10240 else 2048
    let a := s.fld F.MPORT_HTX_CFG_BASE_HI p * 2 ^ 32 + s.fld F.MPORT_HTX_BASE_LO_BASE p * 64 + head * slot
    let d := leNat (s.load a 4)
    let len := d % 2 ^ 14
    let next (t : State) : State := t.setFld F.MPORT_HTX_HEAD_IDX p ((head + 1) % 2 ^ t.fld F.MPORT_HTX_CFG_SIZE p)
    if maxFrame (s.flag F.MPORT_CFG_JUMBO p) < len + 4 then next (s.bump .MPORT_TX_OVERSIZE p)
    else if !s.hostFits p (max 64 (len + 4)) then s
    else
      let s1 := s.send (s.portLane p) (macFrame (s.load (a + 32) len))
      let s2 := s1.bump64 .MPORT_TX_FRAMES_LO .MPORT_TX_FRAMES_HI p
      next (if bit d 16 then tsqAppend p (BitVec.ofNat 16 (leNat (s.load (a + 4) 2))) s2 else s2)

/-! ### Registers (R137, R151, R165) -/

/-- A ring configuration names 4 to 12 as its SIZE. -/
def ringSizeBad (f : Fld) (v : Word) : Bool := decide (f.of v < 4) || decide (12 < f.of v)

/-- A write of an MPORT register. -/
def writeMport (r : RegName) (i : Nat) (v : Word) (s : State) : State :=
  let held := s.flag F.MPORT_RXC_CFG_EN i
  match r with
  | .MPORT_CFG => writePortCfg i v s
  | .MPORT_RXC_CFG => writeRxcCfg i v s
  | .MPORT_RXC_DST => guardedWrite (held && v != s.reg r i) r i v s
  | .MPORT_RXC_CHK => guardedWrite ((held && v != s.reg r i) || F.MPORT_RXC_CHK_TIMEOUT.of v == 0) r i v s
  | .MPORT_RXC_SSRC => guardedWrite (held && v != s.reg r i) r i v s
  | .MPORT_RXC_AUD => guardedWrite (held && v != s.reg r i) r i v s
  | .MPORT_MRG_CFG => writeMrgCfg i v s
  | .MPORT_MRG_DELAY => guardedWrite (decide (F.MPORT_MRG_DELAY_DELAY.of v < 10) || decide (30000 < F.MPORT_MRG_DELAY_DELAY.of v)) r i v s
  | .MPORT_TXC_CFG => writeTxcCfg i v s
  | .MPORT_HRX_CFG => guardedWrite (ringSizeBad F.MPORT_HRX_CFG_SIZE v) r i v s
  | .MPORT_HTX_CFG => guardedWrite (ringSizeBad F.MPORT_HTX_CFG_SIZE v) r i v s
  | _ => plainWrite r i v s

/-- The source of a context is present: its VOUT's, or a valid sample among its channels. -/
def State.txcPresent (s : State) (t : Nat) : Bool :=
  let src := s.fld F.MPORT_TXC_SRC_SRC t
  if s.fld F.MPORT_TXC_CFG_TYPE t = 1 ∨ s.fld F.MPORT_TXC_CFG_TYPE t = 2 then
    (List.range (s.fld F.MPORT_TXC_SRC_COUNT t)).any (fun i =>
      !(s.outSample (if s.flag F.MPORT_TXC_SRC_FS96 t then 2 * (src + i) else src + i)).v)
  else match s.xpt.out.find? (src % 1024) with | some l => l.present | none => false

/-- The MPORT registers that show live values (R165). -/
def State.mportLive (s : State) (r : RegName) (i : Nat) : Option Word :=
  match r with
  | .MPORT_TX_LOAD => some (BitVec.ofNat 32 (s.portLoad i none % 2 ^ 20))
  | .MPORT_TXC_STAT =>
    let on := s.flag F.MPORT_TXC_CFG_EN i
    some (BitVec.ofNat 32 (b2n on + 2 * b2n (on && s.txcPresent i)))
  | _ => none

/-- The live sources of MPORT (R165). -/
def State.mportFlive (s : State) : Word :=
  let ports := (List.range 128).filter (fun p => s.flag F.MPORT_CFG_EN p)
  let ctxs := (List.range 4096).filter (fun c => s.flag F.MPORT_RXC_CFG_EN c)
  let full (p : Nat) : Bool := (s.fld F.MPORT_HRX_HEAD_IDX p + 1) % 2 ^ s.fld F.MPORT_HRX_CFG_SIZE p == s.fld F.MPORT_HRX_TAIL_IDX p
  let lost := ((List.range 1024).filter (fun m => s.flag F.MPORT_MRG_CFG_EN m)).any (fun m =>
    !s.flag F.MPORT_MRG_STAT_A_OK m || !s.flag F.MPORT_MRG_STAT_B_OK m)
  BitVec.ofNat 32 (b2n (ports.any (fun p => !s.flag F.MPORT_STAT_LINK_UP p)) + 4 * b2n (ports.any full)
    + 8 * b2n (ctxs.any (fun c => s.rxcState c != 2)) + 16 * b2n (ctxs.any (fun c => s.rxcState c == 3)) + 64 * b2n lost)

/-! ### Meanings -/

/-- LINE_READ (R185 to R187): the senders of the VOUT take the line. -/
def execLineRead (o : Fin 1024) (frame line : Nat) (offsets : List Int) (bad : List WordFault) (s : State) : Out :=
  .next (txcLine o (readLine o frame line offsets bad s))

/-- AUDIO_PERIOD (R273): the audio senders take the period's samples. -/
def execAudioPeriod (s : State) : Out := .next (txcAudio (audPeriod s))

/-- HOST_FRAME_TX (R145). -/
def execHostFrameTx (p : Fin 128) (s : State) : Out := .next (hostSend p s)

/-- TXC_ENABLE (R160). -/
def execTxcEnable (t : Fin 2048) (v : Word) (s : State) : Out := .next (writeTxcCfg t (v ||| 1#32) s)

/-- MEDIA_PACKET_TX (R161). -/
def execMediaPacketTx (t : Fin 2048) (frame k : Nat) (s : State) : Out := .next (mediaSend t frame k s)

end Sys2Proof.Machine
end

