-- ==== Sys2Proof/Machine/Mgmt.lean ====
section
/-!
DEFINITION. Management ports (chapter 15): line modes and links (R362), the rings in the management buffers (R363, R364),
reception (R365, R366), transmission and pause (R367), Darkroom mode (R370), the registers (R372); and the passing of PTP
messages to a port's receive queue (R61).
-/

namespace Sys2Proof.Machine

/-! ### Rings (R363) -/

/-- The first byte of port `n`'s part of the management buffers. -/
def mgbBase (n : Nat) : Nat := 0x200E800000 + n * 0x20000

/-- Slot size of a port. -/
def State.mgSlot (s : State) (n : Nat) : Nat := if s.flag F.MGMT_CFG_JUMBO n then 10240 else 2048

/-- Receive slots of a port. -/
def State.mgRxSlots (s : State) (n : Nat) : Nat := if s.flag F.MGMT_CFG_JUMBO n then 9 else 48

/-- Transmit slots of a port. -/
def State.mgTxSlots (s : State) (n : Nat) : Nat := if s.flag F.MGMT_CFG_JUMBO n then 3 else 16

/-- The receive ring of a port is full. -/
def State.mgRxFull (s : State) (n : Nat) : Bool :=
  (s.fld F.MGMT_RX_HEAD_IDX n + 1) % s.mgRxSlots n == s.fld F.MGMT_RX_TAIL_IDX n

/-- A frame is stored in the receive ring, or dropped when it is full (R363 to R365). -/
def mgStore (n src m : Nat) (f : EthFrame) (s : State) : State :=
  if s.mgRxFull n then (s.bump .MGMT_RX_HOST_DROP n).raise Src.MGMT_HOST_DROP
  else
    let head := s.fld F.MGMT_RX_HEAD_IDX n
    let d := rxDescriptor f.bytes.length src f.tagged m (s.frameStamp (128 + n)) 0
    let s1 := (s.store (mgbBase n + head * s.mgSlot n) (d ++ f.bytes)).setFld F.MGMT_RX_HEAD_IDX n ((head + 1) % s.mgRxSlots n)
    if src = 0 then s1.bump64 .MGMT_RX_FRAMES_LO .MGMT_RX_FRAMES_HI n else s1

/-! ### Receiving (R365, R366) -/

/-- The lowest enabled address slot that a destination equals. -/
def State.mgMatch (s : State) (n dst : Nat) : Option Nat :=
  (List.range 8).find? (fun k => s.flag F.MGMT_ADDR_HI_EN (8 * n + k)
    && (s.reg .MGMT_ADDR_LO (8 * n + k)).toNat + s.fld F.MGMT_ADDR_HI_ADDR (8 * n + k) * 2 ^ 32 == dst)

/-- The pause quantum of a mode in tenths of a nanosecond (R362). -/
def pauseQuantum10 (mode : Nat) : Nat := match mode with | 3 => 2048 | 4 => 512 | _ => 5120

/-- A pause of `q` quanta (R367). -/
def mgPause (n q : Nat) (s : State) : State :=
  let s1 := s.bump .MGMT_RX_PAUSE n
  if q = 0 then s1.setFlag F.MGMT_STAT_PAUSED n false
  else
    let t := s1.now + ceilDiv (q * pauseQuantum10 (s1.fld F.MGMT_CFG_MODE n)) 10
    { s1 with mgmt := { s1.mgmt with pause := s1.mgmt.pause.set n t } }.setFlag F.MGMT_STAT_PAUSED n true

/-- The counter of a cause of R138. -/
def mgCounter (k : Nat) : RegName :=
  match k with | 1 => .MGMT_RX_ALIGN | 2 => .MGMT_RX_RUNT | 3 => .MGMT_RX_OVERSIZE | _ => .MGMT_RX_FCS

/-- A frame for the address filter (R365 orders 4 and 5). -/
def mgFilter (n : Nat) (f : EthFrame) (s : State) : State :=
  if f.type = 0x8808 then s.bump .MGMT_RX_FILTER n
  else match s.mgMatch n f.dst with
    | some k => mgStore n 0 k f s
    | none => if f.dst = 0xFFFFFFFFFFFF ∧ s.flag F.MGMT_CFG_BCAST n then mgStore n 0 8 f s else s.bump .MGMT_RX_FILTER n

/-- A frame arrives on a management port (R365). -/
def mgFrameIn (n : Nat) (f : EthFrame) (s : State) : State :=
  if !s.macUp (128 + n) then s
  else
    let k := f.fault (s.flag F.MGMT_CFG_JUMBO n)
    if k ≠ 0 then (s.bump (mgCounter k) n).raise Src.MGMT_BAD_FRAME
    else match f.pause with
      | some q => if f.dst = 0x0180C2000001 ∨ (s.mgMatch n f.dst).isSome then mgPause n q s else mgFilter n f s
      | none =>
        let ptp := if (s.ptpPlaces (128 + n)).isEmpty then none else f.ptp (s.reg .MGMT_IPV4 n).toNat
        match ptp with
        | some bs =>
          let (host, t) := ptpReceive (128 + n) bs s
          if host then mgStore n 2 0 f t else t
        | none => mgFilter n f s

/-- The pause count runs out (R367). -/
def mgPauseOver (n : Nat) (s : State) : State :=
  if s.flag F.MGMT_STAT_PAUSED n then (passToNow (s.mgmt.pause.get 0 n) s).setFlag F.MGMT_STAT_PAUSED n false else s

/-! ### Transmitting (R367) -/

/-- The next unit leaves a port: a hardware PTP message that waits, else the frame at the head of its ring. -/
def mgSend (n : Nat) (s : State) : State :=
  if !s.macUp (128 + n) ∨ s.flag F.MGMT_STAT_PAUSED n then s
  else match s.ptpWaiting (128 + n) with
    | d :: t => sendDelayReq d (128 + n) (s.setPtpWaiting (128 + n) t)
    | [] =>
      let head := s.fld F.MGMT_TX_HEAD_IDX n
      if head = s.fld F.MGMT_TX_TAIL_IDX n then s
      else
        let a := mgbBase n + 0x18000 + head * s.mgSlot n
        let d := leNat (s.load a 4)
        let len := d % 2 ^ 14
        let next (t : State) : State := t.setFld F.MGMT_TX_HEAD_IDX n ((head + 1) % t.mgTxSlots n)
        if maxFrame (s.flag F.MGMT_CFG_JUMBO n) < len + 4 then next ((s.bump .MGMT_TX_OVERSIZE n).raise Src.MGMT_TX_OVERSIZE)
        else
          let s1 := (s.send (128 + n) (macFrame (s.load (a + 32) len))).bump64 .MGMT_TX_FRAMES_LO .MGMT_TX_FRAMES_HI n
          next (if bit d 16 then tsqAppend (128 + n) (BitVec.ofNat 16 (leNat (s.load (a + 4) 2))) s1 else s1)

/-! ### Links (R362) -/

/-- The link of a port falls. -/
def mgDown (n : Nat) (s : State) : State :=
  if s.flag F.MGMT_STAT_LINK_UP n then
    (s.setFlds n [(F.MGMT_STAT_LINK_UP, 0), (F.MGMT_STAT_AN_DONE, 0), (F.MGMT_STAT_LINK_DOWN_S, 1)]).raise Src.MGMT_LINK_DOWN
  else s

/-- The PCS has synchronised: the link comes up, once auto-negotiation has completed where it applies; an SGMII partner at
another speed or half duplex leaves it down. -/
def mgUp (n : Nat) (slow : Bool) (s : State) : State :=
  if !s.flag F.MGMT_CFG_EN n then s
  else
    let mode := s.fld F.MGMT_CFG_MODE n
    let an := s.flag F.MGMT_CFG_AN n && (mode == 1 || mode == 2)
    let rest := s.mgmt.anBad.filter (· != n)
    if an && mode == 2 && slow then { s with mgmt := { s.mgmt with anBad := n :: rest } }.raise Src.MGMT_AN_FAIL
    else { s with mgmt := { s.mgmt with anBad := rest } }.setFlds n [(F.MGMT_STAT_LINK_UP, 1), (F.MGMT_STAT_AN_DONE, b2n an)]

/-! ### Registers (R362, R363, R370, R372) -/

/-- A write of MGMT_CFG. -/
def writeMgCfg (n : Nat) (v : Word) (s : State) : State :=
  let was := s.flag F.MGMT_CFG_EN n
  let on := F.MGMT_CFG_EN.of v == 1
  let mode := F.MGMT_CFG_MODE.of v
  let locked := was && (changes F.MGMT_CFG_MODE s n v || changes F.MGMT_CFG_AN s n v || changes F.MGMT_CFG_JUMBO s n v)
  if locked || (on && (mode == 0 || decide (4 < mode))) || (n == 1 && s.flag F.RST_STAT_DARKROOM 0) then s.reject .MGMT
  else
    let t := plainWrite .MGMT_CFG n v s
    if was && !on then mgDown n t else t

/-- A write of an MGMT register. -/
def writeMgmt (r : RegName) (i : Nat) (v : Word) (s : State) : State :=
  match r with
  | .MGMT_CFG => writeMgCfg i v s
  | .MGMT_RX_TAIL => guardedWrite (decide (s.mgRxSlots i ≤ F.MGMT_RX_TAIL_IDX.of v)) r i v s
  | .MGMT_TX_TAIL => guardedWrite (decide (s.mgTxSlots i ≤ F.MGMT_TX_TAIL_IDX.of v)) r i v s
  | _ => plainWrite r i v s

/-- MGMT_STAT shows the quanta left of a pause. -/
def State.mgmtLive (s : State) (r : RegName) (i : Nat) : Option Word :=
  match r with
  | .MGMT_STAT =>
    let left := if s.flag F.MGMT_STAT_PAUSED i then
      ceilDiv ((s.mgmt.pause.get 0 i - s.now) * 10) (pauseQuantum10 (s.fld F.MGMT_CFG_MODE i)) else 0
    some (F.MGMT_STAT_PAUSE_LEFT.put (s.reg r i) left)
  | _ => none

/-- The live sources of MGMT (R372). -/
def State.mgmtFlive (s : State) : Word :=
  let on := (List.range 2).filter (fun n => s.flag F.MGMT_CFG_EN n)
  BitVec.ofNat 32 (b2n (on.any (fun n => !s.flag F.MGMT_STAT_LINK_UP n)) + 2 * b2n (on.any s.mgmt.anBad.contains) + 8 * b2n (on.any (fun n => s.mgRxFull n)))

/-! ### PTP messages for software (R61) -/

/-- A PTP message that no domain handles goes to the receive queue of its port. -/
def ptpToHost (p : Nat) (frame : List Byte) (s : State) : State :=
  if !s.macUp p then s
  else if p < 128 then hostRx p 2 0 ⟨frame, false⟩ s
  else mgStore (p - 128) 2 0 ⟨frame, false⟩ s

/-! ### Meanings -/

/-- PTP_OTHER_MESSAGE (R61). -/
def execPtpOtherMessage (p : Fin 130) (frame : List Byte) (s : State) : Out := .next (ptpToHost p frame s)

/-- MGMT_ENABLE (R362). -/
def execMgmtEnable (n : Fin 2) (v : Word) (s : State) : Out := .next (writeMgCfg n (v ||| 1#32) s)

/-- MGMT_FRAME_RX (R365). -/
def execMgmtFrameRx (n : Fin 2) (f : EthFrame) (s : State) : Out := .next (mgFrameIn n f s)

/-- MGMT_PAUSE_END (R367). -/
def execMgmtPauseEnd (n : Fin 2) (s : State) : Out := .next (mgPauseOver n s)

/-- MGMT_FRAME_TX (R367). -/
def execMgmtFrameTx (n : Fin 2) (s : State) : Out := .next (mgSend n s)

/-- MGMT_LINK_DOWN (R362). -/
def execMgmtLinkDown (n : Fin 2) (s : State) : Out := .next (mgDown n s)

/-- MGMT_LINK_UP (R362). -/
def execMgmtLinkUp (n : Fin 2) (partnerSlow : Bool) (s : State) : Out := .next (mgUp n partnerSlow s)

end Sys2Proof.Machine
end

