-- ==== Sys2Proof/Machine/RefLive.lean ====
section
/-!
DEFINITION. The registers of the REF and PTP blocks that show live values (R59, R83).
-/

namespace Sys2Proof.Machine

/-- REF_SRC_STAT: CLEAN and QL follow the source (R39, R41). -/
def State.srcStatWord (s : State) (n : Nat) : Word :=
  F.REF_SRC_STAT_QL.put (F.REF_SRC_STAT_CLEAN.put (s.reg .REF_SRC_STAT n) (b2n (s.sourceClean n))) (s.sourceQl n)

/-- A live REF register, if it is one. -/
def State.refLive (s : State) (r : RegName) (i : Nat) : Option Word :=
  match r with
  | .REF_SRC_STAT => some (s.srcStatWord i)
  | _ => none

/-- PTP_TSQ_TAG: the head of a time-stamp queue. -/
def State.tsqWord (s : State) (p : Nat) : Word :=
  match s.ptp.tsq.get [] p with
  | [] => 0
  | (tag, _) :: _ => BitVec.ofNat 32 (tag.toNat + 2 ^ 16)

/-- A live PTP register, if it is one. -/
def State.ptpLive (s : State) (r : RegName) (i : Nat) : Option Word :=
  match r with
  | .PTP_ET_STAT => some (F.PTP_ET_STAT_SLEWING.put (s.reg r i) (b2n (s.ptp.resid != 0)))
  | .PTP_ET_LO => some (BitVec.ofNat 32 s.et)
  | .PTP_ET_RESID_LO => some (BitVec.ofInt 32 s.ptp.resid)
  | .PTP_DOM_SEC_LO => some (BitVec.ofNat 32 ((s.dom i).time / 1000000000))
  | .PTP_TSQ_TAG => some (s.tsqWord i)
  | _ => none

end Sys2Proof.Machine
end

