-- ==== Sys2Proof/Machine/Live.lean ====
section
/-!
DEFINITION. What a register shows (R2, R3, R517): the live registers of every block, FLIVE (R424) and FESC_TIMER, and the
word that a read returns before any effect of the read.
-/

namespace Sys2Proof.Machine

/-! ### The bus matrix (R360) -/

/-- The bit of a port in BUS_STAT.LOCKED. -/
def State.lockedPorts (s : State) : Nat := s.bus.lock.keys.foldl (fun a p => a + 2 ^ p) 0

/-- The live registers of BUS. -/
def State.busLive (s : State) (r : RegName) (_i : Nat) : Option Word :=
  match r with
  | .BUS_STAT => some (BitVec.ofNat 32 (s.bus.stalled.foldl (fun a m => a + 2 ^ m) 0 + s.lockedPorts * 2 ^ 8))
  | _ => none

/-- The live sources of BUS_FLIVE. -/
def State.busFlive (s : State) : Word :=
  (if s.bus.stalled != [] then Src.BUS_DECODE_STALL.mask else 0)
    ||| (if (List.range 8).any (fun c => s.fld F.BUS_DMA_STAT_STATE c == 3) then Src.BUS_DMA_ERR.mask else 0)

/-! ### Causes present now (R424) -/

/-- A source's bit while a cause is present. -/
def liveIf (c : Bool) (x : Src) : Word := if c then x.mask else 0

/-- The live sources of REF_FLIVE (R57): those of the pinned reference, the loop's state, and disagreements. -/
def State.refFlive (s : State) : Word :=
  let l := s.loop
  let pin := s.refsel
  let disagree := sourcePairs.any (fun p => s.disagrees p.1 p.2)
  liveIf (l == 4) Src.REF_LOCK ||| liveIf (decide (1 ≤ l) && decide (l ≤ 3)) Src.REF_ACQUIRE ||| liveIf (l == 5) Src.REF_HOLDOVER
    ||| liveIf (l == 0) Src.REF_FREERUN ||| liveIf (pin != 7 && !s.qualified pin) Src.REF_SRC_LOST
    ||| liveIf (pin != 7 && s.flag F.REF_SRC_STAT_DRIFT_DQ pin) Src.REF_DRIFT ||| liveIf disagree Src.REF_DISAGREE

/-- The live sources of PTP_FLIVE (R82). -/
def State.ptpFlive (s : State) : Word :=
  let full := s.ptp.tsq.entries.any (fun e => e.2.length == 64)
  liveIf (s.ptpState 0 == 3) Src.PTP_A_LOCK ||| liveIf (s.ptpState 0 == 4) Src.PTP_A_HOLDOVER
    ||| liveIf (s.ptpState 1 == 3) Src.PTP_B_LOCK ||| liveIf (s.ptpState 1 == 4) Src.PTP_B_HOLDOVER
    ||| liveIf s.etValid Src.PTP_ET_SET ||| liveIf (decide (1000000000 < s.ptp.resid.natAbs)) Src.PTP_ET_FAR
    ||| liveIf full Src.PTP_TSQ_OVF

/-- A lane's eye margins, where a measurement has been made, are below their limits (R93). -/
def State.eyeLow (s : State) (n : Nat) : Bool :=
  let h := s.fld F.LANE_EYE_EYE_H n
  let v := s.fld F.LANE_EYE_EYE_V n
  s.flag F.LANE_STAT_CDR_LOCK n && (h != 0 || v != 0)
    && (decide (h < s.fld F.LANE_EYE_CFG_WARN_H 0) || decide (v < s.fld F.LANE_EYE_CFG_WARN_V 0))

/-- The live sources of LANE_FLIVE (R113). A receiver that has a protocol and a signal has lost its CDR lock while it has none. -/
def State.laneFlive (s : State) : Word :=
  let anyLane (p : Nat → Bool) : Bool := (List.range 128).any p
  let unlocked (n : Nat) : Bool :=
    s.fld F.LANE_CFG_RX_PROTO n != 0 && !s.flag F.LANE_STAT_LOS n && !s.flag F.LANE_STAT_CDR_LOCK n
  let lost (q : Nat) : Bool := (List.range 3).any (fun k => decide ((s.quadOf q).phase k = .lost))
  liveIf (anyLane (fun n => s.flag F.LANE_STAT_LOS n)) Src.LANE_LOS ||| liveIf (anyLane unlocked) Src.LANE_CDR_UNLOCK
    ||| liveIf ((List.range 32).any lost) Src.LANE_PLL_LOST ||| liveIf (anyLane s.eyeLow) Src.LANE_EYE_LOW
    ||| liveIf (anyLane (fun n => (s.rxOf n).adapting && (s.rxOf n).late)) Src.LANE_ADAPT_FAIL

/-- The live sources of ULINK_FLIVE (R114). -/
def State.ulinkFlive (s : State) : Word :=
  let on (l : Nat) : Bool := s.flag F.ULINK_CFG_EN l
  let anyLink (p : Nat → Bool) : Bool := (List.range 32).any p
  liveIf (anyLink (fun l => s.linkState l == 5)) Src.ULINK_LINK_UP
    ||| liveIf (anyLink (fun l => on l && s.linkState l != 5)) Src.ULINK_LINK_DOWN
    ||| liveIf (anyLink (fun l => on l && s.flag F.ULINK_CFG_MARK_EN l && !s.flag F.ULINK_STAT_MARK_OK l)) Src.ULINK_MARK_LOST
    ||| liveIf (anyLink (fun l => decide (3 ≤ s.linkState l) && (s.link l).badVersion)) Src.ULINK_PEER_MISMATCH

/-- The live sources of SDI_FLIVE (R137). -/
def State.sdiFlive (s : State) : Word :=
  let anyLane (p : Nat → Bool) : Bool := (List.range 128).any p
  liveIf (anyLane (fun n => s.flag F.SDI_RX_CFG_EN n && s.sdiRxState n != 2)) Src.SDI_RX_UNLOCK
    ||| liveIf (anyLane (fun n => s.sdiRxState n == 3)) Src.SDI_FMT_MISMATCH
    ||| liveIf (anyLane (fun n => s.flag F.SDI_RX_CFG_EN n && (s.rxState n).skewed)) Src.SDI_SKEW
    ||| liveIf (anyLane (fun n => s.flag F.SDI_TX_STAT_ROUTED n && !s.flag F.SDI_TX_STAT_SRC_PRESENT n)) Src.SDI_TX_NO_SOURCE

/-- The live sources of XPT_FLIVE (R194). -/
def State.xptFlive (s : State) : Word :=
  liveIf (decide (s.cap 0 < 3200000000) || decide (s.cap 1 < 3200000000)) Src.XPT_CAP_LOST
    ||| liveIf (s.charged.any (fun i => i.r.demoted)) Src.XPT_DEMOTE
    ||| liveIf (s.ovlReduced 0 || s.ovlReduced 1) Src.XPT_OVL_REDUCED
    ||| liveIf (s.xpt.vin.entries.any (fun e => e.2.noStore)) Src.XPT_NO_STORE

/-- The live sources of AUD_FLIVE (R293). -/
def State.audFlive (s : State) : Word :=
  liveIf ((List.range 64).any (fun c => s.flag F.AUD_ASRC_CFG_EN c && !s.flag F.AUD_ASRC_STAT_LOCKED c)) Src.AUD_ASRC_UNLOCK
    ||| liveIf ((List.range 16).any (fun q => s.flag F.AUD_SP_CFG_EN q && s.flag F.AUD_SP_CFG_RX_EN q
          && !s.flag F.AUD_SP_STAT_RX_LOCK q)) Src.AUD_SP_LOST
    ||| liveIf (s.aud.group.entries.any (fun g => g.2.members.entries.any (fun m => m.2.rateMis))) Src.AUD_RATE_MIS

/-- FLIVE of a block: the sources whose cause is present (R424). -/
def State.flive (s : State) (b : Blk) : Word :=
  match b with
  | .RST => s.rstFlive
  | .CLK => s.clkFlive
  | .PWR => s.pwrFlive
  | .BUS => s.busFlive
  | .CPU => s.cpuFlive
  | .VAULT => s.vaultFlive
  | .BIST => s.bistFlive
  | .IDM => s.idmFlive
  | .CAL => s.calFlive
  | .FWU => s.fwuFlive
  | .GPIO => liveIf s.alertLow Src.GPIO_ALERT
  | .TTB => s.ttbFlive
  | .REF => s.refFlive
  | .PTP => s.ptpFlive
  | .MGMT => s.mgmtFlive
  | .LANE => s.laneFlive
  | .SDI => s.sdiFlive
  | .MPORT => s.mportFlive
  | .FLOW => s.flowFlive
  | .XPT => s.xptFlive
  | .CUE => s.cueFlive
  | .AUD => s.audFlive
  | .WCOMP => s.wcompFlive
  | .WSCAN => s.wscanFlive
  | .HBM => s.hbmFlive
  | .ULINK => s.ulinkFlive

/-- A block's fault register. -/
def State.fltReg (s : State) (b : Blk) (k : FltReg) : Word :=
  let f := s.faults b
  match k with
  | .FSTAT => f.fstat
  | .FREAL => f.freal
  | .FLIVE => s.flive b
  | .FEN => f.fen
  | .FFORCE => 0
  | .FESC_CFG => f.cfg
  | .FESC_TIMER => s.escTimer b

/-! ### Live registers of the other blocks -/

/-- LANE_STAT.TX_ACTIVE follows the transmitter. -/
def State.laneLive (s : State) (r : RegName) (n : Nat) : Option Word :=
  match r with
  | .LANE_STAT => some (F.LANE_STAT_TX_ACTIVE.put (s.reg r n) (b2n (s.txActive n)))
  | _ => none

/-- The high halves that a read of their low halves latches. -/
def State.ptpHigh (s : State) (r : RegName) (i : Nat) : Option Word :=
  match r with
  | .PTP_ET_RESID_HI => some (BitVec.ofInt 32 (s.ptp.resid / 2 ^ 32))
  | .PTP_DOM_SEC_HI => some (BitVec.ofNat 32 ((s.dom i).time / 1000000000 / 2 ^ 32 % 2 ^ 16))
  | .PTP_DOM_NS => some (BitVec.ofNat 32 ((s.dom i).time % 1000000000))
  | _ => s.ptpLive r i

/-- HBM_STAT but for USE, which a read gives. -/
def State.hbmLive (s : State) (r : RegName) (i : Nat) : Option Word :=
  match r with
  | .HBM_STAT => some (s.hbmStat i 0)
  | _ => none

/-- The word of a register whose bits follow live state. -/
def State.live (s : State) (r : RegName) (i : Nat) : Option Word :=
  match r.blk with
  | .RST => s.rstLive r i
  | .CLK => s.clkLive r i
  | .PWR => s.pwrLive r i
  | .BUS => s.busLive r i
  | .CPU => s.cpuLive r i
  | .VAULT => s.vaultLive r i
  | .BIST => none
  | .IDM => none
  | .CAL => s.calLive r i
  | .FWU => s.fwuLive r i
  | .GPIO => s.gpioLive r i
  | .TTB => s.ttbLive r i
  | .REF => s.refLive r i
  | .PTP => s.ptpHigh r i
  | .MGMT => s.mgmtLive r i
  | .LANE => s.laneLive r i
  | .SDI => s.sdiLive r i
  | .MPORT => s.mportLive r i
  | .FLOW => s.flowLive r
  | .XPT => s.xptLive r i
  | .CUE => s.cueLive r i
  | .AUD => s.audLive r i
  | .WCOMP => s.wcompLive r i
  | .WSCAN => s.wscanLive r i
  | .HBM => s.hbmLive r i
  | .ULINK => s.ulinkLive r i

/-- The bits of a register that a read returns: its fields but those of type WO (R2, R3). -/
def readMask (r : RegName) : Word := r.bitsWhere (fun f => decide (f.ty ≠ .wo))

/-- The word that a register shows. -/
def State.shown (s : State) (r : RegName) (i : Nat) : Word := (s.live r i).getD (s.reg r i) &&& readMask r

end Sys2Proof.Machine
end

