-- ==== Sys2Proof/Machine/Regs.lean ====
section
/-!
DEFINITION. Register space (R2 to R6, R29 to R31, R350, R516): which register an address names, what a read returns and does,
and what a write does, block by block.
-/

namespace Sys2Proof.Machine

/-! ### Addresses (R29 to R31) -/

/-- The elements of a register. -/
def regCount (r : RegName) : Nat := r.info.dims.foldl (fun a d => a * d.1) 1

/-- The flat index of an offset in a register's index dimensions, the last index running fastest. -/
def dimIndex : List (Nat × Nat) → Nat → Option Nat
  | [], rel => if rel = 0 then some 0 else none
  | (n, stride) :: rest, rel =>
    if rel / stride < n then
      (dimIndex rest (rel % stride)).map (fun j => rel / stride * rest.foldl (fun a d => a * d.1) 1 + j)
    else none

/-- The fault register at a place of the seven. -/
def fltAt : Nat → Option FltReg
  | 0 => some .FSTAT
  | 4 => some .FREAL
  | 8 => some .FLIVE
  | 12 => some .FEN
  | 16 => some .FFORCE
  | 20 => some .FESC_CFG
  | 24 => some .FESC_TIMER
  | _ => none

/-- The offset of a fault register among the seven. -/
def fltPlace : FltReg → Nat
  | .FSTAT => 0
  | .FREAL => 4
  | .FLIVE => 8
  | .FEN => 12
  | .FFORCE => 16
  | .FESC_CFG => 20
  | .FESC_TIMER => 24

/-- The bus address of a register's element. -/
def regAddr (x : Reg) (i : Nat) : Nat :=
  match x with
  | .n r => r.addr i
  | .flt b k => 0x2000000000 + b.index * 0x1000000 + b.faultBase + fltPlace k

/-- The register at an offset of a block, with its flat index. -/
def regAt (b : Blk) (off : Nat) : Option (Reg × Nat) :=
  let flt := if b.faultBase ≤ off then fltAt (off - b.faultBase) else none
  match flt with
  | some k => some (.flt b k, 0)
  | none => (RegName.ofBlk b).findSome? (fun r =>
      if r.info.off ≤ off then (dimIndex r.info.dims (off - r.info.off)).map (fun i => (Reg.n r, i)) else none)

/-- The offset of a block's last register. -/
def lastOffset (b : Blk) : Nat :=
  (RegName.ofBlk b).foldl (fun a r => max a (r.info.off + dimOffset r.info.dims (regCount r - 1))) (b.faultBase + 24)

/-- The block of an index of register space (R30). -/
def blkOf (n : Nat) : Option Blk := Blk.all.find? (fun b => b.index == n)

/-! ### Reads (R2, R5, R83, R166, R410) -/

/-- The registers that a read of a register latches. -/
def latchedBy (r : RegName) : List RegName :=
  match r with
  | .PTP_ET_RESID_LO => [.PTP_ET_RESID_HI]
  | .PTP_DOM_SEC_LO => [.PTP_DOM_SEC_HI, .PTP_DOM_NS]
  | .AUD_PERIOD_LO => [.AUD_PERIOD_HI]
  | .BIST_LAST_DONE_LO => [.BIST_LAST_DONE_HI]
  | .BIST_LAST_EXP_LO => [.BIST_LAST_EXP_HI]
  | _ => match r.info.kind with
    | .ctrLo => (RegName.ofCode (r.code + 1)).toList
    | _ => []

/-- The read of a register without an effect of its own: a latched word is taken, and what the read latches is held. -/
def latchRead (r : RegName) (i : Nat) (s : State) : Word × State :=
  match s.latch.find? (regKey r i) with
  | some w => (w, { s with latch := s.latch.erase (regKey r i) })
  | none => (s.shown r i, { s with latch := (latchedBy r).foldl (fun m x => m.set (regKey x i) (s.shown x i)) s.latch })

/-- The word that a read gave to a master. -/
def answered (m : Nat) (s : State) : Word × State := (BitVec.ofNat 32 (s.resp.get .reset m).data, s)

/-- A master reads a register of a table: the word, and the state after the effects of the read. -/
def readName (m : Nat) (r : RegName) (i : Nat) (s : State) : Word × State :=
  match r with
  | .PTP_ET_LO => answered m (etReadTo m s)
  | .PTP_TSQ_TAG => answered m (tsqPopTo m i s)
  | .FLOW_RES => answered m (flowResTo m s)
  | .FLOW_AGED => answered m (flowAgedTo m s)
  | .RST_CAUSE => answered m (readCause m s)
  | .GPIO_IN => gpioLevels s
  | .HBM_STAT =>
    let (x, t) := s.freeNat
    (t.hbmStat i x, t)
  | _ => latchRead r i s

/-- A master reads a register; an element that the register does not have reads 0. -/
def readReg (m : Nat) (x : Reg) (i : Nat) (s : State) : Word × State :=
  match x with
  | .n r => if i < regCount r then readName m r i s else (0, s)
  | .flt b k => (s.fltReg b k, s)

/-! ### Writes (R2, R6, R516) -/

/-- A master writes a register of a table. -/
def writeName (m : Nat) (r : RegName) (i : Nat) (v : Word) (s : State) : State :=
  match r.blk with
  | .RST => writeRst m r i v s
  | .CLK => plainWrite r i v s
  | .PWR => writePwr r i v s
  | .BUS => writeBus r i v s
  | .CPU => writeCpu m r i v s
  | .VAULT => writeVault m r i v s
  | .BIST => writeBist r i v s
  | .IDM => writeIdm r i v s
  | .CAL => writeCal r i v s
  | .FWU => writeFwu m r i v s
  | .GPIO => writeGpio r i v s
  | .TTB => writeTtb r i v s
  | .REF => vaultSettle (writeRef r i v s)
  | .PTP => writePtp r i v s
  | .MGMT => writeMgmt r i v s
  | .LANE => if r = .LANE_TXEQ then writeTxeq i v s else writeLane r i v s
  | .SDI => writeSdi r i v s
  | .MPORT => writeMport r i v s
  | .FLOW => writeFlow r i v s
  | .XPT => writeXpt r i v s
  | .CUE => writeCue m r i v s
  | .AUD => writeAud r i v s
  | .WCOMP => writeWcomp m r i v s
  | .WSCAN => writeWscan r i v s
  | .HBM => writeHbm r i v s
  | .ULINK => writeUlink r i v s

/-- A master writes a register; an element that the register does not have ignores it. -/
def writeReg (m : Nat) (x : Reg) (i : Nat) (v : Word) (s : State) : State :=
  match x with
  | .n r => if i < regCount r then writeName m r i v s else s
  | .flt b k => writeFlt b k v s

/-- R353 denies the writes of DBG outside MANUFACTURE and MAINTENANCE. -/
def State.dbgDenied (s : State) (m : Nat) : Bool := m == 7 && !s.lcOpen

/-! ### The commands -/

/-- REGISTER_WRITE (R2): a 32-bit write of one register by a master. -/
def execRegisterWrite (m : Fin 8) (r : Reg) (i : Nat) (v : Word) (s : State) : Out :=
  .next (if s.dbgDenied m then denyAccess m true (regAddr r i) s else writeReg m r i v s)

/-- COUNTER_LO_READ (R5): a 32-bit read of one register by a master. -/
def execCounterLoRead (m : Fin 8) (r : RegName) (i : Nat) (s : State) : Out :=
  let (w, t) := readReg m (.n r) i s
  .next (t.respond m w.toNat)

end Sys2Proof.Machine
end

