-- ==== Sys2Proof/Machine/Bus.lean ====
section
/-!
DEFINITION. The bus matrix (R349 to R358): ports, transactions and their rights, grants, locked sequences, stalls, and the
transfers of DMA.
-/

namespace Sys2Proof.Machine

/-! ### Ports (R349) -/

/-- The number of a port: its bit in BUS_STAT.LOCKED less 8. -/
def portNum : BusPort → Nat
  | .reg => 0
  | .sram => 1
  | .hbm => 2
  | .flash => 3
  | .mgb => 4

/-- A byte address lies in [`lo`, `lo` + `n`). -/
def within (a lo n : Nat) : Bool := Nat.ble lo a && Nat.blt a (lo + n)

/-- An address of register space lies at or below its block's last register (R31). -/
def regMapped (a : Nat) : Bool :=
  match blkOf (a / 0x1000000 % 256) with
  | some b => Nat.blt (a % 0x1000000) (lastOffset b + 4)
  | none => false

/-- The port that serves an address; none for an unmapped one (R31). -/
def portAt (a : Nat) : Option BusPort :=
  if Nat.blt a 0x800000000 then some .hbm
  else if within a 0x1000000000 0x400000 then some .sram
  else if within a 0x1800000000 0x8000000 then some .flash
  else if within a 0x200E800000 0x40000 then some .mgb
  else if within a 0x2000000000 0x100000000 then (if regMapped a then some .reg else none)
  else if within a 0x3000000000 0x300000 then some .reg
  else none

/-- The bytes of a beat of a transaction. -/
def opBeat (x : BusOp) : Nat := 2 ^ x.size.val

/-- The beats of a transaction. -/
def opBeats (x : BusOp) : Nat := x.more.val + 1

/-- A transaction keeps R350: it does not cross a 4 KiB boundary. -/
def opFits (x : BusOp) : Bool := Nat.ble (x.addr.toNat % 4096 + opBeats x * opBeat x) 4096

/-- The port of a transaction; none where one of its beats has an unmapped address. -/
def opPort (x : BusOp) : Option BusPort :=
  if (List.range (opBeats x)).all (fun k => (portAt (x.addr.toNat + k * opBeat x)).isSome) then portAt x.addr.toNat else none

/-! ### Rights (R353, R470) -/

/-- An address lies in an HBM region that only the supervisor writes: one that is not the running image's (R470). -/
def State.regionLocked (s : State) (a : Nat) : Bool :=
  [0, 1].any (fun (k : Nat) => within a (regionBase k) 0x4000000 && s.fwu.running != some k)

/-- A target denies the access. -/
def State.denies (s : State) (m : Nat) (p : BusPort) (write : Bool) (a : Nat) : Bool :=
  let dbgRead := m == 7 && !s.lcOpen && (s.lc == 4 || (p != .reg && p != .sram))
  if write then p == .flash || s.dbgDenied m || (m != 5 && s.regionLocked a) else dbgRead

/-! ### Beats (R350) -/

/-- A narrow write, or a misaligned access, of register space. -/
def regAccess (m : Nat) (write : Bool) (a : Nat) (s : State) : State :=
  ((noteBusFault m 3 write a s).bump .BUS_REG_ACCESS_CNT 0).raise Src.BUS_REG_ACCESS

/-- The register element at an address of register space (R29, R30). -/
def regTarget (a : Nat) : Option (Reg × Nat) :=
  (blkOf (a / 0x1000000 % 256)).bind (fun b => regAt b (a % 0x1000000))

/-- A 32-bit read of register space; an offset that names no register reads 0. -/
def readAt (m a : Nat) (s : State) : Word × State :=
  match regTarget a with
  | some (x, i) => readReg m x i s
  | none => (0, s)

/-- A 32-bit write of register space. -/
def writeAt (m a : Nat) (v : Word) (s : State) : State :=
  match regTarget a with
  | some (x, i) => writeReg m x i v s
  | none => s

/-- A beat that reads register space: `n` bytes at an address. -/
def regRead (m a n : Nat) (s : State) : List Byte × State :=
  if a % n ≠ 0 then (List.replicate n 0, regAccess m false a s)
  else if n = 8 then
    let (lo, t) := readAt m a s
    let (hi, u) := readAt m (a + 4) t
    (leBytes 4 lo.toNat ++ leBytes 4 hi.toNat, u)
  else
    let (w, t) := readAt m (a / 4 * 4) s
    (((leBytes 4 w.toNat).drop (a % 4)).take n, t)

/-- A beat that writes register space. -/
def regWrite (m a : Nat) (bs : List Byte) (s : State) : State :=
  let n := bs.length
  if a % n ≠ 0 ∨ n < 4 then regAccess m true a s
  else
    let t := writeAt m a (BitVec.ofNat 32 (leNat (bs.take 4))) s
    if n = 8 then writeAt m (a + 4) (BitVec.ofNat 32 (leNat (bs.drop 4))) t else t

/-- A beat that reads `n` bytes at an address of a port. -/
def portRead (m : Nat) (p : BusPort) (a n : Nat) (s : State) : List Byte × State :=
  match p with
  | .reg => if Nat.blt a 0x3000000000 then regRead m a n s else (s.load a n, s)
  | .flash => (s.flash a n, s)
  | _ => (s.load a n, s)

/-- A beat that writes bytes at an address of a port. -/
def portWrite (m : Nat) (p : BusPort) (a : Nat) (bs : List Byte) (s : State) : State :=
  match p with
  | .reg => if Nat.blt a 0x3000000000 then regWrite m a bs s else cueMemWrite a bs s
  | .hbm => if (slRange a).isSome then writeSafelight m a bs s else s.store a bs
  | .flash => s
  | _ => s.store a bs

/-- The beats of a read, in ascending address order. -/
def readBeats (m : Nat) (p : BusPort) (n : Nat) : Nat → Nat → State → List Byte × State
  | 0, _, s => ([], s)
  | k + 1, a, s =>
    let (b, t) := portRead m p a n s
    let (bs, u) := readBeats m p n k (a + n) t
    (b ++ bs, u)

/-- The beats of a write, in ascending address order. -/
def writeBeats (m : Nat) (p : BusPort) (n : Nat) : Nat → Nat → List Byte → State → State
  | 0, _, _, s => s
  | k + 1, a, bs, s => writeBeats m p n k (a + n) (bs.drop n) (portWrite m p a (bs.take n) s)

/-- The bytes that a write carries: one for every byte of its beats, 0 where the operand has none. -/
def opData (x : BusOp) : List Byte :=
  let n := opBeats x * opBeat x
  (x.data ++ List.replicate n 0).take n

/-- A transaction at its target: the response to its master. A denied read returns 0 (R353). -/
def perform (m : Nat) (p : BusPort) (x : BusOp) (s : State) : State :=
  let a := x.addr.toNat
  if s.denies m p x.write a then (denyAccess m x.write a s).respond m 0
  else if x.write then
    if p = .hbm ∧ (slRange a).isSome then (writeSafelight m a (opData x) s).respond m 0
    else (writeBeats m p (opBeat x) (opBeats x) a (opData x) s).respond m 0
  else
    let (bs, t) := readBeats m p (opBeat x) (opBeats x) a s
    t.respond m (leNat bs)

/-! ### Requests and grants (R350 to R352) -/

/-- A master can issue a transaction: a core that runs a hart, the supervisor, DMA while a channel runs, DBG. -/
def State.mayIssue (s : State) (m : Nat) : Bool :=
  if m < 5 then s.coreServes m && s.hartUp (s.hartOf m)
  else if m = 6 then s.dmaAccessing.isSome
  else true

/-- A master issues a transaction: it waits for its grant, or on an unmapped address (R350, R355). -/
def busIssue (m : Nat) (x : BusOp) (s : State) : State :=
  if (s.bus.req.find? m).isSome || !s.mayIssue m || !opFits x then s
  else { s with bus := { s.bus with req := s.bus.req.set m ⟨x, s.now⟩ } }

/-- The masters that wait at a port, of those that its lock lets through. -/
def State.waiting (s : State) (p : BusPort) : List Nat :=
  (List.range 8).filter (fun m => match s.bus.req.find? m with
    | some r => opPort r.op == some p && (match s.bus.lock.find? (portNum p) with | some l => l.master == m | none => true)
    | none => false)

/-- A beat of a port in hundredths of a nanosecond (R358). -/
def beatTime : BusPort → Nat
  | .reg => 250
  | .flash => 2000
  | _ => 125

/-- The lock of a port after a grant: a locked read takes it, but at FLASH; the sequence's write ends it (R352). -/
def lockAfter (m : Nat) (p : BusPort) (x : BusOp) (s : State) : State :=
  if p = .flash ∨ x.lock = false then s
  else if x.write then { s with bus := { s.bus with lock := s.bus.lock.filter (fun q l => q != (portNum p) || l.master != m) } }
  else { s with bus := { s.bus with lock := s.bus.lock.set (portNum p) ⟨m, x, s.now⟩ } }

/-- BUS_WAIT_MAX holds the greatest wait of a master, in beats of the port, whole ones (R358). -/
def noteWait (m : Nat) (p : BusPort) (since : Nat) (s : State) : State :=
  let n := min 65535 ((s.now - since) * 100 / beatTime p)
  s.setFld F.BUS_WAIT_MAX_BEATS m (max n (s.fld F.BUS_WAIT_MAX_BEATS m))

/-- A port grants the next master that waits: its transaction completes (R351). -/
def portGrants (p : BusPort) (s : State) : State :=
  match firstFrom (s.bus.turn.get 0 (portNum p)) (s.waiting p) with
  | none => s
  | some m =>
    match s.bus.req.find? m with
    | none => s
    | some r =>
      let s1 := { s with bus := { s.bus with req := s.bus.req.erase m, turn := s.bus.turn.set (portNum p) ((m + 1) % 8) } }
      perform m p r.op (lockAfter m p r.op (noteWait m p r.since s1))

/-- LOCK_TIMEOUT of a locked sequence runs out: its write is suppressed (R352). -/
def lockExpires (p : BusPort) (s : State) : State :=
  match s.bus.lock.find? (portNum p) with
  | none => s
  | some l =>
    let a := l.op.addr.toNat
    let s1 := passToNow (l.since + ceilDiv (s.fld F.BUS_CFG_LOCK_TIMEOUT 0 * 5) 4) s
    let s2 := (noteBusFault l.master 2 true a (endWithError l.master a s1)).bump .BUS_LOCK_TO_CNT 0
    s2.raise Src.BUS_LOCK_TO

/-- The wait of a master on an unmapped address reaches STALL_LIMIT (R355). -/
def stallLimit (m : Nat) (s : State) : State :=
  match s.bus.req.find? m with
  | none => s
  | some r =>
    if (opPort r.op).isSome || s.bus.stalled.contains m then s
    else
      let a := r.op.addr.toNat
      let s1 := passToNow (r.since + s.fld F.BUS_CFG_STALL_LIMIT 0 * 100) s
      let s2 := { s1 with bus := { s1.bus with stalled := m :: s1.bus.stalled } }
      let s3 := s2.setFlds m [(F.BUS_STALL_ADDR_LO_ADDR, a), (F.BUS_STALL_ADDR_HI_ADDR, a / 2 ^ 32)]
      ((noteBusFault m 1 r.op.write a s3).bump .BUS_STALL_CNT 0).raise Src.BUS_DECODE_STALL

/-! ### DMA transfers (R357) -/

/-- A beat of a transfer; none where an address is unmapped, with that address. -/
def dmaStep (x : DmaDesc) (n k : Nat) (s : State) : Except (Nat × Bool) State :=
  let a := (x.src + (if bit x.flags 0 then 0 else k * n)) % 2 ^ 40
  let d := (x.dst + (if bit x.flags 1 then 0 else k * n)) % 2 ^ 40
  match portAt a, portAt d with
  | some p, some q =>
    let r : List Byte × State := if s.denies 6 p false a then (List.replicate n 0, denyAccess 6 false a s) else portRead 6 p a n s
    .ok (if r.2.denies 6 q true d then denyAccess 6 true d r.2 else portWrite 6 q d r.1 r.2)
  | none, _ => .error (a, false)
  | _, none => .error (d, true)

/-- The beats of a transfer from beat `k` on; where one stalls, the access that it waits on. -/
def dmaMove (c : Nat) (x : DmaDesc) (n : Nat) : Nat → Nat → State → State × Option (Nat × Bool)
  | 0, _, s => (s, none)
  | j + 1, k, s =>
    match dmaStep x n k s with
    | .ok t => dmaMove c x n j (k + 1) t
    | .error e => (s.setFld F.BUS_DMA_LEFT_BYTES c ((j + 1) * n), some e)

/-- The transfer of a channel's descriptor ends; the channel goes on, or is done. A transfer that meets an unmapped address
leaves the DMA master waiting on it. -/
def descriptorEnds (c : Nat) (s : State) : State :=
  match s.bus.dma.find? c, s.bus.req.find? 6 with
  | some x, none =>
    let n := (dmaBeat x.flags).getD 8
    let (s1, stop) := dmaMove c x n (x.len / n) 0 s
    match stop with
    | some (a, w) => busIssue 6 ⟨w, false, BitVec.ofNat 40 a, if n = 8 then 3 else 2, 0, []⟩ s1
    | none =>
      let s2 := (s1.setFld F.BUS_DMA_LEFT_BYTES c 0).raiseIf (bit x.flags 5) Src.BUS_DMA_DONE
      if bit x.flags 6 then
        { s2 with bus := { s2.bus with dma := s2.bus.dma.erase c } }.setFld F.BUS_DMA_STAT_STATE c 2
      else dmaLoad c (x.next % 2 ^ 40) s2
  | _, _ => s

/-! ### The commands -/

/-- BUS_ACCESS (R350). -/
def execBusAccess (m : Fin 8) (x : BusOp) (s : State) : Out := .next (busIssue m x s)

/-- BUS_GRANT (R351). -/
def execBusGrant (p : BusPort) (s : State) : Out := .next (portGrants p s)

/-- LOCK_TO (R352). -/
def execLockTo (p : BusPort) (s : State) : Out := .next (lockExpires p s)

/-- DECODE_STALL (R355). -/
def execDecodeStall (m : Fin 8) (s : State) : Out := .next (stallLimit m s)

/-- DMA_DESCRIPTOR_END (R357). -/
def execDmaDescriptorEnd (c : Fin 8) (s : State) : Out := .next (descriptorEnds c s)

end Sys2Proof.Machine
end

