-- ==== Sys2Proof/Machine/Flags.lean ====
section
/-!
DEFINITION. The flags of a cue program (R228) and its general registers (R225).
-/

namespace Sys2Proof.Machine

/-- A general register; g0 reads as 0 (R225). -/
def ThrCtx.val (c : ThrCtx) (i : Nat) : Word := if i = 0 then 0 else c.g.get 0 i

/-- A write of a general register; one of g0 is discarded (R225). -/
def ThrCtx.setG (c : ThrCtx) (i : Nat) (v : Word) : ThrCtx := if i = 0 then c else { c with g := c.g.set i v }

/-- Z and N from a result (R228). -/
def ThrCtx.zn (c : ThrCtx) (v : Word) : ThrCtx := { c with z := v == 0, n := v.getLsbD 31 }

/-- Z, N and C of a sum (R228): C is the carry out of bit 31. -/
def ThrCtx.addFlags (c : ThrCtx) (a b : Word) : ThrCtx := { c.zn (a + b) with c := decide (2 ^ 32 ≤ a.toNat + b.toNat) }

/-- Z, N and C of a difference or comparison (R228): N is the signed less-than, C the absence of a borrow. -/
def ThrCtx.subFlags (c : ThrCtx) (a b : Word) : ThrCtx := { c with z := a == b, n := a.slt b, c := decide (b.toNat ≤ a.toNat) }

/-- The test result T. -/
def ThrCtx.test (c : ThrCtx) (b : Bool) : ThrCtx := { c with t := b }

/-- The condition of BR, CALL and RET (R229); a reserved code holds never. -/
def ThrCtx.holds (c : ThrCtx) (cond : Nat) : Bool :=
  match cond with
  | 0 => true
  | 1 => c.z
  | 2 => !c.z
  | 3 => c.n
  | 4 => !c.n
  | 5 => !c.c
  | 6 => c.c
  | 7 => c.t
  | 8 => !c.t
  | 9 => !c.z && !c.n
  | 10 => c.z || c.n
  | _ => false

end Sys2Proof.Machine
end

