-- ==== Sys2Proof/Machine/CueIsa.lean ====
section
/-!
DEFINITION. The cue instruction set (chapter 09): the fields of a word, the checks of R239, costs, the snapshot that SENSE
reads, and one meaning per instruction: the instruction at the program counter of a running thread completes, or faults.
-/

namespace Sys2Proof.Machine

/-! ### Words (R223, R224) -/

/-- The fields of a cue word. -/
def cueOp (w : Word) : Nat := bitsOf w.toNat 26 6
def cueD (w : Word) : Nat := bitsOf w.toNat 22 4
def cueA (w : Word) : Nat := bitsOf w.toNat 18 4
def cueB (w : Word) : Nat := bitsOf w.toNat 14 4
def cueImm14 (w : Word) : Nat := bitsOf w.toNat 0 14
def cueImm22 (w : Word) : Nat := bitsOf w.toNat 0 22
def cueCond (w : Word) : Nat := bitsOf w.toNat 22 4
def cueSub (w : Word) : Nat := bitsOf w.toNat 20 6
def cueR1 (w : Word) : Nat := bitsOf w.toNat 16 4
def cueR2 (w : Word) : Nat := bitsOf w.toNat 12 4
def cueK (w : Word) : Nat := bitsOf w.toNat 0 12

/-- imm14, imm22 and off22 taken signed. -/
def cueSimm14 (w : Word) : Word := BitVec.ofInt 32 (signed 14 (cueImm14 w))
def cueSimm22 (w : Word) : Word := BitVec.ofInt 32 (signed 22 (cueImm22 w))

/-- k added to a register's value, modulo 2^32 (R225). -/
def kPlus (v w : Word) : Word := v + BitVec.ofNat 32 (cueK w)

/-- The codes of SENSE that take no index. -/
def senseNoIndex (sub : Nat) : Bool := [0, 1, 2, 3, 4, 0x10, 0x12, 0x13].contains sub

/-- The codes of SENSE that take an index. -/
def senseIndexed (sub : Nat) : Bool :=
  [8, 9, 10, 11, 12, 13, 14, 15, 0x11, 0x18, 0x19, 0x1A, 0x1B, 0x20, 0x21, 0x22, 0x23, 0x28].contains sub

/-- A count of audio members outside 1 to 64 (R242). -/
def badCount (w : Word) : Bool := bitsOf (cueK w) 0 7 == 0 || decide (64 < bitsOf (cueK w) 0 7)

/-- Check 1 of R239 for a word of a thread whose object is `o`: a reserved op, sub, cond or operand, or an unused field that
is not 0. -/
def cueIllegal (o : Nat) (w : Word) : Bool :=
  let d := cueD w != 0
  let b := cueB w != 0
  let imm := cueImm14 w != 0
  let sub := cueSub w != 0
  let r1 := cueR1 w != 0
  let r2 := cueR2 w != 0
  let k := cueK w != 0
  match cueOp w with
  | 0x01 => imm
  | 0x02 => b
  | 0x03 => imm
  | 0x04 => imm
  | 0x05 => imm
  | 0x06 => imm
  | 0x07 => false
  | 0x08 => false
  | 0x09 => false
  | 0x0A => bitsOf w.toNat 16 6 != 0
  | 0x0B => d || imm
  | 0x0C => d || b
  | 0x10 => decide (10 < cueCond w)
  | 0x11 => decide (10 < cueCond w)
  | 0x12 => decide (10 < cueCond w) || cueImm22 w != 0
  | 0x13 => sub || r1 || r2 || k
  | 0x14 => sub || r1 || r2 || k
  | 0x15 => decide (1 < cueSub w) || r2
  | 0x16 => sub || k
  | 0x18 => b
  | 0x19 => b
  | 0x1A => if senseNoIndex (cueSub w) then r2 || k else !senseIndexed (cueSub w)
  | 0x1B => sub || r2 || k || !r1 || decide (12 < cueR1 w)
  | 0x1C => sub || r1 || r2 || k
  | 0x1D => decide (2 < cueSub w) || r2 || k || !r1 || decide (14 < cueR1 w)
  | 0x20 => sub
  | 0x21 => sub
  | 0x22 => sub || r1 || r2 || k
  | 0x23 => sub || r1 || r2 || decide (15 < cueK w)
  | 0x28 => sub || bitsOf (cueK w) 7 5 != 0 || badCount w
  | 0x29 => sub || badCount w
  | 0x2A => decide (1 < cueSub w) || r1 || bitsOf (cueK w) 7 5 != 0 || badCount w
  | 0x2B => sub || r1 || r2 || decide (1000 < cueK w)
  | 0x2C => sub || k
  | 0x30 => sub || o == 2 ^ 14 + 16
  | 0x31 => decide (3 < cueSub w) || k
  | 0x32 => sub || r2
  | 0x33 => sub || r1 || r2 || decide (15 < cueK w) || o == 2 ^ 14 + 16
  | 0x34 => sub || r1 || r2 || k
  | 0x35 => decide (1 < cueSub w) || r2
  | 0x38 => sub || r2 || k || !r1 || decide (12 < cueR1 w)
  | 0x39 => sub || k
  | 0x3A => sub || k
  | _ => true

/-- An op that R227 lists. -/
def cueOpListed (op : Nat) : Bool :=
  decide (1 ≤ op ∧ op ≤ 0x0C) || decide (0x10 ≤ op ∧ op ≤ 0x16) || decide (0x18 ≤ op ∧ op ≤ 0x1D)
    || decide (0x20 ≤ op ∧ op ≤ 0x23) || decide (0x28 ≤ op ∧ op ≤ 0x2C) || decide (0x30 ≤ op ∧ op ≤ 0x35)
    || decide (0x38 ≤ op ∧ op ≤ 0x3A)

/-- A branch, call or return that is taken. -/
def cueTaken (c : ThrCtx) (w : Word) : Bool := decide (0x10 ≤ cueOp w ∧ cueOp w ≤ 0x12) && c.holds (cueCond w)

/-- The cycles of an instruction (R227); a reserved op is charged 1. -/
def cueCost (c : ThrCtx) (w : Word) : Nat :=
  let op := cueOp w
  if cueTaken c w then 2
  else if op = 0x1B ∨ op = 0x38 then 4
  else if op = 0x20 ∨ op = 0x21 ∨ op = 0x30 then 3
  else if op = 0x18 ∨ op = 0x1A ∨ op = 0x1C ∨ op = 0x1D ∨ op = 0x22 ∨ op = 0x23 ∨ op = 0x28 ∨ op = 0x29 ∨ op = 0x2A ∨ op = 0x35 then 2
  else 1

/-- The next program counter (R231). -/
def cueNextPc (c : ThrCtx) (w : Word) : Int :=
  if cueTaken c w then (if cueOp w = 0x12 then (c.stack.headD 0 : Nat) else (c.pc : Int) + signed 22 (cueImm22 w))
  else (c.pc : Int) + 1

/-- The scratch word that LDS and STS name (R235). -/
def scratchAt (c : ThrCtx) (w : Word) : Word := c.val (cueA w) + cueSimm14 w

/-- Check 3 of R239: an OUT of the wrong kind, or a member beyond the thread's audio group. -/
def State.cueNotOwner (s : State) (o : Nat) (c : ThrCtx) (w : Word) : Bool :=
  let op := cueOp w
  let size := s.fld F.AUD_GRP_CFG_SIZE (objIndex o)
  (decide (0x20 ≤ op ∧ op ≤ 0x23) && objKind o != 0) || (decide (0x28 ≤ op ∧ op ≤ 0x2C) && objKind o != 1)
    || (decide (0x30 ≤ op ∧ op ≤ 0x35) && objKind o != 2) || (op == 0x35 && o != 2 ^ 14 + 16)
    || (decide (0x28 ≤ op ∧ op ≤ 0x2A) && decide (size < (c.val (cueR2 w)).toNat + bitsOf (cueK w) 0 7))

/-- The cause of R217 with which a word faults, 0 for none: the checks of R239 in their order. -/
def State.cueFault (s : State) (t : Nat) (c : ThrCtx) (w : Word) : Nat :=
  let o := s.thrOut t
  let op := cueOp w
  let pc := cueNextPc c w
  if cueIllegal o w then 3
  else if op = 0x35 ∧ !s.flag F.CUE_THR_CFG_SAFE t then 2
  else if s.cueNotOwner o c w then 1
  else if (op = 0x18 ∨ op = 0x19) ∧ 63 < (scratchAt c w).toNat then 4
  else if cueTaken c w ∧ ((op = 0x11 ∧ 8 ≤ c.stack.length) ∨ (op = 0x12 ∧ c.stack.isEmpty)) then 5
  else if pc < 0 ∨ 262143 < pc then 6
  else 0

/-! ### Completion (R217, R226) -/

/-- The context of a thread changes. -/
def setCtx (t : Nat) (f : ThrCtx → ThrCtx) (s : State) : State :=
  match s.thread? t with
  | none => s
  | some x => s.setThread t { x with ctx := f x.ctx }

/-- A thread faults at the instruction it stands at (R217). -/
def faultThread (t cause : Nat) (s : State) : State :=
  match s.thread? t with
  | none => s
  | some x =>
    let s1 := endRun t { x with st := 6, bover := false } s
    let s2 := s1.setFlds t [(F.CUE_THR_STAT_FAULT_S, 1), (F.CUE_THR_STAT_FCAUSE, cause)]
    let s3 := s2.setFlds 0 [(F.CUE_FAULT_LAST_THREAD, t), (F.CUE_FAULT_LAST_FCAUSE, cause), (F.CUE_FAULT_LAST_ENGINE, x.eng.getD 0)]
    (s3.bump .CUE_FAULT_CNT 0).raise Src.CUE_THREAD_FAULT

/-- A run ends in the normal way. -/
def yieldRun (t st : Nat) (wake : Wake) (halting : Bool) (s : State) : State :=
  match s.thread? t with
  | none => s
  | some x => endRun t { x with st := st, wake := wake, halting := halting, bover := false } s

/-- The B-th instruction of a run that goes on stops it (R206). -/
def budgetStop (t : Nat) (s : State) : State :=
  match s.thread? t with
  | none => s
  | some x => if x.st = 2 ∧ x.budget ≤ x.used then stopRun t s else s

/-- The word at a program counter of a domain's bank (R223). -/
def State.cueFetch (s : State) (n pc : Nat) : Word := BitVec.ofNat 32 (s.mem.readLe (bankBase (s.bankOf n) + 4 * pc) 4)

/-- The instruction at the program counter of running thread `t` ends, if its op is `op` or is reserved: it is not started
when its last cycle would reach S(N); it faults by R239; or it completes, with effect `act` on the thread's context before
it and the state after its cycles. -/
def completeOp (op t : Nat) (act : ThrCtx → Word → State → State) (s : State) : State :=
  match s.thread? t, (s.tdOf (s.thrTd t)).opened with
  | some x, some f =>
    let w := s.cueFetch (s.thrTd t) x.ctx.pc
    let done := x.clock + (cueCost x.ctx w : Nat)
    if x.st ≠ 2 ∨ (cueOp w ≠ op ∧ cueOpListed (cueOp w)) ∨ f.shutter ≤ done then s
    else
      let s1 := passTo done s
      let cause := s.cueFault t x.ctx w
      if cause ≠ 0 then faultThread t cause (s1.setThread t { x with clock := done })
      else
        let y := { x with clock := done, used := x.used + 1, ctx := { x.ctx with pc := (cueNextPc x.ctx w).toNat } }
        budgetStop t (act x.ctx w (s1.setThread t y))
  | _, _ => s

/-! ### SENSE (R236) -/

/-- The state as the snapshot at O(N) of domain `n` shows it to SENSE. -/
def State.sensed (s : State) (n : Nat) : State :=
  match s.snap.find? n with
  | none => s
  | some p => { s with regs := p.regs, eff := p.eff, owner := p.owner, ref := p.ref, ptp := p.ptp, ul := p.ul, sdi := p.sdi,
                       mport := p.mport, xpt := p.xpt, aud := p.aud, wscan := p.wscan }

/-- The codes without an index. -/
def State.senseOwn (s : State) (t : Nat) (x : Thread) (sub : Nat) : Word :=
  let n := s.thrTd t
  let p := s.snap.find? n
  let u := s.sensed n
  match sub with
  | 0x00 => (p.map (·.phi)).getD 0
  | 0x01 => BitVec.ofNat 32 (t + n * 2 ^ 16 + b2n (s.flag F.CUE_THR_CFG_SAFE t) * 2 ^ 31)
  | 0x02 => BitVec.ofNat 32 (s.thrOut t)
  | 0x03 => BitVec.ofNat 32 (((p.map (·.vis)).getD []).filter (· == s.thrOut t)).length
  | 0x04 => BitVec.ofNat 32 (b2n x.bover)
  | 0x10 => u.reg .REF_SEL_STAT 0
  | 0x12 => BitVec.ofNat 32 (u.ptpState 0 + u.ptpState 1 * 2 ^ 4 + b2n u.etValid * 2 ^ 8 + u.curDom * 2 ^ 9)
  | _ => (p.map (·.gpi)).getD 0

/-- Members of the thread's own audio group (AMEMBER). -/
def State.senseMembers (u : State) (o : Nat) : Nat := if objKind o = 1 then u.fld F.AUD_GRP_CFG_SIZE (objIndex o) else 0

/-- The number of indexes of a code. -/
def State.senseRange (u : State) (o sub : Nat) : Nat :=
  match sub with
  | 0x0C => 128
  | 0x0D => 4096
  | 0x0F => 32
  | 0x11 => 8
  | 0x18 => 17
  | 0x19 => 64
  | 0x1B => 128
  | 0x20 => 16384
  | 0x22 => 72
  | 0x23 => u.senseMembers o
  | 0x28 => 8
  | _ => 1024

/-- ASRC: the unit is in service, and the converter that it serves is locked. -/
def State.senseAsrc (u : State) (i : Nat) : Word :=
  let c := u.fld F.AUD_ASRC_UNIT_SERVES i
  let here := u.inService (53 + i)
  let locked := here && u.fld F.AUD_ASRC_STAT_UNIT c == i && u.flag F.AUD_ASRC_CFG_EN c && u.flag F.AUD_ASRC_STAT_LOCKED c
  BitVec.ofNat 32 (b2n locked + 2 * b2n here)

/-- The codes with an index, in their range. -/
def State.senseAt (u : State) (o sub i : Nat) : Word :=
  match sub with
  | 0x08 => u.vinWord i
  | 0x09 => u.marginWord i false
  | 0x0A => u.routeWord i
  | 0x0B => u.reg .XPT_REFUSE i
  | 0x0C => u.reg .SDI_RX_STAT i
  | 0x0D => u.reg .MPORT_RXC_STAT i
  | 0x0E => u.reg .MPORT_MRG_STAT i
  | 0x0F => u.reg .ULINK_STAT i
  | 0x11 => u.srcStatWord i
  | 0x18 => if i < 16 then BitVec.ofNat 32 (u.fld F.WSCAN_LPROOF_STAT_FROZEN i) else 0
  | 0x19 => BitVec.ofNat 32 (u.fld F.WSCAN_REG_STAT_FROZEN i)
  | 0x1A => u.reg .WSCAN_TILE_STAT i
  | 0x1B => u.tilePortStat i
  | 0x20 => u.inWord i &&& 3#32
  | 0x21 => u.reg .AUD_AGRP_SLIP i
  | 0x22 => u.senseAsrc i
  | _ =>
    let m := (u.audGroup (objIndex o)).member i
    BitVec.ofNat 32 (b2n (m.pend.isSome && m.fade.isNone) + 2 * b2n m.muted)

/-- What SENSE reads: the value and T. -/
def State.sense (s : State) (t : Nat) (x : Thread) (sub i : Nat) : Word × Bool :=
  let o := s.thrOut t
  if senseNoIndex sub then (s.senseOwn t x sub, true)
  else
    let u := s.sensed (s.thrTd t)
    if u.senseRange o sub ≤ i then (0, false)
    else if sub = 0x28 then
      (BitVec.ofNat 32 (((s.snap.find? (s.thrTd t)).map (fun p => p.load.getD i 0)).getD 0), true)
    else (u.senseAt o sub i, true)

/-! ### Shadows -/

/-- The shadow of the thread's layer changes. -/
def writeLayer (t field : Nat) (f : LayerSet → LayerSet) (s : State) : State :=
  let l := objIndex (s.thrOut t)
  let x := s.layer l
  noteWrite t field (s.setLayer l { x with next := f x.next })

/-- The shadow of the thread's audio group changes. -/
def writeGroup (t : Nat) (f : AudShadow → AudShadow) (s : State) : State :=
  let g := objIndex (s.thrOut t)
  let x := s.audGroup g
  s.setAudGroup g { x with shadow := f x.shadow }

/-- Superseded writes are counted (R213, R243). -/
def countSuperseded (n : Nat) (s : State) : State := s.bumpN .CUE_SUPERSEDE_CNT 0 n

/-- The members of an audio instruction. -/
def audioRun (c : ThrCtx) (w : Word) : List Nat :=
  (List.range (bitsOf (cueK w) 0 7)).map (fun j => (c.val (cueR2 w)).toNat + j)

/-- T of the thread. -/
def setT (t : Nat) (b : Bool) (s : State) : State := setCtx t (fun c => c.test b) s

/-- T and the reason of a request (R240, R244). -/
def setReason (t r2 : Nat) (r : Nat × State) : State :=
  setCtx t (fun c => (c.test (r.1 == 0)).setG r2 (BitVec.ofNat 32 r.1)) r.2

/-- A three-operand result without a carry. -/
def logicOp (op t : Nat) (f : Word → Word → Word) (s : State) : State :=
  completeOp op t (fun c w => setCtx t (fun e =>
    let v := f (c.val (cueA w)) (c.val (cueB w))
    (e.setG (cueD w) v).zn v)) s

/-- A shift by bits 4:0 of val(b) + imm14. -/
def shiftOp (op t : Nat) (f : Word → Nat → Word) (s : State) : State :=
  completeOp op t (fun c w => setCtx t (fun e =>
    let v := f (c.val (cueA w)) ((c.val (cueB w) + BitVec.ofNat 32 (cueImm14 w)).toNat % 32)
    (e.setG (cueD w) v).zn v)) s

/-! ### Arithmetic and logic (R230) -/

/-- ADD (R230). -/
def execCueAdd (t : Fin 4096) (s : State) : Out :=
  .next (completeOp 0x01 t (fun c w => setCtx t (fun e =>
    (e.setG (cueD w) (c.val (cueA w) + c.val (cueB w))).addFlags (c.val (cueA w)) (c.val (cueB w)))) s)

/-- ADDI (R230). -/
def execCueAddi (t : Fin 4096) (s : State) : Out :=
  .next (completeOp 0x02 t (fun c w => setCtx t (fun e =>
    (e.setG (cueD w) (c.val (cueA w) + cueSimm14 w)).addFlags (c.val (cueA w)) (cueSimm14 w))) s)

/-- SUB (R230). -/
def execCueSub (t : Fin 4096) (s : State) : Out :=
  .next (completeOp 0x03 t (fun c w => setCtx t (fun e =>
    (e.setG (cueD w) (c.val (cueA w) - c.val (cueB w))).subFlags (c.val (cueA w)) (c.val (cueB w)))) s)

/-- AND (R230). -/
def execCueAnd (t : Fin 4096) (s : State) : Out := .next (logicOp 0x04 t (· &&& ·) s)

/-- OR (R230). -/
def execCueOr (t : Fin 4096) (s : State) : Out := .next (logicOp 0x05 t (· ||| ·) s)

/-- XOR (R230). -/
def execCueXor (t : Fin 4096) (s : State) : Out := .next (logicOp 0x06 t (· ^^^ ·) s)

/-- SHL (R230). -/
def execCueShl (t : Fin 4096) (s : State) : Out := .next (shiftOp 0x07 t (fun v k => v <<< k) s)

/-- SHR (R230). -/
def execCueShr (t : Fin 4096) (s : State) : Out := .next (shiftOp 0x08 t (fun v k => v >>> k) s)

/-- LDI (R230). -/
def execCueLdi (t : Fin 4096) (s : State) : Out :=
  .next (completeOp 0x09 t (fun _ w => setCtx t (fun e => e.setG (cueD w) (cueSimm22 w))) s)

/-- LDHI (R230). -/
def execCueLdhi (t : Fin 4096) (s : State) : Out :=
  .next (completeOp 0x0A t (fun c w => setCtx t (fun e =>
    e.setG (cueD w) (BitVec.ofNat 32 (bitsOf w.toNat 0 16 * 2 ^ 16 + (c.val (cueD w)).toNat % 2 ^ 16)))) s)

/-- CMP (R230). -/
def execCueCmp (t : Fin 4096) (s : State) : Out :=
  .next (completeOp 0x0B t (fun c w => setCtx t (fun e => e.subFlags (c.val (cueA w)) (c.val (cueB w)))) s)

/-- CMPI (R230). -/
def execCueCmpi (t : Fin 4096) (s : State) : Out :=
  .next (completeOp 0x0C t (fun c w => setCtx t (fun e => e.subFlags (c.val (cueA w)) (cueSimm14 w))) s)

/-! ### Control (R231 to R234) -/

/-- BR (R231): the program counter alone. -/
def execCueBr (t : Fin 4096) (s : State) : Out := .next (completeOp 0x10 t (fun _ _ u => u) s)

/-- CALL (R231): the index of the following instruction is pushed. -/
def execCueCall (t : Fin 4096) (s : State) : Out :=
  .next (completeOp 0x11 t (fun c w => setCtx t (fun e => if cueTaken c w then { e with stack := (c.pc + 1) :: e.stack } else e)) s)

/-- RET (R231): the return address is popped. -/
def execCueRet (t : Fin 4096) (s : State) : Out :=
  .next (completeOp 0x12 t (fun c w => setCtx t (fun e => if cueTaken c w then { e with stack := e.stack.tail } else e)) s)

/-- YIELD (R232). -/
def execCueYield (t : Fin 4096) (s : State) : Out := .next (completeOp 0x13 t (fun _ _ => yieldRun t 1 .none false) s)

/-- HALT (R232): HALTED from S(N). -/
def execCueHalt (t : Fin 4096) (s : State) : Out := .next (completeOp 0x14 t (fun _ _ => yieldRun t 1 .none true) s)

/-- WAITF (R233). -/
def execCueWaitf (t : Fin 4096) (s : State) : Out :=
  .next (completeOp 0x15 t (fun c w =>
    let n := kPlus (c.val (cueR1 w)) w
    yieldRun t 3 (if cueSub w = 0 then .frames (max 1 n.toNat) else .phi n) false) s)

/-- WAITT (R234). -/
def execCueWaitt (t : Fin 4096) (s : State) : Out :=
  .next (completeOp 0x16 t (fun c w =>
    yieldRun t 4 (.instant ((c.val (cueR1 w)).toNat + (c.val (cueR2 w)).toNat % 2 ^ 16 * 2 ^ 32)) false) s)

/-! ### State and sense (R235 to R238) -/

/-- The address of a thread's scratch word (R29). -/
def scratchAddr (t : Nat) (a : Nat) : Nat := stateRam + t * 0x100 + 4 * a

/-- LDS (R235). -/
def execCueLds (t : Fin 4096) (s : State) : Out :=
  .next (completeOp 0x18 t (fun c w u =>
    setCtx t (fun e => e.setG (cueD w) (BitVec.ofNat 32 (u.mem.readLe (scratchAddr t (scratchAt c w).toNat) 4))) u) s)

/-- STS (R235). -/
def execCueSts (t : Fin 4096) (s : State) : Out :=
  .next (completeOp 0x19 t (fun c w u => u.store (scratchAddr t (scratchAt c w).toNat) (leBytes 4 (c.val (cueD w)).toNat)) s)

/-- SENSE (R236). -/
def execCueSense (t : Fin 4096) (s : State) : Out :=
  .next (completeOp 0x1A t (fun c w u =>
    match u.thread? t with
    | none => u
    | some x =>
      let (v, ok) := u.sense t x (cueSub w) (kPlus (c.val (cueR2 w)) w).toNat
      setCtx t (fun e => ((e.setG (cueR1 w) v).zn v).test ok) u) s)

/-- LDT (R237). -/
def execCueLdt (t : Fin 4096) (s : State) : Out :=
  .next (completeOp 0x1B t (fun _ w u =>
    match u.visibleTake (u.thrOut t) with
    | none => setT t false u
    | some e =>
      let r := cueR1 w
      setCtx t (fun c => ((((c.setG r e.w0).setG (r + 1) e.w1).setG (r + 2) e.w2).setG (r + 3) e.w3).test true) u) s)

/-- POPT (R237). -/
def execCuePopt (t : Fin 4096) (s : State) : Out :=
  .next (completeOp 0x1C t (fun _ _ u =>
    match u.visibleTake (u.thrOut t) with
    | none => setT t false u
    | some _ => setT t true (popTake (u.thrOut t) u)) s)

/-- EVT (R238). -/
def execCueEvt (t : Fin 4096) (s : State) : Out :=
  .next (completeOp 0x1D t (fun _ w u =>
    match (u.tdOf (u.thrTd t)).opened with
    | none => u
    | some f =>
      let x := unsign 48 (match cueSub w with | 0 => f.cueOpen | 1 => f.start | _ => f.shutter)
      let r := cueR1 w
      setCtx t (fun c => (c.setG r (BitVec.ofNat 32 x)).setG (r + 1) (BitVec.ofNat 32 (x / 2 ^ 32))) u) s)

/-! ### Video (R240 to R242) -/

/-- TAKE (R240). -/
def execCueTake (t : Fin 4096) (s : State) : Out :=
  .next (completeOp 0x20 t (fun c w u => setReason t (cueR2 w) (takeFrom t (kPlus (c.val (cueR1 w)) w).toNat false u)) s)

/-- TAKEP (R240). -/
def execCueTakep (t : Fin 4096) (s : State) : Out :=
  .next (completeOp 0x21 t (fun c w u => setReason t (cueR2 w) (takeFrom t (kPlus (c.val (cueR1 w)) w).toNat true u)) s)

/-- HOLD (R241). -/
def execCueHold (t : Fin 4096) (s : State) : Out :=
  .next (completeOp 0x22 t (fun _ _ u =>
    let o := objIndex (u.thrOut t)
    if (u.routes o).request.isNone then u
    else
      let v := countSuperseded 1 (withdrawRequest o u)
      match v.thread? t with
      | none => v
      | some x => v.setThread t { x with wrote := x.wrote.filter (· != 0) }) s)

/-- PIPE (R242). -/
def execCuePipe (t : Fin 4096) (s : State) : Out :=
  .next (completeOp 0x23 t (fun _ w u =>
    let o := objIndex (u.thrOut t)
    match u.pipeOf 1 o with
    | none => setT t false u
    | some _ => setT t true (noteWrite t 1 { u with wcomp := { u.wcomp with profNext := u.wcomp.profNext.set o (cueK w) } })) s)

/-! ### Audio (R243) -/

/-- The highest ACH_IN of a group's rate. -/
def State.lastIn (s : State) (g : Nat) : Nat := if s.grp96 g then 8191 else 16383

/-- ATAKE (R243). -/
def execCueAtake (t : Fin 4096) (s : State) : Out :=
  .next (completeOp 0x28 t (fun c w u =>
    let g := objIndex (u.thrOut t)
    let a := (c.val (cueR1 w)).toNat
    let ms := audioRun c w
    let sh := (u.audGroup g).shadow
    if u.lastIn g < a + ms.length - 1 then setT t false u
    else
      let m0 := (c.val (cueR2 w)).toNat
      let again := (ms.filter (fun m => (sh.src.find? m).isSome)).length
      setT t true (writeGroup t (fun x => { x with src := ms.foldl (fun (y : AMap Nat) m => y.set m (a + (m - m0))) x.src })
        (countSuperseded again u))) s)

/-- AGAIN (R243). -/
def execCueAgain (t : Fin 4096) (s : State) : Out :=
  .next (completeOp 0x29 t (fun c w u =>
    let sh := (u.audGroup (objIndex (u.thrOut t))).shadow
    let v : Int × Nat := (clampInt (-1200) 240 (c.val (cueR1 w)).toInt, bitsOf (cueK w) 7 5)
    let ms := audioRun c w
    let again := (ms.filter (fun m => (sh.gain.find? m).isSome)).length
    writeGroup t (fun x => { x with gain := ms.foldl (fun (y : AMap (Int × Nat)) m => y.set m v) x.gain }) (countSuperseded again u)) s)

/-- AMUTE (R243). -/
def execCueAmute (t : Fin 4096) (s : State) : Out :=
  .next (completeOp 0x2A t (fun c w u =>
    let sh := (u.audGroup (objIndex (u.thrOut t))).shadow
    let ms := audioRun c w
    let again := (ms.filter (fun m => (sh.mute.find? m).isSome)).length
    writeGroup t (fun x => { x with mute := ms.foldl (fun (y : AMap Bool) m => y.set m (cueSub w == 1)) x.mute })
      (countSuperseded again u)) s)

/-- AZX (R243). -/
def execCueAzx (t : Fin 4096) (s : State) : Out :=
  .next (completeOp 0x2B t (fun _ w u =>
    let sh := (u.audGroup (objIndex (u.thrOut t))).shadow
    writeGroup t (fun x => { x with azx := some (cueK w) }) (countSuperseded (b2n sh.azx.isSome) u)) s)

/-- AGRP (R243). -/
def execCueAgrp (t : Fin 4096) (s : State) : Out :=
  .next (completeOp 0x2C t (fun c w u =>
    let sh := (u.audGroup (objIndex (u.thrOut t))).shadow
    let m := (c.val (cueR1 w)).toNat + (c.val (cueR2 w)).toNat * 2 ^ 32
    writeGroup t (fun x => { x with mask := some m }) (countSuperseded (b2n sh.mask.isSome) u)) s)

/-! ### Wall and Safelight (R244) -/

/-- LSRC from thread `t`'s run (R244): the reason, 0 when admitted. -/
def layerFrom (t vin : Nat) (s : State) : Nat × State :=
  let (r, u) := if 1023 < vin then (5, (s.bump .XPT_REFUSE_CNT 0).raise Src.XPT_REFUSE)
    else requestLayer (objIndex (s.thrOut t)) vin (s.thrTd t) s
  (r, if r = 0 then noteWrite t 2 u else u)

/-- LSRC (R244). -/
def execCueLsrc (t : Fin 4096) (s : State) : Out :=
  .next (completeOp 0x30 t (fun c w u => setReason t (cueR2 w) (layerFrom t (kPlus (c.val (cueR1 w)) w).toNat u)) s)

/-- A geometry of LGEOM, saturated (R305). -/
def setGeom (sub : Nat) (a b : Word) (x : LayerSet) : LayerSet :=
  match sub with
  | 0 => { x with x := clampInt (-32768) 32767 a.toInt, y := clampInt (-32768) 32767 b.toInt }
  | 1 => { x with w := max 1 (min 32768 a.toNat), h := max 1 (min 32768 b.toNat) }
  | 2 => { x with cx := min 7679 a.toNat, cy := min 4319 b.toNat }
  | _ => { x with cw := min 7680 a.toNat, ch := min 4320 b.toNat }

/-- LGEOM (R244, R305). -/
def execCueLgeom (t : Fin 4096) (s : State) : Out :=
  .next (completeOp 0x31 t (fun c w => writeLayer t (3 + cueSub w) (setGeom (cueSub w) (c.val (cueR1 w)) (c.val (cueR2 w)))) s)

/-- LALPHA (R244). -/
def execCueLalpha (t : Fin 4096) (s : State) : Out :=
  .next (completeOp 0x32 t (fun c w =>
    writeLayer t 7 (fun x => { x with alpha := (clampInt 0 4095 ((c.val (cueR1 w)).toInt + (cueK w : Nat))).toNat })) s)

/-- LORDER (R244). -/
def execCueLorder (t : Fin 4096) (s : State) : Out :=
  .next (completeOp 0x33 t (fun _ w => writeLayer t 8 (fun x => { x with order := cueK w })) s)

/-- LCOMMIT (R215, R244). -/
def execCueLcommit (t : Fin 4096) (s : State) : Out :=
  .next (completeOp 0x34 t (fun _ _ u =>
    match u.thread? t with
    | none => u
    | some x => u.setThread t { x with lcommit := true }) s)

/-- SAFE (R244, R312). -/
def execCueSafe (t : Fin 4096) (s : State) : Out :=
  .next (completeOp 0x35 t (fun c w u =>
    let p := (kPlus (c.val (cueR1 w)) w).toNat
    if cueSub w = 0 then setT t true (writeLayer t 9 (fun x => { x with on := false }) u)
    else if 63 < p ∨ !u.flag F.WCOMP_SL_PDIM_VALID p then setT t false u
    else setT t true (writeLayer t 9 (fun x => { x with on := true, page := p }) u)) s)

/-! ### Outward operations (R245 to R247) -/

/-- SIGNAL (R245). -/
def execCueSignal (t : Fin 4096) (s : State) : Out :=
  .next (completeOp 0x38 t (fun c w u =>
    match u.thread? t with
    | none => u
    | some x =>
      let r := cueR1 w
      let (ok, v) := tqPush (c.val r) (c.val (r + 1)) (c.val (r + 2)) (c.val (r + 3)) 8 t (unsign 48 x.clock) u
      setT t ok v) s)

/-- TALLY (R246). -/
def execCueTally (t : Fin 4096) (s : State) : Out :=
  .next (completeOp 0x39 t (fun c w u =>
    match u.thread? t with
    | none => u
    | some x =>
      let mask := c.val (cueR2 w) &&& 0xFFFF#32
      let old := BitVec.ofNat 32 (x.userNext.getD x.user)
      u.setThread t { x with userNext := some ((old &&& ~~~ mask) ||| (c.val (cueR1 w) &&& mask)).toNat }) s)

/-- GPO (R247). -/
def execCueGpo (t : Fin 4096) (s : State) : Out :=
  .next (completeOp 0x3A t (fun c w u =>
    match u.thread? t with
    | none => u
    | some x => u.setThread t { x with gpo := x.gpo ++ [(c.val (cueR1 w), c.val (cueR2 w))] }) s)

end Sys2Proof.Machine
end

