-- ==== Sys2Proof/Machine/Dispatch.lean ====
section
/-!
DEFINITION. The effect of every command: one arm per constructor of Instr, each a direct call of the command's meaning.
-/

namespace Sys2Proof.Machine

/-- The effect of a command on everything but the queue. -/
def exec (i : Instr) (s : State) : Host.Outcome State Fault Refusal :=
  match i with
  | .registerWrite m r k v => Sys2Proof.Machine.execRegisterWrite m r k v s
  | .counterLoRead m r k => Sys2Proof.Machine.execCounterLoRead m r k s
  | .cueOpen td f slew => Sys2Proof.Machine.execCueOpen td f slew s
  | .threadDispatch td => Sys2Proof.Machine.execThreadDispatch td s
  | .threadRunStart td e => Sys2Proof.Machine.execThreadRunStart td e s
  | .shutter td => Sys2Proof.Machine.execShutter td s
  | .tallyMirrorSwap td => Sys2Proof.Machine.execTallyMirrorSwap td s
  | .overlapWindowClose td => Sys2Proof.Machine.execOverlapWindowClose td s
  | .refselSample pins => Sys2Proof.Machine.execRefselSample pins s
  | .sourceQualified n ana => Sys2Proof.Machine.execSourceQualified n ana s
  | .sourceDisqualified n monitorFailed => Sys2Proof.Machine.execSourceDisqualified n monitorFailed s
  | .refOffsetSample samples => Sys2Proof.Machine.execRefOffsetSample samples s
  | .disagree lasting => Sys2Proof.Machine.execDisagree lasting s
  | .loopStepDown err => Sys2Proof.Machine.execLoopStepDown err s
  | .relock err => Sys2Proof.Machine.execRelock err s
  | .phaseBuildDone err => Sys2Proof.Machine.execPhaseBuildDone err s
  | .tdEnable n v => Sys2Proof.Machine.execTdEnable n v s
  | .tdDisable n v => Sys2Proof.Machine.execTdDisable n v s
  | .tdPhaseWrite n v => Sys2Proof.Machine.execTdPhaseWrite n v s
  | .tdPhaseSlewEnd n => Sys2Proof.Machine.execTdPhaseSlewEnd n s
  | .refOutCfgWrite v => Sys2Proof.Machine.execRefOutCfgWrite v s
  | .refOutPulse => Sys2Proof.Machine.execRefOutPulse s
  | .refRequal v => Sys2Proof.Machine.execRefRequal v s
  | .ppsTaiArm v => Sys2Proof.Machine.execPpsTaiArm v s
  | .ppsInEdge instant => Sys2Proof.Machine.execPpsInEdge instant s
  | .ptpDomainEnable d v => Sys2Proof.Machine.execPtpDomainEnable d v s
  | .ptpDomainDisable d v => Sys2Proof.Machine.execPtpDomainDisable d v s
  | .sync d m => Sys2Proof.Machine.execSync d m s
  | .followUp d m => Sys2Proof.Machine.execFollowUp d m s
  | .delayReqTx d => Sys2Proof.Machine.execDelayReqTx d s
  | .delayResp d m => Sys2Proof.Machine.execDelayResp d m s
  | .announce d m => Sys2Proof.Machine.execAnnounce d m s
  | .ptpOtherMessage p frame => Sys2Proof.Machine.execPtpOtherMessage p frame s
  | .announceTimeout d => Sys2Proof.Machine.execAnnounceTimeout d s
  | .syncTimeout d => Sys2Proof.Machine.execSyncTimeout d s
  | .etSelWrite v => Sys2Proof.Machine.execEtSelWrite v s
  | .etDomainSwitch => Sys2Proof.Machine.execEtDomainSwitch s
  | .etSwitch => Sys2Proof.Machine.execEtSwitch s
  | .etStep => Sys2Proof.Machine.execEtStep s
  | .etRead m => Sys2Proof.Machine.execEtRead m s
  | .tileSyncTx => Sys2Proof.Machine.execTileSyncTx s
  | .tileAnnounceTx => Sys2Proof.Machine.execTileAnnounceTx s
  | .tileDelayReq p sender seq => Sys2Proof.Machine.execTileDelayReq p sender seq s
  | .tsqPop m p => Sys2Proof.Machine.execTsqPop m p s
  | .laneAssign n v => Sys2Proof.Machine.execLaneAssign n v s
  | .txPllLock q k => Sys2Proof.Machine.execTxPllLock q k s
  | .pllLost q k => Sys2Proof.Machine.execPllLost q k s
  | .pllSwap q => Sys2Proof.Machine.execPllSwap q s
  | .pllRelock q k => Sys2Proof.Machine.execPllRelock q k s
  | .cdrLock n rate => Sys2Proof.Machine.execCdrLock n rate s
  | .adaptDone n => Sys2Proof.Machine.execAdaptDone n s
  | .adaptFail n => Sys2Proof.Machine.execAdaptFail n s
  | .adaptRestart n v => Sys2Proof.Machine.execAdaptRestart n v s
  | .eyeMeasure n h v => Sys2Proof.Machine.execEyeMeasure n h v s
  | .eyeClr => Sys2Proof.Machine.execEyeClr s
  | .losAssert n => Sys2Proof.Machine.execLosAssert n s
  | .losClear n => Sys2Proof.Machine.execLosClear n s
  | .codewordRx l r => Sys2Proof.Machine.execCodewordRx l r s
  | .videoCell l c => Sys2Proof.Machine.execVideoCell l c s
  | .ancCell l c => Sys2Proof.Machine.execAncCell l c s
  | .audioCell l c => Sys2Proof.Machine.execAudioCell l c s
  | .marker l m => Sys2Proof.Machine.execMarker l m s
  | .hello l m => Sys2Proof.Machine.execHello l m s
  | .echoReq l id t1 => Sys2Proof.Machine.execEchoReq l id t1 s
  | .echoRsp l id t1 t2 t3 => Sys2Proof.Machine.execEchoRsp l id t1 t2 t3 s
  | .mailbox l msg => Sys2Proof.Machine.execMailbox l msg s
  | .cellSlot l => Sys2Proof.Machine.execCellSlot l s
  | .echoReqTx l => Sys2Proof.Machine.execEchoReqTx l s
  | .helloTx l => Sys2Proof.Machine.execHelloTx l s
  | .ulinkEnable l v => Sys2Proof.Machine.execUlinkEnable l v s
  | .helloTimeout l => Sys2Proof.Machine.execHelloTimeout l s
  | .markTimeout l => Sys2Proof.Machine.execMarkTimeout l s
  | .ulinkTxvWrite k v => Sys2Proof.Machine.execUlinkTxvWrite k v s
  | .ulinkTxaWrite l w => Sys2Proof.Machine.execUlinkTxaWrite l w s
  | .mbSend l v => Sys2Proof.Machine.execMbSend l v s
  | .mbPop l v => Sys2Proof.Machine.execMbPop l v s
  | .sdiRxEnable n v => Sys2Proof.Machine.execSdiRxEnable n v s
  | .sdiRxDisable n v => Sys2Proof.Machine.execSdiRxDisable n v s
  | .sdiLineRx n l => Sys2Proof.Machine.execSdiLineRx n l s
  | .pidTimeout n => Sys2Proof.Machine.execPidTimeout n s
  | .sdiTxEnable n v => Sys2Proof.Machine.execSdiTxEnable n v s
  | .sdiTxDisable n v => Sys2Proof.Machine.execSdiTxDisable n v s
  | .sdiTxLine n second line => Sys2Proof.Machine.execSdiTxLine n second line s
  | .mportEnable p v => Sys2Proof.Machine.execMportEnable p v s
  | .mportDisable p v => Sys2Proof.Machine.execMportDisable p v s
  | .mediaFrameRx p f => Sys2Proof.Machine.execMediaFrameRx p f s
  | .pauseEnd p => Sys2Proof.Machine.execPauseEnd p s
  | .mportLinkDown p => Sys2Proof.Machine.execMportLinkDown p s
  | .mportLinkUp p => Sys2Proof.Machine.execMportLinkUp p s
  | .hostFrameTx p => Sys2Proof.Machine.execHostFrameTx p s
  | .flowCmdQueue v => Sys2Proof.Machine.execFlowCmdQueue v s
  | .flowInsert => Sys2Proof.Machine.execFlowInsert s
  | .flowDelete => Sys2Proof.Machine.execFlowDelete s
  | .flowLookup => Sys2Proof.Machine.execFlowLookup s
  | .flowRead => Sys2Proof.Machine.execFlowRead s
  | .flowModify => Sys2Proof.Machine.execFlowModify s
  | .flowBadCmd => Sys2Proof.Machine.execFlowBadCmd s
  | .flowResPop m => Sys2Proof.Machine.execFlowResPop m s
  | .flowAgedPop m => Sys2Proof.Machine.execFlowAgedPop m s
  | .flowAgePass => Sys2Proof.Machine.execFlowAgePass s
  | .flowInitDone => Sys2Proof.Machine.execFlowInitDone s
  | .rxcEnable c v => Sys2Proof.Machine.execRxcEnable c v s
  | .rxcTimeout c => Sys2Proof.Machine.execRxcTimeout c s
  | .rxcLineClose c => Sys2Proof.Machine.execRxcLineClose c s
  | .mergeEnable m v => Sys2Proof.Machine.execMergeEnable m v s
  | .mergeRelease m => Sys2Proof.Machine.execMergeRelease m s
  | .txcEnable t v => Sys2Proof.Machine.execTxcEnable t v s
  | .mediaPacketTx t frame k => Sys2Proof.Machine.execMediaPacketTx t frame k s
  | .overlapWrite v => Sys2Proof.Machine.execOverlapWrite v s
  | .fsArmWrite n v => Sys2Proof.Machine.execFsArmWrite n v s
  | .lineWrite n l => Sys2Proof.Machine.execLineWrite n l s
  | .lineRead o frame line offsets bad => Sys2Proof.Machine.execLineRead o frame line offsets bad s
  | .threadCreate m v => Sys2Proof.Machine.execThreadCreate m v s
  | .threadDelete m v => Sys2Proof.Machine.execThreadDelete m v s
  | .threadRestart m v => Sys2Proof.Machine.execThreadRestart m v s
  | .threadStop m v => Sys2Proof.Machine.execThreadStop m v s
  | .threadCmdBad v => Sys2Proof.Machine.execThreadCmdBad v s
  | .budgetChange m t v => Sys2Proof.Machine.execBudgetChange m t v s
  | .shareWrite n v => Sys2Proof.Machine.execShareWrite n v s
  | .engineErr e => Sys2Proof.Machine.execEngineErr e s
  | .tqWrite m v => Sys2Proof.Machine.execTqWrite m v s
  | .psSwapArm v => Sys2Proof.Machine.execPsSwapArm v s
  | .psSwapAt n => Sys2Proof.Machine.execPsSwapAt n s
  | .programStoreWrite a data => Sys2Proof.Machine.execProgramStoreWrite a data s
  | .cueInitDone => Sys2Proof.Machine.execCueInitDone s
  | .cueAdd t => Sys2Proof.Machine.execCueAdd t s
  | .cueAddi t => Sys2Proof.Machine.execCueAddi t s
  | .cueSub t => Sys2Proof.Machine.execCueSub t s
  | .cueAnd t => Sys2Proof.Machine.execCueAnd t s
  | .cueOr t => Sys2Proof.Machine.execCueOr t s
  | .cueXor t => Sys2Proof.Machine.execCueXor t s
  | .cueShl t => Sys2Proof.Machine.execCueShl t s
  | .cueShr t => Sys2Proof.Machine.execCueShr t s
  | .cueLdi t => Sys2Proof.Machine.execCueLdi t s
  | .cueLdhi t => Sys2Proof.Machine.execCueLdhi t s
  | .cueCmp t => Sys2Proof.Machine.execCueCmp t s
  | .cueCmpi t => Sys2Proof.Machine.execCueCmpi t s
  | .cueBr t => Sys2Proof.Machine.execCueBr t s
  | .cueCall t => Sys2Proof.Machine.execCueCall t s
  | .cueRet t => Sys2Proof.Machine.execCueRet t s
  | .cueYield t => Sys2Proof.Machine.execCueYield t s
  | .cueHalt t => Sys2Proof.Machine.execCueHalt t s
  | .cueWaitf t => Sys2Proof.Machine.execCueWaitf t s
  | .cueWaitt t => Sys2Proof.Machine.execCueWaitt t s
  | .cueLds t => Sys2Proof.Machine.execCueLds t s
  | .cueSts t => Sys2Proof.Machine.execCueSts t s
  | .cueSense t => Sys2Proof.Machine.execCueSense t s
  | .cueLdt t => Sys2Proof.Machine.execCueLdt t s
  | .cuePopt t => Sys2Proof.Machine.execCuePopt t s
  | .cueEvt t => Sys2Proof.Machine.execCueEvt t s
  | .cueTake t => Sys2Proof.Machine.execCueTake t s
  | .cueTakep t => Sys2Proof.Machine.execCueTakep t s
  | .cueHold t => Sys2Proof.Machine.execCueHold t s
  | .cuePipe t => Sys2Proof.Machine.execCuePipe t s
  | .cueAtake t => Sys2Proof.Machine.execCueAtake t s
  | .cueAgain t => Sys2Proof.Machine.execCueAgain t s
  | .cueAmute t => Sys2Proof.Machine.execCueAmute t s
  | .cueAzx t => Sys2Proof.Machine.execCueAzx t s
  | .cueAgrp t => Sys2Proof.Machine.execCueAgrp t s
  | .cueLsrc t => Sys2Proof.Machine.execCueLsrc t s
  | .cueLgeom t => Sys2Proof.Machine.execCueLgeom t s
  | .cueLalpha t => Sys2Proof.Machine.execCueLalpha t s
  | .cueLorder t => Sys2Proof.Machine.execCueLorder t s
  | .cueLcommit t => Sys2Proof.Machine.execCueLcommit t s
  | .cueSafe t => Sys2Proof.Machine.execCueSafe t s
  | .cueSignal t => Sys2Proof.Machine.execCueSignal t s
  | .cueTally t => Sys2Proof.Machine.execCueTally t s
  | .cueGpo t => Sys2Proof.Machine.execCueGpo t s
  | .ttbRead a => Sys2Proof.Machine.execTtbRead a s
  | .ttbTake v late => Sys2Proof.Machine.execTtbTake v late s
  | .stageArg v => Sys2Proof.Machine.execStageArg v s
  | .stageAtLo v => Sys2Proof.Machine.execStageAtLo v s
  | .stageAtHi v => Sys2Proof.Machine.execStageAtHi v s
  | .wrBad a v => Sys2Proof.Machine.execWrBad a v s
  | .ttbEnable v => Sys2Proof.Machine.execTtbEnable v s
  | .ttbDisable v => Sys2Proof.Machine.execTtbDisable v s
  | .clkLost => Sys2Proof.Machine.execClkLost s
  | .audioPeriod => Sys2Proof.Machine.execAudioPeriod s
  | .zxTimeout o => Sys2Proof.Machine.execZxTimeout o s
  | .audioSampleIn k x => Sys2Proof.Machine.execAudioSampleIn k x s
  | .audioGroupCfg g v => Sys2Proof.Machine.execAudioGroupCfg g v s
  | .alignGroupEnable a v => Sys2Proof.Machine.execAlignGroupEnable a v s
  | .asrcEnable c v => Sys2Proof.Machine.execAsrcEnable c v s
  | .asrcLock c ratio => Sys2Proof.Machine.execAsrcLock c ratio s
  | .asrcUnlock c why ratio => Sys2Proof.Machine.execAsrcUnlock c why ratio s
  | .asrcErr u => Sys2Proof.Machine.execAsrcErr u s
  | .csCapture v => Sys2Proof.Machine.execCsCapture v s
  | .serialPortEnable p v => Sys2Proof.Machine.execSerialPortEnable p v s
  | .serialPortDisable p v => Sys2Proof.Machine.execSerialPortDisable p v s
  | .spPinRelease p => Sys2Proof.Machine.execSpPinRelease p s
  | .aes3Subframe p ch f => Sys2Proof.Machine.execAes3Subframe p ch f s
  | .rxLock p rate => Sys2Proof.Machine.execRxLock p rate s
  | .spLost p why => Sys2Proof.Machine.execSpLost p why s
  | .audInitDone => Sys2Proof.Machine.execAudInitDone s
  | .pipeCfgWrite q v => Sys2Proof.Machine.execPipeCfgWrite q v s
  | .pipeErr u => Sys2Proof.Machine.execPipeErr u s
  | .compositorEnable v => Sys2Proof.Machine.execCompositorEnable v s
  | .bandCompose frame band slBad lcBad => Sys2Proof.Machine.execBandCompose frame band slBad lcBad s
  | .late frame band composed => Sys2Proof.Machine.execLate frame band composed s
  | .safelightWrite m a data => Sys2Proof.Machine.execSafelightWrite m a data s
  | .safeLock m v => Sys2Proof.Machine.execSafeLock m v s
  | .captureGo v => Sys2Proof.Machine.execCaptureGo v s
  | .captureDone => Sys2Proof.Machine.execCaptureDone s
  | .capAbort => Sys2Proof.Machine.execCapAbort s
  | .scanEnable v => Sys2Proof.Machine.execScanEnable v s
  | .tileEnable t v => Sys2Proof.Machine.execTileEnable t v s
  | .bandSlot frame band => Sys2Proof.Machine.execBandSlot frame band s
  | .pixelUnder p => Sys2Proof.Machine.execPixelUnder p s
  | .frameMarkTx => Sys2Proof.Machine.execFrameMarkTx s
  | .statusReport p f => Sys2Proof.Machine.execStatusReport p f s
  | .tileCool t => Sys2Proof.Machine.execTileCool t s
  | .tileLost t linkDown => Sys2Proof.Machine.execTileLost t linkDown s
  | .ident p f => Sys2Proof.Machine.execIdent p f s
  | .iddata p f => Sys2Proof.Machine.execIddata p f s
  | .idreadTimeout t tag => Sys2Proof.Machine.execIdreadTimeout t tag s
  | .enumTx p => Sys2Proof.Machine.execEnumTx p s
  | .colourLoopTick => Sys2Proof.Machine.execColourLoopTick s
  | .proofClose w => Sys2Proof.Machine.execProofClose w s
  | .handover => Sys2Proof.Machine.execHandover s
  | .lockup c => Sys2Proof.Machine.execLockup c s
  | .coreErr c => Sys2Proof.Machine.execCoreErr c s
  | .hartTimer h => Sys2Proof.Machine.execHartTimer h s
  | .ipiWrite h v => Sys2Proof.Machine.execIpiWrite h v s
  | .l2Maint v => Sys2Proof.Machine.execL2Maint v s
  | .l2EccUncorr m e => Sys2Proof.Machine.execL2EccUncorr m e s
  | .busAccess m x => Sys2Proof.Machine.execBusAccess m x s
  | .busGrant p => Sys2Proof.Machine.execBusGrant p s
  | .lockTo p => Sys2Proof.Machine.execLockTo p s
  | .decodeStall m => Sys2Proof.Machine.execDecodeStall m s
  | .stallAbort v => Sys2Proof.Machine.execStallAbort v s
  | .dmaGo c v => Sys2Proof.Machine.execDmaGo c v s
  | .dmaStop c v => Sys2Proof.Machine.execDmaStop c v s
  | .dmaDescriptorEnd c => Sys2Proof.Machine.execDmaDescriptorEnd c s
  | .mgmtEnable n v => Sys2Proof.Machine.execMgmtEnable n v s
  | .mgmtFrameRx n f => Sys2Proof.Machine.execMgmtFrameRx n f s
  | .mgmtPauseEnd n => Sys2Proof.Machine.execMgmtPauseEnd n s
  | .mgmtFrameTx n => Sys2Proof.Machine.execMgmtFrameTx n s
  | .mgmtLinkDown n => Sys2Proof.Machine.execMgmtLinkDown n s
  | .idmRead m v => Sys2Proof.Machine.execIdmRead m v s
  | .idmReadDone m nack data => Sys2Proof.Machine.execIdmReadDone m nack data s
  | .busStuck m stillLow => Sys2Proof.Machine.execBusStuck m stillLow s
  | .presenceScan acks => Sys2Proof.Machine.execPresenceScan acks s
  | .strapChg slot side => Sys2Proof.Machine.execStrapChg slot side s
  | .calUserWrite q v => Sys2Proof.Machine.execCalUserWrite q v s
  | .xtalFail => Sys2Proof.Machine.execXtalFail s
  | .syspllUnlock => Sys2Proof.Machine.execSyspllUnlock s
  | .pllStart d => Sys2Proof.Machine.execPllStart d s
  | .clockSleep d => Sys2Proof.Machine.execClockSleep d s
  | .tempRead t => Sys2Proof.Machine.execTempRead t s
  | .trip => Sys2Proof.Machine.execTrip s
  | .bistStart => Sys2Proof.Machine.execBistStart s
  | .powerOn => Sys2Proof.Machine.execPowerOn s
  | .brownout aon ns => Sys2Proof.Machine.execBrownout aon ns s
  | .resetNPin ns => Sys2Proof.Machine.execResetNPin ns s
  | .swCoreReset m v => Sys2Proof.Machine.execSwCoreReset m v s
  | .swSystemReset m v => Sys2Proof.Machine.execSwSystemReset m v s
  | .swConfinedReset m v => Sys2Proof.Machine.execSwConfinedReset m v s
  | .dbgReset => Sys2Proof.Machine.execDbgReset s
  | .coreReset => Sys2Proof.Machine.execCoreReset s
  | .systemReset => Sys2Proof.Machine.execSystemReset s
  | .resetRelease b => Sys2Proof.Machine.execResetRelease b s
  | .hartRelease => Sys2Proof.Machine.execHartRelease s
  | .rstCauseRead m => Sys2Proof.Machine.execRstCauseRead m s
  | .healthOk v => Sys2Proof.Machine.execHealthOk v s
  | .startTimeout => Sys2Proof.Machine.execStartTimeout s
  | .wdtExpire => Sys2Proof.Machine.execWdtExpire s
  | .wdtKick v => Sys2Proof.Machine.execWdtKick v s
  | .lcRequest m v => Sys2Proof.Machine.execLcRequest m v s
  | .fstatClear b v => Sys2Proof.Machine.execFstatClear b v s
  | .faultForce b v => Sys2Proof.Machine.execFaultForce b v s
  | .escalationExpire b => Sys2Proof.Machine.execEscalationExpire b s
  | .hbmEccError pc row e => Sys2Proof.Machine.execHbmEccError pc row e s
  | .stackFail h => Sys2Proof.Machine.execStackFail h s
  | .hbmGrant pc waiting => Sys2Proof.Machine.execHbmGrant pc waiting s
  | .vaultRotate m v => Sys2Proof.Machine.execVaultRotate m v s
  | .vaultRetire m v => Sys2Proof.Machine.execVaultRetire m v s
  | .vaultBadCmd m v => Sys2Proof.Machine.execVaultBadCmd m v s
  | .pcCopyDone => Sys2Proof.Machine.execPcCopyDone s
  | .rotationDue t planeB => Sys2Proof.Machine.execRotationDue t planeB s
  | .ledgerHour e ecc => Sys2Proof.Machine.execLedgerHour e ecc s
  | .ledgerSave ok => Sys2Proof.Machine.execLedgerSave ok s
  | .retireRecord m v => Sys2Proof.Machine.execRetireRecord m v s
  | .bistRun v => Sys2Proof.Machine.execBistRun v s
  | .bistStop v => Sys2Proof.Machine.execBistStop v s
  | .bistEnd target done sig expected margin => Sys2Proof.Machine.execBistEnd target done sig expected margin s
  | .fwuPiece m v => Sys2Proof.Machine.execFwuPiece m v s
  | .eraseEscrow m v => Sys2Proof.Machine.execEraseEscrow m v s
  | .verify m v => Sys2Proof.Machine.execVerify m v s
  | .arm m v => Sys2Proof.Machine.execArm m v s
  | .disarm m v => Sys2Proof.Machine.execDisarm m v s
  | .setWrite m v => Sys2Proof.Machine.execSetWrite m v s
  | .ledger m v => Sys2Proof.Machine.execLedger m v s
  | .fwuBadCmd m v => Sys2Proof.Machine.execFwuBadCmd m v s
  | .activation => Sys2Proof.Machine.execActivation s
  | .loaderStatus seq => Sys2Proof.Machine.execLoaderStatus seq s
  | .loaderPiece seq piece flashOk => Sys2Proof.Machine.execLoaderPiece seq piece flashOk s
  | .loaderEraseEscrow seq flashOk => Sys2Proof.Machine.execLoaderEraseEscrow seq flashOk s
  | .loaderVerify seq => Sys2Proof.Machine.execLoaderVerify seq s
  | .loaderStart seq slot => Sys2Proof.Machine.execLoaderStart seq slot s
  | .mgmtLinkUp n partnerSlow => Sys2Proof.Machine.execMgmtLinkUp n partnerSlow s
  | .cdrUnlock n => Sys2Proof.Machine.execCdrUnlock n s
  | .xtalOk => Sys2Proof.Machine.execXtalOk s
  | .fwuCommandDone flashOk => Sys2Proof.Machine.execFwuCommandDone flashOk s
  | .powerSwitchFault e => Sys2Proof.Machine.execPowerSwitchFault e s

end Sys2Proof.Machine
end

