-- ==== Sys2Proof/WellFormed.lean ====
section
/-!
DEFINITION. Which commands are well formed: an index names an element of its register, a transaction keeps R350, byte strings
have the lengths of what they stand for, unit and address operands lie in their ranges.  The meanings are total: what an
ill-formed command does is what they say, and the manual knows no such command.
-/

namespace Sys2Proof

/-- The elements of a register. -/
def RegName.elements (r : RegName) : Nat := r.info.dims.foldl (fun a d => a * d.1) 1

/-- A register has an element. -/
def Reg.has (x : Reg) (i : Nat) : Bool :=
  match x with
  | .n r => Nat.blt i r.elements
  | .flt _ _ => i == 0

/-- A frame has bytes. -/
def frameLenOk (f : List Byte) : Bool := Nat.ble 1 f.length

/-- A line has a number, words of 64 bytes, and a margin for each of them (R121, R176). -/
def LineIn.wf (l : LineIn) : Bool :=
  Nat.ble 1 l.line && l.words.all (fun w => w.length == 64) && l.margins.length == l.words.length

/-- A write lies in the Safelight range of stack A or of stack B (R311). -/
def SafeRange.holds (a n : Nat) : Bool :=
  (Nat.ble 0x03E0000000 a && Nat.ble (a + n) 0x0400000000) || (Nat.ble 0x07E0000000 a && Nat.ble (a + n) 0x0800000000)

/-- A transaction does not cross a 4 KiB boundary, and a write carries a byte for each byte of its beats (R350). -/
def BusOp.wf (x : BusOp) : Bool :=
  let n := (x.more.val + 1) * 2 ^ x.size.val
  Nat.ble (x.addr.toNat % 4096 + n) 4096 && x.data.length == (if x.write then n else 0)

/-- No requester waits twice. -/
def requestersDiffer (l : List Nat) : Bool :=
  match l with
  | [] => true
  | x :: xs => !xs.contains x && requestersDiffer xs

/-- A unit of the Vault, or a block target of BIST (R460). -/
def bistTarget (t : Nat) : Bool := Nat.blt t 294 || (Nat.ble 0x200 t && Nat.ble t 0x204)

/-- A command is well formed. -/
def Instr.wf (i : Instr) : Bool :=
  match i with
  | .registerWrite _ r i _ => Reg.has r i
  | .counterLoRead _ r i => Nat.blt i r.elements
  | .cueOpen _ _ _ => true
  | .threadDispatch _ => true
  | .threadRunStart _ _ => true
  | .shutter _ => true
  | .tallyMirrorSwap _ => true
  | .overlapWindowClose _ => true
  | .refselSample _ => true
  | .sourceQualified _ _ => true
  | .sourceDisqualified _ _ => true
  | .refOffsetSample _ => true
  | .disagree l => l.all (fun p => decide (p.1 < p.2))
  | .loopStepDown _ => true
  | .relock _ => true
  | .phaseBuildDone _ => true
  | .tdEnable _ _ => true
  | .tdDisable _ _ => true
  | .tdPhaseWrite _ _ => true
  | .tdPhaseSlewEnd _ => true
  | .refOutCfgWrite _ => true
  | .refOutPulse => true
  | .refRequal _ => true
  | .ppsTaiArm _ => true
  | .ppsInEdge _ => true
  | .ptpDomainEnable _ _ => true
  | .ptpDomainDisable _ _ => true
  | .sync _ _ => true
  | .followUp _ _ => true
  | .delayReqTx _ => true
  | .delayResp _ _ => true
  | .announce _ _ => true
  | .ptpOtherMessage _ f => frameLenOk f
  | .announceTimeout _ => true
  | .syncTimeout _ => true
  | .etSelWrite _ => true
  | .etDomainSwitch => true
  | .etSwitch => true
  | .etStep => true
  | .etRead _ => true
  | .tileSyncTx => true
  | .tileAnnounceTx => true
  | .tileDelayReq _ _ _ => true
  | .tsqPop _ _ => true
  | .laneAssign _ _ => true
  | .txPllLock _ _ => true
  | .pllLost _ _ => true
  | .pllSwap _ => true
  | .pllRelock _ _ => true
  | .cdrLock _ _ => true
  | .adaptDone _ => true
  | .adaptFail _ => true
  | .adaptRestart _ _ => true
  | .eyeMeasure _ _ _ => true
  | .eyeClr => true
  | .losAssert _ => true
  | .losClear _ => true
  | .codewordRx _ _ => true
  | .videoCell _ c => c.payload.length == 124
  | .ancCell _ c => c.payload.length == 124
  | .audioCell _ c => c.payload.length == 124
  | .marker _ _ => true
  | .hello _ _ => true
  | .echoReq _ _ _ => true
  | .echoRsp _ _ _ _ _ => true
  | .mailbox _ msg => Nat.ble 1 msg.length && Nat.ble msg.length 122
  | .cellSlot _ => true
  | .echoReqTx _ => true
  | .helloTx _ => true
  | .ulinkEnable _ _ => true
  | .helloTimeout _ => true
  | .markTimeout _ => true
  | .ulinkTxvWrite _ _ => true
  | .ulinkTxaWrite _ _ => true
  | .mbSend _ _ => true
  | .mbPop _ _ => true
  | .sdiRxEnable _ _ => true
  | .sdiRxDisable _ _ => true
  | .sdiLineRx _ _ => true
  | .pidTimeout _ => true
  | .sdiTxEnable _ _ => true
  | .sdiTxDisable _ _ => true
  | .sdiTxLine _ _ _ => true
  | .mportEnable _ _ => true
  | .mportDisable _ _ => true
  | .mediaFrameRx _ f => frameLenOk f.eth.bytes
  | .pauseEnd _ => true
  | .mportLinkDown _ => true
  | .mportLinkUp _ => true
  | .hostFrameTx _ => true
  | .flowCmdQueue _ => true
  | .flowInsert => true
  | .flowDelete => true
  | .flowLookup => true
  | .flowRead => true
  | .flowModify => true
  | .flowBadCmd => true
  | .flowResPop _ => true
  | .flowAgedPop _ => true
  | .flowAgePass => true
  | .flowInitDone => true
  | .rxcEnable _ _ => true
  | .rxcTimeout _ => true
  | .rxcLineClose _ => true
  | .mergeEnable _ _ => true
  | .mergeRelease _ => true
  | .txcEnable _ _ => true
  | .mediaPacketTx _ _ _ => true
  | .overlapWrite _ => true
  | .fsArmWrite _ _ => true
  | .lineWrite _ l => LineIn.wf l
  | .lineRead _ _ _ _ bad => bad.all (fun w => w.data.length == 64)
  | .threadCreate _ _ => true
  | .threadDelete _ _ => true
  | .threadRestart _ _ => true
  | .threadStop _ _ => true
  | .threadCmdBad _ => true
  | .budgetChange _ _ _ => true
  | .shareWrite _ _ => true
  | .engineErr _ => true
  | .tqWrite _ _ => true
  | .psSwapArm _ => true
  | .psSwapAt _ => true
  | .programStoreWrite a data => Nat.ble 0x3000000000 a && Nat.ble (a + data.length) 0x3000300000
  | .cueInitDone => true
  | .cueAdd _ => true
  | .cueAddi _ => true
  | .cueSub _ => true
  | .cueAnd _ => true
  | .cueOr _ => true
  | .cueXor _ => true
  | .cueShl _ => true
  | .cueShr _ => true
  | .cueLdi _ => true
  | .cueLdhi _ => true
  | .cueCmp _ => true
  | .cueCmpi _ => true
  | .cueBr _ => true
  | .cueCall _ => true
  | .cueRet _ => true
  | .cueYield _ => true
  | .cueHalt _ => true
  | .cueWaitf _ => true
  | .cueWaitt _ => true
  | .cueLds _ => true
  | .cueSts _ => true
  | .cueSense _ => true
  | .cueLdt _ => true
  | .cuePopt _ => true
  | .cueEvt _ => true
  | .cueTake _ => true
  | .cueTakep _ => true
  | .cueHold _ => true
  | .cuePipe _ => true
  | .cueAtake _ => true
  | .cueAgain _ => true
  | .cueAmute _ => true
  | .cueAzx _ => true
  | .cueAgrp _ => true
  | .cueLsrc _ => true
  | .cueLgeom _ => true
  | .cueLalpha _ => true
  | .cueLorder _ => true
  | .cueLcommit _ => true
  | .cueSafe _ => true
  | .cueSignal _ => true
  | .cueTally _ => true
  | .cueGpo _ => true
  | .ttbRead _ => true
  | .ttbTake _ _ => true
  | .stageArg _ => true
  | .stageAtLo _ => true
  | .stageAtHi _ => true
  | .wrBad _ _ => true
  | .ttbEnable _ => true
  | .ttbDisable _ => true
  | .clkLost => true
  | .audioPeriod => true
  | .zxTimeout _ => true
  | .audioSampleIn _ _ => true
  | .audioGroupCfg _ _ => true
  | .alignGroupEnable _ _ => true
  | .asrcEnable _ _ => true
  | .asrcLock _ _ => true
  | .asrcUnlock _ _ _ => true
  | .asrcErr _ => true
  | .csCapture _ => true
  | .serialPortEnable _ _ => true
  | .serialPortDisable _ _ => true
  | .spPinRelease _ => true
  | .aes3Subframe _ _ _ => true
  | .rxLock _ _ => true
  | .spLost _ _ => true
  | .audInitDone => true
  | .pipeCfgWrite _ _ => true
  | .pipeErr _ => true
  | .compositorEnable _ => true
  | .bandCompose _ _ _ _ => true
  | .late _ _ _ => true
  | .safelightWrite _ a data => SafeRange.holds a data.length
  | .safeLock _ _ => true
  | .captureGo _ => true
  | .captureDone => true
  | .capAbort => true
  | .scanEnable _ => true
  | .tileEnable _ _ => true
  | .bandSlot _ _ => true
  | .pixelUnder _ => true
  | .frameMarkTx => true
  | .statusReport _ f => frameLenOk f.bytes
  | .tileCool _ => true
  | .tileLost _ _ => true
  | .ident _ f => frameLenOk f.bytes
  | .iddata _ f => frameLenOk f.bytes
  | .idreadTimeout _ _ => true
  | .enumTx _ => true
  | .colourLoopTick => true
  | .proofClose _ => true
  | .handover => true
  | .lockup _ => true
  | .coreErr _ => true
  | .hartTimer _ => true
  | .ipiWrite _ _ => true
  | .l2Maint _ => true
  | .l2EccUncorr _ _ => true
  | .busAccess _ x => BusOp.wf x
  | .busGrant _ => true
  | .lockTo _ => true
  | .decodeStall _ => true
  | .stallAbort _ => true
  | .dmaGo _ _ => true
  | .dmaStop _ _ => true
  | .dmaDescriptorEnd _ => true
  | .mgmtEnable _ _ => true
  | .mgmtFrameRx _ f => frameLenOk f.bytes
  | .mgmtPauseEnd _ => true
  | .mgmtFrameTx _ => true
  | .mgmtLinkDown _ => true
  | .idmRead _ _ => true
  | .idmReadDone _ _ data => Nat.ble data.length 128
  | .busStuck _ _ => true
  | .presenceScan _ => true
  | .strapChg _ _ => true
  | .calUserWrite _ _ => true
  | .xtalFail => true
  | .syspllUnlock => true
  | .pllStart _ => true
  | .clockSleep _ => true
  | .tempRead t => t.length == 16
  | .trip => true
  | .bistStart => true
  | .powerOn => true
  | .brownout _ _ => true
  | .resetNPin _ => true
  | .swCoreReset _ _ => true
  | .swSystemReset _ _ => true
  | .swConfinedReset _ _ => true
  | .dbgReset => true
  | .coreReset => true
  | .systemReset => true
  | .resetRelease _ => true
  | .hartRelease => true
  | .rstCauseRead _ => true
  | .healthOk _ => true
  | .startTimeout => true
  | .wdtExpire => true
  | .wdtKick _ => true
  | .lcRequest _ _ => true
  | .fstatClear _ _ => true
  | .faultForce _ _ => true
  | .escalationExpire _ => true
  | .hbmEccError _ _ _ => true
  | .stackFail _ => true
  | .hbmGrant _ l => requestersDiffer (l.map (fun x => x.1.val))
  | .vaultRotate _ _ => true
  | .vaultRetire _ _ => true
  | .vaultBadCmd _ _ => true
  | .pcCopyDone => true
  | .rotationDue _ _ => true
  | .ledgerHour _ _ => true
  | .ledgerSave _ => true
  | .retireRecord _ _ => true
  | .bistRun _ => true
  | .bistStop _ => true
  | .bistEnd t _ _ _ _ => bistTarget t
  | .fwuPiece _ _ => true
  | .eraseEscrow _ _ => true
  | .verify _ _ => true
  | .arm _ _ => true
  | .disarm _ _ => true
  | .setWrite _ _ => true
  | .ledger _ _ => true
  | .fwuBadCmd _ _ => true
  | .activation => true
  | .loaderStatus _ => true
  | .loaderPiece _ p _ => Nat.ble 32 p.length && Nat.ble p.length 4128
  | .loaderEraseEscrow _ _ => true
  | .loaderVerify _ => true
  | .loaderStart _ _ => true
  | .mgmtLinkUp _ _ => true
  | .cdrUnlock _ => true
  | .xtalOk => true
  | .fwuCommandDone _ => true
  | .powerSwitchFault _ => true

end Sys2Proof
end

