-- ==== Sys2Proof/Safety.lean ====
section
/-!
DEFINITION. What counts as a safe state and a safe step, in the terms that claims use.
-/

namespace Sys2Proof

/-- Every command that waits is well formed. -/
def Machine.State.queueWf (s : Machine.State) : Bool := s.pending.all Instr.wf

/-- The state's own representation is in order: memory lists each byte once, in ascending address, and none at the value that
an unlisted address reads as. -/
def Machine.State.safe (s : Machine.State) : Bool := s.mem.wf

/-- A step is safe: it answers a next state, which is in order. -/
def Machine.stepSafe (s : Machine.State) : Prop := ∃ t, Machine.step s = .next t ∧ t.safe = true

/-- A fault source's FSTAT bit is 1 (R424). -/
def Machine.State.isSet (s : Machine.State) (x : Src) : Bool := (s.faults x.blk).fstat.getLsbD x.bit

/-- Two states hold the same registers but for those named. -/
def Machine.regsBut (rs : List RegName) (s t : Machine.State) : Prop := ∀ r i, r ∉ rs → t.reg r i = s.reg r i

/-- Two states hold the same registers but for element `n` of those named. -/
def Machine.regsButAt (rs : List RegName) (n : Nat) (s t : Machine.State) : Prop :=
  ∀ r i, (r ∈ rs → i ≠ n) → t.reg r i = s.reg r i

/-- Two states agree but for the registers and the fault registers with ALERT_N, which follows them (R433). -/
def Machine.onlyRegs (s t : Machine.State) : Prop := t = { s with regs := t.regs, flt := t.flt, alertLow := t.alertLow }

/-- The queue and every byte of memory are as before. -/
def Machine.still (s t : Machine.State) : Prop := t.pending = s.pending ∧ t.mem = s.mem

/-! ### The cue program of a thread (chapter 09) -/

/-- Thread `t` runs as `x` and stands at word `w`, an instruction of op `op` whose last cycle ends before S(N) and which meets
no cause of a fault (R217, R226, R239). -/
def Machine.State.standsAt (s : Machine.State) (t op : Nat) (x : Machine.Thread) (w : Word) : Prop :=
  s.thread? t = some x ∧ x.st = 2 ∧ s.cueFetch (s.thrTd t) x.ctx.pc = w ∧ Machine.cueOp w = op ∧ s.cueFault t x.ctx w = 0
    ∧ ∃ f, (s.tdOf (s.thrTd t)).opened = some f ∧ x.clock + (Machine.cueCost x.ctx w : Nat) < f.shutter

/-- From `s` to `u` thread `t` completed one instruction of its run, `x` before and `y` after it: a unit of budget is used,
the run goes on unless the budget is used up (R206, R226), and no other thread changes. -/
def Machine.ran (t : Nat) (x y : Machine.Thread) (s u : Machine.State) : Prop :=
  u.thread? t = some y ∧ y.used = x.used + 1 ∧ (x.used + 1 < x.budget → y.st = 2 ∧ y.eng = x.eng)
    ∧ (x.budget ≤ x.used + 1 → y.st = 1 ∧ y.eng = none ∧ y.bover = true ∧ u.isSet Src.CUE_BUDGET_OVER = true)
    ∧ (∀ k, k ≠ t → u.thread? k = s.thread? k) ∧ u.pending = s.pending

/-- As `ran`, and but for the count of a budget stop no register changes, nor a byte of memory. -/
def Machine.ranAlone (t : Nat) (x y : Machine.Thread) (s u : Machine.State) : Prop :=
  Machine.ran t x y s u ∧ u.mem = s.mem
    ∧ Machine.regsBut [.CUE_THR_STAT, .CUE_THR_BOVER, .CUE_BUDGET_OVER_CNT] s u ∧ (x.used + 1 < x.budget → u.regs = s.regs)

/-- From `c` to `c'` general register `d` takes `v` and every other one keeps its value; g0 reads 0 in both (R225). -/
def Machine.sets (d : Nat) (v : Word) (c c' : Machine.ThrCtx) : Prop :=
  ∀ r, c'.val r = if r = d ∧ r ≠ 0 then v else c.val r

/-! ### Resets (chapter 18) -/

/-- The registers that a system reset not only clears: those of the units' roles and states, of reset control and of
the clocks. -/
def Machine.roleRegs : List RegName :=
  [.XPT_SLICE_STAT, .CUE_ENG_STAT, .WCOMP_UNIT, .WCOMP_PIPE_STAT, .AUD_ASRC_UNIT, .AUD_ASRC_STAT, .CPU_CORE_STAT,
    .LANE_QUAD_STAT, .VAULT_LG_HRS, .VAULT_LG_BIST, .VAULT_LG_VMIN, .CLK_STAT, .RST_CAUSE, .RST_STAT, .RST_SYS_CNT]

/-- From `s` to `t` a system reset has begun (R403, R406, R517): every register field of reach S or C is at its reset value,
those of reach P are kept; lanes, links, routes, threads, groups and the bus are as after reset; the stretch runs for 2 ms;
HBM, OTP and the queue are as before. -/
def Machine.systemBegun (s t : Machine.State) : Prop :=
  t.rst.level = 3 ∧ t.rst.relAt = s.now + 2000000 ∧ t.rst.inStart = false ∧ t.rst.wdtOn = false
    ∧ t.reg .RST_SYS_CNT 0 = BitVec.ofNat 32 (min (2 ^ 32 - 1) ((s.reg .RST_SYS_CNT 0).toNat + 1))
    ∧ (∀ r i, r ∉ Machine.roleRegs →
        t.reg r i = (s.reg r i &&& Machine.sysKeep r) ||| (r.resetWord i &&& ~~~ Machine.sysKeep r))
    ∧ t.wire = Machine.State.reset.wire ∧ t.quad = Machine.State.reset.quad ∧ t.ul = Machine.State.reset.ul
    ∧ t.ptp = Machine.State.reset.ptp ∧ t.td = Machine.State.reset.td ∧ t.sdi = Machine.State.reset.sdi
    ∧ t.mport = Machine.State.reset.mport ∧ t.flow = Machine.State.reset.flow ∧ t.xpt = Machine.State.reset.xpt
    ∧ t.cue.thr = Machine.State.reset.cue.thr ∧ t.ttb = Machine.State.reset.ttb ∧ t.wcomp = Machine.State.reset.wcomp
    ∧ t.wscan = Machine.State.reset.wscan ∧ t.bus = Machine.State.reset.bus ∧ t.mgmt = Machine.State.reset.mgmt
    ∧ t.hbm = Machine.State.reset.hbm ∧ t.clk = Machine.State.reset.clk ∧ t.otp = s.otp ∧ t.now = s.now
    ∧ (∀ a, a < 0x800000000 → t.mem.read a = s.mem.read a) ∧ t.pending = s.pending

/-- From `s` to `t` a core reset has begun (R403, R406, R409): no hart runs, the cores' and DMA's bus transactions are gone,
fields of reach C are at their reset values, the others and the datapath are as before; the stretch runs for 2 ms. -/
def Machine.coreBegun (s t : Machine.State) : Prop :=
  t.rst.level = 2 ∧ t.rst.relAt = s.now + 2000000 ∧ t.rst.inStart = false ∧ t.rst.wdtOn = false
    ∧ t.reg .RST_CORE_CNT 0 = BitVec.ofNat 32 (min (2 ^ 32 - 1) ((s.reg .RST_CORE_CNT 0).toNat + 1))
    ∧ t.fld F.CPU_STAT_HARTS_UP 0 = 0 ∧ (∀ m, m < 7 → m ≠ 5 → t.bus.req.find? m = none) ∧ t.bus.dma = .empty
    ∧ (∀ r i, r ∉ [.RST_CAUSE, .RST_STAT, .RST_CORE_CNT, .CPU_STAT] →
        t.reg r i = (s.reg r i &&& Machine.coreKeep r) ||| (r.resetWord i &&& ~~~ Machine.coreKeep r))
    ∧ t.wire = s.wire ∧ t.quad = s.quad ∧ t.ul = s.ul ∧ t.ptp = s.ptp ∧ t.td = s.td ∧ t.sdi = s.sdi ∧ t.mport = s.mport
    ∧ t.flow = s.flow ∧ t.xpt = { s.xpt with hbm := t.xpt.hbm } ∧ t.cue = s.cue ∧ t.ttb = s.ttb ∧ t.aud = s.aud ∧ t.wcomp = s.wcomp
    ∧ t.wscan = s.wscan ∧ t.mgmt = s.mgmt ∧ t.vault = s.vault ∧ t.hbm = s.hbm ∧ t.clk = s.clk ∧ t.now = s.now
    ∧ Machine.still s t

end Sys2Proof
end

