-- ==== Sys2Proof/Certificates/Slice0/Obligations.lean ====
section
/-!
DEFINITION. The statements for the provers. Each says, for the commands it names, that exec answers a next state on every state
and operands that meet its hypotheses, what that state holds, and what is as before. A docstring begins with the rules of spec/
that a statement draws on; OBLIGATIONS.json says which of them a statement gives whole.
-/

open Sys2Proof

/-- For every command `c` and every state: a step with `c` at the front of the queue is `exec c` on the state with the queue's
rest. The model's choice (notes/assumptions/50.md): on an empty queue one nanosecond passes, and no register changes. -/
def Obligations.StepRunsTheFrontCommand : Prop :=
  (∀ (c : Instr) (s : Machine.State), Machine.step { s with pending := c :: s.pending } = Machine.exec c s) ∧
  (∀ (c : Instr) (rest : List Instr) (s : Machine.State), s.pending = c :: rest →
    Machine.step s = Machine.exec c { s with pending := rest }) ∧
  (∀ s : Machine.State, s.pending = [] → ∃ t, Machine.step s = .next t ∧ t.now = s.now + 1 ∧ t.regs = s.regs
    ∧ Machine.still s t)

/-- Every command completes: on every state whose memory is in canonical form, whatever its operands, it answers a next
state, leaves the queue to the step, and keeps the canonical form. -/
def Obligations.EveryCommandCompletes : Prop :=
  ∀ (c : Instr) (s : Machine.State), s.mem.wf = true →
    ∃ t, Machine.exec c s = .next t ∧ t.pending = s.pending ∧ t.mem.wf = true

/-- Every step from a state whose memory is in canonical form answers a state whose memory is in canonical form, and takes
one command from the queue. -/
def Obligations.StepKeepsMemoryCanonical : Prop :=
  ∀ s t : Machine.State, s.mem.wf = true → Machine.step s = .next t → t.mem.wf = true ∧ t.pending = s.pending.tail

/-- R2, R3, R6, R220, R258, R396, R398, R410, R414, R417, R435: what the release of a power-on reset leaves: RST_CAUSE = POR, the
defaults of the watchdog, the start window, the power cap, the thermal warning and every escalation period, no fault recorded,
no thread, no command; and memory in canonical form (notes/assumptions/4.md: its contents are the model's choice). -/
def Obligations.ResetLeavesTheStatedValues : Prop :=
  let s := Machine.State.reset
  s.pending = [] ∧ s.mem.wf = true ∧ s.rst.level = 4 ∧ s.reg .RST_CAUSE 0 = 1 ∧ s.fld F.RST_WDT_CFG_PERIOD 0 = 10000
    ∧ s.flag F.RST_WDT_CFG_EN 0 = true ∧ s.fld F.RST_HEALTH_START_WINDOW 0 = 120 ∧ s.fld F.RST_WDT_STAT_ESC_WINDOW 0 = 600
    ∧ s.fld F.PWR_BIST_CAP_CAP 0 = 2400 ∧ s.fld F.PWR_THERM_CFG_THERM_WARN 0 = 100
    ∧ (∀ b, (s.faults b).fstat = 0 ∧ (s.faults b).freal = 0 ∧ (s.faults b).period = 1000 ∧ (s.faults b).expiry = none)
    ∧ (∀ t, s.thread? t = none) ∧ s.flag F.XPT_STAT_INIT_DONE 0 = false ∧ s.alertLow = false
    ∧ (∀ m, s.bus.req.find? m = none) ∧ s.refsel = 0 ∧ s.fld F.CPU_STAT_HARTS_UP 0 = 0

/-- R6: an event counter counts up to all ones and stays there; a write of any value clears a 32-bit counter, one counter of
each block named; a write of NAME_LO clears both halves of each 64-bit counter, and a write of NAME_HI changes neither half. -/
def Obligations.CountersSaturateAndClear : Prop :=
  (∀ (r : RegName) (i : Nat) (s : Machine.State),
    ((s.bump r i).reg r i).toNat = min (2 ^ 32 - 1) ((s.reg r i).toNat + 1) ∧ Machine.regsButAt [r] i s (s.bump r i)) ∧
  (∀ (lo hi : RegName) (i : Nat) (s : Machine.State), lo ≠ hi →
    ((s.bump64 lo hi i).reg lo i).toNat + ((s.bump64 lo hi i).reg hi i).toNat * 2 ^ 32
      = min (2 ^ 64 - 1) ((s.reg lo i).toNat + (s.reg hi i).toNat * 2 ^ 32 + 1)) ∧
  (∀ (m : Fin 8) (i : Nat) (v : Word) (s : Machine.State), s.dbgDenied m = false →
    ∀ r ∈ [RegName.RST_SYS_CNT, .CLK_SLEEP_CNT, .PWR_CAP_HOLD_CNT, .BUS_STALL_CNT, .CPU_LOCKUP_CNT, .VAULT_ROT_CNT,
        .BIST_PASS_CNT, .IDM_NACK_CNT, .FWU_PIECE_CNT, .TTB_TAKE_CNT, .PTP_DOM_SYNC_CNT, .MGMT_RX_FCS, .LANE_LOS_CNT,
        .SDI_RX_TRS_ERR, .MPORT_RX_FCS, .FLOW_HIT, .XPT_REFUSE_CNT, .CUE_TQ_FULL_CNT, .AUD_XFADE_CNT, .WCOMP_LATE_CNT,
        .WSCAN_HOT_CNT, .HBM_ECC_CORR_CNT, .ULINK_FEC_CORR],
      i < Machine.regCount r → ∃ t, Machine.exec (.registerWrite m (.n r) i v) s = .next t ∧ t.reg r i = 0
        ∧ Machine.regsButAt [r] i s t ∧ Machine.onlyRegs s t ∧ t.flt = s.flt) ∧
  (∀ (m : Fin 8) (i : Nat) (v : Word) (s : Machine.State), s.dbgDenied m = false →
    ∀ p ∈ [(RegName.MGMT_RX_FRAMES_LO, RegName.MGMT_RX_FRAMES_HI), (.MGMT_TX_FRAMES_LO, .MGMT_TX_FRAMES_HI),
        (.MPORT_RX_FRAMES_LO, .MPORT_RX_FRAMES_HI), (.MPORT_TX_FRAMES_LO, .MPORT_TX_FRAMES_HI),
        (.MPORT_TXC_PKTS_LO, .MPORT_TXC_PKTS_HI)],
      i < Machine.regCount p.1 →
      (∃ t, Machine.exec (.registerWrite m (.n p.1) i v) s = .next t ∧ t.reg p.1 i = 0 ∧ t.reg p.2 i = 0
        ∧ Machine.regsButAt [p.1, p.2] i s t ∧ Machine.onlyRegs s t ∧ t.flt = s.flt)
      ∧ Machine.exec (.registerWrite m (.n p.2) i v) s = .next s)

/-- R2, R3, R5, R6, R353, R423, R425, R426, R429, R435: bit by bit, a write of a register that no rule locks gives RW and RWS
bits their value, clears W1C bits written 1, sets W1S bits written 1 and leaves the others; DBG's write is denied outside
MANUFACTURE and MAINTENANCE; FREAL, FLIVE and FESC_TIMER ignore a write, FEN takes one, a PERIOD of 0 is rejected; a read of
NAME_LO answers it and latches NAME_HI, and the next read of NAME_HI returns the latched word. -/
def Obligations.RegisterAccessesFollowTheTypeCodes : Prop :=
  (∀ (m : Fin 8) (i : Nat) (v : Word) (s : Machine.State), s.dbgDenied m = false →
    ∀ r ∈ [RegName.BUS_DMA_DESC_LO, .CPU_L2_ADDR_LO, .CPU_MTIMECMP_LO, .CPU_CORE_STAT, .VAULT_THR_HOURS, .VAULT_LG_HRS,
        .FWU_ACT_AT_LO, .FWU_PBUF, .TTB_PEEK_ADDR, .PTP_SERVO_KP, .MGMT_STAT, .LANE_STAT, .MPORT_MAC_LO, .MPORT_STAT,
        .FLOW_Q_DATA, .CUE_TQ_W0, .WCOMP_BG_R, .ULINK_MB_TXBUF],
      i < Machine.regCount r → ∃ t, Machine.exec (.registerWrite m (.n r) i v) s = .next t
        ∧ (∀ k, k < 32 → (t.reg r i).getLsbD k
            = if (r.typeMask .rw).getLsbD k = true ∨ (r.typeMask .rws).getLsbD k = true then v.getLsbD k
              else if (r.typeMask .w1c).getLsbD k = true then (s.reg r i).getLsbD k && !v.getLsbD k
              else if (r.typeMask .w1s).getLsbD k = true then (s.reg r i).getLsbD k || v.getLsbD k
              else (s.reg r i).getLsbD k)
        ∧ Machine.regsButAt [r] i s t ∧ Machine.onlyRegs s t ∧ t.flt = s.flt) ∧
  (∀ (r : Reg) (i : Nat) (v : Word) (s : Machine.State), s.lcOpen = false →
    ∃ t, Machine.exec (.registerWrite 7 r i v) s = .next t ∧ t.isSet Src.BUS_ACCESS_DENY = true
      ∧ t.reg .BUS_DENY_CNT 0 = BitVec.ofNat 32 (min (2 ^ 32 - 1) ((s.reg .BUS_DENY_CNT 0).toNat + 1))
      ∧ Machine.regsButAt [.BUS_DENY_CNT, .BUS_FAULT_LAST, .BUS_FAULT_ADDR_LO, .BUS_FAULT_ADDR_HI] 0 s t
      ∧ Machine.onlyRegs s t) ∧
  (∀ (m : Fin 8) (b : Blk) (i : Nat) (v : Word) (s : Machine.State), s.dbgDenied m = false →
    Machine.exec (.registerWrite m (.flt b .FREAL) i v) s = .next s
      ∧ Machine.exec (.registerWrite m (.flt b .FLIVE) i v) s = .next s
      ∧ Machine.exec (.registerWrite m (.flt b .FESC_TIMER) i v) s = .next s
      ∧ (∃ t, Machine.exec (.registerWrite m (.flt b .FEN) i v) s = .next t
          ∧ (t.faults b).fen = v &&& Machine.srcMask b ∧ (t.faults b).expiry = (s.faults b).expiry ∧ t.regs = s.regs
          ∧ Machine.onlyRegs s t)
      ∧ (bitsOf v.toNat 0 16 = 0 → ∃ t, Machine.exec (.registerWrite m (.flt b .FESC_CFG) i v) s = .next t
          ∧ (t.faults b).cfg = (s.faults b).cfg ∧ t.isSet ⟨b, b.cfgReject⟩ = true ∧ Machine.onlyRegs s t)) ∧
  (∀ (m : Fin 8) (i : Nat) (s : Machine.State),
    ∀ p ∈ [(RegName.MGMT_RX_FRAMES_LO, RegName.MGMT_RX_FRAMES_HI), (.MGMT_TX_FRAMES_LO, .MGMT_TX_FRAMES_HI),
        (.MPORT_RX_FRAMES_LO, .MPORT_RX_FRAMES_HI), (.MPORT_TX_FRAMES_LO, .MPORT_TX_FRAMES_HI),
        (.MPORT_TXC_PKTS_LO, .MPORT_TXC_PKTS_HI), (.AUD_PERIOD_LO, .AUD_PERIOD_HI), (.BIST_LAST_DONE_LO, .BIST_LAST_DONE_HI),
        (.BIST_LAST_EXP_LO, .BIST_LAST_EXP_HI), (.PTP_ET_RESID_LO, .PTP_ET_RESID_HI)],
      i < Machine.regCount p.1 →
      (s.latch.find? (Machine.regKey p.1 i) = none → ∃ t, Machine.exec (.counterLoRead m p.1 i) s = .next t
        ∧ t.resp.find? m = some ⟨(s.shown p.1 i).toNat, false⟩
        ∧ t.latch.find? (Machine.regKey p.2 i) = some (s.shown p.2 i) ∧ t.regs = s.regs ∧ t.flt = s.flt ∧ Machine.still s t)
      ∧ (∀ w, s.latch.find? (Machine.regKey p.2 i) = some w → ∃ t, Machine.exec (.counterLoRead m p.2 i) s = .next t
        ∧ t.resp.find? m = some ⟨w.toNat, false⟩ ∧ t.latch.find? (Machine.regKey p.2 i) = none
        ∧ t.regs = s.regs ∧ t.flt = s.flt ∧ Machine.still s t)) ∧
  (∀ (m : Fin 8) (r : RegName) (i : Nat) (s : Machine.State), Machine.regCount r ≤ i →
    Machine.exec (.counterLoRead m r i) s = .next (s.respond m 0))

/-- R428: a source whose FREAL bit is 1 always escalates; one that forced assertions alone have set escalates only while
TEST_ESC = 1; a forced assertion with TEST_ESC = 0 raises the interrupt of a SERVICE source and starts no timer. -/
def Obligations.EscalationFollowsRealAssertions : Prop :=
  (∀ (f : Machine.FaultSet) (k : Nat), f.fstat.getLsbD k = true → f.freal.getLsbD k = true →
    f.escalating.getLsbD k = true) ∧
  (∀ (f : Machine.FaultSet) (k : Nat), k < 32 → f.fstat.getLsbD k = true → f.freal.getLsbD k = false →
    (f.escalating.getLsbD k = true ↔ f.cfg.getLsbD 16 = true)) ∧
  (∀ (b : Blk) (v : Word) (k : Nat) (s : Machine.State), s.lcOpen = true → (s.faults b).cfg.getLsbD 16 = false →
    v = 1#32 <<< k → k ≤ b.cfgReject → (s.faults b).fen.getLsbD k = true →
    ∃ t, Machine.exec (.faultForce b v) s = .next t ∧ t.irq b = true ∧ (t.faults b).freal.getLsbD k = (s.faults b).freal.getLsbD k
      ∧ ((s.faults b).expiry = none → b ≠ .GPIO → (t.faults b).expiry = none))

/-- R34, R36: ten samples in a row that read the same new REFSEL value accept it: PIN shows it, SEL_CHANGE is set, and where
that reference is qualified the loop enters ACQUIRE. Fewer samples, or a value already accepted, change no register. -/
def Obligations.RefselAcceptedAfterTenSamples : Prop :=
  (∀ (v : BitVec 3) (s : Machine.State), s.ref.selCand = v.toNat → 9 ≤ s.ref.selRun → s.refsel ≠ v.toNat →
    s.qualified v.toNat = true →
    ∃ t, Machine.exec (.refselSample v) s = .next t ∧ t.refsel = v.toNat ∧ t.isSet Src.REF_SEL_CHANGE = true ∧ t.loop = 1
      ∧ t.isSet Src.REF_ACQUIRE = true ∧ Machine.still s t) ∧
  (∀ (v : BitVec 3) (s : Machine.State), ((s.ref.selCand = v.toNat → s.ref.selRun < 9) ∨ s.refsel = v.toNat) →
    ∃ t, Machine.exec (.refselSample v) s = .next t ∧ t.refsel = s.refsel ∧ t.loop = s.loop ∧ t.regs = s.regs ∧ t.flt = s.flt
      ∧ Machine.still s t)

/-- R42, R46, R47: a source whose QL is usable and whose monitor is clean, with no drift hold, becomes qualified; the pinned
one starts ACQUIRE, and another one changes neither the loop nor a fault source. A qualified source that fails is
disqualified at once; the pinned one sets SRC_LOST and takes the loop to HOLDOVER. A write of REF_REQUAL lifts the drift hold
of each source that it names, and of no other. -/
def Obligations.SourcesQualifyAndFail : Prop :=
  (∀ (n : Fin 8) (ana : AnaFormat) (s : Machine.State), n.val < 7 → s.sourceQl n ≠ 0 →
    s.sourceQl n ≤ s.fld F.REF_QL_MIN_QL_MIN 0 → (n.val ≤ 1 ∨ n.val = 6 ∧ s.ref.ppsWritten = true ∨ s.sourceClean n = true) →
    s.flag F.REF_SRC_STAT_DRIFT_DQ n = false → s.qualified n = false →
    ∃ t, Machine.exec (.sourceQualified n ana) s = .next t ∧ t.qualified n = true ∧ t.refsel = s.refsel
      ∧ (n.val = s.refsel → t.loop = 1 ∧ t.isSet Src.REF_ACQUIRE = true)
      ∧ (n.val ≠ s.refsel → t.loop = s.loop ∧ t.flt = s.flt ∧ Machine.regsButAt [.REF_SRC_STAT] n s t) ∧ Machine.still s t) ∧
  (∀ (n : Fin 8) (failed : Bool) (s : Machine.State), s.qualified n = true →
    ∃ t, Machine.exec (.sourceDisqualified n failed) s = .next t ∧ t.qualified n = false ∧ t.refsel = s.refsel
      ∧ (n.val = s.refsel → t.isSet Src.REF_SRC_LOST = true
          ∧ (s.loop ≠ 0 → s.loop ≠ 5 → s.ref.hist ≠ [] → t.loop = 5 ∧ t.isSet Src.REF_HOLDOVER = true))
      ∧ (n.val ≠ s.refsel → t.loop = s.loop ∧ t.flt = s.flt ∧ Machine.regsButAt [.REF_SRC_STAT] n s t) ∧ Machine.still s t) ∧
  (∀ (v : Word) (s : Machine.State),
    ∃ t, Machine.exec (.refRequal v) s = .next t
      ∧ (∀ n, n < 8 → t.flag F.REF_SRC_STAT_DRIFT_DQ n = (s.flag F.REF_SRC_STAT_DRIFT_DQ n && !v.getLsbD n))
      ∧ Machine.regsBut [.REF_SRC_STAT] s t ∧ t.flt = s.flt ∧ Machine.still s t)

/-- R43, R44, R45, R48, R49, R50: what the loop's events do. The one-second samples make each sampled source present; a
disagreement of two qualified sources of equal QL sets DISAGREE and changes neither the loop nor a qualification; the loop
steps down to the next narrower state below the threshold, returns to ACQUIRE with RELOCK counted above four times the entry
threshold, and ends its phase build below 1 µs. -/
def Obligations.LoopFollowsItsErrors : Prop :=
  (∀ (samples : List (Fin 8 × Int)) (n : Fin 8) (x : Int) (s : Machine.State), (n, x) ∈ samples →
    ∃ t, Machine.exec (.refOffsetSample samples) s = .next t ∧ t.flag F.REF_SRC_STAT_PRESENT n = true
      ∧ t.refsel = s.refsel ∧ t.ref.second = s.ref.second + 1 ∧ Machine.still s t) ∧
  (∀ (a b : Fin 8) (s : Machine.State), s.disagrees a b = true → s.isSet Src.REF_DISAGREE = false →
    ∃ t, Machine.exec (.disagree [(a, b)]) s = .next t ∧ t.isSet Src.REF_DISAGREE = true
      ∧ t.fld F.REF_DISAGREE_PAIR_SRC_X 0 = a ∧ t.fld F.REF_DISAGREE_PAIR_SRC_Y 0 = b
      ∧ t.reg .REF_DISAGREE_OFS_X 0 = s.reg .REF_SRC_OFFSET a ∧ t.reg .REF_DISAGREE_OFS_Y 0 = s.reg .REF_SRC_OFFSET b
      ∧ Machine.regsBut [.REF_DISAGREE_PAIR, .REF_DISAGREE_OFS_X, .REF_DISAGREE_OFS_Y] s t ∧ Machine.onlyRegs s t) ∧
  (∀ (err : Int) (s : Machine.State), 1 ≤ s.loop → s.loop ≤ 3 → err.natAbs < Machine.stepThreshold s.loop →
    ∃ t, Machine.exec (.loopStepDown err) s = .next t ∧ t.loop = s.loop + 1 ∧ (s.loop = 3 → t.isSet Src.REF_LOCK = true)
      ∧ Machine.regsBut [.REF_PHASE_ERR, .REF_SEL_STAT, .REF_TD_STAT] s t ∧ Machine.onlyRegs s t) ∧
  (∀ (err : Int) (s : Machine.State), 2 ≤ s.loop → s.loop ≤ 4 → 4 * Machine.stepThreshold (s.loop - 1) < err.natAbs →
    ∃ t, Machine.exec (.relock err) s = .next t ∧ t.loop = 1 ∧ t.isSet Src.REF_RELOCK = true ∧ t.isSet Src.REF_ACQUIRE = true
      ∧ t.reg .REF_RELOCK_CNT 0 = BitVec.ofNat 32 (min (2 ^ 32 - 1) ((s.reg .REF_RELOCK_CNT 0).toNat + 1))
      ∧ Machine.still s t) ∧
  (∀ (err : Int) (s : Machine.State), s.flag F.REF_SEL_STAT_SLEWING 0 = true → err.natAbs < 1000000 →
    ∃ t, Machine.exec (.phaseBuildDone err) s = .next t ∧ t.flag F.REF_SEL_STAT_SLEWING 0 = false ∧ t.loop = s.loop
      ∧ Machine.regsBut [.REF_PHASE_ERR, .REF_SEL_STAT, .REF_TD_STAT] s t ∧ t.flt = s.flt ∧ Machine.onlyRegs s t)

/-- R54, R55: a write of REF_TD_CFG that R54 allows sets the register, and one that it ignores changes no register and sets
CFG_REJECT; a write of EN = 0 that acts stops the domain at once, after which the
migrations that waited for it settle (R443); a write of REF_TD_PHASE of at most one frame period takes
the phase, and starts a move where a running domain stands elsewhere; a move that has reached its goal ends. -/
def Obligations.TimingDomainWrites : Prop :=
  (∀ (n : Fin 8) (v : Word) (s : Machine.State), Machine.tdCfgBad n (v ||| 1#32) s = false →
    ∃ t, Machine.exec (.tdEnable n v) s = .next t ∧ t.tdEn n = true ∧ t.fld F.REF_TD_CFG_RATE n = F.REF_TD_CFG_RATE.of v
      ∧ t.fld F.REF_TD_CFG_CUE_OPEN n = F.REF_TD_CFG_CUE_OPEN.of v
      ∧ (s.tdEn n = false → (t.tdOf n).enabledAt = s.etFull ∧ (t.tdOf n).last = none ∧ (t.tdOf n).opened = none)
      ∧ Machine.regsButAt [.REF_TD_CFG] n s t ∧ t.flt = s.flt ∧ Machine.still s t) ∧
  (∀ (n : Fin 8) (v : Word) (s : Machine.State), Machine.tdCfgBad n (v ||| 1#32) s = true →
    ∃ t, Machine.exec (.tdEnable n v) s = .next t ∧ t.regs = s.regs ∧ t.td = s.td ∧ t.isSet Src.REF_CFG_REJECT = true
      ∧ Machine.still s t) ∧
  (∀ (n : Fin 8) (v : Word) (s : Machine.State), Machine.tdCfgBad n (v &&& ~~~ 1#32) s = false → s.tdEn n = true →
    ∃ u, Machine.exec (.tdDisable n v) s = .next (Machine.vaultSettle u) ∧ u.tdEn n = false ∧ u.flag F.REF_TD_STAT_RUN n = false
      ∧ (u.tdOf n).opened = none ∧ Machine.regsButAt [.REF_TD_CFG, .REF_TD_STAT] n s u ∧ u.flt = s.flt ∧ Machine.still s u) ∧
  (∀ (n : Fin 8) (v : Word) (s : Machine.State), 3 * (signed 32 v.toNat).natAbs ≤ s.tf3 n →
    ∃ t, Machine.exec (.tdPhaseWrite n v) s = .next t ∧ t.reg .REF_TD_PHASE n = v
      ∧ Machine.regsButAt [.REF_TD_PHASE, .REF_TD_STAT] n s t ∧ t.flt = s.flt ∧ Machine.still s t) ∧
  (∀ (n : Fin 8) (s : Machine.State), (s.tdOf n).phase = (s.tdOf n).phaseGoal → s.flag F.REF_SEL_STAT_SLEWING 0 = false →
    ∃ t, Machine.exec (.tdPhaseSlewEnd n) s = .next t ∧ t.flag F.REF_TD_STAT_SLEWING n = false
      ∧ Machine.regsButAt [.REF_TD_STAT] n s t ∧ t.flt = s.flt ∧ Machine.still s t)

/-- R38, R41, R56: a write of REF_OUT_CFG drives the pin at its idle level; a pulse of WIDTH × 10 ns then goes out while EN = 1
and MODE gives pulses; a write of REF_PPS_TAI_HI arms the second of the next PPS_IN edge; the edge takes it, and one off
1 s ± 1 µs disqualifies source 6. -/
def Obligations.ReferenceOutputAndPps : Prop :=
  (∀ (v : Word) (s : Machine.State),
    ∃ t, Machine.exec (.refOutCfgWrite v) s = .next t ∧ t.refOut.driven = true ∧ t.refOut.level = v.getLsbD 6
      ∧ t.flag F.REF_OUT_CFG_EN 0 = v.getLsbD 0 ∧ Machine.regsBut [.REF_OUT_CFG] s t ∧ t.flt = s.flt ∧ Machine.still s t) ∧
  (∀ (s : Machine.State), s.refOut.driven = true → s.flag F.REF_OUT_CFG_EN 0 = true → s.fld F.REF_OUT_CFG_MODE 0 ≠ 3 →
    (s.fld F.REF_OUT_CFG_MODE 0 = 2 ∨ s.tdEn (s.fld F.REF_OUT_CFG_TD 0) = true) →
    ∃ t, Machine.exec .refOutPulse s = .next t
      ∧ t.refOut.pulseEnd = some (t.now + t.fld F.REF_OUT_CFG_WIDTH 0 * 10) ∧ t.refOut.level = s.refOut.level
      ∧ t.regs = s.regs ∧ Machine.still s t) ∧
  (∀ (v : Word) (s : Machine.State),
    ∃ t, Machine.exec (.ppsTaiArm v) s = .next t ∧ t.ref.ppsArmed = true ∧ t.ref.ppsWritten = true
      ∧ t.fld F.REF_PPS_TAI_HI_SEC 0 = F.REF_PPS_TAI_HI_SEC.of v ∧ Machine.regsBut [.REF_PPS_TAI_HI] s t ∧ t.flt = s.flt
      ∧ Machine.still s t) ∧
  (∀ (k : Nat) (s : Machine.State), s.ref.ppsArmed = true →
    ∃ t, Machine.exec (.ppsInEdge k) s = .next t ∧ t.ref.ppsArmed = false ∧ t.ref.ppsSecond = s.ppsTai ∧ t.ref.ppsLast = some t.now
      ∧ Machine.still s t)

/-- R60, R65, R66: EN written 1 in DISABLED takes a domain to LISTENING and EN written 0 takes it back to DISABLED; a write
that R60 ignores changes no register and sets CFG_REJECT; no usable Sync, or no Announce of the selected master, takes
ACQUIRING and LOCKED to HOLDOVER, with x_HOLDOVER set and LOST_CNT counted; an Announce is taken into the list of foreign
masters of an enabled domain. -/
def Obligations.PtpDomainStates : Prop :=
  (∀ (d : Fin 2) (v : Word) (s : Machine.State), Machine.domCfgBad d (v ||| 1#32) s = false → s.flag F.PTP_DOM_CFG_EN d = false →
    ∃ t, Machine.exec (.ptpDomainEnable d v) s = .next t ∧ t.ptpState d = 1 ∧ t.flag F.PTP_DOM_CFG_EN d = true
      ∧ Machine.regsButAt [.PTP_DOM_CFG, .PTP_DOM_STAT, .PTP_DOM_FREQ] d s t ∧ Machine.still s t) ∧
  (∀ (d : Fin 2) (v : Word) (s : Machine.State), Machine.domCfgBad d (v ||| 1#32) s = true →
    ∃ t, Machine.exec (.ptpDomainEnable d v) s = .next t ∧ t.regs = s.regs ∧ t.ptp = s.ptp ∧ t.isSet Src.PTP_CFG_REJECT = true
      ∧ Machine.still s t) ∧
  (∀ (d : Fin 2) (v : Word) (s : Machine.State), Machine.domCfgBad d (v &&& ~~~ 1#32) s = false → s.flag F.PTP_DOM_CFG_EN d = true →
    ∃ t, Machine.exec (.ptpDomainDisable d v) s = .next t ∧ t.ptpState d = 0 ∧ t.flag F.PTP_DOM_CFG_EN d = false
      ∧ (t.dom d).time = (s.dom d).time ∧ Machine.regsButAt [.PTP_DOM_CFG, .PTP_DOM_STAT] d s t ∧ Machine.still s t) ∧
  (∀ (d : Fin 2) (s : Machine.State), (s.ptpState d = 2 ∨ s.ptpState d = 3) →
    ∃ t, Machine.exec (.syncTimeout d) s = .next t ∧ t.ptpState d = 4 ∧ t.isSet (Machine.ptpSrc d 2) = true
      ∧ t.reg .PTP_DOM_LOST_CNT d = BitVec.ofNat 32 (min (2 ^ 32 - 1) ((s.reg .PTP_DOM_LOST_CNT d).toNat + 1))
      ∧ Machine.regsButAt [.PTP_DOM_STAT, .PTP_DOM_FREQ, .PTP_DOM_LOST_CNT] d s t ∧ Machine.still s t) ∧
  (∀ (d : Fin 2) (g : Nat) (s : Machine.State), (s.dom d).master = some g → (s.ptpState d = 2 ∨ s.ptpState d = 3) →
    ∃ t, Machine.exec (.announceTimeout d) s = .next t ∧ t.ptpState d = 4 ∧ t.isSet (Machine.ptpSrc d 2) = true
      ∧ (∀ f ∈ (t.dom d).foreign, f.msg.sender ≠ g) ∧ Machine.still s t) ∧
  (∀ (d : Fin 2) (m : AnnounceMsg) (s : Machine.State), s.ptpState d ≠ 0 →
    ∃ t, Machine.exec (.announce d m) s = .next t ∧ (t.dom d).foreign = Machine.noteForeign m (s.dom d).foreign
      ∧ t.flt = s.flt ∧ Machine.still s t)

/-- R61, R63, R66: an accepted Sync gives t2 − t1 − c_s, at once in one step and with its Follow_Up in two, and with an MPD an
offset is counted; a Delay_Req leaves an enabled domain on a port that is up and not paused; the Delay_Resp that answers it
adds one delay sample, of which the last 16 are kept. -/
def Obligations.PtpMessagesGiveOffsetsAndDelays : Prop :=
  (∀ (d : Fin 2) (m : SyncMsg) (s : Machine.State), s.syncAccepted d m.port m.sender = true → m.twoStep = false →
    ∃ t, Machine.exec (.sync d m) s = .next t
      ∧ (t.dom d).syncDiff = some (((s.rxStamp d (s.ptpPort d m.port) : Int) - m.t1) * 2 ^ 16 - m.corr)
      ∧ ((s.dom d).delays ≠ [] → t.reg .PTP_DOM_SYNC_CNT d
          = BitVec.ofNat 32 (min (2 ^ 32 - 1) ((s.reg .PTP_DOM_SYNC_CNT d).toNat + 1))) ∧ Machine.still s t) ∧
  (∀ (d : Fin 2) (m : SyncMsg) (s : Machine.State), s.syncAccepted d m.port m.sender = true → m.twoStep = true →
    ∃ t, Machine.exec (.sync d m) s = .next t
      ∧ (t.dom d).waiting = some ⟨m.port, m.sender, m.seq, s.rxStamp d (s.ptpPort d m.port), m.corr⟩
      ∧ (t.dom d).time = (s.dom d).time ∧ Machine.regsButAt [.PTP_DOM_STAT] d s t ∧ t.flt = s.flt ∧ Machine.still s t) ∧
  (∀ (d : Fin 2) (m : FollowUpMsg) (w : Machine.SyncWait) (s : Machine.State), (s.dom d).waiting = some w → s.ptpState d ≠ 0 →
    w.port = m.port → w.sender = m.sender → w.seq = m.seq →
    ∃ t, Machine.exec (.followUp d m) s = .next t
      ∧ (t.dom d).syncDiff = some (((w.t2 : Int) - m.t1) * 2 ^ 16 - (w.corr + m.corr)) ∧ (t.dom d).waiting = none
      ∧ Machine.still s t) ∧
  (∀ (d : Fin 2) (s : Machine.State), s.ptpState d ≠ 0 → (s.dom d).master ≠ none →
    s.ptpPort d (if s.flag F.PTP_DOM_STAT_ON_PORT1 d then 1 else 0) ≤ 129 →
    s.macUp (s.ptpPort d (if s.flag F.PTP_DOM_STAT_ON_PORT1 d then 1 else 0)) = true →
    s.macPaused (s.ptpPort d (if s.flag F.PTP_DOM_STAT_ON_PORT1 d then 1 else 0)) = false →
    ∃ t, Machine.exec (.delayReqTx d) s = .next t ∧ (t.dom d).dreqSeq = (s.dom d).dreqSeq + 1
      ∧ (t.dom d).dreq = some (s.txStamp d (s.ptpPort d (if s.flag F.PTP_DOM_STAT_ON_PORT1 d then 1 else 0)))
      ∧ t.regs = s.regs ∧ t.flt = s.flt ∧ Machine.still s t) ∧
  (∀ (d : Fin 2) (m : DelayRespMsg) (t3 : Nat) (sd : Int) (s : Machine.State), (s.dom d).dreq = some t3 →
    (s.dom d).syncDiff = some sd → s.ptpState d ≠ 0 → (s.dom d).master = some m.sender → (s.dom d).dreqSeq = m.seq →
    ∃ t, Machine.exec (.delayResp d m) s = .next t
      ∧ (t.dom d).delays = ((sd + (((m.t4 : Int) - t3) * 2 ^ 16 - m.corr)) :: (s.dom d).delays).take 16
      ∧ (t.dom d).dreq = none ∧ Machine.regsButAt [.PTP_DOM_MPD, .PTP_DOM_STAT] d s t ∧ Machine.still s t)

/-- R72 to R76, R83: a write of PTP_ET_CFG that R83 allows is taken, and one that it ignores changes no register; a waiting
switch to a LOCKED target leaves Event Time where it is; the slew ends with R = 0 and ET_SWITCH; a step sets R to 0 and
ET_STEPPED; a read of PTP_ET_LO answers the low word of Event Time and latches the high one. -/
def Obligations.EventTimeNeverStepsUnasked : Prop :=
  (∀ (v : Word) (s : Machine.State), F.PTP_ET_CFG_SEL.of v ≠ 3 → 1 ≤ F.PTP_ET_CFG_SLEW_NS.of v → F.PTP_ET_CFG_SLEW_NS.of v ≤ 10000 →
    ∃ t, Machine.exec (.etSelWrite v) s = .next t ∧ t.fld F.PTP_ET_CFG_SEL 0 = F.PTP_ET_CFG_SEL.of v
      ∧ t.fld F.PTP_ET_CFG_SLEW_NS 0 = F.PTP_ET_CFG_SLEW_NS.of v
      ∧ t.ptp.target = Machine.etTarget (F.PTP_ET_CFG_SEL.of v) s.refsel s.ptp.target
      ∧ Machine.regsBut [.PTP_ET_CFG, .PTP_ET_STAT] s t ∧ Machine.still s t) ∧
  (∀ (v : Word) (s : Machine.State), (F.PTP_ET_CFG_SEL.of v = 3 ∨ F.PTP_ET_CFG_SLEW_NS.of v = 0 ∨ 10000 < F.PTP_ET_CFG_SLEW_NS.of v) →
    ∃ t, Machine.exec (.etSelWrite v) s = .next t ∧ t.regs = s.regs ∧ t.ptp = s.ptp ∧ t.isSet Src.PTP_CFG_REJECT = true
      ∧ Machine.still s t) ∧
  (∀ (s : Machine.State), s.flag F.PTP_ET_STAT_PENDING 0 = true → s.ptpState s.ptp.target = 3 → s.ptp.target ≤ 1 → s.etValid = true →
    ∃ t, Machine.exec .etDomainSwitch s = .next t ∧ t.etFull = s.etFull ∧ t.curDom = s.ptp.target
      ∧ t.flag F.PTP_ET_STAT_PENDING 0 = false ∧ Machine.regsBut [.PTP_ET_STAT] s t ∧ Machine.still s t) ∧
  (∀ (s : Machine.State), s.ptp.resid ≠ 0 → 1 ≤ s.fld F.PTP_ET_CFG_SLEW_NS 0 →
    ∃ t, Machine.exec .etSwitch s = .next t ∧ t.ptp.resid = 0 ∧ t.isSet Src.PTP_ET_SWITCH = true ∧ t.regs = s.regs
      ∧ Machine.still s t) ∧
  (∀ (s : Machine.State),
    ∃ t, Machine.exec .etStep s = .next t ∧ t.ptp.resid = 0 ∧ t.isSet Src.PTP_ET_STEPPED = true ∧ t.regs = s.regs
      ∧ t.now = s.now ∧ Machine.still s t) ∧
  (∀ (m : Fin 8) (s : Machine.State),
    ∃ t, Machine.exec (.etRead m) s = .next t ∧ t.resp.find? m = some ⟨s.et % 2 ^ 32, false⟩
      ∧ t.reg .PTP_ET_HI 0 = BitVec.ofNat 32 (s.et / 2 ^ 32)
      ∧ t.reg .PTP_TOD_NS 0 = BitVec.ofNat 32 (s.etFull.toNat % 1000000000)
      ∧ Machine.regsBut [.PTP_ET_HI, .PTP_TOD_SEC_LO, .PTP_TOD_SEC_HI, .PTP_TOD_NS] s t ∧ t.flt = s.flt ∧ Machine.still s t)

/-- R77, R80, R81, R83: the tile master sends a Sync, and an Announce, on every tile link whose link is up; it answers a
Delay_Req on its own lane and counts one beyond 64 a Sync interval; a read of PTP_TSQ_TAG pops the head of the queue, and an
empty queue answers 0. -/
def Obligations.TileMasterAndStampQueues : Prop :=
  (∀ (p : Nat) (s : Machine.State), s.flag F.PTP_TILE_CFG_EN 0 = true → p < 128 → s.tileLinkUp p = true →
    ∃ t, Machine.exec .tileSyncTx s = .next t ∧ t.ptp.tileDreq = 0
      ∧ t.wire.find? p = some (Machine.tilePtpFrame (Machine.ptpHeader 0 44 (s.fld F.PTP_TILE_CFG_DOMAIN_NUM 0) 0 0
          (s.fld F.PTP_TILE_CFG_LOG_SYNC 0) ++ Machine.ptpTimestamp (s.tileStamp p)))
      ∧ t.regs = s.regs ∧ t.flt = s.flt ∧ Machine.still s t) ∧
  (∀ (p : Nat) (s : Machine.State), s.flag F.PTP_TILE_CFG_EN 0 = true → p < 128 → s.tileLinkUp p = true →
    ∃ t, Machine.exec .tileAnnounceTx s = .next t ∧ (∃ body, t.wire.find? p = some (Machine.tilePtpFrame body))
      ∧ t.regs = s.regs ∧ t.flt = s.flt ∧ Machine.still s t) ∧
  (∀ (p : Fin 128) (sender : Nat) (seq : BitVec 16) (s : Machine.State), s.flag F.PTP_TILE_CFG_EN 0 = true → s.tileLinkUp p = true →
    (s.ptp.tileDreq < 64 → ∃ t, Machine.exec (.tileDelayReq p sender seq) s = .next t ∧ t.ptp.tileDreq = s.ptp.tileDreq + 1
      ∧ (∃ body, t.wire.find? p = some (Machine.tilePtpFrame body)) ∧ t.regs = s.regs ∧ t.flt = s.flt ∧ Machine.still s t) ∧
    (64 ≤ s.ptp.tileDreq → ∃ t, Machine.exec (.tileDelayReq p sender seq) s = .next t ∧ t.wire = s.wire
      ∧ t.reg .PTP_TILE_DREQ_DROP 0 = BitVec.ofNat 32 (min (2 ^ 32 - 1) ((s.reg .PTP_TILE_DREQ_DROP 0).toNat + 1))
      ∧ Machine.regsBut [.PTP_TILE_DREQ_DROP] s t ∧ t.flt = s.flt ∧ Machine.still s t)) ∧
  (∀ (m : Fin 8) (p : Fin 130) (tag : BitVec 16) (stamp : Nat) (q : List (BitVec 16 × Nat)) (s : Machine.State),
    s.tsQueue p = (tag, stamp) :: q →
    ∃ t, Machine.exec (.tsqPop m p) s = .next t ∧ t.tsQueue p = q ∧ t.resp.find? m = some ⟨tag.toNat + 2 ^ 16, false⟩
      ∧ t.reg .PTP_TSQ_TS_LO p = BitVec.ofNat 32 stamp ∧ t.reg .PTP_TSQ_TS_HI p = BitVec.ofNat 32 (stamp / 2 ^ 32)
      ∧ Machine.regsButAt [.PTP_TSQ_STAT, .PTP_TSQ_TS_LO, .PTP_TSQ_TS_HI] p s t ∧ t.flt = s.flt ∧ Machine.still s t) ∧
  (∀ (m : Fin 8) (p : Fin 130) (s : Machine.State), s.tsQueue p = [] →
    ∃ t, Machine.exec (.tsqPop m p) s = .next t ∧ t.resp.find? m = some ⟨0, false⟩ ∧ t.tsQueue p = []
      ∧ Machine.regsButAt [.PTP_TSQ_TS_LO, .PTP_TSQ_TS_HI] p s t ∧ t.flt = s.flt ∧ Machine.still s t)

/-- R84 to R93, R95, R113: a write of LANE_CFG that keeps R85 to R87 and whose transmitter a PLL can serve gives the lane its
protocols, rates and group; one that breaks them changes no register and sets CFG_REJECT; a group's other lanes take only
their inversions and TX_IDLE. A started PLL locks; one that loses lock is shown on its lanes and sets PLL_LOST, and a spare
that is ready starts for it; once locked the spare takes over the lost PLL's transmitters and sets PLL_SWAP; with no spare the
PLL comes back by itself. The first lock of a receiver with ADAPT = 0 starts a full adaptation, which ends with ADAPT_DONE or
is reported late; ADAPT = 2 starts one and reads 0; an eye measurement updates the margins, the minima and EYE_LOW; LOS is
counted, takes CDR_LOCK with it and clears once the CDR has locked. -/
def Obligations.LanesPllsAndReceivers : Prop :=
  (∀ (n : Fin 128) (v : Word) (s : Machine.State), s.groupBase n = n → Machine.laneCfgBad n v s = false →
    (Machine.assignLane n v s).isSome = true →
    ∃ t, Machine.exec (.laneAssign n v) s = .next t ∧ t.fld F.LANE_CFG_RX_PROTO n = F.LANE_CFG_RX_PROTO.of v
      ∧ t.fld F.LANE_CFG_TX_PROTO n = F.LANE_CFG_TX_PROTO.of v ∧ t.fld F.LANE_CFG_RX_RATE n = F.LANE_CFG_RX_RATE.of v
      ∧ t.fld F.LANE_CFG_TX_RATE n = F.LANE_CFG_TX_RATE.of v ∧ t.fld F.LANE_CFG_GROUP n = F.LANE_CFG_GROUP.of v
      ∧ Machine.regsBut [.LANE_CFG, .LANE_STAT, .LANE_QUAD_STAT] s t ∧ t.flt = s.flt ∧ Machine.still s t) ∧
  (∀ (n : Fin 128) (v : Word) (s : Machine.State), s.groupBase n = n →
    (Machine.laneCfgBad n v s = true ∨ (Machine.assignLane n v s).isSome = false) →
    ∃ t, Machine.exec (.laneAssign n v) s = .next t ∧ t.regs = s.regs ∧ t.isSet Src.LANE_CFG_REJECT = true ∧ t.quad = s.quad
      ∧ Machine.still s t) ∧
  (∀ (n : Fin 128) (v : Word) (s : Machine.State), s.groupBase n ≠ n →
    ∃ t, Machine.exec (.laneAssign n v) s = .next t ∧ t.quad = s.quad ∧ Machine.still s t
      ∧ (if (v ^^^ s.reg .LANE_CFG n) &&& Machine.laneGroupMask = 0 then
          t.fld F.LANE_CFG_RX_INV n = F.LANE_CFG_RX_INV.of v ∧ t.fld F.LANE_CFG_TX_INV n = F.LANE_CFG_TX_INV.of v
            ∧ t.fld F.LANE_CFG_TX_IDLE n = F.LANE_CFG_TX_IDLE.of v ∧ Machine.regsButAt [.LANE_CFG] n s t ∧ t.flt = s.flt
        else t.regs = s.regs ∧ t.isSet Src.LANE_CFG_REJECT = true)) ∧
  (∀ (q : Fin 32) (k : Fin 3) (s : Machine.State), (s.quadOf q).phase k = .starting →
    (k.val < 2 ∨ s.fld F.LANE_QUAD_STAT_SPARE q ≠ 0) →
    ∃ t, Machine.exec (.txPllLock q k) s = .next t ∧ (t.quadOf q).phase k = .locked ∧ t.regs = s.regs ∧ t.flt = s.flt
      ∧ Machine.still s t) ∧
  (∀ (q : Fin 32) (k : Fin 3) (s : Machine.State), (s.quadOf q).phase k = .locked →
    ∃ t, Machine.exec (.pllLost q k) s = .next t ∧ (t.quadOf q).phase k = .lost ∧ t.isSet Src.LANE_PLL_LOST = true
      ∧ (∀ n ∈ s.pllLanes q k, t.flag F.LANE_STAT_PLL_LOST_S n = true)
      ∧ (k.val < 2 → s.sparePllReady q = true → (t.quadOf q).spare = .starting)
      ∧ Machine.regsBut [.LANE_STAT] s t ∧ Machine.still s t) ∧
  (∀ (q : Fin 32) (s : Machine.State), (s.quadOf q).spare = .starting → ((s.quadOf q).pll0 = .lost ∨ (s.quadOf q).pll1 = .lost) →
    ∃ t k, Machine.exec (.pllSwap q) s = .next t ∧ k = (if (s.quadOf q).pll0 = .lost then 0 else 1)
      ∧ t.fld F.LANE_QUAD_STAT_SPARE q = k + 1 ∧ (∀ n ∈ s.pllLanes q k, t.fld F.LANE_STAT_TX_PLL n = 2)
      ∧ t.isSet Src.LANE_PLL_SWAP = true ∧ Machine.still s t) ∧
  (∀ (q : Fin 32) (k : Fin 3) (s : Machine.State), (s.quadOf q).phase k = .lost → (s.quadOf q).spare ≠ .starting →
    (s.fld F.VAULT_LG_HRS_STATE (198 + 3 * q + k) = 0 ∨ s.fld F.VAULT_LG_HRS_STATE (198 + 3 * q + k) = 2) →
    ∃ t, Machine.exec (.pllRelock q k) s = .next t ∧ (t.quadOf q).phase k = .locked ∧ t.regs = s.regs ∧ t.flt = s.flt
      ∧ Machine.still s t) ∧
  (∀ (n : Fin 128) (rate : BitVec 4) (s : Machine.State), s.cdrMayLock n rate.toNat = true → s.flag F.LANE_STAT_CDR_LOCK n = false →
    ∃ u t, Machine.exec (.cdrLock n rate) s = .next (Machine.laneFollow n u) ∧ t = Machine.laneFollow n u
      ∧ u.flag F.LANE_STAT_CDR_LOCK n = true
      ∧ u.fld F.LANE_STAT_RATE_DET n = (if s.fld F.LANE_CFG_RX_PROTO n = 1 then rate.toNat else 15)
      ∧ (s.fld F.LANE_RXEQ_ADAPT n = 0 → (s.rxOf n).fresh = true → (u.rxOf n).adapting = true)
      ∧ Machine.regsButAt [.LANE_STAT] n s u ∧ u.flt = s.flt ∧ Machine.still s t) ∧
  (∀ (n : Fin 128) (s : Machine.State), (s.rxOf n).adapting = true →
    ∃ u t, Machine.exec (.adaptDone n) s = .next (Machine.laneFollow n u) ∧ t = Machine.laneFollow n u
      ∧ u.flag F.LANE_STAT_ADAPT_DONE n = true ∧ (u.rxOf n).adapting = false
      ∧ Machine.regsButAt [.LANE_STAT, .LANE_RXEQ] n s u ∧ u.flt = s.flt ∧ Machine.still s t) ∧
  (∀ (n : Fin 128) (s : Machine.State), (s.rxOf n).adapting = true →
    ∃ t, Machine.exec (.adaptFail n) s = .next t ∧ t.isSet Src.LANE_ADAPT_FAIL = true ∧ (t.rxOf n).adapting = true
      ∧ t.regs = s.regs ∧ Machine.still s t) ∧
  (∀ (n : Fin 128) (v : Word) (s : Machine.State), s.flag F.LANE_STAT_CDR_LOCK n = true →
    ∃ t, Machine.exec (.adaptRestart n v) s = .next t ∧ t.fld F.LANE_RXEQ_ADAPT n = 0
      ∧ t.fld F.LANE_RXEQ_SQ_LEVEL n = F.LANE_RXEQ_SQ_LEVEL.of v ∧ (t.rxOf n).adapting = true
      ∧ t.flag F.LANE_STAT_ADAPT_DONE n = false ∧ Machine.regsButAt [.LANE_RXEQ, .LANE_STAT] n s t ∧ t.flt = s.flt
      ∧ Machine.still s t) ∧
  (∀ (n : Fin 128) (h v : BitVec 8) (s : Machine.State), s.flag F.LANE_STAT_CDR_LOCK n = true →
    ∃ t, Machine.exec (.eyeMeasure n h v) s = .next t ∧ t.fld F.LANE_EYE_EYE_H n = h.toNat ∧ t.fld F.LANE_EYE_EYE_V n = v.toNat
      ∧ t.fld F.LANE_EYE_H_MIN n = min (s.fld F.LANE_EYE_H_MIN n) h.toNat
      ∧ t.fld F.LANE_EYE_V_MIN n = min (s.fld F.LANE_EYE_V_MIN n) v.toNat
      ∧ ((h.toNat < s.fld F.LANE_EYE_CFG_WARN_H 0 ∨ v.toNat < s.fld F.LANE_EYE_CFG_WARN_V 0) →
          t.isSet Src.LANE_EYE_LOW = true ∧ t.flag F.LANE_STAT_EYE_LOW_S n = true)
      ∧ Machine.regsBut [.LANE_EYE, .LANE_STAT, .VAULT_LG_VMIN, .VAULT_LG_HRS] s t ∧ Machine.still s t) ∧
  (∀ (s : Machine.State),
    ∃ t, Machine.exec .eyeClr s = .next t
      ∧ (∀ n, n < 128 → t.fld F.LANE_EYE_H_MIN n = 255 ∧ t.fld F.LANE_EYE_V_MIN n = 255
          ∧ t.fld F.LANE_EYE_EYE_H n = s.fld F.LANE_EYE_EYE_H n ∧ t.fld F.LANE_EYE_EYE_V n = s.fld F.LANE_EYE_EYE_V n)
      ∧ Machine.regsBut [.LANE_EYE] s t ∧ t.flt = s.flt ∧ Machine.still s t) ∧
  (∀ (n : Fin 128) (s : Machine.State), s.flag F.LANE_STAT_LOS n = false →
    ∃ u t, Machine.exec (.losAssert n) s = .next (Machine.laneFollow n u) ∧ t = Machine.laneFollow n u
      ∧ u.flag F.LANE_STAT_LOS n = true ∧ u.flag F.LANE_STAT_CDR_LOCK n = false ∧ u.flag F.LANE_STAT_LOS_S n = true
      ∧ u.reg .LANE_LOS_CNT n = BitVec.ofNat 32 (min (2 ^ 32 - 1) ((s.reg .LANE_LOS_CNT n).toNat + 1))
      ∧ u.isSet Src.LANE_LOS = true ∧ Machine.regsButAt [.LANE_STAT, .LANE_LOS_CNT] n s u ∧ Machine.still s t) ∧
  (∀ (n : Fin 128) (s : Machine.State), s.flag F.LANE_STAT_CDR_LOCK n = true →
    ∃ u t, Machine.exec (.losClear n) s = .next (Machine.laneFollow n u) ∧ t = Machine.laneFollow n u
      ∧ u.flag F.LANE_STAT_LOS n = false ∧ Machine.regsButAt [.LANE_STAT] n s u ∧ u.flt = s.flt ∧ Machine.still s t) ∧
  (∀ (n : Fin 128) (s : Machine.State), s.flag F.LANE_STAT_CDR_LOCK n = true → s.flag F.LANE_STAT_LOS n = false →
    ∃ t, Machine.exec (.cdrUnlock n) s = .next t ∧ t.flag F.LANE_STAT_CDR_LOCK n = false ∧ t.flag F.LANE_STAT_UNLOCK_S n = true
      ∧ t.fld F.LANE_STAT_RATE_DET n = 15 ∧ t.isSet Src.LANE_CDR_UNLOCK = true ∧ Machine.regsButAt [.LANE_STAT] n s t
      ∧ Machine.onlyRegs s t ∧ Machine.still s t)

/-- R98 to R101: an uncorrectable codeword adds 5 to ULINK_CELL_LOST; the third good codeword in order takes ALIGNING to
HELLO; the fourth bad one takes the link down. A reserved cell, or one whose stream is not bound, is counted and nothing
else; a VIDEO cell adds its bytes to its line and the last one closes it; an ANC cell adds to its packet; an AUDIO cell
delivers the channels below COUNT and no others. -/
def Obligations.UhlatCellsAreDelivered : Prop :=
  (∀ (l : Fin 32) (r : CodewordResult) (s : Machine.State), 2 ≤ s.linkState l → r.uncorrectable = true →
    ∃ t, Machine.exec (.codewordRx l r) s = .next t
      ∧ t.reg .ULINK_CELL_LOST l = BitVec.ofNat 32 (min (2 ^ 32 - 1) ((s.reg .ULINK_CELL_LOST l).toNat + 5))
      ∧ t.reg .ULINK_FEC_UNCORR l = BitVec.ofNat 32 (min (2 ^ 32 - 1) ((s.reg .ULINK_FEC_UNCORR l).toNat + 1))
      ∧ t.isSet Src.ULINK_FEC_UNCORR = true
      ∧ (3 ≤ (s.link l).bad → t.linkState l ≤ 2 ∧ t.isSet Src.ULINK_LINK_DOWN = true) ∧ Machine.still s t) ∧
  (∀ (l : Fin 32) (r : CodewordResult) (s : Machine.State), s.linkState l = 2 → r.uncorrectable = false → r.align = 0xB#4 →
    r.seq.toNat = ((s.link l).lastSeq + 1) % 256 → 2 ≤ (s.link l).good →
    ∃ t, Machine.exec (.codewordRx l r) s = .next t ∧ t.linkState l = 3 ∧ (t.link l).helloDue = true
      ∧ t.reg .ULINK_FEC_CORR l = BitVec.ofNat 32 (min (2 ^ 32 - 1) ((s.reg .ULINK_FEC_CORR l).toNat + r.corrected))
      ∧ Machine.regsButAt [.ULINK_STAT, .ULINK_FEC_CORR] l s t ∧ t.flt = s.flt ∧ Machine.still s t) ∧
  (∀ (l : Fin 32) (c : Cell) (s : Machine.State), 2 ≤ s.linkState l → Machine.reservedCell c = true →
    ∃ t, Machine.exec (.videoCell l c) s = .next t ∧ Machine.exec (.ancCell l c) s = .next t ∧ Machine.exec (.audioCell l c) s = .next t
      ∧ t.reg .ULINK_CELL_LOST l = BitVec.ofNat 32 (min (2 ^ 32 - 1) ((s.reg .ULINK_CELL_LOST l).toNat + 1))
      ∧ Machine.regsButAt [.ULINK_CELL_LOST] l s t ∧ t = { s with regs := t.regs }) ∧
  (∀ (l : Fin 32) (c : Cell) (s : Machine.State), s.linkUp l = true → Machine.reservedCell c = false →
    (24 ≤ c.head.stream.toNat ∨ s.rxBound (24 * l + c.head.stream.toNat) = false) →
    ∃ t, Machine.exec (.videoCell l c) s = .next t ∧ Machine.exec (.ancCell l c) s = .next t
      ∧ t.reg .ULINK_CELL_LOST l = BitVec.ofNat 32 (min (2 ^ 32 - 1) ((s.reg .ULINK_CELL_LOST l).toNat + 1))
      ∧ Machine.regsButAt [.ULINK_CELL_LOST] l s t ∧ t = { s with regs := t.regs }) ∧
  (∀ (l : Fin 32) (c : Cell) (k : Nat) (s : Machine.State), s.linkUp l = true → Machine.reservedCell c = false →
    c.head.stream.toNat < 24 → k = 24 * l + c.head.stream.toNat → s.rxBound k = true → c.head.first = true →
    (s.stream k).open_ = false →
    ∃ u, Machine.exec (.videoCell l c) s = .next (if c.head.last then Machine.closeLine l k u else u)
      ∧ (u.stream k).line = beNat (c.payload.take 2) ∧ (u.stream k).got = (c.payload.take 124).drop 8
      ∧ (u.stream k).bytes = beNat ((c.payload.drop 6).take 2) ∧ (u.stream k).open_ = true
      ∧ u.regs = s.regs ∧ u.flt = s.flt ∧ u.xpt = s.xpt ∧ Machine.still s u) ∧
  (∀ (l : Fin 32) (c : Cell) (k : Nat) (s : Machine.State), s.linkUp l = true → Machine.reservedCell c = false →
    c.head.stream.toNat < 24 → k = 24 * l + c.head.stream.toNat → s.rxBound k = true → c.head.first = false →
    (s.stream k).open_ = true → (s.stream k).waitStart = false → (s.stream k).got.length + 8 = 124 * c.head.seq.toNat →
    ∃ u, Machine.exec (.videoCell l c) s = .next (if c.head.last then Machine.closeLine l k u else u)
      ∧ (u.stream k).got = (s.stream k).got ++ c.payload.take 124 ∧ (u.stream k).line = (s.stream k).line
      ∧ u.regs = s.regs ∧ u.flt = s.flt ∧ u.xpt = s.xpt ∧ Machine.still s u) ∧
  (∀ (l : Fin 32) (c : Cell) (k : Nat) (s : Machine.State), s.linkUp l = true → Machine.reservedCell c = false →
    c.head.stream.toNat < 24 → k = 24 * l + c.head.stream.toNat → s.rxBound k = true → c.head.first = true →
    ∃ u, Machine.exec (.ancCell l c) s
          = .next (if c.head.last then
              Machine.ancDeliver k (beNat (c.payload.take 2)) ⟨beNat ((c.payload.drop 4).take 2),
                Machine.ancHanc (s.stream k).fmt (beNat ((c.payload.drop 4).take 2)),
                Machine.ancWords (beNat ((c.payload.drop 2).take 2)) ((c.payload.take 124).drop 6)⟩ u else u)
      ∧ (c.head.last = false → (u.stream k).anc = (c.payload.take 124).drop 6)
      ∧ u.regs = s.regs ∧ u.flt = s.flt ∧ u.xpt = s.xpt ∧ Machine.still s u) ∧
  (∀ (l : Fin 32) (c : Cell) (s : Machine.State), s.linkUp l = true → Machine.reservedCell c = false →
    ∃ t, Machine.exec (.audioCell l c) s = .next t
      ∧ (∀ i, (∀ j, j < beNat ((c.payload.drop 2).take 1) → j < 30 →
            beNat (c.payload.take 2) + j < s.fld F.ULINK_RXA_COUNT l →
            i / 2 ≠ (if s.flag F.ULINK_CFG_AUD96 l then s.fld F.ULINK_RXA_ACH_BASE l + beNat (c.payload.take 2) + j
              else (s.fld F.ULINK_RXA_ACH_BASE l + beNat (c.payload.take 2) + j) / 2)) →
          t.inSlot i = s.inSlot i)
      ∧ t.ul = s.ul ∧ Machine.still s t)

/-- R104 to R106, R109 to R111: a MARKER gives F_local and the QL; a HELLO updates the peer's data and takes the link on, one
of another version sets PEER_MISMATCH; an ECHO_REQ waits to be answered; the eighth ECHO_RSP sets HOP_VALID and takes
MEASURING to UP; a MAILBOX message is held unless 4 are; no HELLO takes the link down; MARK_OK falls; EN written 1 on a lane
that meets R85 starts TRAINING, and a write that R114 ignores changes no register. -/
def Obligations.UhlatControlAndBringUp : Prop :=
  (∀ (l : Fin 32) (m : MarkerMsg) (s : Machine.State), s.linkUp l = true →
    ∃ t, Machine.exec (.marker l m) s = .next t
      ∧ (t.link l).fLocal = some (s.etFull - (s.fld F.ULINK_HOP_NS_HOP l : Nat) + Machine.etDiff m.fEt.toNat m.txEt.toNat)
      ∧ t.fld F.ULINK_STAT_RX_QL l = m.ql.toNat % 16
      ∧ t.reg .ULINK_MARK_CNT l = BitVec.ofNat 32 (min (2 ^ 32 - 1) ((s.reg .ULINK_MARK_CNT l).toNat + 1))
      ∧ (1 ≤ (s.link l).marks → t.flag F.ULINK_STAT_MARK_OK l = true)
      ∧ Machine.regsButAt [.ULINK_STAT, .ULINK_MARK_CNT] l s t ∧ t.flt = s.flt ∧ Machine.still s t) ∧
  (∀ (l : Fin 32) (m : HelloMsg) (s : Machine.State), 3 ≤ s.linkState l →
    ∃ t, Machine.exec (.hello l m) s = .next t ∧ t.fld F.ULINK_STAT_PEER_SLOT l = m.slot.toNat
      ∧ t.fld F.ULINK_STAT_PEER_LINK l = m.link.toNat % 32 ∧ (t.link l).peerSeen = true
      ∧ (m.version ≠ 1#8 → t.isSet Src.ULINK_PEER_MISMATCH = true ∧ t.linkState l = s.linkState l)
      ∧ (m.version = 1#8 → t.flt = s.flt
          ∧ t.linkState l = (if s.linkState l = 3 ∧ m.peerSeen = true then 4 else s.linkState l))
      ∧ Machine.regsButAt [.ULINK_STAT] l s t ∧ Machine.still s t) ∧
  (∀ (l : Fin 32) (id : BitVec 16) (t1 : ET) (s : Machine.State), 3 ≤ s.linkState l →
    ∃ t, Machine.exec (.echoReq l id t1) s = .next t ∧ (t.link l).echoDue = (s.link l).echoDue ++ [(id, t1.toNat, s.et)]
      ∧ t.regs = s.regs ∧ t.flt = s.flt ∧ Machine.still s t) ∧
  (∀ (l : Fin 32) (t1 t2 t3 : ET) (h : List Int) (s : Machine.State), 4 ≤ s.linkState l →
    h = ((Machine.etDiff s.et t1.toNat - Machine.etDiff t3.toNat t2.toNat) :: (s.link l).hops).take 8 → h.length < 8 →
    ∃ t, Machine.exec (.echoRsp l (s.link l).echoId t1 t2 t3) s = .next t ∧ (t.link l).hops = h
      ∧ t.regs = s.regs ∧ t.flt = s.flt ∧ Machine.still s t) ∧
  (∀ (l : Fin 32) (t1 t2 t3 : ET) (h : List Int) (q : Int) (s : Machine.State), 4 ≤ s.linkState l → s.linkState l ≤ 5 →
    h = ((Machine.etDiff s.et t1.toNat - Machine.etDiff t3.toNat t2.toNat) :: (s.link l).hops).take 8 → h.length = 8 →
    h.foldl (· + ·) 0 = 16 * q → 0 ≤ q → q < 2 ^ 24 →
    ∃ t, Machine.exec (.echoRsp l (s.link l).echoId t1 t2 t3) s = .next t ∧ (t.link l).hops = h
      ∧ (t.fld F.ULINK_HOP_NS_HOP l : Int) = q ∧ t.flag F.ULINK_STAT_HOP_VALID l = true ∧ t.linkState l = 5
      ∧ (s.linkState l = 4 → t.isSet Src.ULINK_LINK_UP = true)
      ∧ Machine.regsButAt [.ULINK_STAT, .ULINK_HOP_NS] l s t ∧ Machine.still s t) ∧
  (∀ (l : Fin 32) (msg : List Byte) (s : Machine.State), s.linkUp l = true →
    ∃ t, Machine.exec (.mailbox l msg) s = .next t
      ∧ ((s.link l).mail.length < 4 → (t.link l).mail = (s.link l).mail ++ [msg.take 122]
          ∧ t.fld F.ULINK_MB_CTL_RX_CNT l = (s.link l).mail.length + 1 ∧ t.flt = s.flt
          ∧ Machine.regsBut [.ULINK_MB_CTL, .ULINK_MB_RXBUF] s t)
      ∧ (4 ≤ (s.link l).mail.length → t.ul = s.ul ∧ t.regs = s.regs ∧ t.isSet Src.ULINK_MB_RX_OVF = true)
      ∧ Machine.still s t) ∧
  (∀ (l : Fin 32) (s : Machine.State), 2 ≤ s.linkState l →
    ∃ t, Machine.exec (.helloTimeout l) s = .next t ∧ t.linkState l ≤ 2 ∧ t.isSet Src.ULINK_LINK_DOWN = true
      ∧ t.flag F.ULINK_STAT_HOP_VALID l = false
      ∧ t.reg .ULINK_DOWN_CNT l = BitVec.ofNat 32 (min (2 ^ 32 - 1) ((s.reg .ULINK_DOWN_CNT l).toNat + 1))
      ∧ Machine.still s t) ∧
  (∀ (l : Fin 32) (s : Machine.State), s.flag F.ULINK_STAT_MARK_OK l = true →
    ∃ t, Machine.exec (.markTimeout l) s = .next t ∧ t.flag F.ULINK_STAT_MARK_OK l = false
      ∧ t.isSet Src.ULINK_MARK_LOST = true ∧ Machine.regsButAt [.ULINK_STAT] l s t ∧ Machine.still s t) ∧
  (∀ (l : Fin 32) (v : Word) (s : Machine.State), s.flag F.ULINK_CFG_EN l = false →
    Machine.changes F.ULINK_CFG_AUD96 s l v = false → s.laneUhlat (F.ULINK_CFG_LANE.of v) = true →
    ∃ t, Machine.exec (.ulinkEnable l v) s = .next t ∧ t.flag F.ULINK_CFG_EN l = true
      ∧ t.fld F.ULINK_CFG_LANE l = F.ULINK_CFG_LANE.of v ∧ (t.linkState l = 1 ∨ t.linkState l = 2)
      ∧ (s.flag F.LANE_STAT_CDR_LOCK (F.ULINK_CFG_LANE.of v) = false → t.linkState l = 1)
      ∧ Machine.regsButAt [.ULINK_CFG, .ULINK_STAT] l s t ∧ t.flt = s.flt ∧ Machine.still s t) ∧
  (∀ (l : Fin 32) (v : Word) (s : Machine.State), s.flag F.ULINK_CFG_EN l = true → Machine.changes F.ULINK_CFG_LANE s l v = true →
    ∃ t, Machine.exec (.ulinkEnable l v) s = .next t ∧ t.regs = s.regs ∧ t.ul = s.ul ∧ t.isSet Src.ULINK_CFG_REJECT = true
      ∧ Machine.still s t)

/-- R102, R107, R108, R111: a cell slot of an UP link carries the marker that is due, else the ECHO_REQ that is due; with
nothing due it is IDLE. ECHO_REQ and HELLO become due. A write of ULINK_TXV, or of ULINK_TXA or AUD96, within the budget is
taken, and one beyond it changes no register and sets CFG_REJECT. SEND = 1 queues the message, or is rejected while one waits;
POP = 1 discards the head message. -/
def Obligations.UhlatSendsAndAdmits : Prop :=
  (∀ (l : Fin 32) (f : Int) (p : List Byte) (s : Machine.State), (Machine.gather l s).linkUp l = true →
    (Machine.gather l s).markerDue l = some (f, p) →
    ∃ t, Machine.exec (.cellSlot l) s = .next t
      ∧ t.wire.find? (t.fld F.ULINK_CFG_LANE l) = some (Machine.cellBytes 4 true true 0 0 0 p)
      ∧ (t.link l).markerAt = some f ∧ (t.link l).slot = ((Machine.gather l s).link l).slot + 1
      ∧ Machine.regsButAt [.ULINK_ANC_DROP] l s t ∧ t.flt = s.flt ∧ Machine.still s t) ∧
  (∀ (l : Fin 32) (s : Machine.State), 4 ≤ s.linkState l →
    ((Machine.gather l s).linkUp l = false ∨ (Machine.gather l s).markerDue l = none) →
    ((Machine.gather l s).link l).echoReqDue = true →
    ∃ t, Machine.exec (.cellSlot l) s = .next t ∧ (t.link l).echoReqDue = false
      ∧ t.wire.find? (t.fld F.ULINK_CFG_LANE l)
          = some (Machine.controlCell ([2#8] ++ beBytes 2 ((Machine.gather l s).link l).echoId.toNat ++ beBytes 6 s.et))
      ∧ Machine.regsButAt [.ULINK_ANC_DROP] l s t ∧ t.flt = s.flt ∧ Machine.still s t) ∧
  (∀ (l : Fin 32) (s : Machine.State), s.linkState l = 2 → (s.link l).echoDue = [] →
    ∃ t, Machine.exec (.cellSlot l) s = .next t
      ∧ t.wire.find? (t.fld F.ULINK_CFG_LANE l) = some (Machine.cellBytes 0 false false 0 0 0 [])
      ∧ Machine.regsButAt [.ULINK_ANC_DROP] l s t ∧ t.flt = s.flt ∧ Machine.still s t) ∧
  (∀ (l : Fin 32) (s : Machine.State), 4 ≤ s.linkState l →
    ∃ t, Machine.exec (.echoReqTx l) s = .next t ∧ (t.link l).echoReqDue = true ∧ (t.link l).echoId = (s.link l).echoId + 1
      ∧ t.regs = s.regs ∧ t.flt = s.flt ∧ Machine.still s t) ∧
  (∀ (l : Fin 32) (s : Machine.State), 3 ≤ s.linkState l →
    ∃ t, Machine.exec (.helloTx l) s = .next t ∧ (t.link l).helloDue = true ∧ t.regs = s.regs ∧ t.flt = s.flt
      ∧ Machine.still s t) ∧
  (∀ (k : Fin 768) (v : Word) (l : Nat) (s : Machine.State), l = k / 24 → F.ULINK_TXV_ANC_CELLS.of v ≤ 32 →
    (F.ULINK_TXV_EN.of v = 1 → s.voutTaken (F.ULINK_TXV_VOUT.of v) k = false
      ∧ Machine.loadFits (s.linkLoad l (fun j => if j = k.val then v else s.reg .ULINK_TXV j) (s.fld F.ULINK_TXA_COUNT l)
          (s.flag F.ULINK_CFG_AUD96 l)) = true) →
    ∃ t, Machine.exec (.ulinkTxvWrite k v) s = .next t ∧ t.fld F.ULINK_TXV_EN k = F.ULINK_TXV_EN.of v
      ∧ t.fld F.ULINK_TXV_VOUT k = F.ULINK_TXV_VOUT.of v ∧ t.fld F.ULINK_TXV_ANC_CELLS k = F.ULINK_TXV_ANC_CELLS.of v
      ∧ Machine.regsButAt [.ULINK_TXV] k s t ∧ t = { s with regs := t.regs }) ∧
  (∀ (k : Fin 768) (v : Word) (l : Nat) (s : Machine.State), l = k / 24 → F.ULINK_TXV_EN.of v = 1 →
    (s.voutTaken (F.ULINK_TXV_VOUT.of v) k = true
      ∨ Machine.loadFits (s.linkLoad l (fun j => if j = k.val then v else s.reg .ULINK_TXV j) (s.fld F.ULINK_TXA_COUNT l)
          (s.flag F.ULINK_CFG_AUD96 l)) = false) →
    ∃ t, Machine.exec (.ulinkTxvWrite k v) s = .next t ∧ t.regs = s.regs ∧ t.isSet Src.ULINK_CFG_REJECT = true
      ∧ Machine.onlyRegs s t) ∧
  (∀ (l : Fin 32) (v : Word) (s : Machine.State), Machine.audCountOk (F.ULINK_TXA_COUNT.of v) (s.flag F.ULINK_CFG_AUD96 l) = true →
    Machine.loadFits (s.linkLoad l (fun k => s.reg .ULINK_TXV k) (F.ULINK_TXA_COUNT.of v) (s.flag F.ULINK_CFG_AUD96 l)) = true →
    ∃ t, Machine.exec (.ulinkTxaWrite l (.txa v)) s = .next t ∧ t.fld F.ULINK_TXA_COUNT l = F.ULINK_TXA_COUNT.of v
      ∧ t.fld F.ULINK_TXA_ACH_BASE l = F.ULINK_TXA_ACH_BASE.of v
      ∧ Machine.regsButAt [.ULINK_TXA] l s t ∧ t = { s with regs := t.regs }) ∧
  (∀ (l : Fin 32) (v : Word) (s : Machine.State), Machine.changes F.ULINK_CFG_AUD96 s l v = true →
    Machine.loadFits (s.linkLoad l (fun k => s.reg .ULINK_TXV k) (s.fld F.ULINK_TXA_COUNT l)
      (decide (F.ULINK_CFG_AUD96.of v = 1))) = false →
    ∃ t, Machine.exec (.ulinkTxaWrite l (.cfg v)) s = .next t ∧ t.regs = s.regs ∧ t.isSet Src.ULINK_CFG_REJECT = true
      ∧ Machine.onlyRegs s t) ∧
  (∀ (l : Fin 32) (v : Word) (s : Machine.State), F.ULINK_CFG_EN.of v = s.fld F.ULINK_CFG_EN l →
    Machine.changes F.ULINK_CFG_LANE s l v = false →
    Machine.loadFits (s.linkLoad l (fun k => s.reg .ULINK_TXV k) (s.fld F.ULINK_TXA_COUNT l)
      (decide (F.ULINK_CFG_AUD96.of v = 1))) = true →
    s.fld F.ULINK_TXA_COUNT l ≤ 512 → s.fld F.ULINK_RXA_COUNT l ≤ 512 →
    s.mayFeed (Machine.linkFeed l (s.reg .ULINK_RXA l) (decide (F.ULINK_CFG_AUD96.of v = 1))) = true →
    ∃ t, Machine.exec (.ulinkTxaWrite l (.cfg v)) s = .next t ∧ t.fld F.ULINK_CFG_AUD96 l = F.ULINK_CFG_AUD96.of v
      ∧ t.linkState l = s.linkState l ∧ t.flt = s.flt ∧ Machine.still s t) ∧
  (∀ (l : Fin 32) (v : Word) (s : Machine.State), s.flag F.ULINK_MB_CTL_TX_BUSY l = false → 1 ≤ F.ULINK_MB_CTL_LEN.of v →
    F.ULINK_MB_CTL_LEN.of v ≤ 122 → F.ULINK_MB_CTL_POP.of v = 0 →
    ∃ t m, Machine.exec (.mbSend l v) s = .next t ∧ t.flag F.ULINK_MB_CTL_TX_BUSY l = true ∧ (t.link l).mailDue = some m
      ∧ m.length = F.ULINK_MB_CTL_LEN.of v ∧ (t.link l).mail = (s.link l).mail
      ∧ Machine.regsButAt [.ULINK_MB_CTL] l s t ∧ t.flt = s.flt ∧ Machine.still s t) ∧
  (∀ (l : Fin 32) (v : Word) (s : Machine.State), s.flag F.ULINK_MB_CTL_TX_BUSY l = true →
    ∃ t, Machine.exec (.mbSend l v) s = .next t ∧ t.regs = s.regs ∧ t.ul = s.ul ∧ t.isSet Src.ULINK_CFG_REJECT = true
      ∧ Machine.onlyRegs s t) ∧
  (∀ (l : Fin 32) (v : Word) (s : Machine.State), F.ULINK_MB_CTL_SEND.of v = 0 → (s.link l).mail.length ≤ 4 →
    ∃ t, Machine.exec (.mbPop l v) s = .next t ∧ (t.link l).mail = (s.link l).mail.drop 1
      ∧ t.fld F.ULINK_MB_CTL_RX_CNT l = (s.link l).mail.length - 1 ∧ (t.link l).mailDue = (s.link l).mailDue
      ∧ Machine.regsBut [.ULINK_MB_CTL, .ULINK_MB_RXBUF] s t ∧ t.flt = s.flt ∧ Machine.still s t)

/-- R116 to R119, R123, R125, R172: a write of EN = 1 that the mapping, the format and the VIN allow enables a deframer, which
is in NO_SIGNAL with LOS and in SEARCH once its lanes have lock; one that they do not allow changes no register and sets
CFG_REJECT; EN = 0 leaves its VIN without a feeder. A received line counts each failing check of each link, the eighth line
without TRS takes it to SEARCH, and its ST 352 payload is shown; without one PID_VALID falls and the payload stays. Where the event that a command reports cannot happen in the state, the command changes nothing: the model's choice
(notes/assumptions/10.md). -/
def Obligations.DeframersReceiveLines : Prop :=
  (∀ (n : Fin 128) (v : Word) (s : Machine.State), s.quadRx n = false → s.flag F.SDI_RX_CFG_EN n = false →
    s.rxMayEnable n (v ||| 1#32) = true →
    ∃ t, Machine.exec (.sdiRxEnable n v) s = .next t ∧ t.flag F.SDI_RX_CFG_EN n = true
      ∧ t.fld F.SDI_RX_CFG_MAP n = F.SDI_RX_CFG_MAP.of v ∧ t.fld F.SDI_RX_CFG_FMT n = F.SDI_RX_CFG_FMT.of v
      ∧ t.fld F.SDI_RX_CFG_VIN n = F.SDI_RX_CFG_VIN.of v
      ∧ ((∃ k ∈ Machine.sdiLanes n (F.SDI_RX_CFG_MAP.of v), s.flag F.LANE_STAT_LOS k = true) → t.sdiRxState n = 0)
      ∧ ((∀ k ∈ Machine.sdiLanes n (F.SDI_RX_CFG_MAP.of v), s.flag F.LANE_STAT_LOS k = false ∧ s.flag F.LANE_STAT_CDR_LOCK k = true)
          → t.sdiRxState n = 1)
      ∧ (t.vinRec (F.SDI_RX_CFG_VIN.of v)).feeder = true ∧ Machine.still s t) ∧
  (∀ (n : Fin 128) (v : Word) (s : Machine.State), s.quadRx n = false → s.flag F.SDI_RX_CFG_EN n = false →
    s.rxMayEnable n (v ||| 1#32) = false →
    ∃ t, Machine.exec (.sdiRxEnable n v) s = .next t ∧ t.regs = s.regs ∧ t.isSet Src.SDI_CFG_REJECT = true
      ∧ Machine.onlyRegs s t) ∧
  (∀ (n : Fin 128) (v : Word) (s : Machine.State), s.quadRx n = true →
    Machine.exec (.sdiRxEnable n v) s = .next s ∧ Machine.exec (.sdiRxDisable n v) s = .next s) ∧
  (∀ (n : Fin 128) (v : Word) (s : Machine.State), s.quadRx n = false → s.flag F.SDI_RX_CFG_EN n = true →
    (v ^^^ s.reg .SDI_RX_CFG n) &&& 0x03FFFFFE#32 = 0 →
    ∃ t, Machine.exec (.sdiRxDisable n v) s = .next t ∧ t.flag F.SDI_RX_CFG_EN n = false ∧ t.sdiRxState n = 0
      ∧ (t.vinRec (s.fld F.SDI_RX_CFG_VIN n)).feeder = false ∧ Machine.regsButAt [.SDI_RX_CFG, .SDI_RX_STAT] n s t
      ∧ t.flt = s.flt ∧ Machine.still s t) ∧
  (∀ (n : Fin 128) (l : SdiLine) (s : Machine.State), s.flag F.SDI_RX_CFG_EN n = true → s.sdiRxState n ≠ 0 →
    (l.second = true → s.fld F.SDI_RX_CFG_MAP n = 2) → 2 ≤ Machine.fmtRaster (s.rxFmt n l.second) →
    ∃ t, Machine.exec (.sdiLineRx n l) s = .next t
      ∧ t.reg .SDI_RX_TRS_ERR n = BitVec.ofNat 32 (min (2 ^ 32 - 1) ((s.reg .SDI_RX_TRS_ERR n).toNat + l.trsBad))
      ∧ t.reg .SDI_RX_LN_ERR n = BitVec.ofNat 32 (min (2 ^ 32 - 1) ((s.reg .SDI_RX_LN_ERR n).toNat + l.lnBad))
      ∧ t.reg .SDI_RX_CRC_ERR n = BitVec.ofNat 32 (min (2 ^ 32 - 1) ((s.reg .SDI_RX_CRC_ERR n).toNat + l.crcBad))
      ∧ (∀ p, l.pid = some p → t.reg (if l.second then .SDI_RX_PID2 else .SDI_RX_PID) n = p
          ∧ t.flag F.SDI_RX_STAT_PID_VALID n = true)
      ∧ (s.sdiRxState n = 2 ∨ s.sdiRxState n = 3 →
          7 ≤ (s.rxState (if l.second then 128 + n else n)).trsRun → l.trsBad ≠ 0 → l.skew = false → t.sdiRxState n = 1)
      ∧ Machine.still s t) ∧
  (∀ (n : Fin 128) (l : SdiLine) (s : Machine.State),
    (s.flag F.SDI_RX_CFG_EN n = false ∨ s.sdiRxState n = 0 ∨ l.second = true ∧ s.fld F.SDI_RX_CFG_MAP n ≠ 2) →
    Machine.exec (.sdiLineRx n l) s = .next s) ∧
  (∀ (n : Fin 128) (s : Machine.State),
    ∃ t, Machine.exec (.pidTimeout n) s = .next t ∧ t.flag F.SDI_RX_STAT_PID_VALID n = false
      ∧ t.sdiRxState n = s.sdiRxState n ∧ Machine.regsButAt [.SDI_RX_STAT] n s t ∧ t = { s with regs := t.regs })

/-- R116, R117, R128, R130, R132: a write of EN = 1 that the VOUT's domain, its format and the mapping allow enables a framer;
one that they do not allow changes no register and sets CFG_REJECT; EN = 0 lets a running framer go on to the end of its
frame. At line 1 an enabled framer begins to run, or is idle with IDLE = 1 and no route; a running framer sends each line,
black where its source is not present, and after the last line of a disabled one it stops. -/
def Obligations.FramersSendLines : Prop :=
  (∀ (n : Fin 128) (v : Word) (s : Machine.State), s.quadTx n = false → s.flag F.SDI_TX_CFG_EN n = false →
    F.SDI_TX_CFG_PID_MODE.of v ≠ 3 → s.txMayEnable n (v ||| 1#32) = true →
    ∃ t, Machine.exec (.sdiTxEnable n v) s = .next t ∧ t.flag F.SDI_TX_CFG_EN n = true
      ∧ t.fld F.SDI_TX_CFG_MAP n = F.SDI_TX_CFG_MAP.of v ∧ t.fld F.SDI_TX_CFG_FMT n = F.SDI_TX_CFG_FMT.of v
      ∧ t.fld F.SDI_TX_CFG_VOUT n = F.SDI_TX_CFG_VOUT.of v ∧ t.fld F.SDI_TX_CFG_IDLE n = F.SDI_TX_CFG_IDLE.of v
      ∧ Machine.regsButAt [.SDI_TX_CFG] n s t ∧ t.flt = s.flt ∧ Machine.still s t) ∧
  (∀ (n : Fin 128) (v : Word) (s : Machine.State), s.quadTx n = false → s.flag F.SDI_TX_CFG_EN n = false →
    s.txMayEnable n (v ||| 1#32) = false →
    ∃ t, Machine.exec (.sdiTxEnable n v) s = .next t ∧ t.regs = s.regs ∧ t.isSet Src.SDI_CFG_REJECT = true
      ∧ Machine.onlyRegs s t) ∧
  (∀ (n : Fin 128) (v : Word) (s : Machine.State), s.quadTx n = false → s.flag F.SDI_TX_CFG_EN n = true →
    (v ^^^ s.reg .SDI_TX_CFG n) &&& 0x03FFFF7E#32 = 0 → F.SDI_TX_CFG_PID_MODE.of v ≠ 3 →
    ∃ t, Machine.exec (.sdiTxDisable n v) s = .next t ∧ t.flag F.SDI_TX_CFG_EN n = false
      ∧ (s.flag F.SDI_TX_STAT_RUNNING n = true → n.val ∈ t.sdi.stopping) ∧ t.sdi.out = s.sdi.out
      ∧ Machine.regsButAt [.SDI_TX_CFG] n s t ∧ t.flt = s.flt ∧ Machine.still s t) ∧
  (∀ (n : Fin 128) (s : Machine.State), s.flag F.SDI_TX_CFG_EN n = true → s.flag F.SDI_TX_CFG_IDLE n = true →
    (s.routes (s.txVout n false)).committed = none → s.sdi.stopping.contains n.val = false →
    ∃ t, Machine.exec (.sdiTxLine n false 1) s = .next t ∧ t.flag F.SDI_TX_STAT_RUNNING n = false ∧ t.sdi = s.sdi
      ∧ t.flt = s.flt ∧ Machine.still s t) ∧
  (∀ (n : Fin 128) (s : Machine.State), s.flag F.SDI_TX_CFG_EN n = true →
    (s.flag F.SDI_TX_CFG_IDLE n = false ∨ (s.routes (s.txVout n false)).committed ≠ none) →
    s.sdi.stopping.contains n.val = false →
    ∃ t o, Machine.exec (.sdiTxLine n false 1) s = .next t ∧ t.flag F.SDI_TX_STAT_RUNNING n = true
      ∧ t.sdi.out.find? n = some o ∧ o.line = 1 ∧ Machine.still s t) ∧
  (∀ (n : Fin 128) (line : Nat) (s : Machine.State), s.flag F.SDI_TX_CFG_EN n = true → s.flag F.SDI_TX_STAT_RUNNING n = true →
    line ≠ 1 → s.sdi.stopping.contains n.val = false →
    ∃ t o, Machine.exec (.sdiTxLine n false line) s = .next t ∧ t.sdi.out.find? n = some o ∧ o.line = line
      ∧ ((s.routes (s.txVout n false)).committed = none → o.present = false ∧ o.audio = [] ∧ o.anc = []
          ∧ (o.words = [] ∨ o.words = Machine.blackWords (s.txFmt n false)))
      ∧ t.flag F.SDI_TX_STAT_ROUTED n = (s.routes (s.txVout n false)).committed.isSome
      ∧ t.flag F.SDI_TX_STAT_SRC_PRESENT n = o.present ∧ t.flag F.SDI_TX_STAT_RUNNING n = true
      ∧ Machine.regsButAt [.SDI_TX_STAT, .SDI_TX_ANC_DROP] n s t ∧ Machine.still s t) ∧
  (∀ (n : Fin 128) (s : Machine.State), s.flag F.SDI_TX_CFG_EN n = false → s.sdi.stopping.contains n.val = true →
    s.flag F.SDI_TX_STAT_RUNNING n = true →
    ∃ t, Machine.exec (.sdiTxLine n false (Machine.fmtTotalLines (s.txFmt n false))) s = .next t
      ∧ t.flag F.SDI_TX_STAT_RUNNING n = false ∧ t.sdi.stopping.contains n.val = false ∧ Machine.still s t)

/-- R147, R148: a command is queued with its entry words unless 64 wait. INSERT answers EXISTS with the table unchanged, or
takes a free candidate slot of its key, or moves an occupant out of one, or answers FULL with no entry changed. -/
def Obligations.FlowTableInserts : Prop :=
  (∀ (v : Word) (s : Machine.State), s.flow.cmds.length < 64 →
    ∃ t, Machine.exec (.flowCmdQueue v) s = .next t ∧ t = { s with flow := { s.flow with cmds := t.flow.cmds } }
      ∧ t.flow.cmds = s.flow.cmds ++ [(v.toNat, (s.reg .FLOW_Q_DATA 0).toNat + (s.reg .FLOW_Q_DATA 1).toNat * 2 ^ 32
          + (s.reg .FLOW_Q_DATA 2).toNat * 2 ^ 64 + (s.reg .FLOW_Q_DATA 3).toNat * 2 ^ 96)]) ∧
  (∀ (v : Word) (s : Machine.State), 64 ≤ s.flow.cmds.length →
    ∃ t, Machine.exec (.flowCmdQueue v) s = .next t ∧ t.flow = s.flow ∧ t.isSet Src.FLOW_CMDQ_OVF = true
      ∧ t.reg .FLOW_CMDQ_OVF 0 = BitVec.ofNat 32 (min (2 ^ 32 - 1) ((s.reg .FLOW_CMDQ_OVF 0).toNat + 1))
      ∧ Machine.regsButAt [.FLOW_CMDQ_OVF] 0 s t ∧ Machine.onlyRegs s t) ∧
  (∀ (c : Nat × Nat) (rest : List (Nat × Nat)) (i : Nat) (s : Machine.State), s.flow.cmds = c :: rest → Machine.cmdOp c = 1 →
    s.flow.results.length < 64 → s.flowFind (Machine.entryKey c.2) = some i →
    ∃ t r, Machine.exec .flowInsert s = .next t ∧ t.flow.cmds = rest ∧ t.flow.results = s.flow.results ++ [r]
      ∧ r.word = i + 1 * 2 ^ 20 + 1 * 2 ^ 24 ∧ t.flow.table = s.flow.table ∧ t.regs = s.regs ∧ t.flt = s.flt
      ∧ Machine.still s t) ∧
  (∀ (c : Nat × Nat) (rest : List (Nat × Nat)) (i : Nat) (s : Machine.State), s.flow.cmds = c :: rest → Machine.cmdOp c = 1 →
    s.flow.results.length < 64 → s.flowFind (Machine.entryKey c.2) = none →
    ((List.range 4).map (fun w => Machine.flowIndex w (Machine.entryKey c.2))).find?
      (fun i => !Machine.entryValid (s.flowAt i)) = some i →
    ∃ t r, Machine.exec .flowInsert s = .next t ∧ t.flow.cmds = rest ∧ t.flow.results = s.flow.results ++ [r]
      ∧ r.word = i + 1 * 2 ^ 24 ∧ Machine.entryValid (t.flowAt i) = true
      ∧ Machine.entryKey (t.flowAt i) = Machine.entryKey c.2 ∧ bitsOf (t.flowAt i) 12 16 = bitsOf c.2 12 16
      ∧ (∀ j, j ≠ i → t.flowAt j = s.flowAt j) ∧ t.regs = s.regs ∧ t.flt = s.flt ∧ Machine.still s t) ∧
  (∀ (c : Nat × Nat) (rest : List (Nat × Nat)) (w j : Nat) (s : Machine.State), s.flow.cmds = c :: rest → Machine.cmdOp c = 1 →
    s.flow.results.length < 64 → s.flowFind (Machine.entryKey c.2) = none →
    (∀ x, x < 4 → Machine.entryValid (s.flowAt (Machine.flowIndex x (Machine.entryKey c.2))) = true) →
    s.flowMovable (Machine.entryKey c.2) = some (w, j) →
    ∃ t r, Machine.exec .flowInsert s = .next t ∧ t.flow.cmds = rest ∧ t.flow.results = s.flow.results ++ [r]
      ∧ r.word = Machine.flowIndex w (Machine.entryKey c.2) + 1 * 2 ^ 24
      ∧ t.flowAt j = s.flowAt (Machine.flowIndex w (Machine.entryKey c.2))
      ∧ Machine.entryKey (t.flowAt (Machine.flowIndex w (Machine.entryKey c.2))) = Machine.entryKey c.2
      ∧ Machine.entryValid (t.flowAt (Machine.flowIndex w (Machine.entryKey c.2))) = true
      ∧ (∀ k, k ≠ j → k ≠ Machine.flowIndex w (Machine.entryKey c.2) → t.flowAt k = s.flowAt k)
      ∧ t.reg .FLOW_MOVES 0 = BitVec.ofNat 32 (min (2 ^ 32 - 1) ((s.reg .FLOW_MOVES 0).toNat + 1))
      ∧ Machine.regsButAt [.FLOW_MOVES] 0 s t ∧ t.flt = s.flt ∧ Machine.still s t) ∧
  (∀ (c : Nat × Nat) (rest : List (Nat × Nat)) (s : Machine.State), s.flow.cmds = c :: rest → Machine.cmdOp c = 1 →
    s.flow.results.length < 64 → s.flowFind (Machine.entryKey c.2) = none →
    (∀ x, x < 4 → Machine.entryValid (s.flowAt (Machine.flowIndex x (Machine.entryKey c.2))) = true) →
    s.flowMovable (Machine.entryKey c.2) = none →
    ∃ t r, Machine.exec .flowInsert s = .next t ∧ t.flow.cmds = rest ∧ t.flow.results = s.flow.results ++ [r]
      ∧ r.word / 2 ^ 20 = 2 + 1 * 16 ∧ t.flow.table = s.flow.table ∧ t.isSet Src.FLOW_INSERT_FULL = true
      ∧ t.reg .FLOW_INS_FULL 0 = BitVec.ofNat 32 (min (2 ^ 32 - 1) ((s.reg .FLOW_INS_FULL 0).toNat + 1))
      ∧ Machine.regsButAt [.FLOW_INS_FULL] 0 s t ∧ Machine.still s t)

/-- R147, R149, R150, R166: DELETE invalidates its key's entry alone, LOOKUP and READ answer an entry and change none, MODIFY
changes CTX, ACTION and AGE_EN alone; a key that is not held gives NOT_FOUND, a reserved OP BAD. A read of FLOW_RES or
FLOW_AGED pops its queue. The ager counts AGE down and removes the entries that reach its end; after reset every entry is
invalid and INIT_DONE is set. Where the event that a command reports cannot happen in the state, the command changes nothing: the model's choice
(notes/assumptions/10.md). -/
def Obligations.FlowTableAnswersAndAges : Prop :=
  (∀ (c : Nat × Nat) (rest : List (Nat × Nat)) (s : Machine.State), s.flow.cmds = c :: rest → Machine.cmdOp c = 2 →
    s.flow.results.length < 64 →
    ∃ t r, Machine.exec .flowDelete s = .next t ∧ t.flow.cmds = rest ∧ t.flow.results = s.flow.results ++ [r]
      ∧ (∀ i, s.flowFind (Machine.entryKey c.2) = some i → r.word = i + 2 * 2 ^ 24 ∧ Machine.entryValid (t.flowAt i) = false
          ∧ ∀ j, j ≠ i → t.flowAt j = s.flowAt j)
      ∧ (s.flowFind (Machine.entryKey c.2) = none → r.word / 2 ^ 20 = 3 + 2 * 16 ∧ t.flow.table = s.flow.table)
      ∧ t.regs = s.regs ∧ t.flt = s.flt ∧ Machine.still s t) ∧
  (∀ (c : Nat × Nat) (rest : List (Nat × Nat)) (s : Machine.State), s.flow.cmds = c :: rest → Machine.cmdOp c = 3 →
    s.flow.results.length < 64 →
    ∃ t r, Machine.exec .flowLookup s = .next t ∧ t.flow.cmds = rest ∧ t.flow.results = s.flow.results ++ [r]
      ∧ (∀ i, s.flowFind (Machine.entryKey c.2) = some i → r.word = i + 3 * 2 ^ 24 ∧ r.entry = s.flowAt i)
      ∧ (s.flowFind (Machine.entryKey c.2) = none → r.word / 2 ^ 20 = 3 + 3 * 16)
      ∧ t.flow.table = s.flow.table ∧ t.regs = s.regs ∧ t.flt = s.flt ∧ Machine.still s t) ∧
  (∀ (c : Nat × Nat) (rest : List (Nat × Nat)) (s : Machine.State), s.flow.cmds = c :: rest → Machine.cmdOp c = 4 →
    s.flow.results.length < 64 →
    ∃ t r, Machine.exec .flowRead s = .next t ∧ t.flow.cmds = rest ∧ t.flow.results = s.flow.results ++ [r]
      ∧ r.entry = s.flowAt (F.FLOW_Q_CMD_INDEX.of (BitVec.ofNat 32 c.1))
      ∧ r.word = F.FLOW_Q_CMD_INDEX.of (BitVec.ofNat 32 c.1) + 4 * 2 ^ 24
      ∧ t.flow.table = s.flow.table ∧ t.regs = s.regs ∧ t.flt = s.flt ∧ Machine.still s t) ∧
  (∀ (c : Nat × Nat) (rest : List (Nat × Nat)) (s : Machine.State), s.flow.cmds = c :: rest → Machine.cmdOp c = 5 →
    s.flow.results.length < 64 →
    ∃ t r, Machine.exec .flowModify s = .next t ∧ t.flow.cmds = rest ∧ t.flow.results = s.flow.results ++ [r]
      ∧ (∀ i, s.flowFind (Machine.entryKey c.2) = some i → r.word / 2 ^ 20 = 5 * 16
          ∧ bitsOf (t.flowAt i) 12 16 = bitsOf c.2 12 16 ∧ Machine.entryKey (t.flowAt i) = Machine.entryKey c.2
          ∧ Machine.entryValid (t.flowAt i) = true ∧ ∀ j, j ≠ i → t.flowAt j = s.flowAt j)
      ∧ (s.flowFind (Machine.entryKey c.2) = none → r.word / 2 ^ 20 = 3 + 5 * 16 ∧ t.flow.table = s.flow.table)
      ∧ t.regs = s.regs ∧ t.flt = s.flt ∧ Machine.still s t) ∧
  (∀ (c : Nat × Nat) (rest : List (Nat × Nat)) (s : Machine.State), s.flow.cmds = c :: rest →
    (Machine.cmdOp c = 0 ∨ 5 < Machine.cmdOp c) → s.flow.results.length < 64 →
    ∃ t r, Machine.exec .flowBadCmd s = .next t ∧ t.flow.cmds = rest ∧ t.flow.results = s.flow.results ++ [r]
      ∧ r.word / 2 ^ 20 = 4 + Machine.cmdOp c * 16 ∧ t.flow.table = s.flow.table ∧ t.regs = s.regs ∧ t.flt = s.flt
      ∧ Machine.still s t) ∧
  (∀ (m : Fin 8) (r : Machine.FlowRes) (rest : List Machine.FlowRes) (s : Machine.State), s.flow.results = r :: rest →
    ∃ t, Machine.exec (.flowResPop m) s = .next t ∧ t.flow.results = rest ∧ t.flow.table = s.flow.table
      ∧ t.resp.find? m = some ⟨r.word + 2 ^ 31, false⟩
      ∧ (∀ k, k < 4 → t.reg .FLOW_RES_DATA k = BitVec.ofNat 32 (r.entry / 2 ^ (32 * k)))
      ∧ Machine.regsBut [.FLOW_RES_DATA] s t ∧ t.flt = s.flt ∧ Machine.still s t) ∧
  (∀ (m : Fin 8) (s : Machine.State), s.flow.results = [] →
    ∃ t, Machine.exec (.flowResPop m) s = .next t ∧ (∀ x, t.resp.find? m = some x → bit x.data 31 = false)
      ∧ t = { s with resp := t.resp }) ∧
  (∀ (m : Fin 8) (s : Machine.State),
    ∃ t, Machine.exec (.flowAgedPop m) s = .next t ∧ t.flow.aged = s.flow.aged.drop 1 ∧ t.flow.table = s.flow.table
      ∧ (∀ i rest, s.flow.aged = i :: rest → t.resp.find? m = some ⟨i + 2 ^ 31, false⟩)
      ∧ (s.flow.aged = [] → t.resp.find? m = some ⟨0, false⟩) ∧ t.regs = s.regs ∧ t.flt = s.flt ∧ Machine.still s t) ∧
  (∀ (s : Machine.State), s.flow.table.keys.Nodup → s.fld F.FLOW_CFG_AGE_PERIOD 0 ≠ 0 →
    ∃ t, Machine.exec .flowAgePass s = .next t
      ∧ (∀ i, Machine.entryValid (s.flowAt i) = true → bit (s.flowAt i) 12 = true →
          (bitsOf (s.flowAt i) 10 2 = 0 → Machine.entryValid (t.flowAt i) = false ∧ t.isSet Src.FLOW_AGED = true)
            ∧ (bitsOf (s.flowAt i) 10 2 ≠ 0 → t.flowAt i = putBits (s.flowAt i) 10 2 (bitsOf (s.flowAt i) 10 2 - 1)))
      ∧ (∀ i, (Machine.entryValid (s.flowAt i) = false ∨ bit (s.flowAt i) 12 = false) → t.flowAt i = s.flowAt i)
      ∧ Machine.regsButAt [.FLOW_AGED_CNT] 0 s t ∧ Machine.still s t) ∧
  (∀ (s : Machine.State), s.fld F.FLOW_CFG_AGE_PERIOD 0 = 0 → Machine.exec .flowAgePass s = .next s) ∧
  (∀ (s : Machine.State),
    ∃ t, Machine.exec .flowInitDone s = .next t ∧ t.flag F.FLOW_STAT_INIT_DONE 0 = true
      ∧ (∀ i, Machine.entryValid (t.flowAt i) = false) ∧ Machine.regsButAt [.FLOW_STAT] 0 s t ∧ t.flt = s.flt
      ∧ Machine.still s t)

/-- R137, R140, R141: a write of EN = 1 on the lowest lane of a MEDIA group that no other enabled port has enables a port, one
that R137 ignores changes no register and sets CFG_REJECT; EN = 0 is taken unless an enabled context names the port. The link
comes up on an enabled port, and its fall clears LINK_UP and sets LINK_DOWN; a pause ends. -/
def Obligations.MediaPortsAndLinks : Prop :=
  (∀ (p : Fin 128) (v : Word) (s : Machine.State), s.flag F.MPORT_CFG_EN p = false →
    s.portLaneOk (F.MPORT_CFG_LANE.of v) = true →
    (∀ q, q < 128 → q ≠ p → s.flag F.MPORT_CFG_EN q = true → s.portLane q ≠ F.MPORT_CFG_LANE.of v) →
    (F.MPORT_CFG_JUMBO.of v = 0 ∨ s.flag F.MPORT_HRX_CFG_SLOT p = true ∧ s.flag F.MPORT_HTX_CFG_SLOT p = true) →
    ∃ t, Machine.exec (.mportEnable p v) s = .next t ∧ t.flag F.MPORT_CFG_EN p = true
      ∧ t.fld F.MPORT_CFG_LANE p = F.MPORT_CFG_LANE.of v ∧ t.fld F.MPORT_CFG_JUMBO p = F.MPORT_CFG_JUMBO.of v
      ∧ t.fld F.MPORT_CFG_RSFEC p = F.MPORT_CFG_RSFEC.of v
      ∧ Machine.regsButAt [.MPORT_CFG] p s t ∧ t = { s with regs := t.regs }) ∧
  (∀ (p : Fin 128) (v : Word) (s : Machine.State), s.flag F.MPORT_CFG_EN p = false →
    (s.portLaneOk (F.MPORT_CFG_LANE.of v) = false
      ∨ (∃ q, q < 128 ∧ q ≠ p ∧ s.flag F.MPORT_CFG_EN q = true ∧ s.portLane q = F.MPORT_CFG_LANE.of v)
      ∨ F.MPORT_CFG_JUMBO.of v = 1 ∧ (s.flag F.MPORT_HRX_CFG_SLOT p = false ∨ s.flag F.MPORT_HTX_CFG_SLOT p = false)) →
    ∃ t, Machine.exec (.mportEnable p v) s = .next t ∧ t.regs = s.regs ∧ t.isSet Src.MPORT_CFG_REJECT = true
      ∧ Machine.onlyRegs s t) ∧
  (∀ (p : Fin 128) (v : Word) (s : Machine.State), s.flag F.MPORT_CFG_EN p = true → s.portNamed p = false →
    F.MPORT_CFG_LANE.of v = s.portLane p → F.MPORT_CFG_RSFEC.of v = s.fld F.MPORT_CFG_RSFEC p →
    F.MPORT_CFG_JUMBO.of v = s.fld F.MPORT_CFG_JUMBO p →
    ∃ t, Machine.exec (.mportDisable p v) s = .next t ∧ t.flag F.MPORT_CFG_EN p = false
      ∧ t.flag F.MPORT_STAT_LINK_UP p = false ∧ Machine.regsButAt [.MPORT_CFG, .MPORT_STAT] p s t ∧ Machine.onlyRegs s t) ∧
  (∀ (p : Fin 128) (v : Word) (s : Machine.State), s.flag F.MPORT_CFG_EN p = true → s.portNamed p = true →
    ∃ t, Machine.exec (.mportDisable p v) s = .next t ∧ t.regs = s.regs ∧ t.isSet Src.MPORT_CFG_REJECT = true
      ∧ Machine.onlyRegs s t) ∧
  (∀ (p : Fin 128) (s : Machine.State), s.flag F.MPORT_STAT_LINK_UP p = true →
    ∃ t, Machine.exec (.mportLinkDown p) s = .next t ∧ t.flag F.MPORT_STAT_LINK_UP p = false
      ∧ t.flag F.MPORT_STAT_LINK_DOWN_S p = true ∧ t.isSet Src.MPORT_LINK_DOWN = true
      ∧ Machine.regsButAt [.MPORT_STAT] p s t ∧ Machine.onlyRegs s t) ∧
  (∀ (p : Fin 128) (s : Machine.State), s.flag F.MPORT_CFG_EN p = true →
    ∃ t, Machine.exec (.mportLinkUp p) s = .next t ∧ t.flag F.MPORT_STAT_LINK_UP p = true
      ∧ Machine.regsButAt [.MPORT_STAT] p s t ∧ t = { s with regs := t.regs }) ∧
  (∀ (p : Fin 128) (s : Machine.State), s.flag F.MPORT_STAT_PAUSED p = true →
    ∃ t, Machine.exec (.pauseEnd p) s = .next t ∧ t.flag F.MPORT_STAT_PAUSED p = false
      ∧ s.now ≤ t.now ∧ s.mport.pause.get 0 p ≤ t.now ∧ Machine.still s t)

/-- R138 to R146: a frame on a port whose link is down changes nothing; one that fails a check of R138 is counted under that
cause alone; a PAUSE frame stops the transmitter and is counted as filtered; a Flow Table hit takes the entry's ACTION, the
miss and the other frames go to the host filter, which counts what it does not pass; a frame that it passes goes with its
descriptor into the ring's slot at HEAD, and a full ring drops it; no other byte of memory changes. Where the event that a command reports cannot happen in the state, the command changes nothing: the model's choice
(notes/assumptions/10.md). -/
def Obligations.MediaFramesAreClassified : Prop :=
  (∀ (p : Fin 128) (f : MediaFrame) (s : Machine.State), s.portUp p = false →
    Machine.exec (.mediaFrameRx p f) s = .next s) ∧
  (∀ (p : Fin 128) (f : MediaFrame) (s : Machine.State), s.portUp p = true → f.eth.fault (s.flag F.MPORT_CFG_JUMBO p) ≠ 0 →
    ∃ t, Machine.exec (.mediaFrameRx p f) s = .next t ∧ t.isSet Src.MPORT_BAD_FRAME = true
      ∧ t.reg (Machine.frameCounter (f.eth.fault (s.flag F.MPORT_CFG_JUMBO p))) p = BitVec.ofNat 32 (min (2 ^ 32 - 1)
          ((s.reg (Machine.frameCounter (f.eth.fault (s.flag F.MPORT_CFG_JUMBO p))) p).toNat + 1))
      ∧ Machine.regsButAt [.MPORT_FEC_CORR, .MPORT_FEC_UNCORR,
          Machine.frameCounter (f.eth.fault (s.flag F.MPORT_CFG_JUMBO p))] p s t ∧ Machine.onlyRegs s t) ∧
  (∀ (p : Fin 128) (f : MediaFrame) (q : Nat) (s : Machine.State), s.portUp p = true →
    f.eth.fault (s.flag F.MPORT_CFG_JUMBO p) = 0 → f.eth.pause = some q → q ≠ 0 →
    ∃ t, Machine.exec (.mediaFrameRx p f) s = .next t ∧ t.flag F.MPORT_STAT_PAUSED p = true
      ∧ t.mport.pause.get 0 p = s.now + ceilDiv (q * 512) (max 1 (s.portGbps p))
      ∧ t.reg .MPORT_RX_FILTER p = BitVec.ofNat 32 (min (2 ^ 32 - 1) ((s.reg .MPORT_RX_FILTER p).toNat + 1))
      ∧ t.flow = s.flow ∧ t.flt = s.flt ∧ Machine.still s t) ∧
  (∀ (p : Fin 128) (f : MediaFrame) (x : IpPacket) (i : Nat) (s : Machine.State), s.portUp p = true →
    f.eth.fault (s.flag F.MPORT_CFG_JUMBO p) = 0 → f.eth.pause = none → s.ptpPlaces p = [] → f.eth.ip = some x →
    x.sumOk = true → x.udp = true → x.fragment = false → x.udpLenOk = true → f.ecc = [] →
    s.flag F.FLOW_STAT_INIT_DONE 0 = true →
    s.flowFind (Machine.flowKey x.dst x.src x.dport p f.eth.tagged f.eth.vid) = some i →
    ∃ u, Machine.exec (.mediaFrameRx p f) s = .next (Machine.flowAct p i f u)
      ∧ u.flowAt i = putBits (s.flowAt i) 10 2 3 ∧ (∀ j, j ≠ i → u.flowAt j = s.flowAt j)
      ∧ u.reg .FLOW_HIT 0 = BitVec.ofNat 32 (min (2 ^ 32 - 1) ((s.reg .FLOW_HIT 0).toNat + 1))
      ∧ u.reg .FLOW_MISS 0 = s.reg .FLOW_MISS 0 ∧ u.flt = s.flt ∧ Machine.still s u) ∧
  (∀ (p : Fin 128) (f : MediaFrame) (s : Machine.State), s.portUp p = true →
    f.eth.fault (s.flag F.MPORT_CFG_JUMBO p) = 0 → f.eth.pause = none → s.ptpPlaces p = [] → f.eth.ip = none →
    (f.eth.dst = 0xFFFFFFFFFFFF → s.flag F.MPORT_CFG_HOST_BCAST p = false) →
    s.flag F.MPORT_CFG_HOST_UCAST p = false → s.flag F.MPORT_CFG_HOST_LL p = false →
    ∃ t, Machine.exec (.mediaFrameRx p f) s = .next t
      ∧ t.reg .MPORT_RX_FILTER p = BitVec.ofNat 32 (min (2 ^ 32 - 1) ((s.reg .MPORT_RX_FILTER p).toNat + 1))
      ∧ Machine.regsButAt [.MPORT_RX_FILTER, .MPORT_FEC_CORR, .MPORT_FEC_UNCORR, .MPORT_RX_FRAMES_LO, .MPORT_RX_FRAMES_HI] p s t
      ∧ t = { s with regs := t.regs }) ∧
  (∀ (p : Fin 128) (f : MediaFrame) (head base : Nat) (s : Machine.State), s.portUp p = true →
    f.eth.fault (s.flag F.MPORT_CFG_JUMBO p) = 0 → f.eth.pause = none → s.ptpPlaces p = [] → f.eth.ip = none →
    f.eth.dst = 0xFFFFFFFFFFFF → s.flag F.MPORT_CFG_HOST_BCAST p = true → head = s.fld F.MPORT_HRX_HEAD_IDX p →
    (head + 1) % 2 ^ s.fld F.MPORT_HRX_CFG_SIZE p ≠ s.fld F.MPORT_HRX_TAIL_IDX p → s.fld F.MPORT_HRX_CFG_SIZE p ≤ 12 →
    base = s.fld F.MPORT_HRX_CFG_BASE_HI p * 2 ^ 32 + s.fld F.MPORT_HRX_BASE_LO_BASE p * 64
      + head * (if s.flag F.MPORT_HRX_CFG_SLOT p then 10240 else 2048) → s.mem.wf = true →
    ∃ t, Machine.exec (.mediaFrameRx p f) s = .next t
      ∧ t.load base (32 + f.eth.bytes.length)
          = rxDescriptor f.eth.bytes.length 0 f.eth.tagged 0 (s.frameStamp p) 0 ++ f.eth.bytes
      ∧ (∀ a, (a < base ∨ base + 32 + f.eth.bytes.length ≤ a) → t.mem.read a = s.mem.read a)
      ∧ t.fld F.MPORT_HRX_HEAD_IDX p = (head + 1) % 2 ^ s.fld F.MPORT_HRX_CFG_SIZE p
      ∧ t.flt = s.flt ∧ t.pending = s.pending) ∧
  (∀ (p : Fin 128) (f : MediaFrame) (s : Machine.State), s.portUp p = true →
    f.eth.fault (s.flag F.MPORT_CFG_JUMBO p) = 0 → f.eth.pause = none → s.ptpPlaces p = [] → f.eth.ip = none →
    f.eth.dst = 0xFFFFFFFFFFFF → s.flag F.MPORT_CFG_HOST_BCAST p = true →
    (s.fld F.MPORT_HRX_HEAD_IDX p + 1) % 2 ^ s.fld F.MPORT_HRX_CFG_SIZE p = s.fld F.MPORT_HRX_TAIL_IDX p →
    ∃ t, Machine.exec (.mediaFrameRx p f) s = .next t ∧ t.isSet Src.MPORT_HOST_DROP = true
      ∧ t.reg .MPORT_RX_HOST_DROP p = BitVec.ofNat 32 (min (2 ^ 32 - 1) ((s.reg .MPORT_RX_HOST_DROP p).toNat + 1))
      ∧ t.reg .MPORT_HRX_HEAD p = s.reg .MPORT_HRX_HEAD p ∧ Machine.still s t)

/-- R151 to R158: a write of EN = 1 that R151 and R117 allow enables a receive context in NO_FLOW, and one that they ignore
changes no register and sets CFG_REJECT; a timeout returns a context to NO_FLOW and counts an unlock where it was LOCKED; an
open line closes into the Line Pool; a merge group is enabled with its HBM share, and gives up its next packet at T_rel, whose
sequence number is then the last released. Where the event that a command reports cannot happen in the state, the command changes nothing: the model's choice
(notes/assumptions/10.md). -/
def Obligations.ReceiveContextsAndMerges : Prop :=
  (∀ (c : Fin 4096) (v : Word) (s : Machine.State), s.flag F.MPORT_RXC_CFG_EN c = false →
    s.rxcMayEnable c (v ||| 1#32) = true →
    ∃ t, Machine.exec (.rxcEnable c v) s = .next t ∧ t.flag F.MPORT_RXC_CFG_EN c = true ∧ t.rxcState c = 0
      ∧ t.fld F.MPORT_RXC_CFG_TYPE c = F.MPORT_RXC_CFG_TYPE.of v ∧ t.fld F.MPORT_RXC_CFG_PORT c = F.MPORT_RXC_CFG_PORT.of v
      ∧ t.fld F.MPORT_RXC_CFG_FMT c = F.MPORT_RXC_CFG_FMT.of v ∧ t.rxc c = .reset ∧ Machine.still s t) ∧
  (∀ (c : Fin 4096) (v : Word) (s : Machine.State), s.flag F.MPORT_RXC_CFG_EN c = false →
    s.rxcMayEnable c (v ||| 1#32) = false →
    ∃ t, Machine.exec (.rxcEnable c v) s = .next t ∧ t.regs = s.regs ∧ t.isSet Src.MPORT_CFG_REJECT = true
      ∧ Machine.onlyRegs s t) ∧
  (∀ (c : Fin 4096) (s : Machine.State), s.flag F.MPORT_RXC_CFG_EN c = true → s.rxcState c ≠ 0 →
    ∃ t, Machine.exec (.rxcTimeout c) s = .next t ∧ t.rxcState c = 0
      ∧ (s.rxc c).lastPkt + s.fld F.MPORT_RXC_CHK_TIMEOUT c * 100000 ≤ t.now
      ∧ t.reg .MPORT_RXC_UNLOCK_CNT c = (if s.rxcState c = 2
          then BitVec.ofNat 32 (min (2 ^ 32 - 1) ((s.reg .MPORT_RXC_UNLOCK_CNT c).toNat + 1)) else s.reg .MPORT_RXC_UNLOCK_CNT c)
      ∧ (s.rxcState c = 2 → t.isSet Src.MPORT_CTX_UNLOCK = true) ∧ Machine.still s t) ∧
  (∀ (c : Fin 4096) (l : Machine.RxLine) (s : Machine.State), (s.rxc c).line = some l →
    ∃ t, Machine.exec (.rxcLineClose c) s = .next t ∧ (t.rxc c).line = none ∧ (t.rxc c).frame = (s.rxc c).frame
      ∧ t.rxcState c = s.rxcState c ∧ Machine.still s t) ∧
  (∀ (c : Fin 4096) (s : Machine.State), (s.rxc c).line = none → Machine.exec (.rxcLineClose c) s = .next s) ∧
  (∀ (m : Fin 1024) (v : Word) (s : Machine.State), s.flag F.MPORT_MRG_CFG_EN m = false → s.mrgMayEnable m (v ||| 1#32) = true →
    ∃ t, Machine.exec (.mergeEnable m v) s = .next t ∧ t.flag F.MPORT_MRG_CFG_EN m = true
      ∧ t.fld F.MPORT_MRG_CFG_CTX_A m = F.MPORT_MRG_CFG_CTX_A.of v ∧ t.fld F.MPORT_MRG_CFG_CTX_B m = F.MPORT_MRG_CFG_CTX_B.of v
      ∧ t.mrg m = .reset ∧ t.reg .MPORT_MRG_STAT m = 0
      ∧ Machine.regsButAt [.MPORT_MRG_CFG, .MPORT_MRG_STAT] m s t ∧ t.flt = s.flt ∧ Machine.still s t) ∧
  (∀ (m : Fin 1024) (v : Word) (s : Machine.State), s.flag F.MPORT_MRG_CFG_EN m = false → s.mrgMayEnable m (v ||| 1#32) = false →
    ∃ t, Machine.exec (.mergeEnable m v) s = .next t ∧ t.regs = s.regs ∧ t.isSet Src.MPORT_CFG_REJECT = true
      ∧ Machine.onlyRegs s t) ∧
  (∀ (m : Fin 1024) (k : Machine.MergePkt) (s : Machine.State), s.flag F.MPORT_MRG_CFG_EN m = true →
    s.nextRelease m = some k →
    ∃ t, Machine.exec (.mergeRelease m) s = .next t ∧ s.releaseAt m k ≤ t.now ∧ (t.mrg m).last = some k.seq
      ∧ (t.mrg m).buf = (s.mrg m).buf.filter (fun e => e.seq != k.seq) ∧ Machine.still s t) ∧
  (∀ (m : Fin 1024) (s : Machine.State), (s.flag F.MPORT_MRG_CFG_EN m = false ∨ s.nextRelease m = none) →
    Machine.exec (.mergeRelease m) s = .next s)

/-- R139, R145, R160 to R162: a write of EN = 1 that R160 allows enables a transmit context and shows its wire rate, and one
that it ignores changes no register and sets CFG_REJECT. A video packet leaves at t_k with the next sequence number; packets
of a port in pause are counted as dropped. A host frame that fits before the next paced packet leaves its ring with its FCS,
and one beyond the port's limit is discarded and counted. -/
def Obligations.MediaPortsSend : Prop :=
  (∀ (k : Fin 2048) (v : Word) (s : Machine.State), s.txcMayEnable k (v ||| 1#32) = true →
    ∃ t, Machine.exec (.txcEnable k v) s = .next t ∧ t.flag F.MPORT_TXC_CFG_EN k = true
      ∧ t.fld F.MPORT_TXC_CFG_TYPE k = F.MPORT_TXC_CFG_TYPE.of v ∧ t.fld F.MPORT_TXC_CFG_PORT_A k = F.MPORT_TXC_CFG_PORT_A.of v
      ∧ t.fld F.MPORT_TXC_WIRE_MBPS k = s.wireRate k (v ||| 1#32) % 2 ^ 20
      ∧ (s.flag F.MPORT_TXC_CFG_EN k = false → F.MPORT_TXC_CFG_TYPE.of v ≠ 0 → Machine.regsButAt [.MPORT_TXC_CFG, .MPORT_TXC_WIRE] k s t)
      ∧ Machine.regsBut [.MPORT_TXC_CFG, .MPORT_TXC_WIRE, .XPT_VOUT_ROFF, .XPT_VOUT_RHOLD] s t ∧ t.flt = s.flt
      ∧ Machine.still s t) ∧
  (∀ (k : Fin 2048) (v : Word) (s : Machine.State), s.txcMayEnable k (v ||| 1#32) = false →
    ∃ t, Machine.exec (.txcEnable k v) s = .next t ∧ t.regs = s.regs ∧ t.isSet Src.MPORT_CFG_REJECT = true
      ∧ Machine.onlyRegs s t) ∧
  (∀ (k : Fin 2048) (n j o : Nat) (tk f3 : Int) (s : Machine.State), s.flag F.MPORT_TXC_CFG_EN k = true →
    s.fld F.MPORT_TXC_CFG_TYPE k = 0 → o = s.fld F.MPORT_TXC_SRC_SRC k % 1024 → s.packetInstant k n j = some tk →
    (s.ownerTd o).bind (fun d => s.frameStart3 d n) = some f3 →
    j < Machine.fmtFields (s.fld F.MPORT_TXC_CFG_FMT k) * max 1 (s.fieldPackets k (s.fld F.MPORT_TXC_CFG_FMT k)) →
    ∃ t, Machine.exec (.mediaPacketTx k n j) s = .next t ∧ (t.txc k).sent = some (n, j)
      ∧ (t.txc k).seq = ((s.txc k).seq + 1) % 2 ^ 32 ∧ s.now ≤ t.now ∧ Machine.still s t) ∧
  (∀ (k : Fin 2048) (n j : Nat) (s : Machine.State), s.flag F.MPORT_TXC_CFG_EN k = true →
    (s.fld F.MPORT_TXC_CFG_TYPE k = 1 ∨ s.fld F.MPORT_TXC_CFG_TYPE k = 2) →
    s.flag F.MPORT_TXC_CFG_DUAL k = false → s.portUp (s.fld F.MPORT_TXC_CFG_PORT_A k) = true →
    s.portPaused (s.fld F.MPORT_TXC_CFG_PORT_A k) = true → s.txcSamples k ≤ (s.txc k).audio.length →
    ∃ t, Machine.exec (.mediaPacketTx k n j) s = .next t
      ∧ t.reg .MPORT_TX_PAUSE_DROP (s.fld F.MPORT_TXC_CFG_PORT_A k)
          = BitVec.ofNat 32 (min (2 ^ 32 - 1) ((s.reg .MPORT_TX_PAUSE_DROP (s.fld F.MPORT_TXC_CFG_PORT_A k)).toNat + 1))
      ∧ (t.txc k).audio = (s.txc k).audio.drop (s.txcSamples k) ∧ (t.txc k).seq = ((s.txc k).seq + 1) % 2 ^ 32
      ∧ t.wire = s.wire ∧ Machine.regsButAt [.MPORT_TX_PAUSE_DROP] (s.fld F.MPORT_TXC_CFG_PORT_A k) s t ∧ t.flt = s.flt
      ∧ Machine.still s t) ∧
  (∀ (p : Fin 128) (a len : Nat) (s : Machine.State), s.portUp p = true → s.portPaused p = false →
    s.fld F.MPORT_HTX_HEAD_IDX p ≠ s.fld F.MPORT_HTX_TAIL_IDX p →
    a = s.fld F.MPORT_HTX_CFG_BASE_HI p * 2 ^ 32 + s.fld F.MPORT_HTX_BASE_LO_BASE p * 64
      + s.fld F.MPORT_HTX_HEAD_IDX p * (if s.flag F.MPORT_HTX_CFG_SLOT p then 10240 else 2048) →
    len = leNat (s.load a 4) % 2 ^ 14 → len + 4 ≤ maxFrame (s.flag F.MPORT_CFG_JUMBO p) →
    s.hostFits p (max 64 (len + 4)) = true → s.fld F.MPORT_HTX_CFG_SIZE p ≤ 12 →
    ∃ t, Machine.exec (.hostFrameTx p) s = .next t
      ∧ t.wire.find? (s.portLane p) = some (macFrame (s.load (a + 32) len))
      ∧ t.fld F.MPORT_HTX_HEAD_IDX p = (s.fld F.MPORT_HTX_HEAD_IDX p + 1) % 2 ^ s.fld F.MPORT_HTX_CFG_SIZE p
      ∧ Machine.still s t) ∧
  (∀ (p : Fin 128) (a len : Nat) (s : Machine.State), s.portUp p = true → s.portPaused p = false →
    s.fld F.MPORT_HTX_HEAD_IDX p ≠ s.fld F.MPORT_HTX_TAIL_IDX p →
    a = s.fld F.MPORT_HTX_CFG_BASE_HI p * 2 ^ 32 + s.fld F.MPORT_HTX_BASE_LO_BASE p * 64
      + s.fld F.MPORT_HTX_HEAD_IDX p * (if s.flag F.MPORT_HTX_CFG_SLOT p then 10240 else 2048) →
    len = leNat (s.load a 4) % 2 ^ 14 → maxFrame (s.flag F.MPORT_CFG_JUMBO p) < len + 4 →
    s.fld F.MPORT_HTX_CFG_SIZE p ≤ 12 →
    ∃ t, Machine.exec (.hostFrameTx p) s = .next t ∧ t.wire = s.wire
      ∧ t.reg .MPORT_TX_OVERSIZE p = BitVec.ofNat 32 (min (2 ^ 32 - 1) ((s.reg .MPORT_TX_OVERSIZE p).toNat + 1))
      ∧ t.fld F.MPORT_HTX_HEAD_IDX p = (s.fld F.MPORT_HTX_HEAD_IDX p + 1) % 2 ^ s.fld F.MPORT_HTX_CFG_SIZE p
      ∧ Machine.regsButAt [.MPORT_TX_OVERSIZE, .MPORT_HTX_HEAD] p s t ∧ t.flt = s.flt ∧ Machine.still s t)

/-- R10, R11, R52, R54, R203, R204, R210, R256: the events of a frame in their order. A Cue Open opens the frame that R52 places
and makes visible the entries taken before it; the Shutter closes it, counts it and stamps REF_TD_SHUTTER; the swap of the
Tally Mirror shows the words of that Shutter; the close of the Overlap Window ends the reading of outgoing routes. An event
out of its place changes nothing. From O(N) + 100 ns the threads due in a frame are dispatched, and a free engine of the
domain takes the next one, which is then RUNNING on that engine; an engine that is down, serves no such domain or runs a
thread takes none. Where the event that a command reports cannot happen in the state, the command changes nothing: the model's choice
(notes/assumptions/10.md). -/
def Obligations.FrameEventsInOrder : Prop :=
  (∀ (td : Fin 8) (f : FrameStart) (slew : Nat) (ph : Int) (x : Machine.FrameTimes) (s : Machine.State),
    s.openFrame td f slew = some (ph, x) →
    ∃ t, Machine.exec (.cueOpen td f slew) s = .next t ∧ (t.tdOf td).opened = some x ∧ (t.tdOf td).phase = ph
      ∧ (t.tdOf td).last = (s.tdOf td).last ∧ t.reg .REF_TD_FRAME td = s.reg .REF_TD_FRAME td
      ∧ (∀ e, e ∈ s.cue.tq → s.ownerTd e.obj = some td.val → Machine.etBefore e.t (unsign 48 x.cueOpen) = true →
          ∃ e', e' ∈ t.cue.tq ∧ e'.w0 = e.w0 ∧ e'.w1 = e.w1 ∧ e'.seen.isSome = true)
      ∧ Machine.still s t) ∧
  (∀ (td : Fin 8) (f : FrameStart) (slew : Nat) (s : Machine.State), s.openFrame td f slew = none →
    Machine.exec (.cueOpen td f slew) s = .next s) ∧
  (∀ (td : Fin 8) (x : Machine.FrameTimes) (s : Machine.State), (s.tdOf td).opened = some x →
    ∃ t, Machine.exec (.shutter td) s = .next t ∧ (t.tdOf td).opened = none ∧ (t.tdOf td).last = some x
      ∧ (t.tdOf td).overlapOpen = true ∧ t.reg .REF_TD_FRAME td = s.reg .REF_TD_FRAME td + 1
      ∧ t.flag F.REF_TD_STAT_RUN td = true
      ∧ t.reg .REF_TD_SHUTTER_LO td = BitVec.ofNat 32 (unsign 48 x.shutter)
      ∧ t.reg .REF_TD_SHUTTER_HI td = BitVec.ofNat 32 (unsign 48 x.shutter / 2 ^ 32)
      ∧ td.val ∈ t.ttb.due ∧ t.ttb.front = s.ttb.front
      ∧ (∀ n : Fin 8, n ≠ td → t.tdOf n = s.tdOf n) ∧ Machine.still s t) ∧
  (∀ (td : Fin 8) (s : Machine.State), (s.tdOf td).opened = none → Machine.exec (.shutter td) s = .next s) ∧
  (∀ (td : Fin 8) (s : Machine.State), td.val ∈ s.ttb.due →
    ∃ t, Machine.exec (.tallyMirrorSwap td) s = .next t ∧ td.val ∉ t.ttb.due ∧ t.ttb.back = s.ttb.back
      ∧ (∀ (a : Nat) (w : Word), (a, w) ∈ s.ttb.back.get [] td → (∀ w', (a, w') ∈ s.ttb.back.get [] td → w' = w) →
          t.ttb.front.find? a = some (td.val, w))
      ∧ t.flag F.TTB_STAT_CLK_OK 0 = true ∧ Machine.regsButAt [.TTB_STAT] 0 s t ∧ t.flt = s.flt ∧ Machine.still s t) ∧
  (∀ (td : Fin 8) (s : Machine.State), td.val ∉ s.ttb.due →
    ∃ t, Machine.exec (.tallyMirrorSwap td) s = .next t ∧ t.ttb = s.ttb ∧ Machine.regsButAt [.TTB_STAT] 0 s t
      ∧ t.flt = s.flt ∧ Machine.still s t) ∧
  (∀ (td : Fin 8) (x : Machine.FrameTimes) (s : Machine.State), (s.tdOf td).last = some x → (s.tdOf td).overlapOpen = true →
    ∃ t, Machine.exec (.overlapWindowClose td) s = .next t ∧ (t.tdOf td).overlapOpen = false
      ∧ (t.tdOf td).last = some x ∧ (t.tdOf td).opened = (s.tdOf td).opened
      ∧ (∀ o r, (s.routes o).prev = some r → r.td = td.val → (t.routes o).prev = none)
      ∧ (∀ o, (t.routes o).committed = (s.routes o).committed) ∧ Machine.still s t) ∧
  (∀ (td : Fin 8) (s : Machine.State), ((s.tdOf td).last = none ∨ (s.tdOf td).overlapOpen = false) →
    Machine.exec (.overlapWindowClose td) s = .next s) ∧
  (∀ (td : Fin 8) (x : Machine.FrameTimes) (s : Machine.State), (s.tdOf td).opened = some x →
    ∃ t, Machine.exec (.threadDispatch td) s = .next t ∧ t.cue.ready.get [] td = s.cue.due.get [] td
      ∧ t.cue.due.get [] td = [] ∧ t.cue.thr = s.cue.thr ∧ t.tdOf td = s.tdOf td ∧ Machine.still s t) ∧
  (∀ (td : Fin 8) (s : Machine.State), (s.tdOf td).opened = none → Machine.exec (.threadDispatch td) s = .next s) ∧
  (∀ (td : Fin 8) (e : Fin 18) (x : Machine.FrameTimes) (n : Nat) (rest : List Nat) (y : Machine.Thread) (s : Machine.State),
    (s.tdOf td).opened = some x → s.readyList td = n :: rest → s.engUp e = true → s.serves e = some td.val →
    s.runningOn e = none → max (x.cueOpen + 100) (s.cue.engFree.get (x.cueOpen + 100) e) < x.shutter → s.thread? n = some y →
    s.flag F.CUE_THR_CFG_BUILTIN n = false →
    ∃ t z, Machine.exec (.threadRunStart td e) s = .next t ∧ t.thread? n = some z ∧ z.st = 2 ∧ z.eng = some e.val
      ∧ z.ctx = y.ctx ∧ z.used = 0 ∧ z.budget = y.budget ∧ z.wake = .none ∧ t.cue.ready.get [] td = rest
      ∧ (∀ k, k ≠ n → t.thread? k = s.thread? k) ∧ Machine.still s t) ∧
  (∀ (td : Fin 8) (e : Fin 18) (x : Machine.FrameTimes) (n : Nat) (rest : List Nat) (y : Machine.Thread) (s : Machine.State),
    (s.tdOf td).opened = some x → s.readyList td = n :: rest → s.engUp e = true → s.serves e = some td.val →
    s.runningOn e = none → max (x.cueOpen + 100) (s.cue.engFree.get (x.cueOpen + 100) e) < x.shutter → s.thread? n = some y →
    s.flag F.CUE_THR_CFG_BUILTIN n = true →
    ∃ u z, Machine.exec (.threadRunStart td e) s = .next (Machine.runBuiltin n x.shutter u) ∧ u.thread? n = some z ∧ z.st = 2
      ∧ z.eng = some e.val ∧ z.held = y.held ∧ u.cue.ready.get [] td = rest ∧ u.cue.tq = s.cue.tq ∧ Machine.still s u) ∧
  (∀ (td : Fin 8) (e : Fin 18) (s : Machine.State), (s.engUp e = false ∨ s.serves e ≠ some td.val ∨ (s.runningOn e).isSome = true) →
    Machine.exec (.threadRunStart td e) s = .next s)

/-- R18, R171, R180, R185, R186: a write of XPT_CFG takes an OVERLAP of at most 16 whose storage fits both planes, and is
ignored otherwise; FS_ARM = 1 is ignored for a VIN without a feeder; a line is written into both planes' storage with its
running checks; a line that is read comes from the route that governs it, and is black where the output has no route. -/
def Obligations.LinesAndStorage : Prop :=
  (∀ (v : Word) (s : Machine.State), F.XPT_CFG_OVERLAP.of v ≤ 16 →
    s.fitsAt 0 s.storeTotal (max (F.XPT_CFG_OVERLAP.of v) (s.ovlInForce 0)) = true →
    s.fitsAt 1 s.storeTotal (max (F.XPT_CFG_OVERLAP.of v) (s.ovlInForce 1)) = true →
    ∃ t, Machine.exec (.overlapWrite v) s = .next t ∧ t.fld F.XPT_CFG_OVERLAP 0 = F.XPT_CFG_OVERLAP.of v
      ∧ t.xpt = s.xpt ∧ Machine.regsButAt [.XPT_CFG] 0 s t ∧ t.flt = s.flt ∧ Machine.still s t) ∧
  (∀ (v : Word) (s : Machine.State), (16 < F.XPT_CFG_OVERLAP.of v ∨
      s.fitsAt 0 s.storeTotal (max (F.XPT_CFG_OVERLAP.of v) (s.ovlInForce 0)) = false) →
    ∃ t, Machine.exec (.overlapWrite v) s = .next t ∧ t.regs = s.regs ∧ t.xpt = s.xpt ∧ t.isSet Src.XPT_CFG_REJECT = true
      ∧ Machine.onlyRegs s t) ∧
  (∀ (n : Fin 1024) (v : Word) (s : Machine.State), s.findSync n (F.XPT_VIN_CFG_TD.of v) = none → (s.vinRec n).feeder = false →
    ∃ t, Machine.exec (.fsArmWrite n v) s = .next t ∧ t.regs = s.regs ∧ t.xpt = s.xpt ∧ t.isSet Src.XPT_CFG_REJECT = true
      ∧ Machine.onlyRegs s t) ∧
  (∀ (n : Fin 1024) (v : Word) (j : Nat) (x : Machine.FsSync) (s : Machine.State),
    s.findSync n (F.XPT_VIN_CFG_TD.of v) = some j → s.xpt.sync.find? j = some x → x.vin = n.val →
    x.td = F.XPT_VIN_CFG_TD.of v →
    ∃ t y, Machine.exec (.fsArmWrite n v) s = .next t ∧ t.flag F.XPT_VIN_CFG_FS_ARM n = true
      ∧ t.fld F.XPT_VIN_CFG_TD n = F.XPT_VIN_CFG_TD.of v ∧ t.xpt.sync.find? j = some y ∧ y.armed = true ∧ y.frames = x.frames
      ∧ t.isSet Src.XPT_CFG_REJECT = s.isSet Src.XPT_CFG_REJECT ∧ Machine.still s t) ∧
  (∀ (n : Fin 1024) (l : LineIn) (s : Machine.State), (s.xpt.store.find? n).isSome = true →
    ∃ t p, Machine.exec (.lineWrite n l) s = .next t ∧ (t.poolOf n).head? = some p ∧ p.line = l.line ∧ p.frame = l.frame
      ∧ p.present = l.present ∧ p.words = l.words ∧ p.checks = Machine.lineChecks n l.line l.frame l.words
      ∧ (∀ k, k ≠ n.val → t.poolOf k = s.poolOf k) ∧ Machine.still s t) ∧
  (∀ (n : Fin 1024) (l : LineIn) (s : Machine.State), s.xpt.store.find? n = none →
    ∃ t, Machine.exec (.lineWrite n l) s = .next t ∧ t.xpt = s.xpt ∧ Machine.still s t) ∧
  (∀ (o : Fin 1024) (frame line : Nat) (offs : List Int) (bad : List WordFault) (s : Machine.State), s.ownerTd o = none →
    ∃ u l, Machine.exec (.lineRead o frame line offs bad) s = .next (Machine.txcLine o u) ∧ u.xpt.out.find? o = some l
      ∧ l.line = line ∧ l.frame = frame ∧ l.words = Machine.blackWords (s.fld F.XPT_VOUT_CFG_FMT o) ∧ u.regs = s.regs
      ∧ u.flt = s.flt ∧ Machine.still s u) ∧
  (∀ (o : Fin 1024) (frame line n e : Nat) (r : Machine.Route) (p : Machine.PoolLine) (offs : List Int) (s : Machine.State),
    s.ownerTd o = some n → s.routeForLine o n frame line = some r → s.vinPresent r.vin = true →
    r.path = 1 → s.routeLine o r line frame = (e, some p) →
    ∃ u l, Machine.exec (.lineRead o frame line offs []) s = .next (Machine.txcLine o u) ∧ u.xpt.out.find? o = some l
      ∧ l.line = line ∧ l.frame = frame ∧ l.words = p.words ∧ l.present = p.present ∧ u.regs = s.regs ∧ u.flt = s.flt
      ∧ Machine.still s u) ∧
  (∀ (o : Fin 1024) (frame line n e : Nat) (r : Machine.Route) (p : Machine.PoolLine) (offs : List Int) (s : Machine.State),
    s.ownerTd o = some n → s.routeForLine o n frame line = some r → s.vinPresent r.vin = true → r.path = 0 →
    s.routeLine o r line frame = (e, some p) → p.checks = Machine.lineChecks e p.line p.frame p.words →
    (∀ k, k < p.words.length → 0 ≤ p.margins.getD k 0 * 1000 + offs.getD k 0 * 297
      ∧ s.belowH r.vin o r.td (s.routeOvl r.classP r.planeB r.td) (p.margins.getD k 0) (offs.getD k 0) = true) →
    ∃ u l, Machine.exec (.lineRead o frame line offs []) s = .next (Machine.txcLine o u) ∧ u.xpt.out.find? o = some l
      ∧ l.line = line ∧ l.frame = frame ∧ l.words = p.words ∧ l.present = p.present ∧ l.anc = p.anc ∧ u.regs = s.regs
      ∧ u.flt = s.flt ∧ Machine.still s u)

/-- R187: for a class P line the merge sends plane A's words before the word at which A's check fails, and from there plane
B's words where B's has not failed; a line in which A alone, B alone or both failed is counted once under that case, both with
MERGE_BOTH; from the word at which both have failed it sends plane A's words. For class T a line is delivered as read, and a
failed one counts and sets CHECK_T. -/
def Obligations.ClassPMergeTakesTheGoodPlane : Prop :=
  (∀ (e o : Nat) (pl : Machine.PoolLine) (bad : List WordFault) (s : Machine.State) (out : List (List Byte)) (u : Machine.State)
      (fa fb : Option Nat), fa = Machine.planeFails e pl false bad → fb = Machine.planeFails e pl true bad →
      (out, u) = Machine.mergeP e o pl bad s →
    (∀ k, k < pl.words.length → (∀ i, fa = some i → k < i) →
      out.getD k [] = (Machine.planeWords false bad pl.words).getD k [])
    ∧ (∀ k i, k < pl.words.length → fa = some i → i ≤ k → (∀ j, fb = some j → k < j) →
      out.getD k [] = (Machine.planeWords true bad pl.words).getD k [])
    ∧ (∀ k i j, k < pl.words.length → fa = some i → fb = some j → i ≤ k → j ≤ k →
      out.getD k [] = (Machine.planeWords false bad pl.words).getD k [])
    ∧ u.reg .XPT_MERGE_A_CNT 0 = (if fa.isSome = true ∧ fb = none then
        BitVec.ofNat 32 (min (2 ^ 32 - 1) ((s.reg .XPT_MERGE_A_CNT 0).toNat + 1)) else s.reg .XPT_MERGE_A_CNT 0)
    ∧ u.reg .XPT_MERGE_B_CNT 0 = (if fa = none ∧ fb.isSome = true then
        BitVec.ofNat 32 (min (2 ^ 32 - 1) ((s.reg .XPT_MERGE_B_CNT 0).toNat + 1)) else s.reg .XPT_MERGE_B_CNT 0)
    ∧ (fa.isSome = true ∧ fb.isSome = true →
        u.reg .XPT_MERGE_BOTH_CNT 0 = BitVec.ofNat 32 (min (2 ^ 32 - 1) ((s.reg .XPT_MERGE_BOTH_CNT 0).toNat + 1))
        ∧ u.reg .XPT_VOUT_BOTH o = BitVec.ofNat 32 (min (2 ^ 32 - 1) ((s.reg .XPT_VOUT_BOTH o).toNat + 1))
        ∧ u.isSet Src.XPT_MERGE_BOTH = true)
    ∧ (fa = none ∨ fb = none → u.reg .XPT_MERGE_BOTH_CNT 0 = s.reg .XPT_MERGE_BOTH_CNT 0
        ∧ u.reg .XPT_VOUT_BOTH o = s.reg .XPT_VOUT_BOTH o)) ∧
  (∀ (e o : Nat) (planeB : Bool) (pl : Machine.PoolLine) (bad : List WordFault) (s : Machine.State),
    (Machine.readT e o planeB pl bad s).1 = Machine.planeWords planeB bad pl.words
    ∧ ((Machine.planeFails e pl planeB bad).isSome = true →
        (Machine.readT e o planeB pl bad s).2.isSet Src.XPT_CHECK_T = true
        ∧ (Machine.readT e o planeB pl bad s).2.reg .XPT_CHECK_T_CNT 0
            = BitVec.ofNat 32 (min (2 ^ 32 - 1) ((s.reg .XPT_CHECK_T_CNT 0).toNat + 1)))
    ∧ (Machine.planeFails e pl planeB bad = none → (Machine.readT e o planeB pl bad s).2 = s))

/-- R199, R200: a thread command completes with its RESULT. A CREATE without a refusal condition makes the thread READY at its
ENTRY with its budget, owner of its OUT; DELETE, RESTART and STOP wait for the instants that R200 gives; a command that is
refused changes nothing but the command register. -/
def Obligations.ThreadCommandsComplete : Prop :=
  (∀ (m : Fin 8) (v : Word) (s : Machine.State), m.val ≠ 7 → s.createRefusal (F.CUE_THR_CMD_THREAD.of v) = 0 →
    ∃ t z, Machine.exec (.threadCreate m v) s = .next t ∧ t.thread? (F.CUE_THR_CMD_THREAD.of v) = some z ∧ z.st = 1
      ∧ z.pend = 0 ∧ z.ctx = .start (s.fld F.CUE_THR_ENTRY_ENTRY (F.CUE_THR_CMD_THREAD.of v))
      ∧ z.budget = s.thrBudget (F.CUE_THR_CMD_THREAD.of v) ∧ z.madeAt = s.now
      ∧ (Machine.objKind (s.thrOut (F.CUE_THR_CMD_THREAD.of v)) ≠ 7 →
          t.owner.find? (s.thrOut (F.CUE_THR_CMD_THREAD.of v)) = some (F.CUE_THR_CMD_THREAD.of v))
      ∧ (∀ k, k ≠ F.CUE_THR_CMD_THREAD.of v → t.thread? k = s.thread? k) ∧ t.fld F.CUE_THR_CMD_RESULT 0 = 0
      ∧ t.flt = s.flt ∧ Machine.still s t) ∧
  (∀ (m : Fin 8) (v : Word) (s : Machine.State), m.val ≠ 7 → s.createRefusal (F.CUE_THR_CMD_THREAD.of v) ≠ 0 →
    ∃ t, Machine.exec (.threadCreate m v) s = .next t
      ∧ t.fld F.CUE_THR_CMD_RESULT 0 = s.createRefusal (F.CUE_THR_CMD_THREAD.of v)
      ∧ Machine.regsButAt [.CUE_THR_CMD] 0 s t ∧ t.flt = s.flt ∧ Machine.onlyRegs s t) ∧
  (∀ (m : Fin 8) (v : Word) (x : Machine.Thread) (s : Machine.State), m.val ≠ 7 →
    s.thread? (F.CUE_THR_CMD_THREAD.of v) = some x →
    (s.commandRefusal m 2 (F.CUE_THR_CMD_THREAD.of v) = 0 →
      ∃ t, Machine.exec (.threadDelete m v) s = .next t
        ∧ t.thread? (F.CUE_THR_CMD_THREAD.of v) = some { x with pend := 2 } ∧ t.fld F.CUE_THR_CMD_RESULT 0 = 0
        ∧ t.owner = s.owner ∧ Machine.regsButAt [.CUE_THR_CMD] 0 s t ∧ t.flt = s.flt ∧ Machine.still s t)
    ∧ (s.commandRefusal m 3 (F.CUE_THR_CMD_THREAD.of v) = 0 →
      ∃ t, Machine.exec (.threadRestart m v) s = .next t
        ∧ t.thread? (F.CUE_THR_CMD_THREAD.of v) = some { x with pend := 3 } ∧ t.fld F.CUE_THR_CMD_RESULT 0 = 0
        ∧ t.owner = s.owner ∧ Machine.regsButAt [.CUE_THR_CMD] 0 s t ∧ t.flt = s.flt ∧ Machine.still s t)
    ∧ (s.commandRefusal m 4 (F.CUE_THR_CMD_THREAD.of v) = 0 →
      ∃ t, Machine.exec (.threadStop m v) s = .next t
        ∧ t.thread? (F.CUE_THR_CMD_THREAD.of v) = some { x with pend := 4 } ∧ t.fld F.CUE_THR_CMD_RESULT 0 = 0
        ∧ t.owner = s.owner ∧ Machine.regsButAt [.CUE_THR_CMD] 0 s t ∧ t.flt = s.flt ∧ Machine.still s t)) ∧
  (∀ (m : Fin 8) (v : Word) (s : Machine.State), m.val ≠ 7 → m.val ≠ 5 →
    s.flag F.CUE_THR_CFG_SAFE (F.CUE_THR_CMD_THREAD.of v) = true → (s.thread? (F.CUE_THR_CMD_THREAD.of v)).isSome = true →
    ∃ t, Machine.exec (.threadDelete m v) s = .next t ∧ t.fld F.CUE_THR_CMD_RESULT 0 = 5
      ∧ Machine.regsButAt [.CUE_THR_CMD] 0 s t ∧ Machine.onlyRegs s t) ∧
  (∀ (v : Word) (s : Machine.State), (F.CUE_THR_CMD_OP.of v = 0 ∨ 5 ≤ F.CUE_THR_CMD_OP.of v) →
    ∃ t, Machine.exec (.threadCmdBad v) s = .next t ∧ t.fld F.CUE_THR_CMD_RESULT 0 = 7
      ∧ Machine.regsButAt [.CUE_THR_CMD] 0 s t ∧ t.flt = s.flt ∧ Machine.onlyRegs s t)

/-- R201, R202, R204, R208: a budget of 1 to 256 that fits is charged at once and another one is ignored; a share is taken
when the shares fit the active engines and the domain's load its limit, and ignored otherwise; an engine error ends the run
on the engine without counting it as a budget stop, records the engine and parks it in the Vault. Where the event that a command reports cannot happen in the state, the command changes nothing: the model's choice
(notes/assumptions/10.md). -/
def Obligations.BudgetsSharesAndEngines : Prop :=
  (∀ (m : Fin 8) (n : Fin 4096) (v : Word) (x : Machine.Thread) (s : Machine.State), m.val ≠ 7 → s.thread? n = some x →
    s.flag F.CUE_THR_CFG_BUILTIN n = false → Machine.changes F.CUE_THR_CFG_OUT s n v = false →
    Machine.changes F.CUE_THR_CFG_TD s n v = false → Machine.changes F.CUE_THR_CFG_BUILTIN s n v = false →
    Machine.changes F.CUE_THR_CFG_SAFE s n v = false → 1 ≤ F.CUE_THR_CFG_BUDGET.of v → F.CUE_THR_CFG_BUDGET.of v ≤ 256 →
    (F.CUE_THR_CFG_BUDGET.of v ≤ s.thrBudget n ∨ s.cueLoad (s.thrTd n) - Machine.budgetCharge (s.thrBudget n)
      + Machine.budgetCharge (F.CUE_THR_CFG_BUDGET.of v) ≤ s.cueLimit (s.thrTd n)) →
    ∃ t, Machine.exec (.budgetChange m n v) s = .next t ∧ t.thrBudget n = F.CUE_THR_CFG_BUDGET.of v
      ∧ t.cue.thr = s.cue.thr ∧ Machine.regsButAt [.CUE_THR_CFG] n s t ∧ Machine.still s t) ∧
  (∀ (m : Fin 8) (n : Fin 4096) (v : Word) (x : Machine.Thread) (s : Machine.State), m.val ≠ 7 → s.thread? n = some x →
    Machine.changes F.CUE_THR_CFG_BUDGET s n v = true →
    (F.CUE_THR_CFG_BUDGET.of v = 0 ∨ 256 < F.CUE_THR_CFG_BUDGET.of v ∨ s.thrBudget n < F.CUE_THR_CFG_BUDGET.of v ∧
      s.cueLimit (s.thrTd n) < s.cueLoad (s.thrTd n) - Machine.budgetCharge (s.thrBudget n)
        + Machine.budgetCharge (F.CUE_THR_CFG_BUDGET.of v)) →
    ∃ t, Machine.exec (.budgetChange m n v) s = .next t ∧ t.regs = s.regs ∧ t.isSet Src.CUE_CFG_REJECT = true
      ∧ Machine.onlyRegs s t) ∧
  (∀ (n : Fin 8) (v : Word) (s : Machine.State),
    ((List.range 8).map (fun i => if i = n.val then F.CUE_SHARE_ENGINES.of v else s.fld F.CUE_SHARE_ENGINES i)).sum ≤ s.eAct →
    s.cueLoad n ≤ s.limitWith n (F.CUE_SHARE_ENGINES.of v - s.cue.lost.get 0 n) →
    ∃ t, Machine.exec (.shareWrite n v) s = .next t ∧ t.fld F.CUE_SHARE_ENGINES n = F.CUE_SHARE_ENGINES.of v
      ∧ t.cue.thr = s.cue.thr ∧ Machine.regsBut [.CUE_SHARE, .CUE_ENG_STAT] s t ∧ t.flt = s.flt ∧ Machine.still s t) ∧
  (∀ (n : Fin 8) (v : Word) (s : Machine.State),
    (s.eAct < ((List.range 8).map (fun i => if i = n.val then F.CUE_SHARE_ENGINES.of v else s.fld F.CUE_SHARE_ENGINES i)).sum
      ∨ s.limitWith n (F.CUE_SHARE_ENGINES.of v - s.cue.lost.get 0 n) < s.cueLoad n) →
    ∃ t, Machine.exec (.shareWrite n v) s = .next t ∧ t.regs = s.regs ∧ t.isSet Src.CUE_CFG_REJECT = true
      ∧ Machine.onlyRegs s t) ∧
  (∀ (e : Fin 18) (n : Nat) (x : Machine.Thread) (s : Machine.State), s.engUp e = true → s.runningOn e = some n →
    s.thread? n = some x →
    ∃ t y, Machine.exec (.engineErr e) s = .next t ∧ t.fld F.CUE_ENG_STAT_STATE e = 1 ∧ t.isSet Src.CUE_ENGINE_ERR = true
      ∧ t.thread? n = some y ∧ y.st = 1 ∧ y.eng = none ∧ y.ctx = x.ctx ∧ y.bover = x.bover
      ∧ t.reg .CUE_THR_BOVER n = s.reg .CUE_THR_BOVER n ∧ t.fld F.CUE_FAULT_LAST_FCAUSE 0 = 7
      ∧ t.fld F.CUE_FAULT_LAST_ENGINE 0 = e ∧ Machine.still s t) ∧
  (∀ (e : Fin 18) (s : Machine.State), s.engUp e = false → Machine.exec (.engineErr e) s = .next s)

/-- R209 to R212: an entry written through CUE_TQ_W3 joins the end of the Take Queue with its take time and its writer; one
for an object that no thread owns is discarded and counted, and one that meets a full queue too. -/
def Obligations.TakeQueueAccepts : Prop :=
  (∀ (m : Fin 8) (v : Word) (s : Machine.State), m.val ≠ 7 → s.cue.tq.length < 4096 →
    (s.owner.find? (bitsOf (s.reg .CUE_TQ_W0 0).toNat 0 16)).isSome = true →
    ∃ t e, Machine.exec (.tqWrite m v) s = .next t ∧ t.cue.tq = s.cue.tq ++ [e] ∧ e.w0 = s.reg .CUE_TQ_W0 0
      ∧ e.w1 = s.reg .CUE_TQ_W1 0 ∧ e.w2 = s.reg .CUE_TQ_W2 0 ∧ bitsOf e.w3.toNat 0 16 = bitsOf v.toNat 0 16
      ∧ bitsOf e.w3.toNat 16 4 = m.val + 1 ∧ bitsOf e.w3.toNat 20 12 = 0 ∧ e.seen = none
      ∧ (e.w0.getLsbD 31 = false → e.t = s.et)
      ∧ Machine.regsButAt [.CUE_TQ_W3] 0 s t ∧ t.flt = s.flt ∧ Machine.still s t) ∧
  (∀ (m : Fin 8) (v : Word) (s : Machine.State), m.val ≠ 7 → s.cue.tq.length < 4096 →
    s.owner.find? (bitsOf (s.reg .CUE_TQ_W0 0).toNat 0 16) = none →
    ∃ t, Machine.exec (.tqWrite m v) s = .next t ∧ t.cue = s.cue
      ∧ t.reg .CUE_TQ_NOOWNER_CNT 0 = BitVec.ofNat 32 (min (2 ^ 32 - 1) ((s.reg .CUE_TQ_NOOWNER_CNT 0).toNat + 1))
      ∧ Machine.regsBut [.CUE_TQ_W3, .CUE_TQ_NOOWNER_CNT] s t ∧ t.flt = s.flt ∧ Machine.still s t) ∧
  (∀ (m : Fin 8) (v : Word) (s : Machine.State), m.val ≠ 7 → 4096 ≤ s.cue.tq.length →
    ∃ t, Machine.exec (.tqWrite m v) s = .next t ∧ t.cue = s.cue ∧ t.isSet Src.CUE_TQ_FULL = true
      ∧ t.reg .CUE_TQ_FULL_CNT 0 = BitVec.ofNat 32 (min (2 ^ 32 - 1) ((s.reg .CUE_TQ_FULL_CNT 0).toNat + 1))
      ∧ Machine.regsBut [.CUE_TQ_W3, .CUE_TQ_FULL_CNT] s t ∧ Machine.still s t)

/-- R219, R220, R32: a write of CUE_PS_SWAP_HI arms a swap unless one is armed; a domain that does not run swaps its bank; a
bus write reaches an idle bank and the Cue State RAM, and another bank's is discarded and counted; after reset the memories
are cleared and INIT_DONE is set. Where the event that a command reports cannot happen in the state, the command changes nothing: the model's choice
(notes/assumptions/10.md). -/
def Obligations.ProgramBanksSwap : Prop :=
  (∀ (v : Word) (s : Machine.State), s.swapPending = false →
    ∃ t, Machine.exec (.psSwapArm v) s = .next t ∧ t.swapPending = true ∧ t.cue.swapped = []
      ∧ t.cue.swapX = (s.reg .CUE_PS_SWAP_LO 0).toNat + F.CUE_PS_SWAP_HI_AT.of v * 2 ^ 32
      ∧ (∀ n, n < 8 → t.bankOf n = s.bankOf n) ∧ Machine.regsBut [.CUE_PS_SWAP_HI, .CUE_PS_STAT] s t ∧ t.flt = s.flt
      ∧ Machine.still s t) ∧
  (∀ (v : Word) (s : Machine.State), s.swapPending = true →
    ∃ t, Machine.exec (.psSwapArm v) s = .next t ∧ t.regs = s.regs ∧ t.isSet Src.CUE_CFG_REJECT = true
      ∧ Machine.onlyRegs s t) ∧
  (∀ (n : Fin 8) (s : Machine.State), s.swapPending = true → s.tdEn n = false → n.val ∉ s.cue.swapped →
    ∃ t, Machine.exec (.psSwapAt n) s = .next t ∧ t.bankOf n = 1 - s.bankOf n ∧ n.val ∈ t.cue.swapped
      ∧ (∀ k : Fin 8, k ≠ n → t.bankOf k = s.bankOf k)
      ∧ ((∀ k, k < 8 → k ≠ n.val → k ∈ s.cue.swapped) → t.swapPending = false ∧ t.isSet Src.CUE_SWAP_DONE = true)
      ∧ Machine.still s t) ∧
  (∀ (n : Fin 8) (s : Machine.State), (s.swapPending = false ∨ s.tdEn n = true) → Machine.exec (.psSwapAt n) s = .next s) ∧
  (∀ (b : Fin 2) (off : Nat) (data : List Byte) (s : Machine.State), s.mem.wf = true → s.bankIdle b = true →
    off + data.length ≤ 0x100000 → off < 0x100000 →
    ∃ t, Machine.exec (.programStoreWrite (Machine.bankBase b + off) data) s = .next t
      ∧ t.load (Machine.bankBase b + off) data.length = data
      ∧ (∀ a, (a < Machine.bankBase b + off ∨ Machine.bankBase b + off + data.length ≤ a) → t.mem.read a = s.mem.read a)
      ∧ t.regs = s.regs ∧ t.flt = s.flt ∧ t.pending = s.pending) ∧
  (∀ (b : Fin 2) (off : Nat) (data : List Byte) (s : Machine.State), s.bankIdle b = false → off < 0x100000 →
    ∃ t, Machine.exec (.programStoreWrite (Machine.bankBase b + off) data) s = .next t ∧ t.isSet Src.CUE_PS_REJECT = true
      ∧ t.reg .CUE_PS_REJECT_CNT 0 = BitVec.ofNat 32 (min (2 ^ 32 - 1) ((s.reg .CUE_PS_REJECT_CNT 0).toNat + 1))
      ∧ Machine.regsButAt [.CUE_PS_REJECT_CNT] 0 s t ∧ Machine.still s t) ∧
  (∀ (s : Machine.State), s.flag F.CUE_STAT_INIT_DONE 0 = false → s.mem.wf = true →
    ∃ t, Machine.exec .cueInitDone s = .next t ∧ t.flag F.CUE_STAT_INIT_DONE 0 = true
      ∧ (∀ a, Machine.bankBase 0 ≤ a → a < Machine.stateRam + 0x100000 → t.mem.read a = 0)
      ∧ (∀ a, (a < Machine.bankBase 0 ∨ Machine.stateRam + 0x100000 ≤ a) → t.mem.read a = s.mem.read a)
      ∧ Machine.regsButAt [.CUE_STAT] 0 s t ∧ t.flt = s.flt ∧ t.pending = s.pending) ∧
  (∀ (s : Machine.State), s.flag F.CUE_STAT_INIT_DONE 0 = true → Machine.exec .cueInitDone s = .next s)

/-- R225, R228, R230: ADD, ADDI and SUB write gd and set Z, N and C from the sum or the difference; CMP and CMPI set them and
write no register. -/
def Obligations.CueArithmeticAndFlags : Prop :=
  (∀ (t : Fin 4096) (x : Machine.Thread) (w : Word) (s : Machine.State), s.standsAt t 0x01 x w →
    ∃ u y, Machine.exec (.cueAdd t) s = .next u ∧ Machine.ranAlone t x y s u
      ∧ Machine.sets (Machine.cueD w) (x.ctx.val (Machine.cueA w) + x.ctx.val (Machine.cueB w)) x.ctx y.ctx
      ∧ y.ctx = { x.ctx with
          pc := x.ctx.pc + 1, g := y.ctx.g,
          z := x.ctx.val (Machine.cueA w) + x.ctx.val (Machine.cueB w) == 0,
          n := (x.ctx.val (Machine.cueA w) + x.ctx.val (Machine.cueB w)).getLsbD 31,
          c := decide (2 ^ 32 ≤ (x.ctx.val (Machine.cueA w)).toNat + (x.ctx.val (Machine.cueB w)).toNat) }) ∧
  (∀ (t : Fin 4096) (x : Machine.Thread) (w : Word) (s : Machine.State), s.standsAt t 0x02 x w →
    ∃ u y, Machine.exec (.cueAddi t) s = .next u ∧ Machine.ranAlone t x y s u
      ∧ Machine.sets (Machine.cueD w) (x.ctx.val (Machine.cueA w) + Machine.cueSimm14 w) x.ctx y.ctx
      ∧ y.ctx = { x.ctx with
          pc := x.ctx.pc + 1, g := y.ctx.g,
          z := x.ctx.val (Machine.cueA w) + Machine.cueSimm14 w == 0,
          n := (x.ctx.val (Machine.cueA w) + Machine.cueSimm14 w).getLsbD 31,
          c := decide (2 ^ 32 ≤ (x.ctx.val (Machine.cueA w)).toNat + (Machine.cueSimm14 w).toNat) }) ∧
  (∀ (t : Fin 4096) (x : Machine.Thread) (w : Word) (s : Machine.State), s.standsAt t 0x03 x w →
    ∃ u y, Machine.exec (.cueSub t) s = .next u ∧ Machine.ranAlone t x y s u
      ∧ Machine.sets (Machine.cueD w) (x.ctx.val (Machine.cueA w) - x.ctx.val (Machine.cueB w)) x.ctx y.ctx
      ∧ y.ctx = { x.ctx with
          pc := x.ctx.pc + 1, g := y.ctx.g,
          z := decide (x.ctx.val (Machine.cueA w) = x.ctx.val (Machine.cueB w)),
          n := decide ((x.ctx.val (Machine.cueA w)).toInt < (x.ctx.val (Machine.cueB w)).toInt),
          c := decide ((x.ctx.val (Machine.cueB w)).toNat ≤ (x.ctx.val (Machine.cueA w)).toNat) }) ∧
  (∀ (t : Fin 4096) (x : Machine.Thread) (w : Word) (s : Machine.State), s.standsAt t 0x0B x w →
    ∃ u y, Machine.exec (.cueCmp t) s = .next u ∧ Machine.ranAlone t x y s u
      ∧ y.ctx = { x.ctx with
          pc := x.ctx.pc + 1,
          z := decide (x.ctx.val (Machine.cueA w) = x.ctx.val (Machine.cueB w)),
          n := decide ((x.ctx.val (Machine.cueA w)).toInt < (x.ctx.val (Machine.cueB w)).toInt),
          c := decide ((x.ctx.val (Machine.cueB w)).toNat ≤ (x.ctx.val (Machine.cueA w)).toNat) }) ∧
  (∀ (t : Fin 4096) (x : Machine.Thread) (w : Word) (s : Machine.State), s.standsAt t 0x0C x w →
    ∃ u y, Machine.exec (.cueCmpi t) s = .next u ∧ Machine.ranAlone t x y s u
      ∧ y.ctx = { x.ctx with
          pc := x.ctx.pc + 1,
          z := decide (x.ctx.val (Machine.cueA w) = Machine.cueSimm14 w),
          n := decide ((x.ctx.val (Machine.cueA w)).toInt < (Machine.cueSimm14 w).toInt),
          c := decide ((Machine.cueSimm14 w).toNat ≤ (x.ctx.val (Machine.cueA w)).toNat) })

/-- R228, R230: AND, OR, XOR, SHL and SHR write gd with Z and N from the result and keep C and T; LDI and LDHI write gd and
no flag. -/
def Obligations.CueLogicShiftsAndConstants : Prop :=
  (∀ (t : Fin 4096) (x : Machine.Thread) (w v : Word) (s : Machine.State),
    (s.standsAt t 0x04 x w → v = x.ctx.val (Machine.cueA w) &&& x.ctx.val (Machine.cueB w) →
      ∃ u y, Machine.exec (.cueAnd t) s = .next u ∧ Machine.ranAlone t x y s u ∧ Machine.sets (Machine.cueD w) v x.ctx y.ctx
        ∧ y.ctx = { x.ctx with pc := x.ctx.pc + 1, g := y.ctx.g, z := v == 0, n := v.getLsbD 31 })
    ∧ (s.standsAt t 0x05 x w → v = x.ctx.val (Machine.cueA w) ||| x.ctx.val (Machine.cueB w) →
      ∃ u y, Machine.exec (.cueOr t) s = .next u ∧ Machine.ranAlone t x y s u ∧ Machine.sets (Machine.cueD w) v x.ctx y.ctx
        ∧ y.ctx = { x.ctx with pc := x.ctx.pc + 1, g := y.ctx.g, z := v == 0, n := v.getLsbD 31 })
    ∧ (s.standsAt t 0x06 x w → v = x.ctx.val (Machine.cueA w) ^^^ x.ctx.val (Machine.cueB w) →
      ∃ u y, Machine.exec (.cueXor t) s = .next u ∧ Machine.ranAlone t x y s u ∧ Machine.sets (Machine.cueD w) v x.ctx y.ctx
        ∧ y.ctx = { x.ctx with pc := x.ctx.pc + 1, g := y.ctx.g, z := v == 0, n := v.getLsbD 31 })
    ∧ (s.standsAt t 0x07 x w →
      v = x.ctx.val (Machine.cueA w) <<< (((x.ctx.val (Machine.cueB w)).toNat + Machine.cueImm14 w) % 32) →
      ∃ u y, Machine.exec (.cueShl t) s = .next u ∧ Machine.ranAlone t x y s u ∧ Machine.sets (Machine.cueD w) v x.ctx y.ctx
        ∧ y.ctx = { x.ctx with pc := x.ctx.pc + 1, g := y.ctx.g, z := v == 0, n := v.getLsbD 31 })
    ∧ (s.standsAt t 0x08 x w →
      v = x.ctx.val (Machine.cueA w) >>> (((x.ctx.val (Machine.cueB w)).toNat + Machine.cueImm14 w) % 32) →
      ∃ u y, Machine.exec (.cueShr t) s = .next u ∧ Machine.ranAlone t x y s u ∧ Machine.sets (Machine.cueD w) v x.ctx y.ctx
        ∧ y.ctx = { x.ctx with pc := x.ctx.pc + 1, g := y.ctx.g, z := v == 0, n := v.getLsbD 31 })
    ∧ (s.standsAt t 0x09 x w → v = Machine.cueSimm22 w →
      ∃ u y, Machine.exec (.cueLdi t) s = .next u ∧ Machine.ranAlone t x y s u ∧ Machine.sets (Machine.cueD w) v x.ctx y.ctx
        ∧ y.ctx = { x.ctx with pc := x.ctx.pc + 1, g := y.ctx.g })
    ∧ (s.standsAt t 0x0A x w →
      v = (x.ctx.val (Machine.cueD w) &&& 0xFFFF#32) ||| BitVec.ofNat 32 (Machine.cueImm22 w) <<< 16 →
      ∃ u y, Machine.exec (.cueLdhi t) s = .next u ∧ Machine.ranAlone t x y s u ∧ Machine.sets (Machine.cueD w) v x.ctx y.ctx
        ∧ y.ctx = { x.ctx with pc := x.ctx.pc + 1, g := y.ctx.g }))

/-- R229, R231 to R234: BR, CALL and RET move the program counter, and CALL and RET the call stack, when their condition
holds, and only advance it otherwise; YIELD, HALT, WAITF and WAITT end the run at the following instruction. The condition of each cond code is
the one of R229, and a code from 11 to 15 is ILLEGAL. -/
def Obligations.CueControlFlow : Prop :=
  (∀ (t : Fin 4096) (x : Machine.Thread) (w : Word) (s : Machine.State), s.standsAt t 0x10 x w →
    ∃ u y, Machine.exec (.cueBr t) s = .next u ∧ Machine.ranAlone t x y s u ∧ y.ctx = { x.ctx with pc := y.ctx.pc }
      ∧ (y.ctx.pc : Int) = if x.ctx.holds (Machine.cueCond w) = true then (x.ctx.pc : Int) + signed 22 (Machine.cueImm22 w)
          else x.ctx.pc + 1) ∧
  (∀ (t : Fin 4096) (x : Machine.Thread) (w : Word) (s : Machine.State), s.standsAt t 0x11 x w →
    ∃ u y, Machine.exec (.cueCall t) s = .next u ∧ Machine.ranAlone t x y s u
      ∧ (x.ctx.holds (Machine.cueCond w) = true → (y.ctx.pc : Int) = (x.ctx.pc : Int) + signed 22 (Machine.cueImm22 w)
          ∧ y.ctx = { x.ctx with pc := y.ctx.pc, stack := (x.ctx.pc + 1) :: x.ctx.stack })
      ∧ (x.ctx.holds (Machine.cueCond w) = false → y.ctx = { x.ctx with pc := x.ctx.pc + 1 })) ∧
  (∀ (t : Fin 4096) (x : Machine.Thread) (w : Word) (s : Machine.State), s.standsAt t 0x12 x w →
    ∃ u y, Machine.exec (.cueRet t) s = .next u ∧ Machine.ranAlone t x y s u
      ∧ (x.ctx.holds (Machine.cueCond w) = true → ∃ a rest, x.ctx.stack = a :: rest
          ∧ y.ctx = { x.ctx with pc := a, stack := rest })
      ∧ (x.ctx.holds (Machine.cueCond w) = false → y.ctx = { x.ctx with pc := x.ctx.pc + 1 })) ∧
  (∀ (t : Fin 4096) (x : Machine.Thread) (w : Word) (s : Machine.State),
    (s.standsAt t 0x13 x w →
      ∃ u y, Machine.exec (.cueYield t) s = .next u ∧ u.thread? t = some y ∧ y.st = 1 ∧ y.eng = none ∧ y.wake = .none
        ∧ y.halting = false ∧ y.bover = false ∧ y.ctx = { x.ctx with pc := x.ctx.pc + 1 } ∧ y.used = x.used + 1
        ∧ (∀ k, k ≠ t.val → u.thread? k = s.thread? k) ∧ u.regs = s.regs ∧ Machine.still s u)
    ∧ (s.standsAt t 0x14 x w →
      ∃ u y, Machine.exec (.cueHalt t) s = .next u ∧ u.thread? t = some y ∧ y.eng = none ∧ y.halting = true
        ∧ y.ctx = { x.ctx with pc := x.ctx.pc + 1 } ∧ y.used = x.used + 1
        ∧ (∀ k, k ≠ t.val → u.thread? k = s.thread? k) ∧ u.regs = s.regs ∧ Machine.still s u)
    ∧ (s.standsAt t 0x15 x w →
      ∃ u y, Machine.exec (.cueWaitf t) s = .next u ∧ u.thread? t = some y ∧ y.st = 3 ∧ y.eng = none
        ∧ (Machine.cueSub w = 0 → y.wake = .frames (max 1 (Machine.kPlus (x.ctx.val (Machine.cueR1 w)) w).toNat))
        ∧ (Machine.cueSub w = 1 → y.wake = .phi (x.ctx.val (Machine.cueR1 w) + BitVec.ofNat 32 (Machine.cueK w)))
        ∧ y.ctx = { x.ctx with pc := x.ctx.pc + 1 } ∧ y.used = x.used + 1
        ∧ (∀ k, k ≠ t.val → u.thread? k = s.thread? k) ∧ u.regs = s.regs ∧ Machine.still s u)
    ∧ (s.standsAt t 0x16 x w →
      ∃ u y, Machine.exec (.cueWaitt t) s = .next u ∧ u.thread? t = some y ∧ y.st = 4 ∧ y.eng = none
        ∧ y.wake = .instant ((x.ctx.val (Machine.cueR1 w)).toNat + (x.ctx.val (Machine.cueR2 w)).toNat % 2 ^ 16 * 2 ^ 32)
        ∧ y.ctx = { x.ctx with pc := x.ctx.pc + 1 } ∧ y.used = x.used + 1
        ∧ (∀ k, k ≠ t.val → u.thread? k = s.thread? k) ∧ u.regs = s.regs ∧ Machine.still s u)) ∧
  (∀ (x : Machine.ThrCtx), x.holds 0 = true ∧ x.holds 1 = x.z ∧ x.holds 2 = !x.z ∧ x.holds 3 = x.n ∧ x.holds 4 = !x.n
    ∧ x.holds 5 = !x.c ∧ x.holds 6 = x.c ∧ x.holds 7 = x.t ∧ x.holds 8 = !x.t ∧ x.holds 9 = (!x.z && !x.n)
    ∧ x.holds 10 = (x.z || x.n)) ∧
  (∀ (t : Nat) (x : Machine.ThrCtx) (w : Word) (s : Machine.State),
    (Machine.cueOp w = 0x10 ∨ Machine.cueOp w = 0x11 ∨ Machine.cueOp w = 0x12) → 11 ≤ Machine.cueCond w → s.cueFault t x w = 3)

/-- R235 to R238: LDS and STS move a word between gd and the thread's own scratch, and STS changes no other byte; SENSE reads
the snapshot, with T = 0 and the value 0 beyond a code's range; LDT copies and POPT removes the oldest visible entry for the
thread's object; EVT writes an instant of the run's frame. -/
def Obligations.CueScratchSenseAndQueue : Prop :=
  (∀ (t : Fin 4096) (x : Machine.Thread) (w : Word) (s : Machine.State), s.standsAt t 0x18 x w →
    ∃ u y, Machine.exec (.cueLds t) s = .next u ∧ Machine.ranAlone t x y s u
      ∧ Machine.sets (Machine.cueD w) (BitVec.ofNat 32 (leNat (s.load
          (0x3000200000 + t * 0x100 + 4 * (x.ctx.val (Machine.cueA w) + Machine.cueSimm14 w).toNat) 4))) x.ctx y.ctx
      ∧ y.ctx = { x.ctx with pc := x.ctx.pc + 1, g := y.ctx.g }) ∧
  (∀ (t : Fin 4096) (x : Machine.Thread) (w : Word) (a : Nat) (s : Machine.State), s.standsAt t 0x19 x w → s.mem.wf = true →
    a = 0x3000200000 + t * 0x100 + 4 * (x.ctx.val (Machine.cueA w) + Machine.cueSimm14 w).toNat →
    ∃ u y, Machine.exec (.cueSts t) s = .next u ∧ Machine.ran t x y s u
      ∧ u.load a 4 = leBytes 4 (x.ctx.val (Machine.cueD w)).toNat
      ∧ (∀ b, (b < a ∨ a + 4 ≤ b) → u.mem.read b = s.mem.read b) ∧ y.ctx = { x.ctx with pc := x.ctx.pc + 1 }
      ∧ (x.used + 1 < x.budget → u.regs = s.regs)) ∧
  (∀ (t : Fin 4096) (x : Machine.Thread) (w : Word) (s : Machine.State), s.standsAt t 0x1A x w →
    ∃ u y v, Machine.exec (.cueSense t) s = .next u ∧ Machine.ranAlone t x y s u
      ∧ Machine.sets (Machine.cueR1 w) v x.ctx y.ctx
      ∧ y.ctx = { x.ctx with pc := x.ctx.pc + 1, g := y.ctx.g, z := v == 0, n := v.getLsbD 31, t := y.ctx.t }
      ∧ (Machine.cueSub w = 0x00 → y.ctx.t = true ∧ ∀ p, s.snap.find? (s.thrTd t) = some p → v = p.phi)
      ∧ (Machine.cueSub w = 0x02 → y.ctx.t = true ∧ v = BitVec.ofNat 32 (s.thrOut t))
      ∧ (Machine.cueSub w = 0x03 → y.ctx.t = true ∧ ∀ p, s.snap.find? (s.thrTd t) = some p →
          v = BitVec.ofNat 32 (p.vis.filter (· == s.thrOut t)).length)
      ∧ (Machine.cueSub w = 0x04 → y.ctx.t = true ∧ v = BitVec.ofNat 32 (if x.bover = true then 1 else 0))
      ∧ (Machine.cueSub w = 0x0B → (Machine.kPlus (x.ctx.val (Machine.cueR2 w)) w).toNat < 1024 → y.ctx.t = true
          ∧ v = (s.sensed (s.thrTd t)).reg .XPT_REFUSE (Machine.kPlus (x.ctx.val (Machine.cueR2 w)) w).toNat)
      ∧ (Machine.cueSub w = 0x0B → 1024 ≤ (Machine.kPlus (x.ctx.val (Machine.cueR2 w)) w).toNat → y.ctx.t = false ∧ v = 0)
      ∧ (Machine.cueSub w = 0x20 → 16384 ≤ (Machine.kPlus (x.ctx.val (Machine.cueR2 w)) w).toNat → y.ctx.t = false ∧ v = 0)) ∧
  (∀ (t : Fin 4096) (x : Machine.Thread) (w : Word) (s : Machine.State), s.standsAt t 0x1B x w →
    ∃ u y, Machine.exec (.cueLdt t) s = .next u ∧ Machine.ranAlone t x y s u ∧ u.cue.tq = s.cue.tq
      ∧ (s.visibleTake (s.thrOut t) = none → y.ctx = { x.ctx with pc := x.ctx.pc + 1, t := false })
      ∧ (∀ e, s.visibleTake (s.thrOut t) = some e → y.ctx = { x.ctx with pc := x.ctx.pc + 1, g := y.ctx.g, t := true }
          ∧ y.ctx.val (Machine.cueR1 w) = e.w0 ∧ y.ctx.val (Machine.cueR1 w + 1) = e.w1
          ∧ y.ctx.val (Machine.cueR1 w + 2) = e.w2 ∧ y.ctx.val (Machine.cueR1 w + 3) = e.w3
          ∧ ∀ r, (r < Machine.cueR1 w ∨ Machine.cueR1 w + 4 ≤ r) → y.ctx.val r = x.ctx.val r)) ∧
  (∀ (t : Fin 4096) (x : Machine.Thread) (w : Word) (s : Machine.State), s.standsAt t 0x1C x w →
    ∃ u y, Machine.exec (.cuePopt t) s = .next u ∧ Machine.ranAlone t x y s u
      ∧ (s.visibleTake (s.thrOut t) = none → y.ctx = { x.ctx with pc := x.ctx.pc + 1, t := false } ∧ u.cue.tq = s.cue.tq)
      ∧ (∀ e, s.visibleTake (s.thrOut t) = some e → y.ctx = { x.ctx with pc := x.ctx.pc + 1, t := true }
          ∧ ∃ before after, s.cue.tq = before ++ e :: after ∧ u.cue.tq = before ++ after)) ∧
  (∀ (t : Fin 4096) (x : Machine.Thread) (w : Word) (f : Machine.FrameTimes) (s : Machine.State), s.standsAt t 0x1D x w →
    (s.tdOf (s.thrTd t)).opened = some f →
    ∃ u y e, Machine.exec (.cueEvt t) s = .next u ∧ Machine.ranAlone t x y s u
      ∧ (Machine.cueSub w = 0 → e = unsign 48 f.cueOpen) ∧ (Machine.cueSub w = 1 → e = unsign 48 f.start)
      ∧ (Machine.cueSub w = 2 → e = unsign 48 f.shutter)
      ∧ y.ctx.val (Machine.cueR1 w) = BitVec.ofNat 32 e ∧ y.ctx.val (Machine.cueR1 w + 1) = BitVec.ofNat 32 (e / 2 ^ 32)
      ∧ (∀ r, r ≠ Machine.cueR1 w → r ≠ Machine.cueR1 w + 1 → y.ctx.val r = x.ctx.val r)
      ∧ y.ctx = { x.ctx with pc := x.ctx.pc + 1, g := y.ctx.g })

/-- R240 to R243: TAKE and TAKEP are decided at issue, leave the shadow of a refused request unchanged and give its reason;
HOLD withdraws the run's request; PIPE, ATAKE, AGAIN, AMUTE, AZX and AGRP write the shadow of the thread's own object alone. -/
def Obligations.CueVideoAndAudio : Prop :=
  (∀ (t : Fin 4096) (x : Machine.Thread) (w : Word) (classP : Bool) (s : Machine.State),
    s.standsAt t (if classP then 0x21 else 0x20) x w →
    ∃ u y, (Machine.exec (if classP then .cueTakep t else .cueTake t) s = .next u) ∧ Machine.ran t x y s u ∧ u.mem = s.mem
      ∧ (∀ o, o ≠ Machine.objIndex (s.thrOut t) → u.routes o = s.routes o)
      ∧ (u.routes (Machine.objIndex (s.thrOut t))).committed = (s.routes (Machine.objIndex (s.thrOut t))).committed
      ∧ ((y.ctx.t = true ∧ (Machine.cueR2 w ≠ 0 → y.ctx.val (Machine.cueR2 w) = 0) ∧ ∃ r,
            (u.routes (Machine.objIndex (s.thrOut t))).request = some r
              ∧ r.vin = (Machine.kPlus (x.ctx.val (Machine.cueR1 w)) w).toNat ∧ r.classP = classP)
        ∨ (y.ctx.t = false ∧ (Machine.cueR2 w ≠ 0 → y.ctx.val (Machine.cueR2 w) ≠ 0)
            ∧ u.routes (Machine.objIndex (s.thrOut t)) = s.routes (Machine.objIndex (s.thrOut t))))
      ∧ (1023 < (Machine.kPlus (x.ctx.val (Machine.cueR1 w)) w).toNat → y.ctx.t = false
          ∧ (Machine.cueR2 w ≠ 0 → y.ctx.val (Machine.cueR2 w) = 5))) ∧
  (∀ (t : Fin 4096) (x : Machine.Thread) (w : Word) (s : Machine.State), s.standsAt t 0x22 x w →
    ∃ u y, Machine.exec (.cueHold t) s = .next u ∧ Machine.ran t x y s u ∧ u.mem = s.mem
      ∧ y.ctx = { x.ctx with pc := x.ctx.pc + 1 } ∧ (u.routes (Machine.objIndex (s.thrOut t))).request = none
      ∧ (u.routes (Machine.objIndex (s.thrOut t))).committed = (s.routes (Machine.objIndex (s.thrOut t))).committed
      ∧ ((s.routes (Machine.objIndex (s.thrOut t))).request.isSome = true → u.reg .CUE_SUPERSEDE_CNT 0
          = BitVec.ofNat 32 (min (2 ^ 32 - 1) ((s.reg .CUE_SUPERSEDE_CNT 0).toNat + 1)))
      ∧ ((s.routes (Machine.objIndex (s.thrOut t))).request = none →
          u.reg .CUE_SUPERSEDE_CNT 0 = s.reg .CUE_SUPERSEDE_CNT 0)) ∧
  (∀ (t : Fin 4096) (x : Machine.Thread) (w : Word) (s : Machine.State), s.standsAt t 0x23 x w →
    ∃ u y, Machine.exec (.cuePipe t) s = .next u ∧ Machine.ran t x y s u ∧ u.mem = s.mem
      ∧ y.ctx = { x.ctx with pc := x.ctx.pc + 1, t := y.ctx.t }
      ∧ (s.pipeOf 1 (Machine.objIndex (s.thrOut t)) = none → y.ctx.t = false ∧ u.wcomp = s.wcomp)
      ∧ ((s.pipeOf 1 (Machine.objIndex (s.thrOut t))).isSome = true → y.ctx.t = true
          ∧ u.wcomp.profNext.find? (Machine.objIndex (s.thrOut t)) = some (Machine.cueK w))) ∧
  (∀ (t : Fin 4096) (x : Machine.Thread) (w : Word) (g c m a : Nat) (s : Machine.State), s.standsAt t 0x28 x w →
    g = Machine.objIndex (s.thrOut t) → c = bitsOf (Machine.cueK w) 0 7 → m = (x.ctx.val (Machine.cueR2 w)).toNat →
    a = (x.ctx.val (Machine.cueR1 w)).toNat →
    ∃ u y, Machine.exec (.cueAtake t) s = .next u ∧ Machine.ran t x y s u ∧ u.mem = s.mem
      ∧ y.ctx = { x.ctx with pc := x.ctx.pc + 1, t := y.ctx.t }
      ∧ (s.lastIn g < a + c - 1 → y.ctx.t = false ∧ u.aud = s.aud)
      ∧ (a + c - 1 ≤ s.lastIn g → y.ctx.t = true
          ∧ (∀ j, j < c → (u.audGroup g).shadow.src.find? (m + j) = some (a + j))
          ∧ (∀ k, (k < m ∨ m + c ≤ k) → (u.audGroup g).shadow.src.find? k = (s.audGroup g).shadow.src.find? k)
          ∧ (u.audGroup g).member = (s.audGroup g).member ∧ ∀ h, h ≠ g → u.audGroup h = s.audGroup h)) ∧
  (∀ (t : Fin 4096) (x : Machine.Thread) (w : Word) (g c m : Nat) (s : Machine.State),
    g = Machine.objIndex (s.thrOut t) → c = bitsOf (Machine.cueK w) 0 7 → m = (x.ctx.val (Machine.cueR2 w)).toNat →
    (s.standsAt t 0x29 x w →
      ∃ u y, Machine.exec (.cueAgain t) s = .next u ∧ Machine.ran t x y s u ∧ u.mem = s.mem
        ∧ y.ctx = { x.ctx with pc := x.ctx.pc + 1 }
        ∧ (∀ j, j < c → (u.audGroup g).shadow.gain.find? (m + j)
            = some (max (-1200) (min 240 (x.ctx.val (Machine.cueR1 w)).toInt), bitsOf (Machine.cueK w) 7 5))
        ∧ (u.audGroup g).member = (s.audGroup g).member ∧ ∀ h, h ≠ g → u.audGroup h = s.audGroup h)
    ∧ (s.standsAt t 0x2A x w →
      ∃ u y, Machine.exec (.cueAmute t) s = .next u ∧ Machine.ran t x y s u ∧ u.mem = s.mem
        ∧ y.ctx = { x.ctx with pc := x.ctx.pc + 1 }
        ∧ (∀ j, j < c → (u.audGroup g).shadow.mute.find? (m + j) = some (Machine.cueSub w == 1))
        ∧ (u.audGroup g).member = (s.audGroup g).member ∧ ∀ h, h ≠ g → u.audGroup h = s.audGroup h)
    ∧ (s.standsAt t 0x2B x w →
      ∃ u y, Machine.exec (.cueAzx t) s = .next u ∧ Machine.ran t x y s u ∧ u.mem = s.mem
        ∧ y.ctx = { x.ctx with pc := x.ctx.pc + 1 } ∧ (u.audGroup g).shadow.azx = some (Machine.cueK w)
        ∧ (u.audGroup g).member = (s.audGroup g).member ∧ ∀ h, h ≠ g → u.audGroup h = s.audGroup h)
    ∧ (s.standsAt t 0x2C x w →
      ∃ u y, Machine.exec (.cueAgrp t) s = .next u ∧ Machine.ran t x y s u ∧ u.mem = s.mem
        ∧ y.ctx = { x.ctx with pc := x.ctx.pc + 1 } ∧ (u.audGroup g).shadow.mask
            = some ((x.ctx.val (Machine.cueR1 w)).toNat + (x.ctx.val (Machine.cueR2 w)).toNat * 2 ^ 32)
        ∧ (u.audGroup g).member = (s.audGroup g).member ∧ ∀ h, h ≠ g → u.audGroup h = s.audGroup h))

/-- R244 to R247: LSRC is decided at issue; LGEOM, LALPHA and LORDER write the layer's shadow saturated to their ranges;
LCOMMIT marks it for commit; SAFE shows a page within range or hides the layer; SIGNAL writes a Take Queue entry at once;
TALLY and GPO wait for the Shutter. -/
def Obligations.CueWallAndOutward : Prop :=
  (∀ (t : Fin 4096) (x : Machine.Thread) (w : Word) (l : Nat) (s : Machine.State), s.standsAt t 0x30 x w →
    l = Machine.objIndex (s.thrOut t) →
    ∃ u y, Machine.exec (.cueLsrc t) s = .next u ∧ Machine.ran t x y s u ∧ u.mem = s.mem
      ∧ (u.routes (1024 + l)).committed = (s.routes (1024 + l)).committed
      ∧ ((y.ctx.t = true ∧ (Machine.cueR2 w ≠ 0 → y.ctx.val (Machine.cueR2 w) = 0) ∧ ∃ r,
            (u.routes (1024 + l)).request = some r ∧ r.vin = (Machine.kPlus (x.ctx.val (Machine.cueR1 w)) w).toNat ∧ r.path = 2)
        ∨ (y.ctx.t = false ∧ (Machine.cueR2 w ≠ 0 → y.ctx.val (Machine.cueR2 w) ≠ 0)
            ∧ u.routes (1024 + l) = s.routes (1024 + l)))) ∧
  (∀ (t : Fin 4096) (x : Machine.Thread) (w : Word) (l : Nat) (a b : Word) (s : Machine.State), s.standsAt t 0x31 x w →
    l = Machine.objIndex (s.thrOut t) → a = x.ctx.val (Machine.cueR1 w) → b = x.ctx.val (Machine.cueR2 w) →
    ∃ u y, Machine.exec (.cueLgeom t) s = .next u ∧ Machine.ran t x y s u ∧ u.mem = s.mem
      ∧ y.ctx = { x.ctx with pc := x.ctx.pc + 1 } ∧ (u.layer l).now = (s.layer l).now
      ∧ (Machine.cueSub w = 0 → (u.layer l).next = { (s.layer l).next with
          x := max (-32768) (min 32767 a.toInt), y := max (-32768) (min 32767 b.toInt) })
      ∧ (Machine.cueSub w = 1 → (u.layer l).next = { (s.layer l).next with
          w := max 1 (min 32768 a.toNat), h := max 1 (min 32768 b.toNat) })
      ∧ (Machine.cueSub w = 2 → (u.layer l).next = { (s.layer l).next with cx := min 7679 a.toNat, cy := min 4319 b.toNat })
      ∧ (Machine.cueSub w = 3 → (u.layer l).next = { (s.layer l).next with cw := min 7680 a.toNat, ch := min 4320 b.toNat })) ∧
  (∀ (t : Fin 4096) (x : Machine.Thread) (w : Word) (l : Nat) (s : Machine.State), l = Machine.objIndex (s.thrOut t) →
    (s.standsAt t 0x32 x w →
      ∃ u y, Machine.exec (.cueLalpha t) s = .next u ∧ Machine.ran t x y s u ∧ u.mem = s.mem
        ∧ y.ctx = { x.ctx with pc := x.ctx.pc + 1 } ∧ (u.layer l).now = (s.layer l).now
        ∧ ((u.layer l).next.alpha : Int) = max 0 (min 4095 ((x.ctx.val (Machine.cueR1 w)).toInt + (Machine.cueK w : Int)))
        ∧ (u.layer l).next.order = (s.layer l).next.order)
    ∧ (s.standsAt t 0x33 x w →
      ∃ u y, Machine.exec (.cueLorder t) s = .next u ∧ Machine.ran t x y s u ∧ u.mem = s.mem
        ∧ y.ctx = { x.ctx with pc := x.ctx.pc + 1 } ∧ (u.layer l).now = (s.layer l).now
        ∧ (u.layer l).next = { (s.layer l).next with order := Machine.cueK w })
    ∧ (s.standsAt t 0x34 x w →
      ∃ u y, Machine.exec (.cueLcommit t) s = .next u ∧ Machine.ranAlone t x y s u ∧ y.lcommit = true
        ∧ y.ctx = { x.ctx with pc := x.ctx.pc + 1 } ∧ u.wcomp = s.wcomp)
    ∧ (s.standsAt t 0x35 x w →
      ∃ u y, Machine.exec (.cueSafe t) s = .next u ∧ Machine.ran t x y s u ∧ u.mem = s.mem
        ∧ y.ctx = { x.ctx with pc := x.ctx.pc + 1, t := y.ctx.t } ∧ (u.layer l).now = (s.layer l).now
        ∧ (Machine.cueSub w = 0 → y.ctx.t = true ∧ (u.layer l).next.on = false)
        ∧ (Machine.cueSub w = 1 → 63 < (Machine.kPlus (x.ctx.val (Machine.cueR1 w)) w).toNat → y.ctx.t = false
            ∧ u.wcomp = s.wcomp)
        ∧ (Machine.cueSub w = 1 → (Machine.kPlus (x.ctx.val (Machine.cueR1 w)) w).toNat ≤ 63 →
            s.flag F.WCOMP_SL_PDIM_VALID (Machine.kPlus (x.ctx.val (Machine.cueR1 w)) w).toNat = true → y.ctx.t = true
            ∧ (u.layer l).next.on = true ∧ (u.layer l).next.page = (Machine.kPlus (x.ctx.val (Machine.cueR1 w)) w).toNat))) ∧
  (∀ (t : Fin 4096) (x : Machine.Thread) (w : Word) (r : Nat) (s : Machine.State), s.standsAt t 0x38 x w →
    r = Machine.cueR1 w →
    ∃ u y, Machine.exec (.cueSignal t) s = .next u ∧ Machine.ran t x y s u ∧ u.mem = s.mem
      ∧ y.ctx = { x.ctx with pc := x.ctx.pc + 1, t := y.ctx.t }
      ∧ (4096 ≤ s.cue.tq.length → y.ctx.t = false ∧ u.cue.tq = s.cue.tq ∧ u.isSet Src.CUE_TQ_FULL = true)
      ∧ (s.cue.tq.length < 4096 → y.ctx.t = true)
      ∧ (s.cue.tq.length < 4096 → (s.owner.find? (bitsOf (x.ctx.val r).toNat 0 16)).isSome = true →
          ∃ e, u.cue.tq = s.cue.tq ++ [e] ∧ e.w0 = x.ctx.val r ∧ e.w1 = x.ctx.val (r + 1) ∧ e.w2 = x.ctx.val (r + 2)
            ∧ bitsOf e.w3.toNat 0 16 = bitsOf (x.ctx.val (r + 3)).toNat 0 16 ∧ bitsOf e.w3.toNat 16 4 = 8
            ∧ bitsOf e.w3.toNat 20 12 = t.val ∧ e.seen = none)) ∧
  (∀ (t : Fin 4096) (x : Machine.Thread) (w : Word) (s : Machine.State),
    (s.standsAt t 0x39 x w →
      ∃ u y, Machine.exec (.cueTally t) s = .next u ∧ Machine.ranAlone t x y s u ∧ y.user = x.user
        ∧ y.ctx = { x.ctx with pc := x.ctx.pc + 1 } ∧ ∃ v, y.userNext = some v
        ∧ ∀ i, i < 16 → v.testBit i = if (x.ctx.val (Machine.cueR2 w)).getLsbD i then (x.ctx.val (Machine.cueR1 w)).getLsbD i
            else (x.userNext.getD x.user).testBit i)
    ∧ (s.standsAt t 0x3A x w →
      ∃ u y, Machine.exec (.cueGpo t) s = .next u ∧ Machine.ranAlone t x y s u ∧ u.cue.gpo = s.cue.gpo
        ∧ y.ctx = { x.ctx with pc := x.ctx.pc + 1 }
        ∧ y.gpo = x.gpo ++ [(x.ctx.val (Machine.cueR1 w), x.ctx.val (Machine.cueR2 w))]))

/-- R217, R226, R239: a word that meets a cause of a fault has no effect: the thread is FAULTED where it stands, with the
cause recorded and counted; and an instruction whose last cycle would end at S(N) or later is not started. Where the event that a command reports cannot happen in the state, the command changes nothing: the model's choice
(notes/assumptions/10.md). -/
def Obligations.CueFaultsHaveNoEffect : Prop :=
  (∀ (t : Fin 4096) (x : Machine.Thread) (w : Word) (f : Machine.FrameTimes) (s : Machine.State),
    s.thread? t = some x → x.st = 2 → s.cueFetch (s.thrTd t) x.ctx.pc = w → s.cueFault t x.ctx w ≠ 0 →
    (Machine.cueOp w = 0x19 ∨ Machine.cueOpListed (Machine.cueOp w) = false) →
    (s.tdOf (s.thrTd t)).opened = some f → x.clock + (Machine.cueCost x.ctx w : Nat) < f.shutter →
    ∃ u y, Machine.exec (.cueSts t) s = .next u ∧ u.thread? t = some y ∧ y.st = 6 ∧ y.eng = none ∧ y.ctx = x.ctx
      ∧ y.used = x.used ∧ u.flag F.CUE_THR_STAT_FAULT_S t = true ∧ u.fld F.CUE_THR_STAT_FCAUSE t = s.cueFault t x.ctx w
      ∧ u.fld F.CUE_FAULT_LAST_THREAD 0 = t ∧ u.fld F.CUE_FAULT_LAST_FCAUSE 0 = s.cueFault t x.ctx w
      ∧ u.reg .CUE_FAULT_CNT 0 = BitVec.ofNat 32 (min (2 ^ 32 - 1) ((s.reg .CUE_FAULT_CNT 0).toNat + 1))
      ∧ u.isSet Src.CUE_THREAD_FAULT = true ∧ (∀ k, k ≠ t.val → u.thread? k = s.thread? k)
      ∧ Machine.regsBut [.CUE_THR_STAT, .CUE_FAULT_LAST, .CUE_FAULT_CNT] s u ∧ Machine.still s u) ∧
  (∀ (t : Fin 4096) (x : Machine.Thread) (w : Word) (f : Machine.FrameTimes) (s : Machine.State),
    s.thread? t = some x → s.cueFetch (s.thrTd t) x.ctx.pc = w → (s.tdOf (s.thrTd t)).opened = some f →
    f.shutter ≤ x.clock + (Machine.cueCost x.ctx w : Nat) → Machine.exec (.cueSts t) s = .next s)

/-- R251 to R255, R257, R258, R260, R262, R263: a read is answered with the addressed word in its cycle; a take enters the
Take Queue with ACK, or is answered with BUSY when the queue is full; the staged words are set; a write to another address is
counted; EN starts and stops the answers; in Darkroom mode every read gives 0xFFFF_FFFF and no write acts. -/
def Obligations.TallyBusAnswers : Prop :=
  (∀ (a : BitVec 16) (s : Machine.State), s.ttbDark = false → s.flag F.TTB_CFG_EN 0 = true → s.ttb.due = [] →
    ∃ t w, Machine.exec (.ttbRead a) s = .next t ∧ t.ttb.pins = ⟨true, false, some w⟩
      ∧ (a = 0xFF00#16 → w = 0x00B06400#32)
      ∧ (a = 0xFF02#16 → s.cue.tq.length < 4096 → w = BitVec.ofNat 32 s.cue.tq.length)
      ∧ (a.toNat < 0xF008 → ∀ n x, s.ttb.front.find? a.toNat = some (n, x) → w = x)
      ∧ (a.toNat < 0xF008 → s.ttb.front.find? a.toNat = none → w = 0)
      ∧ (∀ i, i < 4 → a.toNat = 0xFF04 + i → w = s.reg .TTB_CARD_WORD i)
      ∧ t.cue = s.cue ∧ Machine.regsButAt [.TTB_STAT] 0 s t ∧ t.flt = s.flt ∧ Machine.still s t) ∧
  (∀ (a : BitVec 16) (s : Machine.State), s.ttbDark = true →
    ∃ t, Machine.exec (.ttbRead a) s = .next t ∧ t.ttb.pins = ⟨false, true, some 0xFFFFFFFF#32⟩ ∧ t.cue = s.cue
      ∧ Machine.regsButAt [.TTB_STAT] 0 s t ∧ t.flt = s.flt ∧ Machine.still s t) ∧
  (∀ (v : Word) (late : Fin 3) (s : Machine.State), s.ttbDark = false → s.flag F.TTB_CFG_EN 0 = true → s.cue.tq.length < 4096 →
    (s.owner.find? (bitsOf v.toNat 0 16)).isSome = true →
    ∃ t e, Machine.exec (.ttbTake v late) s = .next t ∧ t.ttb.pins = ⟨true, false, none⟩ ∧ t.cue.tq = s.cue.tq ++ [e]
      ∧ e.w0 = v ∧ e.w1 = s.reg .TTB_STAGE_ARG 0 ∧ e.w2 = s.reg .TTB_STAGE_AT_LO 0
      ∧ bitsOf e.w3.toNat 0 16 = s.fld F.TTB_STAGE_AT_HI_AT 0 ∧ bitsOf e.w3.toNat 16 16 = 0 ∧ e.seen = none
      ∧ (v.getLsbD 31 = false → e.t = unsign 48 (s.etFull + late.val))
      ∧ t.reg .TTB_TAKE_CNT 0 = BitVec.ofNat 32 (min (2 ^ 32 - 1) ((s.reg .TTB_TAKE_CNT 0).toNat + 1))
      ∧ Machine.regsBut [.TTB_STAT, .TTB_TAKE_CNT] s t ∧ t.flt = s.flt ∧ Machine.still s t) ∧
  (∀ (v : Word) (late : Fin 3) (s : Machine.State), s.ttbDark = false → s.flag F.TTB_CFG_EN 0 = true → 4096 ≤ s.cue.tq.length →
    ∃ t, Machine.exec (.ttbTake v late) s = .next t ∧ t.ttb.pins = ⟨false, true, none⟩ ∧ t.cue.tq = s.cue.tq
      ∧ t.isSet Src.TTB_BUSY = true ∧ t.isSet Src.CUE_TQ_FULL = true
      ∧ t.reg .TTB_BUSY_CNT 0 = BitVec.ofNat 32 (min (2 ^ 32 - 1) ((s.reg .TTB_BUSY_CNT 0).toNat + 1))
      ∧ t.reg .CUE_TQ_FULL_CNT 0 = BitVec.ofNat 32 (min (2 ^ 32 - 1) ((s.reg .CUE_TQ_FULL_CNT 0).toNat + 1))
      ∧ Machine.regsBut [.TTB_STAT, .TTB_BUSY_CNT, .CUE_TQ_FULL_CNT] s t ∧ Machine.still s t) ∧
  (∀ (v : Word) (s : Machine.State), s.ttbDark = false → s.flag F.TTB_CFG_EN 0 = true →
    (∃ t, Machine.exec (.stageArg v) s = .next t ∧ t.reg .TTB_STAGE_ARG 0 = v ∧ t.ttb.pins = ⟨true, false, none⟩
      ∧ Machine.regsBut [.TTB_STAT, .TTB_STAGE_ARG] s t ∧ t.flt = s.flt ∧ t.cue = s.cue ∧ Machine.still s t)
    ∧ (∃ t, Machine.exec (.stageAtLo v) s = .next t ∧ t.reg .TTB_STAGE_AT_LO 0 = v ∧ t.ttb.pins = ⟨true, false, none⟩
      ∧ Machine.regsBut [.TTB_STAT, .TTB_STAGE_AT_LO] s t ∧ t.flt = s.flt ∧ t.cue = s.cue ∧ Machine.still s t)
    ∧ (∃ t, Machine.exec (.stageAtHi v) s = .next t ∧ t.fld F.TTB_STAGE_AT_HI_AT 0 = bitsOf v.toNat 0 16
      ∧ t.ttb.pins = ⟨true, false, none⟩ ∧ Machine.regsBut [.TTB_STAT, .TTB_STAGE_AT_HI] s t ∧ t.flt = s.flt ∧ t.cue = s.cue
      ∧ Machine.still s t)) ∧
  (∀ (a : BitVec 16) (v : Word) (s : Machine.State), s.ttbDark = false → s.flag F.TTB_CFG_EN 0 = true → 4 ≤ a.toNat →
    ∃ t, Machine.exec (.wrBad a v) s = .next t ∧ t.ttb.pins = ⟨true, false, none⟩ ∧ t.isSet Src.TTB_WR_BAD = true
      ∧ t.reg .TTB_WR_BAD_CNT 0 = BitVec.ofNat 32 (min (2 ^ 32 - 1) ((s.reg .TTB_WR_BAD_CNT 0).toNat + 1))
      ∧ Machine.regsBut [.TTB_STAT, .TTB_WR_BAD_CNT] s t ∧ t.cue = s.cue ∧ Machine.still s t) ∧
  (∀ (v : Word) (s : Machine.State), s.ttbDark = false →
    (∃ t, Machine.exec (.ttbEnable v) s = .next t ∧ t.flag F.TTB_CFG_EN 0 = true ∧ t.ttb = s.ttb
      ∧ Machine.regsButAt [.TTB_CFG] 0 s t ∧ t.flt = s.flt ∧ Machine.still s t)
    ∧ (∃ t, Machine.exec (.ttbDisable v) s = .next t ∧ t.flag F.TTB_CFG_EN 0 = false ∧ t.ttb.pins = ⟨false, false, none⟩
      ∧ Machine.regsButAt [.TTB_CFG] 0 s t ∧ t.flt = s.flt ∧ Machine.still s t)) ∧
  (∀ (a : BitVec 16) (v : Word) (late : Fin 3) (s : Machine.State), s.ttbDark = true →
    F.TTB_STAT_DARKROOM.of (s.shown .TTB_STAT 0) = 1
    ∧ ∀ c ∈ [Instr.ttbTake v late, .stageArg v, .stageAtLo v, .stageAtHi v, .wrBad a v],
      ∃ t, Machine.exec c s = .next t ∧ t.ttb.pins = ⟨false, true, none⟩ ∧ t.cue = s.cue
        ∧ Machine.regsButAt [.TTB_STAT] 0 s t ∧ t.flt = s.flt ∧ Machine.still s t) ∧
  (∀ (v : Word) (s : Machine.State), s.ttbDark = true →
    ∃ t, Machine.exec (.ttbDisable v) s = .next t ∧ t.regs = s.regs ∧ t.isSet Src.TTB_CFG_REJECT = true ∧ Machine.onlyRegs s t) ∧
  (∀ (s : Machine.State),
    ∃ t, Machine.exec .clkLost s = .next t ∧ t.flag F.TTB_STAT_CLK_OK 0 = false ∧ t.ttb = s.ttb
      ∧ (s.flag F.TTB_CFG_EN 0 = true → t.isSet Src.TTB_CLK_LOST = true) ∧ (s.flag F.TTB_CFG_EN 0 = false → t.flt = s.flt)
      ∧ Machine.regsButAt [.TTB_STAT] 0 s t ∧ Machine.onlyRegs s t)

/-- R266 to R269, R271, R273, R278: a period advances the period count and pops one sample of each slot that runs in step;
a waiting change whose timeout runs out begins its crossfade; an audio group is defined unless a thread owns it. Where the event that a command reports cannot happen in the state, the command changes nothing: the model's choice
(notes/assumptions/10.md). -/
def Obligations.AudioPeriodsAndGroups : Prop :=
  (∀ (s : Machine.State),
    ∃ u, Machine.exec .audioPeriod s = .next (Machine.txcAudio u) ∧ u.aud.period = s.nextPeriod
      ∧ u.reg .AUD_PERIOD_LO 0 = BitVec.ofNat 32 s.nextPeriod ∧ u.fld F.AUD_PERIOD_HI_P 0 = s.nextPeriod / 2 ^ 32 % 2 ^ 16
      ∧ (∀ (i : Nat) (f : Machine.AudFeed) (a : AudSample) (r : List AudSample), s.aud.slot.keys.Nodup →
          i ∈ s.aud.slot.keys → s.feedOf i = some f → s.feedPresent f = true → s.agrpOf i = none →
          (s.alignRun (1024 + i)).running = true → (s.alignRun (1024 + i)).rep = 0 → (s.inSlot i).buf = a :: r →
          r.length < 2 * s.fld F.AUD_CFG_DELAY_DEF 0 → r.length < 128 →
          u.inSlot i = { s.inSlot i with buf := r, cur := a })
      ∧ Machine.still s u) ∧
  (∀ (o : Fin 16384) (g k : Nat) (c : Machine.AudChange) (s : Machine.State), s.memberOf o = some (g, k) →
    ((s.audGroup g).member k).pend = some c → ((s.audGroup g).member k).fade = none →
    ∃ t f, Machine.exec (.zxTimeout o) s = .next t ∧ ((t.audGroup g).member k).pend = none
      ∧ ((t.audGroup g).member k).fade = some f ∧ f.j = 0 ∧ f.src = ((s.audGroup g).member k).src
      ∧ (∀ x, c.src = some x → ((t.audGroup g).member k).src = some x) ∧ t.isSet Src.AUD_XFADE = true
      ∧ t.reg .AUD_XFADE_CNT 0 = BitVec.ofNat 32 (min (2 ^ 32 - 1) ((s.reg .AUD_XFADE_CNT 0).toNat + 1))
      ∧ Machine.regsButAt [.AUD_XFADE_CNT] 0 s t ∧ Machine.still s t) ∧
  (∀ (o : Fin 16384) (s : Machine.State), s.memberOf o = none → Machine.exec (.zxTimeout o) s = .next s) ∧
  (∀ (g : Fin 2048) (v : Word) (s : Machine.State), s.owner.find? (2 ^ 13 + g) = none → F.AUD_GRP_CFG_SIZE.of v ≤ 64 →
    (∀ x, x ∈ s.grps → x ≠ g.val → Machine.runsMeet (s.grpRun v).1 (s.grpRun v).2 (s.grpRun (s.reg .AUD_GRP_CFG x)).1
      (s.grpRun (s.reg .AUD_GRP_CFG x)).2 = false) →
    ∃ t, Machine.exec (.audioGroupCfg g v) s = .next t ∧ t.fld F.AUD_GRP_CFG_BASE g = F.AUD_GRP_CFG_BASE.of v
      ∧ t.fld F.AUD_GRP_CFG_SIZE g = F.AUD_GRP_CFG_SIZE.of v ∧ t.fld F.AUD_GRP_CFG_FS96 g = F.AUD_GRP_CFG_FS96.of v
      ∧ Machine.regsButAt [.AUD_GRP_CFG] g s t ∧ t.flt = s.flt ∧ Machine.still s t) ∧
  (∀ (g : Fin 2048) (v : Word) (s : Machine.State), (s.owner.find? (2 ^ 13 + g)).isSome = true →
    ∃ t, Machine.exec (.audioGroupCfg g v) s = .next t ∧ t.regs = s.regs ∧ t.isSet Src.AUD_CFG_REJECT = true
      ∧ Machine.onlyRegs s t)

/-- R271 to R276, R283, R286 to R289, R291: samples enter their slots; an alignment group starts FILLING; a converter is
enabled, locks, loses its lock and is withdrawn on an error; a block is captured; a serial port is enabled, locks, receives,
loses its input, is disabled and releases its pins; after reset the tables are cleared. Where the event that a command reports cannot happen in the state, the command changes nothing: the model's choice
(notes/assumptions/10.md). -/
def Obligations.AudioFeedersConvertersAndPorts : Prop :=
  (∀ (i : Fin 16384) (a : AudSample) (f : Machine.AudFeed) (s : Machine.State), s.feedOf i = some f → s.feedPresent f = true →
    f.kind ≠ 4 → s.agrpOf i = none → (s.inSlot i).buf.length < 128 →
    ∃ t, Machine.exec (.audioSampleIn i a) s = .next t ∧ (t.inSlot i).buf = (s.inSlot i).buf ++ [a] ∧ (t.inSlot i).rx = a
      ∧ (t.inSlot i).cur = (s.inSlot i).cur ∧ t.regs = s.regs ∧ t.flt = s.flt ∧ Machine.still s t) ∧
  (∀ (i : Fin 16384) (a : AudSample) (s : Machine.State), s.feedOf i = none →
    Machine.exec (.audioSampleIn i a) s = .next s) ∧
  (∀ (a : Fin 1024) (v : Word) (s : Machine.State), s.flag F.AUD_AGRP_CFG_EN a = false →
    1 ≤ F.AUD_AGRP_CFG_COUNT.of v → F.AUD_AGRP_CFG_COUNT.of v ≤ 64 → 2 ≤ F.AUD_AGRP_CFG_DELAY.of v →
    F.AUD_AGRP_CFG_DELAY.of v ≤ 60 →
    (∀ x, x ∈ s.agrps → x ≠ a.val →
      Machine.runsMeet (Machine.agrpSlots v).1 (Machine.agrpSlots v).2 (s.agrpRun x).1 (s.agrpRun x).2 = false) →
    ∃ t, Machine.exec (.alignGroupEnable a v) s = .next t ∧ t.flag F.AUD_AGRP_CFG_EN a = true
      ∧ t.fld F.AUD_AGRP_CFG_COUNT a = F.AUD_AGRP_CFG_COUNT.of v ∧ t.fld F.AUD_AGRP_CFG_DELAY a = F.AUD_AGRP_CFG_DELAY.of v
      ∧ (t.alignRun a).running = false ∧ Machine.regsButAt [.AUD_AGRP_CFG] a s t ∧ t.flt = s.flt ∧ Machine.still s t) ∧
  (∀ (a : Fin 1024) (v : Word) (s : Machine.State), (F.AUD_AGRP_CFG_COUNT.of v = 0 ∨ 64 < F.AUD_AGRP_CFG_COUNT.of v
      ∨ F.AUD_AGRP_CFG_DELAY.of v < 2 ∨ 60 < F.AUD_AGRP_CFG_DELAY.of v) →
    ∃ t, Machine.exec (.alignGroupEnable a v) s = .next t ∧ t.regs = s.regs ∧ t.isSet Src.AUD_CFG_REJECT = true
      ∧ Machine.onlyRegs s t) ∧
  (∀ (c : Fin 64) (v : Word) (s : Machine.State), s.flag F.AUD_ASRC_CFG_EN c = false →
    s.agrps.contains (F.AUD_ASRC_CFG_AGRP.of v) = true → s.asrcMembers (F.AUD_ASRC_CFG_AGRP.of v) = true →
    (∀ d, d < 64 → d ≠ c.val → s.flag F.AUD_ASRC_CFG_EN d = true → s.fld F.AUD_ASRC_CFG_AGRP d ≠ F.AUD_ASRC_CFG_AGRP.of v) →
    ∃ t, Machine.exec (.asrcEnable c v) s = .next t ∧ t.flag F.AUD_ASRC_CFG_EN c = true
      ∧ t.fld F.AUD_ASRC_CFG_AGRP c = F.AUD_ASRC_CFG_AGRP.of v ∧ t.flag F.AUD_ASRC_STAT_LOCKED c = false
      ∧ Machine.regsButAt [.AUD_ASRC_CFG, .AUD_ASRC_STAT] c s t ∧ t.flt = s.flt ∧ Machine.still s t) ∧
  (∀ (c : Fin 64) (v : Word) (s : Machine.State), s.agrps.contains (F.AUD_ASRC_CFG_AGRP.of v) = false →
    ∃ t, Machine.exec (.asrcEnable c v) s = .next t ∧ t.regs = s.regs ∧ t.isSet Src.AUD_CFG_REJECT = true
      ∧ Machine.onlyRegs s t) ∧
  (∀ (c : Fin 64) (ratio : Word) (s : Machine.State), s.flag F.AUD_ASRC_CFG_EN c = true → s.aud.bare.contains c.val = false →
    s.asrcInRange c ratio.toNat = true →
    ∃ t, Machine.exec (.asrcLock c ratio) s = .next t ∧ t.flag F.AUD_ASRC_STAT_LOCKED c = true
      ∧ t.reg .AUD_ASRC_RATIO c = ratio ∧ Machine.regsButAt [.AUD_ASRC_RATIO, .AUD_ASRC_STAT] c s t ∧ t.flt = s.flt
      ∧ Machine.still s t) ∧
  (∀ (c : Fin 64) (ratio : Word) (s : Machine.State), s.flag F.AUD_ASRC_STAT_LOCKED c = true →
    ∃ t, Machine.exec (.asrcUnlock c .silent ratio) s = .next t ∧ t.flag F.AUD_ASRC_STAT_LOCKED c = false
      ∧ t.flag F.AUD_ASRC_STAT_UNLOCK_S c = true ∧ t.isSet Src.AUD_ASRC_UNLOCK = true
      ∧ Machine.regsButAt [.AUD_ASRC_STAT] c s t ∧ Machine.onlyRegs s t) ∧
  (∀ (u : Fin 72) (s : Machine.State), s.unitState (53 + u) = 0 →
    ∃ t, Machine.exec (.asrcErr u) s = .next t ∧ t.unitState (53 + u) = 1 ∧ t.isSet Src.AUD_ASRC_ERR = true
      ∧ t.flag F.AUD_ASRC_STAT_LOCKED (s.fld F.AUD_ASRC_UNIT_SERVES u) = false ∧ Machine.still s t) ∧
  (∀ (u : Fin 72) (s : Machine.State), s.unitState (53 + u) ≠ 0 → s.unitState (53 + u) ≠ 2 →
    Machine.exec (.asrcErr u) s = .next s) ∧
  (∀ (v : Word) (b : Nat) (s : Machine.State), (s.inSlot (s.csSlot (F.AUD_CS_CAP_SEL_CH.of v))).block = some b →
    ∃ t, Machine.exec (.csCapture v) s = .next t ∧ t.flag F.AUD_CS_CAP_SEL_VALID 0 = true
      ∧ t.flag F.AUD_CS_CAP_SEL_CRCC_OK 0 = (b % 2 == 1 && Machine.crccOk b)
      ∧ (∀ w, w < 6 → t.reg .AUD_CS_CAP w = BitVec.ofNat 32 (b / 2 ^ (32 * w)))
      ∧ Machine.regsBut [.AUD_CS_CAP_SEL, .AUD_CS_CAP] s t ∧ t.flt = s.flt ∧ Machine.still s t) ∧
  (∀ (p : Fin 16) (v : Word) (s : Machine.State), s.flag F.AUD_SP_CFG_EN p = false → Machine.spCfgBad v = false →
    F.AUD_SP_CFG_RX_EN.of v = 1 → s.mayFeed (s.portFeed p v) = true →
    ∃ t, Machine.exec (.serialPortEnable p v) s = .next t ∧ t.flag F.AUD_SP_CFG_EN p = true
      ∧ t.aud.feeds.head? = some (s.portFeed p v) ∧ (F.AUD_SP_CFG_CLK.of v = 0 → t.flag F.AUD_SP_STAT_RX_LOCK p = true)
      ∧ Machine.regsButAt [.AUD_SP_CFG, .AUD_SP_STAT] p s t ∧ t.flt = s.flt ∧ Machine.still s t) ∧
  (∀ (p : Fin 16) (v : Word) (s : Machine.State), Machine.spCfgBad v = true →
    ∃ t, Machine.exec (.serialPortEnable p v) s = .next t ∧ t.regs = s.regs ∧ t.isSet Src.AUD_CFG_REJECT = true
      ∧ Machine.onlyRegs s t) ∧
  (∀ (p : Fin 16) (v : Word) (s : Machine.State), s.flag F.AUD_SP_CFG_EN p = true → Machine.spCfgBad v = false →
    (v ^^^ s.reg .AUD_SP_CFG p) &&& 0x0003FDFE#32 = 0 →
    ∃ t, Machine.exec (.serialPortDisable p v) s = .next t ∧ t.flag F.AUD_SP_CFG_EN p = false
      ∧ (s.tdEn (s.fld F.AUD_SP_CFG_TD p) = true → (t.port p).releasing = true ∧ t.aud.feeds = s.aud.feeds)
      ∧ (s.tdEn (s.fld F.AUD_SP_CFG_TD p) = false → t.flag F.AUD_SP_STAT_RX_LOCK p = false
          ∧ ∀ f, f ∈ t.aud.feeds → ¬(f.kind = 4 ∧ f.unit = p.val))
      ∧ Machine.regsButAt [.AUD_SP_CFG, .AUD_SP_STAT] p s t ∧ t.flt = s.flt ∧ Machine.still s t) ∧
  (∀ (p : Fin 16) (s : Machine.State), (s.port p).releasing = true →
    ∃ t, Machine.exec (.spPinRelease p) s = .next t ∧ (t.port p).releasing = false ∧ t.flag F.AUD_SP_STAT_RX_LOCK p = false
      ∧ t.fld F.AUD_SP_STAT_RATE_DET p = 7 ∧ (∀ f, f ∈ t.aud.feeds → ¬(f.kind = 4 ∧ f.unit = p.val))
      ∧ Machine.regsButAt [.AUD_SP_STAT] p s t ∧ t.flt = s.flt ∧ Machine.still s t) ∧
  (∀ (p : Fin 16) (ch : Fin 2) (f : Aes3Frame) (s : Machine.State), s.rxWorks p = true → s.fld F.AUD_SP_CFG_MODE p = 2 →
    s.flag F.AUD_SP_STAT_RX_LOCK p = true → f.parityError = false → f.codeError = false →
    bit (s.effFld F.AUD_SP_MASK_RX p) ch = true → s.agrpOf (s.rxSlot p ch) = none →
    (s.inSlot (s.rxSlot p ch)).buf.length < 128 → (s.inSlot (s.csSlot (s.rxSlot p ch))).count ≠ some 191 →
    ∃ t, Machine.exec (.aes3Subframe p ch f) s = .next t
      ∧ (t.inSlot (s.rxSlot p ch)).buf = (s.inSlot (s.rxSlot p ch)).buf ++ [f.sample] ∧ t.regs = s.regs ∧ t.flt = s.flt
      ∧ Machine.still s t) ∧
  (∀ (p : Fin 16) (ch : Fin 2) (f : Aes3Frame) (s : Machine.State), s.flag F.AUD_SP_STAT_RX_LOCK p = false →
    Machine.exec (.aes3Subframe p ch f) s = .next s) ∧
  (∀ (p : Fin 16) (rate : BitVec 3) (s : Machine.State), s.rxWorks p = true → s.fld F.AUD_SP_CFG_CLK p ≠ 0 →
    ∃ t, Machine.exec (.rxLock p rate) s = .next t ∧ t.flag F.AUD_SP_STAT_RX_LOCK p = true
      ∧ t.fld F.AUD_SP_STAT_RATE_DET p = rate.toNat ∧ Machine.regsButAt [.AUD_SP_STAT] p s t ∧ t.flt = s.flt
      ∧ Machine.still s t) ∧
  (∀ (p : Fin 16) (s : Machine.State), s.rxWorks p = true → s.fld F.AUD_SP_CFG_CLK p ≠ 0 → s.fld F.AUD_SP_CFG_MODE p = 2 →
    ∃ t, Machine.exec (.spLost p .preamble) s = .next t ∧ t.flag F.AUD_SP_STAT_RX_LOCK p = false
      ∧ t.flag F.AUD_SP_STAT_LOST_S p = true ∧ t.isSet Src.AUD_SP_LOST = true ∧ Machine.regsButAt [.AUD_SP_STAT] p s t
      ∧ Machine.onlyRegs s t) ∧
  (∀ (s : Machine.State), s.flag F.AUD_STAT_INIT_DONE 0 = false →
    ∃ t, Machine.exec .audInitDone s = .next t ∧ t.flag F.AUD_STAT_INIT_DONE 0 = true
      ∧ (∀ i, t.reg .AUD_CS_VAL i = 0 ∧ t.reg .AUD_CS_MASK i = 0 ∧ t.reg .AUD_CS_CAP i = 0)
      ∧ Machine.regsBut [.AUD_STAT, .AUD_CS_VAL, .AUD_CS_MASK, .AUD_CS_CAP] s t ∧ t.flt = s.flt ∧ Machine.still s t) ∧
  (∀ (s : Machine.State), s.flag F.AUD_STAT_INIT_DONE 0 = true → Machine.exec .audInitDone s = .next s)

/-- R294, R295, R304, R308, R309, R311, R313 to R315, R322 to R324, R326: a write gives a logical pipe to a user that has none,
or is rejected; the error of a pipe unit withdraws it and blanks its user for the frame; the compositor starts in an enabled
domain and reserves HBM; the supervisor's bytes for the Safelight buffer go to both copies, any other master's are discarded;
SAFE_LOCK holds; a capture starts where it is permitted, ends with its frame and stops when the permission ends. The lamps of
a band of a wall frame are blended, corrected and written to the scan store at their places, the late rest of a band as the
background; the band is then done, and a late one counts. -/
def Obligations.CompositorComposesCapturesAndProtects : Prop :=
  (∀ (q : Fin 16) (v : Word) (s : Machine.State), F.WCOMP_PIPE_CFG_USER.of v ≠ 3 →
    (F.WCOMP_PIPE_CFG_USER.of v = 2 → F.WCOMP_PIPE_CFG_INDEX.of v ≤ 15) →
    (∀ d, Machine.pipeUserOf (F.WCOMP_PIPE_CFG_USER.of v) (F.WCOMP_PIPE_CFG_INDEX.of v) = some d →
      ∀ p, p < 16 → s.pipeUser p ≠ some d) → s.pipeBusy q = false →
    ∃ t, Machine.exec (.pipeCfgWrite q v) s = .next t ∧ t.fld F.WCOMP_PIPE_CFG_USER q = F.WCOMP_PIPE_CFG_USER.of v
      ∧ t.fld F.WCOMP_PIPE_CFG_INDEX q = F.WCOMP_PIPE_CFG_INDEX.of v ∧ Machine.regsButAt [.WCOMP_PIPE_CFG] q s t
      ∧ t.flt = s.flt ∧ Machine.still s t) ∧
  (∀ (q : Fin 16) (v : Word) (s : Machine.State) (d : Nat) (p : Fin 16),
    Machine.pipeUserOf (F.WCOMP_PIPE_CFG_USER.of v) (F.WCOMP_PIPE_CFG_INDEX.of v) = some d → p ≠ q →
    s.pipeUser p = some d → s.pipeUser q ≠ some d →
    ∃ t, Machine.exec (.pipeCfgWrite q v) s = .next t ∧ t.regs = s.regs ∧ t.isSet Src.WCOMP_CFG_REJECT = true
      ∧ Machine.onlyRegs s t) ∧
  (∀ (u : Fin 17) (s : Machine.State), s.unitState (36 + u) = 0 → s.spareFor (36 + u) = none →
    ∃ t, Machine.exec (.pipeErr u) s = .next t ∧ t.unitState (36 + u) = 1 ∧ t.isSet Src.WCOMP_PIPE_ERR = true
      ∧ t.isSet Src.WCOMP_NO_UNIT = true ∧ t.flag F.WCOMP_PIPE_STAT_NO_UNIT (s.fld F.WCOMP_UNIT_SERVES u) = true
      ∧ t.wcomp.out.head? = some (s.fld F.WCOMP_UNIT_SERVES u)
      ∧ t.reg .WCOMP_PIPE_ERR_CNT 0 = BitVec.ofNat 32 (min (2 ^ 32 - 1) ((s.reg .WCOMP_PIPE_ERR_CNT 0).toNat + 1))
      ∧ Machine.still s t) ∧
  (∀ (u : Fin 17) (e : Nat) (s : Machine.State), s.unitState (36 + u) = 0 → s.spareFor (36 + u) = some (36 + e) → e < 17 →
    e ≠ u.val → ∃ t, Machine.exec (.pipeErr u) s = .next t ∧ t.unitState (36 + u) = 1 ∧ t.unitState (36 + e) = 0
      ∧ t.fld F.WCOMP_UNIT_SERVES e = s.fld F.WCOMP_UNIT_SERVES u
      ∧ t.flag F.WCOMP_PIPE_STAT_NO_UNIT (s.fld F.WCOMP_UNIT_SERVES u) = false ∧ t.isSet Src.WCOMP_PIPE_ERR = true
      ∧ Machine.still s t) ∧
  (∀ (v : Word) (s : Machine.State), s.wallOn = false → s.safeLocked = false →
    s.wallMayStart (F.WCOMP_CFG_TD.of v) = true →
    ∃ t, Machine.exec (.compositorEnable v) s = .next t ∧ t.wallOn = true ∧ t.wallTd = F.WCOMP_CFG_TD.of v
      ∧ t.xpt.hbm.get (0, 0) 2000 = t.wallTerms t.capPermitted ∧ Machine.regsButAt [.WCOMP_CFG] 0 s t ∧ t.flt = s.flt
      ∧ Machine.still s t) ∧
  (∀ (v : Word) (s : Machine.State), s.wallOn = false → s.tdEn (F.WCOMP_CFG_TD.of v) = false →
    ∃ t, Machine.exec (.compositorEnable v) s = .next t ∧ t.regs = s.regs ∧ t.isSet Src.WCOMP_CFG_REJECT = true
      ∧ Machine.onlyRegs s t) ∧
  (∀ (a : Nat) (bs : List Byte) (s : Machine.State), s.mem.wf = true → 0x03E0000000 ≤ a → a + bs.length ≤ 0x0400000000 →
    0 < bs.length →
    ∃ t, Machine.exec (.safelightWrite 5 a bs) s = .next t ∧ t.load a bs.length = bs
      ∧ t.load (a + 0x0400000000) bs.length = bs
      ∧ (∀ x, (x < a ∨ a + bs.length ≤ x) → (x < a + 0x0400000000 ∨ a + 0x0400000000 + bs.length ≤ x) →
          t.mem.read x = s.mem.read x) ∧ t.regs = s.regs ∧ t.flt = s.flt ∧ t.pending = s.pending) ∧
  (∀ (m : Fin 8) (a : Nat) (bs : List Byte) (s : Machine.State), m ≠ 5 → 0x03E0000000 ≤ a → a < 0x0400000000 →
    ∃ t, Machine.exec (.safelightWrite m a bs) s = .next t ∧ t.regs = s.regs ∧ t.isSet Src.WCOMP_SL_WRITE_DENY = true
      ∧ Machine.onlyRegs s t) ∧
  (∀ (v : Word) (s : Machine.State),
    ∃ t, Machine.exec (.safeLock 5 v) s = .next t ∧ t.safeLocked = true ∧ Machine.regsButAt [.WCOMP_SL_LOCK] 0 s t
      ∧ t.flt = s.flt ∧ Machine.still s t) ∧
  (∀ (m : Fin 8) (v : Word) (s : Machine.State), m ≠ 5 → m ≠ 7 →
    ∃ t, Machine.exec (.safeLock m v) s = .next t ∧ t.regs = s.regs ∧ t.isSet Src.WCOMP_CFG_REJECT = true
      ∧ Machine.onlyRegs s t) ∧
  (∀ (v : Word) (s : Machine.State), s.wallOn = true → s.capPermitted = true → s.flag F.WCOMP_CAP_STAT_BUSY 0 = false →
    ∃ t, Machine.exec (.captureGo v) s = .next t ∧ t.flag F.WCOMP_CAP_STAT_BUSY 0 = true
      ∧ Machine.regsButAt [.WCOMP_CAP_STAT] 0 s t ∧ t.flt = s.flt ∧ Machine.still s t) ∧
  (∀ (v : Word) (s : Machine.State), s.capPermitted = false →
    ∃ t, Machine.exec (.captureGo v) s = .next t ∧ t.regs = s.regs ∧ t.isSet Src.WCOMP_CFG_REJECT = true
      ∧ Machine.onlyRegs s t) ∧
  (∀ (n : Word) (f : Machine.WallFrame) (s : Machine.State), s.wcomp.capFrame = some n → s.wallFrame n = some f →
    s.flag F.WCOMP_CAP_STAT_BUSY 0 = true → s.frameWhole f = true →
    ∃ t, Machine.exec .captureDone s = .next t ∧ t.flag F.WCOMP_CAP_STAT_BUSY 0 = false
      ∧ t.flag F.WCOMP_CAP_STAT_DONE 0 = true ∧ t.fld F.WCOMP_CAP_STAT_FRAME 0 = n.toNat % 65536 ∧ t.wcomp.capFrame = none
      ∧ Machine.regsButAt [.WCOMP_CAP_STAT] 0 s t ∧ t.flt = s.flt ∧ Machine.still s t) ∧
  (∀ (s : Machine.State), s.flag F.WCOMP_CAP_STAT_BUSY 0 = true → s.capPermitted = false →
    ∃ t, Machine.exec .capAbort s = .next t ∧ t.flag F.WCOMP_CAP_STAT_BUSY 0 = false
      ∧ t.flag F.WCOMP_CAP_STAT_ABORTED 0 = true ∧ t.isSet Src.WCOMP_CAP_ABORT = true ∧ t.wcomp.capFrame = none
      ∧ Machine.regsButAt [.WCOMP_CAP_STAT] 0 s t ∧ Machine.still s t) ∧
  (∀ (frame : Word) (band k : Nat) (f : Machine.WallFrame) (s : Machine.State), s.wallFrame frame = some f →
     band < s.bands → f.done.contains band = false → f.frame = frame →
     (∃ t g, Machine.exec (.bandCompose frame band [] []) s = .next t ∧ t.wallFrame frame = some g ∧ g.done = band :: f.done
       ∧ g.late = f.late ∧ t.flt = s.flt ∧ Machine.regsBut [.WCOMP_LAYER_SKIP] s t ∧ t.pending = s.pending
       ∧ (s.scanOn = false → s.wcomp.capFrame ≠ some frame → t.mem = s.mem)
       ∧ (s.scanOn = true → s.wcomp.capFrame ≠ some frame → s.mem.wf = true →
           (∀ u, u ∈ s.tilesOn → s.lampsClash u = false) →
           (∀ u, u ∈ s.tilesOn → ∀ i, i < s.tileW u → ∀ j, j < s.tileH u → (s.tileLamp u i j).2 / s.bandRows = band →
             t.load (s.scanAddr frame.toNat (s.fld F.WSCAN_TILE_LC_LCI u + j * s.tileW u + i)) 6 =
               Machine.codeBytes (s.lampCodes u
                 (s.mem.readLe (s.lcAddr false (s.fld F.WSCAN_TILE_LC_LCI u + j * s.tileW u + i)) 16)
                 (s.lampAt [] f (s.tileLamp u i j).1 (s.tileLamp u i j).2)))
           ∧ (∀ x, (∀ u, u ∈ s.tilesOn → ∀ i, i < s.tileW u → ∀ j, j < s.tileH u → (s.tileLamp u i j).2 / s.bandRows = band →
               x < s.scanAddr frame.toNat (s.fld F.WSCAN_TILE_LC_LCI u + j * s.tileW u + i)
                 ∨ s.scanAddr frame.toNat (s.fld F.WSCAN_TILE_LC_LCI u + j * s.tileW u + i) + 6 ≤ x) →
             t.mem.read x = s.mem.read x))) ∧
     (∃ t g, Machine.exec (.late frame band k) s = .next t ∧ t.wallFrame frame = some g ∧ g.done = band :: f.done
       ∧ g.late = band :: f.late ∧ t.isSet Src.WCOMP_LATE = true
       ∧ t.reg .WCOMP_LATE_CNT 0 = BitVec.ofNat 32 (min (2 ^ 32 - 1) ((s.reg .WCOMP_LATE_CNT 0).toNat + 1))
       ∧ Machine.regsBut [.WCOMP_LAYER_SKIP, .WCOMP_LATE_CNT] s t ∧ t.pending = s.pending
       ∧ (s.scanOn = true → s.wcomp.capFrame ≠ some frame → s.mem.wf = true →
           (∀ u, u ∈ s.tilesOn → s.lampsClash u = false) →
           ∀ u, u ∈ s.tilesOn → ∀ i, i < s.tileW u → ∀ j, j < s.tileH u → (s.tileLamp u i j).2 / s.bandRows = band →
             k ≤ ((s.tileLamp u i j).2 - band * s.bandRows) * s.canvasW + (s.tileLamp u i j).1 →
             t.load (s.scanAddr frame.toNat (s.fld F.WSCAN_TILE_LC_LCI u + j * s.tileW u + i)) 6 =
               Machine.codeBytes (s.lampCodes u
                 (s.mem.readLe (s.lcAddr false (s.fld F.WSCAN_TILE_LC_LCI u + j * s.tileW u + i)) 16) f.back))))

/-- R319, R321, R325 to R327, R329 to R331, R337, R339: scan-out starts and reserves HBM, or is rejected; a tile is enabled in
ABSENT, or is rejected; at its slot each tile of the band goes out with its FRAME_CTL and its pixel packets; a packet not sent
counts; the Frame Mark of a frame goes out on every port with D(N); the colour loop steps each coefficient of a tile that it
acts on; a Proof signature that differs clears COUNT and FROZEN, an equal one of a frame that advanced counts. Where the event that a command reports cannot happen in the state, the command changes nothing: the model's choice
(notes/assumptions/10.md). -/
def Obligations.ScanOutSendsTheWall : Prop :=
  (∀ (v : Word) (s : Machine.State), F.WSCAN_CFG_SCAN_MARGIN.of v ≤ 1000 → 10 ≤ F.WSCAN_CFG_LATCH_DELAY.of v →
    F.WSCAN_CFG_LATCH_DELAY.of v ≤ 1000 →
    (∀ n, n = Machine.plainWrite .WSCAN_CFG 0 (v ||| 1#32) s → n.scanOfsOk = true ∧ n.portsFit = true ∧ n.scanFits = true) →
    ∃ t, Machine.exec (.scanEnable v) s = .next t ∧ t.scanOn = true
      ∧ t.fld F.WSCAN_CFG_SCAN_MARGIN 0 = F.WSCAN_CFG_SCAN_MARGIN.of v
      ∧ t.fld F.WSCAN_CFG_LATCH_DELAY 0 = F.WSCAN_CFG_LATCH_DELAY.of v ∧ t.xpt.hbm.get (0, 0) 2001 = t.scanTerms
      ∧ Machine.regsButAt [.WSCAN_CFG] 0 s t ∧ t.flt = s.flt ∧ Machine.still s t) ∧
  (∀ (v : Word) (s : Machine.State), (1000 < F.WSCAN_CFG_SCAN_MARGIN.of v ∨ F.WSCAN_CFG_LATCH_DELAY.of v < 10
      ∨ 1000 < F.WSCAN_CFG_LATCH_DELAY.of v) →
    ∃ t, Machine.exec (.scanEnable v) s = .next t ∧ t.regs = s.regs ∧ t.isSet Src.WSCAN_CFG_REJECT = true
      ∧ Machine.onlyRegs s t) ∧
  (∀ (i : Fin 1024) (v : Word) (s : Machine.State), s.tileOn i = false →
    (∀ n, n = Machine.plainWrite .WSCAN_TILE_CFG i (v ||| 1#32) s → n.footInside i = true ∧ n.lampsClash i = false
      ∧ n.placeTaken i = false ∧ (s.scanOn = true → n.portsFit = true ∧ n.scanFits = true)) →
    ∃ t, Machine.exec (.tileEnable i v) s = .next t ∧ t.tileOn i = true ∧ t.tileState i = 1 ∧ t.tileRun i = .reset
      ∧ t.fld F.WSCAN_TILE_CFG_PORT i = F.WSCAN_TILE_CFG_PORT.of v ∧ t.fld F.WSCAN_TILE_CFG_POS i = F.WSCAN_TILE_CFG_POS.of v
      ∧ t.fld F.WSCAN_TILE_CFG_ORIENT i = F.WSCAN_TILE_CFG_ORIENT.of v
      ∧ t.fld F.WSCAN_TILE_CFG_MIRROR i = F.WSCAN_TILE_CFG_MIRROR.of v
      ∧ Machine.regsButAt [.WSCAN_TILE_CFG, .WSCAN_TILE_STAT] i s t ∧ t.flt = s.flt ∧ Machine.still s t) ∧
  (∀ (i : Fin 1024) (v : Word) (s : Machine.State), s.tileOn i = false →
    (∀ n, n = Machine.plainWrite .WSCAN_TILE_CFG i (v ||| 1#32) s → n.footInside i = false) →
    ∃ t, Machine.exec (.tileEnable i v) s = .next t ∧ t.regs = s.regs ∧ t.isSet Src.WSCAN_CFG_REJECT = true
      ∧ Machine.onlyRegs s t) ∧
  (∀ (frame : Word) (band : Nat) (f : Machine.WallFrame) (s : Machine.State), s.wallFrame frame = some f → f.frame = frame →
    s.scanOn = true → f.sent.contains band = false → band < s.bands →
    ∃ t g, Machine.exec (.bandSlot frame band) s = .next t ∧ t.wallFrame frame = some g ∧ g.sent = band :: f.sent
      ∧ t.regs = s.regs ∧ Machine.still s t
      ∧ ∀ i, i ∈ s.tilesOn → s.lastBand i = band → s.tileSent i frame = true →
        (∃ q, Machine.tileFrame (Machine.tileMac (s.fld F.WSCAN_TILE_CFG_POS i)) (s.fld F.WSCAN_TILE_CFG_PORT i) 3
            (frame.toNat % 65536) q
            ([0x01#8, BitVec.ofNat 8 (b2n (s.tileState i == 4)), BitVec.ofNat 8 (s.effFld F.WSCAN_CUR_GCC 0)]
              ++ beBytes 1 (s.currentCode i F.IDM_TILE_FACT_FACT_R F.WSCAN_TILE_PCC_UPCC_R)
              ++ beBytes 1 (s.currentCode i F.IDM_TILE_FACT_FACT_G F.WSCAN_TILE_PCC_UPCC_G)
              ++ beBytes 1 (s.currentCode i F.IDM_TILE_FACT_FACT_B F.WSCAN_TILE_PCC_UPCC_B))
          ∈ t.wscan.sent.get [] (s.fld F.WSCAN_TILE_CFG_PORT i))
        ∧ ∀ row, row < s.tileH i → ∀ k, k < ceilDiv (s.tileW i) s.pktLamps → ∀ c n, c = k * s.pktLamps →
          n = min s.pktLamps (s.tileW i - c) →
          ∃ q, Machine.tileFrame (Machine.tileMac (s.fld F.WSCAN_TILE_CFG_POS i)) (s.fld F.WSCAN_TILE_CFG_PORT i) 1
              (frame.toNat % 65536) q
              (beBytes 2 row ++ beBytes 2 c ++ beBytes 2 n ++ [0#8, 0#8]
                ++ (if s.tileState i = 5 then List.replicate (6 * n) 0#8
                    else s.load (s.scanAddr frame.toNat (s.fld F.WSCAN_TILE_LC_LCI i + row * s.tileW i + c)) (6 * n)))
            ∈ t.wscan.sent.get [] (s.fld F.WSCAN_TILE_CFG_PORT i)) ∧
  (∀ (p : Fin 128) (s : Machine.State), s.scanOn = true → s.tileLink p = true →
    ∃ t, Machine.exec (.pixelUnder p) s = .next t ∧ t.flag F.WSCAN_PORT_STAT_UNDER_S p = true
      ∧ t.reg .WSCAN_PORT_UNDER p = BitVec.ofNat 32 (min (2 ^ 32 - 1) ((s.reg .WSCAN_PORT_UNDER p).toNat + 1))
      ∧ Machine.regsButAt [.WSCAN_PORT_UNDER, .WSCAN_PORT_STAT] p s t ∧ t.flt = s.flt ∧ Machine.still s t) ∧
  (∀ (c f : Machine.WallFrame) (d : Nat) (s : Machine.State), s.wcomp.cur = some c → s.wcomp.last = some f →
    s.scanOn = true → (d : Int) = c.shutter + (s.scanOfs : Nat) + (s.fld F.WSCAN_CFG_LATCH_DELAY 0 * 1000 : Nat) →
    ∃ t, Machine.exec .frameMarkTx s = .next t ∧ t.regs = s.regs ∧ Machine.still s t
      ∧ ∀ p, p < 128 → s.tileLink p = true →
        ∃ q, t.wscan.sent.get [] p = [Machine.tileFrame Machine.tileAll p 2 (f.frame.toNat % 65536) q
          (beBytes 6 (d / 1000000000) ++ beBytes 4 (d % 1000000000) ++ beBytes 2 (f.frame.toNat % 65536))]) ∧
  (∀ (f : Machine.FrameTimes) (s : Machine.State), (s.tdOf s.wallTd).last = some f → s.flag F.WSCAN_CFG_LOOP_EN 0 = true →
    s.wscan.loopAt / 6000000000 < f.shutter / 6000000000 →
    ∃ t, Machine.exec .colourLoopTick s = .next t ∧ t.wscan.loopAt = f.shutter
      ∧ (∀ i k, i < 1024 → k < 9 → signed 18 (t.reg .WSCAN_TRIM (9 * i + k)).toNat % 2 ^ 18 =
          (if s.tileOn i = true ∧ s.tileState i = 4 ∧ s.flag F.WSCAN_TARGET_VALID (9 * i) = true ∧ (s.tileRun i).sensed = true then
            Machine.loopStep (s.fld F.WSCAN_TARGET_TARGET (9 * i + k)) (s.sensor i k) (s.fld F.WSCAN_LOOP_CFG_GAIN 0)
              (signed 18 (s.reg .WSCAN_TRIM (9 * i + k)).toNat)
          else signed 18 (s.reg .WSCAN_TRIM (9 * i + k)).toNat) % 2 ^ 18)
      ∧ Machine.regsBut [.WSCAN_TRIM] s t ∧ t.flt = s.flt ∧ Machine.still s t) ∧
  (∀ (r : Fin 64) (f : Machine.WallFrame) (s : Machine.State), s.wcomp.cur = some f → s.flag F.WSCAN_REG_SIZE_EN r = true →
    (s.reg .WSCAN_REG_SIG r).toNat ≠ s.regionSig r f →
    ∃ t, Machine.exec (.proofClose (.region r false)) s = .next t ∧ t.reg .WSCAN_REG_SIG r = BitVec.ofNat 32 (s.regionSig r f)
      ∧ t.fld F.WSCAN_REG_STAT_COUNT r = 0 ∧ t.flag F.WSCAN_REG_STAT_FROZEN r = false
      ∧ Machine.regsButAt [.WSCAN_REG_SIG, .WSCAN_REG_STAT] r s t ∧ t.flt = s.flt ∧ Machine.still s t) ∧
  (∀ (r : Fin 64) (f : Machine.WallFrame) (x : Machine.WallLayer) (s : Machine.State), s.wcomp.cur = some f →
    s.flag F.WSCAN_REG_SIZE_EN r = true → (s.reg .WSCAN_REG_SIG r).toNat = s.regionSig r f →
    (s.wscan.proof.get ⟨0, false⟩ r).taken = true → x ∈ f.layers → x.idx ∈ s.wscan.advanced → s.layerMeets x.set r = true →
    ∃ t, Machine.exec (.proofClose (.region r false)) s = .next t
      ∧ t.fld F.WSCAN_REG_STAT_COUNT r = min 255 (s.fld F.WSCAN_REG_STAT_COUNT r + 1)
      ∧ (t.fld F.WSCAN_REG_STAT_COUNT r = s.fld F.WSCAN_FREEZE_FREEZE_FRAMES 0 → t.flag F.WSCAN_REG_STAT_FROZEN r = true)
      ∧ Machine.regsButAt [.WSCAN_REG_SIG, .WSCAN_REG_STAT] r s t ∧ Machine.still s t) ∧
  (∀ (r : Fin 64) (b : Bool) (s : Machine.State), s.flag F.WSCAN_REG_SIZE_EN r = false →
    Machine.exec (.proofClose (.region r b)) s = .next s)

/-- R329, R332, R333, R335, R381: a STATUS report is shown and takes a tile to FAULT, HOT or, the third in lock, to RUNNING;
a HOT tile that stayed cool goes to SYNCING, one not heard from is LOST; IDENT names a tile that loads, synchronises, fails or
is not mapped; the bytes of a record reach both correction copies; a read unanswered three times fails its tile, an earlier
one goes out again; ENUM is sent. Where the event that a command reports cannot happen in the state, the command changes nothing: the model's choice
(notes/assumptions/10.md). -/
def Obligations.TilesReportLoadAndSynchronise : Prop :=
  (∀ (p : Fin 128) (f : EthFrame) (b : List Byte) (i : Nat) (s : Machine.State), Machine.tileReceive p f s = (some b, s) →
    fieldAt b 0 1 = 1 → s.tileAt p (fieldAt b 1 1) = some i → 2 ≤ s.tileState i → s.tileState i ≤ 5 →
    bit (fieldAt b 2 2) 8 = false → 16 * (s.fld F.WSCAN_THERM_TILE_TEMP_LIMIT 0 : Int) ≤ signed 16 (fieldAt b 4 2) →
    ∃ t, Machine.exec (.statusReport p f) s = .next t ∧ t.tileState i = 5 ∧ t.isSet Src.WSCAN_TILE_HOT = true
      ∧ t.reg .WSCAN_TILE_HOT_CNT i = BitVec.ofNat 32 (min (2 ^ 32 - 1) ((s.reg .WSCAN_TILE_HOT_CNT i).toNat + 1))
      ∧ t.reg .WSCAN_HOT_CNT 0 = BitVec.ofNat 32 (min (2 ^ 32 - 1) ((s.reg .WSCAN_HOT_CNT 0).toNat + 1))
      ∧ t.fld F.WSCAN_TILE_STAT_TEMP i = fieldAt b 4 2 ∧ t.reg .WSCAN_TILE_PTPOFS i = BitVec.ofNat 32 (fieldAt b 6 4)
      ∧ (s.scanOn = true → s.tileLink p = true → ∃ q, t.wscan.sent.get [] p = [Machine.tileFrame
          (Machine.tileMac (fieldAt b 1 1)) p 3 s.wallFrameNo q [0x02#8]])
      ∧ Machine.regsBut [.WSCAN_TILE_STAT, .WSCAN_TILE_PTPOFS, .WSCAN_SENSOR, .WSCAN_TILE_HOT_CNT, .WSCAN_HOT_CNT] s t
      ∧ Machine.still s t) ∧
  (∀ (p : Fin 128) (f : EthFrame) (b : List Byte) (i : Nat) (s : Machine.State), Machine.tileReceive p f s = (some b, s) →
    fieldAt b 0 1 = 1 → s.tileAt p (fieldAt b 1 1) = some i → 2 ≤ s.tileState i → s.tileState i ≤ 5 →
    bit (fieldAt b 2 2) 8 = true →
    ∃ t, Machine.exec (.statusReport p f) s = .next t ∧ t.tileState i = 7 ∧ t.isSet Src.WSCAN_TILE_FAULT = true
      ∧ Machine.regsBut [.WSCAN_TILE_STAT, .WSCAN_TILE_PTPOFS, .WSCAN_SENSOR] s t ∧ Machine.still s t) ∧
  (∀ (p : Fin 128) (f : EthFrame) (b : List Byte) (i : Nat) (s : Machine.State), Machine.tileReceive p f s = (some b, s) →
    fieldAt b 0 1 = 1 → s.tileAt p (fieldAt b 1 1) = some i → s.tileState i = 3 → (s.tileRun i).inSync = 2 →
    bit (fieldAt b 2 2) 8 = false → bit (fieldAt b 2 2) 1 = true → (signed 32 (fieldAt b 6 4)).natAbs ≤ 1000 →
    signed 16 (fieldAt b 4 2) < 16 * (s.fld F.WSCAN_THERM_TILE_TEMP_LIMIT 0 : Int) →
    ∃ t, Machine.exec (.statusReport p f) s = .next t ∧ t.tileState i = 4 ∧ t.flag F.WSCAN_TILE_STAT_SYNC_OK i = true
      ∧ (t.tileRun i).runFrom = s.reg .REF_TD_FRAME s.wallTd + 1
      ∧ Machine.regsBut [.WSCAN_TILE_STAT, .WSCAN_TILE_PTPOFS, .WSCAN_SENSOR] s t ∧ t.flt = s.flt ∧ Machine.still s t) ∧
  (∀ (p : Fin 128) (f : EthFrame) (s : Machine.State), s.flag F.WSCAN_PORT_CFG_EN p = true → f.fault false = 0 →
    f.tagged = false → f.type = 0x88B5 → (fieldAt f.payload 0 1 ≠ 1 ∨ fieldAt f.payload 1 1 ≠ 4) →
    ∃ t, Machine.exec (.statusReport p f) s = .next t ∧ Machine.exec (.ident p f) s = .next t
      ∧ Machine.exec (.iddata p f) s = .next t
      ∧ t.reg .WSCAN_PORT_RXERR p = BitVec.ofNat 32 (min (2 ^ 32 - 1) ((s.reg .WSCAN_PORT_RXERR p).toNat + 1))
      ∧ Machine.regsButAt [.WSCAN_PORT_RXERR] p s t ∧ Machine.onlyRegs s t) ∧
  (∀ (i : Fin 1024) (c : Nat) (s : Machine.State), s.tileState i = 5 → (s.tileRun i).cool = some c →
    ∃ t, Machine.exec (.tileCool i) s = .next t ∧ t.tileState i = 3 ∧ (t.tileRun i).inSync = 0
      ∧ Machine.regsButAt [.WSCAN_TILE_STAT] i s t ∧ Machine.still s t) ∧
  (∀ (i : Fin 1024) (down : Bool) (s : Machine.State), 2 ≤ s.tileState i → s.tileState i ≤ 5 →
    ∃ t, Machine.exec (.tileLost i down) s = .next t ∧ t.tileState i = 6 ∧ t.isSet Src.WSCAN_TILE_LOST = true
      ∧ (t.tileRun i).load = none ∧ Machine.regsButAt [.WSCAN_TILE_STAT] i s t ∧ Machine.still s t) ∧
  (∀ (p : Fin 128) (f : EthFrame) (b : List Byte) (i : Nat) (s : Machine.State), Machine.tileReceive p f s = (some b, s) →
    fieldAt b 0 1 = 2 → s.tileAt p (fieldAt b 1 1) = some i → s.tileState i ≠ 7 → s.tileState i ≠ 2 →
    fieldAt b 10 2 = s.tileW i → fieldAt b 12 2 = s.tileH i → fieldAt b 2 8 ≠ s.tileSerial i →
    ∃ t, Machine.exec (.ident p f) s = .next t ∧ t.tileState i = 2 ∧ ((t.tileRun i).load.map (·.serial)) = some (fieldAt b 2 8)
      ∧ (∀ k, k < 9 → t.reg .WSCAN_TRIM (9 * i + k) = if k = 0 ∨ k = 4 ∨ k = 8 then 65536#32 else 0#32)
      ∧ Machine.regsBut [.WSCAN_TILE_STAT, .WSCAN_TRIM] s t ∧ t.flt = s.flt ∧ Machine.still s t) ∧
  (∀ (p : Fin 128) (f : EthFrame) (b : List Byte) (i : Nat) (s : Machine.State), Machine.tileReceive p f s = (some b, s) →
    fieldAt b 0 1 = 2 → s.tileAt p (fieldAt b 1 1) = some i → (s.tileState i = 1 ∨ s.tileState i = 6) →
    fieldAt b 10 2 = s.tileW i → fieldAt b 12 2 = s.tileH i → fieldAt b 2 8 = s.tileSerial i →
    ∃ t, Machine.exec (.ident p f) s = .next t ∧ t.tileState i = 3 ∧ Machine.regsButAt [.WSCAN_TILE_STAT] i s t
      ∧ t.flt = s.flt ∧ Machine.still s t) ∧
  (∀ (p : Fin 128) (f : EthFrame) (b : List Byte) (i : Nat) (s : Machine.State), Machine.tileReceive p f s = (some b, s) →
    fieldAt b 0 1 = 2 → s.tileAt p (fieldAt b 1 1) = some i → (fieldAt b 10 2 ≠ s.tileW i ∨ fieldAt b 12 2 ≠ s.tileH i) →
    s.tileState i ≠ 7 →
    ∃ t, Machine.exec (.ident p f) s = .next t ∧ t.tileState i = 7 ∧ t.isSet Src.WSCAN_TILE_FAULT = true
      ∧ Machine.regsButAt [.WSCAN_TILE_STAT] i s t ∧ Machine.still s t) ∧
  (∀ (p : Fin 128) (f : EthFrame) (b : List Byte) (s : Machine.State), Machine.tileReceive p f s = (some b, s) →
    fieldAt b 0 1 = 2 → s.tileAt p (fieldAt b 1 1) = none →
    ∃ t, Machine.exec (.ident p f) s = .next t ∧ t.isSet Src.WSCAN_UNMAPPED = true
      ∧ t.reg .WSCAN_UNMAPPED_CNT 0 = BitVec.ofNat 32 (min (2 ^ 32 - 1) ((s.reg .WSCAN_UNMAPPED_CNT 0).toNat + 1))
      ∧ Machine.regsButAt [.WSCAN_UNMAPPED_CNT] 0 s t ∧ Machine.onlyRegs s t) ∧
  (∀ (p : Fin 128) (f : EthFrame) (b : List Byte) (i : Nat) (l : Machine.TileLoad) (r : Machine.IdRead) (k : Nat)
      (s : Machine.State), Machine.tileReceive p f s = (some b, s) →
    fieldAt b 0 1 = 3 → s.tileAt p (fieldAt f.bytes 11 1) = some i → (s.tileRun i).load = some l → l.headOk = true →
    l.next < l.len → r ∈ l.reads → l.reads.find? (fun x => x.tag == fieldAt b 1 1 && x.offset == fieldAt b 2 4
      && x.len == fieldAt b 6 2) = some r → 64 ≤ r.offset → r.offset + r.len ≤ 64 + 16 * s.tileW i * s.tileH i →
    r.len + 8 ≤ b.length → s.mem.wf = true → k = 16 * s.fld F.WSCAN_TILE_LC_LCI i + (r.offset - 64) →
    (s.lcAddr false 0 + k + r.len ≤ s.lcAddr true 0 + k ∨ s.lcAddr true 0 + k + r.len ≤ s.lcAddr false 0 + k) →
    ∃ t, Machine.exec (.iddata p f) s = .next t ∧ t.load (s.lcAddr false 0 + k) r.len = (b.drop 8).take r.len
      ∧ t.load (s.lcAddr true 0 + k) r.len = (b.drop 8).take r.len
      ∧ (∀ a, (a < s.lcAddr false 0 + k ∨ s.lcAddr false 0 + k + r.len ≤ a) →
          (a < s.lcAddr true 0 + k ∨ s.lcAddr true 0 + k + r.len ≤ a) → t.mem.read a = s.mem.read a)
      ∧ t.regs = s.regs ∧ t.flt = s.flt ∧ t.pending = s.pending) ∧
  (∀ (p : Fin 128) (f : EthFrame) (b : List Byte) (i : Nat) (s : Machine.State), Machine.tileReceive p f s = (some b, s) →
    fieldAt b 0 1 = 3 → s.tileAt p (fieldAt f.bytes 11 1) = some i → (s.tileRun i).load = none →
    ∃ t, Machine.exec (.iddata p f) s = .next t ∧ t.regs = s.regs ∧ t.flt = s.flt ∧ Machine.still s t) ∧
  (∀ (i : Fin 1024) (tag : BitVec 8) (l : Machine.TileLoad) (r : Machine.IdRead) (s : Machine.State),
    (s.tileRun i).load = some l → l.reads.find? (fun x => x.tag == tag.toNat) = some r → 3 ≤ r.sends →
    ∃ u, Machine.exec (.idreadTimeout i tag) s = .next (Machine.pumpReads (s.fld F.WSCAN_TILE_CFG_PORT i) u)
      ∧ u.tileState i = 7 ∧ (u.tileRun i).load = none ∧ u.isSet Src.WSCAN_TILE_FAULT = true
      ∧ u.reg .WSCAN_IDREAD_FAIL_CNT 0 = BitVec.ofNat 32 (min (2 ^ 32 - 1) ((s.reg .WSCAN_IDREAD_FAIL_CNT 0).toNat + 1))
      ∧ Machine.regsBut [.WSCAN_TILE_STAT, .WSCAN_IDREAD_FAIL_CNT] s u ∧ Machine.still s u) ∧
  (∀ (i : Fin 1024) (tag : BitVec 8) (l : Machine.TileLoad) (r : Machine.IdRead) (s : Machine.State),
    (s.tileRun i).load = some l → l.reads.find? (fun x => x.tag == tag.toNat) = some r → r.sends < 3 →
    ∃ t q, Machine.exec (.idreadTimeout i tag) s = .next t
      ∧ t.wscan.sent.get [] (s.fld F.WSCAN_TILE_CFG_PORT i) = [Machine.tileFrame
          (Machine.tileMac (s.fld F.WSCAN_TILE_CFG_POS i)) (s.fld F.WSCAN_TILE_CFG_PORT i) 3 s.wallFrameNo q
          ([0x04#8] ++ beBytes 4 r.offset ++ beBytes 2 r.len ++ beBytes 1 r.tag)]
      ∧ t.regs = s.regs ∧ Machine.still s t) ∧
  (∀ (p : Fin 128) (s : Machine.State), s.tileLink p = true →
    ∃ t q, Machine.exec (.enumTx p) s = .next t ∧ t.wscan.sent.get [] p = [Machine.tileFrame Machine.tileAll p 3 s.wallFrameNo
        q [0x03#8, 0x00#8]] ∧ t.regs = s.regs ∧ t.flt = s.flt ∧ Machine.still s t) ∧
  (∀ (p : Fin 128) (s : Machine.State), s.tileLink p = false → Machine.exec (.enumTx p) s = .next s)

/-- R343 to R346, R356, R359, R361: a hart moves to the spare once its core waits for nothing on the bus; a lock-up resets its
core alone; a core's own error is recorded; CPU_IPI holds a hart's software interrupt; a hart's timer comes when Event Time
reaches CPU_MTIMECMP; cache maintenance leaves the registers; ECC errors count, an uncorrectable one ends the read. Where the event that a command reports cannot happen in the state, the command changes nothing: the model's choice
(notes/assumptions/10.md). -/
def Obligations.CoresHandOverRestartAndInterrupt : Prop :=
  (∀ (c e : Fin 5) (m : Machine.Migration) (s : Machine.State), s.vault.migr.find? 4 = some m → m.leaving = 125 + c →
    m.spare = 125 + e → c ≠ e → m.retire = false → s.coreState c = 2 → s.outstanding c = false →
    ∃ u, Machine.exec .handover s = .next (Machine.retryRetire u) ∧ u.coreState c = 3 ∧ u.coreState e = 0
      ∧ u.hartOf e = s.hartOf c ∧ u.reg .CPU_STAT 0 = s.reg .CPU_STAT 0 ∧ u.isSet Src.CPU_HANDOVER = true
      ∧ u.reg .CPU_HANDOVER_CNT 0 = BitVec.ofNat 32 (min (2 ^ 32 - 1) ((s.reg .CPU_HANDOVER_CNT 0).toNat + 1))
      ∧ u.vault.migr.find? 4 = none
      ∧ Machine.regsBut [.CPU_CORE_STAT, .CPU_HANDOVER_CNT, .VAULT_ROT_CNT] s u ∧ Machine.still s u) ∧
  (∀ (m : Machine.Migration) (s : Machine.State), s.vault.migr.find? 4 = some m → s.outstanding (m.leaving - 125) = true →
    Machine.exec .handover s = .next s) ∧
  (∀ (c : Fin 5) (s : Machine.State), s.coreServes c = true → s.hartUp (s.hartOf c) = true → s.rst.level = 0 →
    s.rst.inStart = false → s.vault.migr.find? 4 = none →
    ∃ t, Machine.exec (.lockup c) s = .next t ∧ t.hartUp (s.hartOf c) = false ∧ t.flag F.CPU_CORE_STAT_LOCKUP_S c = true
      ∧ t.isSet Src.CPU_LOCKUP = true
      ∧ t.reg .CPU_LOCKUP_CNT 0 = BitVec.ofNat 32 (min (2 ^ 32 - 1) ((s.reg .CPU_LOCKUP_CNT 0).toNat + 1))
      ∧ t.reg .RST_CONF_CNT 0 = BitVec.ofNat 32 (min (2 ^ 32 - 1) ((s.reg .RST_CONF_CNT 0).toNat + 1))
      ∧ t.reg .RST_CAUSE 0 = s.reg .RST_CAUSE 0 ||| 1#32 <<< 10 ||| 1#32 <<< (16 + c.val)
      ∧ t.reg .CPU_IPI (s.hartOf c) = 0 ∧ t.reg .CPU_IRQ_EN_LO (s.hartOf c) = 0
      ∧ t.reg .CPU_MTIMECMP_HI (s.hartOf c) = 0xFFFFFFFF#32 ∧ t.bus.req.find? c = none
      ∧ t.rst.conf.find? c = some (s.now + 2000000) ∧ t.rst.level = 0
      ∧ Machine.regsBut [.CPU_LOCKUP_CNT, .RST_CONF_CNT, .RST_CAUSE, .CPU_STAT, .CPU_CORE_STAT, .CPU_IPI, .CPU_IRQ_EN_LO,
          .CPU_IRQ_EN_HI, .CPU_MTIMECMP_LO, .CPU_MTIMECMP_HI] s t ∧ Machine.still s t) ∧
  (∀ (c : Fin 5) (s : Machine.State), s.coreServes c = true →
    ∃ t, Machine.exec (.coreErr c) s = .next t ∧ t.flag F.CPU_CORE_STAT_ERR_S c = true ∧ t.isSet Src.CPU_CORE_ERR = true
      ∧ Machine.regsButAt [.CPU_CORE_STAT] c s t ∧ Machine.onlyRegs s t) ∧
  (∀ (c : Fin 5) (s : Machine.State), s.coreServes c = false → Machine.exec (.coreErr c) s = .next s
    ∧ Machine.exec (.lockup c) s = .next s) ∧
  (∀ (h : Fin 4) (s : Machine.State), s.timeCmp h < 2 ^ 63 → s.ptp.resid = 0 → s.domRuns s.curDom = true →
    ∃ t, Machine.exec (.hartTimer h) s = .next t ∧ (s.timeCmp h : Int) ≤ t.etFull ∧ (t.etFull < 2 ^ 64 → t.timerIrq h = true)
      ∧ t.regs = s.regs ∧ Machine.still s t) ∧
  (∀ (h : Fin 4) (v : Word) (s : Machine.State),
    ∃ t, Machine.exec (.ipiWrite h v) s = .next t ∧ t.fld F.CPU_IPI_SET h = F.CPU_IPI_SET.of v
      ∧ Machine.regsButAt [.CPU_IPI] h s t ∧ Machine.onlyRegs s t ∧ t.flt = s.flt) ∧
  (∀ (v : Word) (s : Machine.State),
    ∃ t, Machine.exec (.l2Maint v) s = .next t ∧ (∀ r i, t.reg r i = s.reg r i) ∧ Machine.onlyRegs s t ∧ t.flt = s.flt) ∧
  (∀ (m : Fin 8) (e : CoreEcc) (s : Machine.State),
    ∃ t, Machine.exec (.l2EccUncorr m e) s = .next t
      ∧ (e = .l2Corrected → t.isSet Src.CPU_L2_ECC_CORR = true ∧ t.resp = s.resp
          ∧ t.reg .CPU_L2_ECC_CORR 0 = BitVec.ofNat 32 (min (2 ^ 32 - 1) ((s.reg .CPU_L2_ECC_CORR 0).toNat + 1)))
      ∧ (e = .sramCorrected → t.isSet Src.CPU_SRAM_ECC_CORR = true ∧ t.resp = s.resp
          ∧ t.reg .CPU_SRAM_ECC_CORR 0 = BitVec.ofNat 32 (min (2 ^ 32 - 1) ((s.reg .CPU_SRAM_ECC_CORR 0).toNat + 1)))
      ∧ (e = .l2Uncorrectable → t.isSet Src.CPU_L2_ECC_UNCORR = true ∧ t.resp.find? m = some ⟨0, true⟩ ∧ t.regs = s.regs)
      ∧ (e = .sramUncorrectable → t.isSet Src.CPU_SRAM_ECC_UNCORR = true ∧ t.resp.find? m = some ⟨0, true⟩ ∧ t.regs = s.regs)
      ∧ Machine.regsButAt [.CPU_L2_ECC_CORR, .CPU_SRAM_ECC_CORR] 0 s t ∧ Machine.still s t)

/-- R349 to R353, R355, R357: a master has one transaction at most; a port grants the first master that waits at or after its
pointer, and its access reads or stores its bytes; FLASH denies writes; a lock that times out, or an access to an unmapped
address that is ended, gives its master an error; a DMA channel takes a descriptor, refuses a bad one, stops, and copies. Where the event that a command reports cannot happen in the state, the command changes nothing: the model's choice
(notes/assumptions/10.md). -/
def Obligations.BusGrantsLocksStallsAndDma : Prop :=
  (∀ (m : Fin 8) (x : BusOp) (s : Machine.State), s.bus.req.find? m = none → s.mayIssue m = true → Machine.opFits x = true →
    ∃ t, Machine.exec (.busAccess m x) s = .next t ∧ t.bus.req.find? m = some ⟨x, s.now⟩
      ∧ (∀ k, k ≠ m.val → t.bus.req.find? k = s.bus.req.find? k) ∧ t = { s with bus := t.bus }) ∧
  (∀ (m : Fin 8) (x : BusOp) (s : Machine.State), (s.bus.req.find? m).isSome = true ∨ Machine.opFits x = false →
    Machine.exec (.busAccess m x) s = .next s) ∧
  (∀ (m n : Nat) (r : Machine.BusReq) (s : Machine.State), m ∈ s.waiting .sram → s.bus.turn.get 0 1 < 8 →
    (∀ k, k ∈ s.waiting .sram → (m + 8 - s.bus.turn.get 0 1) % 8 ≤ (k + 8 - s.bus.turn.get 0 1) % 8) →
    s.bus.req.find? m = some r → r.op.lock = false → n = Machine.opBeats r.op * Machine.opBeat r.op → s.mem.wf = true →
    s.dbgDenied m = false →
    ∃ t, Machine.exec (.busGrant .sram) s = .next t ∧ t.bus.req.find? m = none ∧ t.bus.turn.get 0 1 = (m + 1) % 8
      ∧ (r.op.write = true → t.load r.op.addr.toNat n = Machine.opData r.op ∧ t.resp.find? m = some ⟨0, false⟩)
      ∧ (r.op.write = false → (m = 7 → s.lc ≠ 4) → t.resp.find? m = some ⟨leNat (s.load r.op.addr.toNat n), false⟩)
      ∧ (∀ a, (r.op.write = true → a < r.op.addr.toNat ∨ r.op.addr.toNat + n ≤ a) → t.mem.read a = s.mem.read a)
      ∧ s.fld F.BUS_WAIT_MAX_BEATS m ≤ t.fld F.BUS_WAIT_MAX_BEATS m
      ∧ ((m = 7 → s.lc ≠ 4) → Machine.regsButAt [.BUS_WAIT_MAX] m s t ∧ t.flt = s.flt) ∧ t.pending = s.pending) ∧
  (∀ (m : Nat) (r : Machine.BusReq) (s : Machine.State), s.waiting .flash = [m] → s.bus.turn.get 0 3 < 8 →
    s.bus.req.find? m = some r → r.op.write = true →
    ∃ t, Machine.exec (.busGrant .flash) s = .next t ∧ t.isSet Src.BUS_ACCESS_DENY = true
      ∧ t.reg .BUS_DENY_CNT 0 = BitVec.ofNat 32 (min (2 ^ 32 - 1) ((s.reg .BUS_DENY_CNT 0).toNat + 1))
      ∧ t.resp.find? m = some ⟨0, false⟩ ∧ Machine.still s t) ∧
  (∀ (p : BusPort) (s : Machine.State), s.waiting p = [] → Machine.exec (.busGrant p) s = .next s) ∧
  (∀ (p : BusPort) (l : Machine.BusLock) (s : Machine.State), s.bus.lock.find? (Machine.portNum p) = some l → l.master ≠ 6 →
    ∃ t, Machine.exec (.lockTo p) s = .next t ∧ t.bus.lock.find? (Machine.portNum p) = none
      ∧ t.bus.req.find? l.master = none ∧ t.resp.find? l.master = some ⟨0, true⟩ ∧ t.isSet Src.BUS_LOCK_TO = true
      ∧ t.reg .BUS_LOCK_TO_CNT 0 = BitVec.ofNat 32 (min (2 ^ 32 - 1) ((s.reg .BUS_LOCK_TO_CNT 0).toNat + 1))
      ∧ t.fld F.BUS_FAULT_LAST_CAUSE 0 = 2
      ∧ Machine.regsButAt [.BUS_LOCK_TO_CNT, .BUS_FAULT_LAST, .BUS_FAULT_ADDR_LO, .BUS_FAULT_ADDR_HI] 0 s t
      ∧ Machine.still s t) ∧
  (∀ (p : BusPort) (s : Machine.State), s.bus.lock.find? (Machine.portNum p) = none →
    Machine.exec (.lockTo p) s = .next s) ∧
  (∀ (m : Fin 8) (r : Machine.BusReq) (s : Machine.State), s.bus.req.find? m = some r → Machine.opPort r.op = none →
    s.bus.stalled.contains m.val = false →
    ∃ t, Machine.exec (.decodeStall m) s = .next t ∧ t.bus.stalled.contains m.val = true
      ∧ t.fld F.BUS_STALL_ADDR_LO_ADDR m = r.op.addr.toNat % 2 ^ 32
      ∧ t.fld F.BUS_STALL_ADDR_HI_ADDR m = r.op.addr.toNat / 2 ^ 32 ∧ t.isSet Src.BUS_DECODE_STALL = true
      ∧ t.fld F.BUS_FAULT_LAST_MASTER 0 = m ∧ t.fld F.BUS_FAULT_LAST_CAUSE 0 = 1
      ∧ t.fld F.BUS_FAULT_ADDR_LO_ADDR 0 = r.op.addr.toNat % 2 ^ 32
      ∧ t.reg .BUS_STALL_CNT 0 = BitVec.ofNat 32 (min (2 ^ 32 - 1) ((s.reg .BUS_STALL_CNT 0).toNat + 1))
      ∧ Machine.regsBut [.BUS_STALL_ADDR_LO, .BUS_STALL_ADDR_HI, .BUS_FAULT_LAST, .BUS_FAULT_ADDR_LO, .BUS_FAULT_ADDR_HI,
          .BUS_STALL_CNT] s t ∧ Machine.still s t) ∧
  (∀ (v : Word) (s : Machine.State), v.getLsbD 6 = false ∨ s.bus.stalled.contains 6 = false →
    ∃ t, Machine.exec (.stallAbort v) s = .next t
      ∧ (∀ m, m < 8 → v.getLsbD m = true → s.bus.stalled.contains m = true → t.bus.stalled.contains m = false
          ∧ t.bus.req.find? m = none ∧ t.resp.find? m = some ⟨0, true⟩)
      ∧ (∀ m, v.getLsbD m = false ∨ s.bus.stalled.contains m = false → t.bus.req.find? m = s.bus.req.find? m
          ∧ t.resp.find? m = s.resp.find? m) ∧ t.regs = s.regs ∧ t.flt = s.flt ∧ Machine.still s t) ∧
  (∀ (c : Nat) (v : Word) (s : Machine.State), s.dmaAccessing = some c → v.getLsbD 6 = true → s.bus.stalled.contains 6 = true →
    ∃ t, Machine.exec (.stallAbort v) s = .next t ∧ t.bus.dma.find? c = none ∧ t.fld F.BUS_DMA_STAT_STATE c = 3
      ∧ t.fld F.BUS_DMA_STAT_ERR c = 1 ∧ t.isSet Src.BUS_DMA_ERR = true ∧ Machine.still s t) ∧
  (∀ (c : Fin 8) (v : Word) (x : Machine.DmaDesc) (s : Machine.State), s.bus.dma.find? c = none → F.BUS_DMA_CTL_STOP.of v = 0 →
    s.descriptor (s.dmaFirst c) = some x →
    ∃ t, Machine.exec (.dmaGo c v) s = .next t ∧ t.bus.dma.find? c = some x ∧ t.fld F.BUS_DMA_STAT_STATE c = 1
      ∧ t.fld F.BUS_DMA_STAT_ERR c = 0 ∧ t.fld F.BUS_DMA_LEFT_BYTES c = x.len
      ∧ Machine.regsButAt [.BUS_DMA_STAT, .BUS_DMA_LEFT] c s t ∧ t.flt = s.flt ∧ Machine.still s t) ∧
  (∀ (c : Fin 8) (v : Word) (s : Machine.State), s.bus.dma.find? c = none → s.descriptor (s.dmaFirst c) = none →
    ∃ t, Machine.exec (.dmaGo c v) s = .next t ∧ t.bus.dma.find? c = none ∧ t.fld F.BUS_DMA_STAT_STATE c = 3
      ∧ t.fld F.BUS_DMA_STAT_ERR c = 2 ∧ t.isSet Src.BUS_DMA_ERR = true ∧ Machine.still s t) ∧
  (∀ (c : Fin 8) (v : Word) (s : Machine.State), (s.bus.dma.find? c).isSome = true →
    ∃ t, Machine.exec (.dmaGo c v) s = .next t ∧ t.regs = s.regs ∧ t.isSet Src.BUS_CFG_REJECT = true
      ∧ Machine.onlyRegs s t) ∧
  (∀ (c : Fin 8) (v : Word) (s : Machine.State), (s.bus.dma.find? c).isSome = true → F.BUS_DMA_CTL_GO.of v = 0 →
    ∃ t, Machine.exec (.dmaStop c v) s = .next t ∧ t.bus.dma.find? c = none ∧ t.fld F.BUS_DMA_STAT_STATE c = 3
      ∧ t.fld F.BUS_DMA_STAT_ERR c = 3 ∧ t.isSet Src.BUS_DMA_ERR = true ∧ Machine.still s t) ∧
  (∀ (c : Fin 8) (x : Machine.DmaDesc) (s : Machine.State), s.bus.dma.find? c = some x → s.bus.req.find? 6 = none →
    x.flags % 16 = 0 → bit x.flags 6 = true → x.len % 8 = 0 → 0x1000000000 ≤ x.src → x.src + x.len ≤ 0x1000400000 →
    0x1000000000 ≤ x.dst → x.dst + x.len ≤ 0x1000400000 → (x.src + x.len ≤ x.dst ∨ x.dst + x.len ≤ x.src) → s.mem.wf = true →
    ∃ t, Machine.exec (.dmaDescriptorEnd c) s = .next t ∧ t.load x.dst x.len = s.load x.src x.len
      ∧ (∀ a, a < x.dst ∨ x.dst + x.len ≤ a → t.mem.read a = s.mem.read a) ∧ t.bus.dma.find? c = none
      ∧ t.fld F.BUS_DMA_STAT_STATE c = 2 ∧ t.fld F.BUS_DMA_LEFT_BYTES c = 0
      ∧ (bit x.flags 5 = true → t.isSet Src.BUS_DMA_DONE = true) ∧ (bit x.flags 5 = false → t.flt = s.flt)
      ∧ Machine.regsButAt [.BUS_DMA_STAT, .BUS_DMA_LEFT] c s t ∧ t.pending = s.pending)

/-- R61, R362 to R367, R370: a management port is enabled in a line mode, or rejected; its link comes up, fails its
auto-negotiation, or falls; a received frame is dropped by cause, acted on as PAUSE, stored in the receive ring or filtered;
the pause ends; the frame at the head of the transmit ring is sent, or discarded as oversize; a PTP message that no domain
handles is stored. Where the event that a command reports cannot happen in the state, the command changes nothing: the model's choice
(notes/assumptions/10.md). -/
def Obligations.ManagementPortsCarryFrames : Prop :=
  (∀ (n : Fin 2) (v : Word) (s : Machine.State), s.flag F.MGMT_CFG_EN n = false → 1 ≤ F.MGMT_CFG_MODE.of v →
    F.MGMT_CFG_MODE.of v ≤ 4 → (n = 1 → s.flag F.RST_STAT_DARKROOM 0 = false) →
    ∃ t, Machine.exec (.mgmtEnable n v) s = .next t ∧ t.flag F.MGMT_CFG_EN n = true
      ∧ t.fld F.MGMT_CFG_MODE n = F.MGMT_CFG_MODE.of v ∧ t.fld F.MGMT_CFG_JUMBO n = F.MGMT_CFG_JUMBO.of v
      ∧ t.fld F.MGMT_CFG_AN n = F.MGMT_CFG_AN.of v ∧ t.fld F.MGMT_CFG_BCAST n = F.MGMT_CFG_BCAST.of v
      ∧ Machine.regsButAt [.MGMT_CFG] n s t ∧ Machine.onlyRegs s t ∧ t.flt = s.flt) ∧
  (∀ (n : Fin 2) (v : Word) (s : Machine.State), F.MGMT_CFG_MODE.of v = 0 ∨ 4 < F.MGMT_CFG_MODE.of v
      ∨ (n = 1 ∧ s.flag F.RST_STAT_DARKROOM 0 = true) ∨ (s.flag F.MGMT_CFG_EN n = true
        ∧ F.MGMT_CFG_MODE.of v ≠ s.fld F.MGMT_CFG_MODE n) →
    ∃ t, Machine.exec (.mgmtEnable n v) s = .next t ∧ t.regs = s.regs ∧ t.isSet Src.MGMT_CFG_REJECT = true
      ∧ Machine.onlyRegs s t) ∧
  (∀ (n : Fin 2) (slow : Bool) (s : Machine.State), s.flag F.MGMT_CFG_EN n = true →
    ¬(s.flag F.MGMT_CFG_AN n = true ∧ s.fld F.MGMT_CFG_MODE n = 2 ∧ slow = true) →
    ∃ t, Machine.exec (.mgmtLinkUp n slow) s = .next t ∧ t.flag F.MGMT_STAT_LINK_UP n = true
      ∧ t.flag F.MGMT_STAT_AN_DONE n = (s.flag F.MGMT_CFG_AN n && (s.fld F.MGMT_CFG_MODE n == 1 || s.fld F.MGMT_CFG_MODE n == 2))
      ∧ t.mgmt.anBad.contains n.val = false ∧ Machine.regsButAt [.MGMT_STAT] n s t ∧ t.flt = s.flt ∧ Machine.still s t) ∧
  (∀ (n : Fin 2) (s : Machine.State), s.flag F.MGMT_CFG_EN n = true → s.flag F.MGMT_CFG_AN n = true →
    s.fld F.MGMT_CFG_MODE n = 2 →
    ∃ t, Machine.exec (.mgmtLinkUp n true) s = .next t ∧ t.isSet Src.MGMT_AN_FAIL = true ∧ t.mgmt.anBad.contains n.val = true
      ∧ t.regs = s.regs ∧ Machine.still s t) ∧
  (∀ (n : Fin 2) (slow : Bool) (s : Machine.State), s.flag F.MGMT_CFG_EN n = false →
    Machine.exec (.mgmtLinkUp n slow) s = .next s) ∧
  (∀ (n : Fin 2) (s : Machine.State), s.flag F.MGMT_STAT_LINK_UP n = true →
    ∃ t, Machine.exec (.mgmtLinkDown n) s = .next t ∧ t.flag F.MGMT_STAT_LINK_UP n = false
      ∧ t.flag F.MGMT_STAT_AN_DONE n = false ∧ t.flag F.MGMT_STAT_LINK_DOWN_S n = true
      ∧ t.isSet Src.MGMT_LINK_DOWN = true ∧ Machine.regsButAt [.MGMT_STAT] n s t ∧ Machine.onlyRegs s t) ∧
  (∀ (n : Fin 2) (s : Machine.State), s.flag F.MGMT_STAT_LINK_UP n = false → Machine.exec (.mgmtLinkDown n) s = .next s) ∧
  (∀ (n : Fin 2) (f : EthFrame) (k : Nat) (s : Machine.State), s.macUp (128 + n) = true →
    f.fault (s.flag F.MGMT_CFG_JUMBO n) = k → k ≠ 0 →
    ∃ t, Machine.exec (.mgmtFrameRx n f) s = .next t ∧ t.isSet Src.MGMT_BAD_FRAME = true
      ∧ t.reg (Machine.mgCounter k) n = BitVec.ofNat 32 (min (2 ^ 32 - 1) ((s.reg (Machine.mgCounter k) n).toNat + 1))
      ∧ Machine.regsButAt [Machine.mgCounter k] n s t ∧ Machine.onlyRegs s t) ∧
  (∀ (n : Fin 2) (f : EthFrame) (q : Nat) (s : Machine.State), s.macUp (128 + n) = true →
    f.fault (s.flag F.MGMT_CFG_JUMBO n) = 0 → f.pause = some q → f.dst = 0x0180C2000001 →
    ∃ t, Machine.exec (.mgmtFrameRx n f) s = .next t ∧ t.flag F.MGMT_STAT_PAUSED n = decide (q ≠ 0)
      ∧ t.reg .MGMT_RX_PAUSE n = BitVec.ofNat 32 (min (2 ^ 32 - 1) ((s.reg .MGMT_RX_PAUSE n).toNat + 1))
      ∧ (q ≠ 0 → t.mgmt.pause.get 0 n = s.now + ceilDiv (q * Machine.pauseQuantum10 (s.fld F.MGMT_CFG_MODE n)) 10)
      ∧ Machine.regsButAt [.MGMT_RX_PAUSE, .MGMT_STAT] n s t ∧ t.flt = s.flt ∧ Machine.still s t) ∧
  (∀ (n : Fin 2) (f : EthFrame) (k a : Nat) (s : Machine.State), s.macUp (128 + n) = true →
    f.fault (s.flag F.MGMT_CFG_JUMBO n) = 0 → f.type ≠ 0x8808 → s.ptpPlaces (128 + n) = [] → s.mgMatch n f.dst = some k →
    s.mgRxFull n = false → s.mem.wf = true → a = Machine.mgbBase n + s.fld F.MGMT_RX_HEAD_IDX n * s.mgSlot n →
    ∃ t, Machine.exec (.mgmtFrameRx n f) s = .next t
      ∧ t.load a (32 + f.bytes.length) = rxDescriptor f.bytes.length 0 f.tagged k (s.frameStamp (128 + n)) 0 ++ f.bytes
      ∧ (∀ x, (x < a ∨ a + 32 + f.bytes.length ≤ x) → t.mem.read x = s.mem.read x)
      ∧ t.fld F.MGMT_RX_HEAD_IDX n = (s.fld F.MGMT_RX_HEAD_IDX n + 1) % s.mgRxSlots n
      ∧ Machine.regsButAt [.MGMT_RX_HEAD, .MGMT_RX_FRAMES_LO, .MGMT_RX_FRAMES_HI] n s t ∧ t.flt = s.flt
      ∧ t.pending = s.pending) ∧
  (∀ (n : Fin 2) (f : EthFrame) (k : Nat) (s : Machine.State), s.macUp (128 + n) = true →
    f.fault (s.flag F.MGMT_CFG_JUMBO n) = 0 → f.type ≠ 0x8808 → s.ptpPlaces (128 + n) = [] → s.mgMatch n f.dst = some k →
    s.mgRxFull n = true →
    ∃ t, Machine.exec (.mgmtFrameRx n f) s = .next t ∧ t.isSet Src.MGMT_HOST_DROP = true
      ∧ t.reg .MGMT_RX_HOST_DROP n = BitVec.ofNat 32 (min (2 ^ 32 - 1) ((s.reg .MGMT_RX_HOST_DROP n).toNat + 1))
      ∧ Machine.regsButAt [.MGMT_RX_HOST_DROP] n s t ∧ Machine.onlyRegs s t) ∧
  (∀ (n : Fin 2) (f : EthFrame) (s : Machine.State), s.macUp (128 + n) = true →
    f.fault (s.flag F.MGMT_CFG_JUMBO n) = 0 → f.type ≠ 0x8808 → s.ptpPlaces (128 + n) = [] → s.mgMatch n f.dst = none →
    f.dst ≠ 0xFFFFFFFFFFFF →
    ∃ t, Machine.exec (.mgmtFrameRx n f) s = .next t
      ∧ t.reg .MGMT_RX_FILTER n = BitVec.ofNat 32 (min (2 ^ 32 - 1) ((s.reg .MGMT_RX_FILTER n).toNat + 1))
      ∧ Machine.regsButAt [.MGMT_RX_FILTER] n s t ∧ t = { s with regs := t.regs }) ∧
  (∀ (n : Fin 2) (f : EthFrame) (s : Machine.State), s.macUp (128 + n) = false →
    Machine.exec (.mgmtFrameRx n f) s = .next s) ∧
  (∀ (n : Fin 2) (s : Machine.State), s.flag F.MGMT_STAT_PAUSED n = true →
    ∃ t, Machine.exec (.mgmtPauseEnd n) s = .next t ∧ t.flag F.MGMT_STAT_PAUSED n = false
      ∧ Machine.regsButAt [.MGMT_STAT] n s t ∧ Machine.still s t) ∧
  (∀ (n : Fin 2) (a len : Nat) (s : Machine.State), s.macUp (128 + n) = true → s.flag F.MGMT_STAT_PAUSED n = false →
    s.ptpWaiting (128 + n) = [] → s.fld F.MGMT_TX_HEAD_IDX n ≠ s.fld F.MGMT_TX_TAIL_IDX n →
    a = Machine.mgbBase n + 0x18000 + s.fld F.MGMT_TX_HEAD_IDX n * s.mgSlot n → len = leNat (s.load a 4) % 2 ^ 14 →
    (len + 4 ≤ maxFrame (s.flag F.MGMT_CFG_JUMBO n) → bit (leNat (s.load a 4)) 16 = false →
      ∃ t, Machine.exec (.mgmtFrameTx n) s = .next t ∧ t.wire.find? (128 + n) = some (macFrame (s.load (a + 32) len))
        ∧ t.fld F.MGMT_TX_HEAD_IDX n = (s.fld F.MGMT_TX_HEAD_IDX n + 1) % s.mgTxSlots n
        ∧ Machine.regsButAt [.MGMT_TX_HEAD, .MGMT_TX_FRAMES_LO, .MGMT_TX_FRAMES_HI] n s t ∧ t.flt = s.flt
        ∧ Machine.still s t)
    ∧ (maxFrame (s.flag F.MGMT_CFG_JUMBO n) < len + 4 →
      ∃ t, Machine.exec (.mgmtFrameTx n) s = .next t ∧ t.isSet Src.MGMT_TX_OVERSIZE = true ∧ t.wire = s.wire
        ∧ t.reg .MGMT_TX_OVERSIZE n = BitVec.ofNat 32 (min (2 ^ 32 - 1) ((s.reg .MGMT_TX_OVERSIZE n).toNat + 1))
        ∧ t.fld F.MGMT_TX_HEAD_IDX n = (s.fld F.MGMT_TX_HEAD_IDX n + 1) % s.mgTxSlots n ∧ Machine.still s t)) ∧
  (∀ (n : Fin 2) (s : Machine.State), s.flag F.MGMT_STAT_PAUSED n = true → Machine.exec (.mgmtFrameTx n) s = .next s) ∧
  (∀ (n : Fin 2) (p : Fin 130) (frame : List Byte) (a : Nat) (s : Machine.State), p.val = 128 + n → s.macUp p = true →
    s.mgRxFull n = false → s.mem.wf = true → a = Machine.mgbBase n + s.fld F.MGMT_RX_HEAD_IDX n * s.mgSlot n →
    ∃ t, Machine.exec (.ptpOtherMessage p frame) s = .next t ∧ t.load (a + 32) frame.length = frame
      ∧ (∀ x, (x < a ∨ a + 32 + frame.length ≤ x) → t.mem.read x = s.mem.read x)
      ∧ t.fld F.MGMT_RX_HEAD_IDX n = (s.fld F.MGMT_RX_HEAD_IDX n + 1) % s.mgRxSlots n
      ∧ Machine.regsButAt [.MGMT_RX_HEAD] n s t ∧ t.flt = s.flt ∧ t.pending = s.pending) ∧
  (∀ (p : Fin 130) (frame : List Byte) (s : Machine.State), s.macUp p = false →
    Machine.exec (.ptpOtherMessage p frame) s = .next s)

/-- R376 to R379, R382, R384: a read command starts, or is rejected; it ends with its bytes in the buffer, or with NACK; a
stuck bus ends it; the presence scan sets PRESENT after the record check, and clears it; straps that differ from the latched
ones set STRAP_CHG; a user calibration value is stored once the factory values are loaded. Where the event that a command reports cannot happen in the state, the command changes nothing: the model's choice
(notes/assumptions/10.md). -/
def Obligations.IdentityReadsScansAndCalibration : Prop :=
  (∀ (m : Fin 8) (v : Word) (s : Machine.State), s.badGo m (v ||| 0x80000000#32) = false →
    ∃ t, Machine.exec (.idmRead m v) s = .next t ∧ t.flag F.IDM_STAT_BUSY m = true
      ∧ t.fld F.IDM_CMD_SITE m = F.IDM_CMD_SITE.of v ∧ t.fld F.IDM_CMD_DEV m = F.IDM_CMD_DEV.of v
      ∧ t.idm.job.find? m = some ⟨F.IDM_CMD_SITE.of v, F.IDM_CMD_DEV.of v, s.fld F.IDM_ARG_OFFSET m, s.fld F.IDM_ARG_LEN m⟩
      ∧ Machine.regsButAt [.IDM_CMD, .IDM_STAT] m s t ∧ t.flt = s.flt ∧ Machine.still s t) ∧
  (∀ (m : Fin 8) (v : Word) (s : Machine.State), (s.flag F.IDM_STAT_BUSY m = true
      ∨ s.fld F.IDM_SITE_CFG_MASTER (F.IDM_CMD_SITE.of v) ≠ m ∨ s.flag F.IDM_SITE_CFG_EN (F.IDM_CMD_SITE.of v) = false
      ∨ 256 < s.fld F.IDM_ARG_OFFSET m + s.fld F.IDM_ARG_LEN m
      ∨ (F.IDM_CMD_DEV.of v = 1 ∧ s.fld F.IDM_SITE_CFG_TYPE (F.IDM_CMD_SITE.of v) ≠ 1)) →
    ∃ t, Machine.exec (.idmRead m v) s = .next t ∧ t.regs = s.regs ∧ t.isSet Src.IDM_CFG_REJECT = true
      ∧ Machine.onlyRegs s t) ∧
  (∀ (m : Fin 8) (j : Machine.IdmJob) (data : List Byte) (s : Machine.State), s.idm.job.find? m = some j → j.len ≤ 128 →
    j.len ≤ data.length →
    ∃ t, Machine.exec (.idmReadDone m false data) s = .next t ∧ t.flag F.IDM_STAT_BUSY m = false
      ∧ t.fld F.IDM_STAT_RESULT m = 0 ∧ t.idm.job.find? m = none
      ∧ (∀ b, b < j.len → bitsOf (t.reg .IDM_BUF (32 * m + b / 4)).toNat (8 * (b % 4)) 8 = (data.getD b 0).toNat)
      ∧ Machine.regsBut [.IDM_STAT, .IDM_BUF] s t ∧ t.flt = s.flt ∧ Machine.still s t) ∧
  (∀ (m : Fin 8) (j : Machine.IdmJob) (data : List Byte) (s : Machine.State), s.idm.job.find? m = some j →
    ∃ t, Machine.exec (.idmReadDone m true data) s = .next t ∧ t.flag F.IDM_STAT_BUSY m = false
      ∧ t.fld F.IDM_STAT_RESULT m = 1 ∧ t.idm.job.find? m = none ∧ t.isSet Src.IDM_NACK = true
      ∧ t.reg .IDM_NACK_CNT 0 = BitVec.ofNat 32 (min (2 ^ 32 - 1) ((s.reg .IDM_NACK_CNT 0).toNat + 1))
      ∧ Machine.regsBut [.IDM_STAT, .IDM_NACK_CNT] s t ∧ Machine.still s t) ∧
  (∀ (m : Fin 8) (nack : Bool) (data : List Byte) (s : Machine.State), s.idm.job.find? m = none →
    Machine.exec (.idmReadDone m nack data) s = .next s) ∧
  (∀ (m : Fin 8) (j : Machine.IdmJob) (s : Machine.State), s.idm.job.find? m = some j →
    ∃ t, Machine.exec (.busStuck m true) s = .next t ∧ t.flag F.IDM_STAT_BUSY m = false ∧ t.fld F.IDM_STAT_RESULT m = 2
      ∧ t.isSet Src.IDM_BUS_STUCK = true
      ∧ t.reg .IDM_STUCK_CNT 0 = BitVec.ofNat 32 (min (2 ^ 32 - 1) ((s.reg .IDM_STUCK_CNT 0).toNat + 1))
      ∧ Machine.regsBut [.IDM_STAT, .IDM_STUCK_CNT] s t ∧ Machine.still s t) ∧
  (∀ (m : Fin 8) (s : Machine.State), Machine.exec (.busStuck m false) s = .next s) ∧
  (∀ (acks : List (Fin 128 × List Byte)) (s : Machine.State), s.flag F.IDM_CFG_SCAN_EN 0 = true →
    ∃ t, Machine.exec (.presenceScan acks) s = .next t ∧ Machine.still s t
      ∧ Machine.regsBut [.IDM_SITE_STAT, .IDM_REC_FAIL_CNT] s t
      ∧ ∀ k : Fin 128, s.flag F.IDM_SITE_CFG_EN k = true → s.fld F.IDM_SITE_CFG_TYPE k ≠ 0 →
        (t.flag F.IDM_SITE_STAT_PRESENT k = acks.any (fun a => a.1 == k))
        ∧ (s.flag F.IDM_SITE_STAT_PRESENT k ≠ acks.any (fun a => a.1 == k) →
            t.flag F.IDM_SITE_STAT_CHANGE_S k = true ∧ t.isSet Src.IDM_MOD_CHANGE = true)
        ∧ (∀ d, acks.find? (fun a => a.1 == k) = some (k, d) → s.flag F.IDM_SITE_STAT_PRESENT k = false →
            s.fld F.IDM_SITE_CFG_TYPE k = 4 → t.flag F.IDM_SITE_STAT_REC_OK k = decide (Machine.moduleRecord d = 0)
              ∧ t.fld F.IDM_SITE_STAT_REC_ERR k = Machine.moduleRecord d
              ∧ (Machine.moduleRecord d ≠ 0 → t.isSet Src.IDM_REC_BAD = true))) ∧
  (∀ (acks : List (Fin 128 × List Byte)) (s : Machine.State), s.flag F.IDM_CFG_SCAN_EN 0 = false →
    Machine.exec (.presenceScan acks) s = .next s) ∧
  (∀ (slot : BitVec 6) (side : Bool) (s : Machine.State),
    ∃ t, Machine.exec (.strapChg slot side) s = .next t ∧ t.fld F.IDM_STRAP_LIVE_SLOT 0 = slot.toNat
      ∧ t.flag F.IDM_STRAP_LIVE_SIDE 0 = side ∧ t.fld F.IDM_STRAP_SLOT_ID 0 = s.fld F.IDM_STRAP_SLOT_ID 0
      ∧ t.fld F.IDM_STRAP_CARD_SIDE 0 = s.fld F.IDM_STRAP_CARD_SIDE 0
      ∧ (slot.toNat ≠ s.fld F.IDM_STRAP_SLOT_ID 0 → t.isSet Src.IDM_STRAP_CHG = true)
      ∧ Machine.regsButAt [.IDM_STRAP] 0 s t ∧ Machine.onlyRegs s t) ∧
  (∀ (q : CalQuantity) (v : Word) (s : Machine.State), s.flag F.CAL_STAT_LOADED 0 = true →
    ∃ t, Machine.exec (.calUserWrite q v) s = .next t
      ∧ (q = .oscillator → t.fld F.CAL_OSC_TRIM_U 0 = F.CAL_OSC_TRIM_U.of v)
      ∧ (∀ k, q = .sensor k → t.fld F.CAL_TS_U_OFS_U k = F.CAL_TS_U_OFS_U.of v
          ∧ ((t.sensorOffset k).2 = true → (s.sensorOffset k).2 = false → t.isSet Src.CAL_SAT = true))
      ∧ (∀ n, q = .lane n → t.fld F.LANE_TXEQ_PRE_U n = F.LANE_TXEQ_PRE_U.of v
          ∧ t.fld F.LANE_TXEQ_MAIN_U n = F.LANE_TXEQ_MAIN_U.of v ∧ t.fld F.LANE_TXEQ_POST_U n = F.LANE_TXEQ_POST_U.of v)
      ∧ Machine.regsBut [.CAL_OSC, .CAL_TS_U, .LANE_TXEQ] s t ∧ Machine.onlyRegs s t) ∧
  (∀ (q : CalQuantity) (v : Word) (s : Machine.State), s.flag F.CAL_STAT_LOADED 0 = false →
    ∃ t, Machine.exec (.calUserWrite q v) s = .next t ∧ t.regs = s.regs
      ∧ t.isSet (match q with | .lane _ => Src.LANE_CFG_REJECT | _ => Src.CAL_CFG_REJECT) = true ∧ Machine.onlyRegs s t)

/-- R392, R393, R397 to R399: a block PLL that does not lock is started again at most 3 times, then is left stopped; a domain
with nothing enabled stops and is counted; the sensors are read with their offsets, TJ is the highest of the readings that
count and its peak is kept; the third hot reading trips the part. Where the event that a command reports cannot happen in the state, the command changes nothing: the model's choice
(notes/assumptions/10.md). -/
def Obligations.ClocksStartSleepAndTrip : Prop :=
  (∀ (d : Fin 181) (s : Machine.State), Machine.blockPll d = true → d.val ∉ s.clk.dead → s.clk.tries.get 0 d < 3 →
    ∃ t, Machine.exec (.pllStart d) s = .next t ∧ t.clk.tries.get 0 d = s.clk.tries.get 0 d + 1
      ∧ t.clk.dead = s.clk.dead ∧ t.isSet Src.CLK_PLL_START = true
      ∧ t.reg .CLK_PLL_START_CNT 0 = BitVec.ofNat 32 (min (2 ^ 32 - 1) ((s.reg .CLK_PLL_START_CNT 0).toNat + 1))
      ∧ Machine.regsBut [.CLK_PLL_START_CNT] s t ∧ Machine.still s t) ∧
  (∀ (d : Fin 181) (s : Machine.State), Machine.blockPll d = true → d.val ∉ s.clk.dead → 3 ≤ s.clk.tries.get 0 d →
    ∃ t, Machine.exec (.pllStart d) s = .next t ∧ d.val ∈ t.clk.dead ∧ t.isSet Src.CLK_PLL_DEAD = true
      ∧ t.domClocked d = false ∧ t.regs = s.regs ∧ Machine.still s t) ∧
  (∀ (d : Fin 181) (s : Machine.State), Machine.blockPll d = false ∨ d.val ∈ s.clk.dead →
    Machine.exec (.pllStart d) s = .next s) ∧
  (∀ (d : Fin 181) (s : Machine.State), Machine.neverSleeps d = false → s.domBusy d = false →
    ∃ t, Machine.exec (.clockSleep d) s = .next t
      ∧ t.reg .CLK_SLEEP_CNT 0 = BitVec.ofNat 32 (min (2 ^ 32 - 1) ((s.reg .CLK_SLEEP_CNT 0).toNat + 1))
      ∧ (d.val = 164 → 0 ∈ t.clk.asleep) ∧ (d.val = 165 → 1 ∈ t.clk.asleep)
      ∧ Machine.regsBut [.CLK_SLEEP_CNT] s t ∧ t.flt = s.flt ∧ Machine.still s t) ∧
  (∀ (d : Fin 181) (s : Machine.State), Machine.neverSleeps d = true ∨ s.domBusy d = true →
    Machine.exec (.clockSleep d) s = .next s) ∧
  (∀ (raw : List (BitVec 16)) (s : Machine.State),
    ∃ t, Machine.exec (.tempRead raw) s = .next t
      ∧ (∀ k, k < 16 → t.fld F.PWR_TEMP_TEMP k = unsign 16 (s.corrected k (raw.getD k 0))
          ∧ (t.flag F.PWR_TEMP_EXCLUDED k = true ↔ (s.corrected k (raw.getD k 0) < -640
              ∨ 2400 < s.corrected k (raw.getD k 0)
              ∨ 800 < (2 * s.corrected k (raw.getD k 0)
                  - Machine.middleSum ((List.range 16).map (fun j => s.corrected j (raw.getD j 0)))).natAbs))
          ∧ (t.flag F.PWR_TEMP_EXCLUDED k = false → s.corrected k (raw.getD k 0) ≤ signed 16 (t.fld F.PWR_TJ_TJ 0))
          ∧ (t.flag F.PWR_TEMP_EXCLUDED k = true → s.flag F.PWR_TEMP_EXCLUDED k = false → t.isSet Src.PWR_SENSOR_BAD = true))
      ∧ ((∃ k, k < 16 ∧ t.flag F.PWR_TEMP_EXCLUDED k = false) →
          ∃ k, k < 16 ∧ t.flag F.PWR_TEMP_EXCLUDED k = false ∧ signed 16 (t.fld F.PWR_TJ_TJ 0) = s.corrected k (raw.getD k 0))
      ∧ signed 16 (t.fld F.PWR_TJ_PEAK_TJ 0)
          = max (signed 16 (t.fld F.PWR_TJ_TJ 0)) (signed 16 (s.fld F.PWR_TJ_PEAK_TJ 0))
      ∧ (t.tjWarm = true → s.tjWarm = false → t.isSet Src.PWR_TEMP_WARN = true)
      ∧ (t.tjLow = true → s.tjLow = false → t.isSet Src.PWR_TEMP_LOW = true)
      ∧ t.clk.hot = (if 1920 ≤ signed 16 (t.fld F.PWR_TJ_TJ 0) then s.clk.hot + 1 else 0)
      ∧ Machine.regsBut [.PWR_TEMP, .PWR_TJ, .PWR_TJ_PEAK] s t ∧ Machine.still s t) ∧
  (∀ (s : Machine.State), 3 ≤ s.clk.hot → s.flag F.PWR_THERM_STAT_TRIPPED 0 = false →
    ∃ t, Machine.exec .trip s = .next t ∧ t.flag F.PWR_THERM_STAT_TRIPPED 0 = true
      ∧ t.flag F.PWR_THERM_STAT_TRIP_S 0 = true ∧ t.isSet Src.PWR_TRIP = true ∧ t.alertLow = true
      ∧ (∀ d, d < 181 → d ≠ 176 → t.domClocked d = false) ∧ (∀ q, q < 32 → t.quadOf q = Machine.State.reset.quadOf q)
      ∧ t.vault.running.length = 0 ∧ t.mem = s.mem ∧ t.pending = s.pending) ∧
  (∀ (s : Machine.State), s.clk.hot < 3 ∨ s.flag F.PWR_THERM_STAT_TRIPPED 0 = true → Machine.exec .trip s = .next s)

/-- R390, R404 to R408, R410, R415, R499, R500: each source begins the reset of its level and is recorded; a brown-out under
500 ns and a RESET_N pulse under 200 ns are ignored; a failed start counts, and the third leads to Darkroom mode; a deeper
reset absorbs a confined one; the watchdog's second expiry within its window is a system reset. Where the event that a command reports cannot happen in the state, the command changes nothing: the model's choice
(notes/assumptions/10.md). -/
def Obligations.SourcesBeginTheirResets : Prop :=
  (∀ s : Machine.State, s.rst.level < 3 → s.rst.inStart = false →
    (∃ t, Machine.exec .xtalFail s = .next t ∧ Machine.systemBegun s t ∧ t.isSet Src.CLK_XTAL_FAIL = true
      ∧ t.reg .RST_CAUSE 0 = s.reg .RST_CAUSE 0 ||| 1#32 <<< 9 ∧ 9 ∈ t.rst.held
      ∧ t.flag F.CLK_STAT_SYSPLL_LOCK 0 = false ∧ t.flag F.CLK_STAT_XTAL_OK 0 = false) ∧
    (∃ t, Machine.exec .syspllUnlock s = .next t ∧ Machine.systemBegun s t ∧ t.isSet Src.CLK_SYSPLL_UNLOCK = true
      ∧ t.reg .RST_CAUSE 0 = s.reg .RST_CAUSE 0 ||| 1#32 <<< 9 ∧ 9 ∈ t.rst.held ∧ t.flag F.CLK_STAT_SYSPLL_LOCK 0 = false) ∧
    (∃ t, Machine.exec .systemReset s = .next t ∧ Machine.systemBegun s t ∧ t.reg .RST_CAUSE 0 = s.reg .RST_CAUSE 0
      ∧ t.rst.held = s.rst.held) ∧
    (∀ ns, 1000 ≤ ns → ∃ t u, Machine.exec (.resetNPin ns) s = .next t ∧ Machine.systemBegun s u ∧ t.now = s.now + ns
      ∧ t.rst = { u.rst with relAt := t.now + 2000000 } ∧ t.reg .RST_CAUSE 0 = s.reg .RST_CAUSE 0 ||| 1#32 <<< 2
      ∧ t.regs = u.regs ∧ t.mem = u.mem ∧ t.pending = u.pending)) ∧
  (∀ s : Machine.State, s.rst.level < 2 → s.rst.inStart = false →
    (∃ t, Machine.exec .coreReset s = .next t ∧ Machine.coreBegun s t ∧ t.reg .RST_CAUSE 0 = s.reg .RST_CAUSE 0) ∧
    (∃ t, Machine.exec .dbgReset s = .next t ∧ Machine.coreBegun s t
      ∧ t.reg .RST_CAUSE 0 = s.reg .RST_CAUSE 0 ||| 1#32 <<< 8) ∧
    (∀ u, u = Machine.passToNow s.wdtEnd s → s.wdtRuns = true → u.wdtArmed = false →
      ∃ t, Machine.exec .wdtExpire s = .next t ∧ Machine.coreBegun u t ∧ t.isSet Src.RST_WDT_EXPIRE = true
        ∧ t.rst.expiredAt = some u.now ∧ t.reg .RST_CAUSE 0 = s.reg .RST_CAUSE 0 ||| 1#32 <<< 3) ∧
    (∀ u, u = Machine.passToNow s.wdtEnd s → s.wdtRuns = true → u.wdtArmed = true →
      ∃ t, Machine.exec .wdtExpire s = .next t ∧ Machine.systemBegun u t ∧ t.isSet Src.RST_WDT_EXPIRE = true
        ∧ t.reg .RST_CAUSE 0 = s.reg .RST_CAUSE 0 ||| 1#32 <<< 4)) ∧
  (∀ s : Machine.State, s.wdtRuns = false → Machine.exec .wdtExpire s = .next s) ∧
  (∀ (s u : Machine.State), s.rst.inStart = true → s.rst.level = 0 → s.fld F.RST_STAT_FAILED 0 < 2 →
    u = Machine.passToNow (s.rst.startAt + s.fld F.RST_HEALTH_START_WINDOW 0 * 1000000000) s →
    ∃ t, Machine.exec .startTimeout s = .next t ∧ t.rst.level = 2 ∧ t.rst.inStart = false ∧ t.rst.relAt = u.now + 2000000
      ∧ t.fld F.RST_STAT_FAILED 0 = s.fld F.RST_STAT_FAILED 0 + 1 ∧ t.isSet Src.RST_FAILED_START = true
      ∧ t.fld F.CPU_STAT_HARTS_UP 0 = 0 ∧ t.xpt = { s.xpt with hbm := t.xpt.hbm } ∧ t.pending = s.pending) ∧
  (∀ s : Machine.State, s.rst.inStart = true → s.rst.level = 0 → 2 ≤ s.fld F.RST_STAT_FAILED 0 →
    ∃ t, Machine.exec .startTimeout s = .next t ∧ t.rst.level = 3 ∧ t.rst.inStart = false
      ∧ t.fld F.RST_STAT_FAILED 0 = 3 ∧ t.flag F.RST_STAT_DARKROOM 0 = true ∧ t.isSet Src.RST_FAILED_START = true
      ∧ (t.reg .RST_CAUSE 0).getLsbD 13 = true ∧ t.xpt = Machine.State.reset.xpt ∧ t.pending = s.pending) ∧
  (∀ s : Machine.State, s.rst.inStart = false → Machine.exec .startTimeout s = .next s) ∧
  (∀ s : Machine.State, s.mem.wf = true →
    ∃ t, Machine.exec .powerOn s = .next t ∧ t.rst.level = 4 ∧ t.reg .RST_CAUSE 0 = 1
      ∧ t.reg .RST_POR_CNT 0 = BitVec.ofNat 32 (min (2 ^ 32 - 1) ((s.reg .RST_POR_CNT 0).toNat + 1))
      ∧ (∀ r i, r ∉ [.RST_CAUSE, .RST_POR_CNT] → t.reg r i = r.resetWord i) ∧ (∀ b, t.faults b = .reset b)
      ∧ (∀ a, a < 0x800000000 → t.mem.read a = Machine.State.reset.mem.read a) ∧ t.otp = s.otp ∧ t.pending = s.pending) ∧
  (∀ (aon : Bool) (ns : Nat) (s : Machine.State), s.mem.wf = true →
    ∃ t, Machine.exec (.brownout aon ns) s = .next t ∧ t.pending = s.pending ∧ t.otp = s.otp
      ∧ (ns < 500 → t = s)
      ∧ (2000 ≤ ns → t.rst.level = 4 ∧ t.reg .RST_CAUSE 0 = (if aon then 1 else 2)
          ∧ (∀ r i, r ∉ [.RST_CAUSE, .RST_POR_CNT] → t.reg r i = r.resetWord i))
      ∧ (t = { s with free := t.free } ∨ t.rst.level = 4)) ∧
  (∀ (ns : Nat) (s : Machine.State), 3 ≤ s.rst.level ∨ ns < 200 → Machine.exec (.resetNPin ns) s = .next s) ∧
  (∀ (ns : Nat) (s : Machine.State), s.rst.level < 3 → 200 ≤ ns → ns < 1000 →
    ∃ t, Machine.exec (.resetNPin ns) s = .next t ∧ (t = { s with free := t.free } ∨ t.rst.level = 3)) ∧
  (∀ (m : Fin 8) (v : Word) (s : Machine.State), m.val ≠ 6 → m.val ≠ 7 → s.rst.level < 2 →
    ∃ t, Machine.exec (.swCoreReset m v) s = .next t ∧ Machine.coreBegun s t
      ∧ t.reg .RST_CAUSE 0 = s.reg .RST_CAUSE 0 ||| 1#32 <<< 5 ∧ t.reg .RST_STAT 0 = s.reg .RST_STAT 0) ∧
  (∀ (m : Fin 8) (v : Word) (s : Machine.State), m.val ≠ 6 → m.val ≠ 7 → F.RST_SWRST_KEY.of v = 0xA5 → s.rst.level < 3 →
    ∃ t, Machine.exec (.swSystemReset m v) s = .next t ∧ Machine.systemBegun s t
      ∧ t.reg .RST_CAUSE 0 = s.reg .RST_CAUSE 0 ||| 1#32 <<< 7 ∧ t.fld F.RST_STAT_FAILED 0 = s.fld F.RST_STAT_FAILED 0) ∧
  (∀ (m : Fin 8) (v : Word) (s : Machine.State), m.val ≠ 7 → m.val = 6 ∨ F.RST_SWRST_KEY.of v ≠ 0xA5 →
    ∃ t, Machine.exec (.swSystemReset m v) s = .next t ∧ t.regs = s.regs ∧ t.isSet Src.RST_CFG_REJECT = true
      ∧ Machine.onlyRegs s t) ∧
  (∀ (m : Fin 8) (v : Word) (c : Nat) (s : Machine.State), m.val ≠ 6 → m.val ≠ 7 → c = F.RST_SWRST_CORE.of v →
    s.coreServes c = true → s.rst.level = 0 → s.vault.migr.find? 4 = none →
    ∃ t, Machine.exec (.swConfinedReset m v) s = .next t ∧ t.hartUp (s.hartOf c) = false
      ∧ t.reg .RST_CONF_CNT 0 = BitVec.ofNat 32 (min (2 ^ 32 - 1) ((s.reg .RST_CONF_CNT 0).toNat + 1))
      ∧ t.reg .RST_CAUSE 0 = s.reg .RST_CAUSE 0 ||| 1#32 <<< 6 ||| 1#32 <<< (16 + c)
      ∧ t.rst.conf.find? c = some (s.now + 2000000) ∧ t.rst.level = 0 ∧ t.bus.req.find? c = none
      ∧ (∀ h, h ≠ s.hartOf c → t.hartUp h = s.hartUp h)
      ∧ Machine.regsBut [.RST_CONF_CNT, .RST_CAUSE, .CPU_STAT, .CPU_IPI, .CPU_IRQ_EN_LO, .CPU_IRQ_EN_HI, .CPU_MTIMECMP_LO,
          .CPU_MTIMECMP_HI] s t ∧ t.flt = s.flt ∧ Machine.still s t) ∧
  (∀ (m : Fin 8) (v : Word) (c : Nat) (s : Machine.State), m.val ≠ 6 → m.val ≠ 7 → c = F.RST_SWRST_CORE.of v →
    s.coreServes c = true → s.rst.level ≠ 0 →
    ∃ t, Machine.exec (.swConfinedReset m v) s = .next t
      ∧ t.reg .RST_CAUSE 0 = s.reg .RST_CAUSE 0 ||| 1#32 <<< 6 ||| 1#32 <<< (16 + c)
      ∧ Machine.regsButAt [.RST_CAUSE] 0 s t ∧ Machine.onlyRegs s t ∧ t.flt = s.flt) ∧
  (∀ (m : Fin 8) (v : Word) (s : Machine.State), m.val ≠ 7 → m.val = 6 ∨ s.coreServes (F.RST_SWRST_CORE.of v) = false →
    ∃ t, Machine.exec (.swConfinedReset m v) s = .next t ∧ t.regs = s.regs ∧ t.isSet Src.RST_CFG_REJECT = true
      ∧ Machine.onlyRegs s t)

/-- R406, R409, R410, R412 to R414, R417 to R420: after a clock failure the stretch starts when XTAL_IN has passed; a reset
is released once no source is held, with the boot steps of its level; harts are released and the start begins; a read of
RST_CAUSE clears it; HEALTH_OK in time ends the start; a kick restarts the watchdog; the supervisor alone changes the
life-cycle state, by the permitted transitions. Where the event that a command reports cannot happen in the state, the command changes nothing: the model's choice
(notes/assumptions/10.md). -/
def Obligations.ReleaseStartAndLifeCycle : Prop :=
  (∀ s : Machine.State, 9 ∈ s.rst.held →
    ∃ t, Machine.exec .xtalOk s = .next t ∧ 9 ∉ t.rst.held ∧ t.rst.relAt = s.now + 2000000
      ∧ t.flag F.CLK_STAT_XTAL_OK 0 = true ∧ t.flag F.CLK_STAT_SYSPLL_LOCK 0 = true
      ∧ Machine.regsButAt [.CLK_STAT] 0 s t ∧ t.flt = s.flt ∧ Machine.still s t) ∧
  (∀ s : Machine.State, 9 ∉ s.rst.held → Machine.exec .xtalOk s = .next s) ∧
  (∀ (b : BootReport) (s : Machine.State), s.rst.held ≠ [] → Machine.exec (.resetRelease b) s = .next s) ∧
  (∀ (b : BootReport) (s : Machine.State), s.rst.held = [] → 3 ≤ s.rst.level →
    s.flag F.RST_STAT_DARKROOM 0 = true → s.rst.activating = false →
    ∃ t, Machine.exec (.resetRelease b) s = .next t ∧ t.rst.level = 0 ∧ t.rst.harts = s.rst.harts ∧ t.rst.inStart = s.rst.inStart
      ∧ t.flag F.CLK_STAT_AON_LOCK 0 = true ∧ t.flag F.CLK_STAT_XTAL_OK 0 = true ∧ t.flag F.CLK_STAT_SYSPLL_LOCK 0 = true
      ∧ t.flag F.BIST_STAT_STARTUP_DONE 0 = true ∧ t.flag F.XPT_STAT_INIT_DONE 0 = true
      ∧ t.fld F.IDM_STRAP_SLOT_ID 0 = s.fld F.IDM_STRAP_LIVE_SLOT 0 ∧ (0 ∈ t.hbm.trained ↔ b.stackA = true)
      ∧ (1 ∈ t.hbm.trained ↔ b.stackB = true) ∧ (b.stackB = false → t.isSet Src.HBM_TRAIN_FAIL = true)
      ∧ (s.rst.level = 4 → t.fld F.RST_STAT_LC 0 = s.otp.lcCode ∧ t.flag F.CAL_STAT_LOADED 0 = true) ∧ t.pending = s.pending) ∧
  (∀ (b : BootReport) (s : Machine.State), s.rst.held = [] → 2 ≤ s.rst.level → s.rst.activating = true →
    ∃ t, Machine.exec (.resetRelease b) s = .next t ∧ t.rst.level = 0 ∧ t.rst.harts = [0, 1, 2, 3] ∧ t.rst.begins = true
      ∧ t.pending = s.pending) ∧
  (∀ (b : BootReport) (s : Machine.State), s.rst.held = [] → s.rst.level = 2 → s.rst.activating = false →
    s.flag F.RST_STAT_DARKROOM 0 = false → s.lc ≠ 4 →
    ∃ t, Machine.exec (.resetRelease b) s = .next t ∧ t.pending = s.pending
      ∧ ((t.rst.level = 0 ∧ t.rst.harts = [0, 1, 2, 3] ∧ t.rst.begins = true)
        ∨ (t.rst.level = 3 ∧ t.flag F.RST_STAT_DARKROOM 0 = true ∧ t.fld F.RST_STAT_FAILED 0 = s.fld F.RST_STAT_FAILED 0))
      ∧ (0 ∉ s.hbm.trained → t.flag F.RST_STAT_DARKROOM 0 = true)) ∧
  (∀ (b : BootReport) (c t : Nat) (s : Machine.State), s.rst.held = [] → s.rst.level = 0 → s.rst.conf = ⟨[(c, t)]⟩ →
    ∃ u, Machine.exec (.resetRelease b) s = .next u ∧ u.rst.conf = ⟨[]⟩ ∧ u.rst.harts = s.rst.harts ++ [s.hartOf c]
      ∧ t ≤ u.now ∧ u.regs = s.regs ∧ Machine.still s u) ∧
  (∀ s : Machine.State, s.rst.harts = [0, 1, 2, 3] → s.rst.level = 0 → s.rst.begins = true →
    ∃ t, Machine.exec .hartRelease s = .next t ∧ (∀ h, h < 4 → (s.coreOf h).isSome = true → t.hartUp h = true)
      ∧ t.rst.inStart = true ∧ t.rst.startAt = s.now ∧ t.rst.kickAt = s.now ∧ t.wdtRuns = true
      ∧ t.flag F.RST_WDT_CFG_EN 0 = true ∧ t.flag F.RST_HEALTH_HEALTH_OK 0 = false ∧ t.rst.harts = [] ∧ t.rst.begins = false
      ∧ Machine.regsButAt [.CPU_STAT, .RST_WDT_CFG, .RST_HEALTH, .PWR_CAP_HOLD_CNT] 0 s t
      ∧ (∀ b, b ≠ .PWR → b ≠ .GPIO → t.faults b = s.faults b) ∧ Machine.still s t) ∧
  (∀ (h : Nat) (s : Machine.State), s.rst.harts = [h] → h < 4 → s.rst.level = 0 → s.rst.begins = false →
    (s.coreOf h).isSome = true →
    ∃ t, Machine.exec .hartRelease s = .next t ∧ t.hartUp h = true ∧ (∀ k, k ≠ h → t.hartUp k = s.hartUp k)
      ∧ t.rst.harts = [] ∧ t.rst.inStart = s.rst.inStart
      ∧ Machine.regsButAt [.CPU_STAT] 0 s t ∧ t.flt = s.flt ∧ Machine.still s t) ∧
  (∀ s : Machine.State, s.rst.harts = [] → Machine.exec .hartRelease s = .next s) ∧
  (∀ (m : Fin 8) (s : Machine.State),
    ∃ t, Machine.exec (.rstCauseRead m) s = .next t ∧ t.resp.find? m = some ⟨(s.reg .RST_CAUSE 0).toNat, false⟩
      ∧ t.reg .RST_CAUSE 0 = 0 ∧ Machine.regsButAt [.RST_CAUSE] 0 s t ∧ t.flt = s.flt ∧ Machine.still s t) ∧
  (∀ (v : Word) (s : Machine.State), s.rst.inStart = true → s.fwu.trial = false → 10 ≤ F.RST_HEALTH_START_WINDOW.of v →
    F.RST_HEALTH_START_WINDOW.of v ≤ 3600 → s.now < s.rst.startAt + s.fld F.RST_HEALTH_START_WINDOW 0 * 1000000000 →
    ∃ t, Machine.exec (.healthOk v) s = .next t ∧ t.flag F.RST_HEALTH_HEALTH_OK 0 = true ∧ t.fld F.RST_STAT_FAILED 0 = 0
      ∧ t.fld F.RST_HEALTH_START_WINDOW 0 = F.RST_HEALTH_START_WINDOW.of v ∧ t.rst.inStart = false
      ∧ Machine.regsButAt [.RST_HEALTH, .RST_STAT] 0 s t ∧ t.flt = s.flt ∧ Machine.still s t) ∧
  (∀ (v : Word) (s : Machine.State), (F.RST_HEALTH_START_WINDOW.of v < 10 ∨ 3600 < F.RST_HEALTH_START_WINDOW.of v
      ∨ s.rst.inStart = false ∨ s.rst.startAt + s.fld F.RST_HEALTH_START_WINDOW 0 * 1000000000 ≤ s.now) →
    ∃ t, Machine.exec (.healthOk v) s = .next t ∧ t.regs = s.regs ∧ t.isSet Src.RST_CFG_REJECT = true
      ∧ Machine.onlyRegs s t) ∧
  (∀ (v : Word) (s : Machine.State), F.RST_WDT_KICK_KEY.of v = 0x4B1C →
    Machine.exec (.wdtKick v) s = .next { s with rst := { s.rst with kickAt := s.now } }) ∧
  (∀ (v : Word) (s : Machine.State), F.RST_WDT_KICK_KEY.of v ≠ 0x4B1C →
    ∃ t, Machine.exec (.wdtKick v) s = .next t ∧ t.regs = s.regs ∧ t.isSet Src.RST_CFG_REJECT = true
      ∧ Machine.onlyRegs s t) ∧
  (∀ (v : Word) (g tok : Nat) (o : Machine.OtpState) (s : Machine.State), g = F.RST_LC_REQ_TARGET.of v →
    tok = F.RST_LC_REQ_TOKEN.of v * 64 →
    (g = 1 ∧ s.lc = 0 ∧ o = { s.otp with lcProv := true }
      ∨ g = 2 ∧ s.lc = 1 ∧ o = { s.otp with lcServ := true }
      ∨ g = 3 ∧ s.lc = 2 ∧ s.otp.mc ≤ 254 ∧ s.tokenOk tok = true ∧ o = { s.otp with mc := s.otp.mc + 1 }
      ∨ g = 2 ∧ s.lc = 3 ∧ o = { s.otp with mc := s.otp.mc + 1 }
      ∨ g = 4 ∧ (s.lc = 2 ∨ s.lc = 3) ∧ o = { s.otp with lcDecom := true }) →
    ∃ t, Machine.exec (.lcRequest 5 v) s = .next t ∧ t.otp = o ∧ t.lc = o.lcCode
      ∧ Machine.regsButAt [.RST_LC_REQ, .RST_STAT] 0 s t ∧ t.flt = s.flt ∧ Machine.still s t) ∧
  (∀ (v : Word) (g : Nat) (s : Machine.State), g = F.RST_LC_REQ_TARGET.of v →
    (g = 0 ∨ 4 < g ∨ s.lc = 4 ∨ (s.lc = 0 ∧ g ≠ 1) ∨ (s.lc = 1 ∧ g ≠ 2) ∨ (s.lc = 2 ∧ (g = 1 ∨ g = 2))
      ∨ (s.lc = 3 ∧ (g = 1 ∨ g = 3)) ∨ (g = 3 ∧ s.lc = 2 ∧ 254 < s.otp.mc)
      ∨ (g = 3 ∧ s.lc = 2 ∧ s.tokenOk (F.RST_LC_REQ_TOKEN.of v * 64) = false)) →
    ∃ t, Machine.exec (.lcRequest 5 v) s = .next t ∧ t.otp = s.otp ∧ t.reg .RST_STAT 0 = s.reg .RST_STAT 0
      ∧ t.isSet Src.RST_LC_REJECT = true ∧ Machine.regsButAt [.RST_LC_REQ] 0 s t ∧ Machine.still s t) ∧
  (∀ (m : Fin 8) (v : Word) (s : Machine.State), m ≠ 5 → m ≠ 7 →
    ∃ t, Machine.exec (.lcRequest m v) s = .next t ∧ t.regs = s.regs ∧ t.otp = s.otp ∧ t.isSet Src.RST_CFG_REJECT = true
      ∧ Machine.onlyRegs s t)

/-- R424 to R433, R437, R438, R445: a clearing write acknowledges sources and stops a timer that has none left; a force
outside MANUFACTURE and MAINTENANCE needs a unit in the Vault; an expiry records the pending sources, sets ESC_S and takes
their actions; HBM errors count and repair rows; a stack that fails is recorded; the arbiter grants by urgency and turn. Where the event that a command reports cannot happen in the state, the command changes nothing: the model's choice
(notes/assumptions/10.md). -/
def Obligations.FaultsEscalateAndHbmServes : Prop :=
  (∀ (b : Blk) (v : Word) (s : Machine.State), (s.alertNext = true → s.alertLow = true) →
    ∃ t, Machine.exec (.fstatClear b v) s = .next t ∧ (t.faults b).fstat = (s.faults b).fstat &&& ~~~ v
      ∧ (t.faults b).freal = (s.faults b).freal &&& ~~~ v ∧ (t.faults b).fen = (s.faults b).fen
      ∧ (t.faults b).expiry = (if (t.faults b).pendingSrc = 0 then none else (s.faults b).expiry)
      ∧ (∀ c, c ≠ b → t.faults c = s.faults c) ∧ t.regs = s.regs ∧ Machine.still s t) ∧
  (∀ (b : Blk) (v : Word) (s : Machine.State), s.lcOpen = true → b ≠ .GPIO →
    ∃ t, Machine.exec (.faultForce b v) s = .next t
      ∧ (t.faults b).fstat = (s.faults b).fstat ||| (v &&& Machine.srcMask b) ∧ (t.faults b).freal = (s.faults b).freal
      ∧ ((s.faults b).testEsc = false → (s.faults b).expiry = none → (t.faults b).expiry = none)
      ∧ Machine.onlyRegs s t ∧ t.regs = s.regs) ∧
  (∀ (v : Word) (s : Machine.State), s.lcOpen = true →
    ∃ t, Machine.exec (.faultForce .GPIO v) s = .next t ∧ (∀ k, k < 2 → v.getLsbD k = true → t.isSet ⟨.GPIO, k⟩ = true)
      ∧ Machine.onlyRegs s t ∧ t.regs = s.regs) ∧
  (∀ (b : Blk) (v : Word) (s : Machine.State), s.lcOpen = false → s.forcedUnit b = none → v &&& Machine.srcMask b ≠ 0 →
    ∃ t, Machine.exec (.faultForce b v) s = .next t ∧ t.isSet ⟨b, b.cfgReject⟩ = true
      ∧ (b ≠ .GPIO → (t.faults b).fstat = (s.faults b).fstat ||| (⟨b, b.cfgReject⟩ : Src).mask)
      ∧ Machine.onlyRegs s t ∧ t.regs = s.regs) ∧
  (∀ (b : Blk) (e : Nat) (s : Machine.State), s.lcOpen = false → s.forcedUnit b = some e → (s.faults b).testEsc = true →
    (s.faults b).fen &&& Machine.retireMask b ≠ 0 → (s.faults b).fstat &&& Machine.retireMask b = 0 →
    (s.faults b).expiry = none →
    ∃ t, Machine.exec (.faultForce b (Machine.retireMask b)) s = .next t
      ∧ (t.faults b).fstat = (s.faults b).fstat ||| Machine.retireMask b ∧ (t.faults b).freal = (s.faults b).freal
      ∧ (t.faults b).expiry = some (Machine.escalationEdge s.now (s.faults b).period)
      ∧ Machine.onlyRegs s t ∧ t.regs = s.regs) ∧
  (∀ (b : Blk) (s : Machine.State), (s.faults b).expiry = none → Machine.exec (.escalationExpire b) s = .next s) ∧
  (∀ (b : Blk) (e : Nat) (s u : Machine.State), (s.faults b).expiry = some e → Machine.retireSource b = none →
    b ≠ .ULINK → b ≠ .BUS → b ≠ .GPIO → u = Machine.passToNow e s → (u.faults b).pendingSrc ≠ 0 →
    ∃ t, Machine.exec (.escalationExpire b) s = .next t ∧ (t.faults b).escLast = (u.faults b).pendingSrc
      ∧ (t.faults b).pendingSrc = 0 ∧ (t.faults b).expiry = none ∧ (t.faults b).fstat = (u.faults b).fstat
      ∧ t.flag F.GPIO_ALERT_STAT_ESC_S 0 = true ∧ e ≤ t.now
      ∧ Machine.regsButAt [.GPIO_ALERT_STAT] 0 s t ∧ t.xpt = s.xpt ∧ t.vault = s.vault ∧ t.rst = s.rst
      ∧ Machine.still s t) ∧
  (∀ (e l n : Nat) (s : Machine.State), (s.faults .ULINK).expiry = some e → s.esc.link = [l] → s.flag F.ULINK_CFG_EN l = true →
    n = s.fld F.ULINK_CFG_LANE l → ((s.faults .ULINK).pendingSrc).getLsbD Src.ULINK_LINK_DOWN.bit = true →
    (s.faults .ULINK).freal.getLsbD Src.ULINK_LINK_DOWN.bit = true →
    ∃ t, Machine.exec (.escalationExpire .ULINK) s = .next t ∧ t.flag F.ULINK_CFG_EN l = false
      ∧ t.flag F.LANE_CFG_TX_IDLE n = true ∧ t.flag F.GPIO_ALERT_STAT_ESC_S 0 = true
      ∧ t.xpt = s.xpt ∧ Machine.still s t) ∧
  (∀ (e k : Nat) (s : Machine.State), (s.faults .XPT).expiry = some e → k = s.fld F.XPT_CHK_LAST_SLICE 0 →
    s.unitState k = 0 ∨ s.unitState k = 2 → (s.faults .XPT).testEsc = false →
    ((s.faults .XPT).pendingSrc).getLsbD Src.XPT_SLICE_CHECK.bit = true →
    ∃ u, Machine.exec (.escalationExpire .XPT) s = .next (Machine.alertUpdate (Machine.retireUnit k u))
      ∧ (u.faults .XPT).escLast.getLsbD Src.XPT_SLICE_CHECK.bit = true ∧ (u.faults .XPT).expiry = none
      ∧ u.flag F.GPIO_ALERT_STAT_ESC_S 0 = true ∧ u.unitState k = s.unitState k ∧ Machine.still s u) ∧
  (∀ (e : Nat) (s : Machine.State), (s.faults .HBM).expiry = some e → (s.faults .HBM).cfg.getLsbD 17 = true →
    (s.faults .HBM).pendingSrc = Src.HBM_STACK_FAIL.mask → (s.faults .HBM).testEsc = false → s.rst.level < 3 →
    s.rst.inStart = false →
    ∃ t, Machine.exec (.escalationExpire .HBM) s = .next t ∧ t.rst.level = 3
      ∧ t.reg .RST_CAUSE 0 = s.reg .RST_CAUSE 0 ||| 1#32 <<< 12 ∧ t.xpt = Machine.State.reset.xpt ∧ t.pending = s.pending) ∧
  (∀ (pc : Fin 68) (row : BitVec 24) (e : HbmEcc) (s : Machine.State), s.unitState (130 + pc) ≠ 0 →
    s.unitState (130 + pc) ≠ 2 → Machine.exec (.hbmEccError pc row e) s = .next s) ∧
  (∀ (pc : Fin 68) (row : BitVec 24) (s : Machine.State), s.unitState (130 + pc) = 0 ∨ s.unitState (130 + pc) = 2 →
    (s.rowErrors (pc * 2 ^ 24 + row.toNat)).foldl (fun a x => a + x.2) 0 ≤ s.fld F.VAULT_CFG_ROW_CE_LIMIT 0 →
    ∃ t, Machine.exec (.hbmEccError pc row .corrected) s = .next t ∧ t.isSet Src.HBM_ECC_CORR = true
      ∧ t.reg .HBM_ECC_CORR_CNT 0 = BitVec.ofNat 32 (min (2 ^ 32 - 1) ((s.reg .HBM_ECC_CORR_CNT 0).toNat + 1))
      ∧ t.fld F.VAULT_LG_ECC_COUNT (130 + pc) = min (2 ^ 32 - 1) (s.fld F.VAULT_LG_ECC_COUNT (130 + pc) + 1)
      ∧ t.otp = s.otp ∧ Machine.regsBut [.HBM_ECC_CORR_CNT, .VAULT_LG_ECC, .VAULT_LG_HRS] s t ∧ Machine.still s t) ∧
  (∀ (pc : Fin 68) (row : BitVec 24) (n : Nat) (s : Machine.State), s.unitState (130 + pc) = 0 ∨ s.unitState (130 + pc) = 2 →
    n = (if pc.val < 34 then s.otp.rows.1 else s.otp.rows.2) →
    ∃ t, Machine.exec (.hbmEccError pc row .uncorrectable) s = .next t ∧ t.isSet Src.HBM_ECC_UNCORR = true
      ∧ t.fld F.HBM_ECC_LAST_PC 0 = pc ∧ t.fld F.HBM_ECC_LAST_ROW 0 = row.toNat
      ∧ t.reg .HBM_ECC_UNCORR_CNT 0 = BitVec.ofNat 32 (min (2 ^ 32 - 1) ((s.reg .HBM_ECC_UNCORR_CNT 0).toNat + 1))
      ∧ (0 < n → t.isSet Src.HBM_ROW_REPAIR = true ∧ (if pc.val < 34 then t.otp.rows.1 else t.otp.rows.2) = n - 1
          ∧ t.reg .VAULT_ROW_CNT 0 = BitVec.ofNat 32 (min (2 ^ 32 - 1) ((s.reg .VAULT_ROW_CNT 0).toNat + 1)))
      ∧ (n = 1 → t.isSet Src.VAULT_ROW_EXHAUST = true) ∧ (n = 0 → t.otp = s.otp)
      ∧ Machine.regsButAt [.HBM_ECC_LAST, .HBM_ECC_UNCORR_CNT, .VAULT_ROW_CNT] 0 s t ∧ Machine.still s t) ∧
  (∀ (h : Fin 2) (s : Machine.State), h.val ∉ s.hbm.failed →
    ∃ t, Machine.exec (.stackFail h) s = .next t ∧ t.isSet Src.HBM_STACK_FAIL = true ∧ h.val ∈ t.hbm.failed
      ∧ t.regs = s.regs ∧ Machine.still s t) ∧
  (∀ (h : Fin 2) (s : Machine.State), h.val ∈ s.hbm.failed → Machine.exec (.stackFail h) s = .next s) ∧
  (∀ (pc : Fin 68) (r : Fin 9) (top : Fin 4) (ns p : Nat) (w : List (Fin 9 × Fin 4 × Nat)) (s : Machine.State),
    (r, top, ns) ∈ w → (∀ y ∈ w, y.2.1 ≤ top) → p = s.hbm.turn.get 0 (4 * pc + top) → p < 9 →
    (∀ y ∈ w, y.2.1 = top → (r.val + 9 - p) % 9 ≤ (y.1.val + 9 - p) % 9) →
    ∃ t, Machine.exec (.hbmGrant pc w) s = .next t ∧ t.hbm.granted.find? pc = some r.val
      ∧ t.hbm.turn.get 0 (4 * pc + top) = (r.val + 1) % 9 ∧ (top = 0 → t.regs = s.regs)
      ∧ (top ≠ 0 → min 65535 ns ≤ t.fld F.HBM_WAIT_MAX_NS r) ∧ s.fld F.HBM_WAIT_MAX_NS r ≤ t.fld F.HBM_WAIT_MAX_NS r
      ∧ Machine.regsButAt [.HBM_WAIT_MAX] r s t ∧ t.flt = s.flt ∧ Machine.still s t) ∧
  (∀ (pc : Fin 68) (s : Machine.State), Machine.exec (.hbmGrant pc []) s = .next s)

/-- R441 to R453: a rotation is queued or answered with why not; a retirement is answered; masters above the supervisor and
reserved OPs are rejected; the copy of a pseudo-channel ends its migration; a rotation falls due at its period; an hour of
service counts; the ledger is saved beside the older records; the supervisor alone records a retirement in OTP. Where the event that a command reports cannot happen in the state, the command changes nothing: the model's choice
(notes/assumptions/10.md). -/
def Obligations.VaultRotatesRetiresAndKeepsItsLedger : Prop :=
  (∀ (m : Fin 8) (v : Word) (e : Nat) (s : Machine.State), m.val ≤ 5 → F.VAULT_CMD_TYPE.of v ≤ 6 →
    s.rotUnit (F.VAULT_CMD_TYPE.of v) (F.VAULT_CMD_PLANE.of v != 0) (F.VAULT_CMD_UNIT.of v) = some e →
    s.rotateResult e = 0 → s.underTest e = false →
    ∃ t, Machine.exec (.vaultRotate m v) s = .next t ∧ t.fld F.VAULT_CMD_STAT_RESULT 0 = 0
      ∧ t.vault.queue.map (·.target) = s.vault.queue.map (·.target) ++ [e]
      ∧ t.vault.running = s.vault.running ∧ t.vault.migr = s.vault.migr
      ∧ bitsOf (t.fld F.VAULT_ROT_DUE (F.VAULT_CMD_TYPE.of v))
          (if F.VAULT_CMD_TYPE.of v = 0 ∧ F.VAULT_CMD_PLANE.of v ≠ 0 then 1 else 0) 1 = 0
      ∧ Machine.regsBut [.VAULT_CMD_STAT, .VAULT_ROT, .PWR_CAP_HOLD_CNT] s t ∧ Machine.still s t) ∧
  (∀ (m : Fin 8) (v : Word) (e : Nat) (s : Machine.State), m.val ≤ 5 → F.VAULT_CMD_TYPE.of v ≤ 6 →
    s.rotUnit (F.VAULT_CMD_TYPE.of v) (F.VAULT_CMD_PLANE.of v != 0) (F.VAULT_CMD_UNIT.of v) = some e →
    s.rotateResult e ≠ 0 →
    ∃ t, Machine.exec (.vaultRotate m v) s = .next t ∧ t.fld F.VAULT_CMD_STAT_RESULT 0 = s.rotateResult e
      ∧ (s.rotateResult e = 2 → t.isSet Src.VAULT_NO_SPARE = true)
      ∧ Machine.regsButAt [.VAULT_CMD_STAT] 0 s t ∧ Machine.onlyRegs s t) ∧
  (∀ (m : Fin 8) (v : Word) (s : Machine.State), m.val ≤ 5 → F.VAULT_CMD_TYPE.of v = 7 →
    ∃ t, Machine.exec (.vaultRotate m v) s = .next t ∧ t.fld F.VAULT_CMD_STAT_RESULT 0 = 4
      ∧ Machine.regsButAt [.VAULT_CMD_STAT] 0 s t ∧ Machine.onlyRegs s t ∧ t.flt = s.flt) ∧
  (∀ (v : Word) (s : Machine.State), ∀ c ∈ [Instr.vaultRotate 6 v, .vaultRetire 6 v, .vaultBadCmd 6 v, .vaultBadCmd 0 v],
    ∃ t, Machine.exec c s = .next t ∧ t.regs = s.regs ∧ t.isSet Src.VAULT_CFG_REJECT = true ∧ Machine.onlyRegs s t) ∧
  (∀ (m : Fin 8) (v : Word) (e : Nat) (s : Machine.State), m.val ≤ 5 → e = F.VAULT_CMD_UNIT.of v → e < 294 →
    s.unitState e ≠ 4 →
    ∃ u, Machine.exec (.vaultRetire m v) s = .next (Machine.retireUnit e u) ∧ u.fld F.VAULT_CMD_STAT_RESULT 0 = 0
      ∧ Machine.regsButAt [.VAULT_CMD_STAT] 0 s u ∧ Machine.onlyRegs s u ∧ u.flt = s.flt) ∧
  (∀ (m : Fin 8) (v : Word) (e : Nat) (s : Machine.State), m.val ≤ 5 → e = F.VAULT_CMD_UNIT.of v →
    294 ≤ e ∨ s.unitState e = 4 →
    ∃ t, Machine.exec (.vaultRetire m v) s = .next t ∧ t.fld F.VAULT_CMD_STAT_RESULT 0 = (if 294 ≤ e then 4 else 3)
      ∧ Machine.regsButAt [.VAULT_CMD_STAT] 0 s t ∧ Machine.onlyRegs s t ∧ t.flt = s.flt) ∧
  (∀ (x : Machine.Migration) (s : Machine.State), s.vault.migr.find? 5 = some x → x.retire = false →
    130 ≤ x.leaving → x.leaving < 198 → 130 ≤ x.spare → x.spare < 198 → x.leaving ≠ x.spare → s.unitState x.leaving = 2 →
    ∃ u, Machine.exec .pcCopyDone s = .next (Machine.retryRetire u) ∧ u.unitState x.leaving = 3 ∧ u.unitState x.spare = 0
      ∧ x.leaving ∈ u.vault.running ∧ u.vault.migr.find? 5 = none ∧ u.isSet Src.VAULT_MIGRATED = true
      ∧ u.reg .VAULT_ROT_CNT 0 = BitVec.ofNat 32 (min (2 ^ 32 - 1) ((s.reg .VAULT_ROT_CNT 0).toNat + 1))
      ∧ Machine.still s u) ∧
  (∀ s : Machine.State, s.vault.migr.find? 5 = none → s.vault.retireWait = [] → Machine.exec .pcCopyDone s = .next s) ∧
  (∀ (k : Fin 7) (b : Bool) (s : Machine.State), s.fld F.VAULT_ROT_PERIOD k ≠ 0 →
    ∃ t, Machine.exec (.rotationDue k b) s = .next t
      ∧ bitsOf (t.fld F.VAULT_ROT_DUE k) (if k = 0 ∧ b = true then 1 else 0) 1 = 1
      ∧ t.fld F.VAULT_ROT_PERIOD k = s.fld F.VAULT_ROT_PERIOD k
      ∧ (∀ j, j ≠ k.val → t.reg .VAULT_ROT j = s.reg .VAULT_ROT j) ∧ Machine.regsBut [.VAULT_ROT] s t ∧ Machine.still s t) ∧
  (∀ (k : Fin 7) (b : Bool) (s : Machine.State), s.fld F.VAULT_ROT_PERIOD k = 0 → Machine.exec (.rotationDue k b) s = .next s) ∧
  (∀ (e : Fin 422) (ecc : Nat) (s : Machine.State), s.unitState e = 0 →
    ∃ t, Machine.exec (.ledgerHour e ecc) s = .next t
      ∧ t.fld F.VAULT_LG_HRS_HOURS e = min (2 ^ 20 - 1) (s.fld F.VAULT_LG_HRS_HOURS e + 1)
      ∧ t.fld F.VAULT_LG_BIST_SINCE_H e = min 65535 (s.fld F.VAULT_LG_BIST_SINCE_H e + 1)
      ∧ (e.val < 198 → t.fld F.VAULT_LG_ECC_COUNT e = min (2 ^ 32 - 1) (s.fld F.VAULT_LG_ECC_COUNT e + ecc))
      ∧ (t.worn e = true → s.worn e = false → t.flag F.VAULT_LG_HRS_WEAR e = true ∧ t.isSet Src.VAULT_WEAR_LIMIT = true)
      ∧ Machine.regsButAt [.VAULT_LG_HRS, .VAULT_LG_BIST, .VAULT_LG_ECC] e s t ∧ Machine.onlyRegs s t) ∧
  (∀ (e : Fin 422) (ecc : Nat) (s : Machine.State), s.unitState e ≠ 0 → Machine.exec (.ledgerHour e ecc) s = .next s) ∧
  (∀ (j : Nat) (s : Machine.State), s.mem.wf = true →
    j = (match s.currentLedger with | none => 0 | some x => (x.1 + 1) % 4) →
    ∃ t, Machine.exec (.ledgerSave true) s = .next t
      ∧ t.flash (Machine.ledgerAddr j) (s.ledgerBytes s.nextSeq).length = s.ledgerBytes s.nextSeq
      ∧ (∀ a, a < Machine.ledgerAddr j ∨ Machine.ledgerAddr j + 0x2000 ≤ a → t.mem.read a = s.mem.read a)
      ∧ t = { s with mem := t.mem }) ∧
  (∀ s : Machine.State,
    ∃ t, Machine.exec (.ledgerSave false) s = .next t ∧ t.isSet Src.VAULT_LEDGER_SAVE = true ∧ t.regs = s.regs
      ∧ Machine.onlyRegs s t) ∧
  (∀ (v : Word) (e : Nat) (s : Machine.State), e = F.VAULT_REC_UNIT.of v → e < 294 →
    ∃ t, Machine.exec (.retireRecord 5 v) s = .next t ∧ e ∈ t.otp.retired ∧ e ∉ t.vault.recPend
      ∧ (∀ k, k ∈ s.otp.retired → k ∈ t.otp.retired) ∧ t.regs = s.regs ∧ t.flt = s.flt ∧ Machine.still s t) ∧
  (∀ (m : Fin 8) (v : Word) (s : Machine.State), m ≠ 5 → m ≠ 7 →
    ∃ t, Machine.exec (.retireRecord m v) s = .next t ∧ t.otp = s.otp ∧ t.regs = s.regs
      ∧ t.isSet Src.VAULT_CFG_REJECT = true ∧ Machine.onlyRegs s t)

/-- R396, R454 to R457, R461: the head of the queue starts once its power fits, else it waits and is counted once; a request
is queued or answered with why not; a run that ends, is stopped or loses its power shows its verdict and counts. Where the event that a command reports cannot happen in the state, the command changes nothing: the model's choice
(notes/assumptions/10.md). -/
def Obligations.SelfTestRunsUnderThePowerCap : Prop :=
  (∀ (q : Machine.BistReq) (rest : List Machine.BistReq) (s : Machine.State), s.vault.queue = q :: rest →
    s.runFits q.target = true → s.flag F.PWR_THERM_STAT_TRIPPED 0 = false → q.rotate = false →
    ∃ t, Machine.exec .bistStart s = .next t ∧ t.vault.queue = rest ∧ t.vault.running = q.target :: s.vault.running
      ∧ (q.target < 294 → t.unitState q.target = (if s.unitState q.target = 4 ∨ s.unitState q.target = 5
          then s.unitState q.target else 3)) ∧ Machine.still s t) ∧
  (∀ (q : Machine.BistReq) (rest : List Machine.BistReq) (s : Machine.State), s.vault.queue = q :: rest →
    s.runFits q.target = false → q.held = false →
    ∃ t, Machine.exec .bistStart s = .next t ∧ t.vault.queue = { q with held := true } :: rest
      ∧ t.vault.running = s.vault.running ∧ t.isSet Src.PWR_CAP_HOLD = true
      ∧ t.reg .PWR_CAP_HOLD_CNT 0 = BitVec.ofNat 32 (min (2 ^ 32 - 1) ((s.reg .PWR_CAP_HOLD_CNT 0).toNat + 1))
      ∧ Machine.regsButAt [.PWR_CAP_HOLD_CNT] 0 s t ∧ Machine.still s t) ∧
  (∀ (q : Machine.BistReq) (rest : List Machine.BistReq) (s : Machine.State), s.vault.queue = q :: rest →
    (s.runFits q.target = false ∧ q.held = true) ∨ (s.runFits q.target = true ∧ s.flag F.PWR_THERM_STAT_TRIPPED 0 = true) →
    Machine.exec .bistStart s = .next s) ∧
  (∀ s : Machine.State, s.vault.queue = [] → Machine.exec .bistStart s = .next s) ∧
  (∀ (v : Word) (e : Nat) (s : Machine.State), e = F.BIST_CMD_TARGET.of v → s.runResult e = 0 →
    ∃ t, Machine.exec (.bistRun v) s = .next t ∧ t.fld F.BIST_CMD_STAT_RESULT 0 = 0
      ∧ t.vault.queue.map (·.target) = s.vault.queue.map (·.target) ++ [e] ∧ t.vault.running = s.vault.running
      ∧ Machine.regsButAt [.BIST_CMD_STAT, .PWR_CAP_HOLD_CNT] 0 s t ∧ Machine.still s t) ∧
  (∀ (v : Word) (e : Nat) (s : Machine.State), e = F.BIST_CMD_TARGET.of v → s.runResult e ≠ 0 →
    ∃ t, Machine.exec (.bistRun v) s = .next t ∧ t.fld F.BIST_CMD_STAT_RESULT 0 = s.runResult e
      ∧ (s.runResult e = 1 ∨ s.runResult e = 2 → t.isSet Src.BIST_REFUSED = true)
      ∧ Machine.regsButAt [.BIST_CMD_STAT] 0 s t ∧ Machine.onlyRegs s t) ∧
  (∀ (v : Word) (e : Nat) (s : Machine.State), e = F.BIST_CMD_TARGET.of v → s.vault.running.contains e = true →
    e < 294 ∨ Machine.blockTarget e = true →
    ∃ t, Machine.exec (.bistStop v) s = .next t ∧ t.fld F.BIST_CMD_STAT_RESULT 0 = 0 ∧ e ∉ t.vault.running
      ∧ t.fld F.BIST_LAST_TARGET 0 = e ∧ t.fld F.BIST_LAST_VERDICT 0 = 3 ∧ t.fld F.BIST_LAST_CAUSE 0 = 1
      ∧ t.reg .BIST_INC_CNT 0 = BitVec.ofNat 32 (min (2 ^ 32 - 1) ((s.reg .BIST_INC_CNT 0).toNat + 1))
      ∧ t.isSet Src.BIST_INCOMPLETE = true
      ∧ (e < 294 → t.fld F.VAULT_LG_BIST_VERDICT e = 3 ∧ (s.unitState e = 3 → t.unitState e = 1)) ∧ t.pending = s.pending) ∧
  (∀ (v : Word) (e : Nat) (s : Machine.State), e = F.BIST_CMD_TARGET.of v →
    s.vault.running.contains e = false ∨ (294 ≤ e ∧ Machine.blockTarget e = false) →
    ∃ t, Machine.exec (.bistStop v) s = .next t
      ∧ t.fld F.BIST_CMD_STAT_RESULT 0 = (if e < 294 ∨ Machine.blockTarget e = true then 0 else 3)
      ∧ Machine.regsButAt [.BIST_CMD_STAT] 0 s t ∧ Machine.onlyRegs s t ∧ t.flt = s.flt) ∧
  (∀ (e done v : Nat) (sig expected : Word) (margin : BitVec 10) (s : Machine.State), s.vault.running.contains e = true →
    e < 294 → v = (if done < Machine.cyclesExpected e then 3 else if done = Machine.cyclesExpected e ∧ sig = expected then 1 else 2) →
    ∃ t, Machine.exec (.bistEnd e done sig expected margin) s = .next t ∧ t.fld F.BIST_LAST_TARGET 0 = e
      ∧ t.fld F.BIST_LAST_VERDICT 0 = v ∧ t.fld F.BIST_LAST_CAUSE 0 = 0
      ∧ t.reg .BIST_LAST_DONE_LO 0 = BitVec.ofNat 32 done ∧ t.reg .BIST_LAST_SIG 0 = sig ∧ t.reg .BIST_LAST_SIG_EXP 0 = expected
      ∧ t.reg .BIST_LAST_EXP_LO 0 = BitVec.ofNat 32 (Machine.cyclesExpected e)
      ∧ t.fld F.VAULT_LG_BIST_VERDICT e = v
      ∧ (v = 1 → t.fld F.VAULT_LG_BIST_SINCE_H e = 0 ∧ t.fld F.VAULT_LG_VMIN_MARGIN e = margin.toNat
          ∧ t.reg .BIST_PASS_CNT 0 = BitVec.ofNat 32 (min (2 ^ 32 - 1) ((s.reg .BIST_PASS_CNT 0).toNat + 1)))
      ∧ (v = 2 → t.isSet Src.BIST_FAIL = true ∧ t.isSet Src.VAULT_UNUSABLE = true ∧ (s.unitState e = 3 → t.unitState e = 5)
          ∧ t.reg .BIST_FAIL_CNT 0 = BitVec.ofNat 32 (min (2 ^ 32 - 1) ((s.reg .BIST_FAIL_CNT 0).toNat + 1)))
      ∧ (v = 3 → t.isSet Src.BIST_INCOMPLETE = true ∧ (s.unitState e = 3 → t.unitState e = 1)
          ∧ t.reg .BIST_INC_CNT 0 = BitVec.ofNat 32 (min (2 ^ 32 - 1) ((s.reg .BIST_INC_CNT 0).toNat + 1)))
      ∧ t.pending = s.pending) ∧
  (∀ (e done : Nat) (sig expected : Word) (margin : BitVec 10) (s : Machine.State), s.vault.running.contains e = false →
    Machine.exec (.bistEnd e done sig expected margin) s = .next s) ∧
  (∀ (e : Fin 294) (s : Machine.State), s.vault.running.contains e.val = true →
    ∃ t, Machine.exec (.powerSwitchFault e) s = .next t ∧ e.val ∉ t.vault.running ∧ t.fld F.BIST_LAST_TARGET 0 = e
      ∧ t.fld F.BIST_LAST_VERDICT 0 = 3 ∧ t.fld F.BIST_LAST_CAUSE 0 = 3 ∧ t.fld F.VAULT_LG_BIST_VERDICT e = 3
      ∧ t.isSet Src.BIST_INCOMPLETE = true
      ∧ t.reg .BIST_INC_CNT 0 = BitVec.ofNat 32 (min (2 ^ 32 - 1) ((s.reg .BIST_INC_CNT 0).toNat + 1))
      ∧ t.pending = s.pending) ∧
  (∀ (e : Fin 294) (s : Machine.State), s.vault.running.contains e.val = false →
    Machine.exec (.powerSwitchFault e) s = .next s)

/-- R466, R467, R469, R473, R474, R477 to R480: a mailbox command that passes its checks works on the flash until it
completes, any other is answered with why not; a piece, a setting, the ledger go to their places and nowhere else; a failed
flash write is reported; ARM and DISARM answer at once; the activation starts the image that was preloaded. Where the event that a command reports cannot happen in the state, the command changes nothing: the model's choice
(notes/assumptions/10.md). -/
def Obligations.FirmwareMailboxCommands : Prop :=
  (∀ (m : Fin 8) (v : Word) (j : Nat → Nat → Machine.FwuJob) (s : Machine.State), m.val ≤ 5 → s.fwu.job = none →
    (∀ op k, j op k = ⟨op, F.FWU_CMD_SECTOR.of v, k, s.mailbox⟩) →
    (s.pieceResult s.mailbox = 0 →
      Machine.exec (.fwuPiece m v) s = .next { s with fwu := { s.fwu with job := some (j 1 (s.escrow.getD 0)) } }) ∧
    (s.eraseResult = 0 →
      Machine.exec (.eraseEscrow m v) s = .next { s with fwu := { s.fwu with job := some (j 2 (s.escrow.getD 0)) } }) ∧
    (s.verifyResult = 0 →
      Machine.exec (.verify m v) s = .next { s with fwu := { s.fwu with job := some (j 3 (s.escrow.getD 0)) } }) ∧
    (∀ k, s.fwu.running = some k →
      Machine.exec (.setWrite m v) s = .next { s with fwu := { s.fwu with job := some (j 6 k) } }) ∧
    (m = 5 → Machine.exec (.ledger m v) s = .next { s with fwu := { s.fwu with job := some (j 7 0) } })) ∧
  (∀ (m : Fin 8) (v : Word) (r : Nat) (s : Machine.State), m.val ≤ 6 →
    r = (if m.val = 6 then 12 else 2) → m.val = 6 ∨ s.fwu.job.isSome = true →
    ∀ x ∈ [(1, Instr.fwuPiece m v), (2, .eraseEscrow m v), (3, .verify m v), (4, .arm m v), (5, .disarm m v), (6, .setWrite m v)],
      ∃ t, Machine.exec x.2 s = .next t ∧ t.fld F.FWU_CMD_STAT_RESULT 0 = r ∧ t.fld F.FWU_CMD_STAT_OP 0 = x.1
        ∧ t.isSet Src.FWU_REFUSED = true
        ∧ t.reg .FWU_REFUSE_CNT 0 = BitVec.ofNat 32 (min (2 ^ 32 - 1) ((s.reg .FWU_REFUSE_CNT 0).toNat + 1))
        ∧ Machine.regsButAt [.FWU_CMD_STAT, .FWU_REFUSE_CNT] 0 s t ∧ Machine.onlyRegs s t) ∧
  (∀ (m : Fin 8) (v : Word) (r : Nat) (s : Machine.State), m.val ≤ 5 → s.fwu.job = none → r = s.pieceResult s.mailbox → r ≠ 0 →
    ∃ t, Machine.exec (.fwuPiece m v) s = .next t ∧ t.fld F.FWU_CMD_STAT_RESULT 0 = r
      ∧ (r = 1 → t.reg .FWU_DUP_CNT 0 = BitVec.ofNat 32 (min (2 ^ 32 - 1) ((s.reg .FWU_DUP_CNT 0).toNat + 1)))
      ∧ (r ≠ 1 → t.isSet Src.FWU_REFUSED = true)
      ∧ Machine.regsButAt [.FWU_CMD_STAT, .FWU_REFUSE_CNT, .FWU_DUP_CNT] 0 s t ∧ Machine.onlyRegs s t) ∧
  (∀ (m : Fin 8) (v : Word) (s : Machine.State), m.val ≤ 6 → ∀ c ∈ [Instr.fwuBadCmd m v, .ledger 0 v, .ledger 6 v],
    ∃ t, Machine.exec c s = .next t ∧ t.regs = s.regs ∧ t.isSet Src.FWU_CFG_REJECT = true ∧ Machine.onlyRegs s t) ∧
  (∀ (m : Fin 8) (v : Word) (k : Nat) (s : Machine.State), m.val ≤ 5 → s.fwu.job = none → s.escrow = some k →
    s.slotState k = 3 → s.fwu.preloaded.contains k = true → s.rst.inStart = false →
    s.etValid = true ∨ F.FWU_CMD_NOW.of v = 1 →
    ∃ t, Machine.exec (.arm m v) s = .next t ∧ t.fld F.FWU_CMD_STAT_RESULT 0 = 0 ∧ t.fld F.FWU_CMD_STAT_OP 0 = 4
      ∧ t.fwu.armed = some (if F.FWU_CMD_NOW.of v = 1 then none else some s.actAt) ∧ t.mem = (Machine.setSlot k 4 s).mem
      ∧ Machine.regsButAt [.FWU_CMD_STAT] 0 s t ∧ t.flt = s.flt ∧ t.pending = s.pending) ∧
  (∀ (m : Fin 8) (v : Word) (r : Nat) (s : Machine.State), m.val ≤ 5 → s.fwu.job = none →
    r = s.armResult (F.FWU_CMD_NOW.of v == 1) → r ≠ 0 →
    ∃ t, Machine.exec (.arm m v) s = .next t ∧ t.fld F.FWU_CMD_STAT_RESULT 0 = r ∧ (r = 3 ∨ r = 11)
      ∧ t.isSet Src.FWU_REFUSED = true ∧ Machine.regsButAt [.FWU_CMD_STAT, .FWU_REFUSE_CNT] 0 s t
      ∧ Machine.onlyRegs s t) ∧
  (∀ (m : Fin 8) (v : Word) (s : Machine.State), m.val ≤ 5 → s.fwu.job = none → s.armedSlot.isSome = true →
    ∃ t, Machine.exec (.disarm m v) s = .next t ∧ t.fld F.FWU_CMD_STAT_RESULT 0 = 0 ∧ t.fld F.FWU_CMD_STAT_OP 0 = 5
      ∧ t.fwu.armed = none ∧ Machine.regsButAt [.FWU_CMD_STAT] 0 s t ∧ t.flt = s.flt ∧ t.pending = s.pending) ∧
  (∀ (ok : Bool) (s : Machine.State), s.fwu.job = none → Machine.exec (.fwuCommandDone ok) s = .next s) ∧
  (∀ (i count len k : Nat) (p : List Byte) (x : Machine.FwuJob) (s : Machine.State), s.fwu.job = some x → x.op = 1 →
    x.slot = k → k < 2 → x.bytes = p → s.mem.wf = true → i = Machine.leAt p 12 4 → count = Machine.leAt p 16 4 →
    len = Machine.leAt p 20 4 → count ≤ 12288 → i < count → len ≤ 4096 → 32 + len ≤ p.length →
    ∃ t, Machine.exec (.fwuCommandDone true) s = .next t ∧ t.fwu.job = none ∧ t.fld F.FWU_CMD_STAT_RESULT 0 = 0
      ∧ t.fld F.FWU_CMD_STAT_OP 0 = 1 ∧ t.flash (Machine.slotBase k + i * 4096) len = (p.drop 32).take len
      ∧ t.received k i = true
      ∧ t.reg .FWU_PIECE_CNT 0 = BitVec.ofNat 32 (min (2 ^ 32 - 1) ((s.reg .FWU_PIECE_CNT 0).toNat + 1))
      ∧ (∀ a, a < Machine.slotBase k + i * 4096 ∨ Machine.slotBase k + i * 4096 + 4096 ≤ a →
          a ≠ Machine.bitmapBase k + i / 8 → a < Machine.slotBase k + 0x3001000 → t.mem.read a = s.mem.read a)
      ∧ (∀ a, Machine.slotBase k + 0x3003000 ≤ a → t.mem.read a = s.mem.read a)
      ∧ Machine.regsButAt [.FWU_CMD_STAT, .FWU_PIECE_CNT] 0 s t ∧ t.pending = s.pending) ∧
  (∀ (k : Nat) (x : Machine.FwuJob) (s : Machine.State), s.fwu.job = some x → x.op = 2 → x.slot = k → s.mem.wf = true →
    ∃ t, Machine.exec (.fwuCommandDone true) s = .next t ∧ t.fwu.job = none ∧ t.fld F.FWU_CMD_STAT_RESULT 0 = 0
      ∧ (∀ a, Machine.slotBase k ≤ a → a < Machine.slotBase k + 0x3001000 → t.mem.read a = 0)
      ∧ (∀ a, Machine.slotBase k + 0x3010000 ≤ a → a < Machine.slotBase k + 0x3410000 → t.mem.read a = 0)
      ∧ t.fwu.preloaded.contains k = false ∧ Machine.regsButAt [.FWU_CMD_STAT] 0 s t ∧ t.pending = s.pending) ∧
  (∀ (k : Nat) (x : Machine.FwuJob) (s : Machine.State), s.fwu.job = some x → x.op = 3 → x.slot = k →
    ∃ t, Machine.exec (.fwuCommandDone true) s = .next t ∧ t.fwu.job = none
      ∧ t.fld F.FWU_CMD_STAT_RESULT 0 = s.imageResult k ∧ t.fld F.FWU_CMD_STAT_OP 0 = 3
      ∧ (s.imageResult k = 0 → t.fwu.preloaded.contains k = true)
      ∧ (s.imageResult k ≠ 0 → t.isSet Src.FWU_VERIFY_FAIL = true ∧ t.fwu.preloaded = s.fwu.preloaded)
      ∧ t.pending = s.pending) ∧
  (∀ (a : Nat) (x : Machine.FwuJob) (s : Machine.State), s.fwu.job = some x → x.op = 6 → s.mem.wf = true →
    a = Machine.slotBase x.slot + 0x3010000 + x.sector * 4096 → x.bytes.length = 4128 →
    ∃ t, Machine.exec (.fwuCommandDone true) s = .next t ∧ t.fwu.job = none ∧ t.fld F.FWU_CMD_STAT_RESULT 0 = 0
      ∧ t.fld F.FWU_CMD_STAT_OP 0 = 6 ∧ t.flash a 4096 = x.bytes.drop 32
      ∧ (∀ c, c < a ∨ a + 4096 ≤ c → t.mem.read c = s.mem.read c)
      ∧ Machine.regsButAt [.FWU_CMD_STAT] 0 s t ∧ t.flt = s.flt ∧ t.pending = s.pending) ∧
  (∀ (x : Machine.FwuJob) (s : Machine.State), s.fwu.job = some x → x.op = 7 →
    ∃ t, Machine.exec (.fwuCommandDone true) s = .next t ∧ t.fwu.job = none ∧ t.fld F.FWU_CMD_STAT_RESULT 0 = 0
      ∧ t.fld F.FWU_CMD_STAT_OP 0 = 7 ∧ t.mem = (Machine.saveLedger s).mem ∧ Machine.regsButAt [.FWU_CMD_STAT] 0 s t
      ∧ t.flt = s.flt ∧ t.pending = s.pending) ∧
  (∀ (x : Machine.FwuJob) (s : Machine.State), s.fwu.job = some x → x.op < 8 →
    ∃ t, Machine.exec (.fwuCommandDone false) s = .next t ∧ t.fwu.job = none ∧ t.fld F.FWU_CMD_STAT_RESULT 0 = 7
      ∧ t.fld F.FWU_CMD_STAT_OP 0 = x.op ∧ t.isSet Src.FWU_FLASH_ERR = true
      ∧ Machine.regsButAt [.FWU_CMD_STAT] 0 s t ∧ t.pending = s.pending) ∧
  (∀ (k : Nat) (at_ : Option Nat) (s : Machine.State), s.fwu.armed = some at_ → s.armedSlot = some k → s.rst.inStart = true →
    ∃ t, Machine.exec .activation s = .next t ∧ t.isSet Src.FWU_ACT_MISSED = true ∧ t.fwu.armed = none
      ∧ t.fwu.running = s.fwu.running ∧ t.rst = s.rst ∧ t.regs = s.regs ∧ t.pending = s.pending) ∧
  (∀ (k : Nat) (s : Machine.State), s.fwu.armed = some none → s.armedSlot = some k → s.rst.inStart = false → s.rst.level < 2 →
    ∃ t, Machine.exec .activation s = .next t ∧ t.isSet Src.FWU_ACTIVATED = true ∧ t.fwu.running = some k
      ∧ t.fwu.trial = true ∧ t.fwu.armed = none ∧ t.rst.level = 2 ∧ t.rst.activating = true
      ∧ t.reg .RST_CAUSE 0 = s.reg .RST_CAUSE 0 ||| 1#32 <<< 5 ∧ t.fld F.CPU_STAT_HARTS_UP 0 = 0
      ∧ t.xpt = { s.xpt with hbm := t.xpt.hbm } ∧ t.pending = s.pending) ∧
  (∀ s : Machine.State, s.fwu.armed = none ∨ s.armedSlot = none → Machine.exec .activation s = .next s)

/-- R416, R475, R481: in Darkroom mode the resident loader answers each request on MG_A with its RESULT, or BUSY while a
command works; outside Darkroom mode it does not run; START of a slot that may start leaves Darkroom mode by a system reset
with the failed-start counter kept. Where the event that a command reports cannot happen in the state, the command changes nothing: the model's choice
(notes/assumptions/10.md). -/
def Obligations.ResidentLoaderServesDarkroom : Prop :=
  (∀ (q : BitVec 16) (k : BitVec 8) (p : List Byte) (ok : Bool) (s : Machine.State), s.loaderUp = false →
    Machine.exec (.loaderStatus q) s = .next s ∧ Machine.exec (.loaderPiece q p ok) s = .next s
      ∧ Machine.exec (.loaderEraseEscrow q ok) s = .next s ∧ Machine.exec (.loaderVerify q) s = .next s
      ∧ Machine.exec (.loaderStart q k) s = .next s) ∧
  (∀ (q : BitVec 16) (s : Machine.State), s.loaderUp = true →
    ∃ t, Machine.exec (.loaderStatus q) s = .next t
      ∧ (∃ hd : List Byte, hd.length = 12 ∧ t.wire.find? 128 = some (macFrame (hd ++ [0x88#8, 0xB6#8, 1#8, 0x81#8]
          ++ leBytes 2 q.toNat ++ leBytes 2 144 ++ [0#8, 0#8] ++ s.loaderStatus)))
      ∧ t = { s with wire := t.wire, free := t.free }) ∧
  (∀ (q : BitVec 16) (k : BitVec 8) (p : List Byte) (ok : Bool) (s : Machine.State), s.loaderUp = true →
    s.fwu.job.isSome = true →
    ∀ x ∈ [(2, Instr.loaderPiece q p ok), (3, .loaderEraseEscrow q ok), (4, .loaderVerify q), (5, .loaderStart q k)],
      ∃ t, Machine.exec x.2 s = .next t
        ∧ (∃ hd : List Byte, hd.length = 12 ∧ t.wire.find? 128 = some (macFrame (hd ++ [0x88#8, 0xB6#8, 1#8,
            BitVec.ofNat 8 (x.1 + 0x80)] ++ leBytes 2 q.toNat ++ leBytes 2 1 ++ [0#8, 0#8] ++ [2#8])))
        ∧ t.mem = s.mem ∧ t.rst = s.rst ∧ t.fwu = s.fwu ∧ t.pending = s.pending) ∧
  (∀ (q : BitVec 16) (p : List Byte) (ok : Bool) (s : Machine.State), s.loaderUp = true → s.fwu.job = none →
    s.pieceResult p ≠ 0 →
    ∃ t, Machine.exec (.loaderPiece q p ok) s = .next t
      ∧ (∃ hd : List Byte, hd.length = 12 ∧ t.wire.find? 128 = some (macFrame (hd ++ [0x88#8, 0xB6#8, 1#8, 0x82#8]
          ++ leBytes 2 q.toNat ++ leBytes 2 1 ++ [0#8, 0#8] ++ [BitVec.ofNat 8 (s.pieceResult p)])))
      ∧ t.mem = s.mem ∧ t.rst = s.rst ∧ t.fwu = s.fwu ∧ t.pending = s.pending) ∧
  (∀ (q : BitVec 16) (p : List Byte) (k : Nat) (s : Machine.State), s.loaderUp = true → s.fwu.job = none →
    s.pieceResult p = 0 → s.escrow = some k → k < 2 → s.mem.wf = true →
    ∃ t, Machine.exec (.loaderPiece q p true) s = .next t
      ∧ (∃ hd : List Byte, hd.length = 12 ∧ t.wire.find? 128 = some (macFrame (hd ++ [0x88#8, 0xB6#8, 1#8, 0x82#8]
          ++ leBytes 2 q.toNat ++ leBytes 2 1 ++ [0#8, 0#8] ++ [0#8])))
      ∧ t.flash (Machine.slotBase k + Machine.leAt p 12 4 * 4096) (Machine.leAt p 20 4) = (p.drop 32).take (Machine.leAt p 20 4)
      ∧ t.received k (Machine.leAt p 12 4) = true ∧ t.pending = s.pending) ∧
  (∀ (q : BitVec 16) (s : Machine.State), s.loaderUp = true → s.fwu.job = none → s.eraseResult = 0 → s.mem.wf = true →
    ∃ t, Machine.exec (.loaderEraseEscrow q true) s = .next t
      ∧ (∃ hd : List Byte, hd.length = 12 ∧ t.wire.find? 128 = some (macFrame (hd ++ [0x88#8, 0xB6#8, 1#8, 0x83#8]
          ++ leBytes 2 q.toNat ++ leBytes 2 1 ++ [0#8, 0#8] ++ [0#8])))
      ∧ (∀ a, Machine.slotBase (s.escrow.getD 0) ≤ a → a < Machine.slotBase (s.escrow.getD 0) + 0x3001000 → t.mem.read a = 0)
      ∧ t.regs = s.regs ∧ t.pending = s.pending) ∧
  (∀ (q : BitVec 16) (r : Nat) (s : Machine.State), s.loaderUp = true → s.fwu.job = none → s.verifyResult = 0 →
    r = s.imageResult (s.escrow.getD 0) →
    ∃ t, Machine.exec (.loaderVerify q) s = .next t
      ∧ (∃ hd : List Byte, hd.length = 12 ∧ t.wire.find? 128 = some (macFrame (hd ++ [0x88#8, 0xB6#8, 1#8, 0x84#8]
          ++ leBytes 2 q.toNat ++ leBytes 2 1 ++ [0#8, 0#8] ++ [BitVec.ofNat 8 r])))
      ∧ (r ≠ 0 → t.isSet Src.FWU_VERIFY_FAIL = true) ∧ t.pending = s.pending) ∧
  (∀ (q : BitVec 16) (k : BitVec 8) (s : Machine.State), s.loaderUp = true → s.fwu.job = none →
    2 ≤ k.toNat ∨ (s.slotState k.toNat ≠ 6 ∧ s.slotState k.toNat ≠ 7 ∧ s.slotState k.toNat ≠ 3) →
    ∃ t, Machine.exec (.loaderStart q k) s = .next t
      ∧ (∃ hd : List Byte, hd.length = 12 ∧ t.wire.find? 128 = some (macFrame (hd ++ [0x88#8, 0xB6#8, 1#8, 0x85#8]
          ++ leBytes 2 q.toNat ++ leBytes 2 1 ++ [0#8, 0#8] ++ [3#8])))
      ∧ t.mem = s.mem ∧ t.rst = s.rst ∧ t.pending = s.pending) ∧
  (∀ (q : BitVec 16) (k : BitVec 8) (s : Machine.State), s.loaderUp = true → s.fwu.job = none → k.toNat < 2 →
    s.slotState k.toNat = 6 ∨ s.slotState k.toNat = 7 ∨ s.slotState k.toNat = 3 →
    ∃ t, Machine.exec (.loaderStart q k) s = .next t
      ∧ (∃ hd : List Byte, hd.length = 12 ∧ t.wire.find? 128 = some (macFrame (hd ++ [0x88#8, 0xB6#8, 1#8, 0x85#8]
          ++ leBytes 2 q.toNat ++ leBytes 2 1 ++ [0#8, 0#8] ++ [0#8])))
      ∧ t.flag F.RST_STAT_DARKROOM 0 = false ∧ t.rst.level = 3 ∧ t.reg .RST_CAUSE 0 = s.reg .RST_CAUSE 0 ||| 1#32 <<< 7
      ∧ t.fld F.RST_STAT_FAILED 0 = s.fld F.RST_STAT_FAILED 0 ∧ t.pending = s.pending)
end

