-- ==== Sys2Proof/Laws/Maps.lean ====
section
/-!
SUPPORT. Finite maps and byte memory: a read after a write, other places unchanged, and the canonical form that every memory
operation keeps.
-/

namespace Sys2Proof

/-! ### Finite maps -/

theorem alookup_ainsert_same {α : Type} (l : List (Nat × α)) (k : Nat) (v : α) : alookup (ainsert l k v) k = some v := by
  induction l with
  | nil => simp [ainsert, alookup]
  | cons e t ih =>
    obtain ⟨k', v'⟩ := e
    simp only [ainsert]
    split
    · simp [alookup]
    · split
      · simp [alookup]
      · simp [alookup, *]

theorem alookup_ainsert_ne {α : Type} (l : List (Nat × α)) {j k : Nat} (v : α) (h : j ≠ k) :
    alookup (ainsert l k v) j = alookup l j := by
  induction l with
  | nil => simp [ainsert, alookup, h]
  | cons e t ih =>
    obtain ⟨k', v'⟩ := e
    simp only [ainsert]
    split
    · subst_vars; simp [alookup, h]
    · split
      · simp [alookup, h]
      · simp [alookup, ih]

@[simp] theorem AMap.find?_set_same {α : Type} (m : AMap α) (k : Nat) (v : α) : (m.set k v).find? k = some v :=
  alookup_ainsert_same _ _ _

theorem AMap.find?_set_ne {α : Type} (m : AMap α) {j k : Nat} (v : α) (h : j ≠ k) : (m.set k v).find? j = m.find? j :=
  alookup_ainsert_ne _ _ h

@[simp] theorem AMap.get_set_same {α : Type} (m : AMap α) (d : α) (k : Nat) (v : α) : (m.set k v).get d k = v := by
  simp [AMap.get]

theorem AMap.get_set_ne {α : Type} (m : AMap α) (d : α) {j k : Nat} (v : α) (h : j ≠ k) : (m.set k v).get d j = m.get d j := by
  simp [AMap.get, AMap.find?_set_ne m v h]

@[simp] theorem AMap.get_empty {α : Type} (d : α) (k : Nat) : (AMap.empty : AMap α).get d k = d := rfl

@[simp] theorem AMap.find?_empty {α : Type} (k : Nat) : (AMap.empty : AMap α).find? k = none := rfl

theorem alookup_filter_ne {α : Type} (l : List (Nat × α)) {j k : Nat} (h : j ≠ k) :
    alookup (l.filter (fun e => e.1 != k)) j = alookup l j := by
  induction l with
  | nil => rfl
  | cons e t ih =>
    obtain ⟨k', v'⟩ := e
    by_cases hk : k' = k
    · subst hk; simp [alookup, h, ih]
    · simp [alookup, hk, ih]

theorem alookup_filter_same {α : Type} (l : List (Nat × α)) (k : Nat) : alookup (l.filter (fun e => e.1 != k)) k = none := by
  induction l with
  | nil => rfl
  | cons e t ih =>
    obtain ⟨k', v'⟩ := e
    by_cases hk : k' = k
    · subst hk; simp [ih]
    · simp [alookup, hk, Ne.symm hk, ih]

@[simp] theorem AMap.find?_erase_same {α : Type} (m : AMap α) (k : Nat) : (m.erase k).find? k = none :=
  alookup_filter_same _ _

theorem AMap.find?_erase_ne {α : Type} (m : AMap α) {j k : Nat} (h : j ≠ k) : (m.erase k).find? j = m.find? j :=
  alookup_filter_ne _ h

/-! ### Memory -/

theorem cellsWf_mono {l : List Host.Cell} {a b : Nat} (h : cellsWf a l = true) (hb : b ≤ a) : cellsWf b l = true := by
  cases l with
  | nil => rfl
  | cons c t =>
    obtain ⟨x, y⟩ := c
    simp only [cellsWf, Bool.and_eq_true, decide_eq_true_eq] at h ⊢
    exact ⟨⟨Nat.le_trans hb h.1.1, h.1.2⟩, h.2⟩

theorem cellRead_below {l : List Host.Cell} {a lo : Nat} (h : cellsWf lo l = true) (ha : a < lo) : cellRead l a = Memory.blank := by
  cases l with
  | nil => rfl
  | cons c t =>
    obtain ⟨x, y⟩ := c
    simp only [cellsWf, Bool.and_eq_true, decide_eq_true_eq] at h
    simp [cellRead, Nat.lt_of_lt_of_le ha h.1.1]

theorem cellsWf_write {l : List Host.Cell} {lo a : Nat} (b : Byte) (h : cellsWf lo l = true) (ha : lo ≤ a) :
    cellsWf lo (cellWrite l a b) = true := by
  induction l generalizing lo with
  | nil => by_cases hb : b = Memory.blank <;> simp [cellWrite, cellsWf, hb, ha]
  | cons c t ih =>
    obtain ⟨x, y⟩ := c
    simp only [cellsWf, Bool.and_eq_true, decide_eq_true_eq] at h
    obtain ⟨⟨h1, h2⟩, h3⟩ := h
    simp only [cellWrite]
    split
    · split
      · simp [cellsWf, h1, h2, h3]
      · simp_all [cellsWf]
    · split
      · subst_vars
        split
        · exact cellsWf_mono h3 (by omega)
        · simp_all [cellsWf]
      · have := ih h3 (by omega)
        simp_all [cellsWf]

theorem cellRead_write_same {l : List Host.Cell} {lo a : Nat} (b : Byte) (h : cellsWf lo l = true) :
    cellRead (cellWrite l a b) a = b := by
  induction l generalizing lo with
  | nil => by_cases hb : b = Memory.blank <;> simp [cellWrite, cellRead, hb]
  | cons c t ih =>
    obtain ⟨x, y⟩ := c
    simp only [cellsWf, Bool.and_eq_true, decide_eq_true_eq] at h
    obtain ⟨⟨h1, h2⟩, h3⟩ := h
    simp only [cellWrite]
    split
    · split <;> simp_all [cellRead]
    · split
      · subst_vars
        split
        · subst_vars; exact cellRead_below h3 (by omega)
        · simp [cellRead]
      · simp [cellRead, *, ih h3]

theorem cellRead_write_ne {l : List Host.Cell} {lo a c : Nat} (b : Byte) (h : cellsWf lo l = true) (hc : c ≠ a) :
    cellRead (cellWrite l a b) c = cellRead l c := by
  induction l generalizing lo with
  | nil => by_cases hb : b = Memory.blank <;> simp [cellWrite, cellRead, hb, hc]
  | cons e t ih =>
    obtain ⟨x, y⟩ := e
    simp only [cellsWf, Bool.and_eq_true, decide_eq_true_eq] at h
    obtain ⟨⟨h1, h2⟩, h3⟩ := h
    simp only [cellWrite]
    split
    · split
      · rfl
      · by_cases hca : c < a
        · simp [cellRead, hca, Nat.lt_trans hca ‹a < x›]
        · simp [cellRead, hca, hc]
    · split
      · subst_vars
        split
        · simp only [cellRead]
          split
          · exact cellRead_below h3 (by omega)
          · simp
        · simp [cellRead, hc]
      · simp only [cellRead, ih h3]

/-- A write keeps the canonical form. -/
theorem Memory.wf_write {m : Memory} (a : Nat) (b : Byte) (h : m.wf = true) : (m.write a b).wf = true :=
  cellsWf_write b h (Nat.zero_le a)

/-- A byte string written keeps the canonical form. -/
theorem Memory.wf_writeBytes {m : Memory} (a : Nat) (bs : List Byte) (h : m.wf = true) : (m.writeBytes a bs).wf = true := by
  induction bs generalizing m a with
  | nil => exact h
  | cons b t ih => exact ih (a + 1) (wf_write a b h)

theorem cellsWf_filter {l : List Host.Cell} {lo : Nat} (p : Host.Cell → Bool) (h : cellsWf lo l = true) :
    cellsWf lo (l.filter p) = true := by
  induction l generalizing lo with
  | nil => rfl
  | cons c t ih =>
    obtain ⟨x, y⟩ := c
    simp only [cellsWf, Bool.and_eq_true, decide_eq_true_eq] at h
    obtain ⟨⟨h1, h2⟩, h3⟩ := h
    simp only [List.filter]
    split
    · simp [cellsWf, h1, h2, ih h3]
    · exact cellsWf_mono (ih h3) (by omega)

/-- Memory with only the cells that satisfy a test keeps the canonical form. -/
@[simp] theorem Memory.wf_filter {m : Memory} (p : Host.Cell → Bool) (h : m.wf = true) : Memory.wf ⟨m.cells.filter p⟩ = true :=
  cellsWf_filter p h

/-- Memory that nothing has written has the canonical form. -/
@[simp] theorem Memory.wf_empty : Memory.empty.wf = true := rfl

/-- A read after a write to the same place gives the byte written. -/
theorem Memory.read_write_same {m : Memory} (a : Nat) (b : Byte) (h : m.wf = true) : (m.write a b).read a = b :=
  cellRead_write_same b h

/-- A write leaves every other place alone. -/
theorem Memory.read_write_ne {m : Memory} {a c : Nat} (b : Byte) (h : m.wf = true) (hc : c ≠ a) :
    (m.write a b).read c = m.read c := cellRead_write_ne b h hc

/-- A byte string written leaves every place outside it alone. -/
theorem Memory.read_writeBytes_outside {m : Memory} {a c : Nat} (bs : List Byte) (h : m.wf = true)
    (hc : c < a ∨ a + bs.length ≤ c) : (m.writeBytes a bs).read c = m.read c := by
  induction bs generalizing m a with
  | nil => rfl
  | cons b t ih =>
    simp only [List.length_cons] at hc
    rw [writeBytes, ih (wf_write a b h) (by omega), read_write_ne b h (by omega)]

/-- A byte string written is what a read then gives. -/
theorem Memory.readBytes_writeBytes {m : Memory} (a : Nat) (bs : List Byte) (h : m.wf = true) :
    (m.writeBytes a bs).readBytes a bs.length = bs := by
  induction bs generalizing m a with
  | nil => rfl
  | cons b t ih =>
    simp only [List.length_cons, readBytes, writeBytes]
    rw [ih (a + 1) (wf_write a b h), read_writeBytes_outside t (wf_write a b h) (by omega), read_write_same a b h]

end Sys2Proof
end

