-- ==== Sys2Proof/Laws/State.lean ====
section
/-!
SUPPORT. What each basic update of the state leaves as it was, field by field: no later proof unfolds a record update.
-/

namespace Sys2Proof.Machine

variable (s : State)

/-! ### setReg -/

@[simp] theorem setReg_pending (r : RegName) (i : Nat) (v : Word) : (s.setReg r i v).pending = s.pending := (rfl)
@[simp] theorem setReg_eff (r : RegName) (i : Nat) (v : Word) : (s.setReg r i v).eff = s.eff := (rfl)
@[simp] theorem setReg_latch (r : RegName) (i : Nat) (v : Word) : (s.setReg r i v).latch = s.latch := (rfl)
@[simp] theorem setReg_flt (r : RegName) (i : Nat) (v : Word) : (s.setReg r i v).flt = s.flt := (rfl)
@[simp] theorem setReg_free (r : RegName) (i : Nat) (v : Word) : (s.setReg r i v).free = s.free := (rfl)
@[simp] theorem setReg_now (r : RegName) (i : Nat) (v : Word) : (s.setReg r i v).now = s.now := (rfl)
@[simp] theorem setReg_mem (r : RegName) (i : Nat) (v : Word) : (s.setReg r i v).mem = s.mem := (rfl)
@[simp] theorem setReg_alertLow (r : RegName) (i : Nat) (v : Word) : (s.setReg r i v).alertLow = s.alertLow := (rfl)
@[simp] theorem setReg_resp (r : RegName) (i : Nat) (v : Word) : (s.setReg r i v).resp = s.resp := (rfl)
@[simp] theorem setReg_ref (r : RegName) (i : Nat) (v : Word) : (s.setReg r i v).ref = s.ref := (rfl)
@[simp] theorem setReg_td (r : RegName) (i : Nat) (v : Word) : (s.setReg r i v).td = s.td := (rfl)
@[simp] theorem setReg_refOut (r : RegName) (i : Nat) (v : Word) : (s.setReg r i v).refOut = s.refOut := (rfl)
@[simp] theorem setReg_ptp (r : RegName) (i : Nat) (v : Word) : (s.setReg r i v).ptp = s.ptp := (rfl)
@[simp] theorem setReg_wire (r : RegName) (i : Nat) (v : Word) : (s.setReg r i v).wire = s.wire := (rfl)
@[simp] theorem setReg_quad (r : RegName) (i : Nat) (v : Word) : (s.setReg r i v).quad = s.quad := (rfl)
@[simp] theorem setReg_ul (r : RegName) (i : Nat) (v : Word) : (s.setReg r i v).ul = s.ul := (rfl)
@[simp] theorem setReg_ulRx (r : RegName) (i : Nat) (v : Word) : (s.setReg r i v).ulRx = s.ulRx := (rfl)
@[simp] theorem setReg_laneRx (r : RegName) (i : Nat) (v : Word) : (s.setReg r i v).laneRx = s.laneRx := (rfl)
@[simp] theorem setReg_sdi (r : RegName) (i : Nat) (v : Word) : (s.setReg r i v).sdi = s.sdi := (rfl)
@[simp] theorem setReg_mport (r : RegName) (i : Nat) (v : Word) : (s.setReg r i v).mport = s.mport := (rfl)
@[simp] theorem setReg_flow (r : RegName) (i : Nat) (v : Word) : (s.setReg r i v).flow = s.flow := (rfl)
@[simp] theorem setReg_xpt (r : RegName) (i : Nat) (v : Word) : (s.setReg r i v).xpt = s.xpt := (rfl)
@[simp] theorem setReg_owner (r : RegName) (i : Nat) (v : Word) : (s.setReg r i v).owner = s.owner := (rfl)
@[simp] theorem setReg_cue (r : RegName) (i : Nat) (v : Word) : (s.setReg r i v).cue = s.cue := (rfl)
@[simp] theorem setReg_ttb (r : RegName) (i : Nat) (v : Word) : (s.setReg r i v).ttb = s.ttb := (rfl)
@[simp] theorem setReg_vault (r : RegName) (i : Nat) (v : Word) : (s.setReg r i v).vault = s.vault := (rfl)
@[simp] theorem setReg_aud (r : RegName) (i : Nat) (v : Word) : (s.setReg r i v).aud = s.aud := (rfl)
@[simp] theorem setReg_wcomp (r : RegName) (i : Nat) (v : Word) : (s.setReg r i v).wcomp = s.wcomp := (rfl)
@[simp] theorem setReg_wscan (r : RegName) (i : Nat) (v : Word) : (s.setReg r i v).wscan = s.wscan := (rfl)
@[simp] theorem setReg_bus (r : RegName) (i : Nat) (v : Word) : (s.setReg r i v).bus = s.bus := (rfl)
@[simp] theorem setReg_mgmt (r : RegName) (i : Nat) (v : Word) : (s.setReg r i v).mgmt = s.mgmt := (rfl)
@[simp] theorem setReg_snap (r : RegName) (i : Nat) (v : Word) : (s.setReg r i v).snap = s.snap := (rfl)
@[simp] theorem setReg_otp (r : RegName) (i : Nat) (v : Word) : (s.setReg r i v).otp = s.otp := (rfl)
@[simp] theorem setReg_idm (r : RegName) (i : Nat) (v : Word) : (s.setReg r i v).idm = s.idm := (rfl)
@[simp] theorem setReg_clk (r : RegName) (i : Nat) (v : Word) : (s.setReg r i v).clk = s.clk := (rfl)
@[simp] theorem setReg_rst (r : RegName) (i : Nat) (v : Word) : (s.setReg r i v).rst = s.rst := (rfl)
@[simp] theorem setReg_hbm (r : RegName) (i : Nat) (v : Word) : (s.setReg r i v).hbm = s.hbm := (rfl)
@[simp] theorem setReg_fwu (r : RegName) (i : Nat) (v : Word) : (s.setReg r i v).fwu = s.fwu := (rfl)
@[simp] theorem setReg_esc (r : RegName) (i : Nat) (v : Word) : (s.setReg r i v).esc = s.esc := (rfl)

/-! ### setFld -/

@[simp] theorem setFld_pending (f : Fld) (i v : Nat) : (s.setFld f i v).pending = s.pending := (rfl)
@[simp] theorem setFld_eff (f : Fld) (i v : Nat) : (s.setFld f i v).eff = s.eff := (rfl)
@[simp] theorem setFld_latch (f : Fld) (i v : Nat) : (s.setFld f i v).latch = s.latch := (rfl)
@[simp] theorem setFld_flt (f : Fld) (i v : Nat) : (s.setFld f i v).flt = s.flt := (rfl)
@[simp] theorem setFld_free (f : Fld) (i v : Nat) : (s.setFld f i v).free = s.free := (rfl)
@[simp] theorem setFld_now (f : Fld) (i v : Nat) : (s.setFld f i v).now = s.now := (rfl)
@[simp] theorem setFld_mem (f : Fld) (i v : Nat) : (s.setFld f i v).mem = s.mem := (rfl)
@[simp] theorem setFld_alertLow (f : Fld) (i v : Nat) : (s.setFld f i v).alertLow = s.alertLow := (rfl)
@[simp] theorem setFld_resp (f : Fld) (i v : Nat) : (s.setFld f i v).resp = s.resp := (rfl)
@[simp] theorem setFld_ref (f : Fld) (i v : Nat) : (s.setFld f i v).ref = s.ref := (rfl)
@[simp] theorem setFld_td (f : Fld) (i v : Nat) : (s.setFld f i v).td = s.td := (rfl)
@[simp] theorem setFld_refOut (f : Fld) (i v : Nat) : (s.setFld f i v).refOut = s.refOut := (rfl)
@[simp] theorem setFld_ptp (f : Fld) (i v : Nat) : (s.setFld f i v).ptp = s.ptp := (rfl)
@[simp] theorem setFld_wire (f : Fld) (i v : Nat) : (s.setFld f i v).wire = s.wire := (rfl)
@[simp] theorem setFld_quad (f : Fld) (i v : Nat) : (s.setFld f i v).quad = s.quad := (rfl)
@[simp] theorem setFld_ul (f : Fld) (i v : Nat) : (s.setFld f i v).ul = s.ul := (rfl)
@[simp] theorem setFld_ulRx (f : Fld) (i v : Nat) : (s.setFld f i v).ulRx = s.ulRx := (rfl)
@[simp] theorem setFld_laneRx (f : Fld) (i v : Nat) : (s.setFld f i v).laneRx = s.laneRx := (rfl)
@[simp] theorem setFld_sdi (f : Fld) (i v : Nat) : (s.setFld f i v).sdi = s.sdi := (rfl)
@[simp] theorem setFld_mport (f : Fld) (i v : Nat) : (s.setFld f i v).mport = s.mport := (rfl)
@[simp] theorem setFld_flow (f : Fld) (i v : Nat) : (s.setFld f i v).flow = s.flow := (rfl)
@[simp] theorem setFld_xpt (f : Fld) (i v : Nat) : (s.setFld f i v).xpt = s.xpt := (rfl)
@[simp] theorem setFld_owner (f : Fld) (i v : Nat) : (s.setFld f i v).owner = s.owner := (rfl)
@[simp] theorem setFld_cue (f : Fld) (i v : Nat) : (s.setFld f i v).cue = s.cue := (rfl)
@[simp] theorem setFld_ttb (f : Fld) (i v : Nat) : (s.setFld f i v).ttb = s.ttb := (rfl)
@[simp] theorem setFld_vault (f : Fld) (i v : Nat) : (s.setFld f i v).vault = s.vault := (rfl)
@[simp] theorem setFld_aud (f : Fld) (i v : Nat) : (s.setFld f i v).aud = s.aud := (rfl)
@[simp] theorem setFld_wcomp (f : Fld) (i v : Nat) : (s.setFld f i v).wcomp = s.wcomp := (rfl)
@[simp] theorem setFld_wscan (f : Fld) (i v : Nat) : (s.setFld f i v).wscan = s.wscan := (rfl)
@[simp] theorem setFld_bus (f : Fld) (i v : Nat) : (s.setFld f i v).bus = s.bus := (rfl)
@[simp] theorem setFld_mgmt (f : Fld) (i v : Nat) : (s.setFld f i v).mgmt = s.mgmt := (rfl)
@[simp] theorem setFld_snap (f : Fld) (i v : Nat) : (s.setFld f i v).snap = s.snap := (rfl)
@[simp] theorem setFld_otp (f : Fld) (i v : Nat) : (s.setFld f i v).otp = s.otp := (rfl)
@[simp] theorem setFld_idm (f : Fld) (i v : Nat) : (s.setFld f i v).idm = s.idm := (rfl)
@[simp] theorem setFld_clk (f : Fld) (i v : Nat) : (s.setFld f i v).clk = s.clk := (rfl)
@[simp] theorem setFld_rst (f : Fld) (i v : Nat) : (s.setFld f i v).rst = s.rst := (rfl)
@[simp] theorem setFld_hbm (f : Fld) (i v : Nat) : (s.setFld f i v).hbm = s.hbm := (rfl)
@[simp] theorem setFld_fwu (f : Fld) (i v : Nat) : (s.setFld f i v).fwu = s.fwu := (rfl)
@[simp] theorem setFld_esc (f : Fld) (i v : Nat) : (s.setFld f i v).esc = s.esc := (rfl)

/-! ### setFlag -/

@[simp] theorem setFlag_pending (f : Fld) (i : Nat) (b : Bool) : (s.setFlag f i b).pending = s.pending := (rfl)
@[simp] theorem setFlag_eff (f : Fld) (i : Nat) (b : Bool) : (s.setFlag f i b).eff = s.eff := (rfl)
@[simp] theorem setFlag_latch (f : Fld) (i : Nat) (b : Bool) : (s.setFlag f i b).latch = s.latch := (rfl)
@[simp] theorem setFlag_flt (f : Fld) (i : Nat) (b : Bool) : (s.setFlag f i b).flt = s.flt := (rfl)
@[simp] theorem setFlag_free (f : Fld) (i : Nat) (b : Bool) : (s.setFlag f i b).free = s.free := (rfl)
@[simp] theorem setFlag_now (f : Fld) (i : Nat) (b : Bool) : (s.setFlag f i b).now = s.now := (rfl)
@[simp] theorem setFlag_mem (f : Fld) (i : Nat) (b : Bool) : (s.setFlag f i b).mem = s.mem := (rfl)
@[simp] theorem setFlag_alertLow (f : Fld) (i : Nat) (b : Bool) : (s.setFlag f i b).alertLow = s.alertLow := (rfl)
@[simp] theorem setFlag_resp (f : Fld) (i : Nat) (b : Bool) : (s.setFlag f i b).resp = s.resp := (rfl)
@[simp] theorem setFlag_ref (f : Fld) (i : Nat) (b : Bool) : (s.setFlag f i b).ref = s.ref := (rfl)
@[simp] theorem setFlag_td (f : Fld) (i : Nat) (b : Bool) : (s.setFlag f i b).td = s.td := (rfl)
@[simp] theorem setFlag_refOut (f : Fld) (i : Nat) (b : Bool) : (s.setFlag f i b).refOut = s.refOut := (rfl)
@[simp] theorem setFlag_ptp (f : Fld) (i : Nat) (b : Bool) : (s.setFlag f i b).ptp = s.ptp := (rfl)
@[simp] theorem setFlag_wire (f : Fld) (i : Nat) (b : Bool) : (s.setFlag f i b).wire = s.wire := (rfl)
@[simp] theorem setFlag_quad (f : Fld) (i : Nat) (b : Bool) : (s.setFlag f i b).quad = s.quad := (rfl)
@[simp] theorem setFlag_ul (f : Fld) (i : Nat) (b : Bool) : (s.setFlag f i b).ul = s.ul := (rfl)
@[simp] theorem setFlag_ulRx (f : Fld) (i : Nat) (b : Bool) : (s.setFlag f i b).ulRx = s.ulRx := (rfl)
@[simp] theorem setFlag_laneRx (f : Fld) (i : Nat) (b : Bool) : (s.setFlag f i b).laneRx = s.laneRx := (rfl)
@[simp] theorem setFlag_sdi (f : Fld) (i : Nat) (b : Bool) : (s.setFlag f i b).sdi = s.sdi := (rfl)
@[simp] theorem setFlag_mport (f : Fld) (i : Nat) (b : Bool) : (s.setFlag f i b).mport = s.mport := (rfl)
@[simp] theorem setFlag_flow (f : Fld) (i : Nat) (b : Bool) : (s.setFlag f i b).flow = s.flow := (rfl)
@[simp] theorem setFlag_xpt (f : Fld) (i : Nat) (b : Bool) : (s.setFlag f i b).xpt = s.xpt := (rfl)
@[simp] theorem setFlag_owner (f : Fld) (i : Nat) (b : Bool) : (s.setFlag f i b).owner = s.owner := (rfl)
@[simp] theorem setFlag_cue (f : Fld) (i : Nat) (b : Bool) : (s.setFlag f i b).cue = s.cue := (rfl)
@[simp] theorem setFlag_ttb (f : Fld) (i : Nat) (b : Bool) : (s.setFlag f i b).ttb = s.ttb := (rfl)
@[simp] theorem setFlag_vault (f : Fld) (i : Nat) (b : Bool) : (s.setFlag f i b).vault = s.vault := (rfl)
@[simp] theorem setFlag_aud (f : Fld) (i : Nat) (b : Bool) : (s.setFlag f i b).aud = s.aud := (rfl)
@[simp] theorem setFlag_wcomp (f : Fld) (i : Nat) (b : Bool) : (s.setFlag f i b).wcomp = s.wcomp := (rfl)
@[simp] theorem setFlag_wscan (f : Fld) (i : Nat) (b : Bool) : (s.setFlag f i b).wscan = s.wscan := (rfl)
@[simp] theorem setFlag_bus (f : Fld) (i : Nat) (b : Bool) : (s.setFlag f i b).bus = s.bus := (rfl)
@[simp] theorem setFlag_mgmt (f : Fld) (i : Nat) (b : Bool) : (s.setFlag f i b).mgmt = s.mgmt := (rfl)
@[simp] theorem setFlag_snap (f : Fld) (i : Nat) (b : Bool) : (s.setFlag f i b).snap = s.snap := (rfl)
@[simp] theorem setFlag_otp (f : Fld) (i : Nat) (b : Bool) : (s.setFlag f i b).otp = s.otp := (rfl)
@[simp] theorem setFlag_idm (f : Fld) (i : Nat) (b : Bool) : (s.setFlag f i b).idm = s.idm := (rfl)
@[simp] theorem setFlag_clk (f : Fld) (i : Nat) (b : Bool) : (s.setFlag f i b).clk = s.clk := (rfl)
@[simp] theorem setFlag_rst (f : Fld) (i : Nat) (b : Bool) : (s.setFlag f i b).rst = s.rst := (rfl)
@[simp] theorem setFlag_hbm (f : Fld) (i : Nat) (b : Bool) : (s.setFlag f i b).hbm = s.hbm := (rfl)
@[simp] theorem setFlag_fwu (f : Fld) (i : Nat) (b : Bool) : (s.setFlag f i b).fwu = s.fwu := (rfl)
@[simp] theorem setFlag_esc (f : Fld) (i : Nat) (b : Bool) : (s.setFlag f i b).esc = s.esc := (rfl)

/-! ### bumpN -/

@[simp] theorem bumpN_pending (r : RegName) (i n : Nat) : (s.bumpN r i n).pending = s.pending := (rfl)
@[simp] theorem bumpN_eff (r : RegName) (i n : Nat) : (s.bumpN r i n).eff = s.eff := (rfl)
@[simp] theorem bumpN_latch (r : RegName) (i n : Nat) : (s.bumpN r i n).latch = s.latch := (rfl)
@[simp] theorem bumpN_flt (r : RegName) (i n : Nat) : (s.bumpN r i n).flt = s.flt := (rfl)
@[simp] theorem bumpN_free (r : RegName) (i n : Nat) : (s.bumpN r i n).free = s.free := (rfl)
@[simp] theorem bumpN_now (r : RegName) (i n : Nat) : (s.bumpN r i n).now = s.now := (rfl)
@[simp] theorem bumpN_mem (r : RegName) (i n : Nat) : (s.bumpN r i n).mem = s.mem := (rfl)
@[simp] theorem bumpN_alertLow (r : RegName) (i n : Nat) : (s.bumpN r i n).alertLow = s.alertLow := (rfl)
@[simp] theorem bumpN_resp (r : RegName) (i n : Nat) : (s.bumpN r i n).resp = s.resp := (rfl)
@[simp] theorem bumpN_ref (r : RegName) (i n : Nat) : (s.bumpN r i n).ref = s.ref := (rfl)
@[simp] theorem bumpN_td (r : RegName) (i n : Nat) : (s.bumpN r i n).td = s.td := (rfl)
@[simp] theorem bumpN_refOut (r : RegName) (i n : Nat) : (s.bumpN r i n).refOut = s.refOut := (rfl)
@[simp] theorem bumpN_ptp (r : RegName) (i n : Nat) : (s.bumpN r i n).ptp = s.ptp := (rfl)
@[simp] theorem bumpN_wire (r : RegName) (i n : Nat) : (s.bumpN r i n).wire = s.wire := (rfl)
@[simp] theorem bumpN_quad (r : RegName) (i n : Nat) : (s.bumpN r i n).quad = s.quad := (rfl)
@[simp] theorem bumpN_ul (r : RegName) (i n : Nat) : (s.bumpN r i n).ul = s.ul := (rfl)
@[simp] theorem bumpN_ulRx (r : RegName) (i n : Nat) : (s.bumpN r i n).ulRx = s.ulRx := (rfl)
@[simp] theorem bumpN_laneRx (r : RegName) (i n : Nat) : (s.bumpN r i n).laneRx = s.laneRx := (rfl)
@[simp] theorem bumpN_sdi (r : RegName) (i n : Nat) : (s.bumpN r i n).sdi = s.sdi := (rfl)
@[simp] theorem bumpN_mport (r : RegName) (i n : Nat) : (s.bumpN r i n).mport = s.mport := (rfl)
@[simp] theorem bumpN_flow (r : RegName) (i n : Nat) : (s.bumpN r i n).flow = s.flow := (rfl)
@[simp] theorem bumpN_xpt (r : RegName) (i n : Nat) : (s.bumpN r i n).xpt = s.xpt := (rfl)
@[simp] theorem bumpN_owner (r : RegName) (i n : Nat) : (s.bumpN r i n).owner = s.owner := (rfl)
@[simp] theorem bumpN_cue (r : RegName) (i n : Nat) : (s.bumpN r i n).cue = s.cue := (rfl)
@[simp] theorem bumpN_ttb (r : RegName) (i n : Nat) : (s.bumpN r i n).ttb = s.ttb := (rfl)
@[simp] theorem bumpN_vault (r : RegName) (i n : Nat) : (s.bumpN r i n).vault = s.vault := (rfl)
@[simp] theorem bumpN_aud (r : RegName) (i n : Nat) : (s.bumpN r i n).aud = s.aud := (rfl)
@[simp] theorem bumpN_wcomp (r : RegName) (i n : Nat) : (s.bumpN r i n).wcomp = s.wcomp := (rfl)
@[simp] theorem bumpN_wscan (r : RegName) (i n : Nat) : (s.bumpN r i n).wscan = s.wscan := (rfl)
@[simp] theorem bumpN_bus (r : RegName) (i n : Nat) : (s.bumpN r i n).bus = s.bus := (rfl)
@[simp] theorem bumpN_mgmt (r : RegName) (i n : Nat) : (s.bumpN r i n).mgmt = s.mgmt := (rfl)
@[simp] theorem bumpN_snap (r : RegName) (i n : Nat) : (s.bumpN r i n).snap = s.snap := (rfl)
@[simp] theorem bumpN_otp (r : RegName) (i n : Nat) : (s.bumpN r i n).otp = s.otp := (rfl)
@[simp] theorem bumpN_idm (r : RegName) (i n : Nat) : (s.bumpN r i n).idm = s.idm := (rfl)
@[simp] theorem bumpN_clk (r : RegName) (i n : Nat) : (s.bumpN r i n).clk = s.clk := (rfl)
@[simp] theorem bumpN_rst (r : RegName) (i n : Nat) : (s.bumpN r i n).rst = s.rst := (rfl)
@[simp] theorem bumpN_hbm (r : RegName) (i n : Nat) : (s.bumpN r i n).hbm = s.hbm := (rfl)
@[simp] theorem bumpN_fwu (r : RegName) (i n : Nat) : (s.bumpN r i n).fwu = s.fwu := (rfl)
@[simp] theorem bumpN_esc (r : RegName) (i n : Nat) : (s.bumpN r i n).esc = s.esc := (rfl)

/-! ### bump -/

@[simp] theorem bump_pending (r : RegName) (i : Nat) : (s.bump r i).pending = s.pending := (rfl)
@[simp] theorem bump_eff (r : RegName) (i : Nat) : (s.bump r i).eff = s.eff := (rfl)
@[simp] theorem bump_latch (r : RegName) (i : Nat) : (s.bump r i).latch = s.latch := (rfl)
@[simp] theorem bump_flt (r : RegName) (i : Nat) : (s.bump r i).flt = s.flt := (rfl)
@[simp] theorem bump_free (r : RegName) (i : Nat) : (s.bump r i).free = s.free := (rfl)
@[simp] theorem bump_now (r : RegName) (i : Nat) : (s.bump r i).now = s.now := (rfl)
@[simp] theorem bump_mem (r : RegName) (i : Nat) : (s.bump r i).mem = s.mem := (rfl)
@[simp] theorem bump_alertLow (r : RegName) (i : Nat) : (s.bump r i).alertLow = s.alertLow := (rfl)
@[simp] theorem bump_resp (r : RegName) (i : Nat) : (s.bump r i).resp = s.resp := (rfl)
@[simp] theorem bump_ref (r : RegName) (i : Nat) : (s.bump r i).ref = s.ref := (rfl)
@[simp] theorem bump_td (r : RegName) (i : Nat) : (s.bump r i).td = s.td := (rfl)
@[simp] theorem bump_refOut (r : RegName) (i : Nat) : (s.bump r i).refOut = s.refOut := (rfl)
@[simp] theorem bump_ptp (r : RegName) (i : Nat) : (s.bump r i).ptp = s.ptp := (rfl)
@[simp] theorem bump_wire (r : RegName) (i : Nat) : (s.bump r i).wire = s.wire := (rfl)
@[simp] theorem bump_quad (r : RegName) (i : Nat) : (s.bump r i).quad = s.quad := (rfl)
@[simp] theorem bump_ul (r : RegName) (i : Nat) : (s.bump r i).ul = s.ul := (rfl)
@[simp] theorem bump_ulRx (r : RegName) (i : Nat) : (s.bump r i).ulRx = s.ulRx := (rfl)
@[simp] theorem bump_laneRx (r : RegName) (i : Nat) : (s.bump r i).laneRx = s.laneRx := (rfl)
@[simp] theorem bump_sdi (r : RegName) (i : Nat) : (s.bump r i).sdi = s.sdi := (rfl)
@[simp] theorem bump_mport (r : RegName) (i : Nat) : (s.bump r i).mport = s.mport := (rfl)
@[simp] theorem bump_flow (r : RegName) (i : Nat) : (s.bump r i).flow = s.flow := (rfl)
@[simp] theorem bump_xpt (r : RegName) (i : Nat) : (s.bump r i).xpt = s.xpt := (rfl)
@[simp] theorem bump_owner (r : RegName) (i : Nat) : (s.bump r i).owner = s.owner := (rfl)
@[simp] theorem bump_cue (r : RegName) (i : Nat) : (s.bump r i).cue = s.cue := (rfl)
@[simp] theorem bump_ttb (r : RegName) (i : Nat) : (s.bump r i).ttb = s.ttb := (rfl)
@[simp] theorem bump_vault (r : RegName) (i : Nat) : (s.bump r i).vault = s.vault := (rfl)
@[simp] theorem bump_aud (r : RegName) (i : Nat) : (s.bump r i).aud = s.aud := (rfl)
@[simp] theorem bump_wcomp (r : RegName) (i : Nat) : (s.bump r i).wcomp = s.wcomp := (rfl)
@[simp] theorem bump_wscan (r : RegName) (i : Nat) : (s.bump r i).wscan = s.wscan := (rfl)
@[simp] theorem bump_bus (r : RegName) (i : Nat) : (s.bump r i).bus = s.bus := (rfl)
@[simp] theorem bump_mgmt (r : RegName) (i : Nat) : (s.bump r i).mgmt = s.mgmt := (rfl)
@[simp] theorem bump_snap (r : RegName) (i : Nat) : (s.bump r i).snap = s.snap := (rfl)
@[simp] theorem bump_otp (r : RegName) (i : Nat) : (s.bump r i).otp = s.otp := (rfl)
@[simp] theorem bump_idm (r : RegName) (i : Nat) : (s.bump r i).idm = s.idm := (rfl)
@[simp] theorem bump_clk (r : RegName) (i : Nat) : (s.bump r i).clk = s.clk := (rfl)
@[simp] theorem bump_rst (r : RegName) (i : Nat) : (s.bump r i).rst = s.rst := (rfl)
@[simp] theorem bump_hbm (r : RegName) (i : Nat) : (s.bump r i).hbm = s.hbm := (rfl)
@[simp] theorem bump_fwu (r : RegName) (i : Nat) : (s.bump r i).fwu = s.fwu := (rfl)
@[simp] theorem bump_esc (r : RegName) (i : Nat) : (s.bump r i).esc = s.esc := (rfl)

/-! ### bump64 -/

@[simp] theorem bump64_pending (lo hi : RegName) (i : Nat) : (s.bump64 lo hi i).pending = s.pending := (rfl)
@[simp] theorem bump64_eff (lo hi : RegName) (i : Nat) : (s.bump64 lo hi i).eff = s.eff := (rfl)
@[simp] theorem bump64_latch (lo hi : RegName) (i : Nat) : (s.bump64 lo hi i).latch = s.latch := (rfl)
@[simp] theorem bump64_flt (lo hi : RegName) (i : Nat) : (s.bump64 lo hi i).flt = s.flt := (rfl)
@[simp] theorem bump64_free (lo hi : RegName) (i : Nat) : (s.bump64 lo hi i).free = s.free := (rfl)
@[simp] theorem bump64_now (lo hi : RegName) (i : Nat) : (s.bump64 lo hi i).now = s.now := (rfl)
@[simp] theorem bump64_mem (lo hi : RegName) (i : Nat) : (s.bump64 lo hi i).mem = s.mem := (rfl)
@[simp] theorem bump64_alertLow (lo hi : RegName) (i : Nat) : (s.bump64 lo hi i).alertLow = s.alertLow := (rfl)
@[simp] theorem bump64_resp (lo hi : RegName) (i : Nat) : (s.bump64 lo hi i).resp = s.resp := (rfl)
@[simp] theorem bump64_ref (lo hi : RegName) (i : Nat) : (s.bump64 lo hi i).ref = s.ref := (rfl)
@[simp] theorem bump64_td (lo hi : RegName) (i : Nat) : (s.bump64 lo hi i).td = s.td := (rfl)
@[simp] theorem bump64_refOut (lo hi : RegName) (i : Nat) : (s.bump64 lo hi i).refOut = s.refOut := (rfl)
@[simp] theorem bump64_ptp (lo hi : RegName) (i : Nat) : (s.bump64 lo hi i).ptp = s.ptp := (rfl)
@[simp] theorem bump64_wire (lo hi : RegName) (i : Nat) : (s.bump64 lo hi i).wire = s.wire := (rfl)
@[simp] theorem bump64_quad (lo hi : RegName) (i : Nat) : (s.bump64 lo hi i).quad = s.quad := (rfl)
@[simp] theorem bump64_ul (lo hi : RegName) (i : Nat) : (s.bump64 lo hi i).ul = s.ul := (rfl)
@[simp] theorem bump64_ulRx (lo hi : RegName) (i : Nat) : (s.bump64 lo hi i).ulRx = s.ulRx := (rfl)
@[simp] theorem bump64_laneRx (lo hi : RegName) (i : Nat) : (s.bump64 lo hi i).laneRx = s.laneRx := (rfl)
@[simp] theorem bump64_sdi (lo hi : RegName) (i : Nat) : (s.bump64 lo hi i).sdi = s.sdi := (rfl)
@[simp] theorem bump64_mport (lo hi : RegName) (i : Nat) : (s.bump64 lo hi i).mport = s.mport := (rfl)
@[simp] theorem bump64_flow (lo hi : RegName) (i : Nat) : (s.bump64 lo hi i).flow = s.flow := (rfl)
@[simp] theorem bump64_xpt (lo hi : RegName) (i : Nat) : (s.bump64 lo hi i).xpt = s.xpt := (rfl)
@[simp] theorem bump64_owner (lo hi : RegName) (i : Nat) : (s.bump64 lo hi i).owner = s.owner := (rfl)
@[simp] theorem bump64_cue (lo hi : RegName) (i : Nat) : (s.bump64 lo hi i).cue = s.cue := (rfl)
@[simp] theorem bump64_ttb (lo hi : RegName) (i : Nat) : (s.bump64 lo hi i).ttb = s.ttb := (rfl)
@[simp] theorem bump64_vault (lo hi : RegName) (i : Nat) : (s.bump64 lo hi i).vault = s.vault := (rfl)
@[simp] theorem bump64_aud (lo hi : RegName) (i : Nat) : (s.bump64 lo hi i).aud = s.aud := (rfl)
@[simp] theorem bump64_wcomp (lo hi : RegName) (i : Nat) : (s.bump64 lo hi i).wcomp = s.wcomp := (rfl)
@[simp] theorem bump64_wscan (lo hi : RegName) (i : Nat) : (s.bump64 lo hi i).wscan = s.wscan := (rfl)
@[simp] theorem bump64_bus (lo hi : RegName) (i : Nat) : (s.bump64 lo hi i).bus = s.bus := (rfl)
@[simp] theorem bump64_mgmt (lo hi : RegName) (i : Nat) : (s.bump64 lo hi i).mgmt = s.mgmt := (rfl)
@[simp] theorem bump64_snap (lo hi : RegName) (i : Nat) : (s.bump64 lo hi i).snap = s.snap := (rfl)
@[simp] theorem bump64_otp (lo hi : RegName) (i : Nat) : (s.bump64 lo hi i).otp = s.otp := (rfl)
@[simp] theorem bump64_idm (lo hi : RegName) (i : Nat) : (s.bump64 lo hi i).idm = s.idm := (rfl)
@[simp] theorem bump64_clk (lo hi : RegName) (i : Nat) : (s.bump64 lo hi i).clk = s.clk := (rfl)
@[simp] theorem bump64_rst (lo hi : RegName) (i : Nat) : (s.bump64 lo hi i).rst = s.rst := (rfl)
@[simp] theorem bump64_hbm (lo hi : RegName) (i : Nat) : (s.bump64 lo hi i).hbm = s.hbm := (rfl)
@[simp] theorem bump64_fwu (lo hi : RegName) (i : Nat) : (s.bump64 lo hi i).fwu = s.fwu := (rfl)
@[simp] theorem bump64_esc (lo hi : RegName) (i : Nat) : (s.bump64 lo hi i).esc = s.esc := (rfl)

/-! ### commitReg -/

@[simp] theorem commitReg_pending (r : RegName) (i : Nat) : (s.commitReg r i).pending = s.pending := (rfl)
@[simp] theorem commitReg_regs (r : RegName) (i : Nat) : (s.commitReg r i).regs = s.regs := (rfl)
@[simp] theorem commitReg_latch (r : RegName) (i : Nat) : (s.commitReg r i).latch = s.latch := (rfl)
@[simp] theorem commitReg_flt (r : RegName) (i : Nat) : (s.commitReg r i).flt = s.flt := (rfl)
@[simp] theorem commitReg_free (r : RegName) (i : Nat) : (s.commitReg r i).free = s.free := (rfl)
@[simp] theorem commitReg_now (r : RegName) (i : Nat) : (s.commitReg r i).now = s.now := (rfl)
@[simp] theorem commitReg_mem (r : RegName) (i : Nat) : (s.commitReg r i).mem = s.mem := (rfl)
@[simp] theorem commitReg_alertLow (r : RegName) (i : Nat) : (s.commitReg r i).alertLow = s.alertLow := (rfl)
@[simp] theorem commitReg_resp (r : RegName) (i : Nat) : (s.commitReg r i).resp = s.resp := (rfl)
@[simp] theorem commitReg_ref (r : RegName) (i : Nat) : (s.commitReg r i).ref = s.ref := (rfl)
@[simp] theorem commitReg_td (r : RegName) (i : Nat) : (s.commitReg r i).td = s.td := (rfl)
@[simp] theorem commitReg_refOut (r : RegName) (i : Nat) : (s.commitReg r i).refOut = s.refOut := (rfl)
@[simp] theorem commitReg_ptp (r : RegName) (i : Nat) : (s.commitReg r i).ptp = s.ptp := (rfl)
@[simp] theorem commitReg_wire (r : RegName) (i : Nat) : (s.commitReg r i).wire = s.wire := (rfl)
@[simp] theorem commitReg_quad (r : RegName) (i : Nat) : (s.commitReg r i).quad = s.quad := (rfl)
@[simp] theorem commitReg_ul (r : RegName) (i : Nat) : (s.commitReg r i).ul = s.ul := (rfl)
@[simp] theorem commitReg_ulRx (r : RegName) (i : Nat) : (s.commitReg r i).ulRx = s.ulRx := (rfl)
@[simp] theorem commitReg_laneRx (r : RegName) (i : Nat) : (s.commitReg r i).laneRx = s.laneRx := (rfl)
@[simp] theorem commitReg_sdi (r : RegName) (i : Nat) : (s.commitReg r i).sdi = s.sdi := (rfl)
@[simp] theorem commitReg_mport (r : RegName) (i : Nat) : (s.commitReg r i).mport = s.mport := (rfl)
@[simp] theorem commitReg_flow (r : RegName) (i : Nat) : (s.commitReg r i).flow = s.flow := (rfl)
@[simp] theorem commitReg_xpt (r : RegName) (i : Nat) : (s.commitReg r i).xpt = s.xpt := (rfl)
@[simp] theorem commitReg_owner (r : RegName) (i : Nat) : (s.commitReg r i).owner = s.owner := (rfl)
@[simp] theorem commitReg_cue (r : RegName) (i : Nat) : (s.commitReg r i).cue = s.cue := (rfl)
@[simp] theorem commitReg_ttb (r : RegName) (i : Nat) : (s.commitReg r i).ttb = s.ttb := (rfl)
@[simp] theorem commitReg_vault (r : RegName) (i : Nat) : (s.commitReg r i).vault = s.vault := (rfl)
@[simp] theorem commitReg_aud (r : RegName) (i : Nat) : (s.commitReg r i).aud = s.aud := (rfl)
@[simp] theorem commitReg_wcomp (r : RegName) (i : Nat) : (s.commitReg r i).wcomp = s.wcomp := (rfl)
@[simp] theorem commitReg_wscan (r : RegName) (i : Nat) : (s.commitReg r i).wscan = s.wscan := (rfl)
@[simp] theorem commitReg_bus (r : RegName) (i : Nat) : (s.commitReg r i).bus = s.bus := (rfl)
@[simp] theorem commitReg_mgmt (r : RegName) (i : Nat) : (s.commitReg r i).mgmt = s.mgmt := (rfl)
@[simp] theorem commitReg_snap (r : RegName) (i : Nat) : (s.commitReg r i).snap = s.snap := (rfl)
@[simp] theorem commitReg_otp (r : RegName) (i : Nat) : (s.commitReg r i).otp = s.otp := (rfl)
@[simp] theorem commitReg_idm (r : RegName) (i : Nat) : (s.commitReg r i).idm = s.idm := (rfl)
@[simp] theorem commitReg_clk (r : RegName) (i : Nat) : (s.commitReg r i).clk = s.clk := (rfl)
@[simp] theorem commitReg_rst (r : RegName) (i : Nat) : (s.commitReg r i).rst = s.rst := (rfl)
@[simp] theorem commitReg_hbm (r : RegName) (i : Nat) : (s.commitReg r i).hbm = s.hbm := (rfl)
@[simp] theorem commitReg_fwu (r : RegName) (i : Nat) : (s.commitReg r i).fwu = s.fwu := (rfl)
@[simp] theorem commitReg_esc (r : RegName) (i : Nat) : (s.commitReg r i).esc = s.esc := (rfl)

/-! ### setFaults -/

@[simp] theorem setFaults_pending (b : Blk) (f : FaultSet) : (s.setFaults b f).pending = s.pending := (rfl)
@[simp] theorem setFaults_regs (b : Blk) (f : FaultSet) : (s.setFaults b f).regs = s.regs := (rfl)
@[simp] theorem setFaults_eff (b : Blk) (f : FaultSet) : (s.setFaults b f).eff = s.eff := (rfl)
@[simp] theorem setFaults_latch (b : Blk) (f : FaultSet) : (s.setFaults b f).latch = s.latch := (rfl)
@[simp] theorem setFaults_free (b : Blk) (f : FaultSet) : (s.setFaults b f).free = s.free := (rfl)
@[simp] theorem setFaults_now (b : Blk) (f : FaultSet) : (s.setFaults b f).now = s.now := (rfl)
@[simp] theorem setFaults_mem (b : Blk) (f : FaultSet) : (s.setFaults b f).mem = s.mem := (rfl)
@[simp] theorem setFaults_alertLow (b : Blk) (f : FaultSet) : (s.setFaults b f).alertLow = s.alertLow := (rfl)
@[simp] theorem setFaults_resp (b : Blk) (f : FaultSet) : (s.setFaults b f).resp = s.resp := (rfl)
@[simp] theorem setFaults_ref (b : Blk) (f : FaultSet) : (s.setFaults b f).ref = s.ref := (rfl)
@[simp] theorem setFaults_td (b : Blk) (f : FaultSet) : (s.setFaults b f).td = s.td := (rfl)
@[simp] theorem setFaults_refOut (b : Blk) (f : FaultSet) : (s.setFaults b f).refOut = s.refOut := (rfl)
@[simp] theorem setFaults_ptp (b : Blk) (f : FaultSet) : (s.setFaults b f).ptp = s.ptp := (rfl)
@[simp] theorem setFaults_wire (b : Blk) (f : FaultSet) : (s.setFaults b f).wire = s.wire := (rfl)
@[simp] theorem setFaults_quad (b : Blk) (f : FaultSet) : (s.setFaults b f).quad = s.quad := (rfl)
@[simp] theorem setFaults_ul (b : Blk) (f : FaultSet) : (s.setFaults b f).ul = s.ul := (rfl)
@[simp] theorem setFaults_ulRx (b : Blk) (f : FaultSet) : (s.setFaults b f).ulRx = s.ulRx := (rfl)
@[simp] theorem setFaults_laneRx (b : Blk) (f : FaultSet) : (s.setFaults b f).laneRx = s.laneRx := (rfl)
@[simp] theorem setFaults_sdi (b : Blk) (f : FaultSet) : (s.setFaults b f).sdi = s.sdi := (rfl)
@[simp] theorem setFaults_mport (b : Blk) (f : FaultSet) : (s.setFaults b f).mport = s.mport := (rfl)
@[simp] theorem setFaults_flow (b : Blk) (f : FaultSet) : (s.setFaults b f).flow = s.flow := (rfl)
@[simp] theorem setFaults_xpt (b : Blk) (f : FaultSet) : (s.setFaults b f).xpt = s.xpt := (rfl)
@[simp] theorem setFaults_owner (b : Blk) (f : FaultSet) : (s.setFaults b f).owner = s.owner := (rfl)
@[simp] theorem setFaults_cue (b : Blk) (f : FaultSet) : (s.setFaults b f).cue = s.cue := (rfl)
@[simp] theorem setFaults_ttb (b : Blk) (f : FaultSet) : (s.setFaults b f).ttb = s.ttb := (rfl)
@[simp] theorem setFaults_vault (b : Blk) (f : FaultSet) : (s.setFaults b f).vault = s.vault := (rfl)
@[simp] theorem setFaults_aud (b : Blk) (f : FaultSet) : (s.setFaults b f).aud = s.aud := (rfl)
@[simp] theorem setFaults_wcomp (b : Blk) (f : FaultSet) : (s.setFaults b f).wcomp = s.wcomp := (rfl)
@[simp] theorem setFaults_wscan (b : Blk) (f : FaultSet) : (s.setFaults b f).wscan = s.wscan := (rfl)
@[simp] theorem setFaults_bus (b : Blk) (f : FaultSet) : (s.setFaults b f).bus = s.bus := (rfl)
@[simp] theorem setFaults_mgmt (b : Blk) (f : FaultSet) : (s.setFaults b f).mgmt = s.mgmt := (rfl)
@[simp] theorem setFaults_snap (b : Blk) (f : FaultSet) : (s.setFaults b f).snap = s.snap := (rfl)
@[simp] theorem setFaults_otp (b : Blk) (f : FaultSet) : (s.setFaults b f).otp = s.otp := (rfl)
@[simp] theorem setFaults_idm (b : Blk) (f : FaultSet) : (s.setFaults b f).idm = s.idm := (rfl)
@[simp] theorem setFaults_clk (b : Blk) (f : FaultSet) : (s.setFaults b f).clk = s.clk := (rfl)
@[simp] theorem setFaults_rst (b : Blk) (f : FaultSet) : (s.setFaults b f).rst = s.rst := (rfl)
@[simp] theorem setFaults_hbm (b : Blk) (f : FaultSet) : (s.setFaults b f).hbm = s.hbm := (rfl)
@[simp] theorem setFaults_fwu (b : Blk) (f : FaultSet) : (s.setFaults b f).fwu = s.fwu := (rfl)
@[simp] theorem setFaults_esc (b : Blk) (f : FaultSet) : (s.setFaults b f).esc = s.esc := (rfl)

/-! ### store -/

@[simp] theorem store_pending (a : Nat) (bs : List Byte) : (s.store a bs).pending = s.pending := (rfl)
@[simp] theorem store_regs (a : Nat) (bs : List Byte) : (s.store a bs).regs = s.regs := (rfl)
@[simp] theorem store_eff (a : Nat) (bs : List Byte) : (s.store a bs).eff = s.eff := (rfl)
@[simp] theorem store_latch (a : Nat) (bs : List Byte) : (s.store a bs).latch = s.latch := (rfl)
@[simp] theorem store_flt (a : Nat) (bs : List Byte) : (s.store a bs).flt = s.flt := (rfl)
@[simp] theorem store_free (a : Nat) (bs : List Byte) : (s.store a bs).free = s.free := (rfl)
@[simp] theorem store_now (a : Nat) (bs : List Byte) : (s.store a bs).now = s.now := (rfl)
@[simp] theorem store_alertLow (a : Nat) (bs : List Byte) : (s.store a bs).alertLow = s.alertLow := (rfl)
@[simp] theorem store_resp (a : Nat) (bs : List Byte) : (s.store a bs).resp = s.resp := (rfl)
@[simp] theorem store_ref (a : Nat) (bs : List Byte) : (s.store a bs).ref = s.ref := (rfl)
@[simp] theorem store_td (a : Nat) (bs : List Byte) : (s.store a bs).td = s.td := (rfl)
@[simp] theorem store_refOut (a : Nat) (bs : List Byte) : (s.store a bs).refOut = s.refOut := (rfl)
@[simp] theorem store_ptp (a : Nat) (bs : List Byte) : (s.store a bs).ptp = s.ptp := (rfl)
@[simp] theorem store_wire (a : Nat) (bs : List Byte) : (s.store a bs).wire = s.wire := (rfl)
@[simp] theorem store_quad (a : Nat) (bs : List Byte) : (s.store a bs).quad = s.quad := (rfl)
@[simp] theorem store_ul (a : Nat) (bs : List Byte) : (s.store a bs).ul = s.ul := (rfl)
@[simp] theorem store_ulRx (a : Nat) (bs : List Byte) : (s.store a bs).ulRx = s.ulRx := (rfl)
@[simp] theorem store_laneRx (a : Nat) (bs : List Byte) : (s.store a bs).laneRx = s.laneRx := (rfl)
@[simp] theorem store_sdi (a : Nat) (bs : List Byte) : (s.store a bs).sdi = s.sdi := (rfl)
@[simp] theorem store_mport (a : Nat) (bs : List Byte) : (s.store a bs).mport = s.mport := (rfl)
@[simp] theorem store_flow (a : Nat) (bs : List Byte) : (s.store a bs).flow = s.flow := (rfl)
@[simp] theorem store_xpt (a : Nat) (bs : List Byte) : (s.store a bs).xpt = s.xpt := (rfl)
@[simp] theorem store_owner (a : Nat) (bs : List Byte) : (s.store a bs).owner = s.owner := (rfl)
@[simp] theorem store_cue (a : Nat) (bs : List Byte) : (s.store a bs).cue = s.cue := (rfl)
@[simp] theorem store_ttb (a : Nat) (bs : List Byte) : (s.store a bs).ttb = s.ttb := (rfl)
@[simp] theorem store_vault (a : Nat) (bs : List Byte) : (s.store a bs).vault = s.vault := (rfl)
@[simp] theorem store_aud (a : Nat) (bs : List Byte) : (s.store a bs).aud = s.aud := (rfl)
@[simp] theorem store_wcomp (a : Nat) (bs : List Byte) : (s.store a bs).wcomp = s.wcomp := (rfl)
@[simp] theorem store_wscan (a : Nat) (bs : List Byte) : (s.store a bs).wscan = s.wscan := (rfl)
@[simp] theorem store_bus (a : Nat) (bs : List Byte) : (s.store a bs).bus = s.bus := (rfl)
@[simp] theorem store_mgmt (a : Nat) (bs : List Byte) : (s.store a bs).mgmt = s.mgmt := (rfl)
@[simp] theorem store_snap (a : Nat) (bs : List Byte) : (s.store a bs).snap = s.snap := (rfl)
@[simp] theorem store_otp (a : Nat) (bs : List Byte) : (s.store a bs).otp = s.otp := (rfl)
@[simp] theorem store_idm (a : Nat) (bs : List Byte) : (s.store a bs).idm = s.idm := (rfl)
@[simp] theorem store_clk (a : Nat) (bs : List Byte) : (s.store a bs).clk = s.clk := (rfl)
@[simp] theorem store_rst (a : Nat) (bs : List Byte) : (s.store a bs).rst = s.rst := (rfl)
@[simp] theorem store_hbm (a : Nat) (bs : List Byte) : (s.store a bs).hbm = s.hbm := (rfl)
@[simp] theorem store_fwu (a : Nat) (bs : List Byte) : (s.store a bs).fwu = s.fwu := (rfl)
@[simp] theorem store_esc (a : Nat) (bs : List Byte) : (s.store a bs).esc = s.esc := (rfl)

/-! ### send -/

@[simp] theorem send_pending (p : Nat) (bs : List Byte) : (s.send p bs).pending = s.pending := (rfl)
@[simp] theorem send_regs (p : Nat) (bs : List Byte) : (s.send p bs).regs = s.regs := (rfl)
@[simp] theorem send_eff (p : Nat) (bs : List Byte) : (s.send p bs).eff = s.eff := (rfl)
@[simp] theorem send_latch (p : Nat) (bs : List Byte) : (s.send p bs).latch = s.latch := (rfl)
@[simp] theorem send_flt (p : Nat) (bs : List Byte) : (s.send p bs).flt = s.flt := (rfl)
@[simp] theorem send_free (p : Nat) (bs : List Byte) : (s.send p bs).free = s.free := (rfl)
@[simp] theorem send_now (p : Nat) (bs : List Byte) : (s.send p bs).now = s.now := (rfl)
@[simp] theorem send_mem (p : Nat) (bs : List Byte) : (s.send p bs).mem = s.mem := (rfl)
@[simp] theorem send_alertLow (p : Nat) (bs : List Byte) : (s.send p bs).alertLow = s.alertLow := (rfl)
@[simp] theorem send_resp (p : Nat) (bs : List Byte) : (s.send p bs).resp = s.resp := (rfl)
@[simp] theorem send_ref (p : Nat) (bs : List Byte) : (s.send p bs).ref = s.ref := (rfl)
@[simp] theorem send_td (p : Nat) (bs : List Byte) : (s.send p bs).td = s.td := (rfl)
@[simp] theorem send_refOut (p : Nat) (bs : List Byte) : (s.send p bs).refOut = s.refOut := (rfl)
@[simp] theorem send_ptp (p : Nat) (bs : List Byte) : (s.send p bs).ptp = s.ptp := (rfl)
@[simp] theorem send_quad (p : Nat) (bs : List Byte) : (s.send p bs).quad = s.quad := (rfl)
@[simp] theorem send_ul (p : Nat) (bs : List Byte) : (s.send p bs).ul = s.ul := (rfl)
@[simp] theorem send_ulRx (p : Nat) (bs : List Byte) : (s.send p bs).ulRx = s.ulRx := (rfl)
@[simp] theorem send_laneRx (p : Nat) (bs : List Byte) : (s.send p bs).laneRx = s.laneRx := (rfl)
@[simp] theorem send_sdi (p : Nat) (bs : List Byte) : (s.send p bs).sdi = s.sdi := (rfl)
@[simp] theorem send_mport (p : Nat) (bs : List Byte) : (s.send p bs).mport = s.mport := (rfl)
@[simp] theorem send_flow (p : Nat) (bs : List Byte) : (s.send p bs).flow = s.flow := (rfl)
@[simp] theorem send_xpt (p : Nat) (bs : List Byte) : (s.send p bs).xpt = s.xpt := (rfl)
@[simp] theorem send_owner (p : Nat) (bs : List Byte) : (s.send p bs).owner = s.owner := (rfl)
@[simp] theorem send_cue (p : Nat) (bs : List Byte) : (s.send p bs).cue = s.cue := (rfl)
@[simp] theorem send_ttb (p : Nat) (bs : List Byte) : (s.send p bs).ttb = s.ttb := (rfl)
@[simp] theorem send_vault (p : Nat) (bs : List Byte) : (s.send p bs).vault = s.vault := (rfl)
@[simp] theorem send_aud (p : Nat) (bs : List Byte) : (s.send p bs).aud = s.aud := (rfl)
@[simp] theorem send_wcomp (p : Nat) (bs : List Byte) : (s.send p bs).wcomp = s.wcomp := (rfl)
@[simp] theorem send_wscan (p : Nat) (bs : List Byte) : (s.send p bs).wscan = s.wscan := (rfl)
@[simp] theorem send_bus (p : Nat) (bs : List Byte) : (s.send p bs).bus = s.bus := (rfl)
@[simp] theorem send_mgmt (p : Nat) (bs : List Byte) : (s.send p bs).mgmt = s.mgmt := (rfl)
@[simp] theorem send_snap (p : Nat) (bs : List Byte) : (s.send p bs).snap = s.snap := (rfl)
@[simp] theorem send_otp (p : Nat) (bs : List Byte) : (s.send p bs).otp = s.otp := (rfl)
@[simp] theorem send_idm (p : Nat) (bs : List Byte) : (s.send p bs).idm = s.idm := (rfl)
@[simp] theorem send_clk (p : Nat) (bs : List Byte) : (s.send p bs).clk = s.clk := (rfl)
@[simp] theorem send_rst (p : Nat) (bs : List Byte) : (s.send p bs).rst = s.rst := (rfl)
@[simp] theorem send_hbm (p : Nat) (bs : List Byte) : (s.send p bs).hbm = s.hbm := (rfl)
@[simp] theorem send_fwu (p : Nat) (bs : List Byte) : (s.send p bs).fwu = s.fwu := (rfl)
@[simp] theorem send_esc (p : Nat) (bs : List Byte) : (s.send p bs).esc = s.esc := (rfl)

/-! ### respond -/

@[simp] theorem respond_pending (m v : Nat) : (s.respond m v).pending = s.pending := (rfl)
@[simp] theorem respond_regs (m v : Nat) : (s.respond m v).regs = s.regs := (rfl)
@[simp] theorem respond_eff (m v : Nat) : (s.respond m v).eff = s.eff := (rfl)
@[simp] theorem respond_latch (m v : Nat) : (s.respond m v).latch = s.latch := (rfl)
@[simp] theorem respond_flt (m v : Nat) : (s.respond m v).flt = s.flt := (rfl)
@[simp] theorem respond_free (m v : Nat) : (s.respond m v).free = s.free := (rfl)
@[simp] theorem respond_now (m v : Nat) : (s.respond m v).now = s.now := (rfl)
@[simp] theorem respond_mem (m v : Nat) : (s.respond m v).mem = s.mem := (rfl)
@[simp] theorem respond_alertLow (m v : Nat) : (s.respond m v).alertLow = s.alertLow := (rfl)
@[simp] theorem respond_ref (m v : Nat) : (s.respond m v).ref = s.ref := (rfl)
@[simp] theorem respond_td (m v : Nat) : (s.respond m v).td = s.td := (rfl)
@[simp] theorem respond_refOut (m v : Nat) : (s.respond m v).refOut = s.refOut := (rfl)
@[simp] theorem respond_ptp (m v : Nat) : (s.respond m v).ptp = s.ptp := (rfl)
@[simp] theorem respond_wire (m v : Nat) : (s.respond m v).wire = s.wire := (rfl)
@[simp] theorem respond_quad (m v : Nat) : (s.respond m v).quad = s.quad := (rfl)
@[simp] theorem respond_ul (m v : Nat) : (s.respond m v).ul = s.ul := (rfl)
@[simp] theorem respond_ulRx (m v : Nat) : (s.respond m v).ulRx = s.ulRx := (rfl)
@[simp] theorem respond_laneRx (m v : Nat) : (s.respond m v).laneRx = s.laneRx := (rfl)
@[simp] theorem respond_sdi (m v : Nat) : (s.respond m v).sdi = s.sdi := (rfl)
@[simp] theorem respond_mport (m v : Nat) : (s.respond m v).mport = s.mport := (rfl)
@[simp] theorem respond_flow (m v : Nat) : (s.respond m v).flow = s.flow := (rfl)
@[simp] theorem respond_xpt (m v : Nat) : (s.respond m v).xpt = s.xpt := (rfl)
@[simp] theorem respond_owner (m v : Nat) : (s.respond m v).owner = s.owner := (rfl)
@[simp] theorem respond_cue (m v : Nat) : (s.respond m v).cue = s.cue := (rfl)
@[simp] theorem respond_ttb (m v : Nat) : (s.respond m v).ttb = s.ttb := (rfl)
@[simp] theorem respond_vault (m v : Nat) : (s.respond m v).vault = s.vault := (rfl)
@[simp] theorem respond_aud (m v : Nat) : (s.respond m v).aud = s.aud := (rfl)
@[simp] theorem respond_wcomp (m v : Nat) : (s.respond m v).wcomp = s.wcomp := (rfl)
@[simp] theorem respond_wscan (m v : Nat) : (s.respond m v).wscan = s.wscan := (rfl)
@[simp] theorem respond_bus (m v : Nat) : (s.respond m v).bus = s.bus := (rfl)
@[simp] theorem respond_mgmt (m v : Nat) : (s.respond m v).mgmt = s.mgmt := (rfl)
@[simp] theorem respond_snap (m v : Nat) : (s.respond m v).snap = s.snap := (rfl)
@[simp] theorem respond_otp (m v : Nat) : (s.respond m v).otp = s.otp := (rfl)
@[simp] theorem respond_idm (m v : Nat) : (s.respond m v).idm = s.idm := (rfl)
@[simp] theorem respond_clk (m v : Nat) : (s.respond m v).clk = s.clk := (rfl)
@[simp] theorem respond_rst (m v : Nat) : (s.respond m v).rst = s.rst := (rfl)
@[simp] theorem respond_hbm (m v : Nat) : (s.respond m v).hbm = s.hbm := (rfl)
@[simp] theorem respond_fwu (m v : Nat) : (s.respond m v).fwu = s.fwu := (rfl)
@[simp] theorem respond_esc (m v : Nat) : (s.respond m v).esc = s.esc := (rfl)

/-! ### respondErr -/

@[simp] theorem respondErr_pending (m : Nat) : (s.respondErr m).pending = s.pending := (rfl)
@[simp] theorem respondErr_regs (m : Nat) : (s.respondErr m).regs = s.regs := (rfl)
@[simp] theorem respondErr_eff (m : Nat) : (s.respondErr m).eff = s.eff := (rfl)
@[simp] theorem respondErr_latch (m : Nat) : (s.respondErr m).latch = s.latch := (rfl)
@[simp] theorem respondErr_flt (m : Nat) : (s.respondErr m).flt = s.flt := (rfl)
@[simp] theorem respondErr_free (m : Nat) : (s.respondErr m).free = s.free := (rfl)
@[simp] theorem respondErr_now (m : Nat) : (s.respondErr m).now = s.now := (rfl)
@[simp] theorem respondErr_mem (m : Nat) : (s.respondErr m).mem = s.mem := (rfl)
@[simp] theorem respondErr_alertLow (m : Nat) : (s.respondErr m).alertLow = s.alertLow := (rfl)
@[simp] theorem respondErr_ref (m : Nat) : (s.respondErr m).ref = s.ref := (rfl)
@[simp] theorem respondErr_td (m : Nat) : (s.respondErr m).td = s.td := (rfl)
@[simp] theorem respondErr_refOut (m : Nat) : (s.respondErr m).refOut = s.refOut := (rfl)
@[simp] theorem respondErr_ptp (m : Nat) : (s.respondErr m).ptp = s.ptp := (rfl)
@[simp] theorem respondErr_wire (m : Nat) : (s.respondErr m).wire = s.wire := (rfl)
@[simp] theorem respondErr_quad (m : Nat) : (s.respondErr m).quad = s.quad := (rfl)
@[simp] theorem respondErr_ul (m : Nat) : (s.respondErr m).ul = s.ul := (rfl)
@[simp] theorem respondErr_ulRx (m : Nat) : (s.respondErr m).ulRx = s.ulRx := (rfl)
@[simp] theorem respondErr_laneRx (m : Nat) : (s.respondErr m).laneRx = s.laneRx := (rfl)
@[simp] theorem respondErr_sdi (m : Nat) : (s.respondErr m).sdi = s.sdi := (rfl)
@[simp] theorem respondErr_mport (m : Nat) : (s.respondErr m).mport = s.mport := (rfl)
@[simp] theorem respondErr_flow (m : Nat) : (s.respondErr m).flow = s.flow := (rfl)
@[simp] theorem respondErr_xpt (m : Nat) : (s.respondErr m).xpt = s.xpt := (rfl)
@[simp] theorem respondErr_owner (m : Nat) : (s.respondErr m).owner = s.owner := (rfl)
@[simp] theorem respondErr_cue (m : Nat) : (s.respondErr m).cue = s.cue := (rfl)
@[simp] theorem respondErr_ttb (m : Nat) : (s.respondErr m).ttb = s.ttb := (rfl)
@[simp] theorem respondErr_vault (m : Nat) : (s.respondErr m).vault = s.vault := (rfl)
@[simp] theorem respondErr_aud (m : Nat) : (s.respondErr m).aud = s.aud := (rfl)
@[simp] theorem respondErr_wcomp (m : Nat) : (s.respondErr m).wcomp = s.wcomp := (rfl)
@[simp] theorem respondErr_wscan (m : Nat) : (s.respondErr m).wscan = s.wscan := (rfl)
@[simp] theorem respondErr_bus (m : Nat) : (s.respondErr m).bus = s.bus := (rfl)
@[simp] theorem respondErr_mgmt (m : Nat) : (s.respondErr m).mgmt = s.mgmt := (rfl)
@[simp] theorem respondErr_snap (m : Nat) : (s.respondErr m).snap = s.snap := (rfl)
@[simp] theorem respondErr_otp (m : Nat) : (s.respondErr m).otp = s.otp := (rfl)
@[simp] theorem respondErr_idm (m : Nat) : (s.respondErr m).idm = s.idm := (rfl)
@[simp] theorem respondErr_clk (m : Nat) : (s.respondErr m).clk = s.clk := (rfl)
@[simp] theorem respondErr_rst (m : Nat) : (s.respondErr m).rst = s.rst := (rfl)
@[simp] theorem respondErr_hbm (m : Nat) : (s.respondErr m).hbm = s.hbm := (rfl)
@[simp] theorem respondErr_fwu (m : Nat) : (s.respondErr m).fwu = s.fwu := (rfl)
@[simp] theorem respondErr_esc (m : Nat) : (s.respondErr m).esc = s.esc := (rfl)

/-! ### setDom -/

@[simp] theorem setDom_pending (d : Nat) (x : PtpDom) : (s.setDom d x).pending = s.pending := (rfl)
@[simp] theorem setDom_regs (d : Nat) (x : PtpDom) : (s.setDom d x).regs = s.regs := (rfl)
@[simp] theorem setDom_eff (d : Nat) (x : PtpDom) : (s.setDom d x).eff = s.eff := (rfl)
@[simp] theorem setDom_latch (d : Nat) (x : PtpDom) : (s.setDom d x).latch = s.latch := (rfl)
@[simp] theorem setDom_flt (d : Nat) (x : PtpDom) : (s.setDom d x).flt = s.flt := (rfl)
@[simp] theorem setDom_free (d : Nat) (x : PtpDom) : (s.setDom d x).free = s.free := (rfl)
@[simp] theorem setDom_now (d : Nat) (x : PtpDom) : (s.setDom d x).now = s.now := (rfl)
@[simp] theorem setDom_mem (d : Nat) (x : PtpDom) : (s.setDom d x).mem = s.mem := (rfl)
@[simp] theorem setDom_alertLow (d : Nat) (x : PtpDom) : (s.setDom d x).alertLow = s.alertLow := (rfl)
@[simp] theorem setDom_resp (d : Nat) (x : PtpDom) : (s.setDom d x).resp = s.resp := (rfl)
@[simp] theorem setDom_ref (d : Nat) (x : PtpDom) : (s.setDom d x).ref = s.ref := (rfl)
@[simp] theorem setDom_td (d : Nat) (x : PtpDom) : (s.setDom d x).td = s.td := (rfl)
@[simp] theorem setDom_refOut (d : Nat) (x : PtpDom) : (s.setDom d x).refOut = s.refOut := (rfl)
@[simp] theorem setDom_wire (d : Nat) (x : PtpDom) : (s.setDom d x).wire = s.wire := (rfl)
@[simp] theorem setDom_quad (d : Nat) (x : PtpDom) : (s.setDom d x).quad = s.quad := (rfl)
@[simp] theorem setDom_ul (d : Nat) (x : PtpDom) : (s.setDom d x).ul = s.ul := (rfl)
@[simp] theorem setDom_ulRx (d : Nat) (x : PtpDom) : (s.setDom d x).ulRx = s.ulRx := (rfl)
@[simp] theorem setDom_laneRx (d : Nat) (x : PtpDom) : (s.setDom d x).laneRx = s.laneRx := (rfl)
@[simp] theorem setDom_sdi (d : Nat) (x : PtpDom) : (s.setDom d x).sdi = s.sdi := (rfl)
@[simp] theorem setDom_mport (d : Nat) (x : PtpDom) : (s.setDom d x).mport = s.mport := (rfl)
@[simp] theorem setDom_flow (d : Nat) (x : PtpDom) : (s.setDom d x).flow = s.flow := (rfl)
@[simp] theorem setDom_xpt (d : Nat) (x : PtpDom) : (s.setDom d x).xpt = s.xpt := (rfl)
@[simp] theorem setDom_owner (d : Nat) (x : PtpDom) : (s.setDom d x).owner = s.owner := (rfl)
@[simp] theorem setDom_cue (d : Nat) (x : PtpDom) : (s.setDom d x).cue = s.cue := (rfl)
@[simp] theorem setDom_ttb (d : Nat) (x : PtpDom) : (s.setDom d x).ttb = s.ttb := (rfl)
@[simp] theorem setDom_vault (d : Nat) (x : PtpDom) : (s.setDom d x).vault = s.vault := (rfl)
@[simp] theorem setDom_aud (d : Nat) (x : PtpDom) : (s.setDom d x).aud = s.aud := (rfl)
@[simp] theorem setDom_wcomp (d : Nat) (x : PtpDom) : (s.setDom d x).wcomp = s.wcomp := (rfl)
@[simp] theorem setDom_wscan (d : Nat) (x : PtpDom) : (s.setDom d x).wscan = s.wscan := (rfl)
@[simp] theorem setDom_bus (d : Nat) (x : PtpDom) : (s.setDom d x).bus = s.bus := (rfl)
@[simp] theorem setDom_mgmt (d : Nat) (x : PtpDom) : (s.setDom d x).mgmt = s.mgmt := (rfl)
@[simp] theorem setDom_snap (d : Nat) (x : PtpDom) : (s.setDom d x).snap = s.snap := (rfl)
@[simp] theorem setDom_otp (d : Nat) (x : PtpDom) : (s.setDom d x).otp = s.otp := (rfl)
@[simp] theorem setDom_idm (d : Nat) (x : PtpDom) : (s.setDom d x).idm = s.idm := (rfl)
@[simp] theorem setDom_clk (d : Nat) (x : PtpDom) : (s.setDom d x).clk = s.clk := (rfl)
@[simp] theorem setDom_rst (d : Nat) (x : PtpDom) : (s.setDom d x).rst = s.rst := (rfl)
@[simp] theorem setDom_hbm (d : Nat) (x : PtpDom) : (s.setDom d x).hbm = s.hbm := (rfl)
@[simp] theorem setDom_fwu (d : Nat) (x : PtpDom) : (s.setDom d x).fwu = s.fwu := (rfl)
@[simp] theorem setDom_esc (d : Nat) (x : PtpDom) : (s.setDom d x).esc = s.esc := (rfl)

/-! ### setTd -/

@[simp] theorem setTd_pending (n : Nat) (x : TdState) : (s.setTd n x).pending = s.pending := (rfl)
@[simp] theorem setTd_regs (n : Nat) (x : TdState) : (s.setTd n x).regs = s.regs := (rfl)
@[simp] theorem setTd_eff (n : Nat) (x : TdState) : (s.setTd n x).eff = s.eff := (rfl)
@[simp] theorem setTd_latch (n : Nat) (x : TdState) : (s.setTd n x).latch = s.latch := (rfl)
@[simp] theorem setTd_flt (n : Nat) (x : TdState) : (s.setTd n x).flt = s.flt := (rfl)
@[simp] theorem setTd_free (n : Nat) (x : TdState) : (s.setTd n x).free = s.free := (rfl)
@[simp] theorem setTd_now (n : Nat) (x : TdState) : (s.setTd n x).now = s.now := (rfl)
@[simp] theorem setTd_mem (n : Nat) (x : TdState) : (s.setTd n x).mem = s.mem := (rfl)
@[simp] theorem setTd_alertLow (n : Nat) (x : TdState) : (s.setTd n x).alertLow = s.alertLow := (rfl)
@[simp] theorem setTd_resp (n : Nat) (x : TdState) : (s.setTd n x).resp = s.resp := (rfl)
@[simp] theorem setTd_ref (n : Nat) (x : TdState) : (s.setTd n x).ref = s.ref := (rfl)
@[simp] theorem setTd_refOut (n : Nat) (x : TdState) : (s.setTd n x).refOut = s.refOut := (rfl)
@[simp] theorem setTd_ptp (n : Nat) (x : TdState) : (s.setTd n x).ptp = s.ptp := (rfl)
@[simp] theorem setTd_wire (n : Nat) (x : TdState) : (s.setTd n x).wire = s.wire := (rfl)
@[simp] theorem setTd_quad (n : Nat) (x : TdState) : (s.setTd n x).quad = s.quad := (rfl)
@[simp] theorem setTd_ul (n : Nat) (x : TdState) : (s.setTd n x).ul = s.ul := (rfl)
@[simp] theorem setTd_ulRx (n : Nat) (x : TdState) : (s.setTd n x).ulRx = s.ulRx := (rfl)
@[simp] theorem setTd_laneRx (n : Nat) (x : TdState) : (s.setTd n x).laneRx = s.laneRx := (rfl)
@[simp] theorem setTd_sdi (n : Nat) (x : TdState) : (s.setTd n x).sdi = s.sdi := (rfl)
@[simp] theorem setTd_mport (n : Nat) (x : TdState) : (s.setTd n x).mport = s.mport := (rfl)
@[simp] theorem setTd_flow (n : Nat) (x : TdState) : (s.setTd n x).flow = s.flow := (rfl)
@[simp] theorem setTd_xpt (n : Nat) (x : TdState) : (s.setTd n x).xpt = s.xpt := (rfl)
@[simp] theorem setTd_owner (n : Nat) (x : TdState) : (s.setTd n x).owner = s.owner := (rfl)
@[simp] theorem setTd_cue (n : Nat) (x : TdState) : (s.setTd n x).cue = s.cue := (rfl)
@[simp] theorem setTd_ttb (n : Nat) (x : TdState) : (s.setTd n x).ttb = s.ttb := (rfl)
@[simp] theorem setTd_vault (n : Nat) (x : TdState) : (s.setTd n x).vault = s.vault := (rfl)
@[simp] theorem setTd_aud (n : Nat) (x : TdState) : (s.setTd n x).aud = s.aud := (rfl)
@[simp] theorem setTd_wcomp (n : Nat) (x : TdState) : (s.setTd n x).wcomp = s.wcomp := (rfl)
@[simp] theorem setTd_wscan (n : Nat) (x : TdState) : (s.setTd n x).wscan = s.wscan := (rfl)
@[simp] theorem setTd_bus (n : Nat) (x : TdState) : (s.setTd n x).bus = s.bus := (rfl)
@[simp] theorem setTd_mgmt (n : Nat) (x : TdState) : (s.setTd n x).mgmt = s.mgmt := (rfl)
@[simp] theorem setTd_snap (n : Nat) (x : TdState) : (s.setTd n x).snap = s.snap := (rfl)
@[simp] theorem setTd_otp (n : Nat) (x : TdState) : (s.setTd n x).otp = s.otp := (rfl)
@[simp] theorem setTd_idm (n : Nat) (x : TdState) : (s.setTd n x).idm = s.idm := (rfl)
@[simp] theorem setTd_clk (n : Nat) (x : TdState) : (s.setTd n x).clk = s.clk := (rfl)
@[simp] theorem setTd_rst (n : Nat) (x : TdState) : (s.setTd n x).rst = s.rst := (rfl)
@[simp] theorem setTd_hbm (n : Nat) (x : TdState) : (s.setTd n x).hbm = s.hbm := (rfl)
@[simp] theorem setTd_fwu (n : Nat) (x : TdState) : (s.setTd n x).fwu = s.fwu := (rfl)
@[simp] theorem setTd_esc (n : Nat) (x : TdState) : (s.setTd n x).esc = s.esc := (rfl)

/-! ### freeNat -/

@[simp] theorem freeNat_pending : (s.freeNat).2.pending = s.pending := (rfl)
@[simp] theorem freeNat_regs : (s.freeNat).2.regs = s.regs := (rfl)
@[simp] theorem freeNat_eff : (s.freeNat).2.eff = s.eff := (rfl)
@[simp] theorem freeNat_latch : (s.freeNat).2.latch = s.latch := (rfl)
@[simp] theorem freeNat_flt : (s.freeNat).2.flt = s.flt := (rfl)
@[simp] theorem freeNat_now : (s.freeNat).2.now = s.now := (rfl)
@[simp] theorem freeNat_mem : (s.freeNat).2.mem = s.mem := (rfl)
@[simp] theorem freeNat_alertLow : (s.freeNat).2.alertLow = s.alertLow := (rfl)
@[simp] theorem freeNat_resp : (s.freeNat).2.resp = s.resp := (rfl)
@[simp] theorem freeNat_ref : (s.freeNat).2.ref = s.ref := (rfl)
@[simp] theorem freeNat_td : (s.freeNat).2.td = s.td := (rfl)
@[simp] theorem freeNat_refOut : (s.freeNat).2.refOut = s.refOut := (rfl)
@[simp] theorem freeNat_ptp : (s.freeNat).2.ptp = s.ptp := (rfl)
@[simp] theorem freeNat_wire : (s.freeNat).2.wire = s.wire := (rfl)
@[simp] theorem freeNat_quad : (s.freeNat).2.quad = s.quad := (rfl)
@[simp] theorem freeNat_ul : (s.freeNat).2.ul = s.ul := (rfl)
@[simp] theorem freeNat_ulRx : (s.freeNat).2.ulRx = s.ulRx := (rfl)
@[simp] theorem freeNat_laneRx : (s.freeNat).2.laneRx = s.laneRx := (rfl)
@[simp] theorem freeNat_sdi : (s.freeNat).2.sdi = s.sdi := (rfl)
@[simp] theorem freeNat_mport : (s.freeNat).2.mport = s.mport := (rfl)
@[simp] theorem freeNat_flow : (s.freeNat).2.flow = s.flow := (rfl)
@[simp] theorem freeNat_xpt : (s.freeNat).2.xpt = s.xpt := (rfl)
@[simp] theorem freeNat_owner : (s.freeNat).2.owner = s.owner := (rfl)
@[simp] theorem freeNat_cue : (s.freeNat).2.cue = s.cue := (rfl)
@[simp] theorem freeNat_ttb : (s.freeNat).2.ttb = s.ttb := (rfl)
@[simp] theorem freeNat_vault : (s.freeNat).2.vault = s.vault := (rfl)
@[simp] theorem freeNat_aud : (s.freeNat).2.aud = s.aud := (rfl)
@[simp] theorem freeNat_wcomp : (s.freeNat).2.wcomp = s.wcomp := (rfl)
@[simp] theorem freeNat_wscan : (s.freeNat).2.wscan = s.wscan := (rfl)
@[simp] theorem freeNat_bus : (s.freeNat).2.bus = s.bus := (rfl)
@[simp] theorem freeNat_mgmt : (s.freeNat).2.mgmt = s.mgmt := (rfl)
@[simp] theorem freeNat_snap : (s.freeNat).2.snap = s.snap := (rfl)
@[simp] theorem freeNat_otp : (s.freeNat).2.otp = s.otp := (rfl)
@[simp] theorem freeNat_idm : (s.freeNat).2.idm = s.idm := (rfl)
@[simp] theorem freeNat_clk : (s.freeNat).2.clk = s.clk := (rfl)
@[simp] theorem freeNat_rst : (s.freeNat).2.rst = s.rst := (rfl)
@[simp] theorem freeNat_hbm : (s.freeNat).2.hbm = s.hbm := (rfl)
@[simp] theorem freeNat_fwu : (s.freeNat).2.fwu = s.fwu := (rfl)
@[simp] theorem freeNat_esc : (s.freeNat).2.esc = s.esc := (rfl)

/-! ### freeBool -/

@[simp] theorem freeBool_pending : (s.freeBool).2.pending = s.pending := (rfl)
@[simp] theorem freeBool_regs : (s.freeBool).2.regs = s.regs := (rfl)
@[simp] theorem freeBool_eff : (s.freeBool).2.eff = s.eff := (rfl)
@[simp] theorem freeBool_latch : (s.freeBool).2.latch = s.latch := (rfl)
@[simp] theorem freeBool_flt : (s.freeBool).2.flt = s.flt := (rfl)
@[simp] theorem freeBool_now : (s.freeBool).2.now = s.now := (rfl)
@[simp] theorem freeBool_mem : (s.freeBool).2.mem = s.mem := (rfl)
@[simp] theorem freeBool_alertLow : (s.freeBool).2.alertLow = s.alertLow := (rfl)
@[simp] theorem freeBool_resp : (s.freeBool).2.resp = s.resp := (rfl)
@[simp] theorem freeBool_ref : (s.freeBool).2.ref = s.ref := (rfl)
@[simp] theorem freeBool_td : (s.freeBool).2.td = s.td := (rfl)
@[simp] theorem freeBool_refOut : (s.freeBool).2.refOut = s.refOut := (rfl)
@[simp] theorem freeBool_ptp : (s.freeBool).2.ptp = s.ptp := (rfl)
@[simp] theorem freeBool_wire : (s.freeBool).2.wire = s.wire := (rfl)
@[simp] theorem freeBool_quad : (s.freeBool).2.quad = s.quad := (rfl)
@[simp] theorem freeBool_ul : (s.freeBool).2.ul = s.ul := (rfl)
@[simp] theorem freeBool_ulRx : (s.freeBool).2.ulRx = s.ulRx := (rfl)
@[simp] theorem freeBool_laneRx : (s.freeBool).2.laneRx = s.laneRx := (rfl)
@[simp] theorem freeBool_sdi : (s.freeBool).2.sdi = s.sdi := (rfl)
@[simp] theorem freeBool_mport : (s.freeBool).2.mport = s.mport := (rfl)
@[simp] theorem freeBool_flow : (s.freeBool).2.flow = s.flow := (rfl)
@[simp] theorem freeBool_xpt : (s.freeBool).2.xpt = s.xpt := (rfl)
@[simp] theorem freeBool_owner : (s.freeBool).2.owner = s.owner := (rfl)
@[simp] theorem freeBool_cue : (s.freeBool).2.cue = s.cue := (rfl)
@[simp] theorem freeBool_ttb : (s.freeBool).2.ttb = s.ttb := (rfl)
@[simp] theorem freeBool_vault : (s.freeBool).2.vault = s.vault := (rfl)
@[simp] theorem freeBool_aud : (s.freeBool).2.aud = s.aud := (rfl)
@[simp] theorem freeBool_wcomp : (s.freeBool).2.wcomp = s.wcomp := (rfl)
@[simp] theorem freeBool_wscan : (s.freeBool).2.wscan = s.wscan := (rfl)
@[simp] theorem freeBool_bus : (s.freeBool).2.bus = s.bus := (rfl)
@[simp] theorem freeBool_mgmt : (s.freeBool).2.mgmt = s.mgmt := (rfl)
@[simp] theorem freeBool_snap : (s.freeBool).2.snap = s.snap := (rfl)
@[simp] theorem freeBool_otp : (s.freeBool).2.otp = s.otp := (rfl)
@[simp] theorem freeBool_idm : (s.freeBool).2.idm = s.idm := (rfl)
@[simp] theorem freeBool_clk : (s.freeBool).2.clk = s.clk := (rfl)
@[simp] theorem freeBool_rst : (s.freeBool).2.rst = s.rst := (rfl)
@[simp] theorem freeBool_hbm : (s.freeBool).2.hbm = s.hbm := (rfl)
@[simp] theorem freeBool_fwu : (s.freeBool).2.fwu = s.fwu := (rfl)
@[simp] theorem freeBool_esc : (s.freeBool).2.esc = s.esc := (rfl)

/-! ### Fault sources -/

@[simp] theorem alertUpdate_pending : (alertUpdate s).pending = s.pending := by unfold alertUpdate; simp only; split <;> rfl
@[simp] theorem raise_pending (x : Src) : (s.raise x).pending = s.pending := by simp [State.raise]
@[simp] theorem raiseIf_pending (c : Bool) (x : Src) : (s.raiseIf c x).pending = s.pending := by unfold State.raiseIf; split <;> simp
@[simp] theorem reject_pending (b : Blk) : (s.reject b).pending = s.pending := by simp [State.reject]
@[simp] theorem alertUpdate_regs : (alertUpdate s).regs = s.regs := by unfold alertUpdate; simp only; split <;> rfl
@[simp] theorem raise_regs (x : Src) : (s.raise x).regs = s.regs := by simp [State.raise]
@[simp] theorem raiseIf_regs (c : Bool) (x : Src) : (s.raiseIf c x).regs = s.regs := by unfold State.raiseIf; split <;> simp
@[simp] theorem reject_regs (b : Blk) : (s.reject b).regs = s.regs := by simp [State.reject]
@[simp] theorem alertUpdate_eff : (alertUpdate s).eff = s.eff := by unfold alertUpdate; simp only; split <;> rfl
@[simp] theorem raise_eff (x : Src) : (s.raise x).eff = s.eff := by simp [State.raise]
@[simp] theorem raiseIf_eff (c : Bool) (x : Src) : (s.raiseIf c x).eff = s.eff := by unfold State.raiseIf; split <;> simp
@[simp] theorem reject_eff (b : Blk) : (s.reject b).eff = s.eff := by simp [State.reject]
@[simp] theorem alertUpdate_latch : (alertUpdate s).latch = s.latch := by unfold alertUpdate; simp only; split <;> rfl
@[simp] theorem raise_latch (x : Src) : (s.raise x).latch = s.latch := by simp [State.raise]
@[simp] theorem raiseIf_latch (c : Bool) (x : Src) : (s.raiseIf c x).latch = s.latch := by unfold State.raiseIf; split <;> simp
@[simp] theorem reject_latch (b : Blk) : (s.reject b).latch = s.latch := by simp [State.reject]
@[simp] theorem alertUpdate_free : (alertUpdate s).free = s.free := by unfold alertUpdate; simp only; split <;> rfl
@[simp] theorem raise_free (x : Src) : (s.raise x).free = s.free := by simp [State.raise]
@[simp] theorem raiseIf_free (c : Bool) (x : Src) : (s.raiseIf c x).free = s.free := by unfold State.raiseIf; split <;> simp
@[simp] theorem reject_free (b : Blk) : (s.reject b).free = s.free := by simp [State.reject]
@[simp] theorem alertUpdate_now : (alertUpdate s).now = s.now := by unfold alertUpdate; simp only; split <;> rfl
@[simp] theorem raise_now (x : Src) : (s.raise x).now = s.now := by simp [State.raise]
@[simp] theorem raiseIf_now (c : Bool) (x : Src) : (s.raiseIf c x).now = s.now := by unfold State.raiseIf; split <;> simp
@[simp] theorem reject_now (b : Blk) : (s.reject b).now = s.now := by simp [State.reject]
@[simp] theorem alertUpdate_mem : (alertUpdate s).mem = s.mem := by unfold alertUpdate; simp only; split <;> rfl
@[simp] theorem raise_mem (x : Src) : (s.raise x).mem = s.mem := by simp [State.raise]
@[simp] theorem raiseIf_mem (c : Bool) (x : Src) : (s.raiseIf c x).mem = s.mem := by unfold State.raiseIf; split <;> simp
@[simp] theorem reject_mem (b : Blk) : (s.reject b).mem = s.mem := by simp [State.reject]
@[simp] theorem alertUpdate_resp : (alertUpdate s).resp = s.resp := by unfold alertUpdate; simp only; split <;> rfl
@[simp] theorem raise_resp (x : Src) : (s.raise x).resp = s.resp := by simp [State.raise]
@[simp] theorem raiseIf_resp (c : Bool) (x : Src) : (s.raiseIf c x).resp = s.resp := by unfold State.raiseIf; split <;> simp
@[simp] theorem reject_resp (b : Blk) : (s.reject b).resp = s.resp := by simp [State.reject]
@[simp] theorem alertUpdate_ref : (alertUpdate s).ref = s.ref := by unfold alertUpdate; simp only; split <;> rfl
@[simp] theorem raise_ref (x : Src) : (s.raise x).ref = s.ref := by simp [State.raise]
@[simp] theorem raiseIf_ref (c : Bool) (x : Src) : (s.raiseIf c x).ref = s.ref := by unfold State.raiseIf; split <;> simp
@[simp] theorem reject_ref (b : Blk) : (s.reject b).ref = s.ref := by simp [State.reject]
@[simp] theorem alertUpdate_td : (alertUpdate s).td = s.td := by unfold alertUpdate; simp only; split <;> rfl
@[simp] theorem raise_td (x : Src) : (s.raise x).td = s.td := by simp [State.raise]
@[simp] theorem raiseIf_td (c : Bool) (x : Src) : (s.raiseIf c x).td = s.td := by unfold State.raiseIf; split <;> simp
@[simp] theorem reject_td (b : Blk) : (s.reject b).td = s.td := by simp [State.reject]
@[simp] theorem alertUpdate_refOut : (alertUpdate s).refOut = s.refOut := by unfold alertUpdate; simp only; split <;> rfl
@[simp] theorem raise_refOut (x : Src) : (s.raise x).refOut = s.refOut := by simp [State.raise]
@[simp] theorem raiseIf_refOut (c : Bool) (x : Src) : (s.raiseIf c x).refOut = s.refOut := by unfold State.raiseIf; split <;> simp
@[simp] theorem reject_refOut (b : Blk) : (s.reject b).refOut = s.refOut := by simp [State.reject]
@[simp] theorem alertUpdate_ptp : (alertUpdate s).ptp = s.ptp := by unfold alertUpdate; simp only; split <;> rfl
@[simp] theorem raise_ptp (x : Src) : (s.raise x).ptp = s.ptp := by simp [State.raise]
@[simp] theorem raiseIf_ptp (c : Bool) (x : Src) : (s.raiseIf c x).ptp = s.ptp := by unfold State.raiseIf; split <;> simp
@[simp] theorem reject_ptp (b : Blk) : (s.reject b).ptp = s.ptp := by simp [State.reject]
@[simp] theorem alertUpdate_wire : (alertUpdate s).wire = s.wire := by unfold alertUpdate; simp only; split <;> rfl
@[simp] theorem raise_wire (x : Src) : (s.raise x).wire = s.wire := by simp [State.raise]
@[simp] theorem raiseIf_wire (c : Bool) (x : Src) : (s.raiseIf c x).wire = s.wire := by unfold State.raiseIf; split <;> simp
@[simp] theorem reject_wire (b : Blk) : (s.reject b).wire = s.wire := by simp [State.reject]
@[simp] theorem alertUpdate_quad : (alertUpdate s).quad = s.quad := by unfold alertUpdate; simp only; split <;> rfl
@[simp] theorem raise_quad (x : Src) : (s.raise x).quad = s.quad := by simp [State.raise]
@[simp] theorem raiseIf_quad (c : Bool) (x : Src) : (s.raiseIf c x).quad = s.quad := by unfold State.raiseIf; split <;> simp
@[simp] theorem reject_quad (b : Blk) : (s.reject b).quad = s.quad := by simp [State.reject]
@[simp] theorem alertUpdate_ul : (alertUpdate s).ul = s.ul := by unfold alertUpdate; simp only; split <;> rfl
@[simp] theorem raise_ul (x : Src) : (s.raise x).ul = s.ul := by simp [State.raise]
@[simp] theorem raiseIf_ul (c : Bool) (x : Src) : (s.raiseIf c x).ul = s.ul := by unfold State.raiseIf; split <;> simp
@[simp] theorem reject_ul (b : Blk) : (s.reject b).ul = s.ul := by simp [State.reject]
@[simp] theorem alertUpdate_ulRx : (alertUpdate s).ulRx = s.ulRx := by unfold alertUpdate; simp only; split <;> rfl
@[simp] theorem raise_ulRx (x : Src) : (s.raise x).ulRx = s.ulRx := by simp [State.raise]
@[simp] theorem raiseIf_ulRx (c : Bool) (x : Src) : (s.raiseIf c x).ulRx = s.ulRx := by unfold State.raiseIf; split <;> simp
@[simp] theorem reject_ulRx (b : Blk) : (s.reject b).ulRx = s.ulRx := by simp [State.reject]
@[simp] theorem alertUpdate_laneRx : (alertUpdate s).laneRx = s.laneRx := by unfold alertUpdate; simp only; split <;> rfl
@[simp] theorem raise_laneRx (x : Src) : (s.raise x).laneRx = s.laneRx := by simp [State.raise]
@[simp] theorem raiseIf_laneRx (c : Bool) (x : Src) : (s.raiseIf c x).laneRx = s.laneRx := by unfold State.raiseIf; split <;> simp
@[simp] theorem reject_laneRx (b : Blk) : (s.reject b).laneRx = s.laneRx := by simp [State.reject]
@[simp] theorem alertUpdate_sdi : (alertUpdate s).sdi = s.sdi := by unfold alertUpdate; simp only; split <;> rfl
@[simp] theorem raise_sdi (x : Src) : (s.raise x).sdi = s.sdi := by simp [State.raise]
@[simp] theorem raiseIf_sdi (c : Bool) (x : Src) : (s.raiseIf c x).sdi = s.sdi := by unfold State.raiseIf; split <;> simp
@[simp] theorem reject_sdi (b : Blk) : (s.reject b).sdi = s.sdi := by simp [State.reject]
@[simp] theorem alertUpdate_mport : (alertUpdate s).mport = s.mport := by unfold alertUpdate; simp only; split <;> rfl
@[simp] theorem raise_mport (x : Src) : (s.raise x).mport = s.mport := by simp [State.raise]
@[simp] theorem raiseIf_mport (c : Bool) (x : Src) : (s.raiseIf c x).mport = s.mport := by unfold State.raiseIf; split <;> simp
@[simp] theorem reject_mport (b : Blk) : (s.reject b).mport = s.mport := by simp [State.reject]
@[simp] theorem alertUpdate_flow : (alertUpdate s).flow = s.flow := by unfold alertUpdate; simp only; split <;> rfl
@[simp] theorem raise_flow (x : Src) : (s.raise x).flow = s.flow := by simp [State.raise]
@[simp] theorem raiseIf_flow (c : Bool) (x : Src) : (s.raiseIf c x).flow = s.flow := by unfold State.raiseIf; split <;> simp
@[simp] theorem reject_flow (b : Blk) : (s.reject b).flow = s.flow := by simp [State.reject]
@[simp] theorem alertUpdate_xpt : (alertUpdate s).xpt = s.xpt := by unfold alertUpdate; simp only; split <;> rfl
@[simp] theorem raise_xpt (x : Src) : (s.raise x).xpt = s.xpt := by simp [State.raise]
@[simp] theorem raiseIf_xpt (c : Bool) (x : Src) : (s.raiseIf c x).xpt = s.xpt := by unfold State.raiseIf; split <;> simp
@[simp] theorem reject_xpt (b : Blk) : (s.reject b).xpt = s.xpt := by simp [State.reject]
@[simp] theorem alertUpdate_owner : (alertUpdate s).owner = s.owner := by unfold alertUpdate; simp only; split <;> rfl
@[simp] theorem raise_owner (x : Src) : (s.raise x).owner = s.owner := by simp [State.raise]
@[simp] theorem raiseIf_owner (c : Bool) (x : Src) : (s.raiseIf c x).owner = s.owner := by unfold State.raiseIf; split <;> simp
@[simp] theorem reject_owner (b : Blk) : (s.reject b).owner = s.owner := by simp [State.reject]
@[simp] theorem alertUpdate_cue : (alertUpdate s).cue = s.cue := by unfold alertUpdate; simp only; split <;> rfl
@[simp] theorem raise_cue (x : Src) : (s.raise x).cue = s.cue := by simp [State.raise]
@[simp] theorem raiseIf_cue (c : Bool) (x : Src) : (s.raiseIf c x).cue = s.cue := by unfold State.raiseIf; split <;> simp
@[simp] theorem reject_cue (b : Blk) : (s.reject b).cue = s.cue := by simp [State.reject]
@[simp] theorem alertUpdate_ttb : (alertUpdate s).ttb = s.ttb := by unfold alertUpdate; simp only; split <;> rfl
@[simp] theorem raise_ttb (x : Src) : (s.raise x).ttb = s.ttb := by simp [State.raise]
@[simp] theorem raiseIf_ttb (c : Bool) (x : Src) : (s.raiseIf c x).ttb = s.ttb := by unfold State.raiseIf; split <;> simp
@[simp] theorem reject_ttb (b : Blk) : (s.reject b).ttb = s.ttb := by simp [State.reject]
@[simp] theorem alertUpdate_vault : (alertUpdate s).vault = s.vault := by unfold alertUpdate; simp only; split <;> rfl
@[simp] theorem raise_vault (x : Src) : (s.raise x).vault = s.vault := by simp [State.raise]
@[simp] theorem raiseIf_vault (c : Bool) (x : Src) : (s.raiseIf c x).vault = s.vault := by unfold State.raiseIf; split <;> simp
@[simp] theorem reject_vault (b : Blk) : (s.reject b).vault = s.vault := by simp [State.reject]
@[simp] theorem alertUpdate_aud : (alertUpdate s).aud = s.aud := by unfold alertUpdate; simp only; split <;> rfl
@[simp] theorem raise_aud (x : Src) : (s.raise x).aud = s.aud := by simp [State.raise]
@[simp] theorem raiseIf_aud (c : Bool) (x : Src) : (s.raiseIf c x).aud = s.aud := by unfold State.raiseIf; split <;> simp
@[simp] theorem reject_aud (b : Blk) : (s.reject b).aud = s.aud := by simp [State.reject]
@[simp] theorem alertUpdate_wcomp : (alertUpdate s).wcomp = s.wcomp := by unfold alertUpdate; simp only; split <;> rfl
@[simp] theorem raise_wcomp (x : Src) : (s.raise x).wcomp = s.wcomp := by simp [State.raise]
@[simp] theorem raiseIf_wcomp (c : Bool) (x : Src) : (s.raiseIf c x).wcomp = s.wcomp := by unfold State.raiseIf; split <;> simp
@[simp] theorem reject_wcomp (b : Blk) : (s.reject b).wcomp = s.wcomp := by simp [State.reject]
@[simp] theorem alertUpdate_wscan : (alertUpdate s).wscan = s.wscan := by unfold alertUpdate; simp only; split <;> rfl
@[simp] theorem raise_wscan (x : Src) : (s.raise x).wscan = s.wscan := by simp [State.raise]
@[simp] theorem raiseIf_wscan (c : Bool) (x : Src) : (s.raiseIf c x).wscan = s.wscan := by unfold State.raiseIf; split <;> simp
@[simp] theorem reject_wscan (b : Blk) : (s.reject b).wscan = s.wscan := by simp [State.reject]
@[simp] theorem alertUpdate_bus : (alertUpdate s).bus = s.bus := by unfold alertUpdate; simp only; split <;> rfl
@[simp] theorem raise_bus (x : Src) : (s.raise x).bus = s.bus := by simp [State.raise]
@[simp] theorem raiseIf_bus (c : Bool) (x : Src) : (s.raiseIf c x).bus = s.bus := by unfold State.raiseIf; split <;> simp
@[simp] theorem reject_bus (b : Blk) : (s.reject b).bus = s.bus := by simp [State.reject]
@[simp] theorem alertUpdate_mgmt : (alertUpdate s).mgmt = s.mgmt := by unfold alertUpdate; simp only; split <;> rfl
@[simp] theorem raise_mgmt (x : Src) : (s.raise x).mgmt = s.mgmt := by simp [State.raise]
@[simp] theorem raiseIf_mgmt (c : Bool) (x : Src) : (s.raiseIf c x).mgmt = s.mgmt := by unfold State.raiseIf; split <;> simp
@[simp] theorem reject_mgmt (b : Blk) : (s.reject b).mgmt = s.mgmt := by simp [State.reject]
@[simp] theorem alertUpdate_snap : (alertUpdate s).snap = s.snap := by unfold alertUpdate; simp only; split <;> rfl
@[simp] theorem raise_snap (x : Src) : (s.raise x).snap = s.snap := by simp [State.raise]
@[simp] theorem raiseIf_snap (c : Bool) (x : Src) : (s.raiseIf c x).snap = s.snap := by unfold State.raiseIf; split <;> simp
@[simp] theorem reject_snap (b : Blk) : (s.reject b).snap = s.snap := by simp [State.reject]
@[simp] theorem alertUpdate_otp : (alertUpdate s).otp = s.otp := by unfold alertUpdate; simp only; split <;> rfl
@[simp] theorem raise_otp (x : Src) : (s.raise x).otp = s.otp := by simp [State.raise]
@[simp] theorem raiseIf_otp (c : Bool) (x : Src) : (s.raiseIf c x).otp = s.otp := by unfold State.raiseIf; split <;> simp
@[simp] theorem reject_otp (b : Blk) : (s.reject b).otp = s.otp := by simp [State.reject]
@[simp] theorem alertUpdate_idm : (alertUpdate s).idm = s.idm := by unfold alertUpdate; simp only; split <;> rfl
@[simp] theorem raise_idm (x : Src) : (s.raise x).idm = s.idm := by simp [State.raise]
@[simp] theorem raiseIf_idm (c : Bool) (x : Src) : (s.raiseIf c x).idm = s.idm := by unfold State.raiseIf; split <;> simp
@[simp] theorem reject_idm (b : Blk) : (s.reject b).idm = s.idm := by simp [State.reject]
@[simp] theorem alertUpdate_clk : (alertUpdate s).clk = s.clk := by unfold alertUpdate; simp only; split <;> rfl
@[simp] theorem raise_clk (x : Src) : (s.raise x).clk = s.clk := by simp [State.raise]
@[simp] theorem raiseIf_clk (c : Bool) (x : Src) : (s.raiseIf c x).clk = s.clk := by unfold State.raiseIf; split <;> simp
@[simp] theorem reject_clk (b : Blk) : (s.reject b).clk = s.clk := by simp [State.reject]
@[simp] theorem alertUpdate_rst : (alertUpdate s).rst = s.rst := by unfold alertUpdate; simp only; split <;> rfl
@[simp] theorem raise_rst (x : Src) : (s.raise x).rst = s.rst := by simp [State.raise]
@[simp] theorem raiseIf_rst (c : Bool) (x : Src) : (s.raiseIf c x).rst = s.rst := by unfold State.raiseIf; split <;> simp
@[simp] theorem reject_rst (b : Blk) : (s.reject b).rst = s.rst := by simp [State.reject]
@[simp] theorem alertUpdate_hbm : (alertUpdate s).hbm = s.hbm := by unfold alertUpdate; simp only; split <;> rfl
@[simp] theorem raise_hbm (x : Src) : (s.raise x).hbm = s.hbm := by simp [State.raise]
@[simp] theorem raiseIf_hbm (c : Bool) (x : Src) : (s.raiseIf c x).hbm = s.hbm := by unfold State.raiseIf; split <;> simp
@[simp] theorem reject_hbm (b : Blk) : (s.reject b).hbm = s.hbm := by simp [State.reject]
@[simp] theorem alertUpdate_fwu : (alertUpdate s).fwu = s.fwu := by unfold alertUpdate; simp only; split <;> rfl
@[simp] theorem raise_fwu (x : Src) : (s.raise x).fwu = s.fwu := by simp [State.raise]
@[simp] theorem raiseIf_fwu (c : Bool) (x : Src) : (s.raiseIf c x).fwu = s.fwu := by unfold State.raiseIf; split <;> simp
@[simp] theorem reject_fwu (b : Blk) : (s.reject b).fwu = s.fwu := by simp [State.reject]
@[simp] theorem alertUpdate_esc : (alertUpdate s).esc = s.esc := by unfold alertUpdate; simp only; split <;> rfl
@[simp] theorem raise_esc (x : Src) : (s.raise x).esc = s.esc := by simp [State.raise]
@[simp] theorem raiseIf_esc (c : Bool) (x : Src) : (s.raiseIf c x).esc = s.esc := by unfold State.raiseIf; split <;> simp
@[simp] theorem reject_esc (b : Blk) : (s.reject b).esc = s.esc := by simp [State.reject]

end Sys2Proof.Machine
end

