-- ==== Sys2Proof/Laws/Regs.lean ====
section
/-!
SUPPORT. The register file: what a register or a field reads as after a write of it, of another one, and after each of the
updates that leave the register file alone.
-/

namespace Sys2Proof

/-! ### Bit fields -/

theorem split_bits (w lo len : Nat) :
    w = 2 ^ lo * (2 ^ len * (w / 2 ^ lo / 2 ^ len) + bitsOf w lo len) + w % 2 ^ lo := by
  rw [bitsOf, Nat.div_add_mod, Nat.div_add_mod]

theorem putBits_eq (w lo len v : Nat) :
    putBits w lo len v = 2 ^ lo * (2 ^ len * (w / 2 ^ lo / 2 ^ len) + v % 2 ^ len) + w % 2 ^ lo := by
  unfold putBits
  conv_lhs => rw [split_bits w lo len]
  rw [← split_bits w lo len]
  have h := split_bits w lo len
  have e : 2 ^ lo * (2 ^ len * (w / 2 ^ lo / 2 ^ len) + bitsOf w lo len)
      = 2 ^ lo * (2 ^ len * (w / 2 ^ lo / 2 ^ len)) + bitsOf w lo len * 2 ^ lo := by ring
  have f : 2 ^ lo * (2 ^ len * (w / 2 ^ lo / 2 ^ len) + v % 2 ^ len)
      = 2 ^ lo * (2 ^ len * (w / 2 ^ lo / 2 ^ len)) + v % 2 ^ len * 2 ^ lo := by ring
  omega

theorem testBit_putBits (w lo len v i : Nat) :
    (putBits w lo len v).testBit i = if lo ≤ i ∧ i < lo + len then v.testBit (i - lo) else w.testBit i := by
  have hw (j : Nat) : (w / 2 ^ lo / 2 ^ len).testBit j = w.testBit (lo + len + j) := by
    rw [Nat.div_div_eq_div_mul, ← Nat.pow_add, Nat.testBit_div_two_pow]; congr 1; omega
  rw [putBits_eq, Nat.testBit_two_pow_mul_add _ (Nat.mod_lt _ (Nat.two_pow_pos lo)),
    Nat.testBit_two_pow_mul_add _ (Nat.mod_lt _ (Nat.two_pow_pos len))]
  by_cases h1 : i < lo
  · simp [h1, Nat.testBit_mod_two_pow]
  · by_cases h2 : i < lo + len
    · have h3 : i - lo < len := by omega
      simp [h1, h2, h3, Nat.testBit_mod_two_pow]
    · have h3 : ¬ i - lo < len := by omega
      have h4 : lo + len + (i - lo - len) = i := by omega
      simp [h1, h2, h3, hw, h4]

theorem testBit_bitsOf (w lo len i : Nat) : (bitsOf w lo len).testBit i = (decide (i < len) && w.testBit (lo + i)) := by
  rw [bitsOf, Nat.testBit_mod_two_pow, Nat.testBit_div_two_pow, Nat.add_comm i lo]

/-- A field written reads as what was written. -/
@[simp] theorem bitsOf_putBits_same (w lo len v : Nat) : bitsOf (putBits w lo len v) lo len = v % 2 ^ len := by
  apply Nat.eq_of_testBit_eq
  intro i
  rw [testBit_bitsOf, testBit_putBits, Nat.testBit_mod_two_pow]
  by_cases h : i < len <;> simp [h]

/-- A field written leaves the fields that do not meet it alone. -/
theorem bitsOf_putBits_ne (w lo len v lo' len' : Nat) (h : lo' + len' ≤ lo ∨ lo + len ≤ lo') :
    bitsOf (putBits w lo len v) lo' len' = bitsOf w lo' len' := by
  apply Nat.eq_of_testBit_eq
  intro i
  rw [testBit_bitsOf, testBit_bitsOf, testBit_putBits]
  by_cases hi : i < len'
  · rw [if_neg (by omega)]
  · simp [hi]

/-- A word with a field written is a word. -/
theorem putBits_lt (w lo len v n : Nat) (hw : w < 2 ^ n) (h : lo + len ≤ n) : putBits w lo len v < 2 ^ n := by
  apply Nat.lt_pow_two_of_testBit
  intro i hi
  rw [testBit_putBits, if_neg (by omega)]
  exact Nat.testBit_lt_two_pow (Nat.lt_of_lt_of_le hw (Nat.pow_le_pow_right (by decide) hi))

/-! ### Names and keys -/

theorem RegName.code_inj {r q : RegName} (h : r.code = q.code) : r = q := by
  have := congrArg RegName.ofNat h
  simpa [RegName.code, RegName.ofNat_ctorIdx] using this

theorem RegName.code_lt (r : RegName) : r.code < 1024 := by cases r <;> decide

end Sys2Proof

namespace Sys2Proof.Machine

theorem regKey_inj {r q : RegName} {i j : Nat} (h : regKey r i = regKey q j) : r = q ∧ i = j := by
  have h1 := r.code_lt
  have h2 := q.code_lt
  simp only [regKey] at h
  exact ⟨RegName.code_inj (by omega), by omega⟩

variable (s : State)

/-! ### Registers -/

@[simp] theorem reg_setReg_same (r : RegName) (i : Nat) (v : Word) : (s.setReg r i v).reg r i = v := by
  simp [State.reg, State.setReg]

theorem reg_setReg_ne {r q : RegName} {i j : Nat} (v : Word) (h : q = r → j ≠ i) :
    (s.setReg r i v).reg q j = s.reg q j := by
  have : regKey q j ≠ regKey r i := fun e => (h (regKey_inj e).1) (regKey_inj e).2
  simp [State.reg, State.setReg, AMap.get_set_ne _ _ _ this]

theorem reg_setReg_reg {r q : RegName} (i j : Nat) (v : Word) (h : q ≠ r) : (s.setReg r i v).reg q j = s.reg q j :=
  reg_setReg_ne s v (fun e => absurd e h)

theorem reg_of_regs {s t : State} (h : t.regs = s.regs) (r : RegName) (i : Nat) : t.reg r i = s.reg r i := by
  simp [State.reg, h]

/-! ### Fields -/

theorem Word.ofNat_toNat_of_lt {n : Nat} (h : n < 2 ^ 32) : (BitVec.ofNat 32 n).toNat = n := by
  rw [BitVec.toNat_ofNat, Nat.mod_eq_of_lt h]

/-- A field lies in its register's word. -/
def fldIn (f : Fld) : Prop := f.lo + f.len ≤ 32

theorem Fld.of_put {f : Fld} (h : f.lo + f.len ≤ 32) (w : Word) (v : Nat) : f.of (f.put w v) = v % 2 ^ f.len := by
  have := putBits_lt w.toNat f.lo f.len v 32 w.isLt h
  rw [Fld.of, Fld.put, Word.ofNat_toNat_of_lt this, bitsOf_putBits_same]

theorem Fld.of_put_ne {f g : Fld} (h : f.lo + f.len ≤ 32) (hd : g.lo + g.len ≤ f.lo ∨ f.lo + f.len ≤ g.lo) (w : Word) (v : Nat) :
    g.of (f.put w v) = g.of w := by
  have := putBits_lt w.toNat f.lo f.len v 32 w.isLt h
  rw [Fld.of, Fld.put, Word.ofNat_toNat_of_lt this, bitsOf_putBits_ne _ _ _ _ _ _ hd, Fld.of]

theorem fld_eq (f : Fld) (i : Nat) : s.fld f i = f.of (s.reg f.reg i) := rfl

/-- A field reads as what was written to it. -/
theorem fld_setFld_same {f : Fld} (h : f.lo + f.len ≤ 32) (i v : Nat) : (s.setFld f i v).fld f i = v % 2 ^ f.len := by
  rw [fld_eq, State.setFld, reg_setReg_same, Fld.of_put h]

/-- A field of another register, or of another element, is left alone. -/
theorem fld_setFld_reg {f g : Fld} {i j : Nat} (v : Nat) (h : g.reg = f.reg → j ≠ i) : (s.setFld f i v).fld g j = s.fld g j := by
  rw [fld_eq, State.setFld, reg_setReg_ne s _ h, fld_eq]

/-- A field of the same register that does not meet it is left alone. -/
theorem fld_setFld_bits {f g : Fld} (h : f.lo + f.len ≤ 32) (hr : g.reg = f.reg)
    (hd : g.lo + g.len ≤ f.lo ∨ f.lo + f.len ≤ g.lo) (i v : Nat) : (s.setFld f i v).fld g i = s.fld g i := by
  rw [fld_eq, State.setFld, hr, reg_setReg_same, Fld.of_put_ne h hd, fld_eq, hr]

theorem fld_setReg_same (f : Fld) (i : Nat) (v : Word) : (s.setReg f.reg i v).fld f i = f.of v := by
  rw [fld_eq, reg_setReg_same]

theorem fld_setReg_reg {f : Fld} {r : RegName} {i j : Nat} (v : Word) (h : f.reg = r → j ≠ i) :
    (s.setReg r i v).fld f j = s.fld f j := by
  rw [fld_eq, reg_setReg_ne s v h, fld_eq]

/-! ### Updates that leave the register file alone -/

@[simp] theorem reg_raise (x : Src) (r : RegName) (i : Nat) : (s.raise x).reg r i = s.reg r i := by simp [State.reg]
@[simp] theorem reg_raiseIf (c : Bool) (x : Src) (r : RegName) (i : Nat) : (s.raiseIf c x).reg r i = s.reg r i := by simp [State.reg]
@[simp] theorem reg_reject (b : Blk) (r : RegName) (i : Nat) : (s.reject b).reg r i = s.reg r i := by simp [State.reg]
@[simp] theorem reg_alertUpdate (r : RegName) (i : Nat) : (alertUpdate s).reg r i = s.reg r i := by simp [State.reg]
@[simp] theorem reg_commitReg (q : RegName) (j : Nat) (r : RegName) (i : Nat) : (s.commitReg q j).reg r i = s.reg r i := (rfl)
@[simp] theorem reg_setFaults (b : Blk) (f : FaultSet) (r : RegName) (i : Nat) : (s.setFaults b f).reg r i = s.reg r i := (rfl)
@[simp] theorem reg_store (a : Nat) (bs : List Byte) (r : RegName) (i : Nat) : (s.store a bs).reg r i = s.reg r i := (rfl)
@[simp] theorem reg_send (p : Nat) (bs : List Byte) (r : RegName) (i : Nat) : (s.send p bs).reg r i = s.reg r i := (rfl)
@[simp] theorem reg_respond (m v : Nat) (r : RegName) (i : Nat) : (s.respond m v).reg r i = s.reg r i := (rfl)
@[simp] theorem reg_respondErr (m : Nat) (r : RegName) (i : Nat) : (s.respondErr m).reg r i = s.reg r i := (rfl)
@[simp] theorem reg_setDom (d : Nat) (x : PtpDom) (r : RegName) (i : Nat) : (s.setDom d x).reg r i = s.reg r i := (rfl)
@[simp] theorem reg_setTd (n : Nat) (x : TdState) (r : RegName) (i : Nat) : (s.setTd n x).reg r i = s.reg r i := (rfl)

/-- A field of a state with the same register file. -/
theorem fld_of_regs {s t : State} (h : t.regs = s.regs) (f : Fld) (i : Nat) : t.fld f i = s.fld f i := by
  rw [fld_eq, fld_eq, reg_of_regs h]

@[simp] theorem fld_raise (x : Src) (f : Fld) (i : Nat) : (s.raise x).fld f i = s.fld f i := fld_of_regs (by simp) f i
@[simp] theorem fld_raiseIf (c : Bool) (x : Src) (f : Fld) (i : Nat) : (s.raiseIf c x).fld f i = s.fld f i := fld_of_regs (by simp) f i
@[simp] theorem fld_reject (b : Blk) (f : Fld) (i : Nat) : (s.reject b).fld f i = s.fld f i := fld_of_regs (by simp) f i
@[simp] theorem fld_alertUpdate (f : Fld) (i : Nat) : (alertUpdate s).fld f i = s.fld f i := fld_of_regs (by simp) f i

end Sys2Proof.Machine
end

