-- ==== Sys2Proof/Laws/Mem.lean ====
section
/-!
SUPPORT. The operations that leave memory alone.
-/

set_option linter.all false

namespace Sys2Proof.Machine

/-! ### Machine/Ops.lean -/

@[simp] theorem foldl_mem {α : Type} (g : State → α → State) (h : ∀ a x, (g a x).mem = a.mem) (l : List α) (s : State) :
    (l.foldl g s).mem = s.mem := by
  induction l generalizing s with
  | nil => rfl
  | cons x l ih => rw [List.foldl_cons, ih, h]

@[simp] theorem foldl_snd_mem {α β : Type} (g : β × State → α → β × State) (h : ∀ a x, (g a x).2.mem = a.2.mem)
    (l : List α) (p : β × State) : (l.foldl g p).2.mem = p.2.mem := by
  induction l generalizing p with
  | nil => rfl
  | cons x l ih => rw [List.foldl_cons, ih, h]

@[simp] theorem foldl_fst_mem {α β : Type} (g : State × β → α → State × β) (h : ∀ a x, (g a x).1.mem = a.1.mem)
    (l : List α) (p : State × β) : (l.foldl g p).1.mem = p.1.mem := by
  induction l generalizing p with
  | nil => rfl
  | cons x l ih => rw [List.foldl_cons, ih, h]

@[simp] theorem ite_mem (c : Prop) [Decidable c] (a b : State) :
    (if c then a else b).mem = if c then a.mem else b.mem := apply_ite _ _ _ _

@[simp] theorem plainWrite_mem (r : RegName) (i : ℕ) (v : Word) (s : State) : (plainWrite r i v s).mem = s.mem := by
  unfold plainWrite
  (repeat' split) <;> (simp; done)


@[simp] theorem guardedWrite_mem (bad : Bool) (r : RegName) (i : ℕ) (v : Word) (s : State) : (guardedWrite bad r i v s).mem = s.mem := by
  unfold guardedWrite
  simp


@[simp] theorem divFree_mem (s : State) (num : ℤ) (den : ℕ) : (State.divFree s num den).2.mem = s.mem := by
  unfold State.divFree
  simp; (repeat' split) <;> (simp; done)


@[simp] theorem runDom_mem (s : State) (d : ℕ) (ns : ℕ) : (State.runDom s d ns).mem = s.mem := by
  unfold State.runDom
  simp


@[simp] theorem slewEt_mem (ns : ℕ) (s : State) : (slewEt ns s).mem = s.mem := by
  unfold slewEt
  simp


@[simp] theorem elapse_mem (ns : ℕ) (s : State) : (elapse ns s).mem = s.mem := by
  unfold elapse
  simp


@[simp] theorem passTo_mem (t : ℤ) (s : State) : (passTo t s).mem = s.mem := by
  unfold passTo
  simp


@[simp] theorem passToNow_mem (t : ℕ) (s : State) : (passToNow t s).mem = s.mem := by
  unfold passToNow
  simp


@[simp] theorem setFlds_mem (s : State) (i : ℕ) (x2 : List (Fld × ℕ)) : (State.setFlds s i x2).mem = s.mem := by
  induction x2 generalizing s with
  | nil => rfl
  | cons e l ih => obtain ⟨f, v⟩ := e; simp [State.setFlds, ih]


@[simp] theorem noteBusFault_mem (m : ℕ) (cause : ℕ) (write : Bool) (a : ℕ) (s : State) : (noteBusFault m cause write a s).mem = s.mem := by
  unfold noteBusFault
  simp


@[simp] theorem denyAccess_mem (m : ℕ) (write : Bool) (a : ℕ) (s : State) : (denyAccess m write a s).mem = s.mem := by
  unfold denyAccess
  simp


@[simp] theorem byMaster_mem (m : ℕ) (r : RegName) (i : ℕ) (f : State → State) (s : State) (hf : ∀ a, (f a).mem = a.mem) : (byMaster m r i f s).mem = s.mem := by
  unfold byMaster
  simp [hf]


/-! ### Machine/Ptp.lean -/

@[simp] theorem setResid_mem (r : ℤ) (s : State) : (setResid r s).mem = s.mem := by
  unfold setResid
  simp


@[simp] theorem stepDomClock_mem (d : ℕ) (k : ℤ) (s : State) : (stepDomClock d k s).mem = s.mem := by
  unfold stepDomClock
  simp


@[simp] theorem setFreq_mem (d : ℕ) (y : ℤ) (s : State) : (setFreq d y s).mem = s.mem := by
  unfold setFreq
  simp


@[simp] theorem holdFreq_mem (d : ℕ) (s : State) : (holdFreq d s).mem = s.mem := by
  unfold holdFreq
  simp


@[simp] theorem setPtpState_mem (d : ℕ) (st : ℕ) (s : State) : (setPtpState d st s).mem = s.mem := by
  unfold setPtpState
  simp


@[simp] theorem tryAcquire_mem (d : ℕ) (s : State) : (tryAcquire d s).mem = s.mem := by
  unfold tryAcquire
  simp


@[simp] theorem enterPtpHoldover_mem (d : ℕ) (s : State) : (enterPtpHoldover d s).mem = s.mem := by
  unfold enterPtpHoldover
  simp


@[simp] theorem enterPtpLocked_mem (d : ℕ) (s : State) : (enterPtpLocked d s).mem = s.mem := by
  unfold enterPtpLocked
  simp


@[simp] theorem servoUpdate_mem (d : ℕ) (th : ℤ) (s : State) : (servoUpdate d th s).mem = s.mem := by
  unfold servoUpdate
  simp


@[simp] theorem acquiringOffset_mem (d : ℕ) (th : ℤ) (s : State) : (acquiringOffset d th s).mem = s.mem := by
  unfold acquiringOffset
  simp


@[simp] theorem lockedOffset_mem (d : ℕ) (th : ℤ) (s : State) : (lockedOffset d th s).mem = s.mem := by
  unfold lockedOffset
  simp


@[simp] theorem servoStep_mem (d : ℕ) (q : ℤ) (s : State) : (servoStep d q s).mem = s.mem := by
  unfold servoStep
  simp


@[simp] theorem servoOffset_mem (d : ℕ) (th : ℤ) (q : ℤ) (s : State) : (servoOffset d th q s).mem = s.mem := by
  unfold servoOffset
  simp


@[simp] theorem takeOffset_mem (d : ℕ) (t1 : ℕ) (t2 : ℕ) (c : ℤ) (s : State) : (takeOffset d t1 t2 c s).mem = s.mem := by
  unfold takeOffset
  simp


@[simp] theorem notePort_mem (d : ℕ) (port : Fin 2) (s : State) : (notePort d port s).mem = s.mem := by
  unfold notePort
  simp


@[simp] theorem ptpSync_mem (d : ℕ) (m : SyncMsg) (s : State) : (ptpSync d m s).mem = s.mem := by
  unfold ptpSync
  simp


@[simp] theorem ptpFollowUp_mem (d : ℕ) (m : FollowUpMsg) (s : State) : (ptpFollowUp d m s).mem = s.mem := by
  unfold ptpFollowUp
  (repeat' split) <;> (simp; done)


@[simp] theorem ptpDelayResp_mem (d : ℕ) (m : DelayRespMsg) (s : State) : (ptpDelayResp d m s).mem = s.mem := by
  unfold ptpDelayResp
  (repeat' split) <;> (simp; done)


@[simp] theorem selectMaster_mem (d : ℕ) (s : State) : (selectMaster d s).mem = s.mem := by
  unfold selectMaster
  (repeat' split) <;> (simp; done)


@[simp] theorem ptpAnnounce_mem (d : ℕ) (m : AnnounceMsg) (s : State) : (ptpAnnounce d m s).mem = s.mem := by
  unfold ptpAnnounce
  simp


@[simp] theorem ptpAnnounceTimeout_mem (d : ℕ) (s : State) : (ptpAnnounceTimeout d s).mem = s.mem := by
  unfold ptpAnnounceTimeout
  (repeat' split) <;> (simp; done)


@[simp] theorem sendDelayReq_mem (d : ℕ) (port : ℕ) (s : State) : (sendDelayReq d port s).mem = s.mem := by
  unfold sendDelayReq
  simp


@[simp] theorem setPtpWaiting_mem (s : State) (port : ℕ) (l : List ℕ) : (State.setPtpWaiting s port l).mem = s.mem := by
  unfold State.setPtpWaiting
  simp


@[simp] theorem flushDelayReq_mem (port : ℕ) (s : State) : (flushDelayReq port s).mem = s.mem := by
  unfold flushDelayReq
  simp


@[simp] theorem ptpDelayReqTx_mem (d : ℕ) (s : State) : (ptpDelayReqTx d s).mem = s.mem := by
  unfold ptpDelayReqTx
  simp


@[simp] theorem domEnableEffect_mem (d : ℕ) (was : Bool) (s : State) : (domEnableEffect d was s).mem = s.mem := by
  unfold domEnableEffect
  simp


@[simp] theorem writePtpDomCfg_mem (d : ℕ) (v : Word) (s : State) : (writePtpDomCfg d v s).mem = s.mem := by
  unfold writePtpDomCfg
  simp


@[simp] theorem etDoSwitch_mem (s : State) : (etDoSwitch s).mem = s.mem := by
  unfold etDoSwitch
  simp


@[simp] theorem etRetarget_mem (n : ℕ) (s : State) : (etRetarget n s).mem = s.mem := by
  unfold etRetarget
  simp


@[simp] theorem etFollow_mem (s : State) : (etFollow s).mem = s.mem := by
  unfold etFollow
  simp


@[simp] theorem writeEtCfg_mem (v : Word) (s : State) : (writeEtCfg v s).mem = s.mem := by
  unfold writeEtCfg
  simp


@[simp] theorem etPendingSwitch_mem (s : State) : (etPendingSwitch s).mem = s.mem := by
  unfold etPendingSwitch
  simp


@[simp] theorem etSlewEnd_mem (s : State) : (etSlewEnd s).mem = s.mem := by
  unfold etSlewEnd
  simp


@[simp] theorem writeEtStep_mem (v : Word) (s : State) : (writeEtStep v s).mem = s.mem := by
  unfold writeEtStep
  simp


@[simp] theorem sendTiles_mem (msg : List Byte) (s : State) : (sendTiles msg s).mem = s.mem := by
  unfold sendTiles
  simp


@[simp] theorem tileSync_mem (s : State) : (tileSync s).mem = s.mem := by
  unfold tileSync
  simp


@[simp] theorem tileAnnounce_mem (s : State) : (tileAnnounce s).mem = s.mem := by
  unfold tileAnnounce
  simp


@[simp] theorem tileDelay_mem (p : ℕ) (sender : ℕ) (seq : BitVec 16) (s : State) : (tileDelay p sender seq s).mem = s.mem := by
  unfold tileDelay
  simp


@[simp] theorem setTsQueue_mem (s : State) (p : ℕ) (q : List (BitVec 16 × ℕ)) : (State.setTsQueue s p q).mem = s.mem := by
  unfold State.setTsQueue
  simp


@[simp] theorem tsqAppend_mem (p : ℕ) (tag : BitVec 16) (s : State) : (tsqAppend p tag s).mem = s.mem := by
  unfold tsqAppend
  simp


@[simp] theorem tsqPopTo_mem (m : ℕ) (p : ℕ) (s : State) : (tsqPopTo m p s).mem = s.mem := by
  unfold tsqPopTo
  (repeat' split) <;> (simp; done)


@[simp] theorem etReadTo_mem (m : ℕ) (s : State) : (etReadTo m s).mem = s.mem := by
  unfold etReadTo
  simp


@[simp] theorem writePtp_mem (r : RegName) (i : ℕ) (v : Word) (s : State) : (writePtp r i v s).mem = s.mem := by
  unfold writePtp
  (repeat' split) <;> (simp; done)


/-! ### Machine/RefUnit.lean -/

@[simp] theorem armCrash_mem (s : State) : (armCrash s).mem = s.mem := by
  unfold armCrash
  simp


@[simp] theorem showSlewing_mem (s : State) : (showSlewing s).mem = s.mem := by
  unfold showSlewing
  simp


@[simp] theorem enterAcquire_mem (s : State) : (enterAcquire s).mem = s.mem := by
  unfold enterAcquire
  simp


@[simp] theorem ownSlewing_mem (s : State) : (ownSlewing s).mem = s.mem := by
  unfold ownSlewing
  simp


@[simp] theorem endPhaseBuild_mem (s : State) : (endPhaseBuild s).mem = s.mem := by
  unfold endPhaseBuild
  simp


@[simp] theorem enterHoldover_mem (s : State) : (enterHoldover s).mem = s.mem := by
  unfold enterHoldover
  simp; (repeat' split) <;> (simp; done)


@[simp] theorem loseReference_mem (s : State) : (loseReference s).mem = s.mem := by
  unfold loseReference
  simp


@[simp] theorem disqualify_mem (n : ℕ) (s : State) : (disqualify n s).mem = s.mem := by
  unfold disqualify
  simp


@[simp] theorem qualify_mem (n : ℕ) (ana : AnaFormat) (s : State) : (qualify n ana s).mem = s.mem := by
  unfold qualify
  simp


@[simp] theorem sourceFails_mem (n : ℕ) (monitorFailed : Bool) (s : State) : (sourceFails n monitorFailed s).mem = s.mem := by
  unfold sourceFails
  simp


@[simp] theorem acceptRefsel_mem (v : ℕ) (s : State) : (acceptRefsel v s).mem = s.mem := by
  unfold acceptRefsel
  simp


@[simp] theorem refselSampled_mem (v : ℕ) (s : State) : (refselSampled v s).mem = s.mem := by
  unfold refselSampled
  simp


@[simp] theorem takeOfsSample_mem (n : ℕ) (x : ℤ) (s : State) : (takeOfsSample n x s).mem = s.mem := by
  unfold takeOfsSample
  simp


@[simp] theorem showLagged_mem (s : State) : (showLagged s).mem = s.mem := by
  unfold showLagged
  simp


@[simp] theorem driftCheck_mem (s : State) : (driftCheck s).mem = s.mem := by
  unfold driftCheck
  simp


@[simp] theorem noteHistory_mem (samples : List (Fin 8 × ℤ)) (s : State) : (noteHistory samples s).mem = s.mem := by
  unfold noteHistory
  (repeat' split) <;> (simp; done)


@[simp] theorem offsetSamples_mem (samples : List (Fin 8 × ℤ)) (s : State) : (offsetSamples samples s).mem = s.mem := by
  unfold offsetSamples
  simp


@[simp] theorem noteDisagree_mem (lasting : List (Fin 8 × Fin 8)) (s : State) : (noteDisagree lasting s).mem = s.mem := by
  unfold noteDisagree
  simp; (repeat' split) <;> (simp; done)


@[simp] theorem showPhaseErr_mem (err : ℤ) (s : State) : (showPhaseErr err s).mem = s.mem := by
  unfold showPhaseErr
  simp


@[simp] theorem loopStepDownTo_mem (err : ℤ) (s : State) : (loopStepDownTo err s).mem = s.mem := by
  unfold loopStepDownTo
  simp


@[simp] theorem loopRelock_mem (err : ℤ) (s : State) : (loopRelock err s).mem = s.mem := by
  unfold loopRelock
  simp


@[simp] theorem phaseBuilt_mem (err : ℤ) (s : State) : (phaseBuilt err s).mem = s.mem := by
  unfold phaseBuilt
  simp


@[simp] theorem tdOpen_mem (n : ℕ) (ph : ℤ) (t : FrameTimes) (s : State) : (tdOpen n ph t s).mem = s.mem := by
  unfold tdOpen
  simp


@[simp] theorem tdShut_mem (n : ℕ) (t : FrameTimes) (s : State) : (tdShut n t s).mem = s.mem := by
  unfold tdShut
  simp


@[simp] theorem tdEnableEffect_mem (n : ℕ) (was : Bool) (s : State) : (tdEnableEffect n was s).mem = s.mem := by
  unfold tdEnableEffect
  simp


@[simp] theorem writeTdCfg_mem (n : ℕ) (v : Word) (s : State) : (writeTdCfg n v s).mem = s.mem := by
  unfold writeTdCfg
  simp


@[simp] theorem writeTdLines_mem (n : ℕ) (v : Word) (s : State) : (writeTdLines n v s).mem = s.mem := by
  unfold writeTdLines
  simp


@[simp] theorem writeTdPhase_mem (n : ℕ) (v : Word) (s : State) : (writeTdPhase n v s).mem = s.mem := by
  unfold writeTdPhase
  simp


@[simp] theorem tdSlewEnd_mem (n : ℕ) (s : State) : (tdSlewEnd n s).mem = s.mem := by
  unfold tdSlewEnd
  simp


@[simp] theorem writeRefOut_mem (v : Word) (s : State) : (writeRefOut v s).mem = s.mem := by
  unfold writeRefOut
  simp


@[simp] theorem toPulse_mem (s : State) : (toPulse s).mem = s.mem := by
  unfold toPulse
  simp; (repeat' split) <;> (simp; done)


@[simp] theorem refOutPulses_mem (s : State) : (refOutPulses s).mem = s.mem := by
  unfold refOutPulses
  simp


@[simp] theorem writeRequal_mem (v : Word) (s : State) : (writeRequal v s).mem = s.mem := by
  unfold writeRequal
  simp


@[simp] theorem writePpsHi_mem (v : Word) (s : State) : (writePpsHi v s).mem = s.mem := by
  unfold writePpsHi
  simp


@[simp] theorem ppsEdge_mem (instant : ℕ) (s : State) : (ppsEdge instant s).mem = s.mem := by
  unfold ppsEdge
  simp


@[simp] theorem writeLoopCfg_mem (v : Word) (s : State) : (writeLoopCfg v s).mem = s.mem := by
  unfold writeLoopCfg
  simp


@[simp] theorem writeHoldCfg_mem (v : Word) (s : State) : (writeHoldCfg v s).mem = s.mem := by
  unfold writeHoldCfg
  simp


@[simp] theorem writeRef_mem (r : RegName) (i : ℕ) (v : Word) (s : State) : (writeRef r i v s).mem = s.mem := by
  unfold writeRef
  (repeat' split) <;> (simp; done)


/-! ### Machine/Xpt.lean -/

theorem reserveStore_mem (s : State) (e : ℕ) (stride : ℕ) : ∀ t, State.reserveStore s e stride = some t → t.mem = s.mem := by
  intro t h
  unfold State.reserveStore at h
  first
  | (repeat' split at h) <;> (simp_all; done)
  | (repeat' split at h) <;> first | contradiction | (cases h; simp; done)


@[simp] theorem releaseStore_mem (s : State) (e : ℕ) : (State.releaseStore s e).mem = s.mem := by
  unfold State.releaseStore
  simp


@[simp] theorem setVin_mem (s : State) (v : ℕ) (x : VinRec) : (State.setVin s v x).mem = s.mem := by
  unfold State.setVin
  simp


@[simp] theorem setRoutes_mem (s : State) (d : ℕ) (x : RouteSet) : (State.setRoutes s d x).mem = s.mem := by
  unfold State.setRoutes
  simp


@[simp] theorem reserveVin_mem (v : ℕ) (fmt : ℕ) (s : State) : (reserveVin v fmt s).mem = s.mem := by
  unfold reserveVin
  split
  · exact reserveStore_mem _ _ _ _ ‹_›
  · simp


@[simp] theorem attachVin_mem (v : ℕ) (kind : ℕ) (fmt : ℕ) (map : ℕ) (din10 : ℕ) (s : State) : (attachVin v kind fmt map din10 s).mem = s.mem := by
  unfold attachVin
  simp


@[simp] theorem detachVin_mem (v : ℕ) (s : State) : (detachVin v s).mem = s.mem := by
  unfold detachVin
  simp


@[simp] theorem setVinPresent_mem (v : ℕ) (b : Bool) (s : State) : (setVinPresent v b s).mem = s.mem := by
  unfold setVinPresent
  simp


@[simp] theorem closeMargins_mem (n : ℕ) (s : State) : (closeMargins n s).mem = s.mem := by
  unfold closeMargins
  simp


@[simp] theorem setHbm_mem (s : State) (user : ℕ) (a : ℕ) (b : ℕ) : (State.setHbm s user a b).mem = s.mem := by
  unfold State.setHbm
  simp


theorem newSync_mem {v n : Nat} {armed : Bool} {s t : State} {j : Nat} (h : newSync v n armed s = .ok (j, t)) : t.mem = s.mem := by
  unfold newSync at h
  simp only [] at h
  split at h
  · cases h
  · split at h
    · cases h
    · split at h
      · cases h
      · have := reserveStore_mem _ _ _ _ ‹_›
        generalize (if s.lowerStack = 0 then fsMbps (fmtKbps (s.vinRec v).fmt) else 0) = x at h
        generalize (if s.lowerStack = 1 then fsMbps (fmtKbps (s.vinRec v).fmt) else 0) = y at h
        split at h
        · cases h; simp [this]
        · cases h

@[simp] theorem dropSyncs_mem (s : State) : (dropSyncs s).mem = s.mem := by
  unfold dropSyncs
  simp


theorem newPipeFs_mem {q v n mb stride : Nat} {s t : State} (h : newPipeFs q v n mb stride s = .ok t) : t.mem = s.mem := by
  unfold newPipeFs at h
  have key : ∀ u, (if stride = 0 then some s else s.reserveStore (2048 + q) stride) = some u → u.mem = s.mem := by
    intro u hu
    split at hu
    · cases hu; rfl
    · exact reserveStore_mem _ _ _ _ hu
  split at h
  · split at h <;> cases h <;> rfl
  · simp only [] at h
    generalize (if stride = 0 then some s else s.reserveStore (2048 + q) stride) = w at h key
    split at h
    · cases h
    · cases w with
      | none => cases h
      | some u =>
        simp only [] at h
        generalize (if s.lowerStack = 0 then mb else 0) = x at h
        generalize (if s.lowerStack = 1 then mb else 0) = y at h
        split at h
        · cases h; simp [key]
        · cases h

@[simp] theorem dropPipeFs_mem (s : State) : (dropPipeFs s).mem = s.mem := by
  unfold dropPipeFs
  simp


@[simp] theorem refuseRoute_mem (o : ℕ) (n : ℕ) (reason : ℕ) (s : State) : (refuseRoute o n reason s).mem = s.mem := by
  unfold refuseRoute
  simp


theorem storeFor_mem {s t : State} {v o n path q u : Nat} {w : Bool} {d : Int}
    (h : s.storeFor v o n path q = .ok (u, w, d, t)) : t.mem = s.mem := by
  unfold State.storeFor at h
  split at h
  · split at h
    · cases h; rfl
    · split at h
      · cases h; exact newSync_mem ‹_›
      · cases h
  · split at h
    · cases h; exact newPipeFs_mem ‹_›
    · cases h
  · cases h; rfl

theorem decideRoute_mem {o v n : Nat} {classP : Bool} {s t : State} {r : Route} (h : decideRoute o v n classP s = .ok (r, t)) :
    t.mem = s.mem := by
  unfold decideRoute at h
  dsimp only at h
  split at h
  · cases h
  · split at h
    · cases h
    · split at h
      · cases h
      · split at h
        · cases h
        · split at h
          · cases h
          · cases h
            rename_i h1
            exact (storeFor_mem h1).trans (by simp)

@[simp] theorem requestRoute_mem (o : ℕ) (v : ℕ) (n : ℕ) (classP : Bool) (s : State) : (requestRoute o v n classP s).2.mem = s.mem := by
  unfold requestRoute
  split
  · have := decideRoute_mem ‹_›
    simp [this]
  · simp


@[simp] theorem withdrawRequest_mem (d : ℕ) (s : State) : (withdrawRequest d s).mem = s.mem := by
  unfold withdrawRequest
  simp


@[simp] theorem removeRoutes_mem (d : ℕ) (s : State) : (removeRoutes d s).mem = s.mem := by
  unfold removeRoutes
  simp


@[simp] theorem applyPlan_mem (plan : List RouteItem) (i : RouteItem) (s : State) : (applyPlan plan i s).mem = s.mem := by
  unfold applyPlan
  (repeat' split) <;> (simp; done)


@[simp] theorem capacityAct_mem (n : ℕ) (s : State) : (capacityAct n s).mem = s.mem := by
  unfold capacityAct
  simp


@[simp] theorem dropStores_mem (x0 : ℕ) (x1 : State) : (dropStores x0 x1).mem = x1.mem := by
  induction x0 generalizing x1 with
  | zero => rfl
  | succ k ih =>
    unfold dropStores
    split
    · rfl
    · split
      · rfl
      · dsimp only
        rw [ih]
        simp


@[simp] theorem restoreStores_mem (s : State) : (restoreStores s).mem = s.mem := by
  unfold restoreStores
  refine foldl_mem _ ?_ _ _
  intro a x
  split
  · have h := reserveStore_mem _ _ _ _ ‹_›
    split <;> simp [h]
  · rfl


@[simp] theorem recap_mem (f : State → State) (s : State) (hf : ∀ a, (f a).mem = a.mem) : (recap f s).mem = s.mem := by
  unfold recap
  simp [hf]


@[simp] theorem setSlice_mem (k : ℕ) (st : ℕ) (pos : ℕ) (s : State) : (setSlice k st pos s).mem = s.mem := by
  unfold setSlice
  simp


@[simp] theorem poolPut_mem (e : ℕ) (l : PoolLine) (s : State) : (poolPut e l s).mem = s.mem := by
  unfold poolPut
  simp


@[simp] theorem fsPutAll_mem (v : ℕ) (fmt : ℕ) (l : LineIn) (pl : PoolLine) (s : State) : (fsPutAll v fmt l pl s).mem = s.mem := by
  unfold fsPutAll
  simp


@[simp] theorem writeLine_mem (v : ℕ) (l : LineIn) (s : State) : (writeLine v l s).mem = s.mem := by
  unfold writeLine
  simp


@[simp] theorem noteCheckFail_mem (o : ℕ) (p : ℕ) (w : Option ℕ) (s : State) : (noteCheckFail o p w s).mem = s.mem := by
  unfold noteCheckFail
  (repeat' split) <;> (simp; done)


@[simp] theorem mergeP_mem (e : ℕ) (o : ℕ) (pl : PoolLine) (bad : List WordFault) (s : State) : (mergeP e o pl bad s).2.mem = s.mem := by
  unfold mergeP
  simp; (repeat' split) <;> (simp; done)


@[simp] theorem readT_mem (e : ℕ) (o : ℕ) (planeB : Bool) (pl : PoolLine) (bad : List WordFault) (s : State) : (readT e o planeB pl bad s).2.mem = s.mem := by
  unfold readT
  simp


@[simp] theorem readRoute_mem (e : ℕ) (o : ℕ) (r : Route) (pl : PoolLine) (bad : List WordFault) (s : State) : (readRoute e o r pl bad s).2.mem = s.mem := by
  unfold readRoute
  (repeat' split) <;> (simp; done)


@[simp] theorem readWindow_mem (o : ℕ) (r : Route) (pl : PoolLine) (offs : List ℤ) (words : List (List Byte)) (s : State) : (readWindow o r pl offs words s).2.mem = s.mem := by
  unfold readWindow
  simp; (repeat' split) <;> (simp; done)


@[simp] theorem readLine_mem (o : ℕ) (frame : ℕ) (line : ℕ) (offs : List ℤ) (bad : List WordFault) (s : State) : (readLine o frame line offs bad s).mem = s.mem := by
  unfold readLine
  (repeat' split) <;> (simp; done)


@[simp] theorem commitVoutCfg_mem (n : ℕ) (s : State) : (commitVoutCfg n s).mem = s.mem := by
  unfold commitVoutCfg
  refine foldl_mem _ ?_ _ _
  intro a x
  (repeat' split) <;> simp


@[simp] theorem commitRoutes_mem (n : ℕ) (layers : List ℕ) (s : State) : (commitRoutes n layers s).mem = s.mem := by
  unfold commitRoutes
  simp


@[simp] theorem stepSyncs_mem (n : ℕ) (s : State) : (stepSyncs n s).mem = s.mem := by
  unfold stepSyncs
  (repeat' split) <;> (simp; done)


@[simp] theorem feedersGone_mem (n : ℕ) (s : State) : (feedersGone n s).mem = s.mem := by
  unfold feedersGone
  simp


@[simp] theorem takeOverlap_mem (n : ℕ) (s : State) : (takeOverlap n s).mem = s.mem := by
  unfold takeOverlap
  simp


@[simp] theorem xptShutter_mem (n : ℕ) (layers : List ℕ) (s : State) : (xptShutter n layers s).mem = s.mem :=
  (dropPipeFs_mem _).trans <| (dropSyncs_mem _).trans <| (feedersGone_mem n _).trans <| (capacityAct_mem n _).trans <|
    (closeMargins_mem n _).trans <| (commitRoutes_mem n layers _).trans <| (stepSyncs_mem n _).trans <|
    (commitVoutCfg_mem n _).trans (takeOverlap_mem n s)


@[simp] theorem xptOverlapClose_mem (n : ℕ) (s : State) : (xptOverlapClose n s).mem = s.mem := by
  unfold xptOverlapClose
  simp


@[simp] theorem writeOverlap_mem (v : Word) (s : State) : (writeOverlap v s).mem = s.mem := by
  unfold writeOverlap
  simp


@[simp] theorem setArmed_mem (v : ℕ) (n : ℕ) (b : Bool) (s : State) : (setArmed v n b s).mem = s.mem := by
  unfold setArmed
  simp


@[simp] theorem writeVinCfg_mem (v : ℕ) (w : Word) (s : State) : (writeVinCfg v w s).mem = s.mem := by
  unfold writeVinCfg
  try dsimp only
  split
  · split
    · simp
    · split
      · simp
      · split
        · have := newSync_mem ‹_›
          simp [this]
        · simp
  · simp


@[simp] theorem writeVoutCfg_mem (o : ℕ) (w : Word) (s : State) : (writeVoutCfg o w s).mem = s.mem := by
  unfold writeVoutCfg
  simp


@[simp] theorem writeXpt_mem (r : RegName) (i : ℕ) (v : Word) (s : State) : (writeXpt r i v s).mem = s.mem := by
  unfold writeXpt
  (repeat' split) <;> (simp; done)


/-! ### Machine/Lane.lean -/

@[simp] theorem setQuad_mem (s : State) (q : ℕ) (x : QuadState) : (State.setQuad s q x).mem = s.mem := by
  unfold State.setQuad
  simp


@[simp] theorem stopPll_mem (q : ℕ) (k : ℕ) (s : State) : (stopPll q k s).mem = s.mem := by
  unfold stopPll
  simp


@[simp] theorem detachTx_mem (n : ℕ) (s : State) : (detachTx n s).mem = s.mem := by
  unfold detachTx
  simp


theorem attachTx_mem (n : ℕ) (rate : ℕ) (s : State) : ∀ t, attachTx n rate s = some t → t.mem = s.mem := by
  intro t h
  unfold attachTx at h
  extract_lets q at h
  split at h
  · cases h
  · simp only [Option.some.injEq] at h
    subst h
    split <;> simp


theorem attachAll_mem (rate : ℕ) (x1 : List ℕ) (x2 : State) : ∀ t, attachAll rate x1 x2 = some t → t.mem = x2.mem := by
  intro t h
  induction x1 generalizing x2 with
  | nil => simp only [attachAll, Option.some.injEq] at h; rw [h]
  | cons n ns ih =>
    simp only [attachAll, Option.bind_eq_some_iff] at h
    obtain ⟨u, h1, h2⟩ := h
    rw [ih _ h2, attachTx_mem _ _ _ _ h1]


@[simp] theorem reassignRx_mem (n : ℕ) (s : State) : (reassignRx n s).mem = s.mem := by
  unfold reassignRx
  simp


@[simp] theorem takeLaneCfg_mem (v : Word) (n : ℕ) (s : State) : (takeLaneCfg v n s).mem = s.mem := by
  unfold takeLaneCfg
  simp


theorem assignLane_mem (n : ℕ) (v : Word) (s : State) : ∀ t, assignLane n v s = some t → t.mem = s.mem := by
  intro t h
  unfold assignLane at h
  extract_lets old new rx tx s1 s2 s3 s4 s5 at h
  have e4 : s4.mem = s.mem := by simp only [s4]; split <;> simp [s3, s2, s1]
  have e5 : s5.mem = s.mem := by simp [s5, e4]
  split at h
  · rw [← Option.some.inj h]; exact e4
  · split at h
    · rw [← Option.some.inj h]; exact e5
    · rw [attachAll_mem _ _ _ _ h, e5]


@[simp] theorem writeLaneCfg_mem (n : ℕ) (v : Word) (s : State) : (writeLaneCfg n v s).mem = s.mem := by
  unfold writeLaneCfg
  split
  · split <;> simp
  · split
    · simp
    · split
      · exact assignLane_mem _ _ _ _ ‹_›
      · simp


@[simp] theorem pllLocks_mem (q : ℕ) (k : ℕ) (s : State) : (pllLocks q k s).mem = s.mem := by
  unfold pllLocks
  simp


@[simp] theorem pllLoses_mem (q : ℕ) (k : ℕ) (s : State) : (pllLoses q k s).mem = s.mem := by
  unfold pllLoses
  simp


@[simp] theorem moveToSpare_mem (q : ℕ) (k : ℕ) (s : State) : (moveToSpare q k s).mem = s.mem := by
  unfold moveToSpare
  simp


@[simp] theorem pllSwaps_mem (q : ℕ) (s : State) : (pllSwaps q s).mem = s.mem := by
  unfold pllSwaps
  simp


@[simp] theorem pllRelocks_mem (q : ℕ) (k : ℕ) (s : State) : (pllRelocks q k s).mem = s.mem := by
  unfold pllRelocks
  simp


@[simp] theorem setRx_mem (s : State) (n : ℕ) (x : LaneRx) : (State.setRx s n x).mem = s.mem := by
  unfold State.setRx
  simp


@[simp] theorem cdrLocks_mem (n : ℕ) (rate : ℕ) (s : State) : (cdrLocks n rate s).mem = s.mem := by
  unfold cdrLocks
  simp


@[simp] theorem adaptFinishes_mem (n : ℕ) (s : State) : (adaptFinishes n s).mem = s.mem := by
  unfold adaptFinishes
  simp


@[simp] theorem adaptFails_mem (n : ℕ) (s : State) : (adaptFails n s).mem = s.mem := by
  unfold adaptFails
  simp


@[simp] theorem writeRxEq_mem (n : ℕ) (v : Word) (s : State) : (writeRxEq n v s).mem = s.mem := by
  unfold writeRxEq
  simp


@[simp] theorem noteEyeLedger_mem (n : ℕ) (h : ℕ) (v : ℕ) (s : State) : (noteEyeLedger n h v s).mem = s.mem := by
  unfold noteEyeLedger
  simp


@[simp] theorem eyeMeasured_mem (n : ℕ) (h : ℕ) (v : ℕ) (s : State) : (eyeMeasured n h v s).mem = s.mem := by
  unfold eyeMeasured
  simp


@[simp] theorem writeEyeClr_mem (v : Word) (s : State) : (writeEyeClr v s).mem = s.mem := by
  unfold writeEyeClr
  simp


@[simp] theorem losSets_mem (n : ℕ) (s : State) : (losSets n s).mem = s.mem := by
  unfold losSets
  simp


@[simp] theorem losClears_mem (n : ℕ) (s : State) : (losClears n s).mem = s.mem := by
  unfold losClears
  simp


@[simp] theorem cdrLoses_mem (n : ℕ) (s : State) : (cdrLoses n s).mem = s.mem := by
  unfold cdrLoses
  simp


@[simp] theorem writeLane_mem (r : RegName) (i : ℕ) (v : Word) (s : State) : (writeLane r i v s).mem = s.mem := by
  unfold writeLane
  (repeat' split) <;> (simp; done)


/-! ### Machine/VaultUnits.lean -/

@[simp] theorem setUnit_mem (s : State) (e : ℕ) (st : ℕ) : (State.setUnit s e st).mem = s.mem := by
  unfold State.setUnit
  simp


@[simp] theorem requestRun_mem (e : ℕ) (rotate : Bool) (s : State) : (requestRun e rotate s).mem = s.mem := by
  unfold requestRun
  simp


@[simp] theorem parkUnit_mem (e : ℕ) (s : State) : (parkUnit e s).mem = s.mem := by
  unfold parkUnit
  simp


/-! ### Machine/Aud.lean -/

@[simp] theorem setInSlot_mem (s : State) (i : ℕ) (x : InSlot) : (State.setInSlot s i x).mem = s.mem := by
  unfold State.setInSlot
  simp


@[simp] theorem unfeed_mem (kind : ℕ) (unit : ℕ) (s : State) : (unfeed kind unit s).mem = s.mem := by
  unfold unfeed
  simp


@[simp] theorem feed_mem (f : AudFeed) (s : State) : (feed f s).mem = s.mem := by
  unfold feed
  simp


@[simp] theorem setAlignRun_mem (s : State) (k : ℕ) (x : AlignRun) : (State.setAlignRun s k x).mem = s.mem := by
  unfold State.setAlignRun
  simp


@[simp] theorem countSlip_mem (k : ℕ) (rep : ℕ) (drop : ℕ) (s : State) : (countSlip k rep drop s).mem = s.mem := by
  unfold countSlip
  simp


@[simp] theorem takeCs_mem (i : ℕ) (a : AudSample) (keep : ℕ → Bool) (s : State) : (takeCs i a keep s).mem = s.mem := by
  unfold takeCs
  simp


@[simp] theorem pushSample_mem (i : ℕ) (a : AudSample) (s : State) : (pushSample i a s).mem = s.mem := by
  unfold pushSample
  simp


@[simp] theorem deliver_mem (i : ℕ) (a : AudSample) (s : State) : (deliver i a s).mem = s.mem := by
  unfold deliver
  (repeat' split) <;> (simp; done)


@[simp] theorem repeatSlot_mem (s : State) (_i : ℕ) : (repeatSlot s _i).mem = s.mem := by
  unfold repeatSlot
  simp


@[simp] theorem popSlot_mem (k : ℕ) (s : State) (i : ℕ) : (popSlot k s i).mem = s.mem := by
  unfold popSlot
  simp; (repeat' split) <;> (simp; done)


@[simp] theorem blankSlot_mem (s : State) (i : ℕ) : (blankSlot s i).mem = s.mem := by
  unfold blankSlot
  simp


@[simp] theorem convertSlot_mem (s : State) (i : ℕ) : (convertSlot s i).mem = s.mem := by
  unfold convertSlot
  simp


@[simp] theorem alignPeriod_mem (k : ℕ) (slots : List ℕ) (delay : ℕ) (s : State) : (alignPeriod k slots delay s).mem = s.mem := by
  unfold alignPeriod
  simp


@[simp] theorem noteFills_mem (a : ℕ) (slots : List ℕ) (s : State) : (noteFills a slots s).mem = s.mem := by
  unfold noteFills
  simp


@[simp] theorem agrpPeriod_mem (s : State) (a : ℕ) : (agrpPeriod s a).mem = s.mem := by
  unfold agrpPeriod
  (repeat' split) <;> (simp; done)


@[simp] theorem fillAbsent_mem (s : State) : (fillAbsent s).mem = s.mem := by
  unfold fillAbsent
  refine foldl_mem _ ?_ _ _
  intro a x
  (repeat' split) <;> simp


@[simp] theorem touchSlots_mem (l : List ℕ) (s : State) : (touchSlots l s).mem = s.mem := by
  unfold touchSlots
  simp


@[simp] theorem inputPeriod_mem (s : State) : (inputPeriod s).mem = s.mem := by
  unfold inputPeriod
  simp


@[simp] theorem setAudGroup_mem (s : State) (g : ℕ) (x : AudGroup) : (State.setAudGroup s g x).mem = s.mem := by
  unfold State.setAudGroup
  simp


@[simp] theorem putMember_mem (g : ℕ) (k : ℕ) (p : ℕ) (h : ℕ) (s : State) : (putMember g k p h s).mem = s.mem := by
  unfold putMember
  simp


@[simp] theorem noteGain_mem (g : ℕ) (k : ℕ) (s : State) : (noteGain g k s).mem = s.mem := by
  unfold noteGain
  simp


@[simp] theorem groupPeriod_mem (p : ℕ) (s : State) (g : ℕ) : (groupPeriod p s g).mem = s.mem := by
  unfold groupPeriod
  simp


@[simp] theorem setPort_mem (s : State) (p : ℕ) (x : SerialPort) : (State.setPort s p x).mem = s.mem := by
  unfold State.setPort
  simp


@[simp] theorem txSlip_mem (p : ℕ) (s : State) : (txSlip p s).mem = s.mem := by
  unfold txSlip
  simp


@[simp] theorem txFrame_mem (p : ℕ) (h : ℕ) (s : State) : (txFrame p h s).mem = s.mem := by
  unfold txFrame
  simp


@[simp] theorem txClock_mem (p : ℕ) (s : State) : (txClock p s).mem = s.mem := by
  unfold txClock
  simp; (repeat' split) <;> (simp; done)


@[simp] theorem portPeriod_mem (p : ℕ) (s : State) (n : ℕ) : (portPeriod p s n).mem = s.mem := by
  unfold portPeriod
  simp


@[simp] theorem audPeriod_mem (s : State) : (audPeriod s).mem = s.mem := by
  unfold audPeriod
  simp


@[simp] theorem noteRateMis_mem (g : ℕ) (k : ℕ) (s : State) : (noteRateMis g k s).mem = s.mem := by
  unfold noteRateMis
  simp; (repeat' split) <;> (simp; done)


@[simp] theorem commitGroup_mem (g : ℕ) (p0 : ℕ) (s : State) : (commitGroup g p0 s).mem = s.mem := by
  unfold commitGroup
  simp


@[simp] theorem audShutter_mem (n : ℕ) (s : State) : (audShutter n s).mem = s.mem := by
  unfold audShutter
  (repeat' split) <;> (simp; done)


@[simp] theorem audGroupCreated_mem (g : ℕ) (s : State) : (audGroupCreated g s).mem = s.mem := by
  unfold audGroupCreated
  simp


@[simp] theorem audGroupMuted_mem (g : ℕ) (s : State) : (audGroupMuted g s).mem = s.mem := by
  unfold audGroupMuted
  simp


@[simp] theorem writeAgrp_mem (a : ℕ) (v : Word) (s : State) : (writeAgrp a v s).mem = s.mem := by
  unfold writeAgrp
  simp


@[simp] theorem writeGrp_mem (g : ℕ) (v : Word) (s : State) : (writeGrp g v s).mem = s.mem := by
  unfold writeGrp
  simp


@[simp] theorem writeAsrc_mem (c : ℕ) (v : Word) (s : State) : (writeAsrc c v s).mem = s.mem := by
  unfold writeAsrc
  simp


@[simp] theorem writeCsCap_mem (v : Word) (s : State) : (writeCsCap v s).mem = s.mem := by
  unfold writeCsCap
  simp; (repeat' split) <;> (simp; done)


@[simp] theorem releasePort_mem (p : ℕ) (s : State) : (releasePort p s).mem = s.mem := by
  unfold releasePort
  simp


@[simp] theorem writeSpCfg_mem (p : ℕ) (v : Word) (s : State) : (writeSpCfg p v s).mem = s.mem := by
  unfold writeSpCfg
  simp


@[simp] theorem writeAud_mem (r : RegName) (i : ℕ) (v : Word) (s : State) : (writeAud r i v s).mem = s.mem := by
  unfold writeAud
  (repeat' split) <;> (simp; done)


@[simp] theorem asrcLocks_mem (c : ℕ) (ratio : ℕ) (s : State) : (asrcLocks c ratio s).mem = s.mem := by
  unfold asrcLocks
  simp


@[simp] theorem asrcUnlocks_mem (c : ℕ) (why : AsrcLoss) (ratio : ℕ) (s : State) : (asrcUnlocks c why ratio s).mem = s.mem := by
  unfold asrcUnlocks
  (repeat' split) <;> (simp; done)


@[simp] theorem giveAsrc_mem (c : ℕ) (u : ℕ) (s : State) : (giveAsrc c u s).mem = s.mem := by
  unfold giveAsrc
  simp


@[simp] theorem replaceAsrc_mem (u : ℕ) (s : State) : (replaceAsrc u s).mem = s.mem := by
  unfold replaceAsrc
  simp; (repeat' split) <;> (simp; done)


@[simp] theorem asrcErrs_mem (u : ℕ) (s : State) : (asrcErrs u s).mem = s.mem := by
  unfold asrcErrs
  simp


@[simp] theorem rxDeliver_mem (p : ℕ) (ch : ℕ) (a : AudSample) (keep : ℕ → Bool) (s : State) : (rxDeliver p ch a keep s).mem = s.mem := by
  unfold rxDeliver
  simp


@[simp] theorem aes3Rx_mem (p : ℕ) (ch : ℕ) (f : Aes3Frame) (s : State) : (aes3Rx p ch f s).mem = s.mem := by
  unfold aes3Rx
  simp


@[simp] theorem rxLocks_mem (p : ℕ) (rate : ℕ) (s : State) : (rxLocks p rate s).mem = s.mem := by
  unfold rxLocks
  simp


@[simp] theorem spLoses_mem (p : ℕ) (why : PortLoss) (s : State) : (spLoses p why s).mem = s.mem := by
  unfold spLoses
  simp


@[simp] theorem sampleArrives_mem (i : ℕ) (a : AudSample) (s : State) : (sampleArrives i a s).mem = s.mem := by
  unfold sampleArrives
  (repeat' split) <;> (simp; done)


@[simp] theorem zxTimesOut_mem (o : ℕ) (s : State) : (zxTimesOut o s).mem = s.mem := by
  unfold zxTimesOut
  simp; (repeat' split) <;> (simp; done)


@[simp] theorem clearTables_mem (s : State) : (clearTables s).mem = s.mem := by
  unfold clearTables
  first
  | (simp)
  | ((repeat' split) <;> (simp; done))
  | (simp; (repeat' split) <;> (simp; done))
  | ((dsimp only; repeat' split) <;> (simp; done))
  | ((dsimp only; repeat' split) <;> first | (simp; done) | (simp; repeat' split) <;> (simp; done))
  | (((try simp only []); repeat' split) <;> (simp; done))


@[simp] theorem audInit_mem (s : State) : (audInit s).mem = s.mem := by
  unfold audInit
  simp


/-! ### Machine/Masters.lean -/

@[simp] theorem setHart_mem (h : ℕ) (up : Bool) (s : State) : (setHart h up s).mem = s.mem := by
  unfold setHart
  simp


@[simp] theorem masterReset_mem (m : ℕ) (s : State) : (masterReset m s).mem = s.mem := by
  unfold masterReset
  simp


@[simp] theorem stopCore_mem (c : ℕ) (s : State) : (stopCore c s).mem = s.mem := by
  unfold stopCore
  simp


@[simp] theorem dmaReset_mem (s : State) : (dmaReset s).mem = s.mem := by
  unfold dmaReset
  simp


@[simp] theorem dmaError_mem (c : ℕ) (code : ℕ) (a : ℕ) (s : State) : (dmaError c code a s).mem = s.mem := by
  unfold dmaError
  simp


@[simp] theorem dmaErrors_mem (s : State) : (dmaErrors s).mem = s.mem := by
  unfold dmaErrors
  simp


/-! ### Machine/DmaCmd.lean -/

@[simp] theorem dmaLoad_mem (c : ℕ) (a : ℕ) (s : State) : (dmaLoad c a s).mem = s.mem := by
  unfold dmaLoad
  (repeat' split) <;> (simp; done)


@[simp] theorem writeDmaCtl_mem (c : ℕ) (v : Word) (s : State) : (writeDmaCtl c v s).mem = s.mem := by
  unfold writeDmaCtl
  simp


@[simp] theorem dmaFails_mem (a : ℕ) (s : State) : (dmaFails a s).mem = s.mem := by
  unfold dmaFails
  (repeat' split) <;> (simp; done)


@[simp] theorem endWithError_mem (m : ℕ) (a : ℕ) (s : State) : (endWithError m a s).mem = s.mem := by
  unfold endWithError
  simp


@[simp] theorem stallAborts_mem (v : Word) (s : State) : (stallAborts v s).mem = s.mem := by
  unfold stallAborts
  simp


@[simp] theorem writeBus_mem (r : RegName) (i : ℕ) (v : Word) (s : State) : (writeBus r i v s).mem = s.mem := by
  unfold writeBus
  (repeat' split) <;> (simp; done)


/-! ### Machine/Wcomp.lean -/

@[simp] theorem wallReserve_mem (s : State) : (wallReserve s).mem = s.mem := by
  unfold wallReserve
  simp


@[simp] theorem writePipeCfg_mem (q : ℕ) (v : Word) (s : State) : (writePipeCfg q v s).mem = s.mem := by
  unfold writePipeCfg
  simp


@[simp] theorem givePipe_mem (q : ℕ) (u : ℕ) (s : State) : (givePipe q u s).mem = s.mem := by
  unfold givePipe
  simp


@[simp] theorem replacePipe_mem (u : ℕ) (s : State) : (replacePipe u s).mem = s.mem := by
  unfold replacePipe
  (repeat' split) <;> (simp; done)


@[simp] theorem pipeErrs_mem (u : ℕ) (s : State) : (pipeErrs u s).mem = s.mem := by
  unfold pipeErrs
  simp


@[simp] theorem setLayer_mem (s : State) (l : ℕ) (x : Layer) : (State.setLayer s l x).mem = s.mem := by
  unfold State.setLayer
  simp


@[simp] theorem layerCreated_mem (l : ℕ) (s : State) : (layerCreated l s).mem = s.mem := by
  unfold layerCreated
  simp


theorem decideLayer_mem {l v n : Nat} {classP : Bool} {s t : State} {r : Route} (h : decideLayer l v n classP s = .ok (r, t)) :
    t.mem = s.mem := by
  unfold decideLayer at h
  dsimp only at h
  split at h
  · cases h
  · split at h
    · cases h
    · split at h
      · cases h
      · split at h
        · cases h
        · cases h
          rename_i h1
          exact (newPipeFs_mem h1).trans (by simp)

@[simp] theorem requestLayer_mem (l : ℕ) (v : ℕ) (n : ℕ) (s : State) : (requestLayer l v n s).2.mem = s.mem := by
  unfold requestLayer
  split
  · have := decideLayer_mem ‹_›
    simp [this]
  · simp


@[simp] theorem commitLayer_mem (l : ℕ) (s : State) : (commitLayer l s).mem = s.mem := by
  unfold commitLayer
  simp


@[simp] theorem layerDisabled_mem (l : ℕ) (s : State) : (layerDisabled l s).mem = s.mem := by
  unfold layerDisabled
  simp


@[simp] theorem pipesShutter_mem (n : ℕ) (s : State) : (pipesShutter n s).mem = s.mem := by
  unfold pipesShutter
  simp


@[simp] theorem wallShutter_mem (s : State) : (wallShutter s).mem = s.mem := by
  unfold wallShutter
  simp


@[simp] theorem wcompShutter_mem (n : ℕ) (layers : List ℕ) (s : State) : (wcompShutter n layers s).mem = s.mem := by
  unfold wcompShutter
  simp


@[simp] theorem countSkips_mem (f : WallFrame) (b : ℕ) (s : State) : (countSkips f b s).mem = s.mem := by
  unfold countSkips
  simp


@[simp] theorem writeWallCfg_mem (v : Word) (s : State) : (writeWallCfg v s).mem = s.mem := by
  unfold writeWallCfg
  simp


@[simp] theorem writeCanvas_mem (r : RegName) (v : Word) (s : State) : (writeCanvas r v s).mem = s.mem := by
  unfold writeCanvas
  simp


@[simp] theorem writeSl_mem (m : ℕ) (r : RegName) (i : ℕ) (v : Word) (s : State) : (writeSl m r i v s).mem = s.mem := by
  unfold writeSl
  simp


@[simp] theorem writeCapCtl_mem (v : Word) (s : State) : (writeCapCtl v s).mem = s.mem := by
  unfold writeCapCtl
  simp


@[simp] theorem writeWcomp_mem (m : ℕ) (r : RegName) (i : ℕ) (v : Word) (s : State) : (writeWcomp m r i v s).mem = s.mem := by
  unfold writeWcomp
  (repeat' split) <;> (simp; done)


@[simp] theorem captureEnds_mem (s : State) : (captureEnds s).mem = s.mem := by
  unfold captureEnds
  (repeat' split) <;> (simp; done)


@[simp] theorem captureAborts_mem (s : State) : (captureAborts s).mem = s.mem := by
  unfold captureAborts
  simp


/-! ### Machine/Cue.lean -/

@[simp] theorem setThread_mem (s : State) (t : ℕ) (x : Thread) : (State.setThread s t x).mem = s.mem := by
  unfold State.setThread
  simp


@[simp] theorem overloadCheck_mem (s : State) : (overloadCheck s).mem = s.mem := by
  unfold overloadCheck
  simp


@[simp] theorem objectCreated_mem (o : ℕ) (s : State) : (objectCreated o s).mem = s.mem := by
  unfold objectCreated
  (repeat' split) <;> (simp; done)


@[simp] theorem createThread_mem (t : ℕ) (s : State) : (createThread t s).mem = s.mem := by
  unfold createThread
  simp


@[simp] theorem pendThread_mem (t : ℕ) (op : ℕ) (s : State) : (pendThread t op s).mem = s.mem := by
  unfold pendThread
  (repeat' split) <;> (simp; done)


@[simp] theorem threadCommand_mem (m : ℕ) (v : Word) (s : State) : (threadCommand m v s).mem = s.mem := by
  unfold threadCommand
  simp


@[simp] theorem writeThrCfg_mem (m : ℕ) (t : ℕ) (v : Word) (s : State) : (writeThrCfg m t v s).mem = s.mem := by
  unfold writeThrCfg
  simp


@[simp] theorem writeThrLocked_mem (r : RegName) (t : ℕ) (v : Word) (s : State) : (writeThrLocked r t v s).mem = s.mem := by
  unfold writeThrLocked
  simp


@[simp] theorem setServe_mem (e : ℕ) (n : Option ℕ) (s : State) : (setServe e n s).mem = s.mem := by
  unfold setServe
  (repeat' split) <;> (simp; done)


@[simp] theorem shareFalls_mem (n : ℕ) (s : State) : (shareFalls n s).mem = s.mem := by
  unfold shareFalls
  simp


@[simp] theorem shareRises_mem (n : ℕ) (s : State) : (shareRises n s).mem = s.mem := by
  unfold shareRises
  simp


@[simp] theorem shareSettle_mem (s : State) : (shareSettle s).mem = s.mem := by
  unfold shareSettle
  simp


@[simp] theorem writeShare_mem (n : ℕ) (v : Word) (s : State) : (writeShare n v s).mem = s.mem := by
  unfold writeShare
  simp


@[simp] theorem endRun_mem (t : ℕ) (x : Thread) (s : State) : (endRun t x s).mem = s.mem := by
  unfold endRun
  (repeat' split) <;> (simp; done)


@[simp] theorem countBover_mem (t : ℕ) (s : State) : (countBover t s).mem = s.mem := by
  unfold countBover
  simp


@[simp] theorem stopRun_mem (t : ℕ) (s : State) : (stopRun t s).mem = s.mem := by
  unfold stopRun
  (repeat' split) <;> (simp; done)


@[simp] theorem tqPush_mem (w0 : Word) (w1 : Word) (w2 : Word) (w3 : Word) (writer : ℕ) (thread : ℕ) (accept : ℕ) (s : State) : (tqPush w0 w1 w2 w3 writer thread accept s).2.mem = s.mem := by
  unfold tqPush
  (repeat' split) <;> (simp; done)


@[simp] theorem popTake_mem (o : ℕ) (s : State) : (popTake o s).mem = s.mem := by
  unfold popTake
  simp


@[simp] theorem writeTqW3_mem (m : ℕ) (v : Word) (s : State) : (writeTqW3 m v s).mem = s.mem := by
  unfold writeTqW3
  (repeat' split) <;> (simp; done)


@[simp] theorem swapThread_mem (s : State) (t : ℕ) : (swapThread s t).mem = s.mem := by
  unfold swapThread
  (repeat' split) <;> (simp; done)


@[simp] theorem domainSwap_mem (n : ℕ) (s : State) : (domainSwap n s).mem = s.mem := by
  unfold domainSwap
  simp


@[simp] theorem writeSwapHi_mem (v : Word) (s : State) : (writeSwapHi v s).mem = s.mem := by
  unfold writeSwapHi
  simp


@[simp] theorem swapAt_mem (n : ℕ) (s : State) : (swapAt n s).mem = s.mem := by
  unfold swapAt
  simp


@[simp] theorem replaceEngine_mem (e : ℕ) (s : State) : (replaceEngine e s).mem = s.mem := by
  unfold replaceEngine
  simp; (repeat' split) <;> (simp; done)


@[simp] theorem engineErrs_mem (e : ℕ) (s : State) : (engineErrs e s).mem = s.mem := by
  unfold engineErrs
  simp; (repeat' split) <;> (simp; done)


@[simp] theorem showTakes_mem (n : ℕ) (o : ℕ) (s : State) : (showTakes n o s).mem = s.mem := by
  unfold showTakes
  simp


@[simp] theorem openThread_mem (o : ℕ) (s : State) (t : ℕ) : (openThread o s t).mem = s.mem := by
  unfold openThread
  (repeat' split) <;> (simp; done)


@[simp] theorem gpioLevels_mem (s : State) : (gpioLevels s).2.mem = s.mem := by
  unfold gpioLevels
  simp


@[simp] theorem takeSnap_mem (n : ℕ) (s : State) : (takeSnap n s).mem = s.mem := by
  unfold takeSnap
  simp


@[simp] theorem cueOpens_mem (n : ℕ) (s : State) : (cueOpens n s).mem = s.mem := by
  unfold cueOpens
  (repeat' split) <;> (simp; done)


@[simp] theorem dispatch_mem (n : ℕ) (s : State) : (dispatch n s).mem = s.mem := by
  unfold dispatch
  (repeat' split) <;> (simp; done)


@[simp] theorem noteWrite_mem (t : ℕ) (field : ℕ) (s : State) : (noteWrite t field s).mem = s.mem := by
  unfold noteWrite
  (repeat' split) <;> (simp; done)


@[simp] theorem noteRefusal_mem (t : ℕ) (r : ℕ) (s : State) : (noteRefusal t r s).mem = s.mem := by
  unfold noteRefusal
  (repeat' split) <;> (simp; done)


@[simp] theorem takeFrom_mem (t : ℕ) (vin : ℕ) (classP : Bool) (s : State) : (takeFrom t vin classP s).2.mem = s.mem := by
  unfold takeFrom
  simp; (repeat' split) <;> (simp; done)


@[simp] theorem builtinPops_mem (o : ℕ) (shut : ℤ) (x2 : ℕ) (x3 : ℤ) (x4 : Option Word) (x5 : ℕ) (x6 : State) : (builtinPops o shut x2 x3 x4 x5 x6).2.2.2.2.mem = x6.mem := by
  induction x2 generalizing x3 x4 x5 x6 with
  | zero => rfl
  | succ k ih =>
    unfold builtinPops
    split
    · rfl
    · split
      · rw [ih]; simp
      · rfl


@[simp] theorem runBuiltin_mem (t : ℕ) (shut : ℤ) (s : State) : (runBuiltin t shut s).mem = s.mem := by
  unfold runBuiltin
  split
  · rfl
  · extract_lets o
    split
    have e1 := congrArg (fun p => p.2.2.2.2.mem) ‹builtinPops _ _ _ _ _ _ _ = _›
    simp only [builtinPops_mem] at e1
    extract_lets s2 c1 s3
    have e2 : s2.mem = s.mem := by simp [s2, ← e1]
    have e3 : s3.mem = s.mem := by
      simp only [s3]
      split <;> simp [e2]
    split
    · split <;> simp [e2]
    · split <;> simp [e3]


@[simp] theorem runStart_mem (n : ℕ) (e : ℕ) (s : State) : (runStart n e s).mem = s.mem := by
  unfold runStart
  (repeat' split) <;> (simp; done)


@[simp] theorem cueStop_mem (n : ℕ) (s : State) : (cueStop n s).mem = s.mem := by
  unfold cueStop
  extract_lets running waiting s1 s2 late
  have e1 : s1.mem = s.mem := foldl_mem _ (fun _ _ => by simp) _ _
  refine (foldl_mem _ (fun a x => ?_) waiting s1).trans e1
  try dsimp only
  split
  · rw [countBover_mem]; simp
  · rfl


@[simp] theorem countHolds_mem (n : ℕ) (s : State) : (countHolds n s).mem = s.mem := by
  unfold countHolds
  simp


@[simp] theorem deleteMutes_mem (n : ℕ) (s : State) : (deleteMutes n s).mem = s.mem := by
  unfold deleteMutes
  simp


@[simp] theorem deleteObjects_mem (n : ℕ) (s : State) : (deleteObjects n s).mem = s.mem := by
  unfold deleteObjects
  refine foldl_mem _ (fun a x => ?_) _ _
  try dsimp only
  (repeat' split) <;> simp


@[simp] theorem freeThread_mem (s : State) (t : ℕ) : (freeThread s t).mem = s.mem := by
  unfold freeThread
  simp


@[simp] theorem shutThread_mem (s : State) (t : ℕ) : (shutThread s t).mem = s.mem := by
  unfold shutThread
  (repeat' split) <;> (simp; done)


@[simp] theorem ageTakes_mem (n : ℕ) (s : State) : (ageTakes n s).mem = s.mem := by
  unfold ageTakes
  simp


@[simp] theorem restoreEngine_mem (n : ℕ) (s : State) : (restoreEngine n s).mem = s.mem := by
  unfold restoreEngine
  (repeat' split) <;> (simp; done)


@[simp] theorem noteSlack_mem (n : ℕ) (s : State) : (noteSlack n s).mem = s.mem := by
  unfold noteSlack
  simp


@[simp] theorem shutSwap_mem (n : ℕ) (s : State) : (shutSwap n s).mem = s.mem := by
  unfold shutSwap
  (repeat' split) <;> (simp; done)


@[simp] theorem cueShuts_mem (n : ℕ) (s : State) : (cueShuts n s).mem = s.mem := by
  unfold cueShuts
  simp


@[simp] theorem writeCue_mem (m : ℕ) (r : RegName) (i : ℕ) (v : Word) (s : State) : (writeCue m r i v s).mem = s.mem := by
  unfold writeCue
  (repeat' split) <;> (simp; done)


/-! ### Machine/Vault.lean -/

@[simp] theorem settlePlane_mem (p : ℕ) (s : State) : (settlePlane p s).mem = s.mem := by
  unfold settlePlane
  simp


@[simp] theorem setUnitR_mem (e : ℕ) (st : ℕ) (s : State) : (setUnitR e st s).mem = s.mem := by
  unfold setUnitR
  (repeat' split) <;> (simp; done)


@[simp] theorem movePll_mem (q : ℕ) (k : ℕ) (u : ℕ) (s : State) : (movePll q k u s).mem = s.mem := by
  unfold movePll
  simp


@[simp] theorem passRole_mem (e : ℕ) (u : ℕ) (s : State) : (passRole e u s).mem = s.mem := by
  unfold passRole
  (repeat' split) <;> (simp; done)


@[simp] theorem dropRun_mem (e : ℕ) (s : State) : (dropRun e s).mem = s.mem := by
  unfold dropRun
  (repeat' split) <;> (simp; done)


@[simp] theorem withdraw_mem (e : ℕ) (s : State) : (withdraw e s).mem = s.mem := by
  unfold withdraw
  (repeat' split) <;> (simp; done)


@[simp] theorem markRetired_mem (e : ℕ) (s : State) : (markRetired e s).mem = s.mem := by
  unfold markRetired
  simp


@[simp] theorem waitRetire_mem (e : ℕ) (s : State) : (waitRetire e s).mem = s.mem := by
  unfold waitRetire
  simp


@[simp] theorem dropMigration_mem (key : ℕ) (s : State) : (dropMigration key s).mem = s.mem := by
  unfold dropMigration
  (repeat' split) <;> (simp; done)


@[simp] theorem endMigration_mem (key : ℕ) (s : State) : (endMigration key s).mem = s.mem := by
  unfold endMigration
  (repeat' split) <;> (simp; done)


@[simp] theorem endMigrations_mem (s : State) : (endMigrations s).mem = s.mem := by
  unfold endMigrations
  refine foldl_mem _ (fun a x => ?_) _ _
  (repeat' split) <;> simp


@[simp] theorem startMigration_mem (e : ℕ) (u : ℕ) (retire : Bool) (s : State) : (startMigration e u retire s).mem = s.mem := by
  unfold startMigration
  simp


@[simp] theorem retireUnit_mem (e : ℕ) (s : State) : (retireUnit e s).mem = s.mem := by
  unfold retireUnit
  (repeat' split) <;> (simp; done)


@[simp] theorem retryRetire_mem (s : State) : (retryRetire s).mem = s.mem := by
  unfold retryRetire
  simp


@[simp] theorem vaultSettle_mem (s : State) : (vaultSettle s).mem = s.mem := by
  unfold vaultSettle
  simp


@[simp] theorem vaultShutter_mem (n : ℕ) (s : State) : (vaultShutter n s).mem = s.mem := by
  unfold vaultShutter
  simp


@[simp] theorem vaultOverlapClose_mem (n : ℕ) (s : State) : (vaultOverlapClose n s).mem = s.mem := by
  unfold vaultOverlapClose
  simp


@[simp] theorem rotateCmd_mem (type : ℕ) (planeB : Bool) (unit : ℕ) (s : State) : (rotateCmd type planeB unit s).mem = s.mem := by
  unfold rotateCmd
  (repeat' split) <;> (simp; done)


@[simp] theorem retireCmd_mem (unit : ℕ) (s : State) : (retireCmd unit s).mem = s.mem := by
  unfold retireCmd
  simp


@[simp] theorem vaultCmd_mem (m : ℕ) (v : Word) (s : State) : (vaultCmd m v s).mem = s.mem := by
  unfold vaultCmd
  (repeat' split) <;> (simp; done)


@[simp] theorem writeRec_mem (m : ℕ) (v : Word) (s : State) : (writeRec m v s).mem = s.mem := by
  unfold writeRec
  simp


@[simp] theorem rotationDue_mem (type : ℕ) (planeB : Bool) (s : State) : (rotationDue type planeB s).mem = s.mem := by
  unfold rotationDue
  simp


@[simp] theorem ledgerUpdate_mem (e : ℕ) (f : State → State) (s : State) (hf : ∀ a, (f a).mem = a.mem) : (ledgerUpdate e f s).mem = s.mem := by
  unfold ledgerUpdate
  simp [hf]


@[simp] theorem addEcc_mem (e : ℕ) (n : ℕ) (s : State) : (addEcc e n s).mem = s.mem := by
  unfold addEcc
  simp


@[simp] theorem ledgerHour_mem (e : ℕ) (ecc : ℕ) (s : State) : (ledgerHour e ecc s).mem = s.mem := by
  unfold ledgerHour
  simp


@[simp] theorem runCmd_mem (t : ℕ) (s : State) : (runCmd t s).mem = s.mem := by
  unfold runCmd
  simp


@[simp] theorem bistStarts_mem (s : State) : (bistStarts s).mem = s.mem := by
  unfold bistStarts
  simp; (repeat' split) <;> (simp; done)


@[simp] theorem recordRun_mem (t : ℕ) (verdict : ℕ) (cause : ℕ) (done : ℕ) (sig : Word) (expected : Word) (s : State) : (recordRun t verdict cause done sig expected s).mem = s.mem := by
  unfold recordRun
  (repeat' split) <;> (simp; done)


@[simp] theorem ledgerRun_mem (e : ℕ) (verdict : ℕ) (margin : Option ℕ) (s : State) : (ledgerRun e verdict margin s).mem = s.mem := by
  unfold ledgerRun
  (repeat' split) <;> (simp; done)


@[simp] theorem giveOut_mem (e : ℕ) (s : State) : (giveOut e s).mem = s.mem := by
  unfold giveOut
  (repeat' split) <;> (simp; done)


@[simp] theorem unitAfter_mem (e : ℕ) (verdict : ℕ) (s : State) : (unitAfter e verdict s).mem = s.mem := by
  unfold unitAfter
  (repeat' split) <;> (simp; done)


@[simp] theorem writeVault_mem (m : ℕ) (r : RegName) (i : ℕ) (v : Word) (s : State) : (writeVault m r i v s).mem = s.mem := by
  unfold writeVault
  (repeat' split) <;> (simp; done)


/-! ### Machine/Flash.lean -/

@[simp] theorem restoreEntry_mem (bs : List Byte) (s : State) (e : ℕ) : (restoreEntry bs s e).mem = s.mem := by
  unfold restoreEntry
  simp


@[simp] theorem restoreLedger_mem (s : State) : (restoreLedger s).mem = s.mem := by
  unfold restoreLedger
  (repeat' split) <;> (simp; done)


@[simp] theorem setBoot_mem (k : ℕ) (s : State) : (setBoot k s).mem = s.mem := by
  unfold setBoot
  simp


/-! ### Machine/Idm.lean -/

@[simp] theorem writeIdmCmd_mem (m : ℕ) (v : Word) (s : State) : (writeIdmCmd m v s).mem = s.mem := by
  unfold writeIdmCmd
  simp


@[simp] theorem endIdm_mem (m : ℕ) (result : ℕ) (s : State) : (endIdm m result s).mem = s.mem := by
  unfold endIdm
  simp


@[simp] theorem setBufByte_mem (m : ℕ) (b : ℕ) (x : Byte) (s : State) : (setBufByte m b x s).mem = s.mem := by
  unfold setBufByte
  simp


@[simp] theorem fillBuf_mem (m : ℕ) (x1 : ℕ) (x2 : List Byte) (x3 : State) : (fillBuf m x1 x2 x3).mem = x3.mem := by
  induction x2 generalizing x1 x3 with
  | nil => rfl
  | cons b l ih => unfold fillBuf; rw [ih]; simp


@[simp] theorem idmDone_mem (m : ℕ) (nack : Bool) (data : List Byte) (s : State) : (idmDone m nack data s).mem = s.mem := by
  unfold idmDone
  (repeat' split) <;> (simp; done)


@[simp] theorem busStuck_mem (m : ℕ) (low : Bool) (s : State) : (busStuck m low s).mem = s.mem := by
  unfold busStuck
  simp


@[simp] theorem checkModule_mem (k : ℕ) (d : List Byte) (s : State) : (checkModule k d s).mem = s.mem := by
  unfold checkModule
  simp


@[simp] theorem probeSite_mem (acks : List (Fin 128 × List Byte)) (s : State) (k : ℕ) : (probeSite acks s k).mem = s.mem := by
  unfold probeSite
  (repeat' split) <;> (simp; done)


@[simp] theorem scanSites_mem (acks : List (Fin 128 × List Byte)) (s : State) : (scanSites acks s).mem = s.mem := by
  unfold scanSites
  simp


@[simp] theorem strapsRead_mem (slot : ℕ) (side : Bool) (s : State) : (strapsRead slot side s).mem = s.mem := by
  unfold strapsRead
  simp


@[simp] theorem latchStraps_mem (s : State) : (latchStraps s).mem = s.mem := by
  unfold latchStraps
  simp


@[simp] theorem writeUser_mem (r : RegName) (i : ℕ) (v : Word) (sat : State → Bool) (s : State) : (writeUser r i v sat s).mem = s.mem := by
  unfold writeUser
  simp


@[simp] theorem writeTxeq_mem (n : ℕ) (v : Word) (s : State) : (writeTxeq n v s).mem = s.mem := by
  unfold writeTxeq
  simp


@[simp] theorem writeCal_mem (r : RegName) (i : ℕ) (v : Word) (s : State) : (writeCal r i v s).mem = s.mem := by
  unfold writeCal
  (repeat' split) <;> (simp; done)


@[simp] theorem writeIdm_mem (r : RegName) (i : ℕ) (v : Word) (s : State) : (writeIdm r i v s).mem = s.mem := by
  unfold writeIdm
  (repeat' split) <;> (simp; done)


@[simp] theorem otpLoad_mem (ok : Bool) (s : State) : (otpLoad ok s).mem = s.mem := by
  unfold otpLoad
  simp


/-! ### Machine/Rst.lean -/

@[simp] theorem recordCause_mem (bit_ : ℕ) (s : State) : (recordCause bit_ s).mem = s.mem := by
  unfold recordCause
  simp


@[simp] theorem recordCore_mem (c : ℕ) (s : State) : (recordCore c s).mem = s.mem := by
  unfold recordCore
  simp


@[simp] theorem ledgerCut_mem (s : State) : (ledgerCut s).mem = s.mem := by
  unfold ledgerCut
  simp


@[simp] theorem activate_mem (l : List ℕ) (n : ℕ) (s : State) : (activate l n s).mem = s.mem := by
  unfold activate
  simp


@[simp] theorem engineRoles_mem (s : State) : (engineRoles s).mem = s.mem := by
  unfold engineRoles
  simp


@[simp] theorem pipeRoles_mem (s : State) : (pipeRoles s).mem = s.mem := by
  unfold pipeRoles
  refine foldl_mem _ (fun a x => ?_) _ _
  split <;> simp


@[simp] theorem asrcRoles_mem (s : State) : (asrcRoles s).mem = s.mem := by
  unfold asrcRoles
  refine foldl_mem _ (fun a x => ?_) _ _
  split <;> simp


@[simp] theorem coreRoles_mem (s : State) : (coreRoles s).mem = s.mem := by
  unfold coreRoles
  simp


@[simp] theorem pllRoles_mem (s : State) (q : ℕ) : (pllRoles s q).mem = s.mem := by
  unfold pllRoles
  simp


@[simp] theorem assignRoles_mem (s : State) : (assignRoles s).mem = s.mem := by
  unfold assignRoles
  simp


@[simp] theorem rolesAfter_mem (before : State) (s : State) : (rolesAfter before s).mem = s.mem := by
  unfold rolesAfter
  simp


@[simp] theorem coreClear_mem (s : State) : (coreClear s).mem = s.mem := by
  unfold coreClear
  simp


@[simp] theorem clearHart_mem (h : ℕ) (s : State) : (clearHart h s).mem = s.mem := by
  unfold clearHart
  simp


@[simp] theorem confinedReset_mem (cause : ℕ) (c : ℕ) (s : State) : (confinedReset cause c s).mem = s.mem := by
  unfold confinedReset
  simp; (repeat' split) <;> (simp; done)


@[simp] theorem xtalPasses_mem (s : State) : (xtalPasses s).mem = s.mem := by
  unfold xtalPasses
  simp


@[simp] theorem decodeLc_mem (s : State) : (decodeLc s).mem = s.mem := by
  unfold decodeLc
  simp


@[simp] theorem loadOtp_mem (ok : Bool) (s : State) : (loadOtp ok s).mem = s.mem := by
  unfold loadOtp
  simp


@[simp] theorem startupRun_mem (pass : ℕ → Bool) (s : State) (e : ℕ) : (startupRun pass s e).mem = s.mem := by
  unfold startupRun
  simp


@[simp] theorem stripePlane_mem (pass : ℕ → Bool) (s : State) (p : ℕ) : (stripePlane pass s p).mem = s.mem := by
  unfold stripePlane
  simp


@[simp] theorem startupBist_mem (pass : ℕ → Bool) (s : State) : (startupBist pass s).mem = s.mem := by
  unfold startupBist
  simp


@[simp] theorem trainHbm_mem (a : Bool) (b : Bool) (s : State) : (trainHbm a b s).mem = s.mem := by
  unfold trainHbm
  simp


@[simp] theorem releaseHardware_mem (b : BootReport) (s : State) : (releaseHardware b s).mem = s.mem := by
  unfold releaseHardware
  simp


@[simp] theorem hartsReady_mem (s : State) : (hartsReady s).mem = s.mem := by
  unfold hartsReady
  simp


@[simp] theorem releaseConfined_mem (s : State) : (releaseConfined s).mem = s.mem := by
  unfold releaseConfined
  (repeat' split) <;> (simp; done)


@[simp] theorem releaseHarts_mem (s : State) : (releaseHarts s).mem = s.mem := by
  unfold releaseHarts
  simp


@[simp] theorem writeKick_mem (v : Word) (s : State) : (writeKick v s).mem = s.mem := by
  unfold writeKick
  simp


@[simp] theorem writeWdtCfg_mem (v : Word) (s : State) : (writeWdtCfg v s).mem = s.mem := by
  unfold writeWdtCfg
  simp


@[simp] theorem writeLcReq_mem (m : ℕ) (v : Word) (s : State) : (writeLcReq m v s).mem = s.mem := by
  unfold writeLcReq
  (repeat' split) <;> (simp; done)


@[simp] theorem readCause_mem (m : ℕ) (s : State) : (readCause m s).mem = s.mem := by
  unfold readCause
  simp


/-! ### Machine/Cpu.lean -/

@[simp] theorem handOver_mem (s : State) : (handOver s).mem = s.mem := by
  unfold handOver
  (repeat' split) <;> (simp; done)


@[simp] theorem coreErrs_mem (c : ℕ) (s : State) : (coreErrs c s).mem = s.mem := by
  unfold coreErrs
  simp


@[simp] theorem retireCore_mem (c : ℕ) (s : State) : (retireCore c s).mem = s.mem := by
  unfold retireCore
  simp; (repeat' split) <;> (simp; done)


@[simp] theorem timerReached_mem (h : ℕ) (s : State) : (timerReached h s).mem = s.mem := by
  unfold timerReached
  simp


@[simp] theorem coreEcc_mem (m : ℕ) (e : CoreEcc) (s : State) : (coreEcc m e s).mem = s.mem := by
  unfold coreEcc
  (repeat' split) <;> (simp; done)


@[simp] theorem writeCpu_mem (m : ℕ) (r : RegName) (i : ℕ) (v : Word) (s : State) : (writeCpu m r i v s).mem = s.mem := by
  unfold writeCpu
  (repeat' split) <;> (simp; done)


/-! ### Machine/Hbm.lean -/

@[simp] theorem repairRow_mem (pc : ℕ) (row : ℕ) (s : State) : (repairRow pc row s).mem = s.mem := by
  unfold repairRow
  simp


@[simp] theorem hbmEcc_mem (pc : ℕ) (row : ℕ) (e : HbmEcc) (s : State) : (hbmEcc pc row e s).mem = s.mem := by
  unfold hbmEcc
  (repeat' split) <;> (simp; done)


@[simp] theorem stackFails_mem (h : ℕ) (s : State) : (stackFails h s).mem = s.mem := by
  unfold stackFails
  simp


@[simp] theorem grantHbm_mem (pc : ℕ) (waiting : List (ℕ × ℕ × ℕ)) (s : State) : (grantHbm pc waiting s).mem = s.mem := by
  unfold grantHbm
  simp; (repeat' split) <;> (simp; done)


@[simp] theorem writeHbm_mem (r : RegName) (i : ℕ) (v : Word) (s : State) : (writeHbm r i v s).mem = s.mem := by
  unfold writeHbm
  (repeat' split) <;> (simp; done)


/-! ### Machine/Ulink.lean -/

@[simp] theorem setLink_mem (s : State) (l : ℕ) (x : UlLink) : (State.setLink s l x).mem = s.mem := by
  unfold State.setLink
  simp


@[simp] theorem setStream_mem (s : State) (k : ℕ) (x : UlStream) : (State.setStream s k x).mem = s.mem := by
  unfold State.setStream
  simp


@[simp] theorem linkSilent_mem (l : ℕ) (s : State) : (linkSilent l s).mem = s.mem := by
  unfold linkSilent
  simp


@[simp] theorem linkTrains_mem (l : ℕ) (s : State) : (linkTrains l s).mem = s.mem := by
  unfold linkTrains
  simp


@[simp] theorem linkFalls_mem (l : ℕ) (s : State) : (linkFalls l s).mem = s.mem := by
  unfold linkFalls
  simp


@[simp] theorem codewordIn_mem (l : ℕ) (r : CodewordResult) (s : State) : (codewordIn l r s).mem = s.mem := by
  unfold codewordIn
  simp


@[simp] theorem cellLost_mem (l : ℕ) (s : State) : (cellLost l s).mem = s.mem := by
  unfold cellLost
  simp


@[simp] theorem discardReserved_mem (l : ℕ) (s : State) : (discardReserved l s).mem = s.mem := by
  unfold discardReserved
  first
  | (simp)
  | ((repeat' split) <;> (simp; done))
  | (simp; (repeat' split) <;> (simp; done))
  | ((dsimp only; repeat' split) <;> (simp; done))
  | ((dsimp only; repeat' split) <;> first | (simp; done) | (simp; repeat' split) <;> (simp; done))
  | (((try simp only []); repeat' split) <;> (simp; done))


@[simp] theorem learnFormat_mem (v : ℕ) (fmt : ℕ) (s : State) : (learnFormat v fmt s).mem = s.mem := by
  unfold learnFormat
  simp


@[simp] theorem closeLine_mem (l : ℕ) (k : ℕ) (s : State) : (closeLine l k s).mem = s.mem := by
  unfold closeLine
  simp


@[simp] theorem videoIn_mem (l : ℕ) (c : Cell) (s : State) : (videoIn l c s).mem = s.mem := by
  unfold videoIn
  simp


@[simp] theorem ancDeliver_mem (k : ℕ) (line : ℕ) (a : AncPacket) (s : State) : (ancDeliver k line a s).mem = s.mem := by
  unfold ancDeliver
  simp; (repeat' split) <;> (simp; done)


@[simp] theorem ancIn_mem (l : ℕ) (c : Cell) (s : State) : (ancIn l c s).mem = s.mem := by
  unfold ancIn
  simp


@[simp] theorem audioIn_mem (l : ℕ) (c : Cell) (s : State) : (audioIn l c s).mem = s.mem := by
  unfold audioIn
  simp


@[simp] theorem markerIn_mem (l : ℕ) (m : MarkerMsg) (s : State) : (markerIn l m s).mem = s.mem := by
  unfold markerIn
  simp


@[simp] theorem markLost_mem (l : ℕ) (s : State) : (markLost l s).mem = s.mem := by
  unfold markLost
  simp


@[simp] theorem helloIn_mem (l : ℕ) (m : HelloMsg) (s : State) : (helloIn l m s).mem = s.mem := by
  unfold helloIn
  simp


@[simp] theorem echoReqIn_mem (l : ℕ) (id : BitVec 16) (t1 : ℕ) (s : State) : (echoReqIn l id t1 s).mem = s.mem := by
  unfold echoReqIn
  simp


@[simp] theorem echoRspIn_mem (l : ℕ) (id : BitVec 16) (t1 : ℕ) (t2 : ℕ) (t3 : ℕ) (s : State) : (echoRspIn l id t1 t2 t3 s).mem = s.mem := by
  unfold echoRspIn
  simp


@[simp] theorem showMail_mem (l : ℕ) (s : State) : (showMail l s).mem = s.mem := by
  unfold showMail
  simp


@[simp] theorem mailIn_mem (l : ℕ) (msg : List Byte) (s : State) : (mailIn l msg s).mem = s.mem := by
  unfold mailIn
  simp


@[simp] theorem feedLink_mem (l : ℕ) (s : State) : (feedLink l s).mem = s.mem := by
  unfold feedLink
  simp


@[simp] theorem linkSwitch_mem (l : ℕ) (was : Bool) (s : State) : (linkSwitch l was s).mem = s.mem := by
  unfold linkSwitch
  simp


@[simp] theorem writeUlinkCfg_mem (l : ℕ) (v : Word) (s : State) : (writeUlinkCfg l v s).mem = s.mem := by
  unfold writeUlinkCfg
  simp


@[simp] theorem writeTxv_mem (k : ℕ) (v : Word) (s : State) : (writeTxv k v s).mem = s.mem := by
  unfold writeTxv
  simp


@[simp] theorem writeRxv_mem (k : ℕ) (v : Word) (s : State) : (writeRxv k v s).mem = s.mem := by
  unfold writeRxv
  simp


@[simp] theorem writeTxa_mem (l : ℕ) (v : Word) (s : State) : (writeTxa l v s).mem = s.mem := by
  unfold writeTxa
  simp


@[simp] theorem writeRxa_mem (l : ℕ) (v : Word) (s : State) : (writeRxa l v s).mem = s.mem := by
  unfold writeRxa
  simp


@[simp] theorem writeMb_mem (l : ℕ) (v : Word) (s : State) : (writeMb l v s).mem = s.mem := by
  unfold writeMb
  simp


@[simp] theorem writeUlink_mem (r : RegName) (i : ℕ) (v : Word) (s : State) : (writeUlink r i v s).mem = s.mem := by
  unfold writeUlink
  (repeat' split) <;> (simp; done)


@[simp] theorem takeLine_mem (l : ℕ) (j : ℕ) (s : State) : (takeLine l j s).mem = s.mem := by
  unfold takeLine
  simp; (repeat' split) <;> (simp; done)


@[simp] theorem gather_mem (l : ℕ) (s : State) : (gather l s).mem = s.mem := by
  unfold gather
  simp


@[simp] theorem lowCell_mem (l : ℕ) (s : State) : (lowCell l s).2.mem = s.mem := by
  unfold lowCell
  simp; (repeat' split) <;> (simp; done)


@[simp] theorem videoSlot_mem (l : ℕ) (s : State) : (videoSlot l s).2.mem = s.mem := by
  unfold videoSlot
  simp; (repeat' split) <;> (simp; done)


@[simp] theorem audioSlot_mem (l : ℕ) (s : State) : (audioSlot l s).2.mem = s.mem := by
  unfold audioSlot
  simp; (repeat' split) <;> (simp; done)


@[simp] theorem echoSlot_mem (l : ℕ) (s : State) : (echoSlot l s).2.mem = s.mem := by
  unfold echoSlot
  simp; (repeat' split) <;> (simp; done)


@[simp] theorem slotCell_mem (l : ℕ) (s : State) : (slotCell l s).2.mem = s.mem := by
  unfold slotCell
  (repeat' split) <;> (simp; done)


@[simp] theorem sendCell_mem (l : ℕ) (s : State) : (sendCell l s).mem = s.mem := by
  unfold sendCell
  simp


/-! ### Machine/FaultEsc.lean -/

@[simp] theorem clearFstat_mem (b : Blk) (v : Word) (s : State) : (clearFstat b v s).mem = s.mem := by
  unfold clearFstat
  simp


@[simp] theorem writeFen_mem (b : Blk) (v : Word) (s : State) : (writeFen b v s).mem = s.mem := by
  unfold writeFen
  simp


@[simp] theorem writeForce_mem (b : Blk) (v : Word) (s : State) : (writeForce b v s).mem = s.mem := by
  unfold writeForce
  simp


@[simp] theorem writeEscCfg_mem (b : Blk) (v : Word) (s : State) : (writeEscCfg b v s).mem = s.mem := by
  unfold writeEscCfg
  simp


@[simp] theorem writeFlt_mem (b : Blk) (k : FltReg) (v : Word) (s : State) : (writeFlt b k v s).mem = s.mem := by
  unfold writeFlt
  (repeat' split) <;> (simp; done)


@[simp] theorem isolateLink_mem (s : State) (l : ℕ) : (isolateLink s l).mem = s.mem := by
  unfold isolateLink
  simp


@[simp] theorem retireFailed_mem (s : State) (e : ℕ) : (retireFailed s e).mem = s.mem := by
  unfold retireFailed
  simp


@[simp] theorem retireServing_mem (s : State) (e : ℕ) : (retireServing s e).mem = s.mem := by
  unfold retireServing
  simp


@[simp] theorem actOnStall_mem (s : State) (m : ℕ) : (actOnStall s m).mem = s.mem := by
  unfold actOnStall
  simp


@[simp] theorem realAction_mem (b : Blk) (m : Word) (s : State) : (realAction b m s).mem = s.mem := by
  unfold realAction
  (repeat' split) <;> (simp; done)


@[simp] theorem writeGpio_mem (r : RegName) (i : ℕ) (v : Word) (s : State) : (writeGpio r i v s).mem = s.mem := by
  unfold writeGpio
  (repeat' split) <;> (simp; done)


/-! ### Machine/Net.lean -/

@[simp] theorem ptpTake_mem (d : Fin 2) (k : Fin 2) (m : PtpMsg) (s : State) : (ptpTake d k m s).2.mem = s.mem := by
  unfold ptpTake
  (repeat' split) <;> (simp; done)


@[simp] theorem ptpReceive_mem (p : ℕ) (bs : List Byte) (s : State) : (ptpReceive p bs s).2.mem = s.mem := by
  unfold ptpReceive
  refine foldl_snd_mem _ (fun a x => ?_) _ _
  dsimp only
  split <;> simp


/-! ### Machine/Fwu.lean -/

@[simp] theorem fwuAnswer_mem (op : ℕ) (result : ℕ) (s : State) : (fwuAnswer op result s).mem = s.mem := by
  unfold fwuAnswer
  simp


@[simp] theorem noteResult_mem (op : ℕ) (result : ℕ) (s : State) : (noteResult op result s).mem = s.mem := by
  unfold noteResult
  simp


@[simp] theorem loaderAnswer_mem (op : ℕ) (seq : BitVec 16) (payload : List Byte) (s : State) : (loaderAnswer op seq payload s).mem = s.mem := by
  unfold loaderAnswer
  simp


@[simp] theorem loaderResult_mem (op : ℕ) (seq : BitVec 16) (f : State → ℕ × State) (s : State) (hf : ∀ a, (f a).2.mem = a.mem) : (loaderResult op seq f s).mem = s.mem := by
  unfold loaderResult
  (repeat' split) <;> (simp [hf]; done)


/-! ### Machine/Ttb.lean -/

@[simp] theorem ttbShutter_mem (n : ℕ) (s : State) : (ttbShutter n s).mem = s.mem := by
  unfold ttbShutter
  simp


@[simp] theorem swapBank_mem (s : State) (n : ℕ) : (swapBank s n).mem = s.mem := by
  unfold swapBank
  simp


@[simp] theorem ttbEdge_mem (s : State) : (ttbEdge s).mem = s.mem := by
  unfold ttbEdge
  simp


@[simp] theorem setPins_mem (ack : Bool) (busy : Bool) (dq : Option Word) (s : State) : (setPins ack busy dq s).mem = s.mem := by
  unfold setPins
  simp


@[simp] theorem restPins_mem (s : State) : (restPins s).mem = s.mem := by
  unfold restPins
  simp


@[simp] theorem ttbReads_mem (a : ℕ) (s : State) : (ttbReads a s).mem = s.mem := by
  unfold ttbReads
  simp


@[simp] theorem takeWrite_mem (v : Word) (late : ℕ) (s : State) : (takeWrite v late s).mem = s.mem := by
  unfold takeWrite
  simp


@[simp] theorem ttbWrites_mem (a : ℕ) (v : Word) (late : ℕ) (s : State) : (ttbWrites a v late s).mem = s.mem := by
  unfold ttbWrites
  (repeat' split) <;> (simp; done)


@[simp] theorem writeTtbCfg_mem (v : Word) (s : State) : (writeTtbCfg v s).mem = s.mem := by
  unfold writeTtbCfg
  simp


@[simp] theorem writeTtb_mem (r : RegName) (i : ℕ) (v : Word) (s : State) : (writeTtb r i v s).mem = s.mem := by
  unfold writeTtb
  (repeat' split) <;> (simp; done)


@[simp] theorem clockLost_mem (s : State) : (clockLost s).mem = s.mem := by
  unfold clockLost
  simp


/-! ### Machine/Wscan.lean -/

@[simp] theorem setTile_mem (s : State) (t : ℕ) (x : TileRun) : (State.setTile s t x).mem = s.mem := by
  unfold State.setTile
  simp


@[simp] theorem setTileState_mem (s : State) (t : ℕ) (st : ℕ) : (State.setTileState s t st).mem = s.mem := by
  unfold State.setTileState
  simp


@[simp] theorem tileFaults_mem (t : ℕ) (s : State) : (tileFaults t s).mem = s.mem := by
  unfold tileFaults
  simp


@[simp] theorem scanReserve_mem (s : State) : (scanReserve s).mem = s.mem := by
  unfold scanReserve
  simp


@[simp] theorem sendTile_mem (p : ℕ) (dst : List Byte) (kind : ℕ) (frame : ℕ) (payload : List Byte) (s : State) : (sendTile p dst kind frame payload s).mem = s.mem := by
  unfold sendTile
  simp


@[simp] theorem clearSent_mem (s : State) : (clearSent s).mem = s.mem := by
  unfold clearSent
  simp


@[simp] theorem sendDriveOff_mem (t : ℕ) (s : State) : (sendDriveOff t s).mem = s.mem := by
  unfold sendDriveOff
  simp


@[simp] theorem sendIdRead_mem (t : ℕ) (r : IdRead) (s : State) : (sendIdRead t r s).mem = s.mem := by
  unfold sendIdRead
  simp


@[simp] theorem sendFrameCtl_mem (t : ℕ) (frame : ℕ) (s : State) : (sendFrameCtl t frame s).mem = s.mem := by
  unfold sendFrameCtl
  simp


@[simp] theorem putWallFrame_mem (f : WallFrame) (s : State) : (putWallFrame f s).mem = s.mem := by
  unfold putWallFrame
  simp


@[simp] theorem sendPixels_mem (t : ℕ) (frame : ℕ) (row : ℕ) (c : ℕ) (n : ℕ) (s : State) : (sendPixels t frame row c n s).mem = s.mem := by
  unfold sendPixels
  simp


@[simp] theorem sendTileFrame_mem (t : ℕ) (frame : ℕ) (s : State) : (sendTileFrame t frame s).mem = s.mem := by
  unfold sendTileFrame
  simp


@[simp] theorem openSlot_mem (frame : Word) (b : ℕ) (s : State) : (openSlot frame b s).mem = s.mem := by
  unfold openSlot
  (repeat' split) <;> (simp; done)


@[simp] theorem packetMissed_mem (p : ℕ) (s : State) : (packetMissed p s).mem = s.mem := by
  unfold packetMissed
  simp


@[simp] theorem frameMark_mem (s : State) : (frameMark s).mem = s.mem := by
  unfold frameMark
  (repeat' split) <;> (simp; done)


@[simp] theorem tileReceive_mem (p : ℕ) (f : EthFrame) (s : State) : (tileReceive p f s).2.mem = s.mem := by
  unfold tileReceive
  simp; (repeat' split) <;> (simp; done)


@[simp] theorem noteReport_mem (t : ℕ) (s : State) : (noteReport t s).mem = s.mem := by
  unfold noteReport
  simp


@[simp] theorem showStatus_mem (t : ℕ) (b : List Byte) (s : State) : (showStatus t b s).mem = s.mem := by
  unfold showStatus
  simp


@[simp] theorem tileHeats_mem (t : ℕ) (s : State) : (tileHeats t s).mem = s.mem := by
  unfold tileHeats
  simp


@[simp] theorem tileSyncs_mem (t : ℕ) (locked : Bool) (ofs : ℤ) (s : State) : (tileSyncs t locked ofs s).mem = s.mem := by
  unfold tileSyncs
  simp


@[simp] theorem tileCooling_mem (t : ℕ) (temp : ℤ) (s : State) : (tileCooling t temp s).mem = s.mem := by
  unfold tileCooling
  simp


@[simp] theorem statusIn_mem (p : ℕ) (f : EthFrame) (s : State) : (statusIn p f s).mem = s.mem := by
  unfold statusIn
  split
  · have e := congrArg (fun p => p.2.mem) ‹tileReceive p f s = _›
    simp only [tileReceive_mem] at e
    exact e.symm
  · have e := congrArg (fun p => p.2.mem) ‹tileReceive p f s = _›
    simp only [tileReceive_mem] at e
    (repeat' split) <;> (try simp only []) <;> (repeat' split) <;> simp [← e]


@[simp] theorem tileToSync_mem (t : ℕ) (s : State) : (tileToSync t s).mem = s.mem := by
  unfold tileToSync
  simp


@[simp] theorem tileCools_mem (t : ℕ) (s : State) : (tileCools t s).mem = s.mem := by
  unfold tileCools
  (repeat' split) <;> (simp; done)


@[simp] theorem tileLoses_mem (t : ℕ) (linkDown : Bool) (s : State) : (tileLoses t linkDown s).mem = s.mem := by
  unfold tileLoses
  simp


@[simp] theorem nextRead_mem (t : ℕ) (s : State) : (nextRead t s).mem = s.mem := by
  unfold nextRead
  (repeat' split) <;> (simp; done)


@[simp] theorem pumpReads_mem (p : ℕ) (s : State) : (pumpReads p s).mem = s.mem := by
  unfold pumpReads
  simp


@[simp] theorem resetTrim_mem (t : ℕ) (s : State) : (resetTrim t s).mem = s.mem := by
  unfold resetTrim
  simp


@[simp] theorem identTile_mem (t : ℕ) (p : ℕ) (serial : ℕ) (w : ℕ) (h : ℕ) (len : ℕ) (s0 : State) : (identTile t p serial w h len s0).mem = s0.mem := by
  unfold identTile
  simp


@[simp] theorem identIn_mem (p : ℕ) (f : EthFrame) (s : State) : (identIn p f s).mem = s.mem := by
  unfold identIn
  split
  · have e := congrArg (fun p => p.2.mem) ‹tileReceive p f s = _›
    simp only [tileReceive_mem] at e
    exact e.symm
  · have e := congrArg (fun p => p.2.mem) ‹tileReceive p f s = _›
    simp only [tileReceive_mem] at e
    (repeat' split) <;> (try simp only []) <;> (repeat' split) <;> simp [← e]


@[simp] theorem recordFails_mem (t : ℕ) (reason : ℕ) (s : State) : (recordFails t reason s).mem = s.mem := by
  unfold recordFails
  simp


@[simp] theorem recordLoaded_mem (t : ℕ) (l : TileLoad) (s : State) : (recordLoaded t l s).mem = s.mem := by
  unfold recordLoaded
  simp


@[simp] theorem readTimesOut_mem (t : ℕ) (tag : ℕ) (s : State) : (readTimesOut t tag s).mem = s.mem := by
  unfold readTimesOut
  (repeat' split) <;> (simp; done)


@[simp] theorem enumSends_mem (p : ℕ) (s : State) : (enumSends p s).mem = s.mem := by
  unfold enumSends
  simp


@[simp] theorem loopTile_mem (s : State) (t : ℕ) : (loopTile s t).mem = s.mem := by
  unfold loopTile
  simp


@[simp] theorem loopTick_mem (s : State) : (loopTick s).mem = s.mem := by
  unfold loopTick
  (repeat' split) <;> (simp; done)


@[simp] theorem proofCompare_mem (fz : Fld) (ct : Fld) (i : ℕ) (fresh : Bool) (old : ℕ) (new : ℕ) (adv : Bool) (s : State) : (proofCompare fz ct i fresh old new adv s).mem = s.mem := by
  unfold proofCompare
  simp


@[simp] theorem setProof_mem (s : State) (k : ℕ) (x : ProofRun) : (State.setProof s k x).mem = s.mem := by
  unfold State.setProof
  simp


@[simp] theorem layerProof_mem (l : ℕ) (s : State) : (layerProof l s).mem = s.mem := by
  unfold layerProof
  (repeat' split) <;> (simp; done)


@[simp] theorem regionProof_mem (r : ℕ) (before : Bool) (s : State) : (regionProof r before s).mem = s.mem := by
  unfold regionProof
  (repeat' split) <;> (simp; done)


@[simp] theorem proofRestart_mem (l : ℕ) (s : State) : (proofRestart l s).mem = s.mem := by
  unfold proofRestart
  simp


@[simp] theorem commitAll_mem (r : RegName) (n : ℕ) (s : State) : (commitAll r n s).mem = s.mem := by
  unfold commitAll
  simp


@[simp] theorem wscanShutter_mem (n : ℕ) (s : State) : (wscanShutter n s).mem = s.mem := by
  unfold wscanShutter
  simp


@[simp] theorem writeTileCfg_mem (t : ℕ) (v : Word) (s : State) : (writeTileCfg t v s).mem = s.mem := by
  unfold writeTileCfg
  simp


@[simp] theorem writeScanCfg_mem (v : Word) (s : State) : (writeScanCfg v s).mem = s.mem := by
  unfold writeScanCfg
  simp


@[simp] theorem writeTilePort_mem (p : ℕ) (v : Word) (s : State) : (writeTilePort p v s).mem = s.mem := by
  unfold writeTilePort
  simp


@[simp] theorem writeScanBase_mem (r : RegName) (v : Word) (s : State) : (writeScanBase r v s).mem = s.mem := by
  unfold writeScanBase
  simp


@[simp] theorem writeWscan_mem (r : RegName) (i : ℕ) (v : Word) (s : State) : (writeWscan r i v s).mem = s.mem := by
  unfold writeWscan
  (repeat' split) <;> (simp; done)


/-! ### Machine/Frame.lean -/

@[simp] theorem proofsRestart_mem (before : State) (s : State) : (proofsRestart before s).mem = s.mem := by
  unfold proofsRestart
  simp


@[simp] theorem commitShadows_mem (n : ℕ) (s : State) : (commitShadows n s).mem = s.mem := by
  unfold commitShadows
  simp


@[simp] theorem shutterOf_mem (n : ℕ) (t : FrameTimes) (s : State) : (shutterOf n t s).mem = s.mem := by
  unfold shutterOf
  simp


@[simp] theorem overlapCloses_mem (n : ℕ) (s : State) : (overlapCloses n s).mem = s.mem := by
  unfold overlapCloses
  (repeat' split) <;> (simp; done)


/-! ### Machine/Flow.lean -/

@[simp] theorem setFlowAt_mem (s : State) (i : ℕ) (e : ℕ) : (State.setFlowAt s i e).mem = s.mem := by
  unfold State.setFlowAt
  simp


@[simp] theorem flowKill_mem (i : ℕ) (s : State) : (flowKill i s).mem = s.mem := by
  unfold flowKill
  simp


@[simp] theorem agedPut_mem (i : ℕ) (s : State) : (agedPut i s).mem = s.mem := by
  unfold agedPut
  simp


@[simp] theorem flowEcc_mem (key : ℕ) (bad : List (Fin 4 × Bool)) (s : State) : (flowEcc key bad s).mem = s.mem := by
  unfold flowEcc
  simp


@[simp] theorem flowLookup_mem (dst : ℕ) (src : ℕ) (dport : ℕ) (port : ℕ) (tagged : Bool) (vid : ℕ) (ecc : List (Bool × Fin 4 × Bool)) (s : State) : (flowLookup dst src dport port tagged vid ecc s).2.mem = s.mem := by
  unfold flowLookup
  simp; (repeat' split) <;> (simp; done)


@[simp] theorem flowQueue_mem (v : Word) (s : State) : (flowQueue v s).mem = s.mem := by
  unfold flowQueue
  simp


@[simp] theorem flowRun_mem (p : ℕ → Bool) (act : ℕ → ℕ → State → ℕ × Option ℕ × Option ℕ × State) (s : State) (hact : ∀ x0 x1 a, (act x0 x1 a).2.2.2.mem = a.mem) : (flowRun p act s).mem = s.mem := by
  unfold flowRun
  simp [hact]; (repeat' split) <;> (simp [hact]; done)


@[simp] theorem flowInsert_mem (_i : ℕ) (d : ℕ) (s : State) : (flowInsert _i d s).2.2.2.mem = s.mem := by
  unfold flowInsert
  simp; (repeat' split) <;> (simp; done)


@[simp] theorem flowDelete_mem (_i : ℕ) (d : ℕ) (s : State) : (flowDelete _i d s).2.2.2.mem = s.mem := by
  unfold flowDelete
  (repeat' split) <;> (simp; done)


@[simp] theorem flowGet_mem (_i : ℕ) (d : ℕ) (s : State) : (flowGet _i d s).2.2.2.mem = s.mem := by
  unfold flowGet
  (repeat' split) <;> (simp; done)


@[simp] theorem flowRead_mem (i : ℕ) (_d : ℕ) (s : State) : (flowRead i _d s).2.2.2.mem = s.mem := by
  unfold flowRead
  simp


@[simp] theorem flowModify_mem (_i : ℕ) (d : ℕ) (s : State) : (flowModify _i d s).2.2.2.mem = s.mem := by
  unfold flowModify
  (repeat' split) <;> (simp; done)


@[simp] theorem flowBad_mem (_i : ℕ) (_d : ℕ) (s : State) : (flowBad _i _d s).2.2.2.mem = s.mem := by
  unfold flowBad
  simp


@[simp] theorem flowResTo_mem (m : ℕ) (s : State) : (flowResTo m s).mem = s.mem := by
  unfold flowResTo
  (repeat' split) <;> (simp; done)


@[simp] theorem flowAgedTo_mem (m : ℕ) (s : State) : (flowAgedTo m s).mem = s.mem := by
  unfold flowAgedTo
  (repeat' split) <;> (simp; done)


@[simp] theorem ageEntry_mem (s : State) (i : ℕ) : (ageEntry s i).mem = s.mem := by
  unfold ageEntry
  simp


@[simp] theorem agePass_mem (s : State) : (agePass s).mem = s.mem := by
  unfold agePass
  simp


@[simp] theorem flowInit_mem (s : State) : (flowInit s).mem = s.mem := by
  unfold flowInit
  simp


@[simp] theorem writeFlow_mem (r : RegName) (i : ℕ) (v : Word) (s : State) : (writeFlow r i v s).mem = s.mem := by
  unfold writeFlow
  (repeat' split) <;> (simp; done)


/-! ### Machine/Sdi.lean -/

@[simp] theorem setRxState_mem (s : State) (k : ℕ) (x : SdiRx) : (State.setRxState s k x).mem = s.mem := by
  unfold State.setRxState
  simp


@[simp] theorem rxEnter_mem (n : ℕ) (st : ℕ) (s : State) : (rxEnter n st s).mem = s.mem := by
  unfold rxEnter
  simp


@[simp] theorem sdiFollow_mem (n : ℕ) (s : State) : (sdiFollow n s).mem = s.mem := by
  unfold sdiFollow
  simp


@[simp] theorem rxChecks_mem (n : ℕ) (l : SdiLine) (s : State) : (rxChecks n l s).mem = s.mem := by
  unfold rxChecks
  simp


@[simp] theorem judgeFrame_mem (n : ℕ) (k : ℕ) (s : State) : (judgeFrame n k s).mem = s.mem := by
  unfold judgeFrame
  simp


@[simp] theorem rxTrack_mem (n : ℕ) (k : ℕ) (l : SdiLine) (s : State) : (rxTrack n k l s).mem = s.mem := by
  unfold rxTrack
  simp


@[simp] theorem rxPid_mem (n : ℕ) (l : SdiLine) (s : State) : (rxPid n l s).mem = s.mem := by
  unfold rxPid
  (repeat' split) <;> (simp; done)


@[simp] theorem rxAnc_mem (n : ℕ) (l : SdiLine) (s : State) : (rxAnc n l s).2.mem = s.mem := by
  unfold rxAnc
  simp


@[simp] theorem rxAudio_mem (n : ℕ) (k : ℕ) (l : SdiLine) (s : State) : (rxAudio n k l s).mem = s.mem := by
  unfold rxAudio
  (repeat' split) <;> (simp; done)


@[simp] theorem rxPicture_mem (n : ℕ) (k : ℕ) (l : SdiLine) (anc : List AncPacket) (s : State) : (rxPicture n k l anc s).mem = s.mem := by
  unfold rxPicture
  simp


@[simp] theorem rxPhase_mem (n : ℕ) (l : SdiLine) (s : State) : (rxPhase n l s).mem = s.mem := by
  unfold rxPhase
  simp; (repeat' split) <;> (simp; done)


@[simp] theorem sdiLineIn_mem (n : ℕ) (l : SdiLine) (s : State) : (sdiLineIn n l s).mem = s.mem := by
  unfold sdiLineIn
  simp


@[simp] theorem pidLost_mem (n : ℕ) (s : State) : (pidLost n s).mem = s.mem := by
  unfold pidLost
  simp


@[simp] theorem feedSlots_mem (f : AudFeed) (s : State) : (feedSlots f s).mem = s.mem := by
  unfold feedSlots
  simp


@[simp] theorem rxEnable_mem (n : ℕ) (s : State) : (rxEnable n s).mem = s.mem := by
  unfold rxEnable
  simp


@[simp] theorem rxDisable_mem (n : ℕ) (s : State) : (rxDisable n s).mem = s.mem := by
  unfold rxDisable
  simp


@[simp] theorem writeRxCfg_mem (n : ℕ) (v : Word) (s : State) : (writeRxCfg n v s).mem = s.mem := by
  unfold writeRxCfg
  simp


@[simp] theorem writeTxCfg_mem (n : ℕ) (v : Word) (s : State) : (writeTxCfg n v s).mem = s.mem := by
  unfold writeTxCfg
  simp


@[simp] theorem txFrameStart_mem (n : ℕ) (o : ℕ) (s : State) : (txFrameStart n o s).mem = s.mem := by
  unfold txFrameStart
  simp


@[simp] theorem txBuild_mem (n : ℕ) (second : Bool) (line : ℕ) (s : State) : (txBuild n second line s).mem = s.mem := by
  unfold txBuild
  simp


@[simp] theorem sdiLineOut_mem (n : ℕ) (second : Bool) (line : ℕ) (s : State) : (sdiLineOut n second line s).mem = s.mem := by
  unfold sdiLineOut
  simp


@[simp] theorem writeSdi_mem (r : RegName) (i : ℕ) (v : Word) (s : State) : (writeSdi r i v s).mem = s.mem := by
  unfold writeSdi
  (repeat' split) <;> (simp; done)


@[simp] theorem laneFollow_mem (n : ℕ) (s : State) : (laneFollow n s).mem = s.mem := by
  unfold laneFollow
  simp; (repeat' split) <;> (simp; done)


/-! ### Machine/MportRx.lean -/

@[simp] theorem setRxc_mem (s : State) (c : ℕ) (x : RxCtx) : (State.setRxc s c x).mem = s.mem := by
  unfold State.setRxc
  simp


@[simp] theorem pathShow_mem (c : ℕ) (here : Bool) (s : State) : (pathShow c here s).mem = s.mem := by
  unfold pathShow
  (repeat' split) <;> (simp; done)


@[simp] theorem rxcEnter_mem (c : ℕ) (st : ℕ) (s : State) : (rxcEnter c st s).mem = s.mem := by
  unfold rxcEnter
  simp


@[simp] theorem noteSeq_mem (c : ℕ) (q : ℕ) (s : State) : (noteSeq c q s).mem = s.mem := by
  unfold noteSeq
  simp; (repeat' split) <;> (simp; done)


@[simp] theorem takeAnc_mem (v : ℕ) (line : ℕ) (s : State) : (takeAnc v line s).2.mem = s.mem := by
  unfold takeAnc
  simp


@[simp] theorem rxcClose_mem (c : ℕ) (s : State) : (rxcClose c s).mem = s.mem := by
  unfold rxcClose
  simp; (repeat' split) <;> (simp; done)


@[simp] theorem putPiece_mem (c : ℕ) (t : ℤ) (s : State) (p : RowPiece) : (putPiece c t s p).mem = s.mem := by
  unfold putPiece
  simp; (repeat' split) <;> (simp; done)


@[simp] theorem newFrame_mem (c : ℕ) (ts : ℕ) (s : State) : (newFrame c ts s).2.mem = s.mem := by
  unfold newFrame
  simp; (repeat' split) <;> (simp; done)


@[simp] theorem videoWrite_mem (c : ℕ) (r : RtpPkt) (t : ℤ) (s : State) : (videoWrite c r t s).mem = s.mem := by
  unfold videoWrite
  simp; (repeat' split) <;> (simp; done)


@[simp] theorem rxcPhase_mem (c : ℕ) (s : State) : (rxcPhase c s).mem = s.mem := by
  unfold rxcPhase
  simp; (repeat' split) <;> (simp; done)


@[simp] theorem rxcJudge_mem (c : ℕ) (s : State) : (rxcJudge c s).mem = s.mem := by
  unfold rxcJudge
  simp


@[simp] theorem videoTrack_mem (c : ℕ) (r : RtpPkt) (s : State) : (videoTrack c r s).mem = s.mem := by
  unfold videoTrack
  simp; (repeat' split) <;> (simp; done)


@[simp] theorem audioSet_mem (c : ℕ) (ts : ℕ) (x : ℕ → AudSample) (s : State) : (audioSet c ts x s).mem = s.mem := by
  unfold audioSet
  simp


@[simp] theorem audioWrite_mem (c : ℕ) (r : RtpPkt) (s : State) : (audioWrite c r s).mem = s.mem := by
  unfold audioWrite
  simp


@[simp] theorem ancJoin_mem (v : ℕ) (line : ℕ) (a : AncPacket) (s : State) : (ancJoin v line a s).mem = s.mem := by
  unfold ancJoin
  simp


@[simp] theorem ancWrite_mem (c : ℕ) (r : RtpPkt) (s : State) : (ancWrite c r s).mem = s.mem := by
  unfold ancWrite
  (repeat' split) <;> (simp; done)


@[simp] theorem sdi4Track_mem (c : ℕ) (l : SdiLine) (s : State) : (sdi4Track c l s).mem = s.mem := by
  unfold sdi4Track
  simp


@[simp] theorem sdi4Write_mem (c : ℕ) (t : ℤ) (l : SdiLine) (s : State) : (sdi4Write c t l s).mem = s.mem := by
  unfold sdi4Write
  simp


@[simp] theorem rxcTrack_mem (c : ℕ) (f : MediaFrame) (r : RtpPkt) (s : State) : (rxcTrack c f r s).mem = s.mem := by
  unfold rxcTrack
  simp; (repeat' split) <;> (simp; done)


@[simp] theorem rxcWrite_mem (c : ℕ) (f : MediaFrame) (r : RtpPkt) (t : ℤ) (s : State) : (rxcWrite c f r t s).mem = s.mem := by
  unfold rxcWrite
  (repeat' split) <;> (simp; done)


@[simp] theorem noteDin_mem (c : ℕ) (p : ℕ) (len : ℕ) (extra : ℕ) (s : State) : (noteDin c p len extra s).mem = s.mem := by
  unfold noteDin
  simp


@[simp] theorem setMrg_mem (s : State) (m : ℕ) (x : MergeRun) : (State.setMrg s m x).mem = s.mem := by
  unfold State.setMrg
  simp


@[simp] theorem mergeSkew_mem (m : ℕ) (s : State) : (mergeSkew m s).mem = s.mem := by
  unfold mergeSkew
  simp


@[simp] theorem mergeLead_mem (m : ℕ) (s : State) : (mergeLead m s).mem = s.mem := by
  unfold mergeLead
  simp


@[simp] theorem mergePair_mem (m : ℕ) (onB : Bool) (k : MergePkt) (s : State) : (mergePair m onB k s).mem = s.mem := by
  unfold mergePair
  simp


@[simp] theorem mergeRate_mem (m : ℕ) (len : ℕ) (s : State) : (mergeRate m len s).2.mem = s.mem := by
  unfold mergeRate
  simp; (repeat' split) <;> (simp; done)


@[simp] theorem mergePacket_mem (m : ℕ) (onB : Bool) (q : ℕ) (f : MediaFrame) (s : State) : (mergePacket m onB q f s).mem = s.mem := by
  unfold mergePacket
  simp; (repeat' split) <;> (simp; done)


@[simp] theorem mergeRelease_mem (m : ℕ) (s : State) : (mergeRelease m s).mem = s.mem := by
  unfold mergeRelease
  (repeat' split) <;> (simp; done)


@[simp] theorem rxcPacket_mem (c : ℕ) (p : ℕ) (f : MediaFrame) (s : State) : (rxcPacket c p f s).mem = s.mem := by
  unfold rxcPacket
  simp; (repeat' split) <;> (simp; done)


@[simp] theorem rxcTimeout_mem (c : ℕ) (s : State) : (rxcTimeout c s).mem = s.mem := by
  unfold rxcTimeout
  simp


@[simp] theorem portPause_mem (p : ℕ) (q : ℕ) (s : State) : (portPause p q s).mem = s.mem := by
  unfold portPause
  simp


@[simp] theorem pauseOver_mem (p : ℕ) (s : State) : (pauseOver p s).mem = s.mem := by
  unfold pauseOver
  simp


@[simp] theorem portDown_mem (p : ℕ) (s : State) : (portDown p s).mem = s.mem := by
  unfold portDown
  simp


@[simp] theorem portComesUp_mem (p : ℕ) (s : State) : (portComesUp p s).mem = s.mem := by
  unfold portComesUp
  simp


@[simp] theorem writePortCfg_mem (p : ℕ) (v : Word) (s : State) : (writePortCfg p v s).mem = s.mem := by
  unfold writePortCfg
  simp


@[simp] theorem rxcOn_mem (c : ℕ) (s : State) : (rxcOn c s).mem = s.mem := by
  unfold rxcOn
  simp


@[simp] theorem rxcOff_mem (c : ℕ) (s : State) : (rxcOff c s).mem = s.mem := by
  unfold rxcOff
  simp


@[simp] theorem writeRxcCfg_mem (c : ℕ) (v : Word) (s : State) : (writeRxcCfg c v s).mem = s.mem := by
  unfold writeRxcCfg
  simp


@[simp] theorem writeMrgCfg_mem (m : ℕ) (v : Word) (s : State) : (writeMrgCfg m v s).mem = s.mem := by
  unfold writeMrgCfg
  simp


/-! ### Machine/MportTx.lean -/

@[simp] theorem setTxc_mem (s : State) (t : ℕ) (x : TxRun) : (State.setTxc s t x).mem = s.mem := by
  unfold State.setTxc
  simp


@[simp] theorem showOffsets_mem (t : ℕ) (o : ℕ) (n : ℕ) (s : State) : (showOffsets t o n s).mem = s.mem := by
  unfold showOffsets
  split <;> simp


@[simp] theorem txcOffsets_mem (t : ℕ) (s : State) : (txcOffsets t s).mem = s.mem := by
  unfold txcOffsets
  dsimp only
  split
  · rfl
  · split <;> simp


@[simp] theorem writeTxcCfg_mem (t : ℕ) (v : Word) (s : State) : (writeTxcCfg t v s).mem = s.mem := by
  unfold writeTxcCfg
  simp


@[simp] theorem mediaFrameTo_mem (t : ℕ) (p : ℕ) (dip : ℕ) (rtp : List Byte) (s : State) : (mediaFrameTo t p dip rtp s).2.mem = s.mem := by
  unfold mediaFrameTo
  simp


@[simp] theorem sendPaced_mem (t : ℕ) (p : ℕ) (dip : ℕ) (first : Bool) (rtp : List Byte) (s : State) : (sendPaced t p dip first rtp s).mem = s.mem := by
  unfold sendPaced
  simp


@[simp] theorem sendMedia_mem (t : ℕ) (marker : Bool) (ts : ℕ) (body : List Byte) (s : State) : (sendMedia t marker ts body s).mem = s.mem := by
  unfold sendMedia
  simp


@[simp] theorem videoSend_mem (t : ℕ) (k : ℕ) (j : ℕ) (s : State) : (videoSend t k j s).mem = s.mem := by
  unfold videoSend
  simp; (repeat' split) <;> (simp; done)


@[simp] theorem audioSend_mem (t : ℕ) (s : State) : (audioSend t s).mem = s.mem := by
  unfold audioSend
  simp


@[simp] theorem ancSend_mem (t : ℕ) (k : ℕ) (j : ℕ) (s : State) : (ancSend t k j s).mem = s.mem := by
  unfold ancSend
  (repeat' split) <;> (simp; done)


@[simp] theorem sdi6Send_mem (t : ℕ) (k : ℕ) (s : State) : (sdi6Send t k s).mem = s.mem := by
  unfold sdi6Send
  (repeat' split) <;> (simp; done)


@[simp] theorem mediaSend_mem (t : ℕ) (k : ℕ) (j : ℕ) (s : State) : (mediaSend t k j s).mem = s.mem := by
  unfold mediaSend
  (repeat' split) <;> (simp; done)


@[simp] theorem txcLine_mem (o : ℕ) (s : State) : (txcLine o s).mem = s.mem := by
  unfold txcLine
  (repeat' split) <;> (simp; done)


@[simp] theorem txcAudio_mem (s : State) : (txcAudio s).mem = s.mem := by
  unfold txcAudio
  simp


@[simp] theorem hostSend_mem (p : ℕ) (s : State) : (hostSend p s).mem = s.mem := by
  unfold hostSend
  simp


@[simp] theorem writeMport_mem (r : RegName) (i : ℕ) (v : Word) (s : State) : (writeMport r i v s).mem = s.mem := by
  unfold writeMport
  (repeat' split) <;> (simp; done)


/-! ### Machine/Mgmt.lean -/

@[simp] theorem mgPause_mem (n : ℕ) (q : ℕ) (s : State) : (mgPause n q s).mem = s.mem := by
  unfold mgPause
  simp


@[simp] theorem mgPauseOver_mem (n : ℕ) (s : State) : (mgPauseOver n s).mem = s.mem := by
  unfold mgPauseOver
  simp


@[simp] theorem mgSend_mem (n : ℕ) (s : State) : (mgSend n s).mem = s.mem := by
  unfold mgSend
  (repeat' split) <;> (simp; done)


@[simp] theorem mgDown_mem (n : ℕ) (s : State) : (mgDown n s).mem = s.mem := by
  unfold mgDown
  simp


@[simp] theorem mgUp_mem (n : ℕ) (slow : Bool) (s : State) : (mgUp n slow s).mem = s.mem := by
  unfold mgUp
  simp


@[simp] theorem writeMgCfg_mem (n : ℕ) (v : Word) (s : State) : (writeMgCfg n v s).mem = s.mem := by
  unfold writeMgCfg
  simp


@[simp] theorem writeMgmt_mem (r : RegName) (i : ℕ) (v : Word) (s : State) : (writeMgmt r i v s).mem = s.mem := by
  unfold writeMgmt
  (repeat' split) <;> (simp; done)


/-! ### Machine/ClkPwr.lean -/

@[simp] theorem pllStarts_mem (d : ℕ) (s : State) : (pllStarts d s).mem = s.mem := by
  unfold pllStarts
  simp


@[simp] theorem clockSleeps_mem (d : ℕ) (s : State) : (clockSleeps d s).mem = s.mem := by
  unfold clockSleeps
  simp


@[simp] theorem readSensors_mem (raw : List (BitVec 16)) (s : State) : (readSensors raw s).mem = s.mem := by
  unfold readSensors
  simp


@[simp] theorem writePwr_mem (r : RegName) (i : ℕ) (v : Word) (s : State) : (writePwr r i v s).mem = s.mem := by
  unfold writePwr
  (repeat' split) <;> (simp; done)


/-! ### Machine/Regs.lean -/

@[simp] theorem latchRead_mem (r : RegName) (i : ℕ) (s : State) : (latchRead r i s).2.mem = s.mem := by
  unfold latchRead
  (repeat' split) <;> (simp; done)


@[simp] theorem answered_mem (m : ℕ) (s : State) : (answered m s).2.mem = s.mem := by
  unfold answered
  simp


@[simp] theorem readName_mem (m : ℕ) (r : RegName) (i : ℕ) (s : State) : (readName m r i s).2.mem = s.mem := by
  unfold readName
  simp; (repeat' split) <;> (simp; done)


@[simp] theorem readReg_mem (m : ℕ) (x : Reg) (i : ℕ) (s : State) : (readReg m x i s).2.mem = s.mem := by
  unfold readReg
  (repeat' split) <;> (simp; done)


/-! ### Machine/Bus.lean -/

@[simp] theorem regAccess_mem (m : ℕ) (write : Bool) (a : ℕ) (s : State) : (regAccess m write a s).mem = s.mem := by
  unfold regAccess
  simp


@[simp] theorem readAt_mem (m : ℕ) (a : ℕ) (s : State) : (readAt m a s).2.mem = s.mem := by
  unfold readAt
  split
  · exact readReg_mem _ _ _ _
  · rfl


@[simp] theorem regRead_mem (m : ℕ) (a : ℕ) (n : ℕ) (s : State) : (regRead m a n s).2.mem = s.mem := by
  unfold regRead
  split
  · exact regAccess_mem _ _ _ _
  · split
    · exact (readAt_mem _ _ _).trans (readAt_mem _ _ _)
    · exact readAt_mem _ _ _


@[simp] theorem portRead_mem (m : ℕ) (p : BusPort) (a : ℕ) (n : ℕ) (s : State) : (portRead m p a n s).2.mem = s.mem := by
  unfold portRead
  (repeat' split) <;> (simp; done)


@[simp] theorem readBeats_mem (m : ℕ) (p : BusPort) (n : ℕ) (x3 : ℕ) (x4 : ℕ) (x5 : State) : (readBeats m p n x3 x4 x5).2.mem = x5.mem := by
  induction x3 generalizing x4 x5 with
  | zero => rfl
  | succ k ih => unfold readBeats; exact (ih _ _).trans (portRead_mem _ _ _ _ _)


@[simp] theorem busIssue_mem (m : ℕ) (x : BusOp) (s : State) : (busIssue m x s).mem = s.mem := by
  unfold busIssue
  simp


@[simp] theorem lockAfter_mem (m : ℕ) (p : BusPort) (x : BusOp) (s : State) : (lockAfter m p x s).mem = s.mem := by
  unfold lockAfter
  simp


@[simp] theorem noteWait_mem (m : ℕ) (p : BusPort) (since : ℕ) (s : State) : (noteWait m p since s).mem = s.mem := by
  unfold noteWait
  simp


@[simp] theorem lockExpires_mem (p : BusPort) (s : State) : (lockExpires p s).mem = s.mem := by
  unfold lockExpires
  (repeat' split) <;> (simp; done)


@[simp] theorem stallLimit_mem (m : ℕ) (s : State) : (stallLimit m s).mem = s.mem := by
  unfold stallLimit
  (repeat' split) <;> (simp; done)


/-! ### Machine/CueIsa.lean -/

@[simp] theorem setCtx_mem (t : ℕ) (f : ThrCtx → ThrCtx) (s : State) : (setCtx t f s).mem = s.mem := by
  unfold setCtx
  (repeat' split) <;> (simp; done)


@[simp] theorem faultThread_mem (t : ℕ) (cause : ℕ) (s : State) : (faultThread t cause s).mem = s.mem := by
  unfold faultThread
  (repeat' split) <;> (simp; done)


@[simp] theorem yieldRun_mem (t : ℕ) (st : ℕ) (wake : Wake) (halting : Bool) (s : State) : (yieldRun t st wake halting s).mem = s.mem := by
  unfold yieldRun
  (repeat' split) <;> (simp; done)


@[simp] theorem budgetStop_mem (t : ℕ) (s : State) : (budgetStop t s).mem = s.mem := by
  unfold budgetStop
  (repeat' split) <;> (simp; done)


@[simp] theorem completeOp_mem (op : ℕ) (t : ℕ) (act : ThrCtx → Word → State → State) (s : State) (hact : ∀ x0 x1 a, (act x0 x1 a).mem = a.mem) : (completeOp op t act s).mem = s.mem := by
  unfold completeOp
  (repeat' split) <;> (simp [hact]; done)


@[simp] theorem sensed_mem (s : State) (n : ℕ) : (State.sensed s n).mem = s.mem := by
  unfold State.sensed
  (repeat' split) <;> (simp; done)


@[simp] theorem writeLayer_mem (t : ℕ) (field : ℕ) (f : LayerSet → LayerSet) (s : State) : (writeLayer t field f s).mem = s.mem := by
  unfold writeLayer
  simp


@[simp] theorem writeGroup_mem (t : ℕ) (f : AudShadow → AudShadow) (s : State) : (writeGroup t f s).mem = s.mem := by
  unfold writeGroup
  simp


@[simp] theorem countSuperseded_mem (n : ℕ) (s : State) : (countSuperseded n s).mem = s.mem := by
  unfold countSuperseded
  simp


@[simp] theorem setT_mem (t : ℕ) (b : Bool) (s : State) : (setT t b s).mem = s.mem := by
  unfold setT
  simp


@[simp] theorem logicOp_mem (op : ℕ) (t : ℕ) (f : Word → Word → Word) (s : State) : (logicOp op t f s).mem = s.mem := by
  unfold logicOp
  simp


@[simp] theorem shiftOp_mem (op : ℕ) (t : ℕ) (f : Word → ℕ → Word) (s : State) : (shiftOp op t f s).mem = s.mem := by
  unfold shiftOp
  simp


@[simp] theorem layerFrom_mem (t : ℕ) (vin : ℕ) (s : State) : (layerFrom t vin s).2.mem = s.mem := by
  unfold layerFrom
  simp; (repeat' split) <;> (simp; done)


/-! ### Machine/Step.lean -/



end Sys2Proof.Machine
end

