-- ==== Sys2Proof/Laws/MemWf.lean ====
section
/-!
SUPPORT. The operations that write memory keep its canonical form.
-/

set_option linter.all false

namespace Sys2Proof.Machine

@[simp] theorem foldl_wf {α : Type} (g : State → α → State) (hg : ∀ a x, a.mem.wf = true → (g a x).mem.wf = true) (l : List α) (s : State)
    (h : s.mem.wf = true) : (l.foldl g s).mem.wf = true := by
  induction l generalizing s with
  | nil => exact h
  | cons x l ih => rw [List.foldl_cons]; exact ih _ (hg _ _ h)

@[simp] theorem store_wf (s : State) (a : Nat) (bs : List Byte) (h : s.mem.wf = true) : (s.store a bs).mem.wf = true :=
  Memory.wf_writeBytes _ _ h

@[simp] theorem clearRange_wf (m : Memory) (lo hi : Nat) (h : m.wf = true) : (m.clearRange lo hi).wf = true :=
  Memory.wf_filter _ h

/-! ### Machine/Ops.lean -/

@[simp] theorem byMaster_wf (m : ℕ) (r : RegName) (i : ℕ) (f : State → State) (s : State) (hf : ∀ a, a.mem.wf = true → (f a).mem.wf = true) (h : s.mem.wf = true) : (byMaster m r i f s).mem.wf = true := by
  unfold byMaster
  (repeat' split) <;> (simp [h, hf]; done)


/-! ### Machine/Wcomp.lean -/

@[simp] theorem writeSafelight_wf (m : ℕ) (a : ℕ) (bs : List Byte) (s : State) (h : s.mem.wf = true) : (writeSafelight m a bs s).mem.wf = true := by
  unfold writeSafelight
  (repeat' split) <;> (simp [h]; done)


/-! ### Machine/Cue.lean -/

@[simp] theorem cueMemWrite_wf (a : ℕ) (bs : List Byte) (s : State) (h : s.mem.wf = true) : (cueMemWrite a bs s).mem.wf = true := by
  unfold cueMemWrite
  (repeat' split) <;> (simp [h]; done)


@[simp] theorem cueInit_wf (s : State) (h : s.mem.wf = true) : (cueInit s).mem.wf = true := by
  unfold cueInit
  (repeat' split) <;> (simp [h]; done)


/-! ### Machine/Vault.lean -/

@[simp] theorem clearBlock_wf (t : ℕ) (s : State) (h : s.mem.wf = true) : (clearBlock t s).mem.wf = true := by
  unfold clearBlock
  (repeat' split) <;> (simp [h]; done)


@[simp] theorem endRunOf_wf (t : ℕ) (verdict : ℕ) (cause : ℕ) (done : ℕ) (sig : Word) (expected : Word) (margin : Option ℕ) (s : State) (h : s.mem.wf = true) : (endRunOf t verdict cause done sig expected margin s).mem.wf = true := by
  unfold endRunOf
  (repeat' split) <;> (simp [h]; done)


@[simp] theorem bistEnds_wf (t : ℕ) (done : ℕ) (sig : Word) (expected : Word) (margin : ℕ) (s : State) (h : s.mem.wf = true) : (bistEnds t done sig expected margin s).mem.wf = true := by
  unfold bistEnds
  (repeat' split) <;> (simp [h]; done)


@[simp] theorem cutRun_wf (t : ℕ) (cause : ℕ) (s : State) (h : s.mem.wf = true) : (cutRun t cause s).mem.wf = true := by
  unfold cutRun
  simp [h]; (repeat' split) <;> (simp [h]; done)


@[simp] theorem cutRuns_wf (cause : ℕ) (s : State) (h : s.mem.wf = true) : (cutRuns cause s).mem.wf = true := by
  unfold cutRuns
  exact foldl_wf _ (fun a x ha => cutRun_wf _ _ a ha) _ _ h


@[simp] theorem bistCmd_wf (v : Word) (s : State) (h : s.mem.wf = true) : (bistCmd v s).mem.wf = true := by
  unfold bistCmd
  simp [h]; (repeat' split) <;> (simp [h]; done)


@[simp] theorem writeBist_wf (r : RegName) (i : ℕ) (v : Word) (s : State) (h : s.mem.wf = true) : (writeBist r i v s).mem.wf = true := by
  unfold writeBist
  (repeat' split) <;> (simp [h]; done)


/-! ### Machine/Flash.lean -/

@[simp] theorem program_wf (a : ℕ) (bs : List Byte) (s : State) (h : s.mem.wf = true) : (program a bs s).mem.wf = true := by
  unfold program
  simp [h]


@[simp] theorem eraseFlash_wf (a : ℕ) (n : ℕ) (s : State) (h : s.mem.wf = true) : (eraseFlash a n s).mem.wf = true := by
  unfold eraseFlash
  simp [h]


@[simp] theorem saveLedger_wf (s : State) (h : s.mem.wf = true) : (saveLedger s).mem.wf = true := by
  unfold saveLedger
  simp [h]


@[simp] theorem appendRec_wf (k : ℕ) (st : ℕ) (id : ℕ) (count : ℕ) (version : ℕ) (s : State) (h : s.mem.wf = true) : (appendRec k st id count version s).mem.wf = true := by
  unfold appendRec
  simp [h]; (repeat' split) <;> (simp [h]; done)


@[simp] theorem setSlot_wf (k : ℕ) (st : ℕ) (s : State) (h : s.mem.wf = true) : (setSlot k st s).mem.wf = true := by
  unfold setSlot
  simp [h]


@[simp] theorem loadImage_wf (k : ℕ) (stage : Bool) (s : State) (h : s.mem.wf = true) : (loadImage k stage s).mem.wf = true := by
  unfold loadImage
  exact foldl_wf _ (fun a x ha => store_wf _ _ _ ha) _ _ h


@[simp] theorem unstageImage_wf (k : ℕ) (s : State) (h : s.mem.wf = true) : (unstageImage k s).mem.wf = true := by
  unfold unstageImage
  exact foldl_wf _ (fun a x ha => store_wf _ _ _ ha) _ _ h


@[simp] theorem runImage_wf (k : ℕ) (s : State) (h : s.mem.wf = true) : (runImage k s).mem.wf = true := by
  unfold runImage
  simp [h]


@[simp] theorem bootImage_wf (s : State) (h : s.mem.wf = true) : (bootImage s).2.mem.wf = true := by
  unfold bootImage
  extract_lets s0
  have e0 : s0.mem.wf = true := by simp only [s0]; (repeat' split) <;> simp [h]
  split
  · exact e0
  · split
    · exact e0
    · extract_lets s1 o
      have e1 : s1.mem.wf = true := setSlot_wf _ _ _ e0
      split
      · split
        · simp [e1]
        · simp [e1]
      · simp [e1]


/-! ### Machine/Rst.lean -/

@[simp] theorem disarmSlots_wf (s : State) (h : s.mem.wf = true) : (disarmSlots s).mem.wf = true := by
  unfold disarmSlots
  simp [h]; (repeat' split) <;> (simp [h]; done)


@[simp] theorem systemClear_wf (s0 : State) (h : s0.mem.wf = true) : (systemClear s0).mem.wf = true := by
  unfold systemClear
  simp [h]


@[simp] theorem trialFails_wf (s : State) (h : s.mem.wf = true) : (trialFails s).mem.wf = true := by
  unfold trialFails
  (repeat' split) <;> (simp [h]; done)


@[simp] theorem startFails_wf (s : State) (h : s.mem.wf = true) : (startFails s).mem.wf = true := by
  unfold startFails
  simp [h]


@[simp] theorem deepen_wf (lvl : ℕ) (s : State) (h : s.mem.wf = true) : (deepen lvl s).mem.wf = true := by
  unfold deepen
  (repeat' split) <;> (simp [h]; done)


@[simp] theorem beginReset_wf (lvl : ℕ) (soft : Bool) (hold : Bool) (cause : Option ℕ) (s : State) (h : s.mem.wf = true) : (beginReset lvl soft hold cause s).mem.wf = true := by
  unfold beginReset
  simp [h]; (repeat' split) <;> (simp [h]; done)


@[simp] theorem enterDarkroom_wf (s : State) (h : s.mem.wf = true) : (enterDarkroom s).mem.wf = true := by
  unfold enterDarkroom
  simp [h]


@[simp] theorem lockUp_wf (c : ℕ) (s : State) (h : s.mem.wf = true) : (lockUp c s).mem.wf = true := by
  unfold lockUp
  simp [h]; (repeat' split) <;> (simp [h]; done)


@[simp] theorem powerReset_wf (cause : ℕ) (s : State) (h : s.mem.wf = true) : (powerReset cause s).mem.wf = true := by
  unfold powerReset
  simp only []
  refine disarmSlots_wf _ ?_
  simp only [setReg_mem]
  exact Memory.wf_filter _ h


@[simp] theorem brownsOut_wf (aon : Bool) (ns : ℕ) (s : State) (h : s.mem.wf = true) : (brownsOut aon ns s).mem.wf = true := by
  unfold brownsOut
  simp [h]; (repeat' split) <;> (simp [h]; done)


@[simp] theorem pinReset_wf (ns : ℕ) (s : State) (h : s.mem.wf = true) : (pinReset ns s).mem.wf = true := by
  unfold pinReset
  simp [h]


@[simp] theorem pinPulse_wf (ns : ℕ) (s : State) (h : s.mem.wf = true) : (pinPulse ns s).mem.wf = true := by
  unfold pinPulse
  simp [h]; (repeat' split) <;> (simp [h]; done)


@[simp] theorem writeSwrst_wf (m : ℕ) (v : Word) (s : State) (h : s.mem.wf = true) : (writeSwrst m v s).mem.wf = true := by
  unfold writeSwrst
  (repeat' split) <;> (simp [h]; done)


@[simp] theorem xtalFails_wf (s : State) (h : s.mem.wf = true) : (xtalFails s).mem.wf = true := by
  unfold xtalFails
  simp [h]


@[simp] theorem syspllUnlocks_wf (s : State) (h : s.mem.wf = true) : (syspllUnlocks s).mem.wf = true := by
  unfold syspllUnlocks
  simp [h]


theorem bootImage_some_wf {s t : State} {u : State} (h : bootImage s = (some t, u)) (hs : s.mem.wf = true) :
    t.mem.wf = true := by
  unfold bootImage at h
  extract_lets s0 at h
  have e0 : s0.mem.wf = true := by simp only [s0]; (repeat' split) <;> simp [hs]
  split at h
  · simp at h
  · split at h
    · rw [← Option.some.inj (congrArg Prod.fst h)]; simp [e0]
    · extract_lets s1 o at h
      have e1 : s1.mem.wf = true := setSlot_wf _ _ _ e0
      split at h
      · split at h
        · rw [← Option.some.inj (congrArg Prod.fst h)]; simp [e1]
        · simp at h
      · simp at h

@[simp] theorem loadStep_wf (s : State) (h : s.mem.wf = true) : (loadStep s).mem.wf = true := by
  unfold loadStep
  split
  · exact h
  · split
    · simp [h]
    · split
      · simp [h]
      · split
        · rw [hartsReady_mem]; exact bootImage_some_wf ‹_› h
        · have e := congrArg (fun p => p.2.mem.wf) ‹bootImage s = _›
          simp only [bootImage_wf _ h] at e
          simp [← e]


@[simp] theorem releaseReset_wf (b : BootReport) (s : State) (h : s.mem.wf = true) : (releaseReset b s).mem.wf = true := by
  unfold releaseReset
  (repeat' split) <;> (simp [h]; done)


@[simp] theorem confirmTrial_wf (s : State) (h : s.mem.wf = true) : (confirmTrial s).mem.wf = true := by
  unfold confirmTrial
  simp [h]; (repeat' split) <;> (simp [h]; done)


@[simp] theorem writeHealth_wf (v : Word) (s : State) (h : s.mem.wf = true) : (writeHealth v s).mem.wf = true := by
  unfold writeHealth
  simp [h]; (repeat' split) <;> (simp [h]; done)


@[simp] theorem startTimesOut_wf (s : State) (h : s.mem.wf = true) : (startTimesOut s).mem.wf = true := by
  unfold startTimesOut
  (repeat' split) <;> (simp [h]; done)


@[simp] theorem wdtExpires_wf (s : State) (h : s.mem.wf = true) : (wdtExpires s).mem.wf = true := by
  unfold wdtExpires
  simp [h]; (repeat' split) <;> (simp [h]; done)


@[simp] theorem writeRst_wf (m : ℕ) (r : RegName) (i : ℕ) (v : Word) (s : State) (h : s.mem.wf = true) : (writeRst m r i v s).mem.wf = true := by
  unfold writeRst
  (repeat' split) <;> (simp [h]; done)


/-! ### Machine/FaultEsc.lean -/

@[simp] theorem escReset_wf (b : Blk) (m : Word) (s : State) (h : s.mem.wf = true) : (escReset b m s).mem.wf = true := by
  unfold escReset
  (repeat' split) <;> (simp [h]; done)


@[simp] theorem escalationExpires_wf (b : Blk) (s : State) (h : s.mem.wf = true) : (escalationExpires b s).mem.wf = true := by
  unfold escalationExpires
  simp [h]; (repeat' split) <;> (simp [h]; done)


/-! ### Machine/Fwu.lean -/

@[simp] theorem badProgram_wf (a : ℕ) (n : ℕ) (s : State) (h : s.mem.wf = true) : (badProgram a n s).mem.wf = true := by
  unfold badProgram
  simp [h]


@[simp] theorem writePiece_wf (k : ℕ) (p : List Byte) (ok : Bool) (s : State) (h : s.mem.wf = true) : (writePiece k p ok s).2.mem.wf = true := by
  unfold writePiece
  extract_lets index count a s1
  have e1 : s1.mem.wf = true := by simp only [s1]; split <;> simp [h]
  split
  · have e2 (x z : Nat) (y w : List Byte) :
        ((program x y (program z w (eraseFlash a 4096 s1))).bump .FWU_PIECE_CNT 0).mem.wf = true := by
      rw [bump_mem]
      exact program_wf _ _ _ (program_wf _ _ _ (eraseFlash_wf _ _ _ e1))
    split
    · exact setSlot_wf _ _ _ (e2 _ _ _ _)
    · exact e2 _ _ _ _
  · simp [e1]


@[simp] theorem eraseSlot_wf (k : ℕ) (ok : Bool) (s : State) (h : s.mem.wf = true) : (eraseSlot k ok s).2.mem.wf = true := by
  unfold eraseSlot
  extract_lets areas
  have e (u : State) (hu : u.mem.wf = true) : (areas u).mem.wf = true := by simp [areas, hu]
  split
  · have e1 := appendRec_wf k 0 0 0 0 _ (e _ h)
    simpa using e1
  · simp only []
    split
    · exact e _ (by simp [h])
    · simp [h]


@[simp] theorem verifySlot_wf (k : ℕ) (s : State) (h : s.mem.wf = true) : (verifySlot k s).2.mem.wf = true := by
  unfold verifySlot
  simp [h]; (repeat' split) <;> (simp [h]; done)


@[simp] theorem armSlot_wf (now : Bool) (s : State) (h : s.mem.wf = true) : (armSlot now s).2.mem.wf = true := by
  unfold armSlot
  simp [h]; (repeat' split) <;> (simp [h]; done)


@[simp] theorem disarmSlot_wf (s : State) (h : s.mem.wf = true) : (disarmSlot s).2.mem.wf = true := by
  unfold disarmSlot
  (repeat' split) <;> (simp [h]; done)


@[simp] theorem activate__wf (k : ℕ) (s : State) (h : s.mem.wf = true) : (activate_ k s).mem.wf = true := by
  unfold activate_
  have e := beginReset_wf 2 true false (some 5) { s with fwu := { s.fwu with armed := none } } h
  simp [e]


@[simp] theorem activationDue_wf (s : State) (h : s.mem.wf = true) : (activationDue s).mem.wf = true := by
  unfold activationDue
  simp [h]; (repeat' split) <;> (simp [h]; done)


@[simp] theorem answerNow_wf (op : Nat) (r : Nat × State) (h : r.2.mem.wf = true) : (answerNow op r).mem.wf = true := by
  unfold answerNow
  simp [h]

@[simp] theorem fwuCommand_wf (m : ℕ) (v : Word) (s : State) (h : s.mem.wf = true) : (fwuCommand m v s).mem.wf = true := by
  unfold fwuCommand
  simp only []
  generalize F.FWU_CMD_OP.of v = op
  split
  · simp [h]
  · split
    · simp [h]
    · split
      · simp [h]
      · split
        · simp [h]
        · simp [h]
        · split <;> simp [h]


@[simp] theorem endFlashWork_wf (j : FwuJob) (ok : Bool) (s : State) (h : s.mem.wf = true) : (endFlashWork j ok s).2.mem.wf = true := by
  unfold endFlashWork
  (repeat' split) <;> (simp [h]; done)


@[simp] theorem fwuDone_wf (ok : Bool) (s : State) (h : s.mem.wf = true) : (fwuDone ok s).mem.wf = true := by
  unfold fwuDone
  split
  · exact h
  · exact answerNow_wf _ _ (endFlashWork_wf _ _ _ h)


@[simp] theorem loaderWrite_wf (p : List Byte) (ok : Bool) (s : State) (h : s.mem.wf = true) : (loaderWrite p ok s).2.mem.wf = true := by
  unfold loaderWrite
  simp [h]; (repeat' split) <;> (simp [h]; done)


@[simp] theorem leaveDarkroom_wf (s : State) (h : s.mem.wf = true) : (leaveDarkroom s).mem.wf = true := by
  unfold leaveDarkroom
  simp [h]


@[simp] theorem loaderStarts_wf (seq : BitVec 16) (k : ℕ) (s : State) (h : s.mem.wf = true) : (loaderStarts seq k s).mem.wf = true := by
  unfold loaderStarts
  simp [h]; (repeat' split) <;> (simp [h]; done)


@[simp] theorem writeFwu_wf (m : ℕ) (r : RegName) (i : ℕ) (v : Word) (s : State) (h : s.mem.wf = true) : (writeFwu m r i v s).mem.wf = true := by
  unfold writeFwu
  (repeat' split) <;> (simp [h]; done)


/-! ### Machine/Wscan.lean -/

@[simp] theorem scanLamp_wf (s0 : State) (bad : List ℕ) (lcBad : List ℕ) (f : WallFrame) (b : ℕ) (k : Option ℕ) (t : ℕ) (i : ℕ) (j : ℕ) (s : State) (h : s.mem.wf = true) : (scanLamp s0 bad lcBad f b k t i j s).mem.wf = true := by
  unfold scanLamp
  (repeat' split) <;> (simp [h]; done)


@[simp] theorem scanBand_wf (bad : List ℕ) (lcBad : List ℕ) (f : WallFrame) (b : ℕ) (k : Option ℕ) (s : State) (h : s.mem.wf = true) : (scanBand bad lcBad f b k s).mem.wf = true := by
  unfold scanBand
  split
  · exact h
  · extract_lets t
    have e : t.mem.wf = true := foldl_wf _ (fun _ _ h1 => foldl_wf _ (fun _ _ h2 => foldl_wf _ (fun _ _ h3 => by simp [h3]) _ _ h2) _ _ h1) _ _ h
    split <;> simp [e]


@[simp] theorem captureBand_wf (bad : List ℕ) (f : WallFrame) (b : ℕ) (k : Option ℕ) (s : State) (h : s.mem.wf = true) : (captureBand bad f b k s).mem.wf = true := by
  unfold captureBand
  split
  · exact h
  · extract_lets base
    exact foldl_wf _ (fun _ _ h1 => foldl_wf _ (fun _ _ h2 => store_wf _ _ _ h2) _ _ h1) _ _ h


@[simp] theorem finishBand_wf (frame : Word) (b : ℕ) (k : Option ℕ) (bad : List ℕ) (lcBad : List ℕ) (s : State) (h : s.mem.wf = true) : (finishBand frame b k bad lcBad s).mem.wf = true := by
  unfold finishBand
  (repeat' split) <;> (simp [h]; done)


@[simp] theorem copyLamps_wf (t : ℕ) (off : ℕ) (lamps : ℕ) (bs : List Byte) (s : State) (h : s.mem.wf = true) : (copyLamps t off lamps bs s).mem.wf = true := by
  unfold copyLamps
  simp [h]


@[simp] theorem recordBytes_wf (t : ℕ) (p : ℕ) (l : TileLoad) (r : IdRead) (bs : List Byte) (s : State) (h : s.mem.wf = true) : (recordBytes t p l r bs s).mem.wf = true := by
  unfold recordBytes
  simp [h]; (repeat' split) <;> (simp [h]; done)


@[simp] theorem iddataIn_wf (p : ℕ) (f : EthFrame) (s : State) (h : s.mem.wf = true) : (iddataIn p f s).mem.wf = true := by
  unfold iddataIn
  split
  · have e := congrArg (fun p => p.2.mem) ‹tileReceive p f s = _›
    simp only [tileReceive_mem] at e
    rw [← e]; exact h
  · have e := congrArg (fun p => p.2.mem) ‹tileReceive p f s = _›
    simp only [tileReceive_mem] at e
    (repeat' split) <;> (try simp only []) <;> (repeat' split) <;> simp [← e, h]


/-! ### Machine/MportRx.lean -/

@[simp] theorem hostRx_wf (p : ℕ) (src : ℕ) (index : ℕ) (f : EthFrame) (s : State) (h : s.mem.wf = true) : (hostRx p src index f s).mem.wf = true := by
  unfold hostRx
  simp [h]; (repeat' split) <;> (simp [h]; done)


@[simp] theorem hostFilter_wf (p : ℕ) (f : EthFrame) (s : State) (h : s.mem.wf = true) : (hostFilter p f s).mem.wf = true := by
  unfold hostFilter
  simp [h]; (repeat' split) <;> (simp [h]; done)


@[simp] theorem flowAct_wf (p : ℕ) (i : ℕ) (f : MediaFrame) (s : State) (h : s.mem.wf = true) : (flowAct p i f s).mem.wf = true := by
  unfold flowAct
  simp [h]; (repeat' split) <;> (simp [h]; done)


@[simp] theorem classify_wf (p : ℕ) (f : MediaFrame) (s : State) (h : s.mem.wf = true) : (classify p f s).mem.wf = true := by
  unfold classify
  simp [h]; (repeat' split) <;> (simp [h]; done)


@[simp] theorem mediaFrameIn_wf (p : ℕ) (f : MediaFrame) (s : State) (h : s.mem.wf = true) : (mediaFrameIn p f s).mem.wf = true := by
  unfold mediaFrameIn
  simp [h]; (repeat' split) <;> (simp [h]; done)


/-! ### Machine/Mgmt.lean -/

@[simp] theorem mgStore_wf (n : ℕ) (src : ℕ) (m : ℕ) (f : EthFrame) (s : State) (h : s.mem.wf = true) : (mgStore n src m f s).mem.wf = true := by
  unfold mgStore
  (repeat' split) <;> (simp [h]; done)


@[simp] theorem mgFilter_wf (n : ℕ) (f : EthFrame) (s : State) (h : s.mem.wf = true) : (mgFilter n f s).mem.wf = true := by
  unfold mgFilter
  (repeat' split) <;> (simp [h]; done)


@[simp] theorem mgFrameIn_wf (n : ℕ) (f : EthFrame) (s : State) (h : s.mem.wf = true) : (mgFrameIn n f s).mem.wf = true := by
  unfold mgFrameIn
  simp [h]; (repeat' split) <;> (simp [h]; done)


@[simp] theorem ptpToHost_wf (p : ℕ) (frame : List Byte) (s : State) (h : s.mem.wf = true) : (ptpToHost p frame s).mem.wf = true := by
  unfold ptpToHost
  (repeat' split) <;> (simp [h]; done)


/-! ### Machine/ClkPwr.lean -/

@[simp] theorem trips_wf (s : State) (h : s.mem.wf = true) : (trips s).mem.wf = true := by
  unfold trips
  (repeat' split) <;> (simp [h]; done)


/-! ### Machine/Regs.lean -/

@[simp] theorem writeName_wf (m : ℕ) (r : RegName) (i : ℕ) (v : Word) (s : State) (h : s.mem.wf = true) : (writeName m r i v s).mem.wf = true := by
  unfold writeName
  (repeat' split) <;> (simp [h]; done)


@[simp] theorem writeReg_wf (m : ℕ) (x : Reg) (i : ℕ) (v : Word) (s : State) (h : s.mem.wf = true) : (writeReg m x i v s).mem.wf = true := by
  unfold writeReg
  (repeat' split) <;> (simp [h]; done)


/-! ### Machine/Bus.lean -/

@[simp] theorem writeAt_wf (m : ℕ) (a : ℕ) (v : Word) (s : State) (h : s.mem.wf = true) : (writeAt m a v s).mem.wf = true := by
  unfold writeAt
  (repeat' split) <;> (simp [h]; done)


@[simp] theorem regWrite_wf (m : ℕ) (a : ℕ) (bs : List Byte) (s : State) (h : s.mem.wf = true) : (regWrite m a bs s).mem.wf = true := by
  unfold regWrite
  simp [h]; (repeat' split) <;> (simp [h]; done)


@[simp] theorem portWrite_wf (m : ℕ) (p : BusPort) (a : ℕ) (bs : List Byte) (s : State) (h : s.mem.wf = true) : (portWrite m p a bs s).mem.wf = true := by
  unfold portWrite
  (repeat' split) <;> (simp [h]; done)


@[simp] theorem writeBeats_wf (m : ℕ) (p : BusPort) (n : ℕ) (x3 : ℕ) (x4 : ℕ) (x5 : List Byte) (x6 : State) (h : x6.mem.wf = true) : (writeBeats m p n x3 x4 x5 x6).mem.wf = true := by
  induction x3 generalizing x4 x5 x6 with
  | zero => exact h
  | succ k ih => unfold writeBeats; exact ih _ _ _ (portWrite_wf _ _ _ _ _ h)


@[simp] theorem perform_wf (m : ℕ) (p : BusPort) (x : BusOp) (s : State) (h : s.mem.wf = true) : (perform m p x s).mem.wf = true := by
  unfold perform
  simp [h]; (repeat' split) <;> (simp [h]; done)


@[simp] theorem portGrants_wf (p : BusPort) (s : State) (h : s.mem.wf = true) : (portGrants p s).mem.wf = true := by
  unfold portGrants
  (repeat' split) <;> (simp [h]; done)


theorem dmaStep_wf {x : DmaDesc} {n k : Nat} {s t : State} (h : dmaStep x n k s = .ok t) (hs : s.mem.wf = true) :
    t.mem.wf = true := by
  unfold dmaStep at h
  extract_lets a d at h
  split at h
  · extract_lets r at h
    have e : r.2.mem.wf = true := by simp only [r]; split <;> simp [hs]
    rw [← Except.ok.inj h]
    split <;> simp [e]
  · cases h
  · cases h

@[simp] theorem dmaMove_wf (c : ℕ) (x : DmaDesc) (n : ℕ) (x3 : ℕ) (x4 : ℕ) (x5 : State) (h : x5.mem.wf = true) : (dmaMove c x n x3 x4 x5).1.mem.wf = true := by
  induction x3 generalizing x4 x5 with
  | zero => exact h
  | succ j ih =>
    unfold dmaMove
    split
    · exact ih _ _ (dmaStep_wf ‹_› h)
    · simp [h]


@[simp] theorem descriptorEnds_wf (c : ℕ) (s : State) (h : s.mem.wf = true) : (descriptorEnds c s).mem.wf = true := by
  unfold descriptorEnds
  simp [h]; (repeat' split) <;> (simp [h]; done)



end Sys2Proof.Machine
end

