-- ==== Sys2Proof/Laws/Ops.lean ====
section
/-!
SUPPORT. What the shared operations do: fields written and read back, fault sources asserted, and the frames of both.
-/

namespace Sys2Proof.Machine

variable (s : State)

/-! ### Fields -/

/-- Two fields do not meet. -/
def fldApart (f g : Fld) : Bool :=
  f.reg != g.reg || Nat.ble (g.lo + g.len) f.lo || Nat.ble (f.lo + f.len) g.lo

theorem fld_setFld_apart {f g : Fld} (h : f.lo + f.len ≤ 32) (ha : fldApart f g = true) (i j v : Nat) :
    (s.setFld f i v).fld g j = s.fld g j := by
  by_cases hr : g.reg = f.reg
  · by_cases hj : j = i
    · subst hj
      simp [fldApart, hr] at ha
      exact fld_setFld_bits s h hr ha j v
    · exact fld_setFld_reg s v (fun _ => hj)
  · exact fld_setFld_reg s v (fun e => absurd e hr)

theorem fld_setFld_elem {f g : Fld} {i j : Nat} (v : Nat) (h : j ≠ i) : (s.setFld f i v).fld g j = s.fld g j :=
  fld_setFld_reg s v (fun _ => h)

theorem fld_setReg_apart {f : Fld} {r : RegName} (i j : Nat) (v : Word) (h : f.reg ≠ r) : (s.setReg r i v).fld f j = s.fld f j :=
  fld_setReg_reg s v (fun e => absurd e h)

theorem reg_setFld_apart {f : Fld} {r : RegName} (i j v : Nat) (h : r ≠ f.reg) : (s.setFld f i v).reg r j = s.reg r j :=
  reg_setReg_reg s i j _ h

theorem reg_setFlag_apart {f : Fld} {r : RegName} (i j : Nat) (b : Bool) (h : r ≠ f.reg) : (s.setFlag f i b).reg r j = s.reg r j :=
  reg_setFld_apart s i j _ h

theorem reg_bumpN_apart {q r : RegName} (i j n : Nat) (h : r ≠ q) : (s.bumpN q i n).reg r j = s.reg r j :=
  reg_setReg_reg s i j _ h

theorem reg_bump_apart {q r : RegName} (i j : Nat) (h : r ≠ q) : (s.bump q i).reg r j = s.reg r j := reg_bumpN_apart s i j 1 h

theorem fld_bump_apart {f : Fld} {q : RegName} (i j : Nat) (h : f.reg ≠ q) : (s.bump q i).fld f j = s.fld f j :=
  fld_setReg_apart s i j _ h

/-- An event counter counts one event, up to all ones (R6). -/
theorem reg_bump_same (q : RegName) (i : Nat) :
    (s.bump q i).reg q i = BitVec.ofNat 32 (min (2 ^ 32 - 1) ((s.reg q i).toNat + 1)) := reg_setReg_same s q i _

/-- A field of one bit is 0 or 1. -/
theorem fld_lt (f : Fld) (i : Nat) : s.fld f i < 2 ^ f.len := Nat.mod_lt _ (Nat.two_pow_pos _)

/-- A one-bit field reads as what was written to it. -/
theorem flag_setFlag_same {f : Fld} (h : f.lo + f.len ≤ 32) (h1 : f.len = 1) (i : Nat) (b : Bool) :
    (s.setFlag f i b).flag f i = b := by
  rw [State.flag, State.setFlag, fld_setFld_same s h, h1]
  cases b <;> rfl

theorem flag_setFlag_apart {f g : Fld} (h : f.lo + f.len ≤ 32) (ha : fldApart f g = true) (i j : Nat) (b : Bool) :
    (s.setFlag f i b).flag g j = s.flag g j := by rw [State.flag, State.setFlag, fld_setFld_apart s h ha, State.flag]

theorem flag_setFlag_elem {f g : Fld} {i j : Nat} (b : Bool) (h : j ≠ i) : (s.setFlag f i b).flag g j = s.flag g j := by
  rw [State.flag, State.setFlag, fld_setFld_elem s _ h, State.flag]

theorem fld_setFlag_apart {f g : Fld} (h : f.lo + f.len ≤ 32) (ha : fldApart f g = true) (i j : Nat) (b : Bool) :
    (s.setFlag f i b).fld g j = s.fld g j := fld_setFld_apart s h ha i j _

theorem flag_setFld_apart {f g : Fld} (h : f.lo + f.len ≤ 32) (ha : fldApart f g = true) (i j v : Nat) :
    (s.setFld f i v).flag g j = s.flag g j := by rw [State.flag, fld_setFld_apart s h ha, State.flag]

@[simp] theorem flag_raise (x : Src) (f : Fld) (i : Nat) : (s.raise x).flag f i = s.flag f i := by simp [State.flag]

/-- A state with the same register file shows the same flags. -/
theorem flag_of_regs {s t : State} (h : t.regs = s.regs) (f : Fld) (i : Nat) : t.flag f i = s.flag f i := by
  rw [State.flag, fld_of_regs h, State.flag]

/-! ### Fault sources (R424) -/

theorem Blk.index_inj : ∀ {a b : Blk}, a.index = b.index → a = b := by
  intro a b; cases a <;> cases b <;> first | (intro _; rfl) | (intro h; exact absurd h (by decide))

@[simp] theorem faults_setFaults_same (b : Blk) (f : FaultSet) : (s.setFaults b f).faults b = f := by
  simp [State.faults, State.setFaults]

theorem faults_setFaults_ne {b c : Blk} (f : FaultSet) (h : c ≠ b) : (s.setFaults b f).faults c = s.faults c := by
  have : c.index ≠ b.index := fun e => h (Blk.index_inj e)
  simp [State.faults, State.setFaults, AMap.get_set_ne _ _ _ this]

theorem isSet_of_flt {s t : State} (h : t.flt = s.flt) (x : Src) : t.isSet x = s.isSet x := by
  simp [State.isSet, State.faults, h]

theorem getLsbD_mask {x : Src} (h : x.bit < 32) (k : Nat) : x.mask.getLsbD k = decide (k = x.bit) := by
  simp only [Src.mask, BitVec.getLsbD_shiftLeft, BitVec.getLsbD_one]
  by_cases hk : k = x.bit
  · subst hk; simp [h]
  · by_cases h2 : k < x.bit
    · simp [h2]; omega
    · simp [hk]; omega

/-- One assertion sets its own bit and no other of its block. -/
theorem isSet_assert (x y : Src) (b : Bool) (hx : x.bit < 32) (n : Nat) :
    (s.setFaults x.blk ((s.faults x.blk).assert b x.mask n)).isSet y = (s.isSet y || decide (y = x)) := by
  unfold State.isSet
  by_cases hb : y.blk = x.blk
  · rw [hb, faults_setFaults_same]
    have e : ((s.faults x.blk).assert b x.mask n).fstat = (s.faults x.blk).fstat ||| x.mask := rfl
    rw [e, BitVec.getLsbD_or, getLsbD_mask hx]
    congr 1
    obtain ⟨yb, yn⟩ := y
    obtain ⟨xb, xn⟩ := x
    simp only at hb
    subst hb
    simp
  · rw [faults_setFaults_ne s _ hb]
    have : y ≠ x := fun e => hb (e ▸ rfl)
    simp [this]

/-- ALERT_N going low sets GPIO ALERT and no other source. -/
theorem isSet_alertUpdate {y : Src} (h : y ≠ Src.GPIO_ALERT) : (alertUpdate s).isSet y = s.isSet y := by
  unfold alertUpdate
  dsimp only
  split
  · have := isSet_assert { s with alertLow := s.alertNext } Src.GPIO_ALERT y true (by decide) s.now
    simp only [h, decide_false, Bool.or_false] at this
    exact this
  · rfl

theorem isSet_alertUpdate_mono {y : Src} (h : s.isSet y = true) : (alertUpdate s).isSet y = true := by
  by_cases e : y = Src.GPIO_ALERT
  · subst e
    unfold alertUpdate
    dsimp only
    split
    · have := isSet_assert { s with alertLow := s.alertNext } Src.GPIO_ALERT Src.GPIO_ALERT true (by decide) s.now
      rw [decide_eq_true rfl, Bool.or_true] at this
      exact this
    · exact h
  · rw [isSet_alertUpdate s e, h]

/-- A source raised is set. -/
theorem isSet_raise_same {x : Src} (hx : x.bit < 32) : (s.raise x).isSet x = true := by
  apply isSet_alertUpdate_mono
  rw [isSet_assert s x x true hx]
  simp

/-- A source raised leaves every other one but GPIO ALERT alone. -/
theorem isSet_raise_ne {x y : Src} (hx : x.bit < 32) (h : y ≠ x) (hg : y ≠ Src.GPIO_ALERT) : (s.raise x).isSet y = s.isSet y := by
  rw [State.raise, isSet_alertUpdate _ hg, isSet_assert s x y true hx]
  simp [h]

/-- A source that is set stays set when another one is raised. -/
theorem isSet_raise_mono {x y : Src} (hx : x.bit < 32) (h : s.isSet y = true) : (s.raise x).isSet y = true := by
  apply isSet_alertUpdate_mono
  rw [isSet_assert s x y true hx, h]
  rfl

/-- An update of registers alone leaves the sources alone. -/
@[simp] theorem isSet_setReg (r : RegName) (i : Nat) (v : Word) (x : Src) : (s.setReg r i v).isSet x = s.isSet x := rfl
@[simp] theorem isSet_setFld (f : Fld) (i v : Nat) (x : Src) : (s.setFld f i v).isSet x = s.isSet x := rfl
@[simp] theorem isSet_setFlag (f : Fld) (i : Nat) (b : Bool) (x : Src) : (s.setFlag f i b).isSet x = s.isSet x := rfl
@[simp] theorem isSet_bump (r : RegName) (i : Nat) (x : Src) : (s.bump r i).isSet x = s.isSet x := rfl
@[simp] theorem isSet_bumpN (r : RegName) (i n : Nat) (x : Src) : (s.bumpN r i n).isSet x = s.isSet x := rfl
@[simp] theorem isSet_setTd (n : Nat) (y : TdState) (x : Src) : (s.setTd n y).isSet x = s.isSet x := rfl

/-! ### Frames -/

/-- A source raised changes the fault registers and ALERT_N alone. -/
theorem onlyRegs_raise (x : Src) : onlyRegs s (s.raise x) := by
  unfold onlyRegs State.raise alertUpdate
  dsimp only
  split <;> rfl

theorem onlyRegs_trans {s t u : State} (h : onlyRegs s t) (g : onlyRegs t u) : onlyRegs s u := by
  unfold onlyRegs at *
  rw [g, h]

theorem onlyRegs_setReg (r : RegName) (i : Nat) (v : Word) : onlyRegs s (s.setReg r i v) := rfl

theorem onlyRegs_setFld (f : Fld) (i v : Nat) : onlyRegs s (s.setFld f i v) := rfl

theorem onlyRegs_setFlag (f : Fld) (i : Nat) (b : Bool) : onlyRegs s (s.setFlag f i b) := rfl

/-- A command turned away sets CFG_REJECT of its block and changes nothing else of the register file (R516). -/
theorem isSet_reject (b : Blk) : (s.reject b).isSet ⟨b, b.cfgReject⟩ = true :=
  isSet_raise_same s (by cases b <;> decide)

theorem onlyRegs_reject (b : Blk) : onlyRegs s (s.reject b) := onlyRegs_raise s _

end Sys2Proof.Machine
end

