-- ==== Sys2Proof/Laws/Queue.lean ====
section
/-!
SUPPORT. No operation of the model touches the queue of waiting commands.
-/

set_option linter.all false

namespace Sys2Proof.Machine

/-! ### Machine/Ops.lean -/

@[simp] theorem foldl_pending {α : Type} (g : State → α → State) (h : ∀ a x, (g a x).pending = a.pending) (l : List α) (s : State) :
    (l.foldl g s).pending = s.pending := by
  induction l generalizing s with
  | nil => rfl
  | cons x l ih => rw [List.foldl_cons, ih, h]

@[simp] theorem foldl_snd_pending {α β : Type} (g : β × State → α → β × State) (h : ∀ a x, (g a x).2.pending = a.2.pending)
    (l : List α) (p : β × State) : (l.foldl g p).2.pending = p.2.pending := by
  induction l generalizing p with
  | nil => rfl
  | cons x l ih => rw [List.foldl_cons, ih, h]

@[simp] theorem foldl_fst_pending {α β : Type} (g : State × β → α → State × β) (h : ∀ a x, (g a x).1.pending = a.1.pending)
    (l : List α) (p : State × β) : (l.foldl g p).1.pending = p.1.pending := by
  induction l generalizing p with
  | nil => rfl
  | cons x l ih => rw [List.foldl_cons, ih, h]

@[simp] theorem ite_pending (c : Prop) [Decidable c] (a b : State) :
    (if c then a else b).pending = if c then a.pending else b.pending := apply_ite _ _ _ _

@[simp] theorem plainWrite_pending (r : RegName) (i : ℕ) (v : Word) (s : State) : (plainWrite r i v s).pending = s.pending := by
  unfold plainWrite
  (repeat' split) <;> (simp; done)


@[simp] theorem guardedWrite_pending (bad : Bool) (r : RegName) (i : ℕ) (v : Word) (s : State) : (guardedWrite bad r i v s).pending = s.pending := by
  unfold guardedWrite
  simp


@[simp] theorem divFree_pending (s : State) (num : ℤ) (den : ℕ) : (State.divFree s num den).2.pending = s.pending := by
  unfold State.divFree
  simp; (repeat' split) <;> (simp; done)


@[simp] theorem runDom_pending (s : State) (d : ℕ) (ns : ℕ) : (State.runDom s d ns).pending = s.pending := by
  unfold State.runDom
  simp


@[simp] theorem slewEt_pending (ns : ℕ) (s : State) : (slewEt ns s).pending = s.pending := by
  unfold slewEt
  simp


@[simp] theorem elapse_pending (ns : ℕ) (s : State) : (elapse ns s).pending = s.pending := by
  unfold elapse
  simp


@[simp] theorem passTo_pending (t : ℤ) (s : State) : (passTo t s).pending = s.pending := by
  unfold passTo
  simp


@[simp] theorem passToNow_pending (t : ℕ) (s : State) : (passToNow t s).pending = s.pending := by
  unfold passToNow
  simp


@[simp] theorem setFlds_pending (s : State) (i : ℕ) (x2 : List (Fld × ℕ)) : (State.setFlds s i x2).pending = s.pending := by
  induction x2 generalizing s with
  | nil => rfl
  | cons e l ih => obtain ⟨f, v⟩ := e; simp [State.setFlds, ih]


@[simp] theorem noteBusFault_pending (m : ℕ) (cause : ℕ) (write : Bool) (a : ℕ) (s : State) : (noteBusFault m cause write a s).pending = s.pending := by
  unfold noteBusFault
  simp


@[simp] theorem denyAccess_pending (m : ℕ) (write : Bool) (a : ℕ) (s : State) : (denyAccess m write a s).pending = s.pending := by
  unfold denyAccess
  simp


@[simp] theorem byMaster_pending (m : ℕ) (r : RegName) (i : ℕ) (f : State → State) (s : State) (hf : ∀ a, (f a).pending = a.pending) : (byMaster m r i f s).pending = s.pending := by
  unfold byMaster
  simp [hf]


/-! ### Machine/Ptp.lean -/

@[simp] theorem setResid_pending (r : ℤ) (s : State) : (setResid r s).pending = s.pending := by
  unfold setResid
  simp


@[simp] theorem stepDomClock_pending (d : ℕ) (k : ℤ) (s : State) : (stepDomClock d k s).pending = s.pending := by
  unfold stepDomClock
  simp


@[simp] theorem setFreq_pending (d : ℕ) (y : ℤ) (s : State) : (setFreq d y s).pending = s.pending := by
  unfold setFreq
  simp


@[simp] theorem holdFreq_pending (d : ℕ) (s : State) : (holdFreq d s).pending = s.pending := by
  unfold holdFreq
  simp


@[simp] theorem setPtpState_pending (d : ℕ) (st : ℕ) (s : State) : (setPtpState d st s).pending = s.pending := by
  unfold setPtpState
  simp


@[simp] theorem tryAcquire_pending (d : ℕ) (s : State) : (tryAcquire d s).pending = s.pending := by
  unfold tryAcquire
  simp


@[simp] theorem enterPtpHoldover_pending (d : ℕ) (s : State) : (enterPtpHoldover d s).pending = s.pending := by
  unfold enterPtpHoldover
  simp


@[simp] theorem enterPtpLocked_pending (d : ℕ) (s : State) : (enterPtpLocked d s).pending = s.pending := by
  unfold enterPtpLocked
  simp


@[simp] theorem servoUpdate_pending (d : ℕ) (th : ℤ) (s : State) : (servoUpdate d th s).pending = s.pending := by
  unfold servoUpdate
  simp


@[simp] theorem acquiringOffset_pending (d : ℕ) (th : ℤ) (s : State) : (acquiringOffset d th s).pending = s.pending := by
  unfold acquiringOffset
  simp


@[simp] theorem lockedOffset_pending (d : ℕ) (th : ℤ) (s : State) : (lockedOffset d th s).pending = s.pending := by
  unfold lockedOffset
  simp


@[simp] theorem servoStep_pending (d : ℕ) (q : ℤ) (s : State) : (servoStep d q s).pending = s.pending := by
  unfold servoStep
  simp


@[simp] theorem servoOffset_pending (d : ℕ) (th : ℤ) (q : ℤ) (s : State) : (servoOffset d th q s).pending = s.pending := by
  unfold servoOffset
  simp


@[simp] theorem takeOffset_pending (d : ℕ) (t1 : ℕ) (t2 : ℕ) (c : ℤ) (s : State) : (takeOffset d t1 t2 c s).pending = s.pending := by
  unfold takeOffset
  simp


@[simp] theorem notePort_pending (d : ℕ) (port : Fin 2) (s : State) : (notePort d port s).pending = s.pending := by
  unfold notePort
  simp


@[simp] theorem ptpSync_pending (d : ℕ) (m : SyncMsg) (s : State) : (ptpSync d m s).pending = s.pending := by
  unfold ptpSync
  simp


@[simp] theorem ptpFollowUp_pending (d : ℕ) (m : FollowUpMsg) (s : State) : (ptpFollowUp d m s).pending = s.pending := by
  unfold ptpFollowUp
  (repeat' split) <;> (simp; done)


@[simp] theorem ptpDelayResp_pending (d : ℕ) (m : DelayRespMsg) (s : State) : (ptpDelayResp d m s).pending = s.pending := by
  unfold ptpDelayResp
  (repeat' split) <;> (simp; done)


@[simp] theorem selectMaster_pending (d : ℕ) (s : State) : (selectMaster d s).pending = s.pending := by
  unfold selectMaster
  (repeat' split) <;> (simp; done)


@[simp] theorem ptpAnnounce_pending (d : ℕ) (m : AnnounceMsg) (s : State) : (ptpAnnounce d m s).pending = s.pending := by
  unfold ptpAnnounce
  simp


@[simp] theorem ptpAnnounceTimeout_pending (d : ℕ) (s : State) : (ptpAnnounceTimeout d s).pending = s.pending := by
  unfold ptpAnnounceTimeout
  (repeat' split) <;> (simp; done)


@[simp] theorem sendDelayReq_pending (d : ℕ) (port : ℕ) (s : State) : (sendDelayReq d port s).pending = s.pending := by
  unfold sendDelayReq
  simp


@[simp] theorem setPtpWaiting_pending (s : State) (port : ℕ) (l : List ℕ) : (State.setPtpWaiting s port l).pending = s.pending := by
  unfold State.setPtpWaiting
  simp


@[simp] theorem flushDelayReq_pending (port : ℕ) (s : State) : (flushDelayReq port s).pending = s.pending := by
  unfold flushDelayReq
  simp


@[simp] theorem ptpDelayReqTx_pending (d : ℕ) (s : State) : (ptpDelayReqTx d s).pending = s.pending := by
  unfold ptpDelayReqTx
  simp


@[simp] theorem domEnableEffect_pending (d : ℕ) (was : Bool) (s : State) : (domEnableEffect d was s).pending = s.pending := by
  unfold domEnableEffect
  simp


@[simp] theorem writePtpDomCfg_pending (d : ℕ) (v : Word) (s : State) : (writePtpDomCfg d v s).pending = s.pending := by
  unfold writePtpDomCfg
  simp


@[simp] theorem etDoSwitch_pending (s : State) : (etDoSwitch s).pending = s.pending := by
  unfold etDoSwitch
  simp


@[simp] theorem etRetarget_pending (n : ℕ) (s : State) : (etRetarget n s).pending = s.pending := by
  unfold etRetarget
  simp


@[simp] theorem etFollow_pending (s : State) : (etFollow s).pending = s.pending := by
  unfold etFollow
  simp


@[simp] theorem writeEtCfg_pending (v : Word) (s : State) : (writeEtCfg v s).pending = s.pending := by
  unfold writeEtCfg
  simp


@[simp] theorem etPendingSwitch_pending (s : State) : (etPendingSwitch s).pending = s.pending := by
  unfold etPendingSwitch
  simp


@[simp] theorem etSlewEnd_pending (s : State) : (etSlewEnd s).pending = s.pending := by
  unfold etSlewEnd
  simp


@[simp] theorem writeEtStep_pending (v : Word) (s : State) : (writeEtStep v s).pending = s.pending := by
  unfold writeEtStep
  simp


@[simp] theorem sendTiles_pending (msg : List Byte) (s : State) : (sendTiles msg s).pending = s.pending := by
  unfold sendTiles
  simp


@[simp] theorem tileSync_pending (s : State) : (tileSync s).pending = s.pending := by
  unfold tileSync
  simp


@[simp] theorem tileAnnounce_pending (s : State) : (tileAnnounce s).pending = s.pending := by
  unfold tileAnnounce
  simp


@[simp] theorem tileDelay_pending (p : ℕ) (sender : ℕ) (seq : BitVec 16) (s : State) : (tileDelay p sender seq s).pending = s.pending := by
  unfold tileDelay
  simp


@[simp] theorem setTsQueue_pending (s : State) (p : ℕ) (q : List (BitVec 16 × ℕ)) : (State.setTsQueue s p q).pending = s.pending := by
  unfold State.setTsQueue
  simp


@[simp] theorem tsqAppend_pending (p : ℕ) (tag : BitVec 16) (s : State) : (tsqAppend p tag s).pending = s.pending := by
  unfold tsqAppend
  simp


@[simp] theorem tsqPopTo_pending (m : ℕ) (p : ℕ) (s : State) : (tsqPopTo m p s).pending = s.pending := by
  unfold tsqPopTo
  (repeat' split) <;> (simp; done)


@[simp] theorem etReadTo_pending (m : ℕ) (s : State) : (etReadTo m s).pending = s.pending := by
  unfold etReadTo
  simp


@[simp] theorem writePtp_pending (r : RegName) (i : ℕ) (v : Word) (s : State) : (writePtp r i v s).pending = s.pending := by
  unfold writePtp
  (repeat' split) <;> (simp; done)


/-! ### Machine/RefUnit.lean -/

@[simp] theorem armCrash_pending (s : State) : (armCrash s).pending = s.pending := by
  unfold armCrash
  simp


@[simp] theorem showSlewing_pending (s : State) : (showSlewing s).pending = s.pending := by
  unfold showSlewing
  simp


@[simp] theorem enterAcquire_pending (s : State) : (enterAcquire s).pending = s.pending := by
  unfold enterAcquire
  simp


@[simp] theorem ownSlewing_pending (s : State) : (ownSlewing s).pending = s.pending := by
  unfold ownSlewing
  simp


@[simp] theorem endPhaseBuild_pending (s : State) : (endPhaseBuild s).pending = s.pending := by
  unfold endPhaseBuild
  simp


@[simp] theorem enterHoldover_pending (s : State) : (enterHoldover s).pending = s.pending := by
  unfold enterHoldover
  simp; (repeat' split) <;> (simp; done)


@[simp] theorem loseReference_pending (s : State) : (loseReference s).pending = s.pending := by
  unfold loseReference
  simp


@[simp] theorem disqualify_pending (n : ℕ) (s : State) : (disqualify n s).pending = s.pending := by
  unfold disqualify
  simp


@[simp] theorem qualify_pending (n : ℕ) (ana : AnaFormat) (s : State) : (qualify n ana s).pending = s.pending := by
  unfold qualify
  simp


@[simp] theorem sourceFails_pending (n : ℕ) (monitorFailed : Bool) (s : State) : (sourceFails n monitorFailed s).pending = s.pending := by
  unfold sourceFails
  simp


@[simp] theorem acceptRefsel_pending (v : ℕ) (s : State) : (acceptRefsel v s).pending = s.pending := by
  unfold acceptRefsel
  simp


@[simp] theorem refselSampled_pending (v : ℕ) (s : State) : (refselSampled v s).pending = s.pending := by
  unfold refselSampled
  simp


@[simp] theorem takeOfsSample_pending (n : ℕ) (x : ℤ) (s : State) : (takeOfsSample n x s).pending = s.pending := by
  unfold takeOfsSample
  simp


@[simp] theorem showLagged_pending (s : State) : (showLagged s).pending = s.pending := by
  unfold showLagged
  simp


@[simp] theorem driftCheck_pending (s : State) : (driftCheck s).pending = s.pending := by
  unfold driftCheck
  simp


@[simp] theorem noteHistory_pending (samples : List (Fin 8 × ℤ)) (s : State) : (noteHistory samples s).pending = s.pending := by
  unfold noteHistory
  (repeat' split) <;> (simp; done)


@[simp] theorem offsetSamples_pending (samples : List (Fin 8 × ℤ)) (s : State) : (offsetSamples samples s).pending = s.pending := by
  unfold offsetSamples
  simp


@[simp] theorem noteDisagree_pending (lasting : List (Fin 8 × Fin 8)) (s : State) : (noteDisagree lasting s).pending = s.pending := by
  unfold noteDisagree
  simp; (repeat' split) <;> (simp; done)


@[simp] theorem showPhaseErr_pending (err : ℤ) (s : State) : (showPhaseErr err s).pending = s.pending := by
  unfold showPhaseErr
  simp


@[simp] theorem loopStepDownTo_pending (err : ℤ) (s : State) : (loopStepDownTo err s).pending = s.pending := by
  unfold loopStepDownTo
  simp


@[simp] theorem loopRelock_pending (err : ℤ) (s : State) : (loopRelock err s).pending = s.pending := by
  unfold loopRelock
  simp


@[simp] theorem phaseBuilt_pending (err : ℤ) (s : State) : (phaseBuilt err s).pending = s.pending := by
  unfold phaseBuilt
  simp


@[simp] theorem tdOpen_pending (n : ℕ) (ph : ℤ) (t : FrameTimes) (s : State) : (tdOpen n ph t s).pending = s.pending := by
  unfold tdOpen
  simp


@[simp] theorem tdShut_pending (n : ℕ) (t : FrameTimes) (s : State) : (tdShut n t s).pending = s.pending := by
  unfold tdShut
  simp


@[simp] theorem tdEnableEffect_pending (n : ℕ) (was : Bool) (s : State) : (tdEnableEffect n was s).pending = s.pending := by
  unfold tdEnableEffect
  simp


@[simp] theorem writeTdCfg_pending (n : ℕ) (v : Word) (s : State) : (writeTdCfg n v s).pending = s.pending := by
  unfold writeTdCfg
  simp


@[simp] theorem writeTdLines_pending (n : ℕ) (v : Word) (s : State) : (writeTdLines n v s).pending = s.pending := by
  unfold writeTdLines
  simp


@[simp] theorem writeTdPhase_pending (n : ℕ) (v : Word) (s : State) : (writeTdPhase n v s).pending = s.pending := by
  unfold writeTdPhase
  simp


@[simp] theorem tdSlewEnd_pending (n : ℕ) (s : State) : (tdSlewEnd n s).pending = s.pending := by
  unfold tdSlewEnd
  simp


@[simp] theorem writeRefOut_pending (v : Word) (s : State) : (writeRefOut v s).pending = s.pending := by
  unfold writeRefOut
  simp


@[simp] theorem toPulse_pending (s : State) : (toPulse s).pending = s.pending := by
  unfold toPulse
  simp; (repeat' split) <;> (simp; done)


@[simp] theorem refOutPulses_pending (s : State) : (refOutPulses s).pending = s.pending := by
  unfold refOutPulses
  simp


@[simp] theorem writeRequal_pending (v : Word) (s : State) : (writeRequal v s).pending = s.pending := by
  unfold writeRequal
  simp


@[simp] theorem writePpsHi_pending (v : Word) (s : State) : (writePpsHi v s).pending = s.pending := by
  unfold writePpsHi
  simp


@[simp] theorem ppsEdge_pending (instant : ℕ) (s : State) : (ppsEdge instant s).pending = s.pending := by
  unfold ppsEdge
  simp


@[simp] theorem writeLoopCfg_pending (v : Word) (s : State) : (writeLoopCfg v s).pending = s.pending := by
  unfold writeLoopCfg
  simp


@[simp] theorem writeHoldCfg_pending (v : Word) (s : State) : (writeHoldCfg v s).pending = s.pending := by
  unfold writeHoldCfg
  simp


@[simp] theorem writeRef_pending (r : RegName) (i : ℕ) (v : Word) (s : State) : (writeRef r i v s).pending = s.pending := by
  unfold writeRef
  (repeat' split) <;> (simp; done)


/-! ### Machine/Xpt.lean -/

theorem reserveStore_pending (s : State) (e : ℕ) (stride : ℕ) : ∀ t, State.reserveStore s e stride = some t → t.pending = s.pending := by
  intro t h
  unfold State.reserveStore at h
  first
  | (repeat' split at h) <;> (simp_all; done)
  | (repeat' split at h) <;> first | contradiction | (cases h; simp; done)


@[simp] theorem releaseStore_pending (s : State) (e : ℕ) : (State.releaseStore s e).pending = s.pending := by
  unfold State.releaseStore
  simp


@[simp] theorem setVin_pending (s : State) (v : ℕ) (x : VinRec) : (State.setVin s v x).pending = s.pending := by
  unfold State.setVin
  simp


@[simp] theorem setRoutes_pending (s : State) (d : ℕ) (x : RouteSet) : (State.setRoutes s d x).pending = s.pending := by
  unfold State.setRoutes
  simp


@[simp] theorem reserveVin_pending (v : ℕ) (fmt : ℕ) (s : State) : (reserveVin v fmt s).pending = s.pending := by
  unfold reserveVin
  split
  · exact reserveStore_pending _ _ _ _ ‹_›
  · simp


@[simp] theorem attachVin_pending (v : ℕ) (kind : ℕ) (fmt : ℕ) (map : ℕ) (din10 : ℕ) (s : State) : (attachVin v kind fmt map din10 s).pending = s.pending := by
  unfold attachVin
  simp


@[simp] theorem detachVin_pending (v : ℕ) (s : State) : (detachVin v s).pending = s.pending := by
  unfold detachVin
  simp


@[simp] theorem setVinPresent_pending (v : ℕ) (b : Bool) (s : State) : (setVinPresent v b s).pending = s.pending := by
  unfold setVinPresent
  simp


@[simp] theorem closeMargins_pending (n : ℕ) (s : State) : (closeMargins n s).pending = s.pending := by
  unfold closeMargins
  simp


@[simp] theorem setHbm_pending (s : State) (user : ℕ) (a : ℕ) (b : ℕ) : (State.setHbm s user a b).pending = s.pending := by
  unfold State.setHbm
  simp


theorem newSync_pending {v n : Nat} {armed : Bool} {s t : State} {j : Nat} (h : newSync v n armed s = .ok (j, t)) : t.pending = s.pending := by
  unfold newSync at h
  simp only [] at h
  split at h
  · cases h
  · split at h
    · cases h
    · split at h
      · cases h
      · have := reserveStore_pending _ _ _ _ ‹_›
        generalize (if s.lowerStack = 0 then fsMbps (fmtKbps (s.vinRec v).fmt) else 0) = x at h
        generalize (if s.lowerStack = 1 then fsMbps (fmtKbps (s.vinRec v).fmt) else 0) = y at h
        split at h
        · cases h; simp [this]
        · cases h

@[simp] theorem dropSyncs_pending (s : State) : (dropSyncs s).pending = s.pending := by
  unfold dropSyncs
  simp


theorem newPipeFs_pending {q v n mb stride : Nat} {s t : State} (h : newPipeFs q v n mb stride s = .ok t) : t.pending = s.pending := by
  unfold newPipeFs at h
  have key : ∀ u, (if stride = 0 then some s else s.reserveStore (2048 + q) stride) = some u → u.pending = s.pending := by
    intro u hu
    split at hu
    · cases hu; rfl
    · exact reserveStore_pending _ _ _ _ hu
  split at h
  · split at h <;> cases h <;> rfl
  · simp only [] at h
    generalize (if stride = 0 then some s else s.reserveStore (2048 + q) stride) = w at h key
    split at h
    · cases h
    · cases w with
      | none => cases h
      | some u =>
        simp only [] at h
        generalize (if s.lowerStack = 0 then mb else 0) = x at h
        generalize (if s.lowerStack = 1 then mb else 0) = y at h
        split at h
        · cases h; simp [key]
        · cases h

@[simp] theorem dropPipeFs_pending (s : State) : (dropPipeFs s).pending = s.pending := by
  unfold dropPipeFs
  simp


@[simp] theorem refuseRoute_pending (o : ℕ) (n : ℕ) (reason : ℕ) (s : State) : (refuseRoute o n reason s).pending = s.pending := by
  unfold refuseRoute
  simp


theorem storeFor_pending {s t : State} {v o n path q u : Nat} {w : Bool} {d : Int}
    (h : s.storeFor v o n path q = .ok (u, w, d, t)) : t.pending = s.pending := by
  unfold State.storeFor at h
  split at h
  · split at h
    · cases h; rfl
    · split at h
      · cases h; exact newSync_pending ‹_›
      · cases h
  · split at h
    · cases h; exact newPipeFs_pending ‹_›
    · cases h
  · cases h; rfl

theorem decideRoute_pending {o v n : Nat} {classP : Bool} {s t : State} {r : Route} (h : decideRoute o v n classP s = .ok (r, t)) :
    t.pending = s.pending := by
  unfold decideRoute at h
  dsimp only at h
  split at h
  · cases h
  · split at h
    · cases h
    · split at h
      · cases h
      · split at h
        · cases h
        · split at h
          · cases h
          · cases h
            rename_i h1
            exact (storeFor_pending h1).trans (by simp)

@[simp] theorem requestRoute_pending (o : ℕ) (v : ℕ) (n : ℕ) (classP : Bool) (s : State) : (requestRoute o v n classP s).2.pending = s.pending := by
  unfold requestRoute
  split
  · have := decideRoute_pending ‹_›
    simp [this]
  · simp


@[simp] theorem withdrawRequest_pending (d : ℕ) (s : State) : (withdrawRequest d s).pending = s.pending := by
  unfold withdrawRequest
  simp


@[simp] theorem removeRoutes_pending (d : ℕ) (s : State) : (removeRoutes d s).pending = s.pending := by
  unfold removeRoutes
  simp


@[simp] theorem applyPlan_pending (plan : List RouteItem) (i : RouteItem) (s : State) : (applyPlan plan i s).pending = s.pending := by
  unfold applyPlan
  (repeat' split) <;> (simp; done)


@[simp] theorem capacityAct_pending (n : ℕ) (s : State) : (capacityAct n s).pending = s.pending := by
  unfold capacityAct
  simp


@[simp] theorem dropStores_pending (x0 : ℕ) (x1 : State) : (dropStores x0 x1).pending = x1.pending := by
  induction x0 generalizing x1 with
  | zero => rfl
  | succ k ih =>
    unfold dropStores
    split
    · rfl
    · split
      · rfl
      · dsimp only
        rw [ih]
        simp


@[simp] theorem restoreStores_pending (s : State) : (restoreStores s).pending = s.pending := by
  unfold restoreStores
  refine foldl_pending _ ?_ _ _
  intro a x
  split
  · have h := reserveStore_pending _ _ _ _ ‹_›
    split <;> simp [h]
  · rfl


@[simp] theorem recap_pending (f : State → State) (s : State) (hf : ∀ a, (f a).pending = a.pending) : (recap f s).pending = s.pending := by
  unfold recap
  simp [hf]


@[simp] theorem setSlice_pending (k : ℕ) (st : ℕ) (pos : ℕ) (s : State) : (setSlice k st pos s).pending = s.pending := by
  unfold setSlice
  simp


@[simp] theorem poolPut_pending (e : ℕ) (l : PoolLine) (s : State) : (poolPut e l s).pending = s.pending := by
  unfold poolPut
  simp


@[simp] theorem fsPutAll_pending (v : ℕ) (fmt : ℕ) (l : LineIn) (pl : PoolLine) (s : State) : (fsPutAll v fmt l pl s).pending = s.pending := by
  unfold fsPutAll
  simp


@[simp] theorem writeLine_pending (v : ℕ) (l : LineIn) (s : State) : (writeLine v l s).pending = s.pending := by
  unfold writeLine
  simp


@[simp] theorem noteCheckFail_pending (o : ℕ) (p : ℕ) (w : Option ℕ) (s : State) : (noteCheckFail o p w s).pending = s.pending := by
  unfold noteCheckFail
  (repeat' split) <;> (simp; done)


@[simp] theorem mergeP_pending (e : ℕ) (o : ℕ) (pl : PoolLine) (bad : List WordFault) (s : State) : (mergeP e o pl bad s).2.pending = s.pending := by
  unfold mergeP
  simp; (repeat' split) <;> (simp; done)


@[simp] theorem readT_pending (e : ℕ) (o : ℕ) (planeB : Bool) (pl : PoolLine) (bad : List WordFault) (s : State) : (readT e o planeB pl bad s).2.pending = s.pending := by
  unfold readT
  simp


@[simp] theorem readRoute_pending (e : ℕ) (o : ℕ) (r : Route) (pl : PoolLine) (bad : List WordFault) (s : State) : (readRoute e o r pl bad s).2.pending = s.pending := by
  unfold readRoute
  (repeat' split) <;> (simp; done)


@[simp] theorem readWindow_pending (o : ℕ) (r : Route) (pl : PoolLine) (offs : List ℤ) (words : List (List Byte)) (s : State) : (readWindow o r pl offs words s).2.pending = s.pending := by
  unfold readWindow
  simp; (repeat' split) <;> (simp; done)


@[simp] theorem readLine_pending (o : ℕ) (frame : ℕ) (line : ℕ) (offs : List ℤ) (bad : List WordFault) (s : State) : (readLine o frame line offs bad s).pending = s.pending := by
  unfold readLine
  (repeat' split) <;> (simp; done)


@[simp] theorem commitVoutCfg_pending (n : ℕ) (s : State) : (commitVoutCfg n s).pending = s.pending := by
  unfold commitVoutCfg
  refine foldl_pending _ ?_ _ _
  intro a x
  (repeat' split) <;> simp


@[simp] theorem commitRoutes_pending (n : ℕ) (layers : List ℕ) (s : State) : (commitRoutes n layers s).pending = s.pending := by
  unfold commitRoutes
  simp


@[simp] theorem stepSyncs_pending (n : ℕ) (s : State) : (stepSyncs n s).pending = s.pending := by
  unfold stepSyncs
  (repeat' split) <;> (simp; done)


@[simp] theorem feedersGone_pending (n : ℕ) (s : State) : (feedersGone n s).pending = s.pending := by
  unfold feedersGone
  simp


@[simp] theorem takeOverlap_pending (n : ℕ) (s : State) : (takeOverlap n s).pending = s.pending := by
  unfold takeOverlap
  simp


@[simp] theorem xptShutter_pending (n : ℕ) (layers : List ℕ) (s : State) : (xptShutter n layers s).pending = s.pending :=
  (dropPipeFs_pending _).trans <| (dropSyncs_pending _).trans <| (feedersGone_pending n _).trans <| (capacityAct_pending n _).trans <|
    (closeMargins_pending n _).trans <| (commitRoutes_pending n layers _).trans <| (stepSyncs_pending n _).trans <|
    (commitVoutCfg_pending n _).trans (takeOverlap_pending n s)


@[simp] theorem xptOverlapClose_pending (n : ℕ) (s : State) : (xptOverlapClose n s).pending = s.pending := by
  unfold xptOverlapClose
  simp


@[simp] theorem writeOverlap_pending (v : Word) (s : State) : (writeOverlap v s).pending = s.pending := by
  unfold writeOverlap
  simp


@[simp] theorem setArmed_pending (v : ℕ) (n : ℕ) (b : Bool) (s : State) : (setArmed v n b s).pending = s.pending := by
  unfold setArmed
  simp


@[simp] theorem writeVinCfg_pending (v : ℕ) (w : Word) (s : State) : (writeVinCfg v w s).pending = s.pending := by
  unfold writeVinCfg
  try dsimp only
  split
  · split
    · simp
    · split
      · simp
      · split
        · have := newSync_pending ‹_›
          simp [this]
        · simp
  · simp


@[simp] theorem writeVoutCfg_pending (o : ℕ) (w : Word) (s : State) : (writeVoutCfg o w s).pending = s.pending := by
  unfold writeVoutCfg
  simp


@[simp] theorem writeXpt_pending (r : RegName) (i : ℕ) (v : Word) (s : State) : (writeXpt r i v s).pending = s.pending := by
  unfold writeXpt
  (repeat' split) <;> (simp; done)


/-! ### Machine/Lane.lean -/

@[simp] theorem setQuad_pending (s : State) (q : ℕ) (x : QuadState) : (State.setQuad s q x).pending = s.pending := by
  unfold State.setQuad
  simp


@[simp] theorem stopPll_pending (q : ℕ) (k : ℕ) (s : State) : (stopPll q k s).pending = s.pending := by
  unfold stopPll
  simp


@[simp] theorem detachTx_pending (n : ℕ) (s : State) : (detachTx n s).pending = s.pending := by
  unfold detachTx
  simp


theorem attachTx_pending (n : ℕ) (rate : ℕ) (s : State) : ∀ t, attachTx n rate s = some t → t.pending = s.pending := by
  intro t h
  unfold attachTx at h
  extract_lets q at h
  split at h
  · cases h
  · simp only [Option.some.injEq] at h
    subst h
    split <;> simp


theorem attachAll_pending (rate : ℕ) (x1 : List ℕ) (x2 : State) : ∀ t, attachAll rate x1 x2 = some t → t.pending = x2.pending := by
  intro t h
  induction x1 generalizing x2 with
  | nil => simp only [attachAll, Option.some.injEq] at h; rw [h]
  | cons n ns ih =>
    simp only [attachAll, Option.bind_eq_some_iff] at h
    obtain ⟨u, h1, h2⟩ := h
    rw [ih _ h2, attachTx_pending _ _ _ _ h1]


@[simp] theorem reassignRx_pending (n : ℕ) (s : State) : (reassignRx n s).pending = s.pending := by
  unfold reassignRx
  simp


@[simp] theorem takeLaneCfg_pending (v : Word) (n : ℕ) (s : State) : (takeLaneCfg v n s).pending = s.pending := by
  unfold takeLaneCfg
  simp


theorem assignLane_pending (n : ℕ) (v : Word) (s : State) : ∀ t, assignLane n v s = some t → t.pending = s.pending := by
  intro t h
  unfold assignLane at h
  extract_lets old new rx tx s1 s2 s3 s4 s5 at h
  have e4 : s4.pending = s.pending := by simp only [s4]; split <;> simp [s3, s2, s1]
  have e5 : s5.pending = s.pending := by simp [s5, e4]
  split at h
  · rw [← Option.some.inj h]; exact e4
  · split at h
    · rw [← Option.some.inj h]; exact e5
    · rw [attachAll_pending _ _ _ _ h, e5]


@[simp] theorem writeLaneCfg_pending (n : ℕ) (v : Word) (s : State) : (writeLaneCfg n v s).pending = s.pending := by
  unfold writeLaneCfg
  split
  · split <;> simp
  · split
    · simp
    · split
      · exact assignLane_pending _ _ _ _ ‹_›
      · simp


@[simp] theorem pllLocks_pending (q : ℕ) (k : ℕ) (s : State) : (pllLocks q k s).pending = s.pending := by
  unfold pllLocks
  simp


@[simp] theorem pllLoses_pending (q : ℕ) (k : ℕ) (s : State) : (pllLoses q k s).pending = s.pending := by
  unfold pllLoses
  simp


@[simp] theorem moveToSpare_pending (q : ℕ) (k : ℕ) (s : State) : (moveToSpare q k s).pending = s.pending := by
  unfold moveToSpare
  simp


@[simp] theorem pllSwaps_pending (q : ℕ) (s : State) : (pllSwaps q s).pending = s.pending := by
  unfold pllSwaps
  simp


@[simp] theorem pllRelocks_pending (q : ℕ) (k : ℕ) (s : State) : (pllRelocks q k s).pending = s.pending := by
  unfold pllRelocks
  simp


@[simp] theorem setRx_pending (s : State) (n : ℕ) (x : LaneRx) : (State.setRx s n x).pending = s.pending := by
  unfold State.setRx
  simp


@[simp] theorem cdrLocks_pending (n : ℕ) (rate : ℕ) (s : State) : (cdrLocks n rate s).pending = s.pending := by
  unfold cdrLocks
  simp


@[simp] theorem adaptFinishes_pending (n : ℕ) (s : State) : (adaptFinishes n s).pending = s.pending := by
  unfold adaptFinishes
  simp


@[simp] theorem adaptFails_pending (n : ℕ) (s : State) : (adaptFails n s).pending = s.pending := by
  unfold adaptFails
  simp


@[simp] theorem writeRxEq_pending (n : ℕ) (v : Word) (s : State) : (writeRxEq n v s).pending = s.pending := by
  unfold writeRxEq
  simp


@[simp] theorem noteEyeLedger_pending (n : ℕ) (h : ℕ) (v : ℕ) (s : State) : (noteEyeLedger n h v s).pending = s.pending := by
  unfold noteEyeLedger
  simp


@[simp] theorem eyeMeasured_pending (n : ℕ) (h : ℕ) (v : ℕ) (s : State) : (eyeMeasured n h v s).pending = s.pending := by
  unfold eyeMeasured
  simp


@[simp] theorem writeEyeClr_pending (v : Word) (s : State) : (writeEyeClr v s).pending = s.pending := by
  unfold writeEyeClr
  simp


@[simp] theorem losSets_pending (n : ℕ) (s : State) : (losSets n s).pending = s.pending := by
  unfold losSets
  simp


@[simp] theorem losClears_pending (n : ℕ) (s : State) : (losClears n s).pending = s.pending := by
  unfold losClears
  simp


@[simp] theorem cdrLoses_pending (n : ℕ) (s : State) : (cdrLoses n s).pending = s.pending := by
  unfold cdrLoses
  simp


@[simp] theorem writeLane_pending (r : RegName) (i : ℕ) (v : Word) (s : State) : (writeLane r i v s).pending = s.pending := by
  unfold writeLane
  (repeat' split) <;> (simp; done)


/-! ### Machine/VaultUnits.lean -/

@[simp] theorem setUnit_pending (s : State) (e : ℕ) (st : ℕ) : (State.setUnit s e st).pending = s.pending := by
  unfold State.setUnit
  simp


@[simp] theorem requestRun_pending (e : ℕ) (rotate : Bool) (s : State) : (requestRun e rotate s).pending = s.pending := by
  unfold requestRun
  simp


@[simp] theorem parkUnit_pending (e : ℕ) (s : State) : (parkUnit e s).pending = s.pending := by
  unfold parkUnit
  simp


/-! ### Machine/Aud.lean -/

@[simp] theorem setInSlot_pending (s : State) (i : ℕ) (x : InSlot) : (State.setInSlot s i x).pending = s.pending := by
  unfold State.setInSlot
  simp


@[simp] theorem unfeed_pending (kind : ℕ) (unit : ℕ) (s : State) : (unfeed kind unit s).pending = s.pending := by
  unfold unfeed
  simp


@[simp] theorem feed_pending (f : AudFeed) (s : State) : (feed f s).pending = s.pending := by
  unfold feed
  simp


@[simp] theorem setAlignRun_pending (s : State) (k : ℕ) (x : AlignRun) : (State.setAlignRun s k x).pending = s.pending := by
  unfold State.setAlignRun
  simp


@[simp] theorem countSlip_pending (k : ℕ) (rep : ℕ) (drop : ℕ) (s : State) : (countSlip k rep drop s).pending = s.pending := by
  unfold countSlip
  simp


@[simp] theorem takeCs_pending (i : ℕ) (a : AudSample) (keep : ℕ → Bool) (s : State) : (takeCs i a keep s).pending = s.pending := by
  unfold takeCs
  simp


@[simp] theorem pushSample_pending (i : ℕ) (a : AudSample) (s : State) : (pushSample i a s).pending = s.pending := by
  unfold pushSample
  simp


@[simp] theorem deliver_pending (i : ℕ) (a : AudSample) (s : State) : (deliver i a s).pending = s.pending := by
  unfold deliver
  (repeat' split) <;> (simp; done)


@[simp] theorem repeatSlot_pending (s : State) (_i : ℕ) : (repeatSlot s _i).pending = s.pending := by
  unfold repeatSlot
  simp


@[simp] theorem popSlot_pending (k : ℕ) (s : State) (i : ℕ) : (popSlot k s i).pending = s.pending := by
  unfold popSlot
  simp; (repeat' split) <;> (simp; done)


@[simp] theorem blankSlot_pending (s : State) (i : ℕ) : (blankSlot s i).pending = s.pending := by
  unfold blankSlot
  simp


@[simp] theorem convertSlot_pending (s : State) (i : ℕ) : (convertSlot s i).pending = s.pending := by
  unfold convertSlot
  simp


@[simp] theorem alignPeriod_pending (k : ℕ) (slots : List ℕ) (delay : ℕ) (s : State) : (alignPeriod k slots delay s).pending = s.pending := by
  unfold alignPeriod
  simp


@[simp] theorem noteFills_pending (a : ℕ) (slots : List ℕ) (s : State) : (noteFills a slots s).pending = s.pending := by
  unfold noteFills
  simp


@[simp] theorem agrpPeriod_pending (s : State) (a : ℕ) : (agrpPeriod s a).pending = s.pending := by
  unfold agrpPeriod
  (repeat' split) <;> (simp; done)


@[simp] theorem fillAbsent_pending (s : State) : (fillAbsent s).pending = s.pending := by
  unfold fillAbsent
  refine foldl_pending _ ?_ _ _
  intro a x
  (repeat' split) <;> simp


@[simp] theorem touchSlots_pending (l : List ℕ) (s : State) : (touchSlots l s).pending = s.pending := by
  unfold touchSlots
  simp


@[simp] theorem inputPeriod_pending (s : State) : (inputPeriod s).pending = s.pending := by
  unfold inputPeriod
  simp


@[simp] theorem setAudGroup_pending (s : State) (g : ℕ) (x : AudGroup) : (State.setAudGroup s g x).pending = s.pending := by
  unfold State.setAudGroup
  simp


@[simp] theorem putMember_pending (g : ℕ) (k : ℕ) (p : ℕ) (h : ℕ) (s : State) : (putMember g k p h s).pending = s.pending := by
  unfold putMember
  simp


@[simp] theorem noteGain_pending (g : ℕ) (k : ℕ) (s : State) : (noteGain g k s).pending = s.pending := by
  unfold noteGain
  simp


@[simp] theorem groupPeriod_pending (p : ℕ) (s : State) (g : ℕ) : (groupPeriod p s g).pending = s.pending := by
  unfold groupPeriod
  simp


@[simp] theorem setPort_pending (s : State) (p : ℕ) (x : SerialPort) : (State.setPort s p x).pending = s.pending := by
  unfold State.setPort
  simp


@[simp] theorem txSlip_pending (p : ℕ) (s : State) : (txSlip p s).pending = s.pending := by
  unfold txSlip
  simp


@[simp] theorem txFrame_pending (p : ℕ) (h : ℕ) (s : State) : (txFrame p h s).pending = s.pending := by
  unfold txFrame
  simp


@[simp] theorem txClock_pending (p : ℕ) (s : State) : (txClock p s).pending = s.pending := by
  unfold txClock
  simp; (repeat' split) <;> (simp; done)


@[simp] theorem portPeriod_pending (p : ℕ) (s : State) (n : ℕ) : (portPeriod p s n).pending = s.pending := by
  unfold portPeriod
  simp


@[simp] theorem audPeriod_pending (s : State) : (audPeriod s).pending = s.pending := by
  unfold audPeriod
  simp


@[simp] theorem noteRateMis_pending (g : ℕ) (k : ℕ) (s : State) : (noteRateMis g k s).pending = s.pending := by
  unfold noteRateMis
  simp; (repeat' split) <;> (simp; done)


@[simp] theorem commitGroup_pending (g : ℕ) (p0 : ℕ) (s : State) : (commitGroup g p0 s).pending = s.pending := by
  unfold commitGroup
  simp


@[simp] theorem audShutter_pending (n : ℕ) (s : State) : (audShutter n s).pending = s.pending := by
  unfold audShutter
  (repeat' split) <;> (simp; done)


@[simp] theorem audGroupCreated_pending (g : ℕ) (s : State) : (audGroupCreated g s).pending = s.pending := by
  unfold audGroupCreated
  simp


@[simp] theorem audGroupMuted_pending (g : ℕ) (s : State) : (audGroupMuted g s).pending = s.pending := by
  unfold audGroupMuted
  simp


@[simp] theorem writeAgrp_pending (a : ℕ) (v : Word) (s : State) : (writeAgrp a v s).pending = s.pending := by
  unfold writeAgrp
  simp


@[simp] theorem writeGrp_pending (g : ℕ) (v : Word) (s : State) : (writeGrp g v s).pending = s.pending := by
  unfold writeGrp
  simp


@[simp] theorem writeAsrc_pending (c : ℕ) (v : Word) (s : State) : (writeAsrc c v s).pending = s.pending := by
  unfold writeAsrc
  simp


@[simp] theorem writeCsCap_pending (v : Word) (s : State) : (writeCsCap v s).pending = s.pending := by
  unfold writeCsCap
  simp; (repeat' split) <;> (simp; done)


@[simp] theorem releasePort_pending (p : ℕ) (s : State) : (releasePort p s).pending = s.pending := by
  unfold releasePort
  simp


@[simp] theorem writeSpCfg_pending (p : ℕ) (v : Word) (s : State) : (writeSpCfg p v s).pending = s.pending := by
  unfold writeSpCfg
  simp


@[simp] theorem writeAud_pending (r : RegName) (i : ℕ) (v : Word) (s : State) : (writeAud r i v s).pending = s.pending := by
  unfold writeAud
  (repeat' split) <;> (simp; done)


@[simp] theorem asrcLocks_pending (c : ℕ) (ratio : ℕ) (s : State) : (asrcLocks c ratio s).pending = s.pending := by
  unfold asrcLocks
  simp


@[simp] theorem asrcUnlocks_pending (c : ℕ) (why : AsrcLoss) (ratio : ℕ) (s : State) : (asrcUnlocks c why ratio s).pending = s.pending := by
  unfold asrcUnlocks
  (repeat' split) <;> (simp; done)


@[simp] theorem giveAsrc_pending (c : ℕ) (u : ℕ) (s : State) : (giveAsrc c u s).pending = s.pending := by
  unfold giveAsrc
  simp


@[simp] theorem replaceAsrc_pending (u : ℕ) (s : State) : (replaceAsrc u s).pending = s.pending := by
  unfold replaceAsrc
  simp; (repeat' split) <;> (simp; done)


@[simp] theorem asrcErrs_pending (u : ℕ) (s : State) : (asrcErrs u s).pending = s.pending := by
  unfold asrcErrs
  simp


@[simp] theorem rxDeliver_pending (p : ℕ) (ch : ℕ) (a : AudSample) (keep : ℕ → Bool) (s : State) : (rxDeliver p ch a keep s).pending = s.pending := by
  unfold rxDeliver
  simp


@[simp] theorem aes3Rx_pending (p : ℕ) (ch : ℕ) (f : Aes3Frame) (s : State) : (aes3Rx p ch f s).pending = s.pending := by
  unfold aes3Rx
  simp


@[simp] theorem rxLocks_pending (p : ℕ) (rate : ℕ) (s : State) : (rxLocks p rate s).pending = s.pending := by
  unfold rxLocks
  simp


@[simp] theorem spLoses_pending (p : ℕ) (why : PortLoss) (s : State) : (spLoses p why s).pending = s.pending := by
  unfold spLoses
  simp


@[simp] theorem sampleArrives_pending (i : ℕ) (a : AudSample) (s : State) : (sampleArrives i a s).pending = s.pending := by
  unfold sampleArrives
  (repeat' split) <;> (simp; done)


@[simp] theorem zxTimesOut_pending (o : ℕ) (s : State) : (zxTimesOut o s).pending = s.pending := by
  unfold zxTimesOut
  simp; (repeat' split) <;> (simp; done)


@[simp] theorem clearTables_pending (s : State) : (clearTables s).pending = s.pending := by
  unfold clearTables
  first
  | (simp)
  | ((repeat' split) <;> (simp; done))
  | (simp; (repeat' split) <;> (simp; done))
  | ((dsimp only; repeat' split) <;> (simp; done))
  | ((dsimp only; repeat' split) <;> first | (simp; done) | (simp; repeat' split) <;> (simp; done))
  | (((try simp only []); repeat' split) <;> (simp; done))


@[simp] theorem audInit_pending (s : State) : (audInit s).pending = s.pending := by
  unfold audInit
  simp


/-! ### Machine/Masters.lean -/

@[simp] theorem setHart_pending (h : ℕ) (up : Bool) (s : State) : (setHart h up s).pending = s.pending := by
  unfold setHart
  simp


@[simp] theorem masterReset_pending (m : ℕ) (s : State) : (masterReset m s).pending = s.pending := by
  unfold masterReset
  simp


@[simp] theorem stopCore_pending (c : ℕ) (s : State) : (stopCore c s).pending = s.pending := by
  unfold stopCore
  simp


@[simp] theorem dmaReset_pending (s : State) : (dmaReset s).pending = s.pending := by
  unfold dmaReset
  simp


@[simp] theorem dmaError_pending (c : ℕ) (code : ℕ) (a : ℕ) (s : State) : (dmaError c code a s).pending = s.pending := by
  unfold dmaError
  simp


@[simp] theorem dmaErrors_pending (s : State) : (dmaErrors s).pending = s.pending := by
  unfold dmaErrors
  simp


/-! ### Machine/DmaCmd.lean -/

@[simp] theorem dmaLoad_pending (c : ℕ) (a : ℕ) (s : State) : (dmaLoad c a s).pending = s.pending := by
  unfold dmaLoad
  (repeat' split) <;> (simp; done)


@[simp] theorem writeDmaCtl_pending (c : ℕ) (v : Word) (s : State) : (writeDmaCtl c v s).pending = s.pending := by
  unfold writeDmaCtl
  simp


@[simp] theorem dmaFails_pending (a : ℕ) (s : State) : (dmaFails a s).pending = s.pending := by
  unfold dmaFails
  (repeat' split) <;> (simp; done)


@[simp] theorem endWithError_pending (m : ℕ) (a : ℕ) (s : State) : (endWithError m a s).pending = s.pending := by
  unfold endWithError
  simp


@[simp] theorem stallAborts_pending (v : Word) (s : State) : (stallAborts v s).pending = s.pending := by
  unfold stallAborts
  simp


@[simp] theorem writeBus_pending (r : RegName) (i : ℕ) (v : Word) (s : State) : (writeBus r i v s).pending = s.pending := by
  unfold writeBus
  (repeat' split) <;> (simp; done)


/-! ### Machine/Wcomp.lean -/

@[simp] theorem wallReserve_pending (s : State) : (wallReserve s).pending = s.pending := by
  unfold wallReserve
  simp


@[simp] theorem writePipeCfg_pending (q : ℕ) (v : Word) (s : State) : (writePipeCfg q v s).pending = s.pending := by
  unfold writePipeCfg
  simp


@[simp] theorem givePipe_pending (q : ℕ) (u : ℕ) (s : State) : (givePipe q u s).pending = s.pending := by
  unfold givePipe
  simp


@[simp] theorem replacePipe_pending (u : ℕ) (s : State) : (replacePipe u s).pending = s.pending := by
  unfold replacePipe
  (repeat' split) <;> (simp; done)


@[simp] theorem pipeErrs_pending (u : ℕ) (s : State) : (pipeErrs u s).pending = s.pending := by
  unfold pipeErrs
  simp


@[simp] theorem setLayer_pending (s : State) (l : ℕ) (x : Layer) : (State.setLayer s l x).pending = s.pending := by
  unfold State.setLayer
  simp


@[simp] theorem layerCreated_pending (l : ℕ) (s : State) : (layerCreated l s).pending = s.pending := by
  unfold layerCreated
  simp


theorem decideLayer_pending {l v n : Nat} {classP : Bool} {s t : State} {r : Route} (h : decideLayer l v n classP s = .ok (r, t)) :
    t.pending = s.pending := by
  unfold decideLayer at h
  dsimp only at h
  split at h
  · cases h
  · split at h
    · cases h
    · split at h
      · cases h
      · split at h
        · cases h
        · cases h
          rename_i h1
          exact (newPipeFs_pending h1).trans (by simp)

@[simp] theorem requestLayer_pending (l : ℕ) (v : ℕ) (n : ℕ) (s : State) : (requestLayer l v n s).2.pending = s.pending := by
  unfold requestLayer
  split
  · have := decideLayer_pending ‹_›
    simp [this]
  · simp


@[simp] theorem commitLayer_pending (l : ℕ) (s : State) : (commitLayer l s).pending = s.pending := by
  unfold commitLayer
  simp


@[simp] theorem layerDisabled_pending (l : ℕ) (s : State) : (layerDisabled l s).pending = s.pending := by
  unfold layerDisabled
  simp


@[simp] theorem pipesShutter_pending (n : ℕ) (s : State) : (pipesShutter n s).pending = s.pending := by
  unfold pipesShutter
  simp


@[simp] theorem wallShutter_pending (s : State) : (wallShutter s).pending = s.pending := by
  unfold wallShutter
  simp


@[simp] theorem wcompShutter_pending (n : ℕ) (layers : List ℕ) (s : State) : (wcompShutter n layers s).pending = s.pending := by
  unfold wcompShutter
  simp


@[simp] theorem countSkips_pending (f : WallFrame) (b : ℕ) (s : State) : (countSkips f b s).pending = s.pending := by
  unfold countSkips
  simp


@[simp] theorem writeSafelight_pending (m : ℕ) (a : ℕ) (bs : List Byte) (s : State) : (writeSafelight m a bs s).pending = s.pending := by
  unfold writeSafelight
  (repeat' split) <;> (simp; done)


@[simp] theorem writeWallCfg_pending (v : Word) (s : State) : (writeWallCfg v s).pending = s.pending := by
  unfold writeWallCfg
  simp


@[simp] theorem writeCanvas_pending (r : RegName) (v : Word) (s : State) : (writeCanvas r v s).pending = s.pending := by
  unfold writeCanvas
  simp


@[simp] theorem writeSl_pending (m : ℕ) (r : RegName) (i : ℕ) (v : Word) (s : State) : (writeSl m r i v s).pending = s.pending := by
  unfold writeSl
  simp


@[simp] theorem writeCapCtl_pending (v : Word) (s : State) : (writeCapCtl v s).pending = s.pending := by
  unfold writeCapCtl
  simp


@[simp] theorem writeWcomp_pending (m : ℕ) (r : RegName) (i : ℕ) (v : Word) (s : State) : (writeWcomp m r i v s).pending = s.pending := by
  unfold writeWcomp
  (repeat' split) <;> (simp; done)


@[simp] theorem captureEnds_pending (s : State) : (captureEnds s).pending = s.pending := by
  unfold captureEnds
  (repeat' split) <;> (simp; done)


@[simp] theorem captureAborts_pending (s : State) : (captureAborts s).pending = s.pending := by
  unfold captureAborts
  simp


/-! ### Machine/Cue.lean -/

@[simp] theorem setThread_pending (s : State) (t : ℕ) (x : Thread) : (State.setThread s t x).pending = s.pending := by
  unfold State.setThread
  simp


@[simp] theorem overloadCheck_pending (s : State) : (overloadCheck s).pending = s.pending := by
  unfold overloadCheck
  simp


@[simp] theorem objectCreated_pending (o : ℕ) (s : State) : (objectCreated o s).pending = s.pending := by
  unfold objectCreated
  (repeat' split) <;> (simp; done)


@[simp] theorem createThread_pending (t : ℕ) (s : State) : (createThread t s).pending = s.pending := by
  unfold createThread
  simp


@[simp] theorem pendThread_pending (t : ℕ) (op : ℕ) (s : State) : (pendThread t op s).pending = s.pending := by
  unfold pendThread
  (repeat' split) <;> (simp; done)


@[simp] theorem threadCommand_pending (m : ℕ) (v : Word) (s : State) : (threadCommand m v s).pending = s.pending := by
  unfold threadCommand
  simp


@[simp] theorem writeThrCfg_pending (m : ℕ) (t : ℕ) (v : Word) (s : State) : (writeThrCfg m t v s).pending = s.pending := by
  unfold writeThrCfg
  simp


@[simp] theorem writeThrLocked_pending (r : RegName) (t : ℕ) (v : Word) (s : State) : (writeThrLocked r t v s).pending = s.pending := by
  unfold writeThrLocked
  simp


@[simp] theorem setServe_pending (e : ℕ) (n : Option ℕ) (s : State) : (setServe e n s).pending = s.pending := by
  unfold setServe
  (repeat' split) <;> (simp; done)


@[simp] theorem shareFalls_pending (n : ℕ) (s : State) : (shareFalls n s).pending = s.pending := by
  unfold shareFalls
  simp


@[simp] theorem shareRises_pending (n : ℕ) (s : State) : (shareRises n s).pending = s.pending := by
  unfold shareRises
  simp


@[simp] theorem shareSettle_pending (s : State) : (shareSettle s).pending = s.pending := by
  unfold shareSettle
  simp


@[simp] theorem writeShare_pending (n : ℕ) (v : Word) (s : State) : (writeShare n v s).pending = s.pending := by
  unfold writeShare
  simp


@[simp] theorem endRun_pending (t : ℕ) (x : Thread) (s : State) : (endRun t x s).pending = s.pending := by
  unfold endRun
  (repeat' split) <;> (simp; done)


@[simp] theorem countBover_pending (t : ℕ) (s : State) : (countBover t s).pending = s.pending := by
  unfold countBover
  simp


@[simp] theorem stopRun_pending (t : ℕ) (s : State) : (stopRun t s).pending = s.pending := by
  unfold stopRun
  (repeat' split) <;> (simp; done)


@[simp] theorem tqPush_pending (w0 : Word) (w1 : Word) (w2 : Word) (w3 : Word) (writer : ℕ) (thread : ℕ) (accept : ℕ) (s : State) : (tqPush w0 w1 w2 w3 writer thread accept s).2.pending = s.pending := by
  unfold tqPush
  (repeat' split) <;> (simp; done)


@[simp] theorem popTake_pending (o : ℕ) (s : State) : (popTake o s).pending = s.pending := by
  unfold popTake
  simp


@[simp] theorem writeTqW3_pending (m : ℕ) (v : Word) (s : State) : (writeTqW3 m v s).pending = s.pending := by
  unfold writeTqW3
  (repeat' split) <;> (simp; done)


@[simp] theorem cueMemWrite_pending (a : ℕ) (bs : List Byte) (s : State) : (cueMemWrite a bs s).pending = s.pending := by
  unfold cueMemWrite
  simp


@[simp] theorem swapThread_pending (s : State) (t : ℕ) : (swapThread s t).pending = s.pending := by
  unfold swapThread
  (repeat' split) <;> (simp; done)


@[simp] theorem domainSwap_pending (n : ℕ) (s : State) : (domainSwap n s).pending = s.pending := by
  unfold domainSwap
  simp


@[simp] theorem writeSwapHi_pending (v : Word) (s : State) : (writeSwapHi v s).pending = s.pending := by
  unfold writeSwapHi
  simp


@[simp] theorem swapAt_pending (n : ℕ) (s : State) : (swapAt n s).pending = s.pending := by
  unfold swapAt
  simp


@[simp] theorem cueInit_pending (s : State) : (cueInit s).pending = s.pending := by
  unfold cueInit
  simp


@[simp] theorem replaceEngine_pending (e : ℕ) (s : State) : (replaceEngine e s).pending = s.pending := by
  unfold replaceEngine
  simp; (repeat' split) <;> (simp; done)


@[simp] theorem engineErrs_pending (e : ℕ) (s : State) : (engineErrs e s).pending = s.pending := by
  unfold engineErrs
  simp; (repeat' split) <;> (simp; done)


@[simp] theorem showTakes_pending (n : ℕ) (o : ℕ) (s : State) : (showTakes n o s).pending = s.pending := by
  unfold showTakes
  simp


@[simp] theorem openThread_pending (o : ℕ) (s : State) (t : ℕ) : (openThread o s t).pending = s.pending := by
  unfold openThread
  (repeat' split) <;> (simp; done)


@[simp] theorem gpioLevels_pending (s : State) : (gpioLevels s).2.pending = s.pending := by
  unfold gpioLevels
  simp


@[simp] theorem takeSnap_pending (n : ℕ) (s : State) : (takeSnap n s).pending = s.pending := by
  unfold takeSnap
  simp


@[simp] theorem cueOpens_pending (n : ℕ) (s : State) : (cueOpens n s).pending = s.pending := by
  unfold cueOpens
  (repeat' split) <;> (simp; done)


@[simp] theorem dispatch_pending (n : ℕ) (s : State) : (dispatch n s).pending = s.pending := by
  unfold dispatch
  (repeat' split) <;> (simp; done)


@[simp] theorem noteWrite_pending (t : ℕ) (field : ℕ) (s : State) : (noteWrite t field s).pending = s.pending := by
  unfold noteWrite
  (repeat' split) <;> (simp; done)


@[simp] theorem noteRefusal_pending (t : ℕ) (r : ℕ) (s : State) : (noteRefusal t r s).pending = s.pending := by
  unfold noteRefusal
  (repeat' split) <;> (simp; done)


@[simp] theorem takeFrom_pending (t : ℕ) (vin : ℕ) (classP : Bool) (s : State) : (takeFrom t vin classP s).2.pending = s.pending := by
  unfold takeFrom
  simp; (repeat' split) <;> (simp; done)


@[simp] theorem builtinPops_pending (o : ℕ) (shut : ℤ) (x2 : ℕ) (x3 : ℤ) (x4 : Option Word) (x5 : ℕ) (x6 : State) : (builtinPops o shut x2 x3 x4 x5 x6).2.2.2.2.pending = x6.pending := by
  induction x2 generalizing x3 x4 x5 x6 with
  | zero => rfl
  | succ k ih =>
    unfold builtinPops
    split
    · rfl
    · split
      · rw [ih]; simp
      · rfl


@[simp] theorem runBuiltin_pending (t : ℕ) (shut : ℤ) (s : State) : (runBuiltin t shut s).pending = s.pending := by
  unfold runBuiltin
  split
  · rfl
  · extract_lets o
    split
    have e1 := congrArg (fun p => p.2.2.2.2.pending) ‹builtinPops _ _ _ _ _ _ _ = _›
    simp only [builtinPops_pending] at e1
    extract_lets s2 c1 s3
    have e2 : s2.pending = s.pending := by simp [s2, ← e1]
    have e3 : s3.pending = s.pending := by
      simp only [s3]
      split <;> simp [e2]
    split
    · split <;> simp [e2]
    · split <;> simp [e3]


@[simp] theorem runStart_pending (n : ℕ) (e : ℕ) (s : State) : (runStart n e s).pending = s.pending := by
  unfold runStart
  (repeat' split) <;> (simp; done)


@[simp] theorem cueStop_pending (n : ℕ) (s : State) : (cueStop n s).pending = s.pending := by
  unfold cueStop
  extract_lets running waiting s1 s2 late
  have e1 : s1.pending = s.pending := foldl_pending _ (fun _ _ => by simp) _ _
  refine (foldl_pending _ (fun a x => ?_) waiting s1).trans e1
  try dsimp only
  split
  · rw [countBover_pending]; simp
  · rfl


@[simp] theorem countHolds_pending (n : ℕ) (s : State) : (countHolds n s).pending = s.pending := by
  unfold countHolds
  simp


@[simp] theorem deleteMutes_pending (n : ℕ) (s : State) : (deleteMutes n s).pending = s.pending := by
  unfold deleteMutes
  simp


@[simp] theorem deleteObjects_pending (n : ℕ) (s : State) : (deleteObjects n s).pending = s.pending := by
  unfold deleteObjects
  refine foldl_pending _ (fun a x => ?_) _ _
  try dsimp only
  (repeat' split) <;> simp


@[simp] theorem freeThread_pending (s : State) (t : ℕ) : (freeThread s t).pending = s.pending := by
  unfold freeThread
  simp


@[simp] theorem shutThread_pending (s : State) (t : ℕ) : (shutThread s t).pending = s.pending := by
  unfold shutThread
  (repeat' split) <;> (simp; done)


@[simp] theorem ageTakes_pending (n : ℕ) (s : State) : (ageTakes n s).pending = s.pending := by
  unfold ageTakes
  simp


@[simp] theorem restoreEngine_pending (n : ℕ) (s : State) : (restoreEngine n s).pending = s.pending := by
  unfold restoreEngine
  (repeat' split) <;> (simp; done)


@[simp] theorem noteSlack_pending (n : ℕ) (s : State) : (noteSlack n s).pending = s.pending := by
  unfold noteSlack
  simp


@[simp] theorem shutSwap_pending (n : ℕ) (s : State) : (shutSwap n s).pending = s.pending := by
  unfold shutSwap
  (repeat' split) <;> (simp; done)


@[simp] theorem cueShuts_pending (n : ℕ) (s : State) : (cueShuts n s).pending = s.pending := by
  unfold cueShuts
  simp


@[simp] theorem writeCue_pending (m : ℕ) (r : RegName) (i : ℕ) (v : Word) (s : State) : (writeCue m r i v s).pending = s.pending := by
  unfold writeCue
  (repeat' split) <;> (simp; done)


/-! ### Machine/Vault.lean -/

@[simp] theorem settlePlane_pending (p : ℕ) (s : State) : (settlePlane p s).pending = s.pending := by
  unfold settlePlane
  simp


@[simp] theorem setUnitR_pending (e : ℕ) (st : ℕ) (s : State) : (setUnitR e st s).pending = s.pending := by
  unfold setUnitR
  (repeat' split) <;> (simp; done)


@[simp] theorem movePll_pending (q : ℕ) (k : ℕ) (u : ℕ) (s : State) : (movePll q k u s).pending = s.pending := by
  unfold movePll
  simp


@[simp] theorem passRole_pending (e : ℕ) (u : ℕ) (s : State) : (passRole e u s).pending = s.pending := by
  unfold passRole
  (repeat' split) <;> (simp; done)


@[simp] theorem dropRun_pending (e : ℕ) (s : State) : (dropRun e s).pending = s.pending := by
  unfold dropRun
  (repeat' split) <;> (simp; done)


@[simp] theorem withdraw_pending (e : ℕ) (s : State) : (withdraw e s).pending = s.pending := by
  unfold withdraw
  (repeat' split) <;> (simp; done)


@[simp] theorem markRetired_pending (e : ℕ) (s : State) : (markRetired e s).pending = s.pending := by
  unfold markRetired
  simp


@[simp] theorem waitRetire_pending (e : ℕ) (s : State) : (waitRetire e s).pending = s.pending := by
  unfold waitRetire
  simp


@[simp] theorem dropMigration_pending (key : ℕ) (s : State) : (dropMigration key s).pending = s.pending := by
  unfold dropMigration
  (repeat' split) <;> (simp; done)


@[simp] theorem endMigration_pending (key : ℕ) (s : State) : (endMigration key s).pending = s.pending := by
  unfold endMigration
  (repeat' split) <;> (simp; done)


@[simp] theorem endMigrations_pending (s : State) : (endMigrations s).pending = s.pending := by
  unfold endMigrations
  refine foldl_pending _ (fun a x => ?_) _ _
  (repeat' split) <;> simp


@[simp] theorem startMigration_pending (e : ℕ) (u : ℕ) (retire : Bool) (s : State) : (startMigration e u retire s).pending = s.pending := by
  unfold startMigration
  simp


@[simp] theorem retireUnit_pending (e : ℕ) (s : State) : (retireUnit e s).pending = s.pending := by
  unfold retireUnit
  (repeat' split) <;> (simp; done)


@[simp] theorem retryRetire_pending (s : State) : (retryRetire s).pending = s.pending := by
  unfold retryRetire
  simp


@[simp] theorem vaultSettle_pending (s : State) : (vaultSettle s).pending = s.pending := by
  unfold vaultSettle
  simp


@[simp] theorem vaultShutter_pending (n : ℕ) (s : State) : (vaultShutter n s).pending = s.pending := by
  unfold vaultShutter
  simp


@[simp] theorem vaultOverlapClose_pending (n : ℕ) (s : State) : (vaultOverlapClose n s).pending = s.pending := by
  unfold vaultOverlapClose
  simp


@[simp] theorem rotateCmd_pending (type : ℕ) (planeB : Bool) (unit : ℕ) (s : State) : (rotateCmd type planeB unit s).pending = s.pending := by
  unfold rotateCmd
  (repeat' split) <;> (simp; done)


@[simp] theorem retireCmd_pending (unit : ℕ) (s : State) : (retireCmd unit s).pending = s.pending := by
  unfold retireCmd
  simp


@[simp] theorem vaultCmd_pending (m : ℕ) (v : Word) (s : State) : (vaultCmd m v s).pending = s.pending := by
  unfold vaultCmd
  (repeat' split) <;> (simp; done)


@[simp] theorem writeRec_pending (m : ℕ) (v : Word) (s : State) : (writeRec m v s).pending = s.pending := by
  unfold writeRec
  simp


@[simp] theorem rotationDue_pending (type : ℕ) (planeB : Bool) (s : State) : (rotationDue type planeB s).pending = s.pending := by
  unfold rotationDue
  simp


@[simp] theorem ledgerUpdate_pending (e : ℕ) (f : State → State) (s : State) (hf : ∀ a, (f a).pending = a.pending) : (ledgerUpdate e f s).pending = s.pending := by
  unfold ledgerUpdate
  simp [hf]


@[simp] theorem addEcc_pending (e : ℕ) (n : ℕ) (s : State) : (addEcc e n s).pending = s.pending := by
  unfold addEcc
  simp


@[simp] theorem ledgerHour_pending (e : ℕ) (ecc : ℕ) (s : State) : (ledgerHour e ecc s).pending = s.pending := by
  unfold ledgerHour
  simp


@[simp] theorem clearBlock_pending (t : ℕ) (s : State) : (clearBlock t s).pending = s.pending := by
  unfold clearBlock
  (repeat' split) <;> (simp; done)


@[simp] theorem runCmd_pending (t : ℕ) (s : State) : (runCmd t s).pending = s.pending := by
  unfold runCmd
  simp


@[simp] theorem bistStarts_pending (s : State) : (bistStarts s).pending = s.pending := by
  unfold bistStarts
  simp; (repeat' split) <;> (simp; done)


@[simp] theorem recordRun_pending (t : ℕ) (verdict : ℕ) (cause : ℕ) (done : ℕ) (sig : Word) (expected : Word) (s : State) : (recordRun t verdict cause done sig expected s).pending = s.pending := by
  unfold recordRun
  (repeat' split) <;> (simp; done)


@[simp] theorem ledgerRun_pending (e : ℕ) (verdict : ℕ) (margin : Option ℕ) (s : State) : (ledgerRun e verdict margin s).pending = s.pending := by
  unfold ledgerRun
  (repeat' split) <;> (simp; done)


@[simp] theorem giveOut_pending (e : ℕ) (s : State) : (giveOut e s).pending = s.pending := by
  unfold giveOut
  (repeat' split) <;> (simp; done)


@[simp] theorem unitAfter_pending (e : ℕ) (verdict : ℕ) (s : State) : (unitAfter e verdict s).pending = s.pending := by
  unfold unitAfter
  (repeat' split) <;> (simp; done)


@[simp] theorem endRunOf_pending (t : ℕ) (verdict : ℕ) (cause : ℕ) (done : ℕ) (sig : Word) (expected : Word) (margin : Option ℕ) (s : State) : (endRunOf t verdict cause done sig expected margin s).pending = s.pending := by
  unfold endRunOf
  simp


@[simp] theorem bistEnds_pending (t : ℕ) (done : ℕ) (sig : Word) (expected : Word) (margin : ℕ) (s : State) : (bistEnds t done sig expected margin s).pending = s.pending := by
  unfold bistEnds
  simp


@[simp] theorem cutRun_pending (t : ℕ) (cause : ℕ) (s : State) : (cutRun t cause s).pending = s.pending := by
  unfold cutRun
  simp


@[simp] theorem cutRuns_pending (cause : ℕ) (s : State) : (cutRuns cause s).pending = s.pending := by
  unfold cutRuns
  simp


@[simp] theorem bistCmd_pending (v : Word) (s : State) : (bistCmd v s).pending = s.pending := by
  unfold bistCmd
  (repeat' split) <;> (simp; done)


@[simp] theorem writeVault_pending (m : ℕ) (r : RegName) (i : ℕ) (v : Word) (s : State) : (writeVault m r i v s).pending = s.pending := by
  unfold writeVault
  (repeat' split) <;> (simp; done)


@[simp] theorem writeBist_pending (r : RegName) (i : ℕ) (v : Word) (s : State) : (writeBist r i v s).pending = s.pending := by
  unfold writeBist
  (repeat' split) <;> (simp; done)


/-! ### Machine/Flash.lean -/

@[simp] theorem program_pending (a : ℕ) (bs : List Byte) (s : State) : (program a bs s).pending = s.pending := by
  unfold program
  simp


@[simp] theorem eraseFlash_pending (a : ℕ) (n : ℕ) (s : State) : (eraseFlash a n s).pending = s.pending := by
  unfold eraseFlash
  simp


@[simp] theorem saveLedger_pending (s : State) : (saveLedger s).pending = s.pending := by
  unfold saveLedger
  simp


@[simp] theorem restoreEntry_pending (bs : List Byte) (s : State) (e : ℕ) : (restoreEntry bs s e).pending = s.pending := by
  unfold restoreEntry
  simp


@[simp] theorem restoreLedger_pending (s : State) : (restoreLedger s).pending = s.pending := by
  unfold restoreLedger
  (repeat' split) <;> (simp; done)


@[simp] theorem appendRec_pending (k : ℕ) (st : ℕ) (id : ℕ) (count : ℕ) (version : ℕ) (s : State) : (appendRec k st id count version s).pending = s.pending := by
  unfold appendRec
  simp; (repeat' split) <;> (simp; done)


@[simp] theorem setSlot_pending (k : ℕ) (st : ℕ) (s : State) : (setSlot k st s).pending = s.pending := by
  unfold setSlot
  simp


@[simp] theorem loadImage_pending (k : ℕ) (stage : Bool) (s : State) : (loadImage k stage s).pending = s.pending := by
  unfold loadImage
  simp


@[simp] theorem unstageImage_pending (k : ℕ) (s : State) : (unstageImage k s).pending = s.pending := by
  unfold unstageImage
  simp


@[simp] theorem setBoot_pending (k : ℕ) (s : State) : (setBoot k s).pending = s.pending := by
  unfold setBoot
  simp


@[simp] theorem runImage_pending (k : ℕ) (s : State) : (runImage k s).pending = s.pending := by
  unfold runImage
  simp


@[simp] theorem bootImage_pending (s : State) : (bootImage s).2.pending = s.pending := by
  unfold bootImage
  simp; (repeat' split) <;> (simp; done)


/-! ### Machine/Idm.lean -/

@[simp] theorem writeIdmCmd_pending (m : ℕ) (v : Word) (s : State) : (writeIdmCmd m v s).pending = s.pending := by
  unfold writeIdmCmd
  simp


@[simp] theorem endIdm_pending (m : ℕ) (result : ℕ) (s : State) : (endIdm m result s).pending = s.pending := by
  unfold endIdm
  simp


@[simp] theorem setBufByte_pending (m : ℕ) (b : ℕ) (x : Byte) (s : State) : (setBufByte m b x s).pending = s.pending := by
  unfold setBufByte
  simp


@[simp] theorem fillBuf_pending (m : ℕ) (x1 : ℕ) (x2 : List Byte) (x3 : State) : (fillBuf m x1 x2 x3).pending = x3.pending := by
  induction x2 generalizing x1 x3 with
  | nil => rfl
  | cons b l ih => unfold fillBuf; rw [ih]; simp


@[simp] theorem idmDone_pending (m : ℕ) (nack : Bool) (data : List Byte) (s : State) : (idmDone m nack data s).pending = s.pending := by
  unfold idmDone
  (repeat' split) <;> (simp; done)


@[simp] theorem busStuck_pending (m : ℕ) (low : Bool) (s : State) : (busStuck m low s).pending = s.pending := by
  unfold busStuck
  simp


@[simp] theorem checkModule_pending (k : ℕ) (d : List Byte) (s : State) : (checkModule k d s).pending = s.pending := by
  unfold checkModule
  simp


@[simp] theorem probeSite_pending (acks : List (Fin 128 × List Byte)) (s : State) (k : ℕ) : (probeSite acks s k).pending = s.pending := by
  unfold probeSite
  (repeat' split) <;> (simp; done)


@[simp] theorem scanSites_pending (acks : List (Fin 128 × List Byte)) (s : State) : (scanSites acks s).pending = s.pending := by
  unfold scanSites
  simp


@[simp] theorem strapsRead_pending (slot : ℕ) (side : Bool) (s : State) : (strapsRead slot side s).pending = s.pending := by
  unfold strapsRead
  simp


@[simp] theorem latchStraps_pending (s : State) : (latchStraps s).pending = s.pending := by
  unfold latchStraps
  simp


@[simp] theorem writeUser_pending (r : RegName) (i : ℕ) (v : Word) (sat : State → Bool) (s : State) : (writeUser r i v sat s).pending = s.pending := by
  unfold writeUser
  simp


@[simp] theorem writeTxeq_pending (n : ℕ) (v : Word) (s : State) : (writeTxeq n v s).pending = s.pending := by
  unfold writeTxeq
  simp


@[simp] theorem writeCal_pending (r : RegName) (i : ℕ) (v : Word) (s : State) : (writeCal r i v s).pending = s.pending := by
  unfold writeCal
  (repeat' split) <;> (simp; done)


@[simp] theorem writeIdm_pending (r : RegName) (i : ℕ) (v : Word) (s : State) : (writeIdm r i v s).pending = s.pending := by
  unfold writeIdm
  (repeat' split) <;> (simp; done)


@[simp] theorem otpLoad_pending (ok : Bool) (s : State) : (otpLoad ok s).pending = s.pending := by
  unfold otpLoad
  simp


/-! ### Machine/Rst.lean -/

@[simp] theorem recordCause_pending (bit_ : ℕ) (s : State) : (recordCause bit_ s).pending = s.pending := by
  unfold recordCause
  simp


@[simp] theorem recordCore_pending (c : ℕ) (s : State) : (recordCore c s).pending = s.pending := by
  unfold recordCore
  simp


@[simp] theorem ledgerCut_pending (s : State) : (ledgerCut s).pending = s.pending := by
  unfold ledgerCut
  simp


@[simp] theorem activate_pending (l : List ℕ) (n : ℕ) (s : State) : (activate l n s).pending = s.pending := by
  unfold activate
  simp


@[simp] theorem engineRoles_pending (s : State) : (engineRoles s).pending = s.pending := by
  unfold engineRoles
  simp


@[simp] theorem pipeRoles_pending (s : State) : (pipeRoles s).pending = s.pending := by
  unfold pipeRoles
  refine foldl_pending _ (fun a x => ?_) _ _
  split <;> simp


@[simp] theorem asrcRoles_pending (s : State) : (asrcRoles s).pending = s.pending := by
  unfold asrcRoles
  refine foldl_pending _ (fun a x => ?_) _ _
  split <;> simp


@[simp] theorem coreRoles_pending (s : State) : (coreRoles s).pending = s.pending := by
  unfold coreRoles
  simp


@[simp] theorem pllRoles_pending (s : State) (q : ℕ) : (pllRoles s q).pending = s.pending := by
  unfold pllRoles
  simp


@[simp] theorem assignRoles_pending (s : State) : (assignRoles s).pending = s.pending := by
  unfold assignRoles
  simp


@[simp] theorem rolesAfter_pending (before : State) (s : State) : (rolesAfter before s).pending = s.pending := by
  unfold rolesAfter
  simp


@[simp] theorem disarmSlots_pending (s : State) : (disarmSlots s).pending = s.pending := by
  unfold disarmSlots
  simp


@[simp] theorem systemClear_pending (s0 : State) : (systemClear s0).pending = s0.pending := by
  unfold systemClear
  simp


@[simp] theorem coreClear_pending (s : State) : (coreClear s).pending = s.pending := by
  unfold coreClear
  simp


@[simp] theorem clearHart_pending (h : ℕ) (s : State) : (clearHart h s).pending = s.pending := by
  unfold clearHart
  simp


@[simp] theorem trialFails_pending (s : State) : (trialFails s).pending = s.pending := by
  unfold trialFails
  (repeat' split) <;> (simp; done)


@[simp] theorem startFails_pending (s : State) : (startFails s).pending = s.pending := by
  unfold startFails
  simp


@[simp] theorem deepen_pending (lvl : ℕ) (s : State) : (deepen lvl s).pending = s.pending := by
  unfold deepen
  simp


@[simp] theorem beginReset_pending (lvl : ℕ) (soft : Bool) (hold : Bool) (cause : Option ℕ) (s : State) : (beginReset lvl soft hold cause s).pending = s.pending := by
  unfold beginReset
  (repeat' split) <;> (simp; done)


@[simp] theorem enterDarkroom_pending (s : State) : (enterDarkroom s).pending = s.pending := by
  unfold enterDarkroom
  simp


@[simp] theorem confinedReset_pending (cause : ℕ) (c : ℕ) (s : State) : (confinedReset cause c s).pending = s.pending := by
  unfold confinedReset
  simp; (repeat' split) <;> (simp; done)


@[simp] theorem lockUp_pending (c : ℕ) (s : State) : (lockUp c s).pending = s.pending := by
  unfold lockUp
  simp


@[simp] theorem powerReset_pending (cause : ℕ) (s : State) : (powerReset cause s).pending = s.pending := by
  unfold powerReset
  simp


@[simp] theorem brownsOut_pending (aon : Bool) (ns : ℕ) (s : State) : (brownsOut aon ns s).pending = s.pending := by
  unfold brownsOut
  simp


@[simp] theorem pinReset_pending (ns : ℕ) (s : State) : (pinReset ns s).pending = s.pending := by
  unfold pinReset
  simp


@[simp] theorem pinPulse_pending (ns : ℕ) (s : State) : (pinPulse ns s).pending = s.pending := by
  unfold pinPulse
  simp


@[simp] theorem writeSwrst_pending (m : ℕ) (v : Word) (s : State) : (writeSwrst m v s).pending = s.pending := by
  unfold writeSwrst
  (repeat' split) <;> (simp; done)


@[simp] theorem xtalFails_pending (s : State) : (xtalFails s).pending = s.pending := by
  unfold xtalFails
  simp


@[simp] theorem syspllUnlocks_pending (s : State) : (syspllUnlocks s).pending = s.pending := by
  unfold syspllUnlocks
  simp


@[simp] theorem xtalPasses_pending (s : State) : (xtalPasses s).pending = s.pending := by
  unfold xtalPasses
  simp


@[simp] theorem decodeLc_pending (s : State) : (decodeLc s).pending = s.pending := by
  unfold decodeLc
  simp


@[simp] theorem loadOtp_pending (ok : Bool) (s : State) : (loadOtp ok s).pending = s.pending := by
  unfold loadOtp
  simp


@[simp] theorem startupRun_pending (pass : ℕ → Bool) (s : State) (e : ℕ) : (startupRun pass s e).pending = s.pending := by
  unfold startupRun
  simp


@[simp] theorem stripePlane_pending (pass : ℕ → Bool) (s : State) (p : ℕ) : (stripePlane pass s p).pending = s.pending := by
  unfold stripePlane
  simp


@[simp] theorem startupBist_pending (pass : ℕ → Bool) (s : State) : (startupBist pass s).pending = s.pending := by
  unfold startupBist
  simp


@[simp] theorem trainHbm_pending (a : Bool) (b : Bool) (s : State) : (trainHbm a b s).pending = s.pending := by
  unfold trainHbm
  simp


@[simp] theorem releaseHardware_pending (b : BootReport) (s : State) : (releaseHardware b s).pending = s.pending := by
  unfold releaseHardware
  simp


@[simp] theorem hartsReady_pending (s : State) : (hartsReady s).pending = s.pending := by
  unfold hartsReady
  simp


theorem bootImage_some_pending {s t : State} {u : State} (h : bootImage s = (some t, u)) : t.pending = s.pending := by
  unfold bootImage at h
  extract_lets s0 at h
  have e0 : s0.pending = s.pending := by simp only [s0]; (repeat' split) <;> simp
  split at h
  · simp at h
  · split at h
    · rw [← Option.some.inj (congrArg Prod.fst h)]; simp [e0]
    · extract_lets s1 o at h
      have e1 : s1.pending = s.pending := by simp [s1, e0]
      split at h
      · split at h
        · rw [← Option.some.inj (congrArg Prod.fst h)]; simp [e1]
        · simp at h
      · simp at h

@[simp] theorem loadStep_pending (s : State) : (loadStep s).pending = s.pending := by
  unfold loadStep
  split
  · rfl
  · split
    · simp
    · split
      · simp
      · split
        · rw [hartsReady_pending]; exact bootImage_some_pending ‹_›
        · have e := congrArg (fun p => p.2.pending) ‹bootImage s = _›
          simp only [bootImage_pending] at e
          simp [← e]


@[simp] theorem releaseConfined_pending (s : State) : (releaseConfined s).pending = s.pending := by
  unfold releaseConfined
  (repeat' split) <;> (simp; done)


@[simp] theorem releaseReset_pending (b : BootReport) (s : State) : (releaseReset b s).pending = s.pending := by
  unfold releaseReset
  simp


@[simp] theorem releaseHarts_pending (s : State) : (releaseHarts s).pending = s.pending := by
  unfold releaseHarts
  simp


@[simp] theorem confirmTrial_pending (s : State) : (confirmTrial s).pending = s.pending := by
  unfold confirmTrial
  (repeat' split) <;> (simp; done)


@[simp] theorem writeHealth_pending (v : Word) (s : State) : (writeHealth v s).pending = s.pending := by
  unfold writeHealth
  simp


@[simp] theorem startTimesOut_pending (s : State) : (startTimesOut s).pending = s.pending := by
  unfold startTimesOut
  simp


@[simp] theorem wdtExpires_pending (s : State) : (wdtExpires s).pending = s.pending := by
  unfold wdtExpires
  simp


@[simp] theorem writeKick_pending (v : Word) (s : State) : (writeKick v s).pending = s.pending := by
  unfold writeKick
  simp


@[simp] theorem writeWdtCfg_pending (v : Word) (s : State) : (writeWdtCfg v s).pending = s.pending := by
  unfold writeWdtCfg
  simp


@[simp] theorem writeLcReq_pending (m : ℕ) (v : Word) (s : State) : (writeLcReq m v s).pending = s.pending := by
  unfold writeLcReq
  (repeat' split) <;> (simp; done)


@[simp] theorem writeRst_pending (m : ℕ) (r : RegName) (i : ℕ) (v : Word) (s : State) : (writeRst m r i v s).pending = s.pending := by
  unfold writeRst
  (repeat' split) <;> (simp; done)


@[simp] theorem readCause_pending (m : ℕ) (s : State) : (readCause m s).pending = s.pending := by
  unfold readCause
  simp


/-! ### Machine/Cpu.lean -/

@[simp] theorem handOver_pending (s : State) : (handOver s).pending = s.pending := by
  unfold handOver
  (repeat' split) <;> (simp; done)


@[simp] theorem coreErrs_pending (c : ℕ) (s : State) : (coreErrs c s).pending = s.pending := by
  unfold coreErrs
  simp


@[simp] theorem retireCore_pending (c : ℕ) (s : State) : (retireCore c s).pending = s.pending := by
  unfold retireCore
  simp; (repeat' split) <;> (simp; done)


@[simp] theorem timerReached_pending (h : ℕ) (s : State) : (timerReached h s).pending = s.pending := by
  unfold timerReached
  simp


@[simp] theorem coreEcc_pending (m : ℕ) (e : CoreEcc) (s : State) : (coreEcc m e s).pending = s.pending := by
  unfold coreEcc
  (repeat' split) <;> (simp; done)


@[simp] theorem writeCpu_pending (m : ℕ) (r : RegName) (i : ℕ) (v : Word) (s : State) : (writeCpu m r i v s).pending = s.pending := by
  unfold writeCpu
  (repeat' split) <;> (simp; done)


/-! ### Machine/Hbm.lean -/

@[simp] theorem repairRow_pending (pc : ℕ) (row : ℕ) (s : State) : (repairRow pc row s).pending = s.pending := by
  unfold repairRow
  simp


@[simp] theorem hbmEcc_pending (pc : ℕ) (row : ℕ) (e : HbmEcc) (s : State) : (hbmEcc pc row e s).pending = s.pending := by
  unfold hbmEcc
  (repeat' split) <;> (simp; done)


@[simp] theorem stackFails_pending (h : ℕ) (s : State) : (stackFails h s).pending = s.pending := by
  unfold stackFails
  simp


@[simp] theorem grantHbm_pending (pc : ℕ) (waiting : List (ℕ × ℕ × ℕ)) (s : State) : (grantHbm pc waiting s).pending = s.pending := by
  unfold grantHbm
  simp; (repeat' split) <;> (simp; done)


@[simp] theorem writeHbm_pending (r : RegName) (i : ℕ) (v : Word) (s : State) : (writeHbm r i v s).pending = s.pending := by
  unfold writeHbm
  (repeat' split) <;> (simp; done)


/-! ### Machine/Ulink.lean -/

@[simp] theorem setLink_pending (s : State) (l : ℕ) (x : UlLink) : (State.setLink s l x).pending = s.pending := by
  unfold State.setLink
  simp


@[simp] theorem setStream_pending (s : State) (k : ℕ) (x : UlStream) : (State.setStream s k x).pending = s.pending := by
  unfold State.setStream
  simp


@[simp] theorem linkSilent_pending (l : ℕ) (s : State) : (linkSilent l s).pending = s.pending := by
  unfold linkSilent
  simp


@[simp] theorem linkTrains_pending (l : ℕ) (s : State) : (linkTrains l s).pending = s.pending := by
  unfold linkTrains
  simp


@[simp] theorem linkFalls_pending (l : ℕ) (s : State) : (linkFalls l s).pending = s.pending := by
  unfold linkFalls
  simp


@[simp] theorem codewordIn_pending (l : ℕ) (r : CodewordResult) (s : State) : (codewordIn l r s).pending = s.pending := by
  unfold codewordIn
  simp


@[simp] theorem cellLost_pending (l : ℕ) (s : State) : (cellLost l s).pending = s.pending := by
  unfold cellLost
  simp


@[simp] theorem discardReserved_pending (l : ℕ) (s : State) : (discardReserved l s).pending = s.pending := by
  unfold discardReserved
  first
  | (simp)
  | ((repeat' split) <;> (simp; done))
  | (simp; (repeat' split) <;> (simp; done))
  | ((dsimp only; repeat' split) <;> (simp; done))
  | ((dsimp only; repeat' split) <;> first | (simp; done) | (simp; repeat' split) <;> (simp; done))
  | (((try simp only []); repeat' split) <;> (simp; done))


@[simp] theorem learnFormat_pending (v : ℕ) (fmt : ℕ) (s : State) : (learnFormat v fmt s).pending = s.pending := by
  unfold learnFormat
  simp


@[simp] theorem closeLine_pending (l : ℕ) (k : ℕ) (s : State) : (closeLine l k s).pending = s.pending := by
  unfold closeLine
  simp


@[simp] theorem videoIn_pending (l : ℕ) (c : Cell) (s : State) : (videoIn l c s).pending = s.pending := by
  unfold videoIn
  simp


@[simp] theorem ancDeliver_pending (k : ℕ) (line : ℕ) (a : AncPacket) (s : State) : (ancDeliver k line a s).pending = s.pending := by
  unfold ancDeliver
  simp; (repeat' split) <;> (simp; done)


@[simp] theorem ancIn_pending (l : ℕ) (c : Cell) (s : State) : (ancIn l c s).pending = s.pending := by
  unfold ancIn
  simp


@[simp] theorem audioIn_pending (l : ℕ) (c : Cell) (s : State) : (audioIn l c s).pending = s.pending := by
  unfold audioIn
  simp


@[simp] theorem markerIn_pending (l : ℕ) (m : MarkerMsg) (s : State) : (markerIn l m s).pending = s.pending := by
  unfold markerIn
  simp


@[simp] theorem markLost_pending (l : ℕ) (s : State) : (markLost l s).pending = s.pending := by
  unfold markLost
  simp


@[simp] theorem helloIn_pending (l : ℕ) (m : HelloMsg) (s : State) : (helloIn l m s).pending = s.pending := by
  unfold helloIn
  simp


@[simp] theorem echoReqIn_pending (l : ℕ) (id : BitVec 16) (t1 : ℕ) (s : State) : (echoReqIn l id t1 s).pending = s.pending := by
  unfold echoReqIn
  simp


@[simp] theorem echoRspIn_pending (l : ℕ) (id : BitVec 16) (t1 : ℕ) (t2 : ℕ) (t3 : ℕ) (s : State) : (echoRspIn l id t1 t2 t3 s).pending = s.pending := by
  unfold echoRspIn
  simp


@[simp] theorem showMail_pending (l : ℕ) (s : State) : (showMail l s).pending = s.pending := by
  unfold showMail
  simp


@[simp] theorem mailIn_pending (l : ℕ) (msg : List Byte) (s : State) : (mailIn l msg s).pending = s.pending := by
  unfold mailIn
  simp


@[simp] theorem feedLink_pending (l : ℕ) (s : State) : (feedLink l s).pending = s.pending := by
  unfold feedLink
  simp


@[simp] theorem linkSwitch_pending (l : ℕ) (was : Bool) (s : State) : (linkSwitch l was s).pending = s.pending := by
  unfold linkSwitch
  simp


@[simp] theorem writeUlinkCfg_pending (l : ℕ) (v : Word) (s : State) : (writeUlinkCfg l v s).pending = s.pending := by
  unfold writeUlinkCfg
  simp


@[simp] theorem writeTxv_pending (k : ℕ) (v : Word) (s : State) : (writeTxv k v s).pending = s.pending := by
  unfold writeTxv
  simp


@[simp] theorem writeRxv_pending (k : ℕ) (v : Word) (s : State) : (writeRxv k v s).pending = s.pending := by
  unfold writeRxv
  simp


@[simp] theorem writeTxa_pending (l : ℕ) (v : Word) (s : State) : (writeTxa l v s).pending = s.pending := by
  unfold writeTxa
  simp


@[simp] theorem writeRxa_pending (l : ℕ) (v : Word) (s : State) : (writeRxa l v s).pending = s.pending := by
  unfold writeRxa
  simp


@[simp] theorem writeMb_pending (l : ℕ) (v : Word) (s : State) : (writeMb l v s).pending = s.pending := by
  unfold writeMb
  simp


@[simp] theorem writeUlink_pending (r : RegName) (i : ℕ) (v : Word) (s : State) : (writeUlink r i v s).pending = s.pending := by
  unfold writeUlink
  (repeat' split) <;> (simp; done)


@[simp] theorem takeLine_pending (l : ℕ) (j : ℕ) (s : State) : (takeLine l j s).pending = s.pending := by
  unfold takeLine
  simp; (repeat' split) <;> (simp; done)


@[simp] theorem gather_pending (l : ℕ) (s : State) : (gather l s).pending = s.pending := by
  unfold gather
  simp


@[simp] theorem lowCell_pending (l : ℕ) (s : State) : (lowCell l s).2.pending = s.pending := by
  unfold lowCell
  simp; (repeat' split) <;> (simp; done)


@[simp] theorem videoSlot_pending (l : ℕ) (s : State) : (videoSlot l s).2.pending = s.pending := by
  unfold videoSlot
  simp; (repeat' split) <;> (simp; done)


@[simp] theorem audioSlot_pending (l : ℕ) (s : State) : (audioSlot l s).2.pending = s.pending := by
  unfold audioSlot
  simp; (repeat' split) <;> (simp; done)


@[simp] theorem echoSlot_pending (l : ℕ) (s : State) : (echoSlot l s).2.pending = s.pending := by
  unfold echoSlot
  simp; (repeat' split) <;> (simp; done)


@[simp] theorem slotCell_pending (l : ℕ) (s : State) : (slotCell l s).2.pending = s.pending := by
  unfold slotCell
  (repeat' split) <;> (simp; done)


@[simp] theorem sendCell_pending (l : ℕ) (s : State) : (sendCell l s).pending = s.pending := by
  unfold sendCell
  simp


/-! ### Machine/FaultEsc.lean -/

@[simp] theorem clearFstat_pending (b : Blk) (v : Word) (s : State) : (clearFstat b v s).pending = s.pending := by
  unfold clearFstat
  simp


@[simp] theorem writeFen_pending (b : Blk) (v : Word) (s : State) : (writeFen b v s).pending = s.pending := by
  unfold writeFen
  simp


@[simp] theorem writeForce_pending (b : Blk) (v : Word) (s : State) : (writeForce b v s).pending = s.pending := by
  unfold writeForce
  simp


@[simp] theorem writeEscCfg_pending (b : Blk) (v : Word) (s : State) : (writeEscCfg b v s).pending = s.pending := by
  unfold writeEscCfg
  simp


@[simp] theorem writeFlt_pending (b : Blk) (k : FltReg) (v : Word) (s : State) : (writeFlt b k v s).pending = s.pending := by
  unfold writeFlt
  (repeat' split) <;> (simp; done)


@[simp] theorem isolateLink_pending (s : State) (l : ℕ) : (isolateLink s l).pending = s.pending := by
  unfold isolateLink
  simp


@[simp] theorem retireFailed_pending (s : State) (e : ℕ) : (retireFailed s e).pending = s.pending := by
  unfold retireFailed
  simp


@[simp] theorem retireServing_pending (s : State) (e : ℕ) : (retireServing s e).pending = s.pending := by
  unfold retireServing
  simp


@[simp] theorem actOnStall_pending (s : State) (m : ℕ) : (actOnStall s m).pending = s.pending := by
  unfold actOnStall
  simp


@[simp] theorem realAction_pending (b : Blk) (m : Word) (s : State) : (realAction b m s).pending = s.pending := by
  unfold realAction
  (repeat' split) <;> (simp; done)


@[simp] theorem escReset_pending (b : Blk) (m : Word) (s : State) : (escReset b m s).pending = s.pending := by
  unfold escReset
  simp


@[simp] theorem escalationExpires_pending (b : Blk) (s : State) : (escalationExpires b s).pending = s.pending := by
  unfold escalationExpires
  simp; (repeat' split) <;> (simp; done)


@[simp] theorem writeGpio_pending (r : RegName) (i : ℕ) (v : Word) (s : State) : (writeGpio r i v s).pending = s.pending := by
  unfold writeGpio
  (repeat' split) <;> (simp; done)


/-! ### Machine/Net.lean -/

@[simp] theorem ptpTake_pending (d : Fin 2) (k : Fin 2) (m : PtpMsg) (s : State) : (ptpTake d k m s).2.pending = s.pending := by
  unfold ptpTake
  (repeat' split) <;> (simp; done)


@[simp] theorem ptpReceive_pending (p : ℕ) (bs : List Byte) (s : State) : (ptpReceive p bs s).2.pending = s.pending := by
  unfold ptpReceive
  refine foldl_snd_pending _ (fun a x => ?_) _ _
  dsimp only
  split <;> simp


/-! ### Machine/Fwu.lean -/

@[simp] theorem fwuAnswer_pending (op : ℕ) (result : ℕ) (s : State) : (fwuAnswer op result s).pending = s.pending := by
  unfold fwuAnswer
  simp


@[simp] theorem noteResult_pending (op : ℕ) (result : ℕ) (s : State) : (noteResult op result s).pending = s.pending := by
  unfold noteResult
  simp


@[simp] theorem badProgram_pending (a : ℕ) (n : ℕ) (s : State) : (badProgram a n s).pending = s.pending := by
  unfold badProgram
  simp


@[simp] theorem writePiece_pending (k : ℕ) (p : List Byte) (ok : Bool) (s : State) : (writePiece k p ok s).2.pending = s.pending := by
  unfold writePiece
  (repeat' split) <;> (simp; done)


@[simp] theorem eraseSlot_pending (k : ℕ) (ok : Bool) (s : State) : (eraseSlot k ok s).2.pending = s.pending := by
  unfold eraseSlot
  simp; (repeat' split) <;> (simp; done)


@[simp] theorem verifySlot_pending (k : ℕ) (s : State) : (verifySlot k s).2.pending = s.pending := by
  unfold verifySlot
  simp; (repeat' split) <;> (simp; done)


@[simp] theorem armSlot_pending (now : Bool) (s : State) : (armSlot now s).2.pending = s.pending := by
  unfold armSlot
  simp; (repeat' split) <;> (simp; done)


@[simp] theorem disarmSlot_pending (s : State) : (disarmSlot s).2.pending = s.pending := by
  unfold disarmSlot
  (repeat' split) <;> (simp; done)


@[simp] theorem activate__pending (k : ℕ) (s : State) : (activate_ k s).pending = s.pending := by
  unfold activate_
  simp


@[simp] theorem activationDue_pending (s : State) : (activationDue s).pending = s.pending := by
  unfold activationDue
  (repeat' split) <;> (simp; done)


@[simp] theorem answerNow_pending (op : Nat) (r : Nat × State) : (answerNow op r).pending = r.2.pending := by
  unfold answerNow
  (repeat' split) <;> simp

@[simp] theorem fwuCommand_pending (m : ℕ) (v : Word) (s : State) : (fwuCommand m v s).pending = s.pending := by
  unfold fwuCommand
  simp only []
  generalize F.FWU_CMD_OP.of v = op
  split
  · simp
  · split
    · simp
    · split
      · simp
      · split
        · simp
        · simp
        · split <;> simp


@[simp] theorem endFlashWork_pending (j : FwuJob) (ok : Bool) (s : State) : (endFlashWork j ok s).2.pending = s.pending := by
  unfold endFlashWork
  (repeat' split) <;> (simp; done)


@[simp] theorem fwuDone_pending (ok : Bool) (s : State) : (fwuDone ok s).pending = s.pending := by
  unfold fwuDone
  (repeat' split) <;> (simp; done)


@[simp] theorem loaderAnswer_pending (op : ℕ) (seq : BitVec 16) (payload : List Byte) (s : State) : (loaderAnswer op seq payload s).pending = s.pending := by
  unfold loaderAnswer
  simp


@[simp] theorem loaderResult_pending (op : ℕ) (seq : BitVec 16) (f : State → ℕ × State) (s : State) (hf : ∀ a, (f a).2.pending = a.pending) : (loaderResult op seq f s).pending = s.pending := by
  unfold loaderResult
  (repeat' split) <;> (simp [hf]; done)


@[simp] theorem loaderWrite_pending (p : List Byte) (ok : Bool) (s : State) : (loaderWrite p ok s).2.pending = s.pending := by
  unfold loaderWrite
  simp; (repeat' split) <;> (simp; done)


@[simp] theorem leaveDarkroom_pending (s : State) : (leaveDarkroom s).pending = s.pending := by
  unfold leaveDarkroom
  simp


@[simp] theorem loaderStarts_pending (seq : BitVec 16) (k : ℕ) (s : State) : (loaderStarts seq k s).pending = s.pending := by
  unfold loaderStarts
  simp


@[simp] theorem writeFwu_pending (m : ℕ) (r : RegName) (i : ℕ) (v : Word) (s : State) : (writeFwu m r i v s).pending = s.pending := by
  unfold writeFwu
  (repeat' split) <;> (simp; done)


/-! ### Machine/Ttb.lean -/

@[simp] theorem ttbShutter_pending (n : ℕ) (s : State) : (ttbShutter n s).pending = s.pending := by
  unfold ttbShutter
  simp


@[simp] theorem swapBank_pending (s : State) (n : ℕ) : (swapBank s n).pending = s.pending := by
  unfold swapBank
  simp


@[simp] theorem ttbEdge_pending (s : State) : (ttbEdge s).pending = s.pending := by
  unfold ttbEdge
  simp


@[simp] theorem setPins_pending (ack : Bool) (busy : Bool) (dq : Option Word) (s : State) : (setPins ack busy dq s).pending = s.pending := by
  unfold setPins
  simp


@[simp] theorem restPins_pending (s : State) : (restPins s).pending = s.pending := by
  unfold restPins
  simp


@[simp] theorem ttbReads_pending (a : ℕ) (s : State) : (ttbReads a s).pending = s.pending := by
  unfold ttbReads
  simp


@[simp] theorem takeWrite_pending (v : Word) (late : ℕ) (s : State) : (takeWrite v late s).pending = s.pending := by
  unfold takeWrite
  simp


@[simp] theorem ttbWrites_pending (a : ℕ) (v : Word) (late : ℕ) (s : State) : (ttbWrites a v late s).pending = s.pending := by
  unfold ttbWrites
  (repeat' split) <;> (simp; done)


@[simp] theorem writeTtbCfg_pending (v : Word) (s : State) : (writeTtbCfg v s).pending = s.pending := by
  unfold writeTtbCfg
  simp


@[simp] theorem writeTtb_pending (r : RegName) (i : ℕ) (v : Word) (s : State) : (writeTtb r i v s).pending = s.pending := by
  unfold writeTtb
  (repeat' split) <;> (simp; done)


@[simp] theorem clockLost_pending (s : State) : (clockLost s).pending = s.pending := by
  unfold clockLost
  simp


/-! ### Machine/Wscan.lean -/

@[simp] theorem setTile_pending (s : State) (t : ℕ) (x : TileRun) : (State.setTile s t x).pending = s.pending := by
  unfold State.setTile
  simp


@[simp] theorem setTileState_pending (s : State) (t : ℕ) (st : ℕ) : (State.setTileState s t st).pending = s.pending := by
  unfold State.setTileState
  simp


@[simp] theorem tileFaults_pending (t : ℕ) (s : State) : (tileFaults t s).pending = s.pending := by
  unfold tileFaults
  simp


@[simp] theorem scanReserve_pending (s : State) : (scanReserve s).pending = s.pending := by
  unfold scanReserve
  simp


@[simp] theorem sendTile_pending (p : ℕ) (dst : List Byte) (kind : ℕ) (frame : ℕ) (payload : List Byte) (s : State) : (sendTile p dst kind frame payload s).pending = s.pending := by
  unfold sendTile
  simp


@[simp] theorem clearSent_pending (s : State) : (clearSent s).pending = s.pending := by
  unfold clearSent
  simp


@[simp] theorem sendDriveOff_pending (t : ℕ) (s : State) : (sendDriveOff t s).pending = s.pending := by
  unfold sendDriveOff
  simp


@[simp] theorem sendIdRead_pending (t : ℕ) (r : IdRead) (s : State) : (sendIdRead t r s).pending = s.pending := by
  unfold sendIdRead
  simp


@[simp] theorem sendFrameCtl_pending (t : ℕ) (frame : ℕ) (s : State) : (sendFrameCtl t frame s).pending = s.pending := by
  unfold sendFrameCtl
  simp


@[simp] theorem scanLamp_pending (s0 : State) (bad : List ℕ) (lcBad : List ℕ) (f : WallFrame) (b : ℕ) (k : Option ℕ) (t : ℕ) (i : ℕ) (j : ℕ) (s : State) : (scanLamp s0 bad lcBad f b k t i j s).pending = s.pending := by
  unfold scanLamp
  simp


@[simp] theorem scanBand_pending (bad : List ℕ) (lcBad : List ℕ) (f : WallFrame) (b : ℕ) (k : Option ℕ) (s : State) : (scanBand bad lcBad f b k s).pending = s.pending := by
  unfold scanBand
  split
  · rfl
  · extract_lets t
    have e : t.pending = s.pending := foldl_pending _ (fun _ _ => foldl_pending _ (fun _ _ => foldl_pending _ (fun _ _ => by simp) _ _) _ _) _ _
    split <;> simp [e]


@[simp] theorem captureBand_pending (bad : List ℕ) (f : WallFrame) (b : ℕ) (k : Option ℕ) (s : State) : (captureBand bad f b k s).pending = s.pending := by
  unfold captureBand
  simp


@[simp] theorem putWallFrame_pending (f : WallFrame) (s : State) : (putWallFrame f s).pending = s.pending := by
  unfold putWallFrame
  simp


@[simp] theorem finishBand_pending (frame : Word) (b : ℕ) (k : Option ℕ) (bad : List ℕ) (lcBad : List ℕ) (s : State) : (finishBand frame b k bad lcBad s).pending = s.pending := by
  unfold finishBand
  (repeat' split) <;> (simp; done)


@[simp] theorem sendPixels_pending (t : ℕ) (frame : ℕ) (row : ℕ) (c : ℕ) (n : ℕ) (s : State) : (sendPixels t frame row c n s).pending = s.pending := by
  unfold sendPixels
  simp


@[simp] theorem sendTileFrame_pending (t : ℕ) (frame : ℕ) (s : State) : (sendTileFrame t frame s).pending = s.pending := by
  unfold sendTileFrame
  simp


@[simp] theorem openSlot_pending (frame : Word) (b : ℕ) (s : State) : (openSlot frame b s).pending = s.pending := by
  unfold openSlot
  (repeat' split) <;> (simp; done)


@[simp] theorem packetMissed_pending (p : ℕ) (s : State) : (packetMissed p s).pending = s.pending := by
  unfold packetMissed
  simp


@[simp] theorem frameMark_pending (s : State) : (frameMark s).pending = s.pending := by
  unfold frameMark
  (repeat' split) <;> (simp; done)


@[simp] theorem tileReceive_pending (p : ℕ) (f : EthFrame) (s : State) : (tileReceive p f s).2.pending = s.pending := by
  unfold tileReceive
  simp; (repeat' split) <;> (simp; done)


@[simp] theorem noteReport_pending (t : ℕ) (s : State) : (noteReport t s).pending = s.pending := by
  unfold noteReport
  simp


@[simp] theorem showStatus_pending (t : ℕ) (b : List Byte) (s : State) : (showStatus t b s).pending = s.pending := by
  unfold showStatus
  simp


@[simp] theorem tileHeats_pending (t : ℕ) (s : State) : (tileHeats t s).pending = s.pending := by
  unfold tileHeats
  simp


@[simp] theorem tileSyncs_pending (t : ℕ) (locked : Bool) (ofs : ℤ) (s : State) : (tileSyncs t locked ofs s).pending = s.pending := by
  unfold tileSyncs
  simp


@[simp] theorem tileCooling_pending (t : ℕ) (temp : ℤ) (s : State) : (tileCooling t temp s).pending = s.pending := by
  unfold tileCooling
  simp


@[simp] theorem statusIn_pending (p : ℕ) (f : EthFrame) (s : State) : (statusIn p f s).pending = s.pending := by
  unfold statusIn
  split
  · have e := congrArg (fun p => p.2.pending) ‹tileReceive p f s = _›
    simp only [tileReceive_pending] at e
    exact e.symm
  · have e := congrArg (fun p => p.2.pending) ‹tileReceive p f s = _›
    simp only [tileReceive_pending] at e
    (repeat' split) <;> (try simp only []) <;> (repeat' split) <;> simp [← e]


@[simp] theorem tileToSync_pending (t : ℕ) (s : State) : (tileToSync t s).pending = s.pending := by
  unfold tileToSync
  simp


@[simp] theorem tileCools_pending (t : ℕ) (s : State) : (tileCools t s).pending = s.pending := by
  unfold tileCools
  (repeat' split) <;> (simp; done)


@[simp] theorem tileLoses_pending (t : ℕ) (linkDown : Bool) (s : State) : (tileLoses t linkDown s).pending = s.pending := by
  unfold tileLoses
  simp


@[simp] theorem nextRead_pending (t : ℕ) (s : State) : (nextRead t s).pending = s.pending := by
  unfold nextRead
  (repeat' split) <;> (simp; done)


@[simp] theorem pumpReads_pending (p : ℕ) (s : State) : (pumpReads p s).pending = s.pending := by
  unfold pumpReads
  simp


@[simp] theorem resetTrim_pending (t : ℕ) (s : State) : (resetTrim t s).pending = s.pending := by
  unfold resetTrim
  simp


@[simp] theorem identTile_pending (t : ℕ) (p : ℕ) (serial : ℕ) (w : ℕ) (h : ℕ) (len : ℕ) (s0 : State) : (identTile t p serial w h len s0).pending = s0.pending := by
  unfold identTile
  simp


@[simp] theorem identIn_pending (p : ℕ) (f : EthFrame) (s : State) : (identIn p f s).pending = s.pending := by
  unfold identIn
  split
  · have e := congrArg (fun p => p.2.pending) ‹tileReceive p f s = _›
    simp only [tileReceive_pending] at e
    exact e.symm
  · have e := congrArg (fun p => p.2.pending) ‹tileReceive p f s = _›
    simp only [tileReceive_pending] at e
    (repeat' split) <;> (try simp only []) <;> (repeat' split) <;> simp [← e]


@[simp] theorem recordFails_pending (t : ℕ) (reason : ℕ) (s : State) : (recordFails t reason s).pending = s.pending := by
  unfold recordFails
  simp


@[simp] theorem recordLoaded_pending (t : ℕ) (l : TileLoad) (s : State) : (recordLoaded t l s).pending = s.pending := by
  unfold recordLoaded
  simp


@[simp] theorem copyLamps_pending (t : ℕ) (off : ℕ) (lamps : ℕ) (bs : List Byte) (s : State) : (copyLamps t off lamps bs s).pending = s.pending := by
  unfold copyLamps
  simp


@[simp] theorem recordBytes_pending (t : ℕ) (p : ℕ) (l : TileLoad) (r : IdRead) (bs : List Byte) (s : State) : (recordBytes t p l r bs s).pending = s.pending := by
  unfold recordBytes
  simp


@[simp] theorem iddataIn_pending (p : ℕ) (f : EthFrame) (s : State) : (iddataIn p f s).pending = s.pending := by
  unfold iddataIn
  split
  · have e := congrArg (fun p => p.2.pending) ‹tileReceive p f s = _›
    simp only [tileReceive_pending] at e
    exact e.symm
  · have e := congrArg (fun p => p.2.pending) ‹tileReceive p f s = _›
    simp only [tileReceive_pending] at e
    (repeat' split) <;> (try simp only []) <;> (repeat' split) <;> simp [← e]


@[simp] theorem readTimesOut_pending (t : ℕ) (tag : ℕ) (s : State) : (readTimesOut t tag s).pending = s.pending := by
  unfold readTimesOut
  (repeat' split) <;> (simp; done)


@[simp] theorem enumSends_pending (p : ℕ) (s : State) : (enumSends p s).pending = s.pending := by
  unfold enumSends
  simp


@[simp] theorem loopTile_pending (s : State) (t : ℕ) : (loopTile s t).pending = s.pending := by
  unfold loopTile
  simp


@[simp] theorem loopTick_pending (s : State) : (loopTick s).pending = s.pending := by
  unfold loopTick
  (repeat' split) <;> (simp; done)


@[simp] theorem proofCompare_pending (fz : Fld) (ct : Fld) (i : ℕ) (fresh : Bool) (old : ℕ) (new : ℕ) (adv : Bool) (s : State) : (proofCompare fz ct i fresh old new adv s).pending = s.pending := by
  unfold proofCompare
  simp


@[simp] theorem setProof_pending (s : State) (k : ℕ) (x : ProofRun) : (State.setProof s k x).pending = s.pending := by
  unfold State.setProof
  simp


@[simp] theorem layerProof_pending (l : ℕ) (s : State) : (layerProof l s).pending = s.pending := by
  unfold layerProof
  (repeat' split) <;> (simp; done)


@[simp] theorem regionProof_pending (r : ℕ) (before : Bool) (s : State) : (regionProof r before s).pending = s.pending := by
  unfold regionProof
  (repeat' split) <;> (simp; done)


@[simp] theorem proofRestart_pending (l : ℕ) (s : State) : (proofRestart l s).pending = s.pending := by
  unfold proofRestart
  simp


@[simp] theorem commitAll_pending (r : RegName) (n : ℕ) (s : State) : (commitAll r n s).pending = s.pending := by
  unfold commitAll
  simp


@[simp] theorem wscanShutter_pending (n : ℕ) (s : State) : (wscanShutter n s).pending = s.pending := by
  unfold wscanShutter
  simp


@[simp] theorem writeTileCfg_pending (t : ℕ) (v : Word) (s : State) : (writeTileCfg t v s).pending = s.pending := by
  unfold writeTileCfg
  simp


@[simp] theorem writeScanCfg_pending (v : Word) (s : State) : (writeScanCfg v s).pending = s.pending := by
  unfold writeScanCfg
  simp


@[simp] theorem writeTilePort_pending (p : ℕ) (v : Word) (s : State) : (writeTilePort p v s).pending = s.pending := by
  unfold writeTilePort
  simp


@[simp] theorem writeScanBase_pending (r : RegName) (v : Word) (s : State) : (writeScanBase r v s).pending = s.pending := by
  unfold writeScanBase
  simp


@[simp] theorem writeWscan_pending (r : RegName) (i : ℕ) (v : Word) (s : State) : (writeWscan r i v s).pending = s.pending := by
  unfold writeWscan
  (repeat' split) <;> (simp; done)


/-! ### Machine/Frame.lean -/

@[simp] theorem proofsRestart_pending (before : State) (s : State) : (proofsRestart before s).pending = s.pending := by
  unfold proofsRestart
  simp


@[simp] theorem commitShadows_pending (n : ℕ) (s : State) : (commitShadows n s).pending = s.pending := by
  unfold commitShadows
  simp


@[simp] theorem shutterOf_pending (n : ℕ) (t : FrameTimes) (s : State) : (shutterOf n t s).pending = s.pending := by
  unfold shutterOf
  simp


@[simp] theorem overlapCloses_pending (n : ℕ) (s : State) : (overlapCloses n s).pending = s.pending := by
  unfold overlapCloses
  (repeat' split) <;> (simp; done)


/-! ### Machine/Flow.lean -/

@[simp] theorem setFlowAt_pending (s : State) (i : ℕ) (e : ℕ) : (State.setFlowAt s i e).pending = s.pending := by
  unfold State.setFlowAt
  simp


@[simp] theorem flowKill_pending (i : ℕ) (s : State) : (flowKill i s).pending = s.pending := by
  unfold flowKill
  simp


@[simp] theorem agedPut_pending (i : ℕ) (s : State) : (agedPut i s).pending = s.pending := by
  unfold agedPut
  simp


@[simp] theorem flowEcc_pending (key : ℕ) (bad : List (Fin 4 × Bool)) (s : State) : (flowEcc key bad s).pending = s.pending := by
  unfold flowEcc
  simp


@[simp] theorem flowLookup_pending (dst : ℕ) (src : ℕ) (dport : ℕ) (port : ℕ) (tagged : Bool) (vid : ℕ) (ecc : List (Bool × Fin 4 × Bool)) (s : State) : (flowLookup dst src dport port tagged vid ecc s).2.pending = s.pending := by
  unfold flowLookup
  simp; (repeat' split) <;> (simp; done)


@[simp] theorem flowQueue_pending (v : Word) (s : State) : (flowQueue v s).pending = s.pending := by
  unfold flowQueue
  simp


@[simp] theorem flowRun_pending (p : ℕ → Bool) (act : ℕ → ℕ → State → ℕ × Option ℕ × Option ℕ × State) (s : State) (hact : ∀ x0 x1 a, (act x0 x1 a).2.2.2.pending = a.pending) : (flowRun p act s).pending = s.pending := by
  unfold flowRun
  simp [hact]; (repeat' split) <;> (simp [hact]; done)


@[simp] theorem flowInsert_pending (_i : ℕ) (d : ℕ) (s : State) : (flowInsert _i d s).2.2.2.pending = s.pending := by
  unfold flowInsert
  simp; (repeat' split) <;> (simp; done)


@[simp] theorem flowDelete_pending (_i : ℕ) (d : ℕ) (s : State) : (flowDelete _i d s).2.2.2.pending = s.pending := by
  unfold flowDelete
  (repeat' split) <;> (simp; done)


@[simp] theorem flowGet_pending (_i : ℕ) (d : ℕ) (s : State) : (flowGet _i d s).2.2.2.pending = s.pending := by
  unfold flowGet
  (repeat' split) <;> (simp; done)


@[simp] theorem flowRead_pending (i : ℕ) (_d : ℕ) (s : State) : (flowRead i _d s).2.2.2.pending = s.pending := by
  unfold flowRead
  simp


@[simp] theorem flowModify_pending (_i : ℕ) (d : ℕ) (s : State) : (flowModify _i d s).2.2.2.pending = s.pending := by
  unfold flowModify
  (repeat' split) <;> (simp; done)


@[simp] theorem flowBad_pending (_i : ℕ) (_d : ℕ) (s : State) : (flowBad _i _d s).2.2.2.pending = s.pending := by
  unfold flowBad
  simp


@[simp] theorem flowResTo_pending (m : ℕ) (s : State) : (flowResTo m s).pending = s.pending := by
  unfold flowResTo
  (repeat' split) <;> (simp; done)


@[simp] theorem flowAgedTo_pending (m : ℕ) (s : State) : (flowAgedTo m s).pending = s.pending := by
  unfold flowAgedTo
  (repeat' split) <;> (simp; done)


@[simp] theorem ageEntry_pending (s : State) (i : ℕ) : (ageEntry s i).pending = s.pending := by
  unfold ageEntry
  simp


@[simp] theorem agePass_pending (s : State) : (agePass s).pending = s.pending := by
  unfold agePass
  simp


@[simp] theorem flowInit_pending (s : State) : (flowInit s).pending = s.pending := by
  unfold flowInit
  simp


@[simp] theorem writeFlow_pending (r : RegName) (i : ℕ) (v : Word) (s : State) : (writeFlow r i v s).pending = s.pending := by
  unfold writeFlow
  (repeat' split) <;> (simp; done)


/-! ### Machine/Sdi.lean -/

@[simp] theorem setRxState_pending (s : State) (k : ℕ) (x : SdiRx) : (State.setRxState s k x).pending = s.pending := by
  unfold State.setRxState
  simp


@[simp] theorem rxEnter_pending (n : ℕ) (st : ℕ) (s : State) : (rxEnter n st s).pending = s.pending := by
  unfold rxEnter
  simp


@[simp] theorem sdiFollow_pending (n : ℕ) (s : State) : (sdiFollow n s).pending = s.pending := by
  unfold sdiFollow
  simp


@[simp] theorem rxChecks_pending (n : ℕ) (l : SdiLine) (s : State) : (rxChecks n l s).pending = s.pending := by
  unfold rxChecks
  simp


@[simp] theorem judgeFrame_pending (n : ℕ) (k : ℕ) (s : State) : (judgeFrame n k s).pending = s.pending := by
  unfold judgeFrame
  simp


@[simp] theorem rxTrack_pending (n : ℕ) (k : ℕ) (l : SdiLine) (s : State) : (rxTrack n k l s).pending = s.pending := by
  unfold rxTrack
  simp


@[simp] theorem rxPid_pending (n : ℕ) (l : SdiLine) (s : State) : (rxPid n l s).pending = s.pending := by
  unfold rxPid
  (repeat' split) <;> (simp; done)


@[simp] theorem rxAnc_pending (n : ℕ) (l : SdiLine) (s : State) : (rxAnc n l s).2.pending = s.pending := by
  unfold rxAnc
  simp


@[simp] theorem rxAudio_pending (n : ℕ) (k : ℕ) (l : SdiLine) (s : State) : (rxAudio n k l s).pending = s.pending := by
  unfold rxAudio
  (repeat' split) <;> (simp; done)


@[simp] theorem rxPicture_pending (n : ℕ) (k : ℕ) (l : SdiLine) (anc : List AncPacket) (s : State) : (rxPicture n k l anc s).pending = s.pending := by
  unfold rxPicture
  simp


@[simp] theorem rxPhase_pending (n : ℕ) (l : SdiLine) (s : State) : (rxPhase n l s).pending = s.pending := by
  unfold rxPhase
  simp; (repeat' split) <;> (simp; done)


@[simp] theorem sdiLineIn_pending (n : ℕ) (l : SdiLine) (s : State) : (sdiLineIn n l s).pending = s.pending := by
  unfold sdiLineIn
  simp


@[simp] theorem pidLost_pending (n : ℕ) (s : State) : (pidLost n s).pending = s.pending := by
  unfold pidLost
  simp


@[simp] theorem feedSlots_pending (f : AudFeed) (s : State) : (feedSlots f s).pending = s.pending := by
  unfold feedSlots
  simp


@[simp] theorem rxEnable_pending (n : ℕ) (s : State) : (rxEnable n s).pending = s.pending := by
  unfold rxEnable
  simp


@[simp] theorem rxDisable_pending (n : ℕ) (s : State) : (rxDisable n s).pending = s.pending := by
  unfold rxDisable
  simp


@[simp] theorem writeRxCfg_pending (n : ℕ) (v : Word) (s : State) : (writeRxCfg n v s).pending = s.pending := by
  unfold writeRxCfg
  simp


@[simp] theorem writeTxCfg_pending (n : ℕ) (v : Word) (s : State) : (writeTxCfg n v s).pending = s.pending := by
  unfold writeTxCfg
  simp


@[simp] theorem txFrameStart_pending (n : ℕ) (o : ℕ) (s : State) : (txFrameStart n o s).pending = s.pending := by
  unfold txFrameStart
  simp


@[simp] theorem txBuild_pending (n : ℕ) (second : Bool) (line : ℕ) (s : State) : (txBuild n second line s).pending = s.pending := by
  unfold txBuild
  simp


@[simp] theorem sdiLineOut_pending (n : ℕ) (second : Bool) (line : ℕ) (s : State) : (sdiLineOut n second line s).pending = s.pending := by
  unfold sdiLineOut
  simp


@[simp] theorem writeSdi_pending (r : RegName) (i : ℕ) (v : Word) (s : State) : (writeSdi r i v s).pending = s.pending := by
  unfold writeSdi
  (repeat' split) <;> (simp; done)


@[simp] theorem laneFollow_pending (n : ℕ) (s : State) : (laneFollow n s).pending = s.pending := by
  unfold laneFollow
  simp; (repeat' split) <;> (simp; done)


/-! ### Machine/MportRx.lean -/

@[simp] theorem hostRx_pending (p : ℕ) (src : ℕ) (index : ℕ) (f : EthFrame) (s : State) : (hostRx p src index f s).pending = s.pending := by
  unfold hostRx
  simp


@[simp] theorem hostFilter_pending (p : ℕ) (f : EthFrame) (s : State) : (hostFilter p f s).pending = s.pending := by
  unfold hostFilter
  simp


@[simp] theorem setRxc_pending (s : State) (c : ℕ) (x : RxCtx) : (State.setRxc s c x).pending = s.pending := by
  unfold State.setRxc
  simp


@[simp] theorem pathShow_pending (c : ℕ) (here : Bool) (s : State) : (pathShow c here s).pending = s.pending := by
  unfold pathShow
  (repeat' split) <;> (simp; done)


@[simp] theorem rxcEnter_pending (c : ℕ) (st : ℕ) (s : State) : (rxcEnter c st s).pending = s.pending := by
  unfold rxcEnter
  simp


@[simp] theorem noteSeq_pending (c : ℕ) (q : ℕ) (s : State) : (noteSeq c q s).pending = s.pending := by
  unfold noteSeq
  simp; (repeat' split) <;> (simp; done)


@[simp] theorem takeAnc_pending (v : ℕ) (line : ℕ) (s : State) : (takeAnc v line s).2.pending = s.pending := by
  unfold takeAnc
  simp


@[simp] theorem rxcClose_pending (c : ℕ) (s : State) : (rxcClose c s).pending = s.pending := by
  unfold rxcClose
  simp; (repeat' split) <;> (simp; done)


@[simp] theorem putPiece_pending (c : ℕ) (t : ℤ) (s : State) (p : RowPiece) : (putPiece c t s p).pending = s.pending := by
  unfold putPiece
  simp; (repeat' split) <;> (simp; done)


@[simp] theorem newFrame_pending (c : ℕ) (ts : ℕ) (s : State) : (newFrame c ts s).2.pending = s.pending := by
  unfold newFrame
  simp; (repeat' split) <;> (simp; done)


@[simp] theorem videoWrite_pending (c : ℕ) (r : RtpPkt) (t : ℤ) (s : State) : (videoWrite c r t s).pending = s.pending := by
  unfold videoWrite
  simp; (repeat' split) <;> (simp; done)


@[simp] theorem rxcPhase_pending (c : ℕ) (s : State) : (rxcPhase c s).pending = s.pending := by
  unfold rxcPhase
  simp; (repeat' split) <;> (simp; done)


@[simp] theorem rxcJudge_pending (c : ℕ) (s : State) : (rxcJudge c s).pending = s.pending := by
  unfold rxcJudge
  simp


@[simp] theorem videoTrack_pending (c : ℕ) (r : RtpPkt) (s : State) : (videoTrack c r s).pending = s.pending := by
  unfold videoTrack
  simp; (repeat' split) <;> (simp; done)


@[simp] theorem audioSet_pending (c : ℕ) (ts : ℕ) (x : ℕ → AudSample) (s : State) : (audioSet c ts x s).pending = s.pending := by
  unfold audioSet
  simp


@[simp] theorem audioWrite_pending (c : ℕ) (r : RtpPkt) (s : State) : (audioWrite c r s).pending = s.pending := by
  unfold audioWrite
  simp


@[simp] theorem ancJoin_pending (v : ℕ) (line : ℕ) (a : AncPacket) (s : State) : (ancJoin v line a s).pending = s.pending := by
  unfold ancJoin
  simp


@[simp] theorem ancWrite_pending (c : ℕ) (r : RtpPkt) (s : State) : (ancWrite c r s).pending = s.pending := by
  unfold ancWrite
  (repeat' split) <;> (simp; done)


@[simp] theorem sdi4Track_pending (c : ℕ) (l : SdiLine) (s : State) : (sdi4Track c l s).pending = s.pending := by
  unfold sdi4Track
  simp


@[simp] theorem sdi4Write_pending (c : ℕ) (t : ℤ) (l : SdiLine) (s : State) : (sdi4Write c t l s).pending = s.pending := by
  unfold sdi4Write
  simp


@[simp] theorem rxcTrack_pending (c : ℕ) (f : MediaFrame) (r : RtpPkt) (s : State) : (rxcTrack c f r s).pending = s.pending := by
  unfold rxcTrack
  simp; (repeat' split) <;> (simp; done)


@[simp] theorem rxcWrite_pending (c : ℕ) (f : MediaFrame) (r : RtpPkt) (t : ℤ) (s : State) : (rxcWrite c f r t s).pending = s.pending := by
  unfold rxcWrite
  (repeat' split) <;> (simp; done)


@[simp] theorem noteDin_pending (c : ℕ) (p : ℕ) (len : ℕ) (extra : ℕ) (s : State) : (noteDin c p len extra s).pending = s.pending := by
  unfold noteDin
  simp


@[simp] theorem setMrg_pending (s : State) (m : ℕ) (x : MergeRun) : (State.setMrg s m x).pending = s.pending := by
  unfold State.setMrg
  simp


@[simp] theorem mergeSkew_pending (m : ℕ) (s : State) : (mergeSkew m s).pending = s.pending := by
  unfold mergeSkew
  simp


@[simp] theorem mergeLead_pending (m : ℕ) (s : State) : (mergeLead m s).pending = s.pending := by
  unfold mergeLead
  simp


@[simp] theorem mergePair_pending (m : ℕ) (onB : Bool) (k : MergePkt) (s : State) : (mergePair m onB k s).pending = s.pending := by
  unfold mergePair
  simp


@[simp] theorem mergeRate_pending (m : ℕ) (len : ℕ) (s : State) : (mergeRate m len s).2.pending = s.pending := by
  unfold mergeRate
  simp; (repeat' split) <;> (simp; done)


@[simp] theorem mergePacket_pending (m : ℕ) (onB : Bool) (q : ℕ) (f : MediaFrame) (s : State) : (mergePacket m onB q f s).pending = s.pending := by
  unfold mergePacket
  simp; (repeat' split) <;> (simp; done)


@[simp] theorem mergeRelease_pending (m : ℕ) (s : State) : (mergeRelease m s).pending = s.pending := by
  unfold mergeRelease
  (repeat' split) <;> (simp; done)


@[simp] theorem rxcPacket_pending (c : ℕ) (p : ℕ) (f : MediaFrame) (s : State) : (rxcPacket c p f s).pending = s.pending := by
  unfold rxcPacket
  simp; (repeat' split) <;> (simp; done)


@[simp] theorem rxcTimeout_pending (c : ℕ) (s : State) : (rxcTimeout c s).pending = s.pending := by
  unfold rxcTimeout
  simp


@[simp] theorem portPause_pending (p : ℕ) (q : ℕ) (s : State) : (portPause p q s).pending = s.pending := by
  unfold portPause
  simp


@[simp] theorem pauseOver_pending (p : ℕ) (s : State) : (pauseOver p s).pending = s.pending := by
  unfold pauseOver
  simp


@[simp] theorem flowAct_pending (p : ℕ) (i : ℕ) (f : MediaFrame) (s : State) : (flowAct p i f s).pending = s.pending := by
  unfold flowAct
  simp; (repeat' split) <;> (simp; done)


@[simp] theorem classify_pending (p : ℕ) (f : MediaFrame) (s : State) : (classify p f s).pending = s.pending := by
  unfold classify
  simp; (repeat' split) <;> (simp; done)


@[simp] theorem mediaFrameIn_pending (p : ℕ) (f : MediaFrame) (s : State) : (mediaFrameIn p f s).pending = s.pending := by
  unfold mediaFrameIn
  (repeat' split) <;> (simp; done)


@[simp] theorem portDown_pending (p : ℕ) (s : State) : (portDown p s).pending = s.pending := by
  unfold portDown
  simp


@[simp] theorem portComesUp_pending (p : ℕ) (s : State) : (portComesUp p s).pending = s.pending := by
  unfold portComesUp
  simp


@[simp] theorem writePortCfg_pending (p : ℕ) (v : Word) (s : State) : (writePortCfg p v s).pending = s.pending := by
  unfold writePortCfg
  simp


@[simp] theorem rxcOn_pending (c : ℕ) (s : State) : (rxcOn c s).pending = s.pending := by
  unfold rxcOn
  simp


@[simp] theorem rxcOff_pending (c : ℕ) (s : State) : (rxcOff c s).pending = s.pending := by
  unfold rxcOff
  simp


@[simp] theorem writeRxcCfg_pending (c : ℕ) (v : Word) (s : State) : (writeRxcCfg c v s).pending = s.pending := by
  unfold writeRxcCfg
  simp


@[simp] theorem writeMrgCfg_pending (m : ℕ) (v : Word) (s : State) : (writeMrgCfg m v s).pending = s.pending := by
  unfold writeMrgCfg
  simp


/-! ### Machine/MportTx.lean -/

@[simp] theorem setTxc_pending (s : State) (t : ℕ) (x : TxRun) : (State.setTxc s t x).pending = s.pending := by
  unfold State.setTxc
  simp


@[simp] theorem showOffsets_pending (t : ℕ) (o : ℕ) (n : ℕ) (s : State) : (showOffsets t o n s).pending = s.pending := by
  unfold showOffsets
  split <;> simp


@[simp] theorem txcOffsets_pending (t : ℕ) (s : State) : (txcOffsets t s).pending = s.pending := by
  unfold txcOffsets
  dsimp only
  split
  · rfl
  · split <;> simp


@[simp] theorem writeTxcCfg_pending (t : ℕ) (v : Word) (s : State) : (writeTxcCfg t v s).pending = s.pending := by
  unfold writeTxcCfg
  simp


@[simp] theorem mediaFrameTo_pending (t : ℕ) (p : ℕ) (dip : ℕ) (rtp : List Byte) (s : State) : (mediaFrameTo t p dip rtp s).2.pending = s.pending := by
  unfold mediaFrameTo
  simp


@[simp] theorem sendPaced_pending (t : ℕ) (p : ℕ) (dip : ℕ) (first : Bool) (rtp : List Byte) (s : State) : (sendPaced t p dip first rtp s).pending = s.pending := by
  unfold sendPaced
  simp


@[simp] theorem sendMedia_pending (t : ℕ) (marker : Bool) (ts : ℕ) (body : List Byte) (s : State) : (sendMedia t marker ts body s).pending = s.pending := by
  unfold sendMedia
  simp


@[simp] theorem videoSend_pending (t : ℕ) (k : ℕ) (j : ℕ) (s : State) : (videoSend t k j s).pending = s.pending := by
  unfold videoSend
  simp; (repeat' split) <;> (simp; done)


@[simp] theorem audioSend_pending (t : ℕ) (s : State) : (audioSend t s).pending = s.pending := by
  unfold audioSend
  simp


@[simp] theorem ancSend_pending (t : ℕ) (k : ℕ) (j : ℕ) (s : State) : (ancSend t k j s).pending = s.pending := by
  unfold ancSend
  (repeat' split) <;> (simp; done)


@[simp] theorem sdi6Send_pending (t : ℕ) (k : ℕ) (s : State) : (sdi6Send t k s).pending = s.pending := by
  unfold sdi6Send
  (repeat' split) <;> (simp; done)


@[simp] theorem mediaSend_pending (t : ℕ) (k : ℕ) (j : ℕ) (s : State) : (mediaSend t k j s).pending = s.pending := by
  unfold mediaSend
  (repeat' split) <;> (simp; done)


@[simp] theorem txcLine_pending (o : ℕ) (s : State) : (txcLine o s).pending = s.pending := by
  unfold txcLine
  (repeat' split) <;> (simp; done)


@[simp] theorem txcAudio_pending (s : State) : (txcAudio s).pending = s.pending := by
  unfold txcAudio
  simp


@[simp] theorem hostSend_pending (p : ℕ) (s : State) : (hostSend p s).pending = s.pending := by
  unfold hostSend
  simp


@[simp] theorem writeMport_pending (r : RegName) (i : ℕ) (v : Word) (s : State) : (writeMport r i v s).pending = s.pending := by
  unfold writeMport
  (repeat' split) <;> (simp; done)


/-! ### Machine/Mgmt.lean -/

@[simp] theorem mgStore_pending (n : ℕ) (src : ℕ) (m : ℕ) (f : EthFrame) (s : State) : (mgStore n src m f s).pending = s.pending := by
  unfold mgStore
  simp


@[simp] theorem mgPause_pending (n : ℕ) (q : ℕ) (s : State) : (mgPause n q s).pending = s.pending := by
  unfold mgPause
  simp


@[simp] theorem mgFilter_pending (n : ℕ) (f : EthFrame) (s : State) : (mgFilter n f s).pending = s.pending := by
  unfold mgFilter
  (repeat' split) <;> (simp; done)


@[simp] theorem mgFrameIn_pending (n : ℕ) (f : EthFrame) (s : State) : (mgFrameIn n f s).pending = s.pending := by
  unfold mgFrameIn
  simp; (repeat' split) <;> (simp; done)


@[simp] theorem mgPauseOver_pending (n : ℕ) (s : State) : (mgPauseOver n s).pending = s.pending := by
  unfold mgPauseOver
  simp


@[simp] theorem mgSend_pending (n : ℕ) (s : State) : (mgSend n s).pending = s.pending := by
  unfold mgSend
  (repeat' split) <;> (simp; done)


@[simp] theorem mgDown_pending (n : ℕ) (s : State) : (mgDown n s).pending = s.pending := by
  unfold mgDown
  simp


@[simp] theorem mgUp_pending (n : ℕ) (slow : Bool) (s : State) : (mgUp n slow s).pending = s.pending := by
  unfold mgUp
  simp


@[simp] theorem writeMgCfg_pending (n : ℕ) (v : Word) (s : State) : (writeMgCfg n v s).pending = s.pending := by
  unfold writeMgCfg
  simp


@[simp] theorem writeMgmt_pending (r : RegName) (i : ℕ) (v : Word) (s : State) : (writeMgmt r i v s).pending = s.pending := by
  unfold writeMgmt
  (repeat' split) <;> (simp; done)


@[simp] theorem ptpToHost_pending (p : ℕ) (frame : List Byte) (s : State) : (ptpToHost p frame s).pending = s.pending := by
  unfold ptpToHost
  simp


/-! ### Machine/ClkPwr.lean -/

@[simp] theorem pllStarts_pending (d : ℕ) (s : State) : (pllStarts d s).pending = s.pending := by
  unfold pllStarts
  simp


@[simp] theorem clockSleeps_pending (d : ℕ) (s : State) : (clockSleeps d s).pending = s.pending := by
  unfold clockSleeps
  simp


@[simp] theorem readSensors_pending (raw : List (BitVec 16)) (s : State) : (readSensors raw s).pending = s.pending := by
  unfold readSensors
  simp


@[simp] theorem trips_pending (s : State) : (trips s).pending = s.pending := by
  unfold trips
  simp


@[simp] theorem writePwr_pending (r : RegName) (i : ℕ) (v : Word) (s : State) : (writePwr r i v s).pending = s.pending := by
  unfold writePwr
  (repeat' split) <;> (simp; done)


/-! ### Machine/Regs.lean -/

@[simp] theorem latchRead_pending (r : RegName) (i : ℕ) (s : State) : (latchRead r i s).2.pending = s.pending := by
  unfold latchRead
  (repeat' split) <;> (simp; done)


@[simp] theorem answered_pending (m : ℕ) (s : State) : (answered m s).2.pending = s.pending := by
  unfold answered
  simp


@[simp] theorem readName_pending (m : ℕ) (r : RegName) (i : ℕ) (s : State) : (readName m r i s).2.pending = s.pending := by
  unfold readName
  simp; (repeat' split) <;> (simp; done)


@[simp] theorem readReg_pending (m : ℕ) (x : Reg) (i : ℕ) (s : State) : (readReg m x i s).2.pending = s.pending := by
  unfold readReg
  (repeat' split) <;> (simp; done)


@[simp] theorem writeName_pending (m : ℕ) (r : RegName) (i : ℕ) (v : Word) (s : State) : (writeName m r i v s).pending = s.pending := by
  unfold writeName
  (repeat' split) <;> (simp; done)


@[simp] theorem writeReg_pending (m : ℕ) (x : Reg) (i : ℕ) (v : Word) (s : State) : (writeReg m x i v s).pending = s.pending := by
  unfold writeReg
  (repeat' split) <;> (simp; done)


/-! ### Machine/Bus.lean -/

@[simp] theorem regAccess_pending (m : ℕ) (write : Bool) (a : ℕ) (s : State) : (regAccess m write a s).pending = s.pending := by
  unfold regAccess
  simp


@[simp] theorem readAt_pending (m : ℕ) (a : ℕ) (s : State) : (readAt m a s).2.pending = s.pending := by
  unfold readAt
  split
  · exact readReg_pending _ _ _ _
  · rfl


@[simp] theorem writeAt_pending (m : ℕ) (a : ℕ) (v : Word) (s : State) : (writeAt m a v s).pending = s.pending := by
  unfold writeAt
  split
  · exact writeReg_pending _ _ _ _ _
  · rfl


@[simp] theorem regRead_pending (m : ℕ) (a : ℕ) (n : ℕ) (s : State) : (regRead m a n s).2.pending = s.pending := by
  unfold regRead
  split
  · exact regAccess_pending _ _ _ _
  · split
    · exact (readAt_pending _ _ _).trans (readAt_pending _ _ _)
    · exact readAt_pending _ _ _


@[simp] theorem regWrite_pending (m : ℕ) (a : ℕ) (bs : List Byte) (s : State) : (regWrite m a bs s).pending = s.pending := by
  unfold regWrite
  simp


@[simp] theorem portRead_pending (m : ℕ) (p : BusPort) (a : ℕ) (n : ℕ) (s : State) : (portRead m p a n s).2.pending = s.pending := by
  unfold portRead
  (repeat' split) <;> (simp; done)


@[simp] theorem portWrite_pending (m : ℕ) (p : BusPort) (a : ℕ) (bs : List Byte) (s : State) : (portWrite m p a bs s).pending = s.pending := by
  unfold portWrite
  (repeat' split) <;> (simp; done)


@[simp] theorem readBeats_pending (m : ℕ) (p : BusPort) (n : ℕ) (x3 : ℕ) (x4 : ℕ) (x5 : State) : (readBeats m p n x3 x4 x5).2.pending = x5.pending := by
  induction x3 generalizing x4 x5 with
  | zero => rfl
  | succ k ih => unfold readBeats; exact (ih _ _).trans (portRead_pending _ _ _ _ _)


@[simp] theorem writeBeats_pending (m : ℕ) (p : BusPort) (n : ℕ) (x3 : ℕ) (x4 : ℕ) (x5 : List Byte) (x6 : State) : (writeBeats m p n x3 x4 x5 x6).pending = x6.pending := by
  induction x3 generalizing x4 x5 x6 with
  | zero => rfl
  | succ k ih => unfold writeBeats; exact (ih _ _ _).trans (portWrite_pending _ _ _ _ _)


@[simp] theorem perform_pending (m : ℕ) (p : BusPort) (x : BusOp) (s : State) : (perform m p x s).pending = s.pending := by
  unfold perform
  simp


@[simp] theorem busIssue_pending (m : ℕ) (x : BusOp) (s : State) : (busIssue m x s).pending = s.pending := by
  unfold busIssue
  simp


@[simp] theorem lockAfter_pending (m : ℕ) (p : BusPort) (x : BusOp) (s : State) : (lockAfter m p x s).pending = s.pending := by
  unfold lockAfter
  simp


@[simp] theorem noteWait_pending (m : ℕ) (p : BusPort) (since : ℕ) (s : State) : (noteWait m p since s).pending = s.pending := by
  unfold noteWait
  simp


@[simp] theorem portGrants_pending (p : BusPort) (s : State) : (portGrants p s).pending = s.pending := by
  unfold portGrants
  (repeat' split) <;> (simp; done)


@[simp] theorem lockExpires_pending (p : BusPort) (s : State) : (lockExpires p s).pending = s.pending := by
  unfold lockExpires
  (repeat' split) <;> (simp; done)


@[simp] theorem stallLimit_pending (m : ℕ) (s : State) : (stallLimit m s).pending = s.pending := by
  unfold stallLimit
  (repeat' split) <;> (simp; done)


theorem dmaStep_pending {x : DmaDesc} {n k : Nat} {s t : State} (h : dmaStep x n k s = .ok t) : t.pending = s.pending := by
  unfold dmaStep at h
  extract_lets a d at h
  split at h
  · extract_lets r at h
    have e : r.2.pending = s.pending := by simp only [r]; split <;> simp
    rw [← Except.ok.inj h]
    split <;> simp [e]
  · cases h
  · cases h

@[simp] theorem dmaMove_pending (c : ℕ) (x : DmaDesc) (n : ℕ) (x3 : ℕ) (x4 : ℕ) (x5 : State) : (dmaMove c x n x3 x4 x5).1.pending = x5.pending := by
  induction x3 generalizing x4 x5 with
  | zero => rfl
  | succ j ih =>
    unfold dmaMove
    split
    · exact (ih _ _).trans (dmaStep_pending ‹_›)
    · simp


@[simp] theorem descriptorEnds_pending (c : ℕ) (s : State) : (descriptorEnds c s).pending = s.pending := by
  unfold descriptorEnds
  simp; (repeat' split) <;> (simp; done)


/-! ### Machine/CueIsa.lean -/

@[simp] theorem setCtx_pending (t : ℕ) (f : ThrCtx → ThrCtx) (s : State) : (setCtx t f s).pending = s.pending := by
  unfold setCtx
  (repeat' split) <;> (simp; done)


@[simp] theorem faultThread_pending (t : ℕ) (cause : ℕ) (s : State) : (faultThread t cause s).pending = s.pending := by
  unfold faultThread
  (repeat' split) <;> (simp; done)


@[simp] theorem yieldRun_pending (t : ℕ) (st : ℕ) (wake : Wake) (halting : Bool) (s : State) : (yieldRun t st wake halting s).pending = s.pending := by
  unfold yieldRun
  (repeat' split) <;> (simp; done)


@[simp] theorem budgetStop_pending (t : ℕ) (s : State) : (budgetStop t s).pending = s.pending := by
  unfold budgetStop
  (repeat' split) <;> (simp; done)


@[simp] theorem completeOp_pending (op : ℕ) (t : ℕ) (act : ThrCtx → Word → State → State) (s : State) (hact : ∀ x0 x1 a, (act x0 x1 a).pending = a.pending) : (completeOp op t act s).pending = s.pending := by
  unfold completeOp
  (repeat' split) <;> (simp [hact]; done)


@[simp] theorem sensed_pending (s : State) (n : ℕ) : (State.sensed s n).pending = s.pending := by
  unfold State.sensed
  (repeat' split) <;> (simp; done)


@[simp] theorem writeLayer_pending (t : ℕ) (field : ℕ) (f : LayerSet → LayerSet) (s : State) : (writeLayer t field f s).pending = s.pending := by
  unfold writeLayer
  simp


@[simp] theorem writeGroup_pending (t : ℕ) (f : AudShadow → AudShadow) (s : State) : (writeGroup t f s).pending = s.pending := by
  unfold writeGroup
  simp


@[simp] theorem countSuperseded_pending (n : ℕ) (s : State) : (countSuperseded n s).pending = s.pending := by
  unfold countSuperseded
  simp


@[simp] theorem setT_pending (t : ℕ) (b : Bool) (s : State) : (setT t b s).pending = s.pending := by
  unfold setT
  simp


@[simp] theorem logicOp_pending (op : ℕ) (t : ℕ) (f : Word → Word → Word) (s : State) : (logicOp op t f s).pending = s.pending := by
  unfold logicOp
  simp


@[simp] theorem shiftOp_pending (op : ℕ) (t : ℕ) (f : Word → ℕ → Word) (s : State) : (shiftOp op t f s).pending = s.pending := by
  unfold shiftOp
  simp


@[simp] theorem layerFrom_pending (t : ℕ) (vin : ℕ) (s : State) : (layerFrom t vin s).2.pending = s.pending := by
  unfold layerFrom
  simp; (repeat' split) <;> (simp; done)


/-! ### Machine/Step.lean -/



end Sys2Proof.Machine
end

