-- ==== Sys2Proof/Machine/Tap.lean ====
section
/-!
DEFINITION. The test access port (R489): its identity code, and what an instruction shifted into it acts as.  The table has no
row for the port, so no command reads these (notes/assumptions/45.md).
-/

namespace Sys2Proof.Machine

open Sys2Proof

/-- The instructions of the port by R489: BYPASS, IDCODE, and the rest, boundary scan among them. -/
inductive TapInstr where
  | bypass
  | idcode
  | other
  deriving DecidableEq, Repr

/-- The IDCODE word: version 0x1, part 0x6400, maker code 0x51B and the 1 that IEEE 1149.1 puts at bit 0 (R489). -/
def tapIdcode : Word := BitVec.ofNat 32 (0x1 * 2 ^ 28 + 0x6400 * 2 ^ 12 + 0x51B * 2 + 1)

/-- What an instruction acts as in the life-cycle state (R489). -/
def State.tapActs (s : State) (i : TapInstr) : TapInstr :=
  match i with
  | .other => if s.lcOpen then .other else .bypass
  | _ => i

end Sys2Proof.Machine
end

