-- ==== Sys2Proof/Tests/Slice0.lean ====
section
/-!
SUPPORT. Tests: words and examples that the manual gives, one-step tests, a well-formed and an ill-formed command for each
check of WellFormed, and for each obligation that has hypotheses a witness: a state and operands that meet all the hypotheses of
each of its clauses together.
-/

open Sys2Proof
open Sys2Proof.Machine

set_option Elab.async false
set_option linter.unusedVariables false

namespace Tests
/-- The state after reset with fields set. -/
def st (l : List (Fld × Nat × Nat)) : State := l.foldl (fun s x => s.setFld x.1 x.2.1 x.2.2) State.reset

/-- A thread in state `n` that has run nothing, with a budget of 64. -/
def thr (n : Nat) : Thread :=
  { st := n, pend := 0, madeAt := 0, ctx := .start 0, shown := .start 0, wake := .none, bover := false, boverNow := false,
    held := none, halting := false, eng := none, clock := 0, back := 0, used := 0, budget := 64, user := 0, userNext := none,
    gpo := [], wrote := [], lcommit := false, refused := 0 }

/-! ### Words and examples that the manual gives -/

/-- The encoding examples of chapter 09: ADDI g1, g1, 1. -/
theorem test_cue_word_addi : (cueOp 0x08440001, cueD 0x08440001, cueA 0x08440001, cueSimm14 0x08440001) = (0x02, 1, 1, 1#32) := by
  decide +kernel

/-- The encoding examples of chapter 09: BR.NE to three words back. -/
theorem test_cue_word_br : (cueOp 0x40BFFFFD, cueCond 0x40BFFFFD, cueSimm22 0x40BFFFFD) = (0x10, 2, BitVec.ofInt 32 (-3)) := by
  decide +kernel

/-- The encoding examples of chapter 09: TAKE g8, g2. -/
theorem test_cue_word_take :
    (cueOp 0x80082000, cueSub 0x80082000, cueR1 0x80082000, cueR2 0x80082000, cueK 0x80082000) = (0x20, 0, 8, 2, 0) := by
  decide +kernel

/-- The encoding examples of chapter 09: SENSE g1, LAYER_FROZEN, g0, 3. -/
theorem test_cue_word_sense : (cueOp 0x69810003, cueSub 0x69810003, cueR1 0x69810003, cueK 0x69810003) = (0x1A, 0x18, 1, 3) := by
  decide +kernel

/-- The encoding examples of chapter 09: the six words are legal in a VOUT thread or an audio thread. -/
theorem test_cue_words_are_legal :
    [0x08440001#32, 0x40BFFFFD#32, 0x80082000#32, 0x69810003#32, 0x4C000000#32].all (fun w => !cueIllegal 0 w) = true := by
  decide +kernel

/-- Chapter 03, comparison across the wrap: Δ for X1 is −2,097,152, and X1 lies in the future. -/
theorem test_event_time_wraps : etDiff 0xFFFFFFF00000 0x100000 = -2097152 ∧ etReached 0xFFFFFFF00000 0x100000 = false := by
  decide +kernel

/-- Chapter 08, cue budgets: at 50 Hz with TOTAL_LINES = 1,125 and CUE_OPEN = 8, W = 142,222 ns. -/
theorem test_cue_window :
    (st [(F.REF_TD_CFG_RATE, 0, 7), (F.REF_TD_CFG_CUE_OPEN, 0, 8), (F.REF_TD_LINES_TOTAL_LINES, 0, 1125)]).cueWindow 0 = 142222 := by
  decide +kernel

/-- Chapter 17, the Card K ledger: the cap of 240.0 W holds a slice run on a card that uses 236.0 W, and takes one at 231.0 W. -/
theorem test_slice_power : bistPower 3 = 180 ∧ State.reset.powerCap = 4800 := by decide +kernel

/-! ### One step -/

/-- What a step holds of a state, where it answers one. -/
def after {α : Type} (f : State → α) (c : Instr) (s : State) (d : α) : α :=
  match Sys2Proof.Machine.step { s with pending := [c] } with
  | .next t => f t
  | _ => d

/-- R404: XTAL_IN fails: a system reset, with its bit of RST_CAUSE. -/
theorem test_xtal_fail : after (fun t => (t.rst.level, t.flag F.RST_CAUSE_CLK_FAIL 0)) .xtalFail
    { State.reset with rst := { RstState.reset with level := 0 } } (9, false) = (3, true) := by decide +kernel

/-- R353: DBG's access is denied outside MANUFACTURE and MAINTENANCE, and counted. -/
theorem test_dbg_denied : after (fun t => t.reg .BUS_DENY_CNT 0) (.registerWrite 7 (.n .FWU_ACT_AT_LO) 0 5) (st [(F.RST_STAT_LC, 0, 2)]) 9 = 1 := by
  decide +kernel

/-- R6: a write of any value clears a counter. -/
theorem test_counter_clears :
    after (fun t => t.reg .RST_SYS_CNT 0) (.registerWrite 5 (.n .RST_SYS_CNT) 0 77) (st [(⟨.RST_SYS_CNT, 0, 32⟩, 0, 3)]) 9 = 0 := by
  decide +kernel

/-- A word of no table row leaves the queue as it is: the table gives the commands no bits. -/
theorem test_no_word_is_a_command : (State.reset.withFetchWord 32 0).pending = [] := by decide +kernel

/-! ### Well-formed commands -/

/-- A well-formed command of each kind that has a check. -/
theorem test_well_formed :
    [Instr.registerWrite 0 (.n .IDM_BUF) 255 0, .counterLoRead 0 .IDM_BUF 255, .disagree [(1, 2)], .ptpOtherMessage 0 [0],
     .mailbox 0 [0], .programStoreWrite 0x3000000000 (List.replicate 4 0), .safelightWrite 5 0x03E0000000 [0],
     .busAccess 0 ⟨true, false, 0, 0, 0, [0]⟩, .idmReadDone 0 false [], .tempRead (List.replicate 16 0), .hbmGrant 0 [(0, 0, 0), (1, 0, 0)],
     .bistEnd 0x204 0 0 0 0, .loaderPiece 0 (List.replicate 32 0) true, .videoCell 0 ⟨⟨0, true, true, 0, 0, 0⟩, List.replicate 124 0⟩,
     .lineWrite 0 ⟨1, 0, true, [List.replicate 64 0], [0], [], 0⟩].all Instr.wf = true := by decide +kernel

/-- Ill-formed: R376: the buffers have 256 words. -/
theorem test_ill_formed_registerWrite : Instr.wf (.registerWrite 0 (.n .IDM_BUF) 256 0) = false := by decide +kernel

/-- Ill-formed: R424: a block has one FSTAT. -/
theorem test_ill_formed_fault_register : Instr.wf (.registerWrite 0 (.flt .CUE .FSTAT) 1 0) = false := by decide +kernel

/-- Ill-formed: R376. -/
theorem test_ill_formed_counterLoRead : Instr.wf (.counterLoRead 0 .IDM_BUF 256) = false := by decide +kernel

/-- Ill-formed: the pair of sources ascends. -/
theorem test_ill_formed_disagree : Instr.wf (.disagree [(2, 2)]) = false := by decide +kernel

/-- Ill-formed: a message has bytes. -/
theorem test_ill_formed_ptpOtherMessage : Instr.wf (.ptpOtherMessage 0 []) = false := by decide +kernel

/-- Ill-formed: R97: 124 bytes. -/
theorem test_ill_formed_videoCell : Instr.wf (.videoCell 0 ⟨⟨0, true, true, 0, 0, 0⟩, List.replicate 123 0⟩) = false := by decide +kernel

/-- Ill-formed: R97: 124 bytes. -/
theorem test_ill_formed_ancCell : Instr.wf (.ancCell 0 ⟨⟨0, true, true, 0, 0, 0⟩, List.replicate 125 0⟩) = false := by decide +kernel

/-- Ill-formed: R97: 124 bytes. -/
theorem test_ill_formed_audioCell : Instr.wf (.audioCell 0 ⟨⟨0, true, true, 0, 0, 0⟩, []⟩) = false := by decide +kernel

/-- Ill-formed: at most 122 bytes. -/
theorem test_ill_formed_mailbox : Instr.wf (.mailbox 0 (List.replicate 123 0)) = false := by decide +kernel

/-- Ill-formed: a frame has bytes. -/
theorem test_ill_formed_mediaFrameRx : Instr.wf (.mediaFrameRx 0 ⟨⟨[], false⟩, 0, 0, [], []⟩) = false := by decide +kernel

/-- Ill-formed: lines count from 1. -/
theorem test_ill_formed_lineWrite : Instr.wf (.lineWrite 0 ⟨0, 0, true, [], [], [], 0⟩) = false := by decide +kernel

/-- Ill-formed: a word has 64 bytes. -/
theorem test_ill_formed_lineRead : Instr.wf (.lineRead 0 0 1 [] [⟨false, 0, [], 0⟩]) = false := by decide +kernel

/-- Ill-formed: the program store ends. -/
theorem test_ill_formed_programStoreWrite : Instr.wf (.programStoreWrite 0x30002FFFFD [0, 0, 0, 0]) = false := by decide +kernel

/-- Ill-formed: R311: the range ends. -/
theorem test_ill_formed_safelightWrite : Instr.wf (.safelightWrite 5 0x03FFFFFFFF [0, 0]) = false := by decide +kernel

/-- Ill-formed: a frame has bytes. -/
theorem test_ill_formed_statusReport : Instr.wf (.statusReport 0 ⟨[], false⟩) = false := by decide +kernel

/-- Ill-formed: a frame has bytes. -/
theorem test_ill_formed_ident : Instr.wf (.ident 0 ⟨[], false⟩) = false := by decide +kernel

/-- Ill-formed: a frame has bytes. -/
theorem test_ill_formed_iddata : Instr.wf (.iddata 0 ⟨[], false⟩) = false := by decide +kernel

/-- Ill-formed: R350: no 4 KiB crossing. -/
theorem test_ill_formed_busAccess : Instr.wf (.busAccess 0 ⟨false, false, 4092, 2, 1, []⟩) = false := by decide +kernel

/-- Ill-formed: a frame has bytes. -/
theorem test_ill_formed_mgmtFrameRx : Instr.wf (.mgmtFrameRx 0 ⟨[], false⟩) = false := by decide +kernel

/-- Ill-formed: R376: at most 128 bytes. -/
theorem test_ill_formed_idmReadDone : Instr.wf (.idmReadDone 0 false (List.replicate 129 0)) = false := by decide +kernel

/-- Ill-formed: 16 sensors. -/
theorem test_ill_formed_tempRead : Instr.wf (.tempRead []) = false := by decide +kernel

/-- Ill-formed: a requester waits once. -/
theorem test_ill_formed_hbmGrant : Instr.wf (.hbmGrant 0 [(3, 0, 0), (3, 1, 0)]) = false := by decide +kernel

/-- Ill-formed: R460: targets. -/
theorem test_ill_formed_bistEnd : Instr.wf (.bistEnd 0x205 0 0 0 0) = false := by decide +kernel

/-- Ill-formed: R465: a header of 32 bytes. -/
theorem test_ill_formed_loaderPiece : Instr.wf (.loaderPiece 0 (List.replicate 31 0) true) = false := by decide +kernel

/-- R489: the IDCODE. -/
theorem test_tap_idcode : tapIdcode = 0x16400A37#32 := by decide +kernel

/-- R489: after reset, in MANUFACTURE, boundary scan acts; in SERVICE it acts as BYPASS. -/
theorem test_tap_acts :
    (State.reset.tapActs .other, (st [(F.RST_STAT_LC, 0, 2)]).tapActs .other, (st [(F.RST_STAT_LC, 0, 2)]).tapActs .idcode)
      = (.other, .bypass, .idcode) := by
  decide +kernel

end Tests

/-! ### Witnesses: general -/

namespace Tests.General

/-- A FaultSet whose source 31 is set, really or not. -/
def fs31 (real cfg : Word) : FaultSet := ⟨0x80000000, real, 0, cfg, 0, none, 0, 0⟩

theorem step_idles : Sys2Proof.Machine.step State.reset = .next (elapse 1 State.reset) := rfl

theorem witness_StepRunsTheFrontCommand :
    (∃ (c : Instr) (rest : List Instr) (s : Machine.State), s.pending = c :: rest) ∧
    (∃ (s : Machine.State), s.pending = []) :=
  ⟨⟨.xtalOk, [.powerOn], { State.reset with pending := [.xtalOk, .powerOn] }, rfl⟩,
   ⟨State.reset, by decide +kernel⟩⟩

theorem witness_EveryCommandCompletes :
    (∃ (c : Instr) (s : Machine.State), s.mem.wf = true) :=
  ⟨.powerOn, State.reset, by decide +kernel⟩

theorem witness_StepKeepsMemoryCanonical :
    (∃ (s : Machine.State) (t : Machine.State), s.mem.wf = true ∧ Machine.step s = .next t) :=
  ⟨State.reset, elapse 1 State.reset, by decide +kernel, step_idles⟩

theorem witness_CountersSaturateAndClear :
    (∃ (lo : RegName) (hi : RegName) (i : Nat) (s : Machine.State), lo ≠ hi) ∧
    (∃ (m : Fin 8) (i : Nat) (v : Word) (s : Machine.State), s.dbgDenied m = false ∧ (∀ r ∈ [RegName.RST_SYS_CNT, .CLK_SLEEP_CNT, .PWR_CAP_HOLD_CNT, .BUS_STALL_CNT, .CPU_LOCKUP_CNT, .VAULT_ROT_CNT, .BIST_PASS_CNT, .IDM_NACK_CNT, .FWU_PIECE_CNT, .TTB_TAKE_CNT, .PTP_DOM_SYNC_CNT, .MGMT_RX_FCS, .LANE_LOS_CNT, .SDI_RX_TRS_ERR, .MPORT_RX_FCS, .FLOW_HIT, .XPT_REFUSE_CNT, .CUE_TQ_FULL_CNT, .AUD_XFADE_CNT, .WCOMP_LATE_CNT, .WSCAN_HOT_CNT, .HBM_ECC_CORR_CNT, .ULINK_FEC_CORR], i < Machine.regCount r)) ∧
    (∃ (m : Fin 8) (i : Nat) (v : Word) (s : Machine.State), s.dbgDenied m = false ∧ (∀ p ∈ [(RegName.MGMT_RX_FRAMES_LO, RegName.MGMT_RX_FRAMES_HI), (.MGMT_TX_FRAMES_LO, .MGMT_TX_FRAMES_HI), (.MPORT_RX_FRAMES_LO, .MPORT_RX_FRAMES_HI), (.MPORT_TX_FRAMES_LO, .MPORT_TX_FRAMES_HI), (.MPORT_TXC_PKTS_LO, .MPORT_TXC_PKTS_HI)], i < Machine.regCount p.1)) :=
  ⟨⟨.MGMT_RX_FRAMES_LO, .MGMT_RX_FRAMES_HI, 0, State.reset, by decide +kernel⟩,
   ⟨7, 0, 0, State.reset, by decide +kernel⟩,
   ⟨7, 1, 0, State.reset, by decide +kernel⟩⟩

theorem witness_RegisterAccessesFollowTheTypeCodes :
    (∃ (m : Fin 8) (i : Nat) (v : Word) (s : Machine.State), s.dbgDenied m = false ∧ (∀ r ∈ [RegName.BUS_DMA_DESC_LO, .CPU_L2_ADDR_LO, .CPU_MTIMECMP_LO, .CPU_CORE_STAT, .VAULT_THR_HOURS, .VAULT_LG_HRS, .FWU_ACT_AT_LO, .FWU_PBUF, .TTB_PEEK_ADDR, .PTP_SERVO_KP, .MGMT_STAT, .LANE_STAT, .MPORT_MAC_LO, .MPORT_STAT, .FLOW_Q_DATA, .CUE_TQ_W0, .WCOMP_BG_R, .ULINK_MB_TXBUF], i < Machine.regCount r)) ∧
    (∃ (r : Reg) (i : Nat) (v : Word) (s : Machine.State), s.lcOpen = false) ∧
    (∃ (m : Fin 8) (b : Blk) (i : Nat) (v : Word) (s : Machine.State), s.dbgDenied m = false) ∧
    (∃ (m : Fin 8) (i : Nat) (s : Machine.State), (∀ p ∈ [(RegName.MGMT_RX_FRAMES_LO, RegName.MGMT_RX_FRAMES_HI), (.MGMT_TX_FRAMES_LO, .MGMT_TX_FRAMES_HI), (.MPORT_RX_FRAMES_LO, .MPORT_RX_FRAMES_HI), (.MPORT_TX_FRAMES_LO, .MPORT_TX_FRAMES_HI), (.MPORT_TXC_PKTS_LO, .MPORT_TXC_PKTS_HI), (.AUD_PERIOD_LO, .AUD_PERIOD_HI), (.BIST_LAST_DONE_LO, .BIST_LAST_DONE_HI), (.BIST_LAST_EXP_LO, .BIST_LAST_EXP_HI), (.PTP_ET_RESID_LO, .PTP_ET_RESID_HI)], i < Machine.regCount p.1)) ∧
    (∃ (m : Fin 8) (r : RegName) (i : Nat) (s : Machine.State), Machine.regCount r ≤ i) :=
  ⟨⟨7, 0, 0xFFFFFFFF, State.reset, by decide +kernel⟩,
   ⟨.flt .GPIO .FEN, 0, 0, st [(F.RST_STAT_LC, 0, 2)], by decide +kernel⟩,
   ⟨6, .GPIO, 0, 0xFFFF0000, State.reset, by decide +kernel⟩,
   ⟨7, 0, State.reset, by decide +kernel⟩,
   ⟨7, .RST_CAUSE, 1, State.reset, by decide +kernel⟩⟩

theorem witness_EscalationFollowsRealAssertions :
    (∃ (f : Machine.FaultSet) (k : Nat), f.fstat.getLsbD k = true ∧ f.freal.getLsbD k = true) ∧
    (∃ (f : Machine.FaultSet) (k : Nat), k < 32 ∧ f.fstat.getLsbD k = true ∧ f.freal.getLsbD k = false) ∧
    (∃ (b : Blk) (v : Word) (k : Nat) (s : Machine.State), s.lcOpen = true ∧ (s.faults b).cfg.getLsbD 16 = false ∧ v = 1#32 <<< k ∧ k ≤ b.cfgReject ∧ (s.faults b).fen.getLsbD k = true) :=
  ⟨⟨fs31 0x80000000 1, 31, by decide +kernel⟩,
   ⟨fs31 0 1, 31, by decide +kernel⟩,
   ⟨.CUE, 1#32 <<< Blk.CUE.cfgReject, Blk.CUE.cfgReject, State.reset.setFaults .CUE ⟨0, 0, srcMask .CUE, 1, 0, none, 0, 0⟩, by decide +kernel⟩⟩

end Tests.General

/-! ### Witnesses: ref -/

namespace Tests.Ref

theorem witness_RefselAcceptedAfterTenSamples :
    (∃ (v : BitVec 3) (s : Machine.State), s.ref.selCand = v.toNat ∧ 9 ≤ s.ref.selRun ∧ s.refsel ≠ v.toNat ∧ s.qualified v.toNat = true) ∧
    (∃ (v : BitVec 3) (s : Machine.State), (((s.ref.selCand = v.toNat → s.ref.selRun < 9) ∨ s.refsel = v.toNat))) :=
  ⟨⟨3, { st [(F.REF_SRC_STAT_QUALIFIED, 3, 1)] with ref := { RefState.reset with selCand := 3, selRun := 9 } }, by decide +kernel⟩,
   ⟨3, { st [(F.REF_SRC_STAT_QUALIFIED, 3, 1)] with ref := { RefState.reset with selCand := 3, selRun := 8 } }, by decide +kernel⟩⟩

theorem witness_SourcesQualifyAndFail :
    (∃ (n : Fin 8) (ana : AnaFormat) (s : Machine.State), n.val < 7 ∧ s.sourceQl n ≠ 0 ∧ s.sourceQl n ≤ s.fld F.REF_QL_MIN_QL_MIN 0 ∧ ((n.val ≤ 1 ∨ n.val = 6 ∧ s.ref.ppsWritten = true ∨ s.sourceClean n = true)) ∧ s.flag F.REF_SRC_STAT_DRIFT_DQ n = false ∧ s.qualified n = false) ∧
    (∃ (n : Fin 8) (failed : Bool) (s : Machine.State), s.qualified n = true) :=
  ⟨⟨6, ⟨0, false⟩, { st [(F.REF_QL_FIXED_FREQ, 0, 3), (F.REF_QL_MIN_QL_MIN, 0, 3)] with ref := { RefState.reset with ppsWritten := true } }, by decide +kernel⟩,
   ⟨0, true, st [(F.REF_SRC_STAT_QUALIFIED, 0, 1)], by decide +kernel⟩⟩

theorem witness_LoopFollowsItsErrors :
    (∃ (samples : List (Fin 8 × Int)) (n : Fin 8) (x : Int) (s : Machine.State), (n, x) ∈ samples) ∧
    (∃ (a : Fin 8) (b : Fin 8) (s : Machine.State), s.disagrees a b = true ∧ s.isSet Src.REF_DISAGREE = false) ∧
    (∃ (err : Int) (s : Machine.State), 1 ≤ s.loop ∧ s.loop ≤ 3 ∧ err.natAbs < Machine.stepThreshold s.loop) ∧
    (∃ (err : Int) (s : Machine.State), 2 ≤ s.loop ∧ s.loop ≤ 4 ∧ 4 * Machine.stepThreshold (s.loop - 1) < err.natAbs) ∧
    (∃ (err : Int) (s : Machine.State), s.flag F.REF_SEL_STAT_SLEWING 0 = true ∧ err.natAbs < 1000000) :=
  ⟨⟨[(2, 16), (3, -5)], 3, -5, State.reset, by decide +kernel⟩,
   ⟨0, 1, { st [(F.REF_SRC_STAT_QUALIFIED, 0, 1), (F.REF_SRC_STAT_QUALIFIED, 1, 1)] with ref := { RefState.reset with window := (AMap.empty.set 0 [0]).set 1 [1000000] } }, by decide +kernel⟩,
   ⟨-19999, st [(F.REF_SEL_STAT_LOOP, 0, 3)], by decide +kernel⟩,
   ⟨-80001, st [(F.REF_SEL_STAT_LOOP, 0, 4)], by decide +kernel⟩,
   ⟨999999, st [(F.REF_SEL_STAT_SLEWING, 0, 1)], by decide +kernel⟩⟩

theorem witness_TimingDomainWrites :
    (∃ (n : Fin 8) (v : Word) (s : Machine.State), Machine.tdCfgBad n (v ||| 1#32) s = false) ∧
    (∃ (n : Fin 8) (v : Word) (s : Machine.State), Machine.tdCfgBad n (v ||| 1#32) s = true) ∧
    (∃ (n : Fin 8) (v : Word) (s : Machine.State), Machine.tdCfgBad n (v &&& ~~~ 1#32) s = false ∧ s.tdEn n = true) ∧
    (∃ (n : Fin 8) (v : Word) (s : Machine.State), 3 * (signed 32 v.toNat).natAbs ≤ s.tf3 n) ∧
    (∃ (n : Fin 8) (s : Machine.State), (s.tdOf n).phase = (s.tdOf n).phaseGoal ∧ s.flag F.REF_SEL_STAT_SLEWING 0 = false) :=
  ⟨⟨7, 0x00010000 ||| 0x4000, st [(F.REF_TD_LINES_TOTAL_LINES, 7, 1125)], by decide +kernel⟩,
   ⟨7, 0xFFFFFFFF, State.reset, by decide +kernel⟩,
   ⟨1, 0x800, st [(F.REF_TD_CFG_EN, 1, 1), (F.REF_TD_CFG_CUE_OPEN, 1, 8), (F.REF_TD_CFG_RATE, 1, 0)], by decide +kernel⟩,
   ⟨2, 100, State.reset, by decide +kernel⟩,
   ⟨2, State.reset, by decide +kernel⟩⟩

theorem witness_ReferenceOutputAndPps :
    (∃ (s : Machine.State), s.refOut.driven = true ∧ s.flag F.REF_OUT_CFG_EN 0 = true ∧ s.fld F.REF_OUT_CFG_MODE 0 ≠ 3 ∧ ((s.fld F.REF_OUT_CFG_MODE 0 = 2 ∨ s.tdEn (s.fld F.REF_OUT_CFG_TD 0) = true))) ∧
    (∃ (k : Nat) (s : Machine.State), s.ref.ppsArmed = true) :=
  ⟨⟨{ st [(F.REF_OUT_CFG_EN, 0, 1), (F.REF_OUT_CFG_MODE, 0, 2), (F.REF_OUT_CFG_WIDTH, 0, 5)] with refOut := ⟨true, false, none⟩ }, by decide +kernel⟩,
   ⟨3, { State.reset with ref := { RefState.reset with ppsArmed := true } }, by decide +kernel⟩⟩

end Tests.Ref

/-! ### Witnesses: ptp -/

namespace Tests.Ptp

theorem witness_PtpDomainStates :
    (∃ (d : Fin 2) (v : Word) (s : Machine.State), Machine.domCfgBad d (v ||| 1#32) s = false ∧ s.flag F.PTP_DOM_CFG_EN d = false) ∧
    (∃ (d : Fin 2) (v : Word) (s : Machine.State), Machine.domCfgBad d (v ||| 1#32) s = true) ∧
    (∃ (d : Fin 2) (v : Word) (s : Machine.State), Machine.domCfgBad d (v &&& ~~~ 1#32) s = false ∧ s.flag F.PTP_DOM_CFG_EN d = true) ∧
    (∃ (d : Fin 2) (s : Machine.State), ((s.ptpState d = 2 ∨ s.ptpState d = 3))) ∧
    (∃ (d : Fin 2) (g : Nat) (s : Machine.State), (s.dom d).master = some g ∧ ((s.ptpState d = 2 ∨ s.ptpState d = 3))) ∧
    (∃ (d : Fin 2) (m : AnnounceMsg) (s : Machine.State), s.ptpState d ≠ 0) :=
  ⟨⟨1, 5, State.reset, by decide +kernel⟩,
   ⟨0, 0x0, st [(F.PTP_DOM_CFG_EN, 0, 1), (F.PTP_DOM_CFG_DOMAIN_NUM, 0, 9)], by decide +kernel⟩,
   ⟨0, 0, st [(F.PTP_DOM_CFG_EN, 0, 1), (F.PTP_DOM_CFG_DOMAIN_NUM, 0, 0), (F.PTP_DOM_CFG_PORT0, 0, 0), (F.PTP_DOM_CFG_PORT1, 0, 0)], by decide +kernel⟩,
   ⟨1, st [(F.PTP_DOM_STAT_STATE, 1, 2)], by decide +kernel⟩,
   ⟨0, 7, { st [(F.PTP_DOM_STAT_STATE, 0, 3)] with ptp := { PtpState.reset with dom := AMap.empty.set 0 { PtpDom.reset with master := some 7, foreign := [⟨⟨0, 7, 1, 0, 0, 0, 0, 0, 0⟩, 3⟩] } } }, by decide +kernel⟩,
   ⟨0, ⟨1, 9, 4, 128, 6, 32, 0, 128, 1⟩, st [(F.PTP_DOM_STAT_STATE, 0, 1)], by decide +kernel⟩⟩

theorem witness_PtpMessagesGiveOffsetsAndDelays :
    (∃ (d : Fin 2) (m : SyncMsg) (s : Machine.State), s.syncAccepted d m.port m.sender = true ∧ m.twoStep = false) ∧
    (∃ (d : Fin 2) (m : SyncMsg) (s : Machine.State), s.syncAccepted d m.port m.sender = true ∧ m.twoStep = true) ∧
    (∃ (d : Fin 2) (m : FollowUpMsg) (w : Machine.SyncWait) (s : Machine.State), (s.dom d).waiting = some w ∧ s.ptpState d ≠ 0 ∧ w.port = m.port ∧ w.sender = m.sender ∧ w.seq = m.seq) ∧
    (∃ (d : Fin 2) (s : Machine.State), s.ptpState d ≠ 0 ∧ (s.dom d).master ≠ none ∧ s.ptpPort d (if s.flag F.PTP_DOM_STAT_ON_PORT1 d then 1 else 0) ≤ 129 ∧ s.macUp (s.ptpPort d (if s.flag F.PTP_DOM_STAT_ON_PORT1 d then 1 else 0)) = true ∧ s.macPaused (s.ptpPort d (if s.flag F.PTP_DOM_STAT_ON_PORT1 d then 1 else 0)) = false) ∧
    (∃ (d : Fin 2) (m : DelayRespMsg) (t3 : Nat) (sd : Int) (s : Machine.State), (s.dom d).dreq = some t3 ∧ (s.dom d).syncDiff = some sd ∧ s.ptpState d ≠ 0 ∧ (s.dom d).master = some m.sender ∧ (s.dom d).dreqSeq = m.seq) :=
  ⟨⟨0, ⟨0, 7, 1, false, 1000, 65536⟩, { st [(F.PTP_DOM_STAT_STATE, 0, 3)] with ptp := { PtpState.reset with dom := AMap.empty.set 0 { PtpDom.reset with master := some 7, time := 5000 } } }, by decide +kernel⟩,
   ⟨0, ⟨0, 7, 1, true, 1000, 65536⟩, { st [(F.PTP_DOM_STAT_STATE, 0, 3)] with ptp := { PtpState.reset with dom := AMap.empty.set 0 { PtpDom.reset with master := some 7, time := 5000 } } }, by decide +kernel⟩,
   ⟨0, ⟨0, 7, 1, 1000, 65536⟩, ⟨0, 7, 1, 4000, 3⟩, { st [(F.PTP_DOM_STAT_STATE, 0, 3)] with ptp := { PtpState.reset with dom := AMap.empty.set 0 { PtpDom.reset with master := some 7, waiting := some ⟨0, 7, 1, 4000, 3⟩ } } }, by decide +kernel⟩,
   ⟨0, { st [(F.PTP_DOM_STAT_STATE, 0, 3), (F.PTP_DOM_CFG_PORT0, 0, 128), (F.MGMT_CFG_EN, 0, 1), (F.MGMT_STAT_LINK_UP, 0, 1)] with ptp := { PtpState.reset with dom := AMap.empty.set 0 { PtpDom.reset with master := some 7 } } }, by decide +kernel⟩,
   ⟨0, ⟨7, 3, 9000, 0⟩, 8000, 65536, { st [(F.PTP_DOM_STAT_STATE, 0, 3)] with ptp := { PtpState.reset with dom := AMap.empty.set 0 { PtpDom.reset with master := some 7, dreq := some 8000, dreqSeq := 3, syncDiff := some 65536 } } }, by decide +kernel⟩⟩

theorem witness_EventTimeNeverStepsUnasked :
    (∃ (v : Word) (s : Machine.State), F.PTP_ET_CFG_SEL.of v ≠ 3 ∧ 1 ≤ F.PTP_ET_CFG_SLEW_NS.of v ∧ F.PTP_ET_CFG_SLEW_NS.of v ≤ 10000) ∧
    (∃ (v : Word) (s : Machine.State), ((F.PTP_ET_CFG_SEL.of v = 3 ∨ F.PTP_ET_CFG_SLEW_NS.of v = 0 ∨ 10000 < F.PTP_ET_CFG_SLEW_NS.of v))) ∧
    (∃ (s : Machine.State), s.flag F.PTP_ET_STAT_PENDING 0 = true ∧ s.ptpState s.ptp.target = 3 ∧ s.ptp.target ≤ 1 ∧ s.etValid = true) ∧
    (∃ (s : Machine.State), s.ptp.resid ≠ 0 ∧ 1 ≤ s.fld F.PTP_ET_CFG_SLEW_NS 0) :=
  ⟨⟨F.PTP_ET_CFG_SLEW_NS.put 1 10000, State.reset, by decide +kernel⟩,
   ⟨F.PTP_ET_CFG_SLEW_NS.put 1 10001, State.reset, by decide +kernel⟩,
   ⟨{ st [(F.PTP_ET_STAT_PENDING, 0, 1), (F.PTP_ET_STAT_ET_VALID, 0, 1), (F.PTP_DOM_STAT_STATE, 1, 3)] with ptp := { PtpState.reset with dom := AMap.empty.set 1 { PtpDom.reset with time := 900 }, target := 1 } }, by decide +kernel⟩,
   ⟨{ st [(F.PTP_ET_CFG_SLEW_NS, 0, 1)] with ptp := { PtpState.reset with resid := 5 } }, by decide +kernel⟩⟩

theorem witness_TileMasterAndStampQueues :
    (∃ (p : Nat) (s : Machine.State), s.flag F.PTP_TILE_CFG_EN 0 = true ∧ p < 128 ∧ s.tileLinkUp p = true) ∧
    (∃ (p : Nat) (s : Machine.State), s.flag F.PTP_TILE_CFG_EN 0 = true ∧ p < 128 ∧ s.tileLinkUp p = true) ∧
    (∃ (p : Fin 128) (sender : Nat) (seq : BitVec 16) (s : Machine.State), s.flag F.PTP_TILE_CFG_EN 0 = true ∧ s.tileLinkUp p = true ∧ s.ptp.tileDreq < 64) ∧
    (∃ (p : Fin 128) (sender : Nat) (seq : BitVec 16) (s : Machine.State), s.flag F.PTP_TILE_CFG_EN 0 = true ∧ s.tileLinkUp p = true ∧ 64 ≤ s.ptp.tileDreq) ∧
    (∃ (m : Fin 8) (p : Fin 130) (tag : BitVec 16) (stamp : Nat) (q : List (BitVec 16 × Nat)) (s : Machine.State), s.tsQueue p = (tag, stamp) :: q) ∧
    (∃ (m : Fin 8) (p : Fin 130) (s : Machine.State), s.tsQueue p = []) :=
  ⟨⟨127, st [(F.PTP_TILE_CFG_EN, 0, 1), (F.LANE_CFG_RX_PROTO, 127, 4), (F.WSCAN_PORT_STAT_LINK_UP, 127, 1)], by decide +kernel⟩,
   ⟨127, st [(F.PTP_TILE_CFG_EN, 0, 1), (F.LANE_CFG_RX_PROTO, 127, 4), (F.WSCAN_PORT_STAT_LINK_UP, 127, 1)], by decide +kernel⟩,
   ⟨127, 77, 5, st [(F.PTP_TILE_CFG_EN, 0, 1), (F.LANE_CFG_RX_PROTO, 127, 4), (F.WSCAN_PORT_STAT_LINK_UP, 127, 1)], by decide +kernel⟩,
   ⟨127, 77, 5, { st [(F.PTP_TILE_CFG_EN, 0, 1), (F.LANE_CFG_RX_PROTO, 127, 4), (F.WSCAN_PORT_STAT_LINK_UP, 127, 1)] with ptp := { PtpState.reset with tileDreq := 64 } }, by decide +kernel⟩,
   ⟨0, 129, 0xBEEF, 123456789012, [], { State.reset with ptp := { PtpState.reset with tsq := AMap.empty.set 129 [(0xBEEF, 123456789012)] } }, by decide +kernel⟩,
   ⟨0, 129, State.reset, by decide +kernel⟩⟩

end Tests.Ptp

/-! ### Witnesses: lane -/

namespace Tests.Lane

theorem witness_LanesPllsAndReceivers :
    (∃ (n : Fin 128) (v : Word) (s : Machine.State), s.groupBase n = n ∧ Machine.laneCfgBad n v s = false ∧ (Machine.assignLane n v s).isSome = true) ∧
    (∃ (n : Fin 128) (v : Word) (s : Machine.State), s.groupBase n = n ∧ ((Machine.laneCfgBad n v s = true ∨ (Machine.assignLane n v s).isSome = false))) ∧
    (∃ (n : Fin 128) (v : Word) (s : Machine.State), s.groupBase n ≠ n) ∧
    (∃ (q : Fin 32) (k : Fin 3) (s : Machine.State), (s.quadOf q).phase k = .starting ∧ ((k.val < 2 ∨ s.fld F.LANE_QUAD_STAT_SPARE q ≠ 0))) ∧
    (∃ (q : Fin 32) (k : Fin 3) (s : Machine.State), (s.quadOf q).phase k = .locked) ∧
    (∃ (q : Fin 32) (s : Machine.State), (s.quadOf q).spare = .starting ∧ (((s.quadOf q).pll0 = .lost ∨ (s.quadOf q).pll1 = .lost))) ∧
    (∃ (q : Fin 32) (k : Fin 3) (s : Machine.State), (s.quadOf q).phase k = .lost ∧ (s.quadOf q).spare ≠ .starting ∧ ((s.fld F.VAULT_LG_HRS_STATE (198 + 3 * q + k) = 0 ∨ s.fld F.VAULT_LG_HRS_STATE (198 + 3 * q + k) = 2))) ∧
    (∃ (n : Fin 128) (rate : BitVec 4) (s : Machine.State), s.cdrMayLock n rate.toNat = true ∧ s.flag F.LANE_STAT_CDR_LOCK n = false) ∧
    (∃ (n : Fin 128) (s : Machine.State), (s.rxOf n).adapting = true) ∧
    (∃ (n : Fin 128) (s : Machine.State), (s.rxOf n).adapting = true) ∧
    (∃ (n : Fin 128) (v : Word) (s : Machine.State), s.flag F.LANE_STAT_CDR_LOCK n = true) ∧
    (∃ (n : Fin 128) (h : BitVec 8) (v : BitVec 8) (s : Machine.State), s.flag F.LANE_STAT_CDR_LOCK n = true) ∧
    (∃ (n : Fin 128) (s : Machine.State), s.flag F.LANE_STAT_LOS n = false) ∧
    (∃ (n : Fin 128) (s : Machine.State), s.flag F.LANE_STAT_CDR_LOCK n = true) ∧
    (∃ (n : Fin 128) (s : Machine.State), s.flag F.LANE_STAT_CDR_LOCK n = true ∧ s.flag F.LANE_STAT_LOS n = false) :=
  ⟨⟨127, 0, State.reset, by decide +kernel⟩,
   ⟨127, 0xFFFFFFFF, State.reset, by decide +kernel⟩,
   ⟨3, 0x1, st [(F.LANE_CFG_GROUP, 0, 2)], by decide +kernel⟩,
   ⟨31, 1, { State.reset with quad := AMap.empty.set 31 { QuadState.reset with pll1 := .starting } }, by decide +kernel⟩,
   ⟨31, 1, { st [(F.LANE_STAT_TX_PLL, 125, 1)] with quad := AMap.empty.set 31 { QuadState.reset with pll1 := .locked } }, by decide +kernel⟩,
   ⟨31, { st [(F.LANE_STAT_TX_PLL, 125, 1)] with quad := AMap.empty.set 31 { QuadState.reset with pll1 := .lost, spare := .starting } }, by decide +kernel⟩,
   ⟨31, 1, { State.reset with quad := AMap.empty.set 31 { QuadState.reset with pll1 := .lost } }, by decide +kernel⟩,
   ⟨127, 8, st [(F.LANE_CFG_RX_PROTO, 127, 1)], by decide +kernel⟩,
   ⟨127, { st [] with laneRx := AMap.empty.set 127 ⟨false, true, false⟩ }, by decide +kernel⟩,
   ⟨127, { st [] with laneRx := AMap.empty.set 127 ⟨false, true, false⟩ }, by decide +kernel⟩,
   ⟨127, 0, st [(F.LANE_STAT_CDR_LOCK, 127, 1)], by decide +kernel⟩,
   ⟨127, 12, 200, st [(F.LANE_STAT_CDR_LOCK, 127, 1)], by decide +kernel⟩,
   ⟨127, st [(F.LANE_STAT_CDR_LOCK, 127, 1), (F.LANE_STAT_LOS, 127, 0)], by decide +kernel⟩,
   ⟨127, st [(F.LANE_STAT_CDR_LOCK, 127, 1)], by decide +kernel⟩,
   ⟨127, st [(F.LANE_STAT_CDR_LOCK, 127, 1), (F.LANE_STAT_LOS, 127, 0)], by decide +kernel⟩⟩

end Tests.Lane

/-! ### Witnesses: ulink -/

namespace Tests.Ulink

theorem witness_UhlatCellsAreDelivered :
    (∃ (l : Fin 32) (r : CodewordResult) (s : Machine.State), 2 ≤ s.linkState l ∧ r.uncorrectable = true) ∧
    (∃ (l : Fin 32) (r : CodewordResult) (s : Machine.State), s.linkState l = 2 ∧ r.uncorrectable = false ∧ r.align = 0xB#4 ∧ r.seq.toNat = ((s.link l).lastSeq + 1) % 256 ∧ 2 ≤ (s.link l).good) ∧
    (∃ (l : Fin 32) (c : Cell) (s : Machine.State), 2 ≤ s.linkState l ∧ Machine.reservedCell c = true) ∧
    (∃ (l : Fin 32) (c : Cell) (s : Machine.State), s.linkUp l = true ∧ Machine.reservedCell c = false ∧ ((24 ≤ c.head.stream.toNat ∨ s.rxBound (24 * l + c.head.stream.toNat) = false))) ∧
    (∃ (l : Fin 32) (c : Cell) (k : Nat) (s : Machine.State), s.linkUp l = true ∧ Machine.reservedCell c = false ∧ c.head.stream.toNat < 24 ∧ k = 24 * l + c.head.stream.toNat ∧ s.rxBound k = true ∧ c.head.first = true ∧ (s.stream k).open_ = false) ∧
    (∃ (l : Fin 32) (c : Cell) (k : Nat) (s : Machine.State), s.linkUp l = true ∧ Machine.reservedCell c = false ∧ c.head.stream.toNat < 24 ∧ k = 24 * l + c.head.stream.toNat ∧ s.rxBound k = true ∧ c.head.first = false ∧ (s.stream k).open_ = true ∧ (s.stream k).waitStart = false ∧ (s.stream k).got.length + 8 = 124 * c.head.seq.toNat) ∧
    (∃ (l : Fin 32) (c : Cell) (k : Nat) (s : Machine.State), s.linkUp l = true ∧ Machine.reservedCell c = false ∧ c.head.stream.toNat < 24 ∧ k = 24 * l + c.head.stream.toNat ∧ s.rxBound k = true ∧ c.head.first = true) ∧
    (∃ (l : Fin 32) (c : Cell) (s : Machine.State), s.linkUp l = true ∧ Machine.reservedCell c = false) :=
  ⟨⟨31, ⟨0xB, 5, 0, true⟩, { st [(F.ULINK_STAT_STATE, 31, 2)] with ul := AMap.empty.set 31 { UlLink.reset with bad := 3 } }, by decide +kernel⟩,
   ⟨31, ⟨0xB, 0, 3, false⟩, { st [(F.ULINK_STAT_STATE, 31, 2)] with ul := AMap.empty.set 31 { UlLink.reset with good := 2, lastSeq := 255 } }, by decide +kernel⟩,
   ⟨31, ⟨⟨5, true, true, 0, 0, 0⟩, [4]⟩, { st [(F.ULINK_STAT_STATE, 31, 5)] with ul := AMap.empty.set 31 { UlLink.reset with good := 0 } }, by decide +kernel⟩,
   ⟨31, ⟨⟨1, true, true, 23, 0, 0⟩, [4]⟩, { st [(F.ULINK_STAT_STATE, 31, 5)] with ul := AMap.empty.set 31 { UlLink.reset with good := 0 } }, by decide +kernel⟩,
   ⟨31, ⟨⟨1, true, false, 23, 0, 0⟩, beBytes 2 1125 ++ beBytes 2 7 ++ beBytes 2 0x8000 ++ beBytes 2 5000 ++ List.replicate 116 7⟩, 767, { st [(F.ULINK_STAT_STATE, 31, 5), (F.ULINK_RXV_EN, 767, 1)] with ul := AMap.empty.set 31 { UlLink.reset with good := 0 } }, by decide +kernel⟩,
   ⟨31, ⟨⟨1, false, false, 23, 1, 0⟩, beBytes 2 1125 ++ beBytes 2 7 ++ beBytes 2 0x8000 ++ beBytes 2 5000 ++ List.replicate 116 7⟩, 767, { st [(F.ULINK_STAT_STATE, 31, 5), (F.ULINK_RXV_EN, 767, 1)] with ul := AMap.empty.set 31 { UlLink.reset with good := 0 }, ulRx := AMap.empty.set 767 { UlStream.reset with open_ := true, waitStart := false, bytes := 5000, got := List.replicate 116 3 } }, by decide +kernel⟩,
   ⟨31, ⟨⟨2, true, false, 23, 0, 0⟩, beBytes 2 1125 ++ beBytes 2 7 ++ beBytes 2 0x8000 ++ beBytes 2 5000 ++ List.replicate 116 7⟩, 767, { st [(F.ULINK_STAT_STATE, 31, 5), (F.ULINK_RXV_EN, 767, 1)] with ul := AMap.empty.set 31 { UlLink.reset with good := 0 } }, by decide +kernel⟩,
   ⟨31, ⟨⟨3, true, true, 0, 0, 0⟩, beBytes 2 0 ++ [2] ++ List.replicate 121 9⟩, { st [(F.ULINK_STAT_STATE, 31, 5), (F.ULINK_RXA_COUNT, 31, 1), (F.ULINK_RXA_ACH_BASE, 31, 6)] with ul := AMap.empty.set 31 { UlLink.reset with good := 0 } }, by decide +kernel⟩⟩

theorem witness_UhlatControlAndBringUp :
    (∃ (l : Fin 32) (m : MarkerMsg) (s : Machine.State), s.linkUp l = true) ∧
    (∃ (l : Fin 32) (m : HelloMsg) (s : Machine.State), 3 ≤ s.linkState l) ∧
    (∃ (l : Fin 32) (id : BitVec 16) (t1 : ET) (s : Machine.State), 3 ≤ s.linkState l) ∧
    (∃ (l : Fin 32) (t1 : ET) (t2 : ET) (t3 : ET) (h : List Int) (s : Machine.State), 4 ≤ s.linkState l ∧ h = ((Machine.etDiff s.et t1.toNat - Machine.etDiff t3.toNat t2.toNat) :: (s.link l).hops).take 8 ∧ h.length < 8) ∧
    (∃ (l : Fin 32) (t1 : ET) (t2 : ET) (t3 : ET) (h : List Int) (q : Int) (s : Machine.State), 4 ≤ s.linkState l ∧ s.linkState l ≤ 5 ∧ h = ((Machine.etDiff s.et t1.toNat - Machine.etDiff t3.toNat t2.toNat) :: (s.link l).hops).take 8 ∧ h.length = 8 ∧ h.foldl (· + ·) 0 = 16 * q ∧ 0 ≤ q ∧ q < 2 ^ 24) ∧
    (∃ (l : Fin 32) (msg : List Byte) (s : Machine.State), s.linkUp l = true) ∧
    (∃ (l : Fin 32) (s : Machine.State), 2 ≤ s.linkState l) ∧
    (∃ (l : Fin 32) (s : Machine.State), s.flag F.ULINK_STAT_MARK_OK l = true) ∧
    (∃ (l : Fin 32) (v : Word) (s : Machine.State), s.flag F.ULINK_CFG_EN l = false ∧ Machine.changes F.ULINK_CFG_AUD96 s l v = false ∧ s.laneUhlat (F.ULINK_CFG_LANE.of v) = true) ∧
    (∃ (l : Fin 32) (v : Word) (s : Machine.State), s.flag F.ULINK_CFG_EN l = true ∧ Machine.changes F.ULINK_CFG_LANE s l v = true) :=
  ⟨⟨31, ⟨3, 4, false, 2, 1000, 2000, 77⟩, { st [(F.ULINK_STAT_STATE, 31, 5)] with ul := AMap.empty.set 31 { UlLink.reset with marks := 1 } }, by decide +kernel⟩,
   ⟨31, ⟨2, 9, true, true, 33⟩, { st [(F.ULINK_STAT_STATE, 31, 3)] with ul := AMap.empty.set 31 { UlLink.reset with good := 0 } }, by decide +kernel⟩,
   ⟨31, 5, 100, { st [(F.ULINK_STAT_STATE, 31, 3)] with ul := AMap.empty.set 31 { UlLink.reset with good := 0 } }, by decide +kernel⟩,
   ⟨31, 0, 10, 20, [-10, 1], { st [(F.ULINK_STAT_STATE, 31, 4)] with ul := AMap.empty.set 31 { UlLink.reset with hops := [1] } }, by decide +kernel⟩,
   ⟨31, 2 ^ 48 - 300, 10, 20, [290, 30, 30, 30, 30, 30, 30, 10], 30, { st [(F.ULINK_STAT_STATE, 31, 4)] with ul := AMap.empty.set 31 { UlLink.reset with hops := [30, 30, 30, 30, 30, 30, 10] } }, by decide +kernel⟩,
   ⟨31, List.replicate 124 1, { st [(F.ULINK_STAT_STATE, 31, 5)] with ul := AMap.empty.set 31 { UlLink.reset with mail := [[1], [2], [3], [4]] } }, by decide +kernel⟩,
   ⟨31, { st [(F.ULINK_STAT_STATE, 31, 2)] with ul := AMap.empty.set 31 { UlLink.reset with good := 0 } }, by decide +kernel⟩,
   ⟨31, { st [(F.ULINK_STAT_STATE, 31, 5), (F.ULINK_STAT_MARK_OK, 31, 1)] with ul := AMap.empty.set 31 { UlLink.reset with good := 0 } }, by decide +kernel⟩,
   ⟨31, F.ULINK_CFG_LANE.put 1 127, st [(F.LANE_CFG_RX_PROTO, 127, 3), (F.LANE_CFG_TX_PROTO, 127, 3), (F.LANE_CFG_RX_RATE, 127, 11), (F.LANE_CFG_TX_RATE, 127, 11)], by decide +kernel⟩,
   ⟨31, F.ULINK_CFG_LANE.put 1 127, st [(F.ULINK_CFG_EN, 31, 1)], by decide +kernel⟩⟩

theorem witness_UhlatSendsAndAdmits :
    (∃ (l : Fin 32) (f : Int) (p : List Byte) (s : Machine.State), (Machine.gather l s).linkUp l = true ∧ (Machine.gather l s).markerDue l = some (f, p)) ∧
    (∃ (l : Fin 32) (s : Machine.State), 4 ≤ s.linkState l ∧ (((Machine.gather l s).linkUp l = false ∨ (Machine.gather l s).markerDue l = none)) ∧ ((Machine.gather l s).link l).echoReqDue = true) ∧
    (∃ (l : Fin 32) (s : Machine.State), s.linkState l = 2 ∧ (s.link l).echoDue = []) ∧
    (∃ (l : Fin 32) (s : Machine.State), 4 ≤ s.linkState l) ∧
    (∃ (l : Fin 32) (s : Machine.State), 3 ≤ s.linkState l) ∧
    (∃ (k : Fin 768) (v : Word) (l : Nat) (s : Machine.State), l = k / 24 ∧ F.ULINK_TXV_ANC_CELLS.of v ≤ 32 ∧ ((F.ULINK_TXV_EN.of v = 1 → s.voutTaken (F.ULINK_TXV_VOUT.of v) k = false ∧ Machine.loadFits (s.linkLoad l (fun j => if j = k.val then v else s.reg .ULINK_TXV j) (s.fld F.ULINK_TXA_COUNT l) (s.flag F.ULINK_CFG_AUD96 l)) = true))) ∧
    (∃ (k : Fin 768) (v : Word) (l : Nat) (s : Machine.State), l = k / 24 ∧ F.ULINK_TXV_EN.of v = 1 ∧ ((s.voutTaken (F.ULINK_TXV_VOUT.of v) k = true ∨ Machine.loadFits (s.linkLoad l (fun j => if j = k.val then v else s.reg .ULINK_TXV j) (s.fld F.ULINK_TXA_COUNT l) (s.flag F.ULINK_CFG_AUD96 l)) = false))) ∧
    (∃ (l : Fin 32) (v : Word) (s : Machine.State), Machine.audCountOk (F.ULINK_TXA_COUNT.of v) (s.flag F.ULINK_CFG_AUD96 l) = true ∧ Machine.loadFits (s.linkLoad l (fun k => s.reg .ULINK_TXV k) (F.ULINK_TXA_COUNT.of v) (s.flag F.ULINK_CFG_AUD96 l)) = true) ∧
    (∃ (l : Fin 32) (v : Word) (s : Machine.State), Machine.changes F.ULINK_CFG_AUD96 s l v = true ∧ Machine.loadFits (s.linkLoad l (fun k => s.reg .ULINK_TXV k) (s.fld F.ULINK_TXA_COUNT l) (decide (F.ULINK_CFG_AUD96.of v = 1))) = false) ∧
    (∃ (l : Fin 32) (v : Word) (s : Machine.State), F.ULINK_CFG_EN.of v = s.fld F.ULINK_CFG_EN l ∧ Machine.changes F.ULINK_CFG_LANE s l v = false ∧ Machine.loadFits (s.linkLoad l (fun k => s.reg .ULINK_TXV k) (s.fld F.ULINK_TXA_COUNT l) (decide (F.ULINK_CFG_AUD96.of v = 1))) = true ∧ s.fld F.ULINK_TXA_COUNT l ≤ 512 ∧ s.fld F.ULINK_RXA_COUNT l ≤ 512 ∧ s.mayFeed (Machine.linkFeed l (s.reg .ULINK_RXA l) (decide (F.ULINK_CFG_AUD96.of v = 1))) = true) ∧
    (∃ (l : Fin 32) (v : Word) (s : Machine.State), s.flag F.ULINK_MB_CTL_TX_BUSY l = false ∧ 1 ≤ F.ULINK_MB_CTL_LEN.of v ∧ F.ULINK_MB_CTL_LEN.of v ≤ 122 ∧ F.ULINK_MB_CTL_POP.of v = 0) ∧
    (∃ (l : Fin 32) (v : Word) (s : Machine.State), s.flag F.ULINK_MB_CTL_TX_BUSY l = true) ∧
    (∃ (l : Fin 32) (v : Word) (s : Machine.State), F.ULINK_MB_CTL_SEND.of v = 0 ∧ (s.link l).mail.length ≤ 4) :=
  ⟨⟨31, 2, [0, 0xE4, 0, 0, 0, 0, 0, 0, 0, 0, 1, 0xFC, 0xA0, 0x57, 0, 0, 0, 1], { st [(F.ULINK_STAT_STATE, 31, 5), (F.ULINK_CFG_MARK_EN, 31, 1), (F.ULINK_CFG_MARK_TD, 31, 7), (F.REF_TD_CFG_EN, 7, 1), (F.ULINK_CFG_LANE, 31, 127), (F.REF_TD_CFG_RATE, 7, 4)] with ul := AMap.empty.set 31 { UlLink.reset with good := 0 }, td := AMap.empty.set 7 { TdState.reset with last := some ⟨1, 2, 3, 4⟩ } }, by decide +kernel⟩,
   ⟨31, { st [(F.ULINK_STAT_STATE, 31, 4)] with ul := AMap.empty.set 31 { UlLink.reset with echoReqDue := true } }, by decide +kernel⟩,
   ⟨31, { st [(F.ULINK_STAT_STATE, 31, 2), (F.ULINK_CFG_LANE, 31, 127)] with ul := AMap.empty.set 31 { UlLink.reset with good := 0 } }, by decide +kernel⟩,
   ⟨31, { st [(F.ULINK_STAT_STATE, 31, 4)] with ul := AMap.empty.set 31 { UlLink.reset with echoId := 0xFFFF } }, by decide +kernel⟩,
   ⟨31, { st [(F.ULINK_STAT_STATE, 31, 3)] with ul := AMap.empty.set 31 { UlLink.reset with good := 0 } }, by decide +kernel⟩,
   ⟨767, 0x802003FF, 31, State.reset, by decide +kernel⟩,
   ⟨767, 0x800003FF, 31, st [(F.ULINK_TXV_EN, 0, 1), (F.ULINK_TXV_VOUT, 0, 1023)], by decide +kernel⟩,
   ⟨31, 0x04000005, State.reset, by decide +kernel⟩,
   ⟨31, F.ULINK_CFG_AUD96.put 0 1, st [(F.ULINK_TXV_EN, 744, 1), (F.ULINK_TXV_EN, 745, 1), (F.ULINK_TXV_EN, 746, 1), (F.XPT_VOUT_CFG_FMT, 0, 0xD9)], by decide +kernel⟩,
   ⟨31, F.ULINK_CFG_AUD96.put 0 1, st [(F.ULINK_TXA_COUNT, 31, 512)], by decide +kernel⟩,
   ⟨31, 122, State.reset, by decide +kernel⟩,
   ⟨31, 0x101, st [(F.ULINK_MB_CTL_TX_BUSY, 31, 1)], by decide +kernel⟩,
   ⟨31, 0x200, { st [(F.ULINK_STAT_STATE, 31, 5), (F.ULINK_MB_CTL_RX_CNT, 31, 4)] with ul := AMap.empty.set 31 { UlLink.reset with mail := [[1], [2], [3], [4]] } }, by decide +kernel⟩⟩

end Tests.Ulink

/-! ### Witnesses: sdi -/

namespace Tests.Sdi

theorem witness_DeframersReceiveLines :
    (∃ (n : Fin 128) (v : Word) (s : Machine.State), s.quadRx n = false ∧ s.flag F.SDI_RX_CFG_EN n = false ∧ s.rxMayEnable n (v ||| 1#32) = true) ∧
    (∃ (n : Fin 128) (v : Word) (s : Machine.State), s.quadRx n = false ∧ s.flag F.SDI_RX_CFG_EN n = false ∧ s.rxMayEnable n (v ||| 1#32) = false) ∧
    (∃ (n : Fin 128) (v : Word) (s : Machine.State), s.quadRx n = true) ∧
    (∃ (n : Fin 128) (v : Word) (s : Machine.State), s.quadRx n = false ∧ s.flag F.SDI_RX_CFG_EN n = true ∧ (v ^^^ s.reg .SDI_RX_CFG n) &&& 0x03FFFFFE#32 = 0) ∧
    (∃ (n : Fin 128) (l : SdiLine) (s : Machine.State), s.flag F.SDI_RX_CFG_EN n = true ∧ s.sdiRxState n ≠ 0 ∧ ((l.second = true → s.fld F.SDI_RX_CFG_MAP n = 2)) ∧ 2 ≤ Machine.fmtRaster (s.rxFmt n l.second)) ∧
    (∃ (n : Fin 128) (l : SdiLine) (s : Machine.State), ((s.flag F.SDI_RX_CFG_EN n = false ∨ s.sdiRxState n = 0 ∨ l.second = true ∧ s.fld F.SDI_RX_CFG_MAP n ≠ 2))) :=
  ⟨⟨127, 67084288, st [(F.LANE_CFG_RX_RATE, 127, 1), (F.LANE_CFG_RX_PROTO, 127, 1)], by decide +kernel⟩,
   ⟨127, 67084294, st [(F.LANE_CFG_RX_RATE, 127, 1), (F.LANE_CFG_RX_PROTO, 127, 1)], by decide +kernel⟩,
   ⟨127, 1, st [(F.SDI_RX_CFG_EN, 124, 1), (F.SDI_RX_CFG_MAP, 124, 3)], by decide +kernel⟩,
   ⟨127, 67084289, st [(F.SDI_RX_CFG_EN, 127, 1), (F.SDI_RX_CFG_FMT, 127, 160), (F.SDI_RX_CFG_VIN, 127, 1023), (F.SDI_RX_STAT_STATE, 127, 2)], by decide +kernel⟩,
   ⟨127, ⟨false, 1125, 50, 0, 0, 0, false, 1125, 1, false, 0, [], none, [], [], none⟩, st [(F.SDI_RX_CFG_EN, 127, 1), (F.SDI_RX_CFG_FMT, 127, 160), (F.SDI_RX_CFG_VIN, 127, 1023), (F.SDI_RX_STAT_STATE, 127, 1)], by decide +kernel⟩,
   ⟨127, ⟨false, 1125, 50, 0, 0, 0, false, 1125, 1, false, 0, [], none, [], [], none⟩, State.reset, by decide +kernel⟩⟩

theorem witness_FramersSendLines :
    (∃ (n : Fin 128) (v : Word) (s : Machine.State), s.quadTx n = false ∧ s.flag F.SDI_TX_CFG_EN n = false ∧ F.SDI_TX_CFG_PID_MODE.of v ≠ 3 ∧ s.txMayEnable n (v ||| 1#32) = true) ∧
    (∃ (n : Fin 128) (v : Word) (s : Machine.State), s.quadTx n = false ∧ s.flag F.SDI_TX_CFG_EN n = false ∧ s.txMayEnable n (v ||| 1#32) = false) ∧
    (∃ (n : Fin 128) (v : Word) (s : Machine.State), s.quadTx n = false ∧ s.flag F.SDI_TX_CFG_EN n = true ∧ (v ^^^ s.reg .SDI_TX_CFG n) &&& 0x03FFFF7E#32 = 0 ∧ F.SDI_TX_CFG_PID_MODE.of v ≠ 3) ∧
    (∃ (n : Fin 128) (s : Machine.State), s.flag F.SDI_TX_CFG_EN n = true ∧ s.flag F.SDI_TX_CFG_IDLE n = true ∧ (s.routes (s.txVout n false)).committed = none ∧ s.sdi.stopping.contains n.val = false) ∧
    (∃ (n : Fin 128) (s : Machine.State), s.flag F.SDI_TX_CFG_EN n = true ∧ ((s.flag F.SDI_TX_CFG_IDLE n = false ∨ (s.routes (s.txVout n false)).committed ≠ none)) ∧ s.sdi.stopping.contains n.val = false) ∧
    (∃ (n : Fin 128) (line : Nat) (s : Machine.State), s.flag F.SDI_TX_CFG_EN n = true ∧ s.flag F.SDI_TX_STAT_RUNNING n = true ∧ line ≠ 1 ∧ s.sdi.stopping.contains n.val = false) ∧
    (∃ (n : Fin 128) (s : Machine.State), s.flag F.SDI_TX_CFG_EN n = false ∧ s.sdi.stopping.contains n.val = true ∧ s.flag F.SDI_TX_STAT_RUNNING n = true) :=
  ⟨⟨127, 67084288, { st [(F.LANE_CFG_TX_RATE, 127, 1), (F.REF_TD_CFG_RATE, 7, 1), (F.REF_TD_LINES_TOTAL_LINES, 7, 1125), (F.CUE_THR_CFG_TD, 9, 7)] with owner := AMap.empty.set 1023 9 }, by decide +kernel⟩,
   ⟨127, 67084288, st [(F.LANE_CFG_TX_RATE, 127, 1), (F.REF_TD_CFG_RATE, 7, 1), (F.REF_TD_LINES_TOTAL_LINES, 7, 1125), (F.CUE_THR_CFG_TD, 9, 7)], by decide +kernel⟩,
   ⟨127, 1, st [(F.SDI_TX_CFG_EN, 127, 1), (F.SDI_TX_STAT_RUNNING, 127, 1)], by decide +kernel⟩,
   ⟨127, st [(F.SDI_TX_CFG_EN, 127, 1), (F.SDI_TX_CFG_IDLE, 127, 1)], by decide +kernel⟩,
   ⟨127, st [(F.SDI_TX_CFG_EN, 127, 1), (F.SDI_TX_CFG_FMT, 127, 160)], by decide +kernel⟩,
   ⟨127, 1125, st [(F.SDI_TX_CFG_EN, 127, 1), (F.SDI_TX_CFG_FMT, 127, 160), (F.SDI_TX_STAT_RUNNING, 127, 1)], by decide +kernel⟩,
   ⟨127, { st [(F.SDI_TX_CFG_FMT, 127, 160), (F.SDI_TX_STAT_RUNNING, 127, 1)] with sdi := { SdiState.reset with stopping := [127] } }, by decide +kernel⟩⟩

end Tests.Sdi

/-! ### Witnesses: flow -/

namespace Tests.Flow

/-- A Flow Table with one entry word at each INDEX of a list. -/
def flowAtAll (l : List Nat) (e : Nat) : AMap Nat := l.foldl (fun m i => m.set i e) .empty

/-- The four candidates of a key. -/
def cand (k : Nat) : List Nat := (List.range 4).map (fun w => flowIndex w k)

theorem witness_FlowTableInserts :
    (∃ (v : Word) (s : Machine.State), s.flow.cmds.length < 64) ∧
    (∃ (v : Word) (s : Machine.State), 64 ≤ s.flow.cmds.length) ∧
    (∃ (c : Nat × Nat) (rest : List (Nat × Nat)) (i : Nat) (s : Machine.State), s.flow.cmds = c :: rest ∧ Machine.cmdOp c = 1 ∧ s.flow.results.length < 64 ∧ s.flowFind (Machine.entryKey c.2) = some i) ∧
    (∃ (c : Nat × Nat) (rest : List (Nat × Nat)) (i : Nat) (s : Machine.State), s.flow.cmds = c :: rest ∧ Machine.cmdOp c = 1 ∧ s.flow.results.length < 64 ∧ s.flowFind (Machine.entryKey c.2) = none ∧ ((List.range 4).map (fun w => Machine.flowIndex w (Machine.entryKey c.2))).find? (fun i => !Machine.entryValid (s.flowAt i)) = some i) ∧
    (∃ (c : Nat × Nat) (rest : List (Nat × Nat)) (w : Nat) (j : Nat) (s : Machine.State), s.flow.cmds = c :: rest ∧ Machine.cmdOp c = 1 ∧ s.flow.results.length < 64 ∧ s.flowFind (Machine.entryKey c.2) = none ∧ ((∀ x, x < 4 → Machine.entryValid (s.flowAt (Machine.flowIndex x (Machine.entryKey c.2))) = true)) ∧ s.flowMovable (Machine.entryKey c.2) = some (w, j)) ∧
    (∃ (c : Nat × Nat) (rest : List (Nat × Nat)) (s : Machine.State), s.flow.cmds = c :: rest ∧ Machine.cmdOp c = 1 ∧ s.flow.results.length < 64 ∧ s.flowFind (Machine.entryKey c.2) = none ∧ ((∀ x, x < 4 → Machine.entryValid (s.flowAt (Machine.flowIndex x (Machine.entryKey c.2))) = true)) ∧ s.flowMovable (Machine.entryKey c.2) = none) :=
  ⟨⟨0x1, st [(F.FLOW_Q_CMD_OP, 0, 1)], by decide +kernel⟩,
   ⟨0x1, { State.reset with flow := { FlowState.reset with cmds := List.replicate 64 (1, 1) } }, by decide +kernel⟩,
   ⟨(1, 7 * 2 ^ 28 + 1), [(5, 0)], flowIndex 3 7, { st [] with flow := { FlowState.reset with cmds := [(1, 7 * 2 ^ 28 + 1), (5, 0)], table := flowAtAll [flowIndex 3 7] (7 * 2 ^ 28 + 1) } }, by decide +kernel⟩,
   ⟨(1, 7 * 2 ^ 28 + 1), [(5, 0)], flowIndex 0 7, { st [] with flow := { FlowState.reset with cmds := [(1, 7 * 2 ^ 28 + 1), (5, 0)], table := AMap.empty } }, by decide +kernel⟩,
   ⟨(1, 7 * 2 ^ 28 + 1), [(5, 0)], 0, flowIndex 1 9, { st [] with flow := { FlowState.reset with cmds := [(1, 7 * 2 ^ 28 + 1), (5, 0)], table := flowAtAll (cand 7) (9 * 2 ^ 28 + 1) } }, by decide +kernel⟩,
   ⟨(1, 7 * 2 ^ 28 + 1), [(5, 0)], { st [] with flow := { FlowState.reset with cmds := [(1, 7 * 2 ^ 28 + 1), (5, 0)], table := flowAtAll (cand 7 ++ cand 9) (9 * 2 ^ 28 + 1) } }, by decide +kernel⟩⟩

theorem witness_FlowTableAnswersAndAges :
    (∃ (c : Nat × Nat) (rest : List (Nat × Nat)) (s : Machine.State), s.flow.cmds = c :: rest ∧ Machine.cmdOp c = 2 ∧ s.flow.results.length < 64) ∧
    (∃ (c : Nat × Nat) (rest : List (Nat × Nat)) (s : Machine.State), s.flow.cmds = c :: rest ∧ Machine.cmdOp c = 3 ∧ s.flow.results.length < 64) ∧
    (∃ (c : Nat × Nat) (rest : List (Nat × Nat)) (s : Machine.State), s.flow.cmds = c :: rest ∧ Machine.cmdOp c = 4 ∧ s.flow.results.length < 64) ∧
    (∃ (c : Nat × Nat) (rest : List (Nat × Nat)) (s : Machine.State), s.flow.cmds = c :: rest ∧ Machine.cmdOp c = 5 ∧ s.flow.results.length < 64) ∧
    (∃ (c : Nat × Nat) (rest : List (Nat × Nat)) (s : Machine.State), s.flow.cmds = c :: rest ∧ ((Machine.cmdOp c = 0 ∨ 5 < Machine.cmdOp c)) ∧ s.flow.results.length < 64) ∧
    (∃ (m : Fin 8) (r : Machine.FlowRes) (rest : List Machine.FlowRes) (s : Machine.State), s.flow.results = r :: rest) ∧
    (∃ (m : Fin 8) (s : Machine.State), s.flow.results = []) ∧
    (∃ (s : Machine.State), s.flow.table.keys.Nodup ∧ s.fld F.FLOW_CFG_AGE_PERIOD 0 ≠ 0) ∧
    (∃ (s : Machine.State), s.fld F.FLOW_CFG_AGE_PERIOD 0 = 0) :=
  ⟨⟨(2, 7 * 2 ^ 28 + 1), [(5, 0)], { st [] with flow := { FlowState.reset with cmds := [(2, 7 * 2 ^ 28 + 1), (5, 0)], table := flowAtAll [flowIndex 3 7] (7 * 2 ^ 28 + 1) } }, by decide +kernel⟩,
   ⟨(3, 7 * 2 ^ 28 + 1), [(5, 0)], { st [] with flow := { FlowState.reset with cmds := [(3, 7 * 2 ^ 28 + 1), (5, 0)], table := flowAtAll [flowIndex 3 7] (7 * 2 ^ 28 + 1) } }, by decide +kernel⟩,
   ⟨(8388596, 7 * 2 ^ 28 + 1), [(5, 0)], { st [] with flow := { FlowState.reset with cmds := [(8388596, 7 * 2 ^ 28 + 1), (5, 0)], table := flowAtAll [524287] 12345 } }, by decide +kernel⟩,
   ⟨(5, 7 * 2 ^ 28 + 1), [(5, 0)], { st [] with flow := { FlowState.reset with cmds := [(5, 7 * 2 ^ 28 + 1), (5, 0)], table := flowAtAll [flowIndex 3 7] (7 * 2 ^ 28 + 1) } }, by decide +kernel⟩,
   ⟨(7, 7 * 2 ^ 28 + 1), [(5, 0)], { st [] with flow := { FlowState.reset with cmds := [(7, 7 * 2 ^ 28 + 1), (5, 0)], table := AMap.empty } }, by decide +kernel⟩,
   ⟨7, ⟨5, 9⟩, [⟨6, 0⟩], { State.reset with flow := { FlowState.reset with results := [⟨5, 9⟩, ⟨6, 0⟩] } }, by decide +kernel⟩,
   ⟨7, State.reset, by decide +kernel⟩,
   ⟨{ st [(F.FLOW_CFG_AGE_PERIOD, 0, 1)] with flow := { FlowState.reset with table := (AMap.empty.set 5 (4 * 2 ^ 28 + 2 ^ 12 + 2 ^ 10 + 1)).set 524287 (3 * 2 ^ 28 + 2 ^ 12 + 1) } }, by decide +kernel⟩,
   ⟨st [(F.FLOW_CFG_AGE_PERIOD, 0, 0)], by decide +kernel⟩⟩

end Tests.Flow

/-! ### Witnesses: mport -/

namespace Tests.Mport

/-- A PAUSE frame of 65,535 quanta. -/
def pauseFrame : MediaFrame := ⟨⟨[1, 128, 194, 0, 0, 1, 0, 0, 0, 0, 0, 2, 136, 8, 0, 1, 255, 255] ++ List.replicate 42 0 ++ [197, 88, 96, 182], false⟩, 0, 0, [], []⟩

/-- A UDP packet to 239.0.0.1, port 5004. -/
def udpFrame : MediaFrame := ⟨⟨[1, 0, 94, 0, 0, 1, 0, 0, 0, 0, 0, 2, 8, 0, 69, 0, 0, 36, 0, 0, 0, 0, 64, 17, 129, 199, 10, 0, 0, 1, 239, 0, 0, 1, 19, 136, 19, 140, 0, 16] ++ List.replicate 20 0 ++ [169, 217, 114, 120], false⟩, 0, 0, [], []⟩

/-- A unicast frame that no rule takes. -/
def plainFrame : MediaFrame := ⟨⟨[0, 0, 0, 0, 0, 6, 0, 0, 0, 0, 0, 2, 18, 52] ++ List.replicate 46 0 ++ [31, 179, 190, 6], false⟩, 0, 0, [], []⟩

/-- A broadcast frame. -/
def bcastFrame : MediaFrame := ⟨⟨[255, 255, 255, 255, 255, 255, 0, 0, 0, 0, 0, 2, 18, 52] ++ List.replicate 46 0 ++ [104, 4, 101, 140], false⟩, 0, 0, [], []⟩

theorem witness_MediaPortsAndLinks :
    (∃ (p : Fin 128) (v : Word) (s : Machine.State), s.flag F.MPORT_CFG_EN p = false ∧ s.portLaneOk (F.MPORT_CFG_LANE.of v) = true ∧ ((∀ q, q < 128 → q ≠ p → s.flag F.MPORT_CFG_EN q = true → s.portLane q ≠ F.MPORT_CFG_LANE.of v)) ∧ ((F.MPORT_CFG_JUMBO.of v = 0 ∨ s.flag F.MPORT_HRX_CFG_SLOT p = true ∧ s.flag F.MPORT_HTX_CFG_SLOT p = true))) ∧
    (∃ (p : Fin 128) (v : Word) (s : Machine.State), s.flag F.MPORT_CFG_EN p = false ∧ ((s.portLaneOk (F.MPORT_CFG_LANE.of v) = false ∨ (∃ q, q < 128 ∧ q ≠ p ∧ s.flag F.MPORT_CFG_EN q = true ∧ s.portLane q = F.MPORT_CFG_LANE.of v) ∨ F.MPORT_CFG_JUMBO.of v = 1 ∧ (s.flag F.MPORT_HRX_CFG_SLOT p = false ∨ s.flag F.MPORT_HTX_CFG_SLOT p = false)))) ∧
    (∃ (p : Fin 128) (v : Word) (s : Machine.State), s.flag F.MPORT_CFG_EN p = true ∧ s.portNamed p = false ∧ F.MPORT_CFG_LANE.of v = s.portLane p ∧ F.MPORT_CFG_RSFEC.of v = s.fld F.MPORT_CFG_RSFEC p ∧ F.MPORT_CFG_JUMBO.of v = s.fld F.MPORT_CFG_JUMBO p) ∧
    (∃ (p : Fin 128) (v : Word) (s : Machine.State), s.flag F.MPORT_CFG_EN p = true ∧ s.portNamed p = true) ∧
    (∃ (p : Fin 128) (s : Machine.State), s.flag F.MPORT_STAT_LINK_UP p = true) ∧
    (∃ (p : Fin 128) (s : Machine.State), s.flag F.MPORT_CFG_EN p = true) ∧
    (∃ (p : Fin 128) (s : Machine.State), s.flag F.MPORT_STAT_PAUSED p = true) :=
  ⟨⟨127, F.MPORT_CFG_LANE.put 1 126, st [(F.LANE_CFG_RX_PROTO, 126, 2), (F.LANE_CFG_TX_PROTO, 126, 2)], by decide +kernel⟩,
   ⟨127, F.MPORT_CFG_LANE.put 0x101 126, st [(F.LANE_CFG_RX_PROTO, 126, 2), (F.LANE_CFG_TX_PROTO, 126, 2), (F.MPORT_HRX_CFG_SLOT, 127, 1)], by decide +kernel⟩,
   ⟨127, F.MPORT_CFG_LANE.put 0 126, st [(F.MPORT_CFG_EN, 127, 1), (F.MPORT_CFG_LANE, 127, 126), (F.MPORT_STAT_LINK_UP, 127, 1)], by decide +kernel⟩,
   ⟨127, 0, st [(F.MPORT_CFG_EN, 127, 1), (F.MPORT_CFG_LANE, 127, 126), (F.MPORT_STAT_LINK_UP, 127, 1), (F.MPORT_RXC_CFG_EN, 4095, 1), (F.MPORT_RXC_CFG_PORT, 4095, 127)], by decide +kernel⟩,
   ⟨127, st [(F.MPORT_CFG_EN, 127, 1), (F.MPORT_CFG_LANE, 127, 126), (F.MPORT_STAT_LINK_UP, 127, 1)], by decide +kernel⟩,
   ⟨127, st [(F.MPORT_CFG_EN, 127, 1)], by decide +kernel⟩,
   ⟨127, { st [(F.MPORT_STAT_PAUSED, 127, 1)] with mport := { MportState.reset with pause := AMap.empty.set 127 900 } }, by decide +kernel⟩⟩

theorem witness_MediaFramesAreClassified :
    (∃ (p : Fin 128) (f : MediaFrame) (s : Machine.State), s.portUp p = false) ∧
    (∃ (p : Fin 128) (f : MediaFrame) (s : Machine.State), s.portUp p = true ∧ f.eth.fault (s.flag F.MPORT_CFG_JUMBO p) ≠ 0) ∧
    (∃ (p : Fin 128) (f : MediaFrame) (q : Nat) (s : Machine.State), s.portUp p = true ∧ f.eth.fault (s.flag F.MPORT_CFG_JUMBO p) = 0 ∧ f.eth.pause = some q ∧ q ≠ 0) ∧
    (∃ (p : Fin 128) (f : MediaFrame) (x : IpPacket) (i : Nat) (s : Machine.State), s.portUp p = true ∧ f.eth.fault (s.flag F.MPORT_CFG_JUMBO p) = 0 ∧ f.eth.pause = none ∧ s.ptpPlaces p = [] ∧ f.eth.ip = some x ∧ x.sumOk = true ∧ x.udp = true ∧ x.fragment = false ∧ x.udpLenOk = true ∧ f.ecc = [] ∧ s.flag F.FLOW_STAT_INIT_DONE 0 = true ∧ s.flowFind (Machine.flowKey x.dst x.src x.dport p f.eth.tagged f.eth.vid) = some i) ∧
    (∃ (p : Fin 128) (f : MediaFrame) (s : Machine.State), s.portUp p = true ∧ f.eth.fault (s.flag F.MPORT_CFG_JUMBO p) = 0 ∧ f.eth.pause = none ∧ s.ptpPlaces p = [] ∧ f.eth.ip = none ∧ ((f.eth.dst = 0xFFFFFFFFFFFF → s.flag F.MPORT_CFG_HOST_BCAST p = false)) ∧ s.flag F.MPORT_CFG_HOST_UCAST p = false ∧ s.flag F.MPORT_CFG_HOST_LL p = false) ∧
    (∃ (p : Fin 128) (f : MediaFrame) (head : Nat) (base : Nat) (s : Machine.State), s.portUp p = true ∧ f.eth.fault (s.flag F.MPORT_CFG_JUMBO p) = 0 ∧ f.eth.pause = none ∧ s.ptpPlaces p = [] ∧ f.eth.ip = none ∧ f.eth.dst = 0xFFFFFFFFFFFF ∧ s.flag F.MPORT_CFG_HOST_BCAST p = true ∧ head = s.fld F.MPORT_HRX_HEAD_IDX p ∧ (head + 1) % 2 ^ s.fld F.MPORT_HRX_CFG_SIZE p ≠ s.fld F.MPORT_HRX_TAIL_IDX p ∧ s.fld F.MPORT_HRX_CFG_SIZE p ≤ 12 ∧ base = s.fld F.MPORT_HRX_CFG_BASE_HI p * 2 ^ 32 + s.fld F.MPORT_HRX_BASE_LO_BASE p * 64 + head * (if s.flag F.MPORT_HRX_CFG_SLOT p then 10240 else 2048) ∧ s.mem.wf = true) ∧
    (∃ (p : Fin 128) (f : MediaFrame) (s : Machine.State), s.portUp p = true ∧ f.eth.fault (s.flag F.MPORT_CFG_JUMBO p) = 0 ∧ f.eth.pause = none ∧ s.ptpPlaces p = [] ∧ f.eth.ip = none ∧ f.eth.dst = 0xFFFFFFFFFFFF ∧ s.flag F.MPORT_CFG_HOST_BCAST p = true ∧ (s.fld F.MPORT_HRX_HEAD_IDX p + 1) % 2 ^ s.fld F.MPORT_HRX_CFG_SIZE p = s.fld F.MPORT_HRX_TAIL_IDX p) :=
  ⟨⟨127, ⟨⟨[], false⟩, 0, 0, [], []⟩, State.reset, by decide +kernel⟩,
   ⟨127, ⟨⟨List.replicate 64 0, false⟩, 0, 0, [], []⟩, st [(F.MPORT_CFG_EN, 127, 1), (F.MPORT_CFG_LANE, 127, 126), (F.MPORT_STAT_LINK_UP, 127, 1)], by decide +kernel⟩,
   ⟨127, pauseFrame, 65535, st [(F.MPORT_CFG_EN, 127, 1), (F.MPORT_CFG_LANE, 127, 126), (F.MPORT_STAT_LINK_UP, 127, 1)], by decide +kernel⟩,
   ⟨127, udpFrame, ⟨20, 36, true, false, 17, 0x0A000001, 0xEF000001, beBytes 2 5000 ++ beBytes 2 5004 ++ beBytes 2 16 ++ beBytes 10 0⟩, flowIndex 2 (flowKey 0xEF000001 0x0A000001 5004 127 false 0), { st [(F.MPORT_CFG_EN, 127, 1), (F.MPORT_CFG_LANE, 127, 126), (F.MPORT_STAT_LINK_UP, 127, 1), (F.FLOW_STAT_INIT_DONE, 0, 1)] with flow := { FlowState.reset with table := AMap.empty.set (flowIndex 2 (flowKey 0xEF000001 0x0A000001 5004 127 false 0)) (flowKey 0xEF000001 0x0A000001 5004 127 false 0 * 2 ^ 28 + 1) } }, by decide +kernel⟩,
   ⟨127, plainFrame, st [(F.MPORT_CFG_EN, 127, 1), (F.MPORT_CFG_LANE, 127, 126), (F.MPORT_STAT_LINK_UP, 127, 1)], by decide +kernel⟩,
   ⟨127, bcastFrame, 3, 8192 + 3 * 2048, st [(F.MPORT_CFG_EN, 127, 1), (F.MPORT_CFG_LANE, 127, 126), (F.MPORT_STAT_LINK_UP, 127, 1), (F.MPORT_CFG_HOST_BCAST, 127, 1), (F.MPORT_HRX_HEAD_IDX, 127, 3), (F.MPORT_HRX_BASE_LO_BASE, 127, 128)], by decide +kernel⟩,
   ⟨127, bcastFrame, st [(F.MPORT_CFG_EN, 127, 1), (F.MPORT_CFG_LANE, 127, 126), (F.MPORT_STAT_LINK_UP, 127, 1), (F.MPORT_CFG_HOST_BCAST, 127, 1), (F.MPORT_HRX_HEAD_IDX, 127, 15)], by decide +kernel⟩⟩

theorem witness_ReceiveContextsAndMerges :
    (∃ (c : Fin 4096) (v : Word) (s : Machine.State), s.flag F.MPORT_RXC_CFG_EN c = false ∧ s.rxcMayEnable c (v ||| 1#32) = true) ∧
    (∃ (c : Fin 4096) (v : Word) (s : Machine.State), s.flag F.MPORT_RXC_CFG_EN c = false ∧ s.rxcMayEnable c (v ||| 1#32) = false) ∧
    (∃ (c : Fin 4096) (s : Machine.State), s.flag F.MPORT_RXC_CFG_EN c = true ∧ s.rxcState c ≠ 0) ∧
    (∃ (c : Fin 4096) (l : Machine.RxLine) (s : Machine.State), (s.rxc c).line = some l) ∧
    (∃ (c : Fin 4096) (s : Machine.State), (s.rxc c).line = none) ∧
    (∃ (m : Fin 1024) (v : Word) (s : Machine.State), s.flag F.MPORT_MRG_CFG_EN m = false ∧ s.mrgMayEnable m (v ||| 1#32) = true) ∧
    (∃ (m : Fin 1024) (v : Word) (s : Machine.State), s.flag F.MPORT_MRG_CFG_EN m = false ∧ s.mrgMayEnable m (v ||| 1#32) = false) ∧
    (∃ (m : Fin 1024) (k : Machine.MergePkt) (s : Machine.State), s.flag F.MPORT_MRG_CFG_EN m = true ∧ s.nextRelease m = some k) ∧
    (∃ (m : Fin 1024) (s : Machine.State), ((s.flag F.MPORT_MRG_CFG_EN m = false ∨ s.nextRelease m = none))) :=
  ⟨⟨4095, F.MPORT_RXC_CFG_FMT.put 0 0xA0, State.reset, by decide +kernel⟩,
   ⟨4095, F.MPORT_RXC_CFG_TYPE.put 0 5, State.reset, by decide +kernel⟩,
   ⟨4095, { st [(F.MPORT_RXC_CFG_EN, 4095, 1), (F.MPORT_RXC_STAT_STATE, 4095, 2), (F.MPORT_RXC_CHK_TIMEOUT, 4095, 3)] with mport := { MportState.reset with rxc := AMap.empty.set 4095 { RxCtx.reset with lastPkt := 70 } } }, by decide +kernel⟩,
   ⟨4095, ⟨false, 0, [], 0⟩, { st [(F.MPORT_RXC_CFG_FMT, 4095, 160)] with mport := { MportState.reset with rxc := AMap.empty.set 4095 { RxCtx.reset with line := some ⟨false, 0, [], 0⟩ } } }, by decide +kernel⟩,
   ⟨4095, State.reset, by decide +kernel⟩,
   ⟨1023, F.MPORT_MRG_CFG_CTX_B.put 0 4095, State.reset, by decide +kernel⟩,
   ⟨1023, 0, State.reset, by decide +kernel⟩,
   ⟨1023, ⟨65535, false, 40, none, ⟨⟨[], false⟩, 0, 0, [], []⟩⟩, { st [(F.MPORT_MRG_CFG_EN, 1023, 1)] with mport := { MportState.reset with mrg := AMap.empty.set 1023 { MergeRun.reset with led := true, buf := [⟨65535, false, 40, none, ⟨⟨[], false⟩, 0, 0, [], []⟩⟩] } } }, by decide +kernel⟩,
   ⟨1023, State.reset, by decide +kernel⟩⟩

theorem witness_MediaPortsSend :
    (∃ (k : Fin 2048) (v : Word) (s : Machine.State), s.txcMayEnable k (v ||| 1#32) = true) ∧
    (∃ (k : Fin 2048) (v : Word) (s : Machine.State), s.txcMayEnable k (v ||| 1#32) = false) ∧
    (∃ (k : Fin 2048) (n : Nat) (j : Nat) (o : Nat) (tk : Int) (f3 : Int) (s : Machine.State), s.flag F.MPORT_TXC_CFG_EN k = true ∧ s.fld F.MPORT_TXC_CFG_TYPE k = 0 ∧ o = s.fld F.MPORT_TXC_SRC_SRC k % 1024 ∧ s.packetInstant k n j = some tk ∧ (s.ownerTd o).bind (fun d => s.frameStart3 d n) = some f3 ∧ j < Machine.fmtFields (s.fld F.MPORT_TXC_CFG_FMT k) * max 1 (s.fieldPackets k (s.fld F.MPORT_TXC_CFG_FMT k))) ∧
    (∃ (k : Fin 2048) (n : Nat) (j : Nat) (s : Machine.State), s.flag F.MPORT_TXC_CFG_EN k = true ∧ ((s.fld F.MPORT_TXC_CFG_TYPE k = 1 ∨ s.fld F.MPORT_TXC_CFG_TYPE k = 2)) ∧ s.flag F.MPORT_TXC_CFG_DUAL k = false ∧ s.portUp (s.fld F.MPORT_TXC_CFG_PORT_A k) = true ∧ s.portPaused (s.fld F.MPORT_TXC_CFG_PORT_A k) = true ∧ s.txcSamples k ≤ (s.txc k).audio.length) ∧
    (∃ (p : Fin 128) (a : Nat) (len : Nat) (s : Machine.State), s.portUp p = true ∧ s.portPaused p = false ∧ s.fld F.MPORT_HTX_HEAD_IDX p ≠ s.fld F.MPORT_HTX_TAIL_IDX p ∧ a = s.fld F.MPORT_HTX_CFG_BASE_HI p * 2 ^ 32 + s.fld F.MPORT_HTX_BASE_LO_BASE p * 64 + s.fld F.MPORT_HTX_HEAD_IDX p * (if s.flag F.MPORT_HTX_CFG_SLOT p then 10240 else 2048) ∧ len = leNat (s.load a 4) % 2 ^ 14 ∧ len + 4 ≤ maxFrame (s.flag F.MPORT_CFG_JUMBO p) ∧ s.hostFits p (max 64 (len + 4)) = true ∧ s.fld F.MPORT_HTX_CFG_SIZE p ≤ 12) ∧
    (∃ (p : Fin 128) (a : Nat) (len : Nat) (s : Machine.State), s.portUp p = true ∧ s.portPaused p = false ∧ s.fld F.MPORT_HTX_HEAD_IDX p ≠ s.fld F.MPORT_HTX_TAIL_IDX p ∧ a = s.fld F.MPORT_HTX_CFG_BASE_HI p * 2 ^ 32 + s.fld F.MPORT_HTX_BASE_LO_BASE p * 64 + s.fld F.MPORT_HTX_HEAD_IDX p * (if s.flag F.MPORT_HTX_CFG_SLOT p then 10240 else 2048) ∧ len = leNat (s.load a 4) % 2 ^ 14 ∧ maxFrame (s.flag F.MPORT_CFG_JUMBO p) < len + 4 ∧ s.fld F.MPORT_HTX_CFG_SIZE p ≤ 12) :=
  ⟨⟨2047, F.MPORT_TXC_CFG_PORT_A.put (F.MPORT_TXC_CFG_TYPE.put 0 1) 127, st [(F.MPORT_TXC_SRC_COUNT, 2047, 2)], by decide +kernel⟩,
   ⟨2047, F.MPORT_TXC_CFG_TYPE.put 0 5, State.reset, by decide +kernel⟩,
   ⟨2047, 0, 0, 1023, 3, 6, { st [(F.MPORT_TXC_CFG_EN, 2047, 1), (F.MPORT_TXC_SRC_SRC, 2047, 1023), (F.MPORT_TXC_TRO_TRO, 2047, 1), (F.MPORT_TXC_CFG_FMT, 2047, 160), (F.MPORT_TXC_PKT_PKT_BYTES, 2047, 1200)] with owner := AMap.empty.set 1023 0, td := AMap.empty.set 0 { TdState.reset with last := some ⟨1, 2, 3, 4⟩ } }, by decide +kernel⟩,
   ⟨2047, 0, 0, { st [(F.MPORT_TXC_CFG_EN, 2047, 1), (F.MPORT_TXC_CFG_TYPE, 2047, 1), (F.MPORT_TXC_CFG_PORT_A, 2047, 127), (F.MPORT_STAT_PAUSED, 127, 1), (F.MPORT_CFG_EN, 127, 1), (F.MPORT_CFG_LANE, 127, 126), (F.MPORT_STAT_LINK_UP, 127, 1)] with mport := { MportState.reset with pause := AMap.empty.set 127 900, txc := AMap.empty.set 2047 { TxRun.reset with audio := List.replicate 48 [] } } }, by decide +kernel⟩,
   ⟨127, 8192 + 15 * 2048, 50, (st [(F.MPORT_CFG_EN, 127, 1), (F.MPORT_CFG_LANE, 127, 126), (F.MPORT_STAT_LINK_UP, 127, 1), (F.MPORT_HTX_HEAD_IDX, 127, 15), (F.MPORT_HTX_BASE_LO_BASE, 127, 128)]).store (8192 + 15 * 2048) ([50, 0, 0, 0] ++ List.replicate 28 0 ++ List.replicate 50 0xA5), by decide +kernel⟩,
   ⟨127, 8192 + 15 * 2048, 16383, (st [(F.MPORT_CFG_EN, 127, 1), (F.MPORT_CFG_LANE, 127, 126), (F.MPORT_STAT_LINK_UP, 127, 1), (F.MPORT_HTX_HEAD_IDX, 127, 15), (F.MPORT_HTX_BASE_LO_BASE, 127, 128)]).store (8192 + 15 * 2048) [255, 255], by decide +kernel⟩⟩

end Tests.Mport

/-! ### Witnesses: frame -/

namespace Tests.Frame

theorem witness_FrameEventsInOrder :
    (∃ (td : Fin 8) (f : FrameStart) (slew : Nat) (ph : Int) (x : Machine.FrameTimes) (s : Machine.State), s.openFrame td f slew = some (ph, x)) ∧
    (∃ (td : Fin 8) (f : FrameStart) (slew : Nat) (s : Machine.State), s.openFrame td f slew = none) ∧
    (∃ (td : Fin 8) (x : Machine.FrameTimes) (s : Machine.State), (s.tdOf td).opened = some x) ∧
    (∃ (td : Fin 8) (s : Machine.State), (s.tdOf td).opened = none) ∧
    (∃ (td : Fin 8) (s : Machine.State), td.val ∈ s.ttb.due) ∧
    (∃ (td : Fin 8) (s : Machine.State), td.val ∉ s.ttb.due) ∧
    (∃ (td : Fin 8) (x : Machine.FrameTimes) (s : Machine.State), (s.tdOf td).last = some x ∧ (s.tdOf td).overlapOpen = true) ∧
    (∃ (td : Fin 8) (s : Machine.State), (((s.tdOf td).last = none ∨ (s.tdOf td).overlapOpen = false))) ∧
    (∃ (td : Fin 8) (x : Machine.FrameTimes) (s : Machine.State), (s.tdOf td).opened = some x) ∧
    (∃ (td : Fin 8) (s : Machine.State), (s.tdOf td).opened = none) ∧
    (∃ (td : Fin 8) (e : Fin 18) (x : Machine.FrameTimes) (n : Nat) (rest : List Nat) (y : Machine.Thread) (s : Machine.State), (s.tdOf td).opened = some x ∧ s.readyList td = n :: rest ∧ s.engUp e = true ∧ s.serves e = some td.val ∧ s.runningOn e = none ∧ max (x.cueOpen + 100) (s.cue.engFree.get (x.cueOpen + 100) e) < x.shutter ∧ s.thread? n = some y ∧ s.flag F.CUE_THR_CFG_BUILTIN n = false) ∧
    (∃ (td : Fin 8) (e : Fin 18) (x : Machine.FrameTimes) (n : Nat) (rest : List Nat) (y : Machine.Thread) (s : Machine.State), (s.tdOf td).opened = some x ∧ s.readyList td = n :: rest ∧ s.engUp e = true ∧ s.serves e = some td.val ∧ s.runningOn e = none ∧ max (x.cueOpen + 100) (s.cue.engFree.get (x.cueOpen + 100) e) < x.shutter ∧ s.thread? n = some y ∧ s.flag F.CUE_THR_CFG_BUILTIN n = true) ∧
    (∃ (td : Fin 8) (e : Fin 18) (s : Machine.State), ((s.engUp e = false ∨ s.serves e ≠ some td.val ∨ (s.runningOn e).isSome = true))) :=
  ⟨⟨7, .epoch 1, 0, 0, ⟨41592592, 41666666, 41888888, 125000000000000000⟩, st [(F.REF_TD_CFG_EN, 7, 1), (F.REF_TD_LINES_TOTAL_LINES, 7, 1125), (F.REF_TD_CFG_CUE_OPEN, 7, 8), (F.REF_TD_CFG_RATE, 7, 1)], by decide +kernel⟩,
   ⟨7, .epoch 0, 0, st [(F.REF_TD_CFG_EN, 7, 1), (F.REF_TD_LINES_TOTAL_LINES, 7, 1125), (F.REF_TD_CFG_CUE_OPEN, 7, 8), (F.REF_TD_CFG_RATE, 7, 1)], by decide +kernel⟩,
   ⟨7, ⟨41592592, 41666666, 41888888, 125000000000000000⟩, { st [(F.REF_TD_CFG_EN, 7, 1), (F.REF_TD_LINES_TOTAL_LINES, 7, 1125), (F.REF_TD_CFG_CUE_OPEN, 7, 8), (F.REF_TD_CFG_RATE, 7, 1)] with td := AMap.empty.set 7 { TdState.reset with opened := some ⟨41592592, 41666666, 41888888, 125000000000000000⟩ } }, by decide +kernel⟩,
   ⟨7, State.reset, by decide +kernel⟩,
   ⟨7, { State.reset with ttb := { TtbState.reset with due := [7], back := AMap.empty.set 7 [(3, 5), (3, 6), (4, 1)] } }, by decide +kernel⟩,
   ⟨7, State.reset, by decide +kernel⟩,
   ⟨7, ⟨41592592, 41666666, 41888888, 125000000000000000⟩, { st [(F.REF_TD_CFG_EN, 7, 1), (F.REF_TD_LINES_TOTAL_LINES, 7, 1125), (F.REF_TD_CFG_CUE_OPEN, 7, 8), (F.REF_TD_CFG_RATE, 7, 1)] with td := AMap.empty.set 7 { TdState.reset with last := some ⟨41592592, 41666666, 41888888, 125000000000000000⟩, overlapOpen := true } }, by decide +kernel⟩,
   ⟨7, State.reset, by decide +kernel⟩,
   ⟨7, ⟨41592592, 41666666, 41888888, 125000000000000000⟩, { st [(F.REF_TD_CFG_EN, 7, 1), (F.REF_TD_LINES_TOTAL_LINES, 7, 1125), (F.REF_TD_CFG_CUE_OPEN, 7, 8), (F.REF_TD_CFG_RATE, 7, 1)] with td := AMap.empty.set 7 { TdState.reset with opened := some ⟨41592592, 41666666, 41888888, 125000000000000000⟩ }, cue := { CueState.reset with due := AMap.empty.set 7 [3, 767], thr := AMap.empty.set 767 (thr 1) } }, by decide +kernel⟩,
   ⟨7, State.reset, by decide +kernel⟩,
   ⟨7, 15, ⟨41592592, 41666666, 41888888, 125000000000000000⟩, 767, [], { thr 1 with pend := 0 }, { st [(F.REF_TD_CFG_EN, 7, 1), (F.REF_TD_LINES_TOTAL_LINES, 7, 1125), (F.REF_TD_CFG_CUE_OPEN, 7, 8), (F.REF_TD_CFG_RATE, 7, 1)] with td := AMap.empty.set 7 { TdState.reset with opened := some ⟨41592592, 41666666, 41888888, 125000000000000000⟩ }, cue := { CueState.reset with thr := AMap.empty.set 767 { thr 1 with pend := 0 }, ready := AMap.empty.set 7 [767], serve := AMap.empty.set 15 (some 7) } }, by decide +kernel⟩,
   ⟨7, 15, ⟨41592592, 41666666, 41888888, 125000000000000000⟩, 767, [], { thr 1 with pend := 0 }, { st [(F.REF_TD_CFG_EN, 7, 1), (F.REF_TD_LINES_TOTAL_LINES, 7, 1125), (F.REF_TD_CFG_CUE_OPEN, 7, 8), (F.REF_TD_CFG_RATE, 7, 1), (F.CUE_THR_CFG_BUILTIN, 767, 1)] with td := AMap.empty.set 7 { TdState.reset with opened := some ⟨41592592, 41666666, 41888888, 125000000000000000⟩ }, cue := { CueState.reset with thr := AMap.empty.set 767 { thr 1 with pend := 0 }, ready := AMap.empty.set 7 [767], serve := AMap.empty.set 15 (some 7) } }, by decide +kernel⟩,
   ⟨7, 17, State.reset, by decide +kernel⟩⟩

theorem witness_LinesAndStorage :
    (∃ (v : Word) (s : Machine.State), F.XPT_CFG_OVERLAP.of v ≤ 16 ∧ s.fitsAt 0 s.storeTotal (max (F.XPT_CFG_OVERLAP.of v) (s.ovlInForce 0)) = true ∧ s.fitsAt 1 s.storeTotal (max (F.XPT_CFG_OVERLAP.of v) (s.ovlInForce 1)) = true) ∧
    (∃ (v : Word) (s : Machine.State), ((16 < F.XPT_CFG_OVERLAP.of v ∨ s.fitsAt 0 s.storeTotal (max (F.XPT_CFG_OVERLAP.of v) (s.ovlInForce 0)) = false))) ∧
    (∃ (n : Fin 1024) (v : Word) (s : Machine.State), s.findSync n (F.XPT_VIN_CFG_TD.of v) = none ∧ (s.vinRec n).feeder = false) ∧
    (∃ (n : Fin 1024) (v : Word) (j : Nat) (x : Machine.FsSync) (s : Machine.State), s.findSync n (F.XPT_VIN_CFG_TD.of v) = some j ∧ s.xpt.sync.find? j = some x ∧ x.vin = n.val ∧ x.td = F.XPT_VIN_CFG_TD.of v) ∧
    (∃ (n : Fin 1024) (l : LineIn) (s : Machine.State), (s.xpt.store.find? n).isSome = true) ∧
    (∃ (n : Fin 1024) (l : LineIn) (s : Machine.State), s.xpt.store.find? n = none) ∧
    (∃ (o : Fin 1024) (frame : Nat) (line : Nat) (offs : List Int) (bad : List WordFault) (s : Machine.State), s.ownerTd o = none) ∧
    (∃ (o : Fin 1024) (frame : Nat) (line : Nat) (n : Nat) (e : Nat) (r : Machine.Route) (p : Machine.PoolLine) (offs : List Int) (s : Machine.State), s.ownerTd o = some n ∧ s.routeForLine o n frame line = some r ∧ s.vinPresent r.vin = true ∧ r.path = 1 ∧ s.routeLine o r line frame = (e, some p)) ∧
    (∃ (o : Fin 1024) (frame : Nat) (line : Nat) (n : Nat) (e : Nat) (r : Machine.Route) (p : Machine.PoolLine) (offs : List Int) (s : Machine.State), s.ownerTd o = some n ∧ s.routeForLine o n frame line = some r ∧ s.vinPresent r.vin = true ∧ r.path = 0 ∧ s.routeLine o r line frame = (e, some p) ∧ p.checks = Machine.lineChecks e p.line p.frame p.words ∧ ((∀ k, k < p.words.length → 0 ≤ p.margins.getD k 0 * 1000 + offs.getD k 0 * 297 ∧ s.belowH r.vin o r.td (s.routeOvl r.classP r.planeB r.td) (p.margins.getD k 0) (offs.getD k 0) = true))) :=
  ⟨⟨F.XPT_CFG_OVERLAP.put 0 16, State.reset, by decide +kernel⟩,
   ⟨F.XPT_CFG_OVERLAP.put 0 17, State.reset, by decide +kernel⟩,
   ⟨1023, 0xF, State.reset, by decide +kernel⟩,
   ⟨1023, 0xF, 511, ⟨1023, 7, 0, 1, 1, false, [], none⟩, { State.reset with xpt := { XptState.reset with sync := AMap.empty.set 511 ⟨1023, 7, 0, 1, 1, false, [], none⟩ } }, by decide +kernel⟩,
   ⟨1023, ⟨9, 3, true, [List.replicate 64 1, List.replicate 64 2], [0, 1], [], 50⟩, { State.reset with xpt := { XptState.reset with store := AMap.empty.set 1023 100 } }, by decide +kernel⟩,
   ⟨1023, ⟨9, 3, true, [List.replicate 64 1], [0], [], 50⟩, State.reset, by decide +kernel⟩,
   ⟨1023, 5, 7, [], [], st [(F.XPT_VOUT_CFG_FMT, 1023, 160)], by decide +kernel⟩,
   ⟨1023, 0, 1, 7, 1029, ⟨1023, false, true, 1, 1, 7, false, 5, 0, 0, 0⟩, ⟨1, 0, true, [List.replicate 64 7], lineChecks 1029 1 0 [List.replicate 64 7], [0], []⟩, [], { st [(F.REF_TD_LINES_TOTAL_LINES, 7, 1125), (F.CUE_THR_CFG_TD, 9, 7)] with owner := AMap.empty.set 1023 9, xpt := { XptState.reset with vin := AMap.empty.set 1023 { VinRec.reset with feeder := true, present := true }, rt := AMap.empty.set 1023 { RouteSet.reset with committed := some ⟨1023, false, true, 1, 1, 7, false, 5, 0, 0, 0⟩, prev := some ⟨1023, false, true, 1, 1, 7, false, 5, 0, 0, 0⟩ }, sync := AMap.empty.set 5 { vin := 1023, td := 7, stack := 0, units := 1, mbps := 1, armed := false, frames := [], shown := some ⟨0, 0, true, [⟨1, 0, true, [List.replicate 64 7], lineChecks 1029 1 0 [List.replicate 64 7], [0], []⟩]⟩ } } }, by decide +kernel⟩,
   ⟨1023, 0, 1, 7, 1023, ⟨1023, false, true, 0, 1, 7, false, 5, 0, 0, 0⟩, ⟨1, 0, true, [List.replicate 64 7], lineChecks 1023 1 0 [List.replicate 64 7], [0], []⟩, [], { st [(F.REF_TD_LINES_TOTAL_LINES, 7, 1125), (F.CUE_THR_CFG_TD, 9, 7)] with owner := AMap.empty.set 1023 9, xpt := { XptState.reset with vin := AMap.empty.set 1023 { VinRec.reset with feeder := true, present := true }, rt := AMap.empty.set 1023 { RouteSet.reset with committed := some ⟨1023, false, true, 0, 1, 7, false, 5, 0, 0, 0⟩, prev := some ⟨1023, false, true, 0, 1, 7, false, 5, 0, 0, 0⟩ }, pool := AMap.empty.set 1023 [⟨1, 0, true, [List.replicate 64 7], lineChecks 1023 1 0 [List.replicate 64 7], [0], []⟩] } }, by decide +kernel⟩⟩

theorem witness_ClassPMergeTakesTheGoodPlane :
    (∃ (e : Nat) (o : Nat) (pl : Machine.PoolLine) (bad : List WordFault) (s : Machine.State) (out : List (List Byte)) (u : Machine.State) (fa : Option Nat) (fb : Option Nat), fa = Machine.planeFails e pl false bad ∧ fb = Machine.planeFails e pl true bad ∧ (out, u) = Machine.mergeP e o pl bad s) :=
  ⟨5, 1023, ⟨1, 0, true, [[1], [2]], lineChecks 5 1 0 [[1], [2]], [0, 0], []⟩, [⟨false, 1, [9], 0⟩], State.reset, [[1], [2]], (mergeP 5 1023 ⟨1, 0, true, [[1], [2]], lineChecks 5 1 0 [[1], [2]], [0, 0], []⟩ [⟨false, 1, [9], 0⟩] State.reset).2, some 1, none, by decide +kernel⟩

end Tests.Frame

/-! ### Witnesses: cue -/

namespace Tests.Cue

theorem witness_ThreadCommandsComplete :
    (∃ (m : Fin 8) (v : Word) (s : Machine.State), m.val ≠ 7 ∧ s.createRefusal (F.CUE_THR_CMD_THREAD.of v) = 0) ∧
    (∃ (m : Fin 8) (v : Word) (s : Machine.State), m.val ≠ 7 ∧ s.createRefusal (F.CUE_THR_CMD_THREAD.of v) ≠ 0) ∧
    (∃ (m : Fin 8) (v : Word) (x : Machine.Thread) (s : Machine.State), m.val ≠ 7 ∧ s.thread? (F.CUE_THR_CMD_THREAD.of v) = some x ∧ s.commandRefusal m 2 (F.CUE_THR_CMD_THREAD.of v) = 0) ∧
    (∃ (m : Fin 8) (v : Word) (x : Machine.Thread) (s : Machine.State), m.val ≠ 7 ∧ s.thread? (F.CUE_THR_CMD_THREAD.of v) = some x ∧ s.commandRefusal m 3 (F.CUE_THR_CMD_THREAD.of v) = 0) ∧
    (∃ (m : Fin 8) (v : Word) (x : Machine.Thread) (s : Machine.State), m.val ≠ 7 ∧ s.thread? (F.CUE_THR_CMD_THREAD.of v) = some x ∧ s.commandRefusal m 4 (F.CUE_THR_CMD_THREAD.of v) = 0) ∧
    (∃ (m : Fin 8) (v : Word) (s : Machine.State), m.val ≠ 7 ∧ m.val ≠ 5 ∧ s.flag F.CUE_THR_CFG_SAFE (F.CUE_THR_CMD_THREAD.of v) = true ∧ (s.thread? (F.CUE_THR_CMD_THREAD.of v)).isSome = true) ∧
    (∃ (v : Word) (s : Machine.State), ((F.CUE_THR_CMD_OP.of v = 0 ∨ 5 ≤ F.CUE_THR_CMD_OP.of v))) :=
  ⟨⟨6, F.CUE_THR_CMD_THREAD.put 0 4095, st [(F.REF_TD_CFG_EN, 0, 1), (F.REF_TD_LINES_TOTAL_LINES, 0, 1125), (F.REF_TD_CFG_CUE_OPEN, 0, 8), (F.REF_TD_CFG_RATE, 0, 1), (F.CUE_THR_CFG_OUT, 4095, 1023), (F.CUE_THR_CFG_BUDGET, 4095, 256), (F.CUE_THR_ENTRY_ENTRY, 4095, 262143)], by decide +kernel⟩,
   ⟨6, F.CUE_THR_CMD_THREAD.put 0 4095, State.reset, by decide +kernel⟩,
   ⟨6, F.CUE_THR_CMD_THREAD.put 0 4095, thr 1, { st [(F.CUE_THR_CFG_OUT, 4095, 1023), (F.CUE_THR_CFG_BUDGET, 4095, 256)] with cue := { CueState.reset with thr := AMap.empty.set 4095 (thr 1) }, owner := AMap.empty.set 1023 4095 }, by decide +kernel⟩,
   ⟨6, F.CUE_THR_CMD_THREAD.put 0 4095, thr 1, { st [(F.CUE_THR_CFG_OUT, 4095, 1023), (F.CUE_THR_CFG_BUDGET, 4095, 256)] with cue := { CueState.reset with thr := AMap.empty.set 4095 (thr 1) }, owner := AMap.empty.set 1023 4095 }, by decide +kernel⟩,
   ⟨6, F.CUE_THR_CMD_THREAD.put 0 4095, thr 1, { st [(F.CUE_THR_CFG_OUT, 4095, 1023), (F.CUE_THR_CFG_BUDGET, 4095, 256)] with cue := { CueState.reset with thr := AMap.empty.set 4095 (thr 1) }, owner := AMap.empty.set 1023 4095 }, by decide +kernel⟩,
   ⟨6, F.CUE_THR_CMD_THREAD.put 0 4095, { st [(F.CUE_THR_CFG_OUT, 4095, 1023), (F.CUE_THR_CFG_BUDGET, 4095, 256), (F.CUE_THR_CFG_SAFE, 4095, 1)] with cue := { CueState.reset with thr := AMap.empty.set 4095 (thr 1) }, owner := AMap.empty.set 1023 4095 }, by decide +kernel⟩,
   ⟨F.CUE_THR_CMD_OP.put 0 5, State.reset, by decide +kernel⟩⟩

theorem witness_BudgetsSharesAndEngines :
    (∃ (m : Fin 8) (n : Fin 4096) (v : Word) (x : Machine.Thread) (s : Machine.State), m.val ≠ 7 ∧ s.thread? n = some x ∧ s.flag F.CUE_THR_CFG_BUILTIN n = false ∧ Machine.changes F.CUE_THR_CFG_OUT s n v = false ∧ Machine.changes F.CUE_THR_CFG_TD s n v = false ∧ Machine.changes F.CUE_THR_CFG_BUILTIN s n v = false ∧ Machine.changes F.CUE_THR_CFG_SAFE s n v = false ∧ 1 ≤ F.CUE_THR_CFG_BUDGET.of v ∧ F.CUE_THR_CFG_BUDGET.of v ≤ 256 ∧ ((F.CUE_THR_CFG_BUDGET.of v ≤ s.thrBudget n ∨ s.cueLoad (s.thrTd n) - Machine.budgetCharge (s.thrBudget n) + Machine.budgetCharge (F.CUE_THR_CFG_BUDGET.of v) ≤ s.cueLimit (s.thrTd n)))) ∧
    (∃ (m : Fin 8) (n : Fin 4096) (v : Word) (x : Machine.Thread) (s : Machine.State), m.val ≠ 7 ∧ s.thread? n = some x ∧ Machine.changes F.CUE_THR_CFG_BUDGET s n v = true ∧ ((F.CUE_THR_CFG_BUDGET.of v = 0 ∨ 256 < F.CUE_THR_CFG_BUDGET.of v ∨ s.thrBudget n < F.CUE_THR_CFG_BUDGET.of v ∧ s.cueLimit (s.thrTd n) < s.cueLoad (s.thrTd n) - Machine.budgetCharge (s.thrBudget n) + Machine.budgetCharge (F.CUE_THR_CFG_BUDGET.of v)))) ∧
    (∃ (n : Fin 8) (v : Word) (s : Machine.State), ((List.range 8).map (fun i => if i = n.val then F.CUE_SHARE_ENGINES.of v else s.fld F.CUE_SHARE_ENGINES i)).sum ≤ s.eAct ∧ s.cueLoad n ≤ s.limitWith n (F.CUE_SHARE_ENGINES.of v - s.cue.lost.get 0 n)) ∧
    (∃ (n : Fin 8) (v : Word) (s : Machine.State), ((s.eAct < ((List.range 8).map (fun i => if i = n.val then F.CUE_SHARE_ENGINES.of v else s.fld F.CUE_SHARE_ENGINES i)).sum ∨ s.limitWith n (F.CUE_SHARE_ENGINES.of v - s.cue.lost.get 0 n) < s.cueLoad n))) ∧
    (∃ (e : Fin 18) (n : Nat) (x : Machine.Thread) (s : Machine.State), s.engUp e = true ∧ s.runningOn e = some n ∧ s.thread? n = some x) ∧
    (∃ (e : Fin 18) (s : Machine.State), s.engUp e = false) :=
  ⟨⟨6, 4095, F.CUE_THR_CFG_BUDGET.put (F.CUE_THR_CFG_OUT.put 0 1023) 256, thr 1, { st [(F.REF_TD_CFG_EN, 0, 1), (F.REF_TD_LINES_TOTAL_LINES, 0, 1125), (F.REF_TD_CFG_CUE_OPEN, 0, 8), (F.REF_TD_CFG_RATE, 0, 1), (F.CUE_THR_CFG_OUT, 4095, 1023), (F.CUE_THR_CFG_BUDGET, 4095, 256)] with cue := { CueState.reset with thr := AMap.empty.set 4095 (thr 1) }, owner := AMap.empty.set 1023 4095 }, by decide +kernel⟩,
   ⟨6, 4095, F.CUE_THR_CFG_BUDGET.put (F.CUE_THR_CFG_OUT.put 0 1023) 257, thr 1, { st [(F.REF_TD_CFG_EN, 0, 1), (F.REF_TD_LINES_TOTAL_LINES, 0, 1125), (F.REF_TD_CFG_CUE_OPEN, 0, 8), (F.REF_TD_CFG_RATE, 0, 1), (F.CUE_THR_CFG_OUT, 4095, 1023), (F.CUE_THR_CFG_BUDGET, 4095, 256)] with cue := { CueState.reset with thr := AMap.empty.set 4095 (thr 1) }, owner := AMap.empty.set 1023 4095 }, by decide +kernel⟩,
   ⟨7, 0, State.reset, by decide +kernel⟩,
   ⟨7, 19, State.reset, by decide +kernel⟩,
   ⟨15, 4095, { thr 2 with eng := some 15 }, { st [(F.REF_TD_CFG_EN, 0, 1), (F.REF_TD_LINES_TOTAL_LINES, 0, 1125), (F.REF_TD_CFG_CUE_OPEN, 0, 8), (F.REF_TD_CFG_RATE, 0, 1), (F.CUE_THR_CFG_OUT, 4095, 1023), (F.CUE_THR_CFG_BUDGET, 4095, 256)] with cue := { CueState.reset with thr := AMap.empty.set 4095 ({ thr 2 with eng := some 15 }) }, owner := AMap.empty.set 1023 4095 }, by decide +kernel⟩,
   ⟨17, State.reset, by decide +kernel⟩⟩

theorem witness_TakeQueueAccepts :
    (∃ (m : Fin 8) (v : Word) (s : Machine.State), m.val ≠ 7 ∧ s.cue.tq.length < 4096 ∧ (s.owner.find? (bitsOf (s.reg .CUE_TQ_W0 0).toNat 0 16)).isSome = true) ∧
    (∃ (m : Fin 8) (v : Word) (s : Machine.State), m.val ≠ 7 ∧ s.cue.tq.length < 4096 ∧ s.owner.find? (bitsOf (s.reg .CUE_TQ_W0 0).toNat 0 16) = none) ∧
    (∃ (m : Fin 8) (v : Word) (s : Machine.State), m.val ≠ 7 ∧ 4096 ≤ s.cue.tq.length) :=
  ⟨⟨6, 0, { st [(⟨.CUE_TQ_W0, 0, 32⟩, 0, 1023)] with cue := { CueState.reset with thr := AMap.empty.set 4095 (thr 1) }, owner := AMap.empty.set 1023 4095 }, by decide +kernel⟩,
   ⟨6, 0, State.reset, by decide +kernel⟩,
   ⟨6, 0, { State.reset with cue := { CueState.reset with tq := List.replicate 4096 ⟨0, 0, 0, 0, 0, none⟩ } }, by decide +kernel⟩⟩

theorem witness_ProgramBanksSwap :
    (∃ (v : Word) (s : Machine.State), s.swapPending = false) ∧
    (∃ (v : Word) (s : Machine.State), s.swapPending = true) ∧
    (∃ (n : Fin 8) (s : Machine.State), s.swapPending = true ∧ s.tdEn n = false ∧ n.val ∉ s.cue.swapped) ∧
    (∃ (n : Fin 8) (s : Machine.State), ((s.swapPending = false ∨ s.tdEn n = true))) ∧
    (∃ (b : Fin 2) (off : Nat) (data : List Byte) (s : Machine.State), s.mem.wf = true ∧ s.bankIdle b = true ∧ off + data.length ≤ 0x100000 ∧ off < 0x100000) ∧
    (∃ (b : Fin 2) (off : Nat) (data : List Byte) (s : Machine.State), s.bankIdle b = false ∧ off < 0x100000) ∧
    (∃ (s : Machine.State), s.flag F.CUE_STAT_INIT_DONE 0 = false ∧ s.mem.wf = true) ∧
    (∃ (s : Machine.State), s.flag F.CUE_STAT_INIT_DONE 0 = true) :=
  ⟨⟨0x80001234, st [(⟨.CUE_PS_SWAP_LO, 0, 32⟩, 0, 77)], by decide +kernel⟩,
   ⟨0, st [(F.CUE_PS_STAT_PENDING, 0, 1)], by decide +kernel⟩,
   ⟨7, { st [(F.CUE_PS_STAT_PENDING, 0, 1)] with cue := { CueState.reset with swapped := [0, 1, 2, 3, 4, 5, 6] } }, by decide +kernel⟩,
   ⟨7, State.reset, by decide +kernel⟩,
   ⟨1, 0xFFFFC, [1, 2, 3, 4], State.reset, by decide +kernel⟩,
   ⟨0, 0xFFFFC, [1, 2, 3, 4], State.reset, by decide +kernel⟩,
   ⟨State.reset.store (bankBase 0) [5], by decide +kernel⟩,
   ⟨st [(F.CUE_STAT_INIT_DONE, 0, 1)], by decide +kernel⟩⟩

end Tests.Cue

/-! ### Witnesses: isa -/

namespace Tests.Isa

/-- A frame of a 25 Hz domain. -/
def fr7 : FrameTimes := ⟨41592592, 41666666, 41888888, 125000000000000000⟩

/-- A running thread with a context. -/
def runs (c : ThrCtx) : Thread := { thr 2 with ctx := c, eng := some 15, clock := 41600000 }

/-- Thread 4095 of domain 7 and object `o` stands at word `w`, with fields set. -/
def cueAt (o : Nat) (c : ThrCtx) (w : Word) (l : List (Fld × Nat × Nat)) : State :=
  let s := (st ((F.CUE_THR_CFG_OUT, 4095, o) :: (F.CUE_THR_CFG_TD, 4095, 7) :: l)).store (bankBase 0 + 4 * c.pc) (leBytes 4 w.toNat)
  { s with td := AMap.empty.set 7 { TdState.reset with opened := some fr7 },
           cue := { CueState.reset with thr := AMap.empty.set 4095 (runs c) }, owner := AMap.empty.set o 4095 }

/-- A context at word 262142 with all flags clear: g1 = 0xFFFFFFFF, g2 = 3, g3 = 0x80000000. -/
def ctx : ThrCtx := ⟨262142, false, false, false, false, [], (((AMap.empty.set 1 0xFFFFFFFF).set 2 3).set 3 0x80000000).set 4 60⟩

theorem stands_at {s : State} {t op : Nat} {x : Thread} {w : Word} (f : FrameTimes)
    (h : s.thread? t = some x ∧ x.st = 2 ∧ s.cueFetch (s.thrTd t) x.ctx.pc = w ∧ cueOp w = op ∧ s.cueFault t x.ctx w = 0
      ∧ (s.tdOf (s.thrTd t)).opened = some f ∧ x.clock + (cueCost x.ctx w : Nat) < f.shutter) : s.standsAt t op x w := by
  unfold State.standsAt
  exact ⟨h.1, h.2.1, h.2.2.1, h.2.2.2.1, h.2.2.2.2.1, f, h.2.2.2.2.2⟩

theorem witness_CueArithmeticAndFlags :
    (∃ (t : Fin 4096) (x : Machine.Thread) (w : Word) (s : Machine.State), s.standsAt t 0x01 x w) ∧
    (∃ (t : Fin 4096) (x : Machine.Thread) (w : Word) (s : Machine.State), s.standsAt t 0x02 x w) ∧
    (∃ (t : Fin 4096) (x : Machine.Thread) (w : Word) (s : Machine.State), s.standsAt t 0x03 x w) ∧
    (∃ (t : Fin 4096) (x : Machine.Thread) (w : Word) (s : Machine.State), s.standsAt t 0x0B x w) ∧
    (∃ (t : Fin 4096) (x : Machine.Thread) (w : Word) (s : Machine.State), s.standsAt t 0x0C x w) :=
  ⟨⟨4095, runs ctx, 0x4448000, cueAt 1023 ctx 0x4448000 [], stands_at fr7 (by decide +kernel)⟩,
   ⟨4095, runs ctx, 0x8043fff, cueAt 1023 ctx 0x8043fff [], stands_at fr7 (by decide +kernel)⟩,
   ⟨4095, runs ctx, 0xfc84000, cueAt 1023 ctx 0xfc84000 [], stands_at fr7 (by decide +kernel)⟩,
   ⟨4095, runs ctx, 0x2c0c8000, cueAt 1023 ctx 0x2c0c8000 [], stands_at fr7 (by decide +kernel)⟩,
   ⟨4095, runs ctx, 0x30043fff, cueAt 1023 ctx 0x30043fff [], stands_at fr7 (by decide +kernel)⟩⟩

theorem witness_CueLogicShiftsAndConstants :
    (∃ (t : Fin 4096) (x : Machine.Thread) (w : Word) (v : Word) (s : Machine.State), s.standsAt t 0x04 x w ∧ v = x.ctx.val (Machine.cueA w) &&& x.ctx.val (Machine.cueB w)) ∧
    (∃ (t : Fin 4096) (x : Machine.Thread) (w : Word) (v : Word) (s : Machine.State), s.standsAt t 0x05 x w ∧ v = x.ctx.val (Machine.cueA w) ||| x.ctx.val (Machine.cueB w)) ∧
    (∃ (t : Fin 4096) (x : Machine.Thread) (w : Word) (v : Word) (s : Machine.State), s.standsAt t 0x06 x w ∧ v = x.ctx.val (Machine.cueA w) ^^^ x.ctx.val (Machine.cueB w)) ∧
    (∃ (t : Fin 4096) (x : Machine.Thread) (w : Word) (v : Word) (s : Machine.State), s.standsAt t 0x07 x w ∧ v = x.ctx.val (Machine.cueA w) <<< (((x.ctx.val (Machine.cueB w)).toNat + Machine.cueImm14 w) % 32)) ∧
    (∃ (t : Fin 4096) (x : Machine.Thread) (w : Word) (v : Word) (s : Machine.State), s.standsAt t 0x08 x w ∧ v = x.ctx.val (Machine.cueA w) >>> (((x.ctx.val (Machine.cueB w)).toNat + Machine.cueImm14 w) % 32)) ∧
    (∃ (t : Fin 4096) (x : Machine.Thread) (w : Word) (v : Word) (s : Machine.State), s.standsAt t 0x09 x w ∧ v = Machine.cueSimm22 w) ∧
    (∃ (t : Fin 4096) (x : Machine.Thread) (w : Word) (v : Word) (s : Machine.State), s.standsAt t 0x0A x w ∧ v = (x.ctx.val (Machine.cueD w) &&& 0xFFFF#32) ||| BitVec.ofNat 32 (Machine.cueImm22 w) <<< 16) :=
  ⟨⟨4095, runs ctx, 0x1144c000, 0x80000000, cueAt 1023 ctx 0x1144c000 [], stands_at fr7 (by decide +kernel), by decide +kernel⟩,
   ⟨4095, runs ctx, 0x1548c000, 0x80000003, cueAt 1023 ctx 0x1548c000 [], stands_at fr7 (by decide +kernel), by decide +kernel⟩,
   ⟨4095, runs ctx, 0x18444000, 0, cueAt 1023 ctx 0x18444000 [], stands_at fr7 (by decide +kernel), by decide +kernel⟩,
   ⟨4095, runs ctx, 0x1c488001, 48, cueAt 1023 ctx 0x1c488001 [], stands_at fr7 (by decide +kernel), by decide +kernel⟩,
   ⟨4095, runs ctx, 0x204c801c, 1, cueAt 1023 ctx 0x204c801c [], stands_at fr7 (by decide +kernel), by decide +kernel⟩,
   ⟨4095, runs ctx, 0x247fffff, 0xFFFFFFFF, cueAt 1023 ctx 0x247fffff [], stands_at fr7 (by decide +kernel), by decide +kernel⟩,
   ⟨4095, runs ctx, 0x28408001, 0x8001FFFF, cueAt 1023 ctx 0x28408001 [], stands_at fr7 (by decide +kernel), by decide +kernel⟩⟩

theorem witness_CueControlFlow :
    (∃ (t : Fin 4096) (x : Machine.Thread) (w : Word) (s : Machine.State), s.standsAt t 0x10 x w) ∧
    (∃ (t : Fin 4096) (x : Machine.Thread) (w : Word) (s : Machine.State), s.standsAt t 0x11 x w) ∧
    (∃ (t : Fin 4096) (x : Machine.Thread) (w : Word) (s : Machine.State), s.standsAt t 0x12 x w) ∧
    (∃ (t : Fin 4096) (x : Machine.Thread) (w : Word) (s : Machine.State), s.standsAt t 0x13 x w) ∧
    (∃ (t : Fin 4096) (x : Machine.Thread) (w : Word) (s : Machine.State), s.standsAt t 0x14 x w) ∧
    (∃ (t : Fin 4096) (x : Machine.Thread) (w : Word) (s : Machine.State), s.standsAt t 0x15 x w) ∧
    (∃ (t : Fin 4096) (x : Machine.Thread) (w : Word) (s : Machine.State), s.standsAt t 0x16 x w) ∧
    (∃ (t : Nat) (x : Machine.ThrCtx) (w : Word) (s : Machine.State), ((Machine.cueOp w = 0x10 ∨ Machine.cueOp w = 0x11 ∨ Machine.cueOp w = 0x12)) ∧ 11 ≤ Machine.cueCond w) :=
  ⟨⟨4095, runs ctx, 0x403c0002, cueAt 1023 ctx 0x403c0002 [], stands_at fr7 (by decide +kernel)⟩,
   ⟨4095, runs ({ ctx with stack := [5, 6, 7, 8, 9, 10, 11] }), 0x443fffff, cueAt 1023 ({ ctx with stack := [5, 6, 7, 8, 9, 10, 11] }) 0x443fffff [], stands_at fr7 (by decide +kernel)⟩,
   ⟨4095, runs ({ ctx with stack := [5, 6, 7, 8, 9, 10, 11] }), 0x4a000000, cueAt 1023 ({ ctx with stack := [5, 6, 7, 8, 9, 10, 11] }) 0x4a000000 [], stands_at fr7 (by decide +kernel)⟩,
   ⟨4095, runs ctx, 0x4c000000, cueAt 1023 ctx 0x4c000000 [], stands_at fr7 (by decide +kernel)⟩,
   ⟨4095, runs ctx, 0x50000000, cueAt 1023 ctx 0x50000000 [], stands_at fr7 (by decide +kernel)⟩,
   ⟨4095, runs ctx, 0x54110004, cueAt 1023 ctx 0x54110004 [], stands_at fr7 (by decide +kernel)⟩,
   ⟨4095, runs ctx, 0x58013000, cueAt 1023 ctx 0x58013000 [], stands_at fr7 (by decide +kernel)⟩,
   ⟨9, ctx, 0x42C00000, State.reset, by decide +kernel⟩⟩

theorem witness_CueScratchSenseAndQueue :
    (∃ (t : Fin 4096) (x : Machine.Thread) (w : Word) (s : Machine.State), s.standsAt t 0x18 x w) ∧
    (∃ (t : Fin 4096) (x : Machine.Thread) (w : Word) (a : Nat) (s : Machine.State), s.standsAt t 0x19 x w ∧ s.mem.wf = true ∧ a = 0x3000200000 + t * 0x100 + 4 * (x.ctx.val (Machine.cueA w) + Machine.cueSimm14 w).toNat) ∧
    (∃ (t : Fin 4096) (x : Machine.Thread) (w : Word) (s : Machine.State), s.standsAt t 0x1A x w) ∧
    (∃ (t : Fin 4096) (x : Machine.Thread) (w : Word) (s : Machine.State), s.standsAt t 0x1B x w) ∧
    (∃ (t : Fin 4096) (x : Machine.Thread) (w : Word) (s : Machine.State), s.standsAt t 0x1C x w) ∧
    (∃ (t : Fin 4096) (x : Machine.Thread) (w : Word) (f : Machine.FrameTimes) (s : Machine.State), s.standsAt t 0x1D x w ∧ (s.tdOf (s.thrTd t)).opened = some f) :=
  ⟨⟨4095, runs ctx, 0x61500003, cueAt 1023 ctx 0x61500003 [], stands_at fr7 (by decide +kernel)⟩,
   ⟨4095, runs ctx, 0x64500003, 0x3000200000 + 4095 * 0x100 + 4 * 63, cueAt 1023 ctx 0x64500003 [], stands_at fr7 (by decide +kernel), by decide +kernel, by decide +kernel⟩,
   ⟨4095, runs ctx, 0x68250000, cueAt 1023 ctx 0x68250000 [], stands_at fr7 (by decide +kernel)⟩,
   ⟨4095, runs ctx, 0x6c0c0000, cueAt 1023 ctx 0x6c0c0000 [], stands_at fr7 (by decide +kernel)⟩,
   ⟨4095, runs ctx, 0x70000000, cueAt 1023 ctx 0x70000000 [], stands_at fr7 (by decide +kernel)⟩,
   ⟨4095, runs ctx, 0x742e0000, fr7, cueAt 1023 ctx 0x742e0000 [], stands_at fr7 (by decide +kernel), by decide +kernel⟩⟩

theorem witness_CueVideoAndAudio :
    (∃ (t : Fin 4096) (x : Machine.Thread) (w : Word) (classP : Bool) (s : Machine.State), s.standsAt t (if classP then 0x21 else 0x20) x w) ∧
    (∃ (t : Fin 4096) (x : Machine.Thread) (w : Word) (s : Machine.State), s.standsAt t 0x22 x w) ∧
    (∃ (t : Fin 4096) (x : Machine.Thread) (w : Word) (s : Machine.State), s.standsAt t 0x23 x w) ∧
    (∃ (t : Fin 4096) (x : Machine.Thread) (w : Word) (g : Nat) (c : Nat) (m : Nat) (a : Nat) (s : Machine.State), s.standsAt t 0x28 x w ∧ g = Machine.objIndex (s.thrOut t) ∧ c = bitsOf (Machine.cueK w) 0 7 ∧ m = (x.ctx.val (Machine.cueR2 w)).toNat ∧ a = (x.ctx.val (Machine.cueR1 w)).toNat) ∧
    (∃ (t : Fin 4096) (x : Machine.Thread) (w : Word) (g : Nat) (c : Nat) (m : Nat) (s : Machine.State), g = Machine.objIndex (s.thrOut t) ∧ c = bitsOf (Machine.cueK w) 0 7 ∧ m = (x.ctx.val (Machine.cueR2 w)).toNat ∧ s.standsAt t 0x29 x w) ∧
    (∃ (t : Fin 4096) (x : Machine.Thread) (w : Word) (g : Nat) (c : Nat) (m : Nat) (s : Machine.State), g = Machine.objIndex (s.thrOut t) ∧ c = bitsOf (Machine.cueK w) 0 7 ∧ m = (x.ctx.val (Machine.cueR2 w)).toNat ∧ s.standsAt t 0x2A x w) ∧
    (∃ (t : Fin 4096) (x : Machine.Thread) (w : Word) (g : Nat) (c : Nat) (m : Nat) (s : Machine.State), g = Machine.objIndex (s.thrOut t) ∧ c = bitsOf (Machine.cueK w) 0 7 ∧ m = (x.ctx.val (Machine.cueR2 w)).toNat ∧ s.standsAt t 0x2B x w) ∧
    (∃ (t : Fin 4096) (x : Machine.Thread) (w : Word) (g : Nat) (c : Nat) (m : Nat) (s : Machine.State), g = Machine.objIndex (s.thrOut t) ∧ c = bitsOf (Machine.cueK w) 0 7 ∧ m = (x.ctx.val (Machine.cueR2 w)).toNat ∧ s.standsAt t 0x2C x w) :=
  ⟨⟨4095, runs ctx, 0x8402507f, true, cueAt 1023 ctx 0x8402507f [], stands_at fr7 (by decide +kernel)⟩,
   ⟨4095, runs ctx, 0x88000000, cueAt 1023 ctx 0x88000000 [], stands_at fr7 (by decide +kernel)⟩,
   ⟨4095, runs ctx, 0x8c000005, cueAt 1023 ctx 0x8c000005 [], stands_at fr7 (by decide +kernel)⟩,
   ⟨4095, runs ctx, 0xa0024004, 7, 4, 60, 3, cueAt 8199 ctx 0xa0024004 [(F.AUD_GRP_CFG_SIZE, 7, 64)], stands_at fr7 (by decide +kernel), by decide +kernel, by decide +kernel, by decide +kernel, by decide +kernel⟩,
   ⟨4095, runs ctx, 0xa4014184, 7, 4, 60, cueAt 8199 ctx 0xa4014184 [(F.AUD_GRP_CFG_SIZE, 7, 64)], by decide +kernel, by decide +kernel, by decide +kernel, stands_at fr7 (by decide +kernel)⟩,
   ⟨4095, runs ctx, 0xa8104004, 7, 4, 60, cueAt 8199 ctx 0xa8104004 [(F.AUD_GRP_CFG_SIZE, 7, 64)], by decide +kernel, by decide +kernel, by decide +kernel, stands_at fr7 (by decide +kernel)⟩,
   ⟨4095, runs ctx, 0xac0001f4, 7, 116, 0, cueAt 8199 ctx 0xac0001f4 [(F.AUD_GRP_CFG_SIZE, 7, 64)], by decide +kernel, by decide +kernel, by decide +kernel, stands_at fr7 (by decide +kernel)⟩,
   ⟨4095, runs ctx, 0xb0012000, 7, 0, 3, cueAt 8199 ctx 0xb0012000 [(F.AUD_GRP_CFG_SIZE, 7, 64)], by decide +kernel, by decide +kernel, by decide +kernel, stands_at fr7 (by decide +kernel)⟩⟩

theorem witness_CueWallAndOutward :
    (∃ (t : Fin 4096) (x : Machine.Thread) (w : Word) (l : Nat) (s : Machine.State), s.standsAt t 0x30 x w ∧ l = Machine.objIndex (s.thrOut t)) ∧
    (∃ (t : Fin 4096) (x : Machine.Thread) (w : Word) (l : Nat) (a : Word) (b : Word) (s : Machine.State), s.standsAt t 0x31 x w ∧ l = Machine.objIndex (s.thrOut t) ∧ a = x.ctx.val (Machine.cueR1 w) ∧ b = x.ctx.val (Machine.cueR2 w)) ∧
    (∃ (t : Fin 4096) (x : Machine.Thread) (w : Word) (l : Nat) (s : Machine.State), l = Machine.objIndex (s.thrOut t) ∧ s.standsAt t 0x32 x w) ∧
    (∃ (t : Fin 4096) (x : Machine.Thread) (w : Word) (l : Nat) (s : Machine.State), l = Machine.objIndex (s.thrOut t) ∧ s.standsAt t 0x33 x w) ∧
    (∃ (t : Fin 4096) (x : Machine.Thread) (w : Word) (l : Nat) (s : Machine.State), l = Machine.objIndex (s.thrOut t) ∧ s.standsAt t 0x34 x w) ∧
    (∃ (t : Fin 4096) (x : Machine.Thread) (w : Word) (l : Nat) (s : Machine.State), l = Machine.objIndex (s.thrOut t) ∧ s.standsAt t 0x35 x w) ∧
    (∃ (t : Fin 4096) (x : Machine.Thread) (w : Word) (r : Nat) (s : Machine.State), s.standsAt t 0x38 x w ∧ r = Machine.cueR1 w) ∧
    (∃ (t : Fin 4096) (x : Machine.Thread) (w : Word) (s : Machine.State), s.standsAt t 0x39 x w) ∧
    (∃ (t : Fin 4096) (x : Machine.Thread) (w : Word) (s : Machine.State), s.standsAt t 0x3A x w) :=
  ⟨⟨4095, runs ctx, 0xc002507f, 15, cueAt 16399 ctx 0xc002507f [], stands_at fr7 (by decide +kernel), by decide +kernel⟩,
   ⟨4095, runs ctx, 0xc4031000, 15, 0x80000000, 0xFFFFFFFF, cueAt 16399 ctx 0xc4031000 [], stands_at fr7 (by decide +kernel), by decide +kernel, by decide +kernel, by decide +kernel⟩,
   ⟨4095, runs ctx, 0xc8010fff, 15, cueAt 16399 ctx 0xc8010fff [], by decide +kernel, stands_at fr7 (by decide +kernel)⟩,
   ⟨4095, runs ctx, 0xcc00000f, 15, cueAt 16399 ctx 0xcc00000f [], by decide +kernel, stands_at fr7 (by decide +kernel)⟩,
   ⟨4095, runs ctx, 0xd0000000, 15, cueAt 16399 ctx 0xd0000000 [], by decide +kernel, stands_at fr7 (by decide +kernel)⟩,
   ⟨4095, runs ctx, 0xd4140000, 16, cueAt 16400 ctx 0xd4140000 [(F.CUE_THR_CFG_SAFE, 4095, 1), (F.WCOMP_SL_PDIM_VALID, 60, 1)], by decide +kernel, stands_at fr7 (by decide +kernel)⟩,
   ⟨4095, runs ctx, 0xe0090000, 9, cueAt 1023 ctx 0xe0090000 [], stands_at fr7 (by decide +kernel), by decide +kernel⟩,
   ⟨4095, runs ctx, 0xe4012000, cueAt 1023 ctx 0xe4012000 [], stands_at fr7 (by decide +kernel)⟩,
   ⟨4095, runs ctx, 0xe8012000, cueAt 1023 ctx 0xe8012000 [], stands_at fr7 (by decide +kernel)⟩⟩

theorem witness_CueFaultsHaveNoEffect :
    (∃ (t : Fin 4096) (x : Machine.Thread) (w : Word) (f : Machine.FrameTimes) (s : Machine.State), s.thread? t = some x ∧ x.st = 2 ∧ s.cueFetch (s.thrTd t) x.ctx.pc = w ∧ s.cueFault t x.ctx w ≠ 0 ∧ ((Machine.cueOp w = 0x19 ∨ Machine.cueOpListed (Machine.cueOp w) = false)) ∧ (s.tdOf (s.thrTd t)).opened = some f ∧ x.clock + (Machine.cueCost x.ctx w : Nat) < f.shutter) ∧
    (∃ (t : Fin 4096) (x : Machine.Thread) (w : Word) (f : Machine.FrameTimes) (s : Machine.State), s.thread? t = some x ∧ s.cueFetch (s.thrTd t) x.ctx.pc = w ∧ (s.tdOf (s.thrTd t)).opened = some f ∧ f.shutter ≤ x.clock + (Machine.cueCost x.ctx w : Nat)) :=
  ⟨⟨4095, runs ctx, 0x64500004, fr7, cueAt 1023 ctx 0x64500004 [], by decide +kernel⟩,
   ⟨4095, { runs ctx with clock := 41888887 }, 0x64500003, fr7, { cueAt 1023 ctx 0x64500003 [] with cue := { CueState.reset with thr := AMap.empty.set 4095 { runs ctx with clock := 41888887 } } }, by decide +kernel⟩⟩

end Tests.Isa

/-! ### Witnesses: ttb -/

namespace Tests.Ttb

theorem witness_TallyBusAnswers :
    (∃ (a : BitVec 16) (s : Machine.State), s.ttbDark = false ∧ s.flag F.TTB_CFG_EN 0 = true ∧ s.ttb.due = []) ∧
    (∃ (a : BitVec 16) (s : Machine.State), s.ttbDark = true) ∧
    (∃ (v : Word) (late : Fin 3) (s : Machine.State), s.ttbDark = false ∧ s.flag F.TTB_CFG_EN 0 = true ∧ s.cue.tq.length < 4096 ∧ (s.owner.find? (bitsOf v.toNat 0 16)).isSome = true) ∧
    (∃ (v : Word) (late : Fin 3) (s : Machine.State), s.ttbDark = false ∧ s.flag F.TTB_CFG_EN 0 = true ∧ 4096 ≤ s.cue.tq.length) ∧
    (∃ (v : Word) (s : Machine.State), s.ttbDark = false ∧ s.flag F.TTB_CFG_EN 0 = true) ∧
    (∃ (a : BitVec 16) (v : Word) (s : Machine.State), s.ttbDark = false ∧ s.flag F.TTB_CFG_EN 0 = true ∧ 4 ≤ a.toNat) ∧
    (∃ (v : Word) (s : Machine.State), s.ttbDark = false) ∧
    (∃ (a : BitVec 16) (v : Word) (late : Fin 3) (s : Machine.State), s.ttbDark = true) ∧
    (∃ (v : Word) (s : Machine.State), s.ttbDark = true) :=
  ⟨⟨0xFF00, st [(F.TTB_CFG_EN, 0, 1)], by decide +kernel⟩,
   ⟨0xFFFF, st [(F.RST_STAT_DARKROOM, 0, 1)], by decide +kernel⟩,
   ⟨1023, 2, { st [(F.TTB_CFG_EN, 0, 1)] with cue := { CueState.reset with tq := [] }, owner := AMap.empty.set 1023 5 }, by decide +kernel⟩,
   ⟨1023, 2, { st [(F.TTB_CFG_EN, 0, 1)] with cue := { CueState.reset with tq := List.replicate 4096 ⟨0, 0, 0, 0, 0, none⟩ }, owner := AMap.empty.set 1023 5 }, by decide +kernel⟩,
   ⟨0x12345678, st [(F.TTB_CFG_EN, 0, 1)], by decide +kernel⟩,
   ⟨4, 9, st [(F.TTB_CFG_EN, 0, 1)], by decide +kernel⟩,
   ⟨1, State.reset, by decide +kernel⟩,
   ⟨3, 1, 0, st [(F.RST_STAT_DARKROOM, 0, 1)], by decide +kernel⟩,
   ⟨1, st [(F.RST_STAT_DARKROOM, 0, 1)], by decide +kernel⟩⟩

end Tests.Ttb

/-! ### Witnesses: aud -/

namespace Tests.Aud

theorem witness_AudioPeriodsAndGroups :
    (∃ (o : Fin 16384) (g : Nat) (k : Nat) (c : Machine.AudChange) (s : Machine.State), s.memberOf o = some (g, k) ∧ ((s.audGroup g).member k).pend = some c ∧ ((s.audGroup g).member k).fade = none) ∧
    (∃ (o : Fin 16384) (s : Machine.State), s.memberOf o = none) ∧
    (∃ (g : Fin 2048) (v : Word) (s : Machine.State), s.owner.find? (2 ^ 13 + g) = none ∧ F.AUD_GRP_CFG_SIZE.of v ≤ 64 ∧ ((∀ x, x ∈ s.grps → x ≠ g.val → Machine.runsMeet (s.grpRun v).1 (s.grpRun v).2 (s.grpRun (s.reg .AUD_GRP_CFG x)).1 (s.grpRun (s.reg .AUD_GRP_CFG x)).2 = false))) ∧
    (∃ (g : Fin 2048) (v : Word) (s : Machine.State), (s.owner.find? (2 ^ 13 + g)).isSome = true) :=
  ⟨⟨16383, 5, 63, ⟨some 3, some (-5), none, 0, 50⟩, { st [(F.AUD_GRP_CFG_BASE, 5, 16320), (F.AUD_GRP_CFG_SIZE, 5, 64)] with aud := { AudState.reset with group := AMap.empty.set 5 { AudGroup.reset with members := AMap.empty.set 63 { AudMember.reset with pend := some ⟨some 3, some (-5), none, 0, 50⟩ } } } }, by decide +kernel⟩,
   ⟨16383, State.reset, by decide +kernel⟩,
   ⟨5, F.AUD_GRP_CFG_SIZE.put 16320 64, st [(F.AUD_GRP_CFG_BASE, 6, 16256), (F.AUD_GRP_CFG_SIZE, 6, 64)], by decide +kernel⟩,
   ⟨5, 0, { State.reset with owner := AMap.empty.set 8197 3 }, by decide +kernel⟩⟩

theorem witness_AudioFeedersConvertersAndPorts :
    (∃ (i : Fin 16384) (a : AudSample) (f : Machine.AudFeed) (s : Machine.State), s.feedOf i = some f ∧ s.feedPresent f = true ∧ f.kind ≠ 4 ∧ s.agrpOf i = none ∧ (s.inSlot i).buf.length < 128) ∧
    (∃ (i : Fin 16384) (a : AudSample) (s : Machine.State), s.feedOf i = none) ∧
    (∃ (a : Fin 1024) (v : Word) (s : Machine.State), s.flag F.AUD_AGRP_CFG_EN a = false ∧ 1 ≤ F.AUD_AGRP_CFG_COUNT.of v ∧ F.AUD_AGRP_CFG_COUNT.of v ≤ 64 ∧ 2 ≤ F.AUD_AGRP_CFG_DELAY.of v ∧ F.AUD_AGRP_CFG_DELAY.of v ≤ 60 ∧ ((∀ x, x ∈ s.agrps → x ≠ a.val → Machine.runsMeet (Machine.agrpSlots v).1 (Machine.agrpSlots v).2 (s.agrpRun x).1 (s.agrpRun x).2 = false))) ∧
    (∃ (a : Fin 1024) (v : Word) (s : Machine.State), ((F.AUD_AGRP_CFG_COUNT.of v = 0 ∨ 64 < F.AUD_AGRP_CFG_COUNT.of v ∨ F.AUD_AGRP_CFG_DELAY.of v < 2 ∨ 60 < F.AUD_AGRP_CFG_DELAY.of v))) ∧
    (∃ (c : Fin 64) (v : Word) (s : Machine.State), s.flag F.AUD_ASRC_CFG_EN c = false ∧ s.agrps.contains (F.AUD_ASRC_CFG_AGRP.of v) = true ∧ s.asrcMembers (F.AUD_ASRC_CFG_AGRP.of v) = true ∧ ((∀ d, d < 64 → d ≠ c.val → s.flag F.AUD_ASRC_CFG_EN d = true → s.fld F.AUD_ASRC_CFG_AGRP d ≠ F.AUD_ASRC_CFG_AGRP.of v))) ∧
    (∃ (c : Fin 64) (v : Word) (s : Machine.State), s.agrps.contains (F.AUD_ASRC_CFG_AGRP.of v) = false) ∧
    (∃ (c : Fin 64) (ratio : Word) (s : Machine.State), s.flag F.AUD_ASRC_CFG_EN c = true ∧ s.aud.bare.contains c.val = false ∧ s.asrcInRange c ratio.toNat = true) ∧
    (∃ (c : Fin 64) (ratio : Word) (s : Machine.State), s.flag F.AUD_ASRC_STAT_LOCKED c = true) ∧
    (∃ (u : Fin 72) (s : Machine.State), s.unitState (53 + u) = 0) ∧
    (∃ (u : Fin 72) (s : Machine.State), s.unitState (53 + u) ≠ 0 ∧ s.unitState (53 + u) ≠ 2) ∧
    (∃ (v : Word) (b : Nat) (s : Machine.State), (s.inSlot (s.csSlot (F.AUD_CS_CAP_SEL_CH.of v))).block = some b) ∧
    (∃ (p : Fin 16) (v : Word) (s : Machine.State), s.flag F.AUD_SP_CFG_EN p = false ∧ Machine.spCfgBad v = false ∧ F.AUD_SP_CFG_RX_EN.of v = 1 ∧ s.mayFeed (s.portFeed p v) = true) ∧
    (∃ (p : Fin 16) (v : Word) (s : Machine.State), Machine.spCfgBad v = true) ∧
    (∃ (p : Fin 16) (v : Word) (s : Machine.State), s.flag F.AUD_SP_CFG_EN p = true ∧ Machine.spCfgBad v = false ∧ (v ^^^ s.reg .AUD_SP_CFG p) &&& 0x0003FDFE#32 = 0) ∧
    (∃ (p : Fin 16) (s : Machine.State), (s.port p).releasing = true) ∧
    (∃ (p : Fin 16) (ch : Fin 2) (f : Aes3Frame) (s : Machine.State), s.rxWorks p = true ∧ s.fld F.AUD_SP_CFG_MODE p = 2 ∧ s.flag F.AUD_SP_STAT_RX_LOCK p = true ∧ f.parityError = false ∧ f.codeError = false ∧ bit (s.effFld F.AUD_SP_MASK_RX p) ch = true ∧ s.agrpOf (s.rxSlot p ch) = none ∧ (s.inSlot (s.rxSlot p ch)).buf.length < 128 ∧ (s.inSlot (s.csSlot (s.rxSlot p ch))).count ≠ some 191) ∧
    (∃ (p : Fin 16) (ch : Fin 2) (f : Aes3Frame) (s : Machine.State), s.flag F.AUD_SP_STAT_RX_LOCK p = false) ∧
    (∃ (p : Fin 16) (rate : BitVec 3) (s : Machine.State), s.rxWorks p = true ∧ s.fld F.AUD_SP_CFG_CLK p ≠ 0) ∧
    (∃ (p : Fin 16) (s : Machine.State), s.rxWorks p = true ∧ s.fld F.AUD_SP_CFG_CLK p ≠ 0 ∧ s.fld F.AUD_SP_CFG_MODE p = 2) ∧
    (∃ (s : Machine.State), s.flag F.AUD_STAT_INIT_DONE 0 = false) ∧
    (∃ (s : Machine.State), s.flag F.AUD_STAT_INIT_DONE 0 = true) :=
  ⟨⟨16383, ⟨0x800000, true, false, true, false⟩, ⟨3, 31, 16380, 4, false, true, false⟩, { st [(F.ULINK_STAT_STATE, 31, 5)] with aud := { AudState.reset with feeds := [⟨3, 31, 16380, 4, false, true, false⟩] } }, by decide +kernel⟩,
   ⟨16383, .absent, State.reset, by decide +kernel⟩,
   ⟨1023, F.AUD_AGRP_CFG_DELAY.put (F.AUD_AGRP_CFG_COUNT.put 64 64) 60, State.reset, by decide +kernel⟩,
   ⟨1023, F.AUD_AGRP_CFG_DELAY.put (F.AUD_AGRP_CFG_COUNT.put 64 64) 61, State.reset, by decide +kernel⟩,
   ⟨63, F.AUD_ASRC_CFG_AGRP.put 1 1023, { st [(F.AUD_AGRP_CFG_EN, 1023, 1), (F.AUD_AGRP_CFG_BASE, 1023, 64), (F.AUD_AGRP_CFG_COUNT, 1023, 2)] with aud := { AudState.reset with feeds := [⟨4, 15, 64, 2, false, true, true⟩], run := AMap.empty.set 1023 .reset } }, by decide +kernel⟩,
   ⟨63, 1, State.reset, by decide +kernel⟩,
   ⟨63, 2 ^ 28, { st [(F.AUD_AGRP_CFG_EN, 1023, 1), (F.AUD_AGRP_CFG_BASE, 1023, 64), (F.AUD_AGRP_CFG_COUNT, 1023, 2), (F.AUD_ASRC_CFG_EN, 63, 1), (F.AUD_ASRC_CFG_AGRP, 63, 1023), (F.AUD_ASRC_CFG_IN_RATE, 63, 2)] with aud := { AudState.reset with feeds := [⟨4, 15, 64, 2, false, true, true⟩], run := AMap.empty.set 1023 .reset } }, by decide +kernel⟩,
   ⟨63, 9, st [(F.AUD_ASRC_STAT_LOCKED, 63, 1)], by decide +kernel⟩,
   ⟨0, State.reset, by decide +kernel⟩,
   ⟨71, State.reset, by decide +kernel⟩,
   ⟨F.AUD_CS_CAP_SEL_CH.put 0 16383, 2 ^ 191 + 1, { st [] with aud := { AudState.reset with slot := AMap.empty.set 16383 { InSlot.reset with block := some (2 ^ 191 + 1) } } }, by decide +kernel⟩,
   ⟨15, F.AUD_SP_CFG_RX_EN.put (F.AUD_SP_CFG_CLK.put (F.AUD_SP_CFG_MODE.put (0) 2) 2) 1, State.reset, by decide +kernel⟩,
   ⟨15, F.AUD_SP_CFG_CLK.put (F.AUD_SP_CFG_MODE.put (0) 2) 0, State.reset, by decide +kernel⟩,
   ⟨15, 0, st [(F.AUD_SP_CFG_EN, 15, 1)], by decide +kernel⟩,
   ⟨15, { st [] with aud := { AudState.reset with sp := AMap.empty.set 15 { SerialPort.reset with releasing := true } } }, by decide +kernel⟩,
   ⟨15, 1, ⟨.absent, false, false⟩, st [(F.AUD_SP_CFG_EN, 15, 1), (F.AUD_SP_CFG_RX_EN, 15, 1), (F.AUD_SP_CFG_MODE, 15, 2), (F.AUD_SP_CFG_CLK, 15, 2), (F.AUD_SP_STAT_RX_LOCK, 15, 1), (F.AUD_SP_CH_IN_BASE, 15, 100)], by decide +kernel⟩,
   ⟨15, 1, ⟨.absent, false, false⟩, State.reset, by decide +kernel⟩,
   ⟨15, 3, st [(F.AUD_SP_CFG_EN, 15, 1), (F.AUD_SP_CFG_RX_EN, 15, 1), (F.AUD_SP_CFG_MODE, 15, 2), (F.AUD_SP_CFG_CLK, 15, 2)], by decide +kernel⟩,
   ⟨15, st [(F.AUD_SP_CFG_EN, 15, 1), (F.AUD_SP_CFG_RX_EN, 15, 1), (F.AUD_SP_CFG_MODE, 15, 2), (F.AUD_SP_CFG_CLK, 15, 2)], by decide +kernel⟩,
   ⟨State.reset, by decide +kernel⟩,
   ⟨st [(F.AUD_STAT_INIT_DONE, 0, 1)], by decide +kernel⟩⟩

end Tests.Aud

/-! ### Witnesses: wcomp -/

namespace Tests.Wcomp

/-- A wall frame with some bands composed. -/
def wf (n : Word) (done : List Nat) : WallFrame := ⟨n, 100, (0, 0, 0), [], .reset, done, [], []⟩

theorem witness_CompositorComposesCapturesAndProtects :
    (∃ (q : Fin 16) (v : Word) (s : Machine.State), F.WCOMP_PIPE_CFG_USER.of v ≠ 3 ∧ ((F.WCOMP_PIPE_CFG_USER.of v = 2 → F.WCOMP_PIPE_CFG_INDEX.of v ≤ 15)) ∧ ((∀ d, Machine.pipeUserOf (F.WCOMP_PIPE_CFG_USER.of v) (F.WCOMP_PIPE_CFG_INDEX.of v) = some d → ∀ p, p < 16 → s.pipeUser p ≠ some d)) ∧ s.pipeBusy q = false) ∧
    (∃ (q : Fin 16) (v : Word) (s : Machine.State) (d : Nat) (p : Fin 16), Machine.pipeUserOf (F.WCOMP_PIPE_CFG_USER.of v) (F.WCOMP_PIPE_CFG_INDEX.of v) = some d ∧ p ≠ q ∧ s.pipeUser p = some d ∧ s.pipeUser q ≠ some d) ∧
    (∃ (u : Fin 17) (s : Machine.State), s.unitState (36 + u) = 0 ∧ s.spareFor (36 + u) = none) ∧
    (∃ (u : Fin 17) (e : Nat) (s : Machine.State), s.unitState (36 + u) = 0 ∧ s.spareFor (36 + u) = some (36 + e) ∧ e < 17 ∧ e ≠ u.val) ∧
    (∃ (v : Word) (s : Machine.State), s.wallOn = false ∧ s.safeLocked = false ∧ s.wallMayStart (F.WCOMP_CFG_TD.of v) = true) ∧
    (∃ (v : Word) (s : Machine.State), s.wallOn = false ∧ s.tdEn (F.WCOMP_CFG_TD.of v) = false) ∧
    (∃ (a : Nat) (bs : List Byte) (s : Machine.State), s.mem.wf = true ∧ 0x03E0000000 ≤ a ∧ a + bs.length ≤ 0x0400000000 ∧ 0 < bs.length) ∧
    (∃ (m : Fin 8) (a : Nat) (bs : List Byte) (s : Machine.State), m ≠ 5 ∧ 0x03E0000000 ≤ a ∧ a < 0x0400000000) ∧
    (∃ (m : Fin 8) (v : Word) (s : Machine.State), m ≠ 5 ∧ m ≠ 7) ∧
    (∃ (v : Word) (s : Machine.State), s.wallOn = true ∧ s.capPermitted = true ∧ s.flag F.WCOMP_CAP_STAT_BUSY 0 = false) ∧
    (∃ (v : Word) (s : Machine.State), s.capPermitted = false) ∧
    (∃ (n : Word) (f : Machine.WallFrame) (s : Machine.State), s.wcomp.capFrame = some n ∧ s.wallFrame n = some f ∧ s.flag F.WCOMP_CAP_STAT_BUSY 0 = true ∧ s.frameWhole f = true) ∧
    (∃ (s : Machine.State), s.flag F.WCOMP_CAP_STAT_BUSY 0 = true ∧ s.capPermitted = false) ∧
    (∃ (frame : Word) (band : Nat) (k : Nat) (f : Machine.WallFrame) (s : Machine.State), s.wallFrame frame = some f ∧ band < s.bands ∧ f.done.contains band = false ∧ f.frame = frame) ∧
    (∃ (frame : Word) (band : Nat) (k : Nat) (f : Machine.WallFrame) (s : Machine.State), s.wallFrame frame = some f ∧ band < s.bands ∧ f.done.contains band = false ∧ f.frame = frame) :=
  ⟨⟨15, F.WCOMP_PIPE_CFG_INDEX.put (F.WCOMP_PIPE_CFG_USER.put 0 2) 15, State.reset, by decide +kernel⟩,
   ⟨15, F.WCOMP_PIPE_CFG_INDEX.put (F.WCOMP_PIPE_CFG_USER.put 0 1) 1023, st [(F.WCOMP_PIPE_CFG_USER, 0, 1), (F.WCOMP_PIPE_CFG_INDEX, 0, 1023)], 1023, 0, by decide +kernel⟩,
   ⟨0, st [(F.WCOMP_UNIT_STATE, 16, 3)], by decide +kernel⟩,
   ⟨0, 16, st [(F.VAULT_LG_BIST_VERDICT, 52, 1)], by decide +kernel⟩,
   ⟨F.WCOMP_CFG_TD.put 1 7, st [(F.REF_TD_CFG_EN, 7, 1), (F.REF_TD_CFG_RATE, 7, 1), (F.REF_TD_LINES_TOTAL_LINES, 7, 1125)], by decide +kernel⟩,
   ⟨F.WCOMP_CFG_TD.put 1 7, State.reset, by decide +kernel⟩,
   ⟨0x03FFFFFFFC, [1, 2, 3, 4], State.reset, by decide +kernel⟩,
   ⟨6, 0x03FFFFFFFC, [1, 2, 3, 4], State.reset, by decide +kernel⟩,
   ⟨6, 1, State.reset, by decide +kernel⟩,
   ⟨0, st [(F.WCOMP_CFG_EN, 0, 1), (F.WCOMP_CANVAS_W_M1, 0, 64), (F.WCOMP_CANVAS_H_M1, 0, 0)], by decide +kernel⟩,
   ⟨0, st [(F.RST_STAT_LC, 0, 1), (F.RST_HEALTH_HEALTH_OK, 0, 1)], by decide +kernel⟩,
   ⟨7, wf 7 [0], { st [(F.WCOMP_CFG_EN, 0, 1), (F.WCOMP_CANVAS_W_M1, 0, 64), (F.WCOMP_CANVAS_H_M1, 0, 0), (F.WCOMP_CAP_STAT_BUSY, 0, 1)] with wcomp := { WcompState.reset with cur := some (wf 7 [0]), capFrame := some 7 } }, by decide +kernel⟩,
   ⟨st [(F.WCOMP_CAP_STAT_BUSY, 0, 1), (F.RST_STAT_LC, 0, 1), (F.RST_HEALTH_HEALTH_OK, 0, 1)], by decide +kernel⟩,
   ⟨7, 0, 0, wf 7 [], { st [(F.WCOMP_CFG_EN, 0, 1), (F.WCOMP_CANVAS_W_M1, 0, 64), (F.WCOMP_CANVAS_H_M1, 0, 0)] with wcomp := { WcompState.reset with cur := some (wf 7 []) } }, by decide +kernel⟩,
   ⟨7, 0, 0, wf 7 [], { st [(F.WCOMP_CFG_EN, 0, 1), (F.WCOMP_CANVAS_W_M1, 0, 64), (F.WCOMP_CANVAS_H_M1, 0, 0)] with wcomp := { WcompState.reset with cur := some (wf 7 []) } }, by decide +kernel⟩⟩

end Tests.Wcomp

/-! ### Witnesses: wscan -/

namespace Tests.Wscan

/-- A wall frame whose bands have not been sent. -/
def wf (n : Word) (ls : List WallLayer) : WallFrame := ⟨n, 100, (0, 0, 0), ls, .reset, [], [], []⟩

/-- A layer 0 that covers the top left lamp. -/
def lay : WallLayer := ⟨0, .reset, 0, [], false, 0, 0, 0⟩

/-- A frame of a tile with a payload. -/
def tfr (b : List Byte) : EthFrame :=
  ⟨macFrame (beBytes 6 1 ++ beBytes 6 0x024354000007 ++ beBytes 2 0x88B5 ++ [1, 4] ++ beBytes 4 0 ++ beBytes 2 b.length ++ b), false⟩

/-- A report of state, of identity (size 1 × 1), and a piece of the record. -/
def stat (flags temp ofs : Nat) : List Byte := [1, 7] ++ beBytes 2 flags ++ beBytes 2 temp ++ beBytes 4 ofs ++ List.replicate 30 0
def idn (serial w : Nat) : List Byte := [2, 7] ++ beBytes 8 serial ++ beBytes 2 w ++ beBytes 2 1 ++ List.replicate 26 0
def piece : List Byte := [3, 5] ++ beBytes 4 64 ++ beBytes 2 16 ++ (List.range 16).map (BitVec.ofNat 8) ++ List.replicate 16 0

/-- Tile 1023 at place 7 of port 127 in state `n`, its link up, with fields set. -/
def tile (n : Nat) (l : List (Fld × Nat × Nat)) : State :=
  st ([(F.WSCAN_TILE_CFG_EN, 1023, 1), (F.WSCAN_TILE_CFG_PORT, 1023, 127), (F.WSCAN_TILE_CFG_POS, 1023, 7), (F.WSCAN_TILE_STAT_STATE, 1023, n),
    (F.WSCAN_PORT_CFG_EN, 127, 1), (F.WSCAN_PORT_CFG_LANE, 127, 126), (F.LANE_STAT_CDR_LOCK, 126, 1), (F.WSCAN_THERM_TILE_TEMP_LIMIT, 0, 90),
    (F.WSCAN_LC_BASE_B_BASE, 0, 1), (F.WSCAN_TILE_DIM_W_M1, 1023, 0), (F.WSCAN_TILE_DIM_H_M1, 1023, 0)] ++ l)

/-- Its loading. -/
def load1 (sends : Nat) : TileLoad := ⟨80, [⟨5, 64, 16, sends, 100⟩], 64, [], true, 77⟩

theorem witness_ScanOutSendsTheWall :
    (∃ (v : Word) (s : Machine.State), F.WSCAN_CFG_SCAN_MARGIN.of v ≤ 1000 ∧ 10 ≤ F.WSCAN_CFG_LATCH_DELAY.of v ∧ F.WSCAN_CFG_LATCH_DELAY.of v ≤ 1000 ∧ ((∀ n, n = Machine.plainWrite .WSCAN_CFG 0 (v ||| 1#32) s → n.scanOfsOk = true ∧ n.portsFit = true ∧ n.scanFits = true))) ∧
    (∃ (v : Word) (s : Machine.State), ((1000 < F.WSCAN_CFG_SCAN_MARGIN.of v ∨ F.WSCAN_CFG_LATCH_DELAY.of v < 10 ∨ 1000 < F.WSCAN_CFG_LATCH_DELAY.of v))) ∧
    (∃ (i : Fin 1024) (v : Word) (s : Machine.State), s.tileOn i = false ∧ ((∀ n, n = Machine.plainWrite .WSCAN_TILE_CFG i (v ||| 1#32) s → n.footInside i = true ∧ n.lampsClash i = false ∧ n.placeTaken i = false ∧ (s.scanOn = true → n.portsFit = true ∧ n.scanFits = true)))) ∧
    (∃ (i : Fin 1024) (v : Word) (s : Machine.State), s.tileOn i = false ∧ ((∀ n, n = Machine.plainWrite .WSCAN_TILE_CFG i (v ||| 1#32) s → n.footInside i = false))) ∧
    (∃ (frame : Word) (band : Nat) (f : Machine.WallFrame) (s : Machine.State), s.wallFrame frame = some f ∧ f.frame = frame ∧ s.scanOn = true ∧ f.sent.contains band = false ∧ band < s.bands) ∧
    (∃ (p : Fin 128) (s : Machine.State), s.scanOn = true ∧ s.tileLink p = true) ∧
    (∃ (c : Machine.WallFrame) (f : Machine.WallFrame) (d : Nat) (s : Machine.State), s.wcomp.cur = some c ∧ s.wcomp.last = some f ∧ s.scanOn = true ∧ (d : Int) = c.shutter + (s.scanOfs : Nat) + (s.fld F.WSCAN_CFG_LATCH_DELAY 0 * 1000 : Nat)) ∧
    (∃ (f : Machine.FrameTimes) (s : Machine.State), (s.tdOf s.wallTd).last = some f ∧ s.flag F.WSCAN_CFG_LOOP_EN 0 = true ∧ s.wscan.loopAt / 6000000000 < f.shutter / 6000000000) ∧
    (∃ (r : Fin 64) (f : Machine.WallFrame) (s : Machine.State), s.wcomp.cur = some f ∧ s.flag F.WSCAN_REG_SIZE_EN r = true ∧ (s.reg .WSCAN_REG_SIG r).toNat ≠ s.regionSig r f) ∧
    (∃ (r : Fin 64) (f : Machine.WallFrame) (x : Machine.WallLayer) (s : Machine.State), s.wcomp.cur = some f ∧ s.flag F.WSCAN_REG_SIZE_EN r = true ∧ (s.reg .WSCAN_REG_SIG r).toNat = s.regionSig r f ∧ (s.wscan.proof.get ⟨0, false⟩ r).taken = true ∧ x ∈ f.layers ∧ x.idx ∈ s.wscan.advanced ∧ s.layerMeets x.set r = true) ∧
    (∃ (r : Fin 64) (b : Bool) (s : Machine.State), s.flag F.WSCAN_REG_SIZE_EN r = false) :=
  ⟨⟨F.WSCAN_CFG_LATCH_DELAY.put (F.WSCAN_CFG_SCAN_MARGIN.put 0 2) 1000, st [(F.WCOMP_CFG_EN, 0, 1), (F.WCOMP_CANVAS_W_M1, 0, 63), (F.WCOMP_CANVAS_H_M1, 0, 63), (F.WCOMP_BAND_HEIGHT_M1, 0, 0)], by decide +kernel, by decide +kernel, by decide +kernel, by intro n h; subst h; decide +kernel⟩,
   ⟨F.WSCAN_CFG_LATCH_DELAY.put (F.WSCAN_CFG_SCAN_MARGIN.put 0 2) 9, State.reset, by decide +kernel⟩,
   ⟨1023, 0x0, st [(F.WCOMP_CFG_EN, 0, 1), (F.WCOMP_CANVAS_W_M1, 0, 63), (F.WCOMP_CANVAS_H_M1, 0, 63), (F.WCOMP_BAND_HEIGHT_M1, 0, 0)], by decide +kernel, by intro n h; subst h; decide +kernel⟩,
   ⟨1023, 0x0, st [(F.WCOMP_CANVAS_W_M1, 0, 0), (F.WSCAN_TILE_ORG_X0, 1023, 5)], by decide +kernel, by intro n h; subst h; decide +kernel⟩,
   ⟨7, 63, wf 7 [], { st [(F.WCOMP_CFG_EN, 0, 1), (F.WCOMP_CANVAS_W_M1, 0, 63), (F.WCOMP_CANVAS_H_M1, 0, 63), (F.WCOMP_BAND_HEIGHT_M1, 0, 0), (F.WSCAN_CFG_EN, 0, 1), (F.WSCAN_CFG_LATCH_DELAY, 0, 10)] with wcomp := { WcompState.reset with cur := some (wf 7 []) } }, by decide +kernel⟩,
   ⟨127, st [(F.WSCAN_CFG_EN, 0, 1), (F.WSCAN_CFG_LATCH_DELAY, 0, 10), (F.WSCAN_PORT_CFG_EN, 127, 1), (F.WSCAN_PORT_CFG_LANE, 127, 126), (F.LANE_STAT_CDR_LOCK, 126, 1)], by decide +kernel⟩,
   ⟨wf 8 [], wf 7 [], 100 + 651041 + 10000, { st [(F.WCOMP_CFG_EN, 0, 1), (F.WCOMP_CANVAS_W_M1, 0, 63), (F.WCOMP_CANVAS_H_M1, 0, 63), (F.WCOMP_BAND_HEIGHT_M1, 0, 0), (F.WSCAN_CFG_EN, 0, 1), (F.WSCAN_CFG_LATCH_DELAY, 0, 10), (F.WSCAN_PORT_CFG_EN, 127, 1), (F.WSCAN_PORT_CFG_LANE, 127, 126), (F.LANE_STAT_CDR_LOCK, 126, 1), (F.WSCAN_CFG_SCAN_MARGIN, 0, 0), (F.REF_TD_CFG_RATE, 0, 1)] with wcomp := { WcompState.reset with cur := some (wf 8 []), last := some (wf 7 []) } }, by decide +kernel⟩,
   ⟨⟨1, 2, 6000000000, 4⟩, { st [(F.WSCAN_CFG_LOOP_EN, 0, 1)] with td := AMap.empty.set 0 { TdState.reset with last := some ⟨1, 2, 6000000000, 4⟩ } }, by decide +kernel⟩,
   ⟨63, wf 7 [], { st [(F.WSCAN_REG_SIZE_EN, 63, 1), (⟨.WSCAN_REG_SIG, 0, 32⟩, 63, 1)] with wcomp := { WcompState.reset with cur := some (wf 7 []) } }, by decide +kernel⟩,
   ⟨63, wf 7 [lay], lay, { st [(F.WSCAN_REG_SIZE_EN, 63, 1), (⟨.WSCAN_REG_SIG, 0, 32⟩, 63, (st [(F.WSCAN_REG_SIZE_EN, 63, 1)]).regionSig 63 (wf 7 [lay]))] with wcomp := { WcompState.reset with cur := some (wf 7 [lay]) }, wscan := { WscanState.reset with proof := AMap.empty.set 63 ⟨3, true⟩, advanced := [0] } }, by decide +kernel⟩,
   ⟨63, true, State.reset, by decide +kernel⟩⟩

theorem witness_TilesReportLoadAndSynchronise :
    (∃ (p : Fin 128) (f : EthFrame) (b : List Byte) (i : Nat) (s : Machine.State), Machine.tileReceive p f s = (some b, s) ∧ fieldAt b 0 1 = 1 ∧ s.tileAt p (fieldAt b 1 1) = some i ∧ 2 ≤ s.tileState i ∧ s.tileState i ≤ 5 ∧ bit (fieldAt b 2 2) 8 = false ∧ 16 * (s.fld F.WSCAN_THERM_TILE_TEMP_LIMIT 0 : Int) ≤ signed 16 (fieldAt b 4 2)) ∧
    (∃ (p : Fin 128) (f : EthFrame) (b : List Byte) (i : Nat) (s : Machine.State), Machine.tileReceive p f s = (some b, s) ∧ fieldAt b 0 1 = 1 ∧ s.tileAt p (fieldAt b 1 1) = some i ∧ 2 ≤ s.tileState i ∧ s.tileState i ≤ 5 ∧ bit (fieldAt b 2 2) 8 = true) ∧
    (∃ (p : Fin 128) (f : EthFrame) (b : List Byte) (i : Nat) (s : Machine.State), Machine.tileReceive p f s = (some b, s) ∧ fieldAt b 0 1 = 1 ∧ s.tileAt p (fieldAt b 1 1) = some i ∧ s.tileState i = 3 ∧ (s.tileRun i).inSync = 2 ∧ bit (fieldAt b 2 2) 8 = false ∧ bit (fieldAt b 2 2) 1 = true ∧ (signed 32 (fieldAt b 6 4)).natAbs ≤ 1000 ∧ signed 16 (fieldAt b 4 2) < 16 * (s.fld F.WSCAN_THERM_TILE_TEMP_LIMIT 0 : Int)) ∧
    (∃ (p : Fin 128) (f : EthFrame) (s : Machine.State), s.flag F.WSCAN_PORT_CFG_EN p = true ∧ f.fault false = 0 ∧ f.tagged = false ∧ f.type = 0x88B5 ∧ ((fieldAt f.payload 0 1 ≠ 1 ∨ fieldAt f.payload 1 1 ≠ 4))) ∧
    (∃ (i : Fin 1024) (c : Nat) (s : Machine.State), s.tileState i = 5 ∧ (s.tileRun i).cool = some c) ∧
    (∃ (i : Fin 1024) (down : Bool) (s : Machine.State), 2 ≤ s.tileState i ∧ s.tileState i ≤ 5) ∧
    (∃ (p : Fin 128) (f : EthFrame) (b : List Byte) (i : Nat) (s : Machine.State), Machine.tileReceive p f s = (some b, s) ∧ fieldAt b 0 1 = 2 ∧ s.tileAt p (fieldAt b 1 1) = some i ∧ s.tileState i ≠ 7 ∧ s.tileState i ≠ 2 ∧ fieldAt b 10 2 = s.tileW i ∧ fieldAt b 12 2 = s.tileH i ∧ fieldAt b 2 8 ≠ s.tileSerial i) ∧
    (∃ (p : Fin 128) (f : EthFrame) (b : List Byte) (i : Nat) (s : Machine.State), Machine.tileReceive p f s = (some b, s) ∧ fieldAt b 0 1 = 2 ∧ s.tileAt p (fieldAt b 1 1) = some i ∧ ((s.tileState i = 1 ∨ s.tileState i = 6)) ∧ fieldAt b 10 2 = s.tileW i ∧ fieldAt b 12 2 = s.tileH i ∧ fieldAt b 2 8 = s.tileSerial i) ∧
    (∃ (p : Fin 128) (f : EthFrame) (b : List Byte) (i : Nat) (s : Machine.State), Machine.tileReceive p f s = (some b, s) ∧ fieldAt b 0 1 = 2 ∧ s.tileAt p (fieldAt b 1 1) = some i ∧ ((fieldAt b 10 2 ≠ s.tileW i ∨ fieldAt b 12 2 ≠ s.tileH i)) ∧ s.tileState i ≠ 7) ∧
    (∃ (p : Fin 128) (f : EthFrame) (b : List Byte) (s : Machine.State), Machine.tileReceive p f s = (some b, s) ∧ fieldAt b 0 1 = 2 ∧ s.tileAt p (fieldAt b 1 1) = none) ∧
    (∃ (p : Fin 128) (f : EthFrame) (b : List Byte) (i : Nat) (l : Machine.TileLoad) (r : Machine.IdRead) (k : Nat) (s : Machine.State), Machine.tileReceive p f s = (some b, s) ∧ fieldAt b 0 1 = 3 ∧ s.tileAt p (fieldAt f.bytes 11 1) = some i ∧ (s.tileRun i).load = some l ∧ l.headOk = true ∧ l.next < l.len ∧ r ∈ l.reads ∧ l.reads.find? (fun x => x.tag == fieldAt b 1 1 && x.offset == fieldAt b 2 4 && x.len == fieldAt b 6 2) = some r ∧ 64 ≤ r.offset ∧ r.offset + r.len ≤ 64 + 16 * s.tileW i * s.tileH i ∧ r.len + 8 ≤ b.length ∧ s.mem.wf = true ∧ k = 16 * s.fld F.WSCAN_TILE_LC_LCI i + (r.offset - 64) ∧ ((s.lcAddr false 0 + k + r.len ≤ s.lcAddr true 0 + k ∨ s.lcAddr true 0 + k + r.len ≤ s.lcAddr false 0 + k))) ∧
    (∃ (p : Fin 128) (f : EthFrame) (b : List Byte) (i : Nat) (s : Machine.State), Machine.tileReceive p f s = (some b, s) ∧ fieldAt b 0 1 = 3 ∧ s.tileAt p (fieldAt f.bytes 11 1) = some i ∧ (s.tileRun i).load = none) ∧
    (∃ (i : Fin 1024) (tag : BitVec 8) (l : Machine.TileLoad) (r : Machine.IdRead) (s : Machine.State), (s.tileRun i).load = some l ∧ l.reads.find? (fun x => x.tag == tag.toNat) = some r ∧ 3 ≤ r.sends) ∧
    (∃ (i : Fin 1024) (tag : BitVec 8) (l : Machine.TileLoad) (r : Machine.IdRead) (s : Machine.State), (s.tileRun i).load = some l ∧ l.reads.find? (fun x => x.tag == tag.toNat) = some r ∧ r.sends < 3) ∧
    (∃ (p : Fin 128) (s : Machine.State), s.tileLink p = true) ∧
    (∃ (p : Fin 128) (s : Machine.State), s.tileLink p = false) :=
  ⟨⟨127, tfr (stat 0 1440 0), stat 0 1440 0, 1023, tile 4 [], by decide +kernel⟩,
   ⟨127, tfr (stat 256 0 0), stat 256 0 0, 1023, tile 5 [], by decide +kernel⟩,
   ⟨127, tfr (stat 2 0 0xFFFFFC18), stat 2 0 0xFFFFFC18, 1023, { tile 3 [] with wscan := { WscanState.reset with tile := AMap.empty.set 1023 { TileRun.reset with inSync := 2 } } }, by decide +kernel⟩,
   ⟨127, ⟨macFrame (beBytes 12 0 ++ beBytes 2 0x88B5 ++ [2, 4]), false⟩, tile 4 [], by decide +kernel⟩,
   ⟨1023, 50, { tile 5 [] with wscan := { WscanState.reset with tile := AMap.empty.set 1023 { TileRun.reset with cool := some 50 } } }, by decide +kernel⟩,
   ⟨1023, true, tile 2 [], by decide +kernel⟩,
   ⟨127, tfr (idn 77 1), idn 77 1, 1023, tile 1 [], by decide +kernel⟩,
   ⟨127, tfr (idn 0 1), idn 0 1, 1023, tile 6 [], by decide +kernel⟩,
   ⟨127, tfr (idn 0 2), idn 0 2, 1023, tile 1 [], by decide +kernel⟩,
   ⟨127, tfr (idn 0 1), idn 0 1, State.reset.setFlag F.WSCAN_PORT_CFG_EN 127 true, by decide +kernel⟩,
   ⟨127, tfr (piece), piece, 1023, load1 1, ⟨5, 64, 16, 1, 100⟩, 0, { tile 2 [] with wscan := { WscanState.reset with tile := AMap.empty.set 1023 { TileRun.reset with load := some { load1 1 with next := 64 } } } }, by decide +kernel⟩,
   ⟨127, tfr (piece), piece, 1023, tile 2 [], by decide +kernel⟩,
   ⟨1023, 5, load1 3, ⟨5, 64, 16, 3, 100⟩, { tile 2 [] with wscan := { WscanState.reset with tile := AMap.empty.set 1023 { TileRun.reset with load := some (load1 3) } } }, by decide +kernel⟩,
   ⟨1023, 5, load1 2, ⟨5, 64, 16, 2, 100⟩, { tile 2 [] with wscan := { WscanState.reset with tile := AMap.empty.set 1023 { TileRun.reset with load := some (load1 2) } } }, by decide +kernel⟩,
   ⟨127, tile 4 [], by decide +kernel⟩,
   ⟨127, State.reset, by decide +kernel⟩⟩

end Tests.Wscan

/-! ### Witnesses: bus -/

namespace Tests.Bus

theorem witness_CoresHandOverRestartAndInterrupt :
    (∃ (c : Fin 5) (e : Fin 5) (m : Machine.Migration) (s : Machine.State), s.vault.migr.find? 4 = some m ∧ m.leaving = 125 + c ∧ m.spare = 125 + e ∧ c ≠ e ∧ m.retire = false ∧ s.coreState c = 2 ∧ s.outstanding c = false) ∧
    (∃ (m : Machine.Migration) (s : Machine.State), s.vault.migr.find? 4 = some m ∧ s.outstanding (m.leaving - 125) = true) ∧
    (∃ (c : Fin 5) (s : Machine.State), s.coreServes c = true ∧ s.hartUp (s.hartOf c) = true ∧ s.rst.level = 0 ∧ s.rst.inStart = false ∧ s.vault.migr.find? 4 = none) ∧
    (∃ (c : Fin 5) (s : Machine.State), s.coreServes c = true) ∧
    (∃ (c : Fin 5) (s : Machine.State), s.coreServes c = false) ∧
    (∃ (h : Fin 4) (s : Machine.State), s.timeCmp h < 2 ^ 63 ∧ s.ptp.resid = 0 ∧ s.domRuns s.curDom = true) :=
  ⟨⟨4, 3, ⟨129, 128, false, 0, [], []⟩, { st [(F.CPU_CORE_STAT_STATE, 4, 2), (F.CPU_CORE_STAT_STATE, 3, 1), (F.CPU_CORE_STAT_HART, 4, 3)] with vault := { VaultState.reset with migr := AMap.empty.set 4 ⟨129, 128, false, 0, [], []⟩ } }, by decide +kernel⟩,
   ⟨⟨129, 128, false, 0, [], []⟩, { st [(F.CPU_CORE_STAT_STATE, 4, 2), (F.CPU_CORE_STAT_STATE, 3, 1), (F.CPU_CORE_STAT_HART, 4, 3)] with vault := { VaultState.reset with migr := AMap.empty.set 4 ⟨129, 128, false, 0, [], []⟩ }, bus := { BusState.reset with req := AMap.empty.set 4 ⟨⟨true, false, 0x1000000000, 3, 0, []⟩, 0⟩ } }, by decide +kernel⟩,
   ⟨4, { st [(F.CPU_CORE_STAT_STATE, 4, 0), (F.CPU_CORE_STAT_HART, 4, 3), (F.CPU_STAT_HARTS_UP, 0, 15)] with rst := { RstState.reset with level := 0 } }, by decide +kernel⟩,
   ⟨4, st [(F.CPU_CORE_STAT_STATE, 4, 0)], by decide +kernel⟩,
   ⟨4, st [(F.CPU_CORE_STAT_STATE, 4, 1)], by decide +kernel⟩,
   ⟨3, st [(⟨.CPU_MTIMECMP_LO, 0, 32⟩, 3, 1000), (⟨.CPU_MTIMECMP_HI, 0, 32⟩, 3, 0)], by decide +kernel⟩⟩

theorem witness_BusGrantsLocksStallsAndDma :
    (∃ (m : Fin 8) (x : BusOp) (s : Machine.State), s.bus.req.find? m = none ∧ s.mayIssue m = true ∧ Machine.opFits x = true) ∧
    (∃ (m : Fin 8) (x : BusOp) (s : Machine.State), ((s.bus.req.find? m).isSome = true ∨ Machine.opFits x = false)) ∧
    (∃ (m : Nat) (n : Nat) (r : Machine.BusReq) (s : Machine.State), m ∈ s.waiting .sram ∧ s.bus.turn.get 0 1 < 8 ∧ ((∀ k, k ∈ s.waiting .sram → (m + 8 - s.bus.turn.get 0 1) % 8 ≤ (k + 8 - s.bus.turn.get 0 1) % 8)) ∧ s.bus.req.find? m = some r ∧ r.op.lock = false ∧ n = Machine.opBeats r.op * Machine.opBeat r.op ∧ s.mem.wf = true ∧ s.dbgDenied m = false) ∧
    (∃ (m : Nat) (r : Machine.BusReq) (s : Machine.State), s.waiting .flash = [m] ∧ s.bus.turn.get 0 3 < 8 ∧ s.bus.req.find? m = some r ∧ r.op.write = true) ∧
    (∃ (p : BusPort) (s : Machine.State), s.waiting p = []) ∧
    (∃ (p : BusPort) (l : Machine.BusLock) (s : Machine.State), s.bus.lock.find? (Machine.portNum p) = some l ∧ l.master ≠ 6) ∧
    (∃ (p : BusPort) (s : Machine.State), s.bus.lock.find? (Machine.portNum p) = none) ∧
    (∃ (m : Fin 8) (r : Machine.BusReq) (s : Machine.State), s.bus.req.find? m = some r ∧ Machine.opPort r.op = none ∧ s.bus.stalled.contains m.val = false) ∧
    (∃ (v : Word) (s : Machine.State), (v.getLsbD 6 = false ∨ s.bus.stalled.contains 6 = false)) ∧
    (∃ (c : Nat) (v : Word) (s : Machine.State), s.dmaAccessing = some c ∧ v.getLsbD 6 = true ∧ s.bus.stalled.contains 6 = true) ∧
    (∃ (c : Fin 8) (v : Word) (x : Machine.DmaDesc) (s : Machine.State), s.bus.dma.find? c = none ∧ F.BUS_DMA_CTL_STOP.of v = 0 ∧ s.descriptor (s.dmaFirst c) = some x) ∧
    (∃ (c : Fin 8) (v : Word) (s : Machine.State), s.bus.dma.find? c = none ∧ s.descriptor (s.dmaFirst c) = none) ∧
    (∃ (c : Fin 8) (v : Word) (s : Machine.State), (s.bus.dma.find? c).isSome = true) ∧
    (∃ (c : Fin 8) (v : Word) (s : Machine.State), (s.bus.dma.find? c).isSome = true ∧ F.BUS_DMA_CTL_GO.of v = 0) ∧
    (∃ (c : Fin 8) (x : Machine.DmaDesc) (s : Machine.State), s.bus.dma.find? c = some x ∧ s.bus.req.find? 6 = none ∧ x.flags % 16 = 0 ∧ bit x.flags 6 = true ∧ x.len % 8 = 0 ∧ 0x1000000000 ≤ x.src ∧ x.src + x.len ≤ 0x1000400000 ∧ 0x1000000000 ≤ x.dst ∧ x.dst + x.len ≤ 0x1000400000 ∧ ((x.src + x.len ≤ x.dst ∨ x.dst + x.len ≤ x.src)) ∧ s.mem.wf = true) :=
  ⟨⟨5, ⟨true, false, 0x1000000FF8, 3, 0, [1, 2, 3, 4, 5, 6, 7, 8]⟩, State.reset, by decide +kernel⟩,
   ⟨5, ⟨true, false, 0x1000000FF9, 3, 0, []⟩, State.reset, by decide +kernel⟩,
   ⟨5, 8, ⟨⟨true, false, 0x1000000FF8, 3, 0, [1, 2, 3, 4, 5, 6, 7, 8]⟩, 0⟩, { st [] with bus := { BusState.reset with turn := AMap.empty.set 1 5, req := (AMap.empty.set 4 ⟨⟨true, false, 0x1000000FF8, 3, 0, [1, 2, 3, 4, 5, 6, 7, 8]⟩, 0⟩).set 5 ⟨⟨true, false, 0x1000000FF8, 3, 0, [1, 2, 3, 4, 5, 6, 7, 8]⟩, 0⟩ } }, by decide +kernel⟩,
   ⟨5, ⟨⟨true, false, 0x1800000000, 3, 0, [1]⟩, 0⟩, { st [] with bus := { BusState.reset with req := AMap.empty.set 5 ⟨⟨true, false, 0x1800000000, 3, 0, [1]⟩, 0⟩ } }, by decide +kernel⟩,
   ⟨.mgb, State.reset, by decide +kernel⟩,
   ⟨.hbm, ⟨5, ⟨false, true, 0, 3, 0, []⟩, 0⟩, { st [] with bus := { BusState.reset with lock := AMap.empty.set 2 ⟨5, ⟨false, true, 0, 3, 0, []⟩, 0⟩ } }, by decide +kernel⟩,
   ⟨.hbm, State.reset, by decide +kernel⟩,
   ⟨7, ⟨⟨false, false, 0x0900000000, 3, 0, []⟩, 0⟩, { st [] with bus := { BusState.reset with req := AMap.empty.set 7 ⟨⟨false, false, 0x0900000000, 3, 0, []⟩, 0⟩ } }, by decide +kernel⟩,
   ⟨0xBF, { st [] with bus := { BusState.reset with stalled := [7, 6], req := AMap.empty.set 7 ⟨⟨false, false, 0x0900000000, 3, 0, []⟩, 0⟩ } }, by decide +kernel⟩,
   ⟨7, 0x40, { st [] with bus := { BusState.reset with stalled := [6], req := AMap.empty.set 6 ⟨⟨false, false, 0x0900000000, 3, 0, []⟩, 0⟩, dma := AMap.empty.set 7 ⟨0x1000000000, 0x1000000100, 16, 64, 0⟩ } }, by decide +kernel⟩,
   ⟨7, 1, ⟨0x1000000000, 0x1000000100, 16, 64, 0⟩, (st [(F.BUS_DMA_DESC_LO_ADDR, 7, 0), (F.BUS_DMA_DESC_HI_ADDR, 7, 0x10)]).store 0x1000000000 (leBytes 8 0x1000000000 ++ leBytes 8 0x1000000100 ++ leBytes 4 16 ++ leBytes 4 64 ++ leBytes 8 0), by decide +kernel⟩,
   ⟨7, 1, st [(F.BUS_DMA_DESC_LO_ADDR, 7, 0), (F.BUS_DMA_DESC_HI_ADDR, 7, 0x10)], by decide +kernel⟩,
   ⟨7, 1, { st [] with bus := { BusState.reset with dma := AMap.empty.set 7 ⟨0x1000000000, 0x1000000100, 16, 64, 0⟩ } }, by decide +kernel⟩,
   ⟨7, 2, { st [] with bus := { BusState.reset with dma := AMap.empty.set 7 ⟨0x1000000000, 0x1000000100, 16, 64, 0⟩ } }, by decide +kernel⟩,
   ⟨7, ⟨0x1000000000, 0x1000000010, 16, 64, 0⟩, { State.reset.store 0x1000000000 [1, 2, 3] with bus := { BusState.reset with dma := AMap.empty.set 7 ⟨0x1000000000, 0x1000000010, 16, 64, 0⟩ } }, by decide +kernel⟩⟩

end Tests.Bus

/-! ### Witnesses: mgmt -/

namespace Tests.Mgmt

/-- A frame with this destination, Ethertype and payload. -/
def mfr (dst type : Nat) (p : List Byte) : EthFrame := ⟨macFrame (beBytes 6 dst ++ beBytes 6 2 ++ beBytes 2 type ++ p), false⟩

theorem witness_ManagementPortsCarryFrames :
    (∃ (n : Fin 2) (v : Word) (s : Machine.State), s.flag F.MGMT_CFG_EN n = false ∧ 1 ≤ F.MGMT_CFG_MODE.of v ∧ F.MGMT_CFG_MODE.of v ≤ 4 ∧ ((n = 1 → s.flag F.RST_STAT_DARKROOM 0 = false))) ∧
    (∃ (n : Fin 2) (v : Word) (s : Machine.State), (F.MGMT_CFG_MODE.of v = 0 ∨ 4 < F.MGMT_CFG_MODE.of v ∨ (n = 1 ∧ s.flag F.RST_STAT_DARKROOM 0 = true) ∨ (s.flag F.MGMT_CFG_EN n = true ∧ F.MGMT_CFG_MODE.of v ≠ s.fld F.MGMT_CFG_MODE n))) ∧
    (∃ (n : Fin 2) (slow : Bool) (s : Machine.State), s.flag F.MGMT_CFG_EN n = true ∧ ¬(s.flag F.MGMT_CFG_AN n = true ∧ s.fld F.MGMT_CFG_MODE n = 2 ∧ slow = true)) ∧
    (∃ (n : Fin 2) (s : Machine.State), s.flag F.MGMT_CFG_EN n = true ∧ s.flag F.MGMT_CFG_AN n = true ∧ s.fld F.MGMT_CFG_MODE n = 2) ∧
    (∃ (n : Fin 2) (slow : Bool) (s : Machine.State), s.flag F.MGMT_CFG_EN n = false) ∧
    (∃ (n : Fin 2) (s : Machine.State), s.flag F.MGMT_STAT_LINK_UP n = true) ∧
    (∃ (n : Fin 2) (s : Machine.State), s.flag F.MGMT_STAT_LINK_UP n = false) ∧
    (∃ (n : Fin 2) (f : EthFrame) (k : Nat) (s : Machine.State), s.macUp (128 + n) = true ∧ f.fault (s.flag F.MGMT_CFG_JUMBO n) = k ∧ k ≠ 0) ∧
    (∃ (n : Fin 2) (f : EthFrame) (q : Nat) (s : Machine.State), s.macUp (128 + n) = true ∧ f.fault (s.flag F.MGMT_CFG_JUMBO n) = 0 ∧ f.pause = some q ∧ f.dst = 0x0180C2000001) ∧
    (∃ (n : Fin 2) (f : EthFrame) (k : Nat) (a : Nat) (s : Machine.State), s.macUp (128 + n) = true ∧ f.fault (s.flag F.MGMT_CFG_JUMBO n) = 0 ∧ f.type ≠ 0x8808 ∧ s.ptpPlaces (128 + n) = [] ∧ s.mgMatch n f.dst = some k ∧ s.mgRxFull n = false ∧ s.mem.wf = true ∧ a = Machine.mgbBase n + s.fld F.MGMT_RX_HEAD_IDX n * s.mgSlot n) ∧
    (∃ (n : Fin 2) (f : EthFrame) (k : Nat) (s : Machine.State), s.macUp (128 + n) = true ∧ f.fault (s.flag F.MGMT_CFG_JUMBO n) = 0 ∧ f.type ≠ 0x8808 ∧ s.ptpPlaces (128 + n) = [] ∧ s.mgMatch n f.dst = some k ∧ s.mgRxFull n = true) ∧
    (∃ (n : Fin 2) (f : EthFrame) (s : Machine.State), s.macUp (128 + n) = true ∧ f.fault (s.flag F.MGMT_CFG_JUMBO n) = 0 ∧ f.type ≠ 0x8808 ∧ s.ptpPlaces (128 + n) = [] ∧ s.mgMatch n f.dst = none ∧ f.dst ≠ 0xFFFFFFFFFFFF) ∧
    (∃ (n : Fin 2) (f : EthFrame) (s : Machine.State), s.macUp (128 + n) = false) ∧
    (∃ (n : Fin 2) (s : Machine.State), s.flag F.MGMT_STAT_PAUSED n = true) ∧
    (∃ (n : Fin 2) (a : Nat) (len : Nat) (s : Machine.State), s.macUp (128 + n) = true ∧ s.flag F.MGMT_STAT_PAUSED n = false ∧ s.ptpWaiting (128 + n) = [] ∧ s.fld F.MGMT_TX_HEAD_IDX n ≠ s.fld F.MGMT_TX_TAIL_IDX n ∧ a = Machine.mgbBase n + 0x18000 + s.fld F.MGMT_TX_HEAD_IDX n * s.mgSlot n ∧ len = leNat (s.load a 4) % 2 ^ 14 ∧ len + 4 ≤ maxFrame (s.flag F.MGMT_CFG_JUMBO n) ∧ bit (leNat (s.load a 4)) 16 = false) ∧
    (∃ (n : Fin 2) (a : Nat) (len : Nat) (s : Machine.State), s.macUp (128 + n) = true ∧ s.flag F.MGMT_STAT_PAUSED n = false ∧ s.ptpWaiting (128 + n) = [] ∧ s.fld F.MGMT_TX_HEAD_IDX n ≠ s.fld F.MGMT_TX_TAIL_IDX n ∧ a = Machine.mgbBase n + 0x18000 + s.fld F.MGMT_TX_HEAD_IDX n * s.mgSlot n ∧ len = leNat (s.load a 4) % 2 ^ 14 ∧ maxFrame (s.flag F.MGMT_CFG_JUMBO n) < len + 4) ∧
    (∃ (n : Fin 2) (s : Machine.State), s.flag F.MGMT_STAT_PAUSED n = true) ∧
    (∃ (n : Fin 2) (p : Fin 130) (frame : List Byte) (a : Nat) (s : Machine.State), p.val = 128 + n ∧ s.macUp p = true ∧ s.mgRxFull n = false ∧ s.mem.wf = true ∧ a = Machine.mgbBase n + s.fld F.MGMT_RX_HEAD_IDX n * s.mgSlot n) ∧
    (∃ (p : Fin 130) (frame : List Byte) (s : Machine.State), s.macUp p = false) :=
  ⟨⟨1, F.MGMT_CFG_MODE.put 0 4, State.reset, by decide +kernel⟩,
   ⟨0, F.MGMT_CFG_MODE.put 0 5, State.reset, by decide +kernel⟩,
   ⟨1, true, st [(F.MGMT_CFG_EN, 1, 1), (F.MGMT_CFG_AN, 1, 1), (F.MGMT_CFG_MODE, 1, 1)], by decide +kernel⟩,
   ⟨1, st [(F.MGMT_CFG_EN, 1, 1), (F.MGMT_CFG_AN, 1, 1), (F.MGMT_CFG_MODE, 1, 2)], by decide +kernel⟩,
   ⟨1, true, State.reset, by decide +kernel⟩,
   ⟨1, st [(F.MGMT_CFG_EN, 1, 1), (F.MGMT_STAT_LINK_UP, 1, 1)], by decide +kernel⟩,
   ⟨1, State.reset, by decide +kernel⟩,
   ⟨1, ⟨(mfr 5 6 []).bytes.drop 1, false⟩, 2, st [(F.MGMT_CFG_EN, 1, 1), (F.MGMT_STAT_LINK_UP, 1, 1)], by decide +kernel⟩,
   ⟨1, mfr 0x0180C2000001 0x8808 (beBytes 2 1 ++ beBytes 2 65535), 65535, st [(F.MGMT_CFG_EN, 1, 1), (F.MGMT_STAT_LINK_UP, 1, 1)], by decide +kernel⟩,
   ⟨1, mfr 5 0x800 [], 7, 0x200E820000 + 47 * 2048, st [(F.MGMT_CFG_EN, 1, 1), (F.MGMT_STAT_LINK_UP, 1, 1), (⟨.MGMT_ADDR_LO, 0, 32⟩, 15, 5), (F.MGMT_ADDR_HI_EN, 15, 1), (F.MGMT_ADDR_HI_ADDR, 15, 0), (F.MGMT_RX_HEAD_IDX, 1, 47), (F.MGMT_RX_TAIL_IDX, 1, 1)], by decide +kernel⟩,
   ⟨1, mfr 5 0x800 [], 7, st [(F.MGMT_CFG_EN, 1, 1), (F.MGMT_STAT_LINK_UP, 1, 1), (⟨.MGMT_ADDR_LO, 0, 32⟩, 15, 5), (F.MGMT_ADDR_HI_EN, 15, 1), (F.MGMT_ADDR_HI_ADDR, 15, 0), (F.MGMT_RX_HEAD_IDX, 1, 47), (F.MGMT_RX_TAIL_IDX, 1, 0)], by decide +kernel⟩,
   ⟨1, mfr 6 0x800 [], st [(F.MGMT_CFG_EN, 1, 1), (F.MGMT_STAT_LINK_UP, 1, 1), (⟨.MGMT_ADDR_LO, 0, 32⟩, 15, 5), (F.MGMT_ADDR_HI_EN, 15, 1), (F.MGMT_ADDR_HI_ADDR, 15, 0)], by decide +kernel⟩,
   ⟨1, mfr 5 6 [], State.reset, by decide +kernel⟩,
   ⟨1, st [(F.MGMT_STAT_PAUSED, 1, 1)], by decide +kernel⟩,
   ⟨1, 0x200E820000 + 0x18000 + 15 * 2048, 50, (st [(F.MGMT_CFG_EN, 1, 1), (F.MGMT_STAT_LINK_UP, 1, 1), (F.MGMT_TX_HEAD_IDX, 1, 15)]).store (0x200E838000 + 15 * 2048) ([50, 0, 0, 0] ++ List.replicate 28 0 ++ List.replicate 50 0xA5), by decide +kernel⟩,
   ⟨1, 0x200E820000 + 0x18000 + 15 * 2048, 16383, (st [(F.MGMT_CFG_EN, 1, 1), (F.MGMT_STAT_LINK_UP, 1, 1), (F.MGMT_TX_HEAD_IDX, 1, 15)]).store (0x200E838000 + 15 * 2048) [255, 255], by decide +kernel⟩,
   ⟨1, st [(F.MGMT_STAT_PAUSED, 1, 1)], by decide +kernel⟩,
   ⟨1, 129, (mfr 5 0x88F7 []).bytes, 0x200E820000, st [(F.MGMT_CFG_EN, 1, 1), (F.MGMT_STAT_LINK_UP, 1, 1)], by decide +kernel⟩,
   ⟨129, [], State.reset, by decide +kernel⟩⟩

end Tests.Mgmt

/-! ### Witnesses: idm -/

namespace Tests.Idm

theorem witness_IdentityReadsScansAndCalibration :
    (∃ (m : Fin 8) (v : Word) (s : Machine.State), s.badGo m (v ||| 0x80000000#32) = false) ∧
    (∃ (m : Fin 8) (v : Word) (s : Machine.State), ((s.flag F.IDM_STAT_BUSY m = true ∨ s.fld F.IDM_SITE_CFG_MASTER (F.IDM_CMD_SITE.of v) ≠ m ∨ s.flag F.IDM_SITE_CFG_EN (F.IDM_CMD_SITE.of v) = false ∨ 256 < s.fld F.IDM_ARG_OFFSET m + s.fld F.IDM_ARG_LEN m ∨ (F.IDM_CMD_DEV.of v = 1 ∧ s.fld F.IDM_SITE_CFG_TYPE (F.IDM_CMD_SITE.of v) ≠ 1)))) ∧
    (∃ (m : Fin 8) (j : Machine.IdmJob) (data : List Byte) (s : Machine.State), s.idm.job.find? m = some j ∧ j.len ≤ 128 ∧ j.len ≤ data.length) ∧
    (∃ (m : Fin 8) (j : Machine.IdmJob) (data : List Byte) (s : Machine.State), s.idm.job.find? m = some j) ∧
    (∃ (m : Fin 8) (nack : Bool) (data : List Byte) (s : Machine.State), s.idm.job.find? m = none) ∧
    (∃ (m : Fin 8) (j : Machine.IdmJob) (s : Machine.State), s.idm.job.find? m = some j) ∧
    (∃ (acks : List (Fin 128 × List Byte)) (s : Machine.State), s.flag F.IDM_CFG_SCAN_EN 0 = true) ∧
    (∃ (acks : List (Fin 128 × List Byte)) (s : Machine.State), s.flag F.IDM_CFG_SCAN_EN 0 = false) ∧
    (∃ (q : CalQuantity) (v : Word) (s : Machine.State), s.flag F.CAL_STAT_LOADED 0 = true) ∧
    (∃ (q : CalQuantity) (v : Word) (s : Machine.State), s.flag F.CAL_STAT_LOADED 0 = false) :=
  ⟨⟨7, F.IDM_CMD_SITE.put 0 127, st [(F.IDM_SITE_CFG_MASTER, 127, 7), (F.IDM_SITE_CFG_EN, 127, 1), (F.IDM_ARG_OFFSET, 7, 128), (F.IDM_ARG_LEN, 7, 128)], by decide +kernel⟩,
   ⟨7, F.IDM_CMD_SITE.put 0 127, st [(F.IDM_SITE_CFG_MASTER, 127, 7), (F.IDM_SITE_CFG_EN, 127, 1), (F.IDM_ARG_OFFSET, 7, 129), (F.IDM_ARG_LEN, 7, 128)], by decide +kernel⟩,
   ⟨7, ⟨127, 0, 128, 128⟩, List.replicate 128 0xA5, { State.reset with idm := ⟨⟨[(7, ⟨127, 0, 128, 128⟩)]⟩, .empty⟩ }, by decide +kernel⟩,
   ⟨7, ⟨127, 0, 128, 128⟩, [], { State.reset with idm := ⟨⟨[(7, ⟨127, 0, 128, 128⟩)]⟩, .empty⟩ }, by decide +kernel⟩,
   ⟨7, true, [], State.reset, by decide +kernel⟩,
   ⟨7, ⟨127, 0, 128, 128⟩, { State.reset with idm := ⟨⟨[(7, ⟨127, 0, 128, 128⟩)]⟩, .empty⟩ }, by decide +kernel⟩,
   ⟨[(127, List.replicate 32 0)], st [(F.IDM_CFG_SCAN_EN, 0, 1), (F.IDM_SITE_CFG_EN, 127, 1), (F.IDM_SITE_CFG_TYPE, 127, 4)], by decide +kernel⟩,
   ⟨[(127, [])], State.reset, by decide +kernel⟩,
   ⟨.sensor 15, BitVec.ofNat 32 0x7FFF, st [(F.CAL_STAT_LOADED, 0, 1)], by decide +kernel⟩,
   ⟨.lane 127, 1, State.reset, by decide +kernel⟩⟩

end Tests.Idm

/-! ### Witnesses: clk -/

namespace Tests.Clk

theorem witness_ClocksStartSleepAndTrip :
    (∃ (d : Fin 181) (s : Machine.State), Machine.blockPll d = true ∧ d.val ∉ s.clk.dead ∧ s.clk.tries.get 0 d < 3) ∧
    (∃ (d : Fin 181) (s : Machine.State), Machine.blockPll d = true ∧ d.val ∉ s.clk.dead ∧ 3 ≤ s.clk.tries.get 0 d) ∧
    (∃ (d : Fin 181) (s : Machine.State), (Machine.blockPll d = false ∨ d.val ∈ s.clk.dead)) ∧
    (∃ (d : Fin 181) (s : Machine.State), Machine.neverSleeps d = false ∧ s.domBusy d = false) ∧
    (∃ (d : Fin 181) (s : Machine.State), (Machine.neverSleeps d = true ∨ s.domBusy d = true)) ∧
    (∃ (s : Machine.State), 3 ≤ s.clk.hot ∧ s.flag F.PWR_THERM_STAT_TRIPPED 0 = false) ∧
    (∃ (s : Machine.State), (s.clk.hot < 3 ∨ s.flag F.PWR_THERM_STAT_TRIPPED 0 = true)) :=
  ⟨⟨180, { State.reset with clk := ⟨⟨[(180, 2)]⟩, [], [], 0⟩ }, by decide +kernel⟩,
   ⟨160, { State.reset with clk := ⟨⟨[(160, 3)]⟩, [], [], 0⟩ }, by decide +kernel⟩,
   ⟨176, State.reset, by decide +kernel⟩,
   ⟨165, State.reset, by decide +kernel⟩,
   ⟨175, State.reset, by decide +kernel⟩,
   ⟨{ State.reset with clk := ⟨.empty, [], [], 3⟩ }, by decide +kernel⟩,
   ⟨{ State.reset with clk := ⟨.empty, [], [], 2⟩ }, by decide +kernel⟩⟩

end Tests.Clk

/-! ### Witnesses: rst -/

namespace Tests.Rst

theorem witness_SourcesBeginTheirResets :
    (∃ (s : Machine.State), s.rst.level < 3 ∧ s.rst.inStart = false) ∧
    (∃ (s : Machine.State), s.rst.level < 2 ∧ s.rst.inStart = false) ∧
    (∃ (s : Machine.State), s.wdtRuns = false) ∧
    (∃ (s : Machine.State) (u : Machine.State), s.rst.inStart = true ∧ s.rst.level = 0 ∧ s.fld F.RST_STAT_FAILED 0 < 2 ∧ u = Machine.passToNow (s.rst.startAt + s.fld F.RST_HEALTH_START_WINDOW 0 * 1000000000) s) ∧
    (∃ (s : Machine.State), s.rst.inStart = true ∧ s.rst.level = 0 ∧ 2 ≤ s.fld F.RST_STAT_FAILED 0) ∧
    (∃ (s : Machine.State), s.rst.inStart = false) ∧
    (∃ (s : Machine.State), s.mem.wf = true) ∧
    (∃ (aon : Bool) (ns : Nat) (s : Machine.State), s.mem.wf = true) ∧
    (∃ (ns : Nat) (s : Machine.State), (3 ≤ s.rst.level ∨ ns < 200)) ∧
    (∃ (ns : Nat) (s : Machine.State), s.rst.level < 3 ∧ 200 ≤ ns ∧ ns < 1000) ∧
    (∃ (m : Fin 8) (v : Word) (s : Machine.State), m.val ≠ 6 ∧ m.val ≠ 7 ∧ s.rst.level < 2) ∧
    (∃ (m : Fin 8) (v : Word) (s : Machine.State), m.val ≠ 6 ∧ m.val ≠ 7 ∧ F.RST_SWRST_KEY.of v = 0xA5 ∧ s.rst.level < 3) ∧
    (∃ (m : Fin 8) (v : Word) (s : Machine.State), m.val ≠ 7 ∧ (m.val = 6 ∨ F.RST_SWRST_KEY.of v ≠ 0xA5)) ∧
    (∃ (m : Fin 8) (v : Word) (c : Nat) (s : Machine.State), m.val ≠ 6 ∧ m.val ≠ 7 ∧ c = F.RST_SWRST_CORE.of v ∧ s.coreServes c = true ∧ s.rst.level = 0 ∧ s.vault.migr.find? 4 = none) ∧
    (∃ (m : Fin 8) (v : Word) (c : Nat) (s : Machine.State), m.val ≠ 6 ∧ m.val ≠ 7 ∧ c = F.RST_SWRST_CORE.of v ∧ s.coreServes c = true ∧ s.rst.level ≠ 0) ∧
    (∃ (m : Fin 8) (v : Word) (s : Machine.State), m.val ≠ 7 ∧ (m.val = 6 ∨ s.coreServes (F.RST_SWRST_CORE.of v) = false)) :=
  ⟨⟨{ State.reset with rst := { RstState.reset with level := 2 } }, by decide +kernel⟩,
   ⟨{ State.reset with rst := { RstState.reset with level := 1 } }, by decide +kernel⟩,
   ⟨State.reset, by decide +kernel⟩,
   ⟨{ (st [(F.RST_STAT_FAILED, 0, 1)]) with rst := { RstState.reset with level := 0, inStart := true } }, passToNow (0 + (st [(F.RST_STAT_FAILED, 0, 1)]).fld F.RST_HEALTH_START_WINDOW 0 * 1000000000) ({ (st [(F.RST_STAT_FAILED, 0, 1)]) with rst := { RstState.reset with level := 0, inStart := true } }), by decide +kernel⟩,
   ⟨{ (st [(F.RST_STAT_FAILED, 0, 2)]) with rst := { RstState.reset with level := 0, inStart := true } }, by decide +kernel⟩,
   ⟨State.reset, by decide +kernel⟩,
   ⟨State.reset, by decide +kernel⟩,
   ⟨true, 500, State.reset, by decide +kernel⟩,
   ⟨199, { State.reset with rst := { RstState.reset with level := 0 } }, by decide +kernel⟩,
   ⟨999, { State.reset with rst := { RstState.reset with level := 2 } }, by decide +kernel⟩,
   ⟨5, 0, { State.reset with rst := { RstState.reset with level := 1 } }, by decide +kernel⟩,
   ⟨0, F.RST_SWRST_KEY.put 0 0xA5, { State.reset with rst := { RstState.reset with level := 2 } }, by decide +kernel⟩,
   ⟨5, F.RST_SWRST_KEY.put 0 0xA4, State.reset, by decide +kernel⟩,
   ⟨5, F.RST_SWRST_CORE.put 0 3, 3, { State.reset with rst := { RstState.reset with level := 0 } }, by decide +kernel⟩,
   ⟨5, F.RST_SWRST_CORE.put 0 0, 0, { State.reset with rst := { RstState.reset with level := 2 } }, by decide +kernel⟩,
   ⟨5, F.RST_SWRST_CORE.put 0 7, State.reset, by decide +kernel⟩⟩

theorem witness_ReleaseStartAndLifeCycle :
    (∃ (s : Machine.State), 9 ∈ s.rst.held) ∧
    (∃ (s : Machine.State), 9 ∉ s.rst.held) ∧
    (∃ (b : BootReport) (s : Machine.State), s.rst.held ≠ []) ∧
    (∃ (b : BootReport) (s : Machine.State), s.rst.held = [] ∧ 3 ≤ s.rst.level ∧ s.flag F.RST_STAT_DARKROOM 0 = true ∧ s.rst.activating = false) ∧
    (∃ (b : BootReport) (s : Machine.State), s.rst.held = [] ∧ 2 ≤ s.rst.level ∧ s.rst.activating = true) ∧
    (∃ (b : BootReport) (s : Machine.State), s.rst.held = [] ∧ s.rst.level = 2 ∧ s.rst.activating = false ∧ s.flag F.RST_STAT_DARKROOM 0 = false ∧ s.lc ≠ 4) ∧
    (∃ (b : BootReport) (c : Nat) (t : Nat) (s : Machine.State), s.rst.held = [] ∧ s.rst.level = 0 ∧ s.rst.conf = ⟨[(c, t)]⟩) ∧
    (∃ (s : Machine.State), s.rst.harts = [0, 1, 2, 3] ∧ s.rst.level = 0 ∧ s.rst.begins = true) ∧
    (∃ (h : Nat) (s : Machine.State), s.rst.harts = [h] ∧ h < 4 ∧ s.rst.level = 0 ∧ s.rst.begins = false ∧ (s.coreOf h).isSome = true) ∧
    (∃ (s : Machine.State), s.rst.harts = []) ∧
    (∃ (v : Word) (s : Machine.State), s.rst.inStart = true ∧ s.fwu.trial = false ∧ 10 ≤ F.RST_HEALTH_START_WINDOW.of v ∧ F.RST_HEALTH_START_WINDOW.of v ≤ 3600 ∧ s.now < s.rst.startAt + s.fld F.RST_HEALTH_START_WINDOW 0 * 1000000000) ∧
    (∃ (v : Word) (s : Machine.State), ((F.RST_HEALTH_START_WINDOW.of v < 10 ∨ 3600 < F.RST_HEALTH_START_WINDOW.of v ∨ s.rst.inStart = false ∨ s.rst.startAt + s.fld F.RST_HEALTH_START_WINDOW 0 * 1000000000 ≤ s.now))) ∧
    (∃ (v : Word) (s : Machine.State), F.RST_WDT_KICK_KEY.of v = 0x4B1C) ∧
    (∃ (v : Word) (s : Machine.State), F.RST_WDT_KICK_KEY.of v ≠ 0x4B1C) ∧
    (∃ (v : Word) (g : Nat) (tok : Nat) (o : Machine.OtpState) (s : Machine.State), g = F.RST_LC_REQ_TARGET.of v ∧ tok = F.RST_LC_REQ_TOKEN.of v * 64 ∧ ((g = 1 ∧ s.lc = 0 ∧ o = { s.otp with lcProv := true } ∨ g = 2 ∧ s.lc = 1 ∧ o = { s.otp with lcServ := true } ∨ g = 3 ∧ s.lc = 2 ∧ s.otp.mc ≤ 254 ∧ s.tokenOk tok = true ∧ o = { s.otp with mc := s.otp.mc + 1 } ∨ g = 2 ∧ s.lc = 3 ∧ o = { s.otp with mc := s.otp.mc + 1 } ∨ g = 4 ∧ (s.lc = 2 ∨ s.lc = 3) ∧ o = { s.otp with lcDecom := true }))) ∧
    (∃ (v : Word) (g : Nat) (s : Machine.State), g = F.RST_LC_REQ_TARGET.of v ∧ ((g = 0 ∨ 4 < g ∨ s.lc = 4 ∨ (s.lc = 0 ∧ g ≠ 1) ∨ (s.lc = 1 ∧ g ≠ 2) ∨ (s.lc = 2 ∧ (g = 1 ∨ g = 2)) ∨ (s.lc = 3 ∧ (g = 1 ∨ g = 3)) ∨ (g = 3 ∧ s.lc = 2 ∧ 254 < s.otp.mc) ∨ (g = 3 ∧ s.lc = 2 ∧ s.tokenOk (F.RST_LC_REQ_TOKEN.of v * 64) = false)))) ∧
    (∃ (m : Fin 8) (v : Word) (s : Machine.State), m ≠ 5 ∧ m ≠ 7) :=
  ⟨⟨{ State.reset with rst := { RstState.reset with held := [9] } }, by decide +kernel⟩,
   ⟨State.reset, by decide +kernel⟩,
   ⟨⟨true, 0#18, true, true⟩, { State.reset with rst := { RstState.reset with held := [3] } }, by decide +kernel⟩,
   ⟨⟨true, 0#18, true, true⟩, { (st [(F.RST_STAT_DARKROOM, 0, 1)]) with rst := { RstState.reset with level := 3 } }, by decide +kernel⟩,
   ⟨⟨true, 0#18, true, true⟩, { State.reset with rst := { RstState.reset with level := 2, activating := true } }, by decide +kernel⟩,
   ⟨⟨true, 0#18, true, true⟩, { State.reset with rst := { RstState.reset with level := 2 } }, by decide +kernel⟩,
   ⟨⟨true, 0#18, true, true⟩, 4, 1, { State.reset with rst := { RstState.reset with level := 0, conf := ⟨[(4, 1)]⟩ } }, by decide +kernel⟩,
   ⟨{ State.reset with rst := { RstState.reset with level := 0, harts := [0, 1, 2, 3], begins := true } }, by decide +kernel⟩,
   ⟨3, { State.reset with rst := { RstState.reset with level := 0, harts := [3] } }, by decide +kernel⟩,
   ⟨State.reset, by decide +kernel⟩,
   ⟨F.RST_HEALTH_START_WINDOW.put 0 3600, { { State.reset with rst := { RstState.reset with level := 0, inStart := true } } with now := 9999999999 }, by decide +kernel⟩,
   ⟨F.RST_HEALTH_START_WINDOW.put 0 3601, { State.reset with rst := { RstState.reset with level := 0, inStart := true } }, by decide +kernel⟩,
   ⟨F.RST_WDT_KICK_KEY.put 0 0x4B1C, State.reset, by decide +kernel⟩,
   ⟨F.RST_WDT_KICK_KEY.put 0 0x4B1D, State.reset, by decide +kernel⟩,
   ⟨F.RST_LC_REQ_TARGET.put 0 1, 1, 0, { State.reset.otp with lcProv := true }, State.reset, by decide +kernel⟩,
   ⟨F.RST_LC_REQ_TARGET.put 0 5, 5, State.reset, by decide +kernel⟩,
   ⟨6, 0, State.reset, by decide +kernel⟩⟩

end Tests.Rst

/-! ### Witnesses: fault -/

namespace Tests.Fault

/-- The state after reset with one block's fault registers set. -/
def fl (b : Blk) (f : FaultSet) : State := State.reset.setFaults b f

/-- A real, enabled, pending assertion of some sources, with the timer's end at 5. -/
def pend (m : Word) : FaultSet := ⟨m, m, m, 1, 0, some 5, 0, 0⟩

theorem witness_FaultsEscalateAndHbmServes :
    (∃ (b : Blk) (v : Word) (s : Machine.State), ((s.alertNext = true → s.alertLow = true))) ∧
    (∃ (b : Blk) (v : Word) (s : Machine.State), s.lcOpen = true ∧ b ≠ .GPIO) ∧
    (∃ (v : Word) (s : Machine.State), s.lcOpen = true) ∧
    (∃ (b : Blk) (v : Word) (s : Machine.State), s.lcOpen = false ∧ s.forcedUnit b = none ∧ v &&& Machine.srcMask b ≠ 0) ∧
    (∃ (b : Blk) (e : Nat) (s : Machine.State), s.lcOpen = false ∧ s.forcedUnit b = some e ∧ (s.faults b).testEsc = true ∧ (s.faults b).fen &&& Machine.retireMask b ≠ 0 ∧ (s.faults b).fstat &&& Machine.retireMask b = 0 ∧ (s.faults b).expiry = none) ∧
    (∃ (b : Blk) (s : Machine.State), (s.faults b).expiry = none) ∧
    (∃ (b : Blk) (e : Nat) (s : Machine.State) (u : Machine.State), (s.faults b).expiry = some e ∧ Machine.retireSource b = none ∧ b ≠ .ULINK ∧ b ≠ .BUS ∧ b ≠ .GPIO ∧ u = Machine.passToNow e s ∧ (u.faults b).pendingSrc ≠ 0) ∧
    (∃ (e : Nat) (l : Nat) (n : Nat) (s : Machine.State), (s.faults .ULINK).expiry = some e ∧ s.esc.link = [l] ∧ s.flag F.ULINK_CFG_EN l = true ∧ n = s.fld F.ULINK_CFG_LANE l ∧ ((s.faults .ULINK).pendingSrc).getLsbD Src.ULINK_LINK_DOWN.bit = true ∧ (s.faults .ULINK).freal.getLsbD Src.ULINK_LINK_DOWN.bit = true) ∧
    (∃ (e : Nat) (k : Nat) (s : Machine.State), (s.faults .XPT).expiry = some e ∧ k = s.fld F.XPT_CHK_LAST_SLICE 0 ∧ (s.unitState k = 0 ∨ s.unitState k = 2) ∧ (s.faults .XPT).testEsc = false ∧ ((s.faults .XPT).pendingSrc).getLsbD Src.XPT_SLICE_CHECK.bit = true) ∧
    (∃ (e : Nat) (s : Machine.State), (s.faults .HBM).expiry = some e ∧ (s.faults .HBM).cfg.getLsbD 17 = true ∧ (s.faults .HBM).pendingSrc = Src.HBM_STACK_FAIL.mask ∧ (s.faults .HBM).testEsc = false ∧ s.rst.level < 3 ∧ s.rst.inStart = false) ∧
    (∃ (pc : Fin 68) (row : BitVec 24) (e : HbmEcc) (s : Machine.State), s.unitState (130 + pc) ≠ 0 ∧ s.unitState (130 + pc) ≠ 2) ∧
    (∃ (pc : Fin 68) (row : BitVec 24) (s : Machine.State), (s.unitState (130 + pc) = 0 ∨ s.unitState (130 + pc) = 2) ∧ (s.rowErrors (pc * 2 ^ 24 + row.toNat)).foldl (fun a x => a + x.2) 0 ≤ s.fld F.VAULT_CFG_ROW_CE_LIMIT 0) ∧
    (∃ (pc : Fin 68) (row : BitVec 24) (n : Nat) (s : Machine.State), (s.unitState (130 + pc) = 0 ∨ s.unitState (130 + pc) = 2) ∧ n = (if pc.val < 34 then s.otp.rows.1 else s.otp.rows.2)) ∧
    (∃ (h : Fin 2) (s : Machine.State), h.val ∉ s.hbm.failed) ∧
    (∃ (h : Fin 2) (s : Machine.State), h.val ∈ s.hbm.failed) ∧
    (∃ (pc : Fin 68) (r : Fin 9) (top : Fin 4) (ns : Nat) (p : Nat) (w : List (Fin 9 × Fin 4 × Nat)) (s : Machine.State), (r, top, ns) ∈ w ∧ (∀ y ∈ w, y.2.1 ≤ top) ∧ p = s.hbm.turn.get 0 (4 * pc + top) ∧ p < 9 ∧ ((∀ y ∈ w, y.2.1 = top → (r.val + 9 - p) % 9 ≤ (y.1.val + 9 - p) % 9))) :=
  ⟨⟨.GPIO, 1, State.reset, by decide +kernel⟩,
   ⟨.HBM, 1, State.reset, by decide +kernel⟩,
   ⟨3, State.reset, by decide +kernel⟩,
   ⟨.MGMT, 1, st [(F.RST_STAT_LC, 0, 1)], by decide +kernel⟩,
   ⟨.CUE, 35, ((st [(F.RST_STAT_LC, 0, 2)]).setUnit 35 1).setFaults .CUE ⟨0, 0, retireMask .CUE, 0x1110001, 0, none, 0, 0⟩, by decide +kernel⟩,
   ⟨.PTP, State.reset, by decide +kernel⟩,
   ⟨.PTP, 5, fl .PTP (pend 1), passToNow 5 (fl .PTP (pend 1)), by decide +kernel⟩,
   ⟨5, 8, 0, { ((fl .ULINK (pend Src.ULINK_LINK_DOWN.mask)).setFld F.ULINK_CFG_EN 8 1) with esc := ⟨[], [8]⟩ }, by decide +kernel⟩,
   ⟨5, 17, ((fl .XPT (pend Src.XPT_SLICE_CHECK.mask)).setFld F.XPT_CHK_LAST_SLICE 0 17).setUnit 17 0, by decide +kernel⟩,
   ⟨5, { fl .HBM ⟨Src.HBM_STACK_FAIL.mask, Src.HBM_STACK_FAIL.mask, Src.HBM_STACK_FAIL.mask, 0x20001, 0, some 5, 0, 0⟩ with rst := { RstState.reset with level := 0 } }, by decide +kernel⟩,
   ⟨67, 0xFFFFFF, .corrected, State.reset.setUnit 197 4, by decide +kernel⟩,
   ⟨67, 0xFFFFFF, (st [(F.VAULT_CFG_ROW_CE_LIMIT, 0, 1)]).setUnit 197 2, by decide +kernel⟩,
   ⟨33, 0, 5, { (State.reset.setUnit 163 0) with otp := { State.reset.otp with rows := (5, 6) } }, by decide +kernel⟩,
   ⟨1, { State.reset with hbm := { HbmState.reset with failed := [0] } }, by decide +kernel⟩,
   ⟨1, { State.reset with hbm := { HbmState.reset with failed := [1] } }, by decide +kernel⟩,
   ⟨67, 8, 3, 100, 7, [(8, 3, 100), (6, 3, 200), (7, 2, 50)], { State.reset with hbm := { HbmState.reset with turn := ⟨[(271, 7)]⟩ } }, by decide +kernel⟩⟩

end Tests.Fault

/-! ### Witnesses: vault -/

namespace Tests.Vault

/-- The state after reset with the Vault's own state set. -/
def vl (f : VaultState → VaultState) : State := { State.reset with vault := f VaultState.reset }

theorem witness_VaultRotatesRetiresAndKeepsItsLedger :
    (∃ (m : Fin 8) (v : Word) (e : Nat) (s : Machine.State), m.val ≤ 5 ∧ F.VAULT_CMD_TYPE.of v ≤ 6 ∧ s.rotUnit (F.VAULT_CMD_TYPE.of v) (F.VAULT_CMD_PLANE.of v != 0) (F.VAULT_CMD_UNIT.of v) = some e ∧ s.rotateResult e = 0 ∧ s.underTest e = false) ∧
    (∃ (m : Fin 8) (v : Word) (e : Nat) (s : Machine.State), m.val ≤ 5 ∧ F.VAULT_CMD_TYPE.of v ≤ 6 ∧ s.rotUnit (F.VAULT_CMD_TYPE.of v) (F.VAULT_CMD_PLANE.of v != 0) (F.VAULT_CMD_UNIT.of v) = some e ∧ s.rotateResult e ≠ 0) ∧
    (∃ (m : Fin 8) (v : Word) (s : Machine.State), m.val ≤ 5 ∧ F.VAULT_CMD_TYPE.of v = 7) ∧
    (∃ (m : Fin 8) (v : Word) (e : Nat) (s : Machine.State), m.val ≤ 5 ∧ e = F.VAULT_CMD_UNIT.of v ∧ e < 294 ∧ s.unitState e ≠ 4) ∧
    (∃ (m : Fin 8) (v : Word) (e : Nat) (s : Machine.State), m.val ≤ 5 ∧ e = F.VAULT_CMD_UNIT.of v ∧ (294 ≤ e ∨ s.unitState e = 4)) ∧
    (∃ (x : Machine.Migration) (s : Machine.State), s.vault.migr.find? 5 = some x ∧ x.retire = false ∧ 130 ≤ x.leaving ∧ x.leaving < 198 ∧ 130 ≤ x.spare ∧ x.spare < 198 ∧ x.leaving ≠ x.spare ∧ s.unitState x.leaving = 2) ∧
    (∃ (s : Machine.State), s.vault.migr.find? 5 = none ∧ s.vault.retireWait = []) ∧
    (∃ (k : Fin 7) (b : Bool) (s : Machine.State), s.fld F.VAULT_ROT_PERIOD k ≠ 0) ∧
    (∃ (k : Fin 7) (b : Bool) (s : Machine.State), s.fld F.VAULT_ROT_PERIOD k = 0) ∧
    (∃ (e : Fin 422) (ecc : Nat) (s : Machine.State), s.unitState e = 0) ∧
    (∃ (e : Fin 422) (ecc : Nat) (s : Machine.State), s.unitState e ≠ 0) ∧
    (∃ (j : Nat) (s : Machine.State), s.mem.wf = true ∧ j = (match s.currentLedger with | none => 0 | some x => (x.1 + 1) % 4)) ∧
    (∃ (v : Word) (e : Nat) (s : Machine.State), e = F.VAULT_REC_UNIT.of v ∧ e < 294) ∧
    (∃ (m : Fin 8) (v : Word) (s : Machine.State), m ≠ 5 ∧ m ≠ 7) :=
  ⟨⟨5, F.VAULT_CMD_UNIT.put (F.VAULT_CMD_TYPE.put (F.VAULT_CMD_PLANE.put 0 0) 1) 18, 18, (((st [(F.VAULT_LG_BIST_VERDICT, 35, 1)]).setUnit 18 0).setUnit 35 1), by decide +kernel⟩,
   ⟨5, F.VAULT_CMD_UNIT.put (F.VAULT_CMD_TYPE.put (F.VAULT_CMD_PLANE.put 0 1) 0) 17, 17, State.reset, by decide +kernel⟩,
   ⟨5, F.VAULT_CMD_UNIT.put (F.VAULT_CMD_TYPE.put (F.VAULT_CMD_PLANE.put 0 0) 7) 0, State.reset, by decide +kernel⟩,
   ⟨5, F.VAULT_CMD_UNIT.put 0 293, 293, State.reset, by decide +kernel⟩,
   ⟨5, F.VAULT_CMD_UNIT.put 0 294, 294, State.reset, by decide +kernel⟩,
   ⟨⟨130, 163, false, 0, [], []⟩, (vl (fun v => { v with migr := ⟨[(5, ⟨130, 163, false, 0, [], []⟩)]⟩ })).setUnit 130 2, by decide +kernel⟩,
   ⟨State.reset, by decide +kernel⟩,
   ⟨0, true, st [(F.VAULT_ROT_PERIOD, 0, 1)], by decide +kernel⟩,
   ⟨6, false, st [(F.VAULT_ROT_PERIOD, 6, 0)], by decide +kernel⟩,
   ⟨421, 3, State.reset.setUnit 421 0, by decide +kernel⟩,
   ⟨421, 3, State.reset.setUnit 421 3, by decide +kernel⟩,
   ⟨0, State.reset, by decide +kernel⟩,
   ⟨F.VAULT_REC_UNIT.put 0 293, 293, State.reset, by decide +kernel⟩,
   ⟨6, 0, State.reset, by decide +kernel⟩⟩

theorem witness_SelfTestRunsUnderThePowerCap :
    (∃ (q : Machine.BistReq) (rest : List Machine.BistReq) (s : Machine.State), s.vault.queue = q :: rest ∧ s.runFits q.target = true ∧ s.flag F.PWR_THERM_STAT_TRIPPED 0 = false ∧ q.rotate = false) ∧
    (∃ (q : Machine.BistReq) (rest : List Machine.BistReq) (s : Machine.State), s.vault.queue = q :: rest ∧ s.runFits q.target = false ∧ q.held = false) ∧
    (∃ (q : Machine.BistReq) (rest : List Machine.BistReq) (s : Machine.State), s.vault.queue = q :: rest ∧ ((s.runFits q.target = false ∧ q.held = true) ∨ (s.runFits q.target = true ∧ s.flag F.PWR_THERM_STAT_TRIPPED 0 = true))) ∧
    (∃ (s : Machine.State), s.vault.queue = []) ∧
    (∃ (v : Word) (e : Nat) (s : Machine.State), e = F.BIST_CMD_TARGET.of v ∧ s.runResult e = 0) ∧
    (∃ (v : Word) (e : Nat) (s : Machine.State), e = F.BIST_CMD_TARGET.of v ∧ s.runResult e ≠ 0) ∧
    (∃ (v : Word) (e : Nat) (s : Machine.State), e = F.BIST_CMD_TARGET.of v ∧ s.vault.running.contains e = true ∧ (e < 294 ∨ Machine.blockTarget e = true)) ∧
    (∃ (v : Word) (e : Nat) (s : Machine.State), e = F.BIST_CMD_TARGET.of v ∧ (s.vault.running.contains e = false ∨ (294 ≤ e ∧ Machine.blockTarget e = false))) ∧
    (∃ (e : Nat) (done : Nat) (v : Nat) (sig : Word) (expected : Word) (margin : BitVec 10) (s : Machine.State), s.vault.running.contains e = true ∧ e < 294 ∧ v = (if done < Machine.cyclesExpected e then 3 else if done = Machine.cyclesExpected e ∧ sig = expected then 1 else 2)) ∧
    (∃ (e : Nat) (done : Nat) (sig : Word) (expected : Word) (margin : BitVec 10) (s : Machine.State), s.vault.running.contains e = false) ∧
    (∃ (e : Fin 294) (s : Machine.State), s.vault.running.contains e.val = true) ∧
    (∃ (e : Fin 294) (s : Machine.State), s.vault.running.contains e.val = false) :=
  ⟨⟨⟨293, false, true⟩, [], vl (fun v => { v with queue := [⟨293, false, true⟩] }), by decide +kernel⟩,
   ⟨⟨0, false, false⟩, [], { vl (fun v => { v with queue := [⟨0, false, false⟩] }) with regs := (st [(F.PWR_BIST_CAP_CAP, 0, 0)]).regs }, by decide +kernel⟩,
   ⟨⟨0, false, true⟩, [], { vl (fun v => { v with queue := [⟨0, false, true⟩] }) with regs := (st [(F.PWR_BIST_CAP_CAP, 0, 0)]).regs }, by decide +kernel⟩,
   ⟨State.reset, by decide +kernel⟩,
   ⟨F.BIST_CMD_TARGET.put 0 293, 293, State.reset.setUnit 293 1, by decide +kernel⟩,
   ⟨F.BIST_CMD_TARGET.put 0 0x205, 0x205, State.reset, by decide +kernel⟩,
   ⟨F.BIST_CMD_TARGET.put 0 0x204, 0x204, vl (fun v => { v with running := [0x204] }), by decide +kernel⟩,
   ⟨F.BIST_CMD_TARGET.put 0 294, 294, State.reset, by decide +kernel⟩,
   ⟨293, 25000000, 1, 7, 7, 1023, vl (fun v => { v with running := [293] }), by decide +kernel⟩,
   ⟨293, 0, 7, 7, 0, State.reset, by decide +kernel⟩,
   ⟨293, vl (fun v => { v with running := [293] }), by decide +kernel⟩,
   ⟨0, State.reset, by decide +kernel⟩⟩

end Tests.Vault

/-! ### Witnesses: fwu -/

namespace Tests.Fwu

/-- A slot in a state, by a record of SEQ 0. -/
def slotIn (k n : Nat) (s : State) : State := program (recAddr k 0) (SlotRec.bytes ⟨0, n, 0, 0, 0⟩) s

/-- A piece of an image of one piece, of one byte. -/
def piece : List Byte :=
  let h := tag4 0x53 0x56 0x50 0x43 ++ leBytes 8 9 ++ leBytes 4 0 ++ leBytes 4 1 ++ leBytes 4 1
  h ++ leBytes 4 (crc32c (h ++ [0xA5#8])) ++ leBytes 4 0 ++ [0xA5#8, 0#8, 0#8, 0#8]

/-- The state after reset with the piece in the mailbox. -/
def posted : State :=
  st ((List.range 9).map (fun w => ((if w < 8 then ⟨.FWU_PHDR, 0, 32⟩ else ⟨.FWU_PBUF, 0, 32⟩ : Fld), w % 8, leAt piece (4 * w) 4)))

/-- Firmware state over the state after reset. -/
def fw (f : FwuState → FwuState) : State := { State.reset with fwu := f FwuState.reset }

/-- The loader runs. -/
def dark (f : FwuState → FwuState) : State :=
  { st [(F.RST_STAT_DARKROOM, 0, 1)] with rst := { RstState.reset with level := 0 }, fwu := f FwuState.reset }

theorem posted_passes : posted.pieceResult posted.mailbox = 0 := by decide +kernel
theorem erase_passes : State.reset.eraseResult = 0 := by decide +kernel
theorem verify_passes : (slotIn 0 2 State.reset).verifyResult = 0 := by decide +kernel
theorem running_slot : (fw (fun f => { f with running := some 1 })).fwu.running = some 1 := rfl

theorem witness_FirmwareMailboxCommands :
    (∃ (m : Fin 8) (v : Word) (j : Nat → Nat → Machine.FwuJob) (s : Machine.State), m.val ≤ 5 ∧ s.fwu.job = none ∧ (∀ op k, j op k = ⟨op, F.FWU_CMD_SECTOR.of v, k, s.mailbox⟩)) ∧
    (∃ (m : Fin 8) (v : Word) (r : Nat) (s : Machine.State), m.val ≤ 6 ∧ r = (if m.val = 6 then 12 else 2) ∧ (m.val = 6 ∨ s.fwu.job.isSome = true)) ∧
    (∃ (m : Fin 8) (v : Word) (r : Nat) (s : Machine.State), m.val ≤ 5 ∧ s.fwu.job = none ∧ r = s.pieceResult s.mailbox ∧ r ≠ 0) ∧
    (∃ (m : Fin 8) (v : Word) (s : Machine.State), m.val ≤ 6) ∧
    (∃ (m : Fin 8) (v : Word) (k : Nat) (s : Machine.State), m.val ≤ 5 ∧ s.fwu.job = none ∧ s.escrow = some k ∧ s.slotState k = 3 ∧ s.fwu.preloaded.contains k = true ∧ s.rst.inStart = false ∧ (s.etValid = true ∨ F.FWU_CMD_NOW.of v = 1)) ∧
    (∃ (m : Fin 8) (v : Word) (r : Nat) (s : Machine.State), m.val ≤ 5 ∧ s.fwu.job = none ∧ r = s.armResult (F.FWU_CMD_NOW.of v == 1) ∧ r ≠ 0) ∧
    (∃ (m : Fin 8) (v : Word) (s : Machine.State), m.val ≤ 5 ∧ s.fwu.job = none ∧ s.armedSlot.isSome = true) ∧
    (∃ (ok : Bool) (s : Machine.State), s.fwu.job = none) ∧
    (∃ (i : Nat) (count : Nat) (len : Nat) (k : Nat) (p : List Byte) (x : Machine.FwuJob) (s : Machine.State), s.fwu.job = some x ∧ x.op = 1 ∧ x.slot = k ∧ k < 2 ∧ x.bytes = p ∧ s.mem.wf = true ∧ i = Machine.leAt p 12 4 ∧ count = Machine.leAt p 16 4 ∧ len = Machine.leAt p 20 4 ∧ count ≤ 12288 ∧ i < count ∧ len ≤ 4096 ∧ 32 + len ≤ p.length) ∧
    (∃ (k : Nat) (x : Machine.FwuJob) (s : Machine.State), s.fwu.job = some x ∧ x.op = 2 ∧ x.slot = k ∧ s.mem.wf = true) ∧
    (∃ (k : Nat) (x : Machine.FwuJob) (s : Machine.State), s.fwu.job = some x ∧ x.op = 3 ∧ x.slot = k) ∧
    (∃ (a : Nat) (x : Machine.FwuJob) (s : Machine.State), s.fwu.job = some x ∧ x.op = 6 ∧ s.mem.wf = true ∧ a = Machine.slotBase x.slot + 0x3010000 + x.sector * 4096 ∧ x.bytes.length = 4128) ∧
    (∃ (x : Machine.FwuJob) (s : Machine.State), s.fwu.job = some x ∧ x.op = 7) ∧
    (∃ (x : Machine.FwuJob) (s : Machine.State), s.fwu.job = some x ∧ x.op < 8) ∧
    (∃ (k : Nat) (at_ : Option Nat) (s : Machine.State), s.fwu.armed = some at_ ∧ s.armedSlot = some k ∧ s.rst.inStart = true) ∧
    (∃ (k : Nat) (s : Machine.State), s.fwu.armed = some none ∧ s.armedSlot = some k ∧ s.rst.inStart = false ∧ s.rst.level < 2) ∧
    (∃ (s : Machine.State), (s.fwu.armed = none ∨ s.armedSlot = none)) :=
  ⟨⟨5, 0, fun op k => ⟨op, F.FWU_CMD_SECTOR.of 0, k, State.reset.mailbox⟩, State.reset, by decide +kernel, by decide +kernel, fun _ _ => rfl⟩,
   ⟨6, 0, 12, State.reset, by decide +kernel⟩,
   ⟨5, 0, 4, State.reset, by decide +kernel⟩,
   ⟨6, 0, State.reset, by decide +kernel⟩,
   ⟨5, F.FWU_CMD_NOW.put 0 1, 0, { slotIn 0 3 State.reset with fwu := { FwuState.reset with preloaded := [0] } }, by decide +kernel⟩,
   ⟨5, F.FWU_CMD_NOW.put 0 1, 3, State.reset, by decide +kernel⟩,
   ⟨5, 0, slotIn 1 4 State.reset, by decide +kernel⟩,
   ⟨true, State.reset, by decide +kernel⟩,
   ⟨0, 1, 1, 1, piece, ⟨1, 0, 1, piece⟩, fw (fun f => { f with job := some ⟨1, 0, 1, piece⟩ }), by decide +kernel⟩,
   ⟨1, ⟨2, 0, 1, piece⟩, fw (fun f => { f with job := some ⟨2, 0, 1, piece⟩ }), by decide +kernel⟩,
   ⟨1, ⟨3, 0, 1, piece⟩, fw (fun f => { f with job := some ⟨3, 0, 1, piece⟩ }), by decide +kernel⟩,
   ⟨slotBase 1 + 0x3010000 + 1023 * 4096, ⟨6, 1023, 1, List.replicate 4128 0x5A#8⟩, fw (fun f => { f with job := some ⟨6, 1023, 1, List.replicate 4128 0x5A#8⟩ }), rfl, rfl, by decide +kernel, rfl, List.length_replicate⟩,
   ⟨⟨7, 0, 1, piece⟩, fw (fun f => { f with job := some ⟨7, 0, 1, piece⟩ }), by decide +kernel⟩,
   ⟨⟨1, 0, 1, piece⟩, fw (fun f => { f with job := some ⟨1, 0, 1, piece⟩ }), by decide +kernel⟩,
   ⟨0, none, { slotIn 0 4 State.reset with fwu := { FwuState.reset with armed := some none }, rst := { RstState.reset with inStart := true } }, by decide +kernel⟩,
   ⟨1, { slotIn 1 4 State.reset with fwu := { FwuState.reset with armed := some none }, rst := { RstState.reset with level := 1 } }, by decide +kernel⟩,
   ⟨State.reset, by decide +kernel⟩⟩

theorem witness_ResidentLoaderServesDarkroom :
    (∃ (q : BitVec 16) (k : BitVec 8) (p : List Byte) (ok : Bool) (s : Machine.State), s.loaderUp = false) ∧
    (∃ (q : BitVec 16) (s : Machine.State), s.loaderUp = true) ∧
    (∃ (q : BitVec 16) (k : BitVec 8) (p : List Byte) (ok : Bool) (s : Machine.State), s.loaderUp = true ∧ s.fwu.job.isSome = true) ∧
    (∃ (q : BitVec 16) (p : List Byte) (ok : Bool) (s : Machine.State), s.loaderUp = true ∧ s.fwu.job = none ∧ s.pieceResult p ≠ 0) ∧
    (∃ (q : BitVec 16) (p : List Byte) (k : Nat) (s : Machine.State), s.loaderUp = true ∧ s.fwu.job = none ∧ s.pieceResult p = 0 ∧ s.escrow = some k ∧ k < 2 ∧ s.mem.wf = true) ∧
    (∃ (q : BitVec 16) (s : Machine.State), s.loaderUp = true ∧ s.fwu.job = none ∧ s.eraseResult = 0 ∧ s.mem.wf = true) ∧
    (∃ (q : BitVec 16) (r : Nat) (s : Machine.State), s.loaderUp = true ∧ s.fwu.job = none ∧ s.verifyResult = 0 ∧ r = s.imageResult (s.escrow.getD 0)) ∧
    (∃ (q : BitVec 16) (k : BitVec 8) (s : Machine.State), s.loaderUp = true ∧ s.fwu.job = none ∧ (2 ≤ k.toNat ∨ (s.slotState k.toNat ≠ 6 ∧ s.slotState k.toNat ≠ 7 ∧ s.slotState k.toNat ≠ 3))) ∧
    (∃ (q : BitVec 16) (k : BitVec 8) (s : Machine.State), s.loaderUp = true ∧ s.fwu.job = none ∧ k.toNat < 2 ∧ (s.slotState k.toNat = 6 ∨ s.slotState k.toNat = 7 ∨ s.slotState k.toNat = 3)) :=
  ⟨⟨65535, 0, [], true, State.reset, by decide +kernel⟩,
   ⟨65535, dark (fun f => f), by decide +kernel⟩,
   ⟨65535, 1, [], true, dark (fun f => { f with job := some ⟨7, 0, 0, []⟩ }), by decide +kernel⟩,
   ⟨65535, [], true, dark (fun f => f), by decide +kernel⟩,
   ⟨65535, piece, 0, dark (fun f => f), by decide +kernel⟩,
   ⟨65535, dark (fun f => f), by decide +kernel⟩,
   ⟨65535, (slotIn 0 2 (dark (fun f => f))).imageResult ((slotIn 0 2 (dark (fun f => f))).escrow.getD 0), slotIn 0 2 (dark (fun f => f)), by decide +kernel, by decide +kernel, by decide +kernel, rfl⟩,
   ⟨65535, 2, dark (fun f => f), by decide +kernel⟩,
   ⟨65535, 1, slotIn 1 7 (dark (fun f => f)), by decide +kernel⟩⟩

end Tests.Fwu
end

section
/-!
PROOFS. Event counters (R5, R6): how one counts and saturates, and what a write of one clears.
-/

namespace Sys2Proof.Machine

/-! ### Frames of the register file -/

theorem regsButAt_trans {rs : List RegName} {n : Nat} {s t u : State} (h : regsButAt rs n s t) (g : regsButAt rs n t u) :
    regsButAt rs n s u := fun r i hr => (g r i hr).trans (h r i hr)

/-- A register written changes its own element alone. -/
theorem regsButAt_setReg {rs : List RegName} {r : RegName} (hr : r ∈ rs) (i : Nat) (v : Word) (s : State) :
    regsButAt rs i s (s.setReg r i v) := fun _ _ h => reg_setReg_ne s v (fun e => h (e ▸ hr))

/-! ### Counting -/

theorem regsButAt_bump (s : State) (r : RegName) (i : Nat) : regsButAt [r] i s (s.bump r i) :=
  regsButAt_setReg (by simp) i _ s

theorem toNat_reg_bump (s : State) (r : RegName) (i : Nat) :
    ((s.bump r i).reg r i).toNat = min (2 ^ 32 - 1) ((s.reg r i).toNat + 1) := by
  rw [reg_bump_same, Word.ofNat_toNat_of_lt (by omega)]

/-- A number of 64 bits is the sum of its halves. -/
theorem toNat_halves {w : Nat} (h : w < 2 ^ 64) :
    (BitVec.ofNat 32 w).toNat + (BitVec.ofNat 32 (w / 2 ^ 32)).toNat * 2 ^ 32 = w := by
  rw [BitVec.toNat_ofNat, BitVec.toNat_ofNat]
  omega

theorem toNat_regs_bump64 (s : State) {lo hi : RegName} (h : lo ≠ hi) (i : Nat) :
    ((s.bump64 lo hi i).reg lo i).toNat + ((s.bump64 lo hi i).reg hi i).toNat * 2 ^ 32
      = min (2 ^ 64 - 1) ((s.reg lo i).toNat + (s.reg hi i).toNat * 2 ^ 32 + 1) := by
  rw [State.bump64, reg_setReg_same, reg_setReg_reg _ _ _ _ h, reg_setReg_same]
  exact toNat_halves (by omega)

/-! ### Writes -/

/-- The write of a register by a master that is not denied is the write that the register's block makes; an element that the
register does not have ignores it. -/
theorem exec_registerWrite {m : Fin 8} {s : State} (hd : s.dbgDenied m = false) (r : RegName) (i : Nat) (v : Word) :
    exec (.registerWrite m (.n r) i v) s = .next (if i < regCount r then writeName m r i v s else s) := by
  change execRegisterWrite m (.n r) i v s = _
  rw [execRegisterWrite, hd]
  rfl

/-- No block but REF, whose writes settle the Vault as well, gives the write of an event counter an effect of its own: the
registers that a block treats apart are all of kind `plain`. -/
theorem writeName_counter {r : RegName} (hk : r.info.kind ≠ .plain) (hb : r.blk ≠ .REF) (m i : Nat) (v : Word) (s : State) :
    writeName m r i v s = plainWrite r i v s := by
  -- Each register is of kind `plain`, in REF, or a counter that falls to its block's default branch.
  cases r <;> first
    | exact absurd rfl hk
    | exact absurd rfl hb
    | rfl

theorem plainWrite_counter {r : RegName} (hk : r.info.kind = .counter) (i : Nat) (v : Word) (s : State) :
    plainWrite r i v s = s.setReg r i 0 := by
  simp only [plainWrite, hk]

theorem plainWrite_ctrLo {lo hi : RegName} (hk : lo.info.kind = .ctrLo) (hp : RegName.ofCode (lo.code + 1) = some hi)
    (i : Nat) (v : Word) (s : State) : plainWrite lo i v s = (s.setReg lo i 0).setReg hi i 0 := by
  simp only [plainWrite, hk, hp]

theorem plainWrite_ctrHi {hi : RegName} (hk : hi.info.kind = .ctrHi) (i : Nat) (v : Word) (s : State) :
    plainWrite hi i v s = s := by
  simp only [plainWrite, hk]

/-- The two registers are the halves of one 64-bit counter (R5). -/
def counterHalves (lo hi : RegName) : Prop :=
  lo.info.kind = .ctrLo ∧ hi.info.kind = .ctrHi ∧ RegName.ofCode (lo.code + 1) = some hi ∧ lo ≠ hi ∧ lo.blk ≠ .REF ∧ hi.blk ≠ .REF

section
variable {m : Fin 8} {i : Nat} {s : State} (v : Word) (hd : s.dbgDenied m = false)
include hd

/-- A write of any value clears a 32-bit counter and changes nothing else (R6). -/
theorem exec_registerWrite_counter {r : RegName} (hk : r.info.kind = .counter) (hb : r.blk ≠ .REF) (hi : i < regCount r) :
    ∃ t, exec (.registerWrite m (.n r) i v) s = .next t ∧ t.reg r i = 0
      ∧ regsButAt [r] i s t ∧ onlyRegs s t ∧ t.flt = s.flt := by
  have hplain : r.info.kind ≠ .plain := by simp [hk]
  rw [exec_registerWrite hd, if_pos hi, writeName_counter hplain hb, plainWrite_counter hk]
  exact ⟨_, rfl, reg_setReg_same s r i 0, regsButAt_setReg (by simp) i 0 s, onlyRegs_setReg s r i 0, setReg_flt s r i 0⟩

/-- A write of any value to NAME_LO clears both halves of a 64-bit counter and changes nothing else (R6). -/
theorem exec_registerWrite_ctrLo {lo hi : RegName} (hp : counterHalves lo hi) (hin : i < regCount lo) :
    ∃ t, exec (.registerWrite m (.n lo) i v) s = .next t ∧ t.reg lo i = 0 ∧ t.reg hi i = 0
      ∧ regsButAt [lo, hi] i s t ∧ onlyRegs s t ∧ t.flt = s.flt := by
  obtain ⟨hlo, -, hnext, hne, hb, -⟩ := hp
  have hplain : lo.info.kind ≠ .plain := by simp [hlo]
  rw [exec_registerWrite hd, if_pos hin, writeName_counter hplain hb, plainWrite_ctrLo hlo hnext]
  refine ⟨_, rfl, ?_, reg_setReg_same _ hi i 0, ?_, onlyRegs_trans (onlyRegs_setReg s lo i 0) (onlyRegs_setReg _ hi i 0), ?_⟩
  · rw [reg_setReg_reg _ i i 0 hne, reg_setReg_same]
  · exact regsButAt_trans (regsButAt_setReg (by simp) i 0 s) (regsButAt_setReg (by simp) i 0 _)
  · rw [setReg_flt, setReg_flt]

/-- A write of NAME_HI is ignored (R6). -/
theorem exec_registerWrite_ctrHi {lo hi : RegName} (hp : counterHalves lo hi) :
    exec (.registerWrite m (.n hi) i v) s = .next s := by
  obtain ⟨-, hk, -, -, -, hb⟩ := hp
  have hplain : hi.info.kind ≠ .plain := by simp [hk]
  rw [exec_registerWrite hd, writeName_counter hplain hb, plainWrite_ctrHi hk, ite_self]

end

/-- Settles O5: a counter's write is its block's plain write (`writeName_counter`), which clears by the register's kind. -/
theorem countersSaturateAndClear : Obligations.CountersSaturateAndClear := by
  refine ⟨fun r i s => ⟨toNat_reg_bump s r i, regsButAt_bump s r i⟩,
    fun lo hi i s h => toNat_regs_bump64 s h i, ?counters, ?halves⟩
  case counters =>
    intro m i v s hd r hr hi
    obtain ⟨hk, hb⟩ : r.info.kind = .counter ∧ r.blk ≠ .REF := by
      clear hi; revert r; decide
    exact exec_registerWrite_counter v hd hk hb hi
  case halves =>
    intro m i v s hd p hp hi
    have halves : counterHalves p.1 p.2 := by
      clear hi; unfold counterHalves; revert p; decide
    exact ⟨exec_registerWrite_ctrLo v hd halves hi, exec_registerWrite_ctrHi v hd halves⟩

end Sys2Proof.Machine
end

section
/-!
PROOFS. The merge of a class P line and the read of a class T line (R18, R19, R187): the words sent and the events counted.
-/

namespace Sys2Proof.Machine

/-! ### The words of a line -/

@[simp] theorem length_planeWords (planeB : Bool) (bad : List WordFault) (words : List (List Byte)) :
    (planeWords planeB bad words).length = words.length := by
  simp [planeWords]

theorem beforeFail_iff {k : Nat} {f : Option Nat} : beforeFail k f = true ↔ ∀ i, f = some i → k < i := by
  cases f <;> simp [beforeFail]

theorem not_beforeFail {k i : Nat} (h : i ≤ k) : ¬ beforeFail k (some i) = true := by
  simp [beforeFail, h]

/-- The choice of R187, word by word: both planes hold every word of the line. -/
theorem getD_mergeWords (fa fb : Option Nat) (bad : List WordFault) {words : List (List Byte)} {k : Nat} (hk : k < words.length) :
    (mergeWords fa fb (planeWords false bad words) (planeWords true bad words)).getD k [] =
      if beforeFail k fa then (planeWords false bad words).getD k []
      else if beforeFail k fb then (planeWords true bad words).getD k [] else (planeWords false bad words).getD k [] := by
  have held : ∀ planeB, k < (planeWords planeB bad words).length := fun planeB => by rwa [length_planeWords]
  simp [mergeWords, List.getElem?_eq_getElem (held false), List.getElem?_eq_getElem (held true)]

/-! ### Check failures recorded (R186) -/

theorem regsBut_trans {rs : List RegName} {s t u : State} (h : regsBut rs s t) (g : regsBut rs t u) : regsBut rs s u :=
  fun r i hr => (g r i hr).trans (h r i hr)

theorem regsBut_noteCheckFail (o p : Nat) (w : Option Nat) (s : State) :
    regsBut [.XPT_SLICE_CHK, .XPT_CHK_LAST] s (noteCheckFail o p w s) := by
  intro r i hr
  obtain ⟨hslice, hlast⟩ : r ≠ .XPT_SLICE_CHK ∧ r ≠ .XPT_CHK_LAST := by simpa using hr
  cases w with
  | none => rfl
  | some k => simp [noteCheckFail, State.setFlds, reg_setFld_apart, reg_bump_apart, hslice, hlast]

/-- Two failures recorded, in either order. -/
theorem regsBut_noteCheckFail_twice (o p q : Nat) (v w : Option Nat) (s : State) :
    regsBut [.XPT_SLICE_CHK, .XPT_CHK_LAST] s (noteCheckFail o p v (noteCheckFail o q w s)) :=
  regsBut_trans (regsBut_noteCheckFail o q w s) (regsBut_noteCheckFail o p v _)

/-! ### Lines counted (R187) -/

/-- The event that a class P line counts, by the planes that failed in it. -/
def countMerge (o : Nat) : Option Nat → Option Nat → State → State
  | some _, none, s => s.bump .XPT_MERGE_A_CNT 0
  | none, some _, s => s.bump .XPT_MERGE_B_CNT 0
  | some _, some _, s => ((s.bump .XPT_MERGE_BOTH_CNT 0).bump .XPT_VOUT_BOTH o).raise Src.XPT_MERGE_BOTH
  | none, none, s => s

/-- The merge of a line: its words, the failures recorded, and then one event counted. -/
theorem mergeP_eq (e o : Nat) (pl : PoolLine) (bad : List WordFault) (s : State) :
    ∃ t, regsBut [.XPT_SLICE_CHK, .XPT_CHK_LAST] s t ∧ mergeP e o pl bad s =
      (mergeWords (planeFails e pl false bad) (planeFails e pl true bad) (planeWords false bad pl.words)
        (planeWords true bad pl.words), countMerge o (planeFails e pl false bad) (planeFails e pl true bad) t) := by
  unfold mergeP
  generalize planeFails e pl false bad = fa
  generalize planeFails e pl true bad = fb
  match fa, fb with
  | none, none => exact ⟨_, regsBut_noteCheckFail_twice o 1 0 none none s, rfl⟩
  | none, some j => exact ⟨_, regsBut_noteCheckFail_twice o 1 0 (some j) none s, rfl⟩
  | some i, none => exact ⟨_, regsBut_noteCheckFail_twice o 1 0 none (some i) s, rfl⟩
  | some i, some j =>
    -- The plane that fails first is recorded first.
    by_cases h : j < i
    · exact ⟨_, regsBut_noteCheckFail_twice o 0 1 (some i) (some j) s, by simp only [h, if_true]; rfl⟩
    · exact ⟨_, regsBut_noteCheckFail_twice o 1 0 (some j) (some i) s, by simp only [h, if_false]; rfl⟩

section
variable (o : Nat) (fa fb : Option Nat) (s : State)

theorem reg_countMerge_A : (countMerge o fa fb s).reg .XPT_MERGE_A_CNT 0 =
    if fa.isSome = true ∧ fb = none then BitVec.ofNat 32 (min (2 ^ 32 - 1) ((s.reg .XPT_MERGE_A_CNT 0).toNat + 1))
    else s.reg .XPT_MERGE_A_CNT 0 := by
  match fa, fb with
  | none, none => rfl
  | some _, none => exact reg_bump_same s _ 0
  | none, some _ => exact reg_bump_apart s 0 0 (by decide)
  | some _, some _ => simp [countMerge, reg_bump_apart]

theorem reg_countMerge_B : (countMerge o fa fb s).reg .XPT_MERGE_B_CNT 0 =
    if fa = none ∧ fb.isSome = true then BitVec.ofNat 32 (min (2 ^ 32 - 1) ((s.reg .XPT_MERGE_B_CNT 0).toNat + 1))
    else s.reg .XPT_MERGE_B_CNT 0 := by
  match fa, fb with
  | none, none => rfl
  | some _, none => exact reg_bump_apart s 0 0 (by decide)
  | none, some _ => exact reg_bump_same s _ 0
  | some _, some _ => simp [countMerge, reg_bump_apart]

theorem countMerge_both (i j : Nat) :
    (countMerge o (some i) (some j) s).reg .XPT_MERGE_BOTH_CNT 0
        = BitVec.ofNat 32 (min (2 ^ 32 - 1) ((s.reg .XPT_MERGE_BOTH_CNT 0).toNat + 1))
      ∧ (countMerge o (some i) (some j) s).reg .XPT_VOUT_BOTH o
        = BitVec.ofNat 32 (min (2 ^ 32 - 1) ((s.reg .XPT_VOUT_BOTH o).toNat + 1))
      ∧ (countMerge o (some i) (some j) s).isSet Src.XPT_MERGE_BOTH = true := by
  refine ⟨?_, ?_, isSet_raise_same _ (by decide)⟩
  · rw [countMerge, reg_raise, reg_bump_apart _ _ _ (by decide), reg_bump_same]
  · rw [countMerge, reg_raise, reg_bump_same, reg_bump_apart _ _ _ (by decide)]

/-- A line in which a plane passed leaves the counts of double failures alone. -/
theorem reg_countMerge_of_pass {fa fb : Option Nat} (h : fa = none ∨ fb = none) {r : RegName} (hA : r ≠ .XPT_MERGE_A_CNT)
    (hB : r ≠ .XPT_MERGE_B_CNT) (i : Nat) : (countMerge o fa fb s).reg r i = s.reg r i := by
  match fa, fb with
  | none, none => rfl
  | some _, none => exact reg_bump_apart s 0 i hA
  | none, some _ => exact reg_bump_apart s 0 i hB
  | some _, some _ => simp at h

end

/-! ### Class T -/

theorem readT_of_pass {e o : Nat} {planeB : Bool} {pl : PoolLine} {bad : List WordFault} (h : planeFails e pl planeB bad = none)
    (s : State) : (readT e o planeB pl bad s).2 = s := by
  simp [readT, h, noteCheckFail]

theorem readT_of_fail {e o : Nat} {planeB : Bool} {pl : PoolLine} {bad : List WordFault}
    (h : (planeFails e pl planeB bad).isSome = true) (s : State) : (readT e o planeB pl bad s).2 =
      ((noteCheckFail o (b2n planeB) (planeFails e pl planeB bad) s).bump .XPT_CHECK_T_CNT 0).raise Src.XPT_CHECK_T := by
  simp only [readT, h, if_true]

/-- Settles O31: the words are the choice of `getD_mergeWords`, the counts those of `countMerge`, which the failures recorded
before it do not touch. -/
theorem classPMergeTakesTheGoodPlane : Obligations.ClassPMergeTakesTheGoodPlane := by
  refine ⟨?classP, ?classT⟩
  case classP =>
    intro e o pl bad s out u fa fb hfa hfb hmerge
    obtain ⟨t, hframe, heq⟩ := mergeP_eq e o pl bad s
    rw [heq, ← hfa, ← hfb] at hmerge
    obtain ⟨rfl, rfl⟩ := Prod.mk.inj hmerge
    rw [← hframe .XPT_MERGE_A_CNT 0 (by decide), ← hframe .XPT_MERGE_B_CNT 0 (by decide),
      ← hframe .XPT_MERGE_BOTH_CNT 0 (by decide), ← hframe .XPT_VOUT_BOTH o (by decide)]
    refine ⟨?beforeA, ?fromA, ?fromBoth, reg_countMerge_A o fa fb t, reg_countMerge_B o fa fb t, ?both, ?pass⟩
    case beforeA =>
      intro k hk hA
      rw [getD_mergeWords _ _ bad hk, if_pos (beforeFail_iff.2 hA)]
    case fromA =>
      rintro k i hk rfl hi hB
      rw [getD_mergeWords _ _ bad hk, if_neg (not_beforeFail hi), if_pos (beforeFail_iff.2 hB)]
    case fromBoth =>
      rintro k i j hk rfl rfl hi hj
      rw [getD_mergeWords _ _ bad hk, if_neg (not_beforeFail hi), if_neg (not_beforeFail hj)]
    case both =>
      rintro ⟨hA, hB⟩
      obtain ⟨i, rfl⟩ := Option.isSome_iff_exists.1 hA
      obtain ⟨j, rfl⟩ := Option.isSome_iff_exists.1 hB
      exact countMerge_both o t i j
    case pass =>
      exact fun h => ⟨reg_countMerge_of_pass o t h (by decide) (by decide) 0,
        reg_countMerge_of_pass o t h (by decide) (by decide) o⟩
  case classT =>
    refine fun e o planeB pl bad s => ⟨rfl, fun hfail => ?_, fun hpass => readT_of_pass hpass s⟩
    rw [readT_of_fail hfail]
    refine ⟨isSet_raise_same _ (by decide), ?_⟩
    rw [reg_raise, reg_bump_same, regsBut_noteCheckFail _ _ _ s _ _ (by decide)]

end Sys2Proof.Machine
end

section
/-!
PROOFS. The completion of a cue instruction (R217, R226): what the thread that completes one becomes, and what stays as it was.
-/

namespace Sys2Proof.Machine

/-! ### Time passes: threads and registers stay -/

@[simp] theorem runDom_cue (s : State) (d ns : Nat) : (s.runDom d ns).cue = s.cue := by
  unfold State.runDom
  split <;> simp

@[simp] theorem runDom_regs (s : State) (d ns : Nat) : (s.runDom d ns).regs = s.regs := by
  unfold State.runDom
  split <;> simp

@[simp] theorem slewEt_cue (ns : Nat) (s : State) : (slewEt ns s).cue = s.cue := by
  unfold slewEt
  (repeat' split) <;> simp

@[simp] theorem slewEt_regs (ns : Nat) (s : State) : (slewEt ns s).regs = s.regs := by
  unfold slewEt
  (repeat' split) <;> simp

@[simp] theorem elapse_cue (ns : Nat) (s : State) : (elapse ns s).cue = s.cue := by
  simp [elapse]

@[simp] theorem elapse_regs (ns : Nat) (s : State) : (elapse ns s).regs = s.regs := by
  simp [elapse]

@[simp] theorem passTo_cue (i : Int) (s : State) : (passTo i s).cue = s.cue := elapse_cue _ s

@[simp] theorem passTo_regs (i : Int) (s : State) : (passTo i s).regs = s.regs := elapse_regs _ s

/-! ### The thread table -/

@[simp] theorem thread?_setThread_same (s : State) (t : Nat) (x : Thread) : (s.setThread t x).thread? t = some x :=
  AMap.find?_set_same _ t x

theorem thread?_setThread_ne (s : State) {t k : Nat} (x : Thread) (h : k ≠ t) : (s.setThread t x).thread? k = s.thread? k :=
  AMap.find?_set_ne _ x h

theorem thread?_of_cue {s u : State} (h : u.cue = s.cue) (t : Nat) : u.thread? t = s.thread? t := by
  rw [State.thread?, State.thread?, h]

@[simp] theorem setThread_regs (s : State) (t : Nat) (x : Thread) : (s.setThread t x).regs = s.regs := rfl

/-- A thread whose run ends: it takes its next state, what it waits for and a HALT, and shows its context (R203, R232). -/
def Thread.ended (x : Thread) (st : Nat) (wake : Wake) (halting : Bool) : Thread :=
  { x with st := st, wake := wake, halting := halting, bover := false, shown := x.ctx, eng := none }

/-- A thread whose run is stopped over its budget (R206). -/
def Thread.stopped (x : Thread) : Thread :=
  { x with st := 1, bover := true, boverNow := true, shown := x.ctx, eng := none }

/-- The thread table after a run's end is that of the thread's own write. -/
theorem thread?_endRun (t k : Nat) (x : Thread) (s : State) :
    (endRun t x s).thread? k = (s.setThread t { x.show with eng := none }).thread? k := by
  unfold endRun
  split <;> rfl

@[simp] theorem endRun_regs (t : Nat) (x : Thread) (s : State) : (endRun t x s).regs = s.regs := by
  unfold endRun
  split <;> rfl

@[simp] theorem countBover_cue (t : Nat) (s : State) : (countBover t s).cue = s.cue := by
  simp [countBover]

theorem regsBut_countBover (t : Nat) (s : State) :
    regsBut [.CUE_THR_STAT, .CUE_THR_BOVER, .CUE_BUDGET_OVER_CNT] s (countBover t s) := by
  intro r i hr
  obtain ⟨hstat, hbover, hcnt⟩ : r ≠ .CUE_THR_STAT ∧ r ≠ .CUE_THR_BOVER ∧ r ≠ .CUE_BUDGET_OVER_CNT := by simpa using hr
  rw [countBover, reg_raise, reg_bump_apart _ _ _ hcnt, reg_bump_apart _ _ _ hbover, reg_setFlag_apart _ _ _ _ hstat]

theorem isSet_countBover (t : Nat) (s : State) : (countBover t s).isSet Src.CUE_BUDGET_OVER = true :=
  isSet_raise_same _ (by decide)

/-! ### One thread changes -/

/-- From `s` to `u` thread `t` becomes `y`, and no other thread, no register, no byte of memory and no queued command changes. -/
structure ThreadBecomes (t : Nat) (y : Thread) (s u : State) : Prop where
  thread : u.thread? t = some y
  others : ∀ k, k ≠ t → u.thread? k = s.thread? k
  regs : u.regs = s.regs
  still : still s u

section
variable {t : Nat} {y : Thread} {s u : State}

theorem ThreadBecomes.setThread (h : ThreadBecomes t y s u) (z : Thread) : ThreadBecomes t z s (u.setThread t z) where
  thread := thread?_setThread_same u t z
  others k hk := (thread?_setThread_ne u z hk).trans (h.others k hk)
  regs := h.regs
  still := h.still

theorem ThreadBecomes.setCtx (h : ThreadBecomes t y s u) (f : ThrCtx → ThrCtx) :
    ThreadBecomes t { y with ctx := f y.ctx } s (setCtx t f u) := by
  simp only [Machine.setCtx, h.thread]
  exact h.setThread _

theorem ThreadBecomes.endRun (h : ThreadBecomes t y s u) (z : Thread) :
    ThreadBecomes t { z.show with eng := none } s (endRun t z u) where
  thread := (thread?_endRun ..).trans (thread?_setThread_same ..)
  others k hk := ((thread?_endRun ..).trans (thread?_setThread_ne _ _ hk)).trans (h.others k hk)
  regs := (endRun_regs ..).trans h.regs
  still := ⟨(endRun_pending ..).trans h.still.1, (endRun_mem ..).trans h.still.2⟩

theorem ThreadBecomes.yieldRun (h : ThreadBecomes t y s u) (st : Nat) (wake : Wake) (halting : Bool) :
    ThreadBecomes t (y.ended st wake halting) s (yieldRun t st wake halting u) := by
  simp only [Machine.yieldRun, h.thread]
  exact h.endRun { y with st := st, wake := wake, halting := halting, bover := false }

/-- A run that has ended, or has budget left, is not stopped (R206). -/
theorem ThreadBecomes.budgetStop_eq (h : ThreadBecomes t y s u) (hy : y.st = 2 → y.used < y.budget) : budgetStop t u = u := by
  simp only [budgetStop, h.thread]
  exact if_neg fun ⟨hst, hused⟩ => absurd (hy hst) (by omega)

/-- The last instruction of a budget stops the run, and the stop is counted (R206). -/
theorem ThreadBecomes.budgetStop_stops (h : ThreadBecomes t y s u) (hst : y.st = 2) (hused : y.budget ≤ y.used) :
    ∃ v, ThreadBecomes t y.stopped s v ∧ budgetStop t u = countBover t v := by
  refine ⟨_, h.endRun { y with st := 1, bover := true, boverNow := true }, ?_⟩
  simp only [budgetStop, stopRun, h.thread]
  exact if_pos ⟨hst, hused⟩

end

/-! ### An instruction completes -/

/-- The thread when its instruction's last cycle is over: a unit of budget is used and the program counter has moved. -/
def Thread.stepped (x : Thread) (w : Word) : Thread :=
  { x with clock := x.clock + (cueCost x.ctx w : Nat), used := x.used + 1, ctx := { x.ctx with pc := (cueNextPc x.ctx w).toNat } }

section
variable {t op : Nat} {x : Thread} {w : Word} {s : State} (h : s.standsAt t op x w)
include h

/-- An instruction that a thread stands at completes: its effect is that of `act` after its cycles. -/
theorem completeOp_of_standsAt : ∃ v, ThreadBecomes t (x.stepped w) s v
    ∧ ∀ act : ThrCtx → Word → State → State, completeOp op t act s = budgetStop t (act x.ctx w v) := by
  obtain ⟨hthread, hst, hfetch, hop, hfault, f, hopened, hends⟩ := h
  have time : ThreadBecomes t x s (passTo (x.clock + (cueCost x.ctx w : Nat)) s) :=
    ⟨(thread?_of_cue (passTo_cue ..) t).trans hthread, fun k _ => thread?_of_cue (passTo_cue ..) k,
      passTo_regs .., passTo_pending .., passTo_mem ..⟩
  refine ⟨_, time.setThread _, fun act => ?_⟩
  have goesOn : ¬ (x.st ≠ 2 ∨ (cueOp w ≠ op ∧ cueOpListed (cueOp w) = true)
      ∨ f.shutter ≤ x.clock + (cueCost x.ctx w : Nat)) := by
    rintro (hrun | ⟨hother, -⟩ | hlate)
    · exact hrun hst
    · exact hother hop
    · exact absurd hends (not_lt.2 hlate)
  simp only [completeOp, hthread, hopened, hfetch, hfault, if_neg goesOn, ne_eq, not_true_eq_false, if_false]
  rfl

/-- An instruction whose effect is on the thread's own context: the run goes on with it, or is stopped with it (R206). -/
theorem ranAlone_completeOp {act : ThrCtx → Word → State → State} {c : ThrCtx}
    (hact : ∀ v, ThreadBecomes t (x.stepped w) s v → ThreadBecomes t { x.stepped w with ctx := c } s (act x.ctx w v)) :
    ∃ y, ranAlone t x y s (completeOp op t act s) ∧ y.ctx = c := by
  obtain ⟨v, hv, heq⟩ := completeOp_of_standsAt h
  obtain ⟨-, hst, -⟩ := h
  have after := hact v hv
  rw [heq]
  by_cases left : x.used + 1 < x.budget
  case pos =>
    rw [after.budgetStop_eq fun _ => left]
    have hran : ran t x { x.stepped w with ctx := c } s (act x.ctx w v) :=
      ⟨after.thread, rfl, fun _ => ⟨hst, rfl⟩, fun spent => absurd left (not_lt.2 spent), after.others, after.still.1⟩
    exact ⟨_, ⟨hran, after.still.2, fun r i _ => reg_of_regs after.regs r i, fun _ => after.regs⟩, rfl⟩
  case neg =>
    obtain ⟨u, stop, hu⟩ := after.budgetStop_stops hst (not_lt.1 left)
    rw [hu]
    have threads : ∀ k, (countBover t u).thread? k = u.thread? k := thread?_of_cue (countBover_cue t u)
    have hran : ran t x (Thread.stopped { x.stepped w with ctx := c }) s (countBover t u) :=
      ⟨(threads t).trans stop.thread, rfl, fun go => absurd go left, fun _ => ⟨rfl, rfl, rfl, isSet_countBover t u⟩,
        fun k hk => (threads k).trans (stop.others k hk), (countBover_pending t u).trans stop.still.1⟩
    exact ⟨_, ⟨hran, (countBover_mem t u).trans stop.still.2,
      fun r i hr => (regsBut_countBover t u r i hr).trans (reg_of_regs stop.regs r i), fun go => absurd go left⟩, rfl⟩

/-- An instruction that changes its thread's context by `f`, once the program counter has moved. -/
theorem ranAlone_completeOp_setCtx (f : ThrCtx → Word → ThrCtx → ThrCtx) :
    ∃ y, ranAlone t x y s (completeOp op t (fun c w => setCtx t (f c w)) s) ∧ y.ctx = f x.ctx w (x.stepped w).ctx :=
  ranAlone_completeOp h fun _ hv => hv.setCtx _

/-- An instruction that ends its thread's run: no budget stop follows. -/
theorem completeOp_yieldRun {act : ThrCtx → Word → State → State} {st : Nat} {wake : Wake} {halting : Bool}
    (hact : act x.ctx w = yieldRun t st wake halting) (hst : st ≠ 2) :
    ThreadBecomes t ((x.stepped w).ended st wake halting) s (completeOp op t act s) := by
  obtain ⟨v, hv, heq⟩ := completeOp_of_standsAt h
  have after := hv.yieldRun st wake halting
  rw [heq, hact, after.budgetStop_eq fun run => absurd run hst]
  exact after

end

end Sys2Proof.Machine
end

section
/-!
PROOFS. Control flow of the cue instruction set (R229, R231 to R234): which way BR, CALL and RET go, and the ends of a run.
-/

namespace Sys2Proof.Machine

/-! ### The checks of R239 -/

section
variable {t : Nat} {c : ThrCtx} {w : Word} {s : State}

/-- One check in a chain of them: no cause is found iff the check passes and the later ones find none. -/
theorem cause_eq_zero_iff {fails : Prop} [Decidable fails] {cause later : Nat} (h : cause ≠ 0) :
    (if fails then cause else later) = 0 ↔ ¬ fails ∧ later = 0 := by
  split_ifs with hf <;> simp [hf, h]

/-- An instruction does not fault iff it passes every check of R239. -/
theorem cueFault_eq_zero_iff : s.cueFault t c w = 0 ↔
    ¬ cueIllegal (s.thrOut t) w = true
      ∧ ¬ (cueOp w = 0x35 ∧ (!s.flag F.CUE_THR_CFG_SAFE t) = true)
      ∧ ¬ s.cueNotOwner (s.thrOut t) c w = true
      ∧ ¬ ((cueOp w = 0x18 ∨ cueOp w = 0x19) ∧ 63 < (scratchAt c w).toNat)
      ∧ ¬ (cueTaken c w = true ∧ ((cueOp w = 0x11 ∧ 8 ≤ c.stack.length) ∨ (cueOp w = 0x12 ∧ c.stack.isEmpty = true)))
      ∧ ¬ (cueNextPc c w < 0 ∨ 262143 < cueNextPc c w) := by
  simp (disch := decide) only [State.cueFault, cause_eq_zero_iff, and_true]

/-- Check 6: the program goes on at an index that is not negative. -/
theorem toNat_nextPc (h : s.cueFault t c w = 0) : ((cueNextPc c w).toNat : Int) = cueNextPc c w := by
  obtain ⟨-, -, -, -, -, hrange⟩ := cueFault_eq_zero_iff.1 h
  exact Int.toNat_of_nonneg (by omega)

/-- Check 5: a return that is taken has an address to return to. -/
theorem stack_of_return (h : s.cueFault t c w = 0) (hop : cueOp w = 0x12) (htaken : cueTaken c w = true) :
    ∃ a rest, c.stack = a :: rest := by
  obtain ⟨-, -, -, -, hstack, -⟩ := cueFault_eq_zero_iff.1 h
  refine List.exists_cons_of_ne_nil fun hnil => hstack ⟨htaken, .inr ⟨hop, ?_⟩⟩
  rw [hnil]
  rfl

/-- Check 1: the reserved codes of R229 are illegal. -/
theorem cueFault_of_cond_reserved (t : Nat) (c : ThrCtx) (s : State) (hop : cueOp w = 0x10 ∨ cueOp w = 0x11 ∨ cueOp w = 0x12)
    (hcond : 11 ≤ cueCond w) : s.cueFault t c w = 3 := by
  have reserved : 10 < cueCond w := hcond
  have illegal : cueIllegal (s.thrOut t) w = true := by
    rcases hop with hop | hop | hop <;> simp [cueIllegal, hop, reserved]
  exact if_pos illegal

end

/-! ### Where the program goes on (R231) -/

section
variable {c : ThrCtx} {w : Word}

theorem cueTaken_eq_holds (h : 0x10 ≤ cueOp w ∧ cueOp w ≤ 0x12) : cueTaken c w = c.holds (cueCond w) := by
  simp [cueTaken, h]

theorem cueTaken_of_not_branch (h : 0x12 < cueOp w) : cueTaken c w = false := by
  simp [cueTaken, h]

theorem cueNextPc_of_not_taken (h : cueTaken c w = false) : cueNextPc c w = c.pc + 1 := by
  simp [cueNextPc, h]

theorem cueNextPc_of_taken (h : cueTaken c w = true) (hop : cueOp w ≠ 0x12) :
    cueNextPc c w = (c.pc : Int) + signed 22 (cueImm22 w) := by
  simp [cueNextPc, h, hop]

theorem cueNextPc_of_return {a : Nat} {rest : List Nat} (h : cueTaken c w = true) (hop : cueOp w = 0x12)
    (hstack : c.stack = a :: rest) : cueNextPc c w = a := by
  simp [cueNextPc, h, hop, hstack]

end

section
variable {x : Thread} {w : Word}

theorem stepped_ctx_of_nextPc {n : Nat} (h : cueNextPc x.ctx w = n) : (x.stepped w).ctx = { x.ctx with pc := n } := by
  simp [Thread.stepped, h]

/-- The context that goes on at the following instruction. -/
theorem stepped_ctx_of_not_taken (h : cueTaken x.ctx w = false) : (x.stepped w).ctx = { x.ctx with pc := x.ctx.pc + 1 } :=
  stepped_ctx_of_nextPc (cueNextPc_of_not_taken h)

end

/-! ### The instructions -/

section
variable {t : Fin 4096} {x : Thread} {w : Word} {s : State}

theorem exec_cueBr (h : s.standsAt t 0x10 x w) :
    ∃ u y, exec (.cueBr t) s = .next u ∧ ranAlone t x y s u ∧ y.ctx = { x.ctx with pc := y.ctx.pc }
      ∧ (y.ctx.pc : Int) = if x.ctx.holds (cueCond w) = true then (x.ctx.pc : Int) + signed 22 (cueImm22 w)
          else x.ctx.pc + 1 := by
  obtain ⟨y, hy, hctx⟩ := ranAlone_completeOp h (act := fun _ _ u => u) (c := (x.stepped w).ctx) fun _ hv => hv
  obtain ⟨-, -, -, hop, hfault, -⟩ := h
  have taken : cueTaken x.ctx w = x.ctx.holds (cueCond w) := cueTaken_eq_holds (by omega)
  refine ⟨_, y, rfl, hy, by rw [hctx]; rfl, ?_⟩
  rw [hctx, ← taken]
  refine (toNat_nextPc hfault).trans ?_
  split_ifs with ht
  · exact cueNextPc_of_taken ht (by omega)
  · exact cueNextPc_of_not_taken (by simpa using ht)

theorem exec_cueCall (h : s.standsAt t 0x11 x w) :
    ∃ u y, exec (.cueCall t) s = .next u ∧ ranAlone t x y s u
      ∧ (x.ctx.holds (cueCond w) = true → (y.ctx.pc : Int) = (x.ctx.pc : Int) + signed 22 (cueImm22 w)
          ∧ y.ctx = { x.ctx with pc := y.ctx.pc, stack := (x.ctx.pc + 1) :: x.ctx.stack })
      ∧ (x.ctx.holds (cueCond w) = false → y.ctx = { x.ctx with pc := x.ctx.pc + 1 }) := by
  obtain ⟨y, hy, hctx⟩ := ranAlone_completeOp_setCtx h
    fun c w e => if cueTaken c w then { e with stack := (c.pc + 1) :: e.stack } else e
  obtain ⟨-, -, -, hop, hfault, -⟩ := h
  have taken : cueTaken x.ctx w = x.ctx.holds (cueCond w) := cueTaken_eq_holds (by omega)
  rw [← taken]
  refine ⟨_, y, rfl, hy, fun ht => ?goes, fun hn => ?stays⟩
  case goes =>
    rw [hctx, if_pos ht]
    exact ⟨(toNat_nextPc hfault).trans (cueNextPc_of_taken ht (by omega)), rfl⟩
  case stays =>
    rw [hctx, if_neg (by simp [hn]), stepped_ctx_of_not_taken hn]

theorem exec_cueRet (h : s.standsAt t 0x12 x w) :
    ∃ u y, exec (.cueRet t) s = .next u ∧ ranAlone t x y s u
      ∧ (x.ctx.holds (cueCond w) = true → ∃ a rest, x.ctx.stack = a :: rest
          ∧ y.ctx = { x.ctx with pc := a, stack := rest })
      ∧ (x.ctx.holds (cueCond w) = false → y.ctx = { x.ctx with pc := x.ctx.pc + 1 }) := by
  obtain ⟨y, hy, hctx⟩ := ranAlone_completeOp_setCtx h
    fun c w e => if cueTaken c w then { e with stack := e.stack.tail } else e
  obtain ⟨-, -, -, hop, hfault, -⟩ := h
  have taken : cueTaken x.ctx w = x.ctx.holds (cueCond w) := cueTaken_eq_holds (by omega)
  rw [← taken]
  refine ⟨_, y, rfl, hy, fun ht => ?goes, fun hn => ?stays⟩
  case goes =>
    obtain ⟨a, rest, hstack⟩ := stack_of_return hfault hop ht
    refine ⟨a, rest, hstack, ?_⟩
    rw [hctx, if_pos ht, stepped_ctx_of_nextPc (cueNextPc_of_return ht hop hstack), hstack]
    rfl
  case stays =>
    rw [hctx, if_neg (by simp [hn]), stepped_ctx_of_not_taken hn]

/-- An instruction beyond BR, CALL and RET goes on at the following one. -/
theorem stepped_ctx_of_standsAt {op : Nat} (h : s.standsAt t op x w) (hop : 0x12 < op) :
    (x.stepped w).ctx = { x.ctx with pc := x.ctx.pc + 1 } := by
  obtain ⟨-, -, -, rfl, -⟩ := h
  exact stepped_ctx_of_not_taken (cueTaken_of_not_branch hop)

end

/-- Settles O38: an instruction that its thread stands at completes (`completeOp_of_standsAt`); the checks it passed keep the
program counter in the program and a return's stack from being empty. -/
theorem cueControlFlow : Obligations.CueControlFlow := by
  refine ⟨fun _ _ _ _ => exec_cueBr, fun _ _ _ _ => exec_cueCall, fun _ _ _ _ => exec_cueRet,
    fun t x w s => ⟨fun h => ?yield, fun h => ?halt, fun h => ?waitf, fun h => ?waitt⟩,
    fun _ => ⟨rfl, rfl, rfl, rfl, rfl, rfl, rfl, rfl, rfl, rfl, rfl⟩,
    fun t x w s => cueFault_of_cond_reserved t x s⟩
  case yield =>
    have b := completeOp_yieldRun h (act := fun _ _ => yieldRun t 1 .none false) rfl (by decide)
    exact ⟨_, _, rfl, b.thread, rfl, rfl, rfl, rfl, rfl, stepped_ctx_of_standsAt h (by decide), rfl,
      b.others, b.regs, b.still⟩
  case halt =>
    have b := completeOp_yieldRun h (act := fun _ _ => yieldRun t 1 .none true) rfl (by decide)
    exact ⟨_, _, rfl, b.thread, rfl, rfl, stepped_ctx_of_standsAt h (by decide), rfl, b.others, b.regs, b.still⟩
  case waitf =>
    have b := completeOp_yieldRun h (act := fun c w => yieldRun t 3
      (if cueSub w = 0 then .frames (max 1 (kPlus (c.val (cueR1 w)) w).toNat) else .phi (kPlus (c.val (cueR1 w)) w)) false)
      rfl (by decide)
    exact ⟨_, _, rfl, b.thread, rfl, rfl, fun frames => if_pos frames, fun phi => if_neg (by omega),
      stepped_ctx_of_standsAt h (by decide), rfl, b.others, b.regs, b.still⟩
  case waitt =>
    have b := completeOp_yieldRun h (act := fun c w => yieldRun t 4
      (.instant ((c.val (cueR1 w)).toNat + (c.val (cueR2 w)).toNat % 2 ^ 16 * 2 ^ 32)) false) rfl (by decide)
    exact ⟨_, _, rfl, b.thread, rfl, rfl, rfl, stepped_ctx_of_standsAt h (by decide), rfl, b.others, b.regs, b.still⟩

end Sys2Proof.Machine
end

section
/-!
PROOFS. The Take and Tally Bus (R251 to R255, R257, R258, R260, R262, R263): what an edge of the bus clock leaves unchanged, what a
read and each write answer and do, and the enable.
-/

namespace Sys2Proof.Machine

/-! ### Frames of the register file -/

theorem regsBut_of_regsButAt {rs : List RegName} {n : Nat} {s t : State} (h : regsButAt rs n s t) : regsBut rs s t :=
  fun r i hr => h r i fun hin => absurd hin hr

theorem regsBut_mono {rs qs : List RegName} {s t : State} (hsub : rs ⊆ qs) (h : regsBut rs s t) : regsBut qs s t :=
  fun r i hr => h r i fun hin => hr (hsub hin)

/-! ### An edge of the bus clock (R256, R263) -/

/-- Swapping banks changes the Tally Mirror alone. -/
theorem foldl_swapBank_eq (due : List Nat) (s : State) :
    due.foldl swapBank s = { s with ttb := (due.foldl swapBank s).ttb } := by
  induction due generalizing s with
  | nil => rfl
  | cons n rest ih => exact ih (swapBank s n)

theorem ttbEdge_eq (s : State) : ttbEdge s = { s with regs := (ttbEdge s).regs, ttb := (ttbEdge s).ttb } := by
  rw [ttbEdge, foldl_swapBank_eq]
  rfl

section
variable (s : State)

@[simp] theorem ttbEdge_cue : (ttbEdge s).cue = s.cue := by rw [ttbEdge_eq]
@[simp] theorem ttbEdge_flt : (ttbEdge s).flt = s.flt := by rw [ttbEdge_eq]
@[simp] theorem ttbEdge_owner : (ttbEdge s).owner = s.owner := by rw [ttbEdge_eq]
@[simp] theorem ttbEdge_ptp : (ttbEdge s).ptp = s.ptp := by rw [ttbEdge_eq]

theorem still_ttbEdge : still s (ttbEdge s) := ⟨ttbEdge_pending s, ttbEdge_mem s⟩

/-- An edge at which no swap is due leaves the Tally Mirror alone. -/
theorem ttbEdge_ttb_of_due_nil {s : State} (h : s.ttb.due = []) : (ttbEdge s).ttb = s.ttb := by
  rw [ttbEdge, h]
  rfl

/-- An edge shows in TTB_STAT alone. -/
theorem regsButAt_ttbEdge : regsButAt [.TTB_STAT] 0 s (ttbEdge s) := by
  intro r i hr
  rw [ttbEdge, foldl_swapBank_eq]
  exact regsButAt_setReg (List.mem_singleton_self _) 0 _ { s with ttb := _ } r i hr

theorem regsBut_ttbEdge : regsBut [.TTB_STAT] s (ttbEdge s) := regsBut_of_regsButAt (regsButAt_ttbEdge s)

theorem reg_ttbEdge {r : RegName} (h : r ≠ .TTB_STAT) (i : Nat) : (ttbEdge s).reg r i = s.reg r i :=
  regsBut_ttbEdge s r i (by simpa using h)

theorem fld_ttbEdge {f : Fld} (h : f.reg ≠ .TTB_STAT) (i : Nat) : (ttbEdge s).fld f i = s.fld f i := by
  rw [fld_eq, reg_ttbEdge s h, fld_eq]

theorem flag_ttbEdge {f : Fld} (h : f.reg ≠ .TTB_STAT) (i : Nat) : (ttbEdge s).flag f i = s.flag f i := by
  rw [State.flag, fld_ttbEdge s h, State.flag]

@[simp] theorem ttbEdge_ttbDark : (ttbEdge s).ttbDark = s.ttbDark := flag_ttbEdge s (by decide) 0

@[simp] theorem ttbEdge_ttbActive : (ttbEdge s).ttbActive = s.ttbActive := by
  rw [State.ttbActive, ttbEdge_ttbDark, flag_ttbEdge s (by decide), State.ttbActive]

@[simp] theorem ttbEdge_etFull : (ttbEdge s).etFull = s.etFull := by
  rw [State.etFull, State.curDom, State.dom, ttbEdge_ptp, fld_ttbEdge s (by decide), State.etFull, State.curDom, State.dom]

end

/-! ### The pins (R252) -/

section
variable (ack busy : Bool) (dq : Option Word) (s : State)

@[simp] theorem setPins_reg (r : RegName) (i : Nat) : (setPins ack busy dq s).reg r i = s.reg r i := rfl
@[simp] theorem setPins_cue : (setPins ack busy dq s).cue = s.cue := rfl

end

theorem ttbActive_of_en {s : State} (h : s.flag F.TTB_CFG_EN 0 = true) : s.ttbActive = true := by
  rw [State.ttbActive, h, Bool.true_or]

theorem ttbActive_of_dark {s : State} (h : s.ttbDark = true) : s.ttbActive = true := by
  rw [State.ttbActive, h, Bool.or_true]

/-! ### Reads (R251, R257, R258, R262) -/

/-- A read that is answered drives the word that is addressed at its edge. -/
theorem ttbReads_of_active (a : Nat) {s : State} (h : s.ttbActive = true) :
    ttbReads a s = setPins (!s.ttbDark) s.ttbDark (some ((ttbEdge s).ttbData a)) (ttbEdge s) := by
  simp [ttbReads, h]

section
variable {s : State}

theorem ttbData_of_dark (a : Nat) (h : s.ttbDark = true) : s.ttbData a = 0xFFFFFFFF#32 := by
  rw [State.ttbData, if_pos h]

variable (h : s.ttbDark = false)
include h

theorem ttbData_ident : s.ttbData 0xFF00 = 0x00B06400#32 := by
  simp [State.ttbData, h]

theorem ttbData_queue (hroom : s.cue.tq.length < 4096) : s.ttbData 0xFF02 = BitVec.ofNat 32 s.cue.tq.length := by
  simp [State.ttbData, h, b2n, hroom.ne]

theorem ttbData_cardWord {i : Nat} (hi : i < 4) : s.ttbData (0xFF04 + i) = s.reg .TTB_CARD_WORD i := by
  simp (disch := omega) only [State.ttbData, h, Bool.false_eq_true, if_false, if_neg, if_pos, Nat.add_sub_cancel_left]

/-- Below the live words lies the front bank. -/
theorem ttbData_banked {a : Nat} (ha : a < 0xF008) : s.ttbData a = (s.ttb.front.get (0, 0) a).2 := by
  simp (disch := omega) only [State.ttbData, h, Bool.false_eq_true, if_false, if_neg]

end

/-! ### Writes (R252 to R255, R262) -/

/-- In Darkroom mode no write acts, whatever its address. -/
theorem ttbWrites_of_dark (a : Nat) (v : Word) (late : Nat) {s : State} (h : s.ttbDark = true) :
    ttbWrites a v late s = setPins false true none (ttbEdge s) := by
  simp [ttbWrites, restPins, h]

section
-- The write address map of R253.
variable {s : State} (hdark : s.ttbDark = false) (hen : s.flag F.TTB_CFG_EN 0 = true)
include hdark hen

theorem ttbWrites_take (v : Word) (late : Nat) : ttbWrites 0 v late s = takeWrite v late (ttbEdge s) := by
  simp [ttbWrites, hdark, ttbActive_of_en hen]

theorem ttbWrites_stageArg (v : Word) (late : Nat) :
    ttbWrites 1 v late s = setPins true false none ((ttbEdge s).setReg .TTB_STAGE_ARG 0 v) := by
  simp [ttbWrites, hdark, ttbActive_of_en hen]

theorem ttbWrites_stageAtLo (v : Word) (late : Nat) :
    ttbWrites 2 v late s = setPins true false none ((ttbEdge s).setReg .TTB_STAGE_AT_LO 0 v) := by
  simp [ttbWrites, hdark, ttbActive_of_en hen]

theorem ttbWrites_stageAtHi (v : Word) (late : Nat) :
    ttbWrites 3 v late s = setPins true false none ((ttbEdge s).setFld F.TTB_STAGE_AT_HI_AT 0 v.toNat) := by
  simp [ttbWrites, hdark, ttbActive_of_en hen]

theorem ttbWrites_other {a : Nat} (ha : 4 ≤ a) (v : Word) (late : Nat) :
    ttbWrites a v late s = setPins true false none (((ttbEdge s).bump .TTB_WR_BAD_CNT 0).raise Src.TTB_WR_BAD) := by
  obtain ⟨n, rfl⟩ := Nat.exists_eq_add_of_le' ha
  simp [ttbWrites, hdark, ttbActive_of_en hen]

end

/-- A write whose edge sets one register differs in that register and TTB_STAT. -/
theorem regsBut_ttbEdge_setReg (r : RegName) (v : Word) (s : State) :
    regsBut [.TTB_STAT, r] s ((ttbEdge s).setReg r 0 v) :=
  regsBut_trans (regsBut_mono (by simp) (regsBut_ttbEdge s))
    (regsBut_of_regsButAt (regsButAt_setReg (rs := [.TTB_STAT, r]) (by simp) 0 v _))

/-- A write whose edge sets one register, answered with ACK: nothing else changes. -/
theorem frame_ackSetReg {s t : State} {r : RegName} {v : Word} (ht : t = setPins true false none ((ttbEdge s).setReg r 0 v)) :
    t.reg r 0 = v ∧ t.ttb.pins = ⟨true, false, none⟩ ∧ regsBut [.TTB_STAT, r] s t ∧ t.flt = s.flt ∧ t.cue = s.cue
      ∧ still s t := by
  subst ht
  exact ⟨reg_setReg_same _ r 0 v, rfl, regsBut_ttbEdge_setReg r v s, ttbEdge_flt s, ttbEdge_cue s, still_ttbEdge s⟩

theorem regsBut_ttbEdge_bump (r : RegName) (s : State) : regsBut [.TTB_STAT, r] s ((ttbEdge s).bump r 0) :=
  regsBut_ttbEdge_setReg r _ s

theorem reg_ttbEdge_bump {r : RegName} (h : r ≠ .TTB_STAT) (s : State) :
    ((ttbEdge s).bump r 0).reg r 0 = BitVec.ofNat 32 (min (2 ^ 32 - 1) ((s.reg r 0).toNat + 1)) := by
  rw [reg_bump_same, reg_ttbEdge s h]

/-! ### Takes (R209 to R212, R254, R255) -/

/-- The words of a take, and its take time (R209, R210): writer 0 and thread 0, AT from the staged words. -/
def State.takeEntry (s : State) (v : Word) (late : Nat) : TqEntry :=
  let w3 := BitVec.ofNat 32 (s.fld F.TTB_STAGE_AT_HI_AT 0)
  ⟨v, s.reg .TTB_STAGE_ARG 0, s.reg .TTB_STAGE_AT_LO 0, w3,
    takeTime v (s.reg .TTB_STAGE_AT_LO 0) w3 (unsign 48 (s.etFull + (late : Int))), none⟩

@[simp] theorem takeEntry_ttbEdge (s : State) (v : Word) (late : Nat) : (ttbEdge s).takeEntry v late = s.takeEntry v late := by
  rw [State.takeEntry, reg_ttbEdge s (by decide), reg_ttbEdge s (by decide), fld_ttbEdge s (by decide), ttbEdge_etFull]
  rfl

/-- The staged AT_HI as it stands in word 3. -/
theorem toNat_stageAtHi (s : State) : (BitVec.ofNat 32 (s.fld F.TTB_STAGE_AT_HI_AT 0)).toNat = s.fld F.TTB_STAGE_AT_HI_AT 0 := by
  have hlt : s.fld F.TTB_STAGE_AT_HI_AT 0 < 2 ^ 16 := fld_lt s _ 0
  exact Word.ofNat_toNat_of_lt (by omega)

theorem bitsOf_takeEntry_w3 (s : State) (v : Word) (late : Nat) :
    bitsOf (s.takeEntry v late).w3.toNat 0 16 = s.fld F.TTB_STAGE_AT_HI_AT 0
      ∧ bitsOf (s.takeEntry v late).w3.toNat 16 16 = 0 := by
  have hlt : s.fld F.TTB_STAGE_AT_HI_AT 0 < 2 ^ 16 := fld_lt s _ 0
  simp only [State.takeEntry, toNat_stageAtHi, bitsOf]
  omega

/-- A take without AT happens at the instant of its acceptance (R210). -/
theorem takeEntry_t_of_no_at (s : State) {v : Word} (late : Nat) (h : v.getLsbD 31 = false) :
    (s.takeEntry v late).t = unsign 48 (s.etFull + (late : Int)) := by
  have hlt : unsign 48 (s.etFull + (late : Int)) < 2 ^ 48 := by
    unfold unsign
    omega
  simp only [State.takeEntry, takeTime, h, Bool.false_and, Bool.false_eq_true, if_false]
  exact Nat.mod_eq_of_lt hlt

section
variable {s : State} {v : Word} {late : Nat}

/-- A take of an owned object that finds room joins the queue, last (R211). -/
theorem takeWrite_of_room (hroom : s.cue.tq.length < 4096) (howned : (s.owner.find? (bitsOf v.toNat 0 16)).isSome = true) :
    takeWrite v late s = setPins true false none
      (({ s with cue := { s.cue with tq := s.cue.tq ++ [s.takeEntry v late] } } : State).bump .TTB_TAKE_CNT 0) := by
  have hlow : bitsOf (s.fld F.TTB_STAGE_AT_HI_AT 0) 0 16 = s.fld F.TTB_STAGE_AT_HI_AT 0 := by
    simpa only [State.takeEntry, toNat_stageAtHi] using (bitsOf_takeEntry_w3 s v late).1
  have hnone : ¬ (s.owner.find? (bitsOf v.toNat 0 16)).isNone = true := by
    simp [Option.isSome_iff_ne_none.1 howned]
  simp only [takeWrite, tqPush, if_neg (not_le.2 hroom), if_neg hnone, toNat_stageAtHi, hlow]
  rfl

/-- A take that finds the queue full is refused and counted, by the queue and by the bus (R212, R255). -/
theorem takeWrite_of_full (hfull : 4096 ≤ s.cue.tq.length) :
    takeWrite v late s = setPins false true none
      ((((s.bump .CUE_TQ_FULL_CNT 0).raise Src.CUE_TQ_FULL).bump .TTB_BUSY_CNT 0).raise Src.TTB_BUSY) := by
  simp only [takeWrite, tqPush, if_pos hfull]
  rfl

end

/-! ### The commands while EN = 1 (R251 to R255) -/

section
variable {s : State} (hdark : s.ttbDark = false) (hen : s.flag F.TTB_CFG_EN 0 = true)
include hdark hen

theorem exec_ttbRead_answers (a : BitVec 16) (hdue : s.ttb.due = []) :
    ∃ t w, exec (.ttbRead a) s = .next t ∧ t.ttb.pins = ⟨true, false, some w⟩
      ∧ (a = 0xFF00#16 → w = 0x00B06400#32)
      ∧ (a = 0xFF02#16 → s.cue.tq.length < 4096 → w = BitVec.ofNat 32 s.cue.tq.length)
      ∧ (a.toNat < 0xF008 → ∀ n x, s.ttb.front.find? a.toNat = some (n, x) → w = x)
      ∧ (a.toNat < 0xF008 → s.ttb.front.find? a.toNat = none → w = 0)
      ∧ (∀ i, i < 4 → a.toNat = 0xFF04 + i → w = s.reg .TTB_CARD_WORD i)
      ∧ t.cue = s.cue ∧ regsButAt [.TTB_STAT] 0 s t ∧ t.flt = s.flt ∧ still s t := by
  have hdarkEdge : (ttbEdge s).ttbDark = false := by rw [ttbEdge_ttbDark, hdark]
  have hreads := ttbReads_of_active a.toNat (ttbActive_of_en hen)
  rw [hdark] at hreads
  have hbank (ha : a.toNat < 0xF008) : (ttbEdge s).ttbData a.toNat = ((s.ttb.front.find? a.toNat).getD (0, 0)).2 := by
    rw [ttbData_banked hdarkEdge ha, ttbEdge_ttb_of_due_nil hdue, AMap.get]
  refine ⟨_, (ttbEdge s).ttbData a.toNat, congrArg Host.Outcome.next hreads, rfl, ?ident, ?queue, ?front, ?blank, ?card,
    ttbEdge_cue s, regsButAt_ttbEdge s, ttbEdge_flt s, still_ttbEdge s⟩
  case ident =>
    rintro rfl
    exact ttbData_ident hdarkEdge
  case queue =>
    rintro rfl hroom
    simpa using ttbData_queue hdarkEdge (by simpa using hroom)
  case front =>
    intro ha n x hfind
    rw [hbank ha, hfind, Option.getD_some]
  case blank =>
    intro ha hfind
    rw [hbank ha, hfind, Option.getD_none]
  case card =>
    intro i hi ha
    rw [ha, ttbData_cardWord hdarkEdge hi, reg_ttbEdge s (by decide)]

theorem exec_ttbTake_accepted (v : Word) (late : Fin 3) (hroom : s.cue.tq.length < 4096)
    (howned : (s.owner.find? (bitsOf v.toNat 0 16)).isSome = true) :
    ∃ t, exec (.ttbTake v late) s = .next t ∧ t.ttb.pins = ⟨true, false, none⟩
      ∧ t.cue.tq = s.cue.tq ++ [s.takeEntry v late]
      ∧ t.reg .TTB_TAKE_CNT 0 = BitVec.ofNat 32 (min (2 ^ 32 - 1) ((s.reg .TTB_TAKE_CNT 0).toNat + 1))
      ∧ regsBut [.TTB_STAT, .TTB_TAKE_CNT] s t ∧ t.flt = s.flt ∧ still s t := by
  have hwrites := ttbWrites_take hdark hen v late
  rw [takeWrite_of_room (by simpa using hroom) (by simpa using howned), takeEntry_ttbEdge, ttbEdge_cue] at hwrites
  exact ⟨_, congrArg Host.Outcome.next hwrites, rfl, rfl, reg_ttbEdge_bump (by decide) s, regsBut_ttbEdge_bump _ s,
    ttbEdge_flt s, still_ttbEdge s⟩

theorem exec_ttbTake_refused (v : Word) (late : Fin 3) (hfull : 4096 ≤ s.cue.tq.length) :
    ∃ t, exec (.ttbTake v late) s = .next t ∧ t.ttb.pins = ⟨false, true, none⟩ ∧ t.cue.tq = s.cue.tq
      ∧ t.isSet Src.TTB_BUSY = true ∧ t.isSet Src.CUE_TQ_FULL = true
      ∧ t.reg .TTB_BUSY_CNT 0 = BitVec.ofNat 32 (min (2 ^ 32 - 1) ((s.reg .TTB_BUSY_CNT 0).toNat + 1))
      ∧ t.reg .CUE_TQ_FULL_CNT 0 = BitVec.ofNat 32 (min (2 ^ 32 - 1) ((s.reg .CUE_TQ_FULL_CNT 0).toNat + 1))
      ∧ regsBut [.TTB_STAT, .TTB_BUSY_CNT, .CUE_TQ_FULL_CNT] s t ∧ still s t := by
  have hwrites := ttbWrites_take hdark hen v late
  rw [takeWrite_of_full (by simpa using hfull)] at hwrites
  refine ⟨_, congrArg Host.Outcome.next hwrites, rfl, by simp, isSet_raise_same _ (by decide), ?tqFull, ?busyCnt, ?fullCnt, ?regs,
    ⟨by simp, by simp⟩⟩
  case tqFull => exact isSet_raise_mono _ (by decide) (isSet_raise_same _ (by decide))
  case busyCnt =>
    rw [setPins_reg, reg_raise, reg_bump_same, reg_raise, reg_bump_apart _ _ _ (by decide), reg_ttbEdge s (by decide)]
  case fullCnt =>
    rw [setPins_reg, reg_raise, reg_bump_apart _ _ _ (by decide), reg_raise, reg_ttbEdge_bump (by decide)]
  case regs =>
    intro r i hr
    obtain ⟨hstat, hbusy, hfullCnt⟩ : r ≠ .TTB_STAT ∧ r ≠ .TTB_BUSY_CNT ∧ r ≠ .CUE_TQ_FULL_CNT := by simpa using hr
    rw [setPins_reg, reg_raise, reg_bump_apart _ _ _ hbusy, reg_raise, reg_bump_apart _ _ _ hfullCnt, reg_ttbEdge s hstat]

theorem exec_wrBad_counted {a : BitVec 16} (ha : 4 ≤ a.toNat) (v : Word) :
    ∃ t, exec (.wrBad a v) s = .next t ∧ t.ttb.pins = ⟨true, false, none⟩ ∧ t.isSet Src.TTB_WR_BAD = true
      ∧ t.reg .TTB_WR_BAD_CNT 0 = BitVec.ofNat 32 (min (2 ^ 32 - 1) ((s.reg .TTB_WR_BAD_CNT 0).toNat + 1))
      ∧ regsBut [.TTB_STAT, .TTB_WR_BAD_CNT] s t ∧ t.cue = s.cue ∧ still s t := by
  have hwrites := ttbWrites_other hdark hen ha v 0
  refine ⟨_, congrArg Host.Outcome.next hwrites, rfl, isSet_raise_same _ (by decide), ?count, ?regs, by simp,
    ⟨by simp, by simp⟩⟩
  case count => rw [setPins_reg, reg_raise, reg_ttbEdge_bump (by decide)]
  case regs => exact fun r i hr => (reg_raise _ _ r i).trans (regsBut_ttbEdge_bump _ s r i hr)

theorem exec_stageArg (v : Word) :
    ∃ t, exec (.stageArg v) s = .next t ∧ t.reg .TTB_STAGE_ARG 0 = v ∧ t.ttb.pins = ⟨true, false, none⟩
      ∧ regsBut [.TTB_STAT, .TTB_STAGE_ARG] s t ∧ t.flt = s.flt ∧ t.cue = s.cue ∧ still s t :=
  ⟨_, congrArg Host.Outcome.next (ttbWrites_stageArg hdark hen v 0), frame_ackSetReg rfl⟩

theorem exec_stageAtLo (v : Word) :
    ∃ t, exec (.stageAtLo v) s = .next t ∧ t.reg .TTB_STAGE_AT_LO 0 = v ∧ t.ttb.pins = ⟨true, false, none⟩
      ∧ regsBut [.TTB_STAT, .TTB_STAGE_AT_LO] s t ∧ t.flt = s.flt ∧ t.cue = s.cue ∧ still s t :=
  ⟨_, congrArg Host.Outcome.next (ttbWrites_stageAtLo hdark hen v 0), frame_ackSetReg rfl⟩

theorem exec_stageAtHi (v : Word) :
    ∃ t, exec (.stageAtHi v) s = .next t ∧ t.fld F.TTB_STAGE_AT_HI_AT 0 = bitsOf v.toNat 0 16
      ∧ t.ttb.pins = ⟨true, false, none⟩ ∧ regsBut [.TTB_STAT, .TTB_STAGE_AT_HI] s t ∧ t.flt = s.flt ∧ t.cue = s.cue
      ∧ still s t := by
  have hstage := ttbWrites_stageAtHi hdark hen v 0
  obtain ⟨-, rest⟩ := frame_ackSetReg hstage
  refine ⟨_, rfl, ?_, rest⟩
  rw [hstage]
  exact (fld_setFld_same _ (by decide) 0 v.toNat).trans (by rw [bitsOf, Nat.pow_zero, Nat.div_one])

end

/-! ### Darkroom mode (R262, R265) -/

section
variable {s : State} (hdark : s.ttbDark = true)
include hdark

theorem exec_ttbRead_of_dark (a : BitVec 16) :
    ∃ t, exec (.ttbRead a) s = .next t ∧ t.ttb.pins = ⟨false, true, some 0xFFFFFFFF#32⟩ ∧ t.cue = s.cue
      ∧ regsButAt [.TTB_STAT] 0 s t ∧ t.flt = s.flt ∧ still s t := by
  have hreads := ttbReads_of_active a.toNat (ttbActive_of_dark hdark)
  rw [ttbData_of_dark _ (by rw [ttbEdge_ttbDark, hdark]), hdark] at hreads
  exact ⟨_, congrArg Host.Outcome.next hreads, rfl, ttbEdge_cue s, regsButAt_ttbEdge s, ttbEdge_flt s, still_ttbEdge s⟩

/-- No write acts: what is left of it is its edge, under the pins of Darkroom mode. -/
theorem exec_busWrite_of_dark {c : Instr} {a late : Nat} {v : Word} (hc : exec c s = .next (ttbWrites a v late s)) :
    ∃ t, exec c s = .next t ∧ t.ttb.pins = ⟨false, true, none⟩ ∧ t.cue = s.cue
      ∧ regsButAt [.TTB_STAT] 0 s t ∧ t.flt = s.flt ∧ still s t := by
  rw [ttbWrites_of_dark a v late hdark] at hc
  exact ⟨_, hc, rfl, ttbEdge_cue s, regsButAt_ttbEdge s, ttbEdge_flt s, still_ttbEdge s⟩

theorem shown_darkroom : F.TTB_STAT_DARKROOM.of (s.shown .TTB_STAT 0) = 1 := by
  have hclk : s.fld F.TTB_STAT_CLK_OK 0 < 2 := fld_lt s _ 0
  have hmask : readMask .TTB_STAT = 7#32 := by decide
  have hlive : s.live .TTB_STAT 0 = some (BitVec.ofNat 32 (1 + 1 * 2 + s.fld F.TTB_STAT_CLK_OK 0 * 4)) := by
    change s.ttbLive .TTB_STAT 0 = _
    simp only [State.ttbLive, ttbActive_of_dark hdark, hdark]
    rfl
  rw [State.shown, hlive, hmask, Option.getD_some]
  generalize s.fld F.TTB_STAT_CLK_OK 0 = clk at hclk
  interval_cases clk <;> decide

theorem exec_ttbDisable_of_dark (v : Word) :
    ∃ t, exec (.ttbDisable v) s = .next t ∧ t.regs = s.regs ∧ t.isSet Src.TTB_CFG_REJECT = true ∧ onlyRegs s t :=
  ⟨_, congrArg Host.Outcome.next (if_pos hdark), reject_regs s .TTB, isSet_reject s .TTB, onlyRegs_reject s .TTB⟩

end

/-! ### Enabling (R260) -/

/-- EN is bit 0 of TTB_CFG. -/
theorem flag_en_eq (s : State) : s.flag F.TTB_CFG_EN 0 = (s.reg .TTB_CFG 0).getLsbD 0 := by
  rw [State.flag, fld_eq, Fld.of, bitsOf, Nat.pow_zero, Nat.div_one, Nat.pow_one, BitVec.getLsbD, Nat.testBit_zero]
  rcases Nat.mod_two_eq_zero_or_one (s.reg .TTB_CFG 0).toNat with h | h <;> simp [h]

/-- A write of TTB_CFG sets EN, a field of type RW, from its bit 0 (R2). -/
theorem flag_en_plainWrite (v : Word) (s : State) : (plainWrite .TTB_CFG 0 v s).flag F.TTB_CFG_EN 0 = v.getLsbD 0 := by
  have hrw : RegName.typeMask .TTB_CFG .rw = 1#32 := by decide
  have hrws : RegName.typeMask .TTB_CFG .rws = 0#32 := by decide
  have hw1c : RegName.typeMask .TTB_CFG .w1c = 0#32 := by decide
  have hw1s : RegName.typeMask .TTB_CFG .w1s = 0#32 := by decide
  have hreg : (plainWrite .TTB_CFG 0 v s).reg .TTB_CFG 0 = RegName.written .TTB_CFG (s.reg .TTB_CFG 0) v :=
    reg_setReg_same s .TTB_CFG 0 _
  rw [flag_en_eq, hreg]
  simp [RegName.written, hrw, hrws, hw1c, hw1s]

theorem regsButAt_plainWrite_ttbCfg (v : Word) (s : State) : regsButAt [.TTB_CFG] 0 s (plainWrite .TTB_CFG 0 v s) :=
  regsButAt_setReg (List.mem_singleton_self _) 0 _ s

section
variable {s : State} (hdark : s.ttbDark = false)
include hdark

theorem writeTtbCfg_of_en {v : Word} (h : v.getLsbD 0 = true) : writeTtbCfg v s = plainWrite .TTB_CFG 0 v s := by
  have hen := (flag_en_plainWrite v s).trans h
  simp [writeTtbCfg, hdark, hen]

/-- A write of EN = 0 releases the pins. -/
theorem writeTtbCfg_of_not_en {v : Word} (h : v.getLsbD 0 = false) :
    writeTtbCfg v s = setPins false false none (plainWrite .TTB_CFG 0 v s) := by
  have hdarkAfter : (plainWrite .TTB_CFG 0 v s).ttbDark = false := by
    rw [← hdark, State.ttbDark, State.ttbDark, State.flag, State.flag]
    exact congrArg (· != 0) (fld_setReg_apart s 0 0 _ (by decide))
  have hen := (flag_en_plainWrite v s).trans h
  simp [writeTtbCfg, restPins, hdark, hen, hdarkAfter]

theorem exec_ttbEnable_enables (v : Word) :
    ∃ t, exec (.ttbEnable v) s = .next t ∧ t.flag F.TTB_CFG_EN 0 = true ∧ t.ttb = s.ttb
      ∧ regsButAt [.TTB_CFG] 0 s t ∧ t.flt = s.flt ∧ still s t := by
  have hbit : (v ||| 1#32).getLsbD 0 = true := by simp
  exact ⟨_, congrArg Host.Outcome.next (writeTtbCfg_of_en hdark hbit), (flag_en_plainWrite _ s).trans hbit, rfl,
    regsButAt_plainWrite_ttbCfg _ s, rfl, rfl, rfl⟩

theorem exec_ttbDisable_disables (v : Word) :
    ∃ t, exec (.ttbDisable v) s = .next t ∧ t.flag F.TTB_CFG_EN 0 = false ∧ t.ttb.pins = ⟨false, false, none⟩
      ∧ regsButAt [.TTB_CFG] 0 s t ∧ t.flt = s.flt ∧ still s t := by
  have hbit : (v &&& ~~~ 1#32).getLsbD 0 = false := by simp
  exact ⟨_, congrArg Host.Outcome.next (writeTtbCfg_of_not_en hdark hbit), (flag_en_plainWrite _ s).trans hbit, rfl,
    regsButAt_plainWrite_ttbCfg _ s, rfl, rfl, rfl⟩

end

/-! ### The clock lost (R263) -/

theorem clockLost_of_en {s : State} (h : s.flag F.TTB_CFG_EN 0 = true) :
    clockLost s = (s.setFlag F.TTB_STAT_CLK_OK 0 false).raise Src.TTB_CLK_LOST := by
  simp [clockLost, State.raiseIf, h]

theorem clockLost_of_not_en {s : State} (h : s.flag F.TTB_CFG_EN 0 = false) :
    clockLost s = s.setFlag F.TTB_STAT_CLK_OK 0 false := by
  simp [clockLost, State.raiseIf, h]

/-- CLK_LOST clears CLK_OK whatever EN is, the model's choice (log 67), and is reported while EN = 1. -/
theorem exec_clkLost_reports (s : State) :
    ∃ t, exec .clkLost s = .next t ∧ t.flag F.TTB_STAT_CLK_OK 0 = false ∧ t.ttb = s.ttb
      ∧ (s.flag F.TTB_CFG_EN 0 = true → t.isSet Src.TTB_CLK_LOST = true) ∧ (s.flag F.TTB_CFG_EN 0 = false → t.flt = s.flt)
      ∧ regsButAt [.TTB_STAT] 0 s t ∧ onlyRegs s t := by
  have hclk : (s.setFlag F.TTB_STAT_CLK_OK 0 false).flag F.TTB_STAT_CLK_OK 0 = false :=
    flag_setFlag_same s (by decide) rfl 0 false
  have hregs : regsButAt [.TTB_STAT] 0 s (s.setFlag F.TTB_STAT_CLK_OK 0 false) :=
    regsButAt_setReg (List.mem_singleton_self _) 0 _ s
  refine ⟨clockLost s, rfl, ?_⟩
  cases hen : s.flag F.TTB_CFG_EN 0 with
  | true =>
    rw [clockLost_of_en hen]
    exact ⟨(flag_raise _ _ _ 0).trans hclk, raise_ttb _ _, fun _ => isSet_raise_same _ (by decide), nofun,
      fun r i hr => (reg_raise _ _ r i).trans (hregs r i hr),
      onlyRegs_trans (onlyRegs_setFlag s _ 0 false) (onlyRegs_raise _ _)⟩
  | false =>
    rw [clockLost_of_not_en hen]
    exact ⟨hclk, rfl, nofun, fun _ => rfl, hregs, onlyRegs_setFlag s _ 0 false⟩

/-- Settles O43: every transaction is its bus edge (`ttbEdge_eq`) and then its answer; what the edge leaves unchanged carries the
frames. -/
theorem tallyBusAnswers : Obligations.TallyBusAnswers := by
  refine ⟨fun a s hdark hen hdue => exec_ttbRead_answers hdark hen a hdue, fun a s hdark => exec_ttbRead_of_dark hdark a,
    ?take, fun v late s hdark hen => exec_ttbTake_refused hdark hen v late,
    fun v s hdark hen => ⟨exec_stageArg hdark hen v, exec_stageAtLo hdark hen v, exec_stageAtHi hdark hen v⟩,
    fun a v s hdark hen ha => exec_wrBad_counted hdark hen ha v,
    fun v s hdark => ⟨exec_ttbEnable_enables hdark v, exec_ttbDisable_disables hdark v⟩, ?ignored,
    fun v s hdark => exec_ttbDisable_of_dark hdark v, exec_clkLost_reports⟩
  case take =>
    intro v late s hdark hen hroom howned
    obtain ⟨t, hexec, hpins, hqueue, hframe⟩ := exec_ttbTake_accepted hdark hen v late hroom howned
    obtain ⟨hat, hwriter⟩ := bitsOf_takeEntry_w3 s v late
    exact ⟨t, _, hexec, hpins, hqueue, rfl, rfl, rfl, hat, hwriter, rfl, takeEntry_t_of_no_at s late, hframe⟩
  case ignored =>
    intro a v late s hdark
    refine ⟨shown_darkroom hdark, fun c hc => ?_⟩
    simp only [List.mem_cons, List.not_mem_nil, or_false] at hc
    rcases hc with rfl | rfl | rfl | rfl | rfl
    · exact exec_busWrite_of_dark hdark (a := 0) (late := late) rfl
    · exact exec_busWrite_of_dark hdark (a := 1) rfl
    · exact exec_busWrite_of_dark hdark (a := 2) rfl
    · exact exec_busWrite_of_dark hdark (a := 3) rfl
    · exact exec_busWrite_of_dark hdark (a := a.toNat) rfl

end Sys2Proof.Machine
end

section
/-!
PROOFS. What every command and every step does: it answers a next state, leaves the queue to the step, and keeps the canonical
form of memory.
-/

namespace Sys2Proof.Machine

/-- An instruction whose effect keeps the canonical form of memory completes in it. -/
theorem completeOp_wf (op t : Nat) (act : ThrCtx → Word → State → State) (s : State)
    (hact : ∀ c w u, u.mem.wf = true → (act c w u).mem.wf = true) (h : s.mem.wf = true) :
    (completeOp op t act s).mem.wf = true := by
  unfold completeOp
  split
  · extract_lets w done elapsed cause
    have helapsed : elapsed.mem.wf = true := (congrArg Memory.wf (passTo_mem done s)).trans h
    split
    · exact h
    · split
      · simpa using helapsed
      · exact (congrArg Memory.wf (budgetStop_mem ..)).trans (hact _ w _ helapsed)
  · exact h

theorem loaderResult_wf (op : Nat) (seq : BitVec 16) (f : State → Nat × State) (s : State)
    (hf : ∀ u, u.mem.wf = true → (f u).2.mem.wf = true) (h : s.mem.wf = true) : (loaderResult op seq f s).mem.wf = true := by
  unfold loaderResult
  split
  · extract_lets r
    have hr : r.2.mem.wf = true := by simp only [r]; split <;> simp [h, hf]
    simp [hr]
  · exact h

/-- Each command is the `.next` of an operation that leaves the queue alone. -/
theorem exec_keeps_queue (c : Instr) (s : State) : ∃ t, exec c s = .next t ∧ t.pending = s.pending := by
  cases c
  case counterLoRead m r i =>
    exact ⟨_, rfl, readReg_pending m (.n r) i s⟩
  case cueOpen | shutter | ulinkTxaWrite | proofClose | calUserWrite =>
    exact ⟨_, rfl, by split <;> simp⟩
  case cueTake | cueTakep | cueLsrc =>
    exact ⟨_, rfl, completeOp_pending _ _ _ _ fun c w u => by simp [setReason]⟩
  case cueSense | cueLdt | cuePopt | cueEvt | cueLcommit | cueSignal | cueTally | cueGpo =>
    exact ⟨_, rfl, completeOp_pending _ _ _ _ fun c w u => by split <;> simp⟩
  case cueHold | cuePipe =>
    exact ⟨_, rfl, completeOp_pending _ _ _ _ fun c w u => by dsimp only; (repeat' split) <;> simp⟩
  case loaderEraseEscrow | loaderVerify =>
    exact ⟨_, rfl, loaderResult_pending _ _ _ _ fun u => by split <;> simp⟩
  all_goals exact ⟨_, rfl, by simp⟩

/-- Each command is the `.next` of an operation that keeps the canonical form of memory. -/
theorem exec_keeps_memory_canonical (c : Instr) (s : State) (h : s.mem.wf = true) :
    ∃ t, exec c s = .next t ∧ t.mem.wf = true := by
  cases c
  case registerWrite =>
    exact ⟨_, rfl, by split <;> simp [h]⟩
  case counterLoRead m r i =>
    exact ⟨_, rfl, (congrArg Memory.wf (readReg_mem m (.n r) i s)).trans h⟩
  case cueOpen | shutter | ulinkTxaWrite | proofClose | calUserWrite | ledgerSave =>
    exact ⟨_, rfl, by split <;> simp [h]⟩
  case cueTake | cueTakep | cueLsrc =>
    exact ⟨_, rfl, completeOp_wf _ _ _ _ (fun c w u hu => by simp [setReason, hu]) h⟩
  case cueSts =>
    exact ⟨_, rfl, completeOp_wf _ _ _ _ (fun c w u => store_wf u _ _) h⟩
  case cueSense | cueLdt | cuePopt | cueEvt | cueLcommit | cueSignal | cueTally | cueGpo =>
    exact ⟨_, rfl, completeOp_wf _ _ _ _ (fun c w u hu => by split <;> simp [hu]) h⟩
  case cueHold | cuePipe =>
    exact ⟨_, rfl, completeOp_wf _ _ _ _ (fun c w u hu => by dsimp only; (repeat' split) <;> simp [hu]) h⟩
  case swCoreReset | swSystemReset | swConfinedReset | fwuPiece | eraseEscrow | verify | arm | disarm | setWrite | ledger
      | fwuBadCmd =>
    exact ⟨_, rfl, byMaster_wf _ _ _ _ _ (fun u hu => by simp [hu]) h⟩
  case loaderPiece =>
    exact ⟨_, rfl, loaderResult_wf _ _ _ _ (fun u hu => by simp [hu]) h⟩
  case loaderEraseEscrow | loaderVerify =>
    exact ⟨_, rfl, loaderResult_wf _ _ _ _ (fun u hu => by split <;> simp [hu]) h⟩
  all_goals exact ⟨_, rfl, by simp [h]⟩

/-- Settles O2: what a command answers is one state, of which both invariants speak. -/
theorem everyCommandCompletes : Obligations.EveryCommandCompletes := by
  intro c s h
  obtain ⟨t, hexec, hqueue⟩ := exec_keeps_queue c s
  obtain ⟨u, hexec', hwf⟩ := exec_keeps_memory_canonical c s h
  obtain rfl : t = u := Host.Outcome.next.inj (hexec.symm.trans hexec')
  exact ⟨t, hexec, hqueue, hwf⟩

@[simp] theorem runDom_now (s : State) (d ns : Nat) : (s.runDom d ns).now = s.now := by
  unfold State.runDom
  split <;> simp

@[simp] theorem slewEt_now (ns : Nat) (s : State) : (slewEt ns s).now = s.now := by
  unfold slewEt
  (repeat' split) <;> simp

@[simp] theorem elapse_now (ns : Nat) (s : State) : (elapse ns s).now = s.now + ns := by
  simp [elapse]

theorem step_of_nil {s : State} (h : s.pending = []) : step s = .next (elapse 1 s) := by
  simp [step, h]

theorem step_of_cons {s : State} {c : Instr} {rest : List Instr} (h : s.pending = c :: rest) :
    step s = exec c { s with pending := rest } := by
  simp [step, h]

/-- Settles O3: on a queue with a command the step is that command, which completes by O2. -/
theorem stepKeepsMemoryCanonical : Obligations.StepKeepsMemoryCanonical := by
  intro s t h hstep
  match hqueue : s.pending with
  | [] =>
    obtain rfl := Host.Outcome.next.inj ((step_of_nil hqueue).symm.trans hstep)
    exact ⟨by simp [h], by simp [hqueue]⟩
  | c :: rest =>
    obtain ⟨u, hexec, hrest, hwf⟩ := everyCommandCompletes c { s with pending := rest } h
    rw [step_of_cons hqueue, hexec] at hstep
    obtain rfl := Host.Outcome.next.inj hstep
    exact ⟨hwf, hrest⟩

/-- Settles O1: the model's definition of a step, by the queue. -/
theorem stepRunsTheFrontCommand : Obligations.StepRunsTheFrontCommand :=
  ⟨fun _ _ => step_of_cons rfl, fun _ _ _ hqueue => step_of_cons hqueue,
    fun s hqueue => ⟨_, step_of_nil hqueue, elapse_now 1 s, elapse_regs 1 s, elapse_pending 1 s, elapse_mem 1 s⟩⟩

theorem period_faultsReset (b : Blk) : (FaultSet.reset b).period = 1000 := by
  cases b <;> decide

/-- Settles O4: the reset state is a term, whose parts compute. -/
theorem resetLeavesTheStatedValues : Obligations.ResetLeavesTheStatedValues := by
  refine ⟨rfl, rfl, rfl, ?_, ?_, ?_, ?_, ?_, ?_, ?_, fun b => ⟨rfl, rfl, period_faultsReset b, rfl⟩, fun _ => rfl, ?_, rfl, fun _ => rfl, rfl, ?_⟩
  all_goals decide

end Sys2Proof.Machine
end

section
/-!
SUPPORT. Frames of the shared operations, as rewriting rules: which updates a frame passes through, and which sources stay set.
-/

namespace Sys2Proof.Machine

/-! ### Folds -/

/-- What each step of a fold keeps, the fold keeps. -/
theorem foldl_keeps {α β : Type} (p : State → β) {g : State → α → State} (h : ∀ a x, p (g a x) = p a) (l : List α) (s : State) :
    p (l.foldl g s) = p s := by
  induction l generalizing s with
  | nil => rfl
  | cons x l ih => rw [List.foldl_cons, ih, h]

/-- A reflexive, transitive relation of the states before and after each step of a fold holds of the fold. -/
theorem foldl_rel {α : Type} {R : State → State → Prop} (refl : ∀ s, R s s) (trans : ∀ {s t u}, R s t → R t u → R s u)
    {g : State → α → State} (h : ∀ a x, R a (g a x)) (l : List α) (s : State) : R s (l.foldl g s) := by
  induction l generalizing s with
  | nil => exact refl s
  | cons x l ih => exact trans (h s x) (ih (g s x))

section
variable {rs : List RegName} {n : Nat} {s t u : State}

/-! ### Registers but those named -/

theorem regsBut.fld (h : regsBut rs s t) {f : Fld} (hf : f.reg ∉ rs) (i : Nat) : t.fld f i = s.fld f i := by
  rw [fld_eq, fld_eq, h _ i hf]

theorem regsBut.flag (h : regsBut rs s t) {f : Fld} (hf : f.reg ∉ rs) (i : Nat) : t.flag f i = s.flag f i := by
  rw [State.flag, State.flag, h.fld hf]

theorem regsBut_of_regs (h : t.regs = s.regs) : regsBut rs s t := fun r i _ => reg_of_regs h r i

@[simp] theorem regsBut_refl : regsBut rs s s := fun _ _ _ => rfl

theorem regsBut_iff_of_regsBut (h : regsBut rs t u) : regsBut rs s u ↔ regsBut rs s t :=
  ⟨fun g r i hr => (h r i hr).symm.trans (g r i hr), fun g => regsBut_trans g h⟩

@[simp] theorem regsBut_setReg {r : RegName} (hr : r ∈ rs) (i : Nat) (v : Word) :
    regsBut rs s (t.setReg r i v) ↔ regsBut rs s t :=
  regsBut_iff_of_regsBut (regsBut_of_regsButAt (regsButAt_setReg hr i v t))

@[simp] theorem regsBut_setFld {f : Fld} (hf : f.reg ∈ rs) (i v : Nat) : regsBut rs s (t.setFld f i v) ↔ regsBut rs s t :=
  regsBut_setReg hf i _

@[simp] theorem regsBut_setFlag {f : Fld} (hf : f.reg ∈ rs) (i : Nat) (b : Bool) :
    regsBut rs s (t.setFlag f i b) ↔ regsBut rs s t := regsBut_setReg hf i _

@[simp] theorem regsBut_bumpN {r : RegName} (hr : r ∈ rs) (i k : Nat) : regsBut rs s (t.bumpN r i k) ↔ regsBut rs s t :=
  regsBut_setReg hr i _

@[simp] theorem regsBut_bump {r : RegName} (hr : r ∈ rs) (i : Nat) : regsBut rs s (t.bump r i) ↔ regsBut rs s t :=
  regsBut_setReg hr i _

@[simp] theorem regsBut_raise (x : Src) : regsBut rs s (t.raise x) ↔ regsBut rs s t :=
  regsBut_iff_of_regsBut (regsBut_of_regs (raise_regs t x))

@[simp] theorem regsBut_raiseIf (c : Bool) (x : Src) : regsBut rs s (t.raiseIf c x) ↔ regsBut rs s t :=
  regsBut_iff_of_regsBut (regsBut_of_regs (raiseIf_regs t c x))

@[simp] theorem regsBut_reject (b : Blk) : regsBut rs s (t.reject b) ↔ regsBut rs s t :=
  regsBut_iff_of_regsBut (regsBut_of_regs (reject_regs t b))

theorem regsBut_foldl {α : Type} {g : State → α → State} (h : ∀ a x, regsBut rs a (g a x)) (l : List α) (s : State) :
    regsBut rs s (l.foldl g s) := foldl_rel (fun _ => regsBut_refl) regsBut_trans h l s

/-! ### Registers but one element of those named -/

theorem regsButAt.fld (h : regsButAt rs n s t) {f : Fld} {i : Nat} (hf : f.reg ∈ rs → i ≠ n) : t.fld f i = s.fld f i := by
  rw [fld_eq, fld_eq, h _ i hf]

theorem regsButAt.flag (h : regsButAt rs n s t) {f : Fld} {i : Nat} (hf : f.reg ∈ rs → i ≠ n) : t.flag f i = s.flag f i := by
  rw [State.flag, State.flag, h.fld hf]

theorem regsButAt.fld_other (h : regsButAt rs n s t) {f : Fld} (hf : f.reg ∉ rs) (i : Nat) : t.fld f i = s.fld f i :=
  h.fld fun hr => absurd hr hf

theorem regsButAt.flag_other (h : regsButAt rs n s t) {f : Fld} (hf : f.reg ∉ rs) (i : Nat) : t.flag f i = s.flag f i :=
  h.flag fun hr => absurd hr hf

theorem regsButAt_of_regs (h : t.regs = s.regs) : regsButAt rs n s t := fun r i _ => reg_of_regs h r i

@[simp] theorem regsButAt_refl : regsButAt rs n s s := fun _ _ _ => rfl

theorem regsButAt_iff_of_regsButAt (h : regsButAt rs n t u) : regsButAt rs n s u ↔ regsButAt rs n s t :=
  ⟨fun g r i hr => (h r i hr).symm.trans (g r i hr), fun g => regsButAt_trans g h⟩

@[simp] theorem regsButAt_setReg_iff {r : RegName} (hr : r ∈ rs) (v : Word) :
    regsButAt rs n s (t.setReg r n v) ↔ regsButAt rs n s t := regsButAt_iff_of_regsButAt (regsButAt_setReg hr n v t)

@[simp] theorem regsButAt_setFld {f : Fld} (hf : f.reg ∈ rs) (v : Nat) :
    regsButAt rs n s (t.setFld f n v) ↔ regsButAt rs n s t := regsButAt_setReg_iff hf _

@[simp] theorem regsButAt_setFlag {f : Fld} (hf : f.reg ∈ rs) (b : Bool) :
    regsButAt rs n s (t.setFlag f n b) ↔ regsButAt rs n s t := regsButAt_setReg_iff hf _

@[simp] theorem regsButAt_bumpN {r : RegName} (hr : r ∈ rs) (k : Nat) :
    regsButAt rs n s (t.bumpN r n k) ↔ regsButAt rs n s t := regsButAt_setReg_iff hr _

@[simp] theorem regsButAt_bump_iff {r : RegName} (hr : r ∈ rs) : regsButAt rs n s (t.bump r n) ↔ regsButAt rs n s t :=
  regsButAt_setReg_iff hr _

@[simp] theorem regsButAt_raise (x : Src) : regsButAt rs n s (t.raise x) ↔ regsButAt rs n s t :=
  regsButAt_iff_of_regsButAt (regsButAt_of_regs (raise_regs t x))

@[simp] theorem regsButAt_raiseIf (c : Bool) (x : Src) : regsButAt rs n s (t.raiseIf c x) ↔ regsButAt rs n s t :=
  regsButAt_iff_of_regsButAt (regsButAt_of_regs (raiseIf_regs t c x))

@[simp] theorem regsButAt_reject (b : Blk) : regsButAt rs n s (t.reject b) ↔ regsButAt rs n s t :=
  regsButAt_iff_of_regsButAt (regsButAt_of_regs (reject_regs t b))

/-! ### Registers and sources alone -/

@[simp] theorem onlyRegs_refl : onlyRegs s s := rfl

theorem onlyRegs_symm (h : onlyRegs s t) : onlyRegs t s := by
  unfold onlyRegs at h ⊢
  rw [h]

theorem onlyRegs_iff_of_onlyRegs (h : onlyRegs t u) : onlyRegs s u ↔ onlyRegs s t :=
  ⟨fun g => onlyRegs_trans g (onlyRegs_symm h), fun g => onlyRegs_trans g h⟩

@[simp] theorem onlyRegs_setReg_iff (r : RegName) (i : Nat) (v : Word) : onlyRegs s (t.setReg r i v) ↔ onlyRegs s t :=
  onlyRegs_iff_of_onlyRegs (onlyRegs_setReg t r i v)

@[simp] theorem onlyRegs_setFld_iff (f : Fld) (i v : Nat) : onlyRegs s (t.setFld f i v) ↔ onlyRegs s t :=
  onlyRegs_iff_of_onlyRegs (onlyRegs_setFld t f i v)

@[simp] theorem onlyRegs_setFlag_iff (f : Fld) (i : Nat) (b : Bool) : onlyRegs s (t.setFlag f i b) ↔ onlyRegs s t :=
  onlyRegs_iff_of_onlyRegs (onlyRegs_setFlag t f i b)

@[simp] theorem onlyRegs_bumpN (r : RegName) (i k : Nat) : onlyRegs s (t.bumpN r i k) ↔ onlyRegs s t :=
  onlyRegs_setReg_iff r i _

@[simp] theorem onlyRegs_bump (r : RegName) (i : Nat) : onlyRegs s (t.bump r i) ↔ onlyRegs s t :=
  onlyRegs_setReg_iff r i _

@[simp] theorem onlyRegs_raise_iff (x : Src) : onlyRegs s (t.raise x) ↔ onlyRegs s t :=
  onlyRegs_iff_of_onlyRegs (onlyRegs_raise t x)

@[simp] theorem onlyRegs_raiseIf (c : Bool) (x : Src) : onlyRegs s (t.raiseIf c x) ↔ onlyRegs s t := by
  cases c <;> simp [State.raiseIf]

@[simp] theorem onlyRegs_reject_iff (b : Blk) : onlyRegs s (t.reject b) ↔ onlyRegs s t := onlyRegs_raise_iff _

theorem onlyRegs_foldl {α : Type} {g : State → α → State} (h : ∀ a x, onlyRegs a (g a x)) (l : List α) (s : State) :
    onlyRegs s (l.foldl g s) := foldl_rel (fun _ => onlyRegs_refl) onlyRegs_trans h l s

theorem still_of_onlyRegs (h : onlyRegs s t) : still s t := by
  unfold onlyRegs at h
  rw [h]
  exact ⟨rfl, rfl⟩

/-! ### Sources that stay set -/

/-- A source that is set in `s` is set in `t`. -/
structure KeepsSet (s t : State) : Prop where
  isSet : ∀ x, s.isSet x = true → t.isSet x = true

theorem keepsSet_of_flt (h : t.flt = s.flt) : KeepsSet s t := ⟨fun x hx => (isSet_of_flt h x).trans hx⟩

@[simp] theorem keepsSet_refl (s : State) : KeepsSet s s := ⟨fun _ hx => hx⟩

theorem KeepsSet.trans (h : KeepsSet s t) (g : KeepsSet t u) : KeepsSet s u := ⟨fun x hx => g.isSet x (h.isSet x hx)⟩

theorem keepsSet_raise (s : State) (x : Src) : KeepsSet s (s.raise x) := by
  refine ⟨fun y hy => isSet_alertUpdate_mono _ ?_⟩
  rw [State.isSet] at hy ⊢
  by_cases hb : y.blk = x.blk
  · rw [hb, faults_setFaults_same]
    rw [hb] at hy
    have or_mask : ((s.faults x.blk).assert true x.mask s.now).fstat = (s.faults x.blk).fstat ||| x.mask := rfl
    simp [or_mask, hy]
  · rwa [faults_setFaults_ne s _ hb]

theorem KeepsSet.of_flt (h : KeepsSet s t) (hf : u.flt = t.flt) : KeepsSet s u := h.trans (keepsSet_of_flt hf)

@[simp] theorem KeepsSet.raise (h : KeepsSet s t) (x : Src) : KeepsSet s (t.raise x) := h.trans (keepsSet_raise t x)

@[simp] theorem KeepsSet.raiseIf (h : KeepsSet s t) (c : Bool) (x : Src) : KeepsSet s (t.raiseIf c x) := by
  cases c
  · exact h
  · exact h.raise x

@[simp] theorem KeepsSet.reject (h : KeepsSet s t) (b : Blk) : KeepsSet s (t.reject b) := h.raise _

@[simp] theorem KeepsSet.setReg (h : KeepsSet s t) (r : RegName) (i : Nat) (v : Word) : KeepsSet s (t.setReg r i v) :=
  h.of_flt rfl

@[simp] theorem KeepsSet.setFld (h : KeepsSet s t) (f : Fld) (i v : Nat) : KeepsSet s (t.setFld f i v) := h.of_flt rfl

@[simp] theorem KeepsSet.setFlag (h : KeepsSet s t) (f : Fld) (i : Nat) (b : Bool) : KeepsSet s (t.setFlag f i b) := h.of_flt rfl

@[simp] theorem KeepsSet.bump (h : KeepsSet s t) (r : RegName) (i : Nat) : KeepsSet s (t.bump r i) := h.of_flt rfl

theorem keepsSet_foldl {α : Type} {g : State → α → State} (h : ∀ a x, KeepsSet a (g a x)) (l : List α) (s : State) :
    KeepsSet s (l.foldl g s) := foldl_rel keepsSet_refl KeepsSet.trans h l s

end

end Sys2Proof.Machine
end

section
/-!
PROOFS. The Reference Unit (R34 to R50): the acceptance of REFSEL, the sources that qualify and fail, and the events of the loop.
-/

namespace Sys2Proof.Machine

variable (s : State)

/-! ### The phase build (R50) -/

theorem armCrash_regs : (armCrash s).regs = s.regs := foldl_keeps (·.regs) (fun a n => by dsimp only; split <;> rfl) _ s

theorem armCrash_flt : (armCrash s).flt = s.flt := foldl_keeps (·.flt) (fun a n => by dsimp only; split <;> rfl) _ s

theorem regsBut_showSlewing : regsBut [.REF_TD_STAT] s (showSlewing s) :=
  regsBut_foldl (fun a n => by split <;> simp) _ s

theorem showSlewing_flt : (showSlewing s).flt = s.flt := foldl_keeps (·.flt) (fun a n => by split <;> rfl) _ s

theorem regsBut_ownSlewing : regsBut [.REF_TD_STAT] s (ownSlewing s) := regsBut_foldl (fun a n => by simp) _ s

theorem ownSlewing_flt : (ownSlewing s).flt = s.flt := foldl_keeps (·.flt) (fun a n => by rfl) _ s

theorem onlyRegs_ownSlewing : onlyRegs s (ownSlewing s) := onlyRegs_foldl (fun a n => by simp) _ s

theorem regsBut_endPhaseBuild : regsBut [.REF_SEL_STAT, .REF_TD_STAT] s (endPhaseBuild s) := by
  unfold endPhaseBuild
  split
  · exact (regsBut_iff_of_regsBut (regsBut_mono (by simp) (regsBut_ownSlewing _))).2 (by simp)
  · simp

@[simp] theorem endPhaseBuild_flt : (endPhaseBuild s).flt = s.flt := by
  unfold endPhaseBuild
  split <;> simp [ownSlewing_flt]

theorem onlyRegs_endPhaseBuild : onlyRegs s (endPhaseBuild s) := by
  unfold endPhaseBuild
  split
  · exact (onlyRegs_iff_of_onlyRegs (onlyRegs_ownSlewing _)).2 (by simp)
  · simp

/-- The end of a phase build touches no field of REF_SEL_STAT but SLEWING. -/
theorem fld_endPhaseBuild {f : Fld} (h : fldApart F.REF_SEL_STAT_SLEWING f = true) (hf : f.reg ≠ .REF_TD_STAT) (i : Nat) :
    (endPhaseBuild s).fld f i = s.fld f i := by
  unfold endPhaseBuild
  split
  · rw [(regsBut_ownSlewing _).fld (by simpa using hf), fld_setFlag_apart s (by decide) h]
  · rfl

theorem endPhaseBuild_ends : (endPhaseBuild s).flag F.REF_SEL_STAT_SLEWING 0 = false := by
  unfold endPhaseBuild
  split
  · rw [(regsBut_ownSlewing _).flag (by decide), flag_setFlag_same s (by decide) rfl]
  · exact eq_false_of_ne_true ‹_›

/-! ### The loop enters ACQUIRE (R47, R50) -/

theorem keepsSet_enterAcquire : KeepsSet s (enterAcquire s) := by
  simp only [enterAcquire]
  split
  · exact KeepsSet.of_flt (KeepsSet.setFlag (KeepsSet.raise (KeepsSet.setFld (keepsSet_refl s) _ _ _) _) _ _ _) (showSlewing_flt _)
  · exact KeepsSet.of_flt (KeepsSet.raise (KeepsSet.setFld (keepsSet_refl s) _ _ _) _) (armCrash_flt _)

theorem isSet_enterAcquire : (enterAcquire s).isSet Src.REF_ACQUIRE = true := by
  have raised := isSet_raise_same (s.setFld F.REF_SEL_STAT_LOOP 0 1) (x := Src.REF_ACQUIRE) (by decide)
  simp only [enterAcquire]
  split
  · exact (keepsSet_of_flt (showSlewing_flt _)).isSet _ raised
  · exact (keepsSet_of_flt (armCrash_flt _)).isSet _ raised

theorem regsBut_enterAcquire : regsBut [.REF_SEL_STAT, .REF_TD_STAT] s (enterAcquire s) := by
  simp only [enterAcquire]
  split
  · exact (regsBut_iff_of_regsBut (regsBut_mono (by simp) (regsBut_showSlewing _))).2 (by simp)
  · exact (regsBut_iff_of_regsBut (regsBut_of_regs (armCrash_regs _))).2 (by simp)

theorem fld_enterAcquire {f : Fld} (hslew : fldApart F.REF_SEL_STAT_SLEWING f = true) (hf : f.reg ≠ .REF_TD_STAT) (i : Nat) :
    (enterAcquire s).fld f i = (s.setFld F.REF_SEL_STAT_LOOP 0 1).fld f i := by
  simp only [enterAcquire]
  split
  · rw [(regsBut_showSlewing _).fld (by simpa using hf), fld_setFlag_apart _ (by decide) hslew, fld_raise]
  · rw [fld_of_regs (armCrash_regs _), fld_raise]

@[simp] theorem enterAcquire_loop : (enterAcquire s).loop = 1 := by
  rw [State.loop, fld_enterAcquire s (by decide) (by decide), fld_setFld_same s (by decide)]
  rfl

@[simp] theorem enterAcquire_refsel : (enterAcquire s).refsel = s.refsel := by
  rw [State.refsel, fld_enterAcquire s (by decide) (by decide), fld_setFld_apart s (by decide) (by decide), State.refsel]

theorem enterAcquire_flag {f : Fld} (h : f.reg = .REF_SRC_STAT) (i : Nat) : (enterAcquire s).flag f i = s.flag f i :=
  (regsBut_enterAcquire s).flag (by simp [h]) i

/-! ### Event Time follows the reference (R72) -/

@[simp] theorem setResid_regs (r : Int) : (setResid r s).regs = s.regs := by
  simp [setResid]

theorem keepsSet_setResid (r : Int) : KeepsSet s (setResid r s) := by
  simp only [setResid]
  exact KeepsSet.raiseIf (keepsSet_of_flt (by rfl)) _ _

theorem regsBut_etDoSwitch : regsBut [.PTP_ET_STAT] s (etDoSwitch s) := by
  have moved : regsBut [.PTP_ET_STAT] s
      ((s.setFld F.PTP_ET_STAT_CUR_DOM 0 s.ptp.target).setFlag F.PTP_ET_STAT_PENDING 0 false) := by simp
  simp only [etDoSwitch]
  split
  · exact regsBut_trans moved (regsBut_of_regs (setResid_regs _ _))
  · exact moved

theorem keepsSet_etDoSwitch : KeepsSet s (etDoSwitch s) := by
  simp only [etDoSwitch]
  split
  · exact ⟨fun x hx => (keepsSet_setResid _ _).isSet x hx⟩
  · simp

theorem regsBut_etRetarget (n : Nat) : regsBut [.PTP_ET_STAT] s (etRetarget n s) := by
  simp only [etRetarget]
  (repeat' split)
  · exact fun r i hr => reg_setFld_apart _ 0 i _ (by simpa using hr)
  · exact fun r i hr => regsBut_etDoSwitch _ r i hr
  · exact fun r i hr => reg_setFld_apart _ 0 i _ (by simpa using hr)

theorem keepsSet_etRetarget (n : Nat) : KeepsSet s (etRetarget n s) := by
  simp only [etRetarget]
  (repeat' split)
  · exact keepsSet_of_flt rfl
  · exact ⟨fun x hx => (keepsSet_etDoSwitch _).isSet x hx⟩
  · exact keepsSet_of_flt rfl

theorem regsBut_etFollow : regsBut [.PTP_ET_STAT] s (etFollow s) := by
  simp only [etFollow]
  split
  · exact regsBut_refl
  · exact regsBut_etRetarget s _

theorem keepsSet_etFollow : KeepsSet s (etFollow s) := by
  simp only [etFollow]
  split
  · exact keepsSet_refl s
  · exact keepsSet_etRetarget s _

/-! ### REFSEL (R34, R36) -/

/-- A sample of REFSEL noted, before it is accepted. -/
def selNoted (v run : Nat) (s : State) : State := { s with ref := { s.ref with selCand := v, selRun := run } }

theorem refselSampled_accepts {v : Nat} (hcand : s.ref.selCand = v) (hrun : 9 ≤ s.ref.selRun) (hnew : s.refsel ≠ v) :
    refselSampled v s = acceptRefsel v (selNoted v 10 s) := by
  have hmin : min 10 (s.ref.selRun + 1) = 10 := by omega
  simp only [refselSampled, hcand, if_true, hmin]
  exact if_pos ⟨trivial, Ne.symm hnew⟩

theorem refselSampled_notes {v : Nat} (h : (s.ref.selCand = v → s.ref.selRun < 9) ∨ s.refsel = v) :
    ∃ run, refselSampled v s = selNoted v run s := by
  refine ⟨_, if_neg ?_⟩
  rintro ⟨hrun, hnew⟩
  rcases h with hfew | hold
  · split at hrun
    · have := hfew ‹_›
      omega
    · omega
  · exact hnew hold.symm

/-- The state in which a new REFSEL value is shown, before the loop follows it (R36, R72). -/
def selShown (v : Nat) (s : State) : State :=
  etFollow (((s.setFld F.REF_SEL_STAT_PIN 0 v).setFlag F.REF_SRC_STAT_DRIFT_DQ v false).raise Src.REF_SEL_CHANGE)

theorem acceptRefsel_of_qualified {v : Nat} (h : s.qualified v = true) : acceptRefsel v s = enterAcquire (selShown v s) := by
  refine if_pos (?_ : (selShown v s).qualified v = true)
  rw [State.qualified, selShown, (regsBut_etFollow _).flag (by decide), flag_raise,
    flag_setFlag_apart _ (by decide) (by decide), flag_setFld_apart _ (by decide) (by decide)]
  exact h

theorem selShown_refsel {v : Nat} (h : v < 8) : (selShown v s).refsel = v := by
  rw [State.refsel, selShown, (regsBut_etFollow _).fld (by decide), fld_raise, fld_setFlag_apart _ (by decide) (by decide),
    fld_setFld_same _ (by decide)]
  exact Nat.mod_eq_of_lt h

theorem isSet_selShown (v : Nat) : (selShown v s).isSet Src.REF_SEL_CHANGE = true :=
  (keepsSet_etFollow _).isSet _ (isSet_raise_same _ (by decide))

/-- Settles O8: the tenth sample accepts the value, and the loop enters ACQUIRE where its reference is qualified. -/
theorem refselAcceptedAfterTenSamples : Obligations.RefselAcceptedAfterTenSamples := by
  refine ⟨fun v s hcand hrun hnew hqual => ?accepts, fun v s h => ?notes⟩
  case accepts =>
    refine ⟨_, rfl, ?_⟩
    rw [refselSampled_accepts s hcand hrun hnew, acceptRefsel_of_qualified (selNoted v.toNat 10 s) hqual]
    exact ⟨(enterAcquire_refsel _).trans (selShown_refsel _ v.isLt), (keepsSet_enterAcquire _).isSet _ (isSet_selShown _ _),
      enterAcquire_loop _, isSet_enterAcquire _, ⟨by simp [selShown, selNoted], by simp [selShown, selNoted]⟩⟩
  case notes =>
    obtain ⟨run, hnotes⟩ := refselSampled_notes s h
    exact ⟨_, congrArg Host.Outcome.next hnotes, rfl, rfl, rfl, rfl, rfl, rfl⟩

/-! ### Holdover (R46) -/

@[simp] theorem divFree_regs (num : Int) (den : Nat) : (s.divFree num den).2.regs = s.regs := by
  unfold State.divFree
  split <;> rfl

@[simp] theorem divFree_flt (num : Int) (den : Nat) : (s.divFree num den).2.flt = s.flt := by
  unfold State.divFree
  split <;> rfl

/-- The registers that holdover shows: the frequency held, the loop state, and whether the history was short. -/
def holdShown (q : Int) (short : Bool) (s : State) : State :=
  ((s.setReg .REF_HOLD_FREQ 0 (BitVec.ofInt 32 q)).setReg .REF_HOLD_SECONDS 0 0).setFlds 0
    [(F.REF_SEL_STAT_LOOP, 5), (F.REF_SEL_STAT_HOLD_SHORT, b2n short)]

theorem holdShown_flt (q : Int) (short : Bool) (s : State) : (holdShown q short s).flt = s.flt := rfl

/-- What holdover does: FREERUN where no history gives a frequency, HOLDOVER otherwise. -/
theorem enterHoldover_cases :
    (s.ref.hist = [] ∧ enterHoldover s = ((endPhaseBuild s).setFld F.REF_SEL_STAT_LOOP 0 0).raise Src.REF_FREERUN)
      ∨ ∃ num den q short, enterHoldover s
        = (holdShown q short ((endPhaseBuild s).divFree num den).2).raise Src.REF_HOLDOVER := by
  have hist : (endPhaseBuild s).ref = s.ref := by
    rw [onlyRegs_endPhaseBuild s]
  unfold enterHoldover
  extract_lets s0
  split
  next short heq =>
    refine .inl ⟨?_, rfl⟩
    simp only [State.holdSamples] at heq
    split at heq
    · simp_all
    · simpa [s0, hist] using congrArg Prod.fst heq
  next w short hne heq => exact .inr ⟨_, _, _, _, rfl⟩

theorem regsBut_enterHoldover :
    regsBut [.REF_SEL_STAT, .REF_TD_STAT, .REF_HOLD_FREQ, .REF_HOLD_SECONDS] s (enterHoldover s) := by
  have ended := regsBut_mono (qs := [.REF_SEL_STAT, .REF_TD_STAT, .REF_HOLD_FREQ, .REF_HOLD_SECONDS]) (by simp)
    (regsBut_endPhaseBuild s)
  rcases enterHoldover_cases s with ⟨-, heq⟩ | ⟨num, den, q, short, heq⟩
  · rw [heq]
    simpa using ended
  · rw [heq]
    have held := regsBut_trans ended (regsBut_of_regs (divFree_regs _ num den))
    simpa [holdShown, State.setFlds] using held

theorem keepsSet_enterHoldover : KeepsSet s (enterHoldover s) := by
  rcases enterHoldover_cases s with ⟨-, heq⟩ | ⟨num, den, q, short, heq⟩
  · rw [heq]
    exact ((keepsSet_of_flt (endPhaseBuild_flt s)).setFld ..).raise _
  · rw [heq]
    exact KeepsSet.raise (keepsSet_of_flt ((holdShown_flt ..).trans ((divFree_flt _ num den).trans (endPhaseBuild_flt s)))) _

theorem enterHoldover_refsel : (enterHoldover s).refsel = s.refsel := by
  rcases enterHoldover_cases s with ⟨-, heq⟩ | ⟨num, den, q, short, heq⟩ <;> rw [heq, State.refsel]
  · rw [fld_raise, fld_setFld_apart _ (by decide) (by decide), fld_endPhaseBuild s (by decide) (by decide), State.refsel]
  · simp (disch := decide) only [holdShown, State.setFlds, fld_raise, fld_setFld_apart, fld_setReg_apart]
    rw [fld_of_regs (divFree_regs _ num den), fld_endPhaseBuild s (by decide) (by decide), State.refsel]

theorem enterHoldover_of_hist (h : s.ref.hist ≠ []) :
    (enterHoldover s).loop = 5 ∧ (enterHoldover s).isSet Src.REF_HOLDOVER = true := by
  rcases enterHoldover_cases s with ⟨hnil, -⟩ | ⟨num, den, q, short, heq⟩
  · exact absurd hnil h
  · rw [heq, State.loop]
    refine ⟨?_, isSet_raise_same _ (by decide)⟩
    simp (disch := decide) only [holdShown, State.setFlds, fld_raise, fld_setFld_apart, fld_setFld_same]
    rfl

theorem regsBut_loseReference :
    regsBut [.REF_SEL_STAT, .REF_TD_STAT, .REF_HOLD_FREQ, .REF_HOLD_SECONDS] s (loseReference s) := by
  unfold loseReference
  split
  · exact regsBut_refl
  · exact regsBut_enterHoldover s

theorem keepsSet_loseReference : KeepsSet s (loseReference s) := by
  unfold loseReference
  split
  · exact keepsSet_refl s
  · exact keepsSet_enterHoldover s

theorem loseReference_refsel : (loseReference s).refsel = s.refsel := by
  unfold loseReference
  split
  · rfl
  · exact enterHoldover_refsel s

/-! ### Sources qualify (R42) -/

/-- What the monitor of a source shows of it, before it qualifies. -/
def monitorShown (n : Nat) (ana : AnaFormat) (s : State) : State :=
  let s0 := if (n == 0 || n == 1 || (n == 6 && s.ref.ppsWritten)) = true then
      s.setFlds n [(F.REF_SRC_STAT_PRESENT, 1), (F.REF_SRC_STAT_CLEAN, 1)] else s
  if n = 0 ∨ n = 1 then
    s0.setFlds n [(F.REF_SRC_STAT_FMT_RATE, ana.rate.toNat), (F.REF_SRC_STAT_FMT_TRI, b2n ana.triLevel)]
  else s0

section
variable (n : Nat) (ana : AnaFormat)

theorem qualify_eq : qualify n ana s =
    if n ≠ 7 ∧ s.sourceQl n ≠ 0 ∧ s.sourceQl n ≤ (monitorShown n ana s).fld F.REF_QL_MIN_QL_MIN 0
        ∧ (monitorShown n ana s).sourceClean n ∧ !(monitorShown n ana s).flag F.REF_SRC_STAT_DRIFT_DQ n
        ∧ !(monitorShown n ana s).qualified n then
      let t := (monitorShown n ana s).setFlag F.REF_SRC_STAT_QUALIFIED n true
      if n = t.refsel then enterAcquire t else t
    else monitorShown n ana s := rfl

theorem regsButAt_monitorShown : regsButAt [.REF_SRC_STAT] n s (monitorShown n ana s) := by
  unfold monitorShown
  extract_lets s0
  have noted : regsButAt [.REF_SRC_STAT] n s s0 := by
    simp only [s0]
    split <;> simp [State.setFlds]
  split <;> simp [State.setFlds, noted]

theorem monitorShown_flt : (monitorShown n ana s).flt = s.flt := by
  simp only [monitorShown]
  (repeat' split) <;> rfl

theorem onlyRegs_monitorShown : onlyRegs s (monitorShown n ana s) := by
  simp only [monitorShown]
  (repeat' split) <;> rfl

/-- The monitor shows a source present, clean and with its format, and no other field of its status. -/
theorem flag_monitorShown {f : Fld} (hp : fldApart F.REF_SRC_STAT_PRESENT f = true) (hc : fldApart F.REF_SRC_STAT_CLEAN f = true)
    (hr : fldApart F.REF_SRC_STAT_FMT_RATE f = true) (ht : fldApart F.REF_SRC_STAT_FMT_TRI f = true) (i : Nat) :
    (monitorShown n ana s).flag f i = s.flag f i := by
  simp only [monitorShown]
  (repeat' split) <;> simp (disch := first | decide | assumption) only [State.setFlds, flag_setFld_apart]

theorem sourceClean_monitorShown {n : Nat} (hn : n < 7)
    (h : n ≤ 1 ∨ n = 6 ∧ s.ref.ppsWritten = true ∨ s.sourceClean n = true) : (monitorShown n ana s).sourceClean n = true := by
  by_cases own : n ≤ 1 ∨ n = 6 ∧ s.ref.ppsWritten = true
  · obtain rfl | rfl | ⟨rfl, hpps⟩ : n = 0 ∨ n = 1 ∨ n = 6 ∧ s.ref.ppsWritten = true :=
      own.elim (fun h1 => by omega) (fun h6 => .inr (.inr h6))
    all_goals simp (disch := decide) [monitorShown, State.setFlds, State.sourceClean, State.flag, fld_setFld_apart, fld_setFld_same, *]
  · have unchanged : monitorShown n ana s = s := by
      obtain ⟨h1, h6⟩ := not_or.1 own
      have h0 : ¬ (n = 0 ∨ n = 1) := by omega
      simp_all [monitorShown]
    rw [unchanged]
    tauto

end

/-- A source that meets R42 becomes qualified; what follows is the loop's start, for the pinned one. -/
theorem qualify_of_clean {n : Nat} (ana : AnaFormat) (hn : n < 7) (hql : s.sourceQl n ≠ 0)
    (hmin : s.sourceQl n ≤ s.fld F.REF_QL_MIN_QL_MIN 0)
    (hclean : n ≤ 1 ∨ n = 6 ∧ s.ref.ppsWritten = true ∨ s.sourceClean n = true)
    (hdrift : s.flag F.REF_SRC_STAT_DRIFT_DQ n = false) (hnew : s.qualified n = false) :
    qualify n ana s =
      let t := (monitorShown n ana s).setFlag F.REF_SRC_STAT_QUALIFIED n true
      if n = s.refsel then enterAcquire t else t := by
  have shown := regsButAt_monitorShown s n ana
  have hpin : ((monitorShown n ana s).setFlag F.REF_SRC_STAT_QUALIFIED n true).refsel = s.refsel := by
    rw [State.refsel, fld_setFlag_apart _ (by decide) (by decide), shown.fld_other (by decide) 0, State.refsel]
  have hmin' : s.sourceQl n ≤ (monitorShown n ana s).fld F.REF_QL_MIN_QL_MIN 0 := by rwa [shown.fld_other (by decide) 0]
  have hdrift' : (monitorShown n ana s).flag F.REF_SRC_STAT_DRIFT_DQ n = false := by
    rwa [flag_monitorShown s n ana (by decide) (by decide) (by decide) (by decide)]
  have hnew' : (monitorShown n ana s).qualified n = false := by
    rwa [State.qualified, flag_monitorShown s n ana (by decide) (by decide) (by decide) (by decide)]
  rw [qualify_eq, if_pos ⟨by omega, hql, hmin', sourceClean_monitorShown s ana hn hclean, by simp [hdrift'], by simp [hnew']⟩]
  dsimp only
  rw [hpin]

/-! ### Sources fail (R42) -/

/-- A qualified source that fails is disqualified; the pinned one is reported, and the loop loses it (R42, R46). -/
theorem sourceFails_of_qualified {n : Nat} (failed : Bool) (h : s.qualified n = true) :
    ∃ u, sourceFails n failed s = (if n = s.refsel then loseReference (u.raise Src.REF_SRC_LOST) else u)
      ∧ u.qualified n = false ∧ regsButAt [.REF_SRC_STAT] n s u ∧ u.flt = s.flt ∧ onlyRegs s u := by
  obtain ⟨v, hv, hqual, hregs, hflt, honly⟩ : ∃ v, sourceFails n failed s = disqualify n v ∧ v.qualified n = true
      ∧ regsButAt [.REF_SRC_STAT] n s v ∧ v.flt = s.flt ∧ onlyRegs s v := by
    cases failed
    · exact ⟨s, rfl, h, by simp, rfl, by simp⟩
    · refine ⟨_, rfl, ?_, by simp, rfl, by simp⟩
      rwa [if_pos rfl, State.qualified, flag_setFlag_apart s (by decide) (by decide)]
  have pin : (v.setFlag F.REF_SRC_STAT_QUALIFIED n false).refsel = s.refsel := by
    rw [State.refsel, fld_setFlag_apart _ (by decide) (by decide), hregs.fld_other (by decide) 0, State.refsel]
  refine ⟨v.setFlag F.REF_SRC_STAT_QUALIFIED n false, ?_, flag_setFlag_same v (by decide) rfl n false, by simpa using hregs,
    hflt, by simpa using honly⟩
  rw [hv, disqualify, if_pos hqual]
  dsimp only
  rw [pin]

/-! ### Drift holds lifted (R42) -/

theorem bit_toNat (v : Word) (n : Nat) : bit v.toNat n = v.getLsbD n := by
  rw [BitVec.getLsbD, Nat.testBit_eq_decide_div_mod_eq, bit]
  rfl

/-- The drift holds after the sources of a list have been looked at: those that `v` names are lifted. -/
theorem flag_liftDrift (v : Word) (l : List Nat) (n : Nat) :
    (l.foldl (fun t n => if bit v.toNat n then t.setFlag F.REF_SRC_STAT_DRIFT_DQ n false else t) s).flag
      F.REF_SRC_STAT_DRIFT_DQ n = (s.flag F.REF_SRC_STAT_DRIFT_DQ n && !(decide (n ∈ l) && v.getLsbD n)) := by
  induction l generalizing s with
  | nil => simp
  | cons k l ih =>
    rw [List.foldl_cons, ih, bit_toNat]
    by_cases hk : n = k
    · subst hk
      cases hv : v.getLsbD n <;> simp [flag_setFlag_same]
    · cases hv : v.getLsbD k <;> simp [hk, flag_setFlag_elem]

/-- Settles O9: what the monitor shows of a source leaves the conditions of R42 as they are; the loop follows the pinned one. -/
theorem sourcesQualifyAndFail : Obligations.SourcesQualifyAndFail := by
  refine ⟨?qualifies, ?fails, ?requal⟩
  case qualifies =>
    intro n ana s hn hql hmin hclean hdrift hnew
    have shown : regsButAt [.REF_SRC_STAT] n.val s ((monitorShown n ana s).setFlag F.REF_SRC_STAT_QUALIFIED n true) := by
      simpa using regsButAt_monitorShown s n ana
    have still := still_of_onlyRegs (onlyRegs_monitorShown s n ana)
    have hset : ((monitorShown n ana s).setFlag F.REF_SRC_STAT_QUALIFIED n true).qualified n = true :=
      flag_setFlag_same _ (by decide) rfl n true
    refine ⟨_, congrArg Host.Outcome.next (qualify_of_clean s ana hn hql hmin hclean hdrift hnew), ?_⟩
    dsimp only
    by_cases hpin : n.val = s.refsel
    · rw [if_pos hpin]
      refine ⟨?_, ?_, fun _ => ⟨enterAcquire_loop _, isSet_enterAcquire _⟩, fun h => absurd hpin h,
        by simpa using still.1, by simpa using still.2⟩
      · rwa [State.qualified, enterAcquire_flag _ rfl]
      · rw [enterAcquire_refsel]
        exact shown.fld_other (by decide) 0
    · rw [if_neg hpin]
      exact ⟨hset, shown.fld_other (by decide) 0, fun h => absurd h hpin,
        fun _ => ⟨shown.fld_other (by decide) 0, monitorShown_flt s n ana, shown⟩,
        by simpa using still.1, by simpa using still.2⟩
  case fails =>
    intro n failed s hqual
    obtain ⟨u, heq, hlost, hregs, hflt, honly⟩ := sourceFails_of_qualified s failed hqual
    refine ⟨_, congrArg Host.Outcome.next heq, ?_⟩
    have hstill := still_of_onlyRegs honly
    by_cases hpin : n.val = s.refsel
    · rw [if_pos hpin]
      have frame := regsBut_loseReference (u.raise Src.REF_SRC_LOST)
      refine ⟨?_, ?_, fun _ => ⟨(keepsSet_loseReference _).isSet _ (isSet_raise_same _ (by decide)), ?_⟩,
        fun h => absurd hpin h, by simpa using hstill.1, by simpa using hstill.2⟩
      · rw [State.qualified, frame.flag (by decide), flag_raise]
        exact hlost
      · rw [loseReference_refsel, State.refsel, fld_raise]
        exact hregs.fld_other (by decide) 0
      · intro h0 h5 hhist
        have hloop : (u.raise Src.REF_SRC_LOST).loop = s.loop := by
          rw [State.loop, fld_raise]
          exact hregs.fld_other (by decide) 0
        have href : (u.raise Src.REF_SRC_LOST).ref = s.ref := by
          rw [raise_ref, honly]
        rw [loseReference, hloop, if_neg (by tauto)]
        exact enterHoldover_of_hist _ (by rwa [href])
    · rw [if_neg hpin]
      exact ⟨hlost, hregs.fld_other (by decide) 0, fun h => absurd h hpin, fun _ => ⟨hregs.fld_other (by decide) 0, hflt, hregs⟩, hstill⟩
  case requal =>
    intro v s
    refine ⟨_, rfl, fun n hn => ?_, regsBut_foldl (fun a n => by split <;> simp) _ s,
      foldl_keeps (·.flt) (fun a n => by split <;> rfl) _ s, by simp, by simp⟩
    rw [writeRequal, flag_liftDrift]
    simp [hn]

/-! ### The one-second samples (R43, R45) -/

theorem disqualify_flag (n : Nat) {f : Fld} (h : f.reg = .REF_SRC_STAT) (ha : fldApart F.REF_SRC_STAT_QUALIFIED f = true)
    (i : Nat) : (disqualify n s).flag f i = s.flag f i := by
  simp only [disqualify]
  (repeat' split)
  · rw [(regsBut_loseReference _).flag (by simp [h]), flag_raise, flag_setFlag_apart s (by decide) ha]
  · exact flag_setFlag_apart s (by decide) ha ..
  · rfl

theorem disqualify_refsel (n : Nat) : (disqualify n s).refsel = s.refsel := by
  have pin : (s.setFlag F.REF_SRC_STAT_QUALIFIED n false).refsel = s.refsel := fld_setFlag_apart s (by decide) (by decide) ..
  simp only [disqualify]
  (repeat' split)
  · rw [loseReference_refsel, State.refsel, fld_raise]
    exact pin
  · exact pin
  · rfl

/-- The drift comparison changes neither a source's presence nor the reference selected. -/
theorem driftCheck_frame : (driftCheck s).refsel = s.refsel
    ∧ ∀ i, (driftCheck s).flag F.REF_SRC_STAT_PRESENT i = s.flag F.REF_SRC_STAT_PRESENT i := by
  unfold driftCheck
  split
  · refine ⟨?_, fun i => ?_⟩
    · rw [disqualify_refsel, State.refsel, fld_raise, fld_setFlag_apart s (by decide) (by decide), State.refsel]
    · rw [disqualify_flag _ _ rfl (by decide), flag_raise, flag_setFlag_apart s (by decide) (by decide)]
  · exact ⟨rfl, fun _ => rfl⟩

theorem regsBut_showLagged : regsBut [.REF_HOLD_FREQ] s (showLagged s) := by
  simp only [showLagged]
  split
  · exact regsBut_refl
  · exact (regsBut_setReg (by simp) _ _).2 (regsBut_of_regs (divFree_regs ..))

theorem noteHistory_regs (samples : List (Fin 8 × Int)) : (noteHistory samples s).regs = s.regs := by
  unfold noteHistory
  (repeat' split) <;> rfl

theorem takeOfsSample_present (n : Nat) (x : Int) (i : Nat) : (takeOfsSample n x s).flag F.REF_SRC_STAT_PRESENT i
    = if i = n then true else s.flag F.REF_SRC_STAT_PRESENT i := by
  simp only [takeOfsSample]
  rw [State.flag, fld_setReg_apart _ _ _ _ (by decide), ← State.flag]
  by_cases h : i = n
  · subst h
    rw [if_pos rfl, flag_setFlag_same _ (by decide) rfl]
  · rw [if_neg h, flag_setFlag_elem _ _ h]
    exact flag_of_regs (divFree_regs s _ _) _ _

theorem regsBut_takeOfsSample (n : Nat) (x : Int) : regsBut [.REF_SRC_STAT, .REF_SRC_OFFSET] s (takeOfsSample n x s) := by
  simp only [takeOfsSample]
  exact (regsBut_setReg (by simp) _ _).2 ((regsBut_setFlag (by simp) _ _).2 (regsBut_of_regs (divFree_regs ..)))

/-- Each source that gives a sample is present after the samples. -/
theorem present_takeOfsSamples (samples : List (Fin 8 × Int)) (n : Fin 8)
    (h : n ∈ samples.map (·.1) ∨ s.flag F.REF_SRC_STAT_PRESENT n = true) :
    (samples.foldl (fun t e => takeOfsSample e.1.val e.2 t) s).flag F.REF_SRC_STAT_PRESENT n = true := by
  induction samples generalizing s with
  | nil => simpa using h
  | cons e l ih =>
    refine ih _ ?_
    rw [takeOfsSample_present]
    by_cases he : n = e.1
    · exact .inr (by simp [he])
    · have hne : n.val ≠ e.1.val := fun hv => he (Fin.ext hv)
      simpa [he, hne] using h

@[simp] theorem elapse_ref (ns : Nat) (s : State) : (elapse ns s).ref = s.ref := by
  simp only [elapse, slewEt, State.runDom]
  (repeat' split) <;> simp

@[simp] theorem divFree_ref (num : Int) (den : Nat) : (s.divFree num den).2.ref = s.ref := by
  unfold State.divFree
  split <;> rfl

theorem loseReference_ref : (loseReference s).ref = s.ref := by
  have ended : (endPhaseBuild s).ref = s.ref := by rw [onlyRegs_endPhaseBuild s]
  unfold loseReference
  split
  · rfl
  · rcases enterHoldover_cases s with ⟨-, heq⟩ | ⟨num, den, q, short, heq⟩ <;> rw [heq]
    · simpa using ended
    · simpa [holdShown, State.setFlds] using ended

theorem driftCheck_ref : (driftCheck s).ref = s.ref := by
  simp only [driftCheck, disqualify]
  (repeat' split) <;> simp [loseReference_ref]

/-- The state of a second's samples before the drift comparison. -/
def sampled (samples : List (Fin 8 × Int)) (s : State) : State :=
  let s2 := samples.foldl (fun t e => takeOfsSample e.1.val e.2 t)
    ((List.range 8).foldl (fun t n => t.setFlag F.REF_SRC_STAT_PRESENT n false) s)
  showLagged (noteHistory samples (if s2.loop = 5 then s2.bump .REF_HOLD_SECONDS 0 else s2))

/-- The instant of a second's samples. -/
def atSecond (s : State) : State :=
  let s0 := passToNow ((s.ref.second + 1) * 1000000000) s
  { s0 with ref := { s0.ref with second := s0.ref.second + 1 } }

theorem offsetSamples_eq (samples : List (Fin 8 × Int)) :
    offsetSamples samples s = driftCheck (sampled samples (atSecond s)) := rfl

/-- The registers of the samples are a source's presence and offset, and those of holdover. -/
theorem regsBut_sampled (samples : List (Fin 8 × Int)) :
    regsBut [.REF_SRC_STAT, .REF_SRC_OFFSET, .REF_HOLD_SECONDS, .REF_HOLD_FREQ] s (sampled samples s) := by
  simp only [sampled]
  refine regsBut_trans ?_ (regsBut_mono (by simp) (regsBut_showLagged _))
  refine regsBut_trans ?_ (regsBut_of_regs (noteHistory_regs _ _))
  have taken : regsBut [.REF_SRC_STAT, .REF_SRC_OFFSET, .REF_HOLD_SECONDS, .REF_HOLD_FREQ] s
      (samples.foldl (fun t e => takeOfsSample e.1.val e.2 t)
        ((List.range 8).foldl (fun t n => t.setFlag F.REF_SRC_STAT_PRESENT n false) s)) :=
    regsBut_trans (regsBut_foldl (fun a n => by simp) _ _)
      (regsBut_foldl (fun a e => regsBut_mono (by simp) (regsBut_takeOfsSample a _ _)) _ _)
  split
  · exact (regsBut_bump (by simp) _).2 taken
  · exact taken

theorem sampled_present {samples : List (Fin 8 × Int)} {n : Fin 8} {x : Int} (h : (n, x) ∈ samples) :
    (sampled samples s).flag F.REF_SRC_STAT_PRESENT n = true := by
  simp only [sampled]
  rw [(regsBut_showLagged _).flag (by decide), flag_of_regs (noteHistory_regs _ _)]
  have taken := present_takeOfsSamples ((List.range 8).foldl (fun t n => t.setFlag F.REF_SRC_STAT_PRESENT n false) s) samples n
    (.inl (List.mem_map.2 ⟨_, h, rfl⟩))
  split
  · rw [State.flag, fld_bump_apart _ _ _ (by decide)]
    exact taken
  · exact taken

theorem showLagged_ref : (showLagged s).ref = s.ref := by
  simp only [showLagged]
  split <;> simp

theorem noteHistory_second (samples : List (Fin 8 × Int)) : (noteHistory samples s).ref.second = s.ref.second := by
  unfold noteHistory
  (repeat' split) <;> rfl

theorem takeOfsSample_second (n : Nat) (x : Int) : (takeOfsSample n x s).ref.second = s.ref.second := by
  simp [takeOfsSample]

theorem sampled_second (samples : List (Fin 8 × Int)) : (sampled samples s).ref.second = s.ref.second := by
  simp only [sampled, showLagged_ref, noteHistory_second]
  have taken : (samples.foldl (fun t e => takeOfsSample e.1.val e.2 t)
      ((List.range 8).foldl (fun t n => t.setFlag F.REF_SRC_STAT_PRESENT n false) s)).ref.second = s.ref.second :=
    (foldl_keeps (·.ref.second) (fun a e => takeOfsSample_second a _ _) _ _).trans
      (foldl_keeps (·.ref.second) (fun a n => by rfl) _ s)
  split
  · exact taken
  · exact taken

theorem still_offsetSamples (samples : List (Fin 8 × Int)) : still s (offsetSamples samples s) :=
  ⟨offsetSamples_pending samples s, offsetSamples_mem samples s⟩

/-! ### Disagreement (R44) -/

/-- Of one pair of sources named, the pairs that disagree are that pair, where it does. -/
theorem noteDisagree_pair {a b : Fin 8} (h : s.disagrees a b = true) (hclear : s.isSet Src.REF_DISAGREE = false) :
    noteDisagree [(a, b)] s =
      (((s.setFlds 0 [(F.REF_DISAGREE_PAIR_SRC_X, a.val), (F.REF_DISAGREE_PAIR_SRC_Y, b.val)]).setReg
        .REF_DISAGREE_OFS_X 0 (s.reg .REF_SRC_OFFSET a)).setReg .REF_DISAGREE_OFS_Y 0 (s.reg .REF_SRC_OFFSET b)).raise
        Src.REF_DISAGREE := by
  have hbit : (s.faults .REF).fstat &&& Src.REF_DISAGREE.mask = 0 := by
    refine BitVec.eq_of_getLsbD_eq fun k hk => ?_
    rw [BitVec.getLsbD_and, getLsbD_mask (by decide), show (0 : Word).getLsbD k = false from BitVec.getLsbD_zero,
      Bool.and_eq_false_iff, decide_eq_false_iff_not]
    by_cases hb : k = Src.REF_DISAGREE.bit
    · exact .inl (hb ▸ hclear)
    · exact .inr hb
  have hin : ∀ p ∈ sourcePairs.filter (fun p => s.disagrees p.1 p.2 && [(a, b)].any (fun q => q.1.val == p.1 && q.2.val == p.2)),
      p = (a.val, b.val) := by
    intro p hp
    have := (List.mem_filter.1 hp).2
    simp only [List.any_cons, List.any_nil, Bool.or_false, Bool.and_eq_true, beq_iff_eq] at this
    exact Prod.ext this.2.1.symm this.2.2.symm
  have hmem : (a.val, b.val) ∈ sourcePairs.filter
      (fun p => s.disagrees p.1 p.2 && [(a, b)].any (fun q => q.1.val == p.1 && q.2.val == p.2)) := by
    refine List.mem_filter.2 ⟨?_, by simp [h]⟩
    simp [sourcePairs, a.isLt, b.isLt]
  unfold noteDisagree
  dsimp only
  split
  next hnil => rw [hnil] at hmem; simp at hmem
  next x y l hcons =>
    obtain ⟨rfl, rfl⟩ := Prod.mk.inj (hin (x, y) (by rw [hcons]; exact List.mem_cons_self))
    rw [if_pos hbit]

/-- Settles O10: each event is one equation of the model, whose frames are those of the phase build and of the samples. -/
theorem loopFollowsItsErrors : Obligations.LoopFollowsItsErrors := by
  refine ⟨?samples, ?disagree, ?down, ?relock, ?built⟩
  case samples =>
    intro samples n x s hmem
    have elapsed : (atSecond s).regs = s.regs := elapse_regs _ s
    refine ⟨_, congrArg Host.Outcome.next (offsetSamples_eq s samples), ?_, ?_, ?_, ?_⟩
    · rw [(driftCheck_frame _).2, sampled_present _ hmem]
    · rw [(driftCheck_frame _).1, State.refsel, (regsBut_sampled _ _).fld (by decide), fld_of_regs elapsed, State.refsel]
    · rw [driftCheck_ref, sampled_second, atSecond]
      simp [passToNow]
    · rw [← offsetSamples_eq]
      exact still_offsetSamples s samples
  case disagree =>
    intro a b s hdis hclear
    refine ⟨_, congrArg Host.Outcome.next (noteDisagree_pair s hdis hclear), isSet_raise_same _ (by decide), ?_, ?_, ?_, ?_,
      by simp [State.setFlds], by simp [State.setFlds]⟩
    · simp (disch := decide) only [fld_raise, fld_setReg_apart, State.setFlds, fld_setFld_apart, fld_setFld_same]
      exact Nat.mod_eq_of_lt a.isLt
    · simp (disch := decide) only [fld_raise, fld_setReg_apart, State.setFlds, fld_setFld_same]
      exact Nat.mod_eq_of_lt b.isLt
    · rw [reg_raise, reg_setReg_reg _ _ _ _ (by decide), reg_setReg_same]
    · rw [reg_raise, reg_setReg_same]
  case down =>
    intro err s h1 h3 herr
    have hcond : 1 ≤ s.loop ∧ s.loop ≤ 3 ∧ err.natAbs < stepThreshold s.loop := ⟨h1, h3, herr⟩
    refine ⟨_, congrArg Host.Outcome.next (if_pos hcond), ?_, ?_, ?_, ?_⟩
    · rw [State.loop, fld_raiseIf, fld_setFld_same _ (by decide)]
      exact Nat.mod_eq_of_lt (show s.loop + 1 < 8 by omega)
    · intro hloop
      simp only [hloop, State.raiseIf, beq_self_eq_true, if_true]
      exact isSet_raise_same _ (by decide)
    · have shown : regsBut [.REF_PHASE_ERR, .REF_SEL_STAT, .REF_TD_STAT] s (showPhaseErr err s) := by simp [showPhaseErr]
      simpa using regsBut_trans shown (regsBut_mono (by simp) (regsBut_endPhaseBuild _))
    · simpa using onlyRegs_trans (onlyRegs_setReg s ..) (onlyRegs_endPhaseBuild (showPhaseErr err s))
  case relock =>
    intro err s h2 h4 herr
    refine ⟨_, congrArg Host.Outcome.next (if_pos ⟨h2, h4, herr⟩), enterAcquire_loop _, ?_, isSet_enterAcquire _, ?_,
      by simp [showPhaseErr], by simp [showPhaseErr]⟩
    · exact (keepsSet_enterAcquire _).isSet _ (isSet_raise_same _ (by decide))
    · rw [regsBut_enterAcquire _ _ _ (by decide), reg_bump_same, reg_raise, showPhaseErr, reg_setReg_reg _ _ _ _ (by decide)]
  case built =>
    intro err s hslew herr
    have shown : regsBut [.REF_PHASE_ERR, .REF_SEL_STAT, .REF_TD_STAT] s (showPhaseErr err s) := by simp [showPhaseErr]
    refine ⟨_, congrArg Host.Outcome.next (if_pos ⟨hslew, herr⟩), endPhaseBuild_ends _, ?_,
      regsBut_trans shown (regsBut_mono (by simp) (regsBut_endPhaseBuild _)), endPhaseBuild_flt _,
      onlyRegs_trans (onlyRegs_setReg s ..) (onlyRegs_endPhaseBuild _)⟩
    rw [State.loop, fld_endPhaseBuild _ (by decide) (by decide), showPhaseErr, fld_setReg_apart _ _ _ _ (by decide), State.loop]

end Sys2Proof.Machine
end

section
/-!
SUPPORT. What a write by the type codes alone does (R2, R516): the fields it sets, those it leaves, and its frame.
-/

namespace Sys2Proof

theorem Fld.testBit_of (f : Fld) (w : Word) (k : Nat) : (f.of w).testBit k = (decide (k < f.len) && w.getLsbD (f.lo + k)) := by
  rw [Fld.of, testBit_bitsOf, BitVec.getLsbD]

theorem Fld.of_congr {f : Fld} {w x : Word} (h : ∀ k, k < f.len → w.getLsbD (f.lo + k) = x.getLsbD (f.lo + k)) : f.of w = f.of x := by
  refine Nat.eq_of_testBit_eq fun k => ?_
  rw [f.testBit_of, f.testBit_of]
  by_cases hk : k < f.len
  · rw [h k hk]
  · simp [hk]

/-- Every bit of a field is of type RW or RWS, and of no type that a 1 acts on. -/
def Fld.takesWrite (f : Fld) : Bool :=
  (List.range f.len).all fun k => (f.reg.typeMask .rw ||| f.reg.typeMask .rws).getLsbD (f.lo + k)
    && !(f.reg.typeMask .w1c).getLsbD (f.lo + k) && !(f.reg.typeMask .w1s).getLsbD (f.lo + k)

/-- No bit of a field is of a type that a write acts on. -/
def Fld.ignoresWrite (f : Fld) : Bool :=
  (List.range f.len).all fun k => !(f.reg.typeMask .rw ||| f.reg.typeMask .rws).getLsbD (f.lo + k)
    && !(f.reg.typeMask .w1c).getLsbD (f.lo + k) && !(f.reg.typeMask .w1s).getLsbD (f.lo + k)

theorem RegName.getLsbD_written (r : RegName) (old v : Word) (k : Nat) : (r.written old v).getLsbD k =
    (((decide (k < 32) && (old.getLsbD k && !(r.typeMask .rw ||| r.typeMask .rws).getLsbD k))
        || (v.getLsbD k && (r.typeMask .rw ||| r.typeMask .rws).getLsbD k))
      && (decide (k < 32) && !(v.getLsbD k && (r.typeMask .w1c).getLsbD k)) || (v.getLsbD k && (r.typeMask .w1s).getLsbD k)) := by
  simp only [RegName.written, BitVec.getLsbD_or, BitVec.getLsbD_and, BitVec.getLsbD_not]
  cases decide (k < 32) <;> simp

/-- A field of type RW or RWS takes the written value (R2). -/
theorem Fld.of_written {f : Fld} (h : f.takesWrite = true) (old v : Word) : f.of (f.reg.written old v) = f.of v := by
  refine Fld.of_congr fun k hk => ?_
  have hbit := List.all_eq_true.1 h k (List.mem_range.2 hk)
  simp only [Bool.and_eq_true, Bool.not_eq_true'] at hbit
  obtain ⟨⟨hrw, hc⟩, hs⟩ := hbit
  rw [RegName.getLsbD_written, hrw, hc, hs]
  by_cases h32 : f.lo + k < 32
  · simp [h32]
  · simp [h32, BitVec.getLsbD_of_ge v (f.lo + k) (by omega)]

/-- A field that no type code lets a write act on stays as it is (R2). -/
theorem Fld.of_written_of_ignores {f : Fld} (h : f.ignoresWrite = true) (old v : Word) : f.of (f.reg.written old v) = f.of old := by
  refine Fld.of_congr fun k hk => ?_
  have hbit := List.all_eq_true.1 h k (List.mem_range.2 hk)
  simp only [Bool.and_eq_true, Bool.not_eq_true'] at hbit
  obtain ⟨⟨hrw, hc⟩, hs⟩ := hbit
  rw [RegName.getLsbD_written, hrw, hc, hs]
  by_cases h32 : f.lo + k < 32
  · simp [h32]
  · simp [h32, BitVec.getLsbD_of_ge old (f.lo + k) (by omega)]

/-- A one-bit field of a word with a bit forced to 1, and with a bit cleared. -/
theorem Fld.of_or_one {f : Fld} (h : 1 ≤ f.lo) (v : Word) : f.of (v ||| 1#32) = f.of v :=
  Fld.of_congr fun k _ => by
    have h0 : f.lo + k ≠ 0 := by omega
    simp only [BitVec.getLsbD_or, BitVec.getLsbD_one, h0, decide_false, Bool.and_false, Bool.or_false]

theorem Fld.of_and_not_one {f : Fld} (h : 1 ≤ f.lo) (hi : f.lo + f.len ≤ 32) (v : Word) : f.of (v &&& ~~~ 1#32) = f.of v :=
  Fld.of_congr fun k hk => by
    have h0 : f.lo + k ≠ 0 := by omega
    have h32 : f.lo + k < 32 := by omega
    simp only [BitVec.getLsbD_and, BitVec.getLsbD_not, BitVec.getLsbD_one, h0, h32, decide_true, decide_false, Bool.and_false,
      Bool.not_false, Bool.and_true]

/-- A one-bit field at bit 0 reads bit 0. -/
theorem Fld.of_bit0 {f : Fld} (hlo : f.lo = 0) (hlen : f.len = 1) (w : Word) : f.of w = b2n (w.getLsbD 0) := by
  rw [Fld.of, bitsOf, hlo, hlen, Nat.pow_zero, Nat.div_one, Nat.pow_one, BitVec.getLsbD, Nat.testBit_zero]
  rcases Nat.mod_two_eq_zero_or_one w.toNat with h | h <;> simp [h, b2n]

namespace Machine

variable {rs : List RegName} {s t : State}

theorem plainWrite_of_plain {r : RegName} (h : r.info.kind = .plain) (i : Nat) (v : Word) (s : State) :
    plainWrite r i v s = s.setReg r i (r.written (s.reg r i) v) := by
  simp only [plainWrite, h]

@[simp] theorem plainWrite_flt (r : RegName) (i : Nat) (v : Word) (s : State) : (plainWrite r i v s).flt = s.flt := by
  unfold plainWrite
  (repeat' split) <;> rfl

@[simp] theorem onlyRegs_plainWrite (r : RegName) (i : Nat) (v : Word) : onlyRegs s (plainWrite r i v t) ↔ onlyRegs s t := by
  unfold plainWrite
  (repeat' split) <;> simp

@[simp] theorem regsBut_plainWrite {r : RegName} (h : r.info.kind = .plain) (hr : r ∈ rs) (i : Nat) (v : Word) :
    regsBut rs s (plainWrite r i v t) ↔ regsBut rs s t := by
  rw [plainWrite_of_plain h, regsBut_setReg hr]

@[simp] theorem regsButAt_plainWrite {r : RegName} (h : r.info.kind = .plain) (hr : r ∈ rs) (i : Nat) (v : Word) :
    regsButAt rs i s (plainWrite r i v t) ↔ regsButAt rs i s t := by
  rw [plainWrite_of_plain h, regsButAt_setReg_iff hr]

/-- A write sets the fields of its register that take it. -/
theorem fld_plainWrite {f : Fld} (h : f.reg.info.kind = .plain) (hw : f.takesWrite = true) (i : Nat) (v : Word) (s : State) :
    (plainWrite f.reg i v s).fld f i = f.of v := by
  rw [plainWrite_of_plain h, fld_setReg_same, Fld.of_written hw]

theorem fld_plainWrite_kept {f : Fld} (h : f.reg.info.kind = .plain) (hw : f.ignoresWrite = true) (i : Nat) (v : Word) (s : State) :
    (plainWrite f.reg i v s).fld f i = s.fld f i := by
  rw [plainWrite_of_plain h, fld_setReg_same, Fld.of_written_of_ignores hw, fld_eq]

theorem fld_plainWrite_elem {f : Fld} {r : RegName} (h : r.info.kind = .plain) {i j : Nat} (hj : j ≠ i) (v : Word) (s : State) :
    (plainWrite r i v s).fld f j = s.fld f j := by
  rw [plainWrite_of_plain h, fld_setReg_reg s _ fun _ => hj]

theorem reg_plainWrite_apart {q r : RegName} (h : r.info.kind = .plain) (hq : q ≠ r) (i j : Nat) (v : Word) (s : State) :
    (plainWrite r i v s).reg q j = s.reg q j := by
  rw [plainWrite_of_plain h, reg_setReg_reg s _ _ _ hq]

theorem fld_plainWrite_apart {f : Fld} {r : RegName} (h : r.info.kind = .plain) (hf : f.reg ≠ r) (i j : Nat) (v : Word) (s : State) :
    (plainWrite r i v s).fld f j = s.fld f j := by
  rw [fld_eq, reg_plainWrite_apart h hf, fld_eq]

end Machine

end Sys2Proof
end

section
/-!
PROOFS. Network time: the messages of a PTP domain (R61 to R66), and the domain that Event Time follows (R72 to R76, R83).
-/

namespace Sys2Proof.Machine

-- Many short proofs in a row: one at a time, so that they do not each hold a thread.
set_option Elab.async false
variable (s : State) (d : Nat)

/-! ### The domains -/

@[simp] theorem dom_setDom_same (x : PtpDom) : (s.setDom d x).dom d = x := AMap.get_set_same _ _ d x

theorem dom_of_ptp {s t : State} (h : t.ptp = s.ptp) (d : Nat) : t.dom d = s.dom d := by
  rw [State.dom, State.dom, h]

@[simp] theorem dom_raiseIf (c : Bool) (x : Src) : (s.raiseIf c x).dom d = s.dom d := dom_of_ptp (by simp) d
@[simp] theorem dom_raise (x : Src) : (s.raise x).dom d = s.dom d := dom_of_ptp (by simp) d
@[simp] theorem dom_setReg (r : RegName) (i : Nat) (v : Word) : (s.setReg r i v).dom d = s.dom d := rfl
@[simp] theorem dom_setFld (f : Fld) (i v : Nat) : (s.setFld f i v).dom d = s.dom d := rfl
@[simp] theorem dom_setFlag (f : Fld) (i : Nat) (b : Bool) : (s.setFlag f i b).dom d = s.dom d := rfl
@[simp] theorem dom_bump (r : RegName) (i : Nat) : (s.bump r i).dom d = s.dom d := rfl

@[simp] theorem dom_send (p : Nat) (bs : List Byte) : (s.send p bs).dom d = s.dom d := rfl

@[simp] theorem divFree_ptp (num : Int) (den : Nat) : (s.divFree num den).2.ptp = s.ptp := by
  unfold State.divFree
  split <;> rfl

@[simp] theorem dom_divFree (num : Int) (den : Nat) : (s.divFree num den).2.dom d = s.dom d := dom_of_ptp (by simp) d

theorem setResid_dom (r : Int) (s : State) : (setResid r s).ptp.dom = s.ptp.dom := by
  simp [setResid]

/-! ### What the servo leaves as it was -/

/-- The registers of a domain that its servo and its state write, and CUR_DOM's. -/
def servoRegs : List RegName := [.PTP_DOM_STAT, .PTP_DOM_FREQ, .PTP_DOM_STEP_CNT, .PTP_ET_STAT]

/-- From `s` to `t` the servo of domain `d` has acted: what its messages gave, and every register but the servo's, are as
before. -/
structure ServoActs (d : Nat) (s t : State) : Prop where
  syncDiff : (t.dom d).syncDiff = (s.dom d).syncDiff
  waiting : (t.dom d).waiting = (s.dom d).waiting
  delays : (t.dom d).delays = (s.dom d).delays
  regs : regsBut servoRegs s t

section
variable {d : Nat} {s t u : State}

theorem ServoActs.refl (d : Nat) (s : State) : ServoActs d s s := ⟨rfl, rfl, rfl, regsBut_refl⟩

theorem ServoActs.trans (h : ServoActs d s t) (g : ServoActs d t u) : ServoActs d s u :=
  ⟨g.syncDiff.trans h.syncDiff, g.waiting.trans h.waiting, g.delays.trans h.delays, regsBut_trans h.regs g.regs⟩

theorem ServoActs.raise (h : ServoActs d s t) (x : Src) : ServoActs d s (t.raise x) :=
  ⟨by simpa using h.syncDiff, by simpa using h.waiting, by simpa using h.delays, by simpa using h.regs⟩

theorem ServoActs.setFlag (h : ServoActs d s t) {f : Fld} (hf : f.reg ∈ servoRegs) (i : Nat) (b : Bool) :
    ServoActs d s (t.setFlag f i b) := ⟨h.syncDiff, h.waiting, h.delays, (regsBut_setFlag hf i b).2 h.regs⟩

theorem ServoActs.bump (h : ServoActs d s t) {r : RegName} (hr : r ∈ servoRegs) (i : Nat) : ServoActs d s (t.bump r i) :=
  ⟨h.syncDiff, h.waiting, h.delays, (regsBut_bump hr i).2 h.regs⟩

/-- A step that keeps a domain's messages, and whose registers are the servo's. -/
theorem ServoActs.of_dom {f : PtpDom → PtpDom} (hdom : t.dom d = f (s.dom d)) (hregs : regsBut servoRegs s t)
    (hsync : ∀ x, (f x).syncDiff = x.syncDiff := by intros; rfl) (hwait : ∀ x, (f x).waiting = x.waiting := by intros; rfl)
    (hdelays : ∀ x, (f x).delays = x.delays := by intros; rfl) : ServoActs d s t := by
  constructor
  · rw [hdom, hsync]
  · rw [hdom, hwait]
  · rw [hdom, hdelays]
  · exact hregs

end

theorem servoActs_setPtpState (st : Nat) : ServoActs d s (setPtpState d st s) :=
  .of_dom (f := fun x => { x with inLock := 0, outLock := 0 }) (by simp [setPtpState])
    (by simp only [setPtpState, regsBut_raiseIf]; exact fun r i hr => reg_setFld_apart s d i st (by rintro rfl; simp [servoRegs] at hr))

theorem servoActs_setFreq (y : Int) : ServoActs d s (setFreq d y s) :=
  .of_dom (f := id) (by simp [setFreq]) (by
    simp only [setFreq]
    exact (regsBut_setReg (by simp [servoRegs]) _ _).2 (regsBut_of_regs (divFree_regs ..)))

theorem servoActs_setDom (f : PtpDom → PtpDom) (hsync : ∀ x, (f x).syncDiff = x.syncDiff := by intros; rfl)
    (hwait : ∀ x, (f x).waiting = x.waiting := by intros; rfl) (hdelays : ∀ x, (f x).delays = x.delays := by intros; rfl) :
    ServoActs d s (s.setDom d (f (s.dom d))) :=
  .of_dom (dom_setDom_same s d _) (regsBut_of_regs rfl) hsync hwait hdelays

theorem servoActs_stepDomClock (k : Int) : ServoActs d s (stepDomClock d k s) := by
  refine .of_dom (f := fun x => { x with time := ((x.time : Int) + k).toNat }) ?_ ?_ <;> simp only [stepDomClock] <;> split
  · rw [State.dom, setResid_dom]
    exact dom_setDom_same s d _
  · exact dom_setDom_same s d _
  · exact regsBut_of_regs (setResid_regs _ _)
  · exact regsBut_of_regs rfl

theorem servoActs_servoUpdate (th : Int) : ServoActs d s (servoUpdate d th s) :=
  (servoActs_setDom s d fun x => { x with integ := clampSym (s.freqMax d) (x.integ + (s.reg .PTP_SERVO_KI d).toNat * th) }).trans
    (servoActs_setFreq _ d _)

theorem servoActs_enterPtpLocked : ServoActs d s (enterPtpLocked d s) := by
  have locked := (servoActs_setPtpState s d 3).raise (ptpSrc d 0)
  simp only [enterPtpLocked]
  split
  · exact (locked.setFlag (by decide) 0 true).raise _
  · exact locked

theorem servoActs_acquiringOffset (th : Int) : ServoActs d s (acquiringOffset d th s) := by
  unfold acquiringOffset
  extract_lets n
  split
  · exact servoActs_enterPtpLocked s d
  · exact servoActs_setDom s d fun x => { x with inLock := n }

theorem servoActs_lockedOffset (th : Int) : ServoActs d s (lockedOffset d th s) := by
  unfold lockedOffset
  extract_lets n
  split
  · exact servoActs_setPtpState s d 2
  · exact servoActs_setDom s d fun x => { x with outLock := n }

theorem servoActs_servoStep (q : Int) : ServoActs d s (servoStep d q s) :=
  (((servoActs_setDom s d fun x => { x with inLock := 0 }).trans (servoActs_stepDomClock _ d (-q))).bump (by decide) d).raise
    (ptpSrc d 3)

theorem servoActs_servoOffset (th q : Int) : ServoActs d s (servoOffset d th q s) := by
  unfold servoOffset
  extract_lets t
  have acquired : ServoActs d s t := by
    simp only [t]
    split
    · exact servoActs_setPtpState s d 2
    · exact .refl d s
  (repeat' split)
  · exact acquired.trans (servoActs_servoStep t d q)
  · exact (acquired.trans (servoActs_servoUpdate t d th)).trans (servoActs_acquiringOffset _ d th)
  · exact (acquired.trans (servoActs_servoUpdate t d th)).trans (servoActs_lockedOffset _ d th)
  · exact acquired

theorem servoActs_tryAcquire : ServoActs d s (tryAcquire d s) := by
  unfold tryAcquire
  split
  · exact servoActs_setPtpState s d 2
  · exact .refl d s

/-! ### Offsets (R63) -/

/-- An offset taken gives t2 − t1 − c_s, and answers the Sync that waited. -/
theorem takeOffset_messages (t1 t2 : Nat) (c : Int) :
    ((takeOffset d t1 t2 c s).dom d).syncDiff = some (((t2 : Int) - t1) * 2 ^ 16 - c)
      ∧ ((takeOffset d t1 t2 c s).dom d).waiting = none := by
  unfold takeOffset
  extract_lets diff x s1
  have tried : ServoActs d _ s1 := servoActs_tryAcquire _ d
  have hsync : (s1.dom d).syncDiff = some diff := by rw [tried.syncDiff, dom_setDom_same]
  have hwait : (s1.dom d).waiting = none := by rw [tried.waiting, dom_setDom_same]
  split
  · exact ⟨hsync, hwait⟩
  · have acts := servoActs_servoOffset
      ((((s1.divFree (diff - (s1.dom d).mpd) (2 ^ 16)).2.bump .PTP_DOM_SYNC_CNT d).setReg .PTP_DOM_OFFSET d
        (BitVec.ofInt 32 (satSigned 32 (s1.divFree (diff - (s1.dom d).mpd) (2 ^ 16)).1)))) d (diff - (s1.dom d).mpd)
        (s1.divFree (diff - (s1.dom d).mpd) (2 ^ 16)).1
    refine ⟨acts.syncDiff.trans ?_, acts.waiting.trans ?_⟩
    · rw [dom_setReg, dom_bump, dom_divFree, hsync]
    · rw [dom_setReg, dom_bump, dom_divFree, hwait]

/-- With an MPD the offset is counted. -/
theorem takeOffset_counts (t1 t2 : Nat) (c : Int) (h : (s.dom d).delays ≠ []) :
    (takeOffset d t1 t2 c s).reg .PTP_DOM_SYNC_CNT d
      = BitVec.ofNat 32 (min (2 ^ 32 - 1) ((s.reg .PTP_DOM_SYNC_CNT d).toNat + 1)) := by
  unfold takeOffset
  extract_lets diff x s1
  have tried : ServoActs d _ s1 := servoActs_tryAcquire _ d
  have hdelays : (s1.dom d).delays ≠ [] := by
    rw [tried.delays, dom_setDom_same]
    exact h
  rw [if_neg hdelays]
  dsimp only
  rw [(servoActs_servoOffset _ d _ _).regs _ _ (by decide), reg_setReg_reg _ _ _ _ (by decide), reg_bump_same,
    reg_of_regs (divFree_regs ..), tried.regs _ _ (by decide)]
  rfl

/-! ### Sync (R61) -/

section
variable {s d}

theorem ptpSync_accepted {m : SyncMsg} (h : s.syncAccepted d m.port m.sender = true) :
    ptpSync d m s =
      let s1 := (notePort d m.port s).setFlag F.PTP_DOM_STAT_ON_PORT1 d (m.port == 1)
      let t2 := s.rxStamp d (s.ptpPort d m.port)
      if m.twoStep then s1.setDom d { s1.dom d with waiting := some ⟨m.port, m.sender, m.seq, t2, m.corr⟩ }
      else takeOffset d m.t1 t2 m.corr s1 := by
  have mine : (s.ptpState d != 0 && (s.dom d).master == some m.sender) = true := by
    simp only [State.syncAccepted, Bool.and_eq_true] at h
    exact Bool.and_eq_true_iff.2 h.1
  have hstamp : (notePort d m.port s).rxStamp d ((notePort d m.port s).ptpPort d m.port) = s.rxStamp d (s.ptpPort d m.port) := by
    simp only [State.rxStamp, notePort, dom_setDom_same]
    rfl
  simp only [ptpSync, h, mine, if_true, Bool.not_true, hstamp]
  rfl

end

/-! ### Delay_Resp (R63) -/

theorem tryAcquire_dreq : ((tryAcquire d s).dom d).dreq = (s.dom d).dreq := by
  unfold tryAcquire
  split
  · simp [setPtpState]
  · rfl

theorem regsButAt_tryAcquire : regsButAt [.PTP_DOM_MPD, .PTP_DOM_STAT] d s (tryAcquire d s) := by
  unfold tryAcquire
  split
  · simp only [setPtpState, regsButAt_raiseIf]
    exact fun r i hr => reg_setReg_ne _ _ fun e => hr (by simp [e])
  · simp

/-- The Delay_Resp that answers a request gives one sample, and ends the request. -/
theorem ptpDelayResp_answers {s : State} {d : Nat} {m : DelayRespMsg} {t3 : Nat} {sd : Int} (hdreq : (s.dom d).dreq = some t3)
    (hsync : (s.dom d).syncDiff = some sd) (hst : s.ptpState d ≠ 0) (hmaster : (s.dom d).master = some m.sender)
    (hseq : (s.dom d).dreqSeq = m.seq) :
    ∃ u, ptpDelayResp d m s = tryAcquire d u
      ∧ (u.dom d).delays = ((sd + (((m.t4 : Int) - t3) * 2 ^ 16 - m.corr)) :: (s.dom d).delays).take 16
      ∧ (u.dom d).dreq = none ∧ regsButAt [.PTP_DOM_MPD, .PTP_DOM_STAT] d s u := by
  have mine : (s.ptpState d != 0 && (s.dom d).master == some m.sender && (s.dom d).dreqSeq == m.seq) = true := by
    simp [hst, hmaster, hseq]
  refine ⟨_, by simp only [ptpDelayResp, hdreq, hsync]; exact if_pos mine, by simp, by simp, ?_⟩
  refine (regsButAt_setReg_iff (by simp) _).2 (regsButAt_of_regs ?_)
  exact (divFree_regs ..).trans (divFree_regs ..)

/-- Settles O14: a message's own effect comes first, and the servo that acts on it keeps it (`ServoActs`). -/
theorem ptpMessagesGiveOffsetsAndDelays : Obligations.PtpMessagesGiveOffsetsAndDelays := by
  refine ⟨?oneStep, ?twoStep, ?followUp, ?request, ?response⟩
  case oneStep =>
    intro d m s hacc htwo
    refine ⟨_, congrArg Host.Outcome.next (ptpSync_accepted hacc), ?_⟩
    simp only [htwo]
    refine ⟨(takeOffset_messages _ d _ _ _).1, fun h => ?_, by simp, by simp⟩
    refine (takeOffset_counts _ d _ _ _ ?_).trans ?_
    · simpa [notePort] using h
    · rw [reg_setFlag_apart _ _ _ _ (by decide)]
      rfl
  case twoStep =>
    intro d m s hacc htwo
    refine ⟨_, congrArg Host.Outcome.next (ptpSync_accepted hacc), ?_⟩
    simp only [htwo, if_true]
    refine ⟨by simp, by simp [notePort], ?_, rfl, rfl, rfl⟩
    exact fun r i hr => reg_setReg_ne _ _ fun e => hr (by simp [e])
  case followUp =>
    intro d m w s hwait hst hport hsender hseq
    have heq : ptpFollowUp d m s = takeOffset d m.t1 w.t2 (w.corr + m.corr) s := by
      simp [ptpFollowUp, hwait, hst, hport, hsender, hseq]
    obtain ⟨hsync, hnone⟩ := takeOffset_messages s d m.t1 w.t2 (w.corr + m.corr)
    exact ⟨_, congrArg Host.Outcome.next heq, hsync, hnone, by simp, by simp⟩
  case request =>
    intro d s hst hmaster hport hup hpaused
    have heq : ptpDelayReqTx d s = sendDelayReq d (s.ptpPort d (if s.flag F.PTP_DOM_STAT_ON_PORT1 d then 1 else 0)) s := by
      have hsome : (s.dom d).master.isNone = false := by simpa using Option.isSome_iff_ne_none.2 hmaster
      simp [ptpDelayReqTx, hst, hsome, not_lt.2 hport, hup, hpaused]
    exact ⟨_, congrArg Host.Outcome.next heq, by simp [sendDelayReq], by simp [sendDelayReq], rfl, rfl, rfl, rfl⟩
  case response =>
    intro d m t3 sd s hdreq hsync hst hmaster hseq
    obtain ⟨u, heq, hdelays, hdone, hregs⟩ := ptpDelayResp_answers (m := m) hdreq hsync hst hmaster hseq
    have tried := servoActs_tryAcquire u d
    refine ⟨_, congrArg Host.Outcome.next heq, ?_, ?_, ?_, ?_⟩
    · rw [tried.delays, hdelays]
    · rw [tryAcquire_dreq, hdone]
    · exact regsButAt_trans hregs (regsButAt_tryAcquire u d)
    · rw [← heq]
      exact ⟨ptpDelayResp_pending d m s, ptpDelayResp_mem d m s⟩

/-! ### The domain that Event Time follows (R72 to R74) -/

theorem setResid_ptp (r : Int) (s : State) : (setResid r s).ptp = { s.ptp with resid := r, rfrac := 0 } := by
  simp [setResid]

theorem etDoSwitch_target (s : State) : (etDoSwitch s).ptp.target = s.ptp.target := by
  simp only [etDoSwitch]
  split
  · rw [setResid_ptp]
    rfl
  · rfl

theorem etFollow_target (s : State) : (etFollow s).ptp.target
    = etTarget (s.fld F.PTP_ET_CFG_SEL 0) (s.fld F.REF_SEL_STAT_PIN 0) s.ptp.target := by
  simp only [etFollow, etRetarget]
  split
  · exact Eq.symm ‹_›
  · (repeat' split)
    · rfl
    · exact etDoSwitch_target _
    · rfl

/-- While ET_VALID, the switch keeps Event Time: the residual takes up the difference of the two clocks (R73). -/
theorem etDoSwitch_etFull {s : State} (htarget : s.ptp.target ≤ 1) (hvalid : s.etValid = true) :
    (etDoSwitch s).etFull = s.etFull ∧ (etDoSwitch s).curDom = s.ptp.target
      ∧ (etDoSwitch s).flag F.PTP_ET_STAT_PENDING 0 = false := by
  have hdo : etDoSwitch s = setResid (s.ptp.resid + ((s.dom s.ptp.target).time : Int) - ((s.dom s.curDom).time : Int))
      { (s.setFld F.PTP_ET_STAT_CUR_DOM 0 s.ptp.target).setFlag F.PTP_ET_STAT_PENDING 0 false with
        ptp := { s.ptp with rfrac := s.ptp.rfrac } } := by
    simp only [etDoSwitch, hvalid, if_true]
    rfl
  have hcur : (etDoSwitch s).curDom = s.ptp.target := by
    rw [hdo, State.curDom, fld_of_regs (setResid_regs ..)]
    change ((s.setFld F.PTP_ET_STAT_CUR_DOM 0 s.ptp.target).setFlag F.PTP_ET_STAT_PENDING 0 false).fld _ 0 = _
    rw [fld_setFlag_apart _ (by decide) (by decide), fld_setFld_same _ (by decide)]
    exact Nat.mod_eq_of_lt (show s.ptp.target < 2 by omega)
  refine ⟨?_, hcur, ?_⟩
  · have hdom : (etDoSwitch s).dom s.ptp.target = s.dom s.ptp.target := by
      rw [State.dom, hdo, setResid_dom]
      rfl
    rw [State.etFull, hcur, hdom, hdo, setResid_ptp, State.etFull]
    dsimp only
    omega
  · rw [hdo, flag_of_regs (setResid_regs ..)]
    exact flag_setFlag_same _ (by decide) rfl 0 false

/-! ### The slew (R73) -/

theorem runDom_resid (s : State) (d ns : Nat) : (s.runDom d ns).ptp.resid = s.ptp.resid ∧ (s.runDom d ns).ptp.rfrac = s.ptp.rfrac := by
  unfold State.runDom
  split <;> exact ⟨rfl, rfl⟩

theorem le_ceilDiv_mul (a : Nat) {b : Nat} (hb : 1 ≤ b) : a ≤ ceilDiv a b * b := by
  have h := Nat.div_add_mod (a + (b - 1)) b
  have hlt := Nat.mod_lt (a + (b - 1)) hb
  rw [ceilDiv, Nat.mul_comm]
  omega

/-- After the time that the slew takes, no residual is left. -/
theorem slewResid_ends (r : Int) (frac : Nat) {rate : Nat} (h : 1 ≤ rate) :
    slewResid r frac rate (ceilDiv (r.natAbs * 1000000000 - frac) rate) = (0, 0) := by
  have hstep := le_ceilDiv_mul (r.natAbs * 1000000000 - frac) h
  refine if_pos ((Nat.le_div_iff_mul_le (by decide)).2 ?_)
  omega

theorem slewEt_ends {s : State} {ns : Nat} (hr : s.ptp.resid ≠ 0)
    (h : slewResid s.ptp.resid s.ptp.rfrac (s.fld F.PTP_ET_CFG_SLEW_NS 0) ns = (0, 0)) :
    (slewEt ns s).ptp.resid = 0 ∧ (slewEt ns s).isSet Src.PTP_ET_SWITCH = true := by
  simp only [slewEt, if_neg hr, h, if_true]
  exact ⟨by simp, isSet_raise_same _ (by decide)⟩

/-- The slew ends with R = 0, and is reported (R73). -/
theorem etSlewEnd_ends {s : State} (hr : s.ptp.resid ≠ 0) (hrate : 1 ≤ s.fld F.PTP_ET_CFG_SLEW_NS 0) :
    (etSlewEnd s).ptp.resid = 0 ∧ (etSlewEnd s).isSet Src.PTP_ET_SWITCH = true := by
  simp only [etSlewEnd, if_neg hr, elapse]
  generalize hns : ceilDiv (s.ptp.resid.natAbs * 1000000000 - s.ptp.rfrac) (s.fld F.PTP_ET_CFG_SLEW_NS 0) = ns
  obtain ⟨hr0, hf0⟩ := runDom_resid { s with now := s.now + ns } 0 ns
  obtain ⟨hr1, hf1⟩ := runDom_resid (({ s with now := s.now + ns } : State).runDom 0 ns) 1 ns
  have hfld : ((({ s with now := s.now + ns } : State).runDom 0 ns).runDom 1 ns).fld F.PTP_ET_CFG_SLEW_NS 0
      = s.fld F.PTP_ET_CFG_SLEW_NS 0 := fld_of_regs (by simp) _ _
  refine slewEt_ends (by rw [hr1, hr0]; exact hr) ?_
  rw [hr1, hr0, hf1, hf0, hfld, ← hns]
  exact slewResid_ends _ _ hrate

theorem etSlewEnd_regs (s : State) : (etSlewEnd s).regs = s.regs := by
  simp only [etSlewEnd]
  split <;> simp

/-- Settles O15: the switch keeps Event Time (`etDoSwitch_etFull`), the slew ends (`etSlewEnd_ends`). -/
theorem eventTimeNeverStepsUnasked : Obligations.EventTimeNeverStepsUnasked := by
  refine ⟨?taken, ?ignored, ?switch, ?slew, ?step, ?read⟩
  case taken =>
    intro v s hsel hlo hhi
    have hok : ¬ (F.PTP_ET_CFG_SEL.of v = 3 ∨ F.PTP_ET_CFG_SLEW_NS.of v = 0 ∨ 10000 < F.PTP_ET_CFG_SLEW_NS.of v) := by omega
    have hkind : RegName.PTP_ET_CFG.info.kind = .plain := rfl
    have frame := regsBut_etFollow (plainWrite .PTP_ET_CFG 0 v s)
    have hselW : (plainWrite .PTP_ET_CFG 0 v s).fld F.PTP_ET_CFG_SEL 0 = F.PTP_ET_CFG_SEL.of v :=
      fld_plainWrite (f := F.PTP_ET_CFG_SEL) hkind (by decide) 0 v s
    refine ⟨_, congrArg Host.Outcome.next (if_neg hok), ?_, ?_, ?_, ?_, by simp, by simp⟩
    · rw [frame.fld (by decide), hselW]
    · rw [frame.fld (by decide)]
      exact fld_plainWrite (f := F.PTP_ET_CFG_SLEW_NS) hkind (by decide) 0 v s
    · rw [etFollow_target, hselW, fld_plainWrite_apart hkind (by decide), plainWrite_of_plain hkind]
      rfl
    · exact regsBut_trans (by simp [hkind]) (regsBut_mono (by simp) frame)
  case ignored =>
    intro v s hbad
    exact ⟨_, congrArg Host.Outcome.next (if_pos hbad), reject_regs s .PTP, reject_ptp s .PTP, isSet_reject s .PTP, by simp, by simp⟩
  case switch =>
    intro s hpending hlocked htarget hvalid
    obtain ⟨hfull, hcur, hdone⟩ := etDoSwitch_etFull htarget hvalid
    exact ⟨_, congrArg Host.Outcome.next (if_pos ⟨hpending, hlocked⟩), hfull, hcur, hdone, regsBut_etDoSwitch s, by simp, by simp⟩
  case slew =>
    intro s hr hrate
    obtain ⟨hzero, hset⟩ := etSlewEnd_ends hr hrate
    exact ⟨_, rfl, hzero, hset, etSlewEnd_regs s, by simp, by simp⟩
  case step =>
    intro s
    refine ⟨_, congrArg Host.Outcome.next (if_pos (by decide)), ?_, isSet_raise_same _ (by decide), by simp, ?_, by simp, by simp⟩
    · rw [raise_ptp, setResid_ptp]
    · simp [setResid]
  case read =>
    intro m s
    refine ⟨_, rfl, AMap.find?_set_same _ _ _, ?_, ?_, ?_, rfl, rfl, rfl⟩
    · simp (disch := decide) only [etReadTo, reg_respond, reg_setReg_reg, reg_setReg_same]
    · simp (disch := decide) only [etReadTo, reg_respond, reg_setReg_same]
    · refine (regsBut_iff_of_regsBut (regsBut_of_regs (respond_regs _ _ _))).2 ?_
      simp

end Sys2Proof.Machine
end

section
/-!
PROOFS. The cue instructions that change their thread's registers and flags alone (R225, R228, R230).
-/

namespace Sys2Proof.Machine

/-! ### General registers (R225) -/

namespace ThrCtx
variable (c : ThrCtx) (i : Nat) (v : Word)

@[simp] theorem setG_pc : (c.setG i v).pc = c.pc := by unfold setG; split <;> rfl
@[simp] theorem setG_z : (c.setG i v).z = c.z := by unfold setG; split <;> rfl
@[simp] theorem setG_n : (c.setG i v).n = c.n := by unfold setG; split <;> rfl
@[simp] theorem setG_c : (c.setG i v).c = c.c := by unfold setG; split <;> rfl
@[simp] theorem setG_t : (c.setG i v).t = c.t := by unfold setG; split <;> rfl
@[simp] theorem setG_stack : (c.setG i v).stack = c.stack := by unfold setG; split <;> rfl

theorem val_setG_same (h : i ≠ 0) : (c.setG i v).val i = v := by
  simp [val, setG, h]

theorem val_setG_ne {r : Nat} (h : r ≠ i) : (c.setG i v).val r = c.val r := by
  unfold setG
  split
  · rfl
  · simp [val, AMap.get_set_ne _ _ _ h]

theorem val_of_g {c e : ThrCtx} (h : e.g = c.g) (r : Nat) : e.val r = c.val r := by
  rw [val, val, h]

end ThrCtx

/-- A register written, and nothing else of the general registers, is what `sets` says. -/
theorem sets_of_setG {d : Nat} {v : Word} {c e y : ThrCtx} (hy : y.g = (e.setG d v).g) (he : e.g = c.g) : sets d v c y := by
  intro r
  rw [ThrCtx.val_of_g hy]
  by_cases hr : r = d
  · subst hr
    by_cases h0 : r = 0
    · simp [h0, ThrCtx.val]
    · rw [if_pos ⟨rfl, h0⟩, ThrCtx.val_setG_same _ _ _ h0]
  · rw [if_neg (fun h => hr h.1), ThrCtx.val_setG_ne _ _ _ hr, ThrCtx.val_of_g he]

theorem sets_of_next {d : Nat} {v : Word} {c y : ThrCtx} (hy : y.g = (({ c with pc := c.pc + 1 } : ThrCtx).setG d v).g) :
    sets d v c y :=
  sets_of_setG hy rfl

/-! ### Instructions that go on at the following one -/

/-- An instruction but BR, CALL and RET goes on at the following one. -/
theorem stepped_ctx_of_not_branch {s : State} {t op : Nat} {x : Thread} {w : Word} (h : s.standsAt t op x w)
    (hop : op < 0x10 ∨ 0x12 < op) : (x.stepped w).ctx = { x.ctx with pc := x.ctx.pc + 1 } := by
  obtain ⟨-, -, -, rfl, -⟩ := h
  refine stepped_ctx_of_not_taken ?_
  simp only [cueTaken, Bool.and_eq_false_iff, decide_eq_false_iff_not]
  exact .inl (by omega)

section
variable {t : Nat} {x : Thread} {w : Word} {s : State}

/-- An instruction that changes its thread's context by `f`. -/
theorem ranAlone_of_ctx {op : Nat} (h : s.standsAt t op x w) (hop : op < 0x10 ∨ 0x12 < op) (f : ThrCtx → Word → ThrCtx → ThrCtx) :
    ∃ y, ranAlone t x y s (completeOp op t (fun c w => setCtx t (f c w)) s)
      ∧ y.ctx = f x.ctx w { x.ctx with pc := x.ctx.pc + 1 } := by
  obtain ⟨y, hy, hctx⟩ := ranAlone_completeOp_setCtx h f
  exact ⟨y, hy, by rw [hctx, stepped_ctx_of_not_branch h hop]⟩

end

/-! ### Sums and differences (R230) -/

/-- Settles O36: each of the five is a change of its thread's context (`ranAlone_of_ctx`), which goes on at the next word. -/
theorem cueArithmeticAndFlags : Obligations.CueArithmeticAndFlags := by
  refine ⟨fun t x w s h => ?add, fun t x w s h => ?addi, fun t x w s h => ?sub, fun t x w s h => ?cmp, fun t x w s h => ?cmpi⟩
  case add =>
    obtain ⟨y, hy, hctx⟩ := ranAlone_of_ctx h (by decide) fun c w e =>
      (e.setG (cueD w) (c.val (cueA w) + c.val (cueB w))).addFlags (c.val (cueA w)) (c.val (cueB w))
    exact ⟨_, y, rfl, hy, sets_of_next (by rw [hctx]; rfl), by rw [hctx]; simp [ThrCtx.addFlags, ThrCtx.zn]⟩
  case addi =>
    obtain ⟨y, hy, hctx⟩ := ranAlone_of_ctx h (by decide) fun c w e =>
      (e.setG (cueD w) (c.val (cueA w) + cueSimm14 w)).addFlags (c.val (cueA w)) (cueSimm14 w)
    exact ⟨_, y, rfl, hy, sets_of_next (by rw [hctx]; rfl), by rw [hctx]; simp [ThrCtx.addFlags, ThrCtx.zn]⟩
  case sub =>
    obtain ⟨y, hy, hctx⟩ := ranAlone_of_ctx h (by decide) fun c w e =>
      (e.setG (cueD w) (c.val (cueA w) - c.val (cueB w))).subFlags (c.val (cueA w)) (c.val (cueB w))
    exact ⟨_, y, rfl, hy, sets_of_next (by rw [hctx]; rfl), by rw [hctx]; simp [ThrCtx.subFlags]; exact ⟨rfl, rfl⟩⟩
  case cmp =>
    obtain ⟨y, hy, hctx⟩ := ranAlone_of_ctx h (by decide) fun c w e => e.subFlags (c.val (cueA w)) (c.val (cueB w))
    exact ⟨_, y, rfl, hy, hctx⟩
  case cmpi =>
    obtain ⟨y, hy, hctx⟩ := ranAlone_of_ctx h (by decide) fun c w e => e.subFlags (c.val (cueA w)) (cueSimm14 w)
    exact ⟨_, y, rfl, hy, hctx⟩

/-! ### Logic, shifts and constants (R230) -/

/-- A register written with Z and N from the value. -/
theorem logic_result {d : Nat} {v : Word} {c : ThrCtx} {y : ThrCtx}
    (hy : y = ((({ c with pc := c.pc + 1 } : ThrCtx).setG d v).zn v)) :
    sets d v c y ∧ y = { c with pc := c.pc + 1, g := y.g, z := v == 0, n := v.getLsbD 31 } := by
  refine ⟨sets_of_next (by rw [hy]; rfl), ?_⟩
  rw [hy]
  simp [ThrCtx.zn]

/-- A register written, and no flag. -/
theorem load_result {d : Nat} {v : Word} {c : ThrCtx} {y : ThrCtx} (hy : y = ({ c with pc := c.pc + 1 } : ThrCtx).setG d v) :
    sets d v c y ∧ y = { c with pc := c.pc + 1, g := y.g } := by
  refine ⟨sets_of_next (by rw [hy]), ?_⟩
  rw [hy]
  unfold ThrCtx.setG
  split <;> rfl

section
variable {t op : Nat} {x : Thread} {w : Word} {s : State} (h : s.standsAt t op x w) (hop : op < 0x10 ∨ 0x12 < op)
include h hop

theorem ranAlone_logicOp (f : Word → Word → Word) {v : Word} (hv : v = f (x.ctx.val (cueA w)) (x.ctx.val (cueB w))) :
    ∃ y, ranAlone t x y s (logicOp op t f s) ∧ sets (cueD w) v x.ctx y.ctx
      ∧ y.ctx = { x.ctx with pc := x.ctx.pc + 1, g := y.ctx.g, z := v == 0, n := v.getLsbD 31 } := by
  obtain ⟨y, hy, hctx⟩ := ranAlone_of_ctx h hop fun c w e =>
    (e.setG (cueD w) (f (c.val (cueA w)) (c.val (cueB w)))).zn (f (c.val (cueA w)) (c.val (cueB w)))
  exact ⟨y, hy, logic_result (hv ▸ hctx)⟩

theorem ranAlone_shiftOp (f : Word → Nat → Word) {v : Word}
    (hv : v = f (x.ctx.val (cueA w)) (((x.ctx.val (cueB w)).toNat + cueImm14 w) % 32)) :
    ∃ y, ranAlone t x y s (shiftOp op t f s) ∧ sets (cueD w) v x.ctx y.ctx
      ∧ y.ctx = { x.ctx with pc := x.ctx.pc + 1, g := y.ctx.g, z := v == 0, n := v.getLsbD 31 } := by
  obtain ⟨y, hy, hctx⟩ := ranAlone_of_ctx h hop fun c w e =>
    (e.setG (cueD w) (f (c.val (cueA w)) ((c.val (cueB w) + BitVec.ofNat 32 (cueImm14 w)).toNat % 32))).zn
      (f (c.val (cueA w)) ((c.val (cueB w) + BitVec.ofNat 32 (cueImm14 w)).toNat % 32))
  have count : (x.ctx.val (cueB w) + BitVec.ofNat 32 (cueImm14 w)).toNat % 32
      = ((x.ctx.val (cueB w)).toNat + cueImm14 w) % 32 := by
    rw [BitVec.toNat_add, BitVec.toNat_ofNat]
    omega
  rw [count, ← hv] at hctx
  exact ⟨y, hy, logic_result hctx⟩

end

/-- The word of LDHI: the low 16 bits of imm22 above the low 16 bits of gd. -/
theorem ldhi_word (g w : Word) : BitVec.ofNat 32 (bitsOf w.toNat 0 16 * 2 ^ 16 + g.toNat % 2 ^ 16)
    = (g &&& 0xFFFF#32) ||| BitVec.ofNat 32 (cueImm22 w) <<< 16 := by
  apply BitVec.eq_of_toNat_eq
  have low : (g &&& 0xFFFF#32).toNat = g.toNat % 2 ^ 16 := by
    rw [BitVec.toNat_and, show (0xFFFF#32).toNat = 2 ^ 16 - 1 from rfl, Nat.and_two_pow_sub_one_eq_mod]
  have high : (BitVec.ofNat 32 (cueImm22 w) <<< 16).toNat = bitsOf w.toNat 0 16 <<< 16 := by
    rw [BitVec.toNat_shiftLeft, BitVec.toNat_ofNat, Nat.shiftLeft_eq, Nat.shiftLeft_eq]
    simp only [cueImm22, bitsOf, Nat.pow_zero, Nat.div_one]
    omega
  rw [BitVec.toNat_or, low, high, Nat.or_comm, ← Nat.shiftLeft_add_eq_or_of_lt (Nat.mod_lt _ (by decide)), Nat.shiftLeft_eq,
    BitVec.toNat_ofNat, Nat.mod_eq_of_lt]
  simp only [bitsOf]
  omega

/-- Settles O37: logic and shifts share their result (`logic_result`), the loads of constants theirs (`load_result`). -/
theorem cueLogicShiftsAndConstants : Obligations.CueLogicShiftsAndConstants := by
  refine fun t x w v s => ⟨fun h hv => ?and, fun h hv => ?or, fun h hv => ?xor, fun h hv => ?shl, fun h hv => ?shr,
    fun h hv => ?ldi, fun h hv => ?ldhi⟩
  case and => exact (ranAlone_logicOp h (by decide) (· &&& ·) hv).elim fun y hy => ⟨_, y, rfl, hy⟩
  case or => exact (ranAlone_logicOp h (by decide) (· ||| ·) hv).elim fun y hy => ⟨_, y, rfl, hy⟩
  case xor => exact (ranAlone_logicOp h (by decide) (· ^^^ ·) hv).elim fun y hy => ⟨_, y, rfl, hy⟩
  case shl => exact (ranAlone_shiftOp h (by decide) (fun a k => a <<< k) hv).elim fun y hy => ⟨_, y, rfl, hy⟩
  case shr => exact (ranAlone_shiftOp h (by decide) (fun a k => a >>> k) hv).elim fun y hy => ⟨_, y, rfl, hy⟩
  case ldi =>
    obtain ⟨y, hy, hctx⟩ := ranAlone_of_ctx h (by decide) fun _ w e => e.setG (cueD w) (cueSimm22 w)
    exact ⟨_, y, rfl, hy, load_result (hv ▸ hctx)⟩
  case ldhi =>
    obtain ⟨y, hy, hctx⟩ := ranAlone_of_ctx h (by decide) fun c w e =>
      e.setG (cueD w) (BitVec.ofNat 32 (bitsOf w.toNat 0 16 * 2 ^ 16 + (c.val (cueD w)).toNat % 2 ^ 16))
    rw [ldhi_word, ← hv] at hctx
    exact ⟨_, y, rfl, hy, load_result hctx⟩

end Sys2Proof.Machine
end

section
/-!
SUPPORT. A cue instruction that completes (R217, R226): the state its effect acts on, the budget stop that follows it, and what both
leave unchanged.
-/

namespace Sys2Proof.Machine

/-! ### Time passes -/

/-- Two states agree but for the clocks and the fault registers with ALERT_N, which the end of a slew may set (R73). -/
def onlyTime (s t : State) : Prop := t = { s with now := t.now, ptp := t.ptp, flt := t.flt, alertLow := t.alertLow }

theorem onlyTime_trans {s t u : State} (h : onlyTime s t) (g : onlyTime t u) : onlyTime s u := by
  unfold onlyTime at h g ⊢
  rw [g, h]

theorem onlyTime_runDom (s : State) (d ns : Nat) : onlyTime s (s.runDom d ns) := by
  unfold State.runDom
  split <;> rfl

theorem onlyTime_raise (s : State) (x : Src) : onlyTime s (s.raise x) := by
  have h := onlyRegs_raise s x
  unfold onlyRegs at h
  unfold onlyTime
  rw [h, raise_regs]

theorem onlyTime_slewEt (ns : Nat) (s : State) : onlyTime s (slewEt ns s) := by
  simp only [slewEt]
  split
  · rfl
  · split
    · exact onlyTime_trans (t := { s with ptp := _ }) rfl (onlyTime_raise _ _)
    · rfl

theorem onlyTime_elapse (ns : Nat) (s : State) : onlyTime s (elapse ns s) :=
  onlyTime_trans (t := { s with now := s.now + ns }) rfl
    (onlyTime_trans (onlyTime_runDom _ 0 ns) (onlyTime_trans (onlyTime_runDom _ 1 ns) (onlyTime_slewEt ns _)))

theorem onlyTime_passTo (i : Int) (s : State) : onlyTime s (passTo i s) := onlyTime_elapse _ s

section
variable (i : Int) (s : State)

@[simp] theorem passTo_td : (passTo i s).td = s.td := by rw [onlyTime_passTo i s]
@[simp] theorem passTo_snap : (passTo i s).snap = s.snap := by rw [onlyTime_passTo i s]
@[simp] theorem passTo_owner : (passTo i s).owner = s.owner := by rw [onlyTime_passTo i s]
@[simp] theorem passTo_wcomp : (passTo i s).wcomp = s.wcomp := by rw [onlyTime_passTo i s]
@[simp] theorem passTo_xpt : (passTo i s).xpt = s.xpt := by rw [onlyTime_passTo i s]
@[simp] theorem passTo_aud : (passTo i s).aud = s.aud := by rw [onlyTime_passTo i s]

end

/-! ### The state that an instruction's effect acts on -/

/-- The state after the cycles of the instruction `w` that thread `t` stands at as `x`. -/
def State.issued (s : State) (t : Nat) (x : Thread) (w : Word) : State :=
  (passTo (x.clock + (cueCost x.ctx w : Nat)) s).setThread t (x.stepped w)

section
variable {t op : Nat} {x : Thread} {w : Word} {s : State}

theorem completeOp_eq_of_standsAt (h : s.standsAt t op x w) (act : ThrCtx → Word → State → State) :
    completeOp op t act s = budgetStop t (act x.ctx w (s.issued t x w)) := by
  obtain ⟨hthread, hst, hfetch, hop, hfault, f, hopened, hends⟩ := h
  have goesOn : ¬ (x.st ≠ 2 ∨ (cueOp w ≠ op ∧ cueOpListed (cueOp w) = true)
      ∨ f.shutter ≤ x.clock + (cueCost x.ctx w : Nat)) := by
    rintro (hrun | ⟨hother, -⟩ | hlate)
    · exact hrun hst
    · exact hother hop
    · exact absurd hends (not_lt.2 hlate)
  simp only [completeOp, hthread, hopened, hfetch, hfault, if_neg goesOn, ne_eq, not_true_eq_false, if_false]
  rfl

variable (s t x w)

theorem issued_cue : (s.issued t x w).cue = { s.cue with thr := s.cue.thr.set t (x.stepped w) } := by
  rw [State.issued, State.setThread, passTo_cue]
@[simp] theorem issued_thread? : (s.issued t x w).thread? t = some (x.stepped w) := thread?_setThread_same _ _ _
theorem issued_thread?_ne {k : Nat} (hk : k ≠ t) : (s.issued t x w).thread? k = s.thread? k :=
  (thread?_setThread_ne _ _ hk).trans (thread?_of_cue (passTo_cue _ s) k)
@[simp] theorem issued_regs : (s.issued t x w).regs = s.regs := passTo_regs _ s
@[simp] theorem issued_reg (r : RegName) (i : Nat) : (s.issued t x w).reg r i = s.reg r i := reg_of_regs (issued_regs ..) r i
@[simp] theorem issued_fld (f : Fld) (i : Nat) : (s.issued t x w).fld f i = s.fld f i := by rw [fld_eq, fld_eq, issued_reg]
@[simp] theorem issued_flag (f : Fld) (i : Nat) : (s.issued t x w).flag f i = s.flag f i := by rw [State.flag, State.flag, issued_fld]
@[simp] theorem issued_mem : (s.issued t x w).mem = s.mem := passTo_mem _ s
@[simp] theorem issued_pending : (s.issued t x w).pending = s.pending := passTo_pending _ s
@[simp] theorem issued_tq : (s.issued t x w).cue.tq = s.cue.tq := by rw [issued_cue]
@[simp] theorem issued_gpo : (s.issued t x w).cue.gpo = s.cue.gpo := by rw [issued_cue]
@[simp] theorem issued_td : (s.issued t x w).td = s.td := passTo_td _ s
@[simp] theorem issued_snap : (s.issued t x w).snap = s.snap := passTo_snap _ s
@[simp] theorem issued_owner : (s.issued t x w).owner = s.owner := passTo_owner _ s
@[simp] theorem issued_wcomp : (s.issued t x w).wcomp = s.wcomp := passTo_wcomp _ s
@[simp] theorem issued_xpt : (s.issued t x w).xpt = s.xpt := passTo_xpt _ s
@[simp] theorem issued_aud : (s.issued t x w).aud = s.aud := passTo_aud _ s
@[simp] theorem issued_thrOut (k : Nat) : (s.issued t x w).thrOut k = s.thrOut k := issued_fld ..
@[simp] theorem issued_thrTd (k : Nat) : (s.issued t x w).thrTd k = s.thrTd k := issued_fld ..
@[simp] theorem issued_tdOf (n : Nat) : (s.issued t x w).tdOf n = s.tdOf n := by rw [State.tdOf, State.tdOf, issued_td]
@[simp] theorem issued_visibleTake (o : Nat) : (s.issued t x w).visibleTake o = s.visibleTake o := by
  rw [State.visibleTake, State.visibleTake, issued_tq]
@[simp] theorem issued_layer (l : Nat) : (s.issued t x w).layer l = s.layer l := by rw [State.layer, State.layer, issued_wcomp]

end

/-! ### The budget stop (R206) -/

/-- The end of a run changes its thread, its engine's free instant and the domain's slack. -/
theorem endRun_eq (t : Nat) (x : Thread) (s : State) : endRun t x s = { s with cue := { s.cue with
    thr := (endRun t x s).cue.thr, engFree := (endRun t x s).cue.engFree, slackNow := (endRun t x s).cue.slackNow } } := by
  unfold endRun
  split <;> rfl

theorem onlyRegs_countBover (t : Nat) (s : State) : onlyRegs s (countBover t s) := by
  simp [countBover]

section
variable (t : Nat) (u : State)

theorem budgetStop_eq : budgetStop t u = { u with
    regs := (budgetStop t u).regs, flt := (budgetStop t u).flt, alertLow := (budgetStop t u).alertLow,
    cue := { u.cue with thr := (budgetStop t u).cue.thr, engFree := (budgetStop t u).cue.engFree,
                        slackNow := (budgetStop t u).cue.slackNow } } := by
  simp only [budgetStop, stopRun]
  split
  · rfl
  · split
    · split
      · rfl
      · have h := onlyRegs_countBover t (endRun t { ‹Thread› with st := 1, bover := true, boverNow := true } u)
        unfold onlyRegs at h
        rw [h, endRun_eq]
    · rfl

@[simp] theorem budgetStop_wcomp : (budgetStop t u).wcomp = u.wcomp := by rw [budgetStop_eq]
@[simp] theorem budgetStop_xpt : (budgetStop t u).xpt = u.xpt := by rw [budgetStop_eq]
@[simp] theorem budgetStop_aud : (budgetStop t u).aud = u.aud := by rw [budgetStop_eq]
@[simp] theorem budgetStop_tq : (budgetStop t u).cue.tq = u.cue.tq := by rw [budgetStop_eq]
@[simp] theorem budgetStop_gpo : (budgetStop t u).cue.gpo = u.cue.gpo := by rw [budgetStop_eq]
@[simp] theorem budgetStop_layer (l : Nat) : (budgetStop t u).layer l = u.layer l := by
  rw [State.layer, State.layer, budgetStop_wcomp]
@[simp] theorem budgetStop_routes (o : Nat) : (budgetStop t u).routes o = u.routes o := by
  rw [State.routes, State.routes, budgetStop_xpt]

theorem regsBut_budgetStop : regsBut [.CUE_THR_STAT, .CUE_THR_BOVER, .CUE_BUDGET_OVER_CNT] u (budgetStop t u) := by
  simp only [budgetStop, stopRun]
  split
  · exact regsBut_refl
  · split
    · split
      · exact regsBut_refl
      · exact regsBut_trans (regsBut_of_regs (endRun_regs ..)) (regsBut_countBover _ _)
    · exact regsBut_refl

theorem keepsSet_budgetStop : KeepsSet u (budgetStop t u) := by
  simp only [budgetStop, stopRun]
  split
  · exact keepsSet_refl u
  · split
    · split
      · exact keepsSet_refl u
      · exact ((((keepsSet_of_flt (by rw [endRun_eq])).setFlag _ _ _).bump _ _).bump _ _).raise _
    · exact keepsSet_refl u

end

/-! ### What `ran` and `ranAlone` ask of an effect -/

/-- From `s` to `u` thread `t` becomes `z`, and no other thread and no queued command changes. -/
structure ThreadActs (t : Nat) (z : Thread) (s u : State) : Prop where
  thread : u.thread? t = some z
  others : ∀ k, k ≠ t → u.thread? k = s.thread? k
  pending : u.pending = s.pending

section
variable {t op : Nat} {x y z : Thread} {w : Word} {s u v : State}

theorem threadActs_issued : ThreadActs t (x.stepped w) s (s.issued t x w) :=
  ⟨issued_thread? .., fun _ => issued_thread?_ne _ _ _ _, issued_pending ..⟩

theorem ThreadActs.of_cue (h : ThreadActs t y s u) (hcue : v.cue.thr = u.cue.thr) (hpend : v.pending = u.pending) :
    ThreadActs t y s v := by
  have same (k : Nat) : v.thread? k = u.thread? k := by rw [State.thread?, State.thread?, hcue]
  exact ⟨(same t).trans h.thread, fun k hk => (same k).trans (h.others k hk), hpend.trans h.pending⟩

theorem ThreadActs.setThread (h : ThreadActs t y s u) (z : Thread) : ThreadActs t z s (u.setThread t z) :=
  ⟨thread?_setThread_same u t z, fun k hk => (thread?_setThread_ne u z hk).trans (h.others k hk), h.pending⟩

theorem ThreadActs.setCtx (h : ThreadActs t y s u) (f : ThrCtx → ThrCtx) :
    ThreadActs t { y with ctx := f y.ctx } s (setCtx t f u) := by
  simp only [Machine.setCtx, h.thread]
  exact h.setThread _

/-- A run that goes on or is stopped over its budget, from what the effect leaves. -/
theorem ran_budgetStop (h : ThreadActs t z s u) (hst : z.st = 2) (hused : z.used = x.used + 1) (heng : z.eng = x.eng)
    (hbudget : z.budget = x.budget) : ∃ y, ran t x y s (budgetStop t u) ∧ (y = z ∨ y = z.stopped)
      ∧ (x.used + 1 < x.budget → budgetStop t u = u) := by
  by_cases left : x.used + 1 < x.budget
  case pos =>
    have goes : budgetStop t u = u := by
      simp only [budgetStop, h.thread]
      exact if_neg fun ⟨_, spent⟩ => by omega
    rw [goes]
    exact ⟨z, ⟨h.thread, hused, fun _ => ⟨hst, heng⟩, fun spent => absurd left (not_lt.2 spent), h.others, h.pending⟩, .inl rfl,
      fun _ => rfl⟩
  case neg =>
    have stops : budgetStop t u = countBover t (endRun t { z with st := 1, bover := true, boverNow := true } u) := by
      simp only [budgetStop, stopRun, h.thread]
      exact if_pos ⟨hst, by omega⟩
    rw [stops]
    have threads (k : Nat) : (countBover t (endRun t { z with st := 1, bover := true, boverNow := true } u)).thread? k
        = (u.setThread t z.stopped).thread? k := (thread?_of_cue (countBover_cue ..) k).trans (thread?_endRun ..)
    refine ⟨z.stopped, ⟨(threads t).trans (thread?_setThread_same ..), hused, fun go => absurd go left,
      fun _ => ⟨rfl, rfl, rfl, isSet_countBover _ _⟩, fun k hk => ?_, ?_⟩, .inr rfl, fun go => absurd go left⟩
    · exact (threads k).trans ((thread?_setThread_ne _ _ hk).trans (h.others k hk))
    · simp [h.pending]

/-- A run whose effect changes no register and no byte. -/
theorem ranAlone_of_ran (h : ran t x y s (budgetStop t u)) (hgo : x.used + 1 < x.budget → budgetStop t u = u)
    (hregs : u.regs = s.regs) (hmem : u.mem = s.mem) : ranAlone t x y s (budgetStop t u) :=
  ⟨h, by rw [budgetStop_mem, hmem], regsBut_trans (regsBut_of_regs hregs) (regsBut_budgetStop t u), fun left => by rw [hgo left, hregs]⟩

end

end Sys2Proof.Machine
end

section
/-!
PROOFS. The cue instructions of the thread's scratch, of SENSE, of the Take Queue and of the frame's instants (R235 to R238).
-/

namespace Sys2Proof.Machine

/-! ### A change of the context -/

section
variable (t : Nat) (f : ThrCtx → ThrCtx) (s : State)

theorem setCtx_eq : setCtx t f s = { s with cue := { s.cue with thr := (setCtx t f s).cue.thr } } := by
  unfold setCtx
  split <;> rfl

@[simp] theorem setCtx_regs : (setCtx t f s).regs = s.regs := by rw [setCtx_eq]
@[simp] theorem setCtx_flt : (setCtx t f s).flt = s.flt := by rw [setCtx_eq]
@[simp] theorem setCtx_tq : (setCtx t f s).cue.tq = s.cue.tq := by rw [setCtx_eq]
@[simp] theorem setCtx_wcomp : (setCtx t f s).wcomp = s.wcomp := by rw [setCtx_eq]
@[simp] theorem setCtx_layer (l : Nat) : (setCtx t f s).layer l = s.layer l := by rw [State.layer, State.layer, setCtx_wcomp]
@[simp] theorem setCtx_routes (o : Nat) : (setCtx t f s).routes o = s.routes o := by rw [State.routes, setCtx_eq, State.routes]

end

/-! ### An instruction that completes -/

/-- A thread whose run goes on from `x` to `z` with one more unit of budget used. -/
structure RunsOn (x z : Thread) : Prop where
  st : z.st = x.st
  used : z.used = x.used + 1
  eng : z.eng = x.eng
  budget : z.budget = x.budget

theorem runsOn_stepped (x : Thread) (w : Word) : RunsOn x (x.stepped w) := ⟨rfl, rfl, rfl, rfl⟩

theorem RunsOn.setCtx {x z : Thread} (h : RunsOn x z) (c : ThrCtx) : RunsOn x { z with ctx := c } := ⟨h.st, h.used, h.eng, h.budget⟩

section
variable {t op : Nat} {x z : Thread} {w : Word} {s v : State} (h : s.standsAt t op x w) (hop : op < 0x10 ∨ 0x12 < op)
include h

/-- An instruction whose effect makes its thread `z`: what the budget stop leaves. -/
theorem ran_of_acts (hv : ThreadActs t z s v) (hz : RunsOn x z) : ∃ y, ran t x y s (budgetStop t v) ∧ (y = z ∨ y = z.stopped)
    ∧ (x.used + 1 < x.budget → budgetStop t v = v) :=
  ran_budgetStop hv (hz.st.trans h.2.1) hz.used hz.eng hz.budget

/-- As `ran_of_acts`, of an effect that changes no register and no byte of memory. -/
theorem ranAlone_of_acts (hv : ThreadActs t z s v) (hz : RunsOn x z) (hregs : v.regs = s.regs) (hmem : v.mem = s.mem) :
    ∃ y, ranAlone t x y s (budgetStop t v) ∧ (y = z ∨ y = z.stopped) := by
  obtain ⟨y, hran, hy, hgo⟩ := ran_of_acts h hv hz
  exact ⟨y, ranAlone_of_ran hran hgo hregs hmem, hy⟩

include hop in
/-- An effect that ends with a change `f` of its thread's context. -/
theorem ran_setCtx (hv : ThreadActs t (x.stepped w) s v) (f : ThrCtx → ThrCtx) :
    ∃ y, ran t x y s (budgetStop t (setCtx t f v)) ∧ y.ctx = f { x.ctx with pc := x.ctx.pc + 1 }
      ∧ (x.used + 1 < x.budget → budgetStop t (setCtx t f v) = setCtx t f v) := by
  obtain ⟨y, hran, hy, hgo⟩ := ran_of_acts h (hv.setCtx f) ((runsOn_stepped x w).setCtx _)
  refine ⟨y, hran, ?_, hgo⟩
  rw [← stepped_ctx_of_not_branch h hop]
  rcases hy with rfl | rfl <;> rfl

include hop in
theorem ranAlone_setCtx (hv : ThreadActs t (x.stepped w) s v) (hregs : v.regs = s.regs) (hmem : v.mem = s.mem)
    (f : ThrCtx → ThrCtx) : ∃ y, ranAlone t x y s (budgetStop t (setCtx t f v)) ∧ y.ctx = f { x.ctx with pc := x.ctx.pc + 1 } := by
  obtain ⟨y, hran, hctx, hgo⟩ := ran_setCtx h hop hv f
  exact ⟨y, ranAlone_of_ran hran hgo ((setCtx_regs ..).trans hregs) ((setCtx_mem ..).trans hmem), hctx⟩

end

/-- A register written, Z and N from the value, and T. -/
theorem sense_result {d : Nat} {v : Word} {ok : Bool} {c y : ThrCtx}
    (hy : y = (((({ c with pc := c.pc + 1 } : ThrCtx).setG d v).zn v).test ok)) :
    sets d v c y ∧ y = { c with pc := c.pc + 1, g := y.g, z := v == 0, n := v.getLsbD 31, t := y.t } ∧ y.t = ok := by
  refine ⟨sets_of_next (by rw [hy]; rfl), ?_, by rw [hy]; rfl⟩
  rw [hy]
  simp [ThrCtx.zn, ThrCtx.test]

/-! ### SENSE (R236) -/

section
variable (s : State) (t : Nat) (x : Thread) (w : Word)

theorem sensed_reg_issued (n : Nat) (r : RegName) (i : Nat) : ((s.issued t x w).sensed n).reg r i = (s.sensed n).reg r i := by
  rw [State.sensed, State.sensed, issued_snap]
  cases s.snap.find? n with
  | none => exact issued_reg ..
  | some p => rfl

/-- The instruction's effect reads the snapshot and the thread. -/
theorem senseOwn_issued (sub : Nat) (h : sub = 0x00 ∨ sub = 0x02 ∨ sub = 0x03 ∨ sub = 0x04) :
    (s.issued t x w).senseOwn t (x.stepped w) sub = s.senseOwn t x sub := by
  rcases h with rfl | rfl | rfl | rfl <;> simp [State.senseOwn, Thread.stepped]

end

theorem sense_noIndex (s : State) (t : Nat) (x : Thread) {sub : Nat} (h : senseNoIndex sub = true) (i : Nat) :
    s.sense t x sub i = (s.senseOwn t x sub, true) := by
  simp only [State.sense, h, if_true]

theorem sense_beyond (s : State) (t : Nat) (x : Thread) {sub i : Nat} (h : senseNoIndex sub = false)
    (hi : (s.sensed (s.thrTd t)).senseRange (s.thrOut t) sub ≤ i) : s.sense t x sub i = (0, false) := by
  simp only [State.sense, h, Bool.false_eq_true, if_false, if_pos hi]

theorem sense_refuse (s : State) (t : Nat) (x : Thread) {i : Nat} (hi : i < 1024) :
    s.sense t x 0x0B i = ((s.sensed (s.thrTd t)).reg .XPT_REFUSE i, true) := by
  have inRange : ¬ (s.sensed (s.thrTd t)).senseRange (s.thrOut t) 0x0B ≤ i := not_le.2 hi
  simp only [State.sense, if_neg inRange]
  rfl

/-! ### The Take Queue (R237) -/

theorem dropFirstWhere_of_find? {α : Type} {p : α → Bool} {l : List α} {e : α} (h : l.find? p = some e) :
    ∃ before after, l = before ++ e :: after ∧ dropFirstWhere p l = before ++ after := by
  induction l with
  | nil => simp at h
  | cons a l ih =>
    by_cases ha : p a = true
    · rw [List.find?_cons_of_pos ha] at h
      obtain rfl := Option.some.inj h
      exact ⟨[], l, rfl, by simp [dropFirstWhere, ha]⟩
    · rw [List.find?_cons_of_neg ha] at h
      obtain ⟨before, after, hl, hdrop⟩ := ih h
      exact ⟨a :: before, after, by rw [hl]; rfl, by simp [dropFirstWhere, ha, hdrop]⟩

/-! ### The instants of a frame (R238) -/

/-- The instant of a frame that EVT reads. -/
def FrameTimes.instant (f : FrameTimes) (sub : Nat) : Nat :=
  unsign 48 (match sub with | 0 => f.cueOpen | 1 => f.start | _ => f.shutter)

/-! ### The instructions -/

section
variable {t : Fin 4096} {x : Thread} {w : Word} {s : State}

/-- Check 1 of R239 for LDT and EVT: their registers are some of g1 to g15. -/
theorem legal_of_standsAt {op : Nat} (h : s.standsAt t op x w) : cueOp w = op ∧ cueIllegal (s.thrOut t) w = false := by
  obtain ⟨-, -, -, hop, hfault, -⟩ := h
  exact ⟨hop, Bool.not_eq_true _ ▸ (cueFault_eq_zero_iff.1 hfault).1⟩

theorem ldt_registers (h : s.standsAt t 0x1B x w) : cueR1 w ≠ 0 := by
  obtain ⟨hop, hlegal⟩ := legal_of_standsAt h
  simp only [cueIllegal, hop, Bool.or_eq_false_iff, Bool.not_eq_false', bne_iff_ne] at hlegal
  exact hlegal.1.2

theorem evt_registers (h : s.standsAt t 0x1D x w) : cueR1 w ≠ 0 := by
  obtain ⟨hop, hlegal⟩ := legal_of_standsAt h
  simp only [cueIllegal, hop, Bool.or_eq_false_iff, Bool.not_eq_false', bne_iff_ne] at hlegal
  exact hlegal.1.2

/-- Four registers in a row. -/
theorem val_four {c : ThrCtx} {r : Nat} (a b d e : Word) (hr : r ≠ 0) (ok : Bool) :
    let y := ((((c.setG r a).setG (r + 1) b).setG (r + 2) d).setG (r + 3) e).test ok
    y.val r = a ∧ y.val (r + 1) = b ∧ y.val (r + 2) = d ∧ y.val (r + 3) = e
      ∧ ∀ k, (k < r ∨ r + 4 ≤ k) → y.val k = c.val k := by
  have test (c : ThrCtx) (k : Nat) : (c.test ok).val k = c.val k := rfl
  refine ⟨?_, ?_, ?_, ?_, fun k hk => ?_⟩
  · rw [test, ThrCtx.val_setG_ne _ _ _ (by omega), ThrCtx.val_setG_ne _ _ _ (by omega), ThrCtx.val_setG_ne _ _ _ (by omega),
      ThrCtx.val_setG_same _ _ _ hr]
  · rw [test, ThrCtx.val_setG_ne _ _ _ (by omega), ThrCtx.val_setG_ne _ _ _ (by omega), ThrCtx.val_setG_same _ _ _ (by omega)]
  · rw [test, ThrCtx.val_setG_ne _ _ _ (by omega), ThrCtx.val_setG_same _ _ _ (by omega)]
  · rw [test, ThrCtx.val_setG_same _ _ _ (by omega)]
  · rw [test, ThrCtx.val_setG_ne _ _ _ (by omega), ThrCtx.val_setG_ne _ _ _ (by omega), ThrCtx.val_setG_ne _ _ _ (by omega),
      ThrCtx.val_setG_ne _ _ _ (by omega)]

end

/-- Settles O39: each instruction acts on the state after its cycles (`completeOp_eq_of_standsAt`), by a change of its thread's context
(`ranAlone_setCtx`) or, for STS and POPT, with a store or a pop before it. -/
theorem cueScratchSenseAndQueue : Obligations.CueScratchSenseAndQueue := by
  refine ⟨fun t x w s h => ?lds, fun t x w a s h hwf ha => ?sts, fun t x w s h => ?sense, fun t x w s h => ?ldt,
    fun t x w s h => ?popt, fun t x w f s h hf => ?evt⟩
  case lds =>
    obtain ⟨y, hran, hctx⟩ := ranAlone_setCtx h (by decide) threadActs_issued (issued_regs ..) (issued_mem ..)
      (fun e => e.setG (cueD w) (BitVec.ofNat 32 ((s.issued t x w).mem.readLe (scratchAddr t (scratchAt x.ctx w).toNat) 4)))
    rw [issued_mem] at hctx
    exact ⟨_, y, congrArg Host.Outcome.next (completeOp_eq_of_standsAt h _), hran, load_result hctx⟩
  case sts =>
    subst ha
    have hv : ThreadActs t (x.stepped w) s ((s.issued t x w).store (scratchAddr t (scratchAt x.ctx w).toNat)
        (leBytes 4 (x.ctx.val (cueD w)).toNat)) := threadActs_issued.of_cue rfl rfl
    obtain ⟨y, hran, hy, hgo⟩ := ran_of_acts h hv (runsOn_stepped x w)
    refine ⟨_, y, congrArg Host.Outcome.next (completeOp_eq_of_standsAt h _), hran, ?_, ?_, ?_, ?_⟩
    · rw [State.load, budgetStop_mem]
      exact Memory.readBytes_writeBytes _ (leBytes 4 _) (by rwa [issued_mem])
    · intro b hb
      rw [budgetStop_mem]
      refine (Memory.read_writeBytes_outside (leBytes 4 _) (by rwa [issued_mem]) hb).trans ?_
      rw [issued_mem]
    · rw [← stepped_ctx_of_standsAt h (by decide)]
      rcases hy with rfl | rfl <;> rfl
    · exact fun left => by rw [hgo left, store_regs, issued_regs]
  case sense =>
    rcases hread : (s.issued t x w).sense t (x.stepped w) (cueSub w) (kPlus (x.ctx.val (cueR2 w)) w).toNat with ⟨v, ok⟩
    obtain ⟨y, hran, hctx⟩ := ranAlone_setCtx h (by decide) threadActs_issued (issued_regs ..) (issued_mem ..)
      (fun e => ((e.setG (cueR1 w) v).zn v).test ok)
    obtain ⟨hsets, hy, hT⟩ := sense_result hctx
    have own {sub : Nat} (hsub : cueSub w = sub) (hno : senseNoIndex sub = true)
        (hcode : sub = 0x00 ∨ sub = 0x02 ∨ sub = 0x03 ∨ sub = 0x04) : ok = true ∧ v = s.senseOwn t x sub := by
      rw [hsub, sense_noIndex _ _ _ hno, senseOwn_issued _ _ _ _ _ hcode] at hread
      exact ⟨(congrArg Prod.snd hread).symm, (congrArg Prod.fst hread).symm⟩
    have beyond {sub : Nat} (hsub : cueSub w = sub) (hno : senseNoIndex sub = false)
        (hi : ∀ u : State, ∀ o, u.senseRange o sub ≤ (kPlus (x.ctx.val (cueR2 w)) w).toNat) : ok = false ∧ v = 0 := by
      rw [hsub, sense_beyond _ _ _ hno (hi _ _)] at hread
      exact ⟨(congrArg Prod.snd hread).symm, (congrArg Prod.fst hread).symm⟩
    refine ⟨_, y, v, congrArg Host.Outcome.next ((completeOp_eq_of_standsAt h _).trans ?act), hran, hsets, hy, ?phi, ?out, ?vis,
      ?bover, ?refuse, ?refuseBeyond, ?slotBeyond⟩
    case act => simp only [issued_thread?, hread]
    all_goals rw [hT]
    case phi =>
      intro hsub
      obtain ⟨hok, rfl⟩ := own hsub rfl (.inl rfl)
      exact ⟨hok, fun p hp => by simp [State.senseOwn, hp]⟩
    case out => exact fun hsub => own hsub rfl (.inr (.inl rfl))
    case vis =>
      intro hsub
      obtain ⟨hok, rfl⟩ := own hsub rfl (.inr (.inr (.inl rfl)))
      exact ⟨hok, fun p hp => by simp [State.senseOwn, hp]⟩
    case bover => exact fun hsub => own hsub rfl (.inr (.inr (.inr rfl)))
    case refuse =>
      intro hsub hi
      rw [hsub, sense_refuse _ _ _ hi, sensed_reg_issued, issued_thrTd] at hread
      exact ⟨(congrArg Prod.snd hread).symm, (congrArg Prod.fst hread).symm⟩
    case refuseBeyond => exact fun hsub hi => beyond hsub rfl fun _ _ => hi
    case slotBeyond => exact fun hsub hi => beyond hsub rfl fun _ _ => hi
  case ldt =>
    cases hfind : s.visibleTake (s.thrOut t) with
    | none =>
      obtain ⟨y, hran, hctx⟩ := ranAlone_setCtx h (by decide) threadActs_issued (issued_regs ..) (issued_mem ..) (fun c => c.test false)
      refine ⟨_, y, congrArg Host.Outcome.next ((completeOp_eq_of_standsAt h _).trans ?act), hran, ?queue, fun _ => hctx, nofun⟩
      case act => simp only [issued_visibleTake, issued_thrOut, hfind]; rfl
      case queue => simp
    | some e =>
      obtain ⟨y, hran, hctx⟩ := ranAlone_setCtx h (by decide) threadActs_issued (issued_regs ..) (issued_mem ..) (fun c =>
        ((((c.setG (cueR1 w) e.w0).setG (cueR1 w + 1) e.w1).setG (cueR1 w + 2) e.w2).setG (cueR1 w + 3) e.w3).test true)
      refine ⟨_, y, congrArg Host.Outcome.next ((completeOp_eq_of_standsAt h _).trans ?act), hran, ?queue, nofun, ?words⟩
      case act => simp only [issued_visibleTake, issued_thrOut, hfind]
      case queue => simp
      case words =>
        rintro _ ⟨⟩
        have four := val_four (c := { x.ctx with pc := x.ctx.pc + 1 }) e.w0 e.w1 e.w2 e.w3 (ldt_registers h) true
        rw [hctx]
        exact ⟨by simp [ThrCtx.test], four⟩
  case popt =>
    cases hfind : s.visibleTake (s.thrOut t) with
    | none =>
      obtain ⟨y, hran, hctx⟩ := ranAlone_setCtx h (by decide) threadActs_issued (issued_regs ..) (issued_mem ..) (fun c => c.test false)
      refine ⟨_, y, congrArg Host.Outcome.next ((completeOp_eq_of_standsAt h _).trans ?act), hran, fun _ => ⟨hctx, ?queue⟩, nofun⟩
      case act => simp only [issued_visibleTake, issued_thrOut, hfind]; rfl
      case queue => simp
    | some e =>
      have hv : ThreadActs t (x.stepped w) s (popTake (s.thrOut t) (s.issued t x w)) := threadActs_issued.of_cue rfl rfl
      obtain ⟨y, hran, hctx⟩ := ranAlone_setCtx h (by decide) hv (issued_regs t x w s) (issued_mem t x w s) (fun c => c.test true)
      refine ⟨_, y, congrArg Host.Outcome.next ((completeOp_eq_of_standsAt h _).trans ?act), hran, nofun, ?popped⟩
      case act => simp only [issued_visibleTake, issued_thrOut, hfind]; rfl
      case popped =>
        rintro _ ⟨⟩
        obtain ⟨before, after, hl, hdrop⟩ := dropFirstWhere_of_find? hfind
        exact ⟨hctx, before, after, hl, by simpa [popTake] using hdrop⟩
  case evt =>
    obtain ⟨y, hran, hctx⟩ := ranAlone_setCtx h (by decide) threadActs_issued (issued_regs ..) (issued_mem ..) (fun c =>
      (c.setG (cueR1 w) (BitVec.ofNat 32 (f.instant (cueSub w)))).setG (cueR1 w + 1) (BitVec.ofNat 32 (f.instant (cueSub w) / 2 ^ 32)))
    have hr := evt_registers h
    refine ⟨_, y, f.instant (cueSub w), congrArg Host.Outcome.next ((completeOp_eq_of_standsAt h _).trans ?act), hran,
      fun hsub => by rw [hsub]; rfl, fun hsub => by rw [hsub]; rfl, fun hsub => by rw [hsub]; rfl, ?low, ?high, ?others, ?rest⟩
    case act => simp only [issued_tdOf, issued_thrTd, hf]; rfl
    all_goals rw [hctx]
    case low => rw [ThrCtx.val_setG_ne _ _ _ (by omega), ThrCtx.val_setG_same _ _ _ hr]
    case high => rw [ThrCtx.val_setG_same _ _ _ (by omega)]
    case others =>
      intro r h0 h1
      rw [ThrCtx.val_setG_ne _ _ _ h1, ThrCtx.val_setG_ne _ _ _ h0]
      rfl
    case rest =>
      unfold ThrCtx.setG
      split_ifs <;> rfl

end Sys2Proof.Machine
end

section
/-!
PROOFS. The cue instructions of the wall and of the outward operations (R244 to R247).
-/

namespace Sys2Proof.Machine

/-! ### Reservations of the crosspoint keep the routes (R170, R180, R181) -/

/-- Two states agree but for what the crosspoint holds beside its routes. -/
def onlyStores (s t : State) : Prop := t = { s with xpt := { t.xpt with rt := s.xpt.rt } }

theorem onlyStores_refl (s : State) : onlyStores s s := rfl

theorem onlyStores_trans {s t u : State} (h : onlyStores s t) (g : onlyStores t u) : onlyStores s u := by
  unfold onlyStores at h g ⊢
  rw [g, h]

theorem onlyStores_setHbm (s : State) (user a b : Nat) : onlyStores s (s.setHbm user a b) := by
  rfl

theorem onlyStores_releaseStore (s : State) (e : Nat) : onlyStores s (s.releaseStore e) := rfl

theorem onlyStores_reserveStore {s t : State} {e stride : Nat} (h : s.reserveStore e stride = some t) : onlyStores s t := by
  unfold State.reserveStore at h
  split at h
  · obtain rfl := Option.some.inj h
    rfl
  · simp at h

theorem onlyStores_dropSyncs (s : State) : onlyStores s (dropSyncs s) := by
  refine foldl_rel onlyStores_refl onlyStores_trans (fun t j => ?_) _ s
  dsimp only
  split <;> rfl

theorem onlyStores_dropPipeFs (s : State) : onlyStores s (dropPipeFs s) := by
  refine foldl_rel onlyStores_refl onlyStores_trans (fun t q => ?_) _ s
  dsimp only
  split <;> rfl

theorem onlyStores_reserve_unless {s t : State} {c : Prop} [Decidable c] {e stride : Nat}
    (h : (if c then some s else s.reserveStore e stride) = some t) : onlyStores s t := by
  split at h
  · exact Option.some.inj h ▸ onlyStores_refl s
  · exact onlyStores_reserveStore h

/-- A store that a pipe has is taken over, or one is reserved for it. -/
theorem onlyStores_newPipeFs {s t : State} {q v n mb stride : Nat} (h : newPipeFs q v n mb stride s = .ok t) : onlyStores s t := by
  simp only [newPipeFs] at h
  split at h
  case h_1 =>
    split at h <;> exact Except.ok.inj h ▸ rfl
  case h_2 =>
    split at h
    · simp at h
    · split at h
      · simp at h
      · rename_i u hu
        generalize (if s.lowerStack = 0 then mb else 0) = a, (if s.lowerStack = 1 then mb else 0) = b at h
        split at h
        · refine onlyStores_trans (onlyStores_reserve_unless hu) ?_
          rw [← Except.ok.inj h]
          exact onlyStores_trans (t := { u with xpt := { u.xpt with pipeFs := _ } }) rfl (onlyStores_setHbm _ _ _ _)
        · simp at h

theorem onlyStores.routes {s t : State} (h : onlyStores s t) (d : Nat) : t.routes d = s.routes d := by
  unfold onlyStores at h
  rw [h]
  rfl

/-! ### LSRC (R189, R244, R306) -/

theorem routes_setRoutes_same (s : State) (d : Nat) (x : RouteSet) : (s.setRoutes d x).routes d = x := AMap.get_set_same ..

theorem routes_setRoutes_ne (s : State) {d e : Nat} (x : RouteSet) (h : e ≠ d) : (s.setRoutes d x).routes e = s.routes e :=
  AMap.get_set_ne _ _ _ h

theorem capacityChecks_code {s : State} {n e : Nat} {new : List RouteItem} (h : s.capacityChecks n new = some e) : e ≠ 0 ∧ e ≤ 6 := by
  unfold State.capacityChecks at h
  split_ifs at h <;> obtain rfl := Option.some.inj h <;> decide

theorem newPipeFs_code {s : State} {q v n mb stride e : Nat} (h : newPipeFs q v n mb stride s = .error e) : e ≠ 0 ∧ e ≤ 7 := by
  simp only [newPipeFs] at h
  (repeat' split at h) <;> simp only [Except.error.injEq, reduceCtorEq] at h <;> subst h <;> decide

/-- A refusal of LSRC gives a code of R189. -/
theorem decideLayer_code {s : State} {l v n e : Nat} {classP : Bool} (h : decideLayer l v n classP s = .error e) : e ≠ 0 ∧ e ≤ 7 := by
  simp only [decideLayer] at h
  split at h
  · obtain rfl := Except.error.inj h
    decide
  · split at h
    · obtain rfl := Except.error.inj h
      decide
    · split at h
      · rename_i hcap
        obtain rfl := Except.error.inj h
        exact (capacityChecks_code hcap).imp_right (by omega)
      · split at h
        · rename_i hfs
          obtain rfl := Except.error.inj h
          exact newPipeFs_code hfs
        · simp at h

/-- An admitted source of a layer goes through a Picture Pipe, and reserves its store. -/
theorem decideLayer_admits {s t : State} {l v n : Nat} {classP : Bool} {r : Route} (h : decideLayer l v n classP s = .ok (r, t)) :
    r.vin = v ∧ r.path = 2 ∧ onlyStores (s.setRoutes (1024 + l) { s.routes (1024 + l) with request := none }) t := by
  simp only [decideLayer] at h
  split at h
  · simp at h
  · split at h
    · simp at h
    · split at h
      · simp at h
      · split at h
        · simp at h
        · rename_i hfs
          obtain ⟨rfl, rfl⟩ := Prod.mk.inj (Except.ok.inj h)
          exact ⟨rfl, rfl, onlyStores_newPipeFs hfs⟩

/-- Two states agree but for the crosspoint. -/
def onlyXpt (s t : State) : Prop := t = { s with xpt := t.xpt }

theorem onlyXpt_of_onlyStores {s t : State} (h : onlyStores s t) : onlyXpt s t := by
  unfold onlyStores onlyXpt at *
  rw [h]

theorem onlyXpt_trans {s t u : State} (h : onlyXpt s t) (g : onlyXpt t u) : onlyXpt s u := by
  unfold onlyXpt at h g ⊢
  rw [g, h]

theorem onlyXpt_setRoutes (s : State) (d : Nat) (x : RouteSet) : onlyXpt s (s.setRoutes d x) := rfl

/-- The outcome of LSRC for layer `l` and VIN `v`: admitted, with the request in the layer's routes, or refused with a code. -/
structure LayerAnswer (l v : Nat) (s : State) (p : Nat × State) : Prop where
  committed : (p.2.routes (1024 + l)).committed = (s.routes (1024 + l)).committed
  cue : p.2.cue = s.cue
  pending : p.2.pending = s.pending
  mem : p.2.mem = s.mem
  admitted : p.1 = 0 → ∃ r, (p.2.routes (1024 + l)).request = some r ∧ r.vin = v ∧ r.path = 2
  refused : p.1 ≠ 0 → p.1 ≤ 7 ∧ p.2.routes (1024 + l) = s.routes (1024 + l)

/-- A refusal is counted and nothing else. -/
theorem layerAnswer_refused {l v e : Nat} (s : State) (he : e ≠ 0) (hle : e ≤ 7) :
    LayerAnswer l v s (e, (s.bump .XPT_REFUSE_CNT 0).raise Src.XPT_REFUSE) where
  committed := by simp [State.routes]
  cue := by simp
  pending := by simp
  mem := by simp
  admitted h := absurd h he
  refused _ := ⟨hle, by simp [State.routes]⟩

theorem layerAnswer_requestLayer (l v n : Nat) (s : State) : LayerAnswer l v s (requestLayer l v n s) := by
  unfold requestLayer
  split
  case h_1 r t hdecide =>
    obtain ⟨hvin, hpath, hstores⟩ := decideLayer_admits hdecide
    have hdrop (u : State) : onlyStores u (dropPipeFs (dropSyncs u)) := onlyStores_trans (onlyStores_dropSyncs u) (onlyStores_dropPipeFs _)
    have hset := ((hdrop (t.setRoutes (1024 + l) { t.routes (1024 + l) with request := some r, pending := none })).routes
      (1024 + l)).trans (routes_setRoutes_same ..)
    have hxpt := onlyXpt_trans (onlyXpt_trans (onlyXpt_setRoutes s _ _) (onlyXpt_of_onlyStores hstores))
      (onlyXpt_trans (onlyXpt_setRoutes t (1024 + l) { t.routes (1024 + l) with request := some r, pending := none })
        (onlyXpt_of_onlyStores (hdrop _)))
    exact {
      committed := (congrArg RouteSet.committed hset).trans (by rw [hstores.routes, routes_setRoutes_same])
      cue := by rw [hxpt]
      pending := by rw [hxpt]
      mem := by rw [hxpt]
      admitted := fun _ => ⟨r, congrArg RouteSet.request hset, hvin, hpath⟩
      refused := fun h => absurd rfl h }
  case h_2 e hdecide =>
    obtain ⟨hne, hle⟩ := decideLayer_code hdecide
    exact layerAnswer_refused s hne hle

/-! ### A shadow field that the run writes (R213) -/

section
variable {t : Nat} {z : Thread} {s u : State}

/-- The write is noted in the thread, or counted. -/
theorem ThreadActs.noteWrite (h : ThreadActs t z s u) (field : Nat) :
    ∃ l, ThreadActs t { z with wrote := l } s (noteWrite t field u) := by
  simp only [Machine.noteWrite, h.thread]
  split
  · exact ⟨z.wrote, h.of_cue (by simp) (by simp)⟩
  · exact ⟨_, h.setThread _⟩

variable (t field : Nat) (u : State)

theorem noteWrite_eq : noteWrite t field u = { u with regs := (noteWrite t field u).regs, cue := (noteWrite t field u).cue } := by
  unfold noteWrite
  (repeat' split) <;> rfl

@[simp] theorem noteWrite_wcomp : (noteWrite t field u).wcomp = u.wcomp := by rw [noteWrite_eq]
@[simp] theorem noteWrite_layer (l : Nat) : (noteWrite t field u).layer l = u.layer l := by rw [State.layer, State.layer, noteWrite_wcomp]
@[simp] theorem noteWrite_routes (d : Nat) : (noteWrite t field u).routes d = u.routes d := by rw [State.routes, noteWrite_eq, State.routes]

end

theorem layer_setLayer_same (s : State) (l : Nat) (x : Layer) : (s.setLayer l x).layer l = x := AMap.get_set_same ..

/-! ### The instructions -/

section
variable {t op : Nat} {x : Thread} {w : Word} {s v : State} (h : s.standsAt t op x w) (hop : 0x12 < op)
include h hop

/-- An effect that notes a write of a shadow field, and then changes the context by `f`. -/
theorem ran_noteWrite_setCtx (hv : ThreadActs t (x.stepped w) s v) (field : Nat) (f : ThrCtx → ThrCtx) :
    ∃ y, ran t x y s (budgetStop t (setCtx t f (noteWrite t field v))) ∧ y.ctx = f { x.ctx with pc := x.ctx.pc + 1 } := by
  obtain ⟨l, hl⟩ := hv.noteWrite field
  obtain ⟨y, hran, hy, -⟩ := ran_of_acts h (hl.setCtx f) ⟨rfl, rfl, rfl, rfl⟩
  refine ⟨y, hran, ?_⟩
  rw [← stepped_ctx_of_not_branch h (.inr hop)]
  rcases hy with rfl | rfl <;> rfl

theorem ran_noteWrite (hv : ThreadActs t (x.stepped w) s v) (field : Nat) :
    ∃ y, ran t x y s (budgetStop t (noteWrite t field v)) ∧ y.ctx = { x.ctx with pc := x.ctx.pc + 1 } := by
  obtain ⟨l, hl⟩ := hv.noteWrite field
  obtain ⟨y, hran, hy, -⟩ := ran_of_acts h hl ⟨rfl, rfl, rfl, rfl⟩
  refine ⟨y, hran, ?_⟩
  rw [← stepped_ctx_of_not_branch h (.inr hop)]
  rcases hy with rfl | rfl <;> rfl

/-- A write of the shadow of the thread's layer. -/
theorem ran_writeLayer {act : ThrCtx → Word → State → State} {field : Nat} {f : LayerSet → LayerSet}
    (hact : act x.ctx w = writeLayer t field f) : ∃ u y, completeOp op t act s = u ∧ ran t x y s u ∧ u.mem = s.mem
      ∧ y.ctx = { x.ctx with pc := x.ctx.pc + 1 }
      ∧ u.layer (objIndex (s.thrOut t)) = { s.layer (objIndex (s.thrOut t)) with next := f (s.layer (objIndex (s.thrOut t))).next } := by
  have hv : ThreadActs t (x.stepped w) s ((s.issued t x w).setLayer (objIndex (s.thrOut t))
      { s.layer (objIndex (s.thrOut t)) with next := f (s.layer (objIndex (s.thrOut t))).next }) := threadActs_issued.of_cue rfl rfl
  obtain ⟨y, hran, hctx⟩ := ran_noteWrite h hop hv field
  refine ⟨_, y, (completeOp_eq_of_standsAt h act).trans ?_, hran, ?_, hctx, ?_⟩
  · rw [hact, writeLayer, issued_thrOut, issued_layer]
  · rw [budgetStop_mem, noteWrite_mem]
    exact issued_mem t x w s
  · rw [budgetStop_layer, noteWrite_layer, layer_setLayer_same]

/-- A write of the shadow of the thread's layer that sets T. -/
theorem ran_writeLayer_setT {act : ThrCtx → Word → State → State} {field : Nat} {f : LayerSet → LayerSet}
    (hact : act x.ctx w (s.issued t x w) = setT t true (writeLayer t field f (s.issued t x w))) :
    ∃ u y, completeOp op t act s = u ∧ ran t x y s u ∧ u.mem = s.mem ∧ y.ctx = { x.ctx with pc := x.ctx.pc + 1, t := true }
      ∧ u.layer (objIndex (s.thrOut t)) = { s.layer (objIndex (s.thrOut t)) with next := f (s.layer (objIndex (s.thrOut t))).next } := by
  have hv : ThreadActs t (x.stepped w) s ((s.issued t x w).setLayer (objIndex (s.thrOut t))
      { s.layer (objIndex (s.thrOut t)) with next := f (s.layer (objIndex (s.thrOut t))).next }) := threadActs_issued.of_cue rfl rfl
  obtain ⟨y, hran, hctx⟩ := ran_noteWrite_setCtx h hop hv field (fun c => c.test true)
  refine ⟨_, y, (completeOp_eq_of_standsAt h act).trans ?_, hran, ?_, hctx, ?_⟩
  · rw [hact, writeLayer, issued_thrOut, issued_layer]
    rfl
  · rw [budgetStop_mem, setCtx_mem, noteWrite_mem]
    exact issued_mem t x w s
  · rw [budgetStop_layer, setCtx_layer, noteWrite_layer, layer_setLayer_same]

end

section
variable {t : Fin 4096} {x : Thread} {w : Word} {s : State}

/-- T and the reason of a request. -/
theorem reason_ctx (c : ThrCtx) (r2 r : Nat) (hr : r ≤ 7) :
    ((c.test (r == 0)).setG r2 (BitVec.ofNat 32 r)).t = (r == 0)
      ∧ (r2 ≠ 0 → (((c.test (r == 0)).setG r2 (BitVec.ofNat 32 r)).val r2).toNat = r) := by
  refine ⟨by simp [ThrCtx.test], fun h2 => ?_⟩
  rw [ThrCtx.val_setG_same _ _ _ h2]
  exact Word.ofNat_toNat_of_lt (by omega)

/-- LSRC's request, as the state after the instruction's cycles decides it. -/
theorem layerAnswer_layerFrom (vin : Nat) (u : State) : ∃ p, LayerAnswer (objIndex (u.thrOut t)) vin u p
    ∧ layerFrom t vin u = (p.1, if p.1 = 0 then noteWrite t 2 p.2 else p.2) := by
  by_cases hvin : 1023 < vin
  · exact ⟨_, layerAnswer_refused (e := 5) u (by decide) (by decide), by simp [layerFrom, hvin]⟩
  · exact ⟨_, layerAnswer_requestLayer _ _ (u.thrTd t) u, by simp [layerFrom, hvin]⟩

theorem exec_cueLsrc (h : s.standsAt t 0x30 x w) : ∃ u y, exec (.cueLsrc t) s = .next u ∧ ran t x y s u ∧ u.mem = s.mem
    ∧ (u.routes (1024 + objIndex (s.thrOut t))).committed = (s.routes (1024 + objIndex (s.thrOut t))).committed
    ∧ ((y.ctx.t = true ∧ (cueR2 w ≠ 0 → y.ctx.val (cueR2 w) = 0) ∧ ∃ r,
          (u.routes (1024 + objIndex (s.thrOut t))).request = some r ∧ r.vin = (kPlus (x.ctx.val (cueR1 w)) w).toNat ∧ r.path = 2)
      ∨ (y.ctx.t = false ∧ (cueR2 w ≠ 0 → y.ctx.val (cueR2 w) ≠ 0)
          ∧ u.routes (1024 + objIndex (s.thrOut t)) = s.routes (1024 + objIndex (s.thrOut t)))) := by
  obtain ⟨p, hp, hfrom⟩ := layerAnswer_layerFrom (t := t) (kPlus (x.ctx.val (cueR1 w)) w).toNat (s.issued t x w)
  rw [issued_thrOut] at hp
  have routesIssued : (s.issued t x w).routes = s.routes := funext fun d => by rw [State.routes, issued_xpt, State.routes]
  have hv : ThreadActs t (x.stepped w) s p.2 := threadActs_issued.of_cue (by rw [hp.cue]) hp.pending
  have hmem : p.2.mem = s.mem := hp.mem.trans (issued_mem ..)
  have hexec : exec (.cueLsrc t) s = .next (budgetStop t (setReason t (cueR2 w) (p.1, if p.1 = 0 then noteWrite t 2 p.2 else p.2))) :=
    congrArg Host.Outcome.next ((completeOp_eq_of_standsAt h _).trans (by rw [← hfrom]))
  by_cases h0 : p.1 = 0
  case pos =>
    rw [if_pos h0, h0] at hexec
    obtain ⟨r, hreq, hvin, hpath⟩ := hp.admitted h0
    obtain ⟨y, hran, hctx⟩ := ran_noteWrite_setCtx h (by decide) hv 2 (fun c => (c.test (0 == 0)).setG (cueR2 w) (BitVec.ofNat 32 0))
    obtain ⟨hT, hval⟩ := reason_ctx { x.ctx with pc := x.ctx.pc + 1 } (cueR2 w) 0 (by decide)
    refine ⟨_, y, hexec, hran, ?mem, ?committed, .inl ⟨by rw [hctx, hT]; rfl, fun h2 => ?code, r, ?request, hvin, hpath⟩⟩
    case mem => simp [setReason, hmem]
    case committed => simp [setReason, hp.committed, routesIssued]
    case code =>
      rw [hctx]
      exact BitVec.eq_of_toNat_eq (hval h2)
    case request => simp [setReason, hreq]
  case neg =>
    obtain ⟨hle, hsame⟩ := hp.refused h0
    rw [if_neg h0] at hexec
    obtain ⟨y, hran, hctx, -⟩ := ran_setCtx h (by decide) hv (fun c => (c.test (p.1 == 0)).setG (cueR2 w) (BitVec.ofNat 32 p.1))
    obtain ⟨hT, hval⟩ := reason_ctx { x.ctx with pc := x.ctx.pc + 1 } (cueR2 w) p.1 hle
    refine ⟨_, y, hexec, hran, ?mem, ?committed, .inr ⟨by rw [hctx, hT]; exact beq_false_of_ne h0, fun h2 => ?code, ?routes⟩⟩
    case mem => simp [setReason, hmem]
    case committed => simp [setReason, hp.committed, routesIssued]
    case code =>
      intro hz
      rw [hctx] at hz
      rw [hz] at hval
      exact h0 (hval h2).symm
    case routes => simp [setReason, hsame, routesIssued]

end

/-! ### SIGNAL (R245) -/

/-- What a push into the Take Queue leaves: the thread table, the queue of commands and memory are as before. -/
theorem tqPush_frame (w0 w1 w2 w3 : Word) (writer thread accept : Nat) (s : State) :
    let p := tqPush w0 w1 w2 w3 writer thread accept s
    p.2.cue.thr = s.cue.thr ∧ p.2.pending = s.pending ∧ p.2.mem = s.mem := by
  simp only [tqPush]
  split_ifs <;> simp

theorem tqPush_of_full {w0 w1 w2 w3 : Word} {writer thread accept : Nat} {s : State} (h : 4096 ≤ s.cue.tq.length) :
    tqPush w0 w1 w2 w3 writer thread accept s = (false, (s.bump .CUE_TQ_FULL_CNT 0).raise Src.CUE_TQ_FULL) :=
  if_pos h

theorem tqPush_accepts {w0 w1 w2 w3 : Word} {writer thread accept : Nat} {s : State} (h : s.cue.tq.length < 4096) :
    (tqPush w0 w1 w2 w3 writer thread accept s).1 = true := by
  simp only [tqPush, if_neg (not_le.2 h)]
  split <;> rfl

/-- The entry that a writer's words make (R209, R210). -/
def pushedEntry (w0 w1 w2 w3 : Word) (writer thread accept : Nat) : TqEntry :=
  ⟨w0, w1, w2, BitVec.ofNat 32 (bitsOf w3.toNat 0 16 + writer % 16 * 2 ^ 16 + thread % 4096 * 2 ^ 20), takeTime w0 w2 w3 accept, none⟩

/-- An entry of an owned object that finds room joins the queue, last. -/
theorem tqPush_joins {w0 w1 w2 w3 : Word} {writer thread accept : Nat} {s : State} (h : s.cue.tq.length < 4096)
    (howned : (s.owner.find? (bitsOf w0.toNat 0 16)).isSome = true) : tqPush w0 w1 w2 w3 writer thread accept s
      = (true, { s with cue := { s.cue with tq := s.cue.tq ++ [pushedEntry w0 w1 w2 w3 writer thread accept] } }) := by
  have owned : ¬ (s.owner.find? (bitsOf w0.toNat 0 16)).isNone = true := by simp [Option.isSome_iff_ne_none.1 howned]
  simp only [tqPush, if_neg (not_le.2 h), if_neg owned]
  rfl

/-- Word 3 holds AT_HI as it was given, the writer and the thread. -/
theorem bitsOf_pushedEntry_w3 (w0 w1 w2 w3 : Word) {writer thread : Nat} (accept : Nat) (hwriter : writer < 16) (hthread : thread < 4096) :
    let e := pushedEntry w0 w1 w2 w3 writer thread accept
    bitsOf e.w3.toNat 0 16 = bitsOf w3.toNat 0 16 ∧ bitsOf e.w3.toNat 16 4 = writer ∧ bitsOf e.w3.toNat 20 12 = thread := by
  have low : bitsOf w3.toNat 0 16 < 2 ^ 16 := Nat.mod_lt _ (by decide)
  have word : (pushedEntry w0 w1 w2 w3 writer thread accept).w3.toNat = bitsOf w3.toNat 0 16 + writer * 2 ^ 16 + thread * 2 ^ 20 := by
    rw [pushedEntry, Word.ofNat_toNat_of_lt (by omega), Nat.mod_eq_of_lt hwriter, Nat.mod_eq_of_lt hthread]
  simp only [word]
  generalize bitsOf w3.toNat 0 16 = k at low
  simp only [bitsOf]
  omega

/-- The push of SIGNAL `w` by a thread that issues it as `x`, in the state `u` after its cycles. -/
def signalPush (t : Nat) (x : Thread) (w : Word) (u : State) : Bool × State :=
  tqPush (x.ctx.val (cueR1 w)) (x.ctx.val (cueR1 w + 1)) (x.ctx.val (cueR1 w + 2)) (x.ctx.val (cueR1 w + 3)) 8 t
    (unsign 48 (x.stepped w).clock) u

/-! ### TALLY (R246) -/

/-- The low 16 bits of a masked write. -/
theorem testBit_masked (old : Nat) (v m : Word) {i : Nat} (hi : i < 16) :
    ((BitVec.ofNat 32 old &&& ~~~ (m &&& 0xFFFF#32)) ||| (v &&& (m &&& 0xFFFF#32))).toNat.testBit i
      = if m.getLsbD i then v.getLsbD i else old.testBit i := by
  have h16 : (0xFFFF#32 : Word).getLsbD i = true := by
    rw [show (0xFFFF#32 : Word) = BitVec.ofNat 32 (2 ^ 16 - 1) from rfl, BitVec.getLsbD_ofNat, Nat.testBit_two_pow_sub_one]
    simp [hi, Nat.lt_trans hi]
  have h32 : i < 32 := by omega
  rw [BitVec.testBit_toNat, BitVec.getLsbD_or, BitVec.getLsbD_and, BitVec.getLsbD_and, BitVec.getLsbD_not, BitVec.getLsbD_and, h16,
    BitVec.getLsbD_ofNat]
  cases m.getLsbD i <;> simp [h32]

/-- TALLY's next user bits of a thread that issues `w` as `x`. -/
def Thread.tallyNext (x : Thread) (w : Word) : Nat :=
  ((BitVec.ofNat 32 (x.userNext.getD x.user) &&& ~~~ (x.ctx.val (cueR2 w) &&& 0xFFFF#32))
    ||| (x.ctx.val (cueR1 w) &&& (x.ctx.val (cueR2 w) &&& 0xFFFF#32))).toNat

/-! ### SAFE (R244) -/

/-- The effect of SAFE. -/
def safeAct (t : Nat) (c : ThrCtx) (w : Word) (u : State) : State :=
  let p := (kPlus (c.val (cueR1 w)) w).toNat
  if cueSub w = 0 then setT t true (writeLayer t 9 (fun x => { x with on := false }) u)
  else if 63 < p ∨ !u.flag F.WCOMP_SL_PDIM_VALID p then setT t false u
  else setT t true (writeLayer t 9 (fun x => { x with on := true, page := p }) u)

theorem exec_cueSafe_eq (t : Fin 4096) (s : State) : exec (.cueSafe t) s = .next (completeOp 0x35 t (safeAct t) s) := rfl

/-- Settles O41: LSRC by what its request may answer (`LayerAnswer`), the writes of a layer's shadow by `ran_writeLayer`, SIGNAL by
what a push into the Take Queue does, the others by what they make of their own thread (`ranAlone_of_acts`). -/
theorem cueWallAndOutward : Obligations.CueWallAndOutward := by
  refine ⟨fun t x w l s h hl => ?lsrc, fun t x w l a b s h hl ha hb => ?lgeom,
    fun t x w l s hl => ⟨fun h => ?lalpha, fun h => ?lorder, fun h => ?lcommit, fun h => ?safe⟩,
    fun t x w r s h hr => ?signal, fun t x w s => ⟨fun h => ?tally, fun h => ?gpo⟩⟩
  case lsrc =>
    subst hl
    exact exec_cueLsrc h
  case lgeom =>
    subst hl ha hb
    obtain ⟨u, y, rfl, hran, hmem, hctx, hlayer⟩ := ran_writeLayer h (by decide) (field := 3 + cueSub w)
      (act := fun c w => writeLayer t (3 + cueSub w) (setGeom (cueSub w) (c.val (cueR1 w)) (c.val (cueR2 w)))) rfl
    refine ⟨_, y, rfl, hran, hmem, hctx, by rw [hlayer], ?_, ?_, ?_, ?_⟩
    all_goals
      intro hsub
      rw [hlayer, hsub]
      rfl
  case lalpha =>
    subst hl
    obtain ⟨u, y, rfl, hran, hmem, hctx, hlayer⟩ := ran_writeLayer h (by decide) (field := 7) (act := fun c w => writeLayer t 7
      (fun x => { x with alpha := (clampInt 0 4095 ((c.val (cueR1 w)).toInt + (cueK w : Nat))).toNat })) rfl
    refine ⟨_, y, rfl, hran, hmem, hctx, by rw [hlayer], ?_, by rw [hlayer]⟩
    rw [hlayer]
    exact Int.toNat_of_nonneg (le_max_left _ _)
  case lorder =>
    subst hl
    obtain ⟨u, y, rfl, hran, hmem, hctx, hlayer⟩ := ran_writeLayer h (by decide) (field := 8) (act := fun _ w => writeLayer t 8
      (fun x => { x with order := cueK w })) rfl
    exact ⟨_, y, rfl, hran, hmem, hctx, by rw [hlayer], by rw [hlayer]⟩
  case lcommit =>
    obtain ⟨y, hran, hy⟩ := ranAlone_of_acts h (threadActs_issued.setThread { x.stepped w with lcommit := true }) ⟨rfl, rfl, rfl, rfl⟩
      (issued_regs t x w s) (issued_mem t x w s)
    refine ⟨_, y, congrArg Host.Outcome.next ((completeOp_eq_of_standsAt h _).trans ?act), hran, ?flag, ?ctx, ?wall⟩
    case act => simp only [issued_thread?]
    case flag => rcases hy with rfl | rfl <;> rfl
    case ctx =>
      rw [← stepped_ctx_of_standsAt h (by decide)]
      rcases hy with rfl | rfl <;> rfl
    case wall => rw [budgetStop_wcomp]; exact issued_wcomp t x w s
  case safe =>
    subst hl
    rw [exec_cueSafe_eq]
    by_cases h0 : cueSub w = 0
    case pos =>
      obtain ⟨u, y, hu, hran, hmem, hctx, hlayer⟩ := ran_writeLayer_setT h (by decide) (act := safeAct t) (if_pos h0)
      exact ⟨u, y, congrArg Host.Outcome.next hu, hran, hmem, by rw [hctx], by rw [hlayer],
        fun _ => ⟨by rw [hctx], by rw [hlayer]⟩, fun h1 => by omega, fun h1 => by omega⟩
    case neg =>
      by_cases hpage : 63 < (kPlus (x.ctx.val (cueR1 w)) w).toNat
          ∨ (!(s.issued t x w).flag F.WCOMP_SL_PDIM_VALID (kPlus (x.ctx.val (cueR1 w)) w).toNat) = true
      case pos =>
        obtain ⟨y, hran, hctx, -⟩ := ran_setCtx h (by decide) threadActs_issued (fun c => c.test false)
        refine ⟨_, y, congrArg Host.Outcome.next ((completeOp_eq_of_standsAt h _).trans ?act), hran, ?mem, by rw [hctx]; rfl, ?now,
          fun h1 => absurd h1 h0, fun _ _ => ⟨by rw [hctx]; rfl, ?wall⟩, fun _ hp hvalid => ?valid⟩
        case act => exact congrArg (budgetStop t) ((if_neg h0).trans (if_pos hpage))
        case mem => simp
        case now => simp
        case wall => simp
        case valid =>
          rw [issued_flag, hvalid] at hpage
          exact absurd hpage (by simp; omega)
      case neg =>
        obtain ⟨u, y, hu, hran, hmem, hctx, hlayer⟩ := ran_writeLayer_setT h (by decide) (act := safeAct t)
          ((if_neg h0).trans (if_neg hpage))
        exact ⟨u, y, congrArg Host.Outcome.next hu, hran, hmem, by rw [hctx], by rw [hlayer], fun h1 => absurd h1 h0,
          fun _ hp => absurd (.inl hp) hpage, fun _ _ _ => ⟨by rw [hctx], by rw [hlayer], by rw [hlayer]⟩⟩
  case signal =>
    subst hr
    obtain ⟨hthr, hpend, hmem⟩ : (signalPush t x w (s.issued t x w)).2.cue.thr = (s.issued t x w).cue.thr
        ∧ (signalPush t x w (s.issued t x w)).2.pending = (s.issued t x w).pending
        ∧ (signalPush t x w (s.issued t x w)).2.mem = (s.issued t x w).mem := tqPush_frame ..
    obtain ⟨y, hran, hctx, -⟩ := ran_setCtx h (by decide) (threadActs_issued.of_cue hthr hpend)
      (fun c => c.test (signalPush t x w (s.issued t x w)).1)
    refine ⟨_, y, congrArg Host.Outcome.next ((completeOp_eq_of_standsAt h _).trans ?act), hran, ?mem, by rw [hctx]; rfl,
      fun hfull => ?full, fun hroom => ?room, fun hroom howned => ?joins⟩
    case act => simp only [issued_thread?]; rfl
    case mem => rw [budgetStop_mem, setCtx_mem, hmem, issued_mem]
    case full =>
      have full : signalPush t x w (s.issued t x w) = (false, ((s.issued t x w).bump .CUE_TQ_FULL_CNT 0).raise Src.CUE_TQ_FULL) :=
        tqPush_of_full (by rwa [issued_tq])
      rw [full] at hctx ⊢
      refine ⟨by rw [hctx]; rfl, by simp, (keepsSet_budgetStop _ _).isSet _ ?_⟩
      exact (keepsSet_of_flt (setCtx_flt ..)).isSet _ (isSet_raise_same _ (by decide))
    case room =>
      rw [hctx]
      exact tqPush_accepts (by rwa [issued_tq])
    case joins =>
      have joins : signalPush t x w (s.issued t x w) = _ := tqPush_joins (by rwa [issued_tq]) (by rwa [issued_owner])
      obtain ⟨hat, hwriter, hthread⟩ := bitsOf_pushedEntry_w3 (x.ctx.val (cueR1 w)) (x.ctx.val (cueR1 w + 1)) (x.ctx.val (cueR1 w + 2))
        (x.ctx.val (cueR1 w + 3)) (unsign 48 (x.stepped w).clock) (writer := 8) (by decide) t.isLt
      refine ⟨_, ?_, rfl, rfl, rfl, hat, hwriter, hthread, rfl⟩
      rw [budgetStop_tq, setCtx_tq, joins, issued_tq]
  case tally =>
    obtain ⟨y, hran, hy⟩ := ranAlone_of_acts h (threadActs_issued.setThread { x.stepped w with userNext := some (x.tallyNext w) })
      ⟨rfl, rfl, rfl, rfl⟩ (issued_regs t x w s) (issued_mem t x w s)
    refine ⟨_, y, congrArg Host.Outcome.next ((completeOp_eq_of_standsAt h _).trans ?act), hran, ?user, ?ctx, _, ?next,
      fun i hi => testBit_masked _ _ _ hi⟩
    case act => simp only [issued_thread?]; rfl
    case user => rcases hy with rfl | rfl <;> rfl
    case ctx =>
      rw [← stepped_ctx_of_standsAt h (by decide)]
      rcases hy with rfl | rfl <;> rfl
    case next => rcases hy with rfl | rfl <;> rfl
  case gpo =>
    obtain ⟨y, hran, hy⟩ := ranAlone_of_acts h (threadActs_issued.setThread { x.stepped w with
        gpo := x.gpo ++ [(x.ctx.val (cueR1 w), x.ctx.val (cueR2 w))] }) ⟨rfl, rfl, rfl, rfl⟩ (issued_regs t x w s)
      (issued_mem t x w s)
    refine ⟨_, y, congrArg Host.Outcome.next ((completeOp_eq_of_standsAt h _).trans ?act), hran, ?levels, ?ctx, ?gpo⟩
    case act => simp only [issued_thread?]; rfl
    case levels =>
      rw [budgetStop_gpo]
      exact issued_gpo t x w s
    case ctx =>
      rw [← stepped_ctx_of_standsAt h (by decide)]
      rcases hy with rfl | rfl <;> rfl
    case gpo => rcases hy with rfl | rfl <;> rfl

end Sys2Proof.Machine
end

section
/-!
PROOFS. The faults of a cue instruction (R217, R226, R239).
-/

namespace Sys2Proof.Machine

/-- A cause of R239 is one of six. -/
theorem cueFault_le (s : State) (t : Nat) (c : ThrCtx) (w : Word) : s.cueFault t c w ≤ 6 := by
  simp only [State.cueFault]
  split_ifs <;> decide

section
variable {t : Nat} {x : Thread} {s : State}

/-- What a thread that faults becomes. -/
def Thread.faulted (x : Thread) : Thread := { x with st := 6, bover := false, shown := x.ctx, eng := none }

/-- The records of a fault with `cause` of thread `t`, on engine `e`. -/
def noteFault (t cause e : Nat) (s : State) : State :=
  (((s.setFlds t [(F.CUE_THR_STAT_FAULT_S, 1), (F.CUE_THR_STAT_FCAUSE, cause)]).setFlds 0
    [(F.CUE_FAULT_LAST_THREAD, t), (F.CUE_FAULT_LAST_FCAUSE, cause), (F.CUE_FAULT_LAST_ENGINE, e)]).bump .CUE_FAULT_CNT 0).raise
    Src.CUE_THREAD_FAULT

theorem faultThread_eq (cause : Nat) (h : s.thread? t = some x) :
    faultThread t cause s = noteFault t cause (x.eng.getD 0) (endRun t { x with st := 6, bover := false } s) := by
  simp only [faultThread, h]
  rfl

variable (t : Nat) (cause e : Nat) (s : State)

@[simp] theorem noteFault_cue : (noteFault t cause e s).cue = s.cue := by simp [noteFault, State.setFlds]
@[simp] theorem noteFault_mem : (noteFault t cause e s).mem = s.mem := by simp [noteFault, State.setFlds]
@[simp] theorem noteFault_pending : (noteFault t cause e s).pending = s.pending := by simp [noteFault, State.setFlds]

theorem regsBut_noteFault : regsBut [.CUE_THR_STAT, .CUE_FAULT_LAST, .CUE_FAULT_CNT] s (noteFault t cause e s) := by
  simp [noteFault, State.setFlds]

theorem isSet_noteFault : (noteFault t cause e s).isSet Src.CUE_THREAD_FAULT = true := isSet_raise_same _ (by decide)

theorem flag_noteFault : (noteFault t cause e s).flag F.CUE_THR_STAT_FAULT_S t = true := by
  rw [State.flag]
  simp (disch := decide) only [noteFault, State.setFlds, fld_raise, fld_bump_apart, fld_setFld_apart, fld_setFld_same]
  rfl

theorem fld_noteFault_cause (h : cause ≤ 6) : (noteFault t cause e s).fld F.CUE_THR_STAT_FCAUSE t = cause := by
  simp (disch := decide) only [noteFault, State.setFlds, fld_raise, fld_bump_apart, fld_setFld_apart, fld_setFld_same]
  exact Nat.mod_eq_of_lt (Nat.lt_of_le_of_lt h (by decide))

theorem fld_noteFault_lastThread (h : t < 4096) : (noteFault t cause e s).fld F.CUE_FAULT_LAST_THREAD 0 = t := by
  simp (disch := decide) only [noteFault, State.setFlds, fld_raise, fld_bump_apart, fld_setFld_apart, fld_setFld_same]
  exact Nat.mod_eq_of_lt (Nat.lt_of_lt_of_le h (by decide))

theorem fld_noteFault_lastCause (h : cause ≤ 6) : (noteFault t cause e s).fld F.CUE_FAULT_LAST_FCAUSE 0 = cause := by
  simp (disch := decide) only [noteFault, State.setFlds, fld_raise, fld_bump_apart, fld_setFld_apart, fld_setFld_same]
  exact Nat.mod_eq_of_lt (Nat.lt_of_le_of_lt h (by decide))

theorem reg_noteFault_count :
    (noteFault t cause e s).reg .CUE_FAULT_CNT 0 = BitVec.ofNat 32 (min (2 ^ 32 - 1) ((s.reg .CUE_FAULT_CNT 0).toNat + 1)) := by
  simp (disch := decide) only [noteFault, State.setFlds, reg_raise, reg_bump_same, reg_setFld_apart]

end

/-! ### An instruction that faults, or is not started -/

section
variable {op : Nat} {t : Nat} {x : Thread} {w : Word} {f : FrameTimes} {s : State}
  (hthread : s.thread? t = some x) (hfetch : s.cueFetch (s.thrTd t) x.ctx.pc = w) (hopened : (s.tdOf (s.thrTd t)).opened = some f)
include hthread hfetch hopened

/-- A word that meets a cause of a fault makes its thread FAULTED, whatever its effect would be. -/
theorem completeOp_of_fault (hst : x.st = 2) (hop : cueOp w = op ∨ cueOpListed (cueOp w) = false) (hfault : s.cueFault t x.ctx w ≠ 0)
    (hends : x.clock + (cueCost x.ctx w : Nat) < f.shutter) (act : ThrCtx → Word → State → State) :
    ∃ v, ThreadBecomes t { x.faulted with clock := x.clock + (cueCost x.ctx w : Nat) } s v
      ∧ completeOp op t act s = noteFault t (s.cueFault t x.ctx w) (x.eng.getD 0) v := by
  have time : ThreadBecomes t x s (passTo (x.clock + (cueCost x.ctx w : Nat)) s) :=
    ⟨(thread?_of_cue (passTo_cue ..) t).trans hthread, fun k _ => thread?_of_cue (passTo_cue ..) k,
      passTo_regs .., passTo_pending .., passTo_mem ..⟩
  have clocked := time.setThread { x with clock := x.clock + (cueCost x.ctx w : Nat) }
  refine ⟨_, clocked.endRun { x with clock := x.clock + (cueCost x.ctx w : Nat), st := 6, bover := false }, ?_⟩
  have started : ¬ (x.st ≠ 2 ∨ (cueOp w ≠ op ∧ cueOpListed (cueOp w) = true) ∨ f.shutter ≤ x.clock + (cueCost x.ctx w : Nat)) := by
    rintro (hrun | ⟨hother, hlisted⟩ | hlate)
    · exact hrun hst
    · rcases hop with hop | hop
      · exact hother hop
      · simp [hop] at hlisted
    · exact absurd hends (not_lt.2 hlate)
  simp only [completeOp, hthread, hopened, hfetch, if_neg started, if_pos hfault]
  rw [faultThread_eq _ clocked.thread]

/-- An instruction whose last cycle would end at S(N) or later is not started. -/
theorem completeOp_of_late (hlate : f.shutter ≤ x.clock + (cueCost x.ctx w : Nat)) (act : ThrCtx → Word → State → State) :
    completeOp op t act s = s := by
  simp only [completeOp, hthread, hopened, hfetch]
  exact if_pos (.inr (.inr hlate))

end

/-- Settles O42: the fault's records are those of `noteFault`, on a thread that stands where it stood (`completeOp_of_fault`). -/
theorem cueFaultsHaveNoEffect : Obligations.CueFaultsHaveNoEffect := by
  refine ⟨fun t x w f s hthread hst hfetch hfault hop hopened hends => ?faults, fun t x w f s hthread hfetch hopened hlate =>
    congrArg Host.Outcome.next (completeOp_of_late hthread hfetch hopened hlate _)⟩
  obtain ⟨v, hv, heq⟩ := completeOp_of_fault hthread hfetch hopened hst hop hfault hends
    (fun c w u => u.store (scratchAddr t (scratchAt c w).toNat) (leBytes 4 (c.val (cueD w)).toNat))
  have hcause := cueFault_le s t x.ctx w
  have threads (k : Nat) : (noteFault t (s.cueFault t x.ctx w) (x.eng.getD 0) v).thread? k = v.thread? k :=
    thread?_of_cue (noteFault_cue ..) k
  refine ⟨_, _, congrArg Host.Outcome.next heq, (threads t).trans hv.thread, rfl, rfl, rfl, rfl, flag_noteFault ..,
    fld_noteFault_cause _ _ _ _ hcause, fld_noteFault_lastThread _ _ _ _ t.isLt, fld_noteFault_lastCause _ _ _ _ hcause, ?count,
    isSet_noteFault .., fun k hk => (threads k).trans (hv.others k hk),
    regsBut_trans (regsBut_of_regs hv.regs) (regsBut_noteFault t _ _ v), ?still⟩
  case count => rw [reg_noteFault_count, reg_of_regs hv.regs]
  case still => exact ⟨(noteFault_pending ..).trans hv.still.1, (noteFault_mem ..).trans hv.still.2⟩

end Sys2Proof.Machine
end

section
/-!
PROOFS. The Take Queue (R209 to R212).
-/

namespace Sys2Proof.Machine

/-- Every master but the debug port may write. -/
theorem byMaster_of_ne {m : Nat} (h : m ≠ 7) (r : RegName) (i : Nat) (f : State → State) (s : State) : byMaster m r i f s = f s :=
  if_neg fun hm => h hm.1

/-- Event Time is read from the domain that PTP_ET_STAT selects. -/
theorem et_of_ptp {s t : State} (hptp : t.ptp = s.ptp) (hstat : t.fld F.PTP_ET_STAT_CUR_DOM 0 = s.fld F.PTP_ET_STAT_CUR_DOM 0) :
    t.et = s.et := by
  rw [State.et, State.etFull, State.dom, State.curDom, hptp, hstat]
  rfl

theorem et_lt (s : State) : s.et < 2 ^ 48 := by
  unfold State.et unsign
  omega

theorem takeTime_of_no_at {w0 w2 w3 : Word} {accept : Nat} (h : w0.getLsbD 31 = false) : takeTime w0 w2 w3 accept = accept % 2 ^ 48 := by
  simp only [takeTime, h, Bool.false_and, Bool.false_eq_true, if_false]

/-- An entry for an object that no thread owns is discarded and counted (R211). -/
theorem tqPush_discards {w0 w1 w2 w3 : Word} {writer thread accept : Nat} {s : State} (h : s.cue.tq.length < 4096)
    (hnone : s.owner.find? (bitsOf w0.toNat 0 16) = none) :
    tqPush w0 w1 w2 w3 writer thread accept s = (true, s.bump .CUE_TQ_NOOWNER_CNT 0) := by
  simp only [tqPush, if_neg (not_le.2 h), hnone, Option.isNone_none, if_true]

/-- A write of CUE_TQ_W3 by a master that R209 lists pushes the words that stand in the registers. -/
theorem writeTqW3_eq {m : Nat} (h : m ≠ 7) (v : Word) (s : State) : writeTqW3 m v s =
    (tqPush (s.reg .CUE_TQ_W0 0) (s.reg .CUE_TQ_W1 0) (s.reg .CUE_TQ_W2 0) v (m + 1) 0 s.et
      (s.setReg .CUE_TQ_W3 0 (RegName.CUE_TQ_W3.written (s.reg .CUE_TQ_W3 0) v))).2 := by
  have het : (plainWrite .CUE_TQ_W3 0 v s).et = s.et := et_of_ptp rfl (fld_plainWrite_apart rfl (by decide) ..)
  simp only [writeTqW3, if_neg h, het]
  rw [reg_plainWrite_apart rfl (by decide), reg_plainWrite_apart rfl (by decide), reg_plainWrite_apart rfl (by decide),
    plainWrite_of_plain rfl]

/-- Settles O34: the write sets the register (`writeTqW3_eq`), and the push joins, is discarded or finds the queue full. -/
theorem takeQueueAccepts : Obligations.TakeQueueAccepts := by
  refine ⟨fun m v s hm hroom howned => ?joins, fun m v s hm hroom hnone => ?discarded, fun m v s hm hfull => ?full⟩
  all_goals
    have hexec : exec (.tqWrite m v) s = .next (writeTqW3 m v s) := congrArg Host.Outcome.next (byMaster_of_ne hm ..)
    rw [writeTqW3_eq hm] at hexec
  case joins =>
    have joins := tqPush_joins (w1 := s.reg .CUE_TQ_W1 0) (w2 := s.reg .CUE_TQ_W2 0) (w3 := v) (writer := m + 1) (thread := 0)
      (accept := s.et) (s := s.setReg .CUE_TQ_W3 0 (RegName.CUE_TQ_W3.written (s.reg .CUE_TQ_W3 0) v)) hroom howned
    rw [joins] at hexec
    obtain ⟨hat, hwriter, hthread⟩ := bitsOf_pushedEntry_w3 (s.reg .CUE_TQ_W0 0) (s.reg .CUE_TQ_W1 0) (s.reg .CUE_TQ_W2 0) v s.et
      (writer := m + 1) (thread := 0) (by omega) (by decide)
    exact ⟨_, _, hexec, rfl, rfl, rfl, rfl, hat, hwriter, hthread, rfl,
      fun hno => (takeTime_of_no_at hno).trans (Nat.mod_eq_of_lt (et_lt s)),
      regsButAt_setReg (by decide) 0 _ s, rfl, rfl, rfl⟩
  case discarded =>
    have discards := tqPush_discards (w1 := s.reg .CUE_TQ_W1 0) (w2 := s.reg .CUE_TQ_W2 0) (w3 := v) (writer := m + 1) (thread := 0)
      (accept := s.et) (s := s.setReg .CUE_TQ_W3 0 (RegName.CUE_TQ_W3.written (s.reg .CUE_TQ_W3 0) v)) hroom hnone
    rw [discards] at hexec
    refine ⟨_, hexec, rfl, ?count, by simp, rfl, rfl, rfl⟩
    case count => rw [reg_bump_same, reg_setReg_reg _ _ _ _ (by decide)]
  case full =>
    have full := tqPush_of_full (w0 := s.reg .CUE_TQ_W0 0) (w1 := s.reg .CUE_TQ_W1 0) (w2 := s.reg .CUE_TQ_W2 0) (w3 := v)
      (writer := m + 1) (thread := 0) (accept := s.et)
      (s := s.setReg .CUE_TQ_W3 0 (RegName.CUE_TQ_W3.written (s.reg .CUE_TQ_W3 0) v)) hfull
    rw [full] at hexec
    refine ⟨_, hexec, by simp, isSet_raise_same _ (by decide), ?count, by simp, by simp, by simp⟩
    case count => rw [reg_raise, reg_bump_same, reg_setReg_reg _ _ _ _ (by decide)]

end Sys2Proof.Machine
end

section
/-!
SUPPORT. The parts of the state that a command on registers and sources alone leaves as they were.
-/

namespace Sys2Proof.Machine

namespace onlyRegs
variable {s t : State} (h : onlyRegs s t)
include h

theorem cue : t.cue = s.cue := by rw [h]
theorem owner : t.owner = s.owner := by rw [h]
theorem flow : t.flow = s.flow := by rw [h]
theorem now : t.now = s.now := by rw [h]
theorem mem : t.mem = s.mem := by rw [h]
theorem pending : t.pending = s.pending := by rw [h]
theorem thread? (k : Nat) : t.thread? k = s.thread? k := thread?_of_cue h.cue k

end onlyRegs

end Sys2Proof.Machine
end

section
/-!
PROOFS. The thread commands (R199, R200).
-/

namespace Sys2Proof.Machine

/-! ### CUE_THR_CMD with its RESULT -/

/-- The command register after a command with RESULT `r`. -/
def answerCommand (v : Word) (r : Nat) (s : State) : State := (plainWrite .CUE_THR_CMD 0 v s).setFld F.CUE_THR_CMD_RESULT 0 r

section
variable (v : Word) (r : Nat) (s : State)

theorem regsButAt_answerCommand : regsButAt [.CUE_THR_CMD] 0 s (answerCommand v r s) := by
  rw [answerCommand, regsButAt_setFld (by decide), regsButAt_plainWrite rfl (by decide)]
  exact regsButAt_refl

theorem onlyRegs_answerCommand : onlyRegs s (answerCommand v r s) := by simp [answerCommand]

@[simp] theorem answerCommand_cue : (answerCommand v r s).cue = s.cue := (onlyRegs_answerCommand v r s).cue
@[simp] theorem answerCommand_owner : (answerCommand v r s).owner = s.owner := (onlyRegs_answerCommand v r s).owner
@[simp] theorem answerCommand_now : (answerCommand v r s).now = s.now := (onlyRegs_answerCommand v r s).now
@[simp] theorem answerCommand_flt : (answerCommand v r s).flt = s.flt := by simp [answerCommand]
@[simp] theorem answerCommand_fld {f : Fld} (h : f.reg ≠ .CUE_THR_CMD) (i : Nat) : (answerCommand v r s).fld f i = s.fld f i :=
  (regsButAt_answerCommand v r s).fld_other (by simpa using h) i
@[simp] theorem answerCommand_flag {f : Fld} (h : f.reg ≠ .CUE_THR_CMD) (i : Nat) : (answerCommand v r s).flag f i = s.flag f i := by
  rw [State.flag, answerCommand_fld v r s h, State.flag]
@[simp] theorem answerCommand_thrOut (t : Nat) : (answerCommand v r s).thrOut t = s.thrOut t := answerCommand_fld v r s (by decide) t
@[simp] theorem answerCommand_thrBudget (t : Nat) : (answerCommand v r s).thrBudget t = s.thrBudget t := by
  rw [State.thrBudget, answerCommand_flag v r s (by decide), answerCommand_fld v r s (by decide), State.thrBudget]
theorem answerCommand_thread? (t : Nat) : (answerCommand v r s).thread? t = s.thread? t :=
  (onlyRegs_answerCommand v r s).thread? t

theorem fld_answerCommand {r : Nat} (h : r ≤ 7) : (answerCommand v r s).fld F.CUE_THR_CMD_RESULT 0 = r := by
  refine (fld_setFld_same _ (by decide) 0 r).trans ?_
  exact Nat.mod_eq_of_lt (Nat.lt_of_le_of_lt h (by decide))

end

@[simp] theorem setThread_owner (s : State) (t : Nat) (x : Thread) : (s.setThread t x).owner = s.owner := rfl
@[simp] theorem setThread_flt (s : State) (t : Nat) (x : Thread) : (s.setThread t x).flt = s.flt := rfl

/-! ### The command and its refusals -/

theorem op_withOp (v : Word) (op : Nat) (h : op < 8) : F.CUE_THR_CMD_OP.of (withOp v op) = op :=
  (Fld.of_put (by decide) v op).trans (Nat.mod_eq_of_lt h)

theorem thread_withOp (v : Word) (op : Nat) : F.CUE_THR_CMD_THREAD.of (withOp v op) = F.CUE_THR_CMD_THREAD.of v :=
  Fld.of_put_ne (by decide) (by decide) v op

theorem createRefusal_le (s : State) (t : Nat) : s.createRefusal t ≤ 7 := by
  simp only [State.createRefusal]
  split_ifs <;> decide

theorem commandRefusal_le (s : State) (m op t : Nat) : s.commandRefusal m op t ≤ 7 := by
  simp only [State.commandRefusal]
  split_ifs <;> decide

section
variable {m : Nat} {v : Word} {s : State}

theorem threadCommand_create (h : F.CUE_THR_CMD_OP.of v = 1) : threadCommand m v s =
    if s.createRefusal (F.CUE_THR_CMD_THREAD.of v) ≠ 0 then answerCommand v (s.createRefusal (F.CUE_THR_CMD_THREAD.of v)) s
    else createThread (F.CUE_THR_CMD_THREAD.of v) (answerCommand v (s.createRefusal (F.CUE_THR_CMD_THREAD.of v)) s) := by
  simp only [threadCommand, h, if_true]
  rfl

theorem threadCommand_pend {op : Nat} (h : F.CUE_THR_CMD_OP.of v = op) (hop : 2 ≤ op ∧ op ≤ 4) : threadCommand m v s =
    if s.commandRefusal m op (F.CUE_THR_CMD_THREAD.of v) ≠ 0 then answerCommand v (s.commandRefusal m op (F.CUE_THR_CMD_THREAD.of v)) s
    else pendThread (F.CUE_THR_CMD_THREAD.of v) op (answerCommand v (s.commandRefusal m op (F.CUE_THR_CMD_THREAD.of v)) s) := by
  have create : op ≠ 1 := by omega
  simp only [threadCommand, h, if_neg create, if_pos hop]
  rfl

theorem threadCommand_reserved (h : F.CUE_THR_CMD_OP.of v = 0 ∨ 5 ≤ F.CUE_THR_CMD_OP.of v) : threadCommand m v s = answerCommand v 7 s := by
  have create : F.CUE_THR_CMD_OP.of v ≠ 1 := by omega
  have pend : ¬ (2 ≤ F.CUE_THR_CMD_OP.of v ∧ F.CUE_THR_CMD_OP.of v ≤ 4) := by omega
  have refused : (7 : Nat) ≠ 0 := by decide
  simp only [threadCommand, if_neg create, if_neg pend, if_pos refused, answerCommand]

/-- A DELETE, RESTART or STOP that is not refused waits for its instant, and its thread for it. -/
theorem threadCommand_waits {op : Nat} {x : Thread} (hop : 2 ≤ op ∧ op ≤ 4) (hthread : s.thread? (F.CUE_THR_CMD_THREAD.of v) = some x)
    (h : s.commandRefusal m op (F.CUE_THR_CMD_THREAD.of v) = 0) :
    ∃ t, threadCommand m (withOp v op) s = t ∧ t.thread? (F.CUE_THR_CMD_THREAD.of v) = some { x with pend := op }
      ∧ t.fld F.CUE_THR_CMD_RESULT 0 = 0 ∧ t.owner = s.owner ∧ regsButAt [.CUE_THR_CMD] 0 s t ∧ t.flt = s.flt ∧ still s t := by
  have runs : threadCommand m (withOp v op) s
      = (answerCommand (withOp v op) 0 s).setThread (F.CUE_THR_CMD_THREAD.of v) { x with pend := op } := by
    rw [threadCommand_pend (op_withOp v op (by omega)) hop, thread_withOp, h]
    simp only [ne_eq, not_true_eq_false, if_false, pendThread, answerCommand_thread?, hthread]
  refine ⟨_, runs, thread?_setThread_same .., ?result, (setThread_owner ..).trans (answerCommand_owner ..), ?regs,
    (setThread_flt ..).trans (answerCommand_flt ..), ?pending, ?mem⟩
  case pending => rw [setThread_pending, (onlyRegs_answerCommand ..).pending]
  case mem => rw [setThread_mem, (onlyRegs_answerCommand ..).mem]
  case result => rw [fld_eq, reg_of_regs (setThread_regs ..), ← fld_eq, fld_answerCommand _ _ (by decide)]
  case regs => exact regsButAt_trans (regsButAt_answerCommand (withOp v op) 0 s) (regsButAt_of_regs (setThread_regs ..))

end

/-! ### CREATE -/

/-- What an object's creation changes is its own: an audio group's registers, or a layer's routes and settings. -/
theorem objectCreated_frame (o : Nat) (s : State) : (objectCreated o s).cue = s.cue ∧ (objectCreated o s).owner = s.owner
    ∧ (objectCreated o s).flt = s.flt ∧ regsBut [.AUD_GRP_AZX, .AUD_GRP_MASK_LO, .AUD_GRP_MASK_HI] s (objectCreated o s) := by
  unfold objectCreated
  split
  · refine ⟨rfl, rfl, rfl, ?_⟩
    simp only [audGroupCreated]
    rw [regsBut_setReg (by decide), regsBut_setReg (by decide), regsBut_setFld (by decide)]
    exact regsBut_of_regs rfl
  · exact ⟨rfl, rfl, rfl, regsBut_of_regs rfl⟩
  · exact ⟨rfl, rfl, rfl, regsBut_refl⟩

/-- A thread that is created is READY at its ENTRY, and owns its OUT unless that is no object (R196, R200). -/
theorem createThread_frame (t : Nat) (s : State) :
    (createThread t s).thread? t = some (newThread (s.fld F.CUE_THR_ENTRY_ENTRY t) (s.thrBudget t) s.now)
      ∧ (objKind (s.thrOut t) ≠ 7 → (createThread t s).owner.find? (s.thrOut t) = some t)
      ∧ (∀ k, k ≠ t → (createThread t s).thread? k = s.thread? k)
      ∧ (createThread t s).flt = s.flt ∧ regsBut [.AUD_GRP_AZX, .AUD_GRP_MASK_LO, .AUD_GRP_MASK_HI] s (createThread t s) := by
  by_cases hkind : objKind (s.thrOut t) = 7
  case pos =>
    have made : createThread t s = s.setThread t (newThread (s.fld F.CUE_THR_ENTRY_ENTRY t) (s.thrBudget t) s.now) := if_pos hkind
    rw [made]
    exact ⟨thread?_setThread_same .., fun h => absurd hkind h, fun k hk => thread?_setThread_ne _ _ hk, rfl, regsBut_of_regs rfl⟩
  case neg =>
    have made : createThread t s = objectCreated (s.thrOut t) { s.setThread t (newThread (s.fld F.CUE_THR_ENTRY_ENTRY t) (s.thrBudget t) s.now)
        with owner := s.owner.set (s.thrOut t) t } := if_neg hkind
    rw [made]
    obtain ⟨hcue, howner, hflt, hregs⟩ := objectCreated_frame (s.thrOut t)
      { s.setThread t (newThread (s.fld F.CUE_THR_ENTRY_ENTRY t) (s.thrBudget t) s.now) with owner := s.owner.set (s.thrOut t) t }
    exact ⟨(thread?_of_cue hcue t).trans (thread?_setThread_same s t _),
      fun _ => by rw [howner]; exact AMap.find?_set_same _ _ _,
      fun k hk => (thread?_of_cue hcue k).trans (thread?_setThread_ne s _ hk), hflt, regsBut_trans (regsBut_of_regs rfl) hregs⟩

/-- Settles O32: a command answers with its RESULT (`answerCommand`), and then creates its thread, makes it wait, or does nothing. -/
theorem threadCommandsComplete : Obligations.ThreadCommandsComplete := by
  refine ⟨fun m v s hm h => ?create, fun m v s hm h => ?refused, fun m v x s hm hthread => ⟨fun h => ?delete, fun h => ?restart, fun h => ?stop⟩,
    fun m v s hm hm5 hsafe hlive => ?safe, fun v s hop => ?reserved⟩
  case create =>
    have runs : threadCommand m (withOp v 1) s = createThread (F.CUE_THR_CMD_THREAD.of v) (answerCommand (withOp v 1) 0 s) := by
      rw [threadCommand_create (op_withOp v 1 (by decide)), thread_withOp, h]
      exact if_neg fun h0 => h0 rfl
    obtain ⟨hthread, howner, hothers, hflt, hregs⟩ := createThread_frame (F.CUE_THR_CMD_THREAD.of v) (answerCommand (withOp v 1) 0 s)
    rw [answerCommand_fld _ _ _ (by decide), answerCommand_thrBudget, answerCommand_now] at hthread
    rw [answerCommand_thrOut] at howner
    refine ⟨_, _, congrArg Host.Outcome.next ((byMaster_of_ne hm ..).trans runs), hthread, rfl, rfl, rfl, rfl, rfl, howner,
      fun k hk => (hothers k hk).trans (answerCommand_thread? ..), ?result, hflt.trans (answerCommand_flt ..), ?pending, ?mem⟩
    case result => rw [hregs.fld (by decide), fld_answerCommand _ _ (by decide)]
    case pending => rw [createThread_pending, (onlyRegs_answerCommand ..).pending]
    case mem => rw [createThread_mem, (onlyRegs_answerCommand ..).mem]
  case refused =>
    have runs : threadCommand m (withOp v 1) s = answerCommand (withOp v 1) (s.createRefusal (F.CUE_THR_CMD_THREAD.of v)) s := by
      rw [threadCommand_create (op_withOp v 1 (by decide)), thread_withOp]
      exact if_pos h
    exact ⟨_, congrArg Host.Outcome.next ((byMaster_of_ne hm ..).trans runs), fld_answerCommand _ _ (createRefusal_le ..),
      regsButAt_answerCommand _ _ _, answerCommand_flt .., onlyRegs_answerCommand ..⟩
  case delete =>
    obtain ⟨t, rfl, ht⟩ := threadCommand_waits (by decide) hthread h
    exact ⟨_, congrArg Host.Outcome.next (byMaster_of_ne hm ..), ht⟩
  case restart =>
    obtain ⟨t, rfl, ht⟩ := threadCommand_waits (by decide) hthread h
    exact ⟨_, congrArg Host.Outcome.next (byMaster_of_ne hm ..), ht⟩
  case stop =>
    obtain ⟨t, rfl, ht⟩ := threadCommand_waits (by decide) hthread h
    exact ⟨_, congrArg Host.Outcome.next (byMaster_of_ne hm ..), ht⟩
  case safe =>
    have refusal : s.commandRefusal m 2 (F.CUE_THR_CMD_THREAD.of v) = 5 := by
      have live : ¬ (s.thread? (F.CUE_THR_CMD_THREAD.of v)).isNone = true := by simp [Option.isSome_iff_ne_none.1 hlive]
      simp only [State.commandRefusal, if_neg live]
      exact if_pos ⟨hsafe, hm5⟩
    have runs : threadCommand m (withOp v 2) s = answerCommand (withOp v 2) 5 s := by
      rw [threadCommand_pend (op_withOp v 2 (by decide)) (by decide), thread_withOp, refusal]
      exact if_pos (by decide)
    exact ⟨_, congrArg Host.Outcome.next ((byMaster_of_ne hm ..).trans runs), fld_answerCommand _ _ (by decide),
      regsButAt_answerCommand _ _ _, onlyRegs_answerCommand ..⟩
  case reserved =>
    have word : ¬ (1 ≤ F.CUE_THR_CMD_OP.of v ∧ F.CUE_THR_CMD_OP.of v ≤ 4) := by omega
    have runs : threadCommand 0 (if 1 ≤ F.CUE_THR_CMD_OP.of v ∧ F.CUE_THR_CMD_OP.of v ≤ 4 then withOp v 0 else v) s
        = answerCommand v 7 s := by
      rw [if_neg word, threadCommand_reserved hop]
    exact ⟨_, congrArg Host.Outcome.next runs, fld_answerCommand _ _ (by decide), regsButAt_answerCommand _ _ _, answerCommand_flt ..,
      onlyRegs_answerCommand ..⟩

end Sys2Proof.Machine
end

section
/-!
SUPPORT. The registers that show the units of the Vault (R441, R442), and what setting a unit's state or parking it changes.
-/

namespace Sys2Proof.Machine

/-- The registers that show the state of a unit (R442). -/
def unitRegs : List RegName := [.XPT_SLICE_STAT, .CUE_ENG_STAT, .WCOMP_UNIT, .AUD_ASRC_UNIT, .CPU_CORE_STAT, .VAULT_LG_HRS]

theorem unitField_reg_mem (e : Nat) : (unitField e).1.reg ∈ unitRegs := by
  unfold unitField
  split <;> simp [unitRegs]

section
variable {rs : List RegName} {s t : State}

theorem regsBut_setUnit (h : unitRegs ⊆ rs) (e st : Nat) : regsBut rs s (t.setUnit e st) ↔ regsBut rs s t :=
  regsBut_setFld (h (unitField_reg_mem e)) _ _

@[simp] theorem setUnit_flt (s : State) (e st : Nat) : (s.setUnit e st).flt = s.flt := rfl
@[simp] theorem setUnit_cue (s : State) (e st : Nat) : (s.setUnit e st).cue = s.cue := rfl

theorem onlyRegs_setUnit (s : State) (e st : Nat) : onlyRegs s (s.setUnit e st) := onlyRegs_setFld ..

@[simp] theorem KeepsSet.setUnit (h : KeepsSet s t) (e st : Nat) : KeepsSet s (t.setUnit e st) := h.setFld _ _ _

/-- A request for a run is queued, and counted where it has to wait (R396). -/
theorem requestRun_frame (e : Nat) (rotate : Bool) (s : State) : regsBut [.PWR_CAP_HOLD_CNT] s (requestRun e rotate s)
    ∧ KeepsSet s (requestRun e rotate s)
    ∧ onlyRegs { s with vault := (requestRun e rotate s).vault } (requestRun e rotate s) := by
  simp only [requestRun]
  split
  · exact ⟨regsBut_refl, keepsSet_refl s, rfl⟩
  · split
    · refine ⟨?_, ?_, by simp⟩
      · rw [regsBut_raise, regsBut_bump (by decide)]
        exact regsBut_of_regs rfl
      · apply KeepsSet.raise
        apply KeepsSet.bump
        exact keepsSet_of_flt rfl
    · exact ⟨regsBut_of_regs rfl, keepsSet_of_flt rfl, rfl⟩

/-- A unit that is parked shows state 1, and a run of it is requested (R456). -/
theorem unitState_parkUnit (e : Nat) (s : State) (h : (unitField e).1.lo + (unitField e).1.len ≤ 32) (hlen : 1 ≤ (unitField e).1.len) :
    (parkUnit e s).unitState e = 1 := by
  have hreg : (unitField e).1.reg ≠ .PWR_CAP_HOLD_CNT := fun h => by
    have hmem := unitField_reg_mem e
    rw [h] at hmem
    exact absurd hmem (by decide)
  rw [State.unitState, parkUnit, (requestRun_frame e false _).1.fld (by simpa using hreg), State.setUnit, fld_setFld_same _ h]
  exact Nat.mod_eq_of_lt (Nat.one_lt_two_pow (by omega))

end

end Sys2Proof.Machine
end

section
/-!
PROOFS. Budgets, engine shares and engine errors (R201, R202, R204, R207, R208).
-/

namespace Sys2Proof.Machine

theorem KeepsSet.of_flt_left {s t u : State} (h : KeepsSet t u) (hf : t.flt = s.flt) : KeepsSet s u := (keepsSet_of_flt hf).trans h

/-! ### OVERLOAD, and the engines that a domain has -/

/-- Threads and registers stay, and sources that are set stay set. -/
structure ThreadsKept (s t : State) : Prop where
  thr : t.cue.thr = s.cue.thr
  regs : t.regs = s.regs
  set : KeepsSet s t

theorem threadsKept_refl (s : State) : ThreadsKept s s := ⟨rfl, rfl, keepsSet_refl s⟩

theorem ThreadsKept.trans {s t u : State} (h : ThreadsKept s t) (g : ThreadsKept t u) : ThreadsKept s u :=
  ⟨g.thr.trans h.thr, g.regs.trans h.regs, h.set.trans g.set⟩

theorem threadsKept_overloadCheck (s : State) : ThreadsKept s (overloadCheck s) := by
  refine foldl_rel threadsKept_refl ThreadsKept.trans (fun t n => ?_) _ s
  dsimp only
  split
  · split
    · exact ⟨rfl, rfl, keepsSet_refl t⟩
    · refine ⟨by simp, by simp, ?_⟩
      apply KeepsSet.raise
      exact keepsSet_of_flt rfl
  · exact ⟨rfl, rfl, keepsSet_of_flt rfl⟩

/-- Engines change their domains: threads, sources and every register but CUE_ENG_STAT stay. -/
structure ServeOnly (s t : State) : Prop where
  thr : t.cue.thr = s.cue.thr
  flt : t.flt = s.flt
  regs : regsBut [.CUE_ENG_STAT] s t

theorem serveOnly_refl (s : State) : ServeOnly s s := ⟨rfl, rfl, regsBut_refl⟩

theorem ServeOnly.trans {s t u : State} (h : ServeOnly s t) (g : ServeOnly t u) : ServeOnly s u :=
  ⟨g.thr.trans h.thr, g.flt.trans h.flt, regsBut_trans h.regs g.regs⟩

theorem serveOnly_setServe (e : Nat) (n : Option Nat) (s : State) : ServeOnly s (setServe e n s) := by
  unfold setServe
  cases n with
  | none => exact ⟨rfl, rfl, regsBut_of_regs rfl⟩
  | some d => exact ⟨rfl, rfl, (regsBut_setFld (by decide) _ _).2 (regsBut_of_regs rfl)⟩

theorem serveOnly_shareFalls (n : Nat) (s : State) : ServeOnly s (shareFalls n s) :=
  foldl_rel serveOnly_refl ServeOnly.trans (fun t e => serveOnly_setServe e none t) _ s

theorem serveOnly_shareRises (n : Nat) (s : State) : ServeOnly s (shareRises n s) :=
  foldl_rel serveOnly_refl ServeOnly.trans (fun t e => serveOnly_setServe e (some n) t) _ s

theorem serveOnly_shareSettle (s : State) : ServeOnly s (shareSettle s) := by
  refine foldl_rel serveOnly_refl ServeOnly.trans (fun t n => ?_) _ s
  split
  · exact serveOnly_refl t
  · exact (serveOnly_shareFalls n t).trans (serveOnly_shareRises n _)

/-! ### An engine's replacement (R207, R208) -/

/-- A replacement changes units and domains of engines: threads stay, and sources that are set. -/
theorem replaceEngine_frame (e : Nat) (s : State) :
    (replaceEngine e s).cue.thr = s.cue.thr ∧ regsBut unitRegs s (replaceEngine e s) ∧ KeepsSet s (replaceEngine e s) := by
  simp only [replaceEngine]
  split
  · exact ⟨rfl, regsBut_refl, keepsSet_refl s⟩
  · rename_i n _
    have leaves := serveOnly_setServe e none s
    split
    · rename_i u _
      have serves := serveOnly_setServe (u - 18) (some n) ((setServe e none s).setUnit u 0)
      have regs : regsBut unitRegs s (setServe (u - 18) (some n) ((setServe e none s).setUnit u 0)) :=
        regsBut_trans (regsBut_mono (by decide) leaves.regs)
          (regsBut_trans ((regsBut_setUnit (List.Subset.refl _) u 0).2 regsBut_refl) (regsBut_mono (by decide) serves.regs))
      have set : KeepsSet s (setServe (u - 18) (some n) ((setServe e none s).setUnit u 0)) :=
        keepsSet_of_flt (serves.flt.trans leaves.flt)
      split
      · exact ⟨serves.thr.trans leaves.thr, regsBut_trans regs (regsBut_of_regs rfl), set.of_flt rfl⟩
      · exact ⟨serves.thr.trans leaves.thr, regs, set⟩
    · have kept := threadsKept_overloadCheck { setServe e none s with cue := { (setServe e none s).cue with
        lost := (setServe e none s).cue.lost.set n ((setServe e none s).cue.lost.get 0 n + 1) } }
      exact ⟨kept.thr.trans leaves.thr, regsBut_trans (regsBut_mono (by decide) leaves.regs) (regsBut_of_regs kept.regs),
        kept.set.of_flt_left leaves.flt⟩

/-! ### Writes of CUE_THR_CFG and CUE_SHARE -/

/-- The sum of the shares as R202 forms it. -/
theorem foldl_add_eq_sum (l : List Nat) (f : Nat → Nat) : l.foldl (fun a i => a + f i) 0 = (l.map f).sum := by
  rw [← List.foldl_map (f := f) (g := fun a b => a + b), List.sum_eq_foldl]

theorem changes_eq_false {f : Fld} {s : State} {i : Nat} {v : Word} (h : changes f s i v = false) : f.of v = s.fld f i := by
  simpa [changes] using h

section
variable {m n : Nat} {v : Word} {s : State}

/-- A write of a live thread's CUE_THR_CFG that changes its budget alone to one of 1 to 256 that fits is taken (R201). -/
theorem writeThrCfg_accepted (hbuiltin : s.flag F.CUE_THR_CFG_BUILTIN n = false) (hout : changes F.CUE_THR_CFG_OUT s n v = false)
    (htd : changes F.CUE_THR_CFG_TD s n v = false) (hkind : changes F.CUE_THR_CFG_BUILTIN s n v = false)
    (hsafe : changes F.CUE_THR_CFG_SAFE s n v = false) (hlo : 1 ≤ F.CUE_THR_CFG_BUDGET.of v) (hhi : F.CUE_THR_CFG_BUDGET.of v ≤ 256)
    (hfits : F.CUE_THR_CFG_BUDGET.of v ≤ s.thrBudget n ∨ s.cueLoad (s.thrTd n) - budgetCharge (s.thrBudget n)
      + budgetCharge (F.CUE_THR_CFG_BUDGET.of v) ≤ s.cueLimit (s.thrTd n)) :
    writeThrCfg m n v s = overloadCheck (plainWrite .CUE_THR_CFG n v s) := by
  have hzero : (F.CUE_THR_CFG_BUDGET.of v == 0) = false := beq_false_of_ne (by omega)
  have hroom : (decide (s.thrBudget n < F.CUE_THR_CFG_BUDGET.of v) && decide (s.cueLimit (s.thrTd n)
      < s.cueLoad (s.thrTd n) - budgetCharge (s.thrBudget n) + budgetCharge (F.CUE_THR_CFG_BUDGET.of v))) = false := by
    rw [Bool.and_eq_false_iff, decide_eq_false_iff_not, decide_eq_false_iff_not]
    omega
  simp only [writeThrCfg, hout, htd, hkind, hsafe, hbuiltin, hzero, decide_eq_false (not_lt.2 hhi), hroom, Bool.or_false,
    Bool.and_false, Bool.false_and, Bool.false_eq_true, if_false]

theorem writeThrCfg_rejected {x : Thread} (hlive : s.thread? n = some x) (hchange : changes F.CUE_THR_CFG_BUDGET s n v = true)
    (hbad : F.CUE_THR_CFG_BUDGET.of v = 0 ∨ 256 < F.CUE_THR_CFG_BUDGET.of v ∨ s.thrBudget n < F.CUE_THR_CFG_BUDGET.of v ∧
      s.cueLimit (s.thrTd n) < s.cueLoad (s.thrTd n) - budgetCharge (s.thrBudget n) + budgetCharge (F.CUE_THR_CFG_BUDGET.of v)) :
    writeThrCfg m n v s = s.reject .CUE := by
  simp only [writeThrCfg, hlive, hchange, Option.isSome_some, Bool.true_and]
  refine if_pos ?_
  rw [Bool.or_eq_true]
  right
  rcases hbad with h | h | ⟨hmore, hover⟩
  · simp [h]
  · simp [h]
  · simp [hmore, hover]

/-- A share that fits the active engines and leaves the domain's load within its limit is taken (R202). -/
theorem writeShare_accepted
    (hsum : ((List.range 8).map (fun i => if i = n then F.CUE_SHARE_ENGINES.of v else s.fld F.CUE_SHARE_ENGINES i)).sum ≤ s.eAct)
    (hload : s.cueLoad n ≤ s.limitWith n (F.CUE_SHARE_ENGINES.of v - s.cue.lost.get 0 n)) :
    writeShare n v s = shareSettle (plainWrite .CUE_SHARE n v s) := by
  simp only [writeShare, foldl_add_eq_sum, decide_eq_false (not_lt.2 hsum), decide_eq_false (not_lt.2 hload), Bool.or_false,
    Bool.false_eq_true, if_false]

theorem writeShare_rejected
    (hbad : s.eAct < ((List.range 8).map (fun i => if i = n then F.CUE_SHARE_ENGINES.of v else s.fld F.CUE_SHARE_ENGINES i)).sum
      ∨ s.limitWith n (F.CUE_SHARE_ENGINES.of v - s.cue.lost.get 0 n) < s.cueLoad n) : writeShare n v s = s.reject .CUE := by
  simp only [writeShare, foldl_add_eq_sum]
  exact if_pos (by simpa using hbad)

end

/-! ### Engine errors (R208) -/

/-- The records of an engine's error: the thread that ran on it, the cause and the engine. -/
def noteEngineErr (e n : Nat) (s : State) : State :=
  (s.setFlds 0 [(F.CUE_FAULT_LAST_THREAD, n), (F.CUE_FAULT_LAST_FCAUSE, 7), (F.CUE_FAULT_LAST_ENGINE, e)]).raise Src.CUE_ENGINE_ERR

theorem engineErrs_eq {e n : Nat} {x : Thread} {s : State} (hup : s.engUp e = true) (hrun : s.runningOn e = some n)
    (hthread : s.thread? n = some x) :
    engineErrs e s = parkUnit (18 + e) (replaceEngine e (noteEngineErr e n (endRun n { x with st := 1 } s))) := by
  simp only [engineErrs, hup, hrun, hthread, Bool.not_true, Bool.false_eq_true, if_false]
  rfl

theorem keepsSet_parkUnit (e : Nat) (s : State) : KeepsSet s (parkUnit e s) :=
  ((keepsSet_refl s).setUnit e 1).trans (requestRun_frame e false _).2.1

theorem regsBut_parkUnit {rs : List RegName} (h : .PWR_CAP_HOLD_CNT :: unitRegs ⊆ rs) (e : Nat) (s : State) :
    regsBut rs s (parkUnit e s) :=
  regsBut_trans ((regsBut_setUnit (fun _ hr => h (List.mem_cons_of_mem _ hr)) e 1).2 regsBut_refl)
    (regsBut_mono (by simpa using h List.mem_cons_self) (requestRun_frame e false _).1)

theorem parkUnit_cue (e : Nat) (s : State) : (parkUnit e s).cue = s.cue :=
  (requestRun_frame e false (s.setUnit e 1)).2.2.cue

/-- The unit of a cue engine shows in CUE_ENG_STAT (R442). -/
theorem unitField_engine (e : Fin 18) : unitField (18 + e) = (F.CUE_ENG_STAT_STATE, e.val) := by
  decide +revert

/-- Settles O33: the writes of CUE_THR_CFG and CUE_SHARE by what accepts or rejects them; an engine error by what ends the run, records
the engine (`noteEngineErr`), replaces it and parks it. -/
theorem budgetsSharesAndEngines : Obligations.BudgetsSharesAndEngines := by
  refine ⟨fun m n v x s hm hlive hbuiltin hout htd hkind hsafe hlo hhi hfits => ?budget, fun m n v x s hm hlive hchange hbad => ?ignored,
    fun n v s hsum hload => ?share, fun n v s hbad => ?shareIgnored, fun e n x s hup hrun hthread => ?engine,
    fun e s hdown => congrArg Host.Outcome.next (if_pos (by rw [hdown]; rfl))⟩
  case budget =>
    have kept := threadsKept_overloadCheck (plainWrite .CUE_THR_CFG n v s)
    have fld (f : Fld) : (overloadCheck (plainWrite .CUE_THR_CFG n v s)).fld f n = (plainWrite .CUE_THR_CFG n v s).fld f n :=
      fld_of_regs kept.regs f n
    refine ⟨_, congrArg Host.Outcome.next ((byMaster_of_ne hm ..).trans
      (writeThrCfg_accepted hbuiltin hout htd hkind hsafe hlo hhi hfits)), ?value, ?threads, ?regs, ?pending, ?mem⟩
    case value =>
      have notBuiltin : (plainWrite .CUE_THR_CFG n v s).flag F.CUE_THR_CFG_BUILTIN n = false := by
        rw [State.flag, fld_plainWrite (f := F.CUE_THR_CFG_BUILTIN) rfl (by decide), changes_eq_false hkind]
        exact hbuiltin
      rw [State.thrBudget, flag_of_regs kept.regs, notBuiltin, fld]
      exact fld_plainWrite (f := F.CUE_THR_CFG_BUDGET) rfl (by decide) _ _ _
    case threads => rw [kept.thr, plainWrite_of_plain rfl, setReg_cue]
    case regs => exact regsButAt_trans ((regsButAt_plainWrite rfl (by decide) _ v).2 regsButAt_refl) (regsButAt_of_regs kept.regs)
    case pending => rw [overloadCheck_pending, plainWrite_pending]
    case mem => rw [overloadCheck_mem, plainWrite_mem]
  case ignored =>
    exact ⟨_, congrArg Host.Outcome.next ((byMaster_of_ne hm ..).trans (writeThrCfg_rejected hlive hchange hbad)), reject_regs ..,
      isSet_reject .., onlyRegs_reject ..⟩
  case share =>
    have settle := serveOnly_shareSettle (plainWrite .CUE_SHARE n v s)
    refine ⟨_, congrArg Host.Outcome.next (writeShare_accepted hsum hload), ?value, ?threads, ?regs, ?flt, ?pending, ?mem⟩
    case value => exact (settle.regs.fld (by decide) _).trans (fld_plainWrite (f := F.CUE_SHARE_ENGINES) rfl (by decide) _ _ _)
    case threads => rw [settle.thr, plainWrite_of_plain rfl, setReg_cue]
    case regs => exact regsBut_trans ((regsBut_plainWrite rfl (by decide) _ _).2 regsBut_refl) (regsBut_mono (by decide) settle.regs)
    case flt => rw [settle.flt, plainWrite_flt]
    case pending => rw [shareSettle_pending, plainWrite_pending]
    case mem => rw [shareSettle_mem, plainWrite_mem]
  case shareIgnored =>
    exact ⟨_, congrArg Host.Outcome.next (writeShare_rejected hbad), reject_regs .., isSet_reject .., onlyRegs_reject ..⟩
  case engine =>
    obtain ⟨hthr, hregs, hset⟩ := replaceEngine_frame e (noteEngineErr e n (endRun n { x with st := 1 } s))
    have parked := regsBut_parkUnit (rs := .PWR_CAP_HOLD_CNT :: unitRegs) (List.Subset.refl _) (18 + e)
      (replaceEngine e (noteEngineErr e n (endRun n { x with st := 1 } s)))
    have after := regsBut_trans (regsBut_mono (by decide) hregs) parked
    refine ⟨_, { ({ x with st := 1 } : Thread).show with eng := none }, congrArg Host.Outcome.next (engineErrs_eq hup hrun hthread),
      ?state, ?set, ?thread, rfl, rfl, rfl, rfl, ?bover, ?cause, ?engine, ?pending, ?mem⟩
    case state =>
      have unit := unitField_engine e
      have shows := unitState_parkUnit (18 + e) (replaceEngine e (noteEngineErr e n (endRun n { x with st := 1 } s)))
        (by rw [unit]; exact Nat.le_of_ble_eq_true rfl)
        (by rw [unit]; exact Nat.le_of_ble_eq_true rfl)
      rwa [State.unitState, unit] at shows
    case set => exact (keepsSet_parkUnit _ _).isSet _ (hset.isSet _ (isSet_raise_same _ (by decide)))
    case thread =>
      have table : (parkUnit (18 + e) (replaceEngine e (noteEngineErr e n (endRun n { x with st := 1 } s)))).cue.thr
          = (endRun n { x with st := 1 } s).cue.thr := by
        rw [parkUnit_cue, hthr]
        simp [noteEngineErr, State.setFlds]
      rw [State.thread?, table]
      exact (thread?_endRun ..).trans (thread?_setThread_same ..)
    case bover =>
      rw [after _ _ (by decide)]
      simp (disch := decide) only [noteEngineErr, State.setFlds, reg_raise, reg_setFld_apart]
      exact reg_of_regs (endRun_regs ..) _ _
    case cause =>
      rw [after.fld (by decide)]
      simp (disch := decide) only [noteEngineErr, State.setFlds, fld_raise, fld_setFld_apart, fld_setFld_same]
      rfl
    case engine =>
      rw [after.fld (by decide)]
      simp (disch := decide) only [noteEngineErr, State.setFlds, fld_raise, fld_setFld_same]
      exact Nat.mod_eq_of_lt (Nat.lt_trans e.isLt (by decide))
    case pending => simp [noteEngineErr, State.setFlds]
    case mem => simp [noteEngineErr, State.setFlds]

end Sys2Proof.Machine
end

section
/-!
PROOFS. The Flow Table's command queue and INSERT (R147, R148).
-/

namespace Sys2Proof.Machine

/-! ### Entries -/

section
variable (s : State) (i e : Nat)

@[simp] theorem flowAt_setFlowAt_same : (s.setFlowAt i e).flowAt i = e := AMap.get_set_same ..
theorem flowAt_setFlowAt_ne {j : Nat} (h : j ≠ i) : (s.setFlowAt i e).flowAt j = s.flowAt j := AMap.get_set_ne _ _ _ h

end

theorem entryKey_eq_bitsOf (e : Nat) : entryKey e = bitsOf e 28 100 := rfl

theorem entryValid_eq_bitsOf (e : Nat) : entryValid e = (bitsOf e 0 1 == 1) := by
  simp [entryValid, bit, bitsOf]

theorem entryKey_putBits (e : Nat) {lo len : Nat} (h : lo + len ≤ 28) (v : Nat) : entryKey (putBits e lo len v) = entryKey e :=
  bitsOf_putBits_ne _ _ _ _ _ _ (.inr h)

theorem entryValid_putBits (e : Nat) {lo : Nat} (h : 1 ≤ lo) (len v : Nat) : entryValid (putBits e lo len v) = entryValid e := by
  rw [entryValid_eq_bitsOf, entryValid_eq_bitsOf, bitsOf_putBits_ne _ _ _ _ _ _ (.inl h)]

theorem entryValid_killed (e : Nat) : entryValid (putBits e 0 1 0) = false := by
  rw [entryValid_eq_bitsOf, bitsOf_putBits_same]
  rfl

/-- An entry as INSERT places it: valid, with the written key, CTX and ACTION. -/
theorem flowNew_fields (d age : Nat) : entryValid (flowNew d age) = true ∧ entryKey (flowNew d age) = entryKey d
    ∧ bitsOf (flowNew d age) 12 16 = bitsOf d 12 16 := by
  refine ⟨?_, ?_, ?_⟩
  · rw [entryValid_eq_bitsOf, flowNew, bitsOf_putBits_same]
    rfl
  · rw [flowNew, entryKey_putBits _ (by decide), entryKey_putBits _ (by decide), entryKey_putBits _ (by decide)]
  · rw [flowNew, bitsOf_putBits_ne _ _ _ _ _ _ (.inr (by decide)), bitsOf_putBits_ne _ _ _ _ _ _ (.inr (by decide)),
      bitsOf_putBits_ne _ _ _ _ _ _ (.inr (by decide))]

/-! ### The command at the head of the queue -/

/-- The state without the command at the head of the queue. -/
def popCommand (rest : List (Nat × Nat)) (s : State) : State := { s with flow := { s.flow with cmds := rest } }

/-- From `u` to `t` a result is put into the result queue: nothing else changes but what free values were taken. -/
structure Answered (u t : State) (r : FlowRes) : Prop where
  flow : t.flow = { u.flow with results := u.flow.results ++ [r] }
  regs : t.regs = u.regs
  flt : t.flt = u.flt
  mem : t.mem = u.mem
  pending : t.pending = u.pending

theorem Answered.flowAt {u t : State} {r : FlowRes} (h : Answered u t r) (i : Nat) : t.flowAt i = u.flowAt i := by
  rw [State.flowAt, h.flow, State.flowAt]

/-- A command that acts is taken from the queue and answered with one result: its word tells the code, the OP and, where R147 gives
one, the INDEX; its entry is the one that R147 gives. -/
theorem flowRun_acts {p : Nat → Bool} {act : Nat → Nat → State → Nat × Option Nat × Option Nat × State} {c : Nat × Nat}
    {rest : List (Nat × Nat)} {s : State} (hc : s.flow.cmds = c :: rest) (hp : p (cmdOp c) = true) (hroom : s.flow.results.length < 64)
    {code : Nat} {idx ent : Option Nat} {u : State}
    (hact : act (F.FLOW_Q_CMD_INDEX.of (BitVec.ofNat 32 c.1)) c.2 (popCommand rest s) = (code, idx, ent, u)) :
    ∃ t r, flowRun p act s = t ∧ Answered u t r
      ∧ (∀ i, idx = some i → r.word = i + code * 2 ^ 20 + cmdOp c * 2 ^ 24) ∧ (idx = none → r.word / 2 ^ 20 = code + cmdOp c * 16)
      ∧ (∀ e, ent = some e → r.entry = e) := by
  have goes : ¬ ((!p (cmdOp c)) = true ∨ 64 ≤ s.flow.results.length) := by
    rw [hp]
    simpa using hroom
  rw [popCommand] at hact
  simp only [flowRun, hc, if_neg goes, hact]
  have word (n : Nat) : (n % 2 ^ 19 + code * 2 ^ 20 + cmdOp c * 2 ^ 24) / 2 ^ 20 = code + cmdOp c * 16 := by omega
  cases idx with
  | none => cases ent with
    | none => exact ⟨_, _, rfl, ⟨rfl, rfl, rfl, rfl, rfl⟩, nofun, fun _ => word _, nofun⟩
    | some e => exact ⟨_, _, rfl, ⟨rfl, rfl, rfl, rfl, rfl⟩, nofun, fun _ => word _, fun _ h => Option.some.inj h⟩
  | some i => cases ent with
    | none => exact ⟨_, _, rfl, ⟨rfl, rfl, rfl, rfl, rfl⟩, fun _ h => by rw [Option.some.inj h], nofun, nofun⟩
    | some e => exact ⟨_, _, rfl, ⟨rfl, rfl, rfl, rfl, rfl⟩, fun _ h => by rw [Option.some.inj h], nofun, fun _ h => Option.some.inj h⟩

/-! ### INSERT (R148) -/

/-- A copy goes to a slot that is not valid, out of one of the key's candidates. -/
theorem flowMovable_spec {s : State} {key w j : Nat} (h : s.flowMovable key = some (w, j)) : w < 4 ∧ entryValid (s.flowAt j) = false := by
  have hmem := List.mem_of_head? h
  obtain ⟨x, hx, hfind⟩ := List.mem_filterMap.1 hmem
  obtain ⟨i, hi, heq⟩ := Option.map_eq_some_iff.1 hfind
  obtain ⟨rfl, rfl⟩ := Prod.mk.inj heq
  exact ⟨List.mem_range.1 hx, by simpa using List.find?_some hi⟩

/-- No candidate of a key is free. -/
theorem no_free_candidate {s : State} {key : Nat} (h : ∀ x, x < 4 → entryValid (s.flowAt (flowIndex x key)) = true) :
    ((List.range 4).map (fun w => flowIndex w key)).find? (fun i => !entryValid (s.flowAt i)) = none := by
  rw [List.find?_eq_none]
  intro i hi
  obtain ⟨x, hx, rfl⟩ := List.mem_map.1 hi
  simp [h x (List.mem_range.1 hx)]

theorem foldl_four (f g : Nat → Nat) : (List.range 4).foldl (fun a k => a + f k * g k) 0 = f 0 * g 0 + f 1 * g 1 + f 2 * g 2 + f 3 * g 3 := by
  simp only [List.range_succ, List.range_zero, List.nil_append, List.foldl_append, List.foldl_cons, List.foldl_nil, Nat.zero_add]

/-- Four words, the least significant first, as one number. -/
theorem foldl_fourWords (f : Nat → Nat) : (List.range 4).foldl (fun a k => a + f k * 2 ^ (32 * k)) 0
    = f 0 + f 1 * 2 ^ 32 + f 2 * 2 ^ 64 + f 3 * 2 ^ 96 := by
  have h0 : 32 * 0 = 0 := rfl
  have h1 : 32 * 1 = 32 := rfl
  have h2 : 32 * 2 = 64 := rfl
  have h3 : 32 * 3 = 96 := rfl
  rw [foldl_four f fun k => 2 ^ (32 * k), h0, h1, h2, h3, pow_zero, mul_one]

/-- A command is queued with the four entry words as they stand. -/
theorem flowQueue_of_room {v : Word} {s : State} (h : s.flow.cmds.length < 64) : flowQueue v s = { s with flow := { s.flow with
    cmds := s.flow.cmds ++ [(v.toNat, (s.reg .FLOW_Q_DATA 0).toNat + (s.reg .FLOW_Q_DATA 1).toNat * 2 ^ 32
      + (s.reg .FLOW_Q_DATA 2).toNat * 2 ^ 64 + (s.reg .FLOW_Q_DATA 3).toNat * 2 ^ 96)] } } := by
  simp only [flowQueue, if_pos h, foldl_fourWords fun k => (s.reg .FLOW_Q_DATA k).toNat]

/-- Settles O23: the result of each case of INSERT is answered by `flowRun_acts`. -/
theorem flowTableInserts : Obligations.FlowTableInserts := by
  refine ⟨fun v s hroom => ?queued, fun v s hfull => ?overflow, fun c rest i s hc hop hroom hfind => ?held,
    fun c rest i s hc hop hroom hnew hfree => ?free, fun c rest w j s hc hop hroom hnew hall hmove => ?moved,
    fun c rest s hc hop hroom hnew hall hstay => ?full⟩
  case queued =>
    exact ⟨_, congrArg Host.Outcome.next (flowQueue_of_room hroom), rfl, rfl⟩
  case overflow =>
    refine ⟨_, congrArg Host.Outcome.next (if_neg (not_lt.2 hfull)), by simp, isSet_raise_same _ (by decide), ?_, by simp, by simp⟩
    rw [reg_raise, reg_bump_same]
  case held =>
    have find : (popCommand rest s).flowFind (entryKey c.2) = some i := hfind
    obtain ⟨t, r, ht, ha, hword, -, -⟩ := flowRun_acts (p := (· == 1)) (act := flowInsert) hc (by simp [hop]) hroom
      (by simp only [flowInsert, find]; rfl)
    exact ⟨t, r, congrArg Host.Outcome.next ht, by rw [ha.flow]; rfl, by rw [ha.flow]; rfl, by rw [hword i rfl, hop],
      by rw [ha.flow]; rfl, ha.regs, ha.flt, ha.pending, ha.mem⟩
  case free =>
    have find : (popCommand rest s).flowFind (entryKey c.2) = none := hnew
    have slot : ((List.range 4).map (fun w => flowIndex w (entryKey c.2))).find?
        (fun i => !entryValid ((popCommand rest s).freeNat.2.flowAt i)) = some i := hfree
    obtain ⟨t, r, ht, ha, hword, -, -⟩ := flowRun_acts (p := (· == 1)) (act := flowInsert) hc (by simp [hop]) hroom
      (by simp only [flowInsert, find, slot]; rfl)
    obtain ⟨hvalid, hkey, hbits⟩ := flowNew_fields c.2 ((popCommand rest s).freeNat.1 % 4)
    have entry : t.flowAt i = flowNew c.2 ((popCommand rest s).freeNat.1 % 4) := (ha.flowAt i).trans (flowAt_setFlowAt_same ..)
    exact ⟨t, r, congrArg Host.Outcome.next ht, by rw [ha.flow]; rfl, by rw [ha.flow]; rfl, by rw [hword i rfl, hop]; omega,
      by rw [entry, hvalid], by rw [entry, hkey], by rw [entry, hbits],
      fun j hj => (ha.flowAt j).trans (flowAt_setFlowAt_ne _ _ _ hj), ha.regs, ha.flt, ha.pending, ha.mem⟩
  case moved =>
    obtain ⟨hw, hfreeSlot⟩ := flowMovable_spec hmove
    have hne : j ≠ flowIndex w (entryKey c.2) := fun h => by
      rw [h, hall w hw] at hfreeSlot
      exact absurd hfreeSlot (by decide)
    have find : (popCommand rest s).flowFind (entryKey c.2) = none := hnew
    have slot : ((List.range 4).map (fun w => flowIndex w (entryKey c.2))).find?
        (fun i => !entryValid ((popCommand rest s).freeNat.2.flowAt i)) = none := no_free_candidate hall
    have move : (popCommand rest s).freeNat.2.flowMovable (entryKey c.2) = some (w, j) := hmove
    obtain ⟨t, r, ht, ha, hword, -, -⟩ := flowRun_acts (p := (· == 1)) (act := flowInsert) hc (by simp [hop]) hroom
      (by simp only [flowInsert, find, slot, move]; rfl)
    obtain ⟨hvalid, hkey, -⟩ := flowNew_fields c.2 ((popCommand rest s).freeNat.1 % 4)
    have entry : t.flowAt (flowIndex w (entryKey c.2)) = flowNew c.2 ((popCommand rest s).freeNat.1 % 4) :=
      (ha.flowAt _).trans (flowAt_setFlowAt_same ..)
    refine ⟨t, r, congrArg Host.Outcome.next ht, by rw [ha.flow]; rfl, by rw [ha.flow]; rfl, by rw [hword _ rfl, hop]; omega,
      (ha.flowAt j).trans ((flowAt_setFlowAt_ne _ _ _ hne).trans (flowAt_setFlowAt_same ..)), by rw [entry, hkey],
      by rw [entry, hvalid], fun k hkj hki => (ha.flowAt k).trans
        ((flowAt_setFlowAt_ne _ _ _ hki).trans (flowAt_setFlowAt_ne _ _ _ hkj)), ?moves, ?regs, ha.flt, ha.pending, ha.mem⟩
    case moves => exact (reg_of_regs ha.regs _ _).trans (reg_bump_same ..)
    case regs =>
      refine regsButAt_trans ?_ (regsButAt_of_regs ha.regs)
      rw [regsButAt_bump_iff (by decide)]
      exact regsButAt_of_regs rfl
  case full =>
    have find : (popCommand rest s).flowFind (entryKey c.2) = none := hnew
    have slot : ((List.range 4).map (fun w => flowIndex w (entryKey c.2))).find?
        (fun i => !entryValid ((popCommand rest s).freeNat.2.flowAt i)) = none := no_free_candidate hall
    have move : (popCommand rest s).freeNat.2.flowMovable (entryKey c.2) = none := hstay
    obtain ⟨t, r, ht, ha, -, hword, -⟩ := flowRun_acts (p := (· == 1)) (act := flowInsert) hc (by simp [hop]) hroom
      (by simp only [flowInsert, find, slot, move]; rfl)
    have flow := ha.flow
    rw [raise_flow, bump_flow] at flow
    refine ⟨t, r, congrArg Host.Outcome.next ht, by rw [flow]; rfl, by rw [flow]; rfl, by rw [hword rfl, hop], by rw [flow]; rfl,
      (isSet_of_flt ha.flt _).trans (isSet_raise_same _ (by decide)), ?count, ?regs, ?pending, ?mem⟩
    case count =>
      rw [reg_of_regs ha.regs, reg_raise, reg_bump_same]
      rfl
    case regs =>
      refine regsButAt_trans ?_ (regsButAt_of_regs ha.regs)
      rw [regsButAt_raise, regsButAt_bump_iff (by decide)]
      exact regsButAt_of_regs rfl
    case pending =>
      rw [ha.pending, raise_pending]
      rfl
    case mem =>
      rw [ha.mem, raise_mem]
      rfl

end Sys2Proof.Machine
end

section
/-!
SUPPORT. Finite maps: the keys that are found, and a map with every value rewritten.
-/

namespace Sys2Proof

theorem alookup_eq_none_iff {α : Type} (l : List (Nat × α)) (k : Nat) : alookup l k = none ↔ k ∉ l.map (·.1) := by
  induction l with
  | nil => simp [alookup]
  | cons e l ih =>
    by_cases hk : k = e.1
    · simp [alookup, hk]
    · simp [alookup, hk, ih]

theorem alookup_map {α β : Type} (f : Nat → α → β) (l : List (Nat × α)) (k : Nat) :
    alookup (l.map (fun e => (e.1, f e.1 e.2))) k = (alookup l k).map (f k) := by
  induction l with
  | nil => rfl
  | cons e l ih =>
    by_cases hk : k = e.1
    · simp [alookup, hk]
    · simp [alookup, hk, ih]

namespace AMap
variable {α : Type} (m : AMap α)

theorem find?_eq_none_iff (k : Nat) : m.find? k = none ↔ k ∉ m.keys := alookup_eq_none_iff m.entries k

theorem mem_keys_of_find? {k : Nat} {v : α} (h : m.find? k = some v) : k ∈ m.keys := by
  by_contra hk
  rw [(m.find?_eq_none_iff k).2 hk] at h
  exact absurd h (by simp)

theorem get_of_not_mem {k : Nat} (h : k ∉ m.keys) (d : α) : m.get d k = d := by
  rw [get, (m.find?_eq_none_iff k).2 h, Option.getD_none]

theorem find?_map (f : Nat → α → α) (k : Nat) : (m.map f).find? k = (m.find? k).map (f k) := alookup_map f m.entries k

end AMap

end Sys2Proof
end

section
/-!
PROOFS. The Flow Table's other commands, its queues of results and of aged entries, and the ager (R147, R149, R150, R166).
-/

namespace Sys2Proof.Machine

/-! ### Entries that are found -/

theorem flowFind_spec {s : State} {key i : Nat} (h : s.flowFind key = some i) :
    entryValid (s.flowAt i) = true ∧ entryKey (s.flowAt i) = key := by
  simpa using List.find?_some h

/-- An entry that is killed is not valid, and no other one changes. -/
theorem flowAt_flowKill_ne (s : State) {i j : Nat} (h : j ≠ i) : (flowKill i s).flowAt j = s.flowAt j := flowAt_setFlowAt_ne _ _ _ h

theorem entryValid_flowKill (s : State) (i : Nat) : entryValid ((flowKill i s).flowAt i) = false := by
  rw [flowKill, flowAt_setFlowAt_same, entryValid_killed]

theorem flowAt_of_flow {s t : State} (h : t.flow.table = s.flow.table) (i : Nat) : t.flowAt i = s.flowAt i := by
  rw [State.flowAt, h, State.flowAt]

/-! ### The ager (R149) -/

/-- An entry that the ager visits. -/
def agedEntry (e : Nat) : Nat :=
  if !entryValid e ∨ !bit e 12 then e
  else if bitsOf e 10 2 = 0 then putBits e 0 1 0
  else putBits e 10 2 (bitsOf e 10 2 - 1)

/-- The ager takes the entry out: it is valid, its AGE_EN is 1 and its AGE is at its end. -/
def agesOut (e : Nat) : Prop := entryValid e = true ∧ bit e 12 = true ∧ bitsOf e 10 2 = 0

@[simp] theorem agedPut_table (i : Nat) (s : State) : (agedPut i s).flow.table = s.flow.table := by
  unfold agedPut
  split <;> rfl

theorem agedPut_eq (i : Nat) (s : State) : agedPut i s = { s with flow := (agedPut i s).flow } := by
  unfold agedPut
  split <;> rfl

section
variable (s : State) (i : Nat)

/-- The ager's visit, as one state. -/
theorem ageEntry_of_out (h : agesOut (s.flowAt i)) :
    ageEntry s i = (agedPut i ((flowKill i s).bump .FLOW_AGED_CNT 0)).raise Src.FLOW_AGED := by
  obtain ⟨hvalid, hen, hage⟩ := h
  simp [ageEntry, hvalid, hen, hage]

theorem ageEntry_of_not_out (h : ¬ agesOut (s.flowAt i)) :
    ageEntry s i = s ∧ agedEntry (s.flowAt i) = s.flowAt i ∨ ageEntry s i = s.setFlowAt i (agedEntry (s.flowAt i)) := by
  by_cases hskip : (!entryValid (s.flowAt i)) = true ∨ (!bit (s.flowAt i) 12) = true
  · exact .inl ⟨by simp only [ageEntry, if_pos hskip], by simp only [agedEntry, if_pos hskip]⟩
  · have hage : bitsOf (s.flowAt i) 10 2 ≠ 0 := fun h0 => h ⟨by simp_all, by simp_all, h0⟩
    exact .inr (by simp only [ageEntry, agedEntry, if_neg hskip, if_neg hage])

theorem flowAt_ageEntry_same : (ageEntry s i).flowAt i = agedEntry (s.flowAt i) := by
  by_cases h : agesOut (s.flowAt i)
  · rw [ageEntry_of_out s i h, flowAt_of_flow (s := flowKill i s) (by simp), flowKill, flowAt_setFlowAt_same]
    obtain ⟨hvalid, hen, hage⟩ := h
    simp [agedEntry, hvalid, hen, hage]
  · rcases ageEntry_of_not_out s i h with ⟨heq, hsame⟩ | heq
    · rw [heq, hsame]
    · rw [heq, flowAt_setFlowAt_same]

theorem flowAt_ageEntry_ne {j : Nat} (hj : j ≠ i) : (ageEntry s i).flowAt j = s.flowAt j := by
  by_cases h : agesOut (s.flowAt i)
  · rw [ageEntry_of_out s i h, flowAt_of_flow (s := flowKill i s) (by simp), flowAt_flowKill_ne _ hj]
  · rcases ageEntry_of_not_out s i h with ⟨heq, -⟩ | heq
    · rw [heq]
    · rw [heq, flowAt_setFlowAt_ne _ _ _ hj]

theorem keepsSet_ageEntry : KeepsSet s (ageEntry s i) := by
  by_cases h : agesOut (s.flowAt i)
  · rw [ageEntry_of_out s i h]
    apply KeepsSet.raise
    rw [agedPut_eq]
    exact keepsSet_of_flt rfl
  · rcases ageEntry_of_not_out s i h with ⟨heq, -⟩ | heq <;> rw [heq]
    · exact keepsSet_refl s
    · exact keepsSet_of_flt rfl

theorem isSet_ageEntry (h : agesOut (s.flowAt i)) : (ageEntry s i).isSet Src.FLOW_AGED = true := by
  rw [ageEntry_of_out s i h]
  exact isSet_raise_same _ (by decide)

theorem regsButAt_ageEntry : regsButAt [.FLOW_AGED_CNT] 0 s (ageEntry s i) := by
  by_cases h : agesOut (s.flowAt i)
  · rw [ageEntry_of_out s i h, regsButAt_raise]
    have counted : regsButAt [.FLOW_AGED_CNT] 0 s ((flowKill i s).bump .FLOW_AGED_CNT 0) :=
      (regsButAt_bump_iff (by decide)).2 (regsButAt_of_regs rfl)
    exact regsButAt_trans counted (regsButAt_of_regs (by rw [agedPut_eq]))
  · rcases ageEntry_of_not_out s i h with ⟨heq, -⟩ | heq <;> rw [heq]
    · exact regsButAt_refl
    · exact regsButAt_of_regs rfl

end

/-- A pass over distinct indices visits each of them once. -/
theorem flowAt_agePass (l : List Nat) (hl : l.Nodup) (s : State) (i : Nat) :
    (l.foldl ageEntry s).flowAt i = if i ∈ l then agedEntry (s.flowAt i) else s.flowAt i := by
  induction l generalizing s with
  | nil => rfl
  | cons j l ih =>
    obtain ⟨hj, hl⟩ := List.nodup_cons.1 hl
    rw [List.foldl_cons, ih hl]
    by_cases hij : i = j
    · subst hij
      rw [if_neg hj, if_pos List.mem_cons_self, flowAt_ageEntry_same]
    · rw [flowAt_ageEntry_ne _ _ hij]
      simp [hij]

theorem isSet_agePass (l : List Nat) (hl : l.Nodup) (s : State) {i : Nat} (hi : i ∈ l) (h : agesOut (s.flowAt i)) :
    (l.foldl ageEntry s).isSet Src.FLOW_AGED = true := by
  induction l generalizing s with
  | nil => simp at hi
  | cons j l ih =>
    obtain ⟨-, hl⟩ := List.nodup_cons.1 hl
    rw [List.foldl_cons]
    by_cases hij : i = j
    · subst hij
      exact (keepsSet_foldl keepsSet_ageEntry l _).isSet _ (isSet_ageEntry s i h)
    · exact ih hl _ ((List.mem_cons.1 hi).resolve_left hij) (by rwa [flowAt_ageEntry_ne _ _ hij])

/-- A valid entry is one that the table lists. -/
theorem mem_keys_of_valid {s : State} {i : Nat} (h : entryValid (s.flowAt i) = true) : i ∈ s.flow.table.keys := by
  by_contra hmem
  rw [State.flowAt, AMap.get_of_not_mem _ hmem] at h
  exact absurd h (by decide)

/-- The four words of a result's entry, latched (R166). -/
def latchEntry (e : Nat) (s : State) : State :=
  (List.range 4).foldl (fun u k => u.setReg .FLOW_RES_DATA k (BitVec.ofNat 32 (e / 2 ^ (32 * k)))) s

section
variable (e : Nat) (s : State)

theorem reg_latchEntry {k : Nat} (hk : k < 4) : (latchEntry e s).reg .FLOW_RES_DATA k = BitVec.ofNat 32 (e / 2 ^ (32 * k)) := by
  have apart {i j : Nat} (u : State) (v : Word) (h : i ≠ j) : (u.setReg .FLOW_RES_DATA j v).reg .FLOW_RES_DATA i = u.reg .FLOW_RES_DATA i :=
    reg_setReg_ne _ _ fun _ => h
  simp only [latchEntry, List.range_succ, List.range_zero, List.nil_append, List.foldl_append, List.foldl_cons, List.foldl_nil]
  obtain rfl | rfl | rfl | rfl : k = 0 ∨ k = 1 ∨ k = 2 ∨ k = 3 := by omega
  all_goals simp (disch := decide) only [reg_setReg_same, apart]

theorem onlyRegs_latchEntry : onlyRegs s (latchEntry e s) := onlyRegs_foldl (fun _ _ => onlyRegs_setReg ..) _ s

theorem regsBut_latchEntry : regsBut [.FLOW_RES_DATA] s (latchEntry e s) :=
  regsBut_foldl (fun _ _ => (regsBut_setReg (by decide) _ _).2 regsBut_refl) _ s

@[simp] theorem latchEntry_flt : (latchEntry e s).flt = s.flt := by
  simp [latchEntry, List.range_succ]

end

theorem flowResTo_of_result {r : FlowRes} {rest : List FlowRes} {s : State} (m : Nat) (h : s.flow.results = r :: rest) :
    flowResTo m s = (latchEntry r.entry { s with flow := { s.flow with results := rest } }).respond m (r.word + 2 ^ 31) := by
  simp only [flowResTo, h]
  rfl

/-- Settles O24: the commands answer by `flowRun_acts`, the ager visits each listed entry once (`flowAt_agePass`). -/
theorem flowTableAnswersAndAges : Obligations.FlowTableAnswersAndAges := by
  refine ⟨fun c rest s hc hop hroom => ?delete, fun c rest s hc hop hroom => ?lookup, fun c rest s hc hop hroom => ?read,
    fun c rest s hc hop hroom => ?modify, fun c rest s hc hop hroom => ?bad, fun m r rest s hres => ?pop,
    fun m s hres => ?empty, fun m s => ?aged, fun s hnodup hperiod => ?pass, fun s hperiod => congrArg Host.Outcome.next (if_pos hperiod),
    fun s => ?init⟩
  case delete =>
    cases hfind : s.flowFind (entryKey c.2) with
    | none =>
      have find : (popCommand rest s).flowFind (entryKey c.2) = none := hfind
      obtain ⟨t, r, ht, ha, -, hword, -⟩ := flowRun_acts (p := (· == 2)) (act := flowDelete) hc (by simp [hop]) hroom
        (by simp only [flowDelete, find]; rfl)
      exact ⟨t, r, congrArg Host.Outcome.next ht, by rw [ha.flow]; rfl, by rw [ha.flow]; rfl, nofun,
        fun _ => ⟨by rw [hword rfl, hop], by rw [ha.flow]; rfl⟩, ha.regs, ha.flt, ha.pending, ha.mem⟩
    | some i =>
      have find : (popCommand rest s).flowFind (entryKey c.2) = some i := hfind
      obtain ⟨t, r, ht, ha, hword, -, -⟩ := flowRun_acts (p := (· == 2)) (act := flowDelete) hc (by simp [hop]) hroom
        (by simp only [flowDelete, find]; rfl)
      refine ⟨t, r, congrArg Host.Outcome.next ht, by rw [ha.flow]; rfl, by rw [ha.flow]; rfl, ?_, nofun, ha.regs, ha.flt, ha.pending,
        ha.mem⟩
      rintro _ ⟨⟩
      refine ⟨by rw [hword i rfl, hop]; omega, ?_, fun j hj => (ha.flowAt j).trans (flowAt_flowKill_ne _ hj)⟩
      rw [ha.flowAt, entryValid_flowKill]
  case lookup =>
    cases hfind : s.flowFind (entryKey c.2) with
    | none =>
      have find : (popCommand rest s).flowFind (entryKey c.2) = none := hfind
      obtain ⟨t, r, ht, ha, -, hword, -⟩ := flowRun_acts (p := (· == 3)) (act := flowGet) hc (by simp [hop]) hroom
        (by simp only [flowGet, find]; rfl)
      exact ⟨t, r, congrArg Host.Outcome.next ht, by rw [ha.flow]; rfl, by rw [ha.flow]; rfl, nofun,
        fun _ => by rw [hword rfl, hop], by rw [ha.flow]; rfl, ha.regs, ha.flt, ha.pending, ha.mem⟩
    | some i =>
      have find : (popCommand rest s).flowFind (entryKey c.2) = some i := hfind
      obtain ⟨t, r, ht, ha, hword, -, hentry⟩ := flowRun_acts (p := (· == 3)) (act := flowGet) hc (by simp [hop]) hroom
        (by simp only [flowGet, find]; rfl)
      refine ⟨t, r, congrArg Host.Outcome.next ht, by rw [ha.flow]; rfl, by rw [ha.flow]; rfl, ?_, nofun, by rw [ha.flow]; rfl, ha.regs,
        ha.flt, ha.pending, ha.mem⟩
      rintro _ ⟨⟩
      exact ⟨by rw [hword i rfl, hop]; omega, hentry _ rfl⟩
  case read =>
    obtain ⟨t, r, ht, ha, hword, -, hentry⟩ := flowRun_acts (p := (· == 4)) (act := flowRead) hc (by simp [hop]) hroom rfl
    exact ⟨t, r, congrArg Host.Outcome.next ht, by rw [ha.flow]; rfl, by rw [ha.flow]; rfl, hentry _ rfl,
      by rw [hword _ rfl, hop]; omega, by rw [ha.flow]; rfl, ha.regs, ha.flt, ha.pending, ha.mem⟩
  case modify =>
    cases hfind : s.flowFind (entryKey c.2) with
    | none =>
      have find : (popCommand rest s).flowFind (entryKey c.2) = none := hfind
      obtain ⟨t, r, ht, ha, -, hword, -⟩ := flowRun_acts (p := (· == 5)) (act := flowModify) hc (by simp [hop]) hroom
        (by simp only [flowModify, find]; rfl)
      exact ⟨t, r, congrArg Host.Outcome.next ht, by rw [ha.flow]; rfl, by rw [ha.flow]; rfl, nofun,
        fun _ => ⟨by rw [hword rfl, hop], by rw [ha.flow]; rfl⟩, ha.regs, ha.flt, ha.pending, ha.mem⟩
    | some i =>
      have find : (popCommand rest s).flowFind (entryKey c.2) = some i := hfind
      obtain ⟨hvalid, hkey⟩ := flowFind_spec hfind
      obtain ⟨t, r, ht, ha, -, hword, -⟩ := flowRun_acts (p := (· == 5)) (act := flowModify) hc (by simp [hop]) hroom
        (by simp only [flowModify, find]; rfl)
      have entry : t.flowAt i = putBits (s.flowAt i) 12 16 (bitsOf c.2 12 16) := (ha.flowAt i).trans (flowAt_setFlowAt_same ..)
      refine ⟨t, r, congrArg Host.Outcome.next ht, by rw [ha.flow]; rfl, by rw [ha.flow]; rfl, ?_, nofun, ha.regs, ha.flt, ha.pending,
        ha.mem⟩
      rintro _ ⟨⟩
      refine ⟨by rw [hword rfl, hop], ?bits, ?key, ?valid, fun j hj => (ha.flowAt j).trans (flowAt_setFlowAt_ne _ _ _ hj)⟩
      case bits =>
        rw [entry, bitsOf_putBits_same]
        exact Nat.mod_eq_of_lt (Nat.mod_lt _ (by decide))
      case key => rw [entry, entryKey_putBits _ (by decide), hkey]
      case valid => rw [entry, entryValid_putBits _ (by decide), hvalid]
  case bad =>
    obtain ⟨t, r, ht, ha, -, hword, -⟩ := flowRun_acts (p := fun o => o == 0 || decide (5 < o)) (act := flowBad) hc (by simpa using hop)
      hroom rfl
    exact ⟨t, r, congrArg Host.Outcome.next ht, by rw [ha.flow]; rfl, by rw [ha.flow]; rfl, by rw [hword rfl], by rw [ha.flow]; rfl,
      ha.regs, ha.flt, ha.pending, ha.mem⟩
  case pop =>
    have latched := onlyRegs_latchEntry r.entry { s with flow := { s.flow with results := rest } }
    refine ⟨_, congrArg Host.Outcome.next (flowResTo_of_result m hres), ?results, ?table, AMap.find?_set_same ..,
      fun k hk => reg_latchEntry _ _ hk, ?regs, ?flt, ?pending, ?mem⟩
    case results => rw [respond_flow, latched.flow]
    case table => rw [respond_flow, latched.flow]
    case regs =>
      exact regsBut_trans (regsBut_of_regs (t := { s with flow := { s.flow with results := rest } }) rfl)
        (regsBut_trans (regsBut_latchEntry _ _) (regsBut_of_regs (respond_regs ..)))
    case flt => exact (respond_flt ..).trans (latchEntry_flt ..)
    case pending => rw [respond_pending, latched.pending]
    case mem => rw [respond_mem, latched.mem]
  case empty =>
    have runs : flowResTo m s = s.respond m 0 := by simp only [flowResTo, hres]
    refine ⟨_, congrArg Host.Outcome.next runs, fun x hx => ?_, rfl⟩
    rw [State.respond, AMap.find?_set_same] at hx
    obtain rfl := Option.some.inj hx
    rfl
  case aged =>
    cases haged : s.flow.aged with
    | nil =>
      have runs : flowAgedTo m s = s.respond m 0 := by simp only [flowAgedTo, haged]
      exact ⟨_, congrArg Host.Outcome.next runs, haged, rfl, nofun, fun _ => AMap.find?_set_same .., rfl, rfl, rfl, rfl⟩
    | cons i rest =>
      have runs : flowAgedTo m s = { s with flow := { s.flow with aged := rest } }.respond m (i + 2 ^ 31) := by
        simp only [flowAgedTo, haged]
      refine ⟨_, congrArg Host.Outcome.next runs, rfl, rfl, ?_, nofun, rfl, rfl, rfl, rfl⟩
      rintro _ _ ⟨⟩
      exact AMap.find?_set_same ..
  case pass =>
    have entries (i : Nat) := flowAt_agePass s.flow.table.keys hnodup s i
    refine ⟨_, congrArg Host.Outcome.next (if_neg hperiod), fun i hvalid hen => ⟨fun hend => ⟨?out, ?flagged⟩, fun hgo => ?counts⟩,
      fun i hskip => ?skipped, ?regs, foldl_keeps State.pending (fun t i => ageEntry_pending t i) _ s,
      foldl_keeps State.mem (fun t i => ageEntry_mem t i) _ s⟩
    case out =>
      rw [entries, if_pos (mem_keys_of_valid hvalid)]
      simp [agedEntry, hvalid, hen, hend, entryValid_killed]
    case flagged => exact isSet_agePass _ hnodup s (mem_keys_of_valid hvalid) ⟨hvalid, hen, hend⟩
    case counts =>
      rw [entries, if_pos (mem_keys_of_valid hvalid)]
      simp [agedEntry, hvalid, hen, hgo]
    case skipped =>
      rw [entries]
      rcases hskip with h | h <;> simp [agedEntry, h]
    case regs => exact foldl_rel (fun _ => regsButAt_refl) regsButAt_trans regsButAt_ageEntry _ s
  case init =>
    refine ⟨_, rfl, ?flag, fun i => ?entry, ?regs, rfl, rfl, rfl⟩
    case flag => exact flag_setFlag_same _ (by decide) (by decide) 0 true
    case entry =>
      have entry : (flowInit s).flowAt i = ((s.flow.table.find? i).map (fun e => putBits e 0 1 0)).getD 0 :=
        congrArg (Option.getD · 0) (AMap.find?_map ..)
      rw [entry]
      cases s.flow.table.find? i with
      | none => rfl
      | some e => exact entryValid_killed e
    case regs =>
      rw [flowInit, regsButAt_setFlag (by decide)]
      exact regsButAt_of_regs rfl

end Sys2Proof.Machine
end

section
/-!
PROOFS. The media ports (R137): the statement's condition that no other enabled port has the lane is empty, since its bound `q < 128`
compares members of `Fin 128`, where 128 is 0; a lane that another enabled port has is refused.
-/

namespace Sys2Proof.Machine

/-- Lane 0 carries MEDIA both ways, and media port 1 is enabled on it. -/
def laneTaken : State :=
  (State.reset.setFlds 0 [(F.LANE_CFG_RX_PROTO, 2), (F.LANE_CFG_TX_PROTO, 2)]).setFlag F.MPORT_CFG_EN 1 true

/-- A port is not enabled on a lane that another enabled port has (R137). -/
theorem writePortCfg_of_lane_taken {p q : Nat} {v : Word} {s : State} (hq : q < 128) (hne : q ≠ p) (hoff : s.flag F.MPORT_CFG_EN p = false)
    (hon : F.MPORT_CFG_EN.of v = 1) (hen : s.flag F.MPORT_CFG_EN q = true) (hlane : s.portLane q = F.MPORT_CFG_LANE.of v) :
    writePortCfg p v s = s.reject .MPORT := by
  have taken : (List.range 128).any (fun q => q != p && s.flag F.MPORT_CFG_EN q && s.portLane q == F.MPORT_CFG_LANE.of v) = true :=
    List.any_eq_true.2 ⟨q, List.mem_range.2 hq, by simp [hne, hen, hlane]⟩
  simp only [writePortCfg, hoff, hon, taken]
  exact if_pos (by simp)

/-- Refutes O25: media port 0 is to be enabled on lane 0, which port 1 has; the write is rejected, and port 0 stays disabled. -/
theorem not_mediaPortsAndLinks : ¬ Obligations.MediaPortsAndLinks := by
  unfold Obligations.MediaPortsAndLinks
  rintro ⟨enables, -⟩
  have noneBelow : ∀ q : Fin 128, ¬ q < 128 := by decide
  obtain ⟨t, hexec, hon, -⟩ := enables 0 0 laneTaken (by decide) (by decide) (fun q hq => absurd hq (noneBelow q)) (.inl (by decide))
  have refused : writePortCfg 0 (0#32 ||| 1#32) laneTaken = laneTaken.reject .MPORT :=
    writePortCfg_of_lane_taken (q := 1) (by decide) (by decide) (by decide) (by decide) (by decide) (by decide)
  have same : t = laneTaken.reject .MPORT := Host.Outcome.next.inj (hexec.symm.trans (congrArg Host.Outcome.next refused))
  have off : (laneTaken.reject .MPORT).flag F.MPORT_CFG_EN 0 = false := (flag_of_regs (reject_regs ..) _ _).trans (by decide)
  rw [same] at hon
  exact absurd (off.symm.trans hon) (by decide)

end Sys2Proof.Machine
end

section
/-!
PROOFS. The trip (R399): it cuts runs short, and the one that tests the cue stores clears scratch and Cue State RAM at its end (R455).
-/

namespace Sys2Proof.Machine

/-- The run of the cue stores is cut short: the stores are cleared. -/
theorem cutRuns_mem_of_cueStores {cause : Nat} {s : State} (h : s.vault.running = [0x201]) :
    (cutRuns cause s).mem = s.mem.clearRange (bankBase 0) (stateRam + 0x100000) := by
  simp [cutRuns, h, cutRun, State.freeNat, endRunOf, clearBlock]

/-- The third hot reading has come while the cue stores are tested, and a byte of scratch is not 0. -/
def hotUnderTest : State :=
  { State.reset with
    mem := ⟨[(bankBase 0, 1)]⟩
    clk := { State.reset.clk with hot := 3 }
    vault := { State.reset.vault with running := [0x201] } }

/-- Refutes O53: the trip cuts the run of the cue stores short, which clears a byte of memory. -/
theorem not_clocksStartSleepAndTrip : ¬ Obligations.ClocksStartSleepAndTrip := by
  unfold Obligations.ClocksStartSleepAndTrip
  rintro ⟨-, -, -, -, -, -, trip, -⟩
  obtain ⟨t, hexec, -, -, -, -, -, -, -, hmem, -⟩ := trip hotUnderTest (by decide) (by decide)
  have hot : 3 ≤ hotUnderTest.clk.hot ∧ (!hotUnderTest.flag F.PWR_THERM_STAT_TRIPPED 0) = true := by decide
  have cleared : (trips hotUnderTest).mem = hotUnderTest.mem.clearRange (bankBase 0) (stateRam + 0x100000) := by
    simp only [trips, if_pos hot, alertUpdate_mem]
    exact cutRuns_mem_of_cueStores (by simp [State.setFlds, hotUnderTest])
  have same : t = trips hotUnderTest := (Host.Outcome.next.inj hexec).symm
  rw [same, cleared] at hmem
  exact absurd hmem (by decide)

end Sys2Proof.Machine
end

section
/-!
PROOFS. The sources of resets (R404): the statement keeps HBM contents from a state whatever the form of its memory; where the cells
do not ascend, a cell that the reset clears has hidden the ones after it.
-/

namespace Sys2Proof.Machine

/-- A byte of the management buffers stands before a byte of HBM: memory out of order. -/
def outOfOrder : State :=
  { State.reset with
    mem := ⟨[(0x200E800000, 1), (5, 2)]⟩
    rst := { RstState.reset with level := 0 } }

/-- The hidden byte reads 0 before the system reset and 2 after it. -/
theorem outOfOrder_reset_read : (beginReset 3 false false none outOfOrder).mem.read 5 ≠ outOfOrder.mem.read 5 := by
  decide +kernel

/-- Refutes O54: a system reset uncovers a byte of HBM that cells out of order had hidden. -/
theorem not_sourcesBeginTheirResets : ¬ Obligations.SourcesBeginTheirResets := by
  unfold Obligations.SourcesBeginTheirResets
  rintro ⟨system, -⟩
  obtain ⟨-, -, ⟨t, hexec, begun, -⟩, -⟩ := system outOfOrder (by decide) (by decide)
  obtain ⟨-, -, -, -, -, -, -, -, -, -, -, -, -, -, -, -, -, -, -, -, -, -, -, -, -, kept, -⟩ := begun
  have same : t = beginReset 3 false false none outOfOrder := (Host.Outcome.next.inj hexec).symm
  rw [same] at kept
  exact outOfOrder_reset_read (kept 5 (by decide))

end Sys2Proof.Machine
end

section
/-!
PROOFS. Forces and timers (R427, R429): a force sets FSTAT alone, and a source whose FREAL bit is 1 without its FSTAT bit is then
set and real, so that the timer starts. No register write leaves a block so (R425); the statement does not exclude it.
-/

namespace Sys2Proof.Machine

/-- Source 0 of CLK is real and in service, but its FSTAT bit is 0. -/
def realNotSet : State := State.reset.setFaults .CLK { FaultSet.reset .CLK with freal := 1, fen := 1 }

/-- A force of that source starts the timer. -/
theorem writeForce_realNotSet_expiry : ((writeForce .CLK 1 realNotSet).faults .CLK).expiry ≠ none := by decide +kernel

/-- Refutes O56: in MANUFACTURE, with TEST_ESC = 0 and no timer running, a force starts the timer of CLK. -/
theorem not_faultsEscalateAndHbmServes : ¬ Obligations.FaultsEscalateAndHbmServes := by
  unfold Obligations.FaultsEscalateAndHbmServes
  rintro ⟨-, force, -⟩
  obtain ⟨t, hexec, -, -, idle, -⟩ := force .CLK 1 realNotSet (by decide) (by decide)
  have same : t = writeForce .CLK 1 realNotSet := (Host.Outcome.next.inj hexec).symm
  rw [same] at idle
  exact writeForce_realNotSet_expiry (idle (by decide) (by decide))

end Sys2Proof.Machine
end

section
/-!
PROOFS. Locks (R352): the statement holds of every state, and so of one that lists two locks of one port; the reset of the first
lock's master lets the second be seen.
-/

namespace Sys2Proof.Machine

/-- A locked read of core SRAM. -/
def lockedRead : BusOp := ⟨false, true, 0x1000000000, 2, 0, []⟩

/-- The SRAM port is listed as locked by master 0 and by master 1. -/
def lockedTwice : State :=
  { State.reset with bus := { State.reset.bus with lock := ⟨[(1, ⟨0, lockedRead, 0⟩), (1, ⟨1, lockedRead, 0⟩)]⟩ } }

/-- The second lock is found once the first has timed out. -/
theorem lockExpires_lockedTwice : (lockExpires .sram lockedTwice).bus.lock.find? 1 ≠ none := by decide +kernel

/-- Refutes O50: the port is still locked when the lock of master 0 has timed out. -/
theorem not_busGrantsLocksStallsAndDma : ¬ Obligations.BusGrantsLocksStallsAndDma := by
  unfold Obligations.BusGrantsLocksStallsAndDma
  rintro ⟨-, -, -, -, -, expiry, -⟩
  obtain ⟨t, hexec, free, -⟩ := expiry .sram ⟨0, lockedRead, 0⟩ lockedTwice (by decide) (by decide)
  have same : t = lockExpires .sram lockedTwice := (Host.Outcome.next.inj hexec).symm
  rw [same] at free
  exact lockExpires_lockedTwice free

end Sys2Proof.Machine
end

section
/-!
SUPPORT. What fields and flags read after the shared updates, as rules for `simp (disch := decide)`, and the updates of several fields
of a register.
-/

namespace Sys2Proof

theorem alookup_filter_key {α : Type} (p : Nat → Bool) (l : List (Nat × α)) (k : Nat) :
    alookup (l.filter (fun e => p e.1)) k = if p k then alookup l k else none := by
  induction l with
  | nil => simp [alookup]
  | cons e l ih =>
    by_cases he : k = e.1
    · subst he
      cases hp : p e.1
      · simpa [hp] using ih
      · simp [hp, alookup]
    · cases hp : p e.1
      · simp [hp, ih, alookup, he]
      · simp [hp, ih, alookup, he]

/-- A map of which only some keys are kept. -/
theorem AMap.find?_filter_key {α : Type} (m : AMap α) (p : Nat → Bool) (k : Nat) :
    (m.filter (fun j _ => p j)).find? k = if p k then m.find? k else none := alookup_filter_key p m.entries k

end Sys2Proof

namespace Sys2Proof.Machine

section
variable {rs : List RegName} {n : Nat} {s t : State}

/-! ### The passing of time -/

@[simp] theorem passTo_sdi (i : Int) (s : State) : (passTo i s).sdi = s.sdi := by rw [onlyTime_passTo i s]

/-! ### Counters, sources and other updates -/

theorem reg_bumpN_same (r : RegName) (i k : Nat) (s : State) :
    (s.bumpN r i k).reg r i = BitVec.ofNat 32 (min (2 ^ 32 - 1) ((s.reg r i).toNat + k)) := reg_setReg_same ..

/-- A saturating count of no event. -/
theorem sat_add_zero (w : Word) : BitVec.ofNat 32 (min (2 ^ 32 - 1) (w.toNat + 0)) = w := by
  rw [Nat.add_zero, Nat.min_eq_right (by have := w.isLt; omega), BitVec.ofNat_toNat, BitVec.setWidth_eq]

/-- A register that one field fills. -/
theorem reg_of_whole {f : Fld} (hlo : f.lo = 0) (hlen : f.len = 32) (s : State) (i : Nat) : BitVec.ofNat 32 (s.fld f i) = s.reg f.reg i := by
  refine BitVec.eq_of_toNat_eq ?_
  rw [fld_eq, Fld.of, bitsOf, hlo, hlen, Nat.pow_zero, Nat.div_one, BitVec.toNat_ofNat, Nat.mod_mod, Nat.mod_eq_of_lt (s.reg f.reg i).isLt]

theorem fld_bumpN_apart {f : Fld} {q : RegName} (i j k : Nat) (h : f.reg ≠ q) (s : State) : (s.bumpN q i k).fld f j = s.fld f j := by
  rw [fld_eq, reg_bumpN_apart s i j k h, fld_eq]

theorem flag_bumpN_apart {f : Fld} {q : RegName} (i j k : Nat) (h : f.reg ≠ q) (s : State) : (s.bumpN q i k).flag f j = s.flag f j := by
  rw [State.flag, fld_bumpN_apart i j k h, State.flag]

theorem flag_bump_apart {f : Fld} {q : RegName} (i j : Nat) (h : f.reg ≠ q) (s : State) : (s.bump q i).flag f j = s.flag f j :=
  flag_bumpN_apart i j 1 h s

theorem flag_setReg_apart {f : Fld} {r : RegName} (i j : Nat) (v : Word) (h : f.reg ≠ r) (s : State) :
    (s.setReg r i v).flag f j = s.flag f j := by
  rw [State.flag, fld_setReg_apart s i j v h, State.flag]

theorem flag_plainWrite_apart {f : Fld} {r : RegName} (h : r.info.kind = .plain) (hf : f.reg ≠ r) (i j : Nat) (v : Word) (s : State) :
    (plainWrite r i v s).flag f j = s.flag f j := by
  rw [State.flag, fld_plainWrite_apart h hf, State.flag]

theorem flag_plainWrite {f : Fld} (h : f.reg.info.kind = .plain) (hw : f.takesWrite = true) (i : Nat) (v : Word) (s : State) :
    (plainWrite f.reg i v s).flag f i = (f.of v != 0) := by
  rw [State.flag, fld_plainWrite h hw]

@[simp] theorem flag_raiseIf (c : Bool) (x : Src) (f : Fld) (i : Nat) : (s.raiseIf c x).flag f i = s.flag f i :=
  flag_of_regs (raiseIf_regs s c x) f i

@[simp] theorem flag_reject (b : Blk) (f : Fld) (i : Nat) : (s.reject b).flag f i = s.flag f i := flag_of_regs (reject_regs s b) f i

/-- A write by the type codes leaves all but the register file. -/
theorem plainWrite_eq (r : RegName) (i : Nat) (v : Word) (s : State) : plainWrite r i v s = { s with regs := (plainWrite r i v s).regs } := by
  unfold plainWrite
  (repeat' split) <;> rfl

@[simp] theorem plainWrite_now (r : RegName) (i : Nat) (v : Word) (s : State) : (plainWrite r i v s).now = s.now := by rw [plainWrite_eq]
@[simp] theorem plainWrite_sdi (r : RegName) (i : Nat) (v : Word) (s : State) : (plainWrite r i v s).sdi = s.sdi := by rw [plainWrite_eq]
@[simp] theorem plainWrite_xpt (r : RegName) (i : Nat) (v : Word) (s : State) : (plainWrite r i v s).xpt = s.xpt := by rw [plainWrite_eq]
@[simp] theorem plainWrite_owner (r : RegName) (i : Nat) (v : Word) (s : State) : (plainWrite r i v s).owner = s.owner := by rw [plainWrite_eq]
@[simp] theorem plainWrite_cue (r : RegName) (i : Nat) (v : Word) (s : State) : (plainWrite r i v s).cue = s.cue := by rw [plainWrite_eq]
@[simp] theorem plainWrite_aud (r : RegName) (i : Nat) (v : Word) (s : State) : (plainWrite r i v s).aud = s.aud := by rw [plainWrite_eq]
@[simp] theorem plainWrite_vault (r : RegName) (i : Nat) (v : Word) (s : State) : (plainWrite r i v s).vault = s.vault := by rw [plainWrite_eq]
@[simp] theorem plainWrite_wcomp (r : RegName) (i : Nat) (v : Word) (s : State) : (plainWrite r i v s).wcomp = s.wcomp := by rw [plainWrite_eq]
@[simp] theorem plainWrite_wscan (r : RegName) (i : Nat) (v : Word) (s : State) : (plainWrite r i v s).wscan = s.wscan := by rw [plainWrite_eq]
@[simp] theorem plainWrite_bus (r : RegName) (i : Nat) (v : Word) (s : State) : (plainWrite r i v s).bus = s.bus := by rw [plainWrite_eq]
@[simp] theorem plainWrite_mgmt (r : RegName) (i : Nat) (v : Word) (s : State) : (plainWrite r i v s).mgmt = s.mgmt := by rw [plainWrite_eq]
@[simp] theorem plainWrite_otp (r : RegName) (i : Nat) (v : Word) (s : State) : (plainWrite r i v s).otp = s.otp := by rw [plainWrite_eq]
@[simp] theorem plainWrite_idm (r : RegName) (i : Nat) (v : Word) (s : State) : (plainWrite r i v s).idm = s.idm := by rw [plainWrite_eq]
@[simp] theorem plainWrite_clk (r : RegName) (i : Nat) (v : Word) (s : State) : (plainWrite r i v s).clk = s.clk := by rw [plainWrite_eq]
@[simp] theorem plainWrite_rst (r : RegName) (i : Nat) (v : Word) (s : State) : (plainWrite r i v s).rst = s.rst := by rw [plainWrite_eq]
@[simp] theorem plainWrite_hbm (r : RegName) (i : Nat) (v : Word) (s : State) : (plainWrite r i v s).hbm = s.hbm := by rw [plainWrite_eq]
@[simp] theorem plainWrite_fwu (r : RegName) (i : Nat) (v : Word) (s : State) : (plainWrite r i v s).fwu = s.fwu := by rw [plainWrite_eq]
@[simp] theorem plainWrite_esc (r : RegName) (i : Nat) (v : Word) (s : State) : (plainWrite r i v s).esc = s.esc := by rw [plainWrite_eq]

/-- Bit 0 plays no part in a comparison whose mask leaves it out. -/
theorem and_not_one_xor_and {m : Word} (h : m.getLsbD 0 = false) (v r : Word) :
    ((v &&& ~~~ 1#32) ^^^ r) &&& m = (v ^^^ r) &&& m := by
  refine BitVec.eq_of_getLsbD_eq fun i hi => ?_
  rcases Nat.eq_zero_or_pos i with rfl | hpos
  · rw [BitVec.getLsbD_and, BitVec.getLsbD_and, h, Bool.and_false, Bool.and_false]
  · have h1 : i ≠ 0 := hpos.ne'
    simp only [BitVec.getLsbD_and, BitVec.getLsbD_xor, BitVec.getLsbD_not, BitVec.getLsbD_one, hi, h1, decide_true, decide_false,
      Bool.and_false, Bool.and_true, Bool.not_false]

/-- A field that a mask leaves out, and one bit that it sets. -/
theorem Fld.of_or_apart {f : Fld} {m : Word} (h : (List.range f.len).all (fun k => !m.getLsbD (f.lo + k)) = true) (v : Word) :
    f.of (v ||| m) = f.of v := by
  refine Fld.of_congr fun k hk => ?_
  have clear : (!m.getLsbD (f.lo + k)) = true := List.all_eq_true.1 h k (List.mem_range.2 hk)
  simp only [Bool.not_eq_true'] at clear
  rw [BitVec.getLsbD_or, clear, Bool.or_false]

theorem Fld.of_or_bit {f : Fld} {m : Word} (hlen : f.len = 1) (h : m.getLsbD f.lo = true) (v : Word) : f.of (v ||| m) = 1 := by
  refine Nat.eq_of_testBit_eq fun k => ?_
  rw [Fld.testBit_of, hlen]
  rcases k with _ | k
  · simp [h]
  · simp [Nat.testBit_succ]

/-- A one-bit field at bit 0 of a word whose bit 0 is cleared. -/
theorem Fld.of_and_not_one_bit {f : Fld} (hlo : f.lo = 0) (hlen : f.len = 1) (v : Word) : f.of (v &&& ~~~ 1#32) = 0 := by
  rw [Fld.of_bit0 hlo hlen]
  simp [b2n]

/-- Words that agree under a mask agree in the fields that it covers. -/
theorem Fld.of_eq_of_masked {f : Fld} {m v r : Word} (h : (v ^^^ r) &&& m = 0)
    (hm : (List.range f.len).all (fun k => m.getLsbD (f.lo + k)) = true) : f.of v = f.of r := by
  refine Fld.of_congr fun k hk => ?_
  have bit := congrArg (fun w : Word => w.getLsbD (f.lo + k)) h
  have covered : m.getLsbD (f.lo + k) = true := List.all_eq_true.1 hm k (List.mem_range.2 hk)
  simp only [BitVec.getLsbD_and, BitVec.getLsbD_xor, covered, Bool.and_true] at bit
  simpa using bit

theorem regsButAt_mono {rs qs : List RegName} (hq : rs ⊆ qs) (h : regsButAt rs n s t) : regsButAt qs n s t :=
  fun r i hi => h r i fun hr => hi (hq hr)

/-! ### Several fields at once -/

theorem setFlds_nil (s : State) (i : Nat) : s.setFlds i [] = s := rfl

theorem setFlds_cons (s : State) (i : Nat) (e : Fld × Nat) (l : List (Fld × Nat)) :
    s.setFlds i (e :: l) = (s.setFld e.1 i e.2).setFlds i l := rfl

theorem regsButAt_setFlds (l : List (Fld × Nat)) (h : ∀ e ∈ l, e.1.reg ∈ rs) : regsButAt rs n s (t.setFlds n l) ↔ regsButAt rs n s t := by
  induction l generalizing t with
  | nil => exact Iff.rfl
  | cons e l ih =>
    rw [setFlds_cons, ih fun x hx => h x (List.mem_cons_of_mem _ hx), regsButAt_setFld (h e List.mem_cons_self)]

theorem regsBut_setFlds (i : Nat) (l : List (Fld × Nat)) (h : ∀ e ∈ l, e.1.reg ∈ rs) : regsBut rs s (t.setFlds i l) ↔ regsBut rs s t := by
  induction l generalizing t with
  | nil => exact Iff.rfl
  | cons e l ih =>
    rw [setFlds_cons, ih fun x hx => h x (List.mem_cons_of_mem _ hx), regsBut_setFld (h e List.mem_cons_self)]

@[simp] theorem onlyRegs_setFlds_iff (i : Nat) (l : List (Fld × Nat)) : onlyRegs s (t.setFlds i l) ↔ onlyRegs s t := by
  induction l generalizing t with
  | nil => exact Iff.rfl
  | cons e l ih => rw [setFlds_cons, ih, onlyRegs_setFld_iff]

theorem reg_setFlds_apart {r : RegName} (i j : Nat) (l : List (Fld × Nat)) (h : ∀ e ∈ l, r ≠ e.1.reg) (s : State) :
    (s.setFlds i l).reg r j = s.reg r j := by
  induction l generalizing s with
  | nil => rfl
  | cons e l ih =>
    rw [setFlds_cons, ih fun x hx => h x (List.mem_cons_of_mem _ hx), reg_setFld_apart s i j _ (h e List.mem_cons_self)]

end

end Sys2Proof.Machine
end

section
/-!
PROOFS. The framers (R116, R117, R128, R130, R132): the writes of SDI_TX_CFG, and the lines that a framer sends.
-/

namespace Sys2Proof.Machine

/-! ### Writes of SDI_TX_CFG -/

section
variable {n : Nat} {v w : Word} {s : State}

theorem SDI_TX_CFG_EN_of_or_one (v : Word) : F.SDI_TX_CFG_EN.of (v ||| 1#32) = 1 := by
  simp [Fld.of_bit0 (f := F.SDI_TX_CFG_EN) rfl rfl, b2n]

theorem SDI_TX_CFG_EN_of_and_not_one (v : Word) : F.SDI_TX_CFG_EN.of (v &&& ~~~ 1#32) = 0 := by
  simp [Fld.of_bit0 (f := F.SDI_TX_CFG_EN) rfl rfl, b2n]

/-- A framer that is off is enabled by a write that its domain, format and mapping allow (R116, R128). -/
theorem writeTxCfg_enables (hquad : s.quadTx n = false) (hoff : s.flag F.SDI_TX_CFG_EN n = false) (hpid : F.SDI_TX_CFG_PID_MODE.of w ≠ 3)
    (hmay : s.txMayEnable n w = true) :
    writeTxCfg n w s = { plainWrite .SDI_TX_CFG n w s with
      sdi := { (plainWrite .SDI_TX_CFG n w s).sdi with stopping := (plainWrite .SDI_TX_CFG n w s).sdi.stopping.filter (· != n) } } := by
  have pid : (F.SDI_TX_CFG_PID_MODE.of w == 3) = false := beq_false_of_ne hpid
  simp [writeTxCfg, hquad, hoff, hmay, pid]

theorem writeTxCfg_refused (hquad : s.quadTx n = false) (hoff : s.flag F.SDI_TX_CFG_EN n = false) (hon : F.SDI_TX_CFG_EN.of w = 1)
    (hmay : s.txMayEnable n w = false) : writeTxCfg n w s = s.reject .SDI := by
  simp [writeTxCfg, hquad, hoff, hmay, hon]

/-- A write that changes EN alone disables a framer that is on; a running one goes on to its frame's end (R132). -/
theorem writeTxCfg_disables (hquad : s.quadTx n = false) (hon : s.flag F.SDI_TX_CFG_EN n = true)
    (hsame : (w ^^^ s.reg .SDI_TX_CFG n) &&& 0x03FFFF7E#32 = 0) (hpid : F.SDI_TX_CFG_PID_MODE.of w ≠ 3) (hoff : F.SDI_TX_CFG_EN.of w = 0) :
    writeTxCfg n w s = { plainWrite .SDI_TX_CFG n w s with
      sdi := { (plainWrite .SDI_TX_CFG n w s).sdi with
        stopping := if (plainWrite .SDI_TX_CFG n w s).flag F.SDI_TX_STAT_RUNNING n = true
          then n :: (plainWrite .SDI_TX_CFG n w s).sdi.stopping.filter (· != n)
          else (plainWrite .SDI_TX_CFG n w s).sdi.stopping.filter (· != n) } } := by
  have pid : (F.SDI_TX_CFG_PID_MODE.of w == 3) = false := beq_false_of_ne hpid
  simp [writeTxCfg, hquad, hon, hsame, hoff, pid]

end

/-! ### Lines (R130 to R132) -/

section
variable {n line : Nat} {s : State}

/-- What holds of the line that a framer builds for its first stream: black and without audio or ANC where nothing is routed. -/
structure BuiltLine (n line : Nat) (s : State) (o : SdiOut) : Prop where
  line_eq : o.line = line
  unrouted : (s.routes (s.txVout n false)).committed = none → o.present = false ∧ o.audio = [] ∧ o.anc = []
    ∧ (o.words = [] ∨ o.words = blackWords (s.txFmt n false))

/-- A framer puts a line out, shows whether it is routed and its source present, and counts the packets that find no place. -/
def putOut (n : Nat) (o : SdiOut) (routed : Bool) (dropped : Nat) (s : State) : State :=
  let s1 := s.setFlds n [(F.SDI_TX_STAT_SRC_PRESENT, b2n o.present), (F.SDI_TX_STAT_ROUTED, b2n routed)]
  let s2 := { s1 with sdi := { s1.sdi with out := s1.sdi.out.set n o } }
  let s3 := if dropped = 0 then s2
    else ((s2.bumpN .SDI_TX_ANC_DROP n dropped).setFlag F.SDI_TX_STAT_ANC_DROP_S n true).raise Src.SDI_ANC_DROP
  s3.raiseIf (routed && !o.present) Src.SDI_TX_NO_SOURCE

theorem txBuild_eq (n line : Nat) (s : State) :
    ∃ o d, txBuild n false line s = putOut n o (s.routes (s.txVout n false)).committed.isSome d s ∧ BuiltLine n line s o := by
  simp only [txBuild, putOut, Bool.false_eq_true, if_false]
  refine ⟨⟨line, _, _, _, _, _⟩, _, rfl, rfl, fun hnone => ?_⟩
  have routed : (s.routes (s.txVout n false)).committed.isSome = false := by rw [hnone]; rfl
  simp only [routed, Bool.false_and, Bool.false_eq_true, if_false, placeAnc]
  exact ⟨trivial, trivial, trivial, (ite_eq_or_eq ..)⟩

variable {o : SdiOut} {routed : Bool} {dropped : Nat}

theorem putOut_out : (putOut n o routed dropped s).sdi = { s.sdi with out := s.sdi.out.set n o } := by
  simp only [putOut, raiseIf_sdi]
  split
  · rfl
  · simp only [raise_sdi, setFlag_sdi, bumpN_sdi]
    rfl

/-- What a line put out leaves of a field of the framers' registers. -/
theorem flag_putOut {f : Fld} (h : fldApart F.SDI_TX_STAT_ANC_DROP_S f = true) (hf : f.reg ≠ .SDI_TX_ANC_DROP) (i : Nat) :
    (putOut n o routed dropped s).flag f i =
      (s.setFlds n [(F.SDI_TX_STAT_SRC_PRESENT, b2n o.present), (F.SDI_TX_STAT_ROUTED, b2n routed)]).flag f i := by
  simp only [putOut, flag_raiseIf]
  split
  · exact flag_of_regs rfl f i
  · rw [flag_raise, flag_setFlag_apart _ (by decide) h, flag_bumpN_apart _ _ _ hf]
    exact flag_of_regs rfl f i

theorem putOut_frame : regsButAt [.SDI_TX_STAT, .SDI_TX_ANC_DROP] n s (putOut n o routed dropped s) := by
  have shown : regsButAt [.SDI_TX_STAT, .SDI_TX_ANC_DROP] n s
      (s.setFlds n [(F.SDI_TX_STAT_SRC_PRESENT, b2n o.present), (F.SDI_TX_STAT_ROUTED, b2n routed)]) :=
    (regsButAt_setFlds _ (by simp)).2 regsButAt_refl
  simp only [putOut, regsButAt_raiseIf]
  split
  · exact regsButAt_trans shown (regsButAt_of_regs rfl)
  · rw [regsButAt_raise, regsButAt_setFlag (by decide), regsButAt_bumpN (by decide)]
    exact regsButAt_trans shown (regsButAt_of_regs rfl)

theorem flag_putOut_routed : (putOut n o routed dropped s).flag F.SDI_TX_STAT_ROUTED n = routed := by
  rw [flag_putOut (by decide) (by decide)]
  simp (disch := decide) only [State.setFlds, State.flag, fld_setFld_same]
  cases routed <;> rfl

theorem flag_putOut_present : (putOut n o routed dropped s).flag F.SDI_TX_STAT_SRC_PRESENT n = o.present := by
  rw [flag_putOut (by decide) (by decide)]
  simp (disch := decide) only [State.setFlds, State.flag, fld_setFld_same, fld_setFld_apart]
  cases o.present <;> rfl

theorem flag_putOut_running : (putOut n o routed dropped s).flag F.SDI_TX_STAT_RUNNING n = s.flag F.SDI_TX_STAT_RUNNING n := by
  rw [flag_putOut (by decide) (by decide)]
  simp (disch := decide) only [State.setFlds, State.flag, fld_setFld_apart]

/-- Line 1 of a framer that is on: RUNNING follows whether it is idle with no route (R132). -/
theorem txFrameStart_facts (n o : Nat) (s : State) :
    (txFrameStart n o s).flag F.SDI_TX_STAT_RUNNING n = !(s.flag F.SDI_TX_CFG_IDLE n && (s.routes o).committed.isNone)
      ∧ (txFrameStart n o s).sdi = s.sdi ∧ (txFrameStart n o s).flt = s.flt := by
  have regs : ((List.range 8).foldl (fun t k => t.commitReg .SDI_TX_ANC_DEL (8 * n + k)) (s.commitReg .SDI_TX_PID n)).regs = s.regs := by
    rw [foldl_keeps State.regs (fun _ _ => commitReg_regs ..), commitReg_regs]
  have xpt : ((List.range 8).foldl (fun t k => t.commitReg .SDI_TX_ANC_DEL (8 * n + k)) (s.commitReg .SDI_TX_PID n)).xpt = s.xpt := by
    rw [foldl_keeps State.xpt (fun _ _ => commitReg_xpt ..), commitReg_xpt]
  refine ⟨?_, foldl_keeps State.sdi (fun _ _ => commitReg_sdi ..) _ _, foldl_keeps State.flt (fun _ _ => commitReg_flt ..) _ _⟩
  simp only [txFrameStart]
  rw [flag_setFlag_same _ (by decide) rfl, flag_of_regs regs, State.routes, xpt, State.routes]

/-- A running framer that is not stopping sends a line. -/
theorem sdiLineOut_running (hon : s.flag F.SDI_TX_CFG_EN n = true) (hrun : s.flag F.SDI_TX_STAT_RUNNING n = true) (hline : line ≠ 1)
    (hgoes : s.sdi.stopping.contains n = false) : sdiLineOut n false line s = txBuild n false line s := by
  simp only [sdiLineOut, hon, hgoes]
  simp [hrun, hline]

theorem sdiLineOut_first (hon : s.flag F.SDI_TX_CFG_EN n = true) (hgoes : s.sdi.stopping.contains n = false) :
    sdiLineOut n false 1 s = if (txFrameStart n (s.txVout n false) s).flag F.SDI_TX_STAT_RUNNING n = true
      then txBuild n false 1 (txFrameStart n (s.txVout n false) s) else txFrameStart n (s.txVout n false) s := by
  simp only [sdiLineOut, hon, hgoes]
  cases h : (txFrameStart n (s.txVout n false) s).flag F.SDI_TX_STAT_RUNNING n <;> simp [h]

/-- The last line of a framer that stops ends it (R132). -/
theorem sdiLineOut_last (hoff : s.flag F.SDI_TX_CFG_EN n = false) (hstops : s.sdi.stopping.contains n = true)
    (hrun : s.flag F.SDI_TX_STAT_RUNNING n = true)
    (hlast : line = fmtTotalLines ((txBuild n false line s).txFmt n false)) :
    sdiLineOut n false line s = { (txBuild n false line s).setFlag F.SDI_TX_STAT_RUNNING n false with
      sdi := { (txBuild n false line s).sdi with stopping := (txBuild n false line s).sdi.stopping.filter (· != n) } } := by
  simp only [sdiLineOut, hoff, hstops]
  simp only [Bool.not_true, Bool.and_false, Bool.false_and, Bool.false_eq_true, if_false, and_false, hrun, true_and]
  exact if_pos hlast

end

/-- Settles O22: each write and each line through the rule of its case. -/
theorem framersSendLines : Obligations.FramersSendLines := by
  unfold Obligations.FramersSendLines
  refine ⟨fun n v s hquad hoff hpid hmay => ?_, fun n v s hquad hoff hmay => ?_, fun n v s hquad hon hsame hpid => ?_,
    fun n s hon hidle hnone hgoes => ?_, fun n s hon hruns hgoes => ?_, fun n line s hon hrun hline hgoes => ?_,
    fun n s hoff hstops hrun => ?_⟩
  · have or_one {f : Fld} (h : 1 ≤ f.lo) : f.of (v ||| 1#32) = f.of v := Fld.of_or_one h v
    refine ⟨_, congrArg Host.Outcome.next (writeTxCfg_enables hquad hoff (by rwa [or_one (by decide)]) hmay), ?_, ?_, ?_, ?_, ?_, ?_,
      plainWrite_flt .., by simp, by simp⟩
    · refine (flag_of_regs rfl _ _).trans ((flag_plainWrite (f := F.SDI_TX_CFG_EN) rfl (by decide) _ _ _).trans ?_)
      rw [SDI_TX_CFG_EN_of_or_one]
      rfl
    · exact (fld_of_regs rfl _ _).trans ((fld_plainWrite (f := F.SDI_TX_CFG_MAP) rfl (by decide) _ _ _).trans (or_one (by decide)))
    · exact (fld_of_regs rfl _ _).trans ((fld_plainWrite (f := F.SDI_TX_CFG_FMT) rfl (by decide) _ _ _).trans (or_one (by decide)))
    · exact (fld_of_regs rfl _ _).trans ((fld_plainWrite (f := F.SDI_TX_CFG_VOUT) rfl (by decide) _ _ _).trans (or_one (by decide)))
    · exact (fld_of_regs rfl _ _).trans ((fld_plainWrite (f := F.SDI_TX_CFG_IDLE) rfl (by decide) _ _ _).trans (or_one (by decide)))
    · exact regsButAt_trans ((regsButAt_plainWrite rfl (by decide) _ _).2 regsButAt_refl) (regsButAt_of_regs rfl)
  · exact ⟨_, congrArg Host.Outcome.next (writeTxCfg_refused hquad hoff (SDI_TX_CFG_EN_of_or_one v) hmay), reject_regs .., isSet_reject .., by simp⟩
  · have unset {f : Fld} (h : 1 ≤ f.lo) (hi : f.lo + f.len ≤ 32) : f.of (v &&& ~~~ 1#32) = f.of v := Fld.of_and_not_one h hi v
    have same : ((v &&& ~~~ 1#32) ^^^ s.reg .SDI_TX_CFG n) &&& 0x03FFFF7E#32 = 0 :=
      (and_not_one_xor_and (by decide) v _).trans hsame
    refine ⟨_, congrArg Host.Outcome.next (writeTxCfg_disables hquad hon same (by rwa [unset (by decide) (by decide)])
      (SDI_TX_CFG_EN_of_and_not_one v)), ?_, fun hrun => ?_, by rw [plainWrite_sdi], ?_, plainWrite_flt .., by simp, by simp⟩
    · refine (flag_of_regs rfl _ _).trans ((flag_plainWrite (f := F.SDI_TX_CFG_EN) rfl (by decide) _ _ _).trans ?_)
      rw [SDI_TX_CFG_EN_of_and_not_one]
      rfl
    · rw [flag_plainWrite_apart rfl (by decide), if_pos hrun]
      exact List.mem_cons_self
    · exact regsButAt_trans ((regsButAt_plainWrite rfl (by decide) _ _).2 regsButAt_refl) (regsButAt_of_regs rfl)
  · obtain ⟨running, sdi, flt⟩ := txFrameStart_facts n (s.txVout n false) s
    rw [hidle, hnone] at running
    refine ⟨_, congrArg Host.Outcome.next ((sdiLineOut_first hon hgoes).trans (if_neg (by simp [running]))), running, sdi, flt, by simp,
      by simp⟩
  · obtain ⟨running, sdi, flt⟩ := txFrameStart_facts n (s.txVout n false) s
    have runs : (txFrameStart n (s.txVout n false) s).flag F.SDI_TX_STAT_RUNNING n = true := by
      rw [running]
      rcases hruns with h | h
      · simp [h]
      · simp [Option.isNone_eq_false_iff.2 (Option.isSome_iff_ne_none.2 h)]
    obtain ⟨o, d, built, line_eq, -⟩ := txBuild_eq n 1 (txFrameStart n (s.txVout n false) s)
    refine ⟨_, o, congrArg Host.Outcome.next ((sdiLineOut_first hon hgoes).trans (if_pos runs)), ?_, ?_, line_eq, by simp, by simp⟩
    · rw [built, flag_putOut_running, runs]
    · rw [built, putOut_out]
      exact AMap.find?_set_same ..
  · obtain ⟨o, d, built, line_eq, unrouted⟩ := txBuild_eq n line s
    refine ⟨_, o, congrArg Host.Outcome.next (sdiLineOut_running hon hrun hline hgoes), ?_, line_eq, unrouted, ?_, ?_, ?_, ?_,
      by simp, by simp⟩
    · rw [built, putOut_out]
      exact AMap.find?_set_same ..
    · rw [built, flag_putOut_routed]
    · rw [built, flag_putOut_present]
    · rw [built, flag_putOut_running, hrun]
    · rw [built]
      exact putOut_frame
  · obtain ⟨o, d, built, -, -⟩ := txBuild_eq n (fmtTotalLines (s.txFmt n false)) s
    have fmt : (txBuild n false (fmtTotalLines (s.txFmt n false)) s).txFmt n false = s.txFmt n false := by
      rw [built]
      exact putOut_frame.fld_other (f := F.SDI_TX_CFG_FMT) (by decide) n
    refine ⟨_, congrArg Host.Outcome.next (sdiLineOut_last hoff hstops hrun (by rw [fmt])), ?_, ?_, by simp, by simp⟩
    · exact (flag_of_regs rfl _ _).trans (flag_setFlag_same _ (by decide) rfl _ _)
    · simp

end Sys2Proof.Machine
end

section
/-!
PROOFS. The deframers (R116, R119, R123, R125, R170, R172): the writes of SDI_RX_CFG, and the lines that a deframer receives.
-/

namespace Sys2Proof.Machine

/-! ### The feeders of VINs (R170, R172) -/

section
variable {s t u : State} {v w : Nat}

@[simp] theorem vinRec_setVin_same (s : State) (v : Nat) (x : VinRec) : (s.setVin v x).vinRec v = x := AMap.get_set_same ..

theorem vinRec_setVin_ne (x : VinRec) (h : w ≠ v) (s : State) : (s.setVin v x).vinRec w = s.vinRec w := AMap.get_set_ne _ _ _ h

/-- Registers stay, and a VIN that has a feeder keeps it. -/
structure KeepsFeeders (s t : State) : Prop where
  regs : t.regs = s.regs
  feeder : ∀ v, (s.vinRec v).feeder = true → (t.vinRec v).feeder = true

theorem keepsFeeders_refl (s : State) : KeepsFeeders s s := ⟨rfl, fun _ h => h⟩

theorem KeepsFeeders.trans (h : KeepsFeeders s t) (g : KeepsFeeders t u) : KeepsFeeders s u :=
  ⟨g.regs.trans h.regs, fun v hv => g.feeder v (h.feeder v hv)⟩

theorem keepsFeeders_of_xpt (hr : t.regs = s.regs) (hx : t.xpt = s.xpt) : KeepsFeeders s t :=
  ⟨hr, fun v hv => by rwa [State.vinRec, hx]⟩

theorem keepsFeeders_setVin {x : VinRec} (h : (s.vinRec v).feeder = true → x.feeder = true) : KeepsFeeders s (s.setVin v x) := by
  refine ⟨rfl, fun w hw => ?_⟩
  by_cases hv : w = v
  · subst hv
    rw [vinRec_setVin_same]
    exact h hw
  · rwa [vinRec_setVin_ne x hv]

theorem keepsFeeders_setVinPresent (v : Nat) (b : Bool) (s : State) : KeepsFeeders s (setVinPresent v b s) := keepsFeeders_setVin id

theorem keepsFeeders_reserveVin (v fmt : Nat) (s : State) : KeepsFeeders s (reserveVin v fmt s) := by
  unfold reserveVin
  split
  · rename_i t ht
    unfold State.reserveStore at ht
    split at ht
    · rw [← Option.some.inj ht]
      exact ⟨rfl, fun _ h => h⟩
    · exact absurd ht (by simp)
  · exact (keepsFeeders_setVin (x := { s.vinRec v with noStore := true }) id).trans (keepsFeeders_of_xpt (by simp) (by simp))

/-- A VIN to which a feeder is attached has one; the others keep theirs. -/
theorem attachVin_feeders (v kind fmt map din10 : Nat) (s : State) :
    KeepsFeeders s (attachVin v kind fmt map din10 s) ∧ ((attachVin v kind fmt map din10 s).vinRec v).feeder = true := by
  have attached {u : State} {x : VinRec} (l : List Nat) (hr : u.regs = s.regs) (hv : u.xpt.vin = s.xpt.vin) (hx : x.feeder = true) :
      KeepsFeeders s { u.setVin v x with xpt := { (u.setVin v x).xpt with leaving := l } }
        ∧ (({ u.setVin v x with xpt := { (u.setVin v x).xpt with leaving := l } } : State).vinRec v).feeder = true := by
    have same : ((u.setVin v x).vinRec v).feeder = true := by rw [vinRec_setVin_same, hx]
    refine ⟨⟨hr, fun k hk => ?_⟩, same⟩
    by_cases hkv : k = v
    · rw [hkv]
      exact same
    · have other : (u.setVin v x).vinRec k = s.vinRec k := by
        rw [vinRec_setVin_ne x hkv, State.vinRec, hv, State.vinRec]
      exact (congrArg VinRec.feeder other).trans hk
  simp only [attachVin]
  generalize ((s.xpt.store.find? v).isSome && s.vinRead v) = held
  split
  · exact attached _ (by split <;> rfl) (by split <;> rfl) rfl
  · obtain ⟨kept, has⟩ := attached (u := if held = true then s else s.releaseStore v)
      (x := ⟨fmt, kind, true, kind, false, false, map, din10, (s.vinRec v).mcur, (s.vinRec v).mlast⟩)
      (((if held = true then s else s.releaseStore v).setVin v ⟨fmt, kind, true, kind, false, false, map, din10, (s.vinRec v).mcur,
        (s.vinRec v).mlast⟩).xpt.leaving.filter (· != v)) (by split <;> rfl) (by split <;> rfl) rfl
    have reserves := keepsFeeders_reserveVin v fmt
    exact ⟨kept.trans (reserves _), (reserves _).feeder v has⟩

theorem keepsFeeders_feedSlots (f : AudFeed) (s : State) : KeepsFeeders s (feedSlots f s) := by
  unfold feedSlots
  split
  · exact keepsFeeders_refl s
  · have touched (l : List Nat) (t : State) : KeepsFeeders t (touchSlots l t) := by
      refine foldl_rel keepsFeeders_refl KeepsFeeders.trans (fun t i => ?_) l t
      split
      · exact keepsFeeders_refl t
      · exact keepsFeeders_of_xpt rfl rfl
    exact (keepsFeeders_of_xpt (s := s) (t := feed f s) rfl rfl).trans (touched _ (feed f s))

/-- A VIN whose feeder is detached has none, and gets none from others that are detached. -/
theorem detachVin_none (v w : Nat) (s : State) (h : w = v ∨ (s.vinRec w).feeder = false) :
    ((detachVin v s).vinRec w).feeder = false := by
  by_cases hw : w = v
  · rw [hw, detachVin, vinRec_setVin_same]
  · rw [detachVin, vinRec_setVin_ne _ hw]
    exact h.resolve_left hw

end

/-! ### The states of a deframer (R119) -/

section
variable {n st : Nat} {s : State}

/-- The registers that a deframer's change of state sets. -/
def noteEntered (n st old : Nat) (s : State) : State :=
  let s1 := s.setFld F.SDI_RX_STAT_STATE n st
  let s2 := if old = 2 then
      ((s1.bump .SDI_RX_UNLOCK_CNT n).setFlag F.SDI_RX_STAT_UNLOCK_S n true).raise Src.SDI_RX_UNLOCK else s1
  if st = 3 then (s2.setFlag F.SDI_RX_STAT_MISMATCH_S n true).raise Src.SDI_FMT_MISMATCH else s2

theorem rxEnter_of_ne (h : s.sdiRxState n ≠ st) :
    (rxEnter n st s).regs = (noteEntered n st (s.sdiRxState n) s).regs
      ∧ ∀ v, (s.vinRec v).feeder = true → ((rxEnter n st s).vinRec v).feeder = true := by
  have xpt : (noteEntered n st (s.sdiRxState n) s).xpt = s.xpt := by
    simp only [noteEntered]
    split <;> split <;> simp
  have absent := foldl_rel (g := fun t v => if st = 2 then t else setVinPresent v false t) keepsFeeders_refl KeepsFeeders.trans
    (fun t v => by
      split
      · exact keepsFeeders_refl t
      · exact keepsFeeders_setVinPresent v false t)
    ((noteEntered n st (s.sdiRxState n) s).sdiVins n) (noteEntered n st (s.sdiRxState n) s)
  simp only [rxEnter, if_neg h]
  exact ⟨absent.regs, fun v hv => absent.feeder v (by rwa [State.vinRec, xpt])⟩

theorem rxEnter_of_eq (h : s.sdiRxState n = st) : rxEnter n st s = s := if_pos h

theorem rxEnter_feeder (n st : Nat) (s : State) {v : Nat} (hv : (s.vinRec v).feeder = true) :
    ((rxEnter n st s).vinRec v).feeder = true := by
  by_cases h : s.sdiRxState n = st
  · rwa [rxEnter_of_eq h]
  · exact (rxEnter_of_ne h).2 v hv

theorem rxEnter_frame (n st : Nat) (s : State) : regsButAt [.SDI_RX_STAT, .SDI_RX_UNLOCK_CNT] n s (rxEnter n st s) := by
  by_cases h : s.sdiRxState n = st
  · rw [rxEnter_of_eq h]
    exact regsButAt_refl
  · refine regsButAt_trans (t := noteEntered n st (s.sdiRxState n) s) ?_ (regsButAt_of_regs (rxEnter_of_ne h).1)
    simp only [noteEntered]
    split <;> split <;> simp

theorem rxEnter_state (hst : st < 4) (s : State) : (rxEnter n st s).sdiRxState n = st := by
  by_cases h : s.sdiRxState n = st
  · rw [rxEnter_of_eq h, h]
  · rw [State.sdiRxState, fld_of_regs (rxEnter_of_ne h).1]
    simp only [noteEntered]
    have small : st % 2 ^ F.SDI_RX_STAT_STATE.len = st := Nat.mod_eq_of_lt hst
    split <;> split <;> simp (disch := decide) only [fld_raise, fld_setFlag_apart, fld_bump_apart, fld_setFld_same, small]

theorem sdiFollow_frame (n : Nat) (s : State) : regsButAt [.SDI_RX_STAT, .SDI_RX_UNLOCK_CNT] n s (sdiFollow n s) := by
  unfold sdiFollow
  split
  · exact regsButAt_refl
  split
  · exact rxEnter_frame _ _ _
  split
  · exact rxEnter_frame _ _ _
  · exact regsButAt_refl

theorem sdiFollow_feeder (n : Nat) (s : State) {v : Nat} (hv : (s.vinRec v).feeder = true) :
    ((sdiFollow n s).vinRec v).feeder = true := by
  unfold sdiFollow
  split
  · exact hv
  split
  · exact rxEnter_feeder n _ s hv
  split
  · exact rxEnter_feeder n _ s hv
  · exact hv

/-- An enabled deframer with LOS on a lane is in NO_SIGNAL; one in NO_SIGNAL whose lanes all have lock goes to SEARCH (R119). -/
theorem sdiFollow_los (hon : s.flag F.SDI_RX_CFG_EN n = true)
    (hlos : ∃ k ∈ sdiLanes n (s.fld F.SDI_RX_CFG_MAP n), s.flag F.LANE_STAT_LOS k = true) : (sdiFollow n s).sdiRxState n = 0 := by
  have any : (sdiLanes n (s.fld F.SDI_RX_CFG_MAP n)).any (fun k => s.flag F.LANE_STAT_LOS k) = true := List.any_eq_true.2 hlos
  simp only [sdiFollow, hon, any, Bool.not_true, Bool.false_eq_true, if_false, if_true]
  exact rxEnter_state (by decide) s

theorem sdiFollow_lock (hon : s.flag F.SDI_RX_CFG_EN n = true) (hstate : s.sdiRxState n = 0)
    (hlock : ∀ k ∈ sdiLanes n (s.fld F.SDI_RX_CFG_MAP n), s.flag F.LANE_STAT_LOS k = false ∧ s.flag F.LANE_STAT_CDR_LOCK k = true) :
    (sdiFollow n s).sdiRxState n = 1 := by
  have any : (sdiLanes n (s.fld F.SDI_RX_CFG_MAP n)).any (fun k => s.flag F.LANE_STAT_LOS k) = false :=
    List.any_eq_false.2 fun k hk => by simp [(hlock k hk).1]
  have signal : s.sdiSignal n = true := List.all_eq_true.2 fun k hk => by simp [hlock k hk]
  simp only [sdiFollow, hon, any, hstate, signal, Bool.not_true, Bool.false_eq_true, if_false, and_self, if_true]
  exact rxEnter_state (by decide) s

/-! ### Writes of SDI_RX_CFG (R116, R118, R172) -/

/-- What enabling a deframer adds once its first VIN has a feeder: the second VIN's, and the slots of its audio. -/
def rxFeeds (n : Nat) (s1 : State) (map f vin2 f2 : Nat) : State :=
  let s2 := if map = 2 then attachVin vin2 1 f2 map 1840 s1 else s1
  let s3 := feedSlots (s2.sdiFeed n false map f) s2
  if map = 2 then feedSlots (s3.sdiFeed n true map (s3.fld F.SDI_RX_CFG2_FMT2 n)) s3 else s3

theorem keepsFeeders_rxFeeds (n : Nat) (s : State) (map f vin2 f2 : Nat) : KeepsFeeders s (rxFeeds n s map f vin2 f2) := by
  have orSame {c : Prop} [Decidable c] {t u : State} (h : KeepsFeeders t u) : KeepsFeeders t (if c then u else t) := by
    split
    · exact h
    · exact keepsFeeders_refl t
  have second := orSame (c := map = 2) (attachVin_feeders vin2 1 f2 map 1840 s).1
  exact (second.trans (keepsFeeders_feedSlots _ _)).trans (orSame (keepsFeeders_feedSlots _ _))

/-- What enabling a deframer does before it follows its lanes: its VINs have a feeder, its audio its slots. -/
def rxAttach (n : Nat) (s : State) : State :=
  let s4 := rxFeeds n (attachVin (s.fld F.SDI_RX_CFG_VIN n) 1 (s.fld F.SDI_RX_CFG_FMT n) (s.fld F.SDI_RX_CFG_MAP n) 1840 s)
    (s.fld F.SDI_RX_CFG_MAP n) (s.fld F.SDI_RX_CFG_FMT n) (s.fld F.SDI_RX_CFG2_VIN2 n) (s.fld F.SDI_RX_CFG2_FMT2 n)
  ((s4.setRxState n .reset).setRxState (128 + n) .reset).setFld F.SDI_RX_STAT_STATE n 0

theorem rxEnable_eq (n : Nat) (s : State) : rxEnable n s = sdiFollow n (rxAttach n s) := rfl

theorem rxAttach_facts (n : Nat) (s : State) : regsButAt [.SDI_RX_STAT] n s (rxAttach n s) ∧ (rxAttach n s).sdiRxState n = 0
    ∧ ((rxAttach n s).vinRec (s.fld F.SDI_RX_CFG_VIN n)).feeder = true := by
  obtain ⟨first, has⟩ := attachVin_feeders (s.fld F.SDI_RX_CFG_VIN n) 1 (s.fld F.SDI_RX_CFG_FMT n) (s.fld F.SDI_RX_CFG_MAP n) 1840 s
  have rest := keepsFeeders_rxFeeds n (attachVin (s.fld F.SDI_RX_CFG_VIN n) 1 (s.fld F.SDI_RX_CFG_FMT n) (s.fld F.SDI_RX_CFG_MAP n) 1840 s)
    (s.fld F.SDI_RX_CFG_MAP n) (s.fld F.SDI_RX_CFG_FMT n) (s.fld F.SDI_RX_CFG2_VIN2 n) (s.fld F.SDI_RX_CFG2_FMT2 n)
  refine ⟨?_, ?_, rest.feeder _ has⟩
  · simp only [rxAttach]
    rw [regsButAt_setFld (by decide)]
    exact regsButAt_of_regs (rest.regs.trans first.regs)
  · exact (fld_setFld_same _ (by decide) _ _).trans (by decide)

variable {v w : Word}

theorem SDI_RX_CFG_EN_of_or_one (v : Word) : F.SDI_RX_CFG_EN.of (v ||| 1#32) = 1 := by
  simp [Fld.of_bit0 (f := F.SDI_RX_CFG_EN) rfl rfl, b2n]

theorem SDI_RX_CFG_EN_of_and_not_one (v : Word) : F.SDI_RX_CFG_EN.of (v &&& ~~~ 1#32) = 0 := by
  simp [Fld.of_bit0 (f := F.SDI_RX_CFG_EN) rfl rfl, b2n]

theorem writeRxCfg_quad (hquad : s.quadRx n = true) : writeRxCfg n w s = s := by simp [writeRxCfg, hquad]

theorem writeRxCfg_enables (hquad : s.quadRx n = false) (hoff : s.flag F.SDI_RX_CFG_EN n = false) (hon : F.SDI_RX_CFG_EN.of w = 1)
    (hmay : s.rxMayEnable n w = true) : writeRxCfg n w s = rxEnable n (plainWrite .SDI_RX_CFG n w s) := by
  simp [writeRxCfg, hquad, hoff, hmay, hon]

theorem writeRxCfg_refused (hquad : s.quadRx n = false) (hoff : s.flag F.SDI_RX_CFG_EN n = false) (hon : F.SDI_RX_CFG_EN.of w = 1)
    (hmay : s.rxMayEnable n w = false) : writeRxCfg n w s = s.reject .SDI := by
  simp [writeRxCfg, hquad, hoff, hmay, hon]

theorem writeRxCfg_disables (hquad : s.quadRx n = false) (hon : s.flag F.SDI_RX_CFG_EN n = true)
    (hsame : (w ^^^ s.reg .SDI_RX_CFG n) &&& 0x03FFFFFE#32 = 0) (hoff : F.SDI_RX_CFG_EN.of w = 0) :
    writeRxCfg n w s = rxDisable n (plainWrite .SDI_RX_CFG n w s) := by
  simp [writeRxCfg, hquad, hon, hsame, hoff]

/-- A deframer that is disabled is in NO_SIGNAL, and its VIN has no feeder (R172). -/
theorem rxDisable_facts (n : Nat) (s : State) : (rxDisable n s).sdiRxState n = 0 ∧ (rxDisable n s).flt = s.flt
    ∧ ((rxDisable n s).vinRec (s.fld F.SDI_RX_CFG_VIN n)).feeder = false ∧ regsButAt [.SDI_RX_STAT] n s (rxDisable n s) := by
  have regs (l : List Nat) (t : State) : (l.foldl (fun t v => detachVin v t) t).regs = t.regs :=
    foldl_keeps State.regs (fun t v => (rfl : (detachVin v t).regs = t.regs)) l t
  have flt (l : List Nat) (t : State) : (l.foldl (fun t v => detachVin v t) t).flt = t.flt :=
    foldl_keeps State.flt (fun t v => (rfl : (detachVin v t).flt = t.flt)) l t
  have none (l : List Nat) (t : State) (h : (t.vinRec (s.fld F.SDI_RX_CFG_VIN n)).feeder = false) :
      ((l.foldl (fun t v => detachVin v t) t).vinRec (s.fld F.SDI_RX_CFG_VIN n)).feeder = false := by
    induction l generalizing t with
    | nil => exact h
    | cons v l ih => exact ih _ (detachVin_none v _ t (.inr h))
  refine ⟨?_, flt _ s, none _ (detachVin _ s) (detachVin_none _ _ s (.inl rfl)), ?_⟩
  · exact (fld_setFld_same _ (by decide) _ _).trans (by decide)
  · exact regsButAt_trans (t := ((s.sdiVins n).foldl (fun t v => detachVin v t) s).setFld F.SDI_RX_STAT_STATE n 0)
      ((regsButAt_setFld (by decide) _).2 (regsButAt_of_regs (regs _ s))) (regsButAt_of_regs rfl)

end

/-! ### Lines (R123, R125) -/

section
variable {n k : Nat} {l : SdiLine} {s : State}

/-- The registers of a deframer that a line's tracking, payload, phase, ANC and audio set. -/
def rxLineRegs : List RegName :=
  [.SDI_RX_STAT, .SDI_RX_UNLOCK_CNT, .SDI_RX_SKEW_CNT, .SDI_RX_PID, .SDI_RX_PID2, .SDI_RX_PHASE, .SDI_RX_ANC_CS, .SDI_RX_ANC_DROP,
    .SDI_RX_AUD_ECC, .AUD_AGRP_SLIP, .AUD_AGRP_REP, .AUD_AGRP_DROP, .AUD_SLIP_SINGLE_CNT]

theorem rxChecks_frame (n : Nat) (l : SdiLine) (s : State) :
    regsButAt [.SDI_RX_TRS_ERR, .SDI_RX_LN_ERR, .SDI_RX_CRC_ERR, .SDI_RX_STAT] n s (rxChecks n l s) ∧ (rxChecks n l s).sdi = s.sdi
      ∧ (rxChecks n l s).sdiRxState n = s.sdiRxState n := by
  simp only [rxChecks, State.sdiRxState]
  refine ⟨?_, ?_, ?_⟩
  · split <;> split <;> split <;> simp
  · split <;> split <;> split <;> simp
  · split <;> split <;> split <;>
      simp (disch := decide) only [fld_raise, fld_setFlag_apart, fld_bumpN_apart]

/-- At a format with TRS and line numbers each failing check counts in its register (R123). -/
theorem rxChecks_counts (hf : 2 ≤ fmtRaster (s.rxFmt n l.second)) :
    (rxChecks n l s).reg .SDI_RX_TRS_ERR n = BitVec.ofNat 32 (min (2 ^ 32 - 1) ((s.reg .SDI_RX_TRS_ERR n).toNat + l.trsBad))
      ∧ (rxChecks n l s).reg .SDI_RX_LN_ERR n = BitVec.ofNat 32 (min (2 ^ 32 - 1) ((s.reg .SDI_RX_LN_ERR n).toNat + l.lnBad))
      ∧ (rxChecks n l s).reg .SDI_RX_CRC_ERR n = BitVec.ofNat 32 (min (2 ^ 32 - 1) ((s.reg .SDI_RX_CRC_ERR n).toNat + l.crcBad)) := by
  have hd : ¬ fmtRaster (s.rxFmt n l.second) < 2 := by omega
  simp only [rxChecks, hd, decide_false, Bool.false_eq_true, or_false]
  refine ⟨?_, ?_, ?_⟩
  · split <;> split <;> split <;>
      simp (disch := decide) only [reg_raise, reg_setFlag_apart, reg_bumpN_apart, reg_bumpN_same, sat_add_zero, *]
  · split <;> split <;> split <;>
      simp (disch := decide) only [reg_raise, reg_setFlag_apart, reg_bumpN_apart, reg_bumpN_same, sat_add_zero, *]
  · split <;> split <;> split <;>
      simp (disch := decide) only [reg_raise, reg_setFlag_apart, reg_bumpN_apart, reg_bumpN_same, sat_add_zero, *]

/-- The whole frame that ends with this line changes the deframer's state at most. -/
theorem judgeFrame_frame (n k : Nat) (s : State) : regsButAt [.SDI_RX_STAT, .SDI_RX_UNLOCK_CNT] n s (judgeFrame n k s) := by
  simp only [judgeFrame]
  split
  · exact regsButAt_refl
  split
  · split
    · exact regsButAt_trans (t := s.setRxState k _) (regsButAt_of_regs rfl) (regsButAt_trans (rxEnter_frame n 2 _) (regsButAt_of_regs rfl))
    · exact regsButAt_of_regs rfl
  · split
    · exact regsButAt_trans (t := s.setRxState k _) (regsButAt_of_regs rfl) (rxEnter_frame n 3 _)
    · exact regsButAt_of_regs rfl

/-- A line's tracking before the deframer's state follows it: the hidden run and the measured format (R119). -/
def noteLine (n k : Nat) (l : SdiLine) (x : SdiRx) (s : State) : State :=
  (s.setRxState k x).setFlds n [(F.SDI_RX_STAT_SCAN_DET, b2n l.scan), (F.SDI_RX_STAT_RATE_CODE, l.rate.toNat),
    (F.SDI_RX_STAT_LINES_DET, l.lines.toNat)]

theorem noteLine_frame (x : SdiRx) : regsButAt [.SDI_RX_STAT] n s (noteLine n k l x s) :=
  (regsButAt_setFlds _ (by simp)).2 (regsButAt_of_regs rfl)

theorem noteLine_state (x : SdiRx) : (noteLine n k l x s).sdiRxState n = s.sdiRxState n := by
  simp (disch := decide) only [noteLine, State.setFlds, State.sdiRxState, fld_setFld_apart]
  exact fld_of_regs rfl _ _

/-- How the deframer's state follows a line that is noted, after `run` lines in a row without TRS. -/
def trackLine (n k : Nat) (l : SdiLine) (x : SdiRx) (run : Nat) (s : State) : State :=
  if l.skew ∧ 3 ≤ s.fld F.SDI_RX_CFG_MAP n then
    if x.skewed ∧ s.sdiRxState n ≠ 2 then s
    else rxEnter n 1 (((s.bump .SDI_RX_SKEW_CNT n).setFlag F.SDI_RX_STAT_SKEW_S n true).raise Src.SDI_SKEW)
  else if 8 ≤ run ∧ (s.sdiRxState n = 2 ∨ s.sdiRxState n = 3) then rxEnter n 1 s
  else if s.flag F.SDI_RX_CFG_PID_CHECK n && (match l.pid with
      | some p => !Config.pidAgrees p (s.rxFmt n l.second) (s.fld F.SDI_RX_CFG_MAP n)
      | none => false) && s.sdiRxState n == 2 then rxEnter n 3 s
  else if l.line = l.lines.toNat then judgeFrame n k s
  else s

theorem rxTrack_eq (n k : Nat) (l : SdiLine) (s : State) : ∃ y, rxTrack n k l s =
    trackLine n k l (s.rxState k) (if l.trsBad = 0 then 0 else (s.rxState k).trsRun + 1) (noteLine n k l y s) := ⟨_, rfl⟩

theorem trackLine_frame (n k : Nat) (l : SdiLine) (x : SdiRx) (run : Nat) (s : State) :
    regsButAt [.SDI_RX_STAT, .SDI_RX_UNLOCK_CNT, .SDI_RX_SKEW_CNT] n s (trackLine n k l x run s) := by
  have enters (st : Nat) (t : State) : regsButAt [.SDI_RX_STAT, .SDI_RX_UNLOCK_CNT, .SDI_RX_SKEW_CNT] n t (rxEnter n st t) :=
    regsButAt_mono (by decide) (rxEnter_frame n st t)
  refine iteInduction (motive := regsButAt _ n s) (fun _ => ?_) fun _ => iteInduction (motive := regsButAt _ n s) (fun _ => enters 1 s)
    fun _ => iteInduction (motive := regsButAt _ n s) (fun _ => enters 3 s) fun _ => iteInduction (motive := regsButAt _ n s)
    (fun _ => regsButAt_mono (by decide) (judgeFrame_frame n k s)) fun _ => regsButAt_refl
  split
  · exact regsButAt_refl
  · refine regsButAt_trans ?_ (enters 1 _)
    rw [regsButAt_raise, regsButAt_setFlag (by decide), regsButAt_bump_iff (by decide)]
    exact regsButAt_refl

theorem rxTrack_frame (n k : Nat) (l : SdiLine) (s : State) :
    regsButAt [.SDI_RX_STAT, .SDI_RX_UNLOCK_CNT, .SDI_RX_SKEW_CNT] n s (rxTrack n k l s) := by
  obtain ⟨y, h⟩ := rxTrack_eq n k l s
  rw [h]
  exact regsButAt_trans (regsButAt_mono (by decide) (noteLine_frame y)) (trackLine_frame n k l _ _ _)

/-- The eighth line in a row without TRS takes a deframer in LOCKED or MISMATCH to SEARCH (R119). -/
theorem rxTrack_search (hstate : s.sdiRxState n = 2 ∨ s.sdiRxState n = 3) (hrun : 7 ≤ (s.rxState k).trsRun) (htrs : l.trsBad ≠ 0)
    (hskew : l.skew = false) : (rxTrack n k l s).sdiRxState n = 1 := by
  obtain ⟨y, h⟩ := rxTrack_eq n k l s
  have state : (noteLine n k l y s).sdiRxState n = 2 ∨ (noteLine n k l y s).sdiRxState n = 3 := by rwa [noteLine_state]
  rw [h, trackLine, if_neg (by simp [hskew]), if_neg htrs, if_pos ⟨by omega, state⟩]
  exact rxEnter_state (by decide) _

/-- A line's payload is shown (R125). -/
theorem rxPid_frame (n : Nat) (l : SdiLine) (s : State) :
    regsButAt [.SDI_RX_STAT, .SDI_RX_PID, .SDI_RX_PID2] n s (rxPid n l s) ∧ (rxPid n l s).sdiRxState n = s.sdiRxState n := by
  unfold rxPid
  split
  · exact ⟨regsButAt_refl, rfl⟩
  · refine ⟨?_, ?_⟩
    · rw [regsButAt_setFlag (by decide)]
      split <;> exact (regsButAt_setReg_iff (by decide) _).2 regsButAt_refl
    · rw [State.sdiRxState, fld_setFlag_apart _ (by decide) (by decide)]
      split <;> exact fld_setReg_apart _ _ _ _ (by decide)

theorem rxPid_shows {p : Word} (hpid : l.pid = some p) :
    (rxPid n l s).reg (if l.second then .SDI_RX_PID2 else .SDI_RX_PID) n = p
      ∧ (rxPid n l s).flag F.SDI_RX_STAT_PID_VALID n = true := by
  simp only [rxPid, hpid]
  refine ⟨?_, flag_setFlag_same _ (by decide) rfl _ _⟩
  split <;> simp (disch := decide) only [reg_setFlag_apart, reg_setReg_same]

theorem pidLost_facts (n : Nat) (s : State) :
    (pidLost n s).flag F.SDI_RX_STAT_PID_VALID n = false ∧ (pidLost n s).sdiRxState n = s.sdiRxState n :=
  ⟨flag_setFlag_same _ (by decide) rfl _ _, fld_setFlag_apart _ (by decide) (by decide) _ _ _⟩

/-! ### Phase, ANC, audio and the picture -/

/-- The registers that a line's phase, ANC and audio set; of SDI_RX_STAT the audio's rate alone. -/
def rxRestRegs : List RegName :=
  [.SDI_RX_STAT, .SDI_RX_PHASE, .SDI_RX_ANC_CS, .SDI_RX_ANC_DROP, .SDI_RX_AUD_ECC, .AUD_AGRP_SLIP, .AUD_AGRP_REP, .AUD_AGRP_DROP,
    .AUD_SLIP_SINGLE_CNT]

/-- What follows the payload of a line keeps the other registers, the deframer's state and whether its payload is valid. -/
structure RxRest (n : Nat) (s t : State) : Prop where
  regs : regsBut rxRestRegs s t
  state : t.sdiRxState n = s.sdiRxState n
  valid : t.flag F.SDI_RX_STAT_PID_VALID n = s.flag F.SDI_RX_STAT_PID_VALID n

theorem rxRest_refl (n : Nat) (s : State) : RxRest n s s := ⟨regsBut_refl, rfl, rfl⟩

theorem RxRest.trans {n : Nat} {s t u : State} (h : RxRest n s t) (g : RxRest n t u) : RxRest n s u :=
  ⟨regsBut_trans h.regs g.regs, g.state.trans h.state, g.valid.trans h.valid⟩

theorem rxRest_of_regsBut {n : Nat} {rs : List RegName} {s t : State} (h : regsBut rs s t) (hrs : rs ⊆ rxRestRegs.tail) : RxRest n s t :=
  have stat : RegName.SDI_RX_STAT ∉ rs := fun hr => absurd (hrs hr) (by decide)
  ⟨regsBut_mono (fun _ hr => List.mem_of_mem_tail (hrs hr)) h, h.fld stat n, h.flag stat n⟩

theorem rxRest_of_regs {n : Nat} {s t : State} (h : t.regs = s.regs) : RxRest n s t :=
  rxRest_of_regsBut (rs := []) (regsBut_of_regs h) (by decide)

theorem rxRest_rxPhase (n : Nat) (l : SdiLine) (s : State) : RxRest n s (rxPhase n l s) := by
  simp only [rxPhase]
  split
  · split
    · exact rxRest_refl n s
    · exact rxRest_of_regsBut (rs := [.SDI_RX_PHASE]) ((regsBut_setReg (by decide) _ _).2 regsBut_refl) (by decide)
  · exact rxRest_refl n s

theorem rxRest_rxAnc (n : Nat) (l : SdiLine) (s : State) : RxRest n s (rxAnc n l s).2 := by
  refine rxRest_of_regsBut (rs := [.SDI_RX_ANC_CS, .SDI_RX_ANC_DROP]) ?_ (by decide)
  simp only [rxAnc]
  split <;> split <;> simp

/-- The registers of the Audio Engine that an arriving sample sets. -/
def slipRegs : List RegName := [.AUD_AGRP_SLIP, .AUD_AGRP_REP, .AUD_AGRP_DROP, .AUD_SLIP_SINGLE_CNT]

theorem countSlip_frame (k rep drop : Nat) (s : State) : regsBut slipRegs s (countSlip k rep drop s) := by
  simp only [countSlip, slipRegs]
  split <;> simp

theorem pushSample_frame (i : Nat) (a : AudSample) (s : State) : regsBut slipRegs s (pushSample i a s) := by
  have slips (x : InSlot) (k : Nat) : regsBut slipRegs s (countSlip k 0 1 (s.setInSlot i x)) :=
    regsBut_trans (regsBut_of_regs rfl) (countSlip_frame k 0 1 _)
  exact iteInduction (motive := regsBut slipRegs s) (fun _ => regsBut_of_regs rfl) fun _ =>
    iteInduction (motive := regsBut slipRegs s) (fun _ => slips _ _) fun _ => regsBut_of_regs rfl

theorem deliver_frame (i : Nat) (a : AudSample) (s : State) : regsBut slipRegs s (deliver i a s) := by
  unfold deliver
  split
  · exact regsBut_refl
  · refine regsBut_trans (regsBut_of_regs ?_) (pushSample_frame i a _)
    split <;> rfl

/-- The embedded audio of a line once its rate is known. -/
def rxSamples (n k : Nat) (l : SdiLine) (s : State) : State :=
  let v := s.rxAudReg n l.second
  let cnt := sdiAudCount (s.fld F.SDI_RX_CFG_MAP n) (s.rxFmt n l.second) v
  let used := l.audio.filter (fun a => decide (1 ≤ a.1) && decide (a.1 ≤ cnt))
  let s2 := if used.all (·.2.2) then s else (s.bump .SDI_RX_AUD_ECC n).raise Src.SDI_AUD_ECC
  if s2.flag F.SDI_RX_STAT_AUD_RATE n then s2
  else used.foldl (fun t a =>
    let x := t.rxState k
    let y := if a.2.2 then a.2.1 else x.prev.get .absent a.1
    deliver (F.SDI_RX_AUD_ACH_BASE.of v + a.1 - 1) y (t.setRxState k { x with prev := x.prev.set a.1 y })) s2

theorem rxRest_rxSamples (n k : Nat) (l : SdiLine) (s : State) : RxRest n s (rxSamples n k l s) := by
  have ecc (c : Bool) : RxRest n s (if c then s else (s.bump .SDI_RX_AUD_ECC n).raise Src.SDI_AUD_ECC) := by
    split
    · exact rxRest_refl n s
    · exact rxRest_of_regsBut (rs := [.SDI_RX_AUD_ECC]) (by simp) (by decide)
  have sample (i : Nat) (a : AudSample) (x : SdiRx) (t : State) : RxRest n t (deliver i a (t.setRxState k x)) :=
    (rxRest_of_regs (s := t) (t := t.setRxState k x) rfl).trans (rxRest_of_regsBut (deliver_frame _ _ _) (by decide))
  exact iteInduction (motive := RxRest n s) (fun _ => ecc _) fun _ =>
    RxRest.trans (ecc _) (foldl_rel (rxRest_refl n) RxRest.trans (fun t a => sample _ _ _ t) _ _)

theorem rxRest_rxAudio (n k : Nat) (l : SdiLine) (s : State) : RxRest n s (rxAudio n k l s) := by
  rcases h : l.audRate with _ | b
  · have same : rxAudio n k l s = rxSamples n k l s := by
      simp only [rxAudio, h]
      rfl
    rw [same]
    exact rxRest_rxSamples n k l s
  · have same : rxAudio n k l s = rxSamples n k l (s.setFlag F.SDI_RX_STAT_AUD_RATE n b) := by
      simp only [rxAudio, h]
      rfl
    rw [same]
    exact RxRest.trans ⟨(regsBut_setFlag (by decide) _ _).2 regsBut_refl, fld_setFlag_apart _ (by decide) (by decide) _ _ _,
      flag_setFlag_apart _ (by decide) (by decide) _ _ _⟩ (rxRest_rxSamples n k l _)

theorem writeLine_regs (v : Nat) (l : LineIn) (s : State) : (writeLine v l s).regs = s.regs := by
  simp only [writeLine]
  split
  · exact passTo_regs _ _
  · simp only [fsPutAll, poolPut, State.setVin, passTo_regs]

theorem rxPicture_regs (n k : Nat) (l : SdiLine) (anc : List AncPacket) (s : State) : (rxPicture n k l anc s).regs = s.regs :=
  writeLine_regs ..

/-- What follows the checks, the tracking and the payload of a line. -/
def rxAfter (n k : Nat) (l : SdiLine) (s1 : State) : State :=
  let s2 := (rxAnc n l (rxPhase n l s1)).2
  rxPicture n k l (rxAnc n l (rxPhase n l s1)).1 (if s2.sdiRxState n = 2 then rxAudio n k l s2 else s2)

theorem rxRest_rxAfter (n k : Nat) (l : SdiLine) (s : State) : RxRest n s (rxAfter n k l s) := by
  have before := (rxRest_rxPhase n l s).trans (rxRest_rxAnc n l _)
  have heard : RxRest n s (if (rxAnc n l (rxPhase n l s)).2.sdiRxState n = 2 then rxAudio n k l (rxAnc n l (rxPhase n l s)).2
      else (rxAnc n l (rxPhase n l s)).2) := by
    split
    · exact before.trans (rxRest_rxAudio n k l _)
    · exact before
  exact heard.trans (rxRest_of_regs (rxPicture_regs ..))

theorem sdiLineIn_taken (hon : s.flag F.SDI_RX_CFG_EN n = true) (hstate : s.sdiRxState n ≠ 0)
    (hsecond : l.second = true → s.fld F.SDI_RX_CFG_MAP n = 2) :
    sdiLineIn n l s = rxAfter n (if l.second then 128 + n else n) l
      (rxPid n l (rxTrack n (if l.second then 128 + n else n) l (rxChecks n l (passTo l.start s)))) := by
  have skip : (!s.flag F.SDI_RX_CFG_EN n || s.sdiRxState n == 0 || (l.second && s.fld F.SDI_RX_CFG_MAP n != 2)) = false := by
    cases h : l.second
    · simp [hon, hstate]
    · simp [hon, hstate, hsecond h]
  rw [sdiLineIn, skip]
  rfl

theorem sdiLineIn_skipped (h : s.flag F.SDI_RX_CFG_EN n = false ∨ s.sdiRxState n = 0 ∨ l.second = true ∧ s.fld F.SDI_RX_CFG_MAP n ≠ 2) :
    sdiLineIn n l s = s := by
  refine if_pos ?_
  rcases h with h | h | ⟨h, hm⟩
  · simp [h]
  · simp [h]
  · simp [h, hm]

/-- A line's tracking and payload leave the counts of its checks. -/
theorem rxTaken_count {r : RegName} (h : r ∉ rxLineRegs) (k : Nat) (t : State) :
    (rxAfter n k l (rxPid n l (rxTrack n k l t))).reg r n = t.reg r n := by
  have after := regsBut_mono (qs := rxLineRegs) (by decide) (rxRest_rxAfter n k l (rxPid n l (rxTrack n k l t))).regs
  have pid := regsBut_mono (qs := rxLineRegs) (by decide) (regsBut_of_regsButAt (rxPid_frame n l (rxTrack n k l t)).1)
  have track := regsBut_mono (qs := rxLineRegs) (by decide) (regsBut_of_regsButAt (rxTrack_frame n k l t))
  exact regsBut_trans track (regsBut_trans pid after) r n h

end

/-- Settles O21: each write through the rule of its case, and a received line through the frames of its stages. -/
theorem deframersReceiveLines : Obligations.DeframersReceiveLines := by
  unfold Obligations.DeframersReceiveLines
  refine ⟨fun n v s hquad hoff hmay => ?_, fun n v s hquad hoff hmay => ?_, fun n v s hquad => ?_, fun n v s hquad hon hsame => ?_,
    fun n l s hon hstate hsecond hfmt => ?_, fun n l s h => ?_, fun n s => ?_⟩
  · have or_one {f : Fld} (h : 1 ≤ f.lo) : f.of (v ||| 1#32) = f.of v := Fld.of_or_one h v
    generalize hw : plainWrite .SDI_RX_CFG n (v ||| 1#32) s = w
    have en : w.flag F.SDI_RX_CFG_EN n = true := by
      rw [← hw, flag_plainWrite (f := F.SDI_RX_CFG_EN) rfl (by decide), SDI_RX_CFG_EN_of_or_one]
      rfl
    have map : w.fld F.SDI_RX_CFG_MAP n = F.SDI_RX_CFG_MAP.of v := by
      rw [← hw, fld_plainWrite (f := F.SDI_RX_CFG_MAP) rfl (by decide), or_one (by decide)]
    have fmt : w.fld F.SDI_RX_CFG_FMT n = F.SDI_RX_CFG_FMT.of v := by
      rw [← hw, fld_plainWrite (f := F.SDI_RX_CFG_FMT) rfl (by decide), or_one (by decide)]
    have vin : w.fld F.SDI_RX_CFG_VIN n = F.SDI_RX_CFG_VIN.of v := by
      rw [← hw, fld_plainWrite (f := F.SDI_RX_CFG_VIN) rfl (by decide), or_one (by decide)]
    obtain ⟨attach, idle, feeder⟩ := rxAttach_facts n w
    have follow := regsButAt_trans (regsButAt_mono (qs := [.SDI_RX_STAT, .SDI_RX_UNLOCK_CNT]) (by decide) attach)
      (sdiFollow_frame n (rxAttach n w))
    have lanes (f : Fld) (hf : f.reg ∉ [RegName.SDI_RX_STAT]) (hc : f.reg ≠ .SDI_RX_CFG) (k : Nat) : (rxAttach n w).flag f k = s.flag f k := by
      rw [attach.flag_other hf, ← hw, flag_plainWrite_apart rfl hc]
    have mapAttached : (rxAttach n w).fld F.SDI_RX_CFG_MAP n = F.SDI_RX_CFG_MAP.of v := (attach.fld_other (by decide) n).trans map
    have enAttached : (rxAttach n w).flag F.SDI_RX_CFG_EN n = true := (attach.flag_other (by decide) n).trans en
    refine ⟨_, congrArg Host.Outcome.next ((writeRxCfg_enables hquad hoff (SDI_RX_CFG_EN_of_or_one v) hmay).trans
      ((congrArg _ hw).trans (rxEnable_eq n w))), (follow.flag_other (by decide) n).trans en, (follow.fld_other (by decide) n).trans map,
      (follow.fld_other (by decide) n).trans fmt, (follow.fld_other (by decide) n).trans vin, fun hlos => ?_, fun hlock => ?_, ?_, ?_⟩
    · refine sdiFollow_los enAttached ?_
      obtain ⟨k, hk, hl⟩ := hlos
      exact ⟨k, by rwa [mapAttached], by rwa [lanes _ (by decide) (by decide)]⟩
    · refine sdiFollow_lock enAttached idle fun k hk => ?_
      rw [mapAttached] at hk
      rw [lanes _ (by decide) (by decide), lanes _ (by decide) (by decide)]
      exact hlock k hk
    · rw [← vin]
      exact sdiFollow_feeder n _ feeder
    · rw [← rxEnable_eq, ← hw]
      exact ⟨by simp, by simp⟩
  · exact ⟨_, congrArg Host.Outcome.next (writeRxCfg_refused hquad hoff (SDI_RX_CFG_EN_of_or_one v) hmay), reject_regs .., isSet_reject ..,
      by simp⟩
  · exact ⟨congrArg Host.Outcome.next (writeRxCfg_quad hquad), congrArg Host.Outcome.next (writeRxCfg_quad hquad)⟩
  · have same : ((v &&& ~~~ 1#32) ^^^ s.reg .SDI_RX_CFG n) &&& 0x03FFFFFE#32 = 0 := (and_not_one_xor_and (by decide) v _).trans hsame
    obtain ⟨state, flt, feeder, regs⟩ := rxDisable_facts n (plainWrite .SDI_RX_CFG n (v &&& ~~~ 1#32) s)
    refine ⟨_, congrArg Host.Outcome.next (writeRxCfg_disables hquad hon same (SDI_RX_CFG_EN_of_and_not_one v)), ?_, state, ?_, ?_,
      flt.trans (plainWrite_flt ..), by simp, by simp⟩
    · rw [regs.flag_other (by decide), flag_plainWrite (f := F.SDI_RX_CFG_EN) rfl (by decide), SDI_RX_CFG_EN_of_and_not_one]
      rfl
    · rw [fld_plainWrite (f := F.SDI_RX_CFG_VIN) rfl (by decide), Fld.of_and_not_one (by decide) (by decide),
        Fld.of_eq_of_masked (f := F.SDI_RX_CFG_VIN) hsame (by decide)] at feeder
      exact feeder
    · exact regsButAt_trans ((regsButAt_plainWrite rfl (by decide) _ _).2 regsButAt_refl) (regsButAt_mono (by decide) regs)
  · generalize hk : (if l.second then 128 + n.val else n.val) = k
    obtain ⟨checks, sdi, state⟩ := rxChecks_frame n l (passTo l.start s)
    obtain ⟨trs, ln, crc⟩ := rxChecks_counts (n := n) (l := l) (s := passTo l.start s) (by
      rw [State.rxFmt, fld_of_regs (passTo_regs ..), fld_of_regs (passTo_regs ..)]
      exact hfmt)
    have passed : (passTo l.start s).sdiRxState n = s.sdiRxState n := fld_of_regs (passTo_regs ..) _ _
    have taken := sdiLineIn_taken hon hstate hsecond
    have still : Machine.still s (sdiLineIn n l s) := ⟨by simp, by simp⟩
    rw [taken, hk] at still
    refine ⟨_, congrArg Host.Outcome.next (taken.trans (by rw [hk])), ?_, ?_, ?_, fun p hp => ?_, fun hlocked hrun htrs hskew => ?_,
      still⟩
    · rw [rxTaken_count (by decide), trs, reg_of_regs (passTo_regs ..)]
    · rw [rxTaken_count (by decide), ln, reg_of_regs (passTo_regs ..)]
    · rw [rxTaken_count (by decide), crc, reg_of_regs (passTo_regs ..)]
    · have shown := rxPid_shows (n := n) (s := rxTrack n k l (rxChecks n l (passTo l.start s))) hp
      have after := rxRest_rxAfter n k l (rxPid n l (rxTrack n k l (rxChecks n l (passTo l.start s))))
      refine ⟨(after.regs _ _ ?_).trans shown.1, after.valid.trans shown.2⟩
      split <;> decide
    · have after := rxRest_rxAfter n k l (rxPid n l (rxTrack n k l (rxChecks n l (passTo l.start s))))
      rw [after.state, (rxPid_frame n l _).2]
      refine rxTrack_search ?_ ?_ htrs hskew
      · rwa [state, passed]
      · rwa [State.rxState, sdi, passTo_sdi]
  · exact congrArg Host.Outcome.next (sdiLineIn_skipped h)
  · exact ⟨_, rfl, (pidLost_facts n s).1, (pidLost_facts n s).2, (regsButAt_setFlag (by decide) _).2 regsButAt_refl, rfl⟩

end Sys2Proof.Machine
end

section
/-!
PROOFS. Storage and lines of the crosspoint (R18, R171, R180, R185, R186): the writes of XPT_CFG and XPT_VIN_CFG, a line written into
the Line Pool, and a line read.
-/

namespace Sys2Proof.Machine

/-! ### Writes (R171, R180) -/

section
variable {v w : Word} {s t : State} {n j k : Nat}

/-- An OVERLAP of at most 16 whose storage fits both planes is taken (R171). -/
theorem writeOverlap_taken (hle : F.XPT_CFG_OVERLAP.of v ≤ 16)
    (hA : s.fitsAt 0 s.storeTotal (max (F.XPT_CFG_OVERLAP.of v) (s.ovlInForce 0)) = true)
    (hB : s.fitsAt 1 s.storeTotal (max (F.XPT_CFG_OVERLAP.of v) (s.ovlInForce 1)) = true) :
    writeOverlap v s = plainWrite .XPT_CFG 0 v s := by
  simp only [writeOverlap, hA, hB, decide_eq_false (not_lt.2 hle)]
  rfl

theorem writeOverlap_refused (h : 16 < F.XPT_CFG_OVERLAP.of v ∨
    s.fitsAt 0 s.storeTotal (max (F.XPT_CFG_OVERLAP.of v) (s.ovlInForce 0)) = false) : writeOverlap v s = s.reject .XPT := by
  refine if_pos ?_
  rcases h with h | h
  · simp [h]
  · simp [h]

/-- FS_ARM = 1 for a VIN with neither a synchroniser nor a feeder is refused (R180). -/
theorem writeVinCfg_refused (harm : F.XPT_VIN_CFG_FS_ARM.of w = 1) (hsync : s.findSync n (F.XPT_VIN_CFG_TD.of w) = none)
    (hfeeder : (s.vinRec n).feeder = false) : writeVinCfg n w s = s.reject .XPT := by
  simp [writeVinCfg, harm, hsync, hfeeder]

theorem writeVinCfg_arms (harm : F.XPT_VIN_CFG_FS_ARM.of w = 1) (hsync : s.findSync n (F.XPT_VIN_CFG_TD.of w) = some j) :
    writeVinCfg n w s = dropSyncs (setArmed n (F.XPT_VIN_CFG_TD.of w) true (plainWrite .XPT_VIN_CFG n w s)) := by
  simp [writeVinCfg, harm, hsync]

theorem FS_ARM_of_or (v : Word) : F.XPT_VIN_CFG_FS_ARM.of (v ||| 8#32) = 1 := by
  refine Nat.eq_of_testBit_eq fun k => ?_
  rw [Fld.testBit_of]
  rcases k with _ | k
  · simp
  · simp [Nat.testBit_succ]

theorem VIN_CFG_TD_of_or (v : Word) : F.XPT_VIN_CFG_TD.of (v ||| 8#32) = F.XPT_VIN_CFG_TD.of v := by
  refine Fld.of_congr fun k hk => ?_
  have hk : k < 3 := hk
  interval_cases k <;> simp

/-- An armed synchroniser is not given up (R180). -/
theorem sync_dropSyncs {x : FsSync} (hx : s.xpt.sync.find? j = some x) (harmed : x.armed = true) :
    (dropSyncs s).xpt.sync.find? j = some x := by
  unfold dropSyncs
  generalize s.xpt.sync.keys = l
  induction l generalizing s with
  | nil => exact hx
  | cons i l ih =>
    rw [List.foldl_cons]
    refine ih ?_
    have used : s.syncUsed j = true := by simp [State.syncUsed, hx, harmed]
    by_cases hi : s.syncUsed i = true
    · rwa [if_pos hi]
    · have other : j ≠ i := fun h => hi (h ▸ used)
      rw [if_neg hi]
      exact (AMap.find?_erase_ne _ other).trans hx

end

/-! ### A line written (R18, R186) -/

section
variable {n : Nat} {l : LineIn} {s : State}

theorem writeLine_without_store (h : s.xpt.store.find? n = none) : writeLine n l s = passTo l.start s := by
  simp only [writeLine, passTo_xpt, h]
  rfl

/-- A line of a VIN with storage heads the lines held of it, with its running check; those of other essences stay. -/
theorem pool_writeLine (h : (s.xpt.store.find? n).isSome = true) :
    (∃ p, ((writeLine n l s).poolOf n).head? = some p ∧ p.line = l.line ∧ p.frame = l.frame ∧ p.present = l.present
      ∧ p.words = l.words ∧ p.checks = lineChecks n l.line l.frame l.words)
    ∧ ∀ k, k ≠ n → (writeLine n l s).poolOf k = s.poolOf k := by
  have held : ¬ ((passTo l.start s).xpt.store.find? n).isNone = true := by simpa using Option.isSome_iff_ne_none.1 h
  obtain ⟨k, written⟩ : ∃ k, (writeLine n l s).xpt.pool = (passTo l.start s).xpt.pool.set n ((⟨l.line, l.frame, l.present, l.words,
      lineChecks n l.line l.frame l.words, l.margins, l.anc⟩ :: (passTo l.start s).poolOf n).take (k + 1)) := by
    simp only [writeLine, if_neg held]
    exact ⟨_, rfl⟩
  rw [passTo_xpt] at written
  refine ⟨⟨⟨l.line, l.frame, l.present, l.words, lineChecks n l.line l.frame l.words, l.margins, l.anc⟩, ?_, rfl, rfl, rfl, rfl, rfl⟩,
    fun j hj => ?_⟩
  · rw [State.poolOf, written, AMap.get_set_same, List.take_succ_cons, List.head?_cons]
  · rw [State.poolOf, written, AMap.get_set_ne _ _ _ hj, State.poolOf]

end

/-! ### A line read (R185 to R187) -/

section
variable {o e frame line : Nat} {r : Route} {p : PoolLine} {offs : List Int} {s : State}

theorem planeWords_nil (planeB : Bool) (words : List (List Byte)) : planeWords planeB [] words = words := by
  simp [planeWords]

theorem planeSides_nil (planeB : Bool) (checks : List Nat) : planeSides planeB [] checks = checks := by
  simp [planeSides]

theorem firstDiff_self (k : Nat) (l : List Nat) : firstDiff k l l = none := by
  induction l generalizing k with
  | nil => rfl
  | cons x l ih => rw [firstDiff, if_pos rfl, ih]

/-- A line without faults whose checks are its own fails in no plane (R186). -/
theorem planeFails_none (planeB : Bool) (h : p.checks = lineChecks e p.line p.frame p.words) : planeFails e p planeB [] = none := by
  rw [planeFails, planeWords_nil, planeSides_nil, h, firstDiff_self]

theorem mergeWords_none (a b : List (List Byte)) : mergeWords none none a b = a := by
  simp [mergeWords, beforeFail]

/-- Such a line is read as it was written, and nothing is counted (R187). -/
theorem readRoute_checked (h : p.checks = lineChecks e p.line p.frame p.words) (o : Nat) (r : Route) (s : State) :
    readRoute e o r p [] s = (p.words, s) := by
  unfold readRoute
  split
  · simp only [mergeP, planeFails_none _ h, noteCheckFail, planeWords_nil, mergeWords_none]
  · simp only [readT, planeFails_none _ h, noteCheckFail, planeWords_nil]
    rfl

/-- Words within their windows are sent as read (R179). -/
theorem windowWords_within {ok : Int → Int → Bool} {ms offs : List Int} {words : List (List Byte)} (prev black : List (List Byte))
    (h : ∀ k, k < words.length → ok (ms.getD k 0) (offs.getD k 0) = true) : windowWords ok ms offs prev black words = (words, 0) := by
  have each : words.zipIdx.map (fun e => if ok (ms.getD e.2 0) (offs.getD e.2 0) then (e.1, false)
      else (prev.getD e.2 (black.getD e.2 []), true)) = words.zipIdx.map (fun e => (e.1, false)) := by
    refine List.map_congr_left fun x hx => if_pos (h x.2 ?_)
    have := List.snd_lt_of_mem_zipIdx hx
    omega
  simp only [windowWords, each, List.map_map, List.filter_map]
  simp [Function.comp_def]

theorem readWindow_stored (h : r.path ≠ 0) (o : Nat) (p : PoolLine) (offs : List Int) (words : List (List Byte)) (s : State) :
    readWindow o r p offs words s = (words, s) := if_pos h

theorem readWindow_within (h : r.path = 0) (hin : ∀ k, k < p.words.length → 0 ≤ p.margins.getD k 0 * 1000 + offs.getD k 0 * 297
      ∧ s.belowH r.vin o r.td (s.routeOvl r.classP r.planeB r.td) (p.margins.getD k 0) (offs.getD k 0) = true) :
    readWindow o r p offs p.words s = (p.words, s) := by
  have within (prev : List (List Byte)) := windowWords_within (ok := fun m x => decide (0 ≤ m * 1000 + x * 297)
      && s.belowH r.vin o r.td (s.routeOvl r.classP r.planeB r.td) m x) (ms := p.margins) (offs := offs) (words := p.words)
    prev [] fun k hk => by simpa using hin k hk
  simp only [readWindow, h, ne_eq, not_true, if_false, within]
  rfl

/-- What an output reads is put out. -/
def putLine (o : Nat) (l : OutLine) (s : State) : State := { s with xpt := { s.xpt with
  out := (match s.xpt.out.find? o with | some x => s.xpt.out.set (1024 + o) x | none => s.xpt.out).set o l } }

theorem out_putLine (o : Nat) (l : OutLine) (s : State) : (putLine o l s).xpt.out.find? o = some l := AMap.find?_set_same ..

theorem readLine_unowned (h : s.ownerTd o = none) (frame line : Nat) (offs : List Int) (bad : List WordFault) :
    readLine o frame line offs bad s =
      putLine o ⟨line, frame, false, false, blackWords (s.fld F.XPT_VOUT_CFG_FMT o), []⟩ s := by
  simp only [readLine, h]
  rfl

/-- A line whose route holds it is put out as it was written. -/
theorem readLine_routed {n : Nat} (hown : s.ownerTd o = some n) (hroute : s.routeForLine o n frame line = some r)
    (hpresent : s.vinPresent r.vin = true) (hline : s.routeLine o r line frame = (e, some p))
    {q : PoolLine} (hq : q = if r.path = 0 then p else asEssence e p) (hchecks : q.checks = lineChecks e q.line q.frame q.words)
    (hwindow : readWindow o r q offs q.words s = (q.words, s)) :
    readLine o frame line offs [] s = putLine o ⟨line, frame, q.present, true, q.words, q.anc⟩ s := by
  simp only [readLine, hown, hroute, hpresent, hline, ← hq, readRoute_checked hchecks, hwindow]
  rfl

end

/-- Settles O30: each write through the rule of its case, and each line through what the Line Pool holds. -/
theorem linesAndStorage : Obligations.LinesAndStorage := by
  unfold Obligations.LinesAndStorage
  refine ⟨fun v s hle hA hB => ?_, fun v s h => ?_, fun n v s hsync hfeeder => ?_, fun n v j x s hsync hx hvin htd => ?_,
    fun n l s h => ?_, fun n l s h => ?_, fun o frame line offs bad s h => ?_,
    fun o frame line n e r p offs s hown hroute hpresent hpath hline => ?_,
    fun o frame line n e r p offs s hown hroute hpresent hpath hline hchecks hin => ?_⟩
  · refine ⟨_, congrArg Host.Outcome.next (writeOverlap_taken hle hA hB), fld_plainWrite (f := F.XPT_CFG_OVERLAP) rfl (by decide) _ _ _,
      plainWrite_xpt .., (regsButAt_plainWrite rfl (by decide) _ v).2 regsButAt_refl, plainWrite_flt .., by simp, by simp⟩
  · exact ⟨_, congrArg Host.Outcome.next (writeOverlap_refused h), reject_regs .., reject_xpt .., isSet_reject .., by simp⟩
  · refine ⟨_, congrArg Host.Outcome.next (writeVinCfg_refused (FS_ARM_of_or v) (by rwa [VIN_CFG_TD_of_or]) hfeeder), reject_regs ..,
      reject_xpt .., isSet_reject .., by simp⟩
  · generalize hw : plainWrite .XPT_VIN_CFG n (v ||| 8#32) s = w
    have armed : (setArmed n (F.XPT_VIN_CFG_TD.of v) true w).xpt.sync.find? j = some { x with armed := true } := by
      have found : w.xpt.sync.find? j = some x := by rwa [← hw, plainWrite_xpt]
      refine (AMap.find?_map ..).trans ?_
      rw [found]
      simp [hvin, htd]
    have stores := onlyStores_dropSyncs (setArmed n (F.XPT_VIN_CFG_TD.of v) true w)
    have exec : writeVinCfg n (v ||| 8#32) s = dropSyncs (setArmed n (F.XPT_VIN_CFG_TD.of v) true w) := by
      rw [writeVinCfg_arms (FS_ARM_of_or v) (by rwa [VIN_CFG_TD_of_or]), VIN_CFG_TD_of_or, hw]
    have regs : (dropSyncs (setArmed n (F.XPT_VIN_CFG_TD.of v) true w)).regs = w.regs := by rw [stores]; rfl
    have flt : (dropSyncs (setArmed n (F.XPT_VIN_CFG_TD.of v) true w)).flt = w.flt := by rw [stores]; rfl
    refine ⟨_, _, congrArg Host.Outcome.next exec, ?_, ?_, sync_dropSyncs armed rfl, rfl, rfl, ?_, ?_⟩
    · rw [flag_of_regs regs, ← hw, flag_plainWrite (f := F.XPT_VIN_CFG_FS_ARM) rfl (by decide), FS_ARM_of_or]
      rfl
    · rw [fld_of_regs regs, ← hw, fld_plainWrite (f := F.XPT_VIN_CFG_TD) rfl (by decide), VIN_CFG_TD_of_or]
    · rw [isSet_of_flt flt, ← hw]
      exact isSet_of_flt (plainWrite_flt ..) _
    · rw [← exec]
      exact ⟨by simp, by simp⟩
  · obtain ⟨⟨p, hp, hline, hframe, hpresent, hwords, hchecks⟩, others⟩ := pool_writeLine (n := n) (l := l) h
    exact ⟨_, p, rfl, hp, hline, hframe, hpresent, hwords, hchecks, others, by simp, by simp⟩
  · exact ⟨_, congrArg Host.Outcome.next (writeLine_without_store h), passTo_xpt .., by simp, by simp⟩
  · exact ⟨_, _, congrArg (fun t => Host.Outcome.next (txcLine o t)) (readLine_unowned h frame line offs bad), out_putLine .., rfl, rfl,
      rfl, rfl, rfl, rfl, rfl⟩
  · exact ⟨_, _, congrArg (fun t => Host.Outcome.next (txcLine o t)) (readLine_routed hown hroute hpresent hline (q := asEssence e p)
      (by rw [hpath]; rfl) rfl (readWindow_stored (by omega) ..)), out_putLine .., rfl, rfl, rfl, rfl, rfl, rfl, rfl, rfl⟩
  · exact ⟨_, _, congrArg (fun t => Host.Outcome.next (txcLine o t)) (readLine_routed hown hroute hpresent hline (q := p)
      (by rw [hpath]; rfl) hchecks (readWindow_within hpath hin)), out_putLine .., rfl, rfl, rfl, rfl, rfl, rfl, rfl, rfl, rfl⟩

end Sys2Proof.Machine
end

section
/-!
PROOFS. A period of the Audio Engine (R266, R268, R271, R273), zero-crossing timeouts (R278) and the definition of audio groups (R269).
-/

namespace Sys2Proof

/-! ### Keys of a map with one entry set -/

theorem mem_keys_ainsert {α : Type} (l : List (Nat × α)) (k j : Nat) (v : α) :
    k ∈ (ainsert l j v).map (·.1) ↔ k = j ∨ k ∈ l.map (·.1) := by
  induction l with
  | nil => simp [ainsert]
  | cons e l ih =>
    rw [ainsert]
    split
    · rename_i he
      simp only [List.map_cons, List.mem_cons, he]
      tauto
    split
    · simp only [List.map_cons, List.mem_cons]
    · simp only [List.map_cons, List.mem_cons, ih]
      tauto

theorem count_keys_ainsert {α : Type} (l : List (Nat × α)) {k j : Nat} (v : α) (h : k ≠ j) :
    ((ainsert l j v).map (·.1)).count k = (l.map (·.1)).count k := by
  induction l with
  | nil => simp [ainsert, Ne.symm h]
  | cons e l ih =>
    rw [ainsert]
    split
    · rename_i he
      simp [← he]
    split
    · simp [List.count_cons, Ne.symm h]
    · simp [List.count_cons, ih]

namespace AMap
variable {α : Type} {m : AMap α}

theorem mem_keys_set {k j : Nat} {v : α} : k ∈ (m.set j v).keys ↔ k = j ∨ k ∈ m.keys := mem_keys_ainsert ..

theorem count_keys_set {k j : Nat} (v : α) (h : k ≠ j) : (m.set j v).keys.count k = m.keys.count k := count_keys_ainsert _ v h

end AMap

namespace Machine

/-! ### What an input slot in no group keeps while others move (R272, R273) -/

/-- The registers that the input side of a period sets. -/
def inputRegs : List RegName := [.AUD_AGRP_SLIP, .AUD_AGRP_REP, .AUD_AGRP_DROP, .AUD_SLIP_SINGLE_CNT, .AUD_AGRP_STAT]

/-- With the registers of the period itself. -/
def periodRegs : List RegName := .AUD_PERIOD_LO :: .AUD_PERIOD_HI :: inputRegs

/-- Other slots and runs move: slot `i` and its own run stay, and what decides how a period treats it. -/
structure Aside (i : Nat) (s t : State) : Prop where
  slot : t.inSlot i = s.inSlot i
  run : t.alignRun (1024 + i) = s.alignRun (1024 + i)
  feeds : t.aud.feeds = s.aud.feeds
  count : t.aud.slot.keys.count i = s.aud.slot.keys.count i
  groups : ∀ a, a < 1024 → (a ∈ t.aud.run.keys ↔ a ∈ s.aud.run.keys)
  regs : regsBut periodRegs s t

section
variable {i j k : Nat} {s t u : State}

theorem aside_refl (i : Nat) (s : State) : Aside i s s := ⟨rfl, rfl, rfl, rfl, fun _ _ => Iff.rfl, regsBut_refl⟩

theorem Aside.trans (h : Aside i s t) (g : Aside i t u) : Aside i s u :=
  ⟨g.slot.trans h.slot, g.run.trans h.run, g.feeds.trans h.feeds, g.count.trans h.count,
    fun a ha => (g.groups a ha).trans (h.groups a ha), regsBut_trans h.regs g.regs⟩

/-- A change outside the Audio Engine's hidden state that sets registers of the input side alone. -/
theorem aside_of_aud (ha : t.aud = s.aud) (hr : regsBut periodRegs s t) : Aside i s t :=
  ⟨by rw [State.inSlot, ha, State.inSlot], by rw [State.alignRun, ha, State.alignRun], by rw [ha], by rw [ha],
    fun _ _ => by rw [ha], hr⟩

theorem aside_setInSlot (hj : j ≠ i) (x : InSlot) (s : State) : Aside i s (s.setInSlot j x) :=
  ⟨AMap.get_set_ne _ _ _ hj.symm, rfl, rfl, AMap.count_keys_set _ hj.symm, fun _ _ => Iff.rfl, regsBut_of_regs rfl⟩

theorem aside_setAlignRun (hk : k ≠ 1024 + i) (hg : k < 1024 → k ∈ s.aud.run.keys) (x : AlignRun) : Aside i s (s.setAlignRun k x) :=
  ⟨rfl, AMap.get_set_ne _ _ _ hk.symm, rfl, rfl, fun _ ha => AMap.mem_keys_set.trans (or_iff_right_of_imp fun h => h ▸ hg (h ▸ ha)),
    regsBut_of_regs rfl⟩

theorem aside_countSlip (i k rep drop : Nat) (s : State) : Aside i s (countSlip k rep drop s) := by
  refine aside_of_aud ?_ (regsBut_mono (by decide) (countSlip_frame k rep drop s))
  simp only [countSlip]
  split <;> simp

theorem aside_pushSample (hj : j ≠ i) (a : AudSample) (s : State) : Aside i s (pushSample j a s) := by
  have put (x : InSlot) := aside_setInSlot hj x s
  have slips (x : InSlot) (k : Nat) : Aside i s (countSlip k 0 1 (s.setInSlot j x)) := (put x).trans (aside_countSlip i k 0 1 _)
  exact iteInduction (motive := Aside i s) (fun _ => put _) fun _ => iteInduction (motive := Aside i s) (fun _ => slips _ _)
    fun _ => (put _).trans (aside_setInSlot hj _ _)

theorem aside_popSlot (hj : j ≠ i) (n : Nat) (s : State) : Aside i s (popSlot n s j) := by
  simp only [popSlot]
  split <;> exact aside_setInSlot hj _ s

theorem aside_convertSlot (hj : j ≠ i) (s : State) : Aside i s (convertSlot s j) :=
  (aside_of_aud (s := s) (t := s.freeNat.2) rfl (regsBut_of_regs rfl)).trans (aside_setInSlot hj _ _)

/-- What each of some slots does aside, all of them do. -/
theorem aside_slots {g : State → Nat → State} {l : List Nat} (hg : ∀ t j, j ≠ i → Aside i t (g t j)) (hl : i ∉ l) (s : State) :
    Aside i s (l.foldl g s) := by
  induction l generalizing s with
  | nil => exact aside_refl i s
  | cons j l ih =>
    rw [List.mem_cons, not_or] at hl
    exact (hg s j (Ne.symm hl.1)).trans (ih hl.2 _)

theorem aside_repeat (l : List Nat) (s : State) : l.foldl repeatSlot s = s := by
  induction l with
  | nil => rfl
  | cons j l ih => exact ih

/-- Other slots at a period, as a group or alone. -/
theorem aside_alignPeriod (hk : k ≠ 1024 + i) (hg : k < 1024 → k ∈ s.aud.run.keys) {l : List Nat} (hl : i ∉ l) (d : Nat) :
    Aside i s (alignPeriod k l d s) := by
  have runs {t : State} (h : Aside i s t) (hr : t.aud.run = s.aud.run) (x : AlignRun) : Aside i s (t.setAlignRun k x) :=
    h.trans (aside_setAlignRun hk (by rwa [hr]) x)
  have popRun (n : Nat) (l : List Nat) (s : State) : (l.foldl (popSlot n) s).aud.run = s.aud.run :=
    foldl_keeps (fun t => t.aud.run) (fun t j => by simp only [popSlot]; split <;> rfl) l s
  have pops (n : Nat) := aside_slots (g := popSlot n) (fun t j hj => aside_popSlot hj n t) hl s
  simp only [alignPeriod, aside_repeat]
  refine iteInduction (motive := Aside i s) (fun _ => ?_) fun _ => iteInduction (motive := Aside i s) (fun _ => ?_) fun _ =>
    iteInduction (motive := Aside i s) (fun _ => ?_) fun _ => iteInduction (motive := Aside i s) (fun _ => ?_) fun _ => ?_
  · exact aside_slots (fun t j hj => aside_setInSlot hj _ t) hl s
  · exact aside_setAlignRun hk hg _
  · exact (aside_setAlignRun hk hg _).trans (aside_countSlip ..)
  · exact (runs (pops _) (popRun _ l s) _).trans (aside_countSlip ..)
  · exact runs (pops 0) (popRun 0 l s) _

/-! ### The groups and slots of a period -/

theorem aside_noteFills (a : Nat) (l : List Nat) (s : State) : Aside i s (noteFills a l s) :=
  aside_of_aud (by simp [noteFills, State.setFlds]) ((regsBut_setFlds _ _ (by simp [periodRegs, inputRegs])).2 regsBut_refl)

theorem agrpRun_of_regs (h : regsBut periodRegs s t) (a : Nat) : t.agrpRun a = s.agrpRun a := by
  simp only [State.agrpRun, h.fld (f := F.AUD_AGRP_CFG_BASE) (by decide), h.fld (f := F.AUD_AGRP_CFG_COUNT) (by decide),
    h.flag (f := F.AUD_AGRP_CFG_FS96) (by decide)]

/-- A slot lies in the run of group `a`. -/
def State.inAgrp (s : State) (a i : Nat) : Prop := (s.agrpRun a).1 ≤ i ∧ i < (s.agrpRun a).1 + (s.agrpRun a).2

theorem aside_agrpPeriod {a : Nat} (hg : a < 1024 ∧ a ∈ s.aud.run.keys) (hi : ¬ s.inAgrp a i) : Aside i s (agrpPeriod s a) := by
  have apart : a ≠ 1024 + i := by omega
  have outside : i ∉ (List.range (s.agrpRun a).2).map ((s.agrpRun a).1 + ·) := by
    rintro hm
    obtain ⟨n, hn, rfl⟩ := List.mem_map.1 hm
    exact hi ⟨Nat.le_add_right .., Nat.add_lt_add_left (List.mem_range.1 hn) _⟩
  simp only [agrpPeriod]
  split
  · refine Aside.trans (t := (s.setAlignRun a ⟨true, 0⟩).setFlds a [(F.AUD_AGRP_STAT_FILL_MIN, s.fld F.AUD_AGRP_CFG_DELAY a),
      (F.AUD_AGRP_STAT_FILL_MAX, s.fld F.AUD_AGRP_CFG_DELAY a)]) ?_ (aside_slots (fun t j hj => ?_) outside _)
    · exact (aside_setAlignRun apart (fun _ => hg.2) _).trans
        (aside_of_aud (by simp [State.setFlds]) ((regsBut_setFlds _ _ (by simp [periodRegs, inputRegs])).2 regsBut_refl))
    · split
      · exact aside_convertSlot hj t
      · exact aside_setInSlot hj _ t
  · exact (aside_noteFills ..).trans (aside_alignPeriod apart (fun _ => by simpa [noteFills, State.setFlds] using hg.2) outside _)

theorem feedOf_of_aside (h : Aside i s t) (j : Nat) : t.feedOf j = s.feedOf j := by rw [State.feedOf, h.feeds, State.feedOf]

/-- What a slot's own registers and sources decide, the input side of a period leaves. -/
theorem feedPresent_of_regs (h : regsBut periodRegs s t) (f : AudFeed) : t.feedPresent f = s.feedPresent f := by
  have fld {f : Fld} (hf : f.reg ∉ periodRegs) (k : Nat) : t.fld f k = s.fld f k := h.fld hf k
  have flag {f : Fld} (hf : f.reg ∉ periodRegs) (k : Nat) : t.flag f k = s.flag f k := h.flag hf k
  have merge (c : Nat) : t.mergeOf c = s.mergeOf c := by
    simp only [State.mergeOf, fld (f := F.MPORT_MRG_CFG_CTX_A) (by decide), fld (f := F.MPORT_MRG_CFG_CTX_B) (by decide),
      flag (f := F.MPORT_MRG_CFG_EN) (by decide)]
  have partner (c : Nat) : t.mergePartner c = s.mergePartner c := by
    simp only [State.mergePartner, merge, fld (f := F.MPORT_MRG_CFG_CTX_A) (by decide), fld (f := F.MPORT_MRG_CFG_CTX_B) (by decide)]
  simp only [State.feedPresent, State.rxcLocked, partner, fld (f := F.SDI_RX_STAT_STATE) (by decide),
    flag (f := F.SDI_RX_STAT_AUD_RATE) (by decide), fld (f := F.MPORT_RXC_STAT_STATE) (by decide), fld (f := F.ULINK_STAT_STATE) (by decide),
    flag (f := F.AUD_SP_STAT_RX_LOCK) (by decide)]

/-- A slot without a feeder, or with an absent one, is filled. -/
def fillSlot (s : State) (i : Nat) : State :=
  match s.feedOf i with
  | some f => if s.feedPresent f then s else pushSample i .absent s
  | none => pushSample i .absent s

theorem fillAbsent_eq (s : State) : fillAbsent s = s.aud.slot.keys.foldl fillSlot s := rfl

/-- A slot whose feeder is present is not filled (R272). -/
theorem fillSlot_of_present {f : AudFeed} (hf : s.feedOf i = some f) (hp : s.feedPresent f = true) : fillSlot s i = s := by
  simp only [fillSlot, hf, hp, if_true]

theorem aside_fillSlot (hj : j ≠ i) (s : State) : Aside i s (fillSlot s j) := by
  unfold fillSlot
  split
  · split
    · exact aside_refl i s
    · exact aside_pushSample hj _ s
  · exact aside_pushSample hj _ s

theorem aside_fillAbsent {f : AudFeed} (hf : s.feedOf i = some f) (hp : s.feedPresent f = true) : Aside i s (fillAbsent s) := by
  rw [fillAbsent_eq]
  suffices ∀ (l : List Nat) t, Aside i s t → Aside i s (l.foldl fillSlot t) from this _ s (aside_refl i s)
  intro l
  induction l with
  | nil => exact fun _ h => h
  | cons j l ih =>
    refine fun t h => ih _ ?_
    by_cases hj : j = i
    · rw [hj, fillSlot_of_present ((feedOf_of_aside h i).trans hf) ((feedPresent_of_regs h.regs f).trans hp)]
      exact h
    · exact h.trans (aside_fillSlot hj t)

theorem agrpOf_eq_none_iff : s.agrpOf i = none ↔ ∀ a ∈ s.agrps, ¬ s.inAgrp a i := by
  simp [State.agrpOf, State.inAgrp, List.find?_eq_none]

theorem mem_agrps_iff {a : Nat} : a ∈ s.agrps ↔ a ∈ s.aud.run.keys ∧ a < 1024 ∧ s.flag F.AUD_AGRP_CFG_EN a = true := by
  simp [State.agrps]

theorem mem_agrps_of_aside (h : Aside i s t) {a : Nat} (ha : a ∈ t.agrps) : a ∈ s.agrps := by
  obtain ⟨hk, hlt, hen⟩ := mem_agrps_iff.1 ha
  exact mem_agrps_iff.2 ⟨(h.groups a hlt).1 hk, hlt, by rwa [h.regs.flag (f := F.AUD_AGRP_CFG_EN) (by decide)] at hen⟩

theorem inAgrp_of_aside (h : Aside i s t) {a : Nat} : t.inAgrp a i ↔ s.inAgrp a i := by
  rw [State.inAgrp, agrpRun_of_regs h.regs, State.inAgrp]

theorem agrpOf_none_of_aside (h : Aside i s t) (hnone : s.agrpOf i = none) : t.agrpOf i = none :=
  agrpOf_eq_none_iff.2 fun a ha => fun hin => agrpOf_eq_none_iff.1 hnone a (mem_agrps_of_aside h ha) ((inAgrp_of_aside h).1 hin)

/-- The alignment groups at a period leave a slot in none of them. -/
theorem aside_agrps (hnone : s.agrpOf i = none) : Aside i s (s.agrps.foldl agrpPeriod s) := by
  suffices ∀ (l : List Nat), (∀ a ∈ l, a ∈ s.agrps) → ∀ t, Aside i s t → Aside i s (l.foldl agrpPeriod t) from
    this s.agrps (fun _ h => h) s (aside_refl i s)
  intro l hl
  induction l with
  | nil => exact fun _ h => h
  | cons a l ih =>
    intro t h
    have ha := hl a List.mem_cons_self
    obtain ⟨hkey, hlt, -⟩ := mem_agrps_iff.1 ha
    refine ih (fun b hb => hl b (List.mem_cons_of_mem _ hb)) _ (h.trans (aside_agrpPeriod ⟨hlt, (h.groups a hlt).2 hkey⟩ ?_))
    rw [inAgrp_of_aside h]
    exact agrpOf_eq_none_iff.1 hnone a ha

/-- A slot that runs in step pops one sample (R273). -/
theorem alignPeriod_pops {a : AudSample} {r : List AudSample} {d : Nat} (hrun : (s.alignRun (1024 + i)).running = true)
    (hrep : (s.alignRun (1024 + i)).rep = 0) (hbuf : (s.inSlot i).buf = a :: r) (hd : r.length < 2 * d) :
    alignPeriod (1024 + i) [i] d s = (popSlot 0 s i).setAlignRun (1024 + i) ⟨true, 0⟩ := by
  have low : ((([i].map fun j => (s.inSlot j).buf.length).foldl min 128) == 0) = false := by
    simp [hbuf]
  have high : ¬ 2 * d < ([i].map fun j => (s.inSlot j).buf.length).foldl max 0 := by
    simp [hbuf]
    omega
  simp only [alignPeriod, hrun, hrep, low, if_neg high]
  rfl

theorem inSlot_popSlot {a : AudSample} {r : List AudSample} (hbuf : (s.inSlot i).buf = a :: r) :
    (popSlot 0 s i).inSlot i = { s.inSlot i with buf := r, cur := a } := by
  simp only [popSlot, hbuf, List.drop_zero]
  exact AMap.get_set_same ..

/-- The input side of a period pops one sample of a slot in no group that runs in step. -/
theorem inputPeriod_pops {a : AudSample} {r : List AudSample} (hcount : s.aud.slot.keys.count i = 1) (hnone : s.agrpOf i = none)
    (hrun : (s.alignRun (1024 + i)).running = true) (hrep : (s.alignRun (1024 + i)).rep = 0) (hbuf : (s.inSlot i).buf = a :: r)
    (hd : r.length < 2 * s.fld F.AUD_CFG_DELAY_DEF 0) : (inputPeriod s).inSlot i = { s.inSlot i with buf := r, cur := a } := by
  have groups := aside_agrps hnone
  have alone := agrpOf_none_of_aside groups hnone
  generalize hg : s.agrps.foldl agrpPeriod s = g at groups alone
  have others (l : List Nat) (hl : i ∉ l) (t : State) :
      Aside i t (l.foldl (fun t i => alignPeriod (1024 + i) [i] (t.fld F.AUD_CFG_DELAY_DEF 0) t) t) :=
    aside_slots (fun t j hj => aside_alignPeriod (by omega) (by omega) (by simpa using hj.symm) _) hl t
  have once : (g.aud.slot.keys.filter (fun i => (g.agrpOf i).isNone)).count i = 1 := by
    rw [List.count_filter (by simp [alone]), groups.count, hcount]
  obtain ⟨l, m, hsplit, hl⟩ := List.eq_append_cons_of_mem (List.count_pos_iff.1 (by omega : 0 <
    (g.aud.slot.keys.filter (fun i => (g.agrpOf i).isNone)).count i))
  have hm : i ∉ m := by
    rw [hsplit, List.count_append, List.count_cons_self] at once
    exact List.count_eq_zero.1 (by omega)
  have before := groups.trans (others l hl g)
  simp only [inputPeriod, hg, hsplit, List.foldl_append, List.foldl_cons]
  rw [(others m hm _).slot, alignPeriod_pops (by rw [before.run, hrun]) (by rw [before.run, hrep]) (by rw [before.slot, hbuf])
    (by rwa [before.regs.fld (f := F.AUD_CFG_DELAY_DEF) (by decide)])]
  refine (inSlot_popSlot (by rw [before.slot, hbuf])).trans ?_
  rw [before.slot]

/-! ### The frames of a period's two sides -/

/-- The input side changes slots, runs and its own registers: the period stays. -/
structure InputOnly (s t : State) : Prop where
  period : t.aud.period = s.aud.period
  regs : regsBut inputRegs s t

theorem inputOnly_refl (s : State) : InputOnly s s := ⟨rfl, regsBut_refl⟩

theorem InputOnly.trans (h : InputOnly s t) (g : InputOnly t u) : InputOnly s u := ⟨g.period.trans h.period, regsBut_trans h.regs g.regs⟩

theorem inputOnly_foldl {α : Type} {g : State → α → State} (h : ∀ t x, InputOnly t (g t x)) (l : List α) (s : State) :
    InputOnly s (l.foldl g s) := foldl_rel inputOnly_refl InputOnly.trans h l s

theorem inputOnly_countSlip (k rep drop : Nat) (s : State) : InputOnly s (countSlip k rep drop s) := by
  refine ⟨?_, regsBut_mono (by decide) (countSlip_frame k rep drop s)⟩
  simp only [countSlip]
  split <;> simp

theorem inputOnly_pushSample (j : Nat) (a : AudSample) (s : State) : InputOnly s (pushSample j a s) := by
  have slips (x : InSlot) (k : Nat) : InputOnly s (countSlip k 0 1 (s.setInSlot j x)) :=
    InputOnly.trans (t := s.setInSlot j x) ⟨rfl, regsBut_of_regs rfl⟩ (inputOnly_countSlip k 0 1 _)
  exact iteInduction (motive := InputOnly s) (fun _ => ⟨rfl, regsBut_of_regs rfl⟩) fun _ =>
    iteInduction (motive := InputOnly s) (fun _ => slips _ _) fun _ => ⟨rfl, regsBut_of_regs rfl⟩

theorem inputOnly_popSlot (n : Nat) (s : State) (j : Nat) : InputOnly s (popSlot n s j) := by
  simp only [popSlot]
  split <;> exact ⟨rfl, regsBut_of_regs rfl⟩

theorem inputOnly_alignPeriod (k : Nat) (l : List Nat) (d : Nat) (s : State) : InputOnly s (alignPeriod k l d s) := by
  have runs {t : State} (h : InputOnly s t) (x : AlignRun) : InputOnly s (t.setAlignRun k x) := ⟨h.period, h.regs⟩
  have pops (n : Nat) := inputOnly_foldl (inputOnly_popSlot n) l s
  have blanks := inputOnly_foldl (g := blankSlot) (fun _ _ => ⟨rfl, regsBut_of_regs rfl⟩) l s
  simp only [alignPeriod, aside_repeat]
  refine iteInduction (motive := InputOnly s) (fun _ => blanks) fun _ => iteInduction (motive := InputOnly s) (fun _ => ?_) fun _ =>
    iteInduction (motive := InputOnly s) (fun _ => ?_) fun _ => iteInduction (motive := InputOnly s) (fun _ => ?_) fun _ => ?_
  · exact runs (inputOnly_refl s) _
  · exact (runs (inputOnly_refl s) _).trans (inputOnly_countSlip ..)
  · exact (runs (pops _) _).trans (inputOnly_countSlip ..)
  · exact runs (pops 0) _

theorem inputOnly_setFlds {l : List (Fld × Nat)} (h : ∀ e ∈ l, e.1.reg ∈ inputRegs) (k : Nat) (s : State) :
    InputOnly s (s.setFlds k l) := by
  induction l generalizing s with
  | nil => exact inputOnly_refl s
  | cons e l ih =>
    refine InputOnly.trans (t := s.setFld e.1 k e.2) ⟨rfl, (regsBut_setFld (h e List.mem_cons_self) _ _).2 regsBut_refl⟩ ?_
    exact ih (fun x hx => h x (List.mem_cons_of_mem _ hx)) _

theorem inputOnly_agrpPeriod (s : State) (a : Nat) : InputOnly s (agrpPeriod s a) := by
  simp only [agrpPeriod]
  split
  · refine InputOnly.trans (t := s.setAlignRun a ⟨true, 0⟩) ⟨rfl, regsBut_of_regs rfl⟩
      ((inputOnly_setFlds (by simp [inputRegs]) _ _).trans (inputOnly_foldl (fun t j => ?_) _ _))
    split
    · exact ⟨rfl, regsBut_of_regs rfl⟩
    · exact ⟨rfl, regsBut_of_regs rfl⟩
  · exact (inputOnly_setFlds (by simp [inputRegs]) _ _).trans (inputOnly_alignPeriod ..)

theorem inputOnly_fillSlot (s : State) (j : Nat) : InputOnly s (fillSlot s j) := by
  unfold fillSlot
  split
  · split
    · exact inputOnly_refl s
    · exact inputOnly_pushSample ..
  · exact inputOnly_pushSample ..

theorem inputOnly_inputPeriod (s : State) : InputOnly s (inputPeriod s) :=
  (inputOnly_foldl inputOnly_agrpPeriod _ _).trans (inputOnly_foldl (fun _ _ => inputOnly_alignPeriod ..) _ _)

/-- The output side changes groups, outputs and ports: the input slots and the period stay. -/
structure OutputOnly (s t : State) : Prop where
  slot : t.aud.slot = s.aud.slot
  period : t.aud.period = s.aud.period
  regs : regsBut [.AUD_XFADE_CNT, .AUD_SP_TXSLIP] s t

theorem outputOnly_refl (s : State) : OutputOnly s s := ⟨rfl, rfl, regsBut_refl⟩

theorem OutputOnly.trans (h : OutputOnly s t) (g : OutputOnly t u) : OutputOnly s u :=
  ⟨g.slot.trans h.slot, g.period.trans h.period, regsBut_trans h.regs g.regs⟩

theorem outputOnly_foldl {α : Type} {g : State → α → State} (h : ∀ t x, OutputOnly t (g t x)) (l : List α) (s : State) :
    OutputOnly s (l.foldl g s) := foldl_rel outputOnly_refl OutputOnly.trans h l s

theorem outputOnly_putMember (g k p h : Nat) (s : State) : OutputOnly s (putMember g k p h s) := by
  have counts {t : State} (ht : OutputOnly s t) : OutputOnly s ((t.bump .AUD_XFADE_CNT 0).raise Src.AUD_XFADE) :=
    ⟨by simpa using ht.slot, by simpa using ht.period, by simpa using ht.regs⟩
  simp only [putMember]
  refine iteInduction (motive := OutputOnly s) (fun _ => counts ?_) fun _ => ?_
  · exact ⟨rfl, rfl, regsBut_of_regs rfl⟩
  · exact ⟨rfl, rfl, regsBut_of_regs rfl⟩

theorem outputOnly_noteGain (g k : Nat) (s : State) : OutputOnly s (noteGain g k s) := by
  simp only [noteGain, State.divFree]
  split <;> exact ⟨rfl, rfl, regsBut_of_regs rfl⟩

theorem outputOnly_groupPeriod (p : Nat) (s : State) (g : Nat) : OutputOnly s (groupPeriod p s g) := by
  simp only [groupPeriod]
  refine OutputOnly.trans ?_ (outputOnly_foldl (fun t k => ?_) _ _)
  · exact iteInduction (motive := OutputOnly s) (fun _ => ⟨rfl, rfl, regsBut_of_regs rfl⟩) fun _ => outputOnly_refl s
  · refine OutputOnly.trans ?_ (outputOnly_noteGain g k _)
    refine iteInduction (motive := OutputOnly t) (fun _ => ?_) fun _ => outputOnly_putMember ..
    exact (outputOnly_putMember ..).trans (outputOnly_putMember ..)

theorem outputOnly_txFrame (p h : Nat) (s : State) : OutputOnly s (txFrame p h s) := by
  simp only [txFrame]
  refine iteInduction (motive := OutputOnly s) (fun _ => ⟨rfl, rfl, regsBut_of_regs rfl⟩) fun _ =>
    iteInduction (motive := OutputOnly s) (fun _ => ?_) fun _ => ⟨rfl, rfl, regsBut_of_regs rfl⟩
  exact ⟨by simp [txSlip], by simp [txSlip], by simp [txSlip]⟩

theorem outputOnly_portPeriod (p : Nat) (s : State) (n : Nat) : OutputOnly s (portPeriod p s n) := by
  have latched (c : Bool) (x : SerialPort) : OutputOnly s (if c then (s.commitReg .AUD_SP_MASK n).setPort n x else s) :=
    iteInduction (motive := OutputOnly s) (fun _ => ⟨rfl, rfl, regsBut_of_regs rfl⟩) fun _ => outputOnly_refl s
  exact iteInduction (motive := OutputOnly s) (fun _ => (latched _ _).trans (iteInduction (motive := OutputOnly _)
    (fun _ => (outputOnly_txFrame ..).trans (outputOnly_txFrame ..)) fun _ => outputOnly_txFrame ..)) fun _ => latched _ _

/-! ### A period -/

/-- The beginning of a period: time passes to its start, and its number is shown. -/
def periodBegun (s : State) : State :=
  let p := s.nextPeriod
  let s2 := ((passTo (periodStart p : Nat) s).setFld F.AUD_PERIOD_LO_P 0 (p % 2 ^ 32)).setFld F.AUD_PERIOD_HI_P 0 (p / 2 ^ 32 % 2 ^ 16)
  { s2 with aud := { s2.aud with period := p, count := s2.aud.count + 1 } }

/-- The output side of period `p`: groups and ports. -/
def outputPeriod (p : Nat) (s : State) : State := (List.range 16).foldl (portPeriod p) (s.grps.foldl (groupPeriod p) s)

theorem audPeriod_eq (s : State) : audPeriod s = outputPeriod s.nextPeriod (inputPeriod (fillAbsent (periodBegun s))) := rfl

theorem outputOnly_outputPeriod (p : Nat) (s : State) : OutputOnly s (outputPeriod p s) :=
  (outputOnly_foldl (outputOnly_groupPeriod p) _ s).trans (outputOnly_foldl (outputOnly_portPeriod p) _ _)

theorem aside_periodBegun (i : Nat) (s : State) : Aside i s (periodBegun s) := by
  have aud := passTo_aud (periodStart s.nextPeriod : Nat) s
  have slot : (periodBegun s).aud.slot = (passTo (periodStart s.nextPeriod : Nat) s).aud.slot := rfl
  have run : (periodBegun s).aud.run = (passTo (periodStart s.nextPeriod : Nat) s).aud.run := rfl
  have feeds : (periodBegun s).aud.feeds = (passTo (periodStart s.nextPeriod : Nat) s).aud.feeds := rfl
  rw [aud] at slot run feeds
  refine ⟨by rw [State.inSlot, slot, State.inSlot], by rw [State.alignRun, run, State.alignRun], feeds, by rw [slot], fun a _ => by rw [run], ?_⟩
  have shown : regsBut periodRegs s (((passTo (periodStart s.nextPeriod : Nat) s).setFld F.AUD_PERIOD_LO_P 0 (s.nextPeriod % 2 ^ 32)).setFld
      F.AUD_PERIOD_HI_P 0 (s.nextPeriod / 2 ^ 32 % 2 ^ 16)) := by
    rw [regsBut_setFld (by decide), regsBut_setFld (by decide)]
    exact regsBut_of_regs (passTo_regs ..)
  exact regsBut_trans shown (regsBut_of_regs rfl)

theorem reg_periodBegun (s : State) : (periodBegun s).reg .AUD_PERIOD_LO 0 = BitVec.ofNat 32 s.nextPeriod
    ∧ (periodBegun s).fld F.AUD_PERIOD_HI_P 0 = s.nextPeriod / 2 ^ 32 % 2 ^ 16 := by
  have regs : (periodBegun s).regs = (((passTo (periodStart s.nextPeriod : Nat) s).setFld F.AUD_PERIOD_LO_P 0 (s.nextPeriod % 2 ^ 32)).setFld
      F.AUD_PERIOD_HI_P 0 (s.nextPeriod / 2 ^ 32 % 2 ^ 16)).regs := rfl
  constructor
  · have low : (periodBegun s).fld F.AUD_PERIOD_LO_P 0 = s.nextPeriod % 2 ^ 32 := by
      rw [fld_of_regs regs, fld_setFld_apart _ (by decide) (by decide), fld_setFld_same _ (by decide)]
      exact Nat.mod_mod _ _
    rw [← reg_of_whole (f := F.AUD_PERIOD_LO_P) rfl rfl, low]
    exact BitVec.eq_of_toNat_eq (by simp)
  · rw [fld_of_regs regs, fld_setFld_same _ (by decide)]
    exact Nat.mod_mod _ _

/-- What a period leaves: its number is shown, and a slot in no group that runs in step gives its next sample. -/
theorem audPeriod_shows (s : State) : (audPeriod s).aud.period = s.nextPeriod
    ∧ (audPeriod s).reg .AUD_PERIOD_LO 0 = BitVec.ofNat 32 s.nextPeriod
    ∧ (audPeriod s).fld F.AUD_PERIOD_HI_P 0 = s.nextPeriod / 2 ^ 32 % 2 ^ 16 := by
  have inputs := (inputOnly_foldl inputOnly_fillSlot (periodBegun s).aud.slot.keys (periodBegun s)).trans (inputOnly_inputPeriod _)
  have outputs := outputOnly_outputPeriod s.nextPeriod (inputPeriod (fillAbsent (periodBegun s)))
  obtain ⟨lo, hi⟩ := reg_periodBegun s
  rw [audPeriod_eq]
  refine ⟨outputs.period.trans inputs.period, ?_, ?_⟩
  · rw [outputs.regs _ _ (by decide), ← lo]
    exact inputs.regs _ _ (by decide)
  · rw [outputs.regs.fld (by decide), ← hi]
    exact inputs.regs.fld (by decide) _

theorem audPeriod_pops {f : AudFeed} {a : AudSample} {r : List AudSample} (hnodup : s.aud.slot.keys.Nodup) (hkey : i ∈ s.aud.slot.keys)
    (hf : s.feedOf i = some f) (hp : s.feedPresent f = true) (hnone : s.agrpOf i = none) (hrun : (s.alignRun (1024 + i)).running = true)
    (hrep : (s.alignRun (1024 + i)).rep = 0) (hbuf : (s.inSlot i).buf = a :: r) (hd : r.length < 2 * s.fld F.AUD_CFG_DELAY_DEF 0) :
    (audPeriod s).inSlot i = { s.inSlot i with buf := r, cur := a } := by
  have begun := aside_periodBegun i s
  have before := begun.trans (aside_fillAbsent ((feedOf_of_aside begun i).trans hf) ((feedPresent_of_regs begun.regs f).trans hp))
  have once : (fillAbsent (periodBegun s)).aud.slot.keys.count i = 1 := by
    rw [before.count]
    exact List.count_eq_one_of_mem hnodup hkey
  have pops := inputPeriod_pops once (agrpOf_none_of_aside before hnone) (by rw [before.run, hrun]) (by rw [before.run, hrep])
    (by rw [before.slot, hbuf]) (by rwa [before.regs.fld (f := F.AUD_CFG_DELAY_DEF) (by decide)])
  rw [audPeriod_eq, State.inSlot, (outputOnly_outputPeriod ..).slot]
  refine pops.trans ?_
  rw [before.slot]

end

/-! ### Timeouts (R278) and groups (R269) -/

section
variable {o g k : Nat} {v : Word} {s : State}

/-- Member `k` of group `g` after its crossfade to `c` begins at its deadline. -/
def fadingGroup (g k : Nat) (c : AudChange) (s : State) : AudGroup :=
  { s.audGroup g with members := (s.audGroup g).members.set k (((s.audGroup g).member k).beginFade c) }

/-- The crossfade of a member begins when its timeout runs out. -/
theorem zxTimesOut_fades {c : AudChange} (hm : s.memberOf o = some (g, k)) (hpend : ((s.audGroup g).member k).pend = some c)
    (hfade : ((s.audGroup g).member k).fade = none) : zxTimesOut o s =
      (((passTo (c.deadline : Nat) s).setAudGroup g (fadingGroup g k c s)).bump .AUD_XFADE_CNT 0).raise Src.AUD_XFADE := by
  have same : (passTo (c.deadline : Nat) s).audGroup g = s.audGroup g := by rw [State.audGroup, passTo_aud, State.audGroup]
  simp only [zxTimesOut, hm, hpend, hfade, same]
  rfl

theorem member_fadingGroup (g k : Nat) (c : AudChange) (s t : State) :
    ((((t.setAudGroup g (fadingGroup g k c s)).bump .AUD_XFADE_CNT 0).raise Src.AUD_XFADE).audGroup g).member k
      = ((s.audGroup g).member k).beginFade c := by
  rw [State.audGroup, raise_aud, bump_aud, State.setAudGroup, AMap.get_set_same, AudGroup.member, fadingGroup, AMap.get_set_same]

theorem writeGrp_owned (h : (s.owner.find? (2 ^ 13 + g)).isSome = true) : writeGrp g v s = s.reject .AUD := by
  simp only [writeGrp, h]
  rfl

/-- A group that no thread owns and that meets no other is defined (R269). -/
theorem writeGrp_defines (hfree : s.owner.find? (2 ^ 13 + g) = none) (hsize : F.AUD_GRP_CFG_SIZE.of v ≤ 64)
    (hmeets : ∀ x, x ∈ s.grps → x ≠ g → runsMeet (s.grpRun v).1 (s.grpRun v).2 (s.grpRun (s.reg .AUD_GRP_CFG x)).1
      (s.grpRun (s.reg .AUD_GRP_CFG x)).2 = false) :
    ∃ a, writeGrp g v s = { plainWrite .AUD_GRP_CFG g v s with aud := a } := by
  have meets : (F.AUD_GRP_CFG_SIZE.of v != 0 && s.grps.any (fun x => x != g && runsMeet (s.grpRun v).1 (s.grpRun v).2
      (s.grpRun (s.reg .AUD_GRP_CFG x)).1 (s.grpRun (s.reg .AUD_GRP_CFG x)).2)) = false := by
    rw [Bool.and_eq_false_iff]
    refine .inr (List.any_eq_false.2 fun x hx => ?_)
    by_cases hxg : x = g
    · simp [hxg]
    · simp [hmeets x hx hxg]
  simp only [writeGrp, hfree, meets, decide_eq_false (not_lt.2 hsize)]
  exact ⟨_, rfl⟩

end

/-- Settles O44: a period through the frames of its two sides, the other commands through the rule of each case. -/
theorem audioPeriodsAndGroups : Obligations.AudioPeriodsAndGroups := by
  unfold Obligations.AudioPeriodsAndGroups
  refine ⟨fun s => ?_, fun o g k c s hm hpend hfade => ?_, fun o s hm => ?_, fun g v s hfree hsize hmeets => ?_, fun g v s h => ?_⟩
  · obtain ⟨period, lo, hi⟩ := audPeriod_shows s
    exact ⟨_, rfl, period, lo, hi, fun i f a r hnodup hkey hf hp hnone hrun hrep hbuf hd _ =>
      audPeriod_pops hnodup hkey hf hp hnone hrun hrep hbuf hd, by simp, by simp⟩
  · have fades := zxTimesOut_fades hm hpend hfade
    have still : Machine.still s (zxTimesOut o s) := ⟨by simp, by simp⟩
    rw [fades] at still
    have begun := member_fadingGroup g k c s (passTo (c.deadline : Nat) s)
    have regs (r : RegName) (i : Nat) : ((passTo (c.deadline : Nat) s).setAudGroup g (fadingGroup g k c s)).reg r i = s.reg r i :=
      reg_of_regs (s := s) (passTo_regs ..) r i
    refine ⟨_, _, congrArg Host.Outcome.next fades, congrArg AudMember.pend begun, congrArg AudMember.fade begun, rfl, rfl,
      fun x hx => (congrArg AudMember.src begun).trans ?_, isSet_raise_same _ (by decide), ?_, ?_, still⟩
    · simp only [AudMember.beginFade, AudMember.apply, hx]
    · rw [reg_raise, reg_bump_same, regs]
    · rw [regsButAt_raise, regsButAt_bump_iff (by decide)]
      exact fun r i _ => regs r i
  · exact congrArg Host.Outcome.next (by simp only [zxTimesOut, hm])
  · obtain ⟨a, h⟩ := writeGrp_defines hfree hsize hmeets
    refine ⟨_, congrArg Host.Outcome.next h, ?_, ?_, ?_, ?_, plainWrite_flt .., by simp, by simp⟩
    · exact (fld_of_regs rfl _ _).trans (fld_plainWrite (f := F.AUD_GRP_CFG_BASE) rfl (by decide) _ _ _)
    · exact (fld_of_regs rfl _ _).trans (fld_plainWrite (f := F.AUD_GRP_CFG_SIZE) rfl (by decide) _ _ _)
    · exact (fld_of_regs rfl _ _).trans (fld_plainWrite (f := F.AUD_GRP_CFG_FS96) rfl (by decide) _ _ _)
    · exact regsButAt_trans ((regsButAt_plainWrite rfl (by decide) _ _).2 regsButAt_refl) (regsButAt_of_regs rfl)
  · exact ⟨_, congrArg Host.Outcome.next (writeGrp_owned h), reject_regs .., isSet_reject .., by simp⟩

end Machine

end Sys2Proof
end

section
/-!
PROOFS. Samples, alignment groups, converters, channel status and serial ports of the Audio Engine (R271 to R276, R283, R286 to R291).
-/

namespace Sys2Proof.Machine

/-! ### Samples (R271, R283) -/

section
variable {i h : Nat} {a : AudSample} {s : State}

theorem inSlot_setInSlot_same (s : State) (i : Nat) (x : InSlot) : (s.setInSlot i x).inSlot i = x := AMap.get_set_same ..

/-- A channel-status block takes a bit: the buffers stay. -/
theorem buf_takeCs (i h : Nat) (a : AudSample) (keep : Nat → Bool) (s : State) : ((takeCs h a keep s).inSlot i).buf = (s.inSlot i).buf
    ∧ ((takeCs h a keep s).inSlot i).cur = (s.inSlot i).cur := by
  have taken (x : InSlot) : (x.takeC a keep).buf = x.buf ∧ (x.takeC a keep).cur = x.cur := by
    simp only [InSlot.takeC]
    exact iteInduction (motive := fun y : InSlot => y.buf = x.buf ∧ y.cur = x.cur) (fun _ => ⟨rfl, rfl⟩) fun _ => ⟨rfl, rfl⟩
  by_cases hi : i = s.csSlot h
  · rw [takeCs, hi, inSlot_setInSlot_same]
    exact taken _
  · have other : (takeCs h a keep s).inSlot i = s.inSlot i := AMap.get_set_ne _ _ _ hi
    rw [other]
    exact ⟨rfl, rfl⟩

/-- A sample joins the buffer of a slot in no group that has room (R271). -/
theorem pushSample_joins (hnone : s.agrpOf i = none) (hroom : (s.inSlot i).buf.length < 128) :
    pushSample i a s = (s.setInSlot i { s.inSlot i with rx := a }).setInSlot i
      { s.inSlot i with rx := a, buf := (s.inSlot i).buf ++ [a] } := by
  simp only [pushSample, hnone, not_le.2 hroom]
  rfl

/-- What a sample that joins a slot's buffer leaves. -/
theorem pushSample_facts (hnone : s.agrpOf i = none) (hroom : (s.inSlot i).buf.length < 128) :
    ((pushSample i a s).inSlot i).buf = (s.inSlot i).buf ++ [a] ∧ ((pushSample i a s).inSlot i).rx = a
      ∧ ((pushSample i a s).inSlot i).cur = (s.inSlot i).cur ∧ (pushSample i a s).regs = s.regs ∧ (pushSample i a s).flt = s.flt := by
  rw [pushSample_joins hnone hroom, inSlot_setInSlot_same]
  exact ⟨rfl, rfl, rfl, rfl, rfl⟩

theorem agrpOf_of_run {t : State} (hr : t.regs = s.regs) (ha : t.aud.run = s.aud.run) (i : Nat) : t.agrpOf i = s.agrpOf i := by
  have run (a : Nat) : t.agrpRun a = s.agrpRun a := agrpRun_of_regs (regsBut_of_regs hr) a
  have groups : t.agrps = s.agrps := by
    simp only [State.agrps, ha, flag_of_regs hr]
  simp only [State.agrpOf, groups, run]

/-- A present feeder other than a port's delivers its sample (R271). -/
theorem sampleArrives_delivers {f : AudFeed} (hf : s.feedOf i = some f) (hp : s.feedPresent f = true) (hk : f.kind ≠ 4) :
    sampleArrives i a s = pushSample i a (if f.cs then takeCs i a (fun _ => true) s else s) := by
  simp only [sampleArrives, hf, hp, hk, deliver]
  rfl

end

/-! ### Alignment groups and converters (R271, R272, R274 to R276) -/

section
variable {a c u : Nat} {v w : Word} {s : State}

theorem touchSlots_keeps {β : Type} (p : State → β) (h : ∀ t i x, p (State.setInSlot t i x) = p t) (l : List Nat) (s : State) :
    p (touchSlots l s) = p s := by
  refine foldl_keeps p (fun t i => ?_) l s
  split
  · rfl
  · exact h ..

theorem writeAgrp_enables (hoff : s.flag F.AUD_AGRP_CFG_EN a = false) (hon : F.AUD_AGRP_CFG_EN.of w = 1)
    (hcount : 1 ≤ F.AUD_AGRP_CFG_COUNT.of w ∧ F.AUD_AGRP_CFG_COUNT.of w ≤ 64)
    (hdelay : 2 ≤ F.AUD_AGRP_CFG_DELAY.of w ∧ F.AUD_AGRP_CFG_DELAY.of w ≤ 60)
    (hmeets : ∀ x, x ∈ s.agrps → x ≠ a → runsMeet (agrpSlots w).1 (agrpSlots w).2 (s.agrpRun x).1 (s.agrpRun x).2 = false) :
    ∃ l, writeAgrp a w s = touchSlots l ((plainWrite .AUD_AGRP_CFG a w s).setAlignRun a .reset) := by
  have meets : s.agrps.any (fun x => x != a && runsMeet (agrpSlots w).1 (agrpSlots w).2 (s.agrpRun x).1 (s.agrpRun x).2) = false :=
    List.any_eq_false.2 fun x hx => by
      by_cases hxa : x = a
      · simp [hxa]
      · simp [hmeets x hx hxa]
  simp only [writeAgrp, hoff, hon, meets, decide_eq_false (not_lt.2 hcount.1), decide_eq_false (not_lt.2 hcount.2),
    decide_eq_false (not_lt.2 hdelay.1), decide_eq_false (not_lt.2 hdelay.2)]
  exact ⟨_, rfl⟩

theorem writeAgrp_refused (hon : F.AUD_AGRP_CFG_EN.of w = 1) (hbad : F.AUD_AGRP_CFG_COUNT.of w = 0 ∨ 64 < F.AUD_AGRP_CFG_COUNT.of w
    ∨ F.AUD_AGRP_CFG_DELAY.of w < 2 ∨ 60 < F.AUD_AGRP_CFG_DELAY.of w) : writeAgrp a w s = s.reject .AUD := by
  refine if_pos ?_
  rcases hbad with h | h | h | h <;> simp [hon, h]

theorem writeAsrc_enables (hoff : s.flag F.AUD_ASRC_CFG_EN c = false) (hon : F.AUD_ASRC_CFG_EN.of w = 1)
    (hgroup : s.agrps.contains (F.AUD_ASRC_CFG_AGRP.of w) = true) (hmembers : s.asrcMembers (F.AUD_ASRC_CFG_AGRP.of w) = true)
    (hserved : ∀ d, d < 64 → d ≠ c → s.flag F.AUD_ASRC_CFG_EN d = true → s.fld F.AUD_ASRC_CFG_AGRP d ≠ F.AUD_ASRC_CFG_AGRP.of w) :
    writeAsrc c w s = (plainWrite .AUD_ASRC_CFG c w s).setFlag F.AUD_ASRC_STAT_LOCKED c false := by
  have served : (List.range 64).any (fun d => d != c && s.flag F.AUD_ASRC_CFG_EN d
      && s.fld F.AUD_ASRC_CFG_AGRP d == F.AUD_ASRC_CFG_AGRP.of w) = false :=
    List.any_eq_false.2 fun d hd => by
      by_cases hdc : d = c
      · simp [hdc]
      · cases hen : s.flag F.AUD_ASRC_CFG_EN d
        · simp
        · simp [hserved d (List.mem_range.1 hd) hdc hen]
  simp only [writeAsrc, hon, hoff, hgroup, hmembers, served]
  rfl

theorem writeAsrc_refused (hon : F.AUD_ASRC_CFG_EN.of w = 1) (hgroup : s.agrps.contains (F.AUD_ASRC_CFG_AGRP.of w) = false) :
    writeAsrc c w s = s.reject .AUD := by
  simp only [writeAsrc, hon, hgroup]
  rfl

theorem flag_giveAsrc (c u k : Nat) (s : State) :
    (giveAsrc c u s).flag F.AUD_ASRC_STAT_LOCKED k = s.flag F.AUD_ASRC_STAT_LOCKED k := by
  have regs : (giveAsrc c u s).regs = (((s.setUnit (53 + u) 0).setFld F.AUD_ASRC_UNIT_SERVES u c).setFld F.AUD_ASRC_STAT_UNIT c u).regs := rfl
  rw [flag_of_regs regs, flag_setFld_apart _ (by decide) (by decide), flag_setFld_apart _ (by decide) (by decide)]
  exact ((regsBut_setUnit (rs := unitRegs) (List.Subset.refl _) (53 + u) 0).2 regsBut_refl).flag (f := F.AUD_ASRC_STAT_LOCKED) (by decide) k

/-- A converter whose unit reports an error is not locked (R276). -/
theorem flag_replaceAsrc (u : Nat) (s : State) :
    (replaceAsrc u s).flag F.AUD_ASRC_STAT_LOCKED (s.fld F.AUD_ASRC_UNIT_SERVES u) = false := by
  simp only [replaceAsrc]
  split
  · rw [flag_giveAsrc]
    exact flag_setFlag_same _ (by decide) rfl _ _
  · exact (flag_of_regs rfl _ _).trans (flag_setFlag_same s (by decide) rfl _ _)

/-- A unit in service that reports an error is parked, and its converter has lost its lock (R276). -/
theorem asrcErrs_parks (hu : u < 72) (hup : s.unitState (53 + u) = 0) : (asrcErrs u s).unitState (53 + u) = 1
    ∧ (asrcErrs u s).isSet Src.AUD_ASRC_ERR = true ∧ (asrcErrs u s).flag F.AUD_ASRC_STAT_LOCKED (s.fld F.AUD_ASRC_UNIT_SERVES u) = false := by
  have field : unitField (53 + u) = (F.AUD_ASRC_UNIT_STATE, u) := by
    have type : unitType (53 + u) = 3 := by
      simp only [unitType, show ¬ 53 + u < 18 by omega, show ¬ 53 + u < 36 by omega, show ¬ 53 + u < 53 by omega,
        show 53 + u < 125 by omega, if_true, if_false]
    simp only [unitField, type, Nat.add_sub_cancel_left]
  simp only [asrcErrs, hup, true_or, if_true]
  refine ⟨?_, isSet_raise_same _ (by decide), ?_⟩
  · rw [State.unitState, fld_raise]
    exact unitState_parkUnit (53 + u) (replaceAsrc u s) (by simp [field]) (by simp [field])
  · rw [flag_raise]
    have parked := regsBut_parkUnit (rs := .PWR_CAP_HOLD_CNT :: unitRegs) (List.Subset.refl _) (53 + u) (replaceAsrc u s)
    refine (flag_of_regs (s := parkUnit (53 + u) (replaceAsrc u s)) rfl _ _).trans ?_
    rw [parked.flag (by decide)]
    exact flag_replaceAsrc u s

theorem asrcErrs_idle (h0 : s.unitState (53 + u) ≠ 0) (h2 : s.unitState (53 + u) ≠ 2) : asrcErrs u s = s :=
  if_neg (by simp [h0, h2])

theorem asrcLocks_locks {ratio : Nat} (hon : s.flag F.AUD_ASRC_CFG_EN c = true) (hbare : s.aud.bare.contains c = false)
    (hrange : s.asrcInRange c ratio = true) : asrcLocks c ratio s =
      (s.setReg .AUD_ASRC_RATIO c (BitVec.ofNat 32 ratio)).setFlag F.AUD_ASRC_STAT_LOCKED c true :=
  if_pos ⟨hon, by rw [hbare]; rfl, hrange⟩

theorem asrcUnlocks_silent (ratio : Nat) (hlocked : s.flag F.AUD_ASRC_STAT_LOCKED c = true) : asrcUnlocks c .silent ratio s =
    (s.setFlds c [(F.AUD_ASRC_STAT_LOCKED, 0), (F.AUD_ASRC_STAT_UNLOCK_S, 1)]).raise Src.AUD_ASRC_UNLOCK := if_pos ⟨hlocked, rfl⟩

end

/-! ### Channel status (R283, R291) -/

section
variable {v : Word} {b : Nat} {s : State}

theorem b2n_bit (c : Bool) : (b2n c % 2 ^ 1 != 0) = c := by cases c <;> rfl

/-- A captured block's words. -/
def captured (b : Nat) (s : State) : State := (List.range 6).foldl (fun t w => t.setReg .AUD_CS_CAP w (BitVec.ofNat 32 (b / 2 ^ (32 * w)))) s

theorem reg_captured {w : Nat} (hw : w < 6) (b : Nat) (s : State) : (captured b s).reg .AUD_CS_CAP w = BitVec.ofNat 32 (b / 2 ^ (32 * w)) := by
  have apart {i j : Nat} (u : State) (v : Word) (h : i ≠ j) : (u.setReg .AUD_CS_CAP j v).reg .AUD_CS_CAP i = u.reg .AUD_CS_CAP i :=
    reg_setReg_ne _ _ fun _ => h
  simp only [captured, List.range_succ, List.range_zero, List.nil_append, List.foldl_append, List.foldl_cons, List.foldl_nil]
  obtain rfl | rfl | rfl | rfl | rfl | rfl : w = 0 ∨ w = 1 ∨ w = 2 ∨ w = 3 ∨ w = 4 ∨ w = 5 := by omega
  all_goals simp (disch := decide) only [reg_setReg_same, apart]

theorem captured_frame (b : Nat) (s : State) : regsBut [.AUD_CS_CAP] s (captured b s) ∧ (captured b s).flt = s.flt :=
  ⟨regsBut_foldl (fun _ _ => (regsBut_setReg (by decide) _ _).2 regsBut_refl) _ s, foldl_keeps State.flt (fun t w =>
    (rfl : (t.setReg .AUD_CS_CAP w (BitVec.ofNat 32 (b / 2 ^ (32 * w)))).flt = t.flt)) _ s⟩

theorem writeCsCap_captures (h : (s.inSlot (s.csSlot (F.AUD_CS_CAP_SEL_CH.of v))).block = some b) : writeCsCap v s =
    (captured b (plainWrite .AUD_CS_CAP_SEL 0 v s)).setFlds 0 [(F.AUD_CS_CAP_SEL_VALID, 1),
      (F.AUD_CS_CAP_SEL_CRCC_OK, b2n (b % 2 == 1 && crccOk b))] := by
  have written : plainWrite .AUD_CS_CAP_SEL 0 v s = s.setReg .AUD_CS_CAP_SEL 0 (RegName.AUD_CS_CAP_SEL.written (s.reg .AUD_CS_CAP_SEL 0) v) :=
    plainWrite_of_plain rfl _ _ _
  have block : ((plainWrite .AUD_CS_CAP_SEL 0 v s).inSlot ((plainWrite .AUD_CS_CAP_SEL 0 v s).csSlot (F.AUD_CS_CAP_SEL_CH.of v))).block
      = some b := by
    rw [written]
    exact h
  simp only [writeCsCap, block]
  rfl

theorem setFlds_flt (i : Nat) (l : List (Fld × Nat)) (s : State) : (s.setFlds i l).flt = s.flt := by
  induction l generalizing s with
  | nil => rfl
  | cons e l ih => exact ih (s.setFld e.1 i e.2)

/-- A block that stands is captured with its own check, its six words are shown, and nothing else changes (R283). -/
theorem writeCsCap_facts (h : (s.inSlot (s.csSlot (F.AUD_CS_CAP_SEL_CH.of v))).block = some b) :
    (writeCsCap v s).flag F.AUD_CS_CAP_SEL_VALID 0 = true
      ∧ (writeCsCap v s).flag F.AUD_CS_CAP_SEL_CRCC_OK 0 = (b % 2 == 1 && crccOk b)
      ∧ (∀ w, w < 6 → (writeCsCap v s).reg .AUD_CS_CAP w = BitVec.ofNat 32 (b / 2 ^ (32 * w)))
      ∧ regsBut [.AUD_CS_CAP_SEL, .AUD_CS_CAP] s (writeCsCap v s) ∧ (writeCsCap v s).flt = s.flt := by
  rw [writeCsCap_captures h]
  generalize hu : captured b (plainWrite .AUD_CS_CAP_SEL 0 v s) = u
  have frame : regsBut [.AUD_CS_CAP_SEL, .AUD_CS_CAP] s u := by
    rw [← hu]
    exact regsBut_trans ((regsBut_plainWrite rfl (by decide) _ v).2 regsBut_refl) (regsBut_mono (by decide) (captured_frame b _).1)
  have flt : u.flt = s.flt := by
    rw [← hu, (captured_frame b _).2, plainWrite_flt]
  have words (w : Nat) (hw : w < 6) : u.reg .AUD_CS_CAP w = BitVec.ofNat 32 (b / 2 ^ (32 * w)) := by
    rw [← hu, reg_captured hw]
  refine ⟨?_, ?_, fun w hw => ?_, ?_, ?_⟩
  · simp (disch := decide) only [State.setFlds, State.flag, fld_setFld_apart, fld_setFld_same]
    rfl
  · simp (disch := decide) only [State.setFlds, State.flag, fld_setFld_same]
    exact b2n_bit _
  · rw [reg_setFlds_apart _ _ _ (by simp), words w hw]
  · exact (regsBut_setFlds _ _ (by simp)).2 frame
  · rw [setFlds_flt, flt]

/-- The tables and captured blocks read their reset values once they are cleared, and every other register is as before (R291). -/
theorem reg_clearTables (r : RegName) (i : Nat) (s : State) : (clearTables s).reg r i =
    if r = .AUD_CS_VAL ∨ r = .AUD_CS_MASK ∨ r = .AUD_CS_CAP then r.resetWord i else s.reg r i := by
  have code (q : RegName) : ((regKey r i % 1024 == q.code) = true) ↔ r = q := by
    have hr := r.code_lt
    rw [regKey, Nat.add_comm, Nat.add_mul_mod_self_right, Nat.mod_eq_of_lt hr, beq_iff_eq]
    exact ⟨RegName.code_inj, fun h => h ▸ rfl⟩
  have kept := AMap.find?_filter_key s.regs (fun k => !((k % 1024 == RegName.AUD_CS_VAL.code) || (k % 1024 == RegName.AUD_CS_MASK.code)
    || (k % 1024 == RegName.AUD_CS_CAP.code))) (regKey r i)
  have read : (clearTables s).reg r i = ((clearTables s).regs.find? (regKey r i)).getD (r.resetWord i) := rfl
  rw [read, clearTables, kept]
  simp only [Bool.not_eq_true', ← Bool.not_eq_true, Bool.or_eq_true, code]
  by_cases h : r = .AUD_CS_VAL ∨ r = .AUD_CS_MASK ∨ r = .AUD_CS_CAP
  · rw [if_pos h, if_neg (by tauto)]
    rfl
  · rw [if_neg h, if_pos (by tauto)]
    rfl

end

/-! ### Serial ports (R286 to R289) -/

section
variable {p ch : Nat} {v w : Word} {s : State}

theorem writeSpCfg_refused (h : spCfgBad w = true) : writeSpCfg p w s = s.reject .AUD := if_pos (by simp [h])

/-- A port whose receiver may feed its slots is enabled (R289). -/
theorem writeSpCfg_enables (hoff : s.flag F.AUD_SP_CFG_EN p = false) (hbad : spCfgBad w = false) (hon : F.AUD_SP_CFG_EN.of w = 1)
    (hrx : F.AUD_SP_CFG_RX_EN.of w = 1) (hfeed : s.mayFeed (s.portFeed p w) = true) :
    ∃ x l, writeSpCfg p w s = if F.AUD_SP_CFG_CLK.of w = 0
      then (touchSlots l (feed (s.portFeed p w) ((plainWrite .AUD_SP_CFG p w s).setPort p x))).setFlag F.AUD_SP_STAT_RX_LOCK p true
      else touchSlots l (feed (s.portFeed p w) ((plainWrite .AUD_SP_CFG p w s).setPort p x)) := by
  simp only [writeSpCfg, hoff, hbad, hon, hrx, hfeed]
  simp only [Bool.false_and, Bool.or_false, Bool.not_true, Bool.and_false, Bool.false_eq_true, if_false, if_true, true_and]
  exact ⟨_, _, rfl⟩

theorem writeSpCfg_disables (hwas : s.flag F.AUD_SP_CFG_EN p = true) (hbad : spCfgBad w = false) (hoff : F.AUD_SP_CFG_EN.of w = 0)
    (hsame : (w ^^^ s.reg .AUD_SP_CFG p) &&& 0x0003FDFE#32 = 0) :
    ∃ x, x.releasing = true ∧ writeSpCfg p w s =
      if ((plainWrite .AUD_SP_CFG p w s).setPort p x).tdEn (((plainWrite .AUD_SP_CFG p w s).setPort p x).fld F.AUD_SP_CFG_TD p) = true
      then (plainWrite .AUD_SP_CFG p w s).setPort p x else releasePort p ((plainWrite .AUD_SP_CFG p w s).setPort p x) := by
  simp only [writeSpCfg, hwas, hbad, hoff, hsame]
  simp only [bne_self_eq_false, Bool.and_false, Bool.not_true, Bool.false_and, Bool.or_false, Bool.false_eq_true, if_false, if_true,
    Nat.zero_ne_one, decide_false]
  exact ⟨_, rfl, rfl⟩

/-- A released port feeds nothing, and its receiver has no lock (R289). -/
theorem releasePort_facts (p : Nat) (s : State) : ((releasePort p s).port p).releasing = false
    ∧ (releasePort p s).flag F.AUD_SP_STAT_RX_LOCK p = false ∧ (releasePort p s).fld F.AUD_SP_STAT_RATE_DET p = 7
    ∧ (∀ f, f ∈ (releasePort p s).aud.feeds → ¬(f.kind = 4 ∧ f.unit = p)) ∧ regsButAt [.AUD_SP_STAT] p s (releasePort p s)
    ∧ (releasePort p s).flt = s.flt := by
  have released : (unfeed 4 p (s.setPort p { SerialPort.reset with maskAt := (s.port p).maskAt })).port p
      = { SerialPort.reset with maskAt := (s.port p).maskAt } := AMap.get_set_same ..
  refine ⟨congrArg SerialPort.releasing released, ?_, ?_, fun f hf => ?_, ?_, rfl⟩
  · simp (disch := decide) only [releasePort, State.setFlds, State.flag, fld_setFld_apart, fld_setFld_same]
    rfl
  · simp (disch := decide) only [releasePort, State.setFlds, fld_setFld_same]
    rfl
  · have kept := (List.mem_filter.1 hf).2
    simp only [Bool.not_eq_true', Bool.and_eq_false_iff, beq_eq_false_iff_ne] at kept
    tauto
  · exact (regsButAt_setFlds _ (by simp)).2 (regsButAt_of_regs rfl)

/-- A good AES3 subframe goes to its slot, as its channel's mask has it (R282, R288). -/
theorem aes3Rx_delivers {f : Aes3Frame} (hrx : s.rxWorks p = true) (hmode : s.fld F.AUD_SP_CFG_MODE p = 2)
    (hlock : s.flag F.AUD_SP_STAT_RX_LOCK p = true) (hparity : f.parityError = false) (hcode : f.codeError = false)
    (hcount : (s.inSlot (s.csSlot (s.rxSlot p ch))).count ≠ some 191) : aes3Rx p ch f s =
      rxDeliver p ch f.sample (fun b => !(b % 2 == 1) || crccOk b) s := by
  have count : ((s.inSlot (s.csSlot (s.rxSlot p ch))).count == some 191) = false := beq_false_of_ne hcount
  simp only [aes3Rx, hrx, hmode, hlock, hparity, hcode, count, Bool.false_and, Bool.false_eq_true, if_false]
  rfl

theorem aes3Rx_unlocked (f : Aes3Frame) (hlock : s.flag F.AUD_SP_STAT_RX_LOCK p = false) : aes3Rx p ch f s = s :=
  if_neg (by simp [hlock])

theorem rxDeliver_facts {a : AudSample} {keep : Nat → Bool} (hmask : bit (s.effFld F.AUD_SP_MASK_RX p) ch = true)
    (hnone : s.agrpOf (s.rxSlot p ch) = none) (hroom : (s.inSlot (s.rxSlot p ch)).buf.length < 128) :
    ((rxDeliver p ch a keep s).inSlot (s.rxSlot p ch)).buf = (s.inSlot (s.rxSlot p ch)).buf ++ [a]
      ∧ (rxDeliver p ch a keep s).regs = s.regs ∧ (rxDeliver p ch a keep s).flt = s.flt := by
  have begun (x : SerialPort) : (takeCs (s.rxSlot p ch) a keep (s.setPort p x)).agrpOf (s.rxSlot p ch) = none :=
    (agrpOf_of_run (s := s) rfl rfl _).trans hnone
  have buf (x : SerialPort) := (buf_takeCs (s.rxSlot p ch) (s.rxSlot p ch) a keep (s.setPort p x)).1
  simp only [rxDeliver, hmask, if_true]
  obtain ⟨joined, -, -, regs, flt⟩ := pushSample_facts (a := a) (begun { s.port p with
    prev := (s.port p).prev.set ch a, half := (s.port p).half.set ch (!(s.port p).half.get false ch) }) (by rw [buf]; exact hroom)
  exact ⟨joined.trans (by rw [buf]; rfl), regs, flt⟩

theorem rxLocks_locks {rate : Nat} (hrx : s.rxWorks p = true) (hclk : s.fld F.AUD_SP_CFG_CLK p ≠ 0) :
    rxLocks p rate s = s.setFlds p [(F.AUD_SP_STAT_RX_LOCK, 1), (F.AUD_SP_STAT_RATE_DET, rate)] := if_pos (by simp [hrx, hclk])

theorem spLoses_preamble (hrx : s.rxWorks p = true) (hclk : s.fld F.AUD_SP_CFG_CLK p ≠ 0) (hmode : s.fld F.AUD_SP_CFG_MODE p = 2) :
    spLoses p .preamble s = (s.setFlds p [(F.AUD_SP_STAT_RX_LOCK, 0), (F.AUD_SP_STAT_RATE_DET, 7), (F.AUD_SP_STAT_LOST_S, 1)]).raise
      Src.AUD_SP_LOST := by
  have clk : (s.fld F.AUD_SP_CFG_CLK p != 0) = true := bne_iff_ne.2 hclk
  simp only [spLoses, hrx, clk, hmode]
  rfl

end

/-- Settles O45: each command through the rule of its case. -/
theorem audioFeedersConvertersAndPorts : Obligations.AudioFeedersConvertersAndPorts := by
  unfold Obligations.AudioFeedersConvertersAndPorts
  refine ⟨fun i a f s hf hp hk hnone hroom => ?_, fun i a s hf => ?_, fun a v s hoff hlo hhi dlo dhi hmeets => ?_, fun a v s hbad => ?_,
    fun c v s hoff hgroup hmembers hserved => ?_, fun c v s hgroup => ?_, fun c ratio s hon hbare hrange => ?_, fun c ratio s hlocked => ?_,
    fun u s hup => ?_, fun u s h0 h2 => ?_, fun v b s h => ?_, fun p v s hoff hbad hrx hfeed => ?_, fun p v s hbad => ?_,
    fun p v s hwas hbad hsame => ?_, fun p s hrel => ?_, fun p ch f s hrx hmode hlock hpar hcode hmask hnone hroom hcount => ?_,
    fun p ch f s hlock => ?_, fun p rate s hrx hclk => ?_, fun p s hrx hclk hmode => ?_, fun s hinit => ?_, fun s hinit => ?_⟩
  · have cs (c : Bool) : (if c then takeCs i a (fun _ => true) s else s).agrpOf i = s.agrpOf i
        ∧ ((if c then takeCs i a (fun _ => true) s else s).inSlot i).buf = (s.inSlot i).buf
        ∧ ((if c then takeCs i a (fun _ => true) s else s).inSlot i).cur = (s.inSlot i).cur
        ∧ (if c then takeCs i a (fun _ => true) s else s).regs = s.regs ∧ (if c then takeCs i a (fun _ => true) s else s).flt = s.flt := by
      cases c
      · exact ⟨rfl, rfl, rfl, rfl, rfl⟩
      · exact ⟨agrpOf_of_run rfl rfl _, (buf_takeCs ..).1, (buf_takeCs ..).2, rfl, rfl⟩
    obtain ⟨group, buf, cur, regs, flt⟩ := cs f.cs
    obtain ⟨buf', rx', cur', regs', flt'⟩ := pushSample_facts (a := a) (group.trans hnone) (by rwa [buf])
    have still : Machine.still s (sampleArrives i a s) := ⟨by simp, by simp⟩
    rw [sampleArrives_delivers hf hp hk] at still
    exact ⟨_, congrArg Host.Outcome.next (sampleArrives_delivers hf hp hk), buf'.trans (by rw [buf]), rx', cur'.trans cur,
      regs'.trans regs, flt'.trans flt, still⟩
  · exact congrArg Host.Outcome.next (by simp only [sampleArrives, hf])
  · have top {f : Fld} (h : (List.range f.len).all (fun k => !(0x80000000#32).getLsbD (f.lo + k)) = true) :
        f.of (v ||| 0x80000000#32) = f.of v := Fld.of_or_apart h v
    have on : F.AUD_AGRP_CFG_EN.of (v ||| 0x80000000#32) = 1 := Fld.of_or_bit rfl (by decide) v
    have slots : agrpSlots (v ||| 0x80000000#32) = agrpSlots v := by
      simp (disch := decide) only [agrpSlots, top]
    obtain ⟨l, h⟩ := writeAgrp_enables (w := v ||| 0x80000000#32) hoff on (by rw [top (by decide)]; exact ⟨hlo, hhi⟩)
      (by rw [top (by decide)]; exact ⟨dlo, dhi⟩) (by rw [slots]; exact hmeets)
    have regs : (writeAgrp a (v ||| 0x80000000#32) s).regs = (plainWrite .AUD_AGRP_CFG a (v ||| 0x80000000#32) s).regs := by
      rw [h]
      exact touchSlots_keeps State.regs (fun _ _ _ => rfl) _ _
    refine ⟨_, rfl, ?_, ?_, ?_, ?_, ?_, ?_, by simp, by simp⟩
    · rw [flag_of_regs regs, flag_plainWrite (f := F.AUD_AGRP_CFG_EN) rfl (by decide), on]
      rfl
    · rw [fld_of_regs regs, fld_plainWrite (f := F.AUD_AGRP_CFG_COUNT) rfl (by decide), top (by decide)]
    · rw [fld_of_regs regs, fld_plainWrite (f := F.AUD_AGRP_CFG_DELAY) rfl (by decide), top (by decide)]
    · have run : (writeAgrp a (v ||| 0x80000000#32) s).alignRun a = .reset := by
        rw [h]
        refine (touchSlots_keeps (fun t => t.alignRun a) (fun _ _ _ => rfl) _ _).trans ?_
        exact AMap.get_set_same ..
      exact congrArg AlignRun.running run
    · exact regsButAt_trans ((regsButAt_plainWrite rfl (by decide) _ _).2 regsButAt_refl) (regsButAt_of_regs regs)
    · rw [h, touchSlots_keeps State.flt (fun _ _ _ => rfl)]
      exact plainWrite_flt ..
  · have top {f : Fld} (h : (List.range f.len).all (fun k => !(0x80000000#32).getLsbD (f.lo + k)) = true) :
        f.of (v ||| 0x80000000#32) = f.of v := Fld.of_or_apart h v
    exact ⟨_, congrArg Host.Outcome.next (writeAgrp_refused (Fld.of_or_bit rfl (by decide) v) (by rwa [top (by decide), top (by decide)])),
      reject_regs .., isSet_reject .., by simp⟩
  · have or_one {f : Fld} (h : 1 ≤ f.lo) : f.of (v ||| 1#32) = f.of v := Fld.of_or_one h v
    have on : F.AUD_ASRC_CFG_EN.of (v ||| 1#32) = 1 := Fld.of_or_bit rfl (by decide) v
    refine ⟨_, congrArg Host.Outcome.next (writeAsrc_enables hoff on (by rwa [or_one (by decide)]) (by rwa [or_one (by decide)])
      (by rwa [or_one (by decide)])), ?_, ?_, flag_setFlag_same _ (by decide) rfl _ _, ?_, plainWrite_flt .., by simp, by simp⟩
    · rw [flag_setFlag_apart _ (by decide) (by decide), flag_plainWrite (f := F.AUD_ASRC_CFG_EN) rfl (by decide), on]
      rfl
    · rw [fld_setFlag_apart _ (by decide) (by decide), fld_plainWrite (f := F.AUD_ASRC_CFG_AGRP) rfl (by decide), or_one (by decide)]
    · rw [regsButAt_setFlag (by decide)]
      exact (regsButAt_plainWrite rfl (by decide) _ _).2 regsButAt_refl
  · exact ⟨_, congrArg Host.Outcome.next (writeAsrc_refused (Fld.of_or_bit rfl (by decide) v) (by rwa [Fld.of_or_one (by decide)])),
      reject_regs .., isSet_reject .., by simp⟩
  · refine ⟨_, congrArg Host.Outcome.next (asrcLocks_locks hon hbare hrange), flag_setFlag_same _ (by decide) rfl _ _, ?_, ?_, rfl,
      by simp, by simp⟩
    · rw [reg_setFlag_apart _ _ _ _ (by decide), reg_setReg_same, BitVec.ofNat_toNat, BitVec.setWidth_eq]
    · rw [regsButAt_setFlag (by decide), regsButAt_setReg_iff (by decide)]
      exact regsButAt_refl
  · refine ⟨_, congrArg Host.Outcome.next (asrcUnlocks_silent ratio.toNat hlocked), ?_, ?_, isSet_raise_same _ (by decide), ?_, by simp⟩
    · simp (disch := decide) only [fld_raise, State.setFlds, State.flag, fld_setFld_apart, fld_setFld_same]
      rfl
    · simp (disch := decide) only [fld_raise, State.setFlds, State.flag, fld_setFld_same]
      rfl
    · rw [regsButAt_raise]
      exact (regsButAt_setFlds _ (by simp)).2 regsButAt_refl
  · obtain ⟨parked, set, unlocked⟩ := asrcErrs_parks u.isLt hup
    exact ⟨_, rfl, parked, set, unlocked, by simp, by simp⟩
  · exact congrArg Host.Outcome.next (asrcErrs_idle h0 h2)
  · obtain ⟨valid, ok, words, frame, flt⟩ := writeCsCap_facts h
    exact ⟨_, rfl, valid, ok, words, frame, flt, by simp, by simp⟩
  · have or_one {f : Fld} (h : 1 ≤ f.lo) : f.of (v ||| 1#32) = f.of v := Fld.of_or_one h v
    have on : F.AUD_SP_CFG_EN.of (v ||| 1#32) = 1 := Fld.of_or_bit rfl (by decide) v
    have bad : spCfgBad (v ||| 1#32) = spCfgBad v := by simp (disch := decide) only [spCfgBad, or_one]
    have feeds : s.portFeed p (v ||| 1#32) = s.portFeed p v := by simp (disch := decide) only [State.portFeed, or_one]
    obtain ⟨x, l, h⟩ := writeSpCfg_enables (p := p) (w := v ||| 1#32) hoff (bad.trans hbad) on ((or_one (by decide)).trans hrx) (by rwa [feeds])
    generalize hw : touchSlots l (feed (s.portFeed p (v ||| 1#32)) ((plainWrite .AUD_SP_CFG p (v ||| 1#32) s).setPort p x)) = w at h
    have regs : w.regs = (plainWrite .AUD_SP_CFG p (v ||| 1#32) s).regs := by
      rw [← hw]
      exact touchSlots_keeps State.regs (fun _ _ _ => rfl) _ _
    have flt : w.flt = s.flt := by
      rw [← hw]
      exact (touchSlots_keeps State.flt (fun _ _ _ => rfl) _ _).trans (plainWrite_flt ..)
    have head : w.aud.feeds.head? = some (s.portFeed p v) := by
      rw [← hw, touchSlots_keeps (fun t => t.aud.feeds) (fun _ _ _ => rfl), feeds]
      rfl
    have en : w.flag F.AUD_SP_CFG_EN p = true := by
      rw [flag_of_regs regs, flag_plainWrite (f := F.AUD_SP_CFG_EN) rfl (by decide), on]
      rfl
    have frame : regsButAt [.AUD_SP_CFG, .AUD_SP_STAT] p s w :=
      regsButAt_trans ((regsButAt_plainWrite rfl (by decide) _ _).2 regsButAt_refl) (regsButAt_of_regs regs)
    have still : Machine.still s (writeSpCfg p (v ||| 1#32) s) := ⟨by simp, by simp⟩
    rw [h, or_one (by decide)] at still
    rw [or_one (by decide)] at h
    refine ⟨_, congrArg Host.Outcome.next h, ?_, ?_, fun hclk => ?_, ?_, ?_, still⟩
    · split
      · rw [flag_setFlag_apart _ (by decide) (by decide), en]
      · exact en
    · split
      · exact head
      · exact head
    · rw [if_pos hclk]
      exact flag_setFlag_same _ (by decide) rfl _ _
    · split
      · rw [regsButAt_setFlag (by decide)]
        exact frame
      · exact frame
    · split
      · exact flt
      · exact flt
  · have bad : spCfgBad (v ||| 1#32) = true := by
      simp (disch := decide) only [spCfgBad, Fld.of_or_one]
      exact hbad
    exact ⟨_, congrArg Host.Outcome.next (writeSpCfg_refused bad), reject_regs .., isSet_reject .., by simp⟩
  · have unset {f : Fld} (h : 1 ≤ f.lo) (hi : f.lo + f.len ≤ 32) : f.of (v &&& ~~~ 1#32) = f.of v := Fld.of_and_not_one h hi v
    have off : F.AUD_SP_CFG_EN.of (v &&& ~~~ 1#32) = 0 := Fld.of_and_not_one_bit rfl rfl v
    have bad : spCfgBad (v &&& ~~~ 1#32) = spCfgBad v := by simp (disch := decide) only [spCfgBad, unset]
    obtain ⟨x, rel, h⟩ := writeSpCfg_disables hwas (bad.trans hbad) off ((and_not_one_xor_and (by decide) v _).trans hsame)
    generalize hw : (plainWrite .AUD_SP_CFG p (v &&& ~~~ 1#32) s).setPort p x = w at h
    have regs : w.regs = (plainWrite .AUD_SP_CFG p (v &&& ~~~ 1#32) s).regs := by
      rw [← hw]
      rfl
    have td : w.tdEn (w.fld F.AUD_SP_CFG_TD p) = s.tdEn (s.fld F.AUD_SP_CFG_TD p) := by
      have same : w.fld F.AUD_SP_CFG_TD p = s.fld F.AUD_SP_CFG_TD p := by
        rw [fld_of_regs regs, fld_plainWrite (f := F.AUD_SP_CFG_TD) rfl (by decide), unset (by decide) (by decide),
          Fld.of_eq_of_masked (f := F.AUD_SP_CFG_TD) hsame (by decide)]
        rfl
      rw [same, State.tdEn, flag_of_regs regs, flag_plainWrite_apart rfl (by decide), State.tdEn]
    have en : w.flag F.AUD_SP_CFG_EN p = false := by
      rw [flag_of_regs regs, flag_plainWrite (f := F.AUD_SP_CFG_EN) rfl (by decide), off]
      rfl
    have feeds : w.aud.feeds = s.aud.feeds := by
      rw [← hw]
      show (plainWrite .AUD_SP_CFG p (v &&& ~~~ 1#32) s).aud.feeds = s.aud.feeds
      rw [plainWrite_aud]
    have releasing : (w.port p).releasing = true := by
      rw [← hw, State.port, State.setPort, AMap.get_set_same, rel]
    have flt : w.flt = s.flt := by
      rw [← hw]
      exact plainWrite_flt ..
    have frame : regsButAt [.AUD_SP_CFG, .AUD_SP_STAT] p s w :=
      regsButAt_trans ((regsButAt_plainWrite rfl (by decide) _ _).2 regsButAt_refl) (regsButAt_of_regs regs)
    obtain ⟨-, lock, -, gone, released, flt'⟩ := releasePort_facts p w
    have still : Machine.still s (writeSpCfg p (v &&& ~~~ 1#32) s) := ⟨by simp, by simp⟩
    rw [h, td] at still
    rw [td] at h
    refine ⟨_, congrArg Host.Outcome.next h, ?_, fun htd => ?_, fun htd => ?_, ?_, ?_, still⟩
    · split
      · exact en
      · rw [released.flag_other (by decide), en]
    · rw [if_pos htd]
      exact ⟨releasing, feeds⟩
    · rw [if_neg (by simp [htd])]
      exact ⟨lock, gone⟩
    · split
      · exact frame
      · exact regsButAt_trans frame (regsButAt_mono (by decide) released)
    · split
      · exact flt
      · exact flt'.trans flt
  · obtain ⟨rel, lock, rate, feeds, regs, flt⟩ := releasePort_facts p s
    exact ⟨_, congrArg Host.Outcome.next (if_pos hrel), rel, lock, rate, feeds, regs, flt, by simp, by simp⟩
  · obtain ⟨buf, regs, flt⟩ := rxDeliver_facts (a := f.sample) (keep := fun b => !(b % 2 == 1) || crccOk b) hmask hnone hroom
    exact ⟨_, congrArg Host.Outcome.next (aes3Rx_delivers hrx hmode hlock hpar hcode hcount), buf, regs, flt, by simp, by simp⟩
  · exact congrArg Host.Outcome.next (aes3Rx_unlocked f hlock)
  · refine ⟨_, congrArg Host.Outcome.next (rxLocks_locks hrx hclk), ?_, ?_, (regsButAt_setFlds _ (by simp)).2 regsButAt_refl, rfl, by simp,
      by simp⟩
    · simp (disch := decide) only [State.setFlds, State.flag, fld_setFld_apart, fld_setFld_same]
      rfl
    · simp (disch := decide) only [State.setFlds, fld_setFld_same]
      exact Nat.mod_eq_of_lt rate.isLt
  · refine ⟨_, congrArg Host.Outcome.next (spLoses_preamble hrx hclk hmode), ?_, ?_, isSet_raise_same _ (by decide), ?_, by simp⟩
    · simp (disch := decide) only [fld_raise, State.setFlds, State.flag, fld_setFld_apart, fld_setFld_same]
      rfl
    · simp (disch := decide) only [fld_raise, State.setFlds, State.flag, fld_setFld_same]
      rfl
    · rw [regsButAt_raise]
      exact (regsButAt_setFlds _ (by simp)).2 regsButAt_refl
  · have still : Machine.still s ((clearTables s).setFlag F.AUD_STAT_INIT_DONE 0 true) := ⟨rfl, rfl⟩
    refine ⟨_, congrArg Host.Outcome.next (if_neg (by simp [hinit])), flag_setFlag_same _ (by decide) rfl _ _, fun i => ?_, fun r i hr => ?_,
      rfl, still⟩
    · simp (disch := decide) only [reg_setFlag_apart, reg_clearTables]
      exact ⟨rfl, rfl, rfl⟩
    · simp only [List.mem_cons, List.not_mem_nil, or_false, not_or] at hr
      obtain ⟨hstat, hval, hmask, hcap⟩ := hr
      rw [reg_setFlag_apart _ _ _ _ hstat, reg_clearTables, if_neg (by simp [hval, hmask, hcap])]
  · exact congrArg Host.Outcome.next (if_pos hinit)

end Sys2Proof.Machine
end

section
/-!
PROOFS. Identity memories and calibration (chapter 16).
-/

namespace Sys2Proof.Machine

/-! ### Read commands (R376, R377) -/

section
variable {m : Nat} {v : Word} {data : List Byte} {j : IdmJob} {s : State}

/-- The bit that GO forces plays no part in what R376 asks of a command. -/
theorem badGo_go (s : State) (m : Nat) (v : Word) : s.badGo m (v ||| 0x80000000#32) = s.badGo m v := by
  simp (disch := decide) only [State.badGo, Fld.of_or_apart]

theorem writeIdmCmd_starts (h : s.badGo m (v ||| 0x80000000#32) = false) : writeIdmCmd m (v ||| 0x80000000#32) s =
    { (plainWrite .IDM_CMD m (v ||| 0x80000000#32) s).setFld F.IDM_STAT_BUSY m 1 with
      idm := (writeIdmCmd m (v ||| 0x80000000#32) s).idm } := by
  have go : (v ||| 0x80000000#32).getLsbD 31 = true := by simp
  simp only [writeIdmCmd, go, h]
  rfl

theorem writeIdmCmd_job (h : s.badGo m (v ||| 0x80000000#32) = false) : (writeIdmCmd m (v ||| 0x80000000#32) s).idm.job.find? m =
    some ⟨F.IDM_CMD_SITE.of (v ||| 0x80000000#32), F.IDM_CMD_DEV.of (v ||| 0x80000000#32), s.fld F.IDM_ARG_OFFSET m, s.fld F.IDM_ARG_LEN m⟩ := by
  have go : (v ||| 0x80000000#32).getLsbD 31 = true := by simp
  simp only [writeIdmCmd, go, h]
  exact AMap.find?_set_same ..

theorem writeIdmCmd_refused (h : s.badGo m (v ||| 0x80000000#32) = true) : writeIdmCmd m (v ||| 0x80000000#32) s = s.reject .IDM := by
  have go : (v ||| 0x80000000#32).getLsbD 31 = true := by simp
  simp only [writeIdmCmd, go, h]
  rfl

/-- What the end of a command leaves (R376). -/
theorem endIdm_facts (m result : Nat) (hr : result < 4) (s : State) :
    (endIdm m result s).flag F.IDM_STAT_BUSY m = false ∧ (endIdm m result s).fld F.IDM_STAT_RESULT m = result
      ∧ (endIdm m result s).idm.job.find? m = none ∧ regsBut [.IDM_STAT] s (endIdm m result s) ∧ (endIdm m result s).flt = s.flt := by
  refine ⟨?_, ?_, AMap.find?_erase_same .., ?_, setFlds_flt ..⟩
  · simp (disch := decide) only [endIdm, State.setFlds, State.flag, fld_setFld_apart, fld_setFld_same]
    rfl
  · simp (disch := decide) only [endIdm, State.setFlds, fld_setFld_same]
    exact Nat.mod_eq_of_lt (Nat.lt_of_lt_of_le hr (by decide))
  · rw [endIdm, regsBut_setFlds _ _ (by simp)]
    exact regsBut_of_regs rfl

/-! ### The buffers -/

/-- A byte of a master's buffer. -/
def bufByte (m b : Nat) (s : State) : Nat := bitsOf (s.reg .IDM_BUF (32 * m + b / 4)).toNat (8 * (b % 4)) 8

theorem bufByte_setBufByte_same (m b : Nat) (x : Byte) (s : State) : bufByte m b (setBufByte m b x s) = x.toNat := by
  have fits : putBits (s.reg .IDM_BUF (32 * m + b / 4)).toNat (8 * (b % 4)) 8 x.toNat < 2 ^ 32 :=
    putBits_lt _ _ _ _ _ (BitVec.isLt _) (by omega)
  rw [bufByte, setBufByte, reg_setReg_same, BitVec.toNat_ofNat, Nat.mod_eq_of_lt fits, bitsOf_putBits_same, Nat.mod_eq_of_lt x.isLt]

theorem bufByte_setBufByte_ne {b c : Nat} (h : b ≠ c) (m : Nat) (x : Byte) (s : State) : bufByte m b (setBufByte m c x s) = bufByte m b s := by
  have fits : putBits (s.reg .IDM_BUF (32 * m + c / 4)).toNat (8 * (c % 4)) 8 x.toNat < 2 ^ 32 :=
    putBits_lt _ _ _ _ _ (BitVec.isLt _) (by omega)
  rw [bufByte, bufByte, setBufByte]
  by_cases hw : b / 4 = c / 4
  · rw [hw, reg_setReg_same, BitVec.toNat_ofNat, Nat.mod_eq_of_lt fits, bitsOf_putBits_ne _ _ _ _ _ _ (by omega)]
  · rw [reg_setReg_ne _ _ fun _ => by omega]

theorem bufByte_fillBuf_before {b c : Nat} (h : b < c) (m : Nat) (xs : List Byte) (s : State) :
    bufByte m b (fillBuf m c xs s) = bufByte m b s := by
  induction xs generalizing c s with
  | nil => rfl
  | cons x xs ih => rw [fillBuf, ih (by omega), bufByte_setBufByte_ne (by omega)]

theorem bufByte_fillBuf {c k : Nat} (m : Nat) (xs : List Byte) (h : k < xs.length) (s : State) :
    bufByte m (c + k) (fillBuf m c xs s) = (xs.getD k 0).toNat := by
  induction xs generalizing c k s with
  | nil => simp at h
  | cons x xs ih =>
    cases k with
    | zero => rw [fillBuf, Nat.add_zero, bufByte_fillBuf_before (by omega), bufByte_setBufByte_same, List.getD_cons_zero]
    | succ k => rw [fillBuf, show c + (k + 1) = c + 1 + k by omega, ih (by simpa using h), List.getD_cons_succ]

theorem fillBuf_frame (m b : Nat) (xs : List Byte) (s : State) : regsBut [.IDM_BUF] s (fillBuf m b xs s) ∧ (fillBuf m b xs s).flt = s.flt := by
  induction xs generalizing b s with
  | nil => exact ⟨regsBut_refl, rfl⟩
  | cons x xs ih =>
    obtain ⟨regs, flt⟩ := ih (b + 1) (setBufByte m b x s)
    exact ⟨regsBut_trans ((regsBut_setReg (by decide) _ _).2 regsBut_refl) regs, flt⟩

/-! ### The ends of a command -/

theorem idmDone_idle (h : s.idm.job.find? m = none) (nack : Bool) (data : List Byte) : idmDone m nack data s = s := by
  rw [idmDone, h]

theorem idmDone_nack (h : s.idm.job.find? m = some j) (data : List Byte) :
    idmDone m true data s = ((endIdm m 1 s).bump .IDM_NACK_CNT 0).raise Src.IDM_NACK := by
  rw [idmDone, h]
  rfl

theorem idmDone_data (h : s.idm.job.find? m = some j) (data : List Byte) :
    idmDone m false data s = endIdm m 0 (fillBuf m 0 (data.take j.len) s) := by
  rw [idmDone, h]
  rfl

theorem busStuck_command (h : s.idm.job.find? m = some j) :
    busStuck m true s = ((endIdm m 2 s).bump .IDM_STUCK_CNT 0).raise Src.IDM_BUS_STUCK := by
  simp [busStuck, h]

/-- A command that ends with a count and a source. -/
theorem endIdm_counted {r : RegName} (hr : r ≠ .IDM_STAT) (m result : Nat) (hres : result < 4) (x : Src) (s : State) :
    let t := ((endIdm m result s).bump r 0).raise x
    t.flag F.IDM_STAT_BUSY m = false ∧ t.fld F.IDM_STAT_RESULT m = result ∧ t.idm.job.find? m = none
      ∧ t.reg r 0 = BitVec.ofNat 32 (min (2 ^ 32 - 1) ((s.reg r 0).toNat + 1)) ∧ regsBut [.IDM_STAT, r] s t := by
  obtain ⟨busy, res, none, frame, -⟩ := endIdm_facts m result hres s
  refine ⟨?_, ?_, ?_, ?_, ?_⟩
  · rw [flag_raise, flag_bump_apart _ _ (Ne.symm hr), busy]
  · rw [fld_raise, State.bump, fld_bumpN_apart _ _ _ (Ne.symm hr), res]
  · rw [raise_idm, bump_idm, none]
  · rw [reg_raise, State.bump, reg_bumpN_same, frame r 0 (by simpa using hr)]
  · rw [regsBut_raise, regsBut_bump (by simp)]
    exact regsBut_mono (by simp) frame

end

/-! ### The presence scan (R378, R379) -/

section
variable {acks : List (Fin 128 × List Byte)} {k : Fin 128} {d : List Byte} {s t u : State}

/-- Site `k` is as before, registers but those of the sites' status and the failed records are too, and what was set stays set. -/
structure SiteKept (k : Nat) (s t : State) : Prop where
  regs : regsBut [.IDM_SITE_STAT, .IDM_REC_FAIL_CNT] s t
  site : t.reg .IDM_SITE_STAT k = s.reg .IDM_SITE_STAT k
  set : KeepsSet s t

theorem SiteKept.trans (h : SiteKept k s t) (g : SiteKept k t u) : SiteKept k s u :=
  ⟨regsBut_trans h.regs g.regs, g.site.trans h.site, h.set.trans g.set⟩

theorem siteKept_setFlds {i : Nat} (hi : i ≠ k) {l : List (Fld × Nat)} (h : ∀ e ∈ l, e.1.reg = .IDM_SITE_STAT) (s : State) :
    SiteKept k s (s.setFlds i l) :=
  ⟨(regsBut_setFlds i l fun e he => by simp [h e he]).2 regsBut_refl,
    (regsButAt_setFlds l (fun e he => by simp [h e he])).2 (regsButAt_refl (rs := [.IDM_SITE_STAT]) (n := i) (s := s)) _ _ fun _ => hi.symm,
    keepsSet_of_flt (setFlds_flt ..)⟩

theorem siteKept_raise (x : Src) (s : State) : SiteKept k s (s.raise x) :=
  ⟨(regsBut_raise x).2 regsBut_refl, reg_raise .., keepsSet_raise s x⟩

theorem siteKept_bump (s : State) : SiteKept k s (s.bump .IDM_REC_FAIL_CNT 0) :=
  ⟨(regsBut_bump (by decide) 0).2 regsBut_refl, reg_bump_apart _ _ _ (by decide), keepsSet_of_flt rfl⟩

theorem siteKept_refl (s : State) : SiteKept k s s := ⟨regsBut_refl, rfl, keepsSet_refl s⟩

theorem siteKept_checkModule {i : Nat} (hi : i ≠ k) (d : List Byte) (s : State) : SiteKept k s (checkModule i d s) := by
  have set := siteKept_setFlds hi (l := [(F.IDM_SITE_STAT_REC_OK, b2n (moduleRecord d == 0)), (F.IDM_SITE_STAT_REC_ERR, moduleRecord d)])
    (by simp) s
  rw [checkModule]
  split
  · exact set
  · exact (set.trans (siteKept_bump _)).trans (siteKept_raise _ _)

theorem siteKept_probeSite {i : Nat} (hi : i ≠ k) (acks : List (Fin 128 × List Byte)) (s : State) : SiteKept k s (probeSite acks s i) := by
  have changed (b : Nat) (t : State) : SiteKept k t ((t.setFlds i [(F.IDM_SITE_STAT_PRESENT, b), (F.IDM_SITE_STAT_CHANGE_S, 1)]).raise Src.IDM_MOD_CHANGE) :=
    (siteKept_setFlds hi (by simp) t).trans (siteKept_raise _ _)
  simp only [probeSite]
  split
  · split
    · exact siteKept_refl s
    · split
      · exact (siteKept_checkModule hi _ s).trans (changed 1 _)
      · exact changed 1 s
  · split
    · exact changed 0 s
    · exact siteKept_refl s

theorem siteKept_probes {l : List Nat} (h : k.val ∉ l) (acks : List (Fin 128 × List Byte)) (s : State) : SiteKept k s (l.foldl (probeSite acks) s) := by
  induction l generalizing s with
  | nil => exact siteKept_refl s
  | cons i l ih =>
    rw [List.mem_cons, not_or] at h
    exact (siteKept_probeSite (Ne.symm h.1) acks s).trans (ih h.2 _)

/-- What the probe of a site leaves at it. -/
structure Probed (acks : List (Fin 128 × List Byte)) (k : Fin 128) (s t : State) : Prop where
  present : t.flag F.IDM_SITE_STAT_PRESENT k = acks.any (fun a => a.1 == k)
  change : s.flag F.IDM_SITE_STAT_PRESENT k ≠ acks.any (fun a => a.1 == k) →
    t.flag F.IDM_SITE_STAT_CHANGE_S k = true ∧ t.isSet Src.IDM_MOD_CHANGE = true
  record : ∀ d, acks.find? (fun a => a.1 == k) = some (k, d) → s.flag F.IDM_SITE_STAT_PRESENT k = false →
    s.fld F.IDM_SITE_CFG_TYPE k = 4 → t.flag F.IDM_SITE_STAT_REC_OK k = decide (moduleRecord d = 0)
      ∧ t.fld F.IDM_SITE_STAT_REC_ERR k = moduleRecord d ∧ (moduleRecord d ≠ 0 → t.isSet Src.IDM_REC_BAD = true)

theorem moduleRecord_lt (d : List Byte) : moduleRecord d < 8 := by
  unfold moduleRecord
  simp only
  (repeat' split) <;> omega

/-- The check of a record shows its result. -/
theorem checkModule_facts (k : Nat) (d : List Byte) (s : State) :
    (checkModule k d s).flag F.IDM_SITE_STAT_REC_OK k = decide (moduleRecord d = 0)
      ∧ (checkModule k d s).fld F.IDM_SITE_STAT_REC_ERR k = moduleRecord d
      ∧ (moduleRecord d ≠ 0 → (checkModule k d s).isSet Src.IDM_REC_BAD = true) := by
  have ok (t : State) : (t.setFlds k [(F.IDM_SITE_STAT_REC_OK, b2n (moduleRecord d == 0)), (F.IDM_SITE_STAT_REC_ERR, moduleRecord d)]).flag
      F.IDM_SITE_STAT_REC_OK k = decide (moduleRecord d = 0) := by
    simp (disch := decide) only [State.setFlds, State.flag, fld_setFld_apart, fld_setFld_same]
    exact (b2n_bit _).trans rfl
  have err (t : State) : (t.setFlds k [(F.IDM_SITE_STAT_REC_OK, b2n (moduleRecord d == 0)), (F.IDM_SITE_STAT_REC_ERR, moduleRecord d)]).fld
      F.IDM_SITE_STAT_REC_ERR k = moduleRecord d := by
    simp (disch := decide) only [State.setFlds, fld_setFld_same]
    exact Nat.mod_eq_of_lt (Nat.lt_of_lt_of_le (moduleRecord_lt d) (by decide))
  by_cases h : moduleRecord d = 0
  · rw [checkModule, if_pos h]
    exact ⟨ok s, err s, fun hne => absurd h hne⟩
  · rw [checkModule, if_neg h]
    refine ⟨?_, ?_, fun _ => isSet_raise_same _ (by decide)⟩
    · rw [flag_raise, flag_bump_apart _ _ (by decide), ok]
    · rw [fld_raise, State.bump, fld_bumpN_apart _ _ _ (by decide), err]

/-- A site's PRESENT and CHANGE_S once it has changed. -/
theorem siteChanged_facts (b : Bool) (k : Nat) (s : State) :
    let t := (s.setFlds k [(F.IDM_SITE_STAT_PRESENT, b2n b), (F.IDM_SITE_STAT_CHANGE_S, 1)]).raise Src.IDM_MOD_CHANGE
    t.flag F.IDM_SITE_STAT_PRESENT k = b ∧ t.flag F.IDM_SITE_STAT_CHANGE_S k = true ∧ t.isSet Src.IDM_MOD_CHANGE = true
      ∧ t.flag F.IDM_SITE_STAT_REC_OK k = s.flag F.IDM_SITE_STAT_REC_OK k
      ∧ t.fld F.IDM_SITE_STAT_REC_ERR k = s.fld F.IDM_SITE_STAT_REC_ERR k ∧ KeepsSet s t := by
  refine ⟨?_, ?_, isSet_raise_same _ (by decide), ?_, ?_, (keepsSet_of_flt (setFlds_flt ..)).trans (keepsSet_raise _ _)⟩
  · simp (disch := decide) only [State.setFlds, State.flag, fld_raise, fld_setFld_apart, fld_setFld_same]
    exact b2n_bit b
  · simp (disch := decide) only [State.setFlds, State.flag, fld_raise, fld_setFld_same]
    rfl
  · simp (disch := decide) only [State.setFlds, State.flag, fld_raise, fld_setFld_apart]
  · simp (disch := decide) only [State.setFlds, fld_raise, fld_setFld_apart]

theorem probed_probeSite (acks : List (Fin 128 × List Byte)) (k : Fin 128) (s : State) : Probed acks k s (probeSite acks s k) := by
  have same : (fun a : Fin 128 × List Byte => a.1.val == k.val) = fun a => a.1 == k :=
    funext fun a => Bool.eq_iff_iff.2 (by rw [beq_iff_eq, beq_iff_eq, Fin.ext_iff])
  cases hf : acks.find? (fun a => a.1 == k) with
  | none =>
    have silent : acks.any (fun a => a.1 == k) = false := by
      rw [List.any_eq_false]
      exact List.find?_eq_none.1 hf
    simp only [probeSite, same, hf]
    obtain ⟨present, change, set, -⟩ := siteChanged_facts false k s
    split
    · exact ⟨present.trans silent.symm, fun _ => ⟨change, set⟩, fun d hd => by simp [hf] at hd⟩
    · next hwas =>
      have was := Bool.not_eq_true _ ▸ hwas
      exact ⟨was.trans silent.symm, fun h => absurd (was.trans silent.symm) h, fun d hd => by simp [hf] at hd⟩
  | some a =>
    obtain ⟨i, d⟩ := a
    have answers : acks.any (fun a => a.1 == k) = true := List.any_eq_true.2 ⟨_, List.mem_of_find?_eq_some hf, List.find?_some (p := fun a : Fin 128 × List Byte => a.1 == k) hf⟩
    simp only [probeSite, same, hf]
    split
    · next was => exact ⟨was.trans answers.symm, fun h => absurd (was.trans answers.symm) h, fun _ _ h => by simp [was] at h⟩
    · split
      · obtain ⟨present, change, set, ok, err, kept⟩ := siteChanged_facts true k (checkModule k d s)
        obtain ⟨ok', err', bad⟩ := checkModule_facts k d s
        refine ⟨present.trans answers.symm, fun _ => ⟨change, set⟩, fun d' hd _ _ => ?_⟩
        obtain rfl : d = d' := by
          rw [hf] at hd
          simp only [Option.some.injEq, Prod.mk.injEq] at hd
          exact hd.2
        exact ⟨ok.trans ok', err.trans err', fun h => kept.isSet _ (bad h)⟩
      · next htype =>
        obtain ⟨present, change, set, -⟩ := siteChanged_facts true k s
        exact ⟨present.trans answers.symm, fun _ => ⟨change, set⟩, fun _ _ _ h => absurd h htype⟩

/-- Probes of other sites before and after do not matter. -/
theorem Probed.of_kept {s' t' : State} (before : SiteKept k s s') (h : Probed acks k s' t) (after : SiteKept k t t') : Probed acks k s t' := by
  have stat {f : Fld} (hf : f.reg = .IDM_SITE_STAT) : s'.fld f k = s.fld f k := by rw [fld_eq, fld_eq, hf, before.site]
  have stat' {f : Fld} (hf : f.reg = .IDM_SITE_STAT) : t'.fld f k = t.fld f k := by rw [fld_eq, fld_eq, hf, after.site]
  have flag {f : Fld} (hf : f.reg = .IDM_SITE_STAT) : s'.flag f k = s.flag f k := by rw [State.flag, stat hf, State.flag]
  have flag' {f : Fld} (hf : f.reg = .IDM_SITE_STAT) : t'.flag f k = t.flag f k := by rw [State.flag, stat' hf, State.flag]
  refine ⟨(flag' rfl).trans h.present, fun hne => ?_, fun d hd hwas htype => ?_⟩
  · rw [flag' rfl]
    exact (h.change (by rwa [flag rfl])).imp id (after.set.isSet _)
  · rw [flag' rfl, stat' rfl]
    obtain ⟨ok, err, bad⟩ := h.record d hd ((flag rfl).trans hwas) ((before.regs.fld (by decide) _).trans htype)
    exact ⟨ok, err, fun hbad => after.set.isSet _ (bad hbad)⟩

theorem regsBut_probeSite (acks : List (Fin 128 × List Byte)) (s : State) (i : Nat) :
    regsBut [.IDM_SITE_STAT, .IDM_REC_FAIL_CNT] s (probeSite acks s i) := by
  have changed (b : Nat) (t : State) : regsBut [.IDM_SITE_STAT, .IDM_REC_FAIL_CNT] t
      ((t.setFlds i [(F.IDM_SITE_STAT_PRESENT, b), (F.IDM_SITE_STAT_CHANGE_S, 1)]).raise Src.IDM_MOD_CHANGE) :=
    (regsBut_raise _).2 ((regsBut_setFlds _ _ (by simp)).2 regsBut_refl)
  have checked (d : List Byte) : regsBut [.IDM_SITE_STAT, .IDM_REC_FAIL_CNT] s (checkModule i d s) := by
    rw [checkModule]
    split
    · exact (regsBut_setFlds _ _ (by simp)).2 regsBut_refl
    · rw [regsBut_raise, regsBut_bump (by decide), regsBut_setFlds _ _ (by simp)]
      exact regsBut_refl
  simp only [probeSite]
  split
  · split
    · exact regsBut_refl
    · split
      · exact regsBut_trans (checked _) (changed 1 _)
      · exact changed 1 s
  · split
    · exact changed 0 s
    · exact regsBut_refl

/-- Each site that is scanned is probed. -/
theorem probed_scanSites (hscan : s.flag F.IDM_CFG_SCAN_EN 0 = true) (hen : s.flag F.IDM_SITE_CFG_EN k = true)
    (htype : s.fld F.IDM_SITE_CFG_TYPE k ≠ 0) : Probed acks k s (scanSites acks s) := by
  have mem : k.val ∈ (List.range 128).filter (fun i => s.flag F.IDM_SITE_CFG_EN i && s.fld F.IDM_SITE_CFG_TYPE i != 0) := by
    simp [hen, htype]
  have once := (List.nodup_range (n := 128)).filter (fun i => s.flag F.IDM_SITE_CFG_EN i && s.fld F.IDM_SITE_CFG_TYPE i != 0)
  rw [scanSites, if_neg (by simp [hscan])]
  obtain ⟨l, l', hl⟩ := List.append_of_mem mem
  rw [hl] at once ⊢
  rw [List.nodup_append, List.nodup_cons] at once
  obtain ⟨-, ⟨hafter, -⟩, apart⟩ := once
  rw [List.foldl_append, List.foldl_cons]
  exact (probed_probeSite acks k _).of_kept (siteKept_probes (fun h => apart _ h _ List.mem_cons_self rfl) acks s) (siteKept_probes hafter acks _)

end

/-! ### Straps (R382) -/

/-- The straps that are read, beside the latched ones. -/
theorem strapsRead_facts {slot : Nat} (h : slot < 64) (side : Bool) (s : State) :
    (strapsRead slot side s).fld F.IDM_STRAP_LIVE_SLOT 0 = slot ∧ (strapsRead slot side s).flag F.IDM_STRAP_LIVE_SIDE 0 = side
      ∧ (strapsRead slot side s).fld F.IDM_STRAP_SLOT_ID 0 = s.fld F.IDM_STRAP_SLOT_ID 0
      ∧ (strapsRead slot side s).fld F.IDM_STRAP_CARD_SIDE 0 = s.fld F.IDM_STRAP_CARD_SIDE 0
      ∧ (slot ≠ s.fld F.IDM_STRAP_SLOT_ID 0 → (strapsRead slot side s).isSet Src.IDM_STRAP_CHG = true)
      ∧ regsButAt [.IDM_STRAP] 0 s (strapsRead slot side s) ∧ onlyRegs s (strapsRead slot side s) := by
  have live : (s.setFlds 0 [(F.IDM_STRAP_LIVE_SLOT, slot), (F.IDM_STRAP_LIVE_SIDE, b2n side)]).fld F.IDM_STRAP_LIVE_SLOT 0 = slot := by
    simp (disch := decide) only [State.setFlds, fld_setFld_apart, fld_setFld_same]
    exact Nat.mod_eq_of_lt h
  have latched : (s.setFlds 0 [(F.IDM_STRAP_LIVE_SLOT, slot), (F.IDM_STRAP_LIVE_SIDE, b2n side)]).fld F.IDM_STRAP_SLOT_ID 0
      = s.fld F.IDM_STRAP_SLOT_ID 0 := by
    simp (disch := decide) only [State.setFlds, fld_setFld_apart]
  refine ⟨?_, ?_, ?_, ?_, fun hne => ?_, ?_, ?_⟩
  · exact (fld_of_regs (raiseIf_regs ..) _ _).trans live
  · rw [strapsRead, flag_raiseIf]
    simp (disch := decide) only [State.setFlds, State.flag, fld_setFld_same]
    exact b2n_bit side
  · exact (fld_of_regs (raiseIf_regs ..) _ _).trans latched
  · refine (fld_of_regs (raiseIf_regs ..) _ _).trans ?_
    simp (disch := decide) only [State.setFlds, fld_setFld_apart]
  · have differ : (s.setFlds 0 [(F.IDM_STRAP_LIVE_SLOT, slot), (F.IDM_STRAP_LIVE_SIDE, b2n side)]).strapsDiffer = true := by
      simp [State.strapsDiffer, live, latched, hne]
    rw [strapsRead, differ]
    exact isSet_raise_same _ (by decide)
  · rw [strapsRead, regsButAt_raiseIf, regsButAt_setFlds _ (by simp)]
    exact regsButAt_refl
  · rw [strapsRead, onlyRegs_raiseIf, onlyRegs_setFlds_iff]
    exact onlyRegs_refl

/-! ### Calibration (R383, R384) -/

section
variable {r : RegName} {i : Nat} {v : Word} {sat : State → Bool} {s : State}

theorem writeUser_stores (h : s.flag F.CAL_STAT_LOADED 0 = true) (r : RegName) (i : Nat) (v : Word) (sat : State → Bool) :
    writeUser r i v sat s = (plainWrite r i v s).raiseIf (sat (plainWrite r i v s) && !sat s) Src.CAL_SAT := if_neg (by simp [h])

theorem writeUser_unloaded (h : s.flag F.CAL_STAT_LOADED 0 = false) (r : RegName) (i : Nat) (v : Word) (sat : State → Bool) :
    writeUser r i v sat s = s.reject r.blk := if_pos (by simp [h])

theorem writeUser_frame {rs : List RegName} (h : s.flag F.CAL_STAT_LOADED 0 = true) (hk : r.info.kind = .plain) (hr : r ∈ rs) :
    regsBut rs s (writeUser r i v sat s) ∧ onlyRegs s (writeUser r i v sat s) := by
  rw [writeUser_stores h]
  exact ⟨(regsBut_raiseIf _ _).2 ((regsBut_plainWrite hk hr _ _).2 regsBut_refl), (onlyRegs_raiseIf _ _).2 ((onlyRegs_plainWrite _ _ _).2 onlyRegs_refl)⟩

theorem fld_writeUser {f : Fld} (h : s.flag F.CAL_STAT_LOADED 0 = true) (hk : f.reg.info.kind = .plain) (hw : f.takesWrite = true) :
    (writeUser f.reg i v sat s).fld f i = f.of v := by
  rw [writeUser_stores h, fld_of_regs (raiseIf_regs ..), fld_plainWrite hk hw]

/-- The clamp of a sensor's offset follows the register file and the factory words. -/
theorem sensorOffset_congr {t u : State} (hregs : u.regs = t.regs) (hotp : u.otp = t.otp) (k : Nat) : u.sensorOffset k = t.sensorOffset k := by
  simp only [State.sensorOffset, State.factory, flag_of_regs hregs, fld_of_regs hregs, hotp]

theorem sensor_saturates (h : s.flag F.CAL_STAT_LOADED 0 = true) {k : Nat}
    (hsat : ((writeUser .CAL_TS_U k v (fun t => (t.sensorOffset k).2) s).sensorOffset k).2 = true) (hwas : (s.sensorOffset k).2 = false) :
    (writeUser .CAL_TS_U k v (fun t => (t.sensorOffset k).2) s).isSet Src.CAL_SAT = true := by
  rw [writeUser_stores h] at hsat ⊢
  rw [sensorOffset_congr (raiseIf_regs ..) (raiseIf_otp ..)] at hsat
  simp only [hsat, hwas]
  exact isSet_raise_same _ (by decide)

end

/-- Settles O52: reads, the presence scan, straps and calibration, each by the lemma of its operation. -/
theorem identityReadsScansAndCalibration : Obligations.IdentityReadsScansAndCalibration := by
  refine ⟨fun m v s hgo => ?_, fun m v s hbad => ?_, fun m j data s hj hlen hdata => ?_, fun m j data s hj => ?_,
    fun m nack data s hj => congrArg Host.Outcome.next (idmDone_idle hj nack data), fun m j s hj => ?_, fun m s => rfl,
    fun acks s hscan => ?_, fun acks s hscan => congrArg Host.Outcome.next (if_pos (by simp [hscan])), fun slot side s => ?_,
    fun q v s hload => ?_, fun q v s hload => ?_⟩
  · have regs := congrArg State.regs (writeIdmCmd_starts hgo)
    refine ⟨_, rfl, ?_, ?_, ?_, ?_, ?_, ?_, by simp, by simp⟩
    · rw [flag_of_regs regs]
      exact flag_setFlag_same _ (by decide) rfl _ true
    · rw [fld_of_regs regs]
      refine (fld_setFld_apart _ (by decide) (by decide) _ _ _).trans ?_
      rw [fld_plainWrite (f := F.IDM_CMD_SITE) rfl (by decide), Fld.of_or_apart (by decide)]
    · rw [fld_of_regs regs]
      refine (fld_setFld_apart _ (by decide) (by decide) _ _ _).trans ?_
      rw [fld_plainWrite (f := F.IDM_CMD_DEV) rfl (by decide), Fld.of_or_apart (by decide)]
    · rw [writeIdmCmd_job hgo, Fld.of_or_apart (by decide), Fld.of_or_apart (by decide)]
    · refine regsButAt_trans ?_ (regsButAt_of_regs regs)
      exact (regsButAt_setFld (by decide) _).2 ((regsButAt_plainWrite rfl (by decide) _ _).2 regsButAt_refl)
    · exact (congrArg State.flt (writeIdmCmd_starts hgo)).trans (plainWrite_flt ..)
  · have bad : s.badGo m (v ||| 0x80000000#32) = true := by
      rw [badGo_go]
      simp only [State.badGo]
      rcases hbad with h | h | h | h | ⟨hdev, htype⟩ <;> simp [*]
    exact ⟨_, congrArg Host.Outcome.next (writeIdmCmd_refused bad), reject_regs .., isSet_reject .., by simp⟩
  · obtain ⟨busy, result, done, frame, flt⟩ := endIdm_facts m 0 (by decide) (fillBuf m 0 (data.take j.len) s)
    obtain ⟨filled, flt'⟩ := fillBuf_frame m 0 (data.take j.len) s
    refine ⟨_, congrArg Host.Outcome.next (idmDone_data hj data), busy, result, done, fun b hb => ?_, ?_, flt.trans flt', by simp, by simp⟩
    · have read := bufByte_fillBuf (c := 0) m.val (data.take j.len) (k := b) (by simp; omega) s
      rw [frame _ _ (by decide)]
      rw [bufByte, Nat.zero_add] at read
      rw [read, List.getD_eq_getElem?_getD, List.getElem?_take_of_lt hb, List.getD_eq_getElem?_getD]
    · exact regsBut_trans (regsBut_mono (by decide) filled) (regsBut_mono (by decide) frame)
  · obtain ⟨busy, result, done, count, frame⟩ := endIdm_counted (r := .IDM_NACK_CNT) (by decide) m.val 1 (by decide) Src.IDM_NACK s
    exact ⟨_, congrArg Host.Outcome.next (idmDone_nack hj data), busy, result, done, isSet_raise_same _ (by decide), count, frame, by simp, by simp⟩
  · obtain ⟨busy, result, done, count, frame⟩ := endIdm_counted (r := .IDM_STUCK_CNT) (by decide) m.val 2 (by decide) Src.IDM_BUS_STUCK s
    exact ⟨_, congrArg Host.Outcome.next (busStuck_command hj), busy, result, isSet_raise_same _ (by decide), count, frame, by simp, by simp⟩
  · refine ⟨_, rfl, ⟨by simp, by simp⟩, ?_, fun k hen htype => ?_⟩
    · rw [scanSites, if_neg (by simp [hscan])]
      exact regsBut_foldl (regsBut_probeSite acks) _ s
    · obtain ⟨present, change, record⟩ := probed_scanSites (acks := acks) hscan hen htype
      exact ⟨present, change, record⟩
  · exact ⟨_, rfl, strapsRead_facts slot.isLt side s⟩
  · cases q with
    | oscillator =>
      obtain ⟨frame, only⟩ := writeUser_frame (r := .CAL_OSC) (i := 0) (v := v) (sat := fun t => t.oscTrim.2) hload rfl
        (List.mem_cons_self (l := [RegName.CAL_TS_U, .LANE_TXEQ]))
      exact ⟨_, rfl, fun _ => fld_writeUser (f := F.CAL_OSC_TRIM_U) hload rfl (by decide), nofun, nofun, frame, only⟩
    | sensor k =>
      obtain ⟨frame, only⟩ := writeUser_frame (r := .CAL_TS_U) (i := k) (v := v) (sat := fun t => (t.sensorOffset k).2)
        (rs := [.CAL_OSC, .CAL_TS_U, .LANE_TXEQ]) hload rfl (by decide)
      refine ⟨_, rfl, nofun, fun k' hk => ?_, nofun, frame, only⟩
      obtain rfl := CalQuantity.sensor.inj hk
      exact ⟨fld_writeUser (f := F.CAL_TS_U_OFS_U) hload rfl (by decide), sensor_saturates hload⟩
    | lane n =>
      obtain ⟨frame, only⟩ := writeUser_frame (r := .LANE_TXEQ) (i := n) (v := v) (sat := fun t => t.laneSat n)
        (rs := [.CAL_OSC, .CAL_TS_U, .LANE_TXEQ]) hload rfl (by decide)
      refine ⟨_, rfl, nofun, nofun, fun n' hn => ?_, frame, only⟩
      obtain rfl := CalQuantity.lane.inj hn
      exact ⟨fld_writeUser (f := F.LANE_TXEQ_PRE_U) hload rfl (by decide), fld_writeUser (f := F.LANE_TXEQ_MAIN_U) hload rfl (by decide),
        fld_writeUser (f := F.LANE_TXEQ_POST_U) hload rfl (by decide)⟩
  · cases q with
    | oscillator =>
      exact ⟨_, congrArg Host.Outcome.next (show writeCal .CAL_OSC 0 v s = s.reject .CAL from writeUser_unloaded hload .CAL_OSC 0 v fun t => t.oscTrim.2), reject_regs .., isSet_reject .., by simp⟩
    | sensor k =>
      exact ⟨_, congrArg Host.Outcome.next (show writeCal .CAL_TS_U k v s = s.reject .CAL from writeUser_unloaded hload .CAL_TS_U k v fun t => (t.sensorOffset k).2), reject_regs .., isSet_reject .., by simp⟩
    | lane n =>
      exact ⟨_, congrArg Host.Outcome.next (writeUser_unloaded hload .LANE_TXEQ n v _), reject_regs .., isSet_reject .., by simp⟩

end Sys2Proof.Machine
end

section
/-!
PROOFS. Application cores (chapter 14): the handover, lock-ups, core errors, timers, software interrupts and ECC.
-/

namespace Sys2Proof.Machine

/-! ### Time up to an instant of Event Time -/

section
variable {d k ns : Nat} {s : State}

theorem domRuns_of_regs {t : State} (h : t.regs = s.regs) (d : Nat) : t.domRuns d = s.domRuns d := by
  simp only [State.domRuns, State.curDom, State.etValid, flag_of_regs h, fld_of_regs h]

theorem curDom_of_regs {t : State} (h : t.regs = s.regs) : t.curDom = s.curDom := fld_of_regs h ..

theorem dom_runDom_same (h : s.domRuns d = true) (ns : Nat) :
    (s.runDom d ns).dom d = (s.dom d).run (signed 32 (s.reg .PTP_DOM_FREQ d).toNat) ns := by
  rw [State.runDom, if_pos h, dom_setDom_same]

theorem dom_runDom_ne (h : k ≠ d) (ns : Nat) (s : State) : (s.runDom d ns).dom k = s.dom k := by
  rw [State.runDom]
  split
  · exact AMap.get_set_ne _ _ _ h
  · rfl

/-- The selected domain runs for the whole time; R stays 0. -/
theorem etFull_elapse (hresid : s.ptp.resid = 0) (hruns : s.domRuns s.curDom = true) (ns : Nat) :
    (elapse ns s).etFull = ((s.dom s.curDom).run (signed 32 (s.reg .PTP_DOM_FREQ s.curDom).toNat) ns).time := by
  have hcur : s.curDom < 2 := fld_lt ..
  obtain ⟨hr0, -⟩ := runDom_resid { s with now := s.now + ns } 0 ns
  obtain ⟨hr1, -⟩ := runDom_resid (({ s with now := s.now + ns } : State).runDom 0 ns) 1 ns
  have still : elapse ns s = (({ s with now := s.now + ns } : State).runDom 0 ns).runDom 1 ns := by
    rw [elapse, slewEt, if_pos (hr1.trans (hr0.trans hresid))]
  have run : (elapse ns s).dom s.curDom = (s.dom s.curDom).run (signed 32 (s.reg .PTP_DOM_FREQ s.curDom).toNat) ns := by
    rw [still]
    obtain h | h : s.curDom = 0 ∨ s.curDom = 1 := by omega
    · rw [h] at hruns ⊢
      rw [dom_runDom_ne (by decide)]
      exact dom_runDom_same (s := { s with now := s.now + ns }) hruns ns
    · rw [h] at hruns ⊢
      have regs : (({ s with now := s.now + ns } : State).runDom 0 ns).regs = s.regs := runDom_regs ..
      rw [dom_runDom_same ((domRuns_of_regs regs 1).trans hruns), dom_runDom_ne (by decide), reg_of_regs regs]
      rfl
  rw [State.etFull, curDom_of_regs (elapse_regs ns s), run, still, hr1, hr0]
  change _ - s.ptp.resid = _
  rw [hresid, Int.sub_zero]

theorem signed32_lt (v : Nat) : signed 32 v < 16000000000 := by
  simp only [signed]
  split <;> omega

/-- An instant of Event Time that lies ahead is reached. -/
theorem etFull_passTo (hresid : s.ptp.resid = 0) (hruns : s.domRuns s.curDom = true) (i : Int) : i ≤ (passTo i s).etFull := by
  have hrate := signed32_lt (s.reg .PTP_DOM_FREQ s.curDom).toNat
  rw [passTo, etFull_elapse hresid hruns]
  generalize hd : (i - s.etFull).toNat = d
  generalize hy : (16000000000 - signed 32 (s.reg .PTP_DOM_FREQ s.curDom).toNat).toNat = y
  have full : s.etFull = (s.dom s.curDom).time := by rw [State.etFull, hresid, Int.sub_zero]
  have ahead := le_ceilDiv_mul (d * 16000000000) (b := y) (by omega)
  have moved : d ≤ ((s.dom s.curDom).frac + ceilDiv (d * 16000000000) y * y) / 16000000000 :=
    (Nat.le_div_iff_mul_le (by decide)).2 (by omega)
  rw [full] at hd
  simp only [PtpDom.run, hy]
  push_cast
  omega

end

/-! ### Interrupts (R346, R348) -/

theorem signed64_of_lt {v : Nat} (h : v < 2 ^ 63) : signed 64 v = v := by
  simp only [signed]
  rw [Nat.mod_eq_of_lt (by omega), if_pos (by simpa using h)]

theorem unsign64_of_lt {x : Int} (h0 : 0 ≤ x) (h : x < 2 ^ 64) : (unsign 64 x : Int) = x := by
  rw [unsign, Int.emod_eq_of_lt h0 (by simpa using h), Int.toNat_of_nonneg h0]

theorem timerReached_facts {h : Nat} {s : State} (hlt : s.timeCmp h < 2 ^ 63) (hresid : s.ptp.resid = 0)
    (hruns : s.domRuns s.curDom = true) : (s.timeCmp h : Int) ≤ (timerReached h s).etFull
      ∧ ((timerReached h s).etFull < 2 ^ 64 → (timerReached h s).timerIrq h = true) := by
  have reached : (s.timeCmp h : Int) ≤ (timerReached h s).etFull := by
    rw [timerReached, signed64_of_lt hlt]
    exact etFull_passTo hresid hruns _
  refine ⟨reached, fun hfits => ?_⟩
  have cmp : (timerReached h s).timeCmp h = s.timeCmp h := by
    simp only [State.timeCmp, reg_of_regs (show (timerReached h s).regs = s.regs from passTo_regs ..)]
  have csr := unsign64_of_lt (Int.le_trans (Int.natCast_nonneg _) reached) hfits
  rw [State.timerIrq, cmp, State.timeCsr, decide_eq_true_eq]
  omega

/-! ### Registers (R343) -/

/-- No bit of a register takes a write. -/
theorem written_of_ignores {r : RegName} (hrw : r.typeMask .rw = 0) (hrws : r.typeMask .rws = 0) (hc : r.typeMask .w1c = 0)
    (hs : r.typeMask .w1s = 0) (old v : Word) : r.written old v = old := by
  refine BitVec.eq_of_getLsbD_eq fun k hk => ?_
  rw [RegName.getLsbD_written, hrw, hrws, hc, hs]
  simp [hk]

theorem reg_l2Maint (v : Word) (s : State) (r : RegName) (i : Nat) : (writeCpu 0 .CPU_L2_MAINT 0 v s).reg r i = s.reg r i := by
  have plain : writeCpu 0 .CPU_L2_MAINT 0 v s = s.setReg .CPU_L2_MAINT 0 (RegName.CPU_L2_MAINT.written (s.reg .CPU_L2_MAINT 0) v) :=
    plainWrite_of_plain (r := .CPU_L2_MAINT) rfl 0 v s
  rw [plain, written_of_ignores (by decide) (by decide) (by decide) (by decide)]
  by_cases h : r = .CPU_L2_MAINT ∧ i = 0
  · obtain ⟨rfl, rfl⟩ := h
    exact reg_setReg_same ..
  · exact reg_setReg_ne _ _ fun hr hi => h ⟨hr, hi⟩

/-! ### The handover (R344) -/

theorem unitType_core : ∀ c : Fin 5, unitType (125 + c) = 4 := by decide

theorem unitField_core (c : Fin 5) : unitField (125 + c) = (F.CPU_CORE_STAT_STATE, c.val) := by
  simp only [unitField, unitType_core c, Nat.add_sub_cancel_left]

section
variable {c e : Fin 5} {m : Migration} {s : State}

theorem unitState_core (s : State) (c : Fin 5) : s.unitState (125 + c) = s.coreState c := by
  rw [State.unitState, unitField_core, State.coreState]

theorem setUnit_core (s : State) (c : Fin 5) (st : Nat) : s.setUnit (125 + c) st = s.setFld F.CPU_CORE_STAT_STATE c st := by
  rw [State.setUnit, unitField_core]

/-- The state once the hart of core `c` runs on core `e`, the unit left to its self-test. -/
def handedTo (c e : Nat) (s : State) : State :=
  ((((s.setFld F.CPU_CORE_STAT_STATE e 0).setFld F.CPU_CORE_STAT_HART e (s.hartOf c)).bump .CPU_HANDOVER_CNT 0).raise
    Src.CPU_HANDOVER).setFld F.CPU_CORE_STAT_STATE c 3

theorem setUnitR_core (c : Fin 5) (st : Nat) (s : State) : setUnitR (125 + c) st s = s.setFld F.CPU_CORE_STAT_STATE c st := by
  rw [setUnitR, unitType_core c]
  exact setUnit_core s c st

theorem passRole_core (c e : Fin 5) (s : State) : passRole (125 + c) (125 + e) s =
    (((s.setFld F.CPU_CORE_STAT_STATE e 0).setFld F.CPU_CORE_STAT_HART e (s.hartOf c)).bump .CPU_HANDOVER_CNT 0).raise
      Src.CPU_HANDOVER := by
  rw [passRole, unitType_core c]
  simp only [setUnit_core, Nat.add_sub_cancel_left]

theorem handOver_waits (hm : s.vault.migr.find? 4 = some m) (hout : s.outstanding (m.leaving - 125) = true) : handOver s = s := by
  rw [handOver, hm]
  exact if_pos hout

theorem endMigration_core (hm : s.vault.migr.find? 4 = some m) (hleaving : m.leaving = 125 + c) (hspare : m.spare = 125 + e)
    (hkeep : m.retire = false) (hdrains : s.coreState c = 2) : ∃ v : VaultState, v.migr = s.vault.migr.erase 4 ∧
      endMigration 4 s = (({ handedTo c e { s with vault := { s.vault with migr := s.vault.migr.erase 4 } } with
        vault := v } : State).bump .VAULT_ROT_CNT 0).raise Src.VAULT_MIGRATED := by
  have drained : s.unitState (125 + c) = 2 := (unitState_core s c).trans hdrains
  simp only [endMigration, hm, hleaving, hspare, hkeep, drained, BEq.rfl, if_true, passRole_core, setUnitR_core]
  exact ⟨_, by simp, rfl⟩

theorem handedTo_facts (hce : c ≠ e) (s : State) : (handedTo c e s).coreState c = 3 ∧ (handedTo c e s).coreState e = 0
    ∧ (handedTo c e s).hartOf e = s.hartOf c ∧ (handedTo c e s).isSet Src.CPU_HANDOVER = true
    ∧ (handedTo c e s).reg .CPU_HANDOVER_CNT 0 = BitVec.ofNat 32 (min (2 ^ 32 - 1) ((s.reg .CPU_HANDOVER_CNT 0).toNat + 1))
    ∧ regsBut [.CPU_CORE_STAT, .CPU_HANDOVER_CNT] s (handedTo c e s) := by
  have apart : e.val ≠ c.val := fun h => hce (Fin.ext h.symm)
  have elsewhere {f : Fld} (t : State) : (t.setFld F.CPU_CORE_STAT_STATE c 3).fld f e = t.fld f e :=
    fld_setReg_reg t _ fun _ => apart
  refine ⟨?_, ?_, ?_, ?_, ?_, ?_⟩
  · exact fld_setFld_same _ (by decide) _ _
  · rw [State.coreState, handedTo, elsewhere, fld_raise, State.bump, fld_bumpN_apart _ _ _ (by decide),
      fld_setFld_apart _ (by decide) (by decide), fld_setFld_same _ (by decide)]
    rfl
  · rw [State.hartOf, handedTo, elsewhere, fld_raise, State.bump, fld_bumpN_apart _ _ _ (by decide), fld_setFld_same _ (by decide)]
    exact Nat.mod_eq_of_lt (fld_lt ..)
  · exact (isSet_of_flt (setFld_flt ..) _).trans (isSet_raise_same _ (by decide))
  · rw [handedTo, reg_setFld_apart _ _ _ _ (by decide), reg_raise, State.bump, reg_bumpN_same, reg_setFld_apart _ _ _ _ (by decide),
      reg_setFld_apart _ _ _ _ (by decide)]
  · rw [handedTo, regsBut_setFld (by decide), regsBut_raise, regsBut_bump (by decide), regsBut_setFld (by decide), regsBut_setFld (by decide)]
    exact regsBut_refl

end

/-! ### Confined resets (R345, R408) -/

section
variable {c h : Nat} {s : State}

theorem clearHart_facts (h : Nat) (s : State) : (clearHart h s).reg .CPU_IPI h = 0 ∧ (clearHart h s).reg .CPU_IRQ_EN_LO h = 0
    ∧ (clearHart h s).reg .CPU_MTIMECMP_HI h = 0xFFFFFFFF#32
    ∧ regsBut [.CPU_IPI, .CPU_IRQ_EN_LO, .CPU_IRQ_EN_HI, .CPU_MTIMECMP_LO, .CPU_MTIMECMP_HI] s (clearHart h s)
    ∧ (clearHart h s).flt = s.flt := by
  refine ⟨?_, ?_, ?_, ?_, rfl⟩
  · simp (disch := decide) only [clearHart, List.foldl_cons, List.foldl_nil, reg_setReg_reg, reg_setReg_same]
    rfl
  · simp (disch := decide) only [clearHart, List.foldl_cons, List.foldl_nil, reg_setReg_reg, reg_setReg_same]
    rfl
  · simp (disch := decide) only [clearHart, List.foldl_cons, List.foldl_nil, reg_setReg_same]
    rfl
  · simp (disch := decide) only [clearHart, List.foldl_cons, List.foldl_nil, regsBut_setReg, regsBut_refl]

theorem bit_putBits_same (w n : Nat) (b : Bool) : bit (putBits w n 1 (b2n b)) n = b := by
  have h := bitsOf_putBits_same w n 1 (b2n b)
  rw [bitsOf, Nat.pow_one] at h
  rw [bit, h]
  cases b <;> rfl

theorem hartUp_setHart (hh : h < 4) (b : Bool) (s : State) : (setHart h b s).hartUp h = b := by
  rw [State.hartUp, setHart, fld_setFld_same _ (by decide), Nat.mod_eq_of_lt, bit_putBits_same]
  exact putBits_lt _ _ _ _ _ (fld_lt ..) (by simpa using hh)

/-- The core stops with its hart and the registers of its hart, and the reset is counted. -/
def confined (cause c : Nat) (s : State) : State :=
  (stopCore c (clearHart (s.hartOf c) (recordCore c (recordCause cause s)))).bump .RST_CONF_CNT 0

theorem confinedReset_eq (hlevel : s.rst.level = 0) (hmigr : s.vault.migr.find? 4 = none) (cause c : Nat) : ∃ r : RstState,
    r.level = 0 ∧ r.conf.find? c = some (s.now + 2000000) ∧ confinedReset cause c s = { confined cause c s with rst := r } := by
  have level : (recordCore c (recordCause cause s)).rst.level = 0 := hlevel
  have migr : (recordCore c (recordCause cause s)).vault.migr.find? 4 = none := hmigr
  have hart : (recordCore c (recordCause cause s)).hartOf c = s.hartOf c := by
    rw [State.hartOf, recordCore, recordCause, fld_setReg_apart _ _ _ _ (by decide), fld_setReg_apart _ _ _ _ (by decide), State.hartOf]
  have eq : confinedReset cause c s = { confined cause c s with
      rst := { (confined cause c s).rst with conf := (confined cause c s).rst.conf.set c ((confined cause c s).now + 2000000), wdtOn := false } } := by
    rw [confinedReset, if_neg (by simp [level])]
    simp only [migr, hart]
    rfl
  refine ⟨_, ?_, ?_, eq⟩
  · exact hlevel
  · exact AMap.find?_set_same ..

/-- What a confined reset leaves. -/
theorem confined_facts (cause c : Nat) (s : State) : (confined cause c s).hartUp (s.hartOf c) = false
    ∧ (confined cause c s).reg .RST_CONF_CNT 0 = BitVec.ofNat 32 (min (2 ^ 32 - 1) ((s.reg .RST_CONF_CNT 0).toNat + 1))
    ∧ (confined cause c s).reg .RST_CAUSE 0 = s.reg .RST_CAUSE 0 ||| 1#32 <<< cause ||| 1#32 <<< (16 + c)
    ∧ (confined cause c s).reg .CPU_IPI (s.hartOf c) = 0 ∧ (confined cause c s).reg .CPU_IRQ_EN_LO (s.hartOf c) = 0
    ∧ (confined cause c s).reg .CPU_MTIMECMP_HI (s.hartOf c) = 0xFFFFFFFF#32 ∧ (confined cause c s).bus.req.find? c = none
    ∧ regsBut [.RST_CONF_CNT, .RST_CAUSE, .CPU_STAT, .CPU_IPI, .CPU_IRQ_EN_LO, .CPU_IRQ_EN_HI, .CPU_MTIMECMP_LO, .CPU_MTIMECMP_HI]
        s (confined cause c s)
    ∧ (confined cause c s).flt = s.flt := by
  have recorded : regsBut [.RST_CAUSE] s (recordCore c (recordCause cause s)) := by
    rw [recordCore, recordCause, regsBut_setReg (by decide), regsBut_setReg (by decide)]
    exact regsBut_refl
  obtain ⟨ipi, irq, cmp, cleared, flt⟩ := clearHart_facts (s.hartOf c) (recordCore c (recordCause cause s))
  generalize hu : clearHart (s.hartOf c) (recordCore c (recordCause cause s)) = u at ipi irq cmp cleared flt
  have hart : u.hartOf c = s.hartOf c := (cleared.fld (by decide) _).trans (recorded.fld (by decide) _)
  have eq : confined cause c s = (masterReset c (setHart (s.hartOf c) false u)).bump .RST_CONF_CNT 0 := by
    rw [confined, hu, stopCore, hart]
  have regs : (masterReset c (setHart (s.hartOf c) false u)).regs = (setHart (s.hartOf c) false u).regs := rfl
  have kept {r : RegName} (hr : r ≠ .RST_CONF_CNT) (hstat : r ≠ .CPU_STAT) (i : Nat) : (confined cause c s).reg r i = u.reg r i := by
    rw [eq, reg_bump_apart _ _ _ hr, reg_of_regs regs, setHart, reg_setFld_apart _ _ _ _ hstat]
  refine ⟨?_, ?_, ?_, ?_, ?_, ?_, ?_, ?_, ?_⟩
  · rw [eq, State.hartUp, State.bump, fld_bumpN_apart _ _ _ (by decide), fld_of_regs regs]
    exact hartUp_setHart (fld_lt ..) false u
  · rw [eq, State.bump, reg_bumpN_same, reg_of_regs regs, setHart, reg_setFld_apart _ _ _ _ (by decide), cleared _ _ (by decide),
      recorded _ _ (by decide)]
  · rw [kept (by decide) (by decide), cleared _ _ (by decide), recordCore, reg_setReg_same, recordCause, reg_setReg_same]
  · rw [kept (by decide) (by decide), ipi]
  · rw [kept (by decide) (by decide), irq]
  · rw [kept (by decide) (by decide), cmp]
  · rw [eq]
    exact AMap.find?_erase_same ..
  · rw [eq, regsBut_bump (by decide)]
    refine regsBut_trans (regsBut_mono (by decide) recorded) (regsBut_trans (regsBut_mono (by decide) cleared) ?_)
    refine regsBut_trans ?_ (regsBut_of_regs regs)
    exact (regsBut_setFld (by decide) _ _).2 regsBut_refl
  · rw [eq]
    exact flt

/-- A core that locks up in neither a start nor a reset nor a migration (R345). -/
theorem lockUp_confines (hserves : s.coreServes c = true) (hup : s.hartUp (s.hartOf c) = true) (hlevel : s.rst.level = 0)
    (hstart : s.rst.inStart = false) (hmigr : s.vault.migr.find? 4 = none) : ∃ (u : State) (r : RstState),
      u = ((s.bump .CPU_LOCKUP_CNT 0).setFlag F.CPU_CORE_STAT_LOCKUP_S c true).raise Src.CPU_LOCKUP ∧ r.level = 0
        ∧ r.conf.find? c = some (s.now + 2000000) ∧ lockUp c s = { confined 10 c u with rst := r } := by
  generalize hu : ((s.bump .CPU_LOCKUP_CNT 0).setFlag F.CPU_CORE_STAT_LOCKUP_S c true).raise Src.CPU_LOCKUP = u
  have rst : u.rst = s.rst := by rw [← hu]; simp
  have migr : u.vault.migr.find? 4 = none := by rw [← hu]; simpa using hmigr
  have now : u.now = s.now := by rw [← hu]; simp
  obtain ⟨r, level, conf, eq⟩ := confinedReset_eq (rst ▸ hlevel) migr 10 c
  refine ⟨u, r, rfl, level, now ▸ conf, ?_⟩
  simp only [lockUp, hserves, hup, Bool.and_self, if_true, hu, rst, hstart]
  exact eq

end

/-- Settles O49: the handover, the confined reset of a lock-up, the timer and the interrupts, each by the lemma of its operation. -/
theorem coresHandOverRestartAndInterrupt : Obligations.CoresHandOverRestartAndInterrupt := by
  refine ⟨fun c e m s hm hleaving hspare hce hkeep hdrains hout => ?_,
    fun m s hm hout => congrArg Host.Outcome.next (handOver_waits hm hout),
    fun c s hserves hup hlevel hstart hmigr => ?_, fun c s hserves => ?_,
    fun c s hserves => ⟨congrArg Host.Outcome.next (if_neg (by simp [hserves])), congrArg Host.Outcome.next (if_neg (by simp [hserves]))⟩,
    fun h s hlt hresid hruns => ?_, fun h v s => ?_, fun v s => ?_, fun m e s => ?_⟩
  · obtain ⟨v, migr, ends⟩ := endMigration_core hm hleaving hspare hkeep hdrains
    obtain ⟨state, spare, hart, set, count, frame⟩ := handedTo_facts hce { s with vault := { s.vault with migr := s.vault.migr.erase 4 } }
    have out : s.outstanding (m.leaving - 125) = false := by rwa [hleaving, Nat.add_sub_cancel_left]
    have still : Machine.still s (endMigration 4 s) := ⟨by simp, by simp⟩
    refine ⟨endMigration 4 s, congrArg Host.Outcome.next ?_, ?_⟩
    · simp only [handOver, hm, out]
      rfl
    generalize hu : handedTo c e { s with vault := { s.vault with migr := s.vault.migr.erase 4 } } = u at ends state spare hart set count frame
    rw [ends] at still ⊢
    have flds {f : Fld} (hf : f.reg ≠ .VAULT_ROT_CNT) (i : Nat) :
        ((({ u with vault := v } : State).bump .VAULT_ROT_CNT 0).raise Src.VAULT_MIGRATED).fld f i = u.fld f i := by
      rw [fld_raise, State.bump, fld_bumpN_apart _ _ _ hf]
      rfl
    have regs {r : RegName} (hr : r ≠ .VAULT_ROT_CNT) (i : Nat) :
        ((({ u with vault := v } : State).bump .VAULT_ROT_CNT 0).raise Src.VAULT_MIGRATED).reg r i = u.reg r i := by
      rw [reg_raise, reg_bump_apart _ _ _ hr]
      rfl
    refine ⟨(flds (by decide) _).trans state, (flds (by decide) _).trans spare, (flds (by decide) _).trans hart, ?_, ?_, ?_, ?_, ?_, still⟩
    · rw [regs (by decide), frame _ _ (by decide)]
      rfl
    · exact (keepsSet_raise _ _).isSet _ ((isSet_of_flt rfl _).trans set)
    · rw [regs (by decide), count]
      rfl
    · rw [raise_vault, bump_vault, migr]
      exact AMap.find?_erase_same ..
    · rw [regsBut_raise, regsBut_bump (by decide)]
      exact regsBut_trans (t := u) (regsBut_mono (rs := [.CPU_CORE_STAT, .CPU_HANDOVER_CNT]) (by decide) frame) (regsBut_of_regs rfl)
  · obtain ⟨u, rst, hu, level, due, eq⟩ := lockUp_confines hserves hup hlevel hstart hmigr
    obtain ⟨stopped, conf, cause, ipi, irq, cmp, req, frame, flt⟩ := confined_facts 10 c u
    have regs : (lockUp c s).regs = (confined 10 c u).regs := by rw [eq]
    have began : regsBut [.CPU_LOCKUP_CNT, .CPU_CORE_STAT] s u := by
      rw [hu, regsBut_raise, regsBut_setFlag (by decide), regsBut_bump (by decide)]
      exact regsBut_refl
    have hart : u.hartOf c = s.hartOf c := by
      rw [hu, State.hartOf, fld_raise, fld_setFlag_apart _ (by decide) (by decide), State.bump, fld_bumpN_apart _ _ _ (by decide), State.hartOf]
    have flt' : (lockUp c s).flt = u.flt := by rw [eq, flt]
    rw [hart] at stopped ipi irq cmp
    refine ⟨lockUp c s, rfl, ?_, ?_, ?_, ?_, ?_, ?_, ?_, ?_, ?_, ?_, ?_, ?_, ?_, by simp, ?_⟩
    · rw [State.hartUp, fld_of_regs regs]
      exact stopped
    · rw [flag_of_regs regs, frame.flag (by decide), hu, flag_raise]
      exact flag_setFlag_same _ (by decide) rfl _ true
    · rw [isSet_of_flt flt', hu]
      exact isSet_raise_same _ (by decide)
    · rw [reg_of_regs regs, frame _ _ (by decide), hu, reg_raise, reg_setFlag_apart _ _ _ _ (by decide), State.bump, reg_bumpN_same]
    · rw [reg_of_regs regs, conf, began _ _ (by decide)]
    · rw [reg_of_regs regs, cause, began _ _ (by decide)]
    · rw [reg_of_regs regs, ipi]
    · rw [reg_of_regs regs, irq]
    · rw [reg_of_regs regs, cmp]
    · rw [eq]
      exact req
    · rw [eq]
      exact due
    · rw [eq]
      exact level
    · exact regsBut_trans (regsBut_mono (by decide) began) (regsBut_trans (regsBut_mono (by decide) frame) (regsBut_of_regs regs))
    · rw [eq]
      change u.mem = s.mem
      rw [hu]
      simp
  · refine ⟨_, congrArg Host.Outcome.next (if_pos hserves), ?_, isSet_raise_same _ (by decide), ?_, by simp⟩
    · rw [flag_raise]
      exact flag_setFlag_same _ (by decide) rfl _ true
    · rw [regsButAt_raise, regsButAt_setFlag (by decide)]
      exact regsButAt_refl
  · obtain ⟨reached, irq⟩ := timerReached_facts hlt hresid hruns
    exact ⟨_, rfl, reached, irq, passTo_regs .., by simp, by simp⟩
  · refine ⟨_, rfl, fld_plainWrite (f := F.CPU_IPI_SET) rfl (by decide) _ _ _, ?_, ?_, plainWrite_flt ..⟩
    · exact (regsButAt_plainWrite rfl (by decide) _ _).2 regsButAt_refl
    · exact (onlyRegs_plainWrite _ _ _).2 onlyRegs_refl
  · refine ⟨_, rfl, reg_l2Maint v s, ?_, plainWrite_flt ..⟩
    exact (onlyRegs_plainWrite .CPU_L2_MAINT 0 v).2 onlyRegs_refl
  · cases e with
    | l2Corrected =>
      refine ⟨(s.bump .CPU_L2_ECC_CORR 0).raise Src.CPU_L2_ECC_CORR, rfl, fun _ => ⟨isSet_raise_same _ (by decide), by simp, ?_⟩, nofun, nofun, nofun, ?_, by simp, by simp⟩
      · rw [reg_raise, State.bump, reg_bumpN_same]
      · rw [regsButAt_raise, regsButAt_bump_iff (by decide)]
        exact regsButAt_refl
    | sramCorrected =>
      refine ⟨(s.bump .CPU_SRAM_ECC_CORR 0).raise Src.CPU_SRAM_ECC_CORR, rfl, nofun, fun _ => ⟨isSet_raise_same _ (by decide), by simp, ?_⟩, nofun, nofun, ?_, by simp, by simp⟩
      · rw [reg_raise, State.bump, reg_bumpN_same]
      · rw [regsButAt_raise, regsButAt_bump_iff (by decide)]
        exact regsButAt_refl
    | l2Uncorrectable =>
      refine ⟨(s.respondErr m).raise Src.CPU_L2_ECC_UNCORR, rfl, nofun, nofun, fun _ => ⟨isSet_raise_same _ (by decide), ?_, by simp⟩, nofun, ?_, by simp, by simp⟩
      · rw [raise_resp]
        exact AMap.find?_set_same ..
      · rw [regsButAt_raise]
        exact regsButAt_of_regs rfl
    | sramUncorrectable =>
      refine ⟨(s.respondErr m).raise Src.CPU_SRAM_ECC_UNCORR, rfl, nofun, nofun, nofun, fun _ => ⟨isSet_raise_same _ (by decide), ?_, by simp⟩, ?_, by simp, by simp⟩
      · rw [raise_resp]
        exact AMap.find?_set_same ..
      · rw [regsButAt_raise]
        exact regsButAt_of_regs rfl

end Sys2Proof.Machine
end

section
/-!
PROOFS. Serial lanes (R84 to R95): their assignment, the transmit PLLs of the quads, and the receivers.
-/

namespace Sys2Proof.Machine

/-! ### Folds over lanes -/

/-- What each step of a fold brings about at its own element, and the steps at others keep. -/
theorem foldl_reaches {P : State → Prop} {g : State → Nat → State} {n : Nat} (sets : ∀ s, P (g s n))
    (keeps : ∀ s m, m ≠ n → P s → P (g s m)) (l : List Nat) (s : State) (h : n ∈ l ∨ P s) : P (l.foldl g s) := by
  induction l generalizing s with
  | nil => exact h.resolve_left List.not_mem_nil
  | cons m l ih =>
    refine ih (g s m) ?_
    by_cases hm : m = n
    · exact .inr (hm ▸ sets s)
    · exact h.imp (fun hn => (List.mem_cons.1 hn).resolve_left (Ne.symm hm)) (keeps s m hm)

/-- A field that is set in each lane of a list. -/
theorem fld_foldl_setFld {f : Fld} (hf : f.lo + f.len ≤ 32) {v : Nat} (hv : v < 2 ^ f.len) {l : List Nat} {n : Nat} (hn : n ∈ l) (s : State) :
    (l.foldl (fun t m => t.setFld f m v) s).fld f n = v := by
  refine foldl_reaches (P := fun t => t.fld f n = v) (fun t => ?_) (fun t m hm h => ?_) l s (.inl hn)
  · rw [fld_setFld_same t hf, Nat.mod_eq_of_lt hv]
  · have apart : (t.setFld f m v).fld f n = t.fld f n := fld_setReg_reg t _ fun _ => Ne.symm hm
    exact apart.trans h

/-! ### Configuration (R84 to R89) -/

section
variable {n q k : Nat} {v : Word} {s t u : State}

/-- What an assignment changes besides the lane's own LANE_CFG. -/
structure Assigning (n : Nat) (s t : State) : Prop where
  regs : regsBut [.LANE_CFG, .LANE_STAT, .LANE_QUAD_STAT] s t
  flt : t.flt = s.flt
  own : t.reg .LANE_CFG n = s.reg .LANE_CFG n

theorem assigning_refl (n : Nat) (s : State) : Assigning n s s := ⟨regsBut_refl, rfl, rfl⟩

theorem Assigning.trans (h : Assigning n s t) (g : Assigning n t u) : Assigning n s u :=
  ⟨regsBut_trans h.regs g.regs, g.flt.trans h.flt, g.own.trans h.own⟩

theorem assigning_of_regs (hregs : t.regs = s.regs) (hflt : t.flt = s.flt) : Assigning n s t :=
  ⟨regsBut_of_regs hregs, hflt, reg_of_regs hregs ..⟩

theorem assigning_setFld {f : Fld} (hf : f.reg ∈ [RegName.LANE_STAT, .LANE_QUAD_STAT]) (i v : Nat) (s : State) : Assigning n s (s.setFld f i v) :=
  ⟨(regsBut_setFld (List.mem_cons_of_mem _ hf) _ _).2 regsBut_refl, rfl,
    reg_setFld_apart _ _ _ _ fun h => absurd (h ▸ hf) (by decide)⟩

theorem assigning_foldl {α : Type} {g : State → α → State} (l : List α) (h : ∀ x ∈ l, ∀ a, Assigning n a (g a x)) (s : State) :
    Assigning n s (l.foldl g s) := by
  induction l generalizing s with
  | nil => exact assigning_refl n s
  | cons x l ih => exact (h x List.mem_cons_self s).trans (ih (fun y hy => h y (List.mem_cons_of_mem _ hy)) _)

theorem assigning_takeLaneCfg {m : Nat} (hm : m ≠ n) (v : Word) (s : State) : Assigning n s (takeLaneCfg v m s) :=
  ⟨(regsBut_setReg (by decide) _ _).2 regsBut_refl, rfl, reg_setReg_ne _ _ fun _ => Ne.symm hm⟩

theorem assigning_reassignRx (m : Nat) (s : State) : Assigning n s (reassignRx m s) := by
  refine ⟨?_, setFlds_flt .., ?_⟩
  · exact regsBut_trans ((regsBut_setFlds _ _ (by simp)).2 regsBut_refl) (regsBut_of_regs rfl)
  · exact (reg_of_regs rfl _ _).trans (reg_setFlds_apart _ _ _ (by simp) s)

theorem fam_reg (k : Nat) : (if k = 0 then F.LANE_QUAD_STAT_FAM0 else F.LANE_QUAD_STAT_FAM1).reg ∈ [RegName.LANE_STAT, .LANE_QUAD_STAT] := by
  split <;> decide

theorem assigning_stopPll (q k : Nat) (s : State) : Assigning n s (stopPll q k s) := by
  simp only [stopPll]
  split
  · exact assigning_refl n s
  · exact (assigning_setFld (fam_reg k) q 0 s).trans (assigning_of_regs rfl rfl)

theorem assigning_detachTx (m : Nat) (s : State) : Assigning n s (detachTx m s) := by
  have left : Assigning n s (s.setFld F.LANE_STAT_TX_PLL m 3) := assigning_setFld (by decide) _ _ s
  simp only [detachTx]
  split
  · exact left.trans (assigning_stopPll ..)
  · exact left

theorem assigning_attachTx {m rate : Nat} (h : attachTx m rate s = some t) : Assigning n s t := by
  simp only [attachTx] at h
  split at h
  · exact absurd h (by simp)
  · next k _ =>
    obtain rfl := Option.some.inj h
    refine Assigning.trans ?_ (assigning_setFld (by decide) _ _ _)
    split
    · exact (assigning_setFld (fam_reg k) _ _ s).trans (assigning_of_regs rfl rfl)
    · exact assigning_refl n s

theorem assigning_attachAll {rate : Nat} {l : List Nat} (h : attachAll rate l s = some t) : Assigning n s t := by
  induction l generalizing s with
  | nil =>
    obtain rfl := Option.some.inj h
    exact assigning_refl n s
  | cons m l ih =>
    rw [attachAll, Option.bind_eq_some_iff] at h
    obtain ⟨u, hu, ht⟩ := h
    exact (assigning_attachTx hu).trans (ih ht)

theorem mem_groupLanes_self (n g : Nat) : n ∈ groupLanes n g := by
  unfold groupLanes
  split <;> simp

/-- An assignment that acts has written the lane's word; the rest is the other lanes' and the PLLs' (R87). -/
theorem assignLane_assigning (h : assignLane n v s = some t) : Assigning n (plainWrite .LANE_CFG n v s) t := by
  have members (g g' : Nat) (w : Word) (a : State) : Assigning n a
      (((groupLanes n g).filter (fun k => !(groupLanes n g').contains k)).foldl (fun t k => takeLaneCfg w k t) a) := by
    refine assigning_foldl _ (fun m hm => assigning_takeLaneCfg ?_ w) a
    rintro rfl
    simp [mem_groupLanes_self] at hm
  have others (g : Nat) (w : Word) (a : State) : Assigning n a
      (((groupLanes n g).filter (· != n)).foldl (fun t k => takeLaneCfg w k t) a) := by
    refine assigning_foldl _ (fun m hm => assigning_takeLaneCfg ?_ w) a
    simp only [List.mem_filter, bne_iff_ne] at hm
    exact hm.2
  have rx (c : Bool) (l : List Nat) (a : State) : Assigning n a (if c then l.foldl (fun t k => reassignRx k t) a else a) := by
    split
    · exact assigning_foldl l (fun m _ => assigning_reassignRx m) a
    · exact assigning_refl n a
  simp only [assignLane] at h
  have moved := (members (s.fld F.LANE_CFG_GROUP n) (F.LANE_CFG_GROUP.of v) 0 (plainWrite .LANE_CFG n v s)).trans
    ((others (F.LANE_CFG_GROUP.of v) v _).trans (rx (laneChanges n v true s)
      (groupLanes n (s.fld F.LANE_CFG_GROUP n) ++ groupLanes n (F.LANE_CFG_GROUP.of v)).eraseDups _))
  split at h
  · obtain rfl := Option.some.inj h
    exact moved
  · have detached := moved.trans (assigning_foldl (groupLanes n (s.fld F.LANE_CFG_GROUP n) ++ groupLanes n (F.LANE_CFG_GROUP.of v)).eraseDups
      (fun m _ => assigning_detachTx m) _)
    split at h
    · obtain rfl := Option.some.inj h
      exact detached
    · exact detached.trans (assigning_attachAll h)

theorem writeLaneCfg_assigns (hbase : s.groupBase n = n) (hbad : laneCfgBad n v s = false) (h : assignLane n v s = some t) :
    writeLaneCfg n v s = t := by
  rw [writeLaneCfg, if_neg (by simp [hbase]), if_neg (by simp [hbad]), h]

theorem writeLaneCfg_refused (hbase : s.groupBase n = n) (h : laneCfgBad n v s = true ∨ (assignLane n v s).isSome = false) :
    writeLaneCfg n v s = s.reject .LANE := by
  rw [writeLaneCfg, if_neg (by simp [hbase])]
  rcases h with h | h
  · rw [if_pos h]
  · split
    · rfl
    · rw [Option.isSome_eq_false_iff, Option.isNone_iff_eq_none] at h
      rw [h]

theorem writeLaneCfg_member (hbase : s.groupBase n ≠ n) : writeLaneCfg n v s =
    if (v ^^^ s.reg .LANE_CFG n) &&& laneGroupMask = 0 then plainWrite .LANE_CFG n v s else s.reject .LANE := if_pos hbase

end

/-! ### Transmit PLLs (R89, R91) -/

section
variable {q k : Nat} {s : State}

theorem quadOf_setQuad (s : State) (q : Nat) (x : QuadState) : (s.setQuad q x).quadOf q = x := AMap.get_set_same ..

theorem phase_setPhase (x : QuadState) (k : Nat) (p : PllPhase) : (x.setPhase k p).phase k = p := by
  rcases k with _ | _ | k <;> rfl

theorem spare_setPhase (x : QuadState) (hk : k < 2) (p : PllPhase) : (x.setPhase k p).spare = x.spare := by
  rcases k with _ | _ | k
  · rfl
  · rfl
  · omega

theorem phase_with_spare (x : QuadState) (hk : k < 2) (p : PllPhase) : QuadState.phase { x with spare := p } k = x.phase k := by
  rcases k with _ | _ | k
  · rfl
  · rfl
  · omega

theorem phase_with_restarts (x : QuadState) (r : Nat) : QuadState.phase { x with restarts := r } k = x.phase k := by
  rcases k with _ | _ | k <;> rfl

/-- A PLL that loses lock, before the spare is looked for. -/
def pllLostAt (q k : Nat) (s : State) : State :=
  let s2 := (s.pllLanes q k).foldl (fun t n => t.setFlag F.LANE_STAT_PLL_LOST_S n true) (s.setQuad q ((s.quadOf q).setPhase k .lost))
  ({ s2 with esc := { s2.esc with pll := (198 + 3 * q + k) :: s2.esc.pll.filter (· != 198 + 3 * q + k) } }).raise Src.LANE_PLL_LOST

theorem pllLoses_locked (h : (s.quadOf q).phase k = .locked) : pllLoses q k s =
    if k < 2 ∧ (pllLostAt q k s).sparePllReady q then
      (pllLostAt q k s).setQuad q { (pllLostAt q k s).quadOf q with spare := .starting }
    else pllLostAt q k s := by
  rw [pllLoses, if_pos h]
  rfl

theorem pllLostAt_facts (q k : Nat) (s : State) : (pllLostAt q k s).quadOf q = (s.quadOf q).setPhase k .lost
    ∧ (∀ n ∈ s.pllLanes q k, (pllLostAt q k s).flag F.LANE_STAT_PLL_LOST_S n = true)
    ∧ (pllLostAt q k s).isSet Src.LANE_PLL_LOST = true ∧ regsBut [.LANE_STAT] s (pllLostAt q k s) := by
  have quad (l : List Nat) (t : State) : (l.foldl (fun t n => t.setFlag F.LANE_STAT_PLL_LOST_S n true) t).quad = t.quad :=
    foldl_keeps State.quad (fun t n => (rfl : (t.setFlag F.LANE_STAT_PLL_LOST_S n true).quad = t.quad)) l t
  refine ⟨?_, fun n hn => ?_, isSet_raise_same _ (by decide), ?_⟩
  · rw [State.quadOf, pllLostAt, raise_quad]
    exact (congrArg (fun m : AMap QuadState => m.get .reset q) (quad _ _)).trans (quadOf_setQuad ..)
  · rw [pllLostAt, flag_raise, State.flag]
    change (State.fld (List.foldl (fun t m => t.setFld F.LANE_STAT_PLL_LOST_S m 1) _ _) _ _ != 0) = true
    rw [fld_foldl_setFld (by decide) (by decide) hn]
    rfl
  · rw [pllLostAt, regsBut_raise]
    refine regsBut_trans (t := s.setQuad q ((s.quadOf q).setPhase k .lost)) (regsBut_of_regs rfl) ?_
    exact regsBut_trans (regsBut_foldl (fun t m => (regsBut_setFlag (f := F.LANE_STAT_PLL_LOST_S) (by decide) m true).2 regsBut_refl) _ _) (regsBut_of_regs rfl)

theorem sparePllReady_pllLostAt (hk : k < 2) (s : State) : (pllLostAt q k s).sparePllReady q = s.sparePllReady q := by
  obtain ⟨quad, -, -, frame⟩ := pllLostAt_facts q k s
  simp only [State.sparePllReady, quad, spare_setPhase _ hk, frame.fld (f := F.LANE_QUAD_STAT_SPARE) (by decide),
    frame.fld (f := F.VAULT_LG_HRS_STATE) (by decide), frame.fld (f := F.VAULT_LG_BIST_VERDICT) (by decide)]

theorem pllLoses_facts (h : (s.quadOf q).phase k = .locked) : ((pllLoses q k s).quadOf q).phase k = .lost
    ∧ (pllLoses q k s).isSet Src.LANE_PLL_LOST = true
    ∧ (∀ n ∈ s.pllLanes q k, (pllLoses q k s).flag F.LANE_STAT_PLL_LOST_S n = true)
    ∧ (k < 2 → s.sparePllReady q = true → ((pllLoses q k s).quadOf q).spare = .starting)
    ∧ regsBut [.LANE_STAT] s (pllLoses q k s) := by
  obtain ⟨quad, lanes, set, frame⟩ := pllLostAt_facts q k s
  rw [pllLoses_locked h]
  split
  · next hc =>
    refine ⟨?_, set, lanes, fun _ _ => ?_, frame⟩
    · rw [quadOf_setQuad, phase_with_spare _ hc.1, quad, phase_setPhase]
    · rw [quadOf_setQuad]
  · next hc =>
    refine ⟨?_, set, lanes, fun hk hready => ?_, frame⟩
    · rw [quad, phase_setPhase]
    · exact absurd ⟨hk, (sparePllReady_pllLostAt hk s).trans hready⟩ hc

theorem pllSwaps_lost (h : (s.quadOf q).spare = .starting) (hlost : (s.quadOf q).pll0 = .lost ∨ (s.quadOf q).pll1 = .lost) :
    pllSwaps q s = (moveToSpare q (if (s.quadOf q).pll0 = .lost then 0 else 1) s).raise Src.LANE_PLL_SWAP := by
  rw [pllSwaps, if_pos h]
  split
  · rfl
  · next h0 => rw [if_pos (hlost.resolve_left h0)]

theorem moveToSpare_facts (hk : k < 2) (q : Nat) (s : State) : (moveToSpare q k s).fld F.LANE_QUAD_STAT_SPARE q = k + 1
    ∧ ∀ n ∈ s.pllLanes q k, (moveToSpare q k s).fld F.LANE_STAT_TX_PLL n = 2 := by
  generalize hu : (s.pllLanes q k).foldl (fun t n => t.setFld F.LANE_STAT_TX_PLL n 2) s = u
  have regs : (moveToSpare q k s).regs = ((u.setFld F.LANE_QUAD_STAT_SPARE q (k + 1)).setFld F.VAULT_LG_HRS_STATE (198 + 3 * q + 2) 0).regs := by
    rw [← hu]
    rfl
  refine ⟨?_, fun n hn => ?_⟩
  · rw [fld_of_regs regs, fld_setFld_apart _ (by decide) (by decide), fld_setFld_same _ (by decide)]
    exact Nat.mod_eq_of_lt (show k + 1 < 4 by omega)
  · rw [fld_of_regs regs, fld_setFld_apart _ (by decide) (by decide), fld_setFld_apart _ (by decide) (by decide), ← hu]
    exact fld_foldl_setFld (by decide) (by decide) hn s

/-- The swap to the spare, which parks the lost PLL (R91, R456). -/
theorem pllSwap_swaps (h : (s.quadOf q).spare = .starting) (hlost : (s.quadOf q).pll0 = .lost ∨ (s.quadOf q).pll1 = .lost) :
    ∃ k, k = (if (s.quadOf q).pll0 = .lost then 0 else 1) ∧
      (let t := pllSwaps q s
       let j := t.fld F.LANE_QUAD_STAT_SPARE q
       if (s.quadOf q).spare = .starting ∧ (j = 1 ∨ j = 2) then parkUnit (198 + 3 * q + (j - 1)) t else t)
        = parkUnit (198 + 3 * q + k) (pllSwaps q s)
      ∧ (parkUnit (198 + 3 * q + k) (pllSwaps q s)).fld F.LANE_QUAD_STAT_SPARE q = k + 1
      ∧ (∀ n ∈ s.pllLanes q k, (parkUnit (198 + 3 * q + k) (pllSwaps q s)).fld F.LANE_STAT_TX_PLL n = 2)
      ∧ (parkUnit (198 + 3 * q + k) (pllSwaps q s)).isSet Src.LANE_PLL_SWAP = true := by
  generalize hk : (if (s.quadOf q).pll0 = .lost then 0 else 1 : Nat) = k
  have hk2 : k < 2 := by
    rw [← hk]
    split <;> decide
  have swaps := pllSwaps_lost h hlost
  rw [hk] at swaps
  obtain ⟨spare, lanes⟩ := moveToSpare_facts hk2 q s
  have spare' : (pllSwaps q s).fld F.LANE_QUAD_STAT_SPARE q = k + 1 := by rw [swaps, fld_raise, spare]
  have parked := regsBut_parkUnit (rs := .PWR_CAP_HOLD_CNT :: unitRegs) (List.Subset.refl _) (198 + 3 * q + k) (pllSwaps q s)
  refine ⟨k, rfl, ?_, (parked.fld (by decide) _).trans spare', fun n hn => ?_, (keepsSet_parkUnit _ _).isSet _ ?_⟩
  · simp only [spare', Nat.add_sub_cancel]
    exact if_pos ⟨h, by omega⟩
  · rw [parked.fld (by decide), swaps, fld_raise, lanes n hn]
  · rw [swaps]
    exact isSet_raise_same _ (by decide)

end

/-! ### Receivers (R92, R93, R95) -/

section
variable {n rate h v : Nat} {w : Word} {s : State}

theorem rxOf_setRx (s : State) (n : Nat) (x : LaneRx) : (s.setRx n x).rxOf n = x := AMap.get_set_same ..

theorem rxOf_of_laneRx {t : State} (h : t.laneRx = s.laneRx) (n : Nat) : t.rxOf n = s.rxOf n := by rw [State.rxOf, h, State.rxOf]

/-- The lock and the rate shown when the CDR locks. -/
def cdrShown (n rate : Nat) (s : State) : State :=
  s.setFlds n [(F.LANE_STAT_CDR_LOCK, 1), (F.LANE_STAT_RATE_DET, if s.fld F.LANE_CFG_RX_PROTO n = 1 then rate else 0xF)]

theorem cdrShown_facts (hr : rate < 16) (n : Nat) (s : State) : (cdrShown n rate s).flag F.LANE_STAT_CDR_LOCK n = true
    ∧ (cdrShown n rate s).fld F.LANE_STAT_RATE_DET n = (if s.fld F.LANE_CFG_RX_PROTO n = 1 then rate else 15)
    ∧ regsButAt [.LANE_STAT] n s (cdrShown n rate s) ∧ (cdrShown n rate s).flt = s.flt := by
  refine ⟨?_, ?_, (regsButAt_setFlds _ (by simp)).2 regsButAt_refl, setFlds_flt ..⟩
  · simp (disch := decide) only [cdrShown, State.setFlds, State.flag, fld_setFld_apart, fld_setFld_same]
    rfl
  · simp (disch := decide) only [cdrShown, State.setFlds, fld_setFld_same]
    exact Nat.mod_eq_of_lt (by split <;> omega)

theorem cdrLocks_locks (hmay : s.cdrMayLock n rate = true) (hunlocked : s.flag F.LANE_STAT_CDR_LOCK n = false) :
    cdrLocks n rate s = if s.fld F.LANE_RXEQ_ADAPT n = 0 ∧ (s.rxOf n).fresh then
      ((cdrShown n rate s).setFlag F.LANE_STAT_ADAPT_DONE n false).setRx n ⟨false, true, false⟩
    else cdrShown n rate s := if_pos ⟨hmay, by simp [hunlocked]⟩

theorem cdrLocks_facts (hr : rate < 16) (hmay : s.cdrMayLock n rate = true) (hunlocked : s.flag F.LANE_STAT_CDR_LOCK n = false) :
    (cdrLocks n rate s).flag F.LANE_STAT_CDR_LOCK n = true
      ∧ (cdrLocks n rate s).fld F.LANE_STAT_RATE_DET n = (if s.fld F.LANE_CFG_RX_PROTO n = 1 then rate else 15)
      ∧ (s.fld F.LANE_RXEQ_ADAPT n = 0 → (s.rxOf n).fresh = true → ((cdrLocks n rate s).rxOf n).adapting = true)
      ∧ regsButAt [.LANE_STAT] n s (cdrLocks n rate s) ∧ (cdrLocks n rate s).flt = s.flt := by
  obtain ⟨lock, det, frame, flt⟩ := cdrShown_facts hr n s
  rw [cdrLocks_locks hmay hunlocked]
  split
  · have regs : (((cdrShown n rate s).setFlag F.LANE_STAT_ADAPT_DONE n false).setRx n ⟨false, true, false⟩).regs =
        ((cdrShown n rate s).setFlag F.LANE_STAT_ADAPT_DONE n false).regs := rfl
    refine ⟨?_, ?_, fun _ _ => by rw [rxOf_setRx], ?_, flt⟩
    · rw [flag_of_regs regs, flag_setFlag_apart _ (by decide) (by decide), lock]
    · rw [fld_of_regs regs, fld_setFlag_apart _ (by decide) (by decide), det]
    · exact regsButAt_trans ((regsButAt_setFlag (by decide) _).2 frame) (regsButAt_of_regs regs)
  · next hc => exact ⟨lock, det, fun hz hf => absurd ⟨hz, hf⟩ hc, frame, flt⟩

/-- A full adaptation that ends. -/
theorem adaptFinishes_facts (hon : (s.rxOf n).adapting = true) : (adaptFinishes n s).flag F.LANE_STAT_ADAPT_DONE n = true
    ∧ ((adaptFinishes n s).rxOf n).adapting = false ∧ regsButAt [.LANE_STAT, .LANE_RXEQ] n s (adaptFinishes n s)
    ∧ (adaptFinishes n s).flt = s.flt := by
  have eq : adaptFinishes n s = (s.freeNat.2.setFlds n [(F.LANE_STAT_ADAPT_DONE, 1), (F.LANE_RXEQ_CTLE, s.freeNat.1)]).setRx n
    ⟨(s.rxOf n).fresh, false, false⟩ := if_pos hon
  rw [eq]
  refine ⟨?_, by rw [rxOf_setRx], ?_, setFlds_flt ..⟩
  · refine (flag_of_regs (s := s.freeNat.2.setFlds n [(F.LANE_STAT_ADAPT_DONE, 1), (F.LANE_RXEQ_CTLE, s.freeNat.1)]) rfl _ _).trans ?_
    simp (disch := decide) only [State.setFlds, State.flag, fld_setFld_apart, fld_setFld_same]
    rfl
  · refine regsButAt_trans ?_ (regsButAt_of_regs rfl)
    exact (regsButAt_setFlds _ (by simp)).2 (regsButAt_of_regs rfl)

/-- A write of LANE_RXEQ with ADAPT = 2 on a receiver in lock. -/
theorem writeRxEq_restarts (h2 : F.LANE_RXEQ_ADAPT.of w = 2) (hlock : s.flag F.LANE_STAT_CDR_LOCK n = true) : writeRxEq n w s =
    (((plainWrite .LANE_RXEQ n w s).setFld F.LANE_RXEQ_ADAPT n 0).setFlag F.LANE_STAT_ADAPT_DONE n false).setRx n ⟨false, true, false⟩ := by
  have lock : (((plainWrite .LANE_RXEQ n w s).setFld F.LANE_RXEQ_ADAPT n 0).setFlag F.LANE_STAT_ADAPT_DONE n false).flag F.LANE_STAT_CDR_LOCK n
      = true := by
    rw [flag_setFlag_apart _ (by decide) (by decide), State.flag, fld_setFld_apart _ (by decide) (by decide),
      fld_plainWrite_apart rfl (by decide)]
    exact hlock
  rw [writeRxEq]
  simp only [h2, lock]
  rfl

theorem of_adaptRestart (v : Word) : F.LANE_RXEQ_ADAPT.of ((v &&& ~~~ 3#32) ||| 2#32) = 2
    ∧ F.LANE_RXEQ_SQ_LEVEL.of ((v &&& ~~~ 3#32) ||| 2#32) = F.LANE_RXEQ_SQ_LEVEL.of v := by
  refine ⟨?_, ?_⟩
  · refine (Fld.of_congr (f := F.LANE_RXEQ_ADAPT) (w := (v &&& ~~~ 3#32) ||| 2#32) (x := 2#32) fun k hk => ?_).trans rfl
    obtain rfl | rfl : k = 0 ∨ k = 1 := by
      change k < 2 at hk
      omega
    all_goals simp
  · rw [Fld.of_or_apart (by decide)]
    refine Fld.of_congr fun k hk => ?_
    change k < 4 at hk
    obtain rfl | rfl | rfl | rfl : k = 0 ∨ k = 1 ∨ k = 2 ∨ k = 3 := by omega
    all_goals simp

/-- The margins that a measurement shows, with their minima. -/
def eyeShown (n h v : Nat) (s : State) : State :=
  s.setFlds n [(F.LANE_EYE_EYE_H, h), (F.LANE_EYE_EYE_V, v), (F.LANE_EYE_H_MIN, min (s.fld F.LANE_EYE_H_MIN n) h),
    (F.LANE_EYE_V_MIN, min (s.fld F.LANE_EYE_V_MIN n) v)]

theorem eyeMeasured_locked (hlock : s.flag F.LANE_STAT_CDR_LOCK n = true) : eyeMeasured n h v s =
    if h < s.fld F.LANE_EYE_CFG_WARN_H 0 ∨ v < s.fld F.LANE_EYE_CFG_WARN_V 0 then
      ((noteEyeLedger n h v (eyeShown n h v s)).setFlag F.LANE_STAT_EYE_LOW_S n true).raise Src.LANE_EYE_LOW
    else noteEyeLedger n h v (eyeShown n h v s) := if_pos hlock

theorem noteEyeLedger_frame (n h v : Nat) (s : State) : regsBut [.VAULT_LG_VMIN, .VAULT_LG_HRS] s (noteEyeLedger n h v s) := by
  simp only [noteEyeLedger]
  split
  · rw [regsBut_raise, regsBut_setFlag (by decide), regsBut_setReg (by decide)]
    exact regsBut_refl
  · rw [regsBut_setReg (by decide)]
    exact regsBut_refl

theorem eyeShown_facts (hh : h < 256) (hv : v < 256) (n : Nat) (s : State) : (eyeShown n h v s).fld F.LANE_EYE_EYE_H n = h
    ∧ (eyeShown n h v s).fld F.LANE_EYE_EYE_V n = v
    ∧ (eyeShown n h v s).fld F.LANE_EYE_H_MIN n = min (s.fld F.LANE_EYE_H_MIN n) h
    ∧ (eyeShown n h v s).fld F.LANE_EYE_V_MIN n = min (s.fld F.LANE_EYE_V_MIN n) v
    ∧ regsBut [.LANE_EYE] s (eyeShown n h v s) := by
  refine ⟨?_, ?_, ?_, ?_, (regsBut_setFlds _ _ (by simp)).2 regsBut_refl⟩
  · simp (disch := decide) only [eyeShown, State.setFlds, fld_setFld_apart, fld_setFld_same]
    exact Nat.mod_eq_of_lt hh
  · simp (disch := decide) only [eyeShown, State.setFlds, fld_setFld_apart, fld_setFld_same]
    exact Nat.mod_eq_of_lt hv
  · simp (disch := decide) only [eyeShown, State.setFlds, fld_setFld_apart, fld_setFld_same]
    exact Nat.mod_eq_of_lt (Nat.lt_of_le_of_lt (Nat.min_le_right ..) hh)
  · simp (disch := decide) only [eyeShown, State.setFlds, fld_setFld_same]
    exact Nat.mod_eq_of_lt (Nat.lt_of_le_of_lt (Nat.min_le_right ..) hv)

/-- An eye measurement of a receiver in lock (R93). -/
theorem eyeMeasured_facts (hh : h < 256) (hv : v < 256) (hlock : s.flag F.LANE_STAT_CDR_LOCK n = true) :
    (eyeMeasured n h v s).fld F.LANE_EYE_EYE_H n = h ∧ (eyeMeasured n h v s).fld F.LANE_EYE_EYE_V n = v
      ∧ (eyeMeasured n h v s).fld F.LANE_EYE_H_MIN n = min (s.fld F.LANE_EYE_H_MIN n) h
      ∧ (eyeMeasured n h v s).fld F.LANE_EYE_V_MIN n = min (s.fld F.LANE_EYE_V_MIN n) v
      ∧ ((h < s.fld F.LANE_EYE_CFG_WARN_H 0 ∨ v < s.fld F.LANE_EYE_CFG_WARN_V 0) →
          (eyeMeasured n h v s).isSet Src.LANE_EYE_LOW = true ∧ (eyeMeasured n h v s).flag F.LANE_STAT_EYE_LOW_S n = true)
      ∧ regsBut [.LANE_EYE, .LANE_STAT, .VAULT_LG_VMIN, .VAULT_LG_HRS] s (eyeMeasured n h v s) := by
  obtain ⟨eyeH, eyeV, minH, minV, frame⟩ := eyeShown_facts hh hv n s
  have ledger := noteEyeLedger_frame n h v (eyeShown n h v s)
  have noted : regsBut [.LANE_EYE, .LANE_STAT, .VAULT_LG_VMIN, .VAULT_LG_HRS] s (noteEyeLedger n h v (eyeShown n h v s)) :=
    regsBut_trans (regsBut_mono (by decide) frame) (regsBut_mono (by decide) ledger)
  have kept {f : Fld} (hf : f.reg = .LANE_EYE) : (eyeMeasured n h v s).fld f n = (eyeShown n h v s).fld f n := by
    rw [eyeMeasured_locked hlock]
    split
    · rw [fld_raise, State.setFlag, State.setFld, fld_setReg_apart _ _ _ _ (by rw [hf]; decide), ledger.fld (by rw [hf]; decide)]
    · exact ledger.fld (by rw [hf]; decide) n
  refine ⟨(kept rfl).trans eyeH, (kept rfl).trans eyeV, (kept rfl).trans minH, (kept rfl).trans minV, fun hlow => ?_, ?_⟩
  · rw [eyeMeasured_locked hlock, if_pos hlow, flag_raise]
    exact ⟨isSet_raise_same _ (by decide), flag_setFlag_same _ (by decide) rfl _ true⟩
  · rw [eyeMeasured_locked hlock]
    split
    · rw [regsBut_raise, regsBut_setFlag (by decide)]
      exact noted
    · exact noted

/-- The minima of every lane start anew (R93). -/
theorem writeEyeClr_facts (s : State) :
    (∀ n, n < 128 → (writeEyeClr 1#32 s).fld F.LANE_EYE_H_MIN n = 255 ∧ (writeEyeClr 1#32 s).fld F.LANE_EYE_V_MIN n = 255
        ∧ (writeEyeClr 1#32 s).fld F.LANE_EYE_EYE_H n = s.fld F.LANE_EYE_EYE_H n
        ∧ (writeEyeClr 1#32 s).fld F.LANE_EYE_EYE_V n = s.fld F.LANE_EYE_EYE_V n)
      ∧ regsBut [.LANE_EYE] s (writeEyeClr 1#32 s) ∧ (writeEyeClr 1#32 s).flt = s.flt := by
  have eq : writeEyeClr 1#32 s = (List.range 128).foldl (fun t n => t.setFlds n [(F.LANE_EYE_H_MIN, 0xFF), (F.LANE_EYE_V_MIN, 0xFF)]) s :=
    if_pos rfl
  rw [eq]
  refine ⟨fun n hn => ⟨?_, ?_, ?_, ?_⟩, regsBut_foldl (fun t m => (regsBut_setFlds m _ (by simp)).2 regsBut_refl) _ s,
    foldl_keeps State.flt (fun t m => setFlds_flt m _ t) _ s⟩
  · refine foldl_reaches (P := fun t => t.fld F.LANE_EYE_H_MIN n = 255) (fun t => ?_) (fun t m hm h => ?_) _ s (.inl (by simpa using hn))
    · simp (disch := decide) only [State.setFlds, fld_setFld_apart, fld_setFld_same]
      rfl
    · exact ((regsButAt_setFlds (rs := [.LANE_EYE]) _ (by simp)).2 regsButAt_refl : regsButAt _ m t _).fld (fun _ => Ne.symm hm) |>.trans h
  · refine foldl_reaches (P := fun t => t.fld F.LANE_EYE_V_MIN n = 255) (fun t => ?_) (fun t m hm h => ?_) _ s (.inl (by simpa using hn))
    · simp (disch := decide) only [State.setFlds, fld_setFld_same]
      rfl
    · exact ((regsButAt_setFlds (rs := [.LANE_EYE]) _ (by simp)).2 regsButAt_refl : regsButAt _ m t _).fld (fun _ => Ne.symm hm) |>.trans h
  · refine foldl_keeps (fun t => t.fld F.LANE_EYE_EYE_H n) (fun t m => ?_) _ s
    simp (disch := decide) only [State.setFlds, fld_setFld_apart]
  · refine foldl_keeps (fun t => t.fld F.LANE_EYE_EYE_V n) (fun t m => ?_) _ s
    simp (disch := decide) only [State.setFlds, fld_setFld_apart]

/-- The receiver's status once its signal is lost. -/
def losShown (n : Nat) (s : State) : State :=
  s.setFlds n [(F.LANE_STAT_LOS, 1), (F.LANE_STAT_CDR_LOCK, 0), (F.LANE_STAT_RATE_DET, 0xF), (F.LANE_STAT_LOS_S, 1)]

theorem losSets_loses (h : s.flag F.LANE_STAT_LOS n = false) : losSets n s =
    (((losShown n s).setRx n .reset).bump .LANE_LOS_CNT n).raise Src.LANE_LOS := by
  rw [losSets, if_neg (by simp [h])]
  rfl

theorem losSets_facts (h : s.flag F.LANE_STAT_LOS n = false) : (losSets n s).flag F.LANE_STAT_LOS n = true
    ∧ (losSets n s).flag F.LANE_STAT_CDR_LOCK n = false ∧ (losSets n s).flag F.LANE_STAT_LOS_S n = true
    ∧ (losSets n s).reg .LANE_LOS_CNT n = BitVec.ofNat 32 (min (2 ^ 32 - 1) ((s.reg .LANE_LOS_CNT n).toNat + 1))
    ∧ (losSets n s).isSet Src.LANE_LOS = true ∧ regsButAt [.LANE_STAT, .LANE_LOS_CNT] n s (losSets n s) := by
  have regs : ((losShown n s).setRx n .reset).regs = (losShown n s).regs := rfl
  have shown {f : Fld} (hf : f.reg ≠ .LANE_LOS_CNT) : (losSets n s).flag f n = (losShown n s).flag f n := by
    rw [losSets_loses h, flag_raise, flag_bump_apart _ _ hf, flag_of_regs regs]
  refine ⟨(shown (by decide)).trans ?_, (shown (by decide)).trans ?_, (shown (by decide)).trans ?_, ?_, ?_, ?_⟩
  · simp (disch := decide) only [losShown, State.setFlds, State.flag, fld_setFld_apart, fld_setFld_same]
    rfl
  · simp (disch := decide) only [losShown, State.setFlds, State.flag, fld_setFld_apart, fld_setFld_same]
    rfl
  · simp (disch := decide) only [losShown, State.setFlds, State.flag, fld_setFld_same]
    rfl
  · rw [losSets_loses h, reg_raise, State.bump, reg_bumpN_same, reg_of_regs regs, losShown, reg_setFlds_apart _ _ _ (by simp)]
  · rw [losSets_loses h]
    exact isSet_raise_same _ (by decide)
  · rw [losSets_loses h, regsButAt_raise, regsButAt_bump_iff (by decide)]
    exact regsButAt_trans ((regsButAt_setFlds _ (by simp)).2 regsButAt_refl) (regsButAt_of_regs regs)

theorem cdrLoses_facts (hlock : s.flag F.LANE_STAT_CDR_LOCK n = true) (hlos : s.flag F.LANE_STAT_LOS n = false) :
    (cdrLoses n s).flag F.LANE_STAT_CDR_LOCK n = false ∧ (cdrLoses n s).flag F.LANE_STAT_UNLOCK_S n = true
      ∧ (cdrLoses n s).fld F.LANE_STAT_RATE_DET n = 15 ∧ (cdrLoses n s).isSet Src.LANE_CDR_UNLOCK = true
      ∧ regsButAt [.LANE_STAT] n s (cdrLoses n s) ∧ onlyRegs s (cdrLoses n s) := by
  have eq : cdrLoses n s = (s.setFlds n [(F.LANE_STAT_CDR_LOCK, 0), (F.LANE_STAT_RATE_DET, 0xF), (F.LANE_STAT_UNLOCK_S, 1)]).raise
    Src.LANE_CDR_UNLOCK := if_pos ⟨hlock, by simp [hlos]⟩
  rw [eq]
  refine ⟨?_, ?_, ?_, isSet_raise_same _ (by decide), ?_, ?_⟩
  · simp (disch := decide) only [fld_raise, State.setFlds, State.flag, fld_setFld_apart, fld_setFld_same]
    rfl
  · simp (disch := decide) only [fld_raise, State.setFlds, State.flag, fld_setFld_same]
    rfl
  · simp (disch := decide) only [fld_raise, State.setFlds, fld_setFld_apart, fld_setFld_same]
    rfl
  · rw [regsButAt_raise]
    exact (regsButAt_setFlds _ (by simp)).2 regsButAt_refl
  · rw [onlyRegs_raise_iff]
    exact (onlyRegs_setFlds_iff ..).2 onlyRegs_refl

end

/-- Settles O17: assignments by their frame (`assignLane_assigning`), PLL and receiver events each by the lemma of its operation. -/
theorem lanesPllsAndReceivers : Obligations.LanesPllsAndReceivers := by
  refine ⟨fun n v s hbase hbad hsome => ?_, fun n v s hbase hbad => ?_, fun n v s hbase => ?_, fun q k s hstart hserves => ?_,
    fun q k s hlocked => ?_, fun q s hspare hlost => ?_, fun q k s hlost hspare hup => ?_, fun n rate s hmay hunlocked => ?_,
    fun n s hon => ?_, fun n s hon => ?_, fun n v s hlock => ?_, fun n h v s hlock => ?_, fun s => ?_, fun n s hlos => ?_,
    fun n s hlock => ?_, fun n s hlock hlos => ?_⟩
  · obtain ⟨t, ht⟩ := Option.isSome_iff_exists.1 hsome
    have still : Machine.still s (writeLaneCfg n v s) := ⟨by simp, by simp⟩
    rw [writeLaneCfg_assigns hbase hbad ht] at still
    obtain ⟨frame, flt, own⟩ := assignLane_assigning ht
    have fields {f : Fld} (hreg : f.reg = .LANE_CFG) (hw : f.takesWrite = true) : t.fld f n = f.of v := by
      rw [fld_eq, hreg, own, ← hreg, ← fld_eq, fld_plainWrite (f := f) (by rw [hreg]; rfl) hw]
    exact ⟨t, congrArg Host.Outcome.next (writeLaneCfg_assigns hbase hbad ht), fields rfl (by decide), fields rfl (by decide),
      fields rfl (by decide), fields rfl (by decide), fields rfl (by decide),
      regsBut_trans ((regsBut_plainWrite rfl (by decide) _ _).2 regsBut_refl) frame, flt.trans (plainWrite_flt ..), still⟩
  · exact ⟨_, congrArg Host.Outcome.next (writeLaneCfg_refused hbase hbad), reject_regs .., isSet_reject .., reject_quad .., by simp, by simp⟩
  · have still : Machine.still s (writeLaneCfg n v s) := ⟨by simp, by simp⟩
    rw [writeLaneCfg_member hbase] at still
    refine ⟨_, congrArg Host.Outcome.next (writeLaneCfg_member hbase), ?_, still, ?_⟩
    · split
      · rw [plainWrite_eq]
      · exact reject_quad ..
    · split
      · exact ⟨fld_plainWrite (f := F.LANE_CFG_RX_INV) rfl (by decide) _ _ _, fld_plainWrite (f := F.LANE_CFG_TX_INV) rfl (by decide) _ _ _,
          fld_plainWrite (f := F.LANE_CFG_TX_IDLE) rfl (by decide) _ _ _, (regsButAt_plainWrite rfl (by decide) _ _).2 regsButAt_refl,
          plainWrite_flt ..⟩
      · exact ⟨reject_regs .., isSet_reject ..⟩
  · refine ⟨_, congrArg Host.Outcome.next (if_pos ⟨hstart, hserves⟩), ?_, rfl, rfl, rfl, rfl⟩
    rw [quadOf_setQuad, phase_with_restarts, phase_setPhase]
  · obtain ⟨lost, set, lanes, spare, frame⟩ := pllLoses_facts hlocked
    exact ⟨_, rfl, lost, set, lanes, spare, frame, by simp, by simp⟩
  · obtain ⟨k, hk, eq, spare, lanes, set⟩ := pllSwap_swaps hspare hlost
    exact ⟨_, k, congrArg Host.Outcome.next eq, hk, spare, lanes, set, by simp, by simp⟩
  · refine ⟨_, congrArg Host.Outcome.next (if_pos ⟨hlost, hspare, hup⟩), ?_, rfl, rfl, rfl, rfl⟩
    rw [quadOf_setQuad, phase_setPhase]
  · obtain ⟨lock, det, adapt, frame, flt⟩ := cdrLocks_facts rate.isLt hmay hunlocked
    exact ⟨_, _, rfl, rfl, lock, det, adapt, frame, flt, by simp, by simp⟩
  · obtain ⟨done, ended, frame, flt⟩ := adaptFinishes_facts hon
    exact ⟨_, _, rfl, rfl, done, ended, frame, flt, by simp, by simp⟩
  · refine ⟨_, congrArg Host.Outcome.next (if_pos hon), isSet_raise_same _ (by decide), ?_, ?_, by simp, by simp⟩
    · rw [rxOf_of_laneRx (raise_laneRx ..), rxOf_setRx]
      exact hon
    · rw [raise_regs]
      rfl
  · obtain ⟨adapt, level⟩ := of_adaptRestart v
    have still : Machine.still s (writeRxEq n ((v &&& ~~~ 3#32) ||| 2#32) s) := ⟨by simp, by simp⟩
    rw [writeRxEq_restarts adapt hlock] at still
    refine ⟨_, congrArg Host.Outcome.next (writeRxEq_restarts adapt hlock), ?_, ?_, by rw [rxOf_setRx], ?_, ?_, plainWrite_flt .., still⟩
    · refine (fld_of_regs rfl _ _).trans ((fld_setFlag_apart _ (by decide) (by decide) _ _ _).trans ?_)
      rw [fld_setFld_same _ (by decide)]
      rfl
    · refine (fld_of_regs rfl _ _).trans ((fld_setFlag_apart _ (by decide) (by decide) _ _ _).trans ?_)
      rw [fld_setFld_apart _ (by decide) (by decide), fld_plainWrite (f := F.LANE_RXEQ_SQ_LEVEL) rfl (by decide), level]
    · exact (flag_of_regs rfl _ _).trans (flag_setFlag_same _ (by decide) rfl _ false)
    · refine regsButAt_trans (t := ((plainWrite .LANE_RXEQ n ((v &&& ~~~ 3#32) ||| 2#32) s).setFld F.LANE_RXEQ_ADAPT n 0).setFlag
        F.LANE_STAT_ADAPT_DONE n false) ?_ (regsButAt_of_regs rfl)
      rw [regsButAt_setFlag (by decide), regsButAt_setFld (by decide)]
      exact (regsButAt_plainWrite rfl (by decide) _ _).2 regsButAt_refl
  · obtain ⟨eyeH, eyeV, minH, minV, low, frame⟩ := eyeMeasured_facts h.isLt v.isLt hlock
    exact ⟨_, rfl, eyeH, eyeV, minH, minV, low, frame, by simp, by simp⟩
  · obtain ⟨minima, frame, flt⟩ := writeEyeClr_facts s
    exact ⟨_, rfl, minima, frame, flt, by simp, by simp⟩
  · obtain ⟨los, lock, sticky, count, set, frame⟩ := losSets_facts hlos
    exact ⟨_, _, rfl, rfl, los, lock, sticky, count, set, frame, by simp, by simp⟩
  · have eq : losClears n s = s.setFlag F.LANE_STAT_LOS n false := if_pos hlock
    have still : Machine.still s (laneFollow n (losClears n s)) := ⟨by simp, by simp⟩
    rw [eq] at still
    exact ⟨_, _, congrArg (fun u => Host.Outcome.next (laneFollow n u)) eq, rfl, flag_setFlag_same _ (by decide) rfl _ false,
      (regsButAt_setFlag (by decide) _).2 regsButAt_refl, rfl, still⟩
  · obtain ⟨lock, sticky, det, set, frame, only⟩ := cdrLoses_facts hlock hlos
    exact ⟨_, rfl, lock, sticky, det, set, frame, only, by simp, by simp⟩

end Sys2Proof.Machine
end

section
/-!
PROOFS. The Uhlat link (chapter 04): its control messages, its bring-up and its loss.
-/

namespace Sys2Proof.Machine

section
variable {l : Nat} {v : Word} {rs : List RegName} {s t : State}

/-! ### Links -/

theorem link_setLink (s : State) (l : Nat) (x : UlLink) : (s.setLink l x).link l = x := AMap.get_set_same ..

theorem link_of_ul (h : t.ul = s.ul) (l : Nat) : t.link l = s.link l := by rw [State.link, h, State.link]

theorem linkState_of_regs (h : t.regs = s.regs) (l : Nat) : t.linkState l = s.linkState l := fld_of_regs h ..

theorem linkState_of_linkUp (h : s.linkUp l = true) : s.linkState l = 5 := by simpa [State.linkUp] using h

/-! ### Markers (R104) -/

/-- A marker that is taken, before MARK_OK is judged. -/
def marked (l : Nat) (m : MarkerMsg) (s : State) : State :=
  ((s.setLink l { s.link l with fLocal := some (s.etFull - (s.fld F.ULINK_HOP_NS_HOP l : Nat) + etDiff m.fEt.toNat m.txEt.toNat),
                                marks := (s.link l).marks + 1, markRate := m.rate.toNat }).setFld F.ULINK_STAT_RX_QL l (m.ql.toNat % 16)).bump
    .ULINK_MARK_CNT l

theorem markerIn_up (h : s.linkUp l = true) (m : MarkerMsg) : markerIn l m s =
    if 2 ≤ (s.link l).marks + 1 then (marked l m s).setFlag F.ULINK_STAT_MARK_OK l true else marked l m s := by
  rw [markerIn, if_neg (by simp [h])]
  rfl

theorem marked_facts (l : Nat) (m : MarkerMsg) (s : State) :
    ((marked l m s).link l).fLocal = some (s.etFull - (s.fld F.ULINK_HOP_NS_HOP l : Nat) + etDiff m.fEt.toNat m.txEt.toNat)
      ∧ (marked l m s).fld F.ULINK_STAT_RX_QL l = m.ql.toNat % 16
      ∧ (marked l m s).reg .ULINK_MARK_CNT l = BitVec.ofNat 32 (min (2 ^ 32 - 1) ((s.reg .ULINK_MARK_CNT l).toNat + 1))
      ∧ regsButAt [.ULINK_STAT, .ULINK_MARK_CNT] l s (marked l m s) ∧ (marked l m s).flt = s.flt := by
  refine ⟨?_, ?_, ?_, ?_, ?_⟩
  · rw [marked, link_of_ul (bump_ul ..), link_of_ul (setFld_ul ..), link_setLink]
  · rw [marked, State.bump, fld_bumpN_apart _ _ _ (by decide), fld_setFld_same _ (by decide)]
    exact Nat.mod_mod _ 16
  · rw [marked, State.bump, reg_bumpN_same, reg_setFld_apart _ _ _ _ (by decide)]
    rfl
  · rw [marked, regsButAt_bump_iff (by decide), regsButAt_setFld (by decide)]
    exact regsButAt_of_regs rfl
  · rw [marked, bump_flt, setFld_flt]
    rfl

/-! ### Greetings (R105, R109) -/

/-- The peer's data of a HELLO. -/
def greeted (l : Nat) (m : HelloMsg) (s : State) : State :=
  let s1 := s.setFlds l [(F.ULINK_STAT_PEER_SLOT, m.slot.toNat), (F.ULINK_STAT_PEER_SIDE, b2n m.side), (F.ULINK_STAT_PEER_LINK, m.link.toNat)]
  s1.setLink l { s1.link l with peerSeen := true, badVersion := m.version != 1#8, lastHello := s1.now }

theorem helloIn_greets (h : 3 ≤ s.linkState l) (m : HelloMsg) : helloIn l m s =
    if m.version ≠ 1#8 then (greeted l m s).raise Src.ULINK_PEER_MISMATCH
    else if (greeted l m s).linkState l = 3 ∧ m.peerSeen then (greeted l m s).setFld F.ULINK_STAT_STATE l 4
    else greeted l m s := by
  rw [helloIn, if_neg (by omega)]
  rfl

theorem greeted_facts (l : Nat) (m : HelloMsg) (s : State) : (greeted l m s).fld F.ULINK_STAT_PEER_SLOT l = m.slot.toNat
    ∧ (greeted l m s).fld F.ULINK_STAT_PEER_LINK l = m.link.toNat % 32 ∧ ((greeted l m s).link l).peerSeen = true
    ∧ (greeted l m s).linkState l = s.linkState l ∧ regsButAt [.ULINK_STAT] l s (greeted l m s) ∧ (greeted l m s).flt = s.flt := by
  have regs : (greeted l m s).regs = (s.setFlds l [(F.ULINK_STAT_PEER_SLOT, m.slot.toNat), (F.ULINK_STAT_PEER_SIDE, b2n m.side),
    (F.ULINK_STAT_PEER_LINK, m.link.toNat)]).regs := rfl
  refine ⟨?_, ?_, congrArg UlLink.peerSeen (link_setLink ..), ?_, ?_, setFlds_flt ..⟩
  · rw [fld_of_regs regs]
    simp (disch := decide) only [State.setFlds, fld_setFld_apart, fld_setFld_same]
    exact Nat.mod_eq_of_lt m.slot.isLt
  · rw [fld_of_regs regs]
    simp (disch := decide) only [State.setFlds, fld_setFld_same]
    rfl
  · rw [linkState_of_regs regs]
    simp (disch := decide) only [State.linkState, State.setFlds, fld_setFld_apart]
  · exact regsButAt_trans ((regsButAt_setFlds _ (by simp)).2 regsButAt_refl) (regsButAt_of_regs regs)

/-! ### Echoes (R106) -/

section
variable {t1 t2 t3 : Nat} {h : List Int} {q : Int}

theorem echoRspIn_counts (h4 : 4 ≤ s.linkState l) (hh : h = ((etDiff s.et t1 - etDiff t3 t2) :: (s.link l).hops).take 8)
    (hlen : h.length < 8) : echoRspIn l (s.link l).echoId t1 t2 t3 s = s.setLink l { s.link l with hops := h } := by
  rw [echoRspIn, if_neg (by simp; omega)]
  simp only [← hh, if_pos hlen]

/-- The mean of eight samples that is whole. -/
theorem divFree_whole (q : Int) (s : State) : s.divFree (16 * q) 16 = (q, s) := by
  have h0 : 16 * q % (16 : Nat) = 0 := by omega
  have hq : 16 * q / (16 : Nat) = q := by omega
  rw [State.divFree, if_pos h0, hq]

/-- The hop latency once it is known, before the link goes UP. -/
def hopKnown (l : Nat) (h : List Int) (q : Int) (s : State) : State :=
  ((s.setLink l { s.link l with hops := h }).setFld F.ULINK_HOP_NS_HOP l (unsign 24 q)).setFlag F.ULINK_STAT_HOP_VALID l true

theorem echoRspIn_known (h4 : 4 ≤ s.linkState l) (hh : h = ((etDiff s.et t1 - etDiff t3 t2) :: (s.link l).hops).take 8)
    (hlen : h.length = 8) (hsum : h.foldl (· + ·) 0 = 16 * q) : echoRspIn l (s.link l).echoId t1 t2 t3 s =
      if (hopKnown l h q s).linkState l = 4 then ((hopKnown l h q s).setFld F.ULINK_STAT_STATE l 5).raise Src.ULINK_LINK_UP
      else hopKnown l h q s := by
  rw [echoRspIn, if_neg (by simp; omega)]
  simp only [← hh, if_neg (show ¬ h.length < 8 by omega), hsum, divFree_whole]
  rfl

theorem unsign24_of_lt (h0 : 0 ≤ q) (h : q < 2 ^ 24) : (unsign 24 q : Int) = q := by
  rw [unsign, Int.emod_eq_of_lt h0 (by simpa using h), Int.toNat_of_nonneg h0]

theorem hopKnown_facts (h0 : 0 ≤ q) (hq : q < 2 ^ 24) (l : Nat) (h : List Int) (s : State) : ((hopKnown l h q s).link l).hops = h
    ∧ ((hopKnown l h q s).fld F.ULINK_HOP_NS_HOP l : Int) = q ∧ (hopKnown l h q s).flag F.ULINK_STAT_HOP_VALID l = true
    ∧ (hopKnown l h q s).linkState l = s.linkState l ∧ regsButAt [.ULINK_STAT, .ULINK_HOP_NS] l s (hopKnown l h q s) := by
  refine ⟨congrArg UlLink.hops (link_setLink ..), ?_, flag_setFlag_same _ (by decide) rfl _ true, ?_, ?_⟩
  · have small : unsign 24 q < 2 ^ 24 := by
      have := unsign24_of_lt h0 hq
      omega
    rw [hopKnown, fld_setFlag_apart _ (by decide) (by decide), fld_setFld_same _ (by decide), Nat.mod_eq_of_lt small, unsign24_of_lt h0 hq]
  · rw [State.linkState, hopKnown, fld_setFlag_apart _ (by decide) (by decide), fld_setFld_apart _ (by decide) (by decide)]
    rfl
  · rw [hopKnown, regsButAt_setFlag (by decide), regsButAt_setFld (by decide)]
    exact regsButAt_of_regs rfl

/-- The eighth sample makes the hop latency known, and a MEASURING link goes UP. -/
theorem echoRspIn_facts (h4 : 4 ≤ s.linkState l) (h5 : s.linkState l ≤ 5) (h0 : 0 ≤ q) (hq : q < 2 ^ 24)
    (hh : h = ((etDiff s.et t1 - etDiff t3 t2) :: (s.link l).hops).take 8) (hlen : h.length = 8) (hsum : h.foldl (· + ·) 0 = 16 * q) :
    ∃ t, echoRspIn l (s.link l).echoId t1 t2 t3 s = t ∧ (t.link l).hops = h ∧ (t.fld F.ULINK_HOP_NS_HOP l : Int) = q
      ∧ t.flag F.ULINK_STAT_HOP_VALID l = true ∧ t.linkState l = 5 ∧ (s.linkState l = 4 → t.isSet Src.ULINK_LINK_UP = true)
      ∧ regsButAt [.ULINK_STAT, .ULINK_HOP_NS] l s t := by
  obtain ⟨hops, hop, valid, state, frame⟩ := hopKnown_facts h0 hq l h s
  refine ⟨_, echoRspIn_known h4 hh hlen hsum, ?_⟩
  rw [state]
  split
  · refine ⟨?_, ?_, ?_, ?_, fun _ => isSet_raise_same _ (by decide), ?_⟩
    · rw [link_of_ul (raise_ul ..)]
      exact hops
    · rw [fld_raise, fld_setFld_apart _ (by decide) (by decide), hop]
    · rw [flag_raise, State.flag, fld_setFld_apart _ (by decide) (by decide)]
      exact valid
    · rw [State.linkState, fld_raise, fld_setFld_same _ (by decide)]
      rfl
    · rw [regsButAt_raise, regsButAt_setFld (by decide)]
      exact frame
  · next hne => exact ⟨hops, hop, valid, state.trans (by omega), fun h => absurd h hne, frame⟩

end

/-! ### The mailbox (R111) -/

/-- The head message's words are shown. -/
def showHead (l : Nat) (s : State) : State :=
  (List.range 32).foldl (fun t w => t.setReg .ULINK_MB_RXBUF (32 * l + w)
    (BitVec.ofNat 32 (leNat ((((s.link l).mail.head?.getD []).drop (4 * w)).take 4)))) s

theorem showMail_eq (l : Nat) (s : State) : showMail l s = (showHead l s).setFld F.ULINK_MB_CTL_RX_CNT l (s.link l).mail.length := rfl

theorem showMail_facts (hlen : (s.link l).mail.length < 8) : (showMail l s).fld F.ULINK_MB_CTL_RX_CNT l = (s.link l).mail.length
    ∧ (showMail l s).ul = s.ul ∧ (showMail l s).flt = s.flt ∧ regsBut [.ULINK_MB_CTL, .ULINK_MB_RXBUF] s (showMail l s) := by
  refine ⟨?_, ?_, ?_, ?_⟩
  · rw [showMail_eq, fld_setFld_same _ (by decide)]
    exact Nat.mod_eq_of_lt hlen
  · rw [showMail_eq, setFld_ul]
    exact foldl_keeps State.ul (fun _ _ => setReg_ul ..) _ s
  · rw [showMail_eq, setFld_flt]
    exact foldl_keeps State.flt (fun _ _ => setReg_flt ..) _ s
  · rw [showMail_eq, regsBut_setFld (by decide)]
    exact regsBut_foldl (fun _ _ => (regsBut_setReg (by decide) _ _).2 regsBut_refl) _ s

theorem mailIn_held (hup : s.linkUp l = true) (h : (s.link l).mail.length < 4) (msg : List Byte) : mailIn l msg s =
    showMail l (s.setLink l { s.link l with mail := (s.link l).mail ++ [msg.take 122] }) := by
  rw [mailIn, if_neg (by simp [hup]), if_neg (by omega)]

theorem mailIn_full (hup : s.linkUp l = true) (h : 4 ≤ (s.link l).mail.length) (msg : List Byte) :
    mailIn l msg s = s.raise Src.ULINK_MB_RX_OVF := by
  rw [mailIn, if_neg (by simp [hup]), if_pos h]

/-! ### Bring-up and loss (R109, R110) -/

theorem linkSilent_regs (l : Nat) (s : State) : (linkSilent l s).regs = s.regs :=
  foldl_keeps State.regs (fun t j => by
    dsimp only
    split <;> rfl) _ s

/-- Training may end in ALIGNING, and changes nothing else that is seen. -/
theorem linkTrains_facts (l : Nat) (s : State) : (s.linkState l = 1 → (linkTrains l s).linkState l = 1 ∨ (linkTrains l s).linkState l = 2)
    ∧ (s.flag F.LANE_STAT_CDR_LOCK (s.fld F.ULINK_CFG_LANE l) = false → linkTrains l s = s)
    ∧ regsButAt [.ULINK_STAT] l s (linkTrains l s) ∧ (linkTrains l s).flt = s.flt
    ∧ (∀ f, fldApart F.ULINK_STAT_STATE f = true → (linkTrains l s).fld f l = s.fld f l) := by
  simp only [linkTrains]
  split
  · next h =>
    refine ⟨fun _ => .inr ?_, fun hoff => absurd h.2.1 (by simp [hoff]), ?_, rfl, fun f hf => ?_⟩
    · exact (fld_of_regs rfl _ _).trans (fld_setFld_same s (by decide) l 2)
    · exact regsButAt_trans ((regsButAt_setFld (by decide) 2).2 regsButAt_refl) (regsButAt_of_regs rfl)
    · exact (fld_of_regs rfl _ _).trans (fld_setFld_apart s (by decide) hf l l 2)
  · exact ⟨.inl, fun _ => rfl, regsButAt_refl, rfl, fun _ _ => rfl⟩

/-- A link that has fallen, before it trains again. -/
def linkFallen (l : Nat) (s : State) : State :=
  let s1 := s.setFlds l [(F.ULINK_STAT_STATE, 1), (F.ULINK_STAT_HOP_VALID, 0)]
  let x := s1.link l
  let s2 := s1.setLink l { UlLink.reset with fLocal := x.fLocal, marks := x.marks, markRate := x.markRate, mail := x.mail,
                                             mailDue := x.mailDue, slot := x.slot, echoId := x.echoId }
  let s3 := { s2 with esc := { s2.esc with link := l :: s2.esc.link.filter (· != l) } }
  ((linkSilent l s3).bump .ULINK_DOWN_CNT l).raise Src.ULINK_LINK_DOWN

theorem linkFalls_falls (h : 2 ≤ s.linkState l) : linkFalls l s = linkTrains l (linkFallen l s) := by
  rw [linkFalls, if_neg (by omega)]
  rfl

theorem linkFallen_facts (l : Nat) (s : State) : (linkFallen l s).linkState l = 1 ∧ (linkFallen l s).flag F.ULINK_STAT_HOP_VALID l = false
    ∧ (linkFallen l s).isSet Src.ULINK_LINK_DOWN = true
    ∧ (linkFallen l s).reg .ULINK_DOWN_CNT l = BitVec.ofNat 32 (min (2 ^ 32 - 1) ((s.reg .ULINK_DOWN_CNT l).toNat + 1)) := by
  obtain ⟨u, eq, hu⟩ : ∃ u : State, linkFallen l s = ((linkSilent l u).bump .ULINK_DOWN_CNT l).raise Src.ULINK_LINK_DOWN
      ∧ u.regs = (s.setFlds l [(F.ULINK_STAT_STATE, 1), (F.ULINK_STAT_HOP_VALID, 0)]).regs := ⟨_, rfl, rfl⟩
  have regs := (linkSilent_regs l u).trans hu
  refine ⟨?_, ?_, isSet_raise_same _ (by decide), ?_⟩
  · rw [State.linkState, eq, fld_raise, State.bump, fld_bumpN_apart _ _ _ (by decide), fld_of_regs regs]
    simp (disch := decide) only [State.setFlds, fld_setFld_apart, fld_setFld_same]
    rfl
  · rw [eq, flag_raise, flag_bump_apart _ _ (by decide), flag_of_regs regs]
    simp (disch := decide) only [State.setFlds, State.flag, fld_setFld_same]
    rfl
  · rw [eq, reg_raise, State.bump, reg_bumpN_same, reg_of_regs regs, reg_setFlds_apart _ _ _ (by simp)]

/-- A link that falls is in TRAINING, or trains again at once. -/
theorem linkFalls_facts (h : 2 ≤ s.linkState l) : (linkFalls l s).linkState l ≤ 2 ∧ (linkFalls l s).isSet Src.ULINK_LINK_DOWN = true
    ∧ (linkFalls l s).flag F.ULINK_STAT_HOP_VALID l = false
    ∧ (linkFalls l s).reg .ULINK_DOWN_CNT l = BitVec.ofNat 32 (min (2 ^ 32 - 1) ((s.reg .ULINK_DOWN_CNT l).toNat + 1)) := by
  obtain ⟨state, valid, set, count⟩ := linkFallen_facts l s
  obtain ⟨trains, -, frame, flt, apart⟩ := linkTrains_facts l (linkFallen l s)
  rw [linkFalls_falls h]
  refine ⟨by have := trains state; omega, (isSet_of_flt flt _).trans set, ?_, ?_⟩
  · rw [State.flag, apart _ (by decide)]
    exact valid
  · rw [frame _ _ (by simp), count]

/-! ### The configuration (R109, R114) -/

theorem changes_or_one {f : Fld} (h : 1 ≤ f.lo) (s : State) (l : Nat) (v : Word) : changes f s l (v ||| 1#32) = changes f s l v := by
  rw [changes, changes, Fld.of_or_one h]

theorem writeUlinkCfg_refused (hon : s.flag F.ULINK_CFG_EN l = true) (h : changes F.ULINK_CFG_LANE s l v = true) :
    writeUlinkCfg l v s = s.reject .ULINK := if_pos (by simp [hon, h])

theorem writeUlinkCfg_switches (hoff : s.flag F.ULINK_CFG_EN l = false) (h : changes F.ULINK_CFG_AUD96 s l v = false) :
    writeUlinkCfg l v s = linkSwitch l false (plainWrite .ULINK_CFG l v s) := by
  rw [writeUlinkCfg, if_neg (by simp [hoff, h])]
  simp only [hoff, h]
  rfl

/-- A link that is switched on over a lane that meets R85. -/
theorem linkSwitch_on (hon : s.flag F.ULINK_CFG_EN l = true) (hlane : s.laneUhlat (s.fld F.ULINK_CFG_LANE l) = true) :
    linkSwitch l false s = linkTrains l ((s.setLink l { UlLink.reset with mail := (s.link l).mail, mailDue := (s.link l).mailDue }).setFld
      F.ULINK_STAT_STATE l 1) := by
  rw [linkSwitch]
  simp only [hon, Bool.not_false, Bool.and_self, if_true]
  exact if_pos hlane

/-- The link trains on its lane. -/
theorem linkSwitch_facts (hon : s.flag F.ULINK_CFG_EN l = true) (hlane : s.laneUhlat (s.fld F.ULINK_CFG_LANE l) = true) :
    ((linkSwitch l false s).linkState l = 1 ∨ (linkSwitch l false s).linkState l = 2)
      ∧ (s.flag F.LANE_STAT_CDR_LOCK (s.fld F.ULINK_CFG_LANE l) = false → (linkSwitch l false s).linkState l = 1)
      ∧ regsButAt [.ULINK_STAT] l s (linkSwitch l false s) ∧ (linkSwitch l false s).flt = s.flt := by
  rw [linkSwitch_on hon hlane]
  generalize hu : (s.setLink l { UlLink.reset with mail := (s.link l).mail, mailDue := (s.link l).mailDue }).setFld F.ULINK_STAT_STATE l 1 = u
  have frame : regsButAt [.ULINK_STAT] l s u := by
    rw [← hu, regsButAt_setFld (by decide)]
    exact regsButAt_of_regs rfl
  have state : u.linkState l = 1 := by
    rw [← hu, State.linkState, fld_setFld_same _ (by decide)]
    rfl
  have flt : u.flt = s.flt := by
    rw [← hu]
    rfl
  obtain ⟨trains, waits, frame', flt', -⟩ := linkTrains_facts l u
  refine ⟨trains state, fun hcdr => ?_, regsButAt_trans frame frame', flt'.trans flt⟩
  rw [waits (by rw [frame.fld_other (f := F.ULINK_CFG_LANE) (by decide), frame.flag_other (by decide), hcdr]), state]

theorem laneUhlat_congr (h : ∀ i, t.reg .LANE_CFG i = s.reg .LANE_CFG i) (n : Nat) : t.laneUhlat n = s.laneUhlat n := by
  have same {f : Fld} (hf : f.reg = .LANE_CFG) : t.fld f n = s.fld f n := by rw [fld_eq, fld_eq, hf, h]
  simp only [State.laneUhlat, same]

/-- EN written 1 on a lane that meets R85. -/
theorem writeUlinkCfg_facts (hoff : s.flag F.ULINK_CFG_EN l = false) (h : changes F.ULINK_CFG_AUD96 s l v = false)
    (hon : F.ULINK_CFG_EN.of v = 1) (hlane : s.laneUhlat (F.ULINK_CFG_LANE.of v) = true) :
    (writeUlinkCfg l v s).flag F.ULINK_CFG_EN l = true ∧ (writeUlinkCfg l v s).fld F.ULINK_CFG_LANE l = F.ULINK_CFG_LANE.of v
      ∧ ((writeUlinkCfg l v s).linkState l = 1 ∨ (writeUlinkCfg l v s).linkState l = 2)
      ∧ (s.flag F.LANE_STAT_CDR_LOCK (F.ULINK_CFG_LANE.of v) = false → (writeUlinkCfg l v s).linkState l = 1)
      ∧ regsButAt [.ULINK_CFG, .ULINK_STAT] l s (writeUlinkCfg l v s) ∧ (writeUlinkCfg l v s).flt = s.flt := by
  have en : (plainWrite .ULINK_CFG l v s).flag F.ULINK_CFG_EN l = true := by
    rw [flag_plainWrite (f := F.ULINK_CFG_EN) rfl (by decide), hon]
    rfl
  have lane : (plainWrite .ULINK_CFG l v s).fld F.ULINK_CFG_LANE l = F.ULINK_CFG_LANE.of v :=
    fld_plainWrite (f := F.ULINK_CFG_LANE) rfl (by decide) l v s
  have uhlat : (plainWrite .ULINK_CFG l v s).laneUhlat ((plainWrite .ULINK_CFG l v s).fld F.ULINK_CFG_LANE l) = true := by
    rw [lane, laneUhlat_congr fun i => reg_plainWrite_apart rfl (by decide) l i v s]
    exact hlane
  obtain ⟨state, waits, frame, flt⟩ := linkSwitch_facts en uhlat
  rw [writeUlinkCfg_switches hoff h]
  refine ⟨?_, ?_, state, fun hcdr => waits ?_, ?_, flt.trans (plainWrite_flt ..)⟩
  · rw [frame.flag_other (by decide), en]
  · rw [frame.fld_other (by decide), lane]
  · rw [lane, flag_plainWrite_apart rfl (by decide), hcdr]
  · exact regsButAt_trans ((regsButAt_plainWrite rfl (by decide) _ _).2 regsButAt_refl) (regsButAt_mono (by decide) frame)

end

/-- Settles O19: each control message by the state it leaves before the link's state is judged; loss and bring-up by `linkFalls_facts`
and `writeUlinkCfg_facts`. -/
theorem uhlatControlAndBringUp : Obligations.UhlatControlAndBringUp := by
  refine ⟨fun l m s hup => ?_, fun l m s h3 => ?_, fun l id t1 s h3 => ?_, fun l t1 t2 t3 h s h4 hh hlen => ?_,
    fun l t1 t2 t3 h q s h4 h5 hh hlen hsum h0 hq => ?_, fun l msg s hup => ?_, fun l s h2 => ?_, fun l s hmark => ?_,
    fun l v s hoff haud hlane => ?_, fun l v s hon hlane => ?_⟩
  · obtain ⟨local_, ql, count, frame, flt⟩ := marked_facts l m s
    have still : Machine.still s (markerIn l m s) := ⟨by simp, by simp⟩
    rw [markerIn_up hup] at still
    refine ⟨_, congrArg Host.Outcome.next (markerIn_up hup m), ?_, ?_, ?_, fun hmarks => ?_, ?_, ?_, still⟩
    · split
      · rw [link_of_ul (setFlag_ul ..), local_]
      · exact local_
    · split
      · rw [fld_setFlag_apart _ (by decide) (by decide), ql]
      · exact ql
    · split
      · rw [reg_setFlag_apart _ _ _ _ (by decide), count]
      · exact count
    · rw [if_pos (by omega)]
      exact flag_setFlag_same _ (by decide) rfl _ true
    · split
      · exact (regsButAt_setFlag (by decide) _).2 frame
      · exact frame
    · split
      · rw [setFlag_flt, flt]
      · exact flt
  · obtain ⟨slot, link, seen, state, frame, flt⟩ := greeted_facts l m s
    have still : Machine.still s (helloIn l m s) := ⟨by simp, by simp⟩
    rw [helloIn_greets h3] at still
    refine ⟨_, congrArg Host.Outcome.next (helloIn_greets h3 m), ?_⟩
    by_cases hv : m.version = 1#8
    · rw [if_neg (by simp [hv])] at still ⊢
      rw [state] at still ⊢
      split at still
      · next h =>
        rw [if_pos h, if_pos h]
        refine ⟨?_, ?_, seen, fun h => absurd hv h, fun _ => ⟨flt, ?_⟩, ?_, still⟩
        · rw [fld_setFld_apart _ (by decide) (by decide), slot]
        · rw [fld_setFld_apart _ (by decide) (by decide), link]
        · rw [State.linkState, fld_setFld_same _ (by decide)]
          rfl
        · exact (regsButAt_setFld (by decide) _).2 frame
      · next h =>
        rw [if_neg h, if_neg h]
        exact ⟨slot, link, seen, fun h => absurd hv h, fun _ => ⟨flt, state⟩, frame, still⟩
    · rw [if_pos hv] at still ⊢
      refine ⟨?_, ?_, ?_, fun _ => ⟨isSet_raise_same _ (by decide), ?_⟩, fun h => absurd h hv, (regsButAt_raise _).2 frame, still⟩
      · rw [fld_raise, slot]
      · rw [fld_raise, link]
      · rw [link_of_ul (raise_ul ..), seen]
      · rw [linkState_of_regs (raise_regs ..), state]
  · exact ⟨_, congrArg Host.Outcome.next (if_neg (by omega)), congrArg UlLink.echoDue (link_setLink ..), rfl, rfl, rfl, rfl⟩
  · exact ⟨_, congrArg Host.Outcome.next (echoRspIn_counts h4 hh hlen), congrArg UlLink.hops (link_setLink ..), rfl, rfl, rfl, rfl⟩
  · obtain ⟨t, ht, hops, hop, valid, state, up, frame⟩ := echoRspIn_facts h4 h5 h0 hq hh hlen hsum
    have still : Machine.still s (echoRspIn l (s.link l).echoId t1.toNat t2.toNat t3.toNat s) := ⟨by simp, by simp⟩
    rw [ht] at still
    exact ⟨t, congrArg Host.Outcome.next ht, hops, hop, valid, state, up, frame, still⟩
  · have still : Machine.still s (mailIn l msg s) := ⟨by simp, by simp⟩
    refine ⟨_, rfl, fun hroom => ?_, fun hfull => ?_, still⟩
    · have held : ((s.setLink l { s.link l with mail := (s.link l).mail ++ [msg.take 122] }).link l).mail = (s.link l).mail ++ [msg.take 122] :=
        congrArg UlLink.mail (link_setLink ..)
      obtain ⟨count, ul, flt, frame⟩ := showMail_facts (l := l) (s := s.setLink l { s.link l with mail := (s.link l).mail ++ [msg.take 122] })
        (by rw [held, List.length_append]; simp; omega)
      rw [mailIn_held hup hroom]
      exact ⟨(congrArg UlLink.mail (link_of_ul ul l)).trans held, by rw [count, held, List.length_append]; rfl, flt, frame⟩
    · rw [mailIn_full hup hfull]
      exact ⟨raise_ul .., raise_regs .., isSet_raise_same _ (by decide)⟩
  · have regs : (passToNow ((s.link l).lastHello + 50000000) s).regs = s.regs := elapse_regs ..
    obtain ⟨state, set, valid, count⟩ := linkFalls_facts (l := l) (s := passToNow ((s.link l).lastHello + 50000000) s)
      (by rwa [linkState_of_regs regs])
    refine ⟨_, congrArg Host.Outcome.next (if_neg (by omega)), state, set, valid, ?_, by simp [passToNow], by simp [passToNow]⟩
    rw [count, reg_of_regs regs]
  · have eq : markLost l s = ((s.setLink l { s.link l with marks := 0 }).setFlag F.ULINK_STAT_MARK_OK l false).raise Src.ULINK_MARK_LOST :=
      if_pos hmark
    refine ⟨_, congrArg Host.Outcome.next eq, ?_, isSet_raise_same _ (by decide), ?_, by simp [State.setLink], by simp [State.setLink]⟩
    · rw [flag_raise]
      exact flag_setFlag_same _ (by decide) rfl _ false
    · rw [regsButAt_raise, regsButAt_setFlag (by decide)]
      exact regsButAt_of_regs rfl
  · obtain ⟨en, lane, state, waits, frame, flt⟩ := writeUlinkCfg_facts (v := v ||| 1#32) hoff ((changes_or_one (by decide) s l v).trans haud)
      (Fld.of_or_bit rfl (by decide) v) (by rwa [Fld.of_or_one (by decide)])
    rw [Fld.of_or_one (by decide)] at lane waits
    exact ⟨_, rfl, en, lane, state, waits, frame, flt, by simp, by simp⟩
  · exact ⟨_, congrArg Host.Outcome.next (writeUlinkCfg_refused hon ((changes_or_one (by decide) s l v).trans hlane)), reject_regs ..,
      reject_ul .., isSet_reject .., by simp, by simp⟩

end Sys2Proof.Machine
end

section
/-!
PROOFS. Management ports (chapter 15).
-/

namespace Sys2Proof

theorem leBytes_length (k v : Nat) : (leBytes k v).length = k := by
  induction k generalizing v with
  | zero => rfl
  | succ k ih => rw [leBytes, List.length_cons, ih]

theorem rxDescriptor_length (len src : Nat) (tagged : Bool) (m stamp index : Nat) : (rxDescriptor len src tagged m stamp index).length = 32 := by
  simp only [rxDescriptor, List.length_append, leBytes_length]

theorem Memory.writeBytes_append (m : Memory) (a : Nat) (bs cs : List Byte) :
    m.writeBytes a (bs ++ cs) = (m.writeBytes a bs).writeBytes (a + bs.length) cs := by
  induction bs generalizing m a with
  | nil => rfl
  | cons b bs ih =>
    rw [List.cons_append, Memory.writeBytes, ih, Memory.writeBytes, List.length_cons, Nat.add_assoc, Nat.add_comm 1]

/-- A frame without the PAUSE Ethertype is no PAUSE frame. -/
theorem EthFrame.pause_of_type {f : EthFrame} (h : f.type ≠ 0x8808) : f.pause = none := if_neg fun hp => h hp.1

end Sys2Proof

namespace Sys2Proof.Machine

section
variable {n k src m q : Nat} {v w : Word} {f : EthFrame} {rs : List RegName} {s t : State}

@[simp] theorem regsButAt_bump64 {lo hi : RegName} (hlo : lo ∈ rs) (hhi : hi ∈ rs) : regsButAt rs n s (t.bump64 lo hi n) ↔ regsButAt rs n s t := by
  rw [State.bump64, regsButAt_setReg_iff hhi, regsButAt_setReg_iff hlo]

theorem fld_bump64_apart {g : Fld} {lo hi : RegName} (hlo : g.reg ≠ lo) (hhi : g.reg ≠ hi) (i j : Nat) (s : State) :
    (s.bump64 lo hi i).fld g j = s.fld g j := by
  rw [State.bump64, fld_setReg_apart _ _ _ _ hhi, fld_setReg_apart _ _ _ _ hlo]

/-! ### Configuration and links (R362) -/

theorem changes_of_ne {g : Fld} (h : g.of w ≠ s.fld g n) : changes g s n w = true := by simp [changes, h]

theorem writeMgCfg_enables (hoff : s.flag F.MGMT_CFG_EN n = false) (hlo : 1 ≤ F.MGMT_CFG_MODE.of w) (hhi : F.MGMT_CFG_MODE.of w ≤ 4)
    (hdark : n = 1 → s.flag F.RST_STAT_DARKROOM 0 = false) : writeMgCfg n w s = plainWrite .MGMT_CFG n w s := by
  have free : (n == 1 && s.flag F.RST_STAT_DARKROOM 0) = false := by
    by_cases h : n = 1
    · simp [hdark h]
    · simp [h]
  rw [writeMgCfg]
  simp only [hoff, free, Bool.false_and]
  rw [if_neg (by simp; omega)]
  rfl

theorem writeMgCfg_refused (hon : F.MGMT_CFG_EN.of w = 1) (h : F.MGMT_CFG_MODE.of w = 0 ∨ 4 < F.MGMT_CFG_MODE.of w
      ∨ (n = 1 ∧ s.flag F.RST_STAT_DARKROOM 0 = true) ∨ (s.flag F.MGMT_CFG_EN n = true ∧ F.MGMT_CFG_MODE.of w ≠ s.fld F.MGMT_CFG_MODE n)) :
    writeMgCfg n w s = s.reject .MGMT := by
  rw [writeMgCfg]
  simp only [hon]
  refine if_pos ?_
  rcases h with h | h | ⟨rfl, h⟩ | ⟨hen, h⟩
  · simp [h]
  · simp [h]
  · simp [h]
  · simp [hen, changes_of_ne h]

theorem mgUp_up (hen : s.flag F.MGMT_CFG_EN n = true) {slow : Bool}
    (h : ¬(s.flag F.MGMT_CFG_AN n = true ∧ s.fld F.MGMT_CFG_MODE n = 2 ∧ slow = true)) : mgUp n slow s =
      ({ s with mgmt := { s.mgmt with anBad := s.mgmt.anBad.filter (· != n) } } : State).setFlds n [(F.MGMT_STAT_LINK_UP, 1),
        (F.MGMT_STAT_AN_DONE, b2n (s.flag F.MGMT_CFG_AN n && (s.fld F.MGMT_CFG_MODE n == 1 || s.fld F.MGMT_CFG_MODE n == 2)))] := by
  rw [mgUp, if_neg (by simp [hen])]
  refine if_neg fun hc => h ?_
  simp only [Bool.and_eq_true, beq_iff_eq] at hc
  exact ⟨hc.1.1.1, hc.1.2, hc.2⟩

theorem mgUp_fails (hen : s.flag F.MGMT_CFG_EN n = true) (han : s.flag F.MGMT_CFG_AN n = true) (hmode : s.fld F.MGMT_CFG_MODE n = 2) :
    mgUp n true s = ({ s with mgmt := { s.mgmt with anBad := n :: s.mgmt.anBad.filter (· != n) } } : State).raise Src.MGMT_AN_FAIL := by
  rw [mgUp, if_neg (by simp [hen])]
  exact if_pos (by simp [han, hmode])

theorem mgDown_falls (hup : s.flag F.MGMT_STAT_LINK_UP n = true) : mgDown n s =
    (s.setFlds n [(F.MGMT_STAT_LINK_UP, 0), (F.MGMT_STAT_AN_DONE, 0), (F.MGMT_STAT_LINK_DOWN_S, 1)]).raise Src.MGMT_LINK_DOWN := if_pos hup

/-! ### The receive ring (R363 to R365) -/

/-- The first byte of the receive slot that is filled next. -/
def State.mgRxSlot (s : State) (n : Nat) : Nat := mgbBase n + s.fld F.MGMT_RX_HEAD_IDX n * s.mgSlot n

/-- A frame in its receive slot, the head moved on. -/
def mgPut (n src m : Nat) (f : EthFrame) (s : State) : State :=
  (s.store (s.mgRxSlot n) (rxDescriptor f.bytes.length src f.tagged m (s.frameStamp (128 + n)) 0 ++ f.bytes)).setFld F.MGMT_RX_HEAD_IDX n
    ((s.fld F.MGMT_RX_HEAD_IDX n + 1) % s.mgRxSlots n)

theorem mgStore_counted (h : s.mgRxFull n = false) (m : Nat) (f : EthFrame) : mgStore n 0 m f s =
    (mgPut n 0 m f s).bump64 .MGMT_RX_FRAMES_LO .MGMT_RX_FRAMES_HI n := if_neg (by simp [h])

theorem mgStore_uncounted (h : s.mgRxFull n = false) (hsrc : src ≠ 0) (m : Nat) (f : EthFrame) : mgStore n src m f s = mgPut n src m f s := by
  rw [mgStore, if_neg (by simp [h])]
  exact if_neg hsrc

theorem mgStore_full (h : s.mgRxFull n = true) (m : Nat) (f : EthFrame) : mgStore n src m f s =
    (s.bump .MGMT_RX_HOST_DROP n).raise Src.MGMT_HOST_DROP := if_pos h

theorem mgRxSlots_le (s : State) (n : Nat) : 1 ≤ s.mgRxSlots n ∧ s.mgRxSlots n ≤ 64 := by
  unfold State.mgRxSlots
  split <;> decide

theorem mgTxSlots_le (s : State) (n : Nat) : 1 ≤ s.mgTxSlots n ∧ s.mgTxSlots n ≤ 64 := by
  unfold State.mgTxSlots
  split <;> decide

theorem mgPut_facts (n src m : Nat) (f : EthFrame) (s : State) :
    (mgPut n src m f s).mem = s.mem.writeBytes (s.mgRxSlot n) (rxDescriptor f.bytes.length src f.tagged m (s.frameStamp (128 + n)) 0 ++ f.bytes)
      ∧ (mgPut n src m f s).fld F.MGMT_RX_HEAD_IDX n = (s.fld F.MGMT_RX_HEAD_IDX n + 1) % s.mgRxSlots n
      ∧ regsButAt [.MGMT_RX_HEAD] n s (mgPut n src m f s) ∧ (mgPut n src m f s).flt = s.flt ∧ (mgPut n src m f s).pending = s.pending := by
  refine ⟨?_, ?_, ?_, ?_, ?_⟩
  · rw [mgPut, setFld_mem, State.store]
  · have slots := mgRxSlots_le s n
    rw [mgPut, fld_setFld_same _ (by decide)]
    exact Nat.mod_eq_of_lt (Nat.lt_of_lt_of_le (Nat.mod_lt _ slots.1) slots.2)
  · rw [mgPut, regsButAt_setFld (by decide)]
    exact regsButAt_of_regs rfl
  · rw [mgPut, setFld_flt, store_flt]
  · rw [mgPut, setFld_pending, store_pending]

/-- What a slot that has been filled holds, and what else memory holds. -/
theorem load_of_put (hwf : s.mem.wf = true) {a : Nat} {d bs : List Byte} (h : t.mem = s.mem.writeBytes a (d ++ bs)) :
    t.load a (d.length + bs.length) = d ++ bs ∧ t.load (a + d.length) bs.length = bs
      ∧ ∀ x, (x < a ∨ a + d.length + bs.length ≤ x) → t.mem.read x = s.mem.read x := by
  refine ⟨?_, ?_, fun x hx => ?_⟩
  · rw [State.load, h, ← List.length_append, Memory.readBytes_writeBytes _ _ hwf]
  · rw [State.load, h, Memory.writeBytes_append, Memory.readBytes_writeBytes _ _ (Memory.wf_writeBytes _ _ hwf)]
  · rw [h, Memory.read_writeBytes_outside _ hwf (by rw [List.length_append]; omega)]

/-! ### Receiving (R365, R366) -/

theorem mgFrameIn_down (h : s.macUp (128 + n) = false) (f : EthFrame) : mgFrameIn n f s = s := if_pos (by simp [h])

theorem mgFrameIn_bad (hup : s.macUp (128 + n) = true) (hk : f.fault (s.flag F.MGMT_CFG_JUMBO n) ≠ 0) : mgFrameIn n f s =
    (s.bump (mgCounter (f.fault (s.flag F.MGMT_CFG_JUMBO n))) n).raise Src.MGMT_BAD_FRAME := by
  rw [mgFrameIn, if_neg (by simp [hup])]
  exact if_pos hk

theorem mgFrameIn_pause (hup : s.macUp (128 + n) = true) (hk : f.fault (s.flag F.MGMT_CFG_JUMBO n) = 0) (hq : f.pause = some q)
    (hdst : f.dst = 0x0180C2000001) : mgFrameIn n f s = mgPause n q s := by
  rw [mgFrameIn, if_neg (by simp [hup])]
  simp only [hk, hq]
  rw [if_neg (by simp)]
  exact if_pos (.inl hdst)

theorem mgFrameIn_filters (hup : s.macUp (128 + n) = true) (hk : f.fault (s.flag F.MGMT_CFG_JUMBO n) = 0) (htype : f.type ≠ 0x8808)
    (hptp : s.ptpPlaces (128 + n) = []) : mgFrameIn n f s = mgFilter n f s := by
  rw [mgFrameIn, if_neg (by simp [hup])]
  simp only [hk, EthFrame.pause_of_type htype, hptp]
  rw [if_neg (by simp)]
  rfl

theorem mgFilter_match (htype : f.type ≠ 0x8808) (hmatch : s.mgMatch n f.dst = some k) : mgFilter n f s = mgStore n 0 k f s := by
  rw [mgFilter, if_neg htype, hmatch]

theorem mgFilter_miss (htype : f.type ≠ 0x8808) (hmatch : s.mgMatch n f.dst = none) (hdst : f.dst ≠ 0xFFFFFFFFFFFF) :
    mgFilter n f s = s.bump .MGMT_RX_FILTER n := by
  rw [mgFilter, if_neg htype, hmatch]
  exact if_neg fun h => hdst h.1

/-- A pause count that is taken (R367). -/
theorem mgPause_facts (n q : Nat) (s : State) : (mgPause n q s).flag F.MGMT_STAT_PAUSED n = decide (q ≠ 0)
    ∧ (mgPause n q s).reg .MGMT_RX_PAUSE n = BitVec.ofNat 32 (min (2 ^ 32 - 1) ((s.reg .MGMT_RX_PAUSE n).toNat + 1))
    ∧ (q ≠ 0 → (mgPause n q s).mgmt.pause.get 0 n = s.now + ceilDiv (q * pauseQuantum10 (s.fld F.MGMT_CFG_MODE n)) 10)
    ∧ regsButAt [.MGMT_RX_PAUSE, .MGMT_STAT] n s (mgPause n q s) ∧ (mgPause n q s).flt = s.flt := by
  have counted : regsButAt [.MGMT_RX_PAUSE, .MGMT_STAT] n s (s.bump .MGMT_RX_PAUSE n) := (regsButAt_bump_iff (by decide)).2 regsButAt_refl
  by_cases hq : q = 0
  · have eq : mgPause n q s = (s.bump .MGMT_RX_PAUSE n).setFlag F.MGMT_STAT_PAUSED n false := if_pos hq
    rw [eq]
    refine ⟨?_, ?_, fun h => absurd hq h, (regsButAt_setFlag (by decide) _).2 counted, rfl⟩
    · rw [flag_setFlag_same _ (by decide) rfl]
      simp [hq]
    · rw [reg_setFlag_apart _ _ _ _ (by decide), State.bump, reg_bumpN_same]
  · obtain ⟨u, eq, due, regs, flt⟩ : ∃ u : State, mgPause n q s = u.setFlag F.MGMT_STAT_PAUSED n true
        ∧ u.mgmt.pause.get 0 n = s.now + ceilDiv (q * pauseQuantum10 ((s.bump .MGMT_RX_PAUSE n).fld F.MGMT_CFG_MODE n)) 10
        ∧ u.regs = (s.bump .MGMT_RX_PAUSE n).regs ∧ u.flt = s.flt := by
      rw [mgPause]
      exact ⟨_, if_neg hq, AMap.get_set_same .., rfl, rfl⟩
    rw [eq]
    refine ⟨?_, ?_, fun _ => ?_, ?_, flt⟩
    · rw [flag_setFlag_same _ (by decide) rfl]
      simp [hq]
    · rw [reg_setFlag_apart _ _ _ _ (by decide), reg_of_regs regs, State.bump, reg_bumpN_same]
    · rw [setFlag_mgmt, due, State.bump, fld_bumpN_apart _ _ _ (by decide)]
    · rw [regsButAt_setFlag (by decide)]
      exact regsButAt_trans counted (regsButAt_of_regs regs)

/-! ### Transmitting (R367) -/

/-- The slot at the head of the transmit ring. -/
def State.mgTxSlot (s : State) (n : Nat) : Nat := mgbBase n + 0x18000 + s.fld F.MGMT_TX_HEAD_IDX n * s.mgSlot n

/-- The head of the transmit ring moves on. -/
def mgTxNext (n head : Nat) (s : State) : State := s.setFld F.MGMT_TX_HEAD_IDX n ((head + 1) % s.mgTxSlots n)

section
variable (hup : s.macUp (128 + n) = true) (hgo : s.flag F.MGMT_STAT_PAUSED n = false) (hptp : s.ptpWaiting (128 + n) = [])
  (hring : s.fld F.MGMT_TX_HEAD_IDX n ≠ s.fld F.MGMT_TX_TAIL_IDX n)
include hup hgo hptp hring

theorem mgSend_sends (hlen : leNat (s.load (s.mgTxSlot n) 4) % 2 ^ 14 + 4 ≤ maxFrame (s.flag F.MGMT_CFG_JUMBO n))
    (hbit : bit (leNat (s.load (s.mgTxSlot n) 4)) 16 = false) : mgSend n s = mgTxNext n (s.fld F.MGMT_TX_HEAD_IDX n)
      ((s.send (128 + n) (macFrame (s.load (s.mgTxSlot n + 32) (leNat (s.load (s.mgTxSlot n) 4) % 2 ^ 14)))).bump64 .MGMT_TX_FRAMES_LO
        .MGMT_TX_FRAMES_HI n) := by
  rw [State.mgTxSlot] at hlen hbit
  rw [mgSend, if_neg (by simp [hup, hgo]), hptp]
  simp only [if_neg hring, if_neg (Nat.not_lt.2 hlen), hbit]
  rfl

theorem mgSend_discards (hlen : maxFrame (s.flag F.MGMT_CFG_JUMBO n) < leNat (s.load (s.mgTxSlot n) 4) % 2 ^ 14 + 4) :
    mgSend n s = mgTxNext n (s.fld F.MGMT_TX_HEAD_IDX n) ((s.bump .MGMT_TX_OVERSIZE n).raise Src.MGMT_TX_OVERSIZE) := by
  rw [State.mgTxSlot] at hlen
  rw [mgSend, if_neg (by simp [hup, hgo]), hptp]
  simp only [if_neg hring, if_pos hlen]
  rfl

end

theorem mgTxSlots_congr (h : t.flag F.MGMT_CFG_JUMBO n = s.flag F.MGMT_CFG_JUMBO n) : t.mgTxSlots n = s.mgTxSlots n := by
  rw [State.mgTxSlots, h, State.mgTxSlots]

theorem fld_mgTxNext (h : t.flag F.MGMT_CFG_JUMBO n = s.flag F.MGMT_CFG_JUMBO n) (head : Nat) :
    (mgTxNext n head t).fld F.MGMT_TX_HEAD_IDX n = (head + 1) % s.mgTxSlots n := by
  have slots := mgTxSlots_le s n
  rw [mgTxNext, mgTxSlots_congr h, fld_setFld_same _ (by decide)]
  exact Nat.mod_eq_of_lt (Nat.lt_of_lt_of_le (Nat.mod_lt _ slots.1) slots.2)

/-- The head of the transmit ring leaves the port. -/
theorem mgTxNext_sent (n head : Nat) (bs : List Byte) (s : State) :
    let t := mgTxNext n head ((s.send (128 + n) bs).bump64 .MGMT_TX_FRAMES_LO .MGMT_TX_FRAMES_HI n)
    t.wire.find? (128 + n) = some bs ∧ t.fld F.MGMT_TX_HEAD_IDX n = (head + 1) % s.mgTxSlots n
      ∧ regsButAt [.MGMT_TX_HEAD, .MGMT_TX_FRAMES_LO, .MGMT_TX_FRAMES_HI] n s t ∧ t.flt = s.flt := by
  refine ⟨?_, fld_mgTxNext ?_ head, ?_, ?_⟩
  · rw [mgTxNext, setFld_wire, bump64_wire]
    exact AMap.find?_set_same ..
  · rw [State.flag, fld_bump64_apart (by decide) (by decide)]
    rfl
  · rw [mgTxNext, regsButAt_setFld (by decide), regsButAt_bump64 (by decide) (by decide)]
    exact regsButAt_of_regs rfl
  · rw [mgTxNext, setFld_flt, bump64_flt]
    rfl

theorem mgTxNext_oversize (n head : Nat) (s : State) :
    let t := mgTxNext n head ((s.bump .MGMT_TX_OVERSIZE n).raise Src.MGMT_TX_OVERSIZE)
    t.isSet Src.MGMT_TX_OVERSIZE = true ∧ t.wire = s.wire
      ∧ t.reg .MGMT_TX_OVERSIZE n = BitVec.ofNat 32 (min (2 ^ 32 - 1) ((s.reg .MGMT_TX_OVERSIZE n).toNat + 1))
      ∧ t.fld F.MGMT_TX_HEAD_IDX n = (head + 1) % s.mgTxSlots n := by
  refine ⟨?_, ?_, ?_, fld_mgTxNext ?_ head⟩
  · exact (isSet_of_flt (setFld_flt ..) _).trans (isSet_raise_same _ (by decide))
  · rw [mgTxNext, setFld_wire, raise_wire, bump_wire]
  · rw [mgTxNext, reg_setFld_apart _ _ _ _ (by decide), reg_raise, State.bump, reg_bumpN_same]
  · rw [flag_raise, flag_bump_apart _ _ (by decide)]

theorem mgSend_paused (h : s.flag F.MGMT_STAT_PAUSED n = true) : mgSend n s = s := if_pos (.inr h)

end

/-- Settles O51: configuration, links, the receive filter and ring, pause and the transmit ring, each by the lemma of its case. -/
theorem managementPortsCarryFrames : Obligations.ManagementPortsCarryFrames := by
  refine ⟨fun n v s hoff hlo hhi hdark => ?_, fun n v s hbad => ?_, fun n slow s hen han => ?_, fun n s hen han hmode => ?_,
    fun n slow s hen => congrArg Host.Outcome.next (if_pos (by simp [hen])), fun n s hup => ?_,
    fun n s hup => congrArg Host.Outcome.next (if_neg (by simp [hup])), fun n f k s hup hk hk0 => ?_, fun n f q s hup hk hq hdst => ?_,
    fun n f k a s hup hk htype hptp hmatch hroom hwf ha => ?_, fun n f k s hup hk htype hptp hmatch hfull => ?_,
    fun n f s hup hk htype hptp hmatch hdst => ?_, fun n f s hup => congrArg Host.Outcome.next (mgFrameIn_down hup f), fun n s hpaused => ?_,
    fun n a len s hup hgo hptp hring ha hlen => ?_, fun n s hpaused => congrArg Host.Outcome.next (mgSend_paused hpaused),
    fun n p frame a s hp hup hroom hwf ha => ?_, fun p frame s hup => congrArg Host.Outcome.next (if_pos (by simp [hup]))⟩
  · have or_one {f : Fld} (h : 1 ≤ f.lo) : f.of (v ||| 1#32) = f.of v := Fld.of_or_one h v
    have field {f : Fld} (hreg : f.reg = .MGMT_CFG) (hw : f.takesWrite = true) (h : 1 ≤ f.lo) :
        (plainWrite .MGMT_CFG n (v ||| 1#32) s).fld f n = f.of v := by
      rw [← hreg, fld_plainWrite (by rw [hreg]; rfl) hw, or_one h]
    refine ⟨_, congrArg Host.Outcome.next (writeMgCfg_enables hoff (by rwa [or_one (by decide)]) (by rwa [or_one (by decide)])
      fun h => hdark (Fin.ext h)), ?_, field rfl (by decide) (by decide), field rfl (by decide) (by decide), field rfl (by decide) (by decide),
      field rfl (by decide) (by decide), (regsButAt_plainWrite rfl (by decide) _ _).2 regsButAt_refl, (onlyRegs_plainWrite ..).2 onlyRegs_refl,
      plainWrite_flt ..⟩
    rw [flag_plainWrite (f := F.MGMT_CFG_EN) rfl (by decide), Fld.of_or_bit rfl (by decide)]
    rfl
  · refine ⟨_, congrArg Host.Outcome.next (writeMgCfg_refused (Fld.of_or_bit rfl (by decide) v) ?_), reject_regs .., isSet_reject .., by simp⟩
    rw [Fld.of_or_one (by decide)]
    exact hbad.imp_right (Or.imp_right (Or.imp_left fun h => ⟨congrArg Fin.val h.1, h.2⟩))
  · refine ⟨_, congrArg Host.Outcome.next (mgUp_up hen han), ?_, ?_, ?_, ?_, setFlds_flt .., by simp, by simp⟩
    · simp (disch := decide) only [State.setFlds, State.flag, fld_setFld_apart, fld_setFld_same]
      rfl
    · simp (disch := decide) only [State.setFlds, fld_setFld_same, State.flag]
      exact b2n_bit _
    · simp [State.setFlds]
    · exact (regsButAt_setFlds _ (by simp)).2 (regsButAt_of_regs rfl)
  · refine ⟨_, congrArg Host.Outcome.next (mgUp_fails hen han hmode), isSet_raise_same _ (by decide), by simp, by simp, by simp, by simp⟩
  · refine ⟨_, congrArg Host.Outcome.next (mgDown_falls hup), ?_, ?_, ?_, isSet_raise_same _ (by decide), ?_, ?_⟩
    · simp (disch := decide) only [State.setFlds, State.flag, fld_raise, fld_setFld_apart, fld_setFld_same]
      rfl
    · simp (disch := decide) only [State.setFlds, State.flag, fld_raise, fld_setFld_apart, fld_setFld_same]
      rfl
    · simp (disch := decide) only [State.setFlds, State.flag, fld_raise, fld_setFld_same]
      rfl
    · rw [regsButAt_raise]
      exact (regsButAt_setFlds _ (by simp)).2 regsButAt_refl
    · rw [onlyRegs_raise_iff]
      exact (onlyRegs_setFlds_iff ..).2 onlyRegs_refl
  · subst hk
    refine ⟨_, congrArg Host.Outcome.next (mgFrameIn_bad hup hk0), isSet_raise_same _ (by decide), ?_, ?_, by simp⟩
    · rw [reg_raise, State.bump, reg_bumpN_same]
    · rw [regsButAt_raise, regsButAt_bump_iff (by simp)]
      exact regsButAt_refl
  · obtain ⟨paused, count, due, frame, flt⟩ := mgPause_facts n.val q s
    exact ⟨_, congrArg Host.Outcome.next (mgFrameIn_pause hup hk hq hdst), paused, count, due, frame, flt, by simp, by simp⟩
  · have slot : a = s.mgRxSlot n := ha
    obtain ⟨mem, head, frame, flt, pending⟩ := mgPut_facts n.val 0 k f s
    obtain ⟨loaded, -, outside⟩ := load_of_put hwf mem
    rw [rxDescriptor_length] at loaded outside
    have mem' : ((mgPut n 0 k f s).bump64 .MGMT_RX_FRAMES_LO .MGMT_RX_FRAMES_HI n).mem = (mgPut n 0 k f s).mem := bump64_mem ..
    refine ⟨_, congrArg Host.Outcome.next ((mgFrameIn_filters hup hk htype hptp).trans ((mgFilter_match htype hmatch).trans
      (mgStore_counted hroom k f))), ?_, fun x hx => ?_, ?_, ?_, ?_, ?_⟩
    · rw [State.load, mem', slot]
      exact loaded
    · rw [mem']
      exact outside x (slot ▸ hx)
    · rw [fld_bump64_apart (by decide) (by decide), head]
    · rw [regsButAt_bump64 (by decide) (by decide)]
      exact regsButAt_mono (by decide) frame
    · rw [bump64_flt, flt]
    · rw [bump64_pending, pending]
  · refine ⟨_, congrArg Host.Outcome.next ((mgFrameIn_filters hup hk htype hptp).trans ((mgFilter_match htype hmatch).trans
      (mgStore_full hfull k f))), isSet_raise_same _ (by decide), ?_, ?_, by simp⟩
    · rw [reg_raise, State.bump, reg_bumpN_same]
    · rw [regsButAt_raise, regsButAt_bump_iff (by decide)]
      exact regsButAt_refl
  · exact ⟨_, congrArg Host.Outcome.next ((mgFrameIn_filters hup hk htype hptp).trans (mgFilter_miss htype hmatch hdst)), reg_bumpN_same ..,
      (regsButAt_bump_iff (by decide)).2 regsButAt_refl, rfl⟩
  · refine ⟨_, congrArg Host.Outcome.next (if_pos hpaused), flag_setFlag_same _ (by decide) rfl _ false, ?_, by simp, by simp⟩
    rw [regsButAt_setFlag (by decide)]
    exact regsButAt_of_regs (elapse_regs ..)
  · have slot : a = s.mgTxSlot n := ha
    rw [slot] at hlen ⊢
    rw [hlen]
    refine ⟨fun hfits hbit => ?_, fun hover => ?_⟩
    · obtain ⟨wire, head, frame, flt⟩ := mgTxNext_sent n.val (s.fld F.MGMT_TX_HEAD_IDX n)
        (macFrame (s.load (s.mgTxSlot n + 32) (leNat (s.load (s.mgTxSlot n) 4) % 2 ^ 14))) s
      have still : Machine.still s (mgSend n s) := ⟨by simp, by simp⟩
      rw [mgSend_sends hup hgo hptp hring hfits hbit] at still
      exact ⟨_, congrArg Host.Outcome.next (mgSend_sends hup hgo hptp hring hfits hbit), wire, head, frame, flt, still⟩
    · obtain ⟨set, wire, count, head⟩ := mgTxNext_oversize n.val (s.fld F.MGMT_TX_HEAD_IDX n) s
      have still : Machine.still s (mgSend n s) := ⟨by simp, by simp⟩
      rw [mgSend_discards hup hgo hptp hring hover] at still
      exact ⟨_, congrArg Host.Outcome.next (mgSend_discards hup hgo hptp hring hover), set, wire, count, head, still⟩
  · have slot : a = s.mgRxSlot n := ha
    have stored : ptpToHost p frame s = mgPut n 2 0 ⟨frame, false⟩ s := by
      rw [ptpToHost, if_neg (by simp [hup]), if_neg (by omega), hp, Nat.add_sub_cancel_left, mgStore_uncounted hroom (by decide)]
    obtain ⟨mem, head, frame', flt, pending⟩ := mgPut_facts n.val 2 0 ⟨frame, false⟩ s
    obtain ⟨-, loaded, outside⟩ := load_of_put hwf mem
    rw [rxDescriptor_length] at loaded outside
    exact ⟨_, congrArg Host.Outcome.next stored, slot ▸ loaded, slot ▸ outside, head, frame', flt, pending⟩

end Sys2Proof.Machine
end

section
/-!
SUPPORT. Memory of which a range is cleared, and the flash: what it reads after an erase and a program (R466, notes/assumptions/5.md).
-/

namespace Sys2Proof

/-! ### Memory with cells left out -/

theorem cellRead_filter {l : List Host.Cell} {lo : Nat} (p : Nat → Bool) (h : cellsWf lo l = true) (a : Nat) :
    cellRead (l.filter (fun c => p c.1)) a = if p a then cellRead l a else Memory.blank := by
  induction l generalizing lo with
  | nil => simp [cellRead]
  | cons c t ih =>
    obtain ⟨x, y⟩ := c
    simp only [cellsWf, Bool.and_eq_true, decide_eq_true_eq] at h
    obtain ⟨-, h3⟩ := h
    by_cases hax : a < x
    · have below : cellRead t a = Memory.blank := cellRead_below h3 (by omega)
      have tail := ih h3
      rw [below, ite_self] at tail
      cases hp : p x
      · simp [hp, tail, cellRead, hax]
      · simp [hp, cellRead, hax]
    · by_cases heq : a = x
      · subst heq
        have below : cellRead t a = Memory.blank := cellRead_below h3 (by omega)
        cases hp : p a
        · simpa [hp, below] using ih h3
        · simp [hp, cellRead]
      · cases hp : p x
        · simpa [hp, cellRead, hax, heq] using ih h3
        · simpa [hp, cellRead, hax, heq] using ih h3

namespace Memory

/-- A cleared range reads blank, and no other byte changes. -/
theorem read_clearRange {m : Memory} (h : m.wf = true) (lo hi a : Nat) :
    (m.clearRange lo hi).read a = if a < lo ∨ hi ≤ a then m.read a else 0 := by
  have := cellRead_filter (fun x => decide (x < lo) || decide (hi ≤ x)) h a
  simp only [Bool.or_eq_true, decide_eq_true_eq] at this
  exact this

theorem readBytes_length (m : Memory) (a n : Nat) : (m.readBytes a n).length = n := by
  induction n generalizing a with
  | zero => rfl
  | succ n ih => rw [readBytes, List.length_cons, ih]

theorem readBytes_congr {m m' : Memory} {a n : Nat} (h : ∀ x, a ≤ x → x < a + n → m'.read x = m.read x) :
    m'.readBytes a n = m.readBytes a n := by
  induction n generalizing a with
  | zero => rfl
  | succ n ih => rw [readBytes, readBytes, h a (by omega) (by omega), ih fun x hx hx' => h x (by omega) (by omega)]

theorem readBytes_blank {m : Memory} {a n : Nat} (h : ∀ x, a ≤ x → x < a + n → m.read x = 0) : m.readBytes a n = List.replicate n 0 := by
  induction n generalizing a with
  | zero => rfl
  | succ n ih => rw [readBytes, List.replicate_succ, h a (by omega) (by omega), ih fun x hx hx' => h x (by omega) (by omega)]

end Memory

namespace Machine

section
variable {a n : Nat} {bs : List Byte} {s t : State}

/-! ### Erased and programmed flash -/

/-- The flash from `a` on is erased for `n` bytes. -/
def State.erased (s : State) (a n : Nat) : Prop := ∀ x, a ≤ x → x < a + n → s.mem.read x = 0

theorem eraseFlash_eq (a n : Nat) (s : State) : eraseFlash a n s = { s with mem := (eraseFlash a n s).mem } := rfl

theorem program_eq (a : Nat) (bs : List Byte) (s : State) : program a bs s = { s with mem := (program a bs s).mem } := rfl

theorem read_eraseFlash (h : s.mem.wf = true) (a n x : Nat) :
    (eraseFlash a n s).mem.read x = if x < a ∨ a + n ≤ x then s.mem.read x else 0 := Memory.read_clearRange h a (a + n) x

theorem erased_eraseFlash (h : s.mem.wf = true) (a n : Nat) : (eraseFlash a n s).erased a n := fun x hx hx' => by
  rw [read_eraseFlash h, if_neg (by omega)]

theorem State.erased.mono (h : s.erased a n) {b m : Nat} (hb : a ≤ b) (hm : b + m ≤ a + n) : s.erased b m :=
  fun x hx hx' => h x (by omega) (by omega)

/-- The bytes that a program puts in memory. -/
theorem program_length (a : Nat) (bs : List Byte) (s : State) :
    ((s.load a bs.length).zipWith (fun old new => old ||| ~~~ new) bs).length = bs.length := by
  rw [List.length_zipWith, State.load, Memory.readBytes_length, Nat.min_self]

theorem zipWith_blank (bs : List Byte) : (List.replicate bs.length (0 : Byte)).zipWith (fun old new => old ||| ~~~ new) bs = bs.map (~~~ ·) := by
  induction bs with
  | nil => rfl
  | cons b bs ih =>
    rw [List.length_cons, List.replicate_succ, List.zipWith_cons_cons, ih, List.map_cons,
      show (0 : Byte) ||| ~~~ b = ~~~ b from BitVec.zero_or]

theorem map_not_not (bs : List Byte) : (bs.map (~~~ ·)).map (fun b => ~~~ b) = bs := by
  rw [List.map_map]
  conv_rhs => rw [← List.map_id bs]
  refine List.map_congr_left fun b _ => ?_
  rw [Function.comp_apply, BitVec.not_not, id_eq]

/-- Erased flash that is programmed reads what was programmed. -/
theorem flash_program (h : s.mem.wf = true) (he : s.erased a bs.length) : (program a bs s).flash a bs.length = bs := by
  have blank : s.load a bs.length = List.replicate bs.length 0 := Memory.readBytes_blank he
  have stored := Memory.readBytes_writeBytes a (bs.map (~~~ ·)) h
  rw [List.length_map] at stored
  rw [State.flash, program, blank, zipWith_blank, State.load, State.store, stored, map_not_not]

theorem read_program_outside (h : s.mem.wf = true) {x : Nat} (hx : x < a ∨ a + bs.length ≤ x) : (program a bs s).mem.read x = s.mem.read x := by
  rw [program, State.store]
  exact Memory.read_writeBytes_outside _ h (by rwa [program_length])

theorem flash_congr (h : ∀ x, a ≤ x → x < a + n → t.mem.read x = s.mem.read x) : t.flash a n = s.flash a n := by
  rw [State.flash, State.load, Memory.readBytes_congr h, State.flash, State.load]

end

end Machine

end Sys2Proof
end

section
/-!
PROOFS. The Vault (chapter 20): rotations, retirements, the end of a migration, the Wear Ledger.
-/

namespace Sys2Proof.Machine

section
variable {m e type unit r : Nat} {planeB : Bool} {v : Word} {s t : State}

/-! ### VAULT_CMD (R449, R450, R460) -/

theorem vaultCmd_barred (h : 5 < m) (v : Word) : vaultCmd m v s = s.reject .VAULT := if_pos h

theorem vaultCmd_rotate (h : m ≤ 5) (hop : F.VAULT_CMD_OP.of v = 1) : vaultCmd m v s =
    rotateCmd (F.VAULT_CMD_TYPE.of v) (F.VAULT_CMD_PLANE.of v != 0) (F.VAULT_CMD_UNIT.of v) s := by
  simp only [vaultCmd, if_neg (Nat.not_lt.2 h), hop]

theorem vaultCmd_retire (h : m ≤ 5) (hop : F.VAULT_CMD_OP.of v = 2) : vaultCmd m v s = retireCmd (F.VAULT_CMD_UNIT.of v) s := by
  simp only [vaultCmd, if_neg (Nat.not_lt.2 h), hop]

theorem vaultCmd_reserved (hop : F.VAULT_CMD_OP.of v = 0 ∨ F.VAULT_CMD_OP.of v = 3) : vaultCmd m v s = s.reject .VAULT := by
  rcases hop with h | h
  · simp only [vaultCmd, h, ite_self]
  · simp only [vaultCmd, h, ite_self]

/-- The OP that a command's name gives, the other fields as written. -/
theorem of_op_put (v : Word) (op : Nat) (h : op < 4) : F.VAULT_CMD_OP.of (F.VAULT_CMD_OP.put v op) = op
    ∧ F.VAULT_CMD_TYPE.of (F.VAULT_CMD_OP.put v op) = F.VAULT_CMD_TYPE.of v
    ∧ F.VAULT_CMD_PLANE.of (F.VAULT_CMD_OP.put v op) = F.VAULT_CMD_PLANE.of v
    ∧ F.VAULT_CMD_UNIT.of (F.VAULT_CMD_OP.put v op) = F.VAULT_CMD_UNIT.of v :=
  ⟨(Fld.of_put (by decide) v op).trans (Nat.mod_eq_of_lt h), Fld.of_put_ne (by decide) (by decide) v op,
    Fld.of_put_ne (by decide) (by decide) v op, Fld.of_put_ne (by decide) (by decide) v op⟩

/-- An answer in VAULT_CMD_STAT. -/
theorem vaultAnswered (hr : r < 8) (s : State) : (s.setFld F.VAULT_CMD_STAT_RESULT 0 r).fld F.VAULT_CMD_STAT_RESULT 0 = r :=
  (fld_setFld_same _ (by decide) 0 r).trans (Nat.mod_eq_of_lt hr)

theorem vaultAnswered_frame (r : Nat) (s : State) : regsButAt [.VAULT_CMD_STAT] 0 s (s.setFld F.VAULT_CMD_STAT_RESULT 0 r)
    ∧ onlyRegs s (s.setFld F.VAULT_CMD_STAT_RESULT 0 r) :=
  ⟨(regsButAt_setFld (by decide) _).2 regsButAt_refl, (onlyRegs_setFld_iff ..).2 onlyRegs_refl⟩

theorem rotateResult_lt (s : State) (e : Nat) : s.rotateResult e < 4 := by
  unfold State.rotateResult
  (repeat' split) <;> decide

/-- The state in which a rotation is requested: RESULT vaultAnswered, the type no longer due. -/
def rotateAnswered (type : Nat) (planeB : Bool) (s : State) : State :=
  (s.setFld F.VAULT_CMD_STAT_RESULT 0 0).setFld F.VAULT_ROT_DUE type (putBits (s.fld F.VAULT_ROT_DUE type) (b2n (type == 0 && planeB)) 1 0)

theorem rotateCmd_queues (ht : type ≤ 6) (hu : s.rotUnit type planeB unit = some e) (hr : s.rotateResult e = 0) :
    rotateCmd type planeB unit s = requestRun e true (rotateAnswered type planeB s) := by
  rw [rotateCmd, if_neg (by omega), hu]
  simp only [hr]
  rfl

theorem rotateCmd_answers (ht : type ≤ 6) (hu : s.rotUnit type planeB unit = some e) (hr : s.rotateResult e ≠ 0) :
    rotateCmd type planeB unit s = (s.setFld F.VAULT_CMD_STAT_RESULT 0 (s.rotateResult e)).raiseIf (s.rotateResult e == 2) Src.VAULT_NO_SPARE := by
  rw [rotateCmd, if_neg (by omega), hu]
  simp only [if_neg hr]

/-- A request that waits for nothing of the same unit joins the queue. -/
theorem requestRun_joins (h : s.underTest e = false) (rotate : Bool) :
    (requestRun e rotate s).vault.queue.map (·.target) = s.vault.queue.map (·.target) ++ [e]
      ∧ (requestRun e rotate s).vault.running = s.vault.running ∧ (requestRun e rotate s).vault.migr = s.vault.migr := by
  rw [requestRun, if_neg (by simp [h])]
  dsimp only
  split
  · simp
  · simp

theorem bitsOf_one_of_bit (w : Nat) (b : Bool) (x : Nat) (hx : x < 2) : bitsOf (putBits w (b2n b) 1 x) (b2n b) 1 = x := by
  rw [bitsOf_putBits_same, Nat.pow_one, Nat.mod_eq_of_lt hx]

theorem due_fits (s : State) (type x : Nat) (b : Bool) : putBits (s.fld F.VAULT_ROT_DUE type) (b2n b) 1 x < 2 ^ 2 :=
  putBits_lt _ _ _ _ _ (fld_lt s F.VAULT_ROT_DUE type) (by cases b <;> decide)

theorem rotateAnswered_facts (type : Nat) (planeB : Bool) (s : State) : (rotateAnswered type planeB s).fld F.VAULT_CMD_STAT_RESULT 0 = 0
    ∧ bitsOf ((rotateAnswered type planeB s).fld F.VAULT_ROT_DUE type) (b2n (type == 0 && planeB)) 1 = 0
    ∧ regsBut [.VAULT_CMD_STAT, .VAULT_ROT] s (rotateAnswered type planeB s) := by
  refine ⟨?_, ?_, ?_⟩
  · rw [rotateAnswered, fld_setFld_apart (f := F.VAULT_ROT_DUE) (g := F.VAULT_CMD_STAT_RESULT) _ (by decide) (by decide)]
    exact vaultAnswered (by decide) s
  · rw [rotateAnswered, fld_setFld_same _ (by decide), Nat.mod_eq_of_lt (due_fits ..), bitsOf_one_of_bit _ _ _ (by decide)]
  · rw [rotateAnswered, regsBut_setFld (by decide), regsBut_setFld (by decide)]
    exact regsBut_refl

theorem retireCmd_retires (he : e < 294) (hst : s.unitState e ≠ 4) : retireCmd e s = retireUnit e (s.setFld F.VAULT_CMD_STAT_RESULT 0 0) := by
  rw [retireCmd, if_neg (by omega), if_neg hst]

theorem retireCmd_answers (h : 294 ≤ e ∨ s.unitState e = 4) : retireCmd e s = s.setFld F.VAULT_CMD_STAT_RESULT 0 (if 294 ≤ e then 4 else 3) := by
  rw [retireCmd]
  split
  · rfl
  · next he => rw [if_pos (h.resolve_left he)]

/-! ### The end of a pseudo-channel's migration (R444) -/

theorem unitType_pc (hlo : 130 ≤ e) (hhi : e < 198) : unitType e = 5 := by
  rw [unitType, if_neg (by omega), if_neg (by omega), if_neg (by omega), if_neg (by omega), if_neg (by omega), if_pos hhi]

theorem unitField_pc (hlo : 130 ≤ e) (hhi : e < 198) : unitField e = (F.VAULT_LG_HRS_STATE, e) := by
  simp only [unitField, unitType_pc hlo hhi]

/-- The state once the spare pseudo-channel has the place of the leaving one. -/
def pcMoved (x : Migration) (s : State) : State :=
  ((s.setFld F.VAULT_LG_HRS_STATE x.spare 0).raise Src.HBM_PC_SPARED).setFld F.VAULT_LG_HRS_STATE x.leaving 3

theorem endMigration_pc {x : Migration} (hx : s.vault.migr.find? 5 = some x) (hkeep : x.retire = false) (hlo : 130 ≤ x.leaving)
    (hhi : x.leaving < 198) (slo : 130 ≤ x.spare) (shi : x.spare < 198) (hdrains : s.unitState x.leaving = 2) :
    ∃ w : VaultState, w.migr = s.vault.migr.erase 5 ∧ x.leaving ∈ w.running ∧ endMigration 5 s =
      (({ pcMoved x { s with vault := { s.vault with migr := s.vault.migr.erase 5 } } with vault := w } : State).bump .VAULT_ROT_CNT 0).raise
        Src.VAULT_MIGRATED := by
  simp only [endMigration, hx, hkeep, hdrains, BEq.rfl, if_true, passRole, setUnitR, State.setUnit, unitType_pc hlo hhi, unitField_pc hlo hhi,
    unitField_pc slo shi]
  exact ⟨_, by simp, List.mem_cons_self .., rfl⟩

theorem pcMoved_facts {x : Migration} (hne : x.leaving ≠ x.spare) (s : State) : (pcMoved x s).fld F.VAULT_LG_HRS_STATE x.leaving = 3
    ∧ (pcMoved x s).fld F.VAULT_LG_HRS_STATE x.spare = 0 ∧ (pcMoved x s).reg .VAULT_ROT_CNT 0 = s.reg .VAULT_ROT_CNT 0 := by
  refine ⟨fld_setFld_same _ (by decide) _ _, ?_, ?_⟩
  · have apart (t : State) : (t.setFld F.VAULT_LG_HRS_STATE x.leaving 3).fld F.VAULT_LG_HRS_STATE x.spare = t.fld F.VAULT_LG_HRS_STATE x.spare :=
      fld_setReg_reg t _ fun _ => hne.symm
    rw [pcMoved, apart, fld_raise, fld_setFld_same _ (by decide)]
    rfl
  · rw [pcMoved, reg_setFld_apart _ _ _ _ (by decide), reg_raise, reg_setFld_apart _ _ _ _ (by decide)]

theorem endMigration_none {k : Nat} (h : s.vault.migr.find? k = none) : endMigration k s = s := by
  rw [endMigration, h]

theorem retryRetire_none (h : s.vault.retireWait = []) : retryRetire s = s := by
  rw [retryRetire, h]
  rfl

/-! ### Rotations that fall due (R448) -/

theorem rotationDue_stopped (h : s.fld F.VAULT_ROT_PERIOD type = 0) (planeB : Bool) : rotationDue type planeB s = s := if_pos (by rw [h])

theorem rotationDue_falls (h : s.fld F.VAULT_ROT_PERIOD type ≠ 0) (planeB : Bool) : ∃ n, rotationDue type planeB s =
    (passToNow n s).setFld F.VAULT_ROT_DUE type (putBits (s.fld F.VAULT_ROT_DUE type) (b2n (type == 0 && planeB)) 1 1) := by
  obtain ⟨n, eq⟩ : ∃ n, rotationDue type planeB s = (passToNow n s).setFld F.VAULT_ROT_DUE type
      (putBits ((passToNow n s).fld F.VAULT_ROT_DUE type) (b2n (type == 0 && planeB)) 1 1) := ⟨_, if_neg (Nat.mul_ne_zero h (by decide))⟩
  have regs : (passToNow n s).regs = s.regs := elapse_regs ..
  exact ⟨n, by rw [eq, fld_of_regs regs]⟩

/-! ### The Wear Ledger (R451 to R453) -/

/-- An hour of service in a unit's entry, before its thresholds are compared. -/
def hourNoted (e ecc : Nat) (s : State) : State :=
  let u := addEcc e ecc (s.setFld F.VAULT_LG_HRS_HOURS e (min (2 ^ 20 - 1) (s.fld F.VAULT_LG_HRS_HOURS e + 1)))
  u.setFld F.VAULT_LG_BIST_SINCE_H e (min 65535 (u.fld F.VAULT_LG_BIST_SINCE_H e + 1))

theorem ledgerHour_active (h : s.unitState e = 0) (ecc : Nat) : ledgerHour e ecc s =
    if (hourNoted e ecc s).worn e && !s.worn e then ((hourNoted e ecc s).setFlag F.VAULT_LG_HRS_WEAR e true).raise Src.VAULT_WEAR_LIMIT
    else hourNoted e ecc s := by
  simp only [ledgerHour, ledgerUpdate, if_pos h]
  rfl

theorem ledgerHour_idle (h : s.unitState e ≠ 0) (ecc : Nat) : ledgerHour e ecc s = s := by
  simp only [ledgerHour, ledgerUpdate, if_neg h]
  rw [if_neg (by simp)]

theorem addEcc_frame (e n : Nat) (s : State) : regsButAt [.VAULT_LG_ECC] e s (addEcc e n s) ∧ onlyRegs s (addEcc e n s) := by
  rw [addEcc]
  split
  · exact ⟨(regsButAt_setFld (by decide) _).2 regsButAt_refl, (onlyRegs_setFld_iff ..).2 onlyRegs_refl⟩
  · exact ⟨regsButAt_refl, onlyRegs_refl⟩

theorem unitType_lt_six (h : e < 198) : unitType e < 6 := by
  unfold unitType
  (repeat' split) <;> omega

theorem fld_addEcc (h : e < 198) (n : Nat) (s : State) :
    (addEcc e n s).fld F.VAULT_LG_ECC_COUNT e = min (2 ^ 32 - 1) (s.fld F.VAULT_LG_ECC_COUNT e + n) := by
  rw [addEcc, if_pos (unitType_lt_six h), fld_setFld_same _ (by decide)]
  exact Nat.mod_eq_of_lt (Nat.lt_of_le_of_lt (Nat.min_le_left ..) (by decide))

theorem hourNoted_facts (e ecc : Nat) (s : State) :
    (hourNoted e ecc s).fld F.VAULT_LG_HRS_HOURS e = min (2 ^ 20 - 1) (s.fld F.VAULT_LG_HRS_HOURS e + 1)
      ∧ (hourNoted e ecc s).fld F.VAULT_LG_BIST_SINCE_H e = min 65535 (s.fld F.VAULT_LG_BIST_SINCE_H e + 1)
      ∧ (e < 198 → (hourNoted e ecc s).fld F.VAULT_LG_ECC_COUNT e = min (2 ^ 32 - 1) (s.fld F.VAULT_LG_ECC_COUNT e + ecc))
      ∧ regsButAt [.VAULT_LG_HRS, .VAULT_LG_BIST, .VAULT_LG_ECC] e s (hourNoted e ecc s) ∧ onlyRegs s (hourNoted e ecc s) := by
  obtain ⟨frame, only⟩ := addEcc_frame e ecc (s.setFld F.VAULT_LG_HRS_HOURS e (min (2 ^ 20 - 1) (s.fld F.VAULT_LG_HRS_HOURS e + 1)))
  refine ⟨?_, ?_, fun he => ?_, ?_, ?_⟩
  · rw [hourNoted, fld_setFld_apart _ (by decide) (by decide), frame.fld_other (by decide), fld_setFld_same _ (by decide)]
    exact Nat.mod_eq_of_lt (Nat.lt_of_le_of_lt (Nat.min_le_left ..) (by decide))
  · rw [hourNoted, fld_setFld_same _ (by decide), frame.fld_other (by decide), fld_setFld_apart _ (by decide) (by decide)]
    exact Nat.mod_eq_of_lt (Nat.lt_of_le_of_lt (Nat.min_le_left ..) (by decide))
  · rw [hourNoted, fld_setFld_apart _ (by decide) (by decide), fld_addEcc he, fld_setFld_apart _ (by decide) (by decide)]
  · rw [hourNoted, regsButAt_setFld (by decide)]
    exact regsButAt_trans ((regsButAt_setFld (by decide) _).2 regsButAt_refl) (regsButAt_mono (by decide) frame)
  · rw [hourNoted, onlyRegs_setFld_iff]
    exact onlyRegs_trans ((onlyRegs_setFld_iff ..).2 onlyRegs_refl) only

/-- An entry's WEAR plays no part in the comparison with the thresholds. -/
theorem worn_wear (s : State) (e : Nat) : ((s.setFlag F.VAULT_LG_HRS_WEAR e true).raise Src.VAULT_WEAR_LIMIT).worn e = s.worn e := by
  have same {f : Fld} (h : fldApart F.VAULT_LG_HRS_WEAR f = true) (i : Nat) :
      ((s.setFlag F.VAULT_LG_HRS_WEAR e true).raise Src.VAULT_WEAR_LIMIT).fld f i = s.fld f i := by
    rw [fld_raise, fld_setFlag_apart _ (by decide) h]
  simp only [State.worn, same (f := F.VAULT_THR_HOURS_HOURS_MAX) (by decide), same (f := F.VAULT_THR_ECC_ECC_MAX) (by decide),
    same (f := F.VAULT_THR_VMIN_VMIN_MIN) (by decide), same (f := F.VAULT_LG_HRS_HOURS) (by decide),
    same (f := F.VAULT_LG_ECC_COUNT) (by decide), same (f := F.VAULT_LG_VMIN_MIN) (by decide)]

/-- An hour of service of an active unit. -/
theorem ledgerHour_facts (h : s.unitState e = 0) (ecc : Nat) :
    (ledgerHour e ecc s).fld F.VAULT_LG_HRS_HOURS e = min (2 ^ 20 - 1) (s.fld F.VAULT_LG_HRS_HOURS e + 1)
      ∧ (ledgerHour e ecc s).fld F.VAULT_LG_BIST_SINCE_H e = min 65535 (s.fld F.VAULT_LG_BIST_SINCE_H e + 1)
      ∧ (e < 198 → (ledgerHour e ecc s).fld F.VAULT_LG_ECC_COUNT e = min (2 ^ 32 - 1) (s.fld F.VAULT_LG_ECC_COUNT e + ecc))
      ∧ ((ledgerHour e ecc s).worn e = true → s.worn e = false →
          (ledgerHour e ecc s).flag F.VAULT_LG_HRS_WEAR e = true ∧ (ledgerHour e ecc s).isSet Src.VAULT_WEAR_LIMIT = true)
      ∧ regsButAt [.VAULT_LG_HRS, .VAULT_LG_BIST, .VAULT_LG_ECC] e s (ledgerHour e ecc s) ∧ onlyRegs s (ledgerHour e ecc s) := by
  obtain ⟨hours, since, errs, frame, only⟩ := hourNoted_facts e ecc s
  rw [ledgerHour_active h]
  split
  · refine ⟨?_, ?_, fun he => ?_, fun _ _ => ⟨?_, isSet_raise_same _ (by decide)⟩, ?_, ?_⟩
    · rw [fld_raise, fld_setFlag_apart _ (by decide) (by decide), hours]
    · rw [fld_raise, fld_setFlag_apart _ (by decide) (by decide), since]
    · rw [fld_raise, fld_setFlag_apart _ (by decide) (by decide), errs he]
    · rw [flag_raise]
      exact flag_setFlag_same _ (by decide) rfl _ true
    · rw [regsButAt_raise, regsButAt_setFlag (by decide)]
      exact frame
    · rw [onlyRegs_raise_iff, onlyRegs_setFlag_iff]
      exact only
  · next hc => exact ⟨hours, since, errs, fun hw hs => absurd (by simp [hw, hs]) hc, frame, only⟩

theorem ledgerBytes_length (s : State) (seq : Nat) : (s.ledgerBytes seq).length = 6764 := by
  have entries (g : Nat → List Byte) (hg : ∀ e, (g e).length = 16) : ((List.range 422).flatMap g).length = 6752 := by
    rw [List.length_flatMap, funext hg, List.map_const', List.sum_replicate, List.length_range]
    rfl
  have tag : (tag4 0x53 0x56 0x4C 0x47).length = 4 := rfl
  simp only [State.ledgerBytes, List.length_append, leBytes_length, tag]
  rw [entries _ fun e => by simp only [List.length_append, leBytes_length]]

/-- The record that a save writes (R453, R479). -/
def State.ledgerSlot (s : State) : Nat := match s.currentLedger with | none => 0 | some x => (x.1 + 1) % 4

theorem saveLedger_eq (s : State) : saveLedger s =
    program (ledgerAddr s.ledgerSlot) (s.ledgerBytes s.nextSeq) (eraseFlash (ledgerAddr s.ledgerSlot) 0x2000 s) := rfl

theorem saveLedger_only (s : State) : saveLedger s = { s with mem := (saveLedger s).mem } := by
  rw [saveLedger_eq]
  generalize s.ledgerBytes s.nextSeq = bs
  generalize ledgerAddr s.ledgerSlot = base
  rfl

/-- The saved ledger reads back, and memory outside its record is as before. -/
theorem saveLedger_facts (h : s.mem.wf = true) :
    (saveLedger s).flash (ledgerAddr s.ledgerSlot) (s.ledgerBytes s.nextSeq).length = s.ledgerBytes s.nextSeq
      ∧ ∀ a, (a < ledgerAddr s.ledgerSlot ∨ ledgerAddr s.ledgerSlot + 0x2000 ≤ a) → (saveLedger s).mem.read a = s.mem.read a := by
  rw [saveLedger_eq]
  have len := ledgerBytes_length s s.nextSeq
  generalize s.ledgerBytes s.nextSeq = bs at len ⊢
  generalize ledgerAddr s.ledgerSlot = base
  have wf : (eraseFlash base 0x2000 s).mem.wf = true := clearRange_wf _ _ _ h
  refine ⟨flash_program wf ((erased_eraseFlash h _ _).mono (Nat.le_refl _) (by omega)), fun a ha => ?_⟩
  rw [read_program_outside wf (by omega), read_eraseFlash h, if_pos ha]

end

/-- Settles O57: commands by their answers, the pseudo-channel's migration by `endMigration_pc`, the ledger by its entry and by what a
save leaves in flash. -/
theorem vaultRotatesRetiresAndKeepsItsLedger : Obligations.VaultRotatesRetiresAndKeepsItsLedger := by
  have apart {m : Fin 8} (h : m.val ≤ 5) : m.val ≠ 7 := by omega
  refine ⟨fun m v e s hm ht hu hr hfree => ?_, fun m v e s hm ht hu hr => ?_, fun m v s hm ht => ?_, fun v s c hc => ?_,
    fun m v e s hm he hlt hst => ?_, fun m v e s hm he hbad => ?_, fun x s hx hkeep hlo hhi slo shi hne hdrains => ?_,
    fun s hm hw => congrArg Host.Outcome.next ((congrArg retryRetire (endMigration_none hm)).trans (retryRetire_none hw)),
    fun k b s hp => ?_, fun k b s hp => congrArg Host.Outcome.next (rotationDue_stopped hp b), fun e ecc s he => ?_,
    fun e ecc s he => congrArg Host.Outcome.next (ledgerHour_idle he ecc), fun j s hwf hj => ?_, fun s => ?_, fun v e s he hlt => ?_,
    fun m v s h5 h7 => ?_⟩
  · obtain ⟨op, ty, pl, un⟩ := of_op_put v 1 (by decide)
    have eq : byMaster m .VAULT_CMD 0 (vaultCmd m (F.VAULT_CMD_OP.put v 1)) s
        = requestRun e true (rotateAnswered (F.VAULT_CMD_TYPE.of v) (F.VAULT_CMD_PLANE.of v != 0) s) := by
      rw [byMaster_of_ne (apart hm), vaultCmd_rotate hm op, ty, pl, un, rotateCmd_queues ht hu hr]
    generalize hu : rotateAnswered (F.VAULT_CMD_TYPE.of v) (F.VAULT_CMD_PLANE.of v != 0) s = u at eq
    obtain ⟨result, due, frame⟩ := rotateAnswered_facts (F.VAULT_CMD_TYPE.of v) (F.VAULT_CMD_PLANE.of v != 0) s
    rw [hu] at result due frame
    have vault : u.vault = s.vault := by rw [← hu]; rfl
    obtain ⟨queue, running, migr⟩ := requestRun_joins (e := e) (s := u) (by rw [State.underTest, vault]; exact hfree) true
    obtain ⟨frame', -, only⟩ := requestRun_frame e true u
    have which : (if F.VAULT_CMD_TYPE.of v = 0 ∧ F.VAULT_CMD_PLANE.of v ≠ 0 then 1 else 0)
        = b2n (F.VAULT_CMD_TYPE.of v == 0 && F.VAULT_CMD_PLANE.of v != 0) := by
      simp [b2n]
    have still : Machine.still s (requestRun e true u) := ⟨by simp [← hu, rotateAnswered], by simp [← hu, rotateAnswered]⟩
    refine ⟨_, congrArg Host.Outcome.next eq, ?_, ?_, ?_, ?_, ?_, ?_, still⟩
    · rw [frame'.fld (by decide), result]
    · rw [queue, vault]
    · rw [running, vault]
    · rw [migr, vault]
    · rw [frame'.fld (by decide), which, due]
    · exact regsBut_trans (regsBut_mono (by decide) frame) (regsBut_mono (by decide) frame')
  · obtain ⟨op, ty, pl, un⟩ := of_op_put v 1 (by decide)
    obtain ⟨frame, only⟩ := vaultAnswered_frame (s.rotateResult e) s
    have eq : byMaster m .VAULT_CMD 0 (vaultCmd m (F.VAULT_CMD_OP.put v 1)) s
        = (s.setFld F.VAULT_CMD_STAT_RESULT 0 (s.rotateResult e)).raiseIf (s.rotateResult e == 2) Src.VAULT_NO_SPARE := by
      rw [byMaster_of_ne (apart hm), vaultCmd_rotate hm op, ty, pl, un, rotateCmd_answers ht hu hr]
    have lt := rotateResult_lt s e
    refine ⟨_, congrArg Host.Outcome.next eq, ?_, fun h2 => ?_, (regsButAt_raiseIf ..).2 frame, (onlyRegs_raiseIf ..).2 only⟩
    · rw [fld_of_regs (raiseIf_regs ..)]
      exact vaultAnswered (by omega) s
    · rw [h2]
      exact isSet_raise_same _ (by decide)
  · obtain ⟨op, ty, pl, un⟩ := of_op_put v 1 (by decide)
    obtain ⟨frame, only⟩ := vaultAnswered_frame 4 s
    have eq : byMaster m .VAULT_CMD 0 (vaultCmd m (F.VAULT_CMD_OP.put v 1)) s = s.setFld F.VAULT_CMD_STAT_RESULT 0 4 := by
      rw [byMaster_of_ne (apart hm), vaultCmd_rotate hm op, ty, pl, un, ht]
      rfl
    exact ⟨_, congrArg Host.Outcome.next eq, vaultAnswered (by decide) s, frame, only, rfl⟩
  · have rejects {c : Instr} (h : exec c s = .next (s.reject .VAULT)) : ∃ t, exec c s = .next t ∧ t.regs = s.regs
        ∧ t.isSet Src.VAULT_CFG_REJECT = true ∧ onlyRegs s t := ⟨_, h, reject_regs .., isSet_reject .., by simp⟩
    simp only [List.mem_cons, List.not_mem_nil, or_false] at hc
    have masters {m : Nat} (hm : m ≠ 7) (w : Word) (h : vaultCmd m w s = s.reject .VAULT) :
        byMaster m .VAULT_CMD 0 (vaultCmd m w) s = s.reject .VAULT := (byMaster_of_ne hm ..).trans h
    rcases hc with rfl | rfl | rfl | rfl
    · exact rejects (congrArg Host.Outcome.next (masters (m := 6) (by decide) _ (vaultCmd_barred (by decide) _)))
    · exact rejects (congrArg Host.Outcome.next (masters (m := 6) (by decide) _ (vaultCmd_barred (by decide) _)))
    · exact rejects (congrArg Host.Outcome.next (masters (m := 6) (by decide) _ (vaultCmd_barred (by decide) _)))
    · refine rejects (congrArg Host.Outcome.next (masters (m := 0) (by decide) _ (vaultCmd_reserved ?_)))
      split
      · next h => exact .inr h
      · exact .inl (of_op_put v 0 (by decide)).1
  · obtain ⟨op, ty, pl, un⟩ := of_op_put v 2 (by decide)
    obtain ⟨frame, only⟩ := vaultAnswered_frame 0 s
    have eq : byMaster m .VAULT_CMD 0 (vaultCmd m (F.VAULT_CMD_OP.put v 2)) s = retireUnit e (s.setFld F.VAULT_CMD_STAT_RESULT 0 0) := by
      rw [byMaster_of_ne (apart hm), vaultCmd_retire hm op, un, ← he, retireCmd_retires hlt hst]
    exact ⟨_, congrArg Host.Outcome.next eq, vaultAnswered (by decide) s, frame, only, rfl⟩
  · obtain ⟨op, ty, pl, un⟩ := of_op_put v 2 (by decide)
    obtain ⟨frame, only⟩ := vaultAnswered_frame (if 294 ≤ e then 4 else 3) s
    have eq : byMaster m .VAULT_CMD 0 (vaultCmd m (F.VAULT_CMD_OP.put v 2)) s = s.setFld F.VAULT_CMD_STAT_RESULT 0 (if 294 ≤ e then 4 else 3) := by
      rw [byMaster_of_ne (apart hm), vaultCmd_retire hm op, un, ← he, retireCmd_answers hbad]
    exact ⟨_, congrArg Host.Outcome.next eq, vaultAnswered (by split <;> decide) s, frame, only, rfl⟩
  · obtain ⟨w, migr, running, ends⟩ := endMigration_pc hx hkeep hlo hhi slo shi hdrains
    have still : Machine.still s (endMigration 5 s) := ⟨by simp, by simp⟩
    obtain ⟨left, taken, count⟩ := pcMoved_facts hne { s with vault := { s.vault with migr := s.vault.migr.erase 5 } }
    generalize pcMoved x { s with vault := { s.vault with migr := s.vault.migr.erase 5 } } = u at ends left taken count
    have flds {e : Nat} (elo : 130 ≤ e) (ehi : e < 198) : (endMigration 5 s).unitState e = u.fld F.VAULT_LG_HRS_STATE e := by
      rw [State.unitState, unitField_pc elo ehi, ends, fld_raise, State.bump]
      exact fld_bumpN_apart (f := F.VAULT_LG_HRS_STATE) _ _ _ (by decide) _
    refine ⟨endMigration 5 s, rfl, (flds hlo hhi).trans left, (flds slo shi).trans taken, ?_, ?_, ?_, ?_, still⟩
    · rw [ends, raise_vault, bump_vault]
      exact running
    · rw [ends, raise_vault, bump_vault, migr]
      exact AMap.find?_erase_same ..
    · rw [ends]
      exact isSet_raise_same _ (by decide)
    · rw [ends, reg_raise, State.bump, reg_bumpN_same]
      exact congrArg (fun c : Word => BitVec.ofNat 32 (min (2 ^ 32 - 1) (c.toNat + 1))) count
  · obtain ⟨n, eq⟩ := rotationDue_falls hp b
    have regs : (passToNow n s).regs = s.regs := elapse_regs ..
    have which : (if k = 0 ∧ b = true then 1 else 0) = b2n (k.val == 0 && b) := by
      have zero : k = 0 ↔ k.val = 0 := Fin.ext_iff
      simp only [b2n, zero, Bool.and_eq_true, beq_iff_eq]
    refine ⟨_, congrArg Host.Outcome.next eq, ?_, ?_, fun j hj => ?_, ?_, by simp, by simp⟩
    · rw [which, fld_setFld_same _ (by decide), Nat.mod_eq_of_lt (due_fits ..), bitsOf_one_of_bit _ _ _ (by decide)]
    · rw [fld_setFld_apart _ (by decide) (by decide), fld_of_regs regs]
    · rw [← reg_of_regs regs]
      exact reg_setReg_ne _ _ fun _ => hj
    · rw [regsBut_setFld (by decide)]
      exact regsBut_of_regs regs
  · exact ⟨_, rfl, ledgerHour_facts he ecc⟩
  · obtain ⟨saved, outside⟩ := saveLedger_facts hwf
    have slot : j = s.ledgerSlot := hj
    rw [slot]
    exact ⟨_, congrArg Host.Outcome.next (if_pos rfl), saved, outside, saveLedger_only s⟩
  · exact ⟨_, rfl, isSet_raise_same _ (by decide), raise_regs .., by simp⟩
  · have eq : byMaster 5 .VAULT_REC 0 (writeRec 5 v) s = { s with
        otp := { s.otp with retired := e :: s.otp.retired.filter (· != e) },
        vault := { s.vault with recPend := s.vault.recPend.filter (· != e) } } := by
      rw [byMaster_of_ne (by decide), writeRec, if_neg (by decide), ← he, if_neg (by omega)]
    refine ⟨_, congrArg Host.Outcome.next eq, List.mem_cons_self .., by simp, fun k hk => ?_, rfl, rfl, rfl, rfl⟩
    by_cases hke : k = e
    · exact hke ▸ List.mem_cons_self ..
    · exact List.mem_cons_of_mem _ (by simp [hk, hke])
  · have eq : byMaster m .VAULT_REC 0 (writeRec m v) s = s.reject .VAULT := by
      rw [byMaster_of_ne fun h => h7 (Fin.ext h), writeRec]
      exact if_pos fun h => h5 (Fin.ext h)
    exact ⟨_, congrArg Host.Outcome.next eq, reject_otp .., reject_regs .., isSet_reject .., by simp⟩

end Sys2Proof.Machine
end

section
/-!
SUPPORT. The slots of the boot flash: where a record is appended (R463), a piece is written (R466, R467), a slot is erased (R478)
and verified (R469), and what each leaves alone.
-/

namespace Sys2Proof.Machine

section
variable {k i st id count version a : Nat} {x : Nat × SlotRec} {l : List (Nat × SlotRec)} {s t : State}

/-! ### Record places (R463) -/

theorem SlotRec.bytes_length (r : SlotRec) : r.bytes.length = 64 := by
  simp only [SlotRec.bytes, List.length_append, leBytes_length, List.length_replicate, tag4, List.length_cons, List.length_nil]

theorem newestRec_from {best : Option (Nat × SlotRec)}
    (h : l.foldl (fun best x => match best with
      | none => some x
      | some b => if b.2.seq < x.2.seq then some x else some b) best = some x) : best = some x ∨ x ∈ l := by
  induction l generalizing best with
  | nil => exact .inl h
  | cons y l ih =>
    rcases ih h with hy | hl
    · cases best with
      | none => exact .inr (Option.some.inj hy ▸ List.mem_cons_self)
      | some b =>
        dsimp only at hy
        split at hy
        · exact .inr (Option.some.inj hy ▸ List.mem_cons_self)
        · exact .inl hy
    · exact .inr (List.mem_cons_of_mem _ hl)

theorem newestRec_mem (h : newestRec l = some x) : x ∈ l := (newestRec_from h).resolve_left nofun

theorem currentRec_place (h : s.currentRec k = some x) : x.1 < 128 := by
  obtain ⟨i, hi, hx⟩ := List.mem_filterMap.1 (newestRec_mem h)
  obtain ⟨r, -, rfl⟩ := Option.map_eq_some_iff.1 hx
  exact List.mem_range.1 hi

/-- The sector in which the next record of a slot is tried. -/
def State.recSector (s : State) (k : Nat) : Nat := ((s.currentRec k).map (fun r => r.1 / 64)).getD 0

theorem recSector_le (s : State) (k : Nat) : s.recSector k ≤ 1 := by
  rw [State.recSector]
  cases h : s.currentRec k with
  | none => exact Nat.zero_le 1
  | some x =>
    have := currentRec_place h
    simp only [Option.map_some, Option.getD_some]
    omega

theorem freeRec_lt {sector : Nat} (h : s.freeRec k sector = some i) : i < 64 * sector + 64 := by
  simp only [State.freeRec] at h
  split at h
  · cases h
    omega
  · cases h

/-! ### Appending a record (R463) -/

theorem appendRec_at (h : s.freeRec k (s.recSector k) = some i) : appendRec k st id count version s =
    program (recAddr k i) (SlotRec.bytes ⟨s.nextSeq, st, id, count, version⟩) s := by
  unfold State.recSector at h
  simp only [appendRec, h]

theorem appendRec_full (h : s.freeRec k (s.recSector k) = none) : appendRec k st id count version s =
    program (recAddr k (64 * (1 - s.recSector k))) (SlotRec.bytes ⟨s.nextSeq, st, id, count, version⟩)
      (eraseFlash (recAddr k (64 * (1 - s.recSector k))) 4096 s) := by
  unfold State.recSector at h ⊢
  simp only [appendRec, h]

theorem appendRec_eq (k st id count version : Nat) (s : State) :
    appendRec k st id count version s = { s with mem := (appendRec k st id count version s).mem } := by
  cases h : s.freeRec k (s.recSector k) with
  | some i =>
    rw [appendRec_at h]
    rfl
  | none =>
    rw [appendRec_full h]
    rfl

theorem setSlot_eq (k st : Nat) (s : State) : setSlot k st s = { s with mem := (setSlot k st s).mem } := appendRec_eq ..

/-- An address outside the two record sectors of a slot. -/
def recsApart (k a : Nat) : Prop := a < slotBase k + 0x3001000 ∨ slotBase k + 0x3003000 ≤ a

theorem program_rec_apart (h : s.mem.wf = true) (hi : i < 128) (ha : recsApart k a) (r : SlotRec) :
    (program (recAddr k i) r.bytes s).mem.read a = s.mem.read a :=
  read_program_outside h (by rw [SlotRec.bytes_length, recAddr]; unfold recsApart at ha; omega)

/-- A record touches the record sectors of its slot alone. -/
theorem read_appendRec (h : s.mem.wf = true) (ha : recsApart k a) (st id count version : Nat) :
    (appendRec k st id count version s).mem.read a = s.mem.read a := by
  have sector := recSector_le s k
  cases hfree : s.freeRec k (s.recSector k) with
  | some i =>
    have place := freeRec_lt hfree
    rw [appendRec_at hfree]
    exact program_rec_apart h (by omega) ha _
  | none =>
    rw [appendRec_full hfree, program_rec_apart (clearRange_wf _ _ _ h) (by omega) ha, read_eraseFlash h, if_pos]
    unfold recsApart at ha
    rw [recAddr]
    omega

theorem read_setSlot (h : s.mem.wf = true) (ha : recsApart k a) (st : Nat) : (setSlot k st s).mem.read a = s.mem.read a :=
  read_appendRec h ha ..

end

/-! ### Pieces (R466, R467) -/

section
variable {k i len count : Nat} {p bs : List Byte} {s t : State}

/-- The bitmap bit of a piece is cleared by this byte. -/
def pieceMark (i : Nat) : Byte := BitVec.ofNat 8 (255 - 2 ^ (i % 8))

theorem bit_byte (v : Byte) (n : Nat) : bit v.toNat n = v.getLsbD n := by
  rw [bit, BitVec.getLsbD, Nat.testBit_eq_decide_div_mod_eq]
  rfl

theorem pieceMark_bit (i : Nat) (old : Byte) : bit (~~~ (old ||| ~~~ pieceMark i)).toNat (i % 8) = false := by
  have cleared : ∀ j : Fin 8, (BitVec.ofNat 8 (255 - 2 ^ j.val)).getLsbD j.val = false := by decide
  have hj : i % 8 < 8 := Nat.mod_lt _ (by decide)
  have := cleared ⟨i % 8, hj⟩
  rw [bit_byte, BitVec.getLsbD_not, BitVec.getLsbD_or, BitVec.getLsbD_not, pieceMark, this]
  simp [hj]

/-- The bitmap bit of a piece after it was cleared in the flash. -/
theorem received_program (h : s.mem.wf = true) (k i : Nat) : (program (bitmapBase k + i / 8) [pieceMark i] s).received k i = true := by
  have stored : (program (bitmapBase k + i / 8) [pieceMark i] s).flash (bitmapBase k + i / 8) 1
      = [~~~ (s.mem.read (bitmapBase k + i / 8) ||| ~~~ pieceMark i)] := by
    have := Memory.readBytes_writeBytes (bitmapBase k + i / 8) [s.mem.read (bitmapBase k + i / 8) ||| ~~~ pieceMark i] h
    exact congrArg (List.map (~~~ ·)) this
  rw [State.received, stored, List.getD_cons_zero, pieceMark_bit, Bool.not_false]

theorem received_congr (h : t.mem.read (bitmapBase k + i / 8) = s.mem.read (bitmapBase k + i / 8)) : t.received k i = s.received k i := by
  rw [State.received, flash_congr (s := s) fun x hx hx' => by rwa [show x = bitmapBase k + i / 8 by omega], State.received]

/-- The state with the bytes of piece `i` in its sector and its bitmap bit cleared. -/
def pieceStored (k i : Nat) (bs : List Byte) (s : State) : State :=
  program (bitmapBase k + i / 8) [pieceMark i] (program (slotBase k + i * 4096) bs (eraseFlash (slotBase k + i * 4096) 4096 s))

theorem pieceStored_facts (h : s.mem.wf = true) (hi : i < 12288) (hbs : bs.length ≤ 4096) :
    (pieceStored k i bs s).mem.wf = true ∧ (pieceStored k i bs s).flash (slotBase k + i * 4096) bs.length = bs
      ∧ (pieceStored k i bs s).received k i = true
      ∧ ∀ a, a < slotBase k + i * 4096 ∨ slotBase k + i * 4096 + 4096 ≤ a → a ≠ bitmapBase k + i / 8 →
        (pieceStored k i bs s).mem.read a = s.mem.read a := by
  have erased := clearRange_wf s.mem (slotBase k + i * 4096) (slotBase k + i * 4096 + 4096) h
  have sector : (program (slotBase k + i * 4096) bs (eraseFlash (slotBase k + i * 4096) 4096 s)).mem.wf = true :=
    Memory.wf_writeBytes _ _ erased
  refine ⟨Memory.wf_writeBytes _ _ sector, ?_, received_program sector k i, fun a ha hb => ?_⟩
  · rw [pieceStored, flash_congr fun x hx hx' => read_program_outside sector (by
      rw [List.length_singleton, bitmapBase]
      omega)]
    exact flash_program erased ((erased_eraseFlash h _ _).mono (Nat.le_refl _) (by omega))
  · rw [pieceStored, read_program_outside sector (by rw [List.length_singleton]; omega), read_program_outside erased (by omega),
      read_eraseFlash h, if_pos ha]

/-- A piece that the flash takes: the state before the slot is found complete. -/
def pieceTaken (k : Nat) (p : List Byte) (s : State) : State :=
  (pieceStored k (leAt p 12 4) ((p.drop 32).take (leAt p 20 4))
    (if s.slotState k = 0 then appendRec k 1 (leAt p 4 8) (leAt p 16 4) 0 s else s)).bump .FWU_PIECE_CNT 0

theorem writePiece_ok (k : Nat) (p : List Byte) (s : State) : writePiece k p true s =
    (0, if (pieceTaken k p s).receivedCount k = leAt p 16 4 then setSlot k 2 (pieceTaken k p s) else pieceTaken k p s) := rfl

/-- What a taken piece leaves: its bytes and its bitmap bit in the flash, nothing else outside the record sectors, and one more piece
counted. -/
theorem writePiece_facts (h : s.mem.wf = true) (hi : leAt p 12 4 = i) (hlen : leAt p 20 4 = len) (hi' : i < 12288)
    (hl : len ≤ 4096) (hp : 32 + len ≤ p.length) (ht : (writePiece k p true s).2 = t) :
    (t.flash (slotBase k + i * 4096) len = (p.drop 32).take len ∧ t.received k i = true
      ∧ ∀ a, a < slotBase k + i * 4096 ∨ slotBase k + i * 4096 + 4096 ≤ a → a ≠ bitmapBase k + i / 8 → recsApart k a →
        t.mem.read a = s.mem.read a)
      ∧ t = { s.bump .FWU_PIECE_CNT 0 with mem := t.mem } := by
  subst hi hlen ht
  rw [writePiece_ok, pieceTaken]
  dsimp only
  generalize hb : (p.drop 32).take (leAt p 20 4) = bs
  have blen : bs.length = leAt p 20 4 := by rw [← hb, List.length_take, List.length_drop]; omega
  generalize h1 : (if s.slotState k = 0 then appendRec k 1 (leAt p 4 8) (leAt p 16 4) 0 s else s) = s1
  have first : s1.mem.wf = true ∧ (∀ a, recsApart k a → s1.mem.read a = s.mem.read a) ∧ s1 = { s with mem := s1.mem } := by
    rw [← h1]
    split
    · exact ⟨appendRec_wf _ _ _ _ _ _ h, fun a ha => read_appendRec h ha .., appendRec_eq ..⟩
    · exact ⟨h, fun _ _ => rfl, rfl⟩
  obtain ⟨wf1, read1, eq1⟩ := first
  obtain ⟨wf2, flash2, rec2, read2⟩ := pieceStored_facts (k := k) (bs := bs) wf1 hi' (blen ▸ hl)
  generalize h2 : (pieceStored k (leAt p 12 4) bs s1).bump .FWU_PIECE_CNT 0 = s2
  have mem2 : s2.mem = (pieceStored k (leAt p 12 4) bs s1).mem := by rw [← h2]; rfl
  have eq2 : s2 = { s.bump .FWU_PIECE_CNT 0 with mem := s2.mem } := by
    rw [mem2, ← h2]
    conv_lhs => rw [eq1]
    rfl
  have last : ∀ u, u = setSlot k 2 s2 ∨ u = s2 → (∀ a, recsApart k a → u.mem.read a = s2.mem.read a) ∧ u = { s2 with mem := u.mem } := by
    rintro u (rfl | rfl)
    · exact ⟨fun a ha => read_setSlot (mem2 ▸ wf2) ha 2, setSlot_eq ..⟩
    · exact ⟨fun _ _ => rfl, rfl⟩
  generalize hu : (if s2.receivedCount k = leAt p 16 4 then setSlot k 2 s2 else s2) = u
  obtain ⟨read3, eq3⟩ := last u (by rw [← hu]; exact ite_eq_or_eq ..)
  rw [mem2] at read3
  refine ⟨⟨?_, ?_, fun a ha hb hr => (read3 a hr).trans ((read2 a ha hb).trans (read1 a hr))⟩, by rw [eq3, eq2]⟩
  · rw [← blen, flash_congr fun x hx hx' => read3 x (.inl (by omega)), flash2]
  · rw [received_congr (read3 _ (.inl (by rw [bitmapBase]; omega))), rec2]

end

/-! ### Erasing and verifying a slot (R469, R478) -/

section
variable {k : Nat} {s : State}

/-- The image area, the bitmap and the settings store are erased. -/
def areasErased (k : Nat) (s : State) : State := eraseFlash (slotBase k + 0x3010000) 0x400000 (eraseFlash (slotBase k) 0x3001000 s)

theorem eraseSlot_ok (k : Nat) (s : State) : eraseSlot k true s = (0, { appendRec k 0 0 0 0 (areasErased k s) with
    fwu := { (appendRec k 0 0 0 0 (areasErased k s)).fwu with
      preloaded := (appendRec k 0 0 0 0 (areasErased k s)).fwu.preloaded.filter (· != k) } }) := rfl

theorem eraseSlot_facts (k : Nat) (s : State) : (eraseSlot k true s).1 = 0 ∧ (eraseSlot k true s).2 =
    { s with mem := (eraseSlot k true s).2.mem, fwu := { s.fwu with preloaded := s.fwu.preloaded.filter (· != k) } } := by
  refine ⟨rfl, ?_⟩
  rw [eraseSlot_ok, appendRec_eq]
  rfl

/-- What an erased slot reads: blank in the image area, the bitmap and the settings store. -/
theorem read_eraseSlot (h : s.mem.wf = true) (k : Nat) {a : Nat} (ha : (slotBase k ≤ a ∧ a < slotBase k + 0x3001000)
    ∨ (slotBase k + 0x3010000 ≤ a ∧ a < slotBase k + 0x3410000)) : (eraseSlot k true s).2.mem.read a = 0 := by
  have wf1 : (eraseFlash (slotBase k) 0x3001000 s).mem.wf = true := clearRange_wf _ _ _ h
  rw [eraseSlot_ok]
  dsimp only
  rw [read_appendRec (clearRange_wf _ _ _ wf1) (by unfold recsApart; omega), areasErased, read_eraseFlash wf1]
  split
  · rw [read_eraseFlash h, if_neg (by omega)]
  · rfl

theorem loadImage_only (k : Nat) (stage : Bool) (s : State) : loadImage k stage s = { s with mem := (loadImage k stage s).mem } :=
  foldl_rel (R := fun s t => t = { s with mem := t.mem }) (fun _ => rfl) (fun h h' => by rw [h', h]) (fun _ _ => rfl) _ s

/-- The state with the image of a slot preloaded, where its header and segments are right. -/
def preload (k : Nat) (s : State) : State := if s.imageHeaderOk k && s.imageSegmentsOk k then loadImage k true s else s

theorem preload_only (k : Nat) (s : State) : preload k s = { s with mem := (preload k s).mem } := by
  unfold preload
  split
  · exact loadImage_only ..
  · rfl

theorem verifySlot_ok (h : s.imageResult k = 0) : ∃ m, verifySlot k s =
    (0, { s with mem := m, fwu := { s.fwu with preloaded := k :: s.fwu.preloaded.filter (· != k) } }) := by
  refine ⟨(verifySlot k s).2.mem, ?_⟩
  rw [verifySlot, if_pos h]
  dsimp only
  rw [appendRec_eq, show (if s.imageHeaderOk k && s.imageSegmentsOk k then loadImage k true s else s) = preload k s from rfl, preload_only]

theorem setSlot_preload_only (k st : Nat) (s : State) : setSlot k st (preload k s) = { s with mem := (setSlot k st (preload k s)).mem } := by
  generalize hm : (setSlot k st (preload k s)).mem = m
  rw [setSlot_eq, hm, preload_only]

theorem verifySlot_fails (h : s.imageResult k ≠ 0) : ∃ m, verifySlot k s =
    (s.imageResult k, State.raise { s with mem := m } Src.FWU_VERIFY_FAIL) := by
  refine ⟨(setSlot k 8 (preload k s)).mem, ?_⟩
  rw [verifySlot, if_neg h, ← setSlot_preload_only]
  rfl

end

end Sys2Proof.Machine
end

section
/-!
SUPPORT. What a core or a system reset clears and keeps of the registers (R403, R517), the roles that units take (R458), and the
instant at which a reset begins (R406).
-/

namespace Sys2Proof

/-- The registers stand in the order of their codes. -/
theorem RegName.all_codes : RegName.all.map RegName.code = List.range 558 := by decide +kernel

theorem RegName.code_lt_all (r : RegName) : r.code < 558 := by cases r <;> decide

theorem RegName.ofCode_code (r : RegName) : RegName.ofCode r.code = some r := by
  have here : (RegName.all.map RegName.code)[r.code]? = some r.code := by
    rw [RegName.all_codes, List.getElem?_range r.code_lt_all]
  rw [List.getElem?_map, Option.map_eq_some_iff] at here
  obtain ⟨q, hq, hcode⟩ := here
  rwa [RegName.code_inj hcode] at hq

namespace Machine

section
variable {rs : List RegName} {keep : RegName → Word} {r : RegName} {i : Nat} {s t : State}

/-! ### The register file of a reset (R403) -/

/-- What a reset leaves of a register: the bits that it keeps, the others at their reset values. -/
def keptWord (keep : RegName → Word) (s : State) (r : RegName) (i : Nat) : Word :=
  (s.reg r i &&& keep r) ||| (r.resetWord i &&& ~~~ keep r)

theorem reg_clearRegs (h : t.regs = clearRegs keep s.regs) (r : RegName) (i : Nat) : t.reg r i = keptWord keep s r i := by
  have code : regKey r i % 1024 = r.code ∧ regKey r i / 1024 = i := by
    have := r.code_lt
    unfold regKey
    omega
  rw [State.reg, h, clearRegs, AMap.get, AMap.find?_map]
  simp only [code, r.ofCode_code]
  rw [keptWord, State.reg, AMap.get]
  cases s.regs.find? (regKey r i) with
  | some w => rfl
  | none =>
    refine BitVec.eq_of_getLsbD_eq fun k hk => ?_
    simp only [Option.map_none, Option.getD_none, BitVec.getLsbD_or, BitVec.getLsbD_and, BitVec.getLsbD_not, hk]
    cases (r.resetWord i).getLsbD k <;> cases (keep r).getLsbD k <;> rfl

theorem keptWord_all (h : keep r = 0xFFFFFFFF#32) : keptWord keep s r i = s.reg r i := by
  rw [keptWord, h, show (0xFFFFFFFF#32 : Word) = BitVec.allOnes 32 from rfl, BitVec.and_allOnes, BitVec.not_allOnes, BitVec.and_zero,
    BitVec.or_zero]

theorem keptWord_none (h : keep r = 0#32) : keptWord keep s r i = r.resetWord i := by
  rw [keptWord, h, BitVec.and_zero, BitVec.not_zero, BitVec.and_allOnes, BitVec.zero_or]

/-! ### The roles of the units (R458) -/

/-- The registers that show the units and what they serve. -/
def servedRegs : List RegName := [.XPT_SLICE_STAT, .CUE_ENG_STAT, .WCOMP_UNIT, .AUD_ASRC_UNIT, .CPU_CORE_STAT, .VAULT_LG_HRS,
  .WCOMP_PIPE_STAT, .AUD_ASRC_STAT, .LANE_QUAD_STAT]

theorem unitRegs_subset : unitRegs ⊆ servedRegs := by decide

/-- Two states that differ in the roles of units alone. -/
def rolesOnly (s t : State) : Prop := regsBut servedRegs s t ∧ t = { s with regs := t.regs, cue := t.cue, aud := t.aud }

theorem rolesOnly_refl (s : State) : rolesOnly s s := ⟨regsBut_refl, rfl⟩

theorem rolesOnly.trans {u : State} (h : rolesOnly s t) (h' : rolesOnly t u) : rolesOnly s u :=
  ⟨regsBut_trans h.1 h'.1, h'.2.trans (by rw [h.2])⟩

theorem rolesOnly_setFld {f : Fld} (hf : f.reg ∈ servedRegs) (i v : Nat) (s : State) : rolesOnly s (s.setFld f i v) :=
  ⟨(regsBut_setFld hf i v).2 regsBut_refl, rfl⟩

theorem rolesOnly_setUnit (e st : Nat) (s : State) : rolesOnly s (s.setUnit e st) :=
  rolesOnly_setFld (unitRegs_subset (unitField_reg_mem e)) _ _ s

theorem rolesOnly_foldl {α : Type} {g : State → α → State} (h : ∀ a x, rolesOnly a (g a x)) (l : List α) (s : State) :
    rolesOnly s (l.foldl g s) := foldl_rel rolesOnly_refl rolesOnly.trans h l s

theorem rolesOnly_activate (l : List Nat) (n : Nat) (s : State) : rolesOnly s (activate l n s) :=
  rolesOnly_foldl (fun a _ => rolesOnly_setUnit _ _ a) _ s

theorem rolesOnly_setServe (e : Nat) (d : Option Nat) (s : State) : rolesOnly s (setServe e d s) := by
  have moved : rolesOnly s { s with cue := { s.cue with serve := s.cue.serve.set e d } } := ⟨regsBut_of_regs rfl, rfl⟩
  cases d with
  | some d => exact moved.trans (rolesOnly_setFld (f := F.CUE_ENG_STAT_TD) (by decide) _ _ _)
  | none => exact moved

theorem rolesOnly_engineRoles (s : State) : rolesOnly s (engineRoles s) :=
  (rolesOnly_foldl (fun a _ => rolesOnly_setServe _ _ a) (List.range 18) s).trans ⟨regsBut_of_regs rfl, rfl⟩

theorem rolesOnly_givePipe (q u : Nat) (s : State) : rolesOnly s (givePipe q u s) :=
  (((rolesOnly_setUnit _ _ s).trans (rolesOnly_setFld (f := F.WCOMP_UNIT_SERVES) (by decide) _ _ _)).trans
    (rolesOnly_setFld (f := F.WCOMP_PIPE_STAT_UNIT) (by decide) _ _ _)).trans
    (rolesOnly_setFld (f := F.WCOMP_PIPE_STAT_NO_UNIT) (by decide) _ _ _)

theorem rolesOnly_pipeRoles (s : State) : rolesOnly s (pipeRoles s) := by
  refine rolesOnly_foldl (fun a q => ?_) _ s
  split
  · exact rolesOnly_givePipe ..
  · exact rolesOnly_setFld (f := F.WCOMP_PIPE_STAT_NO_UNIT) (by decide) _ _ _

theorem rolesOnly_giveAsrc (c u : Nat) (s : State) : rolesOnly s (giveAsrc c u s) :=
  (((rolesOnly_setUnit _ _ s).trans (rolesOnly_setFld (f := F.AUD_ASRC_UNIT_SERVES) (by decide) _ _ _)).trans
    (rolesOnly_setFld (f := F.AUD_ASRC_STAT_UNIT) (by decide) _ _ _)).trans ⟨regsBut_of_regs rfl, rfl⟩

theorem rolesOnly_asrcRoles (s : State) : rolesOnly s (asrcRoles s) := by
  refine rolesOnly_foldl (fun a c => ?_) _ s
  split
  · exact rolesOnly_giveAsrc ..
  · exact ⟨regsBut_of_regs rfl, rfl⟩

theorem rolesOnly_coreRoles (s : State) : rolesOnly s (coreRoles s) :=
  rolesOnly_foldl (fun a _ => rolesOnly_setFld (f := F.CPU_CORE_STAT_HART) (by decide) _ _ a) _ s

theorem rolesOnly_pllRoles (s : State) (q : Nat) : rolesOnly s (pllRoles s q) :=
  (rolesOnly_activate _ _ s).trans (rolesOnly_setFld (f := F.LANE_QUAD_STAT_SPARE) (by decide) _ _ _)

theorem rolesOnly_assignRoles (s : State) : rolesOnly s (assignRoles s) := by
  rw [assignRoles]
  generalize h : List.foldl _ s _ = s1
  have first : rolesOnly s s1 := by
    rw [← h]
    exact rolesOnly_foldl (fun a _ => rolesOnly_activate ..) _ s
  exact ((((first.trans (rolesOnly_engineRoles _)).trans (rolesOnly_pipeRoles _)).trans (rolesOnly_asrcRoles _)).trans
    (rolesOnly_coreRoles _)).trans (rolesOnly_foldl rolesOnly_pllRoles (List.range 32) _)

theorem rolesOnly_rolesAfter (before s : State) : rolesOnly s (rolesAfter before s) := by
  rw [rolesAfter]
  generalize h : List.foldl _ s _ = s1
  have kept : rolesOnly s s1 := by
    rw [← h]
    exact rolesOnly_foldl (fun a _ => rolesOnly_setUnit ..) _ s
  exact kept.trans (rolesOnly_assignRoles s1)

/-! ### A system reset (R403) -/

/-- The registers of the ledger. -/
def ledgerRegs : List RegName := [.VAULT_LG_HRS, .VAULT_LG_BIST, .VAULT_LG_VMIN]

theorem ledgerUpdate_frame (e : Nat) {f : State → State} (hf : ∀ a, regsBut ledgerRegs a (f a) ∧ onlyRegs a (f a)) (s : State) :
    regsBut ledgerRegs s (ledgerUpdate e f s) ∧ onlyRegs s (ledgerUpdate e f s) := by
  rw [ledgerUpdate]
  split
  · rw [regsBut_raise, regsBut_setFlag (by decide), onlyRegs_raise_iff, onlyRegs_setFlag_iff]
    exact hf s
  · exact hf s

theorem ledgerRun_frame (e verdict : Nat) (margin : Option Nat) (s : State) : regsBut ledgerRegs s (ledgerRun e verdict margin s)
    ∧ onlyRegs s (ledgerRun e verdict margin s) := by
  refine ledgerUpdate_frame e (fun a => ?_) s
  dsimp only
  generalize hu : a.setFlds e [(F.VAULT_LG_BIST_VERDICT, verdict), (F.VAULT_LG_BIST_RUNS, min 4095 (a.fld F.VAULT_LG_BIST_RUNS e + 1))] = u
  have run : regsBut ledgerRegs a u ∧ onlyRegs a u := by
    rw [← hu]
    exact ⟨(regsBut_setFlds _ _ (by simp [ledgerRegs])).2 regsBut_refl, (onlyRegs_setFlds_iff ..).2 onlyRegs_refl⟩
  generalize hw : (if verdict = 1 then u.setFld F.VAULT_LG_BIST_SINCE_H e 0 else u) = w
  have since : regsBut ledgerRegs a w ∧ onlyRegs a w := by
    rw [← hw]
    split
    · exact ⟨(regsBut_setFld (by decide) _ _).2 run.1, (onlyRegs_setFld_iff ..).2 run.2⟩
    · exact run
  cases margin with
  | none => exact since
  | some m => exact ⟨(regsBut_setFlds _ _ (by simp [ledgerRegs])).2 since.1, (onlyRegs_setFlds_iff ..).2 since.2⟩

theorem ledgerCut_frame (s : State) : regsBut ledgerRegs s (ledgerCut s) ∧ onlyRegs s (ledgerCut s) :=
  foldl_rel (R := fun a b => regsBut ledgerRegs a b ∧ onlyRegs a b) (fun _ => ⟨regsBut_refl, onlyRegs_refl⟩)
    (fun h h' => ⟨regsBut_trans h.1 h'.1, onlyRegs_trans h.2 h'.2⟩) (fun a e => ledgerRun_frame e 3 none a) _ s

theorem disarmSlots_eq (s : State) : disarmSlots s = { s with mem := (disarmSlots s).mem, fwu := { s.fwu with armed := none } } := by
  have slots (l : List Nat) : ∀ s : State, l.foldl (fun (t : State) k => if t.slotState k = 4 then setSlot k 3 t else t) s
      = { s with mem := (l.foldl (fun (t : State) k => if t.slotState k = 4 then setSlot k 3 t else t) s).mem } :=
    foldl_rel (R := fun s t => t = { s with mem := t.mem }) (fun _ => rfl) (fun h h' => by rw [h', h]) (fun a k => by
      split
      · exact setSlot_eq ..
      · rfl) l
  rw [disarmSlots, slots]

/-- The state before the clearing of a system reset: the cut runs in the ledger, no slot armed. -/
def cutState (s : State) : State := disarmSlots (ledgerCut s)

theorem cutState_regs (s : State) : (cutState s).regs = (ledgerCut s).regs := by
  rw [cutState, disarmSlots_eq]

theorem cutState_rst (s : State) : (cutState s).rst = s.rst := by
  rw [cutState, disarmSlots_eq, (ledgerCut_frame s).2]

theorem reg_systemClear (hr : r ∉ servedRegs) (hl : r ∉ ledgerRegs) (i : Nat) : (systemClear s).reg r i = keptWord sysKeep s r i := by
  have cut : (cutState s).reg r i = s.reg r i := (reg_of_regs (cutState_regs s) r i).trans ((ledgerCut_frame s).1 r i hl)
  rw [systemClear]
  dsimp only
  rw [reg_of_regs (alertUpdate_regs _), (rolesOnly_rolesAfter _ _).1 r i hr]
  refine (reg_clearRegs (s := cutState s) rfl r i).trans ?_
  rw [keptWord, keptWord, cut]

theorem systemClear_rst (s : State) : (systemClear s).rst =
    { s.rst with conf := .empty, harts := [], begins := false, inStart := false, wdtOn := false, activating := false } := by
  rw [systemClear]
  dsimp only
  rw [alertUpdate_rst, (rolesOnly_rolesAfter _ _).2]
  exact congrArg (fun x : RstState => { x with conf := .empty, harts := [], begins := false, inStart := false, wdtOn := false, activating := false })
    (cutState_rst s)

/-! ### A core reset (R403, R409) -/

theorem masterReset_only (m : Nat) (s : State) : masterReset m s = { s with bus := (masterReset m s).bus } := rfl

/-- The ports of the cores and DMA reset. -/
def portsReset (s : State) : State := dmaReset ((List.range 5).foldl (fun t c => masterReset c t) s)

theorem portsReset_only (s : State) : portsReset s = { s with bus := (portsReset s).bus } := by
  have ports (l : List Nat) : ∀ s : State, l.foldl (fun t c => masterReset c t) s =
      { s with bus := (l.foldl (fun t c => masterReset c t) s).bus } :=
    foldl_rel (R := fun s t => t = { s with bus := t.bus }) (fun _ => rfl) (fun h h' => by rw [h', h]) (fun _ _ => rfl) l
  rw [portsReset, ports]
  rfl

theorem wallReserve_only (s : State) : ∃ h, wallReserve s = { s with xpt := { s.xpt with hbm := h } } := by
  rw [wallReserve]
  split
  · exact ⟨_, rfl⟩
  · exact ⟨_, rfl⟩

/-- The state in which a core reset has cleared the fields of reach C. -/
def coreCleared (s : State) : State := { s with regs := clearRegs coreKeep s.regs }

theorem coreClear_eq (s : State) : coreClear s = wallReserve { (portsReset (coreCleared s)).setFld F.CPU_STAT_HARTS_UP 0 0 with
    rst := { (portsReset (coreCleared s)).rst with conf := .empty, harts := [], begins := false, inStart := false, wdtOn := false } } := rfl

theorem coreClear_facts (s : State) : (coreClear s).rst =
      { s.rst with conf := .empty, harts := [], begins := false, inStart := false, wdtOn := false }
    ∧ (coreClear s).fld F.CPU_STAT_HARTS_UP 0 = 0 ∧ (∀ r i, r ≠ .CPU_STAT → (coreClear s).reg r i = keptWord coreKeep s r i)
    ∧ (coreClear s).xpt = { s.xpt with hbm := (coreClear s).xpt.hbm } ∧ (coreClear s).fwu = s.fwu ∧ (coreClear s).hbm = s.hbm
    ∧ (coreClear s).mem = s.mem := by
  rw [coreClear_eq]
  obtain ⟨h, hw⟩ := wallReserve_only { (portsReset (coreCleared s)).setFld F.CPU_STAT_HARTS_UP 0 0 with
    rst := { (portsReset (coreCleared s)).rst with conf := .empty, harts := [], begins := false, inStart := false, wdtOn := false } }
  rw [hw, portsReset_only]
  refine ⟨rfl, fld_setFld_same _ (by decide) 0 0, fun r i hr => ?_, rfl, rfl, rfl, rfl⟩
  have cleared : ({ coreCleared s with bus := (portsReset (coreCleared s)).bus } : State).regs = clearRegs coreKeep s.regs := rfl
  exact (reg_setReg_ne _ _ fun h => absurd h hr).trans (reg_clearRegs cleared r i)

/-! ### A reset that software asks for (R405, R414) -/

section
variable {lvl c : Nat}

/-- The state in which a request is recorded and the start that runs ends without a verdict. -/
def softCause (c : Nat) (s : State) : State := { recordCause c s with rst := { s.rst with inStart := false } }

theorem beginReset_soft (lvl c : Nat) (s : State) : ∃ n, beginReset lvl true false (some c) s =
    alertUpdate { deepen lvl (softCause c s) with rst := { (deepen lvl (softCause c s)).rst with relAt := n } } := by
  simp only [beginReset, Bool.not_true, Bool.and_false, Bool.false_and, Bool.false_eq_true, if_false]
  exact ⟨_, rfl⟩

theorem deepen_system (h : s.rst.level < 3) : deepen 3 s =
    { systemClear (s.bump .RST_SYS_CNT 0) with rst := { (systemClear (s.bump .RST_SYS_CNT 0)).rst with level := 3 } } := by
  rw [deepen, if_neg (by omega), if_pos rfl]

theorem deepen_core (h : s.rst.level < 2) : deepen 2 s =
    { coreClear (s.bump .RST_CORE_CNT 0) with rst := { (coreClear (s.bump .RST_CORE_CNT 0)).rst with level := 2 } } := by
  rw [deepen, if_neg (by omega), if_neg (by decide)]

theorem beginReset_rst (lvl c : Nat) (s : State) : ∃ n, (beginReset lvl true false (some c) s).rst =
    { (deepen lvl (softCause c s)).rst with relAt := n } := by
  obtain ⟨n, h⟩ := beginReset_soft lvl c s
  exact ⟨n, by rw [h, alertUpdate_rst]⟩

theorem beginReset_regs (lvl c : Nat) (s : State) : (beginReset lvl true false (some c) s).regs = (deepen lvl (softCause c s)).regs := by
  obtain ⟨n, h⟩ := beginReset_soft lvl c s
  rw [h, alertUpdate_regs]

theorem recordCause_reg (c : Nat) (s : State) : (softCause c s).reg .RST_CAUSE 0 = s.reg .RST_CAUSE 0 ||| 1#32 <<< c :=
  reg_setReg_same ..

/-- A system reset that software asks for: level 3, and what it keeps of the registers. -/
theorem systemReset_facts (h : s.rst.level < 3) (c : Nat) : (beginReset 3 true false (some c) s).rst.level = 3
    ∧ ∀ r i, r ∉ servedRegs → r ∉ ledgerRegs → r ≠ .RST_SYS_CNT →
      (beginReset 3 true false (some c) s).reg r i = keptWord sysKeep (softCause c s) r i := by
  obtain ⟨n, hrst⟩ := beginReset_rst 3 c s
  have level : (softCause c s).rst.level < 3 := h
  refine ⟨by rw [hrst, deepen_system level], fun r i hr hl hn => ?_⟩
  have counted : ((softCause c s).bump .RST_SYS_CNT 0).reg r i = (softCause c s).reg r i :=
    reg_setReg_ne _ _ fun e => absurd e hn
  rw [reg_of_regs (beginReset_regs 3 c s), deepen_system level]
  refine (reg_systemClear hr hl i).trans ?_
  rw [keptWord, keptWord, counted]

/-- RST_STAT stands through a system reset. -/
theorem systemReset_stat (h : s.rst.level < 3) (c : Nat) : (beginReset 3 true false (some c) s).reg .RST_STAT 0 = s.reg .RST_STAT 0 := by
  rw [(systemReset_facts h c).2 _ 0 (by decide) (by decide) (by decide), keptWord_all (by decide)]
  exact reg_setReg_ne _ _ (by decide)

/-- A core reset that software asks for: level 2, the cause recorded, no hart up, the datapath as it was. -/
theorem coreReset_facts (h : s.rst.level < 2) (c : Nat) : (beginReset 2 true false (some c) s).rst.level = 2
    ∧ (beginReset 2 true false (some c) s).reg .RST_CAUSE 0 = s.reg .RST_CAUSE 0 ||| 1#32 <<< c
    ∧ (beginReset 2 true false (some c) s).fld F.CPU_STAT_HARTS_UP 0 = 0
    ∧ (beginReset 2 true false (some c) s).xpt = { s.xpt with hbm := (beginReset 2 true false (some c) s).xpt.hbm }
    ∧ (beginReset 2 true false (some c) s).fwu = s.fwu := by
  obtain ⟨n, hreset⟩ := beginReset_soft 2 c s
  have level : (softCause c s).rst.level < 2 := h
  obtain ⟨-, harts, regs, xpt, fwu, -⟩ := coreClear_facts ((softCause c s).bump .RST_CORE_CNT 0)
  have same := beginReset_regs 2 c s
  rw [deepen_core level] at hreset same
  refine ⟨by rw [hreset, alertUpdate_rst], ?_, (fld_of_regs same _ 0).trans harts, ?_, ?_⟩
  · rw [reg_of_regs same]
    refine (regs .RST_CAUSE 0 (by decide)).trans ((keptWord_all (by decide)).trans ?_)
    exact (reg_setReg_ne _ _ (by decide)).trans (recordCause_reg c s)
  · rw [hreset, alertUpdate_xpt]
    exact xpt
  · rw [hreset, alertUpdate_fwu]
    exact fwu

end

end

end Machine

end Sys2Proof
end

section
/-!
PROOFS. START of the resident loader (R416, R481) in a state that holds a reserved bit of RST_CAUSE: the system reset clears it.
-/

namespace Sys2Proof.Machine

section
variable {q : BitVec 16} {k : Nat} {s : State}

theorem loaderAnswer_regs (op : Nat) (q : BitVec 16) (p : List Byte) (s : State) : (loaderAnswer op q p s).regs = s.regs := rfl

/-- START of a slot that may start: the answer leaves, and the slot starts by a system reset. -/
theorem loaderStarts_starts (hup : s.loaderUp = true) (hjob : s.fwu.job = none) (hk : k < 2) (hst : s.slotState k = 7) :
    loaderStarts q k s = loaderAnswer 5 q [0#8] (leaveDarkroom (setSlot k 5 s)) := by
  simp [loaderStarts, hup, hjob, hst, show ¬ 2 ≤ k by omega]

/-- A bit of RST_CAUSE that no source has is 0 after Darkroom mode is left. -/
theorem leaveDarkroom_cause (h : s.rst.level < 3) {n : Nat} (hkeep : (sysKeep .RST_CAUSE).getLsbD n = false)
    (hreset : (RegName.RST_CAUSE.resetWord 0).getLsbD n = false) : ((leaveDarkroom s).reg .RST_CAUSE 0).getLsbD n = false := by
  have level : (alertUpdate (s.setFlag F.RST_STAT_DARKROOM 0 false)).rst.level < 3 := by rw [alertUpdate_rst]; exact h
  rw [leaveDarkroom, (systemReset_facts level 7).2 .RST_CAUSE 0 (by decide) (by decide) (by decide), keptWord, BitVec.getLsbD_or,
    BitVec.getLsbD_and, BitVec.getLsbD_and, hkeep, hreset, Bool.and_false, Bool.false_and, Bool.or_false]

/-- Darkroom mode with slot 1 PREVIOUS and the reserved bit 14 of RST_CAUSE at 1. -/
def strayCause : State :=
  setSlot 1 7 { (State.reset.setFlag F.RST_STAT_DARKROOM 0 true).setReg .RST_CAUSE 0 (1#32 <<< 14) with rst := { RstState.reset with level := 0 } }

theorem strayCause_loader : strayCause.loaderUp = true ∧ strayCause.fwu.job = none ∧ strayCause.slotState 1 = 7
    ∧ strayCause.rst.level = 0 ∧ (strayCause.reg .RST_CAUSE 0).getLsbD 14 = true := by decide +kernel

end

end Sys2Proof.Machine

namespace Sys2Proof

open Machine

/-- Refutes O60: its last clause equates the whole of RST_CAUSE, but where the reserved bit 14 reads 1 before START, the system reset
of R403 leaves it 0. -/
theorem not_residentLoaderServesDarkroom : ¬ Obligations.ResidentLoaderServesDarkroom := by
  unfold Obligations.ResidentLoaderServesDarkroom
  rintro ⟨-, -, -, -, -, -, -, -, start⟩
  obtain ⟨hup, hjob, hst, hlevel, stray⟩ := strayCause_loader
  obtain ⟨t, hexec, -, -, -, cause, -⟩ := start 0 1 strayCause hup hjob (by decide) (.inr (.inl hst))
  have same : t = loaderAnswer 5 0 [0#8] (leaveDarkroom (setSlot 1 5 strayCause)) :=
    (Host.Outcome.next.inj hexec).symm.trans (loaderStarts_starts hup hjob (by decide) hst)
  have level : (setSlot 1 5 strayCause).rst.level < 3 := by rw [setSlot_eq]; exact hlevel ▸ (by decide)
  have cleared := leaveDarkroom_cause level (n := 14) (by decide) (by decide)
  rw [← reg_of_regs (loaderAnswer_regs 5 0 [0#8] _), ← same, cause, BitVec.getLsbD_or, stray] at cleared
  exact absurd cleared (by decide)

end Sys2Proof
end

section
/-!
PROOFS. The command mailbox of firmware update: what a command is answered, what its flash work leaves, and the activation (R465 to
R480).
-/

namespace Sys2Proof.Machine

section
variable {op r k m : Nat} {v : Word} {x : FwuJob} {s t : State}

/-! ### The answer (R480) -/

/-- The OP that a command's name gives, the other fields as written. -/
theorem fwuOf_op_put (v : Word) (h : op < 8) : F.FWU_CMD_OP.of (F.FWU_CMD_OP.put v op) = op
    ∧ F.FWU_CMD_NOW.of (F.FWU_CMD_OP.put v op) = F.FWU_CMD_NOW.of v
    ∧ F.FWU_CMD_SECTOR.of (F.FWU_CMD_OP.put v op) = F.FWU_CMD_SECTOR.of v :=
  ⟨(Fld.of_put (by decide) v op).trans (Nat.mod_eq_of_lt h), Fld.of_put_ne (by decide) (by decide) v op,
    Fld.of_put_ne (by decide) (by decide) v op⟩

/-- RESULT and OP read what was answered. -/
theorem fwuAnswer_facts (hop : op < 8) (hr : r < 16) (s : State) : (fwuAnswer op r s).fld F.FWU_CMD_STAT_RESULT 0 = r
    ∧ (fwuAnswer op r s).fld F.FWU_CMD_STAT_OP 0 = op ∧ regsButAt [.FWU_CMD_STAT] 0 s (fwuAnswer op r s)
    ∧ onlyRegs s (fwuAnswer op r s) ∧ (fwuAnswer op r s).flt = s.flt := by
  refine ⟨?_, ?_, (regsButAt_setFlds _ (by simp)).2 regsButAt_refl, (onlyRegs_setFlds_iff ..).2 onlyRegs_refl, setFlds_flt ..⟩
  · simp (disch := decide) only [fwuAnswer, State.setFlds, fld_setFld_apart, fld_setFld_same]
    exact Nat.mod_eq_of_lt hr
  · simp (disch := decide) only [fwuAnswer, State.setFlds, fld_setFld_same]
    exact Nat.mod_eq_of_lt hop

/-- A result that is neither a refusal, a duplicate nor a failed write counts nothing. -/
theorem noteResult_other (h : r = 0 ∨ 8 ≤ r ∧ r ≤ 10 ∨ op = 3 ∧ r = 4) (s : State) : noteResult op r s = s := by
  rcases h with rfl | ⟨hlo, hhi⟩ | ⟨rfl, rfl⟩
  · rfl
  · obtain rfl | rfl | rfl : r = 8 ∨ r = 9 ∨ r = 10 := by omega
    all_goals rfl
  · rfl

theorem noteResult_refusal (hr : refusal r = true) (h : op ≠ 3 ∨ r ≠ 4) (s : State) :
    noteResult op r s = (s.bump .FWU_REFUSE_CNT 0).raise Src.FWU_REFUSED := by
  rw [noteResult, if_pos]
  rw [hr, Bool.true_and, Bool.not_eq_true', Bool.and_eq_false_iff, beq_eq_false_iff_ne, beq_eq_false_iff_ne]
  exact h

/-- A command answered OK. -/
theorem answerNow_ok (op : Nat) (t : State) : answerNow op (0, t) = fwuAnswer op 0 t := noteResult_other (.inl rfl) _

theorem answerNow_refused (hr : refusal r = true) (h : op ≠ 3 ∨ r ≠ 4) (t : State) :
    answerNow op (r, t) = ((fwuAnswer op r t).bump .FWU_REFUSE_CNT 0).raise Src.FWU_REFUSED := noteResult_refusal hr h _

/-- What an answered refusal shows and leaves. -/
theorem refused_facts (hop : op < 8) (hr : r < 16) (hk : refusal r = true) (h : op ≠ 3 ∨ r ≠ 4) (ht : answerNow op (r, s) = t) :
    t.fld F.FWU_CMD_STAT_RESULT 0 = r ∧ t.fld F.FWU_CMD_STAT_OP 0 = op ∧ t.isSet Src.FWU_REFUSED = true
      ∧ t.reg .FWU_REFUSE_CNT 0 = BitVec.ofNat 32 (min (2 ^ 32 - 1) ((s.reg .FWU_REFUSE_CNT 0).toNat + 1))
      ∧ regsButAt [.FWU_CMD_STAT, .FWU_REFUSE_CNT] 0 s t ∧ onlyRegs s t := by
  rw [answerNow_refused hk h] at ht
  subst ht
  obtain ⟨hres, hopn, hregs, honly, -⟩ := fwuAnswer_facts hop hr s
  have count : (fwuAnswer op r s).reg .FWU_REFUSE_CNT 0 = s.reg .FWU_REFUSE_CNT 0 := hregs _ 0 (by decide)
  generalize fwuAnswer op r s = u at *
  refine ⟨?_, ?_, isSet_raise_same _ (by decide), ?_, ?_, ?_⟩
  · rw [fld_of_regs (raise_regs ..), fld_bump_apart (f := F.FWU_CMD_STAT_RESULT) _ _ _ (by decide), hres]
  · rw [fld_of_regs (raise_regs ..), fld_bump_apart (f := F.FWU_CMD_STAT_OP) _ _ _ (by decide), hopn]
  · rw [reg_of_regs (raise_regs ..), reg_bump_same, count]
  · rw [regsButAt_raise, regsButAt_bump_iff (by decide)]
    exact regsButAt_mono (by decide) hregs
  · rw [onlyRegs_raise_iff, onlyRegs_bump]
    exact honly

/-! ### The mailbox (R480) -/

theorem fwuRow_taken {m : Fin 8} (hm : m.val ≤ 6) (op : Nat) (v : Word) (s : State) :
    fwuRow op m v s = .next (fwuCommand m (F.FWU_CMD_OP.put v op) s) := by
  rw [fwuRow, byMaster_of_ne (by omega)]

theorem fwuCommand_reserved (h : F.FWU_CMD_OP.of v = 0 ∨ F.FWU_CMD_OP.of v = 7 ∧ m ≠ 5) : fwuCommand m v s = s.reject .FWU := if_pos h

theorem fwuCommand_barred (hop : F.FWU_CMD_OP.of v = op) (hgood : op ≠ 0 ∧ op ≠ 7) (hm : 5 < m) :
    fwuCommand m v s = answerNow op (12, s) := by
  simp [fwuCommand, hop, hgood, fwuAllowed, show ¬ m ≤ 5 by omega]

theorem fwuCommand_busy (hop : F.FWU_CMD_OP.of v = op) (hgood : op ≠ 0 ∧ op ≠ 7) (hm : m ≤ 5) (hjob : s.fwu.job.isSome = true) :
    fwuCommand m v s = answerNow op (2, s) := by
  simp [fwuCommand, hop, hgood, fwuAllowed, hm, hjob]

theorem fwuCommand_arm (hop : F.FWU_CMD_OP.of v = 4) (hm : m ≤ 5) (hjob : s.fwu.job = none) :
    fwuCommand m v s = answerNow 4 (armSlot (F.FWU_CMD_NOW.of v == 1) s) := by
  simp [fwuCommand, hop, fwuAllowed, hm, hjob]

theorem fwuCommand_disarm (hop : F.FWU_CMD_OP.of v = 5) (hm : m ≤ 5) (hjob : s.fwu.job = none) :
    fwuCommand m v s = answerNow 5 (disarmSlot s) := by
  simp [fwuCommand, hop, fwuAllowed, hm, hjob]

/-- A command that works on the flash, for which a slot is free. -/
def flashOp (op m : Nat) : Prop := op = 1 ∨ op = 2 ∨ op = 3 ∨ op = 6 ∨ op = 7 ∧ m = 5

theorem fwuCommand_starts (hop : F.FWU_CMD_OP.of v = op) (hf : flashOp op m) (hm : m ≤ 5) (hjob : s.fwu.job = none)
    (hc : s.flashCheck op = (0, k)) :
    fwuCommand m v s = { s with fwu := { s.fwu with job := some ⟨op, F.FWU_CMD_SECTOR.of v, k, s.mailbox⟩ } } := by
  unfold fwuCommand
  rcases hf with rfl | rfl | rfl | rfl | ⟨rfl, rfl⟩ <;> simp [hop, fwuAllowed, hm, hjob, hc]

theorem fwuCommand_refuses (hop : F.FWU_CMD_OP.of v = op) (hf : flashOp op m) (hm : m ≤ 5) (hjob : s.fwu.job = none)
    (hr : (s.flashCheck op).1 = r) (h : r ≠ 0) : fwuCommand m v s = answerNow op (r, s) := by
  unfold fwuCommand
  rcases hf with rfl | rfl | rfl | rfl | ⟨rfl, rfl⟩ <;> simp [hop, fwuAllowed, hm, hjob, hr, h]

/-- A command that works on the flash starts its work. -/
theorem fwuRow_starts {m : Fin 8} (hf : flashOp op m) (hm : m.val ≤ 5) (hjob : s.fwu.job = none) (hc : s.flashCheck op = (0, k)) :
    fwuRow op m v s = .next { s with fwu := { s.fwu with job := some ⟨op, F.FWU_CMD_SECTOR.of v, k, s.mailbox⟩ } } := by
  have small : op < 8 := by unfold flashOp at hf; omega
  obtain ⟨hop, -, hsector⟩ := fwuOf_op_put v small
  rw [fwuRow_taken (by omega), fwuCommand_starts hop hf hm hjob hc, hsector]

/-- A command is answered BUSY, or to a master above the supervisor PRIV. -/
theorem fwuRow_waits {m : Fin 8} (hop : 1 ≤ op ∧ op ≤ 6) (hm : m.val ≤ 6) (hr : r = if m.val = 6 then 12 else 2)
    (h : m.val = 6 ∨ s.fwu.job.isSome = true) : fwuRow op m v s = .next (answerNow op (r, s)) := by
  obtain ⟨hof, -, -⟩ := fwuOf_op_put (op := op) v (by omega)
  rw [fwuRow_taken hm]
  subst hr
  by_cases h6 : m.val = 6
  · rw [fwuCommand_barred hof (by omega) (by omega), if_pos h6]
  · rw [fwuCommand_busy hof (by omega) (by omega) (h.resolve_left h6), if_neg h6]

theorem pieceResult_code (s : State) (p : List Byte) : s.pieceResult p = 0 ∨ s.pieceResult p = 1 ∨ 3 ≤ s.pieceResult p ∧ s.pieceResult p ≤ 6 := by
  simp only [State.pieceResult]
  (repeat' split) <;> simp

/-- A piece that fails a check is answered with it, and counted as a refusal or a duplicate. -/
theorem pieceCommand_refused {m : Fin 8} (hm : m.val ≤ 5) (hjob : s.fwu.job = none) (hr : s.pieceResult s.mailbox = r) (h : r ≠ 0) :
    ∃ t, exec (.fwuPiece m v) s = .next t ∧ t.fld F.FWU_CMD_STAT_RESULT 0 = r
      ∧ (r = 1 → t.reg .FWU_DUP_CNT 0 = BitVec.ofNat 32 (min (2 ^ 32 - 1) ((s.reg .FWU_DUP_CNT 0).toNat + 1)))
      ∧ (r ≠ 1 → t.isSet Src.FWU_REFUSED = true) ∧ regsButAt [.FWU_CMD_STAT, .FWU_REFUSE_CNT, .FWU_DUP_CNT] 0 s t ∧ onlyRegs s t := by
  have row : exec (.fwuPiece m v) s = .next (answerNow 1 (r, s)) := (fwuRow_taken (by omega) 1 v s).trans
    (congrArg Host.Outcome.next (fwuCommand_refuses (fwuOf_op_put v (by decide)).1 (.inl rfl) hm hjob hr h))
  have code := pieceResult_code s s.mailbox
  by_cases h1 : r = 1
  · subst h1
    obtain ⟨hres, -, hregs, honly, -⟩ := fwuAnswer_facts (op := 1) (r := 1) (by decide) (by decide) s
    refine ⟨(fwuAnswer 1 1 s).bump .FWU_DUP_CNT 0, row, ?_, fun _ => ?_, fun hn => absurd rfl hn, ?_, (onlyRegs_bump ..).2 honly⟩
    · rw [fld_bump_apart (f := F.FWU_CMD_STAT_RESULT) _ _ _ (by decide), hres]
    · rw [reg_bump_same, hregs _ 0 (by decide)]
    · rw [regsButAt_bump_iff (by decide)]
      exact regsButAt_mono (by decide) hregs
  · have refused : refusal r = true ∧ r < 16 := by
      obtain rfl | rfl | rfl | rfl : r = 3 ∨ r = 4 ∨ r = 5 ∨ r = 6 := by omega
      all_goals decide
    obtain ⟨hres, -, hset, -, hregs, honly⟩ := refused_facts (op := 1) (s := s) (by decide) refused.2 refused.1 (.inl (by decide)) rfl
    exact ⟨_, row, hres, fun h => absurd h h1, fun _ => hset, regsButAt_mono (by decide) hregs, honly⟩

/-! ### ARM and DISARM (R473) -/

/-- Slot `k` is ARMED for the instant that FWU_ACT_AT names, or for now. -/
def slotArmed (k : Nat) (now : Bool) (s : State) : State :=
  { setSlot k 4 s with fwu := { (setSlot k 4 s).fwu with armed := some (if now then none else some s.actAt) } }

theorem slotArmed_facts (k : Nat) (now : Bool) (s : State) : (slotArmed k now s).fwu.armed = some (if now then none else some s.actAt)
    ∧ (slotArmed k now s).mem = (setSlot k 4 s).mem ∧ (slotArmed k now s).regs = s.regs ∧ (slotArmed k now s).flt = s.flt
    ∧ (slotArmed k now s).pending = s.pending := by
  rw [slotArmed, setSlot_eq]
  exact ⟨rfl, rfl, rfl, rfl, rfl⟩

theorem armSlot_arms {now : Bool} (hescrow : s.escrow = some k) (hst : s.slotState k = 3) (hpre : s.fwu.preloaded.contains k = true)
    (hstart : s.rst.inStart = false) (htime : s.etValid = true ∨ now = true) : armSlot now s = (0, slotArmed k now s) := by
  have ok : s.armResult now = 0 := by
    rcases htime with h | h <;> simp_all [State.armResult]
  simp [armSlot, slotArmed, ok, hescrow]

theorem armResult_refuses {now : Bool} (h : s.armResult now ≠ 0) : s.armResult now = 3 ∨ s.armResult now = 11 := by
  revert h
  unfold State.armResult
  (repeat' split) <;> simp

theorem armSlot_refuses {now : Bool} (h : s.armResult now ≠ 0) : armSlot now s = (s.armResult now, s) := if_neg h

/-! ### Flash work (R466, R469, R477 to R480) -/

/-- The state with no command in progress. -/
def idleMailbox (s : State) : State := { s with fwu := { s.fwu with job := none } }

theorem fwuDone_job (h : s.fwu.job = some x) (ok : Bool) : fwuDone ok s = answerNow x.op (endFlashWork x ok (idleMailbox s)) := by
  simp only [fwuDone, h]
  rfl

theorem endFlashWork_piece (h : x.op = 1) (ok : Bool) (s : State) : endFlashWork x ok s = writePiece x.slot x.bytes ok s := by
  simp only [endFlashWork, h]

theorem endFlashWork_erase (h : x.op = 2) (ok : Bool) (s : State) : endFlashWork x ok s = eraseSlot x.slot ok s := by
  simp only [endFlashWork, h]

theorem endFlashWork_verify (h : x.op = 3) (s : State) : endFlashWork x true s = verifySlot x.slot s := by
  simp only [endFlashWork, h, if_true]

theorem endFlashWork_set (h : x.op = 6) (s : State) : endFlashWork x true s =
    (0, program (slotBase x.slot + 0x3010000 + x.sector * 4096) (x.bytes.drop 32)
      (eraseFlash (slotBase x.slot + 0x3010000 + x.sector * 4096) 4096 s)) := by
  simp only [endFlashWork, h, if_true]

theorem endFlashWork_ledger (h : x.op = 7) (s : State) : endFlashWork x true s = (0, saveLedger s) := by
  simp only [endFlashWork, h, if_true]

/-- A command that ends OK over flash work that leaves the registers and the mailbox. -/
theorem answerNow_ok_facts (hop : op < 8) (ht : answerNow op (0, s) = t) : t.fld F.FWU_CMD_STAT_RESULT 0 = 0
    ∧ t.fld F.FWU_CMD_STAT_OP 0 = op ∧ regsButAt [.FWU_CMD_STAT] 0 s t ∧ onlyRegs s t ∧ t.flt = s.flt := by
  rw [answerNow_ok] at ht
  subst ht
  exact fwuAnswer_facts hop (by decide) s

theorem onlyRegs_mem (h : onlyRegs s t) : t.mem = s.mem := by rw [h]
theorem onlyRegs_fwu (h : onlyRegs s t) : t.fwu = s.fwu := by rw [h]
theorem onlyRegs_pending (h : onlyRegs s t) : t.pending = s.pending := by rw [h]

section
variable {u : State}

/-- A command whose flash work ended OK. -/
theorem fwuDone_ok (hjob : s.fwu.job = some x) (hop : x.op < 8) (hend : endFlashWork x true (idleMailbox s) = (0, u))
    (hidle : u.fwu.job = none) (hpend : u.pending = s.pending) : ∃ t, exec (.fwuCommandDone true) s = .next t ∧ t.fwu.job = none
      ∧ t.fld F.FWU_CMD_STAT_RESULT 0 = 0 ∧ t.fld F.FWU_CMD_STAT_OP 0 = x.op ∧ regsButAt [.FWU_CMD_STAT] 0 u t ∧ t.flt = u.flt
      ∧ t.mem = u.mem ∧ t.fwu = u.fwu ∧ t.pending = s.pending := by
  obtain ⟨hres, hopn, hregs, honly, hflt⟩ := fwuAnswer_facts hop (r := 0) (by decide) u
  refine ⟨fwuAnswer x.op 0 u, congrArg Host.Outcome.next (by rw [fwuDone_job hjob, hend, answerNow_ok]), ?_, hres, hopn, hregs, hflt,
    onlyRegs_mem honly, onlyRegs_fwu honly, (onlyRegs_pending honly).trans hpend⟩
  rw [onlyRegs_fwu honly, hidle]

theorem imageResult_code (s : State) (k : Nat) : s.imageResult k = 0 ∨ s.imageResult k = 4 ∨ 8 ≤ s.imageResult k ∧ s.imageResult k ≤ 10 := by
  unfold State.imageResult
  (repeat' split) <;> simp

/-- VERIFY ends with the result of its checks. -/
theorem fwuDone_verifies (hjob : s.fwu.job = some x) (hop : x.op = 3) (hk : x.slot = k) : ∃ t, exec (.fwuCommandDone true) s = .next t
    ∧ t.fwu.job = none ∧ t.fld F.FWU_CMD_STAT_RESULT 0 = s.imageResult k ∧ t.fld F.FWU_CMD_STAT_OP 0 = 3
    ∧ (s.imageResult k = 0 → t.fwu.preloaded.contains k = true)
    ∧ (s.imageResult k ≠ 0 → t.isSet Src.FWU_VERIFY_FAIL = true ∧ t.fwu.preloaded = s.fwu.preloaded) ∧ t.pending = s.pending := by
  have same : (idleMailbox s).imageResult k = s.imageResult k := rfl
  have work := endFlashWork_verify hop (idleMailbox s)
  rw [hk] at work
  by_cases h : s.imageResult k = 0
  · obtain ⟨m, hv⟩ := verifySlot_ok (same.trans h)
    obtain ⟨t, ht, hidle, hres, hopn, -, -, -, hfwu, hpend⟩ := fwuDone_ok hjob (by omega) (work.trans hv) rfl rfl
    refine ⟨t, ht, hidle, hres.trans h.symm, hopn.trans hop, fun _ => ?_, fun hn => absurd h hn, hpend⟩
    rw [hfwu, List.contains_cons, beq_self_eq_true, Bool.true_or]
  · obtain ⟨m, hv⟩ := verifySlot_fails (same.trans_ne h)
    generalize hu : State.raise { idleMailbox s with mem := m } Src.FWU_VERIFY_FAIL = u at hv
    have code := imageResult_code s k
    obtain ⟨hres, hopn, -, honly, hflt⟩ := fwuAnswer_facts (op := 3) (r := s.imageResult k) (by decide) (by omega) u
    have answer : answerNow 3 (s.imageResult k, u) = fwuAnswer 3 (s.imageResult k) u := noteResult_other (by omega) _
    refine ⟨_, congrArg Host.Outcome.next ((fwuDone_job hjob true).trans (by rw [work, hv, hop, same, answer])), ?_, hres, hopn,
      fun h0 => absurd h0 h, fun _ => ⟨?_, ?_⟩, ?_⟩
    · rw [onlyRegs_fwu honly, ← hu, raise_fwu]
      rfl
    · rw [isSet_of_flt hflt, ← hu]
      exact isSet_raise_same _ (by decide)
    · rw [onlyRegs_fwu honly, ← hu, raise_fwu]
      rfl
    · rw [onlyRegs_pending honly, ← hu, raise_pending]
      rfl

/-- ARM of a slot that may be armed. -/
theorem armCommand_arms {m : Fin 8} (hm : m.val ≤ 5) (hjob : s.fwu.job = none) (hescrow : s.escrow = some k) (hst : s.slotState k = 3)
    (hpre : s.fwu.preloaded.contains k = true) (hstart : s.rst.inStart = false) (htime : s.etValid = true ∨ F.FWU_CMD_NOW.of v = 1) :
    ∃ t, exec (.arm m v) s = .next t ∧ t.fld F.FWU_CMD_STAT_RESULT 0 = 0 ∧ t.fld F.FWU_CMD_STAT_OP 0 = 4
      ∧ t.fwu.armed = some (if F.FWU_CMD_NOW.of v = 1 then none else some s.actAt) ∧ t.mem = (setSlot k 4 s).mem
      ∧ regsButAt [.FWU_CMD_STAT] 0 s t ∧ t.flt = s.flt ∧ t.pending = s.pending := by
  obtain ⟨hop, hnow, -⟩ := fwuOf_op_put (op := 4) v (by decide)
  have arms := armSlot_arms (now := F.FWU_CMD_NOW.of v == 1) hescrow hst hpre hstart (by rwa [beq_iff_eq])
  have row : exec (.arm m v) s = .next (answerNow 4 (armSlot (F.FWU_CMD_NOW.of v == 1) s)) :=
    (fwuRow_taken (by omega) 4 v s).trans (by rw [fwuCommand_arm hop hm hjob, hnow])
  rw [arms] at row
  obtain ⟨harmed, hmem, hsame, hflt, hpend⟩ := slotArmed_facts k (F.FWU_CMD_NOW.of v == 1) s
  generalize slotArmed k (F.FWU_CMD_NOW.of v == 1) s = u at *
  obtain ⟨hres, hopn, hregs, honly, hsrc⟩ := answerNow_ok_facts (op := 4) (s := u) (by decide) rfl
  refine ⟨_, row, hres, hopn, ?_, (onlyRegs_mem honly).trans hmem, regsButAt_trans (regsButAt_of_regs hsame) hregs,
    hsrc.trans hflt, (onlyRegs_pending honly).trans hpend⟩
  rw [onlyRegs_fwu honly, harmed]
  simp

/-- ARM that R473 refuses. -/
theorem armCommand_refused {m : Fin 8} (hm : m.val ≤ 5) (hjob : s.fwu.job = none) (hr : r = s.armResult (F.FWU_CMD_NOW.of v == 1)) (h : r ≠ 0) :
    ∃ t, exec (.arm m v) s = .next t ∧ t.fld F.FWU_CMD_STAT_RESULT 0 = r ∧ (r = 3 ∨ r = 11)
      ∧ t.isSet Src.FWU_REFUSED = true ∧ regsButAt [.FWU_CMD_STAT, .FWU_REFUSE_CNT] 0 s t ∧ onlyRegs s t := by
  obtain ⟨hop, hnow, -⟩ := fwuOf_op_put (op := 4) v (by decide)
  subst hr
  have row : exec (.arm m v) s = .next (answerNow 4 (armSlot (F.FWU_CMD_NOW.of v == 1) s)) :=
    (fwuRow_taken (by omega) 4 v s).trans (by rw [fwuCommand_arm hop hm hjob, hnow])
  rw [armSlot_refuses h] at row
  have code := armResult_refuses h
  have small : s.armResult (F.FWU_CMD_NOW.of v == 1) < 16 ∧ refusal (s.armResult (F.FWU_CMD_NOW.of v == 1)) = true := by
    rcases code with h | h <;> rw [h] <;> decide
  obtain ⟨hres, -, hset, -, hregs, honly⟩ := refused_facts (op := 4) (s := s) (by decide) small.1 small.2 (.inl (by decide)) rfl
  exact ⟨_, row, hres, code, hset, hregs, honly⟩

/-- DISARM of an ARMED slot. -/
theorem disarmCommand {m : Fin 8} (hm : m.val ≤ 5) (hjob : s.fwu.job = none) (harmed : s.armedSlot.isSome = true) :
    ∃ t, exec (.disarm m v) s = .next t ∧ t.fld F.FWU_CMD_STAT_RESULT 0 = 0 ∧ t.fld F.FWU_CMD_STAT_OP 0 = 5
      ∧ t.fwu.armed = none ∧ regsButAt [.FWU_CMD_STAT] 0 s t ∧ t.flt = s.flt ∧ t.pending = s.pending := by
  obtain ⟨hop, -, -⟩ := fwuOf_op_put (op := 5) v (by decide)
  have row : exec (.disarm m v) s = .next (answerNow 5 (0, disarmSlots s)) :=
    (fwuRow_taken (by omega) 5 v s).trans (by rw [fwuCommand_disarm hop hm hjob, disarmSlot, if_pos harmed])
  obtain ⟨hres, hopn, hregs, honly, hflt⟩ := answerNow_ok_facts (op := 5) (s := disarmSlots s) (by decide) rfl
  refine ⟨_, row, hres, hopn, ?_, regsButAt_trans (regsButAt_of_regs (by rw [disarmSlots_eq])) hregs,
    hflt.trans (by rw [disarmSlots_eq]), (onlyRegs_pending honly).trans (disarmSlots_pending s)⟩
  rw [onlyRegs_fwu honly, disarmSlots_eq]

/-- A piece whose flash work ends OK. -/
theorem fwuDone_piece {i count len : Nat} {p : List Byte} (hjob : s.fwu.job = some x) (hop : x.op = 1) (hslot : x.slot = k) (hbytes : x.bytes = p)
    (hwf : s.mem.wf = true) (hi : i = leAt p 12 4) (hlen : len = leAt p 20 4) (hcount : count ≤ 12288) (hi' : i < count) (hl : len ≤ 4096)
    (hp : 32 + len ≤ p.length) :
    ∃ t, exec (.fwuCommandDone true) s = .next t ∧ t.fwu.job = none ∧ t.fld F.FWU_CMD_STAT_RESULT 0 = 0
      ∧ t.fld F.FWU_CMD_STAT_OP 0 = 1 ∧ t.flash (slotBase k + i * 4096) len = (p.drop 32).take len
      ∧ t.received k i = true
      ∧ t.reg .FWU_PIECE_CNT 0 = BitVec.ofNat 32 (min (2 ^ 32 - 1) ((s.reg .FWU_PIECE_CNT 0).toNat + 1))
      ∧ (∀ a, a < slotBase k + i * 4096 ∨ slotBase k + i * 4096 + 4096 ≤ a →
          a ≠ bitmapBase k + i / 8 → a < slotBase k + 0x3001000 → t.mem.read a = s.mem.read a)
      ∧ (∀ a, slotBase k + 0x3003000 ≤ a → t.mem.read a = s.mem.read a)
      ∧ regsButAt [.FWU_CMD_STAT, .FWU_PIECE_CNT] 0 s t ∧ t.pending = s.pending := by
  have work := endFlashWork_piece hop true (idleMailbox s)
  rw [hslot, hbytes] at work
  generalize hw : writePiece k p true (idleMailbox s) = w at work
  obtain ⟨z, u⟩ := w
  obtain rfl : 0 = z := congrArg Prod.fst hw
  obtain ⟨⟨hflash, hrec, hread⟩, honly⟩ := writePiece_facts (s := idleMailbox s) (t := u) hwf hi.symm hlen.symm (by omega) hl hp (congrArg Prod.snd hw)
  obtain ⟨t, ht, hidle, hres, hopn, hregs, -, hmem, -, hpend⟩ := fwuDone_ok hjob (by omega) work
    (by rw [honly]; rfl) (by rw [honly]; rfl)
  have counted : regsButAt [.FWU_CMD_STAT, .FWU_PIECE_CNT] 0 s u := by
    rw [honly]
    exact regsButAt_trans (regsButAt_of_regs rfl) ((regsButAt_bump_iff (t := idleMailbox s) (by decide)).2 regsButAt_refl)
  refine ⟨t, ht, hidle, hres, hopn.trans hop, ?_, ?_, ?_, fun a ha hb hlt => ?_, fun a ha => ?_,
    regsButAt_trans counted (regsButAt_mono (by decide) hregs), hpend⟩
  · rw [flash_congr (s := u) fun a _ _ => by rw [hmem], hflash]
  · rw [received_congr (s := u) (by rw [hmem]), hrec]
  · rw [hregs _ 0 (by decide), honly]
    exact reg_bump_same ..
  · rw [hmem, hread a ha hb (.inl hlt)]
    rfl
  · rw [hmem, hread a (.inr (by omega)) (by rw [bitmapBase]; omega) (.inr ha)]
    rfl

/-- ERASE_ESCROW whose flash work ends OK. -/
theorem fwuDone_erase (hjob : s.fwu.job = some x) (hop : x.op = 2) (hslot : x.slot = k) (hwf : s.mem.wf = true) :
    ∃ t, exec (.fwuCommandDone true) s = .next t ∧ t.fwu.job = none ∧ t.fld F.FWU_CMD_STAT_RESULT 0 = 0
      ∧ (∀ a, slotBase k ≤ a → a < slotBase k + 0x3001000 → t.mem.read a = 0)
      ∧ (∀ a, slotBase k + 0x3010000 ≤ a → a < slotBase k + 0x3410000 → t.mem.read a = 0)
      ∧ t.fwu.preloaded.contains k = false ∧ regsButAt [.FWU_CMD_STAT] 0 s t ∧ t.pending = s.pending := by
  have work := endFlashWork_erase hop true (idleMailbox s)
  rw [hslot] at work
  obtain ⟨zero, honly⟩ := eraseSlot_facts k (idleMailbox s)
  have blank := @read_eraseSlot (idleMailbox s) hwf k
  generalize eraseSlot k true (idleMailbox s) = w at *
  obtain ⟨z, u⟩ := w
  obtain rfl : z = 0 := zero
  change u = _ at honly
  obtain ⟨t, ht, hidle, hres, -, hregs, -, hmem, hfwu, hpend⟩ := fwuDone_ok hjob (by omega) work
    (by rw [honly]; rfl) (by rw [honly]; rfl)
  refine ⟨t, ht, hidle, hres, fun a hlo hhi => ?_, fun a hlo hhi => ?_, ?_,
    regsButAt_trans (regsButAt_of_regs (by rw [honly]; rfl)) hregs, hpend⟩
  · rw [hmem, blank (.inl ⟨hlo, hhi⟩)]
  · rw [hmem, blank (.inr ⟨hlo, hhi⟩)]
  · rw [hfwu, honly]
    simp

/-- SET_WRITE whose flash work ends OK. -/
theorem fwuDone_set {a : Nat} (hjob : s.fwu.job = some x) (hop : x.op = 6) (hwf : s.mem.wf = true)
    (ha : a = slotBase x.slot + 0x3010000 + x.sector * 4096) (hlen : x.bytes.length = 4128) :
    ∃ t, exec (.fwuCommandDone true) s = .next t ∧ t.fwu.job = none ∧ t.fld F.FWU_CMD_STAT_RESULT 0 = 0
      ∧ t.fld F.FWU_CMD_STAT_OP 0 = 6 ∧ t.flash a 4096 = x.bytes.drop 32
      ∧ (∀ c, c < a ∨ a + 4096 ≤ c → t.mem.read c = s.mem.read c)
      ∧ regsButAt [.FWU_CMD_STAT] 0 s t ∧ t.flt = s.flt ∧ t.pending = s.pending := by
  have work := endFlashWork_set hop (idleMailbox s)
  rw [← ha] at work
  have wf1 : (eraseFlash a 4096 (idleMailbox s)).mem.wf = true := clearRange_wf _ _ _ hwf
  have blen : (x.bytes.drop 32).length = 4096 := by rw [List.length_drop, hlen]
  have erased := (erased_eraseFlash (s := idleMailbox s) hwf a 4096).mono (b := a) (m := (x.bytes.drop 32).length) (Nat.le_refl _) (by omega)
  obtain ⟨t, ht, hidle, hres, hopn, hregs, hflt, hmem, -, hpend⟩ := fwuDone_ok hjob (by omega) work rfl rfl
  refine ⟨t, ht, hidle, hres, hopn.trans hop, ?_, fun c hc => ?_, regsButAt_trans (regsButAt_of_regs rfl) hregs, hflt, hpend⟩
  · have stored := flash_program wf1 erased
    rw [blen] at stored
    exact (flash_congr fun a _ _ => by rw [hmem]).trans stored
  · rw [hmem, read_program_outside wf1 (by omega), read_eraseFlash (s := idleMailbox s) hwf, if_pos hc]
    rfl

theorem saveLedger_idleMailbox (s : State) : (saveLedger (idleMailbox s)).mem = (saveLedger s).mem := by
  have place : (idleMailbox s).ledgerSlot = s.ledgerSlot := rfl
  have seq : (idleMailbox s).nextSeq = s.nextSeq := rfl
  have bytes : ∀ q, (idleMailbox s).ledgerBytes q = s.ledgerBytes q := fun _ => rfl
  rw [saveLedger_eq, saveLedger_eq, place, seq, bytes]
  generalize s.ledgerBytes s.nextSeq = bs
  generalize ledgerAddr s.ledgerSlot = base
  rfl

theorem saveLedger_idle_only (s : State) : saveLedger (idleMailbox s) = { idleMailbox s with mem := (saveLedger s).mem } := by
  have only := saveLedger_only (idleMailbox s)
  rw [saveLedger_idleMailbox] at only
  exact only

/-- Flash work that ends OK and leaves the state as it was but for memory. -/
theorem fwuDone_stored {n : Memory} (hjob : s.fwu.job = some x) (hop : x.op < 8)
    (hend : endFlashWork x true (idleMailbox s) = (0, { idleMailbox s with mem := n })) :
    ∃ t, exec (.fwuCommandDone true) s = .next t ∧ t.fwu.job = none ∧ t.fld F.FWU_CMD_STAT_RESULT 0 = 0
      ∧ t.fld F.FWU_CMD_STAT_OP 0 = x.op ∧ t.mem = n ∧ regsButAt [.FWU_CMD_STAT] 0 s t ∧ t.flt = s.flt ∧ t.pending = s.pending := by
  obtain ⟨t, ht, hidle, hres, hopn, hregs, hflt, hmem, -, hpend⟩ := fwuDone_ok hjob hop hend rfl rfl
  exact ⟨t, ht, hidle, hres, hopn, hmem, regsButAt_trans (regsButAt_of_regs rfl) hregs, hflt, hpend⟩

/-- What failed flash work leaves of a state: the registers and the mailbox. -/
def flashOnly (s t : State) : Prop := t.regs = s.regs ∧ t.fwu = s.fwu ∧ t.pending = s.pending

theorem badProgram_only (a n : Nat) (s : State) : flashOnly s (badProgram a n s) := ⟨rfl, rfl, rfl⟩

theorem endFlashWork_fails (x : FwuJob) (s : State) : (endFlashWork x false s).1 = 7 ∧ flashOnly s (endFlashWork x false s).2 := by
  unfold endFlashWork
  split
  · refine ⟨rfl, ?_⟩
    generalize h1 : (if s.slotState x.slot = 0 then appendRec x.slot 1 (leAt x.bytes 4 8) (leAt x.bytes 16 4) 0 s else s) = s1
    have first : flashOnly s s1 := by
      rw [← h1]
      split
      · rw [appendRec_eq]
        exact ⟨rfl, rfl, rfl⟩
      · exact ⟨rfl, rfl, rfl⟩
    have wrote : (writePiece x.slot x.bytes false s).2 = badProgram (slotBase x.slot + leAt x.bytes 12 4 * 4096) 4096 s1 := by
      rw [← h1]
      rfl
    rw [wrote]
    obtain ⟨hregs, hfwu, hpend⟩ := badProgram_only (slotBase x.slot + leAt x.bytes 12 4 * 4096) 4096 s1
    exact ⟨hregs.trans first.1, hfwu.trans first.2.1, hpend.trans first.2.2⟩
  · refine ⟨rfl, ?_⟩
    simp only [eraseSlot, Bool.false_eq_true, if_false]
    split <;> exact ⟨rfl, rfl, rfl⟩
  · exact ⟨rfl, rfl, rfl, rfl⟩
  · exact ⟨rfl, badProgram_only ..⟩
  · exact ⟨rfl, raise_regs .., raise_fwu .., raise_pending ..⟩

/-- A command whose flash work failed. -/
theorem fwuDone_fails (hjob : s.fwu.job = some x) (hop : x.op < 8) : ∃ t, exec (.fwuCommandDone false) s = .next t
    ∧ t.fwu.job = none ∧ t.fld F.FWU_CMD_STAT_RESULT 0 = 7 ∧ t.fld F.FWU_CMD_STAT_OP 0 = x.op ∧ t.isSet Src.FWU_FLASH_ERR = true
    ∧ regsButAt [.FWU_CMD_STAT] 0 s t ∧ t.pending = s.pending := by
  obtain ⟨h7, hregs, hfwu, hpend⟩ := endFlashWork_fails x (idleMailbox s)
  obtain ⟨hres, hopn, hbut, honly, -⟩ := fwuAnswer_facts hop (r := 7) (by decide) (endFlashWork x false (idleMailbox s)).2
  refine ⟨State.raise (fwuAnswer x.op 7 (endFlashWork x false (idleMailbox s)).2) Src.FWU_FLASH_ERR,
    congrArg Host.Outcome.next ((fwuDone_job hjob false).trans ?_), ?_, ?_, ?_, isSet_raise_same _ (by decide), ?_, ?_⟩
  · rw [answerNow, h7]
    rfl
  · rw [raise_fwu, onlyRegs_fwu honly, hfwu]
    rfl
  · rw [fld_of_regs (raise_regs ..), hres]
  · rw [fld_of_regs (raise_regs ..), hopn]
  · rw [regsButAt_raise]
    exact regsButAt_trans (regsButAt_of_regs hregs) hbut
  · rw [raise_pending, onlyRegs_pending honly, hpend]
    rfl

end

/-! ### The activation (R473, R474) -/

/-- The state at the instant of the activation. -/
def activationInstant (at_ : Option Nat) (s : State) : State := match at_ with
  | none => s
  | some a => if etReached s.et a then s else passTo (s.etFull + etDiff a s.et) s

theorem activationInstant_frame (at_ : Option Nat) (s : State) : onlyTime s (activationInstant at_ s) ∧ (activationInstant at_ s).regs = s.regs := by
  cases at_ with
  | none => exact ⟨rfl, rfl⟩
  | some a =>
    rw [activationInstant]
    split
    · exact ⟨rfl, rfl⟩
    · exact ⟨onlyTime_passTo .., passTo_regs ..⟩

theorem activationDue_armed {at_ : Option Nat} (h : s.fwu.armed = some at_) (hk : s.armedSlot = some k) : activationDue s =
    if (activationInstant at_ s).rst.inStart then (disarmSlots (activationInstant at_ s)).raise Src.FWU_ACT_MISSED
    else activate_ k (activationInstant at_ s) := by
  simp only [activationDue, h, hk]
  rfl

theorem activationDue_none (h : s.fwu.armed = none ∨ s.armedSlot = none) : activationDue s = s := by
  unfold activationDue
  rcases h with h | h <;> simp [h]

theorem activation_missed {at_ : Option Nat} (h : s.fwu.armed = some at_) (hk : s.armedSlot = some k) (hstart : s.rst.inStart = true) :
    ∃ t, exec .activation s = .next t ∧ t.isSet Src.FWU_ACT_MISSED = true ∧ t.fwu.armed = none
      ∧ t.fwu.running = s.fwu.running ∧ t.rst = s.rst ∧ t.regs = s.regs ∧ t.pending = s.pending := by
  obtain ⟨honly, hregs⟩ := activationInstant_frame at_ s
  have due := activationDue_armed h hk
  generalize activationInstant at_ s = u at due honly hregs
  have urst : u.rst = s.rst := by rw [honly]
  have ufwu : u.fwu = s.fwu := by rw [honly]
  rw [if_pos (by rw [urst, hstart])] at due
  refine ⟨_, congrArg Host.Outcome.next due, isSet_raise_same _ (by decide), ?_, ?_, ?_, ?_, ?_⟩
  · rw [raise_fwu, disarmSlots_eq]
  · rw [raise_fwu, disarmSlots_eq, ← ufwu]
  · rw [raise_rst, disarmSlots_eq, ← urst]
  · rw [raise_regs, disarmSlots_eq, ← hregs]
  · rw [raise_pending, disarmSlots_pending, honly]

/-- The boot addresses and the core SRAM of an image are all that starting it writes. -/
theorem setBoot_frame (k : Nat) (s : State) : regsBut [.CPU_HART_BOOT_LO, .CPU_HART_BOOT_HI] s (setBoot k s) ∧ onlyRegs s (setBoot k s) :=
  ⟨regsBut_foldl (fun a _ => by
      rw [regsBut_setReg (by decide), regsBut_setReg (by decide)]
      exact regsBut_refl) _ s,
    onlyRegs_foldl (fun a _ => by
      rw [onlyRegs_setReg_iff, onlyRegs_setReg_iff]
      exact onlyRegs_refl) _ s⟩

theorem unstageImage_only (k : Nat) (s : State) : unstageImage k s = { s with mem := (unstageImage k s).mem } :=
  foldl_rel (R := fun s t => t = { s with mem := t.mem }) (fun _ => rfl) (fun h h' => by rw [h', h]) (fun _ _ => rfl) _ s

/-- The image of a slot in its place, its boot addresses written and its slot on trial. -/
def staged (k : Nat) (s : State) : State := setSlot k 5 (setBoot k (unstageImage k s))

/-- The image of slot `k` runs on trial. -/
def onTrial (k : Nat) (s : State) : State := { s with
  rst := { s.rst with activating := true }
  fwu := { s.fwu with running := some k, trial := true, preloaded := s.fwu.preloaded.filter (· != k) } }

theorem onTrial_facts (k : Nat) (s : State) : (onTrial k s).fwu.running = some k ∧ (onTrial k s).fwu.trial = true
    ∧ (onTrial k s).fwu.armed = s.fwu.armed ∧ (onTrial k s).rst.level = s.rst.level ∧ (onTrial k s).rst.activating = true
    ∧ (onTrial k s).regs = s.regs ∧ (onTrial k s).xpt = s.xpt := ⟨rfl, rfl, rfl, rfl, rfl, rfl, rfl⟩

theorem activate_eq (k : Nat) (s : State) : activate_ k s =
    (onTrial k (staged k (beginReset 2 true false (some 5) { s with fwu := { s.fwu with armed := none } }))).raise Src.FWU_ACTIVATED := by
  rw [activate_, onTrial, staged]

theorem staged_frame (k : Nat) (s : State) : regsBut [.CPU_HART_BOOT_LO, .CPU_HART_BOOT_HI] s (staged k s) ∧ (staged k s).rst = s.rst
    ∧ (staged k s).fwu = s.fwu ∧ (staged k s).xpt = s.xpt := by
  obtain ⟨hregs, honly⟩ := setBoot_frame k (unstageImage k s)
  rw [staged, setSlot_eq]
  refine ⟨regsBut_trans (regsBut_of_regs (by rw [unstageImage_only])) (regsBut_trans hregs (regsBut_of_regs rfl)), ?_, ?_, ?_⟩
  all_goals
    dsimp only
    rw [honly, unstageImage_only]

theorem activation_runs (h : s.fwu.armed = some none) (hk : s.armedSlot = some k) (hstart : s.rst.inStart = false) (hl : s.rst.level < 2) :
    ∃ t, exec .activation s = .next t ∧ t.isSet Src.FWU_ACTIVATED = true ∧ t.fwu.running = some k
      ∧ t.fwu.trial = true ∧ t.fwu.armed = none ∧ t.rst.level = 2 ∧ t.rst.activating = true
      ∧ t.reg .RST_CAUSE 0 = s.reg .RST_CAUSE 0 ||| 1#32 <<< 5 ∧ t.fld F.CPU_STAT_HARTS_UP 0 = 0
      ∧ t.xpt = { s.xpt with hbm := t.xpt.hbm } ∧ t.pending = s.pending := by
  have due : activationDue s = activate_ k s := (activationDue_armed h hk).trans (if_neg (by rw [activationInstant, hstart]; decide))
  obtain ⟨level, cause, harts, xpt, fwu⟩ := coreReset_facts (s := { s with fwu := { s.fwu with armed := none } }) hl 5
  refine ⟨_, congrArg Host.Outcome.next due, ?_⟩
  rw [activate__pending, activate_eq]
  generalize beginReset 2 true false (some 5) { s with fwu := { s.fwu with armed := none } } = u at *
  obtain ⟨sregs, srst, sfwu, sxpt⟩ := staged_frame k u
  obtain ⟨running, trial, armed, lvl, activating, same, routes⟩ := onTrial_facts k (staged k u)
  generalize onTrial k (staged k u) = w at *
  generalize staged k u = x at *
  refine ⟨isSet_raise_same _ (by decide), by rw [raise_fwu, running], by rw [raise_fwu, trial], ?_, ?_, by rw [raise_rst, activating],
    ?_, ?_, ?_, rfl⟩
  · rw [raise_fwu, armed, sfwu, fwu]
  · rw [raise_rst, lvl, srst, level]
  · rw [reg_of_regs (raise_regs ..), reg_of_regs same, sregs .RST_CAUSE 0 (by decide)]
    exact cause
  · rw [fld_of_regs (raise_regs ..), fld_of_regs same, sregs.fld (f := F.CPU_STAT_HARTS_UP) (by decide) 0]
    exact harts
  · rw [raise_xpt, routes, sxpt]
    exact xpt

end

end Sys2Proof.Machine

namespace Sys2Proof

open Machine

/-- Settles O59: each command passes through the mailbox to its answer or its flash work, and the flash work's end through the writing of
its slot. -/
theorem firmwareMailboxCommands : Obligations.FirmwareMailboxCommands := by
  unfold Obligations.FirmwareMailboxCommands
  refine ⟨?_, ?_, ?_, ?_, ?_, ?_, ?_, ?_, ?_, ?_, ?_, ?_, ?_, ?_, ?_, ?_, ?_⟩
  · intro m v j s hm hjob hj
    refine ⟨fun h => ?_, fun h => ?_, fun h => ?_, fun k h => ?_, fun h => ?_⟩
    · exact (fwuRow_starts (k := s.escrow.getD 0) (.inl rfl) hm hjob (Prod.ext h rfl)).trans (by rw [hj])
    · exact (fwuRow_starts (k := s.escrow.getD 0) (.inr (.inl rfl)) hm hjob (Prod.ext h rfl)).trans (by rw [hj])
    · exact (fwuRow_starts (k := s.escrow.getD 0) (.inr (.inr (.inl rfl))) hm hjob (Prod.ext h rfl)).trans (by rw [hj])
    · exact (fwuRow_starts (k := k) (.inr (.inr (.inr (.inl rfl)))) hm hjob (by simp [State.flashCheck, h])).trans (by rw [hj])
    · subst h
      exact (fwuRow_starts (.inr (.inr (.inr (.inr ⟨rfl, rfl⟩)))) hm hjob rfl).trans (by rw [hj])
  · intro m v r s hm hr h x hx
    have refused : refusal r = true ∧ r < 16 ∧ r ≠ 4 := by rw [hr]; split <;> decide
    have row : ∀ op, 1 ≤ op ∧ op ≤ 6 → ∃ t, fwuRow op m v s = .next t ∧ t.fld F.FWU_CMD_STAT_RESULT 0 = r
        ∧ t.fld F.FWU_CMD_STAT_OP 0 = op ∧ t.isSet Src.FWU_REFUSED = true
        ∧ t.reg .FWU_REFUSE_CNT 0 = BitVec.ofNat 32 (min (2 ^ 32 - 1) ((s.reg .FWU_REFUSE_CNT 0).toNat + 1))
        ∧ regsButAt [.FWU_CMD_STAT, .FWU_REFUSE_CNT] 0 s t ∧ onlyRegs s t := fun op hop =>
      ⟨_, fwuRow_waits hop hm hr h, refused_facts (by omega) refused.2.1 refused.1 (.inr refused.2.2) rfl⟩
    simp only [List.mem_cons, List.not_mem_nil, or_false] at hx
    rcases hx with rfl | rfl | rfl | rfl | rfl | rfl
    · exact row 1 (by decide)
    · exact row 2 (by decide)
    · exact row 3 (by decide)
    · exact row 4 (by decide)
    · exact row 5 (by decide)
    · exact row 6 (by decide)
  · exact fun m v r s hm hjob hr h => pieceCommand_refused hm hjob hr.symm h
  · intro m v s hm c hc
    have row : ∀ (m : Fin 8) op, m.val ≤ 6 → op = 0 ∨ op = 7 ∧ m.val ≠ 5 → ∃ t, fwuRow op m v s = .next t ∧ t.regs = s.regs
        ∧ t.isSet Src.FWU_CFG_REJECT = true ∧ onlyRegs s t := fun m op hm hop =>
      ⟨_, (fwuRow_taken hm op v s).trans (congrArg Host.Outcome.next (fwuCommand_reserved (by rwa [(fwuOf_op_put v (by omega)).1]))),
        reject_regs .., isSet_reject .., onlyRegs_reject ..⟩
    simp only [List.mem_cons, List.not_mem_nil, or_false] at hc
    rcases hc with rfl | rfl | rfl
    · exact row m 0 hm (.inl rfl)
    · exact row 0 7 (by decide) (.inr ⟨rfl, by decide⟩)
    · exact row 6 7 (by decide) (.inr ⟨rfl, by decide⟩)
  · exact fun m v k s hm hjob hescrow hst hpre hstart htime => armCommand_arms hm hjob hescrow hst hpre hstart htime
  · exact fun m v r s hm hjob hr h => armCommand_refused hm hjob hr h
  · exact fun m v s hm hjob harmed => disarmCommand hm hjob harmed
  · intro ok s hjob
    exact congrArg Host.Outcome.next (by simp only [fwuDone, hjob])
  · exact fun i count len k p x s hjob hop hslot _ hbytes hwf hi _ hlen hcount hi' hl hp =>
      fwuDone_piece hjob hop hslot hbytes hwf hi hlen hcount hi' hl hp
  · exact fun k x s hjob hop hslot hwf => fwuDone_erase hjob hop hslot hwf
  · exact fun k x s hjob hop hslot => fwuDone_verifies hjob hop hslot
  · exact fun a x s hjob hop hwf ha hlen => fwuDone_set hjob hop hwf ha hlen
  · exact fun x s hjob hop => hop ▸ fwuDone_stored hjob (by omega)
      ((endFlashWork_ledger hop _).trans (congrArg (Prod.mk 0) (saveLedger_idle_only s)))
  · exact fun x s hjob hop => fwuDone_fails hjob hop
  · exact fun k at_ s h hk hstart => activation_missed h hk hstart
  · exact fun k s h hk hstart hl => activation_runs h hk hstart hl
  · exact fun s h => congrArg Host.Outcome.next (activationDue_none h)

end Sys2Proof
end

section
/-!
SUPPORT. Starts, the watchdog and the life-cycle state (R410, R412 to R420): what the writes of the RST registers and the release of
harts do.
-/

namespace Sys2Proof.Machine

section
variable {h : Nat} {v : Word} {o : OtpState} {s t : State}

/-! ### The clock source of a reset (R390) -/

/-- The state in which XTAL_IN and SYSPLL are shown good. -/
def clocksShown (s : State) : State := s.setFlds 0 [(F.CLK_STAT_XTAL_OK, 1), (F.CLK_STAT_SYSPLL_LOCK, 1)]

theorem clocksShown_facts (s : State) : (clocksShown s).flag F.CLK_STAT_XTAL_OK 0 = true
    ∧ (clocksShown s).flag F.CLK_STAT_SYSPLL_LOCK 0 = true ∧ regsButAt [.CLK_STAT] 0 s (clocksShown s) ∧ onlyRegs s (clocksShown s)
    ∧ (clocksShown s).flt = s.flt := by
  refine ⟨?_, ?_, (regsButAt_setFlds _ (by simp)).2 regsButAt_refl, (onlyRegs_setFlds_iff ..).2 onlyRegs_refl, setFlds_flt ..⟩
  · simp (disch := decide) only [clocksShown, State.setFlds, State.flag, fld_setFld_apart, fld_setFld_same]
    rfl
  · simp (disch := decide) only [clocksShown, State.setFlds, State.flag, fld_setFld_same]
    rfl

theorem xtalPasses_held (hh : 9 ∈ s.rst.held) : ∃ r, xtalPasses s = { clocksShown s with rst := r } ∧ 9 ∉ r.held
    ∧ r.relAt = s.now + 2000000 := by
  have only := (clocksShown_facts s).2.2.2.1
  rw [xtalPasses, if_pos (by simpa using hh)]
  refine ⟨_, rfl, ?_, ?_⟩
  · simp
  · have now : (clocksShown s).now = s.now := by rw [only]
    exact congrArg (· + 2000000) now

theorem xtalPasses_idle (hh : 9 ∉ s.rst.held) : xtalPasses s = s := if_neg (by simpa using hh)

/-! ### A healthy start (R414) -/

theorem writeHealth_refused (hv : F.RST_HEALTH_HEALTH_OK.of v = 1)
    (h : F.RST_HEALTH_START_WINDOW.of v < 10 ∨ 3600 < F.RST_HEALTH_START_WINDOW.of v ∨ s.rst.inStart = false
      ∨ s.rst.startAt + s.fld F.RST_HEALTH_START_WINDOW 0 * 1000000000 ≤ s.now) : writeHealth v s = s.reject .RST := by
  refine if_pos ?_
  rcases h with h | h | h | h
  · exact .inl h
  · exact .inr (.inl h)
  · exact .inr (.inr (by simp [hv, h]))
  · exact .inr (.inr (by simp [hv, h]))

theorem confirmTrial_none (h : s.fwu.trial = false) : confirmTrial s = s := by
  unfold confirmTrial
  split
  · rw [if_neg (by simp [h])]
  · rfl

/-- The registers once a start is found healthy. -/
def healthShown (v : Word) (s : State) : State := (plainWrite .RST_HEALTH 0 v s).setFld F.RST_STAT_FAILED 0 0

theorem healthShown_only (v : Word) (s : State) : onlyRegs s (healthShown v s) :=
  (onlyRegs_setFld_iff ..).2 ((onlyRegs_plainWrite ..).2 onlyRegs_refl)

theorem writeHealth_ok (hv : F.RST_HEALTH_HEALTH_OK.of v = 1) (hlo : 10 ≤ F.RST_HEALTH_START_WINDOW.of v)
    (hhi : F.RST_HEALTH_START_WINDOW.of v ≤ 3600) (hstart : s.rst.inStart = true) (htrial : s.fwu.trial = false)
    (htime : s.now < s.rst.startAt + s.fld F.RST_HEALTH_START_WINDOW 0 * 1000000000) :
    writeHealth v s = wallReserve { healthShown v s with rst := { s.rst with inStart := false } } := by
  have only := healthShown_only v s
  have rst : (healthShown v s).rst = s.rst := by rw [only]
  have fwu : (healthShown v s).fwu = s.fwu := by rw [only]
  have ok : (F.RST_HEALTH_HEALTH_OK.of v == 1) = true := by rw [hv]; rfl
  have state : writeHealth v s = wallReserve (confirmTrial { healthShown v s with rst := { (healthShown v s).rst with inStart := false } }) := by
    rw [writeHealth, if_neg (by simp [hv, hstart, htime, hlo, hhi]), if_pos ok]
    rfl
  rw [state, confirmTrial_none (by rw [← htrial, ← fwu]), rst]

/-! ### The life-cycle state (R419, R420) -/

theorem writeLcReq_barred {m : Nat} (h : m ≠ 5) (v : Word) (s : State) : writeLcReq m v s = s.reject .RST := if_pos h

theorem writeLcReq_moves (h : s.lcTransition (F.RST_LC_REQ_TARGET.of v) (F.RST_LC_REQ_TOKEN.of v * 64) = some o) :
    writeLcReq 5 v s = decodeLc { plainWrite .RST_LC_REQ 0 v s with otp := o } := by
  rw [writeLcReq, if_neg (by decide)]
  simp only [h]

theorem writeLcReq_refuses (h : s.lcTransition (F.RST_LC_REQ_TARGET.of v) (F.RST_LC_REQ_TOKEN.of v * 64) = none) :
    writeLcReq 5 v s = (plainWrite .RST_LC_REQ 0 v s).raise Src.RST_LC_REJECT := by
  rw [writeLcReq, if_neg (by decide)]
  simp only [h]

theorem lcCode_lt (o : OtpState) : o.lcCode < 8 := by
  unfold OtpState.lcCode
  (repeat' split) <;> decide

/-- What the decoding of the life-cycle state shows and leaves. -/
theorem decodeLc_facts (s : State) : (decodeLc s).lc = s.otp.lcCode
    ∧ (decodeLc s).flag F.RST_STAT_DARKROOM 0 = s.flag F.RST_STAT_DARKROOM 0 ∧ regsButAt [.RST_STAT] 0 s (decodeLc s)
    ∧ ∃ h, decodeLc s = { s with regs := (decodeLc s).regs, xpt := h } := by
  generalize ht : s.setFlds 0 [(F.RST_STAT_LC, s.otp.lcCode), (F.RST_STAT_MC, s.otp.mc)] = t
  have shown : t.fld F.RST_STAT_LC 0 = s.otp.lcCode ∧ t.flag F.RST_STAT_DARKROOM 0 = s.flag F.RST_STAT_DARKROOM 0
      ∧ regsButAt [.RST_STAT] 0 s t ∧ onlyRegs s t ∧ t.flt = s.flt ∧ t.alertLow = s.alertLow := by
    rw [← ht]
    refine ⟨?_, ?_, (regsButAt_setFlds _ (by simp)).2 regsButAt_refl, (onlyRegs_setFlds_iff ..).2 onlyRegs_refl, setFlds_flt .., rfl⟩
    · simp (disch := decide) only [State.setFlds, fld_setFld_apart, fld_setFld_same]
      exact Nat.mod_eq_of_lt (lcCode_lt _)
    · simp (disch := decide) only [State.setFlds, State.flag, fld_setFld_apart]
  obtain ⟨hlc, hdark, hregs, honly, hflt, halert⟩ := shown
  obtain ⟨x, hx⟩ := wallReserve_only t
  have eq : decodeLc s = { t with xpt := { t.xpt with hbm := x } } := by rw [decodeLc, ht, hx]
  rw [eq]
  refine ⟨hlc, hdark, hregs, { s.xpt with hbm := x }, ?_⟩
  conv_lhs => rw [honly, hflt, halert]

/-! ### The release of harts (R412) -/

theorem coreOf_congr (h : ∀ c, t.reg .CPU_CORE_STAT c = s.reg .CPU_CORE_STAT c) (k : Nat) : t.coreOf k = s.coreOf k := by
  simp only [State.coreOf, State.coreServes, State.coreState, State.hartOf, fld_eq, h]

theorem hartUp_setHart_ne {k : Nat} (hk : k ≠ h) (hh : h < 4) (b : Bool) (s : State) : (setHart h b s).hartUp k = s.hartUp k := by
  rw [State.hartUp, setHart, fld_setFld_same _ (by decide), Nat.mod_eq_of_lt]
  · have apart := bitsOf_putBits_ne (s.fld F.CPU_STAT_HARTS_UP 0) (b2n b) (lo := h) (len := 1) (lo' := k) (len' := 1) (by omega)
    simp only [bitsOf, pow_one] at apart
    rw [bit, apart, State.hartUp, bit]
  · exact putBits_lt _ _ _ _ _ (fld_lt ..) (by simpa using hh)

theorem hartUp_of_reg (hreg : t.reg .CPU_STAT 0 = s.reg .CPU_STAT 0) (k : Nat) : t.hartUp k = s.hartUp k := by
  rw [State.hartUp, State.hartUp, fld_eq, fld_eq, hreg]

/-- A hart is released where a core serves it. -/
def hartReleased (s : State) (h : Nat) : State := if (s.coreOf h).isSome then setHart h true s else s

theorem hartReleased_frame (s : State) (h : Nat) : regsButAt [.CPU_STAT] 0 s (hartReleased s h) ∧ onlyRegs s (hartReleased s h)
    ∧ (hartReleased s h).flt = s.flt ∧ (hartReleased s h).alertLow = s.alertLow := by
  unfold hartReleased
  split
  · exact ⟨(regsButAt_setFld (f := F.CPU_STAT_HARTS_UP) (by decide) _).2 regsButAt_refl, (onlyRegs_setFld_iff ..).2 onlyRegs_refl, rfl, rfl⟩
  · exact ⟨regsButAt_refl, onlyRegs_refl, rfl, rfl⟩

/-- The harts of a list are released. -/
def hartsReleased (l : List Nat) (s : State) : State := l.foldl hartReleased s

theorem hartsReleased_frame (l : List Nat) (s : State) : regsButAt [.CPU_STAT] 0 s (hartsReleased l s) ∧ onlyRegs s (hartsReleased l s)
    ∧ (hartsReleased l s).flt = s.flt ∧ (hartsReleased l s).alertLow = s.alertLow :=
  foldl_rel (R := fun a b => regsButAt [.CPU_STAT] 0 a b ∧ onlyRegs a b ∧ b.flt = a.flt ∧ b.alertLow = a.alertLow)
    (fun _ => ⟨regsButAt_refl, onlyRegs_refl, rfl, rfl⟩)
    (fun ⟨h1, h2, h3, h4⟩ ⟨g1, g2, g3, g4⟩ => ⟨regsButAt_trans h1 g1, onlyRegs_trans h2 g2, g3.trans h3, g4.trans h4⟩)
    hartReleased_frame l s

theorem coreOf_hartReleased (s : State) (h k : Nat) : (hartReleased s h).coreOf k = s.coreOf k :=
  coreOf_congr (fun c => (hartReleased_frame s h).1 _ c fun hr => absurd hr (by decide)) k

/-- A hart runs after the release of a list of harts: it ran, or the list names it and a core serves it. -/
theorem hartUp_hartsReleased {l : List Nat} (hl : ∀ h ∈ l, h < 4) (s : State) (k : Nat) :
    (hartsReleased l s).hartUp k = (s.hartUp k || (decide (k ∈ l) && (s.coreOf k).isSome)) := by
  induction l generalizing s with
  | nil => simp [hartsReleased]
  | cons h l ih =>
    have small := hl h List.mem_cons_self
    rw [hartsReleased, List.foldl_cons, ← hartsReleased, ih fun j hj => hl j (List.mem_cons_of_mem _ hj), coreOf_hartReleased]
    by_cases hk : k = h
    · subst hk
      unfold hartReleased
      split
      next hs => simp [hartUp_setHart small, hs]
      next hs => simp [hs]
    · have other : (hartReleased s h).hartUp k = s.hartUp k := by
        unfold hartReleased
        split
        · exact hartUp_setHart_ne hk small _ s
        · rfl
      simp [other, hk]

/-! ### The runs of the spares (R456) -/

theorem faults_alertUpdate {b : Blk} (h : b ≠ .GPIO) (s : State) : (alertUpdate s).faults b = s.faults b := by
  unfold alertUpdate
  dsimp only
  split
  · exact faults_setFaults_ne _ _ h
  · rfl

theorem faults_raise_other {b : Blk} {x : Src} (h : b ≠ x.blk) (hg : b ≠ .GPIO) (s : State) : (s.raise x).faults b = s.faults b :=
  (faults_alertUpdate hg _).trans (faults_setFaults_ne _ _ h)

/-- From `s` to `t` runs were requested: the queue, the count of holds and their source are all that differ. -/
def runsRequested (s t : State) : Prop := regsButAt [.PWR_CAP_HOLD_CNT] 0 s t ∧ onlyRegs { s with vault := t.vault } t
  ∧ ∀ b, b ≠ .PWR → b ≠ .GPIO → t.faults b = s.faults b

theorem runsRequested_requestRun (s : State) (e : Nat) (rotate : Bool) : runsRequested s (requestRun e rotate s) := by
  refine ⟨?_, (requestRun_frame e rotate s).2.2, fun b hp hg => ?_⟩
  · simp only [requestRun]
    split
    · exact regsButAt_refl
    · split
      · rw [regsButAt_raise, regsButAt_bump_iff (by decide)]
        exact regsButAt_of_regs rfl
      · exact regsButAt_of_regs rfl
  · simp only [requestRun]
    split
    · rfl
    · split
      · exact faults_raise_other hp hg _
      · rfl

theorem runsRequested_trans {u : State} (h : runsRequested s t) (g : runsRequested t u) : runsRequested s u := by
  obtain ⟨h1, h2, h3⟩ := h
  obtain ⟨g1, g2, g3⟩ := g
  refine ⟨regsButAt_trans h1 g1, ?_, fun b hp hg => (g3 b hp hg).trans (h3 b hp hg)⟩
  have first : onlyRegs { s with vault := u.vault } { t with vault := u.vault } := by
    unfold onlyRegs at h2 ⊢
    conv_lhs => rw [h2]
  exact onlyRegs_trans first g2

theorem runsRequested_refl (s : State) : runsRequested s s := ⟨regsButAt_refl, onlyRegs_refl (s := s), fun _ _ _ => rfl⟩

theorem runsRequested_foldl (l : List Nat) (s : State) : runsRequested s (l.foldl (fun x e => requestRun e false x) s) :=
  foldl_rel runsRequested_refl runsRequested_trans (fun a e => runsRequested_requestRun a e false) l s

/-! ### The start (R412, R414, R417) -/

/-- The registers as a start begins: the harts that run, the watchdog enabled, HEALTH_OK clear. -/
def startShown (s : State) : State :=
  ((hartsReleased s.rst.harts s).setFlag F.RST_WDT_CFG_EN 0 true).setFlag F.RST_HEALTH_HEALTH_OK 0 false

theorem startShown_facts (s : State) : (∀ k, (startShown s).hartUp k = (hartsReleased s.rst.harts s).hartUp k)
    ∧ (startShown s).flag F.RST_WDT_CFG_EN 0 = true ∧ (startShown s).flag F.RST_HEALTH_HEALTH_OK 0 = false
    ∧ regsButAt [.CPU_STAT, .RST_WDT_CFG, .RST_HEALTH] 0 s (startShown s) ∧ onlyRegs s (startShown s) ∧ (startShown s).flt = s.flt := by
  obtain ⟨hregs, honly, hflt, -⟩ := hartsReleased_frame s.rst.harts s
  unfold startShown
  generalize hartsReleased s.rst.harts s = t at *
  refine ⟨fun k => ?_, ?_, flag_setFlag_same _ (by decide) rfl _ _, ?_, ?_, hflt⟩
  · refine hartUp_of_reg ?_ k
    rw [State.setFlag, State.setFlag, reg_setFld_apart _ _ _ _ (by decide), reg_setFld_apart _ _ _ _ (by decide)]
  · rw [flag_setFlag_apart _ (by decide) (by decide)]
    exact flag_setFlag_same _ (by decide) rfl _ _
  · rw [regsButAt_setFlag (by decide), regsButAt_setFlag (by decide)]
    exact regsButAt_mono (by decide) hregs
  · rw [onlyRegs_setFlag_iff, onlyRegs_setFlag_iff]
    exact honly

/-- A start begins at the present instant. -/
def startBegun (s : State) : State := { startShown s with
  rst := { s.rst with harts := [], begins := false, inStart := true, startAt := s.now, wdtOn := true, kickAt := s.now } }

theorem releaseHarts_starts (hh : s.rst.harts ≠ []) (hl : s.rst.level = 0) (hb : s.rst.begins = true) :
    releaseHarts s = (startBegun s).sparesToTest.foldl (fun x e => requestRun e false x) (wallReserve (startBegun s)) := by
  obtain ⟨-, -, -, -, only, -⟩ := startShown_facts s
  have rst : (startShown s).rst = s.rst := by rw [only]
  have now : (startShown s).now = s.now := by rw [only]
  have first : (hartsReleased s.rst.harts s).rst = s.rst := by rw [(hartsReleased_frame s.rst.harts s).2.1]
  rw [startBegun, ← rst, ← now, releaseHarts, if_neg (by simp [hh, hl]), if_pos hb]
  rfl

theorem releaseHarts_later (hh : s.rst.harts ≠ []) (hl : s.rst.level = 0) (hb : s.rst.begins = false) :
    ∃ r : RstState, r.harts = [] ∧ r.inStart = s.rst.inStart ∧ releaseHarts s = { hartsReleased s.rst.harts s with rst := r } := by
  have same : (hartsReleased s.rst.harts s).rst.inStart = s.rst.inStart := by rw [(hartsReleased_frame s.rst.harts s).2.1]
  have fold : s.rst.harts.foldl (fun u h => if (u.coreOf h).isSome then setHart h true u else u) s = hartsReleased s.rst.harts s := rfl
  rw [releaseHarts, if_neg (by simp [hh, hl]), if_neg (by simp [hb]), fold]
  split
  · refine ⟨_, ?_, ?_, rfl⟩
    · rfl
    · exact same
  · refine ⟨_, ?_, ?_, rfl⟩
    · rfl
    · exact same

theorem releaseHarts_none (hh : s.rst.harts = []) : releaseHarts s = s := if_pos (.inl hh)

end

end Sys2Proof.Machine
end

section
/-!
PROOFS. The release of a reset (R406, R409, R412, R413): the boot steps of its level, the image that starts, and Darkroom mode.
-/

namespace Sys2Proof.Machine

section
variable {k c n : Nat} {b : BootReport} {s t u : State}

/-! ### Boot steps and the registers that they leave (R412, R458) -/

/-- The registers of the units, of the ledger and of BIST. -/
def bootRegs : List RegName := [.XPT_SLICE_STAT, .CUE_ENG_STAT, .WCOMP_UNIT, .AUD_ASRC_UNIT, .CPU_CORE_STAT, .VAULT_LG_HRS,
  .WCOMP_PIPE_STAT, .AUD_ASRC_STAT, .LANE_QUAD_STAT, .VAULT_LG_BIST, .VAULT_LG_VMIN, .VAULT_LG_ECC, .BIST_LAST, .BIST_LAST_DONE_LO,
  .BIST_LAST_DONE_HI, .BIST_LAST_EXP_LO, .BIST_LAST_EXP_HI, .BIST_LAST_SIG, .BIST_LAST_SIG_EXP, .BIST_PASS_CNT, .BIST_FAIL_CNT,
  .BIST_INC_CNT]

/-- From `s` to `t` a boot step changed no register but those of units, ledger and BIST, nor the reset control. -/
def bootKeeps (s t : State) : Prop := regsBut bootRegs s t ∧ t.rst = s.rst

theorem bootKeeps_refl (s : State) : bootKeeps s s := ⟨regsBut_refl, rfl⟩

theorem bootKeeps.trans (h : bootKeeps s t) (g : bootKeeps t u) : bootKeeps s u := ⟨regsBut_trans h.1 g.1, g.2.trans h.2⟩

theorem bootKeeps_foldl {α : Type} {g : State → α → State} (h : ∀ a x, bootKeeps a (g a x)) (l : List α) (s : State) :
    bootKeeps s (l.foldl g s) := foldl_rel bootKeeps_refl bootKeeps.trans h l s

theorem bootKeeps_of_onlyRegs {rs : List RegName} (hrs : rs ⊆ bootRegs) (h : regsBut rs s t) (ho : onlyRegs s t) : bootKeeps s t :=
  ⟨regsBut_mono hrs h, by rw [ho]⟩

theorem bootKeeps_of_regs (h : t.regs = s.regs) (hr : t.rst = s.rst) : bootKeeps s t := ⟨regsBut_of_regs h, hr⟩

theorem bootKeeps_setUnit (s : State) (e st : Nat) : bootKeeps s (s.setUnit e st) :=
  bootKeeps_of_onlyRegs (rs := unitRegs) (by decide) ((regsBut_setUnit (List.Subset.refl _) e st).2 regsBut_refl) (onlyRegs_setUnit ..)

theorem bootKeeps_raise (s : State) (x : Src) : bootKeeps s (s.raise x) := bootKeeps_of_regs (raise_regs ..) (raise_rst ..)

theorem bootKeeps_assignRoles (s : State) : bootKeeps s (assignRoles s) := by
  obtain ⟨hregs, heq⟩ := rolesOnly_assignRoles s
  exact ⟨regsBut_mono (by decide) hregs, by rw [heq]⟩

/-- The registers of the last run. -/
def runShown (x verdict cause done : Nat) (sig expected : Word) (s : State) : State :=
  ((s.setFlds 0 [(F.BIST_LAST_TARGET, x), (F.BIST_LAST_VERDICT, verdict), (F.BIST_LAST_CAUSE, cause),
    (F.BIST_LAST_DONE_LO_CYCLES_DONE, done), (F.BIST_LAST_DONE_HI_CYCLES_DONE, done / 2 ^ 32),
    (F.BIST_LAST_EXP_LO_CYCLES_EXPECTED, cyclesExpected x), (F.BIST_LAST_EXP_HI_CYCLES_EXPECTED, cyclesExpected x / 2 ^ 32)]).setReg
      .BIST_LAST_SIG 0 sig).setReg .BIST_LAST_SIG_EXP 0 expected

theorem bootKeeps_runShown (x verdict cause done : Nat) (sig expected : Word) (s : State) :
    bootKeeps s (runShown x verdict cause done sig expected s) := by
  refine bootKeeps_of_onlyRegs (List.Subset.refl _) ?_ ?_
  · rw [runShown, regsBut_setReg (by decide), regsBut_setReg (by decide), regsBut_setFlds _ _ (by simp [bootRegs])]
    exact regsBut_refl
  · rw [runShown, onlyRegs_setReg_iff, onlyRegs_setReg_iff, onlyRegs_setFlds_iff]
    exact onlyRegs_refl

theorem bootKeeps_bump {r : RegName} (hr : r ∈ bootRegs) (i : Nat) (s : State) : bootKeeps s (s.bump r i) :=
  ⟨(regsBut_bump hr i).2 regsBut_refl, rfl⟩

theorem bootKeeps_recordRun (x verdict cause done : Nat) (sig expected : Word) (s : State) :
    bootKeeps s (recordRun x verdict cause done sig expected s) := by
  unfold recordRun
  dsimp only
  split
  · exact (bootKeeps_runShown x 1 cause done sig expected s).trans (bootKeeps_bump (by decide) ..)
  · exact ((bootKeeps_runShown x 2 cause done sig expected s).trans (bootKeeps_bump (by decide) ..)).trans (bootKeeps_raise ..)
  · exact ((bootKeeps_runShown x verdict cause done sig expected s).trans (bootKeeps_bump (by decide) ..)).trans (bootKeeps_raise ..)

theorem bootKeeps_ledgerRun (e verdict : Nat) (margin : Option Nat) (s : State) : bootKeeps s (ledgerRun e verdict margin s) := by
  obtain ⟨hregs, honly⟩ := ledgerRun_frame e verdict margin s
  exact bootKeeps_of_onlyRegs (by decide) hregs honly

theorem bootKeeps_startupRun (pass : Nat → Bool) (s : State) (e : Nat) : bootKeeps s (startupRun pass s e) := by
  have freed : bootKeeps s { s with free := s.free + 1 + 1 + 1 + 1 } := bootKeeps_of_regs rfl rfl
  simp only [startupRun]
  split
  · exact ((freed.trans (bootKeeps_recordRun ..)).trans (bootKeeps_ledgerRun ..)).trans (bootKeeps_setUnit ..)
  · exact (((freed.trans (bootKeeps_recordRun ..)).trans (bootKeeps_ledgerRun ..)).trans (bootKeeps_setUnit ..)).trans (bootKeeps_raise ..)

theorem bootKeeps_stripePlane (pass : Nat → Bool) (s : State) (p : Nat) : bootKeeps s (stripePlane pass s p) :=
  bootKeeps_foldl (fun _ _ => bootKeeps_of_onlyRegs (List.Subset.refl _) ((regsBut_setFlds _ _ (by simp [bootRegs])).2 regsBut_refl)
    ((onlyRegs_setFlds_iff ..).2 onlyRegs_refl)) _ s

theorem bootKeeps_restoreEntry (bs : List Byte) (s : State) (e : Nat) : bootKeeps s (restoreEntry bs s e) := by
  refine bootKeeps_of_onlyRegs (List.Subset.refl _) ?_ ?_
  · rw [restoreEntry, regsBut_setReg (by decide), regsBut_setReg (by decide), regsBut_setReg (by decide),
      regsBut_setFlds _ _ (by simp [bootRegs])]
    exact regsBut_refl
  · rw [restoreEntry, onlyRegs_setReg_iff, onlyRegs_setReg_iff, onlyRegs_setReg_iff, onlyRegs_setFlds_iff]
    exact onlyRegs_refl

theorem bootKeeps_restoreLedger (s : State) : bootKeeps s (restoreLedger s) := by
  have verdicts (u : State) : bootKeeps u ((List.range 422).foldl (fun (t : State) e => t.setFld F.VAULT_LG_BIST_VERDICT e 0) u) :=
    bootKeeps_foldl (fun a e => bootKeeps_of_onlyRegs (List.Subset.refl _)
      ((regsBut_setFld (f := F.VAULT_LG_BIST_VERDICT) (by decide) _ _).2 regsBut_refl) (onlyRegs_setFld ..)) _ u
  unfold restoreLedger
  dsimp only
  split
  · exact verdicts s
  · exact (bootKeeps_foldl (fun a e => bootKeeps_restoreEntry _ a e) (List.range 422) s).trans (verdicts _)

/-- The state after the slices' start-up runs and striping. -/
def slicesStarted (pass : Nat → Bool) (s : State) : State :=
  [0, 1].foldl (stripePlane pass) ((s.usableUnits (List.range 18)).foldl (startupRun pass) s)

theorem bootKeeps_slicesStarted (pass : Nat → Bool) (s : State) : bootKeeps s (slicesStarted pass s) :=
  (bootKeeps_foldl (bootKeeps_startupRun pass) _ s).trans (bootKeeps_foldl (bootKeeps_stripePlane pass) [0, 1] _)

theorem startupBist_eq (pass : Nat → Bool) (s : State) : ∃ n c, startupBist pass s =
    (((slicesStarted pass s).setFlds 0 [(F.BIST_STAT_STARTUP_DONE, 1), (F.BIST_STAT_SLICE_PASS, n)]).raiseIf c Src.BIST_STARTUP_FAIL).setFlag
      F.XPT_STAT_INIT_DONE 0 true := ⟨_, _, rfl⟩

/-- The end of start-up BIST: its flags set, and what it leaves. -/
theorem startupBist_facts (pass : Nat → Bool) (s : State) : (startupBist pass s).flag F.BIST_STAT_STARTUP_DONE 0 = true
    ∧ (startupBist pass s).flag F.XPT_STAT_INIT_DONE 0 = true ∧ regsBut (.BIST_STAT :: .XPT_STAT :: bootRegs) s (startupBist pass s)
    ∧ (startupBist pass s).rst = s.rst := by
  obtain ⟨hregs, hrst⟩ := bootKeeps_slicesStarted pass s
  obtain ⟨n, c, h⟩ := startupBist_eq pass s
  rw [h]
  generalize slicesStarted pass s = t at *
  refine ⟨?_, flag_setFlag_same _ (by decide) rfl _ _, ?_, ?_⟩
  · rw [flag_setFlag_apart _ (by decide) (by decide), flag_of_regs (raiseIf_regs ..)]
    simp (disch := decide) only [State.setFlds, State.flag, fld_setFld_apart, fld_setFld_same]
    rfl
  · rw [regsBut_setFlag (by simp), regsBut_raiseIf, regsBut_setFlds _ _ (by simp)]
    exact regsBut_mono (fun r hr => by simp [hr]) hregs
  · have only : onlyRegs t (((t.setFlds 0 [(F.BIST_STAT_STARTUP_DONE, 1), (F.BIST_STAT_SLICE_PASS, n)]).raiseIf c Src.BIST_STARTUP_FAIL).setFlag
        F.XPT_STAT_INIT_DONE 0 true) := by
      rw [onlyRegs_setFlag_iff, onlyRegs_raiseIf, onlyRegs_setFlds_iff]
      exact onlyRegs_refl
    rw [only, hrst]

/-! ### OTP and the hardware steps (R412 steps 2 to 7) -/

/-- The OTP words that a power-on reset loads are shown: LOADED, the life-cycle state; the units take their roles. -/
theorem loadOtp_facts (ok : Bool) (s : State) : (loadOtp ok s).flag F.CAL_STAT_LOADED 0 = true ∧ (loadOtp ok s).lc = s.otp.lcCode
    ∧ (loadOtp ok s).flag F.RST_STAT_DARKROOM 0 = s.flag F.RST_STAT_DARKROOM 0
    ∧ regsBut (.CAL_STAT :: .RST_STAT :: .PWR_THERM_STAT :: bootRegs) s (loadOtp ok s) ∧ (loadOtp ok s).rst = s.rst := by
  have loaded : (otpLoad ok s).flag F.CAL_STAT_LOADED 0 = true ∧ regsBut [.CAL_STAT] s (otpLoad ok s) ∧ onlyRegs s (otpLoad ok s) := by
    refine ⟨?_, ?_, ?_⟩
    · rw [otpLoad, flag_of_regs (raiseIf_regs ..)]
      simp (disch := decide) only [State.flag, State.setFlag, fld_setFld_apart, fld_setFld_same]
      rfl
    · rw [otpLoad, regsBut_raiseIf, regsBut_setFlag (by decide), regsBut_setFld (by decide)]
      exact regsBut_refl
    · rw [otpLoad, onlyRegs_raiseIf, onlyRegs_setFlag_iff, onlyRegs_setFld_iff]
      exact onlyRegs_refl
  obtain ⟨hload, hcal, honly⟩ := loaded
  obtain ⟨hlc, hdark, hstat, x, heq⟩ := decodeLc_facts (otpLoad ok s)
  have otp : (otpLoad ok s).otp = s.otp := by rw [honly]
  have rst1 : (otpLoad ok s).rst = s.rst := by rw [honly]
  have rst2 : (decodeLc (otpLoad ok s)).rst = s.rst := by rw [heq]; exact rst1
  have roles (u : State) : bootKeeps u (assignRoles ((s.otp.retired.filter (fun e => decide (e < 294))).foldl (fun (t : State) e => t.setUnit e 4) u)) :=
    (bootKeeps_foldl (fun a e => bootKeeps_setUnit a e 4) _ u).trans (bootKeeps_assignRoles _)
  obtain ⟨hregs, hrst⟩ := roles ((decodeLc (otpLoad ok s)).setFlag F.PWR_THERM_STAT_GRADE_X 0 s.otp.gradeX)
  have eq : loadOtp ok s = assignRoles ((s.otp.retired.filter (fun e => decide (e < 294))).foldl (fun (t : State) e => t.setUnit e 4)
    ((decodeLc (otpLoad ok s)).setFlag F.PWR_THERM_STAT_GRADE_X 0 s.otp.gradeX)) := rfl
  rw [← eq] at hregs hrst
  generalize loadOtp ok s = u at *
  generalize decodeLc (otpLoad ok s) = t at *
  have graded : regsBut (.PWR_THERM_STAT :: bootRegs) t u :=
    regsBut_trans ((regsBut_setFlag (f := F.PWR_THERM_STAT_GRADE_X) (by decide) 0 s.otp.gradeX).2 (regsBut_refl (s := t)))
      (regsBut_mono (fun r hr => by simp [hr]) hregs)
  refine ⟨?_, ?_, ?_, ?_, ?_⟩
  · rw [graded.flag (by decide), hstat.flag_other (f := F.CAL_STAT_LOADED) (by decide), hload]
  · rw [State.lc, graded.fld (by decide), ← State.lc, hlc, otp]
  · rw [graded.flag (by decide), hdark, hcal.flag (by decide)]
  · refine regsBut_trans (regsBut_mono ?_ hcal) (regsBut_trans (regsBut_mono ?_ (regsBut_of_regsButAt hstat)) (regsBut_mono ?_ graded))
    · simp
    · simp
    · intro r hr
      simp only [List.mem_cons] at hr ⊢
      exact .inr (.inr hr)
  · rw [hrst]
    exact rst2

/-- The state before start-up BIST: straps latched, at a power-on reset OTP loaded and the ledger restored, the clocks shown locked. -/
def hardwareStarted (ok : Bool) (s : State) : State :=
  (if s.rst.level = 4 then restoreLedger (loadOtp ok (latchStraps s)) else latchStraps s).setFlds 0
    [(F.CLK_STAT_AON_LOCK, 1), (F.CLK_STAT_XTAL_OK, 1), (F.CLK_STAT_SYSPLL_LOCK, 1)]

theorem hardwareStarted_facts (ok : Bool) (s : State) : (hardwareStarted ok s).flag F.CLK_STAT_AON_LOCK 0 = true
    ∧ (hardwareStarted ok s).flag F.CLK_STAT_XTAL_OK 0 = true ∧ (hardwareStarted ok s).flag F.CLK_STAT_SYSPLL_LOCK 0 = true
    ∧ (hardwareStarted ok s).fld F.IDM_STRAP_SLOT_ID 0 = s.fld F.IDM_STRAP_LIVE_SLOT 0
    ∧ (s.rst.level = 4 → (hardwareStarted ok s).lc = s.otp.lcCode ∧ (hardwareStarted ok s).flag F.CAL_STAT_LOADED 0 = true)
    ∧ (hardwareStarted ok s).flag F.RST_STAT_DARKROOM 0 = s.flag F.RST_STAT_DARKROOM 0 ∧ (hardwareStarted ok s).rst = s.rst := by
  have latched : (latchStraps s).fld F.IDM_STRAP_SLOT_ID 0 = s.fld F.IDM_STRAP_LIVE_SLOT 0 ∧ regsBut [.IDM_STRAP] s (latchStraps s)
      ∧ onlyRegs s (latchStraps s) := by
    refine ⟨?_, ?_, ?_⟩
    · simp (disch := decide) only [latchStraps, State.setFlds, fld_setFld_apart, fld_setFld_same]
      exact Nat.mod_eq_of_lt (fld_lt s F.IDM_STRAP_LIVE_SLOT 0)
    · rw [latchStraps, regsBut_setFlds _ _ (by simp)]
      exact regsBut_refl
    · rw [latchStraps, onlyRegs_setFlds_iff]
      exact onlyRegs_refl
  obtain ⟨hslot, hregs, honly⟩ := latched
  have otp : (latchStraps s).otp = s.otp := by rw [honly]
  have rst : (latchStraps s).rst = s.rst := by rw [honly]
  generalize ht : (if s.rst.level = 4 then restoreLedger (loadOtp ok (latchStraps s)) else latchStraps s) = t
  have loaded : t.fld F.IDM_STRAP_SLOT_ID 0 = (latchStraps s).fld F.IDM_STRAP_SLOT_ID 0
      ∧ (s.rst.level = 4 → t.lc = s.otp.lcCode ∧ t.flag F.CAL_STAT_LOADED 0 = true)
      ∧ t.flag F.RST_STAT_DARKROOM 0 = (latchStraps s).flag F.RST_STAT_DARKROOM 0 ∧ t.rst = s.rst := by
    rw [← ht]
    split
    next h4 =>
      obtain ⟨hload, hlc, hdark, hbut, hrst⟩ := loadOtp_facts ok (latchStraps s)
      obtain ⟨kregs, krst⟩ := bootKeeps_restoreLedger (loadOtp ok (latchStraps s))
      refine ⟨?_, fun _ => ⟨?_, ?_⟩, ?_, by rw [krst, hrst, rst]⟩
      · rw [kregs.fld (by decide), hbut.fld (by decide)]
      · rw [State.lc, kregs.fld (by decide), ← State.lc, hlc, otp]
      · rw [kregs.flag (by decide), hload]
      · rw [kregs.flag (by decide), hdark]
    next h4 => exact ⟨rfl, fun h => absurd h h4, rfl, rst⟩
  obtain ⟨lslot, lload, ldark, lrst⟩ := loaded
  have eq : hardwareStarted ok s = t.setFlds 0 [(F.CLK_STAT_AON_LOCK, 1), (F.CLK_STAT_XTAL_OK, 1), (F.CLK_STAT_SYSPLL_LOCK, 1)] := by
    rw [hardwareStarted, ht]
  have clk : regsBut [.CLK_STAT] t (hardwareStarted ok s) := by
    rw [eq, regsBut_setFlds _ _ (by simp)]
    exact regsBut_refl
  refine ⟨?_, ?_, ?_, ?_, fun h4 => ⟨?_, ?_⟩, ?_, ?_⟩
  · rw [eq]
    simp (disch := decide) only [State.setFlds, State.flag, fld_setFld_apart, fld_setFld_same]
    rfl
  · rw [eq]
    simp (disch := decide) only [State.setFlds, State.flag, fld_setFld_apart, fld_setFld_same]
    rfl
  · rw [eq]
    simp (disch := decide) only [State.setFlds, State.flag, fld_setFld_same]
    rfl
  · rw [clk.fld (by decide), lslot, hslot]
  · rw [State.lc, clk.fld (by decide), ← State.lc, (lload h4).1]
  · rw [clk.flag (by decide), (lload h4).2]
  · rw [clk.flag (by decide), ldark, hregs.flag (by decide)]
  · rw [eq]
    exact lrst

/-- HBM training: the stacks that passed are trained, the other ones are a failure. -/
theorem trainHbm_facts (a b : Bool) (s : State) : (0 ∈ (trainHbm a b s).hbm.trained ↔ a = true)
    ∧ (1 ∈ (trainHbm a b s).hbm.trained ↔ b = true) ∧ (b = false → (trainHbm a b s).isSet Src.HBM_TRAIN_FAIL = true)
    ∧ (trainHbm a b s).regs = s.regs ∧ (trainHbm a b s).rst = s.rst := by
  have hbm : (trainHbm a b s).hbm.trained = (if a then [0] else []) ++ (if b then [1] else []) := by
    rw [trainHbm, State.raiseIf]
    split
    · rw [raise_hbm]
    · rfl
  refine ⟨?_, ?_, fun hb => ?_, raiseIf_regs .., ?_⟩
  · rw [hbm]
    cases a <;> cases b <;> simp
  · rw [hbm]
    cases a <;> cases b <;> simp
  · rw [trainHbm, State.raiseIf, if_pos (by simp [hb])]
    exact isSet_raise_same _ (by decide)
  · rw [trainHbm, State.raiseIf]
    split
    · rw [raise_rst]
    · rfl

theorem releaseHardware_eq (b : BootReport) (s : State) : releaseHardware b s =
    trainHbm b.stackA b.stackB (startupBist (fun e => b.slices.getLsbD e) (hardwareStarted b.otpOk s)) := rfl

/-- The hardware steps of a release. -/
theorem releaseHardware_facts (b : BootReport) (s : State) : (releaseHardware b s).rst = s.rst
    ∧ (releaseHardware b s).flag F.CLK_STAT_AON_LOCK 0 = true ∧ (releaseHardware b s).flag F.CLK_STAT_XTAL_OK 0 = true
    ∧ (releaseHardware b s).flag F.CLK_STAT_SYSPLL_LOCK 0 = true ∧ (releaseHardware b s).flag F.BIST_STAT_STARTUP_DONE 0 = true
    ∧ (releaseHardware b s).flag F.XPT_STAT_INIT_DONE 0 = true
    ∧ (releaseHardware b s).fld F.IDM_STRAP_SLOT_ID 0 = s.fld F.IDM_STRAP_LIVE_SLOT 0
    ∧ (s.rst.level = 4 → (releaseHardware b s).lc = s.otp.lcCode ∧ (releaseHardware b s).flag F.CAL_STAT_LOADED 0 = true)
    ∧ (releaseHardware b s).flag F.RST_STAT_DARKROOM 0 = s.flag F.RST_STAT_DARKROOM 0 := by
  obtain ⟨haon, hxtal, hpll, hslot, hload, hdark, hrst⟩ := hardwareStarted_facts b.otpOk s
  rw [releaseHardware_eq]
  generalize hardwareStarted b.otpOk s = h at *
  obtain ⟨hdone, hinit, bregs, brst⟩ := startupBist_facts (fun e => b.slices.getLsbD e) h
  generalize startupBist (fun e => b.slices.getLsbD e) h = t at *
  obtain ⟨-, -, -, tregs, trst⟩ := trainHbm_facts b.stackA b.stackB t
  refine ⟨trst.trans (brst.trans hrst), ?_, ?_, ?_, ?_, ?_, ?_, fun h4 => ⟨?_, ?_⟩, ?_⟩
  · rw [flag_of_regs tregs, bregs.flag (by decide), haon]
  · rw [flag_of_regs tregs, bregs.flag (by decide), hxtal]
  · rw [flag_of_regs tregs, bregs.flag (by decide), hpll]
  · rw [flag_of_regs tregs, hdone]
  · rw [flag_of_regs tregs, hinit]
  · rw [fld_of_regs tregs, bregs.fld (by decide), hslot]
  · rw [State.lc, fld_of_regs tregs, bregs.fld (by decide), ← State.lc, (hload h4).1]
  · rw [flag_of_regs tregs, bregs.flag (by decide), (hload h4).2]
  · rw [flag_of_regs tregs, bregs.flag (by decide), hdark]

/-! ### The image that starts (R412 step 8, R472) -/

/-- From `s` to `t` memory alone differs. -/
def memOnly (s t : State) : Prop := t = { s with mem := t.mem }

theorem memOnly_refl (s : State) : memOnly s s := rfl

theorem memOnly_trans (h : memOnly s t) (g : memOnly t u) : memOnly s u := by
  unfold memOnly at *
  rw [g, h]

theorem memOnly_setSlot (k st : Nat) (s : State) : memOnly s (setSlot k st s) := setSlot_eq ..

theorem memOnly.rst (h : memOnly s t) : t.rst = s.rst := by rw [h]

theorem runImage_rst (k : Nat) (s : State) : (runImage k s).rst = s.rst := by
  obtain ⟨-, boot⟩ := setBoot_frame k (loadImage k false s)
  have image := loadImage_only k false s
  simp only [runImage]
  generalize loadImage k false s = t at *
  rw [boot, image]

/-- The state in which the elder of two ACTIVE slots is PREVIOUS (R464). -/
def elderPrevious (s : State) : State :=
  match s.activeSlot with
  | some a => if s.slotState (1 - a) = 6 then setSlot (1 - a) 7 s else s
  | none => s

theorem memOnly_elderPrevious (s : State) : memOnly s (elderPrevious s) := by
  unfold elderPrevious
  split
  · split
    · exact memOnly_setSlot ..
    · exact rfl
  · exact rfl

/-- The choice among the slots as they stand (R472). -/
def bootFrom (s : State) : Option State × State :=
  match s.trialSlot.or s.activeSlot with
  | none => (none, s)
  | some k =>
    if s.imageResult k = 0 then (some (runImage k s), s)
    else if (setSlot k 8 s).slotState (1 - k) = 6 ∨ (setSlot k 8 s).slotState (1 - k) = 7 then
      if (setSlot k 8 s).imageResult (1 - k) = 0 then (some (runImage (1 - k) (setSlot k 8 s)), setSlot k 8 s)
      else (none, setSlot (1 - k) 8 (setSlot k 8 s))
    else (none, setSlot k 8 s)

theorem bootImage_eq (s : State) : bootImage s = bootFrom (elderPrevious s) := rfl

/-- A choice wrote memory alone, and its image runs in a state with the reset control as it was. -/
def choiceKeeps (s : State) (x : Option State × State) : Prop := memOnly s x.2 ∧ ∀ t, x.1 = some t → t.rst = s.rst

theorem choiceKeeps_none (h : memOnly s t) : choiceKeeps s (none, t) :=
  ⟨h, fun u hu => absurd hu (Option.some_ne_none u).symm⟩

theorem choiceKeeps_run (h : memOnly s t) (k : Nat) : choiceKeeps s (some (runImage k t), t) :=
  ⟨h, fun u hu => by rw [← Option.some.inj hu, runImage_rst, h.rst]⟩

theorem choiceKeeps_bootFrom (s : State) : choiceKeeps s (bootFrom s) := by
  unfold bootFrom
  split
  · exact choiceKeeps_none (memOnly_refl s)
  next k _ =>
    have second : memOnly s (setSlot k 8 s) := memOnly_setSlot ..
    generalize setSlot k 8 s = t at *
    split
    · exact choiceKeeps_run (memOnly_refl s) k
    · split
      · split
        · exact choiceKeeps_run second _
        · exact choiceKeeps_none (memOnly_trans second (memOnly_setSlot ..))
      · exact choiceKeeps_none second

theorem choiceKeeps_bootImage (s : State) : choiceKeeps s (bootImage s) := by
  have first := memOnly_elderPrevious s
  rw [bootImage_eq]
  generalize elderPrevious s = t at *
  obtain ⟨hmem, hran⟩ := choiceKeeps_bootFrom t
  exact ⟨memOnly_trans first hmem, fun u hu => (hran u hu).trans first.rst⟩

/-- Darkroom mode entered from a release: a system reset, with the failed-start counter as it was. -/
theorem enterDarkroom_facts (h : s.rst.level < 3) : (enterDarkroom s).rst.level = 3 ∧ (enterDarkroom s).flag F.RST_STAT_DARKROOM 0 = true
    ∧ (enterDarkroom s).fld F.RST_STAT_FAILED 0 = s.fld F.RST_STAT_FAILED 0 := by
  have level := (systemReset_facts h 13).1
  have stat := systemReset_stat h 13
  unfold enterDarkroom
  generalize beginReset 3 true false (some 13) s = t at *
  refine ⟨by rw [alertUpdate_rst]; exact level, ?_, ?_⟩
  · rw [flag_of_regs (alertUpdate_regs _)]
    exact flag_setFlag_same _ (by decide) rfl _ _
  · rw [fld_of_regs (alertUpdate_regs _), State.setFlag, fld_setFld_apart (f := F.RST_STAT_DARKROOM) (g := F.RST_STAT_FAILED) _ (by decide) (by decide),
      fld_eq, stat, fld_eq]

theorem loadStep_dark (h : s.flag F.RST_STAT_DARKROOM 0 = true) : loadStep s = s := if_pos h

/-- Outside Darkroom mode and DECOMMISSIONED the harts become ready, or Darkroom mode is entered: at once where stack A is not trained. -/
theorem loadStep_facts (hdark : s.flag F.RST_STAT_DARKROOM 0 = false) (hlc : s.lc ≠ 4) (hl : s.rst.level = 0) :
    (((loadStep s).rst.level = 0 ∧ (loadStep s).rst.harts = [0, 1, 2, 3] ∧ (loadStep s).rst.begins = true)
      ∨ ((loadStep s).rst.level = 3 ∧ (loadStep s).flag F.RST_STAT_DARKROOM 0 = true
        ∧ (loadStep s).fld F.RST_STAT_FAILED 0 = s.fld F.RST_STAT_FAILED 0))
    ∧ (0 ∉ s.hbm.trained → (loadStep s).flag F.RST_STAT_DARKROOM 0 = true) := by
  unfold loadStep
  rw [if_neg (by simp [hdark]), if_neg hlc]
  by_cases htrain : 0 ∈ s.hbm.trained
  · rw [if_neg (by simpa using htrain)]
    refine ⟨?_, fun h => absurd htrain h⟩
    have keeps := choiceKeeps_bootImage s
    generalize bootImage s = x at *
    obtain ⟨_ | t, u⟩ := x
    · have hmem : memOnly s u := keeps.1
      obtain ⟨h1, h2, h3⟩ := enterDarkroom_facts (s := u) (by rw [hmem.rst, hl]; decide)
      exact .inr ⟨h1, h2, h3.trans (fld_of_regs (by rw [hmem]) ..)⟩
    · have level : t.rst.level = 0 := by rw [keeps.2 t rfl, hl]
      exact .inl ⟨level, rfl, rfl⟩
  · rw [if_pos (by simpa using htrain)]
    obtain ⟨h1, h2, h3⟩ := enterDarkroom_facts (s := s) (by omega)
    exact ⟨.inr ⟨h1, h2, h3⟩, fun _ => h2⟩

/-! ### The release (R406, R413) -/

theorem passToNow_frame (n : Nat) (s : State) : onlyTime s (passToNow n s) ∧ (passToNow n s).regs = s.regs
    ∧ n ≤ (passToNow n s).now := by
  refine ⟨onlyTime_elapse .., elapse_regs .., ?_⟩
  rw [passToNow, elapse_now]
  omega

theorem releaseReset_held (h : s.rst.held ≠ []) (b : BootReport) : releaseReset b s = s := if_pos h

/-- The state at the end of the stretch, its hardware steps done. -/
def stretchEnded (b : BootReport) (s : State) : State :=
  if 3 ≤ s.rst.level then releaseHardware b (passToNow s.rst.relAt s) else passToNow s.rst.relAt s

/-- The reset is over. -/
def resetEnded (s : State) : State := { s with rst := { s.rst with level := 0, activating := false } }

theorem releaseReset_eq (hheld : s.rst.held = []) (hl : s.rst.level ≠ 0) (b : BootReport) : releaseReset b s =
    if s.rst.activating then hartsReady (resetEnded (stretchEnded b s)) else loadStep (resetEnded (stretchEnded b s)) := by
  rw [releaseReset, if_neg (by simp [hheld]), if_neg hl]
  rfl

theorem stretchEnded_rst (b : BootReport) (s : State) : (stretchEnded b s).rst = s.rst := by
  have passed : (passToNow s.rst.relAt s).rst = s.rst := by rw [(passToNow_frame s.rst.relAt s).1]
  unfold stretchEnded
  split
  · rw [(releaseHardware_facts b _).1, passed]
  · exact passed

theorem releaseReset_dark (hheld : s.rst.held = []) (hl : 3 ≤ s.rst.level) (hdark : s.flag F.RST_STAT_DARKROOM 0 = true)
    (hact : s.rst.activating = false) (b : BootReport) :
    ∃ t, exec (.resetRelease b) s = .next t ∧ t.rst.level = 0 ∧ t.rst.harts = s.rst.harts ∧ t.rst.inStart = s.rst.inStart
      ∧ t.flag F.CLK_STAT_AON_LOCK 0 = true ∧ t.flag F.CLK_STAT_XTAL_OK 0 = true ∧ t.flag F.CLK_STAT_SYSPLL_LOCK 0 = true
      ∧ t.flag F.BIST_STAT_STARTUP_DONE 0 = true ∧ t.flag F.XPT_STAT_INIT_DONE 0 = true
      ∧ t.fld F.IDM_STRAP_SLOT_ID 0 = s.fld F.IDM_STRAP_LIVE_SLOT 0 ∧ (0 ∈ t.hbm.trained ↔ b.stackA = true)
      ∧ (1 ∈ t.hbm.trained ↔ b.stackB = true) ∧ (b.stackB = false → t.isSet Src.HBM_TRAIN_FAIL = true)
      ∧ (s.rst.level = 4 → t.fld F.RST_STAT_LC 0 = s.otp.lcCode ∧ t.flag F.CAL_STAT_LOADED 0 = true) ∧ t.pending = s.pending := by
  obtain ⟨hpass, hregs, -⟩ := passToNow_frame s.rst.relAt s
  have otp : (passToNow s.rst.relAt s).otp = s.otp := by rw [hpass]
  have rst : (passToNow s.rst.relAt s).rst = s.rst := by rw [hpass]
  obtain ⟨hrst, haon, hxtal, hpll, hdone, hinit, hslot, hload, hkept⟩ := releaseHardware_facts b (passToNow s.rst.relAt s)
  obtain ⟨ha, hb, hfail, -, -⟩ := trainHbm_facts b.stackA b.stackB
    (startupBist (fun e => b.slices.getLsbD e) (hardwareStarted b.otpOk (passToNow s.rst.relAt s)))
  rw [← releaseHardware_eq] at ha hb hfail
  have ended : stretchEnded b s = releaseHardware b (passToNow s.rst.relAt s) := if_pos hl
  have eq := releaseReset_eq hheld (by omega) b
  have pend := releaseReset_pending b s
  rw [ended, if_neg (by simp [hact])] at eq
  generalize releaseHardware b (passToNow s.rst.relAt s) = t at *
  have dark : (resetEnded t).flag F.RST_STAT_DARKROOM 0 = true := hkept.trans ((flag_of_regs hregs ..).trans hdark)
  rw [loadStep_dark dark] at eq
  rw [eq] at pend
  exact ⟨resetEnded t, congrArg Host.Outcome.next eq, rfl, (congrArg RstState.harts (hrst.trans rst) :), (congrArg RstState.inStart (hrst.trans rst) :),
    haon, hxtal, hpll, hdone, hinit, hslot.trans (fld_of_regs hregs ..), ha, hb, hfail,
    fun h4 => by rw [← otp]; exact hload (by rw [rst, h4]), pend⟩

theorem releaseConfined_one {n : Nat} (h : s.rst.conf = ⟨[(c, n)]⟩) : releaseConfined s = { passToNow n s with
    rst := { (passToNow n s).rst with conf := (passToNow n s).rst.conf.erase c, harts := (passToNow n s).rst.harts ++ [(passToNow n s).hartOf c] } } := by
  simp only [releaseConfined, h, List.foldl_cons, List.foldl_nil]

theorem releaseReset_confined {n : Nat} (hheld : s.rst.held = []) (hl : s.rst.level = 0) (h : s.rst.conf = ⟨[(c, n)]⟩) (b : BootReport) :
    ∃ u, exec (.resetRelease b) s = .next u ∧ u.rst.conf = ⟨[]⟩ ∧ u.rst.harts = s.rst.harts ++ [s.hartOf c]
      ∧ n ≤ u.now ∧ u.regs = s.regs ∧ still s u := by
  obtain ⟨hpass, hregs, hnow⟩ := passToNow_frame n s
  have rst : (passToNow n s).rst = s.rst := by rw [hpass]
  have hart : (passToNow n s).hartOf c = s.hartOf c := fld_of_regs hregs ..
  have eq : releaseReset b s = releaseConfined s := by rw [releaseReset, if_neg (by simp [hheld]), if_pos hl]
  refine ⟨_, congrArg Host.Outcome.next (eq.trans (releaseConfined_one h)), ?_, ?_, hnow, hregs, passToNow_pending n s, passToNow_mem n s⟩
  · dsimp only
    rw [rst, h]
    simp [AMap.erase]
  · dsimp only
    rw [rst, hart]

theorem releaseReset_activated (hheld : s.rst.held = []) (hl : 2 ≤ s.rst.level) (hact : s.rst.activating = true) (b : BootReport) :
    ∃ t, exec (.resetRelease b) s = .next t ∧ t.rst.level = 0 ∧ t.rst.harts = [0, 1, 2, 3] ∧ t.rst.begins = true
      ∧ t.pending = s.pending := by
  have eq := releaseReset_eq hheld (by omega) b
  have pend := releaseReset_pending b s
  rw [if_pos hact] at eq
  rw [eq] at pend
  exact ⟨_, congrArg Host.Outcome.next eq, rfl, rfl, rfl, pend⟩

/-- A core reset's release: the image that starts. -/
theorem releaseReset_core (hheld : s.rst.held = []) (hl : s.rst.level = 2) (hact : s.rst.activating = false)
    (hdark : s.flag F.RST_STAT_DARKROOM 0 = false) (hlc : s.lc ≠ 4) (b : BootReport) :
    ∃ t, exec (.resetRelease b) s = .next t ∧ t.pending = s.pending
      ∧ ((t.rst.level = 0 ∧ t.rst.harts = [0, 1, 2, 3] ∧ t.rst.begins = true)
        ∨ (t.rst.level = 3 ∧ t.flag F.RST_STAT_DARKROOM 0 = true ∧ t.fld F.RST_STAT_FAILED 0 = s.fld F.RST_STAT_FAILED 0))
      ∧ (0 ∉ s.hbm.trained → t.flag F.RST_STAT_DARKROOM 0 = true) := by
  obtain ⟨hpass, hregs, -⟩ := passToNow_frame s.rst.relAt s
  have hbm : (passToNow s.rst.relAt s).hbm = s.hbm := by rw [hpass]
  have ended : stretchEnded b s = passToNow s.rst.relAt s := if_neg (by omega)
  have eq := releaseReset_eq hheld (by omega) b
  have pend := releaseReset_pending b s
  rw [ended, if_neg (by simp [hact])] at eq
  generalize passToNow s.rst.relAt s = u at *
  have same : (resetEnded u).regs = s.regs := hregs
  obtain ⟨hstart, htrain⟩ := loadStep_facts (s := resetEnded u) ((flag_of_regs same ..).trans hdark)
    (by rw [State.lc, fld_of_regs same]; exact hlc) rfl
  rw [fld_of_regs same] at hstart
  rw [eq] at pend
  exact ⟨_, congrArg Host.Outcome.next eq, pend, hstart, fun h => htrain (by rw [← hbm] at h; exact h)⟩

/-! ### The harts and the start (R412, R414) -/

theorem releaseHarts_begin (hh : s.rst.harts = [0, 1, 2, 3]) (hl : s.rst.level = 0) (hb : s.rst.begins = true) :
    ∃ t, exec .hartRelease s = .next t ∧ (∀ h, h < 4 → (s.coreOf h).isSome = true → t.hartUp h = true)
      ∧ t.rst.inStart = true ∧ t.rst.startAt = s.now ∧ t.rst.kickAt = s.now ∧ t.wdtRuns = true
      ∧ t.flag F.RST_WDT_CFG_EN 0 = true ∧ t.flag F.RST_HEALTH_HEALTH_OK 0 = false ∧ t.rst.harts = [] ∧ t.rst.begins = false
      ∧ regsButAt [.CPU_STAT, .RST_WDT_CFG, .RST_HEALTH, .PWR_CAP_HOLD_CNT] 0 s t
      ∧ (∀ b, b ≠ .PWR → b ≠ .GPIO → t.faults b = s.faults b) ∧ still s t := by
  have eq := releaseHarts_starts (by simp [hh]) hl hb
  have pend := releaseHarts_pending s
  have mem := releaseHarts_mem s
  obtain ⟨hup, hwdt, hok, hregs, honly, hflt⟩ := startShown_facts s
  obtain ⟨x, hx⟩ := wallReserve_only (startBegun s)
  obtain ⟨rregs, ronly, rfaults⟩ := runsRequested_foldl (startBegun s).sparesToTest (wallReserve (startBegun s))
  rw [← eq] at rregs ronly rfaults
  have regs : (wallReserve (startBegun s)).regs = (startShown s).regs := by rw [hx]; rfl
  have flt : (wallReserve (startBegun s)).flt = (startShown s).flt := by rw [hx]; rfl
  have rst : (releaseHarts s).rst = (startBegun s).rst := by rw [ronly, hx]
  have shown : regsButAt [.PWR_CAP_HOLD_CNT] 0 (startShown s) (releaseHarts s) := regsButAt_trans (regsButAt_of_regs regs) rregs
  refine ⟨releaseHarts s, rfl, fun h h4 hcore => ?_, by rw [rst]; rfl, by rw [rst]; rfl, by rw [rst]; rfl, ?_, ?_, ?_, by rw [rst]; rfl,
    by rw [rst]; rfl, regsButAt_trans (regsButAt_mono (by decide) hregs) (regsButAt_mono (by decide) shown), fun b hp hg => ?_, pend, mem⟩
  · rw [hartUp_of_reg (shown _ 0 (by decide)), hup, hartUp_hartsReleased (by rw [hh]; decide), hcore, hh]
    have : h ∈ [0, 1, 2, 3] := by simp; omega
    simp [this]
  · rw [State.wdtRuns, rst, shown.flag_other (by decide), hwdt]
    rfl
  · rw [shown.flag_other (by decide), hwdt]
  · rw [shown.flag_other (by decide), hok]
  · rw [rfaults b hp hg, State.faults, flt, hflt, State.faults]

theorem releaseHarts_one {h : Nat} (hh : s.rst.harts = [h]) (h4 : h < 4) (hl : s.rst.level = 0) (hb : s.rst.begins = false)
    (hcore : (s.coreOf h).isSome = true) :
    ∃ t, exec .hartRelease s = .next t ∧ t.hartUp h = true ∧ (∀ k, k ≠ h → t.hartUp k = s.hartUp k)
      ∧ t.rst.harts = [] ∧ t.rst.inStart = s.rst.inStart ∧ regsButAt [.CPU_STAT] 0 s t ∧ t.flt = s.flt ∧ still s t := by
  obtain ⟨r, harts, inStart, eq⟩ := releaseHarts_later (by simp [hh]) hl hb
  have pend := releaseHarts_pending s
  have mem := releaseHarts_mem s
  obtain ⟨hregs, honly, hflt, -⟩ := hartsReleased_frame s.rst.harts s
  have up := hartUp_hartsReleased (l := s.rst.harts) (by rw [hh]; simpa using h4) s
  rw [eq] at pend mem
  refine ⟨_, congrArg Host.Outcome.next eq, ?_, fun k hk => ?_, harts, inStart, hregs, hflt, pend, mem⟩
  · exact (up h).trans (by rw [hh, hcore]; simp)
  · exact (up k).trans (by rw [hh]; simp [hk])

/-! ### HEALTH_OK and the life-cycle transitions (R414, R419, R420) -/

theorem healthShown_facts {v : Word} (hv : F.RST_HEALTH_HEALTH_OK.of v = 1) (s : State) : (healthShown v s).flag F.RST_HEALTH_HEALTH_OK 0 = true
    ∧ (healthShown v s).fld F.RST_STAT_FAILED 0 = 0
    ∧ (healthShown v s).fld F.RST_HEALTH_START_WINDOW 0 = F.RST_HEALTH_START_WINDOW.of v
    ∧ regsButAt [.RST_HEALTH, .RST_STAT] 0 s (healthShown v s) ∧ onlyRegs s (healthShown v s) ∧ (healthShown v s).flt = s.flt := by
  refine ⟨?_, fld_setFld_same _ (by decide) 0 0, ?_, ?_, healthShown_only v s, plainWrite_flt ..⟩
  · have set : v.getLsbD 0 = true := by
      have one := (Fld.of_bit0 (f := F.RST_HEALTH_HEALTH_OK) rfl rfl v).symm.trans hv
      revert one
      cases v.getLsbD 0 <;> decide
    rw [healthShown, State.flag, fld_setFld_apart _ (by decide) (by decide), fld_eq, plainWrite_of_plain rfl, reg_setReg_same,
      Fld.of_bit0 rfl rfl, RegName.getLsbD_written, set]
    simp [show (RegName.RST_HEALTH.typeMask .w1s).getLsbD 0 = true by decide, b2n]
  · rw [healthShown, fld_setFld_apart _ (by decide) (by decide)]
    exact fld_plainWrite (f := F.RST_HEALTH_START_WINDOW) rfl (by decide) 0 v s
  · rw [healthShown, regsButAt_setFld (by decide), regsButAt_plainWrite rfl (by decide)]
    exact regsButAt_refl

theorem exec_lcRequest {m : Fin 8} (h : m ≠ 7) (v : Word) (s : State) : exec (.lcRequest m v) s = .next (writeLcReq m v s) :=
  congrArg Host.Outcome.next (byMaster_of_ne (fun h7 => h (Fin.ext h7)) ..)

theorem lcTransition_some {g tok : Nat} {o : OtpState} (h : g = 1 ∧ s.lc = 0 ∧ o = { s.otp with lcProv := true }
      ∨ g = 2 ∧ s.lc = 1 ∧ o = { s.otp with lcServ := true }
      ∨ g = 3 ∧ s.lc = 2 ∧ s.otp.mc ≤ 254 ∧ s.tokenOk tok = true ∧ o = { s.otp with mc := s.otp.mc + 1 }
      ∨ g = 2 ∧ s.lc = 3 ∧ o = { s.otp with mc := s.otp.mc + 1 }
      ∨ g = 4 ∧ (s.lc = 2 ∨ s.lc = 3) ∧ o = { s.otp with lcDecom := true }) : s.lcTransition g tok = some o := by
  unfold State.lcTransition
  rcases h with ⟨rfl, hl, rfl⟩ | ⟨rfl, hl, rfl⟩ | ⟨rfl, hl, hm, ht, rfl⟩ | ⟨rfl, hl, rfl⟩ | ⟨rfl, hl | hl, rfl⟩
  · simp only [hl]
  · simp only [hl]
  · simp only [hl]
    exact if_pos ⟨hm, ht⟩
  · simp only [hl]
  · simp only [hl]
  · simp only [hl]

theorem lcTransition_none {g tok : Nat} (h : g = 0 ∨ 4 < g ∨ s.lc = 4 ∨ (s.lc = 0 ∧ g ≠ 1) ∨ (s.lc = 1 ∧ g ≠ 2)
      ∨ (s.lc = 2 ∧ (g = 1 ∨ g = 2)) ∨ (s.lc = 3 ∧ (g = 1 ∨ g = 3)) ∨ (g = 3 ∧ s.lc = 2 ∧ 254 < s.otp.mc)
      ∨ (g = 3 ∧ s.lc = 2 ∧ s.tokenOk tok = false)) : s.lcTransition g tok = none := by
  unfold State.lcTransition
  dsimp only
  split
  · omega
  · omega
  · refine if_neg fun ⟨hm, ht⟩ => ?_
    rw [ht] at h
    simp only [Bool.true_eq_false, and_false, or_false] at h
    omega
  · omega
  · omega
  · omega
  · rfl

end

end Sys2Proof.Machine

namespace Sys2Proof

open Machine

/-- Settles O55: the release of a reset through its boot steps, the start through the release of harts, the life-cycle state through its
transitions. -/
theorem releaseStartAndLifeCycle : Obligations.ReleaseStartAndLifeCycle := by
  unfold Obligations.ReleaseStartAndLifeCycle
  refine ⟨?_, ?_, ?_, ?_, ?_, ?_, ?_, ?_, ?_, ?_, ?_, ?_, ?_, ?_, ?_, ?_, ?_, ?_⟩
  · intro s hheld
    obtain ⟨r, eq, hout, hrel⟩ := xtalPasses_held hheld
    obtain ⟨hxtal, hpll, hregs, honly, hflt⟩ := clocksShown_facts s
    exact ⟨_, congrArg Host.Outcome.next eq, hout, hrel, hxtal, hpll, hregs, hflt, onlyRegs_pending (t := clocksShown s) honly,
      onlyRegs_mem (t := clocksShown s) honly⟩
  · exact fun s h => congrArg Host.Outcome.next (xtalPasses_idle h)
  · exact fun b s h => congrArg Host.Outcome.next (releaseReset_held h b)
  · exact fun b s hheld hl hdark hact => releaseReset_dark hheld hl hdark hact b
  · exact fun b s hheld hl hact => releaseReset_activated hheld hl hact b
  · exact fun b s hheld hl hact hdark hlc => releaseReset_core hheld hl hact hdark hlc b
  · exact fun b c t s hheld hl h => releaseReset_confined hheld hl h b
  · exact fun s hh hl hb => releaseHarts_begin hh hl hb
  · exact fun h s hh h4 hl hb hcore => releaseHarts_one hh h4 hl hb hcore
  · exact fun s h => congrArg Host.Outcome.next (releaseHarts_none h)
  · exact fun m s => ⟨_, rfl, AMap.find?_set_same .., reg_setReg_same .., (regsButAt_setReg_iff (by decide) _).2 (regsButAt_of_regs rfl),
      rfl, rfl, rfl⟩
  · intro v s hstart htrial hlo hhi htime
    have window : F.RST_HEALTH_START_WINDOW.of (F.RST_HEALTH_HEALTH_OK.put v 1) = F.RST_HEALTH_START_WINDOW.of v :=
      Fld.of_put_ne (by decide) (by decide) v 1
    have ok : F.RST_HEALTH_HEALTH_OK.of (F.RST_HEALTH_HEALTH_OK.put v 1) = 1 := Fld.of_put (by decide) v 1
    have eq := writeHealth_ok (s := s) ok (by rwa [window]) (by rwa [window]) hstart htrial htime
    obtain ⟨hok, hfailed, hwindow, hregs, honly, hflt⟩ := healthShown_facts ok s
    obtain ⟨x, hx⟩ := wallReserve_only { healthShown (F.RST_HEALTH_HEALTH_OK.put v 1) s with rst := { s.rst with inStart := false } }
    rw [hx] at eq
    exact ⟨_, congrArg Host.Outcome.next eq, hok, hfailed, hwindow.trans window, rfl, hregs, hflt,
      onlyRegs_pending (t := healthShown (F.RST_HEALTH_HEALTH_OK.put v 1) s) honly,
      onlyRegs_mem (t := healthShown (F.RST_HEALTH_HEALTH_OK.put v 1) s) honly⟩
  · intro v s h
    have window : F.RST_HEALTH_START_WINDOW.of (F.RST_HEALTH_HEALTH_OK.put v 1) = F.RST_HEALTH_START_WINDOW.of v :=
      Fld.of_put_ne (by decide) (by decide) v 1
    refine ⟨_, congrArg Host.Outcome.next (writeHealth_refused (Fld.of_put (by decide) v 1) (by rwa [window])), reject_regs ..,
      isSet_reject .., onlyRegs_reject ..⟩
  · exact fun v s h => congrArg Host.Outcome.next (if_pos h)
  · exact fun v s h => ⟨_, congrArg Host.Outcome.next (if_neg h), reject_regs .., isSet_reject .., onlyRegs_reject ..⟩
  · intro v g tok o s hg htok h
    subst hg htok
    have moves : s.lcTransition (F.RST_LC_REQ_TARGET.of v) (F.RST_LC_REQ_TOKEN.of v * 64) = some o := lcTransition_some h
    obtain ⟨hlc, -, hregs, x, heq⟩ := decodeLc_facts { plainWrite .RST_LC_REQ 0 v s with otp := o }
    have only : onlyRegs s (plainWrite .RST_LC_REQ 0 v s) := (onlyRegs_plainWrite ..).2 onlyRegs_refl
    have wrote : regsButAt [.RST_LC_REQ, .RST_STAT] 0 s (plainWrite .RST_LC_REQ 0 v s) :=
      (regsButAt_plainWrite rfl (by decide) 0 v).2 regsButAt_refl
    refine ⟨_, (exec_lcRequest (by decide) v s).trans (congrArg Host.Outcome.next (writeLcReq_moves moves)), ?_, hlc,
      regsButAt_trans wrote (regsButAt_mono (by decide) hregs), ?_, ?_, ?_⟩
    · rw [heq]
    · rw [heq]
      exact plainWrite_flt ..
    · rw [heq]
      exact onlyRegs_pending (t := plainWrite .RST_LC_REQ 0 v s) only
    · rw [heq]
      exact onlyRegs_mem (t := plainWrite .RST_LC_REQ 0 v s) only
  · intro v g s hg h
    subst hg
    have refuses : s.lcTransition (F.RST_LC_REQ_TARGET.of v) (F.RST_LC_REQ_TOKEN.of v * 64) = none := lcTransition_none h
    have only : onlyRegs s (plainWrite .RST_LC_REQ 0 v s) := (onlyRegs_plainWrite ..).2 onlyRegs_refl
    refine ⟨_, (exec_lcRequest (by decide) v s).trans (congrArg Host.Outcome.next (writeLcReq_refuses refuses)), ?_, ?_,
      isSet_raise_same _ (by decide), ?_, ?_, ?_⟩
    · rw [raise_otp, only]
    · rw [reg_of_regs (raise_regs ..), reg_plainWrite_apart rfl (by decide)]
    · rw [regsButAt_raise, regsButAt_plainWrite rfl (by decide)]
      exact regsButAt_refl
    · rw [raise_pending, onlyRegs_pending only]
    · rw [raise_mem, onlyRegs_mem only]
  · intro m v s h5 h7
    refine ⟨s.reject .RST, (exec_lcRequest h7 v s).trans (congrArg Host.Outcome.next
      (writeLcReq_barred (fun h => h5 (Fin.ext h)) v s)),
      reject_regs .., ?_, isSet_reject .., onlyRegs_reject ..⟩
    exact raise_otp ..

end Sys2Proof
end

section
/-!
SUPPORT. What the Vault's acts leave alone (R25, R207, R276, R295, R345, R441 to R450): the registers that show no unit, place or
migration, and the fault sources that are set.
-/

namespace Sys2Proof.Machine

section
-- Many short proofs in a row: one at a time, so that they do not each hold a thread.
set_option Elab.async false
variable {s t u : State}

/-- The registers that a change of a unit, a migration or a retirement writes. -/
def vaultActRegs : List RegName := [.XPT_SLICE_STAT, .CUE_ENG_STAT, .WCOMP_UNIT, .AUD_ASRC_UNIT, .CPU_CORE_STAT, .VAULT_LG_HRS,
  .LANE_QUAD_STAT, .LANE_STAT, .WCOMP_PIPE_STAT, .AUD_ASRC_STAT, .CPU_STAT, .CPU_HANDOVER_CNT, .VAULT_ROT_CNT, .VAULT_RETIRE_CNT]

/-- What the Vault does not touch of the frames, the Tally Mirror and the routes. -/
def State.framesAndRoutes (s : State) : AMap TdState × TtbState × AMap RouteSet := (s.td, s.ttb, s.xpt.rt)

/-- From `s` to `t` units changed: no other register, no source cleared, and the Vault's queue, runs and migrations as they were. -/
structure UnitsChange (s t : State) : Prop where
  regs : regsBut vaultActRegs s t
  sets : KeepsSet s t
  vault : t.vault = s.vault
  kept : t.framesAndRoutes = s.framesAndRoutes

/-- From `s` to `t` the Vault acted: no other register, and no source cleared. -/
structure VaultActs (s t : State) : Prop where
  regs : regsBut vaultActRegs s t
  sets : KeepsSet s t
  kept : t.framesAndRoutes = s.framesAndRoutes

theorem UnitsChange.acts (h : UnitsChange s t) : VaultActs s t := ⟨h.regs, h.sets, h.kept⟩

theorem unitsChange_refl (s : State) : UnitsChange s s := ⟨regsBut_refl, keepsSet_refl s, rfl, rfl⟩

theorem UnitsChange.trans (h : UnitsChange s t) (g : UnitsChange t u) : UnitsChange s u :=
  ⟨regsBut_trans h.regs g.regs, h.sets.trans g.sets, g.vault.trans h.vault, g.kept.trans h.kept⟩

theorem vaultActs_refl (s : State) : VaultActs s s := ⟨regsBut_refl, keepsSet_refl s, rfl⟩

theorem VaultActs.trans (h : VaultActs s t) (g : VaultActs t u) : VaultActs s u := ⟨regsBut_trans h.regs g.regs, h.sets.trans g.sets, g.kept.trans h.kept⟩

theorem unitsChange_foldl {α : Type} {g : State → α → State} (h : ∀ a x, UnitsChange a (g a x)) (l : List α) (s : State) :
    UnitsChange s (l.foldl g s) := foldl_rel unitsChange_refl UnitsChange.trans h l s

theorem vaultActs_foldl {α : Type} {g : State → α → State} (h : ∀ a x, VaultActs a (g a x)) (l : List α) (s : State) :
    VaultActs s (l.foldl g s) := foldl_rel vaultActs_refl VaultActs.trans h l s

theorem unitsChange_of (hr : t.regs = s.regs) (hf : t.flt = s.flt) (hv : t.vault = s.vault)
    (hk : t.framesAndRoutes = s.framesAndRoutes := by rfl) : UnitsChange s t := ⟨regsBut_of_regs hr, keepsSet_of_flt hf, hv, hk⟩

theorem vaultActs_of (hr : t.regs = s.regs) (hf : t.flt = s.flt) (hk : t.framesAndRoutes = s.framesAndRoutes := by rfl) :
    VaultActs s t := ⟨regsBut_of_regs hr, keepsSet_of_flt hf, hk⟩

theorem vaultActs_vault (v : VaultState) (s : State) : VaultActs s { s with vault := v } := vaultActs_of rfl rfl

theorem unitsChange_setFld {f : Fld} (hf : f.reg ∈ vaultActRegs) (i v : Nat) (s : State) : UnitsChange s (s.setFld f i v) :=
  ⟨(regsBut_setFld hf i v).2 regsBut_refl, keepsSet_of_flt rfl, rfl, rfl⟩

theorem unitsChange_bump {r : RegName} (hr : r ∈ vaultActRegs) (i : Nat) (s : State) : UnitsChange s (s.bump r i) :=
  ⟨(regsBut_bump hr i).2 regsBut_refl, keepsSet_of_flt rfl, rfl, rfl⟩

theorem unitsChange_raise (x : Src) (s : State) : UnitsChange s (s.raise x) :=
  by
  refine ⟨regsBut_of_regs (raise_regs ..), keepsSet_raise s x, raise_vault .., ?_⟩
  rw [State.framesAndRoutes, raise_td, raise_ttb, raise_xpt]
  rfl

theorem unitsChange_raiseIf (c : Bool) (x : Src) (s : State) : UnitsChange s (s.raiseIf c x) := by
  unfold State.raiseIf
  split
  · exact unitsChange_raise x s
  · exact unitsChange_refl s

theorem unitsChange_setUnit (e st : Nat) (s : State) : UnitsChange s (s.setUnit e st) :=
  unitsChange_setFld ((by decide : unitRegs ⊆ vaultActRegs) (unitField_reg_mem e)) _ _ s

/-! ### Slices and storage (R16, R171, R191) -/

theorem unitsChange_dropStores (n : Nat) (s : State) : UnitsChange s (dropStores n s) := by
  induction n generalizing s with
  | zero => exact unitsChange_refl s
  | succ n ih =>
    rw [dropStores]
    split
    · exact unitsChange_refl s
    · split
      · exact unitsChange_refl s
      · refine UnitsChange.trans ?_ (ih _)
        split
        · refine UnitsChange.trans ?_ (unitsChange_raise ..)
          exact unitsChange_of rfl rfl rfl
        · exact unitsChange_of rfl rfl rfl

theorem unitsChange_reserveStore {e stride : Nat} (h : s.reserveStore e stride = some t) : UnitsChange s t := by
  unfold State.reserveStore at h
  split at h
  · cases h
    exact unitsChange_of rfl rfl rfl
  · cases h

theorem unitsChange_restoreStores (s : State) : UnitsChange s (restoreStores s) := by
  refine unitsChange_foldl (fun a x => ?_) _ s
  split
  next u hu =>
    split
    · exact (unitsChange_reserveStore hu).trans (unitsChange_of rfl rfl rfl)
    · exact unitsChange_reserveStore hu
  next => exact unitsChange_refl a

theorem unitsChange_recap {f : State → State} (hf : UnitsChange s (f s)) : UnitsChange s (recap f s) := by
  unfold recap
  dsimp only
  split
  · exact ((hf.trans (unitsChange_raiseIf ..)).trans (unitsChange_raiseIf ..)).trans (unitsChange_dropStores ..)
  · exact ((hf.trans (unitsChange_raiseIf ..)).trans (unitsChange_raiseIf ..)).trans (unitsChange_restoreStores ..)

theorem unitsChange_settlePlane (p : Nat) (s : State) : UnitsChange s (settlePlane p s) := by
  unfold settlePlane
  dsimp only
  split
  · exact unitsChange_foldl (fun a k => unitsChange_setFld (by decide) _ _ a) _ s
  · exact (unitsChange_foldl (fun a k => unitsChange_setFld (by decide) _ _ a) _ s).trans
      (unitsChange_foldl (fun a x => unitsChange_setFld (by decide) _ _ a) _ _)

theorem unitsChange_wallReserve (s : State) : UnitsChange s (wallReserve s) := by
  obtain ⟨x, hx⟩ := wallReserve_only s
  rw [hx]
  exact unitsChange_of rfl rfl rfl

theorem unitsChange_setUnitR (e st : Nat) (s : State) : UnitsChange s (setUnitR e st s) := by
  unfold setUnitR
  split
  · exact unitsChange_recap ((unitsChange_setUnit ..).trans (unitsChange_settlePlane ..))
  · exact (unitsChange_setUnit ..).trans (unitsChange_wallReserve _)
  · have moved : UnitsChange s ((s.setUnit e st).setQuad ((e - 198) / 3) ((s.quadOf ((e - 198) / 3)).setPhase ((e - 198) % 3) .stopped)) :=
      (unitsChange_setUnit e st s).trans (unitsChange_of rfl rfl rfl)
    dsimp only
    split
    · exact moved.trans (unitsChange_setFld (by decide) ..)
    · exact moved
  · exact unitsChange_setUnit ..

/-! ### Roles and units given out (R443, R447) -/

theorem unitsChange_setServe (e : Nat) (n : Option Nat) (s : State) : UnitsChange s (setServe e n s) := by
  have served : UnitsChange s { s with cue := { s.cue with serve := s.cue.serve.set e n } } := unitsChange_of rfl rfl rfl
  cases n with
  | some d => exact served.trans (unitsChange_setFld (f := F.CUE_ENG_STAT_TD) (by decide) ..)
  | none => exact served

theorem unitsChange_of_rolesOnly (h : rolesOnly s t) (hs : servedRegs ⊆ vaultActRegs := by decide) : UnitsChange s t :=
  ⟨regsBut_mono hs h.1, keepsSet_of_flt (by rw [h.2]), by rw [h.2], by rw [h.2]; rfl⟩

theorem unitsChange_givePipe (q u : Nat) (s : State) : UnitsChange s (givePipe q u s) := unitsChange_of_rolesOnly (rolesOnly_givePipe q u s)

theorem unitsChange_giveAsrc (c u : Nat) (s : State) : UnitsChange s (giveAsrc c u s) := unitsChange_of_rolesOnly (rolesOnly_giveAsrc c u s)

theorem unitsChange_setHart (h : Nat) (up : Bool) (s : State) : UnitsChange s (setHart h up s) := unitsChange_setFld (by decide) ..

theorem unitsChange_giveOut (e : Nat) (s : State) : UnitsChange s (giveOut e s) := by
  unfold giveOut
  split
  · exact unitsChange_refl s
  · split
    · split
      · exact (unitsChange_givePipe ..).trans (unitsChange_wallReserve _)
      · exact unitsChange_refl s
    · split
      · exact unitsChange_giveAsrc ..
      · exact unitsChange_refl s
    · split
      · have core := (unitsChange_setUnit e 0 s).trans (unitsChange_setFld (f := F.CPU_CORE_STAT_HART) (by decide) (e - 125) ‹Nat› _)
        dsimp only
        split
        · exact core
        · exact core.trans (unitsChange_setHart ..)
      · exact unitsChange_refl s
    · dsimp only
      split
      · exact unitsChange_of rfl rfl rfl
      · exact unitsChange_refl s
    · exact unitsChange_refl s

theorem unitsChange_movePll (q k u : Nat) (s : State) : UnitsChange s (movePll q k u s) := by
  unfold movePll
  dsimp only
  refine UnitsChange.trans ?_ (unitsChange_setFld (f := F.LANE_QUAD_STAT_SPARE) (by decide) ..)
  refine UnitsChange.trans (unitsChange_foldl (fun a n => unitsChange_setFld (f := F.LANE_STAT_TX_PLL) (by decide) n u a) (s.pllLanes q k) s) ?_
  exact unitsChange_of rfl rfl rfl

theorem unitsChange_passRole (e u : Nat) (s : State) : UnitsChange s (passRole e u s) := by
  unfold passRole
  split
  · exact unitsChange_setFld (by decide) ..
  · have left := (unitsChange_setUnit u 0 s).trans (unitsChange_setServe (e - 18) none _)
    dsimp only
    split
    · exact left.trans (unitsChange_setServe ..)
    · exact left
  · exact unitsChange_givePipe ..
  · exact unitsChange_giveAsrc ..
  · exact (((unitsChange_setUnit u 0 s).trans (unitsChange_setFld (f := F.CPU_CORE_STAT_HART) (by decide) ..)).trans
      (unitsChange_bump (by decide) ..)).trans (unitsChange_raise ..)
  · exact (unitsChange_setUnit ..).trans (unitsChange_movePll ..)
  · exact (unitsChange_setUnit ..).trans (unitsChange_raise ..)
  · exact unitsChange_setUnit ..

/-! ### Withdrawal (R25, R207, R208, R276, R295, R345) -/

theorem unitsChange_endRun (t : Nat) (x : Thread) (s : State) : UnitsChange s (endRun t x s) := by
  unfold endRun
  dsimp only
  split
  · exact unitsChange_of rfl rfl rfl
  · exact unitsChange_of rfl rfl rfl

theorem unitsChange_dropRun (e : Nat) (s : State) : UnitsChange s (dropRun e s) := by
  unfold dropRun
  split
  · exact unitsChange_refl s
  · split
    · exact unitsChange_endRun ..
    · exact unitsChange_refl s

theorem unitsChange_overloadCheck (s : State) : UnitsChange s (overloadCheck s) := by
  refine unitsChange_foldl (fun a n => ?_) _ s
  split
  · split
    · exact unitsChange_refl a
    · refine UnitsChange.trans ?_ (unitsChange_raise ..)
      exact unitsChange_of rfl rfl rfl
  · exact unitsChange_of rfl rfl rfl

theorem unitsChange_replaceEngine (e : Nat) (s : State) : UnitsChange s (replaceEngine e s) := by
  unfold replaceEngine
  split
  · exact unitsChange_refl s
  next d _ =>
    have left := unitsChange_setServe e none s
    dsimp only
    split
    next u _ =>
      have given : UnitsChange s (setServe (u - 18) (some d) ((setServe e none s).setUnit u 0)) :=
        left.trans ((unitsChange_setUnit ..).trans (unitsChange_setServe ..))
      split
      · exact given.trans (unitsChange_of rfl rfl rfl)
      · exact given
    · refine UnitsChange.trans (left.trans ?_) (unitsChange_overloadCheck _)
      exact unitsChange_of rfl rfl rfl

theorem unitsChange_replacePipe (u : Nat) (s : State) : UnitsChange s (replacePipe u s) := by
  unfold replacePipe
  dsimp only
  split
  · exact unitsChange_givePipe ..
  · exact (unitsChange_setFld (f := F.WCOMP_PIPE_STAT_NO_UNIT) (by decide) ..).trans (unitsChange_raise ..)

theorem unitsChange_replaceAsrc (u : Nat) (s : State) : UnitsChange s (replaceAsrc u s) := by
  have unlocked : UnitsChange s (s.setFlag F.AUD_ASRC_STAT_LOCKED (s.fld F.AUD_ASRC_UNIT_SERVES u) false) := unitsChange_setFld (by decide) ..
  unfold replaceAsrc
  dsimp only
  split
  · exact unlocked.trans (unitsChange_giveAsrc ..)
  · exact unlocked.trans (unitsChange_of rfl rfl rfl)

theorem unitsChange_stopCore (c : Nat) (s : State) : UnitsChange s (stopCore c s) :=
  (unitsChange_setHart ..).trans (unitsChange_of rfl rfl rfl)

theorem familyField_mem (c : Prop) [Decidable c] :
    (if c then F.LANE_QUAD_STAT_FAM0 else F.LANE_QUAD_STAT_FAM1).reg ∈ vaultActRegs := by
  split <;> decide

theorem unitsChange_withdraw (e : Nat) (s : State) : UnitsChange s (withdraw e s) := by
  unfold withdraw
  split
  · exact (unitsChange_dropRun ..).trans (unitsChange_replaceEngine ..)
  · exact unitsChange_replacePipe ..
  · exact unitsChange_replaceAsrc ..
  · exact unitsChange_stopCore ..
  · dsimp only
    refine UnitsChange.trans ?_ (unitsChange_setFld ?_ ..)
    · exact unitsChange_of rfl rfl rfl
    · exact familyField_mem _
  · exact unitsChange_refl s

/-! ### Migrations and retirements (R443 to R450) -/

theorem vaultActs_markRetired (e : Nat) (s : State) : VaultActs s (markRetired e s) := by
  unfold markRetired
  refine VaultActs.trans ?_ (unitsChange_raise ..).acts
  refine VaultActs.trans ?_ (unitsChange_bump (by decide) ..).acts
  exact (vaultActs_vault _ s).trans (unitsChange_setUnitR ..).acts

theorem vaultActs_waitRetire (e : Nat) (s : State) : VaultActs s (waitRetire e s) := by
  unfold waitRetire
  split
  · exact vaultActs_refl s
  · exact vaultActs_of rfl rfl

theorem vaultActs_endMigration (key : Nat) (s : State) : VaultActs s (endMigration key s) := by
  unfold endMigration
  split
  · exact vaultActs_refl s
  next m _ =>
    dsimp only
    refine VaultActs.trans ?_ ((unitsChange_bump (by decide) ..).trans (unitsChange_raise ..)).acts
    refine (vaultActs_vault { s.vault with migr := s.vault.migr.erase key } s).trans ?_
    generalize { s with vault := { s.vault with migr := s.vault.migr.erase key } } = s1
    have passed : VaultActs s1 (if (s.unitState m.leaving == 2) = true then passRole m.leaving m.spare s1 else s1) := by
      split
      · exact (unitsChange_passRole ..).acts
      · exact vaultActs_refl s1
    refine passed.trans ?_
    generalize (if (s.unitState m.leaving == 2) = true then passRole m.leaving m.spare s1 else s1) = s2
    split
    · exact vaultActs_markRetired ..
    · split
      · exact (unitsChange_setUnitR m.leaving 3 s2).acts.trans (vaultActs_vault _ _)
      · exact vaultActs_refl s2

theorem vaultActs_endMigrations (s : State) : VaultActs s (endMigrations s) := by
  refine vaultActs_foldl (fun a k => ?_) _ s
  split
  · split
    · exact vaultActs_endMigration ..
    · exact vaultActs_refl a
  · exact vaultActs_refl a

theorem vaultActs_startMigration (e u : Nat) (retire : Bool) (s : State) : VaultActs s (startMigration e u retire s) := by
  unfold startMigration
  dsimp only
  refine VaultActs.trans ?_ (vaultActs_endMigrations _)
  refine VaultActs.trans ?_ (vaultActs_vault _ _)
  split
  · exact ((unitsChange_setUnit ..).trans (unitsChange_setFld (f := F.XPT_SLICE_STAT_POS) (by decide) ..)).acts
  · exact (unitsChange_setUnit ..).acts

theorem vaultActs_retireUnit (e : Nat) (s : State) : VaultActs s (retireUnit e s) := by
  unfold retireUnit
  split
  · exact vaultActs_refl s
  · exact vaultActs_of rfl rfl
  · split
    · exact vaultActs_waitRetire ..
    · split
      · exact vaultActs_startMigration ..
      · dsimp only
        split
        · exact (unitsChange_raise ..).acts.trans (vaultActs_waitRetire ..)
        · exact ((unitsChange_raise ..).trans (unitsChange_withdraw ..)).acts.trans (vaultActs_markRetired ..)
  · split
    · exact vaultActs_waitRetire ..
    · exact vaultActs_markRetired ..

theorem vaultActs_retryRetire (s : State) : VaultActs s (retryRetire s) := by
  refine vaultActs_foldl (fun a e => ?_) _ s
  split
  · exact vaultActs_refl a
  · exact (vaultActs_vault _ a).trans (vaultActs_retireUnit ..)

theorem vaultActs_vaultSettle (s : State) : VaultActs s (vaultSettle s) := (vaultActs_endMigrations s).trans (vaultActs_retryRetire _)

end

end Sys2Proof.Machine
end

section
/-!
SUPPORT. The state that a unit shows when it is set (R16, R442), and what setting it, a ledger update or a request for a run leaves.
-/

namespace Sys2Proof.Machine

section
variable {s t : State} {e st : Nat}

/-- The fields that show a unit's state (R442). -/
def unitFields : List Fld := [F.XPT_SLICE_STAT_STATE, F.CUE_ENG_STAT_STATE, F.WCOMP_UNIT_STATE, F.AUD_ASRC_UNIT_STATE,
  F.CPU_CORE_STAT_STATE, F.VAULT_LG_HRS_STATE]

theorem unitField_mem (e : Nat) : (unitField e).1 ∈ unitFields := by
  unfold unitField
  split <;> simp [unitFields]

theorem unitField_fits (e : Nat) : (unitField e).1.lo + (unitField e).1.len ≤ 32 ∧ 3 ≤ (unitField e).1.len :=
  (by decide : ∀ f ∈ unitFields, f.lo + f.len ≤ 32 ∧ 3 ≤ f.len) _ (unitField_mem e)

theorem unitState_setUnit (h : st < 8) (e : Nat) (s : State) : (s.setUnit e st).unitState e = st := by
  have wide : 2 ^ 3 ≤ 2 ^ (unitField e).1.len := Nat.pow_le_pow_right (by decide) (unitField_fits e).2
  rw [State.unitState, State.setUnit, fld_setFld_same _ (unitField_fits e).1, Nat.mod_eq_of_lt (by omega)]

theorem unitState_congr (h : ∀ r ∈ unitRegs, ∀ i, t.reg r i = s.reg r i) (e : Nat) : t.unitState e = s.unitState e := by
  rw [State.unitState, State.unitState, fld_eq, fld_eq, h _ (unitField_reg_mem e)]

theorem unitState_of_regs (h : t.regs = s.regs) (e : Nat) : t.unitState e = s.unitState e :=
  unitState_congr (fun r _ i => reg_of_regs h r i) e

theorem unitState_of_regsBut {rs : List RegName} (h : regsBut rs s t) (hd : ∀ r ∈ unitRegs, r ∉ rs) (e : Nat) :
    t.unitState e = s.unitState e := unitState_congr (fun r hr i => h r i (hd r hr)) e

theorem unitState_setFld_apart {f : Fld} (hf : f.lo + f.len ≤ 32) (h : ∀ g ∈ unitFields, fldApart f g = true) (i v : Nat) (s : State) (e : Nat) :
    (s.setFld f i v).unitState e = s.unitState e := fld_setFld_apart s hf (h _ (unitField_mem e)) i _ v

theorem unitState_raise (x : Src) (s : State) (e : Nat) : (s.raise x).unitState e = s.unitState e := unitState_of_regs (raise_regs ..) e

theorem unitState_raiseIf (c : Bool) (x : Src) (s : State) (e : Nat) : (s.raiseIf c x).unitState e = s.unitState e :=
  unitState_of_regs (raiseIf_regs ..) e

theorem unitState_requestRun (x : Nat) (rotate : Bool) (s : State) (e : Nat) : (requestRun x rotate s).unitState e = s.unitState e :=
  unitState_of_regsBut (requestRun_frame x rotate s).1 (by decide) e

/-! ### Slices (R16, R191) -/

/-- A slice that is not ready keeps its state when its plane is striped again. -/
theorem sliceState_settlePlane (h : s.sliceReady e = false) (p : Nat) : (settlePlane p s).sliceState e = s.sliceState e := by
  have given : ∀ l : List Nat, (∀ k ∈ l, k ≠ e) →
      (l.foldl (fun t k => t.setFld F.XPT_SLICE_STAT_STATE k 0) s).sliceState e = s.sliceState e := fun l hl =>
    List.foldlRecOn l _ (motive := fun t : State => t.sliceState e = s.sliceState e) rfl
      (fun t ht k hk => (fld_setFld_reg t 0 (fun _ => (hl k hk).symm)).trans ht)
  have other : ∀ k ∈ (((planeSlices p).filter (fun k => s.sliceReady k && !s.vault.migr.entries.any (fun m => m.2.spare == k))).take
      (8 - (s.carriers p).length)), k ≠ e := by
    intro k hk hke
    have ready := (List.mem_filter.mp (List.mem_of_mem_take hk)).2
    rw [hke, h] at ready
    exact absurd ready (by simp)
  unfold settlePlane
  dsimp only
  split
  · exact given _ other
  · refine (foldl_keeps (fun t => t.sliceState e) (fun (a : State) (x : Nat × Nat) => ?_) _ _).trans (given _ other)
    exact fld_setFld_apart a (f := F.XPT_SLICE_STAT_POS) (by decide) (by decide) x.1 e _

theorem dropStores_regs (n : Nat) (s : State) : (dropStores n s).regs = s.regs := by
  induction n generalizing s with
  | zero => rfl
  | succ n ih =>
    rw [dropStores]
    split
    · rfl
    · split
      · rfl
      · rw [ih]
        split
        · exact raise_regs ..
        · rfl

theorem restoreStores_regs (s : State) : (restoreStores s).regs = s.regs := by
  refine foldl_keeps State.regs (fun a x => ?_) _ s
  have kept {a u : State} {i j : Nat} (h : a.reserveStore i j = some u) : u.regs = a.regs := by
    unfold State.reserveStore at h
    split at h
    · cases h
      rfl
    · cases h
  split
  next u hu =>
    split
    · exact (rfl : _ = u.regs).trans (kept hu)
    · exact kept hu
  next => rfl

theorem recap_regs (f : State → State) (s : State) : (recap f s).regs = (f s).regs := by
  unfold recap
  dsimp only
  split
  · rw [dropStores_regs, raiseIf_regs, raiseIf_regs]
  · rw [restoreStores_regs, raiseIf_regs, raiseIf_regs]

/-! ### The state that is set -/

/-- A unit shows the state it is given; a spare slice only while its last verdict is not PASS, as it would be taken at once. -/
theorem unitState_setUnitR (h : st < 8) (hv : st = 1 → s.fld F.VAULT_LG_BIST_VERDICT e ≠ 1) : (setUnitR e st s).unitState e = st := by
  have set := unitState_setUnit h e s
  unfold setUnitR
  split
  case h_1 hslice =>
    have field : unitField e = (F.XPT_SLICE_STAT_STATE, e) := by unfold unitField; rw [hslice]; rfl
    have isSlice (t : State) : t.unitState e = t.sliceState e := by rw [State.unitState, field]; rfl
    rw [unitState_of_regs (recap_regs ..), isSlice, sliceState_settlePlane, ← isSlice, set]
    rw [isSlice] at set
    rw [State.sliceReady, set]
    have verdict : (s.setUnit e st).fld F.VAULT_LG_BIST_VERDICT e = s.fld F.VAULT_LG_BIST_VERDICT e :=
      fld_setFld_apart s (unitField_fits e).1 ((by decide : ∀ f ∈ unitFields, fldApart f F.VAULT_LG_BIST_VERDICT = true) _ (unitField_mem e)) _ e _
    rw [verdict]
    by_cases h1 : st = 1
    · simp [h1, hv h1]
    · simp [h1]
  case h_2 =>
    obtain ⟨x, hx⟩ := wallReserve_only (s.setUnit e st)
    rw [hx]
    exact set
  case h_3 =>
    dsimp only
    split
    · exact (unitState_setFld_apart (by decide) (by decide) _ _ _ e).trans set
    · exact set
  case h_4 => exact set

/-! ### The ledger (R451, R452) -/

theorem unitState_ledgerUpdate {f : State → State} (e : Nat) (s : State) (x : Nat) :
    (ledgerUpdate e f s).unitState x = (f s).unitState x := by
  unfold ledgerUpdate
  dsimp only
  split
  · rw [unitState_raise]
    exact unitState_setFld_apart (by decide) (by decide) _ _ _ x
  · rfl

theorem fld_ledgerUpdate {f : State → State} {g : Fld} (h : fldApart F.VAULT_LG_HRS_WEAR g = true) (e : Nat) (s : State) (i : Nat) :
    (ledgerUpdate e f s).fld g i = (f s).fld g i := by
  unfold ledgerUpdate
  dsimp only
  split
  · rw [fld_raise, fld_setFlag_apart _ (by decide) h]
  · rfl

end

end Sys2Proof.Machine
end

section
/-!
PROOFS. Runs of BIST (R396, R451, R454 to R457, R461).
-/

namespace Sys2Proof.Machine

section
variable {s t : State} {e v : Nat}

/-! ### The head of the queue (R396) -/

theorem bistStarts_empty (h : s.vault.queue = []) : bistStarts s = s := by
  unfold bistStarts
  rw [h]

theorem bistStarts_waits {q : BistReq} {rest : List BistReq} (h : s.vault.queue = q :: rest)
    (hw : (s.runFits q.target = false ∧ q.held = true) ∨ (s.runFits q.target = true ∧ s.flag F.PWR_THERM_STAT_TRIPPED 0 = true)) :
    bistStarts s = s := by
  unfold bistStarts
  rw [h]
  rcases hw with ⟨hfits, hheld⟩ | ⟨hfits, htrip⟩
  · simp only [hfits, hheld, Bool.not_false, if_true]
  · simp only [hfits, htrip, Bool.not_true, Bool.false_eq_true, if_false, if_true]

/-- The state in which the head of the queue is known to wait for power. -/
def headHeld (q : BistReq) (rest : List BistReq) (s : State) : State :=
  (State.bump { s with vault := { s.vault with queue := { q with held := true } :: rest } } .PWR_CAP_HOLD_CNT 0).raise Src.PWR_CAP_HOLD

theorem bistStarts_holds {q : BistReq} {rest : List BistReq} (h : s.vault.queue = q :: rest) (hfits : s.runFits q.target = false)
    (hheld : q.held = false) : bistStarts s = headHeld q rest s := by
  unfold bistStarts
  rw [h]
  simp only [hfits, hheld, Bool.not_false, if_true, Bool.false_eq_true, if_false]
  rfl

theorem headHeld_facts (q : BistReq) (rest : List BistReq) (s : State) : (headHeld q rest s).vault.queue = { q with held := true } :: rest
    ∧ (headHeld q rest s).vault.running = s.vault.running ∧ (headHeld q rest s).isSet Src.PWR_CAP_HOLD = true
    ∧ (headHeld q rest s).reg .PWR_CAP_HOLD_CNT 0 = BitVec.ofNat 32 (min (2 ^ 32 - 1) ((s.reg .PWR_CAP_HOLD_CNT 0).toNat + 1))
    ∧ regsButAt [.PWR_CAP_HOLD_CNT] 0 s (headHeld q rest s) ∧ still s (headHeld q rest s) := by
  refine ⟨?_, ?_, isSet_raise_same _ (by decide), ?_, ?_, ?_, ?_⟩
  · rw [headHeld, raise_vault]; rfl
  · rw [headHeld, raise_vault]; rfl
  · rw [headHeld, reg_of_regs (raise_regs ..), reg_bump_same]; rfl
  · rw [headHeld, regsButAt_raise, regsButAt_bump_iff (by decide)]
    exact regsButAt_of_regs rfl
  · rw [headHeld, raise_pending]; rfl
  · rw [headHeld, raise_mem]; rfl

/-- The state in which the run at the head of the queue begins: a unit shows it. -/
def runBegun (e : Nat) (rest : List BistReq) (s : State) : State :=
  if e < 294 then setUnitR e (s.bistState e) { s with vault := { s.vault with queue := rest } }
  else { s with vault := { s.vault with queue := rest } }

theorem bistStarts_begins {q : BistReq} {rest : List BistReq} (h : s.vault.queue = q :: rest) (hfits : s.runFits q.target = true)
    (htrip : s.flag F.PWR_THERM_STAT_TRIPPED 0 = false) (hrot : q.rotate = false) :
    ∃ u, u = runBegun q.target rest s
      ∧ bistStarts s = { u with vault := { u.vault with running := q.target :: u.vault.running } } := by
  refine ⟨_, rfl, ?_⟩
  unfold bistStarts runBegun
  rw [h]
  simp only [hfits, htrip, hrot, Bool.not_true, Bool.false_eq_true, if_false]
  split
  · rfl
  · rfl

theorem bistState_lt (s : State) (e : Nat) : s.bistState e < 8 ∧ s.bistState e ≠ 1 := by
  unfold State.bistState
  split
  next h => omega
  next => decide

theorem runBegun_facts (e : Nat) (rest : List BistReq) (s : State) : (runBegun e rest s).vault = { s.vault with queue := rest }
    ∧ (e < 294 → (runBegun e rest s).unitState e = s.bistState e) := by
  unfold runBegun
  split
  · exact ⟨(unitsChange_setUnitR ..).vault, fun _ => unitState_setUnitR (bistState_lt s e).1 fun h => absurd h (bistState_lt s e).2⟩
  next h => exact ⟨rfl, fun he => absurd he h⟩

/-! ### Requests (R454 to R456) -/

theorem bistCmd_run {w : Word} (h : F.BIST_CMD_OP.of w = 1) : bistCmd w s = runCmd (F.BIST_CMD_TARGET.of w) s := by
  unfold bistCmd
  rw [h]
  rfl

theorem bistCmd_stop {w : Word} (h : F.BIST_CMD_OP.of w = 2) : bistCmd w s =
    if decide (F.BIST_CMD_TARGET.of w < 294) || blockTarget (F.BIST_CMD_TARGET.of w) then
      cutRun (F.BIST_CMD_TARGET.of w) 1 (s.setFld F.BIST_CMD_STAT_RESULT 0 0)
    else s.setFld F.BIST_CMD_STAT_RESULT 0 3 := by
  unfold bistCmd
  rw [h]
  rfl

theorem bistOp_put (w : Word) (op : Nat) (h : op < 4) : F.BIST_CMD_OP.of (F.BIST_CMD_OP.put w op) = op
    ∧ F.BIST_CMD_TARGET.of (F.BIST_CMD_OP.put w op) = F.BIST_CMD_TARGET.of w :=
  ⟨(Fld.of_put (by decide) w op).trans (Nat.mod_eq_of_lt h), Fld.of_put_ne (by decide) (by decide) w op⟩

theorem bistAnswered {r : Nat} (hr : r < 8) (s : State) : (s.setFld F.BIST_CMD_STAT_RESULT 0 r).fld F.BIST_CMD_STAT_RESULT 0 = r :=
  (fld_setFld_same s (by decide) 0 r).trans (Nat.mod_eq_of_lt hr)

theorem bistAnswered_frame (r : Nat) (s : State) : regsButAt [.BIST_CMD_STAT] 0 s (s.setFld F.BIST_CMD_STAT_RESULT 0 r) :=
  (regsButAt_setFld (by decide) _).2 regsButAt_refl

theorem runResult_lt (s : State) (e : Nat) : s.runResult e < 8 := by
  unfold State.runResult
  repeat' split
  all_goals decide

theorem underTest_of_runResult (h : s.runResult e = 0) : s.underTest e = false := by
  unfold State.runResult at h
  split at h
  · cases h
  split at h
  · cases h
  split at h
  · cases h
  next ht => simpa using ht

theorem runCmd_queues (h : s.runResult e = 0) :
    runCmd e s = requestRun e (decide (e < 294) && s.unitState e == 0) (s.setFld F.BIST_CMD_STAT_RESULT 0 0) := by
  unfold runCmd
  rw [h]
  rfl

theorem runCmd_refuses (h : s.runResult e ≠ 0) : runCmd e s =
    (s.setFld F.BIST_CMD_STAT_RESULT 0 (s.runResult e)).raiseIf (s.runResult e == 1 || s.runResult e == 2) Src.BIST_REFUSED := if_neg h

/-! ### The registers of a run that ends (R457, R461) -/

/-- The registers that show the last run, and count runs by verdict. -/
def runRegs : List RegName := [.BIST_LAST, .BIST_LAST_DONE_LO, .BIST_LAST_DONE_HI, .BIST_LAST_EXP_LO, .BIST_LAST_EXP_HI, .BIST_LAST_SIG,
  .BIST_LAST_SIG_EXP, .BIST_PASS_CNT, .BIST_FAIL_CNT, .BIST_INC_CNT]

/-- `t` shows the run of `e` that ended. -/
structure ShowsRun (e verdict cause done : Nat) (sig expected : Word) (t : State) : Prop where
  target : t.fld F.BIST_LAST_TARGET 0 = e
  verdict : t.fld F.BIST_LAST_VERDICT 0 = verdict
  cause : t.fld F.BIST_LAST_CAUSE 0 = cause
  done : t.reg .BIST_LAST_DONE_LO 0 = BitVec.ofNat 32 done
  expCycles : t.reg .BIST_LAST_EXP_LO 0 = BitVec.ofNat 32 (cyclesExpected e)
  sig : t.reg .BIST_LAST_SIG 0 = sig
  expected : t.reg .BIST_LAST_SIG_EXP 0 = expected

theorem ShowsRun.congr {e verdict cause done : Nat} {sig expected : Word} (g : ShowsRun e verdict cause done sig expected s)
    (h : ∀ r ∈ runRegs, ∀ i, t.reg r i = s.reg r i) : ShowsRun e verdict cause done sig expected t := by
  have fields {f : Fld} (hf : f.reg ∈ runRegs) : t.fld f 0 = s.fld f 0 := by rw [fld_eq, fld_eq, h _ hf]
  exact ⟨(fields (by decide)).trans g.target, (fields (by decide)).trans g.verdict, (fields (by decide)).trans g.cause,
    (h _ (by decide) 0).trans g.done, (h _ (by decide) 0).trans g.expCycles, (h _ (by decide) 0).trans g.sig,
    (h _ (by decide) 0).trans g.expected⟩

theorem ofNat_mod_word (n : Nat) : BitVec.ofNat 32 (n % 2 ^ 32) = BitVec.ofNat 32 n := BitVec.eq_of_toNat_eq (by simp)

theorem showsRun_runShown {verdict cause : Nat} (he : e < 1024) (hv : verdict < 4) (hc : cause < 8) (done : Nat) (sig expected : Word)
    (s : State) : ShowsRun e verdict cause done sig expected (runShown e verdict cause done sig expected s) := by
  have signature {q : RegName} (hq : q ≠ .BIST_LAST_SIG) (hx : q ≠ .BIST_LAST_SIG_EXP) (u : State) :
      ((u.setReg .BIST_LAST_SIG 0 sig).setReg .BIST_LAST_SIG_EXP 0 expected).reg q 0 = u.reg q 0 := by
    rw [reg_setReg_ne _ _ (fun h => absurd h hx), reg_setReg_ne _ _ (fun h => absurd h hq)]
  have fields {f : Fld} (hq : f.reg ≠ .BIST_LAST_SIG) (hx : f.reg ≠ .BIST_LAST_SIG_EXP) (u : State) :
      ((u.setReg .BIST_LAST_SIG 0 sig).setReg .BIST_LAST_SIG_EXP 0 expected).fld f 0 = u.fld f 0 := by
    rw [fld_eq, fld_eq, signature hq hx]
  unfold runShown
  refine ⟨?_, ?_, ?_, ?_, ?_, ?_, reg_setReg_same ..⟩
  · rw [fields (by decide) (by decide)]
    simp (disch := decide) only [State.setFlds, fld_setFld_apart, fld_setFld_same]
    exact Nat.mod_eq_of_lt he
  · rw [fields (by decide) (by decide)]
    simp (disch := decide) only [State.setFlds, fld_setFld_apart, fld_setFld_same]
    exact Nat.mod_eq_of_lt hv
  · rw [fields (by decide) (by decide)]
    simp (disch := decide) only [State.setFlds, fld_setFld_apart, fld_setFld_same]
    exact Nat.mod_eq_of_lt hc
  · rw [signature (by decide) (by decide), ← reg_of_whole (f := F.BIST_LAST_DONE_LO_CYCLES_DONE) rfl rfl]
    simp (disch := decide) only [State.setFlds, fld_setFld_apart, fld_setFld_same]
    exact ofNat_mod_word _
  · rw [signature (by decide) (by decide), ← reg_of_whole (f := F.BIST_LAST_EXP_LO_CYCLES_EXPECTED) rfl rfl]
    simp (disch := decide) only [State.setFlds, fld_setFld_apart, fld_setFld_same]
    exact ofNat_mod_word _
  · rw [reg_setReg_ne _ _ (fun h => absurd h (by decide)), reg_setReg_same]

theorem runShown_frame (e verdict cause done : Nat) (sig expected : Word) (s : State) :
    regsBut [.BIST_LAST, .BIST_LAST_DONE_LO, .BIST_LAST_DONE_HI, .BIST_LAST_EXP_LO, .BIST_LAST_EXP_HI, .BIST_LAST_SIG, .BIST_LAST_SIG_EXP] s
      (runShown e verdict cause done sig expected s) ∧ onlyRegs s (runShown e verdict cause done sig expected s)
      ∧ (runShown e verdict cause done sig expected s).flt = s.flt := by
  refine ⟨?_, ?_, ?_⟩
  · rw [runShown, regsBut_setReg (by decide), regsBut_setReg (by decide), regsBut_setFlds _ _ (by simp)]
    exact regsBut_refl
  · rw [runShown, onlyRegs_setReg_iff, onlyRegs_setReg_iff, onlyRegs_setFlds_iff]
    exact onlyRegs_refl
  · exact setFlds_flt ..

/-- A counter goes up by one, and keeps its highest value. -/
def countsUp (r : RegName) (s t : State) : Prop := t.reg r 0 = BitVec.ofNat 32 (min (2 ^ 32 - 1) ((s.reg r 0).toNat + 1))

/-- The counter and the source of a verdict (R457, R461). -/
def verdictCounts (verdict : Nat) (s t : State) : Prop :=
  (verdict = 1 → countsUp .BIST_PASS_CNT s t) ∧ (verdict = 2 → t.isSet Src.BIST_FAIL = true ∧ countsUp .BIST_FAIL_CNT s t)
    ∧ (verdict = 3 → t.isSet Src.BIST_INCOMPLETE = true ∧ countsUp .BIST_INC_CNT s t)

theorem verdictCounts.congr {u : State} {verdict : Nat} (g : verdictCounts verdict s t) (h : ∀ r ∈ runRegs, ∀ i, u.reg r i = t.reg r i)
    (hs : KeepsSet t u) : verdictCounts verdict s u := by
  obtain ⟨pass, fail, inc⟩ := g
  exact ⟨fun hv => (h _ (by decide) 0).trans (pass hv), fun hv => ⟨hs.isSet _ (fail hv).1, (h _ (by decide) 0).trans (fail hv).2⟩,
    fun hv => ⟨hs.isSet _ (inc hv).1, (h _ (by decide) 0).trans (inc hv).2⟩⟩

theorem recordRun_facts {verdict cause : Nat} (he : e < 1024) (hv : 1 ≤ verdict) (hv3 : verdict ≤ 3) (hc : cause < 8) (done : Nat)
    (sig expected : Word) (s : State) :
    ShowsRun e verdict cause done sig expected (recordRun e verdict cause done sig expected s)
      ∧ verdictCounts verdict s (recordRun e verdict cause done sig expected s)
      ∧ regsBut runRegs s (recordRun e verdict cause done sig expected s) ∧ onlyRegs s (recordRun e verdict cause done sig expected s) := by
  obtain ⟨frame, only, -⟩ := runShown_frame e verdict cause done sig expected s
  have shown := showsRun_runShown he (by omega : verdict < 4) hc done sig expected s
  have count {r : RegName} (hr : r ∈ [RegName.BIST_PASS_CNT, .BIST_FAIL_CNT, .BIST_INC_CNT]) :
      countsUp r s ((runShown e verdict cause done sig expected s).bump r 0) := by
    rw [countsUp, reg_bump_same, frame r 0 ((by decide : ∀ q ∈ [RegName.BIST_PASS_CNT, .BIST_FAIL_CNT, .BIST_INC_CNT], q ∉ _) r hr)]
  have shows {r : RegName} (hr : r ∈ [RegName.BIST_PASS_CNT, .BIST_FAIL_CNT, .BIST_INC_CNT]) :
      ShowsRun e verdict cause done sig expected ((runShown e verdict cause done sig expected s).bump r 0) := by
    have apart : r ∉ [RegName.BIST_LAST, .BIST_LAST_DONE_LO, .BIST_LAST_EXP_LO, .BIST_LAST_SIG, .BIST_LAST_SIG_EXP] :=
      (by decide : ∀ q ∈ [RegName.BIST_PASS_CNT, .BIST_FAIL_CNT, .BIST_INC_CNT], q ∉ _) r hr
    have kept {q : RegName} (hq : q ∈ [RegName.BIST_LAST, .BIST_LAST_DONE_LO, .BIST_LAST_EXP_LO, .BIST_LAST_SIG, .BIST_LAST_SIG_EXP]) :
        ((runShown e verdict cause done sig expected s).bump r 0).reg q 0 = (runShown e verdict cause done sig expected s).reg q 0 :=
      reg_setReg_ne _ _ fun h => absurd (h ▸ hq) apart
    have field {f : Fld} (hf : f.reg ∈ [RegName.BIST_LAST, .BIST_LAST_DONE_LO, .BIST_LAST_EXP_LO, .BIST_LAST_SIG, .BIST_LAST_SIG_EXP]) :
        ((runShown e verdict cause done sig expected s).bump r 0).fld f 0 = (runShown e verdict cause done sig expected s).fld f 0 := by
      rw [fld_eq, fld_eq, kept hf]
    exact ⟨(field (by decide)).trans shown.target, (field (by decide)).trans shown.verdict, (field (by decide)).trans shown.cause,
      (kept (by decide)).trans shown.done, (kept (by decide)).trans shown.expCycles, (kept (by decide)).trans shown.sig,
      (kept (by decide)).trans shown.expected⟩
  have bumped {r : RegName} (hr : r ∈ runRegs) : regsBut runRegs s ((runShown e verdict cause done sig expected s).bump r 0)
      ∧ onlyRegs s ((runShown e verdict cause done sig expected s).bump r 0) :=
    ⟨(regsBut_bump hr 0).2 (regsBut_mono (by decide) frame), (onlyRegs_bump ..).2 only⟩
  have raised (x : Src) (u : State) : ∀ r ∈ runRegs, ∀ i, (u.raise x).reg r i = u.reg r i := fun r _ i => reg_of_regs (raise_regs ..) r i
  obtain rfl | rfl | rfl : verdict = 1 ∨ verdict = 2 ∨ verdict = 3 := by omega
  · exact ⟨shows (by decide), ⟨fun _ => count (by decide), fun h => absurd h (by decide), fun h => absurd h (by decide)⟩,
      (bumped (by decide)).1, (bumped (by decide)).2⟩
  · exact ⟨(shows (r := .BIST_FAIL_CNT) (by decide)).congr (raised Src.BIST_FAIL _), ⟨fun h => absurd h (by decide),
      fun _ => ⟨isSet_raise_same _ (by decide), (raised _ _ _ (by decide) 0).trans (count (by decide))⟩, fun h => absurd h (by decide)⟩,
      (regsBut_raise ..).2 (bumped (by decide)).1, (onlyRegs_raise_iff ..).2 (bumped (by decide)).2⟩
  · exact ⟨(shows (r := .BIST_INC_CNT) (by decide)).congr (raised Src.BIST_INCOMPLETE _), ⟨fun h => absurd h (by decide), fun h => absurd h (by decide),
      fun _ => ⟨isSet_raise_same _ (by decide), (raised _ _ _ (by decide) 0).trans (count (by decide))⟩⟩,
      (regsBut_raise ..).2 (bumped (by decide)).1, (onlyRegs_raise_iff ..).2 (bumped (by decide)).2⟩

/-! ### The entry in the ledger (R451) -/

/-- The ledger with a run entered, but for the margin. -/
def runEntered (e verdict : Nat) (s : State) : State :=
  if verdict = 1 then (s.setFlds e [(F.VAULT_LG_BIST_VERDICT, verdict),
    (F.VAULT_LG_BIST_RUNS, min 4095 (s.fld F.VAULT_LG_BIST_RUNS e + 1))]).setFld F.VAULT_LG_BIST_SINCE_H e 0
  else s.setFlds e [(F.VAULT_LG_BIST_VERDICT, verdict), (F.VAULT_LG_BIST_RUNS, min 4095 (s.fld F.VAULT_LG_BIST_RUNS e + 1))]

/-- The ledger with the margin entered where it was measured. -/
def marginEntered (e : Nat) (margin : Option Nat) (s : State) : State :=
  match margin with
  | some m => s.setFlds e [(F.VAULT_LG_VMIN_MARGIN, m), (F.VAULT_LG_VMIN_MIN, min m (s.fld F.VAULT_LG_VMIN_MIN e))]
  | none => s

theorem ledgerRun_eq (e verdict : Nat) (margin : Option Nat) (s : State) :
    ledgerRun e verdict margin s = ledgerUpdate e (fun u => marginEntered e margin (runEntered e verdict u)) s := by
  cases margin with
  | none => rfl
  | some m => rfl

theorem runEntered_facts {verdict : Nat} (hv : verdict < 4) (e : Nat) (s : State) :
    (runEntered e verdict s).fld F.VAULT_LG_BIST_VERDICT e = verdict
      ∧ (verdict = 1 → (runEntered e verdict s).fld F.VAULT_LG_BIST_SINCE_H e = 0)
      ∧ ∀ x, (runEntered e verdict s).unitState x = s.unitState x := by
  have entered (x : Nat) : (s.setFlds e [(F.VAULT_LG_BIST_VERDICT, verdict),
      (F.VAULT_LG_BIST_RUNS, min 4095 (s.fld F.VAULT_LG_BIST_RUNS e + 1))]).unitState x = s.unitState x := by
    simp only [State.setFlds]
    rw [unitState_setFld_apart (by decide) (by decide), unitState_setFld_apart (by decide) (by decide)]
  unfold runEntered
  split
  next h1 =>
    refine ⟨?_, fun _ => ?_, fun x => ?_⟩
    · simp (disch := decide) only [State.setFlds, fld_setFld_apart, fld_setFld_same]
      exact Nat.mod_eq_of_lt hv
    · rw [fld_setFld_same _ (by decide)]
      rfl
    · rw [unitState_setFld_apart (by decide) (by decide), entered]
  next h1 =>
    refine ⟨?_, fun h => absurd h h1, entered⟩
    simp (disch := decide) only [State.setFlds, fld_setFld_apart, fld_setFld_same]
    exact Nat.mod_eq_of_lt hv

theorem marginEntered_facts (e : Nat) (margin : Option Nat) (s : State) :
    (∀ m, margin = some m → m < 1024 → (marginEntered e margin s).fld F.VAULT_LG_VMIN_MARGIN e = m)
      ∧ (∀ f : Fld, f.reg = .VAULT_LG_BIST → (marginEntered e margin s).fld f e = s.fld f e)
      ∧ ∀ x, (marginEntered e margin s).unitState x = s.unitState x := by
  cases margin with
  | none => exact ⟨fun _ h => (nomatch h), fun _ _ => rfl, fun _ => rfl⟩
  | some m =>
    refine ⟨fun n hn hm => ?_, fun f hf => ?_, fun x => ?_⟩
    · cases hn
      unfold marginEntered
      simp (disch := decide) only [State.setFlds, fld_setFld_apart, fld_setFld_same]
      exact Nat.mod_eq_of_lt hm
    · rw [fld_eq, fld_eq, marginEntered, reg_setFlds_apart _ _ _ (by simp [hf])]
    · simp only [marginEntered, State.setFlds]
      rw [unitState_setFld_apart (by decide) (by decide), unitState_setFld_apart (by decide) (by decide)]

theorem ledgerRun_facts {verdict : Nat} (hv : verdict < 4) (e : Nat) (margin : Option Nat) (s : State) :
    (ledgerRun e verdict margin s).fld F.VAULT_LG_BIST_VERDICT e = verdict
      ∧ (verdict = 1 → (ledgerRun e verdict margin s).fld F.VAULT_LG_BIST_SINCE_H e = 0)
      ∧ (∀ m, margin = some m → m < 1024 → (ledgerRun e verdict margin s).fld F.VAULT_LG_VMIN_MARGIN e = m)
      ∧ (∀ x, (ledgerRun e verdict margin s).unitState x = s.unitState x) := by
  obtain ⟨hverdict, hsince, hunit⟩ := runEntered_facts hv e s
  obtain ⟨mmargin, mfield, munit⟩ := marginEntered_facts e margin (runEntered e verdict s)
  rw [ledgerRun_eq]
  refine ⟨?_, fun h => ?_, fun m hm hlt => ?_, fun x => ?_⟩
  · rw [fld_ledgerUpdate (by decide), mfield _ rfl, hverdict]
  · rw [fld_ledgerUpdate (by decide), mfield _ rfl, hsince h]
  · rw [fld_ledgerUpdate (by decide), mmargin m hm hlt]
  · rw [unitState_ledgerUpdate, munit, hunit]

theorem keepsSet_ledgerUpdate {f : State → State} (hf : (f s).flt = s.flt) (e : Nat) : KeepsSet s (ledgerUpdate e f s) := by
  unfold ledgerUpdate
  dsimp only
  split
  · exact ((keepsSet_of_flt hf).setFlag ..).raise _
  · exact keepsSet_of_flt hf

theorem keepsSet_ledgerRun (e verdict : Nat) (margin : Option Nat) (s : State) : KeepsSet s (ledgerRun e verdict margin s) := by
  rw [ledgerRun_eq]
  refine keepsSet_ledgerUpdate ?_ e
  have entered : (runEntered e verdict s).flt = s.flt := by
    unfold runEntered
    split
    · exact setFlds_flt ..
    · exact setFlds_flt ..
  cases margin with
  | none => exact entered
  | some m => exact (setFlds_flt ..).trans entered

/-! ### What becomes of the unit (R442, R447, R457) -/

/-- The registers that a unit's release from a run can change. -/
def releaseRegs : List RegName := .PWR_CAP_HOLD_CNT :: vaultActRegs

theorem unitAfter_frame (e verdict : Nat) (s : State) : regsBut releaseRegs s (unitAfter e verdict s) ∧ KeepsSet s (unitAfter e verdict s) := by
  have shown : VaultActs s (if s.unitState e = 3 then setUnitR e (if verdict = 2 then 5 else 1) s else s) := by
    split
    · exact (unitsChange_setUnitR ..).acts
    · exact vaultActs_refl s
  unfold unitAfter
  dsimp only
  generalize (if s.unitState e = 3 then setUnitR e (if verdict = 2 then 5 else 1) s else s) = u at shown ⊢
  have wide (u : State) (h : VaultActs s u) : regsBut releaseRegs s u ∧ KeepsSet s u := ⟨regsBut_mono (by decide) h.regs, h.sets⟩
  split
  · exact wide _ ((shown.trans (unitsChange_giveOut ..).acts).trans (vaultActs_retryRetire _))
  · exact wide _ (shown.trans (unitsChange_raise ..).acts)
  · split
    · obtain ⟨hregs, hsets, -⟩ := requestRun_frame e false u
      exact ⟨regsBut_trans (wide _ shown).1 (regsBut_mono (by decide) hregs), (wide _ shown).2.trans hsets⟩
    · exact wide _ shown

theorem unitAfter_failed (h : s.unitState e = 3) : (unitAfter e 2 s).unitState e = 5 := by
  unfold unitAfter
  rw [if_pos h]
  exact (unitState_raise ..).trans (unitState_setUnitR (by decide) (fun h => absurd h (by decide)))

theorem unitAfter_incomplete (h : s.unitState e = 3) (hv : s.fld F.VAULT_LG_BIST_VERDICT e ≠ 1) : (unitAfter e 3 s).unitState e = 1 := by
  have parked : (setUnitR e 1 s).unitState e = 1 := unitState_setUnitR (by decide) fun _ => hv
  unfold unitAfter
  rw [if_pos h]
  exact (congrArg (fun u : State => u.unitState e) (if_pos parked)).trans ((unitState_requestRun ..).trans parked)

theorem requestRun_running (x : Nat) (rotate : Bool) (s : State) : (requestRun x rotate s).vault.running = s.vault.running := by
  unfold requestRun
  split
  · rfl
  · dsimp only
    split
    · rw [raise_vault]
      rfl
    · rfl

theorem unitAfter_incomplete_running (e : Nat) (s : State) : (unitAfter e 3 s).vault.running = s.vault.running := by
  have shown : (if s.unitState e = 3 then setUnitR e 1 s else s).vault = s.vault := by
    split
    · exact (unitsChange_setUnitR ..).vault
    · rfl
  have asked (u : State) : (if u.unitState e = 1 then requestRun e false u else u).vault.running = u.vault.running := by
    split
    · exact requestRun_running ..
    · rfl
  exact (asked _).trans (congrArg VaultState.running shown)

/-! ### The end of a run (R455, R457) -/

/-- The state without a run of the unit. -/
def runLeft (e : Nat) (s : State) : State := { s with vault := { s.vault with running := s.vault.running.filter (· != e) } }

theorem vault_of_onlyRegs (h : onlyRegs s t) : t.vault = s.vault := (congrArg State.vault h : _)

theorem not_mem_runLeft (e : Nat) (s : State) : e ∉ (runLeft e s).vault.running := fun h => by
  have hne := (List.mem_filter.mp h).2
  simp at hne

/-- The registers that a run's end neither shows in the ledger nor gives the unit back by. -/
def shownRegs : List RegName := .BIST_CMD_STAT :: runRegs

theorem clearBlock_facts (e : Nat) (s : State) : (∀ r ∈ shownRegs, ∀ i, (clearBlock e s).reg r i = s.reg r i)
    ∧ (clearBlock e s).flt = s.flt ∧ (clearBlock e s).vault = s.vault := by
  unfold clearBlock
  split
  case h_4 =>
    refine ⟨fun r hr i => ?_, rfl, rfl⟩
    have table : ¬(r = .AUD_CS_VAL ∨ r = .AUD_CS_MASK ∨ r = .AUD_CS_CAP) :=
      (by decide : ∀ q ∈ shownRegs, ¬(q = .AUD_CS_VAL ∨ q = .AUD_CS_MASK ∨ q = .AUD_CS_CAP)) r hr
    exact (reg_clearTables r i _).trans (if_neg table)
  all_goals exact ⟨fun _ _ _ => rfl, rfl, rfl⟩

/-- `t` is `s` with the run of `e` ended, shown and counted. -/
structure RunEnded (e verdict cause done : Nat) (sig expected : Word) (s t : State) : Prop where
  shows : ShowsRun e verdict cause done sig expected t
  counts : verdictCounts verdict s t
  left : verdict = 3 → e ∉ t.vault.running
  answer : t.reg .BIST_CMD_STAT 0 = s.reg .BIST_CMD_STAT 0

variable {verdict cause done : Nat} {sig expected : Word}

theorem runEnded_of (he : e < 1024) (hv : 1 ≤ verdict) (hv3 : verdict ≤ 3) (hc : cause < 8)
    (hr : ∀ r ∈ shownRegs, ∀ i, t.reg r i = (recordRun e verdict cause done sig expected (runLeft e s)).reg r i)
    (hs : KeepsSet (recordRun e verdict cause done sig expected (runLeft e s)) t)
    (hrun : verdict = 3 → t.vault.running = (recordRun e verdict cause done sig expected (runLeft e s)).vault.running) :
    RunEnded e verdict cause done sig expected s t := by
  obtain ⟨shows, counts, frame, only⟩ := recordRun_facts he hv hv3 hc done sig expected (runLeft e s)
  have shown : ∀ r ∈ runRegs, ∀ i, t.reg r i = (recordRun e verdict cause done sig expected (runLeft e s)).reg r i :=
    fun r h => hr r (List.mem_cons_of_mem _ h)
  refine ⟨shows.congr shown, counts.congr shown hs, fun h => ?_, (hr _ (by decide) 0).trans (frame _ 0 (by decide))⟩
  rw [hrun h, vault_of_onlyRegs only]
  exact not_mem_runLeft e s

theorem endRunOf_unit (he : e < 294) (margin : Option Nat) : endRunOf e verdict cause done sig expected margin s
    = unitAfter e verdict (ledgerRun e verdict margin (recordRun e verdict cause done sig expected (runLeft e s))) := if_pos he

theorem endRunOf_block (he : ¬ e < 294) (margin : Option Nat) : endRunOf e verdict cause done sig expected margin s
    = clearBlock e (recordRun e verdict cause done sig expected (runLeft e s)) := if_neg he

theorem unitEnd_frame (e verdict : Nat) (margin : Option Nat) (u : State) :
    (∀ r ∈ shownRegs, ∀ i, (unitAfter e verdict (ledgerRun e verdict margin u)).reg r i = u.reg r i)
      ∧ KeepsSet u (unitAfter e verdict (ledgerRun e verdict margin u)) := by
  obtain ⟨hregs, hsets⟩ := unitAfter_frame e verdict (ledgerRun e verdict margin u)
  refine ⟨fun r hr i => ?_, (keepsSet_ledgerRun e verdict margin u).trans hsets⟩
  rw [hregs r i ((by decide : ∀ q ∈ shownRegs, q ∉ releaseRegs) r hr),
    (ledgerRun_frame e verdict margin u).1 r i ((by decide : ∀ q ∈ shownRegs, q ∉ ledgerRegs) r hr)]

theorem endRunOf_ends (he : e < 294 ∨ blockTarget e = true) (hv : 1 ≤ verdict) (hv3 : verdict ≤ 3) (hc : cause < 8) (margin : Option Nat) :
    RunEnded e verdict cause done sig expected s (endRunOf e verdict cause done sig expected margin s) := by
  by_cases hu : e < 294
  · rw [endRunOf_unit hu]
    obtain ⟨hregs, hsets⟩ := unitEnd_frame e verdict margin (recordRun e verdict cause done sig expected (runLeft e s))
    refine runEnded_of (by omega) hv hv3 hc hregs hsets fun h => ?_
    subst h
    rw [unitAfter_incomplete_running]
    have only := (ledgerRun_frame e 3 margin (recordRun e 3 cause done sig expected (runLeft e s))).2
    rw [vault_of_onlyRegs only]
  · have small : e < 1024 := by
      have hb := he.resolve_left hu
      simp only [blockTarget, Bool.and_eq_true, decide_eq_true_eq] at hb
      omega
    rw [endRunOf_block hu]
    obtain ⟨hregs, hflt, hvault⟩ := clearBlock_facts e (recordRun e verdict cause done sig expected (runLeft e s))
    exact runEnded_of small hv hv3 hc hregs (keepsSet_of_flt hflt) fun _ => by rw [hvault]

/-- What the run of a unit leaves in the ledger and of the unit. -/
structure UnitRan (e verdict : Nat) (margin : Option Nat) (s t : State) : Prop where
  shown : t.fld F.VAULT_LG_BIST_VERDICT e = verdict
  since : verdict = 1 → t.fld F.VAULT_LG_BIST_SINCE_H e = 0
  measured : ∀ m, margin = some m → m < 1024 → t.fld F.VAULT_LG_VMIN_MARGIN e = m
  failed : verdict = 2 → t.isSet Src.VAULT_UNUSABLE = true ∧ (s.unitState e = 3 → t.unitState e = 5)
  incomplete : verdict = 3 → s.unitState e = 3 → t.unitState e = 1

theorem unitAfter_unusable (e : Nat) (s : State) : (unitAfter e 2 s).isSet Src.VAULT_UNUSABLE = true := isSet_raise_same _ (by decide)

theorem endRunOf_unitRan (he : e < 294) (hv : 1 ≤ verdict) (hv3 : verdict ≤ 3) (hc : cause < 8) (margin : Option Nat) :
    UnitRan e verdict margin s (endRunOf e verdict cause done sig expected margin s) := by
  rw [endRunOf_unit he]
  obtain ⟨-, -, recorded, -⟩ := recordRun_facts (by omega : e < 1024) hv hv3 hc done sig expected (runLeft e s)
  have state (x : Nat) : (recordRun e verdict cause done sig expected (runLeft e s)).unitState x = s.unitState x :=
    unitState_of_regsBut recorded (by decide) x
  generalize recordRun e verdict cause done sig expected (runLeft e s) = u at state ⊢
  obtain ⟨lverdict, lsince, lmargin, lstate⟩ := ledgerRun_facts (by omega : verdict < 4) e margin u
  obtain ⟨hregs, -⟩ := unitAfter_frame e verdict (ledgerRun e verdict margin u)
  refine ⟨(hregs.fld (by decide) _).trans lverdict, fun h => (hregs.fld (by decide) _).trans (lsince h),
    fun m hm hlt => (hregs.fld (by decide) _).trans (lmargin m hm hlt), fun h => ?_, fun h h3 => ?_⟩
  · subst h
    exact ⟨unitAfter_unusable .., fun h3 => unitAfter_failed (by rw [lstate, state, h3])⟩
  · subst h
    exact unitAfter_incomplete (by rw [lstate, state, h3]) (by rw [lverdict]; decide)

/-! ### Runs that are cut short -/

theorem cutRun_ends (h : s.vault.running.contains e = true) (cause : Nat) : ∃ (n d : Nat) (x y : Word),
    cutRun e cause s = endRunOf e 3 cause d x y none { s with free := n } := by
  unfold cutRun
  rw [if_pos h]
  exact ⟨_, _, _, _, rfl⟩

theorem cutRun_none (h : s.vault.running.contains e = false) (cause : Nat) : cutRun e cause s = s := by
  unfold cutRun
  rw [h]
  rfl

theorem cutRun_facts (h : s.vault.running.contains e = true) (he : e < 294 ∨ blockTarget e = true) (hc : cause < 8) :
    (∃ (d : Nat) (x y : Word), RunEnded e 3 cause d x y s (cutRun e cause s)) ∧ (e < 294 → UnitRan e 3 none s (cutRun e cause s)) := by
  obtain ⟨n, d, x, y, hcut⟩ := cutRun_ends h cause
  have ended : RunEnded e 3 cause d x y { s with free := n } (cutRun e cause s) := by
    rw [hcut]
    exact endRunOf_ends he (by decide) (by decide) hc none
  refine ⟨⟨d, x, y, ended.shows, ended.counts, ended.left, ended.answer⟩, fun hu => ?_⟩
  have ran : UnitRan e 3 none { s with free := n } (cutRun e cause s) := by
    rw [hcut]
    exact endRunOf_unitRan hu (by decide) (by decide) hc none
  exact ⟨ran.shown, ran.since, ran.measured, ran.failed, ran.incomplete⟩

theorem bistEnds_none (h : s.vault.running.contains e = false) (done : Nat) (sig expected : Word) (margin : Nat) :
    bistEnds e done sig expected margin s = s := by
  unfold bistEnds
  rw [h]
  rfl

theorem bistEnds_ends (h : s.vault.running.contains e = true) (hv : verdict = bistVerdict e done (sig == expected)) (m : Nat) :
    bistEnds e done sig expected m s = endRunOf e verdict 0 done sig expected (if verdict = 3 then none else some m) s := by
  subst hv
  exact if_pos h

theorem bistVerdict_bounds (e done : Nat) (ok : Bool) : 1 ≤ bistVerdict e done ok ∧ bistVerdict e done ok ≤ 3 := by
  unfold bistVerdict
  split
  · decide
  · split
    · decide
    · decide

end

/-- Settles O58: a run that ends shows its verdict first; what its unit then becomes leaves those registers and sources alone. -/
theorem selfTestRunsUnderThePowerCap : Obligations.SelfTestRunsUnderThePowerCap := by
  refine ⟨fun q rest s hq hfits htrip hrot => ?_, fun q rest s hq hfits hheld => ?_,
    fun q rest s hq hw => congrArg Host.Outcome.next (bistStarts_waits hq hw), fun s hq => congrArg Host.Outcome.next (bistStarts_empty hq),
    fun v e s he hr => ?_, fun v e s he hr => ?_, fun v e s he hrun ht => ?_, fun v e s he hn => ?_,
    fun e done v sig expected margin s hrun hlt hv => ?_, fun e done sig expected margin s hrun =>
      congrArg Host.Outcome.next (bistEnds_none hrun ..), fun e s hrun => ?_, fun e s hrun => congrArg Host.Outcome.next (cutRun_none hrun 3)⟩
  · obtain ⟨u, hu, hstarts⟩ := bistStarts_begins hq hfits htrip hrot
    obtain ⟨hvault, hstate⟩ := runBegun_facts q.target rest s
    rw [← hu] at hvault hstate
    have pending := bistStarts_pending s
    have mem := bistStarts_mem s
    rw [hstarts] at pending mem
    exact ⟨_, congrArg Host.Outcome.next hstarts, congrArg VaultState.queue hvault,
      congrArg (q.target :: ·) (by rw [hvault]), fun he => hstate he, pending, mem⟩
  · exact ⟨_, congrArg Host.Outcome.next (bistStarts_holds hq hfits hheld), headHeld_facts q rest s⟩
  · obtain ⟨hop, htarget⟩ := bistOp_put v 1 (by decide)
    rw [← he] at htarget
    have test : (s.setFld F.BIST_CMD_STAT_RESULT 0 0).underTest e = false := (rfl : _ = s.underTest e).trans (underTest_of_runResult hr)
    obtain ⟨hqueue, hrunning, -⟩ := requestRun_joins test (decide (e < 294) && s.unitState e == 0)
    obtain ⟨hregs, honly, -⟩ := runsRequested_requestRun (s.setFld F.BIST_CMD_STAT_RESULT 0 0) e (decide (e < 294) && s.unitState e == 0)
    refine ⟨_, congrArg Host.Outcome.next ((bistCmd_run hop).trans (by rw [htarget, runCmd_queues hr])), ?_, hqueue, hrunning, ?_, ?_, ?_⟩
    · rw [fld_eq, hregs _ 0 (fun h => absurd h (by decide))]
      exact bistAnswered (by decide) s
    · exact regsButAt_trans (regsButAt_mono (by decide) (bistAnswered_frame 0 s)) (regsButAt_mono (by decide) hregs)
    · exact requestRun_pending ..
    · exact requestRun_mem ..
  · obtain ⟨hop, htarget⟩ := bistOp_put v 1 (by decide)
    rw [← he] at htarget
    refine ⟨_, congrArg Host.Outcome.next ((bistCmd_run hop).trans (by rw [htarget, runCmd_refuses hr])), ?_, fun h => ?_, ?_, ?_⟩
    · rw [fld_raiseIf]
      exact bistAnswered (runResult_lt s e) s
    · rw [State.raiseIf, if_pos (by simpa using h)]
      exact isSet_raise_same _ (by decide)
    · rw [regsButAt_raiseIf]
      exact bistAnswered_frame _ s
    · rw [onlyRegs_raiseIf]
      exact onlyRegs_setFld ..
  · obtain ⟨hop, htarget⟩ := bistOp_put v 2 (by decide)
    rw [← he] at htarget
    obtain ⟨⟨d, x, y, ended⟩, ran⟩ := cutRun_facts (s := s.setFld F.BIST_CMD_STAT_RESULT 0 0) hrun ht (by decide : 1 < 8)
    have stops : bistCmd (F.BIST_CMD_OP.put v 2) s = cutRun e 1 (s.setFld F.BIST_CMD_STAT_RESULT 0 0) := by
      rw [bistCmd_stop hop, htarget, if_pos (by simpa using ht)]
    obtain ⟨hinc, hcount⟩ := ended.counts.2.2 rfl
    refine ⟨_, congrArg Host.Outcome.next stops, ?_, ended.left rfl, ended.shows.target, ended.shows.verdict, ended.shows.cause,
      ?_, hinc, fun hu => ⟨(ran hu).shown, fun h3 => (ran hu).incomplete rfl ?_⟩, cutRun_pending ..⟩
    · rw [fld_eq, ended.answer]
      exact bistAnswered (by decide) s
    · rw [hcount, reg_setFld_apart _ _ _ _ (by decide)]
    · rw [unitState_setFld_apart (by decide) (by decide), h3]
  · obtain ⟨hop, htarget⟩ := bistOp_put v 2 (by decide)
    rw [← he] at htarget
    have answers : ∃ r, r < 8 ∧ r = (if e < 294 ∨ blockTarget e = true then 0 else 3)
        ∧ bistCmd (F.BIST_CMD_OP.put v 2) s = s.setFld F.BIST_CMD_STAT_RESULT 0 r := by
      rw [bistCmd_stop hop, htarget]
      by_cases ht : e < 294 ∨ blockTarget e = true
      · have idle : s.vault.running.contains e = false := hn.resolve_right fun h => by
          rcases ht with ht | ht
          · omega
          · rw [h.2] at ht; cases ht
        refine ⟨0, by decide, by rw [if_pos ht], ?_⟩
        rw [if_pos (by simpa using ht)]
        exact cutRun_none (s := s.setFld F.BIST_CMD_STAT_RESULT 0 0) idle 1
      · exact ⟨3, by decide, by rw [if_neg ht], if_neg (by simpa using ht)⟩
    obtain ⟨r, hlt, hr, hcmd⟩ := answers
    rw [← hr]
    exact ⟨_, congrArg Host.Outcome.next hcmd, bistAnswered hlt s, bistAnswered_frame r s, onlyRegs_setFld .., rfl⟩
  · have verdict : v = bistVerdict e done (sig == expected) := by rw [hv]; simp [bistVerdict]
    obtain ⟨h1, h3⟩ := bistVerdict_bounds e done (sig == expected)
    rw [← verdict] at h1 h3
    have ends := bistEnds_ends hrun verdict margin.toNat
    have ended := endRunOf_ends (s := s) (done := done) (sig := sig) (expected := expected) (.inl hlt) h1 h3 (by decide : 0 < 8)
      (if v = 3 then none else some margin.toNat)
    have ran := endRunOf_unitRan (s := s) (done := done) (sig := sig) (expected := expected) hlt h1 h3 (by decide : 0 < 8)
      (if v = 3 then none else some margin.toNat)
    obtain ⟨pass, fail, inc⟩ := ended.counts
    refine ⟨_, congrArg Host.Outcome.next ends, ended.shows.target, ended.shows.verdict, ended.shows.cause, ended.shows.done,
      ended.shows.sig, ended.shows.expected, ended.shows.expCycles, ran.shown, fun h => ⟨ran.since h, ?_, pass h⟩,
      fun h => ⟨(fail h).1, (ran.failed h).1, (ran.failed h).2, (fail h).2⟩, fun h => ⟨(inc h).1, ran.incomplete h, (inc h).2⟩,
      endRunOf_pending ..⟩
    exact ran.measured _ (by rw [h]; rfl) margin.isLt
  · obtain ⟨⟨d, x, y, ended⟩, ran⟩ := cutRun_facts (s := s) hrun (.inl e.isLt) (by decide : 3 < 8)
    obtain ⟨hinc, hcount⟩ := ended.counts.2.2 rfl
    exact ⟨_, rfl, ended.left rfl, ended.shows.target, ended.shows.verdict, ended.shows.cause, (ran e.isLt).shown, hinc, hcount,
      cutRun_pending ..⟩

end Sys2Proof.Machine
end

section
/-!
SUPPORT. What the blocks' parts of a Shutter leave alone (R11, R12): the frames of every domain, the registers that show them, and
the Tally Mirror.
-/

namespace Sys2Proof.Machine

section
-- Many short proofs in a row: one at a time, so that they do not each hold a thread.
set_option Elab.async false
variable {s t u : State}

/-- The registers that show the frames of a domain (R52, R58). -/
def frameRegs : List RegName := [.REF_TD_FRAME, .REF_TD_STAT, .REF_TD_SHUTTER_LO, .REF_TD_SHUTTER_HI]

/-- From `s` to `t` the frames, what shows them and the Tally Mirror stay. -/
structure FrameKept (s t : State) : Prop where
  regs : ∀ r ∈ frameRegs, ∀ i, t.reg r i = s.reg r i
  td : t.td = s.td
  ttb : t.ttb = s.ttb

theorem frameKept_refl (s : State) : FrameKept s s := ⟨fun _ _ _ => rfl, rfl, rfl⟩

theorem FrameKept.trans (h : FrameKept s t) (g : FrameKept t u) : FrameKept s u :=
  ⟨fun r hr i => (g.regs r hr i).trans (h.regs r hr i), g.td.trans h.td, g.ttb.trans h.ttb⟩

theorem frameKept_foldl {α : Type} {g : State → α → State} (h : ∀ a x, FrameKept a (g a x)) (l : List α) (s : State) :
    FrameKept s (l.foldl g s) := foldl_rel frameKept_refl FrameKept.trans h l s

theorem frameKept_of (hr : t.regs = s.regs) (htd : t.td = s.td := by rfl) (httb : t.ttb = s.ttb := by rfl) : FrameKept s t :=
  ⟨fun r _ i => reg_of_regs hr r i, htd, httb⟩

theorem frameKept_of_regsBut {rs : List RegName} (h : regsBut rs s t) (hrs : ∀ r ∈ frameRegs, r ∉ rs) (htd : t.td = s.td := by rfl)
    (httb : t.ttb = s.ttb := by rfl) : FrameKept s t := ⟨fun r hr i => h r i (hrs r hr), htd, httb⟩

theorem frameKept_of_acts (h : VaultActs s t) : FrameKept s t := by
  have kept := h.kept
  simp only [State.framesAndRoutes, Prod.mk.injEq] at kept
  exact frameKept_of_regsBut h.regs (by decide) kept.1 kept.2.1

theorem frameKept_setReg {q : RegName} (hq : q ∉ frameRegs) (i : Nat) (v : Word) (s : State) : FrameKept s (s.setReg q i v) :=
  ⟨fun _ hr _ => reg_setReg_ne s v fun h => absurd (h ▸ hr) hq, rfl, rfl⟩

theorem frameKept_setFld {f : Fld} (hf : f.reg ∉ frameRegs) (i v : Nat) (s : State) : FrameKept s (s.setFld f i v) :=
  frameKept_setReg hf i _ s

theorem frameKept_bump {q : RegName} (hq : q ∉ frameRegs) (i : Nat) (s : State) : FrameKept s (s.bump q i) := frameKept_setReg hq i _ s

theorem frameKept_bumpN {q : RegName} (hq : q ∉ frameRegs) (i n : Nat) (s : State) : FrameKept s (s.bumpN q i n) := frameKept_setReg hq i _ s

theorem frameKept_raise (x : Src) (s : State) : FrameKept s (s.raise x) := frameKept_of (raise_regs ..) (raise_td ..) (raise_ttb ..)

theorem frameKept_raiseIf (c : Bool) (x : Src) (s : State) : FrameKept s (s.raiseIf c x) :=
  frameKept_of (raiseIf_regs ..) (raiseIf_td ..) (raiseIf_ttb ..)

theorem frameKept_commitReg (r : RegName) (i : Nat) (s : State) : FrameKept s (s.commitReg r i) := frameKept_of rfl

theorem frameKept_cue (c : CueState) (s : State) : FrameKept s { s with cue := c } := frameKept_of rfl

theorem frameKept_wcomp (w : WcompState) (s : State) : FrameKept s { s with wcomp := w } := frameKept_of rfl

theorem frameKept_wscan (w : WscanState) (s : State) : FrameKept s { s with wscan := w } := frameKept_of rfl

/-! ### The crosspoint (R12, R28, R171, R172, R180) -/

theorem frameKept_dropSyncs (s : State) : FrameKept s (dropSyncs s) := by
  refine frameKept_foldl (fun a j => ?_) _ s
  split
  · exact frameKept_refl a
  · exact frameKept_of rfl

theorem frameKept_dropPipeFs (s : State) : FrameKept s (dropPipeFs s) := by
  refine frameKept_foldl (fun a q => ?_) _ s
  split
  · exact frameKept_refl a
  · exact frameKept_of rfl

theorem frameKept_commitVoutCfg (n : Nat) (s : State) : FrameKept s (commitVoutCfg n s) := by
  refine frameKept_foldl (fun a o => ?_) _ s
  split
  · exact frameKept_refl a
  · split
    · exact frameKept_commitReg ..
    · split
      · exact frameKept_commitReg ..
      · exact frameKept_refl a

theorem frameKept_stepSyncs (n : Nat) (s : State) : FrameKept s (stepSyncs n s) := by
  unfold stepSyncs
  split
  · exact frameKept_refl s
  · dsimp only
    split
    · exact frameKept_of rfl
    · refine FrameKept.trans ?_ (frameKept_raise ..)
      refine FrameKept.trans ?_ (frameKept_bumpN (by decide) ..)
      refine FrameKept.trans ?_ (frameKept_bumpN (by decide) ..)
      exact frameKept_of rfl

theorem frameKept_applyPlan (plan : List RouteItem) (i : RouteItem) (s : State) : FrameKept s (applyPlan plan i s) := by
  unfold applyPlan
  split
  · dsimp only
    refine FrameKept.trans ?_ (frameKept_raise ..)
    refine FrameKept.trans ?_ (frameKept_bump (by decide) ..)
    split
    · refine FrameKept.trans ?_ (frameKept_setFld (f := F.XPT_ROUTE_REMOVED) (by decide) ..)
      exact frameKept_of rfl
    · exact frameKept_of rfl
  · split
    · exact frameKept_refl s
    · dsimp only
      split
      · refine FrameKept.trans ?_ (frameKept_raise ..)
        refine FrameKept.trans ?_ (frameKept_bump (by decide) ..)
        exact frameKept_of rfl
      · exact frameKept_of rfl

theorem frameKept_xptShutter (n : Nat) (layers : List Nat) (s : State) : FrameKept s (xptShutter n layers s) := by
  have overlap (a : State) : FrameKept a (takeOverlap n a) := frameKept_of rfl
  have routes (a : State) : FrameKept a (commitRoutes n layers a) := frameKept_of rfl
  have margins (a : State) : FrameKept a (closeMargins n a) := frameKept_of rfl
  have plan (a : State) : FrameKept a (capacityAct n a) := frameKept_foldl (fun b i => frameKept_applyPlan _ i b) _ a
  have gone (a : State) : FrameKept a (feedersGone n a) := frameKept_of rfl
  unfold xptShutter
  exact (((((((overlap s).trans (frameKept_commitVoutCfg n _)).trans (frameKept_stepSyncs n _)).trans (routes _)).trans
    (margins _)).trans (plan _)).trans (gone _)).trans ((frameKept_dropSyncs _).trans (frameKept_dropPipeFs _))

theorem frameKept_removeRoutes (d : Nat) (s : State) : FrameKept s (removeRoutes d s) :=
  (frameKept_of rfl : FrameKept s (s.setRoutes d .reset)).trans ((frameKept_dropSyncs _).trans (frameKept_dropPipeFs _))

/-! ### Threads that stop, are deleted or hold their commits (R200, R206, R215) -/

theorem frameKept_setThread (k : Nat) (x : Thread) (s : State) : FrameKept s (s.setThread k x) := frameKept_of rfl

theorem frameKept_countBover (k : Nat) (s : State) : FrameKept s (countBover k s) :=
  ((((frameKept_setFld (f := F.CUE_THR_STAT_BOVER_S) (by decide) ..).trans (frameKept_bump (by decide) ..)).trans
    (frameKept_bump (by decide) ..)).trans (frameKept_raise ..))

theorem frameKept_stopRun (k : Nat) (s : State) : FrameKept s (stopRun k s) := by
  unfold stopRun
  split
  · exact frameKept_refl s
  · exact (frameKept_of_acts (unitsChange_endRun ..).acts).trans (frameKept_countBover ..)

theorem frameKept_cueStop (n : Nat) (s : State) : FrameKept s (cueStop n s) := by
  unfold cueStop
  dsimp only
  refine FrameKept.trans (frameKept_foldl (fun a k => frameKept_stopRun k a) ((s.domThreads n).filter fun k => s.thrState k == 2) s) ?_
  generalize ((s.domThreads n).filter fun k => s.thrState k == 2).foldl (fun u k => stopRun k u) s = s1
  refine FrameKept.trans (frameKept_foldl (g := fun u k => match u.thread? k with
    | some x => countBover k (u.setThread k { x with st := 1, wake := .none, bover := true, boverNow := true })
    | none => u) (fun a k => ?_)
    ((s.cue.ready.get [] n ++ s.cue.due.get [] n).filter fun k => s.thrState k != 7 && s.thrState k != 0) s1) (frameKept_of rfl)
  split
  · exact (frameKept_setThread ..).trans (frameKept_countBover ..)
  · exact frameKept_refl a

theorem frameKept_countHolds (n : Nat) (s : State) : FrameKept s (countHolds n s) := by
  unfold countHolds
  dsimp only
  split
  · exact frameKept_refl s
  · exact (frameKept_bumpN (by decide) ..).trans (frameKept_raise ..)

theorem frameKept_deleteMutes (n : Nat) (s : State) : FrameKept s (deleteMutes n s) := by
  refine frameKept_foldl (fun a k => ?_) _ s
  split
  · exact frameKept_of rfl
  · exact frameKept_refl a

theorem frameKept_deleteObjects (n : Nat) (s : State) : FrameKept s (deleteObjects n s) := by
  refine frameKept_foldl (fun a k => ?_) _ s
  dsimp only
  split
  · exact frameKept_removeRoutes ..
  · exact (frameKept_removeRoutes (1024 + objIndex (a.thrOut k)) a).trans (frameKept_of rfl)
  · exact frameKept_refl a

/-! ### Wall, audio and scan-out (R277, R300, R308, R339) -/

theorem frameKept_proofsRestart (before s : State) : FrameKept s (proofsRestart before s) := by
  refine frameKept_foldl (fun a l => ?_) _ s
  split
  · exact frameKept_refl a
  · exact (frameKept_setFld (f := F.WSCAN_LPROOF_STAT_COUNT) (by decide) ..).trans
      (frameKept_setFld (f := F.WSCAN_LPROOF_STAT_FROZEN) (by decide) ..)

theorem frameKept_noteRateMis (g k : Nat) (s : State) : FrameKept s (noteRateMis g k s) := by
  unfold noteRateMis
  dsimp only
  split
  · exact frameKept_refl s
  · split
    · refine FrameKept.trans ?_ (frameKept_raise ..)
      refine FrameKept.trans ?_ (frameKept_bump (by decide) ..)
      exact frameKept_of rfl
    · exact frameKept_of rfl

theorem frameKept_commitGroup (g p : Nat) (s : State) : FrameKept s (commitGroup g p s) := by
  unfold commitGroup
  dsimp only
  refine FrameKept.trans ?_ (frameKept_foldl (fun a k => frameKept_noteRateMis g k a) _ _)
  refine FrameKept.trans ?_ (frameKept_setReg (by decide) ..)
  refine FrameKept.trans ?_ (frameKept_setReg (by decide) ..)
  refine FrameKept.trans ?_ (frameKept_setFld (f := F.AUD_GRP_AZX_TIMEOUT) (by decide) ..)
  exact frameKept_of rfl

theorem frameKept_audShutter (n : Nat) (s : State) : FrameKept s (audShutter n s) := by
  unfold audShutter
  split
  · exact frameKept_refl s
  · dsimp only
    refine FrameKept.trans (frameKept_foldl (fun a g => frameKept_commitGroup g _ a) _ s) (frameKept_foldl (fun a q => ?_) _ _)
    split
    · exact frameKept_of rfl
    · exact frameKept_refl a

theorem frameKept_commitLayer (l : Nat) (s : State) : FrameKept s (commitLayer l s) := by
  unfold commitLayer
  dsimp only
  refine FrameKept.trans ?_ (frameKept_raiseIf ..)
  exact frameKept_of rfl

theorem frameKept_pipesShutter (n : Nat) (s : State) : FrameKept s (pipesShutter n s) := by
  have kept (u : State) (l : List Nat) : FrameKept u (l.foldl (fun (u : State) d =>
      { u with wcomp := { u.wcomp with profIn := u.wcomp.profIn.set d (u.profWords (u.userProfile d)) } }) u) := by
    refine frameKept_foldl (fun a d => ?_) l u
    exact frameKept_of rfl
  unfold pipesShutter
  dsimp only
  refine FrameKept.trans ?_ (frameKept_wcomp _ _)
  refine FrameKept.trans ?_ (kept _ _)
  exact frameKept_of rfl

theorem frameKept_wallShutter (s : State) : FrameKept s (wallShutter s) := by
  unfold wallShutter
  dsimp only
  split
  · exact frameKept_of rfl
  · refine FrameKept.trans ?_ (frameKept_raiseIf ..)
    exact frameKept_of rfl

theorem frameKept_wcompShutter (n : Nat) (layers : List Nat) (s : State) : FrameKept s (wcompShutter n layers s) := by
  have piped : FrameKept s (pipesShutter n (layers.foldl (fun u l => commitLayer l u) s)) :=
    (frameKept_foldl (fun a l => frameKept_commitLayer l a) layers s).trans (frameKept_pipesShutter ..)
  unfold wcompShutter
  dsimp only
  split
  · exact piped.trans (frameKept_wallShutter _)
  · exact piped

theorem frameKept_commitAll (r : RegName) (n : Nat) (s : State) : FrameKept s (commitAll r n s) :=
  frameKept_foldl (fun a i => frameKept_commitReg r i a) _ s

theorem frameKept_wscanShutter (n : Nat) (s : State) : FrameKept s (wscanShutter n s) := by
  unfold wscanShutter
  split
  · exact frameKept_refl s
  · dsimp only
    refine FrameKept.trans ?_ (frameKept_wscan _ _)
    refine FrameKept.trans ?_ (frameKept_commitAll ..)
    refine FrameKept.trans ?_ (frameKept_commitAll ..)
    refine FrameKept.trans ?_ (frameKept_commitAll ..)
    exact frameKept_of rfl

theorem frameKept_commitShadows (n : Nat) (s : State) : FrameKept s (commitShadows n s) := by
  unfold commitShadows
  dsimp only
  refine FrameKept.trans ?_ (frameKept_wscanShutter ..)
  refine FrameKept.trans ?_ (frameKept_wcompShutter ..)
  refine FrameKept.trans ?_ (frameKept_audShutter ..)
  refine FrameKept.trans ?_ (frameKept_proofsRestart ..)
  refine FrameKept.trans ?_ (frameKept_deleteObjects ..)
  refine FrameKept.trans ?_ (frameKept_xptShutter ..)
  exact (frameKept_countHolds ..).trans (frameKept_deleteMutes ..)

/-! ### The Vault and the Cue Engine (R207, R212, R220, R443) -/

theorem frameKept_vaultShutter (n : Nat) (s : State) : FrameKept s (vaultShutter n s) :=
  frameKept_of_acts ((vaultActs_vault _ s).trans (vaultActs_vaultSettle _))

theorem frameKept_shutThread (s : State) (k : Nat) : FrameKept s (shutThread s k) := by
  unfold shutThread
  split
  · exact frameKept_refl s
  · exact frameKept_of rfl

theorem frameKept_freeThread (s : State) (k : Nat) : FrameKept s (freeThread s k) := by
  unfold freeThread
  dsimp only
  generalize hb : s.bumpN .CUE_TQ_NOOWNER_CNT 0 _ = b
  have counted : FrameKept s b := by
    rw [← hb]
    exact frameKept_bumpN (by decide) ..
  exact counted.trans (frameKept_of rfl)

theorem frameKept_ageTakes (n : Nat) (s : State) : FrameKept s (ageTakes n s) := by
  unfold ageTakes
  dsimp only
  split
  · exact frameKept_of rfl
  · refine FrameKept.trans ?_ (frameKept_raise ..)
    refine FrameKept.trans ?_ (frameKept_bumpN (by decide) ..)
    exact frameKept_of rfl

theorem frameKept_swapThread (s : State) (k : Nat) : FrameKept s (swapThread s k) := by
  unfold swapThread
  split
  · exact frameKept_refl s
  next x _ =>
    have entered : FrameKept s (if s.flag F.CUE_THR_NEXT_VALID k then
        (s.setFld F.CUE_THR_ENTRY_ENTRY k (s.fld F.CUE_THR_NEXT_ENTRY_NEXT k)).setFlag F.CUE_THR_NEXT_VALID k false else s) := by
      split
      · exact (frameKept_setFld (f := F.CUE_THR_ENTRY_ENTRY) (by decide) ..).trans (frameKept_setFld (f := F.CUE_THR_NEXT_VALID) (by decide) ..)
      · exact frameKept_refl s
    dsimp only
    split
    · exact entered
    · exact entered.trans (frameKept_setThread ..)

theorem frameKept_domainSwap (n : Nat) (s : State) : FrameKept s (domainSwap n s) := by
  unfold domainSwap
  dsimp only
  have done (l : List Nat) : FrameKept s (l.foldl swapThread (s.setFld F.CUE_PS_STAT_BANK 0 ((s.fld F.CUE_PS_STAT_BANK 0).xor (2 ^ n)))) :=
    (frameKept_setFld (f := F.CUE_PS_STAT_BANK) (by decide) ..).trans (frameKept_foldl frameKept_swapThread l _)
  split
  · refine FrameKept.trans ?_ (frameKept_raise ..)
    refine FrameKept.trans ?_ ((frameKept_setFld (f := F.CUE_PS_STAT_PENDING) (by decide) ..).trans
      (frameKept_setFld (f := F.CUE_PS_STAT_IDLE) (by decide) ..))
    exact (done _).trans (frameKept_cue _ _)
  · exact (done _).trans (frameKept_cue _ _)

theorem frameKept_setServe (e : Nat) (d : Option Nat) (s : State) : FrameKept s (setServe e d s) :=
  frameKept_of_acts (unitsChange_setServe ..).acts

theorem frameKept_shareFalls (n : Nat) (s : State) : FrameKept s (shareFalls n s) :=
  frameKept_foldl (fun a e => frameKept_setServe e none a) _ s

theorem frameKept_shareRises (n : Nat) (s : State) : FrameKept s (shareRises n s) :=
  frameKept_foldl (fun a e => frameKept_setServe e (some n) a) _ s

theorem frameKept_shareSettle (s : State) : FrameKept s (shareSettle s) := by
  refine frameKept_foldl (fun a n => ?_) _ s
  split
  · exact frameKept_refl a
  · exact (frameKept_shareFalls ..).trans (frameKept_shareRises ..)

theorem frameKept_restoreEngine (n : Nat) (s : State) : FrameKept s (restoreEngine n s) := by
  unfold restoreEngine
  split
  · exact frameKept_refl s
  · split
    · exact frameKept_refl s
    next e _ =>
      dsimp only
      have given := (frameKept_of_acts (unitsChange_setUnit (18 + e) 0 s).acts).trans (frameKept_setServe e (some n) _)
      exact given.trans (frameKept_of rfl)

theorem frameKept_shutSwap (n : Nat) (s : State) : FrameKept s (shutSwap n s) := by
  unfold shutSwap
  split
  · exact frameKept_refl s
  · split
    · exact frameKept_domainSwap ..
    · exact frameKept_refl s

theorem frameKept_cueShuts (n : Nat) (s : State) : FrameKept s (cueShuts n s) := by
  have slack (a : State) : FrameKept a (noteSlack n a) := frameKept_of rfl
  unfold cueShuts
  dsimp only
  refine FrameKept.trans ?_ (frameKept_of_acts (unitsChange_overloadCheck _).acts)
  refine FrameKept.trans ?_ (slack _)
  refine FrameKept.trans ?_ (frameKept_restoreEngine ..)
  refine FrameKept.trans ?_ ((frameKept_shareFalls ..).trans (frameKept_shareSettle _))
  refine FrameKept.trans ?_ ((frameKept_ageTakes ..).trans (frameKept_shutSwap ..))
  exact (frameKept_foldl frameKept_shutThread _ s).trans (frameKept_foldl frameKept_freeThread _ _)

/-- All that follows S(N) in the blocks, before the Tally Mirror's words, keeps the frames and the mirror (R11 step 3). -/
theorem frameKept_shutBlocks (n : Nat) (s : State) : FrameKept s (cueShuts n (vaultShutter n (commitShadows n (cueStop n s)))) :=
  (((frameKept_cueStop ..).trans (frameKept_commitShadows ..)).trans (frameKept_vaultShutter ..)).trans (frameKept_cueShuts ..)

end

end Sys2Proof.Machine
end

section
/-!
PROOFS. The events of a frame in their order (R10 to R15, R203, R210, R256).
-/

namespace Sys2Proof.Machine

section
variable {s t : State} {n : Nat} {x : FrameTimes}

theorem tdOf_setTd_same (s : State) (n : Nat) (y : TdState) : (s.setTd n y).tdOf n = y := AMap.get_set_same ..

theorem tdOf_setTd_ne (s : State) {n k : Nat} (h : k ≠ n) (y : TdState) : (s.setTd n y).tdOf k = s.tdOf k := AMap.get_set_ne _ _ _ h

theorem FrameKept.tdOf (h : FrameKept s t) (k : Nat) : t.tdOf k = s.tdOf k := congrArg (fun m : AMap TdState => m.get .reset k) h.td

theorem frameKept_passTo (i : Int) (s : State) : FrameKept s (passTo i s) :=
  frameKept_of (passTo_regs i s) (passTo_td i s) (by rw [onlyTime_passTo i s])

/-! ### Cue Open (R10, R52, R203, R210) -/

theorem tdOpen_facts (n : Nat) (ph : Int) (x : FrameTimes) (s : State) :
    (tdOpen n ph x s).tdOf n = { s.tdOf n with phase := ph, crash := false, opened := some x } ∧ (tdOpen n ph x s).regs = s.regs
      ∧ (tdOpen n ph x s).cue = s.cue ∧ (tdOpen n ph x s).owner = s.owner := by
  unfold tdOpen
  dsimp only
  refine ⟨?_, ?_, ?_, ?_⟩
  · rw [State.tdOf, raiseIf_td, passTo_td]
    exact tdOf_setTd_same ..
  · rw [raiseIf_regs, passTo_regs]
    rfl
  · rw [raiseIf_cue, passTo_cue]
    rfl
  · rw [raiseIf_owner, passTo_owner]
    rfl

/-- From `s` to `t` the Take Queue stays, and what says which domain owns an object. -/
structure TakesKept (s t : State) : Prop where
  tq : t.cue.tq = s.cue.tq
  owner : t.owner = s.owner
  cfg : ∀ i, t.reg .CUE_THR_CFG i = s.reg .CUE_THR_CFG i

theorem takesKept_refl (s : State) : TakesKept s s := ⟨rfl, rfl, fun _ => rfl⟩

theorem TakesKept.trans {u : State} (h : TakesKept s t) (g : TakesKept t u) : TakesKept s u :=
  ⟨g.tq.trans h.tq, g.owner.trans h.owner, fun i => (g.cfg i).trans (h.cfg i)⟩

theorem TakesKept.ownerTd (h : TakesKept s t) (o : Nat) : t.ownerTd o = s.ownerTd o := by
  rw [State.ownerTd, State.ownerTd, h.owner]
  simp only [fld_eq, h.cfg]

theorem takesKept_setServe (e d : Nat) (s : State) : TakesKept s (setServe e (some d) s) :=
  ⟨rfl, rfl, fun i => reg_setFld_apart _ e i _ (by decide)⟩

theorem takesKept_shareRises (n : Nat) (s : State) : TakesKept s (shareRises n s) :=
  foldl_rel takesKept_refl TakesKept.trans (fun a e => takesKept_setServe e n a) _ s

theorem takesKept_raise (y : Src) (s : State) : TakesKept s (s.raise y) :=
  ⟨by rw [raise_cue], raise_owner .., fun i => reg_of_regs (raise_regs ..) _ i⟩

theorem takesKept_overloadCheck (s : State) : TakesKept s (overloadCheck s) := by
  refine foldl_rel takesKept_refl TakesKept.trans (fun a k => ?_) _ s
  split
  · split
    · exact takesKept_refl a
    · refine TakesKept.trans ?_ (takesKept_raise ..)
      exact ⟨rfl, rfl, fun _ => rfl⟩
  · exact ⟨rfl, rfl, fun _ => rfl⟩

theorem openThread_facts (o : Nat) (s : State) (k : Nat) : FrameKept s (openThread o s k) ∧ (openThread o s k).cue.tq = s.cue.tq := by
  unfold openThread
  split
  · exact ⟨frameKept_refl s, rfl⟩
  · exact ⟨frameKept_of rfl, rfl⟩

theorem openThreads_facts (o : Nat) (l : List Nat) (s : State) :
    FrameKept s (l.foldl (openThread o) s) ∧ (l.foldl (openThread o) s).cue.tq = s.cue.tq :=
  ⟨frameKept_foldl (fun a k => (openThread_facts o a k).1) l s,
    foldl_keeps (fun a => a.cue.tq) (fun a k => (openThread_facts o a k).2) l s⟩

theorem takeSnap_facts (n : Nat) (s : State) : FrameKept s (takeSnap n s) ∧ (takeSnap n s).cue = s.cue := ⟨frameKept_of rfl, rfl⟩

theorem cueOpens_facts (h : (s.tdOf n).opened = some x) : FrameKept s (cueOpens n s)
    ∧ (cueOpens n s).cue.tq = (showTakes n (unsign 48 x.cueOpen) (overloadCheck (shareRises n s))).cue.tq := by
  unfold cueOpens
  rw [h]
  dsimp only
  have risen : FrameKept s (showTakes n (unsign 48 x.cueOpen) (overloadCheck (shareRises n s))) :=
    ((frameKept_shareRises ..).trans (frameKept_of_acts (unitsChange_overloadCheck _).acts)).trans (frameKept_of rfl)
  obtain ⟨kept, tq⟩ := openThreads_facts (unsign 48 x.cueOpen) ((overloadCheck (shareRises n s)).domThreads n)
    (showTakes n (unsign 48 x.cueOpen) (overloadCheck (shareRises n s)))
  obtain ⟨snap, cue⟩ := takeSnap_facts n _
  refine ⟨(risen.trans kept).trans (FrameKept.trans (frameKept_cue _ _) snap), ?_⟩
  rw [cue]
  exact tq

theorem shown_of_mem {o : Nat} {e : TqEntry} (he : e ∈ s.cue.tq) (hown : s.ownerTd e.obj = some n) (hb : etBefore e.t o = true) :
    ∃ e', e' ∈ (showTakes n o s).cue.tq ∧ e'.w0 = e.w0 ∧ e'.w1 = e.w1 ∧ e'.seen.isSome = true := by
  refine ⟨_, List.mem_map_of_mem he, ?_⟩
  by_cases hs : e.seen = none
  · rw [if_pos ⟨hown, hs, hb⟩]
    exact ⟨rfl, rfl, rfl⟩
  · rw [if_neg fun h => hs h.2.1]
    exact ⟨rfl, rfl, Option.isSome_iff_ne_none.mpr hs⟩

/-! ### The Shutter (R11 step 3, R52, R54, R58) -/

theorem tdShut_facts (n : Nat) (x : FrameTimes) (s : State) :
    (tdShut n x s).tdOf n = { s.tdOf n with opened := none, last := some x, overlapOpen := true }
      ∧ (∀ k, k ≠ n → (tdShut n x s).tdOf k = s.tdOf k) ∧ (tdShut n x s).reg .REF_TD_FRAME n = s.reg .REF_TD_FRAME n + 1
      ∧ (tdShut n x s).flag F.REF_TD_STAT_RUN n = true ∧ (tdShut n x s).reg .REF_TD_SHUTTER_LO n = BitVec.ofNat 32 (unsign 48 x.shutter)
      ∧ (tdShut n x s).reg .REF_TD_SHUTTER_HI n = BitVec.ofNat 32 (unsign 48 x.shutter / 2 ^ 32) ∧ (tdShut n x s).ttb = s.ttb := by
  have passed := frameKept_passTo x.shutter s
  unfold tdShut
  dsimp only
  generalize passTo x.shutter s = p at passed ⊢
  have stamped {q : RegName} (hlo : q ≠ .REF_TD_SHUTTER_LO) (hhi : q ≠ .REF_TD_SHUTTER_HI) (a : State) (v w : Word) :
      ((a.setReg .REF_TD_SHUTTER_LO n v).setReg .REF_TD_SHUTTER_HI n w).reg q n = a.reg q n := by
    rw [reg_setReg_ne _ _ (fun h => absurd h hhi), reg_setReg_ne _ _ (fun h => absurd h hlo)]
  refine ⟨?_, fun k hk => ?_, ?_, ?_, ?_, reg_setReg_same .., passed.ttb⟩
  · refine (tdOf_setTd_same p n _).trans ?_
    rw [passed.tdOf]
  · exact (tdOf_setTd_ne p hk _).trans (passed.tdOf k)
  · rw [stamped (by decide) (by decide), reg_setFlag_apart _ _ _ _ (by decide), reg_setReg_same]
    exact congrArg (· + 1) (passed.regs _ (by decide) n)
  · rw [State.flag, fld_eq, stamped (by decide) (by decide), ← fld_eq, ← State.flag, flag_setFlag_same _ (by decide) rfl]
  · rw [reg_setReg_ne _ _ (fun h => absurd h (by decide)), reg_setReg_same]

theorem shutterOf_facts (n : Nat) (x : FrameTimes) (s : State) :
    ∃ u, FrameKept (tdShut n x s) u ∧ shutterOf n x s = ttbShutter n u := ⟨_, frameKept_shutBlocks n (tdShut n x s), rfl⟩

/-! ### The banks of the Tally Mirror (R256) -/

theorem find?_foldl_set {l : List (Nat × Word)} {a : Nat} {w : Word} (hu : ∀ w', (a, w') ∈ l → w' = w) {m : AMap (Nat × Word)}
    (h : (a, w) ∈ l ∨ m.find? a = some (n, w)) :
    (l.foldl (fun (m : AMap (Nat × Word)) e => m.set e.1 (n, e.2)) m).find? a = some (n, w) := by
  induction l generalizing m with
  | nil => exact h.resolve_left (by simp)
  | cons e l ih =>
    refine ih (fun w' hw => hu w' (List.mem_cons_of_mem _ hw)) ?_
    by_cases ha : e.1 = a
    · right
      have hw : e.2 = w := hu e.2 (by rw [← ha]; exact List.mem_cons_self)
      refine (congrArg (AMap.find? · a) (show m.set e.1 (n, e.2) = m.set a (n, w) by rw [ha, hw])).trans ?_
      exact AMap.find?_set_same ..
    · refine h.imp (fun hm => ?_) (fun hf => (AMap.find?_set_ne _ _ (Ne.symm ha)).trans hf)
      exact (List.mem_cons.mp hm).resolve_left fun he => ha (by rw [← he])

/-- What an edge of TTB_CLK makes of the swap of a domain. -/
def mirrorSwapped (n : Nat) (s : State) : State := (if s.ttb.due.contains n then swapBank s n else s).setFlag F.TTB_STAT_CLK_OK 0 true

theorem mirrorSwapped_frame (n : Nat) (s : State) : (mirrorSwapped n s).flag F.TTB_STAT_CLK_OK 0 = true
    ∧ regsButAt [.TTB_STAT] 0 s (mirrorSwapped n s) ∧ (mirrorSwapped n s).flt = s.flt ∧ still s (mirrorSwapped n s) := by
  unfold mirrorSwapped
  refine ⟨flag_setFlag_same _ (by decide) rfl _ _, ?_, ?_, ?_, ?_⟩
  · rw [regsButAt_setFlag (by decide)]
    split
    · exact regsButAt_of_regs rfl
    · exact regsButAt_refl
  all_goals
    split
    · rfl
    · rfl

/-! ### The Overlap Window (R11 step 5, R15, R172) -/

theorem dropSyncs_rt (s : State) : (dropSyncs s).xpt.rt = s.xpt.rt := by
  refine foldl_keeps (fun a : State => a.xpt.rt) (fun a j => ?_) _ s
  dsimp only
  split
  · rfl
  · rfl

theorem dropPipeFs_rt (s : State) : (dropPipeFs s).xpt.rt = s.xpt.rt := by
  refine foldl_keeps (fun a : State => a.xpt.rt) (fun a q => ?_) _ s
  dsimp only
  split
  · rfl
  · rfl

/-- A destination's routes after the close of domain `n`'s Overlap Window. -/
def windowClosed (n : Nat) (x : RouteSet) : RouteSet :=
  if x.all.any (fun r => r.td == n) || x.prev.any (fun r => r.td == n) then { x with prev := none } else x

theorem xptOverlapClose_rt (n : Nat) (s : State) : (xptOverlapClose n s).xpt.rt = s.xpt.rt.map (fun _ => windowClosed n) := by
  have released (l : List Nat) : (l.foldl (fun u v => (u.releaseStore v).setVin v { u.vinRec v with noStore := false }) s).xpt.rt = s.xpt.rt := by
    refine foldl_keeps (fun a : State => a.xpt.rt) (fun a v => ?_) l s
    rfl
  unfold xptOverlapClose
  dsimp only
  rw [dropPipeFs_rt, dropSyncs_rt]
  exact congrArg (fun m : AMap RouteSet => m.map (fun _ => windowClosed n)) (released _)

theorem frameKept_xptOverlapClose (n : Nat) (s : State) : FrameKept s (xptOverlapClose n s) := by
  have released (l : List Nat) : FrameKept s (l.foldl (fun u v => (u.releaseStore v).setVin v { u.vinRec v with noStore := false }) s) := by
    refine frameKept_foldl (fun a v => ?_) l s
    exact frameKept_of rfl
  unfold xptOverlapClose
  dsimp only
  refine FrameKept.trans ?_ (frameKept_dropPipeFs _)
  refine FrameKept.trans ?_ (frameKept_dropSyncs _)
  exact (released _).trans (frameKept_of rfl)

theorem windowClosed_facts (n : Nat) (x : RouteSet) : (windowClosed n x).committed = x.committed
    ∧ ∀ r, x.prev = some r → r.td = n → (windowClosed n x).prev = none := by
  unfold windowClosed
  split
  next h => exact ⟨rfl, fun _ _ _ => rfl⟩
  next h => exact ⟨rfl, fun r hr htd => absurd (by simp [hr, htd]) h⟩

theorem routes_of_rt (h : t.xpt.rt = s.xpt.rt.map (fun _ => windowClosed n)) (o : Nat) :
    (t.routes o).committed = (s.routes o).committed
      ∧ ∀ r, (s.routes o).prev = some r → r.td = n → (t.routes o).prev = none := by
  rw [State.routes, State.routes, h, AMap.get, AMap.get, AMap.find?_map]
  cases s.xpt.rt.find? o with
  | none => exact ⟨rfl, fun r hr => nomatch hr⟩
  | some y => exact windowClosed_facts n y

theorem overlapCloses_none (h : (s.tdOf n).last = none ∨ (s.tdOf n).overlapOpen = false) : overlapCloses n s = s := by
  unfold overlapCloses
  split
  · rfl
  next hl =>
    rcases h with h | h
    · rw [hl] at h; cases h
    · rw [h]; rfl

/-- The state in which the crosspoint closes the Overlap Window of domain `n`. -/
def windowPassed (n : Nat) (x : FrameTimes) (s : State) : State :=
  (passTo (s.overlapEnd n x) s).setTd n { (passTo (s.overlapEnd n x) s).tdOf n with overlapOpen := false }

theorem overlapCloses_closes (hl : (s.tdOf n).last = some x) (ho : (s.tdOf n).overlapOpen = true) :
    overlapCloses n s = vaultOverlapClose n (xptOverlapClose n (windowPassed n x s)) := by
  unfold overlapCloses
  rw [hl]
  dsimp only
  rw [if_pos ho]
  rfl

theorem windowPassed_facts (n : Nat) (x : FrameTimes) (s : State) :
    (windowPassed n x s).tdOf n = { s.tdOf n with overlapOpen := false } ∧ (windowPassed n x s).xpt = s.xpt := by
  unfold windowPassed
  constructor
  · rw [tdOf_setTd_same, (frameKept_passTo _ s).tdOf]
  · exact passTo_xpt ..

theorem vaultActs_overlapClose (n : Nat) (s : State) : VaultActs s (vaultOverlapClose n s) :=
  (vaultActs_vault _ s).trans (vaultActs_vaultSettle _)

/-! ### Runs that begin (R203, R204) -/

theorem runStart_refuses {e : Nat} (h : s.engUp e = false ∨ s.serves e ≠ some n ∨ (s.runningOn e).isSome = true) : runStart n e s = s := by
  have barred (c : Bool) : (!s.engUp e || s.serves e != some n || (s.runningOn e).isSome || c) = true := by
    rcases h with h | h | h
    · simp [h]
    · simp [bne_iff_ne.mpr h]
    · simp [h]
  unfold runStart
  split
  · exact if_pos (barred _)
  · rfl

/-- Thread `k` as engine `e` takes it at `c`, its context loaded in `load` cycles. -/
def Thread.taken (y : Thread) (e : Nat) (c : Int) (load : Nat) : Thread :=
  { y with st := 2, wake := .none, eng := some e, clock := c + (load : Nat), back := 8 - load, used := 0 }

/-- The state in which thread `k` has left the dispatched ones as `z`. -/
def runTaken (n k : Nat) (rest : List Nat) (c : Int) (z : Thread) (s : State) : State :=
  { passTo c s with free := (passTo c s).free + 1,
                    cue := { (passTo c s).cue with ready := (passTo c s).cue.ready.set n rest, thr := (passTo c s).cue.thr.set k z } }

theorem runStart_takes {e k : Nat} {rest : List Nat} {y : Thread} (ho : (s.tdOf n).opened = some x) (hr : s.readyList n = k :: rest)
    (hup : s.engUp e = true) (hs : s.serves e = some n) (hf : s.runningOn e = none)
    (hc : max (x.cueOpen + 100) (s.cue.engFree.get (x.cueOpen + 100) e) < x.shutter) (hy : s.thread? k = some y) :
    ∃ (c : Int) (load : Nat), runStart n e s = if s.flag F.CUE_THR_CFG_BUILTIN k
      then runBuiltin k x.shutter (runTaken n k rest c (y.taken e c load) s) else runTaken n k rest c (y.taken e c load) s := by
  refine ⟨max (x.cueOpen + 100) (s.cue.engFree.get (x.cueOpen + 100) e),
    ((passTo (max (x.cueOpen + 100) (s.cue.engFree.get (x.cueOpen + 100) e)) s).freeNat).1 % 9, ?_⟩
  unfold runStart
  rw [ho, hr]
  dsimp only
  rw [if_neg (by simp [hup, hs, hf]; omega), hy]
  rfl

theorem runTaken_facts (n k : Nat) (rest : List Nat) (c : Int) (z : Thread) (s : State) : (runTaken n k rest c z s).thread? k = some z
    ∧ (∀ j, j ≠ k → (runTaken n k rest c z s).thread? j = s.thread? j) ∧ (runTaken n k rest c z s).cue.ready.get [] n = rest
    ∧ (runTaken n k rest c z s).cue.tq = s.cue.tq ∧ still s (runTaken n k rest c z s) := by
  unfold runTaken
  rw [passTo_cue]
  exact ⟨AMap.find?_set_same .., fun j hj => AMap.find?_set_ne _ _ hj, AMap.get_set_same .., rfl, passTo_pending .., passTo_mem ..⟩

/-- The dispatch of a domain's due threads, at its time. -/
theorem dispatch_facts (h : (s.tdOf n).opened = some x) : (dispatch n s).cue.ready.get [] n = s.cue.due.get [] n
    ∧ (dispatch n s).cue.due.get [] n = [] ∧ (dispatch n s).cue.thr = s.cue.thr ∧ (dispatch n s).tdOf n = s.tdOf n := by
  have kept := (frameKept_passTo (x.cueOpen + 100) s).tdOf n
  unfold dispatch
  rw [h]
  dsimp only
  rw [passTo_cue]
  exact ⟨AMap.get_set_same .., AMap.get_set_same .., rfl, kept⟩

end

/-- Settles O29: every block's part of a Shutter, and of the close of an Overlap Window, keeps the frames and the Tally Mirror. -/
theorem frameEventsInOrder : Obligations.FrameEventsInOrder := by
  refine ⟨fun td f slew ph x s h => ?_, fun td f slew s h => ?_, fun td x s h => ?_, fun td s h => ?_, fun td s h => ?_,
    fun td s h => ?_, fun td x s hl ho => ?_, fun td s h => congrArg Host.Outcome.next (overlapCloses_none h), fun td x s h => ?_,
    fun td s h => ?_, fun td e x n rest y s ho hr hup hs hf hc hy hb => ?_, fun td e x n rest y s ho hr hup hs hf hc hy hb => ?_,
    fun td e s h => congrArg Host.Outcome.next (runStart_refuses h)⟩
  · obtain ⟨htd, hregs, hcue, howner⟩ := tdOpen_facts td ph x s
    have opened : ((tdOpen td ph x s).tdOf td).opened = some x := by rw [htd]
    obtain ⟨kept, tq⟩ := cueOpens_facts opened
    have takes := (takesKept_shareRises td (tdOpen td ph x s)).trans (takesKept_overloadCheck _)
    have before : TakesKept s (tdOpen td ph x s) := ⟨by rw [hcue], howner, fun i => reg_of_regs hregs _ i⟩
    have all := before.trans takes
    refine ⟨cueOpens td (tdOpen td ph x s), ?_, ?_, ?_, ?_, ?_, fun e he hown hb => ?_, ?_, ?_⟩
    · exact congrArg Host.Outcome.next (by rw [h])
    · rw [kept.tdOf, htd]
    · rw [kept.tdOf, htd]
    · rw [kept.tdOf, htd]
    · rw [kept.regs _ (by decide), reg_of_regs hregs]
    · rw [tq]
      exact shown_of_mem (by rw [all.tq]; exact he) (by rw [all.ownerTd]; exact hown) hb
    · rw [cueOpens_pending, tdOpen_pending]
    · rw [cueOpens_mem, tdOpen_mem]
  · exact congrArg Host.Outcome.next (by rw [h])
  · obtain ⟨htd, hne, hframe, hrun, hlo, hhi, httb⟩ := tdShut_facts td x s
    obtain ⟨u, kept, hu⟩ := shutterOf_facts td x s
    have regs (r : RegName) (i : Nat) : (ttbShutter td u).reg r i = u.reg r i := rfl
    have tds (k : Nat) : (ttbShutter td u).tdOf k = (tdShut td x s).tdOf k := kept.tdOf k
    have pending := shutterOf_pending td x s
    have mem := shutterOf_mem td x s
    rw [hu] at pending mem
    refine ⟨ttbShutter td u, ?_, ?_, ?_, ?_, ?_, ?_, ?_, ?_, ?_, ?_, fun k hk => ?_, pending, mem⟩
    · exact congrArg Host.Outcome.next (by rw [h]; exact hu)
    · rw [tds, htd]
    · rw [tds, htd]
    · rw [tds, htd]
    · rw [regs, kept.regs _ (by decide), hframe]
    · rw [State.flag, fld_eq, regs, kept.regs _ (by decide), ← fld_eq, ← State.flag, hrun]
    · rw [regs, kept.regs _ (by decide), hlo]
    · rw [regs, kept.regs _ (by decide), hhi]
    · exact List.mem_cons_self
    · exact (rfl : _ = u.ttb.front).trans (congrArg TtbState.front (kept.ttb.trans httb))
    · rw [tds, hne _ (fun h => hk (Fin.ext h))]
  · exact congrArg Host.Outcome.next (by rw [h])
  · obtain ⟨hclk, hregs, hflt, hstill⟩ := mirrorSwapped_frame td s
    have swaps : (mirrorSwapped td s).ttb = (swapBank s td).ttb := by rw [mirrorSwapped, if_pos (by simpa using h)]; rfl
    refine ⟨mirrorSwapped td s, rfl, ?_, ?_, fun a w hm hu => ?_, hclk, hregs, hflt, hstill⟩
    · rw [swaps]
      simp [swapBank]
    · rw [swaps]
      rfl
    · rw [swaps]
      exact find?_foldl_set hu (.inl hm)
  · obtain ⟨-, hregs, hflt, hstill⟩ := mirrorSwapped_frame td s
    exact ⟨mirrorSwapped td s, rfl, by rw [mirrorSwapped, if_neg (by simpa using h)]; rfl, hregs, hflt, hstill⟩
  · obtain ⟨htd, hxpt⟩ := windowPassed_facts td x s
    have acts := vaultActs_overlapClose td (xptOverlapClose td (windowPassed td x s))
    have kept := (frameKept_xptOverlapClose td (windowPassed td x s)).trans (frameKept_of_acts acts)
    have rt : (vaultOverlapClose td (xptOverlapClose td (windowPassed td x s))).xpt.rt = s.xpt.rt.map (fun _ => windowClosed td) := by
      have same := acts.kept
      simp only [State.framesAndRoutes, Prod.mk.injEq] at same
      rw [same.2.2, xptOverlapClose_rt, hxpt]
    have closes := overlapCloses_closes hl ho
    have pending := overlapCloses_pending td s
    have mem := overlapCloses_mem td s
    rw [closes] at pending mem
    refine ⟨_, congrArg Host.Outcome.next closes, ?_, ?_, ?_, fun o r hr htd' => (routes_of_rt rt o).2 r hr htd', fun o => (routes_of_rt rt o).1,
      pending, mem⟩
    · rw [kept.tdOf, htd]
    · rw [kept.tdOf, htd, hl]
    · rw [kept.tdOf, htd]
  · obtain ⟨hready, hdue, hthr, htd⟩ := dispatch_facts h
    exact ⟨_, rfl, hready, hdue, hthr, htd, dispatch_pending .., dispatch_mem ..⟩
  · exact congrArg Host.Outcome.next (by unfold dispatch; rw [h])
  · obtain ⟨c, load, hstart⟩ := runStart_takes ho hr hup hs hf hc hy
    rw [hb] at hstart
    obtain ⟨hthread, hother, hready, -, hstill⟩ := runTaken_facts td n rest c (y.taken e c load) s
    exact ⟨_, _, congrArg Host.Outcome.next hstart, hthread, rfl, rfl, rfl, rfl, rfl, rfl, hready, hother, hstill⟩
  · obtain ⟨c, load, hstart⟩ := runStart_takes ho hr hup hs hf hc hy
    rw [hb] at hstart
    obtain ⟨hthread, -, hready, htq, hstill⟩ := runTaken_facts td n rest c (y.taken e c load) s
    exact ⟨_, _, congrArg Host.Outcome.next hstart, hthread, rfl, rfl, rfl, hready, htq, hstill⟩

end Sys2Proof.Machine
end

section
/-!
SUPPORT. Frames on the Tile Link (R325, R329 to R331): a frame that goes out joins its port's frames and changes nothing else.
-/

namespace Sys2Proof.Machine

section
variable {s t u : State} {p : Nat}

/-- From `s` to `t` frames went out on tile ports; those that each port had sent stay. -/
structure Sends (s t : State) : Prop where
  only : ∃ w q x, t = { s with wire := w, wscan := { s.wscan with seq := q, sent := x } }
  grows : ∀ p x, x ∈ s.wscan.sent.get [] p → x ∈ t.wscan.sent.get [] p

theorem sends_refl (s : State) : Sends s s := ⟨⟨s.wire, s.wscan.seq, s.wscan.sent, rfl⟩, fun _ _ h => h⟩

theorem Sends.trans (h : Sends s t) (g : Sends t u) : Sends s u := by
  obtain ⟨w, q, x, ht⟩ := h.only
  obtain ⟨w', q', x', hu⟩ := g.only
  exact ⟨⟨w', q', x', by rw [hu, ht]⟩, fun p x hx => g.grows p x (h.grows p x hx)⟩

theorem sends_foldl {α : Type} {g : State → α → State} (h : ∀ a x, Sends a (g a x)) (l : List α) (s : State) : Sends s (l.foldl g s) :=
  foldl_rel sends_refl Sends.trans h l s

theorem Sends.regs (h : Sends s t) : t.regs = s.regs := by
  obtain ⟨w, q, x, rfl⟩ := h.only
  rfl

theorem Sends.flt (h : Sends s t) : t.flt = s.flt := by
  obtain ⟨w, q, x, rfl⟩ := h.only
  rfl

theorem Sends.still (h : Sends s t) : still s t := by
  obtain ⟨w, q, x, rfl⟩ := h.only
  exact ⟨rfl, rfl⟩

/-- A port sent a frame, whatever its SEQ. -/
def State.hasSent (s : State) (p : Nat) (frame : Nat → List Byte) : Prop := ∃ q, frame q ∈ s.wscan.sent.get [] p

theorem State.hasSent.mono {frame : Nat → List Byte} (h : s.hasSent p frame) (g : Sends s t) : t.hasSent p frame :=
  h.imp fun _ hq => g.grows p _ hq

/-- What one of the steps sends is among the frames in the end. -/
theorem hasSent_foldl {α : Type} {g : State → α → State} (hg : ∀ a x, Sends a (g a x)) {frame : Nat → List Byte} {x : α} {l : List α}
    (hx : x ∈ l) (h : ∀ a, Sends s a → (g a x).hasSent p frame) : (l.foldl g s).hasSent p frame := by
  induction l generalizing s with
  | nil => cases hx
  | cons y l ih =>
    rcases List.mem_cons.mp hx with rfl | hm
    · exact (h s (sends_refl s)).mono (sends_foldl hg l _)
    · exact ih hm fun a ha => h a ((hg s y).trans ha)

/-! ### One frame (R329) -/

theorem sendTile_sent_same (p : Nat) (dst : List Byte) (kind frame : Nat) (payload : List Byte) (s : State) :
    (sendTile p dst kind frame payload s).wscan.sent.get [] p
      = tileFrame dst p kind frame (s.wscan.seq.get 0 p) payload :: s.wscan.sent.get [] p := AMap.get_set_same ..

theorem sendTile_sent_ne {k : Nat} (h : k ≠ p) (dst : List Byte) (kind frame : Nat) (payload : List Byte) (s : State) :
    (sendTile p dst kind frame payload s).wscan.sent.get [] k = s.wscan.sent.get [] k := AMap.get_set_ne _ _ _ h

theorem sends_sendTile (p : Nat) (dst : List Byte) (kind frame : Nat) (payload : List Byte) (s : State) :
    Sends s (sendTile p dst kind frame payload s) := by
  refine ⟨⟨_, _, _, rfl⟩, fun k x hx => ?_⟩
  by_cases hk : k = p
  · subst hk
    rw [sendTile_sent_same]
    exact List.mem_cons_of_mem _ hx
  · rw [sendTile_sent_ne hk]
    exact hx

theorem hasSent_sendTile (p : Nat) (dst : List Byte) (kind frame : Nat) (payload : List Byte) (s : State) :
    (sendTile p dst kind frame payload s).hasSent p fun q => tileFrame dst p kind frame q payload :=
  ⟨_, by rw [sendTile_sent_same]; exact List.mem_cons_self⟩

theorem clearSent_sent (s : State) (p : Nat) : (clearSent s).wscan.sent.get [] p = [] := rfl

/-- The same frame goes out on each of some ports: each has sent it alone. -/
theorem sent_foldl_sendTile {dst : List Byte} {kind frame : Nat} {payload : List Byte} {l : List Nat} (hn : l.Nodup) (hp : p ∈ l)
    (hs : s.wscan.sent.get [] p = []) :
    ∃ q, (l.foldl (fun u k => sendTile k dst kind frame payload u) s).wscan.sent.get [] p = [tileFrame dst p kind frame q payload] := by
  have others (m : List Nat) (hm : p ∉ m) (a : State) :
      (m.foldl (fun u k => sendTile k dst kind frame payload u) a).wscan.sent.get [] p = a.wscan.sent.get [] p := by
    induction m generalizing a with
    | nil => rfl
    | cons k m ih =>
      rw [List.mem_cons, not_or] at hm
      exact (ih hm.2 _).trans (sendTile_sent_ne hm.1 ..)
  induction l generalizing s with
  | nil => cases hp
  | cons k l ih =>
    rw [List.nodup_cons] at hn
    by_cases hk : p = k
    · subst hk
      exact ⟨_, (others l hn.1 _).trans ((sendTile_sent_same ..).trans (congrArg _ hs))⟩
    · exact ih hn.2 ((List.mem_cons.mp hp).resolve_left hk) ((sendTile_sent_ne hk ..).trans hs)

end

end Sys2Proof.Machine
end

section
/-!
PROOFS. Scan-out of the wall (R319, R321, R325 to R327, R330, R331, R337 to R339).
-/

namespace Sys2Proof.Machine

section
variable {s t a : State} {i : Nat}

theorem passTo_eff (x : Int) (s : State) : (passTo x s).eff = s.eff := by rw [onlyTime_passTo x s]

theorem passTo_wscan (x : Int) (s : State) : (passTo x s).wscan = s.wscan := by rw [onlyTime_passTo x s]

/-! ### Enabling (R321, R325, R326) -/

theorem hbm_setHbm (s : State) (n x y : Nat) : (s.setHbm n x y).xpt.hbm.get (0, 0) n = (x, y) := by
  unfold State.setHbm
  dsimp only
  split
  next h =>
    rw [AMap.get, AMap.find?_erase_same, h.1, h.2]
    rfl
  next => exact AMap.get_set_same ..

theorem scanReserve_only (s : State) : ∃ h, scanReserve s = { s with xpt := { s.xpt with hbm := h } } := by
  unfold scanReserve
  split
  · exact ⟨_, rfl⟩
  · exact ⟨_, rfl⟩

theorem scanReserve_terms (h : s.scanOn = true) : (scanReserve s).xpt.hbm.get (0, 0) 2001 = (scanReserve s).scanTerms := by
  rw [scanReserve, if_pos h]
  exact hbm_setHbm ..

theorem writeScanCfg_enables {v : Word} (hm : F.WSCAN_CFG_SCAN_MARGIN.of v ≤ 1000) (hd : 10 ≤ F.WSCAN_CFG_LATCH_DELAY.of v)
    (hd2 : F.WSCAN_CFG_LATCH_DELAY.of v ≤ 1000) (hofs : (plainWrite .WSCAN_CFG 0 v s).scanOfsOk = true)
    (hports : (plainWrite .WSCAN_CFG 0 v s).portsFit = true) (hfits : (plainWrite .WSCAN_CFG 0 v s).scanFits = true) :
    writeScanCfg v s = scanReserve (plainWrite .WSCAN_CFG 0 v s) := by
  unfold writeScanCfg
  dsimp only
  rw [if_neg]
  simp [hofs, hports, hfits]
  omega

theorem writeScanCfg_rejects {v : Word} (h : 1000 < F.WSCAN_CFG_SCAN_MARGIN.of v ∨ F.WSCAN_CFG_LATCH_DELAY.of v < 10
    ∨ 1000 < F.WSCAN_CFG_LATCH_DELAY.of v) : writeScanCfg v s = s.reject .WSCAN := by
  unfold writeScanCfg
  dsimp only
  rw [if_pos]
  rcases h with h | h | h
  · simp [h]
  · simp [h]
  · simp [h]

theorem writeTileCfg_enables {v : Word} (hoff : s.tileOn i = false) (hon : F.WSCAN_TILE_CFG_EN.of v = 1)
    (hn : ∀ n, n = plainWrite .WSCAN_TILE_CFG i v s → n.footInside i = true ∧ n.lampsClash i = false ∧ n.placeTaken i = false
      ∧ (s.scanOn = true → n.portsFit = true ∧ n.scanFits = true)) :
    writeTileCfg i v s = scanReserve (((plainWrite .WSCAN_TILE_CFG i v s).setReg .WSCAN_TILE_STAT i 1).setTile i .reset) := by
  obtain ⟨hfoot, hlamps, hplace, hfit⟩ := hn _ rfl
  have fits : (s.scanOn && (!(plainWrite .WSCAN_TILE_CFG i v s).portsFit || !(plainWrite .WSCAN_TILE_CFG i v s).scanFits)) = false := by
    cases hs : s.scanOn with
    | false => rfl
    | true => simp [hfit hs]
  unfold writeTileCfg
  simp only [hoff, hon, hfoot, hlamps, hplace, fits, beq_self_eq_true, Bool.not_true, Bool.not_false, Bool.or_false, Bool.and_false,
    Bool.false_and, Bool.true_and, Bool.false_eq_true, if_false, if_true]

theorem writeTileCfg_rejects {v : Word} (hoff : s.tileOn i = false) (hon : F.WSCAN_TILE_CFG_EN.of v = 1)
    (hfoot : (plainWrite .WSCAN_TILE_CFG i v s).footInside i = false) : writeTileCfg i v s = s.reject .WSCAN := by
  unfold writeTileCfg
  simp only [hoff, hon, hfoot, beq_self_eq_true, Bool.not_false, Bool.true_or, Bool.and_true, Bool.or_true, if_true]

/-! ### A band slot (R325, R330, R331) -/

/-- The states `s` and `a` agree on what a tile's frames are made of. -/
structure SameWall (s a : State) : Prop where
  regs : a.regs = s.regs
  eff : a.eff = s.eff
  mem : a.mem = s.mem
  tile : a.wscan.tile = s.wscan.tile

theorem SameWall.of_sends (h : Sends s a) : SameWall s a := by
  obtain ⟨w, q, x, rfl⟩ := h.only
  exact ⟨rfl, rfl, rfl, rfl⟩

theorem SameWall.trans (h : SameWall s t) (g : SameWall t a) : SameWall s a :=
  ⟨g.regs.trans h.regs, g.eff.trans h.eff, g.mem.trans h.mem, g.tile.trans h.tile⟩

theorem SameWall.fld (h : SameWall s a) (f : Fld) (k : Nat) : a.fld f k = s.fld f k := fld_of_regs h.regs f k

theorem SameWall.flag (h : SameWall s a) (f : Fld) (k : Nat) : a.flag f k = s.flag f k := flag_of_regs h.regs f k

theorem SameWall.effFld (h : SameWall s a) (f : Fld) (k : Nat) : a.effFld f k = s.effFld f k := by
  rw [State.effFld, State.effFld, State.effReg, State.effReg, h.eff]

theorem SameWall.load (h : SameWall s a) (x n : Nat) : a.load x n = s.load x n := by rw [State.load, State.load, h.mem]

theorem SameWall.tileState (h : SameWall s a) (k : Nat) : a.tileState k = s.tileState k := h.fld ..

theorem SameWall.tileH (h : SameWall s a) (k : Nat) : a.tileH k = s.tileH k := by rw [State.tileH, State.tileH, h.fld]

theorem SameWall.tileW (h : SameWall s a) (k : Nat) : a.tileW k = s.tileW k := by rw [State.tileW, State.tileW, h.fld]

theorem SameWall.pktLamps (h : SameWall s a) : a.pktLamps = s.pktLamps := by rw [State.pktLamps, State.pktLamps, h.fld]

theorem SameWall.tilesOn (h : SameWall s a) : a.tilesOn = s.tilesOn := by
  have on : a.tileOn = s.tileOn := funext fun k => h.flag F.WSCAN_TILE_CFG_EN k
  rw [State.tilesOn, State.tilesOn, on]

theorem SameWall.tileLink (h : SameWall s a) (p : Nat) : a.tileLink p = s.tileLink p := by
  simp only [State.tileLink, State.tileLane, h.flag, h.fld]

theorem SameWall.lastBand (h : SameWall s a) (k : Nat) : a.lastBand k = s.lastBand k := by
  have turned : a.tileTurned k = s.tileTurned k := by rw [State.tileTurned, State.tileTurned, h.fld]
  have foot : a.footH k = s.footH k := by rw [State.footH, State.footH, turned, h.tileW, h.tileH]
  rw [State.lastBand, State.lastBand, foot, State.bandRows, State.bandRows, h.fld, h.fld]

theorem SameWall.tileSent (h : SameWall s a) (k : Nat) (frame : Word) : a.tileSent k frame = s.tileSent k frame := by
  rw [State.tileSent, State.tileSent, State.tileRun, State.tileRun, h.tileLink, h.tileState, h.fld, h.tile]

/-- The FRAME_CTL of a tile for a frame, with SEQ `q` (R331). -/
def State.ctlFrame (s : State) (i frame q : Nat) : List Byte :=
  tileFrame (tileMac (s.fld F.WSCAN_TILE_CFG_POS i)) (s.fld F.WSCAN_TILE_CFG_PORT i) 3 frame q
    ([0x01#8, BitVec.ofNat 8 (b2n (s.tileState i == 4)), BitVec.ofNat 8 (s.effFld F.WSCAN_CUR_GCC 0)]
      ++ beBytes 1 (s.currentCode i F.IDM_TILE_FACT_FACT_R F.WSCAN_TILE_PCC_UPCC_R)
      ++ beBytes 1 (s.currentCode i F.IDM_TILE_FACT_FACT_G F.WSCAN_TILE_PCC_UPCC_G)
      ++ beBytes 1 (s.currentCode i F.IDM_TILE_FACT_FACT_B F.WSCAN_TILE_PCC_UPCC_B))

/-- A pixel packet of a tile, with SEQ `q` (R330, R335). -/
def State.pixelFrame (s : State) (i frame row c n q : Nat) : List Byte :=
  tileFrame (tileMac (s.fld F.WSCAN_TILE_CFG_POS i)) (s.fld F.WSCAN_TILE_CFG_PORT i) 1 (frame % 65536) q
    (beBytes 2 row ++ beBytes 2 c ++ beBytes 2 n ++ [0#8, 0#8]
      ++ (if s.tileState i = 5 then List.replicate (6 * n) 0#8
          else s.load (s.scanAddr frame (s.fld F.WSCAN_TILE_LC_LCI i + row * s.tileW i + c)) (6 * n)))

theorem SameWall.ctlFrame (h : SameWall s a) (i frame : Nat) : a.ctlFrame i frame = s.ctlFrame i frame := by
  funext q
  simp only [State.ctlFrame, State.currentCode, h.fld, h.effFld, h.tileState]

theorem SameWall.pixelFrame (h : SameWall s a) (i frame row c n : Nat) : a.pixelFrame i frame row c n = s.pixelFrame i frame row c n := by
  funext q
  simp only [State.pixelFrame, State.scanAddr, h.fld, h.tileState, h.tileW, h.load]

theorem hasSent_sendFrameCtl (i frame : Nat) (s : State) :
    (sendFrameCtl i frame s).hasSent (s.fld F.WSCAN_TILE_CFG_PORT i) (s.ctlFrame i frame) := hasSent_sendTile ..

theorem hasSent_sendPixels (i frame row c n : Nat) (s : State) :
    (sendPixels i frame row c n s).hasSent (s.fld F.WSCAN_TILE_CFG_PORT i) (s.pixelFrame i frame row c n) := hasSent_sendTile ..

theorem sends_sendRow (i frame row n : Nat) (l : List Nat) (s : State) :
    Sends s (l.foldl (fun u k => sendPixels i frame row (k * n) (min n (s.tileW i - k * n)) u) s) :=
  sends_foldl (fun _ _ => sends_sendTile ..) l s

theorem sends_sendRows (i frame w n m : Nat) (l : List Nat) (s : State) :
    Sends s (l.foldl (fun u row => (List.range m).foldl (fun u1 k => sendPixels i frame row (k * n) (min n (w - k * n)) u1) u) s) :=
  sends_foldl (fun a _ => sends_foldl (fun _ _ => sends_sendTile ..) _ a) l s

theorem sends_sendTileFrame (i frame : Nat) (s : State) : Sends s (sendTileFrame i frame s) :=
  (sends_sendTile ..).trans (sends_sendRows i frame (s.tileW i) s.pktLamps _ _ _)

theorem hasSent_ctl (i frame : Nat) (s : State) :
    (sendTileFrame i frame s).hasSent (s.fld F.WSCAN_TILE_CFG_PORT i) (s.ctlFrame i (frame % 65536)) :=
  (hasSent_sendFrameCtl ..).mono (sends_sendRows i frame (s.tileW i) s.pktLamps _ _ _)

theorem hasSent_pixels {row k : Nat} (hrow : row < s.tileH i) (hk : k < ceilDiv (s.tileW i) s.pktLamps) (frame : Nat) :
    (sendTileFrame i frame s).hasSent (s.fld F.WSCAN_TILE_CFG_PORT i)
      (s.pixelFrame i frame row (k * s.pktLamps) (min s.pktLamps (s.tileW i - k * s.pktLamps))) := by
  refine hasSent_foldl (fun a _ => sends_foldl (fun _ _ => sends_sendTile ..) _ a) (List.mem_range.mpr hrow) fun b hb => ?_
  refine hasSent_foldl (fun _ _ => sends_sendTile ..) (List.mem_range.mpr hk) fun c hc => ?_
  have same := SameWall.of_sends (((sends_sendTile ..).trans hb).trans hc : Sends s c)
  rw [← same.fld, ← same.pixelFrame]
  exact hasSent_sendPixels ..

/-- The state in which a band slot's tiles are sent. -/
def slotOpened (b : Nat) (f : WallFrame) (s : State) : State :=
  putWallFrame { f with sent := b :: f.sent } (passTo (s.slotStart f b) (clearSent s))

theorem slotOpened_facts (b : Nat) (f : WallFrame) (s : State) : SameWall s (slotOpened b f s) ∧ still s (slotOpened b f s)
    ∧ (slotOpened b f s).wcomp.cur = s.wcomp.cur.map (fun g => if g.frame = f.frame then { f with sent := b :: f.sent } else g)
    ∧ (slotOpened b f s).wcomp.last = s.wcomp.last.map (fun g => if g.frame = f.frame then { f with sent := b :: f.sent } else g) := by
  have wcomp := passTo_wcomp (s.slotStart f b) (clearSent s)
  refine ⟨⟨passTo_regs .., ?_, passTo_mem .., ?_⟩, ⟨passTo_pending .., passTo_mem ..⟩, ?_, ?_⟩
  · exact passTo_eff ..
  · exact (congrArg WscanState.tile (passTo_wscan _ (clearSent s)) :)
  · unfold slotOpened putWallFrame
    rw [wcomp]
    rfl
  · unfold slotOpened putWallFrame
    rw [wcomp]
    rfl

theorem openSlot_opens {frame : Word} {b : Nat} {f : WallFrame} (hf : s.wallFrame frame = some f) (hon : s.scanOn = true)
    (hsent : f.sent.contains b = false) (hb : b < s.bands) :
    openSlot frame b s = ((slotOpened b f s).tilesOn.filter
      (fun k => (slotOpened b f s).lastBand k == b && (slotOpened b f s).tileSent k frame)).foldl
        (fun u k => sendTileFrame k frame.toNat u) (slotOpened b f s) := by
  unfold openSlot
  rw [hf]
  dsimp only
  rw [if_neg (by simp [hon, hb]; simpa using hsent)]
  rfl

theorem wallFrame_put {frame : Word} {f g : WallFrame} (hf : s.wallFrame frame = some f) (hframe : f.frame = frame) (hg : g.frame = frame)
    (hcur : t.wcomp.cur = s.wcomp.cur.map (fun x => if x.frame = f.frame then g else x))
    (hlast : t.wcomp.last = s.wcomp.last.map (fun x => if x.frame = f.frame then g else x)) : t.wallFrame frame = some g := by
  unfold State.wallFrame at hf ⊢
  rw [hcur, hlast, hframe]
  cases hc : s.wcomp.cur with
  | none =>
    rw [hc] at hf
    cases hf
  | some c =>
    rw [hc] at hf
    dsimp only [Option.map_some] at hf ⊢
    by_cases hcf : c.frame = frame
    · rw [if_pos hcf, if_pos hg]
    · rw [if_neg hcf] at hf
      rw [if_neg hcf, if_neg hcf]
      obtain ⟨x, hx, hxf⟩ := Option.bind_eq_some_iff.mp hf
      by_cases hxe : x.frame = frame
      · rw [hx, Option.map_some, Option.bind_some, if_pos hxe, if_pos hg]
      · rw [if_neg hxe] at hxf
        cases hxf

/-! ### The Frame Mark (R325, R331) -/

theorem frameMark_sends {c f : WallFrame} (hc : s.wcomp.cur = some c) (hl : s.wcomp.last = some f) (hon : s.scanOn = true) :
    ∃ u, SameWall s u ∧ still s u ∧ (∀ p, u.wscan.sent.get [] p = [])
      ∧ ∀ d : Nat, (d : Int) = c.shutter + (s.scanOfs : Nat) + (s.fld F.WSCAN_CFG_LATCH_DELAY 0 * 1000 : Nat) →
        frameMark s = ((List.range 128).filter u.tileLink).foldl (fun w p => sendTile p tileAll 2 (f.frame.toNat % 65536)
          (beBytes 6 (d / 1000000000) ++ beBytes 4 (d % 1000000000) ++ beBytes 2 (f.frame.toNat % 65536)) w) u := by
  refine ⟨passTo (c.shutter + (s.scanOfs : Nat)) (clearSent s), ⟨passTo_regs .., passTo_eff .., passTo_mem ..,
    (congrArg WscanState.tile (passTo_wscan _ (clearSent s)) :)⟩, ⟨passTo_pending .., passTo_mem ..⟩, fun p => ?_, fun d hd => ?_⟩
  · exact congrArg (fun w : WscanState => w.sent.get [] p) (passTo_wscan ..)
  · unfold frameMark
    rw [hc, hl]
    dsimp only
    rw [if_neg (by simp [hon]), ← hd, Int.toNat_natCast]

/-! ### Packets not sent (R327) -/

/-- The counts of a packet that a port did not send. -/
def underCounted (p : Nat) (s : State) : State := (s.bump .WSCAN_PORT_UNDER p).setFlag F.WSCAN_PORT_STAT_UNDER_S p true

theorem underCounted_facts (p : Nat) (s : State) : (underCounted p s).flag F.WSCAN_PORT_STAT_UNDER_S p = true
    ∧ (underCounted p s).reg .WSCAN_PORT_UNDER p = BitVec.ofNat 32 (min (2 ^ 32 - 1) ((s.reg .WSCAN_PORT_UNDER p).toNat + 1))
    ∧ regsButAt [.WSCAN_PORT_UNDER, .WSCAN_PORT_STAT] p s (underCounted p s) ∧ (underCounted p s).flt = s.flt
    ∧ still s (underCounted p s) := by
  unfold underCounted
  refine ⟨flag_setFlag_same _ (by decide) rfl p true, ?_, ?_, rfl, rfl, rfl⟩
  · rw [reg_setFlag_apart _ _ _ _ (by decide), reg_bump_same]
  · rw [regsButAt_setFlag (by decide), regsButAt_bump_iff (by decide)]
    exact regsButAt_refl

theorem packetMissed_counts {p : Nat} (hon : s.scanOn = true) (hl : s.tileLink p = true) :
    ∃ t, packetMissed p s = t ∧ t.flag F.WSCAN_PORT_STAT_UNDER_S p = true
      ∧ t.reg .WSCAN_PORT_UNDER p = BitVec.ofNat 32 (min (2 ^ 32 - 1) ((s.reg .WSCAN_PORT_UNDER p).toNat + 1))
      ∧ regsButAt [.WSCAN_PORT_UNDER, .WSCAN_PORT_STAT] p s t ∧ t.flt = s.flt ∧ still s t := by
  obtain ⟨hflag, hreg, hframe, hflt, hpend, hmem⟩ := underCounted_facts p s
  have missed : ∃ w, packetMissed p s = { underCounted p s with wscan := w } := by
    unfold packetMissed
    rw [hon, hl]
    exact ⟨_, rfl⟩
  obtain ⟨w, hw⟩ := missed
  generalize underCounted p s = u at *
  have regs : ({ u with wscan := w } : State).regs = u.regs := rfl
  refine ⟨_, hw, ?_, ?_, regsButAt_trans hframe (regsButAt_of_regs regs), hflt, hpend, hmem⟩
  · rw [flag_of_regs regs, hflag]
  · rw [reg_of_regs regs, hreg]

/-! ### The colour loop (R337) -/

theorem signed_emod (n v : Nat) : signed n v % (2 : Int) ^ n = ((v % 2 ^ n : Nat) : Int) := by
  have hlt : v % 2 ^ n < 2 ^ n := Nat.mod_lt _ (Nat.two_pow_pos n)
  have small : ((v % 2 ^ n : Nat) : Int) % (2 : Int) ^ n = ((v % 2 ^ n : Nat) : Int) :=
    Int.emod_eq_of_lt (Int.natCast_nonneg _) (by exact_mod_cast hlt)
  unfold signed
  dsimp only
  split
  · exact small
  · rw [Nat.cast_pow, Nat.cast_ofNat, Int.sub_emod, Int.emod_self, Int.sub_zero, Int.emod_emod_of_dvd _ (Int.dvd_refl _), small]

theorem unsign_cast (n : Nat) (x : Int) : (unsign n x : Int) = x % (2 : Int) ^ n := by
  rw [unsign, Nat.cast_pow, Nat.cast_ofNat, Int.toNat_of_nonneg (Int.emod_nonneg _ (pow_ne_zero n (by decide)))]

/-- What the loop makes of coefficient `j` of tile `i`. -/
def State.trimStep (s : State) (i k : Nat) : Int :=
  loopStep (s.fld F.WSCAN_TARGET_TARGET (9 * i + k)) (s.sensor i k) (s.fld F.WSCAN_LOOP_CFG_GAIN 0)
    (signed 18 (s.reg .WSCAN_TRIM (9 * i + k)).toNat)

/-- A coefficient's value in a register word. -/
def trimOf (w : Word) : Int := signed 18 w.toNat % 2 ^ 18

theorem trimOf_setFld (j : Nat) (x : Int) (s : State) :
    trimOf ((s.setFld F.WSCAN_TRIM_T_LOOP j (unsign 18 x)).reg .WSCAN_TRIM j) = x % 2 ^ 18 := by
  have field := fld_setFld_same s (f := F.WSCAN_TRIM_T_LOOP) (by decide) j (unsign 18 x)
  have low (u : State) : trimOf (u.reg .WSCAN_TRIM j) = (u.fld F.WSCAN_TRIM_T_LOOP j : Nat) := by
    rw [trimOf, signed_emod, State.fld, bitsOf, Nat.pow_zero, Nat.div_one]
  rw [low, field, Int.natCast_mod, unsign_cast, Nat.cast_pow, Nat.cast_ofNat]
  exact Int.emod_emod_of_dvd _ (Int.dvd_refl _)

/-- From `s` to `a` only coefficients differ. -/
structure TrimsOnly (s a : State) : Prop where
  only : a = { s with regs := a.regs }
  regs : regsBut [.WSCAN_TRIM] s a

theorem trimsOnly_refl (s : State) : TrimsOnly s s := ⟨rfl, regsBut_refl⟩

theorem TrimsOnly.trans (h : TrimsOnly s t) (g : TrimsOnly t a) : TrimsOnly s a :=
  ⟨by have := g.only; rw [h.only] at this; exact this, regsBut_trans h.regs g.regs⟩

/-- One coefficient of tile `i` steps. -/
def stepTrim (i : Nat) (u : State) (k : Nat) : State := u.setFld F.WSCAN_TRIM_T_LOOP (9 * i + k) (unsign 18 (u.trimStep i k))

theorem trimsOnly_stepTrim (i : Nat) (u : State) (k : Nat) : TrimsOnly u (stepTrim i u k) :=
  ⟨rfl, (regsBut_setFld (by decide) ..).2 regsBut_refl⟩

theorem trimStep_congr (h : regsBut [.WSCAN_TRIM] s a) {k : Nat} (hk : a.reg .WSCAN_TRIM (9 * i + k) = s.reg .WSCAN_TRIM (9 * i + k)) :
    a.trimStep i k = s.trimStep i k := by
  have sensor : a.sensor i k = s.sensor i k := by
    unfold State.sensor
    split
    · exact h.fld (by decide) _
    · exact h.fld (by decide) _
  rw [State.trimStep, State.trimStep, hk, sensor, h.fld (by decide), h.fld (by decide)]

/-- The coefficients that the loop reaches step from their old values, and the others stay. -/
theorem stepTrims_facts {l : List Nat} (hn : l.Nodup) (s : State) : TrimsOnly s (l.foldl (stepTrim i) s)
    ∧ (∀ k ∈ l, trimOf ((l.foldl (stepTrim i) s).reg .WSCAN_TRIM (9 * i + k)) = s.trimStep i k % 2 ^ 18)
    ∧ ∀ j, (∀ k ∈ l, j ≠ 9 * i + k) → (l.foldl (stepTrim i) s).reg .WSCAN_TRIM j = s.reg .WSCAN_TRIM j := by
  induction l generalizing s with
  | nil => exact ⟨trimsOnly_refl s, fun k hk => absurd hk (by simp), fun _ _ => rfl⟩
  | cons k l ih =>
    rw [List.nodup_cons] at hn
    obtain ⟨only, hit, miss⟩ := ih hn.2 (stepTrim i s k)
    have elsewhere {j : Nat} (hj : j ≠ 9 * i + k) : (stepTrim i s k).reg .WSCAN_TRIM j = s.reg .WSCAN_TRIM j :=
      reg_setReg_ne _ _ fun _ => hj
    refine ⟨(trimsOnly_stepTrim i s k).trans only, fun m hm => ?_, fun j hj => ?_⟩
    · rcases List.mem_cons.mp hm with rfl | hm
      · rw [List.foldl_cons, miss _ fun x hx he => hn.1 (by rwa [show m = x by omega])]
        exact trimOf_setFld ..
      · have hne : 9 * i + m ≠ 9 * i + k := fun he => hn.1 (by rwa [show k = m by omega])
        rw [List.foldl_cons, hit m hm, trimStep_congr (trimsOnly_stepTrim i s k).regs (elsewhere hne)]
    · rw [List.foldl_cons, miss j fun x hx => hj x (List.mem_cons_of_mem _ hx), elsewhere (hj k List.mem_cons_self)]

/-- The loop acts on tile `i`. -/
def State.loopActs (s : State) (i : Nat) : Prop :=
  s.tileState i = 4 ∧ s.flag F.WSCAN_TARGET_VALID (9 * i) = true ∧ (s.tileRun i).sensed = true

theorem loopActs_congr (h : TrimsOnly s a) (k : Nat) : a.loopActs k ↔ s.loopActs k := by
  have run : a.tileRun k = s.tileRun k := (congrArg (fun u : State => u.tileRun k) h.only :)
  rw [State.loopActs, State.loopActs, State.tileState, State.tileState, State.flag, State.flag, h.regs.fld (by decide), h.regs.fld (by decide), run]

theorem loopTile_acts (h : s.loopActs i) : loopTile s i = (List.range 9).foldl (stepTrim i) s := if_pos h

theorem loopTile_rests (h : ¬ s.loopActs i) : loopTile s i = s := if_neg h

/-- A coefficient of a tile that the loop acts on steps, one of another tile stays (R337). -/
def trimLooped (s a : State) (i k : Nat) : Prop :=
  (s.loopActs i → trimOf (a.reg .WSCAN_TRIM (9 * i + k)) = s.trimStep i k % 2 ^ 18)
    ∧ (¬ s.loopActs i → a.reg .WSCAN_TRIM (9 * i + k) = s.reg .WSCAN_TRIM (9 * i + k))

theorem loopTile_facts (i : Nat) (s : State) : TrimsOnly s (loopTile s i) ∧ (∀ k, k < 9 → trimLooped s (loopTile s i) i k)
    ∧ ∀ j k, j ≠ i → k < 9 → (loopTile s i).reg .WSCAN_TRIM (9 * j + k) = s.reg .WSCAN_TRIM (9 * j + k) := by
  by_cases h : s.loopActs i
  · rw [loopTile_acts h]
    obtain ⟨only, hit, miss⟩ := stepTrims_facts (i := i) (List.nodup_range (n := 9)) s
    exact ⟨only, fun k hk => ⟨fun _ => hit k (List.mem_range.mpr hk), fun hn => absurd h hn⟩,
      fun j k hj hk => miss _ fun m hm => by rw [List.mem_range] at hm; omega⟩
  · rw [loopTile_rests h]
    exact ⟨trimsOnly_refl s, fun k _ => ⟨fun ha => absurd ha h, fun _ => rfl⟩, fun _ _ _ _ => rfl⟩

theorem loopTiles_facts {l : List Nat} (hn : l.Nodup) (s : State) : TrimsOnly s (l.foldl loopTile s)
    ∧ (∀ i ∈ l, ∀ k, k < 9 → trimLooped s (l.foldl loopTile s) i k)
    ∧ ∀ i, i ∉ l → ∀ k, k < 9 → (l.foldl loopTile s).reg .WSCAN_TRIM (9 * i + k) = s.reg .WSCAN_TRIM (9 * i + k) := by
  induction l generalizing s with
  | nil => exact ⟨trimsOnly_refl s, fun i hi => absurd hi (by simp), fun _ _ _ _ => rfl⟩
  | cons m l ih =>
    rw [List.nodup_cons] at hn
    obtain ⟨first, looped, others⟩ := loopTile_facts m s
    obtain ⟨rest, hit, miss⟩ := ih hn.2 (loopTile s m)
    refine ⟨first.trans rest, fun i hi k hk => ?_, fun i hi k hk => ?_⟩
    · rcases List.mem_cons.mp hi with rfl | hi
      · rw [trimLooped, List.foldl_cons, miss i hn.1 k hk]
        exact looped k hk
      · have hne : i ≠ m := fun he => hn.1 (he ▸ hi)
        obtain ⟨acts, rests⟩ := hit i hi k hk
        rw [loopActs_congr first, others i k hne hk] at rests
        rw [loopActs_congr first, trimStep_congr first.regs (others i k hne hk)] at acts
        exact ⟨acts, rests⟩
    · rw [List.mem_cons, not_or] at hi
      rw [List.foldl_cons, miss i hi.2 k hk, others i k hi.1 hk]

/-- The state after a tick of the loop at `at_`. -/
def loopTicked (at_ : Int) (s : State) : State :=
  { s with wscan := { s.wscan with loopAt := at_, tile := s.wscan.tile.map (fun _ x => { x with sensed := false }) } }

theorem loopTick_ticks {f : FrameTimes} (hl : (s.tdOf s.wallTd).last = some f) (hon : s.flag F.WSCAN_CFG_LOOP_EN 0 = true)
    (hlt : s.wscan.loopAt / 6000000000 < f.shutter / 6000000000) : loopTick s = loopTicked f.shutter (s.tilesOn.foldl loopTile s) := by
  unfold loopTick
  rw [hl]
  dsimp only
  rw [if_pos (by simp [hon, hlt])]
  rfl

/-! ### Proof signatures (R338, R339) -/

theorem regionProof_off (h : s.flag F.WSCAN_REG_SIZE_EN i = false) (b : Bool) : regionProof i b s = s := by
  unfold regionProof
  split
  · rfl
  · exact if_pos (by rw [h]; rfl)

/-- The state in which a region's signature and its run are noted. -/
def proofNoted (i : Nat) (f : WallFrame) (sig : Nat) (s : State) : State :=
  (s.setReg .WSCAN_REG_SIG i (BitVec.ofNat 32 sig)).setProof i ⟨f.frame.toNat, true⟩

theorem proofNoted_facts (i : Nat) (f : WallFrame) (sig : Nat) (s : State) :
    (proofNoted i f sig s).reg .WSCAN_REG_SIG i = BitVec.ofNat 32 sig
      ∧ (∀ r, r ≠ .WSCAN_REG_SIG → ∀ j, (proofNoted i f sig s).reg r j = s.reg r j)
      ∧ regsButAt [.WSCAN_REG_SIG] i s (proofNoted i f sig s) ∧ (proofNoted i f sig s).flt = s.flt ∧ still s (proofNoted i f sig s) := by
  have frame : regsButAt [.WSCAN_REG_SIG] i s (s.setReg .WSCAN_REG_SIG i (BitVec.ofNat 32 sig)) :=
    (regsButAt_setReg_iff (by decide) _).2 regsButAt_refl
  exact ⟨reg_setReg_same s .WSCAN_REG_SIG i _, fun r hr j => reg_setReg_ne s _ fun h => absurd h hr, frame, rfl, rfl, rfl⟩

theorem regionProof_closes {f : WallFrame} (hc : s.wcomp.cur = some f) (hen : s.flag F.WSCAN_REG_SIZE_EN i = true) :
    regionProof i false s = proofNoted i f (s.regionSig i f) (proofCompare F.WSCAN_REG_STAT_FROZEN F.WSCAN_REG_STAT_COUNT i
      (!(s.wscan.proof.get ⟨0, false⟩ i).taken) (s.reg .WSCAN_REG_SIG i).toNat (s.regionSig i f)
      (f.layers.any (fun x => s.wscan.advanced.contains x.idx && s.layerMeets x.set i)) s) := by
  unfold regionProof
  rw [if_neg (by decide), hc]
  dsimp only
  rw [if_neg (by simp [hen]), if_neg (by decide)]
  rfl

theorem proofCompare_differs {fresh : Bool} {old new : Nat} (h : old ≠ new) (adv : Bool) :
    proofCompare F.WSCAN_REG_STAT_FROZEN F.WSCAN_REG_STAT_COUNT i fresh old new adv s
      = s.setFlds i [(F.WSCAN_REG_STAT_COUNT, 0), (F.WSCAN_REG_STAT_FROZEN, 0)] := by
  unfold proofCompare
  rw [if_pos (by simp [h])]

theorem proofCompare_counts (sig : Nat) (s : State) :
    ∃ t, proofCompare F.WSCAN_REG_STAT_FROZEN F.WSCAN_REG_STAT_COUNT i false sig sig true s = t
      ∧ t.fld F.WSCAN_REG_STAT_COUNT i = min 255 (s.fld F.WSCAN_REG_STAT_COUNT i + 1)
      ∧ (t.fld F.WSCAN_REG_STAT_COUNT i = s.fld F.WSCAN_FREEZE_FREEZE_FRAMES 0 → t.flag F.WSCAN_REG_STAT_FROZEN i = true)
      ∧ regsButAt [.WSCAN_REG_STAT] i s t ∧ onlyRegs s t := by
  have count (n : Nat) (hn : n < 256) : (s.setFld F.WSCAN_REG_STAT_COUNT i n).fld F.WSCAN_REG_STAT_COUNT i = n :=
    (fld_setFld_same s (by decide) i n).trans (Nat.mod_eq_of_lt hn)
  have frozen (n : Nat) : (s.setFld F.WSCAN_REG_STAT_COUNT i n).flag F.WSCAN_REG_STAT_FROZEN i = s.flag F.WSCAN_REG_STAT_FROZEN i :=
    flag_setFld_apart s (by decide) (by decide) ..
  have frame (n : Nat) : regsButAt [.WSCAN_REG_STAT] i s (s.setFld F.WSCAN_REG_STAT_COUNT i n) :=
    (regsButAt_setFld (by decide) _).2 regsButAt_refl
  refine ⟨_, rfl, ?_⟩
  unfold proofCompare
  rw [if_neg (by simp), if_neg (by decide)]
  dsimp only
  generalize hn : min 255 (s.fld F.WSCAN_REG_STAT_COUNT i + 1) = n
  have lt : n < 256 := by omega
  split
  next h =>
    refine ⟨?_, fun _ => ?_, ?_, ?_⟩
    · rw [fld_raise, fld_setFlag_apart _ (by decide) (by decide), count n lt]
    · rw [flag_raise, flag_setFlag_same _ (by decide) rfl]
    · rw [regsButAt_raise, regsButAt_setFlag (by decide)]
      exact frame n
    · rw [onlyRegs_raise_iff, onlyRegs_setFlag_iff]
      exact onlyRegs_setFld ..
  next h =>
    refine ⟨count n lt, fun he => ?_, frame n, onlyRegs_setFld ..⟩
    rw [count n lt] at he
    rw [frozen]
    simpa [he] using h

end

section
variable {s : State}

theorem scanEnable_facts {v : Word} (hm : F.WSCAN_CFG_SCAN_MARGIN.of v ≤ 1000) (hd : 10 ≤ F.WSCAN_CFG_LATCH_DELAY.of v)
    (hd2 : F.WSCAN_CFG_LATCH_DELAY.of v ≤ 1000)
    (hn : ∀ n, n = plainWrite .WSCAN_CFG 0 (v ||| 1#32) s → n.scanOfsOk = true ∧ n.portsFit = true ∧ n.scanFits = true) :
    ∃ t, exec (.scanEnable v) s = .next t ∧ t.scanOn = true ∧ t.fld F.WSCAN_CFG_SCAN_MARGIN 0 = F.WSCAN_CFG_SCAN_MARGIN.of v
      ∧ t.fld F.WSCAN_CFG_LATCH_DELAY 0 = F.WSCAN_CFG_LATCH_DELAY.of v ∧ t.xpt.hbm.get (0, 0) 2001 = t.scanTerms
      ∧ regsButAt [.WSCAN_CFG] 0 s t ∧ t.flt = s.flt ∧ still s t := by
  obtain ⟨hofs, hports, hfits⟩ := hn _ rfl
  have margin : F.WSCAN_CFG_SCAN_MARGIN.of (v ||| 1#32) = F.WSCAN_CFG_SCAN_MARGIN.of v := Fld.of_or_one (by decide) v
  have delay : F.WSCAN_CFG_LATCH_DELAY.of (v ||| 1#32) = F.WSCAN_CFG_LATCH_DELAY.of v := Fld.of_or_one (by decide) v
  have enables := writeScanCfg_enables (s := s) (v := v ||| 1#32) (by rw [margin]; exact hm) (by rw [delay]; exact hd)
    (by rw [delay]; exact hd2) hofs hports hfits
  have on : (plainWrite .WSCAN_CFG 0 (v ||| 1#32) s).scanOn = true := by
    rw [State.scanOn, State.flag, fld_plainWrite (f := F.WSCAN_CFG_EN) rfl (by decide), Fld.of_or_bit rfl (by decide)]
    rfl
  obtain ⟨x, hx⟩ := scanReserve_only (plainWrite .WSCAN_CFG 0 (v ||| 1#32) s)
  have regs : (scanReserve (plainWrite .WSCAN_CFG 0 (v ||| 1#32) s)).regs = (plainWrite .WSCAN_CFG 0 (v ||| 1#32) s).regs := by rw [hx]
  refine ⟨_, congrArg Host.Outcome.next enables, ?_, ?_, ?_, scanReserve_terms on, ?_, ?_, ?_, ?_⟩
  · rw [State.scanOn, flag_of_regs regs]
    exact on
  · rw [fld_of_regs regs, fld_plainWrite (f := F.WSCAN_CFG_SCAN_MARGIN) rfl (by decide), margin]
  · rw [fld_of_regs regs, fld_plainWrite (f := F.WSCAN_CFG_LATCH_DELAY) rfl (by decide), delay]
  · exact regsButAt_trans ((regsButAt_plainWrite rfl (by decide) _ _).2 regsButAt_refl) (regsButAt_of_regs regs)
  · rw [hx]
    exact plainWrite_flt ..
  · rw [hx]
    exact plainWrite_pending ..
  · rw [hx]
    exact plainWrite_mem ..

theorem tileEnable_facts {i : Fin 1024} {v : Word} (hoff : s.tileOn i = false)
    (hn : ∀ n, n = plainWrite .WSCAN_TILE_CFG i (v ||| 1#32) s → n.footInside i = true ∧ n.lampsClash i = false
      ∧ n.placeTaken i = false ∧ (s.scanOn = true → n.portsFit = true ∧ n.scanFits = true)) :
    ∃ t, exec (.tileEnable i v) s = .next t ∧ t.tileOn i = true ∧ t.tileState i = 1 ∧ t.tileRun i = .reset
      ∧ t.fld F.WSCAN_TILE_CFG_PORT i = F.WSCAN_TILE_CFG_PORT.of v ∧ t.fld F.WSCAN_TILE_CFG_POS i = F.WSCAN_TILE_CFG_POS.of v
      ∧ t.fld F.WSCAN_TILE_CFG_ORIENT i = F.WSCAN_TILE_CFG_ORIENT.of v ∧ t.fld F.WSCAN_TILE_CFG_MIRROR i = F.WSCAN_TILE_CFG_MIRROR.of v
      ∧ regsButAt [.WSCAN_TILE_CFG, .WSCAN_TILE_STAT] i s t ∧ t.flt = s.flt ∧ still s t := by
  have on : F.WSCAN_TILE_CFG_EN.of (v ||| 1#32) = 1 := Fld.of_or_bit rfl (by decide) v
  have enables := writeTileCfg_enables hoff on hn
  generalize hw : ((plainWrite .WSCAN_TILE_CFG i (v ||| 1#32) s).setReg .WSCAN_TILE_STAT i 1).setTile i .reset = w at enables
  have written {f : Fld} (hf : f.reg = .WSCAN_TILE_CFG) (hk : f.reg.info.kind = .plain) (ht : f.takesWrite = true) : w.fld f i = f.of (v ||| 1#32) := by
    have kept : w.reg f.reg i = (plainWrite f.reg i (v ||| 1#32) s).reg f.reg i := by
      rw [← hw, hf]
      exact reg_setReg_ne _ _ fun h => absurd h (by decide)
    rw [fld_eq, kept, ← fld_eq, fld_plainWrite hk ht]
  obtain ⟨x, hx⟩ := scanReserve_only w
  have regs : (scanReserve w).regs = w.regs := by rw [hx]
  refine ⟨_, congrArg Host.Outcome.next enables, ?_, ?_, ?_, ?_, ?_, ?_, ?_, ?_, ?_, ?_, ?_⟩
  · rw [State.tileOn, State.flag, fld_of_regs regs, written rfl rfl (by decide), on]
    rfl
  · rw [State.tileState, fld_of_regs regs, ← hw, fld_eq]
    exact congrArg F.WSCAN_TILE_STAT_STATE.of (reg_setReg_same (plainWrite .WSCAN_TILE_CFG i (v ||| 1#32) s) .WSCAN_TILE_STAT i 1)
  · rw [hx, ← hw]
    exact AMap.get_set_same ..
  · rw [fld_of_regs regs, written rfl rfl (by decide), Fld.of_or_one (by decide)]
  · rw [fld_of_regs regs, written rfl rfl (by decide), Fld.of_or_one (by decide)]
  · rw [fld_of_regs regs, written rfl rfl (by decide), Fld.of_or_one (by decide)]
  · rw [fld_of_regs regs, written rfl rfl (by decide), Fld.of_or_one (by decide)]
  · refine regsButAt_trans (t := (plainWrite .WSCAN_TILE_CFG i (v ||| 1#32) s).setReg .WSCAN_TILE_STAT i 1) ?_ (regsButAt_of_regs ?_)
    · rw [regsButAt_setReg_iff (by decide), regsButAt_plainWrite rfl (by decide)]
      exact regsButAt_refl
    · rw [regs, ← hw]
      rfl
  · rw [hx, ← hw]
    exact plainWrite_flt ..
  · rw [hx, ← hw]
    exact plainWrite_pending ..
  · rw [hx, ← hw]
    exact plainWrite_mem ..

theorem bandSlot_facts {frame : Word} {band : Nat} {f : WallFrame} (hf : s.wallFrame frame = some f) (hframe : f.frame = frame)
    (hon : s.scanOn = true) (hsent : f.sent.contains band = false) (hb : band < s.bands) :
    ∃ t g, exec (.bandSlot frame band) s = .next t ∧ t.wallFrame frame = some g ∧ g.sent = band :: f.sent ∧ t.regs = s.regs ∧ still s t
      ∧ ∀ i, i ∈ s.tilesOn → s.lastBand i = band → s.tileSent i frame = true →
        t.hasSent (s.fld F.WSCAN_TILE_CFG_PORT i) (s.ctlFrame i (frame.toNat % 65536))
        ∧ ∀ row, row < s.tileH i → ∀ k, k < ceilDiv (s.tileW i) s.pktLamps → t.hasSent (s.fld F.WSCAN_TILE_CFG_PORT i)
          (s.pixelFrame i frame.toNat row (k * s.pktLamps) (min s.pktLamps (s.tileW i - k * s.pktLamps))) := by
  have opens := openSlot_opens hf hon hsent hb
  obtain ⟨same, calm, cur, last⟩ := slotOpened_facts band f s
  generalize slotOpened band f s = u at opens same calm cur last
  generalize hl : u.tilesOn.filter (fun k => u.lastBand k == band && u.tileSent k frame) = l at opens
  have sends : Sends u (l.foldl (fun w k => sendTileFrame k frame.toNat w) u) := sends_foldl (fun _ _ => sends_sendTileFrame ..) l u
  refine ⟨_, { f with sent := band :: f.sent }, congrArg Host.Outcome.next opens, ?_, rfl, sends.regs.trans same.regs, ?_, fun i hi hlast ht => ?_⟩
  · obtain ⟨w, q, x, hx⟩ := sends.only
    rw [hx]
    exact wallFrame_put (t := u) hf hframe hframe cur last
  · exact ⟨sends.still.1.trans calm.1, sends.still.2.trans calm.2⟩
  · have mem : i ∈ l := by
      rw [← hl, List.mem_filter, same.tilesOn, same.lastBand, same.tileSent]
      exact ⟨hi, by simp [hlast, ht]⟩
    refine ⟨hasSent_foldl (fun _ _ => sends_sendTileFrame ..) mem fun a ha => ?_, fun row hrow k hk =>
      hasSent_foldl (fun _ _ => sends_sendTileFrame ..) mem fun a ha => ?_⟩
    · have all := same.trans (SameWall.of_sends ha)
      rw [← all.fld, ← all.ctlFrame]
      exact hasSent_ctl ..
    · have all := same.trans (SameWall.of_sends ha)
      rw [← all.fld, ← all.pixelFrame, ← all.tileW, ← all.pktLamps]
      exact hasSent_pixels (by rw [all.tileH]; exact hrow) (by rw [all.tileW, all.pktLamps]; exact hk) _

theorem colourLoop_facts {f : FrameTimes} (hl : (s.tdOf s.wallTd).last = some f) (hon : s.flag F.WSCAN_CFG_LOOP_EN 0 = true)
    (hlt : s.wscan.loopAt / 6000000000 < f.shutter / 6000000000) :
    ∃ t, exec .colourLoopTick s = .next t ∧ t.wscan.loopAt = f.shutter
      ∧ (∀ i k, i < 1024 → k < 9 → signed 18 (t.reg .WSCAN_TRIM (9 * i + k)).toNat % 2 ^ 18 =
          (if s.tileOn i = true ∧ s.tileState i = 4 ∧ s.flag F.WSCAN_TARGET_VALID (9 * i) = true ∧ (s.tileRun i).sensed = true then
            loopStep (s.fld F.WSCAN_TARGET_TARGET (9 * i + k)) (s.sensor i k) (s.fld F.WSCAN_LOOP_CFG_GAIN 0)
              (signed 18 (s.reg .WSCAN_TRIM (9 * i + k)).toNat)
          else signed 18 (s.reg .WSCAN_TRIM (9 * i + k)).toNat) % 2 ^ 18)
      ∧ regsBut [.WSCAN_TRIM] s t ∧ t.flt = s.flt ∧ still s t := by
  obtain ⟨only, hit, miss⟩ := loopTiles_facts ((List.nodup_range (n := 1024)).filter s.tileOn) s
  have ticks := loopTick_ticks hl hon hlt
  rw [State.tilesOn] at ticks
  generalize ((List.range 1024).filter s.tileOn).foldl loopTile s = u at only hit miss ticks
  refine ⟨_, congrArg Host.Outcome.next ticks, rfl, fun i k hi hk => ?_, only.regs, (congrArg State.flt only.only :),
    (congrArg State.pending only.only :), (congrArg State.mem only.only :)⟩
  have word : (loopTicked f.shutter u).reg .WSCAN_TRIM (9 * i + k) = u.reg .WSCAN_TRIM (9 * i + k) := rfl
  rw [word]
  by_cases h : s.tileOn i = true
  · obtain ⟨acts, rests⟩ := hit i (List.mem_filter.mpr ⟨List.mem_range.mpr hi, h⟩) k hk
    by_cases ha : s.loopActs i
    · rw [if_pos ⟨h, ha⟩]
      exact acts ha
    · rw [if_neg fun hc => ha hc.2, rests ha]
  · rw [if_neg fun hc => h hc.1, miss i (fun hm => h (List.mem_filter.mp hm).2) k hk]

end

/-- Settles O47: frames join their port's frames and no event takes one back; each coefficient's step reads its own old value alone. -/
theorem scanOutSendsTheWall : Obligations.ScanOutSendsTheWall := by
  refine ⟨fun v s hm hd hd2 hn => scanEnable_facts hm hd hd2 hn, fun v s h => ?_, fun i v s hoff hn => tileEnable_facts hoff hn,
    fun i v s hoff hn => ?_, fun frame band f s hf hframe hon hsent hb => ?_, fun p s hon hl => ?_, fun c f d s hc hl hon hd => ?_,
    fun f s hl hon hlt => colourLoop_facts hl hon hlt, fun r f s hc hen hne => ?_, fun r f x s hc hen heq htaken hx hadv hmeet => ?_,
    fun r b s hen => congrArg Host.Outcome.next (regionProof_off hen b)⟩
  · have margin : F.WSCAN_CFG_SCAN_MARGIN.of (v ||| 1#32) = F.WSCAN_CFG_SCAN_MARGIN.of v := Fld.of_or_one (by decide) v
    have delay : F.WSCAN_CFG_LATCH_DELAY.of (v ||| 1#32) = F.WSCAN_CFG_LATCH_DELAY.of v := Fld.of_or_one (by decide) v
    exact ⟨_, congrArg Host.Outcome.next (writeScanCfg_rejects (by rw [margin, delay]; exact h)), reject_regs .., isSet_reject ..,
      onlyRegs_reject ..⟩
  · exact ⟨_, congrArg Host.Outcome.next (writeTileCfg_rejects hoff (Fld.of_or_bit rfl (by decide) v) (hn _ rfl)), reject_regs ..,
      isSet_reject .., onlyRegs_reject ..⟩
  · obtain ⟨t, g, hexec, hwall, hg, hregs, hstill, hsends⟩ := bandSlot_facts hf hframe hon hsent hb
    refine ⟨t, g, hexec, hwall, hg, hregs, hstill, fun i hi hlast ht => ?_⟩
    obtain ⟨ctl, pixels⟩ := hsends i hi hlast ht
    refine ⟨ctl, fun row hrow k hk c n hc hn => ?_⟩
    subst hn hc
    exact pixels row hrow k hk
  · obtain ⟨t, ht, facts⟩ := packetMissed_counts hon hl
    exact ⟨t, congrArg Host.Outcome.next ht, facts⟩
  · obtain ⟨u, same, calm, empty, sends⟩ := frameMark_sends hc hl hon
    have sent := sends_foldl (fun w p => sends_sendTile p tileAll 2 (f.frame.toNat % 65536)
      (beBytes 6 (d / 1000000000) ++ beBytes 4 (d % 1000000000) ++ beBytes 2 (f.frame.toNat % 65536)) w) ((List.range 128).filter u.tileLink) u
    refine ⟨_, congrArg Host.Outcome.next (sends d hd), sent.regs.trans same.regs,
      ⟨sent.still.1.trans calm.1, sent.still.2.trans calm.2⟩, fun p hp hlink => ?_⟩
    exact sent_foldl_sendTile ((List.nodup_range (n := 128)).filter _)
      (List.mem_filter.mpr ⟨List.mem_range.mpr hp, by rw [same.tileLink]; exact hlink⟩) (empty p)
  · have closes := regionProof_closes hc hen
    rw [proofCompare_differs hne] at closes
    generalize hz : s.setFlds r [(F.WSCAN_REG_STAT_COUNT, 0), (F.WSCAN_REG_STAT_FROZEN, 0)] = z at closes
    obtain ⟨hsig, hother, hframe, hflt, hstill⟩ := proofNoted_facts r f (s.regionSig r f) z
    have zframe : regsButAt [.WSCAN_REG_STAT] r s z := by
      rw [← hz, regsButAt_setFlds _ (by simp)]
      exact regsButAt_refl
    refine ⟨_, congrArg Host.Outcome.next closes, hsig, ?_, ?_, regsButAt_trans (regsButAt_mono (by decide) zframe)
      (regsButAt_mono (by decide) hframe), ?_, ?_⟩
    · rw [fld_eq, hother _ (by decide), ← fld_eq, ← hz]
      simp (disch := decide) only [State.setFlds, fld_setFld_apart, fld_setFld_same]
      rfl
    · rw [State.flag, fld_eq, hother _ (by decide), ← fld_eq, ← hz]
      simp (disch := decide) only [State.setFlds, fld_setFld_same]
      rfl
    · rw [hflt, ← hz, setFlds_flt]
    · rw [← hz] at hstill ⊢
      exact hstill
  · have closes := regionProof_closes hc hen
    have moved : f.layers.any (fun y => s.wscan.advanced.contains y.idx && s.layerMeets y.set r) = true :=
      List.any_eq_true.mpr ⟨x, hx, by simp [hadv, hmeet]⟩
    obtain ⟨z, hz, hcount, hfrozen, zframe, zonly⟩ := proofCompare_counts (i := r) (s.regionSig r f) s
    rw [moved, heq, htaken] at closes
    rw [Bool.not_true, hz] at closes
    obtain ⟨hsig, hother, hframe, hflt, hstill⟩ := proofNoted_facts r f (s.regionSig r f) z
    have kept {g : Fld} (hg : g.reg = .WSCAN_REG_STAT) : (proofNoted r f (s.regionSig r f) z).fld g r = z.fld g r := by
      rw [fld_eq, hother _ (by rw [hg]; decide), ← fld_eq]
    refine ⟨_, congrArg Host.Outcome.next closes, (kept rfl).trans hcount, fun he => ?_, regsButAt_trans (regsButAt_mono (by decide) zframe)
      (regsButAt_mono (by decide) hframe), hstill.1.trans (congrArg State.pending zonly :), hstill.2.trans (congrArg State.mem zonly :)⟩
    rw [State.flag, kept rfl]
    exact hfrozen ((kept rfl).symm.trans he)

end Sys2Proof.Machine
end

section
/-!
SUPPORT. What a tile's report does to its state and its registers (R330 to R332, R335, R342).
-/

namespace Sys2Proof.Machine

section
variable {s t u : State} {i p : Nat} {b : List Byte}

theorem beNat_lt (bs : List Byte) : beNat bs < 2 ^ (8 * bs.length) := by
  have le (l : List Byte) : leNat l < 2 ^ (8 * l.length) := by
    induction l with
    | nil => decide
    | cons x l ih =>
      have hx : x.toNat < 2 ^ 8 := x.isLt
      rw [leNat, List.length_cons, Nat.mul_add, Nat.mul_one, Nat.pow_add]
      omega
  rw [beNat, ← List.length_reverse]
  exact le bs.reverse

theorem fieldAt_lt (bs : List Byte) (a n : Nat) : fieldAt bs a n < 2 ^ (8 * n) :=
  Nat.lt_of_lt_of_le (beNat_lt _) (Nat.pow_le_pow_right (by decide) (Nat.mul_le_mul_left 8 (List.length_take_le ..)))

/-- From `s` to `t` only registers differ. -/
def regsOnly (s t : State) : Prop := t = { s with regs := t.regs }

theorem regsOnly_refl (s : State) : regsOnly s s := rfl

theorem regsOnly.trans (h : regsOnly s t) (g : regsOnly t u) : regsOnly s u := by
  unfold regsOnly at h g ⊢
  rw [h] at g
  exact g

theorem regsOnly_setReg (r : RegName) (j : Nat) (v : Word) (s : State) : regsOnly s (s.setReg r j v) := rfl

theorem regsOnly.flt (h : regsOnly s t) : t.flt = s.flt := (congrArg State.flt h :)

theorem regsOnly.wscan (h : regsOnly s t) : t.wscan = s.wscan := (congrArg State.wscan h :)

theorem regsOnly.still (h : regsOnly s t) : still s t := ⟨(congrArg State.pending h :), (congrArg State.mem h :)⟩

/-! ### The tile's state -/

theorem tileRun_setTile (s : State) (i : Nat) (x : TileRun) : (s.setTile i x).tileRun i = x := AMap.get_set_same ..

theorem tileRun_setTile_ne {j : Nat} (h : j ≠ i) (x : TileRun) (s : State) : (s.setTile i x).tileRun j = s.tileRun j := AMap.get_set_ne _ _ _ h

theorem tileAt_facts {pos : Nat} (h : s.tileAt p pos = some i) :
    s.fld F.WSCAN_TILE_CFG_PORT i = p ∧ s.fld F.WSCAN_TILE_CFG_POS i = pos := by
  simpa using List.find?_some h

/-- A tile that enters FAULT (R332). -/
theorem tileFaults_facts (i : Nat) (s : State) : (tileFaults i s).tileState i = 7 ∧ ((tileFaults i s).tileRun i).load = none
    ∧ (tileFaults i s).isSet Src.WSCAN_TILE_FAULT = true ∧ regsButAt [.WSCAN_TILE_STAT] i s (tileFaults i s) ∧ still s (tileFaults i s) := by
  have regs : (tileFaults i s).regs = (s.setTileState i 7).regs := raise_regs ..
  refine ⟨?_, ?_, isSet_raise_same _ (by decide), ?_, ?_, ?_⟩
  · rw [State.tileState, fld_of_regs regs]
    exact (fld_setFld_same s (by decide) i 7).trans rfl
  · rw [State.tileRun, tileFaults, raise_wscan]
    exact congrArg TileRun.load (AMap.get_set_same ..)
  · exact regsButAt_trans ((regsButAt_setFld (by decide) 7).2 regsButAt_refl) (regsButAt_of_regs regs)
  · exact raise_pending ..
  · exact raise_mem ..

/-- A tile that goes to SYNCING (R332). -/
theorem tileToSync_facts (i : Nat) (s : State) : (tileToSync i s).tileState i = 3 ∧ ((tileToSync i s).tileRun i).inSync = 0
    ∧ regsButAt [.WSCAN_TILE_STAT] i s (tileToSync i s) ∧ (tileToSync i s).flt = s.flt ∧ still s (tileToSync i s) := by
  have frame : regsButAt [.WSCAN_TILE_STAT] i s (s.setTileState i 3) := (regsButAt_setFld (by decide) 3).2 regsButAt_refl
  exact ⟨(fld_setFld_same s (by decide) i 3).trans rfl, congrArg TileRun.inSync (AMap.get_set_same ..), frame, rfl, rfl, rfl⟩

/-! ### What STATUS shows (R330, R342) -/

/-- The registers that a STATUS report shows a tile by. -/
def reportRegs : List RegName := [.WSCAN_TILE_STAT, .WSCAN_TILE_PTPOFS, .WSCAN_SENSOR]

/-- What a report's flags and offset show. -/
def flagsShown (i : Nat) (b : List Byte) (s : State) : State :=
  (if bit (fieldAt b 2 2) 3 then (s.setFlds i [(F.WSCAN_TILE_STAT_DRIVE_ON, b2n (bit (fieldAt b 2 2) 0)),
      (F.WSCAN_TILE_STAT_SENSOR_VALID, b2n (bit (fieldAt b 2 2) 2)), (F.WSCAN_TILE_STAT_TEMP, fieldAt b 4 2)]).setFlag F.WSCAN_TILE_STAT_MISSED_S i true
    else s.setFlds i [(F.WSCAN_TILE_STAT_DRIVE_ON, b2n (bit (fieldAt b 2 2) 0)),
      (F.WSCAN_TILE_STAT_SENSOR_VALID, b2n (bit (fieldAt b 2 2) 2)), (F.WSCAN_TILE_STAT_TEMP, fieldAt b 4 2)]).setReg .WSCAN_TILE_PTPOFS i
    (BitVec.ofNat 32 (fieldAt b 6 4))

theorem flagsShown_facts (i : Nat) (b : List Byte) (s : State) : (flagsShown i b s).tileState i = s.tileState i
    ∧ (flagsShown i b s).fld F.WSCAN_TILE_STAT_TEMP i = fieldAt b 4 2
    ∧ (flagsShown i b s).reg .WSCAN_TILE_PTPOFS i = BitVec.ofNat 32 (fieldAt b 6 4)
    ∧ regsBut reportRegs s (flagsShown i b s) ∧ regsOnly s (flagsShown i b s) := by
  have temp : fieldAt b 4 2 % 2 ^ 16 = fieldAt b 4 2 := Nat.mod_eq_of_lt (fieldAt_lt b 4 2)
  have apart {f : Fld} (hf : f.reg = .WSCAN_TILE_STAT) (a : State) (v : Word) : (a.setReg .WSCAN_TILE_PTPOFS i v).fld f i = a.fld f i := by
    rw [fld_eq, reg_setReg_ne _ _ (fun h => absurd h (by rw [hf]; decide)), ← fld_eq]
  unfold flagsShown
  refine ⟨?_, ?_, reg_setReg_same .., ?_, ?_⟩
  · rw [State.tileState, apart rfl]
    split
    · simp (disch := decide) only [State.setFlag, State.setFlds, fld_setFld_apart]
      rfl
    · simp (disch := decide) only [State.setFlds, fld_setFld_apart]
      rfl
  · rw [apart rfl]
    split
    · simp (disch := decide) only [State.setFlag, State.setFlds, fld_setFld_apart, fld_setFld_same]
      exact temp
    · simp (disch := decide) only [State.setFlds, fld_setFld_same]
      exact temp
  · rw [regsBut_setReg (by decide)]
    split
    · rw [regsBut_setFlag (by decide), regsBut_setFlds _ _ (by simp [reportRegs])]
      exact regsBut_refl
    · rw [regsBut_setFlds _ _ (by simp [reportRegs])]
      exact regsBut_refl
  · split
    · rfl
    · rfl

/-- The sensor's readings are shown. -/
def sensorsShown (i : Nat) (b : List Byte) (s : State) : State :=
  (List.range 9).foldl (fun u k =>
    u.setFld (if k % 2 = 0 then F.WSCAN_SENSOR_S_LO else F.WSCAN_SENSOR_S_HI) (5 * i + k / 2) (fieldAt b (12 + 2 * k) 2)) s

theorem sensorsShown_facts (i : Nat) (b : List Byte) (s : State) :
    regsBut [.WSCAN_SENSOR] s (sensorsShown i b s) ∧ regsOnly s (sensorsShown i b s) := by
  refine foldl_rel (R := fun x y => regsBut [.WSCAN_SENSOR] x y ∧ regsOnly x y) (fun _ => ⟨regsBut_refl, rfl⟩)
    (fun h g => ⟨regsBut_trans h.1 g.1, h.2.trans g.2⟩) (fun a k => ?_) _ s
  refine ⟨(regsBut_setFld ?_ _ _).2 regsBut_refl, regsOnly_setReg ..⟩
  split
  · decide
  · decide

theorem showStatus_eq (i : Nat) (b : List Byte) (s : State) : ∃ x, (x.inSync = (s.tileRun i).inSync)
    ∧ showStatus i b s = (sensorsShown i b (flagsShown i b s)).setTile i x := by
  have wscan : (sensorsShown i b (flagsShown i b s)).wscan = s.wscan :=
    (sensorsShown_facts i b _).2.wscan.trans (flagsShown_facts i b s).2.2.2.2.wscan
  refine ⟨{ (sensorsShown i b (flagsShown i b s)).tileRun i with latched := _, sensed := _ }, ?_, rfl⟩
  exact congrArg (fun w : WscanState => (w.tile.get .reset i).inSync) wscan

/-- The state in which a tile's report is shown. -/
def reported (i : Nat) (b : List Byte) (s : State) : State := showStatus i b (noteReport i (clearSent s))

theorem reported_facts (i : Nat) (b : List Byte) (s : State) : (reported i b s).tileState i = s.tileState i
    ∧ (reported i b s).fld F.WSCAN_TILE_STAT_TEMP i = fieldAt b 4 2
    ∧ (reported i b s).reg .WSCAN_TILE_PTPOFS i = BitVec.ofNat 32 (fieldAt b 6 4)
    ∧ ((reported i b s).tileRun i).inSync = (s.tileRun i).inSync ∧ (∀ k, (reported i b s).wscan.sent.get [] k = [])
    ∧ regsBut reportRegs s (reported i b s) ∧ (reported i b s).flt = s.flt ∧ still s (reported i b s) := by
  obtain ⟨x, hx, hshow⟩ := showStatus_eq i b (noteReport i (clearSent s))
  obtain ⟨fstate, ftemp, fofs, fregs, fonly⟩ := flagsShown_facts i b (noteReport i (clearSent s))
  obtain ⟨sregs, sonly⟩ := sensorsShown_facts i b (flagsShown i b (noteReport i (clearSent s)))
  have only := fonly.trans sonly
  have begun : ((noteReport i (clearSent s)).tileRun i).inSync = (s.tileRun i).inSync :=
    (congrArg TileRun.inSync (tileRun_setTile (clearSent s) i { (clearSent s).tileRun i with lastRep := s.now }) :)
  have before : still s (noteReport i (clearSent s)) ∧ (noteReport i (clearSent s)).flt = s.flt
    ∧ (noteReport i (clearSent s)).regs = s.regs ∧ ∀ k, (noteReport i (clearSent s)).wscan.sent.get [] k = [] :=
    ⟨⟨rfl, rfl⟩, rfl, rfl, fun _ => rfl⟩
  rw [reported, hshow]
  rw [begun] at hx
  generalize noteReport i (clearSent s) = n at *
  generalize flagsShown i b n = f at *
  generalize sensorsShown i b f = g at *
  obtain ⟨bstill, bflt, bregs, bsent⟩ := before
  have regs : (g.setTile i x).regs = g.regs := rfl
  refine ⟨?_, ?_, ?_, ?_, fun k => ?_, ?_, only.flt.trans bflt, only.still.1.trans bstill.1, only.still.2.trans bstill.2⟩
  · rw [State.tileState, fld_of_regs regs, sregs.fld (by decide)]
    exact fstate.trans (fld_of_regs bregs _ _)
  · rw [fld_of_regs regs, sregs.fld (by decide), ftemp]
  · rw [reg_of_regs regs, sregs _ _ (by decide), fofs]
  · rw [tileRun_setTile, hx]
  · exact (congrArg (fun w : WscanState => w.sent.get [] k) only.wscan).trans (bsent k)
  · exact regsBut_trans (regsBut_trans (regsBut_of_regs bregs) fregs) (regsBut_trans (regsBut_mono (by decide) sregs) (regsBut_of_regs regs))

theorem statusIn_of {f : EthFrame} (hr : tileReceive p f s = (some b, s)) (hk : fieldAt b 0 1 = 1) (ht : s.tileAt p (fieldAt b 1 1) = some i)
    (hlo : 2 ≤ s.tileState i) (hhi : s.tileState i ≤ 5) : statusIn p f s =
      if bit (fieldAt b 2 2) 8 then tileFaults i (reported i b s)
      else if 16 * ((reported i b s).fld F.WSCAN_THERM_TILE_TEMP_LIMIT 0 : Int) ≤ signed 16 (fieldAt b 4 2) then tileHeats i (reported i b s)
      else if (reported i b s).tileState i = 5 then tileCooling i (signed 16 (fieldAt b 4 2)) (reported i b s)
      else tileSyncs i (bit (fieldAt b 2 2) 1) (signed 32 (fieldAt b 6 4)) (reported i b s) := by
  have state := (reported_facts i b s).1
  unfold statusIn
  rw [hr]
  dsimp only
  rw [if_neg (by omega), ht]
  dsimp only
  exact if_neg (by rw [← reported, state]; omega)

/-! ### Heat and lock (R332, R335) -/

theorem sends_sendDriveOff (i : Nat) (s : State) : Sends s (sendDriveOff i s) := by
  unfold sendDriveOff
  dsimp only
  split
  · exact sends_sendTile ..
  · exact sends_refl s

theorem sendDriveOff_sent (hon : s.scanOn = true) (hl : s.tileLink (s.fld F.WSCAN_TILE_CFG_PORT i) = true)
    (hs : s.wscan.sent.get [] (s.fld F.WSCAN_TILE_CFG_PORT i) = []) :
    ∃ q, (sendDriveOff i s).wscan.sent.get [] (s.fld F.WSCAN_TILE_CFG_PORT i) = [tileFrame (tileMac (s.fld F.WSCAN_TILE_CFG_POS i))
      (s.fld F.WSCAN_TILE_CFG_PORT i) 3 s.wallFrameNo q [0x02#8]] := by
  unfold sendDriveOff
  dsimp only
  rw [if_pos (by simp [hon, hl])]
  exact ⟨_, by rw [sendTile_sent_same, hs]⟩

/-- The registers and the run of a tile that overheats. -/
def heated (i : Nat) (d : State) (x : TileRun) : State :=
  (((d.setTileState i 5).setTile i x).bump .WSCAN_TILE_HOT_CNT i).bump .WSCAN_HOT_CNT 0

theorem heated_facts (i : Nat) (d : State) (x : TileRun) : (heated i d x).tileState i = 5
    ∧ (heated i d x).reg .WSCAN_TILE_HOT_CNT i = BitVec.ofNat 32 (min (2 ^ 32 - 1) ((d.reg .WSCAN_TILE_HOT_CNT i).toNat + 1))
    ∧ (heated i d x).reg .WSCAN_HOT_CNT 0 = BitVec.ofNat 32 (min (2 ^ 32 - 1) ((d.reg .WSCAN_HOT_CNT 0).toNat + 1))
    ∧ (heated i d x).fld F.WSCAN_TILE_STAT_TEMP i = d.fld F.WSCAN_TILE_STAT_TEMP i
    ∧ regsBut [.WSCAN_TILE_STAT, .WSCAN_TILE_HOT_CNT, .WSCAN_HOT_CNT] d (heated i d x)
    ∧ (heated i d x).wscan.sent = d.wscan.sent ∧ still d (heated i d x) := by
  have set : ∀ f : Fld, ((d.setTileState i 5).setTile i x).fld f i = (d.setTileState i 5).fld f i := fun _ => rfl
  have reg : ∀ r j, ((d.setTileState i 5).setTile i x).reg r j = (d.setTileState i 5).reg r j := fun _ _ => rfl
  have frame : regsBut [.WSCAN_TILE_STAT, .WSCAN_TILE_HOT_CNT, .WSCAN_HOT_CNT] d ((d.setTileState i 5).setTile i x) :=
    regsBut_trans ((regsBut_setFld (f := F.WSCAN_TILE_STAT_STATE) (by decide) i 5).2 regsBut_refl) (regsBut_of_regs rfl)
  unfold heated
  refine ⟨?_, ?_, ?_, ?_, ?_, rfl, rfl, rfl⟩
  · rw [State.tileState, fld_bump_apart _ _ _ (by decide), fld_bump_apart _ _ _ (by decide), set]
    exact (fld_setFld_same d (by decide) i 5).trans rfl
  · rw [reg_bump_apart _ _ _ (by decide), reg_bump_same, reg, State.setTileState, reg_setFld_apart _ _ _ _ (by decide)]
  · rw [reg_bump_same, reg_bump_apart _ _ _ (by decide), reg, State.setTileState, reg_setFld_apart _ _ _ _ (by decide)]
  · rw [fld_bump_apart _ _ _ (by decide), fld_bump_apart _ _ _ (by decide), set]
    exact fld_setFld_apart d (by decide) (by decide) ..
  · rw [regsBut_bump (by decide), regsBut_bump (by decide)]
    exact frame

theorem tileHeats_eq (i : Nat) (s : State) : ∃ x, tileHeats i s = (heated i (sendDriveOff i s) x).raise Src.WSCAN_TILE_HOT := ⟨_, rfl⟩

theorem tileSyncs_runs {ofs : Int} (hst : s.tileState i = 3) (hin : (s.tileRun i).inSync = 2) (hofs : ofs.natAbs ≤ 1000) :
    tileSyncs i true ofs s = ((s.setTileState i 4).setFlag F.WSCAN_TILE_STAT_SYNC_OK i true).setTile i
      { s.tileRun i with inSync := 3, outSync := 0, runFrom := s.reg .REF_TD_FRAME s.wallTd + 1 } := by
  unfold tileSyncs
  dsimp only
  rw [if_pos hst, if_neg (by simp [hofs]), if_neg (by omega)]

end

end Sys2Proof.Machine
end

section
/-!
PROOFS. Tiles that report, load and synchronise (R329, R332, R333, R335, R381).
-/

namespace Sys2Proof.Machine

section
variable {s t u : State} {i p : Nat} {b : List Byte} {f : EthFrame}

/-! ### Reads of a record (R333) -/

/-- The serial number of the record that a tile loads. -/
def State.loadSerial (s : State) (i : Nat) : Option Nat := (s.tileRun i).load.map (·.serial)

/-- From `s` to `t` reads went out: no register, fault source or byte of memory differs, and each tile loads what it did. -/
structure Pumps (s t : State) : Prop where
  regs : t.regs = s.regs
  flt : t.flt = s.flt
  mem : t.mem = s.mem
  pending : t.pending = s.pending
  loads : ∀ i, t.loadSerial i = s.loadSerial i

theorem pumps_refl (s : State) : Pumps s s := ⟨rfl, rfl, rfl, rfl, fun _ => rfl⟩

theorem Pumps.trans (h : Pumps s t) (g : Pumps t u) : Pumps s u :=
  ⟨g.regs.trans h.regs, g.flt.trans h.flt, g.mem.trans h.mem, g.pending.trans h.pending, fun i => (g.loads i).trans (h.loads i)⟩

theorem Sends.pumps (h : Sends s t) : Pumps s t := by
  obtain ⟨w, q, x, rfl⟩ := h.only
  exact ⟨rfl, rfl, rfl, rfl, fun _ => rfl⟩

theorem pumps_setTile {l m : TileLoad} {x : TileRun} (hl : (s.tileRun i).load = some l) (hx : x.load = some m) (hs : m.serial = l.serial) :
    Pumps s (s.setTile i x) := by
  refine ⟨rfl, rfl, rfl, rfl, fun j => ?_⟩
  by_cases hj : j = i
  · subst hj
    rw [State.loadSerial, State.loadSerial, tileRun_setTile, hl, hx, Option.map_some, Option.map_some, hs]
  · rw [State.loadSerial, State.loadSerial, tileRun_setTile_ne hj]

theorem pumps_nextRead (i : Nat) (s : State) : Pumps s (nextRead i s) := by
  unfold nextRead
  dsimp only
  split
  · exact pumps_refl s
  next l hl =>
    split
    · exact pumps_refl s
    · refine Pumps.trans ?_ (sends_sendTile ..).pumps
      have noted := pumps_setTile (x := { s.tileRun i with load := some { l with
        reads := l.reads ++ [⟨s.wscan.tag.get 0 (s.fld F.WSCAN_TILE_CFG_PORT i), l.next, min 1024 (l.len - l.next), 1, s.now⟩]
        next := l.next + min 1024 (l.len - l.next) } }) hl rfl rfl
      exact noted.trans ⟨rfl, rfl, rfl, rfl, fun _ => rfl⟩

theorem pumps_pumpReads (p : Nat) (s : State) : Pumps s (pumpReads p s) :=
  foldl_rel pumps_refl Pumps.trans (fun a _ => foldl_rel pumps_refl Pumps.trans (fun b i => pumps_nextRead i b) _ a) _ s

theorem Pumps.fld (h : Pumps s t) (g : Fld) (j : Nat) : t.fld g j = s.fld g j := fld_of_regs h.regs g j

theorem Pumps.still (h : Pumps s t) : still s t := ⟨h.pending, h.mem⟩

/-! ### Cooling and loss (R332, R335) -/

theorem tileCools_cools {c : Nat} (hst : s.tileState i = 5) (hc : (s.tileRun i).cool = some c) :
    tileCools i s = tileToSync i (passToNow (c + 30000000000) s) := by
  unfold tileCools
  rw [hst, hc]
  rfl

theorem passToNow_still (n : Nat) (s : State) : still s (passToNow n s) := ⟨elapse_pending .., elapse_mem ..⟩

/-- A tile that is lost (R332). -/
def tileGone (i : Nat) (s : State) : State :=
  ((s.setTileState i 6).setTile i { s.tileRun i with load := none, cool := none }).raise Src.WSCAN_TILE_LOST

theorem tileGone_facts (i : Nat) (s : State) : (tileGone i s).tileState i = 6 ∧ (tileGone i s).isSet Src.WSCAN_TILE_LOST = true
    ∧ ((tileGone i s).tileRun i).load = none ∧ regsButAt [.WSCAN_TILE_STAT] i s (tileGone i s) ∧ still s (tileGone i s) := by
  have regs : (tileGone i s).regs = (s.setTileState i 6).regs := raise_regs ..
  refine ⟨?_, isSet_raise_same _ (by decide), ?_, ?_, ?_, ?_⟩
  · rw [State.tileState, fld_of_regs regs]
    exact (fld_setFld_same s (by decide) i 6).trans rfl
  · rw [State.tileRun, tileGone, raise_wscan]
    exact congrArg TileRun.load (AMap.get_set_same ..)
  · exact regsButAt_trans ((regsButAt_setFld (by decide) 6).2 regsButAt_refl) (regsButAt_of_regs regs)
  · exact raise_pending ..
  · exact raise_mem ..

theorem tileLoses_loses {down : Bool} (hlo : 2 ≤ s.tileState i) (hhi : s.tileState i ≤ 5) :
    ∃ u, u.regs = s.regs ∧ still s u ∧ tileLoses i down s = tileGone i u := by
  unfold tileLoses
  dsimp only
  rw [if_pos ⟨hlo, hhi⟩]
  cases down with
  | true => exact ⟨s, rfl, ⟨rfl, rfl⟩, rfl⟩
  | false => exact ⟨passToNow ((s.tileRun i).lastRep + 500000000) s, elapse_regs .., passToNow_still .., rfl⟩

/-! ### IDENT (R332, R333) -/

/-- The state in which an IDENT of tile `i` is taken. -/
def heard (i : Nat) (s : State) : State := noteReport i (clearSent s)

theorem heard_facts (i : Nat) (s : State) : (heard i s).regs = s.regs ∧ (heard i s).flt = s.flt ∧ still s (heard i s)
    ∧ ((heard i s).tileRun i).load = (s.tileRun i).load :=
  ⟨rfl, rfl, ⟨rfl, rfl⟩, (congrArg TileRun.load (tileRun_setTile (clearSent s) i { (clearSent s).tileRun i with lastRep := s.now }) :)⟩

theorem identIn_of (hr : tileReceive p f s = (some b, s)) (hk : fieldAt b 0 1 = 2) (ht : s.tileAt p (fieldAt b 1 1) = some i) :
    identIn p f s = identTile i p (fieldAt b 2 8) (fieldAt b 10 2) (fieldAt b 12 2) (fieldAt b 14 4) (clearSent s) := by
  unfold identIn
  rw [hr]
  dsimp only
  rw [if_neg (by omega), ht]

theorem identIn_unmapped (hr : tileReceive p f s = (some b, s)) (hk : fieldAt b 0 1 = 2) (ht : s.tileAt p (fieldAt b 1 1) = none) :
    identIn p f s = (s.bump .WSCAN_UNMAPPED_CNT 0).raise Src.WSCAN_UNMAPPED := by
  unfold identIn
  rw [hr]
  dsimp only
  rw [if_neg (by omega), ht]

theorem resetTrim_facts (i : Nat) (s : State) : (∀ k, k < 9 → (resetTrim i s).reg .WSCAN_TRIM (9 * i + k) = if k % 4 = 0 then 65536#32 else 0#32)
    ∧ regsBut [.WSCAN_TRIM] s (resetTrim i s) ∧ regsOnly s (resetTrim i s) := by
  have steps (l : List Nat) (hn : l.Nodup) (a : State) :
      (∀ k ∈ l, (l.foldl (fun u k => u.setReg .WSCAN_TRIM (9 * i + k) (if k % 4 = 0 then 65536 else 0)) a).reg .WSCAN_TRIM (9 * i + k)
        = if k % 4 = 0 then 65536#32 else 0#32)
      ∧ ∀ j, (∀ k ∈ l, j ≠ 9 * i + k) →
        (l.foldl (fun u k => u.setReg .WSCAN_TRIM (9 * i + k) (if k % 4 = 0 then 65536 else 0)) a).reg .WSCAN_TRIM j = a.reg .WSCAN_TRIM j := by
    induction l generalizing a with
    | nil => exact ⟨fun k hk => absurd hk (by simp), fun _ _ => rfl⟩
    | cons m l ih =>
      rw [List.nodup_cons] at hn
      obtain ⟨hit, miss⟩ := ih hn.2 (a.setReg .WSCAN_TRIM (9 * i + m) (if m % 4 = 0 then 65536 else 0))
      refine ⟨fun k hk => ?_, fun j hj => ?_⟩
      · rcases List.mem_cons.mp hk with rfl | hk
        · rw [List.foldl_cons, miss _ fun x hx he => hn.1 (by rwa [show k = x by omega]), reg_setReg_same]
          rfl
        · exact hit k hk
      · rw [List.foldl_cons, miss j fun x hx => hj x (List.mem_cons_of_mem _ hx), reg_setReg_ne _ _ fun _ => hj m List.mem_cons_self]
  have frame : regsBut [.WSCAN_TRIM] s (resetTrim i s) ∧ regsOnly s (resetTrim i s) :=
    foldl_rel (R := fun x y => regsBut [.WSCAN_TRIM] x y ∧ regsOnly x y) (fun _ => ⟨regsBut_refl, rfl⟩)
      (fun h g => ⟨regsBut_trans h.1 g.1, h.2.trans g.2⟩) (fun a k => ⟨(regsBut_setReg (r := .WSCAN_TRIM) (by decide) _ _).2 regsBut_refl, regsOnly_setReg ..⟩) _ s
  exact ⟨fun k hk => (steps _ List.nodup_range s).1 k (List.mem_range.mpr hk), frame⟩

/-- A tile that begins to load the record of a serial number. -/
def loadBegun (i serial len : Nat) (s : State) : State :=
  (((resetTrim i s).setTileState i 2).setTile i
    { ((resetTrim i s).setTileState i 2).tileRun i with load := some ⟨len, [], 0, [], false, serial⟩ })

theorem loadBegun_facts (i serial len : Nat) (s : State) : (loadBegun i serial len s).tileState i = 2
    ∧ (loadBegun i serial len s).loadSerial i = some serial
    ∧ (∀ k, k < 9 → (loadBegun i serial len s).reg .WSCAN_TRIM (9 * i + k) = if k % 4 = 0 then 65536#32 else 0#32)
    ∧ regsBut [.WSCAN_TILE_STAT, .WSCAN_TRIM] s (loadBegun i serial len s) ∧ (loadBegun i serial len s).flt = s.flt
    ∧ still s (loadBegun i serial len s) := by
  obtain ⟨trims, frame, only⟩ := resetTrim_facts i s
  unfold loadBegun
  generalize resetTrim i s = r at *
  generalize hx : ({ (r.setTileState i 2).tileRun i with load := some ⟨len, [], 0, [], false, serial⟩ } : TileRun) = x
  have regs : ((r.setTileState i 2).setTile i x).regs = (r.setTileState i 2).regs := rfl
  refine ⟨?_, ?_, fun k hk => ?_, ?_, only.flt, only.still⟩
  · rw [State.tileState, fld_of_regs regs]
    exact (fld_setFld_same r (by decide) i 2).trans rfl
  · rw [State.loadSerial, tileRun_setTile, ← hx]
    rfl
  · rw [reg_of_regs regs, State.setTileState, reg_setFld_apart _ _ _ _ (by decide), trims k hk]
  · refine regsBut_trans (regsBut_mono (by decide) frame) (regsBut_trans (t := r.setTileState i 2) ?_ (regsBut_of_regs regs))
    exact (regsBut_setFld (by decide) ..).2 regsBut_refl

section
variable {serial w h len : Nat}

theorem identTile_fails (hst : s.tileState i ≠ 7) (hd : w ≠ s.tileW i ∨ h ≠ s.tileH i) :
    identTile i p serial w h len (clearSent s) = tileFaults i (heard i s) := by
  unfold identTile
  dsimp only
  exact (if_neg hst).trans (if_pos hd)

theorem identTile_loads (hst : s.tileState i ≠ 7) (h2 : s.tileState i ≠ 2) (hw : w = s.tileW i) (hh : h = s.tileH i)
    (hs : serial ≠ s.tileSerial i) :
    identTile i p serial w h len (clearSent s) = pumpReads p (loadBegun i serial len (heard i s)) := by
  have size : ¬ (w ≠ s.tileW i ∨ h ≠ s.tileH i) := by simp [hw, hh]
  unfold identTile
  dsimp only
  exact (if_neg hst).trans ((if_neg size).trans ((if_pos hs).trans (if_neg fun hc => h2 hc.1)))

theorem identTile_syncs (hst : s.tileState i = 1 ∨ s.tileState i = 6) (hw : w = s.tileW i) (hh : h = s.tileH i)
    (hs : serial = s.tileSerial i) :
    ∃ x, identTile i p serial w h len (clearSent s) = tileToSync i ((heard i s).setTile i x) := by
  have size : ¬ (w ≠ s.tileW i ∨ h ≠ s.tileH i) := by simp [hw, hh]
  have live : s.tileState i ≠ 7 := by omega
  refine ⟨{ (heard i s).tileRun i with load := none }, ?_⟩
  unfold identTile
  dsimp only
  exact (if_neg live).trans ((if_neg size).trans ((if_neg (fun hne => hne hs)).trans (if_pos (by rcases hst with h | h; exacts [.inl h, .inr (.inl h)]))))

end

/-! ### IDDATA (R332, R333, R381) -/

theorem iddataIn_of (hr : tileReceive p f s = (some b, s)) (hk : fieldAt b 0 1 = 3) (ht : s.tileAt p (fieldAt f.bytes 11 1) = some i) :
    iddataIn p f s = match ((heard i s).tileRun i).load with
      | none => heard i s
      | some l =>
        match l.reads.find? (fun r => r.tag == fieldAt b 1 1 && r.offset == fieldAt b 2 4 && r.len == fieldAt b 6 2) with
        | none => heard i s
        | some r => recordBytes i p l r ((b.drop 8).take r.len) (heard i s) := by
  unfold iddataIn
  rw [hr]
  dsimp only
  rw [if_neg (by omega), ht]
  rfl

/-- Where bytes past the header lie in a correction copy, they are stored there (R332). -/
theorem copyLamps_body {off lamps : Nat} {bs : List Byte} (hoff : 64 ≤ off) (hend : off + bs.length ≤ 64 + lamps) :
    copyLamps i off lamps bs s = (s.store (s.lcAddr false 0 + (16 * s.fld F.WSCAN_TILE_LC_LCI i + (off - 64))) bs).store
      (s.lcAddr true 0 + (16 * s.fld F.WSCAN_TILE_LC_LCI i + (off - 64))) bs := by
  have skip : 64 - off = 0 := by omega
  unfold copyLamps
  dsimp only
  rw [skip, List.drop_zero, Nat.add_zero, List.take_of_length_le (by omega)]

theorem recordBytes_body {l : TileLoad} {r : IdRead} {bs : List Byte} (hok : l.headOk = true) (hnext : l.next < l.len) (hoff : 64 ≤ r.offset)
    (hend : r.offset + bs.length ≤ 64 + 16 * s.tileW i * s.tileH i) :
    ∃ x, recordBytes i p l r bs s = pumpReads p (((s.setTile i x).store
      (s.lcAddr false 0 + (16 * s.fld F.WSCAN_TILE_LC_LCI i + (r.offset - 64))) bs).store
      (s.lcAddr true 0 + (16 * s.fld F.WSCAN_TILE_LC_LCI i + (r.offset - 64))) bs) := by
  unfold recordBytes
  dsimp only
  rw [if_pos hok, if_neg (by decide), if_pos (.inl hnext), copyLamps_body hoff hend]
  exact ⟨_, rfl⟩

/-- Two stores of the same bytes, apart from each other. -/
theorem load_store_twice {x y : Nat} {bs : List Byte} (hwf : s.mem.wf = true) (h : x + bs.length ≤ y ∨ y + bs.length ≤ x) :
    ((s.store x bs).store y bs).load x bs.length = bs ∧ ((s.store x bs).store y bs).load y bs.length = bs
      ∧ ∀ c, (c < x ∨ x + bs.length ≤ c) → (c < y ∨ y + bs.length ≤ c) → ((s.store x bs).store y bs).mem.read c = s.mem.read c := by
  have wf := Memory.wf_writeBytes x bs hwf
  have first : ((s.store x bs).store y bs).load x bs.length = (s.mem.writeBytes x bs).readBytes x bs.length :=
    Memory.readBytes_congr fun c hlo hhi => Memory.read_writeBytes_outside bs wf (by omega)
  refine ⟨first.trans (Memory.readBytes_writeBytes x bs hwf), Memory.readBytes_writeBytes y bs wf, fun c hx hy => ?_⟩
  exact (Memory.read_writeBytes_outside bs wf hy).trans (Memory.read_writeBytes_outside bs hwf hx)

/-- The bytes of a record past its header reach both correction copies, and nothing else changes that can be read (R332, R333). -/
theorem recordBytes_stores {l : TileLoad} {r : IdRead} {bs : List Byte} {k : Nat} (hok : l.headOk = true) (hnext : l.next < l.len)
    (hoff : 64 ≤ r.offset) (hend : r.offset + bs.length ≤ 64 + 16 * s.tileW i * s.tileH i) (hwf : s.mem.wf = true)
    (hk : k = 16 * s.fld F.WSCAN_TILE_LC_LCI i + (r.offset - 64))
    (hapart : s.lcAddr false 0 + k + bs.length ≤ s.lcAddr true 0 + k ∨ s.lcAddr true 0 + k + bs.length ≤ s.lcAddr false 0 + k) :
    (recordBytes i p l r bs s).load (s.lcAddr false 0 + k) bs.length = bs ∧ (recordBytes i p l r bs s).load (s.lcAddr true 0 + k) bs.length = bs
      ∧ (∀ a, (a < s.lcAddr false 0 + k ∨ s.lcAddr false 0 + k + bs.length ≤ a) →
          (a < s.lcAddr true 0 + k ∨ s.lcAddr true 0 + k + bs.length ≤ a) → (recordBytes i p l r bs s).mem.read a = s.mem.read a)
      ∧ (recordBytes i p l r bs s).regs = s.regs ∧ (recordBytes i p l r bs s).flt = s.flt
      ∧ (recordBytes i p l r bs s).pending = s.pending := by
  obtain ⟨x, hx⟩ := recordBytes_body (s := s) (i := i) (p := p) (bs := bs) hok hnext hoff hend
  rw [← hk] at hx
  obtain ⟨first, second, other⟩ := load_store_twice (s := s.setTile i x) (bs := bs) hwf hapart
  have kept : ((((s.setTile i x).store (s.lcAddr false 0 + k) bs).store (s.lcAddr true 0 + k) bs).regs = s.regs)
    ∧ ((((s.setTile i x).store (s.lcAddr false 0 + k) bs).store (s.lcAddr true 0 + k) bs).flt = s.flt)
    ∧ ((((s.setTile i x).store (s.lcAddr false 0 + k) bs).store (s.lcAddr true 0 + k) bs).pending = s.pending) := ⟨rfl, rfl, rfl⟩
  generalize ((s.setTile i x).store (s.lcAddr false 0 + k) bs).store (s.lcAddr true 0 + k) bs = t at *
  have reads := pumps_pumpReads p t
  obtain ⟨regs, flt, pending⟩ := kept
  rw [hx, State.load, State.load, reads.mem]
  exact ⟨first, second, other, reads.regs.trans regs, reads.flt.trans flt, reads.pending.trans pending⟩

/-! ### Reads without an answer (R333) -/

/-- The state in which a read is found unanswered. -/
def unanswered (r : IdRead) (s : State) : State := clearSent (passToNow (r.at_ + 1000000) s)

theorem unanswered_facts (r : IdRead) (s : State) : (unanswered r s).regs = s.regs ∧ still s (unanswered r s)
    ∧ ∀ k, (unanswered r s).wscan.sent.get [] k = [] :=
  ⟨elapse_regs .., passToNow_still .., fun _ => rfl⟩

theorem readTimesOut_fails {l : TileLoad} {r : IdRead} {tag : Nat} (hl : (s.tileRun i).load = some l)
    (hf : l.reads.find? (fun x => x.tag == tag) = some r) (hr : 3 ≤ r.sends) :
    readTimesOut i tag s = pumpReads ((unanswered r s).fld F.WSCAN_TILE_CFG_PORT i)
      (tileFaults i ((unanswered r s).bump .WSCAN_IDREAD_FAIL_CNT 0)) := by
  unfold readTimesOut
  rw [hl]
  dsimp only
  rw [hf]
  exact if_pos hr

theorem readTimesOut_repeats {l : TileLoad} {r : IdRead} {tag : Nat} (hl : (s.tileRun i).load = some l)
    (hf : l.reads.find? (fun x => x.tag == tag) = some r) (hr : r.sends < 3) :
    ∃ x, readTimesOut i tag s = sendTile ((unanswered r s).fld F.WSCAN_TILE_CFG_PORT i) (tileMac ((unanswered r s).fld F.WSCAN_TILE_CFG_POS i)) 3
      (unanswered r s).wallFrameNo ([0x04#8] ++ beBytes 4 r.offset ++ beBytes 2 r.len ++ beBytes 1 r.tag) ((unanswered r s).setTile i x) := by
  unfold readTimesOut
  rw [hl]
  dsimp only
  rw [hf]
  exact ⟨_, if_neg (by omega)⟩

/-! ### The commands -/

theorem wallFrameNo_of_regs (h : t.regs = s.regs) : t.wallFrameNo = s.wallFrameNo := by
  rw [State.wallFrameNo, State.wallFrameNo, State.wallTd, State.wallTd, fld_of_regs h, reg_of_regs h]

/-- What decides where a DRIVE_OFF goes is the same after a report is shown. -/
theorem reported_link (i : Nat) (b : List Byte) (s : State) : (reported i b s).scanOn = s.scanOn
    ∧ (∀ p, (reported i b s).tileLink p = s.tileLink p) ∧ (reported i b s).wallFrameNo = s.wallFrameNo
    ∧ (reported i b s).fld F.WSCAN_TILE_CFG_PORT i = s.fld F.WSCAN_TILE_CFG_PORT i
    ∧ (reported i b s).fld F.WSCAN_TILE_CFG_POS i = s.fld F.WSCAN_TILE_CFG_POS i
    ∧ (reported i b s).fld F.WSCAN_THERM_TILE_TEMP_LIMIT 0 = s.fld F.WSCAN_THERM_TILE_TEMP_LIMIT 0
    ∧ (reported i b s).reg .REF_TD_FRAME (reported i b s).wallTd = s.reg .REF_TD_FRAME s.wallTd := by
  obtain ⟨-, -, -, -, -, regs, -, -⟩ := reported_facts i b s
  generalize reported i b s = r at *
  refine ⟨?_, fun p => ?_, ?_, regs.fld (by decide) i, regs.fld (by decide) i, regs.fld (by decide) 0, ?_⟩
  · rw [State.scanOn, State.scanOn, State.flag, State.flag, regs.fld (by decide)]
  · rw [State.tileLink, State.tileLink, State.tileLane, State.tileLane, State.flag, State.flag, State.flag, State.flag,
      regs.fld (by decide), regs.fld (by decide), regs.fld (by decide)]
  · rw [State.wallFrameNo, State.wallFrameNo, State.wallTd, State.wallTd, regs.fld (by decide), regs _ _ (by decide)]
  · rw [State.wallTd, State.wallTd, regs.fld (by decide), regs _ _ (by decide)]

/-- A report of heat: DRIVE_OFF goes out and the tile is HOT (R335). -/
theorem statusIn_heats (hr : tileReceive p f s = (some b, s)) (hk : fieldAt b 0 1 = 1) (ht : s.tileAt p (fieldAt b 1 1) = some i)
    (hlo : 2 ≤ s.tileState i) (hhi : s.tileState i ≤ 5) (hf : bit (fieldAt b 2 2) 8 = false)
    (htemp : 16 * (s.fld F.WSCAN_THERM_TILE_TEMP_LIMIT 0 : Int) ≤ signed 16 (fieldAt b 4 2)) :
    statusIn p f s = tileHeats i (reported i b s) := by
  obtain ⟨-, -, -, -, -, limit, -⟩ := reported_link i b s
  rw [statusIn_of hr hk ht hlo hhi, hf, limit]
  exact (if_neg (by decide)).trans (if_pos htemp)

theorem tileHeats_reported (i : Nat) (b : List Byte) (s : State) :
    (tileHeats i (reported i b s)).tileState i = 5 ∧ (tileHeats i (reported i b s)).isSet Src.WSCAN_TILE_HOT = true
    ∧ (tileHeats i (reported i b s)).reg .WSCAN_TILE_HOT_CNT i
      = BitVec.ofNat 32 (min (2 ^ 32 - 1) ((s.reg .WSCAN_TILE_HOT_CNT i).toNat + 1))
    ∧ (tileHeats i (reported i b s)).reg .WSCAN_HOT_CNT 0 = BitVec.ofNat 32 (min (2 ^ 32 - 1) ((s.reg .WSCAN_HOT_CNT 0).toNat + 1))
    ∧ (tileHeats i (reported i b s)).fld F.WSCAN_TILE_STAT_TEMP i = fieldAt b 4 2
    ∧ (tileHeats i (reported i b s)).reg .WSCAN_TILE_PTPOFS i = BitVec.ofNat 32 (fieldAt b 6 4)
    ∧ (tileHeats i (reported i b s)).wscan.sent = (sendDriveOff i (reported i b s)).wscan.sent
    ∧ regsBut [.WSCAN_TILE_STAT, .WSCAN_TILE_PTPOFS, .WSCAN_SENSOR, .WSCAN_TILE_HOT_CNT, .WSCAN_HOT_CNT] s (tileHeats i (reported i b s))
    ∧ still s (tileHeats i (reported i b s)) := by
  obtain ⟨-, rtemp, rofs, -, -, rregs, -, rstill⟩ := reported_facts i b s
  have sent := sends_sendDriveOff i (reported i b s)
  obtain ⟨x, hx⟩ := tileHeats_eq i (reported i b s)
  rw [hx]
  generalize reported i b s = r at *
  generalize sendDriveOff i r = d at *
  obtain ⟨hstate, hcnt, hall, htemp, hregs, hsent, hstill⟩ := heated_facts i d x
  generalize heated i d x = e at *
  have regs : (e.raise Src.WSCAN_TILE_HOT).regs = e.regs := raise_regs ..
  refine ⟨?_, isSet_raise_same _ (by decide), ?_, ?_, ?_, ?_, ?_, ?_, ?_, ?_⟩
  · rw [State.tileState, fld_of_regs regs]
    exact hstate
  · rw [reg_of_regs regs, hcnt, reg_of_regs sent.regs, rregs _ _ (by decide)]
  · rw [reg_of_regs regs, hall, reg_of_regs sent.regs, rregs _ _ (by decide)]
  · rw [fld_of_regs regs, htemp, fld_of_regs sent.regs, rtemp]
  · rw [reg_of_regs regs, hregs _ _ (by decide), reg_of_regs sent.regs, rofs]
  · rw [raise_wscan, hsent]
  · exact regsBut_trans (regsBut_trans (regsBut_mono (by decide) rregs) (regsBut_of_regs sent.regs))
      (regsBut_trans (regsBut_mono (by decide) hregs) (regsBut_of_regs regs))
  · exact (raise_pending ..).trans (hstill.1.trans (sent.still.1.trans rstill.1))
  · exact (raise_mem ..).trans (hstill.2.trans (sent.still.2.trans rstill.2))

/-- A report of a fault (R332). -/
theorem statusIn_faults (hr : tileReceive p f s = (some b, s)) (hk : fieldAt b 0 1 = 1) (ht : s.tileAt p (fieldAt b 1 1) = some i)
    (hlo : 2 ≤ s.tileState i) (hhi : s.tileState i ≤ 5) (hf : bit (fieldAt b 2 2) 8 = true) :
    statusIn p f s = tileFaults i (reported i b s) := by
  rw [statusIn_of hr hk ht hlo hhi, hf]
  exact if_pos rfl

/-- The third report in lock: the tile runs (R332). -/
theorem statusIn_runs (hr : tileReceive p f s = (some b, s)) (hk : fieldAt b 0 1 = 1) (ht : s.tileAt p (fieldAt b 1 1) = some i)
    (hst : s.tileState i = 3) (hin : (s.tileRun i).inSync = 2) (hf : bit (fieldAt b 2 2) 8 = false) (hl : bit (fieldAt b 2 2) 1 = true)
    (hofs : (signed 32 (fieldAt b 6 4)).natAbs ≤ 1000)
    (htemp : signed 16 (fieldAt b 4 2) < 16 * (s.fld F.WSCAN_THERM_TILE_TEMP_LIMIT 0 : Int)) :
    ∃ x, x.runFrom = s.reg .REF_TD_FRAME s.wallTd + 1 ∧ statusIn p f s
      = (((reported i b s).setTileState i 4).setFlag F.WSCAN_TILE_STAT_SYNC_OK i true).setTile i x := by
  obtain ⟨state, -, -, sync, -⟩ := reported_facts i b s
  obtain ⟨-, -, -, -, -, limit, frame⟩ := reported_link i b s
  refine ⟨{ (reported i b s).tileRun i with
    inSync := 3, outSync := 0, runFrom := (reported i b s).reg .REF_TD_FRAME (reported i b s).wallTd + 1 }, congrArg (· + 1) frame, ?_⟩
  rw [statusIn_of hr hk ht (by omega) (by omega), hf, hl, limit, state, hst]
  exact (if_neg (by decide)).trans ((if_neg (by omega)).trans ((if_neg (by decide)).trans
    (tileSyncs_runs (state.trans hst) (sync.trans hin) hofs)))

theorem tileReceive_malformed (hon : s.flag F.WSCAN_PORT_CFG_EN p = true) (hf : f.fault false = 0) (ht : f.tagged = false)
    (hty : f.type = 0x88B5) (hb : fieldAt f.payload 0 1 ≠ 1 ∨ fieldAt f.payload 1 1 ≠ 4) :
    tileReceive p f s = (none, s.bump .WSCAN_PORT_RXERR p) := by
  unfold tileReceive
  dsimp only
  rw [if_neg (by simp [hon]), if_neg (by simp [hf]), if_neg (by simp [ht, hty]), if_pos hb]

/-- A read that is repeated (R333). -/
theorem readRepeats (hx : ∃ x, t = sendTile ((u.setTile i x).fld F.WSCAN_TILE_CFG_PORT i) (tileMac (u.fld F.WSCAN_TILE_CFG_POS i)) 3
    u.wallFrameNo b (u.setTile i x)) (hs : ∀ k, u.wscan.sent.get [] k = []) (hregs : u.regs = s.regs) (hstill : still s u) :
    ∃ q, t.wscan.sent.get [] (s.fld F.WSCAN_TILE_CFG_PORT i) = [tileFrame (tileMac (s.fld F.WSCAN_TILE_CFG_POS i))
        (s.fld F.WSCAN_TILE_CFG_PORT i) 3 s.wallFrameNo q b] ∧ t.regs = s.regs ∧ still s t := by
  obtain ⟨x, rfl⟩ := hx
  have set : (u.setTile i x).fld F.WSCAN_TILE_CFG_PORT i = s.fld F.WSCAN_TILE_CFG_PORT i := fld_of_regs hregs _ _
  rw [set, fld_of_regs hregs, wallFrameNo_of_regs hregs]
  refine ⟨(u.setTile i x).wscan.seq.get 0 (s.fld F.WSCAN_TILE_CFG_PORT i), ?_, hregs, hstill⟩
  rw [sendTile_sent_same]
  exact congrArg _ (hs _)

end

/-- Settles O48: each report is one of the cases of its command, and what follows from it is said by the facts of the state that it
leads to. -/
theorem tilesReportLoadAndSynchronise : Obligations.TilesReportLoadAndSynchronise := by
  refine ⟨?heat, ?fault, ?sync, ?malformed, ?cool, ?lost, ?load, ?again, ?differs, ?unmapped, ?body, ?noLoad, ?fails, ?repeats, ?enum,
    fun p s hl => congrArg Host.Outcome.next (if_neg (by simp [hl]))⟩
  case heat =>
    intro p f b i s hr hk ht hlo hhi hf htemp
    obtain ⟨state, set, tileCnt, cnt, temp, ofs, sent, regs, kept⟩ := tileHeats_reported i b s
    refine ⟨_, congrArg Host.Outcome.next (statusIn_heats hr hk ht hlo hhi hf htemp), state, set, tileCnt, cnt, temp, ofs,
      fun hon hlink => ?_, regs, kept⟩
    obtain ⟨on, link, frame, port, pos, -⟩ := reported_link i b s
    obtain ⟨hport, hpos⟩ := tileAt_facts ht
    have none := (reported_facts i b s).2.2.2.2.1
    obtain ⟨q, hq⟩ := sendDriveOff_sent (on.trans hon) (by rw [link, port, hport]; exact hlink) (none _)
    rw [port, pos, frame, hport, hpos] at hq
    exact ⟨q, by rw [sent, hq]⟩
  case fault =>
    intro p f b i s hr hk ht hlo hhi hf
    obtain ⟨-, -, -, -, -, shown, -, kept⟩ := reported_facts i b s
    obtain ⟨state, -, set, regs, still⟩ := tileFaults_facts i (reported i b s)
    exact ⟨_, congrArg Host.Outcome.next (statusIn_faults hr hk ht hlo hhi hf), state, set,
      regsBut_trans shown (regsBut_mono (by decide) (regsBut_of_regsButAt regs)), still.1.trans kept.1, still.2.trans kept.2⟩
  case sync =>
    intro p f b i s hr hk ht hst hin hf hl hofs htemp
    obtain ⟨-, -, -, -, -, shown, flt, kept⟩ := reported_facts i b s
    obtain ⟨x, hx, runs⟩ := statusIn_runs hr hk ht hst hin hf hl hofs htemp
    generalize reported i b s = r at *
    refine ⟨_, congrArg Host.Outcome.next runs, ?_, flag_setFlag_same _ (by decide) rfl _ _, ?_, ?_, flt, kept⟩
    · refine (fld_setFld_apart (r.setTileState i 4) (by decide) (by decide) ..).trans ?_
      exact (fld_setFld_same r (by decide) i 4).trans rfl
    · rw [tileRun_setTile, hx]
    · refine regsBut_trans (t := (r.setTileState i 4).setFlag F.WSCAN_TILE_STAT_SYNC_OK i true) ?_ (regsBut_of_regs rfl)
      rw [regsBut_setFlag (by decide), State.setTileState, regsBut_setFld (by decide)]
      exact shown
  case malformed =>
    intro p f s hon hf ht hty hb
    have bad := tileReceive_malformed hon hf ht hty hb
    have status : exec (.statusReport p f) s = .next (s.bump .WSCAN_PORT_RXERR p) := congrArg Host.Outcome.next (by unfold statusIn; rw [bad])
    have ident : exec (.ident p f) s = .next (s.bump .WSCAN_PORT_RXERR p) := congrArg Host.Outcome.next (by unfold identIn; rw [bad])
    have data : exec (.iddata p f) s = .next (s.bump .WSCAN_PORT_RXERR p) := congrArg Host.Outcome.next (by unfold iddataIn; rw [bad])
    exact ⟨_, status, ident, data, reg_bump_same .., (regsButAt_bump_iff (by decide)).2 regsButAt_refl, (onlyRegs_bump ..).2 rfl⟩
  case cool =>
    intro i c s hst hc
    obtain ⟨state, sync, regs, -, still⟩ := tileToSync_facts i (passToNow (c + 30000000000) s)
    have before := passToNow_still (c + 30000000000) s
    exact ⟨_, congrArg Host.Outcome.next (tileCools_cools hst hc), state, sync, regsButAt_trans (regsButAt_of_regs (elapse_regs ..)) regs,
      still.1.trans before.1, still.2.trans before.2⟩
  case lost =>
    intro i down s hlo hhi
    obtain ⟨u, hregs, before, hu⟩ := tileLoses_loses (down := down) hlo hhi
    obtain ⟨state, set, load, regs, still⟩ := tileGone_facts i u
    exact ⟨_, congrArg Host.Outcome.next hu, state, set, load, regsButAt_trans (regsButAt_of_regs hregs) regs,
      still.1.trans before.1, still.2.trans before.2⟩
  case load =>
    intro p f b i s hr hk ht hst h2 hw hh hs
    obtain ⟨hregs, hflt, before, -⟩ := heard_facts i s
    obtain ⟨state, load, trims, regs, flt, still⟩ := loadBegun_facts i (fieldAt b 2 8) (fieldAt b 14 4) (heard i s)
    have reads := pumps_pumpReads p (loadBegun i (fieldAt b 2 8) (fieldAt b 14 4) (heard i s))
    refine ⟨_, congrArg Host.Outcome.next ((identIn_of hr hk ht).trans (identTile_loads hst h2 hw hh hs)), (reads.fld ..).trans state,
      (reads.loads i).trans load, fun k hk => ?_, ?_, reads.flt.trans (flt.trans hflt),
      reads.pending.trans (still.1.trans before.1), reads.mem.trans (still.2.trans before.2)⟩
    · rw [reg_of_regs reads.regs, trims k hk]
      exact if_congr (by omega) rfl rfl
    · exact regsBut_trans (regsBut_of_regs hregs) (regsBut_trans regs (regsBut_of_regs reads.regs))
  case again =>
    intro p f b i s hr hk ht hst hw hh hs
    obtain ⟨hregs, hflt, before, -⟩ := heard_facts i s
    obtain ⟨x, hx⟩ := identTile_syncs (p := p) (len := fieldAt b 14 4) hst hw hh hs
    obtain ⟨state, -, regs, flt, still⟩ := tileToSync_facts i ((heard i s).setTile i x)
    exact ⟨_, congrArg Host.Outcome.next ((identIn_of hr hk ht).trans hx), state, regsButAt_trans (regsButAt_of_regs hregs) regs,
      flt.trans hflt, still.1.trans before.1, still.2.trans before.2⟩
  case differs =>
    intro p f b i s hr hk ht hd hst
    obtain ⟨hregs, -, before, -⟩ := heard_facts i s
    obtain ⟨state, -, set, regs, still⟩ := tileFaults_facts i (heard i s)
    exact ⟨_, congrArg Host.Outcome.next ((identIn_of hr hk ht).trans (identTile_fails hst hd)), state, set,
      regsButAt_trans (regsButAt_of_regs hregs) regs, still.1.trans before.1, still.2.trans before.2⟩
  case unmapped =>
    intro p f b s hr hk ht
    refine ⟨_, congrArg Host.Outcome.next (identIn_unmapped hr hk ht), isSet_raise_same _ (by decide), ?_, ?_,
      (onlyRegs_raise_iff _).2 ((onlyRegs_bump ..).2 rfl)⟩
    · exact (reg_of_regs (raise_regs ..) _ _).trans (reg_bump_same ..)
    · exact regsButAt_trans ((regsButAt_bump_iff (by decide)).2 regsButAt_refl) (regsButAt_of_regs (raise_regs ..))
  case body =>
    intro p f b i l r k s hr hkind ht hl hok hnext _ hfind hoff hend hlen hwf hk hapart
    obtain ⟨hregs, hflt, before, hload⟩ := heard_facts i s
    have len : ((b.drop 8).take r.len).length = r.len := by rw [List.length_take, List.length_drop]; omega
    have taken := iddataIn_of hr hkind ht
    rw [hload, hl] at taken
    dsimp only at taken
    rw [hfind] at taken
    dsimp only at taken
    generalize (b.drop 8).take r.len = bs at taken len ⊢
    rw [← len] at hend hapart ⊢
    obtain ⟨first, second, other, regs, flt, pending⟩ := recordBytes_stores (s := heard i s) (p := p) hok hnext hoff hend hwf hk hapart
    exact ⟨_, congrArg Host.Outcome.next taken, first, second, other, regs.trans hregs, flt.trans hflt, pending.trans before.1⟩
  case noLoad =>
    intro p f b i s hr hk ht hl
    obtain ⟨hregs, hflt, before, hload⟩ := heard_facts i s
    have taken := iddataIn_of hr hk ht
    rw [hload, hl] at taken
    exact ⟨_, congrArg Host.Outcome.next taken, hregs, hflt, before⟩
  case fails =>
    intro i tag l r s hl hf hr
    obtain ⟨hregs, before, -⟩ := unanswered_facts r s
    have fails := readTimesOut_fails hl hf hr
    rw [fld_of_regs hregs] at fails
    obtain ⟨state, load, set, regs, still⟩ := tileFaults_facts i ((unanswered r s).bump .WSCAN_IDREAD_FAIL_CNT 0)
    refine ⟨_, congrArg Host.Outcome.next fails, state, load, set, ?_, ?_, still.1.trans before.1, still.2.trans before.2⟩
    · rw [(regsBut_of_regsButAt regs) _ _ (by decide), reg_bump_same, reg_of_regs hregs]
    · refine regsBut_trans (regsBut_of_regs hregs) (regsBut_trans ?_ (regsBut_mono (by decide) (regsBut_of_regsButAt regs)))
      exact (regsBut_bump (by decide) ..).2 regsBut_refl
  case repeats =>
    intro i tag l r s hl hf hr
    obtain ⟨hregs, before, hsent⟩ := unanswered_facts r s
    obtain ⟨x, hx⟩ := readTimesOut_repeats hl hf hr
    obtain ⟨q, hq, regs, still⟩ := readRepeats ⟨x, rfl⟩ hsent hregs before
    exact ⟨_, q, congrArg Host.Outcome.next hx, hq, regs, still⟩
  case enum =>
    intro p s hl
    have sends := sends_sendTile p tileAll 3 s.wallFrameNo [0x03#8, 0x00#8] (clearSent s)
    refine ⟨_, (clearSent s).wscan.seq.get 0 p, congrArg Host.Outcome.next (if_pos hl), sendTile_sent_same .., sends.regs, sends.flt, sends.still⟩

end Sys2Proof.Machine
end

section
/-!
PROOFS. The compositor's settings, pipes, Safelight buffer and capture (R294, R295, R304, R307, R311, R313 to R315).
-/

namespace Sys2Proof.Machine

section
variable {s t : State} {v : Word} {q u e d : Nat}

/-! ### Pipes (R294, R295) -/

theorem writePipeCfg_takes (hu : F.WCOMP_PIPE_CFG_USER.of v ≠ 3)
    (hi : F.WCOMP_PIPE_CFG_USER.of v = 2 → F.WCOMP_PIPE_CFG_INDEX.of v ≤ 15)
    (hfree : ∀ d, pipeUserOf (F.WCOMP_PIPE_CFG_USER.of v) (F.WCOMP_PIPE_CFG_INDEX.of v) = some d → ∀ p, p < 16 → s.pipeUser p ≠ some d)
    (hbusy : s.pipeBusy q = false) : writePipeCfg q v s = plainWrite .WCOMP_PIPE_CFG q v s := by
  have index : (F.WCOMP_PIPE_CFG_USER.of v == 2 && decide (15 < F.WCOMP_PIPE_CFG_INDEX.of v)) = false := by
    rw [Bool.and_eq_false_iff]
    by_cases h2 : F.WCOMP_PIPE_CFG_USER.of v = 2
    · exact .inr (decide_eq_false (by have := hi h2; omega))
    · exact .inl (beq_false_of_ne h2)
  have taken : (match pipeUserOf (F.WCOMP_PIPE_CFG_USER.of v) (F.WCOMP_PIPE_CFG_INDEX.of v) with
      | none => false | some d => (List.range 16).any (fun p => s.pipeUser p == some d)) = false := by
    split
    · rfl
    next d hd => exact List.any_eq_false.2 fun p hp => by simpa using hfree d hd p (List.mem_range.mp hp)
  unfold writePipeCfg
  dsimp only
  rw [index, beq_false_of_ne hu, hbusy]
  exact (congrArg (fun b : Bool => guardedWrite (false || false || !(F.WCOMP_PIPE_CFG_USER.of v == s.fld F.WCOMP_PIPE_CFG_USER q
    && F.WCOMP_PIPE_CFG_INDEX.of v == s.fld F.WCOMP_PIPE_CFG_INDEX q) && (b || false)) .WCOMP_PIPE_CFG q v s) taken).trans
    (by rw [Bool.or_self, Bool.and_false]; rfl)

theorem writePipeCfg_rejects {p : Nat} (hd : pipeUserOf (F.WCOMP_PIPE_CFG_USER.of v) (F.WCOMP_PIPE_CFG_INDEX.of v) = some d) (hp : p < 16)
    (hpd : s.pipeUser p = some d) (hqd : s.pipeUser q ≠ some d) : writePipeCfg q v s = s.reject .WCOMP := by
  have other : (F.WCOMP_PIPE_CFG_USER.of v == s.fld F.WCOMP_PIPE_CFG_USER q
      && F.WCOMP_PIPE_CFG_INDEX.of v == s.fld F.WCOMP_PIPE_CFG_INDEX q) = false := by
    rw [Bool.and_eq_false_iff]
    by_contra hsame
    rw [not_or, Bool.not_eq_false, Bool.not_eq_false, beq_iff_eq, beq_iff_eq] at hsame
    exact hqd (by rw [State.pipeUser, ← hsame.1, ← hsame.2, hd])
  have taken : (List.range 16).any (fun p => s.pipeUser p == some d) = true :=
    List.any_eq_true.mpr ⟨p, List.mem_range.mpr hp, by simp [hpd]⟩
  unfold writePipeCfg
  dsimp only
  rw [other, hd]
  dsimp only
  rw [taken, Bool.not_false, Bool.true_or, Bool.and_true, Bool.or_true]
  rfl

theorem unitField_pipe (hu : u < 17) : unitField (36 + u) = (F.WCOMP_UNIT_STATE, u) := by
  have type : unitType (36 + u) = 2 := by
    simp only [unitType, show ¬ 36 + u < 18 by omega, show ¬ 36 + u < 36 by omega, show 36 + u < 53 by omega, if_true, if_false]
  simp only [unitField, type, Nat.add_sub_cancel_left]

/-- A unit that is parked: its state alone changes, beside what its run needs (R442). -/
theorem fld_parkUnit_pipe {f : Fld} {k : Nat} (hu : u < 17) (hf : fldApart F.WCOMP_UNIT_STATE f = true ∨ k ≠ u)
    (hr : f.reg ≠ .PWR_CAP_HOLD_CNT) (s : State) : (parkUnit (36 + u) s).fld f k = s.fld f k := by
  have asked : (parkUnit (36 + u) s).fld f k = (s.setUnit (36 + u) 1).fld f k :=
    (requestRun_frame (36 + u) false (s.setUnit (36 + u) 1)).1.fld (by simpa using hr) k
  rw [asked, State.setUnit, unitField_pipe hu]
  dsimp only
  rcases hf with hf | hk
  · exact fld_setFld_apart s (by decide) hf ..
  · exact fld_setFld_elem s _ hk

/-- A unit that reports an error (R295). -/
theorem pipeErrs_facts (hu : u < 17) (hup : s.unitState (36 + u) = 0) :
    (pipeErrs u s).unitState (36 + u) = 1 ∧ (pipeErrs u s).isSet Src.WCOMP_PIPE_ERR = true
    ∧ KeepsSet (replacePipe u s) (pipeErrs u s)
    ∧ (∀ f k, (fldApart F.WCOMP_UNIT_STATE f = true ∨ k ≠ u) → f.reg ≠ .PWR_CAP_HOLD_CNT → f.reg ≠ .WCOMP_PIPE_ERR_CNT →
        (pipeErrs u s).fld f k = (replacePipe u s).fld f k)
    ∧ (pipeErrs u s).reg .WCOMP_PIPE_ERR_CNT 0
      = BitVec.ofNat 32 (min (2 ^ 32 - 1) (((parkUnit (36 + u) (replacePipe u s)).reg .WCOMP_PIPE_ERR_CNT 0).toNat + 1))
    ∧ (pipeErrs u s).wcomp.out.head? = some (s.fld F.WCOMP_UNIT_SERVES u) ∧ still (parkUnit (36 + u) (replacePipe u s)) (pipeErrs u s) := by
  generalize hr : replacePipe u s = r
  have acts : pipeErrs u s = { ((parkUnit (36 + u) r).bump .WCOMP_PIPE_ERR_CNT 0).raise Src.WCOMP_PIPE_ERR with
      wcomp := { (((parkUnit (36 + u) r).bump .WCOMP_PIPE_ERR_CNT 0).raise Src.WCOMP_PIPE_ERR).wcomp with
        errUnit := u, out := s.fld F.WCOMP_UNIT_SERVES u ::
          (((parkUnit (36 + u) r).bump .WCOMP_PIPE_ERR_CNT 0).raise Src.WCOMP_PIPE_ERR).wcomp.out.filter (· != s.fld F.WCOMP_UNIT_SERVES u) } } := by
    rw [← hr]
    exact if_pos (.inl hup)
  have parked : (parkUnit (36 + u) r).unitState (36 + u) = 1 := by
    rw [parkUnit, unitState_requestRun, unitState_setUnit (by decide)]
  have fields (f : Fld) (k : Nat) (hf : fldApart F.WCOMP_UNIT_STATE f = true ∨ k ≠ u) (hp : f.reg ≠ .PWR_CAP_HOLD_CNT) :=
    fld_parkUnit_pipe (s := r) hu hf hp
  have sets := keepsSet_parkUnit (36 + u) r
  generalize parkUnit (36 + u) r = p at *
  have regs : (pipeErrs u s).regs = (p.bump .WCOMP_PIPE_ERR_CNT 0).regs := by
    rw [acts]
    exact raise_regs ..
  have flt : (pipeErrs u s).flt = ((p.bump .WCOMP_PIPE_ERR_CNT 0).raise Src.WCOMP_PIPE_ERR).flt := by rw [acts]
  refine ⟨?_, ?_, ?_, fun f k hf hp hc => ?_, ?_, by rw [acts]; rfl, ?_⟩
  · rw [unitState_of_regs regs, unitState_of_regsBut ((regsBut_bump (rs := [.WCOMP_PIPE_ERR_CNT]) (by decide) 0).2 regsBut_refl) (by decide)]
    exact parked
  · rw [isSet_of_flt flt]
    exact isSet_raise_same _ (by decide)
  · exact (((sets.bump ..).raise _).of_flt flt)
  · rw [fld_of_regs regs, fld_bump_apart _ _ _ hc, fields f k hf hp]
  · rw [reg_of_regs regs, reg_bump_same]
  · rw [acts]
    exact ⟨raise_pending .., raise_mem ..⟩

theorem still_parkUnit (e : Nat) (s : State) : still s (parkUnit e s) := by
  have only := (requestRun_frame e false (s.setUnit e 1)).2.2
  exact ⟨(congrArg State.pending only :), (congrArg State.mem only :)⟩

theorem replacePipe_none (h : s.spareFor (36 + u) = none) :
    replacePipe u s = (s.setFlag F.WCOMP_PIPE_STAT_NO_UNIT (s.fld F.WCOMP_UNIT_SERVES u) true).raise Src.WCOMP_NO_UNIT := by
  unfold replacePipe
  dsimp only
  rw [h]

theorem replacePipe_spare (h : s.spareFor (36 + u) = some (36 + e)) : replacePipe u s = givePipe (s.fld F.WCOMP_UNIT_SERVES u) e s := by
  unfold replacePipe
  dsimp only
  rw [h]
  dsimp only
  rw [Nat.add_sub_cancel_left]

theorem givePipe_facts (he : e < 17) (hq : q < 2 ^ F.WCOMP_UNIT_SERVES.len) (s : State) : (givePipe q e s).fld F.WCOMP_UNIT_STATE e = 0
    ∧ (givePipe q e s).fld F.WCOMP_UNIT_SERVES e = q ∧ (givePipe q e s).flag F.WCOMP_PIPE_STAT_NO_UNIT q = false := by
  unfold givePipe
  rw [State.setUnit, unitField_pipe he]
  dsimp only
  refine ⟨?_, ?_, flag_setFlag_same _ (by decide) rfl _ _⟩
  · rw [State.setFlag, fld_setFld_apart _ (by decide) (by decide), fld_setFld_apart _ (by decide) (by decide),
      fld_setFld_apart _ (by decide) (by decide), fld_setFld_same _ (by decide)]
    rfl
  · rw [State.setFlag, fld_setFld_apart _ (by decide) (by decide), fld_setFld_apart _ (by decide) (by decide), fld_setFld_same _ (by decide),
      Nat.mod_eq_of_lt hq]

/-- With no spare the pipe has no unit (R295). -/
theorem pipeErr_noSpare (hu : u < 17) (hup : s.unitState (36 + u) = 0) (hspare : s.spareFor (36 + u) = none) :
    (pipeErrs u s).unitState (36 + u) = 1 ∧ (pipeErrs u s).isSet Src.WCOMP_PIPE_ERR = true
    ∧ (pipeErrs u s).isSet Src.WCOMP_NO_UNIT = true
    ∧ (pipeErrs u s).flag F.WCOMP_PIPE_STAT_NO_UNIT (s.fld F.WCOMP_UNIT_SERVES u) = true
    ∧ (pipeErrs u s).wcomp.out.head? = some (s.fld F.WCOMP_UNIT_SERVES u)
    ∧ (pipeErrs u s).reg .WCOMP_PIPE_ERR_CNT 0 = BitVec.ofNat 32 (min (2 ^ 32 - 1) ((s.reg .WCOMP_PIPE_ERR_CNT 0).toNat + 1))
    ∧ still s (pipeErrs u s) := by
  obtain ⟨state, set, kept, fields, cnt, out, rest⟩ := pipeErrs_facts hu hup
  have parked := still_parkUnit (36 + u) (replacePipe u s)
  have count := regsBut_parkUnit (rs := .PWR_CAP_HOLD_CNT :: unitRegs) (List.Subset.refl _) (36 + u) (replacePipe u s)
  generalize parkUnit (36 + u) (replacePipe u s) = p at *
  rw [replacePipe_none hspare] at kept fields parked count
  refine ⟨state, set, kept.isSet _ (isSet_raise_same _ (by decide)), ?_, out, ?_, ?_⟩
  · rw [State.flag, fields _ _ (.inl (by decide)) (by decide) (by decide), fld_raise]
    exact flag_setFlag_same s (by decide) rfl _ _
  · rw [cnt, count _ _ (by decide), reg_of_regs (raise_regs ..), State.setFlag, reg_setFld_apart _ _ _ _ (by decide)]
  · exact ⟨rest.1.trans (parked.1.trans (raise_pending ..)), rest.2.trans (parked.2.trans (raise_mem ..))⟩

/-- A spare takes the failed unit's place (R295). -/
theorem pipeErr_spare (hu : u < 17) (hup : s.unitState (36 + u) = 0) (hspare : s.spareFor (36 + u) = some (36 + e)) (he : e < 17)
    (hne : e ≠ u) : (pipeErrs u s).unitState (36 + u) = 1 ∧ (pipeErrs u s).unitState (36 + e) = 0
    ∧ (pipeErrs u s).fld F.WCOMP_UNIT_SERVES e = s.fld F.WCOMP_UNIT_SERVES u
    ∧ (pipeErrs u s).flag F.WCOMP_PIPE_STAT_NO_UNIT (s.fld F.WCOMP_UNIT_SERVES u) = false
    ∧ (pipeErrs u s).isSet Src.WCOMP_PIPE_ERR = true ∧ still s (pipeErrs u s) := by
  obtain ⟨state, set, -, fields, -, -, rest⟩ := pipeErrs_facts hu hup
  obtain ⟨given, serves, served⟩ := givePipe_facts he (fld_lt s F.WCOMP_UNIT_SERVES u) s
  have parked := still_parkUnit (36 + u) (replacePipe u s)
  generalize parkUnit (36 + u) (replacePipe u s) = p at *
  rw [replacePipe_spare hspare] at fields parked
  refine ⟨state, ?_, ?_, ?_, set, rest.1.trans parked.1, rest.2.trans parked.2⟩
  · rw [State.unitState, unitField_pipe he]
    exact (fields F.WCOMP_UNIT_STATE e (.inr hne) (by decide) (by decide)).trans given
  · rw [fields _ _ (.inr hne) (by decide) (by decide), serves]
  · rw [State.flag, fields _ _ (.inl (by decide)) (by decide) (by decide)]
    exact served

/-! ### Starting (R304, R307) -/

theorem writeWallCfg_starts (hon : F.WCOMP_CFG_EN.of v = 1) (hoff : s.wallOn = false) (hlock : s.safeLocked = false)
    (hstart : s.wallMayStart (F.WCOMP_CFG_TD.of v) = true) : writeWallCfg v s = wallReserve (plainWrite .WCOMP_CFG 0 v s) := by
  unfold writeWallCfg
  simp only [hon, hoff, hlock, hstart, Bool.false_and, Bool.not_true, Bool.and_false, Bool.or_self, Bool.false_eq_true, if_false, if_true]

theorem writeWallCfg_rejects (hon : F.WCOMP_CFG_EN.of v = 1) (hoff : s.wallOn = false) (hstart : s.wallMayStart (F.WCOMP_CFG_TD.of v) = false) :
    writeWallCfg v s = s.reject .WCOMP := by
  unfold writeWallCfg
  simp only [hon, hoff, hstart, Bool.not_false, decide_true, Bool.and_self, Bool.or_true, if_true]

theorem wallMayStart_off {n : Nat} (h : s.tdEn n = false) : s.wallMayStart n = false := by
  have off : (s.setFld F.WCOMP_CFG_TD 0 n).tdEn n = s.tdEn n := flag_setFld_apart s (by decide) (by decide) ..
  unfold State.wallMayStart
  simp only [off, h, Bool.false_and]

theorem wallReserve_terms (h : s.wallOn = true) : (wallReserve s).xpt.hbm.get (0, 0) 2000 = (wallReserve s).wallTerms (wallReserve s).capPermitted := by
  rw [wallReserve, if_pos h]
  exact hbm_setHbm ..

/-! ### The Safelight buffer (R311, R313) -/

theorem slRange_buffer {a : Nat} (hlo : 0x03E0000000 ≤ a) (hhi : a < 0x0400000000) : slRange a = some 0 :=
  if_pos ⟨hlo, hhi⟩

theorem writeSafelight_stores {a : Nat} {bs : List Byte} (hlo : 0x03E0000000 ≤ a) (hend : a + bs.length ≤ 0x0400000000) (hpos : 0 < bs.length) :
    writeSafelight 5 a bs s = (s.store a bs).store (a + 0x0400000000) bs := by
  have all : bs.take (slBase false + 0x20000000 - a) = bs := List.take_of_length_le (by rw [slBase, if_neg (by decide)]; omega)
  unfold writeSafelight
  rw [slRange_buffer hlo (by omega)]
  dsimp only
  rw [if_pos ⟨rfl, rfl⟩, all]

theorem writeSafelight_denies {m a : Nat} (hm : m ≠ 5) (hlo : 0x03E0000000 ≤ a) (hhi : a < 0x0400000000) (bs : List Byte) :
    writeSafelight m a bs s = s.raise Src.WCOMP_SL_WRITE_DENY := by
  unfold writeSafelight
  rw [slRange_buffer hlo hhi]
  exact if_neg fun h => hm h.1

theorem writeSl_lock (v : Word) (s : State) : writeSl 5 .WCOMP_SL_LOCK 0 v s = plainWrite .WCOMP_SL_LOCK 0 v s := by
  unfold writeSl
  dsimp only
  rw [show (RegName.WCOMP_SL_LOCK != RegName.WCOMP_SL_LOCK) = false from by decide, Bool.and_false, Bool.false_and]
  rfl

/-- A write that sets LOCK leaves it set (R313). -/
theorem safeLocked_lock (v : Word) (s : State) : (plainWrite .WCOMP_SL_LOCK 0 (v ||| 1#32) s).safeLocked = true := by
  have mask : RegName.WCOMP_SL_LOCK.typeMask .w1s = 1#32 := by decide
  have bit (old : Word) : (RegName.WCOMP_SL_LOCK.written old (v ||| 1#32)).getLsbD 0 = true := by
    rw [RegName.written, mask]
    simp only [BitVec.getLsbD_or, BitVec.getLsbD_and, BitVec.getLsbD_one]
    simp
  rw [plainWrite_of_plain rfl, State.safeLocked, State.flag, fld_setReg_same s F.WCOMP_SL_LOCK_LOCK, Fld.of_bit0 rfl rfl, bit]
  rfl

theorem writeSl_refuses {m : Nat} (hm : m ≠ 5) (r : RegName) (hr : r.blk = .WCOMP) (i : Nat) (v : Word) (s : State) :
    writeSl m r i v s = s.reject .WCOMP := by
  have other : (m != 5) = true := bne_iff_ne.mpr hm
  unfold writeSl
  dsimp only
  rw [other, Bool.true_or, Bool.true_or, guardedWrite, if_pos rfl, hr]

/-! ### Capture (R314, R315) -/

theorem wallFrame_frame {n : Word} {f : WallFrame} (h : s.wallFrame n = some f) : f.frame = n := by
  unfold State.wallFrame at h
  split at h
  next c l hc =>
    split at h
    next hn => rwa [← Option.some.inj h]
    next hn =>
      obtain ⟨g, -, hg⟩ := Option.bind_eq_some_iff.mp h
      split at hg
      next hgn => rwa [← Option.some.inj hg]
      next => cases hg
  next => cases h

theorem captureEnds_done {n : Word} {f : WallFrame} (hc : s.wcomp.capFrame = some n) (hf : s.wallFrame n = some f)
    (hb : s.flag F.WCOMP_CAP_STAT_BUSY 0 = true) (hw : s.frameWhole f = true) : captureEnds s
      = { s.setFlds 0 [(F.WCOMP_CAP_STAT_BUSY, 0), (F.WCOMP_CAP_STAT_DONE, 1), (F.WCOMP_CAP_STAT_FRAME, f.frame.toNat)] with
          wcomp := { s.wcomp with capFrame := none } } := by
  unfold captureEnds
  rw [hc, Option.bind_some, hf]
  dsimp only
  rw [hb, hw]
  rfl

theorem captureDone_shown (n : Word) (s : State) :
    (s.setFlds 0 [(F.WCOMP_CAP_STAT_BUSY, 0), (F.WCOMP_CAP_STAT_DONE, 1), (F.WCOMP_CAP_STAT_FRAME, n.toNat)]).flag F.WCOMP_CAP_STAT_BUSY 0 = false
    ∧ (s.setFlds 0 [(F.WCOMP_CAP_STAT_BUSY, 0), (F.WCOMP_CAP_STAT_DONE, 1), (F.WCOMP_CAP_STAT_FRAME, n.toNat)]).flag F.WCOMP_CAP_STAT_DONE 0
      = true
    ∧ (s.setFlds 0 [(F.WCOMP_CAP_STAT_BUSY, 0), (F.WCOMP_CAP_STAT_DONE, 1), (F.WCOMP_CAP_STAT_FRAME, n.toNat)]).fld F.WCOMP_CAP_STAT_FRAME 0
      = n.toNat % 65536
    ∧ regsButAt [.WCOMP_CAP_STAT] 0 s
      (s.setFlds 0 [(F.WCOMP_CAP_STAT_BUSY, 0), (F.WCOMP_CAP_STAT_DONE, 1), (F.WCOMP_CAP_STAT_FRAME, n.toNat)])
    ∧ (s.setFlds 0 [(F.WCOMP_CAP_STAT_BUSY, 0), (F.WCOMP_CAP_STAT_DONE, 1), (F.WCOMP_CAP_STAT_FRAME, n.toNat)]).flt = s.flt
    ∧ still s (s.setFlds 0 [(F.WCOMP_CAP_STAT_BUSY, 0), (F.WCOMP_CAP_STAT_DONE, 1), (F.WCOMP_CAP_STAT_FRAME, n.toNat)]) := by
  refine ⟨?_, ?_, ?_, (regsButAt_setFlds _ (by simp)).2 regsButAt_refl, setFlds_flt .., rfl, rfl⟩
  · simp (disch := decide) only [State.flag, State.setFlds, fld_setFld_apart, fld_setFld_same]
    rfl
  · simp (disch := decide) only [State.flag, State.setFlds, fld_setFld_apart, fld_setFld_same]
    rfl
  · simp (disch := decide) only [State.setFlds, fld_setFld_same]
    rfl

/-- The state of a capture that stopped. -/
def captureStopped (s : State) : State :=
  (s.setFlds 0 [(F.WCOMP_CAP_STAT_BUSY, 0), (F.WCOMP_CAP_STAT_ABORTED, 1)]).raise Src.WCOMP_CAP_ABORT

theorem captureAborts_stops (hb : s.flag F.WCOMP_CAP_STAT_BUSY 0 = true) (hp : s.capPermitted = false) : captureAborts s
    = { captureStopped s with wcomp := { (captureStopped s).wcomp with capFrame := none } } := by
  unfold captureAborts
  rw [hb, hp]
  rfl

theorem captureAborted_shown (s : State) : (captureStopped s).flag F.WCOMP_CAP_STAT_BUSY 0 = false
    ∧ (captureStopped s).flag F.WCOMP_CAP_STAT_ABORTED 0 = true ∧ (captureStopped s).isSet Src.WCOMP_CAP_ABORT = true
    ∧ regsButAt [.WCOMP_CAP_STAT] 0 s (captureStopped s) ∧ still s (captureStopped s) := by
  have frame : regsButAt [.WCOMP_CAP_STAT] 0 s (s.setFlds 0 [(F.WCOMP_CAP_STAT_BUSY, 0), (F.WCOMP_CAP_STAT_ABORTED, 1)]) :=
    (regsButAt_setFlds _ (by simp)).2 regsButAt_refl
  refine ⟨?_, ?_, isSet_raise_same _ (by decide), regsButAt_trans frame (regsButAt_of_regs (raise_regs ..)), raise_pending .., raise_mem ..⟩
  · rw [captureStopped, flag_of_regs (raise_regs ..)]
    simp (disch := decide) only [State.flag, State.setFlds, fld_setFld_apart, fld_setFld_same]
    rfl
  · rw [captureStopped, flag_of_regs (raise_regs ..)]
    simp (disch := decide) only [State.flag, State.setFlds, fld_setFld_same]
    rfl

theorem writeCapCtl_starts (hgo : F.WCOMP_CAP_CTL_GO.of v = 1) (hon : s.wallOn = true) (hp : s.capPermitted = true)
    (hb : s.flag F.WCOMP_CAP_STAT_BUSY 0 = false) : writeCapCtl v s = s.setFlag F.WCOMP_CAP_STAT_BUSY 0 true := by
  unfold writeCapCtl
  rw [if_neg (by omega), hon, hp, hb]
  rfl

theorem writeCapCtl_rejects (hgo : F.WCOMP_CAP_CTL_GO.of v = 1) (hp : s.capPermitted = false) : writeCapCtl v s = s.reject .WCOMP := by
  unfold writeCapCtl
  rw [if_neg (by omega), hp, if_pos (by simp)]

end

end Sys2Proof.Machine
end

section
/-!
PROOFS. The bands of a wall frame (R308 to R310, R315, R326), and what a compositor does.
-/

namespace Sys2Proof.Machine

section
variable {s t u : State} {f : WallFrame} {b : Nat} {k : Option Nat}

/-- From `s` to `t` only memory differs. -/
def onlyMem (s t : State) : Prop := t = { s with mem := t.mem }

theorem onlyMem_refl (s : State) : onlyMem s s := rfl

theorem onlyMem.trans (h : onlyMem s t) (g : onlyMem t u) : onlyMem s u := by
  unfold onlyMem at h g ⊢
  rw [h] at g
  exact g

theorem onlyMem_store (a : Nat) (bs : List Byte) (s : State) : onlyMem s (s.store a bs) := rfl

theorem onlyMem_foldl {α : Type} {g : State → α → State} (h : ∀ a x, onlyMem a (g a x)) (l : List α) (s : State) : onlyMem s (l.foldl g s) :=
  foldl_rel onlyMem_refl onlyMem.trans h l s

/-! ### A run of stores -/

section
variable {α : Type} {at_ : α → Nat} {bytes : α → List Byte} {l : List α}

/-- The stores of some items, each at its address. -/
def storeAll (at_ : α → Nat) (bytes : α → List Byte) (l : List α) (s : State) : State := l.foldl (fun u x => u.store (at_ x) (bytes x)) s

theorem storeAll_wf (h : s.mem.wf = true) : (storeAll at_ bytes l s).mem.wf = true := by
  induction l generalizing s with
  | nil => exact h
  | cons x l ih => exact ih (s := s.store (at_ x) (bytes x)) (Memory.wf_writeBytes (at_ x) (bytes x) h)

theorem read_storeAll_outside (h : s.mem.wf = true) {c : Nat} (hc : ∀ x ∈ l, c < at_ x ∨ at_ x + (bytes x).length ≤ c) :
    (storeAll at_ bytes l s).mem.read c = s.mem.read c := by
  induction l generalizing s with
  | nil => rfl
  | cons x l ih =>
    refine (ih (s := s.store (at_ x) (bytes x)) (Memory.wf_writeBytes (at_ x) (bytes x) h) fun y hy => hc y (List.mem_cons_of_mem _ hy)).trans ?_
    exact Memory.read_writeBytes_outside (bytes x) h (hc x List.mem_cons_self)

/-- An item's bytes stand where no other item meets them. -/
theorem load_storeAll (h : s.mem.wf = true) {x : α} (hx : x ∈ l)
    (hapart : ∀ y ∈ l, y ≠ x → at_ x + (bytes x).length ≤ at_ y ∨ at_ y + (bytes y).length ≤ at_ x) :
    (storeAll at_ bytes l s).load (at_ x) (bytes x).length = bytes x := by
  induction l generalizing s with
  | nil => cases hx
  | cons y l ih =>
    have wf := Memory.wf_writeBytes (at_ y) (bytes y) h
    by_cases hm : x ∈ l
    · exact ih (s := s.store (at_ y) (bytes y)) wf hm fun z hz => hapart z (List.mem_cons_of_mem _ hz)
    · obtain rfl : x = y := (List.mem_cons.mp hx).resolve_right hm
      refine Eq.trans (Memory.readBytes_congr fun c hlo hhi => ?_) (Memory.readBytes_writeBytes (at_ x) (bytes x) h)
      refine read_storeAll_outside (s := s.store (at_ x) (bytes x)) wf fun z hz => ?_
      rcases hapart z (List.mem_cons_of_mem _ hz) fun he => hm (he ▸ hz) with hz | hz
      · exact .inl (by omega)
      · exact .inr (by omega)

end

/-! ### The lamps of a band (R320, R326) -/

/-- The lamps of the enabled tiles in a band: tile, row and column. -/
def State.bandLamps (s : State) (b : Nat) : List (Nat × Nat × Nat) :=
  (s.tilesOn.flatMap fun v => (List.range (s.tileH v)).flatMap fun j => (List.range (s.tileW v)).map fun i => (v, j, i)).filter
    fun x => (s.tileLamp x.1 x.2.2 x.2.1).2 / s.bandRows = b

/-- The index of a lamp in the tables and the scan store. -/
def State.lampIdx (s : State) (x : Nat × Nat × Nat) : Nat := s.fld F.WSCAN_TILE_LC_LCI x.1 + x.2.1 * s.tileW x.1 + x.2.2

/-- The bytes of a lamp in the scan store. -/
def State.lampBytes (s : State) (f : WallFrame) (b : Nat) (k : Option Nat) (x : Nat × Nat × Nat) : List Byte :=
  codeBytes (s.lampCodes x.1 (s.mem.readLe (s.lcAddr false (s.lampIdx x)) 16)
    (s.bandLamp [] f b k (s.tileLamp x.1 x.2.2 x.2.1).1 (s.tileLamp x.1 x.2.2 x.2.1).2))

theorem mem_bandLamps {v j i : Nat} : (v, j, i) ∈ s.bandLamps b ↔
    v ∈ s.tilesOn ∧ j < s.tileH v ∧ i < s.tileW v ∧ (s.tileLamp v i j).2 / s.bandRows = b := by
  simp only [State.bandLamps, List.mem_filter, List.mem_flatMap, List.mem_map, List.mem_range, Prod.mk.injEq, decide_eq_true_eq]
  constructor
  · rintro ⟨⟨_, hv, _, hj, _, hi, rfl, rfl, rfl⟩, hb⟩
    exact ⟨hv, hj, hi, hb⟩
  · rintro ⟨hv, hj, hi, hb⟩
    exact ⟨⟨v, hv, j, hj, i, hi, rfl, rfl, rfl⟩, hb⟩

theorem codeBytes_length (c : Nat × Nat × Nat) : (codeBytes c).length = 6 := by
  simp [codeBytes, beBytes, leBytes_length]

theorem scanLamp_eq (v j i : Nat) (u : State) : scanLamp s [] [] f b k v i j u
    = if (s.tileLamp v i j).2 / s.bandRows = b then u.store (s.scanAddr f.frame.toNat (s.lampIdx (v, j, i))) (s.lampBytes f b k (v, j, i)) else u := by
  by_cases h : (s.tileLamp v i j).2 / s.bandRows = b
  · rw [if_pos h]
    exact if_neg (not_not_intro h)
  · rw [if_neg h]
    exact if_pos h

theorem scanBand_stores (hon : s.scanOn = true) : scanBand [] [] f b k s
    = storeAll (fun x => s.scanAddr f.frame.toNat (s.lampIdx x)) (s.lampBytes f b k) (s.bandLamps b) s := by
  unfold scanBand storeAll State.bandLamps
  rw [hon, List.foldl_filter, List.foldl_flatMap]
  refine List.foldl_ext _ _ _ fun u v _ => ?_
  rw [List.foldl_flatMap]
  refine List.foldl_ext _ _ _ fun u j _ => ?_
  rw [List.foldl_map]
  refine List.foldl_ext _ _ _ fun u i _ => ?_
  simp only [scanLamp_eq, decide_eq_true_eq]

theorem onlyMem_scanBand (f : WallFrame) (b : Nat) (k : Option Nat) (s : State) : onlyMem s (scanBand [] [] f b k s) := by
  cases hon : s.scanOn with
  | false =>
    unfold scanBand
    rw [hon]
    exact onlyMem_refl s
  | true =>
    rw [scanBand_stores hon]
    exact onlyMem_foldl (fun _ _ => onlyMem_store ..) _ s

/-- A lamp's place within its tile's range. -/
theorem lampIdx_range {v j i : Nat} (hj : j < s.tileH v) (hi : i < s.tileW v) :
    s.fld F.WSCAN_TILE_LC_LCI v ≤ s.lampIdx (v, j, i) ∧ s.lampIdx (v, j, i) < s.fld F.WSCAN_TILE_LC_LCI v + s.tileW v * s.tileH v := by
  have rows : (j + 1) * s.tileW v ≤ s.tileH v * s.tileW v := Nat.mul_le_mul_right _ hj
  rw [Nat.add_mul, Nat.one_mul, Nat.mul_comm (s.tileH v)] at rows
  rw [State.lampIdx]
  dsimp only
  omega

/-- Where no tile's range meets another's, no two lamps share a place. -/
theorem lampIdx_inj {x y : Nat × Nat × Nat} (hclash : ∀ v, v ∈ s.tilesOn → s.lampsClash v = false) (hx : x ∈ s.bandLamps b)
    (hy : y ∈ s.bandLamps b) (h : s.lampIdx x = s.lampIdx y) : x = y := by
  obtain ⟨v, j, i⟩ := x
  obtain ⟨v', j', i'⟩ := y
  obtain ⟨hv, hj, hi, -⟩ := mem_bandLamps.mp hx
  obtain ⟨hv', hj', hi', -⟩ := mem_bandLamps.mp hy
  by_cases he : v' = v
  · subst he
    have place : j * s.tileW v' + i = j' * s.tileW v' + i' := by
      rw [State.lampIdx, State.lampIdx] at h
      dsimp only at h
      omega
    have row (m n : Nat) (hn : n < s.tileW v') : (m * s.tileW v' + n) / s.tileW v' = m := by
      rw [Nat.mul_comm, Nat.mul_add_div (by omega), Nat.div_eq_of_lt hn, Nat.add_zero]
    have rows : j = j' := by rw [← row j i hi, place, row j' i' hi']
    subst rows
    rw [Nat.add_left_cancel place]
  · have apart := hclash v hv
    rw [State.lampsClash, Bool.or_eq_false_iff] at apart
    have pair := List.any_eq_false.mp apart.2 v' hv'
    have range := lampIdx_range hj hi
    have range' := lampIdx_range hj' hi'
    simp only [bne_iff_ne, Bool.and_eq_true, decide_eq_true_eq] at pair
    omega

/-- A lamp of a band stands corrected in the scan store (R326). -/
theorem load_scanBand (hon : s.scanOn = true) (hwf : s.mem.wf = true) (hclash : ∀ v, v ∈ s.tilesOn → s.lampsClash v = false)
    {x : Nat × Nat × Nat} (hx : x ∈ s.bandLamps b) :
    (scanBand [] [] f b k s).load (s.scanAddr f.frame.toNat (s.lampIdx x)) 6 = s.lampBytes f b k x := by
  have len (y : Nat × Nat × Nat) : (s.lampBytes f b k y).length = 6 := codeBytes_length _
  have stands := load_storeAll (at_ := fun x => s.scanAddr f.frame.toNat (s.lampIdx x)) (bytes := s.lampBytes f b k) hwf hx fun y hy hne => by
    have idx : s.lampIdx y ≠ s.lampIdx x := fun h => hne (lampIdx_inj hclash hy hx h)
    rw [len, len, State.scanAddr, State.scanAddr]
    omega
  rwa [← scanBand_stores hon, len] at stands

theorem read_scanBand (hon : s.scanOn = true) (hwf : s.mem.wf = true) {c : Nat}
    (hc : ∀ x ∈ s.bandLamps b, c < s.scanAddr f.frame.toNat (s.lampIdx x) ∨ s.scanAddr f.frame.toNat (s.lampIdx x) + 6 ≤ c) :
    (scanBand [] [] f b k s).mem.read c = s.mem.read c := by
  rw [scanBand_stores hon]
  exact read_storeAll_outside hwf fun x hx => by
    rw [show (s.lampBytes f b k x).length = 6 from codeBytes_length _]
    exact hc x hx

theorem onlyMem_captureBand (f : WallFrame) (b : Nat) (k : Option Nat) (s : State) : onlyMem s (captureBand [] f b k s) := by
  unfold captureBand
  split
  · exact onlyMem_refl s
  · exact onlyMem_foldl (fun a _ => onlyMem_foldl (fun _ _ => onlyMem_store ..) _ a) _ s

theorem captureBand_off (h : s.wcomp.capFrame ≠ some f.frame) (b : Nat) (k : Option Nat) : captureBand [] f b k s = s := if_pos h

theorem countSkips_frame (f : WallFrame) (b : Nat) (s : State) :
    regsBut [.WCOMP_LAYER_SKIP] s (countSkips f b s) ∧ regsOnly s (countSkips f b s) :=
  foldl_rel (R := fun x y => regsBut [.WCOMP_LAYER_SKIP] x y ∧ regsOnly x y) (fun _ => ⟨regsBut_refl, rfl⟩)
    (fun h g => ⟨regsBut_trans h.1 g.1, h.2.trans g.2⟩) (fun a x => ⟨(regsBut_bump (by decide) _).2 regsBut_refl, rfl⟩) _ s

/-! ### A band finished (R308) -/

/-- A wall frame with one more band finished. -/
def WallFrame.finished (f : WallFrame) (b : Nat) (k : Option Nat) : WallFrame :=
  { f with done := b :: f.done, late := if k.isSome then b :: f.late else f.late }

/-- A band of a wall frame whose lamps stand, before a late one is counted. -/
def bandDone (f : WallFrame) (b : Nat) (k : Option Nat) (s : State) : State :=
  putWallFrame (f.finished b k) (countSkips f b (captureBand [] f b k (scanBand [] [] f b k s)))

theorem bandDone_facts {frame : Word} (hf : s.wallFrame frame = some f) (hframe : f.frame = frame) :
    (bandDone f b k s).wallFrame frame = some (f.finished b k)
    ∧ (bandDone f b k s).flt = s.flt ∧ regsBut [.WCOMP_LAYER_SKIP] s (bandDone f b k s) ∧ (bandDone f b k s).pending = s.pending
    ∧ (s.wcomp.capFrame ≠ some frame → (bandDone f b k s).mem = (scanBand [] [] f b k s).mem) := by
  have scanned := onlyMem_scanBand f b k s
  have captured := onlyMem_captureBand f b k (scanBand [] [] f b k s)
  obtain ⟨regs, only⟩ := countSkips_frame f b (captureBand [] f b k (scanBand [] [] f b k s))
  have off : s.wcomp.capFrame ≠ some frame → captureBand [] f b k (scanBand [] [] f b k s) = scanBand [] [] f b k s := fun h =>
    captureBand_off (by rw [scanned, hframe]; exact h) b k
  have mem := scanned.trans captured
  unfold bandDone
  generalize captureBand [] f b k (scanBand [] [] f b k s) = c at *
  generalize countSkips f b c = d at *
  have wcomp : d.wcomp = s.wcomp := (congrArg State.wcomp only).trans (congrArg State.wcomp mem :)
  refine ⟨?_, only.flt.trans (congrArg State.flt mem :), ?_, only.still.1.trans (congrArg State.pending mem :), fun h => ?_⟩
  · refine wallFrame_put hf hframe hframe ?_ ?_
    · rw [← wcomp]
      rfl
    · rw [← wcomp]
      rfl
  · exact regsBut_trans (regsBut_of_regs (congrArg State.regs mem :)) (regsBut_trans regs (regsBut_of_regs rfl))
  · exact only.still.2.trans (congrArg State.mem (off h))

theorem finishBand_none {frame : Word} (hf : s.wallFrame frame = some f) (hb : b < s.bands) (hd : f.done.contains b = false) :
    finishBand frame b none [] [] s = bandDone f b none s := by
  unfold finishBand
  rw [hf]
  dsimp only
  rw [hd, decide_eq_false (by omega)]
  rfl

theorem finishBand_some {frame : Word} (hf : s.wallFrame frame = some f) (hb : b < s.bands) (hd : f.done.contains b = false) (n : Nat) :
    finishBand frame b (some n) [] [] s = ((bandDone f b (some n) s).bump .WCOMP_LATE_CNT 0).raise Src.WCOMP_LATE := by
  unfold finishBand
  rw [hf]
  dsimp only
  rw [hd, decide_eq_false (by omega)]
  rfl

/-- Past the lamps composed in time a band has the background (R308). -/
theorem bandLamp_late {n x y : Nat} (h : n ≤ (y - b * s.bandRows) * s.canvasW + x) : s.bandLamp [] f b (some n) x y = f.back :=
  if_neg (by omega)

end

/-- A band composed. -/
theorem bandCompose_facts {frame : Word} {band : Nat} {f : WallFrame} {s : State} (hf : s.wallFrame frame = some f) (hb : band < s.bands)
    (hd : f.done.contains band = false) (hframe : f.frame = frame) :
    ∃ t g, exec (.bandCompose frame band [] []) s = .next t ∧ t.wallFrame frame = some g ∧ g.done = band :: f.done
      ∧ g.late = f.late ∧ t.flt = s.flt ∧ regsBut [.WCOMP_LAYER_SKIP] s t ∧ t.pending = s.pending
      ∧ (s.scanOn = false → s.wcomp.capFrame ≠ some frame → t.mem = s.mem)
      ∧ (s.scanOn = true → s.wcomp.capFrame ≠ some frame → s.mem.wf = true →
          (∀ u, u ∈ s.tilesOn → s.lampsClash u = false) →
          (∀ u, u ∈ s.tilesOn → ∀ i, i < s.tileW u → ∀ j, j < s.tileH u → (s.tileLamp u i j).2 / s.bandRows = band →
            t.load (s.scanAddr frame.toNat (s.fld F.WSCAN_TILE_LC_LCI u + j * s.tileW u + i)) 6 =
              codeBytes (s.lampCodes u
                (s.mem.readLe (s.lcAddr false (s.fld F.WSCAN_TILE_LC_LCI u + j * s.tileW u + i)) 16)
                (s.lampAt [] f (s.tileLamp u i j).1 (s.tileLamp u i j).2)))
          ∧ (∀ x, (∀ u, u ∈ s.tilesOn → ∀ i, i < s.tileW u → ∀ j, j < s.tileH u → (s.tileLamp u i j).2 / s.bandRows = band →
              x < s.scanAddr frame.toNat (s.fld F.WSCAN_TILE_LC_LCI u + j * s.tileW u + i)
                ∨ s.scanAddr frame.toNat (s.fld F.WSCAN_TILE_LC_LCI u + j * s.tileW u + i) + 6 ≤ x) →
            t.mem.read x = s.mem.read x)) := by
  obtain ⟨wall, flt, regs, pending, mem⟩ := bandDone_facts (b := band) (k := none) hf hframe
  refine ⟨_, f.finished band none, congrArg Host.Outcome.next (finishBand_none hf hb hd), wall, rfl, rfl, flt, regs, pending, fun hoff hcap => ?_,
    fun hon hcap hwf hclash => ⟨fun u hu i hi j hj hband => ?_, fun x hx => ?_⟩⟩
  · rw [mem hcap, scanBand, hoff]
    rfl
  · have stands := load_scanBand (f := f) (k := none) hon hwf hclash (x := (u, j, i)) (mem_bandLamps.mpr ⟨hu, hj, hi, hband⟩)
    rw [hframe] at stands
    exact (congrArg (fun m : Memory => m.readBytes _ 6) (mem hcap)).trans stands
  · rw [mem hcap]
    refine read_scanBand hon hwf fun y hy => ?_
    obtain ⟨v, j, i⟩ := y
    obtain ⟨hv, hj, hi, hband⟩ := mem_bandLamps.mp hy
    rw [hframe]
    exact hx v hv i hi j hj hband

/-- A band that is late. -/
theorem late_facts {frame : Word} {band : Nat} {f : WallFrame} {s : State} (hf : s.wallFrame frame = some f) (hb : band < s.bands)
    (hd : f.done.contains band = false) (hframe : f.frame = frame) (k : Nat) :
    ∃ t g, exec (.late frame band k) s = .next t ∧ t.wallFrame frame = some g ∧ g.done = band :: f.done
      ∧ g.late = band :: f.late ∧ t.isSet Src.WCOMP_LATE = true
      ∧ t.reg .WCOMP_LATE_CNT 0 = BitVec.ofNat 32 (min (2 ^ 32 - 1) ((s.reg .WCOMP_LATE_CNT 0).toNat + 1))
      ∧ regsBut [.WCOMP_LAYER_SKIP, .WCOMP_LATE_CNT] s t ∧ t.pending = s.pending
      ∧ (s.scanOn = true → s.wcomp.capFrame ≠ some frame → s.mem.wf = true →
          (∀ u, u ∈ s.tilesOn → s.lampsClash u = false) →
          ∀ u, u ∈ s.tilesOn → ∀ i, i < s.tileW u → ∀ j, j < s.tileH u → (s.tileLamp u i j).2 / s.bandRows = band →
            k ≤ ((s.tileLamp u i j).2 - band * s.bandRows) * s.canvasW + (s.tileLamp u i j).1 →
            t.load (s.scanAddr frame.toNat (s.fld F.WSCAN_TILE_LC_LCI u + j * s.tileW u + i)) 6 =
              codeBytes (s.lampCodes u
                (s.mem.readLe (s.lcAddr false (s.fld F.WSCAN_TILE_LC_LCI u + j * s.tileW u + i)) 16) f.back)) := by
  obtain ⟨wall, flt, regs, pending, mem⟩ := bandDone_facts (b := band) (k := some k) hf hframe
  have counted := finishBand_some hf hb hd k
  have standing : s.scanOn = true → s.mem.wf = true → (∀ u, u ∈ s.tilesOn → s.lampsClash u = false) → ∀ x ∈ s.bandLamps band,
      (scanBand [] [] f band (some k) s).load (s.scanAddr frame.toNat (s.lampIdx x)) 6 = s.lampBytes f band (some k) x :=
    fun hon hwf hclash x hx => hframe ▸ load_scanBand hon hwf hclash hx
  generalize bandDone f band (some k) s = d at *
  refine ⟨_, f.finished band (some k), congrArg Host.Outcome.next counted, ?_, rfl, rfl, isSet_raise_same _ (by decide), ?_, ?_, (raise_pending ..).trans pending,
    fun hon hcap hwf hclash u hu i hi j hj hband hk => ?_⟩
  · rw [State.wallFrame, raise_wcomp]
    exact wall
  · rw [reg_of_regs (raise_regs ..), reg_bump_same, regs _ _ (by decide)]
  · rw [regsBut_raise, regsBut_bump (by decide)]
    exact regsBut_mono (by decide) regs
  · rw [State.load, raise_mem]
    refine ((congrArg (fun m : Memory => m.readBytes _ 6) (mem hcap)).trans
      (standing hon hwf hclash (u, j, i) (mem_bandLamps.mpr ⟨hu, hj, hi, hband⟩))).trans ?_
    rw [State.lampBytes, bandLamp_late hk]
    rfl

theorem or_one_user (v : Word) : F.WCOMP_CFG_EN.of (v ||| 1#32) = 1 ∧ F.WCOMP_CFG_TD.of (v ||| 1#32) = F.WCOMP_CFG_TD.of v :=
  ⟨Fld.of_or_bit rfl (by decide) v, Fld.of_or_one (by decide) v⟩

/-- A compositor that starts (R304, R307). -/
theorem compositorEnable_facts {v : Word} {s : State} (hoff : s.wallOn = false) (hlock : s.safeLocked = false)
    (hstart : s.wallMayStart (F.WCOMP_CFG_TD.of v) = true) :
    ∃ t, exec (.compositorEnable v) s = .next t ∧ t.wallOn = true ∧ t.wallTd = F.WCOMP_CFG_TD.of v
      ∧ t.xpt.hbm.get (0, 0) 2000 = t.wallTerms t.capPermitted ∧ regsButAt [.WCOMP_CFG] 0 s t ∧ t.flt = s.flt ∧ still s t := by
  obtain ⟨hon, htd⟩ := or_one_user v
  have starts := writeWallCfg_starts hon hoff hlock (htd ▸ hstart)
  have on : (plainWrite .WCOMP_CFG 0 (v ||| 1#32) s).wallOn = true := by
    rw [State.wallOn, State.flag, fld_plainWrite (f := F.WCOMP_CFG_EN) rfl (by decide), hon]
    rfl
  have td : (plainWrite .WCOMP_CFG 0 (v ||| 1#32) s).wallTd = F.WCOMP_CFG_TD.of v :=
    (fld_plainWrite (f := F.WCOMP_CFG_TD) rfl (by decide) 0 _ s).trans htd
  have frame : regsButAt [.WCOMP_CFG] 0 s (plainWrite .WCOMP_CFG 0 (v ||| 1#32) s) :=
    (regsButAt_plainWrite rfl (by decide) 0 _).2 regsButAt_refl
  have flt := plainWrite_flt .WCOMP_CFG 0 (v ||| 1#32) s
  have calm : still s (plainWrite .WCOMP_CFG 0 (v ||| 1#32) s) := ⟨plainWrite_pending .., plainWrite_mem ..⟩
  generalize plainWrite .WCOMP_CFG 0 (v ||| 1#32) s = p at *
  have terms := wallReserve_terms on
  obtain ⟨x, hx⟩ := wallReserve_only p
  refine ⟨_, congrArg Host.Outcome.next starts, ?_, ?_, terms, ?_, ?_, ?_⟩
  · rw [hx]
    exact on
  · rw [hx]
    exact td
  · rw [hx]
    exact frame
  · rw [hx]
    exact flt
  · rw [hx]
    exact calm

/-- Settles O46: each command is one of the cases of its function; a band is a run of stores, of which no two meet. -/
theorem compositorComposesCapturesAndProtects : Obligations.CompositorComposesCapturesAndProtects := by
  refine ⟨?takes, ?inUse, ?noSpare, ?spare, fun v s hoff hlock hstart => compositorEnable_facts hoff hlock hstart, ?rejected, ?stored, ?denied,
    ?locks, ?refused, ?capture, ?noCapture, ?captured, ?aborted, fun frame band k f s hf hb hd hframe =>
      ⟨bandCompose_facts hf hb hd hframe, late_facts hf hb hd hframe k⟩⟩
  case takes =>
    intro q v s hu hi hfree hbusy
    exact ⟨_, congrArg Host.Outcome.next (writePipeCfg_takes hu hi hfree hbusy),
      fld_plainWrite (f := F.WCOMP_PIPE_CFG_USER) rfl (by decide) q v s, fld_plainWrite (f := F.WCOMP_PIPE_CFG_INDEX) rfl (by decide) q v s,
      (regsButAt_plainWrite rfl (by decide) _ v).2 regsButAt_refl, plainWrite_flt .., plainWrite_pending .., plainWrite_mem ..⟩
  case inUse =>
    intro q v s d p hd _ hpd hqd
    exact ⟨_, congrArg Host.Outcome.next (writePipeCfg_rejects hd p.isLt hpd hqd), reject_regs .., isSet_reject .., onlyRegs_reject ..⟩
  case noSpare =>
    intro u s hup hspare
    obtain ⟨state, err, none, flag, out, cnt, kept⟩ := pipeErr_noSpare u.isLt hup hspare
    exact ⟨_, rfl, state, err, none, flag, out, cnt, kept⟩
  case spare =>
    intro u e s hup hspare he hne
    obtain ⟨state, given, serves, flag, err, kept⟩ := pipeErr_spare u.isLt hup hspare he hne
    exact ⟨_, rfl, state, given, serves, flag, err, kept⟩
  case rejected =>
    intro v s hoff hen
    obtain ⟨hon, htd⟩ := or_one_user v
    exact ⟨_, congrArg Host.Outcome.next (writeWallCfg_rejects hon hoff (wallMayStart_off (by rw [htd]; exact hen))), reject_regs ..,
      isSet_reject .., onlyRegs_reject ..⟩
  case stored =>
    intro a bs s hwf hlo hend hpos
    obtain ⟨first, second, other⟩ := load_store_twice (s := s) (bs := bs) (x := a) (y := a + 0x0400000000) hwf (.inl (by omega))
    exact ⟨_, congrArg Host.Outcome.next (writeSafelight_stores hlo hend hpos), first, second, other, rfl, rfl, rfl⟩
  case denied =>
    intro m a bs s hm hlo hhi
    have other : (m : Nat) ≠ 5 := fun h => hm (Fin.ext h)
    exact ⟨_, congrArg Host.Outcome.next (writeSafelight_denies other hlo hhi bs), raise_regs .., isSet_raise_same _ (by decide),
      (onlyRegs_raise_iff _).2 rfl⟩
  case locks =>
    intro v s
    exact ⟨_, congrArg Host.Outcome.next ((if_neg fun h => absurd h.1 (by decide)).trans (writeSl_lock _ s)), safeLocked_lock v s,
      (regsButAt_plainWrite rfl (by decide) 0 _).2 regsButAt_refl, plainWrite_flt .., plainWrite_pending .., plainWrite_mem ..⟩
  case refused =>
    intro m v s h5 h7
    have not5 : (m : Nat) ≠ 5 := fun h => h5 (Fin.ext h)
    have not7 : (m : Nat) ≠ 7 := fun h => h7 (Fin.ext h)
    exact ⟨_, congrArg Host.Outcome.next ((if_neg fun h => not7 h.1).trans (writeSl_refuses not5 _ rfl 0 _ s)), reject_regs .., isSet_reject ..,
      onlyRegs_reject ..⟩
  case capture =>
    intro v s hon hp hb
    exact ⟨_, congrArg Host.Outcome.next (writeCapCtl_starts (Fld.of_or_bit rfl (by decide) v) hon hp hb),
      flag_setFlag_same s (by decide) rfl _ _, (regsButAt_setFlag (by decide) true).2 regsButAt_refl, rfl, rfl, rfl⟩
  case noCapture =>
    intro v s hp
    exact ⟨_, congrArg Host.Outcome.next (writeCapCtl_rejects (Fld.of_or_bit rfl (by decide) v) hp), reject_regs .., isSet_reject ..,
      onlyRegs_reject ..⟩
  case captured =>
    intro n f s hc hf hb hw
    have ends := captureEnds_done hc hf hb hw
    rw [wallFrame_frame hf] at ends
    obtain ⟨busy, done, number, regs, kept⟩ := captureDone_shown n s
    exact ⟨_, congrArg Host.Outcome.next ends, busy, done, number, rfl, regs, kept⟩
  case aborted =>
    intro s hb hp
    obtain ⟨busy, aborted, set, regs, kept⟩ := captureAborted_shown s
    exact ⟨_, congrArg Host.Outcome.next (captureAborts_stops hb hp), busy, aborted, set, rfl, regs, kept⟩

end Sys2Proof.Machine
end
